-- ==== Sys2Proof/Word.lean ====
section
/-! DEFINITION. The plain value types of the BX1200 model: register words, bytes, register fields, sparse tables
(lists of key and value pairs in one canonical form), and the index types of the numbered objects of the spec. -/

namespace Sys2Proof

/-- A 32-bit register word (R21, Table 0.6). -/
abbrev Word := BitVec 32

/-- One byte of an addressed memory, a buffer or a message. -/
abbrev Byte := BitVec 8

/-- A sparse table: key and value pairs, keys strictly rising, no value equal to the default of its key. -/
abbrev Tab (α : Type) := List (Nat × α)

/-- A register field: its lowest bit and its width in bits. -/
structure Fld where
  lo : Nat
  len : Nat
  deriving DecidableEq, Repr

/-- Access types of registers (Table 0.6). -/
inductive Access where
  | rw | ro | wo | w1c | rc | rwl | hold
  deriving DecidableEq, Repr

/-- Reset domains of registers (Table 20.5); `none` for WO registers, which belong to no domain. -/
inductive Domain where
  | aon | por | strap | fuse | dev | warm | ctl | data | mgmt | host | hold | bank | live | none
  deriving DecidableEq, Repr

/-- How the commit group of a HOLD register follows from its index (Table 20.4). -/
inductive GroupRule where
  | none            -- not a HOLD register
  | fixed (g : Nat) -- one group for every index
  | channel         -- group n of channel n
  | partition       -- group 8 + p of partition p
  | phase           -- the group of the channel to which the phase's quad belongs
  deriving DecidableEq, Repr

/-- One register family of the register tables: its offset, its index dimensions (count and stride), its access,
reset domain, commit group, reset value and implemented bits. -/
structure RegFamily where
  base : Nat
  n1 : Nat
  s1 : Nat
  n2 : Nat
  s2 : Nat
  access : Access
  domain : Domain
  group : GroupRule
  reset : Nat
  mask : Nat
  deriving DecidableEq, Repr

/-- Rail channel or channel index A–H (0–7). -/
abbrev ChIx := Fin 8
/-- Phase index 0–63. -/
abbrev PhIx := Fin 64
/-- Quad index 0–15. -/
abbrev QuadIx := Fin 16
/-- Die index 0–3. -/
abbrev DieIx := Fin 4
/-- Site index within a die, 0–63. -/
abbrev SiteIx := Fin 64
/-- Partition index 0–31. -/
abbrev PartIx := Fin 32
/-- Franking queue index 0–63. -/
abbrev QueueIx := Fin 64
/-- Serial lane index 0–9 (0–5 Tvedrek ports, 6–9 board segment). -/
abbrev LaneIx := Fin 10
/-- General core index 0–7. -/
abbrev CoreIx := Fin 8
/-- Host ring index 0–63. -/
abbrev RingIx := Fin 64

end Sys2Proof
end

