-- ==== Sys2Proof/Types.lean ====
section
/-! DEFINITION. The named kinds of the BX1200: device states, planes, initiators, channel and phase states, servo
states, recorder entries, and the other closed sets of names that both the commands and the state use. -/

namespace Sys2Proof

/-- Device states (Table 0.3). -/
inductive DevState where
  | off | decaf | loaded | ramp | run | halt | brownout
  deriving DecidableEq, Repr

/-- The three planes (ch. 1). -/
inductive Plane where
  | control | data | mgmt
  deriving DecidableEq, Repr

/-- Who makes an access to Window 0: a host function, a general core, the security core or the SMBus target
(the initiator classes of R916 and R921). -/
inductive Initiator where
  | host (fn : Fin 64)
  | core (n : CoreIx)
  | sec
  | smbus
  deriving DecidableEq, Repr

/-- The two supplies of the ladder. -/
inductive Supply where
  | vin | vaux
  deriving DecidableEq, Repr

/-- The three run supplies (Table 3.2). -/
inductive RunSupply where
  | vdd | vdda18 | vddsd
  deriving DecidableEq, Repr

/-- What held power-on reset before its release (Table 3.6). -/
inductive PorCause where
  | vauxRise | pin | runSupply
  deriving DecidableEq, Repr

/-- Channel states (Table 6.3). -/
inductive ChState where
  | off | soft | settle | reg | discharge | latched
  deriving DecidableEq, Repr

/-- Drip-mode states (Table 6.4); `run` is the state outside Drip mode. -/
inductive DripState where
  | run | burst | sleep
  deriving DecidableEq, Repr

/-- Levels of a PWM output (R39, ch. 6). -/
inductive PwmLevel where
  | hiz | mid | low | high
  deriving DecidableEq, Repr

/-- Servo states (Table 2.5). -/
inductive Servo where
  | free | master | acquire | locked | holdover
  deriving DecidableEq, Repr

/-- Source of CLK_FW (R134, R965). -/
inductive FwClock where
  | pll | backup | none
  deriving DecidableEq, Repr

/-- The clocks a monitor can find failed on the CLK_FW side (R134). -/
inductive FwClockFault where
  | xtal | pllFw
  deriving DecidableEq, Repr

/-- One entry of the event recorder (Table 18.2); SEQ is given by the arbiter. -/
structure Entry where
  seq : Nat := 0
  cls : Nat := 0
  typ : Nat := 0
  flags : Nat := 0
  unit : Nat := 0
  arg : Nat := 0
  value : Nat := 0
  value2 : Nat := 0
  deriving DecidableEq, Repr

/-- A C0 cell (Table 12.4): its type 1–4, scope 0–3, node and 36-bit payload. -/
structure Cell where
  ctype : Nat
  scope : Nat
  node : Nat
  payload : Nat
  deriving DecidableEq, Repr

/-- A frame body: the header of Table 12.6 and the payload after it. -/
structure Frame where
  cls : Nat
  scope : Nat
  dest : Nat
  src : Nat
  typ : Nat
  epoch : Nat
  oseq : Nat
  ttl : Nat
  body : List Byte
  deriving DecidableEq, Repr

/-- How a fetch of an image or token ends (R215, R239): the bytes read from host memory, an error (an Unsupported Request, a Completer
Abort, poison or a timeout), or Bus Master Enable found at 0. A source in the device's own memory reads that memory. -/
inductive Fetched where
  | data (b : List Byte)
  | error
  | noMaster
  deriving DecidableEq, Repr

/-- A host access through Window 2 (R766, R767): the bytes of a write, `none` where the byte is not enabled, or the length of a read; a read may
find a double-bit error at a byte of its range (R798). -/
inductive WinIo where
  | write (data : List (Option Byte))
  | read (n : Nat)
  | readUe (n bad : Nat)
  deriving DecidableEq, Repr

/-- The bytes that a Window 2 access spans. -/
def WinIo.len : WinIo → Nat
  | .write d => d.length
  | .read n => n
  | .readUe n _ => n

/-- How a DMA write to host memory goes (R810): sent, sent poisoned since the source word at an address reads with a double-bit error, or
not done since the owner's Bus Master Enable is 0 or it ends in an error. -/
inductive DmaOut where
  | sent
  | poisoned (addr : Word)
  | failed
  deriving DecidableEq, Repr

/-- The AMO operations of the A extension (R683, R704). -/
inductive AmoOp where
  | swap | add | xor | and | or | min | max | minu | maxu
  deriving DecidableEq, Repr

/-- A source of a thermal trip (R357). -/
inductive TripSource where
  | pin                 -- THERMTRIP_IN_N
  | wire (die : DieIx)  -- a die's trip wire
  | report              -- a Postbox temperature report above CRIT
  deriving DecidableEq, Repr

/-- An item that an internal crossing loses (Table 17.3). -/
inductive CrossLost where
  | commitStaging (off : BitVec 22)      -- a commit request or HOLD staging; the register it concerns
  | timeRead
  | postline (die : DieIx) (lane : Fin 2)
  | frame (lane : LaneIx) (cls : Fin 4) (lseq : Fin 4096)
  | cell (lane : LaneIx) (c : Cell)
  | hostWrite
  | recorder (plane : Plane)
  | aonEvent
  deriving DecidableEq, Repr

/-- SPDM errors that the responder answers (R882–R887, R908). -/
inductive SpdmErr where
  | invalidRequest | unexpectedRequest | busy | unspecified | unsupportedRequest
  | refused                -- a negotiation that R884 refuses
  deriving DecidableEq, Repr

/-- SPDM responses, by what R883–R886 say they carry. -/
inductive SpdmResp where
  | version (v : Nat)                                             -- 0x12: version 1.2 only
  | capabilities (cert chal measSig : Bool) (ctExponent : Nat)
  | algorithms                                                    -- P-384, SHA-384, SHA-384, DMTF
  | digests (slot0 : List Byte)
  | certificate (portion : List Byte)
  | challengeAuth (summary sig : List Byte)
  | measurements (blocks : List (Nat × List Byte)) (sig : List Byte)   -- index and value; no signature where none was asked for
  | error (e : SpdmErr)
  deriving DecidableEq, Repr

/-- The access that an instruction stepped by debug makes, if any (R900). -/
inductive StepAct where
  | other
  | load (addr : BitVec 32) (n : Fin 3)                -- 2ⁿ bytes
  | store (addr : BitVec 32) (n : Fin 3) (data : BitVec 32)
  deriving DecidableEq, Repr

/-- What the bus controller does with a PMBus command (Table 19.3): a read, or a write (or send byte) with its data bytes and, where it
sent one, whether its PEC is right (R863). -/
inductive PmIo where
  | read
  | write (data : List Byte) (pec : Option Bool)
  deriving DecidableEq, Repr

end Sys2Proof
end

