-- ==== Sys2Proof/Syntax.lean ====
section
/-! DEFINITION. The commands of the BX1200: one constructor per row of the opcode table, with the operands that the row needs. A row that
tells of an event (a tick, an arrival, the end of a delay) is that event; its operands carry what the outside or the clock brings. -/

namespace Sys2Proof

/-- One command. -/
inductive Instr where
  /-- R73: A write to a register that has no row of its own is judged against the plane window and gates, then applied by its access type. -/
  | registerWrite (who : Initiator) (word : BitVec 20) (val : Word)
  /-- R24: A narrow or unaligned host access to Window 0 completes as Unsupported Request with no register changed. -/
  | hostUnalignedAccess (fn : Fin 64) (off : BitVec 22) (write : Bool)
  /-- R25: A read of the low half of a wide value captures the high half for that initiator class. -/
  | wideLowRead (who : Initiator) (word : BitVec 20)
  /-- R26: A write of the high half of a wide value applies the whole value with the pending low part. -/
  | wideHighWrite (who : Initiator) (word : BitVec 20) (val : Word)
  /-- R74: A read of an RC field returns its value and clears it. -/
  | rcRead (who : Initiator) (word : BitVec 20)
  /-- R144: Power-on reset is released 2.0 ms after VAUX and every run supply are good; straps are sampled and the time base starts. -/
  | porRelease (ovc cpos : Fin 4) (smba : Fin 8) (test refclk : Bool)
  /-- R145: PORST_N held low for 1 us asserts power-on reset. -/
  | porstAssert
  /-- R38: The power-on sequence completes and the device enters DECAF and starts the store scan. -/
  | powerOnSequenceDone (secOk idOk : Bool)
  /-- R146: A run supply below its good level for 2 us disables every stage and takes the device to OFF. -/
  | runSupplyLoss (which : RunSupply)
  /-- R147: VAUX falling below 2.70 V takes the device to OFF with the 3.3 V pads at high impedance. -/
  | vauxHoldLoss
  /-- R152: In DECAF a primary sense pair above the strap ceiling crowbars all 64 phases and enters HALT. -/
  | decafOvervoltage (chan : ChIx) (mv : Nat)
  /-- R171: VIN above warning plus hysteresis for 10 ms sets VIN_ARMED. -/
  | vinArmed (mv : Nat)
  /-- R914: A TOP_COMMIT_CTL write with GO expands the mask, snapshots, judges and commits at once or stages a tick commit. -/
  | commitRequest (who : Initiator) (tick : Bool) (ce : Nat) (ue : List (BitVec 22))
  /-- R55: A TOP_COMMIT_CTL write with CANCEL discards pending tick commits and partial images that meet the expanded mask. -/
  | commitCancel (who : Initiator)
  /-- R49: A pending tick commit takes effect when the control view reaches its tick. -/
  | tickCommit
  /-- R63: At an epoch commit tick the banks are swapped if the pending bank is sealed and valid, otherwise the epoch is stale. -/
  | budgetEpochTick
  /-- R65: Eight consecutive stale epochs limit every partition to its FLOOR. -/
  | staleEpochFloors
  /-- R62: A DOM_BT_SEAL write of bit 0 sets LOCAL_SEALED in the pending bank. -/
  | localSealed (who : Initiator)
  /-- R70: A plane produces a record into its staging queue, or drops it and counts when full. -/
  | recordProduce (plane : Plane) (e : Entry)
  /-- R68: The arbiter takes one staged entry in rotation and assigns its sequence number. -/
  | arbiterGrant
  /-- R71: When a queue that dropped records has room, a loss record is placed ahead of the next record. -/
  | lossRecord (plane : Plane)
  /-- R87: A single-bit error in an active copy is corrected and counted. -/
  | activeCopySbe (off : Nat)
  /-- R90: A double-bit error in an active copy shuts a channel, floors a partition or enters HALT by group. -/
  | activeCopyDbe (off : Nat)
  /-- R110: A capture unit's source fires and the unit stamps it or sets OVERRUN. -/
  | captureEvent (src : Fin 32) (falling : Bool) (ns : Fin 10) (inStep : Bool)
  /-- R112: The time base crosses a multiple of the PPS period and TBPPS_OUT pulses. -/
  | ppsPulse
  /-- R609: Each exchange interval a node sends SYNC on each tree edge below it. -/
  | syncInterval
  /-- R609: A child receives SYNC and answers with SYNC_RESP carrying t2 and t3. -/
  | sync (lane : LaneIx) (xid t1 t2 : Nat)
  /-- R609: A parent receives SYNC_RESP and sends SYNC_FIN with t4. -/
  | syncResp (lane : LaneIx) (xid t4 : Nat)
  /-- R610: A child receives SYNC_FIN and the servo computes offset and delay and updates or steps. -/
  | syncFin (lane : LaneIx) (xid t4 : Nat)
  /-- R115: Four missed exchange intervals put the servo in HOLDOVER. -/
  | holdoverEntry
  /-- R116: HOLDOVER lasting its limit clears ALIGNED and sets LOST_ALIGN. -/
  | holdoverLimit
  /-- R138: RATE at its limit for 16 exchanges sets RATE_LIMIT and clears ALIGNED. -/
  | rateLimit
  /-- R132: No REFCLK edge for 200 ns drives PWM to MID, sets REFCLK_LOSS and enters HALT. -/
  | refclkLoss
  /-- R132: PLL_CTL losing lock drives PWM to MID and enters HALT. -/
  | pllCtlUnlock
  /-- R133: REFCLK resumes, the count continues from its last value and DISCONT is set. -/
  | refclkResume
  /-- R964: REFCLK has shown edges for 10 us and REFCLK_OK returns to 1. -/
  | refclkOkRestored
  /-- R964: PLL_CTL relocks and PLL_CTL_LOCK returns to 1. -/
  | pllCtlRelock
  /-- R134: Crystal or PLL_FW failure moves CLK_FW to the REFCLK backup. -/
  | xtalFail (what : FwClockFault)
  /-- R965: CLK_FW resumes on whichever source regains first after having none. -/
  | clkFwSourceRestored (pll : Bool)
  /-- R135: A write of CLK_FW_RETURN.GO moves CLK_FW back to PLL_FW when permitted. -/
  | clkFwReturn (who : Initiator) (ok : Bool)
  /-- R136: CLK_AON measured outside 80-120 MHz sets AON_FAULT and enters HALT. -/
  | aonFault (khz : Nat)
  /-- R137: Loss of PCIE_REFCLK takes the PCI Express link down. -/
  | pcieRefclkLoss
  /-- R158: TOP_RST_CTL LEVEL 1 starts a device reset after ordered discharge. -/
  | deviceReset (who : Initiator) (key : Byte)
  /-- R158: TOP_RST_CTL LEVEL 2 starts a warm reset after ordered discharge. -/
  | warmReset (who : Initiator) (key : Byte)
  /-- R159: TOP_RST_CTL LEVEL 3 resets the control plane in DECAF or LOADED. -/
  | controlPlaneReset (who : Initiator) (key : Byte)
  /-- R157: TOP_RST_CTL LEVEL 4 resets the data plane. -/
  | dataPlaneReset (who : Initiator) (key : Byte)
  /-- R160: TOP_RST_CTL LEVEL 5 requests a management-plane reset. -/
  | managementPlaneReset (who : Initiator) (key : Byte)
  /-- R160: A management-plane reset takes effect once the flash operation or live update in progress ends. -/
  | mgmtResetTakeEffect
  /-- R185: A device reset ends and the device enters DECAF or HALT. -/
  | deviceResetEnd (secOk idOk : Bool)
  /-- R179: A warm reset ends and the device enters LOADED or HALT. -/
  | warmResetEnd
  /-- R158: The image's discharge limit expires, remaining phases go to MID and SEN low. -/
  | dischargeLimitExpiry
  /-- R161: PCIE_PERST_N resets the PCI Express core, stops host rings and clears OWNER. -/
  | pciePerst
  /-- R963: A PCI Express hot reset stops the host rings and clears OWNER. -/
  | hotReset
  /-- R795: A function-level reset stops that function's rings. -/
  | flr (fn : Fin 64)
  /-- R164: TOP_START with GO runs the start checks and starts channels in stage order. -/
  | startRequest (who : Initiator)
  /-- R168: TOP_START with STOP discharges every switching channel and returns to LOADED. -/
  | stopRequest (who : Initiator)
  /-- R209: A start stage's delay expires and its enabled rails begin soft start together. -/
  | startStage
  /-- R316: The 2 us MID hold ends after sense and comparator checks and V_ref begins ramping. -/
  | softStartHoldEnd (rail : ChIx) (senseMv : Nat) (priOpen altOpen cmpOk : Bool)
  /-- R317: V_ref reaches the setpoint and the rail enters SETTLE. -/
  | setpointReached (rail : ChIx)
  /-- R317: The target stays within PG_WIN for PG_SETTLE and the rail enters REG. -/
  | channelInRegulation (rail : ChIx)
  /-- R191: A rail not in regulation within SS_LIMIT is treated as an overload shutdown. -/
  | softStartTimeout (rail : ChIx)
  /-- R318: A window break in REG sets PG_EXCURSION and counts it. -/
  | pgExcursion (rail : ChIx)
  /-- R319: A discharging rail's sense falls below 50 mV, it goes OFF and discharge moves to the next rail. -/
  | dischargeRailDone (rail : ChIx) (mv : Nat)
  /-- R370: A supply below its reset threshold for RST_FILT enters BROWNOUT and starts discharge and tail copy. -/
  | brownoutEntry (sup : Supply) (mv : Nat)
  /-- R371: A supply returns above reset before RST_FILT and a glitch is counted. -/
  | resetThresholdGlitch (sup : Supply) (mv : Nat)
  /-- R373: Every cause and VAUX above warning plus hysteresis for 10 ms leaves BROWNOUT. -/
  | brownoutExit (vin vaux : Nat) (secOk idOk : Bool)
  /-- R162: An image load held before NVS_READY begins when the scan finishes. -/
  | heldLoadBegin (full : Bool)
  /-- R214: SEC_IMG_CTL GO starts a Fibigen image load with the early checks and fetch. -/
  | imageLoadGo (who : Initiator) (full : Bool)
  /-- R237: SEC_IMG_CTL ABORT abandons a load in progress or pending. -/
  | imageLoadAbort (who : Initiator)
  /-- R239: The image fetch completes or fails and header checks run. -/
  | imageFetchDone (got : Fetched)
  /-- R217: Signature, frame, content and limit checks complete and the image is applied, held pending or refused. -/
  | imageVerifyDone (shadowBad : Option (Fin 248))
  /-- R225: A pending partial image is applied when the time base reaches APPLY_TICK. -/
  | partialImageTick
  /-- R223: REFILL finishes copying applied frames to the shadow bank and scrubbing resumes. -/
  | refillDone
  /-- R231: Every 40 us the scrubber compares one active and shadow slot and acts on a difference. -/
  | scrubSlot (activeUpsets shadowUpsets : List (Fin 272 × Byte))
  /-- R241: A double-bit error in the frame digest table makes its slots uncorrectable. -/
  | frameDigestDbe (slot : Fin 248)
  /-- R261: A fast-lane sample latches sources, evaluates fast tiles by level and latches sinks. Phase currents are (V_IMON − V_IREF) ÷ G. -/
  | fastSample (vals : List (Fin 144 × Int))
  /-- R265: A 1 MS/s sample evaluates that lane's tiles in ORDER and latches its sinks. -/
  | ms1Sample (temps : List (PhIx × Int))
  /-- R264: A 10 kHz sample evaluates that lane's tiles and latches its sinks. -/
  | khz10Sample
  /-- R281: A tile-state parity error clears the tile state and is counted and recorded. -/
  | fabricParityError (tile : Fin 128)
  /-- R282: A receive slot missing 3 samples delivers its fallback value. -/
  | xslotFallback (slot : Fin 32)
  /-- R283: Lane alignment beyond 40 ns treats every receive slot as missing. -/
  | xdevSyncErr
  /-- R616: A received XSLOT block delivers transmit-slot values to the paired receive slots. -/
  | xslot (lane : LaneIx) (j : Fin 16) (v0 v1 : Int)
  /-- R293: A rail oscillator period starts and the interleave schedule applies. -/
  | periodStart (rail : ChIx)
  /-- R296: An active phase turns HIGH at its slot edge for the duty on-time. -/
  | phaseSlotEdge (ph : PhIx)
  /-- R299: Phase current below -16 A during LOW drives the phase to MID for the period. `amps` is (V_IMON − V_IREF) ÷ G. -/
  | negativeCurrentLimit (ph : PhIx) (amps : Int)
  /-- R347: Phase current above IPK while HIGH ends the on-time and is counted. `amps` is (V_IMON − V_IREF) ÷ G. -/
  | peakLimit (ph : PhIx) (amps : Int)
  /-- R348: SHORT_CNT consecutive peak-limited periods latch a phase short on the rail. -/
  | phaseShort (ph : PhIx)
  /-- R303: Every 1 us each active phase's balance trim is updated. `means` are the 1 us means of (V_IMON − V_IREF) ÷ G. -/
  | balanceUpdate (rail : ChIx) (means : List (PhIx × Int))
  /-- R305: Per-phase current above ADD_THR for ADD_DWELL samples adds phases. -/
  | phaseAdd (rail : ChIx)
  /-- R306: Per-phase current below SHED_THR for SHED_DWELL period starts sheds one phase. -/
  | phaseShed (rail : ChIx)
  /-- R315: Pairs differing by 50 mV for 1 us switch the loop to the pair nearer target. -/
  | senseSwitch (chan : ChIx) (pri alt : Nat)
  /-- R302: TMON at or above 1.45 V for 1 us is a stage fault of the phase. -/
  | stageFaultTmon (ph : PhIx) (mv : Nat)
  /-- R940: SFLT_N_q low for 1 us applies stage faults to the quad's phases, or records it while SEN is low. -/
  | stageFaultInput (quad : QuadIx) (hot : Fin 16)
  /-- R940: An assertion that began in the SEN window is judged when the window ends. -/
  | sfltWindowEnd (quad : QuadIx) (low : Bool) (hot : Fin 16)
  /-- R337: A cleared stage fault with TMON low for 1 ms returns the phase. -/
  | phaseReturn (ph : PhIx)
  /-- R341: IMON outside 0.1-1.3 V for 1 us sets IMON_RANGE. -/
  | imonRange (ph : PhIx) (mv : Nat)
  /-- R321: Rail current below ENTRY_I for ENTRY_T enters Drip mode. -/
  | dripEntry (rail : ChIx)
  /-- R321: In BURST the sense reaching the upper band puts the Drip phase to MID. -/
  | dripSleep (rail : ChIx) (mv : Nat)
  /-- R323: In SLEEP the sense reaching the lower band resumes the burst. -/
  | dripWake (rail : ChIx) (mv : Nat)
  /-- R322: BURST_MAX periods without the upper edge return to all phases. -/
  | dripBurstExit (rail : ChIx)
  /-- R339: No current report from a widened-rail member for 3 samples removes its phases. -/
  | memberLoss (rail : ChIx) (pos : Fin 4)
  /-- R340: A member without duty words for 3 samples drives its widened phases to MID. -/
  | dutyWordLoss (chan : ChIx)
  /-- R613: A member receives a FAST DUTY block and applies duty and phase count 24 ns after the master. -/
  | fastDuty (chan : ChIx) (duty : Fin 262144) (n : Fin 128) (boost regok : Bool)
  /-- R325: A master receives a member's current report for the rail current. -/
  | fastIrep (chan : ChIx) (pos : Fin 4) (amps : Int)
  /-- R615: A member aligns its slow-lane sample starts to a FAST block from position 0. -/
  | fastSync (fs : Fin 50) (ms : Fin 100)
  /-- R414: A member receives a boost start block and boosts its phases. -/
  | boostStartBlock (lane : LaneIx) (rail : ChIx)
  /-- R414: A member receives a boost end block and ends the boost. -/
  | boostEndBlock (lane : LaneIx) (rail : ChIx)
  /-- R350: Every 10 us the averaged rail current is compared with OL_LIMIT to throttle or release. -/
  | overloadCompare (rail : ChIx)
  /-- R352: Overload held for OL_TIME latches an overload shutdown of the rail. -/
  | overloadShutdown (rail : ChIx)
  /-- R354: A sense pair above the OV limit or strap ceiling for 20 ns latches the crowbar. -/
  | overvoltageCrowbar (chan : ChIx) (mv : Nat)
  /-- R357: A trip input, trip wire or report above CRIT latches a thermal trip and drives outputs to MID. -/
  | thermalTrip (src : TripSource) (t : Int)
  /-- R360: PH_T above STAGE_TLIM for 10 us is a stage fault with STAGE_OT. -/
  | stageOverTemperature (ph : PhIx) (t : Int)
  /-- R366: A supply below warning for WARN_FILT sets WARN and applies shed and ballast release. -/
  | supplyWarning (sup : Supply) (mv ago : Nat)
  /-- R369: A supply above warning plus hysteresis for WARN_HOLD clears WARN and lifts actions. -/
  | warningClear (sup : Supply) (mv : Nat)
  /-- R374: VIN above HI for 1 us sets VIN_HI and is reported. -/
  | vinHighAlarm (mv : Nat)
  /-- R374: VIN at or below HI less hysteresis for 1 us clears VIN_HI. -/
  | vinHiClear (mv : Nat)
  /-- R377: VHOLD below 4.0 V during a tail commit stops programming. -/
  | vholdExhausted (mv done : Nat)
  /-- R388: VHOLD_OK clearing in LOADED, RAMP or RUN sets VHOLD_LOW. -/
  | vholdLow (mv : Nat)
  /-- R379: A clearing write to a PROT latch bit clears it if its condition is met, else CLR_REFUSED. -/
  | protLatchClear (who : Initiator) (therm : Bool) (val : Word) (pairs : List (ChIx × Nat)) (tripIn : Bool)
  /-- R403: A site's shadow sweep refreshes its calibration table every 1 ms. -/
  | siteCalSweep (die : DieIx) (site : SiteIx) (agrees : Bool)
  /-- R406: An armed site's supply crossing below V_thr asserts DRP and stretches its clock. -/
  | siteDroopCrossing (die : DieIx) (site : SiteIx) (v : Nat)
  /-- R407: A site's supply above V_thr plus HYST releases DRP and begins the stretch hold. -/
  | siteDrpRelease (die : DieIx) (site : SiteIx) (v : Nat)
  /-- R417: A site's stretch ends and it sends VMIN. -/
  | siteStretchEnd (die : DieIx) (site : SiteIx)
  /-- R434: A site at its trip level asserts TRP_N. -/
  | siteTrip (die : DieIx) (site : SiteIx) (t : Int)
  /-- R409: A rail's droop flag rises, starting a boost, a freeze and a droop entry. -/
  | droopFlagRise (die : DieIx)
  /-- R411: A boost ends after BOOST_T or early release and phases resume their slots. -/
  | boostEnd (rail : ChIx) (early : Bool)
  /-- R413: The boost gap ends and a new flag rise may boost again. -/
  | boostGapEnd (rail : ChIx)
  /-- R418: SETTLE after flag and boost end ends the freeze and deferred steps continue. -/
  | freezeEnd (rail : ChIx)
  /-- R445: A droop wire asserted for STUCK stops boosting and freezing on it. -/
  | droopStuck (die : DieIx)
  /-- R415: A PB_MIN_ARM write re-arms channel or site minimum captures. -/
  | pbMinArm (who : Initiator) (val : Word)
  /-- R447: A die's Postline trains, latencies are measured and CFGs are sent. -/
  | postlineTrainingDone (die : DieIx) (lDown lUp : Fin 4096)
  /-- R440: Lost lock, bad symbols or CRC errors declare an up-lane failure and fallback. -/
  | upLaneFailure (die : DieIx) (lock : Bool)
  /-- R444: Every 10 ms a die in fallback is retrained. -/
  | fallbackRetrain (die : DieIx)
  /-- R425: Every 1 us the BX1200 sends TSYNC. -/
  | tsyncSend
  /-- R425: The port cell loads its die time from TSYNC. -/
  | tsync (die : DieIx) (t : BitVec 32)
  /-- R441: The port cell loses lock or TSYNC for 4 us and enters fallback. -/
  | downLaneFailure (die : DieIx) (lane : Option (Fin 2))
  /-- R526: An INTENT message is queued, answered at once if light, or cancelled if invalid. -/
  | intent (die : DieIx) (seq : Fin 64) (queue : QueueIx) (cls : Fin 16) (part : PartIx) (tag : Fin 4096) (dur : Fin 2048)
  /-- R551: A COMM_BEGIN hint schedules ballast for named partitions at its lead. -/
  | commBegin (die : DieIx) (seq : Fin 64) (queue : QueueIx) (all : Bool) (part : PartIx) (lead : Fin 4096)
  /-- R552: A COMM_END hint is counted and recorded. -/
  | commEnd (die : DieIx) (seq : Fin 64) (queue : QueueIx)
  /-- R429: A FACK confirms a partition's new N. -/
  | fack (die : DieIx) (seq : Fin 64) (part : PartIx) (n : Fin 2048) (stamp : BitVec 24)
  /-- R416: A VMIN message updates a site's minimum and its stamp. -/
  | vmin (die : DieIx) (seq : Fin 64) (site : SiteIx) (v : BitVec 16) (stamp : BitVec 24)
  /-- R423: A CFG_ACK status ends the resend of its CFG. -/
  | cfgAck (die : DieIx) (seq : Fin 64) (index : Fin 256) (addr : Fin 64)
  /-- R481: A site reports its core domain off. -/
  | coreOff (die : DieIx) (seq : Fin 64) (site : SiteIx)
  /-- R405: A site reports its core domain on. -/
  | coreOn (die : DieIx) (seq : Fin 64) (site : SiteIx)
  /-- R403: A site reports its calibration table in use. -/
  | calOk (die : DieIx) (seq : Fin 64) (site : SiteIx)
  /-- R446: A site reports calibration failure and the BX1200 records it. -/
  | calFail (die : DieIx) (seq : Fin 64) (site : SiteIx)
  /-- R446: A site reports a fault and the BX1200 records it. -/
  | siteFault (die : DieIx) (seq : Fin 64) (site : SiteIx)
  /-- R441: The port cell reports down-lane loss and the die is in fallback. -/
  | downLoss (die : DieIx)
  /-- R453: A VREP report updates site voltage and feeds estimator samples. -/
  | vrep (die : DieIx) (site : SiteIx) (v : BitVec 16) (stamp : BitVec 24)
  /-- R498: A TEMP report updates temperatures, the thermal guard and the over-CRIT check. -/
  | temp (die : DieIx) (site : SiteIx) (t : BitVec 16) (stamp : BitVec 24)
  /-- R424: A CPM report updates a site's critical-path margin. -/
  | cpm (die : DieIx) (site : SiteIx) (m : BitVec 16) (stamp : BitVec 24)
  /-- R510: A STRETCH report accrues DROOP_STRETCH and stretch lost cycles. -/
  | stretch (die : DieIx) (site : SiteIx) (extra : BitVec 20) (events : BitVec 12)
  /-- R559: A BALE report adds ballast energy to the partition's counter. -/
  | bale (die : DieIx) (site : SiteIx) (e : BitVec 40)
  /-- R398: The port cell switches a partition divider to N and answers with FACK. -/
  | freq (die : DieIx) (part : PartIx) (n : Fin 2048)
  /-- R551: The port cell sets a partition's ballast level. -/
  | bal (die : DieIx) (part : PartIx) (level : Fin 256)
  /-- R419: The port cell applies a CFG register write, or a frank, and acknowledges it. -/
  | cfg (die : DieIx) (index : Fin 256) (addr : Fin 64) (value : BitVec 24)
  /-- R405: The port cell arms its sites' droop detectors. -/
  | arm (die : DieIx)
  /-- R405: The port cell disarms its sites' droop detectors. -/
  | disarm (die : DieIx)
  /-- R420: The port cell resends up-lane-0 messages from the named SEQ. -/
  | nak (die : DieIx) (seq : Fin 64)
  /-- R442: MODE FALLBACK puts the port cell in fallback. -/
  | fallback (die : DieIx)
  /-- R444: MODE RESUME ends fallback at the port cell. -/
  | resume (die : DieIx)
  /-- R424: The port cell sends lane-1 reports at the configured intervals. -/
  | reportInterval (die : DieIx) (site : SiteIx) (kind : Fin 5) (data : BitVec 40)
  /-- R523: The port cell accepts an INT_DATA word and sends it as INTENT or HINT. -/
  | intDataWord (die : DieIx) (queue : QueueIx) (typ : Fin 4) (data : BitVec 40)
  /-- R422: No FACK within 1 us resends FREQ, up to 3 times then FACK_TIMEOUT. -/
  | freqResend (part : PartIx)
  /-- R423: An unacknowledged CFG is sent again. -/
  | cfgResend (die : DieIx) (index : Fin 256) (addr : Fin 64)
  /-- R491: Every 1 us each partition's divider target is computed and reasons accrue. -/
  | targetEvaluation
  /-- R428: An upward FREQ step is sent after FSTEP_T and the previous FACK. -/
  | freqStepSend (part : PartIx)
  /-- R430: The first FREQ of a tick commit is sent to reach the port cell at T minus DIV_DLY. -/
  | tickFreqSend (part : PartIx)
  /-- R496: Every 1 ms n_pow of each partition is updated. -/
  | powerLoopUpdate
  /-- R497: Every 100 ms n_th of each partition is updated. -/
  | thermalLoopUpdate
  /-- R498: Every site 5 C below the guard level for 1 ms lifts the guard. -/
  | thermalGuardRelease (part : PartIx)
  /-- R503: An element of an envelope pinned for CONT_T raises a contention event. -/
  | contention (inst : Fin 96)
  /-- R512: CAP_SNAP_CTL GO copies a partition's accounting into a slot, optionally clearing. -/
  | snapshot (who : Initiator) (slot : Fin 4) (val : Word)
  /-- R452: A dither chip boundary changes V_dither of each rail in REG. -/
  | ditherChip
  /-- R457: Every 100 ms the estimator closes a block and computes estimates, confidence and crack events. -/
  | estimatorRefresh
  /-- R475: No confident refresh for NCR_T sets NCR and freezes the reference. -/
  | ncrEnter (region : Fin 128)
  /-- R468: A capture not done within 10 x CAP_T fails. -/
  | captureTimeout
  /-- R461: Every CAL_INT one phase is read in place or removed for calibration. -/
  | calibrationVisit (rail : ChIx)
  /-- R463: A removal's reading completes and the phase offset moves toward it. -/
  | calibrationReading (rail : ChIx) (z : Int) (flat : Bool)
  /-- R533: An armed heavy intent passes every gate and is granted. -/
  | heavyGrant
  /-- R531: A heavy frank arrives at the port cell, its partition's ballast goes to 0. -/
  | heavyLaunch (queue : QueueIx)
  /-- R530: The port cell presents a frank with the expected FSEQ on its frank port. -/
  | frank (die : DieIx) (queue : QueueIx) (value : BitVec 24)
  /-- R532: An FQ_GRANT write arms the head intent of a queue. -/
  | fqGrant (who : Initiator) (val : Word)
  /-- R548: A scheduler heartbeat write, leaving fixed-rate mode when permitted. -/
  | fqSchedHb (who : Initiator) (val : Word)
  /-- R546: No heartbeat for SCHED_TO enters fixed-rate mode. -/
  | schedTimeout
  /-- R547: In fixed-rate mode a queue's heavy head is armed after FRINT_q. -/
  | fixedRateArm (queue : QueueIx)
  /-- R537: Every 1 us the ramp ceiling and floor are updated. -/
  | rampUpdate
  /-- R543: An intent waiting DEADLINE is forced under a franking ceiling. -/
  | deadlineExpiry (queue : QueueIx)
  /-- R544: A forced frank's franking ceiling lapses. -/
  | frankCeilingEnd (part : PartIx)
  /-- R553: Every 10 us the ballast loop updates partition levels. -/
  | ballastUpdate
  /-- R565: No BALE report for 4 intervals sets BALE_GAP. -/
  | baleGap (die : DieIx) (site : SiteIx)
  /-- R576: A lane in DETECT sees signal for 10 us and enters EQ. -/
  | laneSignalDetect (lane : LaneIx)
  /-- R576: A lane finishes equalisation and enters LOCK. -/
  | laneEqDone (lane : LaneIx)
  /-- R576: A lane sees 64 valid headers and enters IDENT. -/
  | laneLock (lane : LaneIx)
  /-- R577: A lane accepts the partner's TRAIN blocks, measures latency and enters UP, or WAIT on mismatch. -/
  | laneIdentDone (lane : LaneIx) (role node peerLane cpos_ tag lat : Nat)
  /-- R576: A lane not UP within 10 ms goes to WAIT. -/
  | laneTrainTimeout (lane : LaneIx)
  /-- R622: A lane's WAIT ends and it returns to DETECT. -/
  | laneWaitEnd (lane : LaneIx)
  /-- R579: 16 bad headers of 64 take a lane from UP to WAIT. -/
  | laneLockLoss (lane : LaneIx) (clkLost : Bool)
  /-- R575: A block with a bad header, CRC-8 or BTYPE is discarded and counted. -/
  | invalidBlock (lane : LaneIx) (crc8 : Bool)
  /-- R593: A CREDIT block restores transmit credits of each class. -/
  | credit (lane : LaneIx) (c0 : Fin 8) (c1 c2 c3 : Fin 256)
  /-- R592: An ACK releases acknowledged frames from the replay buffer. -/
  | linkAck (lane : LaneIx) (cls : Fin 4) (lseq : Fin 4096)
  /-- R592: A NAK resends frames from the named LSEQ. -/
  | linkNak (lane : LaneIx) (cls : Fin 4) (lseq : Fin 4096)
  /-- R575: An ABORT block discards the frame in progress without a NAK. -/
  | abortBlock (lane : LaneIx)
  /-- R587: A whole frame is checked and forwarded, delivered, acknowledged or dead-lettered. -/
  | frameReceive (lane : LaneIx) (lseq : Fin 4096) (crcOk : Bool) (f : Frame)
  /-- R592: No ACK within REPLAY_TO resends from the oldest unacknowledged frame. -/
  | replayTimeout (lane : LaneIx) (cls : Fin 4)
  /-- R594: A frame waiting CRED_TO without credits is dead-lettered. -/
  | creditTimeout (lane : Option LaneIx) (cls : Fin 4)
  /-- R595: At each block boundary a transmitter sends the first ready block by rank. -/
  | laneTransmitSlot (lane : LaneIx)
  /-- R666: A HOLD cell stops upward FREQ for the group's partitions for DUR. -/
  | hold (lane : LaneIx) (scope : Fin 4) (node : Fin 1024) (payload : BitVec 36) (ok : Bool)
  /-- R666: A HOLD duration ends and upward steps resume. -/
  | holdExpiry (group : Fin 64)
  /-- R663: A GTHROT cell stages a domain commit lowering the group ceiling. -/
  | gthrot (lane : LaneIx) (scope : Fin 4) (node : Fin 1024) (payload : BitVec 36) (ok : Bool)
  /-- R667: A TRIP cell writes a trip entry and requests the domain interrupt. -/
  | trip (lane : LaneIx) (scope : Fin 4) (node : Fin 1024) (payload : BitVec 36) (ok : Bool)
  /-- R668: A DROOP cell freezes the member's partitions on the widened rail. -/
  | droop (lane : LaneIx) (scope : Fin 4) (node : Fin 1024) (payload : BitVec 36) (ok : Bool)
  /-- R668: SETTLE after the last DROOP cell ends the member's freeze. -/
  | droopCellFreezeEnd (rail : ChIx)
  /-- R603: A REDUCE frame opens or joins a reduction, which is combined and sent up. -/
  | reduce (src : Option LaneIx) (rid : Fin (2 ^ 32)) (op : Fin 4) (part : Bool) (contrib : Nat) (elems : List Int)
  /-- R605: RTO after opening, a reduction is sent with PARTIAL set. -/
  | reductionTimeout (rid : Fin (2 ^ 32))
  /-- R816: An OPERAND frame is placed in the delivery queue for firmware. -/
  | operand (lane : LaneIx) (lseq : Fin 4096) (f : Frame)
  /-- R816: An IMAGE_SEG frame is placed in the delivery queue for firmware. -/
  | imageSeg (lane : LaneIx) (lseq : Fin 4096) (f : Frame)
  /-- R816: A REC_GATHER frame is handled by firmware to send or collect records. -/
  | recGather (lane : LaneIx) (lseq : Fin 4096) (f : Frame)
  /-- R788: A BULK fragment is reassembled and completes a waiting BULK_RECV. -/
  | bulk (src : Fin 1024) (channel msg : BitVec 16) (off total : Nat) (data : List Byte) (out : DmaOut)
  /-- R788: A message unclaimed or incomplete for 10 ms is discarded. -/
  | bulkTimeout (src : Fin 1024) (channel msg : BitVec 16)
  /-- R600: A read of TVL_DLQ_W3_q removes the head dead-letter entry. -/
  | dlqPop (who : Initiator) (q : Fin 8)
  /-- R629: 300 us of CLAIM without another HEARTBEAT makes the node MASTER with epoch 1. -/
  | claimExpiry
  /-- R630: At each heartbeat instant a master sends HEARTBEAT when its conditions hold. -/
  | heartbeatInstant
  /-- R631: A heartbeat instant plus HB_LATE without HEARTBEAT counts as missed; 3 set MASTER_LOST. -/
  | heartbeatMissed
  /-- R635: A HEARTBEAT is accepted, a higher epoch is adopted and MASTER_LOST cleared. -/
  | heartbeat (lane : LaneIx) (src : Fin 1024) (epoch : Fin (2 ^ 32)) (standby mgen mem : Fin 65536)
  /-- R643: At T_E minus DEMAND_AT each node contributes its demand to the reductions. -/
  | demandReductionStart
  /-- R645: Firmware-provided: at T_E minus ALLOC_AT the master computes the allocation and writes ALLOC_GO. -/
  | allocationCompute
  /-- R646: ALLOC_GO copies the allocation and sends the ALLOC segments. -/
  | allocGo
  /-- R647: A member writes an ALLOC segment into its pending domain section and compares it when complete. -/
  | alloc (src : Fin 1024) (epoch : Fin (2 ^ 32)) (bepoch first seg nseg : Nat) (entries : List (BitVec 64))
  /-- R649: Firmware-provided: a node splits its ALLOC over its partitions and seals the local section. -/
  | localAllocationSplit
  /-- R650: Once per epoch the active bank is compared with the authoritative copy and corrected. -/
  | budgetCompare (flips : List (Fin 2192 × Word)) (stuck : Bool)
  /-- R657: At each GCYCLE multiple every node contributes its group proposals. -/
  | groupCycleStart
  /-- R658: Firmware-provided: the master writes changed group ceilings and GROUP_GO. -/
  | groupReductionResult
  /-- R659: GROUP_GO sends a COMMIT_ANN with its tick. -/
  | groupGo
  /-- R660: A COMMIT_ANN stages a domain commit for each listed group, or refuses. -/
  | commitAnn (src : Fin 1024) (epoch cid : Fin (2 ^ 32)) (tick basis : Nat) (entries : List (Fin 64 × Fin 2048 × Fin 16))
  /-- R661: A domain commit at its tick writes CAP_GCEIL of the node's partitions in the group. -/
  | domainCommitEffect (group : Fin 64)
  /-- R665: Firmware-provided: the master answers a refusal with a HOLD cell. -/
  | commitRefuse (group : Fin 64)
  /-- R669: Firmware-provided: a joining node sends JOIN_REQ every 10 ms until answered. -/
  | joinReqSend
  /-- R670: Firmware-provided: the master admits or refuses a joining node. -/
  | joinReq (src : Fin 1024) (standby : Bool)
  /-- R671: A JOIN_ACK ADMITTED makes the node MEMBER from its admission epoch. -/
  | joinAck (admitted : Bool) (mgen : Fin 65536) (bepoch : Nat)
  /-- R672: A MEMBER frame announces a join, leave or removal. -/
  | member (mgen : Fin 65536) (node : Fin 1024) (kind : Fin 256)
  /-- R678: 10 ms without a standby sets NO_STANDBY. -/
  | noStandby
  /-- R699: A core load is checked and performed in order, forwarding from its store buffer. -/
  | coreLoad (core : CoreIx) (user pmp : Bool) (addr : Word) (size : Fin 3)
  /-- R699: A core store is checked and entered in the store buffer. -/
  | coreStore (core : CoreIx) (user pmp : Bool) (addr : Word) (size : Fin 3) (val : Word)
  /-- R699: A buffered store becomes visible to all agents. -/
  | storeBufferDrain (core : CoreIx)
  /-- R701: A qualifying FENCE waits for earlier stores to be visible before later loads. -/
  | fence (core : CoreIx) (predW succR : Bool)
  /-- R705: FENCE.I invalidates the instruction cache. -/
  | fenceI (core : CoreIx)
  /-- R702: An AMO is performed on shared memory with fence semantics. -/
  | amo (core : CoreIx) (user pmp : Bool) (op : AmoOp) (addr val : Word)
  /-- R704: LR takes a reservation on a 64-byte granule. -/
  | lr (core : CoreIx) (user pmp : Bool) (addr : Word)
  /-- R704: SC stores if its reservation holds. -/
  | sc (core : CoreIx) (user pmp : Bool) (addr val : Word)
  /-- R692: A write to mplane changes the plane tag within TAGS. -/
  | mplaneWrite (core : CoreIx) (user : Bool) (val : Word)
  /-- R696: A cache miss fill completes. -/
  | cacheFillDone (core : CoreIx) (icache : Bool) (line : Fin 81920)
  /-- R697: A dirty line drains from the write-back buffer in the core's turn. -/
  | writebackDrain (core : CoreIx)
  /-- R707: A flag-word write is admitted only from its plane. -/
  | mbxFlagWrite (writer : Fin 9) (word : Fin 64) (val : Word)
  /-- R709: A write sets doorbell bits of a core. -/
  | mbxDbSet (writer target : Fin 9) (bits : Word)
  /-- R711: A write appends a word to a core's message queue or counts it lost. -/
  | mbxMsg (writer target : Fin 9) (word : Word)
  /-- R712: A read returns and removes the oldest queued word. -/
  | mbxMsgPop (reader target : Fin 9)
  /-- R713: mtime reaching mtimecmp raises the core timer interrupt. -/
  | mtimeCompare (core : CoreIx)
  /-- R720: A double-bit error in firmware SRAM or ring memory faults the access. -/
  | memoryEccError (ix : Fin 5242880) (double : Bool) (core : Option CoreIx) (fetch : Bool)
  /-- R721: A cache error refetches the line, or restarts the core on a dirty double-bit error. -/
  | cacheEccError (core : CoreIx) (icache : Bool) (line : Fin 81920) (double : Bool)
  /-- R722: A register access unanswered for 1 us faults the core. -/
  | registerAccessTimeout (core : CoreIx) (store : Bool)
  /-- R732: FWC_LD_CTL GO starts a firmware load with its checks and first pass. -/
  | fwLoadGo (who : Initiator) (live : Bool) (cores : Byte)
  /-- R750: FWC_LD_CTL ABORT abandons a load or rolls back a live update. -/
  | fwLoadAbort (who : Initiator)
  /-- R732: The first pass and signature complete and the load is refused or written. -/
  | fwVerifyDone (got : Fetched)
  /-- R736: The second pass completes and targets become LOADED or handover begins. -/
  | fwWriteDone (got : Fetched)
  /-- R737: FWC_CORE_CTL RELEASE fills TCM and starts the core at ENTRY. -/
  | release (who : Initiator) (core : CoreIx)
  /-- R743: FWC_CORE_CTL RESTART restarts the core with cause HOST. -/
  | restart (who : Initiator) (core : CoreIx)
  /-- R739: A core sets or clears its ready flag, advancing a live update. -/
  | readyWe (core : CoreIx) (ready : Bool)
  /-- R739: A core kicks its watchdog. -/
  | kick (core : CoreIx)
  /-- R743: A core restarts itself with cause SELF. -/
  | restartSelf (core : CoreIx)
  /-- R740: A core not kicking for WD_T is restarted with cause WATCHDOG. -/
  | watchdogExpiry (core : CoreIx)
  /-- R741: A released core not ready within READY_TO is restarted. -/
  | readyTimeout (core : CoreIx)
  /-- R744: A restarting core is refilled and released at ENTRY within 200 us. -/
  | coreRestartRelease (core : CoreIx)
  /-- R749: QUIESCE_TO passes and the core is restarted into the new image. -/
  | quiesceTimeout (core : CoreIx)
  /-- R757: SEC's ROM watchdog expires and SEC reboots. -/
  | secWatchdog
  /-- R761: An out-of-range watchdog or live-update setting is refused and recorded. -/
  | fwcWdogWrite (who : Initiator) (core : Option CoreIx) (val : Word)
  /-- R770: Setting EN of a ring checks its configuration and enables it. -/
  | ringEnable (who : Initiator) (ring : Fin 64) (val : Word)
  /-- R794: Clearing EN stops fetching and the ring enters STOPPING. -/
  | ringDisable (who : Initiator) (ring : Fin 64)
  /-- R772: An SQ doorbell sets the tail or puts the ring in ERROR. -/
  | sqDoorbell (who : Initiator) (ring : Fin 64) (val : Word)
  /-- R774: A CQ doorbell releases completions or puts the ring in ERROR. -/
  | cqDoorbell (who : Initiator) (ring : Fin 64) (val : Word)
  /-- R775: The engine fetches a submission when occupancy permits, reserving a completion slot. -/
  | commandFetch (ring : Fin 64) (bad : Bool)
  /-- R776: A completion is written at the CQ tail and the tail advances. -/
  | completionPost (ring : Fin 64)
  /-- R779: At each PERIOD the telemetry engine writes entries or counts missed samples. -/
  | telemetrySample (ring : Fin 64) (ok : Bool) (ue : Option Word)
  /-- R793: AGG_T after the first unsignalled entry the owner's vector is signalled. -/
  | interruptAggregationTimer (ring : Fin 64)
  /-- R800: A function ceasing to exist stops its rings with OWNER_GONE. -/
  | vfDisable (vfs : Fin 64)
  /-- R783: Returns identity, releases and image generation. -/
  | identify (ring : RingIx) (cid : BitVec 16) (out : DmaOut)
  /-- R783: Returns device status words and the own partition mask. -/
  | status (ring : RingIx) (cid : BitVec 16)
  /-- R213: Firmware-provided: loads a Fibigen image. -/
  | imageLoad (ring : RingIx) (cid : BitVec 16)
  /-- R731: Firmware-provided: loads a firmware image. -/
  | fwLoad (ring : RingIx) (cid : BitVec 16)
  /-- R737: Firmware-provided: releases or restarts a core. -/
  | coreCtl (ring : RingIx) (cid : BitVec 16)
  /-- R164: Firmware-provided: starts, stops or configures the start. -/
  | start (ring : RingIx) (cid : BitVec 16)
  /-- R785: Firmware-provided: requests a reset level. -/
  | reset (ring : RingIx) (cid : BitVec 16)
  /-- R784: Firmware-provided: stages registers and requests a commit. -/
  | commit (ring : RingIx) (cid : BitVec 16) (got : Fetched)
  /-- R783: Firmware-provided: reads a list of registers. -/
  | regRead (ring : RingIx) (cid : BitVec 16) (got : Fetched) (out : DmaOut)
  /-- R378: Firmware-provided: clears PROT latch bits. -/
  | latchClear (ring : RingIx) (cid : BitVec 16) (pairs : List (ChIx × Nat)) (tripIn : Bool)
  /-- R790: Firmware-provided: assigns partitions to a function. -/
  | partAssign (ring : RingIx) (cid : BitVec 16)
  /-- R783: Firmware-provided: sets a partition's request or manual ceiling. -/
  | partSet (ring : RingIx) (cid : BitVec 16)
  /-- R504: Firmware-provided: sets a partition's envelope. -/
  | partEnv (ring : RingIx) (cid : BitVec 16)
  /-- R787: Firmware-provided: snapshots a partition's accounting through slot 3. -/
  | partSnapshot (ring : RingIx) (cid : BitVec 16) (out : DmaOut)
  /-- R780: Firmware-provided: configures a telemetry ring. -/
  | telemCfg (ring : RingIx) (cid : BitVec 16)
  /-- R786: Firmware-provided: returns recorder entries by the snapshot method. -/
  | recRead (ring : RingIx) (cid : BitVec 16) (out : DmaOut)
  /-- R840: Firmware-provided: starts, stops or reports the spill. -/
  | recSpill (ring : RingIx) (cid : BitVec 16)
  /-- R467: Firmware-provided: captures or acknowledges baselines. -/
  | baseline (ring : RingIx) (cid : BitVec 16)
  /-- R672: Firmware-provided: a member leaves or is removed. -/
  | domMember (ring : RingIx) (cid : BitVec 16)
  /-- R784: Firmware-provided: commits the domain budget and ramp. -/
  | domBudget (ring : RingIx) (cid : BitVec 16)
  /-- R788: Firmware-provided: sends a host message in BULK frames. -/
  | bulkSend (ring : RingIx) (cid : BitVec 16) (got : Fetched)
  /-- R788: Firmware-provided: waits for a BULK message on a channel. -/
  | bulkRecv (ring : RingIx) (cid : BitVec 16) (out : DmaOut)
  /-- R783: Firmware-provided: aborts a command on the same ring. -/
  | abort (ring : RingIx) (cid : BitVec 16)
  /-- R808: A crossing transfer failing parity is discarded and handled as lost. -/
  | crossingParityError (unit : Byte) (item : CrossLost) (more : Fin 3)
  /-- R814: A DMA write without posted credits for 10 us is abandoned. -/
  | dmaWriteAbandon (ring : Option (Fin 64)) (n : Nat)
  /-- R818: A host request unanswered for 2 us completes with Completer Abort or is dropped. -/
  | hostRequestTimeout (fn : Fin 64) (write : Bool)
  /-- R825: 1 ms after a rank's last sink take its drain status bit clears. -/
  | drainStatusExpiry (rank : Fin 9)
  /-- R831: A Postmark is inserted at each ms, epoch change, step or discontinuity. -/
  | postmark
  /-- R831: A REC_CMD POSTMARK write requests a Postmark. -/
  | recPostmarkCmd (who : Initiator) (val : Word)
  /-- R833: A put places a staged record in the writer's plane staging queue. -/
  | recPutGo (who : Initiator) (m : Fin 10) (val : Word)
  /-- R837: A REC_TAIL write moves the reader mark and the stop point. -/
  | recTailWrite (who : Initiator) (val : BitVec 64)
  /-- R840: The spill engine writes entries to host memory. -/
  | spillWrite (n : Nat) (bme abandoned : Bool) (ue : Option Word)
  /-- R843: The brownout tail commit completes with TAIL_DONE; `ok` false: a flash error ends it after `done` entries (R387). -/
  | tailCommitDone (ok : Bool) (done : Nat)
  /-- R847: A sector erase completes and the stamp and DONE record are written. -/
  | sectorEraseDone (margin : Bool)
  /-- R849: The start-up scan completes and NVS_READY is set. -/
  | nvsScanDone
  /-- R853: An NVS APPEND programs and verifies a store record. -/
  | append (who : Initiator) (kind : BitVec 16)
  /-- R859: An NVS READ returns the newest valid record of a KIND and KEY. -/
  | read (who : Initiator) (kind : BitVec 16)
  /-- R850: An NVS READ_TAIL returns the found tail. -/
  | readTail (who : Initiator)
  /-- R844: An NVS RELEASE_TAIL releases the tail. -/
  | releaseTail (who : Initiator)
  /-- R854: An NVS COUNTERS_NOW writes the lifetime counters. -/
  | countersNow (who : Initiator)
  /-- R854: Every COUNT_INT the lifetime counters are written. -/
  | countersWrite
  /-- R867: PMBus PAGE selects the page. -/
  | page (io : PmIo)
  /-- R867: PMBus OPERATION reads the rail on-state. -/
  | operation (io : PmIo)
  /-- R872: PMBus CLEAR_FAULTS clears the page's status latches. -/
  | clearFaults (io : PmIo)
  /-- R874: PMBus WRITE_PROTECT restricts sideband writes. -/
  | writeProtect (io : PmIo)
  /-- R867: PMBus CAPABILITY returns 0xD0. -/
  | capability (io : PmIo)
  /-- R873: PMBus SMBALERT_MASK sets or reads alert masks. -/
  | smbalertMask (code : Byte) (io : PmIo)
  /-- R870: PMBus VOUT_MODE returns the linear16 mode. -/
  | voutMode (io : PmIo)
  /-- R870: PMBus VOUT_COMMAND reads the active setpoint. -/
  | voutCommand (io : PmIo)
  /-- R870: PMBus reads the OV limit. -/
  | voutOvFaultLimit (io : PmIo)
  /-- R867: PMBus reads the overload limit. -/
  | ioutOcFaultLimit (io : PmIo)
  /-- R867: PMBus reads the thermal critical limit. -/
  | otFaultLimit (io : PmIo)
  /-- R867: PMBus reads the VIN high alarm. -/
  | vinOvWarn (io : PmIo)
  /-- R867: PMBus reads the VIN warning threshold. -/
  | vinUvWarn (io : PmIo)
  /-- R867: PMBus reads the VIN reset threshold. -/
  | vinUvFaultLimit (io : PmIo)
  /-- R872: PMBus reads the status byte. -/
  | statusByte (io : PmIo)
  /-- R872: PMBus reads the status word. -/
  | statusWord (io : PmIo)
  /-- R872: PMBus reads output voltage status. -/
  | statusVout (io : PmIo)
  /-- R872: PMBus reads output current status. -/
  | statusIout (io : PmIo)
  /-- R872: PMBus reads input status. -/
  | statusInput (io : PmIo)
  /-- R872: PMBus reads temperature status. -/
  | statusTemperature (io : PmIo)
  /-- R872: PMBus reads communication status. -/
  | statusCml (io : PmIo)
  /-- R872: PMBus reads manufacturer status. -/
  | statusMfrSpecific (io : PmIo)
  /-- R871: PMBus reads VIN. -/
  | readVin (io : PmIo)
  /-- R871: PMBus reads derived input current. -/
  | readIin (io : PmIo)
  /-- R871: PMBus reads derived input power. -/
  | readPin (io : PmIo)
  /-- R871: PMBus reads the rail's sense voltage. -/
  | readVout (io : PmIo)
  /-- R871: PMBus reads the rail current. -/
  | readIout (io : PmIo)
  /-- R871: PMBus reads the rail power. -/
  | readPout (io : PmIo)
  /-- R871: PMBus reads the highest Postbox temperature. -/
  | readTemperature1 (io : PmIo)
  /-- R871: PMBus reads the highest stage temperature. -/
  | readTemperature2 (io : PmIo)
  /-- R867: PMBus returns revision 0x44. -/
  | pmbusRevision (io : PmIo)
  /-- R867: PMBus returns the manufacturer ID. -/
  | mfrId (io : PmIo)
  /-- R867: PMBus returns the model. -/
  | mfrModel (io : PmIo)
  /-- R867: PMBus returns the revision. -/
  | mfrRevision (io : PmIo)
  /-- R867: PMBus returns the serial number. -/
  | mfrSerial (io : PmIo)
  /-- R876: PMBus sets or reads the BMC power cap. -/
  | mfrBmcPowerCap (io : PmIo)
  /-- R875: PMBus requests a warm or device reset, or reads its result. -/
  | mfrReset (io : PmIo)
  /-- R867: PMBus reads the device state. -/
  | mfrDeviceState (io : PmIo)
  /-- R867: PMBus reads VAUX. -/
  | mfrReadVaux (io : PmIo)
  /-- R867: PMBus reads VHOLD. -/
  | mfrReadVhold (io : PmIo)
  /-- R868: An unsupported or wrong-page PMBus command sets the invalid-command bit. -/
  | invalidPmbusCommand (code bytes : Byte) (io : PmIo)
  /-- R873: The Alert Response Address is answered and SMB_ALERT_N released. -/
  | alertResponse
  /-- R865: SCL low for 25 ms resets the SMBus interface. -/
  | smbusTimeout
  /-- R880: MCTP Set Endpoint ID assigns the binding's EID. -/
  | setEndpointId (pcie : Bool) (dst eid : Byte)
  /-- R880: MCTP Get Endpoint ID returns the EID. -/
  | getEndpointId (pcie : Bool) (dst : Byte)
  /-- R880: MCTP Get Endpoint UUID returns the UUID. -/
  | getEndpointUuid (pcie : Bool) (dst : Byte)
  /-- R880: MCTP returns supported versions. -/
  | getMctpVersionSupport (pcie : Bool) (dst : Byte)
  /-- R881: MCTP returns supported message types. -/
  | getMessageTypeSupport (pcie : Bool) (dst : Byte)
  /-- R880: Any other MCTP control command gets ERROR_UNSUPPORTED_CMD. -/
  | mctpUnsupportedCmd (pcie : Bool) (dst : Byte)
  /-- R883: SPDM GET_VERSION returns version 1.2. -/
  | getVersion (pcie : Bool) (dst : Byte)
  /-- R884: SPDM GET_CAPABILITIES returns the responder's capabilities. -/
  | getCapabilities (pcie : Bool) (dst : Byte)
  /-- R884: SPDM NEGOTIATE_ALGORITHMS selects P-384 and SHA-384. -/
  | negotiateAlgorithms (pcie : Bool) (dst : Byte) (offers : Bool)
  /-- R885: SPDM GET_DIGESTS returns the certificate chain digest. -/
  | getDigests (pcie : Bool) (dst : Byte)
  /-- R885: SPDM GET_CERTIFICATE returns the device certificate chain. -/
  | getCertificate (pcie : Bool) (dst slot : Byte) (off len : BitVec 16)
  /-- R886: SPDM CHALLENGE returns a signed CHALLENGE_AUTH. -/
  | challenge (pcie : Bool) (dst slot : Byte) (summary : Bool)
  /-- R886: SPDM GET_MEASUREMENTS returns measurement blocks from one snapshot. -/
  | getMeasurements (pcie : Bool) (dst slot index : Byte) (signed : Bool)
  /-- R883: Any other SPDM request gets ERROR UnsupportedRequest. -/
  | spdmUnsupportedRequest (pcie : Bool) (dst : Byte)
  /-- R892: SEC_FUSE_CTL with GO 0 and KEY 0x5A arms a fuse operation. -/
  | fuseArm (who : Initiator) (op : BitVec 4) (arg : BitVec 16)
  /-- R893: Fuses a new owner key hash. -/
  | ownerHash (who : Initiator) (arg : BitVec 16)
  /-- R893: Revokes the active owner entry. -/
  | ownerRevoke (who : Initiator) (arg : BitVec 16)
  /-- R888: Disables the Plehoard root key slot. -/
  | rootDisable (who : Initiator) (arg : BitVec 16)
  /-- R895: Raises the image anti-rollback count. -/
  | imgRb (who : Initiator) (arg : BitVec 16)
  /-- R895: Raises the firmware anti-rollback count. -/
  | fwRb (who : Initiator) (arg : BitVec 16)
  /-- R893: Turns a key slot off for debug tokens. -/
  | debugOff (who : Initiator) (arg : BitVec 16)
  /-- R890: Fuses a tighter protection bound record. -/
  | bound (who : Initiator) (arg : BitVec 16)
  /-- R893: A fuse operation finishes programming and verifying, or fails. -/
  | fuseOperationDone (ok : Bool)
  /-- R896: SEC_DBG_CTL NONCE generates a new debug nonce. -/
  | nonce (who : Initiator)
  /-- R897: SEC_DBG_CTL SUBMIT submits a debug unlock token. -/
  | submit (who : Initiator) (src : Fin 4) (got : Fetched)
  /-- R898: SEC_DBG_CTL LOCK closes debug access. -/
  | lock (who : Initiator)
  /-- R897: Token verification completes and debug opens or is refused. -/
  | debugTokenVerified
  /-- R901: The TAP resets and selects IDCODE. -/
  | testLogicReset
  /-- R903: JTAG EXTEST drives pins from the boundary register when permitted. -/
  | extest (cells : BitVec 212)
  /-- R902: JTAG SAMPLE/PRELOAD captures and preloads the boundary register. -/
  | samplePreload (cells : BitVec 212)
  /-- R901: JTAG IDCODE shifts out the device ID. -/
  | idcode
  /-- R903: JTAG HIGHZ floats pins when permitted. -/
  | highz
  /-- R903: JTAG CLAMP holds pins from the boundary register when permitted. -/
  | clamp
  /-- R901: JTAG BYPASS selects the 1-bit register. -/
  | bypass
  /-- R897: JTAG SEC_UNLOCK submits a debug token. -/
  | secUnlock (token : List Byte)
  /-- R896: JTAG SEC_NONCE generates and reads a new nonce. -/
  | secNonce
  /-- R900: JTAG CORE_DBG halts an opened core. -/
  | coreDbgHalt (core : CoreIx)
  /-- R900: JTAG CORE_DBG resumes an opened core. -/
  | coreDbgResume (core : CoreIx)
  /-- R900: JTAG CORE_DBG single-steps an opened core. -/
  | coreDbgStep (core : CoreIx) (act : StepAct) (pmp : Bool)
  /-- R901: JTAG CORE_DBG reads a core register. -/
  | coreDbgReadReg (core : CoreIx) (reg : Word)
  /-- R901: JTAG CORE_DBG writes a core register. -/
  | coreDbgWriteReg (core : CoreIx) (reg val : Word)
  /-- R900: JTAG CORE_DBG reads memory with the core's plane tag. -/
  | coreDbgReadMem (core : CoreIx) (addr : Word)
  /-- R900: JTAG CORE_DBG writes memory with the core's plane tag. -/
  | coreDbgWriteMem (core : CoreIx) (addr val : Word)
  /-- R901: JTAG CORE_DBG reads core debug status. -/
  | coreDbgStatus (core : CoreIx)
  /-- R917: A TOP_ACTIVE_SEL write selects the HOLD register whose active copy is read. -/
  | activeSelWrite (who : Initiator) (val : Word)
  /-- R922: Setting TOP_LOCK.ASSET locks TOP_LOCK and TOP_ASSET until device reset. -/
  | assetLock (who : Initiator) (asset : Bool)
  /-- R157: A control-plane, data-plane or management-plane reset completes within 50 us, reports DONE and ends the reset in progress. -/
  | planeResetEnd
  /-- R445: A droop wire falls, ending DROOP_STUCK and re-enabling boost and freeze on that wire, and starting the freeze settle. -/
  | droopFlagFall (die : DieIx)
  /-- R434: A site's temperature falls 5 C below its trip level and it releases TRP_N. -/
  | siteTripRelease (die : DieIx) (site : SiteIx) (t : Int)
  /-- R481: A site's core domain powers off or on, and the site reports CORE_OFF or CORE_ON. -/
  | siteCoreDomainChange (die : DieIx) (site : SiteIx) (on : Bool)
  /-- R420: An up-lane message arrives with a CRC error or SEQ gap and is discarded, with a NAK on lane 0. -/
  | postlineCrcError (die : DieIx) (lane : Fin 2) (gap : Bool)
  /-- R531: A granted heavy or forced frank is sent at the instant that makes it reach the port cell PRE_LEAD after the grant. -/
  | frankSend (queue : QueueIx)
  /-- R551: BAL messages for a COMM_BEGIN hint are sent so as to reach the port cell LEAD after the hint's posting. -/
  | hintBallastSend (part : PartIx)
  /-- R766: A host write through Window 2 reaches ring memory, or is suppressed and reported when not admitted. -/
  | hostWindow2Write (fn : Fin 64) (off : BitVec 20) (io : WinIo)
  /-- R853: A flash command in progress completes after its program or read-back and reports its result, clearing BUSY. -/
  | nvsCommandDone (ok : Bool)
  /-- R887: SEC finishes handling an SPDM request and sends its response, ending the Busy period. -/
  | spdmResponseDone
  /-- R757: SEC finishes rebooting from ROM and sets SEC_OK again when its self-check passes. -/
  | secRebootDone (secOk idOk : Bool)
  /-- R453: Every 4 us the estimator forms a sample for each region whose far voltage is the channel's other sense pair. -/
  | estimatorSample
  /-- R763: PCIE_PERST_N returns high and the PCI Express core leaves reset, its configuration space answering. -/
  | pciePerstRelease
  deriving DecidableEq, Repr

end Sys2Proof
end

