-- ==== Sys2Proof/Config.lean ====
section
/-! DEFINITION. What one BX1200 part fixes and the spec leaves to the part or to another document: the fused serial
number, the cryptographic functions, and the free values. Every constant here has no body: nothing in Lean can
evaluate one, so no proof can lean on a value. -/

namespace Sys2Proof.Config

/-- A free natural number: the value the spec leaves open at draw number `k` (`State.freeCtr` counts the draws).
DESIGN CHOICE (log entry 8), safe. -/
opaque freeNat : Nat → Nat

/-- A free integer, as `freeNat`. DESIGN CHOICE (log entry 8), safe. -/
opaque freeInt : Nat → Int

/-- The fused Device Serial Number (TOP_SERIAL, Table 20.11: "Fused"). DESIGN CHOICE (log entry 41), safe. -/
opaque serial : BitVec 64

/-- SHA-384 of a byte string: its 48 bytes as a number, byte 0 lowest (R15; the hash standard is outside the spec's text).
DESIGN CHOICE (log entry 40), safe. -/
opaque sha384 : List Byte → BitVec 384

/-- ECDSA P-384 verification of a digest against a public key and a signature (the standard is outside the spec).
DESIGN CHOICE (log entry 40), safe. -/
opaque verifyP384 : (digest : BitVec 384) → (key : List Byte) → (sig : List Byte) → Bool

/-- The ECDSA P-384 signature that the device identity key makes over a message digest. DESIGN CHOICE (log entry 40), safe. -/
opaque signP384 : BitVec 384 → List Byte

/-- The device certificate chain of slot 0, written at manufacture (R885). DESIGN CHOICE (log entry 40), safe. -/
opaque certChain : List Byte

/-- The SEC ROM digest, measurement block 1 of Table 19.6. DESIGN CHOICE (log entry 40), safe. -/
opaque romDigest : BitVec 384

/-- One step of the fourth-order band-pass filter of R455 at a sample rate (Hz): the filter's state and an input give its output
and its next state. The spec gives the corner frequencies and no coefficients. DESIGN CHOICE (log entry 65), safe. -/
opaque bandPass : (rate : Nat) → (state : List Int) → (x : Int) → Int × List Int

/-- The endpoint UUID of the MCTP endpoint. DESIGN CHOICE (log entry 41), safe. -/
opaque uuid : BitVec 128

/-- ROOT_HASH of Table 19.7, fused at manufacture. DESIGN CHOICE (log entry 40), safe. -/
opaque rootHash : BitVec 384

/-- The digest of the fuse summary, measurement block 2 of Table 19.6, from the values that the summary holds.
DESIGN CHOICE (log entry 40), safe. -/
opaque fuseDigest : List Nat → BitVec 384

/-- Whether MFR_SERIAL spells the digits A–F in capitals: the spec gives no case. DESIGN CHOICE (log entry 122), safe. -/
opaque serialCapitals : Bool

/-- The measurement summary hash of a CHALLENGE_AUTH over the blocks of a snapshot (the SPDM standard is outside the spec).
DESIGN CHOICE (log entry 40), safe. -/
opaque summaryHash : (blocks : List (Nat × List Byte)) → List Byte

/-- The filtered path delay after a valid exchange, from the filtered delay before it and the exchange's own delay, both in 1/16 ns.
The spec names the filter (R114, TB_DELAY) and gives no formula. DESIGN CHOICE (log entry 21), safe. -/
opaque delayFilter : (old d : Nat) → Nat

end Sys2Proof.Config
end

