-- ==== Sys2Proof/Machine/RegMap.lean ====
section
/-! DEFINITION. The register map of Window 0: for every register of the spec's register tables its offset, index
dimensions, access type, reset domain (Table 20.6), commit group (Table 20.4), reset value and implemented bits, and for
every field of the field tables its place in the word. -/

namespace Sys2Proof.Machine

/-! ## Register offsets -/

namespace Reg
abbrev TOP_ID : Nat := 0x0
abbrev TOP_REV : Nat := 0x4
abbrev TOP_SERIAL_LO : Nat := 0x8
abbrev TOP_SERIAL_HI : Nat := 0xC
abbrev TOP_STATUS : Nat := 0x10
abbrev TOP_LOCK : Nat := 0x14
abbrev TOP_ACTIVE_SEL : Nat := 0x18
abbrev TOP_ACTIVE_VAL : Nat := 0x1C
abbrev TOP_ASSET (n : Nat) : Nat := 0x20 + 0x4 * n
abbrev TOP_COMMIT_CTL : Nat := 0x100
abbrev TOP_COMMIT_STATUS : Nat := 0x104
abbrev TOP_COMMIT_MASK_LO : Nat := 0x108
abbrev TOP_COMMIT_MASK_HI : Nat := 0x10C
abbrev TOP_COMMIT_TICK_LO : Nat := 0x110
abbrev TOP_COMMIT_TICK_HI : Nat := 0x114
abbrev TOP_COMMIT_OWNER : Nat := 0x118
abbrev TOP_COMMIT_FAIL_ADDR : Nat := 0x11C
abbrev TOP_PLANE_VIOL : Nat := 0x120
abbrev TOP_PLANE_VIOL_CNT : Nat := 0x124
abbrev TOP_RST_CTL : Nat := 0x200
abbrev TOP_RST_STATUS : Nat := 0x204
abbrev TOP_RST_CAUSE : Nat := 0x208
abbrev TOP_STRAP : Nat := 0x20C
abbrev TOP_SUPPLY : Nat := 0x210
abbrev TOP_START : Nat := 0x214
abbrev TOP_START_STATUS : Nat := 0x218
abbrev TOP_START_CFG : Nat := 0x21C
abbrev TOP_CFG_STATUS : Nat := 0x300
abbrev TOP_CFG_EVENT : Nat := 0x304
abbrev TOP_CFG_BENIGN_CNT : Nat := 0x308
abbrev TOP_CFG_REPAIR_CNT : Nat := 0x30C
abbrev TOP_CFG_REFILL_CNT : Nat := 0x310
abbrev TOP_CFG_FAULT_FRAME : Nat := 0x314
abbrev TOP_INTEG_EVENT : Nat := 0x400
abbrev TOP_INTEG_CNT : Nat := 0x404
abbrev TOP_INTEG_LAST : Nat := 0x408
abbrev TOP_DRAIN_STATUS : Nat := 0x410
abbrev TOP_DRAIN_CNT (n : Nat) : Nat := 0x420 + 0x4 * n
abbrev TB_NOW_LO : Nat := 0x10000
abbrev TB_NOW_HI : Nat := 0x10004
abbrev TB_STATUS : Nat := 0x10008
abbrev TB_EVENT : Nat := 0x1000C
abbrev TB_RATE : Nat := 0x10010
abbrev TB_SLEW : Nat := 0x10014
abbrev TB_OFFSET : Nat := 0x10018
abbrev TB_DELAY : Nat := 0x1001C
abbrev TB_STEP_CNT : Nat := 0x10020
abbrev TB_SERVO_CFG : Nat := 0x10024
abbrev TB_HOLD_CFG : Nat := 0x10028
abbrev TB_PPS_CFG : Nat := 0x1002C
abbrev TB_ASYM (n : Nat) : Nat := 0x10040 + 0x4 * n
abbrev TB_CAP_LO (n : Nat) : Nat := 0x10080 + 0x8 * n
abbrev TB_CAP_HI (n : Nat) : Nat := 0x10084 + 0x8 * n
abbrev TB_CAP_SRC (n : Nat) : Nat := 0x10100 + 0x4 * n
abbrev TB_CAP_VALID : Nat := 0x10140
abbrev TB_CAP_FLAGS : Nat := 0x10144
abbrev CLK_STATUS : Nat := 0x20000
abbrev CLK_FAULT : Nat := 0x20004
abbrev CLK_AON_FREQ : Nat := 0x20008
abbrev CLK_FW_RETURN : Nat := 0x2000C
abbrev NVS_STATUS : Nat := 0x30000
abbrev NVS_EVENT : Nat := 0x30004
abbrev NVS_CMD : Nat := 0x30008
abbrev NVS_CMD_KEY : Nat := 0x3000C
abbrev NVS_CMD_BUF : Nat := 0x30010
abbrev NVS_CMD_LEN : Nat := 0x30014
abbrev NVS_CMD_STATUS : Nat := 0x30018
abbrev NVS_SCAN : Nat := 0x3001C
abbrev NVS_TAIL : Nat := 0x30020
abbrev NVS_TAIL_SEQ_LO : Nat := 0x30024
abbrev NVS_TAIL_SEQ_HI : Nat := 0x30028
abbrev NVS_WEAR : Nat := 0x3002C
abbrev NVS_CFG : Nat := 0x30030
abbrev NVS_LIFE_LO (n : Nat) : Nat := 0x30100 + 0x8 * n
abbrev NVS_LIFE_HI (n : Nat) : Nat := 0x30104 + 0x8 * n
abbrev SEC_STATUS : Nat := 0x40000
abbrev SEC_EVENT : Nat := 0x40004
abbrev SEC_RB : Nat := 0x40008
abbrev SEC_IMG_CTL : Nat := 0x40100
abbrev SEC_IMG_SRC : Nat := 0x40104
abbrev SEC_IMG_ADDR_LO : Nat := 0x40108
abbrev SEC_IMG_ADDR_HI : Nat := 0x4010C
abbrev SEC_IMG_LEN : Nat := 0x40110
abbrev SEC_IMG_STATUS : Nat := 0x40114
abbrev SEC_IMG_FAIL_INFO : Nat := 0x40118
abbrev SEC_IMG_GEN : Nat := 0x4011C
abbrev SEC_IMG_DIGEST (n : Nat) : Nat := 0x40120 + 0x4 * n
abbrev SEC_FUSE_CTL : Nat := 0x40200
abbrev SEC_FUSE_STATUS : Nat := 0x40204
abbrev SEC_FUSE_DATA (n : Nat) : Nat := 0x40210 + 0x4 * n
abbrev SEC_DBG_CTL : Nat := 0x40300
abbrev SEC_DBG_STATUS : Nat := 0x40304
abbrev SEC_DBG_ADDR_LO : Nat := 0x40308
abbrev SEC_DBG_ADDR_HI : Nat := 0x4030C
abbrev SEC_DBG_NONCE (n : Nat) : Nat := 0x40320 + 0x4 * n
abbrev FAB_STATUS : Nat := 0x80000
abbrev FAB_EVENT : Nat := 0x80004
abbrev FAB_PARITY_CNT : Nat := 0x80008
abbrev FAB_XDEV_STALE : Nat := 0x8000C
abbrev FAB_XDEV_FALLBACK : Nat := 0x80010
abbrev FAB_SAT (n : Nat) : Nat := 0x80020 + 0x4 * n
abbrev FAB_PIN (n : Nat) : Nat := 0x80030 + 0x4 * n
abbrev FAB_CONST (n : Nat) : Nat := 0x80100 + 0x4 * n
abbrev FAB_TILE_CNT (n : Nat) : Nat := 0x80400 + 0x4 * n
abbrev FAB_PARAM (n k : Nat) : Nat := 0x81000 + 0x20 * n + 0x4 * k
abbrev FAB_SIG (n : Nat) : Nat := 0x82000 + 0x4 * n
abbrev CH_VSET (n : Nat) : Nat := 0x120000 + 0x1000 * n
abbrev CH_LL (n : Nat) : Nat := 0x120004 + 0x1000 * n
abbrev CH_VSLEW (n : Nat) : Nat := 0x120008 + 0x1000 * n
abbrev CH_CTRL (n : Nat) : Nat := 0x12000C + 0x1000 * n
abbrev CH_FSW (n : Nat) : Nat := 0x120010 + 0x1000 * n
abbrev CH_SS (n : Nat) : Nat := 0x120014 + 0x1000 * n
abbrev CH_PHASE (n : Nat) : Nat := 0x120018 + 0x1000 * n
abbrev CH_PHASE2 (n : Nat) : Nat := 0x12001C + 0x1000 * n
abbrev CH_DRIP (n : Nat) : Nat := 0x120020 + 0x1000 * n
abbrev CH_DRIP2 (n : Nat) : Nat := 0x120024 + 0x1000 * n
abbrev CH_BAL (n : Nat) : Nat := 0x120028 + 0x1000 * n
abbrev CH_TRIM_ENV (n : Nat) : Nat := 0x12002C + 0x1000 * n
abbrev CH_DITH (n : Nat) : Nat := 0x120030 + 0x1000 * n
abbrev CH_CAL (n : Nat) : Nat := 0x120034 + 0x1000 * n
abbrev CH_STATUS (n : Nat) : Nat := 0x120100 + 0x1000 * n
abbrev CH_EVENT (n : Nat) : Nat := 0x120104 + 0x1000 * n
abbrev CH_VSENSE (n : Nat) : Nat := 0x120108 + 0x1000 * n
abbrev CH_VTARGET (n : Nat) : Nat := 0x12010C + 0x1000 * n
abbrev CH_I (n : Nat) : Nat := 0x120110 + 0x1000 * n
abbrev CH_CNT (n : Nat) : Nat := 0x120114 + 0x1000 * n
abbrev CH_DRIP_CNT (n : Nat) : Nat := 0x120118 + 0x1000 * n
abbrev CH_DRIP_TIME_LO (n : Nat) : Nat := 0x120120 + 0x1000 * n
abbrev CH_DRIP_TIME_HI (n : Nat) : Nat := 0x120124 + 0x1000 * n
abbrev CH_CAL_CNT (n : Nat) : Nat := 0x120128 + 0x1000 * n
abbrev PH_CFG (n : Nat) : Nat := 0x100000 + 0x100 * n
abbrev PH_STATUS (n : Nat) : Nat := 0x100040 + 0x100 * n
abbrev PH_I (n : Nat) : Nat := 0x100044 + 0x100 * n
abbrev PH_T (n : Nat) : Nat := 0x100048 + 0x100 * n
abbrev PH_BAL (n : Nat) : Nat := 0x10004C + 0x100 * n
abbrev PH_FLT (n : Nat) : Nat := 0x100050 + 0x100 * n
abbrev PH_OFF (n : Nat) : Nat := 0x100054 + 0x100 * n
abbrev PROT_IPK (n : Nat) : Nat := 0x140000 + 0x20 * n
abbrev PROT_OV (n : Nat) : Nat := 0x140004 + 0x20 * n
abbrev PROT_OL (n : Nat) : Nat := 0x140008 + 0x20 * n
abbrev PROT_OL2 (n : Nat) : Nat := 0x14000C + 0x20 * n
abbrev PROT_THERM : Nat := 0x140100
abbrev PROT_FUSE : Nat := 0x140104
abbrev PROT_THERM_LATCH : Nat := 0x140108
abbrev PROT_CH_LATCH : Nat := 0x14010C
abbrev PROT_STATUS : Nat := 0x140110
abbrev PROT_SHORT_INFO : Nat := 0x140114
abbrev PROT_EVENT : Nat := 0x140118
abbrev PROT_PK_CNT (n : Nat) : Nat := 0x140200 + 0x4 * n
abbrev LAD_VIN_CFG : Nat := 0x150000
abbrev LAD_VIN_CFG2 : Nat := 0x150004
abbrev LAD_VIN_HI : Nat := 0x150008
abbrev LAD_VAUX_CFG : Nat := 0x15000C
abbrev LAD_VAUX_CFG2 : Nat := 0x150010
abbrev LAD_ACT : Nat := 0x150014
abbrev LAD_FUSE_VIN : Nat := 0x150018
abbrev LAD_FUSE_VAUX : Nat := 0x15001C
abbrev LAD_STATUS : Nat := 0x150020
abbrev LAD_EVENT : Nat := 0x150024
abbrev LAD_VIN : Nat := 0x150028
abbrev LAD_VAUX : Nat := 0x15002C
abbrev LAD_VHOLD : Nat := 0x150030
abbrev LAD_CNT : Nat := 0x150034
abbrev PB_DIE_CFG (n : Nat) : Nat := 0x160000 + 0x40 * n
abbrev PB_DIE_STATUS (n : Nat) : Nat := 0x160004 + 0x40 * n
abbrev PB_DIE_EVENT (n : Nat) : Nat := 0x160008 + 0x40 * n
abbrev PB_LAT (n : Nat) : Nat := 0x16000C + 0x40 * n
abbrev PB_ERR_CNT (n : Nat) : Nat := 0x160010 + 0x40 * n
abbrev PB_DROOP_CNT (n : Nat) : Nat := 0x160014 + 0x40 * n
abbrev PB_BOOST (n : Nat) : Nat := 0x160100 + 0x20 * n
abbrev PB_CHMIN (n : Nat) : Nat := 0x160104 + 0x20 * n
abbrev PB_CHMIN_TS_LO (n : Nat) : Nat := 0x160108 + 0x20 * n
abbrev PB_CHMIN_TS_HI (n : Nat) : Nat := 0x16010C + 0x20 * n
abbrev PB_BOOST_CNT (n : Nat) : Nat := 0x160110 + 0x20 * n
abbrev PB_FREEZE_CNT (n : Nat) : Nat := 0x160114 + 0x20 * n
abbrev PB_RAIL_STATUS (n : Nat) : Nat := 0x160118 + 0x20 * n
abbrev PB_MIN_ARM : Nat := 0x160200
abbrev PB_STUCK_CFG : Nat := 0x160204
abbrev PB_THR (n k : Nat) : Nat := 0x161000 + 0x100 * n + 0x4 * k
abbrev PB_SMIN (n k : Nat) : Nat := 0x162000 + 0x400 * n + 0x10 * k
abbrev PB_SMIN_TS_LO (n k : Nat) : Nat := 0x162004 + 0x400 * n + 0x10 * k
abbrev PB_SMIN_TS_HI (n k : Nat) : Nat := 0x162008 + 0x400 * n + 0x10 * k
abbrev PB_SVOLT (n k : Nat) : Nat := 0x16200C + 0x400 * n + 0x10 * k
abbrev PB_SITE (n k : Nat) : Nat := 0x163000 + 0x100 * n + 0x4 * k
abbrev PB_PART_CFG (n : Nat) : Nat := 0x164000 + 0x10 * n
abbrev PB_FREQ (n : Nat) : Nat := 0x164004 + 0x10 * n
abbrev PB_FRZ_CNT (n : Nat) : Nat := 0x164008 + 0x10 * n
abbrev EST_CFG : Nat := 0x180000
abbrev EST_CRACK_CFG : Nat := 0x180004
abbrev EST_CMD : Nat := 0x180008
abbrev EST_STATUS : Nat := 0x18000C
abbrev EST_EVENT : Nat := 0x180010
abbrev EST_CAP_STATUS : Nat := 0x180014
abbrev EST_LL (n : Nat) : Nat := 0x180100 + 0x8 * n
abbrev EST_LL_CONF (n : Nat) : Nat := 0x180104 + 0x8 * n
abbrev EST_BASE (n : Nat) : Nat := 0x181000 + 0x20 * n
abbrev EST_R (n : Nat) : Nat := 0x181004 + 0x20 * n
abbrev EST_CONF (n : Nat) : Nat := 0x181008 + 0x20 * n
abbrev EST_REF (n : Nat) : Nat := 0x18100C + 0x20 * n
abbrev EST_RGN_EVENT (n : Nat) : Nat := 0x181010 + 0x20 * n
abbrev EST_RGN_CNT (n : Nat) : Nat := 0x181014 + 0x20 * n
abbrev CAP_REQ (n : Nat) : Nat := 0x190000 + 0x100 * n
abbrev CAP_MAN (n : Nat) : Nat := 0x190004 + 0x100 * n
abbrev CAP_ENV (n : Nat) : Nat := 0x190008 + 0x100 * n
abbrev CAP_ENV2 (n : Nat) : Nat := 0x19000C + 0x100 * n
abbrev CAP_PWR_CFG (n : Nat) : Nat := 0x190010 + 0x100 * n
abbrev CAP_THM_CFG (n : Nat) : Nat := 0x190014 + 0x100 * n
abbrev CAP_GCEIL (n : Nat) : Nat := 0x190018 + 0x100 * n
abbrev CAP_STATUS (n : Nat) : Nat := 0x190040 + 0x100 * n
abbrev CAP_BIND (n : Nat) : Nat := 0x190044 + 0x100 * n
abbrev CAP_LOOP (n : Nat) : Nat := 0x190048 + 0x100 * n
abbrev CAP_PROP (n : Nat) : Nat := 0x19004C + 0x100 * n
abbrev CAP_PWR (n : Nat) : Nat := 0x190050 + 0x100 * n
abbrev CAP_TEMP (n : Nat) : Nat := 0x190054 + 0x100 * n
abbrev CAP_DUTY (n : Nat) : Nat := 0x190058 + 0x100 * n
abbrev CAP_LOST_THR_LO (n : Nat) : Nat := 0x190060 + 0x100 * n
abbrev CAP_LOST_THR_HI (n : Nat) : Nat := 0x190064 + 0x100 * n
abbrev CAP_LOST_STR_LO (n : Nat) : Nat := 0x190068 + 0x100 * n
abbrev CAP_LOST_STR_HI (n : Nat) : Nat := 0x19006C + 0x100 * n
abbrev CAP_RCNT (n k : Nat) : Nat := 0x194000 + 0x100 * n + 0x10 * k
abbrev CAP_RDUR_LO (n k : Nat) : Nat := 0x194004 + 0x100 * n + 0x10 * k
abbrev CAP_RDUR_HI (n k : Nat) : Nat := 0x194008 + 0x100 * n + 0x10 * k
abbrev CAP_SNAP_CTL (n : Nat) : Nat := 0x198000 + 0x200 * n
abbrev CAP_SNAP_STATUS (n : Nat) : Nat := 0x198004 + 0x200 * n
abbrev CAP_SNAP_TB_LO (n : Nat) : Nat := 0x198008 + 0x200 * n
abbrev CAP_SNAP_TB_HI (n : Nat) : Nat := 0x19800C + 0x200 * n
abbrev CAP_SNAP_LOST_THR_LO (n : Nat) : Nat := 0x198010 + 0x200 * n
abbrev CAP_SNAP_LOST_THR_HI (n : Nat) : Nat := 0x198014 + 0x200 * n
abbrev CAP_SNAP_LOST_STR_LO (n : Nat) : Nat := 0x198018 + 0x200 * n
abbrev CAP_SNAP_LOST_STR_HI (n : Nat) : Nat := 0x19801C + 0x200 * n
abbrev CAP_SNAP_CNT (n k : Nat) : Nat := 0x198100 + 0x200 * n + 0x10 * k
abbrev CAP_SNAP_DUR_LO (n k : Nat) : Nat := 0x198104 + 0x200 * n + 0x10 * k
abbrev CAP_SNAP_DUR_HI (n k : Nat) : Nat := 0x198108 + 0x200 * n + 0x10 * k
abbrev CAP_BOARD : Nat := 0x19A000
abbrev CAP_IIN : Nat := 0x19A004
abbrev CAP_CONT_CFG : Nat := 0x19A008
abbrev CAP_WATCH : Nat := 0x19A00C
abbrev CAP_PIN (n : Nat) : Nat := 0x19A100 + 0x4 * n
abbrev CAP_CONT (n : Nat) : Nat := 0x19A110 + 0x4 * n
abbrev CAP_CONT_CNT : Nat := 0x19A11C
abbrev CAP_PIN_TIME (n : Nat) : Nat := 0x19A200 + 0x4 * n
abbrev FQ_STATUS : Nat := 0x1A0000
abbrev FQ_EVENT : Nat := 0x1A0004
abbrev FQ_RAMP : Nat := 0x1A0008
abbrev FQ_RAMP2 : Nat := 0x1A000C
abbrev FQ_PRE : Nat := 0x1A0010
abbrev FQ_STAG : Nat := 0x1A0014
abbrev FQ_STAG2 : Nat := 0x1A0018
abbrev FQ_SCHED : Nat := 0x1A001C
abbrev FQ_SCHED_HB : Nat := 0x1A0020
abbrev FQ_GRANT : Nat := 0x1A0024
abbrev FQ_PWR : Nat := 0x1A0028
abbrev FQ_CD : Nat := 0x1A002C
abbrev FQ_CNT : Nat := 0x1A0030
abbrev FQ_CNT2 : Nat := 0x1A0034
abbrev FQ_CLASS (n : Nat) : Nat := 0x1A0040 + 0x4 * n
abbrev FQ_STEP (n : Nat) : Nat := 0x1A0080 + 0x4 * n
abbrev FQ_PCFG (n : Nat) : Nat := 0x1A0100 + 0x4 * n
abbrev FQ_QCFG (n : Nat) : Nat := 0x1A0200 + 0x10 * n
abbrev FQ_HEAD (n : Nat) : Nat := 0x1A0204 + 0x10 * n
abbrev FQ_QSTAT (n : Nat) : Nat := 0x1A0208 + 0x10 * n
abbrev FQ_FRINT (n : Nat) : Nat := 0x1A020C + 0x10 * n
abbrev BAL_CFG (n : Nat) : Nat := 0x1B0000 + 0x20 * n
abbrev BAL_ENV (n : Nat) : Nat := 0x1B0004 + 0x20 * n
abbrev BAL_LVL (n : Nat) : Nat := 0x1B0008 + 0x20 * n
abbrev BAL_PWR (n : Nat) : Nat := 0x1B000C + 0x20 * n
abbrev BAL_E_LO (n : Nat) : Nat := 0x1B0010 + 0x20 * n
abbrev BAL_E_HI (n : Nat) : Nat := 0x1B0014 + 0x20 * n
abbrev BAL_STATUS : Nat := 0x1B1000
abbrev BAL_Q : Nat := 0x1B1004
abbrev BAL_ETOT_LO : Nat := 0x1B1008
abbrev BAL_ETOT_HI : Nat := 0x1B100C
abbrev BAL_EVENT : Nat := 0x1B1010
abbrev BAL_HINT_CNT : Nat := 0x1B1014
abbrev TVL_CFG (n : Nat) : Nat := 0x1C0000 + 0x100 * n
abbrev TVL_STATUS (n : Nat) : Nat := 0x1C0008 + 0x100 * n
abbrev TVL_EVENT (n : Nat) : Nat := 0x1C000C + 0x100 * n
abbrev TVL_ERR (n : Nat) : Nat := 0x1C0010 + 0x100 * n
abbrev TVL_CNT (n : Nat) : Nat := 0x1C0014 + 0x100 * n
abbrev TVL_CRED (n : Nat) : Nat := 0x1C0018 + 0x100 * n
abbrev TVL_LAT (n : Nat) : Nat := 0x1C001C + 0x100 * n
abbrev TVL_GCFG : Nat := 0x1C1000
abbrev TVL_GSTATUS : Nat := 0x1C1004
abbrev TVL_GEVENT : Nat := 0x1C1008
abbrev TVL_DLQ_STAT (n : Nat) : Nat := 0x1C2000 + 0x20 * n
abbrev TVL_DLQ_W0 (n : Nat) : Nat := 0x1C2008 + 0x20 * n
abbrev TVL_DLQ_W1 (n : Nat) : Nat := 0x1C200C + 0x20 * n
abbrev TVL_DLQ_W2 (n : Nat) : Nat := 0x1C2010 + 0x20 * n
abbrev TVL_DLQ_W3 (n : Nat) : Nat := 0x1C2014 + 0x20 * n
abbrev DOM_ROLE : Nat := 0x1E0000
abbrev DOM_MEPOCH : Nat := 0x1E0004
abbrev DOM_EVENT : Nat := 0x1E0008
abbrev DOM_UP : Nat := 0x1E000C
abbrev DOM_HB_CFG : Nat := 0x1E0010
abbrev DOM_EPOCH_CFG : Nat := 0x1E0014
abbrev DOM_BUDGET : Nat := 0x1E0018
abbrev DOM_RAMP : Nat := 0x1E001C
abbrev DOM_ALLOC_CFG : Nat := 0x1E0020
abbrev DOM_GROUP_CFG : Nat := 0x1E0024
abbrev DOM_ABUF : Nat := 0x1E0028
abbrev DOM_GBUF : Nat := 0x1E002C
abbrev DOM_BT_CMP : Nat := 0x1E0030
abbrev DOM_CNT : Nat := 0x1E0034
abbrev DOM_MEMBERS : Nat := 0x1E0038
abbrev DOM_BT_SEAL : Nat := 0x1E0100
abbrev DOM_BT_STATUS : Nat := 0x1E0104
abbrev DOM_BT_STALE_CNT : Nat := 0x1E0108
abbrev DOM_GROUP (n : Nat) : Nat := 0x1E0200 + 0x4 * n
abbrev DOM_PFLOOR (n : Nat) : Nat := 0x1E0300 + 0x4 * n
abbrev DOM_BT_BANK (n k : Nat) : Nat := 0x1F0000 + 0x4000 * n + 0x4 * k
abbrev FWC_MODE : Nat := 0x200000
abbrev FWC_CORE_CFG (n : Nat) : Nat := 0x200100 + 0x20 * n
abbrev FWC_CORE_TAG (n : Nat) : Nat := 0x200104 + 0x20 * n
abbrev FWC_MISS_CNT (n : Nat) : Nat := 0x200108 + 0x20 * n
abbrev FWC_ECC_CNT (n : Nat) : Nat := 0x20010C + 0x20 * n
abbrev FWC_SELF (n : Nat) : Nat := 0x200110 + 0x20 * n
abbrev FWC_CORE_CTL (n : Nat) : Nat := 0x200114 + 0x20 * n
abbrev FWC_CORE_STATUS (n : Nat) : Nat := 0x200118 + 0x20 * n
abbrev FWC_WDOG (n : Nat) : Nat := 0x20011C + 0x20 * n
abbrev FWC_SRAM_ECC : Nat := 0x200400
abbrev FWC_EVENT : Nat := 0x200404
abbrev FWC_LD_CTL : Nat := 0x200408
abbrev FWC_LD_SRC : Nat := 0x20040C
abbrev FWC_LD_ADDR_LO : Nat := 0x200410
abbrev FWC_LD_ADDR_HI : Nat := 0x200414
abbrev FWC_LD_LEN : Nat := 0x200418
abbrev FWC_LD_RETAIN : Nat := 0x20041C
abbrev FWC_LD_STATUS : Nat := 0x200420
abbrev FWC_LD_FAIL_INFO : Nat := 0x200424
abbrev FWC_LIVE_CFG : Nat := 0x200428
abbrev FWC_LD_EVENT : Nat := 0x20042C
abbrev FWC_REL (n : Nat) : Nat := 0x200440 + 0x4 * n
abbrev HIR_DB_SQ (n : Nat) : Nat := 0x240000 + 0x10 * n
abbrev HIR_DB_CQ (n : Nat) : Nat := 0x240004 + 0x10 * n
abbrev HIR_RING_CFG (n : Nat) : Nat := 0x241000 + 0x20 * n
abbrev HIR_RING_SQ (n : Nat) : Nat := 0x241004 + 0x20 * n
abbrev HIR_RING_CQ_LO (n : Nat) : Nat := 0x241008 + 0x20 * n
abbrev HIR_RING_CQ_HI (n : Nat) : Nat := 0x24100C + 0x20 * n
abbrev HIR_RING_INT (n : Nat) : Nat := 0x241010 + 0x20 * n
abbrev HIR_RING_STATUS (n : Nat) : Nat := 0x241014 + 0x20 * n
abbrev HIR_RING_CNT (n : Nat) : Nat := 0x241018 + 0x20 * n
abbrev HIR_PART_FUNC (n : Nat) : Nat := 0x241800 + 0x4 * n
abbrev HIR_EVENT : Nat := 0x241900
abbrev HIR_TEL_CFG (n : Nat) : Nat := 0x242000 + 0x10 * n
abbrev HIR_TEL_SEL (n : Nat) : Nat := 0x242004 + 0x10 * n
abbrev REC_CTL : Nat := 0x260000
abbrev REC_CMD : Nat := 0x260004
abbrev REC_STATUS : Nat := 0x260008
abbrev REC_EVENT : Nat := 0x26000C
abbrev REC_HEAD_LO : Nat := 0x260010
abbrev REC_HEAD_HI : Nat := 0x260014
abbrev REC_TAIL_LO : Nat := 0x260018
abbrev REC_TAIL_HI : Nat := 0x26001C
abbrev REC_LOST : Nat := 0x260020
abbrev REC_WIN_SEL : Nat := 0x260024
abbrev REC_ARB_DROP (n : Nat) : Nat := 0x260040 + 0x4 * n
abbrev REC_SPILL_BASE_LO : Nat := 0x260100
abbrev REC_SPILL_BASE_HI : Nat := 0x260104
abbrev REC_SPILL_SIZE : Nat := 0x260108
abbrev REC_SPILL_NEXT_LO : Nat := 0x260110
abbrev REC_SPILL_NEXT_HI : Nat := 0x260114
abbrev REC_SPILL_CNT : Nat := 0x260118
abbrev REC_PUT_HDR (n : Nat) : Nat := 0x260200 + 0x20 * n
abbrev REC_PUT_ARG (n : Nat) : Nat := 0x260204 + 0x20 * n
abbrev REC_PUT_V0 (n : Nat) : Nat := 0x260208 + 0x20 * n
abbrev REC_PUT_V1 (n : Nat) : Nat := 0x26020C + 0x20 * n
abbrev REC_PUT_V2 (n : Nat) : Nat := 0x260210 + 0x20 * n
abbrev REC_PUT_V3 (n : Nat) : Nat := 0x260214 + 0x20 * n
abbrev REC_PUT_GO (n : Nat) : Nat := 0x260218 + 0x20 * n
abbrev REC_WIN (n : Nat) : Nat := 0x270000 + 0x4 * n
abbrev INT_PENDING : Nat := 0x280000
abbrev INT_MASK : Nat := 0x280004
abbrev INT_ROUTE (n : Nat) : Nat := 0x280100 + 0x4 * n
abbrev SBM_STATUS : Nat := 0x2A0000
abbrev SBM_EVENT : Nat := 0x2A0004
abbrev SBM_CNT : Nat := 0x2A0008
abbrev SBM_EID : Nat := 0x2A000C
abbrev SBM_BMC_CAP : Nat := 0x2A0010
abbrev SBM_PMB_STATUS (n : Nat) : Nat := 0x2A0020 + 0x4 * n
end Reg

/-! ## Register fields -/

namespace F
abbrev TOP_COMMIT_CTL_GO : Fld := ⟨0, 1⟩
abbrev TOP_COMMIT_CTL_MODE : Fld := ⟨1, 1⟩
abbrev TOP_COMMIT_CTL_CANCEL : Fld := ⟨2, 1⟩
abbrev TOP_COMMIT_STATUS_RESULT : Fld := ⟨0, 4⟩
abbrev TOP_COMMIT_STATUS_FAIL_GROUP : Fld := ⟨8, 8⟩
abbrev TOP_COMMIT_STATUS_PEND_GROUP : Fld := ⟨16, 8⟩
abbrev TOP_COMMIT_STATUS_SEQ : Fld := ⟨24, 8⟩
abbrev TOP_COMMIT_MASK_LO_GROUPS : Fld := ⟨0, 32⟩
abbrev TOP_COMMIT_MASK_HI_GROUPS : Fld := ⟨0, 16⟩
abbrev TOP_COMMIT_OWNER_OWNER : Fld := ⟨0, 1⟩
abbrev TOP_PLANE_VIOL_HOST : Fld := ⟨0, 1⟩
abbrev TOP_PLANE_VIOL_CTL : Fld := ⟨1, 1⟩
abbrev TOP_PLANE_VIOL_DATA : Fld := ⟨2, 1⟩
abbrev TOP_PLANE_VIOL_MGMT : Fld := ⟨3, 1⟩
abbrev TOP_PLANE_VIOL_OWNER : Fld := ⟨4, 1⟩
abbrev TB_STATUS_SERVO : Fld := ⟨0, 3⟩
abbrev TB_STATUS_ALIGNED : Fld := ⟨3, 1⟩
abbrev TB_STATUS_EVER_LOCKED : Fld := ⟨4, 1⟩
abbrev TB_STATUS_SLEWING : Fld := ⟨5, 1⟩
abbrev TB_STATUS_COMMIT_PENDING : Fld := ⟨6, 1⟩
abbrev TB_STATUS_DISCONT : Fld := ⟨7, 1⟩
abbrev TB_STATUS_PARENT : Fld := ⟨8, 3⟩
abbrev TB_EVENT_STEPPED : Fld := ⟨0, 1⟩
abbrev TB_EVENT_LOST_ALIGN : Fld := ⟨1, 1⟩
abbrev TB_EVENT_HOLDOVER : Fld := ⟨2, 1⟩
abbrev TB_EVENT_ACQUIRED : Fld := ⟨3, 1⟩
abbrev TB_EVENT_DISCONT : Fld := ⟨4, 1⟩
abbrev TB_EVENT_RATE_LIMIT : Fld := ⟨5, 1⟩
abbrev TB_EVENT_OUTLIER : Fld := ⟨6, 1⟩
abbrev TB_SERVO_CFG_INTERVAL : Fld := ⟨0, 4⟩
abbrev TB_SERVO_CFG_KP : Fld := ⟨4, 4⟩
abbrev TB_SERVO_CFG_KI : Fld := ⟨8, 4⟩
abbrev TB_SERVO_CFG_LOCK_COUNT : Fld := ⟨12, 4⟩
abbrev TB_SERVO_CFG_LOCK_WINDOW : Fld := ⟨16, 8⟩
abbrev TB_SERVO_CFG_STEP_EN : Fld := ⟨24, 1⟩
abbrev TB_HOLD_CFG_LIMIT : Fld := ⟨0, 16⟩
abbrev TB_PPS_CFG_EN : Fld := ⟨0, 1⟩
abbrev TB_PPS_CFG_PERIOD : Fld := ⟨1, 2⟩
abbrev TB_PPS_CFG_WIDTH : Fld := ⟨4, 8⟩
abbrev TB_ASYM_ASYM : Fld := ⟨0, 16⟩
abbrev TB_CAP_SRC_SOURCE : Fld := ⟨0, 5⟩
abbrev TB_CAP_SRC_EDGE : Fld := ⟨5, 1⟩
abbrev TOP_RST_CTL_LEVEL : Fld := ⟨0, 3⟩
abbrev TOP_RST_CTL_KEY : Fld := ⟨8, 8⟩
abbrev TOP_RST_STATUS_RESULT : Fld := ⟨0, 4⟩
abbrev TOP_RST_STATUS_LAST_LEVEL : Fld := ⟨4, 3⟩
abbrev TOP_RST_CAUSE_VAUX_POR : Fld := ⟨0, 1⟩
abbrev TOP_RST_CAUSE_PIN_POR : Fld := ⟨1, 1⟩
abbrev TOP_RST_CAUSE_RUNSUP : Fld := ⟨2, 1⟩
abbrev TOP_RST_CAUSE_DEVICE : Fld := ⟨3, 1⟩
abbrev TOP_RST_CAUSE_WARM : Fld := ⟨4, 1⟩
abbrev TOP_RST_CAUSE_CTL_PLANE : Fld := ⟨5, 1⟩
abbrev TOP_RST_CAUSE_DATA_PLANE : Fld := ⟨6, 1⟩
abbrev TOP_RST_CAUSE_MGMT_PLANE : Fld := ⟨7, 1⟩
abbrev TOP_RST_CAUSE_PERST : Fld := ⟨8, 1⟩
abbrev TOP_RST_CAUSE_SIDEBAND : Fld := ⟨9, 1⟩
abbrev TOP_RST_CAUSE_FROM_HALT : Fld := ⟨10, 1⟩
abbrev TOP_RST_CAUSE_FROM_BROWNOUT : Fld := ⟨11, 1⟩
abbrev TOP_STRAP_OVC : Fld := ⟨0, 2⟩
abbrev TOP_STRAP_CPOS : Fld := ⟨2, 2⟩
abbrev TOP_STRAP_SMBA : Fld := ⟨4, 3⟩
abbrev TOP_STRAP_TEST : Fld := ⟨7, 1⟩
abbrev TOP_SUPPLY_VAUX_OK : Fld := ⟨0, 1⟩
abbrev TOP_SUPPLY_VDD_PG : Fld := ⟨1, 1⟩
abbrev TOP_SUPPLY_VDDA18_PG : Fld := ⟨2, 1⟩
abbrev TOP_SUPPLY_VDDSD_PG : Fld := ⟨3, 1⟩
abbrev TOP_SUPPLY_VIN_ARMED : Fld := ⟨4, 1⟩
abbrev TOP_SUPPLY_VIN_ABOVE_WARN : Fld := ⟨5, 1⟩
abbrev TOP_SUPPLY_VHOLD_OK : Fld := ⟨6, 1⟩
abbrev TOP_SUPPLY_NVS_READY : Fld := ⟨7, 1⟩
abbrev TOP_SUPPLY_NVS_ERR : Fld := ⟨8, 1⟩
abbrev TOP_SUPPLY_SEC_OK : Fld := ⟨9, 1⟩
abbrev TOP_SUPPLY_STRAP_ERR : Fld := ⟨10, 1⟩
abbrev TOP_START_GO : Fld := ⟨0, 1⟩
abbrev TOP_START_STOP : Fld := ⟨1, 1⟩
abbrev TOP_START_STATUS_RESULT : Fld := ⟨0, 4⟩
abbrev TOP_START_STATUS_AUTO_START : Fld := ⟨4, 1⟩
abbrev TOP_START_STATUS_SOFT : Fld := ⟨8, 8⟩
abbrev TOP_START_STATUS_REG : Fld := ⟨16, 8⟩
abbrev TOP_START_CFG_AUTO : Fld := ⟨0, 1⟩
abbrev TOP_START_CFG_FW_GATE : Fld := ⟨1, 1⟩
abbrev SEC_IMG_CTL_GO : Fld := ⟨0, 1⟩
abbrev SEC_IMG_CTL_ABORT : Fld := ⟨1, 1⟩
abbrev SEC_IMG_SRC_SRC : Fld := ⟨0, 2⟩
abbrev SEC_IMG_LEN_LEN : Fld := ⟨0, 32⟩
abbrev SEC_IMG_STATUS_RESULT : Fld := ⟨0, 8⟩
abbrev SEC_IMG_STATUS_PHASE : Fld := ⟨8, 3⟩
abbrev SEC_IMG_STATUS_PARTIAL : Fld := ⟨11, 1⟩
abbrev SEC_IMG_STATUS_REGIONS : Fld := ⟨16, 12⟩
abbrev SEC_IMG_FAIL_INFO_ITEM : Fld := ⟨0, 16⟩
abbrev SEC_IMG_FAIL_INFO_BYTE : Fld := ⟨16, 16⟩
abbrev TOP_CFG_STATUS_SCRUB_ON : Fld := ⟨0, 1⟩
abbrev TOP_CFG_STATUS_REFILLING : Fld := ⟨1, 1⟩
abbrev TOP_CFG_STATUS_ACTIVE_BANK : Fld := ⟨2, 1⟩
abbrev TOP_CFG_EVENT_BENIGN : Fld := ⟨0, 1⟩
abbrev TOP_CFG_EVENT_SHADOW_REPAIR : Fld := ⟨1, 1⟩
abbrev TOP_CFG_EVENT_ACTIVE_FAULT : Fld := ⟨2, 1⟩
abbrev TOP_CFG_EVENT_UNCORRECTABLE : Fld := ⟨3, 1⟩
abbrev TOP_CFG_BENIGN_CNT_COUNT : Fld := ⟨0, 32⟩
abbrev TOP_CFG_REPAIR_CNT_SHADOW : Fld := ⟨0, 16⟩
abbrev TOP_CFG_REPAIR_CNT_ACTIVE : Fld := ⟨16, 16⟩
abbrev TOP_CFG_REFILL_CNT_COUNT : Fld := ⟨0, 32⟩
abbrev TOP_CFG_FAULT_FRAME_FRAME : Fld := ⟨0, 8⟩
abbrev TOP_CFG_FAULT_FRAME_BANK : Fld := ⟨8, 1⟩
abbrev FAB_STATUS_RUN : Fld := ⟨0, 1⟩
abbrev FAB_STATUS_XDEV_SYNC_OK : Fld := ⟨1, 1⟩
abbrev FAB_STATUS_TILES_USED : Fld := ⟨8, 8⟩
abbrev FAB_STATUS_SIGNALS_USED : Fld := ⟨16, 10⟩
abbrev FAB_EVENT_SAT : Fld := ⟨0, 1⟩
abbrev FAB_EVENT_PARITY : Fld := ⟨1, 1⟩
abbrev FAB_EVENT_XDEV_SYNC_ERR : Fld := ⟨2, 1⟩
abbrev FAB_EVENT_XDEV_FALLBACK : Fld := ⟨3, 1⟩
abbrev FAB_EVENT_PIN_ENTER : Fld := ⟨4, 1⟩
abbrev FAB_CONST_VALUE : Fld := ⟨0, 24⟩
abbrev FAB_PARAM_VALUE : Fld := ⟨0, 24⟩
abbrev FAB_PARAM_POINT : Fld := ⟨24, 5⟩
abbrev FAB_SIG_VALUE : Fld := ⟨0, 32⟩
abbrev CH_VSET_VSET : Fld := ⟨0, 12⟩
abbrev CH_LL_LL : Fld := ⟨0, 11⟩
abbrev CH_VSLEW_VSLEW : Fld := ⟨0, 8⟩
abbrev CH_CTRL_EN : Fld := ⟨0, 1⟩
abbrev CH_CTRL_SENSE_SEL : Fld := ⟨1, 1⟩
abbrev CH_CTRL_ALT_EN : Fld := ⟨2, 1⟩
abbrev CH_CTRL_DRIP_EN : Fld := ⟨3, 1⟩
abbrev CH_CTRL_SHED_EN : Fld := ⟨4, 1⟩
abbrev CH_CTRL_BAL_EN : Fld := ⟨5, 1⟩
abbrev CH_CTRL_AUTO_SENSE : Fld := ⟨6, 1⟩
abbrev CH_FSW_PERIOD : Fld := ⟨0, 15⟩
abbrev CH_FSW_MIN_ON : Fld := ⟨16, 8⟩
abbrev CH_FSW_MIN_OFF : Fld := ⟨24, 8⟩
abbrev CH_SS_SS_SLEW : Fld := ⟨0, 8⟩
abbrev CH_SS_DIS_SLEW : Fld := ⟨8, 8⟩
abbrev CH_SS_PG_WIN : Fld := ⟨16, 8⟩
abbrev CH_SS_PG_SETTLE : Fld := ⟨24, 8⟩
abbrev CH_PHASE_ADD_THR : Fld := ⟨0, 12⟩
abbrev CH_PHASE_SHED_THR : Fld := ⟨16, 12⟩
abbrev CH_PHASE2_MIN_PH : Fld := ⟨0, 7⟩
abbrev CH_PHASE2_ADD_DWELL : Fld := ⟨8, 8⟩
abbrev CH_PHASE2_SHED_DWELL : Fld := ⟨16, 8⟩
abbrev CH_PHASE2_FRANK_PH : Fld := ⟨24, 7⟩
abbrev CH_DRIP_ENTRY_I : Fld := ⟨0, 12⟩
abbrev CH_DRIP_EXIT_I : Fld := ⟨16, 12⟩
abbrev CH_DRIP2_BAND_HI : Fld := ⟨0, 8⟩
abbrev CH_DRIP2_BAND_LO : Fld := ⟨8, 8⟩
abbrev CH_DRIP2_ENTRY_T : Fld := ⟨16, 8⟩
abbrev CH_DRIP2_BURST_MAX : Fld := ⟨24, 8⟩
abbrev CH_BAL_GAIN : Fld := ⟨0, 4⟩
abbrev CH_BAL_LIM : Fld := ⟨8, 6⟩
abbrev CH_TRIM_ENV_FLOOR : Fld := ⟨0, 8⟩
abbrev CH_TRIM_ENV_CEIL : Fld := ⟨8, 8⟩
abbrev CH_TRIM_ENV_SLEW : Fld := ⟨16, 8⟩
abbrev CH_STATUS_STATE : Fld := ⟨0, 3⟩
abbrev CH_STATUS_DRIP : Fld := ⟨3, 1⟩
abbrev CH_STATUS_SHED : Fld := ⟨4, 1⟩
abbrev CH_STATUS_LOCKED : Fld := ⟨5, 1⟩
abbrev CH_STATUS_PAIR : Fld := ⟨6, 1⟩
abbrev CH_STATUS_BOOST : Fld := ⟨7, 1⟩
abbrev CH_STATUS_ACTIVE_PH : Fld := ⟨8, 7⟩
abbrev CH_STATUS_WIDE_ROLE : Fld := ⟨16, 2⟩
abbrev CH_STATUS_WIDE_LOSS : Fld := ⟨18, 1⟩
abbrev CH_STATUS_CAL : Fld := ⟨19, 1⟩
abbrev CH_STATUS_RAIL : Fld := ⟨20, 3⟩
abbrev CH_STATUS_IN_WINDOW : Fld := ⟨23, 1⟩
abbrev CH_EVENT_PG_EXCURSION : Fld := ⟨0, 1⟩
abbrev CH_EVENT_SENSE_SWITCH : Fld := ⟨1, 1⟩
abbrev CH_EVENT_SENSE_OPEN : Fld := ⟨2, 1⟩
abbrev CH_EVENT_BURST_EXIT : Fld := ⟨3, 1⟩
abbrev CH_EVENT_WIDE_LOSS : Fld := ⟨4, 1⟩
abbrev CH_EVENT_STAGE_FAULT : Fld := ⟨5, 1⟩
abbrev CH_EVENT_SS_FAIL : Fld := ⟨6, 1⟩
abbrev CH_EVENT_DIS_TIMEOUT : Fld := ⟨7, 1⟩
abbrev CH_VSENSE_VALUE : Fld := ⟨0, 16⟩
abbrev CH_VTARGET_VALUE : Fld := ⟨0, 16⟩
abbrev CH_I_VALUE : Fld := ⟨0, 32⟩
abbrev CH_CNT_ADDS : Fld := ⟨0, 16⟩
abbrev CH_CNT_SHEDS : Fld := ⟨16, 16⟩
abbrev CH_DRIP_CNT_ENTRIES : Fld := ⟨0, 16⟩
abbrev CH_DRIP_CNT_EXITS : Fld := ⟨16, 16⟩
abbrev PH_CFG_DISABLE : Fld := ⟨0, 1⟩
abbrev PH_CFG_BAL_EXCL : Fld := ⟨1, 1⟩
abbrev PH_STATUS_PSTATE : Fld := ⟨0, 3⟩
abbrev PH_I_VALUE : Fld := ⟨0, 16⟩
abbrev PH_T_VALUE : Fld := ⟨0, 16⟩
abbrev PH_BAL_TRIM : Fld := ⟨0, 16⟩
abbrev PH_FLT_STAGE_FAULT : Fld := ⟨0, 1⟩
abbrev PH_FLT_IMON_RANGE : Fld := ⟨1, 1⟩
abbrev PROT_IPK_IPK : Fld := ⟨0, 8⟩
abbrev PROT_IPK_SHORT_CNT : Fld := ⟨8, 6⟩
abbrev PROT_OV_LIMIT : Fld := ⟨0, 9⟩
abbrev PROT_OL_OL_LIMIT : Fld := ⟨0, 16⟩
abbrev PROT_OL_OL_EN : Fld := ⟨16, 1⟩
abbrev PROT_OL2_WINDOW : Fld := ⟨0, 9⟩
abbrev PROT_OL2_OL_TIME : Fld := ⟨16, 8⟩
abbrev PROT_OL2_OL_DUTY : Fld := ⟨24, 8⟩
abbrev PROT_THERM_CRIT : Fld := ⟨0, 12⟩
abbrev PROT_THERM_STAGE_TLIM : Fld := ⟨16, 12⟩
abbrev PROT_FUSE_IPK_MAX : Fld := ⟨0, 8⟩
abbrev PROT_FUSE_CRIT_MAX : Fld := ⟨8, 12⟩
abbrev PROT_THERM_LATCH_REPORT : Fld := ⟨0, 1⟩
abbrev PROT_THERM_LATCH_TRIP_IN : Fld := ⟨1, 1⟩
abbrev PROT_THERM_LATCH_WIRE : Fld := ⟨2, 4⟩
abbrev PROT_THERM_LATCH_DECAF_OV : Fld := ⟨6, 1⟩
abbrev PROT_CH_LATCH_OV : Fld := ⟨0, 8⟩
abbrev PROT_CH_LATCH_SHORT : Fld := ⟨8, 8⟩
abbrev PROT_CH_LATCH_OL : Fld := ⟨16, 8⟩
abbrev PROT_STATUS_OL_THROTTLE : Fld := ⟨0, 8⟩
abbrev PROT_STATUS_CROWBAR : Fld := ⟨8, 8⟩
abbrev PROT_STATUS_TRIP_OUT : Fld := ⟨16, 1⟩
abbrev PROT_SHORT_INFO_PHASE : Fld := ⟨0, 6⟩
abbrev PROT_SHORT_INFO_RAIL : Fld := ⟨8, 3⟩
abbrev PROT_EVENT_CLR_REFUSED : Fld := ⟨0, 1⟩
abbrev PROT_EVENT_OV_SELFTEST : Fld := ⟨1, 1⟩
abbrev PROT_EVENT_PEAK : Fld := ⟨2, 1⟩
abbrev PROT_EVENT_OL_ENTER : Fld := ⟨3, 1⟩
abbrev PROT_EVENT_STAGE_OT : Fld := ⟨4, 1⟩
abbrev PROT_PK_CNT_COUNT : Fld := ⟨0, 16⟩
abbrev LAD_VIN_CFG_WARN : Fld := ⟨0, 10⟩
abbrev LAD_VIN_CFG_RST : Fld := ⟨16, 10⟩
abbrev LAD_VIN_CFG2_HYST : Fld := ⟨0, 6⟩
abbrev LAD_VAUX_CFG2_HYST : Fld := ⟨0, 6⟩
abbrev LAD_VIN_CFG2_RST_FILT : Fld := ⟨8, 4⟩
abbrev LAD_VAUX_CFG2_RST_FILT : Fld := ⟨8, 4⟩
abbrev LAD_VIN_CFG2_WARN_FILT : Fld := ⟨16, 4⟩
abbrev LAD_VAUX_CFG2_WARN_FILT : Fld := ⟨16, 4⟩
abbrev LAD_VIN_CFG2_WARN_HOLD : Fld := ⟨24, 8⟩
abbrev LAD_VAUX_CFG2_WARN_HOLD : Fld := ⟨24, 8⟩
abbrev LAD_VIN_HI_HI : Fld := ⟨0, 10⟩
abbrev LAD_VAUX_CFG_WARN : Fld := ⟨0, 9⟩
abbrev LAD_VAUX_CFG_RST : Fld := ⟨16, 9⟩
abbrev LAD_ACT_VIN_SHED : Fld := ⟨0, 1⟩
abbrev LAD_ACT_VIN_BAL_REL : Fld := ⟨1, 1⟩
abbrev LAD_ACT_VAUX_SHED : Fld := ⟨2, 1⟩
abbrev LAD_ACT_VAUX_BAL_REL : Fld := ⟨3, 1⟩
abbrev LAD_ACT_SHED_LEVEL : Fld := ⟨8, 8⟩
abbrev LAD_STATUS_VIN_WARN : Fld := ⟨0, 1⟩
abbrev LAD_STATUS_VAUX_WARN : Fld := ⟨1, 1⟩
abbrev LAD_STATUS_VIN_HI : Fld := ⟨2, 1⟩
abbrev LAD_STATUS_VIN_CAUSE : Fld := ⟨3, 1⟩
abbrev LAD_STATUS_VAUX_CAUSE : Fld := ⟨4, 1⟩
abbrev LAD_STATUS_RECOVERING : Fld := ⟨5, 1⟩
abbrev LAD_STATUS_TAIL_BUSY : Fld := ⟨6, 1⟩
abbrev LAD_EVENT_VIN_WARN : Fld := ⟨0, 1⟩
abbrev LAD_EVENT_VIN_RST : Fld := ⟨1, 1⟩
abbrev LAD_EVENT_VAUX_WARN : Fld := ⟨2, 1⟩
abbrev LAD_EVENT_VAUX_RST : Fld := ⟨3, 1⟩
abbrev LAD_EVENT_VIN_HI : Fld := ⟨4, 1⟩
abbrev LAD_EVENT_GLITCH : Fld := ⟨5, 1⟩
abbrev LAD_EVENT_TAIL_DONE : Fld := ⟨6, 1⟩
abbrev LAD_EVENT_TAIL_FAIL : Fld := ⟨7, 1⟩
abbrev LAD_EVENT_VHOLD_LOW : Fld := ⟨8, 1⟩
abbrev LAD_VIN_VALUE : Fld := ⟨0, 16⟩
abbrev LAD_VAUX_VALUE : Fld := ⟨0, 16⟩
abbrev LAD_VHOLD_VALUE : Fld := ⟨0, 16⟩
abbrev LAD_CNT_WARNINGS : Fld := ⟨0, 8⟩
abbrev LAD_CNT_BROWNOUTS : Fld := ⟨8, 8⟩
abbrev LAD_CNT_GLITCHES : Fld := ⟨16, 16⟩
abbrev PB_DIE_CFG_D : Fld := ⟨0, 4⟩
abbrev PB_DIE_CFG_HOLD_K : Fld := ⟨4, 4⟩
abbrev PB_DIE_CFG_HYST : Fld := ⟨8, 4⟩
abbrev PB_DIE_CFG_VREP_INT : Fld := ⟨12, 4⟩
abbrev PB_DIE_CFG_TEMP_INT : Fld := ⟨16, 4⟩
abbrev PB_DIE_CFG_CPM_INT : Fld := ⟨20, 4⟩
abbrev PB_DIE_CFG_STR_INT : Fld := ⟨24, 4⟩
abbrev PB_DIE_STATUS_LINK : Fld := ⟨0, 3⟩
abbrev PB_DIE_STATUS_CORE_ON : Fld := ⟨3, 1⟩
abbrev PB_DIE_STATUS_ARMED : Fld := ⟨4, 1⟩
abbrev PB_DIE_STATUS_CAL_OK : Fld := ⟨5, 1⟩
abbrev PB_DIE_STATUS_CFG_SYNC : Fld := ⟨6, 1⟩
abbrev PB_DIE_STATUS_TEMP_STALE : Fld := ⟨7, 1⟩
abbrev PB_DIE_STATUS_DROOP : Fld := ⟨8, 1⟩
abbrev PB_DIE_STATUS_DROOP_STUCK : Fld := ⟨9, 1⟩
abbrev PB_DIE_STATUS_TRIP : Fld := ⟨10, 1⟩
abbrev PB_DIE_EVENT_LINK_UP : Fld := ⟨0, 1⟩
abbrev PB_DIE_EVENT_LANE_FAIL : Fld := ⟨1, 1⟩
abbrev PB_DIE_EVENT_FALLBACK : Fld := ⟨2, 1⟩
abbrev PB_DIE_EVENT_CRC : Fld := ⟨3, 1⟩
abbrev PB_DIE_EVENT_SEQ_GAP : Fld := ⟨4, 1⟩
abbrev PB_DIE_EVENT_DROOP : Fld := ⟨5, 1⟩
abbrev PB_DIE_EVENT_DROOP_STUCK : Fld := ⟨6, 1⟩
abbrev PB_DIE_EVENT_SITE_FAULT : Fld := ⟨7, 1⟩
abbrev PB_DIE_EVENT_CAL_FAIL : Fld := ⟨8, 1⟩
abbrev PB_DIE_EVENT_FACK_TIMEOUT : Fld := ⟨9, 1⟩
abbrev PB_LAT_L_DOWN : Fld := ⟨0, 12⟩
abbrev PB_LAT_L_UP : Fld := ⟨16, 12⟩
abbrev PB_ERR_CNT_CRC : Fld := ⟨0, 16⟩
abbrev PB_ERR_CNT_RESENDS : Fld := ⟨16, 8⟩
abbrev PB_ERR_CNT_RETRAINS : Fld := ⟨24, 8⟩
abbrev PB_BOOST_BOOST_EN : Fld := ⟨0, 1⟩
abbrev PB_BOOST_EARLY_EN : Fld := ⟨1, 1⟩
abbrev PB_BOOST_BOOST_T : Fld := ⟨2, 6⟩
abbrev PB_BOOST_BOOST_REL : Fld := ⟨8, 6⟩
abbrev PB_BOOST_BOOST_GAP : Fld := ⟨16, 8⟩
abbrev PB_BOOST_SETTLE : Fld := ⟨24, 8⟩
abbrev PB_CHMIN_VALUE : Fld := ⟨0, 16⟩
abbrev PB_CHMIN_VALID : Fld := ⟨31, 1⟩
abbrev PB_BOOST_CNT_BOOSTS : Fld := ⟨0, 16⟩
abbrev PB_BOOST_CNT_EARLY : Fld := ⟨16, 16⟩
abbrev PB_FREEZE_CNT_FREEZES : Fld := ⟨0, 16⟩
abbrev PB_RAIL_STATUS_BOOST : Fld := ⟨0, 1⟩
abbrev PB_RAIL_STATUS_FROZEN : Fld := ⟨1, 1⟩
abbrev PB_RAIL_STATUS_GAP : Fld := ⟨2, 1⟩
abbrev PB_MIN_ARM_CH : Fld := ⟨0, 8⟩
abbrev PB_MIN_ARM_DIE : Fld := ⟨8, 4⟩
abbrev PB_STUCK_CFG_STUCK : Fld := ⟨0, 8⟩
abbrev PB_THR_THR : Fld := ⟨0, 8⟩
abbrev PB_THR_DIS : Fld := ⟨8, 1⟩
abbrev PB_THR_CPM : Fld := ⟨9, 4⟩
abbrev PB_SMIN_VALUE : Fld := ⟨0, 16⟩
abbrev PB_SMIN_VALID : Fld := ⟨31, 1⟩
abbrev PB_SVOLT_VALUE : Fld := ⟨0, 16⟩
abbrev PB_SVOLT_VALID : Fld := ⟨31, 1⟩
abbrev PB_SITE_TEMP : Fld := ⟨0, 16⟩
abbrev PB_SITE_MARGIN : Fld := ⟨16, 16⟩
abbrev PB_PART_CFG_SAFE_N : Fld := ⟨0, 11⟩
abbrev PB_PART_CFG_FSTEP : Fld := ⟨16, 8⟩
abbrev PB_PART_CFG_FSTEP_T : Fld := ⟨24, 8⟩
abbrev PB_FREQ_N_CUR : Fld := ⟨0, 11⟩
abbrev PB_FREQ_N_TGT : Fld := ⟨16, 11⟩
abbrev PB_FREQ_UP_PENDING : Fld := ⟨28, 1⟩
abbrev PB_FREQ_FROZEN : Fld := ⟨29, 1⟩
abbrev PB_FREQ_FALLBACK : Fld := ⟨30, 1⟩
abbrev PB_FRZ_CNT_HELD : Fld := ⟨0, 16⟩
abbrev EST_CFG_W : Fld := ⟨0, 6⟩
abbrev EST_CFG_CONF_THR : Fld := ⟨8, 8⟩
abbrev EST_CFG_NCR_T : Fld := ⟨16, 8⟩
abbrev EST_CRACK_CFG_DRIFT_MARGIN : Fld := ⟨0, 8⟩
abbrev EST_CRACK_CFG_DRIFT_T : Fld := ⟨8, 8⟩
abbrev EST_CRACK_CFG_STEP_THR : Fld := ⟨16, 4⟩
abbrev EST_CRACK_CFG_STEP_CONFIRM : Fld := ⟨20, 4⟩
abbrev EST_CRACK_CFG_AGE : Fld := ⟨24, 4⟩
abbrev EST_CRACK_CFG_DERATE_EN : Fld := ⟨28, 1⟩
abbrev EST_CRACK_CFG_DERATE : Fld := ⟨29, 3⟩
abbrev EST_CMD_REGION : Fld := ⟨0, 8⟩
abbrev EST_CMD_ALL : Fld := ⟨8, 1⟩
abbrev EST_CMD_OP : Fld := ⟨9, 2⟩
abbrev EST_CMD_TAG : Fld := ⟨12, 4⟩
abbrev EST_CMD_CAP_T : Fld := ⟨16, 8⟩
abbrev EST_BASE_BASE : Fld := ⟨0, 24⟩
abbrev EST_BASE_VALID : Fld := ⟨31, 1⟩
abbrev CH_DITH_AMP : Fld := ⟨0, 4⟩
abbrev CH_CAL_CAL_EN : Fld := ⟨0, 1⟩
abbrev CH_CAL_CAL_INT : Fld := ⟨8, 8⟩
abbrev CH_CAL_CAL_SETTLE : Fld := ⟨16, 4⟩
abbrev CH_CAL_CAL_AVG : Fld := ⟨20, 4⟩
abbrev CH_CAL_OFF_STEP : Fld := ⟨24, 4⟩
abbrev CH_CAL_OFF_MAX : Fld := ⟨28, 4⟩
abbrev EST_STATUS_RUN : Fld := ⟨0, 1⟩
abbrev EST_STATUS_CONF : Fld := ⟨8, 8⟩
abbrev EST_STATUS_NCR : Fld := ⟨16, 8⟩
abbrev EST_EVENT_DRIFT : Fld := ⟨0, 1⟩
abbrev EST_EVENT_STEP : Fld := ⟨1, 1⟩
abbrev EST_EVENT_NCR_ENTER : Fld := ⟨2, 1⟩
abbrev EST_EVENT_NCR_EXIT : Fld := ⟨3, 1⟩
abbrev EST_EVENT_CAP_DONE : Fld := ⟨4, 1⟩
abbrev EST_EVENT_CAP_FAIL : Fld := ⟨5, 1⟩
abbrev EST_EVENT_DERATE : Fld := ⟨6, 1⟩
abbrev EST_RGN_EVENT_DRIFT : Fld := ⟨0, 1⟩
abbrev EST_RGN_EVENT_STEP : Fld := ⟨1, 1⟩
abbrev EST_RGN_EVENT_NCR_ENTER : Fld := ⟨2, 1⟩
abbrev EST_RGN_EVENT_NCR_EXIT : Fld := ⟨3, 1⟩
abbrev EST_RGN_EVENT_CAP_DONE : Fld := ⟨4, 1⟩
abbrev EST_RGN_EVENT_CAP_FAIL : Fld := ⟨5, 1⟩
abbrev EST_RGN_EVENT_DERATE : Fld := ⟨6, 1⟩
abbrev EST_CAP_STATUS_REGION : Fld := ⟨0, 8⟩
abbrev EST_CAP_STATUS_BUSY : Fld := ⟨8, 1⟩
abbrev EST_CAP_STATUS_DONE : Fld := ⟨9, 1⟩
abbrev EST_CAP_STATUS_FAIL : Fld := ⟨10, 1⟩
abbrev EST_CAP_STATUS_TAG : Fld := ⟨12, 4⟩
abbrev EST_CAP_STATUS_COLLECTED : Fld := ⟨16, 16⟩
abbrev EST_LL_LL : Fld := ⟨0, 16⟩
abbrev EST_LL_CONF_REL_ERR : Fld := ⟨0, 10⟩
abbrev EST_CONF_REL_ERR : Fld := ⟨0, 10⟩
abbrev EST_LL_CONF_CONFIDENT : Fld := ⟨31, 1⟩
abbrev EST_R_R : Fld := ⟨0, 24⟩
abbrev EST_R_NONE : Fld := ⟨30, 1⟩
abbrev EST_R_CONFIDENT : Fld := ⟨31, 1⟩
abbrev EST_CONF_NCR : Fld := ⟨16, 1⟩
abbrev EST_CONF_DRIFT : Fld := ⟨17, 1⟩
abbrev EST_CONF_STEP_PEND : Fld := ⟨18, 1⟩
abbrev EST_CONF_DERATED : Fld := ⟨19, 1⟩
abbrev EST_CONF_FROZEN : Fld := ⟨20, 1⟩
abbrev EST_REF_REF : Fld := ⟨0, 24⟩
abbrev EST_REF_STEP_TOL : Fld := ⟨24, 8⟩
abbrev EST_RGN_CNT_DRIFTS : Fld := ⟨0, 8⟩
abbrev EST_RGN_CNT_STEPS : Fld := ⟨8, 8⟩
abbrev EST_RGN_CNT_NCR_TIME : Fld := ⟨16, 16⟩
abbrev CH_CAL_CNT_VISITS : Fld := ⟨0, 16⟩
abbrev CH_CAL_CNT_INCOMPLETE : Fld := ⟨16, 8⟩
abbrev CH_CAL_CNT_RANGE : Fld := ⟨24, 8⟩
abbrev PH_OFF_OFFSET : Fld := ⟨0, 16⟩
abbrev PH_OFF_VALID : Fld := ⟨16, 1⟩
abbrev PH_OFF_CAL_RANGE : Fld := ⟨17, 1⟩
abbrev PH_OFF_AGE : Fld := ⟨24, 8⟩
abbrev CAP_REQ_N : Fld := ⟨0, 11⟩
abbrev CAP_MAN_N : Fld := ⟨0, 11⟩
abbrev CAP_ENV_FMAX : Fld := ⟨0, 11⟩
abbrev CAP_ENV_FMIN : Fld := ⟨16, 11⟩
abbrev CAP_ENV2_SLEW : Fld := ⟨0, 8⟩
abbrev CAP_ENV2_HEAD : Fld := ⟨8, 8⟩
abbrev CAP_PWR_CFG_WEIGHT : Fld := ⟨0, 8⟩
abbrev CAP_PWR_CFG_KPOW : Fld := ⟨8, 8⟩
abbrev CAP_THM_CFG_TTGT : Fld := ⟨0, 12⟩
abbrev CAP_THM_CFG_TGUARD : Fld := ⟨16, 4⟩
abbrev CAP_THM_CFG_KTH : Fld := ⟨24, 8⟩
abbrev CAP_GCEIL_N : Fld := ⟨0, 11⟩
abbrev CAP_GCEIL_REASON : Fld := ⟨16, 4⟩
abbrev CAP_GCEIL_OWN : Fld := ⟨20, 1⟩
abbrev CAP_STATUS_N_REQ : Fld := ⟨0, 11⟩
abbrev CAP_STATUS_N_TGT : Fld := ⟨16, 11⟩
abbrev CAP_STATUS_LOCKED : Fld := ⟨27, 1⟩
abbrev CAP_STATUS_GUARD : Fld := ⟨28, 1⟩
abbrev CAP_STATUS_ACCT : Fld := ⟨29, 1⟩
abbrev CAP_BIND_BIND : Fld := ⟨0, 16⟩
abbrev CAP_LOOP_N_POW : Fld := ⟨0, 11⟩
abbrev CAP_LOOP_N_TH : Fld := ⟨16, 11⟩
abbrev CAP_PROP_N : Fld := ⟨0, 11⟩
abbrev CAP_PROP_REASON : Fld := ⟨16, 4⟩
abbrev CAP_PWR_P : Fld := ⟨0, 16⟩
abbrev CAP_PWR_P_LIM : Fld := ⟨16, 16⟩
abbrev CAP_TEMP_T_MAX : Fld := ⟨0, 16⟩
abbrev CAP_DUTY_DUTY : Fld := ⟨0, 11⟩
abbrev CAP_RCNT_COUNT : Fld := ⟨0, 32⟩
abbrev CAP_SNAP_CNT_COUNT : Fld := ⟨0, 32⟩
abbrev CAP_RDUR_HI_DUR : Fld := ⟨0, 16⟩
abbrev CAP_SNAP_DUR_HI_DUR : Fld := ⟨0, 16⟩
abbrev CAP_SNAP_CTL_GO : Fld := ⟨0, 1⟩
abbrev CAP_SNAP_CTL_CLEAR : Fld := ⟨1, 1⟩
abbrev CAP_SNAP_CTL_PART : Fld := ⟨8, 5⟩
abbrev CAP_SNAP_STATUS_STATE : Fld := ⟨0, 2⟩
abbrev CAP_SNAP_STATUS_PART : Fld := ⟨8, 5⟩
abbrev CAP_SNAP_STATUS_SEQ : Fld := ⟨16, 16⟩
abbrev CAP_BOARD_BOARD_CAP : Fld := ⟨0, 16⟩
abbrev CAP_IIN_IIN_LIM : Fld := ⟨0, 12⟩
abbrev CAP_IIN_EFF : Fld := ⟨16, 8⟩
abbrev CAP_CONT_CFG_CONT_T : Fld := ⟨0, 16⟩
abbrev CAP_CONT_CNT_COUNT : Fld := ⟨0, 16⟩
abbrev CAP_PIN_TIME_MS : Fld := ⟨0, 32⟩
abbrev FQ_STATUS_FIXED : Fld := ⟨0, 1⟩
abbrev FQ_STATUS_SHED_HOLD : Fld := ⟨1, 1⟩
abbrev FQ_STATUS_RAMP_HOLD : Fld := ⟨2, 1⟩
abbrev FQ_STATUS_ARMED : Fld := ⟨8, 4⟩
abbrev FQ_STATUS_S : Fld := ⟨16, 8⟩
abbrev FQ_EVENT_FORCED : Fld := ⟨0, 1⟩
abbrev FQ_EVENT_CANCEL : Fld := ⟨1, 1⟩
abbrev FQ_EVENT_BAD : Fld := ⟨2, 1⟩
abbrev FQ_EVENT_OVERFLOW : Fld := ⟨3, 1⟩
abbrev FQ_EVENT_FIXED_ENTER : Fld := ⟨4, 1⟩
abbrev FQ_EVENT_GRANT_IGNORED : Fld := ⟨5, 1⟩
abbrev FQ_EVENT_RESEND : Fld := ⟨6, 1⟩
abbrev FQ_RAMP_RAMP_UP : Fld := ⟨0, 16⟩
abbrev FQ_RAMP_RAMP_DN : Fld := ⟨16, 16⟩
abbrev FQ_RAMP2_RWIN : Fld := ⟨0, 14⟩
abbrev FQ_PRE_PRE_LEAD : Fld := ⟨0, 10⟩
abbrev FQ_PRE_PRE_SLEW : Fld := ⟨16, 8⟩
abbrev FQ_PRE_PRE_HOLD : Fld := ⟨24, 8⟩
abbrev FQ_STAG_SLOTS_LOG : Fld := ⟨0, 4⟩
abbrev FQ_STAG_SLOT_T : Fld := ⟨8, 8⟩
abbrev FQ_STAG_SLOT_SEL : Fld := ⟨16, 10⟩
abbrev FQ_STAG_SLOT_OVR : Fld := ⟨31, 1⟩
abbrev FQ_STAG2_S_MIN : Fld := ⟨0, 8⟩
abbrev FQ_STAG2_S_MAX : Fld := ⟨8, 8⟩
abbrev FQ_STAG2_S_STEP : Fld := ⟨16, 8⟩
abbrev FQ_STAG2_QUIET_LOG : Fld := ⟨24, 4⟩
abbrev FQ_STAG2_WATCH : Fld := ⟨28, 4⟩
abbrev FQ_SCHED_SCHED_TO : Fld := ⟨0, 16⟩
abbrev FQ_SCHED_FR_MIN : Fld := ⟨16, 8⟩
abbrev FQ_SCHED_FR_MAX : Fld := ⟨24, 8⟩
abbrev FQ_GRANT_QUEUE : Fld := ⟨0, 6⟩
abbrev FQ_GRANT_GO : Fld := ⟨8, 1⟩
abbrev FQ_PWR_P : Fld := ⟨0, 16⟩
abbrev FQ_PWR_R_PEND : Fld := ⟨16, 16⟩
abbrev FQ_CD_C : Fld := ⟨0, 16⟩
abbrev FQ_CD_D : Fld := ⟨16, 16⟩
abbrev FQ_CNT_HEAVY : Fld := ⟨0, 16⟩
abbrev FQ_CNT_LIGHT : Fld := ⟨16, 16⟩
abbrev FQ_CNT2_FORCED : Fld := ⟨0, 8⟩
abbrev FQ_CNT2_CANCELLED : Fld := ⟨8, 8⟩
abbrev FQ_CNT2_BAD : Fld := ⟨16, 8⟩
abbrev FQ_CNT2_RESENDS : Fld := ⟨24, 8⟩
abbrev FQ_CLASS_DI : Fld := ⟨0, 12⟩
abbrev FQ_CLASS_HEAVY : Fld := ⟨12, 1⟩
abbrev FQ_CLASS_PRE : Fld := ⟨16, 8⟩
abbrev FQ_STEP_ISTEP : Fld := ⟨0, 12⟩
abbrev FQ_STEP_STEP_WIN : Fld := ⟨16, 8⟩
abbrev FQ_PCFG_FORCE_N : Fld := ⟨0, 11⟩
abbrev FQ_PCFG_FORCE_T : Fld := ⟨16, 8⟩
abbrev FQ_QCFG_DEADLINE : Fld := ⟨0, 16⟩
abbrev FQ_QCFG_WEIGHT : Fld := ⟨16, 8⟩
abbrev FQ_QCFG_EN : Fld := ⟨24, 1⟩
abbrev FQ_HEAD_CLASS : Fld := ⟨0, 4⟩
abbrev FQ_HEAD_PART : Fld := ⟨4, 5⟩
abbrev FQ_HEAD_TAG : Fld := ⟨9, 12⟩
abbrev FQ_HEAD_DUR : Fld := ⟨21, 11⟩
abbrev FQ_QSTAT_DEPTH : Fld := ⟨0, 6⟩
abbrev FQ_QSTAT_ARMED : Fld := ⟨6, 1⟩
abbrev FQ_QSTAT_AGE : Fld := ⟨8, 24⟩
abbrev FQ_FRINT_FRINT : Fld := ⟨0, 16⟩
abbrev BAL_CFG_PMAX : Fld := ⟨0, 16⟩
abbrev BAL_CFG_PRE : Fld := ⟨16, 8⟩
abbrev BAL_ENV_FLOOR : Fld := ⟨0, 8⟩
abbrev BAL_ENV_CEIL : Fld := ⟨8, 8⟩
abbrev BAL_ENV_SLEW : Fld := ⟨16, 8⟩
abbrev BAL_LVL_LEVEL : Fld := ⟨0, 8⟩
abbrev BAL_LVL_CEIL_EFF : Fld := ⟨8, 8⟩
abbrev BAL_LVL_ELIG : Fld := ⟨16, 1⟩
abbrev BAL_LVL_THERM : Fld := ⟨17, 1⟩
abbrev BAL_LVL_BUSY : Fld := ⟨18, 1⟩
abbrev BAL_PWR_VALUE : Fld := ⟨0, 16⟩
abbrev BAL_Q_VALUE : Fld := ⟨0, 16⟩
abbrev BAL_E_LO_ENERGY : Fld := ⟨0, 32⟩
abbrev BAL_E_HI_ENERGY : Fld := ⟨0, 32⟩
abbrev BAL_ETOT_LO_ENERGY : Fld := ⟨0, 32⟩
abbrev BAL_ETOT_HI_ENERGY : Fld := ⟨0, 32⟩
abbrev BAL_STATUS_LOOP_ON : Fld := ⟨0, 1⟩
abbrev BAL_STATUS_RELEASED : Fld := ⟨1, 1⟩
abbrev BAL_EVENT_RELEASE_WARN : Fld := ⟨0, 1⟩
abbrev BAL_EVENT_RELEASE_THERM : Fld := ⟨1, 1⟩
abbrev BAL_EVENT_HINT : Fld := ⟨2, 1⟩
abbrev BAL_EVENT_BALE_GAP : Fld := ⟨3, 1⟩
abbrev BAL_HINT_CNT_BEGIN : Fld := ⟨0, 16⟩
abbrev BAL_HINT_CNT_END : Fld := ⟨16, 16⟩
abbrev TVL_CFG_EN : Fld := ⟨0, 1⟩
abbrev TVL_CFG_REPLAY_TO : Fld := ⟨4, 8⟩
abbrev TVL_CFG_REPLAY_MAX : Fld := ⟨12, 4⟩
abbrev TVL_CFG_CRED_TO : Fld := ⟨16, 16⟩
abbrev TVL_STATUS_STATE : Fld := ⟨0, 3⟩
abbrev TVL_STATUS_ROLE : Fld := ⟨3, 2⟩
abbrev TVL_STATUS_TREE : Fld := ⟨5, 1⟩
abbrev TVL_STATUS_PEER_NODE : Fld := ⟨6, 10⟩
abbrev TVL_STATUS_PEER_LANE : Fld := ⟨16, 4⟩
abbrev TVL_STATUS_PEER_CPOS : Fld := ⟨20, 2⟩
abbrev TVL_STATUS_LAT_ERR : Fld := ⟨22, 1⟩
abbrev TVL_EVENT_LINK_UP : Fld := ⟨0, 1⟩
abbrev TVL_EVENT_LINK_DOWN : Fld := ⟨1, 1⟩
abbrev TVL_EVENT_MISMATCH : Fld := ⟨2, 1⟩
abbrev TVL_EVENT_LOCK_LOSS : Fld := ⟨3, 1⟩
abbrev TVL_EVENT_REPLAY_LIMIT : Fld := ⟨4, 1⟩
abbrev TVL_EVENT_CRED_TIMEOUT : Fld := ⟨5, 1⟩
abbrev TVL_EVENT_CELL_CHECK : Fld := ⟨6, 1⟩
abbrev TVL_EVENT_LAT_ERR : Fld := ⟨7, 1⟩
abbrev TVL_ERR_HDR : Fld := ⟨0, 16⟩
abbrev TVL_ERR_FRAME_CRC : Fld := ⟨16, 8⟩
abbrev TVL_ERR_CELL : Fld := ⟨24, 8⟩
abbrev TVL_CNT_REPLAYS : Fld := ⟨0, 16⟩
abbrev TVL_CNT_RETRAINS : Fld := ⟨16, 8⟩
abbrev TVL_CNT_DUP : Fld := ⟨24, 8⟩
abbrev TVL_CRED_C0 : Fld := ⟨0, 3⟩
abbrev TVL_CRED_C1 : Fld := ⟨8, 8⟩
abbrev TVL_CRED_C2 : Fld := ⟨16, 8⟩
abbrev TVL_CRED_C3 : Fld := ⟨24, 8⟩
abbrev TVL_LAT_LAT : Fld := ⟨0, 12⟩
abbrev TVL_GCFG_CELL_GAP : Fld := ⟨0, 8⟩
abbrev TVL_GCFG_REPEAT : Fld := ⟨8, 1⟩
abbrev TVL_GCFG_RTO : Fld := ⟨16, 8⟩
abbrev TVL_GSTATUS_NODE : Fld := ⟨0, 10⟩
abbrev TVL_GSTATUS_CPOS : Fld := ⟨10, 2⟩
abbrev TVL_GSTATUS_IN_DOMAIN : Fld := ⟨12, 1⟩
abbrev TVL_GSTATUS_ORIGIN : Fld := ⟨16, 5⟩
abbrev TVL_GEVENT_ORIGIN_FULL : Fld := ⟨0, 1⟩
abbrev TVL_GEVENT_DLQ : Fld := ⟨1, 1⟩
abbrev TVL_GEVENT_REDUCE_PARTIAL : Fld := ⟨2, 1⟩
abbrev TVL_GEVENT_REDUCE_MISMATCH : Fld := ⟨3, 1⟩
abbrev TVL_DLQ_STAT_DEPTH : Fld := ⟨0, 5⟩
abbrev TVL_DLQ_STAT_LOST : Fld := ⟨16, 16⟩
abbrev TVL_DLQ_W0_ENTRY : Fld := ⟨0, 32⟩
abbrev TVL_DLQ_W1_ENTRY : Fld := ⟨0, 32⟩
abbrev TVL_DLQ_W2_ENTRY : Fld := ⟨0, 32⟩
abbrev TVL_DLQ_W3_ENTRY : Fld := ⟨0, 32⟩
abbrev DOM_ROLE_ROLE : Fld := ⟨0, 3⟩
abbrev DOM_ROLE_MASTER_LOST : Fld := ⟨3, 1⟩
abbrev DOM_ROLE_FO_ARMED : Fld := ⟨4, 1⟩
abbrev DOM_ROLE_NO_STANDBY : Fld := ⟨5, 1⟩
abbrev DOM_ROLE_REROOTED : Fld := ⟨6, 1⟩
abbrev DOM_ROLE_BT_FAULT : Fld := ⟨7, 1⟩
abbrev DOM_ROLE_MASTER_NODE : Fld := ⟨16, 10⟩
abbrev DOM_MEPOCH_EPOCH : Fld := ⟨0, 32⟩
abbrev DOM_EVENT_FAILOVER : Fld := ⟨0, 1⟩
abbrev DOM_EVENT_YIELD : Fld := ⟨1, 1⟩
abbrev DOM_EVENT_MASTER_LOST : Fld := ⟨2, 1⟩
abbrev DOM_EVENT_STALE_SRC : Fld := ⟨3, 1⟩
abbrev DOM_EVENT_BENIGN : Fld := ⟨4, 1⟩
abbrev DOM_EVENT_LIVE : Fld := ⟨5, 1⟩
abbrev DOM_EVENT_REFUSE : Fld := ⟨6, 1⟩
abbrev DOM_EVENT_JOIN : Fld := ⟨7, 1⟩
abbrev DOM_EVENT_OVERSUB : Fld := ⟨8, 1⟩
abbrev DOM_EVENT_TRIP : Fld := ⟨9, 1⟩
abbrev DOM_UP_LANE : Fld := ⟨0, 4⟩
abbrev DOM_HB_CFG_HB_LATE : Fld := ⟨0, 8⟩
abbrev DOM_EPOCH_CFG_DEMAND_AT : Fld := ⟨0, 10⟩
abbrev DOM_EPOCH_CFG_ALLOC_AT : Fld := ⟨10, 10⟩
abbrev DOM_EPOCH_CFG_ALLOC_LEAD : Fld := ⟨20, 10⟩
abbrev DOM_BUDGET_BUDGET : Fld := ⟨0, 32⟩
abbrev DOM_RAMP_RAMP : Fld := ⟨0, 32⟩
abbrev DOM_ALLOC_CFG_BALLAST_MAX : Fld := ⟨0, 8⟩
abbrev DOM_ALLOC_CFG_MISS_HOLD : Fld := ⟨8, 8⟩
abbrev DOM_GROUP_CFG_GCYCLE : Fld := ⟨0, 10⟩
abbrev DOM_GROUP_CFG_GLEAD : Fld := ⟨16, 8⟩
abbrev DOM_GROUP_CFG_GT_LEAD : Fld := ⟨24, 8⟩
abbrev DOM_ABUF_OFFSET : Fld := ⟨6, 16⟩
abbrev DOM_GBUF_OFFSET : Fld := ⟨6, 16⟩
abbrev DOM_BT_CMP_BENIGN : Fld := ⟨0, 16⟩
abbrev DOM_BT_CMP_LIVE : Fld := ⟨16, 16⟩
abbrev DOM_CNT_FAILOVERS : Fld := ⟨0, 8⟩
abbrev DOM_CNT_REFUSALS : Fld := ⟨8, 8⟩
abbrev DOM_CNT_MISSING : Fld := ⟨16, 8⟩
abbrev DOM_CNT_GTHROTS : Fld := ⟨24, 8⟩
abbrev DOM_MEMBERS_MEMBERS : Fld := ⟨0, 11⟩
abbrev DOM_MEMBERS_MGEN : Fld := ⟨16, 16⟩
abbrev DOM_GROUP_N : Fld := ⟨0, 11⟩
abbrev DOM_GROUP_REASON : Fld := ⟨12, 4⟩
abbrev DOM_GROUP_PENDING : Fld := ⟨16, 3⟩
abbrev DOM_GROUP_CID : Fld := ⟨24, 8⟩
abbrev DOM_PFLOOR_FLOOR : Fld := ⟨0, 16⟩
abbrev FWC_MODE_MODE : Fld := ⟨0, 1⟩
abbrev FWC_MODE_VALID : Fld := ⟨1, 1⟩
abbrev FWC_CORE_CFG_ROLE : Fld := ⟨0, 3⟩
abbrev FWC_CORE_CFG_EN : Fld := ⟨3, 1⟩
abbrev FWC_CORE_CFG_RAILS : Fld := ⟨8, 8⟩
abbrev FWC_CORE_CFG_IWAYS : Fld := ⟨16, 3⟩
abbrev FWC_CORE_CFG_DWAYS : Fld := ⟨20, 3⟩
abbrev FWC_CORE_CFG_IBLK : Fld := ⟨24, 1⟩
abbrev FWC_CORE_CFG_DBLK : Fld := ⟨25, 1⟩
abbrev FWC_CORE_CFG_TAGS : Fld := ⟨28, 3⟩
abbrev FWC_CORE_TAG_TAG : Fld := ⟨0, 2⟩
abbrev FWC_CORE_TAG_USER : Fld := ⟨2, 1⟩
abbrev FWC_MISS_CNT_IMISS : Fld := ⟨0, 16⟩
abbrev FWC_MISS_CNT_DMISS : Fld := ⟨16, 16⟩
abbrev FWC_ECC_CNT_ICORR : Fld := ⟨0, 8⟩
abbrev FWC_ECC_CNT_DCORR : Fld := ⟨8, 8⟩
abbrev FWC_SRAM_ECC_CORR : Fld := ⟨0, 16⟩
abbrev FWC_SRAM_ECC_UNCORR : Fld := ⟨16, 16⟩
abbrev FWC_EVENT_SRAM_UE : Fld := ⟨0, 1⟩
abbrev FWC_EVENT_CACHE_UE : Fld := ⟨1, 1⟩
abbrev FWC_EVENT_BUS_TIMEOUT : Fld := ⟨2, 1⟩
abbrev FWC_EVENT_MSG_OVERFLOW : Fld := ⟨3, 1⟩
abbrev FWC_SELF_READY : Fld := ⟨0, 1⟩
abbrev FWC_SELF_READY_WE : Fld := ⟨1, 1⟩
abbrev FWC_SELF_RESTART_SELF : Fld := ⟨2, 1⟩
abbrev FWC_SELF_KICK : Fld := ⟨8, 8⟩
abbrev FWC_CORE_CTL_RELEASE : Fld := ⟨0, 1⟩
abbrev FWC_CORE_CTL_RESTART : Fld := ⟨1, 1⟩
abbrev FWC_CORE_CTL_KEY : Fld := ⟨8, 8⟩
abbrev FWC_CORE_STATUS_STATE : Fld := ⟨0, 3⟩
abbrev FWC_CORE_STATUS_READY : Fld := ⟨3, 1⟩
abbrev FWC_CORE_STATUS_CAUSE : Fld := ⟨4, 4⟩
abbrev FWC_CORE_STATUS_RESTARTS : Fld := ⟨8, 8⟩
abbrev FWC_WDOG_WD_T : Fld := ⟨0, 16⟩
abbrev FWC_WDOG_READY_TO : Fld := ⟨16, 16⟩
abbrev FWC_LD_CTL_GO : Fld := ⟨0, 1⟩
abbrev FWC_LD_CTL_ABORT : Fld := ⟨1, 1⟩
abbrev FWC_LD_CTL_LIVE : Fld := ⟨2, 1⟩
abbrev FWC_LD_CTL_CORES : Fld := ⟨8, 8⟩
abbrev FWC_LD_SRC_SRC : Fld := ⟨0, 2⟩
abbrev FWC_LD_LEN_LEN : Fld := ⟨0, 32⟩
abbrev FWC_LD_RETAIN_OFFSET : Fld := ⟨6, 16⟩
abbrev FWC_LD_STATUS_RESULT : Fld := ⟨0, 8⟩
abbrev FWC_LD_STATUS_PHASE : Fld := ⟨8, 3⟩
abbrev FWC_LD_STATUS_LIVE : Fld := ⟨11, 1⟩
abbrev FWC_LD_STATUS_CORE : Fld := ⟨16, 3⟩
abbrev FWC_LD_FAIL_INFO_ITEM : Fld := ⟨0, 16⟩
abbrev FWC_LD_FAIL_INFO_BYTE : Fld := ⟨16, 16⟩
abbrev FWC_LIVE_CFG_QUIESCE_TO : Fld := ⟨0, 8⟩
abbrev FWC_LIVE_CFG_RESTART_MAX : Fld := ⟨8, 4⟩
abbrev FWC_LD_EVENT_RESTART : Fld := ⟨0, 1⟩
abbrev FWC_LD_EVENT_CORE_FAILED : Fld := ⟨1, 1⟩
abbrev FWC_LD_EVENT_LIVE_DONE : Fld := ⟨2, 1⟩
abbrev FWC_LD_EVENT_QUIESCE_TIMEOUT : Fld := ⟨3, 1⟩
abbrev FWC_LD_EVENT_RETAIN_BAD : Fld := ⟨4, 1⟩
abbrev FWC_LD_EVENT_SEC_WDOG : Fld := ⟨5, 1⟩
abbrev FWC_REL_MAJOR : Fld := ⟨0, 8⟩
abbrev FWC_REL_MINOR : Fld := ⟨8, 8⟩
abbrev FWC_REL_PATCH : Fld := ⟨16, 16⟩
abbrev HIR_DB_SQ_TAIL : Fld := ⟨0, 12⟩
abbrev HIR_DB_CQ_TAIL : Fld := ⟨0, 12⟩
abbrev HIR_RING_CFG_EN : Fld := ⟨0, 1⟩
abbrev HIR_RING_CFG_KIND : Fld := ⟨1, 1⟩
abbrev HIR_RING_CFG_OWNER : Fld := ⟨8, 6⟩
abbrev HIR_RING_CFG_SQ_LOG : Fld := ⟨16, 4⟩
abbrev HIR_RING_CFG_CQ_LOG : Fld := ⟨20, 4⟩
abbrev HIR_RING_CFG_VEC : Fld := ⟨24, 6⟩
abbrev HIR_RING_SQ_SQ_BASE : Fld := ⟨6, 14⟩
abbrev HIR_RING_CQ_LO_CQ_BASE : Fld := ⟨6, 26⟩
abbrev HIR_RING_CQ_HI_CQ_BASE : Fld := ⟨6, 26⟩
abbrev HIR_RING_INT_AGG_N : Fld := ⟨0, 8⟩
abbrev HIR_RING_INT_AGG_T : Fld := ⟨16, 8⟩
abbrev HIR_RING_INT_INT_EN : Fld := ⟨31, 1⟩
abbrev HIR_RING_STATUS_SQ_HEAD : Fld := ⟨0, 12⟩
abbrev HIR_RING_STATUS_CQ_TAIL : Fld := ⟨16, 12⟩
abbrev HIR_RING_STATUS_ERR : Fld := ⟨12, 4⟩
abbrev HIR_RING_STATUS_STATE : Fld := ⟨28, 3⟩
abbrev HIR_RING_STATUS_PHASE : Fld := ⟨31, 1⟩
abbrev HIR_RING_CNT_ENTRIES : Fld := ⟨0, 16⟩
abbrev HIR_RING_CNT_MISSED : Fld := ⟨16, 16⟩
abbrev HIR_PART_FUNC_FUNC : Fld := ⟨0, 6⟩
abbrev HIR_EVENT_RING_ERR : Fld := ⟨0, 1⟩
abbrev HIR_EVENT_MISSED : Fld := ⟨1, 1⟩
abbrev HIR_EVENT_BULK_DROP : Fld := ⟨2, 1⟩
abbrev HIR_TEL_CFG_KIND : Fld := ⟨0, 2⟩
abbrev HIR_TEL_CFG_PERIOD : Fld := ⟨8, 16⟩
abbrev HIR_TEL_SEL_SEL : Fld := ⟨0, 32⟩
abbrev INT_PENDING_SRC : Fld := ⟨0, 20⟩
abbrev INT_MASK_SRC : Fld := ⟨0, 20⟩
abbrev INT_ROUTE_VEC : Fld := ⟨0, 6⟩
abbrev INT_ROUTE_HOST_EN : Fld := ⟨7, 1⟩
abbrev INT_ROUTE_CORES : Fld := ⟨8, 9⟩
abbrev TOP_INTEG_EVENT_PARITY : Fld := ⟨0, 1⟩
abbrev TOP_INTEG_EVENT_STAGED_UE : Fld := ⟨1, 1⟩
abbrev TOP_INTEG_EVENT_DMA_UE : Fld := ⟨2, 1⟩
abbrev TOP_INTEG_EVENT_HOST_TIMEOUT : Fld := ⟨3, 1⟩
abbrev TOP_INTEG_EVENT_DISCARD : Fld := ⟨4, 1⟩
abbrev TOP_INTEG_CNT_PARITY : Fld := ⟨0, 16⟩
abbrev TOP_INTEG_CNT_DISCARD : Fld := ⟨16, 16⟩
abbrev TOP_INTEG_LAST_BOUNDARY : Fld := ⟨0, 8⟩
abbrev TOP_INTEG_LAST_UNIT : Fld := ⟨8, 8⟩
abbrev TOP_DRAIN_STATUS_RANK : Fld := ⟨0, 9⟩
abbrev TOP_DRAIN_CNT_COUNT : Fld := ⟨0, 32⟩
abbrev REC_CTL_MODE : Fld := ⟨0, 1⟩
abbrev REC_CTL_SPILL_EN : Fld := ⟨1, 1⟩
abbrev REC_CMD_POSTMARK : Fld := ⟨0, 1⟩
abbrev REC_STATUS_RESERVE : Fld := ⟨0, 1⟩
abbrev REC_STATUS_STOPPED : Fld := ⟨1, 1⟩
abbrev REC_EVENT_STOP : Fld := ⟨0, 1⟩
abbrev REC_EVENT_SPILL_ABANDON : Fld := ⟨1, 1⟩
abbrev REC_EVENT_SPILL_SKIP : Fld := ⟨2, 1⟩
abbrev REC_EVENT_PUT_REFUSED : Fld := ⟨3, 1⟩
abbrev REC_EVENT_LOSS : Fld := ⟨4, 1⟩
abbrev REC_LOST_COUNT : Fld := ⟨0, 32⟩
abbrev REC_WIN_SEL_SECTION : Fld := ⟨0, 3⟩
abbrev REC_SPILL_BASE_LO_BASE : Fld := ⟨16, 16⟩
abbrev REC_SPILL_SIZE_SIZE : Fld := ⟨0, 23⟩
abbrev REC_SPILL_CNT_ABANDONED : Fld := ⟨0, 16⟩
abbrev REC_SPILL_CNT_SKIPPED : Fld := ⟨16, 16⟩
abbrev REC_PUT_HDR_CLASS : Fld := ⟨0, 8⟩
abbrev REC_PUT_HDR_TYPE : Fld := ⟨8, 8⟩
abbrev REC_PUT_HDR_UNIT : Fld := ⟨16, 16⟩
abbrev REC_PUT_ARG_ARG : Fld := ⟨0, 16⟩
abbrev REC_PUT_ARG_FLAGS : Fld := ⟨16, 3⟩
abbrev REC_PUT_GO_GO : Fld := ⟨0, 1⟩
abbrev NVS_STATUS_READY : Fld := ⟨0, 1⟩
abbrev NVS_STATUS_ERR : Fld := ⟨1, 1⟩
abbrev NVS_STATUS_BUSY : Fld := ⟨2, 1⟩
abbrev NVS_STATUS_TAIL_ARMED : Fld := ⟨3, 1⟩
abbrev NVS_STATUS_UNAVAIL : Fld := ⟨8, 6⟩
abbrev NVS_EVENT_SCAN_DONE : Fld := ⟨0, 1⟩
abbrev NVS_EVENT_REPAIRED : Fld := ⟨1, 1⟩
abbrev NVS_EVENT_CMD_DONE : Fld := ⟨2, 1⟩
abbrev NVS_EVENT_CMD_FAIL : Fld := ⟨3, 1⟩
abbrev NVS_EVENT_TAIL_FOUND : Fld := ⟨4, 1⟩
abbrev NVS_EVENT_TAIL_INCOMPLETE : Fld := ⟨5, 1⟩
abbrev NVS_EVENT_WEAR : Fld := ⟨6, 1⟩
abbrev NVS_EVENT_RETIRED : Fld := ⟨7, 1⟩
abbrev NVS_CMD_OP : Fld := ⟨0, 4⟩
abbrev NVS_CMD_GO : Fld := ⟨4, 1⟩
abbrev NVS_CMD_KIND : Fld := ⟨16, 16⟩
abbrev NVS_CMD_BUF_OFFSET : Fld := ⟨6, 16⟩
abbrev NVS_CMD_BUF_RING : Fld := ⟨31, 1⟩
abbrev NVS_CMD_LEN_LEN : Fld := ⟨0, 17⟩
abbrev NVS_CMD_STATUS_RESULT : Fld := ⟨0, 4⟩
abbrev NVS_CMD_STATUS_GEN : Fld := ⟨8, 24⟩
abbrev NVS_SCAN_REPAIRED : Fld := ⟨0, 8⟩
abbrev NVS_SCAN_UNKNOWN : Fld := ⟨8, 8⟩
abbrev NVS_SCAN_RETIRED : Fld := ⟨16, 8⟩
abbrev NVS_TAIL_ENTRIES : Fld := ⟨0, 12⟩
abbrev NVS_TAIL_VALID : Fld := ⟨12, 1⟩
abbrev NVS_TAIL_INCOMPLETE : Fld := ⟨13, 1⟩
abbrev NVS_TAIL_AREA : Fld := ⟨14, 1⟩
abbrev NVS_WEAR_MAX_ERASES : Fld := ⟨0, 17⟩
abbrev NVS_WEAR_SECTOR : Fld := ⟨24, 8⟩
abbrev NVS_CFG_COUNT_INT : Fld := ⟨0, 8⟩
abbrev NVS_LIFE_LO_COUNT : Fld := ⟨0, 32⟩
abbrev NVS_LIFE_HI_COUNT : Fld := ⟨0, 32⟩
abbrev SEC_STATUS_SEC_OK : Fld := ⟨0, 1⟩
abbrev SEC_STATUS_ROOT_EN : Fld := ⟨1, 1⟩
abbrev SEC_STATUS_OWNER_EN : Fld := ⟨2, 1⟩
abbrev SEC_STATUS_OWNER_STATE : Fld := ⟨8, 8⟩
abbrev SEC_STATUS_DBG_UNLOCKED : Fld := ⟨16, 1⟩
abbrev SEC_STATUS_DBG_EVER : Fld := ⟨17, 1⟩
abbrev SEC_STATUS_DBG_ROOT_OFF : Fld := ⟨18, 1⟩
abbrev SEC_STATUS_DBG_OWNER_OFF : Fld := ⟨19, 1⟩
abbrev SEC_STATUS_ID_STORE_ERR : Fld := ⟨20, 1⟩
abbrev SEC_EVENT_FUSE_DONE : Fld := ⟨0, 1⟩
abbrev SEC_EVENT_FUSE_FAIL : Fld := ⟨1, 1⟩
abbrev SEC_EVENT_DBG_UNLOCK : Fld := ⟨2, 1⟩
abbrev SEC_EVENT_DBG_REFUSED : Fld := ⟨3, 1⟩
abbrev SEC_EVENT_JTAG_GUARD : Fld := ⟨4, 1⟩
abbrev SEC_RB_IMG : Fld := ⟨0, 8⟩
abbrev SEC_RB_FW : Fld := ⟨16, 8⟩
abbrev SEC_FUSE_CTL_OP : Fld := ⟨0, 4⟩
abbrev SEC_FUSE_CTL_GO : Fld := ⟨4, 1⟩
abbrev SEC_FUSE_CTL_KEY : Fld := ⟨8, 8⟩
abbrev SEC_FUSE_CTL_ARG : Fld := ⟨16, 16⟩
abbrev SEC_FUSE_STATUS_RESULT : Fld := ⟨0, 4⟩
abbrev SEC_FUSE_DATA_DATA : Fld := ⟨0, 32⟩
abbrev SEC_DBG_CTL_NONCE : Fld := ⟨0, 1⟩
abbrev SEC_DBG_CTL_SUBMIT : Fld := ⟨1, 1⟩
abbrev SEC_DBG_CTL_LOCK : Fld := ⟨2, 1⟩
abbrev SEC_DBG_CTL_SRC : Fld := ⟨4, 2⟩
abbrev SEC_DBG_STATUS_RESULT : Fld := ⟨0, 4⟩
abbrev SEC_DBG_STATUS_CORES : Fld := ⟨8, 8⟩
abbrev SBM_STATUS_ADDR : Fld := ⟨0, 7⟩
abbrev SBM_STATUS_PEC_REQ : Fld := ⟨7, 1⟩
abbrev SBM_STATUS_WP : Fld := ⟨8, 2⟩
abbrev SBM_EVENT_BMC_CAP : Fld := ⟨0, 1⟩
abbrev SBM_EVENT_BMC_RESET : Fld := ⟨1, 1⟩
abbrev SBM_EVENT_PEC_ERR : Fld := ⟨2, 1⟩
abbrev SBM_EVENT_INVALID : Fld := ⟨3, 1⟩
abbrev SBM_EVENT_TIMEOUT : Fld := ⟨4, 1⟩
abbrev SBM_CNT_TRANSACTIONS : Fld := ⟨0, 16⟩
abbrev SBM_CNT_PEC : Fld := ⟨16, 8⟩
abbrev SBM_CNT_TIMEOUT : Fld := ⟨24, 8⟩
abbrev SBM_EID_SMB_EID : Fld := ⟨0, 8⟩
abbrev SBM_EID_PCIE_EID : Fld := ⟨8, 8⟩
abbrev SBM_BMC_CAP_CAP : Fld := ⟨0, 16⟩
abbrev SBM_BMC_CAP_PENDING : Fld := ⟨31, 1⟩
abbrev SBM_PMB_STATUS_STATUS_WORD : Fld := ⟨0, 16⟩
abbrev TOP_ID_VENDOR : Fld := ⟨0, 16⟩
abbrev TOP_ID_DEVICE : Fld := ⟨16, 16⟩
abbrev TOP_REV_REV : Fld := ⟨0, 8⟩
abbrev TOP_REV_IMG_FORMAT : Fld := ⟨8, 8⟩
abbrev TOP_REV_FW_FORMAT : Fld := ⟨16, 8⟩
abbrev TOP_STATUS_STATE : Fld := ⟨0, 4⟩
abbrev TOP_STATUS_IMAGE : Fld := ⟨4, 1⟩
abbrev TOP_STATUS_H_THERM : Fld := ⟨8, 1⟩
abbrev TOP_STATUS_H_OV : Fld := ⟨9, 1⟩
abbrev TOP_STATUS_H_SHORT : Fld := ⟨10, 1⟩
abbrev TOP_STATUS_H_OL : Fld := ⟨11, 1⟩
abbrev TOP_STATUS_H_DECAF_OV : Fld := ⟨12, 1⟩
abbrev TOP_STATUS_H_ACTIVE_UE : Fld := ⟨13, 1⟩
abbrev TOP_STATUS_H_CLOCK : Fld := ⟨14, 1⟩
abbrev TOP_STATUS_H_AON : Fld := ⟨15, 1⟩
abbrev TOP_LOCK_ASSET : Fld := ⟨0, 1⟩
abbrev TOP_ACTIVE_SEL_OFFSET : Fld := ⟨2, 20⟩
abbrev TOP_ACTIVE_SEL_NOT_HOLD : Fld := ⟨31, 1⟩
abbrev TOP_ACTIVE_VAL_VALUE : Fld := ⟨0, 32⟩
abbrev TOP_ASSET_TAG : Fld := ⟨0, 32⟩
abbrev CAP_WATCH_TILE_0 : Fld := ⟨0, 7⟩
abbrev CAP_WATCH_EN_0 : Fld := ⟨7, 1⟩
abbrev CAP_WATCH_TILE_1 : Fld := ⟨8, 7⟩
abbrev CAP_WATCH_EN_1 : Fld := ⟨15, 1⟩
abbrev CAP_WATCH_TILE_2 : Fld := ⟨16, 7⟩
abbrev CAP_WATCH_EN_2 : Fld := ⟨23, 1⟩
abbrev CAP_WATCH_TILE_3 : Fld := ⟨24, 7⟩
abbrev CAP_WATCH_EN_3 : Fld := ⟨31, 1⟩
abbrev CLK_STATUS_REFCLK_OK : Fld := ⟨0, 1⟩
abbrev CLK_STATUS_PLL_CTL_LOCK : Fld := ⟨1, 1⟩
abbrev CLK_STATUS_XTAL_OK : Fld := ⟨2, 1⟩
abbrev CLK_STATUS_PLL_FW_LOCK : Fld := ⟨3, 1⟩
abbrev CLK_STATUS_FW_ON_BACKUP : Fld := ⟨4, 1⟩
abbrev CLK_STATUS_PCIE_REFCLK_OK : Fld := ⟨5, 1⟩
abbrev CLK_STATUS_AON_OK : Fld := ⟨6, 1⟩
abbrev CLK_FAULT_REFCLK_LOSS : Fld := ⟨0, 1⟩
abbrev CLK_FAULT_PLL_CTL_UNLOCK : Fld := ⟨1, 1⟩
abbrev CLK_FAULT_XTAL_LOSS : Fld := ⟨2, 1⟩
abbrev CLK_FAULT_PLL_FW_UNLOCK : Fld := ⟨3, 1⟩
abbrev CLK_FAULT_PCIE_REFCLK_LOSS : Fld := ⟨4, 1⟩
abbrev CLK_FAULT_AON_FAULT : Fld := ⟨5, 1⟩
abbrev CLK_FAULT_PB_CLK_LOSS : Fld := ⟨6, 1⟩
abbrev CLK_FAULT_TVL_CLK_LOSS : Fld := ⟨7, 1⟩
abbrev LAD_FUSE_VIN_WARN : Fld := ⟨0, 10⟩
abbrev LAD_FUSE_VIN_RST : Fld := ⟨16, 10⟩
abbrev LAD_FUSE_VAUX_WARN : Fld := ⟨0, 9⟩
abbrev LAD_FUSE_VAUX_RST : Fld := ⟨16, 9⟩
abbrev CLK_FW_RETURN_GO : Fld := ⟨0, 1⟩
abbrev DOM_BT_SEAL_LOCAL : Fld := ⟨0, 1⟩
abbrev DOM_BT_SEAL_ALLOC_GO : Fld := ⟨1, 1⟩
abbrev DOM_BT_SEAL_GROUP_GO : Fld := ⟨2, 1⟩
abbrev DOM_BT_STATUS_ACTIVE : Fld := ⟨0, 1⟩
abbrev DOM_BT_STATUS_SEALED : Fld := ⟨1, 1⟩
abbrev DOM_BT_STATUS_FLOORS : Fld := ⟨2, 1⟩
abbrev DOM_BT_STATUS_STALE : Fld := ⟨8, 8⟩
end F

/-! ## The families of each 64 KiB block of Window 0 -/

/-- Register families whose base lies in 0x0_0000 – 0x0_FFFF. -/
def regBlock00 : List RegFamily :=
  [ ⟨0x0, 1, 0x0, 1, 0x0, .ro, .fuse, .none, 0xB121E7D, 0xFFFFFFFF⟩ /- TOP_ID -/
  , ⟨0x4, 1, 0x0, 1, 0x0, .ro, .fuse, .none, 0x102B0, 0xFFFFFF⟩ /- TOP_REV -/
  , ⟨0x8, 1, 0x0, 1, 0x0, .ro, .fuse, .none, 0x0, 0xFFFFFFFF⟩ /- TOP_SERIAL_LO -/
  , ⟨0xC, 1, 0x0, 1, 0x0, .ro, .fuse, .none, 0x0, 0xFFFFFFFF⟩ /- TOP_SERIAL_HI -/
  , ⟨0x10, 1, 0x0, 1, 0x0, .ro, .live, .none, 0x0, 0xFF1F⟩ /- TOP_STATUS -/
  , ⟨0x14, 1, 0x0, 1, 0x0, .rwl, .dev, .none, 0x0, 0x1⟩ /- TOP_LOCK -/
  , ⟨0x18, 1, 0x0, 1, 0x0, .rw, .dev, .none, 0x0, 0x803FFFFC⟩ /- TOP_ACTIVE_SEL -/
  , ⟨0x1C, 1, 0x0, 1, 0x0, .ro, .live, .none, 0x0, 0xFFFFFFFF⟩ /- TOP_ACTIVE_VAL -/
  , ⟨0x20, 4, 0x4, 1, 0x0, .rwl, .dev, .none, 0x0, 0xFFFFFFFF⟩ /- TOP_ASSET -/
  , ⟨0x100, 1, 0x0, 1, 0x0, .wo, .none, .none, 0x0, 0x7⟩ /- TOP_COMMIT_CTL -/
  , ⟨0x104, 1, 0x0, 1, 0x0, .ro, .dev, .none, 0xFF0000, 0xFFFFFF0F⟩ /- TOP_COMMIT_STATUS -/
  , ⟨0x108, 1, 0x0, 1, 0x0, .rw, .dev, .none, 0x0, 0xFFFFFFFF⟩ /- TOP_COMMIT_MASK_LO -/
  , ⟨0x10C, 1, 0x0, 1, 0x0, .rw, .dev, .none, 0x0, 0x3FFF⟩ /- TOP_COMMIT_MASK_HI -/
  , ⟨0x110, 1, 0x0, 1, 0x0, .rw, .dev, .none, 0x0, 0xFFFFFFFF⟩ /- TOP_COMMIT_TICK_LO -/
  , ⟨0x114, 1, 0x0, 1, 0x0, .rw, .dev, .none, 0x0, 0xFFFFFFFF⟩ /- TOP_COMMIT_TICK_HI -/
  , ⟨0x118, 1, 0x0, 1, 0x0, .rw, .mgmt, .none, 0x0, 0x1⟩ /- TOP_COMMIT_OWNER -/
  , ⟨0x11C, 1, 0x0, 1, 0x0, .ro, .dev, .none, 0x0, 0xFFFFFFFF⟩ /- TOP_COMMIT_FAIL_ADDR -/
  , ⟨0x120, 1, 0x0, 1, 0x0, .w1c, .dev, .none, 0x0, 0x1F⟩ /- TOP_PLANE_VIOL -/
  , ⟨0x124, 1, 0x0, 1, 0x0, .rc, .dev, .none, 0x0, 0xFFFFFFFF⟩ /- TOP_PLANE_VIOL_CNT -/
  , ⟨0x200, 1, 0x0, 1, 0x0, .wo, .none, .none, 0x0, 0xFF07⟩ /- TOP_RST_CTL -/
  , ⟨0x204, 1, 0x0, 1, 0x0, .ro, .por, .none, 0x0, 0x7F⟩ /- TOP_RST_STATUS -/
  , ⟨0x208, 1, 0x0, 1, 0x0, .w1c, .aon, .none, 0x1, 0xFFF⟩ /- TOP_RST_CAUSE -/
  , ⟨0x20C, 1, 0x0, 1, 0x0, .ro, .strap, .none, 0x0, 0xFF⟩ /- TOP_STRAP -/
  , ⟨0x210, 1, 0x0, 1, 0x0, .ro, .live, .none, 0xF, 0x7FF⟩ /- TOP_SUPPLY -/
  , ⟨0x214, 1, 0x0, 1, 0x0, .wo, .none, .none, 0x0, 0x3⟩ /- TOP_START -/
  , ⟨0x218, 1, 0x0, 1, 0x0, .ro, .dev, .none, 0x0, 0xFFFF1F⟩ /- TOP_START_STATUS -/
  , ⟨0x21C, 1, 0x0, 1, 0x0, .rw, .dev, .none, 0x0, 0x3⟩ /- TOP_START_CFG -/
  , ⟨0x300, 1, 0x0, 1, 0x0, .ro, .dev, .none, 0x0, 0x7⟩ /- TOP_CFG_STATUS -/
  , ⟨0x304, 1, 0x0, 1, 0x0, .w1c, .dev, .none, 0x0, 0xF⟩ /- TOP_CFG_EVENT -/
  , ⟨0x308, 1, 0x0, 1, 0x0, .rc, .dev, .none, 0x0, 0xFFFFFFFF⟩ /- TOP_CFG_BENIGN_CNT -/
  , ⟨0x30C, 1, 0x0, 1, 0x0, .rc, .dev, .none, 0x0, 0xFFFFFFFF⟩ /- TOP_CFG_REPAIR_CNT -/
  , ⟨0x310, 1, 0x0, 1, 0x0, .rc, .dev, .none, 0x0, 0xFFFFFFFF⟩ /- TOP_CFG_REFILL_CNT -/
  , ⟨0x314, 1, 0x0, 1, 0x0, .ro, .dev, .none, 0x0, 0x1FF⟩ /- TOP_CFG_FAULT_FRAME -/
  , ⟨0x400, 1, 0x0, 1, 0x0, .w1c, .dev, .none, 0x0, 0x1F⟩ /- TOP_INTEG_EVENT -/
  , ⟨0x404, 1, 0x0, 1, 0x0, .rc, .dev, .none, 0x0, 0xFFFFFFFF⟩ /- TOP_INTEG_CNT -/
  , ⟨0x408, 1, 0x0, 1, 0x0, .ro, .dev, .none, 0x0, 0xFFFF⟩ /- TOP_INTEG_LAST -/
  , ⟨0x410, 1, 0x0, 1, 0x0, .ro, .dev, .none, 0x0, 0x1FF⟩ /- TOP_DRAIN_STATUS -/
  , ⟨0x420, 9, 0x4, 1, 0x0, .rc, .dev, .none, 0x0, 0xFFFFFFFF⟩ /- TOP_DRAIN_CNT -/ ]

/-- Register families whose base lies in 0x1_0000 – 0x1_FFFF. -/
def regBlock01 : List RegFamily :=
  [ ⟨0x10000, 1, 0x0, 1, 0x0, .ro, .por, .none, 0x0, 0xFFFFFFFF⟩ /- TB_NOW_LO -/
  , ⟨0x10004, 1, 0x0, 1, 0x0, .ro, .por, .none, 0x0, 0xFFFFFFFF⟩ /- TB_NOW_HI -/
  , ⟨0x10008, 1, 0x0, 1, 0x0, .ro, .live, .none, 0x700, 0x7FF⟩ /- TB_STATUS -/
  , ⟨0x1000C, 1, 0x0, 1, 0x0, .w1c, .dev, .none, 0x0, 0x7F⟩ /- TB_EVENT -/
  , ⟨0x10010, 1, 0x0, 1, 0x0, .ro, .live, .none, 0x0, 0xFFFFFFFF⟩ /- TB_RATE -/
  , ⟨0x10014, 1, 0x0, 1, 0x0, .ro, .live, .none, 0x0, 0xFFFFFFFF⟩ /- TB_SLEW -/
  , ⟨0x10018, 1, 0x0, 1, 0x0, .ro, .live, .none, 0x0, 0xFFFFFFFF⟩ /- TB_OFFSET -/
  , ⟨0x1001C, 1, 0x0, 1, 0x0, .ro, .live, .none, 0x0, 0xFFFFFFFF⟩ /- TB_DELAY -/
  , ⟨0x10020, 1, 0x0, 1, 0x0, .rc, .dev, .none, 0x0, 0xFFFF⟩ /- TB_STEP_CNT -/
  , ⟨0x10024, 1, 0x0, 1, 0x0, .hold, .hold, (.fixed 44), 0x1084263, 0x1FFFFFF⟩ /- TB_SERVO_CFG -/
  , ⟨0x10028, 1, 0x0, 1, 0x0, .hold, .hold, (.fixed 44), 0x64, 0xFFFF⟩ /- TB_HOLD_CFG -/
  , ⟨0x1002C, 1, 0x0, 1, 0x0, .hold, .hold, (.fixed 44), 0xA0, 0xFF7⟩ /- TB_PPS_CFG -/
  , ⟨0x10040, 7, 0x4, 1, 0x0, .hold, .hold, (.fixed 44), 0x0, 0xFFFF⟩ /- TB_ASYM -/
  , ⟨0x10080, 16, 0x8, 1, 0x0, .ro, .dev, .none, 0x0, 0xFFFFFFFF⟩ /- TB_CAP_LO -/
  , ⟨0x10084, 16, 0x8, 1, 0x0, .ro, .dev, .none, 0x0, 0xFFFFFFFF⟩ /- TB_CAP_HI -/
  , ⟨0x10100, 16, 0x4, 1, 0x0, .hold, .hold, (.fixed 44), 0x0, 0x3F⟩ /- TB_CAP_SRC -/
  , ⟨0x10140, 1, 0x0, 1, 0x0, .w1c, .dev, .none, 0x0, 0xFFFF⟩ /- TB_CAP_VALID -/
  , ⟨0x10144, 1, 0x0, 1, 0x0, .w1c, .dev, .none, 0x0, 0xFFFFFFFF⟩ /- TB_CAP_FLAGS -/ ]

/-- Register families whose base lies in 0x2_0000 – 0x2_FFFF. -/
def regBlock02 : List RegFamily :=
  [ ⟨0x20000, 1, 0x0, 1, 0x0, .ro, .live, .none, 0x0, 0x7F⟩ /- CLK_STATUS -/
  , ⟨0x20004, 1, 0x0, 1, 0x0, .w1c, .por, .none, 0x0, 0xFF⟩ /- CLK_FAULT -/
  , ⟨0x20008, 1, 0x0, 1, 0x0, .ro, .live, .none, 0x0, 0x3FFFF⟩ /- CLK_AON_FREQ -/
  , ⟨0x2000C, 1, 0x0, 1, 0x0, .wo, .none, .none, 0x0, 0x1⟩ /- CLK_FW_RETURN -/ ]

/-- Register families whose base lies in 0x3_0000 – 0x3_FFFF. -/
def regBlock03 : List RegFamily :=
  [ ⟨0x30000, 1, 0x0, 1, 0x0, .ro, .live, .none, 0x0, 0x3F0F⟩ /- NVS_STATUS -/
  , ⟨0x30004, 1, 0x0, 1, 0x0, .w1c, .dev, .none, 0x0, 0xFF⟩ /- NVS_EVENT -/
  , ⟨0x30008, 1, 0x0, 1, 0x0, .wo, .none, .none, 0x0, 0xFFFF001F⟩ /- NVS_CMD -/
  , ⟨0x3000C, 1, 0x0, 1, 0x0, .rw, .mgmt, .none, 0x0, 0xFFFFFFFF⟩ /- NVS_CMD_KEY -/
  , ⟨0x30010, 1, 0x0, 1, 0x0, .rw, .mgmt, .none, 0x0, 0x803FFFC0⟩ /- NVS_CMD_BUF -/
  , ⟨0x30014, 1, 0x0, 1, 0x0, .rw, .mgmt, .none, 0x0, 0x1FFFF⟩ /- NVS_CMD_LEN -/
  , ⟨0x30018, 1, 0x0, 1, 0x0, .ro, .mgmt, .none, 0x0, 0xFFFFFF0F⟩ /- NVS_CMD_STATUS -/
  , ⟨0x3001C, 1, 0x0, 1, 0x0, .ro, .por, .none, 0x0, 0xFFFFFF⟩ /- NVS_SCAN -/
  , ⟨0x30020, 1, 0x0, 1, 0x0, .ro, .por, .none, 0x0, 0x7FFF⟩ /- NVS_TAIL -/
  , ⟨0x30024, 1, 0x0, 1, 0x0, .ro, .por, .none, 0x0, 0xFFFFFFFF⟩ /- NVS_TAIL_SEQ_LO -/
  , ⟨0x30028, 1, 0x0, 1, 0x0, .ro, .por, .none, 0x0, 0xFFFFFFFF⟩ /- NVS_TAIL_SEQ_HI -/
  , ⟨0x3002C, 1, 0x0, 1, 0x0, .ro, .por, .none, 0x0, 0xFF01FFFF⟩ /- NVS_WEAR -/
  , ⟨0x30030, 1, 0x0, 1, 0x0, .rw, .dev, .none, 0x3C, 0xFF⟩ /- NVS_CFG -/
  , ⟨0x30100, 10, 0x8, 1, 0x0, .ro, .live, .none, 0x0, 0xFFFFFFFF⟩ /- NVS_LIFE_LO -/
  , ⟨0x30104, 10, 0x8, 1, 0x0, .ro, .live, .none, 0x0, 0xFFFFFFFF⟩ /- NVS_LIFE_HI -/ ]

/-- Register families whose base lies in 0x4_0000 – 0x4_FFFF. -/
def regBlock04 : List RegFamily :=
  [ ⟨0x40000, 1, 0x0, 1, 0x0, .ro, .live, .none, 0x0, 0x1FFF07⟩ /- SEC_STATUS -/
  , ⟨0x40004, 1, 0x0, 1, 0x0, .w1c, .dev, .none, 0x0, 0x1F⟩ /- SEC_EVENT -/
  , ⟨0x40008, 1, 0x0, 1, 0x0, .ro, .fuse, .none, 0x0, 0xFF00FF⟩ /- SEC_RB -/
  , ⟨0x40100, 1, 0x0, 1, 0x0, .wo, .none, .none, 0x0, 0x3⟩ /- SEC_IMG_CTL -/
  , ⟨0x40104, 1, 0x0, 1, 0x0, .rw, .mgmt, .none, 0x0, 0x3⟩ /- SEC_IMG_SRC -/
  , ⟨0x40108, 1, 0x0, 1, 0x0, .rw, .mgmt, .none, 0x0, 0xFFFFFFFF⟩ /- SEC_IMG_ADDR_LO -/
  , ⟨0x4010C, 1, 0x0, 1, 0x0, .rw, .mgmt, .none, 0x0, 0xFFFFFFFF⟩ /- SEC_IMG_ADDR_HI -/
  , ⟨0x40110, 1, 0x0, 1, 0x0, .rw, .mgmt, .none, 0x0, 0xFFFFFFFF⟩ /- SEC_IMG_LEN -/
  , ⟨0x40114, 1, 0x0, 1, 0x0, .ro, .mgmt, .none, 0x0, 0xFFF0FFF⟩ /- SEC_IMG_STATUS -/
  , ⟨0x40118, 1, 0x0, 1, 0x0, .ro, .mgmt, .none, 0x0, 0xFFFFFFFF⟩ /- SEC_IMG_FAIL_INFO -/
  , ⟨0x4011C, 1, 0x0, 1, 0x0, .ro, .dev, .none, 0x0, 0xFFFFFFFF⟩ /- SEC_IMG_GEN -/
  , ⟨0x40120, 12, 0x4, 1, 0x0, .ro, .dev, .none, 0x0, 0xFFFFFFFF⟩ /- SEC_IMG_DIGEST -/
  , ⟨0x40200, 1, 0x0, 1, 0x0, .wo, .none, .none, 0x0, 0xFFFFFF1F⟩ /- SEC_FUSE_CTL -/
  , ⟨0x40204, 1, 0x0, 1, 0x0, .ro, .dev, .none, 0x0, 0xF⟩ /- SEC_FUSE_STATUS -/
  , ⟨0x40210, 12, 0x4, 1, 0x0, .rw, .dev, .none, 0x0, 0xFFFFFFFF⟩ /- SEC_FUSE_DATA -/
  , ⟨0x40300, 1, 0x0, 1, 0x0, .wo, .none, .none, 0x0, 0x37⟩ /- SEC_DBG_CTL -/
  , ⟨0x40304, 1, 0x0, 1, 0x0, .ro, .dev, .none, 0x0, 0xFF0F⟩ /- SEC_DBG_STATUS -/
  , ⟨0x40308, 1, 0x0, 1, 0x0, .rw, .dev, .none, 0x0, 0xFFFFFFFF⟩ /- SEC_DBG_ADDR_LO -/
  , ⟨0x4030C, 1, 0x0, 1, 0x0, .rw, .dev, .none, 0x0, 0xFFFFFFFF⟩ /- SEC_DBG_ADDR_HI -/
  , ⟨0x40320, 8, 0x4, 1, 0x0, .ro, .dev, .none, 0x0, 0xFFFFFFFF⟩ /- SEC_DBG_NONCE -/ ]

/-- Register families whose base lies in 0x8_0000 – 0x8_FFFF. -/
def regBlock08 : List RegFamily :=
  [ ⟨0x80000, 1, 0x0, 1, 0x0, .ro, .live, .none, 0x0, 0x3FFFF03⟩ /- FAB_STATUS -/
  , ⟨0x80004, 1, 0x0, 1, 0x0, .w1c, .ctl, .none, 0x0, 0x1F⟩ /- FAB_EVENT -/
  , ⟨0x80008, 1, 0x0, 1, 0x0, .rc, .ctl, .none, 0x0, 0xFFFFFFFF⟩ /- FAB_PARITY_CNT -/
  , ⟨0x8000C, 1, 0x0, 1, 0x0, .ro, .live, .none, 0x0, 0xFFFFFFFF⟩ /- FAB_XDEV_STALE -/
  , ⟨0x80010, 1, 0x0, 1, 0x0, .w1c, .ctl, .none, 0x0, 0xFFFFFFFF⟩ /- FAB_XDEV_FALLBACK -/
  , ⟨0x80020, 4, 0x4, 1, 0x0, .w1c, .ctl, .none, 0x0, 0xFFFFFFFF⟩ /- FAB_SAT -/
  , ⟨0x80030, 4, 0x4, 1, 0x0, .ro, .live, .none, 0x0, 0xFFFFFFFF⟩ /- FAB_PIN -/
  , ⟨0x80100, 16, 0x4, 1, 0x0, .hold, .hold, (.fixed 41), 0x0, 0xFFFFFF⟩ /- FAB_CONST -/
  , ⟨0x80400, 128, 0x4, 1, 0x0, .rc, .ctl, .none, 0x0, 0xFFFFFFFF⟩ /- FAB_TILE_CNT -/
  , ⟨0x81000, 128, 0x20, 8, 0x4, .hold, .hold, (.fixed 41), 0x0, 0x1FFFFFFF⟩ /- FAB_PARAM -/
  , ⟨0x82000, 512, 0x4, 1, 0x0, .ro, .live, .none, 0x0, 0xFFFFFFFF⟩ /- FAB_SIG -/ ]

/-- Register families whose base lies in 0x10_0000 – 0x10_FFFF. -/
def regBlock10 : List RegFamily :=
  [ ⟨0x100000, 64, 0x100, 1, 0x0, .hold, .hold, .phase, 0x0, 0x3⟩ /- PH_CFG -/
  , ⟨0x100040, 64, 0x100, 1, 0x0, .ro, .live, .none, 0x0, 0x7⟩ /- PH_STATUS -/
  , ⟨0x100044, 64, 0x100, 1, 0x0, .ro, .live, .none, 0x0, 0xFFFFFFFF⟩ /- PH_I: sign-extended -/
  , ⟨0x100048, 64, 0x100, 1, 0x0, .ro, .live, .none, 0x0, 0xFFFFFFFF⟩ /- PH_T: sign-extended -/
  , ⟨0x10004C, 64, 0x100, 1, 0x0, .ro, .live, .none, 0x0, 0xFFFF⟩ /- PH_BAL -/
  , ⟨0x100050, 64, 0x100, 1, 0x0, .w1c, .ctl, .none, 0x0, 0x3⟩ /- PH_FLT -/
  , ⟨0x100054, 64, 0x100, 1, 0x0, .ro, .ctl, .none, 0x0, 0xFF03FFFF⟩ /- PH_OFF -/ ]

/-- Register families whose base lies in 0x12_0000 – 0x12_FFFF. -/
def regBlock12 : List RegFamily :=
  [ ⟨0x120000, 8, 0x1000, 1, 0x0, .hold, .hold, .channel, 0x0, 0xFFF⟩ /- CH_VSET -/
  , ⟨0x120004, 8, 0x1000, 1, 0x0, .hold, .hold, .channel, 0x0, 0x7FF⟩ /- CH_LL -/
  , ⟨0x120008, 8, 0x1000, 1, 0x0, .hold, .hold, .channel, 0x28, 0xFF⟩ /- CH_VSLEW -/
  , ⟨0x12000C, 8, 0x1000, 1, 0x0, .hold, .hold, .channel, 0x64, 0x7F⟩ /- CH_CTRL -/
  , ⟨0x120010, 8, 0x1000, 1, 0x0, .hold, .hold, .channel, 0x7D28186A, 0xFFFF7FFF⟩ /- CH_FSW -/
  , ⟨0x120014, 8, 0x1000, 1, 0x0, .hold, .hold, .channel, 0x32320802, 0xFFFFFFFF⟩ /- CH_SS -/
  , ⟨0x120018, 8, 0x1000, 1, 0x0, .hold, .hold, .channel, 0x1900280, 0xFFF0FFF⟩ /- CH_PHASE -/
  , ⟨0x12001C, 8, 0x1000, 1, 0x0, .hold, .hold, .channel, 0xA0501, 0x7FFFFF7F⟩ /- CH_PHASE2 -/
  , ⟨0x120020, 8, 0x1000, 1, 0x0, .hold, .hold, .channel, 0x800020, 0xFFF0FFF⟩ /- CH_DRIP -/
  , ⟨0x120024, 8, 0x1000, 1, 0x0, .hold, .hold, .channel, 0x200A1414, 0xFFFFFFFF⟩ /- CH_DRIP2 -/
  , ⟨0x120028, 8, 0x1000, 1, 0x0, .hold, .hold, .channel, 0x806, 0x3F0F⟩ /- CH_BAL -/
  , ⟨0x12002C, 8, 0x1000, 1, 0x0, .hold, .hold, .channel, 0x0, 0xFFFFFF⟩ /- CH_TRIM_ENV -/
  , ⟨0x120030, 8, 0x1000, 1, 0x0, .hold, .hold, .channel, 0x6, 0xF⟩ /- CH_DITH -/
  , ⟨0x120034, 8, 0x1000, 1, 0x0, .hold, .hold, .channel, 0x44420A01, 0xFFFFFF01⟩ /- CH_CAL -/
  , ⟨0x120100, 8, 0x1000, 1, 0x0, .ro, .live, .none, 0x0, 0xFF7FFF⟩ /- CH_STATUS -/
  , ⟨0x120104, 8, 0x1000, 1, 0x0, .w1c, .ctl, .none, 0x0, 0xFF⟩ /- CH_EVENT -/
  , ⟨0x120108, 8, 0x1000, 1, 0x0, .ro, .live, .none, 0x0, 0xFFFF⟩ /- CH_VSENSE -/
  , ⟨0x12010C, 8, 0x1000, 1, 0x0, .ro, .live, .none, 0x0, 0xFFFF⟩ /- CH_VTARGET -/
  , ⟨0x120110, 8, 0x1000, 1, 0x0, .ro, .live, .none, 0x0, 0xFFFFFFFF⟩ /- CH_I -/
  , ⟨0x120114, 8, 0x1000, 1, 0x0, .rc, .ctl, .none, 0x0, 0xFFFFFFFF⟩ /- CH_CNT -/
  , ⟨0x120118, 8, 0x1000, 1, 0x0, .rc, .ctl, .none, 0x0, 0xFFFFFFFF⟩ /- CH_DRIP_CNT -/
  , ⟨0x120120, 8, 0x1000, 1, 0x0, .ro, .ctl, .none, 0x0, 0xFFFFFFFF⟩ /- CH_DRIP_TIME_LO -/
  , ⟨0x120124, 8, 0x1000, 1, 0x0, .ro, .ctl, .none, 0x0, 0xFFFFFFFF⟩ /- CH_DRIP_TIME_HI -/
  , ⟨0x120128, 8, 0x1000, 1, 0x0, .rc, .ctl, .none, 0x0, 0xFFFFFFFF⟩ /- CH_CAL_CNT -/ ]

/-- Register families whose base lies in 0x14_0000 – 0x14_FFFF. -/
def regBlock14 : List RegFamily :=
  [ ⟨0x140000, 8, 0x20, 1, 0x0, .hold, .hold, (.fixed 40), 0x20F0, 0x3FFF⟩ /- PROT_IPK -/
  , ⟨0x140004, 8, 0x20, 1, 0x0, .hold, .hold, (.fixed 40), 0x0, 0x1FF⟩ /- PROT_OV -/
  , ⟨0x140008, 8, 0x20, 1, 0x0, .hold, .hold, (.fixed 40), 0x0, 0x1FFFF⟩ /- PROT_OL -/
  , ⟨0x14000C, 8, 0x20, 1, 0x0, .hold, .hold, (.fixed 40), 0x8014000A, 0xFFFF01FF⟩ /- PROT_OL2 -/
  , ⟨0x140100, 1, 0x0, 1, 0x0, .hold, .hold, (.fixed 40), 0x7D00730, 0xFFF0FFF⟩ /- PROT_THERM -/
  , ⟨0x140104, 1, 0x0, 1, 0x0, .ro, .fuse, .none, 0x730F0, 0xFFFFF⟩ /- PROT_FUSE -/
  , ⟨0x140108, 1, 0x0, 1, 0x0, .w1c, .por, .none, 0x0, 0x7F⟩ /- PROT_THERM_LATCH -/
  , ⟨0x14010C, 1, 0x0, 1, 0x0, .w1c, .por, .none, 0x0, 0xFFFFFF⟩ /- PROT_CH_LATCH -/
  , ⟨0x140110, 1, 0x0, 1, 0x0, .ro, .live, .none, 0x0, 0x1FFFF⟩ /- PROT_STATUS -/
  , ⟨0x140114, 1, 0x0, 1, 0x0, .ro, .por, .none, 0x0, 0x73F⟩ /- PROT_SHORT_INFO -/
  , ⟨0x140118, 1, 0x0, 1, 0x0, .w1c, .por, .none, 0x0, 0x1F⟩ /- PROT_EVENT -/
  , ⟨0x140200, 64, 0x4, 1, 0x0, .rc, .ctl, .none, 0x0, 0xFFFF⟩ /- PROT_PK_CNT -/ ]

/-- Register families whose base lies in 0x15_0000 – 0x15_FFFF. -/
def regBlock15 : List RegFamily :=
  [ ⟨0x150000, 1, 0x0, 1, 0x0, .hold, .hold, (.fixed 40), 0x17C01B8, 0x3FF03FF⟩ /- LAD_VIN_CFG -/
  , ⟨0x150004, 1, 0x0, 1, 0x0, .hold, .hold, (.fixed 40), 0x50A080A, 0xFF0F0F3F⟩ /- LAD_VIN_CFG2 -/
  , ⟨0x150008, 1, 0x0, 1, 0x0, .hold, .hold, (.fixed 40), 0x244, 0x3FF⟩ /- LAD_VIN_HI -/
  , ⟨0x15000C, 1, 0x0, 1, 0x0, .hold, .hold, (.fixed 40), 0x1270136, 0x1FF01FF⟩ /- LAD_VAUX_CFG -/
  , ⟨0x150010, 1, 0x0, 1, 0x0, .hold, .hold, (.fixed 40), 0x50A080A, 0xFF0F0F3F⟩ /- LAD_VAUX_CFG2 -/
  , ⟨0x150014, 1, 0x0, 1, 0x0, .hold, .hold, (.fixed 40), 0x8000, 0xFF0F⟩ /- LAD_ACT -/
  , ⟨0x150018, 1, 0x0, 1, 0x0, .ro, .fuse, .none, 0x17C01B8, 0x3FF03FF⟩ /- LAD_FUSE_VIN -/
  , ⟨0x15001C, 1, 0x0, 1, 0x0, .ro, .fuse, .none, 0x1270136, 0x1FF01FF⟩ /- LAD_FUSE_VAUX -/
  , ⟨0x150020, 1, 0x0, 1, 0x0, .ro, .live, .none, 0x0, 0x7F⟩ /- LAD_STATUS -/
  , ⟨0x150024, 1, 0x0, 1, 0x0, .w1c, .por, .none, 0x0, 0x1FF⟩ /- LAD_EVENT -/
  , ⟨0x150028, 1, 0x0, 1, 0x0, .ro, .live, .none, 0x0, 0xFFFF⟩ /- LAD_VIN -/
  , ⟨0x15002C, 1, 0x0, 1, 0x0, .ro, .live, .none, 0x0, 0xFFFF⟩ /- LAD_VAUX -/
  , ⟨0x150030, 1, 0x0, 1, 0x0, .ro, .live, .none, 0x0, 0xFFFF⟩ /- LAD_VHOLD -/
  , ⟨0x150034, 1, 0x0, 1, 0x0, .rc, .por, .none, 0x0, 0xFFFFFFFF⟩ /- LAD_CNT -/ ]

/-- Register families whose base lies in 0x16_0000 – 0x16_FFFF. -/
def regBlock16 : List RegFamily :=
  [ ⟨0x160000, 4, 0x40, 1, 0x0, .hold, .hold, (.fixed 45), 0x3332268, 0xFFFFFFF⟩ /- PB_DIE_CFG -/
  , ⟨0x160004, 4, 0x40, 1, 0x0, .ro, .live, .none, 0x4, 0x7FF⟩ /- PB_DIE_STATUS -/
  , ⟨0x160008, 4, 0x40, 1, 0x0, .w1c, .ctl, .none, 0x0, 0x3FF⟩ /- PB_DIE_EVENT -/
  , ⟨0x16000C, 4, 0x40, 1, 0x0, .ro, .ctl, .none, 0x0, 0xFFF0FFF⟩ /- PB_LAT -/
  , ⟨0x160010, 4, 0x40, 1, 0x0, .rc, .ctl, .none, 0x0, 0xFFFFFFFF⟩ /- PB_ERR_CNT -/
  , ⟨0x160014, 4, 0x40, 1, 0x0, .rc, .ctl, .none, 0x0, 0xFFFFFFFF⟩ /- PB_DROOP_CNT -/
  , ⟨0x160100, 8, 0x20, 1, 0x0, .hold, .hold, (.fixed 45), 0x14050A30, 0xFFFF3FFF⟩ /- PB_BOOST -/
  , ⟨0x160104, 8, 0x20, 1, 0x0, .ro, .ctl, .none, 0x0, 0x8000FFFF⟩ /- PB_CHMIN -/
  , ⟨0x160108, 8, 0x20, 1, 0x0, .ro, .ctl, .none, 0x0, 0xFFFFFFFF⟩ /- PB_CHMIN_TS_LO -/
  , ⟨0x16010C, 8, 0x20, 1, 0x0, .ro, .ctl, .none, 0x0, 0xFFFFFFFF⟩ /- PB_CHMIN_TS_HI -/
  , ⟨0x160110, 8, 0x20, 1, 0x0, .rc, .ctl, .none, 0x0, 0xFFFFFFFF⟩ /- PB_BOOST_CNT -/
  , ⟨0x160114, 8, 0x20, 1, 0x0, .rc, .ctl, .none, 0x0, 0xFFFF⟩ /- PB_FREEZE_CNT -/
  , ⟨0x160118, 8, 0x20, 1, 0x0, .ro, .live, .none, 0x0, 0x7⟩ /- PB_RAIL_STATUS -/
  , ⟨0x160200, 1, 0x0, 1, 0x0, .wo, .none, .none, 0x0, 0xFFF⟩ /- PB_MIN_ARM -/
  , ⟨0x160204, 1, 0x0, 1, 0x0, .hold, .hold, (.fixed 45), 0xA, 0xFF⟩ /- PB_STUCK_CFG -/
  , ⟨0x161000, 4, 0x100, 64, 0x4, .hold, .hold, (.fixed 45), 0x0, 0x1FFF⟩ /- PB_THR -/
  , ⟨0x162000, 4, 0x400, 64, 0x10, .ro, .ctl, .none, 0x0, 0x8000FFFF⟩ /- PB_SMIN -/
  , ⟨0x162004, 4, 0x400, 64, 0x10, .ro, .ctl, .none, 0x0, 0xFFFFFFFF⟩ /- PB_SMIN_TS_LO -/
  , ⟨0x162008, 4, 0x400, 64, 0x10, .ro, .ctl, .none, 0x0, 0xFFFFFFFF⟩ /- PB_SMIN_TS_HI -/
  , ⟨0x16200C, 4, 0x400, 64, 0x10, .ro, .ctl, .none, 0x0, 0x8000FFFF⟩ /- PB_SVOLT -/
  , ⟨0x163000, 4, 0x100, 64, 0x4, .ro, .ctl, .none, 0x0, 0xFFFFFFFF⟩ /- PB_SITE -/
  , ⟨0x164000, 32, 0x10, 1, 0x0, .hold, .hold, .partition, 0xA080200, 0xFFFF07FF⟩ /- PB_PART_CFG -/
  , ⟨0x164004, 32, 0x10, 1, 0x0, .ro, .live, .none, 0x0, 0x77FF07FF⟩ /- PB_FREQ -/
  , ⟨0x164008, 32, 0x10, 1, 0x0, .rc, .ctl, .none, 0x0, 0xFFFF⟩ /- PB_FRZ_CNT -/ ]

/-- Register families whose base lies in 0x18_0000 – 0x18_FFFF. -/
def regBlock18 : List RegFamily :=
  [ ⟨0x180000, 1, 0x0, 1, 0x0, .hold, .hold, (.fixed 43), 0xA1E0A, 0xFFFF3F⟩ /- EST_CFG -/
  , ⟨0x180004, 1, 0x0, 1, 0x0, .hold, .hold, (.fixed 43), 0x4435050F, 0xFFFFFFFF⟩ /- EST_CRACK_CFG -/
  , ⟨0x180008, 1, 0x0, 1, 0x0, .hold, .hold, (.fixed 43), 0x3C0000, 0xFFF7FF⟩ /- EST_CMD -/
  , ⟨0x18000C, 1, 0x0, 1, 0x0, .ro, .live, .none, 0x0, 0xFFFF01⟩ /- EST_STATUS -/
  , ⟨0x180010, 1, 0x0, 1, 0x0, .w1c, .data, .none, 0x0, 0x7F⟩ /- EST_EVENT -/
  , ⟨0x180014, 1, 0x0, 1, 0x0, .ro, .data, .none, 0x0, 0xFFFFF7FF⟩ /- EST_CAP_STATUS -/
  , ⟨0x180100, 8, 0x8, 1, 0x0, .ro, .data, .none, 0x0, 0xFFFF⟩ /- EST_LL -/
  , ⟨0x180104, 8, 0x8, 1, 0x0, .ro, .data, .none, 0x3FF, 0x800003FF⟩ /- EST_LL_CONF -/
  , ⟨0x181000, 128, 0x20, 1, 0x0, .hold, .hold, (.fixed 43), 0x0, 0x80FFFFFF⟩ /- EST_BASE -/
  , ⟨0x181004, 128, 0x20, 1, 0x0, .ro, .data, .none, 0x40000000, 0xC0FFFFFF⟩ /- EST_R -/
  , ⟨0x181008, 128, 0x20, 1, 0x0, .ro, .data, .none, 0x3FF, 0x1F03FF⟩ /- EST_CONF -/
  , ⟨0x18100C, 128, 0x20, 1, 0x0, .ro, .data, .none, 0x0, 0xFFFFFFFF⟩ /- EST_REF -/
  , ⟨0x181010, 128, 0x20, 1, 0x0, .w1c, .data, .none, 0x0, 0x7F⟩ /- EST_RGN_EVENT -/
  , ⟨0x181014, 128, 0x20, 1, 0x0, .rc, .data, .none, 0x0, 0xFFFFFFFF⟩ /- EST_RGN_CNT -/ ]

/-- Register families whose base lies in 0x19_0000 – 0x19_FFFF. -/
def regBlock19 : List RegFamily :=
  [ ⟨0x190000, 32, 0x100, 1, 0x0, .hold, .hold, .partition, 0x400, 0x7FF⟩ /- CAP_REQ -/
  , ⟨0x190004, 32, 0x100, 1, 0x0, .hold, .hold, .partition, 0x400, 0x7FF⟩ /- CAP_MAN -/
  , ⟨0x190008, 32, 0x100, 1, 0x0, .hold, .hold, .partition, 0x10400, 0x7FF07FF⟩ /- CAP_ENV -/
  , ⟨0x19000C, 32, 0x100, 1, 0x0, .hold, .hold, .partition, 0x40FF, 0xFFFF⟩ /- CAP_ENV2 -/
  , ⟨0x190010, 32, 0x100, 1, 0x0, .hold, .hold, .partition, 0x1001, 0xFFFF⟩ /- CAP_PWR_CFG -/
  , ⟨0x190014, 32, 0x100, 1, 0x0, .hold, .hold, .partition, 0x40505F0, 0xFF0F0FFF⟩ /- CAP_THM_CFG -/
  , ⟨0x190018, 32, 0x100, 1, 0x0, .hold, .hold, .partition, 0x90400, 0x1F07FF⟩ /- CAP_GCEIL -/
  , ⟨0x190040, 32, 0x100, 1, 0x0, .ro, .live, .none, 0x0, 0x3FFF07FF⟩ /- CAP_STATUS -/
  , ⟨0x190044, 32, 0x100, 1, 0x0, .ro, .live, .none, 0x0, 0xFFFF⟩ /- CAP_BIND -/
  , ⟨0x190048, 32, 0x100, 1, 0x0, .ro, .live, .none, 0x0, 0x7FF07FF⟩ /- CAP_LOOP -/
  , ⟨0x19004C, 32, 0x100, 1, 0x0, .ro, .live, .none, 0x0, 0xF07FF⟩ /- CAP_PROP -/
  , ⟨0x190050, 32, 0x100, 1, 0x0, .ro, .live, .none, 0x0, 0xFFFFFFFF⟩ /- CAP_PWR -/
  , ⟨0x190054, 32, 0x100, 1, 0x0, .ro, .live, .none, 0x0, 0xFFFF⟩ /- CAP_TEMP -/
  , ⟨0x190058, 32, 0x100, 1, 0x0, .ro, .live, .none, 0x400, 0x7FF⟩ /- CAP_DUTY -/
  , ⟨0x190060, 32, 0x100, 1, 0x0, .ro, .dev, .none, 0x0, 0xFFFFFFFF⟩ /- CAP_LOST_THR_LO -/
  , ⟨0x190064, 32, 0x100, 1, 0x0, .ro, .dev, .none, 0x0, 0xFFFFFFFF⟩ /- CAP_LOST_THR_HI -/
  , ⟨0x190068, 32, 0x100, 1, 0x0, .ro, .dev, .none, 0x0, 0xFFFFFFFF⟩ /- CAP_LOST_STR_LO -/
  , ⟨0x19006C, 32, 0x100, 1, 0x0, .ro, .dev, .none, 0x0, 0xFFFFFFFF⟩ /- CAP_LOST_STR_HI -/
  , ⟨0x194000, 32, 0x100, 16, 0x10, .ro, .dev, .none, 0x0, 0xFFFFFFFF⟩ /- CAP_RCNT -/
  , ⟨0x194004, 32, 0x100, 16, 0x10, .ro, .dev, .none, 0x0, 0xFFFFFFFF⟩ /- CAP_RDUR_LO -/
  , ⟨0x194008, 32, 0x100, 16, 0x10, .ro, .dev, .none, 0x0, 0xFFFF⟩ /- CAP_RDUR_HI -/
  , ⟨0x198000, 4, 0x200, 1, 0x0, .wo, .none, .none, 0x0, 0x1F03⟩ /- CAP_SNAP_CTL -/
  , ⟨0x198004, 4, 0x200, 1, 0x0, .ro, .dev, .none, 0x0, 0xFFFF1F03⟩ /- CAP_SNAP_STATUS -/
  , ⟨0x198008, 4, 0x200, 1, 0x0, .ro, .dev, .none, 0x0, 0xFFFFFFFF⟩ /- CAP_SNAP_TB_LO -/
  , ⟨0x19800C, 4, 0x200, 1, 0x0, .ro, .dev, .none, 0x0, 0xFFFFFFFF⟩ /- CAP_SNAP_TB_HI -/
  , ⟨0x198010, 4, 0x200, 1, 0x0, .ro, .dev, .none, 0x0, 0xFFFFFFFF⟩ /- CAP_SNAP_LOST_THR_LO -/
  , ⟨0x198014, 4, 0x200, 1, 0x0, .ro, .dev, .none, 0x0, 0xFFFFFFFF⟩ /- CAP_SNAP_LOST_THR_HI -/
  , ⟨0x198018, 4, 0x200, 1, 0x0, .ro, .dev, .none, 0x0, 0xFFFFFFFF⟩ /- CAP_SNAP_LOST_STR_LO -/
  , ⟨0x19801C, 4, 0x200, 1, 0x0, .ro, .dev, .none, 0x0, 0xFFFFFFFF⟩ /- CAP_SNAP_LOST_STR_HI -/
  , ⟨0x198100, 4, 0x200, 16, 0x10, .ro, .dev, .none, 0x0, 0xFFFFFFFF⟩ /- CAP_SNAP_CNT -/
  , ⟨0x198104, 4, 0x200, 16, 0x10, .ro, .dev, .none, 0x0, 0xFFFFFFFF⟩ /- CAP_SNAP_DUR_LO -/
  , ⟨0x198108, 4, 0x200, 16, 0x10, .ro, .dev, .none, 0x0, 0xFFFF⟩ /- CAP_SNAP_DUR_HI -/
  , ⟨0x19A000, 1, 0x0, 1, 0x0, .hold, .hold, (.fixed 44), 0x0, 0xFFFF⟩ /- CAP_BOARD -/
  , ⟨0x19A004, 1, 0x0, 1, 0x0, .hold, .hold, (.fixed 44), 0xF30000, 0xFF0FFF⟩ /- CAP_IIN -/
  , ⟨0x19A008, 1, 0x0, 1, 0x0, .hold, .hold, (.fixed 44), 0x3E8, 0xFFFF⟩ /- CAP_CONT_CFG -/
  , ⟨0x19A00C, 1, 0x0, 1, 0x0, .hold, .hold, (.fixed 44), 0x0, 0xFFFFFFFF⟩ /- CAP_WATCH -/
  , ⟨0x19A100, 3, 0x4, 1, 0x0, .ro, .live, .none, 0x0, 0xFFFFFFFF⟩ /- CAP_PIN -/
  , ⟨0x19A110, 3, 0x4, 1, 0x0, .w1c, .ctl, .none, 0x0, 0xFFFFFFFF⟩ /- CAP_CONT -/
  , ⟨0x19A11C, 1, 0x0, 1, 0x0, .rc, .ctl, .none, 0x0, 0xFFFF⟩ /- CAP_CONT_CNT -/
  , ⟨0x19A200, 96, 0x4, 1, 0x0, .rc, .ctl, .none, 0x0, 0xFFFFFFFF⟩ /- CAP_PIN_TIME -/ ]

/-- Register families whose base lies in 0x1A_0000 – 0x1A_FFFF. -/
def regBlock1A : List RegFamily :=
  [ ⟨0x1A0000, 1, 0x0, 1, 0x0, .ro, .live, .none, 0x1, 0xFF0F07⟩ /- FQ_STATUS -/
  , ⟨0x1A0004, 1, 0x0, 1, 0x0, .w1c, .ctl, .none, 0x0, 0x7F⟩ /- FQ_EVENT -/
  , ⟨0x1A0008, 1, 0x0, 1, 0x0, .hold, .hold, (.fixed 42), 0x0, 0xFFFFFFFF⟩ /- FQ_RAMP -/
  , ⟨0x1A000C, 1, 0x0, 1, 0x0, .hold, .hold, (.fixed 42), 0x3E8, 0x3FFF⟩ /- FQ_RAMP2 -/
  , ⟨0x1A0010, 1, 0x0, 1, 0x0, .hold, .hold, (.fixed 42), 0x2280096, 0xFFFF03FF⟩ /- FQ_PRE -/
  , ⟨0x1A0014, 1, 0x0, 1, 0x0, .hold, .hold, (.fixed 42), 0x1900, 0x83FFFF0F⟩ /- FQ_STAG -/
  , ⟨0x1A0018, 1, 0x0, 1, 0x0, .hold, .hold, (.fixed 42), 0x5605640A, 0xFFFFFFFF⟩ /- FQ_STAG2 -/
  , ⟨0x1A001C, 1, 0x0, 1, 0x0, .hold, .hold, (.fixed 42), 0x64140032, 0xFFFFFFFF⟩ /- FQ_SCHED -/
  , ⟨0x1A0020, 1, 0x0, 1, 0x0, .wo, .none, .none, 0x0, 0xFFFFFFFF⟩ /- FQ_SCHED_HB -/
  , ⟨0x1A0024, 1, 0x0, 1, 0x0, .wo, .none, .none, 0x0, 0x13F⟩ /- FQ_GRANT -/
  , ⟨0x1A0028, 1, 0x0, 1, 0x0, .ro, .live, .none, 0x0, 0xFFFFFFFF⟩ /- FQ_PWR -/
  , ⟨0x1A002C, 1, 0x0, 1, 0x0, .ro, .live, .none, 0x0, 0xFFFFFFFF⟩ /- FQ_CD -/
  , ⟨0x1A0030, 1, 0x0, 1, 0x0, .rc, .ctl, .none, 0x0, 0xFFFFFFFF⟩ /- FQ_CNT -/
  , ⟨0x1A0034, 1, 0x0, 1, 0x0, .rc, .ctl, .none, 0x0, 0xFFFFFFFF⟩ /- FQ_CNT2 -/
  , ⟨0x1A0040, 16, 0x4, 1, 0x0, .hold, .hold, (.fixed 42), 0x0, 0xFF1FFF⟩ /- FQ_CLASS -/
  , ⟨0x1A0080, 8, 0x4, 1, 0x0, .hold, .hold, (.fixed 42), 0xA0000, 0xFF0FFF⟩ /- FQ_STEP -/
  , ⟨0x1A0100, 32, 0x4, 1, 0x0, .hold, .hold, (.fixed 42), 0xA0200, 0xFF07FF⟩ /- FQ_PCFG -/
  , ⟨0x1A0200, 64, 0x10, 1, 0x0, .hold, .hold, (.fixed 42), 0x11388, 0x1FFFFFF⟩ /- FQ_QCFG -/
  , ⟨0x1A0204, 64, 0x10, 1, 0x0, .ro, .live, .none, 0x0, 0xFFFFFFFF⟩ /- FQ_HEAD -/
  , ⟨0x1A0208, 64, 0x10, 1, 0x0, .ro, .live, .none, 0x0, 0xFFFFFF7F⟩ /- FQ_QSTAT -/
  , ⟨0x1A020C, 64, 0x10, 1, 0x0, .ro, .live, .none, 0x0, 0xFFFF⟩ /- FQ_FRINT -/ ]

/-- Register families whose base lies in 0x1B_0000 – 0x1B_FFFF. -/
def regBlock1B : List RegFamily :=
  [ ⟨0x1B0000, 32, 0x20, 1, 0x0, .hold, .hold, (.fixed 42), 0x0, 0xFFFFFF⟩ /- BAL_CFG -/
  , ⟨0x1B0004, 32, 0x20, 1, 0x0, .hold, .hold, (.fixed 42), 0xFFFF00, 0xFFFFFF⟩ /- BAL_ENV -/
  , ⟨0x1B0008, 32, 0x20, 1, 0x0, .ro, .live, .none, 0x0, 0x7FFFF⟩ /- BAL_LVL -/
  , ⟨0x1B000C, 32, 0x20, 1, 0x0, .ro, .live, .none, 0x0, 0xFFFF⟩ /- BAL_PWR -/
  , ⟨0x1B0010, 32, 0x20, 1, 0x0, .ro, .dev, .none, 0x0, 0xFFFFFFFF⟩ /- BAL_E_LO -/
  , ⟨0x1B0014, 32, 0x20, 1, 0x0, .ro, .dev, .none, 0x0, 0xFFFFFFFF⟩ /- BAL_E_HI -/
  , ⟨0x1B1000, 1, 0x0, 1, 0x0, .ro, .live, .none, 0x0, 0x3⟩ /- BAL_STATUS -/
  , ⟨0x1B1004, 1, 0x0, 1, 0x0, .ro, .live, .none, 0x0, 0xFFFF⟩ /- BAL_Q -/
  , ⟨0x1B1008, 1, 0x0, 1, 0x0, .ro, .dev, .none, 0x0, 0xFFFFFFFF⟩ /- BAL_ETOT_LO -/
  , ⟨0x1B100C, 1, 0x0, 1, 0x0, .ro, .dev, .none, 0x0, 0xFFFFFFFF⟩ /- BAL_ETOT_HI -/
  , ⟨0x1B1010, 1, 0x0, 1, 0x0, .w1c, .ctl, .none, 0x0, 0xF⟩ /- BAL_EVENT -/
  , ⟨0x1B1014, 1, 0x0, 1, 0x0, .rc, .ctl, .none, 0x0, 0xFFFFFFFF⟩ /- BAL_HINT_CNT -/ ]

/-- Register families whose base lies in 0x1C_0000 – 0x1C_FFFF. -/
def regBlock1C : List RegFamily :=
  [ ⟨0x1C0000, 10, 0x100, 1, 0x0, .hold, .hold, (.fixed 44), 0x644141, 0xFFFFFFF1⟩ /- TVL_CFG -/
  , ⟨0x1C0008, 10, 0x100, 1, 0x0, .ro, .live, .none, 0x0, 0x7FFFFF⟩ /- TVL_STATUS -/
  , ⟨0x1C000C, 10, 0x100, 1, 0x0, .w1c, .ctl, .none, 0x0, 0xFF⟩ /- TVL_EVENT -/
  , ⟨0x1C0010, 10, 0x100, 1, 0x0, .rc, .ctl, .none, 0x0, 0xFFFFFFFF⟩ /- TVL_ERR -/
  , ⟨0x1C0014, 10, 0x100, 1, 0x0, .rc, .ctl, .none, 0x0, 0xFFFFFFFF⟩ /- TVL_CNT -/
  , ⟨0x1C0018, 10, 0x100, 1, 0x0, .ro, .live, .none, 0x0, 0xFFFFFF07⟩ /- TVL_CRED -/
  , ⟨0x1C001C, 10, 0x100, 1, 0x0, .ro, .ctl, .none, 0x0, 0xFFF⟩ /- TVL_LAT -/
  , ⟨0x1C1000, 1, 0x0, 1, 0x0, .hold, .hold, (.fixed 44), 0x640132, 0xFF01FF⟩ /- TVL_GCFG -/
  , ⟨0x1C1004, 1, 0x0, 1, 0x0, .ro, .live, .none, 0x0, 0x1F1FFF⟩ /- TVL_GSTATUS -/
  , ⟨0x1C1008, 1, 0x0, 1, 0x0, .w1c, .ctl, .none, 0x0, 0xF⟩ /- TVL_GEVENT -/
  , ⟨0x1C2000, 8, 0x20, 1, 0x0, .ro, .ctl, .none, 0x0, 0xFFFF001F⟩ /- TVL_DLQ_STAT -/
  , ⟨0x1C2008, 8, 0x20, 1, 0x0, .ro, .ctl, .none, 0x0, 0xFFFFFFFF⟩ /- TVL_DLQ_W0 -/
  , ⟨0x1C200C, 8, 0x20, 1, 0x0, .ro, .ctl, .none, 0x0, 0xFFFFFFFF⟩ /- TVL_DLQ_W1 -/
  , ⟨0x1C2010, 8, 0x20, 1, 0x0, .ro, .ctl, .none, 0x0, 0xFFFFFFFF⟩ /- TVL_DLQ_W2 -/
  , ⟨0x1C2014, 8, 0x20, 1, 0x0, .rc, .ctl, .none, 0x0, 0xFFFFFFFF⟩ /- TVL_DLQ_W3 -/ ]

/-- Register families whose base lies in 0x1E_0000 – 0x1E_FFFF. -/
def regBlock1E : List RegFamily :=
  [ ⟨0x1E0000, 1, 0x0, 1, 0x0, .ro, .live, .none, 0x0, 0x3FF00FF⟩ /- DOM_ROLE -/
  , ⟨0x1E0004, 1, 0x0, 1, 0x0, .ro, .live, .none, 0x0, 0xFFFFFFFF⟩ /- DOM_MEPOCH -/
  , ⟨0x1E0008, 1, 0x0, 1, 0x0, .w1c, .ctl, .none, 0x0, 0x3FF⟩ /- DOM_EVENT -/
  , ⟨0x1E000C, 1, 0x0, 1, 0x0, .ro, .live, .none, 0xF, 0xF⟩ /- DOM_UP -/
  , ⟨0x1E0010, 1, 0x0, 1, 0x0, .hold, .hold, (.fixed 44), 0x14, 0xFF⟩ /- DOM_HB_CFG -/
  , ⟨0x1E0014, 1, 0x0, 1, 0x0, .hold, .hold, (.fixed 44), 0x12C96384, 0x3FFFFFFF⟩ /- DOM_EPOCH_CFG -/
  , ⟨0x1E0018, 1, 0x0, 1, 0x0, .hold, .hold, (.fixed 44), 0x0, 0xFFFFFFFF⟩ /- DOM_BUDGET -/
  , ⟨0x1E001C, 1, 0x0, 1, 0x0, .hold, .hold, (.fixed 44), 0x0, 0xFFFFFFFF⟩ /- DOM_RAMP -/
  , ⟨0x1E0020, 1, 0x0, 1, 0x0, .hold, .hold, (.fixed 44), 0x8FF, 0xFFFF⟩ /- DOM_ALLOC_CFG -/
  , ⟨0x1E0024, 1, 0x0, 1, 0x0, .hold, .hold, (.fixed 44), 0x53200FA, 0xFFFF03FF⟩ /- DOM_GROUP_CFG -/
  , ⟨0x1E0028, 1, 0x0, 1, 0x0, .hold, .hold, (.fixed 44), 0x0, 0x3FFFC0⟩ /- DOM_ABUF -/
  , ⟨0x1E002C, 1, 0x0, 1, 0x0, .hold, .hold, (.fixed 44), 0x0, 0x3FFFC0⟩ /- DOM_GBUF -/
  , ⟨0x1E0030, 1, 0x0, 1, 0x0, .rc, .ctl, .none, 0x0, 0xFFFFFFFF⟩ /- DOM_BT_CMP -/
  , ⟨0x1E0034, 1, 0x0, 1, 0x0, .rc, .ctl, .none, 0x0, 0xFFFFFFFF⟩ /- DOM_CNT -/
  , ⟨0x1E0038, 1, 0x0, 1, 0x0, .ro, .live, .none, 0x0, 0xFFFF07FF⟩ /- DOM_MEMBERS -/
  , ⟨0x1E0100, 1, 0x0, 1, 0x0, .wo, .none, .none, 0x0, 0x7⟩ /- DOM_BT_SEAL -/
  , ⟨0x1E0104, 1, 0x0, 1, 0x0, .ro, .live, .none, 0x0, 0xFF07⟩ /- DOM_BT_STATUS -/
  , ⟨0x1E0108, 1, 0x0, 1, 0x0, .rc, .ctl, .none, 0x0, 0xFFFFFFFF⟩ /- DOM_BT_STALE_CNT -/
  , ⟨0x1E0200, 64, 0x4, 1, 0x0, .ro, .live, .none, 0x400, 0xFF07F7FF⟩ /- DOM_GROUP -/
  , ⟨0x1E0300, 32, 0x4, 1, 0x0, .hold, .hold, (.fixed 44), 0x0, 0xFFFF⟩ /- DOM_PFLOOR -/ ]

/-- Register families whose base lies in 0x1F_0000 – 0x1F_FFFF. -/
def regBlock1F : List RegFamily :=
  [ ⟨0x1F0000, 2, 0x4000, 2192, 0x4, .ro, .bank, .none, 0x0, 0xFFFFFFFF⟩ /- DOM_BT_BANK -/ ]

/-- Register families whose base lies in 0x20_0000 – 0x20_FFFF. -/
def regBlock20 : List RegFamily :=
  [ ⟨0x200000, 1, 0x0, 1, 0x0, .ro, .live, .none, 0x0, 0x3⟩ /- FWC_MODE -/
  , ⟨0x200100, 8, 0x20, 1, 0x0, .ro, .live, .none, 0x0, 0x7377FF0F⟩ /- FWC_CORE_CFG -/
  , ⟨0x200104, 8, 0x20, 1, 0x0, .ro, .live, .none, 0x0, 0x7⟩ /- FWC_CORE_TAG -/
  , ⟨0x200108, 8, 0x20, 1, 0x0, .rc, .warm, .none, 0x0, 0xFFFFFFFF⟩ /- FWC_MISS_CNT -/
  , ⟨0x20010C, 8, 0x20, 1, 0x0, .rc, .warm, .none, 0x0, 0xFFFF⟩ /- FWC_ECC_CNT -/
  , ⟨0x200110, 8, 0x20, 1, 0x0, .wo, .none, .none, 0x0, 0xFF07⟩ /- FWC_SELF -/
  , ⟨0x200114, 8, 0x20, 1, 0x0, .wo, .none, .none, 0x0, 0xFF03⟩ /- FWC_CORE_CTL -/
  , ⟨0x200118, 8, 0x20, 1, 0x0, .ro, .live, .none, 0x0, 0xFFFF⟩ /- FWC_CORE_STATUS -/
  , ⟨0x20011C, 8, 0x20, 1, 0x0, .rw, .warm, .none, 0x6403E8, 0xFFFFFFFF⟩ /- FWC_WDOG -/
  , ⟨0x200400, 1, 0x0, 1, 0x0, .rc, .dev, .none, 0x0, 0xFFFFFFFF⟩ /- FWC_SRAM_ECC -/
  , ⟨0x200404, 1, 0x0, 1, 0x0, .w1c, .dev, .none, 0x0, 0xF⟩ /- FWC_EVENT -/
  , ⟨0x200408, 1, 0x0, 1, 0x0, .wo, .none, .none, 0x0, 0xFF07⟩ /- FWC_LD_CTL -/
  , ⟨0x20040C, 1, 0x0, 1, 0x0, .rw, .mgmt, .none, 0x0, 0x3⟩ /- FWC_LD_SRC -/
  , ⟨0x200410, 1, 0x0, 1, 0x0, .rw, .mgmt, .none, 0x0, 0xFFFFFFFF⟩ /- FWC_LD_ADDR_LO -/
  , ⟨0x200414, 1, 0x0, 1, 0x0, .rw, .mgmt, .none, 0x0, 0xFFFFFFFF⟩ /- FWC_LD_ADDR_HI -/
  , ⟨0x200418, 1, 0x0, 1, 0x0, .rw, .mgmt, .none, 0x0, 0xFFFFFFFF⟩ /- FWC_LD_LEN -/
  , ⟨0x20041C, 1, 0x0, 1, 0x0, .rw, .mgmt, .none, 0x0, 0x3FFFC0⟩ /- FWC_LD_RETAIN -/
  , ⟨0x200420, 1, 0x0, 1, 0x0, .ro, .mgmt, .none, 0x0, 0x70FFF⟩ /- FWC_LD_STATUS -/
  , ⟨0x200424, 1, 0x0, 1, 0x0, .ro, .mgmt, .none, 0x0, 0xFFFFFFFF⟩ /- FWC_LD_FAIL_INFO -/
  , ⟨0x200428, 1, 0x0, 1, 0x0, .rw, .warm, .none, 0x364, 0xFFF⟩ /- FWC_LIVE_CFG -/
  , ⟨0x20042C, 1, 0x0, 1, 0x0, .w1c, .mgmt, .none, 0x0, 0x3F⟩ /- FWC_LD_EVENT -/
  , ⟨0x200440, 8, 0x4, 1, 0x0, .ro, .live, .none, 0x0, 0xFFFFFFFF⟩ /- FWC_REL -/ ]

/-- Register families whose base lies in 0x24_0000 – 0x24_FFFF. -/
def regBlock24 : List RegFamily :=
  [ ⟨0x240000, 64, 0x10, 1, 0x0, .wo, .none, .none, 0x0, 0xFFF⟩ /- HIR_DB_SQ -/
  , ⟨0x240004, 64, 0x10, 1, 0x0, .wo, .none, .none, 0x0, 0xFFF⟩ /- HIR_DB_CQ -/
  , ⟨0x241000, 64, 0x20, 1, 0x0, .rw, .mgmt, .none, 0x0, 0x3FFF3F03⟩ /- HIR_RING_CFG -/
  , ⟨0x241004, 64, 0x20, 1, 0x0, .rw, .mgmt, .none, 0x0, 0xFFFC0⟩ /- HIR_RING_SQ -/
  , ⟨0x241008, 64, 0x20, 1, 0x0, .rw, .mgmt, .none, 0x0, 0xFFFFFFC0⟩ /- HIR_RING_CQ_LO -/
  , ⟨0x24100C, 64, 0x20, 1, 0x0, .rw, .mgmt, .none, 0x0, 0xFFFFFFFF⟩ /- HIR_RING_CQ_HI -/
  , ⟨0x241010, 64, 0x20, 1, 0x0, .rw, .mgmt, .none, 0x0, 0x80FF00FF⟩ /- HIR_RING_INT -/
  , ⟨0x241014, 64, 0x20, 1, 0x0, .ro, .live, .none, 0x80000000, 0xFFFFFFFF⟩ /- HIR_RING_STATUS -/
  , ⟨0x241018, 64, 0x20, 1, 0x0, .rc, .mgmt, .none, 0x0, 0xFFFFFFFF⟩ /- HIR_RING_CNT -/
  , ⟨0x241800, 32, 0x4, 1, 0x0, .rw, .mgmt, .none, 0x0, 0x3F⟩ /- HIR_PART_FUNC -/
  , ⟨0x241900, 1, 0x0, 1, 0x0, .w1c, .mgmt, .none, 0x0, 0x7⟩ /- HIR_EVENT -/
  , ⟨0x242000, 64, 0x10, 1, 0x0, .hold, .hold, (.fixed 43), 0x6400, 0xFFFF03⟩ /- HIR_TEL_CFG -/
  , ⟨0x242004, 64, 0x10, 1, 0x0, .hold, .hold, (.fixed 43), 0x0, 0xFFFFFFFF⟩ /- HIR_TEL_SEL -/ ]

/-- Register families whose base lies in 0x26_0000 – 0x26_FFFF. -/
def regBlock26 : List RegFamily :=
  [ ⟨0x260000, 1, 0x0, 1, 0x0, .rw, .por, .none, 0x0, 0x3⟩ /- REC_CTL -/
  , ⟨0x260004, 1, 0x0, 1, 0x0, .wo, .none, .none, 0x0, 0x1⟩ /- REC_CMD -/
  , ⟨0x260008, 1, 0x0, 1, 0x0, .ro, .live, .none, 0x0, 0x3⟩ /- REC_STATUS -/
  , ⟨0x26000C, 1, 0x0, 1, 0x0, .w1c, .dev, .none, 0x0, 0x1F⟩ /- REC_EVENT -/
  , ⟨0x260010, 1, 0x0, 1, 0x0, .ro, .por, .none, 0x0, 0xFFFFFFFF⟩ /- REC_HEAD_LO -/
  , ⟨0x260014, 1, 0x0, 1, 0x0, .ro, .por, .none, 0x0, 0xFFFFFFFF⟩ /- REC_HEAD_HI -/
  , ⟨0x260018, 1, 0x0, 1, 0x0, .rw, .por, .none, 0x0, 0xFFFFFFFF⟩ /- REC_TAIL_LO -/
  , ⟨0x26001C, 1, 0x0, 1, 0x0, .rw, .por, .none, 0x0, 0xFFFFFFFF⟩ /- REC_TAIL_HI -/
  , ⟨0x260020, 1, 0x0, 1, 0x0, .rc, .dev, .none, 0x0, 0xFFFFFFFF⟩ /- REC_LOST -/
  , ⟨0x260024, 1, 0x0, 1, 0x0, .rw, .dev, .none, 0x0, 0x7⟩ /- REC_WIN_SEL -/
  , ⟨0x260040, 3, 0x4, 1, 0x0, .rc, .dev, .none, 0x0, 0xFFFFFFFF⟩ /- REC_ARB_DROP -/
  , ⟨0x260100, 1, 0x0, 1, 0x0, .rw, .dev, .none, 0x0, 0xFFFF0000⟩ /- REC_SPILL_BASE_LO -/
  , ⟨0x260104, 1, 0x0, 1, 0x0, .rw, .dev, .none, 0x0, 0xFFFFFFFF⟩ /- REC_SPILL_BASE_HI -/
  , ⟨0x260108, 1, 0x0, 1, 0x0, .rw, .dev, .none, 0x0, 0x7FFFFF⟩ /- REC_SPILL_SIZE -/
  , ⟨0x260110, 1, 0x0, 1, 0x0, .ro, .por, .none, 0x0, 0xFFFFFFFF⟩ /- REC_SPILL_NEXT_LO -/
  , ⟨0x260114, 1, 0x0, 1, 0x0, .ro, .por, .none, 0x0, 0xFFFFFFFF⟩ /- REC_SPILL_NEXT_HI -/
  , ⟨0x260118, 1, 0x0, 1, 0x0, .rc, .dev, .none, 0x0, 0xFFFFFFFF⟩ /- REC_SPILL_CNT -/
  , ⟨0x260200, 10, 0x20, 1, 0x0, .wo, .none, .none, 0x0, 0xFFFFFFFF⟩ /- REC_PUT_HDR -/
  , ⟨0x260204, 10, 0x20, 1, 0x0, .wo, .none, .none, 0x0, 0x7FFFF⟩ /- REC_PUT_ARG -/
  , ⟨0x260208, 10, 0x20, 1, 0x0, .wo, .none, .none, 0x0, 0xFFFFFFFF⟩ /- REC_PUT_V0 -/
  , ⟨0x26020C, 10, 0x20, 1, 0x0, .wo, .none, .none, 0x0, 0xFFFFFFFF⟩ /- REC_PUT_V1 -/
  , ⟨0x260210, 10, 0x20, 1, 0x0, .wo, .none, .none, 0x0, 0xFFFFFFFF⟩ /- REC_PUT_V2 -/
  , ⟨0x260214, 10, 0x20, 1, 0x0, .wo, .none, .none, 0x0, 0xFFFFFFFF⟩ /- REC_PUT_V3 -/
  , ⟨0x260218, 10, 0x20, 1, 0x0, .wo, .none, .none, 0x0, 0x1⟩ /- REC_PUT_GO -/ ]

/-- Register families whose base lies in 0x27_0000 – 0x27_FFFF. -/
def regBlock27 : List RegFamily :=
  [ ⟨0x270000, 16384, 0x4, 1, 0x0, .ro, .live, .none, 0x0, 0xFFFFFFFF⟩ /- REC_WIN -/ ]

/-- Register families whose base lies in 0x28_0000 – 0x28_FFFF. -/
def regBlock28 : List RegFamily :=
  [ ⟨0x280000, 1, 0x0, 1, 0x0, .ro, .live, .none, 0x0, 0xFFFFF⟩ /- INT_PENDING -/
  , ⟨0x280004, 1, 0x0, 1, 0x0, .rw, .warm, .none, 0x0, 0xFFFFF⟩ /- INT_MASK -/
  , ⟨0x280100, 20, 0x4, 1, 0x0, .rw, .warm, .none, 0x0, 0x1FFBF⟩ /- INT_ROUTE -/ ]

/-- Register families whose base lies in 0x2A_0000 – 0x2A_FFFF. -/
def regBlock2A : List RegFamily :=
  [ ⟨0x2A0000, 1, 0x0, 1, 0x0, .ro, .live, .none, 0x58, 0x3FF⟩ /- SBM_STATUS -/
  , ⟨0x2A0004, 1, 0x0, 1, 0x0, .w1c, .mgmt, .none, 0x0, 0x1F⟩ /- SBM_EVENT -/
  , ⟨0x2A0008, 1, 0x0, 1, 0x0, .rc, .mgmt, .none, 0x0, 0xFFFFFFFF⟩ /- SBM_CNT -/
  , ⟨0x2A000C, 1, 0x0, 1, 0x0, .ro, .mgmt, .none, 0x0, 0xFFFF⟩ /- SBM_EID -/
  , ⟨0x2A0010, 1, 0x0, 1, 0x0, .ro, .mgmt, .none, 0x0, 0x8000FFFF⟩ /- SBM_BMC_CAP -/
  , ⟨0x2A0020, 9, 0x4, 1, 0x0, .ro, .mgmt, .none, 0x0, 0xFFFF⟩ /- SBM_PMB_STATUS -/ ]

/-- The families that can hold an offset, by the block range of Table 20.2 in which the offset lies (CH and FAB
families reach over more than one 64 KiB step). -/
def regBlock (off : Nat) : List RegFamily :=
  match off / 0x10000 with
  | 0x0 => regBlock00
  | 0x1 => regBlock01
  | 0x2 => regBlock02
  | 0x3 => regBlock03
  | 0x4 => regBlock04
  | 0x8 => regBlock08
  | 0x10 => regBlock10
  | 0x12 => regBlock12
  | 0x14 => regBlock14
  | 0x15 => regBlock15
  | 0x16 => regBlock16
  | 0x18 => regBlock18
  | 0x19 => regBlock19
  | 0x1A => regBlock1A
  | 0x1B => regBlock1B
  | 0x1C => regBlock1C
  | 0x1E => regBlock1E
  | 0x1F => regBlock1F
  | 0x20 => regBlock20
  | 0x24 => regBlock24
  | 0x26 => regBlock26
  | 0x27 => regBlock27
  | 0x28 => regBlock28
  | 0x2A => regBlock2A
  | _ => []

end Sys2Proof.Machine
end

