-- ==== Sys2Proof/Machine/Parts/Base.lean ====
section
/-! DEFINITION. The parts of the state that chapters 0 to 3, 6, 7 and 17 give the machine: device state, resets, start
sequence, initiator classes, pending commits, budget-table banks, recorder arbiter, time base and clocks, channels, phases,
quads, protection and the supply ladder. Each field's initial value is its value with power-on reset held. -/

namespace Sys2Proof.Machine

/-- Per initiator class: its TOP_ACTIVE_SEL, REC_WIN_SEL, R25 captures and R26 pending low parts (R916, R834, R921). -/
structure ClassSt where
  activeSel : Nat := 0
  notHold : Bool := false
  winSel : Nat := 0
  captures : Tab (Option Word) := []  -- captured high part, by the offset of the low register
  pendLow : Tab (Option Word) := []   -- low part written and not yet applied, by the offset of the low register
  deriving DecidableEq, Repr

/-- A pending tick commit: its groups, its tick and the snapshot of the staged copies (R46–R49). -/
structure PendCommit where
  mask : Nat
  tick : Nat
  snap : Tab Word
  deriving DecidableEq, Repr

/-- A reset in progress (R158, R160, R186): its level (1 device … 5 management-plane), the other plane levels that arrived with it
(R187), and what is still awaited. -/
structure ResetSt where
  level : Nat
  also : List Nat := []      -- further plane levels performed together with it
  from_ : Nat := 0           -- time-base value at which it was requested
  flashWait : Bool := false
  fromHalt : Bool := false
  sideband : Bool := false
  deriving DecidableEq, Repr

/-- One rail in the queue of an ordered discharge (R319, R320, R363). -/
structure DisItem where
  rail : Nat
  maySwitch : Bool             -- taken under R319; otherwise protection forbids it to switch (R320)
  byEn : Bool := false         -- a commit cleared the rail's EN (R169)
  limitOnly : Bool := false    -- HALT without CLK_CTL: only the discharge limit ends it (R363)
  deriving DecidableEq, Repr

/-- What the BX1200 remembers of a BROWNOUT (R6, R7, R172, R174, R175, R184). -/
structure BrownoutSt where
  entered : DevState := .off      -- the state it was entered from
  vauxFell : Bool := false        -- VAUX fell below its reset threshold during it
  devResetLost : Bool := false    -- a device reset was abandoned by it
  deriving DecidableEq, Repr

/-- The device-state machine, resets and start sequencer. -/
structure TopSt where
  state : DevState := .off
  porHeld : Bool := true            -- power-on reset asserted
  porCause : PorCause := .vauxRise  -- what asserted it last
  porstLow : Bool := false          -- PORST_N held low
  padsHiz : Bool := true            -- 3.3 V bank at high impedance (R147)
  hChan : Nat := 0                  -- essential-rail latches that caused HALT, laid out as PROT_CH_LATCH
  hActiveUe : Bool := false         -- H_ACTIVE_UE
  hClock : Bool := false            -- H_CLOCK
  hAon : Bool := false              -- H_AON
  brown : BrownoutSt := {}
  rst : Option ResetSt := none
  lastReqSmbus : Bool := false
  dis : List DisItem := []          -- ordered discharge in progress, head first
  stopping : Bool := false          -- STOP of R168 in progress
  startNext : Option Nat := none    -- next start stage awaited (R209)
  startFrom : Nat := 0              -- time-base value from which that stage's delay runs
  disAt : Nat := 0                  -- time-base value at which the discharge in progress began
  classes : Tab ClassSt := []
  commits : List PendCommit := []
  ueParts : List Nat := []          -- partitions held at floor by R89
  perstLow : Bool := true           -- PCIE_PERST_N asserted
  tripInLow : Bool := false         -- THERMTRIP_IN_N is low, as last seen
  pcieUp : Bool := false            -- the PCI Express core is out of reset
  aerUncorr : Nat := 0              -- errors reported through AER: Uncorrectable Internal Errors, Unsupported Requests, failed fetches (R239)
  deriving DecidableEq, Repr

/-- The budget table (Tables 1.6–1.9): two banks of 2,192 words by word index, and the active bank. -/
structure BudgetSt where
  bank0 : Tab Word := []
  bank1 : Tab Word := []
  active1 : Bool := false     -- bank 1 is active
  floors : Bool := false      -- R65 in force
  stale : Nat := 0            -- consecutive stale epochs, saturating at 255
  last : Nat := 0             -- number of the last budget epoch whose tick was reached
  deriving DecidableEq, Repr

/-- The event recorder's arbiter and ring (R68–R71, R830–R842). -/
structure RecSt where
  q0 : List Entry := []       -- staging queues, oldest first
  q1 : List Entry := []
  q2 : List Entry := []
  last : Nat := 2             -- queue served last
  drop0 : Nat := 0            -- records dropped since the last loss record
  drop1 : Nat := 0
  drop2 : Nat := 0
  marks : List Entry := []    -- Postmarks awaiting the next grant cycle
  head : Nat := 0             -- REC_HEAD
  tail : Nat := 0             -- REC_TAIL
  ring : Tab Entry := []      -- by slot
  stopLoss : Nat := 0         -- discards since the last STOP_LOSS entry
  spillNext : Nat := 0        -- REC_SPILL_NEXT
  spillBase : Nat := 0        -- REC_SPILL_BASE
  hostWin : Tab Entry := []   -- the spill window of host memory as the engine has written it, by window slot
  puts : Tab Word := []       -- staged words of the put sets, by offset
  lastMs : Nat := 0           -- the last multiple of 1,000,000 ns that made a Postmark
  seen : Tab Nat := []        -- time of the last check-failure entry by boundary and unit (R826)
  deriving DecidableEq, Repr

/-- A time-sync exchange in progress on the child's side: its XID, the stamps t1 and t2, and t3 once the answer has left; stamps in
1/16 ns. -/
structure Xch where
  xid : Nat
  t1 : Nat
  t2 : Nat
  t3 : Option Nat := none
  deriving DecidableEq, Repr

/-- The time base and the alignment servo (ch. 2). Offsets and stamps differ in 1/16 ns. -/
structure TbSt where
  c : Nat := 0
  f : Nat := 0                -- fraction, units of 2^-32 ns
  running : Bool := false     -- REFCLK edges advance the count
  servo : Servo := .free
  rate : Int := 0
  slew : Int := 0
  integ : Int := 0            -- accumulated theta, 1/16 ns
  theta : Int := 0            -- last offset, 1/16 ns
  delay : Nat := 0            -- filtered path delay, 1/16 ns
  lockRun : Nat := 0          -- consecutive exchanges within the lock window
  limitRun : Nat := 0         -- consecutive exchanges with RATE at its limit
  aligned : Bool := false
  rateLimited : Bool := false -- R138 in force
  everLocked : Bool := false
  discont : Bool := false
  heldSince : Nat := 0        -- count at the entry to HOLDOVER
  ppsAt : Nat := 0            -- the last multiple of the PPS period that pulsed
  ppsUntil : Nat := 0         -- TBPPS_OUT is high while the count is below this value
  xch : Option Xch := none    -- the exchange in progress with the parent
  deriving DecidableEq, Repr

/-- Clock sources and monitors; the conditions of CLK_STATUS stand in its register word. -/
structure ClkSt where
  fw : FwClock := .pll
  deriving DecidableEq, Repr

/-- One channel (CH, ch. 6). What belongs to a rail stands at its rail channel. Voltages in 5 nV (one
fast sample at one VSLEW or SLEW step is then a whole number). -/
structure ChSt where
  state : ChState := .off
  vref : Int := 0
  vtrim : Int := 0
  vdither : Int := 0
  altPair : Bool := false      -- the alternate pair is in use
  duty : Nat := 0              -- latched channel duty, in 2^-22
  shedCnt : Nat := 0
  addCnt : Nat := 0
  drip : DripState := .run
  dripPhase : Nat := 0
  dripFrom : Nat := 0          -- time-base value at Drip entry
  burstPer : Nat := 0          -- periods of the present burst
  wideLoss : Bool := false
  memberAct : Tab Nat := []    -- phases active on each cascade position of a widened rail
  memberCur : Tab Int := []    -- last current report of each cascade position, 1/16 A
  masterOk : Bool := false     -- REGOK of the master's last duty word, with no BOOST (Table 12.13)
  iMean : Int := 0             -- rail current averaged over the last period, 1/16 A
  softAt : Nat := 0            -- time-base value at the start of soft start
  inWindow : Bool := false
  origPh : Nat := 0            -- phases of a widened rail before R339 removed any
  olRun : Bool := false        -- overload timer running
  olAt : Nat := 0              -- time-base value at which it started
  burstI : Int := 0            -- rail current of the last Drip burst, 1/16 A (ch. 6, Drip mode)
  pgCnt : Nat := 0             -- window breaks in REG (R318)
  senseOk : Bool := false      -- the checks of R316 have passed in this soft start
  settleAt : Nat := 0          -- time-base value from which the settle time runs (R317)
  perAt : Nat := 0             -- start of the present oscillator period, ps of the time base (R292)
  per : Nat := 0               -- PERIOD in force, 160 ps units (R295)
  sched : List Nat := []       -- phases of this device with a slot in the schedule in force, by slot (R293, R294)
  perSum : Int := 0            -- rail current summed over the fast samples of the present period, 1/16 A
  perNum : Nat := 0
  olSum : Int := 0             -- the same over the present 10 µs (R350)
  olNum : Nat := 0
  olBins : List (Int × Nat) := []  -- sums and counts of the earlier 10 µs, newest first, as far back as WINDOW reaches
  deriving DecidableEq, Repr

/-- One phase (PH, ch. 6). -/
structure PhSt where
  level : PwmLevel := .hiz
  active : Bool := false
  fault : Bool := false        -- out of the assigned phases by a stage fault (R335)
  crowbar : Bool := false      -- held LOW by a latched crowbar (R354, R356)
  crowRail : Nat := 8          -- the rail whose latch holds it, 8 for the DECAF overvoltage latch (R152)
  cal : Bool := false          -- removed for calibration (R310)
  widened : Bool := false      -- held at MID by R340
  trim : Int := 0              -- balance trim, in 2^-30 of duty (R303)
  onTime : Nat := 0            -- on-time of the present period, 160 ps units (R296)
  edgeAt : Nat := 0            -- the instant at which it began, ps of the time base (R297)
  due : Bool := false          -- its slot edge of the schedule in force lies ahead (R293)
  off : Int := 0               -- I_off in force, 1/16 A (R465)
  returning : Bool := false    -- returns to the assigned phases at the next period start (R337)
  shortCnt : Nat := 0          -- consecutive peak-limited periods (R348)
  peaked : Bool := false       -- on-time of this period ended under R347
  drove : Bool := false        -- drove HIGH in this period
  negLim : Bool := false       -- at MID for the rest of its period (R299)
  deriving DecidableEq, Repr

/-- One quad: its stage enable and the judgement of its SFLT_N_q input (R939, R940). -/
structure QuadSt where
  sen : Bool := false
  iref : Nat := 0              -- IREF_q output, mV: 600 from the release of power-on reset (R301)
  senRose : Nat := 0           -- time-base value at which SEN_q rose
  sfltLow : Bool := false
  sfltActed : Bool := false    -- the present assertion has been judged
  sfltWindow : Bool := false   -- the present assertion began while R939 applied
  deriving DecidableEq, Repr

end Sys2Proof.Machine
end

