-- ==== Sys2Proof/Machine/Parts/Fab.lean ====
section
/-! DEFINITION. The part of the state that chapter 5 gives: signals, tile state, sinks and cross-device slots. -/

namespace Sys2Proof.Machine

/-- State of one tile (R260): PID, IIR2, LIM, DELAY and AVG hold state. -/
structure TileSt where
  i : Int := 0             -- PID integrator, at the output point plus 16
  d : Int := 0             -- PID D, likewise
  e : Int := 0             -- PID e[n−1]
  y : Int := 0             -- previous output: PID y, LIM y[n−1], IIR2 y[n−1]
  y2 : Int := 0            -- IIR2 y[n−2]
  pinBy : Nat := 0         -- what bounds a LIM's output: 1 its lower bound, 2 the upper one, 3 its slew limit
  hist : List Int := []    -- earlier x0, newest first: DELAY 16, IIR2 2
  last : Option (List Int) := none   -- PID kp, ki, kd and a of the previous sample, frozen or not (R279), in 2^-32
  sum : Int := 0           -- AVG over the samples since the tile's previous sample
  cnt : Nat := 0
  mx : Int := 0
  mn : Int := 0
  deriving DecidableEq, Repr

/-- A receive slot. -/
structure RxSlot where
  val : Int := 0
  next : Option Int := none     -- a value that awaits the next sample (R275)
  missing : Nat := 0            -- consecutive samples without a new value
  stale : Bool := false
  fell : Bool := false          -- delivers FALLBACK (R282)
  deriving DecidableEq, Repr

structure FabSt where
  run : Bool := false           -- lanes run
  src : Tab Int := []           -- latest word of each source, by driver code
  sig : Tab Int := []           -- signals
  tile : Tab TileSt := []
  sink : Tab Int := []          -- latched sink values
  rx : Tab RxSlot := []
  txDue : List Nat := []        -- transmit slots latched and not yet sent
  syncBad : Bool := false       -- R283 in force
  fs : Nat := 0                 -- fast samples of the present 1 MS/s sample
  ms : Nat := 0                 -- 1 MS/s samples of the present 10 kHz sample
  deriving DecidableEq, Repr

end Sys2Proof.Machine
end

