-- ==== Sys2Proof/Machine/Parts/Fwc.lean ====
section
/-! DEFINITION. The parts of the state that chapters 14 and 15 give: general cores with their caches, buffers, images and
timers, the mailbox block, the two firmware memories and the firmware loader. -/

namespace Sys2Proof.Machine

/-- FWC_CORE_STATUS_n.STATE (Table 15.10). -/
inductive CoreState where
  | reset | loaded | run | ready | quiesce | restart | failed
  deriving DecidableEq, Repr

/-- Causes of a single-core restart (Table 15.10), `none_` before any. -/
inductive RestartCause where
  | none_ | host | self | watchdog | readyTimeout | cacheEcc | liveUpdate | rollback
  deriving DecidableEq, Repr

/-- A store in a core's store buffer: its core address and its bytes. -/
structure BufStore where
  addr : Nat
  bytes : List Byte
  deriving DecidableEq, Repr

/-- One cache set: the line number + 1 that each way holds, and the bits of the tree pseudo-LRU. -/
structure CacheSet where
  ways : Tab Nat := []
  plru : Nat := 0
  deriving DecidableEq, Repr

/-- A dirty line: the core whose data cache or write-back buffer holds it, whether it already waits in the write-back
buffer, and its 64 bytes. -/
structure DirtyLine where
  core : Nat
  wb : Bool
  data : List Byte
  deriving DecidableEq, Repr

/-- A miss register: the line it tracks, and whether another agent has written the line since the fill began (R719). -/
structure MissReg where
  icache : Bool
  line : Nat
  stale : Bool := false
  deriving DecidableEq, Repr

/-- A segment of a held firmware image (Table 15.3). -/
structure FwSeg where
  dest : Nat
  len : Nat
  memsz : Nat
  exec : Bool
  check : Nat
  deriving DecidableEq, Repr

/-- A firmware image that cores hold: its entry, role, release, segments, and its retained area. -/
structure FwImg where
  entry : Nat
  role : Nat
  release : Nat              -- MAJOR, MINOR, PATCH as FWC_REL_n
  segs : List FwSeg
  retain : Nat               -- firmware SRAM offset of the retained area
  rollback : Nat := 0        -- ROLLBACK of its header (Table 15.1)
  digest : Nat := 0          -- its image digest (Table 19.6)
  deriving DecidableEq, Repr

/-- One general core. -/
structure CoreSt where
  state : CoreState := .reset
  ready : Bool := false
  cause : RestartCause := .none_
  restarts : Nat := 0          -- since R759, saturating at 255
  streak : Nat := 0            -- restarts without an interval of 1 s in READY between them (R746)
  readyAt : Nat := 0           -- time at which the ready flag was raised
  wasRestarted : Bool := false -- in RUN after a restart, ready flag not raised yet (R747)
  causeAt : Nat := 0           -- time of the present restart's cause, or of the entry to QUIESCE
  tag : Nat := 0               -- mplane
  user : Bool := false         -- in user mode
  iways : Nat := 0             -- IWAYS, DWAYS and MISS in force since release (R725)
  dways : Nat := 0
  iblk : Bool := false
  dblk : Bool := false
  sb : List BufStore := []     -- store buffer, oldest first
  iset : Tab CacheSet := []
  dset : Tab CacheSet := []
  miss : List MissReg := []
  wb : List Nat := []          -- lines in the write-back buffer, oldest first
  resv : Option Nat := none    -- LR reservation: 64-byte granule
  wdFrom : Nat := 0            -- start of the watchdog period and its length, ns
  wdLen : Nat := 0
  readyFrom : Nat := 0         -- start of the ready timer and its length, ns
  readyLen : Nat := 0
  img : Option FwImg := none
  prev : Option FwImg := none  -- the previous image during a live update
  tcm : Tab Byte := []
  halted : Bool := false       -- halted through the core debug port (R900)
  haltAt : Nat := 0            -- time at which it was halted
  regs : Tab Nat := []         -- value + 1 of a register known since the core halted, by debug register number
  deriving DecidableEq, Repr

/-- One doorbell set and message queue; index 8 is SEC. -/
structure MbxSt where
  db : Word := 0
  en : Word := 0
  queue : List Word := []
  msgIe : Bool := false
  lost : Nat := 0
  deriving DecidableEq, Repr

/-- Phases of the firmware loader (FWC_LD_STATUS.PHASE). -/
inductive LdPhase where
  | idle | fetch | verify | check | write | handover | rollback
  deriving DecidableEq, Repr

/-- The firmware loader. -/
structure FwLdSt where
  phase : LdPhase := .idle
  cores : Nat := 0             -- CORES of the load
  live : Bool := false
  bytes : List Byte := []      -- the image under load
  digest : Nat := 0            -- first 8 bytes of its digest, 0 until computed
  img : Option FwImg := none
  handed : List Nat := []      -- targets already handed over, in order
  cur : Nat := 0               -- the target in handover or rollback
  back : List Nat := []        -- targets that a rollback has yet to restart, in order
  deriving DecidableEq, Repr

/-- The firmware complex. -/
structure FwcSt where
  core : Tab CoreSt := []
  dirty : Tab DirtyLine := []  -- by line number of the normal memory
  mem : Tab Byte := []         -- firmware SRAM at 0, ring memory at 4 MiB; unlisted bytes read 0
  flags : Tab Word := []       -- MBX_FLAG_k
  mbx : Tab MbxSt := []
  mtime : Nat := 0
  mtimecmp : Tab Nat := []
  mip : Tab Nat := []          -- interrupt lines of each core (8 SEC) at the last clock edge: bits 3 software, 7 timer, 11 external
  ld : FwLdSt := {}
  secUp : Bool := true         -- SEC runs; false while it reboots from ROM (R757)
  deriving DecidableEq, Repr

end Sys2Proof.Machine
end

