-- ==== Sys2Proof/Machine/Parts/Link.lean ====
section
/-! DEFINITION. The parts of the state that chapters 12 and 13 give: Tvedrek lanes, cells, frames, dead-letter queues,
reductions, and the node's role, commits and retained segments in its domain. -/

namespace Sys2Proof.Machine

/-- Lane training states (Table 12.3). -/
inductive LaneState where
  | disabled | detect | eq | lock | ident | up | wait
  deriving DecidableEq, Repr

/-- A cell that waits for an out lane: its arrival time and lane (10 for local origin), its number among the cells of this node, and whether
its CHECK is to be sent complemented (R582). -/
structure QCell where
  cell : Cell
  at_ : Nat
  lane : Nat
  no : Nat := 0
  bad : Bool := false
  deriving DecidableEq, Repr

/-- A frame in a transmit or delivery queue: its arrival lane (10 for local origin), the time at which CRED_TO of the head of a transmit
queue runs out (R594), and the credit units it still holds in the receive buffer of its arrival lane. -/
structure QFrame where
  frame : Frame
  lane : Nat
  headDue : Nat := 0
  units : Nat := 0
  deriving DecidableEq, Repr

/-- A frame in a replay buffer: its LSEQ and the time at which REPLAY_TO after its EOF runs out (R592). -/
structure RFrame where
  lseq : Nat
  q : QFrame
  ackDue : Nat
  deriving DecidableEq, Repr

/-- Per lane and class: what waits, what awaits acknowledgement, sequence numbers and credits. -/
structure LaneCls where
  out : List QFrame := []      -- the first 16 are the transmit queue; later ones wait in receive buffers
  replay : List RFrame := []
  txSeq : Nat := 0
  rxSeq : Nat := 0
  nakWait : Bool := false      -- frames are discarded until the named LSEQ arrives
  resend : List RFrame := []   -- resends in progress, oldest first
  tries : Nat := 0             -- consecutive resends without progress
  used : Nat := 0              -- credit units in use for frames sent to the partner
  owed : Nat := 0              -- units to be returned to the partner
  ack : Option (Bool × Nat) := none   -- ACK or NAK to be sent, with its LSEQ
  waited : Nat := 0            -- blocks for which an ACK or CREDIT of the class has waited
  deriving DecidableEq, Repr

/-- The frame whose blocks a lane is sending: class, LSEQ and blocks left after its SOF, and whether it is a resend. -/
structure InProg where
  cls : Nat
  lseq : Nat
  left : Nat
  q : QFrame
  again : Bool := false
  deriving DecidableEq, Repr

/-- The fields of a FAST block (Table 12.13) but WAIT, which belongs to timing: KIND 0 SYNC, 1 DUTY, 2 IREP. -/
structure FastBlk where
  kind : Nat
  rail : Nat
  boost : Bool
  regok : Bool
  fs : Nat
  ms : Nat
  duty : Nat      -- 2⁻¹⁸
  n : Nat         -- active phases for the receiving device
  i : Int         -- the member's channel current, 1/16 A
  deriving DecidableEq, Repr

/-- The block that a transmitter sent last (Table 12.2). -/
inductive TxBlock where
  | none | idle | fast (f : FastBlk) | data (b : List Byte)
  | boost (edge rail : Nat)
  | cell (c : Cell) (bad : Bool)
  | credit (c0 c1 c2 c3 : Nat)
  | ack (cls : Nat) (nak : Bool) (lseq : Nat)
  | sof (cls len lseq ttl : Nat)
  | eof (crc : Nat)
  | xslot (j : Nat) (v0 v1 : Int)
  deriving DecidableEq, Repr

structure LaneSt where
  state : LaneState := .disabled
  since : Nat := 0             -- time at which the present attempt (or WAIT) began
  longWait : Bool := false     -- WAIT of 1 s under R622
  limits : List Nat := []      -- times of the latest REPLAY_LIMIT events
  cls : Tab LaneCls := []      -- by class 1–3
  cells : List QCell := []     -- oldest first
  c0used : Nat := 0            -- C0 credits in use
  c0owed : Nat := 0
  prog : Option InProg := none
  c2run : Nat := 0             -- C2 frames sent since the last C3 frame while both waited
  fastDue : Bool := false      -- a FAST block is due
  sent : TxBlock := .none      -- the block sent last
  boostDue : List Nat := []    -- BOOST blocks due: 1 start or 2 end, plus 4 × rail
  deriving DecidableEq, Repr

/-- A dead-letter entry (Table 12.10). -/
structure DlqEntry where
  reason : Nat
  cls : Nat
  lane : Nat
  typ : Nat
  src : Nat
  dest : Nat
  at_ : Nat
  deriving DecidableEq, Repr

structure DlqSt where
  items : List DlqEntry := []
  lost : Nat := 0
  deriving DecidableEq, Repr

/-- An open reduction (R603). -/
structure RedSt where
  rid : Nat
  op : Nat
  elems : List Int
  contrib : Nat
  partial_ : Bool
  from_ : List Nat            -- lanes that have contributed
  loc : Bool                   -- the local data plane has contributed
  openAt : Nat
  deriving DecidableEq, Repr

structure TvlSt where
  lane : Tab LaneSt := []
  origin : List (Cell × Nat) := []  -- C0 origin queue: cell and earliest send time
  lastOrigin : Option Nat := none   -- time of the last origination (CELL_GAP)
  dlq : Tab DlqSt := []
  red : List RedSt := []
  redDone : List Nat := []     -- RIDs already sent, newest first
  seen : List (Cell × Nat) := []    -- cells received within 200 ns, with their times (R583)
  cellNo : Nat := 0            -- cells received so far
  oseq : Nat := 0
  xid : Nat := 0
  rx : List Frame := []        -- frames delivered to the hardware engines and not yet taken
  deliver : Tab (List QFrame) := []   -- delivery queues for firmware, by class (R816)
  result : List RedSt := []    -- results delivered to the master's data plane
  wideDown : List Nat := []    -- lanes treated as down for widened-rail duty and boost (R614)
  deriving DecidableEq, Repr

/-- Roles (Table 13.4). -/
inductive DomRole where
  | none_ | claim | master | standby | member | joining
  deriving DecidableEq, Repr

/-- A pending domain commit (R655–R663); `cid` is none for a GTHROT. -/
structure DomCommit where
  group : Nat
  n : Nat
  reason : Nat
  tick : Nat
  cid : Option Nat
  basis : Nat
  deriving DecidableEq, Repr

/-- A COMMIT_ANN as it was received: its epoch and content, entries as group, N and REASON (R639). -/
structure DomAnn where
  epoch : Nat
  cid : Nat
  tick : Nat
  basis : Nat
  entries : List (Nat × Nat × Nat)
  deriving DecidableEq, Repr

/-- A stored segment set of one bank: node entries as 64-bit numbers by node, and what the header takes from them. -/
structure SegSet where
  epoch : Nat := 0             -- BEPOCH
  got : List Nat := []         -- SEG numbers received or sent
  nseg : Nat := 0
  mepoch : Nat := 0            -- master epoch and master of the segments
  master : Nat := 0
  entry : Tab Nat := []
  deriving DecidableEq, Repr

structure DomSt where
  role : DomRole := .none_
  mepoch : Nat := 0
  master : Nat := 0
  upLane : Option Nat := none  -- effective up lane where it is not the trained one
  rerooted : Bool := false
  masterLost : Bool := false
  missed : Nat := 0
  hbSeen : Bool := false       -- a HEARTBEAT of the present epoch has arrived since the image was applied
  hbAt : Nat := 0              -- the instant for which the last HEARTBEAT of the present epoch counts
  hbDone : Nat := 0            -- the last instant judged under R631
  hbSent : Nat := 0            -- the last instant at which this master sent a HEARTBEAT
  hbMembers : Nat := 0         -- MEMBERS as the last HEARTBEAT gave it
  cycle : Nat := 0             -- index of the last group cycle begun
  cycleAt : Nat := 0           -- and its start
  miss : Tab Nat := []         -- consecutive epochs for which a member has been missing (R644)
  lastAlloc : Tab Nat := []    -- last ALLOC + 1 of each member that reported (R644)
  claimAt : Nat := 0
  standby : Nat := 0xFFFF      -- STANDBY that a master announces, or that a node last heard
  noStandby : Bool := false
  mgen : Nat := 0
  members : List Nat := []     -- nodes that the master has admitted, or as MEMBER frames say
  admitAt : Option Nat := none -- admission epoch of this node
  commits : List DomCommit := []
  anns : List DomAnn := []     -- announcements received whose tick has not passed
  ceil : Tab Nat := []         -- ceiling in force + 1 by group: N, REASON × 2048
  lastCid : Tab Nat := []
  cid : Nat := 0
  gthrotAt : Tab Nat := []     -- time + 1 of the last GTHROT sent by group
  gtEffect : Tab (List (Nat × Nat)) := []  -- ticks and N of GTHROTs that took effect, by group
  holds : Tab Nat := []        -- end of the HOLD in force by group
  droopHold : Tab Nat := []    -- time + 1 of the last DROOP cell by rail
  segs0 : SegSet := {}
  segs1 : SegSet := {}
  differs : Bool := false      -- a live bit still differed after its correction (R653)
  goEpochs : List Nat := []    -- latest budget epochs in which ALLOC_GO was written
  mEpochs : Nat := 0           -- budget epochs since this node became master
  fwCeil : Tab Nat := []       -- firmware of the master: N + 1 last announced for a group that it is no member of
  tripped : List Nat := []     -- originators of TRIP cells since the last demand reduction
  deriving DecidableEq, Repr

end Sys2Proof.Machine
end

