-- ==== Sys2Proof/Machine/Parts/Loops.lean ====
section
/-! DEFINITION. The parts of the state that chapters 9 and 10 give: estimator regions, offset calibration, and the capping
loops and accounting of partitions. -/

namespace Sys2Proof.Machine

/-- Sums of one 100 ms block (or of a window of blocks). -/
structure BlkSum where
  empty : Bool := false
  n : Nat := 0
  xx : Int := 0
  xp : Int := 0
  xc : Int := 0
  xu : Int := 0
  pp : Int := 0
  pc : Int := 0
  cc : Int := 0
  uc : Int := 0
  uu : Int := 0
  deriving DecidableEq, Repr

/-- Running sums over fast samples of one rail: the two sense pairs (V, point 20), the raw current of the rail's phases
(A, point 12), the dither chip, and the number of samples. -/
structure SenseSum where
  pri : Int := 0
  alt : Int := 0
  cur : Int := 0
  chip : Int := 0
  n : Nat := 0
  deriving DecidableEq, Repr

/-- One refresh: the estimate in nΩ where there is one, its relative standard error, and whether it is confident. -/
structure Refresh where
  r : Option Nat
  rel : Nat
  conf : Bool
  deriving DecidableEq, Repr

/-- One sense region. -/
structure RegionSt where
  cur : BlkSum := {}
  blocks : List BlkSum := []       -- complete blocks, newest first, at most 63
  filt : List (List Int) := []     -- filter states of the chip, path voltage, current and near voltage
  from_ : SenseSum := {}           -- the rail's sums at the start of the present interval
  lastConf : Option Nat := none    -- last confident estimate
  hist : List Refresh := []        -- refreshes, newest first, at most 64
  farNew : List Nat := []          -- sites (64 × die + site) that reported in the present interval
  ncr : Bool := false
  confAt : Nat := 0                -- time of the last confident refresh, or of the restart
  ncrAt : Nat := 0
  ncrSec : Nat := 0                -- seconds of NCR already counted
  frozen : Option Nat := none      -- frozen reference
  thaw : Nat := 0                  -- refreshes left of R477, counting down from W
  tolAged : Nat := 0               -- aged STEP_TOL, 0.25 %, in force while frozen
  driftFrom : Option Nat := none   -- t₀ of R470
  drift : Bool := false
  lowFrom : Option Nat := none     -- start of the run at or below the drift threshold
  stepCnt : Nat := 0
  stepSaid : Bool := false         -- the present run of such refreshes has raised its event
  stepPend : Bool := false
  unacked : Bool := false          -- a drift or step event that no ACK has answered (R472)
  derated : Bool := false
  capOn : Bool := false            -- a capture takes this region
  capSum : Nat := 0
  capRel : Nat := 0
  capN : Nat := 0
  capDone : Bool := false
  deriving DecidableEq, Repr

/-- Offset calibration of one rail (R460–R464). -/
structure CalSt where
  visit : Option Nat := none       -- phase to visit, none before the first
  reading : Bool := false          -- a reading of that phase is in progress
  removal : Bool := false          -- for which the phase was removed (R310)
  deriving DecidableEq, Repr

/-- A baseline that firmware has yet to store (R469): region, value in nΩ, relative error, and the time base at its capture. -/
structure BaseDue where
  k : Nat
  base : Nat
  rel : Nat
  at_ : Nat
  deriving DecidableEq, Repr

/-- What firmware samples of a phase at each refresh (R474): PH_BAL, and the phase's share of the rail current. -/
structure BalSample where
  bal : Int := 0                   -- 1/32,768 of duty
  share : Int := 0                 -- its current less the mean over the rail's assigned phases, 1/16 A
  deriving DecidableEq, Repr

/-- A crack event that firmware has yet to look into (R474). -/
structure CrackCheck where
  k : Nat
  step : Bool                      -- a step event, or a drift event
  left : Nat                       -- refreshes until the means after the event are whole
  before : List (Tab BalSample)    -- the samples before it
  deriving DecidableEq, Repr

structure EstSt where
  run : Bool := false
  sum : Tab SenseSum := []         -- by rail
  snap : Tab (List (Nat × SenseSum)) := []   -- the sums at earlier fast samples, by rail, newest first
  chip : Tab Int := []             -- chip in force by rail
  region : Tab RegionSt := []
  cal : Tab CalSt := []
  oor : Tab Nat := []              -- consecutive out-of-range readings by phase
  readAt : Tab Nat := []           -- time of the last complete reading by phase
  capAt : Nat := 0                 -- start of the capture in progress
  capTag : Nat := 0                -- TAG of the last capture
  blkFrom : Nat := 0               -- start of the present 100 ms block
  bal : List (Tab BalSample) := [] -- firmware's samples of the last second by phase, newest first, at most 10
  checks : List CrackCheck := []   -- events that firmware has yet to look into
  baseDue : List BaseDue := []     -- baselines that firmware has yet to store
  baseShare : Tab (List Int) := [] -- the shares that firmware keeps beside the baseline of a region
  reload : Bool := false           -- a start has passed its checks: firmware has yet to reload the baselines
  deriving DecidableEq, Repr

/-- Capping state of one partition. -/
structure CapPart where
  nPow : Nat := 0
  nTh : Nat := 0
  powTerm : Nat := 3               -- reason code of the term that set p_lim
  guard : Bool := false
  pSum : Int := 0                  -- sum of P over the evaluations of the present ms, 1/256 mW
  pCnt : Nat := 0
  tMax : Option Int := none        -- highest TEMP of the present 100 ms
  rem : Tab Nat := []              -- duration remainders by reason, in `durUnit`
  thrRem : Nat := 0                -- 1/1,024 cycle
  strRem : Nat := 0                -- fraction of a cycle of the stretch count, in `strUnit`
  frzFrom : Option Nat := none     -- start of the wait that accrues TRANSIENT_HOLD
  coreFrom : Option Nat := none    -- start of the wait that accrues CORE_RESTART_HOLD
  coolFrom : Option Nat := none    -- since when every site has reported at or below the guard's release level (R498)
  deriving DecidableEq, Repr

structure CapSt where
  part : Tab CapPart := []
  pinFrom : Tab Nat := []          -- start + 1 of the pinned time by instance
  pinAt : Tab Nat := []            -- time + 1 up to which the pinned time of an instance has been added
  pinRem : Tab Nat := []           -- pinned time of an instance below 1 ms, ns
  said : List Nat := []            -- instances whose contention entry stands (R503)
  otherSum : Int := 0              -- power of rails that supply no present partition, 1/256 mW
  otherCnt : Nat := 0
  pOther : Int := 0                -- its mean over the last ms, 1/8 W
  powPin : Tab Nat := []           -- partitions whose power loop was pinned at its last update: 1 at FMIN, 3 by SLEW
  thPin : Tab Nat := []            -- likewise the thermal loop
  deriving DecidableEq, Repr

end Sys2Proof.Machine
end

