-- ==== Sys2Proof/Machine/Parts/Postbox.lean ====
section
/-! DEFINITION. The parts of the state that chapters 8 and 11 give: Postline messages on the wire, dies, sites and port
cells, droop boost and freeze, partition clocks, admission queues, franks, ramp limits and ballast. -/

namespace Sys2Proof.Machine

/-- State of a die's Postline (PB_DIE_STATUS_d.LINK). -/
inductive LinkState where
  | down | training | up | fallback | absent
  deriving DecidableEq, Repr

/-- One Postline message on the wire (Tables 8.5, 8.6): lane 0 and 1 up, 2 down. -/
structure PlMsg where
  die : Nat
  lane : Nat
  typ : Nat
  addr : Nat
  data : Nat
  seq : Nat := 0
  deriving DecidableEq, Repr

/-- A CFG (or frank) that awaits its CFG_ACK (R423). -/
structure PendCfg where
  index : Nat
  addr : Nat
  value : Nat
  deriving DecidableEq, Repr

/-- The BX1200's side of one die's Postline. -/
structure DieSt where
  link : LinkState := .absent
  coreOn : Bool := false
  armed : Bool := false
  tempStale : Bool := false
  droop : Bool := false        -- the droop wire as seen in CLK_CTL
  stuck : Bool := false        -- DROOP_STUCK
  trip : Bool := false
  hotAt : Nat := 0             -- time + 1 of the last temperature report above CRIT − 5 °C (Table 7.6)
  rxSeq : Nat := 0             -- SEQ expected next on up lane 0
  nakWait : Bool := false      -- lane-0 messages are discarded until the resent SEQ arrives
  txSeq : Nat := 0             -- SEQ of the next down message
  cfgs : List PendCfg := []    -- CFGs that await acknowledgement
  crcTimes : List Nat := []    -- times of the latest CRC errors (R440)
  resume : Bool := false       -- MODE RESUME is owed once CFG_SYNC is 1 (R444)
  safe : Bool := false         -- the limit of R443 is in force, from the fallback to MODE RESUME
  liveFault : Bool := false    -- in fallback for an active live fault in its POSTBOX region (Table 4.9)
  deriving DecidableEq, Repr

/-- One site cell and what the BX1200 holds of it. -/
structure SiteSt where
  coreOn : Bool := false
  agree : Nat := 0             -- consecutive calibration sweeps that agreed (R403)
  calOk : Bool := false
  calFail : Bool := false
  drp : Bool := false          -- DRP asserted
  depth : Nat := 0             -- the depth D to which the stretch in progress was set
  stretchHold : Bool := false  -- DRP is released: the hold and the lowering of R407 run
  strFrom : Nat := 0           -- time-base value from which the extra time is still to be counted (R408)
  relAt : Nat := 0             -- time-base value at which DRP was released (R407)
  strF : Nat := 0              -- the partition clock during the stretch, MHz × N
  strK : Nat := 0              -- HOLD_K as it stood at the release
  strEvents : Nat := 0         -- stretch events since the last STRETCH report (R408)
  strExtra : Nat := 0          -- extra time since the last STRETCH report, 1/16 ns
  minV : Option Nat := none    -- lowest supply since the last VMIN, 1/32 mV
  minAt : Nat := 0             -- die time of that minimum, in 1.25 ns units
  trip : Bool := false         -- TRP_N asserted
  calOkBx : Bool := false      -- CAL_OK as reported to the BX1200
  eBase : Option Nat := none   -- last BALE report (R559)
  baleGap : Bool := false
  coreOffBx : Bool := false    -- CORE_OFF as last reported to the BX1200 (R481)
  vrepTime : Nat := 0
  deriving DecidableEq, Repr

/-- One port cell. -/
structure PortSt where
  fallback : Bool := false
  trained : Bool := false
  droopAt : Nat := 0           -- time-base value of the last assertion of PL_DROOP (R401)
  dieTime : Nat := 0           -- die time as loaded from the last TSYNC, ns
  dieAt : Nat := 0             -- time-base value at which it was loaded
  armed : Bool := false
  site : Tab Nat := []         -- CFG SITE value by site
  stretch : Nat := 0x268       -- CFG STRETCH
  report : Nat := 0x3332       -- CFG REPORT
  trip : Option Nat := none    -- CFG TRIP; 105 °C until received (R435)
  divider : Tab Nat := []      -- CFG DIVIDER by partition
  siteDly : Nat := 0
  divN : Tab Nat := []         -- divider N by partition, 128 until a FREQ (R448)
  level : Tab Nat := []        -- ballast level by partition
  hist : List PlMsg := []      -- last 16 messages of up lane 0
  txSeq : Nat := 0
  out : Tab (List Nat) := []   -- TAGs of the intents sent and not franked, by queue, oldest first (R524)
  fseq : Tab Nat := []         -- FSEQ expected next by queue (R530)
  frank : Option (Nat × Nat × Nat) := none  -- last frank presented: queue, TAG, KIND
  franks : Nat := 0            -- franks presented
  deriving DecidableEq, Repr

/-- Droop response of one rail channel (R409–R418, R431). Times in ns of the time base. -/
structure BoostSt where
  boost : Option Nat := none   -- start of the boost in progress
  gapUntil : Option Nat := none
  frozen : Bool := false
  settleFrom : Option Nat := none  -- the instant from which SETTLE runs
  lastLen : Nat := 0           -- length of the event's boost
  evMin : Nat := 0             -- channel minimum over the event, 1/16 mV
  evMinAt : Nat := 0
  deferred : Nat := 0          -- frequency steps deferred by the event
  dDie : Nat := 0              -- die whose flag began the event
  memberFrz : Bool := false    -- frozen by DROOP cells (R668)
  deriving DecidableEq, Repr

/-- Clock command state of one partition in PB (R427–R432). -/
structure PartPbSt where
  nCur : Nat := 0
  nTgt : Nat := 0
  sent : Option Nat := none    -- N of the FREQ that awaits its FACK
  sentAt : Nat := 0
  tries : Nat := 0
  lastUp : Nat := 0            -- time of the last upward FREQ
  upWait : Bool := false       -- an upward step waits under a freeze
  tickAt : Option Nat := none  -- tick whose first FREQ is owed (R430)
  tickN : Nat := 0
  deriving DecidableEq, Repr

/-- Which hint (Table 11.2). -/
structure Hint where
  part : Nat
  dueAt : Nat                  -- time-base value at which the BAL must reach the port cell
  deriving DecidableEq, Repr

structure PbSt where
  wire : List PlMsg := []      -- messages sent and not yet received, oldest first
  die : Tab DieSt := []
  site : Tab SiteSt := []      -- by 64 × die + site
  port : Tab PortSt := []
  rail : Tab BoostSt := []
  part : Tab PartPbSt := []
  deriving DecidableEq, Repr

/-- A queued launch intent (Table 11.2) with its arrival time. -/
structure Intent where
  cls : Nat
  part : Nat
  tag : Nat
  dur : Nat
  at_ : Nat
  forced : Bool := false       -- its deadline has passed
  deriving DecidableEq, Repr

/-- A granted frank from its grant to the end of its effects. -/
structure FrankSt where
  queue : Nat
  part : Nat
  cls : Nat
  tag : Nat
  dur : Nat
  kind : Nat                   -- 0 FRANK, 1 FORCED
  grantAt : Nat
  launch : Nat                 -- instant of arrival aimed at
  waitFack : Bool := false     -- a forced frank that waits for its FACK
  sent : Bool := false
  launched : Bool := false
  net : Nat := 0               -- ΔP_net in R_pend, 1/8 W
  res : Nat := 0               -- ballast set against it, 1/8 W
  deriving DecidableEq, Repr

/-- One admission queue. -/
structure QueueSt where
  items : List Intent := []
  fseq : Nat := 0
  lastGrant : Option Nat := none
  intervals : List Nat := []   -- intervals between its last heavy grants, newest first, at most 7 (ns)
  grants : Nat := 0
  deriving DecidableEq, Repr

/-- Ballast state of one partition. -/
structure BalSt where
  level : Nat := 0
  lastLaunch : Option Nat := none   -- launch of its last heavy frank
  busyFor : Nat := 0                -- max(DUR, 10 µs) of that frank, ns
  hintQ : Bool := false             -- its ballast power counts in Q by a hint
  deriving DecidableEq, Repr

/-- A forced frank's ceiling (R543, R544): in force until `until_`, open until the launch is known. -/
structure FrankCeil where
  part : Nat
  queue : Nat
  until_ : Option Nat
  deriving DecidableEq, Repr

structure FqSt where
  q : Tab QueueSt := []
  armed : List Nat := []       -- queues whose head is armed, in arming order
  fixed : Bool := true
  lastHb : Option Nat := none
  hbSeen : Bool := false
  schedFault : Bool := false   -- Table 4.9 applies to a QUEUES frame
  franks : List FrankSt := []
  ceils : List FrankCeil := []
  spacing : Nat := 0           -- S, 100 ns
  quiet : Nat := 0             -- consecutive quiet heavy launches
  lastHeavy : Option Nat := none
  stepGrants : List (Nat × Nat × Nat) := []  -- rail, time, DI of recent heavy grants
  power : Nat := 0             -- P, 1/8 W
  ceilC : Int := 0             -- C, 1/8,000 W (1/8 W per ms resolved to 1 µs)
  floorD : Int := 0            -- D, 1/8,000 W
  pinS : Bool := false         -- envelope instance 88 pinned (R542)
  q8 : Nat := 0                -- commanded ballast power Q, 1/8 W
  bal : Tab BalSt := []
  hints : List Hint := []
  released : Bool := false     -- R368 in force
  balPin : List Nat := []      -- partitions whose ballast envelope is pinned (R558)
  balOver : List Nat := []     -- of these, those whose level the effective ceiling bounds
  vpre : Tab Int := []         -- V_pre by rail channel, 5 nV
  pAcc : Int := 0              -- rail powers summed over the fast samples since the last ramp update, 1/256 mW
  pNum : Nat := 0
  deriving DecidableEq, Repr

end Sys2Proof.Machine
end

