-- ==== Sys2Proof/Machine/Parts/Side.lean ====
section
/-! DEFINITION. The parts of the state that chapters 16 and 19 give: host rings, interrupts and bulk messages; the SMBus target with
MCTP and SPDM; the security core's fuses and debug access; the JTAG port. -/

namespace Sys2Proof.Machine

/-! ## Host interface (ch. 16) -/

/-- HIR_RING_STATUS_r.STATE. -/
inductive RingState where
  | disabled | running | stopping | error
  deriving DecidableEq, Repr

/-- A command that the engine has fetched (Table 16.4) and that has not completed. -/
structure HirCmd where
  cid : Nat
  opcode : Nat
  flags : Nat
  addr : Nat
  len : Nat
  param : List Byte
  began : Bool := false      -- firmware has begun it
  waits : Nat := 0           -- what a begun command waits for or has reached, by opcode
  order : Nat := 0           -- place in the order in which firmware began the commands
  deriving DecidableEq, Repr

/-- A completion ready to be posted (Table 16.5). -/
structure HirDone where
  cid : Nat
  status : Nat
  detail : Nat
  result : List Byte
  quiet : Bool               -- NO_IRQ
  deriving DecidableEq, Repr

/-- One ring. -/
structure RingSt where
  state : RingState := .disabled
  err : Nat := 0
  sqHead : Nat := 0
  sqTail : Nat := 0
  cqHead : Nat := 0
  cqTail : Nat := 0
  phase : Bool := true
  cmds : List HirCmd := []   -- fetched and not completed, oldest first
  done : List HirDone := []  -- completed and not posted, oldest first
  missed : Nat := 0          -- missed samples since the last telemetry entry
  agg : Nat := 0             -- entries posted since the last signal (R793)
  aggAt : Nat := 0           -- time of the first of them
  deriving DecidableEq, Repr

/-- A message in reassembly (Table 16.9). -/
structure BulkMsg where
  src : Nat
  channel : Nat
  msg : Nat
  total : Nat
  parts : List (Nat × List Byte)   -- offset and data of the fragments held
  first : Nat                      -- time of the first fragment
  deriving DecidableEq, Repr

/-- The host interface: rings, the functions that exist, vectors and bulk messages. -/
structure HirSt where
  ring : Tab RingSt := []
  vfs : Nat := 0                   -- NumVFs while VF Enable is set, otherwise 0 (R764)
  unmask : Tab Nat := []           -- unmasked vectors of each function, as a mask (R801: none)
  pba : Tab Nat := []              -- pending bits of each function's vectors
  sent : List (Nat × Nat) := []    -- messages sent: function and vector, oldest first
  said : Nat := 0                  -- sources found pending at the last look (R791)
  bulk : List BulkMsg := []
  bulkNo : Tab Nat := []           -- next MSG per channel
  begun : Nat := 0                 -- commands begun so far
  hostCap : Nat := 0               -- the board cap that the host requested last (R877)
  hostOut : List (Nat × List Byte) := []   -- posted writes of telemetry entries to host memory: address and bytes, oldest first
  deriving DecidableEq, Repr

/-! ## Sideband (ch. 19) -/

/-- The latched status registers of one PMBus page. -/
structure PageSt where
  vout : Nat := 0
  iout : Nat := 0
  temp : Nat := 0
  cml : Nat := 0
  mfr : Nat := 0
  deriving DecidableEq, Repr

/-- The mean of a reading over each millisecond of the time base (R871). -/
structure MsMean where
  ms : Nat := 0
  sum : Int := 0
  n : Nat := 0
  last : Option Int := none       -- mean of the millisecond before `ms`
  deriving DecidableEq, Repr

/-- An SPDM request in SEC: the binding it came on and the response to be sent. -/
structure SpdmReq where
  pcie : Bool
  response : SpdmResp
  signed : Bool
  deriving DecidableEq, Repr

/-- The SMBus target, MCTP endpoints and SPDM connections. -/
structure SbmSt where
  page : Nat := 0
  wp : Nat := 0                    -- WRITE_PROTECT as written
  pages : Tab PageSt := []
  input : Nat := 0                 -- STATUS_INPUT, the same on every page
  held : Tab PageSt := []          -- conditions that stood at the last CLEAR_FAULTS of a page and stand still (R872)
  heldInput : Nat := 0             -- the same of STATUS_INPUT
  heldMs : Nat := 0                -- the millisecond of that CLEAR_FAULTS, plus 1
  masks : Tab Nat := []            -- SMBALERT_MASK by 256 × page + status register code
  acked : Bool := false            -- the ARA has been answered since a bit last latched
  mean : Tab MsMean := []          -- by reading number
  spdm : Option SpdmReq := none
  conn : Tab Nat := []             -- SPDM stage per binding (0 SMBus, 1 PCIe): 1 version, 2 capabilities, 3 algorithms
  deriving DecidableEq, Repr

/-! ## Security (ch. 19) -/

/-- An owner entry of the fuses. -/
structure OwnerFuse where
  hash : Nat := 0
  check : Nat := 0
  valid : Bool := false
  revoked : Bool := false
  deriving DecidableEq, Repr

/-- A BOUND record of the fuses. -/
structure BoundFuse where
  value : Nat := 0
  check : Nat := 0
  valid : Bool := false
  deriving DecidableEq, Repr

/-- The fuses that change after manufacture (Table 19.7). No reset changes them. -/
structure FuseSt where
  rootDisable : Nat := 0           -- 3 bits
  owner : Tab OwnerFuse := []      -- 0–3
  imgRb : Nat := 0                 -- 128 bits
  fwRb : Nat := 0
  dbgRootOff : Bool := false
  dbgOwnerOff : Bool := false
  bound : Tab BoundFuse := []      -- 3 × b + record
  deriving DecidableEq, Repr

/-- A fuse operation armed or in progress. -/
structure FuseOp where
  op : Nat
  arg : Nat
  data : List Nat                  -- SEC_FUSE_DATA_0–11
  at_ : Nat
  deriving DecidableEq, Repr

/-- A token under verification: its bytes, the nonce it was submitted with, and whether its fetch failed. -/
structure TokenSt where
  token : List Byte
  nonce : Option (List Byte)
  fetchErr : Bool
  deriving DecidableEq, Repr

/-- The security core. -/
structure SecSt where
  fuse : FuseSt := {}
  arm : Option FuseOp := none
  run : Option FuseOp := none
  nonce : Option (List Byte) := none   -- the nonce not yet consumed
  nextNonce : Option (List Byte) := none  -- generated while a token is being verified (R906)
  token : Option TokenSt := none
  cores : Nat := 0                     -- debug access open to these cores
  ever : Bool := false                 -- DBG_EVER
  idErr : Bool := false
  wdogEver : Bool := false             -- SEC_WDOG since power-on (Table 19.6, block 12)
  deriving DecidableEq, Repr

/-- What the boundary instructions do to the pins. -/
inductive PinMode where
  | device | extest | clamp | highz
  deriving DecidableEq, Repr

/-- The JTAG port. -/
structure JtagSt where
  ir : Nat := 0x02                 -- IDCODE is selected
  pins : PinMode := .device
  cells : BitVec 212 := 0          -- boundary register as last loaded
  guarded : Bool := false          -- guarded pins stayed under device control (R903)
  result : Nat := 0                -- result of the last CORE_DBG operation, shifted out next
  deriving DecidableEq, Repr

end Sys2Proof.Machine
end

