-- ==== Sys2Proof/Machine/Parts/Store.lean ====
section
/-! DEFINITION. The parts of the state that chapters 4, 17 and 18 give: configuration banks and the image loader, and the
non-volatile store with its engine. -/

namespace Sys2Proof.Machine

/-- One slot of a configuration bank: a structure frame's generation, check, flags and payload (R195, Table 4.4). -/
structure BankSlot where
  gen : Nat := 0
  flags : Nat := 0
  check : Nat := 0
  payload : List Byte := []     -- 256 bytes; a slot that no image has written holds zeros, listed as []
  deriving DecidableEq, Repr

/-- One entry of the frame digest table: generation and CHECK of the applied frame and of the frame it replaced, and the
frame's liveness mask (256 bytes; `[]` with `allLive` for ALL_LIVE, `[]` without it for ALL_DEAD). -/
structure DigestEntry where
  gen : Nat := 0
  check : Nat := 0
  prevGen : Nat := 0
  prevCheck : Nat := 0
  allLive : Bool := false
  mask : List Byte := []
  dbe : Bool := false           -- the entry shows a double-bit error (R241)
  deriving DecidableEq, Repr

/-- A parsed frame of the image under load. -/
structure ImgFrame where
  id : Nat
  kind : Nat
  flags : Nat
  gen : Nat
  check : Nat
  payload : List Byte
  deriving DecidableEq, Repr

/-- Phases of the loader (SEC_IMG_STATUS.PHASE). -/
inductive LoadPhase where
  | idle | fetch | verify | parse | check | pending | refill | held
  deriving DecidableEq, Repr

/-- The image loader and the configuration banks (ch. 4). -/
structure ImgSt where
  bank0 : Tab BankSlot := []
  bank1 : Tab BankSlot := []
  active1 : Bool := false
  digest : Tab DigestEntry := []
  applied : Bool := false         -- an image is applied (TOP_STATUS.IMAGE)
  rollback : Nat := 0             -- ROLLBACK of the applied image (Table 4.2)
  retained : Tab Word := []       -- retained hold list, by offset (R222)
  retainedKeys : List Nat := []   -- offsets the list names (a value may equal the reset value)
  phase : LoadPhase := .idle
  heldFor : Option Initiator := none   -- who asked for the load held under R162
  partial_ : Bool := false
  begun : Bool := false           -- KIND was known as the load began: a full one has cancelled the pending commits (R81, R218)
  restarted : Option Nat := none  -- a core whose restart began during the fetch (R236)
  bytes : List Byte := []         -- the fetched image under check
  pendTick : Nat := 0             -- APPLY_TICK of a pending partial image
  pendGroups : Nat := 0           -- commit groups of the pending partial image, as a mask
  scrubOn : Bool := false
  slot : Nat := 0                 -- next scrub slot
  refillSlots : List Nat := []    -- slots REFILL has yet to copy
  domStale : Bool := false        -- the next budget epoch is counted stale (Table 4.9)
  cleanDie : List Nat := []       -- POSTBOX frames awaiting one clean scrub pass
  cleanQueue : List Nat := []     -- QUEUES frames awaiting one clean scrub pass
  windows : List (Nat × Nat) := []
  deriving DecidableEq, Repr

/-- A store record (Table 18.9). `ok` stands for its CRC-32C being valid. -/
structure NvRec where
  kind : Nat
  key : Nat
  gen : Nat
  payload : List Byte
  ok : Bool := true
  deriving DecidableEq, Repr

/-- A journal record (Table 18.6). -/
structure JRec where
  typ : Nat
  sector : Nat
  jseq : Nat
  gen : Nat
  arg : Nat
  first : Nat := 0       -- PAYLOAD: first sequence of a tail
  entries : Nat := 0     -- PAYLOAD: number of entries of a tail
  crc : Nat := 0         -- PAYLOAD of a TAIL_DONE: CRC-32C of the 64 KiB
  spare : Tab Nat := []  -- PAYLOAD of a CHECKPOINT: the spare map
  deriving DecidableEq, Repr

/-- One flash sector: its stamp, its erase count and what its units hold, in order. -/
structure Sector where
  stampOk : Bool := true     -- sectors leave manufacture erased and stamped (R845)
  gen : Nat := 0
  erases : Nat := 0
  used : Nat := 0            -- units programmed after the stamp
  blankOk : Bool := true     -- the margin read of the blank area passes
  recs : List NvRec := []    -- data areas, oldest first
  jour : List JRec := []     -- journal sectors, oldest first
  wearSaid : Bool := false   -- WEAR recorded for this sector (R856)
  failed : Nat := 0          -- consecutive erases whose margin read failed (R855)
  deriving DecidableEq, Repr

/-- The NVS command in progress. -/
structure NvCmd where
  op : Nat
  kind : Nat
  key : Nat
  ring : Bool
  off : Nat
  len : Nat
  tries : Nat := 0
  sector : Nat := 0
  deriving DecidableEq, Repr

/-- A tail commit in progress or an open tail: its area's first sector, first sequence and entries. -/
structure TailSt where
  area : Nat
  first : Nat
  entries : List Entry
  deriving DecidableEq, Repr

/-- An erase in progress under R847. -/
structure EraseSt where
  sector : Nat
  gen : Nat
  count : Nat
  deriving DecidableEq, Repr

/-- The non-volatile store (ch. 18). -/
structure NvsSt where
  sect : Tab Sector := [(0, { used := 1, jour := [{ typ := 7, sector := 0, jseq := 0, gen := 0, arg := 0 }] })]   -- the journal holds its first CHECKPOINT
  gen : Nat := 0                   -- store generation
  jseq : Nat := 0
  jcur : Nat := 0                  -- current journal sector, 0 or 1
  spare : Tab Nat := []            -- spare index + 1 by retired sector
  erase : Option EraseSt := none
  eraseQ : List Nat := []          -- sectors to be erased next
  cmd : Option NvCmd := none
  tail : Option TailSt := none     -- tail commit in progress
  tails : Tab (List Entry) := []   -- entries held by the tail area whose first sector is the key
  scanning : Bool := false
  write : Tab Nat := []            -- write sector + 1 of each area, by the area's first sector
  life : Tab Nat := []             -- lifetime counters (Table 18.10)
  countAt : Nat := 0               -- time-base value of the last COUNTERS record
  deriving DecidableEq, Repr

/-- Retries of internal handshakes and what waits for a host request (ch. 17). -/
structure IntegSt where
  stagedUe : List Nat := []        -- offsets of staged words with a double-bit error
  activeUe : List Nat := []        -- offsets of active words with a double-bit error
  sbe : Nat := 0                   -- single-bit corrections of staged and active copies (R87, R809)
  sinkSeen : Tab Nat := []
  deriving DecidableEq, Repr

end Sys2Proof.Machine
end

