-- ==== Sys2Proof/Machine/State.lean ====
section
/-! DEFINITION. The whole state of the model, the reasons a step can stop, and the state right after reset. -/

namespace Sys2Proof.Machine

/-- What the last command answered to its sender: the value of a register read, or how the access ended. The model's
own field: the table has no command that only reads a register, and the spec lets the sender see these answers. -/
inductive Resp where
  | none
  | word (v : Word)          -- a register read completed with this value
  | data (b : List Byte)     -- bytes returned to a bus or ring master
  | pmb (b : List Byte) (pec : Byte)   -- a PMBus reply, and the PEC that follows when one more byte is clocked (R863)
  | poison                   -- a completion with poisoned data (R798)
  | unsupported              -- Unsupported Request (R24, R85)
  | abort                    -- Completer Abort (R818)
  | fault (cause : Nat)      -- a core's exception, by its RISC-V cause code
  | nack                     -- the target did not acknowledge
  | code (n : Nat)           -- a completion or error code
  | spdm (r : SpdmResp)      -- an SPDM response (ch. 19)
  deriving DecidableEq, Repr

/-- Reasons for a step to stop with a fault. -/
inductive Fault where
  /-- Raised by no meaning of this model: every command of the table runs. Safe. -/
  | none_
  deriving DecidableEq, Repr

/-- Reasons for a step to refuse a command. -/
inductive Refusal where
  /-- Raised by the arms of `exec` that have no meaning yet. Safe: the model stops where the hardware goes on. -/
  | notModelled (mnemonic : String)
  deriving DecidableEq, Repr

/-- The state of the BX1200: its registers (staged and active copies), the typed state of its blocks, the queue of the
commands that wait, and two fields of the model's own (`resp`, `freeCtr`). -/
structure State where
  regs : Tab Word := []        -- stored and staged register words by offset; unlisted = reset value
  active : Tab Word := []      -- active copies of HOLD registers by offset; unlisted = reset value
  top : TopSt := {}
  drain : Tab Nat := []        -- time-base value, plus 1, of the last take of each sink rank (R825)
  bt : BudgetSt := {}
  recd : RecSt := {}
  tb : TbSt := {}
  clk : ClkSt := {}
  ch : Tab ChSt := []
  ph : Tab PhSt := []
  quad : Tab QuadSt := []
  pb : PbSt := {}
  fq : FqSt := {}
  img : ImgSt := {}
  nvs : NvsSt := {}
  integ : IntegSt := {}
  fwc : FwcSt := {}
  fab : FabSt := {}
  tvl : TvlSt := {}
  dom : DomSt := {}
  est : EstSt := {}
  cap : CapSt := {}
  hir : HirSt := {}
  sbm : SbmSt := {}
  sec : SecSt := {}
  jtag : JtagSt := {}
  pending : List Instr := []   -- commands that wait, first in first out
  resp : Resp := .none         -- the model's own: the answer to the last command's sender
  freeCtr : Nat := 0           -- the model's own: draws of free values so far
  deriving DecidableEq, Repr

/-- The machine with power-on reset held: every register at its reset value, every memory empty, no command waiting.
DESIGN CHOICE (log entries 3, 4 and 129), unsafe: values that the spec does not give are empty, zero or idle. -/
def State.reset : State := {}

end Sys2Proof.Machine
end

