-- ==== Sys2Proof/Machine/Ops.lean ====
section
/-! DEFINITION. The shared operations: sparse tables, register words and fields, bytes and check codes, time, the event
recorder's staging queues and the accessors of the numbered parts of the state. -/

namespace Sys2Proof.Machine

/-- What a command answers. -/
abbrev Result := Host.Outcome State Fault Refusal

/-! ## Sparse tables -/

/-- Read a table: the value at a key, the default where the key is not listed. -/
def tabGet {α : Type} (d : α) : Tab α → Nat → α
  | [], _ => d
  | (k, v) :: t, i => if k = i then v else tabGet d t i

/-- Remove a key. -/
def tabErase {α : Type} (t : Tab α) (i : Nat) : Tab α := t.filter (fun p => p.1 != i)

/-- Insert a key before the first larger key. -/
def tabIns {α : Type} : Tab α → Nat → α → Tab α
  | [], i, v => [(i, v)]
  | (k, w) :: t, i, v => if i < k then (i, v) :: (k, w) :: t else (k, w) :: tabIns t i v

/-- Write a table: the default is never listed. -/
def tabSet {α : Type} [DecidableEq α] (d : α) (t : Tab α) (i : Nat) (v : α) : Tab α :=
  if v = d then tabErase t i else tabIns (tabErase t i) i v

/-! ## Numbers and bits -/

def clampI (lo hi x : Int) : Int := if x < lo then lo else if hi < x then hi else x

/-- Two's complement value of the low `w` bits. -/
def sext (w n : Nat) : Int := if n % 2 ^ w < 2 ^ (w - 1) then (n % 2 ^ w : Nat) else (n % 2 ^ w : Nat) - (2 ^ w : Nat)

/-- The low `w` bits of a signed value. -/
def unsx (w : Nat) (x : Int) : Nat := (x % (2 ^ w : Nat)).toNat

/-- R17: an unsigned telemetry value in a field of `w` bits. -/
def satU (w : Nat) (x : Int) : Nat := (clampI 0 (2 ^ w - 1 : Nat) x).toNat

/-- R17: a signed telemetry value in a field of `w` bits, as the field's bits. -/
def satS (w : Nat) (x : Int) : Nat := unsx w (clampI (-(2 ^ (w - 1) : Nat)) (2 ^ (w - 1) - 1 : Nat) x)

def bitOf (n i : Nat) : Bool := n.testBit i

def b2n (b : Bool) : Nat := if b then 1 else 0

/-- The set bits of a mask of `n` bits, rising. -/
def maskBits (n w : Nat) : List Nat := (List.range n).filter (fun i => bitOf w i)

/-- A mask from the bits it holds. -/
def toMask (l : List Nat) : Nat := l.foldl (fun m i => m ||| (1 <<< i)) 0

/-- Rounds down towards minus infinity when shifting right. -/
def sarI (x : Int) (k : Nat) : Int := x / (2 ^ k : Nat)

def absI (x : Int) : Int := if x < 0 then -x else x

/-! ## Fields of words -/

def fldOf (w : Word) (f : Fld) : Nat := (w.toNat >>> f.lo) % 2 ^ f.len

def putFld (w : Word) (f : Fld) (v : Nat) : Word :=
  BitVec.ofNat 32 (w.toNat - ((w.toNat >>> f.lo) % 2 ^ f.len) <<< f.lo + (v % 2 ^ f.len) <<< f.lo)

/-! ## Registers -/

/-- Does the family hold this offset? -/
def famHas (r : RegFamily) (off : Nat) : Bool :=
  r.base ≤ off &&
  (let d := off - r.base
   if r.n2 ≤ 1 then (if r.n1 ≤ 1 then d == 0 else d % r.s1 == 0 && d / r.s1 < r.n1)
   else d / r.s1 < r.n1 && (d % r.s1) % r.s2 == 0 && (d % r.s1) / r.s2 < r.n2)

/-- The register family at an offset (R913: none where no chapter assigns a register). -/
def regFind (off : Nat) : Option RegFamily := (regBlock off).find? (fun r => famHas r off)

/-- The reset value of the register at an offset. -/
def resetOf (off : Nat) : Word :=
  match regFind off with
  | some r => BitVec.ofNat 32 r.reset
  | none => 0

/-- The stored word of a register (of a HOLD register: its staged copy). -/
def rd (s : State) (off : Nat) : Word := tabGet (resetOf off) s.regs off

/-- The active copy of a HOLD register. -/
def ac (s : State) (off : Nat) : Word := tabGet (resetOf off) s.active off

def wr (s : State) (off : Nat) (w : Word) : State := { s with regs := tabSet (resetOf off) s.regs off w }

def wrN (s : State) (off : Nat) (n : Nat) : State := wr s off (BitVec.ofNat 32 n)

def wrAc (s : State) (off : Nat) (w : Word) : State := { s with active := tabSet (resetOf off) s.active off w }

/-- A field of a stored word. -/
def fld (s : State) (off : Nat) (f : Fld) : Nat := fldOf (rd s off) f

/-- A one-bit field of a stored word. -/
def flag (s : State) (off : Nat) (f : Fld) : Bool := fldOf (rd s off) f == 1

def setF (s : State) (off : Nat) (f : Fld) (v : Nat) : State := wr s off (putFld (rd s off) f v)

/-- A field of an active copy. -/
def aF (s : State) (off : Nat) (f : Fld) : Nat := fldOf (ac s off) f

def aOn (s : State) (off : Nat) (f : Fld) : Bool := fldOf (ac s off) f == 1

/-- Hardware sets an event, latch or status bit. -/
def raise (s : State) (off : Nat) (f : Fld) : State := setF s off f 1

def lower (s : State) (off : Nat) (f : Fld) : State := setF s off f 0

/-- A counter field goes up by `n` and saturates. -/
def bumpBy (s : State) (off : Nat) (f : Fld) (n : Nat) : State := setF s off f (min (fld s off f + n) (2 ^ f.len - 1))

def bump (s : State) (off : Nat) (f : Fld) : State := bumpBy s off f 1

/-- The whole word as one field. -/
abbrev wordF : Fld := ⟨0, 32⟩

/-- A value wider than 32 bits in a low register and the register 4 above it. -/
def rd64 (s : State) (lo : Nat) : Nat := (rd s lo).toNat + (rd s (lo + 4)).toNat * 2 ^ 32

def wr64 (s : State) (lo : Nat) (v : Nat) : State := wrN (wrN s lo (v % 2 ^ 32)) (lo + 4) (v / 2 ^ 32 % 2 ^ 32)

/-- R16: a 48-bit duration counter goes up and holds at its highest value. -/
def bump48 (s : State) (lo : Nat) (n : Nat) : State := wr64 s lo (min (rd64 s lo + n) (2 ^ 48 - 1))

/-! ## Free values -/

/-- Draw the next free natural number below `n`. -/
def drawNat (s : State) (n : Nat) : Nat × State :=
  (Config.freeNat s.freeCtr % (max n 1), { s with freeCtr := s.freeCtr + 1 })

/-- Draw the next free integer. -/
def drawInt (s : State) : Int × State := (Config.freeInt s.freeCtr, { s with freeCtr := s.freeCtr + 1 })

/-! ## Bytes and checks -/

/-- Little-endian value of `n` bytes at an offset of a byte string (R15); bytes past the end read 0. -/
def leAt (b : List Byte) (off n : Nat) : Nat :=
  (List.range n).foldl (fun v i => v + (b.getD (off + i) 0).toNat * 2 ^ (8 * i)) 0

def leBytes (n v : Nat) : List Byte := (List.range n).map (fun i => BitVec.ofNat 8 (v / 2 ^ (8 * i)))

def crcBit (c : Nat) : Nat := if c % 2 = 1 then (c / 2) ^^^ 0x82F63B78 else c / 2

def crcByte (c : Nat) (b : Byte) : Nat :=
  crcBit (crcBit (crcBit (crcBit (crcBit (crcBit (crcBit (crcBit (c ^^^ b.toNat))))))))

/-- CRC-32C of R197: Castagnoli, reflected, initial value and final XOR 0xFFFF_FFFF. -/
def crc32c (b : List Byte) : Nat := (b.foldl crcByte 0xFFFFFFFF) ^^^ 0xFFFFFFFF

/-! ## Time -/

/-- The time-base count, ns. -/
def now (s : State) : Nat := s.tb.c

/-- A time-driven event brings the time base to the instant at which it is due, unless it is already past it. -/
def reach (s : State) (t : Nat) : State :=
  if s.tb.running && s.tb.c < t then { s with tb := { s.tb with c := t, f := 0 } } else s

/-- One REFCLK edge: (C, F) goes up by 10 ns + RATE + SLEW, in 2⁻³² ns. -/
def tbEdge (s : State) : State :=
  if s.tb.running then
    let v : Int := (s.tb.c * 2 ^ 32 + s.tb.f + 10 * 2 ^ 32 : Nat) + s.tb.rate + s.tb.slew
    let n := v.toNat
    { s with tb := { s.tb with c := n / 2 ^ 32 % 2 ^ 64, f := n % 2 ^ 32 } }
  else s

/-- CLK_FW has a source (R965): without one the firmware complex, the recorder arbiter and the host-side register interface stop. -/
def fwOn (s : State) : Bool := s.clk.fw != .none

/-! ## Sinks (R825) -/

/-- A sink of rank `r` takes an item. -/
def sinkTake (s : State) (r : Nat) : State :=
  let s := bump s (Reg.TOP_DRAIN_CNT r) wordF
  let s := setF s Reg.TOP_DRAIN_STATUS ⟨r, 1⟩ 1
  { s with drain := tabSet 0 s.drain r (now s + 1) }

/-! ## Recorder staging (R68–R71) -/

def planeNo : Plane → Nat
  | .control => 0
  | .data => 1
  | .mgmt => 2

def stageQ (s : State) : Plane → List Entry
  | .control => s.recd.q0
  | .data => s.recd.q1
  | .mgmt => s.recd.q2

def setStageQ (s : State) (p : Plane) (q : List Entry) : State :=
  match p with
  | .control => { s with recd := { s.recd with q0 := q } }
  | .data => { s with recd := { s.recd with q1 := q } }
  | .mgmt => { s with recd := { s.recd with q2 := q } }

def stageDrop (s : State) : Plane → Nat
  | .control => s.recd.drop0
  | .data => s.recd.drop1
  | .mgmt => s.recd.drop2

def setStageDrop (s : State) (p : Plane) (n : Nat) : State :=
  match p with
  | .control => { s with recd := { s.recd with drop0 := n } }
  | .data => { s with recd := { s.recd with drop1 := n } }
  | .mgmt => { s with recd := { s.recd with drop2 := n } }

/-- A staging queue holds 16 entries (Table 1.13). -/
abbrev stageDepth : Nat := 16

/-- R70: a record meets a full staging queue. -/
def dropRecord (s : State) (p : Plane) : State :=
  let s := bump s (Reg.REC_ARB_DROP (planeNo p)) wordF
  sinkTake (setStageDrop s p (stageDrop s p + 1)) 8

/-- R71: where a queue that dropped records has room, the loss record goes in. -/
def placeLoss (s : State) (p : Plane) : State :=
  if 0 < stageDrop s p && (stageQ s p).length < stageDepth then
    let e : Entry := { cls := 0x01, typ := 0x02, flags := planeNo p, unit := planeNo p, value := stageDrop s p }
    let s := setStageQ s p (stageQ s p ++ [e])
    raise (setStageDrop s p 0) Reg.REC_EVENT F.REC_EVENT_LOSS
  else s

/-- R70, R71: a plane produces a record. -/
def stage (s : State) (p : Plane) (e : Entry) : State :=
  let s := placeLoss s p
  if (stageQ s p).length < stageDepth then setStageQ s p (stageQ s p ++ [{ e with flags := e.flags % 32 / 4 * 4 + planeNo p }])
  else dropRecord s p

/-- A record of hardware: class, type, unit, ARG, VALUE and VALUE2 (R829). -/
def record (s : State) (p : Plane) (cls typ unit arg value value2 : Nat) (flags : Nat := 0) : State :=
  stage s p { cls := cls, typ := typ, flags := flags, unit := unit % 2 ^ 16, arg := arg % 2 ^ 16,
              value := value % 2 ^ 64, value2 := value2 % 2 ^ 64 }

/-- A Postmark comes due (R831); its VALUE is taken at the grant. -/
def dueMark (s : State) (cause : Nat) : State :=
  { s with recd := { s.recd with marks := s.recd.marks ++ [{ cls := 0x01, typ := 0x01, flags := 3, unit := cause }] } }

/-! ## Parts by number -/

def chOf (s : State) (c : Nat) : ChSt := tabGet {} s.ch c
def setCh (s : State) (c : Nat) (f : ChSt → ChSt) : State := { s with ch := tabSet {} s.ch c (f (chOf s c)) }
def phOf (s : State) (p : Nat) : PhSt := tabGet {} s.ph p
def setPh (s : State) (p : Nat) (f : PhSt → PhSt) : State := { s with ph := tabSet {} s.ph p (f (phOf s p)) }
def quadOf (s : State) (q : Nat) : QuadSt := tabGet {} s.quad q
def setQuad (s : State) (q : Nat) (f : QuadSt → QuadSt) : State := { s with quad := tabSet {} s.quad q (f (quadOf s q)) }
def dieOf (s : State) (d : Nat) : DieSt := tabGet {} s.pb.die d
def setDie (s : State) (d : Nat) (f : DieSt → DieSt) : State :=
  { s with pb := { s.pb with die := tabSet {} s.pb.die d (f (dieOf s d)) } }
def siteOf (s : State) (d n : Nat) : SiteSt := tabGet {} s.pb.site (64 * d + n)
def setSite (s : State) (d n : Nat) (f : SiteSt → SiteSt) : State :=
  { s with pb := { s.pb with site := tabSet {} s.pb.site (64 * d + n) (f (siteOf s d n)) } }
def portOf (s : State) (d : Nat) : PortSt := tabGet {} s.pb.port d
def setPort (s : State) (d : Nat) (f : PortSt → PortSt) : State :=
  { s with pb := { s.pb with port := tabSet {} s.pb.port d (f (portOf s d)) } }
def boostOf (s : State) (r : Nat) : BoostSt := tabGet {} s.pb.rail r
def setBoost (s : State) (r : Nat) (f : BoostSt → BoostSt) : State :=
  { s with pb := { s.pb with rail := tabSet {} s.pb.rail r (f (boostOf s r)) } }
def partOf (s : State) (p : Nat) : PartPbSt := tabGet {} s.pb.part p
def setPart (s : State) (p : Nat) (f : PartPbSt → PartPbSt) : State :=
  { s with pb := { s.pb with part := tabSet {} s.pb.part p (f (partOf s p)) } }
def queueOf (s : State) (q : Nat) : QueueSt := tabGet {} s.fq.q q
def setQueue (s : State) (q : Nat) (f : QueueSt → QueueSt) : State :=
  { s with fq := { s.fq with q := tabSet {} s.fq.q q (f (queueOf s q)) } }
def balOf (s : State) (p : Nat) : BalSt := tabGet {} s.fq.bal p
def setBal (s : State) (p : Nat) (f : BalSt → BalSt) : State :=
  { s with fq := { s.fq with bal := tabSet {} s.fq.bal p (f (balOf s p)) } }
def classKey : Initiator → Nat
  | .host fn => fn.val
  | .core n => 64 + n.val
  | .sec => 72
  | .smbus => 73
def classOf (s : State) (i : Initiator) : ClassSt := tabGet {} s.top.classes (classKey i)
def setClass (s : State) (i : Initiator) (f : ClassSt → ClassSt) : State :=
  { s with top := { s.top with classes := tabSet {} s.top.classes (classKey i) (f (classOf s i)) } }

def coreOf (s : State) (n : Nat) : CoreSt := tabGet {} s.fwc.core n
def setCore (s : State) (n : Nat) (f : CoreSt → CoreSt) : State :=
  { s with fwc := { s.fwc with core := tabSet {} s.fwc.core n (f (coreOf s n)) } }
def mbxOf (s : State) (n : Nat) : MbxSt := tabGet {} s.fwc.mbx n
def setMbx (s : State) (n : Nat) (f : MbxSt → MbxSt) : State :=
  { s with fwc := { s.fwc with mbx := tabSet {} s.fwc.mbx n (f (mbxOf s n)) } }

def tileOf (s : State) (n : Nat) : TileSt := tabGet {} s.fab.tile n
def setTile (s : State) (n : Nat) (f : TileSt → TileSt) : State :=
  { s with fab := { s.fab with tile := tabSet {} s.fab.tile n (f (tileOf s n)) } }
def rxOf (s : State) (n : Nat) : RxSlot := tabGet {} s.fab.rx n
def setRx (s : State) (n : Nat) (f : RxSlot → RxSlot) : State :=
  { s with fab := { s.fab with rx := tabSet {} s.fab.rx n (f (rxOf s n)) } }
def sigOf (s : State) (id : Nat) : Int := tabGet 0 s.fab.sig id
def setSig (s : State) (id : Nat) (v : Int) : State := { s with fab := { s.fab with sig := tabSet 0 s.fab.sig id v } }
def srcOf (s : State) (c : Nat) : Int := tabGet 0 s.fab.src c
/-- A carrier or block fills the output register of a fabric source (R42). -/
def setSrc (s : State) (c : Nat) (v : Int) : State := { s with fab := { s.fab with src := tabSet 0 s.fab.src c v } }

def laneOf (s : State) (n : Nat) : LaneSt := tabGet {} s.tvl.lane n
def setLane (s : State) (n : Nat) (f : LaneSt → LaneSt) : State :=
  { s with tvl := { s.tvl with lane := tabSet {} s.tvl.lane n (f (laneOf s n)) } }
def lclsOf (s : State) (n c : Nat) : LaneCls := tabGet {} (laneOf s n).cls c
def setLcls (s : State) (n c : Nat) (f : LaneCls → LaneCls) : State :=
  setLane s n (fun x => { x with cls := tabSet {} x.cls c (f (lclsOf s n c)) })
def dlqOf (s : State) (q : Nat) : DlqSt := tabGet {} s.tvl.dlq q
def setDlq (s : State) (q : Nat) (f : DlqSt → DlqSt) : State :=
  { s with tvl := { s.tvl with dlq := tabSet {} s.tvl.dlq q (f (dlqOf s q)) } }
def regionOf (s : State) (k : Nat) : RegionSt := tabGet {} s.est.region k
def setRegion (s : State) (k : Nat) (f : RegionSt → RegionSt) : State :=
  { s with est := { s.est with region := tabSet {} s.est.region k (f (regionOf s k)) } }
def capOf (s : State) (p : Nat) : CapPart := tabGet {} s.cap.part p
def setCap (s : State) (p : Nat) (f : CapPart → CapPart) : State :=
  { s with cap := { s.cap with part := tabSet {} s.cap.part p (f (capOf s p)) } }

def ringOf (s : State) (r : Nat) : RingSt := tabGet {} s.hir.ring r
def setRing (s : State) (r : Nat) (f : RingSt → RingSt) : State := { s with hir := { s.hir with ring := tabSet {} s.hir.ring r (f (ringOf s r)) } }
def pageOf (s : State) (p : Nat) : PageSt := tabGet {} s.sbm.pages p
def setPage (s : State) (p : Nat) (f : PageSt → PageSt) : State :=
  { s with sbm := { s.sbm with pages := tabSet {} s.sbm.pages p (f (pageOf s p)) } }

/-- R871: a reading joins the mean of its millisecond. -/
def meanAdd (s : State) (k : Nat) (v : Int) : State :=
  let m := tabGet {} s.sbm.mean k
  let ms := s.tb.c / 1000000
  let m := if m.n = 0 then { m with ms := ms }
    else if m.ms = ms then m
    else { ms := ms, sum := 0, n := 0, last := if m.ms + 1 = ms then some (m.sum / m.n) else none }
  { s with sbm := { s.sbm with mean := tabSet {} s.sbm.mean k { m with sum := m.sum + v, n := m.n + 1 } } }

/-- The mean of a reading over the last whole millisecond; `v`, its present value, where no sample fell in it. -/
def meanOf (s : State) (k : Nat) (v : Int) : Int :=
  let m := tabGet {} s.sbm.mean k
  let ms := s.tb.c / 1000000
  if m.n = 0 then v else if m.ms = ms then m.last.getD v else if m.ms + 1 = ms then m.sum / m.n else v

/-- Apply a list of updates in order. -/
def forEach {α : Type} (l : List α) (s : State) (f : State → α → State) : State := l.foldl f s

/-! ## The applied image -/

def slotOf (b : Tab BankSlot) (id : Nat) : BankSlot := tabGet {} b id

/-- The active configuration bank. -/
def actBank (s : State) : Tab BankSlot := if s.img.active1 then s.img.bank1 else s.img.bank0

/-- The payload of a structure frame in the active bank. -/
def frame (s : State) (id : Nat) : List Byte := (slotOf (actBank s) id).payload

/-- A little-endian field of a structure frame of the active bank. -/
def fr (s : State) (id off n : Nat) : Nat := leAt (frame s id) off n

end Sys2Proof.Machine
end

