-- ==== Sys2Proof/Machine/Rails.lean ====
section
/-! DEFINITION. The device's structure as the applied image gives it (frames 0x01, 0x10 and 0x11): rails, channels, quads,
phases, the start order and the essential rails. -/

namespace Sys2Proof.Machine

/-- The structure frames of an image, by frame ID. -/
abbrev Frames := Nat → List Byte

/-- A little-endian field of a structure frame. -/
def ff (f : Frames) (id off n : Nat) : Nat := leAt (f id) off n

/-- The structure frames of the active bank. -/
def framesOf (s : State) : Frames := frame s

/-- QUAD_CH_q, RAIL_c and WIDE_c of frame 0x10. -/
def quadChF (f : Frames) (q : Nat) : Nat := if f 0x10 != [] then ff f 0x10 q 1 else 0xFF
def railOfF (f : Frames) (c : Nat) : Nat := if f 0x10 != [] && c < 8 then ff f 0x10 (0x10 + c) 1 else 0xFF
def isRailF (f : Frames) (c : Nat) : Bool := c < 8 && railOfF f c == c
def railsF (f : Frames) : List Nat := (List.range 8).filter (isRailF f)
def railChansF (f : Frames) (r : Nat) : List Nat := (List.range 8).filter (fun c => railOfF f c == r)
def railQuadsF (f : Frames) (r : Nat) : List Nat :=
  (List.range 16).filter (fun q => quadChF f q < 8 && railOfF f (quadChF f q) == r)
def wideRoleF (f : Frames) (c : Nat) : Nat := if f 0x10 != [] then ff f 0x10 (0x18 + c) 1 % 4 else 0

/-- An image's structure stands in the active bank (it does in a HALT under R233 too). -/
def structured (s : State) : Bool := frame s 0x10 != []

/-- QUAD_CH_q: the channel of a quad, 0xFF for none. -/
def quadCh (s : State) (q : Nat) : Nat := quadChF (framesOf s) q

/-- RAIL_c: the rail channel of a channel, 0xFF for an unused channel. -/
def railOf (s : State) (c : Nat) : Nat := railOfF (framesOf s) c

def isRail (s : State) (c : Nat) : Bool := isRailF (framesOf s) c

/-- The rail channels in use, in rising order. -/
def rails (s : State) : List Nat := (List.range 8).filter (isRail s)

/-- The channels of a rail. -/
def railChans (s : State) (r : Nat) : List Nat := (List.range 8).filter (fun c => railOf s c == r)

def railQuads (s : State) (r : Nat) : List Nat :=
  (List.range 16).filter (fun q => quadCh s q < 8 && railOf s (quadCh s q) == r)

def quadPhases (q : Nat) : List Nat := [4 * q, 4 * q + 1, 4 * q + 2, 4 * q + 3]

def railPhases (s : State) (r : Nat) : List Nat := (railQuads s r).flatMap quadPhases

/-- The rail channel of a phase's rail, 0xFF for none. -/
def phaseRail (s : State) (p : Nat) : Nat := railOf s (quadCh s (p / 4))

/-- WIDE_c role: 0 none, 1 master, 2 member. -/
def wideRole (s : State) (c : Nat) : Nat := if structured s then fr s 0x10 (0x18 + c) 1 % 4 else 0
def widePos (s : State) (c : Nat) : Nat := fr s 0x10 (0x18 + c) 1 / 4 % 4
def wideMask (s : State) (c : Nat) : Nat := if structured s then fr s 0x10 (0x18 + c) 1 / 16 else 0
def widePh (s : State) (c : Nat) : Nat := fr s 0x10 (0x20 + 2 * c) 2

/-- The cascade positions of a widened rail other than this device's. -/
def wideOthers (s : State) (c : Nat) : List Nat := (maskBits 4 (wideMask s c)).filter (fun k => k != fld s Reg.TOP_STRAP F.TOP_STRAP_CPOS)

/-- The larger shares go to the first of `d` devices when `n` phases are divided over them (R325). -/
def wideShare (n d k : Nat) : Nat := n / d + (if k < n % d then 1 else 0)

/-- Frame 0x11: IGAIN, TSLOPE, TOFFSET and IPEAK of a quad. -/
def igain (s : State) (q : Nat) : Nat := fr s 0x11 (8 * q) 1
def tslope (s : State) (q : Nat) : Nat := fr s 0x11 (8 * q + 1) 1
def toffset (s : State) (q : Nat) : Int := sext 8 (fr s 0x11 (8 * q + 2) 1)
def ipeak (s : State) (q : Nat) : Nat := fr s 0x11 (8 * q + 4) 2

/-- LOCKED: the channel is part of a rail of more than one channel (R289, R343). -/
def locked (s : State) (c : Nat) : Bool := railOf s c < 8 && 1 < (railChans s (railOf s c)).length

/-- The rail's assigned phases on this device: those of its quads, less DISABLE and less those with a stage fault. -/
def assigned (s : State) (r : Nat) : List Nat :=
  (railPhases s r).filter (fun p => !aOn s (Reg.PH_CFG p) F.PH_CFG_DISABLE && !(phOf s p).fault)

/-- The rail's active phases on this device, in ascending phase number (R293). -/
def activePh (s : State) (r : Nat) : List Nat := (railPhases s r).filter (fun p => (phOf s p).active)

/-- The phases that a member of a widened rail has on it, as its master counts them: those of WIDE_PH that are not the master's own,
divided over the members. -/
def memberPh (s : State) (r pos : Nat) : Nat :=
  let ms := wideOthers s r
  wideShare (widePh s r - (railPhases s r).length) (max ms.length 1) (ms.idxOf pos)

/-- Cascade positions of the members of a widened rail that still report (R325, R339), as its master holds them. -/
def memberPos (s : State) (r : Nat) : List Nat := if wideRole s r = 1 then (chOf s r).memberAct.map (fun p => p.1) else []

/-- The rail's assigned phases over every device. -/
def assignedN (s : State) (r : Nat) : Nat := (assigned s r).length + ((memberPos s r).map (memberPh s r)).sum

/-- R290: settings of a rail come from its rail channel. -/
def railEn (s : State) (r : Nat) : Bool := aOn s (Reg.CH_CTRL r) F.CH_CTRL_EN

def railState (s : State) (r : Nat) : ChState := (chOf s r).state

/-- A rail is switching in soft start, settle, regulation, and in a discharge in which it may switch. -/
def switching (s : State) (r : Nat) : Bool :=
  match railState s r with
  | .soft => true
  | .settle => true
  | .reg => true
  | .discharge => (s.top.dis.find? (fun d => d.rail == r)).any (fun d => d.maySwitch)
  | _ => false

/-- A rail that has left OFF and is not yet back (or latched): what a discharge has to take down. -/
def running (s : State) (r : Nat) : Bool :=
  match railState s r with
  | .soft => true
  | .settle => true
  | .reg => true
  | .discharge => true
  | _ => false

/-- A boost drives the rail. -/
def boosting (s : State) (r : Nat) : Bool := (boostOf s r).boost.isSome

/-- R9–R12: whether a rail is essential. -/
def essential (s : State) (r : Nat) : Bool :=
  let e := fr s 0x01 0 1
  if e != 0 then bitOf e r
  else if railOf s 0 < 8 then r == railOf s 0
  else (rails s).head? == some r

/-- STAGE_k MASK and DELAY of frame 0x01 (µs). -/
def stageMask (s : State) (k : Nat) : Nat := fr s 0x01 (0x08 + 4 * k) 1
def stageDelay (s : State) (k : Nat) : Nat := fr s 0x01 (0x0A + 4 * k) 2

/-- The stages in use: those before the first MASK 0 (Table 4.17). -/
def stageCount (s : State) : Nat := ((List.range 8).takeWhile (fun k => stageMask s k != 0)).length

/-- The rails of one stage. -/
def stageRails (s : State) (k : Nat) : List Nat := (rails s).filter (fun r => bitOf (stageMask s k) r)

/-- R210: the order of an ordered discharge. -/
def dischargeOrder (s : State) : List Nat :=
  (List.range 8).reverse.flatMap (fun k => (stageRails s k).reverse)

def latchBit (s : State) (kind r : Nat) : Bool := bitOf (rd s Reg.PROT_CH_LATCH).toNat (8 * kind + r)

/-- Protection has latched the rail off: overvoltage 0, phase short 1, overload 2. -/
def railLatched (s : State) (r : Nat) : Bool := latchBit s 0 r || latchBit s 1 r || latchBit s 2 r

/-- Setpoint voltage of a code, mV × 4 (0.25 mV units). -/
def vsetQ (code : Nat) : Nat := 1000 + code

/-- The rail's committed setpoint in 5 nV. -/
def setpoint (s : State) (r : Nat) : Int := (vsetQ (aF s (Reg.CH_VSET r) F.CH_VSET_VSET) * 50000 : Nat)

/-- The rail's sense voltage, 1/16 mV. -/
def sense (s : State) (r : Nat) : Nat := fld s (Reg.CH_VSENSE r) ⟨0, 16⟩

/-- The rail current, 1/16 A. -/
def railI (s : State) (r : Nat) : Int := sext 32 (rd s (Reg.CH_I r)).toNat

/-- Round half away from zero. -/
def roundDiv (n : Nat) (d : Nat) : Nat := (2 * n + d) / (2 * d)

end Sys2Proof.Machine
end

