-- ==== Sys2Proof/Machine/Dies.lean ====
section
/-! DEFINITION. What the applied image says of dies, sites, partitions, queues, sense regions, lanes and the domain: readers
of frames 0x60–0xF7 (Tables 8.7, 9.8, 10.2, 11.2, 12.9, 13.2, 13.3). -/

namespace Sys2Proof.Machine

/-! ## Dies and sites (Table 8.7) -/

def dieHereF (f : Frames) (d : Nat) : Bool := d < 4 && bitOf (ff f (0x60 + 16 * d) 0 1) 0
def dieRailF (f : Frames) (d : Nat) : Nat := ff f (0x60 + 16 * d) 1 1
def dieSitesF (f : Frames) (d : Nat) : Nat := ff f (0x60 + 16 * d) 2 1
def dieDroopBudgetF (f : Frames) (d : Nat) : Nat := ff f (0x60 + 16 * d) 4 2
def dieSiteDlyF (f : Frames) (d : Nat) : Nat := ff f (0x60 + 16 * d) 6 2
def dieDivDlyF (f : Frames) (d : Nat) : Nat := ff f (0x60 + 16 * d) 8 2
def siteHereF (f : Frames) (d n : Nat) : Bool := dieHereF f d && bitOf (ff f (0x61 + 16 * d) (4 * n) 1) 7
def sitePartF (f : Frames) (d n : Nat) : Nat := ff f (0x61 + 16 * d) (4 * n) 1 % 32
def siteRegionF (f : Frames) (d n : Nat) : Nat := ff f (0x61 + 16 * d) (4 * n + 1) 1

/-! ## Partitions (Table 10.2) -/

def partByteF (f : Frames) (p off n : Nat) : Nat := ff f (0xA0 + p / 8) (32 * (p % 8) + off) n
def partHereF (f : Frames) (p : Nat) : Bool := p < 32 && bitOf (partByteF f p 0 1) 0
def partDieF (f : Frames) (p : Nat) : Nat := partByteF f p 1 1
def partDivF (f : Frames) (p : Nat) : Nat := partByteF f p 2 1
def partGroupF (f : Frames) (p : Nat) : Nat := partByteF f p 3 1
def partFmaxF (f : Frames) (p : Nat) : Nat := partByteF f p 4 2
def partCeffF (f : Frames) (p : Nat) : Nat := partByteF f p 6 2
def partHoldF (f : Frames) (p : Nat) : Nat := partByteF f p 8 1
def partClkF (f : Frames) (p : Nat) : Nat := partByteF f p 0x10 8

/-- The rail of a partition: RAIL of its die. -/
def partRailF (f : Frames) (p : Nat) : Nat := dieRailF f (partDieF f p)

/-- The present sites of a partition, as 64 × die + site. -/
def partSitesF (f : Frames) (p : Nat) : List Nat :=
  ((List.range 64).filter (fun n => siteHereF f (partDieF f p) n && sitePartF f (partDieF f p) n == p)).map (fun n => 64 * partDieF f p + n)

/-! ## Queues, regions (Tables 9.8, 11.2) -/

def queueHereF (f : Frames) (q : Nat) : Bool := bitOf (ff f 0xB0 (4 * q) 1) 0
def queueDieF (f : Frames) (q : Nat) : Nat := ff f 0xB0 (4 * q + 1) 1
/-- Region k = 16 × rail channel + region. -/
def regionHereF (f : Frames) (k : Nat) : Bool := bitOf (ff f (0xE8 + k / 16) (16 * (k % 16)) 1) 0
def regionSrcF (f : Frames) (k : Nat) : Nat := ff f (0xE8 + k / 16) (16 * (k % 16) + 1) 1
def regionNearF (f : Frames) (k : Nat) : Nat := ff f (0xE8 + k / 16) (16 * (k % 16) + 2) 1
/-- The present sites that name a region on a die of its rail. -/
def regionSitesF (f : Frames) (k : Nat) : List Nat :=
  (List.range 256).filter (fun i => siteHereF f (i / 64) (i % 64) && dieRailF f (i / 64) == k / 16 && siteRegionF f (i / 64) (i % 64) == k % 16)

/-! ## Links (Table 12.9) -/

def laneRoleF (f : Frames) (l : Nat) : Nat := ff f 0xE0 (8 * l) 1
def lanePeerLaneF (f : Frames) (l : Nat) : Nat := ff f 0xE0 (8 * l + 1) 1
def lanePeerNodeF (f : Frames) (l : Nat) : Nat := ff f 0xE0 (8 * l + 2) 2
def ownNodeF (f : Frames) : Nat := ff f 0xE0 0x80 2 % 1024
def inDomainF (f : Frames) : Bool := bitOf (ff f 0xE0 0x82 1) 0
def domainTagF (f : Frames) : Nat := ff f 0xE0 0x84 4 % 2 ^ 30
def routeF (f : Frames) (n : Nat) : Nat := ff f (0xE1 + n / 512) (n % 512 / 2) 1 / 16 ^ (n % 2) % 16

/-! ## Domain (Table 13.3) -/

def domMasterF (f : Frames) : Nat := ff f 0xB8 0 2
def domStandbyF (f : Frames) : Nat := ff f 0xB8 2 2
def domNodesF (f : Frames) : Nat := ff f 0xB8 4 2
def groupByteF (f : Frames) (g off n : Nat) : Nat := ff f (0xB9 + g / 16) (16 * (g % 16) + off) n
def groupHereF (f : Frames) (g : Nat) : Bool := g < 64 && bitOf (groupByteF f g 0 1) 0
def groupFastF (f : Frames) (g : Nat) : Bool := bitOf (groupByteF f g 0 1) 1
def groupDropF (f : Frames) (g : Nat) : Nat := groupByteF f g 1 1
def memberByteF (f : Frames) (n off len : Nat) : Nat := ff f (0xC0 + n / 32) (8 * (n % 32) + off) len
def memberF (f : Frames) (n : Nat) : Bool := n < 1024 && bitOf (memberByteF f n 0 1) 0
def memberDepthF (f : Frames) (n : Nat) : Nat := memberByteF f n 1 1
def memberParentF (f : Frames) (n : Nat) : Nat := memberByteF f n 2 2
def memberFloorF (f : Frames) (n : Nat) : Nat := memberByteF f n 4 2
def memberWeightF (f : Frames) (n : Nat) : Nat := memberByteF f n 6 1

/-! ## The same of the applied image -/

def dieHere (s : State) (d : Nat) : Bool := dieHereF (framesOf s) d
def dieRail (s : State) (d : Nat) : Nat := dieRailF (framesOf s) d
def siteHere (s : State) (d n : Nat) : Bool := siteHereF (framesOf s) d n
def partHere (s : State) (p : Nat) : Bool := partHereF (framesOf s) p
def partRail (s : State) (p : Nat) : Nat := partRailF (framesOf s) p
def partDie (s : State) (p : Nat) : Nat := partDieF (framesOf s) p
def parts (s : State) : List Nat := (List.range 32).filter (partHere s)
def dieParts (s : State) (d : Nat) : List Nat := (parts s).filter (fun p => partDie s p == d)
def railParts (s : State) (r : Nat) : List Nat := (parts s).filter (fun p => partRail s p == r)
def railDies (s : State) (r : Nat) : List Nat := (List.range 4).filter (fun d => dieHere s d && dieRail s d == r)
def inDomain (s : State) : Bool := structured s && inDomainF (framesOf s)
def ownNode (s : State) : Nat := ownNodeF (framesOf s)
def cpos (s : State) : Nat := fld s Reg.TOP_STRAP F.TOP_STRAP_CPOS
/-- The node's present partitions in a lock group. -/
def groupParts (s : State) (g : Nat) : List Nat := (parts s).filter (fun p => partGroupF (framesOf s) p == g)

/-- Word `w` of a partition's local entry in the active budget bank (Table 1.9). -/
def actLocal (s : State) (p w : Nat) : Word := tabGet 0 (if s.bt.active1 then s.bt.bank1 else s.bt.bank0) (0x2040 / 4 + 4 * p + w)

/-- Word `w` (0 or 1) of node n's entry in the active bank's domain section. -/
def actNode (s : State) (n w : Nat) : Word := tabGet 0 (if s.bt.active1 then s.bt.bank1 else s.bt.bank0) (0x40 / 4 + 2 * n + w)

/-- The regions that the applied image holds. -/
def regions (s : State) : List Nat := (List.range 128).filter (fun k => structured s && regionHereF (framesOf s) k)

end Sys2Proof.Machine
end

