-- ==== Sys2Proof/Machine/FabOps.lean ====
section
/-! DEFINITION. The control fabric (ch. 5): alignment and rounding, the tile kinds of Table 5.2, the evaluation of one sample
of a lane, receive slots and sinks, and the range rule R287. -/

namespace Sys2Proof.Machine

/-! ## Arithmetic (R252–R254) -/

/-- A word from point `p` to point `q`: shift left, or round half up (before any saturation). -/
def alignTo (x : Int) (p q : Nat) : Int := if p ≤ q then x * (2 ^ (q - p) : Nat) else sarI (x + (2 ^ (p - q - 1) : Nat)) (p - q)

/-- The nearest value of `w` bits. -/
def satI (w : Nat) (x : Int) : Int := clampI (-(2 ^ (w - 1) : Nat)) (2 ^ (w - 1) - 1 : Nat) x

/-- Round half up of n ÷ d, d positive. -/
def divHalfUp (n : Int) (d : Nat) : Int := (2 * n + d) / (2 * d : Nat)

/-! ## Layout (Tables 5.5, 5.6) -/

def tileKindF (f : Frames) (n : Nat) : Nat := ff f (0x20 + n / 8) (32 * (n % 8)) 1 % 16
def tileLaneF (f : Frames) (n : Nat) : Nat := ff f (0x20 + n / 8) (32 * (n % 8)) 1 / 16 % 4
def tileFreezeF (f : Frames) (n : Nat) : Nat := ff f (0x20 + n / 8) (32 * (n % 8) + 1) 1 % 16
def tileOrderF (f : Frames) (n : Nat) : Nat := ff f (0x20 + n / 8) (32 * (n % 8) + 2) 1
def tileInF (f : Frames) (n i : Nat) : Nat := ff f (0x20 + n / 8) (32 * (n % 8) + 4 + 2 * i) 2
def tileOutF (f : Frames) (n : Nat) : Nat := ff f (0x20 + n / 8) (32 * (n % 8) + 0xC) 2 % 512
def sigDriverF (f : Frames) (i : Nat) : Nat := ff f (0x30 + i / 32) (8 * (i % 32)) 2
def sigPresentF (f : Frames) (i : Nat) : Bool := bitOf (sigDriverF f i) 15
def sigPointF (f : Frames) (i : Nat) : Nat := ff f (0x30 + i / 32) (8 * (i % 32) + 2) 1
def sigLaneF (f : Frames) (i : Nat) : Nat := ff f (0x30 + i / 32) (8 * (i % 32) + 3) 1
def sinkSigF (f : Frames) (k : Nat) : Nat := ff f (0x40 + k / 64) (4 * (k % 64)) 2 % 512
def sinkBoundF (f : Frames) (k : Nat) : Bool := bitOf (ff f (0x40 + k / 64) (4 * (k % 64)) 2) 15
/-- Transmit slots stand in frame 0x42, receive slots in 0x43. -/
def slotPeerF (f : Frames) (rx : Bool) (t : Nat) : Nat := ff f (0x42 + b2n rx) (8 * t) 1
def slotPairF (f : Frames) (rx : Bool) (t : Nat) : Nat := ff f (0x42 + b2n rx) (8 * t + 1) 1
def slotLaneF (f : Frames) (rx : Bool) (t : Nat) : Nat := ff f (0x42 + b2n rx) (8 * t + 2) 1
def slotFallF (f : Frames) (rx : Bool) (t : Nat) : Nat := ff f (0x42 + b2n rx) (8 * t + 3) 1
def slotEnF (f : Frames) (rx : Bool) (t : Nat) : Bool := bitOf (ff f (0x42 + b2n rx) (8 * t + 4) 2) 0
def xdevEnF (f : Frames) : Bool := bitOf (ff f 0x44 0 1) 0

/-- The point of a sink (Table 5.4); a transmit slot carries its signal's own point. -/
def sinkPoint (f : Frames) (k : Nat) : Nat := if k < 8 then 22 else if k < 0x10 then 20 else if k < 0x50 then 22 else sigPointF f (sinkSigF f k)

/-! ## One tile -/

/-- Parameter k of tile n: its 24-bit word and its point. -/
def parV (s : State) (n k : Nat) : Int := sext 24 (aF s (Reg.FAB_PARAM n k) F.FAB_PARAM_VALUE)
def parP (s : State) (n k : Nat) : Nat := aF s (Reg.FAB_PARAM n k) F.FAB_PARAM_POINT
def parRaw (s : State) (n k : Nat) : Nat := (ac s (Reg.FAB_PARAM n k)).toNat

/-- An input of a tile: connected or not, its word and its point (R251). -/
structure TileIn where
  used : Bool
  w : Int
  p : Nat
  deriving DecidableEq, Repr

def tileIn (s : State) (n i : Nat) : TileIn :=
  let x := tileInF (framesOf s) n i
  if bitOf x 15 then { used := true, w := sigOf s (x % 512), p := sigPointF (framesOf s) (x % 512) }
  else { used := false, w := 0, p := 0 }

/-- What a tile computes: its output before saturation (none where the spec states no value), its next state, whether a
LIM pinned, and whether a saturation is counted anyway (R259). -/
structure TileOut where
  y : Option Int
  st : TileSt
  pin : Bool := false
  sat : Bool := false
  deriving DecidableEq, Repr

/-- R252, R254: a word or product brought from point `p` to point `q` in a field of `w` bits. -/
def alignSat (w : Nat) (x : Int) (p q : Nat) : Int := satI w (alignTo x p q)

/-- The values of kp, ki, kd and a of tile n, in 2^-32. -/
def pidCoefs (s : State) (n : Nat) : List Int := (List.range 4).map (fun k => parV s n k * (2 ^ (32 - parP s n k) : Nat))

/-- R255–R257, R279. P, D, the integrator and every product at its point are 48 bits wide (R254); the output of the previous
sample is the word that the tile's signal holds. -/
def tilePid (s : State) (n q : Nat) (x : Nat → TileIn) (st : TileSt) : TileOut :=
  let big := q + 16
  let up := (2 ^ 16 : Nat)
  let e := alignSat 24 (x 0).w (x 0).p q
  let kp := parV s n 0
  let p := alignSat 48 (kp * e) (parP s n 0 + q) big
  let ke := alignSat 48 (parV s n 1 * e) (parP s n 1 + q) big
  let a := parV s n 3
  let pa := parP s n 3
  let d := satI 48 (alignTo (a * st.d) (pa + big) big
    + alignTo (((2 ^ pa : Nat) - a) * parV s n 2 * (e - st.e)) (pa + parP s n 2 + q) big)
  let ffw := alignSat 24 (x 1).w (x 1).p q * up
  let lo := parV s n 4 * up
  let hi := parV s n 5 * up
  let now_ := pidCoefs s n
  if (x 3).w ≠ 0 then
    let y := clampI lo hi (alignSat 24 (x 2).w (x 2).p q * up)
    { y := some (y / up), st := { st with i := satI 48 (y - p - d - ffw), d := d, e := e, last := some now_ } }
  else if st.last ≠ none ∧ st.last ≠ some now_ then
    let prev := sigOf s (tileOutF (framesOf s) n) * up
    { y := some (clampI lo hi prev / up), st := { st with i := satI 48 (prev - p - d - ffw), d := d, e := e, last := some now_ } }
  else
    let u := p + st.i + ke + d + ffw
    let i := if (hi < u ∧ 0 < ke) ∨ (u < lo ∧ ke < 0) then st.i else st.i + ke
    let i := clampI lo hi i
    let y := alignTo (clampI lo hi (p + i + d + ffw)) big q
    { y := some y, st := { st with i := i, d := d, e := e, last := some now_ } }

/-- IIR2. -/
def tileIir (s : State) (n q : Nat) (x : Nat → TileIn) (st : TileSt) : TileOut :=
  let big := q + 16
  let t := fun (k : Nat) (v : Int) (p : Nat) => alignTo (parV s n k * v) (parP s n k + p) big
  let acc := satI 48 (t 0 (x 0).w (x 0).p + t 1 (st.hist.getD 0 0) (x 0).p + t 2 (st.hist.getD 1 0) (x 0).p
    - t 3 st.y q - t 4 st.y2 q)
  let y := satI 24 (alignTo acc big q)
  { y := some (alignTo acc big q), st := { st with hist := [(x 0).w, st.hist.getD 0 0], y := y, y2 := st.y } }

/-- LIM: clamp, then slew, on inputs aligned to fabric words (R252). -/
def tileLim (s : State) (n q : Nat) (x : Nat → TileIn) (st : TileSt) : TileOut :=
  let v := alignSat 24 (x 0).w (x 0).p q
  let lo := if (x 1).used then alignSat 24 (x 1).w (x 1).p q else parV s n 0
  let hi := if (x 2).used then alignSat 24 (x 2).w (x 2).p q else parV s n 1
  if hi < lo then { y := none, st := st }
  else
    let c := clampI lo hi v
    let sl : Int := (aF s (Reg.FAB_PARAM n 2) F.FAB_PARAM_VALUE : Nat)
    let y := if sl = 0 then c else clampI (st.y - sl) (st.y + sl) c
    { y := some y, st := { st with y := satI 24 y, pinBy := if y ≠ c then 3 else if c < v then 2 else if v < c then 1 else 0 }, pin := y != v }

/-- MINMAX over the used inputs. -/
def tileMinmax (s : State) (n q : Nat) (x : Nat → TileIn) (st : TileSt) : TileOut :=
  match ((List.range 4).filter (fun i => (x i).used)).map (fun i => alignTo (x i).w (x i).p q) with
  | [] => { y := none, st := st }
  | v :: vs => { y := some (if bitOf (parRaw s n 0) 0 then vs.foldl max v else vs.foldl min v), st := st }

/-- AVG over the samples of its input's lane since the tile's previous sample. -/
def tileAvg (s : State) (n q : Nat) (same : Bool) (x : Nat → TileIn) (st : TileSt) : TileOut :=
  let st' := { st with sum := 0, cnt := 0, mx := 0, mn := 0 }
  if same then { y := some (alignTo (x 0).w (x 0).p q), st := st' }
  else if st.cnt = 0 then { y := none, st := st' }
  else match parRaw s n 0 % 4 with
    | 0 => { y := some (if (x 0).p ≤ q then divHalfUp (st.sum * (2 ^ (q - (x 0).p) : Nat)) st.cnt
                        else divHalfUp st.sum (st.cnt * 2 ^ ((x 0).p - q))), st := st' }
    | 1 => { y := some (alignTo st.mx (x 0).p q), st := st' }
    | 2 => { y := some (alignTo st.mn (x 0).p q), st := st' }
    | _ => { y := none, st := st' }

/-- RECIP: c ÷ x0 (R259). -/
def tileRecip (s : State) (n q : Nat) (x : Nat → TileIn) (st : TileSt) : TileOut :=
  if (x 0).w ≤ 0 then { y := some (2 ^ 23 - 1 : Nat), st := st, sat := true }
  else
    let c := parV s n 0
    let up := q + (x 0).p
    let pc := parP s n 0
    { y := some (if pc ≤ up then divHalfUp (c * (2 ^ (up - pc) : Nat)) (x 0).w.toNat
                 else divHalfUp c ((x 0).w.toNat * 2 ^ (pc - up))), st := st }

/-- R258: CMP against its hysteresis; between the thresholds it keeps its previous output. -/
def tileCmp (s : State) (n : Nat) (x : Nat → TileIn) (st : TileSt) : TileOut :=
  let d := (x 0).w - alignSat 24 (x 1).w (x 1).p (x 0).p
  let h := parV s n 0
  { y := some (if h < d then 0x7FFFFF else if d < -h then 0 else sigOf s (tileOutF (framesOf s) n)), st := st }

/-- Table 5.2. -/
def tileEval (s : State) (n : Nat) : TileOut :=
  let f := framesOf s
  let st := tileOf s n
  let q := sigPointF f (tileOutF f n)
  let x := tileIn s n
  match tileKindF f n with
  | 1 =>
    let t := fun i => let c := parRaw s n 0 / 4 ^ i % 4
      let v := alignSat 32 (x i).w (x i).p q
      if c = 1 then v else if c = 3 then -v else 0
    { y := some (t 0 + t 1 + t 2 + t 3), st := st }
  | 2 => { y := some (alignTo (parV s n 0 * (x 0).w) (parP s n 0 + (x 0).p) q), st := st }
  | 3 => { y := some (alignTo ((x 0).w * (x 1).w) ((x 0).p + (x 1).p) q), st := st }
  | 4 => tilePid s n q x st
  | 5 => tileIir s n q x st
  | 6 => tileLim s n q x st
  | 7 => tileMinmax s n q x st
  | 8 => { y := some (if (x 2).w ≠ 0 then alignTo (x 1).w (x 1).p q else alignTo (x 0).w (x 0).p q), st := st }
  | 9 => tileCmp s n x st
  | 10 =>
    let k := parRaw s n 0 % 32
    { y := some (alignTo (((x 0).w :: st.hist).getD k 0) (x 0).p q), st := { st with hist := ((x 0).w :: st.hist).take 16 } }
  | 11 => tileRecip s n q x st
  | 12 => tileAvg s n q (bitOf (tileInF f n 0) 15 && sigLaneF f (tileInF f n 0 % 512) == tileLaneF f n) x st
  | _ => { y := some 0, st := st }

/-- R271: the freeze channel of a tile stops the update of its state. -/
def tileFrozen (s : State) (n : Nat) : Bool :=
  let c := tileFreezeF (framesOf s) n
  let r := railOf s c
  c < 8 && (r ≥ 8 || !switching s r || railLatched s r || (chOf s r).drip == .sleep || boosting s r)

/-- A count of a tile (R253, Table 5.12). -/
def tileCount (s : State) (n : Nat) (f : Fld) : State := bump s (Reg.FAB_TILE_CNT n) f

/-- Apply what a tile computed: saturate, drive its signal, keep its state unless frozen (the coefficients it
used are kept in any case), report saturation and pinning. -/
def tileApply (s : State) (n : Nat) (o : TileOut) : State :=
  let f := framesOf s
  let d : Int × State := match o.y with
    | some y => (y, s)
    | none => let d := drawInt s
              (satI 24 d.1, d.2)
  let y := satI 24 d.1
  let s := d.2
  let s := if y ≠ d.1 ∨ o.sat then
      tileCount (raise (raise s (Reg.FAB_SAT (n / 32)) ⟨n % 32, 1⟩) Reg.FAB_EVENT F.FAB_EVENT_SAT) n ⟨0, 16⟩ else s
  let pinF : Fld := ⟨n % 32, 1⟩
  let s := if tileKindF f n = 6 then
      let was := flag s (Reg.FAB_PIN (n / 32)) pinF
      let s := if o.pin ∧ !was then raise s Reg.FAB_EVENT F.FAB_EVENT_PIN_ENTER else s
      let s := if o.pin then tileCount s n ⟨16, 16⟩ else s
      setF s (Reg.FAB_PIN (n / 32)) pinF (b2n o.pin) else s
  let s := setTile s n (fun x => if tileFrozen s n then { x with last := o.st.last } else o.st)
  setSig s (tileOutF f n) y

/-! ## A sample of a lane -/

/-- The signals of a lane that a predicate on their driver code selects, with that code. -/
def laneSigs (f : Frames) (lane : Nat) (p : Nat → Bool) : List (Nat × Nat) :=
  (List.range 512).filterMap (fun i =>
    if sigPresentF f i && sigLaneF f i == lane && p (sigDriverF f i % 1024) then some (i, sigDriverF f i % 1024) else none)

/-- R262, R266: latch the sources of a lane and the constants. -/
def latchSources (s : State) (lane : Nat) : State :=
  let f := framesOf s
  let s := forEach (laneSigs f lane (fun c => c < 0x110)) s (fun s p => setSig s p.1 (srcOf s p.2))
  forEach (laneSigs f 3 (fun c => 0x110 ≤ c && c < 0x120)) s (fun s p =>
    setSig s p.1 (sext 24 (aF s (Reg.FAB_CONST (p.2 - 0x110)) F.FAB_CONST_VALUE)))

/-- R275, R282: receive slots at the start of a sample of their lane. -/
def latchSlots (s : State) (lane : Nat) : State :=
  let f := framesOf s
  if !xdevEnF f then s
  else
    let s := forEach ((List.range 32).filter (fun t => slotEnF f true t && slotLaneF f true t == lane)) s (fun s t =>
      setRx s t (fun x => match x.next with
        | some v => if s.fab.syncBad then { x with next := none, missing := min (x.missing + 1) 3, stale := true }
                    else { x with val := v, next := none, missing := 0, stale := false, fell := false }
        | none => { x with missing := min (x.missing + 1) 3, stale := true }))
    forEach (laneSigs f lane (fun c => 0x120 ≤ c && c < 0x140)) s (fun s p =>
      let t := p.2 - 0x120
      let x := rxOf s t
      setSig s p.1 (if x.fell && slotFallF f true t < 16 then sext 24 (aF s (Reg.FAB_CONST (slotFallF f true t)) F.FAB_CONST_VALUE) else x.val))

/-- AVG tiles of another lane take the samples of this lane. -/
def accumulate (s : State) (lane : Nat) : State :=
  let f := framesOf s
  forEach ((List.range 128).filter (fun n => tileKindF f n == 12 && tileLaneF f n != lane && bitOf (tileInF f n 0) 15
      && sigLaneF f (tileInF f n 0 % 512) == lane)) s (fun s n =>
    let v := sigOf s (tileInF f n 0 % 512)
    if tileFrozen s n then s
    else setTile s n (fun x => { x with sum := x.sum + v, cnt := x.cnt + 1,
                                        mx := if x.cnt = 0 then v else max x.mx v, mn := if x.cnt = 0 then v else min x.mn v }))

/-- R267: a sink latches the signal it is bound to, at the sink's point. -/
def latchSinks (s : State) (lane : Nat) : State :=
  let f := framesOf s
  let due := (List.range 112).filter (fun k => sinkBoundF f k && sigLaneF f (sinkSigF f k) == lane)
  let s := forEach due s (fun s k =>
    let v := satI 24 (alignTo (sigOf s (sinkSigF f k)) (sigPointF f (sinkSigF f k)) (sinkPoint f k))
    { s with fab := { s.fab with sink := tabSet 0 s.fab.sink k v } })
  let tx := (due.filter (fun k => 0x50 ≤ k)).map (fun k => k - 0x50)
  let tx := tx.filter (fun t => xdevEnF f && slotEnF f false t)
  { s with fab := { s.fab with txDue := s.fab.txDue.filter (fun t => !tx.contains t) ++ tx } }

def sinkOf (s : State) (k : Nat) : Int := tabGet 0 s.fab.sink k

/-- The tiles of one lane at one order or level, in ascending number. -/
def tilesAt (f : Frames) (lane ord : Nat) : List Nat :=
  (List.range (if lane = 0 then 32 else 128)).filter (fun n => tileKindF f n != 0 && tileLaneF f n == lane && tileOrderF f n == ord)

/-- R261: the tiles of one level compute together; the tiles of a slower lane one after another in ORDER. -/
def evalLane (s : State) (lane : Nat) : State :=
  forEach (List.range (if lane = 0 then 8 else 128)) s (fun s k =>
    let outs := (tilesAt (framesOf s) lane k).map (fun n => (n, tileEval s n))
    forEach outs s (fun s p => tileApply s p.1 p.2))

/-- One sample of a lane: sources, slots, tiles, AVG inputs and sinks. -/
def laneSample (s : State) (lane : Nat) : State :=
  let s := latchSlots (latchSources s lane) lane
  latchSinks (accumulate (evalLane s lane) lane) lane

/-! ## Clearing (R272, R281, R285, R286) -/

/-- A tile's state is cleared; a CMP outputs 0 (R258). -/
def clearTile (s : State) (n : Nat) : State :=
  let s := setTile s n (fun _ => {})
  if tileKindF (framesOf s) n = 9 then setSig s (tileOutF (framesOf s) n) 0 else s

/-- R285: an image is applied; the lanes start at the next fast sample. No LIM tile has pinned yet. -/
def fabStart (s : State) : State :=
  forEach (List.range 4) { s with fab := { run := true, src := s.fab.src } } (fun s w => wrN s (Reg.FAB_PIN w) 0)

/-! ## R287 -/

/-- The coefficient words of a kind. -/
def coefWords : Nat → List Nat
  | 2 => [0]
  | 4 => [0, 1, 2, 3]
  | 5 => [0, 1, 2, 3, 4]
  | 11 => [0]
  | _ => []

/-- R287: a parameter word of tile n is in range, with the other words of the snapshot given by `g`. -/
def okFabParam (f : Frames) (g : Nat → Word) (n k : Nat) : Bool :=
  let w := (g (Reg.FAB_PARAM n k)).toNat
  let v := sext 24 w
  let kind := tileKindF f n
  (!(coefWords kind).contains k || w / 2 ^ 24 % 32 ≤ 23)
  && (!(kind == 4 && k == 3) || (0 ≤ v && v < (2 ^ (w / 2 ^ 24 % 32) : Nat)))
  && (!(kind == 4 && k == 4) || v ≤ sext 24 (g (Reg.FAB_PARAM n 5)).toNat)
  && (!(kind == 4 && k == 5) || sext 24 (g (Reg.FAB_PARAM n 4)).toNat ≤ v)
  && (!(kind == 1 && k == 0) || (List.range 4).all (fun i => w / 4 ^ i % 4 != 2))
  && (!(kind == 12 && k == 0) || w % 4 != 3)
  && (!(kind == 10 && k == 0) || (1 ≤ w % 32 && w % 32 ≤ 16))

end Sys2Proof.Machine
end

