-- ==== Sys2Proof/Machine/Origin.lean ====
section
/-! DEFINITION. Dead-letter queues and the origination of C0 cells (R583, R584, R600–R602). -/

namespace Sys2Proof.Machine

/-- R600–R602, R825: one dead-letter entry. Lane 0–5 to queues 0–5, board lanes to queue 6, local origin (10) to queue 7. -/
def deadLetter (s : State) (reason cls lane typ src dest : Nat) : State :=
  let q := if lane < 6 then lane else if lane < 10 then 6 else 7
  let e : DlqEntry := { reason := reason, cls := cls, lane := if lane < 10 then lane else 0xF, typ := typ, src := src, dest := dest, at_ := now s }
  let d := dlqOf s q
  let s := raise s Reg.TVL_GEVENT F.TVL_GEVENT_DLQ
  let s := if cls ≠ 0 then sinkTake s (2 * cls + 1) else if reason = 8 ∨ reason = 9 then sinkTake s 1 else s
  if 16 ≤ d.items.length then setDlq s q (fun x => { x with lost := min (x.lost + 1) 65535 })
  else
    let s := setDlq s q (fun x => { x with items := x.items ++ [e] })
    let w0 := e.reason + 16 * e.cls + 64 * e.lane + 65536 * e.typ
    let w1 := e.src + 65536 * e.dest
    if d.items = [] then record s .control 0x0E 0x01 q 0 (w0 + 2 ^ 32 * w1) e.at_ else s

/-- R826: a boundary check fails: TOP_INTEG_LAST, and one entry for the boundary and unit in each 1 ms. -/
def boundaryFail (s : State) (code unit ident : Nat) : State :=
  let s := wrN s Reg.TOP_INTEG_LAST (code % 256 + unit % 256 * 256)
  let k := code * 65536 + unit
  let last := tabGet 0 s.recd.seen k
  if last = 0 ∨ last + 1000000 ≤ now s + 1 then
    let s := { s with recd := { s.recd with seen := tabSet 0 s.recd.seen k (now s + 1) } }
    record s .mgmt 0x12 0x01 (code % 256 + unit % 256 * 256) code ident 0
  else s

/-- The messages of the origin queue that have not started: a message starts at its time, and leaves the queue. -/
def originDepth (s : State) : Nat := (s.tvl.origin.filter (fun p => decide (now s < p.2))).length

/-- R810: a DMA write to host memory has read a source word with a double-bit error at an address; `unit` is the ring. -/
def dmaUe (s : State) (unit addr : Nat) : State :=
  record (boundaryFail (raise s Reg.TOP_INTEG_EVENT F.TOP_INTEG_EVENT_DMA_UE) 3 unit addr) .mgmt 0x11 0x03 unit 0 addr 0

/-- R584: a C0 message is queued for origination; while REPEAT is 1 each message goes out twice, 50 ns apart. -/
def originate (s : State) (c : Cell) : State :=
  if 16 ≤ originDepth s then
    raise (deadLetter s 9 0 10 (0xC0 + c.ctype) c.node 0) Reg.TVL_GEVENT F.TVL_GEVENT_ORIGIN_FULL
  else
    let gap := aF s Reg.TVL_GCFG F.TVL_GCFG_CELL_GAP * 10
    let at_ := match s.tvl.lastOrigin with
      | some t => max (now s) (t + gap)
      | none => now s
    { s with tvl := { s.tvl with origin := s.tvl.origin ++ [(c, at_)], lastOrigin := some at_ } }

/-- Table 12.5: a TRIP cell of SCOPE DOMAIN with its cause, from a node of a domain. -/
def originTrip (s : State) (cause : Nat) : State :=
  if inDomain s then originate s { ctype := 3, scope := 1, node := ownNode s, payload := cause % 16 } else s

end Sys2Proof.Machine
end

