-- ==== Sys2Proof/Machine/Sched.lean ====
section
/-! DEFINITION. The schedule of a rail's phases: the close of a phase's period, slots, the start of a period, and every assigned phase made
active (ch. 6, R292–R295, R332, R349). -/

namespace Sys2Proof.Machine

/-- R349: a period of a phase closes: HIGH without a peak termination resets its short count. -/
def closePeriod (x : PhSt) : PhSt :=
  { x with shortCnt := if x.drove && !x.peaked then 0 else x.shortCnt, drove := false, peaked := false, negLim := false }

/-- A phase leaves its schedule for MID. -/
def toMid (x : PhSt) : PhSt := { closePeriod x with level := .mid, due := false }

/-! ## The interleave schedule (R292–R295) -/

/-- The instant of a phase's slot edge in the present period, ps of the time base: round(k × PERIOD ÷ N) units after the period start. -/
def slotPs (s : State) (r p : Nat) : Nat :=
  let c := chOf s r
  c.perAt + roundDiv (c.sched.idxOf p * c.per) (max c.sched.length 1) * 160

/-- R294: phases have been added: the new schedule applies at once, and each phase turns on at its next slot edge under it. -/
def schedGrow (s : State) (r : Nat) : State :=
  let l := activePh s r
  if l = (chOf s r).sched then s
  else
    let s := setCh s r (fun x => { x with sched := l })
    forEach (railPhases s r) s (fun s p => setPh s p (fun x => { x with due := l.contains p && decide (now s * 1000 < slotPs s r p) }))

/-- A period of the rail's oscillator begins at an instant: its schedule, its PERIOD and the offsets that act in it (R293–R295, R465).
A phase that is no longer active goes to MID, once an on-time in progress has ended (R294, R300). -/
def newPeriod (s : State) (r at_ : Nat) : State :=
  let l := activePh s r
  let s := setCh s r (fun x => { x with sched := l, per := aF s (Reg.CH_FSW r) F.CH_FSW_PERIOD, perAt := at_ })
  forEach (railPhases s r) s (fun s p =>
    let i := sext 16 (fld s (Reg.PH_OFF p) F.PH_OFF_OFFSET)
    setPh s p (fun x => if x.active || x.crowbar then { x with off := i, due := x.active }
      else if x.level = .high then { x with off := i, due := false } else { toMid x with off := i }))

/-- Every assigned phase of the rail becomes active, those of a widened rail's members included. -/
def allActive (s : State) (r : Nat) : State :=
  let s := forEach (assigned s r) s (fun s p => setPh s p (fun x => { x with active := true, cal := false }))
  let s := if wideRole s r = 1 then setCh s r (fun x => { x with memberAct := x.memberAct.map (fun p => (p.1, memberPh s r p.1)) }) else s
  schedGrow s r

/-- The shed count of R306 starts again. -/
def restartShed (s : State) (r : Nat) : State := setCh s r (fun x => { x with shedCnt := 0 })

end Sys2Proof.Machine
end

