-- ==== Sys2Proof/Machine/PbOps.lean ====
section
/-! DEFINITION. The BX1200's side of the Postline: sending messages, configuration of the port cells, arming, fallback and
the end of a boost (ch. 8). -/

namespace Sys2Proof.Machine

/-- Up lane 0, up lane 1 and the down lane in `PlMsg.lane`. -/
abbrev laneDown : Nat := 2

def dieUp (s : State) (d : Nat) : Bool := (dieOf s d).link == .up

/-- Send a down message to a die whose Postline is up (Table 8.5). -/
def plSend (s : State) (d typ addr data : Nat) : State :=
  if dieUp s d then
    let m : PlMsg := { die := d, lane := laneDown, typ := typ, addr := addr, data := data % 2 ^ 40, seq := (dieOf s d).txSeq }
    let s := setDie s d (fun x => { x with txSeq := (x.txSeq + 1) % 64 })
    { s with pb := { s.pb with wire := s.pb.wire ++ [m] } }
  else s

/-- A received message leaves the wire: the first that a condition names. -/
def wireDrop (s : State) (f : PlMsg → Bool) : State := { s with pb := { s.pb with wire := s.pb.wire.eraseP f } }

/-- The first message of a die, lane, type and address leaves the wire. -/
def wireTake (s : State) (d lane typ addr : Nat) : State :=
  wireDrop s (fun m => m.die == d && m.lane == lane && m.typ == typ && m.addr == addr)

/-- R423: a CFG (or frank) is sent and awaits its CFG_ACK; a later value of the same register replaces an earlier one. -/
def cfgSend (s : State) (d index addr value : Nat) : State :=
  if dieUp s d then
    let s := setDie s d (fun x => { x with cfgs :=
      (if index < 0x80 then x.cfgs.filter (fun c => !(c.index == index && c.addr == addr)) else x.cfgs)
        ++ [{ index := index, addr := addr, value := value % 2 ^ 24 }] })
    plSend s d 4 addr (index * 2 ^ 32 + value % 2 ^ 24 * 2 ^ 8)
  else s

/-- The CFG SITE value of a site (Table 8.12). -/
def cfgSite (s : State) (d n : Nat) : Nat :=
  let t := ac s (Reg.PB_THR d n)
  fldOf t F.PB_THR_THR + 2 ^ 8 * fldOf t F.PB_THR_DIS + 2 ^ 9 * fldOf t F.PB_THR_CPM + 2 ^ 13 * b2n (siteHere s d n)
    + 2 ^ 14 * sitePartF (framesOf s) d n

def sitesOf (s : State) (d : Nat) : List Nat := (List.range 64).filter (siteHere s d)

/-- PROT_THERM.CRIT, 1/16 °C. -/
def critLevel (s : State) : Nat := aF s Reg.PROT_THERM F.PROT_THERM_CRIT

/-- R435: CFG TRIP with PROT_THERM.CRIT, by broadcast. -/
def cfgTrip (s : State) (d : Nat) : State := cfgSend s d 4 0x3F (critLevel s)

/-- R419: every CFG of Table 8.12 for each present site and partition of a die; the trip level in DECAF is CRIT_MAX (R435). -/
def cfgAll (s : State) (d : Nat) : State :=
  let f := framesOf s
  let s := forEach (sitesOf s d) s (fun s n => cfgSend s d 1 n (cfgSite s d n))
  let c := ac s (Reg.PB_DIE_CFG d)
  let s := if dieHere s d then
      let s := cfgSend s d 2 0x3F (c.toNat % 2 ^ 12)
      let s := cfgSend s d 3 0x3F (c.toNat / 2 ^ 12 % 2 ^ 16)
      let s := cfgSend s d 6 0x3F (dieSiteDlyF f d)
      forEach (dieParts s d) s (fun s p => cfgSend s d 5 p (partDivF f p + 2 ^ 5))
    else s
  if s.top.state = .decaf then cfgSend s d 4 0x3F (fld s Reg.PROT_FUSE F.PROT_FUSE_CRIT_MAX) else cfgTrip s d

/-- CFG_SYNC. -/
def cfgSync (s : State) (d : Nat) : Bool := (dieOf s d).cfgs == []

/-- R405: arm or disarm the detectors of a die. -/
def armDie (s : State) (d : Nat) (on : Bool) : State :=
  let s := setDie s d (fun x => { x with armed := on })
  plSend s d 5 0x3F (b2n on * 2 ^ 39)

/-- Send FREQ to a partition (Table 8.6); it awaits its FACK. -/
def freqSend (s : State) (p n : Nat) : State :=
  if dieUp s (partDie s p) then
    let s := setPart s p (fun x => { x with sent := some n, sentAt := now s, tries := 0 })
    plSend s (partDie s p) 1 p (n * 2 ^ 29)
  else s

/-- Send a ballast level. -/
def balSend (s : State) (p level : Nat) : State :=
  let s := setBal s p (fun x => { x with level := level })
  plSend s (partDie s p) 2 p (level * 2 ^ 32)

/-- The droop flag of a rail: the wires of its dies, but for those stuck (R445). -/
def droopFlag (s : State) (r : Nat) : Bool := (railDies s r).any (fun d => (dieOf s d).droop && !(dieOf s d).stuck)

/-- A rail is frozen (R431, R668). -/
def railFrozen (s : State) (r : Nat) : Bool := (boostOf s r).frozen || (boostOf s r).memberFrz

/-- R414: BOOST blocks become due on the board lanes to the members that are up: kind 1 start, 2 end. -/
def boostBlocks (s : State) (r kind : Nat) : State :=
  forEach (((memberPos s r).map (· + 6)).filter (fun l => (laneOf s l).state == .up && !s.tvl.wideDown.contains l)) s (fun s l =>
    setLane s l (fun x => { x with boostDue := x.boostDue ++ [kind + 4 * r] }))

/-- The end of a boost (R332, R349, R412–R414): phases LOW until their next slot edge, one period of each closes, every assigned phase is
active and the shed count starts again; the gap runs; SETTLE runs once no flag stands; a master tells its members. -/
def boostStop (s : State) (r : Nat) : State :=
  match (boostOf s r).boost with
  | none => s
  | some t =>
    let gap := aF s (Reg.PB_BOOST r) F.PB_BOOST_BOOST_GAP * 100
    let s := forEach (assigned s r) s (fun s p => setPh s p (fun x =>
      if x.crowbar || x.level = .mid then x else { closePeriod x with level := .low }))
    let s := setBoost s r (fun x => { x with boost := none, gapUntil := some (now s + gap), lastLen := now s - t,
                                             settleFrom := if droopFlag s r then x.settleFrom else some (now s) })
    let s := if wideRole s r = 1 then boostBlocks s r 2 else s
    restartShed (allActive s r) r

/-- R443: N of a die in fallback, as the limit of its partitions. -/
def dieFallen (s : State) (d : Nat) : Bool := (dieOf s d).safe || (dieOf s d).liveFault

/-- The current N of a partition: the last value that FACK confirmed; before any, 128, at which R448 holds the divider. -/
def curN (s : State) (p : Nat) : Nat := if (partOf s p).nCur = 0 then 128 else (partOf s p).nCur

/-- SAFE_N of a partition. -/
def safeN (s : State) (p : Nat) : Nat := aF s (Reg.PB_PART_CFG p) F.PB_PART_CFG_SAFE_N

end Sys2Proof.Machine
end

