-- ==== Sys2Proof/Machine/Acct.lean ====
section
/-! DEFINITION. Throttle accounting of a partition: reasons, durations, lost cycles and the waits of upward steps (R505–R511,
R432, R493). -/

namespace Sys2Proof.Machine

/-- The least common multiple of 1 to 64: a partition has 1 to 64 sites, and dividing by their number stays exact. -/
abbrev siteLcm : Nat := (List.range 64).foldl (fun l n => Nat.lcm l (n + 1)) 1

/-- Units of a duration remainder in a nanosecond: 1/16 ns over any number of sites. -/
abbrev durUnit : Nat := 16 * siteLcm

/-- Units of the fraction of a cycle that stretch counts: 1/16 ns × N ÷ 1,024 × MHz over any number of sites. -/
abbrev strUnit : Nat := 16 * 1000 * 1024 * siteLcm

/-- R505: the partition is present and its rail is in REG. -/
def acctOn (s : State) (p : Nat) : Bool := partHere s p && railState s (partRail s p) == .reg

/-- Events of a reason (R506). -/
def reasonCount (s : State) (p r n : Nat) : State := if acctOn s p then bumpBy s (Reg.CAP_RCNT p r) wordF n else s

/-- Duration of a reason, in `durUnit` (R507, R508): whole microseconds are shown, the remainder is carried. -/
def reasonTime (s : State) (p r units : Nat) : State :=
  if acctOn s p then
    let t := tabGet 0 (capOf s p).rem r + units
    let s := setCap s p (fun x => { x with rem := tabSet 0 x.rem r (t % (1000 * durUnit)) })
    bump48 s (Reg.CAP_RDUR_LO p r) (t / (1000 * durUnit))
  else s

/-- A 64-bit count of whole cycles saturates (R511). -/
def bump64 (s : State) (lo n : Nat) : State := wr64 s lo (min (rd64 s lo + n) (2 ^ 64 - 1))

/-- R509: throttle lost cycles, in 1/1,024 cycle. -/
def lostThr (s : State) (p n : Nat) : State :=
  let t := (capOf s p).thrRem + n
  bump64 (setCap s p (fun x => { x with thrRem := t % 1024 })) (Reg.CAP_LOST_THR_LO p) (t / 1024)

/-- R510: stretch lost cycles, in `strUnit`. -/
def lostStr (s : State) (p n : Nat) : State :=
  let t := (capOf s p).strRem + n
  bump64 (setCap s p (fun x => { x with strRem := t % strUnit })) (Reg.CAP_LOST_STR_LO p) (t / strUnit)

/-- A waiting time of `dt` ns at 1.25 ns resolution, in `durUnit` (R507). -/
def waitUnits (dt : Nat) : Nat := dt * 4 / 5 * 20 * siteLcm

/-- A core named in HOLD_CORES is under single-core restart (R493). -/
def coreHold (s : State) (p : Nat) : Bool :=
  (maskBits 8 (partHoldF (framesOf s) p)).any (fun k => (coreOf s k).state == .restart)

/-- R666: a HOLD is in force for the partition's lock group. -/
def groupHeld (s : State) (p : Nat) : Bool := decide (now s < tabGet 0 s.dom.holds (partGroupF (framesOf s) p))

/-- Upward steps of the partition are held by a freeze (R431, R668) or a HOLD (R666). -/
def partHeld (s : State) (p : Nat) : Bool := railFrozen s (partRail s p) || groupHeld s p

/-- An upward step waits for the end of a freeze or HOLD (R432). -/
def upHeld (s : State) (p : Nat) : Bool :=
  acctOn s p && partHeld s p && decide (curN s p < (partOf s p).nTgt)

/-- An upward step waits for a core (R493). -/
def upCore (s : State) (p : Nat) : Bool := acctOn s p && coreHold s p && decide (curN s p < (partOf s p).nTgt)

/-- A freeze of the rail holds an upward step, once in each freeze (R418), also one that a HOLD already held. -/
def freezeHeld (s : State) (p : Nat) : State :=
  if upHeld s p && railFrozen s (partRail s p) && !(partOf s p).upWait then
    let s := setPart s p (fun x => { x with upWait := true })
    let s := setBoost s (partRail s p) (fun x => { x with deferred := x.deferred + 1 })
    bump s (Reg.PB_FRZ_CNT p) F.PB_FRZ_CNT_HELD
  else s

/-- TRANSIENT_HOLD of one partition up to now; a step that begins to wait is counted once. -/
def holdFreeze (s : State) (p : Nat) : State :=
  let s := freezeHeld s p
  match (capOf s p).frzFrom, upHeld s p with
  | some t, held =>
    let q := if held then (now s - t) / 5 * 5 else now s - t
    let s := reasonTime s p 5 (waitUnits q)
    setCap s p (fun x => { x with frzFrom := if held then some (t + q) else none })
  | none, true => reasonCount (setCap s p (fun x => { x with frzFrom := some (now s) })) p 5 1
  | none, false => s

/-- CORE_RESTART_HOLD of one partition up to now. -/
def holdCore (s : State) (p : Nat) : State :=
  match (capOf s p).coreFrom, upCore s p with
  | some t, held =>
    let q := if held then (now s - t) / 5 * 5 else now s - t
    let s := reasonTime s p 12 (waitUnits q)
    setCap s p (fun x => { x with coreFrom := if held then some (t + q) else none })
  | none, true => reasonCount (setCap s p (fun x => { x with coreFrom := some (now s) })) p 12 1
  | none, false => s

def holdUpdate (s : State) (p : Nat) : State := holdCore (holdFreeze s p) p

def holdRail (s : State) (r : Nat) : State := forEach (railParts s r) s holdUpdate

end Sys2Proof.Machine
end

