-- ==== Sys2Proof/Machine/FqOps.lean ====
section
/-! DEFINITION. Admission queues (ch. 11): answering intents with franks, cancelling, arming, fixed-rate mode and the
release of ballast. -/

namespace Sys2Proof.Machine

def heavyClass (s : State) (k : Nat) : Bool := aOn s (Reg.FQ_CLASS k) F.FQ_CLASS_HEAVY
def queueEn (s : State) (q : Nat) : Bool :=
  structured s && queueHereF (framesOf s) q && aOn s (Reg.FQ_QCFG q) F.FQ_QCFG_EN
def queueDie (s : State) (q : Nat) : Nat := queueDieF (framesOf s) q
def queues (s : State) : List Nat := (List.range 64).filter (fun q => structured s && queueHereF (framesOf s) q)

/-- A frank goes out with the queue's next FSEQ (Table 11.3, R529). -/
def frankSend (s : State) (d q tag kind : Nat) : State :=
  let fs := (queueOf s q).fseq
  let s := setQueue s q (fun x => { x with fseq := (fs + 1) % 16 })
  cfgSend s d (0x80 + q) 0x3F (tag % 4096 * 2 ^ 12 + fs * 2 ^ 8 + kind * 2 ^ 6)

/-- An intent is answered with a frank of KIND CANCEL. -/
def frankCancel (s : State) (d q tag : Nat) : State :=
  let s := frankSend s d q tag 2
  let s := raise (bump s Reg.FQ_CNT2 F.FQ_CNT2_CANCELLED) Reg.FQ_EVENT F.FQ_EVENT_CANCEL
  sinkTake s 4

/-- A forced intent that leaves without a launch takes its franking ceiling along: the last open one of its queue and partition. -/
def ceilDrop (s : State) (q p : Nat) : State :=
  { s with fq := { s.fq with ceils := (s.fq.ceils.reverse.eraseP (fun c => c.part == p && c.queue == q && c.until_ == none)).reverse } }

/-- Keep the intents of a queue that a predicate selects and cancel the others; a head that leaves is no longer armed. -/
def queueKeep (s : State) (q : Nat) (keep : Intent → Bool) : State :=
  let old := (queueOf s q).items
  let s := forEach (old.filter (fun i => !keep i)) s (fun s i =>
    let s := if i.forced then ceilDrop s q i.part else s
    frankCancel s (queueDie s q) q i.tag)
  let new := old.filter keep
  let s := setQueue s q (fun x => { x with items := new })
  if new.head? = old.head? then s else { s with fq := { s.fq with armed := s.fq.armed.filter (fun a => a != q) } }

/-- R528: light intents at the head of a queue are answered at once while their partition's rail is in REG. -/
def lightDrain (s : State) (q : Nat) : State :=
  forEach (List.range 32) s (fun s _ =>
    match (queueOf s q).items with
    | i :: t =>
      if !heavyClass s i.cls && railState s (partRail s i.part) == .reg && !i.forced then
        let s := frankSend s (queueDie s q) q i.tag 0
        bump (setQueue s q (fun x => { x with items := t })) Reg.FQ_CNT F.FQ_CNT_LIGHT
      else s
    | [] => s)

/-- R549: a rail leaves REG. -/
def fqLeaveReg (s : State) (r : Nat) : State :=
  forEach (queues s) s (fun s q => lightDrain (queueKeep s q (fun i => partRail s i.part != r)) q)

/-- R550: the queued intents of a die's queues are discarded without franks. -/
def fqFallback (s : State) (d : Nat) : State :=
  forEach ((queues s).filter (fun q => queueDie s q == d)) s (fun s q =>
    let n := (queueOf s q).items.length
    let s := bumpBy s Reg.FQ_CNT2 F.FQ_CNT2_CANCELLED n
    let s := setQueue s q (fun x => { x with items := [] })
    { s with fq := { s.fq with armed := s.fq.armed.filter (fun a => a != q), ceils := s.fq.ceils.filter (fun c => !(c.queue == q && c.until_ == none)) } })

/-- R546: entry to fixed-rate mode. -/
def fixedEnter (s : State) : State :=
  if s.fq.fixed then s else raise { s with fq := { s.fq with fixed := true } } Reg.FQ_EVENT F.FQ_EVENT_FIXED_ENTER

/-- R368: a warning releases the ballast. -/
def ballastRelease (s : State) : State :=
  let s := forEach ((parts s).filter (fun p => (balOf s p).level != 0)) s (fun s p => balSend s p 0)
  raise { s with fq := { s.fq with released := true, q8 := 0 } } Reg.BAL_EVENT F.BAL_EVENT_RELEASE_WARN

/-- The ramp rates of a direction, 1/8 W/ms, 0 where it has no limit (R536). -/
def rampRate (s : State) (up : Bool) : Nat :=
  let loc := aF s Reg.FQ_RAMP (if up then F.FQ_RAMP_RAMP_UP else F.FQ_RAMP_RAMP_DN)
  let dom := if inDomain s then fldOf (actNode s (ownNode s) 1) ⟨0, 16⟩ else 0
  if dom = 0 then loc else if loc = 0 then dom else min loc dom

/-! ## Warnings and their actions -/

def warnBit : Supply → Fld
  | .vin => F.LAD_STATUS_VIN_WARN
  | .vaux => F.LAD_STATUS_VAUX_WARN

def shedEn (s : State) : Supply → Bool
  | .vin => aOn s Reg.LAD_ACT F.LAD_ACT_VIN_SHED
  | .vaux => aOn s Reg.LAD_ACT F.LAD_ACT_VAUX_SHED

def balRelEn (s : State) : Supply → Bool
  | .vin => aOn s Reg.LAD_ACT F.LAD_ACT_VIN_BAL_REL
  | .vaux => aOn s Reg.LAD_ACT F.LAD_ACT_VAUX_BAL_REL

/-- R367: a warning's shed action is in force (the ceiling of every partition follows SHED_LEVEL). -/
def shedOn (s : State) : Bool :=
  (flag s Reg.LAD_STATUS (warnBit .vin) && shedEn s .vin) || (flag s Reg.LAD_STATUS (warnBit .vaux) && shedEn s .vaux)

/-- R368: a warning's ballast release is in force. -/
def releaseOn (s : State) : Bool :=
  (flag s Reg.LAD_STATUS (warnBit .vin) && balRelEn s .vin) || (flag s Reg.LAD_STATUS (warnBit .vaux) && balRelEn s .vaux)

/-! ## Grants in progress -/

/-- R535: a frank lies between its grant and PRE_HOLD after its launch. -/
def inPreWindow (s : State) (k : FrankSt) : Bool :=
  heavyClass s k.cls && (!k.launched || decide (now s ≤ k.launch + aF s Reg.FQ_PRE F.FQ_PRE_PRE_HOLD * 1000))

/-- The goal of V_pre of a rail, 5 nV: the largest PRE of the classes in their windows. -/
def preGoal (s : State) (r : Nat) : Int :=
  (s.fq.franks.filter (fun k => inPreWindow s k && partRail s k.part == r)).foldl
    (fun m k => max m ((aF s (Reg.FQ_CLASS k.cls) F.FQ_CLASS_PRE * 50000 : Nat) : Int)) 0

/-- R535: V_pre moves back toward 0 outside every window. -/
def withdrawing (s : State) (r : Nat) : Bool :=
  tabGet 0 s.fq.vpre r != 0 && !(s.fq.franks.any (fun k => inPreWindow s k && partRail s k.part == r))

/-- A frank's power counts from its grant until 1 µs after its launch (R538). -/
def inPend (s : State) (k : FrankSt) : Bool := !k.launched || decide (now s ≤ k.launch + 1000)

def rPend (s : State) : Nat := ((s.fq.franks.filter (inPend s)).map (fun k => k.net)).sum
def qRes (s : State) : Nat := ((s.fq.franks.filter (inPend s)).map (fun k => k.res)).sum

/-- R539: P ≥ C, where an up-ramp limit is set. -/
def rampHold (s : State) : Bool := rampRate s true != 0 && decide (s.fq.ceilC ≤ (s.fq.power * 1000 : Nat))

/-- The band r × RWIN, 1/8,000 W. -/
def rampBand (s : State) (up : Bool) : Int := (rampRate s up * aF s Reg.FQ_RAMP2 F.FQ_RAMP2_RWIN : Nat)

/-- R557: the warning actions are lifted: Q is 0 and D restarts. -/
def ballastResume (s : State) : State :=
  { s with fq := { s.fq with released := false, q8 := 0, floorD := (s.fq.power * 1000 : Nat) - rampBand s false } }

/-- The instantaneous power of a rail, 1/256 mW. -/
def railPow (s : State) (r : Nat) : Int := railI s r * sense s r

/-! ## Fixed-rate mode -/

/-- A core holds the scheduler role: in assigned mode, a core whose ROLE is 2 (frame 0x08). -/
def schedRestart (s : State) : Bool :=
  (List.range 8).any (fun n => fr s 0x08 (0x11 + 16 * n) 1 == 2 && (coreOf s n).state == .restart)

/-- R546: no heartbeat for SCHED_TO. -/
def hbLate (s : State) : Bool :=
  match s.fq.lastHb with
  | none => true
  | some t => decide (t + aF s Reg.FQ_SCHED F.FQ_SCHED_SCHED_TO * 1000 ≤ now s)

/-- FRINT_q, ns (R547). -/
def frint (s : State) (q : Nat) : Nat :=
  let lo := aF s Reg.FQ_SCHED F.FQ_SCHED_FR_MIN * 100
  let hi := aF s Reg.FQ_SCHED F.FQ_SCHED_FR_MAX * 10000
  let x := queueOf s q
  if x.intervals.length < 7 then hi else min (max (x.intervals.sum / x.intervals.length) lo) hi

/-- R568: the queues and the ballast when an image is applied. -/
def fqApply (s : State) : State :=
  let s := forEach (List.range 64) s (fun s q => setQueue s q (fun x => { fseq := x.fseq }))
  let s := { s with fq := { s.fq with armed := [], fixed := true, hbSeen := false, lastHb := none, franks := [], ceils := [], q8 := 0, hints := [],
                                      spacing := aF s Reg.FQ_STAG2 F.FQ_STAG2_S_MIN, quiet := 0, pinS := false, stepGrants := [] } }
  { s with fq := { s.fq with ceilC := (s.fq.power * 1000 : Nat) + rampBand s true, floorD := (s.fq.power * 1000 : Nat) - rampBand s false } }

end Sys2Proof.Machine
end

