-- ==== Sys2Proof/Machine/CapOps.lean ====
section
/-! DEFINITION. Power capping (ch. 10): partition current and power, the terms and the divider target, voltage before frequency,
the loops, the pinned envelope instances, and the ballast levels that follow from them. -/

namespace Sys2Proof.Machine

/-! ## Partition current and power (R490) -/

/-- N × CEFF of a partition. -/
def capWeight (s : State) (p : Nat) : Nat := curN s p * partCeffF (framesOf s) p

/-- Σ of N × CEFF over the present partitions of a rail. -/
def capWeights (s : State) (r : Nat) : Nat := ((railParts s r).map (capWeight s)).sum

/-- I_p, A at point 8. -/
def partI (s : State) (p : Nat) : Int :=
  let r := partRail s p
  railI s r * 16 * capWeight s p / (max (capWeights s r) 1 : Nat)

/-- P_p, 1/256 mW. -/
def partP (s : State) (p : Nat) : Int :=
  let r := partRail s p
  railPow s r * capWeight s p / (max (capWeights s r) 1 : Nat)

/-! ## Terms of the target (Table 10.4, R491) -/

/-- The CAP request of a partition: CAP_REQ_p.N, or the lower of it and PART_FREQREQ_p where that sink is bound. -/
def capReq (s : State) (p : Nat) : Nat :=
  let n := aF s (Reg.CAP_REQ p) F.CAP_REQ_N
  if sinkBoundF (framesOf s) (0x30 + p) then min n (clampI 0 1024 (sinkOf s (0x30 + p) / 4096)).toNat else n

/-- R65 floors are in force. -/
def floorsOn (s : State) : Bool := s.bt.floors

def capLocked (s : State) (p : Nat) : Bool := partGroupF (framesOf s) p != 0xFF

/-- The group terms of a partition: value and reason. -/
def groupTerms (s : State) (p : Nat) : List (Nat × Nat) :=
  [(aF s (Reg.CAP_MAN p) F.CAP_MAN_N, 15), (aF s (Reg.CAP_ENV p) F.CAP_ENV_FMAX, 10), ((capOf s p).nPow, (capOf s p).powTerm), ((capOf s p).nTh, 2)]

/-- The group ceiling (R500, R501). -/
def gceilTerm (s : State) (p : Nat) : Nat × Nat :=
  (aF s (Reg.CAP_GCEIL p) F.CAP_GCEIL_N,
   if aOn s (Reg.CAP_GCEIL p) F.CAP_GCEIL_OWN then aF s (Reg.CAP_GCEIL p) F.CAP_GCEIL_REASON else 9)

/-- The budget ceiling of the active bank (Table 1.9). -/
def fceilTerms (s : State) (p : Nat) : List (Nat × Nat) :=
  let w := actLocal s p 1
  let v := fldOf w ⟨0, 11⟩
  let fl := (if fldOf w ⟨16, 1⟩ = 1 then [(v, 13)] else []) ++ (if fldOf w ⟨17, 1⟩ = 1 then [(v, 14)] else [])
  if fl = [] then [(v, 3)] else fl

/-- The floor hold: FMIN under R89 and Table 4.9, SAFE_N under R443. -/
def floorTerms (s : State) (p : Nat) : List (Nat × Nat) :=
  (if s.top.ueParts.contains p then [(aF s (Reg.CAP_ENV p) F.CAP_ENV_FMIN, 10)] else [])
    ++ (if dieFallen s (partDie s p) then [(safeN s p, 10)] else [])

/-- The local terms of a partition. -/
def localTerms (s : State) (p : Nat) : List (Nat × Nat) :=
  fceilTerms s p
    ++ (if (capOf s p).guard then [(safeN s p, 2)] else [])
    ++ (if shedOn s then [(aF s Reg.LAD_ACT F.LAD_ACT_SHED_LEVEL * 4, 7)] else [])
    ++ floorTerms s p
    ++ (if s.fq.ceils.any (fun c => c.part == p) then [(aF s (Reg.FQ_PCFG p) F.FQ_PCFG_FORCE_N, 6)] else [])
    ++ (if rampHold s then [(curN s p, 8)] else [])

/-- Every term but the request. -/
def capTerms (s : State) (p : Nat) : List (Nat × Nat) :=
  (if capLocked s p then
     if floorsOn s then [gceilTerm s p, ((capOf s p).nPow, (capOf s p).powTerm)] else [gceilTerm s p]
   else groupTerms s p) ++ localTerms s p

def minNat (d : Nat) (l : List Nat) : Nat := l.foldl min d

/-- The lowest of the request and the terms; an absent term counts as 1,024. -/
def capCeil (s : State) (p : Nat) : Nat := minNat (min (capReq s p) 1024) ((capTerms s p).map (fun t => t.1))

/-- R339: remaining and original phases of a widened rail that has lost a member. -/
def wideRatio (s : State) (r : Nat) : Nat × Nat :=
  if wideRole s r = 1 ∧ (chOf s r).wideLoss then
    ((railPhases s r).length + ((memberPos s r).map (memberPh s r)).sum, max (chOf s r).origPh 1)
  else (1, 1)

/-- The clock duties, as fractions: PART_CLKDUTY_p, OL_DUTY under R351 and the ratio of R339. -/
def capDuties (s : State) (p : Nat) : List (Nat × Nat) :=
  let r := partRail s p
  (if sinkBoundF (framesOf s) (0x10 + p) then [((clampI 0 (2 ^ 22 : Nat) (sinkOf s (0x10 + p))).toNat, 2 ^ 22)] else [])
    ++ (if (chOf s r).olRun then [(aF s (Reg.PROT_OL2 r) F.PROT_OL2_OL_DUTY, 256)] else [])
    ++ [wideRatio s r]

/-- floor(x × the lowest duty). -/
def dutyOf (s : State) (p x : Nat) : Nat := minNat x ((capDuties s p).map (fun d => x * d.1 / d.2))

/-- The duty binds when it is below 1.0 (R492). -/
def dutyBinds (s : State) (p : Nat) : Bool := (capDuties s p).any (fun d => decide (d.1 < d.2))

/-- The divider target (R491). -/
def capTarget (s : State) (p : Nat) : Nat := max 1 (dutyOf s p (capCeil s p))

/-- The reasons that bind, as a mask (R492). -/
def capBind (s : State) (p : Nat) : Nat :=
  let c := capCeil s p
  let l := if c < capReq s p then ((capTerms s p).filter (fun t => t.1 == c)).map (fun t => t.2) else []
  toMask (if dutyBinds s p then 0 :: l else l)

/-- R500: the proposal of a partition in a lock group: the lowest of the group terms, the budget ceiling and the thermal guard,
with the reason of the term that sets it; of equal terms, the first in the order of Table 10.4. -/
def capProp (s : State) (p : Nat) : Nat × Nat :=
  let l := groupTerms s p ++ fceilTerms s p ++ (if (capOf s p).guard then [(safeN s p, 2)] else [])
  l.foldl (fun a t => if t.1 < a.1 then t else a) (aF s (Reg.CAP_MAN p) F.CAP_MAN_N, 15)

/-! ## The thermal guard (R498) -/

/-- A site's temperature as last reported. -/
def siteTemp (s : State) (d n : Nat) : Int := sext 16 (fld s (Reg.PB_SITE d n) F.PB_SITE_TEMP)

/-- The thermal guard level of a partition, 1/16 °C. -/
def guardLevel (s : State) (p : Nat) : Int :=
  (aF s Reg.PROT_THERM F.PROT_THERM_CRIT : Int) - (aF s (Reg.CAP_THM_CFG p) F.CAP_THM_CFG_TGUARD * 16 : Nat)

/-- Every site of the partition has last reported at or below the guard's release level, 5 °C below it. -/
def partCool (s : State) (p : Nat) : Bool :=
  (partSitesF (framesOf s) p).all (fun i => decide (siteTemp s (i / 64) (i % 64) ≤ guardLevel s p - 80))

/-! ## Ballast (R553–R556) -/

/-- THERMAL bound the partition at its last evaluation. -/
def thermBinds (s : State) (p : Nat) : Bool := bitOf (fld s (Reg.CAP_BIND p) F.CAP_BIND_BIND) 2

/-- A heavy frank of the partition was launched within the last max(DUR, 10 µs). -/
def balBusy (s : State) (p : Nat) : Bool :=
  match (balOf s p).lastLaunch with
  | some t => decide (now s < t + (balOf s p).busyFor)
  | none => false

def balPmax (s : State) (p : Nat) : Nat := aF s (Reg.BAL_CFG p) F.BAL_CFG_PMAX

/-- A partition is eligible for ballast. -/
def balElig (s : State) (p : Nat) : Bool :=
  partHere s p && balPmax s p != 0 && railState s (partRail s p) == .reg && !thermBinds s p && !dieFallen s (partDie s p) && !balBusy s p

/-- R554: the effective ceiling. -/
def balCeil (s : State) (p : Nat) : Nat :=
  let c := min (aF s (Reg.BAL_ENV p) F.BAL_ENV_CEIL) (fldOf (actLocal s p 2) ⟨0, 8⟩)
  if inDomain s then min c (fldOf (actNode s (ownNode s) 1) ⟨16, 8⟩) else c

/-- The power of a level, 1/8 W. -/
def balPow (s : State) (p level : Nat) : Nat := level * balPmax s p / 255

/-- R555, R556: a partition's level goes to 0 and its power leaves Q. -/
def balZero (s : State) (p : Nat) : State :=
  if (balOf s p).level = 0 then s
  else
    let w := balPow s p (balOf s p).level
    balSend { s with fq := { s.fq with q8 := s.fq.q8 - w } } p 0

/-- R553: the loop is on. -/
def balLoopOn (s : State) : Bool := rampRate s false != 0 && !s.fq.released

/-! ## Frequency steps -/

/-- R427: a target below the current N is sent at once. -/
def stepDown (s : State) (p : Nat) : State :=
  if acctOn s p ∧ (partOf s p).nTgt < curN s p ∧ (partOf s p).sent ≠ some (partOf s p).nTgt then freqSend s p (partOf s p).nTgt else s

/-- R429, R495: a downward step of a partition on the rail awaits its FACK: its FREQ has been sent, or its target lies below the current N
and the FREQ is still to be sent, or sent again. -/
def downPending (s : State) (r : Nat) : Bool :=
  (railParts s r).any (fun p => dieUp s (partDie s p) && acctOn s p
    && ((partOf s p).sent.any (fun n => decide (n < curN s p)) || decide ((partOf s p).nTgt < curN s p) || decide (capTarget s p < curN s p)))

/-- R494: CAP reports the rail's voltage ready for an upward step. -/
def voltReady (s : State) (r : Nat) : Bool :=
  railState s r == .reg && (chOf s r).vref == setpoint s r && !withdrawing s r

/-- R428, R431, R493: an upward step may be sent. -/
def stepUpOk (s : State) (p : Nat) : Bool :=
  acctOn s p && dieUp s (partDie s p) && !partHeld s p && !coreHold s p && (partOf s p).sent == none && voltReady s (partRail s p)

/-! ## Pinned envelope instances (Table 10.5) -/

/-- R306: the condition under which a phase would be shed. -/
def shedCond (s : State) (r : Nat) : Bool :=
  let n := (activePh s r).length + ((chOf s r).memberAct.map (fun p => p.2)).sum
  railState s r == .reg && (chOf s r).drip == .run && aOn s (Reg.CH_CTRL r) F.CH_CTRL_SHED_EN && decide (1 < n)
    && decide ((chOf s r).iMean < (aF s (Reg.CH_PHASE r) F.CH_PHASE_SHED_THR * (n - 1) : Nat))
    && n == aF s (Reg.CH_PHASE2 r) F.CH_PHASE2_MIN_PH

/-- The conditions of R321 except DRIP_EN. -/
def dripCond (s : State) (r : Nat) : Bool :=
  railState s r == .reg && (chOf s r).drip == .run && !aOn s (Reg.CH_CTRL r) F.CH_CTRL_DRIP_EN && wideRole s r == 0
    && !boosting s r && !(railPhases s r).any (fun p => (phOf s p).cal) && decide (railI s r < (aF s (Reg.CH_DRIP r) F.CH_DRIP_ENTRY_I : Nat))

/-- The trim request of a rail channel, 5 nV. -/
def trimReq (s : State) (r : Nat) : Int := divHalfUp (sinkOf s (8 + r) * 200000000) (2 ^ 20)

def trimLo (s : State) (r : Nat) : Int := sext 8 (aF s (Reg.CH_TRIM_ENV r) F.CH_TRIM_ENV_FLOOR) * 50000
def trimHi (s : State) (r : Nat) : Int := sext 8 (aF s (Reg.CH_TRIM_ENV r) F.CH_TRIM_ENV_CEIL) * 50000

/-- Whether an envelope instance is pinned now. -/
def instPinned (s : State) (i : Nat) : Bool :=
  if i < 8 then isRail s i && (decide (trimReq s i < trimLo s i) || decide (trimHi s i < trimReq s i) || (chOf s i).vtrim != trimReq s i)
  else if i < 16 then isRail s (i - 8) && shedCond s (i - 8)
  else if i < 24 then isRail s (i - 16) && dripCond s (i - 16)
  else if i < 56 then tabGet 0 s.cap.powPin (i - 24) != 0 || tabGet 0 s.cap.thPin (i - 24) != 0
  else if i < 88 then s.fq.balPin.contains (i - 56)
  else if i = 88 then s.fq.pinS
  else if i < 93 then
    let w := (ac s Reg.CAP_WATCH).toNat / 256 ^ (i - 89) % 256
    bitOf w 7 && bitOf (rd s (Reg.FAB_PIN (w % 128 / 32))).toNat (w % 32)
  else false

/-- The limit that an instance is pinned against (R503): its kind, 1 a floor, 2 a ceiling, 3 SLEW, and its value as the register gives it;
of a watched tile the bound at which its output rests. The kinds are the model's (log entry 142). -/
def instLimit (s : State) (i : Nat) : Nat × Nat :=
  if i < 8 then
    if trimReq s i < trimLo s i then (1, aF s (Reg.CH_TRIM_ENV i) F.CH_TRIM_ENV_FLOOR)
    else if trimHi s i < trimReq s i then (2, aF s (Reg.CH_TRIM_ENV i) F.CH_TRIM_ENV_CEIL)
    else (3, aF s (Reg.CH_TRIM_ENV i) F.CH_TRIM_ENV_SLEW)
  else if i < 16 then (1, aF s (Reg.CH_PHASE2 (i - 8)) F.CH_PHASE2_MIN_PH)
  else if i < 24 then (1, aF s (Reg.CH_CTRL (i - 16)) F.CH_CTRL_DRIP_EN)
  else if i < 56 then
    let p := i - 24
    if tabGet 0 s.cap.powPin p = 1 ∨ tabGet 0 s.cap.thPin p = 1 then (1, aF s (Reg.CAP_ENV p) F.CAP_ENV_FMIN)
    else (3, aF s (Reg.CAP_ENV2 p) F.CAP_ENV2_SLEW)
  else if i < 88 then
    let p := i - 56
    if s.fq.balOver.contains p then (2, balCeil s p) else (3, aF s (Reg.BAL_ENV p) F.BAL_ENV_SLEW)
  else if i = 88 then (2, aF s Reg.FQ_STAG2 F.FQ_STAG2_S_MAX)
  else
    let n := (ac s Reg.CAP_WATCH).toNat / 256 ^ (i - 89) % 128
    let by_ := (tileOf s n).pinBy
    (by_, if by_ = 3 then aF s (Reg.FAB_PARAM n 2) F.FAB_PARAM_VALUE else unsx 64 (tileOf s n).y)

/-- The time since the last look joins the pinned time of an instance; what lies below 1 ms is carried. -/
def pinAdd (s : State) (i : Nat) : State :=
  let ns := tabGet 0 s.cap.pinRem i + (now s + 1 - tabGet 0 s.cap.pinAt i)
  let s := bumpBy s (Reg.CAP_PIN_TIME i) wordF (ns / 1000000)
  { s with cap := { s.cap with pinRem := tabSet 0 s.cap.pinRem i (ns % 1000000), pinAt := tabSet 0 s.cap.pinAt i (now s + 1) } }

/-- R502: pinned time of one instance up to now. -/
def pinUpdate (s : State) (i : Nat) : State :=
  let was := tabGet 0 s.cap.pinFrom i != 0
  let s := if was then pinAdd s i else s
  if instPinned s i then
    if was then s
    else { s with cap := { s.cap with pinFrom := tabSet 0 s.cap.pinFrom i (now s + 1), pinAt := tabSet 0 s.cap.pinAt i (now s + 1) } }
  else { s with cap := { s.cap with pinFrom := tabErase s.cap.pinFrom i, said := s.cap.said.filter (fun k => k != i) } }

def pinAll (s : State) : State := forEach (List.range 93) s pinUpdate

/-! ## Loops -/

/-- The bounds of the loops of a partition: FMIN, and the lower of FMAX and N_cur + HEAD (R496). -/
def loopLo (s : State) (p : Nat) : Nat := aF s (Reg.CAP_ENV p) F.CAP_ENV_FMIN
def loopHi (s : State) (p : Nat) : Nat :=
  max (loopLo s p) (min (aF s (Reg.CAP_ENV p) F.CAP_ENV_FMAX) (curN s p + aF s (Reg.CAP_ENV2 p) F.CAP_ENV2_HEAD))

/-- The slew limit and the clamp of a loop: the value, and what pins it: 1 it would pass FMIN, 3 it was cut by SLEW, 0 nothing. -/
def loopOut (s : State) (p old : Nat) (raw : Int) : Nat × Nat :=
  let lo := loopLo s p
  let v := (clampI lo (loopHi s p) raw).toNat
  let slew := aF s (Reg.CAP_ENV2 p) F.CAP_ENV2_SLEW
  let cut := decide (v + slew < old)
  (if v + slew < old then old - slew else v, if raw < lo then 1 else if cut then 3 else 0)

/-- R521: the loops of every present partition restart at FMIN when an image is applied. -/
def capApply (s : State) : State :=
  let s := { s with cap := { s.cap with pinFrom := [], pinAt := [], pinRem := [], said := [], powPin := [], thPin := [], otherSum := 0, otherCnt := 0, pOther := 0 } }
  let s := forEach (List.range 96) s (fun s i => wr s (Reg.CAP_PIN_TIME i) 0)
  forEach (parts s) s (fun s p =>
    let m := aF s (Reg.CAP_ENV p) F.CAP_ENV_FMIN
    setCap s p (fun x => { x with nPow := m, nTh := m, guard := false, pSum := 0, pCnt := 0, tMax := none }))

/-- R504: a commit has changed a partition's envelope: the outputs are clamped and the loops continue from there. -/
def capClamp (s : State) (p : Nat) : State :=
  let lo := loopLo s p
  let hi := loopHi s p
  setCap s p (fun x => { x with nPow := max lo (min hi x.nPow), nTh := max lo (min hi x.nTh) })

end Sys2Proof.Machine
end

