-- ==== Sys2Proof/Machine/Hooks.lean ====
section
/-! DEFINITION. What happens elsewhere when a rail enters or leaves REG, or begins soft start (R272, R405, R452, R549). -/

namespace Sys2Proof.Machine

/-- The time in Drip mode that has passed since its entry, µs. -/
def dripUs (s : State) (r : Nat) : Nat := if (chOf s r).drip = .run then 0 else (now s - (chOf s r).dripFrom) / 1000

/-- CH_DRIP_TIME takes that time when Drip mode ends. -/
def dripTime (s : State) (r : Nat) : State := bump48 s (Reg.CH_DRIP_TIME_LO r) (dripUs s r)

/-- R462: a calibration reading in progress ends without being complete; the phase is visited again. -/
def calDrop (s : State) (r : Nat) : State :=
  let c := tabGet {} s.est.cal r
  if c.reading then
    let s := bump s (Reg.CH_CAL_CNT r) F.CH_CAL_CNT_INCOMPLETE
    let s := forEach c.visit.toList s (fun s p => setPh s p (fun x => { x with cal := false }))
    { s with est := { s.est with cal := tabSet {} s.est.cal r { c with reading := false, removal := false } } }
  else s

/-- A rail leaves REG: its dies are disarmed, a boost ends, its partitions' intents are cancelled, a calibration reading
and the dither end. -/
def leaveReg (s : State) (r : Nat) : State :=
  let was := railState s r == .reg
  let s := boostStop s r
  if was then
    let s := forEach (railDies s r) (dripTime s r) (fun s d => armDie s d false)
    let s := setCh s r (fun x => { x with vdither := 0 })
    let s := calDrop s r
    -- the rail no longer counts as in REG for the intents that follow
    fqLeaveReg (setCh s r (fun x => { x with state := .discharge })) r
  else s

/-- R405: a rail enters REG. -/
def enterReg (s : State) (r : Nat) : State := forEach (railDies s r) s (fun s d => armDie s d true)

/-- R272: a channel begins soft start. -/
def fabClear (s : State) (c : Nat) : State :=
  forEach ((List.range 128).filter (fun n => tileKindF (framesOf s) n != 0 && tileFreezeF (framesOf s) n == c)) s clearTile

end Sys2Proof.Machine
end

