-- ==== Sys2Proof/Machine/PmStatus.lean ====
section
/-! DEFINITION. The PMBus status registers (ch. 19): what each bit shows, how it latches, the alert (Table 19.4, R869, R872, R873). -/

namespace Sys2Proof.Machine

def setSbm (s : State) (f : SbmSt → SbmSt) : State := { s with sbm := f s.sbm }

/-! ## Status bits (Table 19.4, R869, R872) -/

/-- The page is a rail channel in use. -/
def pageRail (s : State) (p : Nat) : Bool := decide (p < 8) && isRail s p

/-- A partition of the page's rail is bound by one of the reasons. -/
def railBound (s : State) (p : Nat) (reasons : List Nat) : Bool :=
  (railParts s p).any (fun q => reasons.any (fun k => bitOf (fld s (Reg.CAP_BIND q) F.CAP_BIND_BIND) k))

def chEvent (s : State) (p : Nat) (f : Fld) : Nat := if pageRail s p then fld s (Reg.CH_EVENT p) f else 0

def voutCond (s : State) (p : Nat) : Nat :=
  128 * b2n (pageRail s p && latchBit s 0 p) + 32 * chEvent s p F.CH_EVENT_PG_EXCURSION + 4 * chEvent s p F.CH_EVENT_SS_FAIL
    + 2 * chEvent s p F.CH_EVENT_DIS_TIMEOUT

def ioutCond (s : State) (p : Nat) : Nat :=
  if pageRail s p then
    128 * b2n (latchBit s 2 p) + 64 * b2n (latchBit s 1 p) + 32 * b2n (bitOf (rd s Reg.PROT_STATUS).toNat p) + 4 * b2n (railBound s p [1, 3])
  else 0

def inputCond (s : State) : Nat :=
  64 * fld s Reg.LAD_STATUS F.LAD_STATUS_VIN_HI + 32 * fld s Reg.LAD_STATUS F.LAD_STATUS_VIN_WARN
    + 16 * b2n (s.top.state == .brownout && flag s Reg.LAD_STATUS F.LAD_STATUS_VIN_CAUSE)
    + 8 * b2n (!flag s Reg.TOP_SUPPLY F.TOP_SUPPLY_VIN_ARMED)
    + 2 * b2n ((parts s).any (fun q => bitOf (fld s (Reg.CAP_BIND q) F.CAP_BIND_BIND) 11))

def tempCond (s : State) (p : Nat) : Nat :=
  128 * b2n ((rd s Reg.PROT_THERM_LATCH).toNat % 64 != 0)
    + 64 * b2n ((if p = 8 then parts s else if pageRail s p then railParts s p else []).any (fun q => (capOf s q).guard))

def mfrCond (s : State) (p : Nat) : Nat :=
  let rgn := if pageRail s p then (regions s).filter (fun k => k / 16 == p) else []
  b2n (s.top.state == .halt) + 2 * b2n (s.top.state == .brownout) + 4 * fld s Reg.SBM_BMC_CAP F.SBM_BMC_CAP_PENDING
    + 8 * b2n (!flag s Reg.TOP_SUPPLY F.TOP_SUPPLY_SEC_OK)
    + 16 * b2n (rgn.any (fun k => flag s (Reg.EST_RGN_EVENT k) F.EST_RGN_EVENT_DRIFT || flag s (Reg.EST_RGN_EVENT k) F.EST_RGN_EVENT_STEP))
    + 32 * b2n (rgn.any (fun k => (regionOf s k).ncr))
    + 64 * b2n (pageRail s p && (railDies s p).any (fun d => (dieOf s d).link == .fallback))
    + 128 * b2n s.dom.masterLost

/-- The conditions that hold on a page. -/
def pageCond (s : State) (p : Nat) : PageSt := { vout := voutCond s p, iout := ioutCond s p, temp := tempCond s p, mfr := mfrCond s p }

/-- A millisecond has begun since the last CLEAR_FAULTS: conditions that it found standing latch again (R872). -/
def refreshed (s : State) : Bool := s.sbm.heldMs != now s / 1000000 + 1

/-- Conditions that stood when CLEAR_FAULTS cleared a page's latches, and that stand still; none after the next refresh. -/
def heldOf (s : State) (p : Nat) : PageSt := if refreshed s then {} else tabGet {} s.sbm.held p
def heldInput (s : State) : Nat := if refreshed s then 0 else s.sbm.heldInput

/-- The bits of a that b does not hold. -/
def bitsLess (a b : Nat) : Nat := a - (a &&& b)

/-- A page as the controller reads it: what has latched, and the conditions that have arisen. -/
def pageNow (s : State) (p : Nat) : PageSt :=
  let x := pageOf s p
  let c := pageCond s p
  let h := heldOf s p
  { vout := x.vout ||| bitsLess c.vout h.vout, iout := x.iout ||| bitsLess c.iout h.iout, temp := x.temp ||| bitsLess c.temp h.temp, cml := x.cml,
    mfr := x.mfr ||| bitsLess c.mfr h.mfr }

def inputNow (s : State) : Nat := s.sbm.input ||| bitsLess (inputCond s) (heldInput s)

/-- OFF and POWER_GOOD#, which are live. -/
def pageOff (s : State) (p : Nat) : Bool := if p = 8 then s.top.state != .run else !(pageRail s p && railState s p == .reg)

/-- STATUS_WORD. Bit 0 says that the high byte shows something that the low byte does not. -/
def statusWord (s : State) (p : Nat) : Nat :=
  let x := pageNow s p
  let i := inputNow s
  let off := b2n (pageOff s p)
  let b5 := bitOf x.vout 7
  let b4 := bitOf x.iout 7 || bitOf x.iout 6
  let b3 := bitOf i 4
  2 ^ 15 * b2n (x.vout != 0) + 2 ^ 14 * b2n (x.iout != 0) + 2 ^ 13 * b2n (i != 0) + 2 ^ 12 * b2n (x.mfr != 0) + 2 ^ 11 * off + 64 * off
    + 32 * b2n b5 + 16 * b2n b4 + 8 * b2n b3 + 4 * b2n (x.temp != 0) + 2 * b2n (x.cml != 0)
    + b2n ((x.vout != 0 && !b5) || (x.iout != 0 && !b4) || (i != 0 && !b3) || x.mfr != 0)

/-! ## Alerts (R873) -/

def maskOf (s : State) (p code : Nat) : Nat := tabGet 0 s.sbm.masks (256 * p + code)

/-- The latched bits of a page that its masks allow. -/
def alertBits (s : State) (p : Nat) : List Nat :=
  let x := pageOf s p
  [(x.vout, 0x7A), (x.iout, 0x7B), (s.sbm.input, 0x7C), (x.temp, 0x7D), (x.cml, 0x7E), (x.mfr, 0x80)].map
    (fun c => bitsLess c.1 (maskOf s p c.2))

/-- Some latched bit calls for the alert. -/
def alertDue (s : State) : Bool := (List.range 9).any (fun p => (alertBits s p).any (fun b => b != 0))

/-- SMB_ALERT_N is low. -/
def smbAlert (s : State) : Bool := alertDue s && !s.sbm.acked

/-- A bit has latched that was not latched in `s0`: the alert is driven again. -/
def alertAgain (s0 s : State) : State :=
  if (List.range 9).any (fun p => ((alertBits s0 p).zip (alertBits s p)).any (fun b => b.1 ||| b.2 != b.1)) then
    setSbm s (fun x => { x with acked := false })
  else s

/-- What of the held conditions still stands. -/
def heldStill (s : State) (p : Nat) : PageSt :=
  let h := heldOf s p
  let c := pageCond s p
  { vout := h.vout &&& c.vout, iout := h.iout &&& c.iout, temp := h.temp &&& c.temp, mfr := h.mfr &&& c.mfr }

/-- R872: the conditions that have arisen latch. -/
def pmRefresh (s : State) : State :=
  let s1 := forEach (List.range 9) s (fun s p => setPage s p (fun _ => pageNow s p))
  let held := (List.range 9).foldl (fun (t : Tab PageSt) p => tabSet {} t p (heldStill s p)) []
  alertAgain s (setSbm s1 (fun x => { x with input := inputNow s, held := held, heldInput := heldInput s &&& inputCond s }))

/-- The pages that the selected PAGE stands for. -/
def pagesSel (s : State) : List Nat := if s.sbm.page ≤ 8 then [s.sbm.page] else List.range 9

/-- A bit of STATUS_CML latches: 128 invalid command, 64 invalid data, 32 PEC, 2 interface reset. -/
def cmlSet (s : State) (bit : Nat) : State :=
  let s1 := forEach (pagesSel s) s (fun s p => setPage s p (fun x => { x with cml := x.cml ||| bit }))
  let s1 := alertAgain s s1
  if bit = 128 then raise s1 Reg.SBM_EVENT F.SBM_EVENT_INVALID
  else if bit = 32 then raise (bump s1 Reg.SBM_CNT F.SBM_CNT_PEC) Reg.SBM_EVENT F.SBM_EVENT_PEC_ERR
  else if bit = 2 then raise (bump s1 Reg.SBM_CNT F.SBM_CNT_TIMEOUT) Reg.SBM_EVENT F.SBM_EVENT_TIMEOUT
  else s1

end Sys2Proof.Machine
end

