-- ==== Sys2Proof/Machine/TbStamp.lean ====
section
/-! DEFINITION. Time-base stamps and capture units (ch. 2): stamps in sixteenths of a nanosecond, and the capture of a source's event. -/

namespace Sys2Proof.Machine

/-- R607: the time base in 1/16 ns. -/
def stampNow (s : State) : Nat := s.tb.c * 16 + s.tb.f / 2 ^ 28

/-- A stamp of Table 12.12: 8 B ns, 1 B sixteenths, 3 B reserved. -/
def stampBytes (t : Nat) : List Byte := leBytes 8 (t / 16) ++ leBytes 1 (t % 16) ++ leBytes 3 0

/-- R110, R111: unit `n` takes the stamp `t`, or reports that it holds one already. -/
def captureUnit (s : State) (n t : Nat) (inStep : Bool) : State :=
  if bitOf (rd s Reg.TB_CAP_VALID).toNat n then setF s Reg.TB_CAP_FLAGS ⟨n, 1⟩ 1
  else
    let s := wrN (wrN s (Reg.TB_CAP_LO n) (t % 2 ^ 32)) (Reg.TB_CAP_HI n) (t / 2 ^ 32 % 2 ^ 32)
    let s := setF s Reg.TB_CAP_VALID ⟨n, 1⟩ 1
    if inStep then setF s Reg.TB_CAP_FLAGS ⟨16 + n, 1⟩ 1 else s

/-- R966: the source `src` fires; pin sources fire on one edge, which EDGE of a unit selects. -/
def capture (s : State) (src : Nat) (falling : Bool) (t : Nat) (inStep : Bool := false) : State :=
  if src = 0 ∨ 0x10 < src then s
  else
    let pin := src ≤ 0x0A || src == 0x10
    forEach (List.range 16) s (fun s n =>
      if aF s (Reg.TB_CAP_SRC n) F.TB_CAP_SRC_SOURCE = src ∧ (!pin || aOn s (Reg.TB_CAP_SRC n) F.TB_CAP_SRC_EDGE == falling) then
        captureUnit s n t inStep
      else s)

end Sys2Proof.Machine
end

