-- ==== Sys2Proof/Machine/Device.lean ====
section
/-! DEFINITION. The device-state machine and what protection does to rails: pads of a rail, ordered discharge, soft start and
the start sequence, latches, HALT, thermal trip and the abandoning of an image load. -/

namespace Sys2Proof.Machine

/-! ## Device state -/

/-- The causes of HALT that are latched and not yet cleared, laid out as TOP_STATUS[15:8] (R932). H_CLOCK is cleared by REFCLK_OK and
PLL_CTL_LOCK both set (Table 3.9). -/
def haltCauses (s : State) : Nat :=
  let th := (rd s Reg.PROT_THERM_LATCH).toNat
  let ch := (rd s Reg.PROT_CH_LATCH).toNat &&& s.top.hChan
  b2n (th % 64 != 0) + 2 * b2n (ch % 256 != 0) + 4 * b2n (ch / 256 % 256 != 0) + 8 * b2n (ch / 65536 % 256 != 0)
    + 16 * b2n (bitOf th 6) + 32 * b2n s.top.hActiveUe + 64 * b2n (s.top.hClock && !(flag s Reg.CLK_STATUS F.CLK_STATUS_REFCLK_OK && flag s Reg.CLK_STATUS F.CLK_STATUS_PLL_CTL_LOCK))
    + 128 * b2n s.top.hAon

/-- The code of a device state (Table 0.3). -/
def devCode : DevState → Nat
  | .off => 0
  | .decaf => 1
  | .loaded => 2
  | .ramp => 3
  | .run => 4
  | .halt => 5
  | .brownout => 6

/-- A lifetime counter goes up (Table 18.10). -/
def lifeUp (s : State) (k : Nat) : State :=
  { s with nvs := { s.nvs with life := tabSet 0 s.nvs.life k (tabGet 0 s.nvs.life k + 1) } }

/-- The device enters a state: the state-change entry carries the new state, the time base and the HALT causes. -/
def enterState (s : State) (d : DevState) : State :=
  if s.top.state = d then s
  else
    let s := { s with top := { s.top with state := d } }
    let s := if d = .halt then lifeUp s 9 else if d = .brownout then lifeUp s 3 else s
    record s .control 0x02 0x01 (devCode d) 0 (now s) (haltCauses s)

/-! ## Pads of a rail -/

/-- Drive every phase of a list to MID, but for those a crowbar holds (R383). -/
def phasesMid (s : State) (l : List Nat) : State :=
  forEach l s (fun s p => setPh s p (fun x => if x.crowbar then x else toMid x))

/-- Take phases out of activity. -/
def phasesIdle (s : State) (l : List Nat) : State :=
  forEach l s (fun s p => setPh s p (fun x =>
    if x.crowbar then { x with active := false } else { toMid x with active := false, cal := false }))

/-- SEN_q low on the quads of a list, but for those a crowbar keeps high. -/
def senLow (s : State) (qs : List Nat) : State :=
  forEach qs s (fun s q =>
    if (quadPhases q).any (fun p => (phOf s p).crowbar) then s else setQuad s q (fun x => { x with sen := false, sfltWindow := false }))

def senHigh (s : State) (qs : List Nat) : State :=
  forEach qs s (fun s q => setQuad s q (fun x => if x.sen then x else { x with sen := true, senRose := now s }))

/-- A rail ends: every phase MID, SEN_q low, OFF, or LATCHED while a latch of the rail is set (Table 6.3). -/
def railOff (s : State) (r : Nat) : State :=
  let s := phasesIdle s (railPhases s r)
  let s := senLow s (railQuads s r)
  let s := if flag s Reg.PROT_STATUS ⟨r, 1⟩ then lower (pmRefresh s) Reg.PROT_STATUS ⟨r, 1⟩ else s
  setCh s r (fun x => { x with state := if railLatched s r then .latched else .off, drip := .run, olRun := false,
                               vref := 0, vdither := 0, inWindow := false, shedCnt := 0, addCnt := 0 })

/-! ## Ordered discharge (R210, R319, R320, R968) -/

/-- The head of the queue is taken down. A rail that is already off has nothing left to do. -/
def disHead (s : State) : State :=
  match s.top.dis with
  | [] => s
  | d :: _ =>
    let s := setCh (leaveReg s d.rail) d.rail (fun x => { x with state := .discharge, drip := .run })
    if d.maySwitch then allActive s d.rail else phasesMid s (railPhases s d.rail)

/-- Sort rails into the order of R210. -/
def inDisOrder (s : State) (l : List DisItem) : List DisItem :=
  (dischargeOrder s).filterMap (fun r => l.find? (fun d => d.rail == r))
    ++ l.filter (fun d => !(dischargeOrder s).contains d.rail)

/-- What stands in the queue stays (R968), under the rule of the later cause where that names the rail too. -/
def disMerge (old new : List DisItem) : List DisItem :=
  (old.map (fun d => match new.find? (fun e => e.rail == d.rail) with
    | some e => { d with maySwitch := d.maySwitch && e.maySwitch, byEn := d.byEn && e.byEn, limitOnly := d.limitOnly || e.limitOnly }
    | none => d)) ++ new.filter (fun e => !(old.any (fun d => d.rail == e.rail)))

/-- A cause asks for an ordered discharge of rails. A rail under way stays at the head; the limit runs from the start of
the first discharge (R968). A rail that may switch goes on as it is until the discharge reaches it (R319); every other goes to MID at
once (R320). -/
def discharge (s : State) (items : List DisItem) : State :=
  let items := items.filter (fun d => running s d.rail)
  let s := forEach items s (fun s d => if d.maySwitch then s
    else setCh (phasesMid (leaveReg s d.rail) (railPhases s d.rail)) d.rail (fun x => { x with state := .discharge, drip := .run }))
  match s.top.dis with
  | [] =>
    let q := inDisOrder s items
    disHead { s with top := { s.top with dis := q, disAt := if q = [] then s.top.disAt else now s } }
  | h :: t =>
    match disMerge (h :: t) items with
    | [] => s
    | h' :: t' => { s with top := { s.top with dis := h' :: inDisOrder s t' } }

/-- Every running rail, under one rule. -/
def dischargeAll (s : State) (maySwitch : Bool) (limitOnly : Bool := false) : State :=
  discharge s ((rails s).map (fun r => { rail := r, maySwitch := maySwitch, limitOnly := limitOnly }))

/-- No rail is running. -/
def allOff (s : State) : Bool := (rails s).all (fun r => !running s r)

/-- What follows when the queue is empty: the end of a stop (R168) or of the last rail whose EN a commit cleared (R169). A rail that a
commit has started meanwhile (R166) keeps the device in RAMP. -/
def disDone (s : State) (byEn : Bool) : State :=
  if s.top.stopping then
    let s := setF { s with top := { s.top with stopping := false } } Reg.TOP_START_STATUS F.TOP_START_STATUS_RESULT 9
    if (s.top.state = .ramp ∨ s.top.state = .run) ∧ allOff s then enterState s .loaded else s
  else if byEn && allOff s && (s.top.state == .ramp || s.top.state == .run) then
    enterState { s with top := { s.top with startNext := none } } .loaded
  else s

/-- One rail has left the queue. -/
def disNext (s : State) (d : DisItem) (rest : List DisItem) : State :=
  let s := railOff s d.rail
  let rest := rest.filter (fun e => running s e.rail)
  let s := { s with top := { s.top with dis := rest } }
  match rest with
  | [] => disDone s d.byEn
  | _ => disHead s

/-- A rail leaves the queue without being discharged (a crowbar prevails, R383). -/
def disDrop (s : State) (r : Nat) : State :=
  match s.top.dis with
  | [] => s
  | h :: t =>
    if h.rail = r then
      let s := { s with top := { s.top with dis := t } }
      match t with
      | [] => disDone s h.byEn
      | _ => disHead s
    else { s with top := { s.top with dis := h :: t.filter (fun d => d.rail != r) } }

/-! ## Start (R164–R169, R209) -/

/-- A rail counts as in regulation for the start sequence (R165). -/
def countsReg (s : State) (r : Nat) : Bool := railState s r == .reg || railLatched s r

/-- The enabled rails of a stage. -/
def stageEn (s : State) (k : Nat) : List Nat := (stageRails s k).filter (railEn s)

/-- R316: a rail begins soft start. SEN_q rises, every phase is held at MID, trims are cleared (R304). -/
def softStart (s : State) (r : Nat) : State :=
  if railLatched s r || running s r then s
  else
    let s := senHigh s (railQuads s r)
    let s := forEach (railPhases s r) s (fun s p => setPh s p (fun x =>
      if x.crowbar then x else { x with level := .mid, trim := 0, widened := false, cal := false, negLim := false }))
    let ms := if wideRole s r = 1 then wideOthers s r else []
    let s := setCh s r (fun x => { x with memberAct := ms.map (fun k => (k, 0)), memberCur := [] })
    let s := newPeriod (allActive s r) r (now s * 1000)
    let n := (railPhases s r).length + (ms.map (memberPh s r)).sum
    let s := forEach (railChans s r) s fabClear
    let s := setCh s r (fun x => { x with state := .soft, softAt := now s, altPair := aOn s (Reg.CH_CTRL r) F.CH_CTRL_SENSE_SEL,
                                          vref := (sense s r * 12500 : Nat), vdither := 0, duty := 0, drip := .run, shedCnt := 0, addCnt := 0,
                                          wideLoss := false, origPh := n, inWindow := false, senseOk := false,
                                          perSum := 0, perNum := 0, olSum := 0, olNum := 0, olBins := [] })
    if s.top.state = .loaded then enterState s .ramp
    else if s.top.state = .run then enterState s .ramp else s

/-- Every enabled rail is in regulation and no stage is awaited: RUN (R165). `from_` says that a stage of the start was awaited until
now: where every enabled rail is latched off none begins soft start, and the device goes from LOADED to RUN. -/
def maybeRun (s : State) (from_ : Bool := false) : State :=
  if (s.top.state = .ramp ∨ (from_ ∧ s.top.state = .loaded)) ∧ s.top.startNext = none ∧ !s.top.stopping
      ∧ ((rails s).all (fun r => !railEn s r || countsReg s r)) then
    setF (enterState s .run) Reg.TOP_START_STATUS F.TOP_START_STATUS_RESULT 2
  else s

/-- The stage before stage `k` counts as in regulation. -/
def prevStageDone (s : State) (k : Nat) : Bool := k == 0 || (stageEn s (k - 1)).all (countsReg s)

/-- Begin stage `k`: its enabled rails start together; the next stage waits for them. -/
def beginStage (s : State) (k : Nat) : State :=
  let s := forEach (stageEn s k) s softStart
  let nxt := if k + 1 < stageCount s then some (k + 1) else none
  { s with top := { s.top with startNext := nxt, startFrom := now s } }

/-- Stages that need no wait: those with no enabled rail, and those with DELAY 0, once the stage before is in regulation. -/
def stagesDue : Nat → State → State
  | 0, s => s
  | n + 1, s =>
    match s.top.startNext with
    | none => s
    | some k =>
      if prevStageDone s k && (stageDelay s k == 0 || (stageEn s k).isEmpty) then stagesDue n (beginStage s k) else s

/-- The stage before the awaited one counts as in regulation. -/
def stageReady (s : State) : Bool := s.top.startNext.all (prevStageDone s)

/-- A rail has reached regulation or is latched: where this completes the stage before the awaited one, that one's delay runs from
now (R209); where no stage is awaited, the start may be complete. `done` says that the stage before was complete already. -/
def startAdvance (s : State) (done : Bool) : State :=
  let s := if !done && stageReady s then { s with top := { s.top with startFrom := now s } } else s
  maybeRun (stagesDue 8 s) s.top.startNext.isSome

/-! ## Image load abandoned (R216, R237, R240) -/

/-- The shadow bank takes the contents of the active bank. -/
def shadowRefill (s : State) : State :=
  if s.img.active1 then { s with img := { s.img with bank0 := s.img.bank1 } }
  else { s with img := { s.img with bank1 := s.img.bank0 } }

def phaseCode : LoadPhase → Nat
  | .idle => 0
  | .fetch => 1
  | .verify => 2
  | .parse => 3
  | .check => 4
  | .pending => 5
  | .refill => 6
  | .held => 7

/-- The first 8 bytes of a digest (R240, R758), as R15 orders a multi-byte field. -/
def digest8 (b : List Byte) : Nat := (Config.sha384 b).toNat % 2 ^ 64

/-- The commit groups that a pending partial image holds: it counts as a pending tick commit of them (R225). -/
def imgGroups (s : State) : Nat := if s.img.phase = .pending then s.img.pendGroups else 0

/-- The groups of the pending tick commits. -/
def pendMask (s : State) : Nat := s.top.commits.foldl (fun m c => m ||| c.mask) (imgGroups s)

/-- PEND_GROUP: the lowest group with a pending tick commit, 0xFF for none. -/
def pendRefresh (s : State) : State :=
  setF s Reg.TOP_COMMIT_STATUS F.TOP_COMMIT_STATUS_PEND_GROUP (((maskBits 46 (pendMask s)).head?).getD 0xFF)

/-- A load is in progress, pending or held. -/
def loadActive (s : State) : Bool := s.img.phase != .idle && s.img.phase != .refill

/-- A load ends without being applied: the result, the load entry of R240 and the state of R216. The groups of a partial image that was
pending are free again. The entry's VALUE holds FAIL_INFO in its low word and the phase above it, and the digest counts as computed from
VERIFY on (DESIGN CHOICE, log entry 133). -/
def loadEnd (s : State) (result item byte : Nat) : State :=
  let ph := phaseCode s.img.phase
  let dig := if s.img.phase = .idle ∨ s.img.phase = .fetch ∨ s.img.phase = .held then 0
             else digest8 (s.img.bytes.take (leAt s.img.bytes 0x1C 4 + 0x80))
  let s := setF s Reg.SEC_IMG_STATUS F.SEC_IMG_STATUS_RESULT result
  let s := wrN s Reg.SEC_IMG_FAIL_INFO (item % 2 ^ 16 + byte % 2 ^ 16 * 2 ^ 16)
  let s := record s .mgmt 0x04 0x01 item result (item % 2 ^ 16 + byte % 2 ^ 16 * 2 ^ 16 + ph * 2 ^ 32) dig
  let pend := s.img.phase = .pending
  let s := shadowRefill { s with img := { s.img with phase := .idle, bytes := [], heldFor := none, pendTick := 0, pendGroups := 0 } }
  if pend then pendRefresh s else s

/-- A load in progress or pending is abandoned: ABORTED 0x15, or CANCELLED 0x62. -/
def loadAbort (s : State) (result : Nat) : State := if loadActive s then loadEnd s result 0 0xFFFF else s

/-! ## HALT (R9, R10, R31, R363) -/

/-- A device or warm reset is in progress. -/
def wholeReset (s : State) : Bool := s.top.rst.any (fun r => decide (r.level ≤ 2))

/-- A HALT cause has been latched. BROWNOUT prevails (R31); in OFF, and while a device or warm reset is in progress, HALT follows at
the end of the power-on sequence or of the reset (R132, R185). `trip` is the cause of the TRIP cell sent (Table 12.5); 0 where
the cause's own latch has sent it. -/
def haltEntry (s : State) (trip : Nat := 3) : State :=
  if s.top.state = .halt ∨ s.top.state = .brownout ∨ s.top.state = .off ∨ wholeReset s then s
  else
    let s := loadAbort s 0x15
    let s := if trip = 0 then s else originTrip s trip
    enterState { s with top := { s.top with startNext := none, stopping := false } } .halt

/-- HALT for a cause that leaves CLK_CTL running: the other switching rails are discharged under R319. -/
def haltSwitched (s : State) (trip : Nat := 3) : State := dischargeAll (haltEntry s trip) true

/-! ## Protection latches (R10, R11, R361, R362, R382) -/

/-- The crowbar of rail r's latch, or of the DECAF overvoltage latch (8), drives phases LOW with SEN_q high (R152, R354, R355). -/
def crowbarOn (s : State) (r : Nat) (ps qs : List Nat) : State :=
  let s := forEach ps s (fun s p => setPh s p (fun x =>
    { closePeriod x with crowbar := true, crowRail := if x.crowbar && r == 8 then x.crowRail else r, active := false, cal := false, due := false,
                         level := .low }))
  senHigh s qs

/-- A protection latch is set: capture source 0x0D fires; the entry has the cause code in ARG, phase or die in VALUE, time base in VALUE2. -/
def protEntry (s : State) (unit cause what : Nat) : State :=
  capture (record s .control 0x06 0x01 unit cause what (now s)) 0x0D false (now s)

/-- R384: the rank of the protection entry of a rail's latch among those of one cycle; none for any other entry. -/
def protRank (s : State) (e : Entry) : Option Nat :=
  if e.cls = 0x06 ∧ e.typ = 0x01 ∧ e.arg < 3 ∧ e.value2 = now s then some (32 * b2n (!essential s e.unit) + 8 * e.arg + e.unit) else none

/-- An entry moves ahead of those before it that R384 records later. -/
def protInsert (s : State) (k : Nat) (e : Entry) : List Entry → List Entry
  | [] => [e]
  | x :: t => match protRank s x with
    | some j => if k < j then x :: protInsert s k e t else e :: x :: t
    | none => e :: x :: t

/-- R384: the newest entry of the control plane's staging queue takes its place among the latches of the same time-base value, which count
as latched in one cycle (log entry 136). -/
def protOrder (s : State) : State :=
  match s.recd.q0.reverse with
  | [] => s
  | e :: t => match protRank s e with
    | some k => { s with recd := { s.recd with q0 := (protInsert s k e t).reverse } }
    | none => s

/-- The latch bit of a rail, with what is recorded of it. -/
def latchSet (s : State) (kind r what : Nat) : State :=
  let s := if latchBit s kind r then s else
    lifeUp (protEntry (raise s Reg.PROT_CH_LATCH ⟨8 * kind + r, 1⟩) r kind what) (5 + kind)
  let s := lower (pmRefresh s) Reg.PROT_STATUS ⟨r, 1⟩
  setCh (protOrder s) r (fun x => { x with olRun := false })

/-- A latch of a rail is set: kind 0 overvoltage, 1 phase short, 2 overload shutdown; `what` is the phase where one applies.
The rail's action follows, then HALT where the rail is essential. -/
def latchRail (s : State) (kind r what : Nat) : State :=
  let ready := stageReady s
  let s := latchSet s kind r what
  let s := if kind = 0 then
      let s := if running s r then leaveReg s r else s
      let s := crowbarOn s r (railPhases s r) (railQuads s r)
      let s := raise s Reg.PROT_STATUS ⟨8 + r, 1⟩
      disDrop (setCh s r (fun x => { x with state := .latched, drip := .run })) r
    else if latchBit s 0 r then s
    else if running s r then discharge s [{ rail := r, maySwitch := kind == 2 }]
    else setCh s r (fun x => { x with state := .latched })
  if essential s r then
    let bit := 1 <<< (8 * kind + r)
    let s := if bitOf s.top.hChan (8 * kind + r) then s else originTrip s 2
    haltSwitched { s with top := { s.top with hChan := s.top.hChan ||| bit } } 0
  else startAdvance s ready

/-- R9, R357, R358: a thermal trip is latched. -/
def thermalTrip (s : State) (bit die : Nat) : State :=
  let s := if bitOf (rd s Reg.PROT_THERM_LATCH).toNat bit then s else
    originTrip (lifeUp (protEntry (raise s Reg.PROT_THERM_LATCH ⟨bit, 1⟩) 0 (0x10 + bit) die) 4) 1
  let s := raise s Reg.PROT_STATUS F.PROT_STATUS_TRIP_OUT
  let s := phasesMid s (List.range 64)
  dischargeAll (haltEntry s 0) false

/-- R88, R90, R233: an active copy that cannot be used leads to HALT. -/
def haltActive (s : State) : State := haltSwitched { s with top := { s.top with hActiveUe := true } }

end Sys2Proof.Machine
end

