-- ==== Sys2Proof/Machine/EstOps.lean ====
section
/-! DEFINITION. Shared operations of estimation (ch. 9): the dither sequence, samples and blocks, refreshes, captures and the crack
detectors. -/

namespace Sys2Proof.Machine

/-! ## The dither (R451) -/

/-- One shift of the generator x¹⁵ + x¹⁴ + 1. -/
def prbsShift (x : Nat) : Nat := x * 2 % 2 ^ 15 + b2n (bitOf x 14 != bitOf x 13)

/-- The generator after `m` shifts from all ones. -/
def prbs : Nat → Nat
  | 0 => 0x7FFF
  | m + 1 => prbsShift (prbs m)

/-- The chip of rail channel `c` at a time-base value. -/
def chipAt (c t : Nat) : Int := if bitOf (prbs ((t / 25000 + 4096 * c) % 32767)) 14 then 1 else -1

/-! ## Regions -/

/-- The VREP_INT in force for a region: that of the dies of its sites. -/
def regionDies (s : State) (k : Nat) : List Nat := ((regionSitesF (framesOf s) k).map (fun i => i / 64)).eraseDups

def vrepInt (s : State) (d : Nat) : Nat := aF s (Reg.PB_DIE_CFG d) F.PB_DIE_CFG_VREP_INT

/-- R453: the sample rate of a region, Hz. -/
def regionRate (s : State) (k : Nat) : Nat :=
  if regionSrcF (framesOf s) k = 1 then 250000
  else 1000000 / 2 ^ ((regionDies s k).map (vrepInt s)).foldl max 0

/-- R454: the region produces no estimate. -/
def regionNone (s : State) (k : Nat) : Bool :=
  wideRole s (k / 16) != 0 ||
    (regionSrcF (framesOf s) k == 0 && ((regionSitesF (framesOf s) k).isEmpty || (regionDies s k).any (fun d => decide (4 < vrepInt s d))))

/-- W, CONF_THR and the other settings. -/
def estW (s : State) : Nat := aF s Reg.EST_CFG F.EST_CFG_W
def crackF (s : State) (f : Fld) : Nat := aF s Reg.EST_CRACK_CFG f

/-- The step tolerance of a region, 0.25 %: STEP_THR, aged while its reference is frozen (R476, R477). -/
def stepTol (s : State) (k : Nat) : Nat :=
  if (regionOf s k).ncr ∨ 0 < (regionOf s k).thaw then (regionOf s k).tolAged else crackF s F.EST_CRACK_CFG_STEP_THR * 4

/-- The reference of the step detector: frozen, or the estimate W refreshes earlier where it was confident. -/
def stepRef (s : State) (k : Nat) : Option Nat :=
  let x := regionOf s k
  if x.ncr ∨ 0 < x.thaw then x.frozen
  else match x.hist[estW s]? with
    | some h => if h.conf then h.r else none
    | none => none

/-- The estimate and the conditions of a region, as EST_R_k and EST_CONF_k show them. -/
def estFlags (s : State) (k : Nat) : State :=
  let x := regionOf s k
  let h := match x.hist with
    | a :: _ => a
    | [] => { r := none, rel := 1023, conf := false }
  let s := wrN s (Reg.EST_R k) (match h.r with | some r => r + b2n h.conf * 2 ^ 31 | none => 2 ^ 30)
  wrN s (Reg.EST_CONF k) (h.rel + b2n x.ncr * 2 ^ 16 + b2n x.drift * 2 ^ 17 + b2n x.stepPend * 2 ^ 18 + b2n x.derated * 2 ^ 19
    + b2n (x.ncr || decide (0 < x.thaw)) * 2 ^ 20)

/-- The region's words of Table 9.7 follow its state. EST_REF_k follows a refresh only (R480). -/
def estPublish (s : State) (k : Nat) : State :=
  let s := estFlags s k
  wrN s (Reg.EST_REF k) ((match stepRef s k with | some r => min r (2 ^ 24 - 1) | none => 0) + stepTol s k / 2 % 256 * 2 ^ 24)

/-- The counts of EST_STATUS. -/
def estStatus (s : State) : State :=
  let rs := regions s
  let conf := (rs.filter (fun k => match (regionOf s k).hist with | h :: _ => h.conf | [] => false)).length
  wrN s Reg.EST_STATUS (b2n s.est.run + min conf 255 * 2 ^ 8 + min (rs.filter (fun k => (regionOf s k).ncr)).length 255 * 2 ^ 16)

/-- A region event: its own register and EST_EVENT. -/
def estEvent (s : State) (k : Nat) (f : Fld) : State := raise (raise s (Reg.EST_RGN_EVENT k) f) Reg.EST_EVENT f

/-- A recorder entry of EST, from the data plane. -/
def estEntry (s : State) (typ k arg value value2 : Nat) : State := record s .data 0x0B typ k arg value value2

/-! ## Samples (R453, R455, R456) -/

/-- What the sums gained from `b` to `x`. -/
def sumGain (b x : SenseSum) : SenseSum :=
  { pri := x.pri - b.pri, alt := x.alt - b.alt, cur := x.cur - b.cur, chip := x.chip - b.chip, n := x.n - b.n }

def sumNow (s : State) (r : Nat) : SenseSum := tabGet {} s.est.sum r

/-- The sums of a rail as they stood at an instant: those of the last fast sample up to it; before the earliest one kept, that one. -/
def sumAt (s : State) (r t : Nat) : SenseSum :=
  let l := tabGet [] s.est.snap r
  match l.find? (fun p => decide (p.1 ≤ t)) with
  | some p => p.2
  | none => (l.getLast?.map (fun p => p.2)).getD (sumNow s r)

/-- A mean sense voltage, V at point 20 summed over `n`, in nV. -/
def nvMean (v : Int) (n : Nat) : Int := v * 1953125 / (2048 * n : Nat)

def nthL (l : List (List Int)) (i : Nat) : List Int := l.getD i []

/-- One estimator sample of a region over an interval that ends with the sums `end_`: chip (2⁻¹⁶), path voltage and near voltage (nV), raw
current (1/4,096 A), each through the same filter, then into the sums of the block. A region that R454 bars from a path estimate still
serves the load line (R459). -/
def estSample (s : State) (k : Nat) (end_ : SenseSum) (far : Int) : State :=
  let x := regionOf s k
  let m := sumGain x.from_ end_
  let s := setRegion s k (fun x => { x with from_ := end_, farNew := [] })
  if m.n = 0 then s
  else
    let near := nvMean (if regionNearF (framesOf s) k = 0 then m.pri else m.alt) m.n
    let rate := regionRate s k
    let fx := Config.bandPass rate (nthL x.filt 0) (m.chip * 65536 / m.n)
    let fp := Config.bandPass rate (nthL x.filt 1) (near - far)
    let fc := Config.bandPass rate (nthL x.filt 2) (m.cur / m.n)
    let fu := Config.bandPass rate (nthL x.filt 3) near
    let b := x.cur
    let b : BlkSum := { empty := b.empty, n := b.n + 1, xx := b.xx + fx.1 * fx.1, xp := b.xp + fx.1 * fp.1, xc := b.xc + fx.1 * fc.1,
                        xu := b.xu + fx.1 * fu.1, pp := b.pp + fp.1 * fp.1, pc := b.pc + fp.1 * fc.1, cc := b.cc + fc.1 * fc.1,
                        uc := b.uc + fu.1 * fc.1, uu := b.uu + fu.1 * fu.1 }
    setRegion s k (fun x => { x with cur := b, filt := [fx.2, fp.2, fc.2, fu.2] })

/-- Site voltage in nV. -/
def siteNv (s : State) (i : Nat) : Int := fld s (Reg.PB_SVOLT (i / 64) (i % 64)) F.PB_SVOLT_VALUE * 31250

/-- The far voltage of a region from the sites that reported: their mean. -/
def farMean (s : State) (l : List Nat) : Int := (l.map (siteNv s)).sum / (max l.length 1 : Nat)

/-- The sites of a region that still report: those without CORE_OFF on dies that are up. -/
def liveSites (s : State) (k : Nat) : List Nat :=
  (regionSitesF (framesOf s) k).filter (fun i => !(siteOf s (i / 64) (i % 64)).coreOffBx && !(dieOf s (i / 64)).tempStale)

/-- The interval of the sites' reports ends at the latest of their stamps (R426, R453). -/
def reportEnd (s : State) (k : Nat) (l : List Nat) : SenseSum :=
  sumAt s (k / 16) ((l.map (fun i => (siteOf s (i / 64) (i % 64)).vrepTime)).foldl max 0)

/-- A sample from the sites of a region that have reported. -/
def reportSample (s : State) (k : Nat) (l : List Nat) : State := estSample s k (reportEnd s k l) (farMean s l)

/-- A VREP of a site of the region: the interval is complete when every site that still reports has reported. With no such site the
blocks stay empty (R481). -/
def regionReport (s : State) (k i : Nat) : State :=
  let live := liveSites s k
  if live = [] then setRegion s k (fun x => { x with farNew := [] })
  else
    let s := setRegion s k (fun x => { x with farNew := x.farNew ++ [i] })
    let l := (regionOf s k).farNew
    if live.all (fun j => l.contains j) then reportSample s k l else s

/-- A site that has reported in this interval reports again: the interval before ended without the sites that are missing. -/
def regionAgain (s : State) (k i : Nat) : State :=
  let l := (regionOf s k).farNew
  if l.contains i then reportSample s k l else s

/-- R456: a step of the time base spoils the blocks in progress. -/
def estStep (s : State) : State := forEach (regions s) s (fun s k => setRegion s k (fun x => { x with cur := { x.cur with empty := true } }))

/-! ## Refreshes (R456–R459) -/

def blkAdd (a b : BlkSum) : BlkSum :=
  if b.empty then a
  else { n := a.n + b.n, xx := a.xx + b.xx, xp := a.xp + b.xp, xc := a.xc + b.xc, xu := a.xu + b.xu, pp := a.pp + b.pp,
         pc := a.pc + b.pc, cc := a.cc + b.cc, uc := a.uc + b.uc, uu := a.uu + b.uu }

/-- Integer square root, by bits from the top: the largest `r` with r² ≤ n among values below 2^bits. -/
def isqrtBits (n : Nat) : Nat → Nat → Nat
  | 0, r => r
  | b + 1, r => if (r + 2 ^ b) * (r + 2 ^ b) ≤ n then isqrtBits n b (r + 2 ^ b) else isqrtBits n b r

/-- Square root rounded to nearest, saturating at 1,023. -/
def sqrtSat (num den : Int) : Nat :=
  if den ≤ 0 then 1023
  else
    let q := (4 * num / den).toNat
    min 1023 ((isqrtBits q 11 0 + 1) / 2)

/-- R457: the refresh of a window. The sums are scale-free in the filter's gain; the current is in 1/4,096 A, the path in nV. -/
def refreshOf (s : State) (k : Nat) (w : BlkSum) : Refresh :=
  let r := (2 * w.xp * 4096 + w.xc) / (2 * w.xc)
  if w.xc ≤ 0 ∨ w.xp ≤ 0 ∨ r ≤ 0 then { r := none, rel := 1023, conf := false }
  else
    let e := w.pp * w.xc * w.xc - 2 * w.xp * w.xc * w.pc + w.xp * w.xp * w.cc
    let num := e * w.xx * (regionRate s k : Nat) * 1000000
    let den := w.n * w.xc * w.xc * w.xp * w.xp * 36000
    let thr : Int := aF s Reg.EST_CFG F.EST_CFG_CONF_THR
    { r := some (min r.toNat (2 ^ 24 - 1)), rel := sqrtSat num den, conf := decide (0 < den) && decide (num ≤ thr * thr * den) }

/-- The window of a region: its last W complete blocks. -/
def windowOf (s : State) (k : Nat) : BlkSum := ((regionOf s k).blocks.take (estW s)).foldl blkAdd {}

/-- R456: the block closes; it is empty with fewer than half its expected samples. -/
def closeBlock (s : State) (k : Nat) : State :=
  let x := regionOf s k
  let b := if x.cur.empty ∨ x.cur.n * 20 < regionRate s k then { empty := true } else x.cur
  setRegion s k (fun x => { x with cur := {}, blocks := (b :: x.blocks).take 63 })

/-- R459: the load-line estimate of a rail from its first present region; the spec gives no formula for its relative error, which
is a free value. -/
def loadLine (s : State) (c : Nat) : State :=
  match (regions s).find? (fun k => k / 16 == c) with
  | none => s
  | some k =>
    let w := windowOf s k
    let num := w.uc * w.xx - w.xu * w.xc
    let den := w.cc * w.xx - w.xc * w.xc
    if den = 0 then wrN s (Reg.EST_LL_CONF c) 1023
    else
      let s := wrN s (Reg.EST_LL c) (satS 16 (divHalfUp (-num * 4096) (den * 500).toNat))
      let d := drawNat s 1024
      wrN d.2 (Reg.EST_LL_CONF c) (d.1 + b2n (decide (d.1 ≤ aF s Reg.EST_CFG F.EST_CFG_CONF_THR)) * 2 ^ 31)

/-! ## Captures (R467, R468) -/

def capStat (s : State) (k : Nat) (busy done fail : Bool) : State :=
  let n := (regionOf s k).capN
  wrN s Reg.EST_CAP_STATUS (k + b2n busy * 2 ^ 8 + b2n done * 2 ^ 9 + b2n fail * 2 ^ 10 + s.est.capTag * 2 ^ 12 + min n 65535 * 2 ^ 16)

/-- The relative standard error of a baseline: that of one refresh × √(W ÷ (10 × CAP_T)). -/
def capRelErr (s : State) (k : Nat) : Nat :=
  let x := regionOf s k
  let rel := x.capRel / max x.capN 1
  isqrtBits (rel * rel * estW s / max (10 * aF s Reg.EST_CMD F.EST_CMD_CAP_T) 1) 11 0

/-- A capture of one region ends: result 1 DONE, 0 FAIL. -/
def capEnd (s : State) (k : Nat) (done : Bool) : State :=
  let x := regionOf s k
  let rel := capRelErr s k
  let base := x.capSum / max x.capN 1
  let s := estEntry s 0x01 k (b2n done) base rel
  let s := if done then { s with est := { s.est with baseDue := s.est.baseDue ++ [{ k := k, base := base, rel := rel, at_ := now s }] } } else s
  let s := estEvent s k (if done then F.EST_EVENT_CAP_DONE else F.EST_EVENT_CAP_FAIL)
  let s := setRegion s k (fun x => { x with capOn := false, capDone := done })
  let busy := (regions s).any (fun k => (regionOf s k).capOn)
  capStat s k busy (!busy && done) (!busy && !done)

/-- A confident refresh counts in a capture. -/
def capTake (s : State) (k : Nat) (r rel : Nat) : State :=
  let s := setRegion s k (fun x => { x with capSum := x.capSum + r, capRel := x.capRel + rel, capN := x.capN + 1 })
  if aF s Reg.EST_CMD F.EST_CMD_CAP_T * 10 ≤ (regionOf s k).capN then capEnd s k true else capStat s k true false false

/-- The regions that an EST_CMD names. -/
def cmdRegions (s : State) : List Nat :=
  if aOn s Reg.EST_CMD F.EST_CMD_ALL then regions s else (regions s).filter (fun k => k == aF s Reg.EST_CMD F.EST_CMD_REGION)

/-- R473: an ACK clears DRIFT, the derate and the pending step. What the detectors have counted stays, so a condition that still holds
raises its event at the next refresh (R479). -/
def regionAck (s : State) (k : Nat) : State :=
  estFlags (setRegion s k (fun x => { x with drift := false, stepPend := false, stepSaid := false, unacked := false, derated := false })) k

/-- R467, R473, R479: a committed EST_CMD with a new TAG acts. -/
def estCmd (s : State) : State :=
  let op := aF s Reg.EST_CMD F.EST_CMD_OP
  if op = 1 then
    let s := forEach ((regions s).filter (fun k => (regionOf s k).capOn)) s (fun s k => capEnd s k false)
    let s := { s with est := { s.est with capTag := aF s Reg.EST_CMD F.EST_CMD_TAG } }
    let s := forEach (cmdRegions s) s (fun s k =>
      capStat (setRegion s k (fun x => { x with capOn := true, capDone := false, capSum := 0, capRel := 0, capN := 0 })) k true false false)
    { s with est := { s.est with capAt := now s } }
  else if op = 2 then
    forEach (cmdRegions s) s regionAck
  else s

/-! ## Crack detectors (R470–R472, R475–R478) -/

/-- R472: an event that no ACK has answered derates the region while DERATE_EN is 1. -/
def derate (s : State) (k : Nat) : State :=
  let on := crackF s F.EST_CRACK_CFG_DERATE_EN == 1 && (regionOf s k).unacked
  if on && !(regionOf s k).derated then estEvent (setRegion s k (fun x => { x with derated := true })) k F.EST_EVENT_DERATE
  else setRegion s k (fun x => { x with derated := on })

/-- R474: a drift or step entry is for firmware to look into; after a step the means take a second. -/
def crackCheck (s : State) (k : Nat) (step : Bool) : State :=
  { s with est := { s.est with checks := s.est.checks ++ [{ k := k, step := step, left := if step then 10 else 0, before := s.est.bal }] } }

/-- R471, R477: the step detector at a refresh: an event for each run of STEP_CONFIRM refreshes. ARG 1 marks AGED. -/
def stepDetect (s : State) (k : Nat) (h : Refresh) : State :=
  let x := regionOf s k
  match h.conf, h.r, stepRef s k with
  | true, some r, some ref =>
    if ref * (400 + stepTol s k) < r * 400 then
      let s := setRegion s k (fun x => { x with stepCnt := x.stepCnt + 1 })
      if crackF s F.EST_CRACK_CFG_STEP_CONFIRM ≤ x.stepCnt + 1 ∧ !x.stepSaid then
        let s := crackCheck (setRegion s k (fun x => { x with stepPend := true, stepSaid := true, unacked := true })) k true
        let s := bump s (Reg.EST_RGN_CNT k) F.EST_RGN_CNT_STEPS
        let s := estEvent (estEntry s 0x03 k (b2n (x.ncr || decide (0 < x.thaw))) r h.rel) k F.EST_EVENT_STEP
        derate s k
      else s
    else setRegion s k (fun x => { x with stepCnt := 0, stepSaid := false })
  | _, _, _ => setRegion s k (fun x => { x with stepCnt := 0, stepSaid := false })

/-- R470, R483: the drift detector at a refresh. -/
def driftDetect (s : State) (k : Nat) (h : Refresh) : State :=
  let x := regionOf s k
  let t := crackF s F.EST_CRACK_CFG_DRIFT_T * 1000000000
  let still := x.drift && !(x.lowFrom.any (fun l => decide (l + t ≤ now s)))
  if !aOn s (Reg.EST_BASE k) F.EST_BASE_VALID then setRegion s k (fun x => { x with driftFrom := none })
  else if x.ncr then setRegion s k (fun x => { x with driftFrom := none, drift := still })
  else match h.conf, h.r with
    | true, some r =>
      if aF s (Reg.EST_BASE k) F.EST_BASE_BASE * (100 + crackF s F.EST_CRACK_CFG_DRIFT_MARGIN) < r * 100 then
        let t0 := match x.driftFrom with
          | some t => t
          | none => now s
        let s := setRegion s k (fun x => { x with driftFrom := some t0, lowFrom := none })
        if t0 + t ≤ now s ∧ !x.drift then
          let s := crackCheck (setRegion s k (fun x => { x with drift := true, unacked := true })) k false
          let s := bump s (Reg.EST_RGN_CNT k) F.EST_RGN_CNT_DRIFTS
          derate (estEvent (estEntry s 0x02 k 0 r h.rel) k F.EST_EVENT_DRIFT) k
        else s
      else
        let l0 := match x.lowFrom with
          | some t => t
          | none => now s
        setRegion s k (fun x => { x with driftFrom := none, lowFrom := some l0, drift := x.drift && decide (now s < l0 + t) })
    | _, _ => setRegion s k (fun x => { x with driftFrom := none, drift := still })

/-- R475, R476: no confident refresh for NCR_T. -/
def ncrEnter (s : State) (k : Nat) : State :=
  let x := regionOf s k
  let s := setRegion s k (fun x => { x with ncr := true, ncrAt := now s, ncrSec := 0, frozen := x.lastConf, thaw := 0, driftFrom := none,
                                            tolAged := crackF s F.EST_CRACK_CFG_STEP_THR * 4 })
  let s := estEntry s 0x04 k 0 (match x.lastConf with | some r => r | none => 0) 1023
  estPublish (estEvent s k F.EST_EVENT_NCR_ENTER) k

/-- R475, R476: NCR time is counted and the tolerance ages. -/
def ncrAge (s : State) (k : Nat) : State :=
  let x := regionOf s k
  if x.ncr then
    let sec := (now s - x.ncrAt) / 1000000000
    let base := crackF s F.EST_CRACK_CFG_STEP_THR * 4
    let tol := min (base + crackF s F.EST_CRACK_CFG_AGE * (sec / 600)) (max base (crackF s F.EST_CRACK_CFG_DRIFT_MARGIN * 4))
    let s := bumpBy s (Reg.EST_RGN_CNT k) F.EST_RGN_CNT_NCR_TIME (sec - x.ncrSec)
    setRegion s k (fun x => { x with ncrSec := sec, tolAged := tol })
  else s

/-- One refresh of a region. -/
def refresh (s : State) (k : Nat) : State :=
  let s := closeBlock s k
  let h := if regionNone s k then { r := none, rel := 1023, conf := false } else refreshOf s k (windowOf s k)
  let s := ncrAge s k
  let x := regionOf s k
  let s := setRegion s k (fun x => { x with hist := (h :: x.hist).take 64 })
  let s := stepDetect s k h
  let s := if h.conf then
      let s := setRegion (pmRefresh s) k (fun y => { y with confAt := now s, lastConf := h.r, thaw := if x.ncr then estW s else y.thaw - 1, ncr := false })
      if x.ncr then estEvent (estEntry s 0x05 k 0 (h.r.getD 0) h.rel) k F.EST_EVENT_NCR_EXIT else s
    else setRegion s k (fun y => { y with thaw := y.thaw - 1 })
  let s := driftDetect s k h
  let s := match h.conf, h.r, (regionOf s k).capOn with
    | true, some r, true => capTake s k r h.rel
    | _, _, _ => s
  estPublish (derate s k) k

/-- R485, R486: a region restarts with no estimate. -/
def regionRestart (s : State) (k : Nat) : State :=
  estPublish (setRegion s k (fun _ => { confAt := now s, from_ := sumNow s (k / 16) })) k

/-- The words of a region that the image does not have. -/
def regionBlank (s : State) (k : Nat) : State := forEach [Reg.EST_R k, Reg.EST_CONF k, Reg.EST_REF k] s (fun s off => wr s off (resetOf off))

/-- R485: estimation when an image is applied: every region restarts, every offset is 0 with VALID clear, and nothing is left of the regions
and the load lines before it. -/
def estApply (s : State) : State :=
  let s := { s with est := { s.est with run := true, region := [], cal := [], oor := [], readAt := [], checks := [], bal := [], blkFrom := now s } }
  let s := forEach (List.range 64) s (fun s p => wr s (Reg.PH_OFF p) 0)
  let s := forEach ((List.range 8).flatMap (fun c => [Reg.EST_LL c, Reg.EST_LL_CONF c])) s (fun s off => wr s off (resetOf off))
  let s := forEach ((List.range 128).filter (fun k => !(regions s).contains k)) s regionBlank
  estStatus (forEach (regions s) s regionRestart)

end Sys2Proof.Machine
end

