-- ==== Sys2Proof/Machine/Range.lean ====
section
/-! DEFINITION. Commit groups of the HOLD registers and their permitted ranges: field ranges and the range rules of each block
(R46, R53, Table 20.4, R287, R345, R392, R393, R437, R450, R487, R520, R569, R626, R641, R673, R682, R803). -/

namespace Sys2Proof.Machine

/-! ## Groups -/

/-- The HOLD register families of a block of the map. -/
def holdOf (l : List RegFamily) : List RegFamily := l.filter (fun r => r.access == .hold)

/-- Every HOLD register family. -/
def holdFams : List RegFamily :=
  holdOf regBlock01 ++ holdOf regBlock08 ++ holdOf regBlock10 ++ holdOf regBlock12 ++ holdOf regBlock14 ++ holdOf regBlock15
    ++ holdOf regBlock16 ++ holdOf regBlock18 ++ holdOf regBlock19 ++ holdOf regBlock1A ++ holdOf regBlock1B ++ holdOf regBlock1C
    ++ holdOf regBlock1E ++ holdOf regBlock24

/-- The first index of a register within its family. -/
def famIx (r : RegFamily) (off : Nat) : Nat := if r.s1 = 0 then 0 else (off - r.base) / r.s1

/-- The second index of a register within its family. -/
def famIx2 (r : RegFamily) (off : Nat) : Nat := if r.s2 = 0 then 0 else (off - r.base) % r.s1 / r.s2

/-- The commit group of the register of a family with first index `i` (Table 20.4); a PH_CFG of an unassigned quad has none. -/
def groupIx (f : Frames) (r : RegFamily) (i : Nat) : Option Nat :=
  match r.group with
  | .none => none
  | .fixed g => some g
  | .channel => some i
  | .partition => some (8 + i)
  | .phase => if quadChF f (i / 4) < 8 then some (quadChF f (i / 4)) else none

/-- The commit group of a HOLD register. -/
def groupAt (f : Frames) (off : Nat) : Option Nat :=
  match regFind off with
  | some r => if r.access = .hold then groupIx f r (famIx r off) else none
  | none => none

/-- The register lies in a group of a mask. -/
def inMask (f : Frames) (m off : Nat) : Bool :=
  match groupAt f off with
  | some g => bitOf m g
  | none => false

/-- The offsets of a family whose first index is `i`. -/
def famRow (r : RegFamily) (i : Nat) : List Nat := (List.range r.n2).map (fun j => r.base + r.s1 * i + r.s2 * j)

/-- Every HOLD register of the groups of a mask. -/
def maskRegs (f : Frames) (m : Nat) : List Nat :=
  holdFams.flatMap (fun r => ((List.range r.n1).filter (fun i => match groupIx f r i with | some g => bitOf m g | none => false)).flatMap (famRow r))

/-- The groups in use, 0–45. -/
abbrev allGroups : Nat := 2 ^ 46 - 1

/-- R46: a channel of a locked rail brings every channel of that rail. -/
def expandMask (f : Frames) (m : Nat) : Nat :=
  let more := (List.range 8).filter (fun c => railOfF f c < 8 && (railChansF f (railOfF f c)).any (bitOf m))
  (m ||| toMask more) % 2 ^ 46

/-! ## Field ranges -/

/-- A field with a range narrower than its width: the family's lowest offset, the field, and the permitted bounds. -/
abbrev FieldRange : Type := Nat × Fld × Nat × Nat

/-- Tables 2.12, 2.13. -/
def rangesTb : List FieldRange :=
  [ (Reg.TB_SERVO_CFG, F.TB_SERVO_CFG_INTERVAL, 0, 6), (Reg.TB_SERVO_CFG, F.TB_SERVO_CFG_LOCK_COUNT, 0, 7),
    (Reg.TB_HOLD_CFG, F.TB_HOLD_CFG_LIMIT, 10, 10000), (Reg.TB_PPS_CFG, F.TB_PPS_CFG_WIDTH, 1, 255) ]

/-- Table 6.11, and the CH fields of Table 9.6. -/
def rangesCh : List FieldRange :=
  [ (Reg.CH_VSLEW 0, F.CH_VSLEW_VSLEW, 1, 255), (Reg.CH_FSW 0, F.CH_FSW_PERIOD, 4167, 20833), (Reg.CH_FSW 0, F.CH_FSW_MIN_ON, 20, 250),
    (Reg.CH_FSW 0, F.CH_FSW_MIN_OFF, 63, 250), (Reg.CH_SS 0, F.CH_SS_SS_SLEW, 1, 255), (Reg.CH_SS 0, F.CH_SS_DIS_SLEW, 1, 255),
    (Reg.CH_SS 0, F.CH_SS_PG_WIN, 1, 255), (Reg.CH_SS 0, F.CH_SS_PG_SETTLE, 1, 255), (Reg.CH_PHASE 0, F.CH_PHASE_ADD_THR, 16, 4095),
    (Reg.CH_PHASE2 0, F.CH_PHASE2_ADD_DWELL, 1, 255), (Reg.CH_PHASE2 0, F.CH_PHASE2_SHED_DWELL, 1, 255),
    (Reg.CH_DRIP2 0, F.CH_DRIP2_BAND_HI, 1, 255), (Reg.CH_DRIP2 0, F.CH_DRIP2_BAND_LO, 1, 255),
    (Reg.CH_DRIP2 0, F.CH_DRIP2_ENTRY_T, 1, 255), (Reg.CH_DRIP2 0, F.CH_DRIP2_BURST_MAX, 1, 255), (Reg.CH_BAL 0, F.CH_BAL_LIM, 1, 32),
    (Reg.CH_DITH 0, F.CH_DITH_AMP, 0, 8), (Reg.CH_CAL 0, F.CH_CAL_CAL_INT, 1, 100), (Reg.CH_CAL 0, F.CH_CAL_CAL_SETTLE, 2, 8),
    (Reg.CH_CAL 0, F.CH_CAL_CAL_AVG, 2, 15), (Reg.CH_CAL 0, F.CH_CAL_OFF_STEP, 1, 15), (Reg.CH_CAL 0, F.CH_CAL_OFF_MAX, 1, 15) ]

/-- Tables 7.2, 7.9, 7.11; the fused bounds are R392's and R393's. -/
def rangesProt : List FieldRange :=
  [ (Reg.PROT_IPK 0, F.PROT_IPK_IPK, 40, 240), (Reg.PROT_IPK 0, F.PROT_IPK_SHORT_CNT, 4, 32), (Reg.PROT_OV 0, F.PROT_OV_LIMIT, 60, 270),
    (Reg.PROT_OL2 0, F.PROT_OL2_WINDOW, 2, 500), (Reg.PROT_OL2 0, F.PROT_OL2_OL_TIME, 1, 255), (Reg.PROT_OL2 0, F.PROT_OL2_OL_DUTY, 16, 255),
    (Reg.PROT_THERM, F.PROT_THERM_STAGE_TLIM, 1280, 2400), (Reg.PROT_THERM, F.PROT_THERM_CRIT, 960, 4095),
    (Reg.LAD_VIN_CFG, F.LAD_VIN_CFG_WARN, 0, 520), (Reg.LAD_VIN_CFG, F.LAD_VIN_CFG_RST, 0, 500),
    (Reg.LAD_VAUX_CFG, F.LAD_VAUX_CFG_WARN, 0, 320), (Reg.LAD_VAUX_CFG, F.LAD_VAUX_CFG_RST, 0, 310),
    (Reg.LAD_VIN_CFG2, F.LAD_VIN_CFG2_HYST, 5, 50), (Reg.LAD_VIN_CFG2, F.LAD_VIN_CFG2_RST_FILT, 4, 15),
    (Reg.LAD_VIN_CFG2, F.LAD_VIN_CFG2_WARN_FILT, 1, 15), (Reg.LAD_VIN_CFG2, F.LAD_VIN_CFG2_WARN_HOLD, 1, 255),
    (Reg.LAD_VAUX_CFG2, F.LAD_VAUX_CFG2_HYST, 4, 20), (Reg.LAD_VAUX_CFG2, F.LAD_VAUX_CFG2_RST_FILT, 4, 15),
    (Reg.LAD_VAUX_CFG2, F.LAD_VAUX_CFG2_WARN_FILT, 1, 15), (Reg.LAD_VAUX_CFG2, F.LAD_VAUX_CFG2_WARN_HOLD, 1, 255),
    (Reg.LAD_VIN_HI, F.LAD_VIN_HI_HI, 540, 600), (Reg.LAD_ACT, F.LAD_ACT_SHED_LEVEL, 16, 255) ]

/-- Tables 8.11, 9.6. -/
def rangesPb : List FieldRange :=
  [ (Reg.PB_DIE_CFG 0, F.PB_DIE_CFG_D, 1, 8), (Reg.PB_DIE_CFG 0, F.PB_DIE_CFG_HOLD_K, 4, 10), (Reg.PB_DIE_CFG 0, F.PB_DIE_CFG_HYST, 1, 10),
    (Reg.PB_DIE_CFG 0, F.PB_DIE_CFG_VREP_INT, 0, 6), (Reg.PB_DIE_CFG 0, F.PB_DIE_CFG_TEMP_INT, 0, 7),
    (Reg.PB_DIE_CFG 0, F.PB_DIE_CFG_CPM_INT, 0, 6), (Reg.PB_DIE_CFG 0, F.PB_DIE_CFG_STR_INT, 0, 6),
    (Reg.PB_BOOST 0, F.PB_BOOST_BOOST_T, 4, 40), (Reg.PB_BOOST 0, F.PB_BOOST_BOOST_REL, 1, 50), (Reg.PB_BOOST 0, F.PB_BOOST_BOOST_GAP, 1, 100),
    (Reg.PB_BOOST 0, F.PB_BOOST_SETTLE, 1, 255), (Reg.PB_STUCK_CFG, F.PB_STUCK_CFG_STUCK, 1, 255),
    (Reg.PB_PART_CFG 0, F.PB_PART_CFG_SAFE_N, 1, 1024), (Reg.PB_PART_CFG 0, F.PB_PART_CFG_FSTEP, 1, 255),
    (Reg.PB_PART_CFG 0, F.PB_PART_CFG_FSTEP_T, 1, 255),
    (Reg.EST_CFG, F.EST_CFG_W, 1, 63), (Reg.EST_CFG, F.EST_CFG_CONF_THR, 1, 255), (Reg.EST_CFG, F.EST_CFG_NCR_T, 1, 255),
    (Reg.EST_CRACK_CFG, F.EST_CRACK_CFG_DRIFT_MARGIN, 1, 100), (Reg.EST_CRACK_CFG, F.EST_CRACK_CFG_DRIFT_T, 1, 255),
    (Reg.EST_CRACK_CFG, F.EST_CRACK_CFG_STEP_THR, 1, 15), (Reg.EST_CRACK_CFG, F.EST_CRACK_CFG_STEP_CONFIRM, 1, 15),
    (Reg.EST_CRACK_CFG, F.EST_CRACK_CFG_DERATE, 1, 7), (Reg.EST_CMD, F.EST_CMD_REGION, 0, 127), (Reg.EST_CMD, F.EST_CMD_OP, 0, 2),
    (Reg.EST_CMD, F.EST_CMD_CAP_T, 10, 255) ]

/-- Tables 10.10, 11.8. -/
def rangesCap : List FieldRange :=
  [ (Reg.CAP_REQ 0, F.CAP_REQ_N, 1, 1024), (Reg.CAP_MAN 0, F.CAP_MAN_N, 1, 1024), (Reg.CAP_ENV 0, F.CAP_ENV_FMAX, 1, 1024),
    (Reg.CAP_ENV 0, F.CAP_ENV_FMIN, 1, 1024), (Reg.CAP_ENV2 0, F.CAP_ENV2_SLEW, 1, 255), (Reg.CAP_ENV2 0, F.CAP_ENV2_HEAD, 1, 255),
    (Reg.CAP_PWR_CFG 0, F.CAP_PWR_CFG_WEIGHT, 1, 255), (Reg.CAP_PWR_CFG 0, F.CAP_PWR_CFG_KPOW, 1, 255),
    (Reg.CAP_THM_CFG 0, F.CAP_THM_CFG_TTGT, 640, 2000), (Reg.CAP_THM_CFG 0, F.CAP_THM_CFG_TGUARD, 1, 15),
    (Reg.CAP_THM_CFG 0, F.CAP_THM_CFG_KTH, 1, 255), (Reg.CAP_GCEIL 0, F.CAP_GCEIL_N, 1, 1024),
    (Reg.CAP_IIN, F.CAP_IIN_EFF, 128, 255), (Reg.CAP_CONT_CFG, F.CAP_CONT_CFG_CONT_T, 1, 65535),
    (Reg.FQ_RAMP2, F.FQ_RAMP2_RWIN, 10, 10000), (Reg.FQ_PRE, F.FQ_PRE_PRE_LEAD, 20, 1000), (Reg.FQ_PRE, F.FQ_PRE_PRE_SLEW, 1, 255),
    (Reg.FQ_STAG, F.FQ_STAG_SLOTS_LOG, 0, 10), (Reg.FQ_STAG, F.FQ_STAG_SLOT_T, 1, 255), (Reg.FQ_STAG2, F.FQ_STAG2_S_STEP, 1, 255),
    (Reg.FQ_STAG2, F.FQ_STAG2_QUIET_LOG, 0, 10), (Reg.FQ_STAG2, F.FQ_STAG2_WATCH, 1, 15), (Reg.FQ_SCHED, F.FQ_SCHED_SCHED_TO, 1, 65535),
    (Reg.FQ_SCHED, F.FQ_SCHED_FR_MIN, 1, 255), (Reg.FQ_SCHED, F.FQ_SCHED_FR_MAX, 1, 255), (Reg.FQ_STEP 0, F.FQ_STEP_STEP_WIN, 1, 255),
    (Reg.FQ_PCFG 0, F.FQ_PCFG_FORCE_N, 1, 1024), (Reg.FQ_PCFG 0, F.FQ_PCFG_FORCE_T, 1, 255),
    (Reg.FQ_QCFG 0, F.FQ_QCFG_DEADLINE, 1, 65535), (Reg.FQ_QCFG 0, F.FQ_QCFG_WEIGHT, 1, 255), (Reg.BAL_ENV 0, F.BAL_ENV_SLEW, 1, 255) ]

/-- Tables 12.17, 13.12, 16.14. -/
def rangesTvl : List FieldRange :=
  [ (Reg.TVL_CFG 0, F.TVL_CFG_REPLAY_TO, 1, 255), (Reg.TVL_CFG 0, F.TVL_CFG_REPLAY_MAX, 1, 15), (Reg.TVL_CFG 0, F.TVL_CFG_CRED_TO, 1, 65535),
    (Reg.TVL_GCFG, F.TVL_GCFG_CELL_GAP, 1, 255), (Reg.TVL_GCFG, F.TVL_GCFG_RTO, 1, 255), (Reg.DOM_HB_CFG, F.DOM_HB_CFG_HB_LATE, 5, 50),
    (Reg.DOM_GROUP_CFG, F.DOM_GROUP_CFG_GCYCLE, 100, 1000), (Reg.DOM_GROUP_CFG, F.DOM_GROUP_CFG_GLEAD, 20, 255),
    (Reg.DOM_GROUP_CFG, F.DOM_GROUP_CFG_GT_LEAD, 2, 60), (Reg.HIR_TEL_CFG 0, F.HIR_TEL_CFG_PERIOD, 1, 65535) ]

/-- The field ranges of the block that holds a family. -/
def rangesAt (base : Nat) : List FieldRange :=
  match base / 0x10000 with
  | 0x1 => rangesTb
  | 0x12 => rangesCh
  | 0x14 => rangesProt
  | 0x15 => rangesProt
  | 0x16 => rangesPb
  | 0x18 => rangesPb
  | 0x19 => rangesCap
  | 0x1A => rangesCap
  | 0x1B => rangesCap
  | 0x1C => rangesTvl
  | 0x1E => rangesTvl
  | 0x24 => rangesTvl
  | _ => []

/-- Every field of the word lies in its range. -/
def okFields (base : Nat) (w : Word) : Bool :=
  (rangesAt base).all (fun r => r.1 != base || (r.2.2.1 ≤ fldOf w r.2.1 && fldOf w r.2.1 ≤ r.2.2.2))

/-! ## Range rules -/

/-- R345: the configured phases of a rail: those of its quads here less those that PH_CFG disables in the snapshot, and for
the master of a widened rail WIDE_PH less those disabled here. -/
def configuredPh (f : Frames) (g : Nat → Word) (r : Nat) : Nat :=
  let ps := (railQuadsF f r).flatMap quadPhases
  let dis := (ps.filter (fun p => fldOf (g (Reg.PH_CFG p)) F.PH_CFG_DISABLE == 1)).length
  (if wideRoleF f r = 1 then ff f 0x10 (0x20 + 2 * r) 2 else ps.length) - dis

/-- The channel whose CH and PROT registers apply to a channel: its rail channel, itself where it is unused. -/
def railOrSelf (f : Frames) (c : Nat) : Nat := if railOfF f c < 8 then railOfF f c else c

/-- R328, R345, R487 on the CH registers of channel `c`. -/
def okCh (f : Frames) (g : Nat → Word) (base c : Nat) (w : Word) : Bool :=
  if base = Reg.CH_VSET 0 then
    decide (1000 + fldOf w F.CH_VSET_VSET < 20 * fldOf (g (Reg.PROT_OV (railOrSelf f c))) F.PROT_OV_LIMIT)
  else if base = Reg.CH_PHASE 0 then decide (fldOf w F.CH_PHASE_SHED_THR < fldOf w F.CH_PHASE_ADD_THR)
  else if base = Reg.CH_DRIP 0 then decide (fldOf w F.CH_DRIP_ENTRY_I < fldOf w F.CH_DRIP_EXIT_I)
  else if base = Reg.CH_PHASE2 0 then
    let n := configuredPh f g c
    let mn := fldOf w F.CH_PHASE2_MIN_PH
    let fk := fldOf w F.CH_PHASE2_FRANK_PH
    !isRailF f c || (1 ≤ mn && mn ≤ n && (fk == 0 || (mn ≤ fk && fk ≤ n)))
  else if base = Reg.CH_TRIM_ENV 0 then decide (sext 8 (fldOf w F.CH_TRIM_ENV_FLOOR) ≤ sext 8 (fldOf w F.CH_TRIM_ENV_CEIL))
  else if base = Reg.CH_CTRL 0 then
    !(fldOf w F.CH_CTRL_DRIP_EN == 1 && railOfF f c < 8 && wideRoleF f (railOfF f c) != 0)
  else if base = Reg.CH_DITH 0 then decide (fldOf w F.CH_DITH_AMP ≤ fldOf (g (Reg.CH_SS c)) F.CH_SS_PG_WIN)
  else true

/-- R392 and R393. The bounds are the fuses and the strap. -/
def okProt (s : State) (f : Frames) (g : Nat → Word) (base c : Nat) (w : Word) : Bool :=
  if base = Reg.PROT_IPK 0 then
    let k := fldOf w F.PROT_IPK_IPK
    decide (k ≤ fld s Reg.PROT_FUSE F.PROT_FUSE_IPK_MAX)
      && (!isRailF f c || (railQuadsF f c).all (fun q => decide (k ≤ 2 * ff f 0x11 (8 * q + 4) 2)))
  else if base = Reg.PROT_OV 0 then decide (fldOf w F.PROT_OV_LIMIT * 5 ≤ 900 + 150 * fld s Reg.TOP_STRAP F.TOP_STRAP_OVC)
  else if base = Reg.PROT_OL 0 then
    let l := fldOf w F.PROT_OL_OL_LIMIT
    (fldOf w F.PROT_OL_OL_EN == 0 || l != 0)
      && (!isRailF f c || decide (l ≤ fldOf (g (Reg.PROT_IPK c)) F.PROT_IPK_IPK * configuredPh f g c))
  else if base = Reg.PROT_THERM then
    let t : Int := fldOf w F.PROT_THERM_STAGE_TLIM
    decide (fldOf w F.PROT_THERM_CRIT ≤ fld s Reg.PROT_FUSE F.PROT_FUSE_CRIT_MAX)
      && ((List.range 16).filter (fun q => quadChF f q < 8)).all (fun q =>
        decide ((t - 16 * sext 8 (ff f 0x11 (8 * q + 2) 1)) * ff f 0x11 (8 * q + 1) 1 < 1400 * 64))
  else if base = Reg.LAD_VIN_CFG then
    let a := fldOf w F.LAD_VIN_CFG_WARN
    let b := fldOf w F.LAD_VIN_CFG_RST
    decide (fld s Reg.LAD_FUSE_VIN F.LAD_VIN_CFG_WARN ≤ a) && decide (fld s Reg.LAD_FUSE_VIN F.LAD_VIN_CFG_RST ≤ b) && decide (b + 20 ≤ a)
  else if base = Reg.LAD_VAUX_CFG then
    let a := fldOf w F.LAD_VAUX_CFG_WARN
    let b := fldOf w F.LAD_VAUX_CFG_RST
    decide (fld s Reg.LAD_FUSE_VAUX F.LAD_VAUX_CFG_WARN ≤ a) && decide (fld s Reg.LAD_FUSE_VAUX F.LAD_VAUX_CFG_RST ≤ b) && decide (b + 10 ≤ a)
  else true

/-- R437: the messages per second of a die's lane 1, in 1/128. -/
def laneLoad (w : Word) (sites : Nat) : Nat :=
  sites * (1000000 * 2 ^ (7 - fldOf w F.PB_DIE_CFG_VREP_INT) + 100000 * 2 ^ (7 - fldOf w F.PB_DIE_CFG_TEMP_INT)
    + 1000000 * 2 ^ (7 - fldOf w F.PB_DIE_CFG_CPM_INT) + 2000000 * 2 ^ (7 - fldOf w F.PB_DIE_CFG_STR_INT))

/-- R437, R487, R520, R569. -/
def okLoops (f : Frames) (base c : Nat) (w : Word) : Bool :=
  if base = Reg.PB_DIE_CFG 0 then !dieHereF f c || decide (laneLoad w (dieSitesF f c) ≤ 45000000 * 128)
  else if base = Reg.EST_BASE 0 then fldOf w F.EST_BASE_VALID == 0 || fldOf w F.EST_BASE_BASE != 0
  else if base = Reg.CAP_ENV 0 then decide (fldOf w F.CAP_ENV_FMIN ≤ fldOf w F.CAP_ENV_FMAX)
  else if base = Reg.FQ_STAG2 then decide (fldOf w F.FQ_STAG2_S_MIN ≤ fldOf w F.FQ_STAG2_S_MAX)
  else if base = Reg.FQ_SCHED then decide (fldOf w F.FQ_SCHED_FR_MIN ≤ 100 * fldOf w F.FQ_SCHED_FR_MAX)
  else if base = Reg.BAL_ENV 0 then decide (fldOf w F.BAL_ENV_FLOOR ≤ fldOf w F.BAL_ENV_CEIL)
  else true

/-- The plane of a 64 KiB region of firmware SRAM (Table 14.7): 0 control, 1 data, 2 management, 3 none. -/
def sramPlaneF (f : Frames) (r : Nat) : Nat := ff f 0x09 (r / 4) 1 / 4 ^ (r % 4) % 4

/-- R682: an area of firmware SRAM lies in data regions. -/
def inDataRegions (f : Frames) (off size : Nat) : Bool :=
  decide (off + size ≤ 2 ^ 22)
    && ((List.range ((off + size - 1) / 65536 - off / 65536 + 1)).all (fun k => sramPlaneF f (off / 65536 + k) == 1))

/-- R641, R673, R682. -/
def okDom (f : Frames) (g : Nat → Word) (base : Nat) (w : Word) : Bool :=
  if base = Reg.DOM_EPOCH_CFG then
    let d := fldOf w F.DOM_EPOCH_CFG_DEMAND_AT
    let a := fldOf w F.DOM_EPOCH_CFG_ALLOC_AT
    let l := fldOf w F.DOM_EPOCH_CFG_ALLOC_LEAD
    decide (a < d) && decide (l < a) && decide (20 ≤ l) && decide (d ≤ 999)
  else if base = Reg.DOM_GROUP_CFG then decide (fldOf (g Reg.TVL_GCFG) F.TVL_GCFG_RTO < fldOf w F.DOM_GROUP_CFG_GCYCLE)
  else if base = Reg.DOM_ABUF then !inDomainF f || inDataRegions f (fldOf w F.DOM_ABUF_OFFSET * 64) 8192
  else if base = Reg.DOM_GBUF then !inDomainF f || inDataRegions f (fldOf w F.DOM_GBUF_OFFSET * 64) 512
  else true

/-- The word of the HOLD register at an offset is in range: its fields, then the rules of its block; `g` gives the value that
each register would hold. -/
def okHold (s : State) (f : Frames) (g : Nat → Word) (off : Nat) : Bool :=
  match regFind off with
  | none => true
  | some r =>
    let w := g off
    let c := famIx r off
    let blk := r.base / 0x10000
    okFields r.base w &&
      (if blk = 0x12 then okCh f g r.base c w
       else if blk = 0x14 ∨ blk = 0x15 then okProt s f g r.base c w
       else if blk = 0x8 then (if r.base = Reg.FAB_PARAM 0 0 then okFabParam f g c (famIx2 r off) else true)
       else if blk = 0x1E then okDom f g r.base w
       else okLoops f r.base c w)

/-- R53: the offset of the first failing register, in rising offset, of the groups of a mask. -/
def firstFail (s : State) (f : Frames) (g : Nat → Word) (m : Nat) : Option Nat :=
  ((maskRegs f m).filter (fun off => !okHold s f g off)).min?

end Sys2Proof.Machine
end

