-- ==== Sys2Proof/Machine/CommitBase.lean ====
section
/-! DEFINITION. Bookkeeping of the commit port: entries, status, pending tick commits and their cancellation (R52, R55, R57, R81, R131,
R183). -/

namespace Sys2Proof.Machine

/-- RESULT codes of TOP_COMMIT_STATUS (Table 1.17). -/
abbrev resPending : Nat := 1
abbrev resDone : Nat := 2
abbrev resLate : Nat := 3
abbrev resFar : Nat := 4
abbrev resBusy : Nat := 5
abbrev resRange : Nat := 6
abbrev resOwner : Nat := 7
abbrev resCancelled : Nat := 8
abbrev resEmpty : Nat := 9

def commitResult (s : State) (r : Nat) : State := setF s Reg.TOP_COMMIT_STATUS F.TOP_COMMIT_STATUS_RESULT r

/-- R57: the commit entry; UNIT is the mode (0 immediate, 1 tick, 2 image application), ARG the result, VALUE the mask, VALUE2 the
tick. -/
def commitEntry (s : State) (mask mode result tick : Nat) (unaligned : Bool := false) : State :=
  record s .mgmt 0x03 0x01 mode result mask tick (if unaligned then 4 else 0)

/-- SEQ of TOP_COMMIT_STATUS goes up, modulo 256. -/
def commitSeq (s : State) : State :=
  setF s Reg.TOP_COMMIT_STATUS F.TOP_COMMIT_STATUS_SEQ ((fld s Reg.TOP_COMMIT_STATUS F.TOP_COMMIT_STATUS_SEQ + 1) % 256)

/-- Discard the pending tick commits that meet a mask, each with a commit entry of result CANCELLED; a pending partial image
that meets it is discarded too, and reported in SEC_IMG_STATUS (R55, R56, R235). -/
def cancelMask (s : State) (m : Nat) : State :=
  let hit (k : Nat) : Bool := k &&& m != 0
  let gone := s.top.commits.filter (fun c => hit c.mask)
  let img := hit (imgGroups s)
  if gone = [] ∧ !img then s
  else
    let s := { s with top := { s.top with commits := s.top.commits.filter (fun c => !hit c.mask) } }
    let s := forEach gone s (fun s c => commitEntry s c.mask 1 resCancelled c.tick)
    let s := if img then loadEnd (commitEntry s (imgGroups s) 1 resCancelled s.img.pendTick) 0x62 0 0xFFFF else s
    pendRefresh (commitResult s resCancelled)

/-- R81, R131, R183: every pending tick commit. -/
def cancelAllCommits (s : State) : State := cancelMask s allGroups

/-- A tick commit or an announced domain commit is pending (TB_STATUS.COMMIT_PENDING, R122). -/
def commitPending (s : State) : Bool := pendMask s != 0 || !s.dom.commits.isEmpty

end Sys2Proof.Machine
end

