-- ==== Sys2Proof/Machine/BtOps.lean ====
section
/-! DEFINITION. The budget table: words and bytes of its banks, sealing, preparing, and the derates of the local section (ch. 1, R472). -/

namespace Sys2Proof.Machine

abbrev btWords : Nat := 2192

def bw (b : Tab Word) (i : Nat) : Nat := (tabGet 0 b i).toNat

def setBw (b : Tab Word) (i v : Nat) : Tab Word := tabSet 0 b i (BitVec.ofNat 32 v)

def setBw64 (b : Tab Word) (i v : Nat) : Tab Word := setBw (setBw b i (v % 2 ^ 32)) (i + 1) (v / 2 ^ 32 % 2 ^ 32)

def actBt (s : State) : Tab Word := if s.bt.active1 then s.bt.bank1 else s.bt.bank0
def pendBt (s : State) : Tab Word := if s.bt.active1 then s.bt.bank0 else s.bt.bank1

def setActBt (s : State) (b : Tab Word) : State :=
  if s.bt.active1 then { s with bt := { s.bt with bank1 := b } } else { s with bt := { s.bt with bank0 := b } }
def setPendBt (s : State) (b : Tab Word) : State :=
  if s.bt.active1 then { s with bt := { s.bt with bank0 := b } } else { s with bt := { s.bt with bank1 := b } }

/-- Header fields (Table 1.7). -/
def btEpoch (b : Tab Word) : Nat := bw b 0 + bw b 1 * 2 ^ 32
def btFlags (b : Tab Word) : Nat := bw b 5 / 2 ^ 16
def btSealed (b : Tab Word) : Bool := bitOf (btFlags b) 0
def btComplete (b : Tab Word) : Bool := bitOf (btFlags b) 1
def btLocal (b : Tab Word) : Bool := bitOf (btFlags b) 2
def btFlagSet (b : Tab Word) (k : Nat) : Tab Word := setBw b 5 (bw b 5 ||| 2 ^ (16 + k))

/-- A node entry of the domain section, as 64 bits. -/
def btNode (b : Tab Word) (n : Nat) : Nat := bw b (16 + 2 * n) + bw b (17 + 2 * n) * 2 ^ 32

/-- CHECK over the bank as it stands. -/
def btCheck (b : Tab Word) : Nat :=
  crc32c ((List.range 15 ++ (List.range (btWords - 16)).map (· + 16)).flatMap (fun i => leBytes 4 (bw b i)))

def btSetCheck (b : Tab Word) : Tab Word := setBw b 15 (btCheck b)

/-- R62: the pending bank is sealed once both flags are set. -/
def sealTry (s : State) : State :=
  let b := pendBt s
  if btComplete b && btLocal b && !btSealed b then setPendBt s (btSetCheck (btFlagSet b 0)) else s

/-- A header for an epoch, without flags. -/
def btHeader (b : Tab Word) (e mepoch mnode : Nat) : Tab Word :=
  setBw (setBw (setBw64 (setBw64 b 0 e) 2 (e * 1000000)) 4 mepoch) 5 (mnode % 2 ^ 16 + bw b 5 / 2 ^ 16 * 2 ^ 16)

/-- A node entry as the engine writes it: all zeros where the node is no member (R60). -/
def nodeEntry (e : Nat) : Nat := if bitOf e 63 then e else 0

/-- The retained segments of the active bank and of the pending bank (R650). -/
def segsOf (s : State) (act : Bool) : SegSet := if s.bt.active1 == act then s.dom.segs1 else s.dom.segs0

def setSegs (s : State) (act : Bool) (g : SegSet) : State :=
  if s.bt.active1 == act then { s with dom := { s.dom with segs1 := g } } else { s with dom := { s.dom with segs0 := g } }

/-- R66: the pending bank is cleared, and in no domain prepared for epoch `e`. -/
def btPrepare (s : State) (e : Nat) : State :=
  let s := setSegs s false {}
  if inDomain s then setPendBt s [] else setPendBt s (btFlagSet (btHeader [] e 0 0xFFFF) 1)

/-- R472: the highest FCEIL that the derates of the partition's regions allow, and whether one applies. -/
def derateCeil (s : State) (p : Nat) : Nat × Bool :=
  let f := framesOf s
  if (regions s).any (fun k => (regionOf s k).derated && (regionSitesF f k).any (fun i => siteHereF f (i / 64) (i % 64) && sitePartF f (i / 64) (i % 64) == p && partDieF f p == i / 64)) then
    (1024 - 32 * crackF s F.EST_CRACK_CFG_DERATE, true)
  else (1024, false)

/-- The derates of the local section that is sealed next. -/
def applyDerates (s : State) : State :=
  setPendBt s ((parts s).foldl (fun b p =>
    let (c, on) := derateCeil s p
    if on then
      let w := bw b (0x810 + 4 * p + 1)
      setBw b (0x810 + 4 * p + 1) ((w - w % 2 ^ 11 + min (w % 2 ^ 11) c) ||| 2 ^ 16)
    else b) (pendBt s))

/-- Bit 0 of DOM_BT_SEAL: LOCAL_SEALED of the pending bank. A sealed bank takes nothing more. -/
def localSealed (s : State) : State :=
  if !s.img.applied || btSealed (pendBt s) then s
  else
    let s := applyDerates s
    sealTry (setPendBt s (btFlagSet (pendBt s) 2))

/-- R63: the pending bank may be swapped in at the tick of epoch `e`. -/
def btValid (s : State) (e : Nat) : Bool :=
  let b := pendBt s
  btSealed b && btEpoch b == e && bw b 15 == btCheck b

/-- R63–R66: the commit tick of epoch `e`. -/
def btTick (s : State) (e : Nat) : State :=
  let s := { s with bt := { s.bt with last := e }, dom := { s.dom with mEpochs := s.dom.mEpochs + 1 } }
  if btValid s e && !s.img.domStale then
    let s := { s with bt := { s.bt with active1 := !s.bt.active1, floors := false, stale := 0 } }
    btPrepare (capture s 0x0F false (now s)) (e + 1)
  else
    let s := { s with bt := { s.bt with stale := min (s.bt.stale + 1) 255 }, img := { s.img with domStale := false } }
    let s := bump s Reg.DOM_BT_STALE_CNT wordF
    btPrepare (record s .mgmt 0x03 0x04 0 0 e (e * 1000000)) (e + 1)

/-- R95, Table 1.22: the banks when an image is applied. -/
def btApply (s : State) : State :=
  let e := now s / 1000000
  let b := btHeader [] e 0 0xFFFF
  let b := setBw b 5 (bw b 5 ||| 0x70000)
  let b := (parts s).foldl (fun b p =>
    let f := aF s (Reg.DOM_PFLOOR p) F.DOM_PFLOOR_FLOOR
    setBw (setBw b (0x810 + 4 * p) (if f = 0 then 0xFFFF else f + f * 2 ^ 16)) (0x810 + 4 * p + 1) 1024) b
  let s := { s with bt := { s.bt with floors := false, stale := 0, last := e } }
  let s := setSegs (setActBt s (btSetCheck b)) true {}
  btPrepare s (e + 1)

end Sys2Proof.Machine
end

