-- ==== Sys2Proof/Machine/FwcOps.lean ====
section
/-! DEFINITION. The firmware complex (ch. 14): the core address map, plane maps, coherent memory, caches, store buffers and the
mailbox block. -/

namespace Sys2Proof.Machine

/-! ## Addresses and plane maps (Tables 14.2, 14.7) -/

abbrev sramSize : Nat := 4194304
abbrev ringSpan : Nat := 1048576

/-- What a core address names; `mem` gives the index into normal memory (SRAM from 0, ring memory from 4 MiB). -/
inductive Target where
  | tcm (off : Nat)
  | mem (ix : Nat) (cached : Bool)
  | reg (off : Nat)
  | mbx (off : Nat)
  | timer (off : Nat)
  | none
  deriving DecidableEq, Repr

/-- R684: the target of an access of `n` bytes. -/
def targetOf (a n : Nat) : Target :=
  if a + n ≤ 0x10000 then .tcm a
  else if 0x10000000 ≤ a ∧ a + n ≤ 0x10400000 then .mem (a - 0x10000000) true
  else if 0x11000000 ≤ a ∧ a + n ≤ 0x11100000 then .mem (a - 0x11000000 + sramSize) true
  else if 0x20000000 ≤ a ∧ a + n ≤ 0x20400000 then .mem (a - 0x20000000) false
  else if 0x21000000 ≤ a ∧ a + n ≤ 0x21100000 then .mem (a - 0x21000000 + sramSize) false
  else if 0x40000000 ≤ a ∧ a + n ≤ 0x40300000 then .reg (a - 0x40000000)
  else if 0x50000000 ≤ a ∧ a + n ≤ 0x50001000 then .mbx (a - 0x50000000)
  else if 0x50001000 ≤ a ∧ a + n ≤ 0x50002000 then .timer (a - 0x50001000)
  else .none

/-- The cached core address of an index of normal memory. -/
def memAddr (ix : Nat) : Nat := if ix < sramSize then 0x10000000 + ix else 0x11000000 + (ix - sramSize)

/-- The plane of a byte of normal memory: 0 control, 1 data, 2 management, 3 none. -/
def memPlaneF (f : Frames) (ix : Nat) : Nat :=
  if ix < sramSize then sramPlaneF f (ix / 65536)
  else ff f 0x09 (0x10 + (ix - sramSize) / 4096 / 4) 1 / 4 ^ ((ix - sramSize) / 4096 % 4) % 4

/-- The plane of a flag word. -/
def flagPlaneF (f : Frames) (k : Nat) : Nat := ff f 0x09 (0x50 + k / 4) 1 / 4 ^ (k % 4) % 4

/-- Every byte of a range of normal memory lies in regions of a plane. -/
def memIn (s : State) (plane ix n : Nat) : Bool :=
  (List.range (if n = 0 then 0 else (ix + n - 1) / 4096 - ix / 4096 + 1)).all (fun k => memPlaneF (framesOf s) ((ix / 4096 + k) * 4096) == plane)

/-- Fields of core entry n of frame 0x08. -/
def coreEnF (f : Frames) (n : Nat) : Bool := n < 8 && bitOf (ff f 0x08 (0x10 + 16 * n) 1) 0
def coreRoleF (f : Frames) (n : Nat) : Nat := ff f 0x08 (0x11 + 16 * n) 1
def coreRailsF (f : Frames) (n : Nat) : Nat := ff f 0x08 (0x12 + 16 * n) 1
def coreTagsF (f : Frames) (n : Nat) : Nat := ff f 0x08 (0x13 + 16 * n) 1 % 8
def coreIwaysF (f : Frames) (n : Nat) : Nat := ff f 0x08 (0x14 + 16 * n) 1
def coreDwaysF (f : Frames) (n : Nat) : Nat := ff f 0x08 (0x15 + 16 * n) 1
def coreMissF (f : Frames) (n : Nat) : Nat := ff f 0x08 (0x16 + 16 * n) 1

/-- TAGS of core n; SEC (index 8) has the management tag (R708). -/
def coreTags (s : State) (n : Nat) : Nat := if n = 8 then 4 else if coreEnF (framesOf s) n then coreTagsF (framesOf s) n else 0

/-- The present tag of a core or of SEC. -/
def tagOf (s : State) (n : Nat) : Nat := if n = 8 then 2 else (coreOf s n).tag

/-! ## Coherent memory (R686) -/

abbrev lineSize : Nat := 64

def dirtyOf (s : State) (line : Nat) : DirtyLine := tabGet { core := 0, wb := false, data := [] } s.fwc.dirty line

/-- The value of a byte of normal memory as every agent reads it. -/
def memByte (s : State) (ix : Nat) : Byte :=
  let d := (dirtyOf s (ix / lineSize)).data
  if d = [] then tabGet 0 s.fwc.mem ix else d.getD (ix % lineSize) 0

def memRead (s : State) (ix n : Nat) : List Byte := (List.range n).map (fun i => memByte s (ix + i))

/-- Bytes into the memory arrays themselves. -/
def memPoke (s : State) (ix : Nat) (b : List Byte) : State :=
  { s with fwc := { s.fwc with mem := (List.range b.length).foldl (fun t i => tabSet 0 t (ix + i) (b.getD i 0)) s.fwc.mem } }

def dropDirty (s : State) (line : Nat) : State := { s with fwc := { s.fwc with dirty := tabErase s.fwc.dirty line } }

/-- A dirty line reaches memory and leaves the cache or write-back buffer that held it. -/
def flushLine (s : State) (line : Nat) : State :=
  let d := dirtyOf s line
  if d.data = [] then s
  else
    let s := memPoke (dropDirty s line) (line * lineSize) d.data
    setCore s d.core (fun c => { c with wb := c.wb.filter (fun l => l != line) })

/-- The lines that a range touches. -/
def linesOf (ix n : Nat) : List Nat :=
  if n = 0 then [] else (List.range ((ix + n - 1) / lineSize - ix / lineSize + 1)).map (fun k => ix / lineSize + k)

/-- R694, Table 14.4: ways and sets of a cache. -/
def cacheWays (c : CoreSt) (ic : Bool) : Nat := 2 ^ (if ic then c.iways else c.dways)
def cacheSets (c : CoreSt) (ic : Bool) : Nat := 512 / cacheWays c ic
def cacheSet (c : CoreSt) (ic : Bool) (line : Nat) : CacheSet := tabGet {} (if ic then c.iset else c.dset) (line % cacheSets c ic)
def putCacheSet (c : CoreSt) (ic : Bool) (line : Nat) (x : CacheSet) : CoreSt :=
  if ic then { c with iset := tabSet {} c.iset (line % cacheSets c ic) x } else { c with dset := tabSet {} c.dset (line % cacheSets c ic) x }

/-- The way that holds a line. -/
def wayOf (c : CoreSt) (ic : Bool) (line : Nat) : Option Nat := ((cacheSet c ic line).ways.find? (fun w => w.2 == line + 1)).map (fun w => w.1)

def cached (s : State) (n : Nat) (ic : Bool) (line : Nat) : Bool := (wayOf (coreOf s n) ic line).isSome

/-- The tree pseudo-LRU of 2^k ways: the way its bits point to, and its bits after a use of a way. -/
def plruVictim (k t : Nat) : Nat :=
  ((List.range k).foldl (fun (x : Nat × Nat) _ => (2 * x.1 + b2n (bitOf t x.1), 2 * x.2 + b2n (bitOf t x.1))) (1, 0)).2
def plruTouch (k way t : Nat) : Nat :=
  ((List.range k).foldl (fun (x : Nat × Nat) l =>
    let b := way / 2 ^ (k - 1 - l) % 2
    (2 * x.1 + b, if b = 1 then x.2 - (if bitOf x.2 x.1 then 2 ^ x.1 else 0) else x.2 ||| 2 ^ x.1)) (1, t)).2

/-- A line leaves a cache's tags. -/
def untag (c : CoreSt) (ic : Bool) (line : Nat) : CoreSt :=
  match wayOf c ic line with
  | some w => putCacheSet c ic line { cacheSet c ic line with ways := tabErase (cacheSet c ic line).ways w }
  | none => c

/-- R697: a dirty victim goes to the core's write-back buffer of 4 lines; a full one drains its oldest line first. -/
def toWb (s : State) (n line : Nat) : State :=
  let s := match (coreOf s n).wb with
    | l :: _ => if 4 ≤ (coreOf s n).wb.length then flushLine s l else s
    | [] => s
  let d := dirtyOf s line
  let s := { s with fwc := { s.fwc with dirty := tabSet { core := 0, wb := false, data := [] } s.fwc.dirty line { d with wb := true } } }
  setCore s n (fun c => { c with wb := c.wb ++ [line] })

/-- R694: a line arrives in a cache of core n: an empty way, the lowest first, otherwise the victim of the pseudo-LRU. -/
def fillLine (s : State) (n : Nat) (ic : Bool) (line : Nat) : State :=
  let c := coreOf s n
  let k := if ic then c.iways else c.dways
  let x := cacheSet c ic line
  match wayOf c ic line with
  | some w => setCore s n (fun c => putCacheSet c ic line { x with plru := plruTouch k w x.plru })
  | none =>
    let w := ((List.range (2 ^ k)).find? (fun w => tabGet 0 x.ways w == 0)).getD (plruVictim k x.plru)
    let old := tabGet 0 x.ways w
    let s := if old ≠ 0 ∧ !ic ∧ (dirtyOf s (old - 1)).data ≠ [] ∧ (dirtyOf s (old - 1)).core = n ∧ !(dirtyOf s (old - 1)).wb then toWb s n (old - 1) else s
    setCore s n (fun c => putCacheSet c ic line { ways := tabSet 0 x.ways w (line + 1), plru := plruTouch k w x.plru })

/-- Another agent than core `by_` (8 and above for none of the cores) writes a line: copies elsewhere are invalidated, fills under way
are marked (R719), and reservations on the granule are lost (R704). -/
def othersLose (s : State) (by_ line : Nat) : State :=
  forEach ((List.range 8).filter (fun n => n != by_)) s (fun s n => setCore s n (fun c =>
    let c := untag c false line
    { c with miss := c.miss.map (fun m => if m.line = line ∧ !m.icache then { m with stale := true } else m)
             resv := if c.resv = some line then none else c.resv }))

/-- A write that goes past the caches: uncached aliases, SEC, host accesses and engines. -/
def memWrite (s : State) (by_ ix : Nat) (b : List Byte) : State :=
  let s := forEach (linesOf ix b.length) s (fun s l =>
    let s := flushLine (othersLose s by_ l) l
    if by_ < 8 then setCore s by_ (fun c => untag c false l) else s)
  memPoke s ix b

/-- One line's part of a store becomes visible through the data cache of core n: write-allocate, then dirty. -/
def cacheStore (s : State) (n ix : Nat) (b : List Byte) : State :=
  forEach (linesOf ix b.length) s (fun s l =>
    let s := othersLose s n l
    let own := (dirtyOf s l).core = n ∧ !(dirtyOf s l).wb ∧ (dirtyOf s l).data ≠ []
    let s := if own then s else flushLine s l
    let s := if cached s n false l then s else bump s (Reg.FWC_MISS_CNT n) F.FWC_MISS_CNT_DMISS
    let s := fillLine s n false l
    let d := (List.range lineSize).map (fun i =>
      let a := l * lineSize + i
      if ix ≤ a ∧ a < ix + b.length then b.getD (a - ix) 0 else memByte s a)
    { s with fwc := { s.fwc with dirty := tabSet { core := 0, wb := false, data := [] } s.fwc.dirty l { core := n, wb := false, data := d } } })

/-- A store of core n to normal memory becomes visible to all agents. -/
def memStore (s : State) (n : Nat) (a : Nat) (b : List Byte) : State :=
  match targetOf a b.length with
  | .mem ix true => cacheStore s n ix b
  | .mem ix false => memWrite s n ix b
  | _ => s

/-! ## Store buffer (R699, R700, R701) -/

/-- The oldest buffered store becomes visible. -/
def drainOne (s : State) (n : Nat) : State :=
  match (coreOf s n).sb with
  | [] => s
  | e :: rest => memStore (setCore s n (fun c => { c with sb := rest })) n e.addr e.bytes

def drainAll (s : State) (n : Nat) : State := forEach (coreOf s n).sb s (fun s _ => drainOne s n)

/-- A store enters the buffer of 8; a full buffer drains its oldest store first. -/
def bufStore (s : State) (n a : Nat) (b : List Byte) : State :=
  let s := if 8 ≤ (coreOf s n).sb.length then drainOne s n else s
  setCore s n (fun c => { c with sb := c.sb ++ [{ addr := a, bytes := b }] })

/-- The normal-memory index of a buffered store's address. -/
def memIx (a n : Nat) : Option Nat :=
  match targetOf a n with
  | .mem ix _ => some ix
  | _ => none

/-- R699: what a load of core n returns: memory, under its own buffered stores, newest on top. -/
def loadBytes (s : State) (n ix len : Nat) : List Byte :=
  (List.range len).map (fun i =>
    (coreOf s n).sb.foldl (fun v e =>
      match memIx e.addr e.bytes.length with
      | some j => if j ≤ ix + i ∧ ix + i < j + e.bytes.length then e.bytes.getD (ix + i - j) 0 else v
      | none => v) (memByte s (ix + i)))

/-! ## Cores -/

/-- The core executes instructions; it stops while CLK_FW has no source (R965). -/
def coreRuns (s : State) (n : Nat) : Bool :=
  fwOn s && match (coreOf s n).state with
  | .run => !(coreOf s n).halted
  | .ready => !(coreOf s n).halted
  | .quiesce => !(coreOf s n).halted
  | _ => false

/-- A core takes an exception: the answer, and the loss of its reservation (R704). -/
def coreFault (s : State) (n cause : Nat) : State := setCore { s with resp := .fault cause } n (fun c => { c with resv := none, user := false })

/-- R695, R696: no access of the core is performed while a blocking cache waits for a line. -/
def coreStalled (s : State) (n : Nat) : Bool :=
  let c := coreOf s n
  c.miss.any (fun m => if m.icache then c.iblk else c.dblk)

/-- R84: a write of core n outside its plane window is suppressed, counted and recorded, and the core faults. UNIT is 64 + n: the unit of
core n is 64 + n, of SEC (n = 8) 72, of the SMBus target (n = 9) 73. VALUE is the register's offset (of a
memory write, its address), VALUE2 the address (DEDUCED, log entry 12: Table 18.3 names the initiator only). -/
def coreViol (s : State) (n tag off addr cause : Nat) : State :=
  let s := raise s Reg.TOP_PLANE_VIOL ⟨1 + tag, 1⟩
  let s := bump s Reg.TOP_PLANE_VIOL_CNT ⟨0, 16⟩
  let s := record s .mgmt 0x03 0x03 (64 + n) tag off addr
  if n < 8 then coreFault s n cause else s

/-- R720: a double-bit error in firmware SRAM or ring memory, found by core `unit` or by an agent that is no core (0). -/
def memUe (s : State) (unit ix : Nat) : State :=
  let s := raise (bump s Reg.FWC_SRAM_ECC F.FWC_SRAM_ECC_UNCORR) Reg.FWC_EVENT F.FWC_EVENT_SRAM_UE
  boundaryFail (record s .mgmt 0x10 0x04 unit 0 (memAddr ix) 0) 15 unit (memAddr ix)

/-! ## Mailbox block (R707–R712) -/

/-- R709: bits of MBX_DB_n are set. -/
def dbSet (s : State) (n bits : Nat) : State := setMbx s n (fun m => { m with db := m.db ||| BitVec.ofNat 32 bits })

/-- R711: a word is appended, or counted lost. -/
def mbxPush (s : State) (n : Nat) (w : Word) : State :=
  if 16 ≤ (mbxOf s n).queue.length then
    raise (setMbx s n (fun m => { m with lost := min (m.lost + 1) 65535 })) Reg.FWC_EVENT F.FWC_EVENT_MSG_OVERFLOW
  else setMbx s n (fun m => { m with queue := m.queue ++ [w] })

/-- R712: the oldest word, removed. -/
def mbxPop (s : State) (n : Nat) : State :=
  match (mbxOf s n).queue with
  | [] => { s with resp := .word 0 }
  | w :: rest => setMbx { s with resp := .word w } n (fun m => { m with queue := rest })

/-- A writer's tag lies in the TAGS of core n (R708). -/
def tagIn (s : State) (writer n : Nat) : Bool := bitOf (coreTags s n) (tagOf s writer)

/-- A write of the mailbox block by core `w` (8 for SEC) at an offset. -/
def mbxWrite (s : State) (w off : Nat) (v : Word) : State :=
  let addr := 0x50000000 + off
  let bad := coreViol s w (tagOf s w) addr addr 7
  if off < 0x100 then
    let k := off / 4
    if flagPlaneF (framesOf s) k = tagOf s w then { s with fwc := { s.fwc with flags := tabSet 0 s.fwc.flags k v } } else bad
  else if 0x200 ≤ off ∧ off < 0x200 + 9 * 0x20 then
    let n := (off - 0x200) / 0x20
    match (off - 0x200) % 0x20 with
    | 0x00 => if tagIn s w n then dbSet s n v.toNat else bad
    | 0x04 => if w = n then setMbx s n (fun m => { m with db := m.db &&& ~~~v }) else bad
    | 0x08 => if w = n then setMbx s n (fun m => { m with en := v }) else bad
    | 0x0C => if tagIn s w n then mbxPush s n v else bad
    | 0x14 => if w = n then setMbx s n (fun m => { m with msgIe := bitOf v.toNat 8 }) else bad
    | _ => s
  else s

/-- A read of the mailbox block. -/
def mbxRead (s : State) (w off : Nat) : State :=
  let ans (s : State) (v : Word) : State := { s with resp := .word v }
  if off < 0x100 then
    let k := off / 4
    if flagPlaneF (framesOf s) k = tagOf s w then ans s (tabGet 0 s.fwc.flags k) else if w < 8 then coreFault s w 5 else ans s 0
  else if 0x200 ≤ off ∧ off < 0x200 + 9 * 0x20 then
    let n := (off - 0x200) / 0x20
    let m := mbxOf s n
    match (off - 0x200) % 0x20 with
    | 0x04 => ans s m.db
    | 0x08 => ans s m.en
    | 0x10 => if w = n then mbxPop s n else if w < 8 then coreFault s w 5 else ans s 0
    | 0x14 =>
      let v := m.queue.length + 256 * b2n m.msgIe + 65536 * m.lost
      setMbx (ans s (BitVec.ofNat 32 v)) n (fun m => { m with lost := 0 })
    | _ => ans s 0
  else ans s 0

/-- Interrupt lines of core n (R709, R713). -/
def softIrq (s : State) (n : Nat) : Bool :=
  let m := mbxOf s n
  (m.db &&& m.en) != 0 || (m.msgIe && m.queue != [])
def timerIrq (s : State) (n : Nat) : Bool := decide (tabGet 0 s.fwc.mtimecmp n ≤ s.fwc.mtime)

end Sys2Proof.Machine
end

