-- ==== Sys2Proof/Machine/PhaseOps.lean ====
section
/-! DEFINITION. Shared operations of the phase engine: the target of the rail loop, the choice of phases for add and shed,
calibration removals, Drip exit, stage faults and the loop's step at each fast sample (ch. 6). -/

namespace Sys2Proof.Machine

/-! ## Target (R311, R313) -/

/-- 1/16 mV in units of 5 nV. -/
abbrev u16mV : Int := 12500

/-- The load-line drop, 5 nV: I (1/16 A) × code × 0.5 µΩ. -/
def llDrop (i : Int) (code : Nat) : Int := i * code * 25 / 4

/-- The OV limit of a rail, 5 nV. -/
def ovLimit (s : State) (r : Nat) : Int := (aF s (Reg.PROT_OV r) F.PROT_OV_LIMIT * 1000000 : Nat)

/-- V_target of R311, clamped as R313 gives, 5 nV. -/
def vtarget (s : State) (r : Nat) : Int :=
  let c := chOf s r
  let i := if c.drip = .sleep then c.burstI else railI s r
  let v := c.vref + c.vtrim + c.vdither + tabGet 0 s.fq.vpre r - llDrop i (aF s (Reg.CH_LL r) F.CH_LL_LL)
  clampI 0 (ovLimit s r - 5000000) v

/-- The present target as CH_VTARGET_n reports it, 1/16 mV. -/
def vtarget16 (s : State) (r : Nat) : Int := vtarget s r / u16mV

/-! ## Choosing phases (R305–R309) -/

def phTemp (s : State) (p : Nat) : Int := sext 16 (fld s (Reg.PH_T p) F.PH_T_VALUE)

/-- The coolest phase of a list, ties to the lowest number. -/
def coolest (s : State) : List Nat → Option Nat
  | [] => none
  | p :: t => match coolest s t with
    | none => some p
    | some q => if phTemp s p ≤ phTemp s q then some p else some q

/-- The hottest phase of a list, ties to the highest number. -/
def hottest (s : State) : List Nat → Option Nat
  | [] => none
  | p :: t => match hottest s t with
    | none => some p
    | some q => if phTemp s q < phTemp s p then some p else some q

def inactivePh (s : State) (r : Nat) : List Nat := (assigned s r).filter (fun p => !(phOf s p).active)

/-- Add one phase of this device: the coolest inactive assigned phase (R309). The schedule follows once every phase is added. -/
def addOne (s : State) (r : Nat) : State :=
  match coolest s (inactivePh s r) with
  | some p => setPh s p (fun x => { x with active := true })
  | none => s

/-- Shed one phase of this device: the hottest active phase (R309) that no calibration has taken out of service. It keeps its slot until
the next period start, from which the new schedule applies (R294). -/
def shedOne (s : State) (r : Nat) : State :=
  match hottest s ((activePh s r).filter (fun p => !(phOf s p).cal)) with
  | some p => setPh s p (fun x => if x.crowbar then x else { x with active := false })
  | none => s

/-- Bring this device's share of the active phases to `n`. -/
def shareTo (s : State) (r n : Nat) : State :=
  let have_ := (activePh s r).length
  if have_ < n then schedGrow (forEach (List.range (n - have_)) s (fun s _ => addOne s r)) r
  else forEach (List.range (have_ - n)) s (fun s _ => shedOne s r)

/-- N: the active phases of the rail, those of a widened rail's members included. -/
def railN (s : State) (r : Nat) : Nat :=
  (activePh s r).length + ((chOf s r).memberAct.map (fun p => p.2)).sum

/-- R325: N divided over the devices so that their counts differ by at most one; the first devices take the larger share. -/
def setN (s : State) (r n : Nat) : State :=
  let ms := memberPos s r
  let d := ms.length + 1
  let s := setCh s r (fun x => { x with memberAct := (ms.zip (List.range ms.length)).map (fun p => (p.1, wideShare n d (p.2 + 1))) })
  shareTo s r (wideShare n d 0)

/-- R333: an add, a boost, a heavy frank or a Drip exit ends a calibration removal; the phase returns to its slot. -/
def endRemoval (s : State) (r : Nat) : State :=
  forEach (railPhases s r) s (fun s p => setPh s p (fun x => { x with cal := false }))

def removalOn (s : State) (r : Nat) : Bool := (railPhases s r).any (fun p => (phOf s p).cal)

/-- R322: a Drip exit makes every assigned phase active and restarts the shed count. -/
def dripExit (s : State) (r : Nat) : State :=
  if (chOf s r).drip = .run then s
  else
    let s := dripTime (allActive s r) r
    let s := bump s (Reg.CH_DRIP_CNT r) F.CH_DRIP_CNT_EXITS
    endRemoval (setCh s r (fun x => { x with drip := .run, shedCnt := 0, burstPer := 0 })) r

/-- R308: a heavy frank sets N to FRANK_PH, or to all assigned phases. The number of a member's phases is its master's to set (R325). -/
def frankPhases (s : State) (r : Nat) : State :=
  if railState s r = .reg ∧ wideRole s r = 2 then endRemoval s r
  else if railState s r = .reg then
    let s := dripExit s r
    let n := aF s (Reg.CH_PHASE2 r) F.CH_PHASE2_FRANK_PH
    let s := endRemoval s r
    restartShed (setN s r (if n = 0 then assignedN s r else min n (assignedN s r))) r
  else s

/-! ## Stage faults (R335, R336, R340, R951) -/

/-- The stage-fault entry of a phase: its reading and the time base. -/
def stageEntry (s : State) (unit reading : Nat) : State := record s .control 0x08 0x01 unit 0 reading (now s)

/-- R335: a phase has a stage fault and is out of the assigned phases until it returns (R337). A phase already out is faulted once
(R951). In DECAF, and for a phase of no rail, the fault is recorded alone (R154). -/
def stageFault (s : State) (p reading : Nat) : State :=
  let r := phaseRail s p
  if (phOf s p).fault then s
  else if r < 8 then
    let s := setPh s p (fun x => if x.crowbar then { x with fault := true, active := false }
      else { toMid x with fault := true, active := false, cal := false })
    let s := raise s (Reg.PH_FLT p) F.PH_FLT_STAGE_FAULT
    let s := raise s (Reg.CH_EVENT r) F.CH_EVENT_STAGE_FAULT
    let s := stageEntry s p reading
    let s := if (chOf s r).drip ≠ .run ∧ (activePh s r).isEmpty then dripExit s r else s
    if assignedN s r < aF s (Reg.CH_PHASE2 r) F.CH_PHASE2_MIN_PH then latchRail s 2 r p else s
  else stageEntry (raise (setPh s p (fun x => { x with fault := true })) (Reg.PH_FLT p) F.PH_FLT_STAGE_FAULT) p reading

/-! ## The rail loop at a fast sample -/

/-- A value moves toward a goal by at most a step. -/
def stepTo (x goal step : Int) : Int := if x < goal then min goal (x + step) else max goal (x - step)

/-- V_ref moves for 20 ns (R312, R316, R319, R334). -/
def vrefStep (s : State) (r : Nat) : State :=
  let c := chOf s r
  let slew := fun (off : Nat) (f : Fld) => ((aF s off f * 1000 : Nat) : Int)
  match c.state with
  | .soft => setCh s r (fun x => { x with vref := if x.senseOk then stepTo x.vref (setpoint s r) (slew (Reg.CH_SS r) F.CH_SS_SS_SLEW) else x.vref })
  | .discharge => setCh s r (fun x => { x with vref := stepTo x.vref 0 (slew (Reg.CH_SS r) F.CH_SS_DIS_SLEW) })
  | .settle => setCh s r (fun x => { x with vref := stepTo x.vref (setpoint s r) (slew (Reg.CH_VSLEW r) F.CH_VSLEW_VSLEW) })
  | .reg => if setpoint s r < c.vref ∧ downPending s r then s   -- R429, R495
    else setCh s r (fun x => { x with vref := stepTo x.vref (setpoint s r) (slew (Reg.CH_VSLEW r) F.CH_VSLEW_VSLEW) })
  | _ => s

/-- R314: V_trim moves toward the request, held within FLOOR–CEIL, by SLEW per millisecond. -/
def vtrimStep (s : State) (r : Nat) (request : Int) : State :=
  let q : Int := 50000
  let lo := sext 8 (aF s (Reg.CH_TRIM_ENV r) F.CH_TRIM_ENV_FLOOR) * q
  let hi := sext 8 (aF s (Reg.CH_TRIM_ENV r) F.CH_TRIM_ENV_CEIL) * q
  let slew : Int := (aF s (Reg.CH_TRIM_ENV r) F.CH_TRIM_ENV_SLEW : Nat)
  setCh s r (fun x => { x with vtrim := stepTo x.vtrim (clampI lo hi request) slew })

/-- R305: count the fast samples whose per-phase current is above ADD_THR. -/
def addCount (s : State) (r : Nat) : State :=
  if railState s r = .reg ∧ (chOf s r).drip = .run ∧ aOn s (Reg.CH_CTRL r) F.CH_CTRL_SHED_EN ∧ wideRole s r ≠ 2 then
    let n := railN s r
    if railI s r > (aF s (Reg.CH_PHASE r) F.CH_PHASE_ADD_THR * n : Nat) then
      setCh s r (fun x => { x with addCnt := min (x.addCnt + 1) 255 })
    else setCh s r (fun x => { x with addCnt := 0 })
  else setCh s r (fun x => { x with addCnt := 0 })

/-- The window of R317: V_target within PG_WIN of the sense voltage. -/
def windowOk (s : State) (r : Nat) : Bool :=
  decide (absI (vtarget s r - (sense s r : Int) * u16mV) ≤ (aF s (Reg.CH_SS r) F.CH_SS_PG_WIN * 200000 : Nat))

/-- R317: a break of the window restarts the settle time. -/
def windowCheck (s : State) (r : Nat) : State :=
  let ok := windowOk s r
  setCh s r (fun x => { x with inWindow := ok, settleAt := if ok then x.settleAt else now s })

/-! ## On-times (R296–R298) -/

/-- The on-time of a phase in its period, 160 ps units. -/
def onTimeOf (s : State) (r p : Nat) : Nat :=
  let per := (chOf s r).per
  let t := ((chOf s r).duty : Int) * (2 ^ 30 + (phOf s p).trim) * per
  let raw := roundDiv t.toNat (2 ^ 52)
  if (chOf s r).duty = 0 then 0
  else min (max raw (aF s (Reg.CH_FSW r) F.CH_FSW_MIN_ON)) (per - aF s (Reg.CH_FSW r) F.CH_FSW_MIN_OFF)

/-- R297: a phase in its on-time follows the duty. Once the on-time has passed it is LOW, or MID where it is no longer active (R294,
R300). A boost drives HIGH by itself. -/
def onTimes (s : State) (r : Nat) : State :=
  if boosting s r then s
  else forEach ((railPhases s r).filter (fun p => (phOf s p).level == .high && !(phOf s p).crowbar)) s (fun s p =>
    let t := onTimeOf s r p
    setPh s p (fun x => if x.edgeAt + t * 160 ≤ now s * 1000 then (if x.active then { x with level := .low } else toMid x)
                        else { x with onTime := t }))

/-- R535: V_pre moves for 20 ns, PRE_SLEW × 0.25 mV/µs. -/
def vpreStep (s : State) (r : Nat) : State :=
  let step : Int := (aF s Reg.FQ_PRE F.FQ_PRE_PRE_SLEW * 1000 : Nat)
  let v := stepTo (tabGet 0 s.fq.vpre r) (preGoal s r) step
  { s with fq := { s.fq with vpre := tabSet 0 s.fq.vpre r v, pAcc := s.fq.pAcc + railPow s r } }

/-- One fast sample of a rail's loop: V_ref, V_trim, target, window and add count. -/
def railSample (s : State) (r : Nat) (request : Int) : State :=
  let s := vrefStep s r
  let s := vpreStep (vtrimStep s r request) r
  let s := wrN s (Reg.CH_VTARGET r) (satU 16 (vtarget16 s r))
  addCount (windowCheck s r) r

end Sys2Proof.Machine
end

