-- ==== Sys2Proof/Machine/Phase.lean ====
section
/-! DEFINITION. Commands of the phase engine (ch. 6): soft start and regulation, periods and slots, balance, add and shed,
sense pairs, stage faults, Drip mode and widened rails. -/

namespace Sys2Proof.Machine

open Host

/-! ## Soft start and regulation -/

/-- R191: a rail fails to reach regulation: SS_FAIL and an overload shutdown. -/
def softStartFail (s : State) (r : Nat) : State := latchRail (raise s (Reg.CH_EVENT r) F.CH_EVENT_SS_FAIL) 2 r 0

/-- R317: V_ref has reached the setpoint. -/
def execSetpointReached (rail : ChIx) (s : State) : Result :=
  let r := rail.val
  if railState s r = .soft then .next (setCh s r (fun x => { x with state := .settle, vref := setpoint s r, senseOk := true, settleAt := now s }))
  else .next s

/-- R317, R165: the target has stayed in the window for PG_SETTLE since the settle time last began; the rail is in regulation, and the
start sequence goes on. -/
def execChannelInRegulation (rail : ChIx) (s : State) : Result :=
  let r := rail.val
  if railState s r = .settle ∧ windowOk s r then
    let s := reach s ((chOf s r).settleAt + aF s (Reg.CH_SS r) F.CH_SS_PG_SETTLE * 1000)
    .next (startAdvance (enterReg (setCh s r (fun x => { x with state := .reg, inWindow := true, shedCnt := 0, addCnt := 0 })) r) (stageReady s))
  else .next s

/-- R316, R338, R386: the MID hold of a soft start ends. -/
def execSoftStartHoldEnd (rail : ChIx) (senseMv : Nat) (priOpen altOpen cmpOk : Bool) (s : State) : Result :=
  let r := rail.val
  if railState s r = .soft ∧ !(chOf s r).senseOk then
    let altEn := aOn s (Reg.CH_CTRL r) F.CH_CTRL_ALT_EN
    if !cmpOk then .next (softStartFail (raise s Reg.PROT_EVENT F.PROT_EVENT_OV_SELFTEST) r)
    else if priOpen && (altOpen || !altEn) then .next (softStartFail (raise s (Reg.CH_EVENT r) F.CH_EVENT_SENSE_OPEN) r)
    else
      let s := wrN s (Reg.CH_VSENSE r) (satU 16 senseMv)
      .next (setCh s r (fun x => { x with senseOk := true, vref := (sense s r * 12500 : Nat) }))
  else .next s

/-- R191: SS_LIMIT has passed. -/
def execSoftStartTimeout (rail : ChIx) (s : State) : Result :=
  let r := rail.val
  if railState s r = .soft ∨ railState s r = .settle then
    .next (softStartFail (reach s ((chOf s r).softAt + fr s 0x01 2 2 * 10000)) r)
  else .next s

/-- R318: a window break in REG. -/
def execPgExcursion (rail : ChIx) (s : State) : Result :=
  let r := rail.val
  if railState s r = .reg then
    .next (setCh (raise s (Reg.CH_EVENT r) F.CH_EVENT_PG_EXCURSION) r (fun x => { x with inWindow := false, pgCnt := x.pgCnt + 1 }))
  else .next s

/-- R319, R320: the sense voltage of the rail at the head of the discharge falls below 50 mV. -/
def execDischargeRailDone (rail : ChIx) (mv : Nat) (s : State) : Result :=
  let s := wrN s (Reg.CH_VSENSE rail.val) (satU 16 (mv * 16 : Nat))
  match s.top.dis with
  | d :: rest => if d.rail = rail.val ∧ mv < 50 ∧ !d.limitOnly then .next (disNext s d rest) else .next s
  | [] => .next s

/-! ## Periods and slots -/

/-- R306: count the period starts whose per-phase current, one phase fewer, lies below SHED_THR. -/
def shedCount (s : State) (r : Nat) : State :=
  let n := railN s r
  if railState s r = .reg ∧ (chOf s r).drip = .run ∧ aOn s (Reg.CH_CTRL r) F.CH_CTRL_SHED_EN ∧ wideRole s r ≠ 2 ∧ 1 < n
      ∧ (chOf s r).iMean < (aF s (Reg.CH_PHASE r) F.CH_PHASE_SHED_THR * (n - 1) : Nat) then
    setCh s r (fun x => { x with shedCnt := min (x.shedCnt + 1) 255 })
  else restartShed s r

/-- The instant of the rail's next period start, ps of the time base: one period after the present one, or now where that is more than a
period ago. -/
def nextPeriodPs (s : State) (r : Nat) : Nat :=
  let c := chOf s r
  if now s * 1000 < c.perAt + 2 * c.per * 160 then c.perAt + c.per * 160 else now s * 1000

/-- R337: the phases whose stage fault has ended return to the assigned phases; where every other assigned phase is active, so are they. -/
def phasesReturn (s : State) (r : Nat) : State :=
  let every : Bool := (inactivePh s r).isEmpty && (chOf s r).drip == .run
  forEach ((railPhases s r).filter (fun p => (phOf s p).returning)) s (fun s p =>
    setPh s p (fun x => { x with fault := false, returning := false, active := x.active || every }))

/-- R293–R295, R306, R337, R465: a period of the rail's oscillator starts. -/
def execPeriodStart (rail : ChIx) (s : State) : Result :=
  let r := rail.val
  if switching s r then
    let t := nextPeriodPs s r
    let s := onTimes (reach s ((t + 999) / 1000)) r
    let s := newPeriod (phasesReturn s r) r t
    let i := railI s r
    let s := setCh s r (fun x => { x with iMean := if x.perNum = 0 then i else x.perSum / x.perNum, perSum := 0, perNum := 0,
                                          burstPer := if x.drip = .burst then x.burstPer + 1 else x.burstPer })
    .next (shedCount s r)
  else .next s

/-- A slot edge of the phase is acted on: the rail is switching and past the MID hold of R316, the phase has a slot that lies ahead, and
neither a crowbar, a boost (R412), a sleeping Drip mode nor R340 holds it. -/
def slotTaken (s : State) (r p : Nat) : Bool :=
  let x := phOf s p
  switching s r && !(railState s r == .soft && !(chOf s r).senseOk) && x.due && !x.crowbar && !x.widened && !boosting s r
    && (chOf s r).drip != .sleep

/-- R293, R296, R298, R310: the slot edge of a phase. Its last period closes, and it drives HIGH for its on-time, or stays LOW where the
duty is 0. A phase in calibration leaves its slot empty. -/
def execPhaseSlotEdge (ph : PhIx) (s : State) : Result :=
  let p := ph.val
  let r := phaseRail s p
  if r < 8 ∧ slotTaken s r p then
    let s := onTimes (reach s ((slotPs s r p + 999) / 1000)) r
    let s := setPh s p (fun x => { x with due := false })
    if (phOf s p).cal then .next s
    else
      let t := onTimeOf s r p
      let at_ := if now s * 1000 < slotPs s r p + 1000 then slotPs s r p else now s * 1000
      if t = 0 then .next (setPh s p (fun x => { closePeriod x with level := .low, onTime := 0 }))
      else .next (setPh s p (fun x => { closePeriod x with level := .high, onTime := t, edgeAt := at_, drove := true }))
  else .next s

/-- R299: an active phase's current falls below the threshold during LOW. -/
def execNegativeCurrentLimit (ph : PhIx) (amps : Int) (s : State) : Result :=
  let p := ph.val
  let r := phaseRail s p
  let thr : Int := if (chOf s r).drip = .burst then 0 else -256
  if r < 8 ∧ (phOf s p).active ∧ (phOf s p).level = .low ∧ !(phOf s p).crowbar ∧ amps - (phOf s p).off < thr then
    .next (setPh s p (fun x => { x with level := .mid, negLim := true }))
  else .next s

/-- R347, R348: a phase passes the peak limit while HIGH. -/
def execPeakLimit (ph : PhIx) (amps : Int) (s : State) : Result :=
  let p := ph.val
  let r := phaseRail s p
  if r < 8 ∧ (phOf s p).level = .high ∧ !(phOf s p).crowbar ∧ amps - (phOf s p).off > (aF s (Reg.PROT_IPK r) F.PROT_IPK_IPK * 8 : Nat) then
    let s := bump s (Reg.PROT_PK_CNT p) F.PROT_PK_CNT_COUNT
    let s := raise s Reg.PROT_EVENT F.PROT_EVENT_PEAK
    .next (setPh s p (fun x => { x with level := .low, peaked := true, shortCnt := if x.peaked then x.shortCnt else x.shortCnt + 1 }))
  else .next s

/-- R348, R361: a phase short is latched on the phase's rail. -/
def execPhaseShort (ph : PhIx) (s : State) : Result :=
  let p := ph.val
  let r := phaseRail s p
  if r < 8 ∧ aF s (Reg.PROT_IPK r) F.PROT_IPK_SHORT_CNT ≤ (phOf s p).shortCnt then
    let s := wrN s Reg.PROT_SHORT_INFO (p + r * 256)
    .next (latchRail (setPh s p (fun x => { x with shortCnt := 0 })) 1 r p)
  else .next s

/-! ## Balance, add and shed -/

/-- R303: the trim of one active phase moves by 2^−(GAIN + 10) per ampere away from the mean, in 2⁻³⁰. -/
def balanceOne (s : State) (r p : Nat) (sum : Int) (n : Nat) : State :=
  let g := aF s (Reg.CH_BAL r) F.CH_BAL_GAIN
  let lim : Int := (aF s (Reg.CH_BAL r) F.CH_BAL_LIM * 2 ^ 24 : Nat)
  let i := sext 16 (fld s (Reg.PH_I p) F.PH_I_VALUE)
  let d := (sum - n * i) * (2 ^ (16 - g) : Nat) / n
  setPh s p (fun x => { x with trim := if aOn s (Reg.PH_CFG p) F.PH_CFG_BAL_EXCL then 0 else clampI (-lim) lim (x.trim + d) })

/-- R303, R304: the 1 µs balance update; PH_I_n takes the new 1 µs means, less the offset in force (R465). -/
def execBalanceUpdate (rail : ChIx) (means : List (PhIx × Int)) (s : State) : Result :=
  let r := rail.val
  let s := forEach means s (fun s m =>
    if phaseRail s m.1.val = r then setF s (Reg.PH_I m.1.val) wordF (unsx 32 (clampI (-32768) 32767 (m.2 - (phOf s m.1.val).off))) else s)
  let act := (activePh s r).filter (fun p => !(phOf s p).cal)
  if isRail s r ∧ aOn s (Reg.CH_CTRL r) F.CH_CTRL_BAL_EN ∧ railState s r = .reg ∧ (chOf s r).drip = .run ∧ act ≠ [] then
    let sum := (act.map (fun p => sext 16 (fld s (Reg.PH_I p) F.PH_I_VALUE))).sum
    .next (forEach act s (fun s p => balanceOne s r p sum act.length))
  else .next s

/-- R305: the least N whose per-phase current is not above ADD_THR. -/
def addGoal (s : State) (r : Nat) : Nat :=
  let thr := aF s (Reg.CH_PHASE r) F.CH_PHASE_ADD_THR
  let i := (railI s r).toNat
  min (assignedN s r) ((i + thr - 1) / max thr 1)

/-- R305, R325, R331: phases are added, unless a boost drives the rail. A member leaves this to its master. -/
def execPhaseAdd (rail : ChIx) (s : State) : Result :=
  let r := rail.val
  if isRail s r ∧ wideRole s r ≠ 2 ∧ railState s r = .reg ∧ (chOf s r).drip = .run ∧ aOn s (Reg.CH_CTRL r) F.CH_CTRL_SHED_EN
      ∧ aF s (Reg.CH_PHASE2 r) F.CH_PHASE2_ADD_DWELL ≤ (chOf s r).addCnt then
    let s := setCh s r (fun x => { x with addCnt := 0, shedCnt := 0 })
    if boosting s r then .next s
    else if railN s r < addGoal s r then
      let n := addGoal s r - railN s r
      .next (bumpBy (endRemoval (setN s r (addGoal s r)) r) (Reg.CH_CNT r) F.CH_CNT_ADDS n)
    else .next s
  else .next s

/-- R306, R307, R325, R331: one phase is shed, unless a boost drives the rail. A member leaves this to its master. -/
def execPhaseShed (rail : ChIx) (s : State) : Result :=
  let r := rail.val
  if isRail s r ∧ wideRole s r ≠ 2 ∧ railState s r = .reg ∧ (chOf s r).drip = .run ∧ aOn s (Reg.CH_CTRL r) F.CH_CTRL_SHED_EN
      ∧ aF s (Reg.CH_PHASE2 r) F.CH_PHASE2_SHED_DWELL ≤ (chOf s r).shedCnt then
    let s := restartShed s r
    if boosting s r ∨ railN s r ≤ max 1 (aF s (Reg.CH_PHASE2 r) F.CH_PHASE2_MIN_PH) then .next s
    else
      let n := railN s r - 1
      let s := if wideRole s r = 1 then setN s r n else shedOne s r
      .next (bump s (Reg.CH_CNT r) F.CH_CNT_SHEDS)
  else .next s

/-! ## Sense pairs -/

/-- R315: the pairs differ by more than 50 mV; the loop takes the pair nearer V_target. -/
def execSenseSwitch (chan : ChIx) (pri alt : Nat) (s : State) : Result :=
  let r := chan.val
  let d := absI ((pri : Int) - alt)
  let toAlt : Bool := decide (absI ((alt : Int) - vtarget16 s r) < absI ((pri : Int) - vtarget16 s r))
  if isRail s r ∧ running s r ∧ aOn s (Reg.CH_CTRL r) F.CH_CTRL_ALT_EN ∧ aOn s (Reg.CH_CTRL r) F.CH_CTRL_AUTO_SENSE ∧ 800 < d
      ∧ toAlt ≠ (chOf s r).altPair then
    let v := if toAlt then alt else pri
    let s := setCh s r (fun x => { x with altPair := toAlt })
    let s := wrN s (Reg.CH_VSENSE r) (satU 16 v)
    let s := raise s (Reg.CH_EVENT r) F.CH_EVENT_SENSE_SWITCH
    let s := record s .control 0x08 0x02 r (b2n toAlt) v (now s)
    .next (dripExit s r)
  else .next s

/-! ## Stage faults -/

/-- R302: TMON at or above 1.45 V for 1 µs. -/
def execStageFaultTmon (ph : PhIx) (mv : Nat) (s : State) : Result :=
  if s.top.state ≠ .off ∧ 1450 ≤ mv then .next (stageFault s ph.val mv) else .next s

/-- R940: the phases of a quad that an SFLT_N_q assertion faults: the hot assigned phases, or every assigned phase. -/
def sfltFaults (s : State) (q hot : Nat) : State :=
  let as_ := (quadPhases q).filter (fun p => (assigned s (phaseRail s p)).contains p)
  let hs := as_.filter (fun p => bitOf hot (p % 4))
  forEach (if hs = [] then as_ else hs) s (fun s p => stageFault s p 0)

/-- R939, R940: SFLT_N_q has been low for 1 µs. -/
def execStageFaultInput (quad : QuadIx) (hot : Fin 16) (s : State) : Result :=
  let q := quad.val
  let x := quadOf s q
  if s.top.state = .off ∨ x.sfltActed then .next s
  else if !x.sen ∨ now s < x.senRose + 2000 then
    let s := record s .control 0x08 0x01 q 1 0 (now s)
    .next (setQuad s q (fun x => { x with sfltLow := true, sfltWindow := true, sfltActed := !x.sen }))
  else
    let s := setQuad s q (fun x => { x with sfltLow := true, sfltActed := true, sfltWindow := false })
    .next (sfltFaults s q hot.val)

/-- R940: an assertion that began while R939 applied is judged when the window ends. -/
def execSfltWindowEnd (quad : QuadIx) (low : Bool) (hot : Fin 16) (s : State) : Result :=
  let q := quad.val
  let x := quadOf s q
  let s := if x.sen then reach s (x.senRose + 2000) else s
  if low && x.sen && x.sfltWindow then
    let s := setQuad s q (fun x => { x with sfltLow := true, sfltActed := true, sfltWindow := false })
    .next (sfltFaults s q hot.val)
  else .next (setQuad s q (fun x => { x with sfltLow := low, sfltWindow := false, sfltActed := low && x.sfltActed }))

/-- R337: the phase returns to the assigned phases, at the next period start while its rail is switching. -/
def execPhaseReturn (ph : PhIx) (s : State) : Result :=
  let p := ph.val
  let r := phaseRail s p
  if (phOf s p).fault ∧ !flag s (Reg.PH_FLT p) F.PH_FLT_STAGE_FAULT then
    .next (setPh s p (fun x => if r < 8 && switching s r then { x with returning := true } else { x with fault := false }))
  else .next s

/-- R341: V_IMON outside 0.1–1.3 V while the phase is active. -/
def execImonRange (ph : PhIx) (mv : Nat) (s : State) : Result :=
  let p := ph.val
  if (phOf s p).active ∧ (mv < 100 ∨ 1300 < mv) then
    let s := raise s (Reg.PH_FLT p) F.PH_FLT_IMON_RANGE
    let v : Int := if mv < 100 then 100 else 1300
    let i := (v - (quadOf s (p / 4)).iref) * 128 / (max (igain s (p / 4)) 1 : Nat) - (phOf s p).off
    .next (setF s (Reg.PH_I p) wordF (unsx 32 (clampI (-32768) 32767 i)))
  else .next s

/-! ## Drip mode (Table 6.4) -/

/-- R321: entry to Drip mode on the coolest assigned phase; SHED is cleared. -/
def execDripEntry (rail : ChIx) (s : State) : Result :=
  let r := rail.val
  if isRail s r ∧ railState s r = .reg ∧ (chOf s r).drip = .run ∧ aOn s (Reg.CH_CTRL r) F.CH_CTRL_DRIP_EN ∧ wideRole s r = 0
      ∧ !removalOn s r ∧ !boosting s r ∧ railI s r < (aF s (Reg.CH_DRIP r) F.CH_DRIP_ENTRY_I : Nat) then
    match coolest s (assigned s r) with
    | none => .next s
    | some p =>
      let s := phasesIdle s (railPhases s r)
      let s := setPh s p (fun x => { x with active := true })
      let s := setCh s r (fun x => { x with drip := .burst, dripPhase := p, dripFrom := now s, burstPer := 0, shedCnt := 0, addCnt := 0, vdither := 0 })
      .next (bump s (Reg.CH_DRIP_CNT r) F.CH_DRIP_CNT_ENTRIES)
  else .next s

/-- Table 6.4: in BURST the sense voltage reaches the upper band edge. -/
def execDripSleep (rail : ChIx) (mv : Nat) (s : State) : Result :=
  let r := rail.val
  let s := wrN s (Reg.CH_VSENSE r) (satU 16 mv)
  if (chOf s r).drip = .burst ∧ vtarget16 s r + (aF s (Reg.CH_DRIP2 r) F.CH_DRIP2_BAND_HI * 4 : Nat) ≤ mv then
    let s := phasesMid s [(chOf s r).dripPhase]
    .next (setCh s r (fun x => { x with drip := .sleep, burstI := railI s r, burstPer := 0 }))
  else .next s

/-- R323: in SLEEP the sense voltage reaches the lower band edge; the Drip phase resumes at the next period start. -/
def execDripWake (rail : ChIx) (mv : Nat) (s : State) : Result :=
  let r := rail.val
  let s := wrN s (Reg.CH_VSENSE r) (satU 16 mv)
  if (chOf s r).drip = .sleep ∧ (mv : Int) ≤ vtarget16 s r - (aF s (Reg.CH_DRIP2 r) F.CH_DRIP2_BAND_LO * 4 : Nat) then
    let s := setPh s (chOf s r).dripPhase (fun x => { x with due := false })
    .next (setCh s r (fun x => { x with drip := .burst, burstPer := 0 }))
  else .next s

/-- Table 6.4: BURST_MAX periods without the upper edge. -/
def execDripBurstExit (rail : ChIx) (s : State) : Result :=
  let r := rail.val
  if (chOf s r).drip = .burst ∧ aF s (Reg.CH_DRIP2 r) F.CH_DRIP2_BURST_MAX ≤ (chOf s r).burstPer then
    .next (dripExit (raise s (Reg.CH_EVENT r) F.CH_EVENT_BURST_EXIT) r)
  else .next s

/-! ## Widened rails -/

/-- R339: the master removes a member that no longer reports and runs the rail on what remains. -/
def memberGone (s : State) (r pos : Nat) : State :=
  if (chOf s r).memberAct.any (fun p => p.1 == pos) then
    let s := setCh s r (fun x => { x with memberAct := tabErase x.memberAct pos, memberCur := tabErase x.memberCur pos, wideLoss := true })
    let s := restartShed (allActive s r) r
    let s := raise s (Reg.CH_EVENT r) F.CH_EVENT_WIDE_LOSS
    record s .control 0x08 0x03 r pos 0 (now s)
  else s

def execMemberLoss (rail : ChIx) (pos : Fin 4) (s : State) : Result :=
  if wideRole s rail.val = 1 then .next (memberGone s rail.val pos.val) else .next s

/-- R340: a member drives its widened phases to MID until the rail is next started. -/
def dutyLost (s : State) (c : Nat) : State :=
  let r := railOf s c
  if wideRole s c = 2 ∧ running s r ∧ !(chOf s r).wideLoss then
    let s := forEach (railPhases s r) s (fun s p => setPh s p (fun x => if x.crowbar then x else { toMid x with widened := true }))
    let s := setCh s r (fun x => { x with wideLoss := true, masterOk := false })
    let s := raise s (Reg.CH_EVENT r) F.CH_EVENT_WIDE_LOSS
    record s .control 0x08 0x03 r (widePos s c) 0 (now s)
  else s

def execDutyWordLoss (chan : ChIx) (s : State) : Result := .next (dutyLost s chan.val)

/-- R324, R333, R466, R613, R614: a member takes the master's duty, its number of active phases and the flags BOOST and REGOK. An add ends a
calibration removal. -/
def execFastDuty (chan : ChIx) (duty : Fin 262144) (n : Fin 128) (boost regok : Bool) (s : State) : Result :=
  let r := railOf s chan.val
  if wideRole s chan.val = 2 ∧ switching s r ∧ !(chOf s r).wideLoss ∧ !s.tvl.wideDown.contains (widePos s chan.val + 6) then
    let s := setCh s r (fun x => { x with duty := duty.val * 16, masterOk := regok && !boost })
    let s := if (activePh s r).length < n.val then endRemoval s r else s
    .next (shareTo s r n.val)
  else .next s

/-- R325: the master takes the current report of a member that it has not removed (R339); the rail current includes it. -/
def execFastIrep (chan : ChIx) (pos : Fin 4) (amps : Int) (s : State) : Result :=
  let r := railOf s chan.val
  if wideRole s chan.val = 1 ∧ (memberPos s r).contains pos.val ∧ !s.tvl.wideDown.contains (pos.val + 6) then
    let old := tabGet 0 (chOf s r).memberCur pos.val
    let i := clampI (-524288) 524287 amps
    let s := setCh s r (fun x => { x with memberCur := tabSet 0 x.memberCur pos.val i })
    .next (wrN s (Reg.CH_I r) (satS 32 (railI s r - old + i)))
  else .next s

end Sys2Proof.Machine
end

