-- ==== Sys2Proof/Machine/LinkOps.lean ====
section
/-! DEFINITION. Shared operations of the Tvedrek link (ch. 12): tree edges, transmit and delivery queues, routing of frames and cells,
reductions, and what happens when a lane leaves UP. -/

namespace Sys2Proof.Machine

/-! ## Lanes and tree edges (R581, R599, R633, R634) -/

def lanes : List Nat := List.range 10

def laneUp (s : State) (n : Nat) : Bool := (laneOf s n).state == .up

def laneRole (s : State) (n : Nat) : Nat := if structured s then laneRoleF (framesOf s) n else 0

/-- A tree edge: the up and down ports, on cascade position 0 the board lanes to its members, and on a member its board lane to
position 0. -/
def treeLane (s : State) (n : Nat) : Bool :=
  inDomain s && (laneRole s n == 1 || laneRole s n == 2 || (laneRole s n == 3 && (cpos s == 0 || n == 6)))

/-- The up lane as trained: the port of role up, on a member the board lane to position 0. -/
def trainedUp (s : State) : Option Nat :=
  if cpos s != 0 && laneRole s 6 == 3 then some 6 else lanes.find? (fun n => laneRole s n == 1)

/-- R633, R634: the effective up lane; a master has none. -/
def upLane (s : State) : Option Nat :=
  if !inDomain s then none
  else if s.dom.role = .master then none
  else match s.dom.upLane with
    | some n => some n
    | none => trainedUp s

def treeLanes (s : State) : List Nat := lanes.filter (treeLane s)
/-- The tree edges below the node. -/
def belowLanes (s : State) : List Nat := (treeLanes s).filter (fun n => upLane s != some n)
def belowUp (s : State) : List Nat := (belowLanes s).filter (laneUp s)

/-! ## Frames -/

/-- LEN of a frame, its credit units (R593) and the data blocks of its body. -/
def frameLen (f : Frame) : Nat := 16 + f.body.length
def frameUnits (f : Frame) : Nat := (frameLen f + 63) / 64
def frameBlocks (f : Frame) : Nat := (frameLen f + 7) / 8

/-- R593: the credits of a class on entering UP. -/
def creditLimit (c : Nat) : Nat := if c = 1 then 80 else 128

/-- Depth of transmit and delivery queues (R816, R817). -/
abbrev queueDepth : Nat := 16

/-- Credit units go back to the partner of a frame's arrival lane. -/
def returnUnits (s : State) (q : QFrame) : State :=
  if q.units = 0 ∨ !laneUp s q.lane then s else setLcls s q.lane q.frame.cls (fun x => { x with owed := x.owed + q.units })

/-- R600: a frame is entered in a dead-letter queue and its buffer is freed. -/
def deadFrame (s : State) (reason : Nat) (q : QFrame) : State :=
  returnUnits (deadLetter s reason q.frame.cls q.lane q.frame.typ q.frame.src q.frame.dest) q

/-- R594: when a frame that begins to wait for lane `n` now has waited CRED_TO. -/
def credDue (s : State) (n : Nat) : Nat := now s + aF s (Reg.TVL_CFG n) F.TVL_CFG_CRED_TO * 10000

/-- A frame joins a queue; its buffer units are given back at once where it enters the queue proper. The frame at place `k` waits for
something, from now to `due` at most. -/
def joinQueue (s : State) (k : Nat) (due : QFrame → Nat) (l : List QFrame) (q : QFrame) : List QFrame × State :=
  let q := if l.length = k then { q with headDue := due q } else q
  if l.length < queueDepth then (l ++ [({ q with units := 0 } : QFrame)], returnUnits s q) else (l ++ [q], s)

/-- The frame at place `i` leaves a queue; the first that waits in a receive buffer enters the queue (or is the one that leaves), and the
next frame comes to place `k`. -/
def leaveQueue (s : State) (k i : Nat) (due : QFrame → Nat) (l : List QFrame) : List QFrame × State :=
  let j := max i queueDepth
  let s := match l[j]? with
    | some q => returnUnits s q
    | none => s
  let l := (l.modify j (fun q => { q with units := 0 })).eraseIdx i
  (if i ≤ k then l.modify k (fun q => { q with headDue := due q }) else l, s)

def outPush (s : State) (n : Nat) (q : QFrame) : State :=
  let (l, s) := joinQueue s 0 (fun _ => credDue s n) (lclsOf s n q.frame.cls).out q
  setLcls s n q.frame.cls (fun x => { x with out := l })

def outPop (s : State) (n c : Nat) : State :=
  let (l, s) := leaveQueue s 0 0 (fun _ => credDue s n) (lclsOf s n c).out
  setLcls s n c (fun x => { x with out := l })

def deliverOf (s : State) (c : Nat) : List QFrame := tabGet [] s.tvl.deliver c

def setDeliver (s : State) (c : Nat) (l : List QFrame) : State := { s with tvl := { s.tvl with deliver := tabSet [] s.tvl.deliver c l } }

/-- The types that go to hardware engines (R816). -/
def hwType (t : Nat) : Bool := [0x0101, 0x0102, 0x0103, 0x0110, 0x0111, 0x0113, 0x0201].contains t

/-- Table 12.7. -/
def knownType (t : Nat) : Bool := hwType t || [0x0112, 0x0114, 0x0115, 0x0116, 0x0202, 0x0301, 0x0302, 0x0303].contains t

/-- The epoch-checked types of Table 12.7. -/
def epochType (t : Nat) : Bool := [0x0110, 0x0111, 0x0113, 0x0115, 0x0116].contains t

/-- R816, R817: local delivery. A frame of local origin that meets a full delivery queue is refused. -/
def deliverFrame (s : State) (q : QFrame) : State :=
  if hwType q.frame.typ then returnUnits { s with tvl := { s.tvl with rx := s.tvl.rx ++ [q.frame] } } q
  else if q.lane = 10 ∧ queueDepth ≤ (deliverOf s q.frame.cls).length then deadFrame s 9 q
  else
    let (l, s) := joinQueue s queueDepth (fun q => credDue s q.lane) (deliverOf s q.frame.cls) q
    setDeliver s q.frame.cls l

/-- The frame at place `i` leaves a delivery queue. -/
def deliverDrop (s : State) (c i : Nat) : State :=
  let (l, s) := leaveQueue s queueDepth i (fun q => credDue s q.lane) (deliverOf s c)
  setDeliver s c l

/-- A consumer takes the first delivered frame of a type. -/
def takeRx (s : State) (typ : Nat) : State := { s with tvl := { s.tvl with rx := s.tvl.rx.eraseP (fun f => f.typ == typ) } }

/-- Firmware takes the first frame of a type from a delivery queue. -/
def takeDelivered (s : State) (typ : Nat) : State :=
  match (deliverOf s (typ / 256)).findIdx? (fun q => q.frame.typ == typ) with
  | none => s
  | some i => deliverDrop s (typ / 256) i

/-- A frame goes to an out lane: PORT_DOWN where it is not in UP; a local post to a full queue is refused (R817). -/
def toLane (s : State) (n : Nat) (q : QFrame) : State :=
  if !laneUp s n then deadFrame s 2 q
  else if q.lane = 10 ∧ queueDepth ≤ (lclsOf s n q.frame.cls).out.length then deadFrame s 9 q
  else outPush s n q

/-- R588, R599: where a frame goes. Arrival lane 10 stands for local origin. -/
def routeFrame (s : State) (q : QFrame) : State :=
  let f := q.frame
  let hop := if q.lane = 10 then q else { q with frame := { f with ttl := f.ttl - 1 } }
  let spent := q.lane != 10 && f.ttl == 0
  if f.scope = 0 then
    let r := routeF (framesOf s) f.dest
    if r = 0xE then deliverFrame s q
    else if spent then deadFrame s 3 q
    else if r = 0xF then deadFrame s 1 q
    else toLane s r hop
  else if f.scope = 1 then
    let outs := (treeLanes s).filter (fun n => laneUp s n && n != q.lane && !spent)
    let s := forEach outs s (fun s n => toLane s n { hop with units := 0 })
    if q.lane = 10 then s else deliverFrame s q
  else if q.lane != 10 then deliverFrame s q
  else match upLane s with
    | some n => toLane s n q
    | none => deadFrame s 1 q

/-- A frame of local origin (TTL 12, R588); OSEQ counts. -/
def mkFrame (s : State) (typ scope dest : Nat) (body : List Byte) : Frame :=
  { cls := typ / 256, scope := scope, dest := dest, src := ownNode s, typ := typ, epoch := s.dom.mepoch, oseq := s.tvl.oseq, ttl := 12, body := body }

def countOseq (s : State) : State := { s with tvl := { s.tvl with oseq := (s.tvl.oseq + 1) % 2 ^ 32 } }

/-- The node originates a frame that its route table or the tree carries. -/
def postFrame (s : State) (typ scope dest : Nat) (body : List Byte) : State :=
  routeFrame (countOseq s) { frame := mkFrame s typ scope dest body, lane := 10 }

/-- The node originates a frame of SCOPE PEER on one lane. -/
def postPeer (s : State) (n typ : Nat) (body : List Byte) : State :=
  toLane (countOseq s) n { frame := mkFrame s typ 3 (lanePeerNodeF (framesOf s) n % 1024) body, lane := 10 }

/-! ## Cells (R580–R585) -/

def boardLanesUp (s : State) : List Nat := [6, 7, 8, 9].filter (fun n => laneUp s n && laneRole s n == 3)

/-- A cell waits for an out lane. -/
def cellPush (s : State) (n : Nat) (q : QCell) : State := setLane s n (fun x => { x with cells := x.cells ++ [q] })

/-- R581: the lanes on which a cell goes on; lane 10 for local origin. -/
def cellForward (s : State) (q : QCell) : State :=
  if q.cell.scope = 0 then
    let r := routeF (framesOf s) q.cell.node
    if r = 0xE then s
    else if r = 0xF then deadLetter s 1 0 q.lane (0xC0 + q.cell.ctype) 0 q.cell.node
    else if !laneUp s r then deadLetter s 2 0 q.lane (0xC0 + q.cell.ctype) 0 q.cell.node
    else cellPush s r q
  else if q.cell.scope = 3 then
    if q.lane = 10 then forEach (boardLanesUp s) s (fun s n => cellPush s n q) else s
  else forEach ((treeLanes s).filter (fun n => laneUp s n && n != q.lane)) s (fun s n => cellPush s n q)

/-- The lock group that a HOLD or GTHROT cell names (Table 12.5). -/
def cellGroup (c : Cell) : Nat := c.payload % 64

/-- R580: the cell is for this node. -/
def cellLocal (s : State) (c : Cell) : Bool :=
  if c.scope = 0 then c.node == ownNode s
  else if c.scope = 2 then !(groupParts s (cellGroup c)).isEmpty
  else true

/-- R584: messages of the origin queue whose time has come go to their out lanes; with REPEAT a copy follows 50 ns later. -/
def originFlush (s : State) : State :=
  let due := s.tvl.origin.filter (fun p => decide (p.2 ≤ now s))
  let s := { s with tvl := { s.tvl with origin := s.tvl.origin.filter (fun p => !decide (p.2 ≤ now s)) } }
  forEach due s (fun s p =>
    let s := cellForward s { cell := p.1, at_ := p.2, lane := 10 }
    if aOn s Reg.TVL_GCFG F.TVL_GCFG_REPEAT then cellForward s { cell := p.1, at_ := p.2 + 50, lane := 10 } else s)

/-- Whether a copy of a received cell still waits for an out lane. -/
def cellHeld (s : State) (q : QCell) : Bool :=
  lanes.any (fun n => (laneOf s n).cells.any (fun x => x.no == q.no && x.lane == q.lane))

/-- R585: a credit of the arrival lane is returned once the cell has left its receive buffer for every out lane. -/
def cellLeft (s : State) (q : QCell) : State :=
  if q.lane = 10 ∨ !laneUp s q.lane ∨ cellHeld s q then s else setLane s q.lane (fun x => { x with c0owed := x.c0owed + 1 })

/-- R582, R583, R585: a cell arrives on a lane; the flag says whether it is to be delivered here. -/
def cellReceive (s : State) (n : Nat) (c : Cell) (ok : Bool) : State × Bool :=
  if !laneUp s n then (s, false)
  else
    let q : QCell := { cell := c, at_ := now s, lane := n, no := s.tvl.cellNo, bad := !ok }
    let s := cellForward { s with tvl := { s.tvl with cellNo := s.tvl.cellNo + 1 } } q
    let s := cellLeft s q
    if !ok then
      let s := bump (raise s (Reg.TVL_EVENT n) F.TVL_EVENT_CELL_CHECK) (Reg.TVL_ERR n) F.TVL_ERR_CELL
      (deadLetter (boundaryFail s 12 n 0) 8 0 n (0xC0 + c.ctype) 0 0, false)
    else
      let again := s.tvl.seen.any (fun p => p.1 == c && decide (now s ≤ p.2 + 200))
      let seen := (c, now s) :: s.tvl.seen.filter (fun p => p.1 != c && decide (now s ≤ p.2 + 200))
      let s := { s with tvl := { s.tvl with seen := seen } }
      if again then (bump s (Reg.TVL_CNT n) F.TVL_CNT_DUP, false) else (s, cellLocal s c)

/-! ## Reductions (R603–R606) -/

def satElem (x : Int) : Int := satI 64 x

/-- One element of two contributions: SUM and COUNT add with saturation, MAX and MIN select. -/
def redElem (op : Nat) (a b : Int) : Int := if op = 1 then max a b else if op = 2 then min a b else satElem (a + b)

def elemBytes (x : Int) : List Byte := leBytes 8 (unsx 64 x)

/-- Table 12.11. -/
def redBody (r : RedSt) : List Byte :=
  leBytes 4 r.rid ++ leBytes 1 r.op ++ leBytes 1 (b2n r.partial_) ++ leBytes 2 r.elems.length ++ leBytes 4 r.contrib ++ leBytes 4 0
    ++ r.elems.flatMap elemBytes

/-- A reduction closes: the result goes up, or to the data plane of the master. -/
def redClose (s : State) (r : RedSt) : State :=
  let s := { s with tvl := { s.tvl with red := s.tvl.red.filter (fun x => x.rid != r.rid), redDone := (r.rid :: s.tvl.redDone).take 64 } }
  let s := if r.partial_ then sinkTake (raise s Reg.TVL_GEVENT F.TVL_GEVENT_REDUCE_PARTIAL) 5 else s
  if s.dom.role = .master then { s with tvl := { s.tvl with result := (s.tvl.result ++ [r]).drop (s.tvl.result.length - 15) } }
  else postFrame s 0x0201 2 0 (redBody r)

/-- Every source awaited has contributed. -/
def redComplete (s : State) (r : RedSt) : Bool := r.loc && (belowUp s).all (fun n => r.from_.contains n)

def redCheck (s : State) (rid : Nat) : State :=
  match s.tvl.red.find? (fun r => r.rid == rid) with
  | some r => if redComplete s r then redClose s r else s
  | none => s

/-- A contribution from a lane below, or from the local data plane (none), to reduction `c.rid`; `ids` are the SRC and DEST of its frame. -/
def redAdd (s : State) (src : Option Nat) (ids : Nat × Nat) (c : RedSt) : State :=
  let lane := src.getD 10
  let bad (s : State) : State := deadLetter (raise s Reg.TVL_GEVENT F.TVL_GEVENT_REDUCE_MISMATCH) 0xA 2 lane 0x0201 ids.1 ids.2
  match s.tvl.red.find? (fun r => r.rid == c.rid) with
  | some r =>
    if r.op != c.op || r.elems.length != c.elems.length || (match src with | some n => r.from_.contains n | none => r.loc) then bad s
    else
      let r := { r with elems := (r.elems.zip c.elems).map (fun p => redElem r.op p.1 p.2), contrib := r.contrib + c.contrib,
                        partial_ := r.partial_ || c.partial_, from_ := src.toList ++ r.from_, loc := r.loc || src.isNone }
      redCheck { s with tvl := { s.tvl with red := s.tvl.red.map (fun x => if x.rid = r.rid then r else x) } } r.rid
  | none =>
    if s.tvl.redDone.contains c.rid then deadLetter s 0xB 2 lane 0x0201 ids.1 ids.2
    else if 4 ≤ s.tvl.red.length then bad s
    else
      let r := { c with from_ := src.toList, loc := src.isNone, openAt := now s }
      redCheck { s with tvl := { s.tvl with red := s.tvl.red ++ [r] } } r.rid

/-- R618: a tree edge below is no longer awaited by the open reductions. -/
def redEdgeGone (s : State) (n : Nat) : State :=
  forEach (s.tvl.red.filter (fun r => !r.from_.contains n)) s (fun s r =>
    redCheck { s with tvl := { s.tvl with red := s.tvl.red.map (fun x => if x.rid = r.rid then { x with partial_ := true } else x) } } r.rid)

/-! ## Lanes that leave UP (R617–R621) -/

/-- R614, R621: the board lane between a rail master and a member is lost for the widened rail. -/
def wideLaneLost (s : State) (n : Nat) : State :=
  if n < 6 then s
  else forEach (rails s) s (fun s c =>
    if wideRole s c = 1 ∧ bitOf (wideMask s c) (n - 6) then memberGone s c (n - 6)
    else if wideRole s c = 2 ∧ widePos s c = n - 6 then dutyLost s c else s)

/-- The frames that a lane holds for its partner: in replay buffers, in progress and in transmit queues. -/
def laneFrames (s : State) (n : Nat) : List QFrame :=
  [1, 2, 3].flatMap (fun c => (lclsOf s n c).replay.map (fun r => r.q))
    ++ (match (laneOf s n).prog with | some p => if p.again then [] else [p.q] | none => [])
    ++ [1, 2, 3].flatMap (fun c => (lclsOf s n c).out)

/-- R617–R621: a lane leaves UP. -/
def laneLeave (s : State) (n : Nat) (st : LaneState) : State :=
  if laneUp s n then
    let held := laneFrames s n
    let waiting := (laneOf s n).cells
    let below := (belowLanes s).contains n
    let s := setLane s n (fun x => { x with state := st, since := now s, cls := [], cells := [], c0used := 0, c0owed := 0, prog := none, c2run := 0,
                                            fastDue := false, boostDue := [] })
    let s := raise s (Reg.TVL_EVENT n) F.TVL_EVENT_LINK_DOWN
    let s := forEach held s (fun s q => deadFrame s 0xC q)
    let s := forEach waiting s cellLeft
    let s := if below then redEdgeGone s n else s
    let s := if upLane s = some n then { s with tb := { s.tb with xch := none } } else s
    wideLaneLost s n
  else setLane s n (fun x => { x with state := st, since := now s })

/-- A lane goes to WAIT. -/
def laneWait (s : State) (n : Nat) : State := setLane (laneLeave s n .wait) n (fun x => { x with longWait := false })

/-- R592, R622: the replay limit of a lane. -/
def replayLimit (s : State) (n : Nat) : State :=
  let s := laneWait (raise s (Reg.TVL_EVENT n) F.TVL_EVENT_REPLAY_LIMIT) n
  let ts := ((now s) :: (laneOf s n).limits).take 3
  let s := setLane s n (fun x => { x with limits := ts })
  if ts.length = 3 ∧ now s ≤ ts.getLastD 0 + 1000000000 then
    record (setLane s n (fun x => { x with longWait := true, limits := [] })) .control 0x0E 0x02 n 0 0 0
  else s

/-- R592: resend a class from the frame that `from_` selects in the replay buffer, unless its resends are spent. -/
def resendFrom (s : State) (n c lseq : Nat) : State :=
  let x := lclsOf s n c
  let again := x.replay.dropWhile (fun r => r.lseq != lseq)
  if again = [] then s
  else if aF s (Reg.TVL_CFG n) F.TVL_CFG_REPLAY_MAX ≤ x.tries then replayLimit s n
  else bump (setLcls s n c (fun x => { x with resend := again, tries := x.tries + 1 })) (Reg.TVL_CNT n) F.TVL_CNT_REPLAYS

/-- R623–R625, R619: lanes as role, EN and image give them: a lane with a role and EN enters DETECT, another is DISABLED. -/
def laneStart (s : State) (n : Nat) : State :=
  if laneRole s n != 0 && aOn s (Reg.TVL_CFG n) F.TVL_CFG_EN then
    if (laneOf s n).state = .disabled then setLane s n (fun x => { x with state := .detect, since := now s }) else s
  else if (laneOf s n).state = .disabled then s
  else laneLeave s n .disabled

/-- R625: every lane to DISABLED. -/
def lanesOff (s : State) : State := forEach lanes s (fun s n => if (laneOf s n).state = .disabled then s else laneLeave s n .disabled)

end Sys2Proof.Machine
end

