-- ==== Sys2Proof/Machine/TbOps.lean ====
section
/-! DEFINITION. The time base's alignment servo and the clock faults: status words, ALIGNED, steps, the servo update, and what a lost
clock does (ch. 2). -/

namespace Sys2Proof.Machine

/-! ## Status words (Tables 2.5, 2.10) -/

def servoCode : Servo → Nat
  | .free => 0
  | .master => 1
  | .acquire => 2
  | .locked => 3
  | .holdover => 4

/-- PARENT: port 0–5, 6 for the board segment, 7 for none. -/
def tbParent (s : State) : Nat :=
  match upLane s with
  | some n => min n 6
  | none => 7

def tbStatusWord (s : State) : Nat :=
  servoCode s.tb.servo + 8 * b2n s.tb.aligned + 16 * b2n s.tb.everLocked + 32 * b2n (s.tb.slew != 0) + 64 * b2n (commitPending s)
    + 128 * b2n s.tb.discont + 256 * tbParent s

/-! ## ALIGNED and states -/

def setTb (s : State) (f : TbSt → TbSt) : State := { s with tb := f s.tb }

/-- ALIGNED goes to 0: LOST_ALIGN and its record. -/
def loseAlign (s : State) : State :=
  if s.tb.aligned then
    let s := raise (setTb s (fun t => { t with aligned := false })) Reg.TB_EVENT F.TB_EVENT_LOST_ALIGN
    record s .mgmt 0x05 0x02 1 0 (rd s Reg.CLK_FAULT).toNat (tbStatusWord s)
  else s

/-- LOCKED is entered: ACQUIRED, EVER_LOCKED, and DISCONT is cleared. -/
def enterLocked (s : State) : State :=
  raise (setTb s (fun t => { t with servo := .locked, everLocked := true, discont := false, aligned := !t.rateLimited })) Reg.TB_EVENT
    F.TB_EVENT_ACQUIRED

/-- ACQUIRE is entered. -/
def enterAcquire (s : State) : State := loseAlign (setTb s (fun t => { t with servo := .acquire, lockRun := 0 }))

/-- R113: the node becomes domain master. -/
def enterMaster (s : State) : State := setTb s (fun t => { t with servo := .master, slew := 0, aligned := true, xch := none })

/-- Table 2.5: FREE. -/
def enterFree (s : State) : State :=
  loseAlign (setTb s (fun t => { t with servo := .free, rate := 0, slew := 0, integ := 0, lockRun := 0, limitRun := 0, rateLimited := false, xch := none }))

/-- HOLDOVER is entered: RATE is held, SLEW is 0, and ALIGNED reads 1 until the holdover limit (Table 2.5), from ACQUIRE too; R138 keeps it
at 0. -/
def enterHoldover (s : State) : State :=
  raise (setTb s (fun t => { t with servo := .holdover, aligned := !t.rateLimited, slew := 0, heldSince := t.c, lockRun := 0, xch := none })) Reg.TB_EVENT F.TB_EVENT_HOLDOVER

/-! ## Step and servo update -/

/-- (C, F) as one number of 2⁻³² ns. -/
def tbFull (s : State) : Nat := s.tb.c * 2 ^ 32 + s.tb.f

/-- R126: C is replaced by C − θ; θ in 1/16 ns. -/
def tbStep (s : State) (theta : Int) : State :=
  let v := (((tbFull s : Int) - theta * 2 ^ 28) % (2 ^ 96 : Nat)).toNat
  let s := setTb s (fun t => { t with c := v / 2 ^ 32, f := v % 2 ^ 32, integ := 0, lockRun := 0 })
  let s := raise (bump s Reg.TB_STEP_CNT ⟨0, 16⟩) Reg.TB_EVENT F.TB_EVENT_STEPPED
  dueMark (estStep s) 3

/-- R122, R123: the servo may step. -/
def mayStep (s : State) (theta : Int) : Bool :=
  decide (16000 < absI theta) && aOn s Reg.TB_SERVO_CFG F.TB_SERVO_CFG_STEP_EN && !commitPending s
    && (decide (theta < 0) || (s.tb.servo == .acquire && !s.tb.everLocked))

abbrev rateMax : Int := 10737418
abbrev slewMax : Int := 21474836

/-- One ppm of a 10 ns period (and 1 ns of θ in the RATE update), in 2⁻³² ns. -/
abbrev ppmUnit : Int := 42950

/-- The exchange interval in REFCLK cycles: 125 µs × 2^INTERVAL. -/
def syncCycles (s : State) : Nat := 12500 * 2 ^ aF s Reg.TB_SERVO_CFG F.TB_SERVO_CFG_INTERVAL

/-- The lock window, 1/16 ns. -/
def lockWindow (s : State) : Int := aF s Reg.TB_SERVO_CFG F.TB_SERVO_CFG_LOCK_WINDOW

/-- R138: an exchange finds RATE at its limit, or not. -/
def limitCount (s : State) : State := setTb s (fun t => { t with limitRun := if absI t.rate = rateMax then t.limitRun + 1 else 0 })

/-- RATE and SLEW after an exchange with offset θ, by the pseudocode of the servo update (DEDUCED, log entry 22: the worked example of R129
gives another SLEW). -/
def tbCorrect (s : State) (theta : Int) : State :=
  let ki := aF s Reg.TB_SERVO_CFG F.TB_SERVO_CFG_KI
  let kp := aF s Reg.TB_SERVO_CFG F.TB_SERVO_CFG_KP
  let integ := s.tb.integ + theta
  let rate := clampI (-rateMax) rateMax (s.tb.rate - integ * ppmUnit / (2 ^ (ki + 8) : Nat))
  let slew := clampI (-slewMax) slewMax (-(theta * 2 ^ 28 / (2 ^ kp : Nat)) / (syncCycles s : Nat))
  limitCount (setTb s (fun t => { t with integ := integ, rate := rate, slew := slew }))

/-- The exchange counts towards the lock count; R138 ends when θ is again within the lock window. -/
def tbLock (s : State) (theta : Int) : State :=
  let within := decide (absI theta ≤ lockWindow s)
  let s := setTb s (fun t => { t with lockRun := if within then t.lockRun + 1 else 0, rateLimited := t.rateLimited && !within })
  let s := if within && s.tb.servo == .locked then setTb s (fun t => { t with aligned := true }) else s
  if s.tb.servo = .acquire ∧ 2 ^ aF s Reg.TB_SERVO_CFG F.TB_SERVO_CFG_LOCK_COUNT ≤ s.tb.lockRun then enterLocked s else s

/-- The servo update on a valid exchange: offset and delay in 1/16 ns. Before there is a filtered delay no exchange is an outlier
(DESIGN CHOICE, log entry 21). -/
def tbServo (s : State) (theta : Int) (d : Nat) : State :=
  let old := s.tb.delay
  if old ≠ 0 ∧ 2 * old + 160 < d then raise s Reg.TB_EVENT F.TB_EVENT_OUTLIER
  else
    let s := setTb s (fun t => { t with delay := Config.delayFilter old d, theta := theta })
    let s := if s.tb.servo = .holdover then (if absI theta ≤ lockWindow s then enterLocked s else enterAcquire s) else s
    if mayStep s theta then limitCount (tbStep s theta) else tbLock (tbCorrect s theta) theta

/-! ## Clock faults -/

/-- A clock fault: its bit of CLK_FAULT and the record of class CLK (UNIT the bit). -/
def clkFault (s : State) (bit : Nat) : State :=
  let s := raise s Reg.CLK_FAULT ⟨bit, 1⟩
  record s .mgmt 0x05 0x01 bit 0 (rd s Reg.CLK_FAULT).toNat (tbStatusWord s)

/-- R132, R363: CLK_CTL is lost. -/
def ctlClockLost (s : State) : State :=
  let s := phasesMid s (List.range 64)
  dischargeAll (haltEntry { s with top := { s.top with hClock := true } }) false true

end Sys2Proof.Machine
end

