-- ==== Sys2Proof/Machine/DomOps.lean ====
section
/-! DEFINITION. Shared operations of a domain (ch. 13): roles, heartbeats, the allocation of R645, ALLOC segments, the comparison of the
budget table, and domain commits. -/

namespace Sys2Proof.Machine

def setDom (s : State) (f : DomSt → DomSt) : State := { s with dom := f s.dom }

/-- Table 13.4: the role that the node holds; none outside LOADED, RAMP and RUN. -/
def domRoleNow (s : State) : DomRole :=
  if s.top.state = .loaded ∨ s.top.state = .ramp ∨ s.top.state = .run then s.dom.role else .none_

/-- Bytes of firmware SRAM as a number, as every agent reads them. -/
def sramLe (s : State) (off n : Nat) : Nat := leAt (memRead s off n) 0 n

/-- A role in which a node contributes to the collectives. -/
def takesPart (s : State) : Bool := domRoleNow s != .none_ && domRoleNow s != .claim

def domCfg (s : State) (f : Fld) : Nat := aF s Reg.DOM_EPOCH_CFG f
def grpCfg (s : State) (f : Fld) : Nat := aF s Reg.DOM_GROUP_CFG f

/-- The budget epoch being filled. -/
def nextEpoch (s : State) : Nat := s.bt.last + 1

/-! ## Heartbeats and roles -/

def members (s : State) : Nat := if s.dom.role = .master then s.dom.members.length else s.dom.hbMembers

/-- R630: a HEARTBEAT of SCOPE DOMAIN. -/
def sendHeartbeat (s : State) : State :=
  postFrame s 0x0110 1 0 (leBytes 8 (now s) ++ leBytes 8 (btEpoch (actBt s)) ++ leBytes 2 s.dom.standby ++ leBytes 2 s.dom.mgen
    ++ leBytes 2 (members s) ++ leBytes 2 0)

/-- The node becomes master with an epoch; a Postmark marks the change of master epoch. -/
def becomeMaster (s : State) (e : Nat) : State :=
  let s := setDom (pmRefresh s) (fun d => { d with role := .master, mepoch := e, master := ownNode s, upLane := none, masterLost := false, missed := 0,
                                                   hbSent := now s / 100000,
                                                   mEpochs := 0, goEpochs := [], fwCeil := [] })
  dueMark (enterMaster s) 2

/-- Table 13.5: a COMMIT_ANN of SCOPE DOMAIN. -/
def postAnn (s : State) (cid tick basis : Nat) (es : List (Nat × Nat × Nat)) : State :=
  postFrame s 0x0111 1 0 (leBytes 4 cid ++ leBytes 1 es.length ++ leBytes 3 0 ++ leBytes 8 tick ++ leBytes 8 basis
    ++ es.flatMap (fun e => leBytes 4 (e.1 + e.2.1 * 2 ^ 8 + e.2.2 * 2 ^ 20)))

/-- R632, R633: a standby takes over. Its active bank becomes the authoritative copy (R654), whose present nodes are the
members it allocates to, and its firmware announces again what it
received under the previous epoch and lies 20 µs or more ahead (R639). -/
def takeover (s : State) : State :=
  let again := s.dom.anns.filter (fun a => a.epoch == s.dom.mepoch && decide (now s + 20000 ≤ a.tick))
  let s := becomeMaster (setSegs s true {}) (s.dom.mepoch + 1)
  let s := setDom s (fun d => { d with rerooted := true, standby := 0xFFFF, noStandby := false,
                                       members := (List.range 1024).filter (fun n => d.members.contains n || n == ownNode s || bitOf (btNode (actBt s) n) 63) })
  let s := bump (raise s Reg.DOM_EVENT F.DOM_EVENT_FAILOVER) Reg.DOM_CNT F.DOM_CNT_FAILOVERS
  let s := sendHeartbeat (record s .control 0x0F 0x06 (ownNode s) 0 s.dom.mepoch (ownNode s))
  forEach again s (fun s a => postAnn s a.cid a.tick a.basis a.entries)

/-- R632 but for MASTER_LOST (FO_ARMED). -/
def foArmed (s : State) : Bool := domRoleNow s == .standby && s.dom.hbSeen && decide (s.dom.mepoch < 0xFFFFFFFF)

/-- R679: a frame from a node that is not the present master. -/
def staleSrc (s : State) (src : Nat) : State :=
  record (raise s Reg.DOM_EVENT F.DOM_EVENT_STALE_SRC) .control 0x0F 0x05 src 0 s.dom.mepoch src

/-- R679: the frame's source is the present master. -/
def fromMaster (s : State) (src : Nat) : Bool := s.dom.role != .none_ && src == s.dom.master

/-! ## The allocation of R645, in 1/8 W -/

structure Want where
  id : Nat
  floor : Nat
  demand : Nat
  weight : Nat
  deriving DecidableEq, Repr

/-- clip(λ × w, f, d) in 2⁻¹⁶ of 1/8 W; λ in 2⁻¹⁹ W. -/
def clipWant (lam : Nat) (w : Want) : Nat := max (w.floor * 2 ^ 16) (min (w.demand * 2 ^ 16) (lam * w.weight))

/-- The bisection of R645. -/
def lamFind (l : List Want) (b : Nat) : Nat → Nat → Nat → Nat
  | 0, lo, _ => lo
  | n + 1, lo, hi =>
    let m := (lo + hi) / 2
    if b * 2 ^ 16 < (l.map (clipWant m)).sum then lamFind l b n lo m else lamFind l b n m hi

/-- The units left over go one each to the nodes between their floor and their demand, in ascending order. -/
def giveLeft : Nat → List (Want × Nat) → List (Want × Nat)
  | _, [] => []
  | left, (w, a) :: t =>
    if 0 < left ∧ w.floor < a ∧ a < w.demand then (w, a + 1) :: giveLeft (left - 1) t else (w, a) :: giveLeft left t

/-- The shares of those that reported, and OVERSUB; the budget is none where there is no limit. -/
def allocate (budget : Option Nat) (l : List Want) : List (Want × Nat) × Bool :=
  let need := (l.map (fun w => max w.floor w.demand)).sum
  match budget with
  | none => (l.map (fun w => (w, min (max w.floor w.demand) 65535)), false)
  | some b =>
    if b ≤ (l.map (fun w => w.floor)).sum then (l.map (fun w => (w, min w.floor 65535)), true)
    else
      let ws := max (l.map (fun w => w.weight)).sum 1
      let a := if need ≤ b then l.map (fun w => (w, min (max w.floor w.demand + (b - need) * w.weight / ws) 65535))
        else
          let lam := lamFind l b 32 0 (2 ^ 32)
          l.map (fun w => (w, min (clipWant lam w / 2 ^ 16) 65535))
      (giveLeft (b - (a.map (fun p => p.2)).sum) a, false)

/-! ## ALLOC segments (R646, R647) -/

/-- The lane toward the standby (R637). -/
def standbyLane (s : State) : Option Nat :=
  if s.dom.role = .master ∧ s.dom.standby ≠ 0xFFFF then
    lanes.find? (fun n => treeLane s n && laneUp s n && fld s (Reg.TVL_STATUS n) F.TVL_STATUS_PEER_NODE == s.dom.standby)
  else none

/-- The segments of a set of node entries: FIRST and the entries, 62 at most. -/
def segments (first last : Nat) : List (Nat × Nat) :=
  (List.range ((last - first) / 62 + 1)).map (fun k => (first + 62 * k, min 62 (last + 1 - (first + 62 * k))))

/-- R646: ALLOC_GO. The engine takes the allocation buffer, sends the segments and completes its own bank. -/
def allocGo (s : State) : State :=
  if domRoleNow s ≠ .master ∨ btSealed (pendBt s) then s
  else
    let e := nextEpoch s
    let base := (ac s Reg.DOM_ABUF).toNat
    let b := (List.range 1024).foldl (fun b n => setBw64 b (16 + 2 * n) (nodeEntry (sramLe s (base + 8 * n) 8))) (pendBt s)
    let b := btHeader b e s.dom.mepoch (ownNode s)
    let present := (List.range 1024).filter (fun n => bitOf (btNode b n) 63)
    let segs := segments (present.head?.getD 0) (present.getLastD 0)
    let g : SegSet := { got := List.range segs.length, nseg := segs.length, epoch := e, mepoch := s.dom.mepoch, master := ownNode s,
                        entry := present.foldl (fun t n => tabSet 0 t n (btNode b n)) [] }
    let s := setSegs (setPendBt s b) false g
    let s := setDom s (fun d => { d with goEpochs := (e :: d.goEpochs).take 3 })
    let s := forEach ((List.range segs.length).zip segs) s (fun s q =>
      postFrame s 0x0113 1 0 (leBytes 8 e ++ leBytes 2 q.2.1 ++ leBytes 1 q.2.2 ++ leBytes 1 q.1 ++ leBytes 1 segs.length ++ leBytes 3 0
        ++ (List.range q.2.2).flatMap (fun i => leBytes 8 (btNode b (q.2.1 + i)))))
    sealTry (setPendBt s (btFlagSet (pendBt s) 1))

/-! ## Comparison (R650–R654) -/

/-- Bits of an entry that are live, given the authoritative one. -/
def liveMask (e : Nat) : Nat := if bitOf e 63 then 2 ^ 64 - 1 - 0x7F * 2 ^ 56 else 0

/-- A divergence: counted, entered and corrected. -/
def divergence (s : State) (act live : Bool) (ix : Nat) : State :=
  let s := bump s Reg.DOM_BT_CMP (if live then F.DOM_BT_CMP_LIVE else F.DOM_BT_CMP_BENIGN)
  let s := raise s Reg.DOM_EVENT (if live then F.DOM_EVENT_LIVE else F.DOM_EVENT_BENIGN)
  let b := if act then actBt s else pendBt s
  record s .control 0x0F (if live then 2 else 1) ix 0 (btEpoch b) 0

/-- R650: compare a bank with its retained segments; `stuck` says that a corrected live bit still differs (R653). The answer says
whether the bank passes. Entry index 1,024 stands for the header; the flags and CHECK of the active bank, which is sealed, are those of its
other contents. -/
def btCompare (s : State) (act stuck : Bool) : State × Bool :=
  let g := segsOf s act
  if g.nseg = 0 then (s, true)
  else
    let b := if act then actBt s else pendBt s
    let bad := (List.range 1024).filter (fun n => btNode b n != tabGet 0 g.entry n)
    let hdrDead := (List.range 9).any (fun i => bw b (6 + i) != 0)
    let want := btHeader b g.epoch g.mepoch g.master
    let want := if act then btFlagSet (btFlagSet (btFlagSet want 0) 1) 2 else want
    let fixed := bad.foldl (fun b n => setBw64 b (16 + 2 * n) (tabGet 0 g.entry n)) want
    let fixed := (List.range 9).foldl (fun b i => setBw b (6 + i) 0) fixed
    let fixed := if act then btSetCheck fixed else fixed
    let hdrLive := [0, 1, 2, 3, 4, 5, 15].any (fun i => bw b i != bw fixed i)
    let isLive (n : Nat) : Bool := (btNode b n ^^^ tabGet 0 g.entry n) &&& liveMask (tabGet 0 g.entry n) != 0
    if bad = [] ∧ !hdrDead ∧ !hdrLive then (setDom s (fun d => { d with differs := false }), true)
    else
      let s := forEach bad s (fun s n => divergence s act (isLive n) n)
      let s := if hdrDead || hdrLive then divergence s act hdrLive 1024 else s
      let s := if act then setActBt s fixed else setPendBt s fixed
      let fault := stuck && (hdrLive || bad.any isLive)
      (setDom s (fun d => { d with differs := fault }), !fault)

/-- DOMAIN_COMPLETE once every segment has arrived and the bank passes (R647, R650, R653). -/
def domComplete (s : State) : State :=
  let (s, ok) := btCompare s false false
  if ok && !btComplete (pendBt s) then sealTry (setPendBt s (btFlagSet (pendBt s) 1)) else s

/-! ## Domain commits (R655–R664, R674) -/

/-- The ceiling in force of a group: N and REASON. -/
def groupCeil (s : State) (g : Nat) : Nat × Nat :=
  let v := tabGet 0 s.dom.ceil g
  if v = 0 then (1024, 0) else ((v - 1) % 2048, (v - 1) / 2048)

/-- R660: a refusal is counted and reported to the master. -/
def domRefuse (s : State) (cid result g : Nat) : State :=
  let s := bump (raise s Reg.DOM_EVENT F.DOM_EVENT_REFUSE) Reg.DOM_CNT F.DOM_CNT_REFUSALS
  if s.dom.role = .master then s
  else postFrame s 0x0112 0 s.dom.master (leBytes 4 cid ++ leBytes 2 (ownNode s) ++ leBytes 1 result ++ leBytes 1 g ++ leBytes 8 (now s))

/-- R660, R663, R639: stage one domain commit of a group in which the node is a member. -/
def domStage (s : State) (c : DomCommit) : State :=
  if (groupParts s c.group).isEmpty then s
  else if c.cid.isSome && s.dom.commits.any (fun x => x.group == c.group && x.cid == c.cid) then s
  else if c.tick < now s + 1000 then domRefuse s (c.cid.getD 0) resLate c.group
  else if now s + 10000000000 < c.tick then domRefuse s (c.cid.getD 0) resFar c.group
  else if 4 ≤ (s.dom.commits.filter (fun x => x.group == c.group)).length then domRefuse s (c.cid.getD 0) resBusy c.group
  else setDom s (fun d => { d with commits := d.commits ++ [c], lastCid := match c.cid with
    | some k => tabSet 0 d.lastCid c.group k
    | none => d.lastCid })

/-- R661: the ceiling is written to the group's partitions. -/
def ceilWrite (s : State) (g n reason : Nat) : State :=
  let s := setDom s (fun d => { d with ceil := tabSet 0 d.ceil g (if n = 1024 ∧ reason = 0 then 0 else n + reason * 2048 + 1) })
  forEach (groupParts s g) s (fun s p =>
    let own := b2n (fld s (Reg.CAP_PROP p) F.CAP_PROP_N == n)
    let w := putFld (putFld (putFld (ac s (Reg.CAP_GCEIL p)) F.CAP_GCEIL_N n) F.CAP_GCEIL_REASON reason) F.CAP_GCEIL_OWN own
    wr (wrAc s (Reg.CAP_GCEIL p) w) (Reg.CAP_GCEIL p) w)

/-- One domain commit takes effect. -/
def domEffect (s : State) (c : DomCommit) : State :=
  let s := match c.cid with
    | some _ =>
      -- R664: the lower of the announcement's N and of any GTHROT that took effect after its BASIS
      let later := (tabGet [] s.dom.gtEffect c.group).filter (fun e => decide (c.basis < e.1))
      let low := later.foldl (fun m e => min m e.2) c.n
      let reason := if low < c.n then (groupCeil s c.group).2 else c.reason
      ceilWrite s c.group low reason
    | none =>
      let cur := groupCeil s c.group
      let s := if c.n < cur.1 then ceilWrite s c.group c.n c.reason else ceilWrite s c.group cur.1 cur.2
      setDom s (fun d => { d with gtEffect := tabSet [] d.gtEffect c.group (((c.tick, c.n) :: tabGet [] d.gtEffect c.group).take 16) })
  commitEntry s ((groupParts s c.group).foldl (fun m p => m ||| 2 ^ (8 + p)) 0) 1 resDone c.tick (!s.tb.aligned)

/-- The order of R674. -/
def domOrder (l : List DomCommit) : List DomCommit :=
  (l.filter (fun c => c.cid.isSome)).mergeSort (fun a b => decide (a.cid.getD 0 ≤ b.cid.getD 0)) ++ l.filter (fun c => c.cid.isNone)

/-- R681: every pending domain commit is cancelled. -/
def domCancel (s : State) : State :=
  let gone := s.dom.commits
  let s := setDom s (fun d => { d with commits := [] })
  forEach gone s (fun s c => commitEntry s ((groupParts s c.group).foldl (fun m p => m ||| 2 ^ (8 + p)) 0) 1 resCancelled c.tick)

/-- R662: a proposal has fallen far enough below the ceiling of its group: a GTHROT goes out and is staged here too. -/
def gthrotCheck (s : State) (p : Nat) : State :=
  let f := framesOf s
  let g := partGroupF f p
  let n := fld s (Reg.CAP_PROP p) F.CAP_PROP_N
  let last := tabGet 0 s.dom.gthrotAt g
  if takesPart s && groupHereF f g && groupFastF f g && decide (n + groupDropF f g ≤ (groupCeil s g).1) && (last == 0 || decide (last - 1 + 20000 ≤ now s)) then
    let lead := grpCfg s F.DOM_GROUP_CFG_GT_LEAD * 1000
    let reason := fld s (Reg.CAP_PROP p) F.CAP_PROP_REASON
    let s := setDom s (fun d => { d with gthrotAt := tabSet 0 d.gthrotAt g (now s + 1) })
    let s := bump s Reg.DOM_CNT F.DOM_CNT_GTHROTS
    let tick := (now s + lead) / 10
    let s := originate s { ctype := 2, scope := 2, node := ownNode s, payload := g + n * 2 ^ 6 + reason * 2 ^ 17 + tick % 8192 * 2 ^ 21 }
    domStage s { group := g, n := n, reason := reason, tick := tick * 10, cid := none, basis := 0 }
  else s

/-- R666: a HOLD of `us` µs for a group. -/
def holdStart (s : State) (g us : Nat) : State :=
  let s := setDom s (fun d => { d with holds := tabSet 0 d.holds g (max (tabGet 0 d.holds g) (now s + us * 1000)) })
  forEach (groupParts s g) s holdUpdate

/-- R628, R680: the role of this node and the domain's state as the image gives them. -/
def roleTake (s : State) : State :=
  let f := framesOf s
  let own := ownNode s
  let s := if s.dom.mepoch = 0 then s else dueMark s 2
  let role : DomRole := if !inDomain s then .none_ else if domMasterF f = own then .claim else if domStandbyF f = own then .standby else .joining
  { s with dom := { role := role, master := domMasterF f, claimAt := now s, cid := s.dom.cid, hbDone := now s / 100000, cycleAt := now s } }

/-- R628, R680, R141: the role and the servo's state when an image is applied. -/
def domRole (s : State) : State :=
  let s := roleTake s
  match s.dom.role with
  | .none_ => enterFree s
  | .claim => enterMaster s
  | _ => enterAcquire (setTb s (fun t => { t with rateLimited := false }))

/-- R681: a reset returns the role to that of R628. The servo goes on, but for a device that no longer is the master or is in no domain. -/
def roleReset (s : State) : State :=
  let s := roleTake s
  match s.dom.role with
  | .none_ => enterFree s
  | .claim => s
  | _ => if s.tb.servo = .master then enterAcquire s else s

end Sys2Proof.Machine
end

