-- ==== Sys2Proof/Machine/RecOps.lean ====
section
/-! DEFINITION. The recorder's arbiter and ring: Postmarks, rotation, overwrite and stop-and-count (R68, R69, R830–R839). -/

namespace Sys2Proof.Machine

/-- The ring holds 16,384 entries (R830). -/
abbrev ringSize : Nat := 16384

/-- The 32 bytes of a recorder entry (Table 18.2). -/
def entryBytes (e : Entry) : List Byte :=
  leBytes 8 e.seq ++ leBytes 1 e.cls ++ leBytes 1 e.typ ++ leBytes 1 e.flags ++ [0] ++ leBytes 2 e.unit ++ leBytes 2 e.arg
    ++ leBytes 8 e.value ++ leBytes 8 e.value2

def stopMode (s : State) : Bool := flag s Reg.REC_CTL F.REC_CTL_MODE
def spillOn (s : State) : Bool := flag s Reg.REC_CTL F.REC_CTL_SPILL_EN

/-- R838: the stop point. -/
def stopPoint (s : State) : Nat :=
  if spillOn s then min (s.recd.tail + ringSize) (s.recd.spillNext + ringSize) else s.recd.tail + ringSize

/-- Postmarks and the classes STATE, PROT and LAD may use the reserve of 64 slots (R831, R838). -/
def mayReserve (e : Entry) : Bool := e.cls == 2 || e.cls == 6 || e.cls == 7 || (e.cls == 1 && e.typ == 1)

/-- The arbiter may write this entry now. -/
def ringRoom (s : State) (e : Entry) : Bool :=
  !stopMode s || s.recd.head + 64 < stopPoint s + (if mayReserve e then 64 else 0)

/-- R830: the entry takes the next sequence number and its slot. -/
def ringWrite (s : State) (e : Entry) : State :=
  { s with recd := { s.recd with ring := tabSet {} s.recd.ring (s.recd.head % ringSize) { e with seq := s.recd.head },
                                 head := s.recd.head + 1 } }

/-- R838: the arbiter discards an entry and counts it. -/
def ringDiscard (s : State) : State :=
  let s := bump s Reg.REC_LOST wordF
  let s := raise s Reg.REC_EVENT F.REC_EVENT_STOP
  sinkTake { s with recd := { s.recd with stopLoss := s.recd.stopLoss + 1 } } 8

/-- R839: once the stop point has risen or MODE is 0 again, one STOP_LOSS entry goes first. -/
def ringResume (s : State) : State :=
  if 0 < s.recd.stopLoss ∧ ringRoom s { cls := 0x01, typ := 0x03 } then
    let s := ringWrite s { cls := 0x01, typ := 0x03, flags := 3, value := s.recd.stopLoss }
    { s with recd := { s.recd with stopLoss := 0 } }
  else s

/-- The arbiter grants one entry. -/
def grantEntry (s : State) (e : Entry) : State :=
  let s := ringResume s
  if ringRoom s e then ringWrite s e else ringDiscard s

/-- A Postmark as it is granted: time base, servo state, master epoch and last budget epoch (R830). -/
def markNow (s : State) (e : Entry) : Entry :=
  { e with value := now s, arg := (match s.tb.servo with | .free => 0 | .master => 1 | .acquire => 2 | .locked => 3 | .holdover => 4)
             + 8 * b2n s.tb.aligned,
           value2 := s.dom.mepoch + s.bt.last % 2 ^ 32 * 2 ^ 32 }

/-- R831: the time base has reached a multiple of 1,000,000 ns since the last periodic Postmark. -/
def markDue (s : State) : Bool := s.recd.lastMs < now s / 1000000

/-- Lifetime counters 1 and 2 (Table 18.10): the seconds of the time base that have passed outside OFF, and in RUN. -/
def lifeSeconds (s : State) : State :=
  let n := now s / 1000000000 - s.recd.lastMs / 1000
  let up (t : Tab Nat) (k : Nat) : Tab Nat := tabSet 0 t k ((tabGet 0 t k + n) % 2 ^ 64)
  let t := if s.top.state = .off then s.nvs.life else up s.nvs.life 1
  { s with nvs := { s.nvs with life := if s.top.state = .run then up t 2 else t } }

def takeMark (s : State) : State :=
  if markDue s then
    let s := lifeSeconds s
    dueMark { s with recd := { s.recd with lastMs := now s / 1000000 } } 1
  else s

/-- The next staging queue in the rotation control, data, management after `last` that holds an entry (R68). -/
def nextQueue (s : State) : Option Nat :=
  ([1, 2, 3].map (fun k => (s.recd.last + k) % 3)).find? (fun q =>
    match q with | 0 => s.recd.q0 != [] | 1 => s.recd.q1 != [] | _ => s.recd.q2 != [])

def planeOfNo : Nat → Plane
  | 0 => .control
  | 1 => .data
  | _ => .mgmt

/-- The arbiter runs on CLK_FW, which may have no source (R965). -/
def arbiterRuns (s : State) : Bool := fwOn s

/-- One grant cycle: a Postmark first, else one entry in rotation (R68, R831). -/
def grantCycle (s : State) : State :=
  if arbiterRuns s then
    let s := takeMark s
    match s.recd.marks with
    | m :: ms => grantEntry { s with recd := { s.recd with marks := ms } } (markNow s m)
    | [] =>
      match nextQueue s with
      | none => ringResume s
      | some q =>
        match stageQ s (planeOfNo q) with
        | [] => s
        | e :: es =>
          let s := setStageQ s (planeOfNo q) es
          placeLoss (grantEntry { s with recd := { s.recd with last := q } } e) (planeOfNo q)
  else s

/-- Grant cycles until the control plane's queue is empty: its last entry is then the newest of the ring (R372). -/
def grantControl (s : State) : State :=
  forEach (List.range (s.recd.marks.length + s.recd.q0.length + s.recd.q1.length + s.recd.q2.length + 1)) s
    (fun s _ => if s.recd.q0 = [] then s else grantCycle s)

end Sys2Proof.Machine
end

