-- ==== Sys2Proof/Machine/NvsOps.lean ====
section
/-! DEFINITION. Shared operations of the non-volatile store (ch. 18): sectors and spares, the journal, erases, areas written as
logs, and the copy of the brownout tail. -/

namespace Sys2Proof.Machine

/-! ## Sectors -/

/-- A retired sector is replaced by its spare (R855). -/
def physSector (s : State) (n : Nat) : Nat :=
  let k := tabGet 0 s.nvs.spare n
  if k = 0 then n else 239 + k

def sectorOf (s : State) (n : Nat) : Sector := tabGet {} s.nvs.sect (physSector s n)

def setSector (s : State) (n : Nat) (f : Sector → Sector) : State :=
  { s with nvs := { s.nvs with sect := tabSet {} s.nvs.sect (physSector s n) (f (sectorOf s n)) } }

/-- Units of a sector after its stamp. -/
abbrev sectorUnits : Nat := 511

/-- Length of a store record in units (Table 18.9). -/
def recUnits (payload : List Byte) : Nat := (payload.length + 20 + 63) / 64

/-- The first sector and the number of sectors of the area that holds a KIND (Tables 18.5, 18.9). -/
def areaOf (kind : Nat) : Nat × Nat :=
  if kind = 1 then (8, 8) else if kind = 2 then (16, 32) else if kind = 3 then (48, 16)
  else if kind = 4 then (64, 4) else (68, 172)

/-- UNAVAIL bit of an area: JOURNAL 0, TAIL 1, CAL 2, BASE 3, COUNT 4, KEYS 5. -/
def areaBit (first : Nat) : Option Nat :=
  if first = 0 then some 0 else if first = 2 ∨ first = 5 then some 1 else if first = 8 then some 2
  else if first = 16 then some 3 else if first = 48 then some 4 else if first = 64 then some 5 else none

/-- The area a sector lies in. -/
def areaFirst (n : Nat) : Nat :=
  if n < 2 then 0 else if n < 5 then 2 else if n < 8 then 5 else if n < 16 then 8 else if n < 48 then 16
  else if n < 64 then 48 else if n < 68 then 64 else 68

def unavail (s : State) (first : Nat) : Bool :=
  match areaBit first with
  | some b => bitOf (fld s Reg.NVS_STATUS F.NVS_STATUS_UNAVAIL) b
  | none => false

def setUnavail (s : State) (first : Nat) : State :=
  match areaBit first with
  | some b => setF s Reg.NVS_STATUS ⟨8 + b, 1⟩ 1
  | none => s

/-! ## Journal (R846) -/

def jRaw (s : State) (sec : Nat) (r : JRec) : State := setSector s sec (fun x => { x with jour := x.jour ++ [r], used := x.used + 1 })

/-- The records that a new journal sector has to carry besides its CHECKPOINT: open intents and tails. -/
def jOpen (l : List JRec) : List JRec :=
  l.filter (fun r =>
    (r.typ == 1 && !(l.any (fun d => d.typ == 2 && d.sector == r.sector && r.jseq < d.jseq))) ||
    ((r.typ == 3 || r.typ == 4) && !(l.any (fun d => d.typ == 5 && d.sector == r.sector && r.jseq < d.jseq))))

def nextJ (s : State) : State := { s with nvs := { s.nvs with jseq := s.nvs.jseq + 1 } }

/-- The lowest unused spare, by its number 1–16 (R855). -/
def spareFree (s : State) : Option Nat :=
  let used := s.nvs.spare.map (fun p => p.2)
  ((List.range 16).map (· + 1)).find? (fun k => !used.contains k)

/-- R855: spare `k` takes the place of sector `n`. -/
def spareTake (s : State) (n k : Nat) : State :=
  let e := (sectorOf s n).erases
  let s := { s with nvs := { s.nvs with spare := tabSet 0 s.nvs.spare n k } }
  let s := raise s Reg.NVS_EVENT F.NVS_EVENT_RETIRED
  record s .mgmt 0x13 0x03 n (239 + k) s.nvs.gen e

/-- R856 and NVS_WEAR: the highest erase count and its sector. -/
def wearCheck (s : State) (n : Nat) : State :=
  let e := (sectorOf s n).erases
  let s := if fld s Reg.NVS_WEAR F.NVS_WEAR_MAX_ERASES < e then wrN s Reg.NVS_WEAR (min e (2 ^ 17 - 1) + n % 256 * 2 ^ 24) else s
  if 80000 < e ∧ !(sectorOf s n).wearSaid then
    let s := setSector s n (fun x => { x with wearSaid := true })
    let s := raise s Reg.NVS_EVENT F.NVS_EVENT_WEAR
    record s .mgmt 0x13 0x05 n 0 s.nvs.gen e
  else s

/-- The entry of an erase, and the wear it leaves (R856, R858). -/
def eraseSaid (s : State) (n gen : Nat) : State :=
  wearCheck (record s .mgmt 0x13 0x01 n 0 gen (sectorOf s n).erases) n

/-- R846: with two free units left, the other journal sector is erased and takes the CHECKPOINT and what is open. -/
def jSwitch (s : State) : State :=
  let cur := s.nvs.jcur
  let oth := 1 - cur
  let g := s.nvs.gen + 1
  let e := (sectorOf s oth).erases + 1
  let s := jRaw (nextJ s) cur { typ := 1, sector := oth, jseq := s.nvs.jseq + 1, gen := g, arg := e }
  let s := setSector s oth (fun x => { x with stampOk := true, gen := g, erases := e, used := 0, blankOk := true, jour := [], failed := 0 })
  let s := { s with nvs := { s.nvs with gen := g } }
  let s := jRaw (nextJ s) cur { typ := 2, sector := oth, jseq := s.nvs.jseq + 1, gen := g, arg := 0 }
  let s := eraseSaid s oth g
  let worn := if 100000 ≤ e then spareFree s else none
  let op := jOpen (sectorOf s cur).jour
  let s := match worn with
    | some k => setSector (spareTake s oth k) oth (fun x => { x with gen := g })
    | none => if 100000 ≤ e then setUnavail s 0 else s
  let s := jRaw (nextJ s) oth { typ := 7, sector := oth, jseq := s.nvs.jseq + 1, gen := g, arg := 0, spare := s.nvs.spare }
  let s := forEach op s (fun s r => jRaw (nextJ s) oth { r with jseq := s.nvs.jseq + 1 })
  let s := match worn with
    | some k => jRaw (nextJ s) oth { typ := 6, sector := oth, jseq := s.nvs.jseq + 1, gen := g, arg := k }
    | none => s
  { s with nvs := { s.nvs with jcur := oth } }

/-- Append a journal record to the current journal sector. -/
def jPut (s : State) (typ sector gen arg : Nat) (first : Nat := 0) (entries : Nat := 0) (crc : Nat := 0) : State :=
  let s := if sectorUnits ≤ (sectorOf s s.nvs.jcur).used + 2 then jSwitch s else s
  jRaw (nextJ s) s.nvs.jcur { typ := typ, sector := sector, jseq := s.nvs.jseq + 1, gen := gen, arg := arg, first := first, entries := entries, crc := crc }

/-! ## Erase (R847, R855, R856) -/

/-- Step 1 and 2 of R847: the intent, then the erase begins; the sector holds nothing valid until its stamp is programmed. -/
def eraseStart (s : State) (n : Nat) : State :=
  let g := s.nvs.gen + 1
  let e := (sectorOf s n).erases + 1
  let s := jPut s 1 n g e
  let s := setSector s n (fun x => { x with stampOk := false, blankOk := false, used := 0, recs := [], jour := [], erases := e })
  { s with nvs := { s.nvs with gen := g, erase := some { sector := n, gen := g, count := e }, tails := tabErase s.nvs.tails n } }

/-- The next sector that waits to be erased. -/
def eraseNext (s : State) : State :=
  match s.nvs.erase, s.nvs.eraseQ with
  | none, n :: q => eraseStart { s with nvs := { s.nvs with eraseQ := q } } n
  | _, _ => s

/-- Ask for sectors to be erased, one at a time. -/
def eraseAsk (s : State) (l : List Nat) : State := eraseNext { s with nvs := { s.nvs with eraseQ := s.nvs.eraseQ ++ l } }

/-- R855: a sector is retired in favour of the lowest unused spare. -/
def retire (s : State) (n : Nat) : State :=
  match spareFree s with
  | some k => spareTake (jPut s 6 n s.nvs.gen k) n k
  | none => setUnavail s (areaFirst n)

/-- Steps 3 and 4 of R847 and their entry. -/
def eraseEnd (s : State) (e : EraseSt) : State :=
  let s := setSector s e.sector (fun x => { x with stampOk := true, gen := e.gen, blankOk := true, failed := 0 })
  let s := jPut { s with nvs := { s.nvs with erase := none } } 2 e.sector e.gen 0
  let s := eraseSaid s e.sector e.gen
  if 100000 ≤ e.count then retire s e.sector else s

/-- Sector `n` is being erased or waits for it. -/
def erasePending (s : State) (n : Nat) : Bool := s.nvs.eraseQ.contains n || (match s.nvs.erase with | some e => e.sector == n | none => false)

/-- The engine waits until sector `n` is erased: the erases ahead of it end, and its own. -/
def eraseWait (s : State) (n : Nat) : State :=
  forEach (List.range (s.nvs.eraseQ.length + 1)) s (fun s _ =>
    if erasePending s n then (match s.nvs.erase with
      | some e => eraseNext (eraseEnd s e)
      | none => eraseNext s)
    else s)

/-! ## Areas as logs (R848, R853) -/

/-- The sectors of an area, in order. -/
def areaSectors (first n : Nat) : List Nat := (List.range n).map (· + first)

/-- The area's valid records, oldest first: sectors in the order they were filled, ending at the write sector. -/
def writeSector (s : State) (first : Nat) : Nat :=
  let w := tabGet 0 s.nvs.write first
  if w = 0 then first else w - 1

def areaLog (s : State) (first n : Nat) : List NvRec :=
  let w := writeSector s first - first
  ((List.range n).map (fun k => first + (w + 1 + k) % n)).flatMap (fun x => (sectorOf s x).recs)

/-- The newest valid record of a KIND and KEY: the highest GEN, the later one of equal GEN (R859). -/
def newestRec (l : List NvRec) (kind key : Nat) : Option NvRec :=
  l.foldl (fun b r => if r.kind == kind && r.key == key && r.ok then
    (match b with | none => some r | some x => if x.gen ≤ r.gen then some r else b) else b) none

/-- The records that are the newest of their KIND and KEY. -/
def liveRecs (l : List NvRec) : List NvRec :=
  l.foldr (fun r acc => if r.ok && !(acc.any (fun x => x.kind == r.kind && x.key == r.key)) then r :: acc else acc) []

/-- R848: the area cannot take another record of `u` units. -/
def areaFull (s : State) (kind u : Nat) : Bool :=
  let (first, n) := areaOf kind
  sectorUnits * (n - 2) < ((liveRecs (areaLog s first n)).map (fun r => recUnits r.payload)).sum + u

/-- R848: the write sector is full: the free sector takes over, with what is live in the oldest sector, which is erased. -/
def areaAdvance (s : State) (first n : Nat) : State :=
  let w := writeSector s first - first
  let free := first + (w + 1) % n
  let old := first + (w + 2) % n
  let live := liveRecs (areaLog s first n)
  let keep := (sectorOf s old).recs.filter (fun r => live.contains r)
  let s := setSector s free (fun x => { x with recs := x.recs ++ keep, used := x.used + (keep.map (fun r => recUnits r.payload)).sum })
  let s := { s with nvs := { s.nvs with write := tabSet 0 s.nvs.write first (free + 1) } }
  if (sectorOf s old).used = 0 then s else eraseAsk s [old]

/-- R848: the area has room for `u` units at its append position; each free sector taken is erased by then. -/
def areaRoom (s : State) (first n u : Nat) : State :=
  forEach (List.range n) s (fun s _ =>
    if sectorUnits < (sectorOf s (writeSector s first)).used + u then
      areaAdvance (eraseWait s (first + (writeSector s first - first + 1) % n)) first n
    else s)

/-- Program a record at the area's append position. -/
def putRecord (s : State) (kind key : Nat) (payload : List Byte) : State :=
  let (first, n) := areaOf kind
  let u := recUnits payload
  let s := areaRoom s first n u
  setSector s (writeSector s first) (fun x =>
    { x with recs := x.recs ++ [{ kind := kind, key := key, gen := s.nvs.gen, payload := payload }], used := x.used + u })

/-- A failed attempt leaves its units programmed and unusable (R853). -/
def burnUnits (s : State) (kind u : Nat) : State :=
  let (first, _) := areaOf kind
  setSector s (writeSector s first) (fun x => { x with used := x.used + u })

/-- R854: the lifetime counters as one COUNTERS record of KEY 0. -/
def lifeBytes (s : State) : List Byte := (List.range 10).flatMap (fun k => leBytes 8 (tabGet 0 s.nvs.life k))

def putCounters (s : State) : State :=
  let s := { s with nvs := { s.nvs with countAt := now s } }
  if unavail s 48 then s else putRecord s 3 0 (lifeBytes s)

/-! ## Brownout tail (R372, R843, R844, R857) -/

/-- The unreleased tail record of an area, if any. -/
def tailRec (s : State) (a : Nat) : Option JRec :=
  let l := (sectorOf s s.nvs.jcur).jour
  (l.reverse.find? (fun r => (r.typ == 3 || r.typ == 4) && r.sector == a)).bind (fun r =>
    if l.any (fun d => d.typ == 5 && d.sector == a && r.jseq < d.jseq) then none else some r)

/-- A tail area is armed: erased, stamped, holding no unreleased tail. -/
def areaArmed (s : State) (a : Nat) : Bool :=
  (tailRec s a).isNone && [a, a + 1, a + 2].all (fun n => (sectorOf s n).stampOk && (sectorOf s n).blankOk && (sectorOf s n).used == 0)

def armedArea (s : State) : Option Nat := [2, 5].find? (areaArmed s)

/-- CRC-32C of the 64 KiB of a tail area, whose units after the entries are erased (R843). -/
def tailCrc (es : List Entry) : Nat := crc32c ((es.flatMap entryBytes ++ List.replicate (65536 - 32 * es.length) 0xFF).take 65536)

/-- R850: the tail of a record is VALID: its TAIL_DONE carries the CRC-32C of what the area holds. -/
def tailValid (s : State) (r : JRec) : Bool := r.typ == 4 && r.crc == tailCrc (tabGet [] s.nvs.tails r.sector)

/-- The entries of the ring from sequence `a` to the last one written. -/
def ringFrom (s : State) (a : Nat) : List Entry :=
  (List.range (s.recd.head - a)).map (fun k => tabGet {} s.recd.ring ((a + k) % ringSize))

/-- The NVS command in progress ends with a result. -/
def nvCmdEnd (s : State) (result : Nat) : State :=
  let s := setF s Reg.NVS_CMD_STATUS F.NVS_CMD_STATUS_RESULT result
  let s := raise s Reg.NVS_EVENT (if result = 2 then F.NVS_EVENT_CMD_DONE else F.NVS_EVENT_CMD_FAIL)
  lower { s with nvs := { s.nvs with cmd := none } } Reg.NVS_STATUS F.NVS_STATUS_BUSY

/-- A command that failed writes a WRITE_FAIL entry with the sector. -/
def nvCmdFail (s : State) (result sector : Nat) : State :=
  record (nvCmdEnd s result) .mgmt 0x13 0x04 sector result s.nvs.gen 0

/-- R857: an erase in progress is abandoned, the command ends ABORTED. -/
def nvAbort (s : State) : State :=
  let s := match s.nvs.erase with
    | some _ => { s with nvs := { s.nvs with erase := none, eraseQ := [] } }
    | none => s
  match s.nvs.cmd with
  | some c => nvCmdFail s 8 c.sector
  | none => s

/-- R372, R843, R844: at entry to BROWNOUT the last 2,048 entries are copied and their commit begins; `unit` is the supply. -/
def tailCopy (s : State) (unit : Nat) : State :=
  if s.nvs.tail.isSome then s
  else
    let s := nvAbort s
    match armedArea s with
    | none =>
      let s := raise s Reg.LAD_EVENT F.LAD_EVENT_TAIL_FAIL
      record s .control 0x07 0x04 unit 0 0 (now s)
    | some a =>
      let first := s.recd.head - 2048
      let es := ringFrom s first
      let s := jPut s 3 a s.nvs.gen 0 first es.length
      let s := setSector s a (fun x => { x with used := x.used + 1 })
      raise { s with nvs := { s.nvs with tail := some { area := a, first := first, entries := es } } } Reg.LAD_STATUS F.LAD_STATUS_TAIL_BUSY

/-- The commit ends: completely, or stopped with the first `n` entries programmed (R377, R387). -/
def tailEnd (s : State) (ok : Bool) (n : Nat) : State :=
  match s.nvs.tail with
  | none => s
  | some t =>
    let s := lower { s with nvs := { s.nvs with tail := none, tails := tabSet [] s.nvs.tails t.area (if ok then t.entries else t.entries.take n) } }
      Reg.LAD_STATUS F.LAD_STATUS_TAIL_BUSY
    let s := if ok then jPut s 4 t.area s.nvs.gen 0 t.first t.entries.length (tailCrc t.entries) else s
    if s.top.porHeld then s else raise s Reg.LAD_EVENT (if ok then F.LAD_EVENT_TAIL_DONE else F.LAD_EVENT_TAIL_FAIL)

end Sys2Proof.Machine
end

