-- ==== Sys2Proof/Machine/SecOps.lean ====
section
/-! DEFINITION. The security fuses (ch. 19): key slots, anti-rollback counts, the bounds in force, and what a fuse operation programs. -/

namespace Sys2Proof.Machine

/-! ## Keys and counts (R207, R888, R889) -/

/-- CRC-8 of R575's polynomial over a hash of 48 bytes, byte 0 first. -/
def crc8Bit (c : Nat) : Nat := if 128 ≤ c then (c * 2 % 256) ^^^ 0x07 else c * 2
def crc8Byte (c b : Nat) : Nat := (List.range 8).foldl (fun c _ => crc8Bit c) (c ^^^ b)
def crc8 (b : List Byte) : Nat := b.foldl (fun c b => crc8Byte c b.toNat) 0
def hashCheck (h : Nat) : Nat := crc8 (leBytes 48 h)

/-- States of an owner entry: 0 FREE, 1 ACTIVE, 2 REVOKED, 3 SPOILED. -/
def ownerState (o : OwnerFuse) : Nat :=
  if o.revoked then 2
  else if o.valid && o.check == hashCheck o.hash then 1
  else if o.hash = 0 ∧ o.check = 0 ∧ !o.valid then 0
  else 3

def ownerOf (s : State) (k : Nat) : OwnerFuse := tabGet {} s.sec.fuse.owner k
def activeOwner (s : State) : Option Nat := (List.range 4).find? (fun k => ownerState (ownerOf s k) == 1)
def freeOwner (s : State) : Option Nat := (List.range 4).find? (fun k => ownerState (ownerOf s k) == 0)

/-- ROOT_DISABLE is set when the majority of its 3 bits is 1. -/
def rootOff (s : State) : Bool := decide (2 ≤ (maskBits 3 s.sec.fuse.rootDisable).length)

/-- The key hash of a slot, where it is enabled. -/
def slotHash (s : State) (slot : Nat) : Option Nat :=
  if slot = 0 then (if rootOff s then none else some Config.rootHash.toNat)
  else if slot = 1 then (activeOwner s).map (fun k => (ownerOf s k).hash)
  else none

/-- A thermometer count: consecutive 1 bits from bit 0. -/
def thermo (n : Nat) : Nat := ((List.range 128).takeWhile (fun i => bitOf n i)).length

/-! ## Bounds (R346, R890) -/

/-- A BOUND record is VALID with a matching CHECK. -/
def boundGood (x : BoundFuse) : Bool := x.valid && x.check == crc8 (leBytes 2 x.value)

def boundOf (s : State) (b k : Nat) : BoundFuse := tabGet {} s.sec.fuse.bound (3 * b + k)

/-- The shipped bound b: IPK_MAX, CRIT_MAX, then the VIN warning, VIN reset, VAUX warning and VAUX reset minimums. -/
def boundShipped (b : Nat) : Nat :=
  match b with
  | 0 => fldOf (resetOf Reg.PROT_FUSE) F.PROT_FUSE_IPK_MAX
  | 1 => fldOf (resetOf Reg.PROT_FUSE) F.PROT_FUSE_CRIT_MAX
  | 2 => fldOf (resetOf Reg.LAD_FUSE_VIN) F.LAD_FUSE_VIN_WARN
  | 3 => fldOf (resetOf Reg.LAD_FUSE_VIN) F.LAD_FUSE_VIN_RST
  | 4 => fldOf (resetOf Reg.LAD_FUSE_VAUX) F.LAD_FUSE_VAUX_WARN
  | _ => fldOf (resetOf Reg.LAD_FUSE_VAUX) F.LAD_FUSE_VAUX_RST

/-- R890: the tightest of the shipped bound and every good record: the lowest for IPK_MAX and CRIT_MAX, the highest for the minimums. -/
def boundNow (s : State) (b : Nat) : Nat :=
  let l := ((List.range 3).map (boundOf s b)).filter boundGood
  l.foldl (fun v x => if b < 2 then min v x.value else max v x.value) (boundShipped b)

/-- SEC_RB: the anti-rollback counts. -/
def rbWord (s : State) : Nat := thermo s.sec.fuse.imgRb + thermo s.sec.fuse.fwRb * 2 ^ 16

/-- R346, domain FUSE: the fuses are reread. -/
def fuseRead (s : State) : State :=
  let s := setF (setF s Reg.PROT_FUSE F.PROT_FUSE_IPK_MAX (boundNow s 0)) Reg.PROT_FUSE F.PROT_FUSE_CRIT_MAX (boundNow s 1)
  let s := setF (setF s Reg.LAD_FUSE_VIN F.LAD_FUSE_VIN_WARN (boundNow s 2)) Reg.LAD_FUSE_VIN F.LAD_FUSE_VIN_RST (boundNow s 3)
  setF (setF s Reg.LAD_FUSE_VAUX F.LAD_FUSE_VAUX_WARN (boundNow s 4)) Reg.LAD_FUSE_VAUX F.LAD_FUSE_VAUX_RST (boundNow s 5)

/-! ## Programming (R893) -/

def setFuse (s : State) (f : FuseSt → FuseSt) : State := { s with sec := { s.sec with fuse := f s.sec.fuse } }

/-- SEC_FUSE_DATA_0–11 as a hash of 48 bytes, byte 0 lowest. -/
def dataHash (o : FuseOp) : Nat := ((List.range 12).map (fun k => o.data.getD k 0 % 2 ^ 32 * 2 ^ (32 * k))).sum

/-- The first FREE BOUND record of b. -/
def freeBound (s : State) (b : Nat) : Option Nat := (List.range 3).find? (fun k => boundOf s b k == {})

def setOwner (s : State) (k : Nat) (o : OwnerFuse) : State := setFuse s (fun f => { f with owner := tabSet {} f.owner k o })
def setBound (s : State) (i : Nat) (x : BoundFuse) : State := setFuse s (fun f => { f with bound := tabSet {} f.bound i x })

/-- Every bit of the operation is programmed. -/
def fuseWhole (s : State) (o : FuseOp) : State :=
  match o.op with
  | 1 => (match freeOwner s with
    | some k => setOwner s k { hash := dataHash o, check := hashCheck (dataHash o), valid := true }
    | none => s)
  | 2 => (match activeOwner s with
    | some k => setOwner s k { (ownerOf s k) with revoked := true }
    | none => s)
  | 3 => setFuse s (fun f => { f with rootDisable := f.rootDisable ||| 7 })
  | 4 => setFuse s (fun f => { f with imgRb := f.imgRb ||| (2 ^ o.arg - 1) })
  | 5 => setFuse s (fun f => { f with fwRb := f.fwRb ||| (2 ^ o.arg - 1) })
  | 6 => setFuse s (fun f => { f with dbgRootOff := f.dbgRootOff || bitOf o.arg 0, dbgOwnerOff := f.dbgOwnerOff || bitOf o.arg 1 })
  | 7 => (match freeBound s o.arg with
    | some k => setBound s (3 * o.arg + k) { value := o.data.getD 0 0 % 2 ^ 16, check := crc8 (leBytes 2 (o.data.getD 0 0)), valid := true }
    | none => s)
  | _ => s

/-- The operation stopped after a number of bits that nothing outside SEC states (R893, R905): which bits are programmed is a free value,
within the order of R893: CHECK only once the whole value is, and VALID, the last bit of an entry or record, not at all. -/
def fusePart (s : State) (o : FuseOp) : State :=
  let (n, s) := drawNat s (2 ^ 392)
  let some_ (v c w : Nat) : Nat × Nat := if v &&& n = v then (v, c &&& n / 2 ^ w) else (v &&& n, 0)
  match o.op with
  | 1 => (match freeOwner s with
    | some k => let p := some_ (dataHash o) (hashCheck (dataHash o)) 384; setOwner s k { hash := p.1, check := p.2 }
    | none => s)
  | 2 => if bitOf n 0 then fuseWhole s o else s
  | 3 => setFuse s (fun f => { f with rootDisable := f.rootDisable ||| n % 8 })
  | 4 => let c := thermo s.sec.fuse.imgRb; fuseWhole s { o with arg := c + n % (o.arg - c + 1) }
  | 5 => let c := thermo s.sec.fuse.fwRb; fuseWhole s { o with arg := c + n % (o.arg - c + 1) }
  | 6 => fuseWhole s { o with arg := o.arg &&& n }
  | 7 => (match freeBound s o.arg with
    | some k =>
      let v := o.data.getD 0 0 % 2 ^ 16
      let p := some_ v (crc8 (leBytes 2 v)) 16
      setBound s (3 * o.arg + k) { value := p.1, check := p.2 }
    | none => s)
  | _ => s

/-- SEC_STATUS follows its sources; the result of a fuse operation and its entry (Table 19.13). -/
def fuseEnd (s : State) (o : FuseOp) (result : Nat) : State :=
  let s := setF s Reg.SEC_FUSE_STATUS F.SEC_FUSE_STATUS_RESULT result
  let v2 := if o.op = 4 then thermo s.sec.fuse.imgRb else if o.op = 5 then thermo s.sec.fuse.fwRb else (activeOwner s).getD 0
  let s := record s .mgmt 0x14 0x01 o.op result o.arg v2
  raise s Reg.SEC_EVENT (if result = 3 then F.SEC_EVENT_FUSE_DONE else F.SEC_EVENT_FUSE_FAIL)

/-- The operation under way ends with a result. -/
def fuseStop (s : State) (o : FuseOp) (result : Nat) : State := fuseEnd { s with sec := { s.sec with run := none } } o result

/-- R905: BROWNOUT, or a reset other than a single-core restart, stops the operation at the next bit: ABORTED. -/
def fuseAbort (s : State) : State :=
  match s.sec.run with
  | some o => fuseStop (fusePart s o) o 13
  | none => s

end Sys2Proof.Machine
end

