-- ==== Sys2Proof/Machine/Protection.lean ====
section
/-! DEFINITION. Commands of protection and of the supply ladder (ch. 7): overload, crowbar, trips, warnings, BROWNOUT. -/

namespace Sys2Proof.Machine

open Host

/-! ## Overload -/

/-- R350: the 10 µs that end now join those before, as far back as WINDOW reaches (units of 100 µs). -/
def olShift (s : State) (r : Nat) : State :=
  let n := aF s (Reg.PROT_OL2 r) F.PROT_OL2_WINDOW * 10
  setCh s r (fun x => { x with olBins := ((x.olSum, x.olNum) :: x.olBins).take n, olSum := 0, olNum := 0 })

/-- The rail current averaged over the last WINDOW, 1/16 A; its present value where no sample fell in it. -/
def olAverage (s : State) (r : Nat) : Int :=
  let b := (chOf s r).olBins
  let n := (b.map (fun p => p.2)).sum
  if n = 0 then railI s r else (b.map (fun p => p.1)).sum / n

/-- R350, R351, R353, R385: the 10 µs comparison with OL_LIMIT. -/
def execOverloadCompare (rail : ChIx) (s : State) : Result :=
  let r := rail.val
  let lim : Int := (aF s (Reg.PROT_OL r) F.PROT_OL_OL_LIMIT * 8 : Nat)
  let s := if isRail s r ∧ switching s r then olShift s r else s
  let avg := olAverage s r
  if isRail s r ∧ aOn s (Reg.PROT_OL r) F.PROT_OL_OL_EN ∧ switching s r then
    if lim < avg ∧ !(chOf s r).olRun then
      let s := setF s Reg.PROT_STATUS ⟨r, 1⟩ 1
      let s := raise s Reg.PROT_EVENT F.PROT_EVENT_OL_ENTER
      .next (setCh s r (fun x => { x with olRun := true, olAt := now s }))
    else if avg * 16 ≤ lim * 15 then
      .next (setCh (setF (pmRefresh s) Reg.PROT_STATUS ⟨r, 1⟩ 0) r (fun x => { x with olRun := false }))
    else .next s
  else .next s

/-- R352, R362: an overload shutdown is latched. -/
def execOverloadShutdown (rail : ChIx) (s : State) : Result :=
  let r := rail.val
  if (chOf s r).olRun ∧ isRail s r then
    let s := reach s ((chOf s r).olAt + aF s (Reg.PROT_OL2 r) F.PROT_OL2_OL_TIME * 1000000)
    .next (latchRail s 2 r 0)
  else .next s

/-! ## Overvoltage -/

/-- The strap ceiling, mV (Table 3.3). -/
def strapCeiling (s : State) : Nat := 900 + 150 * fld s Reg.TOP_STRAP F.TOP_STRAP_OVC

/-- R354, R355: a pair in use above the OV limit or the strap ceiling latches the crowbar of the rail. -/
def execOvervoltageCrowbar (chan : ChIx) (mv : Nat) (s : State) : Result :=
  let r := railOf s chan.val
  if s.top.state ≠ .off ∧ s.top.state ≠ .decaf ∧ r < 8
      ∧ (aF s (Reg.PROT_OV r) F.PROT_OV_LIMIT * 80 < mv ∨ strapCeiling s * 16 < mv) ∧ !latchBit s 0 r then
    .next (latchRail s 0 r 0)
  else .next s

/-! ## Thermal -/

/-- A die stands in the Postbox map. -/
def diePresent (s : State) (d : Nat) : Bool := dieHere s d

/-- R357: the sources of a thermal trip; in DECAF every die position's wire counts (R151). -/
def execThermalTrip (src : TripSource) (t : Int) (s : State) : Result :=
  if s.top.state = .off ∧ s.top.porHeld then .next s
  else match src with
    | .pin => .next (thermalTrip { s with top := { s.top with tripInLow := true } } 1 0)
    | .wire d =>
      let s := setDie s d.val (fun x => { x with trip := true })
      if s.top.state = .decaf ∨ s.top.state = .off ∨ diePresent s d.val then .next (thermalTrip s (2 + d.val) d.val) else .next s
    | .report => if (aF s Reg.PROT_THERM F.PROT_THERM_CRIT : Int) < t then .next (thermalTrip s 0 0) else .next s

/-- R360: a stage over-temperature is a stage fault. -/
def execStageOverTemperature (ph : PhIx) (t : Int) (s : State) : Result :=
  let p := ph.val
  if phaseRail s p < 8 ∧ (aF s Reg.PROT_THERM F.PROT_THERM_STAGE_TLIM : Int) < t then
    let s := setF s (Reg.PH_T p) wordF (unsx 32 (clampI (-32768) 32767 t))
    let s := raise s Reg.PROT_EVENT F.PROT_EVENT_STAGE_OT
    .next (stageFault s p (satU 16 t))
  else .next s

/-! ## The supply ladder -/

def supNo : Supply → Nat
  | .vin => 0
  | .vaux => 1

/-- Warning threshold, reset threshold and hysteresis of a supply, mV, from the active copies. -/
def supWarn (s : State) : Supply → Nat
  | .vin => aF s Reg.LAD_VIN_CFG F.LAD_VIN_CFG_WARN * 100
  | .vaux => aF s Reg.LAD_VAUX_CFG F.LAD_VAUX_CFG_WARN * 10

def supRst (s : State) : Supply → Nat
  | .vin => aF s Reg.LAD_VIN_CFG F.LAD_VIN_CFG_RST * 100
  | .vaux => aF s Reg.LAD_VAUX_CFG F.LAD_VAUX_CFG_RST * 10

def supHyst (s : State) : Supply → Nat
  | .vin => aF s Reg.LAD_VIN_CFG2 F.LAD_VIN_CFG2_HYST * 100
  | .vaux => aF s Reg.LAD_VAUX_CFG2 F.LAD_VAUX_CFG2_HYST * 5

/-- R171: the VIN thresholds act only while VIN_ARMED is set. -/
def supActs (s : State) : Supply → Bool
  | .vin => flag s Reg.TOP_SUPPLY F.TOP_SUPPLY_VIN_ARMED
  | .vaux => !s.top.porHeld

/-- LAD_VIN or LAD_VAUX takes a reading; VIN_ABOVE_WARN follows VIN. Nothing is read while power-on reset is held. -/
def supRead (s : State) (sup : Supply) (mv : Nat) : State :=
  if s.top.porHeld then s else match sup with
  | .vin =>
    let s := meanAdd (wrN s Reg.LAD_VIN (satU 16 mv)) 24 (mv : Nat)
    setF s Reg.TOP_SUPPLY F.TOP_SUPPLY_VIN_ABOVE_WARN (b2n (supWarn s .vin < mv))
  | .vaux => meanAdd (wrN s Reg.LAD_VAUX (satU 16 mv)) 25 (mv : Nat)

/-- VHOLD_OK is set at 9.5 V and cleared below 9.0 V (R388 where the device is in LOADED, RAMP or RUN). -/
def vholdRead (s : State) (mv : Nat) : State :=
  if s.top.porHeld then s else
  let s := meanAdd (wrN s Reg.LAD_VHOLD (satU 16 mv)) 26 (mv : Nat)
  if 9500 ≤ mv then raise s Reg.TOP_SUPPLY F.TOP_SUPPLY_VHOLD_OK
  else if mv < 9000 ∧ flag s Reg.TOP_SUPPLY F.TOP_SUPPLY_VHOLD_OK then
    let s := lower s Reg.TOP_SUPPLY F.TOP_SUPPLY_VHOLD_OK
    if s.top.state = .loaded ∨ s.top.state = .ramp ∨ s.top.state = .run then
      record (raise s Reg.LAD_EVENT F.LAD_EVENT_VHOLD_LOW) .control 0x07 0x05 1 0 mv (now s)
    else s
  else s

/-- R366–R368: a supply warning. The comparator crossing that began the filtered interval lies `ago` ns back; it is the stamp of
capture source 0x0B or 0x0C (R966). -/
def execSupplyWarning (sup : Supply) (mv ago : Nat) (s : State) : Result :=
  let s := supRead s sup mv
  if supActs s sup ∧ mv < supWarn s sup ∧ !flag s Reg.LAD_STATUS (warnBit sup) then
    let s := raise s Reg.LAD_STATUS (warnBit sup)
    let s := raise s Reg.LAD_EVENT (match sup with | .vin => F.LAD_EVENT_VIN_WARN | .vaux => F.LAD_EVENT_VAUX_WARN)
    let s := bump s Reg.LAD_CNT F.LAD_CNT_WARNINGS
    let s := record s .control 0x07 0x01 (supNo sup) 0 mv (now s)
    let s := capture s (0x0B + supNo sup) false (now s - ago)
    .next (if releaseOn s then ballastRelease s else s)
  else .next s

/-- R369: the warning clears and its actions are lifted. -/
def execWarningClear (sup : Supply) (mv : Nat) (s : State) : Result :=
  let s := supRead s sup mv
  if flag s Reg.LAD_STATUS (warnBit sup) ∧ supWarn s sup + supHyst s sup < mv then
    let s := lower (pmRefresh s) Reg.LAD_STATUS (warnBit sup)
    .next (if s.fq.released ∧ !releaseOn s then ballastResume s else s)
  else .next s

/-- R374: VIN above HI. -/
def execVinHighAlarm (mv : Nat) (s : State) : Result :=
  let s := supRead s .vin mv
  if !s.top.porHeld ∧ aF s Reg.LAD_VIN_HI F.LAD_VIN_HI_HI * 100 < mv ∧ !flag s Reg.LAD_STATUS F.LAD_STATUS_VIN_HI then
    let s := raise s Reg.LAD_STATUS F.LAD_STATUS_VIN_HI
    let s := raise s Reg.LAD_EVENT F.LAD_EVENT_VIN_HI
    .next (record s .control 0x07 0x03 0 0 mv (now s))
  else .next s

/-- R374: VIN at or below HI less HYST. -/
def execVinHiClear (mv : Nat) (s : State) : Result :=
  let s := supRead s .vin mv
  if mv ≤ aF s Reg.LAD_VIN_HI F.LAD_VIN_HI_HI * 100 - supHyst s .vin then .next (lower (pmRefresh s) Reg.LAD_STATUS F.LAD_STATUS_VIN_HI)
  else .next s

/-- R377: VHOLD is exhausted before the tail commit ends. -/
def execVholdExhausted (mv done : Nat) (s : State) : Result :=
  let s := vholdRead s mv
  if mv < 4000 ∧ s.nvs.tail.isSome then
    let s := tailEnd s false done
    .next (if s.top.porHeld then s else record s .control 0x07 0x04 1 0 mv (now s))
  else .next s

/-- R388: VHOLD_OK clears. -/
def execVholdLow (mv : Nat) (s : State) : Result := .next (vholdRead s mv)

/-! ## BROWNOUT (R370–R373, Table 7.3) -/

def causeBit : Supply → Fld
  | .vin => F.LAD_STATUS_VIN_CAUSE
  | .vaux => F.LAD_STATUS_VAUX_CAUSE

def rstEvent : Supply → Fld
  | .vin => F.LAD_EVENT_VIN_RST
  | .vaux => F.LAD_EVENT_VAUX_RST

/-- The supply becomes a cause of the present BROWNOUT. -/
def brownCause (s : State) (sup : Supply) : State :=
  let s := raise s Reg.LAD_STATUS (causeBit sup)
  let s := lower s Reg.LAD_STATUS F.LAD_STATUS_RECOVERING
  let s := raise s Reg.LAD_EVENT (rstEvent sup)
  match sup with
  | .vin => s
  | .vaux => { lower s Reg.TOP_SUPPLY F.TOP_SUPPLY_VAUX_OK with top := { s.top with brown := { s.top.brown with vauxFell := true } } }

/-- Entry to BROWNOUT: a device or warm reset in progress and a load are abandoned (R184, R237; log entry 135), every output goes to MID, every rail is
discharged under R320, and the tail is copied up to the BROWNOUT entry, or up to the newest entry where that one is dropped (R372). -/
def brownEnter (s : State) (sup : Supply) (mv : Nat) : State :=
  let devLost := match s.top.rst with
    | some r => r.level == 1
    | none => false
  let s := { s with top := { s.top with brown := { entered := s.top.state, vauxFell := false, devResetLost := devLost },
                                        rst := if wholeReset s then none else s.top.rst, startNext := none, stopping := false } }
  let s := fuseAbort (loadAbort s 0x15)
  let s := brownCause s sup
  let s := bump s Reg.LAD_CNT F.LAD_CNT_BROWNOUTS
  let s := phasesMid s (List.range 64)
  let room := (placeLoss s .control).recd.q0.length < stageDepth
  let s := record s .control 0x07 0x02 (supNo sup) 0 mv (now s)
  let s := tailCopy (if room then grantControl s else s) (supNo sup)
  let s := enterState (originTrip s 4) .brownout
  dischargeAll s false

/-- R370: a supply below its reset threshold for RST_FILT. -/
def execBrownoutEntry (sup : Supply) (mv : Nat) (s : State) : Result :=
  let s := supRead s sup mv
  if !s.top.porHeld ∧ supActs s sup ∧ mv < supRst s sup ∧ !flag s Reg.LAD_STATUS (causeBit sup) then
    if s.top.state = .brownout then .next (brownCause s sup) else .next (brownEnter s sup mv)
  else .next s

/-- R371: a glitch below the reset threshold. -/
def execResetThresholdGlitch (sup : Supply) (mv : Nat) (s : State) : Result :=
  if supActs s sup ∧ mv < supRst s sup ∧ !s.top.porHeld then
    .next (raise (bump s Reg.LAD_CNT F.LAD_CNT_GLITCHES) Reg.LAD_EVENT F.LAD_EVENT_GLITCH)
  else .next s

end Sys2Proof.Machine
end

