-- ==== Sys2Proof/Machine/Commit.lean ====
section
/-! DEFINITION. What a commit does: the snapshot, its checks in order, the new active copies, and what the committed values begin at once
(R46–R57, R914, and the rules of each block that name a commit). -/

namespace Sys2Proof.Machine

/-! ## Snapshots and the active copies -/

/-- R655: the group ceiling of a partition with a LOCK_GROUP is left out of commits. -/
def ceilLocked (s : State) (off : Nat) : Bool :=
  (List.range 32).any (fun p => off == Reg.CAP_GCEIL p && partHere s p && capLocked s p)

/-- The staged words that differ from their reset values, of the groups of a mask. -/
def commitSnap (s : State) (m : Nat) : Tab Word := s.regs.filter (fun p => inMask (framesOf s) m p.1 && !ceilLocked s p.1)

/-- The active copies with the groups of a mask replaced by a snapshot. -/
def commitActive (s : State) (m : Nat) (snap : Tab Word) : Tab Word :=
  snap.foldl (fun t p => tabSet (resetOf p.1) t p.1 p.2) (s.active.filter (fun p => !(inMask (framesOf s) m p.1) || ceilLocked s p.1))

/-- The value that each register would hold. -/
def commitView (s : State) (m : Nat) (snap : Tab Word) (off : Nat) : Word := tabGet (resetOf off) (commitActive s m snap) off

/-! ## What a change begins -/

def acChanged (s0 s : State) (off : Nat) : Bool := ac s0 off != ac s off

/-- The stage of a rail in the start sequence has begun, or the rail is in no stage. -/
def stageBegun (s : State) (r : Nat) : Bool :=
  match s.top.startNext with
  | none => true
  | some k => !((List.range (stageCount s)).any (fun j => k ≤ j && (stageRails s j).contains r))

/-- Table 6.4: a commit that clears DRIP_EN, raises the setpoint or changes the pair ends Drip mode. -/
def commitDrip (s0 s : State) (r : Nat) : State :=
  if !aOn s (Reg.CH_CTRL r) F.CH_CTRL_DRIP_EN ∨ setpoint s0 r < setpoint s r ∨ (chOf s0 r).altPair ≠ (chOf s r).altPair then dripExit s r else s

/-- R166: a commit carries EN = 1 for a rail while the device is in RAMP or RUN; `set` says that EN was 0. A rail on its way down for its
EN, or in a stop, starts again from where it stands, and one that a discharge for its EN has not reached goes on; one that waits for its
stage, or that a stop has taken down, does not start. -/
def railStart (s : State) (r : Nat) (set : Bool) : State :=
  match railState s r with
  | .off => if set ∨ (stageBegun s r ∧ !s.top.stopping) then softStart s r else s
  | .discharge => if set ∧ switching s r ∧ !railLatched s r then softStart (setCh (disDrop s r) r (fun x => { x with state := .off })) r else s
  | .latched => s
  | _ => if set ∧ s.top.dis.any (fun d => d.rail == r && d.byEn) then disDrop s r else s

/-- R300: a commit sets PH_CFG.DISABLE of an active phase: it is out of service at once, but for an on-time in progress. Where it was the
Drip phase, Drip mode ends. -/
def commitDisable (s : State) : State :=
  forEach ((List.range 64).filter (fun p => (phOf s p).active && aOn s (Reg.PH_CFG p) F.PH_CFG_DISABLE)) s (fun s p =>
    let r := phaseRail s p
    let s := setPh s p (fun x => if x.crowbar then { x with active := false }
      else if x.level = .high then { x with active := false, cal := false, due := false } else { toMid x with active := false, cal := false })
    if r < 8 ∧ (chOf s r).drip ≠ .run ∧ (chOf s r).dripPhase = p then dripExit s r else s)

/-- R504: MIN_PH bounds the phase count from below: a commit that raises it past N adds phases. A member leaves this to its master. -/
def commitPhases (s : State) (r : Nat) : State :=
  let m := min (aF s (Reg.CH_PHASE2 r) F.CH_PHASE2_MIN_PH) (assignedN s r)
  if railState s r = .reg ∧ (chOf s r).drip = .run ∧ wideRole s r ≠ 2 ∧ railN s r < m then endRemoval (setN s r m) r else s

/-- Channel groups: R166, R169, R315, R334, R381, R452, R504. -/
def commitRail (s0 s : State) (r : Nat) : State :=
  let s := if aF s0 (Reg.CH_CTRL r) F.CH_CTRL_SENSE_SEL ≠ aF s (Reg.CH_CTRL r) F.CH_CTRL_SENSE_SEL then
      setCh s r (fun x => { x with altPair := aOn s (Reg.CH_CTRL r) F.CH_CTRL_SENSE_SEL }) else s
  let s := commitDrip s0 s r
  let s := if railState s r = .settle ∧ setpoint s0 r ≠ setpoint s r then setCh s r (fun x => { x with state := .soft }) else s
  let s := if acChanged s0 s (Reg.CH_TRIM_ENV r) then setCh s r (fun x => { x with vtrim := clampI (trimLo s r) (trimHi s r) x.vtrim }) else s
  let s := if acChanged s0 s (Reg.CH_PHASE2 r) then commitPhases s r else s
  let s := setCh s r (fun x => { x with vdither := x.vdither.sign * (aF s (Reg.CH_DITH r) F.CH_DITH_AMP * 50000 : Nat) })
  if railEn s r then
    if s.top.state = .ramp ∨ s.top.state = .run then railStart s r (!railEn s0 r) else s
  else
    let s := if running s r ∧ railState s r ≠ .discharge then discharge s [{ rail := r, maySwitch := true, byEn := true }] else s
    if (rails s).any (fun q => q != r && switching s q) then startAdvance s (stageReady s0) else s

/-- Partition groups: R89, R504. -/
def commitPart (s0 s : State) (p : Nat) : State :=
  let s := { s with top := { s.top with ueParts := s.top.ueParts.filter (fun q => q != p) } }
  if acChanged s0 s (Reg.CAP_ENV p) ∨ acChanged s0 s (Reg.CAP_ENV2 p) then capClamp s p else s

/-- Table 7.5: a limit tightened below a present value acts at once. -/
def limitsNow (s : State) : State :=
  let s := forEach ((List.range 8).filter (fun c => railOf s c < 8 && switching s (railOf s c))) s (fun s c =>
    let r := railOf s c
    if (aF s (Reg.PROT_OV r) F.PROT_OV_LIMIT * 80 < sense s c ∨ strapCeiling s * 16 < sense s c) ∧ !latchBit s 0 r then latchRail s 0 r 0 else s)
  let s := forEach ((List.range 64).filter (fun p => phaseRail s p < 8 && (phOf s p).active)) s (fun s p =>
    if (aF s Reg.PROT_THERM F.PROT_THERM_STAGE_TLIM : Int) < phTemp s p then
      stageFault (raise s Reg.PROT_EVENT F.PROT_EVENT_STAGE_OT) p (satU 16 (phTemp s p)) else s)
  let hot := (List.range 4).any (fun d => dieHere s d && (sitesOf s d).any (fun n =>
    decide ((critLevel s : Int) < sext 16 (fld s (Reg.PB_SITE d n) F.PB_SITE_TEMP))))
  if hot && !bitOf (rd s Reg.PROT_THERM_LATCH).toNat 0 then thermalTrip s 0 0 else s

/-- Group 40: the limits act, and CFG TRIP goes to every die (R435). -/
def commitProt (s : State) : State := limitsNow (forEach (List.range 4) s cfgTrip)

/-- Group 42: R504 for the franking spacing and the ballast levels. -/
def commitFq (s0 s : State) : State :=
  let s := if acChanged s0 s Reg.FQ_STAG2 then
      { s with fq := { s.fq with spacing := max (aF s Reg.FQ_STAG2 F.FQ_STAG2_S_MIN) (min s.fq.spacing (aF s Reg.FQ_STAG2 F.FQ_STAG2_S_MAX)) } } else s
  forEach ((parts s).filter (fun p => acChanged s0 s (Reg.BAL_ENV p))) s (fun s p =>
    let old := (balOf s p).level
    let lo := if balLoopOn s && balElig s p then min (balCeil s p) (aF s (Reg.BAL_ENV p) F.BAL_ENV_FLOOR) else 0
    let v := max lo (min (balCeil s p) old)
    if v = old then s else balSend { s with fq := { s.fq with q8 := s.fq.q8 + balPow s p v - balPow s p old } } p v)

/-- Group 45: every CFG whose value has changed is sent again (R419). -/
def commitPb (s0 s : State) : State :=
  forEach ((List.range 4).filter (dieHere s)) s (fun s d =>
    let s := forEach ((sitesOf s d).filter (fun n => acChanged s0 s (Reg.PB_THR d n))) s (fun s n => cfgSend s d 1 n (cfgSite s d n))
    let c0 := (ac s0 (Reg.PB_DIE_CFG d)).toNat
    let c := (ac s (Reg.PB_DIE_CFG d)).toNat
    let s := if c0 % 2 ^ 12 ≠ c % 2 ^ 12 then cfgSend s d 2 0x3F (c % 2 ^ 12) else s
    if c0 / 2 ^ 12 % 2 ^ 16 ≠ c / 2 ^ 12 % 2 ^ 16 then cfgSend s d 3 0x3F (c / 2 ^ 12 % 2 ^ 16) else s)

/-- What the committed values begin, group by group; `s0` is the state before. -/
def commitHooks (s0 s : State) (m : Nat) : State :=
  let s := forEach ((rails s).filter (bitOf m)) (if m % 256 = 0 then s else commitDisable s) (commitRail s0)
  let s := forEach ((List.range 32).filter (fun p => bitOf m (8 + p))) s (commitPart s0)
  let s := if bitOf m 40 then commitProt s else s
  let s := if bitOf m 42 then commitFq s0 s else s
  let s := if bitOf m 43 && aF s0 Reg.EST_CMD F.EST_CMD_TAG != aF s Reg.EST_CMD F.EST_CMD_TAG then estCmd s else s
  let s := if bitOf m 43 then forEach (regions s) s (fun s k => estFlags (derate s k) k) else s
  let s := if bitOf m 44 then forEach lanes s laneStart else s
  if bitOf m 45 then commitPb s0 s else s

/-! ## Taking effect -/

/-- R47, R57: the commit takes effect: mode 0 immediate, 1 at a tick. -/
def commitEffect (s0 : State) (m : Nat) (snap : Tab Word) (mode tick : Nat) : State :=
  let s := { s0 with active := commitActive s0 m snap }
  let s := { s with integ := { s.integ with activeUe := s.integ.activeUe.filter (fun o => !inMask (framesOf s) m o) } }
  let s := commitSeq (commitResult s resDone)
  let s := commitEntry s m mode resDone tick (mode == 1 && !s.tb.aligned)
  commitHooks s0 (capture s 0x0E false (now s)) m

/-- A commit request ends with a refusal. -/
def commitRefuse (s : State) (m mode result tick : Nat) : State := commitEntry (commitResult s result) m mode result tick

/-- R809: what the snapshot finds in the staged copies of the mask: `ce` words corrected, `ue` words with double-bit errors. -/
def stagedErrors (s : State) (ce : Nat) (ue : List Nat) : State :=
  let s := { s with integ := { s.integ with sbe := s.integ.sbe + ce, stagedUe := (s.integ.stagedUe ++ ue).eraseDups } }
  s

/-- R914: a request of the owner, in the order of its checks. -/
def commitRequest (s : State) (tickMode : Bool) : State :=
  let f := framesOf s
  let m := expandMask f ((rd s Reg.TOP_COMMIT_MASK_LO).toNat + (rd s Reg.TOP_COMMIT_MASK_HI).toNat * 2 ^ 32)
  let s := wr64 s Reg.TOP_COMMIT_MASK_LO m
  let mode := b2n tickMode
  let tick := if tickMode then rd64 s Reg.TOP_COMMIT_TICK_LO else 0
  let domBusy := s.dom.commits.any (fun c => (groupParts s c.group).any (fun p => bitOf m (8 + p)))
  if m = 0 then commitRefuse s m mode resEmpty tick
  else if m &&& pendMask s ≠ 0 ∨ domBusy then commitRefuse s m mode resBusy tick
  else if tickMode ∧ tick < now s + 1000 then commitRefuse s m mode resLate tick
  else if tickMode ∧ now s + 10000000000 < tick then commitRefuse s m mode resFar tick
  else
    let snap := commitSnap s m
    let ue := s.integ.stagedUe.filter (inMask f m)
    let bad := (ue ++ (firstFail s f (commitView s m snap) m).toList).min?
    match bad with
    | some off =>
      let s := if ue.contains off then boundaryFail (raise s Reg.TOP_INTEG_EVENT F.TOP_INTEG_EVENT_STAGED_UE) 7 ((groupAt f off).getD 0) off else s
      let s := wrN s Reg.TOP_COMMIT_FAIL_ADDR off
      commitRefuse (setF s Reg.TOP_COMMIT_STATUS F.TOP_COMMIT_STATUS_FAIL_GROUP ((groupAt f off).getD 0)) m mode resRange tick
    | none =>
      if tickMode then
        pendRefresh (commitResult { s with top := { s.top with commits := s.top.commits ++ [{ mask := m, tick := tick, snap := snap }] } } resPending)
      else commitEffect s m snap 0 0

/-- R49: the pending tick commits of the earliest tick take effect, in the order of their requests. A pending partial image of that tick
goes first (R238). -/
def commitTick (s : State) : State :=
  match (s.top.commits.map (fun c => c.tick)).min? with
  | none => s
  | some t =>
    if s.img.phase = .pending ∧ s.img.pendTick ≤ t then s else
    let s := reach s t
    let due := s.top.commits.filter (fun c => c.tick == t)
    let s := { s with top := { s.top with commits := s.top.commits.filter (fun c => c.tick != t) } }
    pendRefresh (forEach due s (fun s c => commitEffect s c.mask c.snap 1 c.tick))

/-! ## Active copies with errors (R87–R90) -/

/-- R88–R90: a double-bit error in the active copy at an offset. -/
def activeDbe (s : State) (off : Nat) : State :=
  match groupAt (framesOf s) off with
  | none => s
  | some g =>
    let s := boundaryFail { s with integ := { s.integ with activeUe := (off :: s.integ.activeUe).eraseDups } } 7 g off
    if g < 8 then (if railOf s g < 8 then latchRail s 2 (railOf s g) 0 else s)
    else if g < 40 then { s with top := { s.top with ueParts := (s.top.ueParts ++ [g - 8]).eraseDups } }
    else haltActive s

def execActiveCopySbe (off : Nat) (s : State) : Result :=
  .next (if (groupAt (framesOf s) off).isSome then { s with integ := { s.integ with sbe := s.integ.sbe + 1 } } else s)

def execActiveCopyDbe (off : Nat) (s : State) : Result := .next (activeDbe s off)

/-- R49: a pending tick commit reaches its tick. -/
def execTickCommit (s : State) : Result := .next (commitTick s)

end Sys2Proof.Machine
end

