-- ==== Sys2Proof/Machine/Content.lean ====
section
/-! DEFINITION. What the image loader refuses with results CONTENT and LIMIT (checks 30 and 31 of Table 4.7): the rules of each block on
structure payloads (R208, R211, R273, R276, R330, R436, R488, R489, R598, R627, R715, R866, ch. 11) and on hold pairs. Every check takes
the structure frames that would be in force. -/

namespace Sys2Proof.Machine

/-- Failures of content checks: frame ID and payload offset of the failing byte. -/
abbrev Bads := List (Nat × Nat)

/-- One condition: the failing byte where it is met. -/
def badIf (c : Bool) (id off : Nat) : Bads := if c then [(id, off)] else []

/-- The first failing byte: lowest frame, then lowest byte. -/
def firstBad (l : Bads) : Option (Nat × Nat) :=
  match (l.map (fun p => p.1 * 512 + p.2)).min? with
  | some k => some (k / 512, k % 512)
  | none => none

/-! ## Region 0 -/

/-- R208: VENDOR, DEVICE and STEPPING against TOP_ID and TOP_REV; the LABEL. -/
def badFrame00 (f : Frames) : Bads :=
  badIf (ff f 0 0 2 != 0x1E7D) 0 0 ++ badIf (ff f 0 2 2 != 0x0B12) 0 2 ++ badIf (ff f 0 4 1 != 0xB0) 0 4
    ++ (List.range 32).flatMap (fun i =>
      let b := ff f 0 (8 + i) 1
      let past := (List.range i).any (fun j => ff f 0 (8 + j) 1 == 0)
      badIf (b != 0 && (past || b < 0x20 || 0x7E < b)) 0 (8 + i))

def stageMaskF (f : Frames) (k : Nat) : Nat := ff f 1 (8 + 4 * k) 1

/-- R211: power sequencing. A rail channel that no stage names fails at the first stage entry. -/
def badFrame01 (f : Frames) : Bads :=
  let notRail (m : Nat) : Bool := (maskBits 8 m).any (fun c => !isRailF f c)
  badIf (notRail (ff f 1 0 1)) 1 0 ++ badIf (ff f 1 2 2 == 0) 1 2 ++ badIf (ff f 1 4 2 == 0) 1 4
    ++ (List.range 8).flatMap (fun k =>
      badIf (notRail (stageMaskF f k)) 1 (8 + 4 * k)
        ++ badIf (stageMaskF f k != 0 && (List.range k).any (fun j => stageMaskF f j == 0)) 1 (8 + 4 * k)
        ++ badIf ((maskBits 8 (stageMaskF f k)).any (fun c => (List.range k).any (fun j => bitOf (stageMaskF f j) c))) 1 (8 + 4 * k))
    ++ badIf ((railsF f).any (fun r => !(List.range 8).any (fun k => bitOf (stageMaskF f k) r))) 1 8

/-- R715: frames 0x08 and 0x09. -/
def badFirmware (f : Frames) : Bads :=
  let mode := ff f 8 0 1
  let en (n : Nat) : Bool := coreEnF f n
  let ent (n : Nat) : Nat := 0x10 + 16 * n
  let raw (n k : Nat) : Nat := ff f 8 (ent n + k) 1
  let rails (n : Nat) : Nat := if 2 ≤ n && en n then raw n 2 else 0
  badIf (1 < mode) 8 0
    ++ (List.range 8).flatMap (fun n => badIf (en n && (raw n 4 < 1 || 4 < raw n 4)) 8 (ent n + 4) ++ badIf (en n && (raw n 5 < 1 || 4 < raw n 5)) 8 (ent n + 5))
    ++ (if mode = 0 then
      badIf (!(en 0 && raw 0 1 == 1 && raw 0 3 % 8 == 6)) 8 (ent 0) ++ badIf (!(en 1 && raw 1 1 == 2 && raw 1 3 % 8 == 1)) 8 (ent 1)
        ++ (List.range 8).flatMap (fun n =>
          badIf (2 ≤ n && en n && !(raw n 1 == 3 && raw n 3 % 8 == 1 && raw n 6 % 4 == 3)) 8 (ent n)
            ++ badIf ((maskBits 8 (rails n)).any (fun c => !isRailF f c || (List.range n).any (fun m => bitOf (rails m) c))) 8 (ent n + 2))
        ++ badIf ((railsF f).any (fun r => !(List.range 8).any (fun n => bitOf (rails n) r))) 8 (ent 2 + 2)
      else if mode = 1 then (List.range 8).flatMap (fun n => badIf (en n && (raw n 1 != 4 || raw n 3 % 8 == 0)) 8 (ent n))
      else [])
    ++ (let owned := (List.range 3).filter (fun p => (List.range 320).any (fun r => ff f 9 (r / 4) 1 / 4 ^ (r % 4) % 4 == p))
        badIf (!(List.range 8).any (fun n => en n && owned.any (fun p => bitOf (raw n 3) p))) 9 0)

/-- R866: the sideband policy. -/
def badSideband (f : Frames) : Bads :=
  badIf (!([0x00, 0x20, 0x40, 0x80].contains (ff f 0xA 1 1))) 0xA 1 ++ badIf (bitOf (ff f 0xA 0 1) 2 && ff f 0xA 2 2 == 0) 0xA 2

/-! ## CHANNELS (R330) -/

def quadUsed (f : Frames) (q : Nat) : Bool := quadChF f q < 8 && railOfF f (quadChF f q) < 8
def widePosF (f : Frames) (c : Nat) : Nat := ff f 0x10 (0x18 + c) 1 / 4 % 4
def wideMaskF (f : Frames) (c : Nat) : Nat := ff f 0x10 (0x18 + c) 1 / 16
def widePhF (f : Frames) (c : Nat) : Nat := ff f 0x10 (0x20 + 2 * c) 2

/-- `g` gives the hold values, `cp` the cascade position. -/
def badChannels (f : Frames) (g : Nat → Word) (cp : Nat) : Bads :=
  (List.range 16).flatMap (fun q =>
      let v := ff f 0x10 q 1
      badIf (v != 0xFF && (7 < v || railOfF f v == 0xFF)) 0x10 q
        ++ badIf (quadUsed f q && (ff f 0x11 (8 * q) 1 < 20 || 80 < ff f 0x11 (8 * q) 1)) 0x11 (8 * q)
        ++ badIf (quadUsed f q && (ff f 0x11 (8 * q + 1) 1 < 16 || 64 < ff f 0x11 (8 * q + 1) 1)) 0x11 (8 * q + 1)
        ++ badIf (quadUsed f q && 2 * ff f 0x11 (8 * q + 4) 2 < fldOf (g (Reg.PROT_IPK (railOfF f v))) F.PROT_IPK_IPK) 0x11 (8 * q + 4))
    ++ (List.range 8).flatMap (fun c =>
      let v := ff f 0x10 (0x10 + c) 1
      let used := v < 8
      badIf (v != 0xFF && 7 < v) 0x10 (0x10 + c)
        ++ badIf (used && (railOfF f v != v || c < v)) 0x10 (0x10 + c)
        ++ badIf (used && v < c && railOfF f (c - 1) != v) 0x10 (0x10 + c)
        ++ badIf (used && !(List.range 16).any (fun q => quadChF f q == c)) 0x10 (0x10 + c)
        ++ badIf (isRailF f c && wideRoleF f c != 0 &&
            (wideRoleF f c == 3 || ((wideRoleF f c == 1) != (widePosF f c == cp)) || !bitOf (wideMaskF f c) cp || !bitOf (wideMaskF f c) (widePosF f c)))
            0x10 (0x18 + c)
        ++ (if isRailF f c && wideRoleF f c == 1 then
            badIf (widePhF f c == 0 || 256 < widePhF f c || widePhF f c < 4 * (railQuadsF f c).length) 0x10 (0x20 + 2 * c)
          else badIf (widePhF f c != 0) 0x10 (0x20 + 2 * c)))

/-! ## FABRIC (R273, R276, Table 5.7) -/

/-- The evaluation cost of a kind (Table 5.2). -/
def kindCost (k : Nat) : Nat := if k = 0 then 0 else if k = 4 ∨ k = 5 then 6 else if k = 0xB then 32 else 4

/-- The point that Table 5.3 gives a source; none where it is declared. -/
def sourcePoint (d : Nat) : Option Nat :=
  if d < 0x80 then some 12 else if d < 0x90 then some 20 else if d < 0x98 then some 8 else if d < 0xA4 then some 20
  else if d < 0xAC then some 12 else if 0xC0 ≤ d ∧ d < 0x100 then some 8 else if d = 0x100 then some 16 else none

/-- A driver code of Table 5.3. -/
def driverOk (d : Nat) : Bool :=
  d < 0xAC || (0xC0 ≤ d && d ≤ 0x100) || (0x110 ≤ d && d < 0x140) || (0x200 ≤ d && d < 0x280)

/-- The image configures what a source names. -/
def sourceHere (f : Frames) (d : Nat) : Bool :=
  if d < 0x80 then quadUsed f (d % 64 / 4)
  else if d < 0xA0 then railOfF f (d % 8) < 8
  else if d < 0xAC then dieHereF f (d % 4)
  else if 0xC0 ≤ d ∧ d < 0x100 then partHereF f (d % 32)
  else if 0x120 ≤ d ∧ d < 0x140 then xdevEnF f && slotEnF f true (d - 0x120)
  else true

/-- A sink admits a lane (Table 5.4). -/
def sinkLaneOk (k l : Nat) : Bool := if k < 8 then l == 0 else if 0x10 ≤ k && k < 0x30 then l == 1 else l == 1 || l == 2

/-- Tile descriptors. -/
def badTile (f : Frames) (n : Nat) : Bads :=
  let k := tileKindF f n
  let l := tileLaneF f n
  let id := 0x20 + n / 8
  let o := 32 * (n % 8)
  let ord := tileOrderF f n
  let out := tileOutF f n
  if k = 0 then [] else
    badIf (0xC < k || l == 3 || (l == 0 && (32 ≤ n || k == 0xB))) id o
      ++ badIf (7 < tileFreezeF f n && tileFreezeF f n != 0xF) id (o + 1)
      ++ badIf (if l == 0 then ord < 1 || 7 < ord
                else 127 < ord || (List.range n).any (fun m => tileKindF f m != 0 && tileLaneF f m == l && tileOrderF f m == ord)) id (o + 2)
      ++ (List.range 4).flatMap (fun i => badIf (bitOf (tileInF f n i) 15 && !sigPresentF f (tileInF f n i % 512)) id (o + 4 + 2 * i))
      ++ badIf (!sigPresentF f out || sigDriverF f out % 1024 != 0x200 + n) id (o + 0xC)

/-- Signal entries. -/
def badSignal (f : Frames) (i : Nat) : Bads :=
  let id := 0x30 + i / 32
  let o := 8 * (i % 32)
  let d := sigDriverF f i % 1024
  if !sigPresentF f i then [] else
    badIf (!driverOk d || (List.range i).any (fun j => sigPresentF f j && sigDriverF f j % 1024 == d)
        || (0x200 ≤ d && d < 0x280 && (tileKindF f (d - 0x200) == 0 || tileOutF f (d - 0x200) != i)) || !sourceHere f d) id o
      ++ badIf (23 < sigPointF f i || (match sourcePoint d with | some p => p != sigPointF f i | none => false)) id (o + 2)
      ++ badIf (3 < sigLaneF f i || (0x200 ≤ d && d < 0x280 && tileLaneF f (d - 0x200) != sigLaneF f i)
        || (0x120 ≤ d && d < 0x140 && slotLaneF f true (d - 0x120) != sigLaneF f i)) id (o + 3)

/-- Sink entries: permitted lanes, what they name, R269, R270, and the transmit slots they fill. -/
def badSink (f : Frames) (k : Nat) : Bads :=
  let id := 0x40 + k / 64
  let sg := sinkSigF f k
  if !sinkBoundF f k then [] else
    badIf (0x70 ≤ k || !sigPresentF f sg || !sinkLaneOk k (sigLaneF f sg)
      || (k < 0x10 && (!isRailF f (k % 8) || (k < 8 && wideRoleF f k == 2)))
      || (0x10 ≤ k && k < 0x50 && !partHereF f ((k - 0x10) % 32))
      || (0x50 ≤ k && k < 0x70 && (!xdevEnF f || !slotEnF f false (k - 0x50) || slotLaneF f false (k - 0x50) != sigLaneF f sg))) id (4 * (k % 64))

/-- R276: slot entries in use. -/
def badSlot (f : Frames) (cp : Nat) (rx : Bool) (j : Nat) : Bads :=
  let id := 0x42 + b2n rx
  if !xdevEnF f || !slotEnF f rx j then [] else
    badIf (3 < slotPeerF f rx j || slotPeerF f rx j == cp) id (8 * j) ++ badIf (31 < slotPairF f rx j) id (8 * j + 1)
      ++ badIf (slotLaneF f rx j != 1 && slotLaneF f rx j != 2) id (8 * j + 2)
      ++ badIf (rx && 15 < slotFallF f rx j && slotFallF f rx j != 0xFF) id (8 * j + 3)

def badFabric (f : Frames) (g : Nat → Word) (cp : Nat) : Bads :=
  (List.range 128).flatMap (badTile f) ++ (List.range 512).flatMap (badSignal f) ++ (List.range 128).flatMap (badSink f)
    ++ (List.range 32).flatMap (badSlot f cp false) ++ (List.range 32).flatMap (badSlot f cp true)
    ++ (railsF f).flatMap (fun r =>
      badIf (fldOf (g (Reg.CH_CTRL r)) F.CH_CTRL_EN == 1 && wideRoleF f r != 2 && !sinkBoundF f r) 0x40 (4 * r))
    ++ badIf (640 < ((List.range 128).map (fun n => if tileLaneF f n = 1 then kindCost (tileKindF f n) else 0)).sum) 0x20 0

/-! ## POSTBOX (R436), PARTITIONS (R489), QUEUES (ch. 11) -/

def badDie (f : Frames) (d : Nat) : Bads :=
  let id := 0x60 + 16 * d
  let ns := dieSitesF f d
  if !dieHereF f d then [] else
    badIf (!isRailF f (dieRailF f d)) id 1
      ++ badIf (ns < 1 || 64 < ns || (List.range 64).all (fun n => !siteHereF f d n) || (List.range 64).any (fun n => siteHereF f d n && ns ≤ n)) id 2
      ++ badIf (dieDroopBudgetF f d < 1 || 80 < dieDroopBudgetF f d) id 4 ++ badIf (320 < dieDivDlyF f d) id 8
      ++ (List.range 64).flatMap (fun n =>
        let e := siteRegionF f d n
        if !siteHereF f d n then [] else
          badIf (!partHereF f (sitePartF f d n)) (id + 1) (4 * n)
            ++ badIf (e != 0xFF && (15 < e || !regionHereF f (16 * dieRailF f d + e))) (id + 1) (4 * n + 1))

def badPartition (f : Frames) (p : Nat) : Bads :=
  let id := 0xA0 + p / 8
  let o := 32 * (p % 8)
  let d := partDieF f p
  let mates := (List.range p).filter (fun q => partHereF f q && partDieF f q == d)
  let lg := partGroupF f p
  if !partHereF f p then [] else
    badIf (partSitesF f p).isEmpty id o ++ badIf (!dieHereF f d) id (o + 1)
      ++ badIf (31 < partDivF f p || mates.any (fun q => partDivF f q == partDivF f p)) id (o + 2)
      ++ badIf (lg != 0xFF && !groupHereF f lg) id (o + 3) ++ badIf (partFmaxF f p < 100 || 4000 < partFmaxF f p) id (o + 4)
      ++ badIf (partCeffF f p == 0) id (o + 6)
      ++ badIf (partClkF f p == 0 || mates.any (fun q => partClkF f q &&& partClkF f p != 0)) id (o + 0x10)

def badQueue (f : Frames) (q : Nat) : Bads := badIf (queueHereF f q && !dieHereF f (queueDieF f q)) 0xB0 (4 * q + 1)

/-! ## DOMAIN (R627), LINK (R598), ESTIMATION (R488) -/

/-- The member-table byte of a node. -/
def badAt (c : Bool) (n off : Nat) : Bads := badIf c (0xC0 + n / 32) (8 * (n % 32) + off)

def upLanesF (f : Frames) : List Nat := (List.range 10).filter (fun l => laneRoleF f l == 1)

def badDomain (f : Frames) : Bads :=
  let m := domMasterF f
  let st := domStandbyF f
  let own := ff f 0xE0 0x80 2
  let members := (List.range 1024).filter (memberF f)
  if !inDomainF f then [] else
    badIf (!memberF f m) 0xB8 0 ++ badIf (st != 0xFFFF && !memberF f st) 0xB8 2
      ++ badIf (domNodesF f < 1 || 1024 < domNodesF f || members.any (fun n => domNodesF f ≤ n)) 0xB8 4
      ++ (if own < 1024 then badAt (!memberF f own) own 0 else [(0xE0, 0x80)])
      ++ badAt (memberF f m && memberDepthF f m != 0) m 1 ++ badAt (memberF f m && memberParentF f m != 0xFFFF) m 2
      ++ badAt (st != 0xFFFF && memberF f st && memberParentF f st != m) st 2
      ++ members.flatMap (fun n =>
        badAt (memberWeightF f n == 0) n 6
          ++ (if n = m then [] else
            badAt (5 < memberDepthF f n) n 1
              ++ badAt (!memberF f (memberParentF f n) || memberDepthF f (memberParentF f n) + 1 != memberDepthF f n) n 2))
      ++ (if own = m then (upLanesF f).flatMap (fun l => [(0xE0, 8 * l)]) else badIf (upLanesF f).isEmpty 0xE0 0)

/-- R598. The route entries of absent members are dead. -/
def badLink (f : Frames) (cp : Nat) : Bads :=
  let own := ff f 0xE0 0x80 2
  let role := laneRoleF f
  (List.range 10).flatMap (fun l =>
      badIf (3 < role l || (l < 6 && role l == 3) || (6 ≤ l && role l != 0 && role l != 3) || (l == 6 + cp && role l != 0)
        || (role l == 1 && (List.range l).any (fun k => role k == 1))
        || (role l == 2 && 5 ≤ ((List.range l).filter (fun k => role k == 2)).length)) 0xE0 (8 * l))
    ++ (if own < 1024 then badIf (routeF f own != 0xE) (0xE1 + own / 512) (own % 512 / 2) else [(0xE0, 0x80)])
    ++ (if inDomainF f then ((List.range 1024).filter (fun n => memberF f n && n != own)).flatMap (fun n =>
        let v := routeF f n
        badIf (v < 0xE && (9 < v || role v == 0)) (0xE1 + n / 512) (n % 512 / 2)) else [])
    ++ badIf (1 < ((railsF f).filter (fun r => wideRoleF f r != 0)).length) 0xE0 0

/-- R488. SRC 1 names the alternate pair, so it meets NEAR where NEAR is 1. -/
def badRegion (f : Frames) (k : Nat) : Bads :=
  let id := 0xE8 + k / 16
  let o := 16 * (k % 16)
  if !regionHereF f k then [] else
    badIf (!isRailF f (k / 16) || (regionSrcF f k == 0 && (regionSitesF f k).isEmpty)) id o
      ++ badIf (1 < regionSrcF f k || (regionSrcF f k == 1 && (List.range (k % 16)).any (fun r => regionHereF f (k / 16 * 16 + r) && regionSrcF f (k / 16 * 16 + r) == 1))) id (o + 1)
      ++ badIf (1 < regionNearF f k || (regionSrcF f k == 1 && regionNearF f k == 1)) id (o + 2)

/-- Every structure payload under the rules of its block. -/
def badStructure (f : Frames) (g : Nat → Word) (cp : Nat) : Bads :=
  badFrame00 f ++ badFrame01 f ++ badFirmware f ++ badSideband f ++ badChannels f g cp ++ badFabric f g cp
    ++ (List.range 4).flatMap (badDie f) ++ (List.range 32).flatMap (badPartition f) ++ (List.range 64).flatMap (badQueue f)
    ++ badDomain f ++ badLink f cp ++ (List.range 128).flatMap (badRegion f)

/-! ## Hold pairs -/

/-- A used pair of a hold frame: frame ID, pair index, offset and value. -/
structure HoldPair where
  id : Nat
  ix : Nat
  off : Nat
  val : Word
  deriving DecidableEq, Repr

/-- The used pairs of an image's hold frames, in frame order. -/
def holdPairs (l : List ImgFrame) : List HoldPair :=
  (l.filter (fun x => x.kind == 1)).flatMap (fun x => (List.range 32).filterMap (fun i =>
    let off := leAt x.payload (8 * i) 4
    if off = 0xFFFFFFFF then none else some { id := x.id, ix := i, off := off, val := BitVec.ofNat 32 (leAt x.payload (8 * i + 4) 4) }))

def isHold (off : Nat) : Bool := (regFind off).any (fun r => r.access == .hold)

/-- The reset value of a HOLD register on this part: those of group 40 whose reset comes from a fuse or the strap (ch. 7). -/
def bootReset (s : State) (off : Nat) : Word :=
  match regFind off with
  | none => 0
  | some r =>
    if r.base = Reg.PROT_IPK 0 then putFld (resetOf off) F.PROT_IPK_IPK (fld s Reg.PROT_FUSE F.PROT_FUSE_IPK_MAX)
    else if r.base = Reg.PROT_OV 0 then putFld (resetOf off) F.PROT_OV_LIMIT (180 + 30 * fld s Reg.TOP_STRAP F.TOP_STRAP_OVC)
    else if r.base = Reg.PROT_THERM then putFld (resetOf off) F.PROT_THERM_CRIT (fld s Reg.PROT_FUSE F.PROT_FUSE_CRIT_MAX)
    else if r.base = Reg.LAD_VIN_CFG then rd s Reg.LAD_FUSE_VIN
    else if r.base = Reg.LAD_VAUX_CFG then rd s Reg.LAD_FUSE_VAUX
    else resetOf off

/-- The value that an image gives a register (R203): its pair's, otherwise the reset value in a full image and the present value in a
partial one. -/
def imageValue (s : State) (full : Bool) (ps : List HoldPair) (off : Nat) : Word :=
  match ps.find? (fun p => p.off == off) with
  | some p => p.val
  | none => if full then bootReset s off else ac s off

/-- The state with every fused and strap bound wide open: what is left of a range rule is check 30, the bound check 31. -/
def unbounded (s : State) : State :=
  wrN (wrN (wrN (setF s Reg.TOP_STRAP F.TOP_STRAP_OVC 3) Reg.PROT_FUSE 0xFFFFF) Reg.LAD_FUSE_VIN 0) Reg.LAD_FUSE_VAUX 0

/-- Check 30 on hold pairs: R202, and the ranges of each register's block. Offsets count from the start of the frame's payload. -/
def badPairs (s : State) (f : Frames) (g : Nat → Word) (ps : List HoldPair) : Bads :=
  (ps.zipIdx).flatMap (fun (p : HoldPair × Nat) =>
    badIf (!isHold p.1.off || (ps.take p.2).any (fun q => q.off == p.1.off)) p.1.id (8 * p.1.ix)
      ++ badIf (isHold p.1.off && !okHold (unbounded s) f g p.1.off) p.1.id (8 * p.1.ix + 4))

/-- Check 31: the limits of protection and the ladder. -/
def badLimits (s : State) (f : Frames) (g : Nat → Word) (ps : List HoldPair) : Bads :=
  (ps.filter (fun p => p.off / 0x10000 == 0x14 || p.off / 0x10000 == 0x15)).flatMap (fun p =>
    badIf (!okHold s f g p.off) p.id (8 * p.ix + 4))

end Sys2Proof.Machine
end

