-- ==== Sys2Proof/Machine/HirOps.lean ====
section
/-! DEFINITION. The host rings and interrupts (ch. 16): stopping rings, who owns the commit port, and signals to host vectors. -/

namespace Sys2Proof.Machine

def setHir (s : State) (f : HirSt → HirSt) : State := { s with hir := f s.hir }

/-- Fields of HIR_RING_CFG_r. -/
def ringOwner (s : State) (r : Nat) : Nat := fld s (Reg.HIR_RING_CFG r) F.HIR_RING_CFG_OWNER
def ringTel (s : State) (r : Nat) : Bool := flag s (Reg.HIR_RING_CFG r) F.HIR_RING_CFG_KIND
def sqSize (s : State) (r : Nat) : Nat := 2 ^ fld s (Reg.HIR_RING_CFG r) F.HIR_RING_CFG_SQ_LOG
def cqSize (s : State) (r : Nat) : Nat := 2 ^ fld s (Reg.HIR_RING_CFG r) F.HIR_RING_CFG_CQ_LOG

/-- A ring is enabled: RUNNING, or STOPPING while commands are outstanding. -/
def ringOn (s : State) (r : Nat) : Bool := (ringOf s r).state == .running || (ringOf s r).state == .stopping

/-- R764: a function exists. -/
def fnHere (s : State) (f : Nat) : Bool := f == 0 || decide (f ≤ s.hir.vfs)

/-- Release line 3.x runs: a core with the power-management role, or one of the pool, is READY (R802). -/
def fwUp (s : State) : Bool :=
  s.img.applied && s.top.state != .decaf && (List.range 8).any (fun n =>
    (coreRoleF (framesOf s) n == 1 || coreRoleF (framesOf s) n == 4) && coreEnF (framesOf s) n && (coreOf s n).state == .ready && coreRuns s n)

/-- R782: firmware holds TOP_COMMIT_OWNER at 1 while a command ring of function 0 is RUNNING. -/
def ownerSync (s : State) : State :=
  if fwUp s then
    if (List.range 64).any (fun r => (ringOf s r).state == .running && !ringTel s r && ringOwner s r == 0) then wrN s Reg.TOP_COMMIT_OWNER 1
    else if (rd s Reg.TOP_COMMIT_OWNER).toNat = 1 then wr s Reg.TOP_COMMIT_OWNER 0
    else s
  else s

/-- R795: a ring is stopped: DISABLED, nothing more is posted on it. `err` is ERR, where the cause has a code. -/
def ringStop (s : State) (r err : Nat) : State :=
  if (ringOf s r).state = .disabled then s
  else setRing s r (fun x => { x with state := .disabled, err := err, cmds := [], done := [] })

def ringsStop (s : State) (err : Nat) : State := ownerSync (forEach (List.range 64) s (fun s r => ringStop s r err))

/-- R800, R764: a virtual function ceases to exist, or is reset: its rings stop and its partitions return to function 0 (R795). -/
def fnStop (s : State) (f err : Nat) : State :=
  let s := forEach ((List.range 64).filter (fun r => ringOwner s r == f)) s (fun s r => ringStop s r err)
  forEach ((List.range 32).filter (fun p => fld s (Reg.HIR_PART_FUNC p) F.HIR_PART_FUNC_FUNC == f)) s (fun s p => wr s (Reg.HIR_PART_FUNC p) 0)

/-- A vector of a function is signalled; a masked vector sets its pending bit. No message leaves while the link is down (R137; log entry
139). -/
def signal (s : State) (f v : Nat) : State :=
  if bitOf (tabGet 0 s.hir.unmask f) v then if !s.top.pcieUp then s else setHir s (fun h => { h with sent := h.sent ++ [(f, v)] })
  else setHir s (fun h => { h with pba := tabSet 0 h.pba f (tabGet 0 h.pba f ||| 2 ^ v) })

end Sys2Proof.Machine
end

