-- ==== Sys2Proof/Machine/FwLoad.lean ====
section
/-! DEFINITION. Single-core restart, release, the firmware loader and live update (ch. 15), and the acceptance of signing keys
(R207, R888). -/

namespace Sys2Proof.Machine

/-! ## Keys (R206, R207) -/

/-- A signature block (Table 4.5) is valid in form and its key is accepted. -/
def keyOk (s : State) (b : List Byte) (off : Nat) : Bool :=
  leAt b off 4 == 0x47534246 && leAt b (off + 4) 2 == 1 && leAt b (off + 8) 2 == 97 && leAt b (off + 0xA) 2 == 96
    && slotHash s (leAt b (off + 6) 1) == some (Config.sha384 ((b.drop (off + 0x10)).take 97)).toNat

/-- The signature of a block verifies over the digest of the first `n` bytes. -/
def sigOk (b : List Byte) (off n : Nat) : Bool :=
  Config.verifyP384 (Config.sha384 (b.take n)) ((b.drop (off + 0x10)).take 97) ((b.drop (off + 0x80)).take 96)

/-! ## Fetching (R215, R239, R246, R247) -/

/-- The range of a source of Table 4.13 lies within it, at a 64-byte step. -/
def srcOk (src addr len : Nat) : Bool :=
  addr % 64 == 0 && (if src = 0 then decide (addr + len ≤ 2 ^ 64) else if src = 1 then decide (addr + len ≤ ringSpan)
    else if src = 2 then decide (addr + len ≤ sramSize) else false)

/-- R239: an error on a fetch from host memory is reported through Advanced Error Reporting. -/
def fetchAer (s : State) (src : Nat) (got : Fetched) : State :=
  if src = 0 ∧ got = .error then { s with top := { s.top with aerUncorr := s.top.aerUncorr + 1 } } else s

/-- The bytes that a fetch brings. -/
def fetchTake (s : State) (src addr len : Nat) : Fetched → Option (List Byte)
  | .error => none
  | .noMaster => if src = 1 then some (memRead s (sramSize + addr) len) else if src = 2 then some (memRead s addr len) else none
  | .data b => some (if src = 1 then memRead s (sramSize + addr) len else if src = 2 then memRead s addr len
      else (b ++ List.replicate len 0).take len)

/-! ## Absence and restart (R743–R747) -/

def causeCode : RestartCause → Nat
  | .none_ => 0
  | .host => 1
  | .self => 2
  | .watchdog => 3
  | .readyTimeout => 4
  | .cacheEcc => 5
  | .liveUpdate => 6
  | .rollback => 7

def coreCode : CoreState → Nat
  | .reset => 0
  | .loaded => 1
  | .run => 2
  | .ready => 3
  | .quiesce => 4
  | .restart => 5
  | .failed => 6

/-- R746: an interval of 1 s in READY ends the count of restarts. -/
def readyEnds (s : State) (n : Nat) : State :=
  setCore s n (fun c => { c with ready := false, streak := if c.ready && decide (c.readyAt + 1000000000 ≤ now s) then 0 else c.streak })

/-- What follows elsewhere when a core's state changes: fixed-rate franking for the scheduler (R546) and held partitions (R493). -/
def coreSeen (s : State) (n : Nat) : State :=
  let s := if (coreOf s n).state = .restart ∧ coreRoleF (framesOf s) n = 2 then fixedEnter s else s
  forEach (parts s) s holdUpdate

/-- R727: the caches of a core are written back and emptied, its doorbells and queue cleared, its reservation lost. -/
def coreClear (s : State) (n : Nat) : State :=
  let s := drainAll s n
  let lines := (s.fwc.dirty.filter (fun p => p.2.core == n)).map (fun p => p.1)
  let s := forEach lines s flushLine
  let s := setCore s n (fun c => { c with iset := [], dset := [], miss := [], wb := [], sb := [], resv := none })
  setMbx s n (fun m => { lost := min (m.lost + m.queue.length) 65535 })

/-- R744, R746: a cause restarts a core, or holds it in FAILED; a further cause for a core in RESTART is recorded. The PC of the
entry is a free value: the model runs no instructions. A partial image load not yet applied is refused (R236). -/
def coreRestart (s : State) (n : Nat) (cause : RestartCause) : State :=
  let (pc, s) := drawNat s (2 ^ 32)
  if (coreOf s n).state = .restart then record s .mgmt 0x10 0x01 n (causeCode cause) pc 0
  else
    let s := readyEnds s n
    if fld s Reg.FWC_LIVE_CFG F.FWC_LIVE_CFG_RESTART_MAX ≤ (coreOf s n).streak then
      let s := coreClear s n
      let s := setCore s n (fun c => { c with state := .failed, cause := cause, halted := false })
      coreSeen (record (raise s Reg.FWC_LD_EVENT F.FWC_LD_EVENT_CORE_FAILED) .mgmt 0x10 0x02 n (causeCode cause) pc 0) n
    else
      let s := setCore s n (fun c => { c with state := .restart, cause := cause, restarts := min (c.restarts + 1) 255, streak := c.streak + 1,
                                              causeAt := now s, halted := false })
      let s := if loadActive s && s.img.partial_ then loadEnd s 0x14 n 0 else s
      let s := if s.img.phase = .fetch then { s with img := { s.img with restarted := some n } } else s
      let s := record (raise s Reg.FWC_LD_EVENT F.FWC_LD_EVENT_RESTART) .mgmt 0x10 0x01 n (causeCode cause) pc 0
      coreSeen (coreClear s n) n

/-! ## Release (R737, R744, R756) -/

/-- The TCM segments of an image, with the offset of each in the retained area. -/
def tcmSegs (i : FwImg) : List (FwSeg × Nat) :=
  ((i.segs.filter (fun g => g.dest < 0x10000)).foldl (fun (x : List (FwSeg × Nat) × Nat) g => (x.1 ++ [(g, x.2)], x.2 + g.len)) ([], 0)).1

def retainSize (i : FwImg) : Nat := ((i.segs.filter (fun g => g.dest < 0x10000)).map (fun g => g.len)).sum

/-- Every TCM segment in the retained area has its CHECK. -/
def retainOk (s : State) (i : FwImg) : Bool := (tcmSegs i).all (fun g => crc32c (memRead s (i.retain + g.2) g.1.len) == g.1.check)

/-- The TCM after the copy of the segments. -/
def tcmImage (s : State) (i : FwImg) : Tab Byte :=
  (tcmSegs i).foldl (fun t g => (List.range g.1.len).foldl (fun t k => tabSet 0 t (g.1.dest + k) (memByte s (i.retain + g.2 + k))) t) []

/-- A core is released at ENTRY, or held in FAILED where its retained area does not check. -/
def coreRelease (s : State) (n : Nat) (again : Bool) : State :=
  match (coreOf s n).img with
  | none => s
  | some i =>
    if !retainOk s i then
      let s := setCore s n (fun c => { c with state := .failed, ready := false })
      let s := record (raise s Reg.FWC_LD_EVENT F.FWC_LD_EVENT_RETAIN_BAD) .mgmt 0x10 0x06 n (causeCode (coreOf s n).cause) 0 0
      coreSeen (boundaryFail s 14 n (memAddr i.retain)) n
    else
      let f := framesOf s
      let w := fld s (Reg.FWC_WDOG n) F.FWC_WDOG_WD_T * 10000
      let r := fld s (Reg.FWC_WDOG n) F.FWC_WDOG_READY_TO * 100000
      let tcm := tcmImage s i
      let tag := ((maskBits 3 (coreTagsF f n)).head?).getD 0
      coreSeen (setCore s n (fun c => { c with
        state := .run, ready := false, wasRestarted := again, tcm := tcm, tag := tag, user := false,
        iways := coreIwaysF f n, dways := coreDwaysF f n, iblk := bitOf (coreMissF f n) 0, dblk := bitOf (coreMissF f n) 1,
        wdFrom := now s, wdLen := w, readyFrom := now s, readyLen := r, halted := false, regs := [] })) n

/-- R747: the core is absent. -/
def coreAbsent (s : State) (n : Nat) : Bool :=
  let c := coreOf s n
  match c.state with
  | .ready => c.halted
  | .quiesce => c.halted
  | .run => c.halted || (c.wasRestarted && !c.ready)
  | _ => true

/-! ## The firmware loader (R732–R736, R758) -/

def ldCode : LdPhase → Nat
  | .idle => 0
  | .fetch => 1
  | .verify => 2
  | .check => 3
  | .write => 4
  | .handover => 5
  | .rollback => 6

def setLd (s : State) (f : FwLdSt → FwLdSt) : State := { s with fwc := { s.fwc with ld := f s.fwc.ld } }

def ldResult (s : State) (r : Nat) : State := setF s Reg.FWC_LD_STATUS F.FWC_LD_STATUS_RESULT r

def ldBusy (s : State) : Bool := s.fwc.ld.phase != .idle

/-- R758: a load ends without being applied. -/
def ldEnd (s : State) (result item byte : Nat) : State :=
  let ld := s.fwc.ld
  let info := item % 65536 + byte % 65536 * 65536
  let s := wrN (ldResult s result) Reg.FWC_LD_FAIL_INFO info
  let s := record s .mgmt 0x10 0x03 ld.cores result (info + ldCode ld.phase * 2 ^ 32) ld.digest
  setLd s (fun l => { l with phase := .idle, bytes := [], img := none, handed := [], back := [] })

/-- The cores a mask names. -/
def coreList (m : Nat) : List Nat := maskBits 8 m

/-- A region of firmware SRAM or ring memory that a load uses lies in management regions (check 6). -/
def mgmtSrc (s : State) (src addr len : Nat) : Bool :=
  if src = 1 then memIn s 2 (sramSize + addr) len else if src = 2 then memIn s 2 addr len else true

/-- Checks 1–6 of Table 15.4 on a GO, then the first pass begins. -/
def fwGo (s : State) (live : Bool) (cores : Nat) : State :=
  let l := coreList cores
  let f := framesOf s
  let src := fld s Reg.FWC_LD_SRC F.FWC_LD_SRC_SRC
  let addr := rd64 s Reg.FWC_LD_ADDR_LO
  let len := (rd s Reg.FWC_LD_LEN).toNat
  let start (s : State) : State := setLd s (fun x => { x with cores := cores % 256, live := live, digest := 0 })
  let refuse (r item byte : Nat) : State :=
    if ldBusy s then
      record (wrN (ldResult s r) Reg.FWC_LD_FAIL_INFO (item + byte * 65536)) .mgmt 0x10 0x03 (cores % 256) r (item + byte * 65536) 0
    else ldEnd (start s) r item byte
  let inst := match l.find? (fun n => !coreEnF f n) with | some n => some n | none => if l = [] then some 0 else none
  let badState := l.find? (fun n =>
    let st := (coreOf s n).state
    if live then st != .ready else !(st == .reset || st == .loaded || st == .failed))
  let moving := if live then (List.range 8).find? (fun n => (coreOf s n).state == .restart || (coreOf s n).state == .quiesce) else none
  if !flag s Reg.TOP_SUPPLY F.TOP_SUPPLY_SEC_OK then refuse 0x12 0 0xFFFF
  else if ldBusy s ∨ loadActive s ∨ s.sec.run.isSome then refuse 0x11 0 0xFFFF
  else if ¬(s.top.state = .loaded ∨ s.top.state = .ramp ∨ s.top.state = .run) then refuse 0x10 0 0xFFFF
  else match inst with
    | some n => refuse 0x70 n 0
    | none =>
      match (badState <|> moving) with
      | some n => refuse 0x71 n 0
      | none =>
        if ¬(432 ≤ len ∧ len ≤ 1048576 ∧ len % 16 = 0) ∨ !srcOk src addr len ∨ !mgmtSrc s src addr len then refuse 0x21 0 0xFFFF
        else
          let s := setLd (start s) (fun x => { x with phase := .fetch, bytes := [], img := none, handed := [], back := [] })
          setF (wrN (ldResult s 1) Reg.FWC_LD_FAIL_INFO 0xFFFF0000) Reg.FWC_LD_STATUS F.FWC_LD_STATUS_LIVE (b2n live)

/-- The first byte of a list of ranges that is not 0, as an offset. -/
def firstNonzero (b : List Byte) (l : List (Nat × Nat)) : Option Nat :=
  (l.flatMap (fun r => (List.range r.2).map (fun i => r.1 + i))).find? (fun o => b.getD o 0 != 0)

/-- Check 10: the first header byte that fails. -/
def fwHeaderBad (b : List Byte) : Option Nat :=
  let bad (off : Nat) (ok : Bool) : List Nat := if ok then [] else [off]
  let sig := leAt b 0x1C 4
  (bad 0x06 (leAt b 0x06 2 == 0x80) ++ bad 0x0C (1 ≤ leAt b 0x0C 1 && leAt b 0x0C 1 ≤ 4) ++ bad 0x0E (1 ≤ leAt b 0x0E 1 && leAt b 0x0E 1 ≤ 16)
    ++ bad 0x1C (sig % 16 == 0 && sig + 256 == leAt b 0x08 4)
    ++ (firstNonzero b [(0x0F, 1), (0x16, 2), (0x20, 8), (0x30, 76)]).toList
    ++ bad 0x7C (leAt b 0x7C 4 == crc32c (b.take 0x7C))).min?

/-- Segment k of an image under load. -/
def fwSeg (b : List Byte) (k : Nat) : FwSeg :=
  let o := 0x80 + 32 * k
  { dest := leAt b o 4, len := leAt b (o + 4) 4, memsz := leAt b (o + 8) 4, exec := bitOf (leAt b (o + 0xC) 1) 0, check := leAt b (o + 0x1C) 4 }

def fwSegs (b : List Byte) : List FwSeg := (List.range (leAt b 0x0E 1)).map (fwSeg b)

/-- The offset of segment k's data. -/
def fwSegAt (b : List Byte) (k : Nat) : Nat := 0x80 + 32 * leAt b 0x0E 1 + (((fwSegs b).take k).map (fun g => g.len)).sum

/-- Check 18: the first segment that breaks R729 or Table 15.3, with the byte. -/
def fwSegBad (b : List Byte) : Option (Nat × Nat) :=
  let n := leAt b 0x0E 1
  let one (k : Nat) : Option Nat :=
    let g := fwSeg b k
    let o := 0x80 + 32 * k
    if g.dest % 16 != 0 ∨ targetOf g.dest 16 = .none then some 0
    else if g.len % 16 != 0 ∨ g.len < 16 ∨ leAt b 0x1C 4 < fwSegAt b k + g.len then some 4
    else if g.memsz < g.len then some 8
    else if leAt b (o + 0xC) 1 / 2 != 0 then some 0xC
    else match firstNonzero b [(o + 0xD, 15)] with
      | some x => some (x - o)
      | none => if crc32c ((b.drop (fwSegAt b k)).take g.len) != g.check then some 0x1C
                else if k + 1 = n ∧ fwSegAt b n ≠ leAt b 0x1C 4 then some 4 else none
  (List.range n).findSome? (fun k => (one k).map (fun x => (k, x)))

/-- Check 19: a segment's destination. -/
def fwDestBad (s : State) (b : List Byte) (cores : Nat) : Option Nat :=
  let f := framesOf s
  let entry := leAt b 0x18 4
  let bad (k : Nat) : Bool :=
    let g := fwSeg b k
    if g.dest < 0x10000 then decide (0x10000 < g.dest + g.memsz)
    else match memIx g.dest g.memsz with
      | none => true
      | some ix =>
        let planes := (List.range 3).filter (fun p => (coreList cores).all (fun n => bitOf (coreTagsF f n) p))
        !((linesOf ix g.memsz).all (fun l => planes.contains (memPlaneF f (l * 64)))) || (g.exec && decide (sramSize ≤ ix))
  let hit := (fwSegs b).any (fun g => g.exec && decide (g.dest ≤ entry) && decide (entry < g.dest + g.memsz))
  match (List.range (leAt b 0x0E 1)).find? bad with
  | some k => some k
  | none => if hit then none else some 0

/-- The ranges of normal memory that an image occupies: its SRAM segments and its retained area. -/
def imgRanges (i : FwImg) : List (Nat × Nat) :=
  (i.segs.filterMap (fun g => if g.dest < 0x10000 then none else (memIx g.dest g.memsz).map (fun x => (x, g.memsz)))) ++ [(i.retain, retainSize i)]

def meets (a b : Nat × Nat) : Bool := decide (a.1 < b.1 + b.2) && decide (b.1 < a.1 + a.2)

/-- Ranges held by the images of cores not in RESET. -/
def heldRanges (s : State) : List (Nat × Nat) :=
  (List.range 8).flatMap (fun n => if (coreOf s n).state = .reset then [] else
    ((coreOf s n).img.toList ++ (coreOf s n).prev.toList).flatMap imgRanges)

/-- Check 20: a segment, or the retained area (reported as the first TCM segment), overlaps what a core holds. -/
def fwOverlap (s : State) (i : FwImg) : Option Nat :=
  let held := heldRanges s
  let clash (r : Nat × Nat) : Bool := held.any (meets r)
  let segs := i.segs.zipIdx
  match segs.find? (fun g => decide (0x10000 ≤ g.1.dest) && ((memIx g.1.dest g.1.memsz).any (fun x => clash (x, g.1.memsz)))) with
  | some g => some g.2
  | none => if clash (i.retain, retainSize i) then some (((segs.find? (fun g => decide (g.1.dest < 0x10000))).map (fun g => g.2)).getD 0) else none

/-- Checks 7–20 of Table 15.4 once the first pass and the signature are done; then the second pass begins. -/
def fwVerify (s : State) (got : Fetched) : State :=
  let ld := s.fwc.ld
  let src := fld s Reg.FWC_LD_SRC F.FWC_LD_SRC_SRC
  let len := (rd s Reg.FWC_LD_LEN).toNat
  match fetchTake s src (rd64 s Reg.FWC_LD_ADDR_LO) len got with
  | none => ldEnd (fetchAer s src got) 0x20 0 0xFFFF
  | some b =>
    let sig := leAt b 0x1C 4
    let f := framesOf s
    if leAt b 0 4 ≠ 0x57464246 then ldEnd s 0x22 0 0xFFFF
    else if leAt b 4 2 ≠ 1 then ldEnd s 0x24 0 0xFFFF
    else match fwHeaderBad b with
      | some o => ldEnd s 0x23 o 0
      | none =>
        if leAt b 8 4 ≠ len then ldEnd s 0x21 0 0xFFFF
        else if leAt b 0x0D 1 ≠ 0xB0 then ldEnd s 0x25 0 0xFFFF
        else if leAt b 0x10 1 ≠ 3 then ldEnd s 0x72 0 0xFFFF
        else match (coreList ld.cores).find? (fun n => coreRoleF f n != leAt b 0x0C 1) with
          | some n => ldEnd s 0x73 n 0
          | none =>
            let s := setLd s (fun x => { x with phase := .verify, digest := digest8 (b.take (sig + 0x80)) })
            let retain := fld s Reg.FWC_LD_RETAIN F.FWC_LD_RETAIN_OFFSET * 64
            let i : FwImg := { entry := leAt b 0x18 4
                               role := leAt b 0x0C 1
                               release := leAt b 0x10 4
                               segs := fwSegs b
                               retain := retain
                               rollback := leAt b 0x14 2
                               digest := (Config.sha384 (b.take (sig + 0x80))).toNat }
            if !keyOk s b sig then ldEnd s 0x30 0 0xFFFF
            else if !sigOk b sig (sig + 0x80) then ldEnd s 0x31 0 0xFFFF
            else if leAt b 0x14 2 < thermo s.sec.fuse.fwRb then ldEnd s 0x32 0 0xFFFF
            else
              let s := setLd s (fun x => { x with phase := .check })
              match fwSegBad b with
              | some (k, o) => ldEnd s 0x74 k o
              | none =>
                match fwDestBad s b ld.cores with
                | some k => ldEnd s 0x75 k 0
                | none =>
                  if !memIn s 2 retain (retainSize i) ∨ sramSize < retain + retainSize i then ldEnd s 0x21 0 0xFFFF
                  else match fwOverlap s i with
                    | some k => ldEnd s 0x76 k 0
                    | none => setLd s (fun x => { x with phase := .write, bytes := b, img := some i })

/-! ## Handover and rollback (R748–R751) -/

/-- A target takes an image at its restart. -/
def takeImg (s : State) (n : Nat) (i : FwImg) : State :=
  setCore s n (fun c => { c with prev := c.img, img := some i })

/-- The live update is over (R751). -/
def liveDone (s : State) : State :=
  let s := forEach (coreList s.fwc.ld.cores) s (fun s n => setCore s n (fun c => { c with prev := none }))
  let s := raise (ldResult s 2) Reg.FWC_LD_EVENT F.FWC_LD_EVENT_LIVE_DONE
  setLd s (fun l => { l with phase := .idle, bytes := [], img := none, handed := [] })

/-- The target in QUIESCE is restarted into the new image. -/
def handRestart (s : State) (n : Nat) (cause : RestartCause := .liveUpdate) : State :=
  match s.fwc.ld.img with
  | none => s
  | some i =>
    let s := setLd (takeImg s n i) (fun l => { l with handed := l.handed ++ [n] })
    coreRestart s n cause

/-- A restart by HOST, SELF or CACHE_ECC. Of the target in QUIESCE it clears the ready flag, so that the core goes into the new image
(R748); the cause recorded is the first in the order of R753. -/
def askRestart (s : State) (n : Nat) (cause : RestartCause) : State :=
  if s.fwc.ld.phase = .handover ∧ s.fwc.ld.cur = n ∧ (coreOf s n).state = .quiesce then
    handRestart s n (if cause = .cacheEcc then .cacheEcc else .liveUpdate)
  else coreRestart s n cause

/-- R186: a restart asked for by HOST or SELF while a reset is in progress is refused BUSY (log entry 136). -/
def restartAsked (s : State) (n : Nat) (cause : RestartCause) : State :=
  if s.top.rst.isSome then setF s Reg.TOP_RST_STATUS F.TOP_RST_STATUS_RESULT 7 else askRestart s n cause

/-- R748: the next target in ascending index, or the end. -/
def handNext (s : State) : State :=
  match (coreList s.fwc.ld.cores).find? (fun n => !s.fwc.ld.handed.contains n) with
  | none => if (coreList s.fwc.ld.cores).all (fun n => (coreOf s n).state == .ready) then liveDone s else s
  | some n =>
    let s := setF (setLd s (fun l => { l with phase := .handover, cur := n })) Reg.FWC_LD_STATUS F.FWC_LD_STATUS_CORE n
    let s := dbSet s n (2 ^ 31)
    let was := (coreOf s n).ready
    let s := setCore s n (fun c => { c with state := if coreRuns s n then .quiesce else c.state, causeAt := now s })
    if was then s else handRestart s n

/-- R750: the target and every target handed over go back to the previous image, in descending core index. The cause that began the
rollback is recorded for its own core (R753). -/
def rollback (s : State) (first : Option (Nat × RestartCause)) : State :=
  let l := (coreList s.fwc.ld.cores).reverse.filter (fun n => s.fwc.ld.handed.contains n)
  let s := setF (setLd s (fun x => { x with phase := .rollback, back := l })) Reg.FWC_LD_STATUS F.FWC_LD_STATUS_CORE (l.headD s.fwc.ld.cur)
  let s := forEach l s (fun s n =>
    let s := setCore s n (fun c => { c with img := c.prev, prev := none })
    let cause := match first with | some (m, k) => if m = n then k else .rollback | none => .rollback
    if (coreOf s n).state = .failed then s else coreRestart s n cause)
  -- a target still in QUIESCE on the previous image runs on
  let s := forEach (coreList s.fwc.ld.cores) s (fun s n => setCore s n (fun c =>
    if c.state = .quiesce then { c with state := if c.ready then .ready else .run } else c))
  if (s.fwc.ld.back.filter (fun n => (coreOf s n).state == .restart)) = [] then ldEnd s 0x16 0 0xFFFF else s

/-- A core under rollback has been released, or has failed: the rollback ends with the last. -/
def backDone (s : State) : State :=
  if s.fwc.ld.phase = .rollback ∧ (s.fwc.ld.back.all (fun n => (coreOf s n).state != .restart)) then ldEnd s 0x16 0 0xFFFF else s

/-- A restart whose cause may turn a handover back (R750): the watchdog or ready timer of a target not yet READY on the new image. -/
def timedRestart (s : State) (n : Nat) (cause : RestartCause) : State :=
  if s.fwc.ld.phase = .handover ∧ s.fwc.ld.cur = n then
    if (coreOf s n).state = .quiesce then handRestart s n
    else rollback s (some (n, cause))
  else coreRestart s n cause

/-- R734, R736: the second pass, on the bytes it reads. -/
def fwWrite (s : State) (got : Fetched) : State :=
  let ld := s.fwc.ld
  let src := fld s Reg.FWC_LD_SRC F.FWC_LD_SRC_SRC
  match ld.img, fetchTake s src (rd64 s Reg.FWC_LD_ADDR_LO) ld.bytes.length got with
  | some i, some b =>
    let off (k : Nat) : Nat := fwSegAt ld.bytes k
    let data (k : Nat) (g : FwSeg) : List Byte := (b.drop (off k)).take g.len
    let segs := i.segs.zipIdx
    match segs.find? (fun g => crc32c (data g.2 g.1) != g.1.check) with
    | some g => boundaryFail (ldEnd s 0x77 g.2 0x1C) 14 ((coreList ld.cores).headD 0) g.1.dest
    | none =>
      let s := forEach segs s (fun s g => if g.1.dest < 0x10000 then s else
        match memIx g.1.dest g.1.memsz with
        | some ix => memWrite s 8 ix (data g.2 g.1 ++ List.replicate (g.1.memsz - g.1.len) 0)
        | none => s)
      let s := memWrite s 8 i.retain (segs.flatMap (fun g => if g.1.dest < 0x10000 then data g.2 g.1 else []))
      if ld.live then handNext s
      else
        let s := forEach (coreList ld.cores) s (fun s n =>
          coreSeen (setCore s n (fun c => { c with state := .loaded, ready := false, img := some i, prev := none, streak := 0 })) n)
        setLd (ldResult s 2) (fun l => { l with phase := .idle, bytes := [], img := none })
  | _, _ => ldEnd (fetchAer s src got) 0x20 0 0xFFFF

/-- R750, R237 for firmware: ABORT abandons a load, or rolls back a live update. -/
def fwAbort (s : State) : State :=
  match s.fwc.ld.phase with
  | .idle => s
  | .handover => rollback s none
  | .rollback => s
  | _ => ldEnd s 0x15 0 0xFFFF

/-! ## What else acts on the complex -/

/-- R221, R754, R759: every core is held in RESET, and a load, live update or restart is abandoned. -/
def coresReset (s : State) : State :=
  let s := if ldBusy s then ldEnd s 0x15 0 0xFFFF else s
  let s := forEach (List.range 8) s drainAll
  let s := forEach (s.fwc.dirty.map (fun p => p.1)) s flushLine
  let s := { s with fwc := { s.fwc with core := [] } }
  forEach (parts s) s holdUpdate

/-- READY_WE (R739): the ready flag; a live update goes on with it. -/
def setReady (s : State) (n : Nat) (v : Bool) : State :=
  if !coreRuns s n then s
  else if v then
    let s := setCore s n (fun c => { c with ready := true, readyAt := if c.ready then c.readyAt else now s,
                                            wasRestarted := false, state := if c.state = .quiesce then .quiesce else .ready })
    let s := ownerSync s
    let l := s.fwc.ld
    let last := (coreList l.cores).all (fun m => l.handed.contains m)
    if l.phase = .handover ∧ l.handed.contains n ∧ (l.cur = n ∨ last) then handNext s else s
  else
    let q := (coreOf s n).state
    let s := readyEnds s n
    if q = .quiesce then handRestart s n else setCore s n (fun c => { c with state := .run })

end Sys2Proof.Machine
end

