-- ==== Sys2Proof/Machine/ImageOps.lean ====
section
/-! DEFINITION. The Fibigen image (ch. 4): its header, sections and frames, the checks of Table 4.7, and its application. -/

namespace Sys2Proof.Machine

/-! ## Reading an image (R195–R201, Tables 4.2–4.4) -/

/-- A section table entry, with its offset in the image. -/
structure Section_ where
  at_ : Nat
  typ : Nat
  region : Nat
  off : Nat
  len : Nat
  frames : Nat
  gen : Nat
  check : Nat
  deriving DecidableEq, Repr

def sectionAt (b : List Byte) (k : Nat) : Section_ :=
  let o := 0x80 + 32 * k
  { at_ := o, typ := leAt b o 2, region := leAt b (o + 2) 1, off := leAt b (o + 4) 4, len := leAt b (o + 8) 4, frames := leAt b (o + 0xC) 2,
    gen := leAt b (o + 0x10) 4, check := leAt b (o + 0x1C) 4 }

def sections (b : List Byte) : List Section_ := (List.range (leAt b 0x0F 1)).map (sectionAt b)

def sigOff (b : List Byte) : Nat := leAt b 0x1C 4

/-- The first section's data (R196). -/
def firstData (b : List Byte) : Nat := (0x80 + 32 * leAt b 0x0F 1 + 15) / 16 * 16

/-- A frame of 272 bytes. -/
def frameAt (b : List Byte) (o : Nat) : ImgFrame :=
  { id := leAt b o 2, kind := leAt b (o + 2) 1, flags := leAt b (o + 3) 1, gen := leAt b (o + 4) 4, check := leAt b (o + 0xC) 4,
    payload := (b.drop (o + 0x10)).take 256 }

/-- The offsets of the frames of a section. -/
def frameOffs (x : Section_) : List Nat := if x.typ = 4 then [] else (List.range x.frames).map (fun k => x.off + 272 * k)

def imgFrames (b : List Byte) : List ImgFrame := (sections b).flatMap (fun x => (frameOffs x).map (frameAt b))

/-- The structure frames of an image. -/
def structFrames (l : List ImgFrame) : List ImgFrame := l.filter (fun x => x.kind == 0)

/-! ## Regions (Table 4.6) -/

def regionOfFrame (id : Nat) : Nat :=
  if id < 0x10 then 0 else if id < 0x20 then 1 else if id < 0x60 then 2 else if id < 0xA0 then id / 16 - 3
  else if id < 0xB0 then 7 else if id < 0xB8 then 8 else if id < 0xE0 then 9 else if id < 0xE8 then 10 else 11

def regionGroups (r : Nat) : Nat :=
  match r with
  | 1 => 0xFF + 2 ^ 40
  | 2 => 2 ^ 41
  | 3 => 2 ^ 45
  | 4 => 2 ^ 45
  | 5 => 2 ^ 45
  | 6 => 2 ^ 45
  | 7 => 0xFFFFFFFF * 2 ^ 8
  | 8 => 2 ^ 42
  | 9 => 2 ^ 44
  | 10 => 2 ^ 44
  | 11 => 2 ^ 43
  | _ => 0

def regionsMask (rs : Nat) : Nat := (maskBits 12 rs).foldl (fun m r => m ||| regionGroups r) 0

/-- A partial load of a region is permitted in a state. -/
def regionState (r : Nat) (d : DevState) : Bool :=
  if r = 0 then false else if r = 8 ∨ r = 9 ∨ r = 11 then d == .loaded || d == .ramp || d == .run else d == .loaded

/-! ## Checks 7–14 -/

/-- Check 9: the first failing header byte. -/
def headerBad (b : List Byte) : Option Nat :=
  let bad (o : Nat) (ok : Bool) : List Nat := if ok then [] else [o]
  let kind := leAt b 0x0C 1
  let cp := leAt b 0x0E 1
  let n := leAt b 0x0F 1
  let rg := leAt b 0x16 2
  (bad 0x06 (leAt b 6 2 == 0x80) ++ bad 0x0C (kind < 2) ++ bad 0x0E (cp < 4 || cp == 0xFF) ++ bad 0x0F (1 ≤ n && n ≤ 32)
    ++ bad 0x10 (leAt b 0x10 4 != 0) ++ bad 0x16 (if kind = 0 then rg == 0x0FFF else rg < 0x1000) ++ bad 0x18 (leAt b 0x18 4 == 0x80)
    ++ bad 0x1C (sigOff b % 16 == 0 && firstData b ≤ sigOff b && sigOff b + 256 == leAt b 8 4)
    ++ (if kind = 0 then (firstNonzero b [(0x20, 8), (0x30, 48)]).toList else []) ++ (firstNonzero b [(0x60, 28)]).toList
    ++ bad 0x7C (leAt b 0x7C 4 == crc32c (b.take 0x7C))).min?

/-- Checks 7–14, once the bytes are there: the result, item and byte of the first that fails. -/
def headerChecks (s : State) (b : List Byte) (len : Nat) : Option (Nat × Nat × Nat) :=
  let full := leAt b 0x0C 1 == 0
  if leAt b 0 4 ≠ 0x4E474246 then some (0x22, 0, 0xFFFF)
  else if leAt b 4 2 ≠ 2 then some (0x24, 0, 0xFFFF)
  else match headerBad b with
    | some o => some (0x23, o, 0)
    | none =>
      if leAt b 8 4 ≠ len then some (0x21, 0, 0xFFFF)
      else if leAt b 0x0D 1 ≠ 0xB0 then some (0x25, 0, 0xFFFF)
      else if leAt b 0x0E 1 ≠ 0xFF ∧ leAt b 0x0E 1 ≠ cpos s then some (0x26, 0, 0xFFFF)
      else if full ∧ ¬(s.top.state = .decaf ∨ s.top.state = .loaded) then some (0x10, 0, 0xFFFF)
      else if !full ∧ ¬(s.top.state = .loaded ∨ s.top.state = .ramp ∨ s.top.state = .run) then some (0x10, 0, 0xFFFF)
      else if full then none
      else (((List.range 8).find? (fun n => (coreOf s n).state == .restart)).or s.img.restarted).map (fun n => (0x14, n, 0))

/-! ## Checks 18–24 -/

/-- Check 18: the first failing section and its byte. -/
def sectionBad (b : List Byte) : Option (Nat × Nat) :=
  let l := sections b
  let n := l.length
  let one (k : Nat) (x : Section_) : Option Nat :=
    let before := l.take k
    let start := match before.getLast? with | some y => y.off + y.len | none => firstData b
    if x.typ = 0 ∨ 4 < x.typ then some 0
    else if (x.typ = 1 ∧ 11 < x.region) ∨ (x.typ ≠ 1 ∧ x.region ≠ 0xFF) then some 2
    else if before.any (fun y => y.typ == x.typ && y.region == x.region) then some (if x.typ = 1 then 2 else 0)
    else if x.off ≠ start then some 4
    else if x.typ = 4 ∧ ¬(16 ≤ x.len ∧ x.len ≤ 8192 ∧ x.len % 16 = 0) then some 8
    else if x.typ = 4 ∧ x.frames ≠ 0 then some 0xC
    else if x.typ ≠ 4 ∧ x.len ≠ 272 * x.frames then some 8
    else if sigOff b < x.off + x.len ∨ (k + 1 = n ∧ x.off + x.len ≠ sigOff b) then some 8
    else if crc32c ((b.drop x.off).take x.len) ≠ x.check then some 0x1C
    else none
  (l.zipIdx).findSome? (fun (p : Section_ × Nat) => (one p.2 p.1).map (fun o => (p.2, o)))

/-- Check 19: a frame header that Table 4.4 does not allow, or that does not belong to its section. -/
def frameBad (b : List Byte) : Option (Nat × Nat) :=
  let one (x : Section_) (o : Nat) : Option (Nat × Nat) :=
    let y := frameAt b o
    let idOk := if x.typ = 1 then y.id ≤ 0xF7 && regionOfFrame y.id == x.region else if x.typ = 2 then 0x100 ≤ y.id && y.id ≤ 0x2FF
      else 0x400 ≤ y.id && y.id ≤ 0x4F7
    let flOk := if x.typ = 1 then y.flags < 3 else y.flags == 0
    if !idOk then some (y.id, 0) else if y.kind + 1 ≠ x.typ then some (y.id, 2) else if !flOk then some (y.id, 3)
    else (firstNonzero b [(o + 8, 4)]).map (fun p => (y.id, p - o))
  (sections b).findSome? (fun x => (frameOffs x).findSome? (one x))

/-- The CRC-32C over bytes 0x00–0x0B and 0x10–0x10F of a frame. -/
def frameCrc (id kind flags gen : Nat) (payload : List Byte) : Nat :=
  crc32c (leBytes 2 id ++ leBytes 1 kind ++ leBytes 1 flags ++ leBytes 4 gen ++ leBytes 4 0 ++ payload)

/-- The first frame of a list whose ID an earlier one carries. -/
def dupFrame : List Nat → List ImgFrame → Option Nat
  | _, [] => none
  | seen, x :: t => if seen.contains x.id then some x.id else dupFrame (x.id :: seen) t

/-- Check 24: R201. A liveness frame without its structure frame is refused here too (DESIGN CHOICE, log entry 143). -/
def liveBad (l : List ImgFrame) : Option Nat :=
  let st := structFrames l
  let lv := (l.filter (fun x => x.kind == 2)).map (fun (x : ImgFrame) => x.id - 0x400)
  (((st.filter (fun (x : ImgFrame) => (x.flags != 0) == lv.contains x.id)).map (fun (x : ImgFrame) => x.id))
    ++ ((lv.filter (fun i => !st.any (fun (x : ImgFrame) => x.id == i))).map (fun i => i + 0x400))).min?

/-- Checks 18–24. FAIL_INFO.BYTE of an item that has no byte of its own is the model's (DESIGN CHOICE, log entry 143). -/
def parseChecks (s : State) (b : List Byte) : Option (Nat × Nat × Nat) :=
  let g := leAt b 0x10 4
  let part := leAt b 0x0C 1 == 1
  let l := imgFrames b
  let need := (List.range 248).filter (fun i => !part || bitOf (leAt b 0x16 2) (regionOfFrame i))
  match sectionBad b with
  | some (k, o) => some (0x40, k, o)
  | none => match frameBad b with
    | some (i, o) => some (0x46, i, o)
    | none => match l.find? (fun x => frameCrc x.id x.kind x.flags x.gen x.payload != x.check) with
      | some x => some (0x41, x.id, 0x0C)
      | none => match dupFrame [] l with
        | some i => some (0x42, i, 0)
        | none =>
          if (sections b).any (fun x => x.gen != g) then some (0x44, 0xFFFF, 0xFFFF)
          else match l.find? (fun x => x.gen != g) with
            | some x => some (0x44, x.id, 4)
            | none =>
              if part ∧ g ≤ (rd s Reg.SEC_IMG_GEN).toNat then some (0x44, 0xFFFF, 0xFFFF)
              else match need.find? (fun i => !(structFrames l).any (fun (x : ImgFrame) => x.id == i)) with
                | some i => some (0x43, i, 0xFFFF)
                | none => (liveBad l).map (fun i => (0x45, i, 3))

/-! ## Checks 25–31 -/

/-- SEC_IMG_DIGEST as a number, byte 0 lowest. -/
def imgDigest (s : State) : Nat := ((List.range 12).map (fun k => (rd s (Reg.SEC_IMG_DIGEST k)).toNat * 2 ^ (32 * k))).sum

/-- The structure frames that would be in force: those of the image over those of the active bank. -/
def framesWith (s : State) (l : List ImgFrame) : Frames := fun id =>
  match (structFrames l).find? (fun (x : ImgFrame) => x.id == id) with
  | some x => x.payload
  | none => frame s id

/-- Checks 25–29 of a partial image. -/
def partialChecks (s : State) (b : List Byte) : Option (Nat × Nat × Nat) :=
  let rs := leAt b 0x16 2
  let m := regionsMask rs
  let l := imgFrames b
  let f := framesWith s l
  let t := leAt b 0x20 8
  let pairBad := (holdPairs l).find? (fun p => !(isHold p.off && inMask f m p.off))
  let busy := pendMask s &&& m
  if leAt b 0x30 48 ≠ imgDigest s then some (0x50, 0, 0xFFFF)
  else match (structFrames l).find? (fun x => !bitOf rs (regionOfFrame x.id)) with
    | some x => some (0x51, x.id, 0)
    | none => match pairBad with
      | some p => some (0x51, p.id, 0x10 + 8 * p.ix)
      | none => match (maskBits 12 rs).find? (fun r => !regionState r s.top.state) with
        | some r => some (0x52, r, 0xFFFF)
        | none => match (maskBits 46 busy).head? with
          | some g => some (0x53, g, 0xFFFF)
          | none => if t ≠ 0 ∧ t < now s + 1000 then some (0x54, 0, 0xFFFF)
                    else if t ≠ 0 ∧ now s + 10000000000 < t then some (0x55, 0, 0xFFFF) else none

/-- Checks 30 and 31, and R219 for a frame whose shadow copy no longer has its CHECK. -/
def contentChecks (s : State) (b : List Byte) (bad : Option Nat) : Option (Nat × Nat × Nat) :=
  let l := imgFrames b
  let f := framesWith s l
  let ps := holdPairs l
  let g := imageValue s (leAt b 0x0C 1 == 0) ps
  match firstBad (badStructure f g (cpos s) ++ badPairs s f g ps) with
  | some (i, o) => some (0x60, i, 0x10 + o)
  | none => match firstBad (badLimits s f g ps) with
    | some (i, o) => some (0x61, i, 0x10 + o)
    | none => match bad with
      | some i => if (structFrames l).any (fun (x : ImgFrame) => x.id == i) then some (0x41, i, 0x0C) else none
      | none => none

/-! ## Application (R94, R220–R226) -/

/-- Both copies of a HOLD register. -/
def holdBoth (s : State) (off : Nat) (v : Word) : State :=
  let m := match regFind off with | some r => BitVec.ofNat 32 r.mask | none => 0
  wrAc (wr s off (v &&& m)) off (v &&& m)

/-- The registers of group 40 whose reset value is a fuse's or the strap's. -/
def bootRegs : List Nat :=
  (List.range 8).map Reg.PROT_IPK ++ (List.range 8).map Reg.PROT_OV ++ [Reg.PROT_THERM, Reg.LAD_VIN_CFG, Reg.LAD_VAUX_CFG]

/-- Every staged and active copy takes its reset value (R92, R203). -/
def holdReset (s : State) : State :=
  let s := { s with regs := s.regs.filter (fun p => !isHold p.1), active := [],
                    integ := { s.integ with stagedUe := [], activeUe := [] } }
  forEach bootRegs s (fun s off => holdBoth s off (bootReset s off))

/-- The retained hold list takes values (R222). -/
def retain (s : State) (off : Nat) (v : Word) : State :=
  { s with img := { s.img with retained := tabSet 0 s.img.retained off v, retainedKeys := (s.img.retainedKeys.filter (fun k => k != off)) ++ [off] } }

/-- R343, R314: every channel OFF (LATCHED where protection holds it), every trim and count 0. -/
def chanApply (s : State) : State :=
  let s := { s with ch := [] }
  let s := forEach ((rails s).filter (railLatched s)) s (fun s r => setCh s r (fun x => { x with state := .latched }))
  let s := forEach (List.range 64) s (fun s p => setPh s p (fun x =>
    { x with trim := 0, active := false, cal := false, widened := false, shortCnt := 0, onTime := 0, drove := false, peaked := false, due := false, off := 0 }))
  forEach (List.range 8) s (fun s c => wr (wr s (Reg.CH_CNT c) 0) (Reg.CH_DRIP_CNT c) 0)

/-- R624: every lane with a role and EN enters DETECT, every other is DISABLED. -/
def lanesApply (s : State) : State := forEach lanes (lanesOff s) laneStart

/-- The frame digest entry of an applied frame: what the replaced frame had moves to the older pair. -/
def digestPut (l : List ImgFrame) (t : Tab DigestEntry) (x : ImgFrame) : Tab DigestEntry :=
  let o := tabGet {} t x.id
  let mask := match l.find? (fun y => y.kind == 2 && y.id == x.id + 0x400) with | some y => y.payload | none => []
  tabSet {} t x.id { gen := x.gen, check := x.check, prevGen := o.gen, prevCheck := o.check, allLive := bitOf x.flags 0, mask := mask, dbe := false }

/-- The shadow bank takes the structure frames of an image (R217). -/
def shadowWrite (s : State) (l : List ImgFrame) : State :=
  let put (b : Tab BankSlot) : Tab BankSlot :=
    (structFrames l).foldl (fun t x => tabSet {} t x.id { gen := x.gen, flags := x.flags, check := x.check, payload := x.payload }) b
  if s.img.active1 then { s with img := { s.img with bank0 := put s.img.bank0 } } else { s with img := { s.img with bank1 := put s.img.bank1 } }

/-- What every application does: the banks swap, the digest table, generation, digest and status follow, and REFILL begins. -/
def imageSwap (s : State) (b : List Byte) : State :=
  let l := imgFrames b
  let dig := (Config.sha384 (b.take (sigOff b + 0x80))).toNat
  let s := { s with img := { s.img with active1 := !s.img.active1, applied := true, rollback := leAt b 0x14 2, digest := (structFrames l).foldl (digestPut l) s.img.digest,
                                        phase := .refill, refillSlots := (structFrames l).map (fun (x : ImgFrame) => x.id), scrubOn := true, bytes := [],
                                        pendTick := 0, pendGroups := 0, heldFor := none } }
  let s := wrN s Reg.SEC_IMG_GEN (leAt b 0x10 4)
  let s := forEach (List.range 12) s (fun s k => wrN s (Reg.SEC_IMG_DIGEST k) (dig / 2 ^ (32 * k) % 2 ^ 32))
  let s := setF s Reg.SEC_IMG_STATUS F.SEC_IMG_STATUS_RESULT 2
  let s := setF s Reg.SEC_IMG_STATUS F.SEC_IMG_STATUS_PARTIAL (leAt b 0x0C 1)
  setF s Reg.SEC_IMG_STATUS F.SEC_IMG_STATUS_REGIONS (leAt b 0x16 2)

/-- What the blocks take from the structure and hold values of a full image, or of a warm reset's R94; `role` takes the domain role. -/
def blocksApply (s : State) (role : State → State) : State :=
  let s := btApply s
  let s := role s
  let s := fqApply s
  let s := chanApply s
  let s := capApply s
  let s := estApply s
  let s := fabStart s
  let s := lanesApply s
  limitsNow (forEach (List.range 4) s cfgAll)

/-- R220: a full image is applied. -/
def applyFull (s : State) (b : List Byte) : State :=
  let was := s.top.state
  let ps := holdPairs (imgFrames b)
  let s := imageSwap s b
  let s := holdReset { s with img := { s.img with retained := [], retainedKeys := [], cleanDie := [], cleanQueue := [], slot := 0, domStale := false },
                              top := { s.top with ueParts := [] } }
  let s := forEach ps s (fun s p => retain (holdBoth s p.off p.val) p.off (ac (holdBoth s p.off p.val) p.off))
  let s := enterState s .loaded
  let s := commitEntry (commitSeq s) allGroups 2 resDone 0 (!s.tb.aligned)
  let s := coresReset s
  let s := if was = .loaded then wr s Reg.TOP_COMMIT_OWNER 0 else s
  let s := lifeUp (blocksApply s domRole) 8
  { s with sbm := { s.sbm with wp := fr s 0x0A 1 1 } }

/-- R561: the queued intents of queues that are no longer present are answered with CANCEL; `s0` is the state before. -/
def queuesApply (s0 s : State) : State :=
  let f0 := framesOf s0
  let gone := (List.range 64).filter (fun q => queueHereF f0 q && !queueHereF (framesOf s) q)
  let s := forEach gone s (fun s q =>
    let s := forEach (queueOf s q).items s (fun s i => frankCancel s (queueDieF f0 q) q i.tag)
    setQueue s q (fun x => { x with items := [] }))
  { s with fq := { s.fq with armed := s.fq.armed.filter (fun q => !gone.contains q) } }

/-- R628 in a partial image: the role is taken anew where the image names another for this node; role and servo stay where it does not
(DESIGN CHOICE, log entry 143). -/
def roleChanged (s0 s : State) : Bool :=
  let k (x : State) : Nat × Bool × Bool × Bool :=
    let f := framesOf x
    (ownNode x, inDomain x, domMasterF f == ownNode x, domStandbyF f == ownNode x)
  k s0 != k s

/-- What the blocks of a region take from a partial image. -/
def regionApply (s0 : State) (s : State) (r : Nat) : State :=
  match r with
  | 1 => chanApply s
  | 2 => fabStart s
  | 7 => capApply s
  | 8 => queuesApply s0 s
  | 9 => if roleChanged s0 s then domRole s else s
  | 10 => lanesApply (if roleChanged s0 s then domRole s else s)
  | 11 => forEach (regions s) s regionRestart
  | _ => s

/-- R224, R226: a partial image is applied, and every CFG is sent (R419, R435); `tick` is 0 for an immediate one. -/
def applyPartial (s0 : State) (b : List Byte) (tick : Nat) : State :=
  let rs := leAt b 0x16 2
  let m := regionsMask rs
  let ps := holdPairs (imgFrames b)
  let s := imageSwap s0 b
  let s := { s with integ := { stagedUe := s.integ.stagedUe.filter (fun o => !ps.any (fun p => p.off == o)),
                               activeUe := s.integ.activeUe.filter (fun o => !ps.any (fun p => p.off == o)), sbe := s.integ.sbe, sinkSeen := s.integ.sinkSeen } }
  let s := forEach ps s (fun s p => retain (holdBoth s p.off p.val) p.off (ac (holdBoth s p.off p.val) p.off))
  let s := pendRefresh (commitEntry (commitSeq s) m (b2n (tick != 0)) resDone tick (tick != 0 && !s.tb.aligned))
  let s := forEach (maskBits 12 rs) s (regionApply s0)
  commitHooks s0 (forEach (List.range 4) s cfgAll) m

end Sys2Proof.Machine
end

