-- ==== Sys2Proof/Machine/Postbox.lean ====
section
/-! DEFINITION. Commands of the Postbox macro, the Postline and the droop path (ch. 8). -/

namespace Sys2Proof.Machine

open Host

/-! ## Messages -/

/-- A port cell sends an up message (Table 8.6); up lane 0 is numbered and its last 16 messages are kept (R420). -/
def upSend (s : State) (d lane typ addr data : Nat) : State :=
  let x := portOf s d
  if x.trained then
    let m : PlMsg := { die := d, lane := lane, typ := typ, addr := addr, data := data % 2 ^ 40, seq := if lane = 0 then x.txSeq else 0 }
    let s := if lane = 0 then setPort s d (fun x => { x with txSeq := (x.txSeq + 1) % 64, hist := (m :: x.hist).take 16 }) else s
    { s with pb := { s.pb with wire := s.pb.wire ++ [m] } }
  else s

/-- A STATUS message: its code and detail. -/
def statusSend (s : State) (d addr code detail : Nat) : State := upSend s d 0 5 addr (code * 2 ^ 32 + detail)

/-- R442: what a site reports goes out only while its port cell is not in fallback. -/
def siteSend (s : State) (d lane typ n data : Nat) : State := if (portOf s d).fallback then s else upSend s d lane typ n data

/-- R420: a lane-0 error: a NAK goes out, and lane-0 messages are discarded until the resent SEQ arrives. -/
def nakSend (s : State) (d : Nat) : State :=
  plSend (setDie s d (fun x => { x with nakWait := true })) d 6 0x3F ((dieOf s d).rxSeq * 2 ^ 34)

/-- A lane-0 message reaches the BX1200: it takes effect where its SEQ is the one expected (R420). -/
def lane0 (s : State) (d seq typ addr : Nat) (k : State → State) : State :=
  let s := wireDrop s (fun m => m.die == d && m.lane == 0 && m.typ == typ && m.addr == addr && m.seq == seq)
  if dieUp s d then
    if seq = (dieOf s d).rxSeq then k (setDie s d (fun x => { x with rxSeq := (x.rxSeq + 1) % 64, nakWait := false }))
    else if (dieOf s d).nakWait then s
    else nakSend (raise s (Reg.PB_DIE_EVENT d) F.PB_DIE_EVENT_SEQ_GAP) d
  else s

/-- An up-lane-1 report reaches the BX1200 (R421). -/
def lane1 (s : State) (d typ addr : Nat) (k : State → State) : State :=
  let s := wireTake s d 1 typ addr
  if dieUp s d then k s else s

/-! ## Stamps -/

/-- The die time of a port cell, ns, 32 bits as TSYNC carries it. -/
def dieNow (s : State) (d : Nat) : Nat := ((portOf s d).dieTime + (now s - (portOf s d).dieAt)) % 2 ^ 32

/-- R425: the stamp of an event at a port cell, 1.25 ns modulo 2²⁴. -/
def stampOf (s : State) (d : Nat) : Nat := ((dieNow s d + 2 ^ 32) * 16 - (portOf s d).siteDly) % 2 ^ 36 / 20 % 2 ^ 24

/-- The latest value, no later than `u`, of the units that agrees with a stamp modulo 2²⁴. -/
def unitsBack (u stamp : Nat) : Nat := (u + 2 ^ 24 - stamp % 2 ^ 24) % 2 ^ 24

/-- R426: the time-base value of a STAMP. The units are those of the die time, the low 32 bits of the time base: where none of the present
round agrees, the latest of the round before is taken. -/
def stampTime (s : State) (d stamp : Nat) : Nat :=
  let t := now s % 2 ^ 32
  let u := t * 4 / 5
  let top := (2 ^ 32 - 1) * 4 / 5
  let at_ := if unitsBack u stamp ≤ u then now s - t + (u - unitsBack u stamp) * 5 / 4
             else now s - t - 2 ^ 32 + (top - unitsBack top stamp) * 5 / 4
  at_ + fld s (Reg.PB_LAT d) F.PB_LAT_L_DOWN / 16

/-! ## Sites -/

/-- V_thr of a site, 1/32 mV, with the guard of R403 until it has set CAL_OK. -/
def siteThr (s : State) (d n : Nat) : Nat :=
  let c := tabGet 0 (portOf s d).site n
  (400 + c % 256 * 5 + if (siteOf s d n).calOk then 0 else 25) * 32

/-- CFG SITE PRESENT and DIS. -/
def sitePresent (s : State) (d n : Nat) : Bool := bitOf (tabGet 0 (portOf s d).site n) 13
def siteDis (s : State) (d n : Nat) : Bool := bitOf (tabGet 0 (portOf s d).site n) 8

/-- R403: a sweep of the shadow line. -/
def execSiteCalSweep (die : DieIx) (site : SiteIx) (agrees : Bool) (s : State) : Result :=
  let d := die.val
  let n := site.val
  let x := siteOf s d n
  if x.coreOn ∧ !x.calFail then
    let k := if agrees then min (x.agree + 1) 3 else 0
    let s := setSite s d n (fun x => { x with agree := k, calOk := x.calOk || k == 3 })
    .next (if k = 3 ∧ !x.calOk then siteSend s d 0 5 n (0x04 * 2 ^ 32) else s)
  else .next s

/-! ## The stretch (R406–R408) -/

/-- The clock of a site's partition, MHz × N: its period is 1,024,000 ÷ this, in ns. -/
def siteClock (s : State) (d n : Nat) : Nat :=
  let p := tabGet 0 (portOf s d).site n / 2 ^ 14 % 32
  max 1 (partFmaxF (framesOf s) p * tabGet 128 (portOf s d).divN p)

/-- R407: the depths after the release of DRP, each with its number of periods: D for the hold, then D and every lower one for 8. -/
def stretchSteps (depth k : Nat) : List (Nat × Nat) :=
  (depth, 2 ^ k) :: ((List.range depth).reverse.map (fun d => (d + 1, 8)))

/-- A step of `k` periods at depth `d` lasts k × (8 + d) ÷ 8 periods of the partition clock; durations here are in ns × (MHz × N). -/
def stepLen (x : Nat × Nat) : Nat := x.2 * (8 + x.1) * 128000

/-- Depth and extra time after a time `e` of the steps. -/
def stretchAt : List (Nat × Nat) → Nat → Nat × Nat
  | [], _ => (0, 0)
  | x :: t, e =>
    if e < stepLen x then (x.1, e * x.1 / (8 + x.1))
    else
      let r := stretchAt t (e - stepLen x)
      (r.1, r.2 + x.2 * x.1 * 128000)

/-- The present stretch depth of a site and the extra time that its stretch has added from `strFrom` on, 1/16 ns. -/
def stretchNow (s : State) (d n : Nat) : Nat × Nat :=
  let x := siteOf s d n
  if x.drp then (x.depth, (now s - x.strFrom) * 16 * x.depth / (8 + x.depth))
  else if x.stretchHold then
    let l := stretchSteps x.depth x.strK
    let r := stretchAt l ((now s - x.relAt) * x.strF)
    (r.1, (r.2 - (stretchAt l ((x.strFrom - x.relAt) * x.strF)).2) * 16 / max x.strF 1)
  else (0, 0)

/-- The extra time up to now is counted (R408). -/
def stretchCount (s : State) (d n : Nat) : State :=
  let e := (stretchNow s d n).2
  setSite s d n (fun x => { x with strExtra := x.strExtra + e, strFrom := now s })

/-- R404, R406, R408: an armed site's supply crosses below its threshold; the full D is in force, and PL_DROOP is asserted (R401). -/
def execSiteDroopCrossing (die : DieIx) (site : SiteIx) (v : Nat) (s : State) : Result :=
  let d := die.val
  let n := site.val
  if (portOf s d).armed ∧ (siteOf s d n).coreOn ∧ sitePresent s d n ∧ !siteDis s d n ∧ v < siteThr s d n then
    let low : Bool := match (siteOf s d n).minV with
      | some m => decide (v < m)
      | none => true
    let s := if low then setSite s d n (fun x => { x with minV := some v, minAt := stampOf s d }) else s
    let s := stretchCount s d n
    let s := setPort s d (fun x => { x with droopAt := now s })
    .next (setSite s d n (fun x => { x with drp := true, depth := (portOf s d).stretch % 16, stretchHold := false, strF := siteClock s d n,
                                            strEvents := if x.drp || x.stretchHold then x.strEvents else x.strEvents + 1 }))
  else .next s

/-- R404, R407: the supply has risen above V_thr + HYST. -/
def execSiteDrpRelease (die : DieIx) (site : SiteIx) (v : Nat) (s : State) : Result :=
  let d := die.val
  let n := site.val
  if (siteOf s d n).drp ∧ siteThr s d n + (portOf s d).stretch / 256 % 16 * 160 < v then
    let s := stretchCount s d n
    .next (setSite s d n (fun x => { x with drp := false, stretchHold := true, relAt := now s, strK := (portOf s d).stretch / 16 % 16 }))
  else .next s

/-- The end of the stretch that a released site runs (R407). -/
def stretchEndAt (s : State) (d n : Nat) : Nat :=
  let x := siteOf s d n
  let l := ((stretchSteps x.depth x.strK).map stepLen).sum
  x.relAt + (l + x.strF - 1) / max x.strF 1

/-- R407, R417: the depth has been lowered to 0 and the stretch ends; the site sends VMIN. -/
def execSiteStretchEnd (die : DieIx) (site : SiteIx) (s : State) : Result :=
  let d := die.val
  let n := site.val
  let x := siteOf s d n
  if x.stretchHold ∧ !x.drp then
    let s := stretchCount (reach s (stretchEndAt s d n)) d n
    let s := setSite s d n (fun x => { x with stretchHold := false, depth := 0, minV := none, minAt := 0 })
    match x.minV with
    | some v => .next (siteSend s d 0 4 n (v % 2 ^ 16 * 2 ^ 24 + x.minAt))
    | none => .next s
  else .next s

/-- The site trip level of a port cell, 1/16 °C; 105 °C until one is received (R435). -/
def portTrip (s : State) (d : Nat) : Nat := match (portOf s d).trip with
  | some t => t
  | none => 1680

/-- R434: a site at its trip level; the die's trip wire follows. -/
def execSiteTrip (die : DieIx) (site : SiteIx) (t : Int) (s : State) : Result :=
  if (portTrip s die.val : Int) ≤ t then
    .next (setDie (setSite s die.val site.val (fun x => { x with trip := true })) die.val (fun x => { x with trip := true }))
  else .next s

/-- R434: 5 °C below the trip level. -/
def execSiteTripRelease (die : DieIx) (site : SiteIx) (t : Int) (s : State) : Result :=
  if (siteOf s die.val site.val).trip ∧ t ≤ (portTrip s die.val : Int) - 80 then
    let s := setSite s die.val site.val (fun x => { x with trip := false })
    .next (setDie s die.val (fun x => { x with trip := (List.range 64).any (fun n => (siteOf s die.val n).trip) }))
  else .next s

/-- The core domain of a site powers off or on; the site reports it. -/
def execSiteCoreDomainChange (die : DieIx) (site : SiteIx) (on : Bool) (s : State) : Result :=
  let s := setSite (stretchCount s die.val site.val) die.val site.val (fun x => { x with coreOn := on, agree := 0, calOk := false, drp := false, depth := 0, stretchHold := false })
  .next (siteSend s die.val 0 5 site.val ((if on then 0x03 else 0x02) * 2 ^ 32))

/-! ## Droop, boost and freeze -/

/-- R541: a droop flag within WATCH of a heavy launch on the rail raises S. -/
def droopSpacing (s : State) (r : Nat) : State :=
  let w := aF s Reg.FQ_STAG2 F.FQ_STAG2_WATCH * 1000
  if (railParts s r).any (fun p => match (balOf s p).lastLaunch with | some t => decide (now s ≤ t + w) | none => false) then
    let mx := aF s Reg.FQ_STAG2 F.FQ_STAG2_S_MAX
    { s with fq := { s.fq with pinS := decide (mx ≤ s.fq.spacing), quiet := 0,
                               spacing := max s.fq.spacing (min (s.fq.spacing + aF s Reg.FQ_STAG2 F.FQ_STAG2_S_STEP) mx) } }
  else s

/-- R409, R410: every assigned phase HIGH, but for those that a crowbar or R340 holds; a calibration removal ends. The boost is a period of
its own for the short count (R349). -/
def boostStart (s : State) (r : Nat) : State :=
  let s := allActive (endRemoval s r) r
  let s := forEach (assigned s r) s (fun s p => setPh s p (fun x =>
    if x.crowbar || x.widened then x else { closePeriod x with level := .high, drove := true, edgeAt := now s * 1000 }))
  let s := setBoost (setCh s r (fun x => { x with vdither := 0 })) r (fun x => { x with boost := some (now s), settleFrom := none })
  let s := bump s (Reg.PB_BOOST_CNT r) F.PB_BOOST_CNT_BOOSTS
  if wideRole s r = 1 then boostBlocks s r 1 else s

/-- The droop flag of a rail in REG rises: droop entry, freeze (R431), the end of Drip mode (R322), boost (R409), franking stagger (R541). The
event's minimum begins with the last sample, whose conversion was 40 ns before (R415, R418). -/
def flagRise (s : State) (r d : Nat) : State :=
  let s := record s .control 0x0A 0x01 (d + 256 * r) 0 (now s) 0
  let s := if (boostOf s r).frozen then setBoost s r (fun x => { x with settleFrom := none })
    else
      let s := setBoost s r (fun x => { x with frozen := true, settleFrom := none, evMin := sense s r, evMinAt := now s - 40, deferred := 0, dDie := d, lastLen := 0 })
      bump s (Reg.PB_FREEZE_CNT r) F.PB_FREEZE_CNT_FREEZES
  let s := dripExit (droopSpacing s r) r
  let s := if aOn s (Reg.PB_BOOST r) F.PB_BOOST_BOOST_EN ∧ !boosting s r ∧ (boostOf s r).gapUntil = none then boostStart s r else s
  let s := if wideRole s r = 1 then
      originate s { ctype := 4, scope := 3, node := ownNode s, payload := r + 8 * (now s * 4 / 5 % 2 ^ 24) } else s
  holdRail s r

/-- R409, R418, R431, R439: a droop wire rises. In DECAF nothing is boosted or frozen (R447). -/
def execDroopFlagRise (die : DieIx) (s : State) : Result :=
  let d := die.val
  let r := dieRail s d
  let was := droopFlag s r
  if (dieOf s d).droop then .next s
  else
    let s := setDie s d (fun x => { x with droop := true })
    let s := raise s (Reg.PB_DIE_EVENT d) F.PB_DIE_EVENT_DROOP
    let s := bump s (Reg.PB_DROOP_CNT d) wordF
    if structured s ∧ dieHere s d ∧ s.top.state ≠ .decaf ∧ isRail s r ∧ railState s r = .reg ∧ !was then .next (flagRise s r d) else .next s

/-- R411, R412, R332: a boost ends after BOOST_T, or early. -/
def execBoostEnd (rail : ChIx) (early : Bool) (s : State) : Result :=
  let r := rail.val
  match (boostOf s r).boost with
  | none => .next s
  | some t =>
    let ok : Bool := if early then aOn s (Reg.PB_BOOST r) F.PB_BOOST_EARLY_EN && decide (t + 40 ≤ now s)
        && decide (vtarget16 s r - (aF s (Reg.PB_BOOST r) F.PB_BOOST_BOOST_REL * 16 : Nat) ≤ sense s r)
      else true
    if ok then
      let s := if early then bump s (Reg.PB_BOOST_CNT r) F.PB_BOOST_CNT_EARLY
        else reach s (t + aF s (Reg.PB_BOOST r) F.PB_BOOST_BOOST_T * 10)
      .next (boostStop s r)
    else .next s

/-- R413: the gap ends. -/
def execBoostGapEnd (rail : ChIx) (s : State) : Result :=
  match (boostOf s rail.val).gapUntil with
  | none => .next s
  | some t => .next (setBoost (reach s t) rail.val (fun x => { x with gapUntil := none }))

/-- SETTLE of a rail, ns. -/
def settleNs (s : State) (r : Nat) : Nat := aF s (Reg.PB_BOOST r) F.PB_BOOST_SETTLE * 100

/-- R418, R432: the freeze of a rail ends; so does one that DROOP cells hold (R668). -/
def execFreezeEnd (rail : ChIx) (s : State) : Result :=
  let r := rail.val
  let x := boostOf s r
  let s := match x.settleFrom with
    | some t =>
      if x.frozen ∧ x.boost = none ∧ !droopFlag s r then
        let s := reach s (t + settleNs s r)
        let s := holdRail s r
        let x := boostOf s r
        let s := record s .control 0x0A 0x02 (x.dDie + 256 * r) x.deferred x.evMinAt (x.evMin + x.lastLen * 2 ^ 32)
        let s := setBoost s r (fun x => { x with frozen := false, settleFrom := none, deferred := 0 })
        forEach (railParts s r) s (fun s p => setPart s p (fun x => { x with upWait := false }))
      else s
    | none => s
  .next (holdRail s r)

/-- R401: the port cell holds PL_DROOP asserted while a site asserts DRP. -/
def portDroop (s : State) (d : Nat) : Bool := (List.range 64).any (fun n => (siteOf s d n).drp)

/-- R401, R439, R445: a droop wire falls, at the earliest 5 ns after a site's assertion; SETTLE runs once the rail's flag and any boost are
over. While a site asserts DRP the wire does not fall. -/
def execDroopFlagFall (die : DieIx) (s : State) : Result :=
  let d := die.val
  let r := dieRail s d
  let was := droopFlag s r
  if portDroop s d then .next s else
  let s := if (dieOf s d).droop then reach s ((portOf s d).droopAt + 5) else s
  let s := setDie s d (fun x => { x with droop := false, stuck := false })
  if was ∧ !droopFlag s r ∧ !boosting s r ∧ (boostOf s r).frozen then
    .next (setBoost s r (fun x => { x with settleFrom := some (now s) }))
  else .next s

/-- R445: a droop wire has stayed asserted for STUCK. -/
def execDroopStuck (die : DieIx) (s : State) : Result :=
  let d := die.val
  let r := dieRail s d
  if (dieOf s d).droop ∧ !(dieOf s d).stuck then
    let s := setDie s d (fun x => { x with stuck := true })
    let s := raise s (Reg.PB_DIE_EVENT d) F.PB_DIE_EVENT_DROOP_STUCK
    let s := record s .control 0x0A 0x04 (d + 256 * r) 0 (now s) 0
    if dieHere s d ∧ !droopFlag s r then
      let s := boostStop s r
      .next (if (boostOf s r).frozen then setBoost s r (fun x => { x with settleFrom := some (now s) }) else s)
    else .next s
  else .next s

/-- R415, R416: the captures named by a PB_MIN_ARM word are re-armed. -/
def pbMinArm (s : State) (val : Word) : State :=
  let s := forEach (maskBits 8 (fldOf val F.PB_MIN_ARM_CH)) s (fun s r => wr64 (wr s (Reg.PB_CHMIN r) 0) (Reg.PB_CHMIN_TS_LO r) 0)
  forEach (maskBits 4 (fldOf val F.PB_MIN_ARM_DIE)) s (fun s d =>
    forEach (List.range 64) s (fun s n => wr64 (wr s (Reg.PB_SMIN d n) 0) (Reg.PB_SMIN_TS_LO d n) 0))

/-! ## Training, fallback and die time -/

/-- Send TSYNC to a die. -/
def tsyncSend (s : State) (d : Nat) : State := plSend s d 3 0x3F (now s % 2 ^ 32 * 2 ^ 8)

/-- R444: MODE RESUME goes out once CFG_SYNC is 1, and the limit of R443 is lifted. -/
def maybeResume (s : State) (d : Nat) : State :=
  if dieUp s d ∧ (dieOf s d).resume ∧ cfgSync s d then
    setDie (plSend s d 7 0x3F (2 * 2 ^ 32)) d (fun x => { x with resume := false, safe := false, tempStale := false })
  else s

/-- R447, R419, R444: the Postline of a die has trained; latencies in 1/16 ns. Its detectors are armed where its rail is in REG, and
disarmed where it is not (R405). -/
def execPostlineTrainingDone (die : DieIx) (lDown lUp : Fin 4096) (s : State) : Result :=
  let d := die.val
  if s.top.state = .off then .next s
  else
    let again := (dieOf s d).safe
    let s := setDie (pmRefresh s) d (fun x => { x with link := .up, rxSeq := 0, txSeq := 0, nakWait := false, cfgs := [], crcTimes := [], resume := again })
    let s := { s with pb := { s.pb with wire := s.pb.wire.filter (fun m => m.die != d) } }
    let s := setPort s d (fun x => { x with trained := true, txSeq := 0, hist := [], fseq := [] })
    let s := forEach ((List.range 64).filter (fun q => queueDieF (framesOf s) q == d)) s (fun s q => setQueue s q (fun x => { x with fseq := 0 }))
    let s := forEach (List.range 64) s (fun s n => setSite s d n (fun x => { x with eBase := none }))
    let s := raise s (Reg.PB_DIE_EVENT d) F.PB_DIE_EVENT_LINK_UP
    let s := wrN s (Reg.PB_LAT d) (lDown.val + lUp.val * 2 ^ 16)
    let s := cfgAll (tsyncSend s d) d
    let s := if structured s ∧ dieHere s d then armDie s d (railState s (dieRail s d) == .reg) else s
    .next (maybeResume s d)

/-- R443, R550: what the BX1200 does when a die falls back. -/
def dieFallback (s : State) (d : Nat) : State :=
  let s := setDie s d (fun x => { x with link := .fallback, safe := true, resume := false, tempStale := true, cfgs := [], nakWait := false })
  let s := raise s (Reg.PB_DIE_EVENT d) F.PB_DIE_EVENT_LANE_FAIL
  let s := raise s (Reg.PB_DIE_EVENT d) F.PB_DIE_EVENT_FALLBACK
  let s := record s .control 0x0A 0x03 (d + 256 * dieRail s d) 0 (now s) 0
  let s := forEach (dieParts s d) s (fun s p =>
    let s := setPart s p (fun x => { x with nCur := min (curN s p) (safeN s p), sent := none, tries := 0, tickAt := none })
    setBal s p (fun x => { x with level := 0 }))
  let s := { s with fq := { s.fq with franks := s.fq.franks.filter (fun k => partDie s k.part != d || k.launched) } }
  fqFallback s d

/-- R440, R442: the BX1200 declares an up-lane failure and sends MODE FALLBACK. -/
def laneFailure (s : State) (d : Nat) : State :=
  if dieUp s d then dieFallback (plSend s d 7 0x3F (1 * 2 ^ 32)) d else s

/-- `lock` says that CLK_PB has lost lock (Table 2.14). -/
def execUpLaneFailure (die : DieIx) (lock : Bool) (s : State) : Result :=
  .next (laneFailure (if lock ∧ dieUp s die.val then clkFault s 6 else s) die.val)

/-- R444: every 10 ms a die in fallback is retrained, also where the last training did not succeed. -/
def execFallbackRetrain (die : DieIx) (s : State) : Result :=
  if (dieOf s die.val).link = .fallback ∨ ((dieOf s die.val).link = .training ∧ (dieOf s die.val).safe) then
    .next (bump (setDie s die.val (fun x => { x with link := .training })) (Reg.PB_ERR_CNT die.val) F.PB_ERR_CNT_RETRAINS)
  else .next s

/-- Every 1 µs the BX1200 sends TSYNC on each Postline that is up. -/
def execTsyncSend (s : State) : Result := .next (forEach (List.range 4) s tsyncSend)

/-- R425: the port cell loads its die time. -/
def execTsync (die : DieIx) (t : BitVec 32) (s : State) : Result :=
  let s := wireTake s die.val laneDown 3 0x3F
  .next (setPort s die.val (fun x => { x with dieTime := t.toNat, dieAt := now s }))

/-- R442, R550: the port cell enters fallback: dividers at SAFE_N or lower, ballast 0, the intents it holds presented as
franks, the counts 0. -/
def portFallback (s : State) (d : Nat) : State :=
  let held := ((List.range 64).map (fun q => (tabGet [] (portOf s d).out q).map (fun t => (q, t, 0)))).flatten
  let down := fun (x : PortSt) => ((List.range 32).filter (fun p => bitOf (tabGet 0 x.divider p) 5)).foldl (fun t p => tabSet 128 t p (min (tabGet 128 x.divN p) (safeN s p))) x.divN
  setPort s d (fun x =>
    { x with
      fallback := true, level := [], out := [], franks := x.franks + held.length, divN := down x,
      frank := match held.getLast? with
        | some f => some f
        | none => x.frank })

/-- R441: the port cell declares a down-lane failure; `lane` is the working up lane on which DOWN_LOSS goes out, none where neither works. -/
def execDownLaneFailure (die : DieIx) (lane : Option (Fin 2)) (s : State) : Result :=
  let s := match lane with
    | some l => upSend s die.val l.val 5 0x3F (0x20 * 2 ^ 32)
    | none => s
  .next (setPort (portFallback s die.val) die.val (fun x => { x with trained := false }))

/-- DOWN_LOSS reaches the BX1200 on any working up lane. -/
def execDownLoss (die : DieIx) (s : State) : Result :=
  let s := wireDrop s (fun m => m.die == die.val && m.lane != laneDown && m.typ == 5 && m.data / 2 ^ 32 == 0x20)
  if dieUp s die.val then .next (dieFallback s die.val) else .next s

/-- MODE FALLBACK and MODE RESUME at the port cell. -/
def execFallback (die : DieIx) (s : State) : Result := .next (portFallback (wireTake s die.val laneDown 7 0x3F) die.val)

def execResume (die : DieIx) (s : State) : Result :=
  .next (setPort (wireTake s die.val laneDown 7 0x3F) die.val (fun x => { x with fallback := false }))

/-! ## Lane 0 at the BX1200 -/

/-- R429, R543: a FACK confirms N; a forced frank may follow it. -/
def fackTake (s : State) (p n : Nat) : State :=
  let s := setPart s p (fun x => { x with nCur := n, sent := if x.sent = some n then none else x.sent, tries := 0 })
  let s := { s with fq := { s.fq with franks := s.fq.franks.map (fun k =>
    if k.part = p ∧ k.waitFack ∧ n ≤ aF s (Reg.FQ_PCFG p) F.FQ_PCFG_FORCE_N then { k with waitFack := false, launch := max k.launch (now s) } else k) } }
  holdUpdate s p

def execFack (die : DieIx) (seq : Fin 64) (part : PartIx) (n : Fin 2048) (_stamp : BitVec 24) (s : State) : Result :=
  .next (lane0 s die.val seq.val 3 part.val (fun s =>
    if partHere s part.val ∧ partDie s part.val = die.val then fackTake s part.val n.val else s))

/-- R416, R417: a site minimum. -/
def execVmin (die : DieIx) (seq : Fin 64) (site : SiteIx) (v : BitVec 16) (stamp : BitVec 24) (s : State) : Result :=
  let d := die.val
  let n := site.val
  .next (lane0 s d seq.val 4 n (fun s =>
    if siteHere s d n ∧ !(flag s (Reg.PB_SMIN d n) F.PB_SMIN_VALID ∧ fld s (Reg.PB_SMIN d n) F.PB_SMIN_VALUE ≤ v.toNat) then
      wr64 (wrN s (Reg.PB_SMIN d n) (v.toNat + 2 ^ 31)) (Reg.PB_SMIN_TS_LO d n) (stampTime s d stamp.toNat)
    else s))

/-- R423: a CFG_ACK ends the resends of its CFG. -/
def execCfgAck (die : DieIx) (seq : Fin 64) (index : Fin 256) (addr : Fin 64) (s : State) : Result :=
  .next (lane0 s die.val seq.val 5 0x3F (fun s =>
    maybeResume (setDie s die.val (fun x => { x with cfgs := x.cfgs.eraseP (fun c => c.index == index.val && c.addr == addr.val) })) die.val))

/-- Every present site of a die has its core domain on, as last reported. -/
def dieCoreOn (s : State) (d : Nat) : Bool := (sitesOf s d).all (fun n => !(siteOf s d n).coreOffBx)

def execCoreOff (die : DieIx) (seq : Fin 64) (site : SiteIx) (s : State) : Result :=
  .next (lane0 s die.val seq.val 5 site.val (fun s =>
    setDie (setSite s die.val site.val (fun x => { x with coreOffBx := true, calOkBx := false })) die.val (fun x => { x with coreOn := false })))

def execCoreOn (die : DieIx) (seq : Fin 64) (site : SiteIx) (s : State) : Result :=
  .next (lane0 s die.val seq.val 5 site.val (fun s =>
    let s := setSite s die.val site.val (fun x => { x with coreOffBx := false })
    setDie s die.val (fun x => { x with coreOn := dieCoreOn s die.val })))

def execCalOk (die : DieIx) (seq : Fin 64) (site : SiteIx) (s : State) : Result :=
  .next (lane0 s die.val seq.val 5 site.val (fun s => setSite s die.val site.val (fun x => { x with calOkBx := true })))

/-- R446: the site entry carries the site in UNIT and the status code in ARG. -/
def siteEntry (s : State) (d n code : Nat) : State := record s .control 0x0A 0x05 (64 * d + n) code (now s) 0

def execCalFail (die : DieIx) (seq : Fin 64) (site : SiteIx) (s : State) : Result :=
  .next (lane0 s die.val seq.val 5 site.val (fun s =>
    let s := setSite s die.val site.val (fun x => { x with calFail := true, calOk := false, calOkBx := false })
    siteEntry (raise s (Reg.PB_DIE_EVENT die.val) F.PB_DIE_EVENT_CAL_FAIL) die.val site.val 0x10))

def execSiteFault (die : DieIx) (seq : Fin 64) (site : SiteIx) (s : State) : Result :=
  .next (lane0 s die.val seq.val 5 site.val (fun s =>
    siteEntry (raise s (Reg.PB_DIE_EVENT die.val) F.PB_DIE_EVENT_SITE_FAULT) die.val site.val 0x11))

/-! ## Lane 1 at the BX1200 -/

/-- The extreme of a quantity over the present sites of a die, as a fabric word. -/
def dieExtreme (s : State) (d : Nat) (lo : Bool) (val : Nat → Int) : Int :=
  match sitesOf s d with
  | [] => 0
  | n :: t => t.foldl (fun a k => if lo then min a (val k) else max a (val k)) (val n)

/-- A site's margin as last reported. -/
def siteMargin (s : State) (d n : Nat) : Int := sext 16 (fld s (Reg.PB_SITE d n) F.PB_SITE_MARGIN)

/-- R357, R497, R498: a temperature report. -/
def execTemp (die : DieIx) (site : SiteIx) (t : BitVec 16) (_stamp : BitVec 24) (s : State) : Result :=
  let d := die.val
  let n := site.val
  let v := t.toInt
  .next (lane1 s d 9 n (fun s =>
    let s := setF s (Reg.PB_SITE d n) F.PB_SITE_TEMP t.toNat
    let s := setSrc s (0xA4 + d) (satI 24 (dieExtreme s d false (siteTemp s d) * 256))
    let s := meanAdd s (48 + d) (dieExtreme s d false (siteTemp s d))
    let s := if (critLevel s : Int) - 80 < v then setDie s d (fun x => { x with hotAt := now s + 1 }) else s
    let p := sitePartF (framesOf s) d n
    let s := if siteHere s d n ∧ partHere s p then
        let s := setCap s p (fun x => { x with tMax := some (match x.tMax with | some m => max m v | none => v) })
        let s := setCap s p (fun x => { x with coolFrom := if !x.guard || !partCool s p then none else if x.coolFrom.isSome then x.coolFrom else some (now s) })
        if guardLevel s p ≤ v then setCap s p (fun x => { x with guard := true, coolFrom := none }) else s
      else s
    if (critLevel s : Int) < v then thermalTrip s 0 d else s))

/-- R424: a critical-path margin. -/
def execCpm (die : DieIx) (site : SiteIx) (m : BitVec 16) (_stamp : BitVec 24) (s : State) : Result :=
  let d := die.val
  let n := site.val
  .next (lane1 s d 0xA n (fun s =>
    let s := setF s (Reg.PB_SITE d n) F.PB_SITE_MARGIN m.toNat
    setSrc s (0xA8 + d) (satI 24 (dieExtreme s d true (siteMargin s d) * 256))))

/-- R506, R507, R510: extra time (1/16 ns) and events of a site's stretches. -/
def execStretch (die : DieIx) (site : SiteIx) (extra : BitVec 20) (events : BitVec 12) (s : State) : Result :=
  let d := die.val
  let n := site.val
  .next (lane1 s d 0xB n (fun s =>
    let f := framesOf s
    let p := sitePartF f d n
    let k := (partSitesF f p).length
    if siteHere s d n ∧ acctOn s p ∧ 0 < k then
      let s := reasonCount s p 4 events.toNat
      let s := reasonTime s p 4 (extra.toNat * siteLcm / k)
      lostStr s p (extra.toNat * curN s p * partFmaxF f p * siteLcm / k)
    else s))

/-- R559: ballast energy of a site; the first report after training sets only the base. -/
def execBale (die : DieIx) (site : SiteIx) (e : BitVec 40) (s : State) : Result :=
  let d := die.val
  let n := site.val
  .next (lane1 s d 0xC n (fun s =>
    let p := sitePartF (framesOf s) d n
    let old := (siteOf s d n).eBase
    let s := setSite s d n (fun x => { x with eBase := some e.toNat, baleGap := false })
    match old with
    | some b =>
      if siteHere s d n ∧ partHere s p then
        let k := (e.toNat + 2 ^ 40 - b) % 2 ^ 40
        let s := wr64 s (Reg.BAL_E_LO p) ((rd64 s (Reg.BAL_E_LO p) + k) % 2 ^ 64)
        wr64 s Reg.BAL_ETOT_LO ((rd64 s Reg.BAL_ETOT_LO + k) % 2 ^ 64)
      else s
    | none => s))

/-! ## The down lane at the port cell -/

/-- R398: the divider switches to N and the port cell answers with FACK. -/
def execFreq (die : DieIx) (part : PartIx) (n : Fin 2048) (s : State) : Result :=
  let d := die.val
  let s := wireTake s d laneDown 1 part.val
  let s := setPort s d (fun x => { x with divN := tabSet 128 x.divN part.val n.val })
  .next (upSend s d 0 3 part.val (n.val * 2 ^ 29 + stampOf s d))

/-- R551: a ballast level. -/
def execBal (die : DieIx) (part : PartIx) (level : Fin 256) (s : State) : Result :=
  let s := wireTake s die.val laneDown 2 part.val
  .next (setPort s die.val (fun x => { x with level := tabSet 0 x.level part.val level.val }))

/-- R530: a frank at the port cell: presented where FSEQ is the next expected, else a duplicate. -/
def frankTake (x : PortSt) (q value : Nat) : PortSt :=
  if value / 2 ^ 8 % 16 = tabGet 0 x.fseq q then
    { x with fseq := tabSet 0 x.fseq q ((tabGet 0 x.fseq q + 1) % 16), frank := some (q, value / 2 ^ 12 % 4096, value / 2 ^ 6 % 4),
             franks := x.franks + 1, out := tabSet [] x.out q ((tabGet [] x.out q).drop 1) }
  else x

/-- R419: one CFG at the port cell (Table 8.12); an index or address that the table does not allow changes nothing. -/
def cfgApply (x : PortSt) (index addr value : Nat) : PortSt :=
  if index = 1 then { x with site := tabSet 0 x.site addr (value % 2 ^ 19) }
  else if index = 2 ∧ addr = 0x3F then { x with stretch := value % 2 ^ 12 }
  else if index = 3 ∧ addr = 0x3F then { x with report := value % 2 ^ 16 }
  else if index = 4 ∧ addr = 0x3F then { x with trip := some (value % 2 ^ 12) }
  else if index = 5 ∧ addr < 32 then { x with divider := tabSet 0 x.divider addr (value % 2 ^ 6) }
  else if index = 6 ∧ addr = 0x3F then { x with siteDly := value % 2 ^ 16 }
  else if 0x80 ≤ index ∧ index < 0xC0 ∧ addr = 0x3F then frankTake x (index - 0x80) value
  else x

/-- R419, R530: a CFG reaches the port cell, which acknowledges every one. -/
def execCfg (die : DieIx) (index : Fin 256) (addr : Fin 64) (value : BitVec 24) (s : State) : Result :=
  let d := die.val
  let s := wireDrop s (fun m => m.die == d && m.lane == laneDown && m.typ == 4 && m.addr == addr.val && m.data / 2 ^ 32 == index.val)
  let s := setPort s d (fun x => cfgApply x index.val addr.val value.toNat)
  .next (statusSend s d 0x3F 0x01 (index.val * 2 ^ 24 + addr.val * 2 ^ 16))

/-- R405: ARM and DISARM at the port cell. -/
def execArm (die : DieIx) (s : State) : Result :=
  .next (setPort (wireTake s die.val laneDown 5 0x3F) die.val (fun x => { x with armed := true }))

def execDisarm (die : DieIx) (s : State) : Result :=
  .next (setPort (wireTake s die.val laneDown 5 0x3F) die.val (fun x => { x with armed := false }))

/-- R420: the port cell resends up lane 0 from the named SEQ, in order. -/
def execNak (die : DieIx) (seq : Fin 64) (s : State) : Result :=
  let s := wireTake s die.val laneDown 6 0x3F
  let h := (portOf s die.val).hist
  if h.any (fun m => m.seq == seq.val) then
    let l := (h.reverse.dropWhile (fun m => m.seq != seq.val))
    .next { s with pb := { s.pb with wire := s.pb.wire ++ l } }
  else .next s

/-- R424, R408: a port cell that is not in fallback sends a report of lane 1 (VREP 8, TEMP 9, CPM 0xA, STRETCH 0xB, BALE 0xC). STRETCH carries
what the site has counted; the others carry the site's reading. -/
def execReportInterval (die : DieIx) (site : SiteIx) (kind : Fin 5) (data : BitVec 40) (s : State) : Result :=
  let d := die.val
  let n := site.val
  if !(portOf s d).fallback ∧ sitePresent s d n then
    if kind.val = 3 then
      let s := stretchCount s d n
      let x := siteOf s d n
      let s := setSite s d n (fun x => { x with strExtra := 0, strEvents := 0 })
      .next (upSend s d 1 0xB n (min x.strExtra (2 ^ 20 - 1) * 2 ^ 20 + min x.strEvents (2 ^ 12 - 1) * 2 ^ 8))
    else .next (upSend s d 1 (8 + kind.val) n data.toNat)
  else .next s

/-- R523, R524, R550: an INT_DATA word at the port cell: TYPE 1 an intent, TYPE 2 a hint. -/
def execIntDataWord (die : DieIx) (queue : QueueIx) (typ : Fin 4) (data : BitVec 40) (s : State) : Result :=
  let d := die.val
  let q := queue.val
  let x := portOf s d
  let tag := data.toNat / 2 ^ 19 % 4096
  if typ.val = 1 then
    if x.fallback then .next (setPort s d (fun x => { x with frank := some (q, tag, 0), franks := x.franks + 1 }))
    else if 32 ≤ (tabGet [] x.out q).length then .next s
    else .next (upSend (setPort s d (fun x => { x with out := tabSet [] x.out q (tabGet [] x.out q ++ [tag]) })) d 0 1 q data.toNat)
  else if typ.val = 2 ∧ !x.fallback then .next (upSend s d 0 2 q data.toNat)
  else .next s

/-! ## Resends and errors -/

/-- R493, R519: a FREQ may not be sent again: an upward step while a core of the partition is under restart, and any while its rail is not in
REG. The step then waits, as one that has not been sent. -/
def resendBarred (s : State) (p n : Nat) : Bool := !acctOn s p || (decide (curN s p < n) && coreHold s p)

/-- Franks that wait for a partition's FACK launch without it. -/
def frankNoFack (s : State) (p : Nat) : State :=
  { s with fq := { s.fq with franks := s.fq.franks.map (fun k =>
    if k.part = p ∧ k.waitFack then { k with waitFack := false, launch := max k.launch (now s) } else k) } }

/-- R422, R493, R519, R819: no FACK within 1 µs. -/
def execFreqResend (part : PartIx) (s : State) : Result :=
  let p := part.val
  let d := partDie s p
  match (partOf s p).sent with
  | none => .next s
  | some n =>
    let s := reach s ((partOf s p).sentAt + 1000)
    if resendBarred s p n then .next (frankNoFack (holdUpdate (setPart s p (fun x => { x with sent := none, tries := 0 })) p) p)
    else if (partOf s p).tries < 3 ∧ dieUp s d then
      let s := setPart s p (fun x => { x with tries := x.tries + 1, sentAt := now s })
      .next (bump (plSend s d 1 p (n * 2 ^ 29)) (Reg.PB_ERR_CNT d) F.PB_ERR_CNT_RESENDS)
    else
      let s := setPart s p (fun x => { x with sent := none, tries := 0 })
      .next (frankNoFack (raise s (Reg.PB_DIE_EVENT d) F.PB_DIE_EVENT_FACK_TIMEOUT) p)

/-- R423, R564: a CFG (or frank) that awaits its CFG_ACK is sent again. -/
def execCfgResend (die : DieIx) (index : Fin 256) (addr : Fin 64) (s : State) : Result :=
  let d := die.val
  match (dieOf s d).cfgs.find? (fun c => c.index == index.val && c.addr == addr.val) with
  | none => .next s
  | some c =>
    let s := bump (plSend s d 4 c.addr (c.index * 2 ^ 32 + c.value * 2 ^ 8)) (Reg.PB_ERR_CNT d) F.PB_ERR_CNT_RESENDS
    .next (if 0x80 ≤ c.index then raise (bump s Reg.FQ_CNT2 F.FQ_CNT2_RESENDS) Reg.FQ_EVENT F.FQ_EVENT_RESEND else s)

/-- R420, R421, R440: an up-lane message with a CRC error, or (on lane 0) a SEQ gap, is discarded. -/
def postlineBad (s : State) (d lane : Nat) (gap : Bool) : State :=
  if dieUp s d then
    let s := wireDrop s (fun m => m.die == d && m.lane == lane)
    if gap then (if lane = 0 then nakSend (raise s (Reg.PB_DIE_EVENT d) F.PB_DIE_EVENT_SEQ_GAP) d else s)
    else
      let s := bump (raise s (Reg.PB_DIE_EVENT d) F.PB_DIE_EVENT_CRC) (Reg.PB_ERR_CNT d) F.PB_ERR_CNT_CRC
      let s := setDie s d (fun x => { x with crcTimes := (now s :: x.crcTimes).take 16 })
      let s := if lane = 0 then nakSend s d else s
      let s := boundaryFail s 9 d 0
      let ts := (dieOf s d).crcTimes
      if ts.length = 16 ∧ now s ≤ ts.getLastD 0 + 10000 then laneFailure s d else s
  else s

def execPostlineCrcError (die : DieIx) (lane : Fin 2) (gap : Bool) (s : State) : Result := .next (postlineBad s die.val lane.val gap)

end Sys2Proof.Machine
end

