-- ==== Sys2Proof/Machine/Image.lean ====
section
/-! DEFINITION. Commands of the image loader and the configuration banks (ch. 4): held loads, the fetch and the checks, tick application,
REFILL, the scrubber and the frame digest table. -/

namespace Sys2Proof.Machine

open Host

/-! ## Loading (R162, R214, R237) -/

/-- A GO refused while another load, pending application, refill or fuse operation runs: its result is reported and the running load
stays as it is. -/
def imageRefused (s : State) (result : Nat) : State :=
  let s := wrN (setF s Reg.SEC_IMG_STATUS F.SEC_IMG_STATUS_RESULT result) Reg.SEC_IMG_FAIL_INFO 0xFFFF0000
  record s .mgmt 0x04 0x01 0 result 0xFFFF0000 0

/-- Whether the image is a full one, where that is known as its load begins: `told` says so of an image in host memory, whose header
the BX1200 has yet to fetch (log entry 35). -/
def imageKind (s : State) (told : Option Bool) : Option Bool :=
  let src := fld s Reg.SEC_IMG_SRC F.SEC_IMG_SRC_SRC
  let at_ := rd64 s Reg.SEC_IMG_ADDR_LO
  if src = 1 ∧ srcOk 1 at_ 64 then some (leAt (memRead s (sramSize + at_) 64) 0x0C 1 == 0)
  else if src = 2 ∧ srcOk 2 at_ 64 then some (leAt (memRead s at_ 64) 0x0C 1 == 0)
  else told

/-- R218, R81: checks 1–3 have passed and the load has begun: a full one cancels every pending commit. -/
def imageBegun (s : State) (full : Option Bool) : State :=
  let s := if full = some true then cancelAllCommits s else s
  { s with img := { s.img with begun := full.isSome, partial_ := full == some false, restarted := none } }

/-- Checks 1–5 of Table 4.7, then the fetch begins. -/
def imageBegin (s : State) (told : Option Bool) : State :=
  let src := fld s Reg.SEC_IMG_SRC F.SEC_IMG_SRC_SRC
  let len := (rd s Reg.SEC_IMG_LEN).toNat
  if !flag s Reg.TOP_SUPPLY F.TOP_SUPPLY_SEC_OK then loadEnd s 0x12 0 0xFFFF
  else if flag s Reg.TOP_SUPPLY F.TOP_SUPPLY_STRAP_ERR then loadEnd s 0x13 0 0xFFFF
  else if s.sec.run.isSome then loadEnd s 0x11 0 0xFFFF
  else
    let s := imageBegun s (imageKind s told)
    if ¬(s.top.state = .decaf ∨ s.top.state = .loaded ∨ s.top.state = .ramp ∨ s.top.state = .run) then loadEnd s 0x10 0 0xFFFF
    else if ¬(432 ≤ len ∧ len ≤ 294912 ∧ len % 16 = 0) ∨ !srcOk src (rd64 s Reg.SEC_IMG_ADDR_LO) len then loadEnd s 0x21 0 0xFFFF
    else
      let s := wrN (setF s Reg.SEC_IMG_STATUS F.SEC_IMG_STATUS_RESULT 1) Reg.SEC_IMG_FAIL_INFO 0xFFFF0000
      { s with img := { s.img with phase := .fetch, bytes := [], heldFor := none } }

/-- R214, R162: SEC_IMG_CTL is written with GO by `who`, which TOP_COMMIT_OWNER selects. -/
def imageGo (s : State) (who : Initiator) (told : Option Bool) : State :=
  if s.img.phase ≠ .idle then
    if !flag s Reg.TOP_SUPPLY F.TOP_SUPPLY_SEC_OK then imageRefused s 0x12
    else if flag s Reg.TOP_SUPPLY F.TOP_SUPPLY_STRAP_ERR then imageRefused s 0x13
    else imageRefused s 0x11
  else if !flag s Reg.TOP_SUPPLY F.TOP_SUPPLY_NVS_READY then
    setF { s with img := { s.img with phase := .held, heldFor := some who, bytes := [], partial_ := false } }
      Reg.SEC_IMG_STATUS F.SEC_IMG_STATUS_RESULT 1
  else imageBegin s told

/-- R237: SEC_IMG_CTL is written with ABORT. -/
def imageAbort (s : State) : State := pendRefresh (loadAbort s 0x15)

/-- R162: the scan has finished and a held load begins; `full` is the kind of an image in host memory. -/
def execHeldLoadBegin (full : Bool) (s : State) : Result :=
  if s.img.phase = .held ∧ flag s Reg.TOP_SUPPLY F.TOP_SUPPLY_NVS_READY then .next (imageBegin s (some full)) else .next s

/-- R239, checks 6–14: the fetch ends. A full load whose kind was not known as it began cancels every pending commit now (R81, R218). -/
def execImageFetchDone (got : Fetched) (s : State) : Result :=
  if s.img.phase = .fetch then
    let len := (rd s Reg.SEC_IMG_LEN).toNat
    match fetchTake s (fld s Reg.SEC_IMG_SRC F.SEC_IMG_SRC_SRC) (rd64 s Reg.SEC_IMG_ADDR_LO) len got with
    | none => .next (loadEnd (fetchAer s (fld s Reg.SEC_IMG_SRC F.SEC_IMG_SRC_SRC) got) 0x20 0 0xFFFF)
    | some b =>
      let full := leAt b 0x0C 1 == 0
      let s := if full && !s.img.begun then cancelAllCommits s else s
      let s := setF { s with img := { s.img with bytes := b, partial_ := leAt b 0x0C 1 == 1 } }
        Reg.SEC_IMG_STATUS F.SEC_IMG_STATUS_PARTIAL (b2n (leAt b 0x0C 1 == 1))
      match headerChecks s b len with
      | some (r, i, o) => .next (loadEnd s r i o)
      | none => .next { s with img := { s.img with phase := .verify } }
  else .next s

/-- Checks 15–31, R219 and R220, R224 or R225. `shadowBad` names a frame whose CHECK no longer holds in the shadow bank (R219). -/
def imageVerify (s : State) (shadowBad : Option Nat) : State :=
  let b := s.img.bytes
  let at_ (p : LoadPhase) : State := { s with img := { s.img with phase := p } }
  let full := leAt b 0x0C 1 == 0
  if !keyOk s b (sigOff b) then loadEnd s 0x30 0 0xFFFF
  else if !sigOk b (sigOff b) (sigOff b + 0x80) then loadEnd s 0x31 0 0xFFFF
  else if leAt b 0x14 2 < thermo s.sec.fuse.imgRb then loadEnd s 0x32 0 0xFFFF
  else match parseChecks s b with
    | some (r, i, o) => loadEnd (at_ .parse) r i o
    | none => match (if full then none else partialChecks s b) with
      | some (r, i, o) => loadEnd (at_ .check) r i o
      | none => match contentChecks s b shadowBad with
        | some (r, i, o) => loadEnd (at_ .check) r i o
        | none =>
          if full ∧ ¬(s.top.state = .decaf ∨ s.top.state = .loaded) then loadEnd (at_ .check) 0x10 0 0xFFFF
          else
            let l := imgFrames b
            let s := shadowWrite s l
            let tick := leAt b 0x20 8
            if full then applyFull s b
            else if tick = 0 then applyPartial s b 0
            else
              let s := { s with img := { s.img with phase := .pending, pendTick := tick, pendGroups := regionsMask (leAt b 0x16 2),
                                                    refillSlots := (structFrames l).map (fun (x : ImgFrame) => x.id) } }
              pendRefresh (setF s Reg.SEC_IMG_STATUS F.SEC_IMG_STATUS_RESULT 3)

def execImageVerifyDone (shadowBad : Option (Fin 248)) (s : State) : Result :=
  if s.img.phase = .verify then .next (imageVerify s (shadowBad.map (fun i => i.val))) else .next s

/-- R225: a pending partial image is applied at APPLY_TICK. Its CHECKs were recomputed before it became PENDING (R219; log entry 138). -/
def partialTick (s : State) : State :=
  if s.img.phase = .pending then
    let t := s.img.pendTick
    applyPartial (reach s t) s.img.bytes t
  else s

/-- R225: the time base reaches APPLY_TICK. -/
def execPartialImageTick (s : State) : Result := .next (partialTick s)

/-- R223: REFILL has copied the applied frames to the shadow bank. -/
def execRefillDone (s : State) : Result :=
  if s.img.phase = .refill then .next (shadowRefill { s with img := { s.img with phase := .idle, refillSlots := [] } }) else .next s

/-! ## The scrubber (R227–R234, Tables 4.8, 4.9) -/

/-- The 272 bytes of a slot. -/
def slotBytes (id : Nat) (b : BankSlot) : List Byte :=
  leBytes 2 id ++ leBytes 1 0 ++ leBytes 1 b.flags ++ leBytes 4 b.gen ++ leBytes 4 0 ++ leBytes 4 b.check
    ++ (if b.payload = [] then List.replicate 256 0 else b.payload)

/-- The bytes of a copy as the scrubber finds them: upsets have changed some. -/
def upsetBytes (b : List Byte) (l : List (Fin 272 × Byte)) : List Byte := l.foldl (fun b p => b.set p.1.val p.2) b

/-- The generation that a copy matches, where it matches one of the two recorded (ch. 4). -/
def copyMatch (e : DigestEntry) (b : List Byte) : Option Nat :=
  let g := leAt b 4 4
  let c := crc32c (b.take 12 ++ b.drop 16)
  if e.dbe then none
  else if g = e.gen then (if c = e.check then some g else none)
  else if g = e.prevGen ∧ c = e.prevCheck then some g
  else none

/-- Every bit that differs is a dead payload bit. -/
def deadOnly (e : DigestEntry) (a b : List Byte) : Bool :=
  (List.range 272).all (fun i =>
    let d := (a.getD i 0 ^^^ b.getD i 0).toNat
    d == 0 || (16 ≤ i && !e.allLive && d &&& (e.mask.getD (i - 16) 0).toNat == 0))

def bankNo (s : State) (active : Bool) : Nat := b2n (s.img.active1 == active)

/-- The slot of a bank takes the contents of the other bank's. -/
def slotFix (s : State) (id : Nat) (active : Bool) : State :=
  if s.img.active1 = active then { s with img := { s.img with bank1 := tabSet {} s.img.bank1 id (slotOf s.img.bank0 id) } }
  else { s with img := { s.img with bank0 := tabSet {} s.img.bank0 id (slotOf s.img.bank1 id) } }

def faultFrame (s : State) (id : Nat) (active : Bool) : State := wrN s Reg.TOP_CFG_FAULT_FRAME (id + 256 * bankNo s active)

/-- R233: a slot is uncorrectable. The banks, the digest table and the budget table keep their contents. -/
def uncorrectable (s : State) (id : Nat) : State :=
  let s := faultFrame (raise s Reg.TOP_CFG_EVENT F.TOP_CFG_EVENT_UNCORRECTABLE) id true
  let s := record s .mgmt 0x04 0x05 id 0 0 0
  haltActive { s with img := { s.img with applied := false, scrubOn := false } }

/-- Table 4.9: the consequence of an active live fault. -/
def liveFault (s : State) (id : Nat) : State :=
  let f := framesOf s
  match regionOfFrame id with
  | 1 =>
    let qs := if id = 0x11 then (List.range 16).filter (quadUsed f) else []
    let cs := if id = 0x10 then rails s else (qs.map (fun q => railOfF f (quadChF f q))).eraseDups
    forEach cs s (fun s r => latchRail s 2 r 0)
  | 7 => { s with top := { s.top with ueParts := (s.top.ueParts ++ (parts s).filter (fun p => id == 0xA0 + p / 8)).eraseDups } }
  | 8 => if id ≠ 0xB0 then s else
    let s := fixedEnter { s with fq := { s.fq with schedFault := true } }
    { s with img := { s.img with cleanQueue := (s.img.cleanQueue ++ [id]).eraseDups } }
  | 9 => { s with img := { s.img with domStale := true } }
  | 10 => if id = 0xE0 then forEach (lanes.filter (fun n => laneRole s n != 0 && (laneOf s n).state != .disabled)) s laneWait else s
  | 11 => forEach ((regions s).filter (fun k => id == 0xE8 + k / 16)) s regionRestart
  | 0 => haltActive s
  | 2 => haltActive s
  | r =>
    let d := r - 3
    if dieHere s d then
      let s := if (dieOf s d).link = .fallback then s else dieFallback (if dieUp s d then plSend s d 7 0x3F (2 ^ 32) else s) d
      let s := setDie s d (fun x => { x with liveFault := true })
      { s with img := { s.img with cleanDie := (s.img.cleanDie ++ [id]).eraseDups } }
    else s

/-- A scrub pass finds a frame matching in both banks (Table 4.9). -/
def slotClean (s : State) (id : Nat) : State :=
  let s := { s with img := { s.img with cleanDie := s.img.cleanDie.filter (fun i => i != id), cleanQueue := s.img.cleanQueue.filter (fun i => i != id) } }
  let s := if s.img.cleanQueue = [] then { s with fq := { s.fq with schedFault := false } } else s
  let d := regionOfFrame id - 3
  if 0x60 ≤ id ∧ id < 0xA0 ∧ !s.img.cleanDie.any (fun i => regionOfFrame i == d + 3) then setDie s d (fun x => { x with liveFault := false }) else s

/-- R231: one slot is compared; `up` and `us` are the bytes that upsets have changed in the active and the shadow copy. -/
def scrubSlot (s : State) (id : Nat) (up us : List (Fin 272 × Byte)) : State :=
  let e := tabGet {} s.img.digest id
  let a0 := slotBytes id (slotOf (if s.img.active1 then s.img.bank1 else s.img.bank0) id)
  let b0 := slotBytes id (slotOf (if s.img.active1 then s.img.bank0 else s.img.bank1) id)
  let a := upsetBytes a0 up
  let b := upsetBytes b0 us
  if e.dbe then uncorrectable s id
  else if a = b then (if (copyMatch e a).isSome then slotClean s id else s)
  else
    let benign (s : State) (active : Bool) : State :=
      let s := bump (raise s Reg.TOP_CFG_EVENT F.TOP_CFG_EVENT_BENIGN) Reg.TOP_CFG_BENIGN_CNT F.TOP_CFG_BENIGN_CNT_COUNT
      record s .mgmt 0x04 0x02 id (bankNo s active) 0 0
    let active (s : State) : State :=
      let s := bump (raise s Reg.TOP_CFG_EVENT F.TOP_CFG_EVENT_ACTIVE_FAULT) Reg.TOP_CFG_REPAIR_CNT F.TOP_CFG_REPAIR_CNT_ACTIVE
      liveFault (record (faultFrame s id true) .mgmt 0x04 0x04 id (bankNo s true) 0 0) id
    match copyMatch e a, copyMatch e b with
    | some ga, some gb =>
      if gb < ga then bump (slotFix s id false) Reg.TOP_CFG_REFILL_CNT F.TOP_CFG_REFILL_CNT_COUNT
      else if ga < gb then active (slotFix s id true)
      else uncorrectable s id
    | some _, none =>
      let s := if b = b0 then slotFix s id false else s
      if deadOnly e a b then benign s false
      else
        let s := bump (raise s Reg.TOP_CFG_EVENT F.TOP_CFG_EVENT_SHADOW_REPAIR) Reg.TOP_CFG_REPAIR_CNT F.TOP_CFG_REPAIR_CNT_SHADOW
        record (faultFrame s id false) .mgmt 0x04 0x03 id (bankNo s false) 0 0
    | none, some _ =>
      let s := if a = a0 then slotFix s id true else s
      if deadOnly e a b then benign s true else active s
    | none, none => uncorrectable s id

/-- R227: the scrubber runs in this device state. -/
def scrubs (s : State) : Bool :=
  s.img.scrubOn && s.img.applied && (match s.top.state with
    | .loaded => true
    | .ramp => true
    | .run => true
    | .halt => true
    | .brownout => !s.top.brown.vauxFell
    | _ => false)

/-- R227, R229: every 40 µs one slot. -/
def execScrubSlot (activeUpsets shadowUpsets : List (Fin 272 × Byte)) (s : State) : Result :=
  if scrubs s then
    let id := s.img.slot
    let s := { s with img := { s.img with slot := (id + 1) % 248 } }
    if (s.img.phase = .refill ∨ s.img.phase = .pending) ∧ s.img.refillSlots.contains id then .next s
    else .next (scrubSlot s id activeUpsets shadowUpsets)
  else .next s

/-- R241: a frame's entry of the digest table shows a double-bit error. -/
def execFrameDigestDbe (slot : Fin 248) (s : State) : Result :=
  let e : DigestEntry := tabGet {} s.img.digest slot.val
  let s := { s with img := { s.img with digest := tabSet {} s.img.digest slot.val { e with dbe := true } } }
  if s.img.applied then .next (uncorrectable s slot.val) else .next s

end Sys2Proof.Machine
end

