-- ==== Sys2Proof/Machine/Budget.lean ====
section
/-! DEFINITION. Commands of the budget epochs, the recorder arbiter and the active copies (ch. 1). -/

namespace Sys2Proof.Machine
open Host

/-! ## Budget epochs -/

/-- R78, R238: what is due no later than a tick takes effect before it, by tick: a pending partial image ahead of the commits of its own
tick. -/
def commitsDue : Nat → Nat → State → State
  | 0, _, s => s
  | n + 1, t, s =>
    let first := (s.top.commits.map (fun c => c.tick)).min?
    if s.img.phase = .pending ∧ s.img.pendTick ≤ t ∧ first.all (fun x => decide (s.img.pendTick ≤ x)) then commitsDue n t (partialTick s)
    else if first.any (fun x => decide (x ≤ t)) then commitsDue n t (commitTick s)
    else s

/-- R63, R64, R78: the commit tick of the next budget epoch. -/
def execBudgetEpochTick (s : State) : Result :=
  if s.img.applied ∧ s.tb.running then
    let e := max (s.bt.last + 1) (now s / 1000000)
    let s := commitsDue (s.top.commits.length + 1) (e * 1000000) s
    .next (btTick (reach s (e * 1000000)) e)
  else .next s

/-- R65: eight consecutive stale epochs. -/
def execStaleEpochFloors (s : State) : Result :=
  if 8 ≤ s.bt.stale then .next { s with bt := { s.bt with floors := true } } else .next s

/-! ## The recorder arbiter (R68–R71) -/

/-- R70: a plane's firmware or hardware produces a record; SEQ and the plane bits are the arbiter's. -/
def execRecordProduce (plane : Plane) (e : Entry) (s : State) : Result :=
  .next (record s plane (e.cls % 256) (e.typ % 256) e.unit e.arg e.value e.value2 (e.flags / 4 % 8 * 4))

/-- R68, R69: one grant of the arbiter. -/
def execArbiterGrant (s : State) : Result := .next (grantCycle s)

/-- R71: a queue that dropped records has room. -/
def execLossRecord (plane : Plane) (s : State) : Result := .next (placeLoss s plane)

end Sys2Proof.Machine
end

