-- ==== Sys2Proof/Machine/Capping.lean ====
section
/-! DEFINITION. Commands of power capping and throttle accounting (ch. 10) and of upward frequency steps (ch. 8). -/

namespace Sys2Proof.Machine

open Host

/-- R492, R506, R507: the reasons that bind accrue 1 µs, and an event where they did not bind before. -/
def accrueReasons (s : State) (p bind old : Nat) : State :=
  forEach (maskBits 16 bind) s (fun s r =>
    let s := if bitOf old r then s else reasonCount s p r 1
    reasonTime s p r (1000 * durUnit))

/-- R556: THERMAL binds: the ballast level is 0. -/
def thermRelease (s : State) (p : Nat) : State :=
  if thermBinds s p ∧ (balOf s p).level ≠ 0 then raise (balZero s p) Reg.BAL_EVENT F.BAL_EVENT_RELEASE_THERM else s

/-- One evaluation of a partition whose rail is in REG. -/
def evalPart (s : State) (p : Nat) : State :=
  let bind := capBind s p
  let tgt := capTarget s p
  let req := capReq s p
  let old := fld s (Reg.CAP_BIND p) F.CAP_BIND_BIND
  let s := accrueReasons s p bind old
  let s := wrN s (Reg.CAP_BIND p) bind
  let s := wrN s (Reg.CAP_DUTY p) (dutyOf s p 1024)
  let s := setPart s p (fun x => { x with nTgt := tgt })
  let s := if curN s p < req then lostThr s p ((req - curN s p) * partFmaxF (framesOf s) p) else s
  let s := if capLocked s p then wrN s (Reg.CAP_PROP p) ((capProp s p).1 + (capProp s p).2 * 2 ^ 16) else s
  let s := if capLocked s p then gthrotCheck s p else s
  holdUpdate (stepDown (thermRelease s p) p) p

/-- R490, R496: the sums of the present millisecond. -/
def sumPower (s : State) : State :=
  let s := forEach (parts s) s (fun s p =>
    let s := setSrc s (0xC0 + p) (satI 24 (partI s p))
    setCap s p (fun x => { x with pSum := x.pSum + partP s p, pCnt := x.pCnt + 1 }))
  let o := (((rails s).filter (fun r => (railParts s r).isEmpty)).map (railPow s)).sum
  { s with cap := { s.cap with otherSum := s.cap.otherSum + o, otherCnt := s.cap.otherCnt + 1 } }

/-- R490–R493, R502: the 1 µs evaluation. -/
def execTargetEvaluation (s : State) : Result :=
  let s := sumPower s
  let s := forEach ((parts s).filter (acctOn s)) (pmRefresh s) evalPart
  .next (pinAll s)

/-- R428, R431, R493, R494: one upward step, FSTEP_T after the one before. -/
def execFreqStepSend (part : PartIx) (s : State) : Result :=
  let p := part.val
  if stepUpOk s p ∧ curN s p < (partOf s p).nTgt then
    let s := reach s ((partOf s p).lastUp + aF s (Reg.PB_PART_CFG p) F.PB_PART_CFG_FSTEP_T * 20)
    let s := setPart s p (fun x => { x with lastUp := now s })
    .next (freqSend s p (min (curN s p + aF s (Reg.PB_PART_CFG p) F.PB_PART_CFG_FSTEP) (partOf s p).nTgt))
  else .next s

/-- The active copies as the pending tick commits, and the domain commits of the partition's lock group, up to a tick would leave them. -/
def tickState (s : State) (p t : Nat) : State :=
  let v := forEach (s.top.commits.filter (fun c => decide (c.tick ≤ t))) s (fun v c => { v with active := commitActive v c.mask c.snap })
  forEach (s.dom.commits.filter (fun c => c.group == partGroupF (framesOf s) p && decide (c.tick ≤ t))) v (fun v c =>
    wrAc v (Reg.CAP_GCEIL p) (putFld (ac v (Reg.CAP_GCEIL p)) F.CAP_GCEIL_N c.n))

/-- The earliest tick at which commits change the partition's target, with the copies they leave. -/
def tickView (s : State) (p : Nat) : Option (Nat × State) :=
  let ts := s.top.commits.map (fun c => c.tick) ++ (s.dom.commits.filter (fun c => c.group == partGroupF (framesOf s) p)).map (fun c => c.tick)
  match (ts.filter (fun t => capTarget (tickState s p t) p != (partOf s p).nTgt)).min? with
  | some t => some (t, tickState s p t)
  | none => none

/-- R430, R433: the first FREQ of the target change that a tick commit makes, sent to arrive at T − DIV_DLY. -/
def execTickFreqSend (part : PartIx) (s : State) : Result :=
  let p := part.val
  let d := partDie s p
  match tickView s p with
  | none => .next s
  | some (t, v) =>
    let n := capTarget v p
    if acctOn s p ∧ n ≠ (partOf s p).nTgt ∧ (partOf s p).tickAt ≠ some t then
      let s := reach s (t - (dieDivDlyF (framesOf s) d + fld s (Reg.PB_LAT d) F.PB_LAT_L_DOWN) / 16)
      let s := setPart s p (fun x => { x with tickAt := some t, tickN := n })
      if n < curN s p then .next (freqSend s p n)
      else if stepUpOk s p ∧ curN s p < n then
        let s := setPart s p (fun x => { x with lastUp := now s })
        .next (freqSend s p (min (curN s p + aF s (Reg.PB_PART_CFG p) F.PB_PART_CFG_FSTEP) n))
      else .next s
    else .next s

/-! ## Loops -/

/-- The three limits of the power loop, 1/8 W: ALLOC or FLOOR, the share of the board cap, and of the input-current cap. -/
def powLimits (s : State) (p : Nat) : List (Int × Nat) :=
  let w := aF s (Reg.CAP_PWR_CFG p) F.CAP_PWR_CFG_WEIGHT
  let ws := max ((parts s).map (fun q => aF s (Reg.CAP_PWR_CFG q) F.CAP_PWR_CFG_WEIGHT)).sum 1
  let a : Int := if floorsOn s then fldOf (actLocal s p 0) ⟨16, 16⟩ else fldOf (actLocal s p 0) ⟨0, 16⟩
  let cap : Int := aF s Reg.CAP_BOARD F.CAP_BOARD_BOARD_CAP
  let iin : Int := aF s Reg.CAP_IIN F.CAP_IIN_IIN_LIM
  let inPow : Int := iin * (fld s Reg.LAD_VIN ⟨0, 16⟩ : Nat) * (aF s Reg.CAP_IIN F.CAP_IIN_EFF : Nat) / 512000
  [(a, 3)] ++ (if cap = 0 then [] else [(w * (cap - s.cap.pOther) / ws, 1)])
    ++ (if iin = 0 then [] else [(w * (inPow - s.cap.pOther) / ws, 11)])

/-- p_lim and the reason of the term that sets it; ties go to a, then s, then i. -/
def powLimit (s : State) (p : Nat) : Int × Nat :=
  match powLimits s p with
  | [] => (0, 3)
  | t :: l => l.foldl (fun a x => if x.1 < a.1 then x else a) t

/-- R496, R519 for one partition: n_pow stays while the rail is not in REG. With p_lim 0 the spec states no quotient: a free value stands for it. -/
def powStep (s : State) (p : Nat) : State :=
  let x := capOf s p
  let meas := x.pSum / (32000 * max x.pCnt 1 : Nat)
  let lim := powLimit s p
  let k : Int := aF s (Reg.CAP_PWR_CFG p) F.CAP_PWR_CFG_KPOW
  let q := if lim.1 = 0 then drawInt s else ((k * 1024 * (lim.1 - meas)).fdiv (64 * lim.1), s)
  let s := q.2
  let s := wrN (setCap s p (fun x => { x with pSum := 0, pCnt := 0 })) (Reg.CAP_PWR p) (satU 16 meas + satU 16 lim.1 * 2 ^ 16)
  if acctOn s p then
    let out := loopOut s p x.nPow (x.nPow + q.1)
    let s := setCap s p (fun x => { x with nPow := out.1, powTerm := lim.2 })
    { s with cap := { s.cap with powPin := tabSet 0 s.cap.powPin p out.2 } }
  else s

/-- R496, R519: the power loop of every present partition, at the next multiple of 1 ms. -/
def execPowerLoopUpdate (s : State) : Result :=
  let s := reach s ((now s + 999999) / 1000000 * 1000000)
  let s := { s with cap := { s.cap with pOther := s.cap.otherSum / (32000 * max s.cap.otherCnt 1 : Nat), otherSum := 0, otherCnt := 0, powPin := [] } }
  .next (forEach (parts s) s powStep)

/-- R497, R518, R519 for one partition: n_th stays while the rail is not in REG. -/
def thermStep (s : State) (p : Nat) : State :=
  let x := capOf s p
  let s := match x.tMax with
    | none => s
    | some t =>
      let d : Int := (aF s (Reg.CAP_THM_CFG p) F.CAP_THM_CFG_KTH : Nat) * ((aF s (Reg.CAP_THM_CFG p) F.CAP_THM_CFG_TTGT : Nat) - t) / 16
      let d := if (dieOf s (partDie s p)).tempStale then min d 0 else d
      let s := wrN s (Reg.CAP_TEMP p) (satS 16 t)
      if !acctOn s p then s else
      let out := loopOut s p x.nTh (x.nTh + d)
      let s := setCap s p (fun x => { x with nTh := out.1 })
      { s with cap := { s.cap with thPin := tabSet 0 s.cap.thPin p out.2 } }
  setCap s p (fun x => { x with tMax := none })

def execThermalLoopUpdate (s : State) : Result :=
  let s := reach s ((now s + 99999999) / 100000000 * 100000000)
  let s := { s with cap := { s.cap with thPin := [] } }
  .next (forEach (parts s) s thermStep)

/-- R498, R518: every site of the partition has reported at or below the release level for 1 ms. -/
def execThermalGuardRelease (part : PartIx) (s : State) : Result :=
  let p := part.val
  match (capOf s p).coolFrom with
  | some t =>
    if (capOf s p).guard ∧ !(dieOf s (partDie s p)).tempStale ∧ partCool s p then
      .next (setCap (pmRefresh (reach s (t + 1000000))) p (fun x => { x with guard := false, coolFrom := none }))
    else .next s
  | none => .next s

/-- R503: an instance has been pinned for CONT_T. -/
def execContention (inst : Fin 96) (s : State) : Result :=
  let i := inst.val
  let s := pinUpdate s i
  let t := tabGet 0 s.cap.pinFrom i
  if t ≠ 0 ∧ !s.cap.said.contains i then
    let s := pinUpdate (reach s (t - 1 + aF s Reg.CAP_CONT_CFG F.CAP_CONT_CFG_CONT_T * 1000000)) i
    let s := setF s (Reg.CAP_CONT (i / 32)) ⟨i % 32, 1⟩ 1
    let s := bump s Reg.CAP_CONT_CNT F.CAP_CONT_CNT_COUNT
    let s := record s .control 0x0C 0x01 i (instLimit s i).1 (instLimit s i).2 ((now s + 1 - t) / 1000000)
    .next { s with cap := { s.cap with said := s.cap.said ++ [i] } }
  else .next s

/-! ## Snapshots -/

/-- R512–R514: a CAP_SNAP_CTL_s word. -/
def snapWrite (s : State) (k : Nat) (val : Word) : State :=
  let p := fldOf val F.CAP_SNAP_CTL_PART
  if fldOf val F.CAP_SNAP_CTL_GO = 0 then s
  else if !partHere s p then setF s (Reg.CAP_SNAP_STATUS k) F.CAP_SNAP_STATUS_STATE 2
  else
    let seq := fld s (Reg.CAP_SNAP_STATUS k) F.CAP_SNAP_STATUS_SEQ
    let s := wr64 s (Reg.CAP_SNAP_TB_LO k) (now s)
    let s := wr64 s (Reg.CAP_SNAP_LOST_THR_LO k) (rd64 s (Reg.CAP_LOST_THR_LO p))
    let s := wr64 s (Reg.CAP_SNAP_LOST_STR_LO k) (rd64 s (Reg.CAP_LOST_STR_LO p))
    let s := forEach (List.range 16) s (fun s r =>
      let s := wr s (Reg.CAP_SNAP_CNT k r) (rd s (Reg.CAP_RCNT p r))
      wr64 s (Reg.CAP_SNAP_DUR_LO k r) (rd64 s (Reg.CAP_RDUR_LO p r)))
    let s := wrN s (Reg.CAP_SNAP_STATUS k) (1 + p * 2 ^ 8 + (seq + 1) % 2 ^ 16 * 2 ^ 16)
    if fldOf val F.CAP_SNAP_CTL_CLEAR = 1 then
      let s := forEach (List.range 16) s (fun s r => wr64 (wr s (Reg.CAP_RCNT p r) 0) (Reg.CAP_RDUR_LO p r) 0)
      wr64 (wr64 s (Reg.CAP_LOST_THR_LO p) 0) (Reg.CAP_LOST_STR_LO p) 0
    else s

end Sys2Proof.Machine
end

