-- ==== Sys2Proof/Machine/Domain.lean ====
section
/-! DEFINITION. Commands of a domain: C0 cells, heartbeats and failover, the budget epoch cycle, lock groups and membership (ch. 13). -/

namespace Sys2Proof.Machine
open Host

/-! ## C0 cells (R666–R668) -/

/-- R666: a HOLD cell. -/
def execHold (lane : LaneIx) (scope : Fin 4) (node : Fin 1024) (payload : BitVec 36) (ok : Bool) (s : State) : Result :=
  let c : Cell := { ctype := 1, scope := scope.val, node := node.val, payload := payload.toNat }
  let (s, loc) := cellReceive s lane.val c ok
  let g := c.payload % 64
  if loc ∧ !(groupParts s g).isEmpty then .next (holdStart s g (c.payload / 2 ^ 6 % 2 ^ 16)) else .next s

/-- R666: the duration of a HOLD ends. -/
def execHoldExpiry (group : Fin 64) (s : State) : Result :=
  let g := group.val
  let t := tabGet 0 s.dom.holds g
  if t = 0 then .next s
  else
    let s := reach s t
    let s := forEach (groupParts s g) s holdUpdate
    let s := setDom s (fun d => { d with holds := tabErase d.holds g })
    .next (forEach (groupParts s g) s (fun s p => holdUpdate (if partHeld s p then s else setPart s p (fun x => { x with upWait := false })) p))

/-- R663: the tick that APPLY names, from 1 µs before the arrival on. -/
def gthrotTick (s : State) (apply : Nat) : Nat :=
  let low := (now s - 1000 + 9) / 10
  (low + (apply + 8192 - low % 8192) % 8192) * 10

/-- R663: a GTHROT cell. -/
def execGthrot (lane : LaneIx) (scope : Fin 4) (node : Fin 1024) (payload : BitVec 36) (ok : Bool) (s : State) : Result :=
  let c : Cell := { ctype := 2, scope := scope.val, node := node.val, payload := payload.toNat }
  let (s, loc) := cellReceive s lane.val c ok
  if loc then
    .next (domStage s { group := c.payload % 64, n := c.payload / 2 ^ 6 % 2 ^ 11, reason := c.payload / 2 ^ 17 % 16,
                        tick := gthrotTick s (c.payload / 2 ^ 21 % 8192), cid := none, basis := 0 })
  else .next s

/-- R667: a TRIP cell. -/
def execTrip (lane : LaneIx) (scope : Fin 4) (node : Fin 1024) (payload : BitVec 36) (ok : Bool) (s : State) : Result :=
  let c : Cell := { ctype := 3, scope := scope.val, node := node.val, payload := payload.toNat }
  let (s, loc) := cellReceive s lane.val c ok
  if loc then
    let s := record (raise s Reg.DOM_EVENT F.DOM_EVENT_TRIP) .control 0x0F 0x03 node.val (c.payload % 16) s.dom.mepoch node.val
    .next (if s.dom.role = .master then setDom s (fun d => { d with tripped := node.val :: d.tripped.filter (fun n => n != node.val) }) else s)
  else .next s

/-- R668: a DROOP cell of the widened rail that the sender masters. -/
def execDroop (lane : LaneIx) (scope : Fin 4) (node : Fin 1024) (payload : BitVec 36) (ok : Bool) (s : State) : Result :=
  let c : Cell := { ctype := 4, scope := scope.val, node := node.val, payload := payload.toNat }
  let (s, loc) := cellReceive s lane.val c ok
  let r := c.payload % 8
  if loc ∧ 6 ≤ lane.val ∧ isRail s r ∧ wideRole s r = 2 ∧ widePos s r = lane.val - 6 then
    let s := setBoost s r (fun x => { x with memberFrz := true })
    .next (holdRail (setDom s (fun d => { d with droopHold := tabSet 0 d.droopHold r (now s + 1) })) r)
  else .next s

/-- R668: SETTLE after the last DROOP cell. -/
def execDroopCellFreezeEnd (rail : ChIx) (s : State) : Result :=
  let r := rail.val
  let last := tabGet 0 s.dom.droopHold r
  if (boostOf s r).memberFrz ∧ 0 < last then
    let s := holdRail (reach s (last - 1 + settleNs s r)) r
    let s := setBoost s r (fun x => { x with memberFrz := false })
    .next (holdRail (forEach (railParts s r) s (fun s p => if partHeld s p then s else setPart s p (fun x => { x with upWait := false }))) r)
  else .next s

/-! ## Roles and heartbeats (R628–R636) -/

/-- R629: CLAIM has lasted 300 µs. -/
def execClaimExpiry (s : State) : Result :=
  if s.dom.role = .claim then
    let s := becomeMaster (reach s (s.dom.claimAt + 300000)) 1
    .next (setDom s (fun d => { d with members := [ownNode s], standby := domStandbyF (framesOf s) }))
  else .next s

/-- R630: a heartbeat instant. -/
def execHeartbeatInstant (s : State) : Result :=
  let k := max (s.dom.hbSent + 1) (now s / 100000)
  if s.dom.role = .master then
    let s := setDom (reach s (k * 100000)) (fun d => { d with hbSent := k })
    let on := s.top.state == .loaded || s.top.state == .ramp || s.top.state == .run
    let wrote := decide (s.dom.mEpochs < 3) || s.dom.goEpochs.any (fun e => decide (s.bt.last ≤ e + 2))
    .next (if on && wrote then sendHeartbeat s else s)
  else .next s

/-- R631, R632: a heartbeat instant plus HB_LATE. -/
def execHeartbeatMissed (s : State) : Result :=
  let late := aF s Reg.DOM_HB_CFG F.DOM_HB_CFG_HB_LATE * 1000
  if domRoleNow s = .none_ ∨ s.dom.role = .master then .next s
  else
    let k := max (s.dom.hbDone + 1) ((now s - late) / 100000)
    let s := setDom (reach s (k * 100000 + late)) (fun d => { d with hbDone := k })
    if k ≤ s.dom.hbAt then .next s
    else
      let s := setDom s (fun d => { d with missed := d.missed + 1 })
      if s.dom.missed < 3 then .next s
      else
        let s := if s.dom.masterLost then s else raise (setDom s (fun d => { d with masterLost := true })) Reg.DOM_EVENT F.DOM_EVENT_MASTER_LOST
        .next (if foArmed s then takeover s else s)

/-- R635: a HEARTBEAT whose master epoch exceeds the node's. -/
def hbAdopt (s : State) (lane src epoch standby : Nat) : State :=
  let yields := s.dom.role == .master || s.dom.role == .claim
  let s := setDom s (fun d => { d with mepoch := epoch, master := src })
  let s := dueMark s 2
  if yields then
    let role : DomRole := if standby = 0xFFFF then .standby else .joining
    let s := setDom s (fun d => { d with role := role, upLane := some lane, rerooted := true, admitAt := none, noStandby := false })
    enterAcquire (raise (setTb s (fun t => { t with rateLimited := false })) Reg.DOM_EVENT F.DOM_EVENT_YIELD)
  else s

/-- R631, R635, R679: a HEARTBEAT arrives. -/
def execHeartbeat (lane : LaneIx) (src : Fin 1024) (epoch : Fin (2 ^ 32)) (standby mgen mem : Fin 65536) (s : State) : Result :=
  let s := takeRx s 0x0110
  if s.dom.role = .none_ ∨ epoch.val < s.dom.mepoch then .next s
  else
    let s := if s.dom.mepoch < epoch.val then hbAdopt s lane.val src.val epoch.val standby.val else s
    if s.dom.master ≠ src.val then .next (staleSrc s src.val)
    else
      let late := aF s Reg.DOM_HB_CFG F.DOM_HB_CFG_HB_LATE * 1000
      .next (setDom (pmRefresh s) (fun d => { d with missed := 0, masterLost := false, hbSeen := true, standby := standby.val, mgen := mgen.val,
                                                     hbMembers := mem.val, hbAt := (now s - late + 99999) / 100000 }))

/-! ## The budget epoch cycle (R643–R651) -/

/-- R644: the 1 ms mean P_p × req_p ÷ N_cur_p of a partition, 1/8 W, as numerator and denominator. -/
def partDemand (s : State) (p : Nat) : Nat × Nat := (fld s (Reg.CAP_PWR p) F.CAP_PWR_P * capReq s p, max (curN s p) 1)

/-- A demand of 1/8 W is rounded up and held to 1–65,535 (R644). -/
def demandHeld (num : Int) (den : Nat) : Nat := max 1 (min (-((-num).fdiv den)).toNat 65535)

/-- R644: a node's demand. -/
def nodeDemand (s : State) : Nat :=
  let q := (parts s).foldl (fun a p => let d := partDemand s p; (a.1 * d.2 + d.1 * a.2, a.2 * d.2)) ((0 : Nat), (1 : Nat))
  demandHeld (s.cap.pOther * q.2 + q.1) q.2

/-- R643, R644: at T_E − DEMAND_AT the node contributes its demand. -/
def execDemandReductionStart (s : State) : Result :=
  if takesPart s then
    let e := nextEpoch s
    let s := reach s (e * 1000000 - domCfg s F.DOM_EPOCH_CFG_DEMAND_AT * 1000)
    let d := if s.dom.role = .joining then 0 else nodeDemand s
    let own := ownNode s
    .next (forEach (List.range ((domNodesF (framesOf s) + 511) / 512)) s (fun s k =>
      let elems := (List.range 128).map (fun l => if own / 4 = 128 * k + l then sext 64 (d * 2 ^ (16 * (own % 4))) else 0)
      redAdd s none (own, 0) { rid := e % 2 ^ 24 * 256 + 0x10 + k, op := 0, elems := elems, contrib := 1, partial_ := false, from_ := [], loc := false, openAt := 0 }))
  else .next s

/-- The result that the master holds for a reduction. -/
def redResult (s : State) (rid : Nat) : Option RedSt := s.tvl.result.find? (fun r => r.rid == rid)

/-- The demand of node `n` in the reductions of epoch `e`; 0 where it is missing (R644, R676, R667). -/
def demandOf (s : State) (e n : Nat) : Nat :=
  if s.dom.tripped.contains n then 0
  else match redResult s (e % 2 ^ 24 * 256 + 0x10 + n / 512) with
    | some r => unsx 64 (r.elems.getD (n % 512 / 4) 0) / 2 ^ (16 * (n % 4)) % 2 ^ 16
    | none => 0

/-- R644: what the reserve holds for a missing member. -/
def reserveOf (s : State) (n : Nat) : Nat :=
  if tabGet 0 s.dom.miss n ≤ aF s Reg.DOM_ALLOC_CFG F.DOM_ALLOC_CFG_MISS_HOLD ∧ tabGet 0 s.dom.lastAlloc n ≠ 0 then tabGet 0 s.dom.lastAlloc n - 1
  else memberFloorF (framesOf s) n

/-- The reductions of an epoch have been read; those with PARTIAL are counted (R676). -/
def takeResults (s : State) (rids : List Nat) : State :=
  let got := s.tvl.result.filter (fun r => rids.contains r.rid)
  let s := bumpBy s Reg.DOM_CNT F.DOM_CNT_MISSING (got.filter (fun r => r.partial_)).length
  { s with tvl := { s.tvl with result := s.tvl.result.filter (fun r => !rids.contains r.rid) } }

/-- R645: the master's firmware computes the allocation of the epoch being filled, writes the buffer and ALLOC_GO. -/
def execAllocationCompute (s : State) : Result :=
  if domRoleNow s ≠ .master then .next s
  else
    let f := framesOf s
    let e := nextEpoch s
    let s := reach s (e * 1000000 - domCfg s F.DOM_EPOCH_CFG_ALLOC_AT * 1000)
    let mem := (List.range 1024).filter (fun n => s.dom.members.contains n)
    let dem := mem.map (fun n => (n, demandOf s e n))
    let s := setDom s (fun d => { d with miss := dem.foldl (fun t p => if p.2 = 0 then tabSet 0 t p.1 (tabGet 0 t p.1 + 1) else tabErase t p.1) d.miss })
    let res := (dem.filter (fun p => p.2 == 0)).map (fun p => (p.1, reserveOf s p.1))
    let budget := aF s Reg.DOM_BUDGET F.DOM_BUDGET_BUDGET
    let act := (dem.filter (fun p => p.2 != 0)).map (fun p => ({ id := p.1, floor := memberFloorF f p.1, demand := p.2, weight := memberWeightF f p.1 } : Want))
    let (sh, tight) := allocate (if budget = 0 then none else some (budget - (res.map (fun p => p.2)).sum)) act
    let all := sh.map (fun p => (p.1.id, p.2)) ++ res
    let total := max (all.map (fun p => p.2)).sum 1
    let ramp := aF s Reg.DOM_RAMP F.DOM_RAMP_RAMP
    let bm := aF s Reg.DOM_ALLOC_CFG F.DOM_ALLOC_CFG_BALLAST_MAX
    let entry := fun n => match all.find? (fun p => p.1 == n) with
      | some p => p.2 + memberFloorF f n * 2 ^ 16 + min (ramp * p.2 / total) 65535 * 2 ^ 32 + bm * 2 ^ 48 + 2 ^ 63
      | none => 0
    let s := if tight then raise s Reg.DOM_EVENT F.DOM_EVENT_OVERSUB else s
    let s := memWrite s 8 (ac s Reg.DOM_ABUF).toNat ((List.range 1024).flatMap (fun n => leBytes 8 (entry n)))
    let s := setDom s (fun d => { d with tripped := [], lastAlloc := sh.foldl (fun t p => tabSet 0 t p.1.id (p.2 + 1)) d.lastAlloc })
    .next (allocGo (takeResults s ((List.range 2).map (fun k => e % 2 ^ 24 * 256 + 0x10 + k))))

/-- R646: DOM_BT_SEAL is written with ALLOC_GO. -/
def execAllocGo (s : State) : Result := .next (allocGo s)

/-- R647, R648, R679: an ALLOC segment. -/
def execAlloc (src : Fin 1024) (epoch : Fin (2 ^ 32)) (bepoch first seg nseg : Nat) (entries : List (BitVec 64)) (s : State) : Result :=
  let s := takeRx s 0x0113
  if s.dom.role = .none_ ∨ epoch.val < s.dom.mepoch then .next s
  else if !fromMaster s src.val then .next (staleSrc s src.val)
  else if s.dom.role = .master ∨ bepoch ≠ nextEpoch s ∨ btSealed (pendBt s) then .next s
  else
    let b := (List.range entries.length).foldl (fun b i =>
      if first + i < 1024 then setBw64 b (16 + 2 * (first + i)) (nodeEntry (entries.getD i 0).toNat) else b) (pendBt s)
    let s := setPendBt s (btHeader b bepoch epoch.val src.val)
    let g := segsOf s false
    let g := { g with got := if g.got.contains seg then g.got else g.got ++ [seg], nseg := nseg, epoch := bepoch, mepoch := epoch.val, master := src.val,
                      entry := (List.range entries.length).foldl (fun t i => tabSet 0 t (first + i) (nodeEntry (entries.getD i 0).toNat)) g.entry }
    let s := setSegs s false g
    .next (if nseg ≤ g.got.length then domComplete s else s)

/-- R649, R67: after DOMAIN_COMPLETE the data plane's firmware, which runs on CLK_FW (R965), splits the node's ALLOC over its present
partitions by the demands of R644 and seals the local section. In no domain BALLAST_MAX is that of DOM_ALLOC_CFG (DESIGN CHOICE, log entry 137: R649 names no source). -/
def execLocalAllocationSplit (s : State) : Result :=
  if !s.img.applied ∨ !fwOn s ∨ btSealed (pendBt s) ∨ !btComplete (pendBt s) then .next s
  else
    let node := btNode (pendBt s) (ownNode s)
    let cap := aF s Reg.CAP_BOARD F.CAP_BOARD_BOARD_CAP
    let own := if inDomain s then node % 2 ^ 16 else if cap = 0 then 65535 else cap
    let bm := if inDomain s then node / 2 ^ 48 % 2 ^ 8 else aF s Reg.DOM_ALLOC_CFG F.DOM_ALLOC_CFG_BALLAST_MAX
    let dem := fun p => demandHeld (partDemand s p).1 (partDemand s p).2
    let want := (parts s).map (fun p => Want.mk p (aF s (Reg.DOM_PFLOOR p) F.DOM_PFLOOR_FLOOR) (dem p) (aF s (Reg.CAP_PWR_CFG p) F.CAP_PWR_CFG_WEIGHT))
    let (sh, _) := allocate (some ((own : Int) - s.cap.pOther).toNat) want
    let b := sh.foldl (fun b p =>
      let i := 0x810 + 4 * p.1.id
      setBw (setBw (setBw b i (p.2 + p.1.floor * 2 ^ 16)) (i + 1) 1024) (i + 2) bm) (pendBt s)
    .next (localSealed (setPendBt s b))

/-- R650: once in every budget epoch the active bank is compared. `flips` are upsets that its memory has suffered, as masks by word;
`stuck` says that a corrected bit still differs (R653). -/
def execBudgetCompare (flips : List (Fin 2192 × Word)) (stuck : Bool) (s : State) : Result :=
  let s := setActBt s (flips.foldl (fun b p => setBw b p.1.val (bw b p.1.val ^^^ p.2.toNat)) (actBt s))
  if inDomain s ∧ s.img.applied then
    let (s, ok) := btCompare s true stuck
    .next (if ok && (segsOf s false).nseg != 0 && decide ((segsOf s false).nseg ≤ (segsOf s false).got.length) then domComplete s else s)
  else .next s

/-! ## Lock groups (R657–R665) -/

/-- R657: a time-base multiple of GCYCLE. -/
def execGroupCycleStart (s : State) : Result :=
  if takesPart s then
    let g := max 1 (grpCfg s F.DOM_GROUP_CFG_GCYCLE) * 1000
    let c := if s.dom.cycleAt < now s / g * g then now s / g else now s / g + 1
    let s := setDom (reach s (c * g)) (fun d => { d with cycle := c, cycleAt := c * g })
    let prop := fun k => (((groupParts s k).filter (fun p => fld s (Reg.CAP_PROP p) F.CAP_PROP_N != 0)).map (fun p =>
      fld s (Reg.CAP_PROP p) F.CAP_PROP_N * 16 + fld s (Reg.CAP_PROP p) F.CAP_PROP_REASON)).foldl min (2 ^ 63 - 1)
    .next (redAdd s none (ownNode s, 0) { rid := c % 2 ^ 24 * 256 + 0x20, op := 2, elems := (List.range 64).map (fun k => (prop k : Int)),
                                          contrib := 1, partial_ := false,
                                          from_ := [], loc := false, openAt := 0 })
  else .next s

/-- Entry `g` of the group buffer: N × 16 + REASON in bits 14–0, bit 63 where the group is listed. -/
def gbufEntry (s : State) (g : Nat) : Nat := sramLe s ((ac s Reg.DOM_GBUF).toNat + 8 * g) 8

/-- A COMMIT_ANN is staged for every listed group of which the node is a member (R660, R182). -/
def annStage (s : State) (cid tick basis : Nat) (entries : List (Nat × Nat × Nat)) : State :=
  if bitOf (btNode (actBt s) (ownNode s)) 63 then
    forEach entries s (fun s e => domStage s { group := e.1, n := e.2.1, reason := e.2.2, tick := tick, cid := some cid, basis := basis })
  else s

/-- R659: GROUP_GO. -/
def groupGo (s : State) : State :=
  let es := (List.range 64).filterMap (fun g =>
    let e := gbufEntry s g
    if bitOf e 63 then some (g, e / 16 % 2048, e % 16) else none)
  if domRoleNow s ≠ .master ∨ es = [] then s
  else
    let start := s.dom.cycleAt
    let t := (max (start + grpCfg s F.DOM_GROUP_CFG_GLEAD * 1000) (now s + 20000) + 999) / 1000 * 1000
    let cid := (s.dom.cid + 1) % 2 ^ 32
    let fw := es.foldl (fun t e => if (groupParts s e.1).isEmpty then tabSet 1025 t e.1 (e.2.1 + 1) else t) s.dom.fwCeil
    let s := setDom s (fun d => { d with cid := cid, fwCeil := fw })
    annStage (postAnn s cid t start es) cid t start es

/-- R658: the present ceiling of a group as the master's firmware knows it: in force here, or last announced where this node is no member. -/
def masterCeil (s : State) (g : Nat) : Nat :=
  if (groupParts s g).isEmpty then tabGet 1025 s.dom.fwCeil g - 1 else (groupCeil s g).1

/-- R658: the master's firmware writes the changed ceilings of the present cycle's reduction and GROUP_GO. -/
def execGroupReductionResult (s : State) : Result :=
  if domRoleNow s ≠ .master then .next s
  else
    let rid := s.dom.cycle % 2 ^ 24 * 256 + 0x20
    match redResult s rid with
    | none => .next s
    | some r =>
      let entry := fun g =>
        let v := unsx 64 (r.elems.getD g (2 ^ 63 - 1))
        if v = 2 ^ 63 - 1 ∨ v / 16 = masterCeil s g then 0 else v % 2 ^ 15 + 2 ^ 63
      let s := memWrite s 8 (ac s Reg.DOM_GBUF).toNat ((List.range 64).flatMap (fun g => leBytes 8 (entry g)))
      .next (groupGo (takeResults s [rid]))

/-- R659: DOM_BT_SEAL is written with GROUP_GO. -/
def execGroupGo (s : State) : Result := .next (groupGo s)

/-- R660, R128, R679: a COMMIT_ANN arrives; entries are group, N and REASON. -/
def execCommitAnn (src : Fin 1024) (epoch cid : Fin (2 ^ 32)) (tick basis : Nat) (entries : List (Fin 64 × Fin 2048 × Fin 16)) (s : State) : Result :=
  let s := takeRx s 0x0111
  if s.dom.role = .none_ ∨ epoch.val < s.dom.mepoch then .next s
  else if !fromMaster s src.val then .next (staleSrc s src.val)
  else if s.dom.role = .master then .next s
  else
    let es := entries.map (fun e => (e.1.val, e.2.1.val, e.2.2.val))
    let a : DomAnn := { epoch := epoch.val, cid := cid.val, tick := tick, basis := basis, entries := es }
    let s := setDom s (fun d => { d with cid := cid.val, anns := d.anns.filter (fun x => decide (now s ≤ x.tick)) ++ [a] })
    .next (annStage s cid.val tick basis es)

/-- R661, R664, R674: the earliest pending domain commit of a group reaches its tick, with those of the same tick. -/
def execDomainCommitEffect (group : Fin 64) (s : State) : Result :=
  let mine := s.dom.commits.filter (fun c => c.group == group.val)
  match mine with
  | [] => .next s
  | c :: t =>
    let tick := t.foldl (fun m x => min m x.tick) c.tick
    let s := reach s tick
    let due := mine.filter (fun x => x.tick == tick)
    let s := setDom s (fun d => { d with commits := d.commits.filter (fun x => !(x.group == group.val && x.tick == tick)) })
    .next (forEach (domOrder due) s domEffect)

/-- R665: the master's firmware answers a COMMIT_REFUSE with a HOLD cell. -/
def execCommitRefuse (group : Fin 64) (s : State) : Result :=
  let s := takeDelivered s 0x0112
  if domRoleNow s = .master then
    let us := grpCfg s F.DOM_GROUP_CFG_GCYCLE + grpCfg s F.DOM_GROUP_CFG_GLEAD
    let s := originate s { ctype := 1, scope := 2, node := ownNode s, payload := group.val + us * 2 ^ 6 }
    .next (if (groupParts s group.val).isEmpty then s else holdStart s group.val us)
  else .next s

/-! ## Membership (R669–R672, R678) -/

/-- R669, R180: a node that is not admitted asks the master. -/
def execJoinReqSend (s : State) : Result :=
  if (domRoleNow s = .joining ∨ (domRoleNow s = .standby ∧ s.dom.admitAt = none)) ∧ s.tb.aligned then
    let groups := ((List.range 64).filter (fun g => !(groupParts s g).isEmpty)).foldl (fun m g => m + 2 ^ g) 0
    .next (postFrame s 0x0114 0 s.dom.master (leBytes 2 (ownNode s) ++ leBytes 2 0 ++ leBytes 4 (rd s Reg.SEC_IMG_GEN).toNat ++ leBytes 8 groups))
  else .next s

/-- R670, R636: the master's firmware answers a JOIN_REQ; `standby` says that its sender has taken the role STANDBY under R635. -/
def execJoinReq (src : Fin 1024) (standby : Bool) (s : State) : Result :=
  let s := takeDelivered s 0x0114
  if domRoleNow s ≠ .master then .next s
  else if memberF (framesOf s) src.val then
    let e := (now s + domCfg s F.DOM_EPOCH_CFG_ALLOC_AT * 1000) / 1000000 + 1
    let s := setDom s (fun d => { d with mgen := (d.mgen + 1) % 2 ^ 16,
                                         members := if d.members.contains src.val then d.members else d.members ++ [src.val],
                                         standby := if standby && d.standby == 0xFFFF then src.val else d.standby,
                                         noStandby := d.noStandby && !(standby && d.standby == 0xFFFF) && d.standby != src.val })
    let s := postFrame s 0x0115 0 src.val (leBytes 2 src.val ++ leBytes 1 0 ++ leBytes 1 0 ++ leBytes 2 s.dom.mgen ++ leBytes 2 0 ++ leBytes 8 e)
    .next (postFrame s 0x0116 1 0 (leBytes 2 s.dom.mgen ++ leBytes 2 src.val ++ leBytes 1 1 ++ leBytes 3 0 ++ leBytes 8 e))
  else .next (postFrame s 0x0115 0 src.val (leBytes 2 src.val ++ leBytes 1 1 ++ leBytes 1 0 ++ leBytes 2 s.dom.mgen ++ leBytes 2 0 ++ leBytes 8 0))

/-- R671: a JOIN_ACK. -/
def execJoinAck (admitted : Bool) (mgen : Fin 65536) (bepoch : Nat) (s : State) : Result :=
  let s := takeDelivered s 0x0115
  if admitted ∧ (s.dom.role = .joining ∨ s.dom.role = .standby) then
    let s := setDom s (fun d => { d with role := if d.role = .standby then .standby else .member, admitAt := some bepoch, mgen := mgen.val })
    .next (raise s Reg.DOM_EVENT F.DOM_EVENT_JOIN)
  else .next s

/-- R672: a MEMBER frame; KIND 1 JOIN, 2 LEAVE, 3 REMOVE. -/
def execMember (mgen : Fin 65536) (node : Fin 1024) (kind : Fin 256) (s : State) : Result :=
  let s := takeDelivered s 0x0116
  if s.dom.role = .none_ ∨ s.dom.role = .master then .next s
  else
    let s := setDom s (fun d => { d with mgen := mgen.val })
    if kind.val = 1 then
      .next (setDom s (fun d => { d with members := if d.members.contains node.val then d.members else d.members ++ [node.val], hbMembers := d.hbMembers + 1 }))
    else if kind.val = 2 ∨ kind.val = 3 then
      let own := node.val == ownNode s
      .next (setDom s (fun d => { d with members := d.members.filter (fun n => n != node.val), hbMembers := d.hbMembers - 1,
                                         admitAt := if own then none else d.admitAt,
                                         role := if own && d.role == .member then .joining else d.role }))
    else .next s

/-- R678: 10 ms without a standby. -/
def execNoStandby (s : State) : Result :=
  if domRoleNow s = .master ∧ !s.dom.noStandby then
    .next (record (setDom s (fun d => { d with noStandby := true })) .control 0x0F 0x04 (ownNode s) 0 s.dom.mepoch (ownNode s))
  else .next s

end Sys2Proof.Machine
end

