-- ==== Sys2Proof/Machine/Estimation.lean ====
section
/-! DEFINITION. Commands of estimation (ch. 9). -/

namespace Sys2Proof.Machine

open Host

/-- R451, R452: a chip boundary: V_dither of each rail in REG, outside Drip mode and boosts. -/
def execDitherChip (s : State) : Result :=
  let s := reach s ((now s + 24999) / 25000 * 25000)
  .next (forEach (rails s) s (fun s r =>
    let chip := chipAt r (now s)
    let on : Bool := railState s r == .reg && (chOf s r).drip == .run && !boosting s r
    let v : Int := if on then (aF s (Reg.CH_DITH r) F.CH_DITH_AMP * 50000 : Nat) * chip else 0
    setCh { s with est := { s.est with chip := tabSet 0 s.est.chip r chip } } r (fun x => { x with vdither := v })))

/-- R424, R453: a site's mean voltage over a VREP interval. -/
def execVrep (die : DieIx) (site : SiteIx) (v : BitVec 16) (stamp : BitVec 24) (s : State) : Result :=
  let d := die.val
  let n := site.val
  .next (lane1 s d 8 n (fun s =>
    let i := 64 * d + n
    let mine := (regions s).filter (fun k => regionSrcF (framesOf s) k == 0 && (regionSitesF (framesOf s) k).contains i)
    let s := forEach mine s (fun s k => regionAgain s k i)
    let s := wrN s (Reg.PB_SVOLT d n) (v.toNat + 2 ^ 31)
    let s := setSite s d n (fun x => { x with vrepTime := stampTime s d stamp.toNat })
    let s := setSrc s (0xA0 + d) (satI 24 (dieExtreme s d true (fun k => divHalfUp (fld s (Reg.PB_SVOLT d k) F.PB_SVOLT_VALUE * 32768 : Nat) 1000)))
    forEach mine s (fun s k => regionReport s k i)))

/-- R453: every 4 µs, a sample of each region whose far voltage is the other sense pair. -/
def execEstimatorSample (s : State) : Result :=
  .next (forEach ((regions s).filter (fun k => regionSrcF (framesOf s) k == 1)) s (fun s k =>
    let e := sumNow s (k / 16)
    let m := sumGain (regionOf s k).from_ e
    estSample s k e (nvMean (if regionNearF (framesOf s) k = 0 then m.alt else m.pri) (max m.n 1))))

/-! ## Corroboration by the phases (R474, Table 9.2) -/

/-- What firmware samples at a refresh: PH_BAL and share of each phase of the rails. -/
def balSample (s : State) : State :=
  let one (t : Tab BalSample) (r : Nat) : Tab BalSample :=
    let a := assigned s r
    let cur (p : Nat) : Int := sext 16 (fld s (Reg.PH_I p) F.PH_I_VALUE)
    let mean := (a.map cur).sum / (max a.length 1 : Nat)
    (railPhases s r).foldl (fun t p => tabSet {} t p { bal := sarI (phOf s p).trim 15, share := cur p - mean }) t
  { s with est := { s.est with bal := ((rails s).foldl one [] :: s.est.bal).take 10 } }

/-- The sum of one quantity of a phase over samples. -/
def balSum (l : List (Tab BalSample)) (f : BalSample → Int) (p : Nat) : Int := (l.map (fun t => f (tabGet {} t p))).sum

/-- The means before and after a step differ by more than `thr`. -/
def meansDiffer (before after : List (Tab BalSample)) (f : BalSample → Int) (thr p : Nat) : Bool :=
  let a := after.length
  let b := before.length
  decide (0 < a) && decide (0 < b) && decide (thr * a * b < absI (balSum after f p * b - balSum before f p * a))

/-- The newest stored baseline of a region. -/
def baseRec (s : State) (k : Nat) : Option NvRec := newestRec (areaLog s 16 32) 2 k

/-- PH_BAL of the i-th phase of the rail in a baseline record. -/
def recBal (r : NvRec) (i : Nat) : Int := sext 16 (leAt r.payload (20 + 2 * i) 2)

/-- Table 9.2: the phases whose imbalance corroborates an event, as a mask: 1/128 of duty with BAL_EN, 1.0 A without. -/
def corroborants (s : State) (c : CrackCheck) : Nat :=
  let r := c.k / 16
  let on := aOn s (Reg.CH_CTRL r) F.CH_CTRL_BAL_EN
  let ps := railPhases s r
  let hit (p : Nat) : Bool :=
    if c.step then (if on then meansDiffer c.before s.est.bal (·.bal) 256 p else meansDiffer c.before s.est.bal (·.share) 16 p)
    else
      let x : BalSample := (s.est.bal.head?.map (fun t => tabGet {} t p)).getD {}
      let i := ps.idxOf p
      if on then (baseRec s c.k).any (fun b => decide (256 < absI (x.bal - recBal b i)))
      else match (tabGet [] s.est.baseShare c.k)[i]? with
        | some v => decide (16 < absI (x.share - v))
        | none => false
  toMask (ps.filter hit)

/-- R474: firmware looks into the events whose means are whole: an entry CLASS 0x80, TYPE 0x01 names the region, the event (2 drift, 3 step)
and the mask of the phases. Without firmware nothing is written (R29). The entry's layout is the model's (log entry 140). -/
def corroborate (s : State) : State :=
  let due := s.est.checks.filter (fun c => c.left == 0)
  let s := { s with est := { s.est with checks := (s.est.checks.filter (fun c => c.left != 0)).map (fun c => { c with left := c.left - 1 }) } }
  if fwUp s then
    forEach due s (fun s c => stage s .data { cls := 0x80, typ := 0x01, unit := c.k, arg := if c.step then 3 else 2, value := corroborants s c, value2 := 0 })
  else s

/-- R456–R459, R470–R478: the 100 ms refresh. -/
def execEstimatorRefresh (s : State) : Result :=
  if s.est.run then
    let s := reach s (s.est.blkFrom + 100000000)
    let s := forEach (regions s) (balSample s) refresh
    let s := forEach (rails s) (corroborate s) loadLine
    .next (estStatus { s with est := { s.est with blkFrom := now s } })
  else .next s

/-- R475: no confident refresh for NCR_T. -/
def execNcrEnter (region : Fin 128) (s : State) : Result :=
  let k := region.val
  if s.est.run ∧ (regions s).contains k ∧ !(regionOf s k).ncr then
    let s := reach s ((regionOf s k).confAt + aF s Reg.EST_CFG F.EST_CFG_NCR_T * 1000000000)
    .next (estStatus (ncrEnter s k))
  else .next s

/-- R468: a capture has not completed within 10 × CAP_T. -/
def execCaptureTimeout (s : State) : Result :=
  let l := (regions s).filter (fun k => (regionOf s k).capOn)
  if l = [] then .next s
  else
    let s := reach s (s.est.capAt + aF s Reg.EST_CMD F.EST_CMD_CAP_T * 10000000000)
    .next (forEach l s (fun s k => capEnd s k false))

/-! ## Rolling offset calibration (R460–R466, R482, R484) -/

def calOf (s : State) (r : Nat) : CalSt := tabGet {} s.est.cal r
def setCal (s : State) (r : Nat) (f : CalSt → CalSt) : State := { s with est := { s.est with cal := tabSet {} s.est.cal r (f (calOf s r)) } }

/-- The phase to visit: the one named, if it is still assigned, else the lowest assigned phase above it, wrapping. -/
def calPhase (s : State) (r : Nat) : Option Nat :=
  let a := assigned s r
  match (calOf s r).visit with
  | none => a.head?
  | some p => match a.find? (fun q => decide (p ≤ q)) with
    | some q => some q
    | none => a.head?

/-- R310, R466: a removal may be granted; to a member, only while its master's duty word flags the rail in regulation with no boost. -/
def removalOk (s : State) (r : Nat) : Bool :=
  railState s r == .reg && (chOf s r).drip == .run && !boosting s r && decide (2 ≤ railN s r)
    && (wideRole s r != 2 || (!(chOf s r).wideLoss && (chOf s r).masterOk))

/-- R460, R461: the visit of one interval. -/
def execCalibrationVisit (rail : ChIx) (s : State) : Result :=
  let r := rail.val
  if isRail s r ∧ aOn s (Reg.CH_CAL r) F.CH_CAL_CAL_EN ∧ switching s r ∧ !(calOf s r).reading then
    match calPhase s r with
    | none => .next s
    | some p =>
      let s := setCal s r (fun x => { x with visit := some p })
      if !(phOf s p).active then
        if (phOf s p).level = .mid then .next (setCal s r (fun x => { x with reading := true, removal := false })) else .next s
      else if removalOk s r then
        let s := setPh s p (fun x => { toMid x with cal := true, due := x.due })
        .next (setCal s r (fun x => { x with reading := true, removal := true }))
      else .next s
  else .next s

/-- An offset moves toward Z by at most a step. -/
def toward (x z step : Int) : Int := if x < z then min z (x + step) else max z (x - step)

/-- R462–R464, R482: a reading ends with the mean Z (1/16 A); `flat` says that its spread was at most 0.5 A. The step limit is left out at
the first complete reading since an image was applied; VALID is set by a reading that is in range (log entry 141). -/
def execCalibrationReading (rail : ChIx) (z : Int) (flat : Bool) (s : State) : Result :=
  let r := rail.val
  let c := calOf s r
  match c.reading, c.visit with
  | true, some p =>
    let ended := (c.removal && !(phOf s p).cal) || !switching s r
    let s := setPh s p (fun x => { x with cal := false })
    let s := setCal s r (fun x => { x with reading := false, removal := false })
    if !flat || ended then .next (bump s (Reg.CH_CAL_CNT r) F.CH_CAL_CNT_INCOMPLETE)
    else
      let first := tabGet 0 s.est.readAt p == 0
      let s := bump s (Reg.CH_CAL_CNT r) F.CH_CAL_CNT_VISITS
      let s := { s with est := { s.est with readAt := tabSet 0 s.est.readAt p (now s + 1) } }
      let s := setCal s r (fun x => { x with visit := some (p + 1) })
      if (aF s (Reg.CH_CAL r) F.CH_CAL_OFF_MAX * 16 : Nat) < absI z then
        let n := tabGet 0 s.est.oor p + 1
        let s := bump s (Reg.CH_CAL_CNT r) F.CH_CAL_CNT_RANGE
        let s := record s .control 0x08 0x04 p 0 (unsx 64 z) (now s)
        let s := { s with est := { s.est with oor := tabSet 0 s.est.oor p n } }
        .next (if 3 ≤ n then raise s (Reg.PH_OFF p) F.PH_OFF_CAL_RANGE else s)
      else
        let s := { s with est := { s.est with oor := tabErase s.est.oor p } }
        let old := sext 16 (fld s (Reg.PH_OFF p) F.PH_OFF_OFFSET)
        let v := if !first then toward old z (aF s (Reg.CH_CAL r) F.CH_CAL_OFF_STEP * 2 : Nat) else z
        .next (raise (setF s (Reg.PH_OFF p) F.PH_OFF_OFFSET (unsx 16 v)) (Reg.PH_OFF p) F.PH_OFF_VALID)
  | _, _ => .next s

end Sys2Proof.Machine
end

