-- ==== Sys2Proof/Machine/Fabric.lean ====
section
/-! DEFINITION. Commands of the control fabric (ch. 5): samples of the three lanes, tile parity and cross-device faults. -/

namespace Sys2Proof.Machine

open Host

/-- The rail current from the phase readings (point 12), at point 8, with the members of a widened rail (R325). -/
def chanCurrent (s : State) (ps : List Nat) : Int :=
  alignTo ((ps.filter (fun p => (phOf s p).active)).map (fun p => srcOf s p)).sum 12 8

/-- R415: the lowest sample of each rail channel since it was armed, and over the present droop event, stamped with its
conversion instant, 40 ns before. -/
def chanMin (s : State) (r : Nat) : State :=
  let v := sense s r
  let t := now s - 40
  let s := if flag s (Reg.PB_CHMIN r) F.PB_CHMIN_VALID ∧ fld s (Reg.PB_CHMIN r) F.PB_CHMIN_VALUE ≤ v then s
    else wr64 (wrN s (Reg.PB_CHMIN r) (v + 2 ^ 31)) (Reg.PB_CHMIN_TS_LO r) t
  if (boostOf s r).frozen ∧ v < (boostOf s r).evMin then setBoost s r (fun x => { x with evMin := v, evMinAt := t }) else s

/-- R453: what a fast sample adds to the sums of a rail: both sense pairs (sources 0x80 the selected one, 0x88 the other), the raw current without offsets, the chip. -/
def senseAdd (s : State) (r : Nat) : State :=
  let raw := ((railPhases s r).map (fun p => srcOf s p + (phOf s p).off * 256)).sum
  let x := tabGet {} s.est.sum r
  let a := (chOf s r).altPair
  let x : SenseSum := { pri := x.pri + srcOf s (if a then 0x88 + r else 0x80 + r), alt := x.alt + srcOf s (if a then 0x80 + r else 0x88 + r), cur := x.cur + raw,
                        chip := x.chip + tabGet 0 s.est.chip r, n := x.n + 1 }
  { s with est := { s.est with sum := tabSet {} s.est.sum r x, snap := tabSet [] s.est.snap r (((now s, x) :: tabGet [] s.est.snap r).take 1024) } }

/-- Converter readings that a fast sample latches: phase currents (codes 0x00–0x3F), from which the offset in force is taken (R465), and the
two sense pairs of each channel (codes 0x80–0x8F), as fabric words. No current is formed for a phase of no rail (R967). The registers
CH_VSENSE and CH_I follow. -/
def fastReadings (s : State) (vals : List (Fin 144 × Int)) : State :=
  let s := forEach vals s (fun s p =>
    if p.1.val < 0x40 then (if phaseRail s p.1.val < 8 then setSrc s p.1.val (satI 24 (p.2 - (phOf s p.1.val).off * 256)) else s)
    else if 0x80 ≤ p.1.val then setSrc s p.1.val (satI 24 p.2) else s)
  let s := forEach (vals.filter (fun p => 0x80 ≤ p.1.val ∧ p.1.val < 0x88)) s (fun s p =>
    wrN s (Reg.CH_VSENSE (p.1.val - 0x80)) (satU 16 (divHalfUp (srcOf s p.1.val * 16000) (2 ^ 20))))
  let s := forEach (List.range 8) s (fun s c =>
    setSrc s (0x90 + c) (satI 24 (chanCurrent s ((List.range 64).filter (fun p => quadCh s (p / 4) == c)))))
  forEach (rails s) s (fun s r =>
    let m := ((chOf s r).memberCur.map (fun p => p.2)).sum
    let i := chanCurrent s (railPhases s r) + m * 16
    let s := wrN (setSrc s (0x90 + r) (satI 24 i)) (Reg.CH_I r) (satS 32 (divHalfUp i 16))
    let a := divHalfUp i 16
    setCh s r (fun x => { x with perSum := x.perSum + a, perNum := x.perNum + 1, olSum := x.olSum + a, olNum := x.olNum + 1 }))

/-- The target sources and the duty commands of the rails (R269, R311, Table 5.4). -/
def fastRails (s : State) : State :=
  forEach (rails s) s (fun s r =>
    let req := divHalfUp (sinkOf s (8 + r) * 200000000) (2 ^ 20)
    let s := railSample s r req
    if wideRole s r = 2 then s
    else setCh s r (fun x => { x with duty := (clampI 0 (2 ^ 22 : Nat) (sinkOf s r)).toNat }))

/-- Table 6.4: the rail current is above EXIT_I. -/
def dripCurrent (s : State) (r : Nat) : State :=
  if (chOf s r).drip ≠ .run ∧ (aF s (Reg.CH_DRIP r) F.CH_DRIP_EXIT_I : Nat) < railI s r then dripExit s r else s

/-- R612: a FAST block becomes due on every board lane that is up. -/
def fastMark (s : State) : State :=
  forEach ([6, 7, 8, 9].filter (fun l => (laneOf s l).state == .up)) s (fun s l => setLane s l (fun x => { x with fastDue := true }))

/-- R871: sense voltage (1/16 mV), current (1/16 A) and power (1/256 mW) of a rail join their millisecond means. -/
def railMeans (s : State) (r : Nat) : State :=
  meanAdd (meanAdd (meanAdd s r (sense s r : Nat)) (8 + r) (railI s r)) (16 + r) ((sense s r : Nat) * railI s r)

/-- The highest PH_T of a rail's phases, 1/16 °C. -/
def railTemp (s : State) (r : Nat) : Int := ((railPhases s r).map (phTemp s)).foldl max (-32768)

/-- R261–R263, R266: one fast sample. -/
def execFastSample (vals : List (Fin 144 × Int)) (s : State) : Result :=
  let s := fastReadings s vals
  let s := forEach (rails s) s (fun s r => railMeans (senseAdd (chanMin s r) r) r)
  if s.fab.run then
    let s := forEach (rails s) s (fun s r => setSrc s (0x98 + r) (satI 24 (divHalfUp (vtarget s r * (2 ^ 20 : Nat)) 200000000)))
    let s := laneSample s 0
    let s := forEach (rails s) (fastRails s) (fun s r => onTimes (dripCurrent s r) r)
    let s := fastMark s
    .next { s with fab := { s.fab with fs := (s.fab.fs + 1) % 50 }, fq := { s.fq with pNum := s.fq.pNum + 1 } }
  else .next s

/-- R262, R264, R265: one 1 MS/s sample, with the phase temperatures it latches (fabric words). -/
def execMs1Sample (temps : List (PhIx × Int)) (s : State) : Result :=
  let s := forEach (temps.filter (fun p => phaseRail s p.1.val < 8)) s (fun s p => setSrc s (0x40 + p.1.val) (satI 24 p.2))
  let s := forEach (temps.filter (fun p => phaseRail s p.1.val < 8)) s (fun s p =>
    wrN s (Reg.PH_T p.1.val) (unsx 32 (clampI (-32768) 32767 (divHalfUp (srcOf s (0x40 + p.1.val)) 256))))
  let s := setSrc s 0x100 (satI 24 (fld s Reg.LAD_VIN ⟨0, 16⟩ * 65536 / 1000 : Nat))
  let s := forEach (rails s) s (fun s r => meanAdd s (32 + r) (railTemp s r))
  let s := meanAdd s 24 (fld s Reg.LAD_VIN ⟨0, 16⟩ : Nat)
  if s.fab.run then
    let s := laneSample s 1
    .next { s with fab := { s.fab with fs := 0, ms := (s.fab.ms + 1) % 100 } }
  else .next s

/-- ALLOC of a partition in the active budget bank (Table 1.9), 1/8 W. -/
def partAlloc (s : State) (p : Nat) : Nat := fldOf (actLocal s p 0) ⟨0, 16⟩

/-- R262, R264, R265: one 10 kHz sample. -/
def execKhz10Sample (s : State) : Result :=
  let s := forEach (List.range 32) s (fun s p => setSrc s (0xE0 + p) (satI 24 (partAlloc s p * 32 : Nat)))
  if s.fab.run then
    let s := laneSample s 2
    .next { s with fab := { s.fab with ms := 0 } }
  else .next s

/-- R281: parity of a tile's state. -/
def execFabricParityError (tile : Fin 128) (s : State) : Result :=
  let s := clearTile s tile.val
  let s := bump s Reg.FAB_PARITY_CNT ⟨0, 16⟩
  let s := raise s Reg.FAB_EVENT F.FAB_EVENT_PARITY
  .next (record s .control 0x09 0x01 tile.val 0 0 0)

/-- R282: a receive slot has missed three samples. -/
def execXslotFallback (slot : Fin 32) (s : State) : Result :=
  let t := slot.val
  let f := framesOf s
  if 3 ≤ (rxOf s t).missing ∧ !(rxOf s t).fell then
    let s := setRx s t (fun x => { x with fell := true })
    let s := raise s Reg.FAB_XDEV_FALLBACK ⟨t, 1⟩
    let s := raise s Reg.FAB_EVENT F.FAB_EVENT_XDEV_FALLBACK
    let s := if slotFallF f true t < 16 then
        forEach ((List.range 512).filter (fun i => sigPresentF f i && sigDriverF f i % 1024 == 0x120 + t)) s (fun s i =>
          setSig s i (sext 24 (aF s (Reg.FAB_CONST (slotFallF f true t)) F.FAB_CONST_VALUE))) else s
    .next (record s .control 0x09 0x02 t 0 0 0)
  else .next s

/-- A device takes part in R277: slots in use, and not the one at cascade position 0. -/
def laneFollows (s : State) : Bool := xdevEnF (framesOf s) && fld s Reg.TOP_STRAP F.TOP_STRAP_CPOS != 0

/-- R283: the lanes are more than 40 ns out. -/
def execXdevSyncErr (s : State) : Result :=
  if laneFollows s then .next (raise { s with fab := { s.fab with syncBad := true } } Reg.FAB_EVENT F.FAB_EVENT_XDEV_SYNC_ERR)
  else .next s

/-- R277, R283, R615: the lanes align to the indexes of a FAST block from cascade position 0. -/
def execFastSync (fs : Fin 50) (ms : Fin 100) (s : State) : Result :=
  if laneFollows s then .next { s with fab := { s.fab with fs := fs.val, ms := ms.val, syncBad := false } }
  else .next s

end Sys2Proof.Machine
end

