-- ==== Sys2Proof/Machine/Firmware.lean ====
section
/-! DEFINITION. The commands of the firmware complex (ch. 14, 15) that reach no Window 0 register: fences, atomics, caches, the mailbox
block, the timer, errors, the firmware loader and restarts. -/

namespace Sys2Proof.Machine

open Host

/-! ## Ordering and atomics -/

/-- R699: the oldest store of a core's buffer becomes visible to all agents. -/
def execStoreBufferDrain (core : CoreIx) (s : State) : Result := .next (if fwOn s then drainOne s core.val else s)

/-- R701: a FENCE with W before and R after waits for the earlier stores; any other adds nothing. -/
def execFence (core : CoreIx) (predW succR : Bool) (s : State) : Result :=
  .next (if coreRuns s core.val ∧ predW ∧ succR then drainAll s core.val else s)

/-- R705: FENCE.I empties the core's instruction cache and makes its earlier stores visible to its fetches. -/
def execFenceI (core : CoreIx) (s : State) : Result :=
  .next (if coreRuns s core.val then
    setCore (drainAll s core.val) core.val (fun c => { c with iset := [], miss := c.miss.filter (fun m => !m.icache) }) else s)

/-- The result of an AMO on 32-bit words. -/
def amoWord (op : AmoOp) (a b : Word) : Word :=
  match op with
  | .swap => b
  | .add => a + b
  | .xor => a ^^^ b
  | .and => a &&& b
  | .or => a ||| b
  | .min => if a.toInt ≤ b.toInt then a else b
  | .max => if a.toInt ≤ b.toInt then b else a
  | .minu => if a.toNat ≤ b.toNat then a else b
  | .maxu => if a.toNat ≤ b.toNat then b else a

/-- The word at an index of normal memory. -/
def memWord (s : State) (ix : Nat) : Word := BitVec.ofNat 32 (leAt (memRead s ix 4) 0 4)

/-- An atomic access of core n: its faults (R684, R704, R723, R75), or the access itself. `cause` is the access fault of the plane
check, 5 for LR and 7 for a write. -/
def atomicAt (s : State) (n a : Nat) (user pmp : Bool) (misaligned cause : Nat) (f : State → Nat → State) : State :=
  if !coreRuns s n ∨ coreStalled s n then s
  else
    let s := setCore s n (fun c => { c with user := user })
    if a % 4 ≠ 0 then coreFault s n misaligned
    else match targetOf a 4 with
      | .mem ix _ =>
        if !pmp then coreFault s n cause
        else if !memIn s (coreOf s n).tag ix 4 then
          (if cause = 7 then coreViol s n (coreOf s n).tag a a 7 else coreFault s n 5)
        else f (drainAll s n) ix
      | _ => coreFault s n 7

/-- R702, R704: an AMO, with a fence before and after. -/
def execAmo (core : CoreIx) (user pmp : Bool) (op : AmoOp) (addr val : Word) (s : State) : Result :=
  .next (atomicAt s core.val addr.toNat user pmp 6 7 (fun s ix =>
    let old := memWord s ix
    let s := memStore s core.val addr.toNat (leBytes 4 (amoWord op old val).toNat)
    { s with resp := .word old }))

/-- R704: LR takes a reservation on the 64-byte granule. -/
def execLr (core : CoreIx) (user pmp : Bool) (addr : Word) (s : State) : Result :=
  let n := core.val
  .next (if !coreRuns s n ∨ coreStalled s n then s
    else
      let s := setCore s n (fun c => { c with user := user })
      if addr.toNat % 4 ≠ 0 then coreFault s n 4
      else match targetOf addr.toNat 4 with
        | .mem ix _ =>
          if !pmp ∨ !memIn s (coreOf s n).tag ix 4 then coreFault s n 5
          else
            let v := leAt (loadBytes s n ix 4) 0 4
            setCore { s with resp := .word (BitVec.ofNat 32 v) } n (fun c => { c with resv := some (ix / lineSize) })
        | _ => coreFault s n 7)

/-- R702, R704: SC stores where its reservation holds, and answers 0; otherwise it answers 1 and stores nothing. -/
def execSc (core : CoreIx) (user pmp : Bool) (addr val : Word) (s : State) : Result :=
  let n := core.val
  let held (ix : Nat) : Bool := (coreOf s n).resv == some (ix / lineSize)
  .next (if !coreRuns s n ∨ coreStalled s n then s
    else
      let s := setCore s n (fun c => { c with user := user })
      if addr.toNat % 4 ≠ 0 then coreFault s n 6
      else match targetOf addr.toNat 4 with
        | .mem ix _ =>
          if !pmp then coreFault s n 7
          else if !memIn s (coreOf s n).tag ix 4 then coreViol s n (coreOf s n).tag addr.toNat addr.toNat 7
          else if held ix then
            let s := memStore (drainAll s n) n addr.toNat (leBytes 4 val.toNat)
            setCore { s with resp := .word 0 } n (fun c => { c with resv := none })
          else setCore { s with resp := .word 1 } n (fun c => { c with resv := none })
        | _ => coreFault s n 7)

/-- R692: a write to mplane; in user mode an illegal-instruction exception. -/
def execMplaneWrite (core : CoreIx) (user : Bool) (val : Word) (s : State) : Result :=
  let n := core.val
  let t := val.toNat % 4
  .next (if !coreRuns s n then s
    else if user then coreFault s n 2
    else if t < 3 ∧ bitOf (coreTags s n) t then setCore s n (fun c => { c with tag := t, user := false }) else s)

/-! ## Caches -/

/-- R695, R696, R719: a fill completes. A line written meanwhile by another agent is invalidated once filled. A non-blocking
instruction cache also fetches the next line into a free miss register. -/
def execCacheFillDone (core : CoreIx) (icache : Bool) (line : Fin 81920) (s : State) : Result :=
  let n := core.val
  let l := line.val
  match (coreOf s n).miss.find? (fun m => m.icache == icache && m.line == l) with
  | none =>
    -- an instruction miss: no command of the table fetches, so the fill brings its own miss
    .next (if icache ∧ coreRuns s n ∧ !cached s n true l then
      let s := bump s (Reg.FWC_MISS_CNT n) F.FWC_MISS_CNT_IMISS
      let s := fillLine s n true l
      if (coreOf s n).iblk ∨ cached s n true (l + 1) ∨ 8 ≤ ((coreOf s n).miss.filter (fun m => m.icache)).length then s
      else setCore s n (fun c => { c with miss := c.miss ++ [{ icache := true, line := l + 1 }] }) else s)
  | some m =>
    let t := setCore s n (fun c => { c with miss := c.miss.filter (fun x => !(x.icache == icache && x.line == l)) })
    .next (if !fwOn s then s else if m.stale then t else fillLine t n icache l)

/-- R697: the oldest line of a write-back buffer drains in the core's turn. -/
def execWritebackDrain (core : CoreIx) (s : State) : Result :=
  match (coreOf s core.val).wb with
  | l :: _ => .next (if fwOn s then flushLine s l else s)
  | [] => .next s

/-! ## Mailbox block and timer -/

/-- R700, R707, R717: a flag word is written by core `w` (8 for SEC). -/
def mbxBy (s : State) (w : Nat) (f : State → State) : State :=
  if w < 8 then (if coreRuns s w ∧ !coreStalled s w then f (drainAll s w) else s) else if s.fwc.secUp && fwOn s then f s else s

def execMbxFlagWrite (writer : Fin 9) (word : Fin 64) (val : Word) (s : State) : Result :=
  .next (mbxBy s writer.val (fun s => mbxWrite s writer.val (4 * word.val) val))

def execMbxDbSet (writer : Fin 9) (target : Fin 9) (bits : Word) (s : State) : Result :=
  .next (mbxBy s writer.val (fun s => mbxWrite s writer.val (0x200 + 0x20 * target.val) bits))

def execMbxMsg (writer : Fin 9) (target : Fin 9) (word : Word) (s : State) : Result :=
  .next (mbxBy s writer.val (fun s => mbxWrite s writer.val (0x20C + 0x20 * target.val) word))

def execMbxMsgPop (reader : Fin 9) (target : Fin 9) (s : State) : Result :=
  .next (mbxBy s reader.val (fun s => mbxRead s reader.val (0x210 + 0x20 * target.val)))

/-- R713: mtime reaches a core's mtimecmp. -/
def execMtimeCompare (core : CoreIx) (s : State) : Result :=
  let c := tabGet 0 s.fwc.mtimecmp core.val
  .next (if !fwOn s then s else { s with fwc := { s.fwc with mtime := max s.fwc.mtime c } })

/-! ## Errors -/

/-- R720: an error in firmware SRAM or ring memory at an index of normal memory; a double-bit error faults the access of the core that
found it. -/
def execMemoryEccError (ix : Fin 5242880) (double : Bool) (core : Option CoreIx) (fetch : Bool) (s : State) : Result :=
  .next (if !double then bump s Reg.FWC_SRAM_ECC F.FWC_SRAM_ECC_CORR
    else
      let s := memUe s ((core.map (fun c => c.val)).getD 0) ix.val
      match core with
      | some c => if coreRuns s c.val then coreFault s c.val (if fetch then 1 else 5) else s
      | none => s)

/-- R721: an error in a cache line. -/
def execCacheEccError (core : CoreIx) (icache : Bool) (line : Fin 81920) (double : Bool) (s : State) : Result :=
  let n := core.val
  let l := line.val
  let d := dirtyOf s l
  let dirty := !icache ∧ d.data ≠ [] ∧ d.core = n
  .next (if dirty ∧ double then
      let s := dropDirty s l
      let s := setCore s n (fun c => { untag c false l with wb := c.wb.filter (fun x => x != l) })
      let s := record (raise s Reg.FWC_EVENT F.FWC_EVENT_CACHE_UE) .mgmt 0x10 0x05 n 5 (memAddr (l * 64)) 0
      let s := boundaryFail s 15 n (memAddr (l * 64))
      if coreRuns s n then askRestart s n .cacheEcc else s
    else if dirty then bump s (Reg.FWC_ECC_CNT n) F.FWC_ECC_CNT_DCORR
    else if cached s n icache l then
      let s := bump s (Reg.FWC_ECC_CNT n) (if icache then F.FWC_ECC_CNT_ICORR else F.FWC_ECC_CNT_DCORR)
      fillLine (setCore s n (fun c => untag c icache l)) n icache l
    else s)

/-- R722: a register access of a core goes unanswered for 1 µs. -/
def execRegisterAccessTimeout (core : CoreIx) (store : Bool) (s : State) : Result :=
  .next (if coreRuns s core.val then
    raise (coreFault s core.val (if store then 7 else 5)) Reg.FWC_EVENT F.FWC_EVENT_BUS_TIMEOUT else s)

/-! ## The firmware loader -/

/-- R732: the first pass and the signature are done. -/
def execFwVerifyDone (got : Fetched) (s : State) : Result := .next (if fwOn s ∧ s.fwc.ld.phase = .fetch then fwVerify s got else s)

/-- R734, R736, R748: the second pass is done. -/
def execFwWriteDone (got : Fetched) (s : State) : Result := .next (if fwOn s ∧ s.fwc.ld.phase = .write then fwWrite s got else s)

/-! ## Ready flag, watchdog and restarts -/

/-- R739: a core sets or clears its ready flag. -/
def execReadyWe (core : CoreIx) (ready : Bool) (s : State) : Result := .next (setReady s core.val ready)

/-- R739: KICK 0xA5. -/
def execKick (core : CoreIx) (s : State) : Result :=
  .next (if coreRuns s core.val then setCore s core.val (fun c => { c with wdFrom := now s, wdLen := fld s (Reg.FWC_WDOG core.val) F.FWC_WDOG_WD_T * 10000 }) else s)

/-- R743: RESTART_SELF. -/
def execRestartSelf (core : CoreIx) (s : State) : Result := .next (if coreRuns s core.val then restartAsked s core.val .self else s)

/-- R740: no kick for WD_T. A watchdog of a core in QUIESCE counts as its quiescing (Table 15.8). -/
def execWatchdogExpiry (core : CoreIx) (s : State) : Result :=
  let n := core.val
  .next (if coreRuns s n then timedRestart (reach s ((coreOf s n).wdFrom + (coreOf s n).wdLen)) n .watchdog else s)

/-- R741: the ready flag has not been raised within READY_TO. -/
def execReadyTimeout (core : CoreIx) (s : State) : Result :=
  let n := core.val
  .next (if (coreOf s n).state = .run ∧ coreRuns s n ∧ !(coreOf s n).ready then
    timedRestart (reach s ((coreOf s n).readyFrom + (coreOf s n).readyLen)) n .readyTimeout else s)

/-- R744: a restarting core is released again. -/
def execCoreRestartRelease (core : CoreIx) (s : State) : Result :=
  .next (if fwOn s ∧ (coreOf s core.val).state = .restart then backDone (coreRelease s core.val true) else s)

/-- R749: QUIESCE_TO passes. -/
def execQuiesceTimeout (core : CoreIx) (s : State) : Result :=
  let n := core.val
  .next (if fwOn s ∧ (coreOf s n).state = .quiesce then
    let s := reach s ((coreOf s n).causeAt + fld s Reg.FWC_LIVE_CFG F.FWC_LIVE_CFG_QUIESCE_TO * 10000)
    handRestart (raise s Reg.FWC_LD_EVENT F.FWC_LD_EVENT_QUIESCE_TIMEOUT) n else s)

end Sys2Proof.Machine
end

