-- ==== Sys2Proof/Machine/Franking.lean ====
section
/-! DEFINITION. Commands of franking, feed-forward and ballast (ch. 11). -/

namespace Sys2Proof.Machine

open Host

/-! ## Grants -/

/-- ΔP_k, 1/8 W: DI × the rail's committed setpoint voltage. -/
def deltaP (s : State) (k p : Nat) : Nat :=
  aF s (Reg.FQ_CLASS k) F.FQ_CLASS_DI * vsetQ (aF s (Reg.CH_VSET (partRail s p)) F.CH_VSET_VSET) / 8000

/-- ΔP_net = max(0, ΔP − (Q − Q_res)) and the ballast set against it (R538). -/
def deltaNet (s : State) (dp : Nat) : Nat × Nat := ((dp + qRes s) - s.fq.q8, min dp (s.fq.q8 - qRes s))

/-- G1 of Table 11.4. -/
def gateRail (s : State) (p : Nat) : Bool :=
  railState s (partRail s p) == .reg && !railFrozen s (partRail s p) && !dieFallen s (partDie s p)

/-- G2, R540: the present slot is this device's. -/
def gateSlot (s : State) : Bool :=
  let n := 2 ^ aF s Reg.FQ_STAG F.FQ_STAG_SLOTS_LOG
  let own := if aOn s Reg.FQ_STAG F.FQ_STAG_SLOT_OVR then aF s Reg.FQ_STAG F.FQ_STAG_SLOT_SEL else ownNode s
  n == 1 || now s / (aF s Reg.FQ_STAG F.FQ_STAG_SLOT_T * 10) % n == own % n

/-- G3. -/
def gateSpacing (s : State) : Bool :=
  match s.fq.lastHeavy with
  | some t => decide (t + s.fq.spacing * 100 ≤ now s)
  | none => true

/-- G4: the step headroom of the rail. -/
def gateStep (s : State) (p k : Nat) : Bool :=
  let r := partRail s p
  let lim := aF s (Reg.FQ_STEP r) F.FQ_STEP_ISTEP
  let win := aF s (Reg.FQ_STEP r) F.FQ_STEP_STEP_WIN * 1000
  let used := ((s.fq.stepGrants.filter (fun g => g.1 == r && decide (now s < g.2.1 + win))).map (fun g => g.2.2)).sum
  lim == 0 || decide (used + aF s (Reg.FQ_CLASS k) F.FQ_CLASS_DI ≤ lim * 16)

/-- G5: the ramp ceiling. -/
def gateRamp (s : State) (p k : Nat) : Bool :=
  rampRate s true == 0 || decide (((s.fq.power + rPend s + (deltaNet s (deltaP s k p)).1) * 1000 : Nat) ≤ s.fq.ceilC)

/-- Every gate for an intent; a forced one needs G1 alone. -/
def gatesPass (s : State) (i : Intent) : Bool :=
  gateRail s i.part && (i.forced || (gateSlot s && gateSpacing s && gateStep s i.part i.cls && gateRamp s i.part i.cls && !shedOn s))

/-- The head of a queue. -/
def headOf (s : State) (q : Nat) : Option Intent := (queueOf s q).items.head?

/-- The head leaves its queue, disarmed; light intents behind it are answered (R528). -/
def popHead (s : State) (q : Nat) : State :=
  let s := setQueue s q (fun x => { x with items := x.items.tail })
  lightDrain { s with fq := { s.fq with armed := s.fq.armed.filter (fun a => a != q) } } q

/-- PRE_LEAD, ns. -/
def preLead (s : State) : Nat := aF s Reg.FQ_PRE F.FQ_PRE_PRE_LEAD * 10

/-- R534: a heavy grant: pre-position window, R308 and Drip exit on the rail, R_pend, and the history of the queue and device. -/
def grantHeavy (s : State) (q : Nat) (i : Intent) (dp kind : Nat) (wait : Bool) : State :=
  let net := deltaNet s dp
  let r := partRail s i.part
  let k : FrankSt := { queue := q, part := i.part, cls := i.cls, tag := i.tag, dur := i.dur, kind := kind, grantAt := now s,
                       launch := now s + preLead s, waitFack := wait, net := net.1, res := net.2 }
  let s := frankPhases s r
  let s := setQueue s q (fun x => { x with lastGrant := some (now s), grants := x.grants + 1,
                                           intervals := match x.lastGrant with
                                             | some t => ((now s - t) :: x.intervals).take 7
                                             | none => x.intervals })
  { s with fq := { s.fq with franks := s.fq.franks ++ [k], lastHeavy := some (now s),
                             stepGrants := s.fq.stepGrants ++ [(r, now s, aF s (Reg.FQ_CLASS i.cls) F.FQ_CLASS_DI)] } }

/-- R543, R566: a forced frank is granted. -/
def grantForced (s : State) (q : Nat) (i : Intent) : State :=
  let n := aF s (Reg.FQ_PCFG i.part) F.FQ_PCFG_FORCE_N
  let wait := decide (n < curN s i.part)
  let s := if heavyClass s i.cls then grantHeavy s q i (deltaP s i.cls i.part * n / 1024) 1 wait
    else { s with fq := { s.fq with franks := s.fq.franks ++ [{ queue := q, part := i.part, cls := i.cls, tag := i.tag, dur := i.dur, kind := 1,
                                                                grantAt := now s, launch := now s + preLead s, waitFack := wait }] } }
  let s := raise (bump s Reg.FQ_CNT2 F.FQ_CNT2_FORCED) Reg.FQ_EVENT F.FQ_EVENT_FORCED
  let s := record s .control 0x0D 0x01 q 0 i.tag (now s - i.at_)
  popHead (sinkTake s 4) q

/-- The queues whose heads are forced, then those armed, in arming order. -/
def grantOrder (s : State) : List Nat :=
  ((List.range 64).filter (fun q => (headOf s q).any (fun i => i.forced))) ++ s.fq.armed

/-- R533, R560: the first armed (or forced) head that passes every gate is granted, one in a CLK_CTL cycle. -/
def execHeavyGrant (s : State) : Result :=
  let s := match s.fq.lastHeavy with
    | some t => reach s (t + 2)
    | none => s
  match (grantOrder s).find? (fun q => (headOf s q).any (gatesPass s)) with
  | none => .next s
  | some q =>
    match headOf s q with
    | none => .next s
    | some i =>
      if i.forced then .next (grantForced s q i)
      else
        let s := grantHeavy s q i (deltaP s i.cls i.part) 0 false
        .next (popHead (bump s Reg.FQ_CNT F.FQ_CNT_HEAVY) q)

/-- Change the first frank that a predicate selects. -/
def setFrank (s : State) (sel : FrankSt → Bool) (f : FrankSt → FrankSt) : State :=
  let pre := s.fq.franks.takeWhile (fun k => !sel k)
  match s.fq.franks.dropWhile (fun k => !sel k) with
  | k :: t => { s with fq := { s.fq with franks := pre ++ f k :: t } }
  | [] => s

/-- R531, R543: a granted frank is sent so as to reach the port cell at its launch. -/
def execFrankSend (queue : QueueIx) (s : State) : Result :=
  let q := queue.val
  let sel := fun (k : FrankSt) => k.queue == q && !k.sent && !k.waitFack
  match s.fq.franks.find? sel with
  | none => .next s
  | some k =>
    let d := queueDie s q
    let s := reach s (k.launch - fld s (Reg.PB_LAT d) F.PB_LAT_L_DOWN / 16)
    .next (frankSend (setFrank s sel (fun k => { k with sent := true })) d q k.tag k.kind)

/-- The end of a forced frank's ceiling: DUR after the launch, or FORCE_T × 10 µs (R544). -/
def ceilEnd (s : State) (k : FrankSt) (t : Nat) : Nat :=
  t + if k.dur = 0 then aF s (Reg.FQ_PCFG k.part) F.FQ_PCFG_FORCE_T * 10000 else k.dur * 1000

/-- R531, R541, R544, R555: a frank reaches the port cell. -/
def execHeavyLaunch (queue : QueueIx) (s : State) : Result :=
  let q := queue.val
  let sel := fun (k : FrankSt) => k.queue == q && k.sent && !k.launched
  match s.fq.franks.find? sel with
  | none => .next s
  | some k =>
    let s := reach s k.launch
    let s := setFrank s sel (fun k => { k with launched := true })
    let s := if k.kind = 1 then
        let cs := s.fq.ceils
        let pre := cs.takeWhile (fun c => !(c.part == k.part && c.queue == q && c.until_ == none))
        match cs.dropWhile (fun c => !(c.part == k.part && c.queue == q && c.until_ == none)) with
        | c :: t => { s with fq := { s.fq with ceils := pre ++ { c with until_ := some (ceilEnd s k (now s)) } :: t } }
        | [] => s
      else s
    if heavyClass s k.cls then
      let s := balZero s k.part
      let s := setBal s k.part (fun x => { x with lastLaunch := some (now s), busyFor := max (k.dur * 1000) 10000, hintQ := false })
      let n := s.fq.quiet + 1
      if 2 ^ aF s Reg.FQ_STAG2 F.FQ_STAG2_QUIET_LOG ≤ n then
        .next { s with fq := { s.fq with quiet := 0, pinS := false,
                                         spacing := max (s.fq.spacing - aF s Reg.FQ_STAG2 F.FQ_STAG2_S_STEP) (min s.fq.spacing (aF s Reg.FQ_STAG2 F.FQ_STAG2_S_MIN)) } }
      else .next { s with fq := { s.fq with quiet := n } }
    else .next s

/-- R530: the port cell takes a frank and acknowledges it. -/
def execFrank (die : DieIx) (queue : QueueIx) (value : BitVec 24) (s : State) : Result :=
  let d := die.val
  let q := queue.val
  let s := wireDrop s (fun m => m.die == d && m.lane == laneDown && m.typ == 4 && m.data / 2 ^ 32 == 0x80 + q)
  let s := setPort s d (fun x => frankTake x q value.toNat)
  .next (statusSend s d 0x3F 0x01 ((0x80 + q) * 2 ^ 24 + 0x3F * 2 ^ 16))

/-! ## Intents -/

/-- R526–R528, R549, R563, R567: an intent that reached the BX1200. -/
def intentTake (s : State) (d q : Nat) (i : Intent) : State :=
  if s.top.state = .decaf ∨ !structured s then frankCancel s d q i.tag
  else if !queueEn s q ∨ queueDie s q ≠ d ∨ !partHere s i.part ∨ partDie s i.part ≠ d then
    let s := raise (bump s Reg.FQ_CNT2 F.FQ_CNT2_BAD) Reg.FQ_EVENT F.FQ_EVENT_BAD
    frankCancel (record s .control 0x0D 0x02 q 0 i.tag 0) d q i.tag
  else if 32 ≤ (queueOf s q).items.length then
    let s := raise s Reg.FQ_EVENT F.FQ_EVENT_OVERFLOW
    frankCancel (record s .control 0x0D 0x03 q 0 i.tag 0) d q i.tag
  else if railState s (partRail s i.part) ≠ .reg then frankCancel s d q i.tag
  else lightDrain (setQueue s q (fun x => { x with items := x.items ++ [i] })) q

def execIntent (die : DieIx) (seq : Fin 64) (queue : QueueIx) (cls : Fin 16) (part : PartIx) (tag : Fin 4096) (dur : Fin 2048) (s : State) : Result :=
  .next (lane0 s die.val seq.val 1 queue.val (fun s =>
    intentTake s die.val queue.val { cls := cls.val, part := part.val, tag := tag.val, dur := dur.val, at_ := now s }))

/-- R532, R562: an FQ_GRANT word. -/
def fqGrant (s : State) (val : Word) : State :=
  let q := fldOf val F.FQ_GRANT_QUEUE
  if fldOf val F.FQ_GRANT_GO = 0 then s
  else if (headOf s q).any (fun i => heavyClass s i.cls) ∧ !s.fq.armed.contains q ∧ s.fq.armed.length < 8 ∧ !s.fq.fixed then
    { s with fq := { s.fq with armed := s.fq.armed ++ [q] } }
  else raise s Reg.FQ_EVENT F.FQ_EVENT_GRANT_IGNORED

/-- R548: a heartbeat of the scheduler. -/
def fqSchedHb (s : State) : State :=
  let s := { s with fq := { s.fq with lastHb := some (now s), hbSeen := true } }
  if schedRestart s || s.fq.schedFault then s else { s with fq := { s.fq with fixed := false } }

/-- R546: no heartbeat for SCHED_TO. -/
def execSchedTimeout (s : State) : Result :=
  match s.fq.lastHb with
  | some t => .next (fixedEnter (reach s (t + aF s Reg.FQ_SCHED F.FQ_SCHED_SCHED_TO * 1000)))
  | none => .next (fixedEnter s)

/-- R547, R824: in fixed-rate mode a heavy head is armed. -/
def execFixedRateArm (queue : QueueIx) (s : State) : Result :=
  let q := queue.val
  if s.fq.fixed ∧ (headOf s q).any (fun i => heavyClass s i.cls && !i.forced) ∧ !s.fq.armed.contains q ∧ s.fq.armed.length < 8 then
    let s := match (queueOf s q).lastGrant with
      | some t => reach s (t + frint s q)
      | none => s
    .next (sinkTake { s with fq := { s.fq with armed := s.fq.armed ++ [q] } } 4)
  else .next s

/-- R526, R543: the oldest intent of a queue that is not yet forced has waited DEADLINE: its partition's franking ceiling is set, and it is
granted if it is the head and G1 passes; behind a forced intent it waits its turn. -/
def execDeadlineExpiry (queue : QueueIx) (s : State) : Result :=
  let q := queue.val
  let wait := (queueOf s q).items.takeWhile (fun i => i.forced)
  match (queueOf s q).items.drop wait.length with
  | [] => .next s
  | i :: rest =>
    let s := reach s (i.at_ + aF s (Reg.FQ_QCFG q) F.FQ_QCFG_DEADLINE * 1000)
    let i := { i with forced := true }
    let s := setQueue s q (fun x => { x with items := wait ++ i :: rest })
    let s := { s with fq := { s.fq with ceils := s.fq.ceils ++ [{ part := i.part, queue := q, until_ := none }] } }
    .next (if wait = [] ∧ gateRail s i.part then grantForced s q i else s)

/-- R544: the ceilings of a partition that have lapsed go. -/
def execFrankCeilingEnd (part : PartIx) (s : State) : Result :=
  let p := part.val
  let mine := s.fq.ceils.filter (fun c => c.part == p)
  let s := if mine.all (fun c => c.until_.isSome) then reach s ((mine.filterMap (fun c => c.until_)).foldl max 0) else s
  .next { s with fq := { s.fq with ceils := s.fq.ceils.filter (fun c => !(c.part == p && (match c.until_ with | some t => decide (t ≤ now s) | none => false))) } }

/-! ## Ramp -/

/-- R537: the 1 µs update of P, C and D; franks past every window of theirs are forgotten. -/
def execRampUpdate (s : State) : Result :=
  let p := if s.fq.pNum = 0 then (((rails s).map (railPow s)).sum / 32000).toNat else (s.fq.pAcc / (32000 * s.fq.pNum : Nat)).toNat
  let s := { s with fq := { s.fq with power := p, pAcc := 0, pNum := 0 } }
  let c := min (s.fq.ceilC + (rampRate s true : Nat)) ((p * 1000 : Nat) + rampBand s true)
  let d := max (s.fq.floorD - (rampRate s false : Nat)) ((p * 1000 : Nat) - rampBand s false)
  .next { s with fq := { s.fq with ceilC := c, floorD := d,
                                   franks := s.fq.franks.filter (fun k => !k.launched || inPreWindow s k || inPend s k),
                                   stepGrants := s.fq.stepGrants.filter (fun g => decide (now s < g.2.1 + 255000)) } }

/-! ## Hints and ballast -/

/-- The partitions a hint names. -/
def hintParts (s : State) (d : Nat) (all : Bool) (p : Nat) : List Nat := (dieParts s d).filter (fun k => all || k == p)

/-- R551: COMM_BEGIN: a BAL for each named partition, due LEAD after the hint's posting. -/
def execCommBegin (die : DieIx) (seq : Fin 64) (queue : QueueIx) (all : Bool) (part : PartIx) (lead : Fin 4096) (s : State) : Result :=
  let d := die.val
  .next (lane0 s d seq.val 2 queue.val (fun s =>
    let s := raise (bump s Reg.BAL_HINT_CNT F.BAL_HINT_CNT_BEGIN) Reg.BAL_EVENT F.BAL_EVENT_HINT
    let due := now s + lead.val * 1000 - fld s (Reg.PB_LAT d) F.PB_LAT_L_UP / 16
    if structured s then { s with fq := { s.fq with hints := s.fq.hints ++ (hintParts s d all part.val).map (fun p => { part := p, dueAt := due }) } }
    else s))

/-- R552: COMM_END is counted and recorded in BAL_EVENT. -/
def execCommEnd (die : DieIx) (seq : Fin 64) (queue : QueueIx) (s : State) : Result :=
  .next (lane0 s die.val seq.val 2 queue.val (fun s =>
    raise (bump s Reg.BAL_HINT_CNT F.BAL_HINT_CNT_END) Reg.BAL_EVENT F.BAL_EVENT_HINT))

/-- R551: the level of an eligible partition rises to at least min(PRE, its ceiling), and its power counts in Q. -/
def execHintBallastSend (part : PartIx) (s : State) : Result :=
  let p := part.val
  match s.fq.hints.find? (fun h => h.part == p) with
  | none => .next s
  | some h =>
    let s := reach s (h.dueAt - fld s (Reg.PB_LAT (partDie s p)) F.PB_LAT_L_DOWN / 16)
    let s := { s with fq := { s.fq with hints := s.fq.hints.eraseP (fun k => k.part == p) } }
    let lvl := max (balOf s p).level (min (aF s (Reg.BAL_CFG p) F.BAL_CFG_PRE) (balCeil s p))
    if balElig s p ∧ !s.fq.released ∧ (balOf s p).level < lvl then
      let w := balPow s p lvl - balPow s p (balOf s p).level
      .next (setBal (balSend { s with fq := { s.fq with q8 := s.fq.q8 + w } } p lvl) p (fun x => { x with hintQ := true }))
    else .next s

/-- The level the loop gives a partition, before and after its ceiling and SLEW, and the level that R554 leaves. -/
def balLevel (s : State) (p q sum : Nat) : Nat × Nat :=
  let raw := (255 * q * 2 + sum) / (2 * max sum 1)
  let lo := aF s (Reg.BAL_ENV p) F.BAL_ENV_FLOOR
  let hi := balCeil s p
  let last := (balOf s p).level
  let slew := aF s (Reg.BAL_ENV p) F.BAL_ENV_SLEW
  let l := min hi (max lo raw)
  let v := if last + slew < l then last + slew else if l + slew < last then last - slew else l
  (raw, v)

/-- R554: the highest level up to `v` at which the partition's power does not pass its p_lim. -/
def balCap (s : State) (p v : Nat) : Nat :=
  let last := (balOf s p).level
  let lim := fld s (Reg.CAP_PWR p) F.CAP_PWR_P_LIM
  let base := (partP s p / 32000).toNat - balPow s p last
  if base + balPow s p v ≤ lim then v else min v ((lim - base) * 255 / max (balPmax s p) 1)

/-- R553–R556, R558: the 10 µs update of the ballast. -/
def execBallastUpdate (s : State) : Result :=
  let s := forEach ((parts s).filter (fun p => thermBinds s p && (balOf s p).level != 0)) s
    (fun s p => raise (balZero s p) Reg.BAL_EVENT F.BAL_EVENT_RELEASE_THERM)
  if balLoopOn s then
    let el := (parts s).filter (balElig s)
    let e := (s.fq.floorD - (s.fq.power * 1000 : Nat)) / 1000
    let top := (el.map (fun p => balCeil s p * balPmax s p)).sum / 255
    let q := (clampI 0 top (s.fq.q8 + e)).toNat
    let sum := (el.map (balPmax s)).sum
    let lv := el.map (fun p => (p, balLevel s p q sum))
    let pin := (lv.filter (fun x => decide (balCeil s x.1 < x.2.1) || x.2.2 != min (balCeil s x.1) (max (aF s (Reg.BAL_ENV x.1) F.BAL_ENV_FLOOR) x.2.1))).map (fun x => x.1)
    let above := (lv.filter (fun x => decide (balCeil s x.1 < x.2.1))).map (fun x => x.1)
    let s := { s with fq := { s.fq with q8 := q, balPin := pin, balOver := above } }
    .next (forEach lv s (fun s x =>
      let v := balCap s x.1 x.2.2
      if v = (balOf s x.1).level then s else balSend s x.1 v))
  else
    .next (forEach ((parts s).filter (fun p => (balOf s p).level != 0)) { s with fq := { s.fq with balPin := [] } } (fun s p =>
      let v := balCap s p (balOf s p).level
      if v = (balOf s p).level then s
      else balSend { s with fq := { s.fq with q8 := s.fq.q8 - (balPow s p (balOf s p).level - balPow s p v) } } p v))

/-- R565: no BALE report of a present site for 4 of its intervals. -/
def execBaleGap (die : DieIx) (site : SiteIx) (s : State) : Result :=
  if siteHere s die.val site.val then
    .next (raise (setSite s die.val site.val (fun x => { x with baleGap := true })) Reg.BAL_EVENT F.BAL_EVENT_BALE_GAP)
  else .next s

end Sys2Proof.Machine
end

