-- ==== Sys2Proof/Machine/LinkTx.lean ====
section
/-! DEFINITION. The transmit side of a lane: the bytes of a frame, and the choice of the next block (R595). -/

namespace Sys2Proof.Machine

/-- Table 12.6: the body of a frame as bytes. -/
def frameBytes (f : Frame) : List Byte :=
  leBytes 2 (f.dest % 1024 + f.scope % 4 * 2 ^ 14) ++ leBytes 2 (f.src % 1024) ++ leBytes 2 f.typ ++ leBytes 2 0 ++ leBytes 4 f.epoch
    ++ leBytes 4 f.oseq ++ f.body

def putBytes (l : List Byte) (off : Nat) (b : List Byte) : List Byte := l.take off ++ b ++ l.drop (off + b.length)

/-- R608: SYNC takes t1 and SYNC_RESP takes t3 as the frame leaves; the exchange on the child's side keeps t3. -/
def stampOut (s : State) (q : QFrame) : QFrame × State :=
  let put (off : Nat) : QFrame := { q with frame := { q.frame with body := putBytes q.frame.body off (stampBytes (stampNow s)) } }
  if q.frame.typ = 0x0101 then (put 4, s)
  else if q.frame.typ = 0x0102 then
    match s.tb.xch with
    | some x => if x.xid = leAt q.frame.body 0 4 then (put 16, { s with tb := { s.tb with xch := some { x with t3 := some (stampNow s) } } }) else (put 16, s)
    | none => (put 16, s)
  else (q, s)

def sentBlock (s : State) (n : Nat) (b : TxBlock) : State := setLane s n (fun x => { x with sent := b })

/-- Whether an ACK or CREDIT of a class waits. -/
def ackWaits (x : LaneCls) : Bool := x.ack.isSome || x.owed != 0

/-- One block time passes for the ACK and CREDIT blocks that wait. -/
def waitBlocks (s : State) (n : Nat) : State :=
  forEach [1, 2, 3] s (fun s c => setLcls s n c (fun x => { x with waited := if ackWaits x then x.waited + 1 else 0 }))

/-- A CREDIT block returns everything owed that it can hold. -/
def sendCredit (s : State) (n : Nat) : State :=
  let g (c m : Nat) : Nat := min (lclsOf s n c).owed m
  let c0 := min (laneOf s n).c0owed 7
  let s := sentBlock s n (.credit c0 (g 1 255) (g 2 255) (g 3 255))
  let s := setLane s n (fun x => { x with c0owed := x.c0owed - c0 })
  forEach [1, 2, 3] s (fun s c => setLcls s n c (fun x => { x with owed := x.owed - min x.owed 255, waited := if x.ack.isSome then x.waited else 0 }))

def sendAck (s : State) (n c : Nat) (nak : Bool) (lseq : Nat) : State :=
  setLcls (sentBlock s n (.ack c nak lseq)) n c (fun x => { x with ack := none, waited := 0 })

/-- The lowest class whose ACK has waited 16 blocks. -/
def ackDue (s : State) (n : Nat) : Option (Nat × Bool × Nat) :=
  ([1, 2, 3].filterMap (fun c => if 16 ≤ (lclsOf s n c).waited then (lclsOf s n c).ack.map (fun a => (c, a.1, a.2)) else none)).head?

def creditDue (s : State) (n : Nat) : Bool := [1, 2, 3].any (fun c => 16 ≤ (lclsOf s n c).waited && (lclsOf s n c).owed != 0)

/-- The oldest cell that waits, then the one of the lower arrival lane. -/
def oldestCell : List QCell → Option QCell
  | [] => none
  | c :: t => match oldestCell t with
    | none => some c
    | some d => if d.at_ < c.at_ ∨ (d.at_ = c.at_ ∧ d.lane < c.lane) then some d else some c

/-- The pair of transmit slots that is due to the partner of board lane `n`, lowest first (R616). -/
def xslotDue (s : State) (n : Nat) : Option Nat :=
  ((List.range 16).filter (fun j => s.fab.txDue.any (fun t => t / 2 == j && slotPeerF (framesOf s) false t == n - 6))).head?

def sendXslot (s : State) (n j : Nat) : State :=
  let s := sentBlock s n (.xslot j (sinkOf s (0x50 + 2 * j)) (sinkOf s (0x51 + 2 * j)))
  { s with fab := { s.fab with txDue := s.fab.txDue.filter (fun t => !(t / 2 == j && slotPeerF (framesOf s) false t == n - 6)) } }

/-- R637: a COMMIT_ANN or ALLOC of this master waits until the lane toward the standby has acknowledged it. -/
def heldBack (s : State) (n : Nat) (q : QFrame) : Bool :=
  match standbyLane s with
  | some m => m != n && q.lane == 10 && (q.frame.typ == 0x0111 || q.frame.typ == 0x0113)
      && (laneFrames s m).any (fun x => x.lane == 10 && x.frame.oseq == q.frame.oseq && x.frame.typ == q.frame.typ)
  | none => false

/-- The frame that a class would start: a resend, which holds its credits, or the head of its queue with credits for it (R593). -/
def startable (s : State) (n c : Nat) : Option (RFrame × Bool) :=
  let x := lclsOf s n c
  match x.resend with
  | r :: _ => some (r, true)
  | [] => match x.out with
    | q :: _ => if x.used + frameUnits q.frame ≤ creditLimit c ∧ !heldBack s n q then some ({ lseq := x.txSeq, q := q, ackDue := 0 }, false) else none
    | [] => none

/-- R595 rank 7: C1 first; of C2 and C3, three C2 frames for each C3 frame while both wait. -/
def nextClass (s : State) (n : Nat) : Option Nat :=
  let ok (c : Nat) : Bool := (startable s n c).isSome
  if ok 1 then some 1
  else if ok 2 && ok 3 then (if (laneOf s n).c2run < 3 then some 2 else some 3)
  else if ok 2 then some 2
  else if ok 3 then some 3
  else none

def startFrame (s : State) (n c : Nat) (r : RFrame) (again : Bool) : State :=
  let both := (startable s n 2).isSome && (startable s n 3).isSome
  let s := if c = 1 then s else setLane s n (fun x => { x with c2run := if c = 2 && both then x.c2run + 1 else 0 })
  let s := if again then setLcls s n c (fun x => { x with resend := x.resend.drop 1 })
    else setLcls (outPop s n c) n c (fun x => { x with txSeq := (x.txSeq + 1) % 4096, used := x.used + frameUnits r.q.frame })
  let (q, s) := stampOut s { r.q with units := 0 }
  let s := sentBlock s n (.sof c (frameLen q.frame) r.lseq q.frame.ttl)
  setLane s n (fun x => { x with prog := some { cls := c, lseq := r.lseq, left := frameBlocks q.frame, q := q, again := again } })

/-- The EOF of a frame: it awaits its acknowledgement (R592); a resend in progress goes on with it. -/
def endFrame (s : State) (n : Nat) (p : InProg) : State :=
  let r : RFrame := { lseq := p.lseq, q := p.q, ackDue := now s + aF s (Reg.TVL_CFG n) F.TVL_CFG_REPLAY_TO * 100 }
  let s := setLane (sentBlock s n (.eof (crc32c (frameBytes p.q.frame)))) n (fun x => { x with prog := none })
  if p.again then setLcls s n p.cls (fun x => { x with replay := x.replay.map (fun k => if k.lseq = p.lseq then r else k) })
  else setLcls s n p.cls (fun x => { x with replay := x.replay ++ [r], resend := if x.resend = [] then [] else x.resend ++ [r] })

/-- The next data block of the frame in progress, 8 bytes, the last padded with zeros. -/
def sendData (s : State) (n : Nat) (p : InProg) : State :=
  let k := frameBlocks p.q.frame - p.left
  let b := (frameBytes p.q.frame).drop (8 * k) |>.take 8
  let s := sentBlock s n (.data (b ++ List.replicate (8 - b.length) 0))
  setLane s n (fun x => { x with prog := some { p with left := p.left - 1 } })

/-- R324, R325, R612: the FAST block to the cascade position of a board lane: DUTY to a member of a rail that this device masters, IREP to
the master of one that it is a member of, else SYNC. -/
def fastBlock (s : State) (n : Nat) : FastBlk :=
  let k := n - 6
  match (rails s).find? (fun r => (memberPos s r).contains k && !s.tvl.wideDown.contains n), (rails s).find? (fun r => wideRole s r == 2 && widePos s r == k) with
  | some r, _ => { kind := 1, rail := r, boost := boosting s r, regok := railState s r == .reg && !boosting s r, fs := s.fab.fs, ms := s.fab.ms,
                   duty := min ((chOf s r).duty / 16) (2 ^ 18 - 1), n := tabGet 0 (chOf s r).memberAct k, i := 0 }
  | none, some r => { kind := 2, rail := r, boost := false, regok := false, fs := s.fab.fs, ms := s.fab.ms, duty := 0, n := 0,
                      i := satI 20 (railI s r) }
  | none, none => { kind := 0, rail := 0, boost := false, regok := false, fs := s.fab.fs, ms := s.fab.ms, duty := 0, n := 0, i := 0 }

/-- R595: the first ready block, and its rank. -/
def sendNext (s : State) (n : Nat) : Nat × State :=
  let x := laneOf s n
  let board := decide (6 ≤ n)
  match (if board then x.boostDue else []) with
  | b :: t => (1, setLane (sentBlock s n (.boost (b % 4) (b / 4))) n (fun x => { x with boostDue := t }))
  | [] =>
  if board && x.fastDue then (1, setLane (sentBlock s n (.fast (fastBlock s n))) n (fun x => { x with fastDue := false }))
  else
  match (if x.c0used < 4 then oldestCell (x.cells.filter (fun c => decide (c.at_ ≤ now s))) else none) with
  | some c => (2, cellLeft (setLane (sentBlock s n (.cell c.cell c.bad)) n (fun x => { x with cells := x.cells.erase c, c0used := x.c0used + 1 })) c)
  | none =>
  if x.c0owed ≠ 0 then (3, sendCredit s n)
  else
  match (if board then xslotDue s n else none) with
  | some j => (4, sendXslot s n j)
  | none =>
  match ackDue s n with
  | some (c, nak, l) => (5, sendAck s n c nak l)
  | none =>
  if creditDue s n then (5, sendCredit s n)
  else
  match x.prog with
  | some p => (6, if p.left = 0 then endFrame s n p else sendData s n p)
  | none =>
  match nextClass s n with
  | some c => (7, match startable s n c with
    | some (r, again) => startFrame s n c r again
    | none => s)
  | none => (8, sentBlock s n .idle)

end Sys2Proof.Machine
end

