-- ==== Sys2Proof/Machine/Link.lean ====
section
/-! DEFINITION. Commands of the Tvedrek link: lane training, blocks, frames, replay and credits, reductions and dead letters (ch. 12,
R816, R817). -/

namespace Sys2Proof.Machine
open Host

/-! ## Training (Table 12.3) -/

/-- R576: DETECT has seen a signal for 10 µs. -/
def execLaneSignalDetect (lane : LaneIx) (s : State) : Result :=
  .next (if (laneOf s lane.val).state = .detect then setLane s lane.val (fun x => { x with state := .eq }) else s)

def execLaneEqDone (lane : LaneIx) (s : State) : Result :=
  .next (if (laneOf s lane.val).state = .eq then setLane s lane.val (fun x => { x with state := .lock }) else s)

/-- Table 12.3: 64 consecutive valid headers. -/
def execLaneLock (lane : LaneIx) (s : State) : Result :=
  .next (if (laneOf s lane.val).state = .lock then setLane s lane.val (fun x => { x with state := .ident }) else s)

/-- R577: what the lane expects of the partner's TRAIN blocks. -/
def trainOk (s : State) (n role node peerLane tag : Nat) : Bool :=
  let f := framesOf s
  let own := laneRoleF f n
  ((own == 1 && role == 2) || (own == 2 && role == 1) || (own == 3 && role == 3))
    && (lanePeerNodeF f n == 0xFFFF || lanePeerNodeF f n == node) && (lanePeerLaneF f n == 0xFF || lanePeerLaneF f n == peerLane)
    && domainTagF f == tag

/-- R577, R578, R614: the partner's TRAIN blocks and the measured latency (1/16 ns). -/
def execLaneIdentDone (lane : LaneIx) (role node peerLane cpos_ tag lat : Nat) (s : State) : Result :=
  let n := lane.val
  let s := originFlush s
  if (laneOf s n).state ≠ .ident then .next s
  else if !trainOk s n role node peerLane tag then .next (laneWait (raise s (Reg.TVL_EVENT n) F.TVL_EVENT_MISMATCH) n)
  else
    let s := setLane s n (fun x => { x with state := .up, since := now s, cls := [], c0used := 0, c0owed := 0 })
    let s := raise s (Reg.TVL_EVENT n) F.TVL_EVENT_LINK_UP
    let s := setF s (Reg.TVL_STATUS n) F.TVL_STATUS_PEER_NODE node
    let s := setF s (Reg.TVL_STATUS n) F.TVL_STATUS_PEER_LANE peerLane
    let s := setF s (Reg.TVL_STATUS n) F.TVL_STATUS_PEER_CPOS cpos_
    let s := setF s (Reg.TVL_LAT n) F.TVL_LAT_LAT (min lat 4095)
    if 304 < lat then
      let s := raise (raise s (Reg.TVL_STATUS n) F.TVL_STATUS_LAT_ERR) (Reg.TVL_EVENT n) F.TVL_EVENT_LAT_ERR
      .next (wideLaneLost { s with tvl := { s.tvl with wideDown := n :: s.tvl.wideDown.filter (fun k => k != n) } } n)
    else
      .next { lower s (Reg.TVL_STATUS n) F.TVL_STATUS_LAT_ERR with tvl := { s.tvl with wideDown := s.tvl.wideDown.filter (fun k => k != n) } }

/-- R576: 10 ms have passed without UP. -/
def execLaneTrainTimeout (lane : LaneIx) (s : State) : Result :=
  let x := laneOf s lane.val
  if x.state = .detect ∨ x.state = .eq ∨ x.state = .lock ∨ x.state = .ident then .next (laneWait (reach s (x.since + 10000000)) lane.val)
  else .next s

/-- Table 12.3, R622: WAIT ends. -/
def execLaneWaitEnd (lane : LaneIx) (s : State) : Result :=
  let n := lane.val
  let x := laneOf s n
  if x.state = .wait then
    let s := reach s (x.since + (if x.longWait then 1000000000 else 10000000))
    let s := bump s (Reg.TVL_CNT n) F.TVL_CNT_RETRAINS
    .next (setLane s n (fun x => { x with state := .detect, since := now s, longWait := false }))
  else .next s

/-- R579: 16 of 64 blocks with invalid headers; `clkLost` says that CLK_TVL itself is lost (Table 2.14). -/
def execLaneLockLoss (lane : LaneIx) (clkLost : Bool) (s : State) : Result :=
  let n := lane.val
  if laneUp s n then
    let s := raise s (Reg.TVL_EVENT n) F.TVL_EVENT_LOCK_LOSS
    let s := if clkLost then clkFault s 7 else s
    .next (laneWait s n)
  else .next s

/-! ## Control blocks -/

/-- R574, R575: a block with a bad header, CRC-8 (`crc8`) or BTYPE. -/
def execInvalidBlock (lane : LaneIx) (crc8 : Bool) (s : State) : Result :=
  let n := lane.val
  if (laneOf s n).state = .disabled then .next s
  else
    let s := bump s (Reg.TVL_ERR n) F.TVL_ERR_HDR
    .next (if crc8 then boundaryFail s (if 6 ≤ n then 17 else 10) n 0 else s)

/-- R585, R593: a CREDIT block. -/
def execCredit (lane : LaneIx) (c0 : Fin 8) (c1 c2 c3 : Fin 256) (s : State) : Result :=
  let n := lane.val
  if laneUp s n then
    let s := setLane s n (fun x => { x with c0used := x.c0used - c0.val })
    .next (forEach [(1, c1.val), (2, c2.val), (3, c3.val)] s (fun s p => setLcls s n p.1 (fun x => { x with used := x.used - p.2 })))
  else .next s

/-- R592: the frames that the LSEQs of a predicate acknowledge are released. -/
def releaseTo (s : State) (n c : Nat) (keep : List RFrame → List RFrame) : State :=
  let x := lclsOf s n c
  let left := keep x.replay
  if left.length = x.replay.length then s
  else setLcls s n c (fun x => { x with replay := left, resend := x.resend.filter (fun r => left.any (fun k => k.lseq == r.lseq)), tries := 0 })

/-- The frames after the one acknowledged. -/
def afterSeq (lseq : Nat) (l : List RFrame) : List RFrame :=
  if l.any (fun r => r.lseq == lseq) then (l.dropWhile (fun r => r.lseq != lseq)).drop 1 else l

/-- R592: an ACK. -/
def execLinkAck (lane : LaneIx) (cls : Fin 4) (lseq : Fin 4096) (s : State) : Result :=
  if laneUp s lane.val ∧ cls.val ≠ 0 then .next (releaseTo s lane.val cls.val (afterSeq lseq.val)) else .next s

/-- R592: a NAK names the next LSEQ expected; earlier frames have arrived. -/
def execLinkNak (lane : LaneIx) (cls : Fin 4) (lseq : Fin 4096) (s : State) : Result :=
  if laneUp s lane.val ∧ cls.val ≠ 0 then
    let s := releaseTo s lane.val cls.val (fun l => if l.any (fun r => r.lseq == lseq.val) then l.dropWhile (fun r => r.lseq != lseq.val)
      else afterSeq ((lseq.val + 4095) % 4096) l)
    .next (resendFrom s lane.val cls.val lseq.val)
  else .next s

/-- R575: an ABORT block. The model takes a frame whole (FRAME_RECEIVE), so no part of one is held here. -/
def execAbortBlock (_lane : LaneIx) (s : State) : Result := .next s

/-! ## Receiving frames (R586–R591, R599) -/

def frameMax (c : Nat) : Nat := if c = 1 then 528 else 2064

/-- A frame that arrived in order is judged and goes on. -/
def frameAccept (s : State) (n : Nat) (f : Frame) : State :=
  let q : QFrame := { frame := f, lane := n, units := frameUnits f }
  if frameMax f.cls < frameLen f then deadFrame s 7 q
  else if !knownType f.typ || f.typ / 256 != f.cls then deadFrame s 5 q
  else if epochType f.typ && decide (f.epoch < s.dom.mepoch) then deadFrame s 6 q
  else routeFrame s q

/-- R591: what the receiver owes its partner for a class. -/
def ackSet (s : State) (n c : Nat) (nak : Bool) (lseq : Nat) : State :=
  setLcls s n c (fun x => { x with ack := some (nak, lseq % 4096), nakWait := nak })

/-- A whole frame arrives on a lane. One that is too long is discarded on its first block (R586). Its CRC-32C is verified while the receive buffer already holds it under a check of its own: a frame
that fails is discarded with both (R805, R806). -/
def frameArrive (s : State) (n : Nat) (lseq : Nat) (crcOk : Bool) (f : Frame) : State :=
  if !laneUp s n then s
  else if f.cls < 1 ∨ 3 < f.cls then deadFrame s 5 { frame := f, lane := n }
  else
    let x := lclsOf s n f.cls
    let behind := (x.rxSeq + 4096 - lseq % 4096) % 4096
    if behind = 0 ∧ frameMax f.cls < frameLen f then
      frameAccept (setLcls (ackSet s n f.cls false lseq) n f.cls (fun x => { x with rxSeq := (x.rxSeq + 1) % 4096 })) n f
    else if !crcOk then
      let s := boundaryFail (bump s (Reg.TVL_ERR n) F.TVL_ERR_FRAME_CRC) 11 n 0
      let s := bump (raise s Reg.TOP_INTEG_EVENT F.TOP_INTEG_EVENT_DISCARD) Reg.TOP_INTEG_CNT F.TOP_INTEG_CNT_DISCARD
      ackSet s n f.cls true x.rxSeq
    else if behind = 0 then frameAccept (setLcls (ackSet s n f.cls false lseq) n f.cls (fun x => { x with rxSeq := (x.rxSeq + 1) % 4096 })) n f
    else if x.nakWait then s
    else if behind ≤ 2048 then ackSet s n f.cls false (x.rxSeq + 4095)
    else ackSet s n f.cls true x.rxSeq

def execFrameReceive (lane : LaneIx) (lseq : Fin 4096) (crcOk : Bool) (f : Frame) (s : State) : Result :=
  .next (frameArrive s lane.val lseq.val crcOk f)

/-- R816: an OPERAND frame arrives. -/
def execOperand (lane : LaneIx) (lseq : Fin 4096) (f : Frame) (s : State) : Result :=
  .next (frameArrive s lane.val lseq.val true { f with cls := 2, typ := 0x0202 })

/-- R816: an IMAGE_SEG frame arrives. -/
def execImageSeg (lane : LaneIx) (lseq : Fin 4096) (f : Frame) (s : State) : Result :=
  .next (frameArrive s lane.val lseq.val true { f with cls := 3, typ := 0x0301 })

/-- R816: a REC_GATHER frame arrives. -/
def execRecGather (lane : LaneIx) (lseq : Fin 4096) (f : Frame) (s : State) : Result :=
  .next (frameArrive s lane.val lseq.val true { f with cls := 3, typ := 0x0302 })

/-! ## Replay, credits and transmission (R592–R595) -/

/-- R592: no ACK within REPLAY_TO of the EOF of the oldest frame. -/
def execReplayTimeout (lane : LaneIx) (cls : Fin 4) (s : State) : Result :=
  let x := lclsOf s lane.val cls.val
  match x.replay with
  | [] => .next s
  | r :: _ =>
    let sending := match (laneOf s lane.val).prog with
      | some p => p.again && p.cls == cls.val && p.lseq == r.lseq
      | none => false
    if sending || x.resend.any (fun k => k.lseq == r.lseq) then .next s
    else .next (resendFrom (reach s (r.ackDue)) lane.val cls.val r.lseq)

/-- R594: the head of a class queue of a lane has waited CRED_TO without credits; `lane` none: the frame that waits for space in the
delivery queue of the class (R816). -/
def execCreditTimeout (lane : Option LaneIx) (cls : Fin 4) (s : State) : Result :=
  match lane with
  | some l =>
    let n := l.val
    let x := lclsOf s n cls.val
    match x.out with
    | [] => .next s
    | q :: _ =>
      if laneUp s n ∧ creditLimit cls.val < x.used + frameUnits q.frame then
        let s := raise (reach s q.headDue) (Reg.TVL_EVENT n) F.TVL_EVENT_CRED_TIMEOUT
        .next (deadFrame (outPop s n cls.val) 4 { q with units := 0 })
      else .next s
  | none =>
    match (deliverOf s cls.val)[queueDepth]? with
    | none => .next s
    | some q =>
      let s := raise (reach s q.headDue) (Reg.TVL_EVENT q.lane) F.TVL_EVENT_CRED_TIMEOUT
      .next (deadFrame (deliverDrop s cls.val queueDepth) 4 { q with units := 0 })

/-- R595: a block boundary of a transmitter; the answer carries the rank of the block sent. -/
def execLaneTransmitSlot (lane : LaneIx) (s : State) : Result :=
  let n := lane.val
  if laneUp s n then
    let (k, s) := sendNext (originFlush s) n
    .next { waitBlocks s n with resp := .code k }
  else .next s

/-! ## Board-segment blocks (R414, R613, R616) -/

/-- A value for a transmit slot of the sender at position `k`. -/
def xslotTake (s : State) (k slot : Nat) (v : Int) : State :=
  let f := framesOf s
  forEach ((List.range 32).filter (fun t => xdevEnF f && slotEnF f true t && slotPeerF f true t == k && slotPairF f true t == slot)) s
    (fun s t => setRx s t (fun x => { x with next := some (satI 24 v) }))

/-- R616: an XSLOT block with the sender's transmit slots 2j and 2j + 1. -/
def execXslot (lane : LaneIx) (j : Fin 16) (v0 v1 : Int) (s : State) : Result :=
  let n := lane.val
  if 6 ≤ n ∧ laneUp s n then .next (xslotTake (xslotTake s (n - 6) (2 * j.val) v0) (n - 6) (2 * j.val + 1) v1) else .next s

/-- A member takes the rail master's BOOST blocks of its widened rail. -/
def takesBoost (s : State) (n r : Nat) : Bool :=
  decide (6 ≤ n) && laneUp s n && !s.tvl.wideDown.contains n && isRail s r && wideRole s r == 2 && widePos s r == n - 6
    && switching s r && !(chOf s r).wideLoss

/-- R414, R613: a BOOST block, edge start. -/
def execBoostStartBlock (lane : LaneIx) (rail : ChIx) (s : State) : Result :=
  .next (if takesBoost s lane.val rail.val && !boosting s rail.val then boostStart s rail.val else s)

/-- R414, R613: a BOOST block, edge end. -/
def execBoostEndBlock (lane : LaneIx) (rail : ChIx) (s : State) : Result :=
  .next (if takesBoost s lane.val rail.val then boostStop s rail.val else s)

/-! ## Reductions (R603–R606) -/

/-- R604: what a data plane gives for its elements. -/
def ownElem (op : Nat) (x : Int) : Int := if op = 3 then (if x = 0 then 0 else 1) else x

/-- R603, R604: a REDUCE from a tree edge below (`src` a lane), or from the local data plane (none). -/
def execReduce (src : Option LaneIx) (rid : Fin (2 ^ 32)) (op : Fin 4) (part : Bool) (contrib : Nat) (elems : List Int) (s : State) : Result :=
  let c : RedSt := { rid := rid.val, op := op.val, elems := elems.map satElem, contrib := contrib, partial_ := part, from_ := [], loc := false, openAt := 0 }
  match src with
  | none => .next (redAdd s none (ownNode s, 0) { c with elems := c.elems.map (ownElem op.val) })
  | some l =>
    let ids := match s.tvl.rx.find? (fun f => f.typ == 0x0201) with
      | some f => (f.src, f.dest)
      | none => (0, 0)
    let s := takeRx s 0x0201
    if (belowUp s).contains l.val then .next (redAdd s (some l.val) ids c) else .next s

/-- R605: RTO has passed since a reduction was opened. -/
def execReductionTimeout (rid : Fin (2 ^ 32)) (s : State) : Result :=
  match s.tvl.red.find? (fun r => r.rid == rid.val) with
  | none => .next s
  | some r => .next (redClose (reach s (r.openAt + aF s Reg.TVL_GCFG F.TVL_GCFG_RTO * 1000)) { r with partial_ := true })

/-! ## Dead letters (R600) -/

/-- A read of TVL_DLQ_W3_q removes the head entry. -/
def dlqPop (s : State) (q : Nat) : State := setDlq s q (fun x => { x with items := x.items.drop 1 })

/-- Word `w` of the head entry (Table 12.10); 0 where the queue is empty. -/
def dlqWord (s : State) (q w : Nat) : Nat :=
  match (dlqOf s q).items with
  | [] => 0
  | e :: _ =>
    match w with
    | 0 => e.reason % 16 + e.cls % 4 * 16 + e.lane % 16 * 64 + e.typ % 65536 * 65536
    | 1 => e.src % 1024 + e.dest % 1024 * 65536
    | 2 => e.at_ % 2 ^ 32
    | _ => e.at_ / 2 ^ 32 % 2 ^ 32

end Sys2Proof.Machine
end

