-- ==== Sys2Proof/Machine/ResetOps.lean ====
section
/-! DEFINITION. What each reset level clears and keeps (ch. 3, Table 3.7; ch. 20, Table 20.5; and the reset rules of each block). -/

namespace Sys2Proof.Machine

/-! ## Registers by domain (R919) -/

/-- Every register of the domains takes its reset value. -/
def regsDrop (s : State) (ds : List Domain) : State :=
  { s with regs := s.regs.filter (fun p => match regFind p.1 with | some r => !ds.contains r.domain | none => true) }

/-- The LIVE words that blocks keep of their own state, in a range of offsets, go with that state. -/
def liveDrop (s : State) (a b : Nat) : State :=
  { s with regs := s.regs.filter (fun p => !(decide (a ≤ p.1) && decide (p.1 < b) && (match regFind p.1 with | some r => r.domain == .live | none => false))) }

/-! ## Parts of blocks -/

/-- R726: the flag words of a plane are cleared. -/
def flagsClear (s : State) (plane : Nat) : State :=
  { s with fwc := { s.fwc with flags := s.fwc.flags.filter (fun p => flagPlaneF (framesOf s) p.1 != plane) } }

/-- R625: the frames of a class in every transmit and delivery queue are discarded with reason LINK_RESET; their credits are returned. -/
def framesDiscard (s : State) (c : Nat) : State :=
  let s := forEach lanes s (fun s n =>
    let l := (lclsOf s n c).out
    forEach l (setLcls s n c (fun x => { x with out := [] })) (fun s q => deadFrame s 0xC q))
  let l := deliverOf s c
  let s := forEach l (setDeliver s c []) (fun s q => deadFrame s 0xC q)
  { s with tvl := { s.tvl with rx := s.tvl.rx.filter (fun f => f.cls != c) } }

/-- The port cells see the down lanes drop and fall back; the dies train again, and resume as after a fallback (R442, R444, R447). -/
def pbOff (s : State) : State :=
  let s := forEach (List.range 4) s (fun s d => if (portOf s d).trained then setPort (portFallback s d) d (fun x => { x with trained := false }) else s)
  let s := forEach (List.range 4) s (fun s d => setDie s d (fun x =>
    { link := if x.link = .absent then .absent else .training, coreOn := x.coreOn, tempStale := x.link != .absent, droop := x.droop,
      trip := x.trip, safe := x.link != .absent }))
  { s with pb := { s.pb with wire := [], rail := [], part := [] } }

/-- R625: every lane to DISABLED, and the C0 and C1 queues are cleared. -/
def tvlOff (s : State) : State :=
  let s := lanesOff s
  { s with tvl := { s.tvl with lane := [], origin := [], lastOrigin := none, dlq := [], seen := [],
                               rx := s.tvl.rx.filter (fun f => f.cls != 1), deliver := tabErase s.tvl.deliver 1, wideDown := [] } }

/-- R344: Drip, shed and wide-loss state are cleared. -/
def chanClear (s : State) : State :=
  forEach (List.range 8) s (fun s c => setCh s c (fun x => { x with drip := .run, dripPhase := 0, burstPer := 0, shedCnt := 0, addCnt := 0, wideLoss := false }))

/-- The control plane's state is cleared (Table 3.7: fabric, FQ, PB link state, C0 and C1 queues). -/
def ctlOff (s : State) : State :=
  let s := pbOff (tvlOff s)
  let s := chanClear (flagsClear s 0)
  liveDrop (liveDrop { s with fab := {}, fq := { released := s.fq.released, power := s.fq.power } } 0x80000 0x90000) 0x190000 0x19A000

/-- The control plane goes on with the image in place: roles, queues, loops, lanes and the budget table start again. -/
def ctlOn (s : State) : State :=
  if s.img.applied then
    let s := fqApply (roleReset (btApply s))
    lanesApply (fabStart (capApply s))
  else roleReset s

/-- R157, level 3. -/
def ctlReset (s : State) : State := ctlOn (ctlOff (regsDrop s [.ctl]))

/-- The pending bank's local section, LOCAL_SEALED, SEALED and CHECK are cleared. -/
def btDataClear (s : State) : State :=
  let b := (pendBt s).filter (fun p => !(decide (0x810 ≤ p.1) && decide (p.1 < 0x890)) && p.1 != 15)
  let w := bw b 5
  setPendBt s (setBw b 5 (w % 2 ^ 16 + (w / 2 ^ 16 &&& 0xFFFA) * 2 ^ 16))

/-- The data plane's queues, flags and telemetry counts are cleared. -/
def dataOff (s : State) : State :=
  let s := flagsClear (framesDiscard s 2) 1
  let s := forEach (List.range 64) s (fun s r => if ringTel s r then setRing s r (fun x => { x with missed := 0 }) else s)
  { s with tvl := { s.tvl with red := [], redDone := [], result := [] } }

/-- R157, level 4; R486 for the estimator. -/
def dataReset (s : State) : State :=
  let s := btDataClear (dataOff (regsDrop s [.data]))
  if s.est.run then
    estStatus (forEach (regions s) { s with est := { s.est with region := [], checks := [], bal := [], blkFrom := now s } } regionRestart)
  else s

/-- Frame 0x0A's WP_INIT; in DECAF every field of the frame reads 0. -/
def wpInit (s : State) : Nat := if s.img.applied then fr s 0x0A 1 1 else 0

/-- R911: the sideband's latches, masks, connections and WRITE_PROTECT. -/
def sbmClear (s : State) : State := { s with sbm := { wp := wpInit s, mean := s.sbm.mean } }

/-- The rest of a flash command is ABORTED (Table 18.12). -/
def nvsRest (s : State) : State :=
  match s.nvs.cmd with
  | some c => nvCmdFail s 8 c.sector
  | none => s

/-- What a reset of the management plane stops: the loaders, the rings, the sideband, the store's command and the C3 queues. -/
def mgmtOff (s : State) : State :=
  let s := loadAbort s 0x15
  let s := if ldBusy s then ldEnd s 0x15 0 0xFFFF else s
  let s := nvsRest s
  let s := forEach (List.range 64) s (fun s r => ringStop s r 0)
  sbmClear (flagsClear (framesDiscard s 3) 2)

/-- Rings as they are after a reset that clears them. -/
def ringsClear (s : State) : State := setHir s (fun h => { h with ring := [], bulk := [] })

/-- R157, level 5. -/
def mgmtReset (s : State) : State := ringsClear (regsDrop (mgmtOff s) [.mgmt])

/-- R724, R759: the firmware complex, zeroed. -/
def fwcClear (s : State) : State :=
  let s := coresReset s
  { s with fwc := { secUp := s.fwc.secUp } }

/-- R801: interrupts route nowhere and every vector is masked. -/
def intClear (s : State) : State := setHir s (fun h => { h with unmask := [], pba := [], said := 0 })

/-- HALT causes that the reset itself clears, and the essential latches that are still set (Table 3.9). `kept` says that an uncorrectable
slot has discarded the image during a warm reset: that reset does not clear its cause (R178, R185, R233). -/
def haltReset (s : State) (kept : Bool) : State :=
  { s with top := { s.top with hActiveUe := s.top.hActiveUe && kept, hChan := s.top.hChan &&& (rd s Reg.PROT_CH_LATCH).toNat } }

/-- What warm and device resets clear alike. -/
def planesOff (s : State) : State :=
  let kept := s.top.rst.any (fun r => r.level == 2) && !s.img.applied
  let s := intClear (fwcClear (ringsClear (mgmtOff (dataOff (ctlOff s)))))
  let s := { s with top := { s.top with commits := [], ueParts := [], rst := none, startNext := none, stopping := false, dis := [] } }
  haltReset (lower s Reg.REC_CTL F.REC_CTL_SPILL_EN) kept

/-- The state in which a device or warm reset ends (R176, R179, R185). -/
def resetInto (s : State) (d : DevState) : State := enterState s (if haltCauses s != 0 then .halt else d)

/-- R157, level 2: HOLD registers take the retained hold list over their reset values (R203, R222), and R94 follows. -/
def warmReset (s : State) : State :=
  let s := regsDrop (planesOff s) [.ctl, .data, .mgmt, .warm]
  let s := holdReset { s with img := { s.img with slot := 0 } }
  let s := forEach s.img.retainedKeys s (fun s off => holdBoth s off (tabGet 0 s.img.retained off))
  let s := if s.img.applied then blocksApply s roleReset else s
  resetInto (sbmClear s) .loaded

/-- SEC's chain from ROM ends (ch. 19): SEC_OK follows the self-check `ok`, ID_STORE_ERR the check `idOk` of the identity store (R908). -/
def secBoot (s : State) (ok idOk : Bool) : State :=
  let s := setF s Reg.TOP_SUPPLY F.TOP_SUPPLY_SEC_OK (b2n ok)
  let s := { s with sec := { s.sec with idErr := !idOk }, fwc := { s.fwc with secUp := true } }
  if idOk then s else record s .mgmt 0x14 0x07 0 0 0 0

/-- SEC reboots from ROM: debug access closes, and what it was doing is dropped (R912). -/
def secReboot (s : State) (ok idOk : Bool) : State :=
  secBoot { s with sec := { fuse := s.sec.fuse, ever := s.sec.ever, wdogEver := s.sec.wdogEver } } ok idOk

/-- R157, level 1: the image is discarded, fuses are reread, HOLD registers take their reset values (R242, R391). A phase with a stage fault
stays out until PHASE_RETURN (R337). -/
def deviceReset (s : State) (secOk idOk : Bool) : State :=
  let s := planesOff s
  let s := senLow (phasesIdle s (List.range 64)) (List.range 16)
  let s := { s with img := {}, bt := {}, ch := [], cap := {}, est := {}, dom := { cid := s.dom.cid }, tvl := { oseq := s.tvl.oseq, xid := s.tvl.xid },
                    top := { s.top with classes := [] }, recd := { s.recd with spillBase := 0 } }
  let s := regsDrop s [.ctl, .data, .mgmt, .warm, .dev]
  let s := liveDrop (liveDrop s 0x80000 0x140000) 0x160000 0x200000
  let s := forEach (List.range 64) s (fun s p => setPh s p (fun x => { level := x.level, crowbar := x.crowbar, crowRail := x.crowRail, fault := x.fault }))
  let s := holdReset (fuseRead s)
  let s := sbmClear (secReboot (roleReset s) secOk idOk)
  resetInto s .decaf

end Sys2Proof.Machine
end

