-- ==== Sys2Proof/Machine/Resets.lean ====
section
/-! DEFINITION. Commands of power-on reset and the other reset levels, of the start and stop of the channels, and of the return from
BROWNOUT (ch. 3; R161, R763, R795, R963). -/

namespace Sys2Proof.Machine

open Host

/-! ## Power-on reset (R144–R152) -/

/-- Power-on reset is asserted. The flash keeps its contents and a tail commit that runs goes on (R375, R861); fuses, the accelerator's side
of each Postline, the JTAG port and host memory are not the BX1200's to clear. A phase that a latched crowbar holds stays LOW, while
VAUX feeds its pad, and its quad's SEN_q stays high unless a run supply is lost (R39, R146, R342). -/
def porAssert (s : State) (cause : PorCause) : State :=
  let quads := (List.range 16).filter (fun q => (quadPhases q).any (fun p => (phOf s p).crowbar))
  let keepAon := cause != .vauxRise
  let s := pbOff s
  let cause_ : Tab Word := if keepAon then s.regs.filter (fun p => p.1 == Reg.TOP_RST_CAUSE) else []
  let held : Tab PhSt := if keepAon then (s.ph.filter (fun p => p.2.crowbar)).map (fun p => (p.1, { level := .low, crowbar := true, crowRail := p.2.crowRail })) else []
  { regs := cause_
    ph := held
    quad := if cause = .pin then quads.map (fun q => (q, { sen := true })) else []
    nvs := { s.nvs with erase := none, eraseQ := [], cmd := none, scanning := false, life := if keepAon then s.nvs.life else [] }
    pb := { port := s.pb.port, site := s.pb.site, die := (s.pb.die.map (fun p => (p.1, ({ droop := p.2.droop, trip := p.2.trip } : DieSt)))).filter (fun p => p.2 != {}) }
    recd := { hostWin := s.recd.hostWin }
    hir := { sent := s.hir.sent, hostOut := s.hir.hostOut }
    sec := { fuse := s.sec.fuse }
    jtag := if keepAon then s.jtag else {}
    top := { porCause := cause, porstLow := cause == .pin, perstLow := s.top.perstLow, tripInLow := s.top.tripInLow, padsHiz := !keepAon }
    pending := s.pending
    resp := s.resp
    freeCtr := s.freeCtr }

/-- R145: PORST_N has been low for 1 µs. -/
def execPorstAssert (s : State) : Result := .next (porAssert s .pin)

def runBit : RunSupply → Fld
  | .vdd => F.TOP_SUPPLY_VDD_PG
  | .vdda18 => F.TOP_SUPPLY_VDDA18_PG
  | .vddsd => F.TOP_SUPPLY_VDDSD_PG

/-- R146: a run supply has been below its good level for 2 µs. -/
def execRunSupplyLoss (which : RunSupply) (s : State) : Result :=
  let s := if s.top.porHeld then s else porAssert s .runSupply
  .next (lower (raise s Reg.TOP_RST_CAUSE F.TOP_RST_CAUSE_RUNSUP) Reg.TOP_SUPPLY (runBit which))

/-- R147: VAUX falls below 2.70 V. -/
def execVauxHoldLoss (s : State) : Result := .next (porAssert s .vauxRise)

/-- R144, R145, R148, R139, R151, R301: power-on reset is released 2.0 ms after its conditions are met. `refclk` says whether REFCLK shows edges. -/
def execPorRelease (ovc cpos : Fin 4) (smba : Fin 8) (test refclk : Bool) (s : State) : Result :=
  if s.top.porHeld then
    let strap := ovc.val + 4 * cpos.val + 16 * smba.val + 128 * b2n test
    let s := if s.top.porCause = .pin then raise s Reg.TOP_RST_CAUSE F.TOP_RST_CAUSE_PIN_POR else s
    let s := { s with top := { s.top with porHeld := false, porstLow := false, padsHiz := false, pcieUp := !s.top.perstLow }, ph := [],
                      quad := (List.range 16).map (fun q => (q, { iref := 600 })),
                      tb := { running := refclk } }
    let s := wrN s Reg.TOP_STRAP strap
    .next (forEach [F.TOP_SUPPLY_VDD_PG, F.TOP_SUPPLY_VDDA18_PG, F.TOP_SUPPLY_VDDSD_PG] s (fun s f => raise s Reg.TOP_SUPPLY f))
  else .next s

/-- The clock conditions at the end of the power-on sequence: set where no monitor has found a fault (Table 3.4). -/
def clocksUp (s : State) : State :=
  let f := (rd s Reg.CLK_FAULT).toNat
  forEach [(0, 0), (1, 1), (2, 2), (3, 3), (4, 5), (5, 6)] s (fun s p =>
    if bitOf f p.1 || (decide (p.1 < 2) && !s.tb.running) then s else setF s Reg.CLK_STATUS ⟨p.2, 1⟩ 1)

/-- Registers that tell how requests through Window 0 ended. -/
def answerRegs : List Nat :=
  [Reg.TOP_COMMIT_STATUS, Reg.TOP_COMMIT_FAIL_ADDR, Reg.TOP_PLANE_VIOL, Reg.TOP_PLANE_VIOL_CNT, Reg.TOP_RST_STATUS, Reg.TOP_START_STATUS,
   Reg.SEC_IMG_STATUS, Reg.SEC_IMG_FAIL_INFO, Reg.NVS_CMD_STATUS]

/-- R38: every register that software writes, or that answers it, is at its reset value again; what hardware has found since the release of
power-on reset (supplies, straps, clocks, latches, events) stays as it is found. -/
def regsFresh (s : State) : State :=
  let s := { s with regs := s.regs.filter (fun p => match regFind p.1 with
    | some r => !([Access.rw, Access.rwl, Access.hold].contains r.access) && !answerRegs.contains p.1
    | none => false) }
  { s with active := [], img := {}, top := { s.top with classes := [], commits := [], rst := none }, recd := { s.recd with puts := [], spillBase := 0 },
           nvs := { s.nvs with cmd := none } }

/-- Table 3.4, R38, R150, R189, R132: fuses are read, the ROM self-check has ended, DECAF (or HALT) is entered and the store's scan begins. -/
def execPowerOnSequenceDone (secOk idOk : Bool) (s : State) : Result :=
  if s.top.state = .off ∧ !s.top.porHeld then
    let s := holdReset (fuseRead (clocksUp (regsFresh (fuseAbort s))))
    let s := secBoot s secOk idOk
    let s := if flag s Reg.TOP_STRAP F.TOP_STRAP_TEST then raise s Reg.TOP_SUPPLY F.TOP_SUPPLY_STRAP_ERR else s
    let s := phasesMid { s with nvs := { s.nvs with scanning := true } } (List.range 64)
    .next (resetInto s .decaf)
  else .next s

/-- R151, R152: a primary pair above the strap ceiling, from the release of power-on reset until an image is applied. The reading is in
1/16 mV. In OFF the HALT follows at the end of the power-on sequence (R39, R151; log entry 134). -/
def execDecafOvervoltage (chan : ChIx) (mv : Nat) (s : State) : Result :=
  if (s.top.state = .decaf ∨ (s.top.state = .off ∧ !s.top.porHeld)) ∧ strapCeiling s * 16 < mv ∧ !bitOf (rd s Reg.PROT_THERM_LATCH).toNat 6 then
    let s := raise s Reg.PROT_THERM_LATCH F.PROT_THERM_LATCH_DECAF_OV
    let s := lifeUp (protEntry s chan.val 0x16 0) 5
    .next (haltEntry (crowbarOn s 8 (List.range 64) (List.range 16)) 0)
  else .next s

/-- R171: VIN has been above its warning threshold plus hysteresis for 10 ms. -/
def execVinArmed (mv : Nat) (s : State) : Result :=
  if s.top.porHeld then .next s
  else
    let s := supRead s .vin mv
    if supWarn s .vin + supHyst s .vin < mv then .next (raise (pmRefresh s) Reg.TOP_SUPPLY F.TOP_SUPPLY_VIN_ARMED) else .next s

/-! ## Reset requests (R155–R160, R177, R178, R183, R186) -/

def rstResult (s : State) (r : Nat) : State := setF s Reg.TOP_RST_STATUS F.TOP_RST_STATUS_RESULT r

/-- The reset entry: UNIT the level, ARG the result, VALUE the time base, VALUE2 the cause bits (Table 18.3). -/
def rstEntry (s : State) (level result : Nat) : State := record s .mgmt 0x02 0x02 level result (now s) (rd s Reg.TOP_RST_CAUSE).toNat

def rstRefuse (s : State) (level result : Nat) : State := rstEntry (rstResult s result) level result

/-- The NVS command in progress programs the flash: an APPEND, a RELEASE_TAIL or a COUNTERS_NOW. -/
def nvPrograms (s : State) : Bool := s.nvs.cmd.any (fun c => c.op == 1 || c.op == 4 || c.op == 5)

/-- A flash program or erase, a tail or a live update that a management-plane reset waits for (R160, R755). -/
def mgmtWaits (s : State) : Bool :=
  s.nvs.erase.isSome || s.nvs.tail.isSome || nvPrograms s || (s.fwc.ld.live && (s.fwc.ld.phase == .handover || s.fwc.ld.phase == .rollback))

/-- What the beginning of a reset stops: a fuse operation (R905), pending commits and a load (R183, R237), and for a control-plane reset
the lanes and the tiles (R286). -/
def rstStops (s : State) (level : Nat) : State :=
  let s := fuseAbort (rstResult s 1)
  let s := if level ≤ 3 then loadAbort (domCancel (cancelAllCommits s)) 0x15 else s
  if level = 3 then { s with fab := {} } else s

/-- A reset begins. -/
def rstBegin (s : State) (level : Nat) (smbus : Bool) : State :=
  let s := rstStops s level
  let s := { s with top := { s.top with rst := some { level := level, from_ := now s, flashWait := level == 5 && mgmtWaits s,
                                                      fromHalt := s.top.state == .halt, sideband := smbus } } }
  if level ≤ 2 then dischargeAll { s with top := { s.top with startNext := none, stopping := false } } true else s

/-- The result with which a request is refused for the state of the device (R159, R176–R178); none where it may begin. -/
def rstJudge (s : State) (level : Nat) : Option Nat :=
  if level = 3 ∧ s.top.state ≠ .decaf ∧ s.top.state ≠ .loaded then some 4
  else if level ≤ 2 ∧ (s.top.state = .brownout ∨ s.top.state = .off) then some 4
  else if level ≤ 2 ∧ s.top.state = .halt ∧ haltCauses s - haltCauses s / 32 % 2 * 32 ≠ 0 then some 5
  else if level = 2 ∧ !s.img.applied then some 6
  else none

/-- A single-core restart is in progress; one that a live update makes is part of it (R755). -/
def restarting (s : State) : Bool := !s.fwc.ld.live && (List.range 8).any (fun n => (coreOf s n).state == .restart)

/-- R187: a plane reset joins another that arrived in the same cycle. -/
def rstJoin (s : State) (r : ResetSt) (level : Nat) : State :=
  let s := rstStops s level
  { s with top := { s.top with rst := some { r with also := r.also ++ [level], flashWait := r.flashWait || (level == 5 && mgmtWaits s) } } }

/-- R186, R187: a request while the reset `r` is in progress. Two requests at one time-base value arrived in the same cycle (log entry
136). -/
def rstAgain (s : State) (smbus : Bool) (level : Nat) (r : ResetSt) : State :=
  let same := s.tb.running && r.from_ == now s
  if level = 1 ∧ r.level = 2 then
    let s := if same then rstEntry s 2 7 else s
    rstResult { s with top := { s.top with rst := some { r with level := 1, sideband := smbus } } } 1
  else if same ∧ 3 ≤ r.level ∧ !(r.level :: r.also).contains level then
    match rstJudge s level with
    | some c => rstRefuse s level c
    | none =>
      if 3 ≤ level then rstJoin s r level
      else rstBegin (forEach (r.level :: r.also) s (fun s l => rstEntry s l 7)) level smbus
  else rstRefuse s level 7

/-- A write of TOP_RST_CTL that R155 admits. -/
def resetRequest (s : State) (smbus : Bool) (level key : Nat) : State :=
  let s := setF s Reg.TOP_RST_STATUS F.TOP_RST_STATUS_LAST_LEVEL level
  if key ≠ 0x5A ∨ level = 0 ∨ 5 < level then rstRefuse s level 3
  else match s.top.rst with
    | some r => rstAgain s smbus level r
    | none =>
      if 3 ≤ level ∧ restarting s then rstRefuse s level 7
      else match rstJudge s level with
        | some c => rstRefuse s level c
        | none => rstBegin s level smbus

/-! ## The ends of resets -/

/-- DONE, with the cause bits that are set. -/
def rstDone (s : State) (level : Nat) (f : Fld) : State := rstEntry (rstResult (raise s Reg.TOP_RST_CAUSE f) 2) level 2

/-- The bits of TOP_RST_CAUSE that speak of the last device or warm reset. -/
def rstLast (s : State) (r : ResetSt) : State :=
  let s := setF s Reg.TOP_RST_CAUSE F.TOP_RST_CAUSE_SIDEBAND (b2n r.sideband)
  setF s Reg.TOP_RST_CAUSE F.TOP_RST_CAUSE_FROM_HALT (b2n r.fromHalt)

/-- R160, R755: what a management-plane reset waits for has ended. -/
def execMgmtResetTakeEffect (s : State) : Result :=
  match s.top.rst with
  | some r => if (r.level :: r.also).contains 5 ∧ r.flashWait ∧ !mgmtWaits s then .next { s with top := { s.top with rst := some { r with flashWait := false } } } else .next s
  | none => .next s

/-- R158, R185, R242: every rail is off and the device reset ends. `secOk` is the result of SEC's ROM self-check, `idOk` that of the
identity store's. -/
def execDeviceResetEnd (secOk idOk : Bool) (s : State) : Result :=
  match s.top.rst with
  | some r =>
    if r.level = 1 ∧ allOff s ∧ s.top.dis = [] then .next (rstDone (deviceReset (rstLast s r) secOk idOk) 1 F.TOP_RST_CAUSE_DEVICE) else .next s
  | none => .next s

/-- R158, R179, R185, R244: the warm reset ends. -/
def execWarmResetEnd (s : State) : Result :=
  match s.top.rst with
  | some r =>
    if r.level = 2 ∧ allOff s ∧ s.top.dis = [] then .next (rstDone (warmReset (rstLast s r)) 2 F.TOP_RST_CAUSE_WARM) else .next s
  | none => .next s

/-- One plane reset ends (Table 3.7, R286, R486, R522, R625, R681, R726, R911). -/
def planeEnd (s : State) (level : Nat) : State :=
  if level = 3 then rstDone (ctlReset (pmRefresh s)) 3 F.TOP_RST_CAUSE_CTL_PLANE
  else if level = 4 then rstDone (dataReset (pmRefresh s)) 4 F.TOP_RST_CAUSE_DATA_PLANE
  else rstDone (mgmtReset s) 5 F.TOP_RST_CAUSE_MGMT_PLANE

/-- The plane resets in progress end, but for a management-plane reset that still waits (R160). -/
def execPlaneResetEnd (s : State) : Result :=
  match s.top.rst with
  | some r =>
    if r.level ≤ 2 then .next s
    else
      let (stay, go) := (r.level :: r.also).partition (fun l => l == 5 && r.flashWait)
      let s := { s with top := { s.top with rst := if stay = [] then none else some { r with level := 5, also := [] } } }
      .next (forEach go s planeEnd)
  | none => .next s

/-- R158, R192, R320: the discharge limit of the image expires. -/
def execDischargeLimitExpiry (s : State) : Result :=
  match s.top.dis with
  | [] => .next s
  | l =>
    let s := reach s (s.top.disAt + fr s 0x01 4 2 * 10000)
    let rs := (l.map (fun d => d.rail)).filter (running s)
    let s := { s with top := { s.top with dis := [] } }
    let s := forEach rs s (fun s r => raise (railOff s r) (Reg.CH_EVENT r) F.CH_EVENT_DIS_TIMEOUT)
    let s := record s .control 0x02 0x04 (toMask (rs.flatMap (railChans s))) 0 (now s) 0
    .next (disDone s (l.any (fun d => d.byEn)))

/-! ## PCI Express resets (R161, R763, R795, R963) -/

/-- The host rings stop and the commit port returns to the host. -/
def hostStop (s : State) (err : Nat) : State := wr (ringsStop s err) Reg.TOP_COMMIT_OWNER 0

/-- The MSI-X table and pending bits of every function are reset. -/
def vectorsClear (s : State) : State := setHir s (fun h => { h with unmask := [], pba := [] })

/-- R161: PCIE_PERST_N falls. Virtual functions are gone with the configuration space. -/
def execPciePerst (s : State) : Result :=
  if s.top.porHeld then .next { s with top := { s.top with perstLow := true } }
  else
    let s := hostStop { s with top := { s.top with perstLow := true, pcieUp := false } } 0
    let s := setHir (vectorsClear s) (fun h => { h with vfs := 0 })
    .next (raise s Reg.TOP_RST_CAUSE F.TOP_RST_CAUSE_PERST)

/-- R763: PCIE_PERST_N returns high. -/
def execPciePerstRelease (s : State) : Result :=
  .next { s with top := { s.top with perstLow := false, pcieUp := !s.top.porHeld } }

/-- R963: a hot reset. -/
def execHotReset (s : State) : Result :=
  if s.top.pcieUp then .next (setHir (vectorsClear (hostStop s 0)) (fun h => { h with vfs := 0 })) else .next s

/-- R795, R963: a function-level reset. -/
def execFlr (fn : Fin 64) (s : State) : Result :=
  let f := fn.val
  if !s.top.pcieUp || !fnHere s f then .next s
  else if f = 0 then .next (setHir (vectorsClear (hostStop s 4)) (fun h => { h with vfs := 0 }))
  else .next (setHir (fnStop s f 4) (fun h => { h with unmask := tabErase h.unmask f, pba := tabErase h.pba f }))

/-! ## Start and stop (R162–R170, R175, R209) -/

def startResult (s : State) (r : Nat) : State := setF s Reg.TOP_START_STATUS F.TOP_START_STATUS_RESULT r

/-- Check 4 of Table 3.8: every core with a channel role (cluster control, or one of the pool) has raised its ready flag. -/
def channelCoresReady (s : State) : Bool :=
  (List.range 8).all (fun n => !(coreEnF (framesOf s) n && (coreRoleF (framesOf s) n == 3 || coreRoleF (framesOf s) n == 4)) || (coreOf s n).ready)

/-- The result of the first check of Table 3.8 that fails; 1 when all pass. -/
def startCheck (s : State) : Nat :=
  if s.top.state ≠ .loaded then 3
  else if !flag s Reg.TOP_SUPPLY F.TOP_SUPPLY_VIN_ARMED ∨ !flag s Reg.TOP_SUPPLY F.TOP_SUPPLY_VIN_ABOVE_WARN then 4
  else if !flag s Reg.TOP_SUPPLY F.TOP_SUPPLY_VHOLD_OK then 5
  else if flag s Reg.TOP_START_CFG F.TOP_START_CFG_FW_GATE ∧ !channelCoresReady s then 6
  else if !(rails s).any (railEn s) then 7
  else 1

/-- R164, R165, R175, R209: a start, as TOP_START with GO asks for it. -/
def startGo (s : State) (auto : Bool) : State :=
  let r := startCheck s
  let s := setF (startResult s r) Reg.TOP_START_STATUS F.TOP_START_STATUS_AUTO_START (b2n auto)
  let s := record s .control 0x02 0x03 (toMask ((rails s).filter (railEn s))) r (now s) 0
  if r = 1 then
    maybeRun (stagesDue 8 { s with top := { s.top with startNext := some 0, startFrom := now s }, est := { s.est with reload := true } }) true
  else s

/-- R168: a stop, as TOP_START with STOP asks for it. -/
def startStop (s : State) : State :=
  if s.top.state = .ramp ∨ s.top.state = .run then
    let s := startResult { s with top := { s.top with stopping := true, startNext := none } } 8
    let s := dischargeAll s true
    if s.top.dis = [] then disDone s false else s
  else s

/-- R209: the delay of the awaited stage has passed. -/
def execStartStage (s : State) : Result :=
  match s.top.startNext with
  | some k =>
    if prevStageDone s k ∧ !wholeReset s then
      let s := reach s (s.top.startFrom + stageDelay s k * 1000)
      .next (maybeRun (stagesDue 8 (beginStage s k)) true)
    else .next s
  | none => .next s

/-! ## Return from BROWNOUT (R6, R7, R32, R172–R175, R184, R373) -/

/-- A supply has recovered: it is no cause, or it stands above its warning threshold plus HYST. -/
def supRecovered (s : State) (sup : Supply) (mv : Nat) : Bool := decide (supWarn s sup + supHyst s sup < mv)

/-- R373: every cause and VAUX have recovered. The device leaves BROWNOUT once its discharge has ended: "only when" is no limit on that, and
LOADED and DECAF have every SEN_q low (R342; log entry 135). A device reset follows R174 and R184: it is a whole one, with the cause bit and
the result of its own; from OFF it completes the power-on sequence. -/
def execBrownoutExit (vin vaux : Nat) (secOk idOk : Bool) (s : State) : Result :=
  let s := supRead (supRead s .vin vin) .vaux vaux
  let vinOk := !flag s Reg.LAD_STATUS F.LAD_STATUS_VIN_CAUSE || supRecovered s .vin vin
  if s.top.state = .brownout ∧ vinOk ∧ supRecovered s .vaux vaux ∧ s.top.dis = [] then
    let b := s.top.brown
    let s := raise (pmRefresh s) Reg.TOP_SUPPLY F.TOP_SUPPLY_VAUX_OK
    let s := lower (lower (lower s Reg.LAD_STATUS F.LAD_STATUS_VIN_CAUSE) Reg.LAD_STATUS F.LAD_STATUS_VAUX_CAUSE) Reg.LAD_STATUS F.LAD_STATUS_RECOVERING
    let s := { s with top := { s.top with brown := {} } }
    if b.vauxFell ∨ b.devResetLost then
      let s := if b.vauxFell then raise s Reg.TOP_RST_CAUSE F.TOP_RST_CAUSE_FROM_BROWNOUT else s
      let s := if b.entered = .off then { clocksUp s with nvs := { s.nvs with scanning := true } } else s
      let s := rstLast (domCancel (cancelAllCommits s)) { level := 1 }
      .next (rstDone (deviceReset s secOk idOk) 1 F.TOP_RST_CAUSE_DEVICE)
    else if b.entered = .off then .next (enterState s .off)
    else
      let s := resetInto s (if s.img.applied then .loaded else .decaf)
      if s.top.state = .loaded ∧ flag s Reg.TOP_START_CFG F.TOP_START_CFG_AUTO ∧ (b.entered = .ramp ∨ b.entered = .run) then .next (startGo s true)
      else .next s
  else .next s

end Sys2Proof.Machine
end

