-- ==== Sys2Proof/Machine/SbmOps.lean ====
section
/-! DEFINITION. The sideband's policy, status registers and number formats (ch. 19): what each status bit shows, how it latches, and the
linear formats of R870. -/

namespace Sys2Proof.Machine

/-! ## Policy: frame 0x0A (Table 19.2) -/

/-- SB_FLAGS; in DECAF every field of the frame reads 0. -/
def sbFlag (s : State) (k : Nat) : Bool := s.img.applied && s.top.state != .decaf && bitOf (fr s 0x0A 0 1) k
def resetEn (s : State) : Bool := sbFlag s 0
def pecReq (s : State) : Bool := sbFlag s 1
def bmcCapEn (s : State) : Bool := sbFlag s 2
def bmcCapMin (s : State) : Nat := if bmcCapEn s then fr s 0x0A 2 2 else 0

/-- The code of WRITE_PROTECT in SBM_STATUS.WP. -/
def wpCode (w : Nat) : Nat := if w = 0x20 then 1 else if w = 0x40 then 2 else if w = 0x80 then 3 else 0

/-! ## Number formats (R870) -/

/-- Nearest integer of n/d, halves away from zero. -/
def roundQ (n : Int) (d : Nat) : Int := if 0 ≤ n then (2 * n + d) / (2 * d) else -((2 * -n + d) / (2 * d))

/-- The mantissa of n/d at exponent e. -/
def linMant (n : Int) (d : Nat) (e : Int) : Int := if 0 ≤ e then roundQ n (d * 2 ^ e.toNat) else roundQ (n * (2 ^ (-e).toNat : Nat)) d

/-- linear11 of n/d: the smallest exponent from −16 to 15 at which the mantissa fits. -/
def linear11 (n : Int) (d : Nat) : Nat :=
  let e := (((List.range 32).map (fun (k : Nat) => (k : Int) - 16)).find? (fun e => decide (-1024 ≤ linMant n d e) && decide (linMant n d e ≤ 1023))).getD 15
  unsx 5 e * 2048 + unsx 11 (clampI (-1024) 1023 (linMant n d e))

/-- linear16 with exponent −12 of n/d volts. -/
def linear16 (n : Int) (d : Nat) : Nat := (clampI 0 65535 (roundQ (n * 4096) d)).toNat

end Sys2Proof.Machine
end

