-- ==== Sys2Proof/Machine/Live.lean ====
section
/-! DEFINITION. What the LIVE registers read (Table 20.5): each word is computed from the state that its block holds. -/

namespace Sys2Proof.Machine

/-- A word from its fields. -/
def pack (l : List (Fld × Nat)) : Nat := (l.foldl (fun w p => putFld w p.1 p.2) (0 : Word)).toNat

/-- Which word of a family an offset is, by base and stride; none outside it. -/
def inFam (base stride n off : Nat) : Option Nat :=
  if base ≤ off ∧ (off - base) % stride = 0 ∧ (off - base) / stride < n then some ((off - base) / stride) else none

/-! ## TOP, TB, NVS, SEC -/

def topStatus (s : State) : Nat := devCode s.top.state + 16 * b2n s.img.applied + 256 * haltCauses s

def startStatus (s : State) : Nat :=
  let bits (st : ChState) : Nat := toMask ((List.range 8).filter (fun c => decide (railOf s c < 8) && railState s (railOf s c) == st))
  let w := (rd s Reg.TOP_START_STATUS).toNat % 256
  w + 2 ^ 8 * bits .soft + 2 ^ 16 * bits .reg

def cfgStatus (s : State) : Nat := b2n s.img.scrubOn + 2 * b2n (s.img.phase == .refill) + 4 * b2n s.img.active1

/-- TB_OFFSET: signed nanoseconds, at the nearest value its field holds (R17). -/
def tbOffset (s : State) : Nat := satS 32 (s.tb.theta / 16)

def nvsStatus (s : State) : Nat :=
  fld s Reg.TOP_SUPPLY F.TOP_SUPPLY_NVS_READY + 2 * fld s Reg.TOP_SUPPLY F.TOP_SUPPLY_NVS_ERR + 4 * b2n s.nvs.cmd.isSome
    + 8 * b2n (armedArea s).isSome + 2 ^ 8 * fld s Reg.NVS_STATUS F.NVS_STATUS_UNAVAIL

def secStatus (s : State) : Nat :=
  fld s Reg.TOP_SUPPLY F.TOP_SUPPLY_SEC_OK + 2 * b2n (!rootOff s) + 4 * b2n (activeOwner s).isSome
    + 2 ^ 8 * ((List.range 4).map (fun k => ownerState (ownerOf s k) * 4 ^ k)).sum
    + 2 ^ 16 * b2n (s.sec.cores != 0) + 2 ^ 17 * b2n s.sec.ever + 2 ^ 18 * b2n s.sec.fuse.dbgRootOff + 2 ^ 19 * b2n s.sec.fuse.dbgOwnerOff
    + 2 ^ 20 * b2n s.sec.idErr

def liveTop (s : State) (off : Nat) : Option Nat :=
  if off = Reg.TOP_SERIAL_LO then some (Config.serial.toNat % 2 ^ 32)
  else if off = Reg.TOP_SERIAL_HI then some (Config.serial.toNat / 2 ^ 32)
  else if off = Reg.TOP_STATUS then some (topStatus s)
  else if off = Reg.TOP_START_STATUS then some (startStatus s)
  else if off = Reg.TOP_CFG_STATUS then some (cfgStatus s)
  else if off = Reg.TB_NOW_LO then some (now s % 2 ^ 32)
  else if off = Reg.TB_NOW_HI then some (now s / 2 ^ 32 % 2 ^ 32)
  else if off = Reg.TB_STATUS then some (tbStatusWord s)
  else if off = Reg.TB_RATE then some (satS 32 s.tb.rate)
  else if off = Reg.TB_SLEW then some (satS 32 s.tb.slew)
  else if off = Reg.TB_OFFSET then some (tbOffset s)
  else if off = Reg.TB_DELAY then some (satU 32 ((s.tb.delay / 16 : Nat) : Int))
  else if off = Reg.NVS_STATUS then some (nvsStatus s)
  else if off = Reg.SEC_STATUS then some (secStatus s)
  else if off = Reg.SEC_RB then some (rbWord s)
  else if off = Reg.SEC_DBG_STATUS then some (fld s off F.SEC_DBG_STATUS_RESULT + 2 ^ 8 * s.sec.cores)
  else if off = Reg.SEC_IMG_STATUS then some ((putFld (rd s off) F.SEC_IMG_STATUS_PHASE (phaseCode s.img.phase)).toNat)
  else match inFam (Reg.NVS_LIFE_LO 0) 4 20 off with
    | some i => let v := tabGet 0 s.nvs.life (i / 2)
                some (if i % 2 = 0 then v % 2 ^ 32 else v / 2 ^ 32 % 2 ^ 32)
    | none => none

/-! ## FAB, PH, CH -/

def fabStatus (s : State) : Nat :=
  if structured s then
    b2n s.fab.run + 2 * b2n (!s.fab.syncBad) + 2 ^ 8 * ((List.range 128).filter (fun n => tileKindF (framesOf s) n != 0)).length
      + 2 ^ 16 * ((List.range 512).filter (sigPresentF (framesOf s))).length
  else 0

def chCode : ChState → Nat
  | .off => 0
  | .soft => 1
  | .settle => 2
  | .reg => 3
  | .discharge => 4
  | .latched => 5

/-- SHED: fewer active phases than assigned, outside Drip mode, soft start and discharge (ch. 6); a calibration removal leaves it alone. -/
def shedOf (s : State) (r : Nat) : Bool :=
  let x := chOf s r
  (x.state == .reg || x.state == .settle) && x.drip == .run
    && decide (((railPhases s r).filter (fun p => (phOf s p).active || (phOf s p).cal)).length < (assigned s r).length)

/-- The active phases that CH_STATUS counts: the rail's at its rail channel, the channel's own at another channel of a locked rail. -/
def shownPh (s : State) (c : Nat) : List Nat :=
  let l := activePh s (railOf s c)
  if railOf s c = c then l else l.filter (fun p => quadChF (framesOf s) (p / 4) == c)

/-- CH_STATUS of a channel: that of its rail channel but for ACTIVE_PH; an unused channel reads 0. -/
def chStatus (s : State) (c : Nat) : Nat :=
  let r := railOf s c
  if r < 8 then
    let x := chOf s r
    pack [(F.CH_STATUS_STATE, chCode x.state), (F.CH_STATUS_DRIP, b2n (x.drip != .run)), (F.CH_STATUS_SHED, b2n (shedOf s r)),
          (F.CH_STATUS_LOCKED, b2n (locked s c)), (F.CH_STATUS_PAIR, b2n x.altPair), (F.CH_STATUS_BOOST, b2n (boosting s r)),
          (F.CH_STATUS_ACTIVE_PH, (shownPh s c).length), (F.CH_STATUS_WIDE_ROLE, wideRole s c), (F.CH_STATUS_WIDE_LOSS, b2n x.wideLoss),
          (F.CH_STATUS_CAL, b2n ((railPhases s r).any (fun p => (phOf s p).cal))), (F.CH_STATUS_RAIL, r), (F.CH_STATUS_IN_WINDOW, b2n x.inWindow)]
  else 0

/-- A word that hardware keeps at the rail channel reads the same at every channel of the rail. -/
def chRailWord (s : State) (reg : Nat → Nat) (c : Nat) : Nat :=
  if railOf s c < 8 then (rd s (reg (railOf s c))).toNat else (rd s (reg c)).toNat

/-- PSTATE: LATCHED while a crowbar or a latch of its rail holds the phase, FAULT out of the assigned phases, CAL, ACTIVE, MID, or OFF. -/
def phState (s : State) (p : Nat) : Nat :=
  let x := phOf s p
  let r := phaseRail s p
  if x.crowbar || (decide (r < 8) && railState s r == .latched) then 5
  else if x.fault then 4
  else if x.cal then 3
  else if x.active then 2
  else if x.level = .hiz then 0
  else if (quadOf s (p / 4)).sen then 1 else 0

/-- PH_OFF.AGE, 100 ms; 255 where there has been no reading. -/
def offAge (s : State) (p : Nat) : Nat :=
  match tabGet 0 s.est.readAt p with
  | 0 => if flag s (Reg.PH_OFF p) F.PH_OFF_VALID then 255 else fld s (Reg.PH_OFF p) F.PH_OFF_AGE
  | t + 1 => min 255 ((now s - t) / 100000000)

/-- R967: PH_I and PH_T of a phase of no rail read 0. -/
def livePh (s : State) (off : Nat) : Option Nat :=
  let p := (off - 0x100000) / 0x100
  if off = Reg.PH_STATUS p then some (phState s p)
  else if (off = Reg.PH_I p ∨ off = Reg.PH_T p) ∧ ¬(phaseRail s p < 8) then some 0
  else if off = Reg.PH_BAL p then some (satS 16 (sarI (phOf s p).trim 15))
  else if off = Reg.PH_OFF p then some ((putFld (rd s off) F.PH_OFF_AGE (offAge s p)).toNat)
  else none

def liveCh (s : State) (off : Nat) : Option Nat :=
  let c := (off - 0x120000) / 0x1000
  if off = Reg.CH_STATUS c then some (chStatus s c)
  else if off = Reg.CH_EVENT c then some (chRailWord s Reg.CH_EVENT c)
  else if off = Reg.CH_DRIP_TIME_LO c then some (min (rd64 s off + dripUs s c) (2 ^ 48 - 1) % 2 ^ 32)
  else if off = Reg.CH_DRIP_TIME_HI c then some (min (rd64 s (off - 4) + dripUs s c) (2 ^ 48 - 1) / 2 ^ 32)
  else if off = Reg.CH_VSENSE c then some (chRailWord s Reg.CH_VSENSE c)
  else if off = Reg.CH_VTARGET c then some (chRailWord s Reg.CH_VTARGET c)
  else if off = Reg.CH_I c then some (chRailWord s Reg.CH_I c)
  else none

def liveFab (s : State) (off : Nat) : Option Nat :=
  if off = Reg.FAB_STATUS then some (fabStatus s)
  else if off = Reg.FAB_XDEV_STALE then some (toMask ((List.range 32).filter (fun t => (rxOf s t).stale)))
  else match inFam 0x82000 4 512 off with
    | some i => some (unsx 32 (sigOf s i))
    | none => none

/-! ## LAD, PB -/

/-- The reading of a supply stands above its warning threshold plus hysteresis. -/
def supAbove (s : State) : Supply → Bool
  | .vin => decide (supWarn s .vin + supHyst s .vin < fld s Reg.LAD_VIN ⟨0, 16⟩)
  | .vaux => decide (supWarn s .vaux + supHyst s .vaux < fld s Reg.LAD_VAUX ⟨0, 16⟩)

/-- LAD_STATUS: RECOVERING while every cause of the BROWNOUT, and VAUX, stands above warning plus hysteresis (R373). -/
def ladStatus (s : State) : Nat :=
  let rec_ := s.top.state == .brownout && supAbove s .vaux && (!flag s Reg.LAD_STATUS F.LAD_STATUS_VIN_CAUSE || supAbove s .vin)
  (putFld (putFld (rd s Reg.LAD_STATUS) F.LAD_STATUS_RECOVERING (b2n rec_)) F.LAD_STATUS_TAIL_BUSY (b2n s.nvs.tail.isSome)).toNat

def linkCode : LinkState → Nat
  | .down => 0
  | .training => 1
  | .up => 2
  | .fallback => 3
  | .absent => 4

def dieStatus (s : State) (d : Nat) : Nat :=
  let x := dieOf s d
  linkCode x.link + 8 * b2n x.coreOn + 16 * b2n x.armed + 32 * b2n (sitesOf s d != [] && (sitesOf s d).all (fun n => (siteOf s d n).calOkBx))
    + 64 * b2n (cfgSync s d && dieUp s d) + 128 * b2n x.tempStale + 256 * b2n x.droop + 512 * b2n x.stuck + 1024 * b2n x.trip

def freqWord (s : State) (p : Nat) : Nat :=
  if partHere s p then
    let x := partOf s p
    pack [(F.PB_FREQ_N_CUR, curN s p), (F.PB_FREQ_N_TGT, x.nTgt), (F.PB_FREQ_UP_PENDING, b2n (upHeld s p)),
          (F.PB_FREQ_FROZEN, b2n (railFrozen s (partRail s p))), (F.PB_FREQ_FALLBACK, b2n (dieFallen s (partDie s p)))]
  else 0

def livePb (s : State) (off : Nat) : Option Nat :=
  match inFam 0x160004 0x40 4 off with
  | some d => some (dieStatus s d)
  | none =>
    match inFam 0x160118 0x20 8 off with
    | some r => some (b2n (boosting s r) + 2 * b2n (railFrozen s r) + 4 * b2n (boostOf s r).gapUntil.isSome)
    | none =>
      match inFam 0x164004 0x10 32 off with
      | some p => some (freqWord s p)
      | none => none

/-! ## CAP, FQ, BAL -/

def capStatus (s : State) (p : Nat) : Nat :=
  if partHere s p then
    pack [(F.CAP_STATUS_N_REQ, capReq s p), (F.CAP_STATUS_N_TGT, (partOf s p).nTgt), (F.CAP_STATUS_LOCKED, b2n (capLocked s p)),
          (F.CAP_STATUS_GUARD, b2n (capOf s p).guard), (F.CAP_STATUS_ACCT, b2n (acctOn s p))]
  else 0

def liveCap (s : State) (off : Nat) : Option Nat :=
  let p := (off - 0x190000) / 0x100
  if off = Reg.CAP_STATUS p ∧ p < 32 then some (capStatus s p)
  else if off = Reg.CAP_LOOP p ∧ p < 32 then
    some (if partHere s p then pack [(F.CAP_LOOP_N_POW, (capOf s p).nPow), (F.CAP_LOOP_N_TH, (capOf s p).nTh)] else 0)
  else match inFam (Reg.CAP_PIN 0) 4 3 off with
    | some w => some (toMask ((List.range 32).filter (fun i => instPinned s (32 * w + i))))
    | none => none

def fqStatus (s : State) : Nat :=
  b2n s.fq.fixed + 2 * b2n (shedOn s) + 4 * b2n (rampHold s) + 2 ^ 8 * min 15 s.fq.armed.length + 2 ^ 16 * (s.fq.spacing % 256)

/-- FQ_HEAD and FQ_QSTAT of a queue. -/
def headWord (s : State) (q : Nat) : Nat :=
  match (queueOf s q).items with
  | [] => 0
  | i :: _ => pack [(F.FQ_HEAD_CLASS, i.cls), (F.FQ_HEAD_PART, i.part), (F.FQ_HEAD_TAG, i.tag), (F.FQ_HEAD_DUR, i.dur)]

def qstatWord (s : State) (q : Nat) : Nat :=
  let l := (queueOf s q).items
  let age := match l with
    | [] => 0
    | i :: _ => min (2 ^ 24 - 1) ((now s - i.at_) / 1000)
  pack [(F.FQ_QSTAT_DEPTH, l.length), (F.FQ_QSTAT_ARMED, b2n (s.fq.armed.contains q)), (F.FQ_QSTAT_AGE, age)]

def liveFq (s : State) (off : Nat) : Option Nat :=
  if off = Reg.FQ_STATUS then some (fqStatus s)
  else if off = Reg.FQ_PWR then some (satU 16 (s.fq.power : Nat) + 2 ^ 16 * satU 16 (rPend s : Nat))
  else if off = Reg.FQ_CD then some (satU 16 (s.fq.ceilC / 1000) + 2 ^ 16 * satU 16 (s.fq.floorD / 1000))
  else if off < 0x1A0200 ∨ 0x1A0600 ≤ off then none
  else
    let q := (off - 0x1A0200) / 0x10
    if off = Reg.FQ_HEAD q then some (headWord s q)
    else if off = Reg.FQ_QSTAT q then some (qstatWord s q)
    else if off = Reg.FQ_FRINT q then some (if queueHereF (framesOf s) q then satU 16 ((frint s q / 100 : Nat) : Int) else 0)
    else none

def liveBal (s : State) (off : Nat) : Option Nat :=
  let p := (off - 0x1B0000) / 0x20
  if off = Reg.BAL_LVL p ∧ p < 32 then
    some (if partHere s p then
      pack [(F.BAL_LVL_LEVEL, (balOf s p).level), (F.BAL_LVL_CEIL_EFF, balCeil s p), (F.BAL_LVL_ELIG, b2n (balElig s p)),
            (F.BAL_LVL_THERM, b2n (thermBinds s p)), (F.BAL_LVL_BUSY, b2n (balBusy s p))]
    else 0)
  else if off = Reg.BAL_PWR p ∧ p < 32 then some (if partHere s p then satU 16 (balPow s p (balOf s p).level : Nat) else 0)
  else if off = Reg.BAL_STATUS then some (b2n (balLoopOn s) + 2 * b2n s.fq.released)
  else if off = Reg.BAL_Q then some (satU 16 (s.fq.q8 : Nat))
  else none

/-! ## TVL, DOM -/

def laneCode : LaneState → Nat
  | .disabled => 0
  | .detect => 1
  | .eq => 2
  | .lock => 3
  | .ident => 4
  | .up => 5
  | .wait => 6

def tvlStatus (s : State) (n : Nat) : Nat :=
  let w := rd s (Reg.TVL_STATUS n)
  (putFld (putFld (putFld w F.TVL_STATUS_STATE (laneCode (laneOf s n).state)) F.TVL_STATUS_ROLE (laneRole s n)) F.TVL_STATUS_TREE
    (b2n (treeLane s n))).toNat

/-- Credits held for the partner. -/
def credWord (s : State) (n : Nat) : Nat :=
  if laneUp s n then
    pack [(F.TVL_CRED_C0, 4 - (laneOf s n).c0used), (F.TVL_CRED_C1, creditLimit 1 - (lclsOf s n 1).used),
          (F.TVL_CRED_C2, creditLimit 2 - (lclsOf s n 2).used), (F.TVL_CRED_C3, creditLimit 3 - (lclsOf s n 3).used)]
  else 0

def liveTvl (s : State) (off : Nat) : Option Nat :=
  match inFam (Reg.TVL_STATUS 0) 0x100 10 off with
  | some n => some (tvlStatus s n)
  | none =>
    match inFam (Reg.TVL_CRED 0) 0x100 10 off with
    | some n => some (credWord s n)
    | none =>
      if off = Reg.TVL_GSTATUS then
        some (pack [(F.TVL_GSTATUS_NODE, if structured s then ownNode s else 0), (F.TVL_GSTATUS_CPOS, cpos s),
                    (F.TVL_GSTATUS_IN_DOMAIN, b2n (inDomain s)), (F.TVL_GSTATUS_ORIGIN, originDepth s)])
      else if off < Reg.TVL_DLQ_STAT 0 ∨ Reg.TVL_DLQ_STAT 8 ≤ off then none
      else
        let q := (off - Reg.TVL_DLQ_STAT 0) / 0x20
        if off = Reg.TVL_DLQ_STAT q then some ((dlqOf s q).items.length + 2 ^ 16 * (min 65535 (dlqOf s q).lost))
        else if off = Reg.TVL_DLQ_W0 q then some (dlqWord s q 0)
        else if off = Reg.TVL_DLQ_W1 q then some (dlqWord s q 1)
        else if off = Reg.TVL_DLQ_W2 q then some (dlqWord s q 2)
        else if off = Reg.TVL_DLQ_W3 q then some (dlqWord s q 3)
        else none

def roleCode : DomRole → Nat
  | .none_ => 0
  | .claim => 1
  | .master => 2
  | .standby => 3
  | .member => 4
  | .joining => 5

def domRoleWord (s : State) : Nat :=
  pack [(F.DOM_ROLE_ROLE, roleCode (domRoleNow s)), (F.DOM_ROLE_MASTER_LOST, b2n s.dom.masterLost), (F.DOM_ROLE_FO_ARMED, b2n (foArmed s)),
        (F.DOM_ROLE_NO_STANDBY, b2n s.dom.noStandby), (F.DOM_ROLE_REROOTED, b2n s.dom.rerooted), (F.DOM_ROLE_BT_FAULT, b2n s.dom.differs),
        (F.DOM_ROLE_MASTER_NODE, s.dom.master)]

/-- MEMBERS: the admitted members, as the master counts them or as its HEARTBEAT said. -/
def membersWord (s : State) : Nat :=
  pack [(F.DOM_MEMBERS_MEMBERS, if s.dom.role = .master then members s else s.dom.hbMembers), (F.DOM_MEMBERS_MGEN, s.dom.mgen)]

/-- The ceiling in force in a group. -/
def groupWord (s : State) (g : Nat) : Nat :=
  let c := match tabGet 0 s.dom.ceil g with
    | 0 => 1024
    | v + 1 => v
  pack [(F.DOM_GROUP_N, c % 2048), (F.DOM_GROUP_REASON, c / 2048), (F.DOM_GROUP_PENDING, min 7 (s.dom.commits.filter (fun x => x.group == g)).length),
        (F.DOM_GROUP_CID, tabGet 0 s.dom.lastCid g)]

def btStatus (s : State) : Nat := b2n s.bt.active1 + 2 * b2n (btSealed (pendBt s)) + 4 * b2n s.bt.floors + 2 ^ 8 * min 255 s.bt.stale

def liveDom (s : State) (off : Nat) : Option Nat :=
  if off = Reg.DOM_ROLE then some (domRoleWord s)
  else if off = Reg.DOM_MEPOCH then some (s.dom.mepoch % 2 ^ 32)
  else if off = Reg.DOM_UP then some ((upLane s).getD 0xF)
  else if off = Reg.DOM_MEMBERS then some (membersWord s)
  else if off = Reg.DOM_BT_STATUS then some (btStatus s)
  else match inFam (Reg.DOM_GROUP 0) 4 64 off with
    | some g => some (groupWord s g)
    | none =>
      match inFam 0x1F0000 4 btWords off with
      | some i => some (bw s.bt.bank0 i)
      | none =>
        match inFam 0x1F4000 4 btWords off with
        | some i => some (bw s.bt.bank1 i)
        | none => none

/-! ## FWC, HIR, INT, REC, SBM -/

def fwcMode (s : State) : Nat := if s.img.applied then b2n (fr s 0x08 0 1 == 1) + 2 else 0

def coreCfg (s : State) (n : Nat) : Nat :=
  let f := framesOf s
  let c := coreOf s n
  if s.img.applied then
    pack [(F.FWC_CORE_CFG_ROLE, coreRoleF f n), (F.FWC_CORE_CFG_EN, b2n (coreEnF f n)), (F.FWC_CORE_CFG_RAILS, coreRailsF f n),
          (F.FWC_CORE_CFG_IWAYS, c.iways), (F.FWC_CORE_CFG_DWAYS, c.dways), (F.FWC_CORE_CFG_IBLK, b2n c.iblk), (F.FWC_CORE_CFG_DBLK, b2n c.dblk),
          (F.FWC_CORE_CFG_TAGS, coreTagsF f n)]
  else 0

def coreStatus (s : State) (n : Nat) : Nat :=
  let c := coreOf s n
  pack [(F.FWC_CORE_STATUS_STATE, coreCode c.state), (F.FWC_CORE_STATUS_READY, b2n c.ready), (F.FWC_CORE_STATUS_CAUSE, causeCode c.cause),
        (F.FWC_CORE_STATUS_RESTARTS, min 255 c.restarts)]

def liveFwc (s : State) (off : Nat) : Option Nat :=
  let n := (off - 0x200100) / 0x20
  if off = Reg.FWC_MODE then some (fwcMode s)
  else if off = Reg.FWC_CORE_CFG n ∧ n < 8 then some (coreCfg s n)
  else if off = Reg.FWC_CORE_TAG n ∧ n < 8 then some ((coreOf s n).tag % 4 + 4 * b2n (coreOf s n).user)
  else if off = Reg.FWC_CORE_STATUS n ∧ n < 8 then some (coreStatus s n)
  else if off = Reg.FWC_LD_STATUS then
    some ((putFld (putFld (rd s off) F.FWC_LD_STATUS_PHASE (ldCode s.fwc.ld.phase)) F.FWC_LD_STATUS_CORE s.fwc.ld.cur).toNat)
  else match inFam (Reg.FWC_REL 0) 4 8 off with
    | some n => some (match (coreOf s n).img with
      | some i => if (coreOf s n).state = .reset then 0 else i.release
      | none => 0)
    | none => none

def ringCode : RingState → Nat
  | .disabled => 0
  | .running => 1
  | .stopping => 2
  | .error => 3

def ringStatus (s : State) (r : Nat) : Nat :=
  let x := ringOf s r
  pack [(F.HIR_RING_STATUS_SQ_HEAD, x.sqHead), (F.HIR_RING_STATUS_CQ_TAIL, x.cqTail), (F.HIR_RING_STATUS_ERR, x.err),
        (F.HIR_RING_STATUS_STATE, ringCode x.state), (F.HIR_RING_STATUS_PHASE, b2n x.phase)]

/-- Some implemented bit of a family's words is set. -/
def famAny (s : State) (reg : Nat → Nat) (n : Nat) : Bool := (List.range n).any (fun i => (rd s (reg i)).toNat != 0)

/-- The sources of Table 16.10 whose events or latches are set. -/
def intRaw (s : State) (k : Nat) : Bool :=
  let on (off : Nat) : Bool := (rd s off).toNat != 0
  match k with
  | 0 => on Reg.TOP_CFG_EVENT || on Reg.TOP_PLANE_VIOL
  | 1 => on Reg.CLK_FAULT
  | 2 => on Reg.TB_EVENT
  | 3 => on Reg.PROT_EVENT || on Reg.PROT_CH_LATCH || on Reg.PROT_THERM_LATCH
  | 4 => on Reg.LAD_EVENT
  | 5 => famAny s Reg.CH_EVENT 8
  | 6 => on Reg.FAB_EVENT
  | 7 => famAny s Reg.PB_DIE_EVENT 4
  | 8 => famAny s Reg.CAP_CONT 3
  | 9 => on Reg.FQ_EVENT
  | 10 => on Reg.BAL_EVENT
  | 11 => famAny s Reg.TVL_EVENT 10 || on Reg.TVL_GEVENT
  | 12 => on Reg.DOM_EVENT
  | 13 => on Reg.EST_EVENT
  | 14 => on Reg.FWC_EVENT || on Reg.FWC_LD_EVENT
  | 15 => on Reg.REC_EVENT
  | 16 => on Reg.NVS_EVENT
  | 17 => on Reg.SEC_EVENT
  | 18 => on Reg.SBM_EVENT
  | 19 => on Reg.HIR_EVENT
  | _ => false

/-- INT_PENDING: a source is pending while its bit of INT_MASK is 0. -/
def intPending (s : State) : Nat := toMask ((List.range 20).filter (fun k => intRaw s k && !bitOf (rd s Reg.INT_MASK).toNat k))

def recStatus (s : State) : Nat :=
  if stopMode s then b2n (decide (stopPoint s ≤ s.recd.head + 64)) + 2 * b2n (decide (stopPoint s ≤ s.recd.head)) else 0

/-- A word of REC_WIN: the section's slots of 32 bytes. -/
def recWin (s : State) (section_ w : Nat) : Nat :=
  leAt (entryBytes (tabGet {} s.recd.ring (2048 * section_ + w / 8))) (4 * (w % 8)) 4

def liveRec (s : State) (section_ off : Nat) : Option Nat :=
  let half (v hi : Nat) : Nat := if hi = 0 then v % 2 ^ 32 else v / 2 ^ 32 % 2 ^ 32
  if off = Reg.REC_STATUS then some (recStatus s)
  else if off = Reg.REC_HEAD_LO then some (half s.recd.head 0)
  else if off = Reg.REC_HEAD_HI then some (half s.recd.head 1)
  else if off = Reg.REC_TAIL_LO then some (half s.recd.tail 0)
  else if off = Reg.REC_TAIL_HI then some (half s.recd.tail 1)
  else if off = Reg.REC_SPILL_NEXT_LO then some (half s.recd.spillNext 0)
  else if off = Reg.REC_SPILL_NEXT_HI then some (half s.recd.spillNext 1)
  else if off = Reg.REC_SPILL_BASE_LO then some (half s.recd.spillBase 0)
  else if off = Reg.REC_SPILL_BASE_HI then some (half s.recd.spillBase 1)
  else match inFam 0x270000 4 16384 off with
    | some w => some (recWin s section_ w)
    | none => none

def liveSbm (s : State) (off : Nat) : Option Nat :=
  if off = Reg.SBM_STATUS then
    some (pack [(F.SBM_STATUS_ADDR, 0x58 + fld s Reg.TOP_STRAP F.TOP_STRAP_SMBA), (F.SBM_STATUS_PEC_REQ, b2n (pecReq s)),
                (F.SBM_STATUS_WP, wpCode s.sbm.wp)])
  else match inFam (Reg.SBM_PMB_STATUS 0) 4 9 off with
    | some p => some (statusWord s p)
    | none => none

/-- The word that a register shows, where the model computes it on the read. `section_` is the reading class's REC_WIN_SEL. -/
def liveNat (s : State) (section_ off : Nat) : Option Nat :=
  if off < 0x80000 then liveTop s off
  else if off < 0x100000 then liveFab s off
  else if off < 0x120000 then livePh s off
  else if off < 0x140000 then liveCh s off
  else if off < 0x150000 then none
  else if off < 0x160000 then (if off = Reg.LAD_STATUS then some (ladStatus s) else none)
  else if off < 0x180000 then livePb s off
  else if off < 0x190000 then none
  else if off < 0x1A0000 then liveCap s off
  else if off < 0x1B0000 then liveFq s off
  else if off < 0x1C0000 then liveBal s off
  else if off < 0x1E0000 then liveTvl s off
  else if off < 0x200000 then liveDom s off
  else if off < 0x240000 then liveFwc s off
  else if off < 0x260000 then (match inFam (Reg.HIR_RING_STATUS 0) 0x20 64 off with
    | some r => some (ringStatus s r)
    | none => none)
  else if off < 0x280000 then liveRec s section_ off
  else if off < 0x2A0000 then (if off = Reg.INT_PENDING then some (intPending s) else none)
  else liveSbm s off

end Sys2Proof.Machine
end

