-- ==== Sys2Proof/Machine/Access.lean ====
section
/-! DEFINITION. Reads of Window 0 (R20, R21, R25–R27, R74, R916, R917, R921, R929) and the checks that a register write meets before it is
applied (Table 20.7; R22, R73, R84–R86, R93, R97, R155, R188, R891, R962). -/

namespace Sys2Proof.Machine

/-! ## Initiators -/

/-- The initiator can make an access: power-on reset is released, the PCI Express core is out of reset and the function exists, the core
runs, SEC is not rebooting. -/
def reachable (s : State) (who : Initiator) : Bool :=
  !s.top.porHeld &&
    (match who with
     | .host fn => s.top.pcieUp && fnHere s fn.val
     | .core n => coreRuns s n.val && !coreStalled s n.val
     | .sec => s.fwc.secUp && fwOn s
     | .smbus => true)

/-- R965: a host request meets a register interface that stands still. -/
def hostStuck (s : State) (who : Initiator) : Bool :=
  !fwOn s && (match who with
    | .host _ => true
    | _ => false)

/-- R818: a host request finds no answer: a read completes with Completer Abort, a write is dropped. -/
def hostTimeout (s : State) (write : Bool) : State :=
  raise { s with resp := if write then .none else .abort } Reg.TOP_INTEG_EVENT F.TOP_INTEG_EVENT_HOST_TIMEOUT

/-- The plane tag of an initiator: 0 control, 1 data, 2 management (Table 1.10). -/
def planeTag (s : State) : Initiator → Nat
  | .core n => (coreOf s n.val).tag
  | _ => 2

/-- A general core with the management tag. -/
def mgmtCore (s : State) : Initiator → Bool
  | .core n => (coreOf s n.val).tag == 2
  | _ => false

def isFn0 (who : Initiator) : Bool := who == .host 0

/-- Function 0 or management-plane firmware (R97, R769, R923). -/
def fn0OrFw (s : State) (who : Initiator) : Bool := isFn0 who || mgmtCore s who

/-- The initiator selected in TOP_COMMIT_OWNER. -/
def isOwner (s : State) (who : Initiator) : Bool := if (rd s Reg.TOP_COMMIT_OWNER).toNat = 0 then isFn0 who else mgmtCore s who

/-! ## Wide values (R25–R27) -/

/-- The low register of a 48-bit or 64-bit value, whose high register is 4 above it. -/
def wideLo (off : Nat) : Bool :=
  [Reg.TOP_SERIAL_LO, Reg.TOP_COMMIT_TICK_LO, Reg.TB_NOW_LO, Reg.NVS_TAIL_SEQ_LO, Reg.SEC_IMG_ADDR_LO, Reg.SEC_DBG_ADDR_LO, Reg.BAL_ETOT_LO,
   Reg.FWC_LD_ADDR_LO, Reg.REC_HEAD_LO, Reg.REC_TAIL_LO, Reg.REC_SPILL_BASE_LO, Reg.REC_SPILL_NEXT_LO].contains off
  || (inFam 0x10080 8 16 off).isSome || (inFam 0x30100 8 10 off).isSome || (inFam 0x120120 0x1000 8 off).isSome
  || (inFam 0x160108 0x20 8 off).isSome || (inFam 0x162004 0x10 256 off).isSome || (inFam 0x190060 0x100 32 off).isSome
  || (inFam 0x190068 0x100 32 off).isSome || (inFam 0x194004 0x10 512 off).isSome || (inFam 0x198008 0x200 4 off).isSome
  || (inFam 0x198010 0x200 4 off).isSome || (inFam 0x198018 0x200 4 off).isSome
  || ((inFam 0x198104 0x10 128 off).isSome && decide ((off - 0x198104) % 0x200 < 0x100))
  || (inFam 0x1B0010 0x20 32 off).isSome || (inFam 0x241008 0x20 64 off).isSome

/-- The low register of a writable wide value. -/
def wideWritable (off : Nat) : Bool :=
  [Reg.TOP_COMMIT_TICK_LO, Reg.SEC_IMG_ADDR_LO, Reg.SEC_DBG_ADDR_LO, Reg.FWC_LD_ADDR_LO, Reg.REC_TAIL_LO, Reg.REC_SPILL_BASE_LO].contains off
    || (inFam 0x241008 0x20 64 off).isSome

/-! ## Reads -/

/-- What a register shows to an initiator class, without the read's own effects. A WO register reads 0 (Table 0.6). -/
def readWord (s : State) (who : Initiator) (off : Nat) : Word :=
  let x := classOf s who
  if off = Reg.TOP_ACTIVE_SEL then BitVec.ofNat 32 (x.activeSel + b2n x.notHold * 2 ^ 31)
  else if off = Reg.REC_WIN_SEL then BitVec.ofNat 32 x.winSel
  else if off = Reg.TOP_ACTIVE_VAL then
    if x.notHold ∨ (groupAt (framesOf s) x.activeSel).isNone then
      (match regFind x.activeSel with
       | some r => if r.access = .hold ∧ !x.notHold then ac s x.activeSel else 0
       | none => 0)
    else if s.integ.activeUe.contains x.activeSel then 0xFFFFFFFF else ac s x.activeSel
  else match liveNat s x.winSel off with
    | some v => BitVec.ofNat 32 v
    | none =>
      match regFind off with
      | none => 0
      | some r => if r.access = .wo then 0 else rd s off

/-- R764, R768, Table 16.15: the Window 0 of a virtual function. -/
def vfRead (s : State) (f off : Nat) : Nat :=
  if off = 0x1000 then f
  else if off = 0x1004 then toMask ((List.range 32).filter (fun p => fld s (Reg.HIR_PART_FUNC p) F.HIR_PART_FUNC_FUNC == f))
  else if off = 0x1008 then toMask ((List.range 32).filter (fun r => ringOwner s r == f && ringOn s r))
  else if off = 0x100C then toMask ((List.range 32).filter (fun r => ringOwner s (32 + r) == f && ringOn s (32 + r)))
  else 0

/-- R25, R27: the low register captures the high part for the class; the high register gives the captured part once. `peek` is what a
register shows. -/
def wideRead (s : State) (who : Initiator) (peek : Nat → Word) (lo : Bool) (hi : Bool) (off : Nat) : Word × State :=
  if lo then
    (peek off, setClass s who (fun x => { x with captures := tabSet none x.captures off (some (peek (off + 4))) }))
  else if hi then
    match tabGet none (classOf s who).captures (off - 4) with
    | some v => (v, setClass s who (fun x => { x with captures := tabSet none x.captures (off - 4) none }))
    | none => (peek off, s)
  else (peek off, s)

/-- A read by an initiator: the answer, and what the read changes: a capture, an RC register (R74), the head of a dead-letter queue (R600),
the consequence of a bad active copy (R929). -/
def readReg (s : State) (who : Initiator) (off : Nat) : State :=
  if !reachable s who then { s with resp := .none }
  else if hostStuck s who then hostTimeout s false
  else match who with
  | .host ⟨0, _⟩ => go s
  | .host fn =>
    let (v, s) := wideRead s who (fun o => BitVec.ofNat 32 (vfRead s fn.val o)) (off == 0x1008) (off == 0x100C) off
    { s with resp := .word v }
  | _ => go s
where
  go (s : State) : State :=
    let (v, s) := wideRead s who (readWord s who) (wideLo off) (decide (4 ≤ off) && wideLo (off - 4)) off
    let s := { s with resp := .word v }
    let sel := (classOf s who).activeSel
    let s := if off = Reg.TOP_ACTIVE_VAL ∧ !(classOf s who).notHold ∧ s.integ.activeUe.contains sel then activeDbe s sel else s
    let s := match inFam (Reg.TVL_DLQ_W3 0) 0x20 8 off with
      | some q => dlqPop s q
      | none => s
    match regFind off with
    | some r => if r.access = .rc then wr s off 0 else s
    | none => s

/-! ## Suppressed writes (R84–R86) -/

/-- A write is suppressed; `owner` says that it is R86 that suppresses it. -/
def suppress (s : State) (who : Initiator) (off : Nat) (owner : Bool) : State :=
  let s := if owner then raise s Reg.TOP_PLANE_VIOL F.TOP_PLANE_VIOL_OWNER else s
  match who with
  | .core n => coreViol s n.val (coreOf s n.val).tag off (0x40000000 + off) 7
  | .host fn =>
    let s := bump (raise s Reg.TOP_PLANE_VIOL F.TOP_PLANE_VIOL_HOST) Reg.TOP_PLANE_VIOL_CNT ⟨0, 16⟩
    let s := record s .mgmt 0x03 0x03 fn.val 2 off off
    { s with top := { s.top with aerUncorr := s.top.aerUncorr + 1 }, resp := .unsupported }
  | .sec => coreViol s 8 2 off off 7
  | .smbus => { coreViol s 9 2 off off 7 with resp := .nack }

/-! ## The write gate -/

inductive Verdict where
  | pass      -- the write is applied
  | nothing    -- the write changes nothing and is not reported
  | refuse     -- suppressed under R73
  | notOwner   -- suppressed under R86
  deriving DecidableEq, Repr

/-- The plane a block's registers belong to (Table 1.2): 0 control, 1 data, 2 management. -/
def planeOfOff (off : Nat) : Nat :=
  if off < 0x80000 then 2
  else if off < 0x180000 then 0
  else if off < 0x190000 then 1
  else if off < 0x200000 then 0
  else 2

/-- Registers of a control-plane block that Table 1.11 lists under no plane but that the host driver writes (ch. 8 and 10). -/
def hostCtl (off : Nat) : Bool := off == Reg.PB_MIN_ARM || (inFam (Reg.CAP_SNAP_CTL 0) 0x200 4 off).isSome

/-- Words of the pending bank's local section, which the data plane writes through its own port (R98). -/
def localWord (s : State) (off : Nat) : Option Nat :=
  match inFam ((if s.bt.active1 then 0x1F0000 else 0x1F4000) + 0x2040) 4 128 off with
  | some i => some (0x810 + i)
  | none => none

/-- A word of the budget-table banks: a meeting point, of which Table 1.11 admits the local section alone. -/
def bankWord (off : Nat) : Bool := 0x1F0000 ≤ off && off < 0x1F8000

/-- A register of the time base: a meeting point that no plane writes but for its HOLD registers and event bits (R58, Table 1.4). -/
def timeBaseWord (off : Nat) : Bool := 0x10000 ≤ off && off < 0x20000

/-- FQ_GRANT and FQ_SCHED_HB: a control-tagged core with the scheduler role, or one of the pool. -/
def schedCore (s : State) : Initiator → Bool
  | .core n => (coreOf s n.val).tag == 0 && (coreRoleF (framesOf s) n.val == 2 || coreRoleF (framesOf s) n.val == 4)
  | _ => false

/-- R73: what the window of the tag admits, by block, access type and commit group. -/
def windowAdmits (s : State) (who : Initiator) (off : Nat) (r : RegFamily) : Bool :=
  let tag := planeTag s who
  if tag = 0 then planeOfOff off == 0 && r.access != .hold && off != Reg.DOM_BT_SEAL && !bankWord off
  else if tag = 1 then
    (planeOfOff off == 1 && r.access != .hold) || off == Reg.DOM_BT_SEAL || (localWord s off).isSome
  else
    let first := (match who with
      | .host _ => !s.img.applied || s.top.state == .decaf
      | _ => false)
    if r.access = .hold then !first || groupAt (framesOf s) off == some 40
    else if r.access = .w1c ∨ r.access = .rc then true
    else (planeOfOff off == 2 && !timeBaseWord off) || (hostCtl off && !first)

/-- Commit registers (R45). -/
def commitReg (off : Nat) : Bool :=
  [Reg.TOP_COMMIT_CTL, Reg.TOP_COMMIT_MASK_LO, Reg.TOP_COMMIT_MASK_HI, Reg.TOP_COMMIT_TICK_LO, Reg.TOP_COMMIT_TICK_HI].contains off

/-- Registers whose writer R163, R193, R213, R378, R731, R837, R852 and ch. 19 name as the owner. -/
def ownerReg (off : Nat) : Bool :=
  [Reg.TOP_START, Reg.TOP_START_CFG, Reg.SEC_IMG_CTL, Reg.SEC_IMG_SRC, Reg.SEC_IMG_ADDR_LO, Reg.SEC_IMG_ADDR_HI, Reg.SEC_IMG_LEN,
   Reg.PROT_THERM_LATCH, Reg.PROT_CH_LATCH, Reg.FWC_LD_CTL, Reg.FWC_LD_SRC, Reg.FWC_LD_ADDR_LO, Reg.FWC_LD_ADDR_HI, Reg.FWC_LD_LEN,
   Reg.FWC_LD_RETAIN, Reg.FWC_LIVE_CFG, Reg.NVS_CMD, Reg.NVS_CMD_KEY, Reg.NVS_CMD_BUF, Reg.NVS_CMD_LEN, Reg.NVS_CFG, Reg.SEC_DBG_CTL,
   Reg.SEC_DBG_ADDR_LO, Reg.SEC_DBG_ADDR_HI, Reg.REC_TAIL_LO, Reg.REC_TAIL_HI].contains off
  || (inFam (Reg.FWC_CORE_CTL 0) (Reg.FWC_CORE_CTL 1 - Reg.FWC_CORE_CTL 0) 8 off).isSome
  || (inFam (Reg.FWC_WDOG 0) (Reg.FWC_WDOG 1 - Reg.FWC_WDOG 0) 8 off).isSome

/-- The core that owns FWC_SELF_n at this offset. -/
def selfCore (off : Nat) : Option Nat := inFam (Reg.FWC_SELF 0) (Reg.FWC_SELF 1 - Reg.FWC_SELF 0) 8 off

/-- The put set of an offset: its number and the register within it. -/
def putSet (off : Nat) : Option (Nat × Nat) :=
  if 0x260200 ≤ off ∧ off < 0x260340 ∧ (off - 0x260200) % 32 ≤ 0x18 ∧ off % 4 = 0 then some ((off - 0x260200) / 32, (off - 0x260200) % 32) else none

/-- R832: the put set of an initiator. -/
def putNo : Initiator → Nat
  | .core n => n.val
  | .sec => 8
  | .host ⟨0, _⟩ => 9
  | _ => 10

/-- Registers with writers of their own, inside the plane windows. -/
def namedWriter (s : State) (who : Initiator) (off : Nat) (val : Nat) : Bool :=
  if off = Reg.TOP_COMMIT_OWNER then fn0OrFw s who
  else if off = Reg.TOP_RST_CTL then
    (match who with
     | .smbus => resetEn s && (val % 8 == 1 || val % 8 == 2)
     | .sec => true
     | _ => fn0OrFw s who)
  else if off = Reg.SEC_FUSE_CTL ∨ (inFam (Reg.SEC_FUSE_DATA 0) 4 12 off).isSome then isFn0 who && (rd s Reg.TOP_COMMIT_OWNER).toNat == 0
  else if off = Reg.TOP_LOCK ∨ (inFam (Reg.TOP_ASSET 0) 4 4 off).isSome then fn0OrFw s who
  else if (0x241000 ≤ off ∧ off < 0x241900 ∧ off % 4 = 0) ∨ off = Reg.INT_MASK ∨ (inFam (Reg.INT_ROUTE 0) 4 20 off).isSome then fn0OrFw s who
  else if off = Reg.FQ_GRANT ∨ off = Reg.FQ_SCHED_HB then schedCore s who
  else true

/-- Table 20.7: the verdict on a write that reaches Window 0. -/
def gate (s : State) (who : Initiator) (off : Nat) (val : Nat) : Verdict :=
  if wholeReset s ∧ off ≠ Reg.TOP_RST_CTL then .nothing
  else if off = Reg.TOP_ACTIVE_SEL ∨ off = Reg.REC_WIN_SEL then .pass
  else match regFind off with
    | none => .nothing
    | some r =>
      match selfCore off, putSet off with
      | some n, _ => (match who with
        | .core k => if k.val = n then .pass else .refuse
        | _ => .refuse)
      | _, some m => if putNo who = m.1 then .pass else .refuse
      | none, none =>
        if !windowAdmits s who off r then .refuse
        else if (r.access = .hold ∨ commitReg off) ∧ !isOwner s who then .notOwner
        else if (ownerReg off ∧ !isOwner s who) ∨ !namedWriter s who off val then .refuse
        else .pass

/-- R86: a commit request suppressed for its owner sets RESULT and writes a commit entry. -/
def ownerRefused (s : State) (off val : Nat) : State :=
  if off = Reg.TOP_COMMIT_CTL ∧ bitOf val 0 ∧ !bitOf val 2 then
    commitEntry (commitResult s resOwner) ((rd s Reg.TOP_COMMIT_MASK_LO).toNat + (rd s Reg.TOP_COMMIT_MASK_HI).toNat * 2 ^ 32)
      (b2n (bitOf val 1)) resOwner (if bitOf val 1 then rd64 s Reg.TOP_COMMIT_TICK_LO else 0)
  else s

/-- A write by an initiator, with what it does where it is admitted. Functions other than 0 reach doorbells only, by their mirror. -/
def gated (s : State) (who : Initiator) (off val : Nat) (act : State → State) : State :=
  if !reachable s who then { s with resp := .none }
  else if hostStuck s who then hostTimeout s true
  else
    let s := { s with resp := .none }
    match who with
    | .host ⟨k + 1, _⟩ =>
      if wholeReset s then s
      else if off < 0x400 ∧ (off % 16 = 0 ∨ off % 16 = 4) ∧ ringOwner s (off / 16) = k + 1 then act s
      else suppress s who off false
    | _ =>
      match gate s who off val with
      | .pass => act s
      | .nothing => s
      | .refuse => suppress s who off false
      | .notOwner => ownerRefused (suppress s who off true) off val

end Sys2Proof.Machine
end

