-- ==== Sys2Proof/Machine/NvsCmd.lean ====
section
/-! DEFINITION. The non-volatile store's commands and scan, the brownout tail, the spill, and what firmware and the host put into the
recorder (ch. 18, R832–R861). -/

namespace Sys2Proof.Machine
open Host

/-! ## Recorder -/

/-- R831: the next multiple of 1,000,000 ns is reached: a Postmark goes in ahead of the staging queues. The refresh of R872 falls on the same
multiple. -/
def execPostmark (s : State) : Result :=
  let s := reach s ((s.recd.lastMs + 1) * 1000000)
  .next (pmRefresh (grantCycle s))

/-- R831: REC_CMD.POSTMARK asks for a Postmark of cause 5. -/
def execRecPostmarkCmd (who : Initiator) (val : Word) (s : State) : Result :=
  .next (gated s who Reg.REC_CMD val.toNat (fun s => if bitOf val.toNat 0 then dueMark s 5 else s))

/-- A staged word of put set m, at a place within the set. -/
def putWord (s : State) (m place : Nat) : Nat := (tabGet 0 s.recd.puts (0x260200 + 0x20 * m + place)).toNat

def planeOfTag : Nat → Plane
  | 0 => .control
  | 1 => .data
  | _ => .mgmt

/-- R833: the staged record of set m goes to the staging queue of the writer's tag; classes below 0x80 and 0xFF are refused. -/
def recPut (s : State) (who : Initiator) (m : Nat) : State :=
  let h := putWord s m 0
  let a := putWord s m 4
  if h % 256 < 0x80 ∨ h % 256 = 0xFF then raise s Reg.REC_EVENT F.REC_EVENT_PUT_REFUSED
  else stage s (planeOfTag (planeTag s who))
    { cls := h % 256, typ := h / 256 % 256, unit := h / 65536, arg := a % 65536, flags := a / 65536 % 8 * 4,
      value := putWord s m 8 + putWord s m 0xC * 2 ^ 32, value2 := putWord s m 0x10 + putWord s m 0x14 * 2 ^ 32 }

/-- R832, R833: a write of REC_PUT_GO_m. -/
def execRecPutGo (who : Initiator) (m : Fin 10) (val : Word) (s : State) : Result :=
  .next (gated s who (Reg.REC_PUT_GO m.val) val.toNat (fun s => if bitOf val.toNat 0 then recPut s who m.val else s))

/-- R837: REC_TAIL takes a value, kept between REC_HEAD − 16,384 and REC_HEAD. -/
def recTail (s : State) (v : Nat) : State :=
  { s with recd := { s.recd with tail := min s.recd.head (max v (s.recd.head - ringSize)) } }

/-- Slots of the spill window (SIZE × 2,048). -/
def spillSlots (s : State) : Nat := fld s Reg.REC_SPILL_SIZE F.REC_SPILL_SIZE_SIZE * 2048

/-- R842: entries that the ring no longer holds are passed over. -/
def spillSkip (s : State) : State :=
  let n := s.recd.head - ringSize - s.recd.spillNext
  if 0 < n then
    let s := bumpBy s Reg.REC_SPILL_CNT F.REC_SPILL_CNT_SKIPPED n
    let s := raise { s with recd := { s.recd with spillNext := s.recd.head - ringSize } } Reg.REC_EVENT F.REC_EVENT_SPILL_SKIP
    record s .data 0x01 0x04 0 0 n 0
  else s

/-- R841: a write of `n` entries is abandoned. -/
def spillAbandon (s : State) (n : Nat) : State :=
  let k := min n (s.recd.head - s.recd.spillNext)
  let s := { s with recd := { s.recd with spillNext := s.recd.spillNext + k } }
  if k = 0 then s else raise (bumpBy s Reg.REC_SPILL_CNT F.REC_SPILL_CNT_ABANDONED k) Reg.REC_EVENT F.REC_EVENT_SPILL_ABANDON

/-- R840, R841: the engine writes up to `n` entries to host memory, or its write is abandoned under R814. `bme` is Bus Master Enable of
function 0; `ue` is the address of a source word with a double-bit error, which goes out poisoned (R810). -/
def execSpillWrite (n : Nat) (bme abandoned : Bool) (ue : Option Word) (s : State) : Result :=
  .next (if spillOn s && bme && decide (0 < spillSlots s) then
      let s := spillSkip s
      let k := min n (s.recd.head - s.recd.spillNext)
      let es := (List.range k).map (fun i => s.recd.spillNext + i)
      if abandoned then spillAbandon s n
      else
        let s := match ue with
          | some a => dmaUe s 0 a.toNat
          | none => s
        forEach es { s with recd := { s.recd with spillNext := s.recd.spillNext + k } } (fun s i =>
        { s with recd := { s.recd with hostWin := tabSet {} s.recd.hostWin (i % spillSlots s) (tabGet {} s.recd.ring (i % ringSize)) } })
    else s)

/-! ## Erases (R847, R855) -/

/-- An erase of the engine's own that ends before anything else is taken up. -/
def eraseNow (s : State) (n : Nat) : State :=
  let s := eraseStart s n
  match s.nvs.erase with
  | some e => eraseEnd s e
  | none => s

/-- R847, R855: the erase in progress ends; `margin` says that the sector passes its margin read. Three failures in a row retire it. -/
def execSectorEraseDone (margin : Bool) (s : State) : Result :=
  .next (match s.nvs.erase with
    | none => s
    | some e =>
      if margin then eraseNext (eraseEnd s e)
      else
        let s := setSector s e.sector (fun x => { x with failed := x.failed + 1 })
        if 3 ≤ (sectorOf s e.sector).failed then
          eraseNext (retire (jPut { s with nvs := { s.nvs with erase := none } } 2 e.sector e.gen 0) e.sector)
        else s)

/-! ## The start-up scan (R849–R851, R858, Tables 18.7 and 18.8) -/

/-- A journal sector whose stamp is valid and whose first record is a CHECKPOINT. -/
def jValid (s : State) (n : Nat) : Bool :=
  (sectorOf s n).stampOk && ((sectorOf s n).jour.head?.map (fun r => r.typ)) == some 7

/-- R858: both journal sectors are erased; sector 0 takes a CHECKPOINT with an empty spare map. -/
def jRebuild (s : State) : State :=
  let wipe (s : State) (n : Nat) : State :=
    let g := s.nvs.gen + 1
    let s := { s with nvs := { s.nvs with gen := g } }
    let s := setSector s n (fun x => { stampOk := true, gen := g, erases := x.erases + 1, wearSaid := x.wearSaid })
    eraseSaid s n g
  let s := { s with nvs := { s.nvs with spare := [] } }
  let s := wipe (wipe s 1) 0
  let s := jRaw (nextJ s) 0 { typ := 7, sector := 0, jseq := s.nvs.jseq + 1, gen := s.nvs.gen, arg := 0 }
  setF (setF { s with nvs := { s.nvs with jcur := 0 } } Reg.TOP_SUPPLY F.TOP_SUPPLY_NVS_ERR 1) Reg.NVS_STATUS ⟨8, 6⟩ 1

/-- Step 2: the current journal sector. -/
def jChoose (s : State) : State :=
  let s := setF s Reg.NVS_STATUS ⟨8, 1⟩ 0
  match jValid s 0, jValid s 1 with
  | true, true => { s with nvs := { s.nvs with jcur := if (sectorOf s 0).gen < (sectorOf s 1).gen then 1 else 0 } }
  | true, false => { s with nvs := { s.nvs with jcur := 0 } }
  | false, true => { s with nvs := { s.nvs with jcur := 1 } }
  | false, false => jRebuild s

/-- The open intent of a sector. -/
def openIntent (l : List JRec) (n : Nat) : Option JRec :=
  (l.reverse.find? (fun r => r.typ == 1 && r.sector == n)).bind (fun r =>
    if l.any (fun d => d.typ == 2 && d.sector == n && r.jseq < d.jseq) then none else some r)

/-- What the scan does with a sector: 0 nothing, 1 write DONE, 2 re-erase, 3 unknown and re-erase (Table 18.8). -/
def recognise (s : State) (lost : Bool) (n : Nat) : Nat :=
  let x := sectorOf s n
  let held := n ≥ 2 && n < 8 && (tailRec s (if n < 5 then 2 else 5)).isSome
  let a := match openIntent (sectorOf s s.nvs.jcur).jour n with
    | some r => if x.stampOk && x.gen == r.gen then (if x.blankOk then 1 else 2) else 2
    | none => if x.stampOk then (if x.blankOk then 0 else 2) else 3
  if a ≥ 2 ∧ held ∧ x.stampOk then 0 else if a = 2 ∧ lost then 3 else a

/-- Steps 3 to 5 for one sector. -/
def scanSector (s : State) (lost : Bool) (n : Nat) : State :=
  let a := recognise s lost n
  let s := if a = 3 then bump s Reg.NVS_SCAN F.NVS_SCAN_UNKNOWN else s
  if a = 1 then jPut s 2 n (sectorOf s n).gen 0
  else if 2 ≤ a then
    let s := bump (eraseNow s n) Reg.NVS_SCAN F.NVS_SCAN_REPAIRED
    record (raise s Reg.NVS_EVENT F.NVS_EVENT_REPAIRED) .mgmt 0x13 0x02 n 0 s.nvs.gen (sectorOf s n).erases
  else s

/-- The leading entries of a found tail whose SEQ equals the first sequence plus their index (R850). -/
def tailReadable (s : State) (r : JRec) : List Entry :=
  let l := tabGet [] s.nvs.tails r.sector
  ((List.range l.length).takeWhile (fun i => (l.getD i {}).seq == r.first + i)).map (fun i => l.getD i {})

/-- The newest unreleased tail. -/
def newestTail (s : State) : Option JRec :=
  match tailRec s 2, tailRec s 5 with
  | some a, some b => if a.jseq < b.jseq then some b else some a
  | some a, none => some a
  | none, b => b

/-- NVS_TAIL and NVS_TAIL_SEQ show the newest unreleased tail (step 6). -/
def tailShow (s : State) : State :=
  match newestTail s with
  | none => wr (wr (wr s Reg.NVS_TAIL 0) Reg.NVS_TAIL_SEQ_LO 0) Reg.NVS_TAIL_SEQ_HI 0
  | some r =>
    let n := (tailReadable s r).length
    wr64 (wrN s Reg.NVS_TAIL (n + 2 ^ 12 * b2n (tailValid s r) + 2 ^ 13 * b2n (!tailValid s r) + 2 ^ 14 * b2n (r.sector == 5))) Reg.NVS_TAIL_SEQ_LO r.first

/-- R851: the entry and events of a found tail. -/
def tailFound (s : State) (a : Nat) : State :=
  match tailRec s a with
  | none => s
  | some r =>
    let s := raise s Reg.NVS_EVENT F.NVS_EVENT_TAIL_FOUND
    let s := if tailValid s r then s else raise s Reg.NVS_EVENT F.NVS_EVENT_TAIL_INCOMPLETE
    record s .mgmt 0x01 0x05 (if tailValid s r then 1 else 2) (tailReadable s r).length 0 r.first

/-- R894: what the KIND 0x0004 record carries: the state and the first 8 bytes of the hash of each owner entry. -/
def ownerBytes (s : State) : List Byte :=
  (List.range 4).flatMap (fun k => leBytes 1 (ownerState (ownerOf s k)) ++ leBytes 8 (ownerOf s k).hash)

/-- R894: SEC rewrites the record where it disagrees with the fuses. -/
def ownerRewrite (s : State) : State :=
  match newestRec (areaLog s 64 4) 4 0 with
  | some r => if r.payload = ownerBytes s then s else putRecord s 4 0 (ownerBytes s)
  | none => s

/-- R854: counters from the newest record, and one more power-on reset. -/
def lifeLoad (s : State) : State :=
  let p := (newestRec (areaLog s 48 16) 3 0).map (fun r => r.payload)
  let t := (List.range 10).foldl (fun t k => tabSet 0 t k (leAt (p.getD []) (8 * k) 8)) ([] : Tab Nat)
  lifeUp { s with nvs := { s.nvs with life := t } } 0

/-- Step 7: the tail area that does not hold the newest unreleased tail, if it is not armed. -/
def tailArm (s : State) : State :=
  let keep := (newestTail s).map (fun r => r.sector)
  forEach ([2, 5].filter (fun a => some a != keep && !areaArmed s a && !(tailRec s a).isSome)) s (fun s a => eraseAsk s [a, a + 1, a + 2])

/-- The scan's steps. -/
def scanRun (s : State) : State :=
  let lost := !(jValid s 0 || jValid s 1)
  let s := jChoose (wr s Reg.NVS_SCAN 0)
  let s := forEach (List.range 240) s (fun s n => scanSector s lost n)
  let s := setF s Reg.NVS_SCAN F.NVS_SCAN_RETIRED (min s.nvs.spare.length 255)
  let s := tailFound (tailFound (tailShow s) 2) 5
  let s := raise s Reg.NVS_EVENT F.NVS_EVENT_SCAN_DONE
  let s := raise { s with nvs := { s.nvs with scanning := false } } Reg.TOP_SUPPLY F.TOP_SUPPLY_NVS_READY
  let s := record s .mgmt 0x13 0x06 0 0 s.nvs.gen 0
  tailArm (putCounters (lifeLoad (ownerRewrite s)))

/-- R849: the start-up scan ends; it begins only after a tail commit has ended. -/
def execNvsScanDone (s : State) : Result := .next (if s.nvs.scanning && s.nvs.tail.isNone then scanRun s else s)

/-- R843, R387: the commit of a tail ends with TAIL_DONE, or a flash error ends it after `done` entries. -/
def execTailCommitDone (ok : Bool) (done : Nat) (s : State) : Result :=
  .next (if ok || s.nvs.tail.isNone then tailEnd s true 0
    else
      let s := tailEnd s false done
      let vaux := flag s Reg.LAD_STATUS F.LAD_STATUS_VAUX_CAUSE
      if s.top.porHeld then s
      else record s .control 0x07 0x04 (b2n vaux) 0 (fld s (if vaux then Reg.LAD_VAUX else Reg.LAD_VIN) ⟨0, 16⟩) (now s))

/-! ## Commands of the engine (R852, R853, R859) -/

/-- A command ends in an error: CMD_FAIL and a WRITE_FAIL entry with the sector; a command in progress goes on. -/
def nvRefuse (s : State) (result sector : Nat) : State :=
  let s := setF s Reg.NVS_CMD_STATUS F.NVS_CMD_STATUS_RESULT result
  record (raise s Reg.NVS_EVENT F.NVS_EVENT_CMD_FAIL) .mgmt 0x13 0x04 sector result s.nvs.gen 0

/-- The buffer of a command as an index of normal memory. -/
def nvBuf (c : NvCmd) : Nat := if c.ring then sramSize + c.off else c.off

/-- The buffer lies in its memory and in the management regions. -/
def nvBufOk (s : State) (c : NvCmd) : Bool := decide (c.off + c.len ≤ (if c.ring then ringSpan else sramSize)) && memIn s 2 (nvBuf c) c.len

def kindOk (kind : Nat) : Bool := (decide (1 ≤ kind) && decide (kind ≤ 4)) || decide (0x8000 ≤ kind)

/-- The result of the first check that a command fails, 1 where it begins. -/
def nvCheck (s : State) (c : NvCmd) : Nat :=
  let area := (areaOf c.kind).1
  if !flag s Reg.TOP_SUPPLY F.TOP_SUPPLY_NVS_READY then 11
  else if c.op = 0 ∨ 5 < c.op then 4
  else if c.op ≤ 2 ∧ (!kindOk c.kind ∨ (c.op = 1 ∧ (c.kind = 3 ∨ c.kind = 4))) then 4
  else if (c.op = 1 ∧ 4076 < c.len) ∨ (c.op = 2 ∧ 4096 < c.len) ∨ (c.op = 3 ∧ c.len < 65536) then 5
  else if c.op ≤ 3 ∧ !nvBufOk s c then 5
  else if (c.op ≤ 2 ∧ unavail s area) ∨ ((c.op = 3 ∨ c.op = 4) ∧ unavail s 2) ∨ (c.op = 5 ∧ unavail s 48) then 6
  else if c.op = 1 ∧ areaFull s c.kind ((c.len + 83) / 64) then 7
  else 1

/-- The command that the registers hold. -/
def nvCmdOf (s : State) (op kind : Nat) : NvCmd :=
  let w := (rd s Reg.NVS_CMD_BUF).toNat
  { op := op, kind := kind, key := (rd s Reg.NVS_CMD_KEY).toNat, ring := bitOf w 31, off := w / 64 % 2 ^ 16 * 64,
    len := fld s Reg.NVS_CMD_LEN F.NVS_CMD_LEN_LEN, sector := writeSector s (areaOf kind).1 }

/-- NVS_CMD.GO: the command of the registers begins, or ends at once in an error. -/
def nvGo (s : State) (op kind : Nat) : State :=
  let c := nvCmdOf s op kind
  if s.nvs.cmd.isSome then nvRefuse s 10 c.sector
  else
    let r := nvCheck s c
    if r = 1 then
      setF { s with nvs := { s.nvs with cmd := some c } } Reg.NVS_CMD_STATUS F.NVS_CMD_STATUS_RESULT 1
    else nvRefuse s r c.sector

/-- A write of NVS_CMD. -/
def nvCmdWrite (s : State) (val : Nat) : State :=
  if bitOf val 4 then nvGo s (val % 16) (val / 65536) else s

/-- A write of NVS_CMD that starts an operation. -/
def nvRow (s : State) (who : Initiator) (op kind : Nat) : State :=
  gated s who Reg.NVS_CMD (op + 16 + kind * 65536) (fun s => nvGo s op kind)

/-- R853: APPEND of a record of KIND; KEY, buffer and length stand in the command registers. -/
def execAppend (who : Initiator) (kind : BitVec 16) (s : State) : Result := .next (nvRow s who 1 kind.toNat)
/-- R859: READ of the newest valid record of KIND and KEY. -/
def execRead (who : Initiator) (kind : BitVec 16) (s : State) : Result := .next (nvRow s who 2 kind.toNat)
/-- READ_TAIL of the tail that NVS_TAIL shows. -/
def execReadTail (who : Initiator) (s : State) : Result := .next (nvRow s who 3 0)
/-- RELEASE_TAIL of the tail that NVS_TAIL shows. -/
def execReleaseTail (who : Initiator) (s : State) : Result := .next (nvRow s who 4 0)
/-- R854: COUNTERS_NOW. -/
def execCountersNow (who : Initiator) (s : State) : Result := .next (nvRow s who 5 0)

/-- The command in progress ends with DONE and the generation of its record. -/
def nvDone (s : State) (gen : Nat) : State :=
  nvCmdEnd (setF s Reg.NVS_CMD_STATUS F.NVS_CMD_STATUS_GEN gen) 2

/-- R853: an attempt of an APPEND: its read-back matches, or its units are lost; the second failure ends it. A management-plane reset that
waits for the attempt (R160) leaves no second one. -/
def appendDone (s : State) (c : NvCmd) (ok : Bool) : State :=
  let b := memRead s (nvBuf c) c.len
  if ok then
    let s := putRecord s c.kind c.key b
    nvDone s s.nvs.gen
  else
    let s := burnUnits s c.kind (recUnits b)
    if (s.top.rst.any (fun r => (r.level :: r.also).contains 5)) then nvCmdFail s 8 (writeSector s (areaOf c.kind).1)
    else if 1 ≤ c.tries then nvCmdFail s 9 (writeSector s (areaOf c.kind).1)
    else { s with nvs := { s.nvs with cmd := some { c with tries := c.tries + 1 } } }

/-- R859: READ answers the newest valid record; `ok` false leaves the newest one out, its read having failed. -/
def readDone (s : State) (c : NvCmd) (ok : Bool) : State :=
  let (first, n) := areaOf c.kind
  let l := areaLog s first n
  let r := newestRec l c.kind c.key
  let r := if ok then r else newestRec (l.filter (fun x => some x != r)) c.kind c.key
  match r with
  | some x => nvDone (memWrite s 8 (nvBuf c) (x.payload.take c.len)) x.gen
  | none => nvCmdFail s 3 c.sector

/-- A flash command in progress ends after its program or read-back; `ok` is the read-back of an APPEND and the check of a READ. -/
def execNvsCommandDone (ok : Bool) (s : State) : Result :=
  .next (match s.nvs.cmd with
    | none => s
    | some c =>
      if c.op = 1 then appendDone s c ok
      else if c.op = 2 then readDone s c ok
      else if c.op = 5 then nvDone (putCounters s) s.nvs.gen
      else match newestTail s with
        | none => nvCmdFail s 3 2
        | some r =>
          if c.op = 3 then nvDone (memWrite s 8 (nvBuf c) ((tailReadable s r).flatMap entryBytes)) r.gen
          else
            let s := jPut s 5 r.sector s.nvs.gen 0
            nvDone (tailShow s) r.gen)

/-- R854: COUNT_INT has passed since the last COUNTERS record. -/
def execCountersWrite (s : State) : Result :=
  let n := fld s Reg.NVS_CFG F.NVS_CFG_COUNT_INT
  .next (if flag s Reg.TOP_SUPPLY F.TOP_SUPPLY_NVS_READY && decide (0 < n) then putCounters (reach s (s.nvs.countAt + n * 60000000000)) else s)

end Sys2Proof.Machine
end

