-- ==== Sys2Proof/Machine/SecCmd.lean ====
section
/-! DEFINITION. SEC's commands: fuse operations, debug unlock, its ROM watchdog and its reboot (ch. 15, ch. 19; R757, R888–R899, R905–R909). -/

namespace Sys2Proof.Machine
open Host

/-! ## Fuse operations (R889–R895, Table 19.8) -/

def fuseResult (s : State) (r : Nat) : State := setF s Reg.SEC_FUSE_STATUS F.SEC_FUSE_STATUS_RESULT r

/-- A value of bound b lies within Table 7.2, in the units of the BOUND record: 0.5 A, 1/16 °C, 100 mV for VIN and 10 mV for VAUX. -/
def boundRange (b v : Nat) : Bool :=
  match b with
  | 0 => decide (40 ≤ v) && decide (v ≤ 240)
  | 1 => decide (960 ≤ v) && decide (v ≤ 1840)
  | 2 => decide (v ≤ 520)
  | 3 => decide (v ≤ 500)
  | 4 => decide (v ≤ 320)
  | _ => decide (v ≤ 310)

/-- The condition of Table 19.8: 0 where it holds, otherwise the result it is refused with. -/
def fuseCond (s : State) (o : FuseOp) : Nat :=
  let held := (List.range 8).filterMap (fun n => (coreOf s n).img)
  match o.op with
  | 1 => if (activeOwner s).isSome ∨ (freeOwner s).isNone then 7 else 0
  | 2 => if (activeOwner s).isNone then 7 else if rootOff s ∧ (freeOwner s).isNone then 8 else 0
  | 3 => if (activeOwner s).isNone then 8 else 0
  | 4 => if thermo s.sec.fuse.imgRb < o.arg ∧ o.arg ≤ 128 ∧ s.top.state = .loaded ∧ o.arg ≤ s.img.rollback then 0 else 9
  | 5 => if thermo s.sec.fuse.fwRb < o.arg ∧ o.arg ≤ 128 ∧ held ≠ [] ∧ held.all (fun i => decide (o.arg ≤ i.rollback)) then 0 else 9
  | 6 => if (bitOf o.arg 0 ∧ !s.sec.fuse.dbgRootOff) ∨ (bitOf o.arg 1 ∧ !s.sec.fuse.dbgOwnerOff) then 0 else 9
  | 7 =>
    let v := o.data.getD 0 0 % 2 ^ 16
    if 5 < o.arg then 9
    else if (freeBound s o.arg).isNone then 7
    else if (if o.arg < 2 then decide (v < boundNow s o.arg) else decide (boundNow s o.arg < v)) && boundRange o.arg v then 0
    else 9
  | _ => 9

/-- R892: the first check that fails, in order; 2 where the operation starts. -/
def fuseCheck (s : State) (o : FuseOp) : Nat :=
  if o.at_ + 1000000000 < now s then 11
  else if s.top.state ≠ .decaf ∧ s.top.state ≠ .loaded then 5
  else if flag s Reg.LAD_STATUS F.LAD_STATUS_VAUX_WARN then 6
  else if loadActive s ∨ ldBusy s ∨ s.sec.run.isSome ∨ (s.sbm.spdm.map (fun q => q.signed)) = some true then 10
  else if fuseCond s o = 0 then 2 else fuseCond s o

def setArm (s : State) (a : Option FuseOp) : State := { s with sec := { s.sec with arm := a } }

/-- R892: a write of SEC_FUSE_CTL. -/
def fuseCtl (s : State) (val : Nat) : State :=
  let op := val % 16
  let go := bitOf val 4
  let key := val / 256 % 256
  let arg := val / 65536
  if !go ∧ key = 0x5A then
    fuseResult (setArm s (some { op := op, arg := arg, data := (List.range 12).map (fun k => (rd s (Reg.SEC_FUSE_DATA k)).toNat), at_ := now s })) 1
  else if go ∧ key = 0xA5 then
    match s.sec.arm with
    | none => fuseEnd s { op := op, arg := arg, data := [], at_ := 0 } 11
    | some o =>
      let s1 := setArm s none
      if o.op ≠ op then fuseResult s1 4
      else
        let r := fuseCheck s o
        if r = 2 then fuseResult { s1 with sec := { s1.sec with run := some o } } 2 else fuseEnd s1 o r
  else fuseResult (setArm s none) 4

def fuseRow (s : State) (who : Initiator) (op arg : Nat) (go : Bool) : State :=
  let val := op + 16 * b2n go + (if go then 0xA5 else 0x5A) * 256 + arg * 65536
  gated s who Reg.SEC_FUSE_CTL val (fun s => fuseCtl s val)

/-- R892: SEC_FUSE_CTL with GO 0 and KEY 0x5A. -/
def execFuseArm (who : Initiator) (op : BitVec 4) (arg : BitVec 16) (s : State) : Result := .next (fuseRow s who op.toNat arg.toNat false)
/-- The start of operation 1: SEC_FUSE_CTL with GO 1 and KEY 0xA5. -/
def execOwnerHash (who : Initiator) (arg : BitVec 16) (s : State) : Result := .next (fuseRow s who 1 arg.toNat true)
/-- The start of operation 2. -/
def execOwnerRevoke (who : Initiator) (arg : BitVec 16) (s : State) : Result := .next (fuseRow s who 2 arg.toNat true)
/-- The start of operation 3. -/
def execRootDisable (who : Initiator) (arg : BitVec 16) (s : State) : Result := .next (fuseRow s who 3 arg.toNat true)
/-- The start of operation 4. -/
def execImgRb (who : Initiator) (arg : BitVec 16) (s : State) : Result := .next (fuseRow s who 4 arg.toNat true)
/-- The start of operation 5. -/
def execFwRb (who : Initiator) (arg : BitVec 16) (s : State) : Result := .next (fuseRow s who 5 arg.toNat true)
/-- The start of operation 6. -/
def execDebugOff (who : Initiator) (arg : BitVec 16) (s : State) : Result := .next (fuseRow s who 6 arg.toNat true)
/-- The start of operation 7. -/
def execBound (who : Initiator) (arg : BitVec 16) (s : State) : Result := .next (fuseRow s who 7 arg.toNat true)

/-- R893, R894: the operation ends: every bit reads back, or one does not. An owner-key operation is followed by a KIND 0x0004 record. -/
def execFuseOperationDone (ok : Bool) (s : State) : Result :=
  .next (match s.sec.run with
    | none => s
    | some o =>
      let s := if ok then fuseStop (fuseWhole s o) o 3 else fuseStop (fusePart s o) o 12
      if (o.op = 1 ∨ o.op = 2) ∧ flag s Reg.TOP_SUPPLY F.TOP_SUPPLY_NVS_READY ∧ !unavail s 64 then putRecord s 4 0 (ownerBytes s) else s)

/-! ## Debug unlock (R896–R899, R906, R909) -/

/-- R896: a new nonce of 32 random bytes; while a token is verified, it becomes valid afterwards (R906). -/
def nonceNew (s : State) : List Byte × State :=
  let (n, s) := drawNat s (2 ^ 256)
  let b := leBytes 32 n
  let s := forEach (List.range 8) s (fun s k => wrN s (Reg.SEC_DBG_NONCE k) (leAt b (4 * k) 4))
  (b, if s.sec.token.isSome then { s with sec := { s.sec with nextNonce := some b } } else { s with sec := { s.sec with nonce := some b } })

/-- R897: a token is submitted; it consumes the nonce. A token that comes while another is verified is not taken up. -/
def tokenSubmit (s : State) (t : List Byte) (fetchErr : Bool) : State :=
  match s.sec.token with
  | some _ => { s with sec := { s.sec with nextNonce := none } }
  | none => { s with sec := { s.sec with token := some { token := t, nonce := s.sec.nonce, fetchErr := fetchErr }, nonce := none } }

/-- Length of a token (Table 19.9). -/
abbrev tokenLen : Nat := 320

/-- R909: the first failing item of a token; 1 where it opens debug access. -/
def tokenCheck (s : State) (t : TokenSt) : Nat :=
  let b := t.token
  let slot := leAt b 4 1
  if t.fetchErr then 8
  else if leAt b 0 4 ≠ 0x55444246 then 2
  else if leAt b 8 8 ≠ Config.serial.toNat then 3
  else if t.nonce ≠ some ((b.drop 0x10).take 32) then 4
  else if (slotHash s slot).isNone ∨ (slot = 0 ∧ s.sec.fuse.dbgRootOff) ∨ (slot = 1 ∧ s.sec.fuse.dbgOwnerOff) then 5
  else if leAt b 0x46 1 ≠ slot ∨ !keyOk s b 0x40 then 6
  else if !sigOk b 0x40 0xC0 then 7
  else 1

/-- R897, R899, R909: the verification of the submitted token ends. -/
def execDebugTokenVerified (s : State) : Result :=
  .next (match s.sec.token with
    | none => s
    | some t =>
      let r := tokenCheck s t
      let s := setF { s with sec := { s.sec with token := none, nonce := s.sec.nextNonce, nextNonce := none } }
        Reg.SEC_DBG_STATUS F.SEC_DBG_STATUS_RESULT r
      if r = 1 then
        let c := leAt t.token 0x30 1
        let s := { s with sec := { s.sec with cores := s.sec.cores ||| c, ever := true } }
        record (raise s Reg.SEC_EVENT F.SEC_EVENT_DBG_UNLOCK) .mgmt 0x14 0x02 c (leAt t.token 4 1) (now s) 0
      else record (raise s Reg.SEC_EVENT F.SEC_EVENT_DBG_REFUSED) .mgmt 0x14 0x03 0 r (now s) 0)

/-- SEC_DBG_CTL.SUBMIT: the token comes from the source at SEC_DBG_ADDR. -/
def dbgSubmit (s : State) (src : Nat) (got : Fetched) : State :=
  let addr := rd64 s Reg.SEC_DBG_ADDR_LO
  match (if srcOk src addr tokenLen then fetchTake s src addr tokenLen got else none) with
  | some b => tokenSubmit s b false
  | none => tokenSubmit (if srcOk src addr tokenLen then fetchAer s src got else s) [] true

/-- R898: debug access closes. -/
def dbgLock (s : State) : State := { s with sec := { s.sec with cores := 0 } }

/-- A write of SEC_DBG_CTL; its bits act in rising order. -/
def dbgCtl (s : State) (val : Nat) (got : Fetched) : State :=
  let s := if bitOf val 0 then (nonceNew s).2 else s
  let s := if bitOf val 1 then dbgSubmit s (val / 16 % 4) got else s
  if bitOf val 2 then dbgLock s else s

/-- R896: SEC_DBG_CTL.NONCE. -/
def execNonce (who : Initiator) (s : State) : Result := .next (gated s who Reg.SEC_DBG_CTL 1 (fun s => (nonceNew s).2))
/-- R897: SEC_DBG_CTL.SUBMIT with SRC; `got` is what a fetch from host memory brings. -/
def execSubmit (who : Initiator) (src : Fin 4) (got : Fetched) (s : State) : Result :=
  .next (gated s who Reg.SEC_DBG_CTL (2 + 16 * src.val) (fun s => dbgSubmit s src.val got))
/-- R898: SEC_DBG_CTL.LOCK. -/
def execLock (who : Initiator) (s : State) : Result := .next (gated s who Reg.SEC_DBG_CTL 4 dbgLock)

/-! ## SEC's watchdog and reboot (R757) -/

/-- What SEC was doing when its watchdog expires is dropped: loads end ABORTED, a fuse operation stops, an SPDM request goes unanswered. -/
def secDown (s : State) : State :=
  let s := fuseAbort s
  let s := if ldBusy s then ldEnd s 0x15 0 0xFFFF else s
  let s := if s.img.phase = .fetch ∨ s.img.phase = .verify ∨ s.img.phase = .parse ∨ s.img.phase = .check then loadAbort s 0x15 else s
  let s := { s with sec := { s.sec with arm := none, token := none, nonce := none, nextNonce := none } }
  setSbm s (fun x => { x with spdm := none, conn := [] })

/-- R757: SEC's ROM watchdog expires. -/
def execSecWatchdog (s : State) : Result :=
  .next (if s.fwc.secUp && fwOn s && s.top.state != .off && !s.top.porHeld then
      let s := lower (secDown s) Reg.TOP_SUPPLY F.TOP_SUPPLY_SEC_OK
      let s := { s with sec := { s.sec with wdogEver := true }, fwc := { s.fwc with secUp := false } }
      record (raise s Reg.FWC_LD_EVENT F.FWC_LD_EVENT_SEC_WDOG) .mgmt 0x10 0x07 8 0 0 0
    else s)

/-- R757: the reboot ends; SEC_OK is set when the self-check passes. -/
def execSecRebootDone (secOk idOk : Bool) (s : State) : Result := .next (if s.fwc.secUp then s else secBoot (pmRefresh s) secOk idOk)

end Sys2Proof.Machine
end

