-- ==== Sys2Proof/Machine/Rings.lean ====
section
/-! DEFINITION. The host rings in hardware (ch. 16): enabling, doorbells, fetching, posting, telemetry and aggregation; Window 2; and the
losses of ch. 17 that reach the host. -/

namespace Sys2Proof.Machine
open Host

/-! ## Enabling and stopping (R770, R771, R794, R797) -/

/-- Ring-memory offsets of the arrays of a command ring: SQ, then CQ. -/
def sqBase (s : State) (r : Nat) : Nat := (rd s (Reg.HIR_RING_SQ r)).toNat
def cqBase (s : State) (r : Nat) : Nat := rd64 s (Reg.HIR_RING_CQ_LO r)

def ringArrays (s : State) (r : Nat) : List (Nat × Nat) := [(sqBase s r, 64 * sqSize s r), (cqBase s r, 64 * cqSize s r)]

/-- R770: the conditions of enabling ring r. -/
def ringCfgOk (s : State) (r : Nat) : Bool :=
  let sql := fld s (Reg.HIR_RING_CFG r) F.HIR_RING_CFG_SQ_LOG
  let cql := fld s (Reg.HIR_RING_CFG r) F.HIR_RING_CFG_CQ_LOG
  let others := ((List.range 64).filter (fun k => k != r && (ringOf s k).state != .disabled && !ringTel s k)).flatMap (ringArrays s)
  let a := (sqBase s r, 64 * sqSize s r)
  let c := (cqBase s r, 64 * cqSize s r)
  fnHere s (ringOwner s r) && decide (4 ≤ cql) && decide (cql ≤ 12)
    && (ringTel s r ||
      (decide (4 ≤ sql) && decide (sql ≤ 12) && [a, c].all (fun x => decide (x.1 + x.2 ≤ ringSpan) && memIn s 2 (sramSize + x.1) x.2
          && !others.any (meets x)) && !meets a c))

/-- The commands of a ring that have not completed, and their completions that have not been posted, are gone. -/
def ringIdle (s : State) (r : Nat) : Bool := (ringOf s r).cmds == [] && (ringOf s r).done == []

/-- A completion is ready to be posted. -/
def hirFinish (s : State) (r : Nat) (c : HirCmd) (status detail : Nat) (result : List Byte) : State :=
  setRing s r (fun x => { x with cmds := x.cmds.erase c,
                                 done := x.done ++ [{ cid := c.cid, status := status, detail := detail, result := result, quiet := bitOf c.flags 1 }] })

/-- R771, R794, R797: a write of HIR_RING_CFG_r. Outstanding BULK_RECV commands of a stopping ring complete with ABORTED. -/
def ringCfgWrite (s : State) (r val : Nat) : State :=
  let was := flag s (Reg.HIR_RING_CFG r) F.HIR_RING_CFG_EN
  let s := wrN s (Reg.HIR_RING_CFG r) (val &&& 0x3FFF3F03)
  let en := bitOf val 0
  if !was ∧ en then
    if ringCfgOk s r then
      ownerSync (setRing s r (fun x => { state := .running, missed := 0, agg := 0, aggAt := x.aggAt }))
    else setRing s r (fun x => { x with state := .disabled, err := 1 })
  else if was ∧ !en then
    let s := if fwUp s then forEach ((ringOf s r).cmds.filter (fun c => c.opcode == 0x0081)) s (fun s c => hirFinish s r c 8 0 []) else s
    ownerSync (setRing s r (fun x =>
      if x.state = .disabled then x
      else if x.cmds = [] ∧ x.done = [] then { x with state := .disabled }
      else { x with state := .stopping }))
  else ownerSync s

/-- R770, R771: HIR_RING_CFG_r with EN 1 and the other fields of `val`. -/
def execRingEnable (who : Initiator) (ring : Fin 64) (val : Word) (s : State) : Result :=
  let v := val.toNat ||| 1
  .next (gated s who (Reg.HIR_RING_CFG ring.val) v (fun s => ringCfgWrite s ring.val v))

/-- R794: HIR_RING_CFG_r with EN 0 and its other fields as they are. -/
def execRingDisable (who : Initiator) (ring : Fin 64) (s : State) : Result :=
  let v := (rd s (Reg.HIR_RING_CFG ring.val)).toNat / 2 * 2
  .next (gated s who (Reg.HIR_RING_CFG ring.val) v (fun s => ringCfgWrite s ring.val v))

/-- R797: a ring enters ERROR; `off` is the register that was written. -/
def ringError (s : State) (r err off : Nat) : State :=
  let s := setRing s r (fun x => { x with state := .error, err := err })
  let s := record (raise s Reg.HIR_EVENT F.HIR_EVENT_RING_ERR) .mgmt 0x11 0x01 r err off err
  ownerSync s

/-! ## Doorbells (R772–R774, R796) -/

/-- R772: the SQ tail. -/
def sqDoorbell (s : State) (r v : Nat) : State :=
  if !ringOn s r || ringTel s r then s
  else if sqSize s r ≤ v % 4096 then ringError s r 3 (Reg.HIR_DB_SQ r)
  else setRing s r (fun x => { x with sqTail := v % 4096 })

/-- R774: the CQ head. -/
def cqDoorbell (s : State) (r v : Nat) : State :=
  let x := ringOf s r
  let n := cqSize s r
  if !ringOn s r then s
  else if n ≤ v % 4096 ∨ (x.cqTail + n - x.cqHead) % n < (v % 4096 + n - x.cqHead) % n then ringError s r 2 (Reg.HIR_DB_CQ r)
  else setRing s r (fun x => { x with cqHead := v % 4096 })

/-- The offset of a doorbell in the Window 0 of its writer: a virtual function uses its mirror (R768). -/
def doorbellOff (who : Initiator) (ring : Nat) (cq : Bool) : Nat :=
  match who with
  | .host ⟨_ + 1, _⟩ => 0x10 * ring + 4 * b2n cq
  | _ => if cq then Reg.HIR_DB_CQ ring else Reg.HIR_DB_SQ ring

def execSqDoorbell (who : Initiator) (ring : Fin 64) (val : Word) (s : State) : Result :=
  .next (gated s who (doorbellOff who ring.val false) val.toNat (fun s => sqDoorbell s ring.val val.toNat))

def execCqDoorbell (who : Initiator) (ring : Fin 64) (val : Word) (s : State) : Result :=
  .next (gated s who (doorbellOff who ring.val true) val.toNat (fun s => cqDoorbell s ring.val val.toNat))

/-! ## Fetching and posting (R775, R776, R793, R798, R802) -/

/-- Completions posted and not released. -/
def cqUsed (s : State) (r : Nat) : Nat := ((ringOf s r).cqTail + cqSize s r - (ringOf s r).cqHead) % cqSize s r

/-- The occupancy of a ring. -/
def occupancy (s : State) (r : Nat) : Nat := cqUsed s r + (ringOf s r).cmds.length + (ringOf s r).done.length

/-- Table 16.4. -/
def readCmd (s : State) (r i : Nat) : HirCmd :=
  let b := memRead s (sramSize + sqBase s r + 64 * i) 64
  { cid := leAt b 4 2, opcode := leAt b 0 2, flags := leAt b 2 1, addr := leAt b 8 8, len := leAt b 0x10 4, param := b.drop 0x20 }

/-- R775, R798: the engine fetches the entry at the SQ head; `bad` says that it reads with a double-bit error. -/
def execCommandFetch (ring : Fin 64) (bad : Bool) (s : State) : Result :=
  let r := ring.val
  let x := ringOf s r
  .next (if x.state == .running && !ringTel s r && x.sqHead != x.sqTail && decide (occupancy s r < cqSize s r - 1) then
      let c := readCmd s r x.sqHead
      let s := setRing s r (fun x => { x with sqHead := (x.sqHead + 1) % sqSize s r, cmds := x.cmds ++ [c] })
      if bad then hirFinish s r c 9 0 [] else s
    else s)

/-- The owner's vector VEC; a virtual function has four. -/
def ringSignal (s : State) (r : Nat) : State :=
  let f := ringOwner s r
  let v := fld s (Reg.HIR_RING_CFG r) F.HIR_RING_CFG_VEC
  let s := setRing s r (fun x => { x with agg := 0 })
  if f = 0 ∨ v < 4 then signal s f v else s

/-- R793: an entry has been posted that counts for the vector. -/
def ringAgg (s : State) (r : Nat) : State :=
  if flag s (Reg.HIR_RING_INT r) F.HIR_RING_INT_INT_EN then
    let n := fld s (Reg.HIR_RING_INT r) F.HIR_RING_INT_AGG_N
    let s := setRing s r (fun x => { x with agg := x.agg + 1, aggAt := if x.agg = 0 then now s else x.aggAt })
    if n ≤ (ringOf s r).agg then ringSignal s r else s
  else s

/-- The CQ tail advances; the phase inverts as it wraps. -/
def cqAdvance (s : State) (r : Nat) : State :=
  let n := cqSize s r
  let s := setRing s r (fun x => { x with cqTail := (x.cqTail + 1) % n, phase := if x.cqTail + 1 = n then !x.phase else x.phase })
  bump s (Reg.HIR_RING_CNT r) F.HIR_RING_CNT_ENTRIES

/-- Table 16.5. -/
def doneBytes (s : State) (r : Nat) (d : HirDone) : List Byte :=
  leBytes 2 d.cid ++ leBytes 2 (ringOf s r).sqHead ++ leBytes 2 d.status ++ leBytes 1 (b2n (ringOf s r).phase) ++ [0] ++ leBytes 8 (now s)
    ++ leBytes 4 d.detail ++ List.replicate 12 0 ++ (d.result ++ List.replicate 32 0).take 32

/-- R776: the oldest completion of a ring is written at the CQ tail. -/
def hirPost (s : State) (r : Nat) : State :=
  match (ringOf s r).done with
  | [] => s
  | d :: rest =>
    let s := memWrite s 8 (sramSize + cqBase s r + 64 * (ringOf s r).cqTail) (doneBytes s r d)
    let s := cqAdvance (setRing s r (fun x => { x with done := rest })) r
    let s := if d.quiet then s else ringAgg s r
    if (ringOf s r).state = .stopping ∧ ringIdle s r then setRing s r (fun x => { x with state := .disabled }) else s

/-- The opcodes of Table 16.7. -/
def opcodes : List Nat :=
  [0x01, 0x02, 0x10, 0x11, 0x12, 0x13, 0x14, 0x20, 0x21, 0x22, 0x30, 0x31, 0x32, 0x33, 0x40, 0x50, 0x51, 0x60, 0x70, 0x71, 0x80, 0x81, 0x90]

/-- R778: a fetched command may begin: every earlier one has begun, none of them with FENCE; with FENCE itself, none is left. -/
def mayBegin (s : State) (r : Nat) (c : HirCmd) : Bool :=
  let before := (ringOf s r).cmds.takeWhile (fun x => x != c)
  before.all (fun x => x.began && !bitOf x.flags 0) && (!bitOf c.flags 0 || before == [])

/-- Commands whose opcode Table 16.7 does not hold complete with INVALID_OPCODE as they would begin. -/
def hirInvalid (s : State) (r : Nat) : State :=
  match (ringOf s r).cmds.find? (fun c => !c.began) with
  | some c => if !opcodes.contains c.opcode && mayBegin s r c then hirFinish s r c 1 0 [] else s
  | none => s

/-- R776, R802: a completion is posted, while firmware is there; nothing is posted on a ring in DISABLED. -/
def execCompletionPost (ring : Fin 64) (s : State) : Result :=
  let r := ring.val
  .next (if fwUp s && (ringOf s r).state != .disabled && !ringTel s r then hirPost (hirInvalid s r) r else s)

/-- R793: AGG_T has passed since the first entry without a signal. -/
def execInterruptAggregationTimer (ring : Fin 64) (s : State) : Result :=
  let r := ring.val
  .next (if 0 < (ringOf s r).agg then
      ringSignal (reach s ((ringOf s r).aggAt + fld s (Reg.HIR_RING_INT r) F.HIR_RING_INT_AGG_T * 1000)) r
    else s)

/-! ## Telemetry rings (R779–R781, R799, R810, R814) -/

/-- A sample that is not written. -/
def telMissed (s : State) (r : Nat) : State :=
  let s := setRing s r (fun x => { x with missed := min (x.missed + 1) 65535 })
  sinkTake (raise (bump s (Reg.HIR_RING_CNT r) F.HIR_RING_CNT_MISSED) Reg.HIR_EVENT F.HIR_EVENT_MISSED) 6

/-- Bytes 0x10–0x3F of Table 16.6 for an object. -/
def telBody (s : State) (kind i : Nat) : List Byte :=
  if kind = 1 then
    let w := freqWord s i
    leBytes 1 i ++ [0] ++ leBytes 2 (w % 2048) ++ leBytes 2 (w / 65536 % 2048) ++ leBytes 2 (fld s (Reg.CAP_DUTY i) F.CAP_DUTY_DUTY)
      ++ leBytes 2 (fld s (Reg.CAP_PWR i) F.CAP_PWR_P) ++ leBytes 2 (fld s (Reg.CAP_TEMP i) F.CAP_TEMP_T_MAX)
      ++ leBytes 2 (fld s (Reg.CAP_BIND i) F.CAP_BIND_BIND) ++ leBytes 1 (balOf s i).level ++ [0]
      ++ leBytes 8 (rd64 s (Reg.CAP_LOST_THR_LO i)) ++ leBytes 8 (rd64 s (Reg.CAP_LOST_STR_LO i)) ++ List.replicate 16 0
  else if kind = 2 then
    leBytes 1 i ++ leBytes 1 (chCode (railState s i)) ++ leBytes 1 (activePh s i).length
      ++ leBytes 1 (b2n ((chOf s i).drip != .run) + 2 * b2n (shedOf s i) + 4 * b2n (boosting s i))
      ++ leBytes 2 (rd s (Reg.CH_VSENSE i)).toNat ++ leBytes 2 (rd s (Reg.CH_VTARGET i)).toNat
      ++ leBytes 4 (rd s (Reg.CH_I i)).toNat ++ leBytes 2 (fld s (Reg.PB_CHMIN i) F.PB_CHMIN_VALUE) ++ List.replicate 34 0
  else
    leBytes 1 (devCode s.top.state) ++ [0] ++ leBytes 2 (rd s Reg.LAD_VIN).toNat ++ leBytes 2 (rd s Reg.LAD_VAUX).toNat
      ++ leBytes 2 (rd s Reg.LAD_VHOLD).toNat ++ leBytes 4 s.fq.power ++ leBytes 1 (roleCode (domRoleNow s)) ++ List.replicate 35 0

/-- R779: one entry of the telemetry ring goes to host memory; without a free slot, or where it cannot be written (the link is down, R137),
it is missed. -/
def telWrite (s : State) (r kind i : Nat) (ok : Bool) : State :=
  if !ok ∨ !s.top.pcieUp ∨ cqSize s r - 1 ≤ cqUsed s r then telMissed s r
  else
    let x := ringOf s r
    let b := leBytes 1 kind ++ leBytes 1 r ++ leBytes 2 x.missed ++ [0, 0] ++ leBytes 1 (b2n x.phase) ++ [0] ++ leBytes 8 (now s) ++ telBody s kind i
    let s := setHir s (fun h => { h with hostOut := h.hostOut ++ [(cqBase s r + 64 * x.cqTail, b)] })
    ringAgg (cqAdvance (setRing s r (fun x => { x with missed := 0 })) r) r

/-- R779, R780: the objects that a ring samples. -/
def telObjects (s : State) (r kind : Nat) : List Nat :=
  let sel := (ac s (Reg.HIR_TEL_SEL r)).toNat
  let f := ringOwner s r
  if kind = 1 then (maskBits 32 sel).filter (fun p => f == 0 || fld s (Reg.HIR_PART_FUNC p) F.HIR_PART_FUNC_FUNC == f)
  else if f ≠ 0 then []
  else if kind = 2 then maskBits 8 sel
  else [0]

/-- R779, R781, R799: a multiple of PERIOD is reached. `ok` is false where Bus Master Enable of the owner is 0 or the write ends in an error;
`ue` is the address of a source word with a double-bit error, met with the first object (R810). -/
def execTelemetrySample (ring : Fin 64) (ok : Bool) (ue : Option Word) (s : State) : Result :=
  let r := ring.val
  let kind := aF s (Reg.HIR_TEL_CFG r) F.HIR_TEL_CFG_KIND
  let per := aF s (Reg.HIR_TEL_CFG r) F.HIR_TEL_CFG_PERIOD * 10000
  .next (if (ringOf s r).state == .running && ringTel s r && kind != 0 && per != 0 then
      let s := reach s ((now s / per + 1) * per)
      match ok, ue, telObjects s r kind with
      | true, some a, _ :: l => forEach l (telMissed (dmaUe s r a.toNat) r) (fun s i => telWrite s r kind i ok)
      | _, _, l => forEach l s (fun s i => telWrite s r kind i ok)
    else s)

/-- R814: a DMA write of a telemetry ring, or of the spill (`n` entries), has found no posted credits for 10 µs. -/
def execDmaWriteAbandon (ring : Option (Fin 64)) (n : Nat) (s : State) : Result :=
  .next (match ring with
    | some r => if (ringOf s r.val).state == .running && ringTel s r.val then telMissed s r.val else s
    | none => if spillOn s then spillAbandon s n else s)

/-! ## Functions, Window 2 and requests (R764–R767, R800, R818) -/

/-- R764, R800: NumVFs, or 0 where VF Enable is cleared, becomes `vfs`; functions above it cease to exist. -/
def execVfDisable (vfs : Fin 64) (s : State) : Result :=
  let gone := (List.range 64).filter (fun f => decide (vfs.val < f) && decide (f ≤ s.hir.vfs))
  .next (if s.top.pcieUp then ownerSync (forEach gone (setHir s (fun h => { h with vfs := vfs.val })) (fun s f => fnStop s f 5)) else s)

/-- R765: a range of ring memory is admitted to a function through Window 2. -/
def window2Ok (s : State) (f off n : Nat) : Bool :=
  decide (off + n ≤ ringSpan) &&
    (if f = 0 then memIn s 2 (sramSize + off) n
     else
      let own := ((List.range 64).filter (fun r => (ringOf s r).state != .disabled && !ringTel s r && ringOwner s r == f)).flatMap (ringArrays s)
      (List.range ((off + n + 4095) / 4096 - off / 4096)).all (fun k =>
        own.any (fun a => decide (a.1 / 4096 ≤ off / 4096 + k) && decide (off / 4096 + k ≤ (a.1 + a.2 - 1) / 4096))))

/-- The bytes that a write leaves: its own where they are enabled, the present ones elsewhere. -/
def mergeBytes (old : List Byte) (data : List (Option Byte)) : List Byte := List.zipWith (fun o d => d.getD o) old data

/-- R766: what a read of Window 2 answers; zeros where it is not admitted. -/
def window2Read (s : State) (f off n : Nat) : Resp :=
  .data (if window2Ok s f off n then memRead s (sramSize + off) n else List.replicate n 0)

/-- R75, R765–R767, R798: a host access through Window 2. -/
def execHostWindow2Write (fn : Fin 64) (off : BitVec 20) (io : WinIo) (s : State) : Result :=
  let ix := sramSize + off.toNat
  .next (match io with
    | .write data =>
      if !reachable s (.host fn) then { s with resp := .none }
      else if hostStuck s (.host fn) then hostTimeout s true
      else if window2Ok s fn.val off.toNat data.length then memWrite { s with resp := .none } 8 ix (mergeBytes (memRead s ix data.length) data)
      else suppress s (.host fn) off.toNat false
    | .read n =>
      if !reachable s (.host fn) then { s with resp := .none }
      else if hostStuck s (.host fn) then hostTimeout s false
      else { s with resp := window2Read s fn.val off.toNat n }
    | .readUe n bad =>
      if !reachable s (.host fn) then { s with resp := .none }
      else if hostStuck s (.host fn) then hostTimeout s false
      else if window2Ok s fn.val off.toNat n then
        let s := memUe s 0 (ix + min bad (n - 1))
        { s with resp := .poison, top := { s.top with aerUncorr := s.top.aerUncorr + 1 } }
      else { s with resp := window2Read s fn.val off.toNat n })

/-- R818: a host request finds no answer within 2 µs. -/
def execHostRequestTimeout (fn : Fin 64) (write : Bool) (s : State) : Result :=
  .next (if reachable s (.host fn) then hostTimeout s write else s)

/-! ## Crossings and sinks (R808, R825) -/

/-- Table 17.3: the consequence of a lost item. -/
def crossLost (s : State) : CrossLost → State
  | .commitStaging off =>
    let s := wrN s Reg.TOP_COMMIT_FAIL_ADDR off.toNat
    commitRefuse s (rd64 s Reg.TOP_COMMIT_MASK_LO) 0 resRange 0
  | .timeRead => s
  | .postline die lane => postlineBad s die.val lane.val false
  | .frame lane cls lseq => frameArrive s lane.val lseq.val false { cls := cls.val, scope := 0, dest := 0, src := 0, typ := 0, epoch := 0, oseq := 0, ttl := 0, body := [] }
  | .cell lane c => (cellReceive s lane.val c false).1
  | .hostWrite => { s with top := { s.top with aerUncorr := s.top.aerUncorr + 1 } }
  | .recorder plane => dropRecord s plane
  | .aonEvent => s

/-- The item moves by a handshake, whose source keeps it (R807); the others stand in dual-clock queues. -/
def handshake : CrossLost → Bool
  | .commitStaging _ => true
  | .timeRead => true
  | .aonEvent => true
  | _ => false

/-- R807, R808: a crossing transfer fails its parity; `unit` is the crossing's. A handshake tries one value again, `more` times here, and
reports it as lost after the third failure; an entry of a queue is lost at once. -/
def execCrossingParityError (unit : Byte) (item : CrossLost) (more : Fin 3) (s : State) : Result :=
  let n := if handshake item then more.val + 1 else 1
  let s := bumpBy (raise s Reg.TOP_INTEG_EVENT F.TOP_INTEG_EVENT_PARITY) Reg.TOP_INTEG_CNT F.TOP_INTEG_CNT_PARITY n
  let s := boundaryFail s 4 unit.toNat 0
  .next (if handshake item ∧ n < 3 then s else crossLost s item)

/-- R825: 1 ms after the last take of a sink of rank r. -/
def execDrainStatusExpiry (rank : Fin 9) (s : State) : Result :=
  .next (match tabGet 0 s.drain rank.val with
    | 0 => s
    | t + 1 =>
      let s := reach s (t + 1000000)
      setF { s with drain := tabErase s.drain rank.val } Reg.TOP_DRAIN_STATUS ⟨rank.val, 1⟩ 0)

end Sys2Proof.Machine
end

