-- ==== Sys2Proof/Machine/TimeBase.lean ====
section
/-! DEFINITION. Commands of the clocks and the time base: captures, PPS, the sync exchange, the servo's states, and clock faults
(ch. 2; R607–R610). -/

namespace Sys2Proof.Machine
open Host

/-! ## Captures and PPS -/

/-- R110, R111: a capture source fires `ns` ns into the present REFCLK cycle, before a step of that cycle if `inStep`. -/
def execCaptureEvent (src : Fin 32) (falling : Bool) (ns : Fin 10) (inStep : Bool) (s : State) : Result :=
  .next (capture s src.val falling (now s + ns.val) inStep)

/-- The PPS period in ns. -/
def ppsPeriod (s : State) : Nat := 1000000 * 10 ^ aF s Reg.TB_PPS_CFG F.TB_PPS_CFG_PERIOD

/-- R112: the time base crosses the next multiple of the period; the edges of TBPPS_OUT are capture source 0x10. -/
def execPpsPulse (s : State) : Result :=
  if aOn s Reg.TB_PPS_CFG F.TB_PPS_CFG_EN ∧ s.tb.running then
    let t := max (now s / ppsPeriod s) (s.tb.ppsAt / ppsPeriod s + 1) * ppsPeriod s
    let w := aF s Reg.TB_PPS_CFG F.TB_PPS_CFG_WIDTH * 10
    let s := setTb (reach s t) (fun x => { x with ppsAt := t, ppsUntil := t + w })
    .next (capture (capture s 0x10 false t) 0x10 true (t + w))
  else .next s

/-! ## The sync exchange (R607–R610) -/

/-- R609: SYNC with a new XID on each tree edge below that is in UP; t1 is written when the frame leaves (R608). -/
def execSyncInterval (s : State) : Result :=
  .next (forEach (belowUp s) s (fun s n =>
    let x := s.tvl.xid
    postPeer { s with tvl := { s.tvl with xid := (x + 1) % 2 ^ 32 } } n 0x0101 (leBytes 4 x ++ stampBytes 0)))

/-- R609: a child receives SYNC on its parent lane and answers; t3 is written when the answer leaves (R608). Stamps in 1/16 ns. -/
def execSync (lane : LaneIx) (xid t1 t2 : Nat) (s : State) : Result :=
  let s := takeRx s 0x0101
  if upLane s = some lane.val ∧ laneUp s lane.val then
    let s := setTb s (fun t => { t with xch := some { xid := xid % 2 ^ 32, t1 := t1, t2 := t2 } })
    .next (postPeer s lane.val 0x0102 (leBytes 4 xid ++ stampBytes t2 ++ stampBytes 0))
  else .next s

/-- R609: a parent receives SYNC_RESP at `t4` and sends SYNC_FIN. -/
def execSyncResp (lane : LaneIx) (xid t4 : Nat) (s : State) : Result :=
  let s := takeRx s 0x0102
  if (belowUp s).contains lane.val then .next (postPeer s lane.val 0x0103 (leBytes 4 xid ++ stampBytes t4)) else .next s

/-- The asymmetry correction of the parent lane, 1/16 ns. -/
def tbAsym (s : State) (lane : Nat) : Int := sext 16 (aF s (Reg.TB_ASYM (min lane 6)) F.TB_ASYM_ASYM)

/-- R610: a child receives SYNC_FIN; a valid exchange updates the servo. -/
def execSyncFin (lane : LaneIx) (xid t4 : Nat) (s : State) : Result :=
  let s := takeRx s 0x0103
  match s.tb.xch with
  | none => .next s
  | some x =>
    if upLane s = some lane.val ∧ x.xid = xid % 2 ^ 32 then
      let s := setTb s (fun t => { t with xch := none })
      match x.t3 with
      | none => .next s
      | some t3 =>
        let up : Int := (x.t2 : Int) - x.t1
        let dn : Int := (t4 : Int) - t3
        if stampNow s ≤ x.t2 + 1600000 ∧ (s.tb.servo = .acquire ∨ s.tb.servo = .locked ∨ s.tb.servo = .holdover) then
          .next (tbServo s ((up - dn) / 2 - tbAsym s lane.val) ((up + dn) / 2).toNat)
        else .next s
    else .next s

/-! ## Servo states -/

/-- R115: four missed exchange intervals. -/
def execHoldoverEntry (s : State) : Result :=
  if s.tb.servo = .locked ∨ s.tb.servo = .acquire then .next (enterHoldover s) else .next s

/-- R116: HOLDOVER has lasted for its limit. -/
def execHoldoverLimit (s : State) : Result :=
  if s.tb.servo = .holdover then
    .next (loseAlign (reach s (s.tb.heldSince + aF s Reg.TB_HOLD_CFG F.TB_HOLD_CFG_LIMIT * 100000)))
  else .next s

/-- R138: RATE has stayed at its limit for 16 consecutive exchanges. -/
def execRateLimit (s : State) : Result :=
  if 16 ≤ s.tb.limitRun ∧ !s.tb.rateLimited then
    .next (loseAlign (raise (setTb s (fun t => { t with rateLimited := true })) Reg.TB_EVENT F.TB_EVENT_RATE_LIMIT))
  else .next s

/-! ## Clock faults (R132–R137, R964, R965) -/

/-- R132, R964, R965: no REFCLK edge for 200 ns. -/
def execRefclkLoss (s : State) : Result :=
  if s.top.porHeld ∨ (!s.tb.running ∧ !flag s Reg.CLK_STATUS F.CLK_STATUS_REFCLK_OK ∧ flag s Reg.CLK_FAULT F.CLK_FAULT_REFCLK_LOSS) then .next s
  else
    let s := lower (lower s Reg.CLK_STATUS F.CLK_STATUS_REFCLK_OK) Reg.CLK_STATUS F.CLK_STATUS_PLL_CTL_LOCK
    let s := setTb s (fun t => { t with running := false, xch := none })
    let s := clkFault (raise s Reg.CLK_FAULT F.CLK_FAULT_PLL_CTL_UNLOCK) 0
    let s := if s.clk.fw = .backup then lower { s with clk := { s.clk with fw := .none } } Reg.CLK_STATUS F.CLK_STATUS_FW_ON_BACKUP else s
    .next (ctlClockLost s)

/-- R132: PLL_CTL loses lock. -/
def execPllCtlUnlock (s : State) : Result :=
  if s.top.porHeld then .next s
  else .next (ctlClockLost (clkFault (lower s Reg.CLK_STATUS F.CLK_STATUS_PLL_CTL_LOCK) 1))

/-- R131, R133, R139: REFCLK edges come (again). A count that has not begun has not stopped. -/
def execRefclkResume (s : State) : Result :=
  if s.top.porHeld ∨ s.tb.running then .next s
  else if s.tb.c = 0 ∧ s.tb.f = 0 then .next (setTb s (fun t => { t with running := true }))
  else
    let s := setTb s (fun t => { t with running := true, discont := true, everLocked := false })
    let s := raise s Reg.TB_EVENT F.TB_EVENT_DISCONT
    let s := if s.tb.servo = .locked ∨ s.tb.servo = .acquire ∨ s.tb.servo = .holdover then enterAcquire s else s
    .next (dueMark (domCancel (cancelAllCommits s)) 4)

/-- R964: REFCLK has shown edges for 10 µs. -/
def execRefclkOkRestored (s : State) : Result :=
  if s.tb.running then .next (raise s Reg.CLK_STATUS F.CLK_STATUS_REFCLK_OK) else .next s

/-- R964: PLL_CTL has relocked. -/
def execPllCtlRelock (s : State) : Result :=
  if flag s Reg.CLK_STATUS F.CLK_STATUS_REFCLK_OK then .next (raise s Reg.CLK_STATUS F.CLK_STATUS_PLL_CTL_LOCK) else .next s

/-- R134, R965: the crystal or PLL_FW fails; without its crystal PLL_FW is not locked. -/
def execXtalFail (what : FwClockFault) (s : State) : Result :=
  if s.top.porHeld then .next s
  else
    let bit := match what with | .xtal => 2 | .pllFw => 3
    let s := clkFault (lower (setF s Reg.CLK_STATUS ⟨bit, 1⟩ 0) Reg.CLK_STATUS F.CLK_STATUS_PLL_FW_LOCK) bit
    if s.clk.fw = .pll then
      if s.tb.running then .next (raise { s with clk := { s.clk with fw := .backup } } Reg.CLK_STATUS F.CLK_STATUS_FW_ON_BACKUP)
      else .next { s with clk := { s.clk with fw := .none } }
    else .next s

/-- The crystal and PLL_FW run CLK_FW. -/
def fwOnPll (s : State) : State :=
  let s := raise (raise s Reg.CLK_STATUS F.CLK_STATUS_XTAL_OK) Reg.CLK_STATUS F.CLK_STATUS_PLL_FW_LOCK
  lower { s with clk := { s.clk with fw := .pll } } Reg.CLK_STATUS F.CLK_STATUS_FW_ON_BACKUP

/-- R965: CLK_FW resumes on the source that is first regained. -/
def execClkFwSourceRestored (pll : Bool) (s : State) : Result :=
  if s.clk.fw ≠ .none then .next s
  else if pll then .next (fwOnPll s)
  else if s.tb.running then .next (raise { s with clk := { s.clk with fw := .backup } } Reg.CLK_STATUS F.CLK_STATUS_FW_ON_BACKUP)
  else .next s

/-- R135: GO of CLK_FW_RETURN is written; `ok` says that the crystal has been present for 10 ms, as XTAL_OK says where the write does not. -/
def clkFwReturn (s : State) (ok : Option Bool) : State :=
  let ok := ok.getD (flag s Reg.CLK_STATUS F.CLK_STATUS_XTAL_OK)
  if s.clk.fw = .backup && ok then fwOnPll s else s

/-- R136: the CLK_CTL monitor measures CLK_AON. -/
def execAonFault (khz : Nat) (s : State) : Result :=
  if s.top.porHeld then .next s
  else
    let s := wrN s Reg.CLK_AON_FREQ (satU 18 khz)
    if khz < 80000 ∨ 120000 < khz then
      let s := clkFault (lower s Reg.CLK_STATUS F.CLK_STATUS_AON_OK) 5
      .next (haltSwitched { s with top := { s.top with hAon := true } })
    else .next (raise s Reg.CLK_STATUS F.CLK_STATUS_AON_OK)

/-- R137: PCIE_REFCLK is lost; the link goes down. -/
def execPcieRefclkLoss (s : State) : Result :=
  if s.top.porHeld then .next s
  else
    let s := clkFault (lower s Reg.CLK_STATUS F.CLK_STATUS_PCIE_REFCLK_OK) 4
    .next { s with top := { s.top with pcieUp := false } }

end Sys2Proof.Machine
end

