-- ==== Sys2Proof/Machine/Write.lean ====
section
/-! DEFINITION. What an admitted register write does, by access type and by register (ch. 20, Table 0.6), and the commands that are register
writes or reads of Window 0: commits, resets, starts, loads, latch clears, locks, and a core's loads and stores (ch. 14). -/

namespace Sys2Proof.Machine
open Host

/-- What the environment settles about a register write beside its value: the fetch of a token (R897), whether the source of CLK_FW may
return (R136), what the snapshot of a commit finds (R809), and the readings at a latch clear (Table 7.6). -/
structure WrExt where
  got : Fetched := .error
  clkOk : Option Bool := none      -- none: as XTAL_OK reads
  ce : Nat := 0
  ue : List Nat := []
  pairs : List (Nat × Nat) := []   -- sense readings by channel, 1/16 mV
  tripIn : Option Bool := none     -- THERMTRIP_IN_N is high; none: as last seen
  deriving DecidableEq, Repr

/-! ## Protection latches (Table 7.6, R378–R381) -/

/-- The readings that count for a rail: those given for its channels, or the rail's present one. -/
def railPairs (s : State) (pairs : List (Nat × Nat)) (r : Nat) : List Nat :=
  let l := (pairs.filter (fun p => railOf s p.1 == r)).map (fun p => p.2)
  if l = [] then [sense s r] else l

/-- Every sense pair of the rail lies below the OV limit − 50 mV. -/
def ovClears (s : State) (pairs : List (Nat × Nat)) (r : Nat) : Bool :=
  (railPairs s pairs r).all (fun v => decide (v + 800 < aF s (Reg.PROT_OV r) F.PROT_OV_LIMIT * 80))

/-- Every channel's primary pair lies below the strap ceiling − 50 mV. -/
def decafOvClears (s : State) (pairs : List (Nat × Nat)) : Bool :=
  (if pairs = [] then (List.range 8).map (sense s) else pairs.map (fun p => p.2)).all (fun v => decide (v + 800 < strapCeiling s * 16))

/-- Every trip wire inactive, THERMTRIP_IN_N high, and no report above CRIT − 5 °C for 1 ms from a die whose Postline is up. -/
def tripClears (s : State) : Bool :=
  !s.top.tripInLow && (List.range 4).all (fun d => !(dieOf s d).trip
    && !(dieUp s d && (dieOf s d).hotAt != 0 && decide (now s < (dieOf s d).hotAt - 1 + 1000000)))

/-- R379: a clear is refused. -/
def clearRefused (s : State) (unit cause : Nat) : State :=
  record (raise s Reg.PROT_EVENT F.PROT_EVENT_CLR_REFUSED) .control 0x06 0x02 unit cause 0 (now s)

def decafOv (s : State) : Bool := bitOf (rd s Reg.PROT_THERM_LATCH).toNat 6

/-- The phases that the latch of rail r (8 for DECAF overvoltage) holds are released to MID with SEN_q low (R380); a DECAF overvoltage latch
that is still set keeps them. -/
def crowbarOff (s : State) (r : Nat) : State :=
  let ps := (List.range 64).filter (fun p => (phOf s p).crowbar && (phOf s p).crowRail == r)
  if decafOv s then forEach ps s (fun s p => setPh s p (fun x => { x with crowRail := 8 }))
  else senLow (forEach ps s (fun s p => setPh s p (fun x => { x with crowbar := false, crowRail := 8, level := .mid }))) (ps.map (fun p => p / 4))

/-- R379–R381: the latch of kind 0 overvoltage, 1 phase short or 2 overload shutdown of rail r is cleared, or its clear is refused. -/
def chLatchClear (s : State) (pairs : List (Nat × Nat)) (kind r : Nat) : State :=
  if kind = 0 ∧ !ovClears s pairs r then clearRefused s r 0
  else
    let s := lower (pmRefresh s) Reg.PROT_CH_LATCH ⟨8 * kind + r, 1⟩
    if kind = 0 then
      railOff (lower (crowbarOff s r) Reg.PROT_STATUS ⟨8 + r, 1⟩) r
    else if (chOf s r).state = .latched ∧ !railLatched s r then setCh s r (fun x => { x with state := .off })
    else s

/-- The DECAF overvoltage latch: the crowbar ends on every phase whose rail has no latched crowbar of its own. -/
def decafLatchClear (s : State) (pairs : List (Nat × Nat)) : State :=
  if !decafOvClears s pairs then clearRefused s 0 0x16
  else
    crowbarOff (lower s Reg.PROT_THERM_LATCH F.PROT_THERM_LATCH_DECAF_OV) 8

/-- A thermal-trip latch. THERMTRIP_OUT_N rises when no such latch is left. -/
def thermLatchClear (s : State) (bit : Nat) : State :=
  if !tripClears s then clearRefused s 0 (0x10 + bit)
  else
    let s := lower (pmRefresh s) Reg.PROT_THERM_LATCH ⟨bit, 1⟩
    if (rd s Reg.PROT_THERM_LATCH).toNat % 64 = 0 then lower s Reg.PROT_STATUS F.PROT_STATUS_TRIP_OUT else s

/-- A clearing write of PROT_CH_LATCH (`therm` false) or PROT_THERM_LATCH, bit by bit from bit 0. -/
def protClear (s : State) (x : WrExt) (therm : Bool) (v : Nat) : State :=
  if therm then
    let s := match x.tripIn with
      | some up => { s with top := { s.top with tripInLow := !up } }
      | none => s
    forEach (maskBits 7 (v &&& (rd s Reg.PROT_THERM_LATCH).toNat)) s (fun s b =>
      if b = 6 then decafLatchClear s x.pairs else thermLatchClear s b)
  else forEach (maskBits 24 (v &&& (rd s Reg.PROT_CH_LATCH).toNat)) s (fun s b => chLatchClear s x.pairs (b / 8) (b % 8))

/-! ## Writes by access type -/

/-- The interrupt source to which an event register belongs (Table 16.10). -/
def intSource (off : Nat) : Option Nat :=
  if off = Reg.TOP_CFG_EVENT ∨ off = Reg.TOP_PLANE_VIOL then some 0
  else if off = Reg.CLK_FAULT then some 1
  else if off = Reg.TB_EVENT then some 2
  else if off = Reg.PROT_EVENT ∨ off = Reg.PROT_CH_LATCH ∨ off = Reg.PROT_THERM_LATCH then some 3
  else if off = Reg.LAD_EVENT then some 4
  else if (inFam (Reg.CH_EVENT 0) 0x1000 8 off).isSome then some 5
  else if off = Reg.FAB_EVENT then some 6
  else if (inFam (Reg.PB_DIE_EVENT 0) 0x40 4 off).isSome then some 7
  else if (inFam (Reg.CAP_CONT 0) 4 3 off).isSome then some 8
  else if off = Reg.FQ_EVENT then some 9
  else if off = Reg.BAL_EVENT then some 10
  else if (inFam (Reg.TVL_EVENT 0) 0x100 10 off).isSome ∨ off = Reg.TVL_GEVENT then some 11
  else if off = Reg.DOM_EVENT then some 12
  else if off = Reg.EST_EVENT then some 13
  else if off = Reg.FWC_EVENT ∨ off = Reg.FWC_LD_EVENT then some 14
  else if off = Reg.REC_EVENT then some 15
  else if off = Reg.NVS_EVENT then some 16
  else if off = Reg.SEC_EVENT then some 17
  else if off = Reg.SBM_EVENT then some 18
  else if off = Reg.HIR_EVENT then some 19
  else none

/-- R791: a write cleared a bit of source k, and the source is still pending. -/
def intAgain (s : State) (k : Nat) : State :=
  let r := rd s (Reg.INT_ROUTE k)
  if bitOf (intPending s) k && fldOf r F.INT_ROUTE_HOST_EN == 1 then signal s 0 (fldOf r F.INT_ROUTE_VEC) else s

/-- The register that holds the bits of a W1C register: CH_EVENT_n has one set of bits for each rail (ch. 6). -/
def w1cHome (s : State) (off : Nat) : Nat :=
  match inFam (Reg.CH_EVENT 0) 0x1000 8 off with
  | some c => if railOf s c < 8 then Reg.CH_EVENT (railOf s c) else off
  | none => off

/-- A W1C register: a 1 clears its bit. -/
def w1cWrite (x : WrExt) (s0 : State) (off0 v : Nat) : State :=
  let off := w1cHome s0 off0
  let shown := (liveNat s0 0 off).getD (rd s0 off).toNat
  let s := if off = Reg.PROT_CH_LATCH then protClear s0 x false v
    else if off = Reg.PROT_THERM_LATCH then protClear s0 x true v
    else wrN (pmRefresh s0) off ((rd s0 off).toNat - ((rd s0 off).toNat &&& v))
  let left := (liveNat s 0 off).getD (rd s off).toNat
  match intSource off with
  | some k => if shown - (shown &&& left) ≠ 0 then intAgain s k else s
  | none => s

/-- A HOLD register: its staged copy (R45); the new word carries no error of the old one. The board cap that the host asks for is remembered
(R877). -/
def holdWrite (s : State) (who : Initiator) (off v : Nat) : State :=
  let s := wrN { s with integ := { s.integ with stagedUe := s.integ.stagedUe.filter (fun o => o != off) } } off v
  match who with
  | .host _ => if off = Reg.CAP_BOARD then setHir s (fun h => { h with hostCap := v }) else s
  | _ => s

/-- R22, R922, R928: TOP_LOCK and TOP_ASSET_k. -/
def lockWrite (s : State) (who : Initiator) (off v : Nat) : State :=
  if flag s Reg.TOP_LOCK F.TOP_LOCK_ASSET then record s .mgmt 0x03 0x02 (classKey who) 0 v off else wrN s off v

/-- R761: a register whose fields have ranges. -/
def rangedWrite (s : State) (who : Initiator) (off v : Nat) (ok : Bool) : State :=
  if ok then wrN s off v else record s .mgmt 0x03 0x02 (classKey who) 0 v off

/-- R26: a low part waits for its high part; a high part applies the whole value. -/
def wideWrite (s : State) (who : Initiator) (off v : Nat) (lo : Bool) : State :=
  if lo then setClass s who (fun x => { x with pendLow := tabSet none x.pendLow off (some (BitVec.ofNat 32 v)) })
  else
    let l := ((tabGet none (classOf s who).pendLow (off - 4)).getD (readWord s who (off - 4))).toNat
    let s := setClass s who (fun x => { x with pendLow := tabSet none x.pendLow (off - 4) none })
    if off = Reg.REC_TAIL_HI then recTail s (l + v * 2 ^ 32)
    else if off = Reg.REC_SPILL_BASE_HI then { s with recd := { s.recd with spillBase := l + v * 2 ^ 32 } }
    else wrN (wrN s (off - 4) l) off v

/-- A RW register. -/
def rwWrite (s : State) (who : Initiator) (off v : Nat) : State :=
  if wideWritable off then wideWrite s who off v true
  else if 4 ≤ off ∧ wideWritable (off - 4) then wideWrite s who off v false
  else match inFam (Reg.HIR_RING_CFG 0) 0x20 64 off with
    | some r => ringCfgWrite s r v
    | none =>
      if (inFam (Reg.FWC_WDOG 0) 0x20 8 off).isSome then rangedWrite s who off v (v % 2 ^ 16 != 0 && v / 2 ^ 16 != 0)
      else if off = Reg.FWC_LIVE_CFG then rangedWrite s who off v (v % 2 ^ 8 != 0 && v / 2 ^ 8 != 0)
      else wrN s off v

/-- R916, R917: TOP_ACTIVE_SEL of the writer's class. -/
def activeSel (s : State) (who : Initiator) (v : Nat) : State :=
  let o := v &&& 0x3FFFFC
  setClass s who (fun x => { x with activeSel := o, notHold := !isHold o })

/-- R98: a word of the local section of the pending bank, unless the bank is sealed. Reserved bits stay 0 (Table 1.9). -/
def localWrite (s : State) (w v : Nat) : State :=
  let m := match w % 4 with
    | 0 => 0xFFFFFFFF
    | 1 => 0x307FF
    | 2 => 0xFF
    | _ => 0
  if btSealed (pendBt s) then s else setPendBt s (setBw (pendBt s) w (v &&& m))

/-! ## Commands behind WO registers -/

/-- R46–R56, R96: a word of TOP_COMMIT_CTL. -/
def commitCtl (x : WrExt) (s : State) (v : Nat) : State :=
  if bitOf v 0 && bitOf v 2 then s
  else if bitOf v 0 then commitRequest (stagedErrors s x.ce x.ue) (bitOf v 1)
  else if bitOf v 2 then cancelMask s (expandMask (framesOf s) (rd64 s Reg.TOP_COMMIT_MASK_LO))
  else s

/-- R163, R168, R170: a word of TOP_START. -/
def startCtl (s : State) (v : Nat) : State :=
  if bitOf v 0 && bitOf v 1 then s else if bitOf v 0 then startGo s false else if bitOf v 1 then startStop s else s

/-- R214, R237, R245: a word of SEC_IMG_CTL. -/
def imageCtl (s : State) (who : Initiator) (v : Nat) : State :=
  if bitOf v 0 && bitOf v 1 then s else if bitOf v 0 then imageGo s who none else if bitOf v 1 then imageAbort s else s

/-- R732, R750: a word of FWC_LD_CTL. -/
def fwLdCtl (s : State) (v : Nat) : State :=
  if bitOf v 0 && bitOf v 1 then s
  else if bitOf v 0 then fwGo s (bitOf v 2) (v / 256 % 256)
  else if bitOf v 1 then fwAbort s
  else s

/-- R739, R740: a core's watchdog period restarts. -/
def kick (s : State) (n : Nat) : State :=
  if coreRuns s n then setCore s n (fun c => { c with wdFrom := now s, wdLen := fld s (Reg.FWC_WDOG n) F.FWC_WDOG_WD_T * 10000 }) else s

/-- R739, R743: a word of FWC_SELF_n. -/
def selfCtl (s : State) (n v : Nat) : State :=
  let s := if bitOf v 1 then setReady s n (bitOf v 0) else s
  let s := if v / 256 % 256 = 0xA5 then kick s n else s
  if bitOf v 2 && coreRuns s n then restartAsked s n .self else s

/-- R737: a LOADED core is released. -/
def coreRel (s : State) (n : Nat) : State := if (coreOf s n).state = .loaded then coreRelease s n false else s

/-- R743: a core in RUN, READY or QUIESCE is restarted by the owner. -/
def coreRst (s : State) (n : Nat) : State :=
  if (coreOf s n).state = .run ∨ (coreOf s n).state = .ready ∨ (coreOf s n).state = .quiesce then restartAsked s n .host else s

/-- R737, R743: a word of FWC_CORE_CTL_n. -/
def coreCtl (s : State) (n v : Nat) : State :=
  if v / 256 % 256 ≠ 0x5A ∨ (bitOf v 0 && bitOf v 1) then s
  else if bitOf v 0 then coreRel s n
  else if bitOf v 1 then coreRst s n
  else s

/-- R98, R652, R661: a word of DOM_BT_SEAL. -/
def sealCtl (s : State) (v : Nat) : State :=
  let s := if bitOf v 0 then localSealed s else s
  let s := if bitOf v 1 then allocGo s else s
  if bitOf v 2 then groupGo s else s

/-- Registers of the WO type that stand at one offset. -/
def woOne (x : WrExt) (s : State) (who : Initiator) (off v : Nat) : Option State :=
  let w := BitVec.ofNat 32 v
  if off = Reg.TOP_COMMIT_CTL then some (commitCtl x s v)
  else if off = Reg.TOP_RST_CTL then some (resetRequest s (who == .smbus) (v % 8) (v / 256 % 256))
  else if off = Reg.TOP_START then some (startCtl s v)
  else if off = Reg.CLK_FW_RETURN then some (if bitOf v 0 then clkFwReturn s x.clkOk else s)
  else if off = Reg.NVS_CMD then some (nvCmdWrite s v)
  else if off = Reg.SEC_IMG_CTL then some (imageCtl s who v)
  else if off = Reg.SEC_FUSE_CTL then some (fuseCtl s v)
  else if off = Reg.SEC_DBG_CTL then some (dbgCtl s v x.got)
  else if off = Reg.PB_MIN_ARM then some (pbMinArm s w)
  else if off = Reg.FQ_GRANT then some (fqGrant s w)
  else if off = Reg.FQ_SCHED_HB then some (fqSchedHb s)
  else if off = Reg.DOM_BT_SEAL then some (sealCtl s v)
  else if off = Reg.FWC_LD_CTL then some (fwLdCtl s v)
  else if off = Reg.REC_CMD then some (if bitOf v 0 then dueMark s 5 else s)
  else none

/-- A word of a put set: staged, and put by GO (R832, R833). -/
def putWrite (s : State) (who : Initiator) (m place off v : Nat) : State :=
  if place = 0x18 then (if bitOf v 0 then recPut s who m else s)
  else { s with recd := { s.recd with puts := tabSet 0 s.recd.puts off (BitVec.ofNat 32 v) } }

/-- A register of the WO type. -/
def woWrite (x : WrExt) (s : State) (who : Initiator) (off v : Nat) : State :=
  match woOne x s who off v with
  | some s => s
  | none =>
    match selfCore off, putSet off with
    | some n, _ => selfCtl s n v
    | _, some m => putWrite s who m.1 m.2 off v
    | none, none =>
      match inFam (Reg.FWC_CORE_CTL 0) 0x20 8 off, inFam (Reg.CAP_SNAP_CTL 0) 0x200 4 off with
      | some n, _ => coreCtl s n v
      | _, some k => snapWrite s k (BitVec.ofNat 32 v)
      | none, none =>
        match inFam (Reg.HIR_DB_SQ 0) 0x10 64 off, inFam (Reg.HIR_DB_CQ 0) 0x10 64 off with
        | some r, _ => sqDoorbell s r v
        | _, some r => cqDoorbell s r v
        | none, none => s

/-- An admitted write. A virtual function's Window 0 holds doorbells (R768). -/
def applyWrite (x : WrExt) (s : State) (who : Initiator) (off val : Nat) : State :=
  match who with
  | .host ⟨_ + 1, _⟩ => if off % 16 = 0 then sqDoorbell s (off / 16) val else cqDoorbell s (off / 16) val
  | _ =>
    if off = Reg.TOP_ACTIVE_SEL then activeSel s who val
    else if off = Reg.REC_WIN_SEL then setClass s who (fun c => { c with winSel := val % 8 })
    else match regFind off with
      | none => s
      | some r =>
        let v := val &&& r.mask
        match r.access with
        | .rw => rwWrite s who off v
        | .hold => holdWrite s who off v
        | .w1c => w1cWrite x s off v
        | .rwl => lockWrite s who off v
        | .wo => woWrite x s who off v
        | .rc => s
        | .ro => (match localWord s off with
          | some w => if planeTag s who = 1 then localWrite s w val else s
          | none => s)

/-- A 32-bit write by an initiator. -/
def regWrite (s : State) (who : Initiator) (off val : Nat) (x : WrExt := {}) : State :=
  gated s who off val (fun s => applyWrite x s who off val)

/-! ## Register accesses -/

/-- R20–R23, R73: a register write. Two bits of the offset are not carried. -/
def execRegisterWrite (who : Initiator) (word : BitVec 20) (val : Word) (s : State) : Result :=
  .next (regWrite s who (4 * word.toNat) val.toNat)

/-- R24: a host access that is narrower than 32 bits or not aligned. -/
def execHostUnalignedAccess (fn : Fin 64) (_off : BitVec 22) (write : Bool) (s : State) : Result :=
  .next (if !reachable s (.host fn) then { s with resp := .none }
    else if hostStuck s (.host fn) then hostTimeout s write
    else { s with top := { s.top with aerUncorr := s.top.aerUncorr + 1 }, resp := .unsupported })

/-- R25: a read of the low register of a wide value (any register reads alike). -/
def execWideLowRead (who : Initiator) (word : BitVec 20) (s : State) : Result := .next (readReg s who (4 * word.toNat))

/-- R26: a write of the high register of a wide value. -/
def execWideHighWrite (who : Initiator) (word : BitVec 20) (val : Word) (s : State) : Result :=
  .next (regWrite s who (4 * word.toNat) val.toNat)

/-- R74: a read of a register with RC fields. -/
def execRcRead (who : Initiator) (word : BitVec 20) (s : State) : Result := .next (readReg s who (4 * word.toNat))

/-- R916, R917, R962: the writer's own TOP_ACTIVE_SEL. -/
def execActiveSelWrite (who : Initiator) (val : Word) (s : State) : Result :=
  .next (gated s who Reg.TOP_ACTIVE_SEL val.toNat (fun s => activeSel s who val.toNat))

/-- R22, R922, R923, R928: TOP_LOCK. -/
def execAssetLock (who : Initiator) (asset : Bool) (s : State) : Result :=
  .next (gated s who Reg.TOP_LOCK (b2n asset) (fun s => lockWrite s who Reg.TOP_LOCK (b2n asset)))

/-! ## Commits, clocks, resets, starts -/

/-- R45–R54, R86, R914, R915: TOP_COMMIT_CTL with GO. `ce` words of the snapshot were corrected, the words at the offsets `ue` show
double-bit errors (R809). -/
def execCommitRequest (who : Initiator) (tick : Bool) (ce : Nat) (ue : List (BitVec 22)) (s : State) : Result :=
  .next (gated s who Reg.TOP_COMMIT_CTL (1 + 2 * b2n tick) (fun s => commitRequest (stagedErrors s ce (ue.map (fun o => o.toNat))) tick))

/-- R55, R56: TOP_COMMIT_CTL with CANCEL. -/
def execCommitCancel (who : Initiator) (s : State) : Result :=
  .next (gated s who Reg.TOP_COMMIT_CTL 4 (fun s => cancelMask s (expandMask (framesOf s) (rd64 s Reg.TOP_COMMIT_MASK_LO))))

/-- R62, R98: DOM_BT_SEAL bit 0. -/
def execLocalSealed (who : Initiator) (s : State) : Result := .next (gated s who Reg.DOM_BT_SEAL 1 localSealed)

/-- R136: CLK_FW_RETURN.GO; `ok` says that the clock it returns to may be used. -/
def execClkFwReturn (who : Initiator) (ok : Bool) (s : State) : Result := .next (gated s who Reg.CLK_FW_RETURN 1 (fun s => clkFwReturn s (some ok)))

/-- A write of TOP_RST_CTL. -/
def rstRow (s : State) (who : Initiator) (level : Nat) (key : Byte) : State :=
  gated s who Reg.TOP_RST_CTL (level + 256 * key.toNat) (fun s => resetRequest s (who == .smbus) level key.toNat)

/-- R155–R158, R177: LEVEL 1. -/
def execDeviceReset (who : Initiator) (key : Byte) (s : State) : Result := .next (rstRow s who 1 key)
/-- R155–R158, R177, R178: LEVEL 2. -/
def execWarmReset (who : Initiator) (key : Byte) (s : State) : Result := .next (rstRow s who 2 key)
/-- R159: LEVEL 3. -/
def execControlPlaneReset (who : Initiator) (key : Byte) (s : State) : Result := .next (rstRow s who 3 key)
/-- R155: LEVEL 4. -/
def execDataPlaneReset (who : Initiator) (key : Byte) (s : State) : Result := .next (rstRow s who 4 key)
/-- R155, R160: LEVEL 5. -/
def execManagementPlaneReset (who : Initiator) (key : Byte) (s : State) : Result := .next (rstRow s who 5 key)

/-- R163–R165: TOP_START with GO. -/
def execStartRequest (who : Initiator) (s : State) : Result := .next (gated s who Reg.TOP_START 1 (fun s => startGo s false))
/-- R168: TOP_START with STOP. -/
def execStopRequest (who : Initiator) (s : State) : Result := .next (gated s who Reg.TOP_START 2 startStop)

/-- R214: SEC_IMG_CTL with GO; `full` is the kind of an image in host memory. -/
def execImageLoadGo (who : Initiator) (full : Bool) (s : State) : Result :=
  .next (gated s who Reg.SEC_IMG_CTL 1 (fun s => imageGo s who (some full)))
/-- R237: SEC_IMG_CTL with ABORT. -/
def execImageLoadAbort (who : Initiator) (s : State) : Result := .next (gated s who Reg.SEC_IMG_CTL 2 imageAbort)

/-! ## Blocks of the control plane -/

/-- R378–R381: a clearing write of PROT_THERM_LATCH (`therm`) or PROT_CH_LATCH. `pairs` are sense readings by channel in 1/16 mV, `tripIn`
says that THERMTRIP_IN_N is high. -/
def execProtLatchClear (who : Initiator) (therm : Bool) (val : Word) (pairs : List (ChIx × Nat)) (tripIn : Bool) (s : State) : Result :=
  .next (regWrite s who (if therm then Reg.PROT_THERM_LATCH else Reg.PROT_CH_LATCH) val.toNat
    { pairs := pairs.map (fun p => (p.1.val, p.2)), tripIn := some tripIn })

/-- R415, R416: PB_MIN_ARM. -/
def execPbMinArm (who : Initiator) (val : Word) (s : State) : Result := .next (gated s who Reg.PB_MIN_ARM val.toNat (fun s => pbMinArm s val))

/-- R512–R514: CAP_SNAP_CTL_k. -/
def execSnapshot (who : Initiator) (slot : Fin 4) (val : Word) (s : State) : Result :=
  .next (gated s who (Reg.CAP_SNAP_CTL slot.val) val.toNat (fun s => snapWrite s slot.val val))

/-- R532, R562: FQ_GRANT. -/
def execFqGrant (who : Initiator) (val : Word) (s : State) : Result := .next (gated s who Reg.FQ_GRANT val.toNat (fun s => fqGrant s val))

/-- R546, R548: FQ_SCHED_HB. -/
def execFqSchedHb (who : Initiator) (val : Word) (s : State) : Result := .next (gated s who Reg.FQ_SCHED_HB val.toNat fqSchedHb)

/-- R600: a read of TVL_DLQ_W3_q takes the head entry off its dead-letter queue. -/
def execDlqPop (who : Initiator) (q : Fin 8) (s : State) : Result := .next (readReg s who (Reg.TVL_DLQ_W3 q.val))

/-! ## Firmware complex and recorder -/

/-- R731, R732: FWC_LD_CTL with GO. -/
def execFwLoadGo (who : Initiator) (live : Bool) (cores : Byte) (s : State) : Result :=
  .next (gated s who Reg.FWC_LD_CTL (1 + 4 * b2n live + 256 * cores.toNat) (fun s => fwGo s live cores.toNat))

/-- R750, R758: FWC_LD_CTL with ABORT. -/
def execFwLoadAbort (who : Initiator) (s : State) : Result := .next (gated s who Reg.FWC_LD_CTL 2 fwAbort)

/-- R737: FWC_CORE_CTL_n with RELEASE and KEY 0x5A. -/
def execRelease (who : Initiator) (core : CoreIx) (s : State) : Result :=
  .next (gated s who (Reg.FWC_CORE_CTL core.val) 0x5A01 (fun s => coreRel s core.val))

/-- R743: FWC_CORE_CTL_n with RESTART and KEY 0x5A. -/
def execRestart (who : Initiator) (core : CoreIx) (s : State) : Result :=
  .next (gated s who (Reg.FWC_CORE_CTL core.val) 0x5A02 (fun s => coreRst s core.val))

/-- R761: FWC_WDOG_n, or FWC_LIVE_CFG where no core is named. -/
def execFwcWdogWrite (who : Initiator) (core : Option CoreIx) (val : Word) (s : State) : Result :=
  .next (regWrite s who (match core with | some n => Reg.FWC_WDOG n.val | none => Reg.FWC_LIVE_CFG) val.toNat)

/-- R26, R837: REC_TAIL_LO, then REC_TAIL_HI. -/
def execRecTailWrite (who : Initiator) (val : BitVec 64) (s : State) : Result :=
  .next (regWrite (regWrite s who Reg.REC_TAIL_LO (val.toNat % 2 ^ 32)) who Reg.REC_TAIL_HI (val.toNat / 2 ^ 32))

/-! ## A core's loads and stores (R684–R691, R699, R700, R723, R75) -/

/-- A load of core n misses or hits in its data cache (R694–R696). A non-blocking cache with all 8 miss registers in use stalls the core:
the access is not performed. -/
def loadLines (s : State) (n : Nat) (ls : List Nat) : Option State :=
  let tracked (s : State) (l : Nat) : Bool := (coreOf s n).miss.any (fun m => !m.icache && m.line == l)
  let need := ls.filter (fun l => !cached s n false l && !tracked s l)
  if 8 < ((coreOf s n).miss.filter (fun m => !m.icache)).length + need.length then none
  else some (forEach ls s (fun s l =>
    if cached s n false l then fillLine s n false l
    else
      let s := bump s (Reg.FWC_MISS_CNT n) F.FWC_MISS_CNT_DMISS
      if tracked s l then s else setCore s n (fun c => { c with miss := c.miss ++ [{ icache := false, line := l }] })))

/-- A core's load from memory: its word, or its fault. -/
def memLoad (s : State) (n ix len : Nat) (viaCache : Bool) : State :=
  if !memIn s (coreOf s n).tag ix len then coreFault s n 5
  else
    let w := Resp.word (BitVec.ofNat 32 (leAt (loadBytes s n ix len) 0 len))
    if viaCache then (match loadLines s n (linesOf ix len) with
      | some s => { s with resp := w }
      | none => s)
    else { s with resp := w }

/-- The timer block (Table 14.12): the pairs follow R25 and R26 for the accessing core. -/
def timerRead (s : State) (n off : Nat) : State :=
  let peek (o : Nat) : Word := BitVec.ofNat 32 (match o with
    | 0 => s.fwc.mtime % 2 ^ 32
    | 4 => s.fwc.mtime / 2 ^ 32
    | 8 => tabGet 0 s.fwc.mtimecmp n % 2 ^ 32
    | 12 => tabGet 0 s.fwc.mtimecmp n / 2 ^ 32
    | _ => 0)
  let (v, s) := wideRead s (.core (Fin.ofNat 8 n)) (fun o => peek (o - 0x50001000)) (off == 0 || off == 8) (off == 4 || off == 12) (0x50001000 + off)
  { s with resp := .word v }

def timerWrite (s : State) (n off v : Nat) : State :=
  let who := Initiator.core (Fin.ofNat 8 n)
  let lo := 0x50001008
  if off = 8 then setClass s who (fun x => { x with pendLow := tabSet none x.pendLow lo (some (BitVec.ofNat 32 v)) })
  else if off = 12 then
    let l := ((tabGet none (classOf s who).pendLow lo).elim (tabGet 0 s.fwc.mtimecmp n % 2 ^ 32) (fun w => w.toNat))
    let s := setClass s who (fun x => { x with pendLow := tabSet none x.pendLow lo none })
    { s with fwc := { s.fwc with mtimecmp := tabSet 0 s.fwc.mtimecmp n (l + v * 2 ^ 32) } }
  else s

/-- A core's access is performed where the core runs, no miss stalls it, and PMP and the address map allow it. `mis` and `acc` are the
causes of a misaligned exception and of an access fault. -/
def coreAccess (s : State) (n a len : Nat) (user pmp : Bool) (mis acc : Nat) (f : State → Target → State) : State :=
  if !coreRuns s n ∨ coreStalled s n then s
  else
    let s := setCore { s with resp := .none } n (fun c => { c with user := user })
    match targetOf a len with
    | .none => coreFault s n acc
    | .tcm off => if user || !pmp then coreFault s n acc else f s (.tcm off)
    | .mem ix c => if !pmp then coreFault s n acc else f s (.mem ix c)
    | t => if a % len ≠ 0 then coreFault s n mis else if !pmp ∨ len ≠ 4 then coreFault s n acc else f (drainAll s n) t

/-- A load of 2ⁿ bytes by a core: the answer is its word or its fault. -/
def coreLoad (s : State) (core : CoreIx) (user pmp : Bool) (addr : Word) (size : Fin 3) : State :=
  let n := core.val
  let len := 2 ^ size.val
  coreAccess s n addr.toNat len user pmp 4 5 (fun s t =>
    match t with
    | .tcm off => { s with resp := .word (BitVec.ofNat 32 (leAt ((List.range len).map (fun i => tabGet 0 (coreOf s n).tcm (off + i))) 0 len)) }
    | .mem ix c => memLoad s n ix len c
    | .reg off => readReg s (.core core) off
    | .mbx off => mbxRead s n off
    | .timer off => timerRead s n off
    | .none => s)

/-- R684, R691, R699, R700, R723: a load of 2ⁿ bytes. -/
def execCoreLoad (core : CoreIx) (user pmp : Bool) (addr : Word) (size : Fin 3) (s : State) : Result :=
  .next (coreLoad s core user pmp addr size)

/-- A store of 2ⁿ bytes by a core. -/
def coreStore (s : State) (core : CoreIx) (user pmp : Bool) (addr : Word) (size : Fin 3) (val : Word) : State :=
  let n := core.val
  let len := 2 ^ size.val
  let b := leBytes len val.toNat
  coreAccess s n addr.toNat len user pmp 6 7 (fun s t =>
    match t with
    | .tcm off => setCore s n (fun c => { c with tcm := (List.range len).foldl (fun t i => tabSet 0 t (off + i) (b.getD i 0)) c.tcm })
    | .mem ix _ => if memIn s (coreOf s n).tag ix len then bufStore s n addr.toNat b else coreViol s n (coreOf s n).tag addr.toNat addr.toNat 7
    | .reg off => regWrite s (.core core) off val.toNat
    | .mbx off => mbxWrite s n off val
    | .timer off => timerWrite s n off val.toNat
    | .none => s)

/-- R684, R691, R693, R699, R700, R723, R84: a store of 2ⁿ bytes. -/
def execCoreStore (core : CoreIx) (user pmp : Bool) (addr : Word) (size : Fin 3) (val : Word) (s : State) : Result :=
  .next (coreStore s core user pmp addr size val)

end Sys2Proof.Machine
end

