-- ==== Sys2Proof/Machine/HirCmds.lean ====
section
/-! DEFINITION. The host command set, which release line 3.x provides (ch. 16, Tables 16.7–16.9; R782–R790). A row of the table names a ring and
a CID: firmware works on that command. A command that waits is begun at its first row and completes at a later one. -/

namespace Sys2Proof.Machine
open Host

/-! ## Firmware as an initiator -/

/-- The core that runs the host command set: READY, of the power-management role or of the pool, with the management tag in its TAGS. -/
def fwNo (s : State) : Option Nat :=
  (List.range 8).find? (fun n => (coreRoleF (framesOf s) n == 1 || coreRoleF (framesOf s) n == 4) && coreEnF (framesOf s) n && bitOf (coreTagsF (framesOf s) n) 2
    && (coreOf s n).state == .ready && coreRuns s n && !coreStalled s n)

/-- Firmware works on host commands now. -/
def fwWorks (s : State) : Bool := fwUp s && (fwNo s).isSome && !wholeReset s

/-- An access of that core with the management tag; the tag it had returns afterwards. -/
def asFw (s : State) (f : Initiator → State → State) : State :=
  match fwNo s with
  | none => s
  | some n =>
    let t := (coreOf s n).tag
    let s := f (.core (Fin.ofNat 8 n)) (setCore s n (fun c => { c with tag := 2 }))
    setCore { s with resp := .none } n (fun c => { c with tag := t })

def fwPut (s : State) (x : WrExt) (off val : Nat) : State := asFw s (fun w s => regWrite s w off val x)

def fwPuts (s : State) (l : List (Nat × Nat)) : State := forEach l s (fun s p => fwPut s {} p.1 p.2)

/-- A register as firmware reads it, with the read's own effects. -/
def fwGet (s : State) (off : Nat) : Nat × State :=
  match fwNo s with
  | none => (0, s)
  | some n =>
    let t := readReg s (.core (Fin.ofNat 8 n)) off
    (match t.resp with
     | .word v => v.toNat
     | _ => 0, { t with resp := .none })

/-- What a register shows. -/
def shown (s : State) (off : Nat) : Nat := (liveNat s 0 off).getD (rd s off).toNat

/-! ## Commands -/

/-- A field of PARAM. -/
def prm (c : HirCmd) (off n : Nat) : Nat := leAt c.param off n

/-- The command of a ring with a CID and an opcode. -/
def hirFind (s : State) (r cid op : Nat) : Option HirCmd := (ringOf s r).cmds.find? (fun c => c.cid == cid && c.opcode == op)

/-- A command has begun and waits. -/
def hirBegin (s : State) (r : Nat) (c : HirCmd) (waits : Nat) : State :=
  let c1 := if c.began then { c with waits := waits } else { c with began := true, waits := waits, order := s.hir.begun }
  let s := setRing s r (fun x => { x with cmds := x.cmds.map (fun k => if k = c then c1 else k) })
  if c.began then s else setHir s (fun h => { h with begun := h.begun + 1 })

/-- R877: firmware commits CAP_BOARD as the lower nonzero value of the board caps that the host and the BMC asked for. -/
def lowerCap (a b : Nat) : Nat := if a = 0 then b else if b = 0 then a else min a b

/-- The commit of a mask: immediate at tick 0, otherwise a tick commit. -/
def fwCommit (s : State) (mask : Nat) (mode : Bool) (tick : Nat) : State :=
  let s := fwPuts s [(Reg.TOP_COMMIT_MASK_LO, mask % 2 ^ 32), (Reg.TOP_COMMIT_MASK_HI, mask / 2 ^ 32)]
  let s := if mode then fwPuts s [(Reg.TOP_COMMIT_TICK_LO, tick % 2 ^ 32), (Reg.TOP_COMMIT_TICK_HI, tick / 2 ^ 32 % 2 ^ 32)] else s
  fwPuts s [(Reg.TOP_COMMIT_CTL, 1 + 2 * b2n mode)]

/-- R877, while OWNER is 1: PENDING of SBM_BMC_CAP is served. -/
def bmcCommit (s : State) : State :=
  if fwWorks s ∧ (rd s Reg.TOP_COMMIT_OWNER).toNat = 1 ∧ flag s Reg.SBM_BMC_CAP F.SBM_BMC_CAP_PENDING then
    let v := lowerCap s.hir.hostCap (fld s Reg.SBM_BMC_CAP F.SBM_BMC_CAP_CAP)
    let s := fwPuts s [(Reg.CAP_BOARD, v)]
    lower (pmRefresh (fwCommit s (2 ^ ((groupAt (framesOf s) Reg.CAP_BOARD).getD 43)) false 0)) Reg.SBM_BMC_CAP F.SBM_BMC_CAP_PENDING
  else s

/-- Firmware takes up the command `op` with a CID on ring r: it may begin (R778), and function 0 owns the ring where the command asks for it
(R783). -/
def fwRun (s : State) (r cid op : Nat) (f0 : Bool) (act : State → HirCmd → State) : State :=
  if !fwWorks s || (ringOf s r).state == .disabled || ringTel s r then s
  else match hirFind s r cid op with
    | none => s
    | some c =>
      if !c.began && !mayBegin s r c then s
      else
        let s := bmcCommit (ownerSync { s with resp := .none })
        if f0 && ringOwner s r != 0 then hirFinish s r c 3 0 [] else act s c

/-- A completion with SUCCESS. -/
def hirOk (s : State) (r : Nat) (c : HirCmd) (result : List Byte) : State := hirFinish s r c 0 0 result

/-- INVALID_FIELD, with the byte offset of the field. -/
def hirField (s : State) (r : Nat) (c : HirCmd) (off : Nat) : State := hirFinish s r c 2 off []

/-- BUFFER. -/
def hirBuf (s : State) (r : Nat) (c : HirCmd) : State := hirFinish s r c 7 0 []

/-- The command's buffer is aligned and long enough. -/
def bufOk (c : HirCmd) (n : Nat) : Bool := c.addr % 64 == 0 && decide (n ≤ c.len)

/-- The bytes of an In buffer. -/
def bufIn (c : HirCmd) : Fetched → Option (List Byte)
  | .error => none
  | .noMaster => none
  | .data b => some ((b ++ List.replicate c.len 0).take c.len)

/-- An Out buffer is written to host memory. -/
def bufOut (s : State) (c : HirCmd) (b : List Byte) : State := setHir s (fun h => { h with hostOut := h.hostOut ++ [(c.addr, b)] })

/-- R810: the Out buffer of a command of ring r, whose source may read with a double-bit error. -/
def dmaOut (s : State) (r : Nat) (c : HirCmd) (out : DmaOut) (b : List Byte) : State :=
  match out with
  | .poisoned a => bufOut (dmaUe s r a.toNat) c b
  | _ => bufOut s c b

/-- A partition that the ring's owner may name (R783, R789). -/
def partMine (s : State) (r p : Nat) : Bool := ringOwner s r == 0 || fld s (Reg.HIR_PART_FUNC p) F.HIR_PART_FUNC_FUNC == ringOwner s r

/-- The status of a commit request, from RESULT. -/
def commitStatus (s : State) : Nat :=
  let r := fld s Reg.TOP_COMMIT_STATUS F.TOP_COMMIT_STATUS_RESULT
  if r = resDone ∨ r = resPending then 0 else 0x200 + r

/-- A command ends with a commit: staged words, then the request. Where OWNER is not 1 firmware leaves the port alone: 0x0207. -/
def fwStage (s : State) (r : Nat) (c : HirCmd) (l : List (Nat × Nat)) (mask : Nat) (mode : Bool) (tick : Nat) (result : State → List Byte) : State :=
  if (rd s Reg.TOP_COMMIT_OWNER).toNat ≠ 1 then hirFinish s r c 0x207 0 (result s)
  else
    let s := fwCommit (fwPuts s l) mask mode tick
    hirFinish s r c (commitStatus s) 0 (result s)

def commitWord (s : State) : List Byte := leBytes 4 (shown s Reg.TOP_COMMIT_STATUS)

/-! ## Identity and state -/

/-- IDENTIFY: its 256 bytes have no layout in the spec. -/
def execIdentify (ring : RingIx) (cid : BitVec 16) (out : DmaOut) (s : State) : Result :=
  let r := ring.val
  .next (fwRun s r cid.toNat 0x01 false (fun s c =>
    if !bufOk c 256 || out == .failed then hirBuf s r c
    else
      let (n, s) := drawNat s (2 ^ 2048)
      hirOk (dmaOut s r c out (leBytes 256 n)) r c (leBytes 1 (ringOwner s r))))

/-- STATUS. -/
def execStatus (ring : RingIx) (cid : BitVec 16) (s : State) : Result :=
  let r := ring.val
  .next (fwRun s r cid.toNat 0x02 false (fun s c =>
    let own := toMask ((List.range 32).filter (fun p => fld s (Reg.HIR_PART_FUNC p) F.HIR_PART_FUNC_FUNC == ringOwner s r))
    hirOk s r c (leBytes 4 (shown s Reg.TOP_STATUS) ++ leBytes 4 (shown s Reg.TOP_SUPPLY) ++ leBytes 4 (shown s Reg.DOM_ROLE) ++ leBytes 4 own)))

/-! ## Loads, cores, start, reset -/

/-- Where the loader has finished the load that the command asked for, the command completes. -/
def imgLoadEnd (s : State) (r : Nat) (c : HirCmd) : State :=
  let x := fld s Reg.SEC_IMG_STATUS F.SEC_IMG_STATUS_RESULT
  if x = 1 then s
  else hirFinish s r c (if x = 2 ∨ x = 3 then 0 else 0x100 + x) 0 (leBytes 4 (shown s Reg.SEC_IMG_STATUS) ++ leBytes 4 (shown s Reg.SEC_IMG_GEN))

/-- IMAGE_LOAD (R213, R214). -/
def execImageLoad (ring : RingIx) (cid : BitVec 16) (s : State) : Result :=
  let r := ring.val
  .next (fwRun s r cid.toNat 0x10 true (fun s c =>
    let src := prm c 0 1
    if c.began then imgLoadEnd s r c
    else if 1 < src then hirField s r c 0
    else if src = 0 ∧ c.addr % 64 ≠ 0 then hirBuf s r c
    else
      let a := if src = 0 then c.addr else prm c 8 4
      let s := fwPuts s [(Reg.SEC_IMG_SRC, src), (Reg.SEC_IMG_ADDR_LO, a % 2 ^ 32), (Reg.SEC_IMG_ADDR_HI, a / 2 ^ 32), (Reg.SEC_IMG_LEN, c.len),
                         (Reg.SEC_IMG_CTL, 1)]
      let c1 : HirCmd := { c with began := true, order := s.hir.begun }
      imgLoadEnd (hirBegin s r c 0) r c1))

def fwLoadEnd (s : State) (r : Nat) (c : HirCmd) : State :=
  let x := fld s Reg.FWC_LD_STATUS F.FWC_LD_STATUS_RESULT
  if x = 1 then s
  else hirFinish s r c (if x = 2 then 0 else 0x500 + x) 0 (leBytes 4 (shown s Reg.FWC_LD_STATUS))

/-- FW_LOAD (R731, R732). -/
def execFwLoad (ring : RingIx) (cid : BitVec 16) (s : State) : Result :=
  let r := ring.val
  .next (fwRun s r cid.toNat 0x11 true (fun s c =>
    let src := prm c 2 1
    if c.began then fwLoadEnd s r c
    else if 1 < prm c 1 1 then hirField s r c 1
    else if 1 < src then hirField s r c 2
    else if src = 0 ∧ c.addr % 64 ≠ 0 then hirBuf s r c
    else
      let a := if src = 0 then c.addr else prm c 8 4
      let s := fwPuts s [(Reg.FWC_LD_SRC, src), (Reg.FWC_LD_ADDR_LO, a % 2 ^ 32), (Reg.FWC_LD_ADDR_HI, a / 2 ^ 32), (Reg.FWC_LD_LEN, c.len),
                         (Reg.FWC_LD_RETAIN, prm c 4 4), (Reg.FWC_LD_CTL, 1 + 4 * prm c 1 1 + 256 * prm c 0 1)]
      let c1 : HirCmd := { c with began := true, order := s.hir.begun }
      fwLoadEnd (hirBegin s r c 0) r c1))

/-- CORE_CTL (R737, R743): the command completes before a core is restarted, since it may be the core that runs it. -/
def execCoreCtl (ring : RingIx) (cid : BitVec 16) (s : State) : Result :=
  let r := ring.val
  .next (fwRun s r cid.toNat 0x12 true (fun s c =>
    let n := prm c 0 1
    let op := prm c 1 1
    if 7 < n then hirField s r c 0
    else if op ≠ 1 ∧ op ≠ 2 then hirField s r c 1
    else
      let st := (coreOf s n).state
      if (op = 1 ∧ st ≠ .loaded) ∨ (op = 2 ∧ st ≠ .run ∧ st ≠ .ready ∧ st ≠ .quiesce) then
        hirFinish s r c 5 0 (leBytes 4 (shown s (Reg.FWC_CORE_STATUS n)))
      else
        let t := fwPuts s [(Reg.FWC_CORE_CTL n, 0x5A00 + op)]
        hirFinish t r c (if op = 2 ∧ s.top.rst.isSome then 5 else 0) 0 (leBytes 4 (shown t (Reg.FWC_CORE_STATUS n)))))

/-- START (R163–R168). -/
def execStart (ring : RingIx) (cid : BitVec 16) (s : State) : Result :=
  let r := ring.val
  let word (s : State) : List Byte := leBytes 4 (shown s Reg.TOP_START_STATUS)
  .next (fwRun s r cid.toNat 0x13 true (fun s c =>
    let op := prm c 0 1
    if op = 1 then
      let s := fwPuts s [(Reg.TOP_START, 1)]
      let x := fld s Reg.TOP_START_STATUS F.TOP_START_STATUS_RESULT
      hirFinish s r c (if x ≤ 2 then 0 else 0x400 + x) 0 (word s)
    else if op = 2 then
      if s.top.state = .ramp ∨ s.top.state = .run then
        let s := fwPuts s [(Reg.TOP_START, 2)]
        hirOk s r c (word s)
      else hirFinish s r c 5 0 (word s)
    else if op = 3 then
      if 1 < prm c 1 1 then hirField s r c 1
      else if 1 < prm c 2 1 then hirField s r c 2
      else
        let s := fwPuts s [(Reg.TOP_START_CFG, prm c 1 1 + 2 * prm c 2 1)]
        hirOk s r c (word s)
    else hirField s r c 0))

/-- RESET (R785): levels 1, 2 and 5 complete, and are posted, before the reset is requested; 3 and 4 complete after it. -/
def execReset (ring : RingIx) (cid : BitVec 16) (s : State) : Result :=
  let r := ring.val
  let word (s : State) : List Byte := leBytes 4 (shown s Reg.TOP_RST_STATUS)
  .next (fwRun s r cid.toNat 0x14 true (fun s c =>
    let l := prm c 0 1
    if l = 0 ∨ 5 < l then hirField s r c 0
    else if l = 1 ∨ l = 2 ∨ l = 5 then
      fwPuts (hirPost (hirOk s r c (word s)) r) [(Reg.TOP_RST_CTL, l + 0x5A00)]
    else
      let s := if c.began then s else fwPuts s [(Reg.TOP_RST_CTL, l + 0x5A00)]
      let x := fld s Reg.TOP_RST_STATUS F.TOP_RST_STATUS_RESULT
      if x = 1 then hirBegin s r c l else hirFinish s r c (if x = 2 then 0 else 0x300 + x) 0 (word s)))

/-! ## Registers -/

/-- The pairs of a COMMIT buffer. -/
def commitPairs (b : List Byte) : List (Nat × Nat) := (List.range (b.length / 8)).map (fun k => (leAt b (8 * k) 4, leAt b (8 * k + 4) 4))

/-- R877: the value that a COMMIT stages for a register. -/
def commitPair (s : State) (p : Nat × Nat) : State :=
  if p.1 = Reg.CAP_BOARD then
    let s := setHir s (fun h => { h with hostCap := p.2 % 2 ^ 16 })
    fwPut s {} p.1 (lowerCap (p.2 % 2 ^ 16) (fld s Reg.SBM_BMC_CAP F.SBM_BMC_CAP_CAP))
  else fwPut s {} p.1 p.2

/-- COMMIT (R784). -/
def execCommit (ring : RingIx) (cid : BitVec 16) (got : Fetched) (s : State) : Result :=
  let r := ring.val
  .next (fwRun s r cid.toNat 0x20 true (fun s c =>
    let mask := prm c 0 8
    let mode := prm c 8 1 == 1
    let tick := prm c 0x10 8
    if c.began then
      if s.top.commits.any (fun k => k.tick == c.waits && k.mask == expandMask (framesOf s) (mask % 2 ^ 46)) then s
      else hirFinish s r c (commitStatus s) 0 (commitWord s)
    else if 2 ^ 46 ≤ mask then hirField s r c 0
    else if 1 < prm c 8 1 then hirField s r c 8
    else if 1 < prm c 9 1 then hirField s r c 9
    else if !bufOk c 0 || 4096 < c.len || c.len % 8 != 0 then hirBuf s r c
    else match bufIn c got with
      | none => hirBuf s r c
      | some b =>
        let ps := commitPairs b
        match ps.findIdx? (fun p => !isHold p.1) with
        | some k => hirField s r c (8 * k)
        | none =>
          if (rd s Reg.TOP_COMMIT_OWNER).toNat ≠ 1 then hirFinish s r c 0x207 0 (commitWord s)
          else
            let s := fwCommit (forEach ps s commitPair) mask mode tick
            if mode ∧ prm c 9 1 = 1 ∧ fld s Reg.TOP_COMMIT_STATUS F.TOP_COMMIT_STATUS_RESULT = resPending then hirBegin s r c tick
            else hirFinish s r c (commitStatus s) 0 (commitWord s)))

/-- REG_READ: the values take the places of the offsets. -/
def execRegRead (ring : RingIx) (cid : BitVec 16) (got : Fetched) (out : DmaOut) (s : State) : Result :=
  let r := ring.val
  .next (fwRun s r cid.toNat 0x21 true (fun s c =>
    let n := prm c 0 2
    if n = 0 ∨ 1024 < n then hirField s r c 0
    else if !bufOk c (4 * n) then hirBuf s r c
    else match bufIn c got with
      | none => hirBuf s r c
      | some b =>
        let offs := (List.range n).map (fun k => leAt b (4 * k) 4)
        match offs.findIdx? (fun o => decide (0x400000 ≤ o) || o % 4 != 0) with
        | some k => hirField s r c (4 * k)
        | none =>
          let (vs, s) := offs.foldl (fun (x : List Byte × State) o => let g := fwGet x.2 o; (x.1 ++ leBytes 4 g.1, g.2)) ([], s)
          if out == .failed then hirBuf s r c else hirOk (dmaOut s r c out vs) r c []))

/-- LATCH_CLEAR (R378): `pairs` and `tripIn` as at PROT_LATCH_CLEAR. -/
def execLatchClear (ring : RingIx) (cid : BitVec 16) (pairs : List (ChIx × Nat)) (tripIn : Bool) (s : State) : Result :=
  let r := ring.val
  let x : WrExt := { pairs := pairs.map (fun p => (p.1.val, p.2)), tripIn := tripIn }
  .next (fwRun s r cid.toNat 0x22 true (fun s c =>
    let s := fwPut (fwPut s x Reg.PROT_CH_LATCH (prm c 0 4)) x Reg.PROT_THERM_LATCH (prm c 4 4)
    hirOk s r c (leBytes 4 (shown s Reg.PROT_CH_LATCH) ++ leBytes 4 (shown s Reg.PROT_THERM_LATCH))))

/-! ## Partitions -/

/-- R790: the commands of a function that wait for a partition complete with ABORTED. -/
def partAbort (s : State) (f p : Nat) : State :=
  forEach ((List.range 64).filter (fun r => ringOwner s r == f && !ringTel s r)) s (fun s r =>
    forEach ((ringOf s r).cmds.filter (fun c => (c.opcode == 0x31 || c.opcode == 0x33) && prm c 0 1 == p)) s (fun s c => hirFinish s r c 8 0 []))

/-- PART_ASSIGN (R789, R790). -/
def execPartAssign (ring : RingIx) (cid : BitVec 16) (s : State) : Result :=
  let r := ring.val
  .next (fwRun s r cid.toNat 0x30 true (fun s c =>
    let f := prm c 4 1
    if 63 < f then hirField s r c 4
    else
      let s := forEach (maskBits 32 (prm c 0 4)) s (fun s p =>
        let old := fld s (Reg.HIR_PART_FUNC p) F.HIR_PART_FUNC_FUNC
        fwPuts (if old = f then s else partAbort s old p) [(Reg.HIR_PART_FUNC p, f)])
      hirOk s r c []))

/-- PART_SET (R783, R789). -/
def execPartSet (ring : RingIx) (cid : BitVec 16) (s : State) : Result :=
  let r := ring.val
  .next (fwRun s r cid.toNat 0x31 false (fun s c =>
    let p := prm c 0 1
    let w := prm c 1 1
    let tick := prm c 8 8
    if 31 < p then hirField s r c 0
    else if !partMine s r p then hirFinish s r c 4 0 []
    else if 3 < w then hirField s r c 1
    else
      let l := (if bitOf w 0 then [(Reg.CAP_REQ p, prm c 2 2)] else []) ++ (if bitOf w 1 then [(Reg.CAP_MAN p, prm c 4 2)] else [])
      fwStage s r c l (2 ^ (8 + p)) (tick != 0) tick commitWord))

/-- PART_ENV (R504). -/
def execPartEnv (ring : RingIx) (cid : BitVec 16) (s : State) : Result :=
  let r := ring.val
  .next (fwRun s r cid.toNat 0x32 true (fun s c =>
    let p := prm c 0 1
    if 31 < p then hirField s r c 0
    else fwStage s r c [(Reg.CAP_ENV p, prm c 2 2 + prm c 4 2 * 2 ^ 16), (Reg.CAP_ENV2 p, prm c 6 1 + prm c 7 1 * 2 ^ 8)] (2 ^ (8 + p)) false 0 commitWord))

/-- The 224 bytes of a snapshot in slot 3. -/
def snapBytes (s : State) : List Byte :=
  leBytes 8 (rd64 s (Reg.CAP_SNAP_TB_LO 3)) ++ leBytes 1 (fld s (Reg.CAP_SNAP_STATUS 3) F.CAP_SNAP_STATUS_PART) ++ List.replicate 7 0
    ++ leBytes 8 (rd64 s (Reg.CAP_SNAP_LOST_THR_LO 3)) ++ leBytes 8 (rd64 s (Reg.CAP_SNAP_LOST_STR_LO 3))
    ++ (List.range 16).flatMap (fun k => leBytes 4 (rd s (Reg.CAP_SNAP_CNT 3 k)).toNat)
    ++ (List.range 16).flatMap (fun k => leBytes 8 (rd64 s (Reg.CAP_SNAP_DUR_LO 3 k)))

/-- PART_SNAPSHOT (R787). -/
def execPartSnapshot (ring : RingIx) (cid : BitVec 16) (out : DmaOut) (s : State) : Result :=
  let r := ring.val
  .next (fwRun s r cid.toNat 0x33 false (fun s c =>
    let p := prm c 0 1
    if 31 < p then hirField s r c 0
    else if !partMine s r p then hirFinish s r c 4 0 []
    else if 1 < prm c 1 1 then hirField s r c 1
    else if !bufOk c 224 || out == .failed then hirBuf s r c
    else
      let s := fwPuts s [(Reg.CAP_SNAP_CTL 3, 1 + 2 * prm c 1 1 + p * 2 ^ 8)]
      if fld s (Reg.CAP_SNAP_STATUS 3) F.CAP_SNAP_STATUS_STATE = 1 then
        hirOk (dmaOut s r c out (snapBytes s)) r c (leBytes 2 (fld s (Reg.CAP_SNAP_STATUS 3) F.CAP_SNAP_STATUS_SEQ))
      else hirField s r c 0))

/-! ## Telemetry, recorder, estimation -/

/-- TELEM_CFG (R779, R783). -/
def execTelemCfg (ring : RingIx) (cid : BitVec 16) (s : State) : Result :=
  let r := ring.val
  .next (fwRun s r cid.toNat 0x40 false (fun s c =>
    let t := prm c 0 1
    if 63 < t then hirField s r c 0
    else if ringOwner s t ≠ ringOwner s r then hirFinish s r c 3 0 []
    else if 3 < prm c 1 1 then hirField s r c 1
    else fwStage s r c [(Reg.HIR_TEL_CFG t, prm c 1 1 + prm c 8 2 * 2 ^ 8), (Reg.HIR_TEL_SEL t, prm c 4 4)] (2 ^ 43) false 0 commitWord))

/-- What REC_READ has gathered: the entries, the next sequence and the number passed over. -/
structure RecGot where
  out : List Entry := []
  next : Nat := 0
  omitted : Nat := 0
  deriving DecidableEq, Repr

/-- An entry that a function may read (R786). -/
def recMine (s : State) (f : Nat) (e : Entry) : Bool :=
  f == 0 || (bitOf e.flags 3 && fld s (Reg.HIR_PART_FUNC (e.unit % 32)) F.HIR_PART_FUNC_FUNC == f)

/-- R786, and the snapshot method of R834: entries that the ring no longer holds are omitted. -/
def recGather (s : State) (f from_ most : Nat) : RecGot :=
  let lo := max from_ (s.recd.head - ringSize)
  let start : RecGot := { next := lo, omitted := min lo s.recd.head - from_ }
  if s.recd.head ≤ from_ then { next := from_ }
  else (List.range (s.recd.head - lo)).foldl (fun (g : RecGot) i =>
    if most ≤ g.out.length then g
    else
      let e := tabGet {} s.recd.ring ((lo + i) % ringSize)
      if recMine s f e then { g with out := g.out ++ [e], next := lo + i + 1 } else { g with next := lo + i + 1, omitted := g.omitted + 1 }) start

/-- REC_READ (R786, R835). -/
def execRecRead (ring : RingIx) (cid : BitVec 16) (out : DmaOut) (s : State) : Result :=
  let r := ring.val
  .next (fwRun s r cid.toNat 0x50 false (fun s c =>
    let most := prm c 8 4
    if !bufOk c (32 * most) || out == .failed then hirBuf s r c
    else
      let g := recGather s (ringOwner s r) (prm c 0 8) most
      hirOk (dmaOut s r c out (g.out.flatMap entryBytes)) r c (leBytes 8 g.next ++ leBytes 4 g.out.length ++ leBytes 4 g.omitted)))

/-- REC_SPILL (R840): firmware reads the RC counts of REC_SPILL_CNT. -/
def execRecSpill (ring : RingIx) (cid : BitVec 16) (s : State) : Result :=
  let r := ring.val
  let report (s : State) (c : HirCmd) : State :=
    let (v, s) := fwGet s Reg.REC_SPILL_CNT
    hirOk s r c (leBytes 8 s.recd.spillNext ++ leBytes 4 (v % 2 ^ 16) ++ leBytes 4 (v / 2 ^ 16))
  .next (fwRun s r cid.toNat 0x51 true (fun s c =>
    let op := prm c 0 1
    let base := prm c 8 8
    let size := prm c 0x10 4
    let ctl := shown s Reg.REC_CTL
    if op = 1 then
      if base % 65536 ≠ 0 then hirField s r c 8
      else if size = 0 ∨ 4194304 < size then hirField s r c 0x10
      else report (fwPuts s [(Reg.REC_SPILL_BASE_LO, base % 2 ^ 32), (Reg.REC_SPILL_BASE_HI, base / 2 ^ 32), (Reg.REC_SPILL_SIZE, size),
                             (Reg.REC_CTL, ctl % 2 + 2)]) c
    else if op = 2 then report (fwPuts s [(Reg.REC_CTL, ctl % 2)]) c
    else if op = 3 then report s c
    else hirField s r c 0))

/-- BASELINE (R467, R473): EST_CMD with a new TAG. -/
def execBaseline (ring : RingIx) (cid : BitVec 16) (s : State) : Result :=
  let r := ring.val
  .next (fwRun s r cid.toNat 0x60 true (fun s c =>
    let op := prm c 0 1
    if op ≠ 1 ∧ op ≠ 2 then hirField s r c 0
    else if 127 < prm c 1 1 then hirField s r c 1
    else if 1 < prm c 2 1 then hirField s r c 2
    else
      let tag := (aF s Reg.EST_CMD F.EST_CMD_TAG + 1) % 16
      let w := prm c 1 1 + prm c 2 1 * 2 ^ 8 + op * 2 ^ 9 + tag * 2 ^ 12 + prm c 3 1 * 2 ^ 16
      fwStage s r c [(Reg.EST_CMD, w)] (2 ^ 43) false 0 (fun s => leBytes 4 (shown s Reg.EST_CAP_STATUS))))

/-! ## Domain and bulk messages -/

/-- R672: the master drops a node, from its reserve too, and broadcasts MEMBER with the first epoch in which the node's entry is 0. -/
def memberDrop (s : State) (node kind : Nat) : State :=
  let e := (now s + domCfg s F.DOM_EPOCH_CFG_ALLOC_AT * 1000) / 1000000 + 1
  let s := setDom s (fun d => { d with mgen := (d.mgen + 1) % 2 ^ 16, members := d.members.filter (fun n => n != node),
                                       miss := tabErase d.miss node, lastAlloc := tabErase d.lastAlloc node })
  postFrame s 0x0116 1 0 (leBytes 2 s.dom.mgen ++ leBytes 2 node ++ leBytes 1 kind ++ leBytes 3 0 ++ leBytes 8 e)

/-- DOM_MEMBER (R672). A member that is not the master has no frame of its own for LEAVE. -/
def execDomMember (ring : RingIx) (cid : BitVec 16) (s : State) : Result :=
  let r := ring.val
  .next (fwRun s r cid.toNat 0x70 true (fun s c =>
    let op := prm c 0 1
    let node := prm c 2 2
    let word (s : State) : List Byte := leBytes 4 (shown s Reg.DOM_MEMBERS)
    if op ≠ 1 ∧ op ≠ 2 then hirField s r c 0
    else if 1023 < node then hirField s r c 2
    else if domRoleNow s = .master then
      let s := memberDrop s node (op + 1)
      hirOk s r c (word s)
    else if op = 1 ∧ node = ownNode s ∧ takesPart s then hirOk s r c (word s)
    else hirFinish s r c 5 0 (word s)))

/-- DOM_BUDGET. -/
def execDomBudget (ring : RingIx) (cid : BitVec 16) (s : State) : Result :=
  let r := ring.val
  .next (fwRun s r cid.toNat 0x71 true (fun s c =>
    let g (off : Nat) : Nat := 2 ^ (groupAt (framesOf s) off).getD 0
    fwStage s r c [(Reg.DOM_BUDGET, prm c 0 4), (Reg.DOM_RAMP, prm c 4 4)] (g Reg.DOM_BUDGET ||| g Reg.DOM_RAMP) false 0 commitWord))

/-- The largest fragment (Table 16.9). -/
abbrev fragMax : Nat := 2032

/-- Frames that firmware may post towards a node without meeting a full transmit queue (R817). -/
def bulkRoom (s : State) (dest : Nat) : Nat :=
  let l := routeF (framesOf s) dest
  if l < 10 then queueDepth - (lclsOf s l 3).out.length else queueDepth

/-- Table 16.9: a fragment; one shorter than 16 bytes is filled with zeros. -/
def fragBody (chan msg off total : Nat) (data : List Byte) : List Byte :=
  leBytes 2 chan ++ leBytes 2 msg ++ leBytes 4 off ++ leBytes 4 total ++ List.replicate 4 0 ++ data ++ List.replicate (16 - data.length) 0

/-- Fragments from an offset onward, as many as there is room for; the offset reached. -/
def bulkPost (s : State) (dest chan msg : Nat) (b : List Byte) (off : Nat) : State × Nat :=
  (List.range (bulkRoom s dest)).foldl (fun (x : State × Nat) _ =>
    if b.length ≤ x.2 then x
    else (postFrame x.1 0x0303 0 dest (fragBody chan msg x.2 b.length ((b.drop x.2).take fragMax)), x.2 + fragMax)) (s, off)

/-- BULK_SEND: firmware posts fragments while the transmit queue has room, and goes on at the command's next row. -/
def execBulkSend (ring : RingIx) (cid : BitVec 16) (got : Fetched) (s : State) : Result :=
  let r := ring.val
  .next (fwRun s r cid.toNat 0x80 true (fun s c =>
    let dest := prm c 0 2
    let chan := prm c 2 2
    if 1023 < dest then hirField s r c 0
    else if !bufOk c 1 || 1048576 < c.len then hirBuf s r c
    else match bufIn c got with
      | none => hirBuf s r c
      | some b =>
        let msg := if c.began then c.waits / 2 ^ 32 else tabGet 0 s.hir.bulkNo chan
        let s := if c.began then s else setHir s (fun h => { h with bulkNo := tabSet 0 h.bulkNo chan ((msg + 1) % 65536) })
        let (s, o) := bulkPost s dest chan msg b (c.waits % 2 ^ 32)
        if b.length ≤ o then hirOk s r c [] else hirBegin s r c (o + msg * 2 ^ 32)))

/-- A message is whole. -/
def bulkWhole (m : BulkMsg) : Bool := (m.parts.map (fun p => p.2.length)).sum == m.total

/-- A whole message goes to a BULK_RECV, which it completes. -/
def bulkGive (s : State) (r : Nat) (c : HirCmd) (m : BulkMsg) (out : DmaOut) : State :=
  if !bufOk c m.total || out == .failed then hirBuf s r c
  else
    let s := setHir s (fun h => { h with bulk := h.bulk.erase m })
    hirOk (dmaOut s r c out (m.parts.flatMap (fun p => p.2))) r c (leBytes 2 m.src ++ [0, 0] ++ leBytes 4 m.total)

/-- BULK_RECV (R788, R794): a whole message of the channel, or the wait for one; ABORTED on a ring in STOPPING. -/
def execBulkRecv (ring : RingIx) (cid : BitVec 16) (out : DmaOut) (s : State) : Result :=
  let r := ring.val
  .next (fwRun s r cid.toNat 0x81 true (fun s c =>
    if (ringOf s r).state = .stopping then hirFinish s r c 8 0 []
    else match s.hir.bulk.find? (fun m => m.channel == prm c 2 2 && bulkWhole m) with
    | some m => bulkGive s r c m out
    | none => if c.began then s else hirBegin s r c (prm c 2 2 + 1)))

/-- The oldest BULK_RECV that waits on a channel. -/
def bulkWaiter (s : State) (chan : Nat) : Option (Nat × HirCmd) :=
  let all : List (Nat × HirCmd) := (List.range 64).flatMap (fun r => ((ringOf s r).cmds.filter (fun c => c.opcode == 0x81 && c.began && c.waits == chan + 1)).map (fun c => (r, c)))
  all.foldl (fun (b : Option (Nat × HirCmd)) x => match b with
    | none => some x
    | some y => if x.2.order < y.2.order then some x else b) none

/-- A fragment joins its message. -/
def bulkJoin (m : BulkMsg) (off : Nat) (data : List Byte) : BulkMsg :=
  { m with parts := tabSet [] m.parts off (data.take (m.total - off)) }

/-- R788: a BULK frame that firmware takes from its delivery queue. `out` is how the message goes to the host, should it be whole. -/
def execBulk (src : Fin 1024) (channel msg : BitVec 16) (off total : Nat) (data : List Byte) (out : DmaOut) (s : State) : Result :=
  .next (if !fwWorks s then s
    else
      let s := takeDelivered s 0x0303
      let same (m : BulkMsg) : Bool := m.src == src.val && m.channel == channel.toNat && m.msg == msg.toNat
      let old : BulkMsg := (s.hir.bulk.find? same).getD
        { src := src.val, channel := channel.toNat, msg := msg.toNat, total := total, parts := [], first := now s }
      if total = 0 ∨ 1048576 < total ∨ total ≠ old.total ∨ total ≤ off then s
      else
        let m := bulkJoin old off data
        let s := setHir s (fun h => { h with bulk := if h.bulk.any same then h.bulk.map (fun k => if same k then m else k) else h.bulk ++ [m] })
        if bulkWhole m then
          match bulkWaiter s channel.toNat with
          | some (r, c) => bulkGive s r c m out
          | none => s
        else s)

/-- R788: 10 ms after its first fragment, a message that is incomplete or that no BULK_RECV has taken is discarded. -/
def execBulkTimeout (src : Fin 1024) (channel msg : BitVec 16) (s : State) : Result :=
  .next (if !fwWorks s then s
    else match s.hir.bulk.find? (fun m => m.src == src.val && m.channel == channel.toNat && m.msg == msg.toNat) with
      | none => s
      | some m =>
        let s := reach s (m.first + 10000000)
        let s := setHir s (fun h => { h with bulk := h.bulk.erase m })
        record (raise s Reg.HIR_EVENT F.HIR_EVENT_BULK_DROP) .mgmt 0x11 0x02 0 0 0 0)

/-- ABORT: a command of the same ring that has not begun, or that waits in BULK_RECV or BULK_SEND, ends with ABORTED. -/
def execAbort (ring : RingIx) (cid : BitVec 16) (s : State) : Result :=
  let r := ring.val
  .next (fwRun s r cid.toNat 0x90 false (fun s c =>
    match (ringOf s r).cmds.find? (fun k => k != c && k.cid == prm c 0 2 && (!k.began || k.opcode == 0x81 || k.opcode == 0x80)) with
    | some k => hirOk (hirFinish s r k 8 0 []) r c [1]
    | none => hirOk s r c [0]))

end Sys2Proof.Machine
end

