-- ==== Sys2Proof/Machine/Sideband.lean ====
section
/-! DEFINITION. Commands of the SMBus target: PMBus, the alert, MCTP control and the SPDM responder (ch. 19, R862–R887, R907–R911). -/

namespace Sys2Proof.Machine
open Host

/-! ## A PMBus transaction (R863, R868, R872, R874, R878) -/

/-- A transaction begins: it is counted, and the conditions that have arisen latch. -/
def pmOpen (s : State) : State := pmRefresh (bump { s with resp := .none } Reg.SBM_CNT F.SBM_CNT_TRANSACTIONS)

/-- Page kinds of Table 19.3. -/
inductive PgKind where
  | any | rail | dev | both
  deriving DecidableEq, Repr

/-- R867: the selected page suits the command. PAGE 0xFF stands for CLEAR_FAULTS only. -/
def pageFits (s : State) : PgKind → Bool
  | .any => true
  | .rail => decide (s.sbm.page < 8)
  | .dev => s.sbm.page == 8
  | .both => decide (s.sbm.page ≤ 8)

/-- The 7-bit target address (R862). -/
def smbAddr (s : State) : Nat := 0x58 + fld s Reg.TOP_STRAP F.TOP_STRAP_SMBA

/-- The PEC of a read: over the address for writing, the command's bytes, the address for reading and the reply (R863). -/
def pecOf (s : State) (cmd b : List Byte) : Byte :=
  BitVec.ofNat 8 (crc8 (leBytes 1 (2 * smbAddr s) ++ cmd ++ leBytes 1 (2 * smbAddr s + 1) ++ b))

/-- A reply to the command bytes `cmd`. -/
def pmReply (s : State) (cmd b : List Byte) : State := { s with resp := .pmb b (pecOf s cmd b) }

def mctpReply (s : State) (b : List Byte) : State := { s with resp := .data b }

/-- R868: 0xFF for each byte read, and the invalid-command bit. -/
def pmBadRead (s : State) (cmd : List Byte) (n : Nat) : State := pmReply (cmlSet s 128) cmd (List.replicate n 0xFF)

/-- A write reaches the command where its PEC admits it (R863). -/
def pmPec (s : State) (pec : Option Bool) (act : State → State) : State :=
  match pec with
  | some true => act s
  | some false => cmlSet s 32
  | none => if pecReq s then s else act s

/-- A transaction of the command bytes `cmd` and `n` reply bytes: what a read answers, and what a write does, on a page of the right kind. -/
def pmBus (s : State) (cmd : List Byte) (k : PgKind) (io : PmIo) (n : Nat) (get : State → List Byte × State) (put : State → List Byte → State) : State :=
  if s.top.porHeld then { s with resp := .none }
  else
    let s := pmOpen s
    match io with
    | .read => if pageFits s k then (let (b, s) := get s; pmReply s cmd b) else pmBadRead s cmd n
    | .write d pec => pmPec s pec (fun s => if pageFits s k then put s d else cmlSet s 128)

/-- R878: the command is read-only. -/
def noPut (s : State) (_ : List Byte) : State := cmlSet s 128

/-- A read-only command of `n` bytes. -/
def pmRo (s : State) (code : Byte) (k : PgKind) (io : PmIo) (n : Nat) (val : State → Nat) : State :=
  pmBus s [code] k io n (fun s => (leBytes n (val s), s)) noPut

/-- A read-only word that may need a free value. -/
def pmRoD (s : State) (code : Byte) (k : PgKind) (io : PmIo) (val : State → Nat × State) : State :=
  pmBus s [code] k io 2 (fun s => let (v, s) := val s; (leBytes 2 v, s)) noPut

/-- A block read of characters. -/
def pmText (s : State) (code : Byte) (io : PmIo) (b : List Byte) : State :=
  pmBus s [code] .any io (b.length + 1) (fun s => (leBytes 1 b.length ++ b, s)) noPut

/-- R874: a write of the tier (1 MFR_RESET and the cap, 2 latches and masks, 3 PAGE) is admitted by WRITE_PROTECT. -/
def wpAdmits (s : State) (tier : Nat) : Bool := decide (wpCode s.sbm.wp < tier)

/-- A write of one byte. -/
def putByte (s : State) (tier : Nat) (d : List Byte) (act : State → Nat → State) : State :=
  match d with
  | [b] => if wpAdmits s tier then act s b.toNat else cmlSet s 64
  | _ => cmlSet s 64

/-! ## PAGE, WRITE_PROTECT, CLEAR_FAULTS, SMBALERT_MASK -/

/-- PAGE (R867). -/
def execPage (io : PmIo) (s : State) : Result :=
  .next (pmBus s [0x00] .any io 1 (fun s => (leBytes 1 s.sbm.page, s)) (fun s d => putByte s 3 d (fun s v =>
    if v ≤ 8 ∨ v = 0xFF then setSbm s (fun x => { x with page := v }) else cmlSet s 64)))

/-- OPERATION. -/
def execOperation (io : PmIo) (s : State) : Result :=
  .next (pmRo s 0x01 .rail io 1 (fun s => if pageRail s s.sbm.page ∧ railState s s.sbm.page = .reg then 0x80 else 0))

/-- R872: the latches of the pages are cleared; a condition that still holds latches again at the next refresh. -/
def clearFaults (s : State) : State :=
  let held (s : State) (t : Tab PageSt) : Tab PageSt := (pagesSel s).foldl (fun (t : Tab PageSt) p => tabSet {} t p (pageCond s p)) t
  let s1 := setSbm s (fun x => { x with input := 0, held := held s x.held, heldInput := inputCond s, heldMs := now s / 1000000 + 1 })
  forEach (pagesSel s) s1 (fun s p => setPage s p (fun _ => {}))

/-- CLEAR_FAULTS, a send byte. -/
def execClearFaults (io : PmIo) (s : State) : Result :=
  .next (pmBus s [0x03] .any io 1 (fun s => ([0xFF], cmlSet s 128)) (fun s d =>
    if d = [] ∧ wpAdmits s 2 then clearFaults s else cmlSet s 64))

/-- WRITE_PROTECT (R874). -/
def execWriteProtect (io : PmIo) (s : State) : Result :=
  .next (pmBus s [0x10] .any io 1 (fun s => (leBytes 1 s.sbm.wp, s)) (fun s d =>
    match d with
    | [b] => if [0x00, 0x20, 0x40, 0x80].contains b.toNat then setSbm s (fun x => { x with wp := b.toNat }) else cmlSet s 64
    | _ => cmlSet s 64))

/-- CAPABILITY. -/
def execCapability (io : PmIo) (s : State) : Result := .next (pmRo s 0x19 .any io 1 (fun _ => 0xD0))

/-- SMBALERT_MASK of a status register of the page, by its code (R873): a block write-read, or a write of the mask byte. -/
def execSmbalertMask (code : Byte) (io : PmIo) (s : State) : Result :=
  let c := code.toNat
  let known := [0x7A, 0x7B, 0x7C, 0x7D, 0x7E, 0x80].contains c
  .next (pmBus s [0x1B, 1, code] .both io 2 (fun s => if known then ([1, BitVec.ofNat 8 (maskOf s s.sbm.page c)], s) else ([0xFF, 0xFF], cmlSet s 64))
    (fun s d => putByte s 2 d (fun s v =>
      if known then alertAgain s (setSbm s (fun x => { x with masks := tabSet 0 x.masks (256 * x.page + c) v })) else cmlSet s 64)))

/-! ## Setpoints and limits (R867, R870) -/

/-- VOUT_MODE: linear, exponent −12. -/
def execVoutMode (io : PmIo) (s : State) : Result := .next (pmRo s 0x20 .rail io 1 (fun _ => 0x14))

/-- VOUT_COMMAND: the active copy of CH_VSET. -/
def execVoutCommand (io : PmIo) (s : State) : Result :=
  .next (pmRo s 0x21 .rail io 2 (fun s => linear16 (vsetQ (aF s (Reg.CH_VSET s.sbm.page) F.CH_VSET_VSET) : Nat) 4000))

/-- VOUT_OV_FAULT_LIMIT: PROT_OV.LIMIT, in 5 mV. -/
def execVoutOvFaultLimit (io : PmIo) (s : State) : Result :=
  .next (pmRo s 0x40 .rail io 2 (fun s => linear16 (aF s (Reg.PROT_OV s.sbm.page) F.PROT_OV_LIMIT : Nat) 200))

/-- IOUT_OC_FAULT_LIMIT: PROT_OL.OL_LIMIT, in 0.5 A; 0 while OL_EN is 0. -/
def execIoutOcFaultLimit (io : PmIo) (s : State) : Result :=
  .next (pmRo s 0x46 .rail io 2 (fun s =>
    if aOn s (Reg.PROT_OL s.sbm.page) F.PROT_OL_OL_EN then linear11 (aF s (Reg.PROT_OL s.sbm.page) F.PROT_OL_OL_LIMIT : Nat) 2 else linear11 0 1))

/-- OT_FAULT_LIMIT: PROT_THERM.CRIT, in 1/16 °C. -/
def execOtFaultLimit (io : PmIo) (s : State) : Result := .next (pmRo s 0x4F .both io 2 (fun s => linear11 (aF s Reg.PROT_THERM F.PROT_THERM_CRIT : Nat) 16))

/-- VIN_OV_WARN: LAD_VIN_HI, in 100 mV. -/
def execVinOvWarn (io : PmIo) (s : State) : Result := .next (pmRo s 0x57 .dev io 2 (fun s => linear11 (aF s Reg.LAD_VIN_HI F.LAD_VIN_HI_HI : Nat) 10))

/-- VIN_UV_WARN: LAD_VIN_CFG.WARN. -/
def execVinUvWarn (io : PmIo) (s : State) : Result := .next (pmRo s 0x58 .dev io 2 (fun s => linear11 (supWarn s .vin : Nat) 1000))

/-- VIN_UV_FAULT_LIMIT: LAD_VIN_CFG.RST. -/
def execVinUvFaultLimit (io : PmIo) (s : State) : Result := .next (pmRo s 0x59 .dev io 2 (fun s => linear11 (supRst s .vin : Nat) 1000))

/-! ## Status (Table 19.4) -/

def execStatusByte (io : PmIo) (s : State) : Result := .next (pmRo s 0x78 .both io 1 (fun s => statusWord s s.sbm.page % 256))
def execStatusWord (io : PmIo) (s : State) : Result := .next (pmRo s 0x79 .both io 2 (fun s => statusWord s s.sbm.page))
def execStatusVout (io : PmIo) (s : State) : Result := .next (pmRo s 0x7A .both io 1 (fun s => (pageNow s s.sbm.page).vout))
def execStatusIout (io : PmIo) (s : State) : Result := .next (pmRo s 0x7B .both io 1 (fun s => (pageNow s s.sbm.page).iout))
def execStatusInput (io : PmIo) (s : State) : Result := .next (pmRo s 0x7C .both io 1 inputNow)
def execStatusTemperature (io : PmIo) (s : State) : Result := .next (pmRo s 0x7D .both io 1 (fun s => (pageNow s s.sbm.page).temp))
def execStatusCml (io : PmIo) (s : State) : Result := .next (pmRo s 0x7E .both io 1 (fun s => (pageNow s s.sbm.page).cml))
def execStatusMfrSpecific (io : PmIo) (s : State) : Result := .next (pmRo s 0x80 .both io 1 (fun s => (pageNow s s.sbm.page).mfr))

/-! ## Readings (R869–R871) -/

def vinMean (s : State) : Int := meanOf s 24 (fld s Reg.LAD_VIN ⟨0, 16⟩ : Nat)

/-- Mean power of a rail, 1/256 mW. -/
def powMean (s : State) (r : Nat) : Int := meanOf s (16 + r) ((sense s r : Nat) * railI s r)

/-- Sum of the rail powers of the device. -/
def poutAll (s : State) : Int := (rails s).foldl (fun a r => a + powMean s r) 0

/-- linear11 of n/d; a free value where d is 0. -/
def linQuot (s : State) (n : Int) (d : Int) : Nat × State :=
  if 0 < d then (linear11 n d.toNat, s) else drawNat s 65536

/-- READ_VIN. -/
def execReadVin (io : PmIo) (s : State) : Result := .next (pmRo s 0x88 .dev io 2 (fun s => linear11 (vinMean s) 1000))

/-- READ_IIN: P_in ÷ VIN. -/
def execReadIin (io : PmIo) (s : State) : Result :=
  .next (pmRoD s 0x89 .dev io (fun s => linQuot s (poutAll s) ((aF s Reg.CAP_IIN F.CAP_IIN_EFF : Nat) * vinMean s)))

/-- READ_PIN: the sum of the rail powers over EFF ÷ 256. -/
def execReadPin (io : PmIo) (s : State) : Result :=
  .next (pmRoD s 0x97 .dev io (fun s => linQuot s (poutAll s) (aF s Reg.CAP_IIN F.CAP_IIN_EFF * 1000 : Nat)))

/-- A reading of the page's rail; 0 for a channel that is not a rail channel in use (R869). -/
def railRead (s : State) (v : Nat) : Nat := if pageRail s s.sbm.page then v else 0

/-- READ_VOUT. -/
def execReadVout (io : PmIo) (s : State) : Result :=
  .next (pmRo s 0x8B .rail io 2 (fun s => let r := s.sbm.page; railRead s (linear16 (meanOf s r (sense s r : Nat)) 16000)))

/-- READ_IOUT. -/
def execReadIout (io : PmIo) (s : State) : Result :=
  .next (pmRo s 0x8C .rail io 2 (fun s => let r := s.sbm.page; railRead s (linear11 (meanOf s (8 + r) (railI s r)) 16)))

/-- READ_POUT. -/
def execReadPout (io : PmIo) (s : State) : Result :=
  .next (pmRo s 0x96 .rail io 2 (fun s => railRead s (linear11 (powMean s s.sbm.page) 256000)))

/-- The highest mean Postbox temperature of some dies; free where there is none. -/
def dieTemps (s : State) (ds : List Nat) : Nat × State :=
  match ds.map (fun d => meanOf s (48 + d) (dieExtreme s d false (siteTemp s d))) with
  | [] => drawNat s 65536
  | t :: l => (linear11 (l.foldl max t) 16, s)

/-- READ_TEMPERATURE_1. -/
def execReadTemperature1 (io : PmIo) (s : State) : Result :=
  .next (pmRoD s 0x8D .both io (fun s =>
    if s.sbm.page = 8 then dieTemps s ((List.range 4).filter (dieHere s))
    else if pageRail s s.sbm.page then dieTemps s (railDies s s.sbm.page)
    else (0, s)))

/-- READ_TEMPERATURE_2. -/
def execReadTemperature2 (io : PmIo) (s : State) : Result :=
  .next (pmRo s 0x8E .rail io 2 (fun s => let r := s.sbm.page; railRead s (linear11 (meanOf s (32 + r) (railTemp s r)) 16)))

/-! ## Identity -/

/-- The characters of a string. -/
def chars (t : String) : List Byte := t.toList.map (fun c => BitVec.ofNat 8 c.toNat)

/-- A hexadecimal digit; the case of A–F is open. -/
def hexDigit (n : Nat) : Byte := BitVec.ofNat 8 (if n < 10 then 0x30 + n else if Config.serialCapitals then 0x41 + n - 10 else 0x61 + n - 10)

/-- The Device Serial Number in 16 digits. -/
def serialText : List Byte := (List.range 16).map (fun i => hexDigit (Config.serial.toNat / 16 ^ (15 - i) % 16))

def execPmbusRevision (io : PmIo) (s : State) : Result := .next (pmRo s 0x98 .any io 1 (fun _ => 0x44))
def execMfrId (io : PmIo) (s : State) : Result := .next (pmText s 0x99 io (chars "PLEHOARD"))
def execMfrModel (io : PmIo) (s : State) : Result := .next (pmText s 0x9A io (chars "BX1200"))
def execMfrRevision (io : PmIo) (s : State) : Result := .next (pmText s 0x9B io (chars "B0"))
def execMfrSerial (io : PmIo) (s : State) : Result := .next (pmText s 0x9E io serialText)

/-! ## The cap, resets and the supplies -/

/-- A linear11 word times 2ᵏ, as an exact quotient: numerator and power of two below it. -/
def linVal (w k : Nat) : Int × Nat :=
  let e : Int := sext 5 (w / 2048) + k
  let y := sext 11 w
  if 0 ≤ e then (y * (2 ^ e.toNat : Nat), 1) else (y, 2 ^ (-e).toNat)

/-- R876: the cap in 1/8 W; a value that SBM_BMC_CAP cannot hold leaves a free one. -/
def bmcCapPut (s : State) (w : Nat) : State :=
  let (n, d) := linVal w 3
  if bmcCapEn s ∧ (n = 0 ∨ ((bmcCapMin s * d : Nat) : Int) ≤ n) then
    let v := (roundQ n d).toNat
    let (v, s) := if v < 65536 then (v, s) else drawNat s 65536
    let s := raise (setF s Reg.SBM_BMC_CAP F.SBM_BMC_CAP_CAP v) Reg.SBM_BMC_CAP F.SBM_BMC_CAP_PENDING
    let s := record (raise s Reg.SBM_EVENT F.SBM_EVENT_BMC_CAP) .mgmt 0x14 0x05 0 0 v 0
    bmcCommit s
  else cmlSet s 64

/-- MFR_BMC_POWER_CAP (R876). -/
def execMfrBmcPowerCap (io : PmIo) (s : State) : Result :=
  .next (pmBus s [0xD0] .dev io 2 (fun s => (leBytes 2 (linear11 (fld s Reg.SBM_BMC_CAP F.SBM_BMC_CAP_CAP : Nat) 8), s)) (fun s d =>
    if d.length = 2 ∧ wpAdmits s 1 then bmcCapPut s (leAt d 0 2) else cmlSet s 64))

/-- R875, R155: a request of a warm (0x01) or device (0x02) reset. -/
def mfrResetPut (s : State) (v : Nat) : State :=
  if resetEn s ∧ (v = 1 ∨ v = 2) then
    let s := resetRequest s true (3 - v) 0x5A
    record (raise s Reg.SBM_EVENT F.SBM_EVENT_BMC_RESET) .mgmt 0x14 0x04 (3 - v) (fld s Reg.TOP_RST_STATUS F.TOP_RST_STATUS_RESULT) (now s) 0
  else cmlSet s 64

/-- MFR_RESET. -/
def execMfrReset (io : PmIo) (s : State) : Result :=
  .next (pmBus s [0xD1] .dev io 1 (fun s => (leBytes 1 (fld s Reg.TOP_RST_STATUS F.TOP_RST_STATUS_RESULT), s)) (fun s d => putByte s 1 d mfrResetPut))

def execMfrDeviceState (io : PmIo) (s : State) : Result := .next (pmRo s 0xD2 .dev io 1 (fun s => devCode s.top.state))
def execMfrReadVaux (io : PmIo) (s : State) : Result :=
  .next (pmRo s 0xD3 .dev io 2 (fun s => linear11 (meanOf s 25 (fld s Reg.LAD_VAUX ⟨0, 16⟩ : Nat)) 1000))
def execMfrReadVhold (io : PmIo) (s : State) : Result :=
  .next (pmRo s 0xD4 .dev io 2 (fun s => linear11 (meanOf s 26 (fld s Reg.LAD_VHOLD ⟨0, 16⟩ : Nat)) 1000))

/-- R868: a command code outside Table 19.3, or on a page of the wrong kind, of which a read clocks `bytes` bytes. -/
def execInvalidPmbusCommand (code bytes : Byte) (io : PmIo) (s : State) : Result :=
  .next (pmBus s [code] .any io bytes.toNat (fun s => (List.replicate bytes.toNat 0xFF, cmlSet s 128)) noPut)

/-! ## The bus itself -/

/-- R862, R873: the Alert Response Address is read; SMB_ALERT_N is released once it has been answered. -/
def execAlertResponse (s : State) : Result :=
  .next (if s.top.porHeld then { s with resp := .none }
    else
      let s := pmOpen s
      if smbAlert s then
          (let s := setSbm s (fun x => { x with acked := true })
           { s with resp := .pmb (leBytes 1 (2 * smbAddr s)) (BitVec.ofNat 8 (crc8 (leBytes 1 0x19 ++ leBytes 1 (2 * smbAddr s)))) })
        else { s with resp := .nack })

/-- R865: SCL has been low for 25 ms. -/
def execSmbusTimeout (s : State) : Result := .next (if s.top.porHeld then s else cmlSet s 2)

/-! ## MCTP (R879–R882, R907) -/

def eidF (pcie : Bool) : Fld := if pcie then F.SBM_EID_PCIE_EID else F.SBM_EID_SMB_EID
def eidOf (s : State) (pcie : Bool) : Nat := fld s Reg.SBM_EID (eidF pcie)

/-- R880: the endpoint takes a message: it is for its EID or, before it has one, a control message for the null EID. -/
def mctpFor (s : State) (pcie control : Bool) (dst : Nat) : Bool :=
  if eidOf s pcie = 0 then control && dst == 0 else dst == eidOf s pcie

/-- R879, R882, R907: a message arrives on a binding. -/
def mctpIn (s : State) (pcie control : Bool) (dst : Nat) (act : State → State) : State :=
  if s.top.porHeld ∨ (pcie ∧ !s.top.pcieUp) then { s with resp := .none }
  else
    let s := if pcie then { s with resp := .none } else pmOpen s
    if sbFlag s (if pcie then 4 else 3) then (if pcie then s else cmlSet s 128)
    else if !flag s Reg.TOP_SUPPLY F.TOP_SUPPLY_SEC_OK ∨ !mctpFor s pcie control dst then s
    else act s

/-- Set Endpoint ID: completion code 0, or 2 (ERROR_INVALID_DATA) for an EID that cannot be assigned. -/
def execSetEndpointId (pcie : Bool) (dst eid : Byte) (s : State) : Result :=
  .next (mctpIn s pcie true dst.toNat (fun s =>
    if eid = 0 ∨ eid = 0xFF then { s with resp := .code 2 }
    else { setF s Reg.SBM_EID (eidF pcie) eid.toNat with resp := .code 0 }))

/-- Get Endpoint ID. -/
def execGetEndpointId (pcie : Bool) (dst : Byte) (s : State) : Result :=
  .next (mctpIn s pcie true dst.toNat (fun s => mctpReply s (leBytes 1 (eidOf s pcie))))

/-- Get Endpoint UUID. -/
def execGetEndpointUuid (pcie : Bool) (dst : Byte) (s : State) : Result :=
  .next (mctpIn s pcie true dst.toNat (fun s => mctpReply s (leBytes 16 Config.uuid.toNat)))

/-- Get MCTP Version Support: MCTP Base 1.3 (Table 0.7), as major and minor version in two nibbles. -/
def execGetMctpVersionSupport (pcie : Bool) (dst : Byte) (s : State) : Result :=
  .next (mctpIn s pcie true dst.toNat (fun s => mctpReply s [0x13]))

/-- R881: Get Message Type Support: 0x00 and 0x05. -/
def execGetMessageTypeSupport (pcie : Bool) (dst : Byte) (s : State) : Result :=
  .next (mctpIn s pcie true dst.toNat (fun s => mctpReply s [0x00, 0x05]))

/-- R880: every other control command: ERROR_UNSUPPORTED_CMD, 5. -/
def execMctpUnsupportedCmd (pcie : Bool) (dst : Byte) (s : State) : Result :=
  .next (mctpIn s pcie true dst.toNat (fun s => { s with resp := .code 5 }))

/-! ## The SPDM responder (R883–R887, R908) -/

/-- R887, Table 19.12: SEC answers Busy. -/
def spdmBusy (s : State) : Bool := s.sbm.spdm.isSome || s.img.phase == .verify || s.fwc.ld.phase == .verify || s.sec.run.isSome

/-- SEC has formed a response; it is sent when the request's handling ends. -/
def spdmTake (s : State) (pcie : Bool) (r : SpdmResp) (signed : Bool) : State :=
  setSbm s (fun x => { x with spdm := some { pcie := pcie, response := r, signed := signed } })

def spdmErr (s : State) (pcie : Bool) (e : SpdmErr) : State := spdmTake s pcie (.error e) false

/-- The connection of a binding reaches a stage. -/
def spdmStage (s : State) (pcie : Bool) (n : Nat) : State := setSbm s (fun x => { x with conn := tabSet 0 x.conn (b2n pcie) n })

/-- A request that needs a stage of the connection. -/
def spdmIn (s : State) (pcie : Bool) (dst need : Nat) (act : State → State) : State :=
  mctpIn s pcie false dst (fun s =>
    if spdmBusy s then { s with resp := .spdm (.error .busy) }
    else if tabGet 0 s.sbm.conn (b2n pcie) < need then spdmErr s pcie .unexpectedRequest
    else act s)

/-- GET_VERSION begins a connection. -/
def execGetVersion (pcie : Bool) (dst : Byte) (s : State) : Result :=
  .next (spdmIn s pcie dst.toNat 0 (fun s => spdmTake (spdmStage s pcie 1) pcie (.version 0x12) false))

/-- GET_CAPABILITIES (R884). -/
def execGetCapabilities (pcie : Bool) (dst : Byte) (s : State) : Result :=
  .next (spdmIn s pcie dst.toNat 1 (fun s => spdmTake (spdmStage s pcie 2) pcie (.capabilities true true true 13) false))

/-- NEGOTIATE_ALGORITHMS: `offers` says that the request offers every algorithm of R884. -/
def execNegotiateAlgorithms (pcie : Bool) (dst : Byte) (offers : Bool) (s : State) : Result :=
  .next (spdmIn s pcie dst.toNat 2 (fun s =>
    if offers then spdmTake (spdmStage s pcie 3) pcie .algorithms false else spdmErr s pcie .refused))

/-- GET_DIGESTS (R885, R908). -/
def execGetDigests (pcie : Bool) (dst : Byte) (s : State) : Result :=
  .next (spdmIn s pcie dst.toNat 3 (fun s =>
    if s.sec.idErr then spdmErr s pcie .unspecified
    else spdmTake s pcie (.digests (leBytes 48 (Config.sha384 Config.certChain).toNat)) false))

/-- GET_CERTIFICATE (R885, R908). -/
def execGetCertificate (pcie : Bool) (dst slot : Byte) (off len : BitVec 16) (s : State) : Result :=
  .next (spdmIn s pcie dst.toNat 3 (fun s =>
    if s.sec.idErr then spdmErr s pcie .unspecified
    else if slot ≠ 0 ∨ Config.certChain.length ≤ off.toNat then spdmErr s pcie .invalidRequest
    else spdmTake s pcie (.certificate ((Config.certChain.drop off.toNat).take len.toNat)) false))

/-- What the fuse summary of block 2 holds (Table 19.6). -/
def fuseList (s : State) : List Nat :=
  [Config.rootHash.toNat, b2n (rootOff s)] ++ (List.range 4).flatMap (fun k => [ownerState (ownerOf s k), (ownerOf s k).hash])
    ++ [thermo s.sec.fuse.imgRb, thermo s.sec.fuse.fwRb, b2n s.sec.fuse.dbgRootOff, b2n s.sec.fuse.dbgOwnerOff]
    ++ (List.range 6).map (boundNow s)

/-- The image digest that a core holds; 48 zero bytes while RESET. -/
def coreDigest (s : State) (n : Nat) : Nat :=
  if (coreOf s n).state = .reset then 0 else ((coreOf s n).img.map (fun i => i.digest)).getD 0

/-- Block 12. -/
def modeBlock (s : State) : Nat :=
  devCode s.top.state + 16 * b2n (s.sec.cores != 0) + 32 * b2n s.sec.ever + 64 * fld s Reg.TOP_SUPPLY F.TOP_SUPPLY_STRAP_ERR
    + 128 * b2n s.sec.wdogEver

/-- A measurement block (Table 19.6). -/
def measBlock (s : State) (i : Nat) : List Byte :=
  if i = 1 then leBytes 48 Config.romDigest.toNat
  else if i = 2 then leBytes 48 (Config.fuseDigest (fuseList s)).toNat
  else if i = 3 then leBytes 48 (if s.img.applied then imgDigest s else 0)
  else if i ≤ 11 then leBytes 48 (coreDigest s (i - 4))
  else if i = 12 then leBytes 4 (modeBlock s)
  else leBytes 4 (rbWord s)

def measAll (s : State) : List (Nat × List Byte) := (List.range 13).map (fun i => (i + 1, measBlock s (i + 1)))

/-- A signature by the device identity key; what it signs is the SPDM standard's, not the spec's. -/
def spdmSign (s : State) : List Byte × State :=
  let (n, s) := drawNat s (2 ^ 384)
  (Config.signP384 (BitVec.ofNat 384 n), s)

/-- CHALLENGE, with or without a measurement summary (R885, R886). -/
def execChallenge (pcie : Bool) (dst slot : Byte) (summary : Bool) (s : State) : Result :=
  .next (spdmIn s pcie dst.toNat 3 (fun s =>
    if slot ≠ 0 then spdmErr s pcie .invalidRequest
    else
      let (g, s) := spdmSign s
      spdmTake s pcie (.challengeAuth (if summary then Config.summaryHash (measAll s) else []) g) true))

/-- GET_MEASUREMENTS of one index, or of all (0xFF), signed where asked for (R886). -/
def execGetMeasurements (pcie : Bool) (dst slot index : Byte) (signed : Bool) (s : State) : Result :=
  let i := index.toNat
  .next (spdmIn s pcie dst.toNat 3 (fun s =>
    if (signed ∧ slot ≠ 0) ∨ ((i = 0 ∨ 13 < i) ∧ i ≠ 0xFF) then spdmErr s pcie .invalidRequest
    else
      let blocks := if i = 0xFF then measAll s else [(i, measBlock s i)]
      if signed then (let (g, s) := spdmSign s; spdmTake s pcie (.measurements blocks g) true)
      else spdmTake s pcie (.measurements blocks []) false))

/-- R883: any other request. -/
def execSpdmUnsupportedRequest (pcie : Bool) (dst : Byte) (s : State) : Result :=
  .next (spdmIn s pcie dst.toNat 0 (fun s => spdmErr s pcie .unsupportedRequest))

/-- R887: SEC finishes the request and its response is sent. -/
def execSpdmResponseDone (s : State) : Result :=
  .next (match s.sbm.spdm with
    | some q => setSbm { s with resp := .spdm q.response } (fun x => { x with spdm := none })
    | none => s)

end Sys2Proof.Machine
end

