-- ==== Sys2Proof/Machine/Jtag.lean ====
section
/-! DEFINITION. Commands of the JTAG port and of the core debug access behind it (ch. 19, R896, R897, R900–R904). -/

namespace Sys2Proof.Machine
open Host

/-- R901: the TAP works whenever VAUX is present. -/
def tapOn (s : State) : Bool := !(s.top.porHeld && s.top.porCause == .vauxRise)

/-- R903: a channel switches, or VIN stands above its warning threshold: the guarded pins stay under device control. -/
def pinsGuarded (s : State) : Bool :=
  (rails s).any (fun r => switching s r) || flag s Reg.TOP_SUPPLY F.TOP_SUPPLY_VIN_ABOVE_WARN

/-- An instruction is selected, and the TAP answers what its data register shifts out. -/
def tapSelect (s : State) (ir : Nat) (pins : PinMode) (out : Resp) : State :=
  if tapOn s then { s with jtag := { s.jtag with ir := ir, pins := pins, guarded := false }, resp := out } else { s with resp := .none }

/-- R903: a boundary instruction meets the guard: JTAG_GUARD and its entry (Table 19.13). -/
def tapGuard (s : State) : State :=
  if tapOn s ∧ s.jtag.pins ≠ .device ∧ !s.jtag.guarded ∧ pinsGuarded s then
    let s := { s with jtag := { s.jtag with guarded := true } }
    if s.top.porHeld then s
    else record (raise s Reg.SEC_EVENT F.SEC_EVENT_JTAG_GUARD) .mgmt 0x14 0x06 s.jtag.ir 0 (now s) 0
  else s

/-- R901: Test-Logic-Reset or TRST_N low selects IDCODE. -/
def execTestLogicReset (s : State) : Result := .next (tapSelect s 0x02 .device .none)

/-- EXTEST drives the covered pins from the boundary register (R902, R903). -/
def execExtest (cells : BitVec 212) (s : State) : Result :=
  let s := if tapOn s then { s with jtag := { s.jtag with cells := cells } } else s
  .next (tapGuard (tapSelect s 0x00 .extest .none))

/-- SAMPLE/PRELOAD captures the pins and loads the boundary register; which cell is which pin, and so what is captured, is open. -/
def execSamplePreload (cells : BitVec 212) (s : State) : Result :=
  let (n, s) := drawNat s (2 ^ 212)
  let s := if tapOn s then { s with jtag := { s.jtag with cells := cells } } else s
  .next (tapSelect s 0x01 .device (.data (leBytes 27 n)))

/-- IDCODE (Table 19.10). -/
def execIdcode (s : State) : Result := .next (tapSelect s 0x02 .device (.word 0x10B12B3B))

/-- HIGHZ floats the covered pins (R903). -/
def execHighz (s : State) : Result := .next (tapGuard (tapSelect s 0x03 .highz .none))

/-- CLAMP holds the covered pins at the boundary register (R903). -/
def execClamp (s : State) : Result := .next (tapGuard (tapSelect s 0x04 .clamp .none))

/-- BYPASS, 0xFF and every code not listed. -/
def execBypass (s : State) : Result := .next (tapSelect s 0xFF .device .none)

/-- SEC executes: it has booted from ROM. -/
def secRuns (s : State) : Bool := s.fwc.secUp && fwOn s && !s.top.porHeld && s.top.state != .off

/-- R897: SEC_UNLOCK submits the token of its 2,560-bit register. -/
def execSecUnlock (token : List Byte) (s : State) : Result :=
  let s := tapSelect s 0x10 .device .none
  .next (if tapOn s ∧ secRuns s then tokenSubmit s ((token ++ List.replicate tokenLen 0).take tokenLen) false else s)

/-- R896: SEC_NONCE generates a nonce and reads it. -/
def execSecNonce (s : State) : Result :=
  if tapOn s ∧ secRuns s then
    let (b, s) := nonceNew s
    .next (tapSelect s 0x12 .device (.data b))
  else
    let (n, s) := drawNat s (2 ^ 256)
    .next (tapSelect s 0x12 .device (.data (leBytes 32 n)))

/-! ## CORE_DBG (R900, R901) -/

/-- Debug access to a core is open. -/
def coreOpen (s : State) (n : Nat) : Bool := bitOf s.sec.cores n

/-- A CORE_DBG scan: the result of the one before it shifts out; the operation acts on an opened core, and its result is 0 for another. -/
def coreDbg (s : State) (core : CoreIx) (act : State → Nat × State) : State :=
  if tapOn s then
    let out := Resp.word (BitVec.ofNat 32 s.jtag.result)
    let (r, s) := if coreOpen s core.val then act s else (0, s)
    tapSelect { s with jtag := { s.jtag with result := r } } 0x11 .device out
  else { s with resp := .none }

/-- An operation whose result the spec does not give. -/
def dbgOpen (s : State) : Nat × State := drawNat s (2 ^ 32)

/-- Halt: the watchdog and the ready timer pause. -/
def dbgHalt (s : State) (n : Nat) : State :=
  if coreRuns s n then coreSeen (setCore s n (fun c => { c with halted := true, haltAt := now s, regs := [] })) n else s

/-- Resume: both timers go on from where they stood. -/
def dbgResume (s : State) (n : Nat) : State :=
  if (coreOf s n).halted then
    coreSeen (setCore s n (fun c => { c with halted := false, regs := [], wdFrom := c.wdFrom + (now s - c.haltAt),
                                             readyFrom := c.readyFrom + (now s - c.haltAt) })) n
  else s

/-- An access through a core, in the plane of its tag; the core's own mode, reservation and halt stay. The data it brought. -/
def dbgAccess (s : State) (n : Nat) (f : State → State) : Nat × State :=
  let c := coreOf s n
  let s := f (setCore { s with resp := .none } n (fun c => { c with halted := false }))
  let r := s.resp
  let s := setCore s n (fun x => { x with halted := c.halted, user := c.user, resv := c.resv })
  match r with
  | .word v => (v.toNat, s)
  | _ => dbgOpen s

/-- R900: an opened core is halted. -/
def execCoreDbgHalt (core : CoreIx) (s : State) : Result := .next (coreDbg s core (fun s => dbgOpen (dbgHalt s core.val)))

/-- R900: an opened core resumes. -/
def execCoreDbgResume (core : CoreIx) (s : State) : Result := .next (coreDbg s core (fun s => dbgOpen (dbgResume s core.val)))

/-- R900: an opened, halted core executes one instruction; `act` is the access it makes, with the verdict of PMP, if it makes one. -/
def execCoreDbgStep (core : CoreIx) (act : StepAct) (pmp : Bool) (s : State) : Result :=
  let n := core.val
  .next (coreDbg s core (fun s =>
    if (coreOf s n).halted then
      let u := (coreOf s n).user
      let s := setCore s n (fun c => { c with halted := false, regs := [] })
      let s := match act with
        | .other => s
        | .load a w => coreLoad s core u pmp a w
        | .store a w v => coreStore s core u pmp a w v
      dbgOpen (setCore s n (fun c => { c with halted := true }))
    else dbgOpen s))

/-- A register of an opened core: what was read or written since it halted, otherwise a free value that then stands. -/
def dbgReadReg (s : State) (n r : Nat) : Nat × State :=
  match tabGet 0 (coreOf s n).regs r with
  | v + 1 => (v, s)
  | 0 =>
    let (v, s) := dbgOpen s
    (v, if (coreOf s n).halted then setCore s n (fun c => { c with regs := tabSet 0 c.regs r (v + 1) }) else s)

/-- A register of an opened core is read. -/
def execCoreDbgReadReg (core : CoreIx) (reg : Word) (s : State) : Result := .next (coreDbg s core (fun s => dbgReadReg s core.val reg.toNat))

/-- A register of an opened core is written. -/
def execCoreDbgWriteReg (core : CoreIx) (reg val : Word) (s : State) : Result :=
  .next (coreDbg s core (fun s =>
    dbgOpen (if (coreOf s core.val).halted then setCore s core.val (fun c => { c with regs := tabSet 0 c.regs reg.toNat (val.toNat + 1) }) else s)))

/-- A word of memory is read through an opened core. -/
def execCoreDbgReadMem (core : CoreIx) (addr : Word) (s : State) : Result :=
  .next (coreDbg s core (fun s => dbgAccess s core.val (fun s => coreLoad s core false true addr 2)))

/-- A word of memory is written through an opened core. -/
def execCoreDbgWriteMem (core : CoreIx) (addr val : Word) (s : State) : Result :=
  .next (coreDbg s core (fun s => dbgAccess s core.val (fun s => coreStore s core false true addr 2 val)))

/-- The status of an opened core: its layout is open. -/
def execCoreDbgStatus (core : CoreIx) (s : State) : Result := .next (coreDbg s core dbgOpen)

end Sys2Proof.Machine
end

