-- ==== Sys2Proof/Machine/Dispatch.lean ====
section
/-! DEFINITION. One arm per command: its meaning. -/

namespace Sys2Proof.Machine

def exec (i : Instr) (s : State) : Host.Outcome State Fault Refusal :=
  match i with
  | .registerWrite who word val => Sys2Proof.Machine.execRegisterWrite who word val s
  | .hostUnalignedAccess fn off write => Sys2Proof.Machine.execHostUnalignedAccess fn off write s
  | .wideLowRead who word => Sys2Proof.Machine.execWideLowRead who word s
  | .wideHighWrite who word val => Sys2Proof.Machine.execWideHighWrite who word val s
  | .rcRead who word => Sys2Proof.Machine.execRcRead who word s
  | .porRelease ovc cpos smba test refclk => Sys2Proof.Machine.execPorRelease ovc cpos smba test refclk s
  | .porstAssert => Sys2Proof.Machine.execPorstAssert s
  | .powerOnSequenceDone secOk idOk => Sys2Proof.Machine.execPowerOnSequenceDone secOk idOk s
  | .runSupplyLoss which => Sys2Proof.Machine.execRunSupplyLoss which s
  | .vauxHoldLoss => Sys2Proof.Machine.execVauxHoldLoss s
  | .decafOvervoltage chan mv => Sys2Proof.Machine.execDecafOvervoltage chan mv s
  | .vinArmed mv => Sys2Proof.Machine.execVinArmed mv s
  | .commitRequest who tick ce ue => Sys2Proof.Machine.execCommitRequest who tick ce ue s
  | .commitCancel who => Sys2Proof.Machine.execCommitCancel who s
  | .tickCommit => Sys2Proof.Machine.execTickCommit s
  | .budgetEpochTick => Sys2Proof.Machine.execBudgetEpochTick s
  | .staleEpochFloors => Sys2Proof.Machine.execStaleEpochFloors s
  | .localSealed who => Sys2Proof.Machine.execLocalSealed who s
  | .recordProduce plane e => Sys2Proof.Machine.execRecordProduce plane e s
  | .arbiterGrant => Sys2Proof.Machine.execArbiterGrant s
  | .lossRecord plane => Sys2Proof.Machine.execLossRecord plane s
  | .activeCopySbe off => Sys2Proof.Machine.execActiveCopySbe off s
  | .activeCopyDbe off => Sys2Proof.Machine.execActiveCopyDbe off s
  | .captureEvent src falling ns inStep => Sys2Proof.Machine.execCaptureEvent src falling ns inStep s
  | .ppsPulse => Sys2Proof.Machine.execPpsPulse s
  | .syncInterval => Sys2Proof.Machine.execSyncInterval s
  | .sync lane xid t1 t2 => Sys2Proof.Machine.execSync lane xid t1 t2 s
  | .syncResp lane xid t4 => Sys2Proof.Machine.execSyncResp lane xid t4 s
  | .syncFin lane xid t4 => Sys2Proof.Machine.execSyncFin lane xid t4 s
  | .holdoverEntry => Sys2Proof.Machine.execHoldoverEntry s
  | .holdoverLimit => Sys2Proof.Machine.execHoldoverLimit s
  | .rateLimit => Sys2Proof.Machine.execRateLimit s
  | .refclkLoss => Sys2Proof.Machine.execRefclkLoss s
  | .pllCtlUnlock => Sys2Proof.Machine.execPllCtlUnlock s
  | .refclkResume => Sys2Proof.Machine.execRefclkResume s
  | .refclkOkRestored => Sys2Proof.Machine.execRefclkOkRestored s
  | .pllCtlRelock => Sys2Proof.Machine.execPllCtlRelock s
  | .xtalFail what => Sys2Proof.Machine.execXtalFail what s
  | .clkFwSourceRestored pll => Sys2Proof.Machine.execClkFwSourceRestored pll s
  | .clkFwReturn who ok => Sys2Proof.Machine.execClkFwReturn who ok s
  | .aonFault khz => Sys2Proof.Machine.execAonFault khz s
  | .pcieRefclkLoss => Sys2Proof.Machine.execPcieRefclkLoss s
  | .deviceReset who key => Sys2Proof.Machine.execDeviceReset who key s
  | .warmReset who key => Sys2Proof.Machine.execWarmReset who key s
  | .controlPlaneReset who key => Sys2Proof.Machine.execControlPlaneReset who key s
  | .dataPlaneReset who key => Sys2Proof.Machine.execDataPlaneReset who key s
  | .managementPlaneReset who key => Sys2Proof.Machine.execManagementPlaneReset who key s
  | .mgmtResetTakeEffect => Sys2Proof.Machine.execMgmtResetTakeEffect s
  | .deviceResetEnd secOk idOk => Sys2Proof.Machine.execDeviceResetEnd secOk idOk s
  | .warmResetEnd => Sys2Proof.Machine.execWarmResetEnd s
  | .dischargeLimitExpiry => Sys2Proof.Machine.execDischargeLimitExpiry s
  | .pciePerst => Sys2Proof.Machine.execPciePerst s
  | .hotReset => Sys2Proof.Machine.execHotReset s
  | .flr fn => Sys2Proof.Machine.execFlr fn s
  | .startRequest who => Sys2Proof.Machine.execStartRequest who s
  | .stopRequest who => Sys2Proof.Machine.execStopRequest who s
  | .startStage => Sys2Proof.Machine.execStartStage s
  | .softStartHoldEnd rail senseMv priOpen altOpen cmpOk => Sys2Proof.Machine.execSoftStartHoldEnd rail senseMv priOpen altOpen cmpOk s
  | .setpointReached rail => Sys2Proof.Machine.execSetpointReached rail s
  | .channelInRegulation rail => Sys2Proof.Machine.execChannelInRegulation rail s
  | .softStartTimeout rail => Sys2Proof.Machine.execSoftStartTimeout rail s
  | .pgExcursion rail => Sys2Proof.Machine.execPgExcursion rail s
  | .dischargeRailDone rail mv => Sys2Proof.Machine.execDischargeRailDone rail mv s
  | .brownoutEntry sup mv => Sys2Proof.Machine.execBrownoutEntry sup mv s
  | .resetThresholdGlitch sup mv => Sys2Proof.Machine.execResetThresholdGlitch sup mv s
  | .brownoutExit vin vaux secOk idOk => Sys2Proof.Machine.execBrownoutExit vin vaux secOk idOk s
  | .heldLoadBegin full => Sys2Proof.Machine.execHeldLoadBegin full s
  | .imageLoadGo who full => Sys2Proof.Machine.execImageLoadGo who full s
  | .imageLoadAbort who => Sys2Proof.Machine.execImageLoadAbort who s
  | .imageFetchDone got => Sys2Proof.Machine.execImageFetchDone got s
  | .imageVerifyDone shadowBad => Sys2Proof.Machine.execImageVerifyDone shadowBad s
  | .partialImageTick => Sys2Proof.Machine.execPartialImageTick s
  | .refillDone => Sys2Proof.Machine.execRefillDone s
  | .scrubSlot activeUpsets shadowUpsets => Sys2Proof.Machine.execScrubSlot activeUpsets shadowUpsets s
  | .frameDigestDbe slot => Sys2Proof.Machine.execFrameDigestDbe slot s
  | .fastSample vals => Sys2Proof.Machine.execFastSample vals s
  | .ms1Sample temps => Sys2Proof.Machine.execMs1Sample temps s
  | .khz10Sample => Sys2Proof.Machine.execKhz10Sample s
  | .fabricParityError tile => Sys2Proof.Machine.execFabricParityError tile s
  | .xslotFallback slot => Sys2Proof.Machine.execXslotFallback slot s
  | .xdevSyncErr => Sys2Proof.Machine.execXdevSyncErr s
  | .xslot lane j v0 v1 => Sys2Proof.Machine.execXslot lane j v0 v1 s
  | .periodStart rail => Sys2Proof.Machine.execPeriodStart rail s
  | .phaseSlotEdge ph => Sys2Proof.Machine.execPhaseSlotEdge ph s
  | .negativeCurrentLimit ph amps => Sys2Proof.Machine.execNegativeCurrentLimit ph amps s
  | .peakLimit ph amps => Sys2Proof.Machine.execPeakLimit ph amps s
  | .phaseShort ph => Sys2Proof.Machine.execPhaseShort ph s
  | .balanceUpdate rail means => Sys2Proof.Machine.execBalanceUpdate rail means s
  | .phaseAdd rail => Sys2Proof.Machine.execPhaseAdd rail s
  | .phaseShed rail => Sys2Proof.Machine.execPhaseShed rail s
  | .senseSwitch chan pri alt => Sys2Proof.Machine.execSenseSwitch chan pri alt s
  | .stageFaultTmon ph mv => Sys2Proof.Machine.execStageFaultTmon ph mv s
  | .stageFaultInput quad hot => Sys2Proof.Machine.execStageFaultInput quad hot s
  | .sfltWindowEnd quad low hot => Sys2Proof.Machine.execSfltWindowEnd quad low hot s
  | .phaseReturn ph => Sys2Proof.Machine.execPhaseReturn ph s
  | .imonRange ph mv => Sys2Proof.Machine.execImonRange ph mv s
  | .dripEntry rail => Sys2Proof.Machine.execDripEntry rail s
  | .dripSleep rail mv => Sys2Proof.Machine.execDripSleep rail mv s
  | .dripWake rail mv => Sys2Proof.Machine.execDripWake rail mv s
  | .dripBurstExit rail => Sys2Proof.Machine.execDripBurstExit rail s
  | .memberLoss rail pos => Sys2Proof.Machine.execMemberLoss rail pos s
  | .dutyWordLoss chan => Sys2Proof.Machine.execDutyWordLoss chan s
  | .fastDuty chan duty n boost regok => Sys2Proof.Machine.execFastDuty chan duty n boost regok s
  | .fastIrep chan pos amps => Sys2Proof.Machine.execFastIrep chan pos amps s
  | .fastSync fs ms => Sys2Proof.Machine.execFastSync fs ms s
  | .boostStartBlock lane rail => Sys2Proof.Machine.execBoostStartBlock lane rail s
  | .boostEndBlock lane rail => Sys2Proof.Machine.execBoostEndBlock lane rail s
  | .overloadCompare rail => Sys2Proof.Machine.execOverloadCompare rail s
  | .overloadShutdown rail => Sys2Proof.Machine.execOverloadShutdown rail s
  | .overvoltageCrowbar chan mv => Sys2Proof.Machine.execOvervoltageCrowbar chan mv s
  | .thermalTrip src t => Sys2Proof.Machine.execThermalTrip src t s
  | .stageOverTemperature ph t => Sys2Proof.Machine.execStageOverTemperature ph t s
  | .supplyWarning sup mv ago => Sys2Proof.Machine.execSupplyWarning sup mv ago s
  | .warningClear sup mv => Sys2Proof.Machine.execWarningClear sup mv s
  | .vinHighAlarm mv => Sys2Proof.Machine.execVinHighAlarm mv s
  | .vinHiClear mv => Sys2Proof.Machine.execVinHiClear mv s
  | .vholdExhausted mv done => Sys2Proof.Machine.execVholdExhausted mv done s
  | .vholdLow mv => Sys2Proof.Machine.execVholdLow mv s
  | .protLatchClear who therm val pairs tripIn => Sys2Proof.Machine.execProtLatchClear who therm val pairs tripIn s
  | .siteCalSweep die site agrees => Sys2Proof.Machine.execSiteCalSweep die site agrees s
  | .siteDroopCrossing die site v => Sys2Proof.Machine.execSiteDroopCrossing die site v s
  | .siteDrpRelease die site v => Sys2Proof.Machine.execSiteDrpRelease die site v s
  | .siteStretchEnd die site => Sys2Proof.Machine.execSiteStretchEnd die site s
  | .siteTrip die site t => Sys2Proof.Machine.execSiteTrip die site t s
  | .droopFlagRise die => Sys2Proof.Machine.execDroopFlagRise die s
  | .boostEnd rail early => Sys2Proof.Machine.execBoostEnd rail early s
  | .boostGapEnd rail => Sys2Proof.Machine.execBoostGapEnd rail s
  | .freezeEnd rail => Sys2Proof.Machine.execFreezeEnd rail s
  | .droopStuck die => Sys2Proof.Machine.execDroopStuck die s
  | .pbMinArm who val => Sys2Proof.Machine.execPbMinArm who val s
  | .postlineTrainingDone die lDown lUp => Sys2Proof.Machine.execPostlineTrainingDone die lDown lUp s
  | .upLaneFailure die lock => Sys2Proof.Machine.execUpLaneFailure die lock s
  | .fallbackRetrain die => Sys2Proof.Machine.execFallbackRetrain die s
  | .tsyncSend => Sys2Proof.Machine.execTsyncSend s
  | .tsync die t => Sys2Proof.Machine.execTsync die t s
  | .downLaneFailure die lane => Sys2Proof.Machine.execDownLaneFailure die lane s
  | .intent die seq queue cls part tag dur => Sys2Proof.Machine.execIntent die seq queue cls part tag dur s
  | .commBegin die seq queue all part lead => Sys2Proof.Machine.execCommBegin die seq queue all part lead s
  | .commEnd die seq queue => Sys2Proof.Machine.execCommEnd die seq queue s
  | .fack die seq part n stamp => Sys2Proof.Machine.execFack die seq part n stamp s
  | .vmin die seq site v stamp => Sys2Proof.Machine.execVmin die seq site v stamp s
  | .cfgAck die seq index addr => Sys2Proof.Machine.execCfgAck die seq index addr s
  | .coreOff die seq site => Sys2Proof.Machine.execCoreOff die seq site s
  | .coreOn die seq site => Sys2Proof.Machine.execCoreOn die seq site s
  | .calOk die seq site => Sys2Proof.Machine.execCalOk die seq site s
  | .calFail die seq site => Sys2Proof.Machine.execCalFail die seq site s
  | .siteFault die seq site => Sys2Proof.Machine.execSiteFault die seq site s
  | .downLoss die => Sys2Proof.Machine.execDownLoss die s
  | .vrep die site v stamp => Sys2Proof.Machine.execVrep die site v stamp s
  | .temp die site t stamp => Sys2Proof.Machine.execTemp die site t stamp s
  | .cpm die site m stamp => Sys2Proof.Machine.execCpm die site m stamp s
  | .stretch die site extra events => Sys2Proof.Machine.execStretch die site extra events s
  | .bale die site e => Sys2Proof.Machine.execBale die site e s
  | .freq die part n => Sys2Proof.Machine.execFreq die part n s
  | .bal die part level => Sys2Proof.Machine.execBal die part level s
  | .cfg die index addr value => Sys2Proof.Machine.execCfg die index addr value s
  | .arm die => Sys2Proof.Machine.execArm die s
  | .disarm die => Sys2Proof.Machine.execDisarm die s
  | .nak die seq => Sys2Proof.Machine.execNak die seq s
  | .fallback die => Sys2Proof.Machine.execFallback die s
  | .resume die => Sys2Proof.Machine.execResume die s
  | .reportInterval die site kind data => Sys2Proof.Machine.execReportInterval die site kind data s
  | .intDataWord die queue typ data => Sys2Proof.Machine.execIntDataWord die queue typ data s
  | .freqResend part => Sys2Proof.Machine.execFreqResend part s
  | .cfgResend die index addr => Sys2Proof.Machine.execCfgResend die index addr s
  | .targetEvaluation => Sys2Proof.Machine.execTargetEvaluation s
  | .freqStepSend part => Sys2Proof.Machine.execFreqStepSend part s
  | .tickFreqSend part => Sys2Proof.Machine.execTickFreqSend part s
  | .powerLoopUpdate => Sys2Proof.Machine.execPowerLoopUpdate s
  | .thermalLoopUpdate => Sys2Proof.Machine.execThermalLoopUpdate s
  | .thermalGuardRelease part => Sys2Proof.Machine.execThermalGuardRelease part s
  | .contention inst => Sys2Proof.Machine.execContention inst s
  | .snapshot who slot val => Sys2Proof.Machine.execSnapshot who slot val s
  | .ditherChip => Sys2Proof.Machine.execDitherChip s
  | .estimatorRefresh => Sys2Proof.Machine.execEstimatorRefresh s
  | .ncrEnter region => Sys2Proof.Machine.execNcrEnter region s
  | .captureTimeout => Sys2Proof.Machine.execCaptureTimeout s
  | .calibrationVisit rail => Sys2Proof.Machine.execCalibrationVisit rail s
  | .calibrationReading rail z flat => Sys2Proof.Machine.execCalibrationReading rail z flat s
  | .heavyGrant => Sys2Proof.Machine.execHeavyGrant s
  | .heavyLaunch queue => Sys2Proof.Machine.execHeavyLaunch queue s
  | .frank die queue value => Sys2Proof.Machine.execFrank die queue value s
  | .fqGrant who val => Sys2Proof.Machine.execFqGrant who val s
  | .fqSchedHb who val => Sys2Proof.Machine.execFqSchedHb who val s
  | .schedTimeout => Sys2Proof.Machine.execSchedTimeout s
  | .fixedRateArm queue => Sys2Proof.Machine.execFixedRateArm queue s
  | .rampUpdate => Sys2Proof.Machine.execRampUpdate s
  | .deadlineExpiry queue => Sys2Proof.Machine.execDeadlineExpiry queue s
  | .frankCeilingEnd part => Sys2Proof.Machine.execFrankCeilingEnd part s
  | .ballastUpdate => Sys2Proof.Machine.execBallastUpdate s
  | .baleGap die site => Sys2Proof.Machine.execBaleGap die site s
  | .laneSignalDetect lane => Sys2Proof.Machine.execLaneSignalDetect lane s
  | .laneEqDone lane => Sys2Proof.Machine.execLaneEqDone lane s
  | .laneLock lane => Sys2Proof.Machine.execLaneLock lane s
  | .laneIdentDone lane role node peerLane cpos_ tag lat => Sys2Proof.Machine.execLaneIdentDone lane role node peerLane cpos_ tag lat s
  | .laneTrainTimeout lane => Sys2Proof.Machine.execLaneTrainTimeout lane s
  | .laneWaitEnd lane => Sys2Proof.Machine.execLaneWaitEnd lane s
  | .laneLockLoss lane clkLost => Sys2Proof.Machine.execLaneLockLoss lane clkLost s
  | .invalidBlock lane crc8 => Sys2Proof.Machine.execInvalidBlock lane crc8 s
  | .credit lane c0 c1 c2 c3 => Sys2Proof.Machine.execCredit lane c0 c1 c2 c3 s
  | .linkAck lane cls lseq => Sys2Proof.Machine.execLinkAck lane cls lseq s
  | .linkNak lane cls lseq => Sys2Proof.Machine.execLinkNak lane cls lseq s
  | .abortBlock lane => Sys2Proof.Machine.execAbortBlock lane s
  | .frameReceive lane lseq crcOk f => Sys2Proof.Machine.execFrameReceive lane lseq crcOk f s
  | .replayTimeout lane cls => Sys2Proof.Machine.execReplayTimeout lane cls s
  | .creditTimeout lane cls => Sys2Proof.Machine.execCreditTimeout lane cls s
  | .laneTransmitSlot lane => Sys2Proof.Machine.execLaneTransmitSlot lane s
  | .hold lane scope node payload ok => Sys2Proof.Machine.execHold lane scope node payload ok s
  | .holdExpiry group => Sys2Proof.Machine.execHoldExpiry group s
  | .gthrot lane scope node payload ok => Sys2Proof.Machine.execGthrot lane scope node payload ok s
  | .trip lane scope node payload ok => Sys2Proof.Machine.execTrip lane scope node payload ok s
  | .droop lane scope node payload ok => Sys2Proof.Machine.execDroop lane scope node payload ok s
  | .droopCellFreezeEnd rail => Sys2Proof.Machine.execDroopCellFreezeEnd rail s
  | .reduce src rid op part contrib elems => Sys2Proof.Machine.execReduce src rid op part contrib elems s
  | .reductionTimeout rid => Sys2Proof.Machine.execReductionTimeout rid s
  | .operand lane lseq f => Sys2Proof.Machine.execOperand lane lseq f s
  | .imageSeg lane lseq f => Sys2Proof.Machine.execImageSeg lane lseq f s
  | .recGather lane lseq f => Sys2Proof.Machine.execRecGather lane lseq f s
  | .bulk src channel msg off total data out => Sys2Proof.Machine.execBulk src channel msg off total data out s
  | .bulkTimeout src channel msg => Sys2Proof.Machine.execBulkTimeout src channel msg s
  | .dlqPop who q => Sys2Proof.Machine.execDlqPop who q s
  | .claimExpiry => Sys2Proof.Machine.execClaimExpiry s
  | .heartbeatInstant => Sys2Proof.Machine.execHeartbeatInstant s
  | .heartbeatMissed => Sys2Proof.Machine.execHeartbeatMissed s
  | .heartbeat lane src epoch standby mgen mem => Sys2Proof.Machine.execHeartbeat lane src epoch standby mgen mem s
  | .demandReductionStart => Sys2Proof.Machine.execDemandReductionStart s
  | .allocationCompute => Sys2Proof.Machine.execAllocationCompute s
  | .allocGo => Sys2Proof.Machine.execAllocGo s
  | .alloc src epoch bepoch first seg nseg entries => Sys2Proof.Machine.execAlloc src epoch bepoch first seg nseg entries s
  | .localAllocationSplit => Sys2Proof.Machine.execLocalAllocationSplit s
  | .budgetCompare flips stuck => Sys2Proof.Machine.execBudgetCompare flips stuck s
  | .groupCycleStart => Sys2Proof.Machine.execGroupCycleStart s
  | .groupReductionResult => Sys2Proof.Machine.execGroupReductionResult s
  | .groupGo => Sys2Proof.Machine.execGroupGo s
  | .commitAnn src epoch cid tick basis entries => Sys2Proof.Machine.execCommitAnn src epoch cid tick basis entries s
  | .domainCommitEffect group => Sys2Proof.Machine.execDomainCommitEffect group s
  | .commitRefuse group => Sys2Proof.Machine.execCommitRefuse group s
  | .joinReqSend => Sys2Proof.Machine.execJoinReqSend s
  | .joinReq src standby => Sys2Proof.Machine.execJoinReq src standby s
  | .joinAck admitted mgen bepoch => Sys2Proof.Machine.execJoinAck admitted mgen bepoch s
  | .member mgen node kind => Sys2Proof.Machine.execMember mgen node kind s
  | .noStandby => Sys2Proof.Machine.execNoStandby s
  | .coreLoad core user pmp addr size => Sys2Proof.Machine.execCoreLoad core user pmp addr size s
  | .coreStore core user pmp addr size val => Sys2Proof.Machine.execCoreStore core user pmp addr size val s
  | .storeBufferDrain core => Sys2Proof.Machine.execStoreBufferDrain core s
  | .fence core predW succR => Sys2Proof.Machine.execFence core predW succR s
  | .fenceI core => Sys2Proof.Machine.execFenceI core s
  | .amo core user pmp op addr val => Sys2Proof.Machine.execAmo core user pmp op addr val s
  | .lr core user pmp addr => Sys2Proof.Machine.execLr core user pmp addr s
  | .sc core user pmp addr val => Sys2Proof.Machine.execSc core user pmp addr val s
  | .mplaneWrite core user val => Sys2Proof.Machine.execMplaneWrite core user val s
  | .cacheFillDone core icache line => Sys2Proof.Machine.execCacheFillDone core icache line s
  | .writebackDrain core => Sys2Proof.Machine.execWritebackDrain core s
  | .mbxFlagWrite writer word val => Sys2Proof.Machine.execMbxFlagWrite writer word val s
  | .mbxDbSet writer target bits => Sys2Proof.Machine.execMbxDbSet writer target bits s
  | .mbxMsg writer target word => Sys2Proof.Machine.execMbxMsg writer target word s
  | .mbxMsgPop reader target => Sys2Proof.Machine.execMbxMsgPop reader target s
  | .mtimeCompare core => Sys2Proof.Machine.execMtimeCompare core s
  | .memoryEccError ix double core fetch => Sys2Proof.Machine.execMemoryEccError ix double core fetch s
  | .cacheEccError core icache line double => Sys2Proof.Machine.execCacheEccError core icache line double s
  | .registerAccessTimeout core store => Sys2Proof.Machine.execRegisterAccessTimeout core store s
  | .fwLoadGo who live cores => Sys2Proof.Machine.execFwLoadGo who live cores s
  | .fwLoadAbort who => Sys2Proof.Machine.execFwLoadAbort who s
  | .fwVerifyDone got => Sys2Proof.Machine.execFwVerifyDone got s
  | .fwWriteDone got => Sys2Proof.Machine.execFwWriteDone got s
  | .release who core => Sys2Proof.Machine.execRelease who core s
  | .restart who core => Sys2Proof.Machine.execRestart who core s
  | .readyWe core ready => Sys2Proof.Machine.execReadyWe core ready s
  | .kick core => Sys2Proof.Machine.execKick core s
  | .restartSelf core => Sys2Proof.Machine.execRestartSelf core s
  | .watchdogExpiry core => Sys2Proof.Machine.execWatchdogExpiry core s
  | .readyTimeout core => Sys2Proof.Machine.execReadyTimeout core s
  | .coreRestartRelease core => Sys2Proof.Machine.execCoreRestartRelease core s
  | .quiesceTimeout core => Sys2Proof.Machine.execQuiesceTimeout core s
  | .secWatchdog => Sys2Proof.Machine.execSecWatchdog s
  | .fwcWdogWrite who core val => Sys2Proof.Machine.execFwcWdogWrite who core val s
  | .ringEnable who ring val => Sys2Proof.Machine.execRingEnable who ring val s
  | .ringDisable who ring => Sys2Proof.Machine.execRingDisable who ring s
  | .sqDoorbell who ring val => Sys2Proof.Machine.execSqDoorbell who ring val s
  | .cqDoorbell who ring val => Sys2Proof.Machine.execCqDoorbell who ring val s
  | .commandFetch ring bad => Sys2Proof.Machine.execCommandFetch ring bad s
  | .completionPost ring => Sys2Proof.Machine.execCompletionPost ring s
  | .telemetrySample ring ok ue => Sys2Proof.Machine.execTelemetrySample ring ok ue s
  | .interruptAggregationTimer ring => Sys2Proof.Machine.execInterruptAggregationTimer ring s
  | .vfDisable vfs => Sys2Proof.Machine.execVfDisable vfs s
  | .identify ring cid out => Sys2Proof.Machine.execIdentify ring cid out s
  | .status ring cid => Sys2Proof.Machine.execStatus ring cid s
  | .imageLoad ring cid => Sys2Proof.Machine.execImageLoad ring cid s
  | .fwLoad ring cid => Sys2Proof.Machine.execFwLoad ring cid s
  | .coreCtl ring cid => Sys2Proof.Machine.execCoreCtl ring cid s
  | .start ring cid => Sys2Proof.Machine.execStart ring cid s
  | .reset ring cid => Sys2Proof.Machine.execReset ring cid s
  | .commit ring cid got => Sys2Proof.Machine.execCommit ring cid got s
  | .regRead ring cid got out => Sys2Proof.Machine.execRegRead ring cid got out s
  | .latchClear ring cid pairs tripIn => Sys2Proof.Machine.execLatchClear ring cid pairs tripIn s
  | .partAssign ring cid => Sys2Proof.Machine.execPartAssign ring cid s
  | .partSet ring cid => Sys2Proof.Machine.execPartSet ring cid s
  | .partEnv ring cid => Sys2Proof.Machine.execPartEnv ring cid s
  | .partSnapshot ring cid out => Sys2Proof.Machine.execPartSnapshot ring cid out s
  | .telemCfg ring cid => Sys2Proof.Machine.execTelemCfg ring cid s
  | .recRead ring cid out => Sys2Proof.Machine.execRecRead ring cid out s
  | .recSpill ring cid => Sys2Proof.Machine.execRecSpill ring cid s
  | .baseline ring cid => Sys2Proof.Machine.execBaseline ring cid s
  | .domMember ring cid => Sys2Proof.Machine.execDomMember ring cid s
  | .domBudget ring cid => Sys2Proof.Machine.execDomBudget ring cid s
  | .bulkSend ring cid got => Sys2Proof.Machine.execBulkSend ring cid got s
  | .bulkRecv ring cid out => Sys2Proof.Machine.execBulkRecv ring cid out s
  | .abort ring cid => Sys2Proof.Machine.execAbort ring cid s
  | .crossingParityError unit item more => Sys2Proof.Machine.execCrossingParityError unit item more s
  | .dmaWriteAbandon ring n => Sys2Proof.Machine.execDmaWriteAbandon ring n s
  | .hostRequestTimeout fn write => Sys2Proof.Machine.execHostRequestTimeout fn write s
  | .drainStatusExpiry rank => Sys2Proof.Machine.execDrainStatusExpiry rank s
  | .postmark => Sys2Proof.Machine.execPostmark s
  | .recPostmarkCmd who val => Sys2Proof.Machine.execRecPostmarkCmd who val s
  | .recPutGo who m val => Sys2Proof.Machine.execRecPutGo who m val s
  | .recTailWrite who val => Sys2Proof.Machine.execRecTailWrite who val s
  | .spillWrite n bme abandoned ue => Sys2Proof.Machine.execSpillWrite n bme abandoned ue s
  | .tailCommitDone ok done => Sys2Proof.Machine.execTailCommitDone ok done s
  | .sectorEraseDone margin => Sys2Proof.Machine.execSectorEraseDone margin s
  | .nvsScanDone => Sys2Proof.Machine.execNvsScanDone s
  | .append who kind => Sys2Proof.Machine.execAppend who kind s
  | .read who kind => Sys2Proof.Machine.execRead who kind s
  | .readTail who => Sys2Proof.Machine.execReadTail who s
  | .releaseTail who => Sys2Proof.Machine.execReleaseTail who s
  | .countersNow who => Sys2Proof.Machine.execCountersNow who s
  | .countersWrite => Sys2Proof.Machine.execCountersWrite s
  | .page io => Sys2Proof.Machine.execPage io s
  | .operation io => Sys2Proof.Machine.execOperation io s
  | .clearFaults io => Sys2Proof.Machine.execClearFaults io s
  | .writeProtect io => Sys2Proof.Machine.execWriteProtect io s
  | .capability io => Sys2Proof.Machine.execCapability io s
  | .smbalertMask code io => Sys2Proof.Machine.execSmbalertMask code io s
  | .voutMode io => Sys2Proof.Machine.execVoutMode io s
  | .voutCommand io => Sys2Proof.Machine.execVoutCommand io s
  | .voutOvFaultLimit io => Sys2Proof.Machine.execVoutOvFaultLimit io s
  | .ioutOcFaultLimit io => Sys2Proof.Machine.execIoutOcFaultLimit io s
  | .otFaultLimit io => Sys2Proof.Machine.execOtFaultLimit io s
  | .vinOvWarn io => Sys2Proof.Machine.execVinOvWarn io s
  | .vinUvWarn io => Sys2Proof.Machine.execVinUvWarn io s
  | .vinUvFaultLimit io => Sys2Proof.Machine.execVinUvFaultLimit io s
  | .statusByte io => Sys2Proof.Machine.execStatusByte io s
  | .statusWord io => Sys2Proof.Machine.execStatusWord io s
  | .statusVout io => Sys2Proof.Machine.execStatusVout io s
  | .statusIout io => Sys2Proof.Machine.execStatusIout io s
  | .statusInput io => Sys2Proof.Machine.execStatusInput io s
  | .statusTemperature io => Sys2Proof.Machine.execStatusTemperature io s
  | .statusCml io => Sys2Proof.Machine.execStatusCml io s
  | .statusMfrSpecific io => Sys2Proof.Machine.execStatusMfrSpecific io s
  | .readVin io => Sys2Proof.Machine.execReadVin io s
  | .readIin io => Sys2Proof.Machine.execReadIin io s
  | .readPin io => Sys2Proof.Machine.execReadPin io s
  | .readVout io => Sys2Proof.Machine.execReadVout io s
  | .readIout io => Sys2Proof.Machine.execReadIout io s
  | .readPout io => Sys2Proof.Machine.execReadPout io s
  | .readTemperature1 io => Sys2Proof.Machine.execReadTemperature1 io s
  | .readTemperature2 io => Sys2Proof.Machine.execReadTemperature2 io s
  | .pmbusRevision io => Sys2Proof.Machine.execPmbusRevision io s
  | .mfrId io => Sys2Proof.Machine.execMfrId io s
  | .mfrModel io => Sys2Proof.Machine.execMfrModel io s
  | .mfrRevision io => Sys2Proof.Machine.execMfrRevision io s
  | .mfrSerial io => Sys2Proof.Machine.execMfrSerial io s
  | .mfrBmcPowerCap io => Sys2Proof.Machine.execMfrBmcPowerCap io s
  | .mfrReset io => Sys2Proof.Machine.execMfrReset io s
  | .mfrDeviceState io => Sys2Proof.Machine.execMfrDeviceState io s
  | .mfrReadVaux io => Sys2Proof.Machine.execMfrReadVaux io s
  | .mfrReadVhold io => Sys2Proof.Machine.execMfrReadVhold io s
  | .invalidPmbusCommand code bytes io => Sys2Proof.Machine.execInvalidPmbusCommand code bytes io s
  | .alertResponse => Sys2Proof.Machine.execAlertResponse s
  | .smbusTimeout => Sys2Proof.Machine.execSmbusTimeout s
  | .setEndpointId pcie dst eid => Sys2Proof.Machine.execSetEndpointId pcie dst eid s
  | .getEndpointId pcie dst => Sys2Proof.Machine.execGetEndpointId pcie dst s
  | .getEndpointUuid pcie dst => Sys2Proof.Machine.execGetEndpointUuid pcie dst s
  | .getMctpVersionSupport pcie dst => Sys2Proof.Machine.execGetMctpVersionSupport pcie dst s
  | .getMessageTypeSupport pcie dst => Sys2Proof.Machine.execGetMessageTypeSupport pcie dst s
  | .mctpUnsupportedCmd pcie dst => Sys2Proof.Machine.execMctpUnsupportedCmd pcie dst s
  | .getVersion pcie dst => Sys2Proof.Machine.execGetVersion pcie dst s
  | .getCapabilities pcie dst => Sys2Proof.Machine.execGetCapabilities pcie dst s
  | .negotiateAlgorithms pcie dst offers => Sys2Proof.Machine.execNegotiateAlgorithms pcie dst offers s
  | .getDigests pcie dst => Sys2Proof.Machine.execGetDigests pcie dst s
  | .getCertificate pcie dst slot off len => Sys2Proof.Machine.execGetCertificate pcie dst slot off len s
  | .challenge pcie dst slot summary => Sys2Proof.Machine.execChallenge pcie dst slot summary s
  | .getMeasurements pcie dst slot index signed => Sys2Proof.Machine.execGetMeasurements pcie dst slot index signed s
  | .spdmUnsupportedRequest pcie dst => Sys2Proof.Machine.execSpdmUnsupportedRequest pcie dst s
  | .fuseArm who op arg => Sys2Proof.Machine.execFuseArm who op arg s
  | .ownerHash who arg => Sys2Proof.Machine.execOwnerHash who arg s
  | .ownerRevoke who arg => Sys2Proof.Machine.execOwnerRevoke who arg s
  | .rootDisable who arg => Sys2Proof.Machine.execRootDisable who arg s
  | .imgRb who arg => Sys2Proof.Machine.execImgRb who arg s
  | .fwRb who arg => Sys2Proof.Machine.execFwRb who arg s
  | .debugOff who arg => Sys2Proof.Machine.execDebugOff who arg s
  | .bound who arg => Sys2Proof.Machine.execBound who arg s
  | .fuseOperationDone ok => Sys2Proof.Machine.execFuseOperationDone ok s
  | .nonce who => Sys2Proof.Machine.execNonce who s
  | .submit who src got => Sys2Proof.Machine.execSubmit who src got s
  | .lock who => Sys2Proof.Machine.execLock who s
  | .debugTokenVerified => Sys2Proof.Machine.execDebugTokenVerified s
  | .testLogicReset => Sys2Proof.Machine.execTestLogicReset s
  | .extest cells => Sys2Proof.Machine.execExtest cells s
  | .samplePreload cells => Sys2Proof.Machine.execSamplePreload cells s
  | .idcode => Sys2Proof.Machine.execIdcode s
  | .highz => Sys2Proof.Machine.execHighz s
  | .clamp => Sys2Proof.Machine.execClamp s
  | .bypass => Sys2Proof.Machine.execBypass s
  | .secUnlock token => Sys2Proof.Machine.execSecUnlock token s
  | .secNonce => Sys2Proof.Machine.execSecNonce s
  | .coreDbgHalt core => Sys2Proof.Machine.execCoreDbgHalt core s
  | .coreDbgResume core => Sys2Proof.Machine.execCoreDbgResume core s
  | .coreDbgStep core act pmp => Sys2Proof.Machine.execCoreDbgStep core act pmp s
  | .coreDbgReadReg core reg => Sys2Proof.Machine.execCoreDbgReadReg core reg s
  | .coreDbgWriteReg core reg val => Sys2Proof.Machine.execCoreDbgWriteReg core reg val s
  | .coreDbgReadMem core addr => Sys2Proof.Machine.execCoreDbgReadMem core addr s
  | .coreDbgWriteMem core addr val => Sys2Proof.Machine.execCoreDbgWriteMem core addr val s
  | .coreDbgStatus core => Sys2Proof.Machine.execCoreDbgStatus core s
  | .activeSelWrite who val => Sys2Proof.Machine.execActiveSelWrite who val s
  | .assetLock who asset => Sys2Proof.Machine.execAssetLock who asset s
  | .planeResetEnd => Sys2Proof.Machine.execPlaneResetEnd s
  | .droopFlagFall die => Sys2Proof.Machine.execDroopFlagFall die s
  | .siteTripRelease die site t => Sys2Proof.Machine.execSiteTripRelease die site t s
  | .siteCoreDomainChange die site on => Sys2Proof.Machine.execSiteCoreDomainChange die site on s
  | .postlineCrcError die lane gap => Sys2Proof.Machine.execPostlineCrcError die lane gap s
  | .frankSend queue => Sys2Proof.Machine.execFrankSend queue s
  | .hintBallastSend part => Sys2Proof.Machine.execHintBallastSend part s
  | .hostWindow2Write fn off io => Sys2Proof.Machine.execHostWindow2Write fn off io s
  | .nvsCommandDone ok => Sys2Proof.Machine.execNvsCommandDone ok s
  | .spdmResponseDone => Sys2Proof.Machine.execSpdmResponseDone s
  | .secRebootDone secOk idOk => Sys2Proof.Machine.execSecRebootDone secOk idOk s
  | .estimatorSample => Sys2Proof.Machine.execEstimatorSample s
  | .pciePerstRelease => Sys2Proof.Machine.execPciePerstRelease s

end Sys2Proof.Machine
end

