-- ==== Sys2Proof/Machine/EstFw.lean ====
section
/-! DEFINITION. What release line 3.x does with commissioning baselines (R469): it stores each captured one and reloads them at every start. -/

namespace Sys2Proof.Machine

/-- The payload of a BASELINE record, 3 units long (ch. 18, after R853). -/
def basePayload (s : State) (b : BaseDue) : List Byte :=
  let l := leBytes 4 b.base ++ leBytes 2 b.rel ++ leBytes 2 0 ++ leBytes 8 b.at_ ++ leBytes 4 (rd s Reg.SEC_IMG_GEN).toNat
    ++ (railPhases s (b.k / 16)).flatMap (fun p => leBytes 2 (unsx 16 (sarI (phOf s p).trim 15)))
  l ++ List.replicate (172 - l.length) 0

/-- Firmware stores a baseline, with the shares of the rail's phases beside it in its own memory, and confirms it: CLASS 0x80, TYPE 0x02. The
APPEND runs to its end at once; the entry's layout is the model's (log entry 140). -/
def baseStore (s : State) (b : BaseDue) : State :=
  let sec := writeSector s 16
  if unavail s 16 then nvRefuse s 6 sec
  else if areaFull s 2 3 then nvRefuse s 7 sec
  else
    let s := putRecord s 2 b.k (basePayload s b)
    let s := nvDone s s.nvs.gen
    let share := (railPhases s (b.k / 16)).map (fun p => ((s.est.bal.head?.map (fun t => tabGet {} t p)).getD {} : BalSample).share)
    let s := { s with est := { s.est with baseShare := tabSet [] s.est.baseShare b.k share } }
    stage s .mgmt { cls := 0x80, typ := 0x02, unit := b.k, arg := 0, value := b.base, value2 := b.rel }

/-- The stored baselines, by region. -/
def basesStored (s : State) : List (Nat × Nat) :=
  (List.range 128).filterMap (fun k => (baseRec s k).map (fun r => (k, leAt r.payload 0 4 % 2 ^ 24)))

/-- Firmware writes the stored baselines into EST_BASE_k with VALID and commits group 43. -/
def baseReload (s : State) : State :=
  let l := basesStored s
  let s := { s with est := { s.est with reload := false } }
  if l = [] then s else fwCommit (fwPuts s (l.map (fun p => (Reg.EST_BASE p.1, p.2 + 2 ^ 31)))) (2 ^ 43) false 0

/-- R469, while OWNER is 1 (R852): firmware reloads after a start, then stores what has been captured, where the engine is free. -/
def baseServe (s : State) : State :=
  if (s.est.baseDue = [] ∧ !s.est.reload) ∨ !fwWorks s ∨ (rd s Reg.TOP_COMMIT_OWNER).toNat ≠ 1 ∨ !flag s Reg.TOP_SUPPLY F.TOP_SUPPLY_NVS_READY then s
  else
    let s := if s.est.reload && !bitOf (pendMask s) 43 then baseReload s else s
    if s.nvs.cmd.isSome ∨ s.nvs.tail.isSome then s
    else
      let l := s.est.baseDue
      forEach l { s with est := { s.est with baseDue := [] } } baseStore

end Sys2Proof.Machine
end

