-- ==== Sys2Proof/Machine/Tick.lean ====
section
/-! DEFINITION. What the clock does while no command waits: one REFCLK period of 10 ns. -/

namespace Sys2Proof.Machine

/-- R791: a source that has become pending signals its function 0 vector where HOST_EN is 1. -/
def intLook (s : State) : State :=
  let p := intPending s
  let new := (List.range 20).filter (fun k => bitOf p k && !bitOf s.hir.said k)
  let s := forEach new s (fun s k =>
    let r := rd s (Reg.INT_ROUTE k)
    if fldOf r F.INT_ROUTE_HOST_EN = 1 then signal s 0 (fldOf r F.INT_ROUTE_VEC) else s)
  setHir s (fun h => { h with said := p })

/-- The plane of an interrupt source's block (Table 16.10). -/
def sourcePlane (k : Nat) : Nat := if 3 ≤ k ∧ k ≤ 12 then 0 else if k = 13 then 1 else 2

/-- R714, R792: the machine external interrupt of core n, 8 for SEC: a pending source whose CORES names the core and whose plane lies in
its TAGS. -/
def extIrq (s : State) (n : Nat) : Bool :=
  (List.range 20).any (fun k => bitOf (intPending s) k && bitOf (fld s (Reg.INT_ROUTE k) F.INT_ROUTE_CORES) n && bitOf (coreTags s n) (sourcePlane k))

/-- R709, R713, R714: the machine interrupts that a core raises, as the bits of mip. SEC has no mtimecmp. -/
def irqLines (s : State) (n : Nat) : Nat := 8 * b2n (softIrq s n) + 128 * b2n (n < 8 && timerIrq s n) + 2048 * b2n (extIrq s n)

def irqLook (s : State) : State :=
  let lines := (List.range 9).foldl (fun t n => tabSet 0 t n (irqLines s n)) []
  { s with fwc := { s.fwc with mip := lines } }

/-- R713: mtime counts 10 ns ticks while CLK_FW has a source. -/
def mtimeTick (s : State) : State :=
  if !fwOn s then s else { s with fwc := { s.fwc with mtime := (s.fwc.mtime + 1) % 2 ^ 64 } }

/-- One period: the time base and mtime count, conditions latch for the sideband (R872), guarded pins are looked at (R903), sources of
interrupts too (R791, R792), and firmware serves the BMC's cap (R877) and the baselines (R469).
DESIGN CHOICE (log entry 2), unsafe: the table has no row for a clock edge. -/
def tick (s : State) : State :=
  if s.top.porHeld then s else baseServe (bmcCommit (irqLook (intLook (tapGuard (pmRefresh (mtimeTick (tbEdge s)))))))

end Sys2Proof.Machine
end

