-- ==== Sys2Proof/Safety.lean ====
section
/-! DEFINITION. The terms in which claims about the machine are stated: how a command runs, the canonical form of tables and memories, and what
no step may undo. -/

namespace Sys2Proof.Machine

/-- The command runs in this state: it answers a next state, and that state has the property. -/
def Runs (c : Instr) (s : State) (P : State → Prop) : Prop := ∃ t, exec c s = .next t ∧ P t

/-- A write by an initiator reaches Window 0 and passes its gate (Table 20.7): what it then does is the register's own effect. Virtual functions
reach doorbells only. -/
def admits (s : State) (who : Initiator) (off val : Nat) : Bool :=
  reachable s who && !hostStuck s who && (match who with
    | .host ⟨_ + 1, _⟩ => false
    | _ => gate { s with resp := .none } who off val == .pass)

/-- A read by an initiator reaches Window 0; virtual functions have a Window 0 of their own. -/
def canRead (s : State) (who : Initiator) : Bool :=
  reachable s who && !hostStuck s who && (match who with
    | .host ⟨_ + 1, _⟩ => false
    | _ => true)

/-! ## Commands of the host rings, and messages -/

/-- A RUNNING command ring of function 0 holds one command, with a CID and an opcode, which has not begun, and firmware works on it (R778, R783). -/
def takesCmd (s : State) (ring : RingIx) (cid : BitVec 16) (op : Nat) (c : HirCmd) : Bool :=
  fwWorks s && (ringOf s ring.val).state == .running && !ringTel s ring.val && ringOwner s ring.val == 0 && (ringOf s ring.val).cmds == [c]
    && (ringOf s ring.val).done == [] && c.cid == cid.toNat && c.opcode == op && !c.began && !flag s Reg.SBM_BMC_CAP F.SBM_BMC_CAP_PENDING

/-- The ring has no command left and one completion to post, with a CID and a status (Table 16.5). -/
def completed (s : State) (ring : RingIx) (cid : BitVec 16) (status : Nat) : Prop :=
  (ringOf s ring.val).cmds = [] ∧ (ringOf s ring.val).done.map (fun d => (d.cid, d.status)) = [(cid.toNat, status)]

/-- SEC takes an MCTP message on a binding (R879, R880, R907). -/
def mctpTakes (s : State) (pcie control : Bool) (dst : Byte) : Bool :=
  !s.top.porHeld && (!pcie || s.top.pcieUp) && !sbFlag s (if pcie then 4 else 3) && flag s Reg.TOP_SUPPLY F.TOP_SUPPLY_SEC_OK
    && mctpFor s pcie control dst.toNat

/-- SEC takes an SPDM request that needs a stage of the connection (R883, R887). -/
def spdmTakes (s : State) (pcie : Bool) (dst : Byte) (need : Nat) : Bool :=
  mctpTakes s pcie false dst && !spdmBusy s && decide (need ≤ tabGet 0 s.sbm.conn (b2n pcie))

/-! ## Frames -/

/-- A set of blocks of the state, one flag for each field of `State`. -/
structure Blocks where
  regs : Bool := false
  active : Bool := false
  top : Bool := false
  drain : Bool := false
  bt : Bool := false
  recd : Bool := false
  tb : Bool := false
  clk : Bool := false
  ch : Bool := false
  ph : Bool := false
  quad : Bool := false
  pb : Bool := false
  fq : Bool := false
  img : Bool := false
  nvs : Bool := false
  integ : Bool := false
  fwc : Bool := false
  fab : Bool := false
  tvl : Bool := false
  dom : Bool := false
  est : Bool := false
  cap : Bool := false
  hir : Bool := false
  sbm : Bool := false
  sec : Bool := false
  jtag : Bool := false
  pending : Bool := false
  resp : Bool := false
  freeCtr : Bool := false

/-- The state with the blocks of a set blanked: two states that agree in it agree in every other block. -/
def State.but (W : Blocks) (s : State) : State :=
  { regs := if W.regs then [] else s.regs
    active := if W.active then [] else s.active
    top := if W.top then {} else s.top
    drain := if W.drain then [] else s.drain
    bt := if W.bt then {} else s.bt
    recd := if W.recd then {} else s.recd
    tb := if W.tb then {} else s.tb
    clk := if W.clk then {} else s.clk
    ch := if W.ch then [] else s.ch
    ph := if W.ph then [] else s.ph
    quad := if W.quad then [] else s.quad
    pb := if W.pb then {} else s.pb
    fq := if W.fq then {} else s.fq
    img := if W.img then {} else s.img
    nvs := if W.nvs then {} else s.nvs
    integ := if W.integ then {} else s.integ
    fwc := if W.fwc then {} else s.fwc
    fab := if W.fab then {} else s.fab
    tvl := if W.tvl then {} else s.tvl
    dom := if W.dom then {} else s.dom
    est := if W.est then {} else s.est
    cap := if W.cap then {} else s.cap
    hir := if W.hir then {} else s.hir
    sbm := if W.sbm then {} else s.sbm
    sec := if W.sec then {} else s.sec
    jtag := if W.jtag then {} else s.jtag
    pending := if W.pending then [] else s.pending
    resp := if W.resp then .none else s.resp
    freeCtr := if W.freeCtr then 0 else s.freeCtr }

/-- Whenever the command answers a next state, every block outside `W` stands as it was. -/
def Keeps (W : Blocks) (c : Instr) : Prop := ∀ s t, exec c s = .next t → State.but W t = State.but W s

/-- Whenever the command answers a next state, every register outside the list reads as it did. -/
def RegsBut (l : List Nat) (c : Instr) : Prop := ∀ s t, exec c s = .next t → ∀ off, off ∉ l → rd t off = rd s off

/-- The registers that a record writes: the drop counters, the loss flag, and the drain bookkeeping of rank 8 (R70, R71, R825). -/
def recordRegs : List Nat :=
  [Reg.REC_ARB_DROP 0, Reg.REC_ARB_DROP 1, Reg.REC_ARB_DROP 2, Reg.REC_EVENT, Reg.TOP_DRAIN_CNT 8, Reg.TOP_DRAIN_STATUS]

/-! ## Canonical tables and memories -/

/-- The keys rise strictly. -/
def keysRise {α : Type} : Tab α → Bool
  | [] => true
  | [_] => true
  | p :: q :: t => decide (p.1 < q.1) && keysRise (q :: t)

/-- The canonical form of a table: keys rise strictly, and the default is not listed. -/
def tabWf {α : Type} [DecidableEq α] (d : α) (t : Tab α) : Bool := keysRise t && t.all (fun p => decide (p.2 ≠ d))

/-- A byte memory is in its canonical form: an unlisted byte reads 0. -/
def Memory.wf (t : Tab Byte) : Bool := tabWf 0 t

/-- The firmware SRAM with ring memory, and every core's TCM, are in canonical form. -/
def memoriesWf (s : State) : Bool := Memory.wf s.fwc.mem && (List.range 8).all (fun n => Memory.wf (coreOf s n).tcm)

/-- The register words, staged and active, are in canonical form: no word equal to its reset value is listed. -/
def regsWf (s : State) : Bool :=
  keysRise s.regs && s.regs.all (fun p => decide (p.2 ≠ resetOf p.1)) && keysRise s.active && s.active.all (fun p => decide (p.2 ≠ resetOf p.1))

/-! ## What each command may write -/

/-- Every block but those of a set. -/
def Blocks.allBut (b : Blocks) : Blocks :=
  { regs := !b.regs, active := !b.active, top := !b.top, drain := !b.drain, bt := !b.bt, recd := !b.recd, tb := !b.tb, clk := !b.clk, ch := !b.ch,
    ph := !b.ph, quad := !b.quad, pb := !b.pb, fq := !b.fq, img := !b.img, nvs := !b.nvs, integ := !b.integ, fwc := !b.fwc, fab := !b.fab,
    tvl := !b.tvl, dom := !b.dom, est := !b.est, cap := !b.cap, hir := !b.hir, sbm := !b.sbm, sec := !b.sec, jtag := !b.jtag,
    pending := !b.pending, resp := !b.resp, freeCtr := !b.freeCtr }

/-- The blocks of the state that a command may write: its own, and those that its consequences reach. -/
def writes : Instr → Blocks
  | .abortBlock .. => {}
  | .staleEpochFloors | .localAllocationSplit => { bt := true }
  | .setpointReached .. => { ch := true }
  | .estimatorSample => { est := true }
  | .xslot .. | .fastSync .. => { fab := true }
  | .rampUpdate => { fq := true }
  | .writebackDrain .. | .mtimeCompare .. | .kick .. => { fwc := true }
  | .commandFetch .. => { hir := true }
  | .refillDone => { img := true }
  | .activeCopySbe .. => { integ := true }
  | .siteCalSweep .. | .siteDroopCrossing .. | .siteDrpRelease .. | .siteTrip .. | .tsyncSend | .tsync .. | .downLaneFailure .. | .freq .. | .bal ..
  | .cfg .. | .arm .. | .disarm .. | .nak .. | .fallback .. | .resume .. | .reportInterval .. | .intDataWord .. | .frank .. | .siteTripRelease ..
  | .siteCoreDomainChange .. => { pb := true }
  | .negativeCurrentLimit .. | .phaseReturn .. => { ph := true }
  | .captureEvent .. | .refclkOkRestored | .pllCtlRelock | .resetThresholdGlitch .. | .imonRange .. => { regs := true }
  | .mgmtResetTakeEffect | .pciePerstRelease => { top := true }
  | .laneSignalDetect .. | .laneEqDone .. | .laneLock .. | .credit .. | .linkAck .. => { tvl := true }
  | .fastDuty .. => { ch := true, ph := true }
  | .pgExcursion .. | .fastIrep .. => { regs := true, ch := true }
  | .clkFwSourceRestored .. => { regs := true, clk := true }
  | .member .. => { tvl := true, dom := true }
  | .calibrationVisit .. => { ph := true, est := true }
  | .xdevSyncErr => { regs := true, fab := true }
  | .frankCeilingEnd .. => { tb := true, fq := true }
  | .storeBufferDrain .. | .fence .. | .fenceI .. | .cacheFillDone .. => { regs := true, fwc := true }
  | .lr .. | .mplaneWrite .. => { fwc := true, resp := true }
  | .hotReset | .flr .. | .vfDisable .. => { regs := true, hir := true }
  | .interruptAggregationTimer .. => { tb := true, hir := true }
  | .testLogicReset | .idcode | .bypass => { jtag := true, resp := true }
  | .fallbackRetrain .. | .commEnd .. | .vmin .. | .cfgAck .. | .coreOff .. | .coreOn .. | .calOk .. | .bale .. | .cfgResend .. | .baleGap .. =>
      { regs := true, pb := true }
  | .siteStretchEnd .. | .boostGapEnd .. | .freqStepSend .. | .droopFlagFall .. => { tb := true, pb := true }
  | .peakLimit .. | .balanceUpdate .. => { regs := true, ph := true }
  | .phaseSlotEdge .. => { tb := true, ph := true }
  | .lossRecord .. => { regs := true, recd := true }
  | .hostRequestTimeout .. => { regs := true, resp := true }
  | .vinArmed .. | .vinHiClear .. | .smbusTimeout => { regs := true, sbm := true }
  | .ppsPulse | .holdoverEntry => { regs := true, tb := true }
  | .spdmResponseDone => { sbm := true, resp := true }
  | .tickFreqSend .. => { active := true, tb := true, pb := true }
  | .stretch .. => { regs := true, pb := true, cap := true }
  | .thermalLoopUpdate => { regs := true, tb := true, cap := true }
  | .thermalGuardRelease .. => { tb := true, cap := true, sbm := true }
  | .ditherChip => { tb := true, ch := true, est := true }
  | .phaseAdd .. | .phaseShed .. | .dripEntry .. | .dripSleep .. | .dripWake .. | .dripBurstExit .. => { regs := true, ch := true, ph := true }
  | .periodStart .. => { tb := true, ch := true, ph := true }
  | .overloadCompare .. => { regs := true, ch := true, sbm := true }
  | .joinAck .. => { regs := true, tvl := true, dom := true }
  | .recordProduce .. | .invalidBlock .. | .spillWrite .. => { regs := true, drain := true, recd := true }
  | .drainStatusExpiry .. => { regs := true, drain := true, tb := true }
  | .khz10Sample => { regs := true, fab := true, freeCtr := true }
  | .cpm .. => { regs := true, pb := true, fab := true }
  | .commBegin .. | .ballastUpdate => { regs := true, pb := true, fq := true }
  | .heavyLaunch .. | .frankSend .. | .hintBallastSend .. => { tb := true, pb := true, fq := true }
  | .warningClear .. => { regs := true, fq := true, sbm := true }
  | .schedTimeout => { regs := true, tb := true, fq := true }
  | .samplePreload .. | .coreDbgStatus .. => { jtag := true, resp := true, freeCtr := true }
  | .completionPost .. => { regs := true, fwc := true, hir := true }
  | .mbxMsgPop .. | .registerAccessTimeout .. => { regs := true, fwc := true, resp := true }
  | .pciePerst => { regs := true, top := true, hir := true }
  | .secUnlock .. => { sec := true, jtag := true, resp := true }
  | .page .. | .operation .. | .clearFaults .. | .writeProtect .. | .capability .. | .smbalertMask .. | .voutMode .. | .voutCommand ..
  | .voutOvFaultLimit .. | .ioutOcFaultLimit .. | .otFaultLimit .. | .vinOvWarn .. | .vinUvWarn .. | .vinUvFaultLimit .. | .statusByte ..
  | .statusWord .. | .statusVout .. | .statusIout .. | .statusInput .. | .statusTemperature .. | .statusCml .. | .statusMfrSpecific .. | .readVin ..
  | .readVout .. | .readIout .. | .readPout .. | .readTemperature2 .. | .pmbusRevision .. | .mfrId .. | .mfrModel .. | .mfrRevision ..
  | .mfrSerial .. | .mfrDeviceState .. | .mfrReadVaux .. | .mfrReadVhold .. | .invalidPmbusCommand .. | .alertResponse | .setEndpointId ..
  | .getEndpointId .. | .getEndpointUuid .. | .getMctpVersionSupport .. | .getMessageTypeSupport .. | .mctpUnsupportedCmd .. | .getVersion ..
  | .getCapabilities .. | .negotiateAlgorithms .. | .getDigests .. | .getCertificate .. | .spdmUnsupportedRequest .. =>
      { regs := true, sbm := true, resp := true }
  | .hostUnalignedAccess .. => { regs := true, top := true, resp := true }
  | .laneWaitEnd .. => { regs := true, tb := true, tvl := true }
  | .fack .. => { regs := true, pb := true, fq := true, cap := true }
  | .powerLoopUpdate => { regs := true, tb := true, cap := true, freeCtr := true }
  | .droopCellFreezeEnd .. => { regs := true, tb := true, pb := true, cap := true }
  | .boostEndBlock .. => { ch := true, ph := true, pb := true, tvl := true }
  | .xtalFail .. => { regs := true, drain := true, recd := true, clk := true }
  | .noStandby => { regs := true, drain := true, recd := true, dom := true }
  | .claimExpiry => { recd := true, tb := true, dom := true, sbm := true }
  | .fabricParityError .. | .xslotFallback .. => { regs := true, drain := true, recd := true, fab := true }
  | .fixedRateArm .. => { regs := true, drain := true, tb := true, fq := true }
  | .dmaWriteAbandon .. => { regs := true, drain := true, recd := true, hir := true }
  | .arbiterGrant | .tailCommitDone .. | .sectorEraseDone .. | .nvsScanDone => { regs := true, drain := true, recd := true, nvs := true }
  | .calFail .. | .siteFault .. => { regs := true, drain := true, recd := true, pb := true }
  | .vinHighAlarm .. | .vholdLow .. => { regs := true, drain := true, recd := true, sbm := true }
  | .debugTokenVerified => { regs := true, drain := true, recd := true, sec := true }
  | .holdoverLimit | .rateLimit => { regs := true, drain := true, recd := true, tb := true }
  | .pcieRefclkLoss => { regs := true, top := true, drain := true, recd := true }
  | .syncInterval | .syncResp .. | .frameReceive .. | .reduce .. | .operand .. | .imageSeg .. | .recGather .. | .joinReqSend =>
      { regs := true, drain := true, recd := true, tvl := true }
  | .vrep .. => { regs := true, pb := true, fab := true, est := true }
  | .ms1Sample .. => { regs := true, fab := true, sbm := true, freeCtr := true }
  | .postlineTrainingDone .. => { regs := true, pb := true, fq := true, sbm := true }
  | .coreDbgReadReg .. | .coreDbgWriteReg .. => { fwc := true, jtag := true, resp := true, freeCtr := true }
  | .readIin .. | .readPin .. | .readTemperature1 .. | .challenge .. | .getMeasurements .. =>
      { regs := true, sbm := true, resp := true, freeCtr := true }
  | .budgetCompare .. => { regs := true, drain := true, bt := true, recd := true, dom := true }
  | .holdExpiry .. => { regs := true, tb := true, pb := true, dom := true, cap := true }
  | .contention .. => { regs := true, drain := true, recd := true, tb := true, cap := true }
  | .freqResend .. => { regs := true, tb := true, pb := true, fq := true, cap := true }
  | .senseSwitch .. | .memberLoss .. | .dutyWordLoss .. => { regs := true, drain := true, recd := true, ch := true, ph := true }
  | .boostStartBlock .. => { regs := true, ch := true, ph := true, pb := true, tvl := true }
  | .gthrot .. | .trip .. | .groupGo | .commitAnn .. | .joinReq .. => { regs := true, drain := true, recd := true, tvl := true, dom := true }
  | .calibrationReading .. => { regs := true, drain := true, recd := true, ph := true, est := true }
  | .ncrEnter .. | .captureTimeout => { regs := true, drain := true, recd := true, tb := true, est := true }
  | .upLaneFailure .. | .intent .. | .downLoss .. | .postlineCrcError .. => { regs := true, drain := true, recd := true, pb := true, fq := true }
  | .nvsCommandDone .. => { regs := true, drain := true, recd := true, nvs := true, fwc := true }
  | .amo .. | .sc .. | .mbxFlagWrite .. | .mbxDbSet .. | .mbxMsg .. | .memoryEccError .. =>
      { regs := true, drain := true, recd := true, fwc := true, resp := true }
  | .fwVerifyDone .. => { regs := true, top := true, drain := true, recd := true, fwc := true }
  | .bulkTimeout .. | .telemetrySample .. => { regs := true, drain := true, recd := true, tb := true, hir := true }
  | .bulk .. => { regs := true, drain := true, recd := true, tvl := true, hir := true }
  | .heldLoadBegin .. | .imageFetchDone .. => { regs := true, top := true, drain := true, recd := true, img := true }
  | .extest .. | .highz | .clamp => { regs := true, drain := true, recd := true, jtag := true, resp := true }
  | .vholdExhausted .. => { regs := true, drain := true, recd := true, nvs := true, sbm := true }
  | .countersWrite => { regs := true, drain := true, recd := true, tb := true, nvs := true }
  | .sync .. | .creditTimeout .. | .reductionTimeout .. | .demandReductionStart =>
      { regs := true, drain := true, recd := true, tb := true, tvl := true }
  | .secNonce => { regs := true, sec := true, jtag := true, resp := true, freeCtr := true }
  | .porRelease .. => { regs := true, top := true, tb := true, ph := true, quad := true }
  | .domainCommitEffect .. => { regs := true, active := true, drain := true, recd := true, tb := true, dom := true }
  | .allocGo | .alloc .. => { regs := true, drain := true, bt := true, recd := true, tvl := true, dom := true }
  | .freezeEnd .. => { regs := true, drain := true, recd := true, tb := true, pb := true, cap := true }
  | .boostEnd .. => { regs := true, tb := true, ch := true, ph := true, pb := true, tvl := true }
  | .groupReductionResult => { regs := true, drain := true, recd := true, fwc := true, tvl := true, dom := true }
  | .heartbeatInstant | .groupCycleStart => { regs := true, drain := true, recd := true, tb := true, tvl := true, dom := true }
  | .syncFin .. => { regs := true, drain := true, recd := true, tb := true, tvl := true, est := true }
  | .supplyWarning .. => { regs := true, drain := true, recd := true, pb := true, fq := true, sbm := true }
  | .fuseOperationDone .. => { regs := true, drain := true, recd := true, nvs := true, sec := true, freeCtr := true }
  | .pbMinArm .. | .snapshot .. | .fwLoadGo .. | .recPostmarkCmd .. | .recPutGo .. | .activeSelWrite .. | .assetLock .. | .hostWindow2Write .. =>
      { regs := true, top := true, drain := true, recd := true, fwc := true, resp := true }
  | .secRebootDone .. => { regs := true, drain := true, recd := true, fwc := true, sbm := true, sec := true }
  | .postmark => { regs := true, drain := true, recd := true, tb := true, nvs := true, sbm := true }
  | .localSealed .. => { regs := true, top := true, drain := true, bt := true, recd := true, fwc := true, resp := true }
  | .hold .. | .droop .. | .commitRefuse .. => { regs := true, drain := true, recd := true, pb := true, tvl := true, dom := true, cap := true }
  | .coreRestartRelease .. => { regs := true, drain := true, recd := true, pb := true, fq := true, fwc := true, cap := true }
  | .droopStuck .. => { regs := true, drain := true, recd := true, ch := true, ph := true, pb := true, tvl := true }
  | .laneIdentDone .. | .laneTrainTimeout .. | .laneLockLoss .. | .linkNak .. | .replayTimeout .. =>
      { regs := true, drain := true, recd := true, tb := true, ch := true, ph := true, tvl := true }
  | .clkFwReturn .. => { regs := true, top := true, drain := true, recd := true, clk := true, fwc := true, resp := true }
  | .refclkResume => { regs := true, top := true, drain := true, recd := true, tb := true, img := true, dom := true }
  | .heartbeatMissed | .heartbeat .. => { regs := true, drain := true, recd := true, tb := true, tvl := true, dom := true, sbm := true }
  | .estimatorRefresh => { regs := true, drain := true, recd := true, tb := true, est := true, sbm := true, freeCtr := true }
  | .laneTransmitSlot .. => { regs := true, drain := true, recd := true, tb := true, fab := true, tvl := true, resp := true }
  | .fqGrant .. | .fqSchedHb .. => { regs := true, top := true, drain := true, recd := true, fq := true, fwc := true, resp := true }
  | .crossingParityError .. => { regs := true, top := true, drain := true, recd := true, pb := true, fq := true, tvl := true }
  | .ringEnable .. | .ringDisable .. | .sqDoorbell .. | .cqDoorbell .. =>
      { regs := true, top := true, drain := true, recd := true, fwc := true, hir := true, resp := true }
  | .commitCancel .. | .imageLoadGo .. | .imageLoadAbort .. =>
      { regs := true, top := true, drain := true, recd := true, img := true, fwc := true, resp := true }
  | .append .. | .read .. | .readTail .. | .releaseTail .. | .countersNow .. =>
      { regs := true, top := true, drain := true, recd := true, nvs := true, fwc := true, resp := true }
  | .fuseArm .. | .ownerHash .. | .ownerRevoke .. | .rootDisable .. | .imgRb .. | .fwRb .. | .debugOff .. | .bound .. | .submit .. | .lock .. =>
      { regs := true, top := true, drain := true, recd := true, fwc := true, sec := true, resp := true }
  | .allocationCompute => { regs := true, drain := true, bt := true, recd := true, tb := true, fwc := true, tvl := true, dom := true }
  | .coreDbgHalt .. | .coreDbgResume .. =>
      { regs := true, pb := true, fq := true, fwc := true, cap := true, jtag := true, resp := true, freeCtr := true }
  | .heavyGrant | .deadlineExpiry .. => { regs := true, drain := true, recd := true, tb := true, ch := true, ph := true, pb := true, fq := true }
  | .secWatchdog => { regs := true, drain := true, recd := true, img := true, fwc := true, sbm := true, sec := true, freeCtr := true }
  | .nonce .. => { regs := true, top := true, drain := true, recd := true, fwc := true, sec := true, resp := true, freeCtr := true }
  | .droopFlagRise .. => { regs := true, drain := true, recd := true, ch := true, ph := true, pb := true, fq := true, tvl := true, cap := true }
  | .cacheEccError .. | .readyWe .. | .restartSelf .. =>
      { regs := true, drain := true, recd := true, pb := true, fq := true, img := true, fwc := true, cap := true, freeCtr := true }
  | .release .. => { regs := true, top := true, drain := true, recd := true, pb := true, fq := true, fwc := true, cap := true, resp := true }
  | .decafOvervoltage .. =>
      { regs := true, top := true, drain := true, recd := true, ph := true, quad := true, img := true, nvs := true, tvl := true }
  | .targetEvaluation =>
      { regs := true, drain := true, recd := true, pb := true, fq := true, fab := true, tvl := true, dom := true, cap := true, sbm := true }
  | .watchdogExpiry .. | .readyTimeout .. | .quiesceTimeout .. =>
      { regs := true, drain := true, recd := true, tb := true, pb := true, fq := true, img := true, fwc := true, cap := true, freeCtr := true }
  | .fwWriteDone .. =>
      { regs := true, top := true, drain := true, recd := true, pb := true, fq := true, img := true, fwc := true, cap := true, freeCtr := true }
  | .startStage =>
      { regs := true, top := true, drain := true, recd := true, tb := true, ch := true, ph := true, quad := true, nvs := true, fab := true }
  | .dischargeLimitExpiry =>
      { regs := true, top := true, drain := true, recd := true, tb := true, ch := true, ph := true, quad := true, nvs := true, sbm := true }
  | .fastSample .. =>
      { regs := true, ch := true, ph := true, pb := true, fq := true, fab := true, tvl := true, est := true, sbm := true, freeCtr := true }
  | .fwLoadAbort .. | .restart .. =>
      { regs := true, top := true, drain := true, recd := true, pb := true, fq := true, img := true, fwc := true, cap := true, resp := true,
        freeCtr := true }
  | .channelInRegulation .. =>
      { regs := true, top := true, drain := true, recd := true, tb := true, ch := true, ph := true, quad := true, pb := true, nvs := true,
        fab := true }
  | .powerOnSequenceDone .. =>
      { regs := true, active := true, top := true, drain := true, recd := true, ph := true, img := true, nvs := true, integ := true, fwc := true,
        sec := true, freeCtr := true }
  | .startRequest .. =>
      { regs := true, top := true, drain := true, recd := true, ch := true, ph := true, quad := true, nvs := true, fwc := true, fab := true,
        est := true, resp := true }
  | .pllCtlUnlock | .aonFault .. | .frameDigestDbe .. | .thermalTrip .. =>
      { regs := true, top := true, drain := true, recd := true, ch := true, ph := true, pb := true, fq := true, img := true, nvs := true,
        tvl := true, est := true }
  | .stopRequest .. =>
      { regs := true, top := true, drain := true, recd := true, ch := true, ph := true, pb := true, fq := true, nvs := true, fwc := true,
        tvl := true, est := true, resp := true }
  | .dischargeRailDone .. =>
      { regs := true, top := true, drain := true, recd := true, ch := true, ph := true, quad := true, pb := true, fq := true, nvs := true,
        tvl := true, est := true, sbm := true }
  | .refclkLoss =>
      { regs := true, top := true, drain := true, recd := true, tb := true, clk := true, ch := true, ph := true, pb := true, fq := true, img := true,
        nvs := true, tvl := true, est := true }
  | .registerWrite .. | .wideHighWrite .. | .protLatchClear .. | .coreStore .. | .fwcWdogWrite .. | .identify .. | .status .. | .imageLoad ..
  | .fwLoad .. | .coreCtl .. | .start .. | .reset .. | .commit .. | .regRead .. | .latchClear .. | .partAssign .. | .partSet .. | .partEnv ..
  | .partSnapshot .. | .telemCfg .. | .recRead .. | .recSpill .. | .baseline .. | .domMember .. | .domBudget .. | .bulkSend .. | .bulkRecv ..
  | .abort .. | .recTailWrite .. | .mfrBmcPowerCap .. => .allBut { jtag := true, pending := true }
  | .wideLowRead .. | .rcRead .. | .dlqPop .. =>
      .allBut { active := true, bt := true, tb := true, clk := true, fwc := true, dom := true, cap := true, hir := true, sec := true, jtag := true,
                pending := true, freeCtr := true }
  | .porstAssert | .runSupplyLoss .. | .vauxHoldLoss => .allBut { pending := true, resp := true, freeCtr := true }
  | .commitRequest .. => .allBut { bt := true, clk := true, dom := true, hir := true, sec := true, jtag := true, pending := true, freeCtr := true }
  | .tickCommit =>
      .allBut { bt := true, clk := true, fwc := true, dom := true, hir := true, sec := true, jtag := true, pending := true, resp := true,
                freeCtr := true }
  | .budgetEpochTick => .allBut { clk := true, fwc := true, hir := true, sec := true, jtag := true, pending := true, resp := true, freeCtr := true }
  | .activeCopyDbe .. =>
      .allBut { active := true, bt := true, tb := true, clk := true, fwc := true, dom := true, cap := true, hir := true, sec := true, jtag := true,
                pending := true, resp := true, freeCtr := true }
  | .deviceReset .. | .warmReset .. | .controlPlaneReset .. | .dataPlaneReset .. | .managementPlaneReset .. =>
      .allBut { active := true, bt := true, tb := true, clk := true, quad := true, nvs := true, integ := true, cap := true, hir := true,
                sbm := true, jtag := true, pending := true }
  | .deviceResetEnd .. | .brownoutExit .. => .allBut { clk := true, jtag := true, pending := true, resp := true, freeCtr := true }
  | .warmResetEnd => .allBut { clk := true, sec := true, jtag := true, pending := true, resp := true, freeCtr := true }
  | .softStartHoldEnd .. | .phaseShort .. | .stageFaultTmon .. | .stageFaultInput .. | .overvoltageCrowbar .. | .stageOverTemperature .. =>
      .allBut { active := true, bt := true, tb := true, clk := true, integ := true, fwc := true, dom := true, cap := true, hir := true,
                sec := true, jtag := true, pending := true, resp := true, freeCtr := true }
  | .softStartTimeout .. | .scrubSlot .. | .sfltWindowEnd .. | .overloadShutdown .. =>
      .allBut { active := true, bt := true, clk := true, integ := true, fwc := true, dom := true, cap := true, hir := true, sec := true,
                jtag := true, pending := true, resp := true, freeCtr := true }
  | .brownoutEntry .. =>
      .allBut { active := true, bt := true, tb := true, clk := true, quad := true, integ := true, fwc := true, fab := true, dom := true,
                cap := true, hir := true, jtag := true, pending := true, resp := true }
  | .imageVerifyDone .. => .allBut { clk := true, hir := true, sec := true, jtag := true, pending := true, resp := true, freeCtr := true }
  | .partialImageTick =>
      .allBut { bt := true, clk := true, fwc := true, hir := true, sec := true, jtag := true, pending := true, resp := true, freeCtr := true }
  | .temp .. =>
      .allBut { active := true, bt := true, tb := true, clk := true, quad := true, integ := true, fwc := true, dom := true, hir := true,
                sec := true, jtag := true, pending := true, resp := true, freeCtr := true }
  | .coreLoad .. =>
      .allBut { active := true, bt := true, tb := true, clk := true, dom := true, cap := true, hir := true, sec := true, jtag := true,
                pending := true, freeCtr := true }
  | .mfrReset .. =>
      .allBut { active := true, bt := true, tb := true, clk := true, quad := true, nvs := true, integ := true, fwc := true, cap := true,
                hir := true, jtag := true, pending := true }
  | .coreDbgStep .. | .coreDbgWriteMem .. => .allBut { pending := true }
  | .coreDbgReadMem .. =>
      .allBut { active := true, bt := true, tb := true, clk := true, dom := true, cap := true, hir := true, sec := true, pending := true }
  | .planeResetEnd =>
      .allBut { active := true, clk := true, quad := true, integ := true, sec := true, jtag := true, pending := true, resp := true,
                freeCtr := true }

/-! ## Reserved bits (R19, R20) -/

/-- The implemented bits of the register at an offset; none where no register stands. -/
def regMask (off : Nat) : Nat :=
  match regFind off with
  | some r => r.mask
  | none => 0

/-- No listed word, staged or active, has a reserved bit set. -/
def regsMasked (s : State) : Bool := (s.regs ++ s.active).all (fun p => p.2.toNat &&& regMask p.1 == p.2.toNat)

/-- The bits that a write by an initiator can reach at an offset: the register's implemented bits, and in a virtual function's own Window 0 the
twelve bits of a doorbell (R768). -/
def writeMask (who : Initiator) (off : Nat) : Nat :=
  match who with
  | .host ⟨_ + 1, _⟩ => 0xFFF
  | _ => regMask off

/-! ## What no step undoes -/

/-- Every bit programmed in `a` is programmed in `b`. -/
def bitsKept (a b : Nat) : Bool := a &&& b == a

def ownerKept (a b : OwnerFuse) : Bool :=
  bitsKept a.hash b.hash && bitsKept a.check b.check && (!a.valid || b.valid) && (!a.revoked || b.revoked)

def boundKept (a b : BoundFuse) : Bool := bitsKept a.value b.value && bitsKept a.check b.check && (!a.valid || b.valid)

/-- No fuse programmed in `a` is unprogrammed in `b` (Table 19.7). -/
def fusesKept (a b : FuseSt) : Bool :=
  bitsKept a.rootDisable b.rootDisable && bitsKept a.imgRb b.imgRb && bitsKept a.fwRb b.fwRb && (!a.dbgRootOff || b.dbgRootOff)
    && (!a.dbgOwnerOff || b.dbgOwnerOff) && (List.range 4).all (fun k => ownerKept (tabGet {} a.owner k) (tabGet {} b.owner k))
    && (List.range 18).all (fun i => boundKept (tabGet {} a.bound i) (tabGet {} b.bound i))

end Sys2Proof.Machine
end

