-- ==== Sys2Proof/WellFormed.lean ====
section
/-! DEFINITION. Which commands are well formed: what their operand types leave open and the spec's formats close. -/

namespace Sys2Proof

/-- A frame body of Table 12.6: classes 1 to 3, node IDs of 10 bits, a 16-bit TYPE, a 32-bit EPOCH and OSEQ. A TYPE that R590 rejects or a length
that R586 rejects is a matter of the command's meaning. -/
def frameWf (f : Frame) : Bool :=
  decide (1 ≤ f.cls) && decide (f.cls ≤ 3) && decide (f.scope < 4) && decide (f.dest < 1024) && decide (f.src < 1024) && decide (f.typ < 2 ^ 16)
    && decide (f.epoch < 2 ^ 32) && decide (f.oseq < 2 ^ 32)

/-- A C0 cell of Table 12.4. -/
def cellWf (c : Cell) : Bool := decide (1 ≤ c.ctype) && decide (c.ctype ≤ 4) && decide (c.scope < 4) && decide (c.node < 1024) && decide (c.payload < 2 ^ 36)

/-- The fields of a recorder entry fit their places (Table 18.2). -/
def entryWf (e : Entry) : Bool :=
  decide (e.seq < 2 ^ 64) && decide (e.cls < 256) && decide (e.typ < 256) && decide (e.flags < 256) && decide (e.unit < 2 ^ 16) && decide (e.arg < 2 ^ 16)
    && decide (e.value < 2 ^ 64) && decide (e.value2 < 2 ^ 64)

/-- An item that a crossing loses (Table 17.3). -/
def lostWf : CrossLost → Bool
  | .cell _ c => cellWf c
  | _ => true

/-- The command is well formed. -/
def wellFormed (i : Instr) : Bool :=
  match i with
  | .recordProduce _ e => entryWf e
  | .intDataWord _ _ typ _ => typ.val == 1 || typ.val == 2
  | .frameReceive _ _ _ f => frameWf f
  | .operand _ _ f => frameWf f && f.typ == 0x0202
  | .imageSeg _ _ f => frameWf f && f.typ == 0x0301
  | .recGather _ _ f => frameWf f && f.typ == 0x0302
  | .sync _ xid _ _ => decide (xid < 2 ^ 32)
  | .syncResp _ xid _ => decide (xid < 2 ^ 32)
  | .syncFin _ xid _ => decide (xid < 2 ^ 32)
  | .laneIdentDone _ role node peerLane cpos tag _ => decide (role < 8) && decide (node < 1024) && decide (peerLane < 16) && decide (cpos < 4) && decide (tag < 2 ^ 30)
  | .bulk _ _ _ off total _ _ => decide (off < 2 ^ 32) && decide (total < 2 ^ 32)
  | .alloc _ _ bepoch first seg nseg _ => decide (bepoch < 2 ^ 64) && decide (first < 1024) && decide (seg < nseg)
  | .commitAnn _ _ _ tick basis _ => decide (tick < 2 ^ 64) && decide (basis < 2 ^ 64)
  | .crossingParityError _ item _ => lostWf item
  | .hostWindow2Write _ off io => decide (1 ≤ io.len) && decide (off.toNat + io.len ≤ 2 ^ 20)
  | .secUnlock token => token.length == 320
  | _ => true

end Sys2Proof
end

