-- ==== Sys2Proof/Certificates/Slice0/Obligations.lean ====
section
/-! DEFINITION. The statements for the provers: what the commands of each family do, what they leave alone, and what no step breaks. -/

open Sys2Proof Sys2Proof.Machine

/-- For every command c and every state s whose queue begins with c, a step answers what c answers on s with the rest of the queue. -/
def Obligations.StepRunsFront : Prop :=
  ∀ (c : Instr) (s : State) (rest : List Instr), s.pending = c :: rest → step s = exec c { s with pending := rest }

/-- The model's choice (log entry 2), no rule of the spec: with an empty queue a step is one REFCLK cycle of 10 ns. With power-on reset held nothing
moves. Otherwise the running time base advances by 10 ns + RATE + SLEW in units of 2⁻³² ns, modulo 2⁹⁶, a stopped one keeps its value, and mtime
counts while CLK_FW has a source; with no BMC cap waiting, device state, rails, phases, active copies, images, store and fuses stay as they were. -/
def Obligations.IdleStepIsOneTick : Prop :=
  ∀ (s : State), s.pending = [] → ∃ t, step s = .next t ∧ t.pending = [] ∧ (s.top.porHeld = true → t = s)
    ∧ (s.top.porHeld = false → flag s Reg.SBM_BMC_CAP F.SBM_BMC_CAP_PENDING = false →
      (s.tb.running = false → t.tb = s.tb)
      ∧ (s.tb.running = true → t.tb.c * 2 ^ 32 + t.tb.f
          = (((s.tb.c * 2 ^ 32 + s.tb.f + 10 * 2 ^ 32 : Nat) : Int) + s.tb.rate + s.tb.slew).toNat % 2 ^ 96)
      ∧ t.fwc.mtime = (if fwOn s then (s.fwc.mtime + 1) % 2 ^ 64 else s.fwc.mtime)
      ∧ t.top = s.top ∧ t.ch = s.ch ∧ t.ph = s.ph ∧ t.active = s.active ∧ t.img = s.img ∧ t.nvs = s.nvs ∧ t.sec = s.sec)

/-- After reset the device is in OFF with power-on reset held, its queue is empty, no register word, staged or active, is listed (each reads its reset
value), and the canonical forms hold of the registers and the memories. Values that the spec does not give are the model's (log entry 3). -/
def Obligations.ResetState : Prop :=
  State.reset.top.state = .off ∧ State.reset.top.porHeld = true ∧ State.reset.pending = [] ∧ (∀ off, rd State.reset off = resetOf off)
    ∧ (∀ off, ac State.reset off = resetOf off) ∧ regsWf State.reset = true ∧ memoriesWf State.reset = true ∧ regsMasked State.reset = true
    ∧ State.reset.fwc.mem = [] ∧ State.reset.tb.running = false

/-- Every command of the table runs in every state: it answers a next state, never a fault and never a refusal, and it leaves the queue as it was. -/
def Obligations.EveryCommandAnswers : Prop :=
  ∀ (c : Instr) (s : State), Runs c s (fun t => t.pending = s.pending)

/-- No step unprograms a fuse: every bit and every mark programmed before a step is programmed after it, whatever the command. -/
def Obligations.FusesNeverUnprogram : Prop :=
  ∀ (s t : State), step s = .next t → fusesKept s.sec.fuse t.sec.fuse = true

/-- The register words, staged and active, keep their canonical form: offsets rise strictly and no word equal to its reset value is listed. -/
def Obligations.RegistersStayCanonical : Prop :=
  ∀ (s t : State), regsWf s = true → step s = .next t → regsWf t = true

/-- The memories that the spec gives the device, the firmware SRAM with the ring memory and the TCM of every core, keep their canonical form: addresses
rise strictly and no zero byte is listed. -/
def Obligations.MemoriesStayCanonical : Prop :=
  ∀ (s t : State), memoriesWf s = true → step s = .next t → memoriesWf t = true

/-- Reserved bits stay clear: from a state in which no listed word, staged or active, has a reserved bit set, every step leads to such a state. -/
def Obligations.ReservedBitsStayClear : Prop :=
  ∀ (s t : State), regsWf s = true → regsMasked s = true → step s = .next t → regsMasked t = true

/-- The reserved bits of every stored word read 0: in a state whose listed words have no reserved bit set, a register that is neither computed from its
block nor one of the selectors shows no reserved bit, to any initiator; an offset without a register shows 0. -/
def Obligations.ReservedBitsReadZero : Prop :=
  ∀ (s : State) (who : Initiator) (off : Nat), regsMasked s = true → off ≠ Reg.TOP_ACTIVE_SEL → off ≠ Reg.REC_WIN_SEL →
    liveNat s (classOf s who).winSel off = none → (readWord s who off).toNat &&& regMask off = (readWord s who off).toNat

/-- R19: a write that sets reserved bits does what the same write does with those bits clear, for every initiator, every offset and every value. -/
def Obligations.ReservedWriteBitsIgnored : Prop :=
  ∀ (who : Initiator) (word : BitVec 20) (val : Word) (s : State),
    exec (.registerWrite who word val) s = exec (.registerWrite who word (val &&& BitVec.ofNat 32 (writeMask who (4 * word.toNat)))) s

/-- The frame of every command, for the device state, the staged and active registers' guards and the blocks that hold the configuration: a command that
`writes` does not list for a block leaves that block as it was. -/
def Obligations.FrameOfConfigurationBlocks : Prop :=
  ∀ (c : Instr) (s t : State), exec c s = .next t →
    ((writes c).active = false → t.active = s.active) ∧ ((writes c).top = false → t.top = s.top) ∧ ((writes c).clk = false → t.clk = s.clk)
    ∧ ((writes c).img = false → t.img = s.img) ∧ ((writes c).integ = false → t.integ = s.integ) ∧ ((writes c).bt = false → t.bt = s.bt)
    ∧ ((writes c).dom = false → t.dom = s.dom) ∧ ((writes c).sec = false → t.sec = s.sec) ∧ ((writes c).jtag = false → t.jtag = s.jtag)
    ∧ ((writes c).hir = false → t.hir = s.hir)

/-- The frame of every command, for the blocks that regulate and link: rails, phases, quads, Postlines, queues, the fabric, lanes, estimators, capping
and the time base. A command that `writes` does not list for a block leaves that block as it was. -/
def Obligations.FrameOfPowerAndLinkBlocks : Prop :=
  ∀ (c : Instr) (s t : State), exec c s = .next t →
    ((writes c).ch = false → t.ch = s.ch) ∧ ((writes c).ph = false → t.ph = s.ph) ∧ ((writes c).quad = false → t.quad = s.quad)
    ∧ ((writes c).pb = false → t.pb = s.pb) ∧ ((writes c).fq = false → t.fq = s.fq) ∧ ((writes c).fab = false → t.fab = s.fab)
    ∧ ((writes c).tvl = false → t.tvl = s.tvl) ∧ ((writes c).est = false → t.est = s.est) ∧ ((writes c).cap = false → t.cap = s.cap)
    ∧ ((writes c).tb = false → t.tb = s.tb)

/-- The frame of every command, for the registers, the recorder, the drain counters, the store, the firmware complex with its memories, the sideband and
the answer: a command that `writes` does not list for one leaves it as it was. -/
def Obligations.FrameOfRegistersAndMemories : Prop :=
  ∀ (c : Instr) (s t : State), exec c s = .next t →
    ((writes c).regs = false → t.regs = s.regs ∧ ∀ off, rd t off = rd s off) ∧ ((writes c).drain = false → t.drain = s.drain)
    ∧ ((writes c).recd = false → t.recd = s.recd) ∧ ((writes c).nvs = false → t.nvs = s.nvs)
    ∧ ((writes c).fwc = false → t.fwc = s.fwc ∧ ∀ a, tabGet 0 t.fwc.mem a = tabGet 0 s.fwc.mem a)
    ∧ ((writes c).sbm = false → t.sbm = s.sbm) ∧ ((writes c).resp = false → t.resp = s.resp) ∧ ((writes c).freeCtr = false → t.freeCtr = s.freeCtr)

/-- Rests on R19, R24, R25, R74, Table 0.6. What a register access does to the register it reaches. A HOLD register takes the word, reserved bits left
out, in its staged copy alone. A narrow or unaligned host access answers Unsupported Request and changes no register. A read of the low register of
a wide value captures the high part for the reading class, and that class's next read of the high register gives the captured part. A read of an RC
register returns its value, then clears it. A write of TOP_ACTIVE_SEL changes the writer's own copy. A write of TOP_LOCK sets it. -/
def Obligations.RegisterAccessResults : Prop :=
  (∀ (who : Initiator) (word : BitVec 20) (val : Word) (s : State) (r : RegFamily),
    admits s who (4 * word.toNat) val.toNat = true → regFind (4 * word.toNat) = some r → r.access = .hold →
    Runs (.registerWrite who word val) s (fun t => rd t (4 * word.toNat) = BitVec.ofNat 32 (val.toNat &&& r.mask) ∧ t.active = s.active
      ∧ ∀ off, off ≠ 4 * word.toNat → rd t off = rd s off))
  ∧ (∀ (fn : Fin 64) (off : BitVec 22) (write : Bool) (s : State),
    reachable s (.host fn) = true → fwOn s = true →
    Runs (.hostUnalignedAccess fn off write) s (fun t => t.resp = .unsupported ∧ t.regs = s.regs ∧ t.active = s.active))
  ∧ (∀ (who : Initiator) (word : BitVec 20) (s : State), canRead s who = true → wideLo (4 * word.toNat) = true →
    Runs (.wideLowRead who word) s (fun t => t.resp = .word (readWord s who (4 * word.toNat))
      ∧ tabGet none (classOf t who).captures (4 * word.toNat) = some (readWord s who (4 * word.toNat + 4))))
  ∧ (∀ (who : Initiator) (word : BitVec 20) (v : Word) (s : State), canRead s who = true →
    4 ≤ 4 * word.toNat → wideLo (4 * word.toNat) = false → wideLo (4 * word.toNat - 4) = true →
    tabGet none (classOf s who).captures (4 * word.toNat - 4) = some v →
    Runs (.wideLowRead who word) s (fun t => t.resp = .word v ∧ tabGet none (classOf t who).captures (4 * word.toNat - 4) = none))
  ∧ (∀ (who : Initiator) (word : BitVec 20) (s : State) (r : RegFamily), canRead s who = true → wideLo (4 * word.toNat) = false →
    wideLo (4 * word.toNat - 4) = false → regFind (4 * word.toNat) = some r → r.access = .rc →
    Runs (.rcRead who word) s (fun t => t.resp = .word (readWord s who (4 * word.toNat)) ∧ rd t (4 * word.toNat) = 0
      ∧ ∀ off, off ≠ 4 * word.toNat → rd t off = rd s off))
  ∧ (∀ (who : Initiator) (val : Word) (s : State), admits s who Reg.TOP_ACTIVE_SEL val.toNat = true →
    Runs (.activeSelWrite who val) s (fun t => (classOf t who).activeSel = val.toNat &&& 0x3FFFFC
      ∧ (classOf t who).notHold = !isHold (val.toNat &&& 0x3FFFFC) ∧ (∀ w, classKey w ≠ classKey who → classOf t w = classOf s w) ∧ t.regs = s.regs))
  ∧ (∀ (who : Initiator) (asset : Bool) (s : State), admits s who Reg.TOP_LOCK (b2n asset) = true → flag s Reg.TOP_LOCK F.TOP_LOCK_ASSET = false →
    Runs (.assetLock who asset) s (fun t => flag t Reg.TOP_LOCK F.TOP_LOCK_ASSET = asset ∧ ∀ off, off ≠ Reg.TOP_LOCK → rd t off = rd s off))
  ∧ (∀ (who : Initiator) (word : BitVec 20) (val : Word) (s : State) (r : RegFamily), let off := 4 * word.toNat
    admits s who off val.toNat = true → regFind off = some r → r.access = .rw → wideWritable off = false → 4 ≤ off → wideWritable (off - 4) = true →
    off ≠ Reg.REC_TAIL_HI → off ≠ Reg.REC_SPILL_BASE_HI →
    Runs (.wideHighWrite who word val) s (fun t => rd t off = BitVec.ofNat 32 (val.toNat &&& r.mask)
      ∧ rd t (off - 4) = (tabGet none (classOf s who).pendLow (off - 4)).getD (readWord s who (off - 4))
      ∧ tabGet none (classOf t who).pendLow (off - 4) = none ∧ ∀ o, o ≠ off → o ≠ off - 4 → rd t o = rd s o))

/-- Rests on R55, R914. What the commit port does when it accepts a command. A tick commit that meets no check of R914 joins the pending tick commits
with its snapshot, RESULT reads PENDING and no active copy changes. CANCEL discards the pending tick commits whose groups share a group with the
expanded mask and RESULT reads CANCELLED, with every active copy as it was. A pending tick commit that reaches its tick replaces the active copies
of its groups by its snapshot. Rests on R50, R51, R54. The refusals of a commit request that no group makes busy. An empty mask is refused with
EMPTY, a tick earlier than the time base plus 1 µs with LATE, a tick later than the time base plus 10 s with FAR; no active copy changes and nothing
becomes pending. -/
def Obligations.CommitPortResults : Prop :=
  (
     (∀ (who : Initiator) (s : State), admits s who Reg.TOP_COMMIT_CTL 3 = true → s.integ.stagedUe = [] → s.dom.commits = [] →
       let m := expandMask (framesOf s) (rd64 s Reg.TOP_COMMIT_MASK_LO)
       let v := wr64 { s with resp := .none } Reg.TOP_COMMIT_MASK_LO m
       m ≠ 0 → m &&& pendMask s = 0 → now s + 1000 ≤ rd64 s Reg.TOP_COMMIT_TICK_LO → rd64 s Reg.TOP_COMMIT_TICK_LO ≤ now s + 10000000000 →
       firstFail v (framesOf s) (commitView v m (commitSnap v m)) m = none →
       Runs (.commitRequest who true 0 []) s (fun t =>
         t.top.commits = s.top.commits ++ [{ mask := m, tick := rd64 s Reg.TOP_COMMIT_TICK_LO, snap := commitSnap v m }]
         ∧ fld t Reg.TOP_COMMIT_STATUS F.TOP_COMMIT_STATUS_RESULT = 1 ∧ t.active = s.active))
     ∧ (∀ (who : Initiator) (s : State), admits s who Reg.TOP_COMMIT_CTL 4 = true → s.img.phase ≠ .pending →
       let m := expandMask (framesOf s) (rd64 s Reg.TOP_COMMIT_MASK_LO)
       s.top.commits.filter (fun c => c.mask &&& m != 0) ≠ [] →
       Runs (.commitCancel who) s (fun t => t.top.commits = s.top.commits.filter (fun c => !(c.mask &&& m != 0))
         ∧ fld t Reg.TOP_COMMIT_STATUS F.TOP_COMMIT_STATUS_RESULT = 8 ∧ t.active = s.active))
     ∧ (∀ (s : State) (c : PendCommit), s.top.commits = [c] → s.img.phase ≠ .pending →
       Runs .tickCommit s (fun t => t.active = commitActive (reach s c.tick) c.mask c.snap)))
  ∧ (
     ∀ (who : Initiator) (s : State), admits s who Reg.TOP_COMMIT_CTL 3 = true → s.top.commits = [] → s.img.phase ≠ .pending → s.dom.commits = [] →
       let m := expandMask (framesOf s) (rd64 s Reg.TOP_COMMIT_MASK_LO)
       Runs (.commitRequest who true 0 []) s (fun t =>
         (m = 0 → fld t Reg.TOP_COMMIT_STATUS F.TOP_COMMIT_STATUS_RESULT = 9 ∧ t.active = s.active ∧ t.top.commits = [])
         ∧ (m ≠ 0 → rd64 s Reg.TOP_COMMIT_TICK_LO < now s + 1000 →
             fld t Reg.TOP_COMMIT_STATUS F.TOP_COMMIT_STATUS_RESULT = 3 ∧ t.active = s.active ∧ t.top.commits = [])
         ∧ (m ≠ 0 → now s + 10000000000 < rd64 s Reg.TOP_COMMIT_TICK_LO →
             fld t Reg.TOP_COMMIT_STATUS F.TOP_COMMIT_STATUS_RESULT = 4 ∧ t.active = s.active ∧ t.top.commits = [])))

/-- Rests on R47. When a commit takes effect, the active copy of every HOLD register of its groups becomes its staged value at the request, all in one
step, and every other active copy stays. R655 leaves the group ceiling of a partition with a LOCK_GROUP out. -/
def Obligations.ImmediateCommitSwitchesActiveCopies : Prop :=
  ∀ (who : Initiator) (s : State), admits s who Reg.TOP_COMMIT_CTL 1 = true → regsWf s = true → s.integ.stagedUe = [] → s.dom.commits = [] →
    let m := expandMask (framesOf s) (rd64 s Reg.TOP_COMMIT_MASK_LO)
    let v := wr64 { s with resp := .none } Reg.TOP_COMMIT_MASK_LO m
    m ≠ 0 → m &&& pendMask s = 0 → firstFail v (framesOf s) (commitView v m (commitSnap v m)) m = none →
    Runs (.commitRequest who false 0 []) s (fun t => ∀ off,
      ac t off = if inMask (framesOf s) m off && !ceilLocked s off then rd s off else ac s off)

/-- Rests on R62–R65, R78. The budget table. The commits and the partial image due by the tick act first. A tick whose pending bank is sealed, carries
the epoch and checks swaps the banks; any other keeps the active bank and counts a stale epoch; in both cases the pending bank is then cleared and,
in no domain, prepared for the next epoch with DOMAIN_COMPLETE. Eight stale epochs put the floors in force. Sealing needs both flags and leaves a
CHECK over the sealed bank. Rests on R643, R646–R652. The budget epoch of a node. A node's demand is P_other plus P × req ÷ N_cur of its partitions,
rounded up and held to 1–65,535, and its contribution opens the demand reduction; ALLOC_GO completes the master's own bank; a member takes a segment
of the epoch being filled from its present master, completes with the last, and discards others; the split writes floors and ballast and seals the
local section; a comparison leaves the active bank's node entries equal to the retained segments. -/
def Obligations.BudgetEpochResults : Prop :=
  (
     (∀ (s : State), s.img.applied = true → s.tb.running = true →
       let e := max (s.bt.last + 1) (now s / 1000000)
       let v := commitsDue (s.top.commits.length + 1) (e * 1000000) s
       Runs .budgetEpochTick s (fun t => t.bt.last = e
         ∧ (btValid v e = true → v.img.domStale = false → t.bt.active1 = !v.bt.active1 ∧ t.bt.stale = 0 ∧ t.bt.floors = false ∧ actBt t = pendBt v)
         ∧ (btValid v e = false → t.bt.active1 = v.bt.active1 ∧ t.bt.stale = min (v.bt.stale + 1) 255 ∧ t.bt.floors = v.bt.floors ∧ actBt t = actBt v)
         ∧ (inDomain v = true → pendBt t = []) ∧ (inDomain v = false → pendBt t = btFlagSet (btHeader [] (e + 1) 0 0xFFFF) 1)))
     ∧ (∀ (s : State), 8 ≤ s.bt.stale → Runs .staleEpochFloors s (fun t => t.bt.floors = true ∧ t = { s with bt := t.bt }))
     ∧ (∀ (who : Initiator) (s : State), admits s who Reg.DOM_BT_SEAL 1 = true → s.img.applied = true → btSealed (pendBt s) = false →
       Runs (.localSealed who) s (fun t => btLocal (pendBt t) = true ∧ btSealed (pendBt t) = btComplete (pendBt s)
         ∧ (btComplete (pendBt s) = true → bw (pendBt t) 15 = btCheck (pendBt t)) ∧ actBt t = actBt s)))
  ∧ (
     (∀ s : State,
       let x : ℚ := s.cap.pOther + ((parts s).map (fun p => ((fld s (Reg.CAP_PWR p) F.CAP_PWR_P * capReq s p : Nat) : ℚ) / ((max (curN s p) 1 : Nat) : ℚ))).sum
       (nodeDemand s : Int) = max 1 (min ⌈x⌉ 65535))
     ∧ (∀ s : State, takesPart s = true → s.tvl.red = [] → s.tvl.redDone = [] → belowUp s ≠ [] → 0 < domNodesF (framesOf s) → domNodesF (framesOf s) ≤ 512 → ownNode s < 512 →
       let d := if s.dom.role = .joining then 0 else nodeDemand s
       Runs .demandReductionStart s (fun t => ∃ r : RedSt, t.tvl.red = [r] ∧ r.rid = nextEpoch s % 2 ^ 24 * 256 + 0x10 ∧ r.op = 0 ∧ r.contrib = 1
         ∧ r.elems.length = 128 ∧ r.elems.getD (ownNode s / 4) 0 = sext 64 (d * 2 ^ (16 * (ownNode s % 4)))
         ∧ ∀ k, k < 128 → k ≠ ownNode s / 4 → r.elems.getD k 0 = 0))
     ∧ (∀ s : State, domRoleNow s = .master → btSealed (pendBt s) = false →
       Runs .allocGo s (fun t => btComplete (pendBt t) = true ∧ nextEpoch s ∈ t.dom.goEpochs ∧ t.bt.active1 = s.bt.active1 ∧ actBt t = actBt s)
       ∧ Runs .allocationCompute s (fun t => btComplete (pendBt t) = true ∧ nextEpoch s ∈ t.dom.goEpochs ∧ t.dom.tripped = [] ∧ actBt t = actBt s))
     ∧ (∀ s : State, domRoleNow s ≠ .master → Runs .allocGo s (fun t => t = s))
     ∧ (∀ (src : Fin 1024) (epoch : Fin (2 ^ 32)) (bepoch first seg nseg : Nat) (entries : List (BitVec 64)) (s : State),
       s.dom.role ≠ .none_ → s.dom.role ≠ .master → s.dom.mepoch = epoch.val →
       Runs (.alloc src epoch bepoch first seg nseg entries) s (fun t => t.bt.active1 = s.bt.active1 ∧ actBt t = actBt s
         ∧ (s.dom.master ≠ src.val → t.bt = s.bt ∧ flag t Reg.DOM_EVENT F.DOM_EVENT_STALE_SRC = true)
         ∧ (s.dom.master = src.val → bepoch ≠ nextEpoch s → t.bt = s.bt)
         ∧ (s.dom.master = src.val → bepoch = nextEpoch s → btSealed (pendBt s) = false → seg ∉ (segsOf s false).got →
             ((segsOf s false).got.length + 1 < nseg → ∀ i, i < entries.length → first + i < 1024 → btNode (pendBt t) (first + i) =
                 if bitOf (entries.getD i 0).toNat 63 then (entries.getD i 0).toNat else 0)
             ∧ (nseg ≤ (segsOf s false).got.length + 1 → btComplete (pendBt t) = true))))
     ∧ (∀ s : State, s.img.applied = true → fwOn s = true → btSealed (pendBt s) = false → btComplete (pendBt s) = true →
       Runs .localAllocationSplit s (fun t => btLocal (pendBt t) = true ∧ btSealed (pendBt t) = true ∧ actBt t = actBt s
         ∧ ∀ p ∈ parts s, bw (pendBt t) (0x810 + 4 * p) / 2 ^ 16 = aF s (Reg.DOM_PFLOOR p) F.DOM_PFLOOR_FLOOR
             ∧ (inDomain s = true → bw (pendBt t) (0x812 + 4 * p) = btNode (pendBt s) (ownNode s) / 2 ^ 48 % 2 ^ 8)))
     ∧ (∀ (flips : List (Fin 2192 × Word)) (s : State), inDomain s = true → s.img.applied = true → (segsOf s true).nseg ≠ 0 →
       (∀ n, n < 1024 → tabGet 0 (segsOf s true).entry n < 2 ^ 64) →
       Runs (.budgetCompare flips false) s (fun t => t.dom.differs = false ∧ ∀ n, n < 1024 → btNode (actBt t) n = tabGet 0 (segsOf s true).entry n)))

/-- Rests on R68–R71. A record joins its plane's staging queue, or is dropped and counted where the queue is full; the arbiter takes the oldest entry of
the next non-empty queue in rotation, gives it the next sequence number and its slot of the ring; a queue that dropped records and has room gets the
loss record. Rests on R808, R825, R830, R831, R833, R837, R840, R841. What commands do to the recorder, the crossings and the sinks. A Postmark
takes the next sequence number and slot; a put joins the staging queue of its writer's tag, or is refused by class; REC_TAIL is kept between
REC_HEAD − 16,384 and REC_HEAD; the spill writes entries into the host window, and an abandoned write passes over them; a parity failure is counted,
and its item lost: at once in a queue, after the third failure of a handshake; the drain bit of a sink ends 1 ms after its last take. -/
def Obligations.RecorderResults : Prop :=
  (
     (∀ (p : Plane) (e : Entry) (s : State), (stageQ s p).length < 16 → stageDrop s p = 0 → entryWf e = true →
       Runs (.recordProduce p e) s (fun t => (∃ x, stageQ t p = stageQ s p ++ [x] ∧ x.cls = e.cls ∧ x.typ = e.typ ∧ x.unit = e.unit ∧ x.arg = e.arg ∧ x.value = e.value
         ∧ x.value2 = e.value2 ∧ x.flags % 4 = planeNo p) ∧ t.regs = s.regs ∧ ∀ q, q ≠ p → stageQ t q = stageQ s q))
     ∧ (∀ (p : Plane) (e : Entry) (s : State), 16 ≤ (stageQ s p).length →
       Runs (.recordProduce p e) s (fun t => stageQ t p = stageQ s p ∧ stageDrop t p = stageDrop s p + 1
         ∧ fld t (Reg.REC_ARB_DROP (planeNo p)) wordF = min (fld s (Reg.REC_ARB_DROP (planeNo p)) wordF + 1) 0xFFFFFFFF))
     ∧ (∀ (s : State) (q : Nat) (e : Entry) (es : List Entry), fwOn s = true → markDue s = false → s.recd.marks = [] → s.recd.stopLoss = 0 →
       nextQueue s = some q → stageQ s (planeOfNo q) = e :: es → stageDrop s (planeOfNo q) = 0 → ringRoom s e = true →
       Runs .arbiterGrant s (fun t => t.recd.head = s.recd.head + 1 ∧ t.recd.last = q ∧ stageQ t (planeOfNo q) = es
         ∧ tabGet {} t.recd.ring (s.recd.head % 16384) = { e with seq := s.recd.head }))
     ∧ (∀ (p : Plane) (s : State), 0 < stageDrop s p → (stageQ s p).length < 16 →
       Runs (.lossRecord p) s (fun t => stageDrop t p = 0 ∧ flag t Reg.REC_EVENT F.REC_EVENT_LOSS = true
         ∧ ∃ x, stageQ t p = stageQ s p ++ [x] ∧ x.cls = 1 ∧ x.typ = 2 ∧ x.value = stageDrop s p)))
  ∧ (
     (∀ s : State, fwOn s = true → s.tb.running = true → s.recd.marks = [] → s.recd.stopLoss = 0 → stopMode s = false →
       let T := max (now s) ((s.recd.lastMs + 1) * 1000000)
       Runs .postmark s (fun t => t.recd.head = s.recd.head + 1 ∧ now t = T ∧ t.recd.lastMs = T / 1000000
         ∧ ∃ e : Entry, tabGet {} t.recd.ring (s.recd.head % 16384) = e ∧ e.seq = s.recd.head ∧ e.cls = 1 ∧ e.typ = 1 ∧ e.flags = 3 ∧ e.unit = 1 ∧ e.value = T
             ∧ e.value2 = s.dom.mepoch + s.bt.last % 2 ^ 32 * 2 ^ 32))
     ∧ (∀ (who : Initiator) (val : Word) (s : State), admits s who Reg.REC_CMD val.toNat = true →
       Runs (.recPostmarkCmd who val) s (fun t => (val.toNat % 2 = 1 → ∃ e : Entry, t.recd.marks = s.recd.marks ++ [e] ∧ e.cls = 1 ∧ e.typ = 1 ∧ e.unit = 5)
         ∧ (val.toNat % 2 = 0 → t.recd = s.recd)))
     ∧ (∀ (who : Initiator) (m : Fin 10) (val : Word) (s : State), admits s who (Reg.REC_PUT_GO m.val) val.toNat = true → val.toNat % 2 = 1 →
       let h := putWord s m.val 0
       let p := planeOfTag (planeTag s who)
       Runs (.recPutGo who m val) s (fun t =>
         (h % 256 < 0x80 ∨ h % 256 = 0xFF → flag t Reg.REC_EVENT F.REC_EVENT_PUT_REFUSED = true ∧ t.recd = s.recd)
         ∧ (0x80 ≤ h % 256 → h % 256 ≠ 0xFF → stageDrop s p = 0 → (stageQ s p).length < 16 → ∃ e : Entry, stageQ t p = stageQ s p ++ [e] ∧ e.cls = h % 256
             ∧ e.typ = h / 256 % 256 ∧ e.unit = h / 65536 ∧ e.arg = putWord s m.val 4 % 65536 ∧ e.value = putWord s m.val 8 + putWord s m.val 0xC * 2 ^ 32
             ∧ e.value2 = putWord s m.val 0x10 + putWord s m.val 0x14 * 2 ^ 32 ∧ e.flags % 4 = planeNo p ∧ e.flags / 4 % 8 = putWord s m.val 4 / 65536 % 8)
         ∧ (0x80 ≤ h % 256 → h % 256 ≠ 0xFF → 16 ≤ (stageQ s p).length → stageQ t p = stageQ s p ∧ stageDrop t p = stageDrop s p + 1)))
     ∧ (∀ (who : Initiator) (val : BitVec 64) (s : State), admits s who Reg.REC_TAIL_LO (val.toNat % 2 ^ 32) = true →
       Runs (.recTailWrite who val) s (fun t => t.recd.tail = min s.recd.head (max val.toNat (s.recd.head - 16384)) ∧ t.recd.head = s.recd.head))
     ∧ (∀ (n : Nat) (abandoned : Bool) (s : State), spillOn s = true → 0 < spillSlots s → s.recd.head ≤ s.recd.spillNext + 16384 →
       let k := min n (s.recd.head - s.recd.spillNext)
       Runs (.spillWrite n true abandoned none) s (fun t => t.recd.spillNext = s.recd.spillNext + k
         ∧ (abandoned = false → k ≤ spillSlots s → ∀ i, i < k → tabGet {} t.recd.hostWin ((s.recd.spillNext + i) % spillSlots s) = tabGet {} s.recd.ring ((s.recd.spillNext + i) % 16384))
         ∧ (abandoned = true → t.recd.hostWin = s.recd.hostWin
             ∧ fld t Reg.REC_SPILL_CNT F.REC_SPILL_CNT_ABANDONED = min (fld s Reg.REC_SPILL_CNT F.REC_SPILL_CNT_ABANDONED + k) 65535)))
     ∧ (∀ (n : Nat) (s : State), spillOn s = true → let k := min n (s.recd.head - s.recd.spillNext)
       Runs (.dmaWriteAbandon none n) s (fun t => t.recd.spillNext = s.recd.spillNext + k ∧ t.recd.hostWin = s.recd.hostWin
         ∧ (0 < k → flag t Reg.REC_EVENT F.REC_EVENT_SPILL_ABANDON = true)))
     ∧ (∀ (unit : Byte) (plane : Plane) (more : Fin 3) (off : BitVec 22) (s : State),
       let counted (n : Nat) (t : State) : Prop := flag t Reg.TOP_INTEG_EVENT F.TOP_INTEG_EVENT_PARITY = true ∧ fld t Reg.TOP_INTEG_CNT F.TOP_INTEG_CNT_PARITY = min (fld s Reg.TOP_INTEG_CNT F.TOP_INTEG_CNT_PARITY + n) 65535
       Runs (.crossingParityError unit .timeRead more) s (fun t => counted (more.val + 1) t ∧ rd t Reg.TOP_COMMIT_STATUS = rd s Reg.TOP_COMMIT_STATUS)
       ∧ Runs (.crossingParityError unit (.commitStaging off) more) s (fun t => counted (more.val + 1) t
           ∧ (more.val = 2 → fld t Reg.TOP_COMMIT_STATUS F.TOP_COMMIT_STATUS_RESULT = 6 ∧ rd t Reg.TOP_COMMIT_FAIL_ADDR = BitVec.ofNat 32 off.toNat)
           ∧ (more.val ≠ 2 → rd t Reg.TOP_COMMIT_STATUS = rd s Reg.TOP_COMMIT_STATUS ∧ rd t Reg.TOP_COMMIT_FAIL_ADDR = rd s Reg.TOP_COMMIT_FAIL_ADDR))
       ∧ Runs (.crossingParityError unit .hostWrite more) s (fun t => counted 1 t ∧ t.top.aerUncorr = s.top.aerUncorr + 1)
       ∧ (plane ≠ .mgmt → Runs (.crossingParityError unit (.recorder plane) more) s (fun t => counted 1 t ∧ stageDrop t plane = stageDrop s plane + 1
           ∧ fld t (Reg.REC_ARB_DROP (planeNo plane)) wordF = min (fld s (Reg.REC_ARB_DROP (planeNo plane)) wordF + 1) (2 ^ 32 - 1))))
     ∧ (∀ (rank : Fin 9) (k : Nat) (s : State), tabGet 0 s.drain rank.val = k + 1 →
       Runs (.drainStatusExpiry rank) s (fun t => tabGet 0 t.drain rank.val = 0 ∧ fld t Reg.TOP_DRAIN_STATUS ⟨rank.val, 1⟩ = 0
         ∧ ∀ r, r < 9 → r ≠ rank.val → fld t Reg.TOP_DRAIN_STATUS ⟨r, 1⟩ = fld s Reg.TOP_DRAIN_STATUS ⟨r, 1⟩)))

/-- Rests on R87, R89, R90. Errors of the active copies. A single-bit error is corrected and counted, and no copy changes. A double-bit error of a
partition group holds that partition at its floor; one of groups 40 to 45, with no rail running and no reset in progress, enters HALT. Rests on
R227–R233, R241. The scrubber. It visits the slots in turn. Two copies that agree leave both banks alone; a copy that differs in dead bits alone is
corrected and counted as benign with no change of device state; where neither copy matches the digest table, or the table shows a double-bit error,
the applied image is discarded, the scrubber stops and H_ACTIVE_UE is recorded. -/
def Obligations.CopyErrorAndScrubberResults : Prop :=
  (
     (∀ (off : Nat) (s : State), (groupAt (framesOf s) off).isSome = true →
       Runs (.activeCopySbe off) s (fun t => t.integ.sbe = s.integ.sbe + 1 ∧ t.active = s.active ∧ t.regs = s.regs))
     ∧ (∀ (off g : Nat) (s : State), groupAt (framesOf s) off = some g → 8 ≤ g → g < 40 →
       Runs (.activeCopyDbe off) s (fun t => g - 8 ∈ t.top.ueParts ∧ off ∈ t.integ.activeUe ∧ t.top.state = s.top.state ∧ t.active = s.active))
     ∧ (∀ (off g : Nat) (s : State), groupAt (framesOf s) off = some g → 40 ≤ g → s.top.rst = none →
       (s.top.state = .loaded ∨ s.top.state = .ramp ∨ s.top.state = .run) →
       Runs (.activeCopyDbe off) s (fun t => t.top.state = .halt ∧ t.top.hActiveUe = true ∧ off ∈ t.integ.activeUe)))
  ∧ (
     (∀ (up us : List (Fin 272 × Byte)) (s : State), scrubs s = true → s.img.phase = .idle →
       let id := s.img.slot
       let e := tabGet {} s.img.digest id
       let a := upsetBytes (slotBytes id (slotOf (actBank s) id)) up
       let b := upsetBytes (slotBytes id (slotOf (if s.img.active1 then s.img.bank0 else s.img.bank1) id)) us
       Runs (.scrubSlot up us) s (fun t =>
         t.img.slot = (id + 1) % 248
         ∧ (e.dbe = false → a = b → t.img.bank0 = s.img.bank0 ∧ t.img.bank1 = s.img.bank1 ∧ t.img.applied = true ∧ t.regs = s.regs)
         ∧ (a ≠ b → (copyMatch e a).isSome = true → (copyMatch e b) = none → deadOnly e a b = true →
             fld t Reg.TOP_CFG_BENIGN_CNT F.TOP_CFG_BENIGN_CNT_COUNT
               = min (fld s Reg.TOP_CFG_BENIGN_CNT F.TOP_CFG_BENIGN_CNT_COUNT + 1) (2 ^ F.TOP_CFG_BENIGN_CNT_COUNT.len - 1)
             ∧ flag t Reg.TOP_CFG_EVENT F.TOP_CFG_EVENT_BENIGN = true ∧ t.top.state = s.top.state ∧ actBank t = actBank s)
         ∧ (a ≠ b → copyMatch e a = none → copyMatch e b = none →
             t.img.applied = false ∧ t.img.scrubOn = false ∧ t.top.hActiveUe = true ∧ t.img.bank0 = s.img.bank0 ∧ t.img.bank1 = s.img.bank1)))
     ∧ (∀ (slot : Fin 248) (s : State), s.img.applied = true →
       Runs (.frameDigestDbe slot) s (fun t => t.img.applied = false ∧ t.img.scrubOn = false ∧ t.top.hActiveUe = true
         ∧ flag t Reg.TOP_CFG_EVENT F.TOP_CFG_EVENT_UNCORRECTABLE = true
         ∧ (s.top.rst = none → s.top.state = .loaded ∨ s.top.state = .ramp ∨ s.top.state = .run → t.top.state = .halt))))

/-- Rests on R110, R112, Table 2.4. Captures and the pulse output. An event of a source stamps every unit that selects it and holds no stamp; a unit
that holds one keeps it and sets OVERRUN. TBPPS_OUT pulses at the next multiple of its period for WIDTH × 10 ns. Rests on R113–R117, R138. The
alignment servo. A valid exchange updates the offset, or is discarded as an outlier and leaves RATE, SLEW and the offset as they were. Four missed
intervals lead to HOLDOVER with SLEW 0 and RATE held; the holdover limit and RATE at its limit for 16 exchanges clear ALIGNED. Rests on R132–R137,
R964, R965. What the loss and the return of a clock do. Loss of REFCLK stops the count and loss of PLL_CTL's lock does not; both are HALT causes,
and in LOADED, RAMP or RUN with no reset in progress the device enters HALT. A count that stopped resumes from its value with DISCONT. The firmware
clock moves to its backup, or has no source where REFCLK is absent too. -/
def Obligations.TimeBaseAndClockResults : Prop :=
  (
     (∀ (src : Fin 32) (falling : Bool) (ns : Fin 10) (inStep : Bool) (s : State) (n : Fin 16), 1 ≤ src.val → src.val ≤ 16 →
       aF s (Reg.TB_CAP_SRC n.val) F.TB_CAP_SRC_SOURCE = src.val →
       (src.val ≤ 10 ∨ src.val = 16 → aOn s (Reg.TB_CAP_SRC n.val) F.TB_CAP_SRC_EDGE = falling) →
       Runs (.captureEvent src falling ns inStep) s (fun t =>
         bitOf (rd t Reg.TB_CAP_VALID).toNat n.val = true
         ∧ (bitOf (rd s Reg.TB_CAP_VALID).toNat n.val = false →
             (rd t (Reg.TB_CAP_LO n.val)).toNat = (now s + ns.val) % 2 ^ 32 ∧ (rd t (Reg.TB_CAP_HI n.val)).toNat = (now s + ns.val) / 2 ^ 32 % 2 ^ 32)
         ∧ (bitOf (rd s Reg.TB_CAP_VALID).toNat n.val = true →
             rd t (Reg.TB_CAP_LO n.val) = rd s (Reg.TB_CAP_LO n.val) ∧ rd t (Reg.TB_CAP_HI n.val) = rd s (Reg.TB_CAP_HI n.val)
             ∧ flag t Reg.TB_CAP_FLAGS ⟨n.val, 1⟩ = true)))
     ∧ (∀ (s : State), aOn s Reg.TB_PPS_CFG F.TB_PPS_CFG_EN = true → s.tb.running = true →
       Runs .ppsPulse s (fun t => t.tb.ppsAt % ppsPeriod s = 0 ∧ s.tb.ppsAt < t.tb.ppsAt
         ∧ t.tb.ppsUntil = t.tb.ppsAt + 10 * aF s Reg.TB_PPS_CFG F.TB_PPS_CFG_WIDTH)))
  ∧ (
     (∀ (lane : LaneIx) (xid t4 t3 : Nat) (x : Xch) (s : State), s.tb.xch = some x → upLane s = some lane.val → x.xid = xid % 2 ^ 32 → x.t3 = some t3 →
       stampNow s ≤ x.t2 + 1600000 → (s.tb.servo = .acquire ∨ s.tb.servo = .locked ∨ s.tb.servo = .holdover) →
       let up : Int := (x.t2 : Int) - x.t1
       let dn : Int := (t4 : Int) - t3
       let d := ((up + dn) / 2).toNat
       Runs (.syncFin lane xid t4) s (fun t => t.tb.xch = none
         ∧ (s.tb.delay = 0 ∨ d ≤ 2 * s.tb.delay + 160 → t.tb.theta = (up - dn) / 2 - tbAsym s lane.val)
         ∧ (s.tb.delay ≠ 0 → 2 * s.tb.delay + 160 < d → t.tb.theta = s.tb.theta ∧ t.tb.rate = s.tb.rate ∧ t.tb.slew = s.tb.slew
             ∧ flag t Reg.TB_EVENT F.TB_EVENT_OUTLIER = true)))
     ∧ (∀ (s : State), s.tb.servo = .locked ∨ s.tb.servo = .acquire →
       Runs .holdoverEntry s (fun t => t.tb.servo = .holdover ∧ t.tb.slew = 0 ∧ t.tb.rate = s.tb.rate ∧ t.tb.aligned = !s.tb.rateLimited
         ∧ flag t Reg.TB_EVENT F.TB_EVENT_HOLDOVER = true))
     ∧ (∀ (s : State), s.tb.servo = .holdover →
       Runs .holdoverLimit s (fun t => t.tb.servo = .holdover ∧ t.tb.aligned = false
         ∧ (s.tb.aligned = true → flag t Reg.TB_EVENT F.TB_EVENT_LOST_ALIGN = true)))
     ∧ (∀ (s : State), 16 ≤ s.tb.limitRun → s.tb.rateLimited = false →
       Runs .rateLimit s (fun t => t.tb.aligned = false ∧ t.tb.rateLimited = true ∧ flag t Reg.TB_EVENT F.TB_EVENT_RATE_LIMIT = true)))
  ∧ (
     (∀ (s : State), s.top.porHeld = false → s.tb.running = true →
       Runs .refclkLoss s (fun t => t.tb.running = false ∧ t.tb.c = s.tb.c ∧ t.top.hClock = true
         ∧ (s.top.rst = none → s.top.state = .loaded ∨ s.top.state = .ramp ∨ s.top.state = .run → t.top.state = .halt)
         ∧ (s.clk.fw = .backup → t.clk.fw = .none) ∧ (s.clk.fw ≠ .backup → t.clk.fw = s.clk.fw)))
     ∧ (∀ (s : State), s.top.porHeld = false →
       Runs .pllCtlUnlock s (fun t => t.tb.running = s.tb.running ∧ t.top.hClock = true
         ∧ (s.top.rst = none → s.top.state = .loaded ∨ s.top.state = .ramp ∨ s.top.state = .run → t.top.state = .halt)))
     ∧ (∀ (s : State), s.top.porHeld = false → s.tb.running = false → s.tb.c ≠ 0 → s.img.phase ≠ .pending →
       Runs .refclkResume s (fun t => t.tb.running = true ∧ t.tb.c = s.tb.c ∧ t.tb.f = s.tb.f ∧ t.tb.discont = true
         ∧ (∀ c ∈ t.top.commits, c.mask &&& allGroups = 0)
         ∧ (s.tb.servo = .locked ∨ s.tb.servo = .acquire ∨ s.tb.servo = .holdover → t.tb.servo = .acquire)
         ∧ (s.tb.servo = .free ∨ s.tb.servo = .master → t.tb.servo = s.tb.servo ∧ t.tb.rate = s.tb.rate)))
     ∧ (∀ (s : State), s.tb.running = true → Runs .refclkOkRestored s (fun t => flag t Reg.CLK_STATUS F.CLK_STATUS_REFCLK_OK = true))
     ∧ (∀ (s : State), flag s Reg.CLK_STATUS F.CLK_STATUS_REFCLK_OK = true →
       Runs .pllCtlRelock s (fun t => flag t Reg.CLK_STATUS F.CLK_STATUS_PLL_CTL_LOCK = true))
     ∧ (∀ (what : FwClockFault) (s : State), s.top.porHeld = false → s.clk.fw = .pll →
       Runs (.xtalFail what) s (fun t => (s.tb.running = true → t.clk.fw = .backup ∧ flag t Reg.CLK_STATUS F.CLK_STATUS_FW_ON_BACKUP = true)
         ∧ (s.tb.running = false → t.clk.fw = .none)
         ∧ flag t Reg.CLK_FAULT (match what with | .xtal => F.CLK_FAULT_XTAL_LOSS | .pllFw => F.CLK_FAULT_PLL_FW_UNLOCK) = true))
     ∧ (∀ (pll : Bool) (s : State), s.clk.fw = .none → pll = true ∨ s.tb.running = true →
       Runs (.clkFwSourceRestored pll) s (fun t => t.clk.fw = (if pll then .pll else .backup)
         ∧ flag t Reg.CLK_STATUS F.CLK_STATUS_FW_ON_BACKUP = !pll))
     ∧ (∀ (who : Initiator) (s : State), admits s who Reg.CLK_FW_RETURN 1 = true → s.clk.fw = .backup →
       Runs (.clkFwReturn who true) s (fun t => t.clk.fw = .pll ∧ flag t Reg.CLK_STATUS F.CLK_STATUS_FW_ON_BACKUP = false))
     ∧ (∀ (khz : Nat) (s : State), s.top.porHeld = false → khz < 80000 ∨ 120000 < khz → s.top.rst = none →
       s.top.state = .loaded ∨ s.top.state = .ramp ∨ s.top.state = .run →
       Runs (.aonFault khz) s (fun t => t.top.state = .halt ∧ t.top.hAon = true))
     ∧ (∀ (s : State), s.top.porHeld = false →
       Runs .pcieRefclkLoss s (fun t => flag t Reg.CLK_FAULT F.CLK_FAULT_PCIE_REFCLK_LOSS = true ∧ flag t Reg.CLK_STATUS F.CLK_STATUS_PCIE_REFCLK_OK = false
         ∧ t.top.state = s.top.state ∧ t.active = s.active ∧ t.ph = s.ph ∧ t.ch = s.ch)))

/-- Rests on R38, R139, R144–R148, R151, R152, R171. Power-on reset and the way to DECAF. Its assertion takes the device to OFF, keeps fuses, and clears
the count and the recorder; the phases a latched crowbar holds stay LOW where VAUX feeds the pads. Its release samples the straps and starts the
count from 0. The end of the sequence enters DECAF and begins the store's scan. From the release until an image is applied a sense pair above the
strap ceiling crowbars all 64 phases; in DECAF it enters HALT. Rests on R164, R165, R168, R209. Start and stop. A start whose checks pass reads
RAMPING and waits for its first stage's delay; a check that fails gives its own result and changes no channel. When the delay has passed the stage's
enabled rails begin soft start and the device is in RAMP. A stop discharges the running rails, and where none runs it ends at once in LOADED. -/
def Obligations.PowerOnAndStartResults : Prop :=
  (
     (∀ (ovc cpos : Fin 4) (smba : Fin 8) (test refclk : Bool) (s : State), s.top.porHeld = true →
       Runs (.porRelease ovc cpos smba test refclk) s (fun t => t.top.porHeld = false ∧ t.tb.c = 0 ∧ t.tb.f = 0 ∧ t.tb.running = refclk
         ∧ fld t Reg.TOP_STRAP F.TOP_STRAP_OVC = ovc.val ∧ fld t Reg.TOP_STRAP F.TOP_STRAP_CPOS = cpos.val ∧ fld t Reg.TOP_STRAP F.TOP_STRAP_SMBA = smba.val
         ∧ flag t Reg.TOP_STRAP F.TOP_STRAP_TEST = test ∧ t.top.state = s.top.state))
     ∧ (∀ (s : State), Runs .porstAssert s (fun t => t.top.porHeld = true ∧ t.top.state = .off ∧ t.tb.c = 0 ∧ t.sec.fuse = s.sec.fuse ∧ t.recd.ring = []
         ∧ t.img.applied = false ∧ rd t Reg.TOP_RST_CAUSE = rd s Reg.TOP_RST_CAUSE))
     ∧ (∀ (which : RunSupply) (s : State), s.top.porHeld = false → tabWf {} s.ph = true →
       Runs (.runSupplyLoss which) s (fun t => t.top.state = .off ∧ t.top.porHeld = true ∧ flag t Reg.TOP_RST_CAUSE F.TOP_RST_CAUSE_RUNSUP = true
         ∧ (∀ p, (phOf s p).crowbar = true → (phOf t p).level = .low) ∧ (∀ p, (phOf s p).crowbar = false → (phOf t p).level = .hiz)))
     ∧ (∀ (s : State), Runs .vauxHoldLoss s (fun t => t.top.state = .off ∧ t.top.porHeld = true ∧ t.top.padsHiz = true ∧ t.ph = []
         ∧ flag t Reg.TOP_RST_CAUSE F.TOP_RST_CAUSE_VAUX_POR = true ∧ t.sec.fuse = s.sec.fuse))
     ∧ (∀ (secOk idOk : Bool) (s : State), s.top.state = .off → s.top.porHeld = false → rd s Reg.PROT_THERM_LATCH = 0 → rd s Reg.PROT_CH_LATCH = 0 →
       s.top.hActiveUe = false → s.top.hClock = false → s.top.hAon = false →
       Runs (.powerOnSequenceDone secOk idOk) s (fun t => t.top.state = .decaf ∧ t.nvs.scanning = true ∧ flag t Reg.TOP_SUPPLY F.TOP_SUPPLY_SEC_OK = secOk))
     ∧ (∀ (chan : ChIx) (mv : Nat) (s : State), s.top.state = .decaf ∨ (s.top.state = .off ∧ s.top.porHeld = false) → strapCeiling s * 16 < mv →
       bitOf (rd s Reg.PROT_THERM_LATCH).toNat 6 = false →
       Runs (.decafOvervoltage chan mv) s (fun t => (s.top.state = .decaf → wholeReset s = false → t.top.state = .halt) ∧ (s.top.state = .off → t.top.state = .off)
         ∧ flag t Reg.PROT_THERM_LATCH F.PROT_THERM_LATCH_DECAF_OV = true
         ∧ ∀ p, p < 64 → (phOf t p).crowbar = true ∧ (phOf t p).level = .low))
     ∧ (∀ (mv : Nat) (s : State), s.top.porHeld = false → supWarn s .vin + supHyst s .vin < mv →
       Runs (.vinArmed mv) s (fun t => flag t Reg.TOP_SUPPLY F.TOP_SUPPLY_VIN_ARMED = true))
     ∧ (∀ (s : State), Runs .pciePerstRelease s (fun t => t.top.perstLow = false ∧ t.top.pcieUp = !s.top.porHeld)))
  ∧ (
     (∀ (who : Initiator) (s : State), admits s who Reg.TOP_START 1 = true → startCheck s = 1 → stageDelay s 0 ≠ 0 → stageEn s 0 ≠ [] →
       Runs (.startRequest who) s (fun t => t.top.startNext = some 0 ∧ t.top.startFrom = now s ∧ fld t Reg.TOP_START_STATUS F.TOP_START_STATUS_RESULT = 1 ∧ t.ch = s.ch))
     ∧ (∀ (who : Initiator) (s : State), admits s who Reg.TOP_START 1 = true → startCheck s ≠ 1 →
       Runs (.startRequest who) s (fun t => t.top = s.top ∧ fld t Reg.TOP_START_STATUS F.TOP_START_STATUS_RESULT = startCheck s ∧ t.ch = s.ch))
     ∧ (∀ (k r : Nat) (s : State), s.top.startNext = some k → prevStageDone s k = true → wholeReset s = false → s.top.state = .loaded ∨ s.top.state = .ramp →
       r ∈ stageEn s k → railLatched s r = false → running s r = false → r ∈ rails s →
       Runs .startStage s (fun t => railState t r = .soft ∧ t.top.state = .ramp))
     ∧ (∀ (who : Initiator) (s : State), admits s who Reg.TOP_START 2 = true → s.top.state = .ramp ∨ s.top.state = .run → s.top.dis = [] →
       (∃ r ∈ rails s, running s r = true) →
       Runs (.stopRequest who) s (fun t => t.top.stopping = true ∧ t.top.startNext = none ∧ fld t Reg.TOP_START_STATUS F.TOP_START_STATUS_RESULT = 8))
     ∧ (∀ (who : Initiator) (s : State), admits s who Reg.TOP_START 2 = true → s.top.state = .ramp ∨ s.top.state = .run → s.top.dis = [] →
       (∀ r ∈ rails s, running s r = false) →
       Runs (.stopRequest who) s (fun t => t.top.stopping = false ∧ t.top.state = .loaded ∧ fld t Reg.TOP_START_STATUS F.TOP_START_STATUS_RESULT = 9)))

/-- Rests on R157–R160. An admitted reset request begins its level: RESULT reads IN_PROGRESS and LAST_LEVEL the level. Rests on R156, R159, R178.
Refused reset requests. A wrong KEY is refused with KEY, a control-plane reset outside DECAF and LOADED with STATE, and a warm reset with no image
applied with NO_IMAGE; a plane reset during a single-core restart, and a device reset while another reset than a warm one is in progress, with BUSY;
no reset starts. -/
def Obligations.ResetRequestResults : Prop :=
  (
     let begun (n : Nat) (t : State) : Prop := t.top.rst.map (fun r => r.level) = some n ∧ fld t Reg.TOP_RST_STATUS F.TOP_RST_STATUS_RESULT = 1
       ∧ fld t Reg.TOP_RST_STATUS F.TOP_RST_STATUS_LAST_LEVEL = n
     let live (s : State) : Prop := s.top.state = .decaf ∨ s.top.state = .loaded ∨ s.top.state = .ramp ∨ s.top.state = .run
     (∀ (who : Initiator) (s : State), admits s who Reg.TOP_RST_CTL 0x5A01 = true → s.top.rst = none → live s →
       Runs (.deviceReset who 0x5A) s (begun 1))
     ∧ (∀ (who : Initiator) (s : State), admits s who Reg.TOP_RST_CTL 0x5A02 = true → s.top.rst = none → live s → s.img.applied = true →
       Runs (.warmReset who 0x5A) s (begun 2))
     ∧ (∀ (who : Initiator) (s : State), admits s who Reg.TOP_RST_CTL 0x5A03 = true → s.top.rst = none → restarting s = false → s.top.state = .decaf ∨ s.top.state = .loaded →
       Runs (.controlPlaneReset who 0x5A) s (begun 3))
     ∧ (∀ (who : Initiator) (s : State), admits s who Reg.TOP_RST_CTL 0x5A04 = true → s.top.rst = none → restarting s = false → Runs (.dataPlaneReset who 0x5A) s (begun 4))
     ∧ (∀ (who : Initiator) (s : State), admits s who Reg.TOP_RST_CTL 0x5A05 = true → s.top.rst = none → restarting s = false → Runs (.managementPlaneReset who 0x5A) s (begun 5)))
  ∧ (
     (∀ (who : Initiator) (key : Byte) (s : State), key ≠ 0x5A → admits s who Reg.TOP_RST_CTL (1 + 256 * key.toNat) = true →
       Runs (.deviceReset who key) s (fun t => fld t Reg.TOP_RST_STATUS F.TOP_RST_STATUS_RESULT = 3 ∧ t.top = s.top))
     ∧ (∀ (who : Initiator) (s : State), s.top.rst = none → restarting s = true →
       let busy (t : State) : Prop := fld t Reg.TOP_RST_STATUS F.TOP_RST_STATUS_RESULT = 7 ∧ t.top = s.top
       (admits s who Reg.TOP_RST_CTL 0x5A03 = true → Runs (.controlPlaneReset who 0x5A) s busy)
       ∧ (admits s who Reg.TOP_RST_CTL 0x5A04 = true → Runs (.dataPlaneReset who 0x5A) s busy)
       ∧ (admits s who Reg.TOP_RST_CTL 0x5A05 = true → Runs (.managementPlaneReset who 0x5A) s busy))
     ∧ (∀ (who : Initiator) (r : ResetSt) (s : State), s.top.rst = some r → r.level ≠ 2 → s.tb.running = false ∨ r.from_ ≠ now s →
       admits s who Reg.TOP_RST_CTL 0x5A01 = true →
       Runs (.deviceReset who 0x5A) s (fun t => fld t Reg.TOP_RST_STATUS F.TOP_RST_STATUS_RESULT = 7 ∧ t.top = s.top))
     ∧ (∀ (who : Initiator) (s : State), admits s who Reg.TOP_RST_CTL 0x5A03 = true → s.top.rst = none → restarting s = false → s.top.state ≠ .decaf → s.top.state ≠ .loaded →
       Runs (.controlPlaneReset who 0x5A) s (fun t => fld t Reg.TOP_RST_STATUS F.TOP_RST_STATUS_RESULT = 4 ∧ t.top = s.top))
     ∧ (∀ (who : Initiator) (s : State), admits s who Reg.TOP_RST_CTL 0x5A02 = true → s.top.rst = none →
       s.top.state = .decaf ∨ s.top.state = .loaded ∨ s.top.state = .ramp ∨ s.top.state = .run → s.img.applied = false →
       Runs (.warmReset who 0x5A) s (fun t => fld t Reg.TOP_RST_STATUS F.TOP_RST_STATUS_RESULT = 6 ∧ t.top = s.top)))

/-- Rests on R157, R158, R160, R176, R179, R185. How resets end. A device reset discards the image and ends in DECAF, or HALT; a warm reset ends in
LOADED, or HALT; each level reports DONE and no reset is then in progress. The discharge limit turns every rail of the discharge off. Rests on R161,
R963. PCI Express resets. PCIE_PERST_N, a hot reset and a function-level reset of function 0 return the commit port to the host; the device state,
the channels, the phases and the time base go on unchanged. -/
def Obligations.ResetEndAndPcieResults : Prop :=
  (
     let ended (t : State) : Prop := t.top.rst = none ∧ fld t Reg.TOP_RST_STATUS F.TOP_RST_STATUS_RESULT = 2
     (∀ (r : ResetSt) (s : State), s.top.rst = some r → 5 ∈ r.level :: r.also → r.flashWait = true → mgmtWaits s = false →
       Runs .mgmtResetTakeEffect s (fun t => t.top.rst = some { r with flashWait := false } ∧ t = { s with top := t.top }))
     ∧ (∀ (secOk idOk : Bool) (r : ResetSt) (s : State), s.top.rst = some r → r.level = 1 → allOff s = true → s.top.dis = [] →
       Runs (.deviceResetEnd secOk idOk) s (fun t => ended t ∧ (t.top.state = .decaf ∨ t.top.state = .halt) ∧ t.img.applied = false))
     ∧ (∀ (r : ResetSt) (s : State), s.top.rst = some r → r.level = 2 → allOff s = true → s.top.dis = [] →
       Runs .warmResetEnd s (fun t => ended t ∧ (t.top.state = .loaded ∨ t.top.state = .halt)))
     ∧ (∀ (r : ResetSt) (s : State), s.top.rst = some r → 3 ≤ r.level →
       Runs .planeResetEnd s (fun t => (r.flashWait = false ∨ 5 ∉ r.level :: r.also → ended t)
         ∧ (r.flashWait = true → 5 ∈ r.level :: r.also → t.top.rst = some { r with level := 5, also := [] })))
     ∧ (∀ (d : DisItem) (l : List DisItem) (s : State), s.top.dis = d :: l →
       Runs .dischargeLimitExpiry s (fun t => t.top.dis = [] ∧ ∀ x ∈ d :: l, running t x.rail = false)))
  ∧ (
     let goesOn (s t : State) : Prop := t.top.state = s.top.state ∧ t.ch = s.ch ∧ t.ph = s.ph ∧ t.tb = s.tb ∧ t.active = s.active
     (∀ (s : State), s.top.porHeld = false →
       Runs .pciePerst s (fun t => t.top.pcieUp = false ∧ rd t Reg.TOP_COMMIT_OWNER = 0 ∧ flag t Reg.TOP_RST_CAUSE F.TOP_RST_CAUSE_PERST = true ∧ goesOn s t))
     ∧ (∀ (s : State), s.top.pcieUp = true → Runs .hotReset s (fun t => rd t Reg.TOP_COMMIT_OWNER = 0 ∧ t.hir.vfs = 0 ∧ t.hir.unmask = [] ∧ goesOn s t))
     ∧ (∀ (s : State), s.top.pcieUp = true → fnHere s 0 = true → Runs (.flr 0) s (fun t => rd t Reg.TOP_COMMIT_OWNER = 0 ∧ t.hir.unmask = [] ∧ goesOn s t))
     ∧ (∀ (fn : Fin 64) (s : State), fn ≠ 0 → s.top.pcieUp = true → fnHere s fn.val = true →
       Runs (.flr fn) s (fun t => (∀ p ∈ t.hir.unmask, p.1 ≠ fn.val) ∧ rd t Reg.TOP_COMMIT_OWNER = rd s Reg.TOP_COMMIT_OWNER ∧ goesOn s t)))

/-- Rests on R162, R214, R218–R220, R223–R225, R237. The image loader. A GO whose checks 1–5 pass begins the fetch, or is held until the store's scan
has finished; a full load cancels every pending tick commit as it begins, or where its header shows that it is one. A fetched image whose header
passes goes to verification. An image that passes every check swaps the banks and is applied, or waits for its tick; REFILL leaves both banks equal.
An ABORT ends a load in progress with ABORTED and leaves the active bank as it was. Rests on R239, R245, R247. Loads that the loader turns away. A
fetch that ends in an error is refused with FETCH; a write of SEC_IMG_CTL with GO and ABORT both set is ignored; an address that is no multiple of
64 is refused with SIZE. -/
def Obligations.ImageLoaderResults : Prop :=
  (
     let ok (s : State) : Prop := flag s Reg.TOP_SUPPLY F.TOP_SUPPLY_SEC_OK = true ∧ flag s Reg.TOP_SUPPLY F.TOP_SUPPLY_STRAP_ERR = false ∧ s.sec.run = none
       ∧ (s.top.state = .decaf ∨ s.top.state = .loaded ∨ s.top.state = .ramp ∨ s.top.state = .run)
       ∧ 432 ≤ (rd s Reg.SEC_IMG_LEN).toNat ∧ (rd s Reg.SEC_IMG_LEN).toNat ≤ 294912 ∧ (rd s Reg.SEC_IMG_LEN).toNat % 16 = 0
       ∧ srcOk (fld s Reg.SEC_IMG_SRC F.SEC_IMG_SRC_SRC) (rd64 s Reg.SEC_IMG_ADDR_LO) (rd s Reg.SEC_IMG_LEN).toNat = true
     let result (t : State) (n : Nat) : Prop := fld t Reg.SEC_IMG_STATUS F.SEC_IMG_STATUS_RESULT = n
     let cancelled (t : State) : Prop := t.top.commits.all (fun c => c.mask &&& allGroups == 0) = true
     (∀ (full : Bool) (s : State), s.img.phase = .held → flag s Reg.TOP_SUPPLY F.TOP_SUPPLY_NVS_READY = true → ok s →
       Runs (.heldLoadBegin full) s (fun t => t.img.phase = .fetch ∧ t.img.heldFor = none ∧ result t 1 ∧ t.active = s.active
         ∧ (imageKind s (some full) = some true → cancelled t)))
     ∧ (∀ (who : Initiator) (full : Bool) (s : State), admits s who Reg.SEC_IMG_CTL 1 = true → s.img.phase = .idle →
       Runs (.imageLoadGo who full) s (fun t =>
         (flag s Reg.TOP_SUPPLY F.TOP_SUPPLY_NVS_READY = false → t.img.phase = .held ∧ t.img.heldFor = some who ∧ result t 1)
         ∧ (flag s Reg.TOP_SUPPLY F.TOP_SUPPLY_NVS_READY = true → ok s → t.img.phase = .fetch ∧ result t 1
           ∧ (imageKind s (some full) = some true → cancelled t))))
     ∧ (∀ (who : Initiator) (s : State), admits s who Reg.SEC_IMG_CTL 2 = true → loadActive s = true →
       Runs (.imageLoadAbort who) s (fun t => t.img.phase = .idle ∧ result t 0x15 ∧ actBank t = actBank s ∧ t.img.bank0 = t.img.bank1 ∧ t.active = s.active))
     ∧ (∀ (got : Fetched) (b : List Byte) (s : State), s.img.phase = .fetch →
       fetchTake s (fld s Reg.SEC_IMG_SRC F.SEC_IMG_SRC_SRC) (rd64 s Reg.SEC_IMG_ADDR_LO) (rd s Reg.SEC_IMG_LEN).toNat got = some b →
       headerChecks s b (rd s Reg.SEC_IMG_LEN).toNat = none →
       Runs (.imageFetchDone got) s (fun t => t.img.phase = .verify ∧ t.img.bytes = b ∧ (leAt b 0x0C 1 = 0 → s.img.begun = false → cancelled t)))
     ∧ (∀ (s : State), s.img.phase = .verify →
       Runs (.imageVerifyDone none) s (fun t =>
         let b := s.img.bytes
         (keyOk s b (sigOff b) = false → result t 0x30 ∧ t.img.phase = .idle)
         ∧ (keyOk s b (sigOff b) = true → sigOk b (sigOff b) (sigOff b + 0x80) = false → result t 0x31 ∧ t.img.phase = .idle)
         ∧ (keyOk s b (sigOff b) = true → sigOk b (sigOff b) (sigOff b + 0x80) = true → leAt b 0x14 2 < thermo s.sec.fuse.imgRb → result t 0x32 ∧ t.img.phase = .idle)
         ∧ (keyOk s b (sigOff b) = true → sigOk b (sigOff b) (sigOff b + 0x80) = true → thermo s.sec.fuse.imgRb ≤ leAt b 0x14 2 → parseChecks s b = none →
             leAt b 0x0C 1 ≠ 0 → partialChecks s b = none → contentChecks s b none = none → leAt b 0x20 8 ≠ 0 →
             t.img.phase = .pending ∧ result t 3 ∧ t.img.pendTick = leAt b 0x20 8 ∧ t.img.active1 = s.img.active1 ∧ t.active = s.active)))
     ∧ (∀ (s : State), s.img.phase = .pending →
       Runs .partialImageTick s (fun t => t.img.applied = true ∧ t.img.active1 = !s.img.active1 ∧ t.img.phase = .refill
         ∧ rd t Reg.SEC_IMG_GEN = BitVec.ofNat 32 (leAt s.img.bytes 0x10 4)))
     ∧ (∀ (s : State), s.img.phase = .refill →
       Runs .refillDone s (fun t => t.img.phase = .idle ∧ t.img.bank0 = t.img.bank1 ∧ actBank t = actBank s ∧ t = { s with img := t.img })))
  ∧ (
     let result (t : State) (n : Nat) : Prop := fld t Reg.SEC_IMG_STATUS F.SEC_IMG_STATUS_RESULT = n
     (∀ (s : State), s.img.phase = .fetch → Runs (.imageFetchDone .error) s (fun t => result t 0x20 ∧ t.img.phase = .idle ∧ t.top.state = s.top.state ∧ t.active = s.active))
     ∧ (∀ (who : Initiator) (s : State), admits s who Reg.SEC_IMG_CTL 3 = true →
       Runs (.registerWrite who (BitVec.ofNat 20 (Reg.SEC_IMG_CTL / 4)) 3) s (fun t => t = { s with resp := .none }))
     ∧ (∀ (who : Initiator) (full : Bool) (s : State), admits s who Reg.SEC_IMG_CTL 1 = true → s.img.phase = .idle → flag s Reg.TOP_SUPPLY F.TOP_SUPPLY_NVS_READY = true →
       flag s Reg.TOP_SUPPLY F.TOP_SUPPLY_SEC_OK = true → flag s Reg.TOP_SUPPLY F.TOP_SUPPLY_STRAP_ERR = false → s.sec.run = none →
       (s.top.state = .decaf ∨ s.top.state = .loaded ∨ s.top.state = .ramp ∨ s.top.state = .run) → rd64 s Reg.SEC_IMG_ADDR_LO % 64 ≠ 0 →
       Runs (.imageLoadGo who full) s (fun t => result t 0x21 ∧ t.img.phase = .idle ∧ t.top.state = s.top.state ∧ t.active = s.active)))

/-- Rests on R216. When the loader refuses an image after its fetch, after its verification or when a held load begins, the device state, the active
bank, every HOLD copy, the applied configuration generation and SEC_IMG_DIGEST are as they were, and the shadow bank is refilled from the active
bank. -/
def Obligations.ImageRefusalLeavesConfiguration : Prop :=
  ∀ (c : Instr) (s t : State),
    ((∃ full, c = .heldLoadBegin full) ∧ s.img.phase = .held) ∨ (∃ got, c = .imageFetchDone got ∧ s.img.phase = .fetch) ∨ (∃ bad, c = .imageVerifyDone bad ∧ s.img.phase = .verify) →
    exec c s = .next t → t.img.phase = .idle →
    t.top.state = s.top.state ∧ actBank t = actBank s ∧ t.img.bank0 = t.img.bank1 ∧ t.active = s.active ∧ (∀ off, isHold off = true → rd t off = rd s off)
      ∧ rd t Reg.SEC_IMG_GEN = rd s Reg.SEC_IMG_GEN ∧ ∀ k, k < 12 → rd t (Reg.SEC_IMG_DIGEST k) = rd s (Reg.SEC_IMG_DIGEST k)

/-- Rests on R264, R266, R267. Samples of the lanes. A sample takes the readings of its carriers into the sources as fabric words; where the lanes run,
the sample counts go on, and each sink bound on a slower lane then holds its signal aligned to the sink's point and saturated. Where no lane runs,
no signal, sink or tile changes. Rests on R277, R282, R283, R615, R616. Cross-device slots. A receive slot that missed three samples falls back, and
its signal takes the constant that FALLBACK names; lanes out of alignment treat every slot as missing until a FAST block realigns the sample counts;
an XSLOT block brings the values of the sender's slots 2j and 2j + 1 to the receive slots bound to them. -/
def Obligations.FabricSampleResults : Prop :=
  (
     let latched (s t : State) (lane : Nat) : Prop := ∀ k, k < 112 → sinkBoundF (framesOf s) k = true → sigLaneF (framesOf s) (sinkSigF (framesOf s) k) = lane →
       sinkOf t k = satI 24 (alignTo (sigOf t (sinkSigF (framesOf s) k)) (sigPointF (framesOf s) (sinkSigF (framesOf s) k)) (sinkPoint (framesOf s) k))
     let idle (s t : State) : Prop := t.fab.sig = s.fab.sig ∧ t.fab.sink = s.fab.sink ∧ t.fab.tile = s.fab.tile
     (∀ (p : Fin 144) (v : Int) (s : State), p.val < 0x40 →
       Runs (.fastSample [(p, v)]) s (fun t => (phaseRail s p.val < 8 → srcOf t p.val = satI 24 (v - (phOf s p.val).off * 256))
         ∧ (8 ≤ phaseRail s p.val → srcOf t p.val = srcOf s p.val) ∧ (s.fab.run = true → t.fab.fs = (s.fab.fs + 1) % 50 ∧ t.fq.pNum = s.fq.pNum + 1)
         ∧ (s.fab.run = false → idle s t ∧ t.fab.fs = s.fab.fs)))
     ∧ (∀ (p : PhIx) (v : Int) (s : State),
       Runs (.ms1Sample [(p, v)]) s (fun t => (phaseRail s p.val < 8 → srcOf t (0x40 + p.val) = satI 24 v)
         ∧ (s.fab.run = true → t.fab.fs = 0 ∧ t.fab.ms = (s.fab.ms + 1) % 100 ∧ latched s t 1) ∧ (s.fab.run = false → idle s t)))
     ∧ (∀ (p : PartIx) (s : State),
       Runs .khz10Sample s (fun t => srcOf t (0xE0 + p.val) = satI 24 (partAlloc s p.val * 32 : Nat)
         ∧ (s.fab.run = true → t.fab.ms = 0 ∧ latched s t 2) ∧ (s.fab.run = false → idle s t))))
  ∧ (
     (∀ (slot : Fin 32) (s : State), 3 ≤ (rxOf s slot.val).missing → (rxOf s slot.val).fell = false →
       Runs (.xslotFallback slot) s (fun t => (rxOf t slot.val).fell = true ∧ bitOf (rd t Reg.FAB_XDEV_FALLBACK).toNat slot.val = true
         ∧ flag t Reg.FAB_EVENT F.FAB_EVENT_XDEV_FALLBACK = true ∧ (rxOf t slot.val).val = (rxOf s slot.val).val
         ∧ (slotFallF (framesOf s) true slot.val < 16 → ∀ i, i < 512 → sigPresentF (framesOf s) i = true → sigDriverF (framesOf s) i % 1024 = 0x120 + slot.val →
             sigOf t i = sext 24 (aF s (Reg.FAB_CONST (slotFallF (framesOf s) true slot.val)) F.FAB_CONST_VALUE))))
     ∧ (∀ (s : State), laneFollows s = true →
       Runs .xdevSyncErr s (fun t => t.fab.syncBad = true ∧ flag t Reg.FAB_EVENT F.FAB_EVENT_XDEV_SYNC_ERR = true ∧ t.fab.rx = s.fab.rx))
     ∧ (∀ (fs : Fin 50) (ms : Fin 100) (s : State), laneFollows s = true →
       Runs (.fastSync fs ms) s (fun t => t.fab.fs = fs.val ∧ t.fab.ms = ms.val ∧ t.fab.syncBad = false ∧ t.fab.sig = s.fab.sig))
     ∧ (∀ (lane : LaneIx) (j : Fin 16) (v0 v1 : Int) (s : State), 6 ≤ lane.val → laneUp s lane.val = true →
       let takes (k slot : Nat) : Prop := xdevEnF (framesOf s) = true ∧ slotEnF (framesOf s) true k = true ∧ slotPeerF (framesOf s) true k = lane.val - 6 ∧ slotPairF (framesOf s) true k = slot
       Runs (.xslot lane j v0 v1) s (fun t => ∀ k, k < 32 → (takes k (2 * j.val) → (rxOf t k).next = some (satI 24 v0)) ∧ (takes k (2 * j.val + 1) → (rxOf t k).next = some (satI 24 v1))
         ∧ (¬ takes k (2 * j.val) → ¬ takes k (2 * j.val + 1) → rxOf t k = rxOf s k))))

/-- R281: when a parity check on a tile's state finds an error, that tile's state is cleared, FAB_PARITY_CNT goes up (to its highest value at most),
PARITY is set in FAB_EVENT and a fabric-parity entry with the tile number joins the control plane's staging queue; where that queue is full the
entry is counted as dropped (R69). -/
def Obligations.FabricParityClearsTile : Prop :=
  ∀ (tile : Fin 128) (s : State),
    Runs (.fabricParityError tile) s (fun t => tileOf t tile.val = {} ∧ (∀ n, n ≠ tile.val → tileOf t n = tileOf s n)
      ∧ fld t Reg.FAB_PARITY_CNT ⟨0, 16⟩ = min (fld s Reg.FAB_PARITY_CNT ⟨0, 16⟩ + 1) 65535 ∧ flag t Reg.FAB_EVENT F.FAB_EVENT_PARITY = true
      ∧ (stageDrop s .control = 0 → (stageQ s .control).length < 16 →
          ∃ x, stageQ t .control = stageQ s .control ++ [x] ∧ x.cls = 9 ∧ x.typ = 1 ∧ x.unit = tile.val)
      ∧ (16 ≤ (stageQ s .control).length → stageQ t .control = stageQ s .control ∧ stageDrop t .control = stageDrop s .control + 1))

/-- Rests on R191, R316–R320, R338, R165. A rail from soft start to discharge. The MID hold ends with V_ref at the sense voltage, or, where the
comparator or every enabled pair fails, with SS_FAIL and an overload latch. V_ref at the setpoint leads to SETTLE, a settle time spent within the
window to REG, and with every other enabled rail in regulation to RUN. A soft start that runs out of time fails. A window break in REG is counted
and changes no state. A rail at the head of the discharge whose sense voltage has fallen below 50 mV is off. Rests on R293–R299, R303, R304, R315,
R349. The phases of a rail in a period. A period start takes the active phases as its schedule and the active PERIOD, gives each of them a slot, and
leaves alone the level of those that are not in an on-time. A slot edge closes the phase's last period; its on-time lies between MIN_ON and the
period less MIN_OFF, and a duty of zero drives no HIGH; a phase in calibration leaves its slot empty. A negative current below the threshold during
LOW leads to MID. A balance update keeps every active phase's trim within ±LIM ÷ 64 and holds the trims of the others. Sense pairs that differ make
the loop take the nearer one. -/
def Obligations.RegulationResults : Prop :=
  (
     let failed (r : Nat) (t : State) : Prop := flag t (Reg.CH_EVENT r) F.CH_EVENT_SS_FAIL = true ∧ latchBit t 2 r = true
     (∀ (rail : ChIx) (v : Nat) (priOpen altOpen cmpOk : Bool) (s : State), railState s rail.val = .soft → (chOf s rail.val).senseOk = false →
       Runs (.softStartHoldEnd rail v priOpen altOpen cmpOk) s (fun t =>
         ((cmpOk = false ∨ priOpen = true ∧ (altOpen = true ∨ aOn s (Reg.CH_CTRL rail.val) F.CH_CTRL_ALT_EN = false)) → failed rail.val t)
         ∧ (cmpOk = true → (priOpen = false ∨ altOpen = false ∧ aOn s (Reg.CH_CTRL rail.val) F.CH_CTRL_ALT_EN = true) →
             railState t rail.val = .soft ∧ (chOf t rail.val).senseOk = true ∧ (chOf t rail.val).vref = (min v 65535 : Nat) * 12500)))
     ∧ (∀ (rail : ChIx) (s : State), railState s rail.val = .soft →
       Runs (.setpointReached rail) s (fun t => railState t rail.val = .settle ∧ (chOf t rail.val).vref = setpoint s rail.val ∧ t = { s with ch := t.ch }))
     ∧ (∀ (rail : ChIx) (s : State), railState s rail.val = .settle → windowOk s rail.val = true →
       Runs (.channelInRegulation rail) s (fun t => railState t rail.val = .reg
         ∧ (s.top.state = .ramp → s.top.startNext = none → s.top.stopping = false → (∀ r ∈ rails s, r ≠ rail.val → railEn s r = true → countsReg s r = true) →
             t.top.state = .run ∧ fld t Reg.TOP_START_STATUS F.TOP_START_STATUS_RESULT = 2)))
     ∧ (∀ (rail : ChIx) (s : State), railState s rail.val = .soft ∨ railState s rail.val = .settle → Runs (.softStartTimeout rail) s (failed rail.val))
     ∧ (∀ (rail : ChIx) (s : State), railState s rail.val = .reg →
       Runs (.pgExcursion rail) s (fun t => flag t (Reg.CH_EVENT rail.val) F.CH_EVENT_PG_EXCURSION = true ∧ (chOf t rail.val).pgCnt = (chOf s rail.val).pgCnt + 1
         ∧ railState t rail.val = .reg ∧ t.top = s.top))
     ∧ (∀ (rail : ChIx) (mv : Nat) (d : DisItem) (l : List DisItem) (s : State), s.top.dis = d :: l → d.rail = rail.val → d.limitOnly = false → mv < 50 →
       Runs (.dischargeRailDone rail mv) s (fun t => running t rail.val = false ∧ ∀ x ∈ t.top.dis, x.rail ≠ rail.val)))
  ∧ (
     let closed (s t : State) (p : Nat) : Prop := (phOf t p).peaked = false ∧ (phOf t p).negLim = false
       ∧ (phOf t p).shortCnt = if (phOf s p).drove && !(phOf s p).peaked then 0 else (phOf s p).shortCnt
     (∀ (rail : ChIx) (s : State), switching s rail.val = true →
       Runs (.periodStart rail) s (fun t =>
         (chOf t rail.val).iMean = (if (chOf s rail.val).perNum = 0 then railI s rail.val else (chOf s rail.val).perSum / (chOf s rail.val).perNum)
         ∧ (chOf t rail.val).perSum = 0 ∧ (chOf t rail.val).perNum = 0
         ∧ (chOf t rail.val).sched = activePh t rail.val ∧ (chOf t rail.val).per = aF s (Reg.CH_FSW rail.val) F.CH_FSW_PERIOD
         ∧ ∀ p ∈ railPhases s rail.val,
             (phOf t p).off = sext 16 (fld s (Reg.PH_OFF p) F.PH_OFF_OFFSET)
             ∧ ((phOf s p).returning = true → (phOf t p).fault = false ∧ (phOf t p).returning = false)
             ∧ ((phOf s p).returning = false → (phOf t p).active = (phOf s p).active ∧ (phOf t p).fault = (phOf s p).fault)
             ∧ ((phOf s p).active = true → (phOf t p).due = true ∧ ((phOf s p).level ≠ .high → (phOf t p).level = (phOf s p).level))
             ∧ ((phOf t p).active = false → (phOf s p).crowbar = false → (phOf t p).due = false
                 ∧ ((phOf s p).level ≠ .high → (phOf t p).level = .mid ∧ closed s t p ∧ (phOf t p).drove = false))))
     ∧ (∀ (ph : PhIx) (s : State),
       let r := phaseRail s ph.val
       let x := phOf s ph.val
       let cfg := Reg.CH_FSW r
       r < 8 → slotTaken s r ph.val = true →
       Runs (.phaseSlotEdge ph) s (fun t => (phOf t ph.val).due = false
         ∧ (x.cal = true → x.level ≠ .high → (phOf t ph.val).level = x.level)
         ∧ (x.cal = false → closed s t ph.val
             ∧ ((chOf s r).duty = 0 → (phOf t ph.val).level = .low)
             ∧ ((chOf s r).duty ≠ 0 → 1 ≤ aF s cfg F.CH_FSW_MIN_ON → aF s cfg F.CH_FSW_MIN_ON + aF s cfg F.CH_FSW_MIN_OFF ≤ (chOf s r).per →
                 (phOf t ph.val).level = .high ∧ (phOf t ph.val).drove = true ∧ aF s cfg F.CH_FSW_MIN_ON ≤ (phOf t ph.val).onTime
                 ∧ (phOf t ph.val).onTime + aF s cfg F.CH_FSW_MIN_OFF ≤ (chOf s r).per))))
     ∧ (∀ (ph : PhIx) (amps : Int) (s : State), phaseRail s ph.val < 8 → (phOf s ph.val).active = true → (phOf s ph.val).level = .low → (phOf s ph.val).crowbar = false →
       amps - (phOf s ph.val).off < (if (chOf s (phaseRail s ph.val)).drip = .burst then 0 else -256) →
       Runs (.negativeCurrentLimit ph amps) s (fun t => (phOf t ph.val).level = .mid ∧ (phOf t ph.val).negLim = true ∧ ∀ q, q ≠ ph.val → phOf t q = phOf s q))
     ∧ (∀ (rail : ChIx) (s : State), isRail s rail.val = true → aOn s (Reg.CH_CTRL rail.val) F.CH_CTRL_BAL_EN = true → railState s rail.val = .reg →
       (chOf s rail.val).drip = .run →
       Runs (.balanceUpdate rail []) s (fun t =>
         let lim : Int := (aF s (Reg.CH_BAL rail.val) F.CH_BAL_LIM * 2 ^ 24 : Nat)
         (∀ p ∈ activePh s rail.val, (phOf s p).cal = false → -lim ≤ (phOf t p).trim ∧ (phOf t p).trim ≤ lim)
         ∧ ∀ p, p ∉ activePh s rail.val ∨ (phOf s p).cal = true → phOf t p = phOf s p))
     ∧ (∀ (chan : ChIx) (pri alt : Nat) (s : State), isRail s chan.val = true → running s chan.val = true → aOn s (Reg.CH_CTRL chan.val) F.CH_CTRL_ALT_EN = true →
       aOn s (Reg.CH_CTRL chan.val) F.CH_CTRL_AUTO_SENSE = true → 800 < absI ((pri : Int) - alt) →
       (chOf s chan.val).altPair = !decide (absI ((alt : Int) - vtarget16 s chan.val) < absI ((pri : Int) - vtarget16 s chan.val)) →
       Runs (.senseSwitch chan pri alt) s (fun t => (chOf t chan.val).altPair = !(chOf s chan.val).altPair ∧ (chOf t chan.val).drip = .run
         ∧ flag t (Reg.CH_EVENT chan.val) F.CH_EVENT_SENSE_SWITCH = true)))

/-- Rests on R305–R307, R309, R325, R331. Phase add and shed. An add brings N to the least value that keeps the per-phase current at or below ADD_THR,
within the assigned phases, and ends a calibration removal. A shed takes out the hottest active phase that no calibration holds, at its slot, and
never goes below MIN_PH. On a widened rail the master divides N over the devices so that their counts differ by at most one. A boost lets neither
happen, and a member leaves both to its master. -/
def Obligations.PhaseAddAndShed : Prop :=
  let ready (s : State) (r : Nat) : Prop := isRail s r = true ∧ railState s r = .reg ∧ (chOf s r).drip = .run ∧ aOn s (Reg.CH_CTRL r) F.CH_CTRL_SHED_EN = true
    ∧ wideRole s r ≠ 2
  let idle (s t : State) (r : Nat) : Prop := t.ph = s.ph ∧ (chOf t r).memberAct = (chOf s r).memberAct ∧ (chOf t r).shedCnt = 0
  let shares (t : State) (r n : Nat) : Prop := ∀ i (h : i < (chOf t r).memberAct.length), ((chOf t r).memberAct[i]).2 = wideShare n ((chOf t r).memberAct.length + 1) (i + 1)
  (∀ (rail : ChIx) (s : State), ready s rail.val → aF s (Reg.CH_PHASE2 rail.val) F.CH_PHASE2_ADD_DWELL ≤ (chOf s rail.val).addCnt →
    Runs (.phaseAdd rail) s (fun t => (chOf t rail.val).addCnt = 0 ∧ (chOf t rail.val).shedCnt = 0
      ∧ (boosting s rail.val = true ∨ addGoal s rail.val ≤ railN s rail.val → idle s t rail.val)
      ∧ (boosting s rail.val = false → railN s rail.val < addGoal s rail.val →
          removalOn t rail.val = false
          ∧ (wideRole s rail.val = 0 → (activePh t rail.val).length = addGoal s rail.val ∧ ∀ p, (phOf s p).active = true → (phOf t p).active = true)
          ∧ (wideRole s rail.val = 1 → shares t rail.val (addGoal s rail.val)
              ∧ let n := wideShare (addGoal s rail.val) ((chOf t rail.val).memberAct.length + 1) 0
                ((activePh s rail.val).length ≤ n → n ≤ (assigned s rail.val).length → (activePh t rail.val).length = n))
          ∧ (addGoal s rail.val < assignedN s rail.val → 0 < aF s (Reg.CH_PHASE rail.val) F.CH_PHASE_ADD_THR →
              railI s rail.val ≤ (addGoal s rail.val * aF s (Reg.CH_PHASE rail.val) F.CH_PHASE_ADD_THR : Nat)))))
  ∧ (∀ (rail : ChIx) (s : State), ready s rail.val → aF s (Reg.CH_PHASE2 rail.val) F.CH_PHASE2_SHED_DWELL ≤ (chOf s rail.val).shedCnt →
    Runs (.phaseShed rail) s (fun t =>
      (boosting s rail.val = true ∨ railN s rail.val ≤ max 1 (aF s (Reg.CH_PHASE2 rail.val) F.CH_PHASE2_MIN_PH) → idle s t rail.val)
      ∧ (boosting s rail.val = false → max 1 (aF s (Reg.CH_PHASE2 rail.val) F.CH_PHASE2_MIN_PH) < railN s rail.val →
          (chOf t rail.val).shedCnt = 0
          ∧ (wideRole s rail.val = 0 → (∃ p ∈ activePh s rail.val, (phOf s p).cal = false) → (∀ p ∈ activePh s rail.val, (phOf s p).crowbar = false) →
              (∃ p ∈ activePh s rail.val, (phOf s p).cal = false ∧ phOf t p = { phOf s p with active := false }
                ∧ (∀ q ∈ activePh s rail.val, (phOf s q).cal = false → phTemp s q < phTemp s p ∨ phTemp s q = phTemp s p ∧ q ≤ p)
                ∧ ∀ q, q ≠ p → phOf t q = phOf s q)
              ∧ ((chOf s rail.val).memberAct = [] → aF s (Reg.CH_PHASE2 rail.val) F.CH_PHASE2_MIN_PH ≤ (activePh t rail.val).length))
          ∧ (wideRole s rail.val = 1 → shares t rail.val (railN s rail.val - 1)))))
  ∧ (∀ (rail : ChIx) (s : State), wideRole s rail.val = 2 → Runs (.phaseAdd rail) s (fun t => t = s) ∧ Runs (.phaseShed rail) s (fun t => t = s))

/-- Rests on R321–R323, Table 6.4. Drip mode. Entry leaves the coolest assigned phase active alone; the band edges move between BURST and SLEEP;
BURST_MAX periods end it with every assigned phase active. Rests on R324, R325, R339, R340. Widened rails. A master that loses a member runs the
rail on its own assigned phases with WIDE_LOSS; a member that loses the duty word keeps its phases at MID; duty and current reports are taken. -/
def Obligations.DripAndWidenedRailResults : Prop :=
  (
     (∀ (rail : ChIx) (s : State), isRail s rail.val = true → railState s rail.val = .reg → (chOf s rail.val).drip = .run →
       aOn s (Reg.CH_CTRL rail.val) F.CH_CTRL_DRIP_EN = true → wideRole s rail.val = 0 → removalOn s rail.val = false → boosting s rail.val = false →
       railI s rail.val < (aF s (Reg.CH_DRIP rail.val) F.CH_DRIP_ENTRY_I : Nat) → assigned s rail.val ≠ [] →
       Runs (.dripEntry rail) s (fun t => (chOf t rail.val).drip = .burst ∧ activePh t rail.val = [(chOf t rail.val).dripPhase]
         ∧ (chOf t rail.val).dripPhase ∈ assigned s rail.val ∧ ∀ q ∈ assigned s rail.val, phTemp s (chOf t rail.val).dripPhase ≤ phTemp s q))
     ∧ (∀ (rail : ChIx) (mv : Nat) (s : State), (chOf s rail.val).drip = .burst →
       vtarget16 s rail.val + (aF s (Reg.CH_DRIP2 rail.val) F.CH_DRIP2_BAND_HI * 4 : Nat) ≤ mv →
       Runs (.dripSleep rail mv) s (fun t => (chOf t rail.val).drip = .sleep ∧ (chOf t rail.val).burstI = railI s rail.val
         ∧ ((phOf s (chOf s rail.val).dripPhase).crowbar = false → (phOf t (chOf s rail.val).dripPhase).level = .mid)))
     ∧ (∀ (rail : ChIx) (mv : Nat) (s : State), (chOf s rail.val).drip = .sleep →
       (mv : Int) ≤ vtarget16 s rail.val - (aF s (Reg.CH_DRIP2 rail.val) F.CH_DRIP2_BAND_LO * 4 : Nat) →
       Runs (.dripWake rail mv) s (fun t => (chOf t rail.val).drip = .burst ∧ phOf t (chOf s rail.val).dripPhase = { phOf s (chOf s rail.val).dripPhase with due := false }
         ∧ ∀ q, q ≠ (chOf s rail.val).dripPhase → phOf t q = phOf s q))
     ∧ (∀ (rail : ChIx) (s : State), (chOf s rail.val).drip = .burst → aF s (Reg.CH_DRIP2 rail.val) F.CH_DRIP2_BURST_MAX ≤ (chOf s rail.val).burstPer →
       Runs (.dripBurstExit rail) s (fun t => (chOf t rail.val).drip = .run ∧ flag t (Reg.CH_EVENT rail.val) F.CH_EVENT_BURST_EXIT = true
         ∧ ∀ p ∈ assigned s rail.val, (phOf t p).active = true)))
  ∧ (
     (∀ (rail : ChIx) (pos : Fin 4) (s : State), wideRole s rail.val = 1 → (chOf s rail.val).memberAct.any (fun p => p.1 == pos.val) = true →
       Runs (.memberLoss rail pos) s (fun t => (chOf t rail.val).wideLoss = true ∧ (∀ x ∈ (chOf t rail.val).memberAct, x.1 ≠ pos.val)
         ∧ (∀ p ∈ assigned s rail.val, (phOf t p).active = true) ∧ flag t (Reg.CH_EVENT rail.val) F.CH_EVENT_WIDE_LOSS = true))
     ∧ (∀ (chan : ChIx) (s : State), let r := railOf s chan.val
       wideRole s chan.val = 2 → running s r = true → (chOf s r).wideLoss = false → r < 8 →
       Runs (.dutyWordLoss chan) s (fun t => (chOf t r).wideLoss = true ∧ flag t (Reg.CH_EVENT r) F.CH_EVENT_WIDE_LOSS = true
         ∧ ∀ p ∈ railPhases s r, (phOf s p).crowbar = false → (phOf t p).level = .mid ∧ (phOf t p).widened = true))
     ∧ (∀ (chan : ChIx) (duty : Fin 262144) (n : Fin 128) (boost regok : Bool) (s : State), let r := railOf s chan.val
       wideRole s chan.val = 2 → switching s r = true → (chOf s r).wideLoss = false → s.tvl.wideDown.contains (widePos s chan.val + 6) = false →
       Runs (.fastDuty chan duty n boost regok) s (fun t => (chOf t r).duty = duty.val * 16 ∧ (chOf t r).masterOk = (regok && !boost)
         ∧ ((activePh s r).length < n.val → removalOn t r = false)))
     ∧ (∀ (chan : ChIx) (pos : Fin 4) (amps : Int) (s : State), let r := railOf s chan.val
       wideRole s chan.val = 1 → (memberPos s r).contains pos.val = true → s.tvl.wideDown.contains (pos.val + 6) = false →
       Runs (.fastIrep chan pos amps) s (fun t => tabGet 0 (chOf t r).memberCur pos.val = clampI (-524288) 524287 amps ∧ t.ph = s.ph)))

/-- Rests on R302, R335, R337, R341, R939, R940. Stage faults. A fault of a phase of no rail is recorded alone. A faulted phase goes to MID, leaves the
assigned phases and is reported in PH_FLT and CH_EVENT; an assertion of SFLT_N_q is judged outside its window and recorded alone within it; a phase
whose fault bit is cleared returns, at the next period start where its rail is switching. Rests on R378–R380, Table 7.6. Clearing the channel
latches. A phase short or overload latch is cleared at any time, an overvoltage latch only with every pair of the rail below its limit less 50 mV;
otherwise it stays, with CLR_REFUSED. A thermal-trip latch is cleared only where no trip cause stands. The other latches stay as they were. -/
def Obligations.FaultAndLatchResults : Prop :=
  (
     (∀ (ph : PhIx) (mv : Nat) (s : State), s.top.state ≠ .off → 1450 ≤ mv → phaseRail s ph.val < 8 → (phOf s ph.val).fault = false →
       Runs (.stageFaultTmon ph mv) s (fun t => (phOf t ph.val).fault = true ∧ (phOf t ph.val).active = false ∧ ((phOf s ph.val).crowbar = false → (phOf t ph.val).level = .mid)
         ∧ flag t (Reg.PH_FLT ph.val) F.PH_FLT_STAGE_FAULT = true ∧ flag t (Reg.CH_EVENT (phaseRail s ph.val)) F.CH_EVENT_STAGE_FAULT = true
         ∧ ph.val ∉ assigned t (phaseRail s ph.val)))
     ∧ (∀ (ph : PhIx) (mv : Nat) (s : State), s.top.state ≠ .off → 1450 ≤ mv → 8 ≤ phaseRail s ph.val → (phOf s ph.val).fault = false →
       Runs (.stageFaultTmon ph mv) s (fun t => (phOf t ph.val).fault = true ∧ flag t (Reg.PH_FLT ph.val) F.PH_FLT_STAGE_FAULT = true
         ∧ (phOf t ph.val).level = (phOf s ph.val).level ∧ t.ch = s.ch))
     ∧ (∀ (quad : QuadIx) (hot : Fin 16) (s : State), s.top.state ≠ .off → (quadOf s quad.val).sfltActed = false →
       Runs (.stageFaultInput quad hot) s (fun t =>
         ((quadOf s quad.val).sen = false ∨ now s < (quadOf s quad.val).senRose + 2000 → t.ph = s.ph ∧ (quadOf t quad.val).sfltWindow = true)
         ∧ ((quadOf s quad.val).sen = true → (quadOf s quad.val).senRose + 2000 ≤ now s → ∀ p ∈ quadPhases quad.val, phaseRail s p < 8 →
             p ∈ assigned s (phaseRail s p) → bitOf hot.val (p % 4) = true → (phOf t p).fault = true)))
     ∧ (∀ (quad : QuadIx) (hot : Fin 16) (s : State),
       Runs (.sfltWindowEnd quad false hot) s (fun t => (quadOf t quad.val).sfltLow = false ∧ (quadOf t quad.val).sfltActed = false
         ∧ (quadOf t quad.val).sfltWindow = false ∧ t.ph = s.ph))
     ∧ (∀ (quad : QuadIx) (hot : Fin 16) (s : State), (quadOf s quad.val).sen = true → (quadOf s quad.val).sfltWindow = true →
       Runs (.sfltWindowEnd quad true hot) s (fun t => ∀ p ∈ quadPhases quad.val, phaseRail s p < 8 → p ∈ assigned s (phaseRail s p) → bitOf hot.val (p % 4) = true →
         (phOf t p).fault = true))
     ∧ (∀ (ph : PhIx) (s : State), (phOf s ph.val).fault = true → flag s (Reg.PH_FLT ph.val) F.PH_FLT_STAGE_FAULT = false →
       Runs (.phaseReturn ph) s (fun t =>
         (phaseRail s ph.val < 8 ∧ switching s (phaseRail s ph.val) = true → phOf t ph.val = { phOf s ph.val with returning := true })
         ∧ (¬ (phaseRail s ph.val < 8 ∧ switching s (phaseRail s ph.val) = true) → (phOf t ph.val).fault = false) ∧ (∀ q, q ≠ ph.val → phOf t q = phOf s q) ∧ t = { s with ph := t.ph }))
     ∧ (∀ (ph : PhIx) (mv : Nat) (s : State), (phOf s ph.val).active = true → mv < 100 ∨ 1300 < mv →
       Runs (.imonRange ph mv) s (fun t => flag t (Reg.PH_FLT ph.val) F.PH_FLT_IMON_RANGE = true ∧ t.ph = s.ph)))
  ∧ (
     (∀ (who : Initiator) (b : Fin 24) (pairs : List (ChIx × Nat)) (tripIn : Bool) (s : State), admits s who Reg.PROT_CH_LATCH (2 ^ b.val) = true →
       bitOf (rd s Reg.PROT_CH_LATCH).toNat b.val = true →
       let ok : Bool := decide (8 ≤ b.val) || ovClears s (pairs.map (fun p => (p.1.val, p.2))) (b.val % 8)
       Runs (.protLatchClear who false (BitVec.ofNat 32 (2 ^ b.val)) pairs tripIn) s (fun t => bitOf (rd t Reg.PROT_CH_LATCH).toNat b.val = !ok
         ∧ (∀ k, k < 24 → k ≠ b.val → bitOf (rd t Reg.PROT_CH_LATCH).toNat k = bitOf (rd s Reg.PROT_CH_LATCH).toNat k)
         ∧ (ok = false → flag t Reg.PROT_EVENT F.PROT_EVENT_CLR_REFUSED = true)))
     ∧ (∀ (who : Initiator) (b : Fin 6) (tripIn : Bool) (s : State), admits s who Reg.PROT_THERM_LATCH (2 ^ b.val) = true →
       bitOf (rd s Reg.PROT_THERM_LATCH).toNat b.val = true →
       Runs (.protLatchClear who true (BitVec.ofNat 32 (2 ^ b.val)) [] tripIn) s (fun t => bitOf (rd t Reg.PROT_THERM_LATCH).toNat b.val = !tripClears { s with top := { s.top with tripInLow := !tripIn } }
         ∧ (tripClears { s with top := { s.top with tripInLow := !tripIn } } = false → flag t Reg.PROT_EVENT F.PROT_EVENT_CLR_REFUSED = true))))

/-- Rests on R347, R348, R361, R350–R355, R362. The limits of a rail and what passing them does. A peak ends the on-time and counts; SHORT_CNT peaks
latch a phase short and put the rail at MID. An average over the last WINDOW above OL_LIMIT starts the throttle, one at or below 15/16 of it ends
it, and OL_TIME latches an overload shutdown. A sense pair above the OV limit or the strap ceiling crowbars every phase of its rail. Rests on R9,
R357, R358, R360. Thermal causes. Any trip source drives every phase that no crowbar holds to MID, latches its bit and drives THERMTRIP_OUT_N low,
and the device enters HALT; a stage above STAGE_TLIM is a stage fault. -/
def Obligations.ProtectionResults : Prop :=
  (
     (∀ (ph : PhIx) (amps : Int) (s : State), phaseRail s ph.val < 8 → (phOf s ph.val).level = .high → (phOf s ph.val).crowbar = false →
       amps - (phOf s ph.val).off > (aF s (Reg.PROT_IPK (phaseRail s ph.val)) F.PROT_IPK_IPK * 8 : Nat) →
       Runs (.peakLimit ph amps) s (fun t => (phOf t ph.val).level = .low ∧ (phOf t ph.val).peaked = true ∧ flag t Reg.PROT_EVENT F.PROT_EVENT_PEAK = true
         ∧ ((phOf s ph.val).peaked = false → (phOf t ph.val).shortCnt = (phOf s ph.val).shortCnt + 1)))
     ∧ (∀ (ph : PhIx) (s : State), let r := phaseRail s ph.val
       r < 8 → aF s (Reg.PROT_IPK r) F.PROT_IPK_SHORT_CNT ≤ (phOf s ph.val).shortCnt → latchBit s 0 r = false → running s r = true →
       Runs (.phaseShort ph) s (fun t => latchBit t 1 r = true ∧ rd t Reg.PROT_SHORT_INFO = BitVec.ofNat 32 (ph.val + r * 256)
         ∧ ∀ p ∈ railPhases s r, (phOf s p).crowbar = false → (phOf t p).level = .mid))
     ∧ (∀ (rail : ChIx) (s : State), isRail s rail.val = true → aOn s (Reg.PROT_OL rail.val) F.PROT_OL_OL_EN = true → switching s rail.val = true →
       Runs (.overloadCompare rail) s (fun t =>
         let lim : Int := (aF s (Reg.PROT_OL rail.val) F.PROT_OL_OL_LIMIT * 8 : Nat)
         let bins := (((chOf s rail.val).olSum, (chOf s rail.val).olNum) :: (chOf s rail.val).olBins).take (aF s (Reg.PROT_OL2 rail.val) F.PROT_OL2_WINDOW * 10)
         let n := (bins.map (fun p => p.2)).sum
         let avg : Int := if n = 0 then railI s rail.val else (bins.map (fun p => p.1)).sum / n
         (chOf t rail.val).olBins = bins ∧ (chOf t rail.val).olSum = 0 ∧ (chOf t rail.val).olNum = 0 ∧
         (lim < avg → (chOf t rail.val).olRun = true ∧ ((chOf s rail.val).olRun = false →
             (chOf t rail.val).olAt = now s ∧ flag t Reg.PROT_STATUS ⟨rail.val, 1⟩ = true ∧ flag t Reg.PROT_EVENT F.PROT_EVENT_OL_ENTER = true))
         ∧ (avg * 16 ≤ lim * 15 → (chOf t rail.val).olRun = false ∧ flag t Reg.PROT_STATUS ⟨rail.val, 1⟩ = false)))
     ∧ (∀ (rail : ChIx) (s : State), isRail s rail.val = true → (chOf s rail.val).olRun = true →
       Runs (.overloadShutdown rail) s (fun t => latchBit t 2 rail.val = true ∧ (chOf t rail.val).olRun = false))
     ∧ (∀ (chan : ChIx) (mv : Nat) (s : State), let r := railOf s chan.val
       s.top.state ≠ .off → s.top.state ≠ .decaf → r < 8 → aF s (Reg.PROT_OV r) F.PROT_OV_LIMIT * 80 < mv ∨ strapCeiling s * 16 < mv → latchBit s 0 r = false →
       Runs (.overvoltageCrowbar chan mv) s (fun t => latchBit t 0 r = true ∧ railState t r = .latched
         ∧ ∀ p ∈ railPhases s r, (phOf t p).crowbar = true ∧ (phOf t p).level = .low)))
  ∧ (
     (∀ (src : TripSource) (v : Int) (s : State), (s.top.state = .off → s.top.porHeld = false) →
       (∀ d, src = .wire d → s.top.state = .decaf ∨ dieHere s d.val = true) → (src = .report → (aF s Reg.PROT_THERM F.PROT_THERM_CRIT : Int) < v) →
       Runs (.thermalTrip src v) s (fun t =>
         bitOf (rd t Reg.PROT_THERM_LATCH).toNat (match src with | .pin => 1 | .wire d => 2 + d.val | .report => 0) = true
         ∧ flag t Reg.PROT_STATUS F.PROT_STATUS_TRIP_OUT = true ∧ (∀ p, p < 64 → (phOf s p).crowbar = false → (phOf t p).level = .mid)
         ∧ (wholeReset s = false → s.top.state = .loaded ∨ s.top.state = .ramp ∨ s.top.state = .run ∨ s.top.state = .decaf → t.top.state = .halt)))
     ∧ (∀ (ph : PhIx) (v : Int) (s : State), phaseRail s ph.val < 8 → (aF s Reg.PROT_THERM F.PROT_THERM_STAGE_TLIM : Int) < v → (phOf s ph.val).fault = false →
       Runs (.stageOverTemperature ph v) s (fun t => flag t Reg.PROT_EVENT F.PROT_EVENT_STAGE_OT = true ∧ (phOf t ph.val).fault = true ∧ (phOf t ph.val).active = false)))

/-- Rests on R366, R369, R371, R374, R377, R388. The supply ladder's reports. A warning sets its bit and counts, and clears above its threshold plus
HYST; VIN above HI is reported; VHOLD below its levels ends the tail commit and is reported; a glitch is counted. None of them changes the device
state. Rests on R6, R32, R172, R184, R370. BROWNOUT. Entry remembers the state it came from, abandons a device or warm reset in progress, sets the
supply's cause bit and puts every phase that no crowbar holds at MID. Leaving it, once the discharge has ended, with the image kept leads to LOADED,
or DECAF with no image; with a HALT cause latched, to HALT. -/
def Obligations.SupplyLadderResults : Prop :=
  (
     (∀ (sup : Supply) (mv ago : Nat) (s : State), s.top.porHeld = false → supActs s sup = true → mv < supWarn s sup → flag s Reg.LAD_STATUS (warnBit sup) = false →
       Runs (.supplyWarning sup mv ago) s (fun t => flag t Reg.LAD_STATUS (warnBit sup) = true ∧ t.top.state = s.top.state ∧ (balRelEn s sup = true → t.fq.released = true)
         ∧ fld t Reg.LAD_CNT F.LAD_CNT_WARNINGS = min (fld s Reg.LAD_CNT F.LAD_CNT_WARNINGS + 1) (2 ^ F.LAD_CNT_WARNINGS.len - 1)))
     ∧ (∀ (sup : Supply) (mv : Nat) (s : State), flag s Reg.LAD_STATUS (warnBit sup) = true → supWarn s sup + supHyst s sup < mv →
       Runs (.warningClear sup mv) s (fun t => flag t Reg.LAD_STATUS (warnBit sup) = false ∧ t.top = s.top))
     ∧ (∀ (mv : Nat) (s : State), s.top.porHeld = false → aF s Reg.LAD_VIN_HI F.LAD_VIN_HI_HI * 100 < mv →
       Runs (.vinHighAlarm mv) s (fun t => flag t Reg.LAD_STATUS F.LAD_STATUS_VIN_HI = true ∧ t.top.state = s.top.state
         ∧ (flag s Reg.LAD_STATUS F.LAD_STATUS_VIN_HI = false → flag t Reg.LAD_EVENT F.LAD_EVENT_VIN_HI = true)))
     ∧ (∀ (mv : Nat) (s : State), mv ≤ aF s Reg.LAD_VIN_HI F.LAD_VIN_HI_HI * 100 - supHyst s .vin →
       Runs (.vinHiClear mv) s (fun t => flag t Reg.LAD_STATUS F.LAD_STATUS_VIN_HI = false ∧ t.top = s.top))
     ∧ (∀ (mv done : Nat) (x : TailSt) (s : State), mv < 4000 → s.nvs.tail = some x →
       Runs (.vholdExhausted mv done) s (fun t => t.nvs.tail = none ∧ tabGet [] t.nvs.tails x.area = x.entries.take done ∧ t.top.state = s.top.state))
     ∧ (∀ (mv : Nat) (s : State), s.top.porHeld = false → mv < 9000 → flag s Reg.TOP_SUPPLY F.TOP_SUPPLY_VHOLD_OK = true →
       Runs (.vholdLow mv) s (fun t => flag t Reg.TOP_SUPPLY F.TOP_SUPPLY_VHOLD_OK = false ∧ t.top.state = s.top.state
         ∧ (s.top.state = .loaded ∨ s.top.state = .ramp ∨ s.top.state = .run → flag t Reg.LAD_EVENT F.LAD_EVENT_VHOLD_LOW = true)))
     ∧ (∀ (sup : Supply) (mv : Nat) (s : State), s.top.porHeld = false → supActs s sup = true → mv < supRst s sup →
       Runs (.resetThresholdGlitch sup mv) s (fun t => t.top = s.top ∧ flag t Reg.LAD_EVENT F.LAD_EVENT_GLITCH = true
         ∧ fld t Reg.LAD_CNT F.LAD_CNT_GLITCHES = min (fld s Reg.LAD_CNT F.LAD_CNT_GLITCHES + 1) (2 ^ F.LAD_CNT_GLITCHES.len - 1))))
  ∧ (
     (∀ (sup : Supply) (mv : Nat) (s : State), s.top.porHeld = false → s.top.state ≠ .brownout → supActs s sup = true → mv < supRst s sup →
       flag s Reg.LAD_STATUS (causeBit sup) = false →
       Runs (.brownoutEntry sup mv) s (fun t => t.top.state = .brownout ∧ t.top.brown.entered = s.top.state ∧ t.top.rst = (if wholeReset s then none else s.top.rst) ∧ flag t Reg.LAD_STATUS (causeBit sup) = true
         ∧ ∀ p, p < 64 → (phOf s p).crowbar = false → (phOf t p).level = .mid))
     ∧ (∀ (vin vaux : Nat) (s : State), s.top.porHeld = false → s.top.state = .brownout → supRecovered s .vin vin = true → supRecovered s .vaux vaux = true →
       s.top.dis = [] → s.top.brown.entered ≠ .off → s.top.brown.vauxFell = false → s.top.brown.devResetLost = false → flag s Reg.TOP_START_CFG F.TOP_START_CFG_AUTO = false →
       Runs (.brownoutExit vin vaux true true) s (fun t => t.top.state = (if haltCauses s != 0 then .halt else if s.img.applied then .loaded else .decaf)
         ∧ flag t Reg.LAD_STATUS F.LAD_STATUS_VIN_CAUSE = false ∧ flag t Reg.LAD_STATUS F.LAD_STATUS_VAUX_CAUSE = false ∧ t.top.brown = {})))

/-- Rests on R401, R403–R408, R417, R434, R442. Site cells, in every state. A sweep counts and the third that agrees sets CAL_OK and reports it; an
armed, enabled site below its threshold asserts DRP, stretches by D at once and keeps its lowest supply; above the threshold plus HYST it releases
DRP and holds the stretch; at the stretch's end it sends its minimum; a change of its core domain restarts it. A site reports while its port cell
has trained and is not in fallback. The trip wire of a die follows its sites. Where a condition does not hold, nothing changes. Rests on R398, R405,
R408, R419, R420, R424, R425, R441, R442, R523, R524, R551. The port cell, in every state. It loads its die time from TSYNC, switches a divider and
answers with FACK, takes ballast levels, arms and disarms, writes the register that a CFG names and acknowledges it, resends up lane 0 from a named
SEQ, and reports; in fallback its dividers stand at SAFE_N or lower, it stops reporting and presents intents as franks. A down message leaves the
wire as it is taken; an up message joins it where the cell has trained. -/
def Obligations.SiteAndPortCellResults : Prop :=
  (
     let said (s t : State) (d typ n data : Nat) : Prop := ∃ m : PlMsg, t.pb.wire = s.pb.wire ++ [m] ∧ m.die = d ∧ m.lane = 0 ∧ m.typ = typ ∧ m.addr = n ∧ m.data = data % 2 ^ 40
     let mute (s : State) (d : Nat) : Prop := (portOf s d).trained = false ∨ (portOf s d).fallback = true
     (∀ (die : DieIx) (site : SiteIx) (agrees : Bool) (s : State),
       let x := siteOf s die.val site.val
       let k := if agrees then min (x.agree + 1) 3 else 0
       let fine := x.coreOn = true ∧ x.calFail = false
       Runs (.siteCalSweep die site agrees) s (fun t => (¬ fine → t = s)
         ∧ (fine → siteOf t die.val site.val = { x with agree := k, calOk := x.calOk || k == 3 }
             ∧ (k = 3 → x.calOk = false → ¬ mute s die.val → said s t die.val 5 site.val (4 * 2 ^ 32))
             ∧ (k ≠ 3 ∨ x.calOk = true ∨ mute s die.val → t.pb.wire = s.pb.wire))))
     ∧ (∀ (die : DieIx) (site : SiteIx) (v : Nat) (s : State),
       let x := siteOf s die.val site.val
       let low := (portOf s die.val).armed = true ∧ x.coreOn = true ∧ sitePresent s die.val site.val = true ∧ siteDis s die.val site.val = false ∧ v < siteThr s die.val site.val
       Runs (.siteDroopCrossing die site v) s (fun t => (¬ low → t = s)
         ∧ (low → (siteOf t die.val site.val).drp = true ∧ (siteOf t die.val site.val).depth = (portOf s die.val).stretch % 16
             ∧ (siteOf t die.val site.val).stretchHold = false ∧ (portOf t die.val).droopAt = now s
             ∧ (siteOf t die.val site.val).strEvents = (if x.drp || x.stretchHold then x.strEvents else x.strEvents + 1)
             ∧ ((∀ m, x.minV = some m → v < m) → (siteOf t die.val site.val).minV = some v ∧ (siteOf t die.val site.val).minAt = stampOf s die.val)
             ∧ (∀ m, x.minV = some m → m ≤ v → (siteOf t die.val site.val).minV = some m ∧ (siteOf t die.val site.val).minAt = x.minAt)
             ∧ ∀ d n, d ≠ die.val ∨ n ≠ site.val → siteOf t d n = siteOf s d n)))
     ∧ (∀ (die : DieIx) (site : SiteIx) (v : Nat) (s : State),
       let x := siteOf s die.val site.val
       let high := x.drp = true ∧ siteThr s die.val site.val + (portOf s die.val).stretch / 256 % 16 * 160 < v
       Runs (.siteDrpRelease die site v) s (fun t => (¬ high → t = s)
         ∧ (high → (siteOf t die.val site.val).drp = false ∧ (siteOf t die.val site.val).stretchHold = true ∧ (siteOf t die.val site.val).depth = x.depth
             ∧ (siteOf t die.val site.val).relAt = now s ∧ (siteOf t die.val site.val).strK = (portOf s die.val).stretch / 16 % 16
             ∧ ∀ d n, d ≠ die.val ∨ n ≠ site.val → siteOf t d n = siteOf s d n)))
     ∧ (∀ (die : DieIx) (site : SiteIx) (s : State),
       let x := siteOf s die.val site.val
       let ends := x.stretchHold = true ∧ x.drp = false
       Runs (.siteStretchEnd die site) s (fun t => (¬ ends → t = s)
         ∧ (ends → (siteOf t die.val site.val).depth = 0 ∧ (siteOf t die.val site.val).stretchHold = false ∧ (siteOf t die.val site.val).minV = none
             ∧ (∀ v, x.minV = some v → ¬ mute s die.val → said s t die.val 4 site.val (v % 2 ^ 16 * 2 ^ 24 + x.minAt))
             ∧ (x.minV = none ∨ mute s die.val → t.pb.wire = s.pb.wire))))
     ∧ (∀ (die : DieIx) (site : SiteIx) (v : Int) (s : State),
       Runs (.siteTrip die site v) s (fun t => (v < (portTrip s die.val : Int) → t = s)
         ∧ ((portTrip s die.val : Int) ≤ v → siteOf t die.val site.val = { siteOf s die.val site.val with trip := true } ∧ (dieOf t die.val).trip = true)))
     ∧ (∀ (die : DieIx) (site : SiteIx) (v : Int) (s : State),
       let cool := (siteOf s die.val site.val).trip = true ∧ v ≤ (portTrip s die.val : Int) - 80
       Runs (.siteTripRelease die site v) s (fun t => (¬ cool → t = s)
         ∧ (cool → siteOf t die.val site.val = { siteOf s die.val site.val with trip := false }
             ∧ ((dieOf t die.val).trip = true ↔ ∃ n, n < 64 ∧ n ≠ site.val ∧ (siteOf s die.val n).trip = true))))
     ∧ (∀ (die : DieIx) (site : SiteIx) (on : Bool) (s : State),
       Runs (.siteCoreDomainChange die site on) s (fun t => (siteOf t die.val site.val).coreOn = on ∧ (siteOf t die.val site.val).calOk = false
         ∧ (siteOf t die.val site.val).agree = 0 ∧ (siteOf t die.val site.val).drp = false ∧ (siteOf t die.val site.val).depth = 0
         ∧ (siteOf t die.val site.val).stretchHold = false
         ∧ (¬ mute s die.val → said s t die.val 5 site.val ((if on then 3 else 2) * 2 ^ 32)) ∧ (mute s die.val → t.pb.wire = s.pb.wire))))
  ∧ (
     let left (s : State) (d typ addr : Nat) : List PlMsg := s.pb.wire.eraseP (fun m => m.die == d && m.lane == 2 && m.typ == typ && m.addr == addr)
     let up (s t : State) (w : List PlMsg) (d lane typ addr : Nat) (data : Nat → Prop) : Prop :=
       ((portOf s d).trained = true → ∃ m : PlMsg, t.pb.wire = w ++ [m] ∧ m.die = d ∧ m.lane = lane ∧ m.typ = typ ∧ m.addr = addr ∧ data m.data)
       ∧ ((portOf s d).trained = false → t.pb.wire = w)
     (∀ (die : DieIx) (v : BitVec 32) (s : State), Runs (.tsync die v) s (fun t => (portOf t die.val).dieTime = v.toNat ∧ (portOf t die.val).dieAt = now s
       ∧ t.pb.wire = left s die.val 3 0x3F))
     ∧ (∀ (die : DieIx) (part : PartIx) (n : Fin 2048) (s : State),
       Runs (.freq die part n) s (fun t => tabGet 128 (portOf t die.val).divN part.val = n.val
         ∧ up s t (left s die.val 1 part.val) die.val 0 3 part.val (fun x => x = n.val * 2 ^ 29 + stampOf s die.val)))
     ∧ (∀ (die : DieIx) (part : PartIx) (level : Fin 256) (s : State), Runs (.bal die part level) s (fun t =>
         tabGet 0 (portOf t die.val).level part.val = level.val ∧ (∀ p, p ≠ part.val → tabGet 0 (portOf t die.val).level p = tabGet 0 (portOf s die.val).level p)
         ∧ t.pb.wire = left s die.val 2 part.val))
     ∧ (∀ (die : DieIx) (index : Fin 256) (addr : Fin 64) (value : BitVec 24) (s : State),
       Runs (.cfg die index addr value) s (fun t =>
         let x := portOf t die.val
         (index.val = 1 → tabGet 0 x.site addr.val = value.toNat % 2 ^ 19)
         ∧ (index.val = 2 → addr.val = 0x3F → x.stretch = value.toNat % 2 ^ 12)
         ∧ (index.val = 3 → addr.val = 0x3F → x.report = value.toNat % 2 ^ 16)
         ∧ (index.val = 4 → addr.val = 0x3F → x.trip = some (value.toNat % 2 ^ 12))
         ∧ (index.val = 5 → addr.val < 32 → tabGet 0 x.divider addr.val = value.toNat % 2 ^ 6)
         ∧ (index.val = 6 → addr.val = 0x3F → x.siteDly = value.toNat % 2 ^ 16)
         ∧ (0x80 ≤ index.val → index.val < 0xC0 → addr.val = 0x3F → value.toNat / 2 ^ 8 % 16 = tabGet 0 (portOf s die.val).fseq (index.val - 0x80) →
             x.frank = some (index.val - 0x80, value.toNat / 2 ^ 12 % 4096, value.toNat / 2 ^ 6 % 4) ∧ x.franks = (portOf s die.val).franks + 1)
         ∧ ((portOf s die.val).trained = true → ∃ (l : List PlMsg) (m : PlMsg), t.pb.wire = l ++ [m] ∧ m.die = die.val ∧ m.lane = 0 ∧ m.typ = 5 ∧ m.addr = 0x3F
             ∧ m.data / 2 ^ 32 = 1 ∧ m.data / 2 ^ 24 % 256 = index.val ∧ m.data / 2 ^ 16 % 256 = addr.val)))
     ∧ (∀ (die : DieIx) (s : State), Runs (.arm die) s (fun t => (portOf t die.val).armed = true ∧ t.pb.wire = left s die.val 5 0x3F)
       ∧ Runs (.disarm die) s (fun t => (portOf t die.val).armed = false ∧ t.pb.wire = left s die.val 5 0x3F)
       ∧ Runs (.resume die) s (fun t => (portOf t die.val).fallback = false ∧ t.pb.wire = left s die.val 7 0x3F)
       ∧ Runs (.fallback die) s (fun t => (portOf t die.val).fallback = true ∧ (portOf t die.val).level = [] ∧ (portOf t die.val).out = []
           ∧ ∀ p, p < 32 → (bitOf (tabGet 0 (portOf s die.val).divider p) 5 = true → tabGet 128 (portOf t die.val).divN p = min (tabGet 128 (portOf s die.val).divN p) (safeN s p))
             ∧ (bitOf (tabGet 0 (portOf s die.val).divider p) 5 = false → tabGet 128 (portOf t die.val).divN p = tabGet 128 (portOf s die.val).divN p)))
     ∧ (∀ (die : DieIx) (lane : Option (Fin 2)) (s : State),
       Runs (.downLaneFailure die lane) s (fun t => (portOf t die.val).fallback = true ∧ (portOf t die.val).trained = false
         ∧ (∀ l, lane = some l → up s t s.pb.wire die.val l.val 5 0x3F (fun x => x = 0x20 * 2 ^ 32)) ∧ (lane = none → t.pb.wire = s.pb.wire)))
     ∧ (∀ (die : DieIx) (seq : Fin 64) (s : State),
       Runs (.nak die seq) s (fun t => t.pb.wire = left s die.val 6 0x3F ++ ((portOf s die.val).hist.reverse.dropWhile (fun m => m.seq != seq.val))
         ∧ (portOf t die.val).hist = (portOf s die.val).hist ∧ (portOf t die.val).txSeq = (portOf s die.val).txSeq))
     ∧ (∀ (die : DieIx) (site : SiteIx) (kind : Fin 5) (data : BitVec 40) (s : State),
       let fine := (portOf s die.val).fallback = false ∧ sitePresent s die.val site.val = true
       Runs (.reportInterval die site kind data) s (fun t => (¬ fine → t = s)
         ∧ (fine → kind.val ≠ 3 → up s t s.pb.wire die.val 1 (8 + kind.val) site.val (fun x => x = data.toNat))
         ∧ (fine → kind.val = 3 → (siteOf t die.val site.val).strExtra = 0 ∧ (siteOf t die.val site.val).strEvents = 0
             ∧ up s t s.pb.wire die.val 1 0xB site.val (fun x => x / 2 ^ 8 % 2 ^ 12 = min (siteOf s die.val site.val).strEvents (2 ^ 12 - 1)
                 ∧ x / 2 ^ 20 = min ((siteOf s die.val site.val).strExtra + (stretchNow s die.val site.val).2) (2 ^ 20 - 1)))))
     ∧ (∀ (die : DieIx) (queue : QueueIx) (typ : Fin 4) (data : BitVec 40) (s : State),
       let tag := data.toNat / 2 ^ 19 % 4096
       let held := tabGet [] (portOf s die.val).out queue.val
       Runs (.intDataWord die queue typ data) s (fun t =>
         (typ.val = 1 → (portOf s die.val).fallback = true → (portOf t die.val).franks = (portOf s die.val).franks + 1
           ∧ (portOf t die.val).frank = some (queue.val, tag, 0) ∧ t.pb.wire = s.pb.wire)
         ∧ (typ.val = 1 → (portOf s die.val).fallback = false → held.length < 32 → tabGet [] (portOf t die.val).out queue.val = held ++ [tag]
             ∧ up s t s.pb.wire die.val 0 1 queue.val (fun x => x = data.toNat))
         ∧ (typ.val = 1 → (portOf s die.val).fallback = false → 32 ≤ held.length → t = s)
         ∧ (typ.val = 2 → (portOf s die.val).fallback = false → up s t s.pb.wire die.val 0 2 queue.val (fun x => x = data.toNat))
         ∧ (typ.val = 2 → (portOf s die.val).fallback = true → t = s)
         ∧ (typ.val ≠ 1 → typ.val ≠ 2 → t = s))))

/-- Rests on R409, R411–R413, R415, R416, R431, R439, R445, R447. The droop path. The first flag of a rail in REG freezes the rail and, with boosting
enabled and no gap running, drives every assigned phase that neither a crowbar nor the loss of its master holds HIGH; in DECAF it does neither. A
boost's end starts the gap; the freeze ends after SETTLE; a stuck wire stops the boost. While a site asserts DRP the wire does not fall. A write of
PB_MIN_ARM clears the captures it names. -/
def Obligations.DroopPathResults : Prop :=
  (∀ (die : DieIx) (s : State), let r := dieRail s die.val
    (dieOf s die.val).droop = false →
    Runs (.droopFlagRise die) s (fun t => (dieOf t die.val).droop = true
      ∧ (structured s = true → dieHere s die.val = true → s.top.state ≠ .decaf → isRail s r = true → railState s r = .reg → droopFlag s r = false →
          (boostOf t r).frozen = true
          ∧ (aOn s (Reg.PB_BOOST r) F.PB_BOOST_BOOST_EN = true → boosting s r = false → (boostOf s r).gapUntil = none →
              (boostOf t r).boost = some (now s) ∧ ∀ p ∈ assigned s r, (phOf s p).crowbar = false → (phOf s p).widened = false →
                  (phOf t p).level = .high ∧ (phOf t p).active = true))
      ∧ (s.top.state = .decaf → t.pb.rail = s.pb.rail ∧ t.ph = s.ph)))
  ∧ (∀ (rail : ChIx) (t0 : Nat) (s : State), (boostOf s rail.val).boost = some t0 →
    Runs (.boostEnd rail false) s (fun t => boosting t rail.val = false ∧ (boostOf t rail.val).gapUntil.isSome = true
      ∧ (switching s rail.val = true → ∀ p ∈ assigned s rail.val, (phOf t p).active = true)
      ∧ ∀ p ∈ assigned s rail.val, (phOf s p).crowbar = false → (phOf t p).level ≠ .high))
  ∧ (∀ (rail : ChIx) (t0 : Nat) (s : State), (boostOf s rail.val).gapUntil = some t0 →
    Runs (.boostGapEnd rail) s (fun t => (boostOf t rail.val).gapUntil = none ∧ (boostOf t rail.val).boost = (boostOf s rail.val).boost))
  ∧ (∀ (rail : ChIx) (t0 : Nat) (s : State), (boostOf s rail.val).settleFrom = some t0 → (boostOf s rail.val).frozen = true → boosting s rail.val = false →
    droopFlag s rail.val = false → Runs (.freezeEnd rail) s (fun t => (boostOf t rail.val).frozen = false ∧ (boostOf t rail.val).settleFrom = none))
  ∧ (∀ (die : DieIx) (s : State), let r := dieRail s die.val
    Runs (.droopFlagFall die) s (fun t => (portDroop s die.val = true → t = s)
      ∧ (portDroop s die.val = false → (dieOf t die.val).droop = false ∧ (dieOf t die.val).stuck = false)
      ∧ (portDroop s die.val = false → droopFlag s r = true → (∀ d ∈ railDies s r, d ≠ die.val → (dieOf s d).droop = false) → boosting s r = false →
          (boostOf s r).frozen = true → (boostOf t r).settleFrom = some (now t))))
  ∧ (∀ (die : DieIx) (s : State), let r := dieRail s die.val
    (dieOf s die.val).droop = true → (dieOf s die.val).stuck = false →
    Runs (.droopStuck die) s (fun t => (dieOf t die.val).stuck = true ∧ flag t (Reg.PB_DIE_EVENT die.val) F.PB_DIE_EVENT_DROOP_STUCK = true
      ∧ (dieHere s die.val = true → (∀ d ∈ railDies s r, d ≠ die.val → (dieOf s d).droop = false) → boosting t r = false)))
  ∧ (∀ (who : Initiator) (val : Word) (s : State), admits s who Reg.PB_MIN_ARM val.toNat = true →
    Runs (.pbMinArm who val) s (fun t => (∀ r, r < 8 → bitOf (fldOf val F.PB_MIN_ARM_CH) r = true → rd t (Reg.PB_CHMIN r) = 0)
      ∧ (∀ d n, d < 4 → n < 64 → bitOf (fldOf val F.PB_MIN_ARM_DIE) d = true → rd t (Reg.PB_SMIN d n) = 0)))

/-- Rests on R416, R419–R424, R429, R446, R481, R497, R559. Messages of an up lane that reach the BX1200 while the Postline is up, on lane 0 with the
SEQ expected. A FACK gives the current N; a lower VMIN replaces the minimum; a CFG_ACK ends the resends of its CFG; status codes set the site's
state and its events; temperature, margin, stretch and ballast reports are taken. Rests on R420–R423, R440, R442–R444, R447. The BX1200's end of a
Postline. Training brings it up with the measured latencies; a lane failure puts the die in fallback, limits its partitions to SAFE_N and marks its
temperatures stale; retraining is counted; TSYNC goes to every die that is up; a FREQ without FACK is resent three times and then given up; CFGs are
resent; CRC errors and SEQ gaps are reported. -/
def Obligations.PostlineResults : Prop :=
  (
     let fresh (s : State) (d : DieIx) (seq : Fin 64) : Prop := dieUp s d.val = true ∧ seq.val = (dieOf s d.val).rxSeq
     (∀ (die : DieIx) (seq : Fin 64) (part : PartIx) (n : Fin 2048) (stamp : BitVec 24) (s : State), fresh s die seq → partHere s part.val = true → partDie s part.val = die.val →
       Runs (.fack die seq part n stamp) s (fun t => (partOf t part.val).nCur = n.val ∧ ((partOf s part.val).sent = some n.val → (partOf t part.val).sent = none)
         ∧ (dieOf t die.val).rxSeq = (seq.val + 1) % 64))
     ∧ (∀ (die : DieIx) (seq : Fin 64) (site : SiteIx) (v : BitVec 16) (stamp : BitVec 24) (s : State), fresh s die seq → siteHere s die.val site.val = true →
       Runs (.vmin die seq site v stamp) s (fun t => flag t (Reg.PB_SMIN die.val site.val) F.PB_SMIN_VALID = true
         ∧ fld t (Reg.PB_SMIN die.val site.val) F.PB_SMIN_VALUE = if flag s (Reg.PB_SMIN die.val site.val) F.PB_SMIN_VALID
             then min (fld s (Reg.PB_SMIN die.val site.val) F.PB_SMIN_VALUE) v.toNat else v.toNat))
     ∧ (∀ (die : DieIx) (seq : Fin 64) (index : Fin 256) (addr : Fin 64) (c : PendCfg) (s : State), fresh s die seq → (dieOf s die.val).cfgs = [c] →
       c.index = index.val → c.addr = addr.val →
       Runs (.cfgAck die seq index addr) s (fun t => cfgSync t die.val = true ∧ ((dieOf s die.val).resume = true → (dieOf t die.val).safe = false ∧ (dieOf t die.val).resume = false)))
     ∧ (∀ (die : DieIx) (seq : Fin 64) (site : SiteIx) (s : State), fresh s die seq →
       Runs (.coreOff die seq site) s (fun t => (siteOf t die.val site.val).coreOffBx = true ∧ (dieOf t die.val).coreOn = false)
       ∧ Runs (.coreOn die seq site) s (fun t => (siteOf t die.val site.val).coreOffBx = false
           ∧ ((∀ n ∈ sitesOf s die.val, n ≠ site.val → (siteOf s die.val n).coreOffBx = false) → (dieOf t die.val).coreOn = true))
       ∧ Runs (.calOk die seq site) s (fun t => (siteOf t die.val site.val).calOkBx = true)
       ∧ Runs (.calFail die seq site) s (fun t => (siteOf t die.val site.val).calFail = true ∧ (siteOf t die.val site.val).calOk = false
           ∧ flag t (Reg.PB_DIE_EVENT die.val) F.PB_DIE_EVENT_CAL_FAIL = true)
       ∧ Runs (.siteFault die seq site) s (fun t => flag t (Reg.PB_DIE_EVENT die.val) F.PB_DIE_EVENT_SITE_FAULT = true ∧ siteOf t die.val site.val = siteOf s die.val site.val))
     ∧ (∀ (die : DieIx) (site : SiteIx) (v : BitVec 16) (stamp : BitVec 24) (s : State), dieUp s die.val = true →
       Runs (.temp die site v stamp) s (fun t => fld t (Reg.PB_SITE die.val site.val) F.PB_SITE_TEMP = v.toNat
         ∧ ((critLevel s : Int) < v.toInt → flag t Reg.PROT_THERM_LATCH F.PROT_THERM_LATCH_REPORT = true))
       ∧ Runs (.cpm die site v stamp) s (fun t => fld t (Reg.PB_SITE die.val site.val) F.PB_SITE_MARGIN = v.toNat))
     ∧ (∀ (die : DieIx) (site : SiteIx) (extra : BitVec 20) (events : BitVec 12) (s : State), let p := sitePartF (framesOf s) die.val site.val
       dieUp s die.val = true → siteHere s die.val site.val = true → acctOn s p = true → 0 < (partSitesF (framesOf s) p).length →
       Runs (.stretch die site extra events) s (fun t => fld t (Reg.CAP_RCNT p 4) wordF = min (fld s (Reg.CAP_RCNT p 4) wordF + events.toNat) 0xFFFFFFFF))
     ∧ (∀ (die : DieIx) (site : SiteIx) (e : BitVec 40) (s : State), let p := sitePartF (framesOf s) die.val site.val
       dieUp s die.val = true → siteHere s die.val site.val = true → partHere s p = true →
       Runs (.bale die site e) s (fun t => (siteOf t die.val site.val).eBase = some e.toNat
         ∧ ((siteOf s die.val site.val).eBase = none → rd64 t (Reg.BAL_E_LO p) = rd64 s (Reg.BAL_E_LO p))
         ∧ ∀ b, (siteOf s die.val site.val).eBase = some b → rd64 t (Reg.BAL_E_LO p) = (rd64 s (Reg.BAL_E_LO p) + (e.toNat + 2 ^ 40 - b) % 2 ^ 40) % 2 ^ 64)))
  ∧ (
     let fallen (s t : State) (d : Nat) : Prop := (dieOf t d).link = .fallback ∧ (dieOf t d).safe = true ∧ (dieOf t d).tempStale = true
       ∧ flag t (Reg.PB_DIE_EVENT d) F.PB_DIE_EVENT_LANE_FAIL = true ∧ ∀ p ∈ dieParts s d, (partOf t p).nCur ≤ safeN s p
     (∀ (die : DieIx) (lDown lUp : Fin 4096) (s : State), s.top.state ≠ .off →
       Runs (.postlineTrainingDone die lDown lUp) s (fun t => (dieOf t die.val).link = .up ∧ (portOf t die.val).trained = true
         ∧ rd t (Reg.PB_LAT die.val) = BitVec.ofNat 32 (lDown.val + lUp.val * 2 ^ 16) ∧ flag t (Reg.PB_DIE_EVENT die.val) F.PB_DIE_EVENT_LINK_UP = true))
     ∧ (∀ (die : DieIx) (lock : Bool) (s : State), dieUp s die.val = true → Runs (.upLaneFailure die lock) s (fun t => fallen s t die.val))
     ∧ (∀ (die : DieIx) (s : State), dieUp s die.val = true → Runs (.downLoss die) s (fun t => fallen s t die.val))
     ∧ (∀ (die : DieIx) (s : State), (dieOf s die.val).link = .fallback →
       Runs (.fallbackRetrain die) s (fun t => (dieOf t die.val).link = .training ∧ (dieOf t die.val).safe = (dieOf s die.val).safe
         ∧ fld t (Reg.PB_ERR_CNT die.val) F.PB_ERR_CNT_RETRAINS
             = min (fld s (Reg.PB_ERR_CNT die.val) F.PB_ERR_CNT_RETRAINS + 1) (2 ^ F.PB_ERR_CNT_RETRAINS.len - 1)))
     ∧ (∀ (d : DieIx) (s : State), dieUp s d.val = true →
       Runs .tsyncSend s (fun t => ∃ m ∈ t.pb.wire, m.die = d.val ∧ m.lane = 2 ∧ m.typ = 3 ∧ m.data = now s % 2 ^ 32 * 2 ^ 8))
     ∧ (∀ (part : PartIx) (n : Nat) (s : State), (partOf s part.val).sent = some n →
       Runs (.freqResend part) s (fun t =>
         (resendBarred s part.val n = true → (partOf t part.val).sent = none ∧ t.pb.wire = s.pb.wire)
         ∧ (resendBarred s part.val n = false → (partOf s part.val).tries < 3 → dieUp s (partDie s part.val) = true → (partOf t part.val).tries = (partOf s part.val).tries + 1
           ∧ (partOf t part.val).sent = some n ∧ ∃ m : PlMsg, t.pb.wire = s.pb.wire ++ [m] ∧ m.typ = 1 ∧ m.addr = part.val)
         ∧ (resendBarred s part.val n = false → 3 ≤ (partOf s part.val).tries → (partOf t part.val).sent = none ∧ flag t (Reg.PB_DIE_EVENT (partDie s part.val)) F.PB_DIE_EVENT_FACK_TIMEOUT = true)))
     ∧ (∀ (die : DieIx) (index : Fin 256) (addr : Fin 64) (s : State), (dieOf s die.val).cfgs.any (fun c => c.index == index.val && c.addr == addr.val) = true →
       dieUp s die.val = true →
       Runs (.cfgResend die index addr) s (fun t => (dieOf t die.val).cfgs = (dieOf s die.val).cfgs
         ∧ ∃ m : PlMsg, t.pb.wire = s.pb.wire ++ [m] ∧ m.die = die.val ∧ m.typ = 4 ∧ m.addr = addr.val))
     ∧ (∀ (die : DieIx) (s : State), dieUp s die.val = true →
       Runs (.postlineCrcError die 1 false) s (fun t => flag t (Reg.PB_DIE_EVENT die.val) F.PB_DIE_EVENT_CRC = true)
       ∧ Runs (.postlineCrcError die 0 true) s (fun t => flag t (Reg.PB_DIE_EVENT die.val) F.PB_DIE_EVENT_SEQ_GAP = true ∧ (dieOf t die.val).nakWait = true)))

/-- Rests on R451–R453, R456–R458, R468, R475, R476. The estimator. A chip boundary gives every rail in REG outside Drip mode and boosts its dither and
every other rail none; a VREP is kept and published; a sample of a region enters its block; a refresh closes the blocks, discards one with fewer
than half its samples, and publishes the estimate of the last W; no confident refresh for NCR_T freezes the reference; a capture out of time fails.
Rests on R460–R464, R482. Offset calibration. A visit reads an inactive phase in place, takes an active one out of service where a removal may be
granted, and else stays with the phase. A complete reading within OFF_MAX sets VALID: the first since an image was applied is the offset, a later
one moves it by at most OFF_STEP; a reading beyond OFF_MAX keeps it and is counted, the third in a row setting CAL_RANGE; an incomplete one is
counted and keeps the phase. -/
def Obligations.EstimatorAndCalibrationResults : Prop :=
  (
     (∀ s : State, Runs .ditherChip s (fun t => ∀ r ∈ rails s, tabGet 0 t.est.chip r = chipAt r (now t) ∧
         (chOf t r).vdither = if railState s r = .reg ∧ (chOf s r).drip = .run ∧ boosting s r = false
           then (aF s (Reg.CH_DITH r) F.CH_DITH_AMP * 50000 : Nat) * chipAt r (now t) else 0))
     ∧ (∀ (die : DieIx) (site : SiteIx) (v : BitVec 16) (stamp : BitVec 24) (s : State), dieUp s die.val = true →
       Runs (.vrep die site v stamp) s (fun t => flag t (Reg.PB_SVOLT die.val site.val) F.PB_SVOLT_VALID = true
         ∧ fld t (Reg.PB_SVOLT die.val site.val) F.PB_SVOLT_VALUE = v.toNat ∧ (siteOf t die.val site.val).vrepTime = stampTime s die.val stamp.toNat))
     ∧ (∀ s : State, Runs .estimatorSample s (fun t => t.regs = s.regs
         ∧ ∀ k ∈ regions s, (regionSrcF (framesOf s) k ≠ 1 → regionOf t k = regionOf s k)
           ∧ (regionSrcF (framesOf s) k = 1 → (regionOf t k).from_ = tabGet {} s.est.sum (k / 16) ∧ (regionOf t k).blocks = (regionOf s k).blocks
             ∧ (0 < (sumGain (regionOf s k).from_ (sumNow s (k / 16))).n → (regionOf t k).cur.n = (regionOf s k).cur.n + 1))))
     ∧ (∀ s : State, s.est.run = true → Runs .estimatorRefresh s (fun t => t.est.blkFrom = now t ∧ ∀ k ∈ regions s,
         let x := regionOf s k
         let b : BlkSum := if x.cur.empty = true ∨ x.cur.n * 20 < regionRate s k then { empty := true } else x.cur
         let bl := (b :: x.blocks).take 63
         let h : Refresh := if regionNone s k then { r := none, rel := 1023, conf := false } else refreshOf s k ((bl.take (estW s)).foldl blkAdd {})
         (regionOf t k).cur = {} ∧ (regionOf t k).blocks = bl ∧ (regionOf t k).hist = (h :: x.hist).take 64
           ∧ (h.conf = true → (regionOf t k).ncr = false ∧ (regionOf t k).lastConf = h.r)
           ∧ rd t (Reg.EST_R k) = BitVec.ofNat 32 (match h.r with | some r => r + b2n h.conf * 2 ^ 31 | none => 2 ^ 30)))
     ∧ (∀ (region : Fin 128) (s : State), s.est.run = true → region.val ∈ regions s → (regionOf s region.val).ncr = false →
       Runs (.ncrEnter region) s (fun t => (regionOf t region.val).ncr = true ∧ (regionOf t region.val).frozen = (regionOf s region.val).lastConf
         ∧ (regionOf t region.val).driftFrom = none ∧ flag t (Reg.EST_RGN_EVENT region.val) F.EST_EVENT_NCR_ENTER = true
         ∧ flag t Reg.EST_EVENT F.EST_EVENT_NCR_ENTER = true))
     ∧ (∀ s : State, Runs .captureTimeout s (fun t => ∀ k ∈ regions s, (regionOf t k).capOn = false
         ∧ ((regionOf s k).capOn = true → (regionOf t k).capDone = false ∧ flag t (Reg.EST_RGN_EVENT k) F.EST_EVENT_CAP_FAIL = true))))
  ∧ (
     (∀ (rail : ChIx) (p : Nat) (s : State), isRail s rail.val = true → aOn s (Reg.CH_CAL rail.val) F.CH_CAL_CAL_EN = true → switching s rail.val = true →
       (calOf s rail.val).reading = false → calPhase s rail.val = some p →
       Runs (.calibrationVisit rail) s (fun t => (calOf t rail.val).visit = some p
         ∧ ((phOf s p).active = false → t.ph = s.ph ∧ ((phOf s p).level = .mid → (calOf t rail.val).reading = true ∧ (calOf t rail.val).removal = false))
         ∧ ((phOf s p).active = true → removalOk s rail.val = true → (phOf t p).cal = true ∧ (phOf t p).level = .mid
             ∧ (calOf t rail.val).reading = true ∧ (calOf t rail.val).removal = true)
         ∧ ((phOf s p).active = true → removalOk s rail.val = false → t.ph = s.ph ∧ (calOf t rail.val).reading = false)))
     ∧ (∀ (rail : ChIx) (z : Int) (flat : Bool) (p : Nat) (s : State), (calOf s rail.val).reading = true → (calOf s rail.val).visit = some p → p < 64 →
       let whole : Bool := flat && switching s rail.val && !((calOf s rail.val).removal && !(phOf s p).cal)
       let lim : Int := (aF s (Reg.CH_CAL rail.val) F.CH_CAL_OFF_MAX * 16 : Nat)
       let old := sext 16 (fld s (Reg.PH_OFF p) F.PH_OFF_OFFSET)
       let step : Int := (aF s (Reg.CH_CAL rail.val) F.CH_CAL_OFF_STEP * 2 : Nat)
       Runs (.calibrationReading rail z flat) s (fun t => (calOf t rail.val).reading = false ∧ (phOf t p).cal = false
         ∧ (whole = false → (calOf t rail.val).visit = some p ∧ rd t (Reg.PH_OFF p) = rd s (Reg.PH_OFF p)
             ∧ fld t (Reg.CH_CAL_CNT rail.val) F.CH_CAL_CNT_INCOMPLETE = min (fld s (Reg.CH_CAL_CNT rail.val) F.CH_CAL_CNT_INCOMPLETE + 1) 255)
         ∧ (whole = true → absI z ≤ lim → flag t (Reg.PH_OFF p) F.PH_OFF_VALID = true
             ∧ (tabGet 0 s.est.readAt p = 0 → fld t (Reg.PH_OFF p) F.PH_OFF_OFFSET = unsx 16 z)
             ∧ (tabGet 0 s.est.readAt p ≠ 0 → ∃ v : Int, fld t (Reg.PH_OFF p) F.PH_OFF_OFFSET = unsx 16 v ∧ absI (v - old) ≤ step
                 ∧ absI (v - z) ≤ absI (old - z)))
         ∧ (whole = true → lim < absI z → fld t (Reg.PH_OFF p) F.PH_OFF_OFFSET = fld s (Reg.PH_OFF p) F.PH_OFF_OFFSET
             ∧ fld t (Reg.CH_CAL_CNT rail.val) F.CH_CAL_CNT_RANGE = min (fld s (Reg.CH_CAL_CNT rail.val) F.CH_CAL_CNT_RANGE + 1) 255
             ∧ (2 ≤ tabGet 0 s.est.oor p → flag t (Reg.PH_OFF p) F.PH_OFF_CAL_RANGE = true)))))

/-- Rests on R491–R493, R427, R428, R430. The divider target. An evaluation of the one partition whose rail is in REG gives it the target of the terms
and duties, shows the reasons that bind, and sends a lower N at once; an upward step is at most FSTEP and waits for its voltage, holds and FACK; the
target change of a tick commit is sent once, ahead of its tick. Rests on R496–R498, R518, R519. The loops. n_pow moves by the floor of KPOW × 1,024
× (p_lim − P) ÷ (64 × p_lim), and n_th by that of KTH × (TTGT − T) ÷ 16, each within FMIN and the lower of FMAX and N + HEAD, falling by at most
SLEW; both stay while the rail is out of REG, and n_th without a report; the guard is lifted 1 ms after the partition has come to its release level.
Rests on R503, R512, R514. Contention and snapshots. An instance pinned for CONT_T sets its CAP_CONT bit and is counted once until it has been
unpinned. A snapshot copies a present partition's counts, durations and lost cycles at one instant, clears the live counters where CLEAR asks, and
refuses an absent partition. -/
def Obligations.CappingAndAccountingResults : Prop :=
  (
     (∀ (p : Nat) (s : State), (parts s).filter (acctOn s) = [p] →
       Runs .targetEvaluation s (fun t => (partOf t p).nTgt = capTarget s p ∧ fld t (Reg.CAP_BIND p) F.CAP_BIND_BIND = capBind s p % 2 ^ 16
         ∧ (capTarget s p < curN s p → dieUp s (partDie s p) = true → (partOf t p).sent = some (capTarget s p))
         ∧ (∀ q ∈ parts s, (capOf t q).pCnt = (capOf s q).pCnt + 1 ∧ (q ≠ p → (partOf t q).nTgt = (partOf s q).nTgt))))
     ∧ (∀ (part : PartIx) (s : State), stepUpOk s part.val = true → curN s part.val < (partOf s part.val).nTgt →
       Runs (.freqStepSend part) s (fun t => (partOf t part.val).lastUp = now t
         ∧ (partOf t part.val).sent = some (min (curN s part.val + aF s (Reg.PB_PART_CFG part.val) F.PB_PART_CFG_FSTEP) (partOf s part.val).nTgt)))
     ∧ (∀ (part : PartIx) (tick : Nat) (v s : State), tickView s part.val = some (tick, v) → acctOn s part.val = true →
       capTarget v part.val ≠ (partOf s part.val).nTgt → (partOf s part.val).tickAt ≠ some tick → dieUp s (partDie s part.val) = true →
       Runs (.tickFreqSend part) s (fun t => (partOf t part.val).tickAt = some tick
         ∧ (capTarget v part.val < curN s part.val → (partOf t part.val).sent = some (capTarget v part.val)))))
  ∧ (
     let out (s : State) (p old : Nat) (raw : Int) : Nat :=
       let lo := aF s (Reg.CAP_ENV p) F.CAP_ENV_FMIN
       let hi := max lo (min (aF s (Reg.CAP_ENV p) F.CAP_ENV_FMAX) (curN s p + aF s (Reg.CAP_ENV2 p) F.CAP_ENV2_HEAD))
       max ((clampI lo hi raw).toNat) (old - aF s (Reg.CAP_ENV2 p) F.CAP_ENV2_SLEW)
     (∀ (p : Nat) (s : State), p ∈ parts s →
       let s' := { s with cap := { s.cap with pOther := s.cap.otherSum / (32000 * max s.cap.otherCnt 1 : Nat) } }
       let lim := powLimit s' p
       let meas := (capOf s p).pSum / (32000 * max (capOf s p).pCnt 1 : Nat)
       let k : Int := aF s (Reg.CAP_PWR_CFG p) F.CAP_PWR_CFG_KPOW
       Runs .powerLoopUpdate s (fun t => fld t (Reg.CAP_PWR p) F.CAP_PWR_P = satU 16 meas ∧ fld t (Reg.CAP_PWR p) F.CAP_PWR_P_LIM = satU 16 lim.1
         ∧ (capOf t p).pSum = 0 ∧ (capOf t p).pCnt = 0
         ∧ (acctOn s p = false → (capOf t p).nPow = (capOf s p).nPow)
         ∧ (acctOn s p = true → lim.1 ≠ 0 → (capOf t p).powTerm = lim.2
             ∧ (capOf t p).nPow = out s p (capOf s p).nPow ((capOf s p).nPow + (k * 1024 * (lim.1 - meas)).fdiv (64 * lim.1)))))
     ∧ (∀ (p : Nat) (s : State), p ∈ parts s →
       Runs .thermalLoopUpdate s (fun t => (capOf t p).tMax = none
         ∧ ((capOf s p).tMax = none ∨ acctOn s p = false → (capOf t p).nTh = (capOf s p).nTh)
         ∧ ∀ T : Int, (capOf s p).tMax = some T → acctOn s p = true → (dieOf s (partDie s p)).tempStale = false →
             (capOf t p).nTh = out s p (capOf s p).nTh ((capOf s p).nTh
               + (aF s (Reg.CAP_THM_CFG p) F.CAP_THM_CFG_KTH : Int) * ((aF s (Reg.CAP_THM_CFG p) F.CAP_THM_CFG_TTGT : Int) - T) / 16)))
     ∧ (∀ (part : PartIx) (s : State), (capOf s part.val).guard = true → (capOf s part.val).coolFrom.isSome = true → (dieOf s (partDie s part.val)).tempStale = false →
       (∀ i ∈ partSitesF (framesOf s) part.val, sext 16 (fld s (Reg.PB_SITE (i / 64) (i % 64)) F.PB_SITE_TEMP)
         ≤ (aF s Reg.PROT_THERM F.PROT_THERM_CRIT : Int) - (aF s (Reg.CAP_THM_CFG part.val) F.CAP_THM_CFG_TGUARD * 16 : Nat) - 80) →
       Runs (.thermalGuardRelease part) s (fun t => (capOf t part.val).guard = false ∧ (capOf t part.val).nTh = (capOf s part.val).nTh)))
  ∧ (
     (∀ (inst : Fin 96) (s : State), instPinned s inst.val = true → tabGet 0 s.cap.pinFrom inst.val ≠ 0 → inst.val ∉ s.cap.said →
       Runs (.contention inst) s (fun t => bitOf (rd t (Reg.CAP_CONT (inst.val / 32))).toNat (inst.val % 32) = true ∧ inst.val ∈ t.cap.said
         ∧ fld t Reg.CAP_CONT_CNT F.CAP_CONT_CNT_COUNT = min (fld s Reg.CAP_CONT_CNT F.CAP_CONT_CNT_COUNT + 1) 65535))
     ∧ (∀ (who : Initiator) (slot : Fin 4) (val : Word) (s : State), admits s who (Reg.CAP_SNAP_CTL slot.val) val.toNat = true →
       let p := fldOf val F.CAP_SNAP_CTL_PART
       let k := slot.val
       fldOf val F.CAP_SNAP_CTL_GO = 1 →
       Runs (.snapshot who slot val) s (fun t =>
         (partHere s p = false → fld t (Reg.CAP_SNAP_STATUS k) F.CAP_SNAP_STATUS_STATE = 2 ∧ rd64 t (Reg.CAP_SNAP_TB_LO k) = rd64 s (Reg.CAP_SNAP_TB_LO k))
         ∧ (partHere s p = true → fld t (Reg.CAP_SNAP_STATUS k) F.CAP_SNAP_STATUS_STATE = 1 ∧ fld t (Reg.CAP_SNAP_STATUS k) F.CAP_SNAP_STATUS_PART = p
             ∧ fld t (Reg.CAP_SNAP_STATUS k) F.CAP_SNAP_STATUS_SEQ = (fld s (Reg.CAP_SNAP_STATUS k) F.CAP_SNAP_STATUS_SEQ + 1) % 2 ^ 16
             ∧ rd64 t (Reg.CAP_SNAP_TB_LO k) = now s % 2 ^ 64
             ∧ rd64 t (Reg.CAP_SNAP_LOST_THR_LO k) = rd64 s (Reg.CAP_LOST_THR_LO p) ∧ rd64 t (Reg.CAP_SNAP_LOST_STR_LO k) = rd64 s (Reg.CAP_LOST_STR_LO p)
             ∧ (∀ r, r < 16 → rd t (Reg.CAP_SNAP_CNT k r) = rd s (Reg.CAP_RCNT p r) ∧ rd64 t (Reg.CAP_SNAP_DUR_LO k r) = rd64 s (Reg.CAP_RDUR_LO p r))
             ∧ (fldOf val F.CAP_SNAP_CTL_CLEAR = 1 → rd64 t (Reg.CAP_LOST_THR_LO p) = 0 ∧ rd64 t (Reg.CAP_LOST_STR_LO p) = 0
                 ∧ ∀ r, r < 16 → rd t (Reg.CAP_RCNT p r) = 0 ∧ rd64 t (Reg.CAP_RDUR_LO p r) = 0)
             ∧ (fldOf val F.CAP_SNAP_CTL_CLEAR = 0 → ∀ r, r < 16 → rd t (Reg.CAP_RCNT p r) = rd s (Reg.CAP_RCNT p r))
             ∧ t.cap = s.cap))))

/-- Rests on R526–R528, R549, R551, R552, R563, R567. Intents and hints that reach the BX1200 in sequence on up lane 0. In DECAF an intent is cancelled;
one for an absent or disabled queue or a partition elsewhere is BAD; a full queue overflows; a light intent at the head is answered at once; any
other joins its queue. COMM_BEGIN is counted and leaves a ballast level due for each partition it names; COMM_END is counted. Rests on R537, R551,
R553, R554, R556, R565. Ramp and ballast. P, C and D follow the rates and bands; a due hint raises an eligible partition to at least min(PRE, its
ceiling); the 10 µs update leaves every level it gives within the effective ceiling, and 0 where THERMAL binds; a site whose BALE reports stop is
noted. -/
def Obligations.IntentAndRampResults : Prop :=
  (
     (∀ (die : DieIx) (seq : Fin 64) (queue : QueueIx) (cls : Fin 16) (part : PartIx) (tag : Fin 4096) (dur : Fin 2048) (s : State),
       let d := die.val
       let q := queue.val
       let p := part.val
       let old := (queueOf s q).items
       let new : Intent := { cls := cls.val, part := p, tag := tag.val, dur := dur.val, at_ := now s }
       let cancelled (t : State) : Prop := (queueOf t q).items = old ∧ flag t Reg.FQ_EVENT F.FQ_EVENT_CANCEL = true
         ∧ (queueOf t q).fseq = ((queueOf s q).fseq + 1) % 16
         ∧ ∃ m ∈ t.pb.wire, m.die = d ∧ m.typ = 4 ∧ m.data / 2 ^ 32 = 0x80 + q ∧ m.data / 2 ^ 20 % 2 ^ 12 = tag.val ∧ m.data / 2 ^ 14 % 4 = 2
       let good : Prop := structured s = true ∧ queueEn s q = true ∧ queueDie s q = d ∧ partHere s p = true ∧ partDie s p = d
       dieUp s d = true → seq.val = (dieOf s d).rxSeq → (queueOf s q).fseq < 16 →
       Runs (.intent die seq queue cls part tag dur) s (fun t =>
         (s.top.state = .decaf ∨ structured s = false → cancelled t)
         ∧ (s.top.state ≠ .decaf → structured s = true → queueEn s q = false ∨ queueDie s q ≠ d ∨ partHere s p = false ∨ partDie s p ≠ d →
             cancelled t ∧ flag t Reg.FQ_EVENT F.FQ_EVENT_BAD = true)
         ∧ (s.top.state ≠ .decaf → good → 32 ≤ old.length → cancelled t ∧ flag t Reg.FQ_EVENT F.FQ_EVENT_OVERFLOW = true)
         ∧ (s.top.state ≠ .decaf → good → old.length < 32 → railState s (partRail s p) ≠ .reg → cancelled t)
         ∧ (s.top.state ≠ .decaf → good → old = [] → railState s (partRail s p) = .reg → heavyClass s cls.val = false →
             (queueOf t q).items = [] ∧ ∃ m ∈ t.pb.wire, m.die = d ∧ m.typ = 4 ∧ m.data / 2 ^ 32 = 0x80 + q ∧ m.data / 2 ^ 14 % 4 = 0)
         ∧ (s.top.state ≠ .decaf → good → old.length < 32 → railState s (partRail s p) = .reg →
             (old = [] ∧ heavyClass s cls.val = true ∨ ∃ i l, old = i :: l ∧ heavyClass s i.cls = true) → (queueOf t q).items = old ++ [new])))
     ∧ (∀ (die : DieIx) (seq : Fin 64) (queue : QueueIx) (all : Bool) (part : PartIx) (lead : Fin 4096) (s : State), dieUp s die.val = true → seq.val = (dieOf s die.val).rxSeq →
       Runs (.commBegin die seq queue all part lead) s (fun t => flag t Reg.BAL_EVENT F.BAL_EVENT_HINT = true
         ∧ fld t Reg.BAL_HINT_CNT F.BAL_HINT_CNT_BEGIN = min (fld s Reg.BAL_HINT_CNT F.BAL_HINT_CNT_BEGIN + 1) 65535
         ∧ (structured s = true → t.fq.hints.map (fun h => h.part) = s.fq.hints.map (fun h => h.part) ++ (dieParts s die.val).filter (fun p => all || p == part.val))))
     ∧ (∀ (die : DieIx) (seq : Fin 64) (queue : QueueIx) (s : State), dieUp s die.val = true → seq.val = (dieOf s die.val).rxSeq →
       Runs (.commEnd die seq queue) s (fun t => flag t Reg.BAL_EVENT F.BAL_EVENT_HINT = true ∧ t.fq = s.fq
         ∧ fld t Reg.BAL_HINT_CNT F.BAL_HINT_CNT_END = min (fld s Reg.BAL_HINT_CNT F.BAL_HINT_CNT_END + 1) 65535)))
  ∧ (
     (∀ s : State, Runs .rampUpdate s (fun t => t.fq.pAcc = 0 ∧ t.fq.pNum = 0
         ∧ (s.fq.pNum ≠ 0 → t.fq.power = (s.fq.pAcc / (32000 * s.fq.pNum : Nat)).toNat)
         ∧ t.fq.ceilC = min (s.fq.ceilC + (rampRate s true : Nat)) ((t.fq.power * 1000 : Nat) + rampBand s true)
         ∧ t.fq.floorD = max (s.fq.floorD - (rampRate s false : Nat)) ((t.fq.power * 1000 : Nat) - rampBand s false)))
     ∧ (∀ (part : PartIx) (s : State), (s.fq.hints.any (fun h => h.part == part.val)) = true → balElig s part.val = true → s.fq.released = false →
       (balOf s part.val).lastLaunch = none →
       Runs (.hintBallastSend part) s (fun t => min (aF s (Reg.BAL_CFG part.val) F.BAL_CFG_PRE) (balCeil s part.val) ≤ (balOf t part.val).level
         ∧ (balOf s part.val).level ≤ (balOf t part.val).level ∧ t.fq.hints = s.fq.hints.eraseP (fun h => h.part == part.val)))
     ∧ (∀ s : State, Runs .ballastUpdate s (fun t => ∀ p ∈ parts s,
         (thermBinds s p = true → (balOf t p).level = 0)
         ∧ (balLoopOn s = true → balElig s p = true → aF s (Reg.BAL_ENV p) F.BAL_ENV_SLEW = 255 → (balOf s p).level ≤ 255 → (balOf t p).level ≤ balCeil s p)))
     ∧ (∀ (die : DieIx) (site : SiteIx) (s : State), siteHere s die.val site.val = true →
       Runs (.baleGap die site) s (fun t => (siteOf t die.val site.val).baleGap = true ∧ flag t Reg.BAL_EVENT F.BAL_EVENT_BALE_GAP = true
         ∧ (siteOf t die.val site.val).eBase = (siteOf s die.val site.val).eBase)))

/-- Rests on R529–R534, R541, R543, R544, R546–R548, R555. Heavy franks. FQ_GRANT and fixed-rate mode arm a heavy head; the first armed head that passes
every gate is granted, at least one CLK_CTL cycle after the last, and none that does not; its frank is sent, and its launch takes the partition's
ballast away; a head that has waited DEADLINE is forced under a franking ceiling; a heartbeat ends fixed-rate mode and its absence begins it. -/
def Obligations.FrankingResults : Prop :=
  let nextCycle (s : State) : State := match s.fq.lastHeavy with | some t => reach s (t + 2) | none => s
  let heavyHead (s : State) (q : Nat) : Prop := ∃ i l, (queueOf s q).items = i :: l ∧ heavyClass s i.cls = true ∧ i.forced = false
  (∀ (who : Initiator) (val : Word) (s : State), admits s who Reg.FQ_GRANT val.toNat = true → fldOf val F.FQ_GRANT_GO = 1 →
    let q := fldOf val F.FQ_GRANT_QUEUE
    Runs (.fqGrant who val) s (fun t =>
      (heavyHead s q → q ∉ s.fq.armed → s.fq.armed.length < 8 → s.fq.fixed = false → t.fq.armed = s.fq.armed ++ [q])
      ∧ (q ∈ s.fq.armed ∨ 8 ≤ s.fq.armed.length ∨ s.fq.fixed = true ∨ (queueOf s q).items = [] →
          t.fq = s.fq ∧ flag t Reg.FQ_EVENT F.FQ_EVENT_GRANT_IGNORED = true)))
  ∧ (∀ (who : Initiator) (val : Word) (s : State), admits s who Reg.FQ_SCHED_HB val.toNat = true →
    Runs (.fqSchedHb who val) s (fun t => t.fq.lastHb = some (now s) ∧ t.fq.fixed = (s.fq.fixed && (schedRestart s || s.fq.schedFault))))
  ∧ (∀ s : State, Runs .schedTimeout s (fun t => t.fq.fixed = true ∧ t.fq.armed = s.fq.armed ∧ (s.fq.fixed = false → flag t Reg.FQ_EVENT F.FQ_EVENT_FIXED_ENTER = true)))
  ∧ (∀ (queue : QueueIx) (s : State), s.fq.fixed = true → heavyHead s queue.val → queue.val ∉ s.fq.armed → s.fq.armed.length < 8 →
    Runs (.fixedRateArm queue) s (fun t => t.fq.armed = s.fq.armed ++ [queue.val]))
  ∧ (∀ s : State, (∀ q ∈ grantOrder s, (headOf s q).any (gatesPass (nextCycle s)) = false) → Runs .heavyGrant s (fun t => t = nextCycle s))
  ∧ (∀ (q : Nat) (l : List Nat) (i : Intent) (s : State), grantOrder s = q :: l → headOf s q = some i → i.forced = false → gatesPass (nextCycle s) i = true →
    Runs .heavyGrant s (fun t => q ∉ t.fq.armed ∧ t.fq.lastHeavy = some (now (nextCycle s))
      ∧ ∃ k : FrankSt, t.fq.franks = s.fq.franks ++ [k] ∧ k.queue = q ∧ k.tag = i.tag ∧ k.kind = 0 ∧ k.launch = now (nextCycle s) + preLead s ∧ k.sent = false))
  ∧ (∀ (queue : QueueIx) (k : FrankSt) (l : List FrankSt) (s : State), s.fq.franks = k :: l → k.queue = queue.val → k.sent = false → k.waitFack = false →
    dieUp s (queueDie s queue.val) = true →
    Runs (.frankSend queue) s (fun t => t.fq.franks = { k with sent := true } :: l
      ∧ ∃ m : PlMsg, t.pb.wire = s.pb.wire ++ [m] ∧ m.die = queueDie s queue.val ∧ m.typ = 4 ∧ m.data / 2 ^ 32 = 0x80 + queue.val))
  ∧ (∀ (queue : QueueIx) (k : FrankSt) (l : List FrankSt) (s : State), s.fq.franks = k :: l → k.queue = queue.val → k.sent = true → k.launched = false →
    heavyClass s k.cls = true → k.kind ≠ 1 →
    Runs (.heavyLaunch queue) s (fun t => t.fq.franks = { k with launched := true } :: l ∧ (balOf t k.part).level = 0 ∧ (balOf t k.part).lastLaunch = some (now t)))
  ∧ (∀ (queue : QueueIx) (i : Intent) (l : List Intent) (s : State), (queueOf s queue.val).items = i :: l → i.forced = false →
    Runs (.deadlineExpiry queue) s (fun t => (t.fq.ceils.any (fun c => c.part == i.part && c.queue == queue.val && c.until_ == none)) = true
      ∧ (gateRail s i.part = false → (queueOf t queue.val).items = { i with forced := true } :: l)
      ∧ (gateRail s i.part = true → flag t Reg.FQ_EVENT F.FQ_EVENT_FORCED = true ∧ ∃ k ∈ t.fq.franks, k.queue = queue.val ∧ k.tag = i.tag ∧ k.kind = 1)))
  ∧ (∀ (part : PartIx) (s : State), (∀ c ∈ s.fq.ceils, c.part = part.val → c.until_.any (fun u => decide (u ≤ now s)) = true) →
    Runs (.frankCeilingEnd part) s (fun t => t.fq.ceils = s.fq.ceils.filter (fun c => c.part != part.val)))
  ∧ (∀ (die : DieIx) (queue : QueueIx) (value : BitVec 24) (s : State), (portOf s die.val).trained = true →
    Runs (.frank die queue value) s (fun t => ∃ (l : List PlMsg) (m : PlMsg), t.pb.wire = l ++ [m] ∧ m.die = die.val ∧ m.lane = 0 ∧ m.typ = 5
      ∧ m.data / 2 ^ 32 = 1 ∧ m.data / 2 ^ 24 % 256 = 0x80 + queue.val))

/-- Rests on R574–R579, R592, R614, R617, R622, Table 12.3. The states of a lane. DETECT, EQ, LOCK and IDENT follow one another; matching TRAIN blocks
take IDENT to UP with the measured latency, others to WAIT with MISMATCH; a lane that has not reached UP in time waits, then detects again; a lane
in UP that loses lock waits, with nothing of its queues left. An invalid block is counted. ABORT changes nothing, since the model takes frames
whole. Rests on R414, R608, R609, R613. Time-sync frames and BOOST blocks. SYNC goes out on each tree edge below that is up; a child keeps its XID
and stamps and answers; the parent sends SYNC_FIN. A member's BOOST blocks start and end the boost of its part of a widened rail. -/
def Obligations.LaneTrainingResults : Prop :=
  (
     (∀ (lane : LaneIx) (s : State),
       ((laneOf s lane.val).state = .detect → Runs (.laneSignalDetect lane) s (fun t => (laneOf t lane.val).state = .eq ∧ t.regs = s.regs))
       ∧ ((laneOf s lane.val).state = .eq → Runs (.laneEqDone lane) s (fun t => (laneOf t lane.val).state = .lock ∧ t.regs = s.regs))
       ∧ ((laneOf s lane.val).state = .lock → Runs (.laneLock lane) s (fun t => (laneOf t lane.val).state = .ident ∧ t.regs = s.regs))
       ∧ ((laneOf s lane.val).state ∈ [.detect, .eq, .lock, .ident] →
           Runs (.laneTrainTimeout lane) s (fun t => (laneOf t lane.val).state = .wait ∧ (laneOf t lane.val).since = now t))
       ∧ ((laneOf s lane.val).state = .wait →
           Runs (.laneWaitEnd lane) s (fun t => (laneOf t lane.val).state = .detect ∧ (laneOf t lane.val).longWait = false
             ∧ fld t (Reg.TVL_CNT lane.val) F.TVL_CNT_RETRAINS = min (fld s (Reg.TVL_CNT lane.val) F.TVL_CNT_RETRAINS + 1) 255))
       ∧ ((laneOf s lane.val).state ≠ .disabled → ∀ crc8 : Bool,
           Runs (.invalidBlock lane crc8) s (fun t => t.tvl = s.tvl
             ∧ fld t (Reg.TVL_ERR lane.val) F.TVL_ERR_HDR = min (fld s (Reg.TVL_ERR lane.val) F.TVL_ERR_HDR + 1) 65535))
       ∧ Runs (.abortBlock lane) s (fun t => t = s))
     ∧ (∀ (lane : LaneIx) (role node peerLane cp tag lat : Nat) (s : State), (laneOf s lane.val).state = .ident →
       Runs (.laneIdentDone lane role node peerLane cp tag lat) s (fun t =>
         (trainOk s lane.val role node peerLane tag = false → (laneOf t lane.val).state = .wait ∧ flag t (Reg.TVL_EVENT lane.val) F.TVL_EVENT_MISMATCH = true)
         ∧ (trainOk s lane.val role node peerLane tag = true → (laneOf t lane.val).state = .up ∧ flag t (Reg.TVL_EVENT lane.val) F.TVL_EVENT_LINK_UP = true
             ∧ fld t (Reg.TVL_STATUS lane.val) F.TVL_STATUS_PEER_NODE = node % 2 ^ F.TVL_STATUS_PEER_NODE.len
             ∧ fld t (Reg.TVL_LAT lane.val) F.TVL_LAT_LAT = min lat 4095
             ∧ flag t (Reg.TVL_STATUS lane.val) F.TVL_STATUS_LAT_ERR = decide (304 < lat) ∧ (lane.val ∈ t.tvl.wideDown ↔ 304 < lat))))
     ∧ (∀ (lane : LaneIx) (clkLost : Bool) (s : State), laneUp s lane.val = true →
       Runs (.laneLockLoss lane clkLost) s (fun t => (laneOf t lane.val).state = .wait ∧ flag t (Reg.TVL_EVENT lane.val) F.TVL_EVENT_LOCK_LOSS = true
         ∧ flag t (Reg.TVL_EVENT lane.val) F.TVL_EVENT_LINK_DOWN = true ∧ laneFrames t lane.val = []
         ∧ (laneFrames s lane.val ≠ [] → flag t Reg.TVL_GEVENT F.TVL_GEVENT_DLQ = true))))
  ∧ (
     let sends (s t : State) (n typ : Nat) : Prop := (lclsOf s n 1).out.length < 16 → ∃ q : QFrame, (lclsOf t n 1).out = (lclsOf s n 1).out ++ [q] ∧ q.frame.typ = typ ∧ q.frame.ttl = 12
     (∀ s : State, Runs .syncInterval s (fun t => ∀ n ∈ belowUp s, sends s t n 0x0101))
     ∧ (∀ (lane : LaneIx) (xid t1 t2 : Nat) (s : State), upLane s = some lane.val → laneUp s lane.val = true →
       Runs (.sync lane xid t1 t2) s (fun t => sends s t lane.val 0x0102 ∧ t.tb.xch = some { xid := xid % 2 ^ 32, t1 := t1, t2 := t2 }))
     ∧ (∀ (lane : LaneIx) (xid t4 : Nat) (s : State), lane.val ∈ belowUp s → Runs (.syncResp lane xid t4) s (fun t => sends s t lane.val 0x0103))
     ∧ (∀ (lane : LaneIx) (rail : ChIx) (s : State), takesBoost s lane.val rail.val = true →
       (boosting s rail.val = false → Runs (.boostStartBlock lane rail) s (fun t => boosting t rail.val = true
         ∧ ∀ p ∈ assigned s rail.val, (phOf s p).crowbar = false → (phOf s p).widened = false → (phOf t p).level = .high))
       ∧ (boosting s rail.val = true → Runs (.boostEndBlock lane rail) s (fun t => boosting t rail.val = false ∧ (boostOf t rail.val).gapUntil.isSome = true))))

/-- Rests on R585, R592–R595. Credits, replay and arbitration on a lane in UP. CREDIT gives back what it names; an ACK releases the frames up to the one
it names; a NAK or a timeout resends from the frame it names unless the resends are spent, and then the lane waits; a head without credits for
CRED_TO is undeliverable; at a block boundary the first ready block of R595 goes. -/
def Obligations.LinkFlowResults : Prop :=
  (∀ (lane : LaneIx) (c0 : Fin 8) (c1 c2 c3 : Fin 256) (s : State), laneUp s lane.val = true →
    Runs (.credit lane c0 c1 c2 c3) s (fun t => (laneOf t lane.val).c0used = (laneOf s lane.val).c0used - c0.val
      ∧ (lclsOf t lane.val 1).used = (lclsOf s lane.val 1).used - c1.val ∧ (lclsOf t lane.val 2).used = (lclsOf s lane.val 2).used - c2.val
      ∧ (lclsOf t lane.val 3).used = (lclsOf s lane.val 3).used - c3.val))
  ∧ (∀ (lane : LaneIx) (cls : Fin 4) (lseq : Fin 4096) (a b : List RFrame) (r : RFrame) (s : State), laneUp s lane.val = true → cls.val ≠ 0 →
    (lclsOf s lane.val cls.val).replay = a ++ r :: b → r.lseq = lseq.val → (∀ k ∈ a, k.lseq ≠ lseq.val) →
    Runs (.linkAck lane cls lseq) s (fun t => (lclsOf t lane.val cls.val).replay = b ∧ (lclsOf t lane.val cls.val).tries = 0 ∧ t.regs = s.regs)
    ∧ Runs (.linkNak lane cls lseq) s (fun t =>
        ((lclsOf s lane.val cls.val).tries < aF s (Reg.TVL_CFG lane.val) F.TVL_CFG_REPLAY_MAX →
          (lclsOf t lane.val cls.val).replay = r :: b ∧ (lclsOf t lane.val cls.val).resend = r :: b)
        ∧ (a = [] → aF s (Reg.TVL_CFG lane.val) F.TVL_CFG_REPLAY_MAX ≤ (lclsOf s lane.val cls.val).tries →
          (laneOf t lane.val).state = .wait ∧ flag t (Reg.TVL_EVENT lane.val) F.TVL_EVENT_REPLAY_LIMIT = true)))
  ∧ (∀ (lane : LaneIx) (cls : Fin 4) (b : List RFrame) (r : RFrame) (s : State), (lclsOf s lane.val cls.val).replay = r :: b →
    (lclsOf s lane.val cls.val).resend = [] → (lclsOf s lane.val cls.val).tries < aF s (Reg.TVL_CFG lane.val) F.TVL_CFG_REPLAY_MAX →
    Runs (.replayTimeout lane cls) s (fun t => (lclsOf t lane.val cls.val).resend = r :: b
      ∧ (lclsOf t lane.val cls.val).tries = (lclsOf s lane.val cls.val).tries + 1))
  ∧ (∀ (lane : LaneIx) (cls : Fin 4) (q : QFrame) (l : List QFrame) (s : State), (lclsOf s lane.val cls.val).out = q :: l → laneUp s lane.val = true →
    creditLimit cls.val < (lclsOf s lane.val cls.val).used + frameUnits q.frame →
    Runs (.creditTimeout (some lane) cls) s (fun t => (lclsOf t lane.val cls.val).out.map (fun x => x.frame) = l.map (fun x => x.frame)
      ∧ flag t (Reg.TVL_EVENT lane.val) F.TVL_EVENT_CRED_TIMEOUT = true ∧ flag t Reg.TVL_GEVENT F.TVL_GEVENT_DLQ = true))
  ∧ (∀ (lane : LaneIx) (s : State), laneUp s lane.val = true →
    let s' := originFlush s
    let x := laneOf s' lane.val
    let cell := oldestCell (x.cells.filter (fun c => decide (c.at_ ≤ now s')))
    let rank1 : Prop := 6 ≤ lane.val ∧ (x.boostDue ≠ [] ∨ x.fastDue = true)
    let quiet : Prop := ¬ rank1 ∧ (4 ≤ x.c0used ∨ cell = none) ∧ x.c0owed = 0 ∧ (6 ≤ lane.val → xslotDue s' lane.val = none)
      ∧ ackDue s' lane.val = none ∧ creditDue s' lane.val = false
    Runs (.laneTransmitSlot lane) s (fun t =>
      (∀ b l, 6 ≤ lane.val → x.boostDue = b :: l → t.resp = .code 1 ∧ (laneOf t lane.val).sent = .boost (b % 4) (b / 4))
      ∧ (6 ≤ lane.val → x.boostDue = [] → x.fastDue = true → t.resp = .code 1 ∧ (laneOf t lane.val).sent = .fast (fastBlock s' lane.val))
      ∧ (∀ c, ¬ rank1 → x.c0used < 4 → cell = some c → t.resp = .code 2 ∧ (laneOf t lane.val).sent = .cell c.cell c.bad
          ∧ (laneOf t lane.val).c0used = x.c0used + 1)
      ∧ (¬ rank1 → 4 ≤ x.c0used ∨ cell = none → x.c0owed ≠ 0 → t.resp = .code 3 ∧ (laneOf t lane.val).c0owed = x.c0owed - min x.c0owed 7)
      ∧ (∀ p, quiet → x.prog = some p → t.resp = .code 6)
      ∧ (∀ r again, quiet → x.prog = none → startable s' lane.val 1 = some (r, again) → t.resp = .code 7 ∧ ∃ p, (laneOf t lane.val).prog = some p ∧ p.cls = 1 ∧ p.lseq = r.lseq)
      ∧ (quiet → x.prog = none → nextClass s' lane.val = none → t.resp = .code 8 ∧ (laneOf t lane.val).sent = .idle)))

/-- Rests on R587–R591, R599, R816. Frames received on a lane in UP. A frame in sequence is acknowledged, one too long for its class on its first block;
one whose CRC fails, or past a gap, is answered with a NAK naming the LSEQ expected; while that LSEQ has not come, every other frame is discarded. A
PARENT frame in sequence is delivered here, to the engines or to its class's delivery queue; a stale epoch or bad type is undeliverable. Rests on
R600, R603–R606. Reductions and dead letters. The local data plane opens a reduction that tree edges below still owe; a contribution from an edge
combines element by element, SUM and COUNT with saturation; another OP is a mismatch, a RID already sent is late; RTO closes with PARTIAL. A read of
TVL_DLQ_W3_q takes the head entry off. -/
def Obligations.FrameAndReductionResults : Prop :=
  (
     (∀ (lane : LaneIx) (lseq : Fin 4096) (crcOk : Bool) (f : Frame) (s : State), laneUp s lane.val = true → 1 ≤ f.cls → f.cls ≤ 3 →
       let x := lclsOf s lane.val f.cls
       let stale : Bool := epochType f.typ && decide (f.epoch < s.dom.mepoch)
       x.rxSeq < 4096 →
       Runs (.frameReceive lane lseq crcOk f) s (fun t => let y := lclsOf t lane.val f.cls
         (crcOk = false → lseq.val ≠ x.rxSeq ∨ frameLen f ≤ frameMax f.cls → y.ack = some (true, x.rxSeq) ∧ y.nakWait = true ∧ y.rxSeq = x.rxSeq ∧ t.tvl.rx = s.tvl.rx ∧ t.tvl.deliver = s.tvl.deliver
           ∧ fld t (Reg.TVL_ERR lane.val) F.TVL_ERR_FRAME_CRC = min (fld s (Reg.TVL_ERR lane.val) F.TVL_ERR_FRAME_CRC + 1) 255)
         ∧ (crcOk = true ∨ frameMax f.cls < frameLen f → lseq.val = x.rxSeq → y.ack = some (false, lseq.val) ∧ y.nakWait = false ∧ y.rxSeq = (x.rxSeq + 1) % 4096
           ∧ (frameLen f ≤ frameMax f.cls → f.typ / 256 = f.cls → hwType f.typ = true → stale = false → f.scope = 2 → t.tvl.rx = s.tvl.rx ++ [f])
           ∧ (frameMax f.cls < frameLen f ∨ knownType f.typ = false ∨ f.typ / 256 ≠ f.cls ∨ stale = true → t.tvl.rx = s.tvl.rx ∧ t.tvl.deliver = s.tvl.deliver
               ∧ flag t Reg.TVL_GEVENT F.TVL_GEVENT_DLQ = true))
         ∧ (crcOk = true → lseq.val ≠ x.rxSeq → x.nakWait = true → t = s)
         ∧ (crcOk = true → lseq.val = (x.rxSeq + 1) % 4096 → x.nakWait = false → y.ack = some (true, x.rxSeq) ∧ y.nakWait = true ∧ y.rxSeq = x.rxSeq)))
     ∧ (∀ (lane : LaneIx) (lseq : Fin 4096) (f : Frame) (s : State), laneUp s lane.val = true → f.scope = 2 → frameLen f ≤ 2064 →
       (lseq.val = (lclsOf s lane.val 2).rxSeq → Runs (.operand lane lseq f) s (fun t =>
         (deliverOf t 2).map (fun q => q.frame) = (deliverOf s 2).map (fun q => q.frame) ++ [{ f with cls := 2, typ := 0x0202 }]))
       ∧ (lseq.val = (lclsOf s lane.val 3).rxSeq →
         Runs (.imageSeg lane lseq f) s (fun t =>
           (deliverOf t 3).map (fun q => q.frame) = (deliverOf s 3).map (fun q => q.frame) ++ [{ f with cls := 3, typ := 0x0301 }])
         ∧ Runs (.recGather lane lseq f) s (fun t =>
           (deliverOf t 3).map (fun q => q.frame) = (deliverOf s 3).map (fun q => q.frame) ++ [{ f with cls := 3, typ := 0x0302 }]))))
  ∧ (
     let elem (op : Nat) (a b : Int) : Int := if op = 1 then max a b else if op = 2 then min a b else clampI (-2 ^ 63) (2 ^ 63 - 1) (a + b)
     (∀ (rid : Fin (2 ^ 32)) (op : Fin 4) (part : Bool) (contrib : Nat) (elems : List Int) (s : State), (∀ r ∈ s.tvl.red, r.rid ≠ rid.val) → rid.val ∉ s.tvl.redDone →
       s.tvl.red.length < 4 → belowUp s ≠ [] →
       Runs (.reduce none rid op part contrib elems) s (fun t => ∃ r : RedSt, t.tvl.red = s.tvl.red ++ [r] ∧ r.rid = rid.val ∧ r.op = op.val ∧ r.contrib = contrib
         ∧ r.loc = true ∧ r.from_ = [] ∧ r.elems.length = elems.length))
     ∧ (∀ (l : LaneIx) (rid : Fin (2 ^ 32)) (op : Fin 4) (part : Bool) (contrib : Nat) (elems : List Int) (r : RedSt) (s : State), l.val ∈ belowUp s →
       s.tvl.red = [r] → r.rid = rid.val →
       Runs (.reduce (some l) rid op part contrib elems) s (fun t =>
         (r.op ≠ op.val → t.tvl.red = [r] ∧ flag t Reg.TVL_GEVENT F.TVL_GEVENT_REDUCE_MISMATCH = true)
         ∧ (r.op = op.val → r.elems.length = elems.length → l.val ∉ r.from_ → r.loc = false → (∀ x ∈ elems, -2 ^ 63 ≤ x ∧ x < 2 ^ 63) →
             t.tvl.red = [{ r with elems := (r.elems.zip elems).map (fun p => elem op.val p.1 p.2), contrib := r.contrib + contrib, partial_ := r.partial_ || part,
                                   from_ := l.val :: r.from_ }])))
     ∧ (∀ (l : LaneIx) (rid : Fin (2 ^ 32)) (op : Fin 4) (part : Bool) (contrib : Nat) (elems : List Int) (s : State), l.val ∈ belowUp s →
       (∀ r ∈ s.tvl.red, r.rid ≠ rid.val) → rid.val ∈ s.tvl.redDone →
       Runs (.reduce (some l) rid op part contrib elems) s (fun t => t.tvl.red = s.tvl.red ∧ flag t Reg.TVL_GEVENT F.TVL_GEVENT_DLQ = true))
     ∧ (∀ (rid : Fin (2 ^ 32)) (r : RedSt) (s : State), s.tvl.red.find? (fun x => x.rid == rid.val) = some r →
       Runs (.reductionTimeout rid) s (fun t => (∀ x ∈ t.tvl.red, x.rid ≠ rid.val) ∧ rid.val ∈ t.tvl.redDone ∧ flag t Reg.TVL_GEVENT F.TVL_GEVENT_REDUCE_PARTIAL = true))
     ∧ (∀ (who : Initiator) (q : Fin 8) (e : DlqEntry) (l : List DlqEntry) (s : State), canRead s who = true → (dlqOf s q.val).items = e :: l →
       Runs (.dlqPop who q) s (fun t => (dlqOf t q.val).items = l ∧ t.resp = .word (BitVec.ofNat 32 (e.at_ / 2 ^ 32)))))

/-- Rests on R580, R583, R663, R666–R668. C0 cells that reach this node whole and for the first time in 200 ns. HOLD holds the group for its duration
and a HOLD that ends frees it; GTHROT stages a group commit at the tick that APPLY names; TRIP is noted, and counted by a master; DROOP freezes the
member's part of a widened rail until SETTLE after the last. Rests on R657–R661, R664–R666. Lock groups. A cycle opens the group reduction; its
result is read once; GROUP_GO announces a commit with a new CID on every tree edge; an announcement of the present master is staged, or refused when
late or far; at its tick the ceiling is written to every partition of the group; a refusal is answered with HOLD. -/
def Obligations.CellAndLockGroupResults : Prop :=
  (
     let arrives (s : State) (lane : LaneIx) (c : Cell) : Prop := laneUp s lane.val = true ∧ cellLocal s c = true
       ∧ ∀ p ∈ s.tvl.seen, p.1 = c → p.2 + 200 < now s
     (∀ (lane : LaneIx) (scope : Fin 4) (node : Fin 1024) (payload : BitVec 36) (s : State), let g := payload.toNat % 64
       arrives s lane { ctype := 1, scope := scope.val, node := node.val, payload := payload.toNat } → groupParts s g ≠ [] →
       Runs (.hold lane scope node payload true) s (fun t => tabGet 0 t.dom.holds g = max (tabGet 0 s.dom.holds g) (now s + payload.toNat / 2 ^ 6 % 2 ^ 16 * 1000)))
     ∧ (∀ (group : Fin 64) (s : State), tabGet 0 s.dom.holds group.val ≠ 0 → Runs (.holdExpiry group) s (fun t => tabGet 0 t.dom.holds group.val = 0))
     ∧ (∀ (lane : LaneIx) (scope : Fin 4) (node : Fin 1024) (payload : BitVec 36) (T : Nat) (s : State), let g := payload.toNat % 64
       arrives s lane { ctype := 2, scope := scope.val, node := node.val, payload := payload.toNat } → groupParts s g ≠ [] →
       T % 10 = 0 → T / 10 % 8192 = payload.toNat / 2 ^ 21 % 8192 → now s + 1000 ≤ T → T < now s + 80920 →
       (s.dom.commits.filter (fun x => x.group == g)).length < 4 →
       Runs (.gthrot lane scope node payload true) s (fun t => t.dom.commits = s.dom.commits ++
         [{ group := g, n := payload.toNat / 2 ^ 6 % 2 ^ 11, reason := payload.toNat / 2 ^ 17 % 16, tick := T, cid := none, basis := 0 }]))
     ∧ (∀ (lane : LaneIx) (scope : Fin 4) (node : Fin 1024) (payload : BitVec 36) (s : State),
       arrives s lane { ctype := 3, scope := scope.val, node := node.val, payload := payload.toNat } →
       Runs (.trip lane scope node payload true) s (fun t => flag t Reg.DOM_EVENT F.DOM_EVENT_TRIP = true ∧ (s.dom.role = .master → node.val ∈ t.dom.tripped)))
     ∧ (∀ (lane : LaneIx) (node : Fin 1024) (payload : BitVec 36) (s : State), let r := payload.toNat % 8
       arrives s lane { ctype := 4, scope := 3, node := node.val, payload := payload.toNat } → 6 ≤ lane.val → isRail s r = true → wideRole s r = 2 →
       widePos s r = lane.val - 6 →
       Runs (.droop lane 3 node payload true) s (fun t => (boostOf t r).memberFrz = true ∧ tabGet 0 t.dom.droopHold r = now s + 1))
     ∧ (∀ (rail : ChIx) (s : State), (boostOf s rail.val).memberFrz = true → 0 < tabGet 0 s.dom.droopHold rail.val →
       Runs (.droopCellFreezeEnd rail) s (fun t => (boostOf t rail.val).memberFrz = false ∧ (boostOf t rail.val).frozen = (boostOf s rail.val).frozen)))
  ∧ (
     (∀ s : State, takesPart s = true → s.tvl.red = [] → s.tvl.redDone = [] → belowUp s ≠ [] →
       Runs .groupCycleStart s (fun t => t.dom.cycleAt = t.dom.cycle * (max 1 (grpCfg s F.DOM_GROUP_CFG_GCYCLE) * 1000)
         ∧ ∃ r : RedSt, t.tvl.red = [r] ∧ r.rid = t.dom.cycle % 2 ^ 24 * 256 + 0x20 ∧ r.op = 2 ∧ r.elems.length = 64
           ∧ ∀ g, g < 64 → groupParts s g = [] → r.elems.getD g 0 = 2 ^ 63 - 1))
     ∧ (∀ (r : RedSt) (s : State), domRoleNow s = .master → redResult s (s.dom.cycle % 2 ^ 24 * 256 + 0x20) = some r →
       Runs .groupReductionResult s (fun t => redResult t (s.dom.cycle % 2 ^ 24 * 256 + 0x20) = none))
     ∧ (∀ (g : Nat) (s : State), domRoleNow s = .master → g < 64 → bitOf (gbufEntry s g) 63 = true →
       Runs .groupGo s (fun t => t.dom.cid = (s.dom.cid + 1) % 2 ^ 32
         ∧ ∀ n ∈ treeLanes s, laneUp s n = true → (lclsOf s n 1).out.length < 16 →
             ∃ q : QFrame, (lclsOf t n 1).out = (lclsOf s n 1).out ++ [q] ∧ q.frame.typ = 0x0111))
     ∧ (∀ (src : Fin 1024) (epoch cid : Fin (2 ^ 32)) (tick basis : Nat) (g : Fin 64) (n : Fin 2048) (reason : Fin 16) (s : State),
       s.dom.role ≠ .none_ → s.dom.role ≠ .master → epoch.val = s.dom.mepoch → src.val = s.dom.master → bitOf (btNode (actBt s) (ownNode s)) 63 = true →
       groupParts s g.val ≠ [] → (∀ c ∈ s.dom.commits, c.group = g.val → c.cid ≠ some cid.val) →
       Runs (.commitAnn src epoch cid tick basis [(g, n, reason)]) s (fun t =>
         (now s + 1000 ≤ tick → tick ≤ now s + 10000000000 → (s.dom.commits.filter (fun x => x.group == g.val)).length < 4 → t.dom.commits = s.dom.commits ++
           [{ group := g.val, n := n.val, reason := reason.val, tick := tick, cid := some cid.val, basis := basis }])
         ∧ (tick < now s + 1000 ∨ now s + 10000000000 < tick → t.dom.commits = s.dom.commits ∧ flag t Reg.DOM_EVENT F.DOM_EVENT_REFUSE = true
             ∧ fld t Reg.DOM_CNT F.DOM_CNT_REFUSALS = min (fld s Reg.DOM_CNT F.DOM_CNT_REFUSALS + 1) 255)))
     ∧ (∀ (group : Fin 64) (c : DomCommit) (k : Nat) (s : State), s.dom.commits = [c] → c.group = group.val → c.cid = some k → tabGet [] s.dom.gtEffect group.val = [] →
       c.n < 2048 → c.reason < 16 →
       Runs (.domainCommitEffect group) s (fun t => t.dom.commits = [] ∧ groupCeil t group.val = (c.n, c.reason)
         ∧ ∀ p ∈ groupParts s group.val, aF t (Reg.CAP_GCEIL p) F.CAP_GCEIL_N = c.n ∧ aF t (Reg.CAP_GCEIL p) F.CAP_GCEIL_REASON = c.reason
             ∧ aOn t (Reg.CAP_GCEIL p) F.CAP_GCEIL_OWN = decide (fld s (Reg.CAP_PROP p) F.CAP_PROP_N = c.n)))
     ∧ (∀ (group : Fin 64) (s : State), domRoleNow s = .master → originDepth s < 16 →
       let us := grpCfg s F.DOM_GROUP_CFG_GCYCLE + grpCfg s F.DOM_GROUP_CFG_GLEAD
       Runs (.commitRefuse group) s (fun t => ∃ at_ : Nat, t.tvl.origin = s.tvl.origin ++
         [({ ctype := 1, scope := 2, node := ownNode s, payload := group.val + us * 2 ^ 6 }, at_)])))

/-- Rests on R629–R632, R635, R678, R679. Roles. CLAIM becomes MASTER with epoch 1; a master that allocates sends HEARTBEAT on every tree edge, and one
whose firmware has stalled sends none; the third missed instant sets MASTER_LOST, and an armed standby takes over with the next epoch; a HEARTBEAT
of a higher epoch is adopted and makes a master yield; one of another source is refused. Rests on R669–R672, R636. Membership. A node that is not
admitted asks the master along its route; the master admits a member of the table, the first standby that asks becomes its STANDBY, and any other
node is not admitted; an admitted node becomes MEMBER or stays STANDBY; MEMBER frames add and remove nodes. -/
def Obligations.RoleAndMembershipResults : Prop :=
  (
     (∀ s : State, s.dom.role = .claim → Runs .claimExpiry s (fun t => t.dom.role = .master ∧ t.dom.mepoch = 1 ∧ t.dom.master = ownNode s
       ∧ t.dom.members = [ownNode s] ∧ t.tb.servo = .master))
     ∧ (∀ s : State, s.dom.role = .master → let wrote := s.dom.mEpochs < 3 ∨ ∃ e ∈ s.dom.goEpochs, s.bt.last ≤ e + 2
       Runs .heartbeatInstant s (fun t =>
         (s.top.state ∈ [.loaded, .ramp, .run] → wrote → ∀ n ∈ treeLanes s, laneUp s n = true → (lclsOf s n 1).out.length < 16 →
             ∃ q : QFrame, (lclsOf t n 1).out = (lclsOf s n 1).out ++ [q] ∧ q.frame.typ = 0x0110 ∧ q.frame.epoch = s.dom.mepoch)
         ∧ (s.top.state ∉ [.loaded, .ramp, .run] ∨ ¬ wrote → t.tvl = s.tvl)))
     ∧ (∀ s : State, domRoleNow s ≠ .none_ → s.dom.role ≠ .master →
       let late := aF s Reg.DOM_HB_CFG F.DOM_HB_CFG_HB_LATE * 1000
       let k := max (s.dom.hbDone + 1) ((now s - late) / 100000)
       Runs .heartbeatMissed s (fun t => t.dom.hbDone = k
         ∧ (k ≤ s.dom.hbAt → t.dom.missed = s.dom.missed ∧ t.dom.role = s.dom.role)
         ∧ (s.dom.hbAt < k → s.dom.missed < 2 → t.dom.missed = s.dom.missed + 1 ∧ t.dom.role = s.dom.role ∧ t.dom.mepoch = s.dom.mepoch)
         ∧ (s.dom.hbAt < k → 2 ≤ s.dom.missed → foArmed s = false → t.dom.masterLost = true ∧ t.dom.role = s.dom.role ∧ t.dom.mepoch = s.dom.mepoch)
         ∧ (s.dom.hbAt < k → 2 ≤ s.dom.missed → foArmed s = true → t.dom.role = .master ∧ t.dom.mepoch = s.dom.mepoch + 1 ∧ t.tb.servo = .master
             ∧ t.dom.rerooted = true ∧ t.dom.commits = s.dom.commits ∧ flag t Reg.DOM_EVENT F.DOM_EVENT_FAILOVER = true)))
     ∧ (∀ (lane : LaneIx) (src : Fin 1024) (epoch : Fin (2 ^ 32)) (standby mgen mem : Fin 65536) (s : State), s.dom.role ≠ .none_ →
       Runs (.heartbeat lane src epoch standby mgen mem) s (fun t =>
         (s.dom.mepoch = epoch.val → s.dom.master = src.val → t.dom.role = s.dom.role ∧ t.dom.missed = 0 ∧ t.dom.masterLost = false ∧ t.dom.hbSeen = true
           ∧ t.dom.standby = standby.val ∧ t.dom.mgen = mgen.val)
         ∧ (s.dom.mepoch < epoch.val → t.dom.mepoch = epoch.val ∧ t.dom.master = src.val
           ∧ (s.dom.role = .master ∨ s.dom.role = .claim → t.dom.role = (if standby.val = 0xFFFF then .standby else .joining) ∧ t.dom.upLane = some lane.val
               ∧ flag t Reg.DOM_EVENT F.DOM_EVENT_YIELD = true)
           ∧ (s.dom.role ≠ .master → s.dom.role ≠ .claim → t.dom.role = s.dom.role))
         ∧ (s.dom.mepoch = epoch.val → s.dom.master ≠ src.val → t.dom = s.dom ∧ flag t Reg.DOM_EVENT F.DOM_EVENT_STALE_SRC = true)
         ∧ (epoch.val < s.dom.mepoch → t.dom = s.dom)))
     ∧ (∀ s : State, domRoleNow s = .master → s.dom.noStandby = false → Runs .noStandby s (fun t => t.dom = { s.dom with noStandby := true })))
  ∧ (
     (∀ (r : Nat) (s : State), domRoleNow s = .joining → s.tb.aligned = true → routeF (framesOf s) s.dom.master = r → r < 10 → laneUp s r = true →
       (lclsOf s r 1).out.length < 16 →
       Runs .joinReqSend s (fun t => ∃ q : QFrame, (lclsOf t r 1).out = (lclsOf s r 1).out ++ [q] ∧ q.frame.typ = 0x0114 ∧ q.frame.dest = s.dom.master))
     ∧ (∀ (src : Fin 1024) (standby : Bool) (s : State), domRoleNow s = .master →
       Runs (.joinReq src standby) s (fun t =>
         (memberF (framesOf s) src.val = true → src.val ∈ t.dom.members ∧ t.dom.mgen = (s.dom.mgen + 1) % 2 ^ 16
           ∧ t.dom.standby = if standby = true ∧ s.dom.standby = 0xFFFF then src.val else s.dom.standby)
         ∧ (memberF (framesOf s) src.val = false → t.dom = s.dom)))
     ∧ (∀ (mgen : Fin 65536) (bepoch : Nat) (s : State), s.dom.role = .joining ∨ s.dom.role = .standby →
       Runs (.joinAck true mgen bepoch) s (fun t => t.dom.admitAt = some bepoch ∧ t.dom.mgen = mgen.val ∧ flag t Reg.DOM_EVENT F.DOM_EVENT_JOIN = true
         ∧ t.dom.role = (if s.dom.role = .standby then .standby else .member)))
     ∧ (∀ (mgen : Fin 65536) (node : Fin 1024) (kind : Fin 256) (s : State), s.dom.role ≠ .none_ → s.dom.role ≠ .master →
       Runs (.member mgen node kind) s (fun t => t.dom.mgen = mgen.val ∧ (kind.val = 1 → node.val ∈ t.dom.members)
         ∧ (kind.val = 2 ∨ kind.val = 3 → node.val ∉ t.dom.members ∧ (node.val = ownNode s → t.dom.admitAt = none ∧ (s.dom.role = .member → t.dom.role = .joining))))))

/-- Rests on R645. The water-filling allocation. When the floors of the nodes that reported leave room, the shares never add up to more than the budget,
no share lies below its floor, and OVERSUB is not set; otherwise every share is its floor and OVERSUB is set. -/
def Obligations.AllocationWithinBudget : Prop :=
  ∀ (b : Nat) (l : List Want), (∀ w ∈ l, w.floor ≤ 65535 ∧ w.demand ≤ 65535) →
    let a := allocate (some b) l
    (a.1.map (fun p => p.1) = l)
    ∧ ((l.map (fun w => w.floor)).sum < b → a.2 = false ∧ (a.1.map (fun p => p.2)).sum ≤ b ∧ ∀ p ∈ a.1, p.1.floor ≤ p.2 ∧ p.2 ≤ 65535)
    ∧ (b ≤ (l.map (fun w => w.floor)).sum → a.2 = true ∧ ∀ p ∈ a.1, p.2 = p.1.floor)

/-- Rests on R684, R685, R691, R699–R702, R704, R705, R723. Loads, stores, fences and atomics of a running core. A load returns the core's own buffered
stores over memory; a store waits in the store buffer, invisible to others, until it drains; a qualifying FENCE, an AMO and a successful SC leave
the buffer empty; an access outside the map, to TCM in user mode, outside the plane window or misaligned where that is not allowed answers its
fault. -/
def Obligations.CoreAccessResults : Prop :=
  let can (s : State) (core : CoreIx) : Prop := coreRuns s core.val = true ∧ coreStalled s core.val = false
  let whole (s : State) : Prop := ∀ l, (dirtyOf s l).data = [] ∨ (dirtyOf s l).data.length = 64
  (∀ (core : CoreIx) (addr : Word) (size : Fin 3) (s : State), let len := 2 ^ size.val
    can s core → addr.toNat + len ≤ 0x10000 →
    Runs (.coreLoad core false true addr size) s (fun t => t.resp = .word (BitVec.ofNat 32
      (leAt ((List.range len).map (fun i => tabGet 0 (coreOf s core.val).tcm (addr.toNat + i))) 0 len)))
    ∧ Runs (.coreLoad core true true addr size) s (fun t => t.resp = .fault 5)
    ∧ ∀ val : Word, Runs (.coreStore core false true addr size val) s (fun t => (∀ i, i < len →
        tabGet 0 (coreOf t core.val).tcm (addr.toNat + i) = BitVec.ofNat 8 (val.toNat / 2 ^ (8 * i)))
        ∧ (∀ a, a < addr.toNat ∨ addr.toNat + len ≤ a → tabGet 0 (coreOf t core.val).tcm a = tabGet 0 (coreOf s core.val).tcm a))
      ∧ Runs (.coreStore core true true addr size val) s (fun t => t.resp = .fault 7 ∧ (coreOf t core.val).tcm = (coreOf s core.val).tcm))
  ∧ (∀ (core : CoreIx) (user : Bool) (addr : Word) (size : Fin 3) (ix : Nat) (c : Bool) (s : State), let len := 2 ^ size.val
    can s core → targetOf addr.toNat len = .mem ix c →
    (memIn s (coreOf s core.val).tag ix len = true → (coreOf s core.val).miss.length ≤ 6 →
      Runs (.coreLoad core user true addr size) s (fun t => t.resp = .word (BitVec.ofNat 32 (leAt (loadBytes s core.val ix len) 0 len))
        ∧ ∀ a, memByte t a = memByte s a))
    ∧ (memIn s (coreOf s core.val).tag ix len = false → Runs (.coreLoad core user true addr size) s (fun t => t.resp = .fault 5))
    ∧ ∀ val : Word,
      (memIn s (coreOf s core.val).tag ix len = true → (coreOf s core.val).sb.length < 8 →
        Runs (.coreStore core user true addr size val) s (fun t => (coreOf t core.val).sb = (coreOf s core.val).sb ++ [{ addr := addr.toNat, bytes := leBytes len val.toNat }]
          ∧ ∀ a, memByte t a = memByte s a))
      ∧ (memIn s (coreOf s core.val).tag ix len = false →
        Runs (.coreStore core user true addr size val) s (fun t => t.resp = .fault 7 ∧ (coreOf t core.val).sb = (coreOf s core.val).sb
          ∧ fld t Reg.TOP_PLANE_VIOL_CNT ⟨0, 16⟩ = min (fld s Reg.TOP_PLANE_VIOL_CNT ⟨0, 16⟩ + 1) 65535 ∧ ∀ a, memByte t a = memByte s a)))
  ∧ (∀ (core : CoreIx) (user pmp : Bool) (addr val : Word) (size : Fin 3) (s : State), let len := 2 ^ size.val
    can s core → (targetOf addr.toNat len = .none ∨ (0x40000000 ≤ addr.toNat ∧ addr.toNat % len = 0 ∧ len ≠ 4)) →
    Runs (.coreLoad core user pmp addr size) s (fun t => t.resp = .fault 5)
    ∧ Runs (.coreStore core user pmp addr size val) s (fun t => t.resp = .fault 7))
  ∧ (∀ (core : CoreIx) (e : BufStore) (rest : List BufStore) (ix : Nat) (c : Bool) (s : State), fwOn s = true → whole s →
    (coreOf s core.val).sb = e :: rest → targetOf e.addr e.bytes.length = .mem ix c →
    Runs (.storeBufferDrain core) s (fun t => (coreOf t core.val).sb = rest
      ∧ (∀ i, i < e.bytes.length → memByte t (ix + i) = e.bytes.getD i 0)
      ∧ ∀ a, a < ix ∨ ix + e.bytes.length ≤ a → memByte t a = memByte s a))
  ∧ (∀ (core : CoreIx) (predW succR : Bool) (s : State), coreRuns s core.val = true →
    Runs (.fence core predW succR) s (fun t => (predW = true → succR = true → (coreOf t core.val).sb = []) ∧ (predW = false ∨ succR = false → t = s)))
  ∧ (∀ (core : CoreIx) (s : State), coreRuns s core.val = true →
    Runs (.fenceI core) s (fun t => (coreOf t core.val).sb = [] ∧ ∀ l, cached t core.val true l = false))
  ∧ (∀ (core : CoreIx) (user : Bool) (op : AmoOp) (addr val : Word) (ix : Nat) (c : Bool) (s : State), can s core → whole s → addr.toNat % 4 = 0 →
    targetOf addr.toNat 4 = .mem ix c → memIn s (coreOf s core.val).tag ix 4 = true →
    Runs (.amo core user true op addr val) s (fun t => (coreOf t core.val).sb = []
      ∧ ∃ old : Word, t.resp = .word old ∧ memWord t ix = amoWord op old val ∧ ((coreOf s core.val).sb = [] → old = memWord s ix))
    ∧ Runs (.lr core user true addr) s (fun t => (coreOf t core.val).resv = some (ix / 64)
        ∧ t.resp = .word (BitVec.ofNat 32 (leAt (loadBytes s core.val ix 4) 0 4)))
    ∧ ((coreOf s core.val).resv = some (ix / 64) →
        Runs (.sc core user true addr val) s (fun t => t.resp = .word 0 ∧ memWord t ix = val ∧ (coreOf t core.val).sb = [] ∧ (coreOf t core.val).resv = none))
    ∧ ((coreOf s core.val).resv ≠ some (ix / 64) →
        Runs (.sc core user true addr val) s (fun t => t.resp = .word 1 ∧ (coreOf t core.val).resv = none ∧ ∀ a, memByte t a = memByte s a)))
  ∧ (∀ (core : CoreIx) (user pmp : Bool) (op : AmoOp) (addr val : Word) (s : State), can s core →
    (addr.toNat % 4 ≠ 0 → Runs (.amo core user pmp op addr val) s (fun t => t.resp = .fault 6) ∧ Runs (.lr core user pmp addr) s (fun t => t.resp = .fault 4)
      ∧ Runs (.sc core user pmp addr val) s (fun t => t.resp = .fault 6))
    ∧ (addr.toNat % 4 = 0 → (∀ ix c, targetOf addr.toNat 4 ≠ .mem ix c) → Runs (.amo core user pmp op addr val) s (fun t => t.resp = .fault 7)
      ∧ Runs (.lr core user pmp addr) s (fun t => t.resp = .fault 7) ∧ Runs (.sc core user pmp addr val) s (fun t => t.resp = .fault 7)))

/-- Rests on R692, R695–R697, R713, R719–R722. What else changes a core and its caches. mplane takes a tag of TAGS only; a fill brings its line unless
another agent wrote it; a write-back puts its line into memory and no byte changes; MTIME_COMPARE raises the timer interrupt; corrected errors are
counted, a double-bit error faults the access, one in a dirty line restarts the core; a register access without answer faults. -/
def Obligations.CoreCacheAndErrorResults : Prop :=
  (∀ (core : CoreIx) (val : Word) (s : State), coreRuns s core.val = true → let tag := val.toNat % 4
    Runs (.mplaneWrite core false val) s (fun t => (coreOf t core.val).tag =
      (if tag < 3 ∧ bitOf (coreTags s core.val) tag = true then tag else (coreOf s core.val).tag))
    ∧ Runs (.mplaneWrite core true val) s (fun t => t.resp = .fault 2 ∧ (coreOf t core.val).tag = (coreOf s core.val).tag))
  ∧ (∀ (core : CoreIx) (icache : Bool) (line : Fin 81920) (m : MissReg) (s : State), fwOn s = true →
    (coreOf s core.val).miss.find? (fun m => m.icache == icache && m.line == line.val) = some m →
    Runs (.cacheFillDone core icache line) s (fun t => (∀ x ∈ (coreOf t core.val).miss, ¬ (x.icache = icache ∧ x.line = line.val))
      ∧ (m.stale = false → cached t core.val icache line.val = true) ∧ (m.stale = true → cached t core.val icache line.val = cached s core.val icache line.val)))
  ∧ (∀ (core : CoreIx) (line : Fin 81920) (s : State), coreRuns s core.val = true → cached s core.val true line.val = false →
    (coreOf s core.val).miss.find? (fun m => m.icache == true && m.line == line.val) = none →
    Runs (.cacheFillDone core true line) s (fun t => cached t core.val true line.val = true
      ∧ fld t (Reg.FWC_MISS_CNT core.val) F.FWC_MISS_CNT_IMISS = min (fld s (Reg.FWC_MISS_CNT core.val) F.FWC_MISS_CNT_IMISS + 1) 65535))
  ∧ (∀ (core : CoreIx) (l : Nat) (rest : List Nat) (s : State), fwOn s = true → (coreOf s core.val).wb = l :: rest → (dirtyOf s l).core = core.val →
    (dirtyOf s l).data.length = 64 →
    Runs (.writebackDrain core) s (fun t => l ∉ (coreOf t core.val).wb ∧ (dirtyOf t l).data = [] ∧ (∀ i, i < 64 → tabGet 0 t.fwc.mem (l * 64 + i) = (dirtyOf s l).data.getD i 0)
      ∧ ∀ a, memByte t a = memByte s a))
  ∧ (∀ (core : CoreIx) (s : State), fwOn s = true →
    Runs (.mtimeCompare core) s (fun t => timerIrq t core.val = true ∧ t.fwc.mtime = max s.fwc.mtime (tabGet 0 s.fwc.mtimecmp core.val)))
  ∧ (∀ (ix : Fin 5242880) (core : Option CoreIx) (fetch : Bool) (s : State),
    Runs (.memoryEccError ix false core fetch) s (fun t => fld t Reg.FWC_SRAM_ECC F.FWC_SRAM_ECC_CORR = min (fld s Reg.FWC_SRAM_ECC F.FWC_SRAM_ECC_CORR + 1) 65535)
    ∧ Runs (.memoryEccError ix true core fetch) s (fun t => flag t Reg.FWC_EVENT F.FWC_EVENT_SRAM_UE = true
      ∧ fld t Reg.FWC_SRAM_ECC F.FWC_SRAM_ECC_UNCORR = min (fld s Reg.FWC_SRAM_ECC F.FWC_SRAM_ECC_UNCORR + 1) 65535
      ∧ ∀ c, core = some c → coreRuns s c.val = true → t.resp = .fault (if fetch then 1 else 5)))
  ∧ (∀ (core : CoreIx) (icache : Bool) (line : Fin 81920) (double : Bool) (s : State),
    (¬ (icache = false ∧ (dirtyOf s line.val).data ≠ [] ∧ (dirtyOf s line.val).core = core.val) → cached s core.val icache line.val = true →
      Runs (.cacheEccError core icache line double) s (fun t => cached t core.val icache line.val = true
        ∧ fld t (Reg.FWC_ECC_CNT core.val) (if icache then F.FWC_ECC_CNT_ICORR else F.FWC_ECC_CNT_DCORR)
          = min (fld s (Reg.FWC_ECC_CNT core.val) (if icache then F.FWC_ECC_CNT_ICORR else F.FWC_ECC_CNT_DCORR) + 1) 255))
    ∧ ((dirtyOf s line.val).data ≠ [] → (dirtyOf s line.val).core = core.val → coreRuns s core.val = true → s.fwc.ld.phase = .idle →
      (coreOf s core.val).streak < fld s Reg.FWC_LIVE_CFG F.FWC_LIVE_CFG_RESTART_MAX →
      Runs (.cacheEccError core false line true) s (fun t => flag t Reg.FWC_EVENT F.FWC_EVENT_CACHE_UE = true
        ∧ (coreOf t core.val).state = .restart ∧ (coreOf t core.val).cause = .cacheEcc)))
  ∧ (∀ (core : CoreIx) (store : Bool) (s : State), coreRuns s core.val = true →
    Runs (.registerAccessTimeout core store) s (fun t => t.resp = .fault (if store then 7 else 5) ∧ flag t Reg.FWC_EVENT F.FWC_EVENT_BUS_TIMEOUT = true))

/-- Rests on R707–R712. The mailbox block, as a running core or SEC reaches it. A flag word is written by the plane it belongs to; a doorbell or message
is admitted when the writer's tag lies in the target's TAGS; a 17th word is lost and counted; only the owner pops, oldest first. A write not
admitted changes neither and is counted. -/
def Obligations.MailboxResults : Prop :=
  let can (s : State) (w : Fin 9) : Prop := if w.val < 8 then coreRuns s w.val = true ∧ coreStalled s w.val = false else s.fwc.secUp = true ∧ fwOn s = true
  let counted (s t : State) : Prop := fld t Reg.TOP_PLANE_VIOL_CNT ⟨0, 16⟩ = min (fld s Reg.TOP_PLANE_VIOL_CNT ⟨0, 16⟩ + 1) 65535
  (∀ (w : Fin 9) (word : Fin 64) (val : Word) (s : State), can s w →
    Runs (.mbxFlagWrite w word val) s (fun t =>
      (flagPlaneF (framesOf s) word.val = tagOf s w.val → tabGet 0 t.fwc.flags word.val = val ∧ ∀ k, k ≠ word.val → tabGet 0 t.fwc.flags k = tabGet 0 s.fwc.flags k)
      ∧ (flagPlaneF (framesOf s) word.val ≠ tagOf s w.val → t.fwc.flags = s.fwc.flags ∧ counted s t)))
  ∧ (∀ (w target : Fin 9) (bits : Word) (s : State), can s w →
    Runs (.mbxDbSet w target bits) s (fun t =>
      (tagIn s w.val target.val = true → (mbxOf t target.val).db = (mbxOf s target.val).db ||| bits)
      ∧ (tagIn s w.val target.val = false → t.fwc.mbx = s.fwc.mbx ∧ counted s t)))
  ∧ (∀ (w target : Fin 9) (word : Word) (s : State), can s w →
    Runs (.mbxMsg w target word) s (fun t =>
      (tagIn s w.val target.val = true → (mbxOf s target.val).queue.length < 16 →
        (mbxOf t target.val).queue = (mbxOf s target.val).queue ++ [word] ∧ (mbxOf t target.val).lost = (mbxOf s target.val).lost)
      ∧ (tagIn s w.val target.val = true → 16 ≤ (mbxOf s target.val).queue.length →
        (mbxOf t target.val).queue = (mbxOf s target.val).queue ∧ (mbxOf t target.val).lost = min ((mbxOf s target.val).lost + 1) 65535
          ∧ flag t Reg.FWC_EVENT F.FWC_EVENT_MSG_OVERFLOW = true)
      ∧ (tagIn s w.val target.val = false → t.fwc.mbx = s.fwc.mbx ∧ counted s t)))
  ∧ (∀ (w target : Fin 9) (s : State), can s w →
    Runs (.mbxMsgPop w target) s (fun t =>
      (w = target → t.resp = .word ((mbxOf s w.val).queue.headD 0) ∧ (mbxOf t w.val).queue = (mbxOf s w.val).queue.tail)
      ∧ (w ≠ target → t.fwc.mbx = s.fwc.mbx ∧ t.resp = (if w.val < 8 then .fault 5 else .word 0))))

/-- Rests on R732, R734–R736, R750, R758, R761. The firmware loader. A GO that passes checks 1–6 begins the first pass; a fetch error or a wrong MAGIC
ends the load with its result; an image that passes checks 7–20 begins the second pass, which puts every target in LOADED, or stops with
WRITE_CHECK. A refused or stopped load changes no core. ABORT ends a load ABORTED, or a handover by a rollback into the previous image. FWC_WDOG_n
and FWC_LIVE_CFG take words in range only. -/
def Obligations.FirmwareLoadResults : Prop :=
  (∀ (who : Initiator) (live : Bool) (cores : Byte) (s : State), admits s who Reg.FWC_LD_CTL (1 + 4 * b2n live + 256 * cores.toNat) = true →
    let len := (rd s Reg.FWC_LD_LEN).toNat
    let src := fld s Reg.FWC_LD_SRC F.FWC_LD_SRC_SRC
    let addr := rd64 s Reg.FWC_LD_ADDR_LO
    flag s Reg.TOP_SUPPLY F.TOP_SUPPLY_SEC_OK = true → ldBusy s = false → loadActive s = false → s.sec.run = none →
    s.top.state ∈ [.loaded, .ramp, .run] →
    Runs (.fwLoadGo who live cores) s (fun t =>
      (coreList cores.toNat ≠ [] → (∀ n ∈ coreList cores.toNat, coreEnF (framesOf s) n = true ∧
          (if live = true then (coreOf s n).state = .ready else (coreOf s n).state ∈ [.reset, .loaded, .failed])) →
        (live = true → ∀ n, n < 8 → (coreOf s n).state ≠ .restart ∧ (coreOf s n).state ≠ .quiesce) →
        432 ≤ len → len ≤ 1048576 → len % 16 = 0 → srcOk src addr len = true → mgmtSrc s src addr len = true →
        t.fwc.ld.phase = .fetch ∧ t.fwc.ld.cores = cores.toNat ∧ t.fwc.ld.live = live ∧ t.fwc.core = s.fwc.core
          ∧ fld t Reg.FWC_LD_STATUS F.FWC_LD_STATUS_RESULT = 1)
      ∧ (coreList cores.toNat = [] ∨ (∃ n ∈ coreList cores.toNat, coreEnF (framesOf s) n = false) →
        t.fwc.ld.phase = .idle ∧ t.fwc.core = s.fwc.core ∧ fld t Reg.FWC_LD_STATUS F.FWC_LD_STATUS_RESULT = 0x70)))
  ∧ (∀ (got : Fetched) (s : State), fwOn s = true → s.fwc.ld.phase = .fetch →
    let taken := fetchTake s (fld s Reg.FWC_LD_SRC F.FWC_LD_SRC_SRC) (rd64 s Reg.FWC_LD_ADDR_LO) (rd s Reg.FWC_LD_LEN).toNat got
    Runs (.fwVerifyDone got) s (fun t => t.fwc.core = s.fwc.core
      ∧ (taken = none → t.fwc.ld.phase = .idle ∧ fld t Reg.FWC_LD_STATUS F.FWC_LD_STATUS_RESULT = 0x20)
      ∧ (∀ b, taken = some b → leAt b 0 4 ≠ 0x57464246 → t.fwc.ld.phase = .idle ∧ fld t Reg.FWC_LD_STATUS F.FWC_LD_STATUS_RESULT = 0x22)
      ∧ (∀ b, taken = some b → leAt b 0 4 = 0x57464246 → leAt b 4 2 = 1 → fwHeaderBad b = none → leAt b 8 4 = (rd s Reg.FWC_LD_LEN).toNat →
          leAt b 0x0D 1 = 0xB0 → leAt b 0x10 1 = 3 → (∀ n ∈ coreList s.fwc.ld.cores, coreRoleF (framesOf s) n = leAt b 0x0C 1) →
          let sig := leAt b 0x1C 4
          (keyOk s b sig = false → t.fwc.ld.phase = .idle ∧ fld t Reg.FWC_LD_STATUS F.FWC_LD_STATUS_RESULT = 0x30)
          ∧ (keyOk s b sig = true → sigOk b sig (sig + 0x80) = false → t.fwc.ld.phase = .idle ∧ fld t Reg.FWC_LD_STATUS F.FWC_LD_STATUS_RESULT = 0x31)
          ∧ (keyOk s b sig = true → sigOk b sig (sig + 0x80) = true → leAt b 0x14 2 < thermo s.sec.fuse.fwRb →
              t.fwc.ld.phase = .idle ∧ fld t Reg.FWC_LD_STATUS F.FWC_LD_STATUS_RESULT = 0x32)
          ∧ (keyOk s b sig = true → sigOk b sig (sig + 0x80) = true → thermo s.sec.fuse.fwRb ≤ leAt b 0x14 2 → t.fwc.ld.phase = .write →
              t.fwc.ld.bytes = b ∧ ∃ i : FwImg, t.fwc.ld.img = some i ∧ i.entry = leAt b 0x18 4 ∧ i.segs = fwSegs b ∧ fwOverlap s i = none))))
  ∧ (∀ (got : Fetched) (i : FwImg) (b : List Byte) (s : State), fwOn s = true → s.fwc.ld.phase = .write → s.fwc.ld.img = some i →
    fetchTake s (fld s Reg.FWC_LD_SRC F.FWC_LD_SRC_SRC) (rd64 s Reg.FWC_LD_ADDR_LO) s.fwc.ld.bytes.length got = some b →
    let data (k : Nat) (g : FwSeg) : List Byte := (b.drop (fwSegAt s.fwc.ld.bytes k)).take g.len
    Runs (.fwWriteDone got) s (fun t =>
      ((∃ g ∈ i.segs.zipIdx, crc32c (data g.2 g.1) ≠ g.1.check) → t.fwc.core = s.fwc.core ∧ t.fwc.mem = s.fwc.mem ∧ t.fwc.dirty = s.fwc.dirty
        ∧ t.fwc.ld.phase = .idle ∧ fld t Reg.FWC_LD_STATUS F.FWC_LD_STATUS_RESULT = 0x77)
      ∧ ((∀ g ∈ i.segs.zipIdx, crc32c (data g.2 g.1) = g.1.check) → s.fwc.ld.live = false →
        t.fwc.ld.phase = .idle ∧ fld t Reg.FWC_LD_STATUS F.FWC_LD_STATUS_RESULT = 2
        ∧ (∀ n ∈ coreList s.fwc.ld.cores, (coreOf t n).state = .loaded ∧ (coreOf t n).img = some i)
        ∧ (∀ n, n ∉ coreList s.fwc.ld.cores → (coreOf t n).state = (coreOf s n).state ∧ (coreOf t n).img = (coreOf s n).img ∧ (coreOf t n).tcm = (coreOf s n).tcm))))
  ∧ (∀ (who : Initiator) (s : State), admits s who Reg.FWC_LD_CTL 2 = true →
    Runs (.fwLoadAbort who) s (fun t =>
      (s.fwc.ld.phase ∈ [.fetch, .verify, .check, .write] → t.fwc.ld.phase = .idle ∧ t.fwc.core = s.fwc.core ∧ fld t Reg.FWC_LD_STATUS F.FWC_LD_STATUS_RESULT = 0x15)
      ∧ (s.fwc.ld.phase = .handover → ∀ n ∈ coreList s.fwc.ld.cores, n ∈ s.fwc.ld.handed → (coreOf t n).img = (coreOf s n).prev)))
  ∧ (∀ (who : Initiator) (core : CoreIx) (val : Word) (s : State), admits s who (Reg.FWC_WDOG core.val) val.toNat = true →
    Runs (.fwcWdogWrite who (some core) val) s (fun t => rd t (Reg.FWC_WDOG core.val) =
      (if val.toNat % 2 ^ 16 ≠ 0 ∧ val.toNat / 2 ^ 16 ≠ 0 then val else rd s (Reg.FWC_WDOG core.val))))
  ∧ (∀ (who : Initiator) (val : Word) (s : State), admits s who Reg.FWC_LIVE_CFG val.toNat = true →
    Runs (.fwcWdogWrite who none val) s (fun t => rd t Reg.FWC_LIVE_CFG =
      (if val.toNat % 2 ^ 8 ≠ 0 ∧ val.toNat / 2 ^ 8 % 2 ^ 4 ≠ 0 then val &&& 0xFFF else rd s Reg.FWC_LIVE_CFG)))

/-- Rests on R737, R739–R741, R743–R746, R749, R756, R757. A core's life. RELEASE copies the TCM from the retained area and starts the core in machine
mode with the lowest tag of TAGS; a retained area that fails its CHECK holds it in FAILED. A restart by HOST, SELF, the watchdog or the ready timer
puts it in RESTART with that cause and writes no active copy; after RESTART_MAX of them it is held in FAILED. SEC's watchdog leaves the cores alone. -/
def Obligations.CoreLifeResults : Prop :=
  let mayRestart (s : State) (n : Nat) : Prop := (coreOf s n).streak < fld s Reg.FWC_LIVE_CFG F.FWC_LIVE_CFG_RESTART_MAX
  let restarted (s t : State) (n : Nat) (c : RestartCause) : Prop := (coreOf t n).state = .restart ∧ (coreOf t n).cause = c ∧ (coreOf t n).ready = false
    ∧ (coreOf t n).sb = [] ∧ t.active = s.active ∧ t.top.commits = s.top.commits ∧ ∀ m, m ≠ n → (coreOf t m).state = (coreOf s m).state
  let begins (s t : State) (n : Nat) (i : FwImg) (again : Bool) : Prop := (coreOf t n).state = .run ∧ (coreOf t n).ready = false ∧ (coreOf t n).user = false
    ∧ (coreOf t n).tcm = tcmImage s i ∧ (coreOf t n).wasRestarted = again ∧ (coreOf t n).wdFrom = now s ∧ (coreOf t n).readyFrom = now s
    ∧ (coreOf t n).iways = coreIwaysF (framesOf s) n ∧ (coreOf t n).dways = coreDwaysF (framesOf s) n
    ∧ (coreTagsF (framesOf s) n % 2 = 1 → (coreOf t n).tag = 0) ∧ (coreTagsF (framesOf s) n = 6 → (coreOf t n).tag = 1) ∧ (coreTagsF (framesOf s) n = 4 → (coreOf t n).tag = 2)
  (∀ (who : Initiator) (core : CoreIx) (i : FwImg) (s : State), admits s who (Reg.FWC_CORE_CTL core.val) 0x5A01 = true → (coreOf s core.val).state = .loaded →
    (coreOf s core.val).img = some i →
    Runs (.release who core) s (fun t => (retainOk s i = true → begins s t core.val i false)
      ∧ (retainOk s i = false → (coreOf t core.val).state = .failed ∧ flag t Reg.FWC_LD_EVENT F.FWC_LD_EVENT_RETAIN_BAD = true)))
  ∧ (∀ (core : CoreIx) (i : FwImg) (s : State), fwOn s = true → (coreOf s core.val).state = .restart → (coreOf s core.val).img = some i → retainOk s i = true →
    s.fwc.ld.phase ≠ .rollback → Runs (.coreRestartRelease core) s (fun t => begins s t core.val i true))
  ∧ (∀ (who : Initiator) (core : CoreIx) (s : State), admits s who (Reg.FWC_CORE_CTL core.val) 0x5A02 = true →
    (coreOf s core.val).state ∈ [.run, .ready, .quiesce] → s.fwc.ld.phase = .idle →
    Runs (.restart who core) s (fun t => (s.top.rst = none → mayRestart s core.val → restarted s t core.val .host)
      ∧ (s.top.rst = none → (coreOf s core.val).ready = false → ¬ mayRestart s core.val → (coreOf t core.val).state = .failed
          ∧ flag t Reg.FWC_LD_EVENT F.FWC_LD_EVENT_CORE_FAILED = true)
      ∧ (s.top.rst.isSome = true → t.fwc = s.fwc ∧ fld t Reg.TOP_RST_STATUS F.TOP_RST_STATUS_RESULT = 7)))
  ∧ (∀ (core : CoreIx) (s : State), coreRuns s core.val = true → s.fwc.ld.phase = .idle → mayRestart s core.val →
    Runs (.restartSelf core) s (fun t => (s.top.rst = none → restarted s t core.val .self)
      ∧ (s.top.rst.isSome = true → t.fwc = s.fwc ∧ fld t Reg.TOP_RST_STATUS F.TOP_RST_STATUS_RESULT = 7))
    ∧ Runs (.watchdogExpiry core) s (fun t => restarted s t core.val .watchdog)
    ∧ ((coreOf s core.val).state = .run → (coreOf s core.val).ready = false → Runs (.readyTimeout core) s (fun t => restarted s t core.val .readyTimeout)))
  ∧ (∀ (core : CoreIx) (s : State), coreRuns s core.val = true →
    Runs (.kick core) s (fun t => (coreOf t core.val).wdFrom = now s ∧ (coreOf t core.val).wdLen = fld s (Reg.FWC_WDOG core.val) F.FWC_WDOG_WD_T * 10000)
    ∧ (s.fwc.ld.phase = .idle → Runs (.readyWe core true) s (fun t => (coreOf t core.val).ready = true
        ∧ ((coreOf s core.val).state ≠ .quiesce → (coreOf t core.val).state = .ready)))
    ∧ ((coreOf s core.val).state ≠ .quiesce → Runs (.readyWe core false) s (fun t => (coreOf t core.val).ready = false ∧ (coreOf t core.val).state = .run)))
  ∧ (∀ (core : CoreIx) (i : FwImg) (s : State), fwOn s = true → (coreOf s core.val).state = .quiesce → s.fwc.ld.img = some i → mayRestart s core.val →
    Runs (.quiesceTimeout core) s (fun t => flag t Reg.FWC_LD_EVENT F.FWC_LD_EVENT_QUIESCE_TIMEOUT = true ∧ (coreOf t core.val).state = .restart
      ∧ (coreOf t core.val).cause = .liveUpdate ∧ (coreOf t core.val).img = some i ∧ (coreOf t core.val).prev = (coreOf s core.val).img))
  ∧ (∀ s : State, s.fwc.secUp = true → fwOn s = true → s.top.state ≠ .off → s.top.porHeld = false →
    Runs .secWatchdog s (fun t => flag t Reg.TOP_SUPPLY F.TOP_SUPPLY_SEC_OK = false ∧ flag t Reg.FWC_LD_EVENT F.FWC_LD_EVENT_SEC_WDOG = true
      ∧ t.fwc.secUp = false ∧ t.fwc.core = s.fwc.core))
  ∧ (∀ (secOk idOk : Bool) (s : State), s.fwc.secUp = false →
    Runs (.secRebootDone secOk idOk) s (fun t => t.fwc.secUp = true ∧ flag t Reg.TOP_SUPPLY F.TOP_SUPPLY_SEC_OK = secOk))

/-- Rests on R765, R766, R770–R772, R774–R776, R779, R793, R794, R797–R800, R814, R818. The host rings in hardware. Enabling a ring that meets R770
makes it RUNNING with indexes 0 and phase 1, otherwise it is DISABLED with ERR CONFIG; a doorbell out of range puts it in ERROR; a fetch takes the
entry at the SQ head while a completion slot is free; a completion is written at the CQ tail; a telemetry sample goes to host memory or is counted
as missed; a function that ceases to exist loses its rings and partitions; through Window 2 a function writes the enabled bytes and reads the ring
memory it may, and zeros elsewhere. -/
def Obligations.HostRingResults : Prop :=
  let rings (s : State) (who : Initiator) (ring : Fin 64) (cq : Bool) (val : Word) : Prop :=
    admits s who (doorbellOff who ring.val cq) val.toNat = true
    ∨ ∃ (k : Nat) (h : k + 1 < 64), who = .host ⟨k + 1, h⟩ ∧ reachable s who = true ∧ hostStuck s who = false ∧ s.top.rst = none ∧ ringOwner s ring.val = k + 1
  (∀ (who : Initiator) (ring : Fin 64) (val : Word) (s : State), let v := val.toNat ||| 1
    admits s who (Reg.HIR_RING_CFG ring.val) v = true → flag s (Reg.HIR_RING_CFG ring.val) F.HIR_RING_CFG_EN = false →
    Runs (.ringEnable who ring val) s (fun t => rd t (Reg.HIR_RING_CFG ring.val) = BitVec.ofNat 32 (v &&& 0x3FFF3F03)
      ∧ (ringCfgOk (wrN s (Reg.HIR_RING_CFG ring.val) (v &&& 0x3FFF3F03)) ring.val = true → (ringOf t ring.val).state = .running ∧ (ringOf t ring.val).sqHead = 0
          ∧ (ringOf t ring.val).sqTail = 0 ∧ (ringOf t ring.val).cqHead = 0 ∧ (ringOf t ring.val).cqTail = 0 ∧ (ringOf t ring.val).phase = true ∧ (ringOf t ring.val).err = 0)
      ∧ (ringCfgOk (wrN s (Reg.HIR_RING_CFG ring.val) (v &&& 0x3FFF3F03)) ring.val = false → (ringOf t ring.val).state = .disabled ∧ (ringOf t ring.val).err = 1)))
  ∧ (∀ (who : Initiator) (ring : Fin 64) (s : State), let v := (rd s (Reg.HIR_RING_CFG ring.val)).toNat / 2 * 2
    admits s who (Reg.HIR_RING_CFG ring.val) v = true → flag s (Reg.HIR_RING_CFG ring.val) F.HIR_RING_CFG_EN = true →
    Runs (.ringDisable who ring) s (fun t => flag t (Reg.HIR_RING_CFG ring.val) F.HIR_RING_CFG_EN = false
      ∧ (ringIdle s ring.val = true → (ringOf t ring.val).state = .disabled)
      ∧ ((ringOf s ring.val).state ≠ .disabled → ringIdle s ring.val = false → (ringOf t ring.val).state = .stopping)))
  ∧ (∀ (who : Initiator) (ring : Fin 64) (val : Word) (s : State), rings s who ring false val → ringOn s ring.val = true → ringTel s ring.val = false →
    Runs (.sqDoorbell who ring val) s (fun t =>
      (val.toNat % 4096 < sqSize s ring.val → (ringOf t ring.val).sqTail = val.toNat % 4096 ∧ (ringOf t ring.val).state = (ringOf s ring.val).state)
      ∧ (sqSize s ring.val ≤ val.toNat % 4096 → (ringOf t ring.val).state = .error ∧ (ringOf t ring.val).err = 3
          ∧ (ringOf t ring.val).sqTail = (ringOf s ring.val).sqTail ∧ flag t Reg.HIR_EVENT F.HIR_EVENT_RING_ERR = true)))
  ∧ (∀ (who : Initiator) (ring : Fin 64) (val : Word) (s : State), rings s who ring true val → ringOn s ring.val = true →
    let h := val.toNat % 4096
    let n := cqSize s ring.val
    let ok := h < n ∧ (h + n - (ringOf s ring.val).cqHead) % n ≤ ((ringOf s ring.val).cqTail + n - (ringOf s ring.val).cqHead) % n
    Runs (.cqDoorbell who ring val) s (fun t =>
      (ok → (ringOf t ring.val).cqHead = h ∧ (ringOf t ring.val).state = (ringOf s ring.val).state)
      ∧ (¬ ok → (ringOf t ring.val).state = .error ∧ (ringOf t ring.val).err = 2 ∧ (ringOf t ring.val).cqHead = (ringOf s ring.val).cqHead
          ∧ flag t Reg.HIR_EVENT F.HIR_EVENT_RING_ERR = true)))
  ∧ (∀ (ring : Fin 64) (bad : Bool) (s : State), let x := ringOf s ring.val
    Runs (.commandFetch ring bad) s (fun t =>
      (x.state = .running → ringTel s ring.val = false → x.sqHead ≠ x.sqTail → occupancy s ring.val < cqSize s ring.val - 1 →
        (ringOf t ring.val).sqHead = (x.sqHead + 1) % sqSize s ring.val
        ∧ (bad = false → (ringOf t ring.val).cmds = x.cmds ++ [readCmd s ring.val x.sqHead] ∧ (ringOf t ring.val).done = x.done)
        ∧ (bad = true → ∃ d : HirDone, (ringOf t ring.val).done = x.done ++ [d] ∧ d.cid = (readCmd s ring.val x.sqHead).cid ∧ d.status = 9))
      ∧ (x.state ≠ .running ∨ x.sqHead = x.sqTail ∨ cqSize s ring.val - 1 ≤ occupancy s ring.val → t = s)))
  ∧ (∀ (ring : Fin 64) (d : HirDone) (rest : List HirDone) (s : State), fwUp s = true → (ringOf s ring.val).state ≠ .disabled → ringTel s ring.val = false →
    (ringOf s ring.val).done = d :: rest →
    Runs (.completionPost ring) s (fun t => memRead t (sramSize + cqBase s ring.val + 64 * (ringOf s ring.val).cqTail) 64 = doneBytes s ring.val d
      ∧ (ringOf t ring.val).cqTail = ((ringOf s ring.val).cqTail + 1) % cqSize s ring.val
      ∧ (ringOf t ring.val).phase = (if (ringOf s ring.val).cqTail + 1 = cqSize s ring.val then !(ringOf s ring.val).phase else (ringOf s ring.val).phase)
      ∧ fld t (Reg.HIR_RING_CNT ring.val) F.HIR_RING_CNT_ENTRIES = min (fld s (Reg.HIR_RING_CNT ring.val) F.HIR_RING_CNT_ENTRIES + 1) 65535))
  ∧ (∀ (ring : Fin 64) (ok : Bool) (i : Nat) (s : State), let kind := aF s (Reg.HIR_TEL_CFG ring.val) F.HIR_TEL_CFG_KIND
    (ringOf s ring.val).state = .running → ringTel s ring.val = true → kind ≠ 0 → aF s (Reg.HIR_TEL_CFG ring.val) F.HIR_TEL_CFG_PERIOD ≠ 0 →
    telObjects s ring.val kind = [i] →
    Runs (.telemetrySample ring ok none) s (fun t =>
      (ok = true → s.top.pcieUp = true → cqUsed s ring.val + 1 < cqSize s ring.val → (ringOf t ring.val).missed = 0
        ∧ ∃ b : List Byte, b.length = 64 ∧ t.hir.hostOut = s.hir.hostOut ++ [(cqBase s ring.val + 64 * (ringOf s ring.val).cqTail, b)])
      ∧ (ok = false ∨ s.top.pcieUp = false ∨ cqSize s ring.val ≤ cqUsed s ring.val + 1 → (ringOf t ring.val).missed = min ((ringOf s ring.val).missed + 1) 65535
        ∧ t.hir.hostOut = s.hir.hostOut ∧ flag t Reg.HIR_EVENT F.HIR_EVENT_MISSED = true)))
  ∧ (∀ (ring : Fin 64) (s : State), let v := fld s (Reg.HIR_RING_CFG ring.val) F.HIR_RING_CFG_VEC
    0 < (ringOf s ring.val).agg → ringOwner s ring.val = 0 →
    Runs (.interruptAggregationTimer ring) s (fun t => (ringOf t ring.val).agg = 0
      ∧ (bitOf (tabGet 0 s.hir.unmask 0) v = true → t.hir.sent = if s.top.pcieUp then s.hir.sent ++ [(0, v)] else s.hir.sent)
      ∧ (bitOf (tabGet 0 s.hir.unmask 0) v = false → t.hir.sent = s.hir.sent ∧ bitOf (tabGet 0 t.hir.pba 0) v = true)))
  ∧ (∀ (vfs : Fin 64) (s : State), s.top.pcieUp = true →
    Runs (.vfDisable vfs) s (fun t => t.hir.vfs = vfs.val
      ∧ (∀ r, r < 64 → vfs.val < ringOwner s r → ringOwner s r ≤ s.hir.vfs → (ringOf s r).state ≠ .disabled → (ringOf t r).state = .disabled ∧ (ringOf t r).err = 5)
      ∧ ∀ p, p < 32 → fld t (Reg.HIR_PART_FUNC p) F.HIR_PART_FUNC_FUNC = (let f := fld s (Reg.HIR_PART_FUNC p) F.HIR_PART_FUNC_FUNC
          if vfs.val < f ∧ f ≤ s.hir.vfs then 0 else f)))
  ∧ (∀ (fn : Fin 64) (off : BitVec 20) (data : List (Option Byte)) (n bad : Nat) (s : State), reachable s (.host fn) = true → hostStuck s (.host fn) = false →
    Runs (.hostWindow2Write fn off (.write data)) s (fun t =>
      (window2Ok s fn.val off.toNat data.length = true → ∀ i, i < data.length →
        (memRead t (sramSize + off.toNat) data.length).getD i 0 = (match data.getD i none with | some b => b | none => (memRead s (sramSize + off.toNat) data.length).getD i 0))
      ∧ (window2Ok s fn.val off.toNat data.length = false → t.resp = .unsupported ∧ t.fwc = s.fwc ∧ t.top.aerUncorr = s.top.aerUncorr + 1))
    ∧ Runs (.hostWindow2Write fn off (.read n)) s (fun t => t.fwc = s.fwc
      ∧ t.resp = .data (if window2Ok s fn.val off.toNat n then memRead s (sramSize + off.toNat) n else List.replicate n 0))
    ∧ (window2Ok s fn.val off.toNat n = true → Runs (.hostWindow2Write fn off (.readUe n bad)) s (fun t => t.resp = .poison
      ∧ t.top.aerUncorr = s.top.aerUncorr + 1 ∧ flag t Reg.FWC_EVENT F.FWC_EVENT_SRAM_UE = true)))
  ∧ (∀ (ring : Fin 64) (n : Nat) (s : State), (ringOf s ring.val).state = .running → ringTel s ring.val = true →
    Runs (.dmaWriteAbandon (some ring) n) s (fun t => (ringOf t ring.val).missed = min ((ringOf s ring.val).missed + 1) 65535 ∧ (ringOf t ring.val).state = .running))
  ∧ (∀ (fn : Fin 64) (write : Bool) (s : State), reachable s (.host fn) = true →
    Runs (.hostRequestTimeout fn write) s (fun t => flag t Reg.TOP_INTEG_EVENT F.TOP_INTEG_EVENT_HOST_TIMEOUT = true ∧ t.resp = (if write then .none else .abort)))

/-- Rests on R737, R743, R783–R785, R789, R790, R802 and Tables 16.7 and 16.8. Host commands on identity, loads, cores, start, reset, registers and
partitions. The one command of a RUNNING ring of function 0, taken up while firmware works, ends with the completion its table gives: SUCCESS,
INVALID_FIELD, STATE, BUFFER, or the result code of the port it used; a command that waits has begun. -/
def Obligations.HostControlCommandResults : Prop :=
  let takes (s : State) (ring : RingIx) (cid : BitVec 16) (op : Nat) (c : HirCmd) : Prop := takesCmd s ring cid op c = true ∧ s.top.porHeld = false
  let waiting (t : State) (ring : RingIx) (cid : BitVec 16) : Prop := ∃ k : HirCmd, (ringOf t ring.val).cmds = [k] ∧ k.cid = cid.toNat ∧ k.began = true
  (∀ (ring : RingIx) (cid : BitVec 16) (out : DmaOut) (c : HirCmd) (s : State), takes s ring cid 0x01 c →
    Runs (.identify ring cid out) s (fun t =>
      (bufOk c 256 = true → out ≠ .failed → completed t ring cid 0 ∧ ∃ b : List Byte, b.length = 256 ∧ t.hir.hostOut = s.hir.hostOut ++ [(c.addr, b)])
      ∧ (bufOk c 256 = false ∨ out = .failed → completed t ring cid 7 ∧ t.hir.hostOut = s.hir.hostOut)))
  ∧ (∀ (ring : RingIx) (cid : BitVec 16) (c : HirCmd) (s : State), takes s ring cid 0x02 c → Runs (.status ring cid) s (fun t => completed t ring cid 0))
  ∧ (∀ (ring : RingIx) (cid : BitVec 16) (c : HirCmd) (s : State), takes s ring cid 0x10 c →
    Runs (.imageLoad ring cid) s (fun t => let x := fld t Reg.SEC_IMG_STATUS F.SEC_IMG_STATUS_RESULT
      (1 < prm c 0 1 → completed t ring cid 2 ∧ t.img = s.img)
      ∧ (prm c 0 1 = 0 → c.addr % 64 ≠ 0 → completed t ring cid 7 ∧ t.img = s.img)
      ∧ (prm c 0 1 ≤ 1 → (prm c 0 1 = 0 → c.addr % 64 = 0) →
          (x = 1 → waiting t ring cid) ∧ (x = 2 ∨ x = 3 → completed t ring cid 0) ∧ (x ≠ 1 → x ≠ 2 → x ≠ 3 → completed t ring cid (0x100 + x)))))
  ∧ (∀ (ring : RingIx) (cid : BitVec 16) (c : HirCmd) (s : State), takes s ring cid 0x11 c →
    Runs (.fwLoad ring cid) s (fun t => let x := fld t Reg.FWC_LD_STATUS F.FWC_LD_STATUS_RESULT
      (1 < prm c 1 1 ∨ 1 < prm c 2 1 → completed t ring cid 2 ∧ t.fwc = s.fwc)
      ∧ (prm c 1 1 ≤ 1 → prm c 2 1 ≤ 1 → (prm c 2 1 = 0 → c.addr % 64 = 0) →
          (x = 1 → waiting t ring cid) ∧ (x = 2 → completed t ring cid 0) ∧ (x ≠ 1 → x ≠ 2 → completed t ring cid (0x500 + x)))))
  ∧ (∀ (ring : RingIx) (cid : BitVec 16) (c : HirCmd) (s : State), takes s ring cid 0x12 c → let n := prm c 0 1
    Runs (.coreCtl ring cid) s (fun t =>
      (7 < n ∨ (prm c 1 1 ≠ 1 ∧ prm c 1 1 ≠ 2) → completed t ring cid 2 ∧ t.fwc = s.fwc)
      ∧ (n ≤ 7 → prm c 1 1 = 1 → (coreOf s n).state ≠ .loaded → completed t ring cid 5 ∧ t.fwc = s.fwc)
      ∧ (n ≤ 7 → prm c 1 1 = 1 → (coreOf s n).state = .loaded → (∀ i, (coreOf s n).img = some i → completed t ring cid 0
          ∧ (coreOf t n).state = (if retainOk s i = true then .run else .failed)))
      ∧ (n ≤ 7 → prm c 1 1 = 2 → (coreOf s n).state ∈ [.run, .ready, .quiesce] → s.fwc.ld.phase = .idle → s.top.rst = none → completed t ring cid 0
          ∧ ((coreOf t n).state = .restart ∨ (coreOf t n).state = .failed))))
  ∧ (∀ (ring : RingIx) (cid : BitVec 16) (c : HirCmd) (s : State), takes s ring cid 0x13 c → let x (t : State) := fld t Reg.TOP_START_STATUS F.TOP_START_STATUS_RESULT
    Runs (.start ring cid) s (fun t =>
      (prm c 0 1 = 1 → completed t ring cid (if x t ≤ 2 then 0 else 0x400 + x t))
      ∧ (prm c 0 1 = 2 → s.top.state ∈ [.ramp, .run] → completed t ring cid 0)
      ∧ (prm c 0 1 = 2 → s.top.state ∉ [.ramp, .run] → completed t ring cid 5)
      ∧ (prm c 0 1 = 3 → prm c 1 1 ≤ 1 → prm c 2 1 ≤ 1 → completed t ring cid 0 ∧ rd t Reg.TOP_START_CFG = BitVec.ofNat 32 (prm c 1 1 + 2 * prm c 2 1))
      ∧ (prm c 0 1 = 0 ∨ 3 < prm c 0 1 → completed t ring cid 2)))
  ∧ (∀ (ring : RingIx) (cid : BitVec 16) (c : HirCmd) (s : State), takes s ring cid 0x14 c → let l := prm c 0 1
    Runs (.reset ring cid) s (fun t => let x := fld t Reg.TOP_RST_STATUS F.TOP_RST_STATUS_RESULT
      (l = 0 ∨ 5 < l → completed t ring cid 2)
      ∧ (l = 1 ∨ l = 2 ∨ l = 5 → fld t Reg.TOP_RST_STATUS F.TOP_RST_STATUS_LAST_LEVEL = l
          ∧ memRead t (sramSize + cqBase s ring.val + 64 * (ringOf s ring.val).cqTail) 2 = leBytes 2 cid.toNat
          ∧ memRead t (sramSize + cqBase s ring.val + 64 * (ringOf s ring.val).cqTail + 4) 2 = [0, 0])
      ∧ (l = 3 ∨ l = 4 → (x = 1 → waiting t ring cid) ∧ (x = 2 → completed t ring cid 0) ∧ (x ≠ 1 → x ≠ 2 → completed t ring cid (0x300 + x)))))
  ∧ (∀ (ring : RingIx) (cid : BitVec 16) (c : HirCmd) (b : List Byte) (s : State), takes s ring cid 0x20 c → bufOk c 0 = true → c.len ≤ 4096 → c.len % 8 = 0 →
    prm c 0 8 < 2 ^ 46 → prm c 8 1 ≤ 1 → prm c 9 1 ≤ 1 → let ps := commitPairs ((b ++ List.replicate c.len 0).take c.len)
    Runs (.commit ring cid (.data b)) s (fun t =>
      ((∃ p ∈ ps, isHold p.1 = false) → completed t ring cid 2 ∧ t.active = s.active ∧ ∀ off, off ≠ Reg.TOP_COMMIT_OWNER → rd t off = rd s off)
      ∧ ((∀ p ∈ ps, isHold p.1 = true) → prm c 9 1 = 0 → completed t ring cid (commitStatus t))
      ∧ ((∀ p ∈ ps, isHold p.1 = true) → prm c 8 1 = 1 → prm c 9 1 = 1 → fld t Reg.TOP_COMMIT_STATUS F.TOP_COMMIT_STATUS_RESULT = 1 → waiting t ring cid)))
  ∧ (∀ (ring : RingIx) (cid : BitVec 16) (c : HirCmd) (b : List Byte) (out : DmaOut) (s : State), takes s ring cid 0x21 c → let n := prm c 0 2
    let offs := (List.range n).map (fun k => leAt ((b ++ List.replicate c.len 0).take c.len) (4 * k) 4)
    Runs (.regRead ring cid (.data b) out) s (fun t =>
      (n = 0 ∨ 1024 < n → completed t ring cid 2)
      ∧ (0 < n → n ≤ 1024 → bufOk c (4 * n) = true → (∃ o ∈ offs, 0x400000 ≤ o ∨ o % 4 ≠ 0) → completed t ring cid 2)
      ∧ (0 < n → n ≤ 1024 → bufOk c (4 * n) = true → (∀ o ∈ offs, o < 0x400000 ∧ o % 4 = 0) → out ≠ .failed →
          completed t ring cid 0 ∧ ∃ v : List Byte, v.length = 4 * n ∧ t.hir.hostOut = s.hir.hostOut ++ [(c.addr, v)])))
  ∧ (∀ (ring : RingIx) (cid : BitVec 16) (pairs : List (ChIx × Nat)) (tripIn : Bool) (c : HirCmd) (s : State), takes s ring cid 0x22 c →
    Runs (.latchClear ring cid pairs tripIn) s (fun t => completed t ring cid 0))
  ∧ (∀ (ring : RingIx) (cid : BitVec 16) (c : HirCmd) (s : State), takes s ring cid 0x30 c →
    Runs (.partAssign ring cid) s (fun t => (63 < prm c 4 1 → completed t ring cid 2)
      ∧ (prm c 4 1 ≤ 63 → completed t ring cid 0 ∧ ∀ p, p < 32 → fld t (Reg.HIR_PART_FUNC p) F.HIR_PART_FUNC_FUNC =
          (if bitOf (prm c 0 4) p = true then prm c 4 1 else fld s (Reg.HIR_PART_FUNC p) F.HIR_PART_FUNC_FUNC))))
  ∧ (∀ (ring : RingIx) (cid : BitVec 16) (c : HirCmd) (s : State), takes s ring cid 0x31 c →
    Runs (.partSet ring cid) s (fun t => (31 < prm c 0 1 ∨ 3 < prm c 1 1 → completed t ring cid 2)
      ∧ (prm c 0 1 ≤ 31 → prm c 1 1 ≤ 3 → completed t ring cid (commitStatus t) ∧ fld t Reg.TOP_COMMIT_STATUS F.TOP_COMMIT_STATUS_RESULT ≠ 0)))
  ∧ (∀ (ring : RingIx) (cid : BitVec 16) (c : HirCmd) (s : State), takes s ring cid 0x32 c →
    Runs (.partEnv ring cid) s (fun t => (31 < prm c 0 1 → completed t ring cid 2)
      ∧ (prm c 0 1 ≤ 31 → completed t ring cid (commitStatus t) ∧ fld t Reg.TOP_COMMIT_STATUS F.TOP_COMMIT_STATUS_RESULT ≠ 0)))
  ∧ (∀ (ring : RingIx) (cid : BitVec 16) (out : DmaOut) (c : HirCmd) (s : State), takes s ring cid 0x33 c → prm c 0 1 ≤ 31 → prm c 1 1 ≤ 1 →
    Runs (.partSnapshot ring cid out) s (fun t => (bufOk c 224 = false ∨ out = .failed → completed t ring cid 7)
      ∧ (bufOk c 224 = true → out ≠ .failed → partHere s (prm c 0 1) = true → completed t ring cid 0 ∧ t.hir.hostOut = s.hir.hostOut ++ [(c.addr, snapBytes t)]
          ∧ rd64 t (Reg.CAP_SNAP_TB_LO 3) = now s % 2 ^ 64)))

/-- R783, R786, R788 and Tables 16.7–16.9: host commands on telemetry, the recorder, estimation, the domain and bulk messages, each as the one command
of a RUNNING ring of function 0. A command that commits completes with the commit's result. BULK_RECV takes a whole message or waits; a fragment
joins its message; 10 ms after its first fragment a message that nobody took is discarded with BULK_DROP. ABORT ends a waiting BULK_RECV of its
ring. -/
def Obligations.HostDataCommandResults : Prop :=
  let takes (s : State) (ring : RingIx) (cid : BitVec 16) (op : Nat) (c : HirCmd) : Prop := takesCmd s ring cid op c = true ∧ s.top.porHeld = false
  let committed (t : State) (ring : RingIx) (cid : BitVec 16) : Prop := completed t ring cid (commitStatus t) ∧ fld t Reg.TOP_COMMIT_STATUS F.TOP_COMMIT_STATUS_RESULT ≠ 0
  (∀ (ring : RingIx) (cid : BitVec 16) (c : HirCmd) (s : State), takes s ring cid 0x40 c →
    Runs (.telemCfg ring cid) s (fun t => (63 < prm c 0 1 → completed t ring cid 2)
      ∧ (prm c 0 1 ≤ 63 → ringOwner s (prm c 0 1) ≠ 0 → completed t ring cid 3)
      ∧ (prm c 0 1 ≤ 63 → ringOwner s (prm c 0 1) = 0 → prm c 1 1 ≤ 3 → committed t ring cid)))
  ∧ (∀ (ring : RingIx) (cid : BitVec 16) (out : DmaOut) (c : HirCmd) (s : State), takes s ring cid 0x50 c →
    Runs (.recRead ring cid out) s (fun t => (bufOk c (32 * prm c 8 4) = false ∨ out = .failed → completed t ring cid 7)
      ∧ (bufOk c (32 * prm c 8 4) = true → out ≠ .failed → completed t ring cid 0
          ∧ t.hir.hostOut = s.hir.hostOut ++ [(c.addr, (recGather s 0 (prm c 0 8) (prm c 8 4)).out.flatMap entryBytes)])))
  ∧ (∀ (ring : RingIx) (cid : BitVec 16) (c : HirCmd) (s : State), takes s ring cid 0x51 c →
    Runs (.recSpill ring cid) s (fun t => (prm c 0 1 = 0 ∨ 3 < prm c 0 1 → completed t ring cid 2)
      ∧ (prm c 0 1 = 1 → prm c 8 8 % 65536 = 0 → 0 < prm c 0x10 4 → prm c 0x10 4 ≤ 4194304 → completed t ring cid 0 ∧ t.recd.spillBase = prm c 8 8 ∧ spillOn t = true)
      ∧ (prm c 0 1 = 2 → completed t ring cid 0 ∧ spillOn t = false) ∧ (prm c 0 1 = 3 → completed t ring cid 0)))
  ∧ (∀ (ring : RingIx) (cid : BitVec 16) (c : HirCmd) (s : State), takes s ring cid 0x60 c →
    Runs (.baseline ring cid) s (fun t => (prm c 0 1 = 0 ∨ 2 < prm c 0 1 ∨ 127 < prm c 1 1 → completed t ring cid 2)
      ∧ (prm c 0 1 = 1 ∨ prm c 0 1 = 2 → prm c 1 1 ≤ 127 → prm c 2 1 ≤ 1 → committed t ring cid)))
  ∧ (∀ (ring : RingIx) (cid : BitVec 16) (c : HirCmd) (s : State), takes s ring cid 0x70 c → prm c 0 1 = 1 ∨ prm c 0 1 = 2 → prm c 2 2 ≤ 1023 →
    Runs (.domMember ring cid) s (fun t => (domRoleNow s = .master → completed t ring cid 0 ∧ t.dom.members = s.dom.members.filter (fun n => n != prm c 2 2)
          ∧ t.dom.mgen = (s.dom.mgen + 1) % 2 ^ 16)
      ∧ (domRoleNow s ≠ .master → prm c 2 2 ≠ ownNode s → completed t ring cid 5 ∧ t.dom = s.dom)))
  ∧ (∀ (ring : RingIx) (cid : BitVec 16) (c : HirCmd) (s : State), takes s ring cid 0x71 c → Runs (.domBudget ring cid) s (fun t => committed t ring cid))
  ∧ (∀ (ring : RingIx) (cid : BitVec 16) (c : HirCmd) (b : List Byte) (s : State), takes s ring cid 0x80 c →
    Runs (.bulkSend ring cid (.data b)) s (fun t => (1023 < prm c 0 2 → completed t ring cid 2)
      ∧ (prm c 0 2 ≤ 1023 → bufOk c 1 = true → c.len ≤ fragMax → c.waits = 0 → 0 < bulkRoom s (prm c 0 2) → completed t ring cid 0
          ∧ tabGet 0 t.hir.bulkNo (prm c 2 2) = (tabGet 0 s.hir.bulkNo (prm c 2 2) + 1) % 65536)))
  ∧ (∀ (ring : RingIx) (cid : BitVec 16) (out : DmaOut) (c : HirCmd) (s : State), takes s ring cid 0x81 c →
    Runs (.bulkRecv ring cid out) s (fun t =>
      (∀ m : BulkMsg, s.hir.bulk.find? (fun m => m.channel == prm c 2 2 && bulkWhole m) = some m →
        (bufOk c m.total = true → out ≠ .failed → completed t ring cid 0 ∧ t.hir.hostOut = s.hir.hostOut ++ [(c.addr, m.parts.flatMap (fun p => p.2))] ∧ t.hir.bulk = s.hir.bulk.erase m)
        ∧ (bufOk c m.total = false ∨ out = .failed → completed t ring cid 7 ∧ t.hir.bulk = s.hir.bulk))
      ∧ (s.hir.bulk.find? (fun m => m.channel == prm c 2 2 && bulkWhole m) = none →
        ∃ k : HirCmd, (ringOf t ring.val).cmds = [k] ∧ k.cid = cid.toNat ∧ k.began = true ∧ k.waits = prm c 2 2 + 1)))
  ∧ (∀ (src : Fin 1024) (channel msg : BitVec 16) (off total : Nat) (data : List Byte) (out : DmaOut) (s : State), fwWorks s = true →
    0 < total → total ≤ 1048576 → off < total → data ≠ [] → (∀ m ∈ s.hir.bulk, ¬ (m.src = src.val ∧ m.channel = channel.toNat ∧ m.msg = msg.toNat)) →
    bulkWaiter s channel.toNat = none →
    Runs (.bulk src channel msg off total data out) s (fun t => t.hir.bulk = s.hir.bulk ++ [(BulkMsg.mk src.val channel.toNat msg.toNat total [(off, data.take (total - off))] (now s))]))
  ∧ (∀ (src : Fin 1024) (channel msg : BitVec 16) (m : BulkMsg) (s : State), fwWorks s = true →
    s.hir.bulk.find? (fun m => m.src == src.val && m.channel == channel.toNat && m.msg == msg.toNat) = some m →
    Runs (.bulkTimeout src channel msg) s (fun t => t.hir.bulk = s.hir.bulk.erase m ∧ flag t Reg.HIR_EVENT F.HIR_EVENT_BULK_DROP = true))
  ∧ (∀ (ring : RingIx) (cid : BitVec 16) (c : HirCmd) (s : State), takes s ring cid 0x90 c → Runs (.abort ring cid) s (fun t => completed t ring cid 0))
  ∧ (∀ (ring : RingIx) (cid : BitVec 16) (k c : HirCmd) (s : State), fwWorks s = true → flag s Reg.SBM_BMC_CAP F.SBM_BMC_CAP_PENDING = false →
    (ringOf s ring.val).state = .running → ringTel s ring.val = false → (ringOf s ring.val).cmds = [k, c] → (ringOf s ring.val).done = [] →
    k.opcode = 0x81 → k.began = true → bitOf k.flags 0 = false → c.cid = cid.toNat → c.opcode = 0x90 → c.began = false → bitOf c.flags 0 = false → k.cid = prm c 0 2 →
    Runs (.abort ring cid) s (fun t => (ringOf t ring.val).cmds = [] ∧ (ringOf t ring.val).done.map (fun d => (d.cid, d.status)) = [(k.cid, 8), (c.cid, 0)]))

/-- Rests on R843, R847, R849, R852–R855, R859. The non-volatile store. A GO begins its command when every check passes, otherwise it ends with the
result of the first that fails; a second GO is BUSY. APPEND puts its record at the end of the write sector, or fails after the second attempt; READ
answers the newest valid record or NOT_FOUND; a tail commit, an erase and the scan end; the counters are written as a record. -/
def Obligations.NvStoreCommandResults : Prop :=
  let result (t : State) : Nat := fld t Reg.NVS_CMD_STATUS F.NVS_CMD_STATUS_RESULT
  let goes (who : Initiator) (op kind : Nat) (c : Instr) (s : State) : Prop := admits s who Reg.NVS_CMD (op + 16 + kind * 65536) = true →
    Runs c s (fun t => (s.nvs.cmd = none → nvCheck s (nvCmdOf s op kind) = 1 → t.nvs.cmd = some (nvCmdOf s op kind) ∧ result t = 1)
      ∧ (s.nvs.cmd = none → nvCheck s (nvCmdOf s op kind) ≠ 1 → t.nvs = s.nvs ∧ result t = nvCheck s (nvCmdOf s op kind) ∧ flag t Reg.NVS_EVENT F.NVS_EVENT_CMD_FAIL = true)
      ∧ (s.nvs.cmd.isSome = true → t.nvs = s.nvs ∧ result t = 10))
  (∀ (who : Initiator) (kind : BitVec 16) (s : State), goes who 1 kind.toNat (.append who kind) s ∧ goes who 2 kind.toNat (.read who kind) s)
  ∧ (∀ (who : Initiator) (s : State), goes who 3 0 (.readTail who) s ∧ goes who 4 0 (.releaseTail who) s ∧ goes who 5 0 (.countersNow who) s)
  ∧ (∀ (ok : Bool) (c : NvCmd) (s : State), s.nvs.cmd = some c →
    Runs (.nvsCommandDone ok) s (fun t =>
      (c.op = 1 → ok = true → t.nvs.cmd = none ∧ result t = 2 ∧ ∃ r : NvRec, (sectorOf t (writeSector t (areaOf c.kind).1)).recs.getLast? = some r
          ∧ r.kind = c.kind ∧ r.key = c.key ∧ r.payload = memRead s (nvBuf c) c.len)
      ∧ (c.op = 1 → ok = false → (∀ r ∈ s.top.rst, 5 ∉ r.level :: r.also) → (c.tries = 0 → t.nvs.cmd = some { c with tries := 1 })
          ∧ (1 ≤ c.tries → t.nvs.cmd = none ∧ result t = 9))
      ∧ (c.op = 1 → ok = false → (∃ r ∈ s.top.rst, 5 ∈ r.level :: r.also) → t.nvs.cmd = none ∧ result t = 8)
      ∧ (c.op = 2 → ok = true → t.nvs.cmd = none ∧ match newestRec (areaLog s (areaOf c.kind).1 (areaOf c.kind).2) c.kind c.key with
          | some x => result t = 2 ∧ memRead t (nvBuf c) (x.payload.take c.len).length = x.payload.take c.len
          | none => result t = 3)
      ∧ (c.op = 3 → t.nvs.cmd = none ∧ match newestTail s with
          | some r => result t = 2 ∧ memRead t (nvBuf c) ((tailReadable s r).flatMap entryBytes).length = (tailReadable s r).flatMap entryBytes
          | none => result t = 3)
      ∧ (c.op = 4 → t.nvs.cmd = none ∧ result t = (if (newestTail s).isSome then 2 else 3))
      ∧ (c.op = 5 → t.nvs.cmd = none ∧ result t = 2)))
  ∧ (∀ (tl : TailSt) (ok : Bool) (done : Nat) (s : State), s.nvs.tail = some tl → s.top.porHeld = false →
    Runs (.tailCommitDone ok done) s (fun t => t.nvs.tail = none ∧ flag t Reg.LAD_STATUS F.LAD_STATUS_TAIL_BUSY = false
      ∧ (ok = true → tabGet [] t.nvs.tails tl.area = tl.entries ∧ flag t Reg.LAD_EVENT F.LAD_EVENT_TAIL_DONE = true)
      ∧ (ok = false → tabGet [] t.nvs.tails tl.area = tl.entries.take done ∧ flag t Reg.LAD_EVENT F.LAD_EVENT_TAIL_FAIL = true)))
  ∧ (∀ (margin : Bool) (e : EraseSt) (s : State), s.nvs.erase = some e → s.nvs.eraseQ = [] → e.count < 100000 →
    Runs (.sectorEraseDone margin) s (fun t =>
      (margin = true → t.nvs.erase = none ∧ (sectorOf t e.sector).stampOk = true ∧ (sectorOf t e.sector).blankOk = true)
      ∧ (margin = false → (sectorOf s e.sector).failed < 2 → t.nvs.erase = some e ∧ (sectorOf t e.sector).failed = (sectorOf s e.sector).failed + 1)
      ∧ (margin = false → 2 ≤ (sectorOf s e.sector).failed → t.nvs.erase = none)))
  ∧ (∀ s : State, s.nvs.scanning = true → s.nvs.tail = none →
    Runs .nvsScanDone s (fun t => t.nvs.scanning = false ∧ flag t Reg.TOP_SUPPLY F.TOP_SUPPLY_NVS_READY = true ∧ flag t Reg.NVS_EVENT F.NVS_EVENT_SCAN_DONE = true))
  ∧ (∀ s : State, flag s Reg.TOP_SUPPLY F.TOP_SUPPLY_NVS_READY = true → 0 < fld s Reg.NVS_CFG F.NVS_CFG_COUNT_INT → unavail s 48 = false →
    Runs .countersWrite s (fun t => t.nvs.countAt = now t ∧ ∃ r : NvRec, (sectorOf t (writeSector t 48)).recs.getLast? = some r ∧ r.kind = 3 ∧ r.key = 0 ∧ r.payload = lifeBytes s))

/-- Rests on R867–R872, R878 and Tables 19.3 and 19.4. PMBus reads. On a page of its kind a command answers the bytes its table gives, with their PEC;
on another page it answers 0xFF for each byte and sets the invalid-command bit; a write of a read-only command sets that bit. Means and status words
are those of the state. -/
def Obligations.PmbusReads : Prop :=
  let invalid (s t : State) : Prop := ∀ p ∈ pagesSel s, bitOf (pageOf t p).cml 7 = true
  let answers (s t : State) (code : Byte) (b : List Byte) : Prop := t.resp = .pmb b (pecOf s [code] b)
  let reads (c : PmIo → Instr) (code : Byte) (k : PgKind) (n : Nat) (v : State → Nat) : Prop := ∀ s : State, s.top.porHeld = false →
    (pageFits s k = true → Runs (c .read) s (fun t => answers s t code (leBytes n (v s))))
    ∧ (pageFits s k = false → Runs (c .read) s (fun t => answers s t code (List.replicate n 0xFF) ∧ invalid s t))
    ∧ ∀ d : List Byte, Runs (c (.write d (some true))) s (fun t => invalid s t)
  let always (c : PmIo → Instr) (code : Byte) (v : Nat) : Prop := ∀ s : State, s.top.porHeld = false →
    Runs (c .read) s (fun t => answers s t code (leBytes 1 v)) ∧ ∀ d : List Byte, Runs (c (.write d (some true))) s (fun t => invalid s t)
  let text (c : PmIo → Instr) (code : Byte) (b : List Byte) : Prop := ∀ s : State, s.top.porHeld = false →
    Runs (c .read) s (fun t => answers s t code (BitVec.ofNat 8 b.length :: b)) ∧ ∀ d : List Byte, Runs (c (.write d (some true))) s (fun t => invalid s t)
  (reads .operation 0x01 .rail 1 (fun s => if pageRail s s.sbm.page = true ∧ railState s s.sbm.page = .reg then 0x80 else 0)
    ∧ always .capability 0x19 0xD0 ∧ reads .voutMode 0x20 .rail 1 (fun _ => 0x14)
    ∧ reads .voutCommand 0x21 .rail 2 (fun s => linear16 (vsetQ (aF s (Reg.CH_VSET s.sbm.page) F.CH_VSET_VSET) : Nat) 4000)
    ∧ reads .voutOvFaultLimit 0x40 .rail 2 (fun s => linear16 (aF s (Reg.PROT_OV s.sbm.page) F.PROT_OV_LIMIT : Nat) 200)
    ∧ reads .ioutOcFaultLimit 0x46 .rail 2 (fun s => if aOn s (Reg.PROT_OL s.sbm.page) F.PROT_OL_OL_EN = true
        then linear11 (aF s (Reg.PROT_OL s.sbm.page) F.PROT_OL_OL_LIMIT : Nat) 2 else linear11 0 1)
    ∧ reads .otFaultLimit 0x4F .both 2 (fun s => linear11 (aF s Reg.PROT_THERM F.PROT_THERM_CRIT : Nat) 16)
    ∧ reads .vinOvWarn 0x57 .dev 2 (fun s => linear11 (aF s Reg.LAD_VIN_HI F.LAD_VIN_HI_HI : Nat) 10)
    ∧ reads .vinUvWarn 0x58 .dev 2 (fun s => linear11 (supWarn s .vin : Nat) 1000) ∧ reads .vinUvFaultLimit 0x59 .dev 2 (fun s => linear11 (supRst s .vin : Nat) 1000))
  ∧ (reads .statusByte 0x78 .both 1 (fun s => statusWord s s.sbm.page % 256) ∧ reads .statusWord 0x79 .both 2 (fun s => statusWord s s.sbm.page)
    ∧ reads .statusVout 0x7A .both 1 (fun s => (pageNow s s.sbm.page).vout) ∧ reads .statusIout 0x7B .both 1 (fun s => (pageNow s s.sbm.page).iout)
    ∧ reads .statusInput 0x7C .both 1 inputNow ∧ reads .statusTemperature 0x7D .both 1 (fun s => (pageNow s s.sbm.page).temp)
    ∧ reads .statusCml 0x7E .both 1 (fun s => (pageNow s s.sbm.page).cml) ∧ reads .statusMfrSpecific 0x80 .both 1 (fun s => (pageNow s s.sbm.page).mfr))
  ∧ (reads .readVin 0x88 .dev 2 (fun s => linear11 (vinMean s) 1000)
    ∧ reads .readIin 0x89 .dev 2 (fun s => (linQuot s (poutAll s) ((aF s Reg.CAP_IIN F.CAP_IIN_EFF : Nat) * vinMean s)).1)
    ∧ reads .readPin 0x97 .dev 2 (fun s => (linQuot s (poutAll s) (aF s Reg.CAP_IIN F.CAP_IIN_EFF * 1000 : Nat)).1)
    ∧ reads .readVout 0x8B .rail 2 (fun s => railRead s (linear16 (meanOf s s.sbm.page (sense s s.sbm.page : Nat)) 16000))
    ∧ reads .readIout 0x8C .rail 2 (fun s => railRead s (linear11 (meanOf s (8 + s.sbm.page) (railI s s.sbm.page)) 16))
    ∧ reads .readPout 0x96 .rail 2 (fun s => railRead s (linear11 (powMean s s.sbm.page) 256000))
    ∧ reads .readTemperature1 0x8D .both 2 (fun s => if s.sbm.page = 8 then (dieTemps s ((List.range 4).filter (dieHere s))).1
        else if pageRail s s.sbm.page = true then (dieTemps s (railDies s s.sbm.page)).1 else 0)
    ∧ reads .readTemperature2 0x8E .rail 2 (fun s => railRead s (linear11 (meanOf s (32 + s.sbm.page) (railTemp s s.sbm.page)) 16))
    ∧ reads .mfrDeviceState 0xD2 .dev 1 (fun s => devCode s.top.state)
    ∧ reads .mfrReadVaux 0xD3 .dev 2 (fun s => linear11 (meanOf s 25 (fld s Reg.LAD_VAUX ⟨0, 16⟩ : Nat)) 1000)
    ∧ reads .mfrReadVhold 0xD4 .dev 2 (fun s => linear11 (meanOf s 26 (fld s Reg.LAD_VHOLD ⟨0, 16⟩ : Nat)) 1000))
  ∧ always .pmbusRevision 0x98 0x44 ∧ text .mfrId 0x99 (chars "PLEHOARD") ∧ text .mfrModel 0x9A (chars "BX1200") ∧ text .mfrRevision 0x9B (chars "B0")
  ∧ text .mfrSerial 0x9E serialText

/-- Rests on R863, R865, R868, R872–R876. PMBus writes and the bus. PAGE, WRITE_PROTECT, CLEAR_FAULTS, SMBALERT_MASK, MFR_BMC_POWER_CAP and MFR_RESET
take a permitted value where WRITE_PROTECT admits it; any other sets the invalid-data bit and changes nothing; a write whose PEC fails sets the PEC
bit; the alert address answers while the alert is driven and releases it; a timeout is counted. -/
def Obligations.PmbusWrites : Prop :=
  let answers (s t : State) (cmd b : List Byte) : Prop := t.resp = .pmb b (pecOf s cmd b)
  let bit (s t : State) (k : Nat) : Prop := ∀ p ∈ pagesSel s, bitOf (pageOf t p).cml k = true
  (∀ (b : Byte) (s : State), s.top.porHeld = false →
    Runs (.page .read) s (fun t => answers s t [0x00] (leBytes 1 s.sbm.page))
    ∧ Runs (.page (.write [b] (some true))) s (fun t => (b.toNat ≤ 8 ∨ b.toNat = 0xFF → wpAdmits s 3 = true → t.sbm.page = b.toNat)
        ∧ ((8 < b.toNat ∧ b.toNat ≠ 0xFF) ∨ wpAdmits s 3 = false → t.sbm.page = s.sbm.page ∧ bit s t 6))
    ∧ Runs (.page (.write [b] (some false))) s (fun t => t.sbm.page = s.sbm.page ∧ bit s t 5 ∧ flag t Reg.SBM_EVENT F.SBM_EVENT_PEC_ERR = true)
    ∧ (pecReq s = true → Runs (.page (.write [b] none)) s (fun t => t.sbm.page = s.sbm.page)))
  ∧ (∀ (b : Byte) (s : State), s.top.porHeld = false →
    Runs (.writeProtect .read) s (fun t => answers s t [0x10] (leBytes 1 s.sbm.wp))
    ∧ Runs (.writeProtect (.write [b] (some true))) s (fun t => (b.toNat ∈ [0x00, 0x20, 0x40, 0x80] → t.sbm.wp = b.toNat)
        ∧ (b.toNat ∉ [0x00, 0x20, 0x40, 0x80] → t.sbm.wp = s.sbm.wp ∧ bit s t 6)))
  ∧ (∀ s : State, s.top.porHeld = false →
    Runs (.clearFaults (.write [] (some true))) s (fun t => (wpAdmits s 2 = true → t.sbm.input = 0 ∧ ∀ p ∈ pagesSel s, pageOf t p = {})
      ∧ (wpAdmits s 2 = false → bit s t 6)))
  ∧ (∀ (code b : Byte) (s : State), s.top.porHeld = false → s.sbm.page ≤ 8 → code.toNat ∈ [0x7A, 0x7B, 0x7C, 0x7D, 0x7E, 0x80] →
    Runs (.smbalertMask code .read) s (fun t => answers s t [0x1B, 1, code] [1, BitVec.ofNat 8 (maskOf s s.sbm.page code.toNat)])
    ∧ Runs (.smbalertMask code (.write [b] (some true))) s (fun t => (wpAdmits s 2 = true → maskOf t s.sbm.page code.toNat = b.toNat)
        ∧ (wpAdmits s 2 = false → t.sbm.masks = s.sbm.masks ∧ bit s t 6)))
  ∧ (∀ (d : List Byte) (s : State), s.top.porHeld = false → s.sbm.page = 8 → d.length = 2 →
    let x := linVal (leAt d 0 2) 3
    let ok := bmcCapEn s = true ∧ wpAdmits s 1 = true ∧ (x.1 = 0 ∨ ((bmcCapMin s * x.2 : Nat) : Int) ≤ x.1)
    Runs (.mfrBmcPowerCap .read) s (fun t => answers s t [0xD0] (leBytes 2 (linear11 (fld s Reg.SBM_BMC_CAP F.SBM_BMC_CAP_CAP : Nat) 8)))
    ∧ Runs (.mfrBmcPowerCap (.write d (some true))) s (fun t =>
      (ok → (roundQ x.1 x.2).toNat < 65536 → (rd s Reg.TOP_COMMIT_OWNER).toNat = 0 → fld t Reg.SBM_BMC_CAP F.SBM_BMC_CAP_CAP = (roundQ x.1 x.2).toNat
        ∧ flag t Reg.SBM_BMC_CAP F.SBM_BMC_CAP_PENDING = true ∧ flag t Reg.SBM_EVENT F.SBM_EVENT_BMC_CAP = true)
      ∧ (¬ ok → rd t Reg.SBM_BMC_CAP = rd s Reg.SBM_BMC_CAP ∧ bit s t 6)))
  ∧ (∀ (b : Byte) (s : State), s.top.porHeld = false → s.sbm.page = 8 → let ok := wpAdmits s 1 = true ∧ resetEn s = true ∧ (b.toNat = 1 ∨ b.toNat = 2)
    Runs (.mfrReset .read) s (fun t => answers s t [0xD1] (leBytes 1 (fld s Reg.TOP_RST_STATUS F.TOP_RST_STATUS_RESULT)))
    ∧ Runs (.mfrReset (.write [b] (some true))) s (fun t =>
      (ok → fld t Reg.TOP_RST_STATUS F.TOP_RST_STATUS_LAST_LEVEL = 3 - b.toNat ∧ flag t Reg.SBM_EVENT F.SBM_EVENT_BMC_RESET = true)
      ∧ (¬ ok → rd t Reg.TOP_RST_STATUS = rd s Reg.TOP_RST_STATUS ∧ t.top = s.top ∧ bit s t 6)))
  ∧ (∀ (code n : Byte) (d : List Byte) (s : State), s.top.porHeld = false →
    Runs (.invalidPmbusCommand code n .read) s (fun t => answers s t [code] (List.replicate n.toNat 0xFF) ∧ bit s t 7)
    ∧ Runs (.invalidPmbusCommand code n (.write d (some true))) s (fun t => bit s t 7))
  ∧ (∀ s : State, s.top.porHeld = false →
    Runs .alertResponse s (fun t => (smbAlert (pmOpen s) = true → t.resp = .pmb (leBytes 1 (2 * smbAddr s)) (BitVec.ofNat 8 (crc8 (leBytes 1 0x19 ++ leBytes 1 (2 * smbAddr s)))) ∧ smbAlert t = false)
      ∧ (smbAlert (pmOpen s) = false → t.resp = .nack)))
  ∧ (∀ s : State, s.top.porHeld = false →
    Runs .smbusTimeout s (fun t => bit s t 1 ∧ flag t Reg.SBM_EVENT F.SBM_EVENT_TIMEOUT = true
      ∧ fld t Reg.SBM_CNT F.SBM_CNT_TIMEOUT = min (fld s Reg.SBM_CNT F.SBM_CNT_TIMEOUT + 1) 255))

/-- Rests on R880, R881, R883–R887, R908. MCTP control and SPDM on a binding that SEC serves. An EID other than 0 and 0xFF is taken; every other control
command is unsupported. A request that the connection's stage allows is formed into its response, of which none is sent before SPDM_RESPONSE_DONE; a
second request meanwhile is answered Busy. -/
def Obligations.AttestationResults : Prop :=
  let formed (t : State) (pcie : Bool) (r : SpdmResp) (signed : Bool) : Prop := t.sbm.spdm = some { pcie := pcie, response := r, signed := signed }
  (∀ (pcie : Bool) (dst eid : Byte) (s : State), mctpTakes s pcie true dst = true →
    Runs (.setEndpointId pcie dst eid) s (fun t => (eid ≠ 0 → eid ≠ 0xFF → eidOf t pcie = eid.toNat ∧ eidOf t (!pcie) = eidOf s (!pcie) ∧ t.resp = .code 0)
      ∧ (eid = 0 ∨ eid = 0xFF → eidOf t pcie = eidOf s pcie ∧ t.resp = .code 2))
    ∧ Runs (.getEndpointId pcie dst) s (fun t => t.resp = .data (leBytes 1 (eidOf s pcie)))
    ∧ Runs (.getEndpointUuid pcie dst) s (fun t => t.resp = .data (leBytes 16 Config.uuid.toNat))
    ∧ Runs (.getMctpVersionSupport pcie dst) s (fun t => t.resp = .data [0x13])
    ∧ Runs (.getMessageTypeSupport pcie dst) s (fun t => t.resp = .data [0x00, 0x05])
    ∧ Runs (.mctpUnsupportedCmd pcie dst) s (fun t => t.resp = .code 5))
  ∧ (∀ (pcie : Bool) (dst : Byte) (s : State), sbFlag s (if pcie then 4 else 3) = true → Runs (.getEndpointId pcie dst) s (fun t => t.resp = .none))
  ∧ (∀ (pcie : Bool) (dst : Byte) (s : State), mctpTakes s pcie false dst = true →
    (spdmBusy s = true → Runs (.getVersion pcie dst) s (fun t => t.resp = .spdm (.error .busy) ∧ t.sbm.spdm = s.sbm.spdm))
    ∧ (spdmBusy s = false → tabGet 0 s.sbm.conn (b2n pcie) < 3 → Runs (.getDigests pcie dst) s (fun t => formed t pcie (.error .unexpectedRequest) false)))
  ∧ (∀ (pcie : Bool) (dst : Byte) (s : State), spdmTakes s pcie dst 0 = true →
    Runs (.getVersion pcie dst) s (fun t => formed t pcie (.version 0x12) false ∧ tabGet 0 t.sbm.conn (b2n pcie) = 1)
    ∧ Runs (.spdmUnsupportedRequest pcie dst) s (fun t => formed t pcie (.error .unsupportedRequest) false))
  ∧ (∀ (pcie : Bool) (dst : Byte) (s : State), spdmTakes s pcie dst 1 = true →
    Runs (.getCapabilities pcie dst) s (fun t => formed t pcie (.capabilities true true true 13) false ∧ tabGet 0 t.sbm.conn (b2n pcie) = 2))
  ∧ (∀ (pcie : Bool) (dst : Byte) (s : State), spdmTakes s pcie dst 2 = true →
    Runs (.negotiateAlgorithms pcie dst true) s (fun t => formed t pcie .algorithms false ∧ tabGet 0 t.sbm.conn (b2n pcie) = 3)
    ∧ Runs (.negotiateAlgorithms pcie dst false) s (fun t => formed t pcie (.error .refused) false))
  ∧ (∀ (pcie : Bool) (dst slot : Byte) (off len : BitVec 16) (s : State), spdmTakes s pcie dst 3 = true →
    Runs (.getDigests pcie dst) s (fun t => (s.sec.idErr = true → formed t pcie (.error .unspecified) false)
      ∧ (s.sec.idErr = false → formed t pcie (.digests (leBytes 48 (Config.sha384 Config.certChain).toNat)) false))
    ∧ Runs (.getCertificate pcie dst slot off len) s (fun t => (s.sec.idErr = true → formed t pcie (.error .unspecified) false)
      ∧ (s.sec.idErr = false → slot = 0 → off.toNat < Config.certChain.length → formed t pcie (.certificate ((Config.certChain.drop off.toNat).take len.toNat)) false)
      ∧ (s.sec.idErr = false → slot ≠ 0 ∨ Config.certChain.length ≤ off.toNat → formed t pcie (.error .invalidRequest) false)))
  ∧ (∀ (pcie : Bool) (dst slot index : Byte) (flag_ : Bool) (s : State), spdmTakes s pcie dst 3 = true →
    Runs (.challenge pcie dst slot flag_) s (fun t => (slot ≠ 0 → formed t pcie (.error .invalidRequest) false)
      ∧ (slot = 0 → ∃ g : List Byte, formed t pcie (.challengeAuth (if flag_ then Config.summaryHash (measAll s) else []) g) true))
    ∧ Runs (.getMeasurements pcie dst slot index flag_) s (fun t => let i := index.toNat
      let blocks := if i = 0xFF then measAll s else [(i, measBlock s i)]
      ((i = 0 ∨ 13 < i) → i ≠ 0xFF → formed t pcie (.error .invalidRequest) false)
      ∧ ((1 ≤ i ∧ i ≤ 13) ∨ i = 0xFF → flag_ = false → formed t pcie (.measurements blocks []) false)
      ∧ ((1 ≤ i ∧ i ≤ 13) ∨ i = 0xFF → flag_ = true → slot = 0 → ∃ g : List Byte, formed t pcie (.measurements blocks g) true)))
  ∧ (∀ (q : SpdmReq) (s : State), s.sbm.spdm = some q → Runs .spdmResponseDone s (fun t => t.resp = .spdm q.response ∧ t.sbm.spdm = none))

/-- Rests on R890–R893, R896–R899, R909. Fuse operations and debug unlock. Arming copies OP, ARG and the data; a GO of the armed operation starts it
when every check passes, otherwise ends with the first that fails, and no fuse changes; the operation's end programs the fuses and never unprograms
one. A submitted token consumes the nonce; a token that passes opens the cores it names, any other opens none; LOCK closes them. -/
def Obligations.FuseAndDebugUnlockResults : Prop :=
  let result (t : State) : Nat := fld t Reg.SEC_FUSE_STATUS F.SEC_FUSE_STATUS_RESULT
  let starts (op : Nat) (c : Initiator → BitVec 16 → Instr) : Prop := ∀ (who : Initiator) (arg : BitVec 16) (s : State),
    admits s who Reg.SEC_FUSE_CTL (op + 16 + 0xA5 * 256 + arg.toNat * 65536) = true →
    Runs (c who arg) s (fun t => t.sec.fuse = s.sec.fuse ∧ t.sec.arm = none
      ∧ (s.sec.arm = none → result t = 11 ∧ t.sec.run = s.sec.run)
      ∧ ∀ o : FuseOp, s.sec.arm = some o →
        (o.op ≠ op → result t = 4 ∧ t.sec.run = s.sec.run)
        ∧ (o.op = op → fuseCheck s o = 2 → result t = 2 ∧ t.sec.run = some o)
        ∧ (o.op = op → fuseCheck s o ≠ 2 → result t = fuseCheck s o ∧ t.sec.run = s.sec.run ∧ flag t Reg.SEC_EVENT F.SEC_EVENT_FUSE_FAIL = true))
  (∀ (who : Initiator) (op : BitVec 4) (arg : BitVec 16) (s : State), admits s who Reg.SEC_FUSE_CTL (op.toNat + 0x5A * 256 + arg.toNat * 65536) = true →
    Runs (.fuseArm who op arg) s (fun t => result t = 1 ∧ ∃ o : FuseOp, t.sec.arm = some o ∧ o.op = op.toNat ∧ o.arg = arg.toNat ∧ o.at_ = now s
      ∧ o.data = (List.range 12).map (fun k => (rd s (Reg.SEC_FUSE_DATA k)).toNat)))
  ∧ (starts 1 .ownerHash ∧ starts 2 .ownerRevoke ∧ starts 3 .rootDisable ∧ starts 4 .imgRb ∧ starts 5 .fwRb ∧ starts 6 .debugOff ∧ starts 7 .bound)
  ∧ (∀ (o : FuseOp) (s : State), s.sec.run = some o →
    Runs (.fuseOperationDone true) s (fun t => result t = 3 ∧ t.sec.run = none ∧ t.sec.fuse = (fuseWhole s o).sec.fuse ∧ fusesKept s.sec.fuse t.sec.fuse = true
      ∧ flag t Reg.SEC_EVENT F.SEC_EVENT_FUSE_DONE = true ∧ (o.op = 3 → rootOff t = true) ∧ (o.op = 4 → o.arg ≤ 128 → o.arg ≤ thermo t.sec.fuse.imgRb)
      ∧ (o.op = 5 → o.arg ≤ 128 → o.arg ≤ thermo t.sec.fuse.fwRb))
    ∧ Runs (.fuseOperationDone false) s (fun t => result t = 12 ∧ t.sec.run = none ∧ fusesKept s.sec.fuse t.sec.fuse = true
      ∧ flag t Reg.SEC_EVENT F.SEC_EVENT_FUSE_FAIL = true))
  ∧ (∀ (who : Initiator) (s : State), admits s who Reg.SEC_DBG_CTL 1 = true →
    Runs (.nonce who) s (fun t => ∃ b : List Byte, b.length = 32 ∧ (s.sec.token = none → t.sec.nonce = some b)
      ∧ (s.sec.token.isSome = true → t.sec.nonce = s.sec.nonce ∧ t.sec.nextNonce = some b) ∧ ∀ k, k < 8 → rd t (Reg.SEC_DBG_NONCE k) = BitVec.ofNat 32 (leAt b (4 * k) 4)))
  ∧ (∀ (who : Initiator) (src : Fin 4) (got : Fetched) (s : State), admits s who Reg.SEC_DBG_CTL (2 + 16 * src.val) = true → s.sec.token = none →
    Runs (.submit who src got) s (fun t => t.sec.nonce = none ∧ t.sec.cores = s.sec.cores ∧ ∃ x : TokenSt, t.sec.token = some x ∧ x.nonce = s.sec.nonce))
  ∧ (∀ (who : Initiator) (s : State), admits s who Reg.SEC_DBG_CTL 4 = true → Runs (.lock who) s (fun t => t.sec.cores = 0))
  ∧ (∀ (x : TokenSt) (s : State), s.sec.token = some x →
    Runs .debugTokenVerified s (fun t => t.sec.token = none ∧ t.sec.nonce = s.sec.nextNonce ∧ fld t Reg.SEC_DBG_STATUS F.SEC_DBG_STATUS_RESULT = tokenCheck s x
      ∧ (tokenCheck s x = 1 → t.sec.cores = s.sec.cores ||| leAt x.token 0x30 1 ∧ t.sec.ever = true ∧ flag t Reg.SEC_EVENT F.SEC_EVENT_DBG_UNLOCK = true)
      ∧ (tokenCheck s x ≠ 1 → t.sec.cores = s.sec.cores ∧ t.sec.ever = s.sec.ever ∧ flag t Reg.SEC_EVENT F.SEC_EVENT_DBG_REFUSED = true)))

/-- Rests on R896, R897, R900–R903. The JTAG port while VAUX is present. Each instruction is selected; IDCODE reads its code; EXTEST, HIGHZ and CLAMP
over guarded pins set JTAG_GUARD; CORE_DBG shifts out the result of the scan before and acts on opened cores only: it halts, resumes, steps, reads
and writes registers and memory. What a core's registers held before they were written is a free value. -/
def Obligations.JtagResults : Prop :=
  let selected (t : State) (ir : Nat) (pins : PinMode) : Prop := t.jtag.ir = ir ∧ t.jtag.pins = pins
  let guards (s t : State) : Prop := t.jtag.guarded = pinsGuarded s ∧ (pinsGuarded s = true → s.top.porHeld = false → flag t Reg.SEC_EVENT F.SEC_EVENT_JTAG_GUARD = true)
  (∀ (cells : BitVec 212) (s : State), tapOn s = true →
    Runs .testLogicReset s (fun t => selected t 0x02 .device) ∧ Runs .idcode s (fun t => selected t 0x02 .device ∧ t.resp = .word 0x10B12B3B)
    ∧ Runs .bypass s (fun t => selected t 0xFF .device) ∧ Runs (.extest cells) s (fun t => selected t 0x00 .extest ∧ t.jtag.cells = cells ∧ guards s t)
    ∧ Runs (.samplePreload cells) s (fun t => selected t 0x01 .device ∧ t.jtag.cells = cells ∧ ∃ b : List Byte, b.length = 27 ∧ t.resp = .data b)
    ∧ Runs .highz s (fun t => selected t 0x03 .highz ∧ guards s t) ∧ Runs .clamp s (fun t => selected t 0x04 .clamp ∧ guards s t))
  ∧ (∀ (token : List Byte) (s : State), tapOn s = true → secRuns s = true → s.sec.token = none →
    Runs (.secUnlock token) s (fun t => selected t 0x10 .device ∧ t.sec.nonce = none ∧ t.sec.cores = s.sec.cores
      ∧ t.sec.token = some { token := (token ++ List.replicate 320 0).take 320, nonce := s.sec.nonce, fetchErr := false })
    ∧ Runs .secNonce s (fun t => selected t 0x12 .device ∧ ∃ b : List Byte, b.length = 32 ∧ t.resp = .data b ∧ t.sec.nonce = some b))
  ∧ (∀ (core : CoreIx) (reg addr val : Word) (act : StepAct) (pmp : Bool) (s : State), tapOn s = true → coreOpen s core.val = false →
    let closed (t : State) : Prop := t.fwc = s.fwc ∧ t.jtag.result = 0 ∧ t.resp = .word (BitVec.ofNat 32 s.jtag.result)
    Runs (.coreDbgHalt core) s closed ∧ Runs (.coreDbgResume core) s closed ∧ Runs (.coreDbgStep core act pmp) s closed ∧ Runs (.coreDbgReadReg core reg) s closed
    ∧ Runs (.coreDbgWriteReg core reg val) s closed ∧ Runs (.coreDbgReadMem core addr) s closed ∧ Runs (.coreDbgWriteMem core addr val) s closed
    ∧ Runs (.coreDbgStatus core) s closed)
  ∧ (∀ (core : CoreIx) (s : State), tapOn s = true → coreOpen s core.val = true →
    let n := core.val
    let out (t : State) : Prop := t.jtag.ir = 0x11 ∧ t.resp = .word (BitVec.ofNat 32 s.jtag.result)
    (coreRuns s n = true → Runs (.coreDbgHalt core) s (fun t => out t ∧ (coreOf t n).halted = true ∧ (coreOf t n).haltAt = now s))
    ∧ Runs (.coreDbgStatus core) s (fun t => out t ∧ t.fwc = s.fwc)
    ∧ ((coreOf s n).halted = true →
      Runs (.coreDbgResume core) s (fun t => out t ∧ (coreOf t n).halted = false ∧ (coreOf t n).wdFrom = (coreOf s n).wdFrom + (now s - (coreOf s n).haltAt)
        ∧ (coreOf t n).readyFrom = (coreOf s n).readyFrom + (now s - (coreOf s n).haltAt))
      ∧ (∀ (act : StepAct) (pmp : Bool), Runs (.coreDbgStep core act pmp) s (fun t => out t ∧ (coreOf t n).halted = true))
      ∧ (∀ reg val : Word, Runs (.coreDbgWriteReg core reg val) s (fun t => out t ∧ tabGet 0 (coreOf t n).regs reg.toNat = val.toNat + 1)
        ∧ Runs (.coreDbgReadReg core reg) s (fun t => out t ∧ t.jtag.result + 1 = tabGet 0 (coreOf t n).regs reg.toNat
            ∧ (∀ v, tabGet 0 (coreOf s n).regs reg.toNat = v + 1 → t.jtag.result = v)))))
  ∧ (∀ (core : CoreIx) (addr val : Word) (s : State), tapOn s = true → coreOpen s core.val = true → fwOn s = true → (coreOf s core.val).state ∈ [.run, .ready, .quiesce] →
    coreStalled s core.val = false → addr.toNat + 4 ≤ 0x10000 →
    Runs (.coreDbgReadMem core addr) s (fun t => t.jtag.result = (BitVec.ofNat 32 (leAt ((List.range 4).map (fun i => tabGet 0 (coreOf s core.val).tcm (addr.toNat + i))) 0 4)).toNat
      ∧ (coreOf t core.val).halted = (coreOf s core.val).halted)
    ∧ Runs (.coreDbgWriteMem core addr val) s (fun t => ∀ i, i < 4 → tabGet 0 (coreOf t core.val).tcm (addr.toNat + i) = BitVec.ofNat 8 (val.toNat / 2 ^ (8 * i))))
end

