-- ==== Sys2Proof/Laws/Access.lean ====
section
/-! SUPPORT. What an admitted access does: the checks before a write once, so that no proof about a command unfolds them. -/

namespace Sys2Proof.Machine
open Host

/-- An admitted write is applied, with the answer of the command before cleared. -/
theorem gated_of_admits (s : State) (who : Initiator) (off val : Nat) (act : State → State) (h : admits s who off val = true) :
    gated s who off val act = act { s with resp := .none } := by
  unfold admits at h
  unfold gated
  simp only [Bool.and_eq_true, Bool.not_eq_true'] at h
  obtain ⟨⟨h1, h2⟩, h3⟩ := h
  simp only [h1, h2, Bool.not_true, Bool.false_eq_true, if_false]
  cases who with
  | host fn =>
    obtain ⟨n, hn⟩ := fn
    cases n with
    | zero => simp only [beq_iff_eq] at h3; simp only [h3]
    | succ k => simp at h3
  | core n => simp only [beq_iff_eq] at h3; simp only [h3]
  | sec => simp only [beq_iff_eq] at h3; simp only [h3]
  | smbus => simp only [beq_iff_eq] at h3; simp only [h3]

/-- What `admits` says of the initiator: no virtual function. -/
theorem not_vf_of_admits (s : State) (off val k : Nat) (hk : k + 1 < 64) : admits s (.host ⟨k + 1, hk⟩) off val = false := by
  simp [admits]

theorem fn0_or_other (who : Initiator) : (∃ k h, who = .host ⟨k + 1, h⟩) ∨ (∀ k h, who ≠ .host ⟨k + 1, h⟩) := by
  cases who with
  | host fn =>
    obtain ⟨n, hn⟩ := fn
    cases n with
    | zero => right; intro k h e; simp at e
    | succ k => left; exact ⟨k, hn, rfl⟩
  | _ => right; intro k h e; cases e

/-- An admitted write by who is no virtual function: `applyWrite` is the write by access type. -/
theorem applyWrite_of_admits (x : WrExt) (s s' : State) (who : Initiator) (off val : Nat) (r : RegFamily) (h : admits s who off val = true)
    (hs : off ≠ Reg.TOP_ACTIVE_SEL) (hw : off ≠ Reg.REC_WIN_SEL) (hr : regFind off = some r) :
    applyWrite x s' who off val =
      (match r.access with
        | .rw => rwWrite s' who off (val &&& r.mask)
        | .hold => holdWrite s' who off (val &&& r.mask)
        | .w1c => w1cWrite x s' off (val &&& r.mask)
        | .rwl => lockWrite s' who off (val &&& r.mask)
        | .wo => woWrite x s' who off (val &&& r.mask)
        | .rc => s'
        | .ro => (match localWord s' off with
          | some w => if planeTag s' who = 1 then localWrite s' w val else s'
          | none => s')) := by
  have hv : ∀ k hk, who ≠ .host ⟨k + 1, hk⟩ := fun k hk e => by rw [e, not_vf_of_admits] at h; cases h
  cases who with
  | host fn =>
    obtain ⟨n, hn⟩ := fn
    cases n with
    | zero => cases hx : r.access <;> simp [applyWrite, hs, hw, hr, hx] <;> cases localWord s' off <;> rfl
    | succ k => exact absurd rfl (hv k hn)
  | core n => cases hx : r.access <;> simp [applyWrite, hs, hw, hr, hx] <;> cases localWord s' off <;> rfl
  | sec => cases hx : r.access <;> simp [applyWrite, hs, hw, hr, hx] <;> cases localWord s' off <;> rfl
  | smbus => cases hx : r.access <;> simp [applyWrite, hs, hw, hr, hx] <;> cases localWord s' off <;> rfl

end Sys2Proof.Machine
end

