-- ==== Sys2Proof/Laws/State.lean ====
section
/-! SUPPORT. One law per field for each shared update of the state: what the update leaves alone. -/

namespace Sys2Proof.Machine

variable (s : State)

@[simp] theorem wr_active (off : Nat) (w : Word) : (wr s off w).active = s.active := rfl
@[simp] theorem wr_top (off : Nat) (w : Word) : (wr s off w).top = s.top := rfl
@[simp] theorem wr_drain (off : Nat) (w : Word) : (wr s off w).drain = s.drain := rfl
@[simp] theorem wr_bt (off : Nat) (w : Word) : (wr s off w).bt = s.bt := rfl
@[simp] theorem wr_recd (off : Nat) (w : Word) : (wr s off w).recd = s.recd := rfl
@[simp] theorem wr_tb (off : Nat) (w : Word) : (wr s off w).tb = s.tb := rfl
@[simp] theorem wr_clk (off : Nat) (w : Word) : (wr s off w).clk = s.clk := rfl
@[simp] theorem wr_ch (off : Nat) (w : Word) : (wr s off w).ch = s.ch := rfl
@[simp] theorem wr_ph (off : Nat) (w : Word) : (wr s off w).ph = s.ph := rfl
@[simp] theorem wr_quad (off : Nat) (w : Word) : (wr s off w).quad = s.quad := rfl
@[simp] theorem wr_pb (off : Nat) (w : Word) : (wr s off w).pb = s.pb := rfl
@[simp] theorem wr_fq (off : Nat) (w : Word) : (wr s off w).fq = s.fq := rfl
@[simp] theorem wr_img (off : Nat) (w : Word) : (wr s off w).img = s.img := rfl
@[simp] theorem wr_nvs (off : Nat) (w : Word) : (wr s off w).nvs = s.nvs := rfl
@[simp] theorem wr_integ (off : Nat) (w : Word) : (wr s off w).integ = s.integ := rfl
@[simp] theorem wr_fwc (off : Nat) (w : Word) : (wr s off w).fwc = s.fwc := rfl
@[simp] theorem wr_fab (off : Nat) (w : Word) : (wr s off w).fab = s.fab := rfl
@[simp] theorem wr_tvl (off : Nat) (w : Word) : (wr s off w).tvl = s.tvl := rfl
@[simp] theorem wr_dom (off : Nat) (w : Word) : (wr s off w).dom = s.dom := rfl
@[simp] theorem wr_est (off : Nat) (w : Word) : (wr s off w).est = s.est := rfl
@[simp] theorem wr_cap (off : Nat) (w : Word) : (wr s off w).cap = s.cap := rfl
@[simp] theorem wr_hir (off : Nat) (w : Word) : (wr s off w).hir = s.hir := rfl
@[simp] theorem wr_sbm (off : Nat) (w : Word) : (wr s off w).sbm = s.sbm := rfl
@[simp] theorem wr_sec (off : Nat) (w : Word) : (wr s off w).sec = s.sec := rfl
@[simp] theorem wr_jtag (off : Nat) (w : Word) : (wr s off w).jtag = s.jtag := rfl
@[simp] theorem wr_pending (off : Nat) (w : Word) : (wr s off w).pending = s.pending := rfl
@[simp] theorem wr_resp (off : Nat) (w : Word) : (wr s off w).resp = s.resp := rfl
@[simp] theorem wr_freeCtr (off : Nat) (w : Word) : (wr s off w).freeCtr = s.freeCtr := rfl

@[simp] theorem wrN_active (off n : Nat) : (wrN s off n).active = s.active := rfl
@[simp] theorem wrN_top (off n : Nat) : (wrN s off n).top = s.top := rfl
@[simp] theorem wrN_drain (off n : Nat) : (wrN s off n).drain = s.drain := rfl
@[simp] theorem wrN_bt (off n : Nat) : (wrN s off n).bt = s.bt := rfl
@[simp] theorem wrN_recd (off n : Nat) : (wrN s off n).recd = s.recd := rfl
@[simp] theorem wrN_tb (off n : Nat) : (wrN s off n).tb = s.tb := rfl
@[simp] theorem wrN_clk (off n : Nat) : (wrN s off n).clk = s.clk := rfl
@[simp] theorem wrN_ch (off n : Nat) : (wrN s off n).ch = s.ch := rfl
@[simp] theorem wrN_ph (off n : Nat) : (wrN s off n).ph = s.ph := rfl
@[simp] theorem wrN_quad (off n : Nat) : (wrN s off n).quad = s.quad := rfl
@[simp] theorem wrN_pb (off n : Nat) : (wrN s off n).pb = s.pb := rfl
@[simp] theorem wrN_fq (off n : Nat) : (wrN s off n).fq = s.fq := rfl
@[simp] theorem wrN_img (off n : Nat) : (wrN s off n).img = s.img := rfl
@[simp] theorem wrN_nvs (off n : Nat) : (wrN s off n).nvs = s.nvs := rfl
@[simp] theorem wrN_integ (off n : Nat) : (wrN s off n).integ = s.integ := rfl
@[simp] theorem wrN_fwc (off n : Nat) : (wrN s off n).fwc = s.fwc := rfl
@[simp] theorem wrN_fab (off n : Nat) : (wrN s off n).fab = s.fab := rfl
@[simp] theorem wrN_tvl (off n : Nat) : (wrN s off n).tvl = s.tvl := rfl
@[simp] theorem wrN_dom (off n : Nat) : (wrN s off n).dom = s.dom := rfl
@[simp] theorem wrN_est (off n : Nat) : (wrN s off n).est = s.est := rfl
@[simp] theorem wrN_cap (off n : Nat) : (wrN s off n).cap = s.cap := rfl
@[simp] theorem wrN_hir (off n : Nat) : (wrN s off n).hir = s.hir := rfl
@[simp] theorem wrN_sbm (off n : Nat) : (wrN s off n).sbm = s.sbm := rfl
@[simp] theorem wrN_sec (off n : Nat) : (wrN s off n).sec = s.sec := rfl
@[simp] theorem wrN_jtag (off n : Nat) : (wrN s off n).jtag = s.jtag := rfl
@[simp] theorem wrN_pending (off n : Nat) : (wrN s off n).pending = s.pending := rfl
@[simp] theorem wrN_resp (off n : Nat) : (wrN s off n).resp = s.resp := rfl
@[simp] theorem wrN_freeCtr (off n : Nat) : (wrN s off n).freeCtr = s.freeCtr := rfl

@[simp] theorem wrAc_regs (off : Nat) (w : Word) : (wrAc s off w).regs = s.regs := rfl
@[simp] theorem wrAc_top (off : Nat) (w : Word) : (wrAc s off w).top = s.top := rfl
@[simp] theorem wrAc_drain (off : Nat) (w : Word) : (wrAc s off w).drain = s.drain := rfl
@[simp] theorem wrAc_bt (off : Nat) (w : Word) : (wrAc s off w).bt = s.bt := rfl
@[simp] theorem wrAc_recd (off : Nat) (w : Word) : (wrAc s off w).recd = s.recd := rfl
@[simp] theorem wrAc_tb (off : Nat) (w : Word) : (wrAc s off w).tb = s.tb := rfl
@[simp] theorem wrAc_clk (off : Nat) (w : Word) : (wrAc s off w).clk = s.clk := rfl
@[simp] theorem wrAc_ch (off : Nat) (w : Word) : (wrAc s off w).ch = s.ch := rfl
@[simp] theorem wrAc_ph (off : Nat) (w : Word) : (wrAc s off w).ph = s.ph := rfl
@[simp] theorem wrAc_quad (off : Nat) (w : Word) : (wrAc s off w).quad = s.quad := rfl
@[simp] theorem wrAc_pb (off : Nat) (w : Word) : (wrAc s off w).pb = s.pb := rfl
@[simp] theorem wrAc_fq (off : Nat) (w : Word) : (wrAc s off w).fq = s.fq := rfl
@[simp] theorem wrAc_img (off : Nat) (w : Word) : (wrAc s off w).img = s.img := rfl
@[simp] theorem wrAc_nvs (off : Nat) (w : Word) : (wrAc s off w).nvs = s.nvs := rfl
@[simp] theorem wrAc_integ (off : Nat) (w : Word) : (wrAc s off w).integ = s.integ := rfl
@[simp] theorem wrAc_fwc (off : Nat) (w : Word) : (wrAc s off w).fwc = s.fwc := rfl
@[simp] theorem wrAc_fab (off : Nat) (w : Word) : (wrAc s off w).fab = s.fab := rfl
@[simp] theorem wrAc_tvl (off : Nat) (w : Word) : (wrAc s off w).tvl = s.tvl := rfl
@[simp] theorem wrAc_dom (off : Nat) (w : Word) : (wrAc s off w).dom = s.dom := rfl
@[simp] theorem wrAc_est (off : Nat) (w : Word) : (wrAc s off w).est = s.est := rfl
@[simp] theorem wrAc_cap (off : Nat) (w : Word) : (wrAc s off w).cap = s.cap := rfl
@[simp] theorem wrAc_hir (off : Nat) (w : Word) : (wrAc s off w).hir = s.hir := rfl
@[simp] theorem wrAc_sbm (off : Nat) (w : Word) : (wrAc s off w).sbm = s.sbm := rfl
@[simp] theorem wrAc_sec (off : Nat) (w : Word) : (wrAc s off w).sec = s.sec := rfl
@[simp] theorem wrAc_jtag (off : Nat) (w : Word) : (wrAc s off w).jtag = s.jtag := rfl
@[simp] theorem wrAc_pending (off : Nat) (w : Word) : (wrAc s off w).pending = s.pending := rfl
@[simp] theorem wrAc_resp (off : Nat) (w : Word) : (wrAc s off w).resp = s.resp := rfl
@[simp] theorem wrAc_freeCtr (off : Nat) (w : Word) : (wrAc s off w).freeCtr = s.freeCtr := rfl

@[simp] theorem setF_active (off : Nat) (f : Fld) (v : Nat) : (setF s off f v).active = s.active := rfl
@[simp] theorem setF_top (off : Nat) (f : Fld) (v : Nat) : (setF s off f v).top = s.top := rfl
@[simp] theorem setF_drain (off : Nat) (f : Fld) (v : Nat) : (setF s off f v).drain = s.drain := rfl
@[simp] theorem setF_bt (off : Nat) (f : Fld) (v : Nat) : (setF s off f v).bt = s.bt := rfl
@[simp] theorem setF_recd (off : Nat) (f : Fld) (v : Nat) : (setF s off f v).recd = s.recd := rfl
@[simp] theorem setF_tb (off : Nat) (f : Fld) (v : Nat) : (setF s off f v).tb = s.tb := rfl
@[simp] theorem setF_clk (off : Nat) (f : Fld) (v : Nat) : (setF s off f v).clk = s.clk := rfl
@[simp] theorem setF_ch (off : Nat) (f : Fld) (v : Nat) : (setF s off f v).ch = s.ch := rfl
@[simp] theorem setF_ph (off : Nat) (f : Fld) (v : Nat) : (setF s off f v).ph = s.ph := rfl
@[simp] theorem setF_quad (off : Nat) (f : Fld) (v : Nat) : (setF s off f v).quad = s.quad := rfl
@[simp] theorem setF_pb (off : Nat) (f : Fld) (v : Nat) : (setF s off f v).pb = s.pb := rfl
@[simp] theorem setF_fq (off : Nat) (f : Fld) (v : Nat) : (setF s off f v).fq = s.fq := rfl
@[simp] theorem setF_img (off : Nat) (f : Fld) (v : Nat) : (setF s off f v).img = s.img := rfl
@[simp] theorem setF_nvs (off : Nat) (f : Fld) (v : Nat) : (setF s off f v).nvs = s.nvs := rfl
@[simp] theorem setF_integ (off : Nat) (f : Fld) (v : Nat) : (setF s off f v).integ = s.integ := rfl
@[simp] theorem setF_fwc (off : Nat) (f : Fld) (v : Nat) : (setF s off f v).fwc = s.fwc := rfl
@[simp] theorem setF_fab (off : Nat) (f : Fld) (v : Nat) : (setF s off f v).fab = s.fab := rfl
@[simp] theorem setF_tvl (off : Nat) (f : Fld) (v : Nat) : (setF s off f v).tvl = s.tvl := rfl
@[simp] theorem setF_dom (off : Nat) (f : Fld) (v : Nat) : (setF s off f v).dom = s.dom := rfl
@[simp] theorem setF_est (off : Nat) (f : Fld) (v : Nat) : (setF s off f v).est = s.est := rfl
@[simp] theorem setF_cap (off : Nat) (f : Fld) (v : Nat) : (setF s off f v).cap = s.cap := rfl
@[simp] theorem setF_hir (off : Nat) (f : Fld) (v : Nat) : (setF s off f v).hir = s.hir := rfl
@[simp] theorem setF_sbm (off : Nat) (f : Fld) (v : Nat) : (setF s off f v).sbm = s.sbm := rfl
@[simp] theorem setF_sec (off : Nat) (f : Fld) (v : Nat) : (setF s off f v).sec = s.sec := rfl
@[simp] theorem setF_jtag (off : Nat) (f : Fld) (v : Nat) : (setF s off f v).jtag = s.jtag := rfl
@[simp] theorem setF_pending (off : Nat) (f : Fld) (v : Nat) : (setF s off f v).pending = s.pending := rfl
@[simp] theorem setF_resp (off : Nat) (f : Fld) (v : Nat) : (setF s off f v).resp = s.resp := rfl
@[simp] theorem setF_freeCtr (off : Nat) (f : Fld) (v : Nat) : (setF s off f v).freeCtr = s.freeCtr := rfl

@[simp] theorem raise_active (off : Nat) (f : Fld) : (raise s off f).active = s.active := rfl
@[simp] theorem raise_top (off : Nat) (f : Fld) : (raise s off f).top = s.top := rfl
@[simp] theorem raise_drain (off : Nat) (f : Fld) : (raise s off f).drain = s.drain := rfl
@[simp] theorem raise_bt (off : Nat) (f : Fld) : (raise s off f).bt = s.bt := rfl
@[simp] theorem raise_recd (off : Nat) (f : Fld) : (raise s off f).recd = s.recd := rfl
@[simp] theorem raise_tb (off : Nat) (f : Fld) : (raise s off f).tb = s.tb := rfl
@[simp] theorem raise_clk (off : Nat) (f : Fld) : (raise s off f).clk = s.clk := rfl
@[simp] theorem raise_ch (off : Nat) (f : Fld) : (raise s off f).ch = s.ch := rfl
@[simp] theorem raise_ph (off : Nat) (f : Fld) : (raise s off f).ph = s.ph := rfl
@[simp] theorem raise_quad (off : Nat) (f : Fld) : (raise s off f).quad = s.quad := rfl
@[simp] theorem raise_pb (off : Nat) (f : Fld) : (raise s off f).pb = s.pb := rfl
@[simp] theorem raise_fq (off : Nat) (f : Fld) : (raise s off f).fq = s.fq := rfl
@[simp] theorem raise_img (off : Nat) (f : Fld) : (raise s off f).img = s.img := rfl
@[simp] theorem raise_nvs (off : Nat) (f : Fld) : (raise s off f).nvs = s.nvs := rfl
@[simp] theorem raise_integ (off : Nat) (f : Fld) : (raise s off f).integ = s.integ := rfl
@[simp] theorem raise_fwc (off : Nat) (f : Fld) : (raise s off f).fwc = s.fwc := rfl
@[simp] theorem raise_fab (off : Nat) (f : Fld) : (raise s off f).fab = s.fab := rfl
@[simp] theorem raise_tvl (off : Nat) (f : Fld) : (raise s off f).tvl = s.tvl := rfl
@[simp] theorem raise_dom (off : Nat) (f : Fld) : (raise s off f).dom = s.dom := rfl
@[simp] theorem raise_est (off : Nat) (f : Fld) : (raise s off f).est = s.est := rfl
@[simp] theorem raise_cap (off : Nat) (f : Fld) : (raise s off f).cap = s.cap := rfl
@[simp] theorem raise_hir (off : Nat) (f : Fld) : (raise s off f).hir = s.hir := rfl
@[simp] theorem raise_sbm (off : Nat) (f : Fld) : (raise s off f).sbm = s.sbm := rfl
@[simp] theorem raise_sec (off : Nat) (f : Fld) : (raise s off f).sec = s.sec := rfl
@[simp] theorem raise_jtag (off : Nat) (f : Fld) : (raise s off f).jtag = s.jtag := rfl
@[simp] theorem raise_pending (off : Nat) (f : Fld) : (raise s off f).pending = s.pending := rfl
@[simp] theorem raise_resp (off : Nat) (f : Fld) : (raise s off f).resp = s.resp := rfl
@[simp] theorem raise_freeCtr (off : Nat) (f : Fld) : (raise s off f).freeCtr = s.freeCtr := rfl

@[simp] theorem lower_active (off : Nat) (f : Fld) : (lower s off f).active = s.active := rfl
@[simp] theorem lower_top (off : Nat) (f : Fld) : (lower s off f).top = s.top := rfl
@[simp] theorem lower_drain (off : Nat) (f : Fld) : (lower s off f).drain = s.drain := rfl
@[simp] theorem lower_bt (off : Nat) (f : Fld) : (lower s off f).bt = s.bt := rfl
@[simp] theorem lower_recd (off : Nat) (f : Fld) : (lower s off f).recd = s.recd := rfl
@[simp] theorem lower_tb (off : Nat) (f : Fld) : (lower s off f).tb = s.tb := rfl
@[simp] theorem lower_clk (off : Nat) (f : Fld) : (lower s off f).clk = s.clk := rfl
@[simp] theorem lower_ch (off : Nat) (f : Fld) : (lower s off f).ch = s.ch := rfl
@[simp] theorem lower_ph (off : Nat) (f : Fld) : (lower s off f).ph = s.ph := rfl
@[simp] theorem lower_quad (off : Nat) (f : Fld) : (lower s off f).quad = s.quad := rfl
@[simp] theorem lower_pb (off : Nat) (f : Fld) : (lower s off f).pb = s.pb := rfl
@[simp] theorem lower_fq (off : Nat) (f : Fld) : (lower s off f).fq = s.fq := rfl
@[simp] theorem lower_img (off : Nat) (f : Fld) : (lower s off f).img = s.img := rfl
@[simp] theorem lower_nvs (off : Nat) (f : Fld) : (lower s off f).nvs = s.nvs := rfl
@[simp] theorem lower_integ (off : Nat) (f : Fld) : (lower s off f).integ = s.integ := rfl
@[simp] theorem lower_fwc (off : Nat) (f : Fld) : (lower s off f).fwc = s.fwc := rfl
@[simp] theorem lower_fab (off : Nat) (f : Fld) : (lower s off f).fab = s.fab := rfl
@[simp] theorem lower_tvl (off : Nat) (f : Fld) : (lower s off f).tvl = s.tvl := rfl
@[simp] theorem lower_dom (off : Nat) (f : Fld) : (lower s off f).dom = s.dom := rfl
@[simp] theorem lower_est (off : Nat) (f : Fld) : (lower s off f).est = s.est := rfl
@[simp] theorem lower_cap (off : Nat) (f : Fld) : (lower s off f).cap = s.cap := rfl
@[simp] theorem lower_hir (off : Nat) (f : Fld) : (lower s off f).hir = s.hir := rfl
@[simp] theorem lower_sbm (off : Nat) (f : Fld) : (lower s off f).sbm = s.sbm := rfl
@[simp] theorem lower_sec (off : Nat) (f : Fld) : (lower s off f).sec = s.sec := rfl
@[simp] theorem lower_jtag (off : Nat) (f : Fld) : (lower s off f).jtag = s.jtag := rfl
@[simp] theorem lower_pending (off : Nat) (f : Fld) : (lower s off f).pending = s.pending := rfl
@[simp] theorem lower_resp (off : Nat) (f : Fld) : (lower s off f).resp = s.resp := rfl
@[simp] theorem lower_freeCtr (off : Nat) (f : Fld) : (lower s off f).freeCtr = s.freeCtr := rfl

@[simp] theorem bumpBy_active (off : Nat) (f : Fld) (n : Nat) : (bumpBy s off f n).active = s.active := rfl
@[simp] theorem bumpBy_top (off : Nat) (f : Fld) (n : Nat) : (bumpBy s off f n).top = s.top := rfl
@[simp] theorem bumpBy_drain (off : Nat) (f : Fld) (n : Nat) : (bumpBy s off f n).drain = s.drain := rfl
@[simp] theorem bumpBy_bt (off : Nat) (f : Fld) (n : Nat) : (bumpBy s off f n).bt = s.bt := rfl
@[simp] theorem bumpBy_recd (off : Nat) (f : Fld) (n : Nat) : (bumpBy s off f n).recd = s.recd := rfl
@[simp] theorem bumpBy_tb (off : Nat) (f : Fld) (n : Nat) : (bumpBy s off f n).tb = s.tb := rfl
@[simp] theorem bumpBy_clk (off : Nat) (f : Fld) (n : Nat) : (bumpBy s off f n).clk = s.clk := rfl
@[simp] theorem bumpBy_ch (off : Nat) (f : Fld) (n : Nat) : (bumpBy s off f n).ch = s.ch := rfl
@[simp] theorem bumpBy_ph (off : Nat) (f : Fld) (n : Nat) : (bumpBy s off f n).ph = s.ph := rfl
@[simp] theorem bumpBy_quad (off : Nat) (f : Fld) (n : Nat) : (bumpBy s off f n).quad = s.quad := rfl
@[simp] theorem bumpBy_pb (off : Nat) (f : Fld) (n : Nat) : (bumpBy s off f n).pb = s.pb := rfl
@[simp] theorem bumpBy_fq (off : Nat) (f : Fld) (n : Nat) : (bumpBy s off f n).fq = s.fq := rfl
@[simp] theorem bumpBy_img (off : Nat) (f : Fld) (n : Nat) : (bumpBy s off f n).img = s.img := rfl
@[simp] theorem bumpBy_nvs (off : Nat) (f : Fld) (n : Nat) : (bumpBy s off f n).nvs = s.nvs := rfl
@[simp] theorem bumpBy_integ (off : Nat) (f : Fld) (n : Nat) : (bumpBy s off f n).integ = s.integ := rfl
@[simp] theorem bumpBy_fwc (off : Nat) (f : Fld) (n : Nat) : (bumpBy s off f n).fwc = s.fwc := rfl
@[simp] theorem bumpBy_fab (off : Nat) (f : Fld) (n : Nat) : (bumpBy s off f n).fab = s.fab := rfl
@[simp] theorem bumpBy_tvl (off : Nat) (f : Fld) (n : Nat) : (bumpBy s off f n).tvl = s.tvl := rfl
@[simp] theorem bumpBy_dom (off : Nat) (f : Fld) (n : Nat) : (bumpBy s off f n).dom = s.dom := rfl
@[simp] theorem bumpBy_est (off : Nat) (f : Fld) (n : Nat) : (bumpBy s off f n).est = s.est := rfl
@[simp] theorem bumpBy_cap (off : Nat) (f : Fld) (n : Nat) : (bumpBy s off f n).cap = s.cap := rfl
@[simp] theorem bumpBy_hir (off : Nat) (f : Fld) (n : Nat) : (bumpBy s off f n).hir = s.hir := rfl
@[simp] theorem bumpBy_sbm (off : Nat) (f : Fld) (n : Nat) : (bumpBy s off f n).sbm = s.sbm := rfl
@[simp] theorem bumpBy_sec (off : Nat) (f : Fld) (n : Nat) : (bumpBy s off f n).sec = s.sec := rfl
@[simp] theorem bumpBy_jtag (off : Nat) (f : Fld) (n : Nat) : (bumpBy s off f n).jtag = s.jtag := rfl
@[simp] theorem bumpBy_pending (off : Nat) (f : Fld) (n : Nat) : (bumpBy s off f n).pending = s.pending := rfl
@[simp] theorem bumpBy_resp (off : Nat) (f : Fld) (n : Nat) : (bumpBy s off f n).resp = s.resp := rfl
@[simp] theorem bumpBy_freeCtr (off : Nat) (f : Fld) (n : Nat) : (bumpBy s off f n).freeCtr = s.freeCtr := rfl

@[simp] theorem bump_active (off : Nat) (f : Fld) : (bump s off f).active = s.active := rfl
@[simp] theorem bump_top (off : Nat) (f : Fld) : (bump s off f).top = s.top := rfl
@[simp] theorem bump_drain (off : Nat) (f : Fld) : (bump s off f).drain = s.drain := rfl
@[simp] theorem bump_bt (off : Nat) (f : Fld) : (bump s off f).bt = s.bt := rfl
@[simp] theorem bump_recd (off : Nat) (f : Fld) : (bump s off f).recd = s.recd := rfl
@[simp] theorem bump_tb (off : Nat) (f : Fld) : (bump s off f).tb = s.tb := rfl
@[simp] theorem bump_clk (off : Nat) (f : Fld) : (bump s off f).clk = s.clk := rfl
@[simp] theorem bump_ch (off : Nat) (f : Fld) : (bump s off f).ch = s.ch := rfl
@[simp] theorem bump_ph (off : Nat) (f : Fld) : (bump s off f).ph = s.ph := rfl
@[simp] theorem bump_quad (off : Nat) (f : Fld) : (bump s off f).quad = s.quad := rfl
@[simp] theorem bump_pb (off : Nat) (f : Fld) : (bump s off f).pb = s.pb := rfl
@[simp] theorem bump_fq (off : Nat) (f : Fld) : (bump s off f).fq = s.fq := rfl
@[simp] theorem bump_img (off : Nat) (f : Fld) : (bump s off f).img = s.img := rfl
@[simp] theorem bump_nvs (off : Nat) (f : Fld) : (bump s off f).nvs = s.nvs := rfl
@[simp] theorem bump_integ (off : Nat) (f : Fld) : (bump s off f).integ = s.integ := rfl
@[simp] theorem bump_fwc (off : Nat) (f : Fld) : (bump s off f).fwc = s.fwc := rfl
@[simp] theorem bump_fab (off : Nat) (f : Fld) : (bump s off f).fab = s.fab := rfl
@[simp] theorem bump_tvl (off : Nat) (f : Fld) : (bump s off f).tvl = s.tvl := rfl
@[simp] theorem bump_dom (off : Nat) (f : Fld) : (bump s off f).dom = s.dom := rfl
@[simp] theorem bump_est (off : Nat) (f : Fld) : (bump s off f).est = s.est := rfl
@[simp] theorem bump_cap (off : Nat) (f : Fld) : (bump s off f).cap = s.cap := rfl
@[simp] theorem bump_hir (off : Nat) (f : Fld) : (bump s off f).hir = s.hir := rfl
@[simp] theorem bump_sbm (off : Nat) (f : Fld) : (bump s off f).sbm = s.sbm := rfl
@[simp] theorem bump_sec (off : Nat) (f : Fld) : (bump s off f).sec = s.sec := rfl
@[simp] theorem bump_jtag (off : Nat) (f : Fld) : (bump s off f).jtag = s.jtag := rfl
@[simp] theorem bump_pending (off : Nat) (f : Fld) : (bump s off f).pending = s.pending := rfl
@[simp] theorem bump_resp (off : Nat) (f : Fld) : (bump s off f).resp = s.resp := rfl
@[simp] theorem bump_freeCtr (off : Nat) (f : Fld) : (bump s off f).freeCtr = s.freeCtr := rfl

@[simp] theorem wr64_active (lo v : Nat) : (wr64 s lo v).active = s.active := rfl
@[simp] theorem wr64_top (lo v : Nat) : (wr64 s lo v).top = s.top := rfl
@[simp] theorem wr64_drain (lo v : Nat) : (wr64 s lo v).drain = s.drain := rfl
@[simp] theorem wr64_bt (lo v : Nat) : (wr64 s lo v).bt = s.bt := rfl
@[simp] theorem wr64_recd (lo v : Nat) : (wr64 s lo v).recd = s.recd := rfl
@[simp] theorem wr64_tb (lo v : Nat) : (wr64 s lo v).tb = s.tb := rfl
@[simp] theorem wr64_clk (lo v : Nat) : (wr64 s lo v).clk = s.clk := rfl
@[simp] theorem wr64_ch (lo v : Nat) : (wr64 s lo v).ch = s.ch := rfl
@[simp] theorem wr64_ph (lo v : Nat) : (wr64 s lo v).ph = s.ph := rfl
@[simp] theorem wr64_quad (lo v : Nat) : (wr64 s lo v).quad = s.quad := rfl
@[simp] theorem wr64_pb (lo v : Nat) : (wr64 s lo v).pb = s.pb := rfl
@[simp] theorem wr64_fq (lo v : Nat) : (wr64 s lo v).fq = s.fq := rfl
@[simp] theorem wr64_img (lo v : Nat) : (wr64 s lo v).img = s.img := rfl
@[simp] theorem wr64_nvs (lo v : Nat) : (wr64 s lo v).nvs = s.nvs := rfl
@[simp] theorem wr64_integ (lo v : Nat) : (wr64 s lo v).integ = s.integ := rfl
@[simp] theorem wr64_fwc (lo v : Nat) : (wr64 s lo v).fwc = s.fwc := rfl
@[simp] theorem wr64_fab (lo v : Nat) : (wr64 s lo v).fab = s.fab := rfl
@[simp] theorem wr64_tvl (lo v : Nat) : (wr64 s lo v).tvl = s.tvl := rfl
@[simp] theorem wr64_dom (lo v : Nat) : (wr64 s lo v).dom = s.dom := rfl
@[simp] theorem wr64_est (lo v : Nat) : (wr64 s lo v).est = s.est := rfl
@[simp] theorem wr64_cap (lo v : Nat) : (wr64 s lo v).cap = s.cap := rfl
@[simp] theorem wr64_hir (lo v : Nat) : (wr64 s lo v).hir = s.hir := rfl
@[simp] theorem wr64_sbm (lo v : Nat) : (wr64 s lo v).sbm = s.sbm := rfl
@[simp] theorem wr64_sec (lo v : Nat) : (wr64 s lo v).sec = s.sec := rfl
@[simp] theorem wr64_jtag (lo v : Nat) : (wr64 s lo v).jtag = s.jtag := rfl
@[simp] theorem wr64_pending (lo v : Nat) : (wr64 s lo v).pending = s.pending := rfl
@[simp] theorem wr64_resp (lo v : Nat) : (wr64 s lo v).resp = s.resp := rfl
@[simp] theorem wr64_freeCtr (lo v : Nat) : (wr64 s lo v).freeCtr = s.freeCtr := rfl

@[simp] theorem bump48_active (lo n : Nat) : (bump48 s lo n).active = s.active := wr64_active s lo _
@[simp] theorem bump48_top (lo n : Nat) : (bump48 s lo n).top = s.top := wr64_top s lo _
@[simp] theorem bump48_drain (lo n : Nat) : (bump48 s lo n).drain = s.drain := wr64_drain s lo _
@[simp] theorem bump48_bt (lo n : Nat) : (bump48 s lo n).bt = s.bt := wr64_bt s lo _
@[simp] theorem bump48_recd (lo n : Nat) : (bump48 s lo n).recd = s.recd := wr64_recd s lo _
@[simp] theorem bump48_tb (lo n : Nat) : (bump48 s lo n).tb = s.tb := wr64_tb s lo _
@[simp] theorem bump48_clk (lo n : Nat) : (bump48 s lo n).clk = s.clk := wr64_clk s lo _
@[simp] theorem bump48_ch (lo n : Nat) : (bump48 s lo n).ch = s.ch := wr64_ch s lo _
@[simp] theorem bump48_ph (lo n : Nat) : (bump48 s lo n).ph = s.ph := wr64_ph s lo _
@[simp] theorem bump48_quad (lo n : Nat) : (bump48 s lo n).quad = s.quad := wr64_quad s lo _
@[simp] theorem bump48_pb (lo n : Nat) : (bump48 s lo n).pb = s.pb := wr64_pb s lo _
@[simp] theorem bump48_fq (lo n : Nat) : (bump48 s lo n).fq = s.fq := wr64_fq s lo _
@[simp] theorem bump48_img (lo n : Nat) : (bump48 s lo n).img = s.img := wr64_img s lo _
@[simp] theorem bump48_nvs (lo n : Nat) : (bump48 s lo n).nvs = s.nvs := wr64_nvs s lo _
@[simp] theorem bump48_integ (lo n : Nat) : (bump48 s lo n).integ = s.integ := wr64_integ s lo _
@[simp] theorem bump48_fwc (lo n : Nat) : (bump48 s lo n).fwc = s.fwc := wr64_fwc s lo _
@[simp] theorem bump48_fab (lo n : Nat) : (bump48 s lo n).fab = s.fab := wr64_fab s lo _
@[simp] theorem bump48_tvl (lo n : Nat) : (bump48 s lo n).tvl = s.tvl := wr64_tvl s lo _
@[simp] theorem bump48_dom (lo n : Nat) : (bump48 s lo n).dom = s.dom := wr64_dom s lo _
@[simp] theorem bump48_est (lo n : Nat) : (bump48 s lo n).est = s.est := wr64_est s lo _
@[simp] theorem bump48_cap (lo n : Nat) : (bump48 s lo n).cap = s.cap := wr64_cap s lo _
@[simp] theorem bump48_hir (lo n : Nat) : (bump48 s lo n).hir = s.hir := wr64_hir s lo _
@[simp] theorem bump48_sbm (lo n : Nat) : (bump48 s lo n).sbm = s.sbm := wr64_sbm s lo _
@[simp] theorem bump48_sec (lo n : Nat) : (bump48 s lo n).sec = s.sec := wr64_sec s lo _
@[simp] theorem bump48_jtag (lo n : Nat) : (bump48 s lo n).jtag = s.jtag := wr64_jtag s lo _
@[simp] theorem bump48_pending (lo n : Nat) : (bump48 s lo n).pending = s.pending := wr64_pending s lo _
@[simp] theorem bump48_resp (lo n : Nat) : (bump48 s lo n).resp = s.resp := wr64_resp s lo _
@[simp] theorem bump48_freeCtr (lo n : Nat) : (bump48 s lo n).freeCtr = s.freeCtr := wr64_freeCtr s lo _

@[simp] theorem setCh_regs (c : Nat) (f : ChSt → ChSt) : (setCh s c f).regs = s.regs := rfl
@[simp] theorem setCh_active (c : Nat) (f : ChSt → ChSt) : (setCh s c f).active = s.active := rfl
@[simp] theorem setCh_top (c : Nat) (f : ChSt → ChSt) : (setCh s c f).top = s.top := rfl
@[simp] theorem setCh_drain (c : Nat) (f : ChSt → ChSt) : (setCh s c f).drain = s.drain := rfl
@[simp] theorem setCh_bt (c : Nat) (f : ChSt → ChSt) : (setCh s c f).bt = s.bt := rfl
@[simp] theorem setCh_recd (c : Nat) (f : ChSt → ChSt) : (setCh s c f).recd = s.recd := rfl
@[simp] theorem setCh_tb (c : Nat) (f : ChSt → ChSt) : (setCh s c f).tb = s.tb := rfl
@[simp] theorem setCh_clk (c : Nat) (f : ChSt → ChSt) : (setCh s c f).clk = s.clk := rfl
@[simp] theorem setCh_ph (c : Nat) (f : ChSt → ChSt) : (setCh s c f).ph = s.ph := rfl
@[simp] theorem setCh_quad (c : Nat) (f : ChSt → ChSt) : (setCh s c f).quad = s.quad := rfl
@[simp] theorem setCh_pb (c : Nat) (f : ChSt → ChSt) : (setCh s c f).pb = s.pb := rfl
@[simp] theorem setCh_fq (c : Nat) (f : ChSt → ChSt) : (setCh s c f).fq = s.fq := rfl
@[simp] theorem setCh_img (c : Nat) (f : ChSt → ChSt) : (setCh s c f).img = s.img := rfl
@[simp] theorem setCh_nvs (c : Nat) (f : ChSt → ChSt) : (setCh s c f).nvs = s.nvs := rfl
@[simp] theorem setCh_integ (c : Nat) (f : ChSt → ChSt) : (setCh s c f).integ = s.integ := rfl
@[simp] theorem setCh_fwc (c : Nat) (f : ChSt → ChSt) : (setCh s c f).fwc = s.fwc := rfl
@[simp] theorem setCh_fab (c : Nat) (f : ChSt → ChSt) : (setCh s c f).fab = s.fab := rfl
@[simp] theorem setCh_tvl (c : Nat) (f : ChSt → ChSt) : (setCh s c f).tvl = s.tvl := rfl
@[simp] theorem setCh_dom (c : Nat) (f : ChSt → ChSt) : (setCh s c f).dom = s.dom := rfl
@[simp] theorem setCh_est (c : Nat) (f : ChSt → ChSt) : (setCh s c f).est = s.est := rfl
@[simp] theorem setCh_cap (c : Nat) (f : ChSt → ChSt) : (setCh s c f).cap = s.cap := rfl
@[simp] theorem setCh_hir (c : Nat) (f : ChSt → ChSt) : (setCh s c f).hir = s.hir := rfl
@[simp] theorem setCh_sbm (c : Nat) (f : ChSt → ChSt) : (setCh s c f).sbm = s.sbm := rfl
@[simp] theorem setCh_sec (c : Nat) (f : ChSt → ChSt) : (setCh s c f).sec = s.sec := rfl
@[simp] theorem setCh_jtag (c : Nat) (f : ChSt → ChSt) : (setCh s c f).jtag = s.jtag := rfl
@[simp] theorem setCh_pending (c : Nat) (f : ChSt → ChSt) : (setCh s c f).pending = s.pending := rfl
@[simp] theorem setCh_resp (c : Nat) (f : ChSt → ChSt) : (setCh s c f).resp = s.resp := rfl
@[simp] theorem setCh_freeCtr (c : Nat) (f : ChSt → ChSt) : (setCh s c f).freeCtr = s.freeCtr := rfl

@[simp] theorem setPh_regs (c : Nat) (f : PhSt → PhSt) : (setPh s c f).regs = s.regs := rfl
@[simp] theorem setPh_active (c : Nat) (f : PhSt → PhSt) : (setPh s c f).active = s.active := rfl
@[simp] theorem setPh_top (c : Nat) (f : PhSt → PhSt) : (setPh s c f).top = s.top := rfl
@[simp] theorem setPh_drain (c : Nat) (f : PhSt → PhSt) : (setPh s c f).drain = s.drain := rfl
@[simp] theorem setPh_bt (c : Nat) (f : PhSt → PhSt) : (setPh s c f).bt = s.bt := rfl
@[simp] theorem setPh_recd (c : Nat) (f : PhSt → PhSt) : (setPh s c f).recd = s.recd := rfl
@[simp] theorem setPh_tb (c : Nat) (f : PhSt → PhSt) : (setPh s c f).tb = s.tb := rfl
@[simp] theorem setPh_clk (c : Nat) (f : PhSt → PhSt) : (setPh s c f).clk = s.clk := rfl
@[simp] theorem setPh_ch (c : Nat) (f : PhSt → PhSt) : (setPh s c f).ch = s.ch := rfl
@[simp] theorem setPh_quad (c : Nat) (f : PhSt → PhSt) : (setPh s c f).quad = s.quad := rfl
@[simp] theorem setPh_pb (c : Nat) (f : PhSt → PhSt) : (setPh s c f).pb = s.pb := rfl
@[simp] theorem setPh_fq (c : Nat) (f : PhSt → PhSt) : (setPh s c f).fq = s.fq := rfl
@[simp] theorem setPh_img (c : Nat) (f : PhSt → PhSt) : (setPh s c f).img = s.img := rfl
@[simp] theorem setPh_nvs (c : Nat) (f : PhSt → PhSt) : (setPh s c f).nvs = s.nvs := rfl
@[simp] theorem setPh_integ (c : Nat) (f : PhSt → PhSt) : (setPh s c f).integ = s.integ := rfl
@[simp] theorem setPh_fwc (c : Nat) (f : PhSt → PhSt) : (setPh s c f).fwc = s.fwc := rfl
@[simp] theorem setPh_fab (c : Nat) (f : PhSt → PhSt) : (setPh s c f).fab = s.fab := rfl
@[simp] theorem setPh_tvl (c : Nat) (f : PhSt → PhSt) : (setPh s c f).tvl = s.tvl := rfl
@[simp] theorem setPh_dom (c : Nat) (f : PhSt → PhSt) : (setPh s c f).dom = s.dom := rfl
@[simp] theorem setPh_est (c : Nat) (f : PhSt → PhSt) : (setPh s c f).est = s.est := rfl
@[simp] theorem setPh_cap (c : Nat) (f : PhSt → PhSt) : (setPh s c f).cap = s.cap := rfl
@[simp] theorem setPh_hir (c : Nat) (f : PhSt → PhSt) : (setPh s c f).hir = s.hir := rfl
@[simp] theorem setPh_sbm (c : Nat) (f : PhSt → PhSt) : (setPh s c f).sbm = s.sbm := rfl
@[simp] theorem setPh_sec (c : Nat) (f : PhSt → PhSt) : (setPh s c f).sec = s.sec := rfl
@[simp] theorem setPh_jtag (c : Nat) (f : PhSt → PhSt) : (setPh s c f).jtag = s.jtag := rfl
@[simp] theorem setPh_pending (c : Nat) (f : PhSt → PhSt) : (setPh s c f).pending = s.pending := rfl
@[simp] theorem setPh_resp (c : Nat) (f : PhSt → PhSt) : (setPh s c f).resp = s.resp := rfl
@[simp] theorem setPh_freeCtr (c : Nat) (f : PhSt → PhSt) : (setPh s c f).freeCtr = s.freeCtr := rfl

@[simp] theorem setQuad_regs (c : Nat) (f : QuadSt → QuadSt) : (setQuad s c f).regs = s.regs := rfl
@[simp] theorem setQuad_active (c : Nat) (f : QuadSt → QuadSt) : (setQuad s c f).active = s.active := rfl
@[simp] theorem setQuad_top (c : Nat) (f : QuadSt → QuadSt) : (setQuad s c f).top = s.top := rfl
@[simp] theorem setQuad_drain (c : Nat) (f : QuadSt → QuadSt) : (setQuad s c f).drain = s.drain := rfl
@[simp] theorem setQuad_bt (c : Nat) (f : QuadSt → QuadSt) : (setQuad s c f).bt = s.bt := rfl
@[simp] theorem setQuad_recd (c : Nat) (f : QuadSt → QuadSt) : (setQuad s c f).recd = s.recd := rfl
@[simp] theorem setQuad_tb (c : Nat) (f : QuadSt → QuadSt) : (setQuad s c f).tb = s.tb := rfl
@[simp] theorem setQuad_clk (c : Nat) (f : QuadSt → QuadSt) : (setQuad s c f).clk = s.clk := rfl
@[simp] theorem setQuad_ch (c : Nat) (f : QuadSt → QuadSt) : (setQuad s c f).ch = s.ch := rfl
@[simp] theorem setQuad_ph (c : Nat) (f : QuadSt → QuadSt) : (setQuad s c f).ph = s.ph := rfl
@[simp] theorem setQuad_pb (c : Nat) (f : QuadSt → QuadSt) : (setQuad s c f).pb = s.pb := rfl
@[simp] theorem setQuad_fq (c : Nat) (f : QuadSt → QuadSt) : (setQuad s c f).fq = s.fq := rfl
@[simp] theorem setQuad_img (c : Nat) (f : QuadSt → QuadSt) : (setQuad s c f).img = s.img := rfl
@[simp] theorem setQuad_nvs (c : Nat) (f : QuadSt → QuadSt) : (setQuad s c f).nvs = s.nvs := rfl
@[simp] theorem setQuad_integ (c : Nat) (f : QuadSt → QuadSt) : (setQuad s c f).integ = s.integ := rfl
@[simp] theorem setQuad_fwc (c : Nat) (f : QuadSt → QuadSt) : (setQuad s c f).fwc = s.fwc := rfl
@[simp] theorem setQuad_fab (c : Nat) (f : QuadSt → QuadSt) : (setQuad s c f).fab = s.fab := rfl
@[simp] theorem setQuad_tvl (c : Nat) (f : QuadSt → QuadSt) : (setQuad s c f).tvl = s.tvl := rfl
@[simp] theorem setQuad_dom (c : Nat) (f : QuadSt → QuadSt) : (setQuad s c f).dom = s.dom := rfl
@[simp] theorem setQuad_est (c : Nat) (f : QuadSt → QuadSt) : (setQuad s c f).est = s.est := rfl
@[simp] theorem setQuad_cap (c : Nat) (f : QuadSt → QuadSt) : (setQuad s c f).cap = s.cap := rfl
@[simp] theorem setQuad_hir (c : Nat) (f : QuadSt → QuadSt) : (setQuad s c f).hir = s.hir := rfl
@[simp] theorem setQuad_sbm (c : Nat) (f : QuadSt → QuadSt) : (setQuad s c f).sbm = s.sbm := rfl
@[simp] theorem setQuad_sec (c : Nat) (f : QuadSt → QuadSt) : (setQuad s c f).sec = s.sec := rfl
@[simp] theorem setQuad_jtag (c : Nat) (f : QuadSt → QuadSt) : (setQuad s c f).jtag = s.jtag := rfl
@[simp] theorem setQuad_pending (c : Nat) (f : QuadSt → QuadSt) : (setQuad s c f).pending = s.pending := rfl
@[simp] theorem setQuad_resp (c : Nat) (f : QuadSt → QuadSt) : (setQuad s c f).resp = s.resp := rfl
@[simp] theorem setQuad_freeCtr (c : Nat) (f : QuadSt → QuadSt) : (setQuad s c f).freeCtr = s.freeCtr := rfl

@[simp] theorem setDie_regs (c : Nat) (f : DieSt → DieSt) : (setDie s c f).regs = s.regs := rfl
@[simp] theorem setDie_active (c : Nat) (f : DieSt → DieSt) : (setDie s c f).active = s.active := rfl
@[simp] theorem setDie_top (c : Nat) (f : DieSt → DieSt) : (setDie s c f).top = s.top := rfl
@[simp] theorem setDie_drain (c : Nat) (f : DieSt → DieSt) : (setDie s c f).drain = s.drain := rfl
@[simp] theorem setDie_bt (c : Nat) (f : DieSt → DieSt) : (setDie s c f).bt = s.bt := rfl
@[simp] theorem setDie_recd (c : Nat) (f : DieSt → DieSt) : (setDie s c f).recd = s.recd := rfl
@[simp] theorem setDie_tb (c : Nat) (f : DieSt → DieSt) : (setDie s c f).tb = s.tb := rfl
@[simp] theorem setDie_clk (c : Nat) (f : DieSt → DieSt) : (setDie s c f).clk = s.clk := rfl
@[simp] theorem setDie_ch (c : Nat) (f : DieSt → DieSt) : (setDie s c f).ch = s.ch := rfl
@[simp] theorem setDie_ph (c : Nat) (f : DieSt → DieSt) : (setDie s c f).ph = s.ph := rfl
@[simp] theorem setDie_quad (c : Nat) (f : DieSt → DieSt) : (setDie s c f).quad = s.quad := rfl
@[simp] theorem setDie_fq (c : Nat) (f : DieSt → DieSt) : (setDie s c f).fq = s.fq := rfl
@[simp] theorem setDie_img (c : Nat) (f : DieSt → DieSt) : (setDie s c f).img = s.img := rfl
@[simp] theorem setDie_nvs (c : Nat) (f : DieSt → DieSt) : (setDie s c f).nvs = s.nvs := rfl
@[simp] theorem setDie_integ (c : Nat) (f : DieSt → DieSt) : (setDie s c f).integ = s.integ := rfl
@[simp] theorem setDie_fwc (c : Nat) (f : DieSt → DieSt) : (setDie s c f).fwc = s.fwc := rfl
@[simp] theorem setDie_fab (c : Nat) (f : DieSt → DieSt) : (setDie s c f).fab = s.fab := rfl
@[simp] theorem setDie_tvl (c : Nat) (f : DieSt → DieSt) : (setDie s c f).tvl = s.tvl := rfl
@[simp] theorem setDie_dom (c : Nat) (f : DieSt → DieSt) : (setDie s c f).dom = s.dom := rfl
@[simp] theorem setDie_est (c : Nat) (f : DieSt → DieSt) : (setDie s c f).est = s.est := rfl
@[simp] theorem setDie_cap (c : Nat) (f : DieSt → DieSt) : (setDie s c f).cap = s.cap := rfl
@[simp] theorem setDie_hir (c : Nat) (f : DieSt → DieSt) : (setDie s c f).hir = s.hir := rfl
@[simp] theorem setDie_sbm (c : Nat) (f : DieSt → DieSt) : (setDie s c f).sbm = s.sbm := rfl
@[simp] theorem setDie_sec (c : Nat) (f : DieSt → DieSt) : (setDie s c f).sec = s.sec := rfl
@[simp] theorem setDie_jtag (c : Nat) (f : DieSt → DieSt) : (setDie s c f).jtag = s.jtag := rfl
@[simp] theorem setDie_pending (c : Nat) (f : DieSt → DieSt) : (setDie s c f).pending = s.pending := rfl
@[simp] theorem setDie_resp (c : Nat) (f : DieSt → DieSt) : (setDie s c f).resp = s.resp := rfl
@[simp] theorem setDie_freeCtr (c : Nat) (f : DieSt → DieSt) : (setDie s c f).freeCtr = s.freeCtr := rfl

@[simp] theorem setSite_regs (d n : Nat) (f : SiteSt → SiteSt) : (setSite s d n f).regs = s.regs := rfl
@[simp] theorem setSite_active (d n : Nat) (f : SiteSt → SiteSt) : (setSite s d n f).active = s.active := rfl
@[simp] theorem setSite_top (d n : Nat) (f : SiteSt → SiteSt) : (setSite s d n f).top = s.top := rfl
@[simp] theorem setSite_drain (d n : Nat) (f : SiteSt → SiteSt) : (setSite s d n f).drain = s.drain := rfl
@[simp] theorem setSite_bt (d n : Nat) (f : SiteSt → SiteSt) : (setSite s d n f).bt = s.bt := rfl
@[simp] theorem setSite_recd (d n : Nat) (f : SiteSt → SiteSt) : (setSite s d n f).recd = s.recd := rfl
@[simp] theorem setSite_tb (d n : Nat) (f : SiteSt → SiteSt) : (setSite s d n f).tb = s.tb := rfl
@[simp] theorem setSite_clk (d n : Nat) (f : SiteSt → SiteSt) : (setSite s d n f).clk = s.clk := rfl
@[simp] theorem setSite_ch (d n : Nat) (f : SiteSt → SiteSt) : (setSite s d n f).ch = s.ch := rfl
@[simp] theorem setSite_ph (d n : Nat) (f : SiteSt → SiteSt) : (setSite s d n f).ph = s.ph := rfl
@[simp] theorem setSite_quad (d n : Nat) (f : SiteSt → SiteSt) : (setSite s d n f).quad = s.quad := rfl
@[simp] theorem setSite_fq (d n : Nat) (f : SiteSt → SiteSt) : (setSite s d n f).fq = s.fq := rfl
@[simp] theorem setSite_img (d n : Nat) (f : SiteSt → SiteSt) : (setSite s d n f).img = s.img := rfl
@[simp] theorem setSite_nvs (d n : Nat) (f : SiteSt → SiteSt) : (setSite s d n f).nvs = s.nvs := rfl
@[simp] theorem setSite_integ (d n : Nat) (f : SiteSt → SiteSt) : (setSite s d n f).integ = s.integ := rfl
@[simp] theorem setSite_fwc (d n : Nat) (f : SiteSt → SiteSt) : (setSite s d n f).fwc = s.fwc := rfl
@[simp] theorem setSite_fab (d n : Nat) (f : SiteSt → SiteSt) : (setSite s d n f).fab = s.fab := rfl
@[simp] theorem setSite_tvl (d n : Nat) (f : SiteSt → SiteSt) : (setSite s d n f).tvl = s.tvl := rfl
@[simp] theorem setSite_dom (d n : Nat) (f : SiteSt → SiteSt) : (setSite s d n f).dom = s.dom := rfl
@[simp] theorem setSite_est (d n : Nat) (f : SiteSt → SiteSt) : (setSite s d n f).est = s.est := rfl
@[simp] theorem setSite_cap (d n : Nat) (f : SiteSt → SiteSt) : (setSite s d n f).cap = s.cap := rfl
@[simp] theorem setSite_hir (d n : Nat) (f : SiteSt → SiteSt) : (setSite s d n f).hir = s.hir := rfl
@[simp] theorem setSite_sbm (d n : Nat) (f : SiteSt → SiteSt) : (setSite s d n f).sbm = s.sbm := rfl
@[simp] theorem setSite_sec (d n : Nat) (f : SiteSt → SiteSt) : (setSite s d n f).sec = s.sec := rfl
@[simp] theorem setSite_jtag (d n : Nat) (f : SiteSt → SiteSt) : (setSite s d n f).jtag = s.jtag := rfl
@[simp] theorem setSite_pending (d n : Nat) (f : SiteSt → SiteSt) : (setSite s d n f).pending = s.pending := rfl
@[simp] theorem setSite_resp (d n : Nat) (f : SiteSt → SiteSt) : (setSite s d n f).resp = s.resp := rfl
@[simp] theorem setSite_freeCtr (d n : Nat) (f : SiteSt → SiteSt) : (setSite s d n f).freeCtr = s.freeCtr := rfl

@[simp] theorem setPort_regs (c : Nat) (f : PortSt → PortSt) : (setPort s c f).regs = s.regs := rfl
@[simp] theorem setPort_active (c : Nat) (f : PortSt → PortSt) : (setPort s c f).active = s.active := rfl
@[simp] theorem setPort_top (c : Nat) (f : PortSt → PortSt) : (setPort s c f).top = s.top := rfl
@[simp] theorem setPort_drain (c : Nat) (f : PortSt → PortSt) : (setPort s c f).drain = s.drain := rfl
@[simp] theorem setPort_bt (c : Nat) (f : PortSt → PortSt) : (setPort s c f).bt = s.bt := rfl
@[simp] theorem setPort_recd (c : Nat) (f : PortSt → PortSt) : (setPort s c f).recd = s.recd := rfl
@[simp] theorem setPort_tb (c : Nat) (f : PortSt → PortSt) : (setPort s c f).tb = s.tb := rfl
@[simp] theorem setPort_clk (c : Nat) (f : PortSt → PortSt) : (setPort s c f).clk = s.clk := rfl
@[simp] theorem setPort_ch (c : Nat) (f : PortSt → PortSt) : (setPort s c f).ch = s.ch := rfl
@[simp] theorem setPort_ph (c : Nat) (f : PortSt → PortSt) : (setPort s c f).ph = s.ph := rfl
@[simp] theorem setPort_quad (c : Nat) (f : PortSt → PortSt) : (setPort s c f).quad = s.quad := rfl
@[simp] theorem setPort_fq (c : Nat) (f : PortSt → PortSt) : (setPort s c f).fq = s.fq := rfl
@[simp] theorem setPort_img (c : Nat) (f : PortSt → PortSt) : (setPort s c f).img = s.img := rfl
@[simp] theorem setPort_nvs (c : Nat) (f : PortSt → PortSt) : (setPort s c f).nvs = s.nvs := rfl
@[simp] theorem setPort_integ (c : Nat) (f : PortSt → PortSt) : (setPort s c f).integ = s.integ := rfl
@[simp] theorem setPort_fwc (c : Nat) (f : PortSt → PortSt) : (setPort s c f).fwc = s.fwc := rfl
@[simp] theorem setPort_fab (c : Nat) (f : PortSt → PortSt) : (setPort s c f).fab = s.fab := rfl
@[simp] theorem setPort_tvl (c : Nat) (f : PortSt → PortSt) : (setPort s c f).tvl = s.tvl := rfl
@[simp] theorem setPort_dom (c : Nat) (f : PortSt → PortSt) : (setPort s c f).dom = s.dom := rfl
@[simp] theorem setPort_est (c : Nat) (f : PortSt → PortSt) : (setPort s c f).est = s.est := rfl
@[simp] theorem setPort_cap (c : Nat) (f : PortSt → PortSt) : (setPort s c f).cap = s.cap := rfl
@[simp] theorem setPort_hir (c : Nat) (f : PortSt → PortSt) : (setPort s c f).hir = s.hir := rfl
@[simp] theorem setPort_sbm (c : Nat) (f : PortSt → PortSt) : (setPort s c f).sbm = s.sbm := rfl
@[simp] theorem setPort_sec (c : Nat) (f : PortSt → PortSt) : (setPort s c f).sec = s.sec := rfl
@[simp] theorem setPort_jtag (c : Nat) (f : PortSt → PortSt) : (setPort s c f).jtag = s.jtag := rfl
@[simp] theorem setPort_pending (c : Nat) (f : PortSt → PortSt) : (setPort s c f).pending = s.pending := rfl
@[simp] theorem setPort_resp (c : Nat) (f : PortSt → PortSt) : (setPort s c f).resp = s.resp := rfl
@[simp] theorem setPort_freeCtr (c : Nat) (f : PortSt → PortSt) : (setPort s c f).freeCtr = s.freeCtr := rfl

@[simp] theorem setBoost_regs (c : Nat) (f : BoostSt → BoostSt) : (setBoost s c f).regs = s.regs := rfl
@[simp] theorem setBoost_active (c : Nat) (f : BoostSt → BoostSt) : (setBoost s c f).active = s.active := rfl
@[simp] theorem setBoost_top (c : Nat) (f : BoostSt → BoostSt) : (setBoost s c f).top = s.top := rfl
@[simp] theorem setBoost_drain (c : Nat) (f : BoostSt → BoostSt) : (setBoost s c f).drain = s.drain := rfl
@[simp] theorem setBoost_bt (c : Nat) (f : BoostSt → BoostSt) : (setBoost s c f).bt = s.bt := rfl
@[simp] theorem setBoost_recd (c : Nat) (f : BoostSt → BoostSt) : (setBoost s c f).recd = s.recd := rfl
@[simp] theorem setBoost_tb (c : Nat) (f : BoostSt → BoostSt) : (setBoost s c f).tb = s.tb := rfl
@[simp] theorem setBoost_clk (c : Nat) (f : BoostSt → BoostSt) : (setBoost s c f).clk = s.clk := rfl
@[simp] theorem setBoost_ch (c : Nat) (f : BoostSt → BoostSt) : (setBoost s c f).ch = s.ch := rfl
@[simp] theorem setBoost_ph (c : Nat) (f : BoostSt → BoostSt) : (setBoost s c f).ph = s.ph := rfl
@[simp] theorem setBoost_quad (c : Nat) (f : BoostSt → BoostSt) : (setBoost s c f).quad = s.quad := rfl
@[simp] theorem setBoost_fq (c : Nat) (f : BoostSt → BoostSt) : (setBoost s c f).fq = s.fq := rfl
@[simp] theorem setBoost_img (c : Nat) (f : BoostSt → BoostSt) : (setBoost s c f).img = s.img := rfl
@[simp] theorem setBoost_nvs (c : Nat) (f : BoostSt → BoostSt) : (setBoost s c f).nvs = s.nvs := rfl
@[simp] theorem setBoost_integ (c : Nat) (f : BoostSt → BoostSt) : (setBoost s c f).integ = s.integ := rfl
@[simp] theorem setBoost_fwc (c : Nat) (f : BoostSt → BoostSt) : (setBoost s c f).fwc = s.fwc := rfl
@[simp] theorem setBoost_fab (c : Nat) (f : BoostSt → BoostSt) : (setBoost s c f).fab = s.fab := rfl
@[simp] theorem setBoost_tvl (c : Nat) (f : BoostSt → BoostSt) : (setBoost s c f).tvl = s.tvl := rfl
@[simp] theorem setBoost_dom (c : Nat) (f : BoostSt → BoostSt) : (setBoost s c f).dom = s.dom := rfl
@[simp] theorem setBoost_est (c : Nat) (f : BoostSt → BoostSt) : (setBoost s c f).est = s.est := rfl
@[simp] theorem setBoost_cap (c : Nat) (f : BoostSt → BoostSt) : (setBoost s c f).cap = s.cap := rfl
@[simp] theorem setBoost_hir (c : Nat) (f : BoostSt → BoostSt) : (setBoost s c f).hir = s.hir := rfl
@[simp] theorem setBoost_sbm (c : Nat) (f : BoostSt → BoostSt) : (setBoost s c f).sbm = s.sbm := rfl
@[simp] theorem setBoost_sec (c : Nat) (f : BoostSt → BoostSt) : (setBoost s c f).sec = s.sec := rfl
@[simp] theorem setBoost_jtag (c : Nat) (f : BoostSt → BoostSt) : (setBoost s c f).jtag = s.jtag := rfl
@[simp] theorem setBoost_pending (c : Nat) (f : BoostSt → BoostSt) : (setBoost s c f).pending = s.pending := rfl
@[simp] theorem setBoost_resp (c : Nat) (f : BoostSt → BoostSt) : (setBoost s c f).resp = s.resp := rfl
@[simp] theorem setBoost_freeCtr (c : Nat) (f : BoostSt → BoostSt) : (setBoost s c f).freeCtr = s.freeCtr := rfl

@[simp] theorem setPart_regs (c : Nat) (f : PartPbSt → PartPbSt) : (setPart s c f).regs = s.regs := rfl
@[simp] theorem setPart_active (c : Nat) (f : PartPbSt → PartPbSt) : (setPart s c f).active = s.active := rfl
@[simp] theorem setPart_top (c : Nat) (f : PartPbSt → PartPbSt) : (setPart s c f).top = s.top := rfl
@[simp] theorem setPart_drain (c : Nat) (f : PartPbSt → PartPbSt) : (setPart s c f).drain = s.drain := rfl
@[simp] theorem setPart_bt (c : Nat) (f : PartPbSt → PartPbSt) : (setPart s c f).bt = s.bt := rfl
@[simp] theorem setPart_recd (c : Nat) (f : PartPbSt → PartPbSt) : (setPart s c f).recd = s.recd := rfl
@[simp] theorem setPart_tb (c : Nat) (f : PartPbSt → PartPbSt) : (setPart s c f).tb = s.tb := rfl
@[simp] theorem setPart_clk (c : Nat) (f : PartPbSt → PartPbSt) : (setPart s c f).clk = s.clk := rfl
@[simp] theorem setPart_ch (c : Nat) (f : PartPbSt → PartPbSt) : (setPart s c f).ch = s.ch := rfl
@[simp] theorem setPart_ph (c : Nat) (f : PartPbSt → PartPbSt) : (setPart s c f).ph = s.ph := rfl
@[simp] theorem setPart_quad (c : Nat) (f : PartPbSt → PartPbSt) : (setPart s c f).quad = s.quad := rfl
@[simp] theorem setPart_fq (c : Nat) (f : PartPbSt → PartPbSt) : (setPart s c f).fq = s.fq := rfl
@[simp] theorem setPart_img (c : Nat) (f : PartPbSt → PartPbSt) : (setPart s c f).img = s.img := rfl
@[simp] theorem setPart_nvs (c : Nat) (f : PartPbSt → PartPbSt) : (setPart s c f).nvs = s.nvs := rfl
@[simp] theorem setPart_integ (c : Nat) (f : PartPbSt → PartPbSt) : (setPart s c f).integ = s.integ := rfl
@[simp] theorem setPart_fwc (c : Nat) (f : PartPbSt → PartPbSt) : (setPart s c f).fwc = s.fwc := rfl
@[simp] theorem setPart_fab (c : Nat) (f : PartPbSt → PartPbSt) : (setPart s c f).fab = s.fab := rfl
@[simp] theorem setPart_tvl (c : Nat) (f : PartPbSt → PartPbSt) : (setPart s c f).tvl = s.tvl := rfl
@[simp] theorem setPart_dom (c : Nat) (f : PartPbSt → PartPbSt) : (setPart s c f).dom = s.dom := rfl
@[simp] theorem setPart_est (c : Nat) (f : PartPbSt → PartPbSt) : (setPart s c f).est = s.est := rfl
@[simp] theorem setPart_cap (c : Nat) (f : PartPbSt → PartPbSt) : (setPart s c f).cap = s.cap := rfl
@[simp] theorem setPart_hir (c : Nat) (f : PartPbSt → PartPbSt) : (setPart s c f).hir = s.hir := rfl
@[simp] theorem setPart_sbm (c : Nat) (f : PartPbSt → PartPbSt) : (setPart s c f).sbm = s.sbm := rfl
@[simp] theorem setPart_sec (c : Nat) (f : PartPbSt → PartPbSt) : (setPart s c f).sec = s.sec := rfl
@[simp] theorem setPart_jtag (c : Nat) (f : PartPbSt → PartPbSt) : (setPart s c f).jtag = s.jtag := rfl
@[simp] theorem setPart_pending (c : Nat) (f : PartPbSt → PartPbSt) : (setPart s c f).pending = s.pending := rfl
@[simp] theorem setPart_resp (c : Nat) (f : PartPbSt → PartPbSt) : (setPart s c f).resp = s.resp := rfl
@[simp] theorem setPart_freeCtr (c : Nat) (f : PartPbSt → PartPbSt) : (setPart s c f).freeCtr = s.freeCtr := rfl

@[simp] theorem setQueue_regs (c : Nat) (f : QueueSt → QueueSt) : (setQueue s c f).regs = s.regs := rfl
@[simp] theorem setQueue_active (c : Nat) (f : QueueSt → QueueSt) : (setQueue s c f).active = s.active := rfl
@[simp] theorem setQueue_top (c : Nat) (f : QueueSt → QueueSt) : (setQueue s c f).top = s.top := rfl
@[simp] theorem setQueue_drain (c : Nat) (f : QueueSt → QueueSt) : (setQueue s c f).drain = s.drain := rfl
@[simp] theorem setQueue_bt (c : Nat) (f : QueueSt → QueueSt) : (setQueue s c f).bt = s.bt := rfl
@[simp] theorem setQueue_recd (c : Nat) (f : QueueSt → QueueSt) : (setQueue s c f).recd = s.recd := rfl
@[simp] theorem setQueue_tb (c : Nat) (f : QueueSt → QueueSt) : (setQueue s c f).tb = s.tb := rfl
@[simp] theorem setQueue_clk (c : Nat) (f : QueueSt → QueueSt) : (setQueue s c f).clk = s.clk := rfl
@[simp] theorem setQueue_ch (c : Nat) (f : QueueSt → QueueSt) : (setQueue s c f).ch = s.ch := rfl
@[simp] theorem setQueue_ph (c : Nat) (f : QueueSt → QueueSt) : (setQueue s c f).ph = s.ph := rfl
@[simp] theorem setQueue_quad (c : Nat) (f : QueueSt → QueueSt) : (setQueue s c f).quad = s.quad := rfl
@[simp] theorem setQueue_pb (c : Nat) (f : QueueSt → QueueSt) : (setQueue s c f).pb = s.pb := rfl
@[simp] theorem setQueue_img (c : Nat) (f : QueueSt → QueueSt) : (setQueue s c f).img = s.img := rfl
@[simp] theorem setQueue_nvs (c : Nat) (f : QueueSt → QueueSt) : (setQueue s c f).nvs = s.nvs := rfl
@[simp] theorem setQueue_integ (c : Nat) (f : QueueSt → QueueSt) : (setQueue s c f).integ = s.integ := rfl
@[simp] theorem setQueue_fwc (c : Nat) (f : QueueSt → QueueSt) : (setQueue s c f).fwc = s.fwc := rfl
@[simp] theorem setQueue_fab (c : Nat) (f : QueueSt → QueueSt) : (setQueue s c f).fab = s.fab := rfl
@[simp] theorem setQueue_tvl (c : Nat) (f : QueueSt → QueueSt) : (setQueue s c f).tvl = s.tvl := rfl
@[simp] theorem setQueue_dom (c : Nat) (f : QueueSt → QueueSt) : (setQueue s c f).dom = s.dom := rfl
@[simp] theorem setQueue_est (c : Nat) (f : QueueSt → QueueSt) : (setQueue s c f).est = s.est := rfl
@[simp] theorem setQueue_cap (c : Nat) (f : QueueSt → QueueSt) : (setQueue s c f).cap = s.cap := rfl
@[simp] theorem setQueue_hir (c : Nat) (f : QueueSt → QueueSt) : (setQueue s c f).hir = s.hir := rfl
@[simp] theorem setQueue_sbm (c : Nat) (f : QueueSt → QueueSt) : (setQueue s c f).sbm = s.sbm := rfl
@[simp] theorem setQueue_sec (c : Nat) (f : QueueSt → QueueSt) : (setQueue s c f).sec = s.sec := rfl
@[simp] theorem setQueue_jtag (c : Nat) (f : QueueSt → QueueSt) : (setQueue s c f).jtag = s.jtag := rfl
@[simp] theorem setQueue_pending (c : Nat) (f : QueueSt → QueueSt) : (setQueue s c f).pending = s.pending := rfl
@[simp] theorem setQueue_resp (c : Nat) (f : QueueSt → QueueSt) : (setQueue s c f).resp = s.resp := rfl
@[simp] theorem setQueue_freeCtr (c : Nat) (f : QueueSt → QueueSt) : (setQueue s c f).freeCtr = s.freeCtr := rfl

@[simp] theorem setBal_regs (c : Nat) (f : BalSt → BalSt) : (setBal s c f).regs = s.regs := rfl
@[simp] theorem setBal_active (c : Nat) (f : BalSt → BalSt) : (setBal s c f).active = s.active := rfl
@[simp] theorem setBal_top (c : Nat) (f : BalSt → BalSt) : (setBal s c f).top = s.top := rfl
@[simp] theorem setBal_drain (c : Nat) (f : BalSt → BalSt) : (setBal s c f).drain = s.drain := rfl
@[simp] theorem setBal_bt (c : Nat) (f : BalSt → BalSt) : (setBal s c f).bt = s.bt := rfl
@[simp] theorem setBal_recd (c : Nat) (f : BalSt → BalSt) : (setBal s c f).recd = s.recd := rfl
@[simp] theorem setBal_tb (c : Nat) (f : BalSt → BalSt) : (setBal s c f).tb = s.tb := rfl
@[simp] theorem setBal_clk (c : Nat) (f : BalSt → BalSt) : (setBal s c f).clk = s.clk := rfl
@[simp] theorem setBal_ch (c : Nat) (f : BalSt → BalSt) : (setBal s c f).ch = s.ch := rfl
@[simp] theorem setBal_ph (c : Nat) (f : BalSt → BalSt) : (setBal s c f).ph = s.ph := rfl
@[simp] theorem setBal_quad (c : Nat) (f : BalSt → BalSt) : (setBal s c f).quad = s.quad := rfl
@[simp] theorem setBal_pb (c : Nat) (f : BalSt → BalSt) : (setBal s c f).pb = s.pb := rfl
@[simp] theorem setBal_img (c : Nat) (f : BalSt → BalSt) : (setBal s c f).img = s.img := rfl
@[simp] theorem setBal_nvs (c : Nat) (f : BalSt → BalSt) : (setBal s c f).nvs = s.nvs := rfl
@[simp] theorem setBal_integ (c : Nat) (f : BalSt → BalSt) : (setBal s c f).integ = s.integ := rfl
@[simp] theorem setBal_fwc (c : Nat) (f : BalSt → BalSt) : (setBal s c f).fwc = s.fwc := rfl
@[simp] theorem setBal_fab (c : Nat) (f : BalSt → BalSt) : (setBal s c f).fab = s.fab := rfl
@[simp] theorem setBal_tvl (c : Nat) (f : BalSt → BalSt) : (setBal s c f).tvl = s.tvl := rfl
@[simp] theorem setBal_dom (c : Nat) (f : BalSt → BalSt) : (setBal s c f).dom = s.dom := rfl
@[simp] theorem setBal_est (c : Nat) (f : BalSt → BalSt) : (setBal s c f).est = s.est := rfl
@[simp] theorem setBal_cap (c : Nat) (f : BalSt → BalSt) : (setBal s c f).cap = s.cap := rfl
@[simp] theorem setBal_hir (c : Nat) (f : BalSt → BalSt) : (setBal s c f).hir = s.hir := rfl
@[simp] theorem setBal_sbm (c : Nat) (f : BalSt → BalSt) : (setBal s c f).sbm = s.sbm := rfl
@[simp] theorem setBal_sec (c : Nat) (f : BalSt → BalSt) : (setBal s c f).sec = s.sec := rfl
@[simp] theorem setBal_jtag (c : Nat) (f : BalSt → BalSt) : (setBal s c f).jtag = s.jtag := rfl
@[simp] theorem setBal_pending (c : Nat) (f : BalSt → BalSt) : (setBal s c f).pending = s.pending := rfl
@[simp] theorem setBal_resp (c : Nat) (f : BalSt → BalSt) : (setBal s c f).resp = s.resp := rfl
@[simp] theorem setBal_freeCtr (c : Nat) (f : BalSt → BalSt) : (setBal s c f).freeCtr = s.freeCtr := rfl

@[simp] theorem setClass_regs (i : Initiator) (f : ClassSt → ClassSt) : (setClass s i f).regs = s.regs := rfl
@[simp] theorem setClass_active (i : Initiator) (f : ClassSt → ClassSt) : (setClass s i f).active = s.active := rfl
@[simp] theorem setClass_drain (i : Initiator) (f : ClassSt → ClassSt) : (setClass s i f).drain = s.drain := rfl
@[simp] theorem setClass_bt (i : Initiator) (f : ClassSt → ClassSt) : (setClass s i f).bt = s.bt := rfl
@[simp] theorem setClass_recd (i : Initiator) (f : ClassSt → ClassSt) : (setClass s i f).recd = s.recd := rfl
@[simp] theorem setClass_tb (i : Initiator) (f : ClassSt → ClassSt) : (setClass s i f).tb = s.tb := rfl
@[simp] theorem setClass_clk (i : Initiator) (f : ClassSt → ClassSt) : (setClass s i f).clk = s.clk := rfl
@[simp] theorem setClass_ch (i : Initiator) (f : ClassSt → ClassSt) : (setClass s i f).ch = s.ch := rfl
@[simp] theorem setClass_ph (i : Initiator) (f : ClassSt → ClassSt) : (setClass s i f).ph = s.ph := rfl
@[simp] theorem setClass_quad (i : Initiator) (f : ClassSt → ClassSt) : (setClass s i f).quad = s.quad := rfl
@[simp] theorem setClass_pb (i : Initiator) (f : ClassSt → ClassSt) : (setClass s i f).pb = s.pb := rfl
@[simp] theorem setClass_fq (i : Initiator) (f : ClassSt → ClassSt) : (setClass s i f).fq = s.fq := rfl
@[simp] theorem setClass_img (i : Initiator) (f : ClassSt → ClassSt) : (setClass s i f).img = s.img := rfl
@[simp] theorem setClass_nvs (i : Initiator) (f : ClassSt → ClassSt) : (setClass s i f).nvs = s.nvs := rfl
@[simp] theorem setClass_integ (i : Initiator) (f : ClassSt → ClassSt) : (setClass s i f).integ = s.integ := rfl
@[simp] theorem setClass_fwc (i : Initiator) (f : ClassSt → ClassSt) : (setClass s i f).fwc = s.fwc := rfl
@[simp] theorem setClass_fab (i : Initiator) (f : ClassSt → ClassSt) : (setClass s i f).fab = s.fab := rfl
@[simp] theorem setClass_tvl (i : Initiator) (f : ClassSt → ClassSt) : (setClass s i f).tvl = s.tvl := rfl
@[simp] theorem setClass_dom (i : Initiator) (f : ClassSt → ClassSt) : (setClass s i f).dom = s.dom := rfl
@[simp] theorem setClass_est (i : Initiator) (f : ClassSt → ClassSt) : (setClass s i f).est = s.est := rfl
@[simp] theorem setClass_cap (i : Initiator) (f : ClassSt → ClassSt) : (setClass s i f).cap = s.cap := rfl
@[simp] theorem setClass_hir (i : Initiator) (f : ClassSt → ClassSt) : (setClass s i f).hir = s.hir := rfl
@[simp] theorem setClass_sbm (i : Initiator) (f : ClassSt → ClassSt) : (setClass s i f).sbm = s.sbm := rfl
@[simp] theorem setClass_sec (i : Initiator) (f : ClassSt → ClassSt) : (setClass s i f).sec = s.sec := rfl
@[simp] theorem setClass_jtag (i : Initiator) (f : ClassSt → ClassSt) : (setClass s i f).jtag = s.jtag := rfl
@[simp] theorem setClass_pending (i : Initiator) (f : ClassSt → ClassSt) : (setClass s i f).pending = s.pending := rfl
@[simp] theorem setClass_resp (i : Initiator) (f : ClassSt → ClassSt) : (setClass s i f).resp = s.resp := rfl
@[simp] theorem setClass_freeCtr (i : Initiator) (f : ClassSt → ClassSt) : (setClass s i f).freeCtr = s.freeCtr := rfl

@[simp] theorem setCore_regs (c : Nat) (f : CoreSt → CoreSt) : (setCore s c f).regs = s.regs := rfl
@[simp] theorem setCore_active (c : Nat) (f : CoreSt → CoreSt) : (setCore s c f).active = s.active := rfl
@[simp] theorem setCore_top (c : Nat) (f : CoreSt → CoreSt) : (setCore s c f).top = s.top := rfl
@[simp] theorem setCore_drain (c : Nat) (f : CoreSt → CoreSt) : (setCore s c f).drain = s.drain := rfl
@[simp] theorem setCore_bt (c : Nat) (f : CoreSt → CoreSt) : (setCore s c f).bt = s.bt := rfl
@[simp] theorem setCore_recd (c : Nat) (f : CoreSt → CoreSt) : (setCore s c f).recd = s.recd := rfl
@[simp] theorem setCore_tb (c : Nat) (f : CoreSt → CoreSt) : (setCore s c f).tb = s.tb := rfl
@[simp] theorem setCore_clk (c : Nat) (f : CoreSt → CoreSt) : (setCore s c f).clk = s.clk := rfl
@[simp] theorem setCore_ch (c : Nat) (f : CoreSt → CoreSt) : (setCore s c f).ch = s.ch := rfl
@[simp] theorem setCore_ph (c : Nat) (f : CoreSt → CoreSt) : (setCore s c f).ph = s.ph := rfl
@[simp] theorem setCore_quad (c : Nat) (f : CoreSt → CoreSt) : (setCore s c f).quad = s.quad := rfl
@[simp] theorem setCore_pb (c : Nat) (f : CoreSt → CoreSt) : (setCore s c f).pb = s.pb := rfl
@[simp] theorem setCore_fq (c : Nat) (f : CoreSt → CoreSt) : (setCore s c f).fq = s.fq := rfl
@[simp] theorem setCore_img (c : Nat) (f : CoreSt → CoreSt) : (setCore s c f).img = s.img := rfl
@[simp] theorem setCore_nvs (c : Nat) (f : CoreSt → CoreSt) : (setCore s c f).nvs = s.nvs := rfl
@[simp] theorem setCore_integ (c : Nat) (f : CoreSt → CoreSt) : (setCore s c f).integ = s.integ := rfl
@[simp] theorem setCore_fab (c : Nat) (f : CoreSt → CoreSt) : (setCore s c f).fab = s.fab := rfl
@[simp] theorem setCore_tvl (c : Nat) (f : CoreSt → CoreSt) : (setCore s c f).tvl = s.tvl := rfl
@[simp] theorem setCore_dom (c : Nat) (f : CoreSt → CoreSt) : (setCore s c f).dom = s.dom := rfl
@[simp] theorem setCore_est (c : Nat) (f : CoreSt → CoreSt) : (setCore s c f).est = s.est := rfl
@[simp] theorem setCore_cap (c : Nat) (f : CoreSt → CoreSt) : (setCore s c f).cap = s.cap := rfl
@[simp] theorem setCore_hir (c : Nat) (f : CoreSt → CoreSt) : (setCore s c f).hir = s.hir := rfl
@[simp] theorem setCore_sbm (c : Nat) (f : CoreSt → CoreSt) : (setCore s c f).sbm = s.sbm := rfl
@[simp] theorem setCore_sec (c : Nat) (f : CoreSt → CoreSt) : (setCore s c f).sec = s.sec := rfl
@[simp] theorem setCore_jtag (c : Nat) (f : CoreSt → CoreSt) : (setCore s c f).jtag = s.jtag := rfl
@[simp] theorem setCore_pending (c : Nat) (f : CoreSt → CoreSt) : (setCore s c f).pending = s.pending := rfl
@[simp] theorem setCore_resp (c : Nat) (f : CoreSt → CoreSt) : (setCore s c f).resp = s.resp := rfl
@[simp] theorem setCore_freeCtr (c : Nat) (f : CoreSt → CoreSt) : (setCore s c f).freeCtr = s.freeCtr := rfl

@[simp] theorem setMbx_regs (c : Nat) (f : MbxSt → MbxSt) : (setMbx s c f).regs = s.regs := rfl
@[simp] theorem setMbx_active (c : Nat) (f : MbxSt → MbxSt) : (setMbx s c f).active = s.active := rfl
@[simp] theorem setMbx_top (c : Nat) (f : MbxSt → MbxSt) : (setMbx s c f).top = s.top := rfl
@[simp] theorem setMbx_drain (c : Nat) (f : MbxSt → MbxSt) : (setMbx s c f).drain = s.drain := rfl
@[simp] theorem setMbx_bt (c : Nat) (f : MbxSt → MbxSt) : (setMbx s c f).bt = s.bt := rfl
@[simp] theorem setMbx_recd (c : Nat) (f : MbxSt → MbxSt) : (setMbx s c f).recd = s.recd := rfl
@[simp] theorem setMbx_tb (c : Nat) (f : MbxSt → MbxSt) : (setMbx s c f).tb = s.tb := rfl
@[simp] theorem setMbx_clk (c : Nat) (f : MbxSt → MbxSt) : (setMbx s c f).clk = s.clk := rfl
@[simp] theorem setMbx_ch (c : Nat) (f : MbxSt → MbxSt) : (setMbx s c f).ch = s.ch := rfl
@[simp] theorem setMbx_ph (c : Nat) (f : MbxSt → MbxSt) : (setMbx s c f).ph = s.ph := rfl
@[simp] theorem setMbx_quad (c : Nat) (f : MbxSt → MbxSt) : (setMbx s c f).quad = s.quad := rfl
@[simp] theorem setMbx_pb (c : Nat) (f : MbxSt → MbxSt) : (setMbx s c f).pb = s.pb := rfl
@[simp] theorem setMbx_fq (c : Nat) (f : MbxSt → MbxSt) : (setMbx s c f).fq = s.fq := rfl
@[simp] theorem setMbx_img (c : Nat) (f : MbxSt → MbxSt) : (setMbx s c f).img = s.img := rfl
@[simp] theorem setMbx_nvs (c : Nat) (f : MbxSt → MbxSt) : (setMbx s c f).nvs = s.nvs := rfl
@[simp] theorem setMbx_integ (c : Nat) (f : MbxSt → MbxSt) : (setMbx s c f).integ = s.integ := rfl
@[simp] theorem setMbx_fab (c : Nat) (f : MbxSt → MbxSt) : (setMbx s c f).fab = s.fab := rfl
@[simp] theorem setMbx_tvl (c : Nat) (f : MbxSt → MbxSt) : (setMbx s c f).tvl = s.tvl := rfl
@[simp] theorem setMbx_dom (c : Nat) (f : MbxSt → MbxSt) : (setMbx s c f).dom = s.dom := rfl
@[simp] theorem setMbx_est (c : Nat) (f : MbxSt → MbxSt) : (setMbx s c f).est = s.est := rfl
@[simp] theorem setMbx_cap (c : Nat) (f : MbxSt → MbxSt) : (setMbx s c f).cap = s.cap := rfl
@[simp] theorem setMbx_hir (c : Nat) (f : MbxSt → MbxSt) : (setMbx s c f).hir = s.hir := rfl
@[simp] theorem setMbx_sbm (c : Nat) (f : MbxSt → MbxSt) : (setMbx s c f).sbm = s.sbm := rfl
@[simp] theorem setMbx_sec (c : Nat) (f : MbxSt → MbxSt) : (setMbx s c f).sec = s.sec := rfl
@[simp] theorem setMbx_jtag (c : Nat) (f : MbxSt → MbxSt) : (setMbx s c f).jtag = s.jtag := rfl
@[simp] theorem setMbx_pending (c : Nat) (f : MbxSt → MbxSt) : (setMbx s c f).pending = s.pending := rfl
@[simp] theorem setMbx_resp (c : Nat) (f : MbxSt → MbxSt) : (setMbx s c f).resp = s.resp := rfl
@[simp] theorem setMbx_freeCtr (c : Nat) (f : MbxSt → MbxSt) : (setMbx s c f).freeCtr = s.freeCtr := rfl

@[simp] theorem setTile_regs (c : Nat) (f : TileSt → TileSt) : (setTile s c f).regs = s.regs := rfl
@[simp] theorem setTile_active (c : Nat) (f : TileSt → TileSt) : (setTile s c f).active = s.active := rfl
@[simp] theorem setTile_top (c : Nat) (f : TileSt → TileSt) : (setTile s c f).top = s.top := rfl
@[simp] theorem setTile_drain (c : Nat) (f : TileSt → TileSt) : (setTile s c f).drain = s.drain := rfl
@[simp] theorem setTile_bt (c : Nat) (f : TileSt → TileSt) : (setTile s c f).bt = s.bt := rfl
@[simp] theorem setTile_recd (c : Nat) (f : TileSt → TileSt) : (setTile s c f).recd = s.recd := rfl
@[simp] theorem setTile_tb (c : Nat) (f : TileSt → TileSt) : (setTile s c f).tb = s.tb := rfl
@[simp] theorem setTile_clk (c : Nat) (f : TileSt → TileSt) : (setTile s c f).clk = s.clk := rfl
@[simp] theorem setTile_ch (c : Nat) (f : TileSt → TileSt) : (setTile s c f).ch = s.ch := rfl
@[simp] theorem setTile_ph (c : Nat) (f : TileSt → TileSt) : (setTile s c f).ph = s.ph := rfl
@[simp] theorem setTile_quad (c : Nat) (f : TileSt → TileSt) : (setTile s c f).quad = s.quad := rfl
@[simp] theorem setTile_pb (c : Nat) (f : TileSt → TileSt) : (setTile s c f).pb = s.pb := rfl
@[simp] theorem setTile_fq (c : Nat) (f : TileSt → TileSt) : (setTile s c f).fq = s.fq := rfl
@[simp] theorem setTile_img (c : Nat) (f : TileSt → TileSt) : (setTile s c f).img = s.img := rfl
@[simp] theorem setTile_nvs (c : Nat) (f : TileSt → TileSt) : (setTile s c f).nvs = s.nvs := rfl
@[simp] theorem setTile_integ (c : Nat) (f : TileSt → TileSt) : (setTile s c f).integ = s.integ := rfl
@[simp] theorem setTile_fwc (c : Nat) (f : TileSt → TileSt) : (setTile s c f).fwc = s.fwc := rfl
@[simp] theorem setTile_tvl (c : Nat) (f : TileSt → TileSt) : (setTile s c f).tvl = s.tvl := rfl
@[simp] theorem setTile_dom (c : Nat) (f : TileSt → TileSt) : (setTile s c f).dom = s.dom := rfl
@[simp] theorem setTile_est (c : Nat) (f : TileSt → TileSt) : (setTile s c f).est = s.est := rfl
@[simp] theorem setTile_cap (c : Nat) (f : TileSt → TileSt) : (setTile s c f).cap = s.cap := rfl
@[simp] theorem setTile_hir (c : Nat) (f : TileSt → TileSt) : (setTile s c f).hir = s.hir := rfl
@[simp] theorem setTile_sbm (c : Nat) (f : TileSt → TileSt) : (setTile s c f).sbm = s.sbm := rfl
@[simp] theorem setTile_sec (c : Nat) (f : TileSt → TileSt) : (setTile s c f).sec = s.sec := rfl
@[simp] theorem setTile_jtag (c : Nat) (f : TileSt → TileSt) : (setTile s c f).jtag = s.jtag := rfl
@[simp] theorem setTile_pending (c : Nat) (f : TileSt → TileSt) : (setTile s c f).pending = s.pending := rfl
@[simp] theorem setTile_resp (c : Nat) (f : TileSt → TileSt) : (setTile s c f).resp = s.resp := rfl
@[simp] theorem setTile_freeCtr (c : Nat) (f : TileSt → TileSt) : (setTile s c f).freeCtr = s.freeCtr := rfl

@[simp] theorem setRx_regs (c : Nat) (f : RxSlot → RxSlot) : (setRx s c f).regs = s.regs := rfl
@[simp] theorem setRx_active (c : Nat) (f : RxSlot → RxSlot) : (setRx s c f).active = s.active := rfl
@[simp] theorem setRx_top (c : Nat) (f : RxSlot → RxSlot) : (setRx s c f).top = s.top := rfl
@[simp] theorem setRx_drain (c : Nat) (f : RxSlot → RxSlot) : (setRx s c f).drain = s.drain := rfl
@[simp] theorem setRx_bt (c : Nat) (f : RxSlot → RxSlot) : (setRx s c f).bt = s.bt := rfl
@[simp] theorem setRx_recd (c : Nat) (f : RxSlot → RxSlot) : (setRx s c f).recd = s.recd := rfl
@[simp] theorem setRx_tb (c : Nat) (f : RxSlot → RxSlot) : (setRx s c f).tb = s.tb := rfl
@[simp] theorem setRx_clk (c : Nat) (f : RxSlot → RxSlot) : (setRx s c f).clk = s.clk := rfl
@[simp] theorem setRx_ch (c : Nat) (f : RxSlot → RxSlot) : (setRx s c f).ch = s.ch := rfl
@[simp] theorem setRx_ph (c : Nat) (f : RxSlot → RxSlot) : (setRx s c f).ph = s.ph := rfl
@[simp] theorem setRx_quad (c : Nat) (f : RxSlot → RxSlot) : (setRx s c f).quad = s.quad := rfl
@[simp] theorem setRx_pb (c : Nat) (f : RxSlot → RxSlot) : (setRx s c f).pb = s.pb := rfl
@[simp] theorem setRx_fq (c : Nat) (f : RxSlot → RxSlot) : (setRx s c f).fq = s.fq := rfl
@[simp] theorem setRx_img (c : Nat) (f : RxSlot → RxSlot) : (setRx s c f).img = s.img := rfl
@[simp] theorem setRx_nvs (c : Nat) (f : RxSlot → RxSlot) : (setRx s c f).nvs = s.nvs := rfl
@[simp] theorem setRx_integ (c : Nat) (f : RxSlot → RxSlot) : (setRx s c f).integ = s.integ := rfl
@[simp] theorem setRx_fwc (c : Nat) (f : RxSlot → RxSlot) : (setRx s c f).fwc = s.fwc := rfl
@[simp] theorem setRx_tvl (c : Nat) (f : RxSlot → RxSlot) : (setRx s c f).tvl = s.tvl := rfl
@[simp] theorem setRx_dom (c : Nat) (f : RxSlot → RxSlot) : (setRx s c f).dom = s.dom := rfl
@[simp] theorem setRx_est (c : Nat) (f : RxSlot → RxSlot) : (setRx s c f).est = s.est := rfl
@[simp] theorem setRx_cap (c : Nat) (f : RxSlot → RxSlot) : (setRx s c f).cap = s.cap := rfl
@[simp] theorem setRx_hir (c : Nat) (f : RxSlot → RxSlot) : (setRx s c f).hir = s.hir := rfl
@[simp] theorem setRx_sbm (c : Nat) (f : RxSlot → RxSlot) : (setRx s c f).sbm = s.sbm := rfl
@[simp] theorem setRx_sec (c : Nat) (f : RxSlot → RxSlot) : (setRx s c f).sec = s.sec := rfl
@[simp] theorem setRx_jtag (c : Nat) (f : RxSlot → RxSlot) : (setRx s c f).jtag = s.jtag := rfl
@[simp] theorem setRx_pending (c : Nat) (f : RxSlot → RxSlot) : (setRx s c f).pending = s.pending := rfl
@[simp] theorem setRx_resp (c : Nat) (f : RxSlot → RxSlot) : (setRx s c f).resp = s.resp := rfl
@[simp] theorem setRx_freeCtr (c : Nat) (f : RxSlot → RxSlot) : (setRx s c f).freeCtr = s.freeCtr := rfl

@[simp] theorem setSig_regs (c : Nat) (v : Int) : (setSig s c v).regs = s.regs := rfl
@[simp] theorem setSig_active (c : Nat) (v : Int) : (setSig s c v).active = s.active := rfl
@[simp] theorem setSig_top (c : Nat) (v : Int) : (setSig s c v).top = s.top := rfl
@[simp] theorem setSig_drain (c : Nat) (v : Int) : (setSig s c v).drain = s.drain := rfl
@[simp] theorem setSig_bt (c : Nat) (v : Int) : (setSig s c v).bt = s.bt := rfl
@[simp] theorem setSig_recd (c : Nat) (v : Int) : (setSig s c v).recd = s.recd := rfl
@[simp] theorem setSig_tb (c : Nat) (v : Int) : (setSig s c v).tb = s.tb := rfl
@[simp] theorem setSig_clk (c : Nat) (v : Int) : (setSig s c v).clk = s.clk := rfl
@[simp] theorem setSig_ch (c : Nat) (v : Int) : (setSig s c v).ch = s.ch := rfl
@[simp] theorem setSig_ph (c : Nat) (v : Int) : (setSig s c v).ph = s.ph := rfl
@[simp] theorem setSig_quad (c : Nat) (v : Int) : (setSig s c v).quad = s.quad := rfl
@[simp] theorem setSig_pb (c : Nat) (v : Int) : (setSig s c v).pb = s.pb := rfl
@[simp] theorem setSig_fq (c : Nat) (v : Int) : (setSig s c v).fq = s.fq := rfl
@[simp] theorem setSig_img (c : Nat) (v : Int) : (setSig s c v).img = s.img := rfl
@[simp] theorem setSig_nvs (c : Nat) (v : Int) : (setSig s c v).nvs = s.nvs := rfl
@[simp] theorem setSig_integ (c : Nat) (v : Int) : (setSig s c v).integ = s.integ := rfl
@[simp] theorem setSig_fwc (c : Nat) (v : Int) : (setSig s c v).fwc = s.fwc := rfl
@[simp] theorem setSig_tvl (c : Nat) (v : Int) : (setSig s c v).tvl = s.tvl := rfl
@[simp] theorem setSig_dom (c : Nat) (v : Int) : (setSig s c v).dom = s.dom := rfl
@[simp] theorem setSig_est (c : Nat) (v : Int) : (setSig s c v).est = s.est := rfl
@[simp] theorem setSig_cap (c : Nat) (v : Int) : (setSig s c v).cap = s.cap := rfl
@[simp] theorem setSig_hir (c : Nat) (v : Int) : (setSig s c v).hir = s.hir := rfl
@[simp] theorem setSig_sbm (c : Nat) (v : Int) : (setSig s c v).sbm = s.sbm := rfl
@[simp] theorem setSig_sec (c : Nat) (v : Int) : (setSig s c v).sec = s.sec := rfl
@[simp] theorem setSig_jtag (c : Nat) (v : Int) : (setSig s c v).jtag = s.jtag := rfl
@[simp] theorem setSig_pending (c : Nat) (v : Int) : (setSig s c v).pending = s.pending := rfl
@[simp] theorem setSig_resp (c : Nat) (v : Int) : (setSig s c v).resp = s.resp := rfl
@[simp] theorem setSig_freeCtr (c : Nat) (v : Int) : (setSig s c v).freeCtr = s.freeCtr := rfl

@[simp] theorem setSrc_regs (c : Nat) (v : Int) : (setSrc s c v).regs = s.regs := rfl
@[simp] theorem setSrc_active (c : Nat) (v : Int) : (setSrc s c v).active = s.active := rfl
@[simp] theorem setSrc_top (c : Nat) (v : Int) : (setSrc s c v).top = s.top := rfl
@[simp] theorem setSrc_drain (c : Nat) (v : Int) : (setSrc s c v).drain = s.drain := rfl
@[simp] theorem setSrc_bt (c : Nat) (v : Int) : (setSrc s c v).bt = s.bt := rfl
@[simp] theorem setSrc_recd (c : Nat) (v : Int) : (setSrc s c v).recd = s.recd := rfl
@[simp] theorem setSrc_tb (c : Nat) (v : Int) : (setSrc s c v).tb = s.tb := rfl
@[simp] theorem setSrc_clk (c : Nat) (v : Int) : (setSrc s c v).clk = s.clk := rfl
@[simp] theorem setSrc_ch (c : Nat) (v : Int) : (setSrc s c v).ch = s.ch := rfl
@[simp] theorem setSrc_ph (c : Nat) (v : Int) : (setSrc s c v).ph = s.ph := rfl
@[simp] theorem setSrc_quad (c : Nat) (v : Int) : (setSrc s c v).quad = s.quad := rfl
@[simp] theorem setSrc_pb (c : Nat) (v : Int) : (setSrc s c v).pb = s.pb := rfl
@[simp] theorem setSrc_fq (c : Nat) (v : Int) : (setSrc s c v).fq = s.fq := rfl
@[simp] theorem setSrc_img (c : Nat) (v : Int) : (setSrc s c v).img = s.img := rfl
@[simp] theorem setSrc_nvs (c : Nat) (v : Int) : (setSrc s c v).nvs = s.nvs := rfl
@[simp] theorem setSrc_integ (c : Nat) (v : Int) : (setSrc s c v).integ = s.integ := rfl
@[simp] theorem setSrc_fwc (c : Nat) (v : Int) : (setSrc s c v).fwc = s.fwc := rfl
@[simp] theorem setSrc_tvl (c : Nat) (v : Int) : (setSrc s c v).tvl = s.tvl := rfl
@[simp] theorem setSrc_dom (c : Nat) (v : Int) : (setSrc s c v).dom = s.dom := rfl
@[simp] theorem setSrc_est (c : Nat) (v : Int) : (setSrc s c v).est = s.est := rfl
@[simp] theorem setSrc_cap (c : Nat) (v : Int) : (setSrc s c v).cap = s.cap := rfl
@[simp] theorem setSrc_hir (c : Nat) (v : Int) : (setSrc s c v).hir = s.hir := rfl
@[simp] theorem setSrc_sbm (c : Nat) (v : Int) : (setSrc s c v).sbm = s.sbm := rfl
@[simp] theorem setSrc_sec (c : Nat) (v : Int) : (setSrc s c v).sec = s.sec := rfl
@[simp] theorem setSrc_jtag (c : Nat) (v : Int) : (setSrc s c v).jtag = s.jtag := rfl
@[simp] theorem setSrc_pending (c : Nat) (v : Int) : (setSrc s c v).pending = s.pending := rfl
@[simp] theorem setSrc_resp (c : Nat) (v : Int) : (setSrc s c v).resp = s.resp := rfl
@[simp] theorem setSrc_freeCtr (c : Nat) (v : Int) : (setSrc s c v).freeCtr = s.freeCtr := rfl

@[simp] theorem setLane_regs (c : Nat) (f : LaneSt → LaneSt) : (setLane s c f).regs = s.regs := rfl
@[simp] theorem setLane_active (c : Nat) (f : LaneSt → LaneSt) : (setLane s c f).active = s.active := rfl
@[simp] theorem setLane_top (c : Nat) (f : LaneSt → LaneSt) : (setLane s c f).top = s.top := rfl
@[simp] theorem setLane_drain (c : Nat) (f : LaneSt → LaneSt) : (setLane s c f).drain = s.drain := rfl
@[simp] theorem setLane_bt (c : Nat) (f : LaneSt → LaneSt) : (setLane s c f).bt = s.bt := rfl
@[simp] theorem setLane_recd (c : Nat) (f : LaneSt → LaneSt) : (setLane s c f).recd = s.recd := rfl
@[simp] theorem setLane_tb (c : Nat) (f : LaneSt → LaneSt) : (setLane s c f).tb = s.tb := rfl
@[simp] theorem setLane_clk (c : Nat) (f : LaneSt → LaneSt) : (setLane s c f).clk = s.clk := rfl
@[simp] theorem setLane_ch (c : Nat) (f : LaneSt → LaneSt) : (setLane s c f).ch = s.ch := rfl
@[simp] theorem setLane_ph (c : Nat) (f : LaneSt → LaneSt) : (setLane s c f).ph = s.ph := rfl
@[simp] theorem setLane_quad (c : Nat) (f : LaneSt → LaneSt) : (setLane s c f).quad = s.quad := rfl
@[simp] theorem setLane_pb (c : Nat) (f : LaneSt → LaneSt) : (setLane s c f).pb = s.pb := rfl
@[simp] theorem setLane_fq (c : Nat) (f : LaneSt → LaneSt) : (setLane s c f).fq = s.fq := rfl
@[simp] theorem setLane_img (c : Nat) (f : LaneSt → LaneSt) : (setLane s c f).img = s.img := rfl
@[simp] theorem setLane_nvs (c : Nat) (f : LaneSt → LaneSt) : (setLane s c f).nvs = s.nvs := rfl
@[simp] theorem setLane_integ (c : Nat) (f : LaneSt → LaneSt) : (setLane s c f).integ = s.integ := rfl
@[simp] theorem setLane_fwc (c : Nat) (f : LaneSt → LaneSt) : (setLane s c f).fwc = s.fwc := rfl
@[simp] theorem setLane_fab (c : Nat) (f : LaneSt → LaneSt) : (setLane s c f).fab = s.fab := rfl
@[simp] theorem setLane_dom (c : Nat) (f : LaneSt → LaneSt) : (setLane s c f).dom = s.dom := rfl
@[simp] theorem setLane_est (c : Nat) (f : LaneSt → LaneSt) : (setLane s c f).est = s.est := rfl
@[simp] theorem setLane_cap (c : Nat) (f : LaneSt → LaneSt) : (setLane s c f).cap = s.cap := rfl
@[simp] theorem setLane_hir (c : Nat) (f : LaneSt → LaneSt) : (setLane s c f).hir = s.hir := rfl
@[simp] theorem setLane_sbm (c : Nat) (f : LaneSt → LaneSt) : (setLane s c f).sbm = s.sbm := rfl
@[simp] theorem setLane_sec (c : Nat) (f : LaneSt → LaneSt) : (setLane s c f).sec = s.sec := rfl
@[simp] theorem setLane_jtag (c : Nat) (f : LaneSt → LaneSt) : (setLane s c f).jtag = s.jtag := rfl
@[simp] theorem setLane_pending (c : Nat) (f : LaneSt → LaneSt) : (setLane s c f).pending = s.pending := rfl
@[simp] theorem setLane_resp (c : Nat) (f : LaneSt → LaneSt) : (setLane s c f).resp = s.resp := rfl
@[simp] theorem setLane_freeCtr (c : Nat) (f : LaneSt → LaneSt) : (setLane s c f).freeCtr = s.freeCtr := rfl

@[simp] theorem setLcls_regs (n c : Nat) (f : LaneCls → LaneCls) : (setLcls s n c f).regs = s.regs := rfl
@[simp] theorem setLcls_active (n c : Nat) (f : LaneCls → LaneCls) : (setLcls s n c f).active = s.active := rfl
@[simp] theorem setLcls_top (n c : Nat) (f : LaneCls → LaneCls) : (setLcls s n c f).top = s.top := rfl
@[simp] theorem setLcls_drain (n c : Nat) (f : LaneCls → LaneCls) : (setLcls s n c f).drain = s.drain := rfl
@[simp] theorem setLcls_bt (n c : Nat) (f : LaneCls → LaneCls) : (setLcls s n c f).bt = s.bt := rfl
@[simp] theorem setLcls_recd (n c : Nat) (f : LaneCls → LaneCls) : (setLcls s n c f).recd = s.recd := rfl
@[simp] theorem setLcls_tb (n c : Nat) (f : LaneCls → LaneCls) : (setLcls s n c f).tb = s.tb := rfl
@[simp] theorem setLcls_clk (n c : Nat) (f : LaneCls → LaneCls) : (setLcls s n c f).clk = s.clk := rfl
@[simp] theorem setLcls_ch (n c : Nat) (f : LaneCls → LaneCls) : (setLcls s n c f).ch = s.ch := rfl
@[simp] theorem setLcls_ph (n c : Nat) (f : LaneCls → LaneCls) : (setLcls s n c f).ph = s.ph := rfl
@[simp] theorem setLcls_quad (n c : Nat) (f : LaneCls → LaneCls) : (setLcls s n c f).quad = s.quad := rfl
@[simp] theorem setLcls_pb (n c : Nat) (f : LaneCls → LaneCls) : (setLcls s n c f).pb = s.pb := rfl
@[simp] theorem setLcls_fq (n c : Nat) (f : LaneCls → LaneCls) : (setLcls s n c f).fq = s.fq := rfl
@[simp] theorem setLcls_img (n c : Nat) (f : LaneCls → LaneCls) : (setLcls s n c f).img = s.img := rfl
@[simp] theorem setLcls_nvs (n c : Nat) (f : LaneCls → LaneCls) : (setLcls s n c f).nvs = s.nvs := rfl
@[simp] theorem setLcls_integ (n c : Nat) (f : LaneCls → LaneCls) : (setLcls s n c f).integ = s.integ := rfl
@[simp] theorem setLcls_fwc (n c : Nat) (f : LaneCls → LaneCls) : (setLcls s n c f).fwc = s.fwc := rfl
@[simp] theorem setLcls_fab (n c : Nat) (f : LaneCls → LaneCls) : (setLcls s n c f).fab = s.fab := rfl
@[simp] theorem setLcls_dom (n c : Nat) (f : LaneCls → LaneCls) : (setLcls s n c f).dom = s.dom := rfl
@[simp] theorem setLcls_est (n c : Nat) (f : LaneCls → LaneCls) : (setLcls s n c f).est = s.est := rfl
@[simp] theorem setLcls_cap (n c : Nat) (f : LaneCls → LaneCls) : (setLcls s n c f).cap = s.cap := rfl
@[simp] theorem setLcls_hir (n c : Nat) (f : LaneCls → LaneCls) : (setLcls s n c f).hir = s.hir := rfl
@[simp] theorem setLcls_sbm (n c : Nat) (f : LaneCls → LaneCls) : (setLcls s n c f).sbm = s.sbm := rfl
@[simp] theorem setLcls_sec (n c : Nat) (f : LaneCls → LaneCls) : (setLcls s n c f).sec = s.sec := rfl
@[simp] theorem setLcls_jtag (n c : Nat) (f : LaneCls → LaneCls) : (setLcls s n c f).jtag = s.jtag := rfl
@[simp] theorem setLcls_pending (n c : Nat) (f : LaneCls → LaneCls) : (setLcls s n c f).pending = s.pending := rfl
@[simp] theorem setLcls_resp (n c : Nat) (f : LaneCls → LaneCls) : (setLcls s n c f).resp = s.resp := rfl
@[simp] theorem setLcls_freeCtr (n c : Nat) (f : LaneCls → LaneCls) : (setLcls s n c f).freeCtr = s.freeCtr := rfl

@[simp] theorem setDlq_regs (c : Nat) (f : DlqSt → DlqSt) : (setDlq s c f).regs = s.regs := rfl
@[simp] theorem setDlq_active (c : Nat) (f : DlqSt → DlqSt) : (setDlq s c f).active = s.active := rfl
@[simp] theorem setDlq_top (c : Nat) (f : DlqSt → DlqSt) : (setDlq s c f).top = s.top := rfl
@[simp] theorem setDlq_drain (c : Nat) (f : DlqSt → DlqSt) : (setDlq s c f).drain = s.drain := rfl
@[simp] theorem setDlq_bt (c : Nat) (f : DlqSt → DlqSt) : (setDlq s c f).bt = s.bt := rfl
@[simp] theorem setDlq_recd (c : Nat) (f : DlqSt → DlqSt) : (setDlq s c f).recd = s.recd := rfl
@[simp] theorem setDlq_tb (c : Nat) (f : DlqSt → DlqSt) : (setDlq s c f).tb = s.tb := rfl
@[simp] theorem setDlq_clk (c : Nat) (f : DlqSt → DlqSt) : (setDlq s c f).clk = s.clk := rfl
@[simp] theorem setDlq_ch (c : Nat) (f : DlqSt → DlqSt) : (setDlq s c f).ch = s.ch := rfl
@[simp] theorem setDlq_ph (c : Nat) (f : DlqSt → DlqSt) : (setDlq s c f).ph = s.ph := rfl
@[simp] theorem setDlq_quad (c : Nat) (f : DlqSt → DlqSt) : (setDlq s c f).quad = s.quad := rfl
@[simp] theorem setDlq_pb (c : Nat) (f : DlqSt → DlqSt) : (setDlq s c f).pb = s.pb := rfl
@[simp] theorem setDlq_fq (c : Nat) (f : DlqSt → DlqSt) : (setDlq s c f).fq = s.fq := rfl
@[simp] theorem setDlq_img (c : Nat) (f : DlqSt → DlqSt) : (setDlq s c f).img = s.img := rfl
@[simp] theorem setDlq_nvs (c : Nat) (f : DlqSt → DlqSt) : (setDlq s c f).nvs = s.nvs := rfl
@[simp] theorem setDlq_integ (c : Nat) (f : DlqSt → DlqSt) : (setDlq s c f).integ = s.integ := rfl
@[simp] theorem setDlq_fwc (c : Nat) (f : DlqSt → DlqSt) : (setDlq s c f).fwc = s.fwc := rfl
@[simp] theorem setDlq_fab (c : Nat) (f : DlqSt → DlqSt) : (setDlq s c f).fab = s.fab := rfl
@[simp] theorem setDlq_dom (c : Nat) (f : DlqSt → DlqSt) : (setDlq s c f).dom = s.dom := rfl
@[simp] theorem setDlq_est (c : Nat) (f : DlqSt → DlqSt) : (setDlq s c f).est = s.est := rfl
@[simp] theorem setDlq_cap (c : Nat) (f : DlqSt → DlqSt) : (setDlq s c f).cap = s.cap := rfl
@[simp] theorem setDlq_hir (c : Nat) (f : DlqSt → DlqSt) : (setDlq s c f).hir = s.hir := rfl
@[simp] theorem setDlq_sbm (c : Nat) (f : DlqSt → DlqSt) : (setDlq s c f).sbm = s.sbm := rfl
@[simp] theorem setDlq_sec (c : Nat) (f : DlqSt → DlqSt) : (setDlq s c f).sec = s.sec := rfl
@[simp] theorem setDlq_jtag (c : Nat) (f : DlqSt → DlqSt) : (setDlq s c f).jtag = s.jtag := rfl
@[simp] theorem setDlq_pending (c : Nat) (f : DlqSt → DlqSt) : (setDlq s c f).pending = s.pending := rfl
@[simp] theorem setDlq_resp (c : Nat) (f : DlqSt → DlqSt) : (setDlq s c f).resp = s.resp := rfl
@[simp] theorem setDlq_freeCtr (c : Nat) (f : DlqSt → DlqSt) : (setDlq s c f).freeCtr = s.freeCtr := rfl

@[simp] theorem setRegion_regs (c : Nat) (f : RegionSt → RegionSt) : (setRegion s c f).regs = s.regs := rfl
@[simp] theorem setRegion_active (c : Nat) (f : RegionSt → RegionSt) : (setRegion s c f).active = s.active := rfl
@[simp] theorem setRegion_top (c : Nat) (f : RegionSt → RegionSt) : (setRegion s c f).top = s.top := rfl
@[simp] theorem setRegion_drain (c : Nat) (f : RegionSt → RegionSt) : (setRegion s c f).drain = s.drain := rfl
@[simp] theorem setRegion_bt (c : Nat) (f : RegionSt → RegionSt) : (setRegion s c f).bt = s.bt := rfl
@[simp] theorem setRegion_recd (c : Nat) (f : RegionSt → RegionSt) : (setRegion s c f).recd = s.recd := rfl
@[simp] theorem setRegion_tb (c : Nat) (f : RegionSt → RegionSt) : (setRegion s c f).tb = s.tb := rfl
@[simp] theorem setRegion_clk (c : Nat) (f : RegionSt → RegionSt) : (setRegion s c f).clk = s.clk := rfl
@[simp] theorem setRegion_ch (c : Nat) (f : RegionSt → RegionSt) : (setRegion s c f).ch = s.ch := rfl
@[simp] theorem setRegion_ph (c : Nat) (f : RegionSt → RegionSt) : (setRegion s c f).ph = s.ph := rfl
@[simp] theorem setRegion_quad (c : Nat) (f : RegionSt → RegionSt) : (setRegion s c f).quad = s.quad := rfl
@[simp] theorem setRegion_pb (c : Nat) (f : RegionSt → RegionSt) : (setRegion s c f).pb = s.pb := rfl
@[simp] theorem setRegion_fq (c : Nat) (f : RegionSt → RegionSt) : (setRegion s c f).fq = s.fq := rfl
@[simp] theorem setRegion_img (c : Nat) (f : RegionSt → RegionSt) : (setRegion s c f).img = s.img := rfl
@[simp] theorem setRegion_nvs (c : Nat) (f : RegionSt → RegionSt) : (setRegion s c f).nvs = s.nvs := rfl
@[simp] theorem setRegion_integ (c : Nat) (f : RegionSt → RegionSt) : (setRegion s c f).integ = s.integ := rfl
@[simp] theorem setRegion_fwc (c : Nat) (f : RegionSt → RegionSt) : (setRegion s c f).fwc = s.fwc := rfl
@[simp] theorem setRegion_fab (c : Nat) (f : RegionSt → RegionSt) : (setRegion s c f).fab = s.fab := rfl
@[simp] theorem setRegion_tvl (c : Nat) (f : RegionSt → RegionSt) : (setRegion s c f).tvl = s.tvl := rfl
@[simp] theorem setRegion_dom (c : Nat) (f : RegionSt → RegionSt) : (setRegion s c f).dom = s.dom := rfl
@[simp] theorem setRegion_cap (c : Nat) (f : RegionSt → RegionSt) : (setRegion s c f).cap = s.cap := rfl
@[simp] theorem setRegion_hir (c : Nat) (f : RegionSt → RegionSt) : (setRegion s c f).hir = s.hir := rfl
@[simp] theorem setRegion_sbm (c : Nat) (f : RegionSt → RegionSt) : (setRegion s c f).sbm = s.sbm := rfl
@[simp] theorem setRegion_sec (c : Nat) (f : RegionSt → RegionSt) : (setRegion s c f).sec = s.sec := rfl
@[simp] theorem setRegion_jtag (c : Nat) (f : RegionSt → RegionSt) : (setRegion s c f).jtag = s.jtag := rfl
@[simp] theorem setRegion_pending (c : Nat) (f : RegionSt → RegionSt) : (setRegion s c f).pending = s.pending := rfl
@[simp] theorem setRegion_resp (c : Nat) (f : RegionSt → RegionSt) : (setRegion s c f).resp = s.resp := rfl
@[simp] theorem setRegion_freeCtr (c : Nat) (f : RegionSt → RegionSt) : (setRegion s c f).freeCtr = s.freeCtr := rfl

@[simp] theorem setCap_regs (c : Nat) (f : CapPart → CapPart) : (setCap s c f).regs = s.regs := rfl
@[simp] theorem setCap_active (c : Nat) (f : CapPart → CapPart) : (setCap s c f).active = s.active := rfl
@[simp] theorem setCap_top (c : Nat) (f : CapPart → CapPart) : (setCap s c f).top = s.top := rfl
@[simp] theorem setCap_drain (c : Nat) (f : CapPart → CapPart) : (setCap s c f).drain = s.drain := rfl
@[simp] theorem setCap_bt (c : Nat) (f : CapPart → CapPart) : (setCap s c f).bt = s.bt := rfl
@[simp] theorem setCap_recd (c : Nat) (f : CapPart → CapPart) : (setCap s c f).recd = s.recd := rfl
@[simp] theorem setCap_tb (c : Nat) (f : CapPart → CapPart) : (setCap s c f).tb = s.tb := rfl
@[simp] theorem setCap_clk (c : Nat) (f : CapPart → CapPart) : (setCap s c f).clk = s.clk := rfl
@[simp] theorem setCap_ch (c : Nat) (f : CapPart → CapPart) : (setCap s c f).ch = s.ch := rfl
@[simp] theorem setCap_ph (c : Nat) (f : CapPart → CapPart) : (setCap s c f).ph = s.ph := rfl
@[simp] theorem setCap_quad (c : Nat) (f : CapPart → CapPart) : (setCap s c f).quad = s.quad := rfl
@[simp] theorem setCap_pb (c : Nat) (f : CapPart → CapPart) : (setCap s c f).pb = s.pb := rfl
@[simp] theorem setCap_fq (c : Nat) (f : CapPart → CapPart) : (setCap s c f).fq = s.fq := rfl
@[simp] theorem setCap_img (c : Nat) (f : CapPart → CapPart) : (setCap s c f).img = s.img := rfl
@[simp] theorem setCap_nvs (c : Nat) (f : CapPart → CapPart) : (setCap s c f).nvs = s.nvs := rfl
@[simp] theorem setCap_integ (c : Nat) (f : CapPart → CapPart) : (setCap s c f).integ = s.integ := rfl
@[simp] theorem setCap_fwc (c : Nat) (f : CapPart → CapPart) : (setCap s c f).fwc = s.fwc := rfl
@[simp] theorem setCap_fab (c : Nat) (f : CapPart → CapPart) : (setCap s c f).fab = s.fab := rfl
@[simp] theorem setCap_tvl (c : Nat) (f : CapPart → CapPart) : (setCap s c f).tvl = s.tvl := rfl
@[simp] theorem setCap_dom (c : Nat) (f : CapPart → CapPart) : (setCap s c f).dom = s.dom := rfl
@[simp] theorem setCap_est (c : Nat) (f : CapPart → CapPart) : (setCap s c f).est = s.est := rfl
@[simp] theorem setCap_hir (c : Nat) (f : CapPart → CapPart) : (setCap s c f).hir = s.hir := rfl
@[simp] theorem setCap_sbm (c : Nat) (f : CapPart → CapPart) : (setCap s c f).sbm = s.sbm := rfl
@[simp] theorem setCap_sec (c : Nat) (f : CapPart → CapPart) : (setCap s c f).sec = s.sec := rfl
@[simp] theorem setCap_jtag (c : Nat) (f : CapPart → CapPart) : (setCap s c f).jtag = s.jtag := rfl
@[simp] theorem setCap_pending (c : Nat) (f : CapPart → CapPart) : (setCap s c f).pending = s.pending := rfl
@[simp] theorem setCap_resp (c : Nat) (f : CapPart → CapPart) : (setCap s c f).resp = s.resp := rfl
@[simp] theorem setCap_freeCtr (c : Nat) (f : CapPart → CapPart) : (setCap s c f).freeCtr = s.freeCtr := rfl

@[simp] theorem setRing_regs (c : Nat) (f : RingSt → RingSt) : (setRing s c f).regs = s.regs := rfl
@[simp] theorem setRing_active (c : Nat) (f : RingSt → RingSt) : (setRing s c f).active = s.active := rfl
@[simp] theorem setRing_top (c : Nat) (f : RingSt → RingSt) : (setRing s c f).top = s.top := rfl
@[simp] theorem setRing_drain (c : Nat) (f : RingSt → RingSt) : (setRing s c f).drain = s.drain := rfl
@[simp] theorem setRing_bt (c : Nat) (f : RingSt → RingSt) : (setRing s c f).bt = s.bt := rfl
@[simp] theorem setRing_recd (c : Nat) (f : RingSt → RingSt) : (setRing s c f).recd = s.recd := rfl
@[simp] theorem setRing_tb (c : Nat) (f : RingSt → RingSt) : (setRing s c f).tb = s.tb := rfl
@[simp] theorem setRing_clk (c : Nat) (f : RingSt → RingSt) : (setRing s c f).clk = s.clk := rfl
@[simp] theorem setRing_ch (c : Nat) (f : RingSt → RingSt) : (setRing s c f).ch = s.ch := rfl
@[simp] theorem setRing_ph (c : Nat) (f : RingSt → RingSt) : (setRing s c f).ph = s.ph := rfl
@[simp] theorem setRing_quad (c : Nat) (f : RingSt → RingSt) : (setRing s c f).quad = s.quad := rfl
@[simp] theorem setRing_pb (c : Nat) (f : RingSt → RingSt) : (setRing s c f).pb = s.pb := rfl
@[simp] theorem setRing_fq (c : Nat) (f : RingSt → RingSt) : (setRing s c f).fq = s.fq := rfl
@[simp] theorem setRing_img (c : Nat) (f : RingSt → RingSt) : (setRing s c f).img = s.img := rfl
@[simp] theorem setRing_nvs (c : Nat) (f : RingSt → RingSt) : (setRing s c f).nvs = s.nvs := rfl
@[simp] theorem setRing_integ (c : Nat) (f : RingSt → RingSt) : (setRing s c f).integ = s.integ := rfl
@[simp] theorem setRing_fwc (c : Nat) (f : RingSt → RingSt) : (setRing s c f).fwc = s.fwc := rfl
@[simp] theorem setRing_fab (c : Nat) (f : RingSt → RingSt) : (setRing s c f).fab = s.fab := rfl
@[simp] theorem setRing_tvl (c : Nat) (f : RingSt → RingSt) : (setRing s c f).tvl = s.tvl := rfl
@[simp] theorem setRing_dom (c : Nat) (f : RingSt → RingSt) : (setRing s c f).dom = s.dom := rfl
@[simp] theorem setRing_est (c : Nat) (f : RingSt → RingSt) : (setRing s c f).est = s.est := rfl
@[simp] theorem setRing_cap (c : Nat) (f : RingSt → RingSt) : (setRing s c f).cap = s.cap := rfl
@[simp] theorem setRing_sbm (c : Nat) (f : RingSt → RingSt) : (setRing s c f).sbm = s.sbm := rfl
@[simp] theorem setRing_sec (c : Nat) (f : RingSt → RingSt) : (setRing s c f).sec = s.sec := rfl
@[simp] theorem setRing_jtag (c : Nat) (f : RingSt → RingSt) : (setRing s c f).jtag = s.jtag := rfl
@[simp] theorem setRing_pending (c : Nat) (f : RingSt → RingSt) : (setRing s c f).pending = s.pending := rfl
@[simp] theorem setRing_resp (c : Nat) (f : RingSt → RingSt) : (setRing s c f).resp = s.resp := rfl
@[simp] theorem setRing_freeCtr (c : Nat) (f : RingSt → RingSt) : (setRing s c f).freeCtr = s.freeCtr := rfl

@[simp] theorem setPage_regs (c : Nat) (f : PageSt → PageSt) : (setPage s c f).regs = s.regs := rfl
@[simp] theorem setPage_active (c : Nat) (f : PageSt → PageSt) : (setPage s c f).active = s.active := rfl
@[simp] theorem setPage_top (c : Nat) (f : PageSt → PageSt) : (setPage s c f).top = s.top := rfl
@[simp] theorem setPage_drain (c : Nat) (f : PageSt → PageSt) : (setPage s c f).drain = s.drain := rfl
@[simp] theorem setPage_bt (c : Nat) (f : PageSt → PageSt) : (setPage s c f).bt = s.bt := rfl
@[simp] theorem setPage_recd (c : Nat) (f : PageSt → PageSt) : (setPage s c f).recd = s.recd := rfl
@[simp] theorem setPage_tb (c : Nat) (f : PageSt → PageSt) : (setPage s c f).tb = s.tb := rfl
@[simp] theorem setPage_clk (c : Nat) (f : PageSt → PageSt) : (setPage s c f).clk = s.clk := rfl
@[simp] theorem setPage_ch (c : Nat) (f : PageSt → PageSt) : (setPage s c f).ch = s.ch := rfl
@[simp] theorem setPage_ph (c : Nat) (f : PageSt → PageSt) : (setPage s c f).ph = s.ph := rfl
@[simp] theorem setPage_quad (c : Nat) (f : PageSt → PageSt) : (setPage s c f).quad = s.quad := rfl
@[simp] theorem setPage_pb (c : Nat) (f : PageSt → PageSt) : (setPage s c f).pb = s.pb := rfl
@[simp] theorem setPage_fq (c : Nat) (f : PageSt → PageSt) : (setPage s c f).fq = s.fq := rfl
@[simp] theorem setPage_img (c : Nat) (f : PageSt → PageSt) : (setPage s c f).img = s.img := rfl
@[simp] theorem setPage_nvs (c : Nat) (f : PageSt → PageSt) : (setPage s c f).nvs = s.nvs := rfl
@[simp] theorem setPage_integ (c : Nat) (f : PageSt → PageSt) : (setPage s c f).integ = s.integ := rfl
@[simp] theorem setPage_fwc (c : Nat) (f : PageSt → PageSt) : (setPage s c f).fwc = s.fwc := rfl
@[simp] theorem setPage_fab (c : Nat) (f : PageSt → PageSt) : (setPage s c f).fab = s.fab := rfl
@[simp] theorem setPage_tvl (c : Nat) (f : PageSt → PageSt) : (setPage s c f).tvl = s.tvl := rfl
@[simp] theorem setPage_dom (c : Nat) (f : PageSt → PageSt) : (setPage s c f).dom = s.dom := rfl
@[simp] theorem setPage_est (c : Nat) (f : PageSt → PageSt) : (setPage s c f).est = s.est := rfl
@[simp] theorem setPage_cap (c : Nat) (f : PageSt → PageSt) : (setPage s c f).cap = s.cap := rfl
@[simp] theorem setPage_hir (c : Nat) (f : PageSt → PageSt) : (setPage s c f).hir = s.hir := rfl
@[simp] theorem setPage_sec (c : Nat) (f : PageSt → PageSt) : (setPage s c f).sec = s.sec := rfl
@[simp] theorem setPage_jtag (c : Nat) (f : PageSt → PageSt) : (setPage s c f).jtag = s.jtag := rfl
@[simp] theorem setPage_pending (c : Nat) (f : PageSt → PageSt) : (setPage s c f).pending = s.pending := rfl
@[simp] theorem setPage_resp (c : Nat) (f : PageSt → PageSt) : (setPage s c f).resp = s.resp := rfl
@[simp] theorem setPage_freeCtr (c : Nat) (f : PageSt → PageSt) : (setPage s c f).freeCtr = s.freeCtr := rfl

@[simp] theorem meanAdd_regs (c : Nat) (v : Int) : (meanAdd s c v).regs = s.regs := rfl
@[simp] theorem meanAdd_active (c : Nat) (v : Int) : (meanAdd s c v).active = s.active := rfl
@[simp] theorem meanAdd_top (c : Nat) (v : Int) : (meanAdd s c v).top = s.top := rfl
@[simp] theorem meanAdd_drain (c : Nat) (v : Int) : (meanAdd s c v).drain = s.drain := rfl
@[simp] theorem meanAdd_bt (c : Nat) (v : Int) : (meanAdd s c v).bt = s.bt := rfl
@[simp] theorem meanAdd_recd (c : Nat) (v : Int) : (meanAdd s c v).recd = s.recd := rfl
@[simp] theorem meanAdd_tb (c : Nat) (v : Int) : (meanAdd s c v).tb = s.tb := rfl
@[simp] theorem meanAdd_clk (c : Nat) (v : Int) : (meanAdd s c v).clk = s.clk := rfl
@[simp] theorem meanAdd_ch (c : Nat) (v : Int) : (meanAdd s c v).ch = s.ch := rfl
@[simp] theorem meanAdd_ph (c : Nat) (v : Int) : (meanAdd s c v).ph = s.ph := rfl
@[simp] theorem meanAdd_quad (c : Nat) (v : Int) : (meanAdd s c v).quad = s.quad := rfl
@[simp] theorem meanAdd_pb (c : Nat) (v : Int) : (meanAdd s c v).pb = s.pb := rfl
@[simp] theorem meanAdd_fq (c : Nat) (v : Int) : (meanAdd s c v).fq = s.fq := rfl
@[simp] theorem meanAdd_img (c : Nat) (v : Int) : (meanAdd s c v).img = s.img := rfl
@[simp] theorem meanAdd_nvs (c : Nat) (v : Int) : (meanAdd s c v).nvs = s.nvs := rfl
@[simp] theorem meanAdd_integ (c : Nat) (v : Int) : (meanAdd s c v).integ = s.integ := rfl
@[simp] theorem meanAdd_fwc (c : Nat) (v : Int) : (meanAdd s c v).fwc = s.fwc := rfl
@[simp] theorem meanAdd_fab (c : Nat) (v : Int) : (meanAdd s c v).fab = s.fab := rfl
@[simp] theorem meanAdd_tvl (c : Nat) (v : Int) : (meanAdd s c v).tvl = s.tvl := rfl
@[simp] theorem meanAdd_dom (c : Nat) (v : Int) : (meanAdd s c v).dom = s.dom := rfl
@[simp] theorem meanAdd_est (c : Nat) (v : Int) : (meanAdd s c v).est = s.est := rfl
@[simp] theorem meanAdd_cap (c : Nat) (v : Int) : (meanAdd s c v).cap = s.cap := rfl
@[simp] theorem meanAdd_hir (c : Nat) (v : Int) : (meanAdd s c v).hir = s.hir := rfl
@[simp] theorem meanAdd_sec (c : Nat) (v : Int) : (meanAdd s c v).sec = s.sec := rfl
@[simp] theorem meanAdd_jtag (c : Nat) (v : Int) : (meanAdd s c v).jtag = s.jtag := rfl
@[simp] theorem meanAdd_pending (c : Nat) (v : Int) : (meanAdd s c v).pending = s.pending := rfl
@[simp] theorem meanAdd_resp (c : Nat) (v : Int) : (meanAdd s c v).resp = s.resp := rfl
@[simp] theorem meanAdd_freeCtr (c : Nat) (v : Int) : (meanAdd s c v).freeCtr = s.freeCtr := rfl

@[simp] theorem setStageQ_regs (p : Plane) (q : List Entry) : (setStageQ s p q).regs = s.regs := by cases p <;> rfl
@[simp] theorem setStageQ_active (p : Plane) (q : List Entry) : (setStageQ s p q).active = s.active := by cases p <;> rfl
@[simp] theorem setStageQ_top (p : Plane) (q : List Entry) : (setStageQ s p q).top = s.top := by cases p <;> rfl
@[simp] theorem setStageQ_drain (p : Plane) (q : List Entry) : (setStageQ s p q).drain = s.drain := by cases p <;> rfl
@[simp] theorem setStageQ_bt (p : Plane) (q : List Entry) : (setStageQ s p q).bt = s.bt := by cases p <;> rfl
@[simp] theorem setStageQ_tb (p : Plane) (q : List Entry) : (setStageQ s p q).tb = s.tb := by cases p <;> rfl
@[simp] theorem setStageQ_clk (p : Plane) (q : List Entry) : (setStageQ s p q).clk = s.clk := by cases p <;> rfl
@[simp] theorem setStageQ_ch (p : Plane) (q : List Entry) : (setStageQ s p q).ch = s.ch := by cases p <;> rfl
@[simp] theorem setStageQ_ph (p : Plane) (q : List Entry) : (setStageQ s p q).ph = s.ph := by cases p <;> rfl
@[simp] theorem setStageQ_quad (p : Plane) (q : List Entry) : (setStageQ s p q).quad = s.quad := by cases p <;> rfl
@[simp] theorem setStageQ_pb (p : Plane) (q : List Entry) : (setStageQ s p q).pb = s.pb := by cases p <;> rfl
@[simp] theorem setStageQ_fq (p : Plane) (q : List Entry) : (setStageQ s p q).fq = s.fq := by cases p <;> rfl
@[simp] theorem setStageQ_img (p : Plane) (q : List Entry) : (setStageQ s p q).img = s.img := by cases p <;> rfl
@[simp] theorem setStageQ_nvs (p : Plane) (q : List Entry) : (setStageQ s p q).nvs = s.nvs := by cases p <;> rfl
@[simp] theorem setStageQ_integ (p : Plane) (q : List Entry) : (setStageQ s p q).integ = s.integ := by cases p <;> rfl
@[simp] theorem setStageQ_fwc (p : Plane) (q : List Entry) : (setStageQ s p q).fwc = s.fwc := by cases p <;> rfl
@[simp] theorem setStageQ_fab (p : Plane) (q : List Entry) : (setStageQ s p q).fab = s.fab := by cases p <;> rfl
@[simp] theorem setStageQ_tvl (p : Plane) (q : List Entry) : (setStageQ s p q).tvl = s.tvl := by cases p <;> rfl
@[simp] theorem setStageQ_dom (p : Plane) (q : List Entry) : (setStageQ s p q).dom = s.dom := by cases p <;> rfl
@[simp] theorem setStageQ_est (p : Plane) (q : List Entry) : (setStageQ s p q).est = s.est := by cases p <;> rfl
@[simp] theorem setStageQ_cap (p : Plane) (q : List Entry) : (setStageQ s p q).cap = s.cap := by cases p <;> rfl
@[simp] theorem setStageQ_hir (p : Plane) (q : List Entry) : (setStageQ s p q).hir = s.hir := by cases p <;> rfl
@[simp] theorem setStageQ_sbm (p : Plane) (q : List Entry) : (setStageQ s p q).sbm = s.sbm := by cases p <;> rfl
@[simp] theorem setStageQ_sec (p : Plane) (q : List Entry) : (setStageQ s p q).sec = s.sec := by cases p <;> rfl
@[simp] theorem setStageQ_jtag (p : Plane) (q : List Entry) : (setStageQ s p q).jtag = s.jtag := by cases p <;> rfl
@[simp] theorem setStageQ_pending (p : Plane) (q : List Entry) : (setStageQ s p q).pending = s.pending := by cases p <;> rfl
@[simp] theorem setStageQ_resp (p : Plane) (q : List Entry) : (setStageQ s p q).resp = s.resp := by cases p <;> rfl
@[simp] theorem setStageQ_freeCtr (p : Plane) (q : List Entry) : (setStageQ s p q).freeCtr = s.freeCtr := by cases p <;> rfl

@[simp] theorem setStageDrop_regs (p : Plane) (n : Nat) : (setStageDrop s p n).regs = s.regs := by cases p <;> rfl
@[simp] theorem setStageDrop_active (p : Plane) (n : Nat) : (setStageDrop s p n).active = s.active := by cases p <;> rfl
@[simp] theorem setStageDrop_top (p : Plane) (n : Nat) : (setStageDrop s p n).top = s.top := by cases p <;> rfl
@[simp] theorem setStageDrop_drain (p : Plane) (n : Nat) : (setStageDrop s p n).drain = s.drain := by cases p <;> rfl
@[simp] theorem setStageDrop_bt (p : Plane) (n : Nat) : (setStageDrop s p n).bt = s.bt := by cases p <;> rfl
@[simp] theorem setStageDrop_tb (p : Plane) (n : Nat) : (setStageDrop s p n).tb = s.tb := by cases p <;> rfl
@[simp] theorem setStageDrop_clk (p : Plane) (n : Nat) : (setStageDrop s p n).clk = s.clk := by cases p <;> rfl
@[simp] theorem setStageDrop_ch (p : Plane) (n : Nat) : (setStageDrop s p n).ch = s.ch := by cases p <;> rfl
@[simp] theorem setStageDrop_ph (p : Plane) (n : Nat) : (setStageDrop s p n).ph = s.ph := by cases p <;> rfl
@[simp] theorem setStageDrop_quad (p : Plane) (n : Nat) : (setStageDrop s p n).quad = s.quad := by cases p <;> rfl
@[simp] theorem setStageDrop_pb (p : Plane) (n : Nat) : (setStageDrop s p n).pb = s.pb := by cases p <;> rfl
@[simp] theorem setStageDrop_fq (p : Plane) (n : Nat) : (setStageDrop s p n).fq = s.fq := by cases p <;> rfl
@[simp] theorem setStageDrop_img (p : Plane) (n : Nat) : (setStageDrop s p n).img = s.img := by cases p <;> rfl
@[simp] theorem setStageDrop_nvs (p : Plane) (n : Nat) : (setStageDrop s p n).nvs = s.nvs := by cases p <;> rfl
@[simp] theorem setStageDrop_integ (p : Plane) (n : Nat) : (setStageDrop s p n).integ = s.integ := by cases p <;> rfl
@[simp] theorem setStageDrop_fwc (p : Plane) (n : Nat) : (setStageDrop s p n).fwc = s.fwc := by cases p <;> rfl
@[simp] theorem setStageDrop_fab (p : Plane) (n : Nat) : (setStageDrop s p n).fab = s.fab := by cases p <;> rfl
@[simp] theorem setStageDrop_tvl (p : Plane) (n : Nat) : (setStageDrop s p n).tvl = s.tvl := by cases p <;> rfl
@[simp] theorem setStageDrop_dom (p : Plane) (n : Nat) : (setStageDrop s p n).dom = s.dom := by cases p <;> rfl
@[simp] theorem setStageDrop_est (p : Plane) (n : Nat) : (setStageDrop s p n).est = s.est := by cases p <;> rfl
@[simp] theorem setStageDrop_cap (p : Plane) (n : Nat) : (setStageDrop s p n).cap = s.cap := by cases p <;> rfl
@[simp] theorem setStageDrop_hir (p : Plane) (n : Nat) : (setStageDrop s p n).hir = s.hir := by cases p <;> rfl
@[simp] theorem setStageDrop_sbm (p : Plane) (n : Nat) : (setStageDrop s p n).sbm = s.sbm := by cases p <;> rfl
@[simp] theorem setStageDrop_sec (p : Plane) (n : Nat) : (setStageDrop s p n).sec = s.sec := by cases p <;> rfl
@[simp] theorem setStageDrop_jtag (p : Plane) (n : Nat) : (setStageDrop s p n).jtag = s.jtag := by cases p <;> rfl
@[simp] theorem setStageDrop_pending (p : Plane) (n : Nat) : (setStageDrop s p n).pending = s.pending := by cases p <;> rfl
@[simp] theorem setStageDrop_resp (p : Plane) (n : Nat) : (setStageDrop s p n).resp = s.resp := by cases p <;> rfl
@[simp] theorem setStageDrop_freeCtr (p : Plane) (n : Nat) : (setStageDrop s p n).freeCtr = s.freeCtr := by cases p <;> rfl

@[simp] theorem dueMark_regs (c : Nat) : (dueMark s c).regs = s.regs := rfl
@[simp] theorem dueMark_active (c : Nat) : (dueMark s c).active = s.active := rfl
@[simp] theorem dueMark_top (c : Nat) : (dueMark s c).top = s.top := rfl
@[simp] theorem dueMark_drain (c : Nat) : (dueMark s c).drain = s.drain := rfl
@[simp] theorem dueMark_bt (c : Nat) : (dueMark s c).bt = s.bt := rfl
@[simp] theorem dueMark_tb (c : Nat) : (dueMark s c).tb = s.tb := rfl
@[simp] theorem dueMark_clk (c : Nat) : (dueMark s c).clk = s.clk := rfl
@[simp] theorem dueMark_ch (c : Nat) : (dueMark s c).ch = s.ch := rfl
@[simp] theorem dueMark_ph (c : Nat) : (dueMark s c).ph = s.ph := rfl
@[simp] theorem dueMark_quad (c : Nat) : (dueMark s c).quad = s.quad := rfl
@[simp] theorem dueMark_pb (c : Nat) : (dueMark s c).pb = s.pb := rfl
@[simp] theorem dueMark_fq (c : Nat) : (dueMark s c).fq = s.fq := rfl
@[simp] theorem dueMark_img (c : Nat) : (dueMark s c).img = s.img := rfl
@[simp] theorem dueMark_nvs (c : Nat) : (dueMark s c).nvs = s.nvs := rfl
@[simp] theorem dueMark_integ (c : Nat) : (dueMark s c).integ = s.integ := rfl
@[simp] theorem dueMark_fwc (c : Nat) : (dueMark s c).fwc = s.fwc := rfl
@[simp] theorem dueMark_fab (c : Nat) : (dueMark s c).fab = s.fab := rfl
@[simp] theorem dueMark_tvl (c : Nat) : (dueMark s c).tvl = s.tvl := rfl
@[simp] theorem dueMark_dom (c : Nat) : (dueMark s c).dom = s.dom := rfl
@[simp] theorem dueMark_est (c : Nat) : (dueMark s c).est = s.est := rfl
@[simp] theorem dueMark_cap (c : Nat) : (dueMark s c).cap = s.cap := rfl
@[simp] theorem dueMark_hir (c : Nat) : (dueMark s c).hir = s.hir := rfl
@[simp] theorem dueMark_sbm (c : Nat) : (dueMark s c).sbm = s.sbm := rfl
@[simp] theorem dueMark_sec (c : Nat) : (dueMark s c).sec = s.sec := rfl
@[simp] theorem dueMark_jtag (c : Nat) : (dueMark s c).jtag = s.jtag := rfl
@[simp] theorem dueMark_pending (c : Nat) : (dueMark s c).pending = s.pending := rfl
@[simp] theorem dueMark_resp (c : Nat) : (dueMark s c).resp = s.resp := rfl
@[simp] theorem dueMark_freeCtr (c : Nat) : (dueMark s c).freeCtr = s.freeCtr := rfl

end Sys2Proof.Machine
end

