-- ==== Sys2Proof/Laws/Tab.lean ====
section
/-! SUPPORT. The laws of sparse tables: a read after a write, and the canonical form. -/

namespace Sys2Proof.Machine

variable {α : Type}

/-- The keys of a table rise strictly. -/
def tabRises : Tab α → Prop
  | [] => True
  | p :: t => (∀ q ∈ t, p.1 < q.1) ∧ tabRises t

/-- The canonical form: keys rise strictly and the default is not listed. -/
def tabCanon (d : α) (t : Tab α) : Prop := tabRises t ∧ ∀ p ∈ t, p.2 ≠ d

theorem keysRise_iff (t : Tab α) : keysRise t = true ↔ tabRises t := by
  induction t with
  | nil => simp [keysRise, tabRises]
  | cons p t ih =>
    cases t with
    | nil => simp [keysRise, tabRises]
    | cons q t =>
      simp only [keysRise, Bool.and_eq_true, decide_eq_true_eq, ih]
      constructor
      · rintro ⟨h1, h2⟩
        refine ⟨fun r hr => ?_, h2⟩
        rcases List.mem_cons.1 hr with rfl | hr
        · exact h1
        · exact Nat.lt_trans h1 (h2.1 r hr)
      · rintro ⟨h1, h2⟩
        exact ⟨h1 q (by simp), h2⟩

theorem tabWf_iff [DecidableEq α] (d : α) (t : Tab α) : tabWf d t = true ↔ tabCanon d t := by
  simp only [tabWf, tabCanon, Bool.and_eq_true, keysRise_iff, List.all_eq_true, decide_eq_true_eq]

@[simp] theorem tabGet_nil (d : α) (i : Nat) : tabGet d [] i = d := rfl

theorem tabGet_absent (d : α) (t : Tab α) (i : Nat) (h : ∀ p ∈ t, p.1 ≠ i) : tabGet d t i = d := by
  induction t with
  | nil => rfl
  | cons p t ih =>
    obtain ⟨k, v⟩ := p
    have hk : k ≠ i := h (k, v) (by simp)
    simp only [tabGet, hk, if_false]
    exact ih (fun q hq => h q (List.mem_cons_of_mem _ hq))

theorem mem_tabErase (t : Tab α) (i : Nat) (p : Nat × α) : p ∈ tabErase t i ↔ p ∈ t ∧ p.1 ≠ i := by
  simp [tabErase]

theorem mem_tabIns (t : Tab α) (i : Nat) (v : α) (p : Nat × α) : p ∈ tabIns t i v ↔ p = (i, v) ∨ p ∈ t := by
  induction t with
  | nil => simp [tabIns]
  | cons q t ih =>
    obtain ⟨k, w⟩ := q
    by_cases h : i < k
    · simp [tabIns, h]
    · simp only [tabIns, h, if_false, List.mem_cons, ih]
      exact or_left_comm

theorem tabGet_tabIns (d : α) (t : Tab α) (i j : Nat) (v : α) (h : ∀ p ∈ t, p.1 ≠ i) :
    tabGet d (tabIns t i v) j = if i = j then v else tabGet d t j := by
  induction t with
  | nil => simp [tabIns, tabGet]
  | cons q t ih =>
    obtain ⟨k, w⟩ := q
    have hk : k ≠ i := h (k, w) (by simp)
    have ih := ih (fun p hp => h p (List.mem_cons_of_mem _ hp))
    by_cases hlt : i < k
    · simp [tabIns, hlt, tabGet]
    · simp only [tabIns, hlt, if_false, tabGet, ih]
      by_cases hj : k = j
      · have : i ≠ j := fun e => hk (hj.trans e.symm)
        simp [hj, this]
      · simp [hj]

theorem tabGet_tabErase (d : α) (t : Tab α) (i j : Nat) : tabGet d (tabErase t i) j = if i = j then d else tabGet d t j := by
  induction t with
  | nil => simp [tabErase, tabGet]
  | cons q t ih =>
    obtain ⟨k, w⟩ := q
    by_cases hk : k = i
    · subst hk
      have e : tabErase ((k, w) :: t) k = tabErase t k := by simp [tabErase]
      rw [e, ih]
      by_cases hj : k = j <;> simp [tabGet, hj]
    · have e : tabErase ((k, w) :: t) i = (k, w) :: tabErase t i := by simp [tabErase, hk]
      rw [e]
      simp only [tabGet, ih]
      by_cases hj : k = j
      · have : i ≠ j := fun e => hk (hj.trans e.symm)
        simp [hj, this]
      · simp [hj]

/-- A read after a write: the value at the key written, and the old value elsewhere. -/
theorem tabGet_tabSet [DecidableEq α] (d : α) (t : Tab α) (i j : Nat) (v : α) :
    tabGet d (tabSet d t i v) j = if i = j then v else tabGet d t j := by
  unfold tabSet
  by_cases hv : v = d
  · simp [hv, tabGet_tabErase]
  · rw [if_neg hv, tabGet_tabIns d (tabErase t i) i j v (fun p hp => ((mem_tabErase t i p).1 hp).2), tabGet_tabErase]
    by_cases hj : i = j <;> simp [hj]

@[simp] theorem tabGet_tabSet_same [DecidableEq α] (d : α) (t : Tab α) (i : Nat) (v : α) : tabGet d (tabSet d t i v) i = v := by
  simp [tabGet_tabSet]

theorem tabGet_tabSet_ne [DecidableEq α] (d : α) (t : Tab α) {i j : Nat} (v : α) (h : i ≠ j) : tabGet d (tabSet d t i v) j = tabGet d t j := by
  simp [tabGet_tabSet, h]

theorem tabRises_erase (t : Tab α) (i : Nat) (h : tabRises t) : tabRises (tabErase t i) := by
  induction t with
  | nil => trivial
  | cons p t ih =>
    by_cases hp : p.1 = i
    · have e : tabErase (p :: t) i = tabErase t i := by simp [tabErase, hp]
      rw [e]; exact ih h.2
    · have e : tabErase (p :: t) i = p :: tabErase t i := by simp [tabErase, hp]
      rw [e]
      exact ⟨fun q hq => h.1 q ((mem_tabErase t i q).1 hq).1, ih h.2⟩

theorem tabRises_ins (t : Tab α) (i : Nat) (v : α) (h : tabRises t) (hi : ∀ p ∈ t, p.1 ≠ i) : tabRises (tabIns t i v) := by
  induction t with
  | nil => exact ⟨by simp, trivial⟩
  | cons p t ih =>
    obtain ⟨k, w⟩ := p
    have hk : k ≠ i := hi (k, w) (by simp)
    by_cases hlt : i < k
    · simp only [tabIns, hlt, if_true]
      refine ⟨?_, h⟩
      intro q hq
      rcases List.mem_cons.1 hq with rfl | hq
      · exact hlt
      · exact Nat.lt_trans hlt (h.1 q hq)
    · simp only [tabIns, hlt, if_false]
      refine ⟨?_, ih h.2 (fun p hp => hi p (List.mem_cons_of_mem _ hp))⟩
      intro q hq
      rcases (mem_tabIns t i v q).1 hq with rfl | hq
      · show k < i
        omega
      · exact h.1 q hq

/-- A write keeps the canonical form. -/
theorem tabCanon_tabSet [DecidableEq α] (d : α) (t : Tab α) (i : Nat) (v : α) (h : tabCanon d t) : tabCanon d (tabSet d t i v) := by
  have he : tabRises (tabErase t i) := tabRises_erase t i h.1
  unfold tabSet
  by_cases hv : v = d
  · rw [if_pos hv]
    exact ⟨he, fun p hp => h.2 p ((mem_tabErase t i p).1 hp).1⟩
  · rw [if_neg hv]
    refine ⟨tabRises_ins _ i v he (fun p hp => ((mem_tabErase t i p).1 hp).2), fun p hp => ?_⟩
    rcases (mem_tabIns _ i v p).1 hp with rfl | hp
    · exact hv
    · exact h.2 p ((mem_tabErase t i p).1 hp).1

theorem tabCanon_tabErase (d : α) (t : Tab α) (i : Nat) (h : tabCanon d t) : tabCanon d (tabErase t i) :=
  ⟨tabRises_erase t i h.1, fun p hp => h.2 p ((mem_tabErase t i p).1 hp).1⟩

theorem tabRises_filter (t : Tab α) (f : Nat × α → Bool) (h : tabRises t) : tabRises (t.filter f) := by
  induction t with
  | nil => trivial
  | cons p t ih =>
    by_cases hp : f p
    · rw [List.filter_cons_of_pos hp]
      exact ⟨fun q hq => h.1 q (List.mem_filter.1 hq).1, ih h.2⟩
    · rw [List.filter_cons_of_neg hp]; exact ih h.2

theorem tabCanon_filter (d : α) (t : Tab α) (f : Nat × α → Bool) (h : tabCanon d t) : tabCanon d (t.filter f) :=
  ⟨tabRises_filter t f h.1, fun p hp => h.2 p (List.mem_filter.1 hp).1⟩

/-- A write to a table in canonical form leaves it so. -/
theorem tabWf_tabSet [DecidableEq α] (d : α) (t : Tab α) (i : Nat) (v : α) (h : tabWf d t = true) : tabWf d (tabSet d t i v) = true :=
  (tabWf_iff d _).2 (tabCanon_tabSet d t i v ((tabWf_iff d t).1 h))

theorem tabCanon_nil (d : α) : tabCanon d ([] : Tab α) := ⟨trivial, by simp⟩

end Sys2Proof.Machine
end

