-- ==== Sys2Proof/Laws/Regs.lean ====
section
/-! SUPPORT. The laws of register words and their fields: a read after a write, in the staged and in the active copy. -/

namespace Sys2Proof.Machine

variable (s : State)

/-- A table whose default depends on the key: a read after a write. -/
theorem tabGet_tabSet_at (t : Tab Word) (i j : Nat) (v : Word) :
    tabGet (resetOf j) (tabSet (resetOf i) t i v) j = if i = j then v else tabGet (resetOf j) t j := by
  by_cases h : i = j
  · subst h; simp
  · rw [if_neg h]
    unfold tabSet
    split
    · exact (tabGet_tabErase _ t i j).trans (by simp [h])
    · rw [tabGet_tabIns _ _ i j v (fun p hp => ((mem_tabErase t i p).1 hp).2), tabGet_tabErase]
      simp [h]

theorem rd_wr (off off' : Nat) (w : Word) : rd (wr s off w) off' = if off = off' then w else rd s off' :=
  tabGet_tabSet_at s.regs off off' w

@[simp] theorem rd_wr_same (off : Nat) (w : Word) : rd (wr s off w) off = w := by rw [rd_wr]; simp

theorem rd_wr_ne {off off' : Nat} (w : Word) (h : off ≠ off') : rd (wr s off w) off' = rd s off' := by rw [rd_wr]; simp [h]

theorem ac_wrAc (off off' : Nat) (w : Word) : ac (wrAc s off w) off' = if off = off' then w else ac s off' := by
  have h := rd_wr { s with regs := s.active } off off' w
  exact h

@[simp] theorem ac_wrAc_same (off : Nat) (w : Word) : ac (wrAc s off w) off = w := by rw [ac_wrAc]; simp

@[simp] theorem ac_wr (off off' : Nat) (w : Word) : ac (wr s off w) off' = ac s off' := rfl

@[simp] theorem rd_wrAc (off off' : Nat) (w : Word) : rd (wrAc s off w) off' = rd s off' := rfl

@[simp] theorem rd_wrN_same (off n : Nat) : rd (wrN s off n) off = BitVec.ofNat 32 n := rd_wr_same s off _

theorem rd_wrN_ne {off off' : Nat} (n : Nat) (h : off ≠ off') : rd (wrN s off n) off' = rd s off' := rd_wr_ne s _ h

theorem rd_setF_same (off : Nat) (f : Fld) (v : Nat) : rd (setF s off f v) off = putFld (rd s off) f v := rd_wr_same s off _

theorem rd_setF_ne {off off' : Nat} (f : Fld) (v : Nat) (h : off ≠ off') : rd (setF s off f v) off' = rd s off' := rd_wr_ne s _ h

/-- What `putFld` makes of a word: the bits below the field, the new field and the bits above it. -/
theorem putFld_toNat (w : Word) (f : Fld) (v : Nat) (h : f.lo + f.len ≤ 32) :
    (putFld w f v).toNat = w.toNat % 2 ^ f.lo + 2 ^ f.lo * (v % 2 ^ f.len + 2 ^ f.len * (w.toNat / 2 ^ (f.lo + f.len))) := by
  obtain ⟨lo, len⟩ := f
  simp only at h
  unfold putFld
  simp only [BitVec.toNat_ofNat, Nat.shiftRight_eq_div_pow, Nat.shiftLeft_eq, Nat.pow_add, ← Nat.div_div_eq_div_mul]
  generalize hx : w.toNat = x
  have hx32 : x < 2 ^ 32 := by rw [← hx]; exact w.isLt
  have hP : 0 < 2 ^ lo := Nat.two_pow_pos _
  have hQ : 0 < 2 ^ len := Nat.two_pow_pos _
  have h1 : x = x % 2 ^ lo + 2 ^ lo * (x / 2 ^ lo % 2 ^ len) + 2 ^ lo * (2 ^ len * (x / 2 ^ lo / 2 ^ len)) := by
    have a := Nat.mod_add_div x (2 ^ lo)
    have b := Nat.mod_add_div (x / 2 ^ lo) (2 ^ len)
    calc x = x % 2 ^ lo + 2 ^ lo * (x / 2 ^ lo) := a.symm
      _ = x % 2 ^ lo + 2 ^ lo * (x / 2 ^ lo % 2 ^ len + 2 ^ len * (x / 2 ^ lo / 2 ^ len)) := by rw [b]
      _ = _ := by rw [Nat.mul_add]; omega
  generalize hr : x % 2 ^ lo = r at h1
  generalize hm : x / 2 ^ lo % 2 ^ len = m at h1
  generalize ht : x / 2 ^ lo / 2 ^ len = t at h1
  have hrlt : r < 2 ^ lo := by rw [← hr]; exact Nat.mod_lt _ hP
  generalize hv : v % 2 ^ len = u
  have hu : u < 2 ^ len := by rw [← hv]; exact Nat.mod_lt _ hQ
  have e1 : x - m * 2 ^ lo + u * 2 ^ lo = r + 2 ^ lo * (u + 2 ^ len * t) := by
    rw [Nat.mul_add, Nat.mul_comm u, Nat.mul_comm m]
    omega
  have htop : t < 2 ^ (32 - lo - len) := by
    rw [← ht, Nat.div_div_eq_div_mul, ← Nat.pow_add]
    apply Nat.div_lt_of_lt_mul
    rw [← Nat.pow_add]
    have : lo + len + (32 - lo - len) = 32 := by omega
    rw [this]; exact hx32
  have hlt : r + 2 ^ lo * (u + 2 ^ len * t) < 2 ^ 32 := by
    have hs : 2 ^ 32 = 2 ^ lo * (2 ^ len * 2 ^ (32 - lo - len)) := by
      rw [← Nat.pow_add, ← Nat.pow_add]; congr 1; omega
    have h2 : u + 2 ^ len * t + 1 ≤ 2 ^ len * 2 ^ (32 - lo - len) := by
      have : 2 ^ len * (t + 1) ≤ 2 ^ len * 2 ^ (32 - lo - len) := Nat.mul_le_mul_left _ htop
      rw [Nat.mul_add] at this
      omega
    have h3 := Nat.mul_le_mul_left (2 ^ lo) h2
    rw [← hs, Nat.mul_add] at h3
    omega
  rw [e1, Nat.mod_eq_of_lt hlt]

/-- A field reads what was put into it. -/
theorem fldOf_putFld (w : Word) (f : Fld) (v : Nat) (h : f.lo + f.len ≤ 32) : fldOf (putFld w f v) f = v % 2 ^ f.len := by
  unfold fldOf
  rw [putFld_toNat w f v h, Nat.shiftRight_eq_div_pow, Nat.add_mul_div_left _ _ (Nat.two_pow_pos _),
    Nat.div_eq_of_lt (Nat.mod_lt _ (Nat.two_pow_pos _)), Nat.zero_add, Nat.add_mul_mod_self_left, Nat.mod_mod]

/-- A field apart from the one that was put reads as before. -/
theorem fldOf_putFld_apart (w : Word) (f g : Fld) (v : Nat) (h : f.lo + f.len ≤ 32) (ha : g.lo + g.len ≤ f.lo ∨ f.lo + f.len ≤ g.lo) :
    fldOf (putFld w f v) g = fldOf w g := by
  unfold fldOf
  rw [putFld_toNat w f v h, Nat.shiftRight_eq_div_pow, Nat.shiftRight_eq_div_pow]
  rcases ha with ha | ha
  · have key (a b : Nat) : (a + 2 ^ f.lo * b) / 2 ^ g.lo % 2 ^ g.len = a / 2 ^ g.lo % 2 ^ g.len := by
      have e : 2 ^ f.lo = 2 ^ g.lo * (2 ^ g.len * 2 ^ (f.lo - g.lo - g.len)) := by
        rw [← Nat.pow_add, ← Nat.pow_add]; congr 1; omega
      rw [e, Nat.mul_assoc, Nat.add_mul_div_left _ _ (Nat.two_pow_pos _), Nat.mul_assoc, Nat.add_mul_mod_self_left]
    rw [key]
    conv => rhs; rw [← Nat.mod_add_div w.toNat (2 ^ f.lo), key]
  · have e : 2 ^ g.lo = 2 ^ (f.lo + f.len) * 2 ^ (g.lo - (f.lo + f.len)) := by rw [← Nat.pow_add]; congr 1; omega
    have d : (w.toNat % 2 ^ f.lo + 2 ^ f.lo * (v % 2 ^ f.len + 2 ^ f.len * (w.toNat / 2 ^ (f.lo + f.len)))) / 2 ^ (f.lo + f.len)
        = w.toNat / 2 ^ (f.lo + f.len) := by
      rw [Nat.pow_add, ← Nat.div_div_eq_div_mul, Nat.add_mul_div_left _ _ (Nat.two_pow_pos _),
        Nat.div_eq_of_lt (Nat.mod_lt _ (Nat.two_pow_pos _)), Nat.zero_add, Nat.add_mul_div_left _ _ (Nat.two_pow_pos _),
        Nat.div_eq_of_lt (Nat.mod_lt _ (Nat.two_pow_pos _)), Nat.zero_add]
    rw [e, ← Nat.div_div_eq_div_mul, d, Nat.div_div_eq_div_mul]

theorem fld_setF_same (off : Nat) (f : Fld) (v : Nat) (h : f.lo + f.len ≤ 32) : fld (setF s off f v) off f = v % 2 ^ f.len := by
  unfold fld
  rw [rd_setF_same, fldOf_putFld _ _ _ h]

theorem fld_setF_ne {off off' : Nat} (f f' : Fld) (v : Nat) (h : off ≠ off') : fld (setF s off f v) off' f' = fld s off' f' := by
  unfold fld
  rw [rd_setF_ne s f v h]

/-- Another field of the same word, apart from the one that was set. -/
theorem fld_setF_apart (off : Nat) (f g : Fld) (v : Nat) (h : f.lo + f.len ≤ 32) (ha : g.lo + g.len ≤ f.lo ∨ f.lo + f.len ≤ g.lo) :
    fld (setF s off f v) off g = fld s off g := by
  unfold fld
  rw [rd_setF_same, fldOf_putFld_apart _ _ _ _ h ha]

theorem flag_raise (off lo : Nat) (h : lo < 32) : flag (raise s off ⟨lo, 1⟩) off ⟨lo, 1⟩ = true := by
  have := fld_setF_same s off ⟨lo, 1⟩ 1 (by show lo + 1 ≤ 32; omega)
  unfold fld at this
  unfold flag raise
  rw [this]
  rfl

theorem flag_lower (off lo : Nat) (h : lo < 32) : flag (lower s off ⟨lo, 1⟩) off ⟨lo, 1⟩ = false := by
  have := fld_setF_same s off ⟨lo, 1⟩ 0 (by show lo + 1 ≤ 32; omega)
  unfold fld at this
  unfold flag lower
  rw [this]
  rfl

end Sys2Proof.Machine
end

