-- ==== Sys2Proof/Tests/Slice0.lean ====
section
/-! SUPPORT. Tests: small states built from one small image; commands that each well-formedness check refuses; numbers and single steps of the
spec's own examples; and, for every statement with hypotheses, states and operands that meet them. -/

namespace Sys2Proof.Tests

open Sys2Proof.Machine

set_option Elab.async false

/-! ## Small states -/

/-- A field of the active copy of a HOLD register. -/
def setA (s : State) (off : Nat) (f : Fld) (v : Nat) : State := wrAc s off (putFld (ac s off) f v)

/-- Several fields of registers. -/
def setFs (s : State) (l : List (Nat × Fld × Nat)) : State := l.foldl (fun s p => setF s p.1 p.2.1 p.2.2) s

def setAs (s : State) (l : List (Nat × Fld × Nat)) : State := l.foldl (fun s p => setA s p.1 p.2.1 p.2.2) s

/-- A frame's payload: zeros but for the bytes listed by offset, in rising order. -/
def pay : Nat → List (Nat × Nat) → List Byte
  | n, [] => List.replicate n 0
  | n, (k, v) :: l => List.replicate (k - n) 0 ++ BitVec.ofNat 8 v :: pay (k + 1) l

/-- The bytes of `l` from an offset onward. -/
def fbytes (off : Nat) (l : List Nat) : List (Nat × Nat) := l.zipIdx.map (fun p => (off + p.2, p.1))

def slot (l : List (Nat × Nat)) : BankSlot := { payload := pay 0 l }

/-- The structure of a small image: rails 0 and 1 with two quads and one quad, die 0 on rail 0 and die 1 on rail 1 with two partitions
and one partition, two queues, lanes and a domain of four nodes of which `node` is this one. -/
def image (node : Nat) : Tab BankSlot :=
  [ (0x01, slot (fbytes 0 [0, 0, 100, 0, 100, 0] ++ fbytes 8 [1, 0, 5, 0] ++ fbytes 12 [2, 0, 0, 0])),
    (0x08, slot (fbytes 0x10 [1, 1, 0, 6, 4, 4, 0] ++ fbytes 0x20 [1, 2, 0, 1, 4, 4, 0] ++ fbytes 0x30 [1, 3, 3, 1, 4, 4, 3])),
    (0x09, slot (fbytes 0 [0x24, 0xAA, 0xAA, 0xAA] ++ fbytes 0x10 [0xAA, 0xAA, 0xAA, 0xAA] ++ fbytes 0x50 [0x24, 0xAA])),
    (0x0A, slot (fbytes 0 [0x05, 0, 8, 0])),
    (0x10, slot (fbytes 0 [0, 0, 1, 0xFF, 0xFF, 0xFF, 0xFF, 0xFF, 0xFF, 0xFF, 0xFF, 0xFF, 0xFF, 0xFF, 0xFF, 0xFF,
      0, 1, 0xFF, 0xFF, 0xFF, 0xFF, 0xFF, 0xFF, 0, 0])),
    (0x11, slot (fbytes 0 [40, 32, 0, 0, 100, 0] ++ fbytes 8 [40, 32, 0, 0, 100, 0] ++ fbytes 16 [40, 32, 0, 0, 100, 0])),
    (0x60, slot (fbytes 0 [1, 0, 4, 0, 10, 0, 2, 0, 3, 0])),
    (0x61, slot (fbytes 0 [0x80, 0, 0, 0, 0x80, 0, 0, 0, 0x81, 0, 0, 0, 0x81, 0, 0, 0])),
    (0x70, slot (fbytes 0 [1, 1, 1, 0, 10, 0, 2, 0, 3, 0])),
    (0x71, slot (fbytes 0 [0x82, 16, 0, 0])),
    (0xA0, slot (fbytes 0 [1, 0, 0, 5, 0xD0, 7, 100, 0] ++ fbytes 0x20 [1, 0, 1, 0xFF, 0xD0, 7, 100, 0] ++ fbytes 0x40 [1, 1, 0, 0xFF, 0xD0, 7, 100, 0])),
    (0xB0, slot (fbytes 0 [1, 0, 0, 0, 1, 0, 0, 0])),
    (0xB8, slot (fbytes 0 [0, 0, 1, 0, 4, 0])),
    (0xB9, slot (fbytes 0x50 [1, 1])),
    (0xC0, slot (fbytes 0 [1, 0, 0, 0, 10, 0, 1] ++ fbytes 8 [1, 1, 0, 0, 10, 0, 1] ++ fbytes 0x10 [1, 1, 0, 0, 10, 0, 1] ++ fbytes 0x18 [1, 1, 0, 0, 10, 0, 1])),
    (0xE0, slot (fbytes 0 [(if node = 0 then 2 else 1), 0, (if node = 0 then 1 else 0)] ++ fbytes 8 [2, 0, 2] ++ fbytes 0x80 [node, 0, 1])),
    (0xE1, slot (fbytes 0 [(if node = 0 then 0x0F else 0xF0), 0x11])),
    (0xE8, slot (fbytes 0 [1, 0, 0, 0] ++ fbytes 0x10 [1, 1, 0, 0])) ]

/-- DECAF: power-on reset released, clocks and supplies good, no image. -/
def decaf : State :=
  setFs { top := { state := .decaf, porHeld := false, padsHiz := false, perstLow := false, pcieUp := true },
          tb := { c := 5000000000, running := true } }
    [(Reg.TOP_SUPPLY, ⟨0, 8⟩, 0xDF), (Reg.TOP_SUPPLY, F.TOP_SUPPLY_SEC_OK, 1), (Reg.CLK_STATUS, ⟨0, 7⟩, 0x6F)]

/-- LOADED with the small image of node `n`. -/
def loaded (n : Nat) : State :=
  { decaf with top := { decaf.top with state := .loaded }, img := { bank0 := image n, bank1 := image n, applied := true, scrubOn := true } }

/-- RUN: both rails in REG with every phase active, dies up, cores ready. -/
def runs (n : Nat) : State :=
  let s := loaded n
  let s := { s with
    top := { s.top with state := .run }
    ch := [(0, { state := .reg, vref := 40000000 }), (1, { state := .reg, vref := 40000000 })]
    ph := (List.range 12).map (fun p => (p, { level := .low, active := true }))
    quad := (List.range 3).map (fun q => (q, { sen := true }))
    pb := { s.pb with die := [(0, { link := .up, coreOn := true, armed := true }), (1, { link := .up, coreOn := true, armed := true })],
                      port := [(0, { trained := true, armed := true, site := [(0, 0x2000), (1, 0x2000)] }), (1, { trained := true, armed := true })],
                      site := [(0, { coreOn := true, calOk := true }), (1, { coreOn := true, calOk := true })] }
    fwc := { s.fwc with core := [(0, { state := .ready, ready := true, tag := 2, iways := 4, dways := 4 }),
      (1, { state := .ready, ready := true, tag := 0, iways := 4, dways := 4 }), (2, { state := .ready, ready := true, tag := 0, iways := 4, dways := 4 })] }
    fab := { s.fab with run := true }
    est := { s.est with run := true } }
  setAs (setFs s [(Reg.CH_VSENSE 0, ⟨0, 16⟩, 12800), (Reg.CH_VSENSE 1, ⟨0, 16⟩, 12800)])
    ((List.range 2).flatMap (fun c => [(Reg.CH_CTRL c, F.CH_CTRL_EN, 1), (Reg.CH_CTRL c, F.CH_CTRL_BAL_EN, 1), (Reg.CH_CTRL c, F.CH_CTRL_SHED_EN, 1),
      (Reg.CH_CTRL c, F.CH_CTRL_DRIP_EN, 1), (Reg.CH_CTRL c, F.CH_CTRL_ALT_EN, 1), (Reg.CH_CTRL c, F.CH_CTRL_AUTO_SENSE, 1)]))


/-- The 0x80 bytes of a header with its CHECK. -/
def header (l : List (Nat × Nat)) : List Byte :=
  let b := pay 0 l ++ List.replicate (0x7C - (pay 0 l).length) 0
  b ++ leBytes 4 (crc32c b)

/-- A partial image of 432 bytes with one section, of which the header alone is well formed. -/
def imageBytes : List Byte :=
  header (fbytes 0 [0x46, 0x42, 0x47, 0x4E, 2, 0, 0x80, 0, 0xB0, 1, 0, 0, 1, 0xB0, 0xFF, 1, 7] ++ fbytes 0x18 [0x80, 0, 0, 0, 0xB0]) ++ List.replicate 304 0

/-- A firmware image of 432 bytes for core 1 with one empty segment. -/
def fwBytes : List Byte :=
  header (fbytes 0 [0x46, 0x42, 0x46, 0x57, 1, 0, 0x80, 0, 0xB0, 1, 0, 0, 2, 0xB0, 1, 0, 3] ++ fbytes 0x1C [0xB0, 0, 0, 0]) ++ List.replicate 304 0

/-- The small image of node `n` with a fabric: a tile on lane 1 over phase 5's current, which drives the pin of partition 0, and a
cross-device slot on lane 2. -/
def fabricImage (n : Nat) : Tab BankSlot :=
  image n ++
    [ (0x20, slot (fbytes 0 [0x14, 0x0F, 1, 0, 0, 0x80] ++ fbytes 0xC [2])),
      (0x30, slot (fbytes 0 [5, 0x80, 12, 0] ++ fbytes 8 [0x25, 0x81, 12, 2] ++ fbytes 16 [0, 0x82, 12, 1])),
      (0x40, slot (fbytes 0x40 [2, 0x80] ++ fbytes 0xC0 [1, 0x80])),
      (0x42, slot (fbytes 0 [1, 0, 0, 3, 1])),
      (0x43, slot (fbytes 0 [0, 4, 1, 2, 1] ++ fbytes 0x28 [0, 5, 2, 3, 1])),
      (0x44, slot (fbytes 0 [1])) ]

/-- RUN with that image. -/
def fabricRuns (n : Nat) : State := { runs n with img := { (runs n).img with bank0 := fabricImage n, bank1 := fabricImage n } }

/-! ## States of the tests, from the small image -/

/-- Byte `v` as SB_FLAGS in both banks. -/
def sbf (v : Nat) (s : State) : State :=
  let b := slot (fbytes 0 [v, 0, 8, 0])
  { s with img := { s.img with bank0 := tabSet {} s.img.bank0 0x0A b, bank1 := tabSet {} s.img.bank1 0x0A b } }

/-- Rail 0 widened, this device with a role and a position. -/
def wides (role pos : Nat) (s : State) : State :=
  let row := slot (fbytes 0 [0, 0, 1, 0xFF, 0xFF, 0xFF, 0xFF, 0xFF, 0xFF, 0xFF, 0xFF, 0xFF, 0xFF, 0xFF, 0xFF, 0xFF,
    0, 1, 0xFF, 0xFF, 0xFF, 0xFF, 0xFF, 0xFF, role + 4 * pos + 16 * 3, 0] ++ fbytes 0x20 [8, 0])
  let im := fun (b : Tab BankSlot) => b.map (fun x => if x.1 = 0x10 then (x.1, row) else x)
  { s with img := { s.img with bank0 := im s.img.bank0, bank1 := im s.img.bank1 } }

/-- RUN with lanes 0, 1 and 6 up. -/
def lup (n : Nat) : State := [0, 1, 6].foldl (fun s l => setLane s l (fun x => { x with state := .up })) (runs n)

/-- The same in a domain of two nodes with a role. -/
def dmn (n : Nat) (r : DomRole) : State :=
  let s := lup n
  { s with dom := { s.dom with role := r, mepoch := 1, master := 0, members := [0, 1] }, tb := { s.tb with aligned := true } }

/-! One part of a state changed. -/

def ln (n : Nat) (f : LaneSt → LaneSt) (s : State) : State := setLane s n f
def lc (n c : Nat) (f : LaneCls → LaneCls) (s : State) : State := setLcls s n c f
def tvl (f : TvlSt → TvlSt) (s : State) : State := { s with tvl := f s.tvl }
def dom (f : DomSt → DomSt) (s : State) : State := { s with dom := f s.dom }
def fw (f : FwcSt → FwcSt) (s : State) : State := { s with fwc := f s.fwc }
def core (n : Nat) (f : CoreSt → CoreSt) (s : State) : State := setCore s n f
def hir (f : HirSt → HirSt) (s : State) : State := { s with hir := f s.hir }
def rg (r : Nat) (f : RingSt → RingSt) (s : State) : State := setRing s r f
def nvs (f : NvsSt → NvsSt) (s : State) : State := { s with nvs := f s.nvs }
def recd (f : RecSt → RecSt) (s : State) : State := { s with recd := f s.recd }
def sbm (f : SbmSt → SbmSt) (s : State) : State := { s with sbm := f s.sbm }
def sec (f : SecSt → SecSt) (s : State) : State := { s with sec := f s.sec }
def im (f : ImgSt → ImgSt) (s : State) : State := { s with img := f s.img }
def chs (r : Nat) (f : ChSt → ChSt) (s : State) : State := setCh s r f
def ph (p : List Nat) (f : PhSt → PhSt) (s : State) : State := p.foldl (fun s p => setPh s p f) s
def stt (d : DevState) (s : State) : State := { s with top := { s.top with state := d } }
def rs (f : ResetSt) (s : State) : State := { s with top := { s.top with rst := some f } }

/-! Operands. -/

def fr1 : Frame := { cls := 2, scope := 2, dest := 0, src := 1, typ := 0, epoch := 1, oseq := 3, ttl := 5, body := [1, 2, 3] }
def qf : QFrame := { frame := fr1, lane := 0 }
def rf (n : Nat) : RFrame := { lseq := n, q := qf, ackDue := 5000009000 }
def rd1 : RedSt := ⟨7, 0, [1, 2], 1, false, [], false, 4999999999⟩
def img0 : FwImg := ⟨0x10000000, 1, 0x010203, [], 0x100, 0, 0⟩
def arm (op : Nat) (d : List Nat := List.replicate 12 0) (a := 0) : FuseOp := ⟨op, a, d, 4999999000⟩

/-- A host command with CID 9. -/
def hc (op : Nat) (param : List Nat) (addr : Nat := 0x1000) (len : Nat := 0x10000) : HirCmd :=
  { cid := 9, opcode := op, flags := 0, addr := addr, len := len, param := param.map (BitVec.ofNat 8) ++ List.replicate (32 - param.length) 0 }

/-! States of a family. -/

/-- Ring 0 configured: 16 entries each, its CQ at 0x1000. -/
def rcf (s : State) : State :=
  wrN (setFs s [(Reg.HIR_RING_CFG 0, F.HIR_RING_CFG_SQ_LOG, 4), (Reg.HIR_RING_CFG 0, F.HIR_RING_CFG_CQ_LOG, 4)]) (Reg.HIR_RING_CQ_LO 0) 0x1000

/-- Ring 0 RUNNING. -/
def rrun (s : State) : State := rg 0 (fun x => { x with state := .running }) (setF (rcf s) (Reg.HIR_RING_CFG 0) F.HIR_RING_CFG_EN 1)

/-- Ring 0 a telemetry ring. -/
def tel (s : State) : State :=
  setAs (setF (rrun s) (Reg.HIR_RING_CFG 0) F.HIR_RING_CFG_KIND 1) [(Reg.HIR_TEL_CFG 0, F.HIR_TEL_CFG_KIND, 1), (Reg.HIR_TEL_CFG 0, F.HIR_TEL_CFG_PERIOD, 1)]

/-- Ring 0 RUNNING with one command. -/
def cm (c : HirCmd) (s : State) : State := rg 0 (fun x => { x with cmds := [c] }) (rrun s)

/-- Partition 0 far below its target, with a group commit pending. -/
def ct (s : State) : State :=
  dom (fun x => { x with commits := [⟨5, 90, 1, 9000000000, some 3, 0⟩] }) (setPart s 0 (fun x => { x with nTgt := 200, nCur := 100 }))

/-- Class 1 heavy, queue 0 enabled. -/
def hv (s : State) : State :=
  setAs s [(Reg.FQ_CLASS 1, F.FQ_CLASS_HEAVY, 1), (Reg.FQ_CLASS 1, F.FQ_CLASS_DI, 10), (Reg.FQ_QCFG 0, F.FQ_QCFG_EN, 1)]

/-- A heavy intent at the head of queue 0. -/
def qd (s : State) : State :=
  setQueue (hv s) 0 (fun x => { x with items := [{ cls := 1, part := 0, tag := 5, dur := 9, at_ := 4999990000 }] })

/-- Ballast of partition 0. -/
def bl (s : State) : State :=
  setAs s [(Reg.BAL_CFG 0, F.BAL_CFG_PRE, 10), (Reg.BAL_CFG 0, F.BAL_CFG_PMAX, 100), (Reg.BAL_ENV 0, F.BAL_ENV_CEIL, 200)]

/-- The store is ready. -/
def nvr (s : State) : State := setF s Reg.TOP_SUPPLY F.TOP_SUPPLY_NVS_READY 1

/-- Two SPDM connections at stage 3, and EID 9 on both bindings. -/
def mte : State := setFs (sbm (fun x => { x with conn := [(0, 3), (1, 3)] }) (runs 0)) [(Reg.SBM_EID, ⟨0, 8⟩, 9), (Reg.SBM_EID, ⟨8, 8⟩, 9)]

/-- Debug open for core 1, which is halted. -/
def op1 (s : State) : State := core 1 (fun x => { x with halted := true, haltAt := 4999999000 }) (sec (fun x => { x with cores := 2 }) s)

/-- A staged commit mask and tick. -/
def cmk (mask tick : Nat) : State := wr64 (wr64 (runs 0) Reg.TOP_COMMIT_MASK_LO mask) Reg.TOP_COMMIT_TICK_LO tick

/-- An image address and length that pass their checks. -/
def lenOk (s : State) : State := wrN (wr64 s Reg.SEC_IMG_ADDR_LO 0x1000) Reg.SEC_IMG_LEN 432

/-! ## Well-formedness: one command that each check refuses -/

theorem test_wf_entry : wellFormed (.recordProduce .mgmt { cls := 256 }) = false := by decide
theorem test_wf_int_data : wellFormed (.intDataWord 0 0 3 0) = false := by decide
theorem test_wf_frame : wellFormed (.frameReceive 0 0 true { fr1 with cls := 4 }) = false := by decide
theorem test_wf_operand : wellFormed (.operand 0 0 { fr1 with typ := 0x0201 }) = false := by decide
theorem test_wf_image_seg : wellFormed (.imageSeg 0 0 { fr1 with typ := 0x0302 }) = false := by decide
theorem test_wf_rec_gather : wellFormed (.recGather 0 0 { fr1 with typ := 0x0301 }) = false := by decide
theorem test_wf_sync : wellFormed (.sync 0 (2 ^ 32) 0 0) = false := by decide
theorem test_wf_sync_resp : wellFormed (.syncResp 0 (2 ^ 32) 0) = false := by decide
theorem test_wf_sync_fin : wellFormed (.syncFin 0 (2 ^ 32) 0) = false := by decide
theorem test_wf_ident : wellFormed (.laneIdentDone 0 8 0 0 0 0 0) = false := by decide
theorem test_wf_bulk : wellFormed (.bulk 0 0 0 (2 ^ 32) 0 [] .sent) = false := by decide
theorem test_wf_alloc : wellFormed (.alloc 0 1 0 0 1 1 []) = false := by decide
theorem test_wf_commit_ann : wellFormed (.commitAnn 0 1 1 (2 ^ 64) 0 []) = false := by decide
theorem test_wf_crossing : wellFormed (.crossingParityError 0 (.cell 0 ⟨5, 0, 0, 0⟩) 0) = false := by decide
theorem test_wf_window2 : wellFormed (.hostWindow2Write 0 0xFFFFF#20 (.write [some 1, some 2])) = false := by decide
theorem test_wf_token : wellFormed (.secUnlock []) = false := by decide
theorem test_wf_plain : wellFormed (.recordProduce .mgmt { cls := 255 }) = true := by decide

/-! ## Numbers of the spec's own examples -/

/-- R197: the CRC-32C of the ASCII string "123456789". -/
theorem test_crc32c : crc32c (chars "123456789") = 0xE3069283 := by decide +kernel

/-- The worked example of chapter 19: 0.6172 V, 1,700 A, 1,049.24 W, 85.5 °C, 54 V, 1,290.8 W, 23.90 A. -/
theorem test_linear : linear16 6172 10000 = 0x09E0 ∧ linear11 1700 1 = 0x0B52 ∧ linear11 104924 100 = 0x0A0D ∧ linear11 855 10 = 0xEAAC
    ∧ linear11 54 1 = 0xE360 ∧ linear11 12908 10 = 0x0A85 ∧ linear11 2390 100 = 0xDAFD := by decide +kernel

/-- The worked example of chapter 0: the setpoint code 0x758 is 0.72 V, in units of 0.25 mV. -/
theorem test_setpoint_code : vsetQ 0x758 = 720 * 4 := by decide

/-! ## Single steps -/

/-- A state of the machine in which a command waits, and what the step makes of it. -/
def after (c : Instr) (s : State) (p : State → Bool) : Bool :=
  match step (s.withCommand c) with
  | .next t => p t && t.pending == s.pending
  | _ => false

/-- Worked example of chapter 1: a write of CH_VSET_0 changes the staged copy and leaves the active copy. -/
theorem test_staged_write : after (.registerWrite (.host 0) 0x48000#20 0x76C#32) (runs 0)
    (fun t => rd t (Reg.CH_VSET 0) == 0x76C#32 && ac t (Reg.CH_VSET 0) == ac (runs 0) (Reg.CH_VSET 0)) = true := by decide +kernel

/-- R21: a write to an offset that holds no register is ignored. -/
theorem test_empty_offset : after (.registerWrite (.host 0) 0x3FFFF#20 5#32) (runs 0) (fun t => t.regs == (runs 0).regs) = true := by decide +kernel

/-- R19: the reserved bits of CH_VSET_0 stay 0. -/
theorem test_reserved_bits : after (.registerWrite (.host 0) 0x48000#20 0xFFFFF76C#32) (runs 0) (fun t => rd t (Reg.CH_VSET 0) == 0x76C#32) = true := by
  decide +kernel

/-- R24: a narrow access completes as an Unsupported Request. -/
theorem test_unaligned : after (.hostUnalignedAccess 0 2#22 true) (runs 0) (fun t => t.resp == .unsupported && t.regs == (runs 0).regs) = true := by
  decide +kernel

/-- R281: a parity error of tile 3 is counted. -/
theorem test_parity : after (.fabricParityError 3) (fabricRuns 0) (fun t => fld t Reg.FAB_PARITY_CNT ⟨0, 16⟩ == 1) = true := by decide +kernel

/-- R132, R133: the loss of REFCLK stops the count and takes RUN to HALT. -/
theorem test_refclk_loss : after .refclkLoss (runs 0) (fun t => t.top.state == .halt && !t.tb.running) = true := by decide +kernel

/-- With an empty queue the time base advances by 10 ns. -/
theorem test_idle_tick : (match step (runs 0) with
    | .next t => t.tb.c == (runs 0).tb.c + 10
    | _ => false) = true := by decide +kernel

/-! ## Hypotheses of the statements about every step -/

/-- The statements over every step: states that meet their invariants, with a command that runs. -/
theorem witness_invariants : regsWf (runs 0) = true ∧ memoriesWf (runs 0) = true ∧ regsMasked (runs 0) = true ∧ regsWf State.reset = true
    ∧ memoriesWf State.reset = true ∧ regsMasked State.reset = true ∧ after .refclkLoss (runs 0) (fun _ => true) = true := by decide +kernel

/-- StepRunsFront and IdleStepIsOneTick: a queue with a command, an empty queue, power-on reset held or not, and no BMC cap waiting. -/
theorem witness_steps : ((runs 0).withCommand .refclkLoss).pending = .refclkLoss :: [] ∧ (runs 0).pending = [] ∧ (runs 0).top.porHeld = false
    ∧ (runs 0).tb.running = true ∧ flag (runs 0) Reg.SBM_BMC_CAP F.SBM_BMC_CAP_PENDING = false ∧ State.reset.top.porHeld = true
    ∧ State.reset.pending = [] := by decide +kernel

/-- ReservedBitsReadZero: a stored register of a masked state. -/
theorem witness_ReservedBitsReadZero : regsMasked (runs 0) = true ∧ Reg.CH_VSET 0 ≠ Reg.TOP_ACTIVE_SEL ∧ Reg.CH_VSET 0 ≠ Reg.REC_WIN_SEL
    ∧ liveNat (runs 0) (classOf (runs 0) (.host 0)).winSel (Reg.CH_VSET 0) = none := by decide +kernel

/-- The frame statements: commands that answer and that `writes` leaves out of some block of each statement. -/
theorem witness_frames : after (.fabricParityError 3) (runs 0) (fun _ => true) = true ∧ (writes (.fabricParityError 3)).active = false
    ∧ (writes (.fabricParityError 3)).ch = false ∧ (writes (.fabricParityError 3)).fwc = false ∧ (writes (.abortBlock 0)).regs = false
    ∧ (writes (.abortBlock 0)).resp = false := by decide +kernel

/-- ImageRefusalLeavesConfiguration: a held load, a fetch and a verification that are refused. -/
theorem witness_ImageRefusal :
    ([(Instr.heldLoadBegin true, im (fun x => { x with phase := .held }) (runs 0)),
      (Instr.imageFetchDone .error, im (fun x => { x with phase := .fetch }) (runs 0)),
      (Instr.imageVerifyDone none, im (fun x => { x with phase := .verify, bytes := List.replicate 432 1 }) (runs 0))].all
      (fun p => after p.1 p.2 (fun t => t.img.phase == .idle))) = true := by decide +kernel

/-- PmbusReads: pages that fit each kind of command, and pages that do not. -/
theorem witness_PmbusReads : (runs 0).top.porHeld = false ∧ pageFits (runs 0) .rail = true ∧ pageFits (runs 0) .both = true
    ∧ pageFits (sbm (fun x => { x with page := 8 }) (runs 0)) .dev = true ∧ pageFits (runs 0) .dev = false
    ∧ pageFits (sbm (fun x => { x with page := 8 }) (runs 0)) .rail = false
    ∧ pageFits (sbm (fun x => { x with page := 0xFF }) (runs 0)) .both = false := by decide +kernel

/-- SiteCellResults has no hypothesis: states and operands that meet each condition of its conclusions. -/
theorem witness_SiteCellResults :
    (let x := siteOf (setSite (runs 0) 0 1 (fun x => { x with agree := 2, calOk := false })) 0 1
     x.coreOn = true ∧ x.calFail = false ∧ min (x.agree + 1) 3 = 3 ∧ x.calOk = false)
    ∧ (let s := runs 0
       (portOf s 0).armed = true ∧ (siteOf s 0 1).coreOn = true ∧ sitePresent s 0 1 = true ∧ siteDis s 0 1 = false ∧ 100 < siteThr s 0 1)
    ∧ (let s := setSite (runs 0) 0 1 (fun x => { x with drp := true, depth := 4 })
       (siteOf s 0 1).drp = true ∧ siteThr s 0 1 + (portOf s 0).stretch / 256 % 16 * 160 < 40000)
    ∧ (let x := siteOf (setSite (runs 0) 0 1 (fun x => { x with stretchHold := true, minV := some 900 })) 0 1
       x.stretchHold = true ∧ x.drp = false ∧ x.minV = some 900)
    ∧ (portTrip (runs 0) 0 : Int) ≤ 1680 ∧ (portOf (runs 0) 0).trained = true ∧ (portOf (runs 0) 0).fallback = false := by
  refine ⟨?_, ?_, ?_, ?_, ?_⟩ <;> decide +kernel

/-- PortCellResults has no hypothesis: a port that is trained, one in fallback, a site that reports, and a queue with room and one without. -/
theorem witness_PortCellResults : (portOf (runs 0) 0).trained = true ∧ (portOf (runs 0) 0).fallback = false ∧ sitePresent (runs 0) 0 1 = true
    ∧ (tabGet [] (portOf (runs 0) 0).out 1).length < 32
    ∧ (portOf (setPort (runs 0) 0 (fun x => { x with fallback := true, trained := false })) 0).fallback = true
    ∧ 32 ≤ (tabGet [] (portOf (setPort (runs 0) 0 (fun x => { x with out := [(1, List.replicate 32 0)] })) 0).out 1).length := by
  decide +kernel

/-! ## Hypotheses of the statements about commands, clause by clause -/

abbrev live_ResetRequestResults (s : State) : Prop := s.top.state = .decaf ∨ s.top.state = .loaded ∨ s.top.state = .ramp ∨ s.top.state = .run
abbrev ok_ImageLoaderResults (s : State) : Prop := flag s Reg.TOP_SUPPLY F.TOP_SUPPLY_SEC_OK = true
    ∧ flag s Reg.TOP_SUPPLY F.TOP_SUPPLY_STRAP_ERR = false ∧ s.sec.run = none
    ∧ (s.top.state = .decaf ∨ s.top.state = .loaded ∨ s.top.state = .ramp ∨ s.top.state = .run) ∧ 432 ≤ (rd s Reg.SEC_IMG_LEN).toNat
    ∧ (rd s Reg.SEC_IMG_LEN).toNat ≤ 294912 ∧ (rd s Reg.SEC_IMG_LEN).toNat % 16 = 0
    ∧ srcOk (fld s Reg.SEC_IMG_SRC F.SEC_IMG_SRC_SRC) (rd64 s Reg.SEC_IMG_ADDR_LO) (rd s Reg.SEC_IMG_LEN).toNat = true
abbrev ready_PhaseAddAndShed (s : State) (r : Nat) : Prop := isRail s r = true ∧ railState s r = .reg ∧ (chOf s r).drip = .run
    ∧ aOn s (Reg.CH_CTRL r) F.CH_CTRL_SHED_EN = true ∧ wideRole s r ≠ 2
abbrev fresh_PostlineReportResults (s : State) (d : DieIx) (seq : Fin 64) : Prop := dieUp s d.val = true ∧ seq.val = (dieOf s d.val).rxSeq
abbrev nextCycle_FrankingResults (s : State) : State := match s.fq.lastHeavy with | some t => reach s (t + 2) | none => s
abbrev heavyHead_FrankingResults (s : State) (q : Nat) : Prop := ∃ i l, (queueOf s q).items = i :: l ∧ heavyClass s i.cls = true ∧ i.forced = false
abbrev arrives_CellResults (s : State) (lane : LaneIx) (c : Cell) : Prop := laneUp s lane.val = true ∧ cellLocal s c = true
    ∧ ∀ p ∈ s.tvl.seen, p.1 = c → p.2 + 200 < now s
abbrev can_CoreAccessResults (s : State) (core : CoreIx) : Prop := coreRuns s core.val = true ∧ coreStalled s core.val = false
abbrev whole_CoreAccessResults (s : State) : Prop := ∀ l, (dirtyOf s l).data = [] ∨ (dirtyOf s l).data.length = 64
abbrev can_MailboxResults (s : State) (w : Fin 9) : Prop := if w.val < 8 then coreRuns s w.val = true
    ∧ coreStalled s w.val = false else s.fwc.secUp = true ∧ fwOn s = true
abbrev mayRestart_CoreLifeResults (s : State) (n : Nat) : Prop := (coreOf s n).streak < fld s Reg.FWC_LIVE_CFG F.FWC_LIVE_CFG_RESTART_MAX
abbrev rings_HostRingResults (s : State) (who : Initiator) (ring : Fin 64) (cq : Bool) (val : Word) : Prop :=
    admits s who (doorbellOff who ring.val cq) val.toNat = true ∨ ∃ (k : Nat) (h : k + 1 < 64), who = .host ⟨k + 1, h⟩ ∧ reachable s who = true
    ∧ hostStuck s who = false ∧ s.top.rst = none ∧ ringOwner s ring.val = k + 1
abbrev takes_HostControlCommandResults (s : State) (ring : RingIx) (cid : BitVec 16) (op : Nat) (c : HirCmd) : Prop :=
    takesCmd s ring cid op c = true ∧ s.top.porHeld = false
abbrev takes_HostDataCommandResults (s : State) (ring : RingIx) (cid : BitVec 16) (op : Nat) (c : HirCmd) : Prop :=
    takesCmd s ring cid op c = true ∧ s.top.porHeld = false

/-- `Obligations.RegisterAccessResults`. -/
theorem witness_RegisterAccessResults :
    ((fun (who : Initiator) (word : BitVec 20) (val : Word) (s : State) (r : RegFamily) => admits s who (4 * word.toNat) val.toNat = true
        ∧ regFind (4 * word.toNat) = some r ∧ r.access = .hold) (.host 0) (0x48000#20) (5#32) (runs 0) ((regFind 0x120000).get (by decide)))
    ∧ ((fun (fn : Fin 64) (off : BitVec 22) (write : Bool) (s : State) => reachable s (.host fn) = true ∧ fwOn s = true) 0 1 false (runs 0))
    ∧ ((fun (who : Initiator) (word : BitVec 20) (s : State) => canRead s who = true ∧ wideLo (4 * word.toNat) = true) (.host 0) (0x4000#20) (runs 0))
    ∧ ((fun (who : Initiator) (word : BitVec 20) (v : Word) (s : State) => canRead s who = true ∧ 4 ≤ 4 * word.toNat
        ∧ wideLo (4 * word.toNat) = false ∧ wideLo (4 * word.toNat - 4) = true ∧ tabGet none (classOf s who).captures (4 * word.toNat - 4) = some v)
          (.host 0) (0x4001#20) (7#32) ({runs 0 with top := {(runs 0).top with classes := [(0,{captures := [(0x10000, some 7)]})]}}))
    ∧ ((fun (who : Initiator) (word : BitVec 20) (s : State) (r : RegFamily) => canRead s who = true ∧ wideLo (4 * word.toNat) = false
        ∧ wideLo (4 * word.toNat - 4) = false ∧ regFind (4 * word.toNat) = some r ∧ r.access = .rc)
          (.host 0) (BitVec.ofNat 20 (0x120118/4)) (setF (runs 0) 0x120118 ⟨0,16⟩ 5) ((regFind 0x120118).get (by decide)))
    ∧ ((fun (who : Initiator) (val : Word) (s : State) => admits s who Reg.TOP_ACTIVE_SEL val.toNat = true) (.host 0) (0x120000#32) (runs 0))
    ∧ ((fun (who : Initiator) (asset : Bool) (s : State) => admits s who Reg.TOP_LOCK (b2n asset) = true
        ∧ flag s Reg.TOP_LOCK F.TOP_LOCK_ASSET = false) (.host 0) true (runs 0))
    ∧ ((fun (who : Initiator) (word : BitVec 20) (val : Word) (s : State) (r : RegFamily) => let off := 4 * word.toNat;
        admits s who off val.toNat = true ∧ regFind off = some r ∧ r.access = .rw ∧ wideWritable off = false ∧ 4 ≤ off
        ∧ wideWritable (off - 4) = true ∧ off ≠ Reg.REC_TAIL_HI ∧ off ≠ Reg.REC_SPILL_BASE_HI)
          (.host 0) (BitVec.ofNat 20 (0x114/4)) 0x12345 (runs 0) ((regFind 0x114).get (by decide))) := by
  refine ⟨?_, ?_, ?_, ?_, ?_, ?_, ?_, ?_⟩ <;> decide +kernel

/-- `Obligations.CommitPortResults`. -/
theorem witness_CommitPortResults :
    ((fun (who : Initiator) (s : State) => let m := expandMask (framesOf s) (rd64 s Reg.TOP_COMMIT_MASK_LO);
        let v := wr64 { s with resp := .none } Reg.TOP_COMMIT_MASK_LO m; admits s who Reg.TOP_COMMIT_CTL 3 = true ∧ s.integ.stagedUe = []
        ∧ s.dom.commits = [] ∧ m ≠ 0 ∧ m &&& pendMask s = 0 ∧ now s + 1000 ≤ rd64 s Reg.TOP_COMMIT_TICK_LO
        ∧ rd64 s Reg.TOP_COMMIT_TICK_LO ≤ now s + 10000000000 ∧ firstFail v (framesOf s) (commitView v m (commitSnap v m)) m = none)
          (.host 0) (cmk 256 6000000000))
    ∧ ((fun (who : Initiator) (s : State) => let m := expandMask (framesOf s) (rd64 s Reg.TOP_COMMIT_MASK_LO);
        admits s who Reg.TOP_COMMIT_CTL 4 = true ∧ s.img.phase ≠ .pending ∧ s.top.commits.filter (fun c => c.mask &&& m != 0) ≠ [])
          (.host 0) ({ cmk 256 6000000000 with top := { (runs 0).top with commits := [⟨256, 7000000000, []⟩] } }))
    ∧ ((fun (s : State) (c : PendCommit) => s.top.commits = [c] ∧ s.img.phase ≠ .pending)
          ({ runs 0 with top := { (runs 0).top with commits := [⟨256, 7000000000, []⟩] } }) (⟨256, 7000000000, []⟩)) := by
  refine ⟨?_, ?_, ?_⟩ <;> decide +kernel

/-- `Obligations.CommitPortResults`: the clauses of commit requests refused. -/
theorem witness_CommitRequestsRefused :
    ((fun (who : Initiator) (s : State) => admits s who Reg.TOP_COMMIT_CTL 3 = true ∧ s.top.commits = [] ∧ s.img.phase ≠ .pending
        ∧ s.dom.commits = []) (.host 0) (cmk 0 0)) :=
  by decide +kernel

/-- `Obligations.ImmediateCommitSwitchesActiveCopies`. -/
theorem witness_ImmediateCommitSwitchesActiveCopies :
    ((fun (who : Initiator) (s : State) => let m := expandMask (framesOf s) (rd64 s Reg.TOP_COMMIT_MASK_LO);
        let v := wr64 { s with resp := .none } Reg.TOP_COMMIT_MASK_LO m; admits s who Reg.TOP_COMMIT_CTL 1 = true ∧ regsWf s = true
        ∧ s.integ.stagedUe = [] ∧ s.dom.commits = [] ∧ m ≠ 0 ∧ m &&& pendMask s = 0
        ∧ firstFail v (framesOf s) (commitView v m (commitSnap v m)) m = none) (.host 0) (setF (cmk 256 0) (Reg.CAP_ENV 0) F.CAP_ENV_FMIN 7)) :=
  by decide +kernel

/-- `Obligations.BudgetEpochResults`: the clauses of budget table results. -/
theorem witness_BudgetTableResults :
    ((fun (s : State) => s.img.applied = true ∧ s.tb.running = true)
          (let s := runs 0; {s with bt := {s.bt with last := 5000, bank1 := btFlagSet (btHeader [] 5001 0 0xFFFF) 3}}))
    ∧ ((fun (s : State) => 8 ≤ s.bt.stale) ({ runs 0 with bt := { stale := 8 } }))
    ∧ ((fun (who : Initiator) (s : State) => admits s who Reg.DOM_BT_SEAL 1 = true ∧ s.img.applied = true ∧ btSealed (pendBt s) = false)
          (.core 1) (let s := runs 0; let s := setCore s 1 (fun c => {c with tag := 1}); {s with bt := {s.bt with bank1 := btFlagSet (btHeader [] 5001 0 0xFFFF) 1}})) := by
  refine ⟨?_, ?_, ?_⟩ <;> decide +kernel

/-- `Obligations.RecorderResults`: the clauses of recorder arbiter results. -/
theorem witness_RecorderArbiterResults :
    ((fun (p : Plane) (e : Entry) (s : State) => (stageQ s p).length < 16 ∧ stageDrop s p = 0 ∧ entryWf e = true) .mgmt ({ cls := 3 }) (runs 0))
    ∧ ((fun (p : Plane) (e : Entry) (s : State) => 16 ≤ (stageQ s p).length)
          .mgmt ({ cls := 3 }) (recd (fun x => { x with q2 := List.replicate 16 {} }) (runs 0)))
    ∧ ((fun (s : State) (q : Nat) (e : Entry) (es : List Entry) => fwOn s = true ∧ markDue s = false ∧ s.recd.marks = [] ∧ s.recd.stopLoss = 0
        ∧ nextQueue s = some q ∧ stageQ s (planeOfNo q) = e :: es ∧ stageDrop s (planeOfNo q) = 0 ∧ ringRoom s e = true)
          (recd (fun x => { x with q1 := [{ cls := 5 }], lastMs := 5000 }) (runs 0)) 1 ({ cls := 5 }) ([]))
    ∧ ((fun (p : Plane) (s : State) => 0 < stageDrop s p ∧ (stageQ s p).length < 16) .mgmt (recd (fun x => { x with drop2 := 3 }) (runs 0))) := by
  refine ⟨?_, ?_, ?_, ?_⟩ <;> decide +kernel

/-- `Obligations.CopyErrorAndScrubberResults`: the clauses of active copy error results. -/
theorem witness_ActiveCopyErrorResults :
    ((fun (off : Nat) (s : State) => (groupAt (framesOf s) off).isSome = true) (Reg.CAP_ENV 0) (runs 0))
    ∧ ((fun (off g : Nat) (s : State) => groupAt (framesOf s) off = some g ∧ 8 ≤ g ∧ g < 40) (Reg.CAP_ENV 0) 8 (runs 0))
    ∧ ((fun (off g : Nat) (s : State) => groupAt (framesOf s) off = some g ∧ 40 ≤ g ∧ s.top.rst = none
        ∧ ((s.top.state = .loaded ∨ s.top.state = .ramp ∨ s.top.state = .run))) Reg.LAD_VIN_CFG 40 (loaded 0)) := by
  refine ⟨?_, ?_, ?_⟩ <;> decide +kernel

/-- `Obligations.TimeBaseAndClockResults`: the clauses of capture and pulse results. -/
theorem witness_CaptureAndPulseResults :
    ((fun (src : Fin 32) (falling : Bool) (ns : Fin 10) (inStep : Bool) (s : State) (n : Fin 16) => 1 ≤ src.val ∧ src.val ≤ 16
        ∧ aF s (Reg.TB_CAP_SRC n.val) F.TB_CAP_SRC_SOURCE = src.val
        ∧ ((src.val ≤ 10 ∨ src.val = 16 → aOn s (Reg.TB_CAP_SRC n.val) F.TB_CAP_SRC_EDGE = falling)))
          16 true 3 true (setAs (runs 0) [(Reg.TB_CAP_SRC 2, F.TB_CAP_SRC_SOURCE, 16), (Reg.TB_CAP_SRC 2, F.TB_CAP_SRC_EDGE, 1)]) 2)
    ∧ ((fun (s : State) => aOn s Reg.TB_PPS_CFG F.TB_PPS_CFG_EN = true ∧ s.tb.running = true)
          (setAs (runs 0) [(Reg.TB_PPS_CFG, F.TB_PPS_CFG_EN, 1), (Reg.TB_PPS_CFG, F.TB_PPS_CFG_WIDTH, 9)])) := by
  refine ⟨?_, ?_⟩ <;> decide +kernel

/-- `Obligations.TimeBaseAndClockResults`: the clauses of servo results. -/
theorem witness_ServoResults :
    ((fun (lane : LaneIx) (xid t4 t3 : Nat) (x : Xch) (s : State) => s.tb.xch = some x ∧ upLane s = some lane.val ∧ x.xid = xid % 2 ^ 32
        ∧ x.t3 = some t3 ∧ stampNow s ≤ x.t2 + 1600000 ∧ ((s.tb.servo = .acquire ∨ s.tb.servo = .locked ∨ s.tb.servo = .holdover)))
          0 5 80000000000 79999999000 (⟨5, 79999990000, 79999995000, some 79999999000⟩) (let s := runs 1; {s with dom := {s.dom with role := .member}, tb := {s.tb with servo := .acquire, xch := some ⟨5, 79999990000, 79999995000, some 79999999000⟩}}))
    ∧ ((fun (s : State) => (s.tb.servo = .locked ∨ s.tb.servo = .acquire))
          (let s := runs 1; {s with tb := {s.tb with servo := .locked, rate := 5, slew := 3, aligned := true}}))
    ∧ ((fun (s : State) => s.tb.servo = .holdover)
          (let s := runs 1; {s with tb := {s.tb with servo := .holdover, rate := 5, slew := 0, aligned := true}}))
    ∧ ((fun (s : State) => 16 ≤ s.tb.limitRun ∧ s.tb.rateLimited = false) (let s := runs 1; {s with tb := {s.tb with limitRun := 16}})) := by
  refine ⟨?_, ?_, ?_, ?_⟩ <;> decide +kernel

/-- `Obligations.TimeBaseAndClockResults`: the clauses of clock fault results. -/
theorem witness_ClockFaultResults :
    ((fun (s : State) => s.top.porHeld = false ∧ s.tb.running = true) (runs 0))
    ∧ ((fun (s : State) => s.top.porHeld = false ∧ s.tb.running = false ∧ s.tb.c ≠ 0 ∧ s.img.phase ≠ .pending)
          (let s := runs 0; {s with tb := {s.tb with running := false, servo := .locked}}))
    ∧ ((fun (s : State) => flag s Reg.CLK_STATUS F.CLK_STATUS_REFCLK_OK = true) (runs 0))
    ∧ ((fun (what : FwClockFault) (s : State) => s.top.porHeld = false ∧ s.clk.fw = .pll) .xtal (runs 0))
    ∧ ((fun (pll : Bool) (s : State) => s.clk.fw = .none ∧ (pll = true ∨ s.tb.running = true)) false (let s := runs 0; {s with clk := {fw := .none}}))
    ∧ ((fun (who : Initiator) (s : State) => admits s who Reg.CLK_FW_RETURN 1 = true ∧ s.clk.fw = .backup)
          (.host 0) (let s := runs 0; {s with clk := {fw := .backup}}))
    ∧ ((fun (khz : Nat) (s : State) => s.top.porHeld = false ∧ (khz < 80000 ∨ 120000 < khz) ∧ s.top.rst = none
        ∧ (s.top.state = .loaded ∨ s.top.state = .ramp ∨ s.top.state = .run)) 79999 (runs 0)) := by
  refine ⟨?_, ?_, ?_, ?_, ?_, ?_, ?_⟩ <;> decide +kernel

/-- `Obligations.PowerOnAndStartResults`: the clauses of power on results. -/
theorem witness_PowerOnResults :
    ((fun (ovc cpos : Fin 4) (smba : Fin 8) (test refclk : Bool) (s : State) => s.top.porHeld = true) 2 1 5 true true State.reset)
    ∧ ((fun (which : RunSupply) (s : State) => s.top.porHeld = false ∧ tabWf {} s.ph = true)
          .vdd (let s := runs 0; setPh s 5 (fun x => {x with crowbar := true})))
    ∧ ((fun (secOk idOk : Bool) (s : State) => s.top.state = .off ∧ s.top.porHeld = false ∧ rd s Reg.PROT_THERM_LATCH = 0
        ∧ rd s Reg.PROT_CH_LATCH = 0 ∧ s.top.hActiveUe = false ∧ s.top.hClock = false ∧ s.top.hAon = false) true false (stt .off decaf))
    ∧ ((fun (chan : ChIx) (mv : Nat) (s : State) => (s.top.state = .decaf ∨ (s.top.state = .off ∧ s.top.porHeld = false))
        ∧ strapCeiling s * 16 < mv ∧ bitOf (rd s Reg.PROT_THERM_LATCH).toNat 6 = false) 3 30000 decaf)
    ∧ ((fun (mv : Nat) (s : State) => s.top.porHeld = false ∧ supWarn s .vin + supHyst s .vin < mv) 60000 (runs 0)) := by
  refine ⟨?_, ?_, ?_, ?_, ?_⟩ <;> decide +kernel

/-- `Obligations.ResetRequestResults`. -/
theorem witness_ResetRequestResults :
    ((fun (who : Initiator) (s : State) => admits s who Reg.TOP_RST_CTL 0x5A01 = true ∧ s.top.rst = none ∧ live_ResetRequestResults s)
          (.host 0) (runs 0))
    ∧ ((fun (who : Initiator) (s : State) => admits s who Reg.TOP_RST_CTL 0x5A02 = true ∧ s.top.rst = none ∧ live_ResetRequestResults s
        ∧ s.img.applied = true) (.host 0) (runs 0))
    ∧ ((fun (who : Initiator) (s : State) => admits s who Reg.TOP_RST_CTL 0x5A03 = true ∧ s.top.rst = none ∧ restarting s = false
        ∧ (s.top.state = .decaf ∨ s.top.state = .loaded)) (.host 0) (loaded 0))
    ∧ ((fun (who : Initiator) (s : State) => admits s who Reg.TOP_RST_CTL 0x5A04 = true ∧ s.top.rst = none ∧ restarting s = false) (.host 0) (runs 0))
    ∧ ((fun (who : Initiator) (s : State) => admits s who Reg.TOP_RST_CTL 0x5A05 = true ∧ s.top.rst = none ∧ restarting s = false) (.host 0) (runs 0)) := by
  refine ⟨?_, ?_, ?_, ?_, ?_⟩ <;> decide +kernel

/-- `Obligations.ResetRequestResults`: the clauses of reset requests refused. -/
theorem witness_ResetRequestsRefused :
    ((fun (who : Initiator) (key : Byte) (s : State) => key ≠ 0x5A ∧ admits s who Reg.TOP_RST_CTL (1 + 256 * key.toNat) = true)
          (.host 0) 0x5B (runs 0))
    ∧ ((fun (who : Initiator) (s : State) => s.top.rst = none ∧ restarting s = true ∧ admits s who Reg.TOP_RST_CTL 0x5A03 = true)
          (.host 0) (core 0 (fun x => {x with state := .restart}) (runs 0)))
    ∧ ((fun (who : Initiator) (s : State) => s.top.rst = none ∧ restarting s = true ∧ admits s who Reg.TOP_RST_CTL 0x5A04 = true)
          (.host 0) (core 0 (fun x => {x with state := .restart}) (runs 0)))
    ∧ ((fun (who : Initiator) (s : State) => s.top.rst = none ∧ restarting s = true ∧ admits s who Reg.TOP_RST_CTL 0x5A05 = true)
          (.host 0) (core 0 (fun x => {x with state := .restart}) (runs 0)))
    ∧ ((fun (who : Initiator) (r : ResetSt) (s : State) => s.top.rst = some r ∧ r.level ≠ 2 ∧ (s.tb.running = false ∨ r.from_ ≠ now s)
        ∧ admits s who Reg.TOP_RST_CTL 0x5A01 = true)
          (.host 0) (({ level := 3, from_ := 5 } : ResetSt)) (rs ({ level := 3, from_ := 5 } : ResetSt) (runs 0)))
    ∧ ((fun (who : Initiator) (s : State) => admits s who Reg.TOP_RST_CTL 0x5A03 = true ∧ s.top.rst = none ∧ restarting s = false
        ∧ s.top.state ≠ .decaf ∧ s.top.state ≠ .loaded) (.host 0) (runs 0))
    ∧ ((fun (who : Initiator) (s : State) => admits s who Reg.TOP_RST_CTL 0x5A02 = true ∧ s.top.rst = none
        ∧ (s.top.state = .decaf ∨ s.top.state = .loaded ∨ s.top.state = .ramp ∨ s.top.state = .run) ∧ s.img.applied = false) (.host 0) decaf) := by
  refine ⟨?_, ?_, ?_, ?_, ?_, ?_, ?_⟩ <;> decide +kernel

/-- `Obligations.ResetEndAndPcieResults`: the clauses of reset end results. -/
theorem witness_ResetEndResults :
    ((fun (r : ResetSt) (s : State) => s.top.rst = some r ∧ 5 ∈ r.level :: r.also ∧ r.flashWait = true ∧ mgmtWaits s = false)
          (({ level := 5, flashWait := true } : ResetSt)) (rs ({ level := 5, flashWait := true } : ResetSt) (runs 0)))
    ∧ ((fun (secOk idOk : Bool) (r : ResetSt) (s : State) => s.top.rst = some r ∧ r.level = 1 ∧ allOff s = true ∧ s.top.dis = [])
          true true (({ level := 1 } : ResetSt)) (rs ({ level := 1 } : ResetSt) (loaded 0)))
    ∧ ((fun (r : ResetSt) (s : State) => s.top.rst = some r ∧ r.level = 2 ∧ allOff s = true ∧ s.top.dis = [])
          (({ level := 2 } : ResetSt)) (rs ({ level := 2 } : ResetSt) (loaded 0)))
    ∧ ((fun (r : ResetSt) (s : State) => s.top.rst = some r ∧ 3 ≤ r.level) (({ level := 3 } : ResetSt)) (rs ({ level := 3 } : ResetSt) (runs 0)))
    ∧ ((fun (d : DisItem) (l : List DisItem) (s : State) => s.top.dis = d :: l)
          (⟨0,true,false,false⟩) ([⟨1,true,false,false⟩]) (let s := runs 0; {s with top := {s.top with dis := [⟨0,true,false,false⟩, ⟨1,true,false,false⟩], state := .ramp}})) := by
  refine ⟨?_, ?_, ?_, ?_, ?_⟩ <;> decide +kernel

/-- `Obligations.ResetEndAndPcieResults`: the clauses of pcie reset results. -/
theorem witness_PcieResetResults :
    ((fun (s : State) => s.top.porHeld = false) (runs 0))
    ∧ ((fun (s : State) => s.top.pcieUp = true ∧ fnHere s 0 = true) (let s := runs 0; {s with hir := {s.hir with vfs := 3, unmask := [(0,1),(2,3)]}}))
    ∧ ((fun (fn : Fin 64) (s : State) => fn ≠ 0 ∧ s.top.pcieUp = true ∧ fnHere s fn.val = true)
          2 (let s := runs 0; {s with hir := {s.hir with vfs := 3, unmask := [(0,1),(2,3)]}})) := by
  refine ⟨?_, ?_, ?_⟩ <;> decide +kernel

/-- `Obligations.PowerOnAndStartResults`: the clauses of start stop results. -/
theorem witness_StartStopResults :
    ((fun (who : Initiator) (s : State) => admits s who Reg.TOP_START 1 = true ∧ startCheck s = 1 ∧ stageDelay s 0 ≠ 0 ∧ stageEn s 0 ≠ [])
          (.host 0) (setF (setAs (loaded 0) [(Reg.CH_CTRL 0, F.CH_CTRL_EN, 1)]) Reg.TOP_SUPPLY F.TOP_SUPPLY_VIN_ABOVE_WARN 1))
    ∧ ((fun (who : Initiator) (s : State) => admits s who Reg.TOP_START 1 = true ∧ startCheck s ≠ 1) (.host 0) (runs 0))
    ∧ ((fun (k r : Nat) (s : State) => s.top.startNext = some k ∧ prevStageDone s k = true ∧ wholeReset s = false
        ∧ (s.top.state = .loaded ∨ s.top.state = .ramp) ∧ r ∈ stageEn s k ∧ railLatched s r = false ∧ running s r = false ∧ r ∈ rails s)
          0 0 (let s := setAs (loaded 0) [(Reg.CH_CTRL 0, F.CH_CTRL_EN, 1)]; {s with top := {s.top with startNext := some 0}}))
    ∧ ((fun (who : Initiator) (s : State) => admits s who Reg.TOP_START 2 = true ∧ (s.top.state = .ramp ∨ s.top.state = .run) ∧ s.top.dis = []
        ∧ ((∃ r ∈ rails s, running s r = true))) (.host 0) (runs 0))
    ∧ ((fun (who : Initiator) (s : State) => admits s who Reg.TOP_START 2 = true ∧ (s.top.state = .ramp ∨ s.top.state = .run) ∧ s.top.dis = []
        ∧ ((∀ r ∈ rails s, running s r = false))) (.host 0) (stt .run (loaded 0))) := by
  refine ⟨?_, ?_, ?_, ?_, ?_⟩ <;> decide +kernel

/-- `Obligations.ImageLoaderResults`. -/
theorem witness_ImageLoaderResults :
    ((fun (full : Bool) (s : State) => s.img.phase = .held ∧ flag s Reg.TOP_SUPPLY F.TOP_SUPPLY_NVS_READY = true ∧ ok_ImageLoaderResults s)
          true (lenOk (im (fun x => {x with phase := .held}) (runs 0))))
    ∧ ((fun (who : Initiator) (full : Bool) (s : State) => admits s who Reg.SEC_IMG_CTL 1 = true ∧ s.img.phase = .idle)
          (.host 0) false (lenOk (runs 0)))
    ∧ ((fun (who : Initiator) (s : State) => admits s who Reg.SEC_IMG_CTL 2 = true ∧ loadActive s = true)
          (.host 0) ((im (fun x => {x with phase := .verify}) (runs 0))))
    ∧ ((fun (got : Fetched) (b : List Byte) (s : State) => s.img.phase = .fetch
        ∧ fetchTake s (fld s Reg.SEC_IMG_SRC F.SEC_IMG_SRC_SRC) (rd64 s Reg.SEC_IMG_ADDR_LO) (rd s Reg.SEC_IMG_LEN).toNat got = some b
        ∧ headerChecks s b (rd s Reg.SEC_IMG_LEN).toNat = none)
          (.data imageBytes) imageBytes (lenOk (im (fun x => {x with phase := .fetch}) (runs 0))))
    ∧ ((fun (s : State) => s.img.phase = .verify) ((im (fun x => {x with phase := .verify, bytes := List.replicate 432 1}) (runs 0))))
    ∧ ((fun (s : State) => s.img.phase = .pending) ((im (fun x => {x with phase := .pending, bytes := List.replicate 432 1}) (runs 0))))
    ∧ ((fun (s : State) => s.img.phase = .refill) ((im (fun x => {x with phase := .refill, bank1 := []}) (runs 0)))) := by
  refine ⟨?_, ?_, ?_, ?_, ?_, ?_, ?_⟩ <;> decide +kernel

/-- `Obligations.ImageLoaderResults`: the clauses of image loads refused. -/
theorem witness_ImageLoadsRefused :
    ((fun (s : State) => s.img.phase = .fetch) ((im (fun x => {x with phase := .fetch}) (runs 0))))
    ∧ ((fun (who : Initiator) (s : State) => admits s who Reg.SEC_IMG_CTL 3 = true) (.host 0) (runs 0))
    ∧ ((fun (who : Initiator) (full : Bool) (s : State) => admits s who Reg.SEC_IMG_CTL 1 = true ∧ s.img.phase = .idle
        ∧ flag s Reg.TOP_SUPPLY F.TOP_SUPPLY_NVS_READY = true ∧ flag s Reg.TOP_SUPPLY F.TOP_SUPPLY_SEC_OK = true
        ∧ flag s Reg.TOP_SUPPLY F.TOP_SUPPLY_STRAP_ERR = false ∧ s.sec.run = none
        ∧ ((s.top.state = .decaf ∨ s.top.state = .loaded ∨ s.top.state = .ramp ∨ s.top.state = .run)) ∧ rd64 s Reg.SEC_IMG_ADDR_LO % 64 ≠ 0)
          (.host 0) true (lenOk (runs 0) |> fun s => wr64 s Reg.SEC_IMG_ADDR_LO 0x1020)) := by
  refine ⟨?_, ?_, ?_⟩ <;> decide +kernel

/-- `Obligations.CopyErrorAndScrubberResults`: the clauses of scrubber results. -/
theorem witness_ScrubberResults :
    ((fun (up us : List (Fin 272 × Byte)) (s : State) => scrubs s = true ∧ s.img.phase = .idle) ([]) ([]) (runs 0))
    ∧ ((fun (slot : Fin 248) (s : State) => s.img.applied = true) 3 (runs 0)) := by
  refine ⟨?_, ?_⟩ <;> decide +kernel

/-- `Obligations.FabricSampleResults`: the clauses of lane sample results. -/
theorem witness_LaneSampleResults :
    ((fun (p : Fin 144) (v : Int) (s : State) => p.val < 0x40) 5 77 (fabricRuns 0)) :=
  by decide +kernel

/-- `Obligations.FabricSampleResults`: the clauses of cross device slot results. -/
theorem witness_CrossDeviceSlotResults :
    ((fun (slot : Fin 32) (s : State) => 3 ≤ (rxOf s slot.val).missing ∧ (rxOf s slot.val).fell = false)
          5 (let s := fabricRuns 0; {s with fab := {s.fab with rx := [(5, {missing := 3, val := 9})]}}))
    ∧ ((fun (s : State) => laneFollows s = true) (let s := fabricRuns 1; setFs s [(Reg.TOP_STRAP, F.TOP_STRAP_CPOS, 1)]))
    ∧ ((fun (fs : Fin 50) (ms : Fin 100) (s : State) => laneFollows s = true)
          3 5 (let s := fabricRuns 1; setFs s [(Reg.TOP_STRAP, F.TOP_STRAP_CPOS, 1)]))
    ∧ ((fun (lane : LaneIx) (j : Fin 16) (v0 v1 : Int) (s : State) => 6 ≤ lane.val ∧ laneUp s lane.val = true)
          6 2 5 (-5) (let s := fabricRuns 1; setLane s 6 (fun x => {x with state := .up}))) := by
  refine ⟨?_, ?_, ?_, ?_⟩ <;> decide +kernel

/-- `Obligations.RegulationResults`. -/
theorem witness_RegulationResults :
    ((fun (rail : ChIx) (v : Nat) (priOpen altOpen cmpOk : Bool) (s : State) => railState s rail.val = .soft ∧ (chOf s rail.val).senseOk = false)
          0 800 false false true (chs 0 (fun x => {x with state := .soft}) (runs 0)))
    ∧ ((fun (rail : ChIx) (s : State) => railState s rail.val = .soft) 0 (chs 0 (fun x => {x with state := .soft}) (runs 0)))
    ∧ ((fun (rail : ChIx) (s : State) => railState s rail.val = .settle ∧ windowOk s rail.val = true)
          0 (let s := setAs (chs 0 (fun x => {x with state := .settle, vref := 160000000}) (runs 0)) [(Reg.CH_SS 0, F.CH_SS_PG_WIN, 255), (Reg.PROT_OV 0, F.PROT_OV_LIMIT, 1000), (Reg.CH_LL 0, F.CH_LL_LL, 0)]; {s with top := {s.top with state := .ramp}}))
    ∧ ((fun (rail : ChIx) (s : State) => (railState s rail.val = .soft ∨ railState s rail.val = .settle))
          0 (chs 0 (fun x => {x with state := .settle}) (runs 0)))
    ∧ ((fun (rail : ChIx) (s : State) => railState s rail.val = .reg) 0 (runs 0))
    ∧ ((fun (rail : ChIx) (mv : Nat) (d : DisItem) (l : List DisItem) (s : State) => s.top.dis = d :: l ∧ d.rail = rail.val ∧ d.limitOnly = false
        ∧ mv < 50)
          0 49 (⟨0,true,false,false⟩) ([⟨1,true,false,false⟩]) (let s := runs 0; {s with top := {s.top with dis := [⟨0,true,false,false⟩, ⟨1,true,false,false⟩], state := .ramp}})) := by
  refine ⟨?_, ?_, ?_, ?_, ?_, ?_⟩ <;> decide +kernel

/-- `Obligations.RegulationResults`: the clauses of phase period results. -/
theorem witness_PhasePeriodResults :
    ((fun (rail : ChIx) (s : State) => switching s rail.val = true) 0 (runs 0))
    ∧ ((fun (ph : PhIx) (s : State) => let r := phaseRail s ph.val; r < 8 ∧ slotTaken s r ph.val = true)
          0 (ph [0] (fun x => {x with due := true}) (setAs (chs 0 (fun x => {x with duty := 2^21, per := 1000}) (runs 0)) [(Reg.CH_FSW 0, F.CH_FSW_MIN_ON, 10), (Reg.CH_FSW 0, F.CH_FSW_MIN_OFF, 10)])))
    ∧ ((fun (ph : PhIx) (amps : Int) (s : State) => phaseRail s ph.val < 8 ∧ (phOf s ph.val).active = true ∧ (phOf s ph.val).level = .low
        ∧ (phOf s ph.val).crowbar = false ∧ amps - (phOf s ph.val).off < (if (chOf s (phaseRail s ph.val)).drip = .burst then 0 else -256))
          0 (-257) (runs 0))
    ∧ ((fun (rail : ChIx) (s : State) => isRail s rail.val = true ∧ aOn s (Reg.CH_CTRL rail.val) F.CH_CTRL_BAL_EN = true
        ∧ railState s rail.val = .reg ∧ (chOf s rail.val).drip = .run)
          0 (setAs (runs 0) [(Reg.CH_BAL 0, F.CH_BAL_LIM, 20), (Reg.CH_BAL 0, F.CH_BAL_GAIN, 3)]))
    ∧ ((fun (chan : ChIx) (pri alt : Nat) (s : State) => isRail s chan.val = true ∧ running s chan.val = true
        ∧ aOn s (Reg.CH_CTRL chan.val) F.CH_CTRL_ALT_EN = true ∧ aOn s (Reg.CH_CTRL chan.val) F.CH_CTRL_AUTO_SENSE = true
        ∧ 800 < absI ((pri : Int) - alt)
        ∧ (chOf s chan.val).altPair = !decide (absI ((alt : Int) - vtarget16 s chan.val) < absI ((pri : Int) - vtarget16 s chan.val)))
          0 12000 12801 (setAs (chs 0 (fun x => {x with altPair := true}) (runs 0)) [(Reg.CH_VSET 0, F.CH_VSET_VSET, 1000)])) := by
  refine ⟨?_, ?_, ?_, ?_, ?_⟩ <;> decide +kernel

/-- `Obligations.PhaseAddAndShed`. -/
theorem witness_PhaseAddAndShed :
    ((fun (rail : ChIx) (s : State) => ready_PhaseAddAndShed s rail.val
        ∧ aF s (Reg.CH_PHASE2 rail.val) F.CH_PHASE2_ADD_DWELL ≤ (chOf s rail.val).addCnt)
          0 (wrN (setAs ((List.range 6).foldl (fun s p => setPh s p (fun x => {x with active := false, level := .mid})) (runs 0)) [(Reg.CH_PHASE 0, F.CH_PHASE_ADD_THR, 100), (Reg.CH_PHASE2 0, F.CH_PHASE2_ADD_DWELL, 0)]) (Reg.CH_I 0) 450))
    ∧ ((fun (rail : ChIx) (s : State) => ready_PhaseAddAndShed s rail.val
        ∧ aF s (Reg.CH_PHASE2 rail.val) F.CH_PHASE2_SHED_DWELL ≤ (chOf s rail.val).shedCnt)
          0 (setAs (runs 0) [(Reg.CH_PHASE2 0, F.CH_PHASE2_SHED_DWELL, 0), (Reg.CH_PHASE2 0, F.CH_PHASE2_MIN_PH, 2)]))
    ∧ ((fun (rail : ChIx) (s : State) => wideRole s rail.val = 2) 0 (wides 2 1 (runs 0))) := by
  refine ⟨?_, ?_, ?_⟩ <;> decide +kernel

/-- `Obligations.FaultAndLatchResults`: the clauses of stage fault results. -/
theorem witness_StageFaultResults :
    ((fun (ph : PhIx) (mv : Nat) (s : State) => s.top.state ≠ .off ∧ 1450 ≤ mv ∧ phaseRail s ph.val < 8 ∧ (phOf s ph.val).fault = false)
          1 1450 (runs 0))
    ∧ ((fun (ph : PhIx) (mv : Nat) (s : State) => s.top.state ≠ .off ∧ 1450 ≤ mv ∧ 8 ≤ phaseRail s ph.val ∧ (phOf s ph.val).fault = false)
          40 1500 (runs 0))
    ∧ ((fun (quad : QuadIx) (hot : Fin 16) (s : State) => s.top.state ≠ .off ∧ (quadOf s quad.val).sfltActed = false)
          0 5 (setQuad (runs 0) 0 (fun x => {x with senRose := 4999999000})))
    ∧ ((fun (quad : QuadIx) (hot : Fin 16) (s : State) => (quadOf s quad.val).sen = true ∧ (quadOf s quad.val).sfltWindow = true)
          0 5 (setQuad (runs 0) 0 (fun x => {x with sen := true, sfltWindow := true})))
    ∧ ((fun (ph : PhIx) (s : State) => (phOf s ph.val).fault = true ∧ flag s (Reg.PH_FLT ph.val) F.PH_FLT_STAGE_FAULT = false)
          1 (ph [1] (fun x => {x with fault := true, active := false}) (runs 0)))
    ∧ ((fun (ph : PhIx) (mv : Nat) (s : State) => (phOf s ph.val).active = true ∧ (mv < 100 ∨ 1300 < mv)) 1 99 (runs 0)) := by
  refine ⟨?_, ?_, ?_, ?_, ?_, ?_⟩ <;> decide +kernel

/-- `Obligations.DripAndWidenedRailResults`: the clauses of drip mode results. -/
theorem witness_DripModeResults :
    ((fun (rail : ChIx) (s : State) => isRail s rail.val = true ∧ railState s rail.val = .reg ∧ (chOf s rail.val).drip = .run
        ∧ aOn s (Reg.CH_CTRL rail.val) F.CH_CTRL_DRIP_EN = true ∧ wideRole s rail.val = 0 ∧ removalOn s rail.val = false
        ∧ boosting s rail.val = false ∧ railI s rail.val < (aF s (Reg.CH_DRIP rail.val) F.CH_DRIP_ENTRY_I : Nat) ∧ assigned s rail.val ≠ [])
          0 (setAs (runs 0) [(Reg.CH_DRIP 0, F.CH_DRIP_ENTRY_I, 50)]))
    ∧ ((fun (rail : ChIx) (mv : Nat) (s : State) => (chOf s rail.val).drip = .burst
        ∧ vtarget16 s rail.val + (aF s (Reg.CH_DRIP2 rail.val) F.CH_DRIP2_BAND_HI * 4 : Nat) ≤ mv)
          0 30000 (chs 0 (fun x => {x with drip := .burst, dripPhase := 2}) (runs 0)))
    ∧ ((fun (rail : ChIx) (mv : Nat) (s : State) => (chOf s rail.val).drip = .sleep
        ∧ (mv : Int) ≤ vtarget16 s rail.val - (aF s (Reg.CH_DRIP2 rail.val) F.CH_DRIP2_BAND_LO * 4 : Nat))
          0 100 (setAs (setCh (runs 0) 0 (fun x => {x with drip := .sleep, dripPhase := 1, vref := 800000000})) [(Reg.CH_VSET 0, F.CH_VSET_VSET, 3000), (Reg.PROT_OV 0, F.PROT_OV_LIMIT, 1000)]))
    ∧ ((fun (rail : ChIx) (s : State) => (chOf s rail.val).drip = .burst
        ∧ aF s (Reg.CH_DRIP2 rail.val) F.CH_DRIP2_BURST_MAX ≤ (chOf s rail.val).burstPer)
          0 (setAs (chs 0 (fun x => {x with drip := .burst, dripPhase := 2, burstPer := 5}) (runs 0)) [(Reg.CH_DRIP2 0, F.CH_DRIP2_BURST_MAX, 5)])) := by
  refine ⟨?_, ?_, ?_, ?_⟩ <;> decide +kernel

/-- `Obligations.DripAndWidenedRailResults`: the clauses of widened rail results. -/
theorem witness_WidenedRailResults :
    ((fun (rail : ChIx) (pos : Fin 4) (s : State) => wideRole s rail.val = 1 ∧ (chOf s rail.val).memberAct.any (fun p => p.1 == pos.val) = true)
          0 1 (setCh (wides 1 0 (runs 0)) 0 (fun x => {x with memberAct := [(1,4)]})))
    ∧ ((fun (chan : ChIx) (s : State) => let r := railOf s chan.val; wideRole s chan.val = 2 ∧ running s r = true ∧ (chOf s r).wideLoss = false
        ∧ r < 8) 0 (wides 2 1 (runs 0)))
    ∧ ((fun (chan : ChIx) (duty : Fin 262144) (n : Fin 128) (boost regok : Bool) (s : State) => let r := railOf s chan.val;
        wideRole s chan.val = 2 ∧ switching s r = true ∧ (chOf s r).wideLoss = false ∧ s.tvl.wideDown.contains (widePos s chan.val + 6) = false)
          0 500 5 true false (wides 2 1 (runs 0)))
    ∧ ((fun (chan : ChIx) (pos : Fin 4) (amps : Int) (s : State) => let r := railOf s chan.val; wideRole s chan.val = 1
        ∧ (memberPos s r).contains pos.val = true ∧ s.tvl.wideDown.contains (pos.val + 6) = false)
          0 1 77 (chs 0 (fun x => {x with memberAct := [(1,4)]}) (wides 1 0 (runs 0)))) := by
  refine ⟨?_, ?_, ?_, ?_⟩ <;> decide +kernel

/-- `Obligations.ProtectionResults`: the clauses of rail protection results. -/
theorem witness_RailProtectionResults :
    ((fun (ph : PhIx) (amps : Int) (s : State) => phaseRail s ph.val < 8 ∧ (phOf s ph.val).level = .high ∧ (phOf s ph.val).crowbar = false
        ∧ amps - (phOf s ph.val).off > (aF s (Reg.PROT_IPK (phaseRail s ph.val)) F.PROT_IPK_IPK * 8 : Nat))
          0 3000 (ph [0] (fun x => {x with level := .high}) (runs 0)))
    ∧ ((fun (ph : PhIx) (s : State) => let r := phaseRail s ph.val; r < 8 ∧ aF s (Reg.PROT_IPK r) F.PROT_IPK_SHORT_CNT ≤ (phOf s ph.val).shortCnt
        ∧ latchBit s 0 r = false ∧ running s r = true) 1 (setPh (runs 0) 1 (fun x => {x with shortCnt := 63})))
    ∧ ((fun (rail : ChIx) (s : State) => isRail s rail.val = true ∧ aOn s (Reg.PROT_OL rail.val) F.PROT_OL_OL_EN = true ∧ switching s rail.val = true)
          0 (setAs (chs 0 (fun x => {x with olSum := 90000, olNum := 100}) (runs 0)) [(Reg.PROT_OL 0, F.PROT_OL_OL_EN, 1), (Reg.PROT_OL 0, F.PROT_OL_OL_LIMIT, 100), (Reg.PROT_OL2 0, F.PROT_OL2_WINDOW, 1)]))
    ∧ ((fun (rail : ChIx) (s : State) => isRail s rail.val = true ∧ (chOf s rail.val).olRun = true)
          0 (chs 0 (fun x => {x with olRun := true}) (runs 0)))
    ∧ ((fun (chan : ChIx) (mv : Nat) (s : State) => let r := railOf s chan.val; s.top.state ≠ .off ∧ s.top.state ≠ .decaf ∧ r < 8
        ∧ (aF s (Reg.PROT_OV r) F.PROT_OV_LIMIT * 80 < mv ∨ strapCeiling s * 16 < mv) ∧ latchBit s 0 r = false) 0 65000 (runs 0)) := by
  refine ⟨?_, ?_, ?_, ?_, ?_⟩ <;> decide +kernel

/-- `Obligations.ProtectionResults`: the clauses of thermal protection results. -/
theorem witness_ThermalProtectionResults :
    ((fun (src : TripSource) (v : Int) (s : State) => ((s.top.state = .off → s.top.porHeld = false))
        ∧ ((∀ d, src = .wire d → s.top.state = .decaf ∨ dieHere s d.val = true))
        ∧ ((src = .report → (aF s Reg.PROT_THERM F.PROT_THERM_CRIT : Int) < v))) .pin 0 (runs 0))
    ∧ ((fun (ph : PhIx) (v : Int) (s : State) => phaseRail s ph.val < 8 ∧ (aF s Reg.PROT_THERM F.PROT_THERM_STAGE_TLIM : Int) < v
        ∧ (phOf s ph.val).fault = false) 1 3000 (runs 0)) := by
  refine ⟨?_, ?_⟩ <;> decide +kernel

/-- `Obligations.SupplyLadderResults`: the clauses of supply ladder reports. -/
theorem witness_SupplyLadderReports :
    ((fun (sup : Supply) (mv ago : Nat) (s : State) => s.top.porHeld = false ∧ supActs s sup = true ∧ mv < supWarn s sup
        ∧ flag s Reg.LAD_STATUS (warnBit sup) = false) .vin 1 5 (runs 0))
    ∧ ((fun (sup : Supply) (mv : Nat) (s : State) => flag s Reg.LAD_STATUS (warnBit sup) = true ∧ supWarn s sup + supHyst s sup < mv)
          .vin 100000 (setF (runs 0) Reg.LAD_STATUS F.LAD_STATUS_VIN_WARN 1))
    ∧ ((fun (mv : Nat) (s : State) => s.top.porHeld = false ∧ aF s Reg.LAD_VIN_HI F.LAD_VIN_HI_HI * 100 < mv) 100000 (runs 0))
    ∧ ((fun (mv : Nat) (s : State) => mv ≤ aF s Reg.LAD_VIN_HI F.LAD_VIN_HI_HI * 100 - supHyst s .vin)
          0 (setF (runs 0) Reg.LAD_STATUS F.LAD_STATUS_VIN_HI 1))
    ∧ ((fun (mv done : Nat) (x : TailSt) (s : State) => mv < 4000 ∧ s.nvs.tail = some x)
          3999 1 (⟨16,5,[{cls := 5},{cls := 6}]⟩) (let s := runs 0; {s with nvs := {s.nvs with tail := some ⟨16,5,[{cls := 5},{cls := 6}]⟩}}))
    ∧ ((fun (mv : Nat) (s : State) => s.top.porHeld = false ∧ mv < 9000 ∧ flag s Reg.TOP_SUPPLY F.TOP_SUPPLY_VHOLD_OK = true) 8999 (runs 0))
    ∧ ((fun (sup : Supply) (mv : Nat) (s : State) => s.top.porHeld = false ∧ supActs s sup = true ∧ mv < supRst s sup)
          .vin 0 (setAs (runs 0) [(Reg.LAD_VIN_CFG, F.LAD_VIN_CFG_RST, 5)])) := by
  refine ⟨?_, ?_, ?_, ?_, ?_, ?_, ?_⟩ <;> decide +kernel

/-- `Obligations.SupplyLadderResults`: the clauses of brownout results. -/
theorem witness_BrownoutResults :
    ((fun (sup : Supply) (mv : Nat) (s : State) => s.top.porHeld = false ∧ s.top.state ≠ .brownout ∧ supActs s sup = true ∧ mv < supRst s sup
        ∧ flag s Reg.LAD_STATUS (causeBit sup) = false) .vin 0 (setAs (runs 0) [(Reg.LAD_VIN_CFG, F.LAD_VIN_CFG_RST, 5)]))
    ∧ ((fun (vin vaux : Nat) (s : State) => s.top.porHeld = false ∧ s.top.state = .brownout ∧ supRecovered s .vin vin = true
        ∧ supRecovered s .vaux vaux = true ∧ s.top.dis = [] ∧ s.top.brown.entered ≠ .off ∧ s.top.brown.vauxFell = false
        ∧ s.top.brown.devResetLost = false ∧ flag s Reg.TOP_START_CFG F.TOP_START_CFG_AUTO = false)
          90000 90000 (let s := stt .brownout (loaded 0); {s with top := {s.top with brown := {s.top.brown with entered := .loaded}}})) := by
  refine ⟨?_, ?_⟩ <;> decide +kernel

/-- `Obligations.FaultAndLatchResults`: the clauses of latch clear results. -/
theorem witness_LatchClearResults :
    ((fun (who : Initiator) (b : Fin 24) (pairs : List (ChIx × Nat)) (tripIn : Bool) (s : State) =>
        admits s who Reg.PROT_CH_LATCH (2 ^ b.val) = true ∧ bitOf (rd s Reg.PROT_CH_LATCH).toNat b.val = true)
          (.host 0) 3 ([]) true (wrN (runs 0) Reg.PROT_CH_LATCH 0x08))
    ∧ ((fun (who : Initiator) (b : Fin 6) (tripIn : Bool) (s : State) => admits s who Reg.PROT_THERM_LATCH (2 ^ b.val) = true
        ∧ bitOf (rd s Reg.PROT_THERM_LATCH).toNat b.val = true) (.host 0) 1 true (wrN (stt .halt (loaded 0)) Reg.PROT_THERM_LATCH 0x02)) := by
  refine ⟨?_, ?_⟩ <;> decide +kernel

/-- `Obligations.DroopPathResults`. -/
theorem witness_DroopPathResults :
    ((fun (die : DieIx) (s : State) => (dieOf s die.val).droop = false) 0 (setAs (runs 0) [(Reg.PB_BOOST 0, F.PB_BOOST_BOOST_EN, 1)]))
    ∧ ((fun (rail : ChIx) (t0 : Nat) (s : State) => (boostOf s rail.val).boost = some t0)
          0 4999999000 (setBoost (runs 0) 0 (fun x => {x with boost := some 4999999000})))
    ∧ ((fun (rail : ChIx) (t0 : Nat) (s : State) => (boostOf s rail.val).gapUntil = some t0)
          0 5000000000 (setBoost (runs 0) 0 (fun x => {x with gapUntil := some 5000000000})))
    ∧ ((fun (rail : ChIx) (t0 : Nat) (s : State) => (boostOf s rail.val).settleFrom = some t0 ∧ (boostOf s rail.val).frozen = true
        ∧ boosting s rail.val = false ∧ droopFlag s rail.val = false)
          0 4999999000 (setBoost (runs 0) 0 (fun x => {x with frozen := true, settleFrom := some 4999999000})))
    ∧ ((fun (die : DieIx) (s : State) => (dieOf s die.val).droop = true ∧ (dieOf s die.val).stuck = false)
          0 (setDie (setBoost (runs 0) 0 (fun x => {x with frozen := true, boost := some 4999999000})) 0 (fun x => {x with droop := true})))
    ∧ ((fun (who : Initiator) (val : Word) (s : State) => admits s who Reg.PB_MIN_ARM val.toNat = true)
          (.host 0) 0xFFFFFFFF (setFs (runs 0) [(Reg.PB_SMIN 0 1, ⟨0,32⟩, 77), (Reg.PB_CHMIN 1, ⟨0,32⟩, 77)])) := by
  refine ⟨?_, ?_, ?_, ?_, ?_, ?_⟩ <;> decide +kernel

/-- `Obligations.PostlineResults`: the clauses of postline report results. -/
theorem witness_PostlineReportResults :
    ((fun (die : DieIx) (seq : Fin 64) (part : PartIx) (n : Fin 2048) (stamp : BitVec 24) (s : State) => fresh_PostlineReportResults s die seq
        ∧ partHere s part.val = true ∧ partDie s part.val = die.val) 0 0 1 500 0x123 (setPart (runs 0) 1 (fun x => {x with sent := some 500})))
    ∧ ((fun (die : DieIx) (seq : Fin 64) (site : SiteIx) (v : BitVec 16) (stamp : BitVec 24) (s : State) => fresh_PostlineReportResults s die seq
        ∧ siteHere s die.val site.val = true) 0 0 1 0x5000 0x123 (runs 0))
    ∧ ((fun (die : DieIx) (seq : Fin 64) (index : Fin 256) (addr : Fin 64) (c : PendCfg) (s : State) => fresh_PostlineReportResults s die seq
        ∧ (dieOf s die.val).cfgs = [c] ∧ c.index = index.val ∧ c.addr = addr.val)
          0 0 1 3 (⟨1,3,7⟩) (setDie (runs 0) 0 (fun x => {x with cfgs := [⟨1,3,7⟩]})))
    ∧ ((fun (die : DieIx) (seq : Fin 64) (site : SiteIx) (s : State) => fresh_PostlineReportResults s die seq) 0 0 1 (runs 0))
    ∧ ((fun (die : DieIx) (site : SiteIx) (v : BitVec 16) (stamp : BitVec 24) (s : State) => dieUp s die.val = true) 0 1 0x0500 0x123 (runs 0))
    ∧ ((fun (die : DieIx) (site : SiteIx) (extra : BitVec 20) (events : BitVec 12) (s : State) => let p := sitePartF (framesOf s) die.val site.val;
        dieUp s die.val = true ∧ siteHere s die.val site.val = true ∧ acctOn s p = true ∧ 0 < (partSitesF (framesOf s) p).length)
          0 1 0x500 3 (runs 0))
    ∧ ((fun (die : DieIx) (site : SiteIx) (e : BitVec 40) (s : State) => let p := sitePartF (framesOf s) die.val site.val; dieUp s die.val = true
        ∧ siteHere s die.val site.val = true ∧ partHere s p = true) 0 1 0x500 (runs 0)) := by
  refine ⟨?_, ?_, ?_, ?_, ?_, ?_, ?_⟩ <;> decide +kernel

/-- `Obligations.PostlineResults`: the clauses of postline link results. -/
theorem witness_PostlineLinkResults :
    ((fun (die : DieIx) (lDown lUp : Fin 4096) (s : State) => s.top.state ≠ .off) 0 10 12 (runs 0))
    ∧ ((fun (die : DieIx) (lock : Bool) (s : State) => dieUp s die.val = true) 0 true (runs 0))
    ∧ ((fun (die : DieIx) (s : State) => dieUp s die.val = true) 0 (runs 0))
    ∧ ((fun (die : DieIx) (s : State) => (dieOf s die.val).link = .fallback)
          0 (setDie (runs 0) 0 (fun x => {x with link := .fallback, safe := true})))
    ∧ ((fun (d : DieIx) (s : State) => dieUp s d.val = true) 1 (runs 0))
    ∧ ((fun (part : PartIx) (n : Nat) (s : State) => (partOf s part.val).sent = some n)
          0 200 (setPart (runs 0) 0 (fun x => {x with sent := some 200, tries := 1})))
    ∧ ((fun (die : DieIx) (index : Fin 256) (addr : Fin 64) (s : State) => (dieOf s die.val).cfgs.any (fun c =>
        c.index == index.val && c.addr == addr.val) = true ∧ dieUp s die.val = true) 0 1 3 (setDie (runs 0) 0 (fun x => {x with cfgs := [⟨1,3,7⟩]}))) := by
  refine ⟨?_, ?_, ?_, ?_, ?_, ?_, ?_⟩ <;> decide +kernel

/-- `Obligations.EstimatorAndCalibrationResults`: the clauses of estimator results. -/
theorem witness_EstimatorResults :
    ((fun (die : DieIx) (site : SiteIx) (v : BitVec 16) (stamp : BitVec 24) (s : State) => dieUp s die.val = true) 0 1 0x0500 0x123 (runs 0))
    ∧ ((fun (s : State) => s.est.run = true) (runs 0))
    ∧ ((fun (region : Fin 128) (s : State) => s.est.run = true ∧ region.val ∈ regions s ∧ (regionOf s region.val).ncr = false) 0 (runs 0)) := by
  refine ⟨?_, ?_, ?_⟩ <;> decide +kernel

/-- `Obligations.EstimatorAndCalibrationResults`: the clauses of calibration results. -/
theorem witness_CalibrationResults :
    ((fun (rail : ChIx) (p : Nat) (s : State) => isRail s rail.val = true ∧ aOn s (Reg.CH_CAL rail.val) F.CH_CAL_CAL_EN = true
        ∧ switching s rail.val = true ∧ (calOf s rail.val).reading = false ∧ calPhase s rail.val = some p)
          0 0 (setAs (runs 0) [(Reg.CH_CAL 0, F.CH_CAL_CAL_EN, 1)]))
    ∧ ((fun (rail : ChIx) (z : Int) (flat : Bool) (p : Nat) (s : State) => (calOf s rail.val).reading = true ∧ (calOf s rail.val).visit = some p
        ∧ p < 64) 0 12 false 1 (setCal (runs 0) 0 (fun x => {x with reading := true, visit := some 1}))) := by
  refine ⟨?_, ?_⟩ <;> decide +kernel

/-- `Obligations.CappingAndAccountingResults`: the clauses of divider target results. -/
theorem witness_DividerTargetResults :
    ((fun (p : Nat) (s : State) => (parts s).filter (acctOn s) = [p]) 2 (setCh (runs 0) 0 (fun x => { x with state := .off })))
    ∧ ((fun (part : PartIx) (s : State) => stepUpOk s part.val = true ∧ curN s part.val < (partOf s part.val).nTgt)
          2 (setPart (setCh (runs 0) 1 (fun x => {x with vref := setpoint (runs 0) 1})) 2 (fun x => {x with nTgt := 200, nCur := 100})))
    ∧ ((fun (part : PartIx) (tick : Nat) (v s : State) => tickView s part.val = some (tick, v) ∧ acctOn s part.val = true
        ∧ capTarget v part.val ≠ (partOf s part.val).nTgt ∧ (partOf s part.val).tickAt ≠ some tick ∧ dieUp s (partDie s part.val) = true)
          0 9000000000 (wrAc (ct (runs 0)) (Reg.CAP_GCEIL 0) (putFld (ac (runs 0) (Reg.CAP_GCEIL 0)) F.CAP_GCEIL_N 90)) (ct (runs 0))) := by
  refine ⟨?_, ?_, ?_⟩ <;> decide +kernel

/-- `Obligations.CappingAndAccountingResults`: the clauses of capping loop results. -/
theorem witness_CappingLoopResults :
    ((fun (p : Nat) (s : State) => p ∈ parts s) 0 (runs 0))
    ∧ ((fun (part : PartIx) (s : State) => (capOf s part.val).guard = true ∧ (capOf s part.val).coolFrom.isSome = true
        ∧ (dieOf s (partDie s part.val)).tempStale = false
        ∧ ((∀ i ∈ partSitesF (framesOf s) part.val, sext 16 (fld s (Reg.PB_SITE (i / 64) (i % 64)) F.PB_SITE_TEMP) ≤ (aF s Reg.PROT_THERM F.PROT_THERM_CRIT : Int) - (aF s (Reg.CAP_THM_CFG part.val) F.CAP_THM_CFG_TGUARD * 16 : Nat) - 80)))
          0 (setCap (runs 0) 0 (fun x => {x with guard := true, coolFrom := some 4000000000}))) := by
  refine ⟨?_, ?_⟩ <;> decide +kernel

/-- `Obligations.CappingAndAccountingResults`: the clauses of accounting results. -/
theorem witness_AccountingResults :
    ((fun (inst : Fin 96) (s : State) => instPinned s inst.val = true ∧ tabGet 0 s.cap.pinFrom inst.val ≠ 0 ∧ inst.val ∉ s.cap.said)
          8 (let s := setAs (runs 0) [(Reg.CH_PHASE2 0, F.CH_PHASE2_MIN_PH, (activePh (runs 0) 0).length), (Reg.CH_PHASE 0, F.CH_PHASE_SHED_THR, 2000), (Reg.CH_CTRL 0, F.CH_CTRL_SHED_EN, 1)]; {s with cap := {s.cap with pinFrom := [(8, 4000000000)]}}))
    ∧ ((fun (who : Initiator) (slot : Fin 4) (val : Word) (s : State) => admits s who (Reg.CAP_SNAP_CTL slot.val) val.toNat = true
        ∧ fldOf val F.CAP_SNAP_CTL_GO = 1) (.host 0) 1 1 (runs 0)) := by
  refine ⟨?_, ?_⟩ <;> decide +kernel

/-- `Obligations.IntentAndRampResults`: the clauses of intent results. -/
theorem witness_IntentResults :
    ((fun (die : DieIx) (seq : Fin 64) (queue : QueueIx) (cls : Fin 16) (part : PartIx) (tag : Fin 4096) (dur : Fin 2048) (s : State) =>
        let d := die.val; let q := queue.val; dieUp s d = true ∧ seq.val = (dieOf s d).rxSeq ∧ (queueOf s q).fseq < 16) 0 0 0 1 0 7 20 (hv (runs 0)))
    ∧ ((fun (die : DieIx) (seq : Fin 64) (queue : QueueIx) (all : Bool) (part : PartIx) (lead : Fin 4096) (s : State) => dieUp s die.val = true
        ∧ seq.val = (dieOf s die.val).rxSeq) 0 0 0 true 0 100 (runs 0))
    ∧ ((fun (die : DieIx) (seq : Fin 64) (queue : QueueIx) (s : State) => dieUp s die.val = true ∧ seq.val = (dieOf s die.val).rxSeq) 0 0 0 (runs 0)) := by
  refine ⟨?_, ?_, ?_⟩ <;> decide +kernel

/-- `Obligations.FrankingResults`. -/
theorem witness_FrankingResults :
    ((fun (who : Initiator) (val : Word) (s : State) => admits s who Reg.FQ_GRANT val.toNat = true ∧ fldOf val F.FQ_GRANT_GO = 1)
          (.core 1) 0x100 (qd (runs 0)))
    ∧ ((fun (who : Initiator) (val : Word) (s : State) => admits s who Reg.FQ_SCHED_HB val.toNat = true) (.core 1) 0x46515331 (runs 0))
    ∧ ((fun (queue : QueueIx) (s : State) => s.fq.fixed = true ∧ heavyHead_FrankingResults s queue.val ∧ queue.val ∉ s.fq.armed
        ∧ s.fq.armed.length < 8) 0 ({qd (runs 0) with fq := {(qd (runs 0)).fq with fixed := true}}))
    ∧ ((fun (s : State) => ((∀ q ∈ grantOrder s, (headOf s q).any (gatesPass (nextCycle_FrankingResults s)) = false))) (qd (runs 0)))
    ∧ ((fun (q : Nat) (l : List Nat) (i : Intent) (s : State) => grantOrder s = q :: l ∧ headOf s q = some i ∧ i.forced = false
        ∧ gatesPass (nextCycle_FrankingResults s) i = true)
          0 ([]) ({cls := 1, part := 0, tag := 5, dur := 9, at_ := 4999990000}) ({qd (runs 0) with fq := {(qd (runs 0)).fq with armed := [0]}}))
    ∧ ((fun (queue : QueueIx) (k : FrankSt) (l : List FrankSt) (s : State) => s.fq.franks = k :: l ∧ k.queue = queue.val ∧ k.sent = false
        ∧ k.waitFack = false ∧ dieUp s (queueDie s queue.val) = true)
          0 (⟨0,0,1,5,9,0,4999990000,5000001000,false,false,false,0,0⟩) ([]) ({runs 0 with fq := {(runs 0).fq with franks := [⟨0,0,1,5,9,0,4999990000,5000001000,false,false,false,0,0⟩]}}))
    ∧ ((fun (queue : QueueIx) (k : FrankSt) (l : List FrankSt) (s : State) => s.fq.franks = k :: l ∧ k.queue = queue.val ∧ k.sent = true
        ∧ k.launched = false ∧ heavyClass s k.cls = true ∧ k.kind ≠ 1)
          0 (⟨0,0,1,5,9,0,4999990000,5000001000,false,true,false,0,0⟩) ([]) ({hv (runs 0) with fq := {(runs 0).fq with franks := [⟨0,0,1,5,9,0,4999990000,5000001000,false,true,false,0,0⟩]}}))
    ∧ ((fun (queue : QueueIx) (i : Intent) (l : List Intent) (s : State) => (queueOf s queue.val).items = i :: l ∧ i.forced = false)
          0 ({cls := 1, part := 0, tag := 5, dur := 9, at_ := 4999990000}) ([]) (qd (runs 0)))
    ∧ ((fun (part : PartIx) (s : State) => ((∀ c ∈ s.fq.ceils, c.part = part.val → c.until_.any (fun u => decide (u ≤ now s)) = true)))
          0 ({runs 0 with fq := {(runs 0).fq with ceils := [⟨0,0,some 4000000000⟩, ⟨1,0,none⟩]}}))
    ∧ ((fun (die : DieIx) (queue : QueueIx) (value : BitVec 24) (s : State) => (portOf s die.val).trained = true) 0 0 5 (runs 0)) :=
  ⟨by decide +kernel, by decide +kernel, ⟨by decide +kernel, ⟨_, _, rfl, by decide +kernel, by decide +kernel⟩, by decide +kernel,
   by decide +kernel⟩, by decide +kernel, by decide +kernel, by decide +kernel, by decide +kernel, by decide +kernel, by decide +kernel,
   by decide +kernel⟩

/-- `Obligations.IntentAndRampResults`: the clauses of ramp and ballast results. -/
theorem witness_RampAndBallastResults :
    ((fun (part : PartIx) (s : State) => (s.fq.hints.any (fun h => h.part == part.val)) = true ∧ balElig s part.val = true
        ∧ s.fq.released = false ∧ (balOf s part.val).lastLaunch = none) 0 ({bl (runs 0) with fq := {(runs 0).fq with hints := [⟨0,0⟩]}}))
    ∧ ((fun (die : DieIx) (site : SiteIx) (s : State) => siteHere s die.val site.val = true) 0 1 (runs 0)) := by
  refine ⟨?_, ?_⟩ <;> decide +kernel

/-- `Obligations.LaneTrainingResults`. -/
theorem witness_LaneTrainingResults :
    ((fun (lane : LaneIx) (s : State) => (laneOf s lane.val).state = .detect) 0 (ln 0 (fun x => {x with state := .detect}) (runs 0)))
    ∧ ((fun (lane : LaneIx) (s : State) => (laneOf s lane.val).state = .eq) 0 (ln 0 (fun x => {x with state := .eq}) (runs 0)))
    ∧ ((fun (lane : LaneIx) (s : State) => (laneOf s lane.val).state = .lock) 0 (ln 0 (fun x => {x with state := .lock}) (runs 0)))
    ∧ ((fun (lane : LaneIx) (s : State) => (laneOf s lane.val).state ∈ [.detect, .eq, .lock, .ident])
          0 (ln 0 (fun x => {x with state := .lock}) (runs 0)))
    ∧ ((fun (lane : LaneIx) (s : State) => (laneOf s lane.val).state = .wait) 0 (ln 0 (fun x => {x with state := .wait}) (runs 0)))
    ∧ ((fun (lane : LaneIx) (s : State) (crc8 : Bool) => (laneOf s lane.val).state ≠ .disabled) 0 (lup 0) true)
    ∧ ((fun (lane : LaneIx) (role node peerLane cp tag lat : Nat) (s : State) => (laneOf s lane.val).state = .ident)
          0 1 1 0 0 0 50 (ln 0 (fun x => {x with state := .ident}) (runs 0)))
    ∧ ((fun (lane : LaneIx) (clkLost : Bool) (s : State) => laneUp s lane.val = true) 0 true (lup 0)) := by
  refine ⟨?_, ?_, ?_, ?_, ?_, ?_, ?_, ?_⟩ <;> decide +kernel

/-- `Obligations.LinkFlowResults`. -/
theorem witness_LinkFlowResults :
    ((fun (lane : LaneIx) (c0 : Fin 8) (c1 c2 c3 : Fin 256) (s : State) => laneUp s lane.val = true) 0 1 2 3 4 (lup 0))
    ∧ ((fun (lane : LaneIx) (cls : Fin 4) (lseq : Fin 4096) (a b : List RFrame) (r : RFrame) (s : State) => laneUp s lane.val = true
        ∧ cls.val ≠ 0 ∧ (lclsOf s lane.val cls.val).replay = a ++ r :: b ∧ r.lseq = lseq.val ∧ ((∀ k ∈ a, k.lseq ≠ lseq.val)))
          0 2 5 ([rf 4]) ([rf 6]) (rf 5) (lc 0 2 (fun x => {x with replay := [rf 4, rf 5, rf 6]}) (lup 0)))
    ∧ ((fun (lane : LaneIx) (cls : Fin 4) (b : List RFrame) (r : RFrame) (s : State) => (lclsOf s lane.val cls.val).replay = r :: b
        ∧ (lclsOf s lane.val cls.val).resend = [] ∧ (lclsOf s lane.val cls.val).tries < aF s (Reg.TVL_CFG lane.val) F.TVL_CFG_REPLAY_MAX)
          0 2 ([rf 6]) (rf 5) (lc 0 2 (fun x => {x with replay := [rf 5, rf 6]}) (setA (lup 0) (Reg.TVL_CFG 0) F.TVL_CFG_REPLAY_MAX 3)))
    ∧ ((fun (lane : LaneIx) (cls : Fin 4) (q : QFrame) (l : List QFrame) (s : State) => (lclsOf s lane.val cls.val).out = q :: l
        ∧ laneUp s lane.val = true ∧ creditLimit cls.val < (lclsOf s lane.val cls.val).used + frameUnits q.frame)
          0 2 qf ([qf]) (lc 0 2 (fun x => {x with used := 128, out := [qf, qf]}) (lup 0)))
    ∧ ((fun (lane : LaneIx) (s : State) => laneUp s lane.val = true) 6 (lup 0)) := by
  refine ⟨?_, ?_, ?_, ?_, ?_⟩ <;> decide +kernel

/-- `Obligations.FrameAndReductionResults`: the clauses of frame reception results. -/
theorem witness_FrameReceptionResults :
    ((fun (lane : LaneIx) (lseq : Fin 4096) (crcOk : Bool) (f : Frame) (s : State) => let x := lclsOf s lane.val f.cls; laneUp s lane.val = true
        ∧ 1 ≤ f.cls ∧ f.cls ≤ 3 ∧ x.rxSeq < 4096) 0 0 false fr1 (lup 0))
    ∧ ((fun (lane : LaneIx) (lseq : Fin 4096) (f : Frame) (s : State) => laneUp s lane.val = true ∧ f.scope = 2 ∧ frameLen f ≤ 2064
        ∧ lseq.val = (lclsOf s lane.val 2).rxSeq) 0 0 fr1 (lup 0))
    ∧ ((fun (lane : LaneIx) (lseq : Fin 4096) (f : Frame) (s : State) => laneUp s lane.val = true ∧ f.scope = 2 ∧ frameLen f ≤ 2064
        ∧ lseq.val = (lclsOf s lane.val 3).rxSeq) 0 0 fr1 (lup 0)) := by
  refine ⟨?_, ?_, ?_⟩ <;> decide +kernel

/-- `Obligations.FrameAndReductionResults`: the clauses of reduction results. -/
theorem witness_ReductionResults :
    ((fun (rid : Fin (2 ^ 32)) (op : Fin 4) (part : Bool) (contrib : Nat) (elems : List Int) (s : State) => ((∀ r ∈ s.tvl.red, r.rid ≠ rid.val))
        ∧ rid.val ∉ s.tvl.redDone ∧ s.tvl.red.length < 4 ∧ belowUp s ≠ []) 7 0 false 1 ([1,2,3]) (lup 0))
    ∧ ((fun (l : LaneIx) (rid : Fin (2 ^ 32)) (op : Fin 4) (part : Bool) (contrib : Nat) (elems : List Int) (r : RedSt) (s : State) =>
        l.val ∈ belowUp s ∧ s.tvl.red = [r] ∧ r.rid = rid.val) 0 7 0 false 1 ([5,6]) rd1 (tvl (fun x => {x with red := [rd1]}) (lup 0)))
    ∧ ((fun (l : LaneIx) (rid : Fin (2 ^ 32)) (op : Fin 4) (part : Bool) (contrib : Nat) (elems : List Int) (s : State) => l.val ∈ belowUp s
        ∧ ((∀ r ∈ s.tvl.red, r.rid ≠ rid.val)) ∧ rid.val ∈ s.tvl.redDone) 0 7 0 false 1 ([5,6]) (tvl (fun x => {x with redDone := [7]}) (lup 0)))
    ∧ ((fun (rid : Fin (2 ^ 32)) (r : RedSt) (s : State) => s.tvl.red.find? (fun x => x.rid == rid.val) = some r)
          7 rd1 (tvl (fun x => {x with red := [rd1]}) (lup 0)))
    ∧ ((fun (who : Initiator) (q : Fin 8) (e : DlqEntry) (l : List DlqEntry) (s : State) => canRead s who = true ∧ (dlqOf s q.val).items = e :: l)
          (.host 0) 0 (⟨1,2,3,4,5,6,0x700000000⟩) ([]) (tvl (fun x => {x with dlq := [(0, {items := [⟨1,2,3,4,5,6,0x700000000⟩]})]}) (lup 0))) := by
  refine ⟨?_, ?_, ?_, ?_, ?_⟩ <;> decide +kernel

/-- `Obligations.LaneTrainingResults`: the clauses of sync and boost block results. -/
theorem witness_SyncAndBoostBlockResults :
    ((fun (lane : LaneIx) (xid t1 t2 : Nat) (s : State) => upLane s = some lane.val ∧ laneUp s lane.val = true) 0 5 6 7 (lup 1))
    ∧ ((fun (lane : LaneIx) (xid t4 : Nat) (s : State) => lane.val ∈ belowUp s) 0 5 6 (lup 0))
    ∧ ((fun (lane : LaneIx) (rail : ChIx) (s : State) => takesBoost s lane.val rail.val = true ∧ boosting s rail.val = false) 6 0 (wides 2 0 (lup 0)))
    ∧ ((fun (lane : LaneIx) (rail : ChIx) (s : State) => takesBoost s lane.val rail.val = true ∧ boosting s rail.val = true)
          6 0 (setBoost (wides 2 0 (lup 0)) 0 (fun x => {x with boost := some 4999999000}))) := by
  refine ⟨?_, ?_, ?_, ?_⟩ <;> decide +kernel

/-- `Obligations.CellAndLockGroupResults`: the clauses of cell results. -/
theorem witness_CellResults :
    ((fun (lane : LaneIx) (scope : Fin 4) (node : Fin 1024) (payload : BitVec 36) (s : State) => let g := payload.toNat % 64;
        arrives_CellResults s lane { ctype := 1, scope := scope.val, node := node.val, payload := payload.toNat } ∧ groupParts s g ≠ [])
          0 1 2 (5 + 64 * 30) (lup 0))
    ∧ ((fun (group : Fin 64) (s : State) => tabGet 0 s.dom.holds group.val ≠ 0) 5 (dom (fun x => {x with holds := [(5,5000000000)]}) (lup 0)))
    ∧ ((fun (lane : LaneIx) (scope : Fin 4) (node : Fin 1024) (payload : BitVec 36) (T : Nat) (s : State) => let g := payload.toNat % 64;
        arrives_CellResults s lane { ctype := 2, scope := scope.val, node := node.val, payload := payload.toNat } ∧ groupParts s g ≠ []
        ∧ T % 10 = 0 ∧ T / 10 % 8192 = payload.toNat / 2 ^ 21 % 8192 ∧ now s + 1000 ≤ T ∧ T < now s + 80920
        ∧ (s.dom.commits.filter (fun x => x.group == g)).length < 4) 0 1 2 (5 + 64 * 30 + 2^17*3 + 2^21*(500000500 % 8192)) 5000005000 (lup 0))
    ∧ ((fun (lane : LaneIx) (scope : Fin 4) (node : Fin 1024) (payload : BitVec 36) (s : State) =>
        arrives_CellResults s lane { ctype := 3, scope := scope.val, node := node.val, payload := payload.toNat }) 0 1 2 5 (dmn 0 .master))
    ∧ ((fun (lane : LaneIx) (node : Fin 1024) (payload : BitVec 36) (s : State) => let r := payload.toNat % 8;
        arrives_CellResults s lane { ctype := 4, scope := 3, node := node.val, payload := payload.toNat } ∧ 6 ≤ lane.val ∧ isRail s r = true
        ∧ wideRole s r = 2 ∧ widePos s r = lane.val - 6) 6 2 0 (ln 6 (fun x => {x with state := .up}) (wides 2 0 (runs 0))))
    ∧ ((fun (rail : ChIx) (s : State) => (boostOf s rail.val).memberFrz = true ∧ 0 < tabGet 0 s.dom.droopHold rail.val)
          0 (dom (fun x => {x with droopHold := [(0,4999990001)]}) (setBoost (runs 0) 0 (fun x => {x with memberFrz := true})))) := by
  refine ⟨?_, ?_, ?_, ?_, ?_, ?_⟩ <;> decide +kernel

/-- `Obligations.RoleAndMembershipResults`: the clauses of domain role results. -/
theorem witness_DomainRoleResults :
    ((fun (s : State) => s.dom.role = .claim) (dmn 0 .claim))
    ∧ ((fun (s : State) => s.dom.role = .master) (dmn 0 .master))
    ∧ ((fun (s : State) => domRoleNow s ≠ .none_ ∧ s.dom.role ≠ .master) (dmn 1 .member))
    ∧ ((fun (lane : LaneIx) (src : Fin 1024) (epoch : Fin (2 ^ 32)) (standby mgen mem : Fin 65536) (s : State) => s.dom.role ≠ .none_)
          0 0 1 2 3 4 (dmn 1 .member))
    ∧ ((fun (s : State) => domRoleNow s = .master ∧ s.dom.noStandby = false) (dmn 0 .master)) := by
  refine ⟨?_, ?_, ?_, ?_, ?_⟩ <;> decide +kernel

/-- `Obligations.AllocationWithinBudget`. -/
theorem witness_AllocationWithinBudget :
    ((fun (b : Nat) (l : List Want) => ((∀ w ∈ l, w.floor ≤ 65535 ∧ w.demand ≤ 65535)) ∧ (l.map (fun w => w.floor)).sum < b)
          100 ([⟨0, 10, 60, 1⟩, ⟨1, 20, 90, 2⟩]))
    ∧ ((fun (b : Nat) (l : List Want) => ((∀ w ∈ l, w.floor ≤ 65535 ∧ w.demand ≤ 65535)) ∧ b ≤ (l.map (fun w => w.floor)).sum)
          20 ([⟨0, 10, 60, 1⟩, ⟨1, 20, 90, 2⟩])) := by
  refine ⟨?_, ?_⟩ <;> decide +kernel

/-- `Obligations.BudgetEpochResults`. -/
theorem witness_BudgetEpochResults :
    ((fun (s : State) => takesPart s = true ∧ s.tvl.red = [] ∧ s.tvl.redDone = [] ∧ belowUp s ≠ [] ∧ 0 < domNodesF (framesOf s)
        ∧ domNodesF (framesOf s) ≤ 512 ∧ ownNode s < 512) (dmn 0 .master))
    ∧ ((fun (s : State) => domRoleNow s = .master ∧ btSealed (pendBt s) = false) (dmn 0 .master))
    ∧ ((fun (s : State) => domRoleNow s ≠ .master) (dmn 1 .member))
    ∧ ((fun (src : Fin 1024) (epoch : Fin (2 ^ 32)) (bepoch first seg nseg : Nat) (entries : List (BitVec 64)) (s : State) => s.dom.role ≠ .none_
        ∧ s.dom.role ≠ .master ∧ s.dom.mepoch = epoch.val) 0 1 (nextEpoch (dmn 1 .member)) 0 0 2 ([5,0x8000000000000006]) (dmn 1 .member))
    ∧ ((fun (s : State) => s.img.applied = true ∧ fwOn s = true ∧ btSealed (pendBt s) = false ∧ btComplete (pendBt s) = true)
          (let s := dmn 1 .member; setPendBt s (btFlagSet (btHeader [] (nextEpoch s) 0 0xFFFF) 1)))
    ∧ ((fun (flips : List (Fin 2192 × Word)) (s : State) => inDomain s = true ∧ s.img.applied = true ∧ (segsOf s true).nseg ≠ 0
        ∧ ((∀ n, n < 1024 → tabGet 0 (segsOf s true).entry n < 2 ^ 64)))
          ([]) (dom (fun x => {x with segs0 := {got := [0], nseg := 1, entry := [(0,77)]}, segs1 := {got := [0], nseg := 1, entry := [(0,77)]}}) (dmn 1 .member))) := by
  refine ⟨?_, ?_, ?_, ?_, ?_, ?_⟩ <;> decide +kernel

/-- `Obligations.CellAndLockGroupResults`: the clauses of lock group results. -/
theorem witness_LockGroupResults :
    ((fun (s : State) => takesPart s = true ∧ s.tvl.red = [] ∧ s.tvl.redDone = [] ∧ belowUp s ≠ []) (dmn 0 .master))
    ∧ ((fun (r : RedSt) (s : State) => domRoleNow s = .master ∧ redResult s (s.dom.cycle % 2 ^ 24 * 256 + 0x20) = some r)
          ({ rd1 with rid := 0x20 }) (tvl (fun x => {x with result := [{ rd1 with rid := 0x20 }]}) (dmn 0 .master)))
    ∧ ((fun (g : Nat) (s : State) => domRoleNow s = .master ∧ g < 64 ∧ bitOf (gbufEntry s g) 63 = true)
          5 ({dmn 0 .master with fwc := {(dmn 0 .master).fwc with mem := [(47, 0x80)]}}))
    ∧ ((fun (src : Fin 1024) (epoch cid : Fin (2 ^ 32)) (tick basis : Nat) (g : Fin 64) (n : Fin 2048) (reason : Fin 16) (s : State) =>
        s.dom.role ≠ .none_ ∧ s.dom.role ≠ .master ∧ epoch.val = s.dom.mepoch ∧ src.val = s.dom.master
        ∧ bitOf (btNode (actBt s) (ownNode s)) 63 = true ∧ groupParts s g.val ≠ [] ∧ ((∀ c ∈ s.dom.commits, c.group = g.val → c.cid ≠ some cid.val)))
          0 1 7 5000005000 1 5 90 2 (dom (fun x => {x with role := .member}) {dmn 1 .member with bt := {bank0 := [(16+2*1+1, 0x80000000)], bank1 := [(16+2*1+1, 0x80000000)]}}))
    ∧ ((fun (group : Fin 64) (c : DomCommit) (k : Nat) (s : State) => s.dom.commits = [c] ∧ c.group = group.val ∧ c.cid = some k
        ∧ tabGet [] s.dom.gtEffect group.val = [] ∧ c.n < 2048 ∧ c.reason < 16)
          5 (⟨5,90,3,5000000000,some 4,1⟩) 4 (dom (fun x => {x with commits := [⟨5,90,3,5000000000,some 4,1⟩]}) (dmn 1 .member)))
    ∧ ((fun (group : Fin 64) (s : State) => domRoleNow s = .master ∧ originDepth s < 16) 5 (dmn 0 .master)) := by
  refine ⟨?_, ?_, ?_, ?_, ?_, ?_⟩ <;> decide +kernel

/-- `Obligations.RoleAndMembershipResults`: the clauses of membership results. -/
theorem witness_MembershipResults :
    ((fun (r : Nat) (s : State) => domRoleNow s = .joining ∧ s.tb.aligned = true ∧ routeF (framesOf s) s.dom.master = r ∧ r < 10
        ∧ laneUp s r = true ∧ (lclsOf s r 1).out.length < 16) 0 (dmn 1 .joining))
    ∧ ((fun (src : Fin 1024) (standby : Bool) (s : State) => domRoleNow s = .master) 2 true (dmn 0 .master))
    ∧ ((fun (mgen : Fin 65536) (bepoch : Nat) (s : State) => (s.dom.role = .joining ∨ s.dom.role = .standby)) 5 6 (dmn 1 .joining))
    ∧ ((fun (mgen : Fin 65536) (node : Fin 1024) (kind : Fin 256) (s : State) => s.dom.role ≠ .none_ ∧ s.dom.role ≠ .master) 5 2 1 (dmn 1 .member)) := by
  refine ⟨?_, ?_, ?_, ?_⟩ <;> decide +kernel

/-- `Obligations.CoreAccessResults`. -/
theorem witness_CoreAccessResults :
    ((fun (core : CoreIx) (addr : Word) (size : Fin 3) (s : State) => let len := 2 ^ size.val; can_CoreAccessResults s core
        ∧ addr.toNat + len ≤ 0x10000) 1 0x100 2 (core 1 (fun x => {x with tcm := [(0x100,7),(0x102,9)]}) (runs 0)))
    ∧ ((fun (core : CoreIx) (addr : Word) (size : Fin 3) (s : State) (val : Word) => let len := 2 ^ size.val; can_CoreAccessResults s core
        ∧ addr.toNat + len ≤ 0x10000) 1 0x100 2 (runs 0) 0x12345678)
    ∧ ((fun (core : CoreIx) (user : Bool) (addr : Word) (size : Fin 3) (ix : Nat) (c : Bool) (s : State) => let len := 2 ^ size.val;
        can_CoreAccessResults s core ∧ targetOf addr.toNat len = .mem ix c ∧ memIn s (coreOf s core.val).tag ix len = true
        ∧ (coreOf s core.val).miss.length ≤ 6) 1 true 0x10000100 2 0x100 true (runs 0))
    ∧ ((fun (core : CoreIx) (user : Bool) (addr : Word) (size : Fin 3) (ix : Nat) (c : Bool) (s : State) => let len := 2 ^ size.val;
        can_CoreAccessResults s core ∧ targetOf addr.toNat len = .mem ix c ∧ memIn s (coreOf s core.val).tag ix len = false)
          0 true 0x10000100 2 0x100 true (runs 0))
    ∧ ((fun (core : CoreIx) (user : Bool) (addr : Word) (size : Fin 3) (ix : Nat) (c : Bool) (s : State) (val : Word) => let len := 2 ^ size.val;
        can_CoreAccessResults s core ∧ targetOf addr.toNat len = .mem ix c ∧ memIn s (coreOf s core.val).tag ix len = true
        ∧ (coreOf s core.val).sb.length < 8) 1 true 0x10000100 2 0x100 true (runs 0) 77)
    ∧ ((fun (core : CoreIx) (user pmp : Bool) (addr val : Word) (size : Fin 3) (s : State) => let len := 2 ^ size.val;
        can_CoreAccessResults s core ∧ ((targetOf addr.toNat len = .none ∨ (0x40000000 ≤ addr.toNat ∧ addr.toNat % len = 0 ∧ len ≠ 4))))
          0 true true 0x60000100 2 1 (runs 0))
    ∧ ((fun (core : CoreIx) (e : BufStore) (rest : List BufStore) (ix : Nat) (c : Bool) (s : State) => fwOn s = true ∧ whole_CoreAccessResults s
        ∧ (coreOf s core.val).sb = e :: rest ∧ targetOf e.addr e.bytes.length = .mem ix c)
          1 (⟨0x10000100,[1,2,3,4]⟩) ([]) 0x100 true (core 1 (fun x => {x with sb := [⟨0x10000100,[1,2,3,4]⟩]}) (runs 0)))
    ∧ ((fun (core : CoreIx) (predW succR : Bool) (s : State) => coreRuns s core.val = true)
          1 true true (core 1 (fun x => {x with sb := [⟨0x10000100,[1,2,3,4]⟩]}) (runs 0)))
    ∧ ((fun (core : CoreIx) (s : State) => coreRuns s core.val = true)
          1 (core 1 (fun x => {x with iset := [(4, {ways := [(0,5)]})], sb := [⟨0x10000100,[1,2,3,4]⟩]}) (runs 0)))
    ∧ ((fun (core : CoreIx) (user : Bool) (op : AmoOp) (addr val : Word) (ix : Nat) (c : Bool) (s : State) => can_CoreAccessResults s core
        ∧ whole_CoreAccessResults s ∧ addr.toNat % 4 = 0 ∧ targetOf addr.toNat 4 = .mem ix c ∧ memIn s (coreOf s core.val).tag ix 4 = true
        ∧ (coreOf s core.val).resv = some (ix / 64)) 1 false .add 0x10000100 5 0x100 true (core 1 (fun x => {x with resv := some 4}) (runs 0)))
    ∧ ((fun (core : CoreIx) (user : Bool) (op : AmoOp) (addr val : Word) (ix : Nat) (c : Bool) (s : State) => can_CoreAccessResults s core
        ∧ whole_CoreAccessResults s ∧ addr.toNat % 4 = 0 ∧ targetOf addr.toNat 4 = .mem ix c ∧ memIn s (coreOf s core.val).tag ix 4 = true
        ∧ (coreOf s core.val).resv ≠ some (ix / 64)) 1 false .add 0x10000100 5 0x100 true (core 1 (fun x => {x with resv := some 5}) (runs 0)))
    ∧ ((fun (core : CoreIx) (user pmp : Bool) (op : AmoOp) (addr val : Word) (s : State) => can_CoreAccessResults s core ∧ addr.toNat % 4 ≠ 0)
          1 false true .add 0x10000101 5 (runs 0))
    ∧ ((fun (core : CoreIx) (user pmp : Bool) (op : AmoOp) (addr val : Word) (s : State) => can_CoreAccessResults s core ∧ addr.toNat % 4 = 0
        ∧ ((∀ ix c, targetOf addr.toNat 4 ≠ .mem ix c))) 1 false true .add 0x100 5 (runs 0)) :=
  ⟨by decide +kernel, by decide +kernel, by decide +kernel, by decide +kernel, by decide +kernel, by decide +kernel, ⟨by decide +kernel,
   (fun _ => Or.inl rfl), rfl, rfl⟩, by decide +kernel, by decide +kernel, ⟨by decide +kernel, (fun _ => Or.inl rfl), by decide +kernel, rfl,
   by decide +kernel, by decide +kernel⟩, ⟨by decide +kernel, (fun _ => Or.inl rfl), by decide +kernel, rfl, by decide +kernel,
   by decide +kernel⟩, by decide +kernel, ⟨by decide +kernel, by decide +kernel,
   fun _ _ h => nomatch (show Target.tcm 0x100 = .mem _ _ from h)⟩⟩

/-- `Obligations.CoreCacheAndErrorResults`. -/
theorem witness_CoreCacheAndErrorResults :
    ((fun (core : CoreIx) (val : Word) (s : State) => coreRuns s core.val = true) 1 0 (runs 0))
    ∧ ((fun (core : CoreIx) (icache : Bool) (line : Fin 81920) (m : MissReg) (s : State) => fwOn s = true
        ∧ (coreOf s core.val).miss.find? (fun m => m.icache == icache && m.line == line.val) = some m)
          1 true 5 (⟨true,5,false⟩) (core 1 (fun x => {x with miss := [⟨true,5,false⟩]}) (runs 0)))
    ∧ ((fun (core : CoreIx) (line : Fin 81920) (s : State) => coreRuns s core.val = true ∧ cached s core.val true line.val = false
        ∧ (coreOf s core.val).miss.find? (fun m => m.icache == true && m.line == line.val) = none) 1 5 (runs 0))
    ∧ ((fun (core : CoreIx) (l : Nat) (rest : List Nat) (s : State) => fwOn s = true ∧ (coreOf s core.val).wb = l :: rest
        ∧ (dirtyOf s l).core = core.val ∧ (dirtyOf s l).data.length = 64)
          1 5 ([]) (core 1 (fun x => {x with wb := [5]}) (fw (fun x => {x with dirty := [(5, ⟨1,true,List.replicate 64 9⟩)]}) (runs 0))))
    ∧ ((fun (core : CoreIx) (s : State) => fwOn s = true) 1 (runs 0))
    ∧ ((fun (core : CoreIx) (icache : Bool) (line : Fin 81920) (double : Bool) (s : State) => (¬ (icache = false ∧ (dirtyOf s line.val).data ≠ []
        ∧ (dirtyOf s line.val).core = core.val)) ∧ cached s core.val icache line.val = true)
          1 true 5 false (core 1 (fun x => {x with iset := [(5, {ways := [(0,6)]})]}) (runs 0)))
    ∧ ((fun (core : CoreIx) (icache : Bool) (line : Fin 81920) (double : Bool) (s : State) => (dirtyOf s line.val).data ≠ []
        ∧ (dirtyOf s line.val).core = core.val ∧ coreRuns s core.val = true ∧ s.fwc.ld.phase = .idle
        ∧ (coreOf s core.val).streak < fld s Reg.FWC_LIVE_CFG F.FWC_LIVE_CFG_RESTART_MAX)
          1 true 5 false (setF (fw (fun x => {x with dirty := [(5, ⟨1,true,List.replicate 64 9⟩)]}) (runs 0)) Reg.FWC_LIVE_CFG F.FWC_LIVE_CFG_RESTART_MAX 3))
    ∧ ((fun (core : CoreIx) (store : Bool) (s : State) => coreRuns s core.val = true) 1 true (runs 0)) := by
  refine ⟨?_, ?_, ?_, ?_, ?_, ?_, ?_, ?_⟩ <;> decide +kernel

/-- `Obligations.MailboxResults`. -/
theorem witness_MailboxResults :
    ((fun (w : Fin 9) (word : Fin 64) (val : Word) (s : State) => can_MailboxResults s w) 1 0 77 (runs 0))
    ∧ ((fun (w target : Fin 9) (bits : Word) (s : State) => can_MailboxResults s w) 1 2 77 (runs 0))
    ∧ ((fun (w target : Fin 9) (word : Word) (s : State) => can_MailboxResults s w) 1 2 77 (runs 0))
    ∧ ((fun (w target : Fin 9) (s : State) => can_MailboxResults s w) 1 1 (fw (fun x => {x with mbx := [(1, {queue := [5,6]})]}) (runs 0))) := by
  refine ⟨?_, ?_, ?_, ?_⟩ <;> decide +kernel

/-- `Obligations.FirmwareLoadResults`. -/
theorem witness_FirmwareLoadResults :
    ((fun (who : Initiator) (live : Bool) (cores : Byte) (s : State) => admits s who Reg.FWC_LD_CTL (1 + 4 * b2n live + 256 * cores.toNat) = true
        ∧ flag s Reg.TOP_SUPPLY F.TOP_SUPPLY_SEC_OK = true ∧ ldBusy s = false ∧ loadActive s = false ∧ s.sec.run = none
        ∧ s.top.state ∈ [.loaded, .ramp, .run]) (.host 0) true 2 (runs 0))
    ∧ ((fun (got : Fetched) (s : State) => fwOn s = true ∧ s.fwc.ld.phase = .fetch)
          (.data fwBytes) (fw (fun x => {x with ld := {x.ld with phase := .fetch}}) (runs 0)))
    ∧ ((fun (got : Fetched) (i : FwImg) (b : List Byte) (s : State) => fwOn s = true ∧ s.fwc.ld.phase = .write ∧ s.fwc.ld.img = some i
        ∧ fetchTake s (fld s Reg.FWC_LD_SRC F.FWC_LD_SRC_SRC) (rd64 s Reg.FWC_LD_ADDR_LO) s.fwc.ld.bytes.length got = some b)
          (.data fwBytes) img0 fwBytes (wrN (fw (fun x => {x with ld := {x.ld with phase := .write, bytes := fwBytes, cores := 2, img := some img0}}) (runs 0)) Reg.FWC_LD_LEN 432))
    ∧ ((fun (who : Initiator) (s : State) => admits s who Reg.FWC_LD_CTL 2 = true)
          (.host 0) (fw (fun x => {x with ld := {x.ld with phase := .write, cores := 2}}) (runs 0)))
    ∧ ((fun (who : Initiator) (core : CoreIx) (val : Word) (s : State) => admits s who (Reg.FWC_WDOG core.val) val.toNat = true)
          (.host 0) 1 0x20003 (runs 0))
    ∧ ((fun (who : Initiator) (val : Word) (s : State) => admits s who Reg.FWC_LIVE_CFG val.toNat = true) (.host 0) 0xFFFFF305 (runs 0)) := by
  refine ⟨?_, ?_, ?_, ?_, ?_, ?_⟩ <;> decide +kernel

/-- `Obligations.CoreLifeResults`. -/
theorem witness_CoreLifeResults :
    ((fun (who : Initiator) (core : CoreIx) (i : FwImg) (s : State) => admits s who (Reg.FWC_CORE_CTL core.val) 0x5A01 = true
        ∧ (coreOf s core.val).state = .loaded ∧ (coreOf s core.val).img = some i)
          (.host 0) 1 img0 (core 1 (fun x => {x with state := .loaded, ready := false, img := some img0}) (runs 0)))
    ∧ ((fun (core : CoreIx) (i : FwImg) (s : State) => fwOn s = true ∧ (coreOf s core.val).state = .restart ∧ (coreOf s core.val).img = some i
        ∧ retainOk s i = true ∧ s.fwc.ld.phase ≠ .rollback)
          1 img0 (core 1 (fun x => {x with state := .restart, ready := false, img := some img0}) (runs 0)))
    ∧ ((fun (who : Initiator) (core : CoreIx) (s : State) => admits s who (Reg.FWC_CORE_CTL core.val) 0x5A02 = true
        ∧ (coreOf s core.val).state ∈ [.run, .ready, .quiesce] ∧ s.fwc.ld.phase = .idle) (.host 0) 1 (runs 0))
    ∧ ((fun (core : CoreIx) (s : State) => coreRuns s core.val = true ∧ s.fwc.ld.phase = .idle ∧ mayRestart_CoreLifeResults s core.val
        ∧ (coreOf s core.val).state = .run ∧ (coreOf s core.val).ready = false)
          1 (core 1 (fun x => {x with state := .run, ready := false}) (setF (runs 0) Reg.FWC_LIVE_CFG F.FWC_LIVE_CFG_RESTART_MAX 3)))
    ∧ ((fun (core : CoreIx) (s : State) => coreRuns s core.val = true ∧ (coreOf s core.val).state ≠ .quiesce) 1 (runs 0))
    ∧ ((fun (core : CoreIx) (i : FwImg) (s : State) => fwOn s = true ∧ (coreOf s core.val).state = .quiesce ∧ s.fwc.ld.img = some i
        ∧ mayRestart_CoreLifeResults s core.val)
          1 img0 (core 1 (fun x => {x with state := .quiesce}) (fw (fun x => {x with ld := {x.ld with phase := .handover, live := true, cores := 2, img := some img0}}) (setF (runs 0) Reg.FWC_LIVE_CFG F.FWC_LIVE_CFG_RESTART_MAX 3))))
    ∧ ((fun (s : State) => s.fwc.secUp = true ∧ fwOn s = true ∧ s.top.state ≠ .off ∧ s.top.porHeld = false)
          (fw (fun x => {x with secUp := true}) (runs 0)))
    ∧ ((fun (secOk idOk : Bool) (s : State) => s.fwc.secUp = false) true true (fw (fun x => {x with secUp := false}) (runs 0))) := by
  refine ⟨?_, ?_, ?_, ?_, ?_, ?_, ?_, ?_⟩ <;> decide +kernel

/-- `Obligations.HostRingResults`. -/
theorem witness_HostRingResults :
    ((fun (who : Initiator) (ring : Fin 64) (val : Word) (s : State) => let v := val.toNat ||| 1;
        admits s who (Reg.HIR_RING_CFG ring.val) v = true ∧ flag s (Reg.HIR_RING_CFG ring.val) F.HIR_RING_CFG_EN = false)
          (.host 0) 0 0x441 (rcf (runs 0)))
    ∧ ((fun (who : Initiator) (ring : Fin 64) (s : State) => let v := (rd s (Reg.HIR_RING_CFG ring.val)).toNat / 2 * 2;
        admits s who (Reg.HIR_RING_CFG ring.val) v = true ∧ flag s (Reg.HIR_RING_CFG ring.val) F.HIR_RING_CFG_EN = true) (.host 0) 0 (rrun (runs 0)))
    ∧ ((fun (who : Initiator) (ring : Fin 64) (val : Word) (s : State) => rings_HostRingResults s who ring false val ∧ ringOn s ring.val = true
        ∧ ringTel s ring.val = false)
          (.host 3) 0 5 (hir (fun x => {x with vfs := 4}) (setF (rrun (runs 0)) (Reg.HIR_RING_CFG 0) F.HIR_RING_CFG_OWNER 3)))
    ∧ ((fun (who : Initiator) (ring : Fin 64) (val : Word) (s : State) => rings_HostRingResults s who ring true val ∧ ringOn s ring.val = true)
          (.host 3) 0 5 (hir (fun x => {x with vfs := 4}) (rg 0 (fun x => {x with cqTail := 7}) (setF (rrun (runs 0)) (Reg.HIR_RING_CFG 0) F.HIR_RING_CFG_OWNER 3))))
    ∧ ((fun (ring : Fin 64) (d : HirDone) (rest : List HirDone) (s : State) => fwUp s = true ∧ (ringOf s ring.val).state ≠ .disabled
        ∧ ringTel s ring.val = false ∧ (ringOf s ring.val).done = d :: rest)
          0 (⟨9,0,0,[1,2],false⟩) ([]) (rg 0 (fun x => {x with done := [⟨9,0,0,[1,2],false⟩]}) (rrun (runs 0))))
    ∧ ((fun (ring : Fin 64) (ok : Bool) (i : Nat) (s : State) => let kind := aF s (Reg.HIR_TEL_CFG ring.val) F.HIR_TEL_CFG_KIND;
        (ringOf s ring.val).state = .running ∧ ringTel s ring.val = true ∧ kind ≠ 0 ∧ aF s (Reg.HIR_TEL_CFG ring.val) F.HIR_TEL_CFG_PERIOD ≠ 0
        ∧ telObjects s ring.val kind = [i]) 0 true 0 (setA (tel (runs 0)) (Reg.HIR_TEL_CFG 0) F.HIR_TEL_CFG_KIND 3))
    ∧ ((fun (ring : Fin 64) (s : State) => 0 < (ringOf s ring.val).agg ∧ ringOwner s ring.val = 0)
          0 (rg 0 (fun x => {x with agg := 3}) (rrun (runs 0))))
    ∧ ((fun (vfs : Fin 64) (s : State) => s.top.pcieUp = true)
          2 (hir (fun x => {x with vfs := 4}) (setF (rrun (runs 0)) (Reg.HIR_RING_CFG 0) F.HIR_RING_CFG_OWNER 3)))
    ∧ ((fun (fn : Fin 64) (off : BitVec 20) (data : List (Option Byte)) (n bad : Nat) (s : State) => reachable s (.host fn) = true
        ∧ hostStuck s (.host fn) = false ∧ window2Ok s fn.val off.toNat n = true) 0 0x100 ([some 1, none, some 3, some 4]) 4 0x100 (runs 0))
    ∧ ((fun (ring : Fin 64) (n : Nat) (s : State) => (ringOf s ring.val).state = .running ∧ ringTel s ring.val = true) 0 4 (tel (runs 0)))
    ∧ ((fun (fn : Fin 64) (write : Bool) (s : State) => reachable s (.host fn) = true) 0 true (runs 0)) :=
  ⟨by decide +kernel, by decide +kernel, ⟨Or.inr ⟨2, by decide +kernel, rfl, by decide +kernel, by decide +kernel, by decide +kernel,
   by decide +kernel⟩, by decide +kernel, by decide +kernel⟩, ⟨Or.inr ⟨2, by decide +kernel, rfl, by decide +kernel, by decide +kernel,
   by decide +kernel, by decide +kernel⟩, by decide +kernel⟩, by decide +kernel, by decide +kernel, by decide +kernel, by decide +kernel,
   by decide +kernel, by decide +kernel, by decide +kernel⟩

/-- `Obligations.HostControlCommandResults`. -/
theorem witness_HostControlCommandResults :
    ((fun (ring : RingIx) (cid : BitVec 16) (out : DmaOut) (c : HirCmd) (s : State) => takes_HostControlCommandResults s ring cid 0x01 c)
          0 9 .sent (hc 1 []) (cm (hc 1 []) (runs 0)))
    ∧ ((fun (ring : RingIx) (cid : BitVec 16) (c : HirCmd) (s : State) => takes_HostControlCommandResults s ring cid 0x02 c)
          0 9 (hc 2 []) (cm (hc 2 []) (runs 0)))
    ∧ ((fun (ring : RingIx) (cid : BitVec 16) (c : HirCmd) (s : State) => takes_HostControlCommandResults s ring cid 0x10 c)
          0 9 (hc 16 [0]) (cm (hc 16 [0]) (runs 0)))
    ∧ ((fun (ring : RingIx) (cid : BitVec 16) (c : HirCmd) (s : State) => takes_HostControlCommandResults s ring cid 0x11 c)
          0 9 (hc 17 [2,0,0]) (cm (hc 17 [2,0,0]) (runs 0)))
    ∧ ((fun (ring : RingIx) (cid : BitVec 16) (c : HirCmd) (s : State) => takes_HostControlCommandResults s ring cid 0x12 c)
          0 9 (hc 18 [1,1]) (cm (hc 18 [1,1]) (runs 0)))
    ∧ ((fun (ring : RingIx) (cid : BitVec 16) (c : HirCmd) (s : State) => takes_HostControlCommandResults s ring cid 0x13 c)
          0 9 (hc 19 [1]) (cm (hc 19 [1]) (runs 0)))
    ∧ ((fun (ring : RingIx) (cid : BitVec 16) (c : HirCmd) (s : State) => takes_HostControlCommandResults s ring cid 0x14 c)
          0 9 (hc 20 [0]) (cm (hc 20 [0]) (runs 0)))
    ∧ ((fun (ring : RingIx) (cid : BitVec 16) (c : HirCmd) (b : List Byte) (s : State) => takes_HostControlCommandResults s ring cid 0x20 c
        ∧ bufOk c 0 = true ∧ c.len ≤ 4096 ∧ c.len % 8 = 0 ∧ prm c 0 8 < 2 ^ 46 ∧ prm c 8 1 ≤ 1 ∧ prm c 9 1 ≤ 1)
          0 9 (hc 32 [] 0x1000 8) (([0,0,0x12,0,5,0,0,0] : List Byte)) (cm (hc 32 [] 0x1000 8) (runs 0)))
    ∧ ((fun (ring : RingIx) (cid : BitVec 16) (c : HirCmd) (b : List Byte) (out : DmaOut) (s : State) =>
        takes_HostControlCommandResults s ring cid 0x21 c) 0 9 (hc 33 [1,0]) (([0,0,0x12,0] : List Byte)) .sent (cm (hc 33 [1,0]) (runs 0)))
    ∧ ((fun (ring : RingIx) (cid : BitVec 16) (pairs : List (ChIx × Nat)) (tripIn : Bool) (c : HirCmd) (s : State) =>
        takes_HostControlCommandResults s ring cid 0x22 c) 0 9 ([]) true (hc 34 [0,0]) (cm (hc 34 [0,0]) (runs 0)))
    ∧ ((fun (ring : RingIx) (cid : BitVec 16) (c : HirCmd) (s : State) => takes_HostControlCommandResults s ring cid 0x30 c)
          0 9 (hc 48 [3,0,0,0,7]) (cm (hc 48 [3,0,0,0,7]) (runs 0)))
    ∧ ((fun (ring : RingIx) (cid : BitVec 16) (c : HirCmd) (s : State) => takes_HostControlCommandResults s ring cid 0x31 c)
          0 9 (hc 49 [1,0,5,0]) (cm (hc 49 [1,0,5,0]) (runs 0)))
    ∧ ((fun (ring : RingIx) (cid : BitVec 16) (c : HirCmd) (s : State) => takes_HostControlCommandResults s ring cid 0x32 c)
          0 9 (hc 50 [1,0,5,0]) (cm (hc 50 [1,0,5,0]) (runs 0)))
    ∧ ((fun (ring : RingIx) (cid : BitVec 16) (out : DmaOut) (c : HirCmd) (s : State) => takes_HostControlCommandResults s ring cid 0x33 c
        ∧ prm c 0 1 ≤ 31 ∧ prm c 1 1 ≤ 1) 0 9 .sent (hc 51 [1,0]) (cm (hc 51 [1,0]) (runs 0))) := by
  refine ⟨?_, ?_, ?_, ?_, ?_, ?_, ?_, ?_, ?_, ?_, ?_, ?_, ?_, ?_⟩ <;> decide +kernel

/-- `Obligations.HostDataCommandResults`. -/
theorem witness_HostDataCommandResults :
    ((fun (ring : RingIx) (cid : BitVec 16) (c : HirCmd) (s : State) => takes_HostDataCommandResults s ring cid 0x40 c)
          0 9 (hc 64 [0,1,1]) (cm (hc 64 [0,1,1]) (runs 0)))
    ∧ ((fun (ring : RingIx) (cid : BitVec 16) (out : DmaOut) (c : HirCmd) (s : State) => takes_HostDataCommandResults s ring cid 0x50 c)
          0 9 .sent (hc 80 [0,0,0,0,0,0,0,0,2]) (cm (hc 80 [0,0,0,0,0,0,0,0,2]) (runs 0)))
    ∧ ((fun (ring : RingIx) (cid : BitVec 16) (c : HirCmd) (s : State) => takes_HostDataCommandResults s ring cid 0x51 c)
          0 9 (hc 81 [1,0,0,0,0,0,0,0,0,0,1,0,0,0,0,0,16]) (cm (hc 81 [1,0,0,0,0,0,0,0,0,0,1,0,0,0,0,0,16]) (runs 0)))
    ∧ ((fun (ring : RingIx) (cid : BitVec 16) (c : HirCmd) (s : State) => takes_HostDataCommandResults s ring cid 0x60 c)
          0 9 (hc 96 [1,0]) (cm (hc 96 [1,0]) (runs 0)))
    ∧ ((fun (ring : RingIx) (cid : BitVec 16) (c : HirCmd) (s : State) => takes_HostDataCommandResults s ring cid 0x70 c
        ∧ (prm c 0 1 = 1 ∨ prm c 0 1 = 2) ∧ prm c 2 2 ≤ 1023) 0 9 (hc 112 [1,0,1,0]) (cm (hc 112 [1,0,1,0]) (dmn 0 .master)))
    ∧ ((fun (ring : RingIx) (cid : BitVec 16) (c : HirCmd) (s : State) => takes_HostDataCommandResults s ring cid 0x71 c)
          0 9 (hc 113 [1,0,1,0]) (cm (hc 113 [1,0,1,0]) (dmn 0 .master)))
    ∧ ((fun (ring : RingIx) (cid : BitVec 16) (c : HirCmd) (b : List Byte) (s : State) => takes_HostDataCommandResults s ring cid 0x80 c)
          0 9 (hc 128 [1,0,1,0] 0x1000 64) (([1,2,3] : List Byte)) (cm (hc 128 [1,0,1,0] 0x1000 64) (lup 0)))
    ∧ ((fun (ring : RingIx) (cid : BitVec 16) (out : DmaOut) (c : HirCmd) (s : State) => takes_HostDataCommandResults s ring cid 0x81 c)
          0 9 .sent (hc 129 [0,0,1,0]) (cm (hc 129 [0,0,1,0]) (lup 0)))
    ∧ ((fun (src : Fin 1024) (channel msg : BitVec 16) (off total : Nat) (data : List Byte) (out : DmaOut) (s : State) => fwWorks s = true
        ∧ 0 < total ∧ total ≤ 1048576 ∧ off < total ∧ data ≠ [] ∧ ((∀ m ∈ s.hir.bulk, ¬ (m.src = src.val ∧ m.channel = channel.toNat
        ∧ m.msg = msg.toNat))) ∧ bulkWaiter s channel.toNat = none) 1 1 0 0 16 ([1,2,3]) .sent (lup 0))
    ∧ ((fun (src : Fin 1024) (channel msg : BitVec 16) (m : BulkMsg) (s : State) => fwWorks s = true
        ∧ s.hir.bulk.find? (fun m => m.src == src.val && m.channel == channel.toNat && m.msg == msg.toNat) = some m)
          1 1 0 (⟨1,1,0,4,[(0,[1,2])],5⟩) (hir (fun x => {x with bulk := [⟨1,1,0,4,[(0,[1,2])],5⟩]}) (lup 0)))
    ∧ ((fun (ring : RingIx) (cid : BitVec 16) (c : HirCmd) (s : State) => takes_HostDataCommandResults s ring cid 0x90 c)
          0 9 (hc 144 [7,0]) (cm (hc 144 [7,0]) (runs 0)))
    ∧ ((fun (ring : RingIx) (cid : BitVec 16) (k c : HirCmd) (s : State) => fwWorks s = true
        ∧ flag s Reg.SBM_BMC_CAP F.SBM_BMC_CAP_PENDING = false ∧ (ringOf s ring.val).state = .running ∧ ringTel s ring.val = false
        ∧ (ringOf s ring.val).cmds = [k, c] ∧ (ringOf s ring.val).done = [] ∧ k.opcode = 0x81 ∧ k.began = true ∧ bitOf k.flags 0 = false
        ∧ c.cid = cid.toNat ∧ c.opcode = 0x90 ∧ c.began = false ∧ bitOf c.flags 0 = false ∧ k.cid = prm c 0 2)
          0 9 ({hc 129 [0,0,1,0] with cid := 7, began := true, waits := 1}) (hc 144 [7,0]) (rg 0 (fun x => {x with cmds := [{hc 129 [0,0,1,0] with cid := 7, began := true, waits := 1}, hc 144 [7,0]]}) (rrun (runs 0)))) := by
  refine ⟨?_, ?_, ?_, ?_, ?_, ?_, ?_, ?_, ?_, ?_, ?_, ?_⟩ <;> decide +kernel

/-- `Obligations.RecorderResults`: the clauses of recorder command results. -/
theorem witness_RecorderCommandResults :
    ((fun (s : State) => fwOn s = true ∧ s.tb.running = true ∧ s.recd.marks = [] ∧ s.recd.stopLoss = 0 ∧ stopMode s = false) (runs 0))
    ∧ ((fun (who : Initiator) (val : Word) (s : State) => admits s who Reg.REC_CMD val.toNat = true) (.host 0) 1 (runs 0))
    ∧ ((fun (who : Initiator) (m : Fin 10) (val : Word) (s : State) => admits s who (Reg.REC_PUT_GO m.val) val.toNat = true ∧ val.toNat % 2 = 1)
          (.core 1) 1 1 (recd (fun x => {x with puts := [(0x260220, 0x81)]}) (runs 0)))
    ∧ ((fun (who : Initiator) (val : BitVec 64) (s : State) => admits s who Reg.REC_TAIL_LO (val.toNat % 2 ^ 32) = true)
          (.host 0) 5 (recd (fun x => {x with head := 9}) (runs 0)))
    ∧ ((fun (n : Nat) (abandoned : Bool) (s : State) => spillOn s = true ∧ 0 < spillSlots s ∧ s.recd.head ≤ s.recd.spillNext + 16384)
          3 false (setF (recd (fun x => {x with head := 9}) (setFs (runs 0) [(Reg.REC_CTL, F.REC_CTL_SPILL_EN, 1)])) Reg.REC_SPILL_SIZE F.REC_SPILL_SIZE_SIZE 1))
    ∧ ((fun (n : Nat) (s : State) => spillOn s = true) 3 (recd (fun x => {x with head := 9}) (setFs (runs 0) [(Reg.REC_CTL, F.REC_CTL_SPILL_EN, 1)])))
    ∧ ((fun (unit : Byte) (plane : Plane) (more : Fin 3) (off : BitVec 22) (s : State) => plane ≠ .mgmt) 4 .data 1 0x100 (runs 0))
    ∧ ((fun (rank : Fin 9) (k : Nat) (s : State) => tabGet 0 s.drain rank.val = k + 1) 3 7 ({runs 0 with drain := [(3, 8)]})) := by
  refine ⟨?_, ?_, ?_, ?_, ?_, ?_, ?_, ?_⟩ <;> decide +kernel

/-- `Obligations.NvStoreCommandResults`. -/
theorem witness_NvStoreCommandResults :
    ((fun (who : Initiator) (kind : BitVec 16) (s : State) => admits s who Reg.NVS_CMD (1 + 16 + kind.toNat * 65536) = true)
          (.host 0) 0x10 (nvr (runs 0)))
    ∧ ((fun (who : Initiator) (kind : BitVec 16) (s : State) => admits s who Reg.NVS_CMD (2 + 16 + kind.toNat * 65536) = true)
          (.host 0) 0x10 (nvr (runs 0)))
    ∧ ((fun (who : Initiator) (s : State) => admits s who Reg.NVS_CMD (3 + 16 + 0 * 65536) = true) (.host 0) (nvr (runs 0)))
    ∧ ((fun (who : Initiator) (s : State) => admits s who Reg.NVS_CMD (4 + 16 + 0 * 65536) = true) (.host 0) (nvr (runs 0)))
    ∧ ((fun (who : Initiator) (s : State) => admits s who Reg.NVS_CMD (5 + 16 + 0 * 65536) = true) (.host 0) (nvr (runs 0)))
    ∧ ((fun (ok : Bool) (c : NvCmd) (s : State) => s.nvs.cmd = some c)
          true ({op := 1, kind := 0x10, key := 0, ring := false, off := 0, len := 4}) (nvs (fun x => {x with cmd := some {op := 1, kind := 0x10, key := 0, ring := false, off := 0, len := 4}}) (nvr (runs 0))))
    ∧ ((fun (tl : TailSt) (ok : Bool) (done : Nat) (s : State) => s.nvs.tail = some tl ∧ s.top.porHeld = false)
          (⟨2, 5, [{}]⟩) true 0 (nvs (fun x => {x with tail := some ⟨2, 5, [{}]⟩}) (nvr (runs 0))))
    ∧ ((fun (margin : Bool) (e : EraseSt) (s : State) => s.nvs.erase = some e ∧ s.nvs.eraseQ = [] ∧ e.count < 100000)
          true (⟨5,6,7⟩) (nvs (fun x => {x with erase := some ⟨5,6,7⟩}) (nvr (runs 0))))
    ∧ ((fun (s : State) => s.nvs.scanning = true ∧ s.nvs.tail = none) (nvs (fun x => {x with scanning := true}) (runs 0)))
    ∧ ((fun (s : State) => flag s Reg.TOP_SUPPLY F.TOP_SUPPLY_NVS_READY = true ∧ 0 < fld s Reg.NVS_CFG F.NVS_CFG_COUNT_INT ∧ unavail s 48 = false)
          (setF (nvr (runs 0)) Reg.NVS_CFG F.NVS_CFG_COUNT_INT 5)) := by
  refine ⟨?_, ?_, ?_, ?_, ?_, ?_, ?_, ?_, ?_, ?_⟩ <;> decide +kernel

/-- `Obligations.PmbusWrites`. -/
theorem witness_PmbusWrites :
    ((fun (b : Byte) (s : State) => s.top.porHeld = false ∧ pecReq s = true) 5 (sbf 0x1F (runs 0)))
    ∧ ((fun (s : State) => s.top.porHeld = false) (sbm (fun x => {x with input := 5, pages := [(0, {cml := 5})]}) (runs 0)))
    ∧ ((fun (code b : Byte) (s : State) => s.top.porHeld = false ∧ s.sbm.page ≤ 8 ∧ code.toNat ∈ [0x7A, 0x7B, 0x7C, 0x7D, 0x7E, 0x80])
          0x7A 5 (runs 0))
    ∧ ((fun (d : List Byte) (s : State) => s.top.porHeld = false ∧ s.sbm.page = 8 ∧ d.length = 2)
          ([0,5]) (sbm (fun x => {x with page := 8}) (runs 0)))
    ∧ ((fun (b : Byte) (s : State) => s.top.porHeld = false ∧ s.sbm.page = 8) 1 (sbm (fun x => {x with page := 8}) (runs 0)))
    ∧ ((fun (code n : Byte) (d : List Byte) (s : State) => s.top.porHeld = false) 3 5 ([1]) (runs 0)) := by
  refine ⟨?_, ?_, ?_, ?_, ?_, ?_⟩ <;> decide +kernel

/-- `Obligations.AttestationResults`. -/
theorem witness_AttestationResults :
    ((fun (pcie : Bool) (dst eid : Byte) (s : State) => mctpTakes s pcie true dst = true) true 0 9 (runs 0))
    ∧ ((fun (pcie : Bool) (dst : Byte) (s : State) => sbFlag s (if pcie then 4 else 3) = true)
          false 9 ({mte with img := {mte.img with bank0 := tabSet {} mte.img.bank0 0x0A (slot (fbytes 0 [0x1D, 0, 8, 0]))}}))
    ∧ ((fun (pcie : Bool) (dst : Byte) (s : State) => mctpTakes s pcie false dst = true ∧ spdmBusy s = true)
          true 9 (sbm (fun x => {x with spdm := some ⟨true, .version 18, false⟩}) mte))
    ∧ ((fun (pcie : Bool) (dst : Byte) (s : State) => mctpTakes s pcie false dst = true ∧ spdmBusy s = false ∧ tabGet 0 s.sbm.conn (b2n pcie) < 3)
          true 9 (sbm (fun x => {x with conn := []}) mte))
    ∧ ((fun (pcie : Bool) (dst : Byte) (s : State) => spdmTakes s pcie dst 0 = true) true 9 mte)
    ∧ ((fun (pcie : Bool) (dst : Byte) (s : State) => spdmTakes s pcie dst 1 = true) true 9 mte)
    ∧ ((fun (pcie : Bool) (dst : Byte) (s : State) => spdmTakes s pcie dst 2 = true) true 9 mte)
    ∧ ((fun (pcie : Bool) (dst slot : Byte) (off len : BitVec 16) (s : State) => spdmTakes s pcie dst 3 = true) true 9 0 0 16 mte)
    ∧ ((fun (pcie : Bool) (dst slot index : Byte) (flag_ : Bool) (s : State) => spdmTakes s pcie dst 3 = true) true 9 0 0 true mte)
    ∧ ((fun (q : SpdmReq) (s : State) => s.sbm.spdm = some q)
          (⟨true, .version 18, false⟩) (sbm (fun x => {x with spdm := some ⟨true, .version 18, false⟩}) mte)) := by
  refine ⟨?_, ?_, ?_, ?_, ?_, ?_, ?_, ?_, ?_, ?_⟩ <;> decide +kernel

/-- `Obligations.FuseAndDebugUnlockResults`. -/
theorem witness_FuseAndDebugUnlockResults :
    ((fun (who : Initiator) (op : BitVec 4) (arg : BitVec 16) (s : State) =>
        admits s who Reg.SEC_FUSE_CTL (op.toNat + 0x5A * 256 + arg.toNat * 65536) = true) (.host 0) 3 7 (runs 0))
    ∧ ((fun (who : Initiator) (arg : BitVec 16) (s : State) => admits s who Reg.SEC_FUSE_CTL (1 + 16 + 0xA5 * 256 + arg.toNat * 65536) = true)
          (.host 0) 1 (sec (fun x => {x with arm := some (arm 1)}) (runs 0)))
    ∧ ((fun (who : Initiator) (arg : BitVec 16) (s : State) => admits s who Reg.SEC_FUSE_CTL (2 + 16 + 0xA5 * 256 + arg.toNat * 65536) = true)
          (.host 0) 0 (runs 0))
    ∧ ((fun (who : Initiator) (arg : BitVec 16) (s : State) => admits s who Reg.SEC_FUSE_CTL (3 + 16 + 0xA5 * 256 + arg.toNat * 65536) = true)
          (.host 0) 0 (sec (fun x => {x with arm := some (arm 3)}) (runs 0)))
    ∧ ((fun (who : Initiator) (arg : BitVec 16) (s : State) => admits s who Reg.SEC_FUSE_CTL (4 + 16 + 0xA5 * 256 + arg.toNat * 65536) = true)
          (.host 0) 0 (sec (fun x => {x with arm := some (arm 4)}) (runs 0)))
    ∧ ((fun (who : Initiator) (arg : BitVec 16) (s : State) => admits s who Reg.SEC_FUSE_CTL (5 + 16 + 0xA5 * 256 + arg.toNat * 65536) = true)
          (.host 0) 0 (sec (fun x => {x with arm := some (arm 5)}) (runs 0)))
    ∧ ((fun (who : Initiator) (arg : BitVec 16) (s : State) => admits s who Reg.SEC_FUSE_CTL (6 + 16 + 0xA5 * 256 + arg.toNat * 65536) = true)
          (.host 0) 0 (sec (fun x => {x with arm := some (arm 6)}) (runs 0)))
    ∧ ((fun (who : Initiator) (arg : BitVec 16) (s : State) => admits s who Reg.SEC_FUSE_CTL (7 + 16 + 0xA5 * 256 + arg.toNat * 65536) = true)
          (.host 0) 0 (sec (fun x => {x with arm := some (arm 7)}) (runs 0)))
    ∧ ((fun (o : FuseOp) (s : State) => s.sec.run = some o) (arm 3) (sec (fun x => {x with run := some (arm 3)}) (runs 0)))
    ∧ ((fun (who : Initiator) (s : State) => admits s who Reg.SEC_DBG_CTL 1 = true) (.host 0) (runs 0))
    ∧ ((fun (who : Initiator) (src : Fin 4) (got : Fetched) (s : State) => admits s who Reg.SEC_DBG_CTL (2 + 16 * src.val) = true
        ∧ s.sec.token = none) (.host 0) 0 .error (runs 0))
    ∧ ((fun (who : Initiator) (s : State) => admits s who Reg.SEC_DBG_CTL 4 = true) (.host 0) (sec (fun x => {x with cores := 3}) (runs 0)))
    ∧ ((fun (x : TokenSt) (s : State) => s.sec.token = some x) (⟨[], none, true⟩) (sec (fun x => {x with token := some ⟨[], none, true⟩}) (runs 0))) := by
  refine ⟨?_, ?_, ?_, ?_, ?_, ?_, ?_, ?_, ?_, ?_, ?_, ?_, ?_⟩ <;> decide +kernel

/-- `Obligations.JtagResults`. -/
theorem witness_JtagResults :
    ((fun (cells : BitVec 212) (s : State) => tapOn s = true) 5 (runs 0))
    ∧ ((fun (token : List Byte) (s : State) => tapOn s = true ∧ secRuns s = true ∧ s.sec.token = none)
          ([1,2,3]) (fw (fun x => {x with secUp := true}) (runs 0)))
    ∧ ((fun (core : CoreIx) (reg addr val : Word) (act : StepAct) (pmp : Bool) (s : State) => tapOn s = true ∧ coreOpen s core.val = false)
          1 0x1005 0x100 7 .other true (runs 0))
    ∧ ((fun (core : CoreIx) (s : State) => let n := core.val; tapOn s = true ∧ coreOpen s core.val = true ∧ coreRuns s n = true)
          1 (sec (fun x => {x with cores := 2}) (runs 0)))
    ∧ ((fun (core : CoreIx) (s : State) => let n := core.val; tapOn s = true ∧ coreOpen s core.val = true ∧ (coreOf s n).halted = true)
          1 (op1 (runs 0)))
    ∧ ((fun (core : CoreIx) (s : State) (act : StepAct) (pmp : Bool) => let n := core.val; tapOn s = true ∧ coreOpen s core.val = true
        ∧ (coreOf s n).halted = true) 1 (op1 (runs 0)) .other true)
    ∧ ((fun (core : CoreIx) (s : State) (reg val : Word) => let n := core.val; tapOn s = true ∧ coreOpen s core.val = true
        ∧ (coreOf s n).halted = true) 1 (op1 (runs 0)) 0x1005 77)
    ∧ ((fun (core : CoreIx) (addr val : Word) (s : State) => tapOn s = true ∧ coreOpen s core.val = true ∧ fwOn s = true
        ∧ (coreOf s core.val).state ∈ [.run, .ready, .quiesce] ∧ coreStalled s core.val = false ∧ addr.toNat + 4 ≤ 0x10000) 1 0x100 7 (op1 (runs 0))) := by
  refine ⟨?_, ?_, ?_, ?_, ?_, ?_, ?_, ?_⟩ <;> decide +kernel

end Sys2Proof.Tests
end

section
/-! PROOF. R19: no write tells the reserved bits of its value apart, whether the gate reads them or the register it reaches (O10). -/

namespace Sys2Proof.Machine
open Host

/-! ## A masked value -/

/-- A mask that holds the low `k` bits leaves the value's remainder by `2 ^ k` as it is. -/
theorem and_mod_two_pow_of_mask (v m k : Nat) (hm : m % 2 ^ k = 2 ^ k - 1) : (v &&& m) % 2 ^ k = v % 2 ^ k := by
  rw [Nat.and_mod_two_pow, hm, Nat.and_two_pow_sub_one_eq_mod, Nat.mod_mod]

theorem bitOf_and_of_bitOf (v m i : Nat) (hm : bitOf m i = true) : bitOf (v &&& m) i = bitOf v i := by
  unfold bitOf at hm ⊢
  rw [Nat.testBit_and, hm, Bool.and_true]

/-- A word's value under a mask, of which only the word's 32 bits count. -/
theorem toNat_and_ofNat (val : Word) (m : Nat) : (val &&& BitVec.ofNat 32 m).toNat = val.toNat &&& m := by
  have hlt : val.toNat &&& m < 2 ^ 32 := lt_of_le_of_lt Nat.and_le_left val.isLt
  rw [BitVec.toNat_and, BitVec.toNat_ofNat, ← Nat.mod_eq_of_lt hlt, Nat.and_mod_two_pow, Nat.mod_eq_of_lt val.isLt]

/-! ## The mask of a write -/

theorem writeMask_of_not_vf {who : Initiator} (hv : ∀ k hk, who ≠ .host ⟨k + 1, hk⟩) (off : Nat) : writeMask who off = regMask off := by
  unfold writeMask
  split
  · exact absurd rfl (hv _ _)
  · rfl

theorem regMask_of_regFind {off : Nat} {r : RegFamily} (hr : regFind off = some r) : regMask off = r.mask := by
  unfold regMask
  rw [hr]

/-- At a fixed offset the mask is a virtual function's doorbell mask or the register's. -/
theorem writeMask_eq_or (who : Initiator) (off : Nat) : writeMask who off = 0xFFF ∨ writeMask who off = regMask off := by
  unfold writeMask
  split
  · exact .inl rfl
  · exact .inr rfl

theorem regMask_commitCtl : regMask Reg.TOP_COMMIT_CTL = 7 := by decide

theorem regMask_rstCtl : regMask Reg.TOP_RST_CTL = 0xFF07 := by decide

theorem regMask_activeSel : regMask Reg.TOP_ACTIVE_SEL = 0x803FFFFC := by decide

theorem regMask_winSel : regMask Reg.REC_WIN_SEL = 7 := by decide

/-- GO, TICK and CANCEL of TOP_COMMIT_CTL lie within the mask of every initiator. -/
theorem bitOf_writeMask_commitCtl (who : Initiator) (i : Nat) (hi : i < 3) : bitOf (writeMask who Reg.TOP_COMMIT_CTL) i = true := by
  obtain h | h := writeMask_eq_or who Reg.TOP_COMMIT_CTL
  · rw [h]; interval_cases i <;> decide
  · rw [h, regMask_commitCtl]; interval_cases i <;> decide

/-- LEVEL of TOP_RST_CTL lies within the mask of every initiator. -/
theorem writeMask_rstCtl_level (who : Initiator) : writeMask who Reg.TOP_RST_CTL % 2 ^ 3 = 2 ^ 3 - 1 := by
  obtain h | h := writeMask_eq_or who Reg.TOP_RST_CTL
  · rw [h]; rfl
  · rw [h, regMask_rstCtl]; rfl

/-! ## The gate does not read reserved bits -/

/-- Of the value the gate reads LEVEL of TOP_RST_CTL alone. -/
theorem namedWriter_writeMask (s : State) (who : Initiator) (off val : Nat) :
    namedWriter s who off (val &&& writeMask who off) = namedWriter s who off val := by
  by_cases h : off = Reg.TOP_RST_CTL
  · subst h
    have hlevel : (val &&& writeMask who Reg.TOP_RST_CTL) % 8 = val % 8 := and_mod_two_pow_of_mask val _ 3 (writeMask_rstCtl_level who)
    simp only [namedWriter, hlevel]
  · simp only [namedWriter, h, if_false]

theorem gate_writeMask (s : State) (who : Initiator) (off val : Nat) : gate s who off (val &&& writeMask who off) = gate s who off val := by
  simp only [gate, namedWriter_writeMask]

/-- Of the value the report of R86 reads GO, TICK and CANCEL of TOP_COMMIT_CTL alone. -/
theorem ownerRefused_writeMask (s : State) (who : Initiator) (off val : Nat) :
    ownerRefused s off (val &&& writeMask who off) = ownerRefused s off val := by
  by_cases h : off = Reg.TOP_COMMIT_CTL
  · subst h
    have hbit (i : Nat) (hi : i < 3) : bitOf (val &&& writeMask who Reg.TOP_COMMIT_CTL) i = bitOf val i :=
      bitOf_and_of_bitOf val _ i (bitOf_writeMask_commitCtl who i hi)
    simp only [ownerRefused, hbit 0 (by omega), hbit 1 (by omega), hbit 2 (by omega)]
  · simp only [ownerRefused, h, false_and, if_false]

/-- A gated write ignores the reserved bits where what it does when admitted ignores them. -/
theorem gated_writeMask (s : State) (who : Initiator) (off val : Nat) (act act' : State → State) (hact : ∀ t, act' t = act t) :
    gated s who off (val &&& writeMask who off) act' = gated s who off val act := by
  obtain rfl : act' = act := funext hact
  simp only [gated, gate_writeMask, ownerRefused_writeMask]

/-! ## What an admitted write does with reserved bits -/

/-- R774: a doorbell carries twelve bits. -/
theorem sqDoorbell_and (s : State) (r v : Nat) : sqDoorbell s r (v &&& 0xFFF) = sqDoorbell s r v := by
  have h : (v &&& 0xFFF) % 4096 = v % 4096 := and_mod_two_pow_of_mask v 0xFFF 12 rfl
  simp only [sqDoorbell, h]

theorem cqDoorbell_and (s : State) (r v : Nat) : cqDoorbell s r (v &&& 0xFFF) = cqDoorbell s r v := by
  have h : (v &&& 0xFFF) % 4096 = v % 4096 := and_mod_two_pow_of_mask v 0xFFF 12 rfl
  simp only [cqDoorbell, h]

theorem activeSel_and (s : State) (who : Initiator) (v : Nat) : activeSel s who (v &&& regMask Reg.TOP_ACTIVE_SEL) = activeSel s who v := by
  have h : regMask Reg.TOP_ACTIVE_SEL &&& 0x3FFFFC = 0x3FFFFC := by rw [regMask_activeSel]; rfl
  unfold activeSel
  rw [Nat.and_assoc, h]

theorem bounds_of_inFam {base stride n off i : Nat} (h : inFam base stride n off = some i) : base ≤ off ∧ (off - base) / stride < n := by
  unfold inFam at h
  split at h
  next hin =>
    obtain ⟨hlo, -, hhi⟩ := hin
    exact ⟨hlo, hhi⟩
  · cases h

/-- The local section of either bank lies in the block of the budget-table banks. -/
theorem block_of_localWord {s : State} {off w : Nat} (hw : localWord s off = some w) : off / 0x10000 = 0x1F := by
  unfold localWord at hw
  split at hw
  next hfam =>
    have hbounds := bounds_of_inFam hfam
    split at hbounds <;> omega
  · cases hw

/-- Every word of the budget-table banks is implemented in full. -/
theorem regMask_of_localWord {s : State} {off w : Nat} {r : RegFamily} (hw : localWord s off = some w) (hr : regFind off = some r) :
    r.mask = 2 ^ 32 - 1 := by
  have hmem : r ∈ regBlock1F := by
    have := List.mem_of_find?_eq_some hr
    rwa [regBlock, block_of_localWord hw] at this
  rw [List.mem_singleton.1 hmem]; rfl

/-- A write of the local section keeps at most 32 bits of its value. -/
theorem localWrite_and (s : State) (w v : Nat) : localWrite s w (v &&& (2 ^ 32 - 1)) = localWrite s w v := by
  have hw (b : Tab Word) (m : Nat) : setBw b w (v &&& (2 ^ 32 - 1) &&& m) = setBw b w (v &&& m) := by
    have hval : BitVec.ofNat 32 (v &&& (2 ^ 32 - 1) &&& m) = BitVec.ofNat 32 (v &&& m) := by
      apply BitVec.eq_of_toNat_eq
      simp only [BitVec.toNat_ofNat, Nat.and_two_pow_sub_one_eq_mod, Nat.and_mod_two_pow, Nat.mod_mod]
    simp only [setBw, hval]
  simp only [localWrite, hw]

/-- An admitted write: each access type masks the value itself, but for the two selectors, the doorbells and the local section of a bank, which
keep no bit that their masks leave out. -/
theorem applyWrite_writeMask (x : WrExt) (s : State) (who : Initiator) (off val : Nat) :
    applyWrite x s who off (val &&& writeMask who off) = applyWrite x s who off val := by
  obtain ⟨k, hk, rfl⟩ | hv := fn0_or_other who
  · simp only [applyWrite, writeMask, sqDoorbell_and, cqDoorbell_and]
  rw [writeMask_of_not_vf hv]
  unfold applyWrite
  split
  · exact absurd rfl (hv _ _)
  by_cases hsel : off = Reg.TOP_ACTIVE_SEL
  · subst hsel
    simp only [if_true, activeSel_and]
  by_cases hwin : off = Reg.REC_WIN_SEL
  · subst hwin
    have hmod : (val &&& regMask Reg.REC_WIN_SEL) % 8 = val % 8 := and_mod_two_pow_of_mask val _ 3 (by rw [regMask_winSel]; rfl)
    simp only [hsel, if_false, if_true, hmod]
  simp only [hsel, hwin, if_false]
  cases hr : regFind off with
  | none => rfl
  | some r =>
    rw [regMask_of_regFind hr]
    simp only [Nat.and_assoc, Nat.and_self]
    cases hl : localWord s off with
    | none => rfl
    | some w => simp only [regMask_of_localWord hl hr, localWrite_and]

/-- R19 for a write with its admission. -/
theorem regWrite_writeMask (s : State) (who : Initiator) (off val : Nat) (x : WrExt) :
    regWrite s who off (val &&& writeMask who off) x = regWrite s who off val x :=
  gated_writeMask s who off val _ _ (fun t => applyWrite_writeMask x t who off val)

/-- Settles O10: neither the gate nor the write behind it reads a bit outside the mask. -/
theorem reservedWriteBitsIgnored : Obligations.ReservedWriteBitsIgnored := by
  intro who word val s
  have hexec (v : Word) : exec (.registerWrite who word v) s = .next (regWrite s who (4 * word.toNat) v.toNat) := rfl
  rw [hexec, hexec, toNat_and_ofNat, regWrite_writeMask]

end Sys2Proof.Machine
end

section
/-! PROOF. R281, R70: a parity error clears its tile, and what the producing plane's staging queue makes of the record (O27). -/

namespace Sys2Proof.Machine

variable (s : State)

/-! ## Reads through updates of other parts -/

theorem rd_of_regs {s t : State} (h : t.regs = s.regs) (off : Nat) : rd t off = rd s off := by
  unfold rd
  rw [h]

theorem stageQ_of_recd {s t : State} (h : t.recd = s.recd) (p : Plane) : stageQ t p = stageQ s p := by
  cases p <;> simp only [stageQ, h]

theorem stageDrop_of_recd {s t : State} (h : t.recd = s.recd) (p : Plane) : stageDrop t p = stageDrop s p := by
  cases p <;> simp only [stageDrop, h]

theorem stageQ_setStageQ (p : Plane) (q : List Entry) : stageQ (setStageQ s p q) p = q := by cases p <;> rfl

theorem stageQ_setStageDrop (p p' : Plane) (n : Nat) : stageQ (setStageDrop s p n) p' = stageQ s p' := by
  cases p <;> cases p' <;> rfl

theorem stageDrop_setStageDrop (p : Plane) (n : Nat) : stageDrop (setStageDrop s p n) p = n := by cases p <;> rfl

/-- R16: a counter field goes up by one and holds at its highest value. -/
theorem fld_bump_same (off : Nat) (f : Fld) (h : f.lo + f.len ≤ 32) :
    fld (bump s off f) off f = min (fld s off f + 1) (2 ^ f.len - 1) := by
  have hlt : min (fld s off f + 1) (2 ^ f.len - 1) < 2 ^ f.len := by have := Nat.two_pow_pos f.len; omega
  unfold bump bumpBy
  rw [fld_setF_same s off f _ h, Nat.mod_eq_of_lt hlt]

/-! ## A tile's state -/

theorem tileOf_setTile (n m : Nat) (f : TileSt → TileSt) : tileOf (setTile s n f) m = if n = m then f (tileOf s n) else tileOf s m :=
  tabGet_tabSet ({} : TileSt) s.fab.tile n m _

/-- Clearing a tile resets its state and, of a CMP tile, whose output is its state, also the signal that it drives. -/
theorem clearTile_cases (n : Nat) :
    clearTile s n = setTile s n (fun _ => {}) ∨ ∃ id, clearTile s n = setSig (setTile s n (fun _ => {})) id 0 := by
  unfold clearTile
  simp only
  split
  · exact .inr ⟨_, rfl⟩
  · exact .inl rfl

theorem tileOf_clearTile (n m : Nat) : tileOf (clearTile s n) m = if n = m then {} else tileOf s m := by
  have hset := tileOf_setTile s n m (fun _ => {})
  obtain h | ⟨id, h⟩ := clearTile_cases s n
  · rw [h, hset]
  · rw [h]
    exact hset

@[simp] theorem clearTile_regs (n : Nat) : (clearTile s n).regs = s.regs := by
  obtain h | ⟨id, h⟩ := clearTile_cases s n <;> simp [h]

@[simp] theorem clearTile_recd (n : Nat) : (clearTile s n).recd = s.recd := by
  obtain h | ⟨id, h⟩ := clearTile_cases s n <;> simp [h]

/-! ## A plane produces a record (R70, R71) -/

@[simp] theorem sinkTake_recd (r : Nat) : (sinkTake s r).recd = s.recd := rfl

@[simp] theorem sinkTake_fab (r : Nat) : (sinkTake s r).fab = s.fab := rfl

theorem rd_sinkTake {r off : Nat} (hcnt : Reg.TOP_DRAIN_CNT r ≠ off) (hstat : Reg.TOP_DRAIN_STATUS ≠ off) :
    rd (sinkTake s r) off = rd s off :=
  calc rd (sinkTake s r) off
      _ = rd (setF (bump s (Reg.TOP_DRAIN_CNT r) wordF) Reg.TOP_DRAIN_STATUS ⟨r, 1⟩ 1) off := rfl
      _ = rd (bump s (Reg.TOP_DRAIN_CNT r) wordF) off := rd_setF_ne _ _ _ hstat
      _ = rd s off := rd_setF_ne _ _ _ hcnt

@[simp] theorem dropRecord_fab (p : Plane) : (dropRecord s p).fab = s.fab := by simp [dropRecord]

@[simp] theorem placeLoss_fab (p : Plane) : (placeLoss s p).fab = s.fab := by
  unfold placeLoss
  split
  · simp
  · rfl

@[simp] theorem stage_fab (p : Plane) (e : Entry) : (stage s p e).fab = s.fab := by
  unfold stage
  simp only
  split
  · rw [setStageQ_fab, placeLoss_fab]
  · rw [dropRecord_fab, placeLoss_fab]

/-- The registers that producing a record can change: the event of a loss record, the plane's drop counter and sink 8 of the drain order. -/
def stageRegs (p : Plane) : List Nat :=
  [Reg.REC_EVENT, Reg.REC_ARB_DROP (planeNo p), Reg.TOP_DRAIN_CNT 8, Reg.TOP_DRAIN_STATUS]

theorem rd_placeLoss (p : Plane) {off : Nat} (h : Reg.REC_EVENT ≠ off) : rd (placeLoss s p) off = rd s off := by
  unfold placeLoss
  split
  · exact (rd_setF_ne _ _ _ h).trans (rd_of_regs (by simp) off)
  · rfl

theorem rd_dropRecord (p : Plane) {off : Nat} (h : off ∉ stageRegs p) : rd (dropRecord s p) off = rd s off := by
  simp only [stageRegs, List.mem_cons, List.not_mem_nil, or_false, not_or] at h
  obtain ⟨-, hdrop, hcnt, hstat⟩ := h
  unfold dropRecord
  rw [rd_sinkTake _ (Ne.symm hcnt) (Ne.symm hstat), rd_of_regs (setStageDrop_regs _ p _)]
  exact rd_setF_ne _ _ _ (Ne.symm hdrop)

theorem rd_stage (p : Plane) (e : Entry) {off : Nat} (h : off ∉ stageRegs p) : rd (stage s p e) off = rd s off := by
  have hloss : rd (placeLoss s p) off = rd s off := rd_placeLoss s p (fun he => h (by simp [stageRegs, he]))
  unfold stage
  simp only
  split
  · rw [rd_of_regs (setStageQ_regs _ p _), hloss]
  · rw [rd_dropRecord _ p h, hloss]

/-- R71: with nothing dropped no loss record is due. -/
theorem placeLoss_of_no_drop (p : Plane) (h : stageDrop s p = 0) : placeLoss s p = s := by simp [placeLoss, h]

/-- R71: a loss record waits for room. -/
theorem placeLoss_of_full (p : Plane) (h : stageDepth ≤ (stageQ s p).length) : placeLoss s p = s := by
  simp [placeLoss, Nat.not_lt.2 h]

/-- A record meets room in a queue that has dropped nothing: it joins at the end, with its plane's bits in place of its own. -/
theorem stageQ_stage_of_room (p : Plane) (e : Entry) (hdrop : stageDrop s p = 0) (hroom : (stageQ s p).length < stageDepth) :
    stageQ (stage s p e) p = stageQ s p ++ [{ e with flags := e.flags % 32 / 4 * 4 + planeNo p }] := by
  simp only [stage, placeLoss_of_no_drop s p hdrop, if_pos hroom, stageQ_setStageQ]

/-- R70: a record meets a full queue. -/
theorem stage_of_full (p : Plane) (e : Entry) (hfull : stageDepth ≤ (stageQ s p).length) : stage s p e = dropRecord s p := by
  simp only [stage, placeLoss_of_full s p hfull, if_neg (Nat.not_lt.2 hfull)]

theorem stageQ_dropRecord (p : Plane) : stageQ (dropRecord s p) p = stageQ s p := by
  unfold dropRecord
  rw [stageQ_of_recd (sinkTake_recd _ _), stageQ_setStageDrop, stageQ_of_recd (bump_recd _ _ _)]

theorem stageDrop_dropRecord (p : Plane) : stageDrop (dropRecord s p) p = stageDrop s p + 1 := by
  unfold dropRecord
  rw [stageDrop_of_recd (sinkTake_recd _ _), stageDrop_setStageDrop, stageDrop_of_recd (bump_recd _ _ _)]

/-! ## A parity error (R281) -/

/-- The state with a tile's parity error counted and flagged, its entry not yet produced. -/
def parityNoted (n : Nat) : State :=
  raise (bump (clearTile s n) Reg.FAB_PARITY_CNT ⟨0, 16⟩) Reg.FAB_EVENT F.FAB_EVENT_PARITY

/-- The fabric-parity entry of a tile, as the control plane produces it. -/
def parityEntry (n : Nat) : Entry := { cls := 0x09, typ := 0x01, unit := n % 2 ^ 16 }

theorem exec_fabricParityError (tile : Fin 128) :
    exec (.fabricParityError tile) s = .next (stage (parityNoted s tile.val) .control (parityEntry tile.val)) := rfl

theorem parityNoted_recd (n : Nat) : (parityNoted s n).recd = s.recd := by simp [parityNoted]

theorem tileOf_parityNoted (n m : Nat) : tileOf (parityNoted s n) m = if n = m then {} else tileOf s m :=
  tileOf_clearTile s n m

theorem parityCnt_parityNoted (n : Nat) :
    fld (parityNoted s n) Reg.FAB_PARITY_CNT ⟨0, 16⟩ = min (fld s Reg.FAB_PARITY_CNT ⟨0, 16⟩ + 1) 65535 :=
  calc fld (parityNoted s n) Reg.FAB_PARITY_CNT ⟨0, 16⟩
      _ = fld (bump (clearTile s n) Reg.FAB_PARITY_CNT ⟨0, 16⟩) Reg.FAB_PARITY_CNT ⟨0, 16⟩ := fld_setF_ne _ _ _ _ (by decide)
      _ = min (fld (clearTile s n) Reg.FAB_PARITY_CNT ⟨0, 16⟩ + 1) 65535 := fld_bump_same _ _ _ (by decide)
      _ = min (fld s Reg.FAB_PARITY_CNT ⟨0, 16⟩ + 1) 65535 := by unfold fld; rw [rd_of_regs (clearTile_regs s n)]

theorem parityFlag_parityNoted (n : Nat) : flag (parityNoted s n) Reg.FAB_EVENT F.FAB_EVENT_PARITY = true :=
  flag_raise _ Reg.FAB_EVENT 1 (by decide)

/-- Settles O27: the record leaves tiles, counter and flag as the parity check left them, and the queue takes the entry or drops it (R70). -/
theorem fabricParityClearsTile : Obligations.FabricParityClearsTile := by
  intro tile s
  refine ⟨_, exec_fabricParityError s tile, ?_⟩
  set u := parityNoted s tile.val
  set e := parityEntry tile.val
  have hq : stageQ u .control = stageQ s .control := stageQ_of_recd (parityNoted_recd s _) _
  have hd : stageDrop u .control = stageDrop s .control := stageDrop_of_recd (parityNoted_recd s _) _
  have htile (m : Nat) : tileOf (stage u .control e) m = if tile.val = m then {} else tileOf s m := by
    rw [← tileOf_parityNoted]
    unfold tileOf
    rw [stage_fab]
  refine ⟨?_, ?_, ?_, ?_, ?_, ?_⟩
  · rw [htile, if_pos rfl]
  · intro m hm
    rw [htile, if_neg (Ne.symm hm)]
  · rw [← parityCnt_parityNoted s tile.val]
    unfold fld
    rw [rd_stage u .control e (by decide)]
  · rw [← parityFlag_parityNoted s tile.val]
    unfold flag
    rw [rd_stage u .control e (by decide)]
  · intro hdrop hroom
    have hjoin := stageQ_stage_of_room u .control e (hd.trans hdrop) (by rw [hq]; exact hroom)
    rw [hq] at hjoin
    have hunit : tile.val % 2 ^ 16 = tile.val := Nat.mod_eq_of_lt (by omega)
    exact ⟨_, hjoin, rfl, rfl, hunit⟩
  · intro hfull
    rw [stage_of_full u .control e (by rw [hq]; exact hfull), stageQ_dropRecord, stageDrop_dropRecord, hq, hd]
    exact ⟨rfl, rfl⟩

end Sys2Proof.Machine
end

section
/-! PROOF. The footprint of a change of the state: the blocks that it may write, and the invariants of the registers, the memories and the
fuses that it keeps (O4 to O7, O11 to O13). -/

namespace Sys2Proof.Machine
open Host
set_option Elab.async false

/-! ## Sets of blocks -/

/-- Every block of `a` is a block of `b`. -/
def Blocks.le (a b : Blocks) : Bool :=
  (!a.regs || b.regs) && (!a.active || b.active) && (!a.top || b.top) && (!a.drain || b.drain) && (!a.bt || b.bt) && (!a.recd || b.recd)
    && (!a.tb || b.tb) && (!a.clk || b.clk) && (!a.ch || b.ch) && (!a.ph || b.ph) && (!a.quad || b.quad) && (!a.pb || b.pb) && (!a.fq || b.fq)
    && (!a.img || b.img) && (!a.nvs || b.nvs) && (!a.integ || b.integ) && (!a.fwc || b.fwc) && (!a.fab || b.fab) && (!a.tvl || b.tvl)
    && (!a.dom || b.dom) && (!a.est || b.est) && (!a.cap || b.cap) && (!a.hir || b.hir) && (!a.sbm || b.sbm) && (!a.sec || b.sec)
    && (!a.jtag || b.jtag) && (!a.pending || b.pending) && (!a.resp || b.resp) && (!a.freeCtr || b.freeCtr)

theorem and_imp_trans {p q r p' q' r' : Prop} (h : p → q → r) (h' : p' → q' → r') : p ∧ p' → q ∧ q' → r ∧ r' :=
  fun hp hq => ⟨h hp.1 hq.1, h' hp.2 hq.2⟩

theorem flag_le_trans {a b c : Bool} : (a = false ∨ b = true) → (b = false ∨ c = true) → (a = false ∨ c = true) := by
  cases a <;> cases b <;> simp

theorem Blocks.le_trans {a b c : Blocks} (hab : a.le b = true) (hbc : b.le c = true) : a.le c = true := by
  simp only [Blocks.le, Bool.and_eq_true, Bool.or_eq_true, Bool.not_eq_true'] at hab hbc ⊢
  revert hab hbc
  repeat' apply and_imp_trans
  all_goals exact flag_le_trans

theorem blank_blank {α : Type} {a b : Bool} (d x : α) (h : a = false ∨ b = true) :
    (if b = true then d else if a = true then d else x) = if b = true then d else x := by
  rcases h with rfl | rfl <;> simp

/-- Blanking the blocks of a set makes no odds where those of a larger set are blanked. -/
theorem State.but_but {a b : Blocks} (s : State) (h : a.le b = true) : State.but b (State.but a s) = State.but b s := by
  simp only [Blocks.le, Bool.and_eq_true, Bool.or_eq_true, Bool.not_eq_true', and_assoc] at h
  simp only [State.but, blank_blank, h]

/-! ## Fuses -/

theorem bitsKept_iff (a b : Nat) : bitsKept a b = true ↔ ∀ i, a.testBit i = true → b.testBit i = true := by
  unfold bitsKept
  rw [beq_iff_eq]
  constructor
  · intro h i hi
    rw [← h, Nat.testBit_and, Bool.and_eq_true] at hi
    exact hi.2
  · intro h
    refine Nat.eq_of_testBit_eq fun i => ?_
    rw [Nat.testBit_and]
    cases ha : a.testBit i
    · rfl
    · rw [h i ha]; rfl

theorem bitsKept_refl (a : Nat) : bitsKept a a = true := (bitsKept_iff a a).2 fun _ h => h

theorem bitsKept_trans {a b c : Nat} (hab : bitsKept a b = true) (hbc : bitsKept b c = true) : bitsKept a c = true :=
  (bitsKept_iff a c).2 fun i h => (bitsKept_iff b c).1 hbc i ((bitsKept_iff a b).1 hab i h)

theorem bitsKept_or (a b : Nat) : bitsKept a (a ||| b) = true :=
  (bitsKept_iff _ _).2 fun i h => by rw [Nat.testBit_or, h]; rfl

@[simp] theorem bitsKept_zero (b : Nat) : bitsKept 0 b = true := (bitsKept_iff 0 b).2 fun i h => by simp at h

theorem markKept_trans {a b c : Bool} (hab : (!a || b) = true) (hbc : (!b || c) = true) : (!a || c) = true := by
  cases a <;> cases b <;> simp_all

theorem ownerKept_refl (a : OwnerFuse) : ownerKept a a = true := by simp [ownerKept, bitsKept_refl]

theorem boundKept_refl (a : BoundFuse) : boundKept a a = true := by simp [boundKept, bitsKept_refl]

theorem ownerKept_trans {a b c : OwnerFuse} (hab : ownerKept a b = true) (hbc : ownerKept b c = true) : ownerKept a c = true := by
  simp only [ownerKept, Bool.and_eq_true] at hab hbc ⊢
  obtain ⟨⟨⟨h1, h2⟩, h3⟩, h4⟩ := hab
  obtain ⟨⟨⟨k1, k2⟩, k3⟩, k4⟩ := hbc
  exact ⟨⟨⟨bitsKept_trans h1 k1, bitsKept_trans h2 k2⟩, markKept_trans h3 k3⟩, markKept_trans h4 k4⟩

theorem boundKept_trans {a b c : BoundFuse} (hab : boundKept a b = true) (hbc : boundKept b c = true) : boundKept a c = true := by
  simp only [boundKept, Bool.and_eq_true] at hab hbc ⊢
  obtain ⟨⟨h1, h2⟩, h3⟩ := hab
  obtain ⟨⟨k1, k2⟩, k3⟩ := hbc
  exact ⟨⟨bitsKept_trans h1 k1, bitsKept_trans h2 k2⟩, markKept_trans h3 k3⟩

theorem fusesKept_iff (a b : FuseSt) : fusesKept a b = true ↔ bitsKept a.rootDisable b.rootDisable = true ∧ bitsKept a.imgRb b.imgRb = true
    ∧ bitsKept a.fwRb b.fwRb = true ∧ (!a.dbgRootOff || b.dbgRootOff) = true ∧ (!a.dbgOwnerOff || b.dbgOwnerOff) = true
    ∧ (∀ k < 4, ownerKept (tabGet {} a.owner k) (tabGet {} b.owner k) = true)
    ∧ ∀ i < 18, boundKept (tabGet {} a.bound i) (tabGet {} b.bound i) = true := by
  simp only [fusesKept, Bool.and_eq_true, List.all_eq_true, List.mem_range, and_assoc]

theorem fusesKept_refl (a : FuseSt) : fusesKept a a = true :=
  (fusesKept_iff a a).2 ⟨bitsKept_refl _, bitsKept_refl _, bitsKept_refl _, by simp, by simp, fun _ _ => ownerKept_refl _, fun _ _ => boundKept_refl _⟩

theorem fusesKept_trans {a b c : FuseSt} (hab : fusesKept a b = true) (hbc : fusesKept b c = true) : fusesKept a c = true := by
  rw [fusesKept_iff] at hab hbc ⊢
  obtain ⟨h1, h2, h3, h4, h5, h6, h7⟩ := hab
  obtain ⟨k1, k2, k3, k4, k5, k6, k7⟩ := hbc
  exact ⟨bitsKept_trans h1 k1, bitsKept_trans h2 k2, bitsKept_trans h3 k3, markKept_trans h4 k4, markKept_trans h5 k5,
    fun k hk => ownerKept_trans (h6 k hk) (k6 k hk), fun i hi => boundKept_trans (h7 i hi) (k7 i hi)⟩

/-! ## Register words and memories -/

/-- A table of register words in canonical form: offsets rise and no word equal to its reset value is listed. -/
def wordsCanon (t : Tab Word) : Prop := tabRises t ∧ ∀ p ∈ t, p.2 ≠ resetOf p.1

theorem regsWf_iff (s : State) : regsWf s = true ↔ wordsCanon s.regs ∧ wordsCanon s.active := by
  simp only [regsWf, wordsCanon, Bool.and_eq_true, keysRise_iff, List.all_eq_true, decide_eq_true_eq]
  tauto

theorem wordsCanon_nil : wordsCanon [] := ⟨trivial, by simp⟩

theorem wordsCanon_filter {t : Tab Word} (f : Nat × Word → Bool) (h : wordsCanon t) : wordsCanon (t.filter f) :=
  ⟨tabRises_filter t f h.1, fun p hp => h.2 p (List.mem_filter.1 hp).1⟩

theorem wordsCanon_tabSet {t : Tab Word} (i : Nat) (v : Word) (h : wordsCanon t) : wordsCanon (tabSet (resetOf i) t i v) := by
  have he : tabRises (tabErase t i) := tabRises_erase t i h.1
  unfold tabSet
  by_cases hv : v = resetOf i
  · rw [if_pos hv]
    exact ⟨he, fun p hp => h.2 p ((mem_tabErase t i p).1 hp).1⟩
  · rw [if_neg hv]
    refine ⟨tabRises_ins _ i v he (fun p hp => ((mem_tabErase t i p).1 hp).2), fun p hp => ?_⟩
    rcases (mem_tabIns _ i v p).1 hp with rfl | hp
    · exact hv
    · exact h.2 p ((mem_tabErase t i p).1 hp).1

theorem wordsCanon_commitActive (s : State) (m : Nat) (snap : Tab Word) (h : wordsCanon s.active) : wordsCanon (commitActive s m snap) := by
  have key (l : Tab Word) : ∀ t, wordsCanon t → wordsCanon (l.foldl (fun t p => tabSet (resetOf p.1) t p.1 p.2) t) := by
    induction l with
    | nil => exact fun t ht => ht
    | cons p l ih => exact fun t ht => ih _ (wordsCanon_tabSet p.1 p.2 ht)
  exact key snap _ (wordsCanon_filter _ h)

theorem memWf_nil : Memory.wf [] = true := rfl

/-- Bytes written one after another keep a memory's canonical form. -/
theorem memWf_foldl {α : Type} (l : List α) (at_ : α → Nat) (v : α → Byte) (t : Tab Byte) (h : Memory.wf t = true) :
    Memory.wf (l.foldl (fun t x => tabSet 0 t (at_ x) (v x)) t) = true := by
  induction l generalizing t with
  | nil => exact h
  | cons x l ih => exact ih _ (tabWf_tabSet 0 t _ _ h)

theorem memWf_tcmImage (s : State) (i : FwImg) : Memory.wf (tcmImage s i) = true := by
  have key (l : List (FwSeg × Nat)) : ∀ t, Memory.wf t = true → Memory.wf (l.foldl (fun t g =>
      (List.range g.1.len).foldl (fun t k => tabSet 0 t (g.1.dest + k) (memByte s (i.retain + g.2 + k))) t) t) = true := by
    induction l with
    | nil => exact fun t ht => ht
    | cons g l ih => exact fun t ht => ih _ (memWf_foldl (List.range g.1.len) (fun k => g.1.dest + k) (fun k => memByte s (i.retain + g.2 + k)) t ht)
  exact key _ _ memWf_nil

theorem memoriesWf_iff (s : State) : memoriesWf s = true ↔ Memory.wf s.fwc.mem = true ∧ ∀ n < 8, Memory.wf (coreOf s n).tcm = true := by
  simp only [memoriesWf, Bool.and_eq_true, List.all_eq_true, List.mem_range]

/-! ## The footprint relation -/

/-- `t` comes from `s` by a change that writes no block outside `W` and breaks none of the invariants of the registers, the memories and the
fuses. -/
structure Evolves (W : Blocks) (s t : State) : Prop where
  but : State.but W t = State.but W s
  regs : regsWf s = true → regsWf t = true
  mems : memoriesWf s = true → memoriesWf t = true
  fuses : fusesKept s.sec.fuse t.sec.fuse = true

/-- A change that leaves a state behind where it leaves one. -/
def EvolvesIf (W : Blocks) (s : State) (o : Option State) : Prop := ∀ t, o = some t → Evolves W s t

/-- A command's answer: a next state, reached by a change within `W`. -/
def Answers (W : Blocks) (s : State) (r : Result) : Prop := ∃ t, r = .next t ∧ Evolves W s t

variable {A B W : Blocks} {s t u : State}

theorem Evolves.refl : Evolves W s s := ⟨rfl, id, id, fusesKept_refl _⟩

theorem Evolves.trans (h : Evolves W s t) (k : Evolves W t u) : Evolves W s u :=
  ⟨k.but.trans h.but, k.regs ∘ h.regs, k.mems ∘ h.mems, fusesKept_trans h.fuses k.fuses⟩

theorem Evolves.mono (h : Evolves A s t) (hA : A.le W = true := by rfl) : Evolves W s t :=
  ⟨by rw [← State.but_but t hA, h.but, State.but_but s hA], h.regs, h.mems, h.fuses⟩

theorem Evolves.via (h : Evolves A s t) (hB : B.le W = true) (hA : A.le B = true := by rfl) : Evolves W s t :=
  h.mono (Blocks.le_trans hA hB)

/-- A change that writes neither the registers' words, nor a memory, nor the fuses. -/
theorem Evolves.put (hb : State.but W t = State.but W s := by rfl) (hr : t.regs = s.regs := by rfl) (ha : t.active = s.active := by rfl)
    (hm : t.fwc.mem = s.fwc.mem := by rfl) (hc : t.fwc.core = s.fwc.core := by rfl) (hf : t.sec.fuse = s.sec.fuse := by rfl) : Evolves W s t where
  but := hb
  regs := by rw [regsWf_iff, regsWf_iff, hr, ha]; exact id
  mems := by
    have hcore (n : Nat) : coreOf t n = coreOf s n := by unfold coreOf; rw [hc]
    simp only [memoriesWf_iff, hm, hcore]
    exact id
  fuses := by rw [hf]; exact fusesKept_refl _

/-- A change of the register words that leaves both tables of words in canonical form. -/
theorem Evolves.putWords (hw : wordsCanon s.regs → wordsCanon s.active → wordsCanon t.regs ∧ wordsCanon t.active)
    (hb : State.but W t = State.but W s := by rfl) (hm : t.fwc.mem = s.fwc.mem := by rfl) (hc : t.fwc.core = s.fwc.core := by rfl)
    (hf : t.sec.fuse = s.sec.fuse := by rfl) : Evolves W s t where
  but := hb
  regs h := by
    rw [regsWf_iff] at h ⊢
    exact hw h.1 h.2
  mems := by
    have hcore (n : Nat) : coreOf t n = coreOf s n := by unfold coreOf; rw [hc]
    simp only [memoriesWf_iff, hm, hcore]
    exact id
  fuses := by rw [hf]; exact fusesKept_refl _

/-- A change of the firmware complex that leaves its memories in canonical form. -/
theorem Evolves.putMems (hw : Memory.wf s.fwc.mem = true → (∀ n < 8, Memory.wf (coreOf s n).tcm = true) →
      Memory.wf t.fwc.mem = true ∧ ∀ n < 8, Memory.wf (coreOf t n).tcm = true)
    (hb : State.but W t = State.but W s := by rfl) (hr : t.regs = s.regs := by rfl) (ha : t.active = s.active := by rfl)
    (hf : t.sec.fuse = s.sec.fuse := by rfl) : Evolves W s t where
  but := hb
  regs := by rw [regsWf_iff, regsWf_iff, hr, ha]; exact id
  mems h := by
    rw [memoriesWf_iff] at h ⊢
    exact hw h.1 h.2
  fuses := by rw [hf]; exact fusesKept_refl _

theorem Evolves.ite {c : Prop} [Decidable c] (h : Evolves W s t) (k : Evolves W s u) : Evolves W s (if c then t else u) := by
  split
  · exact h
  · exact k

theorem Evolves.iteSnd {α : Type} {c : Prop} [Decidable c] {x y : α × State} (h : Evolves W s x.2) (k : Evolves W s y.2) :
    Evolves W s (if c then x else y).2 := by
  split
  · exact h
  · exact k

theorem Evolves.iteFst {α : Type} {c : Prop} [Decidable c] {x y : State × α} (h : Evolves W s x.1) (k : Evolves W s y.1) :
    Evolves W s (if c then x else y).1 := by
  split
  · exact h
  · exact k

theorem Evolves.bind {α : Type} {p : α × State} {f : α → State → State} (h : Evolves W s p.2) (k : ∀ a t, Evolves W t (f a t)) :
    Evolves W s (match (generalizing := false) p with | (a, t) => f a t) :=
  h.trans (k p.1 p.2)

theorem Evolves.bindFst {α : Type} {p : State × α} {f : State → α → State} (h : Evolves W s p.1) (k : ∀ a t, Evolves W t (f t a)) :
    Evolves W s (match (generalizing := false) p with | (t, a) => f t a) :=
  h.trans (k p.2 p.1)

theorem Evolves.bindSnd {α β : Type} {p : α × State} {f : α → State → β × State} (h : Evolves W s p.2) (k : ∀ a t, Evolves W t (f a t).2) :
    Evolves W s (match (generalizing := false) p with | (a, t) => f a t).2 :=
  h.trans (k p.1 p.2)

theorem Evolves.forEach {α : Type} {l : List α} {f : State → α → State} (h : ∀ t x, Evolves W t (f t x)) : Evolves W s (forEach l s f) := by
  unfold Machine.forEach
  induction l generalizing s with
  | nil => exact .refl
  | cons x l ih => exact (h s x).trans ih

theorem Evolves.foldlSnd {α β : Type} {a : β} {l : List α} {f : β × State → α → β × State} (h : ∀ b t x, Evolves W t (f (b, t) x).2) :
    Evolves W s (l.foldl f (a, s)).2 := by
  induction l generalizing s a with
  | nil => exact .refl
  | cons x l ih => exact (h a s x).trans ih

theorem Evolves.foldlFst {α β : Type} {b : β} {l : List α} {f : State × β → α → State × β} (h : ∀ t b x, Evolves W t (f (t, b) x).1) :
    Evolves W s (l.foldl f (s, b)).1 := by
  induction l generalizing s b with
  | nil => exact .refl
  | cons x l ih => exact (h s b x).trans ih

theorem EvolvesIf.none : EvolvesIf W s none := fun _ h => nomatch h

theorem EvolvesIf.some (h : Evolves W s t) : EvolvesIf W s (some t) := fun _ e => Option.some.inj e ▸ h

theorem EvolvesIf.ite {c : Prop} [Decidable c] {o p : Option State} (h : EvolvesIf W s o) (k : EvolvesIf W s p) :
    EvolvesIf W s (if c then o else p) := by
  split
  · exact h
  · exact k

theorem Answers.next (h : Evolves W s t) : Answers W s (.next t) := ⟨t, rfl, h⟩

theorem Answers.ite {c : Prop} [Decidable c] {r q : Result} (h : Answers W s r) (k : Answers W s q) : Answers W s (if c then r else q) := by
  split
  · exact h
  · exact k

theorem Answers.bind {α : Type} {p : α × State} {f : α → State → Result} (h : Evolves W s p.2) (k : ∀ a t, Answers W t (f a t)) :
    Answers W s (match (generalizing := false) p with | (a, t) => f a t) := by
  obtain ⟨u, hr, hu⟩ := k p.1 p.2
  exact ⟨u, hr, h.trans hu⟩

theorem Answers.bindFst {α : Type} {p : State × α} {f : State → α → Result} (h : Evolves W s p.1) (k : ∀ a t, Answers W t (f t a)) :
    Answers W s (match (generalizing := false) p with | (t, a) => f t a) := by
  obtain ⟨u, hr, hu⟩ := k p.2 p.1
  exact ⟨u, hr, h.trans hu⟩

theorem Answers.trans {r : Result} (h : Evolves W s t) (k : Answers W t r) : Answers W s r := by
  obtain ⟨u, hr, hu⟩ := k
  exact ⟨u, hr, h.trans hu⟩

/-! ## Updates of whole blocks -/

theorem Evolves.set_bt {x : BudgetSt} (hW : Blocks.le { bt := true } W = true := by rfl) :
    Evolves W s { s with bt := x } :=
  Evolves.mono (A := { bt := true }) (.put) hW

theorem Evolves.set_bt_dom {x0 : BudgetSt} {x1 : DomSt} (hW : Blocks.le { bt := true, dom := true } W = true := by rfl) :
    Evolves W s { s with bt := x0, dom := x1 } :=
  Evolves.mono (A := { bt := true, dom := true }) (.put) hW

theorem Evolves.set_bt_img {x0 : BudgetSt} {x1 : ImgSt} (hW : Blocks.le { bt := true, img := true } W = true := by rfl) :
    Evolves W s { s with bt := x0, img := x1 } :=
  Evolves.mono (A := { bt := true, img := true }) (.put) hW

theorem Evolves.set_cap {x : CapSt} (hW : Blocks.le { cap := true } W = true := by rfl) :
    Evolves W s { s with cap := x } :=
  Evolves.mono (A := { cap := true }) (.put) hW

theorem Evolves.set_ch {x : Tab ChSt} (hW : Blocks.le { ch := true } W = true := by rfl) :
    Evolves W s { s with ch := x } :=
  Evolves.mono (A := { ch := true }) (.put) hW

theorem Evolves.set_clk {x : ClkSt} (hW : Blocks.le { clk := true } W = true := by rfl) :
    Evolves W s { s with clk := x } :=
  Evolves.mono (A := { clk := true }) (.put) hW

theorem Evolves.set_dom {x : DomSt} (hW : Blocks.le { dom := true } W = true := by rfl) :
    Evolves W s { s with dom := x } :=
  Evolves.mono (A := { dom := true }) (.put) hW

theorem Evolves.set_drain {x : Tab Nat} (hW : Blocks.le { drain := true } W = true := by rfl) :
    Evolves W s { s with drain := x } :=
  Evolves.mono (A := { drain := true }) (.put) hW

theorem Evolves.set_est {x : EstSt} (hW : Blocks.le { est := true } W = true := by rfl) :
    Evolves W s { s with est := x } :=
  Evolves.mono (A := { est := true }) (.put) hW

theorem Evolves.set_fab {x : FabSt} (hW : Blocks.le { fab := true } W = true := by rfl) :
    Evolves W s { s with fab := x } :=
  Evolves.mono (A := { fab := true }) (.put) hW

theorem Evolves.set_fq {x : FqSt} (hW : Blocks.le { fq := true } W = true := by rfl) :
    Evolves W s { s with fq := x } :=
  Evolves.mono (A := { fq := true }) (.put) hW

theorem Evolves.set_fq_fab {x0 : FqSt} {x1 : FabSt} (hW : Blocks.le { fq := true, fab := true } W = true := by rfl) :
    Evolves W s { s with fq := x0, fab := x1 } :=
  Evolves.mono (A := { fq := true, fab := true }) (.put) hW

theorem Evolves.set_freeCtr {x : Nat} (hW : Blocks.le { freeCtr := true } W = true := by rfl) :
    Evolves W s { s with freeCtr := x } :=
  Evolves.mono (A := { freeCtr := true }) (.put) hW

theorem Evolves.set_fwc {x : FwcSt} (hW : Blocks.le { fwc := true } W = true := by rfl) (hm : x.mem = s.fwc.mem := by rfl) (hc : x.core =
    s.fwc.core := by rfl) :
    Evolves W s { s with fwc := x } :=
  Evolves.mono (A := { fwc := true }) (.put (hm := hm) (hc := hc)) hW

theorem Evolves.set_fwc_sec {x0 : FwcSt} {x1 : SecSt} (hW : Blocks.le { fwc := true, sec := true } W = true := by rfl) (hm : x0.mem =
    s.fwc.mem := by rfl) (hc : x0.core = s.fwc.core := by rfl) (hf : x1.fuse = s.sec.fuse := by rfl) :
    Evolves W s { s with fwc := x0, sec := x1 } :=
  Evolves.mono (A := { fwc := true, sec := true }) (.put (hm := hm) (hc := hc) (hf := hf)) hW

theorem Evolves.set_hir {x : HirSt} (hW : Blocks.le { hir := true } W = true := by rfl) :
    Evolves W s { s with hir := x } :=
  Evolves.mono (A := { hir := true }) (.put) hW

theorem Evolves.set_img {x : ImgSt} (hW : Blocks.le { img := true } W = true := by rfl) :
    Evolves W s { s with img := x } :=
  Evolves.mono (A := { img := true }) (.put) hW

theorem Evolves.set_integ {x : IntegSt} (hW : Blocks.le { integ := true } W = true := by rfl) :
    Evolves W s { s with integ := x } :=
  Evolves.mono (A := { integ := true }) (.put) hW

theorem Evolves.set_jtag {x : JtagSt} (hW : Blocks.le { jtag := true } W = true := by rfl) :
    Evolves W s { s with jtag := x } :=
  Evolves.mono (A := { jtag := true }) (.put) hW

theorem Evolves.set_jtag_resp {x0 : JtagSt} {x1 : Resp} (hW : Blocks.le { jtag := true, resp := true } W = true := by rfl) :
    Evolves W s { s with jtag := x0, resp := x1 } :=
  Evolves.mono (A := { jtag := true, resp := true }) (.put) hW

theorem Evolves.set_nvs {x : NvsSt} (hW : Blocks.le { nvs := true } W = true := by rfl) :
    Evolves W s { s with nvs := x } :=
  Evolves.mono (A := { nvs := true }) (.put) hW

theorem Evolves.set_pb {x : PbSt} (hW : Blocks.le { pb := true } W = true := by rfl) :
    Evolves W s { s with pb := x } :=
  Evolves.mono (A := { pb := true }) (.put) hW

theorem Evolves.set_ph {x : Tab PhSt} (hW : Blocks.le { ph := true } W = true := by rfl) :
    Evolves W s { s with ph := x } :=
  Evolves.mono (A := { ph := true }) (.put) hW

theorem Evolves.set_quad {x : Tab QuadSt} (hW : Blocks.le { quad := true } W = true := by rfl) :
    Evolves W s { s with quad := x } :=
  Evolves.mono (A := { quad := true }) (.put) hW

theorem Evolves.set_recd {x : RecSt} (hW : Blocks.le { recd := true } W = true := by rfl) :
    Evolves W s { s with recd := x } :=
  Evolves.mono (A := { recd := true }) (.put) hW

theorem Evolves.set_resp {x : Resp} (hW : Blocks.le { resp := true } W = true := by rfl) :
    Evolves W s { s with resp := x } :=
  Evolves.mono (A := { resp := true }) (.put) hW

theorem Evolves.set_sbm {x : SbmSt} (hW : Blocks.le { sbm := true } W = true := by rfl) :
    Evolves W s { s with sbm := x } :=
  Evolves.mono (A := { sbm := true }) (.put) hW

theorem Evolves.set_sec {x : SecSt} (hW : Blocks.le { sec := true } W = true := by rfl) (hf : x.fuse = s.sec.fuse := by rfl) :
    Evolves W s { s with sec := x } :=
  Evolves.mono (A := { sec := true }) (.put (hf := hf)) hW

theorem Evolves.set_tb {x : TbSt} (hW : Blocks.le { tb := true } W = true := by rfl) :
    Evolves W s { s with tb := x } :=
  Evolves.mono (A := { tb := true }) (.put) hW

theorem Evolves.set_top {x : TopSt} (hW : Blocks.le { top := true } W = true := by rfl) :
    Evolves W s { s with top := x } :=
  Evolves.mono (A := { top := true }) (.put) hW

theorem Evolves.set_top_bt_recd_ch_img_tvl_dom_est_cap {x0 : TopSt} {x1 : BudgetSt} {x2 : RecSt} {x3 : Tab ChSt} {x4 : ImgSt} {x5 : TvlSt}
    {x6 : DomSt} {x7 : EstSt} {x8 : CapSt}
    (hW : Blocks.le { top := true, bt := true, recd := true, ch := true, img := true, tvl := true, dom := true, est := true, cap := true } W = true
      := by rfl) :
    Evolves W s { s with top := x0, bt := x1, recd := x2, ch := x3, img := x4, tvl := x5, dom := x6, est := x7, cap := x8 } :=
  Evolves.mono (A := { top := true, bt := true, recd := true, ch := true, img := true, tvl := true, dom := true, est := true, cap := true })
    .put hW

theorem Evolves.set_top_est {x0 : TopSt} {x1 : EstSt} (hW : Blocks.le { top := true, est := true } W = true := by rfl) :
    Evolves W s { s with top := x0, est := x1 } :=
  Evolves.mono (A := { top := true, est := true }) (.put) hW

theorem Evolves.set_top_img {x0 : TopSt} {x1 : ImgSt} (hW : Blocks.le { top := true, img := true } W = true := by rfl) :
    Evolves W s { s with top := x0, img := x1 } :=
  Evolves.mono (A := { top := true, img := true }) (.put) hW

theorem Evolves.set_top_resp {x0 : TopSt} {x1 : Resp} (hW : Blocks.le { top := true, resp := true } W = true := by rfl) :
    Evolves W s { s with top := x0, resp := x1 } :=
  Evolves.mono (A := { top := true, resp := true }) (.put) hW

theorem Evolves.set_top_tb_ph_quad {x0 : TopSt} {x1 : TbSt} {x2 : Tab PhSt} {x3 : Tab QuadSt}
    (hW : Blocks.le { top := true, tb := true, ph := true, quad := true } W = true := by rfl) :
    Evolves W s { s with top := x0, tb := x1, ph := x2, quad := x3 } :=
  Evolves.mono (A := { top := true, tb := true, ph := true, quad := true }) .put hW

theorem Evolves.set_tvl {x : TvlSt} (hW : Blocks.le { tvl := true } W = true := by rfl) :
    Evolves W s { s with tvl := x } :=
  Evolves.mono (A := { tvl := true }) (.put) hW

/-! ## The places that write register words, memories or fuses -/

theorem wr_evolves {off : Nat} {w : Word} : Evolves { regs := true } s (wr s off w) :=
  .putWords fun hr ha => ⟨wordsCanon_tabSet off w hr, ha⟩

theorem wrAc_evolves {off : Nat} {w : Word} : Evolves { active := true } s (wrAc s off w) :=
  .putWords fun hr ha => ⟨hr, wordsCanon_tabSet off w ha⟩

theorem regsFilter_evolves {f : Nat × Word → Bool} : Evolves { regs := true } s { s with regs := s.regs.filter f } :=
  .putWords fun hr ha => ⟨wordsCanon_filter f hr, ha⟩

theorem commitActive_evolves {m : Nat} {snap : Tab Word} : Evolves { active := true } s { s with active := commitActive s m snap } :=
  .putWords fun hr ha => ⟨hr, wordsCanon_commitActive s m snap ha⟩

theorem coreOf_setCore (s : State) (n m : Nat) (f : CoreSt → CoreSt) : coreOf (setCore s n f) m = if n = m then f (coreOf s n) else coreOf s m := by
  unfold coreOf setCore
  exact tabGet_tabSet {} s.fwc.core n m _

/-- A change of a core that keeps the canonical form of its TCM. -/
theorem setCore_evolves_of_wf {n : Nat} {f : CoreSt → CoreSt} (h : ∀ c, Memory.wf c.tcm = true → Memory.wf (f c).tcm = true) :
    Evolves { fwc := true } s (setCore s n f) := by
  refine .putMems fun hm hc => ⟨hm, fun m hlt => ?_⟩
  rw [coreOf_setCore]
  split
  next heq => exact h _ (heq ▸ hc m hlt)
  next => exact hc m hlt

@[simp] theorem putCacheSet_tcm (c : CoreSt) (ic : Bool) (l : Nat) (x : CacheSet) : (putCacheSet c ic l x).tcm = c.tcm := by
  unfold putCacheSet
  split <;> rfl

@[simp] theorem untag_tcm (c : CoreSt) (ic : Bool) (l : Nat) : (untag c ic l).tcm = c.tcm := by
  unfold untag
  split <;> simp

theorem setCore_evolves {n : Nat} {f : CoreSt → CoreSt} (hW : Blocks.le { fwc := true } W = true := by rfl)
    (h : ∀ c, (f c).tcm = c.tcm := by intro c; (repeat' split) <;> simp) : Evolves W s (setCore s n f) :=
  (setCore_evolves_of_wf fun c hc => by rw [h c]; exact hc).mono hW

theorem memPoke_evolves {ix : Nat} {b : List Byte} : Evolves { fwc := true } s (memPoke s ix b) :=
  .putMems fun hm hc => ⟨memWf_foldl (List.range b.length) (fun i => ix + i) (fun i => b.getD i 0) _ hm, hc⟩

theorem setFuse_evolves {f : FuseSt → FuseSt} (h : fusesKept s.sec.fuse (f s.sec.fuse) = true) : Evolves { sec := true } s (setFuse s f) :=
  ⟨rfl, id, id, h⟩

theorem setOwner_evolves {k : Nat} {o : OwnerFuse} (h : ownerKept (ownerOf s k) o = true) : Evolves { sec := true } s (setOwner s k o) := by
  refine setFuse_evolves ((fusesKept_iff _ _).2 ⟨bitsKept_refl _, bitsKept_refl _, bitsKept_refl _, by simp, by simp, fun j _ => ?_, fun _ _ => boundKept_refl _⟩)
  rw [tabGet_tabSet]
  split
  next heq => exact heq ▸ h
  next => exact ownerKept_refl _

theorem setBound_evolves {i : Nat} {x : BoundFuse} (h : boundKept (tabGet {} s.sec.fuse.bound i) x = true) : Evolves { sec := true } s (setBound s i x) := by
  refine setFuse_evolves ((fusesKept_iff _ _).2 ⟨bitsKept_refl _, bitsKept_refl _, bitsKept_refl _, by simp, by simp, fun _ _ => ownerKept_refl _, fun j _ => ?_⟩)
  rw [tabGet_tabSet]
  split
  next heq => exact heq ▸ h
  next => exact boundKept_refl _

/-- A free owner entry has no bit programmed, so whatever is programmed there keeps it. -/
theorem ownerKept_of_free {k : Nat} (o : OwnerFuse) (h : freeOwner s = some k) : ownerKept (ownerOf s k) o = true := by
  have hz := List.find?_some h
  simp only [beq_iff_eq, ownerState] at hz
  split at hz
  · omega
  next hrev =>
    split at hz
    · omega
    · split at hz
      next hfree => simp_all [ownerKept]
      · omega

theorem boundKept_of_free {b k : Nat} (x : BoundFuse) (h : freeBound s b = some k) : boundKept (tabGet {} s.sec.fuse.bound (3 * b + k)) x = true := by
  have hz := List.find?_some h
  simp only [beq_iff_eq, boundOf] at hz
  rw [hz]
  simp [boundKept]

theorem ownerKept_revoked (o : OwnerFuse) : ownerKept o { o with revoked := true } = true := by simp [ownerKept, bitsKept_refl]

theorem fusesKept_rootDisable (f : FuseSt) (n : Nat) : fusesKept f { f with rootDisable := f.rootDisable ||| n } = true :=
  (fusesKept_iff _ _).2 ⟨bitsKept_or _ _, bitsKept_refl _, bitsKept_refl _, by simp, by simp, fun _ _ => ownerKept_refl _, fun _ _ => boundKept_refl _⟩

theorem fusesKept_imgRb (f : FuseSt) (n : Nat) : fusesKept f { f with imgRb := f.imgRb ||| n } = true :=
  (fusesKept_iff _ _).2 ⟨bitsKept_refl _, bitsKept_or _ _, bitsKept_refl _, by simp, by simp, fun _ _ => ownerKept_refl _, fun _ _ => boundKept_refl _⟩

theorem fusesKept_fwRb (f : FuseSt) (n : Nat) : fusesKept f { f with fwRb := f.fwRb ||| n } = true :=
  (fusesKept_iff _ _).2 ⟨bitsKept_refl _, bitsKept_refl _, bitsKept_or _ _, by simp, by simp, fun _ _ => ownerKept_refl _, fun _ _ => boundKept_refl _⟩

theorem fusesKept_dbgOff (f : FuseSt) (a b : Bool) : fusesKept f { f with dbgRootOff := f.dbgRootOff || a, dbgOwnerOff := f.dbgOwnerOff || b } = true :=
  (fusesKept_iff _ _).2 ⟨bitsKept_refl _, bitsKept_refl _, bitsKept_refl _, by cases f.dbgRootOff <;> simp, by cases f.dbgOwnerOff <;> simp,
    fun _ _ => ownerKept_refl _, fun _ _ => boundKept_refl _⟩
end Sys2Proof.Machine
end

section
/-! PROOF. One lemma per function of the model that changes the state: the blocks that it writes, with the invariants that it keeps, and one per
command: that it answers. They stand in the order of the model's files. -/

namespace Sys2Proof.Machine
open Host
set_option Elab.async false

/-! ## Ops -/

theorem wrN_evolves {s off n} : Evolves { regs := true } s (wrN s off n) := by
  unfold wrN
  exact wr_evolves.mono

theorem setF_evolves {s off f v} : Evolves { regs := true } s (setF s off f v) := by
  unfold setF
  exact wr_evolves.mono

theorem raise_evolves {s off f} : Evolves { regs := true } s (raise s off f) := by
  unfold raise
  exact setF_evolves.mono

theorem lower_evolves {s off f} : Evolves { regs := true } s (lower s off f) := by
  unfold lower
  exact setF_evolves.mono

theorem bumpBy_evolves {s off f n} : Evolves { regs := true } s (bumpBy s off f n) := by
  unfold bumpBy
  exact setF_evolves.mono

theorem bump_evolves {s off f} : Evolves { regs := true } s (bump s off f) := by
  unfold bump
  exact bumpBy_evolves.mono

theorem wr64_evolves {s lo v} : Evolves { regs := true } s (wr64 s lo v) := by
  unfold wr64
  exact .trans wrN_evolves.mono wrN_evolves.mono

theorem bump48_evolves {s lo n} : Evolves { regs := true } s (bump48 s lo n) := by
  unfold bump48
  exact wr64_evolves.mono

theorem drawNat_evolves {s n} : Evolves { freeCtr := true } s (drawNat s n).2 := by
  unfold drawNat
  exact .set_freeCtr

theorem drawInt_evolves {s} : Evolves { freeCtr := true } s (drawInt s).2 := by
  unfold drawInt
  exact .set_freeCtr

theorem reach_evolves {s t} : Evolves { tb := true } s (reach s t) := by
  unfold reach
  exact .ite .set_tb .refl

theorem tbEdge_evolves {s} : Evolves { tb := true } s (tbEdge s) := by
  unfold tbEdge
  exact .ite .set_tb .refl

theorem sinkTake_evolves {s r} : Evolves { regs := true, drain := true } s (sinkTake s r) := by
  unfold sinkTake
  exact .trans bump_evolves.mono (.trans setF_evolves.mono .set_drain)

theorem setStageQ_evolves {s p q} : Evolves { recd := true } s (setStageQ s p q) := by
  unfold setStageQ
  split
  · exact .set_recd
  · exact .set_recd
  · exact .set_recd

theorem setStageDrop_evolves {s p n} : Evolves { recd := true } s (setStageDrop s p n) := by
  unfold setStageDrop
  split
  · exact .set_recd
  · exact .set_recd
  · exact .set_recd

theorem dropRecord_evolves {s p} : Evolves { regs := true, drain := true, recd := true } s (dropRecord s p) := by
  unfold dropRecord
  exact .trans bump_evolves.mono (.trans setStageDrop_evolves.mono sinkTake_evolves.mono)

theorem placeLoss_evolves {s p} : Evolves { regs := true, recd := true } s (placeLoss s p) := by
  unfold placeLoss
  exact .ite (.trans setStageQ_evolves.mono (.trans setStageDrop_evolves.mono raise_evolves.mono)) .refl

theorem stage_evolves {s p e} : Evolves { regs := true, drain := true, recd := true } s (stage s p e) := by
  unfold stage
  exact .trans placeLoss_evolves.mono (.ite setStageQ_evolves.mono dropRecord_evolves.mono)

theorem record_evolves {s p cls typ unit arg value value2 flags} :
    Evolves { regs := true, drain := true, recd := true } s (record s p cls typ unit arg value value2 flags) := by
  unfold record
  exact stage_evolves.mono

theorem dueMark_evolves {s cause} : Evolves { recd := true } s (dueMark s cause) := by
  unfold dueMark
  exact .set_recd

theorem setCh_evolves {s c f} : Evolves { ch := true } s (setCh s c f) := by
  unfold setCh
  exact .set_ch

theorem setPh_evolves {s p f} : Evolves { ph := true } s (setPh s p f) := by
  unfold setPh
  exact .set_ph

theorem setQuad_evolves {s q f} : Evolves { quad := true } s (setQuad s q f) := by
  unfold setQuad
  exact .set_quad

theorem setDie_evolves {s d f} : Evolves { pb := true } s (setDie s d f) := by
  unfold setDie
  exact .set_pb

theorem setSite_evolves {s d n f} : Evolves { pb := true } s (setSite s d n f) := by
  unfold setSite
  exact .set_pb

theorem setPort_evolves {s d f} : Evolves { pb := true } s (setPort s d f) := by
  unfold setPort
  exact .set_pb

theorem setBoost_evolves {s r f} : Evolves { pb := true } s (setBoost s r f) := by
  unfold setBoost
  exact .set_pb

theorem setPart_evolves {s p f} : Evolves { pb := true } s (setPart s p f) := by
  unfold setPart
  exact .set_pb

theorem setQueue_evolves {s q f} : Evolves { fq := true } s (setQueue s q f) := by
  unfold setQueue
  exact .set_fq

theorem setBal_evolves {s p f} : Evolves { fq := true } s (setBal s p f) := by
  unfold setBal
  exact .set_fq

theorem setClass_evolves {s i f} : Evolves { top := true } s (setClass s i f) := by
  unfold setClass
  exact .set_top

theorem setMbx_evolves {s n f} : Evolves { fwc := true } s (setMbx s n f) := by
  unfold setMbx
  exact .set_fwc

theorem setTile_evolves {s n f} : Evolves { fab := true } s (setTile s n f) := by
  unfold setTile
  exact .set_fab

theorem setRx_evolves {s n f} : Evolves { fab := true } s (setRx s n f) := by
  unfold setRx
  exact .set_fab

theorem setSig_evolves {s id v} : Evolves { fab := true } s (setSig s id v) := by
  unfold setSig
  exact .set_fab

theorem setSrc_evolves {s c v} : Evolves { fab := true } s (setSrc s c v) := by
  unfold setSrc
  exact .set_fab

theorem setLane_evolves {s n f} : Evolves { tvl := true } s (setLane s n f) := by
  unfold setLane
  exact .set_tvl

theorem setLcls_evolves {s n c f} : Evolves { tvl := true } s (setLcls s n c f) := by
  unfold setLcls
  exact setLane_evolves.mono

theorem setDlq_evolves {s q f} : Evolves { tvl := true } s (setDlq s q f) := by
  unfold setDlq
  exact .set_tvl

theorem setRegion_evolves {s k f} : Evolves { est := true } s (setRegion s k f) := by
  unfold setRegion
  exact .set_est

theorem setCap_evolves {s p f} : Evolves { cap := true } s (setCap s p f) := by
  unfold setCap
  exact .set_cap

theorem setRing_evolves {s r f} : Evolves { hir := true } s (setRing s r f) := by
  unfold setRing
  exact .set_hir

theorem setPage_evolves {s p f} : Evolves { sbm := true } s (setPage s p f) := by
  unfold setPage
  exact .set_sbm

theorem meanAdd_evolves {s k v} : Evolves { sbm := true } s (meanAdd s k v) := by
  unfold meanAdd
  exact .set_sbm

/-! ## FabOps -/

theorem tileCount_evolves {s n f} : Evolves { regs := true } s (tileCount s n f) := by
  unfold tileCount
  exact bump_evolves.mono

theorem tileApply_evolves {s n o} : Evolves { regs := true, fab := true, freeCtr := true } s (tileApply s n o) := by
  unfold tileApply
  exact .trans
    (by
       extract_lets
       split
       exacts [.refl,
         drawInt_evolves.mono])
    (.trans (.ite (.trans (.trans raise_evolves.mono raise_evolves.mono) tileCount_evolves.mono) .refl)
       (.trans (.ite (.trans (.ite raise_evolves.mono .refl) (.trans (.ite tileCount_evolves.mono .refl) setF_evolves.mono)) .refl)
          (.trans setTile_evolves.mono setSig_evolves.mono)))

theorem latchSources_evolves {s lane} : Evolves { fab := true } s (latchSources s lane) := by
  unfold latchSources
  exact .trans (.forEach fun _ _ => setSig_evolves.mono) (.forEach fun _ _ => setSig_evolves.mono)

theorem latchSlots_evolves {s lane} : Evolves { fab := true } s (latchSlots s lane) := by
  unfold latchSlots
  exact .ite .refl (.trans (.forEach fun _ _ => setRx_evolves.mono) (.forEach fun _ _ => setSig_evolves.mono))

theorem accumulate_evolves {s lane} : Evolves { fab := true } s (accumulate s lane) := by
  unfold accumulate
  exact .forEach fun _ _ => .ite .refl setTile_evolves.mono

theorem latchSinks_evolves {s lane} : Evolves { fab := true } s (latchSinks s lane) := by
  unfold latchSinks
  exact .trans (.forEach fun _ _ => .set_fab) .set_fab

theorem evalLane_evolves {s lane} : Evolves { regs := true, fab := true, freeCtr := true } s (evalLane s lane) := by
  unfold evalLane
  exact .forEach fun _ _ => .forEach fun _ _ => tileApply_evolves.mono

theorem laneSample_evolves {s lane} : Evolves { regs := true, fab := true, freeCtr := true } s (laneSample s lane) := by
  unfold laneSample
  exact .trans (.trans latchSources_evolves.mono latchSlots_evolves.mono)
    (.trans (.trans evalLane_evolves.mono accumulate_evolves.mono) latchSinks_evolves.mono)

theorem clearTile_evolves {s n} : Evolves { fab := true } s (clearTile s n) := by
  unfold clearTile
  exact .trans setTile_evolves.mono (.ite setSig_evolves.mono .refl)

theorem fabStart_evolves {s} : Evolves { regs := true, fab := true } s (fabStart s) := by
  unfold fabStart
  exact .trans .set_fab (.forEach fun _ _ => wrN_evolves.mono)

/-! ## Origin -/

theorem deadLetter_evolves {s reason cls lane typ src dest} :
    Evolves { regs := true, drain := true, recd := true, tvl := true } s (deadLetter s reason cls lane typ src dest) := by
  unfold deadLetter
  exact .trans raise_evolves.mono
    (.trans (.ite sinkTake_evolves.mono (.ite sinkTake_evolves.mono .refl))
       (.ite setDlq_evolves.mono (.trans setDlq_evolves.mono (.ite record_evolves.mono .refl))))

theorem boundaryFail_evolves {s code unit ident} : Evolves { regs := true, drain := true, recd := true } s (boundaryFail s code unit ident) := by
  unfold boundaryFail
  exact .trans wrN_evolves.mono (.ite (.trans .set_recd record_evolves.mono) .refl)

theorem dmaUe_evolves {s unit addr} : Evolves { regs := true, drain := true, recd := true } s (dmaUe s unit addr) := by
  unfold dmaUe
  exact .trans (.trans raise_evolves.mono boundaryFail_evolves.mono) record_evolves.mono

theorem originate_evolves {s c} : Evolves { regs := true, drain := true, recd := true, tvl := true } s (originate s c) := by
  unfold originate
  exact .ite (.trans deadLetter_evolves.mono raise_evolves.mono) .set_tvl

theorem originTrip_evolves {s cause} : Evolves { regs := true, drain := true, recd := true, tvl := true } s (originTrip s cause) := by
  unfold originTrip
  exact .ite originate_evolves.mono .refl

/-! ## Sched -/

theorem schedGrow_evolves {s r} : Evolves { ch := true, ph := true } s (schedGrow s r) := by
  unfold schedGrow
  exact .ite .refl (.trans setCh_evolves.mono (.forEach fun _ _ => setPh_evolves.mono))

theorem newPeriod_evolves {s r at_} : Evolves { ch := true, ph := true } s (newPeriod s r at_) := by
  unfold newPeriod
  exact .trans setCh_evolves.mono (.forEach fun _ _ => setPh_evolves.mono)

theorem allActive_evolves {s r} : Evolves { ch := true, ph := true } s (allActive s r) := by
  unfold allActive
  exact .trans (.forEach fun _ _ => setPh_evolves.mono) (.trans (.ite setCh_evolves.mono .refl) schedGrow_evolves.mono)

theorem restartShed_evolves {s r} : Evolves { ch := true } s (restartShed s r) := by
  unfold restartShed
  exact setCh_evolves.mono

/-! ## PbOps -/

theorem plSend_evolves {s d typ addr data} : Evolves { pb := true } s (plSend s d typ addr data) := by
  unfold plSend
  exact .ite (.trans setDie_evolves.mono .set_pb) .refl

theorem wireDrop_evolves {s f} : Evolves { pb := true } s (wireDrop s f) := by
  unfold wireDrop
  exact .set_pb

theorem wireTake_evolves {s d lane typ addr} : Evolves { pb := true } s (wireTake s d lane typ addr) := by
  unfold wireTake
  exact wireDrop_evolves.mono

theorem cfgSend_evolves {s d index addr value} : Evolves { pb := true } s (cfgSend s d index addr value) := by
  unfold cfgSend
  exact .ite (.trans setDie_evolves.mono plSend_evolves.mono) .refl

theorem cfgTrip_evolves {s d} : Evolves { pb := true } s (cfgTrip s d) := by
  unfold cfgTrip
  exact cfgSend_evolves.mono

theorem cfgAll_evolves {s d} : Evolves { pb := true } s (cfgAll s d) := by
  unfold cfgAll
  exact .trans (.forEach fun _ _ => cfgSend_evolves.mono)
    (.trans
       (.ite
          (.trans cfgSend_evolves.mono (.trans cfgSend_evolves.mono (.trans cfgSend_evolves.mono (.forEach fun _ _ => cfgSend_evolves.mono))))
          (.refl)) (.ite cfgSend_evolves.mono cfgTrip_evolves.mono))

theorem armDie_evolves {s d on} : Evolves { pb := true } s (armDie s d on) := by
  unfold armDie
  exact .trans setDie_evolves.mono plSend_evolves.mono

theorem freqSend_evolves {s p n} : Evolves { pb := true } s (freqSend s p n) := by
  unfold freqSend
  exact .ite (.trans setPart_evolves.mono plSend_evolves.mono) .refl

theorem balSend_evolves {s p level} : Evolves { pb := true, fq := true } s (balSend s p level) := by
  unfold balSend
  exact .trans setBal_evolves.mono plSend_evolves.mono

theorem boostBlocks_evolves {s r kind} : Evolves { tvl := true } s (boostBlocks s r kind) := by
  unfold boostBlocks
  exact .forEach fun _ _ => setLane_evolves.mono

theorem boostStop_evolves {s r} : Evolves { ch := true, ph := true, pb := true, tvl := true } s (boostStop s r) := by
  unfold boostStop
  split
  · exact .refl
  · exact .trans (.forEach fun _ _ => setPh_evolves.mono)
      (.trans setBoost_evolves.mono (.trans (.ite boostBlocks_evolves.mono .refl) (.trans allActive_evolves.mono restartShed_evolves.mono)))

/-! ## Acct -/

theorem reasonCount_evolves {s p r n} : Evolves { regs := true } s (reasonCount s p r n) := by
  unfold reasonCount
  exact .ite bumpBy_evolves.mono .refl

theorem reasonTime_evolves {s p r units} : Evolves { regs := true, cap := true } s (reasonTime s p r units) := by
  unfold reasonTime
  exact .ite (.trans setCap_evolves.mono bump48_evolves.mono) .refl

theorem bump64_evolves {s lo n} : Evolves { regs := true } s (bump64 s lo n) := by
  unfold bump64
  exact wr64_evolves.mono

theorem lostThr_evolves {s p n} : Evolves { regs := true, cap := true } s (lostThr s p n) := by
  unfold lostThr
  exact .trans setCap_evolves.mono bump64_evolves.mono

theorem lostStr_evolves {s p n} : Evolves { regs := true, cap := true } s (lostStr s p n) := by
  unfold lostStr
  exact .trans setCap_evolves.mono bump64_evolves.mono

theorem freezeHeld_evolves {s p} : Evolves { regs := true, pb := true } s (freezeHeld s p) := by
  unfold freezeHeld
  exact .ite (.trans setPart_evolves.mono (.trans setBoost_evolves.mono bump_evolves.mono)) .refl

theorem holdFreeze_evolves {s p} : Evolves { regs := true, pb := true, cap := true } s (holdFreeze s p) := by
  unfold holdFreeze
  exact .trans freezeHeld_evolves.mono
    (by
       extract_lets
       split
       exacts [.trans reasonTime_evolves.mono setCap_evolves.mono,
         .trans setCap_evolves.mono reasonCount_evolves.mono,
         .refl])

theorem holdCore_evolves {s p} : Evolves { regs := true, cap := true } s (holdCore s p) := by
  unfold holdCore
  split
  · exact .trans reasonTime_evolves.mono setCap_evolves.mono
  · exact .trans setCap_evolves.mono reasonCount_evolves.mono
  · exact .refl

theorem holdUpdate_evolves {s p} : Evolves { regs := true, pb := true, cap := true } s (holdUpdate s p) := by
  unfold holdUpdate
  exact .trans holdFreeze_evolves.mono holdCore_evolves.mono

theorem holdRail_evolves {s r} : Evolves { regs := true, pb := true, cap := true } s (holdRail s r) := by
  unfold holdRail
  exact .forEach fun _ _ => holdUpdate_evolves.mono

/-! ## FqOps -/

theorem frankSend_evolves {s d q tag kind} : Evolves { pb := true, fq := true } s (frankSend s d q tag kind) := by
  unfold frankSend
  exact .trans setQueue_evolves.mono cfgSend_evolves.mono

theorem frankCancel_evolves {s d q tag} : Evolves { regs := true, drain := true, pb := true, fq := true } s (frankCancel s d q tag) := by
  unfold frankCancel
  exact .trans frankSend_evolves.mono (.trans (.trans bump_evolves.mono raise_evolves.mono) sinkTake_evolves.mono)

theorem ceilDrop_evolves {s q p} : Evolves { fq := true } s (ceilDrop s q p) := by
  unfold ceilDrop
  exact .set_fq

theorem queueKeep_evolves {s q keep} : Evolves { regs := true, drain := true, pb := true, fq := true } s (queueKeep s q keep) := by
  unfold queueKeep
  exact .trans (.forEach fun _ _ => .trans (.ite ceilDrop_evolves.mono .refl) frankCancel_evolves.mono)
    (.trans setQueue_evolves.mono (.ite .refl .set_fq))

theorem lightDrain_evolves {s q} : Evolves { regs := true, pb := true, fq := true } s (lightDrain s q) := by
  unfold lightDrain
  exact .forEach
    fun _ _ =>
      by
        split
        exacts [.ite (.trans frankSend_evolves.mono (.trans setQueue_evolves.mono bump_evolves.mono)) .refl,
          .refl]

theorem fqLeaveReg_evolves {s r} : Evolves { regs := true, drain := true, pb := true, fq := true } s (fqLeaveReg s r) := by
  unfold fqLeaveReg
  exact .forEach fun _ _ => .trans queueKeep_evolves.mono lightDrain_evolves.mono

theorem fqFallback_evolves {s d} : Evolves { regs := true, fq := true } s (fqFallback s d) := by
  unfold fqFallback
  exact .forEach fun _ _ => .trans bumpBy_evolves.mono (.trans setQueue_evolves.mono .set_fq)

theorem fixedEnter_evolves {s} : Evolves { regs := true, fq := true } s (fixedEnter s) := by
  unfold fixedEnter
  exact .ite .refl (.trans .set_fq raise_evolves.mono)

theorem ballastRelease_evolves {s} : Evolves { regs := true, pb := true, fq := true } s (ballastRelease s) := by
  unfold ballastRelease
  exact .trans (.forEach fun _ _ => balSend_evolves.mono) (.trans .set_fq raise_evolves.mono)

theorem ballastResume_evolves {s} : Evolves { fq := true } s (ballastResume s) := by
  unfold ballastResume
  exact .set_fq

theorem fqApply_evolves {s} : Evolves { fq := true } s (fqApply s) := by
  unfold fqApply
  exact .trans (.forEach fun _ _ => setQueue_evolves.mono) (.trans .set_fq .set_fq)

/-! ## CapOps -/

theorem balZero_evolves {s p} : Evolves { pb := true, fq := true } s (balZero s p) := by
  unfold balZero
  exact .ite .refl (.trans .set_fq balSend_evolves.mono)

theorem stepDown_evolves {s p} : Evolves { pb := true } s (stepDown s p) := by
  unfold stepDown
  exact .ite freqSend_evolves.mono .refl

theorem pinAdd_evolves {s i} : Evolves { regs := true, cap := true } s (pinAdd s i) := by
  unfold pinAdd
  exact .trans bumpBy_evolves.mono .set_cap

theorem pinUpdate_evolves {s i} : Evolves { regs := true, cap := true } s (pinUpdate s i) := by
  unfold pinUpdate
  exact .trans (.ite pinAdd_evolves.mono .refl) (.ite (.ite .refl .set_cap) .set_cap)

theorem pinAll_evolves {s} : Evolves { regs := true, cap := true } s (pinAll s) := by
  unfold pinAll
  exact .forEach fun _ _ => pinUpdate_evolves.mono

theorem capApply_evolves {s} : Evolves { regs := true, cap := true } s (capApply s) := by
  unfold capApply
  exact .trans .set_cap (.trans (.forEach fun _ _ => wr_evolves.mono) (.forEach fun _ _ => setCap_evolves.mono))

theorem capClamp_evolves {s p} : Evolves { cap := true } s (capClamp s p) := by
  unfold capClamp
  exact setCap_evolves.mono

/-! ## Hooks -/

theorem dripTime_evolves {s r} : Evolves { regs := true } s (dripTime s r) := by
  unfold dripTime
  exact bump48_evolves.mono

theorem calDrop_evolves {s r} : Evolves { regs := true, ph := true, est := true } s (calDrop s r) := by
  unfold calDrop
  exact .ite (.trans bump_evolves.mono (.trans (.forEach fun _ _ => setPh_evolves.mono) .set_est)) .refl

theorem leaveReg_evolves {s r} :
    Evolves { regs := true, drain := true, ch := true, ph := true, pb := true, fq := true, tvl := true, est := true } s (leaveReg s r) := by
  unfold leaveReg
  exact .trans boostStop_evolves.mono
    (.ite
       (.trans (.trans dripTime_evolves.mono (.forEach fun _ _ => armDie_evolves.mono))
          (.trans setCh_evolves.mono (.trans calDrop_evolves.mono (.trans setCh_evolves.mono fqLeaveReg_evolves.mono)))) .refl)

theorem enterReg_evolves {s r} : Evolves { pb := true } s (enterReg s r) := by
  unfold enterReg
  exact .forEach fun _ _ => armDie_evolves.mono

theorem fabClear_evolves {s c} : Evolves { fab := true } s (fabClear s c) := by
  unfold fabClear
  exact .forEach fun _ _ => clearTile_evolves.mono

/-! ## PmStatus -/

theorem setSbm_evolves {s f} : Evolves { sbm := true } s (setSbm s f) := by
  unfold setSbm
  exact .set_sbm

theorem alertAgain_evolves {s0 s} : Evolves { sbm := true } s (alertAgain s0 s) := by
  unfold alertAgain
  exact .ite setSbm_evolves.mono .refl

theorem pmRefresh_evolves {s} : Evolves { sbm := true } s (pmRefresh s) := by
  unfold pmRefresh
  exact .trans (.forEach fun _ _ => setPage_evolves.mono) (.trans setSbm_evolves.mono alertAgain_evolves.mono)

theorem cmlSet_evolves {s bit} : Evolves { regs := true, sbm := true } s (cmlSet s bit) := by
  unfold cmlSet
  exact .trans (.forEach fun _ _ => setPage_evolves.mono)
    (.trans alertAgain_evolves.mono
       (.ite raise_evolves.mono (.ite (.trans bump_evolves.mono raise_evolves.mono) (.ite (.trans bump_evolves.mono raise_evolves.mono) .refl))))

/-! ## TbStamp -/

theorem captureUnit_evolves {s n t inStep} : Evolves { regs := true } s (captureUnit s n t inStep) := by
  unfold captureUnit
  exact .ite setF_evolves.mono (.trans (.trans wrN_evolves.mono wrN_evolves.mono) (.trans setF_evolves.mono (.ite setF_evolves.mono .refl)))

theorem capture_evolves {s src falling t inStep} : Evolves { regs := true } s (capture s src falling t inStep) := by
  unfold capture
  exact .ite .refl (.forEach fun _ _ => .ite captureUnit_evolves.mono .refl)

/-! ## Device -/

theorem lifeUp_evolves {s k} : Evolves { nvs := true } s (lifeUp s k) := by
  unfold lifeUp
  exact .set_nvs

theorem enterState_evolves {s d} : Evolves { regs := true, top := true, drain := true, recd := true, nvs := true } s (enterState s d) := by
  unfold enterState
  exact .ite .refl (.trans .set_top (.trans (.ite lifeUp_evolves.mono (.ite lifeUp_evolves.mono .refl)) record_evolves.mono))

theorem phasesMid_evolves {s l} : Evolves { ph := true } s (phasesMid s l) := by
  unfold phasesMid
  exact .forEach fun _ _ => setPh_evolves.mono

theorem phasesIdle_evolves {s l} : Evolves { ph := true } s (phasesIdle s l) := by
  unfold phasesIdle
  exact .forEach fun _ _ => setPh_evolves.mono

theorem senLow_evolves {s qs} : Evolves { quad := true } s (senLow s qs) := by
  unfold senLow
  exact .forEach fun _ _ => .ite .refl setQuad_evolves.mono

theorem senHigh_evolves {s qs} : Evolves { quad := true } s (senHigh s qs) := by
  unfold senHigh
  exact .forEach fun _ _ => setQuad_evolves.mono

theorem railOff_evolves {s r} : Evolves { regs := true, ch := true, ph := true, quad := true, sbm := true } s (railOff s r) := by
  unfold railOff
  exact .trans phasesIdle_evolves.mono
    (.trans senLow_evolves.mono (.trans (.ite (.trans pmRefresh_evolves.mono lower_evolves.mono) .refl) setCh_evolves.mono))

theorem disHead_evolves {s} :
    Evolves { regs := true, drain := true, ch := true, ph := true, pb := true, fq := true, tvl := true, est := true } s (disHead s) := by
  unfold disHead
  split
  · exact .refl
  · exact .trans (.trans leaveReg_evolves.mono setCh_evolves.mono) (.ite allActive_evolves.mono phasesMid_evolves.mono)

theorem discharge_evolves {s items} :
    Evolves { regs := true, top := true, drain := true, ch := true, ph := true, pb := true, fq := true, tvl := true, est := true } s (discharge s
                items) := by
  unfold discharge
  exact .trans (.forEach fun _ _ => .ite .refl (.trans (.trans leaveReg_evolves.mono phasesMid_evolves.mono) setCh_evolves.mono))
    (by
       extract_lets
       split
       exacts [.trans .set_top disHead_evolves.mono,
         by
           split
           exacts [.refl,
             .set_top]])

theorem dischargeAll_evolves {s maySwitch limitOnly} :
    Evolves { regs := true, top := true, drain := true, ch := true, ph := true, pb := true, fq := true, tvl := true, est := true } s (dischargeAll
                s maySwitch limitOnly) := by
  unfold dischargeAll
  exact discharge_evolves.mono

theorem disDone_evolves {s byEn} : Evolves { regs := true, top := true, drain := true, recd := true, nvs := true } s (disDone s byEn) := by
  unfold disDone
  exact .ite (.trans (.trans .set_top setF_evolves.mono) (.ite enterState_evolves.mono .refl)) (.ite (.trans .set_top enterState_evolves.mono) .refl)

theorem disNext_evolves {s d rest} :
    Evolves { regs := true, top := true, drain := true, recd := true, ch := true, ph := true, quad := true, pb := true, fq := true, nvs := true,
                tvl := true, est := true, sbm := true } s (disNext s d rest) := by
  unfold disNext
  extract_lets s1 l t1 s2
  refine .trans (t := s1) railOff_evolves.mono (.trans (t := s2) .set_top ?_)
  clear_value l s2
  split
  · exact disDone_evolves.mono
  · exact disHead_evolves.mono

theorem disDrop_evolves {s r} :
    Evolves { regs := true, top := true, drain := true, recd := true, ch := true, ph := true, pb := true, fq := true, nvs := true, tvl := true,
                est := true } s (disDrop s r) := by
  unfold disDrop
  split
  · exact .refl
  · split
    · extract_lets t1 s1
      refine .trans (t := s1) .set_top ?_
      clear_value s1
      split
      · exact disDone_evolves.mono
      · exact disHead_evolves.mono
    · exact .set_top

theorem softStart_evolves {s r} :
    Evolves { regs := true, top := true, drain := true, recd := true, ch := true, ph := true, quad := true, nvs := true, fab := true } s (softStart
                s r) := by
  unfold softStart
  exact .ite .refl
    (.trans senHigh_evolves.mono
       (.trans (.forEach fun _ _ => setPh_evolves.mono)
          (.trans setCh_evolves.mono
             (.trans (.trans allActive_evolves.mono newPeriod_evolves.mono)
                (.trans (.forEach fun _ _ => fabClear_evolves.mono)
                   (.trans setCh_evolves.mono (.ite enterState_evolves.mono (.ite enterState_evolves.mono .refl))))))))

theorem maybeRun_evolves {s from_} : Evolves { regs := true, top := true, drain := true, recd := true, nvs := true } s (maybeRun s from_) := by
  unfold maybeRun
  exact .ite (.trans enterState_evolves.mono setF_evolves.mono) .refl

theorem beginStage_evolves {s k} :
    Evolves { regs := true, top := true, drain := true, recd := true, ch := true, ph := true, quad := true, nvs := true, fab := true } s
                (beginStage s k) := by
  unfold beginStage
  exact .trans (.forEach fun _ _ => softStart_evolves.mono) .set_top

theorem stagesDue_evolves {n s} : Evolves { regs := true, top := true, drain := true, recd := true, ch := true, ph := true, quad := true, nvs := true, fab := true } s (stagesDue n s) := by
  induction n generalizing s with
  | zero => exact .refl
  | succ n ih =>
    unfold stagesDue
    split
    · exact .refl
    · exact .ite (beginStage_evolves.mono.trans ih) .refl

theorem startAdvance_evolves {s done} :
    Evolves { regs := true, top := true, drain := true, recd := true, ch := true, ph := true, quad := true, nvs := true, fab := true } s
                (startAdvance s done) := by
  unfold startAdvance
  exact .trans (.ite .set_top .refl) (.trans stagesDue_evolves.mono maybeRun_evolves.mono)

theorem shadowRefill_evolves {s} : Evolves { img := true } s (shadowRefill s) := by
  unfold shadowRefill
  exact .ite .set_img .set_img

theorem pendRefresh_evolves {s} : Evolves { regs := true } s (pendRefresh s) := by
  unfold pendRefresh
  exact setF_evolves.mono

theorem loadEnd_evolves {s result item byte} :
    Evolves { regs := true, drain := true, recd := true, img := true } s (loadEnd s result item byte) := by
  unfold loadEnd
  exact .trans setF_evolves.mono
    (.trans wrN_evolves.mono (.trans record_evolves.mono (.trans (.trans .set_img shadowRefill_evolves.mono) (.ite pendRefresh_evolves.mono .refl))))

theorem loadAbort_evolves {s result} : Evolves { regs := true, drain := true, recd := true, img := true } s (loadAbort s result) := by
  unfold loadAbort
  exact .ite loadEnd_evolves.mono .refl

theorem haltEntry_evolves {s trip} :
    Evolves { regs := true, top := true, drain := true, recd := true, img := true, nvs := true, tvl := true } s (haltEntry s trip) := by
  unfold haltEntry
  exact .ite .refl (.trans loadAbort_evolves.mono (.trans (.ite .refl originTrip_evolves.mono) (.trans .set_top enterState_evolves.mono)))

theorem haltSwitched_evolves {s trip} :
    Evolves { regs := true, top := true, drain := true, recd := true, ch := true, ph := true, pb := true, fq := true, img := true, nvs := true,
                tvl := true, est := true } s (haltSwitched s trip) := by
  unfold haltSwitched
  exact .trans haltEntry_evolves.mono dischargeAll_evolves.mono

theorem crowbarOn_evolves {s r ps qs} : Evolves { ph := true, quad := true } s (crowbarOn s r ps qs) := by
  unfold crowbarOn
  exact .trans (.forEach fun _ _ => setPh_evolves.mono) senHigh_evolves.mono

theorem protEntry_evolves {s unit cause what} : Evolves { regs := true, drain := true, recd := true } s (protEntry s unit cause what) := by
  unfold protEntry
  exact .trans record_evolves.mono capture_evolves.mono

theorem protOrder_evolves {s} : Evolves { recd := true } s (protOrder s) := by
  unfold protOrder
  split
  · exact .refl
  · split
    · exact .set_recd
    · exact .refl

theorem latchSet_evolves {s kind r what} :
    Evolves { regs := true, drain := true, recd := true, ch := true, nvs := true, sbm := true } s (latchSet s kind r what) := by
  unfold latchSet
  exact .trans (.ite .refl (.trans (.trans raise_evolves.mono protEntry_evolves.mono) lifeUp_evolves.mono))
    (.trans (.trans pmRefresh_evolves.mono lower_evolves.mono) (.trans protOrder_evolves.mono setCh_evolves.mono))

theorem latchRail_evolves {s kind r what} :
    Evolves { regs := true, top := true, drain := true, recd := true, ch := true, ph := true, quad := true, pb := true, fq := true, img := true,
                nvs := true, fab := true, tvl := true, est := true, sbm := true } s (latchRail s kind r what) := by
  unfold latchRail
  exact .trans latchSet_evolves.mono
    (.trans
       (.ite
          (.trans (.ite leaveReg_evolves.mono .refl)
             (.trans crowbarOn_evolves.mono (.trans raise_evolves.mono (.trans setCh_evolves.mono disDrop_evolves.mono))))
          (.ite .refl (.ite discharge_evolves.mono setCh_evolves.mono)))
       (.ite (.trans (.ite .refl originTrip_evolves.mono) (.trans .set_top haltSwitched_evolves.mono)) startAdvance_evolves.mono))

theorem thermalTrip_evolves {s bit die} :
    Evolves { regs := true, top := true, drain := true, recd := true, ch := true, ph := true, pb := true, fq := true, img := true, nvs := true,
                tvl := true, est := true } s (thermalTrip s bit die) := by
  unfold thermalTrip
  exact .trans (.ite .refl (.trans (.trans (.trans raise_evolves.mono protEntry_evolves.mono) lifeUp_evolves.mono) originTrip_evolves.mono))
    (.trans raise_evolves.mono (.trans phasesMid_evolves.mono (.trans haltEntry_evolves.mono dischargeAll_evolves.mono)))

theorem haltActive_evolves {s} :
    Evolves { regs := true, top := true, drain := true, recd := true, ch := true, ph := true, pb := true, fq := true, img := true, nvs := true,
                tvl := true, est := true } s (haltActive s) := by
  unfold haltActive
  exact .trans .set_top haltSwitched_evolves.mono

/-! ## EstOps -/

theorem estFlags_evolves {s k} : Evolves { regs := true } s (estFlags s k) := by
  unfold estFlags
  exact .trans wrN_evolves.mono wrN_evolves.mono

theorem estPublish_evolves {s k} : Evolves { regs := true } s (estPublish s k) := by
  unfold estPublish
  exact .trans estFlags_evolves.mono wrN_evolves.mono

theorem estStatus_evolves {s} : Evolves { regs := true } s (estStatus s) := by
  unfold estStatus
  exact wrN_evolves.mono

theorem estEvent_evolves {s k f} : Evolves { regs := true } s (estEvent s k f) := by
  unfold estEvent
  exact .trans raise_evolves.mono raise_evolves.mono

theorem estEntry_evolves {s typ k arg value value2} :
    Evolves { regs := true, drain := true, recd := true } s (estEntry s typ k arg value value2) := by
  unfold estEntry
  exact record_evolves.mono

theorem estSample_evolves {s k end_ far} : Evolves { est := true } s (estSample s k end_ far) := by
  unfold estSample
  exact .trans setRegion_evolves.mono (.ite .refl setRegion_evolves.mono)

theorem reportSample_evolves {s k l} : Evolves { est := true } s (reportSample s k l) := by
  unfold reportSample
  exact estSample_evolves.mono

theorem regionReport_evolves {s k i} : Evolves { est := true } s (regionReport s k i) := by
  unfold regionReport
  exact .ite setRegion_evolves.mono (.trans setRegion_evolves.mono (.ite reportSample_evolves.mono .refl))

theorem regionAgain_evolves {s k i} : Evolves { est := true } s (regionAgain s k i) := by
  unfold regionAgain
  exact .ite reportSample_evolves.mono .refl

theorem estStep_evolves {s} : Evolves { est := true } s (estStep s) := by
  unfold estStep
  exact .forEach fun _ _ => setRegion_evolves.mono

theorem closeBlock_evolves {s k} : Evolves { est := true } s (closeBlock s k) := by
  unfold closeBlock
  exact setRegion_evolves.mono

theorem loadLine_evolves {s c} : Evolves { regs := true, freeCtr := true } s (loadLine s c) := by
  unfold loadLine
  split
  · exact .refl
  · exact .ite wrN_evolves.mono (.trans wrN_evolves.mono (.trans drawNat_evolves.mono wrN_evolves.mono))

theorem capStat_evolves {s k busy done fail} : Evolves { regs := true } s (capStat s k busy done fail) := by
  unfold capStat
  exact wrN_evolves.mono

theorem capEnd_evolves {s k done} : Evolves { regs := true, drain := true, recd := true, est := true } s (capEnd s k done) := by
  unfold capEnd
  exact .trans estEntry_evolves.mono (.trans (.ite .set_est .refl) (.trans estEvent_evolves.mono (.trans setRegion_evolves.mono capStat_evolves.mono)))

theorem capTake_evolves {s k r rel} : Evolves { regs := true, drain := true, recd := true, est := true } s (capTake s k r rel) := by
  unfold capTake
  exact .trans setRegion_evolves.mono (.ite capEnd_evolves.mono capStat_evolves.mono)

theorem regionAck_evolves {s k} : Evolves { regs := true, est := true } s (regionAck s k) := by
  unfold regionAck
  exact .trans setRegion_evolves.mono estFlags_evolves.mono

theorem estCmd_evolves {s} : Evolves { regs := true, drain := true, recd := true, est := true } s (estCmd s) := by
  unfold estCmd
  exact .ite
    (.trans (.forEach fun _ _ => capEnd_evolves.mono)
       (.trans .set_est (.trans (.forEach fun _ _ => .trans setRegion_evolves.mono capStat_evolves.mono) .set_est)))
    (.ite (.forEach fun _ _ => regionAck_evolves.mono) .refl)

theorem derate_evolves {s k} : Evolves { regs := true, est := true } s (derate s k) := by
  unfold derate
  exact .ite (.trans setRegion_evolves.mono estEvent_evolves.mono) setRegion_evolves.mono

theorem crackCheck_evolves {s k step} : Evolves { est := true } s (crackCheck s k step) := by
  unfold crackCheck
  exact .set_est

theorem stepDetect_evolves {s k h} : Evolves { regs := true, drain := true, recd := true, est := true } s (stepDetect s k h) := by
  unfold stepDetect
  extract_lets
  split
  · exact .ite
      (.trans setRegion_evolves.mono
         (.ite
            (.trans (.trans setRegion_evolves.mono crackCheck_evolves.mono)
               (.trans bump_evolves.mono (.trans (.trans estEntry_evolves.mono estEvent_evolves.mono) derate_evolves.mono))) .refl))
      (setRegion_evolves.mono)
  · exact setRegion_evolves.mono

theorem driftDetect_evolves {s k h} : Evolves { regs := true, drain := true, recd := true, est := true } s (driftDetect s k h) := by
  unfold driftDetect
  exact .ite setRegion_evolves.mono
    (.ite setRegion_evolves.mono
       (by
          extract_lets
          split
          exacts [.ite
              (.trans setRegion_evolves.mono
                 (.ite
                    (.trans (.trans setRegion_evolves.mono crackCheck_evolves.mono)
                       (.trans bump_evolves.mono (.trans (.trans estEntry_evolves.mono estEvent_evolves.mono) derate_evolves.mono))) .refl))
              (setRegion_evolves.mono),
            setRegion_evolves.mono]))

theorem ncrEnter_evolves {s k} : Evolves { regs := true, drain := true, recd := true, est := true } s (ncrEnter s k) := by
  unfold ncrEnter
  exact .trans setRegion_evolves.mono (.trans estEntry_evolves.mono (.trans estEvent_evolves.mono estPublish_evolves.mono))

theorem ncrAge_evolves {s k} : Evolves { regs := true, est := true } s (ncrAge s k) := by
  unfold ncrAge
  exact .ite (.trans bumpBy_evolves.mono setRegion_evolves.mono) .refl

theorem refresh_evolves {s k} : Evolves { regs := true, drain := true, recd := true, est := true, sbm := true } s (refresh s k) := by
  unfold refresh
  extract_lets s1 h s2 x s3 s4 a5 s5 s6 s7
  refine .trans (t := s4) ?_ ?_
  · exact .trans (t := s1) closeBlock_evolves.mono
      (.trans (t := s2) ncrAge_evolves.mono (.trans (t := s3) setRegion_evolves.mono stepDetect_evolves.mono))
  · clear_value s4
    refine .trans (t := s5) ?_ ?_
    · unfold s5
      clear_value h
      split
      · exact .trans (.trans pmRefresh_evolves.mono setRegion_evolves.mono) (.ite (.trans estEntry_evolves.mono estEvent_evolves.mono) .refl)
      · exact setRegion_evolves.mono
    · clear_value s5
      refine .trans (t := s6) driftDetect_evolves.mono (.trans (t := s7) ?_ (.trans derate_evolves.mono estPublish_evolves.mono))
      unfold s7
      clear_value s6
      split
      · exact capTake_evolves.mono
      · exact .refl

theorem regionRestart_evolves {s k} : Evolves { regs := true, est := true } s (regionRestart s k) := by
  unfold regionRestart
  exact .trans setRegion_evolves.mono estPublish_evolves.mono

theorem regionBlank_evolves {s k} : Evolves { regs := true } s (regionBlank s k) := by
  unfold regionBlank
  exact .forEach fun _ _ => wr_evolves.mono

theorem estApply_evolves {s} : Evolves { regs := true, est := true } s (estApply s) := by
  unfold estApply
  exact .trans .set_est
    (.trans (.forEach fun _ _ => wr_evolves.mono)
       (.trans (.forEach fun _ _ => wr_evolves.mono)
          (.trans (.forEach fun _ _ => regionBlank_evolves.mono) (.trans (.forEach fun _ _ => regionRestart_evolves.mono) estStatus_evolves.mono))))

/-! ## CommitBase -/

theorem commitResult_evolves {s r} : Evolves { regs := true } s (commitResult s r) := by
  unfold commitResult
  exact setF_evolves.mono

theorem commitEntry_evolves {s mask mode result tick unaligned} :
    Evolves { regs := true, drain := true, recd := true } s (commitEntry s mask mode result tick unaligned) := by
  unfold commitEntry
  exact record_evolves.mono

theorem commitSeq_evolves {s} : Evolves { regs := true } s (commitSeq s) := by
  unfold commitSeq
  exact setF_evolves.mono

theorem cancelMask_evolves {s m} : Evolves { regs := true, top := true, drain := true, recd := true, img := true } s (cancelMask s m) := by
  unfold cancelMask
  exact .ite .refl
    (.trans .set_top
       (.trans (.forEach fun _ _ => commitEntry_evolves.mono)
          (.trans (.ite (.trans commitEntry_evolves.mono loadEnd_evolves.mono) .refl) (.trans commitResult_evolves.mono pendRefresh_evolves.mono))))

theorem cancelAllCommits_evolves {s} : Evolves { regs := true, top := true, drain := true, recd := true, img := true } s (cancelAllCommits s) := by
  unfold cancelAllCommits
  exact cancelMask_evolves.mono

/-! ## BtOps -/

theorem setActBt_evolves {s b} : Evolves { bt := true } s (setActBt s b) := by
  unfold setActBt
  exact .ite .set_bt .set_bt

theorem setPendBt_evolves {s b} : Evolves { bt := true } s (setPendBt s b) := by
  unfold setPendBt
  exact .ite .set_bt .set_bt

theorem sealTry_evolves {s} : Evolves { bt := true } s (sealTry s) := by
  unfold sealTry
  exact .ite setPendBt_evolves.mono .refl

theorem setSegs_evolves {s act g} : Evolves { dom := true } s (setSegs s act g) := by
  unfold setSegs
  exact .ite .set_dom .set_dom

theorem btPrepare_evolves {s e} : Evolves { bt := true, dom := true } s (btPrepare s e) := by
  unfold btPrepare
  exact .trans setSegs_evolves.mono (.ite setPendBt_evolves.mono setPendBt_evolves.mono)

theorem applyDerates_evolves {s} : Evolves { bt := true } s (applyDerates s) := by
  unfold applyDerates
  exact setPendBt_evolves.mono

theorem localSealed_evolves {s} : Evolves { bt := true } s (localSealed s) := by
  unfold localSealed
  exact .ite .refl (.trans applyDerates_evolves.mono (.trans setPendBt_evolves.mono sealTry_evolves.mono))

theorem btTick_evolves {s e} : Evolves { regs := true, drain := true, bt := true, recd := true, img := true, dom := true } s (btTick s e) := by
  unfold btTick
  exact .trans .set_bt_dom
    (.ite (.trans .set_bt (.trans capture_evolves.mono btPrepare_evolves.mono))
       (.trans .set_bt_img (.trans bump_evolves.mono (.trans record_evolves.mono btPrepare_evolves.mono))))

theorem btApply_evolves {s} : Evolves { bt := true, dom := true } s (btApply s) := by
  unfold btApply
  exact .trans .set_bt (.trans (.trans setActBt_evolves.mono setSegs_evolves.mono) btPrepare_evolves.mono)

/-! ## FwcOps -/

theorem dropDirty_evolves {s line} : Evolves { fwc := true } s (dropDirty s line) := by
  unfold dropDirty
  exact .set_fwc

theorem flushLine_evolves {s line} : Evolves { fwc := true } s (flushLine s line) := by
  unfold flushLine
  exact .ite .refl (.trans (.trans dropDirty_evolves.mono memPoke_evolves.mono) setCore_evolves)

theorem toWb_evolves {s n line} : Evolves { fwc := true } s (toWb s n line) := by
  unfold toWb
  exact .trans
    (by
       split
       exacts [.ite flushLine_evolves.mono .refl,
         .refl]) (.trans .set_fwc setCore_evolves)

theorem fillLine_evolves {s n ic line} : Evolves { fwc := true } s (fillLine s n ic line) := by
  unfold fillLine
  extract_lets
  split
  · exact setCore_evolves
  · exact .trans (.ite toWb_evolves.mono .refl) setCore_evolves

theorem othersLose_evolves {s by_ line} : Evolves { fwc := true } s (othersLose s by_ line) := by
  unfold othersLose
  exact .forEach fun _ _ => setCore_evolves

theorem memWrite_evolves {s by_ ix b} : Evolves { fwc := true } s (memWrite s by_ ix b) := by
  unfold memWrite
  exact .trans (.forEach fun _ _ => .trans (.trans othersLose_evolves.mono flushLine_evolves.mono) (.ite setCore_evolves .refl)) memPoke_evolves.mono

theorem cacheStore_evolves {s n ix b} : Evolves { regs := true, fwc := true } s (cacheStore s n ix b) := by
  unfold cacheStore
  exact .forEach
    fun _ _ =>
      .trans othersLose_evolves.mono
        (.trans (.ite .refl flushLine_evolves.mono) (.trans (.ite .refl bump_evolves.mono) (.trans fillLine_evolves.mono .set_fwc)))

theorem memStore_evolves {s n a b} : Evolves { regs := true, fwc := true } s (memStore s n a b) := by
  unfold memStore
  split
  · exact cacheStore_evolves.mono
  · exact memWrite_evolves.mono
  · exact .refl

theorem drainOne_evolves {s n} : Evolves { regs := true, fwc := true } s (drainOne s n) := by
  unfold drainOne
  split
  · exact .refl
  · exact .trans setCore_evolves memStore_evolves.mono

theorem drainAll_evolves {s n} : Evolves { regs := true, fwc := true } s (drainAll s n) := by
  unfold drainAll
  exact .forEach fun _ _ => drainOne_evolves.mono

theorem bufStore_evolves {s n a b} : Evolves { regs := true, fwc := true } s (bufStore s n a b) := by
  unfold bufStore
  exact .trans (.ite drainOne_evolves.mono .refl) setCore_evolves

theorem coreFault_evolves {s n cause} : Evolves { fwc := true, resp := true } s (coreFault s n cause) := by
  unfold coreFault
  exact .trans .set_resp setCore_evolves

theorem coreViol_evolves {s n tag off addr cause} :
    Evolves { regs := true, drain := true, recd := true, fwc := true, resp := true } s (coreViol s n tag off addr cause) := by
  unfold coreViol
  exact .trans raise_evolves.mono (.trans bump_evolves.mono (.trans record_evolves.mono (.ite coreFault_evolves.mono .refl)))

theorem memUe_evolves {s unit ix} : Evolves { regs := true, drain := true, recd := true } s (memUe s unit ix) := by
  unfold memUe
  exact .trans (.trans bump_evolves.mono raise_evolves.mono) (.trans record_evolves.mono boundaryFail_evolves.mono)

theorem dbSet_evolves {s n bits} : Evolves { fwc := true } s (dbSet s n bits) := by
  unfold dbSet
  exact setMbx_evolves.mono

theorem mbxPush_evolves {s n w} : Evolves { regs := true, fwc := true } s (mbxPush s n w) := by
  unfold mbxPush
  exact .ite (.trans setMbx_evolves.mono raise_evolves.mono) setMbx_evolves.mono

theorem mbxPop_evolves {s n} : Evolves { fwc := true, resp := true } s (mbxPop s n) := by
  unfold mbxPop
  split
  · exact .set_resp
  · exact .trans .set_resp setMbx_evolves.mono

theorem mbxWrite_evolves {s w off v} : Evolves { regs := true, drain := true, recd := true, fwc := true, resp := true } s (mbxWrite s w off v) := by
  unfold mbxWrite
  exact .ite (.ite .set_fwc coreViol_evolves.mono)
    (.ite
       (by
          extract_lets
          split
          exacts [.ite dbSet_evolves.mono coreViol_evolves.mono,
            .ite setMbx_evolves.mono coreViol_evolves.mono,
            .ite setMbx_evolves.mono coreViol_evolves.mono,
            .ite mbxPush_evolves.mono coreViol_evolves.mono,
            .ite setMbx_evolves.mono coreViol_evolves.mono,
            .refl]) .refl)

theorem mbxRead_evolves {s w off} : Evolves { fwc := true, resp := true } s (mbxRead s w off) := by
  unfold mbxRead
  exact .ite (.ite .set_resp (.ite coreFault_evolves.mono .set_resp))
    (.ite
       (by
          extract_lets
          split
          exacts [.set_resp,
            .set_resp,
            .ite mbxPop_evolves.mono (.ite coreFault_evolves.mono .set_resp),
            .trans .set_resp setMbx_evolves.mono,
            .set_resp]) .set_resp)

/-! ## PhaseOps -/

theorem addOne_evolves {s r} : Evolves { ph := true } s (addOne s r) := by
  unfold addOne
  split
  · exact setPh_evolves.mono
  · exact .refl

theorem shedOne_evolves {s r} : Evolves { ph := true } s (shedOne s r) := by
  unfold shedOne
  split
  · exact setPh_evolves.mono
  · exact .refl

theorem shareTo_evolves {s r n} : Evolves { ch := true, ph := true } s (shareTo s r n) := by
  unfold shareTo
  exact .ite (.trans (.forEach fun _ _ => addOne_evolves.mono) schedGrow_evolves.mono) (.forEach fun _ _ => shedOne_evolves.mono)

theorem setN_evolves {s r n} : Evolves { ch := true, ph := true } s (setN s r n) := by
  unfold setN
  exact .trans setCh_evolves.mono shareTo_evolves.mono

theorem endRemoval_evolves {s r} : Evolves { ph := true } s (endRemoval s r) := by
  unfold endRemoval
  exact .forEach fun _ _ => setPh_evolves.mono

theorem dripExit_evolves {s r} : Evolves { regs := true, ch := true, ph := true } s (dripExit s r) := by
  unfold dripExit
  exact .ite .refl
    (.trans (.trans allActive_evolves.mono dripTime_evolves.mono) (.trans bump_evolves.mono (.trans setCh_evolves.mono endRemoval_evolves.mono)))

theorem frankPhases_evolves {s r} : Evolves { regs := true, ch := true, ph := true } s (frankPhases s r) := by
  unfold frankPhases
  exact .ite endRemoval_evolves.mono
    (.ite (.trans dripExit_evolves.mono (.trans endRemoval_evolves.mono (.trans setN_evolves.mono restartShed_evolves.mono))) .refl)

theorem stageEntry_evolves {s unit reading} : Evolves { regs := true, drain := true, recd := true } s (stageEntry s unit reading) := by
  unfold stageEntry
  exact record_evolves.mono

theorem stageFault_evolves {s p reading} :
    Evolves { regs := true, top := true, drain := true, recd := true, ch := true, ph := true, quad := true, pb := true, fq := true, img := true,
                nvs := true, fab := true, tvl := true, est := true, sbm := true } s (stageFault s p reading) := by
  unfold stageFault
  exact .ite .refl
    (.ite
       (.trans setPh_evolves.mono
          (.trans raise_evolves.mono
             (.trans raise_evolves.mono
                (.trans stageEntry_evolves.mono (.trans (.ite dripExit_evolves.mono .refl) (.ite latchRail_evolves.mono .refl))))))
       (.trans (.trans setPh_evolves.mono raise_evolves.mono) stageEntry_evolves.mono))

theorem vrefStep_evolves {s r} : Evolves { ch := true } s (vrefStep s r) := by
  unfold vrefStep
  extract_lets
  split
  · exact setCh_evolves.mono
  · exact setCh_evolves.mono
  · exact setCh_evolves.mono
  · exact .ite .refl setCh_evolves.mono
  · exact .refl

theorem vtrimStep_evolves {s r request} : Evolves { ch := true } s (vtrimStep s r request) := by
  unfold vtrimStep
  exact setCh_evolves.mono

theorem addCount_evolves {s r} : Evolves { ch := true } s (addCount s r) := by
  unfold addCount
  exact .ite (.ite setCh_evolves.mono setCh_evolves.mono) setCh_evolves.mono

theorem windowCheck_evolves {s r} : Evolves { ch := true } s (windowCheck s r) := by
  unfold windowCheck
  exact setCh_evolves.mono

theorem onTimes_evolves {s r} : Evolves { ph := true } s (onTimes s r) := by
  unfold onTimes
  exact .ite .refl (.forEach fun _ _ => setPh_evolves.mono)

theorem vpreStep_evolves {s r} : Evolves { fq := true } s (vpreStep s r) := by
  unfold vpreStep
  exact .set_fq

theorem railSample_evolves {s r request} : Evolves { regs := true, ch := true, fq := true } s (railSample s r request) := by
  unfold railSample
  exact .trans vrefStep_evolves.mono
    (.trans (.trans vtrimStep_evolves.mono vpreStep_evolves.mono) (.trans wrN_evolves.mono (.trans windowCheck_evolves.mono addCount_evolves.mono)))

/-! ## Phase -/

theorem softStartFail_evolves {s r} :
    Evolves { regs := true, top := true, drain := true, recd := true, ch := true, ph := true, quad := true, pb := true, fq := true, img := true,
                nvs := true, fab := true, tvl := true, est := true, sbm := true } s (softStartFail s r) := by
  unfold softStartFail
  exact .trans raise_evolves.mono latchRail_evolves.mono

theorem execSetpointReached_answers {rail s} : Answers (writes (.setpointReached rail)) s (execSetpointReached rail s) := by
  unfold execSetpointReached
  exact .ite (.next setCh_evolves.mono) (.next .refl)

theorem execChannelInRegulation_answers {rail s} : Answers (writes (.channelInRegulation rail)) s (execChannelInRegulation rail s) := by
  unfold execChannelInRegulation
  exact .ite (.trans reach_evolves.mono (.next (.trans (.trans setCh_evolves.mono enterReg_evolves.mono) startAdvance_evolves.mono))) (.next .refl)

theorem execSoftStartHoldEnd_answers {rail senseMv priOpen altOpen cmpOk s} :
    Answers (writes (.softStartHoldEnd rail senseMv priOpen altOpen cmpOk)) s (execSoftStartHoldEnd rail senseMv priOpen altOpen cmpOk s) := by
  unfold execSoftStartHoldEnd
  exact .ite
    (.ite (.next (.trans raise_evolves.mono softStartFail_evolves.mono))
       (.ite (.next (.trans raise_evolves.mono softStartFail_evolves.mono)) (.trans wrN_evolves.mono (.next setCh_evolves.mono)))) (.next .refl)

theorem execSoftStartTimeout_answers {rail s} : Answers (writes (.softStartTimeout rail)) s (execSoftStartTimeout rail s) := by
  unfold execSoftStartTimeout
  exact .ite (.next (.trans reach_evolves.mono softStartFail_evolves.mono)) (.next .refl)

theorem execPgExcursion_answers {rail s} : Answers (writes (.pgExcursion rail)) s (execPgExcursion rail s) := by
  unfold execPgExcursion
  exact .ite (.next (.trans raise_evolves.mono setCh_evolves.mono)) (.next .refl)

theorem execDischargeRailDone_answers {rail mv s} : Answers (writes (.dischargeRailDone rail mv)) s (execDischargeRailDone rail mv s) := by
  unfold execDischargeRailDone
  exact .trans wrN_evolves.mono
    (by
       extract_lets
       split
       exacts [.ite (.next disNext_evolves.mono) (.next .refl),
         .next .refl])

theorem shedCount_evolves {s r} : Evolves { ch := true } s (shedCount s r) := by
  unfold shedCount
  exact .ite setCh_evolves.mono restartShed_evolves.mono

theorem phasesReturn_evolves {s r} : Evolves { ph := true } s (phasesReturn s r) := by
  unfold phasesReturn
  exact .forEach fun _ _ => setPh_evolves.mono

theorem execPeriodStart_answers {rail s} : Answers (writes (.periodStart rail)) s (execPeriodStart rail s) := by
  unfold execPeriodStart
  exact .ite
    (.trans (.trans reach_evolves.mono onTimes_evolves.mono)
       (.trans (.trans phasesReturn_evolves.mono newPeriod_evolves.mono) (.trans setCh_evolves.mono (.next shedCount_evolves.mono))))
    (.next .refl)

theorem execPhaseSlotEdge_answers {ph s} : Answers (writes (.phaseSlotEdge ph)) s (execPhaseSlotEdge ph s) := by
  unfold execPhaseSlotEdge
  exact .ite
    (.trans (.trans reach_evolves.mono onTimes_evolves.mono)
       (.trans setPh_evolves.mono (.ite (.next .refl) (.ite (.next setPh_evolves.mono) (.next setPh_evolves.mono))))) (.next .refl)

theorem execNegativeCurrentLimit_answers {ph amps s} : Answers (writes (.negativeCurrentLimit ph amps)) s (execNegativeCurrentLimit ph amps s) := by
  unfold execNegativeCurrentLimit
  exact .ite (.next setPh_evolves.mono) (.next .refl)

theorem execPeakLimit_answers {ph amps s} : Answers (writes (.peakLimit ph amps)) s (execPeakLimit ph amps s) := by
  unfold execPeakLimit
  exact .ite (.trans bump_evolves.mono (.trans raise_evolves.mono (.next setPh_evolves.mono))) (.next .refl)

theorem execPhaseShort_answers {ph s} : Answers (writes (.phaseShort ph)) s (execPhaseShort ph s) := by
  unfold execPhaseShort
  exact .ite (.trans wrN_evolves.mono (.next (.trans setPh_evolves.mono latchRail_evolves.mono))) (.next .refl)

theorem balanceOne_evolves {s r p sum n} : Evolves { ph := true } s (balanceOne s r p sum n) := by
  unfold balanceOne
  exact setPh_evolves.mono

theorem execBalanceUpdate_answers {rail means s} : Answers (writes (.balanceUpdate rail means)) s (execBalanceUpdate rail means s) := by
  unfold execBalanceUpdate
  exact .trans (.forEach fun _ _ => .ite setF_evolves.mono .refl) (.ite (.next (.forEach fun _ _ => balanceOne_evolves.mono)) (.next .refl))

theorem execPhaseAdd_answers {rail s} : Answers (writes (.phaseAdd rail)) s (execPhaseAdd rail s) := by
  unfold execPhaseAdd
  exact .ite
    (.trans setCh_evolves.mono
       (.ite (.next .refl) (.ite (.next (.trans (.trans setN_evolves.mono endRemoval_evolves.mono) bumpBy_evolves.mono)) (.next .refl))))
    (.next .refl)

theorem execPhaseShed_answers {rail s} : Answers (writes (.phaseShed rail)) s (execPhaseShed rail s) := by
  unfold execPhaseShed
  exact .ite (.trans restartShed_evolves.mono (.ite (.next .refl) (.trans (.ite setN_evolves.mono shedOne_evolves.mono) (.next bump_evolves.mono))))
    (.next .refl)

theorem execSenseSwitch_answers {chan pri alt s} : Answers (writes (.senseSwitch chan pri alt)) s (execSenseSwitch chan pri alt s) := by
  unfold execSenseSwitch
  exact .ite
    (.trans setCh_evolves.mono (.trans wrN_evolves.mono (.trans raise_evolves.mono (.trans record_evolves.mono (.next dripExit_evolves.mono)))))
    (.next .refl)

theorem execStageFaultTmon_answers {ph mv s} : Answers (writes (.stageFaultTmon ph mv)) s (execStageFaultTmon ph mv s) := by
  unfold execStageFaultTmon
  exact .ite (.next stageFault_evolves.mono) (.next .refl)

theorem sfltFaults_evolves {s q hot} :
    Evolves { regs := true, top := true, drain := true, recd := true, ch := true, ph := true, quad := true, pb := true, fq := true, img := true,
                nvs := true, fab := true, tvl := true, est := true, sbm := true } s (sfltFaults s q hot) := by
  unfold sfltFaults
  exact .forEach fun _ _ => stageFault_evolves.mono

theorem execStageFaultInput_answers {quad hot s} : Answers (writes (.stageFaultInput quad hot)) s (execStageFaultInput quad hot s) := by
  unfold execStageFaultInput
  exact .ite (.next .refl) (.ite (.trans record_evolves.mono (.next setQuad_evolves.mono)) (.trans setQuad_evolves.mono (.next sfltFaults_evolves.mono)))

theorem execSfltWindowEnd_answers {quad low hot s} : Answers (writes (.sfltWindowEnd quad low hot)) s (execSfltWindowEnd quad low hot s) := by
  unfold execSfltWindowEnd
  exact .trans (.ite reach_evolves.mono .refl) (.ite (.trans setQuad_evolves.mono (.next sfltFaults_evolves.mono)) (.next setQuad_evolves.mono))

theorem execPhaseReturn_answers {ph s} : Answers (writes (.phaseReturn ph)) s (execPhaseReturn ph s) := by
  unfold execPhaseReturn
  exact .ite (.next setPh_evolves.mono) (.next .refl)

theorem execImonRange_answers {ph mv s} : Answers (writes (.imonRange ph mv)) s (execImonRange ph mv s) := by
  unfold execImonRange
  exact .ite (.trans raise_evolves.mono (.next setF_evolves.mono)) (.next .refl)

theorem execDripEntry_answers {rail s} : Answers (writes (.dripEntry rail)) s (execDripEntry rail s) := by
  unfold execDripEntry
  exact .ite
    (by
       extract_lets
       split
       exacts [.next .refl,
         .trans phasesIdle_evolves.mono (.trans setPh_evolves.mono (.trans setCh_evolves.mono (.next bump_evolves.mono)))]) (.next .refl)

theorem execDripSleep_answers {rail mv s} : Answers (writes (.dripSleep rail mv)) s (execDripSleep rail mv s) := by
  unfold execDripSleep
  exact .trans wrN_evolves.mono (.ite (.trans phasesMid_evolves.mono (.next setCh_evolves.mono)) (.next .refl))

theorem execDripWake_answers {rail mv s} : Answers (writes (.dripWake rail mv)) s (execDripWake rail mv s) := by
  unfold execDripWake
  exact .trans wrN_evolves.mono (.ite (.trans setPh_evolves.mono (.next setCh_evolves.mono)) (.next .refl))

theorem execDripBurstExit_answers {rail s} : Answers (writes (.dripBurstExit rail)) s (execDripBurstExit rail s) := by
  unfold execDripBurstExit
  exact .ite (.next (.trans raise_evolves.mono dripExit_evolves.mono)) (.next .refl)

theorem memberGone_evolves {s r pos} : Evolves { regs := true, drain := true, recd := true, ch := true, ph := true } s (memberGone s r pos) := by
  unfold memberGone
  exact .ite
    (.trans setCh_evolves.mono (.trans (.trans allActive_evolves.mono restartShed_evolves.mono) (.trans raise_evolves.mono record_evolves.mono)))
    (.refl)

theorem execMemberLoss_answers {rail pos s} : Answers (writes (.memberLoss rail pos)) s (execMemberLoss rail pos s) := by
  unfold execMemberLoss
  exact .ite (.next memberGone_evolves.mono) (.next .refl)

theorem dutyLost_evolves {s c} : Evolves { regs := true, drain := true, recd := true, ch := true, ph := true } s (dutyLost s c) := by
  unfold dutyLost
  exact .ite (.trans (.forEach fun _ _ => setPh_evolves.mono) (.trans setCh_evolves.mono (.trans raise_evolves.mono record_evolves.mono))) .refl

theorem execDutyWordLoss_answers {chan s} : Answers (writes (.dutyWordLoss chan)) s (execDutyWordLoss chan s) := by
  unfold execDutyWordLoss
  exact .next dutyLost_evolves.mono

theorem execFastDuty_answers {chan duty n boost regok s} :
    Answers (writes (.fastDuty chan duty n boost regok)) s (execFastDuty chan duty n boost regok s) := by
  unfold execFastDuty
  exact .ite (.trans setCh_evolves.mono (.trans (.ite endRemoval_evolves.mono .refl) (.next shareTo_evolves.mono))) (.next .refl)

theorem execFastIrep_answers {chan pos amps s} : Answers (writes (.fastIrep chan pos amps)) s (execFastIrep chan pos amps s) := by
  unfold execFastIrep
  exact .ite (.trans setCh_evolves.mono (.next wrN_evolves.mono)) (.next .refl)

/-! ## LinkOps -/

theorem returnUnits_evolves {s q} : Evolves { tvl := true } s (returnUnits s q) := by
  unfold returnUnits
  exact .ite .refl setLcls_evolves.mono

theorem deadFrame_evolves {s reason q} : Evolves { regs := true, drain := true, recd := true, tvl := true } s (deadFrame s reason q) := by
  unfold deadFrame
  exact .trans deadLetter_evolves.mono returnUnits_evolves.mono

theorem joinQueue_evolves {s k due l q} : Evolves { tvl := true } s (joinQueue s k due l q).2 := by
  unfold joinQueue
  exact .iteSnd returnUnits_evolves.mono .refl

theorem leaveQueue_evolves {s k i due l} : Evolves { tvl := true } s (leaveQueue s k i due l).2 := by
  unfold leaveQueue
  extract_lets j s1 l1
  have h1 : Evolves { tvl := true } s s1 := by
    unfold s1
    split
    · exact returnUnits_evolves.mono
    · exact .refl
  split <;> exact h1

theorem outPush_evolves {s n q} : Evolves { tvl := true } s (outPush s n q) := by
  unfold outPush
  exact .trans (t := (joinQueue s 0 (fun _ => credDue s n) (lclsOf s n q.frame.cls).out q).2) joinQueue_evolves.mono setLcls_evolves.mono

theorem outPop_evolves {s n c} : Evolves { tvl := true } s (outPop s n c) := by
  unfold outPop
  exact .trans (t := (leaveQueue s 0 0 (fun _ => credDue s n) (lclsOf s n c).out).2) leaveQueue_evolves.mono setLcls_evolves.mono

theorem setDeliver_evolves {s c l} : Evolves { tvl := true } s (setDeliver s c l) := by
  unfold setDeliver
  exact .set_tvl

theorem deliverFrame_evolves {s q} : Evolves { regs := true, drain := true, recd := true, tvl := true } s (deliverFrame s q) := by
  unfold deliverFrame
  exact .ite (.trans (t := { s with tvl := { s.tvl with rx := s.tvl.rx ++ [q.frame] } }) .set_tvl returnUnits_evolves.mono)
    (.ite deadFrame_evolves.mono
      (.trans (t := (joinQueue s queueDepth (fun q => credDue s q.lane) (deliverOf s q.frame.cls) q).2) joinQueue_evolves.mono
        setDeliver_evolves.mono))

theorem deliverDrop_evolves {s c i} : Evolves { tvl := true } s (deliverDrop s c i) := by
  unfold deliverDrop
  exact .trans (t := (leaveQueue s queueDepth i (fun q => credDue s q.lane) (deliverOf s c)).2) leaveQueue_evolves.mono
    setDeliver_evolves.mono

theorem takeRx_evolves {s typ} : Evolves { tvl := true } s (takeRx s typ) := by
  unfold takeRx
  exact .set_tvl

theorem takeDelivered_evolves {s typ} : Evolves { tvl := true } s (takeDelivered s typ) := by
  unfold takeDelivered
  split
  · exact .refl
  · exact deliverDrop_evolves.mono

theorem toLane_evolves {s n q} : Evolves { regs := true, drain := true, recd := true, tvl := true } s (toLane s n q) := by
  unfold toLane
  exact .ite deadFrame_evolves.mono (.ite deadFrame_evolves.mono outPush_evolves.mono)

theorem routeFrame_evolves {s q} : Evolves { regs := true, drain := true, recd := true, tvl := true } s (routeFrame s q) := by
  unfold routeFrame
  exact .ite (.ite deliverFrame_evolves.mono (.ite deadFrame_evolves.mono (.ite deadFrame_evolves.mono toLane_evolves.mono)))
    (.ite (.trans (.forEach fun _ _ => toLane_evolves.mono) (.ite .refl deliverFrame_evolves.mono))
       (.ite deliverFrame_evolves.mono
          (by
             split
             exacts [toLane_evolves.mono,
               deadFrame_evolves.mono])))

theorem countOseq_evolves {s} : Evolves { tvl := true } s (countOseq s) := by
  unfold countOseq
  exact .set_tvl

theorem postFrame_evolves {s typ scope dest body} :
    Evolves { regs := true, drain := true, recd := true, tvl := true } s (postFrame s typ scope dest body) := by
  unfold postFrame
  exact .trans countOseq_evolves.mono routeFrame_evolves.mono

theorem postPeer_evolves {s n typ body} : Evolves { regs := true, drain := true, recd := true, tvl := true } s (postPeer s n typ body) := by
  unfold postPeer
  exact .trans countOseq_evolves.mono toLane_evolves.mono

theorem cellPush_evolves {s n q} : Evolves { tvl := true } s (cellPush s n q) := by
  unfold cellPush
  exact setLane_evolves.mono

theorem cellForward_evolves {s q} : Evolves { regs := true, drain := true, recd := true, tvl := true } s (cellForward s q) := by
  unfold cellForward
  exact .ite (.ite .refl (.ite deadLetter_evolves.mono (.ite deadLetter_evolves.mono cellPush_evolves.mono)))
    (.ite (.ite (.forEach fun _ _ => cellPush_evolves.mono) .refl) (.forEach fun _ _ => cellPush_evolves.mono))

theorem originFlush_evolves {s} : Evolves { regs := true, drain := true, recd := true, tvl := true } s (originFlush s) := by
  unfold originFlush
  exact .trans .set_tvl (.forEach fun _ _ => .trans cellForward_evolves.mono (.ite cellForward_evolves.mono .refl))

theorem cellLeft_evolves {s q} : Evolves { tvl := true } s (cellLeft s q) := by
  unfold cellLeft
  exact .ite .refl setLane_evolves.mono

theorem cellReceive_evolves {s n c ok} : Evolves { regs := true, drain := true, recd := true, tvl := true } s (cellReceive s n c ok).1 := by
  unfold cellReceive
  exact .iteFst .refl
    (.trans (.trans .set_tvl cellForward_evolves.mono)
       (.trans cellLeft_evolves.mono
          (.iteFst (.trans (.trans raise_evolves.mono bump_evolves.mono) (.trans boundaryFail_evolves.mono deadLetter_evolves.mono))
             (.trans .set_tvl (.iteFst bump_evolves.mono .refl)))))

theorem redClose_evolves {s r} : Evolves { regs := true, drain := true, recd := true, tvl := true } s (redClose s r) := by
  unfold redClose
  exact .trans .set_tvl (.trans (.ite (.trans raise_evolves.mono sinkTake_evolves.mono) .refl) (.ite .set_tvl postFrame_evolves.mono))

theorem redCheck_evolves {s rid} : Evolves { regs := true, drain := true, recd := true, tvl := true } s (redCheck s rid) := by
  unfold redCheck
  split
  · exact .ite redClose_evolves.mono .refl
  · exact .refl

theorem redAdd_evolves {s src ids c} : Evolves { regs := true, drain := true, recd := true, tvl := true } s (redAdd s src ids c) := by
  unfold redAdd
  extract_lets
  split
  · exact .ite (.trans raise_evolves.mono deadLetter_evolves.mono) (.trans .set_tvl redCheck_evolves.mono)
  · exact .ite deadLetter_evolves.mono (.ite (.trans raise_evolves.mono deadLetter_evolves.mono) (.trans .set_tvl redCheck_evolves.mono))

theorem redEdgeGone_evolves {s n} : Evolves { regs := true, drain := true, recd := true, tvl := true } s (redEdgeGone s n) := by
  unfold redEdgeGone
  exact .forEach fun _ _ => .trans .set_tvl redCheck_evolves.mono

theorem wideLaneLost_evolves {s n} : Evolves { regs := true, drain := true, recd := true, ch := true, ph := true } s (wideLaneLost s n) := by
  unfold wideLaneLost
  exact .ite .refl (.forEach fun _ _ => .ite memberGone_evolves.mono (.ite dutyLost_evolves.mono .refl))

theorem laneLeave_evolves {s n st} :
    Evolves { regs := true, drain := true, recd := true, tb := true, ch := true, ph := true, tvl := true } s (laneLeave s n st) := by
  unfold laneLeave
  exact .ite
    (.trans setLane_evolves.mono
       (.trans raise_evolves.mono
          (.trans (.forEach fun _ _ => deadFrame_evolves.mono)
             (.trans (.forEach fun _ _ => cellLeft_evolves.mono)
                (.trans (.ite redEdgeGone_evolves.mono .refl) (.trans (.ite .set_tb .refl) wideLaneLost_evolves.mono)))))) setLane_evolves.mono

theorem laneWait_evolves {s n} :
    Evolves { regs := true, drain := true, recd := true, tb := true, ch := true, ph := true, tvl := true } s (laneWait s n) := by
  unfold laneWait
  exact .trans laneLeave_evolves.mono setLane_evolves.mono

theorem replayLimit_evolves {s n} :
    Evolves { regs := true, drain := true, recd := true, tb := true, ch := true, ph := true, tvl := true } s (replayLimit s n) := by
  unfold replayLimit
  exact .trans (.trans raise_evolves.mono laneWait_evolves.mono)
    (.trans setLane_evolves.mono (.ite (.trans setLane_evolves.mono record_evolves.mono) .refl))

theorem resendFrom_evolves {s n c lseq} :
    Evolves { regs := true, drain := true, recd := true, tb := true, ch := true, ph := true, tvl := true } s (resendFrom s n c lseq) := by
  unfold resendFrom
  exact .ite .refl (.ite replayLimit_evolves.mono (.trans setLcls_evolves.mono bump_evolves.mono))

theorem laneStart_evolves {s n} :
    Evolves { regs := true, drain := true, recd := true, tb := true, ch := true, ph := true, tvl := true } s (laneStart s n) := by
  unfold laneStart
  exact .ite (.ite setLane_evolves.mono .refl) (.ite .refl laneLeave_evolves.mono)

theorem lanesOff_evolves {s} :
    Evolves { regs := true, drain := true, recd := true, tb := true, ch := true, ph := true, tvl := true } s (lanesOff s) := by
  unfold lanesOff
  exact .forEach fun _ _ => .ite .refl laneLeave_evolves.mono

/-! ## TbOps -/

theorem setTb_evolves {s f} : Evolves { tb := true } s (setTb s f) := by
  unfold setTb
  exact .set_tb

theorem loseAlign_evolves {s} : Evolves { regs := true, drain := true, recd := true, tb := true } s (loseAlign s) := by
  unfold loseAlign
  exact .ite (.trans (.trans setTb_evolves.mono raise_evolves.mono) record_evolves.mono) .refl

theorem enterLocked_evolves {s} : Evolves { regs := true, tb := true } s (enterLocked s) := by
  unfold enterLocked
  exact .trans setTb_evolves.mono raise_evolves.mono

theorem enterAcquire_evolves {s} : Evolves { regs := true, drain := true, recd := true, tb := true } s (enterAcquire s) := by
  unfold enterAcquire
  exact .trans setTb_evolves.mono loseAlign_evolves.mono

theorem enterMaster_evolves {s} : Evolves { tb := true } s (enterMaster s) := by
  unfold enterMaster
  exact setTb_evolves.mono

theorem enterFree_evolves {s} : Evolves { regs := true, drain := true, recd := true, tb := true } s (enterFree s) := by
  unfold enterFree
  exact .trans setTb_evolves.mono loseAlign_evolves.mono

theorem enterHoldover_evolves {s} : Evolves { regs := true, tb := true } s (enterHoldover s) := by
  unfold enterHoldover
  exact .trans setTb_evolves.mono raise_evolves.mono

theorem tbStep_evolves {s theta} : Evolves { regs := true, recd := true, tb := true, est := true } s (tbStep s theta) := by
  unfold tbStep
  exact .trans setTb_evolves.mono (.trans (.trans bump_evolves.mono raise_evolves.mono) (.trans estStep_evolves.mono dueMark_evolves.mono))

theorem limitCount_evolves {s} : Evolves { tb := true } s (limitCount s) := by
  unfold limitCount
  exact setTb_evolves.mono

theorem tbCorrect_evolves {s theta} : Evolves { tb := true } s (tbCorrect s theta) := by
  unfold tbCorrect
  exact .trans setTb_evolves.mono limitCount_evolves.mono

theorem tbLock_evolves {s theta} : Evolves { regs := true, tb := true } s (tbLock s theta) := by
  unfold tbLock
  exact .trans setTb_evolves.mono (.trans (.ite setTb_evolves.mono .refl) (.ite enterLocked_evolves.mono .refl))

theorem tbServo_evolves {s theta d} : Evolves { regs := true, drain := true, recd := true, tb := true, est := true } s (tbServo s theta d) := by
  unfold tbServo
  exact .ite raise_evolves.mono
    (.trans setTb_evolves.mono
       (.trans (.ite (.ite enterLocked_evolves.mono enterAcquire_evolves.mono) .refl)
          (.ite (.trans tbStep_evolves.mono limitCount_evolves.mono) (.trans tbCorrect_evolves.mono tbLock_evolves.mono))))

theorem clkFault_evolves {s bit} : Evolves { regs := true, drain := true, recd := true } s (clkFault s bit) := by
  unfold clkFault
  exact .trans raise_evolves.mono record_evolves.mono

theorem ctlClockLost_evolves {s} :
    Evolves { regs := true, top := true, drain := true, recd := true, ch := true, ph := true, pb := true, fq := true, img := true, nvs := true,
                tvl := true, est := true } s (ctlClockLost s) := by
  unfold ctlClockLost
  exact .trans phasesMid_evolves.mono (.trans (.trans .set_top haltEntry_evolves.mono) dischargeAll_evolves.mono)

/-! ## DomOps -/

theorem setDom_evolves {s f} : Evolves { dom := true } s (setDom s f) := by
  unfold setDom
  exact .set_dom

theorem sendHeartbeat_evolves {s} : Evolves { regs := true, drain := true, recd := true, tvl := true } s (sendHeartbeat s) := by
  unfold sendHeartbeat
  exact postFrame_evolves.mono

theorem becomeMaster_evolves {s e} : Evolves { recd := true, tb := true, dom := true, sbm := true } s (becomeMaster s e) := by
  unfold becomeMaster
  exact .trans (.trans pmRefresh_evolves.mono setDom_evolves.mono) (.trans enterMaster_evolves.mono dueMark_evolves.mono)

theorem postAnn_evolves {s cid tick basis es} :
    Evolves { regs := true, drain := true, recd := true, tvl := true } s (postAnn s cid tick basis es) := by
  unfold postAnn
  exact postFrame_evolves.mono

theorem takeover_evolves {s} :
    Evolves { regs := true, drain := true, recd := true, tb := true, tvl := true, dom := true, sbm := true } s (takeover s) := by
  unfold takeover
  exact .trans (.trans setSegs_evolves.mono becomeMaster_evolves.mono)
    (.trans setDom_evolves.mono
       (.trans (.trans raise_evolves.mono bump_evolves.mono)
          (.trans (.trans record_evolves.mono sendHeartbeat_evolves.mono) (.forEach fun _ _ => postAnn_evolves.mono))))

theorem staleSrc_evolves {s src} : Evolves { regs := true, drain := true, recd := true } s (staleSrc s src) := by
  unfold staleSrc
  exact .trans raise_evolves.mono record_evolves.mono

theorem allocGo_evolves {s} : Evolves { regs := true, drain := true, bt := true, recd := true, tvl := true, dom := true } s (allocGo s) := by
  unfold allocGo
  exact .ite .refl
    (.trans (.trans setPendBt_evolves.mono setSegs_evolves.mono)
       (.trans setDom_evolves.mono (.trans (.forEach fun _ _ => postFrame_evolves.mono) (.trans setPendBt_evolves.mono sealTry_evolves.mono))))

theorem divergence_evolves {s act live ix} : Evolves { regs := true, drain := true, recd := true } s (divergence s act live ix) := by
  unfold divergence
  exact .trans bump_evolves.mono (.trans raise_evolves.mono record_evolves.mono)

theorem btCompare_evolves {s act stuck} :
    Evolves { regs := true, drain := true, bt := true, recd := true, dom := true } s (btCompare s act stuck).1 := by
  unfold btCompare
  extract_lets g b bad hdrDead w1 want f1 f2 fixed hdrLive isLive s1 s2 s3 fault
  refine .iteFst .refl ?_
  split
  · dsimp only
    exact setDom_evolves.mono
  · refine .trans (t := s1) (.forEach fun _ _ => divergence_evolves.mono) ?_
    refine .trans (t := s2) (.ite divergence_evolves.mono .refl) ?_
    refine .trans (t := s3) (.ite setActBt_evolves.mono setPendBt_evolves.mono) ?_
    clear_value s3 fault
    dsimp only
    exact setDom_evolves.mono

theorem domComplete_evolves {s} : Evolves { regs := true, drain := true, bt := true, recd := true, dom := true } s (domComplete s) := by
  unfold domComplete
  exact .bindFst btCompare_evolves.mono (fun _ _ => .ite (.trans setPendBt_evolves.mono sealTry_evolves.mono) .refl)

theorem domRefuse_evolves {s cid result g} : Evolves { regs := true, drain := true, recd := true, tvl := true } s (domRefuse s cid result g) := by
  unfold domRefuse
  exact .trans (.trans raise_evolves.mono bump_evolves.mono) (.ite .refl postFrame_evolves.mono)

theorem domStage_evolves {s c} : Evolves { regs := true, drain := true, recd := true, tvl := true, dom := true } s (domStage s c) := by
  unfold domStage
  exact .ite .refl (.ite .refl (.ite domRefuse_evolves.mono (.ite domRefuse_evolves.mono (.ite domRefuse_evolves.mono setDom_evolves.mono))))

theorem ceilWrite_evolves {s g n reason} : Evolves { regs := true, active := true, dom := true } s (ceilWrite s g n reason) := by
  unfold ceilWrite
  exact .trans setDom_evolves.mono (.forEach fun _ _ => .trans wrAc_evolves.mono wr_evolves.mono)

theorem domEffect_evolves {s c} : Evolves { regs := true, active := true, drain := true, recd := true, dom := true } s (domEffect s c) := by
  unfold domEffect
  exact .trans
    (by
       split
       exacts [ceilWrite_evolves.mono,
         .trans (.ite ceilWrite_evolves.mono ceilWrite_evolves.mono) setDom_evolves.mono]) commitEntry_evolves.mono

theorem domCancel_evolves {s} : Evolves { regs := true, drain := true, recd := true, dom := true } s (domCancel s) := by
  unfold domCancel
  exact .trans setDom_evolves.mono (.forEach fun _ _ => commitEntry_evolves.mono)

theorem gthrotCheck_evolves {s p} : Evolves { regs := true, drain := true, recd := true, tvl := true, dom := true } s (gthrotCheck s p) := by
  unfold gthrotCheck
  exact .ite (.trans setDom_evolves.mono (.trans bump_evolves.mono (.trans originate_evolves.mono domStage_evolves.mono))) .refl

theorem holdStart_evolves {s g us} : Evolves { regs := true, pb := true, dom := true, cap := true } s (holdStart s g us) := by
  unfold holdStart
  exact .trans setDom_evolves.mono (.forEach fun _ _ => holdUpdate_evolves.mono)

theorem roleTake_evolves {s} : Evolves { recd := true, dom := true } s (roleTake s) := by
  unfold roleTake
  exact .trans (.ite .refl dueMark_evolves.mono) .set_dom

theorem domRole_evolves {s} : Evolves { regs := true, drain := true, recd := true, tb := true, dom := true } s (domRole s) := by
  unfold domRole
  exact .trans roleTake_evolves.mono
    (by
       extract_lets
       split
       exacts [enterFree_evolves.mono,
         enterMaster_evolves.mono,
         .trans setTb_evolves.mono enterAcquire_evolves.mono])

theorem roleReset_evolves {s} : Evolves { regs := true, drain := true, recd := true, tb := true, dom := true } s (roleReset s) := by
  unfold roleReset
  exact .trans roleTake_evolves.mono
    (by
       extract_lets
       split
       exacts [enterFree_evolves.mono,
         .refl,
         .ite enterAcquire_evolves.mono .refl])

/-! ## RecOps -/

theorem ringWrite_evolves {s e} : Evolves { recd := true } s (ringWrite s e) := by
  unfold ringWrite
  exact .set_recd

theorem ringDiscard_evolves {s} : Evolves { regs := true, drain := true, recd := true } s (ringDiscard s) := by
  unfold ringDiscard
  exact .trans bump_evolves.mono (.trans raise_evolves.mono (.trans .set_recd sinkTake_evolves.mono))

theorem ringResume_evolves {s} : Evolves { recd := true } s (ringResume s) := by
  unfold ringResume
  exact .ite (.trans ringWrite_evolves.mono .set_recd) .refl

theorem grantEntry_evolves {s e} : Evolves { regs := true, drain := true, recd := true } s (grantEntry s e) := by
  unfold grantEntry
  exact .trans ringResume_evolves.mono (.ite ringWrite_evolves.mono ringDiscard_evolves.mono)

theorem lifeSeconds_evolves {s} : Evolves { nvs := true } s (lifeSeconds s) := by
  unfold lifeSeconds
  exact .set_nvs

theorem takeMark_evolves {s} : Evolves { recd := true, nvs := true } s (takeMark s) := by
  unfold takeMark
  exact .ite (.trans lifeSeconds_evolves.mono (.trans .set_recd dueMark_evolves.mono)) .refl

theorem grantCycle_evolves {s} : Evolves { regs := true, drain := true, recd := true, nvs := true } s (grantCycle s) := by
  unfold grantCycle
  exact .ite
    (.trans takeMark_evolves.mono
       (by
          extract_lets
          split
          exacts [.trans .set_recd grantEntry_evolves.mono,
            by
              split
              exacts [ringResume_evolves.mono,
                by
                  split
                  exacts [.refl,
                    .trans setStageQ_evolves.mono (.trans (.trans .set_recd grantEntry_evolves.mono) placeLoss_evolves.mono)]]])) .refl

theorem grantControl_evolves {s} : Evolves { regs := true, drain := true, recd := true, nvs := true } s (grantControl s) := by
  unfold grantControl
  exact .forEach fun _ _ => .ite .refl grantCycle_evolves.mono

/-! ## NvsOps -/

theorem setSector_evolves {s n f} : Evolves { nvs := true } s (setSector s n f) := by
  unfold setSector
  exact .set_nvs

theorem setUnavail_evolves {s first} : Evolves { regs := true } s (setUnavail s first) := by
  unfold setUnavail
  split
  · exact setF_evolves.mono
  · exact .refl

theorem jRaw_evolves {s sec r} : Evolves { nvs := true } s (jRaw s sec r) := by
  unfold jRaw
  exact setSector_evolves.mono

theorem nextJ_evolves {s} : Evolves { nvs := true } s (nextJ s) := by
  unfold nextJ
  exact .set_nvs

theorem spareTake_evolves {s n k} : Evolves { regs := true, drain := true, recd := true, nvs := true } s (spareTake s n k) := by
  unfold spareTake
  exact .trans .set_nvs (.trans raise_evolves.mono record_evolves.mono)

theorem wearCheck_evolves {s n} : Evolves { regs := true, drain := true, recd := true, nvs := true } s (wearCheck s n) := by
  unfold wearCheck
  exact .trans (.ite wrN_evolves.mono .refl) (.ite (.trans setSector_evolves.mono (.trans raise_evolves.mono record_evolves.mono)) .refl)

theorem eraseSaid_evolves {s n gen} : Evolves { regs := true, drain := true, recd := true, nvs := true } s (eraseSaid s n gen) := by
  unfold eraseSaid
  exact .trans record_evolves.mono wearCheck_evolves.mono

theorem jSwitch_evolves {s} : Evolves { regs := true, drain := true, recd := true, nvs := true } s (jSwitch s) := by
  unfold jSwitch
  extract_lets cur oth g e s1 s2 n2 s3 s4 s5 worn op s6 s7 s8 s9
  refine .trans (t := s3) ?_ ?_
  · exact .trans (t := s1) (.trans (t := nextJ s) nextJ_evolves.mono jRaw_evolves.mono) (.trans (t := s2) setSector_evolves.mono .set_nvs)
  clear_value s3 g e
  refine .trans (t := s5) ?_ ?_
  · exact .trans (t := s4) (.trans (t := nextJ s3) nextJ_evolves.mono jRaw_evolves.mono) eraseSaid_evolves.mono
  clear_value s5 op
  refine .trans (t := s6) ?_ ?_
  · unfold s6
    clear_value worn
    split
    · exact .trans spareTake_evolves.mono setSector_evolves.mono
    · exact .ite setUnavail_evolves.mono .refl
  clear_value s6
  refine .trans (t := s8) ?_ (.trans (t := s9) ?_ .set_nvs)
  · exact .trans (t := s7) (.trans (t := nextJ s6) nextJ_evolves.mono jRaw_evolves.mono)
      (.forEach fun t _ => .trans (t := nextJ t) nextJ_evolves.mono jRaw_evolves.mono)
  · unfold s9
    clear_value s8 worn
    split
    · exact .trans (t := nextJ s8) nextJ_evolves.mono jRaw_evolves.mono
    · exact .refl

theorem jPut_evolves {s typ sector gen arg first entries crc} :
    Evolves { regs := true, drain := true, recd := true, nvs := true } s (jPut s typ sector gen arg first entries crc) := by
  unfold jPut
  exact .trans (.ite jSwitch_evolves.mono .refl) (.trans nextJ_evolves.mono jRaw_evolves.mono)

theorem eraseStart_evolves {s n} : Evolves { regs := true, drain := true, recd := true, nvs := true } s (eraseStart s n) := by
  unfold eraseStart
  exact .trans jPut_evolves.mono (.trans setSector_evolves.mono .set_nvs)

theorem eraseNext_evolves {s} : Evolves { regs := true, drain := true, recd := true, nvs := true } s (eraseNext s) := by
  unfold eraseNext
  split
  · exact .trans .set_nvs eraseStart_evolves.mono
  · exact .refl

theorem eraseAsk_evolves {s l} : Evolves { regs := true, drain := true, recd := true, nvs := true } s (eraseAsk s l) := by
  unfold eraseAsk
  exact .trans .set_nvs eraseNext_evolves.mono

theorem retire_evolves {s n} : Evolves { regs := true, drain := true, recd := true, nvs := true } s (retire s n) := by
  unfold retire
  split
  · exact .trans jPut_evolves.mono spareTake_evolves.mono
  · exact setUnavail_evolves.mono

theorem eraseEnd_evolves {s e} : Evolves { regs := true, drain := true, recd := true, nvs := true } s (eraseEnd s e) := by
  unfold eraseEnd
  exact .trans setSector_evolves.mono (.trans (.trans .set_nvs jPut_evolves.mono) (.trans eraseSaid_evolves.mono (.ite retire_evolves.mono .refl)))

theorem eraseWait_evolves {s n} : Evolves { regs := true, drain := true, recd := true, nvs := true } s (eraseWait s n) := by
  unfold eraseWait
  exact .forEach
    fun _ _ =>
      .ite
        (by
           split
           exacts [.trans eraseEnd_evolves.mono eraseNext_evolves.mono,
             eraseNext_evolves.mono]) .refl

theorem areaAdvance_evolves {s first n} : Evolves { regs := true, drain := true, recd := true, nvs := true } s (areaAdvance s first n) := by
  unfold areaAdvance
  exact .trans setSector_evolves.mono (.trans .set_nvs (.ite .refl eraseAsk_evolves.mono))

theorem areaRoom_evolves {s first n u} : Evolves { regs := true, drain := true, recd := true, nvs := true } s (areaRoom s first n u) := by
  unfold areaRoom
  exact .forEach fun _ _ => .ite (.trans eraseWait_evolves.mono areaAdvance_evolves.mono) .refl

theorem putRecord_evolves {s kind key payload} :
    Evolves { regs := true, drain := true, recd := true, nvs := true } s (putRecord s kind key payload) := by
  unfold putRecord
  exact .trans areaRoom_evolves.mono setSector_evolves.mono

theorem burnUnits_evolves {s kind u} : Evolves { nvs := true } s (burnUnits s kind u) := by
  unfold burnUnits
  exact setSector_evolves.mono

theorem putCounters_evolves {s} : Evolves { regs := true, drain := true, recd := true, nvs := true } s (putCounters s) := by
  unfold putCounters
  exact .trans .set_nvs (.ite .refl putRecord_evolves.mono)

theorem nvCmdEnd_evolves {s result} : Evolves { regs := true, nvs := true } s (nvCmdEnd s result) := by
  unfold nvCmdEnd
  exact .trans setF_evolves.mono (.trans raise_evolves.mono (.trans .set_nvs lower_evolves.mono))

theorem nvCmdFail_evolves {s result sector} : Evolves { regs := true, drain := true, recd := true, nvs := true } s (nvCmdFail s result sector) := by
  unfold nvCmdFail
  exact .trans nvCmdEnd_evolves.mono record_evolves.mono

theorem nvAbort_evolves {s} : Evolves { regs := true, drain := true, recd := true, nvs := true } s (nvAbort s) := by
  unfold nvAbort
  extract_lets n0 s1
  refine .trans (t := s1) ?_ ?_
  · unfold s1
    split
    · exact .set_nvs
    · exact .refl
  · clear_value s1
    split
    · exact nvCmdFail_evolves.mono
    · exact .refl

theorem tailCopy_evolves {s unit} : Evolves { regs := true, drain := true, recd := true, nvs := true } s (tailCopy s unit) := by
  unfold tailCopy
  exact .ite .refl
    (.trans nvAbort_evolves.mono
       (by
          extract_lets
          split
          exacts [.trans raise_evolves.mono record_evolves.mono,
            .trans jPut_evolves.mono (.trans setSector_evolves.mono (.trans .set_nvs raise_evolves.mono))]))

theorem tailEnd_evolves {s ok n} : Evolves { regs := true, drain := true, recd := true, nvs := true } s (tailEnd s ok n) := by
  unfold tailEnd
  split
  · exact .refl
  · exact .trans (.trans .set_nvs lower_evolves.mono) (.trans (.ite jPut_evolves.mono .refl) (.ite .refl raise_evolves.mono))

/-! ## SecOps -/

theorem fuseRead_evolves {s} : Evolves { regs := true } s (fuseRead s) := by
  unfold fuseRead
  exact .trans (.trans setF_evolves.mono setF_evolves.mono)
    (.trans (.trans setF_evolves.mono setF_evolves.mono) (.trans setF_evolves.mono setF_evolves.mono))

theorem fuseWhole_evolves {s o} : Evolves { sec := true } s (fuseWhole s o) := by
  unfold fuseWhole
  split
  · split
    next h => exact setOwner_evolves (ownerKept_of_free _ h)
    next => exact .refl
  · split
    · exact setOwner_evolves (ownerKept_revoked _)
    · exact .refl
  · exact setFuse_evolves (fusesKept_rootDisable _ _)
  · exact setFuse_evolves (fusesKept_imgRb _ _)
  · exact setFuse_evolves (fusesKept_fwRb _ _)
  · exact setFuse_evolves (fusesKept_dbgOff _ _ _)
  · split
    next h => exact setBound_evolves (boundKept_of_free _ h)
    next => exact .refl
  · exact .refl

theorem fusePart_evolves {s o} : Evolves { sec := true, freeCtr := true } s (fusePart s o) := by
  unfold fusePart
  have h := drawNat_evolves (s := s) (n := 2 ^ 392)
  generalize drawNat s (2 ^ 392) = p at h ⊢
  refine .trans h.mono ?_
  obtain ⟨n, t⟩ := p
  dsimp -zeta only
  extract_lets +onlyGivenNames part
  split
  · split
    next h => exact (setOwner_evolves (ownerKept_of_free _ h)).mono
    next => exact .refl
  · exact .ite fuseWhole_evolves.mono .refl
  · exact (setFuse_evolves (fusesKept_rootDisable _ _)).mono
  · exact fuseWhole_evolves.mono
  · exact fuseWhole_evolves.mono
  · exact fuseWhole_evolves.mono
  · split
    next h => exact (setBound_evolves (boundKept_of_free _ h)).mono
    next => exact .refl
  · exact .refl

theorem fuseEnd_evolves {s o result} : Evolves { regs := true, drain := true, recd := true } s (fuseEnd s o result) := by
  unfold fuseEnd
  exact .trans setF_evolves.mono (.trans record_evolves.mono raise_evolves.mono)

theorem fuseStop_evolves {s o result} : Evolves { regs := true, drain := true, recd := true, sec := true } s (fuseStop s o result) := by
  unfold fuseStop
  exact .trans .set_sec fuseEnd_evolves.mono

theorem fuseAbort_evolves {s} : Evolves { regs := true, drain := true, recd := true, sec := true, freeCtr := true } s (fuseAbort s) := by
  unfold fuseAbort
  split
  · exact .trans fusePart_evolves.mono fuseStop_evolves.mono
  · exact .refl

/-! ## Protection -/

theorem olShift_evolves {s r} : Evolves { ch := true } s (olShift s r) := by
  unfold olShift
  exact setCh_evolves.mono

theorem execOverloadCompare_answers {rail s} : Answers (writes (.overloadCompare rail)) s (execOverloadCompare rail s) := by
  unfold execOverloadCompare
  exact .trans (.ite olShift_evolves.mono .refl)
    (.ite
       (.ite (.trans setF_evolves.mono (.trans raise_evolves.mono (.next setCh_evolves.mono)))
          (.ite (.next (.trans (.trans pmRefresh_evolves.mono setF_evolves.mono) setCh_evolves.mono)) (.next .refl))) (.next .refl))

theorem execOverloadShutdown_answers {rail s} : Answers (writes (.overloadShutdown rail)) s (execOverloadShutdown rail s) := by
  unfold execOverloadShutdown
  exact .ite (.trans reach_evolves.mono (.next latchRail_evolves.mono)) (.next .refl)

theorem execOvervoltageCrowbar_answers {chan mv s} : Answers (writes (.overvoltageCrowbar chan mv)) s (execOvervoltageCrowbar chan mv s) := by
  unfold execOvervoltageCrowbar
  exact .ite (.next latchRail_evolves.mono) (.next .refl)

theorem execThermalTrip_answers {src t s} : Answers (writes (.thermalTrip src t)) s (execThermalTrip src t s) := by
  unfold execThermalTrip
  exact .ite (.next .refl)
    (by
       split
       exacts [.next (.trans .set_top thermalTrip_evolves.mono),
         .trans setDie_evolves.mono (.ite (.next thermalTrip_evolves.mono) (.next .refl)),
         .ite (.next thermalTrip_evolves.mono) (.next .refl)])

theorem execStageOverTemperature_answers {ph t s} : Answers (writes (.stageOverTemperature ph t)) s (execStageOverTemperature ph t s) := by
  unfold execStageOverTemperature
  exact .ite (.trans setF_evolves.mono (.trans raise_evolves.mono (.next stageFault_evolves.mono))) (.next .refl)

theorem supRead_evolves {s sup mv} : Evolves { regs := true, sbm := true } s (supRead s sup mv) := by
  unfold supRead
  exact .ite .refl
    (by
       split
       exacts [.trans (.trans wrN_evolves.mono meanAdd_evolves.mono) setF_evolves.mono,
         .trans wrN_evolves.mono meanAdd_evolves.mono])

theorem vholdRead_evolves {s mv} : Evolves { regs := true, drain := true, recd := true, sbm := true } s (vholdRead s mv) := by
  unfold vholdRead
  exact .ite .refl
    (.trans (.trans wrN_evolves.mono meanAdd_evolves.mono)
       (.ite raise_evolves.mono (.ite (.trans lower_evolves.mono (.ite (.trans raise_evolves.mono record_evolves.mono) .refl)) .refl)))

theorem execSupplyWarning_answers {sup mv ago s} : Answers (writes (.supplyWarning sup mv ago)) s (execSupplyWarning sup mv ago s) := by
  unfold execSupplyWarning
  exact .trans supRead_evolves.mono
    (.ite
       (.trans raise_evolves.mono
          (.trans raise_evolves.mono
             (.trans bump_evolves.mono (.trans record_evolves.mono (.trans capture_evolves.mono (.next (.ite ballastRelease_evolves.mono .refl)))))))
       (.next .refl))

theorem execWarningClear_answers {sup mv s} : Answers (writes (.warningClear sup mv)) s (execWarningClear sup mv s) := by
  unfold execWarningClear
  exact .trans supRead_evolves.mono
    (.ite (.trans (.trans pmRefresh_evolves.mono lower_evolves.mono) (.next (.ite ballastResume_evolves.mono .refl))) (.next .refl))

theorem execVinHighAlarm_answers {mv s} : Answers (writes (.vinHighAlarm mv)) s (execVinHighAlarm mv s) := by
  unfold execVinHighAlarm
  exact .trans supRead_evolves.mono (.ite (.trans raise_evolves.mono (.trans raise_evolves.mono (.next record_evolves.mono))) (.next .refl))

theorem execVinHiClear_answers {mv s} : Answers (writes (.vinHiClear mv)) s (execVinHiClear mv s) := by
  unfold execVinHiClear
  exact .trans supRead_evolves.mono (.ite (.next (.trans pmRefresh_evolves.mono lower_evolves.mono)) (.next .refl))

theorem execVholdExhausted_answers {mv done s} : Answers (writes (.vholdExhausted mv done)) s (execVholdExhausted mv done s) := by
  unfold execVholdExhausted
  exact .trans vholdRead_evolves.mono (.ite (.trans tailEnd_evolves.mono (.next (.ite .refl record_evolves.mono))) (.next .refl))

theorem execVholdLow_answers {mv s} : Answers (writes (.vholdLow mv)) s (execVholdLow mv s) := by
  unfold execVholdLow
  exact .next vholdRead_evolves.mono

theorem brownCause_evolves {s sup} : Evolves { regs := true, top := true } s (brownCause s sup) := by
  unfold brownCause
  exact .trans raise_evolves.mono
    (.trans lower_evolves.mono
       (.trans raise_evolves.mono
          (by
             extract_lets
             split
             exacts [.refl,
               .trans lower_evolves.mono .set_top])))

theorem brownEnter_evolves {s sup mv} :
    Evolves { regs := true, top := true, drain := true, recd := true, ch := true, ph := true, pb := true, fq := true, img := true, nvs := true,
                tvl := true, est := true, sec := true, freeCtr := true } s (brownEnter s sup mv) := by
  unfold brownEnter
  exact .trans .set_top
    (.trans (.trans loadAbort_evolves.mono fuseAbort_evolves.mono)
       (.trans brownCause_evolves.mono
          (.trans bump_evolves.mono
             (.trans phasesMid_evolves.mono
                (.trans record_evolves.mono
                   (.trans (.trans (.ite grantControl_evolves.mono .refl) tailCopy_evolves.mono)
                      (.trans (.trans originTrip_evolves.mono enterState_evolves.mono) dischargeAll_evolves.mono)))))))

theorem execBrownoutEntry_answers {sup mv s} : Answers (writes (.brownoutEntry sup mv)) s (execBrownoutEntry sup mv s) := by
  unfold execBrownoutEntry
  exact .trans supRead_evolves.mono (.ite (.ite (.next brownCause_evolves.mono) (.next brownEnter_evolves.mono)) (.next .refl))

theorem execResetThresholdGlitch_answers {sup mv s} : Answers (writes (.resetThresholdGlitch sup mv)) s (execResetThresholdGlitch sup mv s) := by
  unfold execResetThresholdGlitch
  exact .ite (.next (.trans bump_evolves.mono raise_evolves.mono)) (.next .refl)

/-! ## Commit -/

theorem commitDrip_evolves {s0 s r} : Evolves { regs := true, ch := true, ph := true } s (commitDrip s0 s r) := by
  unfold commitDrip
  exact .ite dripExit_evolves.mono .refl

theorem railStart_evolves {s r set} :
    Evolves { regs := true, top := true, drain := true, recd := true, ch := true, ph := true, quad := true, pb := true, fq := true, nvs := true,
                fab := true, tvl := true, est := true } s (railStart s r set) := by
  unfold railStart
  split
  · exact .ite softStart_evolves.mono .refl
  · exact .ite (.trans (.trans disDrop_evolves.mono setCh_evolves.mono) softStart_evolves.mono) .refl
  · exact .refl
  · exact .ite disDrop_evolves.mono .refl

theorem commitDisable_evolves {s} : Evolves { regs := true, ch := true, ph := true } s (commitDisable s) := by
  unfold commitDisable
  exact .forEach fun _ _ => .trans setPh_evolves.mono (.ite dripExit_evolves.mono .refl)

theorem commitPhases_evolves {s r} : Evolves { ch := true, ph := true } s (commitPhases s r) := by
  unfold commitPhases
  exact .ite (.trans setN_evolves.mono endRemoval_evolves.mono) .refl

theorem commitRail_evolves {s0 s r} :
    Evolves { regs := true, top := true, drain := true, recd := true, ch := true, ph := true, quad := true, pb := true, fq := true, nvs := true,
                fab := true, tvl := true, est := true } s (commitRail s0 s r) := by
  unfold commitRail
  exact .trans (.ite setCh_evolves.mono .refl)
    (.trans commitDrip_evolves.mono
       (.trans (.ite setCh_evolves.mono .refl)
          (.trans (.ite setCh_evolves.mono .refl)
             (.trans (.ite commitPhases_evolves.mono .refl)
                (.trans setCh_evolves.mono
                   (.ite (.ite railStart_evolves.mono .refl) (.trans (.ite discharge_evolves.mono .refl) (.ite startAdvance_evolves.mono .refl))))))))

theorem commitPart_evolves {s0 s p} : Evolves { top := true, cap := true } s (commitPart s0 s p) := by
  unfold commitPart
  exact .trans .set_top (.ite capClamp_evolves.mono .refl)

theorem limitsNow_evolves {s} :
    Evolves { regs := true, top := true, drain := true, recd := true, ch := true, ph := true, quad := true, pb := true, fq := true, img := true,
                nvs := true, fab := true, tvl := true, est := true, sbm := true } s (limitsNow s) := by
  unfold limitsNow
  exact .trans (.forEach fun _ _ => .ite latchRail_evolves.mono .refl)
    (.trans (.forEach fun _ _ => .ite (.trans raise_evolves.mono stageFault_evolves.mono) .refl) (.ite thermalTrip_evolves.mono .refl))

theorem commitProt_evolves {s} :
    Evolves { regs := true, top := true, drain := true, recd := true, ch := true, ph := true, quad := true, pb := true, fq := true, img := true,
                nvs := true, fab := true, tvl := true, est := true, sbm := true } s (commitProt s) := by
  unfold commitProt
  exact .trans (.forEach fun _ _ => cfgTrip_evolves.mono) limitsNow_evolves.mono

theorem commitFq_evolves {s0 s} : Evolves { pb := true, fq := true } s (commitFq s0 s) := by
  unfold commitFq
  exact .trans (.ite .set_fq .refl) (.forEach fun _ _ => .ite .refl (.trans .set_fq balSend_evolves.mono))

theorem commitPb_evolves {s0 s} : Evolves { pb := true } s (commitPb s0 s) := by
  unfold commitPb
  exact .forEach fun _ _ => .trans (.forEach fun _ _ => cfgSend_evolves.mono) (.trans (.ite cfgSend_evolves.mono .refl) (.ite cfgSend_evolves.mono .refl))

theorem commitHooks_evolves {s0 s m} :
    Evolves { regs := true, top := true, drain := true, recd := true, tb := true, ch := true, ph := true, quad := true, pb := true, fq := true,
                img := true, nvs := true, fab := true, tvl := true, est := true, cap := true, sbm := true } s (commitHooks s0 s m) := by
  unfold commitHooks
  exact .trans (.trans (.ite .refl commitDisable_evolves.mono) (.forEach fun _ _ => commitRail_evolves.mono))
    (.trans (.forEach fun _ _ => commitPart_evolves.mono)
       (.trans (.ite commitProt_evolves.mono .refl)
          (.trans (.ite commitFq_evolves.mono .refl)
             (.trans (.ite estCmd_evolves.mono .refl)
                (.trans (.ite (.forEach fun _ _ => .trans derate_evolves.mono estFlags_evolves.mono) .refl)
                   (.trans (.ite (.forEach fun _ _ => laneStart_evolves.mono) .refl) (.ite commitPb_evolves.mono .refl)))))))

theorem commitEffect_evolves {s0 m snap mode tick} :
    Evolves { regs := true, active := true, top := true, drain := true, recd := true, tb := true, ch := true, ph := true, quad := true, pb := true,
                fq := true, img := true, nvs := true, integ := true, fab := true, tvl := true, est := true, cap := true, sbm := true } s0
                (commitEffect s0 m snap mode tick) := by
  unfold commitEffect
  exact .trans commitActive_evolves.mono
    (.trans .set_integ
       (.trans (.trans commitResult_evolves.mono commitSeq_evolves.mono)
          (.trans commitEntry_evolves.mono (.trans capture_evolves.mono commitHooks_evolves.mono))))

theorem commitRefuse_evolves {s m mode result tick} :
    Evolves { regs := true, drain := true, recd := true } s (commitRefuse s m mode result tick) := by
  unfold commitRefuse
  exact .trans commitResult_evolves.mono commitEntry_evolves.mono

theorem stagedErrors_evolves {s ce ue} : Evolves { integ := true } s (stagedErrors s ce ue) := by
  unfold stagedErrors
  exact .set_integ

theorem commitRequest_evolves {s tickMode} :
    Evolves { regs := true, active := true, top := true, drain := true, recd := true, tb := true, ch := true, ph := true, quad := true, pb := true,
                fq := true, img := true, nvs := true, integ := true, fab := true, tvl := true, est := true, cap := true, sbm := true } s
                (commitRequest s tickMode) := by
  unfold commitRequest
  extract_lets +onlyGivenNames f m s1 mode tick busy
  refine .trans (t := s1) wr64_evolves.mono ?_
  clear_value s1 tick mode busy
  refine .ite commitRefuse_evolves.mono ?_
  refine .ite commitRefuse_evolves.mono ?_
  refine .ite commitRefuse_evolves.mono ?_
  refine .ite commitRefuse_evolves.mono ?_
  extract_lets +onlyGivenNames snap ue bad
  clear_value bad snap
  split
  · exact .trans (.ite (.trans raise_evolves.mono boundaryFail_evolves.mono) .refl)
      (.trans wrN_evolves.mono (.trans setF_evolves.mono commitRefuse_evolves.mono))
  · exact .ite (.trans (.trans .set_top commitResult_evolves.mono) pendRefresh_evolves.mono) commitEffect_evolves.mono

theorem commitTick_evolves {s} :
    Evolves { regs := true, active := true, top := true, drain := true, recd := true, tb := true, ch := true, ph := true, quad := true, pb := true,
                fq := true, img := true, nvs := true, integ := true, fab := true, tvl := true, est := true, cap := true, sbm := true } s
                (commitTick s) := by
  unfold commitTick
  split
  · exact .refl
  · exact .ite .refl (.trans reach_evolves.mono (.trans .set_top (.trans (.forEach fun _ _ => commitEffect_evolves.mono) pendRefresh_evolves.mono)))

theorem activeDbe_evolves {s off} :
    Evolves { regs := true, top := true, drain := true, recd := true, ch := true, ph := true, quad := true, pb := true, fq := true, img := true,
                nvs := true, integ := true, fab := true, tvl := true, est := true, sbm := true } s (activeDbe s off) := by
  unfold activeDbe
  split
  · exact .refl
  · exact .trans (.trans .set_integ boundaryFail_evolves.mono) (.ite (.ite latchRail_evolves.mono .refl) (.ite .set_top haltActive_evolves.mono))

theorem execActiveCopySbe_answers {off s} : Answers (writes (.activeCopySbe off)) s (execActiveCopySbe off s) := by
  unfold execActiveCopySbe
  exact .next (.ite .set_integ .refl)

theorem execActiveCopyDbe_answers {off s} : Answers (writes (.activeCopyDbe off)) s (execActiveCopyDbe off s) := by
  unfold execActiveCopyDbe
  exact .next activeDbe_evolves.mono

theorem execTickCommit_answers {s} : Answers (writes (.tickCommit )) s (execTickCommit s) := by
  unfold execTickCommit
  exact .next commitTick_evolves.mono

/-! ## HirOps -/

theorem setHir_evolves {s f} : Evolves { hir := true } s (setHir s f) := by
  unfold setHir
  exact .set_hir

theorem ownerSync_evolves {s} : Evolves { regs := true } s (ownerSync s) := by
  unfold ownerSync
  exact .ite (.ite wrN_evolves.mono (.ite wr_evolves.mono .refl)) .refl

theorem ringStop_evolves {s r err} : Evolves { hir := true } s (ringStop s r err) := by
  unfold ringStop
  exact .ite .refl setRing_evolves.mono

theorem ringsStop_evolves {s err} : Evolves { regs := true, hir := true } s (ringsStop s err) := by
  unfold ringsStop
  exact .trans (.forEach fun _ _ => ringStop_evolves.mono) ownerSync_evolves.mono

theorem fnStop_evolves {s f err} : Evolves { regs := true, hir := true } s (fnStop s f err) := by
  unfold fnStop
  exact .trans (.forEach fun _ _ => ringStop_evolves.mono) (.forEach fun _ _ => wr_evolves.mono)

theorem signal_evolves {s f v} : Evolves { hir := true } s (signal s f v) := by
  unfold signal
  exact .ite (.ite .refl setHir_evolves.mono) setHir_evolves.mono

/-! ## FwLoad -/

theorem fetchAer_evolves {s src got} : Evolves { top := true } s (fetchAer s src got) := by
  unfold fetchAer
  exact .ite .set_top .refl

theorem readyEnds_evolves {s n} : Evolves { fwc := true } s (readyEnds s n) := by
  unfold readyEnds
  exact setCore_evolves

theorem coreSeen_evolves {s n} : Evolves { regs := true, pb := true, fq := true, cap := true } s (coreSeen s n) := by
  unfold coreSeen
  exact .trans (.ite fixedEnter_evolves.mono .refl) (.forEach fun _ _ => holdUpdate_evolves.mono)

theorem coreClear_evolves {s n} : Evolves { regs := true, fwc := true } s (coreClear s n) := by
  unfold coreClear
  exact .trans drainAll_evolves.mono (.trans (.forEach fun _ _ => flushLine_evolves.mono) (.trans setCore_evolves setMbx_evolves.mono))

theorem coreRestart_evolves {s n cause} :
    Evolves { regs := true, drain := true, recd := true, pb := true, fq := true, img := true, fwc := true, cap := true, freeCtr := true } s
                (coreRestart s n cause) := by
  unfold coreRestart
  refine .trans (t := (drawNat s (2 ^ 32)).2) drawNat_evolves.mono ?_
  generalize drawNat s (2 ^ 32) = p
  obtain ⟨pc, t⟩ := p
  refine .ite record_evolves.mono ?_
  extract_lets s1 s2 s3 s4 s5 i5 s6 s7
  refine .trans (t := s1) readyEnds_evolves.mono ?_
  clear_value s1
  refine .ite ?_ ?_
  · exact .trans (t := s2) coreClear_evolves.mono
      (.trans (t := s3) setCore_evolves (.trans (.trans raise_evolves.mono record_evolves.mono) coreSeen_evolves.mono))
  · exact .trans (t := s4) setCore_evolves (.trans (t := s5) (.ite loadEnd_evolves.mono .refl) (.trans (t := s6) (.ite .set_img .refl)
        (.trans (t := s7) (.trans raise_evolves.mono record_evolves.mono) (.trans coreClear_evolves.mono coreSeen_evolves.mono))))

theorem coreRelease_evolves {s n again} :
    Evolves { regs := true, drain := true, recd := true, pb := true, fq := true, fwc := true, cap := true } s (coreRelease s n again) := by
  unfold coreRelease
  split
  · exact .refl
  · exact .ite
      (.trans setCore_evolves (.trans (.trans raise_evolves.mono record_evolves.mono) (.trans boundaryFail_evolves.mono coreSeen_evolves.mono)))
      (.trans ((setCore_evolves_of_wf fun _ _ => memWf_tcmImage _ _).mono) coreSeen_evolves.mono)

theorem setLd_evolves {s f} : Evolves { fwc := true } s (setLd s f) := by
  unfold setLd
  exact .set_fwc

theorem ldResult_evolves {s r} : Evolves { regs := true } s (ldResult s r) := by
  unfold ldResult
  exact setF_evolves.mono

theorem ldEnd_evolves {s result item byte} : Evolves { regs := true, drain := true, recd := true, fwc := true } s (ldEnd s result item byte) := by
  unfold ldEnd
  exact .trans (.trans ldResult_evolves.mono wrN_evolves.mono) (.trans record_evolves.mono setLd_evolves.mono)

theorem fwGo_evolves {s live cores} : Evolves { regs := true, drain := true, recd := true, fwc := true } s (fwGo s live cores) := by
  unfold fwGo
  exact .ite (.ite (.trans (.trans ldResult_evolves.mono wrN_evolves.mono) record_evolves.mono) (.trans setLd_evolves.mono ldEnd_evolves.mono))
    (.ite (.ite (.trans (.trans ldResult_evolves.mono wrN_evolves.mono) record_evolves.mono) (.trans setLd_evolves.mono ldEnd_evolves.mono))
       (.ite (.ite (.trans (.trans ldResult_evolves.mono wrN_evolves.mono) record_evolves.mono) (.trans setLd_evolves.mono ldEnd_evolves.mono))
          (by
             extract_lets
             split
             exacts [.ite (.trans (.trans ldResult_evolves.mono wrN_evolves.mono) record_evolves.mono) (.trans setLd_evolves.mono ldEnd_evolves.mono),
               by
                 split
                 exacts [.ite (.trans (.trans ldResult_evolves.mono wrN_evolves.mono) record_evolves.mono) (.trans setLd_evolves.mono ldEnd_evolves.mono),
                   .ite
                     (.ite (.trans (.trans ldResult_evolves.mono wrN_evolves.mono) record_evolves.mono)
                        (.trans setLd_evolves.mono ldEnd_evolves.mono))
                     (.trans (.trans setLd_evolves.mono setLd_evolves.mono)
                        (.trans (.trans ldResult_evolves.mono wrN_evolves.mono) setF_evolves.mono))]])))

theorem fwVerify_evolves {s got} : Evolves { regs := true, top := true, drain := true, recd := true, fwc := true } s (fwVerify s got) := by
  unfold fwVerify
  extract_lets +onlyGivenNames ld src len
  split
  · exact .trans fetchAer_evolves.mono ldEnd_evolves.mono
  next b _ =>
  extract_lets +onlyGivenNames sig f
  refine .ite ldEnd_evolves.mono (.ite ldEnd_evolves.mono ?_)
  split
  · exact ldEnd_evolves.mono
  refine .ite ldEnd_evolves.mono (.ite ldEnd_evolves.mono (.ite ldEnd_evolves.mono ?_))
  split
  · exact ldEnd_evolves.mono
  extract_lets +onlyGivenNames s1 retain i
  refine .trans (t := s1) setLd_evolves.mono ?_
  clear_value s1
  refine .ite ldEnd_evolves.mono (.ite ldEnd_evolves.mono (.ite ldEnd_evolves.mono ?_))
  extract_lets +onlyGivenNames s2
  refine .trans (t := s2) setLd_evolves.mono ?_
  clear_value s2
  split
  · exact ldEnd_evolves.mono
  split
  · exact ldEnd_evolves.mono
  refine .ite ldEnd_evolves.mono ?_
  split
  · exact ldEnd_evolves.mono
  · exact setLd_evolves.mono

theorem takeImg_evolves {s n i} : Evolves { fwc := true } s (takeImg s n i) := by
  unfold takeImg
  exact setCore_evolves

theorem liveDone_evolves {s} : Evolves { regs := true, fwc := true } s (liveDone s) := by
  unfold liveDone
  exact .trans (.forEach fun _ _ => setCore_evolves) (.trans (.trans ldResult_evolves.mono raise_evolves.mono) setLd_evolves.mono)

theorem handRestart_evolves {s n cause} :
    Evolves { regs := true, drain := true, recd := true, pb := true, fq := true, img := true, fwc := true, cap := true, freeCtr := true } s
                (handRestart s n cause) := by
  unfold handRestart
  split
  · exact .refl
  · exact .trans (.trans takeImg_evolves.mono setLd_evolves.mono) coreRestart_evolves.mono

theorem askRestart_evolves {s n cause} :
    Evolves { regs := true, drain := true, recd := true, pb := true, fq := true, img := true, fwc := true, cap := true, freeCtr := true } s
                (askRestart s n cause) := by
  unfold askRestart
  exact .ite handRestart_evolves.mono coreRestart_evolves.mono

theorem restartAsked_evolves {s n cause} :
    Evolves { regs := true, drain := true, recd := true, pb := true, fq := true, img := true, fwc := true, cap := true, freeCtr := true } s
                (restartAsked s n cause) := by
  unfold restartAsked
  exact .ite setF_evolves.mono askRestart_evolves.mono

theorem handNext_evolves {s} :
    Evolves { regs := true, drain := true, recd := true, pb := true, fq := true, img := true, fwc := true, cap := true, freeCtr := true } s
                (handNext s) := by
  unfold handNext
  split
  · exact .ite liveDone_evolves.mono .refl
  · exact .trans (.trans setLd_evolves.mono setF_evolves.mono) (.trans dbSet_evolves.mono (.trans setCore_evolves (.ite .refl handRestart_evolves.mono)))

theorem rollback_evolves {s first} :
    Evolves { regs := true, drain := true, recd := true, pb := true, fq := true, img := true, fwc := true, cap := true, freeCtr := true } s
                (rollback s first) := by
  unfold rollback
  exact .trans (.trans setLd_evolves.mono setF_evolves.mono)
    (.trans (.forEach fun _ _ => .trans setCore_evolves (.ite .refl coreRestart_evolves.mono))
       (.trans (.forEach fun _ _ => setCore_evolves) (.ite ldEnd_evolves.mono .refl)))

theorem backDone_evolves {s} : Evolves { regs := true, drain := true, recd := true, fwc := true } s (backDone s) := by
  unfold backDone
  exact .ite ldEnd_evolves.mono .refl

theorem timedRestart_evolves {s n cause} :
    Evolves { regs := true, drain := true, recd := true, pb := true, fq := true, img := true, fwc := true, cap := true, freeCtr := true } s
                (timedRestart s n cause) := by
  unfold timedRestart
  exact .ite (.ite handRestart_evolves.mono rollback_evolves.mono) coreRestart_evolves.mono

theorem fwWrite_evolves {s got} :
    Evolves { regs := true, top := true, drain := true, recd := true, pb := true, fq := true, img := true, fwc := true, cap := true,
                freeCtr := true } s (fwWrite s got) := by
  unfold fwWrite
  extract_lets
  split
  · extract_lets
    split
    · exact .trans ldEnd_evolves.mono boundaryFail_evolves.mono
    · exact .trans
        (.forEach
           fun _ _ =>
             .ite .refl
               (by
                  split
                  exacts [memWrite_evolves.mono,
                    .refl]))
        (.trans memWrite_evolves.mono
           (.ite handNext_evolves.mono
              (.trans (.forEach fun _ _ => .trans setCore_evolves coreSeen_evolves.mono) (.trans ldResult_evolves.mono setLd_evolves.mono))))
  · exact .trans fetchAer_evolves.mono ldEnd_evolves.mono

theorem fwAbort_evolves {s} :
    Evolves { regs := true, drain := true, recd := true, pb := true, fq := true, img := true, fwc := true, cap := true, freeCtr := true } s
                (fwAbort s) := by
  unfold fwAbort
  split
  · exact .refl
  · exact rollback_evolves.mono
  · exact .refl
  · exact ldEnd_evolves.mono

theorem coresReset_evolves {s} : Evolves { regs := true, drain := true, recd := true, pb := true, fwc := true, cap := true } s (coresReset s) := by
  unfold coresReset
  extract_lets s1 s2 s3 f3 s4
  refine .trans (t := s1) (.ite ldEnd_evolves.mono .refl) ?_
  refine .trans (t := s2) (.forEach fun _ _ => drainAll_evolves.mono) ?_
  refine .trans (t := s3) (.forEach fun _ _ => flushLine_evolves.mono) ?_
  clear_value s3
  exact .trans (t := s4) (.putMems fun hm _ => ⟨hm, fun _ _ => memWf_nil⟩) (.forEach fun _ _ => holdUpdate_evolves.mono)

theorem setReady_evolves {s n v} :
    Evolves { regs := true, drain := true, recd := true, pb := true, fq := true, img := true, fwc := true, cap := true, freeCtr := true } s
                (setReady s n v) := by
  unfold setReady
  exact .ite .refl
    (.ite (.trans setCore_evolves (.trans ownerSync_evolves.mono (.ite handNext_evolves.mono .refl)))
       (.trans readyEnds_evolves.mono (.ite handRestart_evolves.mono setCore_evolves)))

/-! ## ImageOps -/

theorem holdBoth_evolves {s off v} : Evolves { regs := true, active := true } s (holdBoth s off v) := by
  unfold holdBoth
  exact .trans wr_evolves.mono wrAc_evolves.mono

theorem holdReset_evolves {s} : Evolves { regs := true, active := true, integ := true } s (holdReset s) := by
  unfold holdReset
  exact .trans (.putWords fun hr _ => ⟨wordsCanon_filter _ hr, wordsCanon_nil⟩) (.forEach fun _ _ => holdBoth_evolves.mono)

theorem retain_evolves {s off v} : Evolves { img := true } s (retain s off v) := by
  unfold retain
  exact .set_img

theorem chanApply_evolves {s} : Evolves { regs := true, ch := true, ph := true } s (chanApply s) := by
  unfold chanApply
  exact .trans .set_ch
    (.trans (.forEach fun _ _ => setCh_evolves.mono)
       (.trans (.forEach fun _ _ => setPh_evolves.mono) (.forEach fun _ _ => .trans wr_evolves.mono wr_evolves.mono)))

theorem lanesApply_evolves {s} :
    Evolves { regs := true, drain := true, recd := true, tb := true, ch := true, ph := true, tvl := true } s (lanesApply s) := by
  unfold lanesApply
  exact .trans lanesOff_evolves.mono (.forEach fun _ _ => laneStart_evolves.mono)

theorem shadowWrite_evolves {s l} : Evolves { img := true } s (shadowWrite s l) := by
  unfold shadowWrite
  exact .ite .set_img .set_img

theorem imageSwap_evolves {s b} : Evolves { regs := true, img := true } s (imageSwap s b) := by
  unfold imageSwap
  exact .trans .set_img
    (.trans wrN_evolves.mono (.trans (.forEach fun _ _ => wrN_evolves.mono) (.trans setF_evolves.mono (.trans setF_evolves.mono setF_evolves.mono))))

theorem blocksApply_evolves {s role} {W : Blocks}
    (hW : Blocks.le { regs := true, top := true, drain := true, bt := true, recd := true, tb := true, ch := true, ph := true, quad := true,
                      pb := true, fq := true, img := true, nvs := true, fab := true, tvl := true, dom := true, est := true, cap := true,
                      sbm := true } W = true)
    (h1 : ∀ t, Evolves W t (role t)) :
    Evolves W s (blocksApply s role) := by
  unfold blocksApply
  exact .trans (btApply_evolves.via hW)
    (.trans ((h1 ..))
       (.trans (fqApply_evolves.via hW)
          (.trans (chanApply_evolves.via hW)
             (.trans (capApply_evolves.via hW)
                (.trans (estApply_evolves.via hW)
                   (.trans (fabStart_evolves.via hW)
                      (.trans (lanesApply_evolves.via hW) (.trans (.forEach fun _ _ => cfgAll_evolves.via hW) (limitsNow_evolves.via hW)))))))))

theorem applyFull_evolves {s b} :
    Evolves (.allBut { clk := true, hir := true, sec := true, jtag := true, pending := true, resp := true, freeCtr := true }) s (applyFull s
                        b) := by
  unfold applyFull
  exact .trans imageSwap_evolves.mono
    (.trans (.trans .set_top_img holdReset_evolves.mono)
       (.trans (.forEach fun _ _ => .trans holdBoth_evolves.mono retain_evolves.mono)
          (.trans enterState_evolves.mono
             (.trans (.trans commitSeq_evolves.mono commitEntry_evolves.mono)
                (.trans coresReset_evolves.mono
                   (.trans (.ite wr_evolves.mono .refl)
                      (.trans (.trans (blocksApply_evolves (hW := by rfl) (fun _ => domRole_evolves.mono)) lifeUp_evolves.mono) .set_sbm)))))))

theorem queuesApply_evolves {s0 s} : Evolves { regs := true, drain := true, pb := true, fq := true } s (queuesApply s0 s) := by
  unfold queuesApply
  exact .trans (.forEach fun _ _ => .trans (.forEach fun _ _ => frankCancel_evolves.mono) setQueue_evolves.mono) .set_fq

theorem regionApply_evolves {s0 s r} :
    Evolves { regs := true, drain := true, recd := true, tb := true, ch := true, ph := true, pb := true, fq := true, fab := true, tvl := true,
                dom := true, est := true, cap := true } s (regionApply s0 s r) := by
  unfold regionApply
  split
  · exact chanApply_evolves.mono
  · exact fabStart_evolves.mono
  · exact capApply_evolves.mono
  · exact queuesApply_evolves.mono
  · exact .ite domRole_evolves.mono .refl
  · exact .trans (.ite domRole_evolves.mono .refl) lanesApply_evolves.mono
  · exact .forEach fun _ _ => regionRestart_evolves.mono
  · exact .refl

theorem applyPartial_evolves {s0 b tick} :
    Evolves { regs := true, active := true, top := true, drain := true, recd := true, tb := true, ch := true, ph := true, quad := true, pb := true,
                fq := true, img := true, nvs := true, integ := true, fab := true, tvl := true, dom := true, est := true, cap := true, sbm := true }
                s0 (applyPartial s0 b tick) := by
  unfold applyPartial
  exact .trans imageSwap_evolves.mono
    (.trans .set_integ
       (.trans (.forEach fun _ _ => .trans holdBoth_evolves.mono retain_evolves.mono)
          (.trans (.trans (.trans commitSeq_evolves.mono commitEntry_evolves.mono) pendRefresh_evolves.mono)
             (.trans (.forEach fun _ _ => regionApply_evolves.mono) (.trans (.forEach fun _ _ => cfgAll_evolves.mono) commitHooks_evolves.mono)))))

/-! ## Postbox -/

theorem upSend_evolves {s d lane typ addr data} : Evolves { pb := true } s (upSend s d lane typ addr data) := by
  unfold upSend
  exact .ite (.trans (.ite setPort_evolves.mono .refl) .set_pb) .refl

theorem statusSend_evolves {s d addr code detail} : Evolves { pb := true } s (statusSend s d addr code detail) := by
  unfold statusSend
  exact upSend_evolves.mono

theorem siteSend_evolves {s d lane typ n data} : Evolves { pb := true } s (siteSend s d lane typ n data) := by
  unfold siteSend
  exact .ite .refl upSend_evolves.mono

theorem nakSend_evolves {s d} : Evolves { pb := true } s (nakSend s d) := by
  unfold nakSend
  exact .trans setDie_evolves.mono plSend_evolves.mono

theorem lane0_evolves {s d seq typ addr k} {W : Blocks}
    (hW : Blocks.le { regs := true, pb := true } W = true)
    (h5 : ∀ t, Evolves W t (k t)) :
    Evolves W s (lane0 s d seq typ addr k) := by
  unfold lane0
  exact .trans (wireDrop_evolves.via hW)
    (.ite (.ite (.trans (setDie_evolves.via hW) (h5 ..)) (.ite .refl (.trans (raise_evolves.via hW) (nakSend_evolves.via hW)))) .refl)

theorem lane1_evolves {s d typ addr k} {W : Blocks}
    (hW : Blocks.le { pb := true } W = true)
    (h4 : ∀ t, Evolves W t (k t)) :
    Evolves W s (lane1 s d typ addr k) := by
  unfold lane1
  exact .trans (wireTake_evolves.via hW) (.ite ((h4 ..)) .refl)

theorem execSiteCalSweep_answers {die site agrees s} : Answers (writes (.siteCalSweep die site agrees)) s (execSiteCalSweep die site agrees s) := by
  unfold execSiteCalSweep
  exact .ite (.trans setSite_evolves.mono (.next (.ite siteSend_evolves.mono .refl))) (.next .refl)

theorem stretchCount_evolves {s d n} : Evolves { pb := true } s (stretchCount s d n) := by
  unfold stretchCount
  exact setSite_evolves.mono

theorem execSiteDroopCrossing_answers {die site v s} : Answers (writes (.siteDroopCrossing die site v)) s (execSiteDroopCrossing die site v s) := by
  unfold execSiteDroopCrossing
  exact .ite (.trans (.ite setSite_evolves.mono .refl) (.trans stretchCount_evolves.mono (.trans setPort_evolves.mono (.next setSite_evolves.mono))))
    (.next .refl)

theorem execSiteDrpRelease_answers {die site v s} : Answers (writes (.siteDrpRelease die site v)) s (execSiteDrpRelease die site v s) := by
  unfold execSiteDrpRelease
  exact .ite (.trans stretchCount_evolves.mono (.next setSite_evolves.mono)) (.next .refl)

theorem execSiteStretchEnd_answers {die site s} : Answers (writes (.siteStretchEnd die site)) s (execSiteStretchEnd die site s) := by
  unfold execSiteStretchEnd
  exact .ite
    (.trans (.trans reach_evolves.mono stretchCount_evolves.mono)
       (.trans setSite_evolves.mono
          (by
             extract_lets
             split
             exacts [.next siteSend_evolves.mono,
               .next .refl]))) (.next .refl)

theorem execSiteTrip_answers {die site t s} : Answers (writes (.siteTrip die site t)) s (execSiteTrip die site t s) := by
  unfold execSiteTrip
  exact .ite (.next (.trans setSite_evolves.mono setDie_evolves.mono)) (.next .refl)

theorem execSiteTripRelease_answers {die site t s} : Answers (writes (.siteTripRelease die site t)) s (execSiteTripRelease die site t s) := by
  unfold execSiteTripRelease
  exact .ite (.trans setSite_evolves.mono (.next setDie_evolves.mono)) (.next .refl)

theorem execSiteCoreDomainChange_answers {die site on s} :
    Answers (writes (.siteCoreDomainChange die site on)) s (execSiteCoreDomainChange die site on s) := by
  unfold execSiteCoreDomainChange
  exact .trans (.trans stretchCount_evolves.mono setSite_evolves.mono) (.next siteSend_evolves.mono)

theorem droopSpacing_evolves {s r} : Evolves { fq := true } s (droopSpacing s r) := by
  unfold droopSpacing
  exact .ite .set_fq .refl

theorem boostStart_evolves {s r} : Evolves { regs := true, ch := true, ph := true, pb := true, tvl := true } s (boostStart s r) := by
  unfold boostStart
  exact .trans (.trans endRemoval_evolves.mono allActive_evolves.mono)
    (.trans (.forEach fun _ _ => setPh_evolves.mono)
       (.trans (.trans setCh_evolves.mono setBoost_evolves.mono) (.trans bump_evolves.mono (.ite boostBlocks_evolves.mono .refl))))

theorem flagRise_evolves {s r d} :
    Evolves { regs := true, drain := true, recd := true, ch := true, ph := true, pb := true, fq := true, tvl := true, cap := true } s (flagRise s r
                d) := by
  unfold flagRise
  exact .trans record_evolves.mono
    (.trans (.ite setBoost_evolves.mono (.trans setBoost_evolves.mono bump_evolves.mono))
       (.trans (.trans droopSpacing_evolves.mono dripExit_evolves.mono)
          (.trans (.ite boostStart_evolves.mono .refl) (.trans (.ite originate_evolves.mono .refl) holdRail_evolves.mono))))

theorem execDroopFlagRise_answers {die s} : Answers (writes (.droopFlagRise die)) s (execDroopFlagRise die s) := by
  unfold execDroopFlagRise
  exact .ite (.next .refl)
    (.trans setDie_evolves.mono (.trans raise_evolves.mono (.trans bump_evolves.mono (.ite (.next flagRise_evolves.mono) (.next .refl)))))

theorem execBoostEnd_answers {rail early s} : Answers (writes (.boostEnd rail early)) s (execBoostEnd rail early s) := by
  unfold execBoostEnd
  extract_lets
  split
  · exact .next .refl
  · exact .ite (.trans (.ite bump_evolves.mono reach_evolves.mono) (.next boostStop_evolves.mono)) (.next .refl)

theorem execBoostGapEnd_answers {rail s} : Answers (writes (.boostGapEnd rail)) s (execBoostGapEnd rail s) := by
  unfold execBoostGapEnd
  split
  · exact .next .refl
  · exact .next (.trans reach_evolves.mono setBoost_evolves.mono)

theorem execFreezeEnd_answers {rail s} : Answers (writes (.freezeEnd rail)) s (execFreezeEnd rail s) := by
  unfold execFreezeEnd
  exact .trans
    (by
       split
       exacts [.ite
           (.trans reach_evolves.mono
              (.trans holdRail_evolves.mono (.trans record_evolves.mono (.trans setBoost_evolves.mono (.forEach fun _ _ => setPart_evolves.mono)))))
           (.refl),
         .refl]) (.next holdRail_evolves.mono)

theorem execDroopFlagFall_answers {die s} : Answers (writes (.droopFlagFall die)) s (execDroopFlagFall die s) := by
  unfold execDroopFlagFall
  exact .ite (.next .refl) (.trans (.ite reach_evolves.mono .refl) (.trans setDie_evolves.mono (.ite (.next setBoost_evolves.mono) (.next .refl))))

theorem execDroopStuck_answers {die s} : Answers (writes (.droopStuck die)) s (execDroopStuck die s) := by
  unfold execDroopStuck
  exact .ite
    (.trans setDie_evolves.mono
       (.trans raise_evolves.mono
          (.trans record_evolves.mono (.ite (.trans boostStop_evolves.mono (.next (.ite setBoost_evolves.mono .refl))) (.next .refl)))))
    (.next .refl)

theorem pbMinArm_evolves {s val} : Evolves { regs := true } s (pbMinArm s val) := by
  unfold pbMinArm
  exact .trans (.forEach fun _ _ => .trans wr_evolves.mono wr64_evolves.mono)
    (.forEach fun _ _ => .forEach fun _ _ => .trans wr_evolves.mono wr64_evolves.mono)

theorem tsyncSend_evolves {s d} : Evolves { pb := true } s (tsyncSend s d) := by
  unfold tsyncSend
  exact plSend_evolves.mono

theorem maybeResume_evolves {s d} : Evolves { pb := true } s (maybeResume s d) := by
  unfold maybeResume
  exact .ite (.trans plSend_evolves.mono setDie_evolves.mono) .refl

theorem execPostlineTrainingDone_answers {die lDown lUp s} :
    Answers (writes (.postlineTrainingDone die lDown lUp)) s (execPostlineTrainingDone die lDown lUp s) := by
  unfold execPostlineTrainingDone
  exact .ite (.next .refl)
    (.trans (.trans pmRefresh_evolves.mono setDie_evolves.mono)
       (.trans .set_pb
          (.trans setPort_evolves.mono
             (.trans (.forEach fun _ _ => setQueue_evolves.mono)
                (.trans (.forEach fun _ _ => setSite_evolves.mono)
                   (.trans raise_evolves.mono
                      (.trans wrN_evolves.mono
                         (.trans (.trans tsyncSend_evolves.mono cfgAll_evolves.mono)
                            (.trans (.ite armDie_evolves.mono .refl) (.next maybeResume_evolves.mono))))))))))

theorem dieFallback_evolves {s d} : Evolves { regs := true, drain := true, recd := true, pb := true, fq := true } s (dieFallback s d) := by
  unfold dieFallback
  exact .trans setDie_evolves.mono
    (.trans raise_evolves.mono
       (.trans raise_evolves.mono
          (.trans record_evolves.mono
             (.trans (.forEach fun _ _ => .trans setPart_evolves.mono setBal_evolves.mono) (.trans .set_fq fqFallback_evolves.mono)))))

theorem laneFailure_evolves {s d} : Evolves { regs := true, drain := true, recd := true, pb := true, fq := true } s (laneFailure s d) := by
  unfold laneFailure
  exact .ite (.trans plSend_evolves.mono dieFallback_evolves.mono) .refl

theorem execUpLaneFailure_answers {die lock s} : Answers (writes (.upLaneFailure die lock)) s (execUpLaneFailure die lock s) := by
  unfold execUpLaneFailure
  exact .next (.trans (.ite clkFault_evolves.mono .refl) laneFailure_evolves.mono)

theorem execFallbackRetrain_answers {die s} : Answers (writes (.fallbackRetrain die)) s (execFallbackRetrain die s) := by
  unfold execFallbackRetrain
  exact .ite (.next (.trans setDie_evolves.mono bump_evolves.mono)) (.next .refl)

theorem execTsyncSend_answers {s} : Answers (writes (.tsyncSend )) s (execTsyncSend s) := by
  unfold execTsyncSend
  exact .next (.forEach fun _ _ => tsyncSend_evolves.mono)

theorem execTsync_answers {die t s} : Answers (writes (.tsync die t)) s (execTsync die t s) := by
  unfold execTsync
  exact .trans wireTake_evolves.mono (.next setPort_evolves.mono)

theorem portFallback_evolves {s d} : Evolves { pb := true } s (portFallback s d) := by
  unfold portFallback
  exact setPort_evolves.mono

theorem execDownLaneFailure_answers {die lane s} : Answers (writes (.downLaneFailure die lane)) s (execDownLaneFailure die lane s) := by
  unfold execDownLaneFailure
  exact .trans
    (by
       split
       exacts [upSend_evolves.mono,
         .refl]) (.next (.trans portFallback_evolves.mono setPort_evolves.mono))

theorem execDownLoss_answers {die s} : Answers (writes (.downLoss die)) s (execDownLoss die s) := by
  unfold execDownLoss
  exact .trans wireDrop_evolves.mono (.ite (.next dieFallback_evolves.mono) (.next .refl))

theorem execFallback_answers {die s} : Answers (writes (.fallback die)) s (execFallback die s) := by
  unfold execFallback
  exact .next (.trans wireTake_evolves.mono portFallback_evolves.mono)

theorem execResume_answers {die s} : Answers (writes (.resume die)) s (execResume die s) := by
  unfold execResume
  exact .next (.trans wireTake_evolves.mono setPort_evolves.mono)

theorem fackTake_evolves {s p n} : Evolves { regs := true, pb := true, fq := true, cap := true } s (fackTake s p n) := by
  unfold fackTake
  exact .trans setPart_evolves.mono (.trans .set_fq holdUpdate_evolves.mono)

theorem execFack_answers {die seq part n x4 s} : Answers (writes (.fack die seq part n x4)) s (execFack die seq part n x4 s) := by
  unfold execFack
  exact .next (lane0_evolves (hW := by rfl) (fun _ => .ite fackTake_evolves.mono .refl))

theorem execVmin_answers {die seq site v stamp s} : Answers (writes (.vmin die seq site v stamp)) s (execVmin die seq site v stamp s) := by
  unfold execVmin
  exact .next (lane0_evolves (hW := by rfl) (fun _ => .ite (.trans wrN_evolves.mono wr64_evolves.mono) .refl))

theorem execCfgAck_answers {die seq index addr s} : Answers (writes (.cfgAck die seq index addr)) s (execCfgAck die seq index addr s) := by
  unfold execCfgAck
  exact .next (lane0_evolves (hW := by rfl) (fun _ => .trans setDie_evolves.mono maybeResume_evolves.mono))

theorem execCoreOff_answers {die seq site s} : Answers (writes (.coreOff die seq site)) s (execCoreOff die seq site s) := by
  unfold execCoreOff
  exact .next (lane0_evolves (hW := by rfl) (fun _ => .trans setSite_evolves.mono setDie_evolves.mono))

theorem execCoreOn_answers {die seq site s} : Answers (writes (.coreOn die seq site)) s (execCoreOn die seq site s) := by
  unfold execCoreOn
  exact .next (lane0_evolves (hW := by rfl) (fun _ => .trans setSite_evolves.mono setDie_evolves.mono))

theorem execCalOk_answers {die seq site s} : Answers (writes (.calOk die seq site)) s (execCalOk die seq site s) := by
  unfold execCalOk
  exact .next (lane0_evolves (hW := by rfl) (fun _ => setSite_evolves.mono))

theorem siteEntry_evolves {s d n code} : Evolves { regs := true, drain := true, recd := true } s (siteEntry s d n code) := by
  unfold siteEntry
  exact record_evolves.mono

theorem execCalFail_answers {die seq site s} : Answers (writes (.calFail die seq site)) s (execCalFail die seq site s) := by
  unfold execCalFail
  exact .next (lane0_evolves (hW := by rfl) (fun _ => .trans setSite_evolves.mono (.trans raise_evolves.mono siteEntry_evolves.mono)))

theorem execSiteFault_answers {die seq site s} : Answers (writes (.siteFault die seq site)) s (execSiteFault die seq site s) := by
  unfold execSiteFault
  exact .next (lane0_evolves (hW := by rfl) (fun _ => .trans raise_evolves.mono siteEntry_evolves.mono))

theorem execTemp_answers {die site t x3 s} : Answers (writes (.temp die site t x3)) s (execTemp die site t x3 s) := by
  unfold execTemp
  exact .next
    (lane1_evolves (hW := by rfl)
       (fun _ =>
          .trans setF_evolves.mono
            (.trans setSrc_evolves.mono
               (.trans meanAdd_evolves.mono
                  (.trans (.ite setDie_evolves.mono .refl)
                     (.trans (.ite (.trans setCap_evolves.mono (.trans setCap_evolves.mono (.ite setCap_evolves.mono .refl))) .refl)
                        (.ite thermalTrip_evolves.mono .refl)))))))

theorem execCpm_answers {die site m x3 s} : Answers (writes (.cpm die site m x3)) s (execCpm die site m x3 s) := by
  unfold execCpm
  exact .next (lane1_evolves (hW := by rfl) (fun _ => .trans setF_evolves.mono setSrc_evolves.mono))

theorem execStretch_answers {die site extra events s} :
    Answers (writes (.stretch die site extra events)) s (execStretch die site extra events s) := by
  unfold execStretch
  exact .next (lane1_evolves (hW := by rfl) (fun _ => .ite (.trans reasonCount_evolves.mono (.trans reasonTime_evolves.mono lostStr_evolves.mono)) .refl))

theorem execBale_answers {die site e s} : Answers (writes (.bale die site e)) s (execBale die site e s) := by
  unfold execBale
  extract_lets d n
  refine .next (lane1_evolves (hW := by rfl) fun t => ?_)
  extract_lets p old s1
  refine .trans (t := s1) setSite_evolves.mono ?_
  clear_value old
  split
  · exact .ite (.trans wr64_evolves.mono wr64_evolves.mono) .refl
  · exact .refl

theorem execFreq_answers {die part n s} : Answers (writes (.freq die part n)) s (execFreq die part n s) := by
  unfold execFreq
  exact .trans wireTake_evolves.mono (.trans setPort_evolves.mono (.next upSend_evolves.mono))

theorem execBal_answers {die part level s} : Answers (writes (.bal die part level)) s (execBal die part level s) := by
  unfold execBal
  exact .trans wireTake_evolves.mono (.next setPort_evolves.mono)

theorem execCfg_answers {die index addr value s} : Answers (writes (.cfg die index addr value)) s (execCfg die index addr value s) := by
  unfold execCfg
  exact .trans wireDrop_evolves.mono (.trans setPort_evolves.mono (.next statusSend_evolves.mono))

theorem execArm_answers {die s} : Answers (writes (.arm die)) s (execArm die s) := by
  unfold execArm
  exact .next (.trans wireTake_evolves.mono setPort_evolves.mono)

theorem execDisarm_answers {die s} : Answers (writes (.disarm die)) s (execDisarm die s) := by
  unfold execDisarm
  exact .next (.trans wireTake_evolves.mono setPort_evolves.mono)

theorem execNak_answers {die seq s} : Answers (writes (.nak die seq)) s (execNak die seq s) := by
  unfold execNak
  exact .trans wireTake_evolves.mono (.ite (.next .set_pb) (.next .refl))

theorem execReportInterval_answers {die site kind data s} :
    Answers (writes (.reportInterval die site kind data)) s (execReportInterval die site kind data s) := by
  unfold execReportInterval
  exact .ite (.ite (.trans stretchCount_evolves.mono (.trans setSite_evolves.mono (.next upSend_evolves.mono))) (.next upSend_evolves.mono)) (.next .refl)

theorem execIntDataWord_answers {die queue typ data s} :
    Answers (writes (.intDataWord die queue typ data)) s (execIntDataWord die queue typ data s) := by
  unfold execIntDataWord
  exact .ite (.ite (.next setPort_evolves.mono) (.ite (.next .refl) (.next (.trans setPort_evolves.mono upSend_evolves.mono))))
    (.ite (.next upSend_evolves.mono) (.next .refl))

theorem frankNoFack_evolves {s p} : Evolves { fq := true } s (frankNoFack s p) := by
  unfold frankNoFack
  exact .set_fq

theorem execFreqResend_answers {part s} : Answers (writes (.freqResend part)) s (execFreqResend part s) := by
  unfold execFreqResend
  extract_lets
  split
  · exact .next .refl
  · exact .trans reach_evolves.mono
      (.ite (.next (.trans (.trans setPart_evolves.mono holdUpdate_evolves.mono) frankNoFack_evolves.mono))
         (.ite (.trans setPart_evolves.mono (.next (.trans plSend_evolves.mono bump_evolves.mono)))
            (.trans setPart_evolves.mono (.next (.trans raise_evolves.mono frankNoFack_evolves.mono)))))

theorem execCfgResend_answers {die index addr s} : Answers (writes (.cfgResend die index addr)) s (execCfgResend die index addr s) := by
  unfold execCfgResend
  extract_lets
  split
  · exact .next .refl
  · exact .trans (.trans plSend_evolves.mono bump_evolves.mono) (.next (.ite (.trans bump_evolves.mono raise_evolves.mono) .refl))

theorem postlineBad_evolves {s d lane gap} :
    Evolves { regs := true, drain := true, recd := true, pb := true, fq := true } s (postlineBad s d lane gap) := by
  unfold postlineBad
  exact .ite
    (.trans wireDrop_evolves.mono
       (.ite (.ite (.trans raise_evolves.mono nakSend_evolves.mono) .refl)
          (.trans (.trans raise_evolves.mono bump_evolves.mono)
             (.trans setDie_evolves.mono
                (.trans (.ite nakSend_evolves.mono .refl) (.trans boundaryFail_evolves.mono (.ite laneFailure_evolves.mono .refl))))))) .refl

theorem execPostlineCrcError_answers {die lane gap s} :
    Answers (writes (.postlineCrcError die lane gap)) s (execPostlineCrcError die lane gap s) := by
  unfold execPostlineCrcError
  exact .next postlineBad_evolves.mono

/-! ## Image -/

theorem imageRefused_evolves {s result} : Evolves { regs := true, drain := true, recd := true } s (imageRefused s result) := by
  unfold imageRefused
  exact .trans (.trans setF_evolves.mono wrN_evolves.mono) record_evolves.mono

theorem imageBegun_evolves {s full} : Evolves { regs := true, top := true, drain := true, recd := true, img := true } s (imageBegun s full) := by
  unfold imageBegun
  exact .trans (.ite cancelAllCommits_evolves.mono .refl) .set_img

theorem imageBegin_evolves {s told} : Evolves { regs := true, top := true, drain := true, recd := true, img := true } s (imageBegin s told) := by
  unfold imageBegin
  exact .ite loadEnd_evolves.mono
    (.ite loadEnd_evolves.mono
       (.ite loadEnd_evolves.mono
          (.trans imageBegun_evolves.mono
             (.ite loadEnd_evolves.mono (.ite loadEnd_evolves.mono (.trans (.trans setF_evolves.mono wrN_evolves.mono) .set_img))))))

theorem imageGo_evolves {s who told} : Evolves { regs := true, top := true, drain := true, recd := true, img := true } s (imageGo s who told) := by
  unfold imageGo
  exact .ite (.ite imageRefused_evolves.mono (.ite imageRefused_evolves.mono imageRefused_evolves.mono))
    (.ite (.trans .set_img setF_evolves.mono) imageBegin_evolves.mono)

theorem imageAbort_evolves {s} : Evolves { regs := true, drain := true, recd := true, img := true } s (imageAbort s) := by
  unfold imageAbort
  exact .trans loadAbort_evolves.mono pendRefresh_evolves.mono

theorem execHeldLoadBegin_answers {full s} : Answers (writes (.heldLoadBegin full)) s (execHeldLoadBegin full s) := by
  unfold execHeldLoadBegin
  exact .ite (.next imageBegin_evolves.mono) (.next .refl)

theorem execImageFetchDone_answers {got s} : Answers (writes (.imageFetchDone got)) s (execImageFetchDone got s) := by
  fun_cases execImageFetchDone with
  | case1 => exact .next (.trans fetchAer_evolves.mono loadEnd_evolves.mono)
  | case2 _ _ b _ full s1 s2 =>
    refine .trans (t := s2) (.trans (t := s1) (.ite cancelAllCommits_evolves.mono .refl) (.trans .set_img setF_evolves.mono)) ?_
    exact .next loadEnd_evolves.mono
  | case3 _ _ b _ full s1 s2 =>
    refine .trans (t := s2) (.trans (t := s1) (.ite cancelAllCommits_evolves.mono .refl) (.trans .set_img setF_evolves.mono)) ?_
    exact .next .set_img
  | case4 => exact .next .refl

theorem imageVerify_evolves {s shadowBad} :
    Evolves (.allBut { clk := true, hir := true, sec := true, jtag := true, pending := true, resp := true, freeCtr := true }) s (imageVerify s
                        shadowBad) := by
  unfold imageVerify
  exact .ite loadEnd_evolves.mono
    (.ite loadEnd_evolves.mono
       (.ite loadEnd_evolves.mono
          (by
             extract_lets
             split
             exacts [.trans .set_img loadEnd_evolves.mono,
               by
                 split
                 exacts [.trans .set_img loadEnd_evolves.mono,
                   by
                     split
                     exacts [.trans .set_img loadEnd_evolves.mono,
                       .ite (.trans .set_img loadEnd_evolves.mono)
                         (.trans shadowWrite_evolves.mono
                            (.ite applyFull_evolves.mono
                               (.ite applyPartial_evolves.mono (.trans .set_img (.trans setF_evolves.mono pendRefresh_evolves.mono)))))]]])))

theorem execImageVerifyDone_answers {shadowBad s} : Answers (writes (.imageVerifyDone shadowBad)) s (execImageVerifyDone shadowBad s) := by
  unfold execImageVerifyDone
  exact .ite (.next imageVerify_evolves.mono) (.next .refl)

theorem partialTick_evolves {s} :
    Evolves { regs := true, active := true, top := true, drain := true, recd := true, tb := true, ch := true, ph := true, quad := true, pb := true,
                fq := true, img := true, nvs := true, integ := true, fab := true, tvl := true, dom := true, est := true, cap := true, sbm := true }
                s (partialTick s) := by
  unfold partialTick
  exact .ite (.trans reach_evolves.mono applyPartial_evolves.mono) .refl

theorem execPartialImageTick_answers {s} : Answers (writes (.partialImageTick )) s (execPartialImageTick s) := by
  unfold execPartialImageTick
  exact .next partialTick_evolves.mono

theorem execRefillDone_answers {s} : Answers (writes (.refillDone )) s (execRefillDone s) := by
  unfold execRefillDone
  exact .ite (.next (.trans .set_img shadowRefill_evolves.mono)) (.next .refl)

theorem slotFix_evolves {s id active} : Evolves { img := true } s (slotFix s id active) := by
  unfold slotFix
  exact .ite .set_img .set_img

theorem faultFrame_evolves {s id active} : Evolves { regs := true } s (faultFrame s id active) := by
  unfold faultFrame
  exact wrN_evolves.mono

theorem uncorrectable_evolves {s id} :
    Evolves { regs := true, top := true, drain := true, recd := true, ch := true, ph := true, pb := true, fq := true, img := true, nvs := true,
                tvl := true, est := true } s (uncorrectable s id) := by
  unfold uncorrectable
  exact .trans (.trans raise_evolves.mono faultFrame_evolves.mono) (.trans record_evolves.mono (.trans .set_img haltActive_evolves.mono))

theorem liveFault_evolves {s id} :
    Evolves { regs := true, top := true, drain := true, recd := true, tb := true, ch := true, ph := true, quad := true, pb := true, fq := true,
                img := true, nvs := true, fab := true, tvl := true, est := true, sbm := true } s (liveFault s id) := by
  unfold liveFault
  extract_lets
  split
  · exact .forEach fun _ _ => latchRail_evolves.mono
  · exact .set_top
  · exact .ite .refl (.trans (.trans .set_fq fixedEnter_evolves.mono) .set_img)
  · exact .set_img
  · exact .ite (.forEach fun _ _ => laneWait_evolves.mono) .refl
  · exact .forEach fun _ _ => regionRestart_evolves.mono
  · exact haltActive_evolves.mono
  · exact haltActive_evolves.mono
  · exact .ite (.trans (.ite .refl (.trans (.ite plSend_evolves.mono .refl) dieFallback_evolves.mono)) (.trans setDie_evolves.mono .set_img)) .refl

theorem slotClean_evolves {s id} : Evolves { pb := true, fq := true, img := true } s (slotClean s id) := by
  unfold slotClean
  exact .trans .set_img (.trans (.ite .set_fq .refl) (.ite setDie_evolves.mono .refl))

theorem scrubSlot_evolves {s id up us} :
    Evolves { regs := true, top := true, drain := true, recd := true, tb := true, ch := true, ph := true, quad := true, pb := true, fq := true,
                img := true, nvs := true, fab := true, tvl := true, est := true, sbm := true } s (scrubSlot s id up us) := by
  unfold scrubSlot
  exact .ite uncorrectable_evolves.mono
    (.ite (.ite slotClean_evolves.mono .refl)
       (by
          extract_lets
          split
          exacts [.ite (.trans slotFix_evolves.mono bump_evolves.mono)
              (.ite
                 (.trans (.trans (.trans slotFix_evolves.mono raise_evolves.mono) bump_evolves.mono)
                    (.trans (.trans faultFrame_evolves.mono record_evolves.mono) liveFault_evolves.mono)) uncorrectable_evolves.mono),
            .trans (.ite slotFix_evolves.mono .refl)
              (.ite (.trans (.trans raise_evolves.mono bump_evolves.mono) record_evolves.mono)
                 (.trans (.trans raise_evolves.mono bump_evolves.mono) (.trans faultFrame_evolves.mono record_evolves.mono))),
            .trans (.ite slotFix_evolves.mono .refl)
              (.ite (.trans (.trans raise_evolves.mono bump_evolves.mono) record_evolves.mono)
                 (.trans (.trans raise_evolves.mono bump_evolves.mono)
                    (.trans (.trans faultFrame_evolves.mono record_evolves.mono) liveFault_evolves.mono))),
            uncorrectable_evolves.mono]))

theorem execScrubSlot_answers {activeUpsets shadowUpsets s} :
    Answers (writes (.scrubSlot activeUpsets shadowUpsets)) s (execScrubSlot activeUpsets shadowUpsets s) := by
  unfold execScrubSlot
  exact .ite (.trans .set_img (.ite (.next .refl) (.next scrubSlot_evolves.mono))) (.next .refl)

theorem execFrameDigestDbe_answers {slot s} : Answers (writes (.frameDigestDbe slot)) s (execFrameDigestDbe slot s) := by
  unfold execFrameDigestDbe
  exact .trans .set_img (.ite (.next uncorrectable_evolves.mono) (.next .refl))

/-! ## Budget -/

theorem commitsDue_evolves {n t s} :
    Evolves (.allBut { bt := true, clk := true, fwc := true, hir := true, sec := true, jtag := true, pending := true, resp := true, freeCtr := true
                        }) s (commitsDue n t s) := by
  induction n generalizing s with
  | zero => exact .refl
  | succ n ih =>
    unfold commitsDue
    exact .ite (partialTick_evolves.mono.trans ih) (.ite (commitTick_evolves.mono.trans ih) .refl)

theorem execBudgetEpochTick_answers {s} : Answers (writes (.budgetEpochTick )) s (execBudgetEpochTick s) := by
  unfold execBudgetEpochTick
  exact .ite (.trans commitsDue_evolves.mono (.next (.trans reach_evolves.mono btTick_evolves.mono))) (.next .refl)

theorem execStaleEpochFloors_answers {s} : Answers (writes (.staleEpochFloors )) s (execStaleEpochFloors s) := by
  unfold execStaleEpochFloors
  exact .ite (.next .set_bt) (.next .refl)

theorem execRecordProduce_answers {plane e s} : Answers (writes (.recordProduce plane e)) s (execRecordProduce plane e s) := by
  unfold execRecordProduce
  exact .next record_evolves.mono

theorem execArbiterGrant_answers {s} : Answers (writes (.arbiterGrant )) s (execArbiterGrant s) := by
  unfold execArbiterGrant
  exact .next grantCycle_evolves.mono

theorem execLossRecord_answers {plane s} : Answers (writes (.lossRecord plane)) s (execLossRecord plane s) := by
  unfold execLossRecord
  exact .next placeLoss_evolves.mono

/-! ## Capping -/

theorem accrueReasons_evolves {s p bind old} : Evolves { regs := true, cap := true } s (accrueReasons s p bind old) := by
  unfold accrueReasons
  exact .forEach fun _ _ => .trans (.ite .refl reasonCount_evolves.mono) reasonTime_evolves.mono

theorem thermRelease_evolves {s p} : Evolves { regs := true, pb := true, fq := true } s (thermRelease s p) := by
  unfold thermRelease
  exact .ite (.trans balZero_evolves.mono raise_evolves.mono) .refl

theorem evalPart_evolves {s p} :
    Evolves { regs := true, drain := true, recd := true, pb := true, fq := true, tvl := true, dom := true, cap := true } s (evalPart s p) := by
  unfold evalPart
  exact .trans accrueReasons_evolves.mono
    (.trans wrN_evolves.mono
       (.trans wrN_evolves.mono
          (.trans setPart_evolves.mono
             (.trans (.ite lostThr_evolves.mono .refl)
                (.trans (.ite wrN_evolves.mono .refl)
                   (.trans (.ite gthrotCheck_evolves.mono .refl)
                      (.trans (.trans thermRelease_evolves.mono stepDown_evolves.mono) holdUpdate_evolves.mono)))))))

theorem sumPower_evolves {s} : Evolves { fab := true, cap := true } s (sumPower s) := by
  unfold sumPower
  exact .trans (.forEach fun _ _ => .trans setSrc_evolves.mono setCap_evolves.mono) .set_cap

theorem execTargetEvaluation_answers {s} : Answers (writes (.targetEvaluation )) s (execTargetEvaluation s) := by
  unfold execTargetEvaluation
  exact .trans sumPower_evolves.mono (.trans (.trans pmRefresh_evolves.mono (.forEach fun _ _ => evalPart_evolves.mono)) (.next pinAll_evolves.mono))

theorem execFreqStepSend_answers {part s} : Answers (writes (.freqStepSend part)) s (execFreqStepSend part s) := by
  unfold execFreqStepSend
  exact .ite (.trans reach_evolves.mono (.trans setPart_evolves.mono (.next freqSend_evolves.mono))) (.next .refl)

theorem execTickFreqSend_answers {part s} : Answers (writes (.tickFreqSend part)) s (execTickFreqSend part s) := by
  unfold execTickFreqSend
  extract_lets
  split
  · exact .next .refl
  · exact .ite
      (.trans reach_evolves.mono
         (.trans setPart_evolves.mono
            (.ite (.next freqSend_evolves.mono) (.ite (.trans setPart_evolves.mono (.next freqSend_evolves.mono)) (.next .refl)))))
      (.next .refl)

theorem powStep_evolves {s p} : Evolves { regs := true, cap := true, freeCtr := true } s (powStep s p) := by
  unfold powStep
  exact .trans (.iteSnd drawInt_evolves.mono .refl)
    (.trans (.trans setCap_evolves.mono wrN_evolves.mono) (.ite (.trans setCap_evolves.mono .set_cap) .refl))

theorem execPowerLoopUpdate_answers {s} : Answers (writes (.powerLoopUpdate )) s (execPowerLoopUpdate s) := by
  unfold execPowerLoopUpdate
  exact .trans reach_evolves.mono (.trans .set_cap (.next (.forEach fun _ _ => powStep_evolves.mono)))

theorem thermStep_evolves {s p} : Evolves { regs := true, cap := true } s (thermStep s p) := by
  unfold thermStep
  exact .trans
    (by
       split
       exacts [.refl,
         .trans wrN_evolves.mono (.ite .refl (.trans setCap_evolves.mono .set_cap))]) setCap_evolves.mono

theorem execThermalLoopUpdate_answers {s} : Answers (writes (.thermalLoopUpdate )) s (execThermalLoopUpdate s) := by
  unfold execThermalLoopUpdate
  exact .trans reach_evolves.mono (.trans .set_cap (.next (.forEach fun _ _ => thermStep_evolves.mono)))

theorem execThermalGuardRelease_answers {part s} : Answers (writes (.thermalGuardRelease part)) s (execThermalGuardRelease part s) := by
  unfold execThermalGuardRelease
  extract_lets
  split
  · exact .ite (.next (.trans (.trans reach_evolves.mono pmRefresh_evolves.mono) setCap_evolves.mono)) (.next .refl)
  · exact .next .refl

theorem execContention_answers {inst s} : Answers (writes (.contention inst)) s (execContention inst s) := by
  unfold execContention
  exact .trans pinUpdate_evolves.mono
    (.ite
       (.trans (.trans reach_evolves.mono pinUpdate_evolves.mono)
          (.trans setF_evolves.mono (.trans bump_evolves.mono (.trans record_evolves.mono (.next .set_cap))))) (.next .refl))

theorem snapWrite_evolves {s k val} : Evolves { regs := true } s (snapWrite s k val) := by
  unfold snapWrite
  exact .ite .refl
    (.ite setF_evolves.mono
       (.trans wr64_evolves.mono
          (.trans wr64_evolves.mono
             (.trans wr64_evolves.mono
                (.trans (.forEach fun _ _ => .trans wr_evolves.mono wr64_evolves.mono)
                   (.trans wrN_evolves.mono
                      (.ite (.trans (.forEach fun _ _ => .trans wr_evolves.mono wr64_evolves.mono) (.trans wr64_evolves.mono wr64_evolves.mono))
                         (.refl))))))))

/-! ## Domain -/

theorem execHold_answers {lane scope node payload ok s} :
    Answers (writes (.hold lane scope node payload ok)) s (execHold lane scope node payload ok s) := by
  unfold execHold
  exact .bindFst cellReceive_evolves.mono (fun _ _ => .ite (.next holdStart_evolves.mono) (.next .refl))

theorem execHoldExpiry_answers {group s} : Answers (writes (.holdExpiry group)) s (execHoldExpiry group s) := by
  unfold execHoldExpiry
  exact .ite (.next .refl)
    (.trans reach_evolves.mono
       (.trans (.forEach fun _ _ => holdUpdate_evolves.mono)
          (.trans setDom_evolves.mono (.next (.forEach fun _ _ => .trans (.ite .refl setPart_evolves.mono) holdUpdate_evolves.mono)))))

theorem execGthrot_answers {lane scope node payload ok s} :
    Answers (writes (.gthrot lane scope node payload ok)) s (execGthrot lane scope node payload ok s) := by
  unfold execGthrot
  exact .bindFst cellReceive_evolves.mono (fun _ _ => .ite (.next domStage_evolves.mono) (.next .refl))

theorem execTrip_answers {lane scope node payload ok s} :
    Answers (writes (.trip lane scope node payload ok)) s (execTrip lane scope node payload ok s) := by
  unfold execTrip
  exact .bindFst cellReceive_evolves.mono
    (fun _ _ => .ite (.trans (.trans raise_evolves.mono record_evolves.mono) (.next (.ite setDom_evolves.mono .refl))) (.next .refl))

theorem execDroop_answers {lane scope node payload ok s} :
    Answers (writes (.droop lane scope node payload ok)) s (execDroop lane scope node payload ok s) := by
  unfold execDroop
  exact .bindFst cellReceive_evolves.mono
    (fun _ _ => .ite (.trans setBoost_evolves.mono (.next (.trans setDom_evolves.mono holdRail_evolves.mono))) (.next .refl))

theorem execDroopCellFreezeEnd_answers {rail s} : Answers (writes (.droopCellFreezeEnd rail)) s (execDroopCellFreezeEnd rail s) := by
  unfold execDroopCellFreezeEnd
  exact .ite
    (.trans (.trans reach_evolves.mono holdRail_evolves.mono)
       (.trans setBoost_evolves.mono (.next (.trans (.forEach fun _ _ => .ite .refl setPart_evolves.mono) holdRail_evolves.mono))))
    (.next .refl)

theorem execClaimExpiry_answers {s} : Answers (writes (.claimExpiry )) s (execClaimExpiry s) := by
  unfold execClaimExpiry
  exact .ite (.trans (.trans reach_evolves.mono becomeMaster_evolves.mono) (.next setDom_evolves.mono)) (.next .refl)

theorem execHeartbeatInstant_answers {s} : Answers (writes (.heartbeatInstant )) s (execHeartbeatInstant s) := by
  unfold execHeartbeatInstant
  exact .ite (.trans (.trans reach_evolves.mono setDom_evolves.mono) (.next (.ite sendHeartbeat_evolves.mono .refl))) (.next .refl)

theorem execHeartbeatMissed_answers {s} : Answers (writes (.heartbeatMissed )) s (execHeartbeatMissed s) := by
  unfold execHeartbeatMissed
  exact .ite (.next .refl)
    (.trans (.trans reach_evolves.mono setDom_evolves.mono)
       (.ite (.next .refl)
          (.trans setDom_evolves.mono
             (.ite (.next .refl) (.trans (.ite .refl (.trans setDom_evolves.mono raise_evolves.mono)) (.next (.ite takeover_evolves.mono .refl)))))))

theorem hbAdopt_evolves {s lane src epoch standby} :
    Evolves { regs := true, drain := true, recd := true, tb := true, dom := true } s (hbAdopt s lane src epoch standby) := by
  unfold hbAdopt
  exact .trans setDom_evolves.mono
    (.trans dueMark_evolves.mono
       (.ite (.trans setDom_evolves.mono (.trans (.trans setTb_evolves.mono raise_evolves.mono) enterAcquire_evolves.mono)) .refl))

theorem execHeartbeat_answers {lane src epoch standby mgen mem s} :
    Answers (writes (.heartbeat lane src epoch standby mgen mem)) s (execHeartbeat lane src epoch standby mgen mem s) := by
  unfold execHeartbeat
  exact .trans takeRx_evolves.mono
    (.ite (.next .refl)
       (.trans (.ite hbAdopt_evolves.mono .refl) (.ite (.next staleSrc_evolves.mono) (.next (.trans pmRefresh_evolves.mono setDom_evolves.mono)))))

theorem execDemandReductionStart_answers {s} : Answers (writes (.demandReductionStart )) s (execDemandReductionStart s) := by
  unfold execDemandReductionStart
  exact .ite (.trans reach_evolves.mono (.next (.forEach fun _ _ => redAdd_evolves.mono))) (.next .refl)

theorem takeResults_evolves {s rids} : Evolves { regs := true, tvl := true } s (takeResults s rids) := by
  unfold takeResults
  exact .trans bumpBy_evolves.mono .set_tvl

theorem execAllocationCompute_answers {s} : Answers (writes (.allocationCompute )) s (execAllocationCompute s) := by
  unfold execAllocationCompute
  exact .ite (.next .refl)
    (.trans reach_evolves.mono
       (.trans setDom_evolves.mono
          (.trans (.ite raise_evolves.mono .refl)
             (.trans memWrite_evolves.mono (.trans setDom_evolves.mono (.next (.trans takeResults_evolves.mono allocGo_evolves.mono)))))))

theorem execAllocGo_answers {s} : Answers (writes (.allocGo )) s (execAllocGo s) := by
  unfold execAllocGo
  exact .next allocGo_evolves.mono

theorem execAlloc_answers {src epoch bepoch first seg nseg entries s} :
    Answers (writes (.alloc src epoch bepoch first seg nseg entries)) s (execAlloc src epoch bepoch first seg nseg entries s) := by
  unfold execAlloc
  exact .trans takeRx_evolves.mono
    (.ite (.next .refl)
       (.ite (.next staleSrc_evolves.mono)
          (.ite (.next .refl) (.trans setPendBt_evolves.mono (.trans setSegs_evolves.mono (.next (.ite domComplete_evolves.mono .refl)))))))

theorem execLocalAllocationSplit_answers {s} : Answers (writes (.localAllocationSplit )) s (execLocalAllocationSplit s) := by
  unfold execLocalAllocationSplit
  exact .ite (.next .refl) (.next (.trans setPendBt_evolves.mono localSealed_evolves.mono))

theorem execBudgetCompare_answers {flips stuck s} : Answers (writes (.budgetCompare flips stuck)) s (execBudgetCompare flips stuck s) := by
  unfold execBudgetCompare
  exact .trans setActBt_evolves.mono (.ite (.bindFst btCompare_evolves.mono (fun _ _ => .next (.ite domComplete_evolves.mono .refl))) (.next .refl))

theorem execGroupCycleStart_answers {s} : Answers (writes (.groupCycleStart )) s (execGroupCycleStart s) := by
  unfold execGroupCycleStart
  exact .ite (.trans (.trans reach_evolves.mono setDom_evolves.mono) (.next redAdd_evolves.mono)) (.next .refl)

theorem annStage_evolves {s cid tick basis entries} :
    Evolves { regs := true, drain := true, recd := true, tvl := true, dom := true } s (annStage s cid tick basis entries) := by
  unfold annStage
  exact .ite (.forEach fun _ _ => domStage_evolves.mono) .refl

theorem groupGo_evolves {s} : Evolves { regs := true, drain := true, recd := true, tvl := true, dom := true } s (groupGo s) := by
  unfold groupGo
  exact .ite .refl (.trans setDom_evolves.mono (.trans postAnn_evolves.mono annStage_evolves.mono))

theorem execGroupReductionResult_answers {s} : Answers (writes (.groupReductionResult )) s (execGroupReductionResult s) := by
  unfold execGroupReductionResult
  exact .ite (.next .refl)
    (by
       extract_lets
       split
       exacts [.next .refl,
         .trans memWrite_evolves.mono (.next (.trans takeResults_evolves.mono groupGo_evolves.mono))])

theorem execGroupGo_answers {s} : Answers (writes (.groupGo )) s (execGroupGo s) := by
  unfold execGroupGo
  exact .next groupGo_evolves.mono

theorem execCommitAnn_answers {src epoch cid tick basis entries s} :
    Answers (writes (.commitAnn src epoch cid tick basis entries)) s (execCommitAnn src epoch cid tick basis entries s) := by
  unfold execCommitAnn
  exact .trans takeRx_evolves.mono
    (.ite (.next .refl) (.ite (.next staleSrc_evolves.mono) (.ite (.next .refl) (.trans setDom_evolves.mono (.next annStage_evolves.mono)))))

theorem execDomainCommitEffect_answers {group s} : Answers (writes (.domainCommitEffect group)) s (execDomainCommitEffect group s) := by
  unfold execDomainCommitEffect
  extract_lets mine
  clear_value mine
  split
  · exact .next .refl
  · extract_lets tick s1 due s2
    exact .trans (t := s1) reach_evolves.mono
      (.trans (t := s2) setDom_evolves.mono (.next (.forEach fun _ _ => domEffect_evolves.mono)))

theorem execCommitRefuse_answers {group s} : Answers (writes (.commitRefuse group)) s (execCommitRefuse group s) := by
  unfold execCommitRefuse
  exact .trans takeDelivered_evolves.mono (.ite (.trans originate_evolves.mono (.next (.ite .refl holdStart_evolves.mono))) (.next .refl))

theorem execJoinReqSend_answers {s} : Answers (writes (.joinReqSend )) s (execJoinReqSend s) := by
  unfold execJoinReqSend
  exact .ite (.next postFrame_evolves.mono) (.next .refl)

theorem execJoinReq_answers {src standby s} : Answers (writes (.joinReq src standby)) s (execJoinReq src standby s) := by
  unfold execJoinReq
  exact .trans takeDelivered_evolves.mono
    (.ite (.next .refl)
       (.ite (.trans setDom_evolves.mono (.trans postFrame_evolves.mono (.next postFrame_evolves.mono))) (.next postFrame_evolves.mono)))

theorem execJoinAck_answers {admitted mgen bepoch s} : Answers (writes (.joinAck admitted mgen bepoch)) s (execJoinAck admitted mgen bepoch s) := by
  unfold execJoinAck
  exact .trans takeDelivered_evolves.mono (.ite (.trans setDom_evolves.mono (.next raise_evolves.mono)) (.next .refl))

theorem execMember_answers {mgen node kind s} : Answers (writes (.member mgen node kind)) s (execMember mgen node kind s) := by
  unfold execMember
  exact .trans takeDelivered_evolves.mono
    (.ite (.next .refl) (.trans setDom_evolves.mono (.ite (.next setDom_evolves.mono) (.ite (.next setDom_evolves.mono) (.next .refl)))))

theorem execNoStandby_answers {s} : Answers (writes (.noStandby )) s (execNoStandby s) := by
  unfold execNoStandby
  exact .ite (.next (.trans setDom_evolves.mono record_evolves.mono)) (.next .refl)

/-! ## Estimation -/

theorem execDitherChip_answers {s} : Answers (writes (.ditherChip )) s (execDitherChip s) := by
  unfold execDitherChip
  exact .trans reach_evolves.mono (.next (.forEach fun _ _ => .trans .set_est setCh_evolves.mono))

theorem execVrep_answers {die site v stamp s} : Answers (writes (.vrep die site v stamp)) s (execVrep die site v stamp s) := by
  unfold execVrep
  exact .next
    (lane1_evolves (hW := by rfl)
       (fun _ =>
          .trans (.forEach fun _ _ => regionAgain_evolves.mono)
            (.trans wrN_evolves.mono (.trans setSite_evolves.mono (.trans setSrc_evolves.mono (.forEach fun _ _ => regionReport_evolves.mono))))))

theorem execEstimatorSample_answers {s} : Answers (writes (.estimatorSample )) s (execEstimatorSample s) := by
  unfold execEstimatorSample
  exact .next (.forEach fun _ _ => estSample_evolves.mono)

theorem balSample_evolves {s} : Evolves { est := true } s (balSample s) := by
  unfold balSample
  exact .set_est

theorem corroborate_evolves {s} : Evolves { regs := true, drain := true, recd := true, est := true } s (corroborate s) := by
  unfold corroborate
  exact .trans .set_est (.ite (.forEach fun _ _ => stage_evolves.mono) .refl)

theorem execEstimatorRefresh_answers {s} : Answers (writes (.estimatorRefresh )) s (execEstimatorRefresh s) := by
  unfold execEstimatorRefresh
  exact .ite
    (.trans reach_evolves.mono
       (.trans (.trans balSample_evolves.mono (.forEach fun _ _ => refresh_evolves.mono))
          (.trans (.trans corroborate_evolves.mono (.forEach fun _ _ => loadLine_evolves.mono)) (.next (.trans .set_est estStatus_evolves.mono)))))
    (.next .refl)

theorem execNcrEnter_answers {region s} : Answers (writes (.ncrEnter region)) s (execNcrEnter region s) := by
  unfold execNcrEnter
  exact .ite (.trans reach_evolves.mono (.next (.trans ncrEnter_evolves.mono estStatus_evolves.mono))) (.next .refl)

theorem execCaptureTimeout_answers {s} : Answers (writes (.captureTimeout )) s (execCaptureTimeout s) := by
  unfold execCaptureTimeout
  exact .ite (.next .refl) (.trans reach_evolves.mono (.next (.forEach fun _ _ => capEnd_evolves.mono)))

theorem setCal_evolves {s r f} : Evolves { est := true } s (setCal s r f) := by
  unfold setCal
  exact .set_est

theorem execCalibrationVisit_answers {rail s} : Answers (writes (.calibrationVisit rail)) s (execCalibrationVisit rail s) := by
  unfold execCalibrationVisit
  exact .ite
    (by
       split
       exacts [.next .refl,
         .trans setCal_evolves.mono
           (.ite (.ite (.next setCal_evolves.mono) (.next .refl)) (.ite (.trans setPh_evolves.mono (.next setCal_evolves.mono)) (.next .refl)))])
    (.next .refl)

theorem execCalibrationReading_answers {rail z flat s} :
    Answers (writes (.calibrationReading rail z flat)) s (execCalibrationReading rail z flat s) := by
  unfold execCalibrationReading
  extract_lets
  split
  · exact .trans setPh_evolves.mono
      (.trans setCal_evolves.mono
         (.ite (.next bump_evolves.mono)
            (.trans bump_evolves.mono
               (.trans .set_est
                  (.trans setCal_evolves.mono
                     (.ite (.trans bump_evolves.mono (.trans record_evolves.mono (.trans .set_est (.next (.ite raise_evolves.mono .refl)))))
                        (.trans .set_est (.next (.trans setF_evolves.mono raise_evolves.mono)))))))))
  · exact .next .refl

/-! ## Fabric -/

theorem chanMin_evolves {s r} : Evolves { regs := true, pb := true } s (chanMin s r) := by
  unfold chanMin
  exact .trans (.ite .refl (.trans wrN_evolves.mono wr64_evolves.mono)) (.ite setBoost_evolves.mono .refl)

theorem senseAdd_evolves {s r} : Evolves { est := true } s (senseAdd s r) := by
  unfold senseAdd
  exact .set_est

theorem fastReadings_evolves {s vals} : Evolves { regs := true, ch := true, fab := true } s (fastReadings s vals) := by
  unfold fastReadings
  exact .trans (.forEach fun _ _ => .ite (.ite setSrc_evolves.mono .refl) (.ite setSrc_evolves.mono .refl))
    (.trans (.forEach fun _ _ => wrN_evolves.mono)
       (.trans (.forEach fun _ _ => setSrc_evolves.mono)
          (.forEach fun _ _ => .trans (.trans setSrc_evolves.mono wrN_evolves.mono) setCh_evolves.mono)))

theorem fastRails_evolves {s} : Evolves { regs := true, ch := true, fq := true } s (fastRails s) := by
  unfold fastRails
  exact .forEach fun _ _ => .trans railSample_evolves.mono (.ite .refl setCh_evolves.mono)

theorem dripCurrent_evolves {s r} : Evolves { regs := true, ch := true, ph := true } s (dripCurrent s r) := by
  unfold dripCurrent
  exact .ite dripExit_evolves.mono .refl

theorem fastMark_evolves {s} : Evolves { tvl := true } s (fastMark s) := by
  unfold fastMark
  exact .forEach fun _ _ => setLane_evolves.mono

theorem railMeans_evolves {s r} : Evolves { sbm := true } s (railMeans s r) := by
  unfold railMeans
  exact .trans (.trans meanAdd_evolves.mono meanAdd_evolves.mono) meanAdd_evolves.mono

theorem execFastSample_answers {vals s} : Answers (writes (.fastSample vals)) s (execFastSample vals s) := by
  unfold execFastSample
  exact .trans fastReadings_evolves.mono
    (.trans (.forEach fun _ _ => .trans (.trans chanMin_evolves.mono senseAdd_evolves.mono) railMeans_evolves.mono)
       (.ite
          (.trans (.forEach fun _ _ => setSrc_evolves.mono)
             (.trans laneSample_evolves.mono
                (.trans (.trans fastRails_evolves.mono (.forEach fun _ _ => .trans dripCurrent_evolves.mono onTimes_evolves.mono))
                   (.trans fastMark_evolves.mono (.next .set_fq_fab))))) (.next .refl)))

theorem execMs1Sample_answers {temps s} : Answers (writes (.ms1Sample temps)) s (execMs1Sample temps s) := by
  unfold execMs1Sample
  exact .trans (.forEach fun _ _ => setSrc_evolves.mono)
    (.trans (.forEach fun _ _ => wrN_evolves.mono)
       (.trans setSrc_evolves.mono
          (.trans (.forEach fun _ _ => meanAdd_evolves.mono)
             (.trans meanAdd_evolves.mono (.ite (.trans laneSample_evolves.mono (.next .set_fab)) (.next .refl))))))

theorem execKhz10Sample_answers {s} : Answers (writes (.khz10Sample )) s (execKhz10Sample s) := by
  unfold execKhz10Sample
  exact .trans (.forEach fun _ _ => setSrc_evolves.mono) (.ite (.trans laneSample_evolves.mono (.next .set_fab)) (.next .refl))

theorem execFabricParityError_answers {tile s} : Answers (writes (.fabricParityError tile)) s (execFabricParityError tile s) := by
  unfold execFabricParityError
  exact .trans clearTile_evolves.mono (.trans bump_evolves.mono (.trans raise_evolves.mono (.next record_evolves.mono)))

theorem execXslotFallback_answers {slot s} : Answers (writes (.xslotFallback slot)) s (execXslotFallback slot s) := by
  unfold execXslotFallback
  exact .ite
    (.trans setRx_evolves.mono
       (.trans raise_evolves.mono
          (.trans raise_evolves.mono (.trans (.ite (.forEach fun _ _ => setSig_evolves.mono) .refl) (.next record_evolves.mono)))))
    (.next .refl)

theorem execXdevSyncErr_answers {s} : Answers (writes (.xdevSyncErr )) s (execXdevSyncErr s) := by
  unfold execXdevSyncErr
  exact .ite (.next (.trans .set_fab raise_evolves.mono)) (.next .refl)

theorem execFastSync_answers {fs ms s} : Answers (writes (.fastSync fs ms)) s (execFastSync fs ms s) := by
  unfold execFastSync
  exact .ite (.next .set_fab) (.next .refl)

/-! ## Firmware -/

theorem execStoreBufferDrain_answers {core s} : Answers (writes (.storeBufferDrain core)) s (execStoreBufferDrain core s) := by
  unfold execStoreBufferDrain
  exact .next (.ite drainOne_evolves.mono .refl)

theorem execFence_answers {core predW succR s} : Answers (writes (.fence core predW succR)) s (execFence core predW succR s) := by
  unfold execFence
  exact .next (.ite drainAll_evolves.mono .refl)

theorem execFenceI_answers {core s} : Answers (writes (.fenceI core)) s (execFenceI core s) := by
  unfold execFenceI
  exact .next (.ite (.trans drainAll_evolves.mono setCore_evolves) .refl)

theorem atomicAt_evolves {s n a user pmp misaligned cause f} {W : Blocks}
    (hW : Blocks.le { regs := true, drain := true, recd := true, fwc := true, resp := true } W = true)
    (h7 : ∀ t y1, Evolves W t (f t y1)) :
    Evolves W s (atomicAt s n a user pmp misaligned cause f) := by
  unfold atomicAt
  exact .ite .refl
    (.trans ((setCore_evolves (Blocks.le_trans (by rfl) hW)))
       (.ite (coreFault_evolves.via hW)
          (by
             split
             exacts [.ite (coreFault_evolves.via hW)
                 (.ite (.ite (coreViol_evolves.via hW) (coreFault_evolves.via hW)) (.trans (drainAll_evolves.via hW) (h7 ..))),
               coreFault_evolves.via hW])))

theorem execAmo_answers {core user pmp op addr val s} :
    Answers (writes (.amo core user pmp op addr val)) s (execAmo core user pmp op addr val s) := by
  unfold execAmo
  exact .next (atomicAt_evolves (hW := by rfl) (fun _ _ => .trans memStore_evolves.mono .set_resp))

theorem execLr_answers {core user pmp addr s} : Answers (writes (.lr core user pmp addr)) s (execLr core user pmp addr s) := by
  unfold execLr
  exact .next
    (.ite .refl
       (.trans setCore_evolves
          (.ite coreFault_evolves.mono
             (by
                split
                exacts [.ite coreFault_evolves.mono (.trans .set_resp setCore_evolves),
                  coreFault_evolves.mono]))))

theorem execSc_answers {core user pmp addr val s} : Answers (writes (.sc core user pmp addr val)) s (execSc core user pmp addr val s) := by
  unfold execSc
  exact .next
    (.ite .refl
       (.trans setCore_evolves
          (.ite coreFault_evolves.mono
             (by
                extract_lets
                split
                exacts [.ite coreFault_evolves.mono
                    (.ite coreViol_evolves.mono
                       (.ite (.trans (.trans drainAll_evolves.mono memStore_evolves.mono) (.trans .set_resp setCore_evolves))
                          (.trans .set_resp setCore_evolves))),
                  coreFault_evolves.mono]))))

theorem execMplaneWrite_answers {core user val s} : Answers (writes (.mplaneWrite core user val)) s (execMplaneWrite core user val s) := by
  unfold execMplaneWrite
  exact .next (.ite .refl (.ite coreFault_evolves.mono (.ite setCore_evolves .refl)))

theorem execCacheFillDone_answers {core icache line s} :
    Answers (writes (.cacheFillDone core icache line)) s (execCacheFillDone core icache line s) := by
  unfold execCacheFillDone
  extract_lets
  split
  · exact .next (.ite (.trans bump_evolves.mono (.trans fillLine_evolves.mono (.ite .refl setCore_evolves))) .refl)
  · exact .next (.ite .refl (.ite setCore_evolves (.trans setCore_evolves fillLine_evolves.mono)))

theorem execWritebackDrain_answers {core s} : Answers (writes (.writebackDrain core)) s (execWritebackDrain core s) := by
  unfold execWritebackDrain
  split
  · exact .next (.ite flushLine_evolves.mono .refl)
  · exact .next .refl

theorem mbxBy_evolves {s w f} {W : Blocks}
    (hW : Blocks.le { regs := true, fwc := true } W = true)
    (h2 : ∀ t, Evolves W t (f t)) :
    Evolves W s (mbxBy s w f) := by
  unfold mbxBy
  exact .ite (.ite (.trans (drainAll_evolves.via hW) (h2 ..)) .refl) (.ite ((h2 ..)) .refl)

theorem execMbxFlagWrite_answers {writer word val s} : Answers (writes (.mbxFlagWrite writer word val)) s (execMbxFlagWrite writer word val s) := by
  unfold execMbxFlagWrite
  exact .next (mbxBy_evolves (hW := by rfl) (fun _ => mbxWrite_evolves.mono))

theorem execMbxDbSet_answers {writer target bits s} : Answers (writes (.mbxDbSet writer target bits)) s (execMbxDbSet writer target bits s) := by
  unfold execMbxDbSet
  exact .next (mbxBy_evolves (hW := by rfl) (fun _ => mbxWrite_evolves.mono))

theorem execMbxMsg_answers {writer target word s} : Answers (writes (.mbxMsg writer target word)) s (execMbxMsg writer target word s) := by
  unfold execMbxMsg
  exact .next (mbxBy_evolves (hW := by rfl) (fun _ => mbxWrite_evolves.mono))

theorem execMbxMsgPop_answers {reader target s} : Answers (writes (.mbxMsgPop reader target)) s (execMbxMsgPop reader target s) := by
  unfold execMbxMsgPop
  exact .next (mbxBy_evolves (hW := by rfl) (fun _ => mbxRead_evolves.mono))

theorem execMtimeCompare_answers {core s} : Answers (writes (.mtimeCompare core)) s (execMtimeCompare core s) := by
  unfold execMtimeCompare
  exact .next (.ite .refl .set_fwc)

theorem execMemoryEccError_answers {ix double core fetch s} :
    Answers (writes (.memoryEccError ix double core fetch)) s (execMemoryEccError ix double core fetch s) := by
  unfold execMemoryEccError
  refine .next ?_
  split
  · exact bump_evolves.mono
  · extract_lets s1
    refine .trans (t := s1) memUe_evolves.mono ?_
    split
    · exact .ite coreFault_evolves.mono .refl
    · exact .refl

theorem execCacheEccError_answers {core icache line double s} :
    Answers (writes (.cacheEccError core icache line double)) s (execCacheEccError core icache line double s) := by
  unfold execCacheEccError
  exact .next
    (.ite
       (.trans dropDirty_evolves.mono
          (.trans setCore_evolves
             (.trans (.trans raise_evolves.mono record_evolves.mono) (.trans boundaryFail_evolves.mono (.ite askRestart_evolves.mono .refl)))))
       (.ite bump_evolves.mono (.ite (.trans bump_evolves.mono (.trans setCore_evolves fillLine_evolves.mono)) .refl)))

theorem execRegisterAccessTimeout_answers {core store s} :
    Answers (writes (.registerAccessTimeout core store)) s (execRegisterAccessTimeout core store s) := by
  unfold execRegisterAccessTimeout
  exact .next (.ite (.trans coreFault_evolves.mono raise_evolves.mono) .refl)

theorem execFwVerifyDone_answers {got s} : Answers (writes (.fwVerifyDone got)) s (execFwVerifyDone got s) := by
  unfold execFwVerifyDone
  exact .next (.ite fwVerify_evolves.mono .refl)

theorem execFwWriteDone_answers {got s} : Answers (writes (.fwWriteDone got)) s (execFwWriteDone got s) := by
  unfold execFwWriteDone
  exact .next (.ite fwWrite_evolves.mono .refl)

theorem execReadyWe_answers {core ready s} : Answers (writes (.readyWe core ready)) s (execReadyWe core ready s) := by
  unfold execReadyWe
  exact .next setReady_evolves.mono

theorem execKick_answers {core s} : Answers (writes (.kick core)) s (execKick core s) := by
  unfold execKick
  exact .next (.ite setCore_evolves .refl)

theorem execRestartSelf_answers {core s} : Answers (writes (.restartSelf core)) s (execRestartSelf core s) := by
  unfold execRestartSelf
  exact .next (.ite restartAsked_evolves.mono .refl)

theorem execWatchdogExpiry_answers {core s} : Answers (writes (.watchdogExpiry core)) s (execWatchdogExpiry core s) := by
  unfold execWatchdogExpiry
  exact .next (.ite (.trans reach_evolves.mono timedRestart_evolves.mono) .refl)

theorem execReadyTimeout_answers {core s} : Answers (writes (.readyTimeout core)) s (execReadyTimeout core s) := by
  unfold execReadyTimeout
  exact .next (.ite (.trans reach_evolves.mono timedRestart_evolves.mono) .refl)

theorem execCoreRestartRelease_answers {core s} : Answers (writes (.coreRestartRelease core)) s (execCoreRestartRelease core s) := by
  unfold execCoreRestartRelease
  exact .next (.ite (.trans coreRelease_evolves.mono backDone_evolves.mono) .refl)

theorem execQuiesceTimeout_answers {core s} : Answers (writes (.quiesceTimeout core)) s (execQuiesceTimeout core s) := by
  unfold execQuiesceTimeout
  exact .next (.ite (.trans reach_evolves.mono (.trans raise_evolves.mono handRestart_evolves.mono)) .refl)

/-! ## Franking -/

theorem popHead_evolves {s q} : Evolves { regs := true, pb := true, fq := true } s (popHead s q) := by
  unfold popHead
  exact .trans setQueue_evolves.mono (.trans .set_fq lightDrain_evolves.mono)

theorem grantHeavy_evolves {s q i dp kind wait} :
    Evolves { regs := true, ch := true, ph := true, fq := true } s (grantHeavy s q i dp kind wait) := by
  unfold grantHeavy
  exact .trans frankPhases_evolves.mono (.trans setQueue_evolves.mono .set_fq)

theorem grantForced_evolves {s q i} :
    Evolves { regs := true, drain := true, recd := true, ch := true, ph := true, pb := true, fq := true } s (grantForced s q i) := by
  unfold grantForced
  exact .trans (.ite grantHeavy_evolves.mono .set_fq)
    (.trans (.trans bump_evolves.mono raise_evolves.mono) (.trans record_evolves.mono (.trans sinkTake_evolves.mono popHead_evolves.mono)))

theorem execHeavyGrant_answers {s} : Answers (writes (.heavyGrant )) s (execHeavyGrant s) := by
  unfold execHeavyGrant
  extract_lets s1
  have h1 : Evolves (writes .heavyGrant) s s1 := by
    unfold s1
    split
    · exact reach_evolves.mono
    · exact .refl
  refine .trans h1 ?_
  split
  · exact .next .refl
  · split
    · exact .next .refl
    · exact .ite (.next grantForced_evolves.mono) (.trans grantHeavy_evolves.mono (.next (.trans bump_evolves.mono popHead_evolves.mono)))

theorem setFrank_evolves {s sel f} : Evolves { fq := true } s (setFrank s sel f) := by
  unfold setFrank
  extract_lets
  split
  · exact .set_fq
  · exact .refl

theorem execFrankSend_answers {queue s} : Answers (writes (.frankSend queue)) s (execFrankSend queue s) := by
  unfold execFrankSend
  extract_lets
  split
  · exact .next .refl
  · exact .trans reach_evolves.mono (.next (.trans setFrank_evolves.mono frankSend_evolves.mono))

theorem execHeavyLaunch_answers {queue s} : Answers (writes (.heavyLaunch queue)) s (execHeavyLaunch queue s) := by
  unfold execHeavyLaunch
  extract_lets
  split
  · exact .next .refl
  · exact .trans reach_evolves.mono
      (.trans setFrank_evolves.mono
         (.trans
            (.ite
               (by
                  extract_lets
                  split
                  exacts [.set_fq,
                    .refl]) .refl)
            (.ite (.trans balZero_evolves.mono (.trans setBal_evolves.mono (.ite (.next .set_fq) (.next .set_fq)))) (.next .refl))))

theorem execFrank_answers {die queue value s} : Answers (writes (.frank die queue value)) s (execFrank die queue value s) := by
  unfold execFrank
  exact .trans wireDrop_evolves.mono (.trans setPort_evolves.mono (.next statusSend_evolves.mono))

theorem intentTake_evolves {s d q i} : Evolves { regs := true, drain := true, recd := true, pb := true, fq := true } s (intentTake s d q i) := by
  unfold intentTake
  exact .ite frankCancel_evolves.mono
    (.ite (.trans (.trans bump_evolves.mono raise_evolves.mono) (.trans record_evolves.mono frankCancel_evolves.mono))
       (.ite (.trans raise_evolves.mono (.trans record_evolves.mono frankCancel_evolves.mono))
          (.ite frankCancel_evolves.mono (.trans setQueue_evolves.mono lightDrain_evolves.mono))))

theorem execIntent_answers {die seq queue cls part tag dur s} :
    Answers (writes (.intent die seq queue cls part tag dur)) s (execIntent die seq queue cls part tag dur s) := by
  unfold execIntent
  exact .next (lane0_evolves (hW := by rfl) (fun _ => intentTake_evolves.mono))

theorem fqGrant_evolves {s val} : Evolves { regs := true, fq := true } s (fqGrant s val) := by
  unfold fqGrant
  exact .ite .refl (.ite .set_fq raise_evolves.mono)

theorem fqSchedHb_evolves {s} : Evolves { fq := true } s (fqSchedHb s) := by
  unfold fqSchedHb
  exact .trans .set_fq (.ite .refl .set_fq)

theorem execSchedTimeout_answers {s} : Answers (writes (.schedTimeout )) s (execSchedTimeout s) := by
  unfold execSchedTimeout
  split
  · exact .next (.trans reach_evolves.mono fixedEnter_evolves.mono)
  · exact .next fixedEnter_evolves.mono

theorem execFixedRateArm_answers {queue s} : Answers (writes (.fixedRateArm queue)) s (execFixedRateArm queue s) := by
  unfold execFixedRateArm
  exact .ite
    (.trans
       (by
          split
          exacts [reach_evolves.mono,
            .refl]) (.next (.trans .set_fq sinkTake_evolves.mono))) (.next .refl)

theorem execDeadlineExpiry_answers {queue s} : Answers (writes (.deadlineExpiry queue)) s (execDeadlineExpiry queue s) := by
  unfold execDeadlineExpiry
  extract_lets
  split
  · exact .next .refl
  · exact .trans reach_evolves.mono (.trans setQueue_evolves.mono (.trans .set_fq (.next (.ite grantForced_evolves.mono .refl))))

theorem execFrankCeilingEnd_answers {part s} : Answers (writes (.frankCeilingEnd part)) s (execFrankCeilingEnd part s) := by
  unfold execFrankCeilingEnd
  exact .trans (.ite reach_evolves.mono .refl) (.next .set_fq)

theorem execRampUpdate_answers {s} : Answers (writes (.rampUpdate )) s (execRampUpdate s) := by
  unfold execRampUpdate
  exact .trans .set_fq (.next .set_fq)

theorem execCommBegin_answers {die seq queue all part lead s} :
    Answers (writes (.commBegin die seq queue all part lead)) s (execCommBegin die seq queue all part lead s) := by
  unfold execCommBegin
  exact .next (lane0_evolves (hW := by rfl) (fun _ => .trans (.trans bump_evolves.mono raise_evolves.mono) (.ite .set_fq .refl)))

theorem execCommEnd_answers {die seq queue s} : Answers (writes (.commEnd die seq queue)) s (execCommEnd die seq queue s) := by
  unfold execCommEnd
  exact .next (lane0_evolves (hW := by rfl) (fun _ => .trans bump_evolves.mono raise_evolves.mono))

theorem execHintBallastSend_answers {part s} : Answers (writes (.hintBallastSend part)) s (execHintBallastSend part s) := by
  unfold execHintBallastSend
  extract_lets
  split
  · exact .next .refl
  · exact .trans reach_evolves.mono (.trans .set_fq (.ite (.next (.trans (.trans .set_fq balSend_evolves.mono) setBal_evolves.mono)) (.next .refl)))

theorem execBallastUpdate_answers {s} : Answers (writes (.ballastUpdate )) s (execBallastUpdate s) := by
  unfold execBallastUpdate
  exact .trans (.forEach fun _ _ => .trans balZero_evolves.mono raise_evolves.mono)
    (.ite (.trans .set_fq (.next (.forEach fun _ _ => .ite .refl balSend_evolves.mono)))
       (.next (.trans .set_fq (.forEach fun _ _ => .ite .refl (.trans .set_fq balSend_evolves.mono)))))

theorem execBaleGap_answers {die site s} : Answers (writes (.baleGap die site)) s (execBaleGap die site s) := by
  unfold execBaleGap
  exact .ite (.next (.trans setSite_evolves.mono raise_evolves.mono)) (.next .refl)

/-! ## LinkTx -/

theorem stampOut_evolves {s q} : Evolves { tb := true } s (stampOut s q).2 := by
  unfold stampOut
  exact .iteSnd .refl
    (.iteSnd
       (by
          extract_lets
          split
          exacts [.iteSnd .set_tb .refl,
            .refl]) .refl)

theorem sentBlock_evolves {s n b} : Evolves { tvl := true } s (sentBlock s n b) := by
  unfold sentBlock
  exact setLane_evolves.mono

theorem waitBlocks_evolves {s n} : Evolves { tvl := true } s (waitBlocks s n) := by
  unfold waitBlocks
  exact .forEach fun _ _ => setLcls_evolves.mono

theorem sendCredit_evolves {s n} : Evolves { tvl := true } s (sendCredit s n) := by
  unfold sendCredit
  exact .trans sentBlock_evolves.mono (.trans setLane_evolves.mono (.forEach fun _ _ => setLcls_evolves.mono))

theorem sendAck_evolves {s n c nak lseq} : Evolves { tvl := true } s (sendAck s n c nak lseq) := by
  unfold sendAck
  exact .trans sentBlock_evolves.mono setLcls_evolves.mono

theorem sendXslot_evolves {s n j} : Evolves { fab := true, tvl := true } s (sendXslot s n j) := by
  unfold sendXslot
  exact .trans sentBlock_evolves.mono .set_fab

theorem startFrame_evolves {s n c r again} : Evolves { tb := true, tvl := true } s (startFrame s n c r again) := by
  unfold startFrame
  exact .trans (.ite .refl setLane_evolves.mono)
    (.trans (.ite setLcls_evolves.mono (.trans outPop_evolves.mono setLcls_evolves.mono))
       (.bind stampOut_evolves.mono (fun _ _ => .trans sentBlock_evolves.mono setLane_evolves.mono)))

theorem endFrame_evolves {s n p} : Evolves { tvl := true } s (endFrame s n p) := by
  unfold endFrame
  exact .trans (.trans sentBlock_evolves.mono setLane_evolves.mono) (.ite setLcls_evolves.mono setLcls_evolves.mono)

theorem sendData_evolves {s n p} : Evolves { tvl := true } s (sendData s n p) := by
  unfold sendData
  exact .trans sentBlock_evolves.mono setLane_evolves.mono

theorem sendNext_evolves {s n} : Evolves { tb := true, fab := true, tvl := true } s (sendNext s n).2 := by
  unfold sendNext
  extract_lets x board
  split
  · dsimp only
    exact .trans sentBlock_evolves.mono setLane_evolves.mono
  split
  · dsimp only
    exact .trans sentBlock_evolves.mono setLane_evolves.mono
  split
  · dsimp only
    exact .trans (.trans sentBlock_evolves.mono setLane_evolves.mono) cellLeft_evolves.mono
  split
  · exact sendCredit_evolves.mono
  split
  · exact sendXslot_evolves.mono
  split
  · exact sendAck_evolves.mono
  split
  · exact sendCredit_evolves.mono
  split
  · exact .ite endFrame_evolves.mono sendData_evolves.mono
  split
  · dsimp only
    split
    · exact startFrame_evolves.mono
    · exact .refl
  · exact sentBlock_evolves.mono

/-! ## Link -/

theorem execLaneSignalDetect_answers {lane s} : Answers (writes (.laneSignalDetect lane)) s (execLaneSignalDetect lane s) := by
  unfold execLaneSignalDetect
  exact .next (.ite setLane_evolves.mono .refl)

theorem execLaneEqDone_answers {lane s} : Answers (writes (.laneEqDone lane)) s (execLaneEqDone lane s) := by
  unfold execLaneEqDone
  exact .next (.ite setLane_evolves.mono .refl)

theorem execLaneLock_answers {lane s} : Answers (writes (.laneLock lane)) s (execLaneLock lane s) := by
  unfold execLaneLock
  exact .next (.ite setLane_evolves.mono .refl)

theorem execLaneIdentDone_answers {lane role node peerLane cpos_ tag lat s} :
    Answers (writes (.laneIdentDone lane role node peerLane cpos_ tag lat)) s (execLaneIdentDone lane role node peerLane cpos_ tag lat s) := by
  unfold execLaneIdentDone
  exact .trans originFlush_evolves.mono
    (.ite (.next .refl)
       (.ite (.next (.trans raise_evolves.mono laneWait_evolves.mono))
          (.trans setLane_evolves.mono
             (.trans raise_evolves.mono
                (.trans setF_evolves.mono
                   (.trans setF_evolves.mono
                      (.trans setF_evolves.mono
                         (.trans setF_evolves.mono
                            (.ite (.trans (.trans raise_evolves.mono raise_evolves.mono) (.next (.trans .set_tvl wideLaneLost_evolves.mono)))
                               (.next (.trans lower_evolves.mono .set_tvl)))))))))))

theorem execLaneTrainTimeout_answers {lane s} : Answers (writes (.laneTrainTimeout lane)) s (execLaneTrainTimeout lane s) := by
  unfold execLaneTrainTimeout
  exact .ite (.next (.trans reach_evolves.mono laneWait_evolves.mono)) (.next .refl)

theorem execLaneWaitEnd_answers {lane s} : Answers (writes (.laneWaitEnd lane)) s (execLaneWaitEnd lane s) := by
  unfold execLaneWaitEnd
  exact .ite (.trans reach_evolves.mono (.trans bump_evolves.mono (.next setLane_evolves.mono))) (.next .refl)

theorem execLaneLockLoss_answers {lane clkLost s} : Answers (writes (.laneLockLoss lane clkLost)) s (execLaneLockLoss lane clkLost s) := by
  unfold execLaneLockLoss
  exact .ite (.trans raise_evolves.mono (.trans (.ite clkFault_evolves.mono .refl) (.next laneWait_evolves.mono))) (.next .refl)

theorem execInvalidBlock_answers {lane crc8 s} : Answers (writes (.invalidBlock lane crc8)) s (execInvalidBlock lane crc8 s) := by
  unfold execInvalidBlock
  exact .ite (.next .refl) (.trans bump_evolves.mono (.next (.ite boundaryFail_evolves.mono .refl)))

theorem execCredit_answers {lane c0 c1 c2 c3 s} : Answers (writes (.credit lane c0 c1 c2 c3)) s (execCredit lane c0 c1 c2 c3 s) := by
  unfold execCredit
  exact .ite (.trans setLane_evolves.mono (.next (.forEach fun _ _ => setLcls_evolves.mono))) (.next .refl)

theorem releaseTo_evolves {s n c keep} : Evolves { tvl := true } s (releaseTo s n c keep) := by
  unfold releaseTo
  exact .ite .refl setLcls_evolves.mono

theorem execLinkAck_answers {lane cls lseq s} : Answers (writes (.linkAck lane cls lseq)) s (execLinkAck lane cls lseq s) := by
  unfold execLinkAck
  exact .ite (.next releaseTo_evolves.mono) (.next .refl)

theorem execLinkNak_answers {lane cls lseq s} : Answers (writes (.linkNak lane cls lseq)) s (execLinkNak lane cls lseq s) := by
  unfold execLinkNak
  exact .ite (.trans releaseTo_evolves.mono (.next resendFrom_evolves.mono)) (.next .refl)

theorem execAbortBlock_answers {x0 s} : Answers (writes (.abortBlock x0)) s (execAbortBlock x0 s) := by
  unfold execAbortBlock
  exact .next .refl

theorem frameAccept_evolves {s n f} : Evolves { regs := true, drain := true, recd := true, tvl := true } s (frameAccept s n f) := by
  unfold frameAccept
  exact .ite deadFrame_evolves.mono (.ite deadFrame_evolves.mono (.ite deadFrame_evolves.mono routeFrame_evolves.mono))

theorem ackSet_evolves {s n c nak lseq} : Evolves { tvl := true } s (ackSet s n c nak lseq) := by
  unfold ackSet
  exact setLcls_evolves.mono

theorem frameArrive_evolves {s n lseq crcOk f} :
    Evolves { regs := true, drain := true, recd := true, tvl := true } s (frameArrive s n lseq crcOk f) := by
  unfold frameArrive
  exact .ite .refl
    (.ite deadFrame_evolves.mono
       (.ite (.trans (.trans ackSet_evolves.mono setLcls_evolves.mono) frameAccept_evolves.mono)
          (.ite
             (.trans (.trans bump_evolves.mono boundaryFail_evolves.mono) (.trans (.trans raise_evolves.mono bump_evolves.mono) ackSet_evolves.mono))
             (.ite (.trans (.trans ackSet_evolves.mono setLcls_evolves.mono) frameAccept_evolves.mono)
                (.ite .refl (.ite ackSet_evolves.mono ackSet_evolves.mono))))))

theorem execFrameReceive_answers {lane lseq crcOk f s} :
    Answers (writes (.frameReceive lane lseq crcOk f)) s (execFrameReceive lane lseq crcOk f s) := by
  unfold execFrameReceive
  exact .next frameArrive_evolves.mono

theorem execOperand_answers {lane lseq f s} : Answers (writes (.operand lane lseq f)) s (execOperand lane lseq f s) := by
  unfold execOperand
  exact .next frameArrive_evolves.mono

theorem execImageSeg_answers {lane lseq f s} : Answers (writes (.imageSeg lane lseq f)) s (execImageSeg lane lseq f s) := by
  unfold execImageSeg
  exact .next frameArrive_evolves.mono

theorem execRecGather_answers {lane lseq f s} : Answers (writes (.recGather lane lseq f)) s (execRecGather lane lseq f s) := by
  unfold execRecGather
  exact .next frameArrive_evolves.mono

theorem execReplayTimeout_answers {lane cls s} : Answers (writes (.replayTimeout lane cls)) s (execReplayTimeout lane cls s) := by
  unfold execReplayTimeout
  extract_lets
  split
  · exact .next .refl
  · exact .ite (.next .refl) (.next (.trans reach_evolves.mono resendFrom_evolves.mono))

theorem execCreditTimeout_answers {lane cls s} : Answers (writes (.creditTimeout lane cls)) s (execCreditTimeout lane cls s) := by
  unfold execCreditTimeout
  split
  · extract_lets
    split
    · exact .next .refl
    · exact .ite (.trans (.trans reach_evolves.mono raise_evolves.mono) (.next (.trans outPop_evolves.mono deadFrame_evolves.mono))) (.next .refl)
  · split
    · exact .next .refl
    · exact .trans (.trans reach_evolves.mono raise_evolves.mono) (.next (.trans deliverDrop_evolves.mono deadFrame_evolves.mono))

theorem execLaneTransmitSlot_answers {lane s} : Answers (writes (.laneTransmitSlot lane)) s (execLaneTransmitSlot lane s) := by
  unfold execLaneTransmitSlot
  extract_lets n
  refine .ite ?_ (.next .refl)
  refine .trans (t := (sendNext (originFlush s) n).2) (.trans (t := originFlush s) originFlush_evolves.mono sendNext_evolves.mono) ?_
  generalize sendNext (originFlush s) n = p
  obtain ⟨k, t⟩ := p
  exact .next (.trans (t := waitBlocks t n) waitBlocks_evolves.mono .set_resp)

theorem xslotTake_evolves {s k slot v} : Evolves { fab := true } s (xslotTake s k slot v) := by
  unfold xslotTake
  exact .forEach fun _ _ => setRx_evolves.mono

theorem execXslot_answers {lane j v0 v1 s} : Answers (writes (.xslot lane j v0 v1)) s (execXslot lane j v0 v1 s) := by
  unfold execXslot
  exact .ite (.next (.trans xslotTake_evolves.mono xslotTake_evolves.mono)) (.next .refl)

theorem execBoostStartBlock_answers {lane rail s} : Answers (writes (.boostStartBlock lane rail)) s (execBoostStartBlock lane rail s) := by
  unfold execBoostStartBlock
  exact .next (.ite boostStart_evolves.mono .refl)

theorem execBoostEndBlock_answers {lane rail s} : Answers (writes (.boostEndBlock lane rail)) s (execBoostEndBlock lane rail s) := by
  unfold execBoostEndBlock
  exact .next (.ite boostStop_evolves.mono .refl)

theorem execReduce_answers {src rid op part contrib elems s} :
    Answers (writes (.reduce src rid op part contrib elems)) s (execReduce src rid op part contrib elems s) := by
  unfold execReduce
  extract_lets
  split
  · exact .next redAdd_evolves.mono
  · exact .trans takeRx_evolves.mono (.ite (.next redAdd_evolves.mono) (.next .refl))

theorem execReductionTimeout_answers {rid s} : Answers (writes (.reductionTimeout rid)) s (execReductionTimeout rid s) := by
  unfold execReductionTimeout
  split
  · exact .next .refl
  · exact .next (.trans reach_evolves.mono redClose_evolves.mono)

theorem dlqPop_evolves {s q} : Evolves { tvl := true } s (dlqPop s q) := by
  unfold dlqPop
  exact setDlq_evolves.mono

/-! ## ResetOps -/

theorem regsDrop_evolves {s ds} : Evolves { regs := true } s (regsDrop s ds) := by
  unfold regsDrop
  exact regsFilter_evolves

theorem liveDrop_evolves {s a b} : Evolves { regs := true } s (liveDrop s a b) := by
  unfold liveDrop
  exact regsFilter_evolves

theorem flagsClear_evolves {s plane} : Evolves { fwc := true } s (flagsClear s plane) := by
  unfold flagsClear
  exact .set_fwc

theorem framesDiscard_evolves {s c} : Evolves { regs := true, drain := true, recd := true, tvl := true } s (framesDiscard s c) := by
  unfold framesDiscard
  exact .trans (.forEach fun _ _ => .trans setLcls_evolves.mono (.forEach fun _ _ => deadFrame_evolves.mono))
    (.trans (.trans setDeliver_evolves.mono (.forEach fun _ _ => deadFrame_evolves.mono)) .set_tvl)

theorem pbOff_evolves {s} : Evolves { pb := true } s (pbOff s) := by
  unfold pbOff
  exact .trans (.forEach fun _ _ => .ite (.trans portFallback_evolves.mono setPort_evolves.mono) .refl)
    (.trans (.forEach fun _ _ => setDie_evolves.mono) .set_pb)

theorem tvlOff_evolves {s} :
    Evolves { regs := true, drain := true, recd := true, tb := true, ch := true, ph := true, tvl := true } s (tvlOff s) := by
  unfold tvlOff
  exact .trans lanesOff_evolves.mono .set_tvl

theorem chanClear_evolves {s} : Evolves { ch := true } s (chanClear s) := by
  unfold chanClear
  exact .forEach fun _ _ => setCh_evolves.mono

theorem ctlOff_evolves {s} :
    Evolves { regs := true, drain := true, recd := true, tb := true, ch := true, ph := true, pb := true, fq := true, fwc := true, fab := true,
                tvl := true } s (ctlOff s) := by
  unfold ctlOff
  exact .trans (.trans tvlOff_evolves.mono pbOff_evolves.mono)
    (.trans (.trans flagsClear_evolves.mono chanClear_evolves.mono) (.trans (.trans .set_fq_fab liveDrop_evolves.mono) liveDrop_evolves.mono))

theorem ctlOn_evolves {s} :
    Evolves { regs := true, drain := true, bt := true, recd := true, tb := true, ch := true, ph := true, fq := true, fab := true, tvl := true,
                dom := true, cap := true } s (ctlOn s) := by
  unfold ctlOn
  exact .ite
    (.trans (.trans (.trans btApply_evolves.mono roleReset_evolves.mono) fqApply_evolves.mono)
       (.trans (.trans capApply_evolves.mono fabStart_evolves.mono) lanesApply_evolves.mono)) roleReset_evolves.mono

theorem ctlReset_evolves {s} :
    Evolves { regs := true, drain := true, bt := true, recd := true, tb := true, ch := true, ph := true, pb := true, fq := true, fwc := true,
                fab := true, tvl := true, dom := true, cap := true } s (ctlReset s) := by
  unfold ctlReset
  exact .trans (.trans regsDrop_evolves.mono ctlOff_evolves.mono) ctlOn_evolves.mono

theorem btDataClear_evolves {s} : Evolves { bt := true } s (btDataClear s) := by
  unfold btDataClear
  exact setPendBt_evolves.mono

theorem dataOff_evolves {s} : Evolves { regs := true, drain := true, recd := true, fwc := true, tvl := true, hir := true } s (dataOff s) := by
  unfold dataOff
  exact .trans (.trans framesDiscard_evolves.mono flagsClear_evolves.mono) (.trans (.forEach fun _ _ => .ite setRing_evolves.mono .refl) .set_tvl)

theorem dataReset_evolves {s} :
    Evolves { regs := true, drain := true, bt := true, recd := true, fwc := true, tvl := true, est := true, hir := true } s (dataReset s) := by
  unfold dataReset
  exact .trans (.trans (.trans regsDrop_evolves.mono dataOff_evolves.mono) btDataClear_evolves.mono)
    (.ite (.trans (.trans .set_est (.forEach fun _ _ => regionRestart_evolves.mono)) estStatus_evolves.mono) .refl)

theorem sbmClear_evolves {s} : Evolves { sbm := true } s (sbmClear s) := by
  unfold sbmClear
  exact .set_sbm

theorem nvsRest_evolves {s} : Evolves { regs := true, drain := true, recd := true, nvs := true } s (nvsRest s) := by
  unfold nvsRest
  split
  · exact nvCmdFail_evolves.mono
  · exact .refl

theorem mgmtOff_evolves {s} :
    Evolves { regs := true, drain := true, recd := true, img := true, nvs := true, fwc := true, tvl := true, hir := true, sbm := true } s (mgmtOff
                s) := by
  unfold mgmtOff
  exact .trans loadAbort_evolves.mono
    (.trans (.ite ldEnd_evolves.mono .refl)
       (.trans nvsRest_evolves.mono
          (.trans (.forEach fun _ _ => ringStop_evolves.mono)
             (.trans (.trans framesDiscard_evolves.mono flagsClear_evolves.mono) sbmClear_evolves.mono))))

theorem ringsClear_evolves {s} : Evolves { hir := true } s (ringsClear s) := by
  unfold ringsClear
  exact setHir_evolves.mono

theorem mgmtReset_evolves {s} :
    Evolves { regs := true, drain := true, recd := true, img := true, nvs := true, fwc := true, tvl := true, hir := true, sbm := true } s
                (mgmtReset s) := by
  unfold mgmtReset
  exact .trans (.trans mgmtOff_evolves.mono regsDrop_evolves.mono) ringsClear_evolves.mono

theorem fwcClear_evolves {s} : Evolves { regs := true, drain := true, recd := true, pb := true, fwc := true, cap := true } s (fwcClear s) := by
  unfold fwcClear
  exact .trans coresReset_evolves.mono (.putMems fun _ _ => ⟨rfl, fun _ _ => rfl⟩)

theorem intClear_evolves {s} : Evolves { hir := true } s (intClear s) := by
  unfold intClear
  exact setHir_evolves.mono

theorem haltReset_evolves {s kept} : Evolves { top := true } s (haltReset s kept) := by
  unfold haltReset
  exact .set_top

theorem planesOff_evolves {s} :
    Evolves { regs := true, top := true, drain := true, recd := true, tb := true, ch := true, ph := true, pb := true, fq := true, img := true,
                nvs := true, fwc := true, fab := true, tvl := true, cap := true, hir := true, sbm := true } s (planesOff s) := by
  unfold planesOff
  exact .trans
    (.trans
       (.trans (.trans (.trans (.trans ctlOff_evolves.mono dataOff_evolves.mono) mgmtOff_evolves.mono) ringsClear_evolves.mono)
          (fwcClear_evolves.mono)) intClear_evolves.mono) (.trans .set_top (.trans lower_evolves.mono haltReset_evolves.mono))

theorem resetInto_evolves {s d} : Evolves { regs := true, top := true, drain := true, recd := true, nvs := true } s (resetInto s d) := by
  unfold resetInto
  exact enterState_evolves.mono

theorem warmReset_evolves {s} :
    Evolves (.allBut { clk := true, sec := true, jtag := true, pending := true, resp := true, freeCtr := true }) s (warmReset s) := by
  unfold warmReset
  exact .trans (.trans planesOff_evolves.mono regsDrop_evolves.mono)
    (.trans (.trans .set_img holdReset_evolves.mono)
       (.trans (.forEach fun _ _ => holdBoth_evolves.mono)
          (.trans (.ite (blocksApply_evolves (hW := by rfl) (fun _ => roleReset_evolves.mono)) .refl)
             (.trans sbmClear_evolves.mono resetInto_evolves.mono))))

theorem secBoot_evolves {s ok idOk} : Evolves { regs := true, drain := true, recd := true, fwc := true, sec := true } s (secBoot s ok idOk) := by
  unfold secBoot
  exact .trans setF_evolves.mono (.trans .set_fwc_sec (.ite .refl record_evolves.mono))

theorem secReboot_evolves {s ok idOk} :
    Evolves { regs := true, drain := true, recd := true, fwc := true, sec := true } s (secReboot s ok idOk) := by
  unfold secReboot
  exact .trans .set_sec secBoot_evolves.mono

theorem deviceReset_evolves {s secOk idOk} :
    Evolves (.allBut { clk := true, jtag := true, pending := true, resp := true, freeCtr := true }) s (deviceReset s secOk idOk) := by
  unfold deviceReset
  exact .trans planesOff_evolves.mono
    (.trans (.trans phasesIdle_evolves.mono senLow_evolves.mono)
       (.trans .set_top_bt_recd_ch_img_tvl_dom_est_cap
          (.trans regsDrop_evolves.mono
             (.trans (.trans liveDrop_evolves.mono liveDrop_evolves.mono)
                (.trans (.forEach fun _ _ => setPh_evolves.mono)
                   (.trans (.trans fuseRead_evolves.mono holdReset_evolves.mono)
                      (.trans (.trans (.trans roleReset_evolves.mono secReboot_evolves.mono) sbmClear_evolves.mono) resetInto_evolves.mono)))))))

/-! ## Resets -/

theorem porAssert_evolves {s cause} : Evolves (.allBut { pending := true, resp := true, freeCtr := true }) s (porAssert s cause) := by
  unfold porAssert
  extract_lets quads keep s1 cause_ held
  refine .trans (t := s1) pbOff_evolves.mono ?_
  have hw : wordsCanon s1.regs → wordsCanon cause_ := by
    intro h
    unfold cause_
    split
    · exact wordsCanon_filter _ h
    · exact wordsCanon_nil
  clear_value s1 cause_ held quads keep
  exact ⟨rfl, fun h => (regsWf_iff _).2 ⟨hw ((regsWf_iff _).1 h).1, wordsCanon_nil⟩, fun _ => rfl, fusesKept_refl _⟩

theorem execPorstAssert_answers {s} : Answers (writes (.porstAssert )) s (execPorstAssert s) := by
  unfold execPorstAssert
  exact .next porAssert_evolves.mono

theorem execRunSupplyLoss_answers {which s} : Answers (writes (.runSupplyLoss which)) s (execRunSupplyLoss which s) := by
  unfold execRunSupplyLoss
  exact .trans (.ite .refl porAssert_evolves.mono) (.next (.trans raise_evolves.mono lower_evolves.mono))

theorem execVauxHoldLoss_answers {s} : Answers (writes (.vauxHoldLoss )) s (execVauxHoldLoss s) := by
  unfold execVauxHoldLoss
  exact .next porAssert_evolves.mono

theorem execPorRelease_answers {ovc cpos smba test refclk s} :
    Answers (writes (.porRelease ovc cpos smba test refclk)) s (execPorRelease ovc cpos smba test refclk s) := by
  unfold execPorRelease
  exact .ite
    (.trans (.ite raise_evolves.mono .refl) (.trans .set_top_tb_ph_quad (.trans wrN_evolves.mono (.next (.forEach fun _ _ => raise_evolves.mono)))))
    (.next .refl)

theorem clocksUp_evolves {s} : Evolves { regs := true } s (clocksUp s) := by
  unfold clocksUp
  exact .forEach fun _ _ => .ite .refl setF_evolves.mono

theorem regsFresh_evolves {s} : Evolves { regs := true, active := true, top := true, recd := true, img := true, nvs := true } s (regsFresh s) := by
  unfold regsFresh
  exact .trans regsFilter_evolves.mono (.putWords fun hr _ => ⟨hr, wordsCanon_nil⟩)

theorem execPowerOnSequenceDone_answers {secOk idOk s} :
    Answers (writes (.powerOnSequenceDone secOk idOk)) s (execPowerOnSequenceDone secOk idOk s) := by
  unfold execPowerOnSequenceDone
  exact .ite
    (.trans
       (.trans (.trans (.trans (.trans fuseAbort_evolves.mono regsFresh_evolves.mono) clocksUp_evolves.mono) fuseRead_evolves.mono)
          (holdReset_evolves.mono))
       (.trans secBoot_evolves.mono
          (.trans (.ite raise_evolves.mono .refl) (.trans (.trans .set_nvs phasesMid_evolves.mono) (.next resetInto_evolves.mono)))))
    (.next .refl)

theorem execDecafOvervoltage_answers {chan mv s} : Answers (writes (.decafOvervoltage chan mv)) s (execDecafOvervoltage chan mv s) := by
  unfold execDecafOvervoltage
  exact .ite
    (.trans raise_evolves.mono
       (.trans (.trans protEntry_evolves.mono lifeUp_evolves.mono) (.next (.trans crowbarOn_evolves.mono haltEntry_evolves.mono))))
    (.next .refl)

theorem execVinArmed_answers {mv s} : Answers (writes (.vinArmed mv)) s (execVinArmed mv s) := by
  unfold execVinArmed
  exact .ite (.next .refl) (.trans supRead_evolves.mono (.ite (.next (.trans pmRefresh_evolves.mono raise_evolves.mono)) (.next .refl)))

theorem rstResult_evolves {s r} : Evolves { regs := true } s (rstResult s r) := by
  unfold rstResult
  exact setF_evolves.mono

theorem rstEntry_evolves {s level result} : Evolves { regs := true, drain := true, recd := true } s (rstEntry s level result) := by
  unfold rstEntry
  exact record_evolves.mono

theorem rstRefuse_evolves {s level result} : Evolves { regs := true, drain := true, recd := true } s (rstRefuse s level result) := by
  unfold rstRefuse
  exact .trans rstResult_evolves.mono rstEntry_evolves.mono

theorem rstStops_evolves {s level} :
    Evolves { regs := true, top := true, drain := true, recd := true, img := true, fab := true, dom := true, sec := true, freeCtr := true } s
                (rstStops s level) := by
  unfold rstStops
  exact .trans (.trans rstResult_evolves.mono fuseAbort_evolves.mono)
    (.trans (.ite (.trans (.trans cancelAllCommits_evolves.mono domCancel_evolves.mono) loadAbort_evolves.mono) .refl) (.ite .set_fab .refl))

theorem rstBegin_evolves {s level smbus} :
    Evolves { regs := true, top := true, drain := true, recd := true, ch := true, ph := true, pb := true, fq := true, img := true, fab := true,
                tvl := true, dom := true, est := true, sec := true, freeCtr := true } s (rstBegin s level smbus) := by
  unfold rstBegin
  exact .trans rstStops_evolves.mono (.trans .set_top (.ite (.trans .set_top dischargeAll_evolves.mono) .refl))

theorem rstJoin_evolves {s r level} :
    Evolves { regs := true, top := true, drain := true, recd := true, img := true, fab := true, dom := true, sec := true, freeCtr := true } s
                (rstJoin s r level) := by
  unfold rstJoin
  exact .trans rstStops_evolves.mono .set_top

theorem rstAgain_evolves {s smbus level r} :
    Evolves { regs := true, top := true, drain := true, recd := true, ch := true, ph := true, pb := true, fq := true, img := true, fab := true,
                tvl := true, dom := true, est := true, sec := true, freeCtr := true } s (rstAgain s smbus level r) := by
  unfold rstAgain
  exact .ite (.trans (.ite rstEntry_evolves.mono .refl) (.trans .set_top rstResult_evolves.mono))
    (.ite
       (by
          split
          exacts [rstRefuse_evolves.mono,
            .ite rstJoin_evolves.mono (.trans (.forEach fun _ _ => rstEntry_evolves.mono) rstBegin_evolves.mono)]) rstRefuse_evolves.mono)

theorem resetRequest_evolves {s smbus level key} :
    Evolves { regs := true, top := true, drain := true, recd := true, ch := true, ph := true, pb := true, fq := true, img := true, fab := true,
                tvl := true, dom := true, est := true, sec := true, freeCtr := true } s (resetRequest s smbus level key) := by
  unfold resetRequest
  exact .trans setF_evolves.mono
    (.ite rstRefuse_evolves.mono
       (by
          split
          exacts [rstAgain_evolves.mono,
            .ite rstRefuse_evolves.mono
              (by
                 split
                 exacts [rstRefuse_evolves.mono,
                   rstBegin_evolves.mono])]))

theorem rstDone_evolves {s level f} : Evolves { regs := true, drain := true, recd := true } s (rstDone s level f) := by
  unfold rstDone
  exact .trans (.trans raise_evolves.mono rstResult_evolves.mono) rstEntry_evolves.mono

theorem rstLast_evolves {s r} : Evolves { regs := true } s (rstLast s r) := by
  unfold rstLast
  exact .trans setF_evolves.mono setF_evolves.mono

theorem execMgmtResetTakeEffect_answers {s} : Answers (writes (.mgmtResetTakeEffect )) s (execMgmtResetTakeEffect s) := by
  unfold execMgmtResetTakeEffect
  split
  · exact .ite (.next .set_top) (.next .refl)
  · exact .next .refl

theorem execDeviceResetEnd_answers {secOk idOk s} : Answers (writes (.deviceResetEnd secOk idOk)) s (execDeviceResetEnd secOk idOk s) := by
  unfold execDeviceResetEnd
  split
  · exact .ite (.next (.trans (.trans rstLast_evolves.mono deviceReset_evolves.mono) rstDone_evolves.mono)) (.next .refl)
  · exact .next .refl

theorem execWarmResetEnd_answers {s} : Answers (writes (.warmResetEnd )) s (execWarmResetEnd s) := by
  unfold execWarmResetEnd
  split
  · exact .ite (.next (.trans (.trans rstLast_evolves.mono warmReset_evolves.mono) rstDone_evolves.mono)) (.next .refl)
  · exact .next .refl

theorem planeEnd_evolves {s level} :
    Evolves { regs := true, drain := true, bt := true, recd := true, tb := true, ch := true, ph := true, pb := true, fq := true, img := true,
                nvs := true, fwc := true, fab := true, tvl := true, dom := true, est := true, cap := true, hir := true, sbm := true } s (planeEnd s
                level) := by
  unfold planeEnd
  exact .ite (.trans (.trans pmRefresh_evolves.mono ctlReset_evolves.mono) rstDone_evolves.mono)
    (.ite (.trans (.trans pmRefresh_evolves.mono dataReset_evolves.mono) rstDone_evolves.mono) (.trans mgmtReset_evolves.mono rstDone_evolves.mono))

theorem execPlaneResetEnd_answers {s} : Answers (writes (.planeResetEnd )) s (execPlaneResetEnd s) := by
  unfold execPlaneResetEnd
  split
  · exact .ite (.next .refl) (.trans .set_top (.next (.forEach fun _ _ => planeEnd_evolves.mono)))
  · exact .next .refl

theorem execDischargeLimitExpiry_answers {s} : Answers (writes (.dischargeLimitExpiry )) s (execDischargeLimitExpiry s) := by
  unfold execDischargeLimitExpiry
  split
  · exact .next .refl
  · exact .trans reach_evolves.mono
      (.trans .set_top
         (.trans (.forEach fun _ _ => .trans railOff_evolves.mono raise_evolves.mono) (.trans record_evolves.mono (.next disDone_evolves.mono))))

theorem hostStop_evolves {s err} : Evolves { regs := true, hir := true } s (hostStop s err) := by
  unfold hostStop
  exact .trans ringsStop_evolves.mono wr_evolves.mono

theorem vectorsClear_evolves {s} : Evolves { hir := true } s (vectorsClear s) := by
  unfold vectorsClear
  exact setHir_evolves.mono

theorem execPciePerst_answers {s} : Answers (writes (.pciePerst )) s (execPciePerst s) := by
  unfold execPciePerst
  exact .ite (.next .set_top)
    (.trans (.trans .set_top hostStop_evolves.mono) (.trans (.trans vectorsClear_evolves.mono setHir_evolves.mono) (.next raise_evolves.mono)))

theorem execPciePerstRelease_answers {s} : Answers (writes (.pciePerstRelease )) s (execPciePerstRelease s) := by
  unfold execPciePerstRelease
  exact .next .set_top

theorem execHotReset_answers {s} : Answers (writes (.hotReset )) s (execHotReset s) := by
  unfold execHotReset
  exact .ite (.next (.trans (.trans hostStop_evolves.mono vectorsClear_evolves.mono) setHir_evolves.mono)) (.next .refl)

theorem execFlr_answers {fn s} : Answers (writes (.flr fn)) s (execFlr fn s) := by
  unfold execFlr
  exact .ite (.next .refl)
    (.ite (.next (.trans (.trans hostStop_evolves.mono vectorsClear_evolves.mono) setHir_evolves.mono))
       (.next (.trans fnStop_evolves.mono setHir_evolves.mono)))

theorem startResult_evolves {s r} : Evolves { regs := true } s (startResult s r) := by
  unfold startResult
  exact setF_evolves.mono

theorem startGo_evolves {s auto} :
    Evolves { regs := true, top := true, drain := true, recd := true, ch := true, ph := true, quad := true, nvs := true, fab := true, est := true }
                s (startGo s auto) := by
  unfold startGo
  exact .trans (.trans startResult_evolves.mono setF_evolves.mono)
    (.trans record_evolves.mono (.ite (.trans (.trans .set_top_est stagesDue_evolves.mono) maybeRun_evolves.mono) .refl))

theorem startStop_evolves {s} :
    Evolves { regs := true, top := true, drain := true, recd := true, ch := true, ph := true, pb := true, fq := true, nvs := true, tvl := true,
                est := true } s (startStop s) := by
  unfold startStop
  exact .ite (.trans (.trans .set_top startResult_evolves.mono) (.trans dischargeAll_evolves.mono (.ite disDone_evolves.mono .refl))) .refl

theorem execStartStage_answers {s} : Answers (writes (.startStage )) s (execStartStage s) := by
  unfold execStartStage
  split
  · exact .ite (.trans reach_evolves.mono (.next (.trans (.trans beginStage_evolves.mono stagesDue_evolves.mono) maybeRun_evolves.mono))) (.next .refl)
  · exact .next .refl

theorem execBrownoutExit_answers {vin vaux secOk idOk s} :
    Answers (writes (.brownoutExit vin vaux secOk idOk)) s (execBrownoutExit vin vaux secOk idOk s) := by
  unfold execBrownoutExit
  exact .trans (.trans supRead_evolves.mono supRead_evolves.mono)
    (.ite
       (.trans (.trans pmRefresh_evolves.mono raise_evolves.mono)
          (.trans (.trans (.trans lower_evolves.mono lower_evolves.mono) lower_evolves.mono)
             (.trans .set_top
                (.ite
                   (.trans (.ite raise_evolves.mono .refl)
                      (.trans (.ite (.trans clocksUp_evolves.mono .set_nvs) .refl)
                         (.trans (.trans (.trans cancelAllCommits_evolves.mono domCancel_evolves.mono) rstLast_evolves.mono)
                            (.next (.trans deviceReset_evolves.mono rstDone_evolves.mono)))))
                   (.ite (.next enterState_evolves.mono) (.trans resetInto_evolves.mono (.ite (.next startGo_evolves.mono) (.next .refl))))))))
       (.next .refl))

/-! ## Access -/

theorem hostTimeout_evolves {s write} : Evolves { regs := true, resp := true } s (hostTimeout s write) := by
  unfold hostTimeout
  exact .trans .set_resp raise_evolves.mono

theorem wideRead_evolves {s who peek lo hi off} : Evolves { top := true } s (wideRead s who peek lo hi off).2 := by
  unfold wideRead
  split
  · dsimp only
    exact setClass_evolves.mono
  split
  · split
    · dsimp only
      exact setClass_evolves.mono
    · exact .refl
  · exact .refl

theorem readReg.go_evolves {who off s} :
    Evolves { regs := true, top := true, drain := true, recd := true, ch := true, ph := true, quad := true, pb := true, fq := true, img := true,
                nvs := true, integ := true, fab := true, tvl := true, est := true, sbm := true, resp := true } s (readReg.go who off s) := by
  unfold readReg.go
  refine .trans (t := (wideRead s who (readWord s who) (wideLo off) (decide (4 ≤ off) && wideLo (off - 4)) off).2) wideRead_evolves.mono ?_
  generalize wideRead s who (readWord s who) (wideLo off) (decide (4 ≤ off) && wideLo (off - 4)) off = p
  obtain ⟨v, t⟩ := p
  dsimp -zeta only
  extract_lets s1 sel s2 s3
  refine .trans (t := s1) .set_resp (.trans (t := s2) (.ite activeDbe_evolves.mono .refl) ?_)
  clear_value s2
  refine .trans (t := s3) ?_ ?_
  · unfold s3
    split
    · exact dlqPop_evolves.mono
    · exact .refl
  · split
    · exact .ite wr_evolves.mono .refl
    · exact .refl

theorem readReg_evolves {s who off} :
    Evolves { regs := true, top := true, drain := true, recd := true, ch := true, ph := true, quad := true, pb := true, fq := true, img := true,
                nvs := true, integ := true, fab := true, tvl := true, est := true, sbm := true, resp := true } s (readReg s who off) := by
  unfold readReg
  refine .ite .set_resp (.ite hostTimeout_evolves.mono ?_)
  split
  · exact readReg.go_evolves.mono
  next fn _ =>
    exact .trans (t := (wideRead s (.host fn) (fun o => BitVec.ofNat 32 (vfRead s fn.val o)) (off == 0x1008) (off == 0x100C) off).2)
      wideRead_evolves.mono .set_resp
  · exact readReg.go_evolves.mono

theorem suppress_evolves {s who off owner} :
    Evolves { regs := true, top := true, drain := true, recd := true, fwc := true, resp := true } s (suppress s who off owner) := by
  unfold suppress
  extract_lets s1
  refine .trans (t := s1) (.ite raise_evolves.mono .refl) ?_
  split
  · exact coreViol_evolves.mono
  · exact .trans (.trans raise_evolves.mono bump_evolves.mono) (.trans record_evolves.mono .set_top_resp)
  · exact coreViol_evolves.mono
  · exact .trans coreViol_evolves.mono .set_resp

theorem ownerRefused_evolves {s off val} : Evolves { regs := true, drain := true, recd := true } s (ownerRefused s off val) := by
  unfold ownerRefused
  exact .ite (.trans commitResult_evolves.mono commitEntry_evolves.mono) .refl

theorem gated_evolves {s who off val act} {W : Blocks}
    (hW : Blocks.le { regs := true, top := true, drain := true, recd := true, fwc := true, resp := true } W = true)
    (h4 : ∀ t, Evolves W t (act t)) :
    Evolves W s (gated s who off val act) := by
  unfold gated
  exact .ite (.set_resp (Blocks.le_trans (by rfl) hW))
    (.ite (hostTimeout_evolves.via hW)
       (.trans (.set_resp (Blocks.le_trans (by rfl) hW))
          (by
             extract_lets
             split
             exacts [.ite .refl (.ite ((h4 ..)) (suppress_evolves.via hW)),
               by
                 split
                 exacts [(h4 ..),
                   .refl,
                   suppress_evolves.via hW,
                   .trans (suppress_evolves.via hW) (ownerRefused_evolves.via hW)]])))

/-! ## NvsCmd -/

theorem execPostmark_answers {s} : Answers (writes (.postmark )) s (execPostmark s) := by
  unfold execPostmark
  exact .trans reach_evolves.mono (.next (.trans grantCycle_evolves.mono pmRefresh_evolves.mono))

theorem execRecPostmarkCmd_answers {who val s} : Answers (writes (.recPostmarkCmd who val)) s (execRecPostmarkCmd who val s) := by
  unfold execRecPostmarkCmd
  exact .next (gated_evolves (hW := by rfl) (fun _ => .ite dueMark_evolves.mono .refl))

theorem recPut_evolves {s who m} : Evolves { regs := true, drain := true, recd := true } s (recPut s who m) := by
  unfold recPut
  exact .ite raise_evolves.mono stage_evolves.mono

theorem execRecPutGo_answers {who m val s} : Answers (writes (.recPutGo who m val)) s (execRecPutGo who m val s) := by
  unfold execRecPutGo
  exact .next (gated_evolves (hW := by rfl) (fun _ => .ite recPut_evolves.mono .refl))

theorem recTail_evolves {s v} : Evolves { recd := true } s (recTail s v) := by
  unfold recTail
  exact .set_recd

theorem spillSkip_evolves {s} : Evolves { regs := true, drain := true, recd := true } s (spillSkip s) := by
  unfold spillSkip
  exact .ite (.trans bumpBy_evolves.mono (.trans (.trans .set_recd raise_evolves.mono) record_evolves.mono)) .refl

theorem spillAbandon_evolves {s n} : Evolves { regs := true, recd := true } s (spillAbandon s n) := by
  unfold spillAbandon
  exact .trans .set_recd (.ite .refl (.trans bumpBy_evolves.mono raise_evolves.mono))

theorem execSpillWrite_answers {n bme abandoned ue s} :
    Answers (writes (.spillWrite n bme abandoned ue)) s (execSpillWrite n bme abandoned ue s) := by
  unfold execSpillWrite
  exact .next
    (.ite
       (.trans spillSkip_evolves.mono
          (.ite spillAbandon_evolves.mono
             (.trans
                (by
                   split
                   exacts [dmaUe_evolves.mono,
                     .refl]) (.trans .set_recd (.forEach fun _ _ => .set_recd))))) .refl)

theorem eraseNow_evolves {s n} : Evolves { regs := true, drain := true, recd := true, nvs := true } s (eraseNow s n) := by
  unfold eraseNow
  exact .trans eraseStart_evolves.mono
    (by
       extract_lets
       split
       exacts [eraseEnd_evolves.mono,
         .refl])

theorem execSectorEraseDone_answers {margin s} : Answers (writes (.sectorEraseDone margin)) s (execSectorEraseDone margin s) := by
  unfold execSectorEraseDone
  refine .next ?_
  split
  · exact .refl
  · exact .ite (.trans eraseEnd_evolves.mono eraseNext_evolves.mono)
      (.trans setSector_evolves.mono (.ite (.trans (.trans (.trans .set_nvs jPut_evolves.mono) retire_evolves.mono) eraseNext_evolves.mono) .refl))

theorem jRebuild_evolves {s} : Evolves { regs := true, drain := true, recd := true, nvs := true } s (jRebuild s) := by
  unfold jRebuild
  exact .trans .set_nvs
    (.trans
       (.trans (.trans (.trans .set_nvs (.trans setSector_evolves.mono eraseSaid_evolves.mono)) .set_nvs)
          (.trans setSector_evolves.mono eraseSaid_evolves.mono))
       (.trans (.trans nextJ_evolves.mono jRaw_evolves.mono) (.trans (.trans .set_nvs setF_evolves.mono) setF_evolves.mono)))

theorem jChoose_evolves {s} : Evolves { regs := true, drain := true, recd := true, nvs := true } s (jChoose s) := by
  unfold jChoose
  exact .trans setF_evolves.mono
    (by
       extract_lets
       split
       exacts [.set_nvs,
         .set_nvs,
         .set_nvs,
         jRebuild_evolves.mono])

theorem scanSector_evolves {s lost n} : Evolves { regs := true, drain := true, recd := true, nvs := true } s (scanSector s lost n) := by
  unfold scanSector
  exact .trans (.ite bump_evolves.mono .refl)
    (.ite jPut_evolves.mono (.ite (.trans (.trans eraseNow_evolves.mono bump_evolves.mono) (.trans raise_evolves.mono record_evolves.mono)) .refl))

theorem tailShow_evolves {s} : Evolves { regs := true } s (tailShow s) := by
  unfold tailShow
  split
  · exact .trans (.trans wr_evolves.mono wr_evolves.mono) wr_evolves.mono
  · exact .trans wrN_evolves.mono wr64_evolves.mono

theorem tailFound_evolves {s a} : Evolves { regs := true, drain := true, recd := true } s (tailFound s a) := by
  unfold tailFound
  split
  · exact .refl
  · exact .trans raise_evolves.mono (.trans (.ite .refl raise_evolves.mono) record_evolves.mono)

theorem ownerRewrite_evolves {s} : Evolves { regs := true, drain := true, recd := true, nvs := true } s (ownerRewrite s) := by
  unfold ownerRewrite
  split
  · exact .ite .refl putRecord_evolves.mono
  · exact .refl

theorem lifeLoad_evolves {s} : Evolves { nvs := true } s (lifeLoad s) := by
  unfold lifeLoad
  exact .trans .set_nvs lifeUp_evolves.mono

theorem tailArm_evolves {s} : Evolves { regs := true, drain := true, recd := true, nvs := true } s (tailArm s) := by
  unfold tailArm
  exact .forEach fun _ _ => eraseAsk_evolves.mono

theorem scanRun_evolves {s} : Evolves { regs := true, drain := true, recd := true, nvs := true } s (scanRun s) := by
  unfold scanRun
  exact .trans (.trans wr_evolves.mono jChoose_evolves.mono)
    (.trans (.forEach fun _ _ => scanSector_evolves.mono)
       (.trans setF_evolves.mono
          (.trans (.trans (.trans tailShow_evolves.mono tailFound_evolves.mono) tailFound_evolves.mono)
             (.trans raise_evolves.mono
                (.trans (.trans .set_nvs raise_evolves.mono)
                   (.trans record_evolves.mono
                      (.trans (.trans (.trans ownerRewrite_evolves.mono lifeLoad_evolves.mono) putCounters_evolves.mono) tailArm_evolves.mono)))))))

theorem execNvsScanDone_answers {s} : Answers (writes (.nvsScanDone )) s (execNvsScanDone s) := by
  unfold execNvsScanDone
  exact .next (.ite scanRun_evolves.mono .refl)

theorem execTailCommitDone_answers {ok done s} : Answers (writes (.tailCommitDone ok done)) s (execTailCommitDone ok done s) := by
  unfold execTailCommitDone
  exact .next (.ite tailEnd_evolves.mono (.trans tailEnd_evolves.mono (.ite .refl record_evolves.mono)))

theorem nvRefuse_evolves {s result sector} : Evolves { regs := true, drain := true, recd := true } s (nvRefuse s result sector) := by
  unfold nvRefuse
  exact .trans setF_evolves.mono (.trans raise_evolves.mono record_evolves.mono)

theorem nvGo_evolves {s op kind} : Evolves { regs := true, drain := true, recd := true, nvs := true } s (nvGo s op kind) := by
  unfold nvGo
  exact .ite nvRefuse_evolves.mono (.ite (.trans .set_nvs setF_evolves.mono) nvRefuse_evolves.mono)

theorem nvCmdWrite_evolves {s val} : Evolves { regs := true, drain := true, recd := true, nvs := true } s (nvCmdWrite s val) := by
  unfold nvCmdWrite
  exact .ite nvGo_evolves.mono .refl

theorem nvRow_evolves {s who op kind} :
    Evolves { regs := true, top := true, drain := true, recd := true, nvs := true, fwc := true, resp := true } s (nvRow s who op kind) := by
  unfold nvRow
  exact gated_evolves (hW := by rfl) (fun _ => nvGo_evolves.mono)

theorem execAppend_answers {who kind s} : Answers (writes (.append who kind)) s (execAppend who kind s) := by
  unfold execAppend
  exact .next nvRow_evolves.mono

theorem execRead_answers {who kind s} : Answers (writes (.read who kind)) s (execRead who kind s) := by
  unfold execRead
  exact .next nvRow_evolves.mono

theorem execReadTail_answers {who s} : Answers (writes (.readTail who)) s (execReadTail who s) := by
  unfold execReadTail
  exact .next nvRow_evolves.mono

theorem execReleaseTail_answers {who s} : Answers (writes (.releaseTail who)) s (execReleaseTail who s) := by
  unfold execReleaseTail
  exact .next nvRow_evolves.mono

theorem execCountersNow_answers {who s} : Answers (writes (.countersNow who)) s (execCountersNow who s) := by
  unfold execCountersNow
  exact .next nvRow_evolves.mono

theorem nvDone_evolves {s gen} : Evolves { regs := true, nvs := true } s (nvDone s gen) := by
  unfold nvDone
  exact .trans setF_evolves.mono nvCmdEnd_evolves.mono

theorem appendDone_evolves {s c ok} : Evolves { regs := true, drain := true, recd := true, nvs := true } s (appendDone s c ok) := by
  unfold appendDone
  exact .ite (.trans putRecord_evolves.mono nvDone_evolves.mono)
    (.trans burnUnits_evolves.mono (.ite nvCmdFail_evolves.mono (.ite nvCmdFail_evolves.mono .set_nvs)))

theorem readDone_evolves {s c ok} : Evolves { regs := true, drain := true, recd := true, nvs := true, fwc := true } s (readDone s c ok) := by
  unfold readDone
  generalize areaOf c.kind = a
  obtain ⟨first, n⟩ := a
  dsimp -zeta only
  extract_lets l r r'
  clear_value r'
  split
  · exact .trans memWrite_evolves.mono nvDone_evolves.mono
  · exact nvCmdFail_evolves.mono

theorem execNvsCommandDone_answers {ok s} : Answers (writes (.nvsCommandDone ok)) s (execNvsCommandDone ok s) := by
  unfold execNvsCommandDone
  refine .next ?_
  split
  · exact .refl
  · exact .ite appendDone_evolves.mono
      (.ite readDone_evolves.mono
         (.ite (.trans putCounters_evolves.mono nvDone_evolves.mono)
            (by
               split
               exacts [nvCmdFail_evolves.mono,
                 .ite (.trans memWrite_evolves.mono nvDone_evolves.mono)
                   (.trans jPut_evolves.mono (.trans tailShow_evolves.mono nvDone_evolves.mono))])))

theorem execCountersWrite_answers {s} : Answers (writes (.countersWrite )) s (execCountersWrite s) := by
  unfold execCountersWrite
  exact .next (.ite (.trans reach_evolves.mono putCounters_evolves.mono) .refl)

/-! ## SecCmd -/

theorem fuseResult_evolves {s r} : Evolves { regs := true } s (fuseResult s r) := by
  unfold fuseResult
  exact setF_evolves.mono

theorem setArm_evolves {s a} : Evolves { sec := true } s (setArm s a) := by
  unfold setArm
  exact .set_sec

theorem fuseCtl_evolves {s val} : Evolves { regs := true, drain := true, recd := true, sec := true } s (fuseCtl s val) := by
  unfold fuseCtl
  exact .ite (.trans setArm_evolves.mono fuseResult_evolves.mono)
    (.ite
       (by
          extract_lets
          split
          exacts [fuseEnd_evolves.mono,
            .trans setArm_evolves.mono (.ite fuseResult_evolves.mono (.ite (.trans .set_sec fuseResult_evolves.mono) fuseEnd_evolves.mono))])
       (.trans setArm_evolves.mono fuseResult_evolves.mono))

theorem fuseRow_evolves {s who op arg go} :
    Evolves { regs := true, top := true, drain := true, recd := true, fwc := true, sec := true, resp := true } s (fuseRow s who op arg go) := by
  unfold fuseRow
  exact gated_evolves (hW := by rfl) (fun _ => fuseCtl_evolves.mono)

theorem execFuseArm_answers {who op arg s} : Answers (writes (.fuseArm who op arg)) s (execFuseArm who op arg s) := by
  unfold execFuseArm
  exact .next fuseRow_evolves.mono

theorem execOwnerHash_answers {who arg s} : Answers (writes (.ownerHash who arg)) s (execOwnerHash who arg s) := by
  unfold execOwnerHash
  exact .next fuseRow_evolves.mono

theorem execOwnerRevoke_answers {who arg s} : Answers (writes (.ownerRevoke who arg)) s (execOwnerRevoke who arg s) := by
  unfold execOwnerRevoke
  exact .next fuseRow_evolves.mono

theorem execRootDisable_answers {who arg s} : Answers (writes (.rootDisable who arg)) s (execRootDisable who arg s) := by
  unfold execRootDisable
  exact .next fuseRow_evolves.mono

theorem execImgRb_answers {who arg s} : Answers (writes (.imgRb who arg)) s (execImgRb who arg s) := by
  unfold execImgRb
  exact .next fuseRow_evolves.mono

theorem execFwRb_answers {who arg s} : Answers (writes (.fwRb who arg)) s (execFwRb who arg s) := by
  unfold execFwRb
  exact .next fuseRow_evolves.mono

theorem execDebugOff_answers {who arg s} : Answers (writes (.debugOff who arg)) s (execDebugOff who arg s) := by
  unfold execDebugOff
  exact .next fuseRow_evolves.mono

theorem execBound_answers {who arg s} : Answers (writes (.bound who arg)) s (execBound who arg s) := by
  unfold execBound
  exact .next fuseRow_evolves.mono

theorem execFuseOperationDone_answers {ok s} : Answers (writes (.fuseOperationDone ok)) s (execFuseOperationDone ok s) := by
  unfold execFuseOperationDone
  refine .next ?_
  split
  · exact .refl
  · exact .trans (.ite (.trans fuseWhole_evolves.mono fuseStop_evolves.mono) (.trans fusePart_evolves.mono fuseStop_evolves.mono))
      (.ite putRecord_evolves.mono .refl)

theorem nonceNew_evolves {s} : Evolves { regs := true, sec := true, freeCtr := true } s (nonceNew s).2 := by
  unfold nonceNew
  refine .trans (t := (drawNat s (2 ^ 256)).2) drawNat_evolves.mono ?_
  generalize drawNat s (2 ^ 256) = p
  obtain ⟨n, t⟩ := p
  refine .trans (.forEach (l := List.range 8) (f := fun s k => wrN s (Reg.SEC_DBG_NONCE k) (leAt (leBytes 32 n) (4 * k) 4))
    fun _ _ => wrN_evolves.mono) ?_
  exact .ite .set_sec .set_sec

theorem tokenSubmit_evolves {s t fetchErr} : Evolves { sec := true } s (tokenSubmit s t fetchErr) := by
  unfold tokenSubmit
  split
  · exact .set_sec
  · exact .set_sec

theorem execDebugTokenVerified_answers {s} : Answers (writes (.debugTokenVerified )) s (execDebugTokenVerified s) := by
  unfold execDebugTokenVerified
  refine .next ?_
  split
  · exact .refl
  · exact .trans (.trans .set_sec setF_evolves.mono)
      (.ite (.trans .set_sec (.trans raise_evolves.mono record_evolves.mono)) (.trans raise_evolves.mono record_evolves.mono))

theorem dbgSubmit_evolves {s src got} : Evolves { top := true, sec := true } s (dbgSubmit s src got) := by
  generalize hf : dbgSubmit = f
  delta dbgSubmit at hf
  subst hf
  beta_reduce
  extract_lets addr
  clear_value addr
  split
  · exact tokenSubmit_evolves.mono
  · refine .trans (t := if srcOk src addr tokenLen then fetchAer s src got else s) (.ite fetchAer_evolves.mono .refl) ?_
    exact tokenSubmit_evolves.mono

theorem dbgLock_evolves {s} : Evolves { sec := true } s (dbgLock s) := by
  unfold dbgLock
  exact .set_sec

theorem dbgCtl_evolves {s val got} : Evolves { regs := true, top := true, sec := true, freeCtr := true } s (dbgCtl s val got) := by
  unfold dbgCtl
  exact .trans (.ite nonceNew_evolves.mono .refl) (.trans (.ite dbgSubmit_evolves.mono .refl) (.ite dbgLock_evolves.mono .refl))

theorem execNonce_answers {who s} : Answers (writes (.nonce who)) s (execNonce who s) := by
  unfold execNonce
  exact .next (gated_evolves (hW := by rfl) (fun _ => nonceNew_evolves.mono))

theorem execSubmit_answers {who src got s} : Answers (writes (.submit who src got)) s (execSubmit who src got s) := by
  unfold execSubmit
  exact .next (gated_evolves (hW := by rfl) (fun _ => dbgSubmit_evolves.mono))

theorem execLock_answers {who s} : Answers (writes (.lock who)) s (execLock who s) := by
  unfold execLock
  exact .next (gated_evolves (hW := by rfl) (fun _ => dbgLock_evolves.mono))

theorem secDown_evolves {s} :
    Evolves { regs := true, drain := true, recd := true, img := true, fwc := true, sbm := true, sec := true, freeCtr := true } s (secDown s) := by
  unfold secDown
  exact .trans fuseAbort_evolves.mono
    (.trans (.ite ldEnd_evolves.mono .refl) (.trans (.ite loadAbort_evolves.mono .refl) (.trans .set_sec setSbm_evolves.mono)))

theorem execSecWatchdog_answers {s} : Answers (writes (.secWatchdog )) s (execSecWatchdog s) := by
  unfold execSecWatchdog
  exact .next (.ite (.trans (.trans secDown_evolves.mono lower_evolves.mono) (.trans .set_fwc_sec (.trans raise_evolves.mono record_evolves.mono))) .refl)

theorem execSecRebootDone_answers {secOk idOk s} : Answers (writes (.secRebootDone secOk idOk)) s (execSecRebootDone secOk idOk s) := by
  unfold execSecRebootDone
  exact .next (.ite .refl (.trans pmRefresh_evolves.mono secBoot_evolves.mono))

/-! ## Rings -/

theorem hirFinish_evolves {s r c status detail result} : Evolves { hir := true } s (hirFinish s r c status detail result) := by
  unfold hirFinish
  exact setRing_evolves.mono

theorem ringCfgWrite_evolves {s r val} : Evolves { regs := true, hir := true } s (ringCfgWrite s r val) := by
  unfold ringCfgWrite
  exact .trans wrN_evolves.mono
    (.ite (.ite (.trans setRing_evolves.mono ownerSync_evolves.mono) setRing_evolves.mono)
       (.ite (.trans (.ite (.forEach fun _ _ => hirFinish_evolves.mono) .refl) (.trans setRing_evolves.mono ownerSync_evolves.mono))
          (ownerSync_evolves.mono)))

theorem execRingEnable_answers {who ring val s} : Answers (writes (.ringEnable who ring val)) s (execRingEnable who ring val s) := by
  unfold execRingEnable
  exact .next (gated_evolves (hW := by rfl) (fun _ => ringCfgWrite_evolves.mono))

theorem execRingDisable_answers {who ring s} : Answers (writes (.ringDisable who ring)) s (execRingDisable who ring s) := by
  unfold execRingDisable
  exact .next (gated_evolves (hW := by rfl) (fun _ => ringCfgWrite_evolves.mono))

theorem ringError_evolves {s r err off} : Evolves { regs := true, drain := true, recd := true, hir := true } s (ringError s r err off) := by
  unfold ringError
  exact .trans setRing_evolves.mono (.trans (.trans raise_evolves.mono record_evolves.mono) ownerSync_evolves.mono)

theorem sqDoorbell_evolves {s r v} : Evolves { regs := true, drain := true, recd := true, hir := true } s (sqDoorbell s r v) := by
  unfold sqDoorbell
  exact .ite .refl (.ite ringError_evolves.mono setRing_evolves.mono)

theorem cqDoorbell_evolves {s r v} : Evolves { regs := true, drain := true, recd := true, hir := true } s (cqDoorbell s r v) := by
  unfold cqDoorbell
  exact .ite .refl (.ite ringError_evolves.mono setRing_evolves.mono)

theorem execSqDoorbell_answers {who ring val s} : Answers (writes (.sqDoorbell who ring val)) s (execSqDoorbell who ring val s) := by
  unfold execSqDoorbell
  exact .next (gated_evolves (hW := by rfl) (fun _ => sqDoorbell_evolves.mono))

theorem execCqDoorbell_answers {who ring val s} : Answers (writes (.cqDoorbell who ring val)) s (execCqDoorbell who ring val s) := by
  unfold execCqDoorbell
  exact .next (gated_evolves (hW := by rfl) (fun _ => cqDoorbell_evolves.mono))

theorem execCommandFetch_answers {ring bad s} : Answers (writes (.commandFetch ring bad)) s (execCommandFetch ring bad s) := by
  unfold execCommandFetch
  exact .next (.ite (.trans setRing_evolves.mono (.ite hirFinish_evolves.mono .refl)) .refl)

theorem ringSignal_evolves {s r} : Evolves { hir := true } s (ringSignal s r) := by
  unfold ringSignal
  exact .trans setRing_evolves.mono (.ite signal_evolves.mono .refl)

theorem ringAgg_evolves {s r} : Evolves { hir := true } s (ringAgg s r) := by
  unfold ringAgg
  exact .ite (.trans setRing_evolves.mono (.ite ringSignal_evolves.mono .refl)) .refl

theorem cqAdvance_evolves {s r} : Evolves { regs := true, hir := true } s (cqAdvance s r) := by
  unfold cqAdvance
  exact .trans setRing_evolves.mono bump_evolves.mono

theorem hirPost_evolves {s r} : Evolves { regs := true, fwc := true, hir := true } s (hirPost s r) := by
  unfold hirPost
  split
  · exact .refl
  · exact .trans memWrite_evolves.mono
      (.trans (.trans setRing_evolves.mono cqAdvance_evolves.mono) (.trans (.ite .refl ringAgg_evolves.mono) (.ite setRing_evolves.mono .refl)))

theorem hirInvalid_evolves {s r} : Evolves { hir := true } s (hirInvalid s r) := by
  unfold hirInvalid
  split
  · exact .ite hirFinish_evolves.mono .refl
  · exact .refl

theorem execCompletionPost_answers {ring s} : Answers (writes (.completionPost ring)) s (execCompletionPost ring s) := by
  unfold execCompletionPost
  exact .next (.ite (.trans hirInvalid_evolves.mono hirPost_evolves.mono) .refl)

theorem execInterruptAggregationTimer_answers {ring s} :
    Answers (writes (.interruptAggregationTimer ring)) s (execInterruptAggregationTimer ring s) := by
  unfold execInterruptAggregationTimer
  exact .next (.ite (.trans reach_evolves.mono ringSignal_evolves.mono) .refl)

theorem telMissed_evolves {s r} : Evolves { regs := true, drain := true, hir := true } s (telMissed s r) := by
  unfold telMissed
  exact .trans setRing_evolves.mono (.trans (.trans bump_evolves.mono raise_evolves.mono) sinkTake_evolves.mono)

theorem telWrite_evolves {s r kind i ok} : Evolves { regs := true, drain := true, hir := true } s (telWrite s r kind i ok) := by
  unfold telWrite
  exact .ite telMissed_evolves.mono (.trans setHir_evolves.mono (.trans (.trans setRing_evolves.mono cqAdvance_evolves.mono) ringAgg_evolves.mono))

theorem execTelemetrySample_answers {ring ok ue s} : Answers (writes (.telemetrySample ring ok ue)) s (execTelemetrySample ring ok ue s) := by
  unfold execTelemetrySample
  exact .next
    (.ite
       (.trans reach_evolves.mono
          (by
             extract_lets
             split
             exacts [.trans (.trans dmaUe_evolves.mono telMissed_evolves.mono) (.forEach fun _ _ => telWrite_evolves.mono),
               .forEach fun _ _ => telWrite_evolves.mono])) .refl)

theorem execDmaWriteAbandon_answers {ring n s} : Answers (writes (.dmaWriteAbandon ring n)) s (execDmaWriteAbandon ring n s) := by
  unfold execDmaWriteAbandon
  refine .next ?_
  split
  · exact .ite telMissed_evolves.mono .refl
  · exact .ite spillAbandon_evolves.mono .refl

theorem execVfDisable_answers {vfs s} : Answers (writes (.vfDisable vfs)) s (execVfDisable vfs s) := by
  unfold execVfDisable
  exact .next (.ite (.trans (.trans setHir_evolves.mono (.forEach fun _ _ => fnStop_evolves.mono)) ownerSync_evolves.mono) .refl)

theorem execHostWindow2Write_answers {fn off io s} : Answers (writes (.hostWindow2Write fn off io)) s (execHostWindow2Write fn off io s) := by
  unfold execHostWindow2Write
  refine .next ?_
  extract_lets
  split
  · exact .ite .set_resp (.ite hostTimeout_evolves.mono (.ite (.trans .set_resp memWrite_evolves.mono) suppress_evolves.mono))
  · exact .ite .set_resp (.ite hostTimeout_evolves.mono .set_resp)
  · exact .ite .set_resp (.ite hostTimeout_evolves.mono (.ite (.trans memUe_evolves.mono .set_top_resp) .set_resp))

theorem execHostRequestTimeout_answers {fn write s} : Answers (writes (.hostRequestTimeout fn write)) s (execHostRequestTimeout fn write s) := by
  unfold execHostRequestTimeout
  exact .next (.ite hostTimeout_evolves.mono .refl)

theorem crossLost_evolves {s x1} :
    Evolves { regs := true, top := true, drain := true, recd := true, pb := true, fq := true, tvl := true } s (crossLost s x1) := by
  unfold crossLost
  split
  · exact .trans wrN_evolves.mono commitRefuse_evolves.mono
  · exact .refl
  · exact postlineBad_evolves.mono
  · exact frameArrive_evolves.mono
  · exact cellReceive_evolves.mono
  · exact .set_top
  · exact dropRecord_evolves.mono
  · exact .refl

theorem execCrossingParityError_answers {unit item more s} :
    Answers (writes (.crossingParityError unit item more)) s (execCrossingParityError unit item more s) := by
  unfold execCrossingParityError
  exact .trans (.trans raise_evolves.mono bumpBy_evolves.mono) (.trans boundaryFail_evolves.mono (.next (.ite .refl crossLost_evolves.mono)))

theorem execDrainStatusExpiry_answers {rank s} : Answers (writes (.drainStatusExpiry rank)) s (execDrainStatusExpiry rank s) := by
  unfold execDrainStatusExpiry
  refine .next ?_
  split
  · exact .refl
  · exact .trans reach_evolves.mono (.trans .set_drain setF_evolves.mono)

/-! ## TimeBase -/

theorem execCaptureEvent_answers {src falling ns inStep s} :
    Answers (writes (.captureEvent src falling ns inStep)) s (execCaptureEvent src falling ns inStep s) := by
  unfold execCaptureEvent
  exact .next capture_evolves.mono

theorem execPpsPulse_answers {s} : Answers (writes (.ppsPulse )) s (execPpsPulse s) := by
  unfold execPpsPulse
  exact .ite (.trans (.trans reach_evolves.mono setTb_evolves.mono) (.next (.trans capture_evolves.mono capture_evolves.mono))) (.next .refl)

theorem execSyncInterval_answers {s} : Answers (writes (.syncInterval )) s (execSyncInterval s) := by
  unfold execSyncInterval
  exact .next (.forEach fun _ _ => .trans .set_tvl postPeer_evolves.mono)

theorem execSync_answers {lane xid t1 t2 s} : Answers (writes (.sync lane xid t1 t2)) s (execSync lane xid t1 t2 s) := by
  unfold execSync
  exact .trans takeRx_evolves.mono (.ite (.trans setTb_evolves.mono (.next postPeer_evolves.mono)) (.next .refl))

theorem execSyncResp_answers {lane xid t4 s} : Answers (writes (.syncResp lane xid t4)) s (execSyncResp lane xid t4 s) := by
  unfold execSyncResp
  exact .trans takeRx_evolves.mono (.ite (.next postPeer_evolves.mono) (.next .refl))

theorem execSyncFin_answers {lane xid t4 s} : Answers (writes (.syncFin lane xid t4)) s (execSyncFin lane xid t4 s) := by
  unfold execSyncFin
  exact .trans takeRx_evolves.mono
    (by
       extract_lets
       split
       exacts [.next .refl,
         .ite
           (.trans setTb_evolves.mono
              (by
                 extract_lets
                 split
                 exacts [.next .refl,
                   .ite (.next tbServo_evolves.mono) (.next .refl)])) (.next .refl)])

theorem execHoldoverEntry_answers {s} : Answers (writes (.holdoverEntry )) s (execHoldoverEntry s) := by
  unfold execHoldoverEntry
  exact .ite (.next enterHoldover_evolves.mono) (.next .refl)

theorem execHoldoverLimit_answers {s} : Answers (writes (.holdoverLimit )) s (execHoldoverLimit s) := by
  unfold execHoldoverLimit
  exact .ite (.next (.trans reach_evolves.mono loseAlign_evolves.mono)) (.next .refl)

theorem execRateLimit_answers {s} : Answers (writes (.rateLimit )) s (execRateLimit s) := by
  unfold execRateLimit
  exact .ite (.next (.trans (.trans setTb_evolves.mono raise_evolves.mono) loseAlign_evolves.mono)) (.next .refl)

theorem execRefclkLoss_answers {s} : Answers (writes (.refclkLoss )) s (execRefclkLoss s) := by
  unfold execRefclkLoss
  exact .ite (.next .refl)
    (.trans (.trans lower_evolves.mono lower_evolves.mono)
       (.trans setTb_evolves.mono
          (.trans (.trans raise_evolves.mono clkFault_evolves.mono)
             (.trans (.ite (.trans .set_clk lower_evolves.mono) .refl) (.next ctlClockLost_evolves.mono)))))

theorem execPllCtlUnlock_answers {s} : Answers (writes (.pllCtlUnlock )) s (execPllCtlUnlock s) := by
  unfold execPllCtlUnlock
  exact .ite (.next .refl) (.next (.trans (.trans lower_evolves.mono clkFault_evolves.mono) ctlClockLost_evolves.mono))

theorem execRefclkResume_answers {s} : Answers (writes (.refclkResume )) s (execRefclkResume s) := by
  unfold execRefclkResume
  exact .ite (.next .refl)
    (.ite (.next setTb_evolves.mono)
       (.trans setTb_evolves.mono
          (.trans raise_evolves.mono
             (.trans (.ite enterAcquire_evolves.mono .refl)
                (.next (.trans (.trans cancelAllCommits_evolves.mono domCancel_evolves.mono) dueMark_evolves.mono))))))

theorem execRefclkOkRestored_answers {s} : Answers (writes (.refclkOkRestored )) s (execRefclkOkRestored s) := by
  unfold execRefclkOkRestored
  exact .ite (.next raise_evolves.mono) (.next .refl)

theorem execPllCtlRelock_answers {s} : Answers (writes (.pllCtlRelock )) s (execPllCtlRelock s) := by
  unfold execPllCtlRelock
  exact .ite (.next raise_evolves.mono) (.next .refl)

theorem execXtalFail_answers {what s} : Answers (writes (.xtalFail what)) s (execXtalFail what s) := by
  unfold execXtalFail
  exact .ite (.next .refl)
    (.trans (.trans (.trans setF_evolves.mono lower_evolves.mono) clkFault_evolves.mono)
       (.ite (.ite (.next (.trans .set_clk raise_evolves.mono)) (.next .set_clk)) (.next .refl)))

theorem fwOnPll_evolves {s} : Evolves { regs := true, clk := true } s (fwOnPll s) := by
  unfold fwOnPll
  exact .trans (.trans raise_evolves.mono raise_evolves.mono) (.trans .set_clk lower_evolves.mono)

theorem execClkFwSourceRestored_answers {pll s} : Answers (writes (.clkFwSourceRestored pll)) s (execClkFwSourceRestored pll s) := by
  unfold execClkFwSourceRestored
  exact .ite (.next .refl) (.ite (.next fwOnPll_evolves.mono) (.ite (.next (.trans .set_clk raise_evolves.mono)) (.next .refl)))

theorem clkFwReturn_evolves {s ok} : Evolves { regs := true, clk := true } s (clkFwReturn s ok) := by
  unfold clkFwReturn
  exact .ite fwOnPll_evolves.mono .refl

theorem execAonFault_answers {khz s} : Answers (writes (.aonFault khz)) s (execAonFault khz s) := by
  unfold execAonFault
  exact .ite (.next .refl)
    (.trans wrN_evolves.mono
       (.ite (.trans (.trans lower_evolves.mono clkFault_evolves.mono) (.next (.trans .set_top haltSwitched_evolves.mono)))
          (.next raise_evolves.mono)))

theorem execPcieRefclkLoss_answers {s} : Answers (writes (.pcieRefclkLoss )) s (execPcieRefclkLoss s) := by
  unfold execPcieRefclkLoss
  exact .ite (.next .refl) (.trans (.trans lower_evolves.mono clkFault_evolves.mono) (.next .set_top))

/-! ## Write -/

theorem clearRefused_evolves {s unit cause} : Evolves { regs := true, drain := true, recd := true } s (clearRefused s unit cause) := by
  unfold clearRefused
  exact .trans raise_evolves.mono record_evolves.mono

theorem crowbarOff_evolves {s r} : Evolves { ph := true, quad := true } s (crowbarOff s r) := by
  unfold crowbarOff
  exact .ite (.forEach fun _ _ => setPh_evolves.mono) (.trans (.forEach fun _ _ => setPh_evolves.mono) senLow_evolves.mono)

theorem chLatchClear_evolves {s pairs kind r} :
    Evolves { regs := true, drain := true, recd := true, ch := true, ph := true, quad := true, sbm := true } s (chLatchClear s pairs kind r) := by
  unfold chLatchClear
  exact .ite clearRefused_evolves.mono
    (.trans (.trans pmRefresh_evolves.mono lower_evolves.mono)
       (.ite (.trans (.trans crowbarOff_evolves.mono lower_evolves.mono) railOff_evolves.mono) (.ite setCh_evolves.mono .refl)))

theorem decafLatchClear_evolves {s pairs} :
    Evolves { regs := true, drain := true, recd := true, ph := true, quad := true } s (decafLatchClear s pairs) := by
  unfold decafLatchClear
  exact .ite clearRefused_evolves.mono (.trans lower_evolves.mono crowbarOff_evolves.mono)

theorem thermLatchClear_evolves {s bit} : Evolves { regs := true, drain := true, recd := true, sbm := true } s (thermLatchClear s bit) := by
  unfold thermLatchClear
  exact .ite clearRefused_evolves.mono (.trans (.trans pmRefresh_evolves.mono lower_evolves.mono) (.ite lower_evolves.mono .refl))

theorem protClear_evolves {s x therm v} :
    Evolves { regs := true, top := true, drain := true, recd := true, ch := true, ph := true, quad := true, sbm := true } s (protClear s x therm
                v) := by
  unfold protClear
  exact .ite
    (.trans
       (by
          split
          exacts [.set_top,
            .refl]) (.forEach fun _ _ => .ite decafLatchClear_evolves.mono thermLatchClear_evolves.mono))
    (.forEach fun _ _ => chLatchClear_evolves.mono)

theorem intAgain_evolves {s k} : Evolves { hir := true } s (intAgain s k) := by
  unfold intAgain
  exact .ite signal_evolves.mono .refl

theorem w1cWrite_evolves {x s0 off0 v} :
    Evolves { regs := true, top := true, drain := true, recd := true, ch := true, ph := true, quad := true, hir := true, sbm := true } s0 (w1cWrite
                x s0 off0 v) := by
  unfold w1cWrite
  extract_lets off shown s1 left
  refine .trans (t := s1) ?_ ?_
  · exact .ite protClear_evolves.mono (.ite protClear_evolves.mono (.trans (t := pmRefresh s0) pmRefresh_evolves.mono wrN_evolves.mono))
  · clear_value s1
    split
    · exact .ite intAgain_evolves.mono .refl
    · exact .refl

theorem holdWrite_evolves {s who off v} : Evolves { regs := true, integ := true, hir := true } s (holdWrite s who off v) := by
  unfold holdWrite
  exact .trans (.trans .set_integ wrN_evolves.mono)
    (by
       extract_lets
       split
       exacts [.ite setHir_evolves.mono .refl,
         .refl])

theorem lockWrite_evolves {s who off v} : Evolves { regs := true, drain := true, recd := true } s (lockWrite s who off v) := by
  unfold lockWrite
  exact .ite record_evolves.mono wrN_evolves.mono

theorem rangedWrite_evolves {s who off v ok} : Evolves { regs := true, drain := true, recd := true } s (rangedWrite s who off v ok) := by
  unfold rangedWrite
  exact .ite wrN_evolves.mono record_evolves.mono

theorem wideWrite_evolves {s who off v lo} : Evolves { regs := true, top := true, recd := true } s (wideWrite s who off v lo) := by
  unfold wideWrite
  exact .ite setClass_evolves.mono (.trans setClass_evolves.mono (.ite recTail_evolves.mono (.ite .set_recd (.trans wrN_evolves.mono wrN_evolves.mono))))

theorem rwWrite_evolves {s who off v} :
    Evolves { regs := true, top := true, drain := true, recd := true, hir := true } s (rwWrite s who off v) := by
  unfold rwWrite
  exact .ite wideWrite_evolves.mono
    (.ite wideWrite_evolves.mono
       (by
          split
          exacts [ringCfgWrite_evolves.mono,
            .ite rangedWrite_evolves.mono (.ite rangedWrite_evolves.mono wrN_evolves.mono)]))

theorem activeSel_evolves {s who v} : Evolves { top := true } s (activeSel s who v) := by
  unfold activeSel
  exact setClass_evolves.mono

theorem localWrite_evolves {s w v} : Evolves { bt := true } s (localWrite s w v) := by
  unfold localWrite
  exact .ite .refl setPendBt_evolves.mono

theorem commitCtl_evolves {x s v} :
    Evolves { regs := true, active := true, top := true, drain := true, recd := true, tb := true, ch := true, ph := true, quad := true, pb := true,
                fq := true, img := true, nvs := true, integ := true, fab := true, tvl := true, est := true, cap := true, sbm := true } s (commitCtl
                x s v) := by
  unfold commitCtl
  exact .ite .refl (.ite (.trans stagedErrors_evolves.mono commitRequest_evolves.mono) (.ite cancelMask_evolves.mono .refl))

theorem startCtl_evolves {s v} :
    Evolves { regs := true, top := true, drain := true, recd := true, ch := true, ph := true, quad := true, pb := true, fq := true, nvs := true,
                fab := true, tvl := true, est := true } s (startCtl s v) := by
  unfold startCtl
  exact .ite .refl (.ite startGo_evolves.mono (.ite startStop_evolves.mono .refl))

theorem imageCtl_evolves {s who v} : Evolves { regs := true, top := true, drain := true, recd := true, img := true } s (imageCtl s who v) := by
  unfold imageCtl
  exact .ite .refl (.ite imageGo_evolves.mono (.ite imageAbort_evolves.mono .refl))

theorem fwLdCtl_evolves {s v} :
    Evolves { regs := true, drain := true, recd := true, pb := true, fq := true, img := true, fwc := true, cap := true, freeCtr := true } s
                (fwLdCtl s v) := by
  unfold fwLdCtl
  exact .ite .refl (.ite fwGo_evolves.mono (.ite fwAbort_evolves.mono .refl))

theorem kick_evolves {s n} : Evolves { fwc := true } s (kick s n) := by
  unfold kick
  exact .ite setCore_evolves .refl

theorem selfCtl_evolves {s n v} :
    Evolves { regs := true, drain := true, recd := true, pb := true, fq := true, img := true, fwc := true, cap := true, freeCtr := true } s
                (selfCtl s n v) := by
  unfold selfCtl
  exact .trans (.ite setReady_evolves.mono .refl) (.trans (.ite kick_evolves.mono .refl) (.ite restartAsked_evolves.mono .refl))

theorem coreRel_evolves {s n} :
    Evolves { regs := true, drain := true, recd := true, pb := true, fq := true, fwc := true, cap := true } s (coreRel s n) := by
  unfold coreRel
  exact .ite coreRelease_evolves.mono .refl

theorem coreRst_evolves {s n} :
    Evolves { regs := true, drain := true, recd := true, pb := true, fq := true, img := true, fwc := true, cap := true, freeCtr := true } s
                (coreRst s n) := by
  unfold coreRst
  exact .ite restartAsked_evolves.mono .refl

theorem coreCtl_evolves {s n v} :
    Evolves { regs := true, drain := true, recd := true, pb := true, fq := true, img := true, fwc := true, cap := true, freeCtr := true } s
                (coreCtl s n v) := by
  unfold coreCtl
  exact .ite .refl (.ite coreRel_evolves.mono (.ite coreRst_evolves.mono .refl))

theorem sealCtl_evolves {s v} : Evolves { regs := true, drain := true, bt := true, recd := true, tvl := true, dom := true } s (sealCtl s v) := by
  unfold sealCtl
  exact .trans (.ite localSealed_evolves.mono .refl) (.trans (.ite allocGo_evolves.mono .refl) (.ite groupGo_evolves.mono .refl))

theorem woOne_evolves {x s who off v} :
    EvolvesIf (.allBut { hir := true, jtag := true, pending := true, resp := true }) s (woOne x s who off v) := by
  unfold woOne
  exact .ite (.some commitCtl_evolves.mono)
    (.ite (.some resetRequest_evolves.mono)
       (.ite (.some startCtl_evolves.mono)
          (.ite (.some (.ite clkFwReturn_evolves.mono .refl))
             (.ite (.some nvCmdWrite_evolves.mono)
                (.ite (.some imageCtl_evolves.mono)
                   (.ite (.some fuseCtl_evolves.mono)
                      (.ite (.some dbgCtl_evolves.mono)
                         (.ite (.some pbMinArm_evolves.mono)
                            (.ite (.some fqGrant_evolves.mono)
                               (.ite (.some fqSchedHb_evolves.mono)
                                  (.ite (.some sealCtl_evolves.mono)
                                     (.ite (.some fwLdCtl_evolves.mono) (.ite (.some (.ite dueMark_evolves.mono .refl)) .none)))))))))))))

theorem putWrite_evolves {s who m place off v} : Evolves { regs := true, drain := true, recd := true } s (putWrite s who m place off v) := by
  unfold putWrite
  exact .ite (.ite recPut_evolves.mono .refl) .set_recd

theorem woWrite_evolves {x s who off v} : Evolves (.allBut { jtag := true, pending := true, resp := true }) s (woWrite x s who off v) := by
  unfold woWrite
  split
  · exact (woOne_evolves _ ‹_›).mono
  · split
    · exact selfCtl_evolves.mono
    · exact putWrite_evolves.mono
    · split
      · exact coreCtl_evolves.mono
      · exact snapWrite_evolves.mono
      · split
        · exact sqDoorbell_evolves.mono
        · exact cqDoorbell_evolves.mono
        · exact .refl

theorem applyWrite_evolves {x s who off val} :
    Evolves (.allBut { jtag := true, pending := true, resp := true }) s (applyWrite x s who off val) := by
  unfold applyWrite
  split
  · exact .ite sqDoorbell_evolves.mono cqDoorbell_evolves.mono
  · exact .ite activeSel_evolves.mono
      (.ite setClass_evolves.mono
         (by
            split
            exacts [.refl,
              by
                extract_lets
                split
                exacts [rwWrite_evolves.mono,
                  holdWrite_evolves.mono,
                  w1cWrite_evolves.mono,
                  lockWrite_evolves.mono,
                  woWrite_evolves.mono,
                  .refl,
                  by
                    split
                    exacts [.ite localWrite_evolves.mono .refl,
                      .refl]]]))

theorem regWrite_evolves {s who off val x} : Evolves (.allBut { jtag := true, pending := true }) s (regWrite s who off val x) := by
  unfold regWrite
  exact gated_evolves (hW := by rfl) (fun _ => applyWrite_evolves.mono)

theorem execRegisterWrite_answers {who word val s} : Answers (writes (.registerWrite who word val)) s (execRegisterWrite who word val s) := by
  unfold execRegisterWrite
  exact .next regWrite_evolves.mono

theorem execHostUnalignedAccess_answers {fn x1 write s} :
    Answers (writes (.hostUnalignedAccess fn x1 write)) s (execHostUnalignedAccess fn x1 write s) := by
  unfold execHostUnalignedAccess
  exact .next (.ite .set_resp (.ite hostTimeout_evolves.mono .set_top_resp))

theorem execWideLowRead_answers {who word s} : Answers (writes (.wideLowRead who word)) s (execWideLowRead who word s) := by
  unfold execWideLowRead
  exact .next readReg_evolves.mono

theorem execWideHighWrite_answers {who word val s} : Answers (writes (.wideHighWrite who word val)) s (execWideHighWrite who word val s) := by
  unfold execWideHighWrite
  exact .next regWrite_evolves.mono

theorem execRcRead_answers {who word s} : Answers (writes (.rcRead who word)) s (execRcRead who word s) := by
  unfold execRcRead
  exact .next readReg_evolves.mono

theorem execActiveSelWrite_answers {who val s} : Answers (writes (.activeSelWrite who val)) s (execActiveSelWrite who val s) := by
  unfold execActiveSelWrite
  exact .next (gated_evolves (hW := by rfl) (fun _ => activeSel_evolves.mono))

theorem execAssetLock_answers {who asset s} : Answers (writes (.assetLock who asset)) s (execAssetLock who asset s) := by
  unfold execAssetLock
  exact .next (gated_evolves (hW := by rfl) (fun _ => lockWrite_evolves.mono))

theorem execCommitRequest_answers {who tick ce ue s} : Answers (writes (.commitRequest who tick ce ue)) s (execCommitRequest who tick ce ue s) := by
  unfold execCommitRequest
  exact .next (gated_evolves (hW := by rfl) (fun _ => .trans stagedErrors_evolves.mono commitRequest_evolves.mono))

theorem execCommitCancel_answers {who s} : Answers (writes (.commitCancel who)) s (execCommitCancel who s) := by
  unfold execCommitCancel
  exact .next (gated_evolves (hW := by rfl) (fun _ => cancelMask_evolves.mono))

theorem execLocalSealed_answers {who s} : Answers (writes (.localSealed who)) s (execLocalSealed who s) := by
  unfold execLocalSealed
  exact .next (gated_evolves (hW := by rfl) (fun _ => localSealed_evolves.mono))

theorem execClkFwReturn_answers {who ok s} : Answers (writes (.clkFwReturn who ok)) s (execClkFwReturn who ok s) := by
  unfold execClkFwReturn
  exact .next (gated_evolves (hW := by rfl) (fun _ => clkFwReturn_evolves.mono))

theorem rstRow_evolves {s who level key} :
    Evolves { regs := true, top := true, drain := true, recd := true, ch := true, ph := true, pb := true, fq := true, img := true, fwc := true,
                fab := true, tvl := true, dom := true, est := true, sec := true, resp := true, freeCtr := true } s (rstRow s who level key) := by
  unfold rstRow
  exact gated_evolves (hW := by rfl) (fun _ => resetRequest_evolves.mono)

theorem execDeviceReset_answers {who key s} : Answers (writes (.deviceReset who key)) s (execDeviceReset who key s) := by
  unfold execDeviceReset
  exact .next rstRow_evolves.mono

theorem execWarmReset_answers {who key s} : Answers (writes (.warmReset who key)) s (execWarmReset who key s) := by
  unfold execWarmReset
  exact .next rstRow_evolves.mono

theorem execControlPlaneReset_answers {who key s} : Answers (writes (.controlPlaneReset who key)) s (execControlPlaneReset who key s) := by
  unfold execControlPlaneReset
  exact .next rstRow_evolves.mono

theorem execDataPlaneReset_answers {who key s} : Answers (writes (.dataPlaneReset who key)) s (execDataPlaneReset who key s) := by
  unfold execDataPlaneReset
  exact .next rstRow_evolves.mono

theorem execManagementPlaneReset_answers {who key s} : Answers (writes (.managementPlaneReset who key)) s (execManagementPlaneReset who key s) := by
  unfold execManagementPlaneReset
  exact .next rstRow_evolves.mono

theorem execStartRequest_answers {who s} : Answers (writes (.startRequest who)) s (execStartRequest who s) := by
  unfold execStartRequest
  exact .next (gated_evolves (hW := by rfl) (fun _ => startGo_evolves.mono))

theorem execStopRequest_answers {who s} : Answers (writes (.stopRequest who)) s (execStopRequest who s) := by
  unfold execStopRequest
  exact .next (gated_evolves (hW := by rfl) (fun _ => startStop_evolves.mono))

theorem execImageLoadGo_answers {who full s} : Answers (writes (.imageLoadGo who full)) s (execImageLoadGo who full s) := by
  unfold execImageLoadGo
  exact .next (gated_evolves (hW := by rfl) (fun _ => imageGo_evolves.mono))

theorem execImageLoadAbort_answers {who s} : Answers (writes (.imageLoadAbort who)) s (execImageLoadAbort who s) := by
  unfold execImageLoadAbort
  exact .next (gated_evolves (hW := by rfl) (fun _ => imageAbort_evolves.mono))

theorem execProtLatchClear_answers {who therm val pairs tripIn s} :
    Answers (writes (.protLatchClear who therm val pairs tripIn)) s (execProtLatchClear who therm val pairs tripIn s) := by
  unfold execProtLatchClear
  exact .next regWrite_evolves.mono

theorem execPbMinArm_answers {who val s} : Answers (writes (.pbMinArm who val)) s (execPbMinArm who val s) := by
  unfold execPbMinArm
  exact .next (gated_evolves (hW := by rfl) (fun _ => pbMinArm_evolves.mono))

theorem execSnapshot_answers {who slot val s} : Answers (writes (.snapshot who slot val)) s (execSnapshot who slot val s) := by
  unfold execSnapshot
  exact .next (gated_evolves (hW := by rfl) (fun _ => snapWrite_evolves.mono))

theorem execFqGrant_answers {who val s} : Answers (writes (.fqGrant who val)) s (execFqGrant who val s) := by
  unfold execFqGrant
  exact .next (gated_evolves (hW := by rfl) (fun _ => fqGrant_evolves.mono))

theorem execFqSchedHb_answers {who val s} : Answers (writes (.fqSchedHb who val)) s (execFqSchedHb who val s) := by
  unfold execFqSchedHb
  exact .next (gated_evolves (hW := by rfl) (fun _ => fqSchedHb_evolves.mono))

theorem execDlqPop_answers {who q s} : Answers (writes (.dlqPop who q)) s (execDlqPop who q s) := by
  unfold execDlqPop
  exact .next readReg_evolves.mono

theorem execFwLoadGo_answers {who live cores s} : Answers (writes (.fwLoadGo who live cores)) s (execFwLoadGo who live cores s) := by
  unfold execFwLoadGo
  exact .next (gated_evolves (hW := by rfl) (fun _ => fwGo_evolves.mono))

theorem execFwLoadAbort_answers {who s} : Answers (writes (.fwLoadAbort who)) s (execFwLoadAbort who s) := by
  unfold execFwLoadAbort
  exact .next (gated_evolves (hW := by rfl) (fun _ => fwAbort_evolves.mono))

theorem execRelease_answers {who core s} : Answers (writes (.release who core)) s (execRelease who core s) := by
  unfold execRelease
  exact .next (gated_evolves (hW := by rfl) (fun _ => coreRel_evolves.mono))

theorem execRestart_answers {who core s} : Answers (writes (.restart who core)) s (execRestart who core s) := by
  unfold execRestart
  exact .next (gated_evolves (hW := by rfl) (fun _ => coreRst_evolves.mono))

theorem execFwcWdogWrite_answers {who core val s} : Answers (writes (.fwcWdogWrite who core val)) s (execFwcWdogWrite who core val s) := by
  unfold execFwcWdogWrite
  exact .next regWrite_evolves.mono

theorem execRecTailWrite_answers {who val s} : Answers (writes (.recTailWrite who val)) s (execRecTailWrite who val s) := by
  unfold execRecTailWrite
  exact .next (.trans regWrite_evolves.mono regWrite_evolves.mono)

theorem loadLines_evolves {s n ls} : EvolvesIf { regs := true, fwc := true } s (loadLines s n ls) := by
  unfold loadLines
  exact .ite .none (.some (.forEach fun _ _ => .ite fillLine_evolves.mono (.trans bump_evolves.mono (.ite .refl setCore_evolves))))

theorem memLoad_evolves {s n ix len viaCache} : Evolves { regs := true, fwc := true, resp := true } s (memLoad s n ix len viaCache) := by
  unfold memLoad
  exact .ite coreFault_evolves.mono
    (.ite (by split; exacts [.trans (loadLines_evolves _ ‹_›).mono (.set_resp), .refl]) (.set_resp))

theorem timerRead_evolves {s n off} : Evolves { top := true, resp := true } s (timerRead s n off) := by
  unfold timerRead
  extract_lets peek
  exact .trans (t := (wideRead s (.core (Fin.ofNat 8 n)) (fun o => peek (o - 0x50001000)) (off == 0 || off == 8) (off == 4 || off == 12)
    (0x50001000 + off)).2) wideRead_evolves.mono .set_resp

theorem timerWrite_evolves {s n off v} : Evolves { top := true, fwc := true } s (timerWrite s n off v) := by
  unfold timerWrite
  exact .ite setClass_evolves.mono (.ite (.trans setClass_evolves.mono .set_fwc) .refl)

theorem coreAccess_evolves {s n a len user pmp mis acc f} {W : Blocks}
    (hW : Blocks.le { regs := true, fwc := true, resp := true } W = true)
    (h8 : ∀ t y1, Evolves W t (f t y1)) :
    Evolves W s (coreAccess s n a len user pmp mis acc f) := by
  unfold coreAccess
  refine .ite .refl ?_
  extract_lets s1
  have h1 : Evolves W s s1 :=
    .trans (t := { s with resp := .none }) (.set_resp (Blocks.le_trans (by rfl) hW)) (setCore_evolves (Blocks.le_trans (by rfl) hW) (fun _ => rfl))
  refine h1.trans ?_
  split
  · exact coreFault_evolves.via hW
  · exact .ite (coreFault_evolves.via hW) (h8 ..)
  · exact .ite (coreFault_evolves.via hW) (h8 ..)
  · exact .ite (coreFault_evolves.via hW) (.ite (coreFault_evolves.via hW) (.trans (drainAll_evolves.via hW) (h8 ..)))

theorem coreLoad_evolves {s core user pmp addr size} :
    Evolves { regs := true, top := true, drain := true, recd := true, ch := true, ph := true, quad := true, pb := true, fq := true, img := true,
                nvs := true, integ := true, fwc := true, fab := true, tvl := true, est := true, sbm := true, resp := true } s (coreLoad s core user
                pmp addr size) := by
  unfold coreLoad
  exact coreAccess_evolves (hW := by rfl)
    (fun _ _ =>
       by
         split
         exacts [.set_resp,
           memLoad_evolves.mono,
           readReg_evolves.mono,
           mbxRead_evolves.mono,
           timerRead_evolves.mono,
           .refl])

theorem execCoreLoad_answers {core user pmp addr size s} :
    Answers (writes (.coreLoad core user pmp addr size)) s (execCoreLoad core user pmp addr size s) := by
  unfold execCoreLoad
  exact .next coreLoad_evolves.mono

theorem coreStore_evolves {s core user pmp addr size val} :
    Evolves (.allBut { jtag := true, pending := true }) s (coreStore s core user pmp addr size val) := by
  unfold coreStore
  exact coreAccess_evolves (hW := by rfl)
    (fun _ _ =>
       by
         split
         exacts [(setCore_evolves_of_wf fun c hc => memWf_foldl (List.range _) (fun i => _ + i) (fun i => List.getD _ i 0) _ hc).mono,
           .ite bufStore_evolves.mono coreViol_evolves.mono,
           regWrite_evolves.mono,
           mbxWrite_evolves.mono,
           timerWrite_evolves.mono,
           .refl])

theorem execCoreStore_answers {core user pmp addr size val s} :
    Answers (writes (.coreStore core user pmp addr size val)) s (execCoreStore core user pmp addr size val s) := by
  unfold execCoreStore
  exact .next coreStore_evolves.mono

/-! ## HirCmds -/

theorem asFw_evolves {s f} {W : Blocks}
    (hW : Blocks.le { fwc := true, resp := true } W = true)
    (h1 : ∀ y0 t, Evolves W t (f y0 t)) :
    Evolves W s (asFw s f) := by
  unfold asFw
  split
  · exact .refl
  · exact .trans (.trans ((setCore_evolves (Blocks.le_trans (by rfl) hW))) (h1 ..))
      (.trans (.set_resp (Blocks.le_trans (by rfl) hW)) ((setCore_evolves (Blocks.le_trans (by rfl) hW))))

theorem fwPut_evolves {s x off val} : Evolves (.allBut { jtag := true, pending := true }) s (fwPut s x off val) := by
  unfold fwPut
  exact asFw_evolves (hW := by rfl) (fun _ _ => regWrite_evolves.mono)

theorem fwPuts_evolves {s l} : Evolves (.allBut { jtag := true, pending := true }) s (fwPuts s l) := by
  unfold fwPuts
  exact .forEach fun _ _ => fwPut_evolves.mono

theorem fwGet_evolves {s off} :
    Evolves { regs := true, top := true, drain := true, recd := true, ch := true, ph := true, quad := true, pb := true, fq := true, img := true,
                nvs := true, integ := true, fab := true, tvl := true, est := true, sbm := true, resp := true } s (fwGet s off).2 := by
  unfold fwGet
  split
  · exact .refl
  · exact .trans readReg_evolves.mono .set_resp

theorem hirBegin_evolves {s r c waits} : Evolves { hir := true } s (hirBegin s r c waits) := by
  unfold hirBegin
  exact .trans setRing_evolves.mono (.ite .refl setHir_evolves.mono)

theorem fwCommit_evolves {s mask mode tick} : Evolves (.allBut { jtag := true, pending := true }) s (fwCommit s mask mode tick) := by
  unfold fwCommit
  exact .trans fwPuts_evolves.mono (.trans (.ite fwPuts_evolves.mono .refl) fwPuts_evolves.mono)

theorem bmcCommit_evolves {s} : Evolves (.allBut { jtag := true, pending := true }) s (bmcCommit s) := by
  unfold bmcCommit
  exact .ite (.trans fwPuts_evolves.mono (.trans (.trans fwCommit_evolves.mono pmRefresh_evolves.mono) lower_evolves.mono)) .refl

theorem fwRun_evolves {s r cid op f0 act} {W : Blocks}
    (hW : Blocks.le (.allBut { jtag := true, pending := true }) W = true)
    (h5 : ∀ t y1, Evolves W t (act t y1)) :
    Evolves W s (fwRun s r cid op f0 act) := by
  unfold fwRun
  exact .ite .refl
    (by
       split
       exacts [.refl,
         .ite .refl
           (.trans (.trans (.trans (.set_resp (Blocks.le_trans (by rfl) hW)) (ownerSync_evolves.via hW)) (bmcCommit_evolves.via hW))
              (.ite (hirFinish_evolves.via hW) ((h5 ..))))])

theorem hirOk_evolves {s r c result} : Evolves { hir := true } s (hirOk s r c result) := by
  unfold hirOk
  exact hirFinish_evolves.mono

theorem hirField_evolves {s r c off} : Evolves { hir := true } s (hirField s r c off) := by
  unfold hirField
  exact hirFinish_evolves.mono

theorem hirBuf_evolves {s r c} : Evolves { hir := true } s (hirBuf s r c) := by
  unfold hirBuf
  exact hirFinish_evolves.mono

theorem bufOut_evolves {s c b} : Evolves { hir := true } s (bufOut s c b) := by
  unfold bufOut
  exact setHir_evolves.mono

theorem dmaOut_evolves {s r c out b} : Evolves { regs := true, drain := true, recd := true, hir := true } s (dmaOut s r c out b) := by
  unfold dmaOut
  split
  · exact .trans dmaUe_evolves.mono bufOut_evolves.mono
  · exact bufOut_evolves.mono

theorem fwStage_evolves {s r c l mask mode tick result} :
    Evolves (.allBut { jtag := true, pending := true }) s (fwStage s r c l mask mode tick result) := by
  unfold fwStage
  exact .ite hirFinish_evolves.mono (.trans (.trans fwPuts_evolves.mono fwCommit_evolves.mono) hirFinish_evolves.mono)

theorem execIdentify_answers {ring cid out s} : Answers (writes (.identify ring cid out)) s (execIdentify ring cid out s) := by
  unfold execIdentify
  refine .next (fwRun_evolves (hW := by rfl) fun t c => .ite hirBuf_evolves.mono ?_)
  exact .trans (t := (drawNat t (2 ^ 2048)).2) drawNat_evolves.mono (.trans dmaOut_evolves.mono hirOk_evolves.mono)

theorem execStatus_answers {ring cid s} : Answers (writes (.status ring cid)) s (execStatus ring cid s) := by
  unfold execStatus
  exact .next (fwRun_evolves (hW := by rfl) (fun _ _ => hirOk_evolves.mono))

theorem imgLoadEnd_evolves {s r c} : Evolves { hir := true } s (imgLoadEnd s r c) := by
  unfold imgLoadEnd
  exact .ite .refl hirFinish_evolves.mono

theorem execImageLoad_answers {ring cid s} : Answers (writes (.imageLoad ring cid)) s (execImageLoad ring cid s) := by
  unfold execImageLoad
  exact .next
    (fwRun_evolves (hW := by rfl)
       (fun _ _ =>
          .ite imgLoadEnd_evolves.mono
            (.ite hirField_evolves.mono
               (.ite hirBuf_evolves.mono (.trans fwPuts_evolves.mono (.trans hirBegin_evolves.mono imgLoadEnd_evolves.mono))))))

theorem fwLoadEnd_evolves {s r c} : Evolves { hir := true } s (fwLoadEnd s r c) := by
  unfold fwLoadEnd
  exact .ite .refl hirFinish_evolves.mono

theorem execFwLoad_answers {ring cid s} : Answers (writes (.fwLoad ring cid)) s (execFwLoad ring cid s) := by
  unfold execFwLoad
  exact .next
    (fwRun_evolves (hW := by rfl)
       (fun _ _ =>
          .ite fwLoadEnd_evolves.mono
            (.ite hirField_evolves.mono
               (.ite hirField_evolves.mono
                  (.ite hirBuf_evolves.mono (.trans fwPuts_evolves.mono (.trans hirBegin_evolves.mono fwLoadEnd_evolves.mono)))))))

theorem execCoreCtl_answers {ring cid s} : Answers (writes (.coreCtl ring cid)) s (execCoreCtl ring cid s) := by
  unfold execCoreCtl
  exact .next
    (fwRun_evolves (hW := by rfl)
       (fun _ _ =>
          .ite hirField_evolves.mono (.ite hirField_evolves.mono (.ite hirFinish_evolves.mono (.trans fwPuts_evolves.mono hirFinish_evolves.mono)))))

theorem execStart_answers {ring cid s} : Answers (writes (.start ring cid)) s (execStart ring cid s) := by
  unfold execStart
  exact .next
    (fwRun_evolves (hW := by rfl)
       (fun _ _ =>
          .ite (.trans fwPuts_evolves.mono hirFinish_evolves.mono)
            (.ite (.ite (.trans fwPuts_evolves.mono hirOk_evolves.mono) hirFinish_evolves.mono)
               (.ite (.ite hirField_evolves.mono (.ite hirField_evolves.mono (.trans fwPuts_evolves.mono hirOk_evolves.mono))) hirField_evolves.mono))))

theorem execReset_answers {ring cid s} : Answers (writes (.reset ring cid)) s (execReset ring cid s) := by
  unfold execReset
  exact .next
    (fwRun_evolves (hW := by rfl)
       (fun _ _ =>
          .ite hirField_evolves.mono
            (.ite (.trans (.trans hirOk_evolves.mono hirPost_evolves.mono) fwPuts_evolves.mono)
               (.trans (.ite .refl fwPuts_evolves.mono) (.ite hirBegin_evolves.mono hirFinish_evolves.mono)))))

theorem commitPair_evolves {s p} : Evolves (.allBut { jtag := true, pending := true }) s (commitPair s p) := by
  unfold commitPair
  exact .ite (.trans setHir_evolves.mono fwPut_evolves.mono) fwPut_evolves.mono

theorem execCommit_answers {ring cid got s} : Answers (writes (.commit ring cid got)) s (execCommit ring cid got s) := by
  unfold execCommit
  extract_lets r
  refine .next (fwRun_evolves (hW := by rfl) fun t c => ?_)
  extract_lets mask mode tick
  refine .ite (.ite .refl hirFinish_evolves.mono)
    (.ite hirField_evolves.mono (.ite hirField_evolves.mono (.ite hirField_evolves.mono (.ite hirBuf_evolves.mono ?_))))
  split
  · exact hirBuf_evolves.mono
  · extract_lets ps
    split
    · exact hirField_evolves.mono
    · exact .ite hirFinish_evolves.mono
        (.trans (.trans (.forEach fun _ _ => commitPair_evolves.mono) fwCommit_evolves.mono) (.ite hirBegin_evolves.mono hirFinish_evolves.mono))

theorem execRegRead_answers {ring cid got out s} : Answers (writes (.regRead ring cid got out)) s (execRegRead ring cid got out s) := by
  unfold execRegRead
  extract_lets r
  refine .next (fwRun_evolves (hW := by rfl) fun t c => ?_)
  extract_lets n
  refine .ite hirField_evolves.mono (.ite hirBuf_evolves.mono ?_)
  split
  · exact hirBuf_evolves.mono
  · extract_lets offs
    split
    · exact hirField_evolves.mono
    · refine .trans (t := (offs.foldl (fun (x : List Byte × State) o => let g := fwGet x.2 o; (x.1 ++ leBytes 4 g.1, g.2)) ([], t)).2)
        (.foldlSnd fun _ _ _ => fwGet_evolves.mono) ?_
      exact .ite hirBuf_evolves.mono (.trans dmaOut_evolves.mono hirOk_evolves.mono)

theorem execLatchClear_answers {ring cid pairs tripIn s} :
    Answers (writes (.latchClear ring cid pairs tripIn)) s (execLatchClear ring cid pairs tripIn s) := by
  unfold execLatchClear
  exact .next (fwRun_evolves (hW := by rfl) (fun _ _ => .trans (.trans fwPut_evolves.mono fwPut_evolves.mono) hirOk_evolves.mono))

theorem partAbort_evolves {s f p} : Evolves { hir := true } s (partAbort s f p) := by
  unfold partAbort
  exact .forEach fun _ _ => .forEach fun _ _ => hirFinish_evolves.mono

theorem execPartAssign_answers {ring cid s} : Answers (writes (.partAssign ring cid)) s (execPartAssign ring cid s) := by
  unfold execPartAssign
  exact .next
    (fwRun_evolves (hW := by rfl)
       (fun _ _ =>
          .ite hirField_evolves.mono
            (.trans (.forEach fun _ _ => .trans (.ite .refl partAbort_evolves.mono) fwPuts_evolves.mono) hirOk_evolves.mono)))

theorem execPartSet_answers {ring cid s} : Answers (writes (.partSet ring cid)) s (execPartSet ring cid s) := by
  unfold execPartSet
  exact .next
    (fwRun_evolves (hW := by rfl)
       (fun _ _ => .ite hirField_evolves.mono (.ite hirFinish_evolves.mono (.ite hirField_evolves.mono fwStage_evolves.mono))))

theorem execPartEnv_answers {ring cid s} : Answers (writes (.partEnv ring cid)) s (execPartEnv ring cid s) := by
  unfold execPartEnv
  exact .next (fwRun_evolves (hW := by rfl) (fun _ _ => .ite hirField_evolves.mono fwStage_evolves.mono))

theorem execPartSnapshot_answers {ring cid out s} : Answers (writes (.partSnapshot ring cid out)) s (execPartSnapshot ring cid out s) := by
  unfold execPartSnapshot
  exact .next
    (fwRun_evolves (hW := by rfl)
       (fun _ _ =>
          .ite hirField_evolves.mono
            (.ite hirFinish_evolves.mono
               (.ite hirField_evolves.mono
                  (.ite hirBuf_evolves.mono
                     (.trans fwPuts_evolves.mono (.ite (.trans dmaOut_evolves.mono hirOk_evolves.mono) hirField_evolves.mono)))))))

theorem execTelemCfg_answers {ring cid s} : Answers (writes (.telemCfg ring cid)) s (execTelemCfg ring cid s) := by
  unfold execTelemCfg
  exact .next
    (fwRun_evolves (hW := by rfl)
       (fun _ _ => .ite hirField_evolves.mono (.ite hirFinish_evolves.mono (.ite hirField_evolves.mono fwStage_evolves.mono))))

theorem execRecRead_answers {ring cid out s} : Answers (writes (.recRead ring cid out)) s (execRecRead ring cid out s) := by
  unfold execRecRead
  exact .next (fwRun_evolves (hW := by rfl) (fun _ _ => .ite hirBuf_evolves.mono (.trans dmaOut_evolves.mono hirOk_evolves.mono)))

theorem execRecSpill_answers {ring cid s} : Answers (writes (.recSpill ring cid)) s (execRecSpill ring cid s) := by
  unfold execRecSpill
  extract_lets r report
  have hrep (t : State) (c : HirCmd) : Evolves (writes (.recSpill ring cid)) t (report t c) :=
    .trans (t := (fwGet t Reg.REC_SPILL_CNT).2) fwGet_evolves.mono hirOk_evolves.mono
  clear_value report
  refine .next (fwRun_evolves (hW := by rfl) fun t c => ?_)
  extract_lets op base size ctl
  refine .ite (.ite hirField_evolves.mono (.ite hirField_evolves.mono ?_)) (.ite ?_ (.ite (hrep _ _) hirField_evolves.mono))
  · exact .trans fwPuts_evolves.mono (hrep _ _)
  · exact .trans fwPuts_evolves.mono (hrep _ _)

theorem execBaseline_answers {ring cid s} : Answers (writes (.baseline ring cid)) s (execBaseline ring cid s) := by
  unfold execBaseline
  exact .next
    (fwRun_evolves (hW := by rfl)
       (fun _ _ => .ite hirField_evolves.mono (.ite hirField_evolves.mono (.ite hirField_evolves.mono fwStage_evolves.mono))))

theorem memberDrop_evolves {s node kind} :
    Evolves { regs := true, drain := true, recd := true, tvl := true, dom := true } s (memberDrop s node kind) := by
  unfold memberDrop
  exact .trans setDom_evolves.mono postFrame_evolves.mono

theorem execDomMember_answers {ring cid s} : Answers (writes (.domMember ring cid)) s (execDomMember ring cid s) := by
  unfold execDomMember
  exact .next
    (fwRun_evolves (hW := by rfl)
       (fun _ _ =>
          .ite hirField_evolves.mono
            (.ite hirField_evolves.mono (.ite (.trans memberDrop_evolves.mono hirOk_evolves.mono) (.ite hirOk_evolves.mono hirFinish_evolves.mono)))))

theorem execDomBudget_answers {ring cid s} : Answers (writes (.domBudget ring cid)) s (execDomBudget ring cid s) := by
  unfold execDomBudget
  exact .next (fwRun_evolves (hW := by rfl) (fun _ _ => fwStage_evolves.mono))

theorem bulkPost_evolves {s dest chan msg b off} :
    Evolves { regs := true, drain := true, recd := true, tvl := true } s (bulkPost s dest chan msg b off).1 := by
  unfold bulkPost
  refine .foldlFst fun t b x => .iteFst .refl ?_
  dsimp only
  exact postFrame_evolves.mono

theorem execBulkSend_answers {ring cid got s} : Answers (writes (.bulkSend ring cid got)) s (execBulkSend ring cid got s) := by
  unfold execBulkSend
  exact .next
    (fwRun_evolves (hW := by rfl)
       (fun _ _ =>
          .ite hirField_evolves.mono
            (.ite hirBuf_evolves.mono
               (by
                  extract_lets
                  split
                  exacts [hirBuf_evolves.mono,
                    .trans (.ite .refl setHir_evolves.mono)
                      (.bindFst bulkPost_evolves.mono (fun _ _ => .ite hirOk_evolves.mono hirBegin_evolves.mono))]))))

theorem bulkGive_evolves {s r c m out} : Evolves { regs := true, drain := true, recd := true, hir := true } s (bulkGive s r c m out) := by
  unfold bulkGive
  exact .ite hirBuf_evolves.mono (.trans setHir_evolves.mono (.trans dmaOut_evolves.mono hirOk_evolves.mono))

theorem execBulkRecv_answers {ring cid out s} : Answers (writes (.bulkRecv ring cid out)) s (execBulkRecv ring cid out s) := by
  unfold execBulkRecv
  exact .next
    (fwRun_evolves (hW := by rfl)
       (fun _ _ =>
          .ite hirFinish_evolves.mono
            (by
               split
               exacts [bulkGive_evolves.mono,
                 .ite .refl hirBegin_evolves.mono])))

theorem execBulk_answers {src channel msg off total data out s} :
    Answers (writes (.bulk src channel msg off total data out)) s (execBulk src channel msg off total data out s) := by
  unfold execBulk
  exact .next
    (.ite .refl
       (.trans takeDelivered_evolves.mono
          (.ite .refl
             (.trans setHir_evolves.mono
                (.ite
                   (by
                      split
                      exacts [bulkGive_evolves.mono,
                        .refl]) .refl)))))

theorem execBulkTimeout_answers {src channel msg s} : Answers (writes (.bulkTimeout src channel msg)) s (execBulkTimeout src channel msg s) := by
  unfold execBulkTimeout
  exact .next
    (.ite .refl
       (by
          split
          exacts [.refl,
            .trans reach_evolves.mono (.trans setHir_evolves.mono (.trans raise_evolves.mono record_evolves.mono))]))

theorem execAbort_answers {ring cid s} : Answers (writes (.abort ring cid)) s (execAbort ring cid s) := by
  unfold execAbort
  exact .next
    (fwRun_evolves (hW := by rfl)
       (fun _ _ =>
          by
            split
            exacts [.trans hirFinish_evolves.mono hirOk_evolves.mono,
              hirOk_evolves.mono]))

/-! ## Sideband -/

theorem pmOpen_evolves {s} : Evolves { regs := true, sbm := true, resp := true } s (pmOpen s) := by
  unfold pmOpen
  exact .trans (.trans .set_resp bump_evolves.mono) pmRefresh_evolves.mono

theorem pmReply_evolves {s cmd b} : Evolves { resp := true } s (pmReply s cmd b) := by
  unfold pmReply
  exact .set_resp

theorem mctpReply_evolves {s b} : Evolves { resp := true } s (mctpReply s b) := by
  unfold mctpReply
  exact .set_resp

theorem pmBadRead_evolves {s cmd n} : Evolves { regs := true, sbm := true, resp := true } s (pmBadRead s cmd n) := by
  unfold pmBadRead
  exact .trans cmlSet_evolves.mono pmReply_evolves.mono

theorem pmPec_evolves {s pec act} {W : Blocks}
    (hW : Blocks.le { regs := true, sbm := true } W = true)
    (h2 : ∀ t, Evolves W t (act t)) :
    Evolves W s (pmPec s pec act) := by
  unfold pmPec
  split
  · exact (h2 ..)
  · exact cmlSet_evolves.via hW
  · exact .ite .refl ((h2 ..))

theorem pmBus_evolves {s cmd k io n get put} {W : Blocks}
    (hW : Blocks.le { regs := true, sbm := true, resp := true } W = true)
    (h5 : ∀ t, Evolves W t (get t).2) (h6 : ∀ t y1, Evolves W t (put t y1)) :
    Evolves W s (pmBus s cmd k io n get put) := by
  unfold pmBus
  exact .ite (.set_resp (Blocks.le_trans (by rfl) hW))
    (.trans (pmOpen_evolves.via hW)
       (by
          extract_lets
          split
          exacts [.ite (.bind ((h5 ..)) (fun _ _ => pmReply_evolves.via hW)) (pmBadRead_evolves.via hW),
            pmPec_evolves (hW := Blocks.le_trans (by rfl) hW) (fun _ => .ite ((h6 ..)) (cmlSet_evolves.via hW))]))

theorem noPut_evolves {s x1} : Evolves { regs := true, sbm := true } s (noPut s x1) := by
  unfold noPut
  exact cmlSet_evolves.mono

theorem pmRo_evolves {s code k io n val} : Evolves { regs := true, sbm := true, resp := true } s (pmRo s code k io n val) := by
  unfold pmRo
  exact pmBus_evolves (hW := by rfl) (fun _ => .refl) (fun _ _ => noPut_evolves.mono)

theorem pmRoD_evolves {s code k io val} {W : Blocks}
    (hW : Blocks.le { regs := true, sbm := true, resp := true } W = true)
    (h4 : ∀ t, Evolves W t (val t).2) :
    Evolves W s (pmRoD s code k io val) := by
  unfold pmRoD
  exact pmBus_evolves (hW := Blocks.le_trans (by rfl) hW) (fun t => h4 t) (fun _ _ => noPut_evolves.via hW)

theorem pmText_evolves {s code io b} : Evolves { regs := true, sbm := true, resp := true } s (pmText s code io b) := by
  unfold pmText
  exact pmBus_evolves (hW := by rfl) (fun _ => .refl) (fun _ _ => noPut_evolves.mono)

theorem putByte_evolves {s tier d act} {W : Blocks}
    (hW : Blocks.le { regs := true, sbm := true } W = true)
    (h3 : ∀ t y1, Evolves W t (act t y1)) :
    Evolves W s (putByte s tier d act) := by
  unfold putByte
  split
  · exact .ite ((h3 ..)) (cmlSet_evolves.via hW)
  · exact cmlSet_evolves.via hW

theorem execPage_answers {io s} : Answers (writes (.page io)) s (execPage io s) := by
  unfold execPage
  exact .next
    (pmBus_evolves (hW := by rfl) (fun _ => .refl)
       (fun _ _ => putByte_evolves (hW := by rfl) (fun _ _ => .ite setSbm_evolves.mono cmlSet_evolves.mono)))

theorem execOperation_answers {io s} : Answers (writes (.operation io)) s (execOperation io s) := by
  unfold execOperation
  exact .next pmRo_evolves.mono

theorem clearFaults_evolves {s} : Evolves { sbm := true } s (clearFaults s) := by
  unfold clearFaults
  exact .trans setSbm_evolves.mono (.forEach fun _ _ => setPage_evolves.mono)

theorem execClearFaults_answers {io s} : Answers (writes (.clearFaults io)) s (execClearFaults io s) := by
  unfold execClearFaults
  refine .next (pmBus_evolves (hW := by rfl) (fun t => ?_) (fun t d => .ite clearFaults_evolves.mono cmlSet_evolves.mono))
  dsimp only
  exact cmlSet_evolves.mono

theorem execWriteProtect_answers {io s} : Answers (writes (.writeProtect io)) s (execWriteProtect io s) := by
  unfold execWriteProtect
  exact .next
    (pmBus_evolves (hW := by rfl) (fun _ => .refl)
       (fun _ _ =>
          by
            split
            exacts [.ite setSbm_evolves.mono cmlSet_evolves.mono,
              cmlSet_evolves.mono]))

theorem execCapability_answers {io s} : Answers (writes (.capability io)) s (execCapability io s) := by
  unfold execCapability
  exact .next pmRo_evolves.mono

theorem execSmbalertMask_answers {code io s} : Answers (writes (.smbalertMask code io)) s (execSmbalertMask code io s) := by
  unfold execSmbalertMask
  extract_lets c known
  refine .next (pmBus_evolves (hW := by rfl) (fun t => ?_) (fun _ _ =>
    putByte_evolves (hW := by rfl) (fun _ _ => .ite (.trans setSbm_evolves.mono alertAgain_evolves.mono) cmlSet_evolves.mono)))
  split
  · exact .refl
  · dsimp only
    exact cmlSet_evolves.mono

theorem execVoutMode_answers {io s} : Answers (writes (.voutMode io)) s (execVoutMode io s) := by
  unfold execVoutMode
  exact .next pmRo_evolves.mono

theorem execVoutCommand_answers {io s} : Answers (writes (.voutCommand io)) s (execVoutCommand io s) := by
  unfold execVoutCommand
  exact .next pmRo_evolves.mono

theorem execVoutOvFaultLimit_answers {io s} : Answers (writes (.voutOvFaultLimit io)) s (execVoutOvFaultLimit io s) := by
  unfold execVoutOvFaultLimit
  exact .next pmRo_evolves.mono

theorem execIoutOcFaultLimit_answers {io s} : Answers (writes (.ioutOcFaultLimit io)) s (execIoutOcFaultLimit io s) := by
  unfold execIoutOcFaultLimit
  exact .next pmRo_evolves.mono

theorem execOtFaultLimit_answers {io s} : Answers (writes (.otFaultLimit io)) s (execOtFaultLimit io s) := by
  unfold execOtFaultLimit
  exact .next pmRo_evolves.mono

theorem execVinOvWarn_answers {io s} : Answers (writes (.vinOvWarn io)) s (execVinOvWarn io s) := by
  unfold execVinOvWarn
  exact .next pmRo_evolves.mono

theorem execVinUvWarn_answers {io s} : Answers (writes (.vinUvWarn io)) s (execVinUvWarn io s) := by
  unfold execVinUvWarn
  exact .next pmRo_evolves.mono

theorem execVinUvFaultLimit_answers {io s} : Answers (writes (.vinUvFaultLimit io)) s (execVinUvFaultLimit io s) := by
  unfold execVinUvFaultLimit
  exact .next pmRo_evolves.mono

theorem execStatusByte_answers {io s} : Answers (writes (.statusByte io)) s (execStatusByte io s) := by
  unfold execStatusByte
  exact .next pmRo_evolves.mono

theorem execStatusWord_answers {io s} : Answers (writes (.statusWord io)) s (execStatusWord io s) := by
  unfold execStatusWord
  exact .next pmRo_evolves.mono

theorem execStatusVout_answers {io s} : Answers (writes (.statusVout io)) s (execStatusVout io s) := by
  unfold execStatusVout
  exact .next pmRo_evolves.mono

theorem execStatusIout_answers {io s} : Answers (writes (.statusIout io)) s (execStatusIout io s) := by
  unfold execStatusIout
  exact .next pmRo_evolves.mono

theorem execStatusInput_answers {io s} : Answers (writes (.statusInput io)) s (execStatusInput io s) := by
  unfold execStatusInput
  exact .next pmRo_evolves.mono

theorem execStatusTemperature_answers {io s} : Answers (writes (.statusTemperature io)) s (execStatusTemperature io s) := by
  unfold execStatusTemperature
  exact .next pmRo_evolves.mono

theorem execStatusCml_answers {io s} : Answers (writes (.statusCml io)) s (execStatusCml io s) := by
  unfold execStatusCml
  exact .next pmRo_evolves.mono

theorem execStatusMfrSpecific_answers {io s} : Answers (writes (.statusMfrSpecific io)) s (execStatusMfrSpecific io s) := by
  unfold execStatusMfrSpecific
  exact .next pmRo_evolves.mono

theorem linQuot_evolves {s n d} : Evolves { freeCtr := true } s (linQuot s n d).2 := by
  unfold linQuot
  exact .iteSnd .refl drawNat_evolves.mono

theorem execReadVin_answers {io s} : Answers (writes (.readVin io)) s (execReadVin io s) := by
  unfold execReadVin
  exact .next pmRo_evolves.mono

theorem execReadIin_answers {io s} : Answers (writes (.readIin io)) s (execReadIin io s) := by
  unfold execReadIin
  exact .next (pmRoD_evolves (hW := by rfl) (fun _ => linQuot_evolves.mono))

theorem execReadPin_answers {io s} : Answers (writes (.readPin io)) s (execReadPin io s) := by
  unfold execReadPin
  exact .next (pmRoD_evolves (hW := by rfl) (fun _ => linQuot_evolves.mono))

theorem execReadVout_answers {io s} : Answers (writes (.readVout io)) s (execReadVout io s) := by
  unfold execReadVout
  exact .next pmRo_evolves.mono

theorem execReadIout_answers {io s} : Answers (writes (.readIout io)) s (execReadIout io s) := by
  unfold execReadIout
  exact .next pmRo_evolves.mono

theorem execReadPout_answers {io s} : Answers (writes (.readPout io)) s (execReadPout io s) := by
  unfold execReadPout
  exact .next pmRo_evolves.mono

theorem dieTemps_evolves {s ds} : Evolves { freeCtr := true } s (dieTemps s ds).2 := by
  unfold dieTemps
  split
  · exact drawNat_evolves.mono
  · exact .refl

theorem execReadTemperature1_answers {io s} : Answers (writes (.readTemperature1 io)) s (execReadTemperature1 io s) := by
  unfold execReadTemperature1
  exact .next (pmRoD_evolves (hW := by rfl) (fun _ => .iteSnd dieTemps_evolves.mono (.iteSnd dieTemps_evolves.mono .refl)))

theorem execReadTemperature2_answers {io s} : Answers (writes (.readTemperature2 io)) s (execReadTemperature2 io s) := by
  unfold execReadTemperature2
  exact .next pmRo_evolves.mono

theorem execPmbusRevision_answers {io s} : Answers (writes (.pmbusRevision io)) s (execPmbusRevision io s) := by
  unfold execPmbusRevision
  exact .next pmRo_evolves.mono

theorem execMfrId_answers {io s} : Answers (writes (.mfrId io)) s (execMfrId io s) := by
  unfold execMfrId
  exact .next pmText_evolves.mono

theorem execMfrModel_answers {io s} : Answers (writes (.mfrModel io)) s (execMfrModel io s) := by
  unfold execMfrModel
  exact .next pmText_evolves.mono

theorem execMfrRevision_answers {io s} : Answers (writes (.mfrRevision io)) s (execMfrRevision io s) := by
  unfold execMfrRevision
  exact .next pmText_evolves.mono

theorem execMfrSerial_answers {io s} : Answers (writes (.mfrSerial io)) s (execMfrSerial io s) := by
  unfold execMfrSerial
  exact .next pmText_evolves.mono

theorem bmcCapPut_evolves {s w} : Evolves (.allBut { jtag := true, pending := true }) s (bmcCapPut s w) := by
  unfold bmcCapPut
  generalize linVal w 3 = p
  obtain ⟨n, d⟩ := p
  dsimp only
  refine .ite ?_ cmlSet_evolves.mono
  refine .trans (t := (if (roundQ n d).toNat < 65536 then ((roundQ n d).toNat, s) else drawNat s 65536).2) (.iteSnd .refl drawNat_evolves.mono) ?_
  exact .trans (.trans setF_evolves.mono raise_evolves.mono) (.trans (.trans raise_evolves.mono record_evolves.mono) bmcCommit_evolves.mono)

theorem execMfrBmcPowerCap_answers {io s} : Answers (writes (.mfrBmcPowerCap io)) s (execMfrBmcPowerCap io s) := by
  unfold execMfrBmcPowerCap
  exact .next (pmBus_evolves (hW := by rfl) (fun _ => .refl) (fun _ _ => .ite bmcCapPut_evolves.mono cmlSet_evolves.mono))

theorem mfrResetPut_evolves {s v} :
    Evolves { regs := true, top := true, drain := true, recd := true, ch := true, ph := true, pb := true, fq := true, img := true, fab := true,
                tvl := true, dom := true, est := true, sbm := true, sec := true, freeCtr := true } s (mfrResetPut s v) := by
  unfold mfrResetPut
  exact .ite (.trans resetRequest_evolves.mono (.trans raise_evolves.mono record_evolves.mono)) cmlSet_evolves.mono

theorem execMfrReset_answers {io s} : Answers (writes (.mfrReset io)) s (execMfrReset io s) := by
  unfold execMfrReset
  exact .next (pmBus_evolves (hW := by rfl) (fun _ => .refl) (fun _ _ => putByte_evolves (hW := by rfl) (fun _ _ => mfrResetPut_evolves.mono)))

theorem execMfrDeviceState_answers {io s} : Answers (writes (.mfrDeviceState io)) s (execMfrDeviceState io s) := by
  unfold execMfrDeviceState
  exact .next pmRo_evolves.mono

theorem execMfrReadVaux_answers {io s} : Answers (writes (.mfrReadVaux io)) s (execMfrReadVaux io s) := by
  unfold execMfrReadVaux
  exact .next pmRo_evolves.mono

theorem execMfrReadVhold_answers {io s} : Answers (writes (.mfrReadVhold io)) s (execMfrReadVhold io s) := by
  unfold execMfrReadVhold
  exact .next pmRo_evolves.mono

theorem execInvalidPmbusCommand_answers {code bytes io s} :
    Answers (writes (.invalidPmbusCommand code bytes io)) s (execInvalidPmbusCommand code bytes io s) := by
  unfold execInvalidPmbusCommand
  refine .next (pmBus_evolves (hW := by rfl) (fun t => ?_) (fun _ _ => noPut_evolves.mono))
  dsimp only
  exact cmlSet_evolves.mono

theorem execAlertResponse_answers {s} : Answers (writes (.alertResponse )) s (execAlertResponse s) := by
  unfold execAlertResponse
  exact .next (.ite .set_resp (.trans pmOpen_evolves.mono (.ite (.trans setSbm_evolves.mono .set_resp) .set_resp)))

theorem execSmbusTimeout_answers {s} : Answers (writes (.smbusTimeout )) s (execSmbusTimeout s) := by
  unfold execSmbusTimeout
  exact .next (.ite .refl cmlSet_evolves.mono)

theorem mctpIn_evolves {s pcie control dst act} {W : Blocks}
    (hW : Blocks.le { regs := true, sbm := true, resp := true } W = true)
    (h4 : ∀ t, Evolves W t (act t)) :
    Evolves W s (mctpIn s pcie control dst act) := by
  unfold mctpIn
  exact .ite (.set_resp (Blocks.le_trans (by rfl) hW))
    (.trans (.ite (.set_resp (Blocks.le_trans (by rfl) hW)) (pmOpen_evolves.via hW))
       (.ite (.ite .refl (cmlSet_evolves.via hW)) (.ite .refl ((h4 ..)))))

theorem execSetEndpointId_answers {pcie dst eid s} : Answers (writes (.setEndpointId pcie dst eid)) s (execSetEndpointId pcie dst eid s) := by
  unfold execSetEndpointId
  exact .next (mctpIn_evolves (hW := by rfl) (fun _ => .ite .set_resp (.trans setF_evolves.mono .set_resp)))

theorem execGetEndpointId_answers {pcie dst s} : Answers (writes (.getEndpointId pcie dst)) s (execGetEndpointId pcie dst s) := by
  unfold execGetEndpointId
  exact .next (mctpIn_evolves (hW := by rfl) (fun _ => mctpReply_evolves.mono))

theorem execGetEndpointUuid_answers {pcie dst s} : Answers (writes (.getEndpointUuid pcie dst)) s (execGetEndpointUuid pcie dst s) := by
  unfold execGetEndpointUuid
  exact .next (mctpIn_evolves (hW := by rfl) (fun _ => mctpReply_evolves.mono))

theorem execGetMctpVersionSupport_answers {pcie dst s} :
    Answers (writes (.getMctpVersionSupport pcie dst)) s (execGetMctpVersionSupport pcie dst s) := by
  unfold execGetMctpVersionSupport
  exact .next (mctpIn_evolves (hW := by rfl) (fun _ => mctpReply_evolves.mono))

theorem execGetMessageTypeSupport_answers {pcie dst s} :
    Answers (writes (.getMessageTypeSupport pcie dst)) s (execGetMessageTypeSupport pcie dst s) := by
  unfold execGetMessageTypeSupport
  exact .next (mctpIn_evolves (hW := by rfl) (fun _ => mctpReply_evolves.mono))

theorem execMctpUnsupportedCmd_answers {pcie dst s} : Answers (writes (.mctpUnsupportedCmd pcie dst)) s (execMctpUnsupportedCmd pcie dst s) := by
  unfold execMctpUnsupportedCmd
  exact .next (mctpIn_evolves (hW := by rfl) (fun _ => .set_resp))

theorem spdmTake_evolves {s pcie r signed} : Evolves { sbm := true } s (spdmTake s pcie r signed) := by
  unfold spdmTake
  exact setSbm_evolves.mono

theorem spdmErr_evolves {s pcie e} : Evolves { sbm := true } s (spdmErr s pcie e) := by
  unfold spdmErr
  exact spdmTake_evolves.mono

theorem spdmStage_evolves {s pcie n} : Evolves { sbm := true } s (spdmStage s pcie n) := by
  unfold spdmStage
  exact setSbm_evolves.mono

theorem spdmIn_evolves {s pcie dst need act} {W : Blocks}
    (hW : Blocks.le { regs := true, sbm := true, resp := true } W = true)
    (h4 : ∀ t, Evolves W t (act t)) :
    Evolves W s (spdmIn s pcie dst need act) := by
  unfold spdmIn
  exact mctpIn_evolves (hW := Blocks.le_trans (by rfl) hW)
    (fun _ => .ite (.set_resp (Blocks.le_trans (by rfl) hW)) (.ite (spdmErr_evolves.via hW) ((h4 ..))))

theorem execGetVersion_answers {pcie dst s} : Answers (writes (.getVersion pcie dst)) s (execGetVersion pcie dst s) := by
  unfold execGetVersion
  exact .next (spdmIn_evolves (hW := by rfl) (fun _ => .trans spdmStage_evolves.mono spdmTake_evolves.mono))

theorem execGetCapabilities_answers {pcie dst s} : Answers (writes (.getCapabilities pcie dst)) s (execGetCapabilities pcie dst s) := by
  unfold execGetCapabilities
  exact .next (spdmIn_evolves (hW := by rfl) (fun _ => .trans spdmStage_evolves.mono spdmTake_evolves.mono))

theorem execNegotiateAlgorithms_answers {pcie dst offers s} :
    Answers (writes (.negotiateAlgorithms pcie dst offers)) s (execNegotiateAlgorithms pcie dst offers s) := by
  unfold execNegotiateAlgorithms
  exact .next (spdmIn_evolves (hW := by rfl) (fun _ => .ite (.trans spdmStage_evolves.mono spdmTake_evolves.mono) spdmErr_evolves.mono))

theorem execGetDigests_answers {pcie dst s} : Answers (writes (.getDigests pcie dst)) s (execGetDigests pcie dst s) := by
  unfold execGetDigests
  exact .next (spdmIn_evolves (hW := by rfl) (fun _ => .ite spdmErr_evolves.mono spdmTake_evolves.mono))

theorem execGetCertificate_answers {pcie dst slot off len s} :
    Answers (writes (.getCertificate pcie dst slot off len)) s (execGetCertificate pcie dst slot off len s) := by
  unfold execGetCertificate
  exact .next (spdmIn_evolves (hW := by rfl) (fun _ => .ite spdmErr_evolves.mono (.ite spdmErr_evolves.mono spdmTake_evolves.mono)))

theorem spdmSign_evolves {s} : Evolves { freeCtr := true } s (spdmSign s).2 := by
  unfold spdmSign
  exact .bindSnd drawNat_evolves.mono (fun _ _ => .refl)

theorem execChallenge_answers {pcie dst slot summary s} :
    Answers (writes (.challenge pcie dst slot summary)) s (execChallenge pcie dst slot summary s) := by
  unfold execChallenge
  exact .next (spdmIn_evolves (hW := by rfl) (fun _ => .ite spdmErr_evolves.mono (.bind spdmSign_evolves.mono (fun _ _ => spdmTake_evolves.mono))))

theorem execGetMeasurements_answers {pcie dst slot index signed s} :
    Answers (writes (.getMeasurements pcie dst slot index signed)) s (execGetMeasurements pcie dst slot index signed s) := by
  unfold execGetMeasurements
  exact .next
    (spdmIn_evolves (hW := by rfl)
       (fun _ => .ite spdmErr_evolves.mono (.ite (.bind spdmSign_evolves.mono (fun _ _ => spdmTake_evolves.mono)) spdmTake_evolves.mono)))

theorem execSpdmUnsupportedRequest_answers {pcie dst s} :
    Answers (writes (.spdmUnsupportedRequest pcie dst)) s (execSpdmUnsupportedRequest pcie dst s) := by
  unfold execSpdmUnsupportedRequest
  exact .next (spdmIn_evolves (hW := by rfl) (fun _ => spdmErr_evolves.mono))

theorem execSpdmResponseDone_answers {s} : Answers (writes (.spdmResponseDone )) s (execSpdmResponseDone s) := by
  unfold execSpdmResponseDone
  refine .next ?_
  split
  · exact .trans .set_resp setSbm_evolves.mono
  · exact .refl

/-! ## Jtag -/

theorem tapSelect_evolves {s ir pins out} : Evolves { jtag := true, resp := true } s (tapSelect s ir pins out) := by
  unfold tapSelect
  exact .ite .set_jtag_resp .set_resp

theorem tapGuard_evolves {s} : Evolves { regs := true, drain := true, recd := true, jtag := true } s (tapGuard s) := by
  unfold tapGuard
  exact .ite (.trans .set_jtag (.ite .refl (.trans raise_evolves.mono record_evolves.mono))) .refl

theorem execTestLogicReset_answers {s} : Answers (writes (.testLogicReset )) s (execTestLogicReset s) := by
  unfold execTestLogicReset
  exact .next tapSelect_evolves.mono

theorem execExtest_answers {cells s} : Answers (writes (.extest cells)) s (execExtest cells s) := by
  unfold execExtest
  exact .trans (.ite .set_jtag .refl) (.next (.trans tapSelect_evolves.mono tapGuard_evolves.mono))

theorem execSamplePreload_answers {cells s} : Answers (writes (.samplePreload cells)) s (execSamplePreload cells s) := by
  unfold execSamplePreload
  refine .trans (t := (drawNat s (2 ^ 212)).2) drawNat_evolves.mono ?_
  exact .trans (t := if tapOn (drawNat s (2 ^ 212)).2 then { (drawNat s (2 ^ 212)).2 with jtag := { s.jtag with cells := cells } } else (drawNat s (2 ^ 212)).2)
    (.ite .set_jtag .refl) (.next tapSelect_evolves.mono)

theorem execIdcode_answers {s} : Answers (writes (.idcode )) s (execIdcode s) := by
  unfold execIdcode
  exact .next tapSelect_evolves.mono

theorem execHighz_answers {s} : Answers (writes (.highz )) s (execHighz s) := by
  unfold execHighz
  exact .next (.trans tapSelect_evolves.mono tapGuard_evolves.mono)

theorem execClamp_answers {s} : Answers (writes (.clamp )) s (execClamp s) := by
  unfold execClamp
  exact .next (.trans tapSelect_evolves.mono tapGuard_evolves.mono)

theorem execBypass_answers {s} : Answers (writes (.bypass )) s (execBypass s) := by
  unfold execBypass
  exact .next tapSelect_evolves.mono

theorem execSecUnlock_answers {token s} : Answers (writes (.secUnlock token)) s (execSecUnlock token s) := by
  unfold execSecUnlock
  exact .trans tapSelect_evolves.mono (.next (.ite tokenSubmit_evolves.mono .refl))

theorem execSecNonce_answers {s} : Answers (writes (.secNonce )) s (execSecNonce s) := by
  unfold execSecNonce
  split
  · exact .trans (t := (nonceNew s).2) nonceNew_evolves.mono (.next tapSelect_evolves.mono)
  · exact .trans (t := (drawNat s (2 ^ 256)).2) drawNat_evolves.mono (.next tapSelect_evolves.mono)

theorem coreDbg_evolves {s core act} {W : Blocks}
    (hW : Blocks.le { jtag := true, resp := true } W = true)
    (h2 : ∀ t, Evolves W t (act t).2) :
    Evolves W s (coreDbg s core act) := by
  unfold coreDbg
  extract_lets out
  refine .ite ?_ (.set_resp (Blocks.le_trans (by rfl) hW))
  refine .trans (t := (if coreOpen s core.val then act s else (0, s)).2) (.iteSnd (h2 ..) .refl) ?_
  exact .trans (.set_jtag (Blocks.le_trans (by rfl) hW)) (tapSelect_evolves.via hW)

theorem dbgOpen_evolves {s} : Evolves { freeCtr := true } s (dbgOpen s).2 := by
  unfold dbgOpen
  exact drawNat_evolves.mono

theorem dbgHalt_evolves {s n} : Evolves { regs := true, pb := true, fq := true, fwc := true, cap := true } s (dbgHalt s n) := by
  unfold dbgHalt
  exact .ite (.trans setCore_evolves coreSeen_evolves.mono) .refl

theorem dbgResume_evolves {s n} : Evolves { regs := true, pb := true, fq := true, fwc := true, cap := true } s (dbgResume s n) := by
  unfold dbgResume
  exact .ite (.trans setCore_evolves coreSeen_evolves.mono) .refl

theorem dbgAccess_evolves {s n f} {W : Blocks}
    (hW : Blocks.le { fwc := true, resp := true, freeCtr := true } W = true)
    (h2 : ∀ t, Evolves W t (f t)) :
    Evolves W s (dbgAccess s n f).2 := by
  unfold dbgAccess
  extract_lets c s1 r s2
  have h1 : Evolves W s s1 :=
    .trans (t := setCore { s with resp := .none } n (fun c => { c with halted := false }))
      (.trans (t := { s with resp := .none }) (.set_resp (Blocks.le_trans (by rfl) hW)) (setCore_evolves (Blocks.le_trans (by rfl) hW) (fun _ => rfl))) (h2 ..)
  refine h1.trans (.trans (t := s2) (setCore_evolves (Blocks.le_trans (by rfl) hW) (fun _ => rfl)) ?_)
  clear_value r s2
  split
  · exact .refl
  · exact dbgOpen_evolves.via hW

theorem execCoreDbgHalt_answers {core s} : Answers (writes (.coreDbgHalt core)) s (execCoreDbgHalt core s) := by
  unfold execCoreDbgHalt
  exact .next (coreDbg_evolves (hW := by rfl) (fun _ => .trans dbgHalt_evolves.mono dbgOpen_evolves.mono))

theorem execCoreDbgResume_answers {core s} : Answers (writes (.coreDbgResume core)) s (execCoreDbgResume core s) := by
  unfold execCoreDbgResume
  exact .next (coreDbg_evolves (hW := by rfl) (fun _ => .trans dbgResume_evolves.mono dbgOpen_evolves.mono))

theorem execCoreDbgStep_answers {core act pmp s} : Answers (writes (.coreDbgStep core act pmp)) s (execCoreDbgStep core act pmp s) := by
  unfold execCoreDbgStep
  extract_lets n
  refine .next (coreDbg_evolves (hW := by rfl) fun t => ?_)
  split
  · extract_lets u s1 s2
    have h2 : Evolves (writes (.coreDbgStep core act pmp)) s1 s2 := by
      unfold s2
      split
      · exact .refl
      · exact coreLoad_evolves.mono
      · exact coreStore_evolves.mono
    exact .trans (t := s1) setCore_evolves (h2.trans (.trans setCore_evolves dbgOpen_evolves.mono))
  · exact dbgOpen_evolves.mono

theorem dbgReadReg_evolves {s n r} : Evolves { fwc := true, freeCtr := true } s (dbgReadReg s n r).2 := by
  unfold dbgReadReg
  split
  · exact .refl
  · refine .trans (t := (dbgOpen s).2) dbgOpen_evolves.mono ?_
    generalize dbgOpen s = p
    obtain ⟨v, t⟩ := p
    dsimp only
    split
    · exact setCore_evolves
    · exact .refl

theorem execCoreDbgReadReg_answers {core reg s} : Answers (writes (.coreDbgReadReg core reg)) s (execCoreDbgReadReg core reg s) := by
  unfold execCoreDbgReadReg
  exact .next (coreDbg_evolves (hW := by rfl) (fun _ => dbgReadReg_evolves.mono))

theorem execCoreDbgWriteReg_answers {core reg val s} : Answers (writes (.coreDbgWriteReg core reg val)) s (execCoreDbgWriteReg core reg val s) := by
  unfold execCoreDbgWriteReg
  exact .next (coreDbg_evolves (hW := by rfl) (fun _ => .trans (.ite setCore_evolves .refl) dbgOpen_evolves.mono))

theorem execCoreDbgReadMem_answers {core addr s} : Answers (writes (.coreDbgReadMem core addr)) s (execCoreDbgReadMem core addr s) := by
  unfold execCoreDbgReadMem
  exact .next (coreDbg_evolves (hW := by rfl) (fun _ => dbgAccess_evolves (hW := by rfl) (fun _ => coreLoad_evolves.mono)))

theorem execCoreDbgWriteMem_answers {core addr val s} :
    Answers (writes (.coreDbgWriteMem core addr val)) s (execCoreDbgWriteMem core addr val s) := by
  unfold execCoreDbgWriteMem
  exact .next (coreDbg_evolves (hW := by rfl) (fun _ => dbgAccess_evolves (hW := by rfl) (fun _ => coreStore_evolves.mono)))

theorem execCoreDbgStatus_answers {core s} : Answers (writes (.coreDbgStatus core)) s (execCoreDbgStatus core s) := by
  unfold execCoreDbgStatus
  exact .next (coreDbg_evolves (hW := by rfl) (fun _ => dbgOpen_evolves.mono))

/-! ## EstFw -/

theorem baseStore_evolves {s b} : Evolves { regs := true, drain := true, recd := true, nvs := true, est := true } s (baseStore s b) := by
  unfold baseStore
  exact .ite nvRefuse_evolves.mono
    (.ite nvRefuse_evolves.mono (.trans putRecord_evolves.mono (.trans nvDone_evolves.mono (.trans .set_est stage_evolves.mono))))

theorem baseReload_evolves {s} : Evolves (.allBut { jtag := true, pending := true }) s (baseReload s) := by
  unfold baseReload
  exact .trans .set_est (.ite .refl (.trans fwPuts_evolves.mono fwCommit_evolves.mono))

theorem baseServe_evolves {s} : Evolves (.allBut { jtag := true, pending := true }) s (baseServe s) := by
  unfold baseServe
  exact .ite .refl (.trans (.ite baseReload_evolves.mono .refl) (.ite .refl (.trans .set_est (.forEach fun _ _ => baseStore_evolves.mono))))

/-! ## Tick -/

theorem intLook_evolves {s} : Evolves { hir := true } s (intLook s) := by
  unfold intLook
  exact .trans (.forEach fun _ _ => .ite signal_evolves.mono .refl) setHir_evolves.mono

theorem irqLook_evolves {s} : Evolves { fwc := true } s (irqLook s) := by
  unfold irqLook
  exact .set_fwc

theorem mtimeTick_evolves {s} : Evolves { fwc := true } s (mtimeTick s) := by
  unfold mtimeTick
  exact .ite .refl .set_fwc

theorem tick_evolves {s} : Evolves (.allBut { pending := true }) s (tick s) := by
  unfold tick
  exact .ite .refl
    (.trans
       (.trans
          (.trans
             (.trans (.trans (.trans (.trans tbEdge_evolves.mono mtimeTick_evolves.mono) pmRefresh_evolves.mono) tapGuard_evolves.mono)
                (intLook_evolves.mono)) irqLook_evolves.mono) bmcCommit_evolves.mono) baseServe_evolves.mono)

end Sys2Proof.Machine
end

section
/-! PROOF. What every command and every step leaves alone and keeps (O4 to O7, O11 to O13). -/

namespace Sys2Proof.Machine
open Host
set_option Elab.async false
/-! ## Every command, and a step -/

/-- Every command answers a next state, by a change within the blocks that `writes` lists for it. -/
theorem exec_answers (c : Instr) (s : State) : Answers (writes c) s (exec c s) := by
  cases c with
  | registerWrite => exact execRegisterWrite_answers
  | hostUnalignedAccess => exact execHostUnalignedAccess_answers
  | wideLowRead => exact execWideLowRead_answers
  | wideHighWrite => exact execWideHighWrite_answers
  | rcRead => exact execRcRead_answers
  | porRelease => exact execPorRelease_answers
  | porstAssert => exact execPorstAssert_answers
  | powerOnSequenceDone => exact execPowerOnSequenceDone_answers
  | runSupplyLoss => exact execRunSupplyLoss_answers
  | vauxHoldLoss => exact execVauxHoldLoss_answers
  | decafOvervoltage => exact execDecafOvervoltage_answers
  | vinArmed => exact execVinArmed_answers
  | commitRequest => exact execCommitRequest_answers
  | commitCancel => exact execCommitCancel_answers
  | tickCommit => exact execTickCommit_answers
  | budgetEpochTick => exact execBudgetEpochTick_answers
  | staleEpochFloors => exact execStaleEpochFloors_answers
  | localSealed => exact execLocalSealed_answers
  | recordProduce => exact execRecordProduce_answers
  | arbiterGrant => exact execArbiterGrant_answers
  | lossRecord => exact execLossRecord_answers
  | activeCopySbe => exact execActiveCopySbe_answers
  | activeCopyDbe => exact execActiveCopyDbe_answers
  | captureEvent => exact execCaptureEvent_answers
  | ppsPulse => exact execPpsPulse_answers
  | syncInterval => exact execSyncInterval_answers
  | sync => exact execSync_answers
  | syncResp => exact execSyncResp_answers
  | syncFin => exact execSyncFin_answers
  | holdoverEntry => exact execHoldoverEntry_answers
  | holdoverLimit => exact execHoldoverLimit_answers
  | rateLimit => exact execRateLimit_answers
  | refclkLoss => exact execRefclkLoss_answers
  | pllCtlUnlock => exact execPllCtlUnlock_answers
  | refclkResume => exact execRefclkResume_answers
  | refclkOkRestored => exact execRefclkOkRestored_answers
  | pllCtlRelock => exact execPllCtlRelock_answers
  | xtalFail => exact execXtalFail_answers
  | clkFwSourceRestored => exact execClkFwSourceRestored_answers
  | clkFwReturn => exact execClkFwReturn_answers
  | aonFault => exact execAonFault_answers
  | pcieRefclkLoss => exact execPcieRefclkLoss_answers
  | deviceReset => exact execDeviceReset_answers
  | warmReset => exact execWarmReset_answers
  | controlPlaneReset => exact execControlPlaneReset_answers
  | dataPlaneReset => exact execDataPlaneReset_answers
  | managementPlaneReset => exact execManagementPlaneReset_answers
  | mgmtResetTakeEffect => exact execMgmtResetTakeEffect_answers
  | deviceResetEnd => exact execDeviceResetEnd_answers
  | warmResetEnd => exact execWarmResetEnd_answers
  | dischargeLimitExpiry => exact execDischargeLimitExpiry_answers
  | pciePerst => exact execPciePerst_answers
  | hotReset => exact execHotReset_answers
  | flr => exact execFlr_answers
  | startRequest => exact execStartRequest_answers
  | stopRequest => exact execStopRequest_answers
  | startStage => exact execStartStage_answers
  | softStartHoldEnd => exact execSoftStartHoldEnd_answers
  | setpointReached => exact execSetpointReached_answers
  | channelInRegulation => exact execChannelInRegulation_answers
  | softStartTimeout => exact execSoftStartTimeout_answers
  | pgExcursion => exact execPgExcursion_answers
  | dischargeRailDone => exact execDischargeRailDone_answers
  | brownoutEntry => exact execBrownoutEntry_answers
  | resetThresholdGlitch => exact execResetThresholdGlitch_answers
  | brownoutExit => exact execBrownoutExit_answers
  | heldLoadBegin => exact execHeldLoadBegin_answers
  | imageLoadGo => exact execImageLoadGo_answers
  | imageLoadAbort => exact execImageLoadAbort_answers
  | imageFetchDone => exact execImageFetchDone_answers
  | imageVerifyDone => exact execImageVerifyDone_answers
  | partialImageTick => exact execPartialImageTick_answers
  | refillDone => exact execRefillDone_answers
  | scrubSlot => exact execScrubSlot_answers
  | frameDigestDbe => exact execFrameDigestDbe_answers
  | fastSample => exact execFastSample_answers
  | ms1Sample => exact execMs1Sample_answers
  | khz10Sample => exact execKhz10Sample_answers
  | fabricParityError => exact execFabricParityError_answers
  | xslotFallback => exact execXslotFallback_answers
  | xdevSyncErr => exact execXdevSyncErr_answers
  | xslot => exact execXslot_answers
  | periodStart => exact execPeriodStart_answers
  | phaseSlotEdge => exact execPhaseSlotEdge_answers
  | negativeCurrentLimit => exact execNegativeCurrentLimit_answers
  | peakLimit => exact execPeakLimit_answers
  | phaseShort => exact execPhaseShort_answers
  | balanceUpdate => exact execBalanceUpdate_answers
  | phaseAdd => exact execPhaseAdd_answers
  | phaseShed => exact execPhaseShed_answers
  | senseSwitch => exact execSenseSwitch_answers
  | stageFaultTmon => exact execStageFaultTmon_answers
  | stageFaultInput => exact execStageFaultInput_answers
  | sfltWindowEnd => exact execSfltWindowEnd_answers
  | phaseReturn => exact execPhaseReturn_answers
  | imonRange => exact execImonRange_answers
  | dripEntry => exact execDripEntry_answers
  | dripSleep => exact execDripSleep_answers
  | dripWake => exact execDripWake_answers
  | dripBurstExit => exact execDripBurstExit_answers
  | memberLoss => exact execMemberLoss_answers
  | dutyWordLoss => exact execDutyWordLoss_answers
  | fastDuty => exact execFastDuty_answers
  | fastIrep => exact execFastIrep_answers
  | fastSync => exact execFastSync_answers
  | boostStartBlock => exact execBoostStartBlock_answers
  | boostEndBlock => exact execBoostEndBlock_answers
  | overloadCompare => exact execOverloadCompare_answers
  | overloadShutdown => exact execOverloadShutdown_answers
  | overvoltageCrowbar => exact execOvervoltageCrowbar_answers
  | thermalTrip => exact execThermalTrip_answers
  | stageOverTemperature => exact execStageOverTemperature_answers
  | supplyWarning => exact execSupplyWarning_answers
  | warningClear => exact execWarningClear_answers
  | vinHighAlarm => exact execVinHighAlarm_answers
  | vinHiClear => exact execVinHiClear_answers
  | vholdExhausted => exact execVholdExhausted_answers
  | vholdLow => exact execVholdLow_answers
  | protLatchClear => exact execProtLatchClear_answers
  | siteCalSweep => exact execSiteCalSweep_answers
  | siteDroopCrossing => exact execSiteDroopCrossing_answers
  | siteDrpRelease => exact execSiteDrpRelease_answers
  | siteStretchEnd => exact execSiteStretchEnd_answers
  | siteTrip => exact execSiteTrip_answers
  | droopFlagRise => exact execDroopFlagRise_answers
  | boostEnd => exact execBoostEnd_answers
  | boostGapEnd => exact execBoostGapEnd_answers
  | freezeEnd => exact execFreezeEnd_answers
  | droopStuck => exact execDroopStuck_answers
  | pbMinArm => exact execPbMinArm_answers
  | postlineTrainingDone => exact execPostlineTrainingDone_answers
  | upLaneFailure => exact execUpLaneFailure_answers
  | fallbackRetrain => exact execFallbackRetrain_answers
  | tsyncSend => exact execTsyncSend_answers
  | tsync => exact execTsync_answers
  | downLaneFailure => exact execDownLaneFailure_answers
  | intent => exact execIntent_answers
  | commBegin => exact execCommBegin_answers
  | commEnd => exact execCommEnd_answers
  | fack => exact execFack_answers
  | vmin => exact execVmin_answers
  | cfgAck => exact execCfgAck_answers
  | coreOff => exact execCoreOff_answers
  | coreOn => exact execCoreOn_answers
  | calOk => exact execCalOk_answers
  | calFail => exact execCalFail_answers
  | siteFault => exact execSiteFault_answers
  | downLoss => exact execDownLoss_answers
  | vrep => exact execVrep_answers
  | temp => exact execTemp_answers
  | cpm => exact execCpm_answers
  | stretch => exact execStretch_answers
  | bale => exact execBale_answers
  | freq => exact execFreq_answers
  | bal => exact execBal_answers
  | cfg => exact execCfg_answers
  | arm => exact execArm_answers
  | disarm => exact execDisarm_answers
  | nak => exact execNak_answers
  | fallback => exact execFallback_answers
  | resume => exact execResume_answers
  | reportInterval => exact execReportInterval_answers
  | intDataWord => exact execIntDataWord_answers
  | freqResend => exact execFreqResend_answers
  | cfgResend => exact execCfgResend_answers
  | targetEvaluation => exact execTargetEvaluation_answers
  | freqStepSend => exact execFreqStepSend_answers
  | tickFreqSend => exact execTickFreqSend_answers
  | powerLoopUpdate => exact execPowerLoopUpdate_answers
  | thermalLoopUpdate => exact execThermalLoopUpdate_answers
  | thermalGuardRelease => exact execThermalGuardRelease_answers
  | contention => exact execContention_answers
  | snapshot => exact execSnapshot_answers
  | ditherChip => exact execDitherChip_answers
  | estimatorRefresh => exact execEstimatorRefresh_answers
  | ncrEnter => exact execNcrEnter_answers
  | captureTimeout => exact execCaptureTimeout_answers
  | calibrationVisit => exact execCalibrationVisit_answers
  | calibrationReading => exact execCalibrationReading_answers
  | heavyGrant => exact execHeavyGrant_answers
  | heavyLaunch => exact execHeavyLaunch_answers
  | frank => exact execFrank_answers
  | fqGrant => exact execFqGrant_answers
  | fqSchedHb => exact execFqSchedHb_answers
  | schedTimeout => exact execSchedTimeout_answers
  | fixedRateArm => exact execFixedRateArm_answers
  | rampUpdate => exact execRampUpdate_answers
  | deadlineExpiry => exact execDeadlineExpiry_answers
  | frankCeilingEnd => exact execFrankCeilingEnd_answers
  | ballastUpdate => exact execBallastUpdate_answers
  | baleGap => exact execBaleGap_answers
  | laneSignalDetect => exact execLaneSignalDetect_answers
  | laneEqDone => exact execLaneEqDone_answers
  | laneLock => exact execLaneLock_answers
  | laneIdentDone => exact execLaneIdentDone_answers
  | laneTrainTimeout => exact execLaneTrainTimeout_answers
  | laneWaitEnd => exact execLaneWaitEnd_answers
  | laneLockLoss => exact execLaneLockLoss_answers
  | invalidBlock => exact execInvalidBlock_answers
  | credit => exact execCredit_answers
  | linkAck => exact execLinkAck_answers
  | linkNak => exact execLinkNak_answers
  | abortBlock => exact execAbortBlock_answers
  | frameReceive => exact execFrameReceive_answers
  | replayTimeout => exact execReplayTimeout_answers
  | creditTimeout => exact execCreditTimeout_answers
  | laneTransmitSlot => exact execLaneTransmitSlot_answers
  | hold => exact execHold_answers
  | holdExpiry => exact execHoldExpiry_answers
  | gthrot => exact execGthrot_answers
  | trip => exact execTrip_answers
  | droop => exact execDroop_answers
  | droopCellFreezeEnd => exact execDroopCellFreezeEnd_answers
  | reduce => exact execReduce_answers
  | reductionTimeout => exact execReductionTimeout_answers
  | operand => exact execOperand_answers
  | imageSeg => exact execImageSeg_answers
  | recGather => exact execRecGather_answers
  | bulk => exact execBulk_answers
  | bulkTimeout => exact execBulkTimeout_answers
  | dlqPop => exact execDlqPop_answers
  | claimExpiry => exact execClaimExpiry_answers
  | heartbeatInstant => exact execHeartbeatInstant_answers
  | heartbeatMissed => exact execHeartbeatMissed_answers
  | heartbeat => exact execHeartbeat_answers
  | demandReductionStart => exact execDemandReductionStart_answers
  | allocationCompute => exact execAllocationCompute_answers
  | allocGo => exact execAllocGo_answers
  | alloc => exact execAlloc_answers
  | localAllocationSplit => exact execLocalAllocationSplit_answers
  | budgetCompare => exact execBudgetCompare_answers
  | groupCycleStart => exact execGroupCycleStart_answers
  | groupReductionResult => exact execGroupReductionResult_answers
  | groupGo => exact execGroupGo_answers
  | commitAnn => exact execCommitAnn_answers
  | domainCommitEffect => exact execDomainCommitEffect_answers
  | commitRefuse => exact execCommitRefuse_answers
  | joinReqSend => exact execJoinReqSend_answers
  | joinReq => exact execJoinReq_answers
  | joinAck => exact execJoinAck_answers
  | member => exact execMember_answers
  | noStandby => exact execNoStandby_answers
  | coreLoad => exact execCoreLoad_answers
  | coreStore => exact execCoreStore_answers
  | storeBufferDrain => exact execStoreBufferDrain_answers
  | fence => exact execFence_answers
  | fenceI => exact execFenceI_answers
  | amo => exact execAmo_answers
  | lr => exact execLr_answers
  | sc => exact execSc_answers
  | mplaneWrite => exact execMplaneWrite_answers
  | cacheFillDone => exact execCacheFillDone_answers
  | writebackDrain => exact execWritebackDrain_answers
  | mbxFlagWrite => exact execMbxFlagWrite_answers
  | mbxDbSet => exact execMbxDbSet_answers
  | mbxMsg => exact execMbxMsg_answers
  | mbxMsgPop => exact execMbxMsgPop_answers
  | mtimeCompare => exact execMtimeCompare_answers
  | memoryEccError => exact execMemoryEccError_answers
  | cacheEccError => exact execCacheEccError_answers
  | registerAccessTimeout => exact execRegisterAccessTimeout_answers
  | fwLoadGo => exact execFwLoadGo_answers
  | fwLoadAbort => exact execFwLoadAbort_answers
  | fwVerifyDone => exact execFwVerifyDone_answers
  | fwWriteDone => exact execFwWriteDone_answers
  | release => exact execRelease_answers
  | restart => exact execRestart_answers
  | readyWe => exact execReadyWe_answers
  | kick => exact execKick_answers
  | restartSelf => exact execRestartSelf_answers
  | watchdogExpiry => exact execWatchdogExpiry_answers
  | readyTimeout => exact execReadyTimeout_answers
  | coreRestartRelease => exact execCoreRestartRelease_answers
  | quiesceTimeout => exact execQuiesceTimeout_answers
  | secWatchdog => exact execSecWatchdog_answers
  | fwcWdogWrite => exact execFwcWdogWrite_answers
  | ringEnable => exact execRingEnable_answers
  | ringDisable => exact execRingDisable_answers
  | sqDoorbell => exact execSqDoorbell_answers
  | cqDoorbell => exact execCqDoorbell_answers
  | commandFetch => exact execCommandFetch_answers
  | completionPost => exact execCompletionPost_answers
  | telemetrySample => exact execTelemetrySample_answers
  | interruptAggregationTimer => exact execInterruptAggregationTimer_answers
  | vfDisable => exact execVfDisable_answers
  | identify => exact execIdentify_answers
  | status => exact execStatus_answers
  | imageLoad => exact execImageLoad_answers
  | fwLoad => exact execFwLoad_answers
  | coreCtl => exact execCoreCtl_answers
  | start => exact execStart_answers
  | reset => exact execReset_answers
  | commit => exact execCommit_answers
  | regRead => exact execRegRead_answers
  | latchClear => exact execLatchClear_answers
  | partAssign => exact execPartAssign_answers
  | partSet => exact execPartSet_answers
  | partEnv => exact execPartEnv_answers
  | partSnapshot => exact execPartSnapshot_answers
  | telemCfg => exact execTelemCfg_answers
  | recRead => exact execRecRead_answers
  | recSpill => exact execRecSpill_answers
  | baseline => exact execBaseline_answers
  | domMember => exact execDomMember_answers
  | domBudget => exact execDomBudget_answers
  | bulkSend => exact execBulkSend_answers
  | bulkRecv => exact execBulkRecv_answers
  | abort => exact execAbort_answers
  | crossingParityError => exact execCrossingParityError_answers
  | dmaWriteAbandon => exact execDmaWriteAbandon_answers
  | hostRequestTimeout => exact execHostRequestTimeout_answers
  | drainStatusExpiry => exact execDrainStatusExpiry_answers
  | postmark => exact execPostmark_answers
  | recPostmarkCmd => exact execRecPostmarkCmd_answers
  | recPutGo => exact execRecPutGo_answers
  | recTailWrite => exact execRecTailWrite_answers
  | spillWrite => exact execSpillWrite_answers
  | tailCommitDone => exact execTailCommitDone_answers
  | sectorEraseDone => exact execSectorEraseDone_answers
  | nvsScanDone => exact execNvsScanDone_answers
  | append => exact execAppend_answers
  | read => exact execRead_answers
  | readTail => exact execReadTail_answers
  | releaseTail => exact execReleaseTail_answers
  | countersNow => exact execCountersNow_answers
  | countersWrite => exact execCountersWrite_answers
  | page => exact execPage_answers
  | operation => exact execOperation_answers
  | clearFaults => exact execClearFaults_answers
  | writeProtect => exact execWriteProtect_answers
  | capability => exact execCapability_answers
  | smbalertMask => exact execSmbalertMask_answers
  | voutMode => exact execVoutMode_answers
  | voutCommand => exact execVoutCommand_answers
  | voutOvFaultLimit => exact execVoutOvFaultLimit_answers
  | ioutOcFaultLimit => exact execIoutOcFaultLimit_answers
  | otFaultLimit => exact execOtFaultLimit_answers
  | vinOvWarn => exact execVinOvWarn_answers
  | vinUvWarn => exact execVinUvWarn_answers
  | vinUvFaultLimit => exact execVinUvFaultLimit_answers
  | statusByte => exact execStatusByte_answers
  | statusWord => exact execStatusWord_answers
  | statusVout => exact execStatusVout_answers
  | statusIout => exact execStatusIout_answers
  | statusInput => exact execStatusInput_answers
  | statusTemperature => exact execStatusTemperature_answers
  | statusCml => exact execStatusCml_answers
  | statusMfrSpecific => exact execStatusMfrSpecific_answers
  | readVin => exact execReadVin_answers
  | readIin => exact execReadIin_answers
  | readPin => exact execReadPin_answers
  | readVout => exact execReadVout_answers
  | readIout => exact execReadIout_answers
  | readPout => exact execReadPout_answers
  | readTemperature1 => exact execReadTemperature1_answers
  | readTemperature2 => exact execReadTemperature2_answers
  | pmbusRevision => exact execPmbusRevision_answers
  | mfrId => exact execMfrId_answers
  | mfrModel => exact execMfrModel_answers
  | mfrRevision => exact execMfrRevision_answers
  | mfrSerial => exact execMfrSerial_answers
  | mfrBmcPowerCap => exact execMfrBmcPowerCap_answers
  | mfrReset => exact execMfrReset_answers
  | mfrDeviceState => exact execMfrDeviceState_answers
  | mfrReadVaux => exact execMfrReadVaux_answers
  | mfrReadVhold => exact execMfrReadVhold_answers
  | invalidPmbusCommand => exact execInvalidPmbusCommand_answers
  | alertResponse => exact execAlertResponse_answers
  | smbusTimeout => exact execSmbusTimeout_answers
  | setEndpointId => exact execSetEndpointId_answers
  | getEndpointId => exact execGetEndpointId_answers
  | getEndpointUuid => exact execGetEndpointUuid_answers
  | getMctpVersionSupport => exact execGetMctpVersionSupport_answers
  | getMessageTypeSupport => exact execGetMessageTypeSupport_answers
  | mctpUnsupportedCmd => exact execMctpUnsupportedCmd_answers
  | getVersion => exact execGetVersion_answers
  | getCapabilities => exact execGetCapabilities_answers
  | negotiateAlgorithms => exact execNegotiateAlgorithms_answers
  | getDigests => exact execGetDigests_answers
  | getCertificate => exact execGetCertificate_answers
  | challenge => exact execChallenge_answers
  | getMeasurements => exact execGetMeasurements_answers
  | spdmUnsupportedRequest => exact execSpdmUnsupportedRequest_answers
  | fuseArm => exact execFuseArm_answers
  | ownerHash => exact execOwnerHash_answers
  | ownerRevoke => exact execOwnerRevoke_answers
  | rootDisable => exact execRootDisable_answers
  | imgRb => exact execImgRb_answers
  | fwRb => exact execFwRb_answers
  | debugOff => exact execDebugOff_answers
  | bound => exact execBound_answers
  | fuseOperationDone => exact execFuseOperationDone_answers
  | nonce => exact execNonce_answers
  | submit => exact execSubmit_answers
  | lock => exact execLock_answers
  | debugTokenVerified => exact execDebugTokenVerified_answers
  | testLogicReset => exact execTestLogicReset_answers
  | extest => exact execExtest_answers
  | samplePreload => exact execSamplePreload_answers
  | idcode => exact execIdcode_answers
  | highz => exact execHighz_answers
  | clamp => exact execClamp_answers
  | bypass => exact execBypass_answers
  | secUnlock => exact execSecUnlock_answers
  | secNonce => exact execSecNonce_answers
  | coreDbgHalt => exact execCoreDbgHalt_answers
  | coreDbgResume => exact execCoreDbgResume_answers
  | coreDbgStep => exact execCoreDbgStep_answers
  | coreDbgReadReg => exact execCoreDbgReadReg_answers
  | coreDbgWriteReg => exact execCoreDbgWriteReg_answers
  | coreDbgReadMem => exact execCoreDbgReadMem_answers
  | coreDbgWriteMem => exact execCoreDbgWriteMem_answers
  | coreDbgStatus => exact execCoreDbgStatus_answers
  | activeSelWrite => exact execActiveSelWrite_answers
  | assetLock => exact execAssetLock_answers
  | planeResetEnd => exact execPlaneResetEnd_answers
  | droopFlagFall => exact execDroopFlagFall_answers
  | siteTripRelease => exact execSiteTripRelease_answers
  | siteCoreDomainChange => exact execSiteCoreDomainChange_answers
  | postlineCrcError => exact execPostlineCrcError_answers
  | frankSend => exact execFrankSend_answers
  | hintBallastSend => exact execHintBallastSend_answers
  | hostWindow2Write => exact execHostWindow2Write_answers
  | nvsCommandDone => exact execNvsCommandDone_answers
  | spdmResponseDone => exact execSpdmResponseDone_answers
  | secRebootDone => exact execSecRebootDone_answers
  | estimatorSample => exact execEstimatorSample_answers
  | pciePerstRelease => exact execPciePerstRelease_answers

theorem writes_pending (c : Instr) : (writes c).pending = false := by cases c <;> rfl

/-! ## What a change leaves alone -/

section
variable {W : Blocks} {s t : State}

theorem Evolves.regs_eq (h : Evolves W s t) (hW : W.regs = false) : t.regs = s.regs := by
  simpa [State.but, hW] using congrArg State.regs h.but

theorem Evolves.active_eq (h : Evolves W s t) (hW : W.active = false) : t.active = s.active := by
  simpa [State.but, hW] using congrArg State.active h.but

theorem Evolves.top_eq (h : Evolves W s t) (hW : W.top = false) : t.top = s.top := by
  simpa [State.but, hW] using congrArg State.top h.but

theorem Evolves.drain_eq (h : Evolves W s t) (hW : W.drain = false) : t.drain = s.drain := by
  simpa [State.but, hW] using congrArg State.drain h.but

theorem Evolves.bt_eq (h : Evolves W s t) (hW : W.bt = false) : t.bt = s.bt := by
  simpa [State.but, hW] using congrArg State.bt h.but

theorem Evolves.recd_eq (h : Evolves W s t) (hW : W.recd = false) : t.recd = s.recd := by
  simpa [State.but, hW] using congrArg State.recd h.but

theorem Evolves.tb_eq (h : Evolves W s t) (hW : W.tb = false) : t.tb = s.tb := by
  simpa [State.but, hW] using congrArg State.tb h.but

theorem Evolves.clk_eq (h : Evolves W s t) (hW : W.clk = false) : t.clk = s.clk := by
  simpa [State.but, hW] using congrArg State.clk h.but

theorem Evolves.ch_eq (h : Evolves W s t) (hW : W.ch = false) : t.ch = s.ch := by
  simpa [State.but, hW] using congrArg State.ch h.but

theorem Evolves.ph_eq (h : Evolves W s t) (hW : W.ph = false) : t.ph = s.ph := by
  simpa [State.but, hW] using congrArg State.ph h.but

theorem Evolves.quad_eq (h : Evolves W s t) (hW : W.quad = false) : t.quad = s.quad := by
  simpa [State.but, hW] using congrArg State.quad h.but

theorem Evolves.pb_eq (h : Evolves W s t) (hW : W.pb = false) : t.pb = s.pb := by
  simpa [State.but, hW] using congrArg State.pb h.but

theorem Evolves.fq_eq (h : Evolves W s t) (hW : W.fq = false) : t.fq = s.fq := by
  simpa [State.but, hW] using congrArg State.fq h.but

theorem Evolves.img_eq (h : Evolves W s t) (hW : W.img = false) : t.img = s.img := by
  simpa [State.but, hW] using congrArg State.img h.but

theorem Evolves.nvs_eq (h : Evolves W s t) (hW : W.nvs = false) : t.nvs = s.nvs := by
  simpa [State.but, hW] using congrArg State.nvs h.but

theorem Evolves.integ_eq (h : Evolves W s t) (hW : W.integ = false) : t.integ = s.integ := by
  simpa [State.but, hW] using congrArg State.integ h.but

theorem Evolves.fwc_eq (h : Evolves W s t) (hW : W.fwc = false) : t.fwc = s.fwc := by
  simpa [State.but, hW] using congrArg State.fwc h.but

theorem Evolves.fab_eq (h : Evolves W s t) (hW : W.fab = false) : t.fab = s.fab := by
  simpa [State.but, hW] using congrArg State.fab h.but

theorem Evolves.tvl_eq (h : Evolves W s t) (hW : W.tvl = false) : t.tvl = s.tvl := by
  simpa [State.but, hW] using congrArg State.tvl h.but

theorem Evolves.dom_eq (h : Evolves W s t) (hW : W.dom = false) : t.dom = s.dom := by
  simpa [State.but, hW] using congrArg State.dom h.but

theorem Evolves.est_eq (h : Evolves W s t) (hW : W.est = false) : t.est = s.est := by
  simpa [State.but, hW] using congrArg State.est h.but

theorem Evolves.cap_eq (h : Evolves W s t) (hW : W.cap = false) : t.cap = s.cap := by
  simpa [State.but, hW] using congrArg State.cap h.but

theorem Evolves.hir_eq (h : Evolves W s t) (hW : W.hir = false) : t.hir = s.hir := by
  simpa [State.but, hW] using congrArg State.hir h.but

theorem Evolves.sbm_eq (h : Evolves W s t) (hW : W.sbm = false) : t.sbm = s.sbm := by
  simpa [State.but, hW] using congrArg State.sbm h.but

theorem Evolves.sec_eq (h : Evolves W s t) (hW : W.sec = false) : t.sec = s.sec := by
  simpa [State.but, hW] using congrArg State.sec h.but

theorem Evolves.jtag_eq (h : Evolves W s t) (hW : W.jtag = false) : t.jtag = s.jtag := by
  simpa [State.but, hW] using congrArg State.jtag h.but

theorem Evolves.pending_eq (h : Evolves W s t) (hW : W.pending = false) : t.pending = s.pending := by
  simpa [State.but, hW] using congrArg State.pending h.but

theorem Evolves.resp_eq (h : Evolves W s t) (hW : W.resp = false) : t.resp = s.resp := by
  simpa [State.but, hW] using congrArg State.resp h.but

theorem Evolves.freeCtr_eq (h : Evolves W s t) (hW : W.freeCtr = false) : t.freeCtr = s.freeCtr := by
  simpa [State.but, hW] using congrArg State.freeCtr h.but

end

/-- A command that answers `t` comes to it by a change within the blocks that `writes` lists. -/
theorem exec_evolves {c : Instr} {s t : State} (h : exec c s = .next t) : Evolves (writes c) s t := by
  obtain ⟨u, hu, hev⟩ := exec_answers c s
  obtain rfl : u = t := Host.Outcome.next.inj (hu.symm.trans h)
  exact hev

/-- The fields of `Evolves` that a step keeps: taking the command off the queue writes no register, memory or fuse. -/
theorem step_evolves {s t : State} (h : step s = .next t) : Evolves (.allBut {}) s t := by
  unfold step at h
  split at h
  · obtain rfl := Host.Outcome.next.inj h
    exact tick_evolves.mono
  next c rest _ =>
    have hpop : Evolves (.allBut {}) s { s with pending := rest } := .put
    have hall : (writes c).le (.allBut {}) = true := by cases c <;> rfl
    exact hpop.trans ((exec_evolves h).mono hall)

/-- Settles O4: every arm of the dispatch answers (`exec_answers`), and no command writes the queue. -/
theorem everyCommandAnswers : Obligations.EveryCommandAnswers := by
  intro c s
  obtain ⟨t, ht, hev⟩ := exec_answers c s
  exact ⟨t, ht, hev.pending_eq (writes_pending c)⟩

/-- Settles O5: every function of the model that a step calls keeps the programmed bits. -/
theorem fusesNeverUnprogram : Obligations.FusesNeverUnprogram := fun _ _ h => (step_evolves h).fuses

/-- Settles O6: every change of the register words is a `tabSet` at the word's reset value, a filter, or the empty table. -/
theorem registersStayCanonical : Obligations.RegistersStayCanonical := fun _ _ hw h => (step_evolves h).regs hw

/-- Settles O7: every change of a memory is a `tabSet` of bytes, the empty memory, or an image of the retained area. -/
theorem memoriesStayCanonical : Obligations.MemoriesStayCanonical := fun _ _ hw h => (step_evolves h).mems hw

/-- Settles O11. -/
theorem frameOfConfigurationBlocks : Obligations.FrameOfConfigurationBlocks := by
  intro c s t h
  have hev := exec_evolves h
  exact ⟨hev.active_eq, hev.top_eq, hev.clk_eq, hev.img_eq, hev.integ_eq, hev.bt_eq, hev.dom_eq, hev.sec_eq, hev.jtag_eq, hev.hir_eq⟩

/-- Settles O12. -/
theorem frameOfPowerAndLinkBlocks : Obligations.FrameOfPowerAndLinkBlocks := by
  intro c s t h
  have hev := exec_evolves h
  exact ⟨hev.ch_eq, hev.ph_eq, hev.quad_eq, hev.pb_eq, hev.fq_eq, hev.fab_eq, hev.tvl_eq, hev.est_eq, hev.cap_eq, hev.tb_eq⟩

/-- Settles O13. -/
theorem frameOfRegistersAndMemories : Obligations.FrameOfRegistersAndMemories := by
  intro c s t h
  have hev := exec_evolves h
  refine ⟨fun hW => ⟨hev.regs_eq hW, fun off => rd_of_regs (hev.regs_eq hW) off⟩, hev.drain_eq, hev.recd_eq, hev.nvs_eq,
    fun hW => ⟨hev.fwc_eq hW, fun a => by rw [hev.fwc_eq hW]⟩, hev.sbm_eq, hev.resp_eq, hev.freeCtr_eq⟩
end Sys2Proof.Machine
end

section
/-! PROOF. The allocation of R645 stays within its budget and above the floors (O46). -/

namespace Sys2Proof.Machine

/-- The bisection's lower bound is always a level that the budget allows. -/
theorem clip_lamFind_le (l : List Want) (b n lo hi : Nat) (h : (l.map (clipWant lo)).sum ≤ b * 2 ^ 16) :
    (l.map (clipWant (lamFind l b n lo hi))).sum ≤ b * 2 ^ 16 := by
  induction n generalizing lo hi with
  | zero => exact h
  | succ n ih =>
    unfold lamFind
    dsimp only
    split
    next => exact ih lo _ h
    next hm => exact ih _ hi (by omega)

theorem floor_le_clipWant (lam : Nat) (w : Want) : w.floor * 2 ^ 16 ≤ clipWant lam w := Nat.le_max_left _ _

theorem clipWant_zero_of_floor (w : Want) : clipWant 0 w = w.floor * 2 ^ 16 := by simp [clipWant]

/-- Quotients by one divisor add up to at most the quotient of the sum. -/
theorem sum_map_div_mul_le {α : Type} (l : List α) (f : α → Nat) (k : Nat) : (l.map (fun x => f x / k)).sum * k ≤ (l.map f).sum := by
  induction l with
  | nil => simp
  | cons x l ih =>
    have := Nat.div_mul_le_self (f x) k
    simp only [List.map_cons, List.sum_cons, Nat.add_mul]
    omega

theorem giveLeft_wants (left : Nat) (a : List (Want × Nat)) : (giveLeft left a).map (fun p => p.1) = a.map (fun p => p.1) := by
  induction a generalizing left with
  | nil => rfl
  | cons p a ih =>
    unfold giveLeft
    split <;> simp [ih]

theorem sum_giveLeft_le (left : Nat) (a : List (Want × Nat)) :
    ((giveLeft left a).map (fun p => p.2)).sum ≤ left + (a.map (fun p => p.2)).sum := by
  induction a generalizing left with
  | nil => simp [giveLeft]
  | cons p a ih =>
    unfold giveLeft
    split
    · have := ih (left - 1)
      simp only [List.map_cons, List.sum_cons]
      omega
    · have := ih left
      simp only [List.map_cons, List.sum_cons]
      omega

/-- Each node keeps its share, or gains one unit below its demand. -/
theorem giveLeft_share {left : Nat} {a : List (Want × Nat)} {p : Want × Nat} (h : p ∈ giveLeft left a) :
    p ∈ a ∨ ∃ x, (p.1, x) ∈ a ∧ p.2 = x + 1 ∧ x < p.1.demand := by
  induction a generalizing left with
  | nil => simp [giveLeft] at h
  | cons q a ih =>
    unfold giveLeft at h
    split at h
    next hc =>
      rcases List.mem_cons.1 h with rfl | h
      · exact .inr ⟨q.2, List.mem_cons_self, rfl, hc.2.2⟩
      · exact (ih h).imp (List.mem_cons_of_mem _) fun ⟨x, hx, hp⟩ => ⟨x, List.mem_cons_of_mem _ hx, hp⟩
    next =>
      rcases List.mem_cons.1 h with rfl | h
      · exact .inl List.mem_cons_self
      · exact (ih h).imp (List.mem_cons_of_mem _) fun ⟨x, hx, hp⟩ => ⟨x, List.mem_cons_of_mem _ hx, hp⟩

/-- The shares before the left-over units are given: each is its node's, and held to 65,535. -/
def sharesOf (f : Want → Nat) (l : List Want) : List (Want × Nat) := l.map (fun w => (w, min (f w) 65535))

theorem sum_sharesOf_le (f : Want → Nat) (l : List Want) : ((sharesOf f l).map (fun p => p.2)).sum ≤ (l.map f).sum := by
  simp only [sharesOf, List.map_map]
  exact List.sum_le_sum fun w _ => Nat.min_le_left _ _

/-- What the left-over units leave of a list of shares that lies within the budget and above the floors. -/
theorem giveLeft_sharesOf {b : Nat} {f : Want → Nat} {l : List Want} (hl : ∀ w ∈ l, w.floor ≤ 65535 ∧ w.demand ≤ 65535)
    (hsum : (l.map f).sum ≤ b) (hfloor : ∀ w ∈ l, w.floor ≤ f w) :
    ((giveLeft (b - ((sharesOf f l).map (fun p => p.2)).sum) (sharesOf f l)).map (fun p => p.2)).sum ≤ b
      ∧ ∀ p ∈ giveLeft (b - ((sharesOf f l).map (fun p => p.2)).sum) (sharesOf f l), p.1.floor ≤ p.2 ∧ p.2 ≤ 65535 := by
  have hle := sum_sharesOf_le f l
  have hshare {w : Want} {x : Nat} (h : (w, x) ∈ sharesOf f l) : w ∈ l ∧ x = min (f w) 65535 := by
    obtain ⟨v, hv, he⟩ := List.mem_map.1 h
    obtain ⟨rfl, rfl⟩ := Prod.mk.inj he
    exact ⟨hv, rfl⟩
  refine ⟨?_, fun p hp => ?_⟩
  · have := sum_giveLeft_le (b - ((sharesOf f l).map (fun p => p.2)).sum) (sharesOf f l)
    omega
  · rcases giveLeft_share hp with hp | ⟨x, hx, hpx, hd⟩
    · obtain ⟨hw, hx⟩ := hshare hp
      have := hfloor _ hw
      have := (hl _ hw).1
      omega
    · obtain ⟨hw, rfl⟩ := hshare hx
      have := hfloor _ hw
      have := hl _ hw
      omega

/-- The surplus is shared by weight: no more is given than there is. -/
theorem sum_surplus_le (l : List Want) (c : Nat) :
    (l.map (fun w => max w.floor w.demand + c * w.weight / max (l.map (fun w => w.weight)).sum 1)).sum
      ≤ (l.map (fun w => max w.floor w.demand)).sum + c := by
  set k := max (l.map (fun w => w.weight)).sum 1 with hk
  have hdiv := sum_map_div_mul_le l (fun w => c * w.weight) k
  rw [List.sum_map_mul_left] at hdiv
  have hquot : (l.map (fun w => c * w.weight / k)).sum ≤ c := by
    refine Nat.le_of_mul_le_mul_right (hdiv.trans ?_) (by omega : 0 < k)
    exact Nat.mul_le_mul_left c (Nat.le_max_left _ _)
  rw [List.sum_map_add]
  omega

/-- Settles O46: the surplus and the clipped levels each give shares within the budget and above the floors (`giveLeft_sharesOf`). -/
theorem allocationWithinBudget : Obligations.AllocationWithinBudget := by
  intro b l hl a
  simp only [a, allocate]
  by_cases hb : b ≤ (l.map (fun w => w.floor)).sum
  · rw [if_pos hb]
    refine ⟨by simp [Function.comp_def], fun h => absurd h (by omega), fun _ => ⟨rfl, fun p hp => ?_⟩⟩
    obtain ⟨w, hw, rfl⟩ := List.mem_map.1 hp
    exact Nat.min_eq_left (hl w hw).1
  · rw [if_neg hb]
    refine ⟨?_, fun _ => ⟨rfl, ?_⟩, fun h => absurd h hb⟩
    · rw [giveLeft_wants]
      split <;> simp [Function.comp_def]
    · split
      next hneed =>
        have hsum := sum_surplus_le l (b - (l.map (fun w => max w.floor w.demand)).sum)
        exact giveLeft_sharesOf hl (by omega) fun w _ => (Nat.le_max_left _ _).trans (Nat.le_add_right _ _)
      next =>
        have hclip := clip_lamFind_le l b 32 0 (2 ^ 32) (by
          have : (l.map (clipWant 0)).sum = (l.map (fun w => w.floor)).sum * 2 ^ 16 := by
            rw [← List.sum_map_mul_right, funext clipWant_zero_of_floor]
          omega)
        refine giveLeft_sharesOf (f := fun w => clipWant (lamFind l b 32 0 (2 ^ 32)) w / 2 ^ 16) hl ?_ fun w _ => ?_
        · have := sum_map_div_mul_le l (clipWant (lamFind l b 32 0 (2 ^ 32))) (2 ^ 16)
          omega
        · exact (Nat.le_div_iff_mul_le (by omega)).2 (floor_le_clipWant _ w)

end Sys2Proof.Machine
end

section
/-! PROOF. The stored registers show no reserved bit (O9). -/

namespace Sys2Proof.Machine
open Host

/-- A family whose reset value lies within its mask. -/
def RegFamily.resetMasked (r : RegFamily) : Bool := r.reset &&& r.mask == r.reset

theorem resetMasked_of_mem_regBlock {off : Nat} {r : RegFamily} (h : r ∈ regBlock off) : RegFamily.resetMasked r = true := by
  have hall : (regBlock off).all RegFamily.resetMasked = true := by
    unfold regBlock
    split <;> rfl
  exact List.all_eq_true.1 hall r h

/-- Reducing a value to 32 bits keeps it within a mask. -/
theorem and_mod_of_and {v m : Nat} (h : v &&& m = v) (k : Nat) : v % 2 ^ k &&& m = v % 2 ^ k := by
  refine Nat.eq_of_testBit_eq fun i => ?_
  have hi := congrArg (fun n => n.testBit i) h
  simp only [Nat.testBit_and] at hi
  rw [Nat.testBit_and, Nat.testBit_mod_two_pow, Bool.and_assoc, hi]

theorem resetOf_masked (off : Nat) : (resetOf off).toNat &&& regMask off = (resetOf off).toNat := by
  unfold resetOf regMask
  cases hr : regFind off with
  | none => rfl
  | some r =>
    have hm := resetMasked_of_mem_regBlock (List.mem_of_find?_eq_some hr)
    rw [RegFamily.resetMasked, beq_iff_eq] at hm
    exact and_mod_of_and hm 32

theorem tabGet_mem_or_default {α : Type} (d : α) (t : Tab α) (i : Nat) : (i, tabGet d t i) ∈ t ∨ tabGet d t i = d := by
  induction t with
  | nil => exact .inr rfl
  | cons p t ih =>
    obtain ⟨k, v⟩ := p
    unfold tabGet
    split
    next hk => exact .inl (hk ▸ List.mem_cons_self)
    next => exact ih.imp_left (List.mem_cons_of_mem _)

theorem regsMasked_iff (s : State) : regsMasked s = true ↔ ∀ p ∈ s.regs ++ s.active, p.2.toNat &&& regMask p.1 = p.2.toNat := by
  simp only [regsMasked, List.all_eq_true, beq_iff_eq]

theorem rd_masked {s : State} (h : regsMasked s = true) (off : Nat) : (rd s off).toNat &&& regMask off = (rd s off).toNat := by
  unfold rd
  rcases tabGet_mem_or_default (resetOf off) s.regs off with hm | hd
  · exact (regsMasked_iff s).1 h _ (List.mem_append_left _ hm)
  · rw [hd]
    exact resetOf_masked off

theorem regMask_activeVal : regMask Reg.TOP_ACTIVE_VAL = 2 ^ 32 - 1 := by decide

/-- Settles O9: a stored word is listed, and then masked, or it is the reset value of its register. -/
theorem reservedBitsReadZero : Obligations.ReservedBitsReadZero := by
  intro s who off hm hsel hwin hlive
  by_cases hval : off = Reg.TOP_ACTIVE_VAL
  · rw [hval, regMask_activeVal, Nat.and_two_pow_sub_one_eq_mod]
    exact Nat.mod_eq_of_lt (BitVec.isLt _)
  · unfold readWord
    dsimp only
    rw [if_neg hsel, if_neg hwin, if_neg hval, hlive]
    dsimp only
    split
    · exact Nat.zero_and _
    · split
      · exact Nat.zero_and _
      · exact rd_masked hm off

end Sys2Proof.Machine
end

section
/-! PROOF. What a register access does to the register it reaches (O14). -/

namespace Sys2Proof.Machine
open Host
set_option Elab.async false

/-! ## Writes of an admitted initiator -/

theorem regWrite_of_admits {s : State} {who : Initiator} {off val : Nat} (x : WrExt) (h : admits s who off val = true) :
    regWrite s who off val x = applyWrite x { s with resp := .none } who off val := gated_of_admits s who off val _ h

/-- A register of one of the two selectors is neither a HOLD register nor one of a wide value. -/
theorem access_activeSel {r : RegFamily} (h : regFind Reg.TOP_ACTIVE_SEL = some r) : r.access = .rw := by
  have : (regFind Reg.TOP_ACTIVE_SEL).map (fun r => r.access) = some .rw := by decide
  rw [h] at this
  exact Option.some.inj this

theorem access_winSel {r : RegFamily} (h : regFind Reg.REC_WIN_SEL = some r) : r.access = .rw := by
  have : (regFind Reg.REC_WIN_SEL).map (fun r => r.access) = some .rw := by decide
  rw [h] at this
  exact Option.some.inj this

theorem holdWrite_active (s : State) (who : Initiator) (off v : Nat) : (holdWrite s who off v).active = s.active :=
  holdWrite_evolves.active_eq rfl

theorem holdWrite_regs (s : State) (who : Initiator) (off v : Nat) : (holdWrite s who off v).regs = (wrN s off v).regs := by
  unfold holdWrite
  cases who with
  | host fn =>
    dsimp only
    split <;> rfl
  | _ => rfl

/-! ## The classes of readers and writers (R24, R26) -/

theorem classOf_of_top {s t : State} (h : t.top = s.top) (who : Initiator) : classOf t who = classOf s who := by
  unfold classOf
  rw [h]

@[simp] theorem classOf_wrN (s : State) (off n : Nat) (who : Initiator) : classOf (wrN s off n) who = classOf s who := rfl

theorem classOf_setClass (s : State) (who : Initiator) (f : ClassSt → ClassSt) : classOf (setClass s who f) who = f (classOf s who) :=
  tabGet_tabSet_same ({} : ClassSt) s.top.classes (classKey who) _

theorem classOf_setClass_ne (s : State) {who w : Initiator} (f : ClassSt → ClassSt) (h : classKey w ≠ classKey who) :
    classOf (setClass s who f) w = classOf s w := tabGet_tabSet_ne ({} : ClassSt) s.top.classes _ (Ne.symm h)

/-! ## Reads (R23 to R25) -/

/-- An initiator that can read is no virtual function and gets the register's read. -/
theorem readReg_of_canRead {s : State} {who : Initiator} {off : Nat} (h : canRead s who = true) : readReg s who off = readReg.go who off s := by
  unfold canRead at h
  simp only [Bool.and_eq_true, Bool.not_eq_true'] at h
  obtain ⟨⟨hreach, hstuck⟩, hvf⟩ := h
  unfold readReg
  rw [hreach, hstuck]
  cases who with
  | host fn =>
    obtain ⟨n, hn⟩ := fn
    cases n with
    | zero => rfl
    | succ k => simp at hvf
  | _ => rfl

/-- The word and the state of a read as its class sees it (R24). -/
def wideGot (s : State) (who : Initiator) (off : Nat) : Word × State :=
  wideRead s who (readWord s who) (wideLo off) (decide (4 ≤ off) && wideLo (off - 4)) off

/-- A read takes the head of the dead letters away where it reads their last word (R606). -/
def dlqTaken (s : State) (off : Nat) : State :=
  match inFam (Reg.TVL_DLQ_W3 0) 0x20 8 off with
  | some q => dlqPop s q
  | none => s

theorem dlqTaken_regs (s : State) (off : Nat) : (dlqTaken s off).regs = s.regs := by
  unfold dlqTaken
  split <;> rfl

theorem dlqTaken_top (s : State) (off : Nat) : (dlqTaken s off).top = s.top := by
  unfold dlqTaken
  split <;> rfl

theorem dlqTaken_resp (s : State) (off : Nat) : (dlqTaken s off).resp = s.resp := by
  unfold dlqTaken
  split <;> rfl

/-- R25: a read of an RC register clears it. -/
def rcCleared (s : State) (off : Nat) : State :=
  match regFind off with
  | some r => if r.access = .rc then wr s off 0 else s
  | none => s

theorem rcCleared_top (s : State) (off : Nat) : (rcCleared s off).top = s.top := by
  unfold rcCleared
  split
  · split <;> rfl
  · rfl

theorem rcCleared_resp (s : State) (off : Nat) : (rcCleared s off).resp = s.resp := by
  unfold rcCleared
  split
  · split <;> rfl
  · rfl

theorem rcCleared_of_rc (s : State) {off : Nat} {r : RegFamily} (hr : regFind off = some r) (hrc : r.access = .rc) :
    rcCleared s off = wr s off 0 := by
  unfold rcCleared
  rw [hr]
  exact if_pos hrc

/-- The state of a read whose answer is given and whose head of the dead letters is taken. -/
def readTaken (s : State) (who : Initiator) (off : Nat) : State :=
  dlqTaken { (wideGot s who off).2 with resp := .word (wideGot s who off).1 } off

theorem readTaken_resp (s : State) (who : Initiator) (off : Nat) : (readTaken s who off).resp = .word (wideGot s who off).1 := dlqTaken_resp _ _

theorem readTaken_top (s : State) (who : Initiator) (off : Nat) : (readTaken s who off).top = (wideGot s who off).2.top := dlqTaken_top _ _

theorem readTaken_regs (s : State) (who : Initiator) (off : Nat) : (readTaken s who off).regs = (wideGot s who off).2.regs := dlqTaken_regs _ _

/-- A read of another register than TOP_ACTIVE_VAL. -/
theorem readGo_eq (s : State) (who : Initiator) {off : Nat} (hval : off ≠ Reg.TOP_ACTIVE_VAL) :
    readReg.go who off s = rcCleared (readTaken s who off) off := by
  unfold readReg.go readTaken wideGot
  generalize wideRead s who (readWord s who) (wideLo off) (decide (4 ≤ off) && wideLo (off - 4)) off = p
  obtain ⟨v, t⟩ := p
  dsimp only
  rw [if_neg fun h => hval h.1]
  rfl

theorem wideGot_low (s : State) (who : Initiator) {off : Nat} (h : wideLo off = true) :
    wideGot s who off = (readWord s who off,
      setClass s who (fun x => { x with captures := tabSet none x.captures off (some (readWord s who (off + 4))) })) := by
  unfold wideGot wideRead
  rw [if_pos h]

theorem wideGot_high (s : State) (who : Initiator) {off : Nat} {v : Word} (h4 : 4 ≤ off) (hlo : wideLo off = false) (hhi : wideLo (off - 4) = true)
    (hc : tabGet none (classOf s who).captures (off - 4) = some v) :
    wideGot s who off = (v, setClass s who (fun x => { x with captures := tabSet none x.captures (off - 4) none })) := by
  unfold wideGot wideRead
  simp only [hlo, hhi, h4, decide_true, Bool.and_true, Bool.false_eq_true, if_false, if_true, hc]

theorem wideGot_narrow (s : State) (who : Initiator) {off : Nat} (hlo : wideLo off = false) (hhi : wideLo (off - 4) = false) :
    wideGot s who off = (readWord s who off, s) := by
  unfold wideGot wideRead
  simp only [hlo, hhi, Bool.and_false, Bool.false_eq_true, if_false]

/-! ## The clauses -/

theorem holdWrite_result {who : Initiator} {word : BitVec 20} {val : Word} {s : State} {r : RegFamily}
    (h : admits s who (4 * word.toNat) val.toNat = true) (hr : regFind (4 * word.toNat) = some r) (ha : r.access = .hold) :
    Runs (.registerWrite who word val) s (fun t => rd t (4 * word.toNat) = BitVec.ofNat 32 (val.toNat &&& r.mask) ∧ t.active = s.active
      ∧ ∀ off, off ≠ 4 * word.toNat → rd t off = rd s off) := by
  set off := 4 * word.toNat
  have hsel : off ≠ Reg.TOP_ACTIVE_SEL := fun he => by
    rw [he] at hr
    exact absurd (ha.symm.trans (access_activeSel hr)) (by decide)
  have hwin : off ≠ Reg.REC_WIN_SEL := fun he => by
    rw [he] at hr
    exact absurd (ha.symm.trans (access_winSel hr)) (by decide)
  refine ⟨_, rfl, ?_⟩
  rw [regWrite_of_admits {} h, applyWrite_of_admits {} s _ who off _ r h hsel hwin hr, ha]
  dsimp only
  refine ⟨?_, ?_, fun o ho => ?_⟩
  · rw [rd_of_regs (holdWrite_regs _ who off _), rd_wrN_same]
  · exact holdWrite_active _ who off _
  · rw [rd_of_regs (holdWrite_regs _ who off _), rd_wrN_ne _ _ (Ne.symm ho)]
    rfl

theorem unaligned_result {fn : Fin 64} {off : BitVec 22} {write : Bool} {s : State} (hreach : reachable s (.host fn) = true) (hfw : fwOn s = true) :
    Runs (.hostUnalignedAccess fn off write) s (fun t => t.resp = .unsupported ∧ t.regs = s.regs ∧ t.active = s.active) := by
  refine ⟨_, rfl, ?_⟩
  have hstuck : hostStuck s (.host fn) = false := by simp [hostStuck, hfw]
  rw [hreach, hstuck]
  exact ⟨rfl, rfl, rfl⟩

theorem wideLo_activeVal : wideLo Reg.TOP_ACTIVE_VAL = false ∧ wideLo (Reg.TOP_ACTIVE_VAL - 4) = false := by decide

theorem wideLow_result {who : Initiator} {word : BitVec 20} {s : State} (h : canRead s who = true) (hlo : wideLo (4 * word.toNat) = true) :
    Runs (.wideLowRead who word) s (fun t => t.resp = .word (readWord s who (4 * word.toNat))
      ∧ tabGet none (classOf t who).captures (4 * word.toNat) = some (readWord s who (4 * word.toNat + 4))) := by
  set off := 4 * word.toNat
  have hval : off ≠ Reg.TOP_ACTIVE_VAL := fun he => by
    rw [he, wideLo_activeVal.1] at hlo
    cases hlo
  refine ⟨_, rfl, ?_⟩
  rw [readReg_of_canRead h, readGo_eq s who hval]
  refine ⟨?_, ?_⟩
  · rw [rcCleared_resp, readTaken_resp, wideGot_low s who hlo]
  · rw [classOf_of_top ((rcCleared_top _ off).trans (readTaken_top s who off)), wideGot_low s who hlo, classOf_setClass]
    simp only [tabGet_tabSet_same]

theorem wideHighRead_result {who : Initiator} {word : BitVec 20} {v : Word} {s : State} (h : canRead s who = true) (h4 : 4 ≤ 4 * word.toNat)
    (hlo : wideLo (4 * word.toNat) = false) (hhi : wideLo (4 * word.toNat - 4) = true)
    (hc : tabGet none (classOf s who).captures (4 * word.toNat - 4) = some v) :
    Runs (.wideLowRead who word) s (fun t => t.resp = .word v ∧ tabGet none (classOf t who).captures (4 * word.toNat - 4) = none) := by
  set off := 4 * word.toNat
  have hval : off ≠ Reg.TOP_ACTIVE_VAL := fun he => by
    rw [he, wideLo_activeVal.2] at hhi
    cases hhi
  refine ⟨_, rfl, ?_⟩
  rw [readReg_of_canRead h, readGo_eq s who hval]
  refine ⟨?_, ?_⟩
  · rw [rcCleared_resp, readTaken_resp, wideGot_high s who h4 hlo hhi hc]
  · rw [classOf_of_top ((rcCleared_top _ off).trans (readTaken_top s who off)), wideGot_high s who h4 hlo hhi hc, classOf_setClass]
    simp only [tabGet_tabSet_same]

theorem access_activeVal {r : RegFamily} (h : regFind Reg.TOP_ACTIVE_VAL = some r) : r.access = .ro := by
  have : (regFind Reg.TOP_ACTIVE_VAL).map (fun r => r.access) = some .ro := by decide
  rw [h] at this
  exact Option.some.inj this

theorem rcRead_result {who : Initiator} {word : BitVec 20} {s : State} {r : RegFamily} (h : canRead s who = true)
    (hlo : wideLo (4 * word.toNat) = false) (hhi : wideLo (4 * word.toNat - 4) = false) (hr : regFind (4 * word.toNat) = some r)
    (ha : r.access = .rc) :
    Runs (.rcRead who word) s (fun t => t.resp = .word (readWord s who (4 * word.toNat)) ∧ rd t (4 * word.toNat) = 0
      ∧ ∀ off, off ≠ 4 * word.toNat → rd t off = rd s off) := by
  set off := 4 * word.toNat
  have hval : off ≠ Reg.TOP_ACTIVE_VAL := fun he => by
    rw [he] at hr
    exact absurd (ha.symm.trans (access_activeVal hr)) (by decide)
  have hregs : (readTaken s who off).regs = s.regs := by rw [readTaken_regs, wideGot_narrow s who hlo hhi]
  refine ⟨_, rfl, ?_⟩
  rw [readReg_of_canRead h, readGo_eq s who hval]
  refine ⟨?_, ?_, fun o ho => ?_⟩
  · rw [rcCleared_resp, readTaken_resp, wideGot_narrow s who hlo hhi]
  · rw [rcCleared_of_rc _ hr ha, rd_wr_same]
  · rw [rcCleared_of_rc _ hr ha, rd_wr_ne _ _ (Ne.symm ho), rd_of_regs hregs]

theorem activeSel_result {who : Initiator} {val : Word} {s : State} (h : admits s who Reg.TOP_ACTIVE_SEL val.toNat = true) :
    Runs (.activeSelWrite who val) s (fun t => (classOf t who).activeSel = val.toNat &&& 0x3FFFFC
      ∧ (classOf t who).notHold = !isHold (val.toNat &&& 0x3FFFFC) ∧ (∀ w, classKey w ≠ classKey who → classOf t w = classOf s w) ∧ t.regs = s.regs) := by
  refine ⟨_, rfl, ?_⟩
  rw [gated_of_admits s who _ _ _ h]
  unfold activeSel
  dsimp only
  rw [classOf_setClass]
  exact ⟨rfl, rfl, fun w hw => classOf_setClass_ne _ _ hw, rfl⟩

theorem assetLock_result {who : Initiator} {asset : Bool} {s : State} (h : admits s who Reg.TOP_LOCK (b2n asset) = true)
    (hf : flag s Reg.TOP_LOCK F.TOP_LOCK_ASSET = false) :
    Runs (.assetLock who asset) s (fun t => flag t Reg.TOP_LOCK F.TOP_LOCK_ASSET = asset ∧ ∀ off, off ≠ Reg.TOP_LOCK → rd t off = rd s off) := by
  have hact : lockWrite { s with resp := .none } who Reg.TOP_LOCK (b2n asset) = wrN { s with resp := .none } Reg.TOP_LOCK (b2n asset) :=
    if_neg (by rw [Bool.not_eq_true]; exact hf)
  refine ⟨_, rfl, ?_⟩
  rw [gated_of_admits s who _ _ _ h, hact]
  refine ⟨?_, fun off ho => rd_wrN_ne _ _ (Ne.symm ho)⟩
  unfold flag
  rw [rd_wrN_same]
  cases asset <;> decide

theorem wideHighWrite_result {who : Initiator} {word : BitVec 20} {val : Word} {s : State} {r : RegFamily}
    (h : admits s who (4 * word.toNat) val.toNat = true) (hr : regFind (4 * word.toNat) = some r) (ha : r.access = .rw)
    (hlo : wideWritable (4 * word.toNat) = false) (h4 : 4 ≤ 4 * word.toNat) (hhi : wideWritable (4 * word.toNat - 4) = true)
    (htail : 4 * word.toNat ≠ Reg.REC_TAIL_HI) (hspill : 4 * word.toNat ≠ Reg.REC_SPILL_BASE_HI) :
    Runs (.wideHighWrite who word val) s (fun t => rd t (4 * word.toNat) = BitVec.ofNat 32 (val.toNat &&& r.mask)
      ∧ rd t (4 * word.toNat - 4) = (tabGet none (classOf s who).pendLow (4 * word.toNat - 4)).getD (readWord s who (4 * word.toNat - 4))
      ∧ tabGet none (classOf t who).pendLow (4 * word.toNat - 4) = none
      ∧ ∀ o, o ≠ 4 * word.toNat → o ≠ 4 * word.toNat - 4 → rd t o = rd s o) := by
  set off := 4 * word.toNat
  have hsel : off ≠ Reg.TOP_ACTIVE_SEL := fun he => by
    rw [he] at hhi
    exact absurd hhi (by decide)
  have hwin : off ≠ Reg.REC_WIN_SEL := fun he => by
    rw [he] at hhi
    exact absurd hhi (by decide)
  refine ⟨_, rfl, ?_⟩
  rw [regWrite_of_admits {} h, applyWrite_of_admits {} s _ who off _ r h hsel hwin hr, ha]
  dsimp only
  unfold rwWrite
  rw [hlo, if_neg Bool.false_ne_true, if_pos ⟨h4, hhi⟩]
  unfold wideWrite
  dsimp only
  rw [if_neg Bool.false_ne_true, if_neg htail, if_neg hspill]
  have hne : off ≠ off - 4 := by omega
  refine ⟨rd_wrN_same _ _ _, ?_, ?_, fun o ho ho4 => ?_⟩
  · rw [rd_wrN_ne _ _ hne, rd_wrN_same, BitVec.ofNat_toNat, BitVec.setWidth_eq]
    rfl
  · rw [classOf_wrN, classOf_wrN, classOf_setClass]
    simp only [tabGet_tabSet_same]
  · rw [rd_wrN_ne _ _ (Ne.symm ho), rd_wrN_ne _ _ (Ne.symm ho4)]
    rfl

/-- Settles O14, clause by clause. -/
theorem registerAccessResults : Obligations.RegisterAccessResults :=
  ⟨fun _ _ _ _ _ h hr ha => holdWrite_result h hr ha, fun _ _ _ _ h hfw => unaligned_result h hfw, fun _ _ _ h hlo => wideLow_result h hlo,
    fun _ _ _ _ h h4 hlo hhi hc => wideHighRead_result h h4 hlo hhi hc, fun _ _ _ _ h hlo hhi hr ha => rcRead_result h hlo hhi hr ha,
    fun _ _ _ h => activeSel_result h, fun _ _ _ h hf => assetLock_result h hf,
    fun _ _ _ _ _ h hr ha hlo h4 hhi ht hs => wideHighWrite_result h hr ha hlo h4 hhi ht hs⟩

end Sys2Proof.Machine
end

section
/-! PROOF. What the shared operations leave of the registers: the records of the recorder, and fields read through other writes. -/

namespace Sys2Proof.Machine
open Host
set_option Elab.async false

theorem fld_congr {s t : State} {off : Nat} (h : rd t off = rd s off) (f : Fld) : fld t off f = fld s off f := by
  unfold fld
  rw [h]

theorem flag_congr {s t : State} {off : Nat} (h : rd t off = rd s off) (f : Fld) : flag t off f = flag s off f := by
  unfold flag
  rw [h]

variable (s : State)

theorem rd_record {p : Plane} {off : Nat} (cls typ unit arg value value2 flags : Nat) (h : off ∉ stageRegs p) :
    rd (record s p cls typ unit arg value value2 flags) off = rd s off := rd_stage s p _ h

theorem rd_raise_ne {off off' : Nat} (f : Fld) (h : off ≠ off') : rd (raise s off f) off' = rd s off' := rd_setF_ne s f 1 h

theorem rd_bump_ne {off off' : Nat} (f : Fld) (h : off ≠ off') : rd (bump s off f) off' = rd s off' := rd_setF_ne s f _ h

/-! ## Registers outside a list -/

/-- `t` has every register of `s` but for those that the list names. -/
def RdKept (l : List Nat) (s t : State) : Prop := ∀ off, off ∉ l → rd t off = rd s off

section
variable {l k : List Nat} {s t u : State}

theorem RdKept.of_regs (h : t.regs = s.regs) : RdKept l s t := fun off _ => rd_of_regs h off

theorem RdKept.of_evolves {W : Blocks} (h : Evolves W s t) (hW : W.regs = false := by rfl) : RdKept l s t := .of_regs (h.regs_eq hW)

theorem RdKept.refl : RdKept l s s := fun _ _ => rfl

theorem RdKept.trans (h : RdKept l s t) (h' : RdKept l t u) : RdKept l s u := fun off ho => (h' off ho).trans (h off ho)

theorem RdKept.mono (h : RdKept k s t) (hk : ∀ off ∈ k, off ∈ l) : RdKept l s t := fun off ho => h off fun hm => ho (hk off hm)

theorem RdKept.ite {c : Prop} [Decidable c] (h : RdKept l s t) (h' : RdKept l s u) : RdKept l s (if c then t else u) := by
  split
  · exact h
  · exact h'

theorem RdKept.forEach {α : Type} {xs : List α} {f : State → α → State} (h : ∀ t x, RdKept l t (f t x)) : RdKept l s (forEach xs s f) := by
  unfold Machine.forEach
  induction xs generalizing s with
  | nil => exact .refl
  | cons x xs ih => exact (h s x).trans ih

theorem RdKept.wr {off : Nat} (w : Word) (h : off ∈ l) : RdKept l s (wr s off w) := fun _ ho => rd_wr_ne s w fun he => ho (he ▸ h)

theorem RdKept.wrN {off : Nat} (n : Nat) (h : off ∈ l) : RdKept l s (wrN s off n) := .wr _ h

theorem RdKept.setF {off : Nat} (f : Fld) (v : Nat) (h : off ∈ l) : RdKept l s (setF s off f v) := .wr _ h

theorem RdKept.raise {off : Nat} (f : Fld) (h : off ∈ l) : RdKept l s (raise s off f) := .wr _ h

theorem RdKept.lower {off : Nat} (f : Fld) (h : off ∈ l) : RdKept l s (lower s off f) := .wr _ h

theorem RdKept.bump {off : Nat} (f : Fld) (h : off ∈ l) : RdKept l s (bump s off f) := .wr _ h

theorem RdKept.record {p : Plane} {cls typ unit arg value value2 flags : Nat} (h : ∀ off ∈ stageRegs p, off ∈ l) :
    RdKept l s (record s p cls typ unit arg value value2 flags) := fun off ho => rd_record s cls typ unit arg value value2 flags fun hm => ho (h off hm)

end

end Sys2Proof.Machine
end

section
/-! PROOF. Commit requests: what the checks of R914 answer, and what a commit makes of the active copies (O15, O16). -/

namespace Sys2Proof.Machine
open Host
set_option Elab.async false

/-! ## Active copies from a snapshot (R47) -/

/-- Words written one after another read as the last one written at an offset; a rising list writes each offset once. -/
theorem tabGet_foldl_tabSet (snap : Tab Word) (hs : tabRises snap) (t : Tab Word) (off : Nat) :
    tabGet (resetOf off) (snap.foldl (fun t p => tabSet (resetOf p.1) t p.1 p.2) t) off
      = if off ∈ snap.map (fun p => p.1) then tabGet (resetOf off) snap off else tabGet (resetOf off) t off := by
  induction snap generalizing t with
  | nil => rfl
  | cons p l ih =>
    obtain ⟨k, v⟩ := p
    rw [List.foldl_cons, ih hs.2, List.map_cons]
    by_cases hl : off ∈ l.map (fun p => p.1)
    · have hk : k ≠ off := by
        obtain ⟨q, hq, rfl⟩ := List.mem_map.1 hl
        exact Nat.ne_of_lt (hs.1 q hq)
      rw [if_pos hl, if_pos (List.mem_cons_of_mem _ hl), tabGet, if_neg hk]
    · rw [if_neg hl, tabGet_tabSet_at]
      by_cases hk : k = off
      · rw [if_pos hk, if_pos (hk ▸ List.mem_cons_self), tabGet, if_pos hk]
      · rw [if_neg hk, if_neg]
        rw [List.mem_cons, not_or]
        exact ⟨Ne.symm hk, hl⟩

/-- A filter that keeps an offset's words keeps what the offset reads; one that drops them leaves the default. -/
theorem tabGet_filter {α : Type} (d : α) (t : Tab α) (g : Nat → Bool) (off : Nat) :
    tabGet d (t.filter (fun p => g p.1)) off = if g off then tabGet d t off else d := by
  induction t with
  | nil => simp
  | cons p t ih =>
    obtain ⟨k, v⟩ := p
    rw [List.filter_cons]
    by_cases hk : k = off
    · subst hk
      cases hg : g k
      · simpa [hg] using ih
      · simp [tabGet]
    · cases hg : g k <;> simp only [Bool.false_eq_true, if_false, if_true, tabGet, if_neg hk] <;> exact ih

theorem tabGet_of_not_mem {α : Type} (d : α) (t : Tab α) {off : Nat} (h : off ∉ t.map (fun p => p.1)) : tabGet d t off = d :=
  tabGet_absent d t off fun p hp he => h (List.mem_map.2 ⟨p, hp, he⟩)

/-- A commit makes the active copy of each HOLD register of its groups the staged value, and leaves the others (R47, R655). -/
theorem tabGet_commitActive {s : State} (m : Nat) (hr : tabRises s.regs) (off : Nat) :
    tabGet (resetOf off) (commitActive s m (commitSnap s m)) off
      = if inMask (framesOf s) m off && !ceilLocked s off then rd s off else ac s off := by
  set g : Nat → Bool := fun o => inMask (framesOf s) m o && !ceilLocked s o with hg
  have hsnap : commitSnap s m = s.regs.filter (fun p => g p.1) := rfl
  have hkeep : s.active.filter (fun p => !(inMask (framesOf s) m p.1) || ceilLocked s p.1) = s.active.filter (fun p => !g p.1) :=
    List.filter_congr fun p _ => by simp [hg]
  unfold commitActive
  rw [hkeep, hsnap, tabGet_foldl_tabSet _ (tabRises_filter _ _ hr), tabGet_filter _ _ (fun o => !g o), tabGet_filter]
  show _ = if g off then rd s off else ac s off
  by_cases hmem : off ∈ (s.regs.filter (fun p => g p.1)).map (fun p => p.1)
  · rw [if_pos hmem]
    obtain ⟨p, hp, rfl⟩ := List.mem_map.1 hmem
    have hgp := (List.mem_filter.1 hp).2
    rw [if_pos hgp, if_pos hgp]
    rfl
  · rw [if_neg hmem]
    cases hgo : g off
    · rfl
    · have hd := tabGet_of_not_mem (resetOf off) _ hmem
      rw [tabGet_filter, if_pos hgo] at hd
      exact hd.symm

theorem commitEffect_active (s : State) (m : Nat) (snap : Tab Word) (mode tick : Nat) :
    (commitEffect s m snap mode tick).active = commitActive s m snap := by
  unfold commitEffect
  dsimp only
  rw [commitHooks_evolves.active_eq rfl, capture_evolves.active_eq rfl, commitEntry_evolves.active_eq rfl, commitSeq_evolves.active_eq rfl]
  rfl

/-! ## A commit request (R914) -/

theorem stagedErrors_none {s : State} (h : s.integ.stagedUe = []) : stagedErrors s 0 [] = s := by
  have hi : ({ s.integ with sbe := s.integ.sbe + 0, stagedUe := (s.integ.stagedUe ++ []).eraseDups } : IntegSt) = s.integ := by
    rw [h]
    show ({ s.integ with stagedUe := [] } : IntegSt) = s.integ
    rw [← h]
  unfold stagedErrors
  rw [hi]

/-- The groups that a request asks for. -/
def commitGroups (s : State) : Nat := expandMask (framesOf s) (rd64 s Reg.TOP_COMMIT_MASK_LO)

/-- The state in which a request of the commit port is checked: its mask expanded. -/
def commitAsked (s : State) : State := wr64 s Reg.TOP_COMMIT_MASK_LO (commitGroups s)

variable {s : State}

theorem rd_commitAsked {off : Nat} (hlo : Reg.TOP_COMMIT_MASK_LO ≠ off) (hhi : Reg.TOP_COMMIT_MASK_HI ≠ off) :
    rd (commitAsked s) off = rd s off := by
  unfold commitAsked wr64
  exact (rd_wrN_ne _ _ hhi).trans (rd_wrN_ne _ _ hlo)

theorem rd64_tick_commitAsked : rd64 (commitAsked s) Reg.TOP_COMMIT_TICK_LO = rd64 s Reg.TOP_COMMIT_TICK_LO := by
  unfold rd64
  rw [rd_commitAsked (by decide) (by decide), rd_commitAsked (by decide) (by decide)]

/-- R914: no group. -/
theorem commitRequest_of_empty (h : commitGroups s = 0) : ∃ tick, commitRequest s true = commitRefuse (commitAsked s) (commitGroups s) 1 resEmpty tick := by
  refine ⟨rd64 (commitAsked s) Reg.TOP_COMMIT_TICK_LO, ?_⟩
  unfold commitRequest
  extract_lets +onlyGivenNames f m v mode tick busy
  exact if_pos h

/-- No domain commit is announced, so none makes a group busy. -/
theorem domBusy_of_nil (m : Nat) (v : State) (hdom : v.dom.commits = []) :
    v.dom.commits.any (fun c => (groupParts v c.group).any (fun p => bitOf m (8 + p))) = false := by
  rw [hdom]
  rfl

theorem commitAsked_evolves : Evolves { regs := true } s (commitAsked s) := wr64_evolves

theorem pendMask_commitAsked : pendMask (commitAsked s) = pendMask s := by
  unfold pendMask imgGroups
  rw [commitAsked_evolves.top_eq rfl, commitAsked_evolves.img_eq rfl]

theorem now_commitAsked : now (commitAsked s) = now s := by
  unfold now
  rw [commitAsked_evolves.tb_eq rfl]

theorem dom_commitAsked : (commitAsked s).dom = s.dom := commitAsked_evolves.dom_eq rfl

/-- R914: a tick too early, no group of the mask being busy. -/
theorem commitRequest_of_late (h : commitGroups s ≠ 0) (hpend : commitGroups s &&& pendMask s = 0) (hdom : s.dom.commits = [])
    (hlate : rd64 s Reg.TOP_COMMIT_TICK_LO < now s + 1000) :
    commitRequest s true = commitRefuse (commitAsked s) (commitGroups s) 1 resLate (rd64 s Reg.TOP_COMMIT_TICK_LO) := by
  unfold commitRequest
  extract_lets +onlyGivenNames f m v mode tick busy
  have hm : m = commitGroups s := rfl
  have hv : v = commitAsked s := rfl
  have hmode : mode = 1 := rfl
  have htick : tick = rd64 s Reg.TOP_COMMIT_TICK_LO := (if_pos rfl).trans rd64_tick_commitAsked
  have hbusy : busy = false := domBusy_of_nil m v (by rw [hv, dom_commitAsked]; exact hdom)
  clear_value busy tick mode v m
  subst hm hv hmode htick hbusy
  rw [if_neg h, if_neg, if_pos]
  · rw [now_commitAsked]
    exact ⟨rfl, hlate⟩
  · rw [pendMask_commitAsked, hpend]
    simp

/-- R914: a tick too far. -/
theorem commitRequest_of_far (h : commitGroups s ≠ 0) (hpend : commitGroups s &&& pendMask s = 0) (hdom : s.dom.commits = [])
    (hfar : now s + 10000000000 < rd64 s Reg.TOP_COMMIT_TICK_LO) :
    commitRequest s true = commitRefuse (commitAsked s) (commitGroups s) 1 resFar (rd64 s Reg.TOP_COMMIT_TICK_LO) := by
  unfold commitRequest
  extract_lets +onlyGivenNames f m v mode tick busy
  have hm : m = commitGroups s := rfl
  have hv : v = commitAsked s := rfl
  have hmode : mode = 1 := rfl
  have htick : tick = rd64 s Reg.TOP_COMMIT_TICK_LO := (if_pos rfl).trans rd64_tick_commitAsked
  have hbusy : busy = false := domBusy_of_nil m v (by rw [hv, dom_commitAsked]; exact hdom)
  clear_value busy tick mode v m
  subst hm hv hmode htick hbusy
  rw [if_neg h, if_neg, if_neg, if_pos]
  · rw [now_commitAsked]
    exact ⟨rfl, hfar⟩
  · rw [now_commitAsked]
    omega
  · rw [pendMask_commitAsked, hpend]
    simp

/-- The snapshot of a request: the staged words of its groups. -/
def requestSnap (s : State) : Tab Word := commitSnap (commitAsked s) (commitGroups s)

/-- The check of R914 that a request's values meet. -/
def requestFits (s : State) : Prop :=
  firstFail (commitAsked s) (framesOf s) (commitView (commitAsked s) (commitGroups s) (requestSnap s)) (commitGroups s) = none

/-- A request that meets no check of R914 becomes pending at its tick, or takes effect at once. -/
theorem commitRequest_of_ok (tickMode : Bool) (h : commitGroups s ≠ 0) (hpend : commitGroups s &&& pendMask s = 0) (hdom : s.dom.commits = [])
    (htimes : tickMode = true → now s + 1000 ≤ rd64 s Reg.TOP_COMMIT_TICK_LO ∧ rd64 s Reg.TOP_COMMIT_TICK_LO ≤ now s + 10000000000)
    (hue : s.integ.stagedUe = []) (hok : requestFits s) :
    commitRequest s tickMode =
      if tickMode then
        pendRefresh (commitResult { commitAsked s with top := { (commitAsked s).top with commits := (commitAsked s).top.commits ++
          [{ mask := commitGroups s, tick := rd64 s Reg.TOP_COMMIT_TICK_LO, snap := requestSnap s }] } } resPending)
      else commitEffect (commitAsked s) (commitGroups s) (requestSnap s) 0 0 := by
  unfold commitRequest
  extract_lets +onlyGivenNames f m v mode tick busy
  have hf : f = framesOf s := rfl
  have hm : m = commitGroups s := rfl
  have hv : v = commitAsked s := rfl
  have htick : tick = if tickMode then rd64 s Reg.TOP_COMMIT_TICK_LO else 0 := by
    simp only [tick, hv, rd64_tick_commitAsked]
  have hbusy : busy = false := domBusy_of_nil m v (by rw [hv, dom_commitAsked]; exact hdom)
  clear_value busy tick mode v m f
  subst hf hm hv htick hbusy
  rw [if_neg h, if_neg, if_neg, if_neg]
  · extract_lets +onlyGivenNames snap ue bad
    have hsnap : snap = requestSnap s := rfl
    have hnil : ue = [] := by
      show List.filter _ (commitAsked s).integ.stagedUe = []
      rw [commitAsked_evolves.integ_eq rfl, hue]
      rfl
    have hbad : bad = none := by
      show (ue ++ (firstFail (commitAsked s) (framesOf s) (commitView (commitAsked s) (commitGroups s) snap) (commitGroups s)).toList).min? = none
      rw [hnil, hsnap, hok]
      rfl
    clear_value bad ue snap
    subst hbad hsnap
    cases tickMode with
    | false => simp only [Bool.false_eq_true, if_false]
    | true => simp only [if_true]
  · rintro ⟨ht, hlt⟩
    rw [now_commitAsked, if_pos ht] at hlt
    have := htimes ht
    omega
  · rintro ⟨ht, hlt⟩
    rw [now_commitAsked, if_pos ht] at hlt
    have := htimes ht
    omega
  · rw [pendMask_commitAsked, hpend]
    simp

/-! ## What a request leaves -/

theorem framesOf_of_img {s t : State} (h : t.img = s.img) : framesOf t = framesOf s := by
  unfold framesOf frame actBank
  rw [h]

theorem commitGroups_congr {s t : State} (hr : t.regs = s.regs) (hi : t.img = s.img) : commitGroups t = commitGroups s := by
  unfold commitGroups rd64
  rw [framesOf_of_img hi, rd_of_regs hr, rd_of_regs hr]

theorem pendMask_congr {s t : State} (ht : t.top = s.top) (hi : t.img = s.img) : pendMask t = pendMask s := by
  unfold pendMask imgGroups
  rw [ht, hi]

theorem rd64_of_regs {s t : State} (hr : t.regs = s.regs) (off : Nat) : rd64 t off = rd64 s off := by
  unfold rd64
  rw [rd_of_regs hr, rd_of_regs hr]

theorem result_commitResult (t : State) (r : Nat) : fld (commitResult t r) Reg.TOP_COMMIT_STATUS F.TOP_COMMIT_STATUS_RESULT = r % 16 :=
  fld_setF_same t _ _ r (by decide)

theorem result_pendRefresh (t : State) :
    fld (pendRefresh t) Reg.TOP_COMMIT_STATUS F.TOP_COMMIT_STATUS_RESULT = fld t Reg.TOP_COMMIT_STATUS F.TOP_COMMIT_STATUS_RESULT :=
  fld_setF_apart t _ _ _ _ (by decide) (by decide)

/-- Records of the management plane leave TOP_COMMIT_STATUS as it is. -/
theorem rd_status_commitEntry (t : State) (m mode r tick : Nat) (un : Bool) :
    rd (commitEntry t m mode r tick un) Reg.TOP_COMMIT_STATUS = rd t Reg.TOP_COMMIT_STATUS := rd_record t _ _ _ _ _ _ _ (by decide)

theorem result_commitRefuse (t : State) (m mode r tick : Nat) :
    fld (commitRefuse t m mode r tick) Reg.TOP_COMMIT_STATUS F.TOP_COMMIT_STATUS_RESULT = r % 16 :=
  (fld_congr (rd_status_commitEntry _ m mode r tick false) _).trans (result_commitResult t r)

/-- A refused request leaves the active copies and the pending commits (R914). -/
theorem refused_commit {s t : State} {m r tick : Nat} (h : t = commitRefuse (commitAsked s) m 1 r tick) :
    fld t Reg.TOP_COMMIT_STATUS F.TOP_COMMIT_STATUS_RESULT = r % 16 ∧ t.active = s.active ∧ t.top.commits = s.top.commits := by
  subst h
  refine ⟨result_commitRefuse _ m 1 r tick, ?_, ?_⟩
  · rw [commitRefuse_evolves.active_eq rfl, commitAsked_evolves.active_eq rfl]
  · rw [commitRefuse_evolves.top_eq rfl, commitAsked_evolves.top_eq rfl]

/-! ## The commit port (O15) -/

/-- An admitted request with no new staged error is the commit port's. -/
theorem exec_commitRequest {who : Initiator} {tick : Bool} {s : State} (h : admits s who Reg.TOP_COMMIT_CTL (1 + 2 * b2n tick) = true)
    (hue : s.integ.stagedUe = []) :
    exec (.commitRequest who tick 0 []) s = .next (commitRequest { s with resp := .none } tick) := by
  have hst : stagedErrors { s with resp := .none } 0 [] = { s with resp := .none } := stagedErrors_none hue
  show Host.Outcome.next (gated s who Reg.TOP_COMMIT_CTL (1 + 2 * b2n tick) (fun s => commitRequest (stagedErrors s 0 []) tick)) = _
  rw [gated_of_admits s who _ _ _ h, hst]

theorem tickRequest_result {who : Initiator} {s : State} (h : admits s who Reg.TOP_COMMIT_CTL 3 = true) (hue : s.integ.stagedUe = [])
    (hdom : s.dom.commits = []) (hm : commitGroups s ≠ 0) (hpend : commitGroups s &&& pendMask s = 0)
    (hlow : now s + 1000 ≤ rd64 s Reg.TOP_COMMIT_TICK_LO) (hhigh : rd64 s Reg.TOP_COMMIT_TICK_LO ≤ now s + 10000000000)
    (hok : requestFits { s with resp := .none }) :
    Runs (.commitRequest who true 0 []) s (fun t =>
      t.top.commits = s.top.commits ++ [{ mask := commitGroups s, tick := rd64 s Reg.TOP_COMMIT_TICK_LO, snap := requestSnap { s with resp := .none } }]
      ∧ fld t Reg.TOP_COMMIT_STATUS F.TOP_COMMIT_STATUS_RESULT = 1 ∧ t.active = s.active) := by
  refine ⟨_, exec_commitRequest (tick := true) h hue, ?_⟩
  rw [commitRequest_of_ok (s := { s with resp := .none }) true hm hpend hdom (fun _ => ⟨hlow, hhigh⟩) hue hok, if_pos rfl]
  refine ⟨?_, ?_, ?_⟩
  · show (commitAsked { s with resp := .none }).top.commits ++ _ = _
    rw [commitAsked_evolves.top_eq rfl]
    rfl
  · exact (result_pendRefresh _).trans (result_commitResult _ 1)
  · rw [pendRefresh_evolves.active_eq rfl, commitResult_evolves.active_eq rfl]
    show (commitAsked { s with resp := .none }).active = _
    rw [commitAsked_evolves.active_eq rfl]

theorem refusedRequest_result {who : Initiator} {s : State} (h : admits s who Reg.TOP_COMMIT_CTL 3 = true) (hc : s.top.commits = [])
    (hph : s.img.phase ≠ .pending) (hdom : s.dom.commits = []) :
    Runs (.commitRequest who true 0 []) s (fun t =>
      (commitGroups s = 0 → fld t Reg.TOP_COMMIT_STATUS F.TOP_COMMIT_STATUS_RESULT = 9 ∧ t.active = s.active ∧ t.top.commits = [])
      ∧ (commitGroups s ≠ 0 → rd64 s Reg.TOP_COMMIT_TICK_LO < now s + 1000 →
          fld t Reg.TOP_COMMIT_STATUS F.TOP_COMMIT_STATUS_RESULT = 3 ∧ t.active = s.active ∧ t.top.commits = [])
      ∧ (commitGroups s ≠ 0 → now s + 10000000000 < rd64 s Reg.TOP_COMMIT_TICK_LO →
          fld t Reg.TOP_COMMIT_STATUS F.TOP_COMMIT_STATUS_RESULT = 4 ∧ t.active = s.active ∧ t.top.commits = [])) := by
  set u := stagedErrors { s with resp := .none } 0 [] with hu
  have hev : Evolves { integ := true, resp := true } s u := .trans (t := { s with resp := .none }) .set_resp stagedErrors_evolves.mono
  have hg : commitGroups u = commitGroups s := commitGroups_congr (hev.regs_eq rfl) (hev.img_eq rfl)
  have htick : rd64 u Reg.TOP_COMMIT_TICK_LO = rd64 s Reg.TOP_COMMIT_TICK_LO := rd64_of_regs (hev.regs_eq rfl) _
  have hnow : now u = now s := by unfold now; rw [hev.tb_eq rfl]
  have hidle : commitGroups u &&& pendMask u = 0 := by
    rw [pendMask_congr (hev.top_eq rfl) (hev.img_eq rfl), pendMask, imgGroups, hc, if_neg hph]
    exact Nat.and_zero _
  have hdomu : u.dom.commits = [] := by rw [hev.dom_eq rfl, hdom]
  have hexec : exec (.commitRequest who true 0 []) s = .next (commitRequest u true) := by
    show Host.Outcome.next (gated s who Reg.TOP_COMMIT_CTL 3 (fun s => commitRequest (stagedErrors s 0 []) true)) = _
    rw [gated_of_admits s who _ _ _ h]
  have hleft {t : State} {r tick : Nat} (ht : t = commitRefuse (commitAsked u) (commitGroups u) 1 r tick) (hr : r < 16) :
      fld t Reg.TOP_COMMIT_STATUS F.TOP_COMMIT_STATUS_RESULT = r ∧ t.active = s.active ∧ t.top.commits = [] := by
    obtain ⟨h1, h2, h3⟩ := refused_commit ht
    refine ⟨h1.trans (Nat.mod_eq_of_lt hr), h2.trans (hev.active_eq rfl), h3.trans ?_⟩
    rw [hev.top_eq rfl, hc]
  clear_value u
  refine ⟨_, hexec, fun hm => ?_, fun hm ht => ?_, fun hm ht => ?_⟩
  · obtain ⟨tick, ht⟩ := commitRequest_of_empty (hg.trans hm)
    exact hleft ht (by decide)
  · exact hleft (commitRequest_of_late (hg ▸ hm) hidle hdomu (by rw [htick, hnow]; exact ht)) (by decide)
  · exact hleft (commitRequest_of_far (hg ▸ hm) hidle hdomu (by rw [htick, hnow]; exact ht)) (by decide)

theorem cancel_result {who : Initiator} {s : State} (h : admits s who Reg.TOP_COMMIT_CTL 4 = true) (hph : s.img.phase ≠ .pending)
    (hgone : s.top.commits.filter (fun c => c.mask &&& commitGroups s != 0) ≠ []) :
    Runs (.commitCancel who) s (fun t => t.top.commits = s.top.commits.filter (fun c => !(c.mask &&& commitGroups s != 0))
      ∧ fld t Reg.TOP_COMMIT_STATUS F.TOP_COMMIT_STATUS_RESULT = 8 ∧ t.active = s.active) := by
  have hexec : exec (.commitCancel who) s = .next (cancelMask { s with resp := .none } (commitGroups s)) := by
    show Host.Outcome.next (gated s who Reg.TOP_COMMIT_CTL 4 (fun s => cancelMask s (expandMask (framesOf s) (rd64 s Reg.TOP_COMMIT_MASK_LO)))) = _
    rw [gated_of_admits s who _ _ _ h]
    rfl
  refine ⟨_, hexec, ?_⟩
  have himg : imgGroups { s with resp := .none } = 0 := if_neg hph
  generalize commitGroups s = m at hgone ⊢
  unfold cancelMask
  simp only [himg, Nat.zero_and, bne_self_eq_false, Bool.not_false, and_true, if_neg hgone, Bool.false_eq_true, if_false]
  have hleft (l : List PendCommit) (u : State) : Evolves { regs := true, drain := true, recd := true } u
      (forEach l u (fun s c => commitEntry s c.mask 1 resCancelled c.tick)) := .forEach fun _ _ => commitEntry_evolves
  refine ⟨?_, ?_, ?_⟩
  · rw [pendRefresh_evolves.top_eq rfl, commitResult_evolves.top_eq rfl, (hleft _ _).top_eq rfl]
  · exact (result_pendRefresh _).trans (result_commitResult _ 8)
  · rw [pendRefresh_evolves.active_eq rfl, commitResult_evolves.active_eq rfl, (hleft _ _).active_eq rfl]

theorem commitActive_of_top (s : State) (x : TopSt) (m : Nat) (snap : Tab Word) : commitActive { s with top := x } m snap = commitActive s m snap := rfl

theorem tickCommit_result {s : State} {c : PendCommit} (hc : s.top.commits = [c]) (hph : s.img.phase ≠ .pending) :
    Runs .tickCommit s (fun t => t.active = commitActive (reach s c.tick) c.mask c.snap) := by
  have htop : (reach s c.tick).top = s.top := reach_evolves.top_eq rfl
  refine ⟨_, rfl, ?_⟩
  unfold commitTick
  simp only [hc, List.map_cons, List.map_nil, List.min?_singleton, hph, false_and, if_false, htop, beq_self_eq_true, List.filter_cons_of_pos,
    List.filter_nil]
  rw [pendRefresh_evolves.active_eq rfl]
  show (commitEffect _ c.mask c.snap 1 c.tick).active = _
  rw [commitEffect_active, commitActive_of_top]

/-- Settles O15: the request's checks in their order (R914), CANCEL, and the switch at a tick. -/
theorem commitPortResults : Obligations.CommitPortResults :=
  ⟨⟨fun _ _ h hue hdom hm hpend hlow hhigh hok => tickRequest_result h hue hdom hm hpend hlow hhigh hok,
    fun _ _ h hph hgone => cancel_result h hph hgone, fun _ _ hc hph => tickCommit_result hc hph⟩,
    fun _ _ h hc hph hdom => refusedRequest_result h hc hph hdom⟩

/-! ## An immediate commit (O16) -/

/-- Only HOLD registers are in a group. -/
theorem isHold_of_inMask {f : Frames} {m off : Nat} (h : inMask f m off = true) : isHold off = true := by
  unfold inMask groupAt at h
  unfold isHold
  cases hr : regFind off with
  | none => simp [hr] at h
  | some r =>
    simp only [hr] at h
    by_cases ha : r.access = .hold
    · simp [ha]
    · simp [ha] at h

/-- The active copies that a request leaves when it takes effect at once. -/
theorem ac_commitNow {s : State} (hr : regsWf s = true) (off : Nat) :
    ac (commitEffect (commitAsked s) (commitGroups s) (requestSnap s) 0 0) off
      = if inMask (framesOf s) (commitGroups s) off && !ceilLocked s off then rd s off else ac s off := by
  have hev : Evolves { regs := true } s (commitAsked s) := commitAsked_evolves
  have hrises : tabRises (commitAsked s).regs := ((regsWf_iff _).1 (hev.regs hr)).1.1
  have hac : ac (commitAsked s) off = ac s off := by unfold ac; rw [hev.active_eq rfl]
  have hceil : ceilLocked (commitAsked s) off = ceilLocked s off := by
    unfold ceilLocked partHere capLocked
    rw [framesOf_of_img (hev.img_eq rfl)]
  have hgot := tabGet_commitActive (s := commitAsked s) (commitGroups s) hrises off
  rw [framesOf_of_img (hev.img_eq rfl), hceil, hac] at hgot
  unfold ac
  rw [commitEffect_active, requestSnap]
  refine hgot.trans ?_
  by_cases hin : inMask (framesOf s) (commitGroups s) off = true
  · have hh := isHold_of_inMask hin
    have hne (o : Nat) (ho : isHold o = false) : o ≠ off := fun he => by rw [he, hh] at ho; cases ho
    rw [rd_commitAsked (hne _ (by decide)) (hne _ (by decide))]
    rfl
  · rw [Bool.not_eq_true] at hin
    rw [hin, Bool.false_and, if_neg Bool.false_ne_true, if_neg Bool.false_ne_true]
    rfl

/-- Settles O16: the request's snapshot holds every staged word of its groups, and a commit writes it into the active copies at once. -/
theorem immediateCommitSwitchesActiveCopies : Obligations.ImmediateCommitSwitchesActiveCopies := by
  intro who s h hwf hue hdom m v hm hpend hok
  refine ⟨_, exec_commitRequest (tick := false) h hue, fun off => ?_⟩
  rw [commitRequest_of_ok (s := { s with resp := .none }) false hm hpend hdom (fun he => by cases he) hue hok]
  rw [if_neg Bool.false_ne_true]
  exact ac_commitNow (s := { s with resp := .none }) hwf off

end Sys2Proof.Machine
end

section
/-! PROOF. A refused image leaves the configuration (O25). -/

namespace Sys2Proof.Machine
open Host
set_option Elab.async false

/-! ## What the loader leaves of the configuration -/

/-- The registers that a load writes before it applies anything, with those of its records. -/
def loadRegs : List Nat := [Reg.SEC_IMG_STATUS, Reg.SEC_IMG_FAIL_INFO, Reg.TOP_COMMIT_STATUS] ++ stageRegs .mgmt

/-- The configuration that R216 speaks of: device state, active bank, active copies, and every register that no load writes. -/
structure ConfigKept (s t : State) : Prop where
  state : t.top.state = s.top.state
  bank : actBank t = actBank s
  active : t.active = s.active
  regs : RdKept loadRegs s t

section
variable {s t u : State}

theorem actBank_of_img (h : t.img = s.img) : actBank t = actBank s := by
  unfold actBank
  rw [h]

theorem ConfigKept.refl : ConfigKept s s := ⟨rfl, rfl, rfl, .refl⟩

theorem ConfigKept.trans (h : ConfigKept s t) (k : ConfigKept t u) : ConfigKept s u :=
  ⟨k.state.trans h.state, k.bank.trans h.bank, k.active.trans h.active, h.regs.trans k.regs⟩

/-- A change of registers that a load may write. -/
theorem ConfigKept.of_evolves {W : Blocks} (h : Evolves W s t) (hr : RdKept loadRegs s t) (ht : W.top = false := by rfl)
    (hi : W.img = false := by rfl) (ha : W.active = false := by rfl) : ConfigKept s t :=
  ⟨by rw [h.top_eq ht], actBank_of_img (h.img_eq hi), h.active_eq ha, hr⟩

theorem rdKept_commitEntry (m mode r tick : Nat) (un : Bool) : RdKept loadRegs s (commitEntry s m mode r tick un) :=
  .record (by decide)

theorem rdKept_pendRefresh : RdKept loadRegs s (pendRefresh s) := .setF _ _ (by decide)

theorem configKept_pendRefresh : ConfigKept s (pendRefresh s) := .of_evolves pendRefresh_evolves rdKept_pendRefresh

theorem actBank_shadowRefill : actBank (shadowRefill s) = actBank s := by
  unfold shadowRefill actBank
  split <;> simp_all

theorem banks_shadowRefill : (shadowRefill s).img.bank0 = (shadowRefill s).img.bank1 := by
  unfold shadowRefill
  split <;> rfl

theorem shadowRefill_phase : (shadowRefill s).img.phase = s.img.phase := by
  unfold shadowRefill
  split <;> rfl

/-- A refusal refills the shadow bank (R216). -/
theorem configKept_shadowRefill (h : actBank t = actBank s) (hs : t.top = s.top) (ha : t.active = s.active) (hr : t.regs = s.regs) :
    ConfigKept s (shadowRefill t) where
  state := by rw [shadowRefill_evolves.top_eq rfl, hs]
  bank := actBank_shadowRefill.trans h
  active := (shadowRefill_evolves.active_eq rfl).trans ha
  regs := .of_regs ((shadowRefill_evolves.regs_eq rfl).trans hr)

/-- The refusal itself, before the pending commits are shown again. -/
theorem loadEnd_eq (s : State) (result item byte : Nat) : ∃ u : State, ConfigKept s u ∧ u.img.bank0 = u.img.bank1 ∧ u.img.phase = .idle
    ∧ loadEnd s result item byte = if s.img.phase = .pending then pendRefresh u else u := by
  unfold loadEnd
  extract_lets ph dig s1 s2 s3 pend x s4
  have h1 : Evolves { regs := true } s s1 := setF_evolves
  have h2 : Evolves { regs := true } s1 s2 := wrN_evolves
  have h3 : Evolves { regs := true, drain := true, recd := true } s2 s3 := record_evolves
  have h13 : Evolves { regs := true, drain := true, recd := true } s s3 := .trans (t := s1) h1.mono (.trans (t := s2) h2.mono h3)
  have hregs : RdKept loadRegs s s3 :=
    .trans (t := s1) (.setF _ _ (by decide)) (.trans (t := s2) (.wrN _ (by decide)) (.record (by decide)))
  have hpend : pend ↔ s.img.phase = .pending := by
    show s3.img.phase = .pending ↔ _
    rw [h13.img_eq rfl]
  clear_value s3
  have hkept : ConfigKept s s4 :=
    (ConfigKept.of_evolves h13 hregs).trans (configKept_shadowRefill rfl rfl rfl rfl)
  refine ⟨s4, hkept, banks_shadowRefill, shadowRefill_phase, ?_⟩
  simp only [hpend]

theorem configKept_loadEnd {result item byte : Nat} : ConfigKept s (loadEnd s result item byte) := by
  obtain ⟨u, hu, -, -, he⟩ := loadEnd_eq s result item byte
  rw [he]
  split
  · exact hu.trans configKept_pendRefresh
  · exact hu

theorem banks_loadEnd {result item byte : Nat} : (loadEnd s result item byte).img.bank0 = (loadEnd s result item byte).img.bank1 := by
  obtain ⟨u, -, hb, -, he⟩ := loadEnd_eq s result item byte
  rw [he]
  split
  · rw [pendRefresh_evolves.img_eq rfl]
    exact hb
  · exact hb

/-- With no partial image pending, cancelling touches the commit port alone. -/
theorem configKept_cancelAllCommits (h : s.img.phase ≠ .pending) : ConfigKept s (cancelAllCommits s) ∧ (cancelAllCommits s).img = s.img := by
  have himg : (0 &&& allGroups != 0) = false := rfl
  unfold cancelAllCommits cancelMask imgGroups
  simp only [if_neg h, himg, Bool.not_false, and_true, Bool.false_eq_true, if_false]
  split
  · exact ⟨.refl, rfl⟩
  · have hrec (l : List PendCommit) (u : State) : Evolves { regs := true, drain := true, recd := true } u
        (forEach l u (fun s c => commitEntry s c.mask 1 resCancelled c.tick)) := .forEach fun _ _ => commitEntry_evolves
    have hrd (l : List PendCommit) (u : State) : RdKept loadRegs u
        (forEach l u (fun s c => commitEntry s c.mask 1 resCancelled c.tick)) := .forEach fun _ _ => rdKept_commitEntry _ _ _ _ _
    refine ⟨.trans (t := { s with top := { s.top with commits := s.top.commits.filter (fun c => !(c.mask &&& allGroups != 0)) } }) ⟨rfl, rfl, rfl, .of_regs rfl⟩
      (.trans (.of_evolves (hrec _ _) (hrd _ _)) (.trans (.of_evolves commitResult_evolves (.setF _ _ (by decide))) configKept_pendRefresh)), ?_⟩
    rw [pendRefresh_evolves.img_eq rfl, commitResult_evolves.img_eq rfl, (hrec _ _).img_eq rfl]

/-- What R216 says of a refusal that comes of `u`, a state with the configuration of `s`. -/
theorem refusal_keeps {result item byte : Nat} (h : ConfigKept s u) (ht : t = loadEnd u result item byte) :
    t.top.state = s.top.state ∧ actBank t = actBank s ∧ t.img.bank0 = t.img.bank1 ∧ t.active = s.active
      ∧ (∀ off, isHold off = true → rd t off = rd s off)
      ∧ rd t Reg.SEC_IMG_GEN = rd s Reg.SEC_IMG_GEN ∧ ∀ k, k < 12 → rd t (Reg.SEC_IMG_DIGEST k) = rd s (Reg.SEC_IMG_DIGEST k) := by
  subst ht
  have hk : ConfigKept s (loadEnd u result item byte) := h.trans configKept_loadEnd
  have hdig : ∀ k, k < 12 → Reg.SEC_IMG_DIGEST k ∉ loadRegs := by decide
  have hhold : ∀ off ∈ loadRegs, isHold off = false := by decide
  refine ⟨hk.state, hk.bank, banks_loadEnd, hk.active, fun off ho => hk.regs off fun hm => ?_, hk.regs _ (by decide), fun k hlt => hk.regs _ (hdig k hlt)⟩
  rw [hhold off hm] at ho
  cases ho

end

/-! ## The phase of a load that has been applied -/

/-- An applied load stays applied: its phase is the refill of the shadow bank. -/
def RefillKept (s t : State) : Prop := s.img.phase = .refill → t.img.phase = .refill

section
variable {s t u : State}

theorem RefillKept.refl : RefillKept s s := id

theorem RefillKept.trans (h : RefillKept s t) (k : RefillKept t u) : RefillKept s u := k ∘ h

theorem RefillKept.of_img (h : t.img.phase = s.img.phase) : RefillKept s t := fun hs => h.trans hs

theorem RefillKept.of_evolves {W : Blocks} (h : Evolves W s t) (hW : W.img = false := by rfl) : RefillKept s t :=
  .of_img (by rw [h.img_eq hW])

theorem RefillKept.ite {c : Prop} [Decidable c] (h : RefillKept s t) (k : RefillKept s u) : RefillKept s (if c then t else u) := by
  split
  · exact h
  · exact k

theorem RefillKept.forEach {α : Type} {l : List α} {f : State → α → State} (h : ∀ t x, RefillKept t (f t x)) : RefillKept s (forEach l s f) := by
  unfold Machine.forEach
  induction l generalizing s with
  | nil => exact .refl
  | cons x l ih => exact (h s x).trans ih

/-- An applied load is no longer active, so nothing aborts it. -/
theorem refillKept_loadAbort {result : Nat} : RefillKept s (loadAbort s result) := by
  intro h
  have hact : loadActive s = false := by simp [loadActive, h]
  unfold loadAbort
  rw [hact]
  exact h

theorem refillKept_haltEntry {trip : Nat} : RefillKept s (haltEntry s trip) := by
  unfold haltEntry
  extract_lets s1 s2
  refine .ite .refl ?_
  have h2 : RefillKept s s2 := .trans (t := s1) refillKept_loadAbort (.ite .refl (.of_evolves originTrip_evolves))
  exact h2.trans (.trans (t := { s2 with top := { s2.top with startNext := none, stopping := false } }) (.of_img rfl) (.of_evolves enterState_evolves))

theorem refillKept_haltSwitched {trip : Nat} : RefillKept s (haltSwitched s trip) := by
  unfold haltSwitched
  exact .trans refillKept_haltEntry (.of_evolves dischargeAll_evolves)

theorem refillKept_latchRail {kind r what : Nat} : RefillKept s (latchRail s kind r what) := by
  unfold latchRail
  extract_lets ready s1 s2 s3 s4 s5 bit s6
  have h1 : RefillKept s s1 := .of_evolves latchSet_evolves
  have h2 : RefillKept s1 s2 := .ite (.of_evolves leaveReg_evolves) .refl
  have h4 : RefillKept s2 s4 := .trans (t := s3) (.of_evolves crowbarOn_evolves) (.of_evolves raise_evolves)
  have h5 : RefillKept s s5 := by
    unfold s5
    split
    · exact h1.trans (h2.trans (h4.trans (.trans (.of_evolves setCh_evolves) (.of_evolves disDrop_evolves))))
    · exact h1.trans (.ite .refl (.ite (.of_evolves discharge_evolves) (.of_evolves setCh_evolves)))
  clear_value s5
  refine h5.trans (.ite ?_ (.of_evolves startAdvance_evolves))
  have h6 : RefillKept s5 s6 := .ite .refl (.of_evolves originTrip_evolves)
  exact h6.trans (.trans (t := { s6 with top := { s6.top with hChan := s6.top.hChan ||| bit } }) (.of_img rfl) refillKept_haltSwitched)

theorem refillKept_thermalTrip {bit die : Nat} : RefillKept s (thermalTrip s bit die) := by
  unfold thermalTrip
  extract_lets s1 s2 s3
  have h1 : RefillKept s s1 := .ite .refl (.trans (.trans (.of_evolves raise_evolves) (.trans (.of_evolves protEntry_evolves) (.of_evolves lifeUp_evolves)))
    (.of_evolves originTrip_evolves))
  have h3 : RefillKept s1 s3 := .trans (t := s2) (.of_evolves raise_evolves) (.of_evolves phasesMid_evolves)
  clear_value s3
  exact h1.trans (h3.trans (.trans refillKept_haltEntry (.of_evolves dischargeAll_evolves)))

theorem refillKept_stageFault {p reading : Nat} : RefillKept s (stageFault s p reading) := by
  unfold stageFault
  extract_lets r s1 s2 s3 s4 s5
  refine .ite .refl (.ite ?_ (.trans (.trans (.of_evolves setPh_evolves) (.of_evolves raise_evolves)) (.of_evolves stageEntry_evolves)))
  have h4 : RefillKept s s4 := .trans (t := s1) (.of_evolves setPh_evolves) (.trans (t := s2) (.of_evolves raise_evolves)
    (.trans (t := s3) (.of_evolves raise_evolves) (.of_evolves stageEntry_evolves)))
  have h5 : RefillKept s4 s5 := .ite (.of_evolves dripExit_evolves) .refl
  clear_value s5
  exact h4.trans (h5.trans (.ite refillKept_latchRail .refl))

theorem refillKept_limitsNow : RefillKept s (limitsNow s) := by
  unfold limitsNow
  extract_lets s1 s2 hot
  have h1 : RefillKept s s1 := .forEach fun t c => .ite refillKept_latchRail .refl
  have h2 : RefillKept s1 s2 := .forEach fun t p => .ite (.trans (.of_evolves raise_evolves) refillKept_stageFault) .refl
  clear_value hot s2
  exact h1.trans (h2.trans (.ite refillKept_thermalTrip .refl))

theorem refillKept_commitProt : RefillKept s (commitProt s) := by
  unfold commitProt
  exact .trans (.forEach fun _ _ => .of_evolves cfgTrip_evolves) refillKept_limitsNow

theorem refillKept_commitHooks {s0 : State} {m : Nat} : RefillKept s (commitHooks s0 s m) := by
  unfold commitHooks
  extract_lets s1 s2 s3 s4 s5 s6 s7
  have h1 : RefillKept s s1 := .trans (t := if m % 256 = 0 then s else commitDisable s) (.ite .refl (.of_evolves commitDisable_evolves))
    (.forEach fun _ _ => .of_evolves commitRail_evolves)
  have h2 : RefillKept s1 s2 := .forEach fun _ _ => .of_evolves commitPart_evolves
  have h3 : RefillKept s2 s3 := .ite refillKept_commitProt .refl
  have h4 : RefillKept s3 s4 := .ite (.of_evolves commitFq_evolves) .refl
  have h5 : RefillKept s4 s5 := .ite (.of_evolves estCmd_evolves) .refl
  have h6 : RefillKept s5 s6 := .ite (.forEach fun t k => .trans (.of_evolves derate_evolves) (.of_evolves estFlags_evolves)) .refl
  have h7 : RefillKept s6 s7 := .ite (.forEach fun _ _ => .of_evolves laneStart_evolves) .refl
  exact h1.trans (h2.trans (h3.trans (h4.trans (h5.trans (h6.trans (h7.trans (.ite (.of_evolves commitPb_evolves) .refl)))))))

theorem refillKept_blocksApply {role : State → State} (hrole : ∀ t, RefillKept t (role t)) : RefillKept s (blocksApply s role) := by
  unfold blocksApply
  extract_lets s1 s2 s3 s4 s5 s6 s7 s8
  have h3 : RefillKept s s3 := .trans (t := s1) (.of_evolves btApply_evolves) (.trans (t := s2) (hrole s1) (.of_evolves fqApply_evolves))
  have h6 : RefillKept s3 s6 := .trans (t := s4) (.of_evolves chanApply_evolves) (.trans (t := s5) (.of_evolves capApply_evolves) (.of_evolves estApply_evolves))
  have h8 : RefillKept s6 s8 := .trans (t := s7) (.of_evolves fabStart_evolves) (.of_evolves lanesApply_evolves)
  exact h3.trans (h6.trans (h8.trans (.trans (.forEach fun _ _ => .of_evolves cfgAll_evolves) refillKept_limitsNow)))

/-- The banks swap and the refill begins. -/
theorem imageSwap_phase {b : List Byte} : (imageSwap s b).img.phase = .refill := by
  unfold imageSwap
  extract_lets l dig i1 s1 s2 s3 s4 s5
  have h : Evolves { regs := true } s1 (setF s5 Reg.SEC_IMG_STATUS F.SEC_IMG_STATUS_REGIONS (leAt b 0x16 2)) :=
    .trans (t := s2) wrN_evolves (.trans (t := s3) (.forEach fun _ _ => wrN_evolves) (.trans (t := s4) setF_evolves (.trans (t := s5) setF_evolves setF_evolves)))
  rw [h.img_eq rfl]

theorem refillKept_retain {off : Nat} {v : Word} : RefillKept s (retain s off v) := .of_img rfl

theorem applyFull_phase {b : List Byte} : (applyFull s b).img.phase = .refill := by
  unfold applyFull
  extract_lets was ps s1 t1 i1 s2 s3 s4 s5 s6 s7 s8
  have h2 : RefillKept s1 s2 := fun h => by
    show (holdReset _).img.phase = .refill
    rw [holdReset_evolves.img_eq rfl]
    exact h
  have h3 : RefillKept s1 s3 :=
    h2.trans (.forEach fun t p => .trans (.of_evolves holdBoth_evolves) refillKept_retain)
  have h6 : RefillKept s3 s6 := .trans (t := s4) (.of_evolves enterState_evolves)
    (.trans (t := s5) (.trans (.of_evolves commitSeq_evolves) (.of_evolves commitEntry_evolves)) (.of_evolves coresReset_evolves))
  have h8 : RefillKept s6 s8 := .trans (t := s7) (.ite (.of_evolves wr_evolves) .refl)
    (.trans (refillKept_blocksApply fun _ => .of_evolves domRole_evolves) (.of_evolves lifeUp_evolves))
  exact (h3.trans (h6.trans h8)) imageSwap_phase

theorem applyPartial_phase {b : List Byte} {tick : Nat} : (applyPartial s b tick).img.phase = .refill := by
  unfold applyPartial
  extract_lets rs m ps s1 s2 s3 s4 s5
  have h3 : RefillKept s1 s3 := .trans (t := s2) (.of_img rfl) (.forEach fun t p => .trans (.of_evolves holdBoth_evolves) refillKept_retain)
  have h4 : RefillKept s3 s4 := .trans (.trans (.of_evolves commitSeq_evolves) (.of_evolves commitEntry_evolves)) (.of_evolves pendRefresh_evolves)
  have h5 : RefillKept s4 s5 := .forEach fun _ _ => .of_evolves regionApply_evolves
  exact (h3.trans (h4.trans (h5.trans (.trans (.forEach fun _ _ => .of_evolves cfgAll_evolves) refillKept_commitHooks)))) imageSwap_phase

end

/-! ## The three commands at which a load is refused -/

section
variable {s t u : State}

theorem configKept_phase {p : LoadPhase} : ConfigKept s { s with img := { s.img with phase := p } } := ⟨rfl, rfl, rfl, .of_regs rfl⟩

/-- What the loader's verification makes of a full image that it has begun to apply is no refusal. -/
theorem imageVerify_refused {bad : Option Nat} (h : (imageVerify s bad).img.phase = .idle) :
    ∃ u result item byte, ConfigKept s u ∧ imageVerify s bad = loadEnd u result item byte := by
  unfold imageVerify at h ⊢
  extract_lets b i0 at_ full l w tick i1 v at h ⊢
  have hpend : (pendRefresh (setF v Reg.SEC_IMG_STATUS F.SEC_IMG_STATUS_RESULT 3)).img.phase = .pending := by
    rw [pendRefresh_evolves.img_eq rfl, setF_evolves.img_eq rfl]
  have hfull : (applyFull w b).img.phase = .refill := applyFull_phase
  have hpart : (applyPartial w b 0).img.phase = .refill := applyPartial_phase
  clear_value v i1 w l b full tick
  split at h
  · next hc => exact ⟨s, _, _, _, .refl, if_pos hc⟩
  next hkey =>
  rw [if_neg hkey]
  split at h
  · next hc => exact ⟨s, _, _, _, .refl, if_pos hc⟩
  next hsig =>
  rw [if_neg hsig]
  split at h
  · next hc => exact ⟨s, _, _, _, .refl, if_pos hc⟩
  next hrb =>
  rw [if_neg hrb]
  split at h
  · exact ⟨at_ .parse, _, _, _, configKept_phase, rfl⟩
  split at h
  · exact ⟨at_ .check, _, _, _, configKept_phase, rfl⟩
  split at h
  · exact ⟨at_ .check, _, _, _, configKept_phase, rfl⟩
  split at h
  · next hc => exact ⟨at_ .check, _, _, _, configKept_phase, if_pos hc⟩
  · split at h
    · rw [hfull] at h; cases h
    · split at h
      · rw [hpart] at h; cases h
      · rw [hpend] at h; cases h

theorem configKept_imageBegun {full : Option Bool} (h : s.img.phase ≠ .pending) : ConfigKept s (imageBegun s full) := by
  unfold imageBegun
  extract_lets s1
  have h1 : ConfigKept s s1 := by
    unfold s1
    split
    · exact (configKept_cancelAllCommits h).1
    · exact .refl
  exact h1.trans ⟨rfl, rfl, rfl, .of_regs rfl⟩

theorem imageBegin_refused {told : Option Bool} (hp : s.img.phase ≠ .pending) (h : (imageBegin s told).img.phase = .idle) :
    ∃ u result item byte, ConfigKept s u ∧ imageBegin s told = loadEnd u result item byte := by
  unfold imageBegin at h ⊢
  extract_lets src len s1 s2 at h ⊢
  have h1 : ConfigKept s s1 := configKept_imageBegun hp
  clear_value s1 s2
  split at h
  · next hc => exact ⟨s, _, _, _, .refl, if_pos hc⟩
  next hsec =>
  rw [if_neg hsec]
  split at h
  · next hc => exact ⟨s, _, _, _, .refl, if_pos hc⟩
  next hstrap =>
  rw [if_neg hstrap]
  split at h
  · next hc => exact ⟨s, _, _, _, .refl, if_pos hc⟩
  next hrun =>
  rw [if_neg hrun]
  split at h
  · next hc => exact ⟨s1, _, _, _, h1, if_pos hc⟩
  next hstate =>
  rw [if_neg hstate]
  split at h
  · next hc => exact ⟨s1, _, _, _, h1, if_pos hc⟩
  · cases h

theorem configKept_fetchAer {src : Nat} {got : Fetched} : ConfigKept s (fetchAer s src got) := by
  unfold fetchAer
  split
  · exact ⟨rfl, rfl, rfl, .of_regs rfl⟩
  · exact .refl

theorem heldLoadBegin_refused {full : Bool} (hp : s.img.phase = .held) (he : exec (.heldLoadBegin full) s = .next t) (ht : t.img.phase = .idle) :
    ∃ u result item byte, ConfigKept s u ∧ t = loadEnd u result item byte := by
  have he' : (if s.img.phase = .held ∧ flag s Reg.TOP_SUPPLY F.TOP_SUPPLY_NVS_READY then Outcome.next (imageBegin s (some full)) else .next s) = .next t := he
  split at he'
  · cases he'
    exact imageBegin_refused (by simp [hp]) ht
  · cases he'
    rw [hp] at ht
    cases ht

theorem imageVerifyDone_refused {bad : Option (Fin 248)} (hp : s.img.phase = .verify) (he : exec (.imageVerifyDone bad) s = .next t) (ht : t.img.phase = .idle) :
    ∃ u result item byte, ConfigKept s u ∧ t = loadEnd u result item byte := by
  have he' : (if s.img.phase = .verify then Outcome.next (imageVerify s (bad.map (fun i => i.val))) else .next s) = .next t := he
  rw [if_pos hp] at he'
  cases he'
  exact imageVerify_refused ht

theorem imageFetchDone_refused {got : Fetched} (hp : s.img.phase = .fetch) (he : exec (.imageFetchDone got) s = .next t) (ht : t.img.phase = .idle) :
    ∃ u result item byte, ConfigKept s u ∧ t = loadEnd u result item byte := by
  have he' : execImageFetchDone got s = .next t := he
  revert he'
  fun_cases execImageFetchDone got s
  case case1 => exact fun he' => by cases he'; exact ⟨_, _, _, _, configKept_fetchAer, rfl⟩
  case case2 _ len b _ full u v r i o _ =>
    intro he'
    cases he'
    have hu : ConfigKept s u := by
      unfold u
      split
      · exact (configKept_cancelAllCommits (by simp [hp])).1
      · exact .refl
    clear_value u
    have hv : ConfigKept u v :=
      .trans (t := { u with img := { u.img with bytes := b, partial_ := leAt b 0x0C 1 == 1 } }) ⟨rfl, rfl, rfl, .of_regs rfl⟩
        (.of_evolves setF_evolves (.setF _ _ (by decide)))
    exact ⟨v, r, i, o, hu.trans hv, rfl⟩
  case case3 _ len b _ full u v _ =>
    intro he'
    clear_value v
    have hv : LoadPhase.verify = .idle := by
      rw [← ht, ← Outcome.next.inj he']
    cases hv
  case case4 => exact fun _ => absurd hp ‹_›

end

/-- Settles O25: each refusal is the end of a load, over a state in which nothing of the configuration has moved. -/
theorem imageRefusalLeavesConfiguration : Obligations.ImageRefusalLeavesConfiguration := by
  unfold Obligations.ImageRefusalLeavesConfiguration
  intro c s t hc he ht
  have hend : ∃ u result item byte, ConfigKept s u ∧ t = loadEnd u result item byte := by
    obtain ⟨⟨full, rfl⟩, hp⟩ | ⟨got, rfl, hp⟩ | ⟨bad, rfl, hp⟩ := hc
    · exact heldLoadBegin_refused hp he ht
    · exact imageFetchDone_refused hp he ht
    · exact imageVerifyDone_refused hp he ht
  obtain ⟨u, result, item, byte, hu, rfl⟩ := hend
  exact refusal_keeps hu rfl

end Sys2Proof.Machine
end

section
/-! PROOF. The step, the reset state, and what an idle step can still change (O1, O2, O3). -/

namespace Sys2Proof.Machine
open Host
set_option Elab.async false

/-- Settles O1. -/
theorem stepRunsFront : Obligations.StepRunsFront := by
  unfold Obligations.StepRunsFront
  intro c s rest h
  unfold step
  rw [h]

/-- The node in RUN with firmware owning the commit port, the store ready, and a baseline that firmware has yet to store. -/
def baselineDue : State :=
  let s := setF (setF (Tests.runs 0) Reg.TOP_COMMIT_OWNER ⟨0, 1⟩ 1) Reg.TOP_SUPPLY F.TOP_SUPPLY_NVS_READY 1
  { s with est := { s.est with baseDue := [{ k := 0, base := 1, rel := 1, at_ := 0 }] } }

/-- With its queue empty the node in `baselineDue` still stores the baseline. -/
theorem tick_baselineDue_stores : baselineDue.pending = [] ∧ baselineDue.top.porHeld = false
    ∧ flag baselineDue Reg.SBM_BMC_CAP F.SBM_BMC_CAP_PENDING = false ∧ (tick baselineDue).nvs ≠ baselineDue.nvs := by
  decide +kernel

/-- Refutes O2: the clause on the store fails where firmware has a baseline to store. -/
theorem not_idleStepIsOneTick : ¬ Obligations.IdleStepIsOneTick := by
  unfold Obligations.IdleStepIsOneTick
  intro h
  obtain ⟨hpend, hpor, hcap, hnvs⟩ := tick_baselineDue_stores
  obtain ⟨t, hstep, -, -, hrun⟩ := h baselineDue hpend
  obtain ⟨-, -, -, -, -, -, -, -, ht, -⟩ := hrun hpor hcap
  have hidle : step baselineDue = .next (tick baselineDue) := by
    unfold step
    rw [hpend]
  rw [hidle] at hstep
  rw [← Outcome.next.inj hstep] at ht
  exact hnvs ht

/-- Settles O3. -/
theorem resetState : Obligations.ResetState := by
  unfold Obligations.ResetState
  refine ⟨rfl, rfl, rfl, fun off => ?_, fun off => ?_, ?_, ?_, ?_, rfl, rfl⟩
  · rfl
  · rfl
  · decide +kernel
  · decide +kernel
  · decide +kernel

end Sys2Proof.Machine
end

section
/-! PROOF. What a step keeps of a projection of the state, and what a sweep over a list leaves. -/

namespace Sys2Proof.Machine
open Host
set_option Elab.async false

/-- `t` shows of `g` what `s` shows. -/
def Shows {β : Type} (g : State → β) (s t : State) : Prop := g t = g s

section
variable {α β : Type} {g : State → β} {s t u : State}

theorem Shows.refl : Shows g s s := rfl

theorem Shows.trans (h : Shows g s t) (k : Shows g t u) : Shows g s u := Eq.trans k h

theorem Shows.eq (h : Shows g s t) : g t = g s := h

theorem Shows.ite {c : Prop} [Decidable c] (h : c → Shows g s t) (k : ¬c → Shows g s u) : Shows g s (if c then t else u) := by
  split
  · exact h ‹_›
  · exact k ‹_›

theorem Shows.forEach_mem {l : List α} {f : State → α → State} (h : ∀ t, ∀ x ∈ l, Shows g t (f t x)) : Shows g s (forEach l s f) := by
  unfold Machine.forEach
  induction l generalizing s with
  | nil => exact .refl
  | cons x l ih => exact (h s x (by simp)).trans (ih fun t y hy => h t y (by simp [hy]))

theorem Shows.forEach {l : List α} {f : State → α → State} (h : ∀ t x, Shows g t (f t x)) : Shows g s (forEach l s f) :=
  .forEach_mem fun t x _ => h t x

/-- A sweep leaves at `k` what the step for `k` writes there, where the other steps leave it alone and none moves what is written. -/
theorem forEach_writes {l : List α} {f : State → α → State} {k : α} (v : State → β) (hk : k ∈ l) (hw : ∀ s, g (f s k) = v s)
    (hkeep : ∀ s, ∀ x ∈ l, x ≠ k → g (f s x) = g s) (hv : ∀ s x, v (f s x) = v s) : g (forEach l s f) = v s := by
  classical
  unfold Machine.forEach
  induction l generalizing s with
  | nil => cases hk
  | cons x l ih =>
    rw [List.foldl_cons]
    by_cases hm : k ∈ l
    · rw [ih hm fun s y hy => hkeep s y (by simp [hy]), hv]
    · obtain rfl : k = x := (List.mem_cons.1 hk).resolve_right hm
      have hrest : Shows g (f s k) (l.foldl f (f s k)) :=
        Shows.forEach_mem (f := f) fun t y hy => hkeep t y (by simp [hy]) fun he => hm (he ▸ hy)
      rw [hrest.eq, hw]

theorem forEach_nil {f : State → α → State} : forEach [] s f = s := rfl

theorem forEach_cons {x : α} {l : List α} {f : State → α → State} : forEach (x :: l) s f = forEach l (f s x) f := rfl

end

end Sys2Proof.Machine
end

section
/-! PROOF. Samples of the lanes, and the slots that cross devices (O26). -/

namespace Sys2Proof.Machine
open Host
set_option Elab.async false

section
variable {s t : State} {α : Type}

/-! ## The fabric's tables -/

theorem srcOf_setSrc (c d : Nat) (v : Int) : srcOf (setSrc s c v) d = if c = d then v else srcOf s d := tabGet_tabSet _ _ _ _ _

theorem sigOf_setSig (i j : Nat) (v : Int) : sigOf (setSig s i v) j = if i = j then v else sigOf s j := tabGet_tabSet _ _ _ _ _

theorem rxOf_setRx (n m : Nat) (f : RxSlot → RxSlot) : rxOf (setRx s n f) m = if n = m then f (rxOf s n) else rxOf s m := tabGet_tabSet _ _ _ _ _

/-- A step that leaves the fabric alone leaves what is read of it. -/
theorem Shows.of_fab {g : FabSt → α} {W : Blocks} (h : Evolves W s t) (hW : W.fab = false := by rfl) : Shows (fun s => g s.fab) s t :=
  congrArg g (h.fab_eq hW)

theorem shows_srcOf_setSrc {c d : Nat} {v : Int} (h : d ≠ c) : Shows (srcOf · c) s (setSrc s d v) := by
  show srcOf (setSrc s d v) c = srcOf s c
  rw [srcOf_setSrc, if_neg h]

/-! ## What the lanes leave alone -/

/-- The parts of the fabric that no lane writes: sources, sample counts, and whether the lanes run. -/
def fabFixed (s : State) : Tab Int × Nat × Nat × Bool := (s.fab.src, s.fab.fs, s.fab.ms, s.fab.run)

theorem shows_fixed_of {W : Blocks} (h : Evolves W s t) (hW : W.fab = false := by rfl) : Shows fabFixed s t :=
  .of_fab (g := fun f => (f.src, f.fs, f.ms, f.run)) h hW

theorem shows_fixed_setTile {n : Nat} {f : TileSt → TileSt} : Shows fabFixed s (setTile s n f) := rfl

theorem shows_fixed_setSig {i : Nat} {v : Int} : Shows fabFixed s (setSig s i v) := rfl

theorem shows_fixed_setRx {n : Nat} {f : RxSlot → RxSlot} : Shows fabFixed s (setRx s n f) := rfl

theorem shows_fixed_tileApply {n : Nat} {o : TileOut} : Shows fabFixed s (tileApply s n o) := by
  unfold tileApply
  refine .trans ?_ (.trans (.ite (fun _ => .trans (.trans (shows_fixed_of raise_evolves) (shows_fixed_of raise_evolves)) (shows_fixed_of tileCount_evolves)) fun _ => .refl)
    (.trans (.ite (fun _ => .trans (.trans (.ite (fun _ => shows_fixed_of raise_evolves) fun _ => .refl)
      (.ite (fun _ => shows_fixed_of tileCount_evolves) fun _ => .refl)) (shows_fixed_of setF_evolves)) fun _ => .refl) (.trans shows_fixed_setTile shows_fixed_setSig)))
  extract_lets
  split
  · exact .refl
  · exact shows_fixed_of drawInt_evolves

theorem shows_fixed_latchSources {lane : Nat} : Shows fabFixed s (latchSources s lane) := by
  unfold latchSources
  exact .trans (.forEach fun _ _ => shows_fixed_setSig) (.forEach fun _ _ => shows_fixed_setSig)

theorem shows_fixed_latchSlots {lane : Nat} : Shows fabFixed s (latchSlots s lane) := by
  unfold latchSlots
  exact .ite (fun _ => .refl) fun _ => .trans (.forEach fun _ _ => shows_fixed_setRx) (.forEach fun _ _ => shows_fixed_setSig)

theorem shows_fixed_evalLane {lane : Nat} : Shows fabFixed s (evalLane s lane) := by
  unfold evalLane
  exact .forEach fun _ _ => .forEach fun _ _ => shows_fixed_tileApply

theorem shows_fixed_accumulate {lane : Nat} : Shows fabFixed s (accumulate s lane) := by
  unfold accumulate
  exact .forEach fun _ _ => .ite (fun _ => .refl) fun _ => shows_fixed_setTile

theorem shows_fixed_latchSinks {lane : Nat} : Shows fabFixed s (latchSinks s lane) := by
  unfold latchSinks
  extract_lets f due s1 tx1 tx2
  have h1 : Shows fabFixed s s1 := .forEach fun _ _ => rfl
  exact h1.trans rfl

theorem shows_fixed_laneSample {lane : Nat} : Shows fabFixed s (laneSample s lane) := by
  unfold laneSample
  exact shows_fixed_latchSources.trans (shows_fixed_latchSlots.trans (shows_fixed_evalLane.trans (shows_fixed_accumulate.trans shows_fixed_latchSinks)))

/-! ## What a lane latches into its sinks -/

/-- Each sink bound on a slower lane holds its signal, aligned to the sink's point and saturated. -/
def Latched (fr : Frames) (t : State) (lane : Nat) : Prop := ∀ k, k < 112 → sinkBoundF fr k = true → sigLaneF fr (sinkSigF fr k) = lane →
  sinkOf t k = satI 24 (alignTo (sigOf t (sinkSigF fr k)) (sigPointF fr (sinkSigF fr k)) (sinkPoint fr k))

theorem latched_latchSinks {lane : Nat} : Latched (framesOf s) (latchSinks s lane) lane := by
  intro k hk hb hl
  unfold latchSinks
  extract_lets f due s1 tx1 tx2
  have hmem : k ∈ due := by simp [due, f, hk, hb, hl]
  have hsig : Shows (fun s => s.fab.sig) s s1 := .forEach fun _ _ => rfl
  have hsink : sinkOf s1 k = satI 24 (alignTo (sigOf s (sinkSigF f k)) (sigPointF f (sinkSigF f k)) (sinkPoint f k)) :=
    forEach_writes (g := (sinkOf · k)) (v := fun s => satI 24 (alignTo (sigOf s (sinkSigF f k)) (sigPointF f (sinkSigF f k)) (sinkPoint f k))) hmem
      (fun s => tabGet_tabSet_same _ _ _ _) (fun s x _ hx => tabGet_tabSet_ne _ _ _ hx) fun _ _ => rfl
  show sinkOf s1 k = satI 24 (alignTo (tabGet 0 s1.fab.sig (sinkSigF f k)) _ _)
  rw [hsink, hsig.eq]
  rfl

theorem latched_laneSample {lane : Nat} : Latched (framesOf s) (laneSample s lane) lane := by
  unfold laneSample
  extract_lets s1
  have h : framesOf (accumulate (evalLane s1 lane) lane) = framesOf s := by
    refine framesOf_of_img ?_
    rw [accumulate_evolves.img_eq rfl, evalLane_evolves.img_eq rfl, latchSlots_evolves.img_eq rfl, latchSources_evolves.img_eq rfl]
  rw [← h]
  exact latched_latchSinks

/-! ## Samples -/

theorem latched_of_fab {fr : Frames} {lane fs ms : Nat} (h : Latched fr s lane) : Latched fr { s with fab := { s.fab with fs := fs, ms := ms } } lane := h

/-- What a lane computes: its signals, sinks and tiles. -/
def laneValues (s : State) : Tab Int × Tab Int × Tab TileSt := (s.fab.sig, s.fab.sink, s.fab.tile)

theorem idle_of_values (h : Shows laneValues s t) : t.fab.sig = s.fab.sig ∧ t.fab.sink = s.fab.sink ∧ t.fab.tile = s.fab.tile := by
  simpa [laneValues] using h.eq

theorem shows_srcOf_of {c : Nat} {W : Blocks} (h : Evolves W s t) (hW : W.fab = false := by rfl) : Shows (srcOf · c) s t :=
  .of_fab (g := fun f => tabGet 0 f.src c) h hW

theorem srcOf_of_fixed {c : Nat} (h : Shows fabFixed s t) : srcOf t c = srcOf s c := congrArg (fun x : Tab Int × Nat × Nat × Bool => tabGet 0 x.1 c) h

theorem fs_of_fixed (h : Shows fabFixed s t) : t.fab.fs = s.fab.fs := congrArg (fun x => x.2.1) h.eq

theorem ms_of_fixed (h : Shows fabFixed s t) : t.fab.ms = s.fab.ms := congrArg (fun x => x.2.2.1) h.eq

/-- The counts and the state of the lanes, and the values they compute: all but the sources. -/
def fabButSrc (s : State) : (Nat × Nat × Bool) × (Tab Int × Tab Int × Tab TileSt) := ((s.fab.fs, s.fab.ms, s.fab.run), laneValues s)

theorem shows_butSrc_of {W : Blocks} (h : Evolves W s t) (hW : W.fab = false := by rfl) : Shows fabButSrc s t :=
  .of_fab (g := fun f => ((f.fs, f.ms, f.run), (f.sig, f.sink, f.tile))) h hW

theorem shows_butSrc_setSrc {c : Nat} {v : Int} : Shows fabButSrc s (setSrc s c v) := rfl

theorem fs_of_butSrc (h : Shows fabButSrc s t) : t.fab.fs = s.fab.fs := congrArg (fun x => x.1.1) h.eq

theorem ms_of_butSrc (h : Shows fabButSrc s t) : t.fab.ms = s.fab.ms := congrArg (fun x => x.1.2.1) h.eq

theorem run_of_butSrc (h : Shows fabButSrc s t) : t.fab.run = s.fab.run := congrArg (fun x => x.1.2.2) h.eq

theorem values_of_butSrc (h : Shows fabButSrc s t) : Shows laneValues s t :=
  congrArg (fun x : (Nat × Nat × Bool) × (Tab Int × Tab Int × Tab TileSt) => x.2) h

/-- R266: the temperatures reach their sources, and a running lane then latches its sinks. -/
theorem ms1Sample_results (p : PhIx) (v : Int) (s : State) :
    Runs (.ms1Sample [(p, v)]) s (fun t => (phaseRail s p.val < 8 → srcOf t (0x40 + p.val) = satI 24 v)
      ∧ (s.fab.run = true → t.fab.fs = 0 ∧ t.fab.ms = (s.fab.ms + 1) % 100 ∧ Latched (framesOf s) t 1)
      ∧ (s.fab.run = false → t.fab.sig = s.fab.sig ∧ t.fab.sink = s.fab.sink ∧ t.fab.tile = s.fab.tile)) := by
  show ∃ t, execMs1Sample [(p, v)] s = .next t ∧ _
  unfold execMs1Sample
  extract_lets s1 s2 s3 s4 s5 s6
  have h1 (hp : phaseRail s p.val < 8) : srcOf s1 (0x40 + p.val) = satI 24 v := by
    have : s1 = setSrc s (0x40 + p.val) (satI 24 v) := by simp [s1, hp, forEach_cons, forEach_nil]
    rw [this, srcOf_setSrc, if_pos rfl]
  have h2 : Evolves { regs := true } s1 s2 := .forEach fun _ _ => wrN_evolves
  have h35 : Evolves { sbm := true } s3 s5 := .trans (t := s4) (.forEach fun _ _ => meanAdd_evolves) meanAdd_evolves
  have h15 : Shows (srcOf · (0x40 + p.val)) s1 s5 :=
    .trans (t := s2) (shows_srcOf_of h2) (.trans (t := s3) (shows_srcOf_setSrc (by omega)) (shows_srcOf_of h35))
  have hbut : Shows fabButSrc s s5 := .trans (t := s1) (.forEach fun _ _ => shows_butSrc_setSrc)
    (.trans (t := s2) (shows_butSrc_of h2) (.trans (t := s3) shows_butSrc_setSrc (shows_butSrc_of h35)))
  have himg : framesOf s5 = framesOf s := by
    have hs : Evolves { fab := true } s s1 := .forEach fun _ _ => setSrc_evolves
    have hs3 : Evolves { fab := true } s2 s3 := setSrc_evolves
    exact framesOf_of_img (by rw [h35.img_eq rfl, hs3.img_eq rfl, h2.img_eq rfl, hs.img_eq rfl])
  have hrun := run_of_butSrc hbut
  have h56 : Shows fabFixed s5 s6 := shows_fixed_laneSample
  have hl : Latched (framesOf s5) s6 1 := latched_laneSample
  clear_value s5 s6
  by_cases hr : s.fab.run = true
  · rw [if_pos (hrun.trans hr)]
    refine ⟨_, rfl, fun hp => ?_, fun _ => ⟨rfl, ?_, ?_⟩, fun h => ?_⟩
    · exact (srcOf_of_fixed h56).trans (h15.eq.trans (h1 hp))
    · show (s6.fab.ms + 1) % 100 = _
      rw [ms_of_fixed h56, ms_of_butSrc hbut]
    · exact himg ▸ latched_of_fab hl
    · rw [hr] at h; cases h
  · rw [if_neg (by rw [hrun]; exact hr)]
    exact ⟨_, rfl, fun hp => h15.eq.trans (h1 hp), fun h => absurd h hr, fun _ => idle_of_values (values_of_butSrc hbut)⟩

/-- R267: the allocations of the partitions reach their sources, and a running lane then latches its sinks. -/
theorem khz10Sample_results (p : PartIx) (s : State) :
    Runs .khz10Sample s (fun t => srcOf t (0xE0 + p.val) = satI 24 (partAlloc s p.val * 32 : Nat)
      ∧ (s.fab.run = true → t.fab.ms = 0 ∧ Latched (framesOf s) t 2)
      ∧ (s.fab.run = false → t.fab.sig = s.fab.sig ∧ t.fab.sink = s.fab.sink ∧ t.fab.tile = s.fab.tile)) := by
  show ∃ t, execKhz10Sample s = .next t ∧ _
  unfold execKhz10Sample
  extract_lets s1 s2
  have h1 : srcOf s1 (0xE0 + p.val) = satI 24 (partAlloc s p.val * 32 : Nat) :=
    forEach_writes (g := (srcOf · (0xE0 + p.val))) (v := fun s => satI 24 (partAlloc s p.val * 32 : Nat)) (List.mem_range.2 p.isLt)
      (fun s => by rw [srcOf_setSrc, if_pos rfl]) (fun s x _ hx => by rw [srcOf_setSrc, if_neg (by omega)]) fun _ _ => rfl
  have hbut : Shows fabButSrc s s1 := .forEach fun _ _ => shows_butSrc_setSrc
  have hev : Evolves { fab := true } s s1 := .forEach fun _ _ => setSrc_evolves
  have hrun := run_of_butSrc hbut
  have h12 : Shows fabFixed s1 s2 := shows_fixed_laneSample
  have hl : Latched (framesOf s1) s2 2 := latched_laneSample
  have himg : framesOf s1 = framesOf s := framesOf_of_img (hev.img_eq rfl)
  clear_value s1 s2
  by_cases hr : s.fab.run = true
  · rw [if_pos (hrun.trans hr)]
    refine ⟨_, rfl, (srcOf_of_fixed h12).trans h1, fun _ => ⟨rfl, himg ▸ hl⟩, fun h => ?_⟩
    rw [hr] at h; cases h
  · rw [if_neg (by rw [hrun]; exact hr)]
    exact ⟨_, rfl, h1, fun h => absurd h hr, fun _ => idle_of_values (values_of_butSrc hbut)⟩

/-! ## Fast samples -/

theorem shows_pNum_of {W : Blocks} (h : Evolves W s t) (hW : W.fq = false := by rfl) : Shows (·.fq.pNum) s t :=
  congrArg FqSt.pNum (h.fq_eq hW)

theorem shows_pNum_railSample {r : Nat} {request : Int} : Shows (·.fq.pNum) s (railSample s r request) := by
  unfold railSample
  extract_lets s1 s2 s3
  have h2 : Shows (·.fq.pNum) s1 s2 := .trans (t := vtrimStep s1 r request) (shows_pNum_of vtrimStep_evolves) rfl
  exact .trans (t := s1) (shows_pNum_of vrefStep_evolves) (h2.trans (.trans (t := s3) (shows_pNum_of wrN_evolves)
    (.trans (shows_pNum_of windowCheck_evolves) (shows_pNum_of addCount_evolves))))

theorem shows_pNum_fastRails : Shows (·.fq.pNum) s (fastRails s) := by
  unfold fastRails
  exact .forEach fun s r => .trans shows_pNum_railSample (.ite (fun _ => .refl) fun _ => shows_pNum_of setCh_evolves)

/-- A reading of one carrier reaches its source, without the phase's calibration offset (R266). -/
theorem srcOf_fastReadings {p : Fin 144} {v : Int} (hp : p.val < 0x40) :
    srcOf (fastReadings s [(p, v)]) p.val = if phaseRail s p.val < 8 then satI 24 (v - (phOf s p.val).off * 256) else srcOf s p.val := by
  unfold fastReadings
  extract_lets s1 s2 s3
  have h1 : srcOf s1 p.val = if phaseRail s p.val < 8 then satI 24 (v - (phOf s p.val).off * 256) else srcOf s p.val := by
    have : s1 = if phaseRail s p.val < 8 then setSrc s p.val (satI 24 (v - (phOf s p.val).off * 256)) else s := by
      simp only [s1, forEach_cons, forEach_nil, if_pos hp]
    rw [this]
    split
    · rw [srcOf_setSrc, if_pos rfl]
    · rfl
  have h2 : Shows (srcOf · p.val) s1 s2 := shows_srcOf_of (.forEach fun _ _ => wrN_evolves)
  have h3 : Shows (srcOf · p.val) s2 s3 := .forEach fun _ _ => shows_srcOf_setSrc (by omega)
  refine .trans (Shows.eq (.trans h2 (.trans h3 (.forEach fun s r => ?_)))) h1
  extract_lets m i s4 a
  exact .trans (t := s4) (.trans (shows_srcOf_setSrc (by omega)) (shows_srcOf_of wrN_evolves)) (shows_srcOf_of setCh_evolves)

theorem shows_butSrc_fastReadings {l : List (Fin 144 × Int)} : Shows fabButSrc s (fastReadings s l) := by
  unfold fastReadings
  refine .trans (.forEach fun _ _ => .ite (fun _ => .ite (fun _ => shows_butSrc_setSrc) fun _ => .refl) fun _ => .ite (fun _ => shows_butSrc_setSrc) fun _ => .refl)
    (.trans (.forEach fun _ _ => shows_butSrc_of wrN_evolves) (.trans (.forEach fun _ _ => shows_butSrc_setSrc) (.forEach fun s r => ?_)))
  extract_lets m i s4 a
  exact .trans (t := s4) (.trans shows_butSrc_setSrc (shows_butSrc_of wrN_evolves)) (shows_butSrc_of setCh_evolves)

/-- R264: a reading reaches its source, and a running lane counts the sample. -/
theorem fastSample_results (p : Fin 144) (v : Int) (s : State) (hp : p.val < 0x40) :
    Runs (.fastSample [(p, v)]) s (fun t => (phaseRail s p.val < 8 → srcOf t p.val = satI 24 (v - (phOf s p.val).off * 256))
      ∧ (8 ≤ phaseRail s p.val → srcOf t p.val = srcOf s p.val) ∧ (s.fab.run = true → t.fab.fs = (s.fab.fs + 1) % 50 ∧ t.fq.pNum = s.fq.pNum + 1)
      ∧ (s.fab.run = false → (t.fab.sig = s.fab.sig ∧ t.fab.sink = s.fab.sink ∧ t.fab.tile = s.fab.tile) ∧ t.fab.fs = s.fab.fs)) := by
  show ∃ t, execFastSample [(p, v)] s = .next t ∧ _
  unfold execFastSample
  extract_lets s1 s2 s3 s4 s5 s6
  have h12 : Evolves { regs := true, pb := true, est := true, sbm := true } s1 s2 :=
    .forEach fun _ _ => .trans (.trans chanMin_evolves.mono senseAdd_evolves.mono) railMeans_evolves.mono
  have hsrc : srcOf s2 p.val = if phaseRail s p.val < 8 then satI 24 (v - (phOf s p.val).off * 256) else srcOf s p.val := by
    rw [(shows_srcOf_of h12 : Shows (srcOf · p.val) s1 s2).eq]
    exact srcOf_fastReadings hp
  have hbut : Shows fabButSrc s s2 := .trans (t := s1) shows_butSrc_fastReadings (shows_butSrc_of h12)
  have hfq : s2.fq = s.fq := (h12.fq_eq rfl).trans (fastReadings_evolves.fq_eq rfl)
  have hrun := run_of_butSrc hbut
  have h23 : Shows (srcOf · p.val) s2 s3 := .forEach fun _ _ => shows_srcOf_setSrc (by omega)
  have h23' : Evolves { fab := true } s2 s3 := .forEach fun _ _ => setSrc_evolves
  have h34 : Shows fabFixed s3 s4 := shows_fixed_laneSample
  have h34' : s4.fq = s3.fq := (laneSample_evolves (s := s3)).fq_eq rfl
  have h45 : Shows fabFixed s4 s5 := .trans (t := fastRails s4) (shows_fixed_of fastRails_evolves)
    (.forEach fun _ _ => .trans (shows_fixed_of dripCurrent_evolves) (shows_fixed_of onTimes_evolves))
  have h45' : Shows (·.fq.pNum) s4 s5 := .trans (t := fastRails s4) shows_pNum_fastRails
    (.forEach fun _ _ => .trans (shows_pNum_of dripCurrent_evolves) (shows_pNum_of onTimes_evolves))
  have h36 : Shows fabFixed s3 s6 := h34.trans (h45.trans (shows_fixed_of fastMark_evolves))
  have hfs : s3.fab.fs = s2.fab.fs := by
    have : Shows (·.fab.fs) s2 s3 := .forEach fun _ _ => rfl
    exact this.eq
  have hp6 : s6.fq.pNum = s.fq.pNum := by
    rw [← hfq, ← h23'.fq_eq rfl, ← h34', ← h45'.eq]
    exact (shows_pNum_of fastMark_evolves).eq
  clear_value s2 s3 s4 s5 s6
  by_cases hr : s.fab.run = true
  · rw [if_pos (hrun.trans hr)]
    have hs6 : srcOf s6 p.val = srcOf s2 p.val := (srcOf_of_fixed h36).trans h23.eq
    refine ⟨_, rfl, fun h => ?_, fun h => ?_, fun _ => ⟨?_, ?_⟩, fun h => ?_⟩
    · exact hs6.trans (hsrc.trans (if_pos h))
    · exact hs6.trans (hsrc.trans (if_neg (by omega)))
    · show (s6.fab.fs + 1) % 50 = _
      rw [fs_of_fixed h36, hfs, fs_of_butSrc hbut]
    · show s6.fq.pNum + 1 = _
      rw [hp6]
    · rw [hr] at h; cases h
  · rw [if_neg (by rw [hrun]; exact hr)]
    exact ⟨_, rfl, fun h => hsrc.trans (if_pos h), fun h => hsrc.trans (if_neg (by omega)), fun h => absurd h hr,
      fun _ => ⟨idle_of_values (values_of_butSrc hbut), fs_of_butSrc hbut⟩⟩

/-! ## Slots that cross devices -/

theorem shows_sigOf_of {i : Nat} {W : Blocks} (h : Evolves W s t) (hW : W.fab = false := by rfl) : Shows (sigOf · i) s t :=
  .of_fab (g := fun f => tabGet 0 f.sig i) h hW

theorem shows_rx_of {W : Blocks} (h : Evolves W s t) (hW : W.fab = false := by rfl) : Shows (·.fab.rx) s t :=
  .of_fab (g := fun f => f.rx) h hW

theorem rxOf_of_rx (h : Shows (·.fab.rx) s t) (n : Nat) : rxOf t n = rxOf s n :=
  congrArg (fun x : Tab RxSlot => tabGet ({} : RxSlot) x n) (Shows.eq (g := fun s : State => s.fab.rx) h)

theorem bitOf_of_flag {off k : Nat} (h : flag s off ⟨k, 1⟩ = true) : bitOf (rd s off).toNat k = true := by
  simp only [flag, fldOf, beq_iff_eq] at h
  rw [bitOf, Nat.testBit_eq_decide_div_mod_eq, decide_eq_true_eq, ← Nat.shiftRight_eq_div_pow]
  exact h

/-- R277: a slot that missed three samples falls back, and its signal takes the constant of its FALLBACK. -/
theorem xslotFallback_results (slot : Fin 32) (s : State) (hm : 3 ≤ (rxOf s slot.val).missing) (hf : (rxOf s slot.val).fell = false) :
    Runs (.xslotFallback slot) s (fun t => (rxOf t slot.val).fell = true ∧ bitOf (rd t Reg.FAB_XDEV_FALLBACK).toNat slot.val = true
      ∧ flag t Reg.FAB_EVENT F.FAB_EVENT_XDEV_FALLBACK = true ∧ (rxOf t slot.val).val = (rxOf s slot.val).val
      ∧ (slotFallF (framesOf s) true slot.val < 16 → ∀ i, i < 512 → sigPresentF (framesOf s) i = true → sigDriverF (framesOf s) i % 1024 = 0x120 + slot.val →
          sigOf t i = sext 24 (aF s (Reg.FAB_CONST (slotFallF (framesOf s) true slot.val)) F.FAB_CONST_VALUE))) := by
  show ∃ t, execXslotFallback slot s = .next t ∧ _
  unfold execXslotFallback
  extract_lets n f s1 s2 s3 s4
  rw [if_pos (by simp [n, hm, hf])]
  have h1 : rxOf s1 n = { rxOf s n with fell := true } := by
    show rxOf (setRx s n _) n = _
    rw [rxOf_setRx, if_pos rfl]
  have h13 : Evolves { regs := true } s1 s3 := .trans (t := s2) raise_evolves raise_evolves
  have h34 : Shows (·.fab.rx) s3 s4 := .ite (fun _ => .forEach fun _ _ => rfl) fun _ => .refl
  have h34r : Evolves { fab := true } s3 s4 := .ite (.forEach fun _ _ => setSig_evolves) .refl
  have hrec : Evolves { regs := true, drain := true, recd := true } s4 (record s4 .control 0x09 0x02 n 0 0 0) := record_evolves
  have hrx : rxOf (record s4 .control 0x09 0x02 n 0 0 0) n = { rxOf s n with fell := true } := by
    rw [rxOf_of_rx (.trans (shows_rx_of h13) (h34.trans (shows_rx_of hrec))), h1]
  have hregs (off : Nat) (ho : off ∉ stageRegs .control) : rd (record s4 .control 0x09 0x02 n 0 0 0) off = rd s3 off := by
    rw [rd_record _ _ _ _ _ _ _ _ ho]
    exact rd_of_regs (h34r.regs_eq rfl) off
  refine ⟨_, rfl, by rw [hrx], bitOf_of_flag ?_, ?_, by rw [hrx], fun hs i hi hp hd => ?_⟩
  · rw [flag_congr (hregs _ (by decide)), flag_congr (rd_raise_ne s2 _ (by decide))]
    exact flag_raise _ _ _ slot.isLt
  · rw [flag_congr (hregs _ (by decide))]
    exact flag_raise _ _ _ (by decide)
  · have h4 : s4 = forEach ((List.range 512).filter (fun i => sigPresentF f i && sigDriverF f i % 1024 == 0x120 + n)) s3 (fun s i =>
        setSig s i (sext 24 (aF s (Reg.FAB_CONST (slotFallF f true n)) F.FAB_CONST_VALUE))) := if_pos hs
    rw [(shows_sigOf_of hrec : Shows (sigOf · i) s4 _).eq, h4]
    exact forEach_writes (g := (sigOf · i)) (k := i) (v := fun s => sext 24 (aF s (Reg.FAB_CONST (slotFallF f true n)) F.FAB_CONST_VALUE))
      (by simp [f, n, hi, hp, hd]) (fun s => by rw [sigOf_setSig, if_pos rfl]) (fun s x _ hx => by rw [sigOf_setSig, if_neg hx]) fun _ _ => rfl

/-- A slot takes the value of the pair that it is bound to (R615), and no other slot moves. -/
theorem rxOf_xslotTake (k slot : Nat) (v : Int) (n : Nat) (hn : n < 32) : rxOf (xslotTake s k slot v) n =
    if xdevEnF (framesOf s) = true ∧ slotEnF (framesOf s) true n = true ∧ slotPeerF (framesOf s) true n = k ∧ slotPairF (framesOf s) true n = slot
    then { rxOf s n with next := some (satI 24 v) } else rxOf s n := by
  unfold xslotTake
  extract_lets f
  have hkeep (s : State) (x : Nat) (hx : x ≠ n) : rxOf (setRx s x fun x => { x with next := some (satI 24 v) }) n = rxOf s n := by
    rw [rxOf_setRx, if_neg hx]
  split
  next h =>
    obtain ⟨hx, he, hk, hp⟩ := h
    refine forEach_writes (g := (rxOf · n)) (v := fun s => { rxOf s n with next := some (satI 24 v) }) (by simp [f, hn, hx, he, hk, hp])
      (fun s => by rw [rxOf_setRx, if_pos rfl]) (fun s x _ hx => hkeep s x hx) fun s x => ?_
    by_cases hx : x = n
    · rw [hx, rxOf_setRx, if_pos rfl]
    · rw [hkeep s x hx]
  next h =>
    exact Shows.eq (g := (rxOf · n)) (.forEach_mem fun s x hx => hkeep s x fun he => h (by simpa [he, f, hn, and_assoc] using hx))

/-- R615: a block brings the values of the slots 2j and 2j + 1 to the receive slots bound to them, and to no other. -/
theorem xslot_results (lane : LaneIx) (j : Fin 16) (v0 v1 : Int) (s : State) (hl : 6 ≤ lane.val) (hu : laneUp s lane.val = true) :
    let takes (k slot : Nat) : Prop := xdevEnF (framesOf s) = true ∧ slotEnF (framesOf s) true k = true ∧ slotPeerF (framesOf s) true k = lane.val - 6 ∧ slotPairF (framesOf s) true k = slot
    Runs (.xslot lane j v0 v1) s (fun t => ∀ k, k < 32 → (takes k (2 * j.val) → (rxOf t k).next = some (satI 24 v0)) ∧ (takes k (2 * j.val + 1) → (rxOf t k).next = some (satI 24 v1))
      ∧ (¬ takes k (2 * j.val) → ¬ takes k (2 * j.val + 1) → rxOf t k = rxOf s k)) := by
  intro takes
  refine ⟨_, if_pos ⟨hl, hu⟩, fun k hk => ?_⟩
  have himg : framesOf (xslotTake s (lane.val - 6) (2 * j.val) v0) = framesOf s := framesOf_of_img (xslotTake_evolves.img_eq rfl)
  rw [rxOf_xslotTake _ _ _ _ hk, rxOf_xslotTake _ _ _ _ hk, himg]
  have hne : takes k (2 * j.val) → ¬ takes k (2 * j.val + 1) := fun h h' => by
    have := h.2.2.2.symm.trans h'.2.2.2
    omega
  refine ⟨fun h => ?_, fun h => ?_, fun h h' => ?_⟩
  · rw [if_neg (hne h), if_pos h]
  · rw [if_pos h]
  · rw [if_neg h', if_neg h]

end

/-- Settles O26. -/
theorem fabricSampleResults : Obligations.FabricSampleResults := by
  unfold Obligations.FabricSampleResults
  refine ⟨⟨fun p v s hp => fastSample_results p v s hp, fun p v s => ms1Sample_results p v s, fun p s => khz10Sample_results p s⟩,
    fun slot s hm hf => xslotFallback_results slot s hm hf, fun s hf => ?_, fun fs ms s hf => ?_, fun lane j v0 v1 s hl hu => xslot_results lane j v0 v1 s hl hu⟩
  · exact ⟨_, if_pos hf, rfl, flag_raise _ _ _ (by decide), rfl⟩
  · exact ⟨_, if_pos hf, rfl, rfl, rfl, rfl⟩

end Sys2Proof.Machine
end

section
/-! PROOF. Which registers a function of the model may write. A family of registers is its first offset with its step, 0 for a single register,
and its size, 0 where the index is not known to be bounded; one lemma per function then lists the families that it writes. -/

namespace Sys2Proof.Machine
open Host
set_option Elab.async false

/-- An offset is not among the registers of a family. -/
def misses (x : Nat × Nat × Nat) (off : Nat) : Bool :=
  decide (off < x.1) || off % x.2.1 != x.1 % x.2.1 || (x.2.2 != 0 && decide (x.1 + x.2.1 * (x.2.2 - 1) < off))

/-- `t` has every register of `s` outside the families. -/
def RdBut (F : List (Nat × Nat × Nat)) (s t : State) : Prop := ∀ off, F.all (misses · off) = true → rd t off = rd s off

theorem misses_ne {b p k g off : Nat} (h : misses (b, g, 0) off = true) (hp : p % g = 0) : b + p * k ≠ off := by
  rintro rfl
  simp only [misses, Bool.or_eq_true, Bool.and_eq_true, decide_eq_true_eq, bne_iff_ne, ne_eq, not_true, false_and, or_false] at h
  rcases h with h | h
  · omega
  · apply h
    rw [Nat.add_mod, Nat.mul_mod, hp]
    simp

theorem misses_ne0 {b off : Nat} (h : misses (b, 0, 0) off = true) : b ≠ off := by
  have := misses_ne (k := 0) (p := 0) h rfl
  simpa using this

theorem misses_ne_of_lt {b p k n off : Nat} (h : misses (b, p, n) off = true) (hk : k < n) : b + p * k ≠ off := by
  rintro rfl
  simp only [misses, Bool.or_eq_true, Bool.and_eq_true, decide_eq_true_eq, bne_iff_ne, ne_eq] at h
  rcases h with (h | h) | ⟨-, h⟩
  · omega
  · simp at h
  · have := Nat.mul_le_mul_left p (Nat.le_sub_one_of_lt hk)
    omega

section
variable {F G : List (Nat × Nat × Nat)} {s t u : State} {α β : Type}

theorem RdBut.rd_eq (h : RdBut F s t) {off : Nat} (ho : F.all (misses · off) = true := by decide +kernel) : rd t off = rd s off := h off ho

theorem RdBut.fld_eq (h : RdBut F s t) {off : Nat} (f : Fld) (ho : F.all (misses · off) = true := by decide +kernel) : fld t off f = fld s off f :=
  fld_congr (h off ho) f

theorem RdBut.flag_eq (h : RdBut F s t) {off : Nat} (f : Fld) (ho : F.all (misses · off) = true := by decide +kernel) : flag t off f = flag s off f :=
  flag_congr (h off ho) f

theorem RdBut.refl : RdBut F s s := fun _ _ => rfl

theorem RdBut.trans (h : RdBut F s t) (k : RdBut F t u) : RdBut F s u := fun off ho => (k off ho).trans (h off ho)

theorem RdBut.mono (h : RdBut G s t) (hG : G.all (F.contains ·) = true := by decide +kernel) : RdBut F s t := fun off ho => h off (by
  simp only [List.all_eq_true, List.contains_iff_mem] at hG ho ⊢
  exact fun x hx => ho x (hG x hx))

theorem RdBut.of_regs (h : t.regs = s.regs) : RdBut F s t := fun off _ => rd_of_regs h off

theorem RdBut.of_evolves {W : Blocks} (h : Evolves W s t) (hW : W.regs = false := by rfl) : RdBut F s t := .of_regs (h.regs_eq hW)

theorem RdBut.ite {c : Prop} [Decidable c] (h : RdBut F s t) (k : RdBut F s u) : RdBut F s (if c then t else u) := by
  split
  · exact h
  · exact k

theorem RdBut.iteSnd {c : Prop} [Decidable c] {x y : α × State} (h : RdBut F s x.2) (k : RdBut F s y.2) : RdBut F s (if c then x else y).2 := by
  split
  · exact h
  · exact k

theorem RdBut.iteFst {c : Prop} [Decidable c] {x y : State × α} (h : RdBut F s x.1) (k : RdBut F s y.1) : RdBut F s (if c then x else y).1 := by
  split
  · exact h
  · exact k

theorem RdBut.bind {p : α × State} {f : α → State → State} (h : RdBut F s p.2) (k : ∀ a t, RdBut F t (f a t)) : RdBut F s (f p.1 p.2) := h.trans (k _ _)

theorem RdBut.bindFst {p : State × α} {f : State → α → State} (h : RdBut F s p.1) (k : ∀ a t, RdBut F t (f t a)) : RdBut F s (f p.1 p.2) := h.trans (k _ _)

theorem RdBut.bindSnd {p : α × State} {f : α → State → β × State} (h : RdBut F s p.2) (k : ∀ a t, RdBut F t (f a t).2) : RdBut F s (f p.1 p.2).2 :=
  h.trans (k _ _)

theorem RdBut.forEach {l : List α} {f : State → α → State} (h : ∀ t x, RdBut F t (f t x)) : RdBut F s (forEach l s f) := by
  unfold Machine.forEach
  induction l generalizing s with
  | nil => exact .refl
  | cons x l ih => exact (h s x).trans ih

theorem RdBut.forEach_mem {l : List α} {f : State → α → State} (h : ∀ t, ∀ x ∈ l, RdBut F t (f t x)) : RdBut F s (Machine.forEach l s f) := by
  unfold Machine.forEach
  induction l generalizing s with
  | nil => exact .refl
  | cons x l ih => exact (h s x (by simp)).trans (ih fun t y hy => h t y (by simp [hy]))

/-! ## The writes themselves -/

theorem wr_rdButN {b p k n : Nat} {w : Word} (hk : k < n) : RdBut [(b, p, n)] s (wr s (b + p * k) w) := fun _ ho =>
  rd_wr_ne s w (misses_ne_of_lt (List.all_eq_true.1 ho _ (by simp)) hk)

theorem wr_rdBut0 {off : Nat} {w : Word} : RdBut [(off, 0, 0)] s (wr s off w) := fun _ ho =>
  rd_wr_ne s w (misses_ne0 (List.all_eq_true.1 ho _ (by simp)))

theorem wr_rdBut1 {b p k : Nat} {w : Word} : RdBut [(b, p, 0)] s (wr s (b + p * k) w) := fun _ ho =>
  rd_wr_ne s w (misses_ne (List.all_eq_true.1 ho _ (by simp)) (Nat.mod_self p))

theorem wr64_rdBut1 {b p k v : Nat} : RdBut [(b, p, 0), (b + 4, p, 0)] s (wr64 s (b + p * k) v) := fun _ ho => by
  have h0 := misses_ne (k := k) (List.all_eq_true.1 ho (b, p, 0) (by simp)) (Nat.mod_self p)
  have h4 := misses_ne (k := k) (List.all_eq_true.1 ho (b + 4, p, 0) (by simp)) (Nat.mod_self p)
  exact (rd_wrN_ne _ _ (by omega)).trans (rd_wrN_ne _ _ h0)

theorem wrN_rdBut0 {off : Nat} {n : Nat} : RdBut [(off, 0, 0)] s (wrN s off n) := wr_rdBut0

theorem wrN_rdBut1 {b p k : Nat} {n : Nat} : RdBut [(b, p, 0)] s (wrN s (b + p * k) n) := wr_rdBut1

theorem setF_rdBut0 {off : Nat} {f : Fld} {v : Nat} : RdBut [(off, 0, 0)] s (setF s off f v) := wr_rdBut0

theorem setF_rdBut1 {b p k : Nat} {f : Fld} {v : Nat} : RdBut [(b, p, 0)] s (setF s (b + p * k) f v) := wr_rdBut1

theorem raise_rdBut0 {off : Nat} {f : Fld} : RdBut [(off, 0, 0)] s (raise s off f) := wr_rdBut0

theorem raise_rdBut1 {b p k : Nat} {f : Fld} : RdBut [(b, p, 0)] s (raise s (b + p * k) f) := wr_rdBut1

theorem lower_rdBut0 {off : Nat} {f : Fld} : RdBut [(off, 0, 0)] s (lower s off f) := wr_rdBut0

theorem bumpBy_rdBut0 {off : Nat} {f : Fld} {n : Nat} : RdBut [(off, 0, 0)] s (bumpBy s off f n) := wr_rdBut0

theorem bumpBy_rdBut1 {b p k : Nat} {f : Fld} {n : Nat} : RdBut [(b, p, 0)] s (bumpBy s (b + p * k) f n) := wr_rdBut1

theorem bump_rdBut0 {off : Nat} {f : Fld} : RdBut [(off, 0, 0)] s (bump s off f) := wr_rdBut0

theorem bump_rdBut1 {b p k : Nat} {f : Fld} : RdBut [(b, p, 0)] s (bump s (b + p * k) f) := wr_rdBut1

theorem bump48_rdBut1 {b p k n : Nat} : RdBut [(b, p, 0), (b + 4, p, 0)] s (bump48 s (b + p * k) n) := wr64_rdBut1

/-! ## Projections of the state -/

theorem Shows.both {g : State → β} {c : Prop} [Decidable c] (h : Shows g s t) (k : Shows g s u) : Shows g s (if c then t else u) := .ite (fun _ => h) fun _ => k

theorem Shows.iteSnd {g : State → β} {c : Prop} [Decidable c] {x y : α × State} (h : Shows g s x.2) (k : Shows g s y.2) : Shows g s (if c then x else y).2 := by
  split
  · exact h
  · exact k

theorem Shows.iteFst {g : State → β} {c : Prop} [Decidable c] {x y : State × α} (h : Shows g s x.1) (k : Shows g s y.1) : Shows g s (if c then x else y).1 := by
  split
  · exact h
  · exact k

theorem Shows.bind {g : State → β} {p : α × State} {f : α → State → State} (h : Shows g s p.2) (k : ∀ a t, Shows g t (f a t)) : Shows g s (f p.1 p.2) :=
  h.trans (k _ _)

theorem Shows.bindFst {g : State → β} {p : State × α} {f : State → α → State} (h : Shows g s p.1) (k : ∀ a t, Shows g t (f t a)) : Shows g s (f p.1 p.2) :=
  h.trans (k _ _)

theorem Shows.of_eq {g : State → β} (h : g t = g s) : Shows g s t := h

/-! ## Active copies and the tables of the blocks -/

theorem ac_of_active (h : t.active = s.active) (off : Nat) : ac t off = ac s off := by
  unfold ac
  rw [h]

theorem aF_of_active (h : t.active = s.active) (off : Nat) (f : Fld) : aF t off f = aF s off f := by
  unfold aF
  rw [ac_of_active h]

theorem aOn_of_active (h : t.active = s.active) (off : Nat) (f : Fld) : aOn t off f = aOn s off f := by
  unfold aOn
  rw [ac_of_active h]

/-! ## Records and the drain counters -/

theorem RdBut.of_subset (h : RdBut G s t) (hG : ∀ x ∈ G, x ∈ F) : RdBut F s t := fun off ho => h off (by
  simp only [List.all_eq_true] at ho ⊢
  exact fun x hx => ho x (hG x hx))

theorem sinkTake_rdBut {r : Nat} : RdBut [(Reg.TOP_DRAIN_CNT r, 0, 0), (Reg.TOP_DRAIN_STATUS, 0, 0)] s (sinkTake s r) := by
  unfold sinkTake
  exact .trans (.of_subset (wr_rdBut0 (off := Reg.TOP_DRAIN_CNT r)) (by simp))
    (.trans (.of_subset (wr_rdBut0 (off := Reg.TOP_DRAIN_STATUS)) (by simp)) (.of_regs rfl))

theorem sinkTake_rdBut1 {r : Nat} : RdBut [(Reg.TOP_DRAIN_CNT 0, 4, 0), (Reg.TOP_DRAIN_STATUS, 0, 0)] s (sinkTake s r) := by
  unfold sinkTake
  exact .trans wr_rdBut1.mono (.trans wr_rdBut0.mono (.of_regs rfl))

theorem mem_of_misses_stage {p : Plane} {off : Nat} (ho : [(Reg.REC_EVENT, 0, 0), (Reg.REC_ARB_DROP 0, 0, 0), (Reg.REC_ARB_DROP 1, 0, 0), (Reg.REC_ARB_DROP 2, 0, 0),
    (Reg.TOP_DRAIN_CNT 8, 0, 0), (Reg.TOP_DRAIN_STATUS, 0, 0)].all (misses · off) = true) : off ∉ stageRegs p := by
  intro hm
  simp only [List.all_eq_true] at ho
  have hne (b : Nat) (hb : (b, 0, 0) ∈ [(Reg.REC_EVENT, 0, 0), (Reg.REC_ARB_DROP 0, 0, 0), (Reg.REC_ARB_DROP 1, 0, 0), (Reg.REC_ARB_DROP 2, 0, 0),
    (Reg.TOP_DRAIN_CNT 8, 0, 0), (Reg.TOP_DRAIN_STATUS, 0, 0)]) : b ≠ off := misses_ne0 (ho _ hb)
  simp only [stageRegs, List.mem_cons, List.not_mem_nil, or_false] at hm
  rcases hm with rfl | rfl | rfl | rfl
  · exact hne _ (by simp) rfl
  · cases p <;> exact hne _ (by simp [planeNo]) rfl
  · exact hne _ (by simp) rfl
  · exact hne _ (by simp) rfl

theorem stage_rdBut {p : Plane} {e : Entry} : RdBut [(Reg.REC_EVENT, 0, 0), (Reg.REC_ARB_DROP 0, 0, 0), (Reg.REC_ARB_DROP 1, 0, 0), (Reg.REC_ARB_DROP 2, 0, 0),
    (Reg.TOP_DRAIN_CNT 8, 0, 0), (Reg.TOP_DRAIN_STATUS, 0, 0)] s (stage s p e) := fun _ ho => rd_stage s p e (mem_of_misses_stage ho)

theorem record_rdBut {p : Plane} {cls typ unit arg value value2 flags : Nat} : RdBut [(Reg.REC_EVENT, 0, 0), (Reg.REC_ARB_DROP 0, 0, 0), (Reg.REC_ARB_DROP 1, 0, 0),
    (Reg.REC_ARB_DROP 2, 0, 0), (Reg.TOP_DRAIN_CNT 8, 0, 0), (Reg.TOP_DRAIN_STATUS, 0, 0)] s (record s p cls typ unit arg value value2 flags) := fun _ ho =>
  rd_record s cls typ unit arg value value2 flags (mem_of_misses_stage ho)

/-! ## Captures -/

theorem captureUnit_rdBut {n t : Nat} {inStep : Bool} (hn : n < 16) : RdBut [(Reg.TB_CAP_FLAGS, 0, 0), (Reg.TB_CAP_LO 0, 8, 16), (Reg.TB_CAP_HI 0, 8, 16),
    (Reg.TB_CAP_VALID, 0, 0)] s (captureUnit s n t inStep) := by
  unfold captureUnit
  have hlo : RdBut [(Reg.TB_CAP_LO 0, 8, 16)] s (wrN s (Reg.TB_CAP_LO n) (t % 2 ^ 32)) := wr_rdButN hn
  have hhi : RdBut [(Reg.TB_CAP_HI 0, 8, 16)] (wrN s (Reg.TB_CAP_LO n) (t % 2 ^ 32))
    (wrN (wrN s (Reg.TB_CAP_LO n) (t % 2 ^ 32)) (Reg.TB_CAP_HI n) (t / 2 ^ 32 % 2 ^ 32)) := wr_rdButN hn
  exact .ite (setF_rdBut0 (off := Reg.TB_CAP_FLAGS)).mono (.trans (.trans hlo.mono hhi.mono) (.trans (setF_rdBut0 (off := Reg.TB_CAP_VALID)).mono
    (.ite (setF_rdBut0 (off := Reg.TB_CAP_FLAGS)).mono .refl)))

theorem capture_rdBut {src t : Nat} {falling inStep : Bool} : RdBut [(Reg.TB_CAP_FLAGS, 0, 0), (Reg.TB_CAP_LO 0, 8, 16), (Reg.TB_CAP_HI 0, 8, 16),
    (Reg.TB_CAP_VALID, 0, 0)] s (capture s src falling t inStep) := by
  unfold capture
  exact .ite .refl (.forEach_mem fun _ _ hn => .ite (captureUnit_rdBut (List.mem_range.1 hn)) .refl)

end

end Sys2Proof.Machine
end

section
/-! PROOF. The supply ladder and BROWNOUT (O33). -/

namespace Sys2Proof.Machine
open Host
set_option Elab.async false

/-! ## The registers that the ladder's functions write -/

theorem ballastRelease_rdBut {s} : RdBut [(Reg.BAL_EVENT, 0, 0)] s (ballastRelease s) := by
  unfold ballastRelease
  exact .trans (.forEach fun _ _ => (.of_evolves balSend_evolves))
    (.trans (.of_evolves (W := { fq := true }) .set_fq) ((raise_rdBut0 (off := Reg.BAL_EVENT)).mono))

theorem pendRefresh_rdBut {s} : RdBut [(Reg.TOP_COMMIT_STATUS, 0, 0)] s (pendRefresh s) := by
  unfold pendRefresh
  exact (setF_rdBut0 (off := Reg.TOP_COMMIT_STATUS)).mono

theorem loadEnd_rdBut {s result item byte} : RdBut [(Reg.SEC_IMG_STATUS, 0, 0), (Reg.SEC_IMG_FAIL_INFO, 0, 0), (Reg.REC_EVENT, 0, 0),
    (Reg.REC_ARB_DROP 0, 0, 0), (Reg.REC_ARB_DROP 1, 0, 0), (Reg.REC_ARB_DROP 2, 0, 0), (Reg.TOP_DRAIN_CNT 8, 0, 0), (Reg.TOP_DRAIN_STATUS, 0, 0),
    (Reg.TOP_COMMIT_STATUS, 0, 0)] s (loadEnd s result item byte) := by
  unfold loadEnd
  exact .trans ((setF_rdBut0 (off := Reg.SEC_IMG_STATUS)).mono)
    (.trans ((wrN_rdBut0 (off := Reg.SEC_IMG_FAIL_INFO)).mono)
       (.trans record_rdBut.mono
          (.trans (.trans (.of_evolves (W := { img := true }) .set_img) ((.of_evolves shadowRefill_evolves))) (.ite pendRefresh_rdBut.mono .refl))))

theorem loadAbort_rdBut {s result} : RdBut [(Reg.SEC_IMG_STATUS, 0, 0), (Reg.SEC_IMG_FAIL_INFO, 0, 0), (Reg.REC_EVENT, 0, 0), (Reg.REC_ARB_DROP 0,
    0, 0), (Reg.REC_ARB_DROP 1, 0, 0), (Reg.REC_ARB_DROP 2, 0, 0), (Reg.TOP_DRAIN_CNT 8, 0, 0), (Reg.TOP_DRAIN_STATUS, 0, 0),
    (Reg.TOP_COMMIT_STATUS, 0, 0)] s (loadAbort s result) := by
  unfold loadAbort
  exact .ite loadEnd_rdBut.mono .refl

theorem fuseEnd_rdBut {s o result} : RdBut [(Reg.SEC_FUSE_STATUS, 0, 0), (Reg.REC_EVENT, 0, 0), (Reg.REC_ARB_DROP 0, 0, 0), (Reg.REC_ARB_DROP 1, 0,
    0), (Reg.REC_ARB_DROP 2, 0, 0), (Reg.TOP_DRAIN_CNT 8, 0, 0), (Reg.TOP_DRAIN_STATUS, 0, 0), (Reg.SEC_EVENT, 0, 0)] s (fuseEnd s o result) := by
  unfold fuseEnd
  exact .trans ((setF_rdBut0 (off := Reg.SEC_FUSE_STATUS)).mono) (.trans record_rdBut.mono ((raise_rdBut0 (off := Reg.SEC_EVENT)).mono))

theorem fuseStop_rdBut {s o result} : RdBut [(Reg.SEC_FUSE_STATUS, 0, 0), (Reg.REC_EVENT, 0, 0), (Reg.REC_ARB_DROP 0, 0, 0), (Reg.REC_ARB_DROP 1,
    0, 0), (Reg.REC_ARB_DROP 2, 0, 0), (Reg.TOP_DRAIN_CNT 8, 0, 0), (Reg.TOP_DRAIN_STATUS, 0, 0), (Reg.SEC_EVENT, 0, 0)] s (fuseStop s o result) :=
    by
  unfold fuseStop
  exact .trans (.of_evolves (W := { sec := true }) .set_sec) fuseEnd_rdBut.mono

theorem fuseAbort_rdBut {s} : RdBut [(Reg.SEC_FUSE_STATUS, 0, 0), (Reg.REC_EVENT, 0, 0), (Reg.REC_ARB_DROP 0, 0, 0), (Reg.REC_ARB_DROP 1, 0, 0),
    (Reg.REC_ARB_DROP 2, 0, 0), (Reg.TOP_DRAIN_CNT 8, 0, 0), (Reg.TOP_DRAIN_STATUS, 0, 0), (Reg.SEC_EVENT, 0, 0)] s (fuseAbort s) := by
  unfold fuseAbort
  split
  · exact .trans ((.of_evolves fusePart_evolves)) fuseStop_rdBut.mono
  · exact .refl

theorem ringDiscard_rdBut {s} : RdBut [(Reg.REC_LOST, 0, 0), (Reg.REC_EVENT, 0, 0), (Reg.TOP_DRAIN_CNT 8, 0, 0), (Reg.TOP_DRAIN_STATUS, 0, 0)] s
    (ringDiscard s) := by
  unfold ringDiscard
  exact .trans ((bump_rdBut0 (off := Reg.REC_LOST)).mono)
    (.trans ((raise_rdBut0 (off := Reg.REC_EVENT)).mono) (.trans (.of_evolves (W := { recd := true }) .set_recd) sinkTake_rdBut.mono))

theorem grantEntry_rdBut {s e} : RdBut [(Reg.REC_LOST, 0, 0), (Reg.REC_EVENT, 0, 0), (Reg.TOP_DRAIN_CNT 8, 0, 0), (Reg.TOP_DRAIN_STATUS, 0, 0)] s
    (grantEntry s e) := by
  unfold grantEntry
  exact .trans ((.of_evolves ringResume_evolves)) (.ite ((.of_evolves ringWrite_evolves)) ringDiscard_rdBut.mono)

theorem placeLoss_rdBut {s p} : RdBut [(Reg.REC_EVENT, 0, 0)] s (placeLoss s p) := by
  unfold placeLoss
  exact .ite (.trans ((.of_evolves setStageQ_evolves)) (.trans ((.of_evolves setStageDrop_evolves)) ((raise_rdBut0 (off := Reg.REC_EVENT)).mono))) .refl

theorem grantCycle_rdBut {s} : RdBut [(Reg.REC_LOST, 0, 0), (Reg.REC_EVENT, 0, 0), (Reg.TOP_DRAIN_CNT 8, 0, 0), (Reg.TOP_DRAIN_STATUS, 0, 0)] s
    (grantCycle s) := by
  unfold grantCycle
  exact .ite
    (.trans ((.of_evolves takeMark_evolves))
       (by
          extract_lets
          split
          exacts [.trans (.of_evolves (W := { recd := true }) .set_recd) grantEntry_rdBut.mono,
            by
              split
              exacts [(.of_evolves ringResume_evolves),
                by
                  split
                  exacts [.refl,
                    .trans ((.of_evolves setStageQ_evolves))
                      (.trans (.trans (.of_evolves (W := { recd := true }) .set_recd) grantEntry_rdBut.mono) placeLoss_rdBut.mono)]]])) .refl

theorem grantControl_rdBut {s} : RdBut [(Reg.REC_LOST, 0, 0), (Reg.REC_EVENT, 0, 0), (Reg.TOP_DRAIN_CNT 8, 0, 0), (Reg.TOP_DRAIN_STATUS, 0, 0)] s
    (grantControl s) := by
  unfold grantControl
  exact .forEach fun _ _ => .ite .refl grantCycle_rdBut.mono

theorem nvCmdEnd_rdBut {s result} : RdBut [(Reg.NVS_CMD_STATUS, 0, 0), (Reg.NVS_EVENT, 0, 0), (Reg.NVS_STATUS, 0, 0)] s (nvCmdEnd s result) := by
  unfold nvCmdEnd
  exact .trans ((setF_rdBut0 (off := Reg.NVS_CMD_STATUS)).mono)
    (.trans ((raise_rdBut0 (off := Reg.NVS_EVENT)).mono)
       (.trans (.of_evolves (W := { nvs := true }) .set_nvs) ((lower_rdBut0 (off := Reg.NVS_STATUS)).mono)))

theorem nvCmdFail_rdBut {s result sector} : RdBut [(Reg.NVS_CMD_STATUS, 0, 0), (Reg.NVS_EVENT, 0, 0), (Reg.NVS_STATUS, 0, 0), (Reg.REC_EVENT, 0,
    0), (Reg.REC_ARB_DROP 0, 0, 0), (Reg.REC_ARB_DROP 1, 0, 0), (Reg.REC_ARB_DROP 2, 0, 0), (Reg.TOP_DRAIN_CNT 8, 0, 0), (Reg.TOP_DRAIN_STATUS, 0,
    0)] s (nvCmdFail s result sector) := by
  unfold nvCmdFail
  exact .trans nvCmdEnd_rdBut.mono record_rdBut.mono

theorem nvAbort_rdBut {s} : RdBut [(Reg.NVS_CMD_STATUS, 0, 0), (Reg.NVS_EVENT, 0, 0), (Reg.NVS_STATUS, 0, 0), (Reg.REC_EVENT, 0, 0),
    (Reg.REC_ARB_DROP 0, 0, 0), (Reg.REC_ARB_DROP 1, 0, 0), (Reg.REC_ARB_DROP 2, 0, 0), (Reg.TOP_DRAIN_CNT 8, 0, 0), (Reg.TOP_DRAIN_STATUS, 0, 0)]
    s (nvAbort s) := by
  unfold nvAbort
  extract_lets n0 s1
  refine .trans (t := s1) ?_ ?_
  · unfold s1
    split
    · exact .of_evolves (W := { nvs := true }) .set_nvs
    · exact .refl
  · clear_value s1
    split
    · exact nvCmdFail_rdBut.mono
    · exact .refl

theorem wearCheck_rdBut {s n} : RdBut [(Reg.NVS_WEAR, 0, 0), (Reg.NVS_EVENT, 0, 0), (Reg.REC_EVENT, 0, 0), (Reg.REC_ARB_DROP 0, 0, 0),
    (Reg.REC_ARB_DROP 1, 0, 0), (Reg.REC_ARB_DROP 2, 0, 0), (Reg.TOP_DRAIN_CNT 8, 0, 0), (Reg.TOP_DRAIN_STATUS, 0, 0)] s (wearCheck s n) := by
  unfold wearCheck
  exact .trans (.ite ((wrN_rdBut0 (off := Reg.NVS_WEAR)).mono) .refl)
    (.ite (.trans ((.of_evolves setSector_evolves)) (.trans ((raise_rdBut0 (off := Reg.NVS_EVENT)).mono) record_rdBut.mono)) .refl)

theorem eraseSaid_rdBut {s n gen} : RdBut [(Reg.REC_EVENT, 0, 0), (Reg.REC_ARB_DROP 0, 0, 0), (Reg.REC_ARB_DROP 1, 0, 0), (Reg.REC_ARB_DROP 2, 0,
    0), (Reg.TOP_DRAIN_CNT 8, 0, 0), (Reg.TOP_DRAIN_STATUS, 0, 0), (Reg.NVS_WEAR, 0, 0), (Reg.NVS_EVENT, 0, 0)] s (eraseSaid s n gen) := by
  unfold eraseSaid
  exact .trans record_rdBut.mono wearCheck_rdBut.mono

theorem spareTake_rdBut {s n k} : RdBut [(Reg.NVS_EVENT, 0, 0), (Reg.REC_EVENT, 0, 0), (Reg.REC_ARB_DROP 0, 0, 0), (Reg.REC_ARB_DROP 1, 0, 0),
    (Reg.REC_ARB_DROP 2, 0, 0), (Reg.TOP_DRAIN_CNT 8, 0, 0), (Reg.TOP_DRAIN_STATUS, 0, 0)] s (spareTake s n k) := by
  unfold spareTake
  exact .trans (.of_evolves (W := { nvs := true }) .set_nvs) (.trans ((raise_rdBut0 (off := Reg.NVS_EVENT)).mono) record_rdBut.mono)

theorem setUnavail_rdBut {s first} : RdBut [(Reg.NVS_STATUS, 0, 0)] s (setUnavail s first) := by
  unfold setUnavail
  split
  · exact (setF_rdBut0 (off := Reg.NVS_STATUS)).mono
  · exact .refl

theorem jSwitch_rdBut {s} : RdBut [(Reg.REC_EVENT, 0, 0), (Reg.REC_ARB_DROP 0, 0, 0), (Reg.REC_ARB_DROP 1, 0, 0), (Reg.REC_ARB_DROP 2, 0, 0),
    (Reg.TOP_DRAIN_CNT 8, 0, 0), (Reg.TOP_DRAIN_STATUS, 0, 0), (Reg.NVS_WEAR, 0, 0), (Reg.NVS_EVENT, 0, 0), (Reg.NVS_STATUS, 0, 0)] s (jSwitch s)
    := by
  unfold jSwitch
  extract_lets cur oth g e s1 s2 n2 s3 s4 s5 worn op s6 s7 s8 s9
  refine .trans (t := s3) ?_ ?_
  · exact .trans (t := s1) (.trans (t := nextJ s) (.of_evolves nextJ_evolves) (.of_evolves jRaw_evolves)) (.trans (t := s2) (.of_evolves setSector_evolves) (.of_evolves (W := { nvs := true }) .set_nvs))
  clear_value s3 g e
  refine .trans (t := s5) ?_ ?_
  · exact .trans (t := s4) (.trans (t := nextJ s3) (.of_evolves nextJ_evolves) (.of_evolves jRaw_evolves)) eraseSaid_rdBut.mono
  clear_value s5 op
  refine .trans (t := s6) ?_ ?_
  · unfold s6
    clear_value worn
    split
    · exact .trans spareTake_rdBut.mono (.of_evolves setSector_evolves)
    · exact .ite setUnavail_rdBut.mono .refl
  clear_value s6
  refine .trans (t := s8) ?_ (.trans (t := s9) ?_ (.of_evolves (W := { nvs := true }) .set_nvs))
  · exact .trans (t := s7) (.trans (t := nextJ s6) (.of_evolves nextJ_evolves) (.of_evolves jRaw_evolves))
      (.forEach fun t _ => .trans (t := nextJ t) (.of_evolves nextJ_evolves) (.of_evolves jRaw_evolves))
  · unfold s9
    clear_value s8 worn
    split
    · exact .trans (t := nextJ s8) (.of_evolves nextJ_evolves) (.of_evolves jRaw_evolves)
    · exact .refl

theorem jPut_rdBut {s typ sector gen arg first entries crc} : RdBut [(Reg.REC_EVENT, 0, 0), (Reg.REC_ARB_DROP 0, 0, 0), (Reg.REC_ARB_DROP 1, 0, 0),
    (Reg.REC_ARB_DROP 2, 0, 0), (Reg.TOP_DRAIN_CNT 8, 0, 0), (Reg.TOP_DRAIN_STATUS, 0, 0), (Reg.NVS_WEAR, 0, 0), (Reg.NVS_EVENT, 0, 0),
    (Reg.NVS_STATUS, 0, 0)] s (jPut s typ sector gen arg first entries crc) := by
  unfold jPut
  exact .trans (.ite jSwitch_rdBut.mono .refl) (.trans ((.of_evolves nextJ_evolves)) ((.of_evolves jRaw_evolves)))

theorem deadLetter_rdBut {s reason cls lane typ src dest} : RdBut [(Reg.TVL_GEVENT, 0, 0), (Reg.TOP_DRAIN_CNT 0, 0x4, 0), (Reg.TOP_DRAIN_STATUS, 0,
    0), (Reg.TOP_DRAIN_CNT 1, 0, 0), (Reg.REC_EVENT, 0, 0), (Reg.REC_ARB_DROP 0, 0, 0), (Reg.REC_ARB_DROP 1, 0, 0), (Reg.REC_ARB_DROP 2, 0, 0),
    (Reg.TOP_DRAIN_CNT 8, 0, 0)] s (deadLetter s reason cls lane typ src dest) := by
  unfold deadLetter
  exact .trans ((raise_rdBut0 (off := Reg.TVL_GEVENT)).mono)
    (.trans (.ite sinkTake_rdBut1.mono (.ite sinkTake_rdBut.mono .refl))
       (.ite ((.of_evolves setDlq_evolves)) (.trans ((.of_evolves setDlq_evolves)) (.ite record_rdBut.mono .refl))))

/-- A dead letter of class 0 counts at sink 1 alone. -/
theorem deadLetterControl_rdBut {s reason lane typ src dest} : RdBut [(Reg.TVL_GEVENT, 0, 0), (Reg.TOP_DRAIN_STATUS, 0, 0), (Reg.TOP_DRAIN_CNT 1, 0, 0),
    (Reg.REC_EVENT, 0, 0), (Reg.REC_ARB_DROP 0, 0, 0), (Reg.REC_ARB_DROP 1, 0, 0), (Reg.REC_ARB_DROP 2, 0, 0), (Reg.TOP_DRAIN_CNT 8, 0, 0)] s
    (deadLetter s reason 0 lane typ src dest) := by
  unfold deadLetter
  extract_lets q e d s1 s2 s3 w0 w1
  have h1 : RdBut [(Reg.TVL_GEVENT, 0, 0)] s s1 := raise_rdBut0
  have h2 : RdBut [(Reg.TOP_DRAIN_CNT 1, 0, 0), (Reg.TOP_DRAIN_STATUS, 0, 0)] s1 s2 := by
    show RdBut _ s1 (if 0 ≠ 0 then _ else _)
    rw [if_neg (by simp)]
    exact .ite sinkTake_rdBut .refl
  exact .trans h1.mono (.trans h2.mono (.ite (.of_evolves setDlq_evolves) (.trans (t := s3) (.of_evolves setDlq_evolves) (.ite record_rdBut.mono .refl))))

theorem originate_rdBut {s c} : RdBut [(Reg.TVL_GEVENT, 0, 0), (Reg.TOP_DRAIN_STATUS, 0, 0), (Reg.TOP_DRAIN_CNT 1, 0, 0),
    (Reg.REC_EVENT, 0, 0), (Reg.REC_ARB_DROP 0, 0, 0), (Reg.REC_ARB_DROP 1, 0, 0), (Reg.REC_ARB_DROP 2, 0, 0), (Reg.TOP_DRAIN_CNT 8, 0, 0)]
    s (originate s c) := by
  unfold originate
  exact .ite (.trans deadLetterControl_rdBut.mono ((raise_rdBut0 (off := Reg.TVL_GEVENT)).mono)) (.of_evolves (W := { tvl := true }) .set_tvl)

theorem originTrip_rdBut {s cause} : RdBut [(Reg.TVL_GEVENT, 0, 0), (Reg.TOP_DRAIN_STATUS, 0, 0), (Reg.TOP_DRAIN_CNT 1, 0, 0),
    (Reg.REC_EVENT, 0, 0), (Reg.REC_ARB_DROP 0, 0, 0), (Reg.REC_ARB_DROP 1, 0, 0), (Reg.REC_ARB_DROP 2, 0, 0), (Reg.TOP_DRAIN_CNT 8, 0, 0)]
    s (originTrip s cause) := by
  unfold originTrip
  exact .ite originate_rdBut.mono .refl

theorem enterState_rdBut {s d} : RdBut [(Reg.REC_EVENT, 0, 0), (Reg.REC_ARB_DROP 0, 0, 0), (Reg.REC_ARB_DROP 1, 0, 0), (Reg.REC_ARB_DROP 2, 0, 0),
    (Reg.TOP_DRAIN_CNT 8, 0, 0), (Reg.TOP_DRAIN_STATUS, 0, 0)] s (enterState s d) := by
  unfold enterState
  exact .ite .refl
    (.trans (.of_evolves (W := { top := true }) .set_top)
       (.trans (.ite ((.of_evolves lifeUp_evolves)) (.ite ((.of_evolves lifeUp_evolves)) .refl)) record_rdBut.mono))

theorem dripTime_rdBut {s r} : RdBut [(Reg.CH_DRIP_TIME_LO 0, 0x1000, 0), (Reg.CH_DRIP_TIME_LO 0 + 4, 0x1000, 0)] s (dripTime s r) := by
  unfold dripTime
  exact (bump48_rdBut1 (b := Reg.CH_DRIP_TIME_LO 0) (p := 0x1000)).mono

theorem calDrop_rdBut {s r} : RdBut [(Reg.CH_CAL_CNT 0, 0x1000, 0)] s (calDrop s r) := by
  unfold calDrop
  exact .ite
    (.trans ((bump_rdBut1 (b := Reg.CH_CAL_CNT 0) (p := 0x1000)).mono)
       (.trans (.forEach fun _ _ => (.of_evolves setPh_evolves)) (.of_evolves (W := { est := true }) .set_est))) .refl

theorem frankCancel_rdBut {s d q tag} : RdBut [(Reg.FQ_CNT2, 0, 0), (Reg.FQ_EVENT, 0, 0), (Reg.TOP_DRAIN_CNT 4, 0, 0), (Reg.TOP_DRAIN_STATUS, 0,
    0)] s (frankCancel s d q tag) := by
  unfold frankCancel
  exact .trans ((.of_evolves frankSend_evolves))
    (.trans (.trans ((bump_rdBut0 (off := Reg.FQ_CNT2)).mono) ((raise_rdBut0 (off := Reg.FQ_EVENT)).mono)) sinkTake_rdBut.mono)

theorem queueKeep_rdBut {s q keep} : RdBut [(Reg.FQ_CNT2, 0, 0), (Reg.FQ_EVENT, 0, 0), (Reg.TOP_DRAIN_CNT 4, 0, 0), (Reg.TOP_DRAIN_STATUS, 0, 0)] s
    (queueKeep s q keep) := by
  unfold queueKeep
  exact .trans (.forEach fun _ _ => .trans (.ite ((.of_evolves ceilDrop_evolves)) .refl) frankCancel_rdBut.mono)
    (.trans ((.of_evolves setQueue_evolves)) (.ite .refl (.of_evolves (W := { fq := true }) .set_fq)))

theorem lightDrain_rdBut {s q} : RdBut [(Reg.FQ_CNT, 0, 0)] s (lightDrain s q) := by
  unfold lightDrain
  exact .forEach
    fun _ _ =>
      by
        split
        exacts [.ite (.trans ((.of_evolves frankSend_evolves)) (.trans ((.of_evolves setQueue_evolves)) ((bump_rdBut0 (off := Reg.FQ_CNT)).mono))) .refl,
          .refl]

theorem fqLeaveReg_rdBut {s r} : RdBut [(Reg.FQ_CNT2, 0, 0), (Reg.FQ_EVENT, 0, 0), (Reg.TOP_DRAIN_CNT 4, 0, 0), (Reg.TOP_DRAIN_STATUS, 0, 0),
    (Reg.FQ_CNT, 0, 0)] s (fqLeaveReg s r) := by
  unfold fqLeaveReg
  exact .forEach fun _ _ => .trans queueKeep_rdBut.mono lightDrain_rdBut.mono

theorem leaveReg_rdBut {s r} : RdBut [(Reg.CH_DRIP_TIME_LO 0, 0x1000, 0), (Reg.CH_DRIP_TIME_LO 0 + 4, 0x1000, 0), (Reg.CH_CAL_CNT 0, 0x1000, 0),
    (Reg.FQ_CNT2, 0, 0), (Reg.FQ_EVENT, 0, 0), (Reg.TOP_DRAIN_CNT 4, 0, 0), (Reg.TOP_DRAIN_STATUS, 0, 0), (Reg.FQ_CNT, 0, 0)] s (leaveReg s r) := by
  unfold leaveReg
  exact .trans ((.of_evolves boostStop_evolves))
    (.ite
       (.trans (.trans dripTime_rdBut.mono (.forEach fun _ _ => (.of_evolves armDie_evolves)))
          (.trans ((.of_evolves setCh_evolves)) (.trans calDrop_rdBut.mono (.trans ((.of_evolves setCh_evolves)) fqLeaveReg_rdBut.mono)))) .refl)

theorem disHead_rdBut {s} : RdBut [(Reg.CH_DRIP_TIME_LO 0, 0x1000, 0), (Reg.CH_DRIP_TIME_LO 0 + 4, 0x1000, 0), (Reg.CH_CAL_CNT 0, 0x1000, 0),
    (Reg.FQ_CNT2, 0, 0), (Reg.FQ_EVENT, 0, 0), (Reg.TOP_DRAIN_CNT 4, 0, 0), (Reg.TOP_DRAIN_STATUS, 0, 0), (Reg.FQ_CNT, 0, 0)] s (disHead s) := by
  unfold disHead
  split
  · exact .refl
  · exact .trans (.trans leaveReg_rdBut.mono ((.of_evolves setCh_evolves))) (.ite ((.of_evolves allActive_evolves)) ((.of_evolves phasesMid_evolves)))

theorem discharge_rdBut {s items} : RdBut [(Reg.CH_DRIP_TIME_LO 0, 0x1000, 0), (Reg.CH_DRIP_TIME_LO 0 + 4, 0x1000, 0), (Reg.CH_CAL_CNT 0, 0x1000,
    0), (Reg.FQ_CNT2, 0, 0), (Reg.FQ_EVENT, 0, 0), (Reg.TOP_DRAIN_CNT 4, 0, 0), (Reg.TOP_DRAIN_STATUS, 0, 0), (Reg.FQ_CNT, 0, 0)] s (discharge s
    items) := by
  unfold discharge
  exact .trans (.forEach fun _ _ => .ite .refl (.trans (.trans leaveReg_rdBut.mono ((.of_evolves phasesMid_evolves))) ((.of_evolves setCh_evolves))))
    (by
       extract_lets
       split
       exacts [.trans (.of_evolves (W := { top := true }) .set_top) disHead_rdBut.mono,
         by
           split
           exacts [.refl,
             .of_evolves (W := { top := true }) .set_top]])

theorem dischargeAll_rdBut {s maySwitch limitOnly} : RdBut [(Reg.CH_DRIP_TIME_LO 0, 0x1000, 0), (Reg.CH_DRIP_TIME_LO 0 + 4, 0x1000, 0),
    (Reg.CH_CAL_CNT 0, 0x1000, 0), (Reg.FQ_CNT2, 0, 0), (Reg.FQ_EVENT, 0, 0), (Reg.TOP_DRAIN_CNT 4, 0, 0), (Reg.TOP_DRAIN_STATUS, 0, 0),
    (Reg.FQ_CNT, 0, 0)] s (dischargeAll s maySwitch limitOnly) := by
  unfold dischargeAll
  exact discharge_rdBut.mono

theorem resetInto_rdBut {s d} : RdBut [(Reg.REC_EVENT, 0, 0), (Reg.REC_ARB_DROP 0, 0, 0), (Reg.REC_ARB_DROP 1, 0, 0), (Reg.REC_ARB_DROP 2, 0, 0),
    (Reg.TOP_DRAIN_CNT 8, 0, 0), (Reg.TOP_DRAIN_STATUS, 0, 0)] s (resetInto s d) := by
  unfold resetInto
  exact enterState_rdBut.mono

theorem supRead_rdBut {s sup mv} : RdBut [(Reg.LAD_VIN, 0, 0), (Reg.TOP_SUPPLY, 0, 0), (Reg.LAD_VAUX, 0, 0)] s (supRead s sup mv) := by
  unfold supRead
  exact .ite .refl
    (by
       split
       exacts [.trans (.trans ((wrN_rdBut0 (off := Reg.LAD_VIN)).mono) ((.of_evolves meanAdd_evolves))) ((setF_rdBut0 (off := Reg.TOP_SUPPLY)).mono),
         .trans ((wrN_rdBut0 (off := Reg.LAD_VAUX)).mono) ((.of_evolves meanAdd_evolves))])

section
variable {s t u : State}

theorem warnBit_fits (sup : Supply) : ∃ k, warnBit sup = ⟨k, 1⟩ ∧ k < 32 := by cases sup <;> exact ⟨_, rfl, by decide⟩

theorem causeBit_fits (sup : Supply) : ∃ k, causeBit sup = ⟨k, 1⟩ ∧ k < 32 := by cases sup <;> exact ⟨_, rfl, by decide⟩

theorem flag_raise_warn (sup : Supply) (off : Nat) : flag (raise s off (warnBit sup)) off (warnBit sup) = true := by
  obtain ⟨k, h, hk⟩ := warnBit_fits sup
  rw [h]
  exact flag_raise _ _ _ hk

theorem supWarn_of_active (h : t.active = s.active) (sup : Supply) : supWarn t sup = supWarn s sup := by
  cases sup <;> simp only [supWarn, aF_of_active h]

theorem supRst_of_active (h : t.active = s.active) (sup : Supply) : supRst t sup = supRst s sup := by
  cases sup <;> simp only [supRst, aF_of_active h]

theorem supHyst_of_active (h : t.active = s.active) (sup : Supply) : supHyst t sup = supHyst s sup := by
  cases sup <;> simp only [supHyst, aF_of_active h]

theorem balRelEn_of_active (h : t.active = s.active) (sup : Supply) : balRelEn t sup = balRelEn s sup := by
  cases sup <;> simp only [balRelEn, aOn_of_active h]

theorem flag_setF_apart (off : Nat) (f g : Fld) (v : Nat) (h : f.lo + f.len ≤ 32) (ha : g.lo + g.len ≤ f.lo ∨ f.lo + f.len ≤ g.lo) :
    flag (setF s off f v) off g = flag s off g := by
  have h := fld_setF_apart s off f g v h ha
  unfold flag
  unfold fld at h
  rw [h]

/-- A reading of a supply leaves whether VIN is armed. -/
theorem armed_supRead (sup : Supply) (mv : Nat) : flag (supRead s sup mv) Reg.TOP_SUPPLY F.TOP_SUPPLY_VIN_ARMED = flag s Reg.TOP_SUPPLY F.TOP_SUPPLY_VIN_ARMED := by
  unfold supRead
  split
  · rfl
  · cases sup
    · refine (flag_setF_apart _ _ _ _ (by decide) (by decide)).trans ?_
      have h : RdBut [(Reg.LAD_VIN, 0, 0)] s (meanAdd (wrN s Reg.LAD_VIN (satU 16 mv)) 24 (mv : Nat)) :=
        .trans (wrN_rdBut0 (off := Reg.LAD_VIN)) (.of_evolves meanAdd_evolves)
      exact h.flag_eq _
    · have h : RdBut [(Reg.LAD_VAUX, 0, 0)] s (meanAdd (wrN s Reg.LAD_VAUX (satU 16 mv)) 25 (mv : Nat)) :=
        .trans (wrN_rdBut0 (off := Reg.LAD_VAUX)) (.of_evolves meanAdd_evolves)
      exact h.flag_eq _

theorem supActs_supRead (sup sup' : Supply) (mv : Nat) : supActs (supRead s sup mv) sup' = supActs s sup' := by
  cases sup'
  · exact armed_supRead sup mv
  · show (!(supRead s sup mv).top.porHeld) = _
    rw [supRead_evolves.top_eq rfl]
    rfl

theorem ladder_keeps_status (sup sup' : Supply) (mv : Nat) : flag (supRead s sup mv) Reg.LAD_STATUS (warnBit sup') = flag s Reg.LAD_STATUS (warnBit sup') :=
  supRead_rdBut.flag_eq _

/-- R366: a warning sets its bit, counts, and releases ballast where its action is enabled. -/
theorem supplyWarning_results (sup : Supply) (mv ago : Nat) (s : State) (ha : supActs s sup = true) (hw : mv < supWarn s sup)
    (hf : flag s Reg.LAD_STATUS (warnBit sup) = false) :
    Runs (.supplyWarning sup mv ago) s (fun t => flag t Reg.LAD_STATUS (warnBit sup) = true ∧ t.top.state = s.top.state ∧ (balRelEn s sup = true → t.fq.released = true)
      ∧ fld t Reg.LAD_CNT F.LAD_CNT_WARNINGS = min (fld s Reg.LAD_CNT F.LAD_CNT_WARNINGS + 1) (2 ^ F.LAD_CNT_WARNINGS.len - 1)) := by
  show ∃ t, execSupplyWarning sup mv ago s = .next t ∧ _
  unfold execSupplyWarning
  extract_lets s1 s2 s3 s4 s5 s6
  have h1 : Evolves { regs := true, sbm := true } s s1 := supRead_evolves
  have h1r : RdBut [(Reg.LAD_VIN, 0, 0), (Reg.TOP_SUPPLY, 0, 0), (Reg.LAD_VAUX, 0, 0)] s s1 := supRead_rdBut
  rw [if_pos ⟨(supActs_supRead _ _ _).trans ha, by rwa [supWarn_of_active (h1.active_eq rfl)], by rw [ladder_keeps_status, hf]; rfl⟩]
  have h34 : RdBut [(Reg.LAD_EVENT, 0, 0), (Reg.LAD_CNT, 0, 0)] s2 s4 := .trans (t := s3) (raise_rdBut0 (off := Reg.LAD_EVENT)).mono (bump_rdBut0 (off := Reg.LAD_CNT)).mono
  have h24 : Evolves { regs := true } s2 s4 := .trans (t := s3) raise_evolves bump_evolves
  have h46 := RdBut.trans (F := [(Reg.REC_EVENT, 0, 0), (Reg.REC_ARB_DROP 0, 0, 0), (Reg.REC_ARB_DROP 1, 0, 0), (Reg.REC_ARB_DROP 2, 0, 0), (Reg.TOP_DRAIN_CNT 8, 0, 0),
    (Reg.TOP_DRAIN_STATUS, 0, 0), (Reg.TB_CAP_FLAGS, 0, 0), (Reg.TB_CAP_LO 0, 8, 16), (Reg.TB_CAP_HI 0, 8, 16), (Reg.TB_CAP_VALID, 0, 0)])
    (s := s4) (t := s5) (u := s6) record_rdBut.mono capture_rdBut.mono
  have h46' : Evolves { regs := true, drain := true, recd := true } s4 s6 := .trans (t := s5) record_evolves capture_evolves.mono
  have hflag : flag s6 Reg.LAD_STATUS (warnBit sup) = true := by
    rw [h46.flag_eq, h34.flag_eq]
    exact flag_raise_warn sup _
  have hcnt : fld s6 Reg.LAD_CNT F.LAD_CNT_WARNINGS = min (fld s Reg.LAD_CNT F.LAD_CNT_WARNINGS + 1) (2 ^ F.LAD_CNT_WARNINGS.len - 1) := by
    rw [h46.fld_eq]
    refine (fld_bump_same _ _ _ (by decide)).trans ?_
    have h13 : RdBut [(Reg.LAD_STATUS, 0, 0), (Reg.LAD_EVENT, 0, 0)] s1 s3 := .trans (t := s2) (raise_rdBut0 (off := Reg.LAD_STATUS)).mono (raise_rdBut0 (off := Reg.LAD_EVENT)).mono
    rw [h13.fld_eq, h1r.fld_eq]
  have htop : s6.top = s.top := (h46'.top_eq rfl).trans ((h24.top_eq rfl).trans (h1.top_eq rfl))
  have hact : s6.active = s.active := (h46'.active_eq rfl).trans ((h24.active_eq rfl).trans (h1.active_eq rfl))
  refine ⟨_, rfl, ?_, ?_, fun hb => ?_, ?_⟩
  · split
    · rw [ballastRelease_rdBut.flag_eq, hflag]
    · exact hflag
  · split
    · rw [ballastRelease_evolves.top_eq rfl, htop]
    · rw [htop]
  · have hon : releaseOn s6 = true := by
      rw [← balRelEn_of_active hact] at hb
      unfold releaseOn
      cases sup
      · rw [hb, show flag s6 Reg.LAD_STATUS (warnBit .vin) = true from hflag]
        rfl
      · rw [hb, show flag s6 Reg.LAD_STATUS (warnBit .vaux) = true from hflag]
        simp
    rw [if_pos hon]
    rfl
  · split
    · rw [ballastRelease_rdBut.fld_eq, hcnt]
    · exact hcnt

/-- R366: above its threshold and the hysteresis a warning clears. -/
theorem warningClear_results (sup : Supply) (mv : Nat) (s : State) (hf : flag s Reg.LAD_STATUS (warnBit sup) = true) (hw : supWarn s sup + supHyst s sup < mv) :
    Runs (.warningClear sup mv) s (fun t => flag t Reg.LAD_STATUS (warnBit sup) = false ∧ t.top = s.top) := by
  show ∃ t, execWarningClear sup mv s = .next t ∧ _
  unfold execWarningClear
  extract_lets s1 s2
  have h1 : Evolves { regs := true, sbm := true } s s1 := supRead_evolves
  have ha := h1.active_eq rfl
  rw [if_pos ⟨by rw [ladder_keeps_status, hf], by rwa [supWarn_of_active ha, supHyst_of_active ha]⟩]
  have hflag : flag s2 Reg.LAD_STATUS (warnBit sup) = false := by
    obtain ⟨k, h, hk⟩ := warnBit_fits sup
    show flag (lower _ _ (warnBit sup)) _ _ = _
    rw [h]
    exact flag_lower _ _ _ hk
  have htop : s2.top = s.top := by
    show (lower (pmRefresh s1) _ _).top = _
    rw [lower_top, pmRefresh_evolves.top_eq rfl, h1.top_eq rfl]
  refine ⟨_, rfl, ?_, ?_⟩
  · split
    · exact hflag
    · exact hflag
  · split
    · exact htop
    · exact htop

/-- R369: VIN above HI is shown, and reported where it was not shown before. -/
theorem vinHighAlarm_results (mv : Nat) (s : State) (hp : s.top.porHeld = false) (hv : aF s Reg.LAD_VIN_HI F.LAD_VIN_HI_HI * 100 < mv) :
    Runs (.vinHighAlarm mv) s (fun t => flag t Reg.LAD_STATUS F.LAD_STATUS_VIN_HI = true ∧ t.top.state = s.top.state
      ∧ (flag s Reg.LAD_STATUS F.LAD_STATUS_VIN_HI = false → flag t Reg.LAD_EVENT F.LAD_EVENT_VIN_HI = true)) := by
  show ∃ t, execVinHighAlarm mv s = .next t ∧ _
  unfold execVinHighAlarm
  extract_lets s1 s2 s3
  have h1 : Evolves { regs := true, sbm := true } s s1 := supRead_evolves
  have hst : flag s1 Reg.LAD_STATUS F.LAD_STATUS_VIN_HI = flag s Reg.LAD_STATUS F.LAD_STATUS_VIN_HI := supRead_rdBut.flag_eq _
  have hrec := record_rdBut (s := s3) (p := .control) (cls := 0x07) (typ := 0x03) (unit := 0) (arg := 0) (value := mv) (value2 := now s3) (flags := 0)
  have hrec' := record_evolves (s := s3) (p := .control) (cls := 0x07) (typ := 0x03) (unit := 0) (arg := 0) (value := mv) (value2 := now s3) (flags := 0)
  have hcond : (!s1.top.porHeld) = true ∧ aF s1 Reg.LAD_VIN_HI F.LAD_VIN_HI_HI * 100 < mv := by
    rw [h1.top_eq rfl, hp, aF_of_active (h1.active_eq rfl)]
    exact ⟨rfl, hv⟩
  cases hf : flag s Reg.LAD_STATUS F.LAD_STATUS_VIN_HI
  · rw [if_pos ⟨hcond.1, hcond.2, by rw [hst, hf]; rfl⟩]
    refine ⟨_, rfl, ?_, ?_, fun _ => ?_⟩
    · rw [hrec.flag_eq, (raise_rdBut0 (s := s2) (off := Reg.LAD_EVENT) (f := F.LAD_EVENT_VIN_HI)).flag_eq]
      exact flag_raise _ _ _ (by decide)
    · rw [hrec'.top_eq rfl]
      show s1.top.state = _
      rw [h1.top_eq rfl]
    · rw [hrec.flag_eq]
      exact flag_raise _ _ _ (by decide)
  · rw [if_neg fun h => by rw [hst, hf] at h; exact absurd h.2.2 (by decide)]
    exact ⟨_, rfl, by rw [hst, hf], by rw [h1.top_eq rfl], fun h => by cases h⟩

/-- R369: VIN at HI less the hysteresis clears the alarm. -/
theorem vinHiClear_results (mv : Nat) (s : State) (hv : mv ≤ aF s Reg.LAD_VIN_HI F.LAD_VIN_HI_HI * 100 - supHyst s .vin) :
    Runs (.vinHiClear mv) s (fun t => flag t Reg.LAD_STATUS F.LAD_STATUS_VIN_HI = false ∧ t.top = s.top) := by
  have h1 : Evolves { regs := true, sbm := true } s (supRead s .vin mv) := supRead_evolves
  refine ⟨_, if_pos ?_, flag_lower _ _ _ (by decide), ?_⟩
  · rwa [aF_of_active (h1.active_eq rfl), supHyst_of_active (h1.active_eq rfl)]
  · rw [lower_top, pmRefresh_evolves.top_eq rfl, h1.top_eq rfl]

/-- R374: VHOLD below 4 V ends the tail commit with the entries it has programmed. -/
theorem vholdExhausted_results (mv done : Nat) (x : TailSt) (s : State) (hm : mv < 4000) (hx : s.nvs.tail = some x) :
    Runs (.vholdExhausted mv done) s (fun t => t.nvs.tail = none ∧ tabGet [] t.nvs.tails x.area = x.entries.take done ∧ t.top.state = s.top.state) := by
  show ∃ t, execVholdExhausted mv done s = .next t ∧ _
  unfold execVholdExhausted
  extract_lets s1 s2
  have h1 : Evolves { regs := true, drain := true, recd := true, sbm := true } s s1 := vholdRead_evolves
  have hx1 : s1.nvs.tail = some x := by rw [h1.nvs_eq rfl, hx]
  rw [if_pos ⟨hm, by rw [hx1]; rfl⟩]
  have hnvs : s2.nvs = { s1.nvs with tail := none, tails := tabSet [] s1.nvs.tails x.area (x.entries.take done) } := by
    show (tailEnd s1 false done).nvs = _
    unfold tailEnd
    rw [hx1]
    simp only [Bool.false_eq_true, if_false]
    split
    · rfl
    · rfl
  have htop : s2.top = s.top := (tailEnd_evolves.top_eq rfl).trans (h1.top_eq rfl)
  have hres : ∀ u : State, u.nvs = s2.nvs → u.top = s2.top →
      u.nvs.tail = none ∧ tabGet [] u.nvs.tails x.area = x.entries.take done ∧ u.top.state = s.top.state := by
    intro u hn ht
    rw [hn, ht, hnvs, htop]
    exact ⟨rfl, tabGet_tabSet_same _ _ _ _, rfl⟩
  refine ⟨_, rfl, ?_⟩
  split
  · exact hres _ rfl rfl
  · exact hres _ (record_evolves.nvs_eq rfl) (record_evolves.top_eq rfl)

/-- R371: VHOLD below 9 V is no longer good, and is reported where rails may run. -/
theorem vholdLow_results (mv : Nat) (s : State) (hp : s.top.porHeld = false) (hm : mv < 9000) (hf : flag s Reg.TOP_SUPPLY F.TOP_SUPPLY_VHOLD_OK = true) :
    Runs (.vholdLow mv) s (fun t => flag t Reg.TOP_SUPPLY F.TOP_SUPPLY_VHOLD_OK = false ∧ t.top.state = s.top.state
      ∧ (s.top.state = .loaded ∨ s.top.state = .ramp ∨ s.top.state = .run → flag t Reg.LAD_EVENT F.LAD_EVENT_VHOLD_LOW = true)) := by
  refine ⟨vholdRead s mv, rfl, ?_⟩
  have htop : (vholdRead s mv).top = s.top := vholdRead_evolves.top_eq rfl
  refine (fun h => ⟨h.1, by rw [htop], h.2⟩ : _ ∧ (s.top.state = .loaded ∨ s.top.state = .ramp ∨ s.top.state = .run → _) → _) ?_
  unfold vholdRead
  rw [if_neg (by rw [hp]; decide)]
  extract_lets s1 s2
  have h1 : Evolves { regs := true, sbm := true } s s1 := .trans (t := wrN s Reg.LAD_VHOLD (satU 16 mv)) wrN_evolves.mono meanAdd_evolves.mono
  have h1r : RdBut [(Reg.LAD_VHOLD, 0, 0)] s s1 := .trans (t := wrN s Reg.LAD_VHOLD (satU 16 mv)) (wrN_rdBut0 (off := Reg.LAD_VHOLD)) (.of_evolves meanAdd_evolves)
  have hok : flag s2 Reg.TOP_SUPPLY F.TOP_SUPPLY_VHOLD_OK = false := flag_lower _ _ _ (by decide)
  have hst : s2.top.state = s.top.state := by
    show s1.top.state = _
    rw [h1.top_eq rfl]
  rw [if_neg (by omega), if_pos ⟨hm, by rw [h1r.flag_eq, hf]⟩]
  split
  · refine ⟨?_, fun _ => ?_⟩
    · rw [record_rdBut.flag_eq, (raise_rdBut0 (s := s2) (off := Reg.LAD_EVENT) (f := F.LAD_EVENT_VHOLD_LOW)).flag_eq, hok]
    · rw [record_rdBut.flag_eq]
      exact flag_raise _ _ _ (by decide)
  · next h => exact ⟨hok, fun h' => absurd (hst ▸ h') h⟩

/-- R377: a glitch is counted. -/
theorem resetThresholdGlitch_results (sup : Supply) (mv : Nat) (s : State) (hp : s.top.porHeld = false) (ha : supActs s sup = true) (hm : mv < supRst s sup) :
    Runs (.resetThresholdGlitch sup mv) s (fun t => t.top = s.top ∧ flag t Reg.LAD_EVENT F.LAD_EVENT_GLITCH = true
      ∧ fld t Reg.LAD_CNT F.LAD_CNT_GLITCHES = min (fld s Reg.LAD_CNT F.LAD_CNT_GLITCHES + 1) (2 ^ F.LAD_CNT_GLITCHES.len - 1)) := by
  refine ⟨raise (bump s Reg.LAD_CNT F.LAD_CNT_GLITCHES) Reg.LAD_EVENT F.LAD_EVENT_GLITCH, if_pos ⟨ha, hm, by simp [hp]⟩, by rw [raise_top, bump_top],
    flag_raise _ _ _ (by decide), ?_⟩
  exact ((raise_rdBut0 (off := Reg.LAD_EVENT) (f := F.LAD_EVENT_GLITCH)).fld_eq (off := Reg.LAD_CNT) _).trans (fld_bump_same _ _ _ (by decide))

/-! ## Phases at MID -/

/-- What a step leaves of a phase at MID: it stays at MID unless a crowbar holds it, and the crowbars stay. -/
def MidStays (p : Nat) (s t : State) : Prop :=
  (phOf t p).crowbar = (phOf s p).crowbar ∧ ((phOf s p).crowbar = false → (phOf s p).level = .mid → (phOf t p).level = .mid)

theorem MidStays.refl {p : Nat} : MidStays p s s := ⟨rfl, fun _ h => h⟩

theorem MidStays.trans {p : Nat} (h : MidStays p s t) (k : MidStays p t u) : MidStays p s u :=
  ⟨k.1.trans h.1, fun hc hl => k.2 (h.1.trans hc) (h.2 hc hl)⟩

theorem MidStays.ite {p : Nat} {c : Prop} [Decidable c] (h : MidStays p s t) (k : MidStays p s u) : MidStays p s (if c then t else u) := by
  split
  · exact h
  · exact k

theorem MidStays.forEach {p : Nat} {α : Type} {l : List α} {f : State → α → State} (h : ∀ t x, MidStays p t (f t x)) : MidStays p s (forEach l s f) := by
  unfold Machine.forEach
  induction l generalizing s with
  | nil => exact .refl
  | cons x l ih => exact (h s x).trans ih

theorem phOf_of_ph (h : t.ph = s.ph) (p : Nat) : phOf t p = phOf s p := by
  unfold phOf
  rw [h]

theorem MidStays.of_evolves {p : Nat} {W : Blocks} (h : Evolves W s t) (hW : W.ph = false := by rfl) : MidStays p s t := by
  rw [MidStays, phOf_of_ph (h.ph_eq hW)]
  exact ⟨rfl, fun _ h => h⟩

theorem phOf_setPh (q p : Nat) (f : PhSt → PhSt) : phOf (setPh s q f) p = if q = p then f (phOf s q) else phOf s p := tabGet_tabSet _ _ _ _ _

theorem MidStays.setPh {p q : Nat} {f : PhSt → PhSt} (hc : ∀ x, (f x).crowbar = x.crowbar) (hl : ∀ x, x.crowbar = false → x.level = .mid → (f x).level = .mid) :
    MidStays p s (setPh s q f) := by
  rw [MidStays, phOf_setPh]
  split
  next h => exact h ▸ ⟨hc _, hl _⟩
  next => exact ⟨rfl, fun _ h => h⟩

theorem midStays_phasesMid {p : Nat} {l : List Nat} : MidStays p s (phasesMid s l) := by
  unfold phasesMid
  exact .forEach fun _ _ => .setPh (fun x => by split <;> rfl) fun x hx _ => by simp [hx, toMid]

/-- Each phase that no crowbar holds is at MID once it has been put there. -/
theorem level_phasesMid {p : Nat} {l : List Nat} (hp : p ∈ l) (hc : (phOf s p).crowbar = false) : (phOf (phasesMid s l) p).level = .mid := by
  have h : ∀ (l : List Nat) (s : State), p ∈ l → (phOf s p).crowbar = false → (phOf (phasesMid s l) p).level = .mid := by
    intro l
    induction l with
    | nil => exact fun _ hp => nomatch hp
    | cons q l ih =>
      intro s hp hc
      have hq : MidStays p s (setPh s q fun x => if x.crowbar then x else toMid x) :=
        .setPh (fun x => by split <;> rfl) fun x hx _ => by simp [hx, toMid]
      show (phOf (phasesMid (setPh s q fun x => if x.crowbar then x else toMid x) l) p).level = .mid
      by_cases he : q = p
      · refine (midStays_phasesMid (l := l)).2 (hq.1.trans hc) ?_
        rw [phOf_setPh, if_pos he, he, if_neg (by simp [hc])]
        rfl
      · exact ih _ ((List.mem_cons.1 hp).resolve_left fun h => he h.symm) (hq.1.trans hc)
  exact h l s hp hc

theorem midStays_schedGrow {p r : Nat} : MidStays p s (schedGrow s r) := by
  unfold schedGrow
  extract_lets l s2
  exact .ite .refl (.trans (t := s2) (.of_evolves setCh_evolves) (.forEach fun _ _ => .setPh (fun _ => rfl) fun _ _ h => h))

theorem midStays_allActive {p r : Nat} : MidStays p s (allActive s r) := by
  unfold allActive
  extract_lets s1 s2
  have h1 : MidStays p s s1 := .forEach fun _ _ => .setPh (fun _ => rfl) fun _ _ h => h
  have h2 : MidStays p s1 s2 := .ite (.of_evolves setCh_evolves) .refl
  exact h1.trans (h2.trans midStays_schedGrow)

theorem midStays_boostStop {p r : Nat} : MidStays p s (boostStop s r) := by
  unfold boostStop
  split
  · exact .refl
  · extract_lets gap s1 s2 s3
    have h1 : MidStays p s s1 := .forEach fun _ _ => .setPh (fun x => by split <;> rfl) fun x _ hl => by simp [hl]
    have h3 : MidStays p s1 s3 := .trans (t := s2) (.of_evolves setBoost_evolves) (.ite (.of_evolves boostBlocks_evolves) .refl)
    exact h1.trans (h3.trans (.trans midStays_allActive (.of_evolves restartShed_evolves)))

theorem midStays_calDrop {p r : Nat} : MidStays p s (calDrop s r) := by
  unfold calDrop
  extract_lets c s1 s2
  exact .ite (.trans (t := s2) (.trans (t := s1) (.of_evolves bump_evolves) (.forEach fun _ _ => .setPh (fun _ => rfl) fun _ _ h => h))
    (.of_evolves (W := { est := true }) .set_est)) .refl

theorem midStays_leaveReg {p r : Nat} : MidStays p s (leaveReg s r) := by
  unfold leaveReg
  extract_lets was s1 s2 s3 s4
  have h2 : MidStays p s1 s2 := .trans (t := dripTime s1 r) (.of_evolves dripTime_evolves) (.forEach fun _ _ => .of_evolves armDie_evolves)
  have h4 : MidStays p s1 s4 := h2.trans (.trans (t := s3) (.of_evolves setCh_evolves) midStays_calDrop)
  exact .trans (t := s1) midStays_boostStop (.ite (h4.trans (.trans (.of_evolves setCh_evolves) (.of_evolves fqLeaveReg_evolves))) .refl)

theorem midStays_disHead {p : Nat} : MidStays p s (disHead s) := by
  unfold disHead
  split
  · exact .refl
  · exact .trans (.trans midStays_leaveReg (.of_evolves setCh_evolves)) (.ite midStays_allActive midStays_phasesMid)

theorem midStays_discharge {p : Nat} {l : List DisItem} : MidStays p s (discharge s l) := by
  unfold discharge
  extract_lets l' s1 q
  have h1 : MidStays p s s1 :=
    .forEach fun _ _ => .ite .refl (.trans (.trans midStays_leaveReg midStays_phasesMid) (.of_evolves setCh_evolves))
  clear_value s1
  refine h1.trans ?_
  split
  · exact .trans (t := { s1 with top := { s1.top with dis := q, disAt := if q = [] then s1.top.disAt else now s1 } })
      (.of_evolves (W := { top := true }) .set_top) midStays_disHead
  · split
    · exact .refl
    · exact .of_evolves (W := { top := true }) .set_top

/-! ## The discharge and the device state -/

/-- What a discharge leaves of the device state: all but the discharge itself. -/
def topButDis (s : State) : TopSt := { s.top with dis := [], disAt := 0 }

theorem topButDis_of {W : Blocks} (h : Evolves W s t) (hW : W.top = false := by rfl) : Shows topButDis s t := by
  unfold Shows topButDis
  rw [h.top_eq hW]

theorem topButDis_disHead : Shows topButDis s (disHead s) := by
  unfold disHead
  split
  · exact .refl
  · exact .trans (.trans (topButDis_of leaveReg_evolves) (topButDis_of setCh_evolves)) (.both (topButDis_of allActive_evolves) (topButDis_of phasesMid_evolves))

theorem topButDis_discharge {l : List DisItem} : Shows topButDis s (discharge s l) := by
  unfold discharge
  extract_lets l' s1 q
  have h1 : Shows topButDis s s1 :=
    .forEach fun _ _ => .both .refl (.trans (.trans (topButDis_of leaveReg_evolves) (topButDis_of phasesMid_evolves)) (topButDis_of setCh_evolves))
  clear_value s1
  refine h1.trans ?_
  split
  · exact .trans (t := { s1 with top := { s1.top with dis := q, disAt := if q = [] then s1.top.disAt else now s1 } }) rfl topButDis_disHead
  · split
    · exact .refl
    · exact rfl

theorem state_of_topButDis (h : Shows topButDis s t) : t.top.state = s.top.state :=
  congrArg TopSt.state (a₁ := topButDis t) (a₂ := topButDis s) h

theorem brown_of_topButDis (h : Shows topButDis s t) : t.top.brown = s.top.brown :=
  congrArg TopSt.brown (a₁ := topButDis t) (a₂ := topButDis s) h

theorem rst_of_topButDis (h : Shows topButDis s t) : t.top.rst = s.top.rst :=
  congrArg TopSt.rst (a₁ := topButDis t) (a₂ := topButDis s) h

theorem topButDis_dischargeAll {a b : Bool} : Shows topButDis s (dischargeAll s a b) := topButDis_discharge

theorem midStays_dischargeAll {p : Nat} {a b : Bool} : MidStays p s (dischargeAll s a b) := midStays_discharge

/-- A change of device state ends in that state, and touches nothing else of it. -/
theorem enterState_top (d : DevState) : (enterState s d).top = { s.top with state := d } := by
  unfold enterState
  split
  next h => rw [← h]
  next h =>
    extract_lets t0 s1 s2
    have h12 : Evolves { nvs := true } s1 s2 := .ite lifeUp_evolves (.ite lifeUp_evolves .refl)
    rw [record_evolves.top_eq rfl, h12.top_eq rfl]

/-! ## BROWNOUT -/

theorem flag_raise_cause (sup : Supply) (off : Nat) : flag (raise s off (causeBit sup)) off (causeBit sup) = true := by
  obtain ⟨k, h, hk⟩ := causeBit_fits sup
  rw [h]
  exact flag_raise _ _ _ hk

/-- The end of a cause: its bit stands, and what BROWNOUT remembers stays. -/
theorem flag_brownCause (sup : Supply) : flag (brownCause s sup) Reg.LAD_STATUS (causeBit sup) = true := by
  unfold brownCause
  extract_lets s1 s2 s3
  have h1 : flag s1 Reg.LAD_STATUS (causeBit sup) = true := flag_raise_cause sup _
  have h2 : flag s2 Reg.LAD_STATUS (causeBit sup) = flag s1 Reg.LAD_STATUS (causeBit sup) :=
    flag_setF_apart _ _ _ _ (by decide) (by cases sup <;> decide)
  have h23 : RdBut [(Reg.LAD_EVENT, 0, 0)] s2 s3 := raise_rdBut0
  have h3 : flag s3 Reg.LAD_STATUS (causeBit sup) = true := (h23.flag_eq _).trans (h2.trans h1)
  clear_value s3
  cases sup with
  | vin => exact h3
  | vaux =>
    have h4 : RdBut [(Reg.TOP_SUPPLY, 0, 0)] s3 (lower s3 Reg.TOP_SUPPLY F.TOP_SUPPLY_VAUX_OK) := lower_rdBut0
    have h5 : flag (lower s3 Reg.TOP_SUPPLY F.TOP_SUPPLY_VAUX_OK) Reg.LAD_STATUS (causeBit .vaux) = flag s3 Reg.LAD_STATUS (causeBit .vaux) := h4.flag_eq _
    exact h5.trans h3

/-- What BROWNOUT keeps of the state it was entered from. -/
def brownFrom (s : State) : DevState × Option ResetSt := (s.top.brown.entered, s.top.rst)

theorem brownFrom_of {W : Blocks} (h : Evolves W s t) (hW : W.top = false := by rfl) : Shows brownFrom s t := by
  unfold Shows brownFrom
  rw [h.top_eq hW]

theorem brownFrom_brownCause (sup : Supply) : Shows brownFrom s (brownCause s sup) := by
  cases sup <;> rfl

theorem flag_tailCopy (sup : Supply) (unit : Nat) : flag (tailCopy s unit) Reg.LAD_STATUS (causeBit sup) = flag s Reg.LAD_STATUS (causeBit sup) := by
  unfold tailCopy
  split
  · rfl
  · extract_lets s1 s2 first es
    have h1 : flag s1 Reg.LAD_STATUS (causeBit sup) = flag s Reg.LAD_STATUS (causeBit sup) := nvAbort_rdBut.flag_eq _
    rw [← h1]
    clear_value s1
    split
    next => exact (record_rdBut.flag_eq _).trans ((raise_rdBut0 (off := Reg.LAD_EVENT)).flag_eq _)
    next a _ =>
      extract_lets s3 s4 n4
      refine (flag_setF_apart _ _ _ _ (by decide) (by cases sup <;> decide)).trans ?_
      have h34 : Evolves { nvs := true } s3 s4 := setSector_evolves
      exact (flag_congr (rd_of_regs (h34.regs_eq rfl) _) _).trans (jPut_rdBut.flag_eq _)

/-- R370, R6, R32: what holds once BROWNOUT has been entered. -/
theorem brownEnter_results (sup : Supply) (mv : Nat) :
    (brownEnter s sup mv).top.state = .brownout ∧ (brownEnter s sup mv).top.brown.entered = s.top.state
      ∧ (brownEnter s sup mv).top.rst = (if wholeReset s then none else s.top.rst) ∧ flag (brownEnter s sup mv) Reg.LAD_STATUS (causeBit sup) = true
      ∧ ∀ p, p < 64 → (phOf s p).crowbar = false → (phOf (brownEnter s sup mv) p).level = .mid := by
  unfold brownEnter
  extract_lets devLost b0 s1 s2 s3 s4 s5 room s6 s7 s8
  have h12 : Evolves { regs := true, drain := true, recd := true, img := true, sec := true, freeCtr := true } s1 s2 :=
    .trans (t := loadAbort s1 0x15) loadAbort_evolves.mono fuseAbort_evolves.mono
  have h23 : Evolves { regs := true, top := true } s2 s3 := brownCause_evolves.mono
  have h34 : Evolves { regs := true } s3 s4 := bump_evolves
  have h45 : Evolves { ph := true } s4 s5 := phasesMid_evolves
  have h56 : Evolves { regs := true, drain := true, recd := true } s5 s6 := record_evolves
  have h67 : Evolves { regs := true, drain := true, recd := true, nvs := true } s6 s7 :=
    .trans (t := if room then grantControl s6 else s6) (.ite grantControl_evolves .refl) tailCopy_evolves
  have h8 : Evolves { regs := true, drain := true, recd := true, tvl := true } s7 (originTrip s7 4) := originTrip_evolves
  have h89 : Evolves _ (originTrip s7 4) s8 := enterState_evolves
  have hfrom23 : Shows brownFrom s2 s3 := brownFrom_brownCause sup
  have hfrom8 : Shows brownFrom (originTrip s7 4) s8 := by
    show brownFrom (enterState _ _) = _
    unfold brownFrom
    rw [enterState_top]
  have hstate : s8.top.state = .brownout := by
    show (enterState _ _).top.state = _
    rw [enterState_top]
  have f3 : flag s3 Reg.LAD_STATUS (causeBit sup) = true := flag_brownCause sup
  have f34 : RdBut [(Reg.LAD_CNT, 0, 0)] s3 s4 := bump_rdBut0
  have f56 : RdBut _ s5 s6 := record_rdBut
  have f67 : flag s7 Reg.LAD_STATUS (causeBit sup) = flag s6 Reg.LAD_STATUS (causeBit sup) := by
    refine (flag_tailCopy sup _).trans ?_
    split
    · exact grantControl_rdBut.flag_eq _
    · rfl
  have f78 : RdBut _ s7 (originTrip s7 4) := originTrip_rdBut
  have f8 : RdBut _ (originTrip s7 4) s8 := enterState_rdBut
  have hm45 (p : Nat) : MidStays p s4 s5 := midStays_phasesMid
  have hl45 (p : Nat) (hp : p < 64) (hc : (phOf s4 p).crowbar = false) : (phOf s5 p).level = .mid := level_phasesMid (List.mem_range.2 hp) hc
  clear_value s8 s7 s6 s5 s4 s3 s2
  have hdis : Shows topButDis s8 (dischargeAll s8 false) := topButDis_dischargeAll
  have hfrom : Shows brownFrom s1 s8 :=
    (brownFrom_of h12).trans (hfrom23.trans ((brownFrom_of h34).trans ((brownFrom_of h45).trans ((brownFrom_of h56).trans
      ((brownFrom_of h67).trans ((brownFrom_of h8).trans hfrom8))))))
  refine ⟨(state_of_topButDis hdis).trans hstate, ?_, ?_, ?_, fun p hp hc => ?_⟩
  · rw [brown_of_topButDis hdis]
    exact congrArg Prod.fst hfrom.eq
  · rw [rst_of_topButDis hdis]
    exact congrArg Prod.snd hfrom.eq
  · rw [dischargeAll_rdBut.flag_eq, f8.flag_eq, f78.flag_eq, f67, f56.flag_eq, flag_congr (rd_of_regs (h45.regs_eq rfl) _) _, f34.flag_eq]
    exact f3
  · have h14 : phOf s4 p = phOf s p := by
      refine phOf_of_ph ?_ p
      rw [h34.ph_eq rfl, h23.ph_eq rfl, h12.ph_eq rfl]
    have hmid : (phOf s5 p).level = .mid := hl45 p hp (by rw [h14, hc])
    have hcb : (phOf s5 p).crowbar = false := (hm45 p).1.trans (by rw [h14, hc])
    have h5 : MidStays p s5 (dischargeAll s8 false) := .trans (t := s6) (.of_evolves h56) (.trans (t := s7) (.of_evolves h67)
      (.trans (t := originTrip s7 4) (.of_evolves h8) (.trans (t := s8) (.of_evolves h89) midStays_dischargeAll)))
    exact h5.2 hcb hmid

theorem brownoutEntry_results (sup : Supply) (mv : Nat) (s : State) (hp : s.top.porHeld = false) (hb : s.top.state ≠ .brownout) (ha : supActs s sup = true)
    (hm : mv < supRst s sup) (hf : flag s Reg.LAD_STATUS (causeBit sup) = false) :
    Runs (.brownoutEntry sup mv) s (fun t => t.top.state = .brownout ∧ t.top.brown.entered = s.top.state ∧ t.top.rst = (if wholeReset s then none else s.top.rst)
      ∧ flag t Reg.LAD_STATUS (causeBit sup) = true ∧ ∀ p, p < 64 → (phOf s p).crowbar = false → (phOf t p).level = .mid) := by
  have h1 : Evolves { regs := true, sbm := true } s (supRead s sup mv) := supRead_evolves
  have htop := h1.top_eq rfl
  refine ⟨brownEnter (supRead s sup mv) sup mv, ?_, ?_⟩
  · show execBrownoutEntry sup mv s = _
    unfold execBrownoutEntry
    rw [if_pos ⟨by rw [htop, hp]; rfl, (supActs_supRead _ _ _).trans ha, by rwa [supRst_of_active (h1.active_eq rfl)], by
      rw [supRead_rdBut.flag_eq, hf]; rfl⟩, if_neg (by rwa [htop])]
  · have h := brownEnter_results (s := supRead s sup mv) sup mv
    rw [htop] at h
    have hw : wholeReset (supRead s sup mv) = wholeReset s := by
      unfold wholeReset
      rw [htop]
    simp only [hw, phOf_of_ph (h1.ph_eq rfl)] at h
    exact h

/-- The HALT causes that the device state itself latches. -/
def haltLatches (s : State) : Nat × Bool × Bool × Bool := (s.top.hChan, s.top.hActiveUe, s.top.hClock, s.top.hAon)

theorem haltCauses_congr {F : List (Nat × Nat × Nat)} (h : RdBut F s t) (ht : Shows haltLatches s t)
    (h1 : F.all (misses · Reg.PROT_THERM_LATCH) = true := by decide +kernel) (h2 : F.all (misses · Reg.PROT_CH_LATCH) = true := by decide +kernel)
    (h3 : F.all (misses · Reg.CLK_STATUS) = true := by decide +kernel) : haltCauses t = haltCauses s := by
  obtain ⟨e1, e2, e3, e4⟩ : t.top.hChan = s.top.hChan ∧ t.top.hActiveUe = s.top.hActiveUe ∧ t.top.hClock = s.top.hClock ∧ t.top.hAon = s.top.hAon := by
    simpa [Shows, haltLatches] using ht
  unfold haltCauses
  rw [h.rd_eq h1, h.rd_eq h2, h.flag_eq _ h3, h.flag_eq _ h3, e1, e2, e3, e4]

theorem supRecovered_of_active (h : t.active = s.active) (sup : Supply) (mv : Nat) : supRecovered t sup mv = supRecovered s sup mv := by
  unfold supRecovered
  rw [supWarn_of_active h, supHyst_of_active h]

/-- R371, R372: BROWNOUT ends in the state that its HALT causes and the kept image give. -/
theorem brownoutExit_results (vin vaux : Nat) (s : State) (hb : s.top.state = .brownout) (hv : supRecovered s .vin vin = true)
    (hx : supRecovered s .vaux vaux = true) (hd : s.top.dis = []) (he : s.top.brown.entered ≠ .off) (hf : s.top.brown.vauxFell = false)
    (hl : s.top.brown.devResetLost = false) (ha : flag s Reg.TOP_START_CFG F.TOP_START_CFG_AUTO = false) :
    Runs (.brownoutExit vin vaux true true) s (fun t => t.top.state = (if haltCauses s != 0 then .halt else if s.img.applied then .loaded else .decaf)
      ∧ flag t Reg.LAD_STATUS F.LAD_STATUS_VIN_CAUSE = false ∧ flag t Reg.LAD_STATUS F.LAD_STATUS_VAUX_CAUSE = false ∧ t.top.brown = {}) := by
  show ∃ t, execBrownoutExit vin vaux true true s = .next t ∧ _
  unfold execBrownoutExit
  extract_lets s1 vinOk b s2 s3 sa sb sc s4 sd se sf s5
  have h1 : Evolves { regs := true, sbm := true } s s1 := .trans (t := supRead s .vin vin) supRead_evolves supRead_evolves
  have h2 : Evolves { regs := true, sbm := true } s1 s2 := .trans (t := pmRefresh s1) pmRefresh_evolves.mono raise_evolves.mono
  have h3 : Evolves { regs := true } s2 s3 := .trans (t := lower (lower s2 Reg.LAD_STATUS F.LAD_STATUS_VIN_CAUSE) Reg.LAD_STATUS F.LAD_STATUS_VAUX_CAUSE)
    (.trans (t := lower s2 Reg.LAD_STATUS F.LAD_STATUS_VIN_CAUSE) lower_evolves lower_evolves) lower_evolves
  have htop : s3.top = s.top := (h3.top_eq rfl).trans ((h2.top_eq rfl).trans (h1.top_eq rfl))
  have himg : s3.img = s.img := (h3.img_eq rfl).trans ((h2.img_eq rfl).trans (h1.img_eq rfl))
  have r1 : RdBut [(Reg.LAD_VIN, 0, 0), (Reg.TOP_SUPPLY, 0, 0), (Reg.LAD_VAUX, 0, 0)] s s1 := .trans (t := supRead s .vin vin) supRead_rdBut supRead_rdBut
  have r2 : RdBut [(Reg.TOP_SUPPLY, 0, 0)] s1 s2 := .trans (t := pmRefresh s1) (.of_evolves pmRefresh_evolves) raise_rdBut0
  have r3 : RdBut [(Reg.LAD_STATUS, 0, 0)] s2 s3 := .trans (t := lower (lower s2 Reg.LAD_STATUS F.LAD_STATUS_VIN_CAUSE) Reg.LAD_STATUS F.LAD_STATUS_VAUX_CAUSE)
    (.trans (t := lower s2 Reg.LAD_STATUS F.LAD_STATUS_VIN_CAUSE) lower_rdBut0 lower_rdBut0) lower_rdBut0
  have r03 : RdBut [(Reg.LAD_VIN, 0, 0), (Reg.TOP_SUPPLY, 0, 0), (Reg.LAD_VAUX, 0, 0), (Reg.LAD_STATUS, 0, 0)] s s3 := r1.mono.trans (r2.mono.trans r3.mono)
  have hc1 : flag s3 Reg.LAD_STATUS F.LAD_STATUS_VIN_CAUSE = false :=
    (flag_setF_apart _ _ _ _ (by decide) (by decide)).trans ((flag_setF_apart _ _ _ _ (by decide) (by decide)).trans (flag_lower _ _ _ (by decide)))
  have hc2 : flag s3 Reg.LAD_STATUS F.LAD_STATUS_VAUX_CAUSE = false :=
    (flag_setF_apart _ _ _ _ (by decide) (by decide)).trans (flag_lower _ _ _ (by decide))
  have hsb : b = s.top.brown := congrArg TopSt.brown (h1.top_eq rfl)
  have hcond : s1.top.state = .brownout ∧ vinOk = true ∧ supRecovered s1 .vaux vaux = true ∧ s1.top.dis = [] := by
    rw [h1.top_eq rfl, supRecovered_of_active (h1.active_eq rfl)]
    refine ⟨hb, ?_, hx, hd⟩
    show (_ || supRecovered s1 .vin vin) = true
    rw [supRecovered_of_active (h1.active_eq rfl), hv, Bool.or_true]
  rw [if_pos hcond, if_neg (by rw [hsb, hf, hl]; simp), if_neg (by rwa [hsb])]
  clear_value s1 s2 s3
  have r04 : RdBut [(Reg.LAD_VIN, 0, 0), (Reg.TOP_SUPPLY, 0, 0), (Reg.LAD_VAUX, 0, 0), (Reg.LAD_STATUS, 0, 0)] s sb := r03.trans (.of_regs rfl)
  have hh : haltCauses sb = haltCauses s := haltCauses_congr r04 (by
    show (s3.top.hChan, s3.top.hActiveUe, s3.top.hClock, s3.top.hAon) = _
    rw [htop]
    rfl)
  have h5 : s5.top = { sb.top with state := if haltCauses sb != 0 then .halt else if sb.img.applied then .loaded else .decaf } := enterState_top _
  have r5 : RdBut _ sb s5 := resetInto_rdBut
  have hauto : flag s5 Reg.TOP_START_CFG F.TOP_START_CFG_AUTO = false := by rw [r5.flag_eq, r04.flag_eq, ha]
  rw [if_neg (by rw [hauto]; simp)]
  refine ⟨s5, rfl, ?_, ?_, ?_, by rw [h5]⟩
  · rw [h5, hh]
    show (if _ then _ else if s3.img.applied then _ else _) = _
    rw [himg]
  · rw [r5.flag_eq]
    exact hc1
  · rw [r5.flag_eq]
    exact hc2

end

/-- Settles O33, clause by clause: the reports of the ladder, then the entry of BROWNOUT and its end. -/
theorem supplyLadderResults : Obligations.SupplyLadderResults := by
  unfold Obligations.SupplyLadderResults
  exact ⟨⟨fun sup mv ago s _ => supplyWarning_results sup mv ago s, warningClear_results, vinHighAlarm_results, vinHiClear_results, vholdExhausted_results,
    vholdLow_results, resetThresholdGlitch_results⟩, brownoutEntry_results, fun vin vaux s _ => brownoutExit_results vin vaux s⟩

end Sys2Proof.Machine
end

section
/-! PROOF. Reset requests of every level (O22). -/

namespace Sys2Proof.Machine
open Host
set_option Elab.async false

theorem commitEntry_rdBut {s mask mode result tick unaligned} : RdBut [(Reg.REC_EVENT, 0, 0), (Reg.REC_ARB_DROP 0, 0, 0), (Reg.REC_ARB_DROP 1, 0,
    0), (Reg.REC_ARB_DROP 2, 0, 0), (Reg.TOP_DRAIN_CNT 8, 0, 0), (Reg.TOP_DRAIN_STATUS, 0, 0)] s (commitEntry s mask mode result tick unaligned) :=
    by
  unfold commitEntry
  exact record_rdBut.mono

theorem commitResult_rdBut {s r} : RdBut [(Reg.TOP_COMMIT_STATUS, 0, 0)] s (commitResult s r) := by
  unfold commitResult
  exact (setF_rdBut0 (off := Reg.TOP_COMMIT_STATUS)).mono

theorem cancelMask_rdBut {s m} : RdBut [(Reg.REC_EVENT, 0, 0), (Reg.REC_ARB_DROP 0, 0, 0), (Reg.REC_ARB_DROP 1, 0, 0), (Reg.REC_ARB_DROP 2, 0, 0),
    (Reg.TOP_DRAIN_CNT 8, 0, 0), (Reg.TOP_DRAIN_STATUS, 0, 0), (Reg.SEC_IMG_STATUS, 0, 0), (Reg.SEC_IMG_FAIL_INFO, 0, 0), (Reg.TOP_COMMIT_STATUS,
    0, 0)] s (cancelMask s m) := by
  unfold cancelMask
  exact .ite .refl
    (.trans (.of_evolves (W := { top := true }) .set_top)
       (.trans (.forEach fun _ _ => commitEntry_rdBut.mono)
          (.trans (.ite (.trans commitEntry_rdBut.mono loadEnd_rdBut.mono) .refl) (.trans commitResult_rdBut.mono pendRefresh_rdBut.mono))))

theorem domCancel_rdBut {s} : RdBut [(Reg.REC_EVENT, 0, 0), (Reg.REC_ARB_DROP 0, 0, 0), (Reg.REC_ARB_DROP 1, 0, 0), (Reg.REC_ARB_DROP 2, 0, 0),
    (Reg.TOP_DRAIN_CNT 8, 0, 0), (Reg.TOP_DRAIN_STATUS, 0, 0)] s (domCancel s) := by
  unfold domCancel
  exact .trans ((.of_evolves setDom_evolves)) (.forEach fun _ _ => commitEntry_rdBut.mono)

theorem cancelAllCommits_rdBut {s} : RdBut [(Reg.REC_EVENT, 0, 0), (Reg.REC_ARB_DROP 0, 0, 0), (Reg.REC_ARB_DROP 1, 0, 0), (Reg.REC_ARB_DROP 2, 0,
    0), (Reg.TOP_DRAIN_CNT 8, 0, 0), (Reg.TOP_DRAIN_STATUS, 0, 0), (Reg.SEC_IMG_STATUS, 0, 0), (Reg.SEC_IMG_FAIL_INFO, 0, 0),
    (Reg.TOP_COMMIT_STATUS, 0, 0)] s (cancelAllCommits s) := by
  unfold cancelAllCommits
  exact cancelMask_rdBut.mono

theorem rstEntry_rdBut {s level result} : RdBut [(Reg.REC_EVENT, 0, 0), (Reg.REC_ARB_DROP 0, 0, 0), (Reg.REC_ARB_DROP 1, 0, 0), (Reg.REC_ARB_DROP
    2, 0, 0), (Reg.TOP_DRAIN_CNT 8, 0, 0), (Reg.TOP_DRAIN_STATUS, 0, 0)] s (rstEntry s level result) := by
  unfold rstEntry
  exact record_rdBut.mono

/-! ## A reset request that passes the checks -/

theorem row_of_admits {who : Initiator} {level : Nat} (h : admits s who Reg.TOP_RST_CTL (level + 256 * 0x5A) = true) :
    rstRow s who level 0x5A = resetRequest { s with resp := .none } (who == .smbus) level 0x5A := gated_of_admits _ _ _ _ _ h

theorem rstJudge_setLast {level l : Nat} : rstJudge (setF s Reg.TOP_RST_STATUS F.TOP_RST_STATUS_LAST_LEVEL l) level = rstJudge s level := by
  unfold rstJudge
  rw [haltCauses_congr (F := [(Reg.TOP_RST_STATUS, 0, 0)]) (s := s) setF_rdBut0 rfl]
  rfl

theorem rstJudge_of_state (h : s.top.state = .decaf ∨ s.top.state = .loaded ∨ s.top.state = .ramp ∨ s.top.state = .run) {level : Nat} :
    rstJudge s level = if level = 3 ∧ s.top.state ≠ .decaf ∧ s.top.state ≠ .loaded then some 4 else if level = 2 ∧ !s.img.applied then some 6 else none := by
  have h1 : ¬ (s.top.state = .brownout ∨ s.top.state = .off) := by rcases h with h | h | h | h <;> rw [h] <;> decide
  have h2 : s.top.state ≠ .halt := by rcases h with h | h | h | h <;> rw [h] <;> decide
  simp [rstJudge, h1, h2]

theorem rstStops_rdBut {level : Nat} : RdBut [(Reg.SEC_FUSE_STATUS, 0, 0), (Reg.SEC_EVENT, 0, 0), (Reg.SEC_IMG_STATUS, 0, 0), (Reg.SEC_IMG_FAIL_INFO, 0, 0),
    (Reg.TOP_COMMIT_STATUS, 0, 0), (Reg.REC_EVENT, 0, 0), (Reg.REC_ARB_DROP 0, 0, 0), (Reg.REC_ARB_DROP 1, 0, 0), (Reg.REC_ARB_DROP 2, 0, 0),
    (Reg.TOP_DRAIN_CNT 8, 0, 0), (Reg.TOP_DRAIN_STATUS, 0, 0)] (rstResult s 1) (rstStops s level) := by
  unfold rstStops
  extract_lets s1 s2
  have h1 : RdBut [(Reg.SEC_FUSE_STATUS, 0, 0), (Reg.SEC_EVENT, 0, 0), (Reg.SEC_IMG_STATUS, 0, 0), (Reg.SEC_IMG_FAIL_INFO, 0, 0),
      (Reg.TOP_COMMIT_STATUS, 0, 0), (Reg.REC_EVENT, 0, 0), (Reg.REC_ARB_DROP 0, 0, 0), (Reg.REC_ARB_DROP 1, 0, 0), (Reg.REC_ARB_DROP 2, 0, 0),
      (Reg.TOP_DRAIN_CNT 8, 0, 0), (Reg.TOP_DRAIN_STATUS, 0, 0)] (rstResult s 1) s1 := fuseAbort_rdBut.mono
  refine h1.trans (.trans (t := s2) (.ite (.trans (t := domCancel (cancelAllCommits s1))
    (.trans (t := cancelAllCommits s1) cancelAllCommits_rdBut.mono domCancel_rdBut.mono) loadAbort_rdBut.mono) .refl) ?_)
  exact .ite (.of_regs rfl) .refl

theorem fld_rstBegin {level : Nat} {smbus : Bool} (f : Fld) :
    fld (rstBegin s level smbus) Reg.TOP_RST_STATUS f = fld (rstResult s 1) Reg.TOP_RST_STATUS f := by
  unfold rstBegin
  extract_lets s1 src s2 src' _
  have h1 : fld s1 Reg.TOP_RST_STATUS f = fld (rstResult s 1) Reg.TOP_RST_STATUS f := rstStops_rdBut.fld_eq f
  have h2 : fld s2 Reg.TOP_RST_STATUS f = fld s1 Reg.TOP_RST_STATUS f := (RdBut.of_regs (F := []) rfl).fld_eq f
  clear_value s2 s1
  split
  · exact (dischargeAll_rdBut.fld_eq f).trans (((RdBut.of_regs (F := []) rfl).fld_eq f).trans (h2.trans h1))
  · exact h2.trans h1

theorem level_rstBegin {level : Nat} {smbus : Bool} : (rstBegin s level smbus).top.rst.map (fun r => r.level) = some level := by
  unfold rstBegin
  extract_lets s1 s2
  split
  · rw [rst_of_topButDis topButDis_dischargeAll]
    rfl
  · rfl

/-- A reset of that level has begun. -/
def ResetBegun (level : Nat) (t : State) : Prop :=
  t.top.rst.map (fun r => r.level) = some level ∧ fld t Reg.TOP_RST_STATUS F.TOP_RST_STATUS_RESULT = 1 ∧ fld t Reg.TOP_RST_STATUS F.TOP_RST_STATUS_LAST_LEVEL = level

/-- A reset request was refused with that result. -/
def ResetRefused (result : Nat) (s t : State) : Prop := fld t Reg.TOP_RST_STATUS F.TOP_RST_STATUS_RESULT = result ∧ t.top = s.top

theorem resetBegun_rstBegin {level : Nat} {smbus : Bool} (h : fld s Reg.TOP_RST_STATUS F.TOP_RST_STATUS_LAST_LEVEL = level) :
    ResetBegun level (rstBegin s level smbus) := by
  refine ⟨level_rstBegin, (fld_rstBegin _).trans (fld_setF_same _ _ _ _ (by decide)), ?_⟩
  rw [fld_rstBegin, ← h]
  exact fld_setF_apart _ Reg.TOP_RST_STATUS F.TOP_RST_STATUS_RESULT F.TOP_RST_STATUS_LAST_LEVEL 1 (by decide) (by decide)

theorem resetRefused_rstRefuse {level result : Nat} (hr : result < 8) : ResetRefused result s (rstRefuse s level result) := by
  unfold rstRefuse
  refine ⟨(rstEntry_rdBut.fld_eq _).trans ((fld_setF_same _ _ _ _ (by decide)).trans (Nat.mod_eq_of_lt (by show result < 2 ^ 4; omega))), ?_⟩
  rw [rstEntry_evolves.top_eq rfl]
  rfl

/-! ## The requests of each level -/

/-- A request outside a reset, in words of the checks. -/
theorem resetRequest_of_idle {smbus : Bool} {level : Nat} (hl : 1 ≤ level ∧ level ≤ 5) (h : s.top.rst = none) :
    resetRequest s smbus level 0x5A = (
      let s1 := setF s Reg.TOP_RST_STATUS F.TOP_RST_STATUS_LAST_LEVEL level
      if 3 ≤ level ∧ restarting s then rstRefuse s1 level 7
      else match rstJudge s level with
        | some c => rstRefuse s1 level c
        | none => rstBegin s1 level smbus) := by
  unfold resetRequest
  extract_lets s1
  rw [if_neg (by omega)]
  have h1 : s1.top.rst = none := h
  rw [h1, ← rstJudge_setLast (s := s) (l := level)]
  rfl

theorem begun_of_admits {who : Initiator} {level : Nat} (hl : 1 ≤ level ∧ level ≤ 5) (ha : admits s who Reg.TOP_RST_CTL (level + 256 * 0x5A) = true)
    (h : s.top.rst = none) (hr : 3 ≤ level → restarting s = false) (hj : rstJudge s level = none) : ResetBegun level (rstRow s who level 0x5A) := by
  rw [row_of_admits ha, resetRequest_of_idle (s := { s with resp := .none }) hl h]
  extract_lets s1
  have hr' : ¬ (3 ≤ level ∧ restarting { s with resp := .none } = true) := fun ⟨h3, h4⟩ => by
    rw [show restarting { s with resp := .none } = restarting s from rfl, hr h3] at h4
    exact absurd h4 (by simp)
  rw [if_neg hr', show rstJudge { s with resp := .none } level = none from hj]
  exact resetBegun_rstBegin ((fld_setF_same _ _ _ _ (by decide)).trans (Nat.mod_eq_of_lt (by show level < 2 ^ 3; omega)))

theorem refused_of_judge {who : Initiator} {level c : Nat} (hl : 1 ≤ level ∧ level ≤ 5) (ha : admits s who Reg.TOP_RST_CTL (level + 256 * 0x5A) = true)
    (h : s.top.rst = none) (hr : 3 ≤ level → restarting s = false) (hj : rstJudge s level = some c) (hc : c < 8) :
    ResetRefused c s (rstRow s who level 0x5A) := by
  rw [row_of_admits ha, resetRequest_of_idle (s := { s with resp := .none }) hl h]
  extract_lets s1
  have hr' : ¬ (3 ≤ level ∧ restarting { s with resp := .none } = true) := fun ⟨h3, h4⟩ => by
    rw [show restarting { s with resp := .none } = restarting s from rfl, hr h3] at h4
    exact absurd h4 (by simp)
  rw [if_neg hr', show rstJudge { s with resp := .none } level = some c from hj]
  exact resetRefused_rstRefuse (s := s1) hc

theorem busy_of_restarting {who : Initiator} {level : Nat} (hl : 3 ≤ level ∧ level ≤ 5) (ha : admits s who Reg.TOP_RST_CTL (level + 256 * 0x5A) = true)
    (h : s.top.rst = none) (hr : restarting s = true) : ResetRefused 7 s (rstRow s who level 0x5A) := by
  rw [row_of_admits ha, resetRequest_of_idle (s := { s with resp := .none }) (by omega) h]
  extract_lets s1
  rw [if_pos ⟨hl.1, hr⟩]
  exact resetRefused_rstRefuse (s := s1) (by decide)

/-- R159: a device reset during another reset than a warm one, not of the same cycle, is busy. -/
theorem busy_of_reset {who : Initiator} {r : ResetSt} (h : s.top.rst = some r) (hl : r.level ≠ 2) (hn : s.tb.running = false ∨ r.from_ ≠ now s)
    (ha : admits s who Reg.TOP_RST_CTL 0x5A01 = true) : ResetRefused 7 s (rstRow s who 1 0x5A) := by
  rw [row_of_admits ha]
  unfold resetRequest
  extract_lets s1
  have hsame : (s1.tb.running && r.from_ == now s1) = false := by
    rcases hn with hn | hn
    · rw [show s1.tb.running = s.tb.running from rfl, hn, Bool.false_and]
    · rw [show now s1 = now s from rfl, beq_false_of_ne hn, Bool.and_false]
  have hrst : s1.top.rst = some r := h
  rw [if_neg (by decide), hrst]
  show ResetRefused 7 s (rstAgain s1 (who == .smbus) 1 r)
  unfold rstAgain
  rw [hsame, if_neg (fun h => hl h.2), if_neg (by simp)]
  exact resetRefused_rstRefuse (s := s1) (by decide)

theorem refused_of_key {who : Initiator} {key : Byte} (hk : key ≠ 0x5A) (ha : admits s who Reg.TOP_RST_CTL (1 + 256 * key.toNat) = true) :
    ResetRefused 3 s (rstRow s who 1 key) := by
  rw [show rstRow s who 1 key = _ from gated_of_admits _ _ _ _ _ ha]
  unfold resetRequest
  extract_lets s1
  rw [if_pos (.inl fun h => hk (BitVec.eq_of_toNat_eq h))]
  exact resetRefused_rstRefuse (s := s1) (by decide)

/-- Settles O22: each request is judged once, and begins its level or is refused with the result of the check. -/
theorem resetRequestResults : Obligations.ResetRequestResults := by
  unfold Obligations.ResetRequestResults
  refine ⟨⟨fun who s ha h hs => ⟨_, rfl, ?_⟩, fun who s ha h hs hi => ⟨_, rfl, ?_⟩, fun who s ha h hr hs => ⟨_, rfl, ?_⟩, fun who s ha h hr => ⟨_, rfl, ?_⟩,
    fun who s ha h hr => ⟨_, rfl, ?_⟩⟩, fun who key s hk ha => ⟨_, rfl, refused_of_key hk ha⟩, fun who s h hr => ⟨fun ha => ⟨_, rfl, ?_⟩, fun ha => ⟨_, rfl, ?_⟩, fun ha => ⟨_, rfl, ?_⟩⟩,
    fun who r s h hl hn ha => ⟨_, rfl, busy_of_reset h hl hn ha⟩, fun who s ha h hr h1 h2 => ⟨_, rfl, ?_⟩, fun who s ha h hs hi => ⟨_, rfl, ?_⟩⟩
  · exact begun_of_admits (by decide) ha h (fun h => absurd h (by decide)) (by simp [rstJudge_of_state hs])
  · exact begun_of_admits (by decide) ha h (fun h => absurd h (by decide)) (by simp [rstJudge_of_state hs, hi])
  · exact begun_of_admits (by decide) ha h (fun _ => hr) (by rcases hs with hs | hs <;> simp [rstJudge, hs])
  · exact begun_of_admits (by decide) ha h (fun _ => hr) (by simp [rstJudge])
  · exact begun_of_admits (by decide) ha h (fun _ => hr) (by simp [rstJudge])
  · exact busy_of_restarting (by decide) ha h hr
  · exact busy_of_restarting (by decide) ha h hr
  · exact busy_of_restarting (by decide) ha h hr
  · exact refused_of_judge (by decide) ha h (fun _ => hr) (by simp [rstJudge, h1, h2]) (by decide)
  · exact refused_of_judge (by decide) ha h (fun h => absurd h (by decide)) (by simp [rstJudge_of_state hs, hi]) (by decide)

end Sys2Proof.Machine
end

section
/-! PROOF. How resets end, and the resets of PCI Express (O23). -/

namespace Sys2Proof.Machine
open Host
set_option Elab.async false

/-! ## The reset in progress -/

/-- The reset in progress. -/
def rstOf (s : State) : Option ResetSt := s.top.rst

theorem rstOf_of {W : Blocks} (h : Evolves W s t) (hW : W.top = false := by rfl) : Shows rstOf s t := by
  unfold Shows rstOf
  rw [h.top_eq hW]

theorem enterState_rstOf {s d} : Shows rstOf s (enterState s d) := by
  unfold enterState
  exact .both .refl
    (.trans (.of_eq (by rfl)) (.trans (.both ((rstOf_of lifeUp_evolves)) (.both ((rstOf_of lifeUp_evolves)) .refl)) ((rstOf_of record_evolves))))

theorem softStart_rstOf {s r} : Shows rstOf s (softStart s r) := by
  unfold softStart
  exact .both .refl
    (.trans ((rstOf_of senHigh_evolves))
       (.trans (.forEach fun _ _ => (rstOf_of setPh_evolves))
          (.trans ((rstOf_of setCh_evolves))
             (.trans (.trans ((rstOf_of allActive_evolves)) ((rstOf_of newPeriod_evolves)))
                (.trans (.forEach fun _ _ => (rstOf_of fabClear_evolves))
                   (.trans ((rstOf_of setCh_evolves)) (.both enterState_rstOf (.both enterState_rstOf .refl))))))))

theorem maybeRun_rstOf {s from_} : Shows rstOf s (maybeRun s from_) := by
  unfold maybeRun
  exact .both (.trans enterState_rstOf ((rstOf_of setF_evolves))) .refl

theorem beginStage_rstOf {s k} : Shows rstOf s (beginStage s k) := by
  unfold beginStage
  extract_lets s1 nxt
  have h : Shows rstOf s s1 := .forEach fun _ _ => softStart_rstOf
  clear_value s1
  exact h

theorem stagesDue_rstOf {n s} : Shows rstOf s (stagesDue n s) := by
  induction n generalizing s with
  | zero => exact .refl
  | succ n ih =>
    unfold stagesDue
    split
    · exact .refl
    · exact .both (beginStage_rstOf.trans ih) .refl

theorem startAdvance_rstOf {s done} : Shows rstOf s (startAdvance s done) := by
  unfold startAdvance
  exact .trans (.both (.of_eq (by rfl)) .refl) (.trans stagesDue_rstOf maybeRun_rstOf)

theorem disDone_rstOf {s byEn} : Shows rstOf s (disDone s byEn) := by
  unfold disDone
  exact .both (.trans (.trans (.of_eq (by rfl)) ((rstOf_of setF_evolves))) (.both enterState_rstOf .refl))
    (.both (.trans (.of_eq (by rfl)) enterState_rstOf) .refl)

theorem disDrop_rstOf {s r} : Shows rstOf s (disDrop s r) := by
  unfold disDrop
  split
  · exact .refl
  · split
    · extract_lets t1 s1
      refine .trans (t := s1) (.of_eq (by rfl)) ?_
      clear_value s1
      split
      · exact disDone_rstOf
      · exact (rstOf_of disHead_evolves)
    · exact .of_eq (by rfl)

theorem discharge_rstOf {s items} : Shows rstOf s (discharge s items) := by
  unfold discharge
  exact .trans
    (.forEach fun _ _ => .both .refl (.trans (.trans ((rstOf_of leaveReg_evolves)) ((rstOf_of phasesMid_evolves))) ((rstOf_of setCh_evolves))))
    (by
       extract_lets
       split
       exacts [.trans (.of_eq (by rfl)) ((rstOf_of disHead_evolves)),
         by
           split
           exacts [.refl,
             .of_eq (by rfl)]])

theorem haltEntry_rstOf {s trip} : Shows rstOf s (haltEntry s trip) := by
  unfold haltEntry
  exact .both .refl
    (.trans ((rstOf_of loadAbort_evolves)) (.trans (.both .refl ((rstOf_of originTrip_evolves))) (.trans (.of_eq (by rfl)) enterState_rstOf)))

theorem dischargeAll_rstOf {s maySwitch limitOnly} : Shows rstOf s (dischargeAll s maySwitch limitOnly) := by
  unfold dischargeAll
  exact discharge_rstOf

theorem haltSwitched_rstOf {s trip} : Shows rstOf s (haltSwitched s trip) := by
  unfold haltSwitched
  exact .trans haltEntry_rstOf dischargeAll_rstOf

theorem latchRail_rstOf {s kind r what} : Shows rstOf s (latchRail s kind r what) := by
  unfold latchRail
  exact .trans ((rstOf_of latchSet_evolves))
    (.trans
       (.both
          (.trans (.both ((rstOf_of leaveReg_evolves)) .refl)
             (.trans ((rstOf_of crowbarOn_evolves)) (.trans ((rstOf_of raise_evolves)) (.trans ((rstOf_of setCh_evolves)) disDrop_rstOf))))
          (.both .refl (.both discharge_rstOf ((rstOf_of setCh_evolves)))))
       (.both (.trans (.both .refl ((rstOf_of originTrip_evolves))) (.trans (.of_eq (by rfl)) haltSwitched_rstOf)) startAdvance_rstOf))

theorem stageFault_rstOf {s p reading} : Shows rstOf s (stageFault s p reading) := by
  unfold stageFault
  exact .both .refl
    (.both
       (.trans ((rstOf_of setPh_evolves))
          (.trans ((rstOf_of raise_evolves))
             (.trans ((rstOf_of raise_evolves))
                (.trans ((rstOf_of stageEntry_evolves)) (.trans (.both ((rstOf_of dripExit_evolves)) .refl) (.both latchRail_rstOf .refl))))))
       (.trans (.trans ((rstOf_of setPh_evolves)) ((rstOf_of raise_evolves))) ((rstOf_of stageEntry_evolves))))

theorem thermalTrip_rstOf {s bit die} : Shows rstOf s (thermalTrip s bit die) := by
  unfold thermalTrip
  exact .trans
    (.both .refl
       (.trans (.trans (.trans ((rstOf_of raise_evolves)) ((rstOf_of protEntry_evolves))) ((rstOf_of lifeUp_evolves)))
          ((rstOf_of originTrip_evolves))))
    (.trans ((rstOf_of raise_evolves)) (.trans ((rstOf_of phasesMid_evolves)) (.trans haltEntry_rstOf dischargeAll_rstOf)))

theorem limitsNow_rstOf {s} : Shows rstOf s (limitsNow s) := by
  unfold limitsNow
  exact .trans (.forEach fun _ _ => .both latchRail_rstOf .refl)
    (.trans (.forEach fun _ _ => .both (.trans ((rstOf_of raise_evolves)) stageFault_rstOf) .refl) (.both thermalTrip_rstOf .refl))

/-! ## The end of a reset -/

/-- Nothing is in progress, and RESULT reads DONE. -/
def ResetEnded (t : State) : Prop := t.top.rst = none ∧ fld t Reg.TOP_RST_STATUS F.TOP_RST_STATUS_RESULT = 2

theorem result_rstDone {level : Nat} {f : Fld} : fld (rstDone s level f) Reg.TOP_RST_STATUS F.TOP_RST_STATUS_RESULT = 2 := by
  unfold rstDone
  exact (rstEntry_rdBut.fld_eq _).trans (fld_setF_same _ _ _ _ (by decide))

theorem top_rstDone {level : Nat} {f : Fld} : (rstDone s level f).top = s.top := rstDone_evolves.top_eq rfl

theorem rst_planesOff : (planesOff s).top.rst = none := by
  unfold planesOff haltReset
  rfl

theorem rst_resetInto {d : DevState} : (resetInto s d).top.rst = s.top.rst := by
  unfold resetInto
  rw [enterState_top]

theorem state_resetInto {d : DevState} : (resetInto s d).top.state = d ∨ (resetInto s d).top.state = .halt := by
  unfold resetInto
  rw [enterState_top]
  show (if _ then _ else _) = _ ∨ (if _ then _ else _) = _
  split
  · exact .inr rfl
  · exact .inl rfl

theorem rst_deviceReset {secOk idOk : Bool} : (deviceReset s secOk idOk).top.rst = none := by
  unfold deviceReset
  extract_lets s1 s2 d1 d2 s3 s4 s5 s6 s7 s8
  have h1 : Shows rstOf s1 s2 := .trans (rstOf_of phasesIdle_evolves) (rstOf_of senLow_evolves)
  have h2 : rstOf s2 = none := h1.eq.trans rst_planesOff
  clear_value s2
  have h3 : rstOf s3 = none := h2
  have h6 : Shows rstOf s3 s6 := .trans (t := s4) (rstOf_of regsDrop_evolves) (.trans (t := s5)
    (.trans (t := liveDrop s4 0x80000 0x140000) (rstOf_of liveDrop_evolves) (rstOf_of liveDrop_evolves)) (.forEach fun _ _ => rstOf_of setPh_evolves))
  have h8 : Shows rstOf s6 s8 := .trans (t := s7) (.trans (t := fuseRead s6) (rstOf_of fuseRead_evolves) (rstOf_of holdReset_evolves))
    (.trans (t := secReboot (roleReset s7) secOk idOk) (.trans (t := roleReset s7) (rstOf_of roleReset_evolves) (rstOf_of secReboot_evolves))
      (rstOf_of sbmClear_evolves))
  rw [rst_resetInto]
  exact (h6.trans h8).eq.trans h3

theorem applied_deviceReset {secOk idOk : Bool} : (deviceReset s secOk idOk).img.applied = false := by
  unfold deviceReset
  extract_lets s1 s2 d1 d2 s3 s4 s5 s6 s7 s8
  have h6 : Evolves { regs := true, ph := true } s3 s6 := .trans (t := s4) regsDrop_evolves.mono (.trans (t := s5)
    (.trans (t := liveDrop s4 0x80000 0x140000) liveDrop_evolves.mono liveDrop_evolves.mono) (.forEach fun _ _ => setPh_evolves.mono))
  have h8 : Evolves { regs := true, active := true, integ := true, drain := true, recd := true, tb := true, dom := true, fwc := true, sec := true, sbm := true } s6 s8 :=
    .trans (t := s7) (.trans (t := fuseRead s6) fuseRead_evolves.mono holdReset_evolves.mono)
    (.trans (t := secReboot (roleReset s7) secOk idOk) (.trans (t := roleReset s7) roleReset_evolves.mono secReboot_evolves.mono)
      sbmClear_evolves.mono)
  rw [resetInto_evolves.img_eq rfl, h8.img_eq rfl, h6.img_eq rfl]

theorem deviceResetEnd_results (secOk idOk : Bool) (r : ResetSt) (s : State) (hr : s.top.rst = some r) (hl : r.level = 1) (ho : allOff s = true) (hd : s.top.dis = []) :
    Runs (.deviceResetEnd secOk idOk) s (fun t => ResetEnded t ∧ (t.top.state = .decaf ∨ t.top.state = .halt) ∧ t.img.applied = false) := by
  refine ⟨rstDone (deviceReset (rstLast s r) secOk idOk) 1 F.TOP_RST_CAUSE_DEVICE, ?_, ⟨?_, result_rstDone⟩, ?_, ?_⟩
  · show execDeviceResetEnd secOk idOk s = _
    unfold execDeviceResetEnd
    rw [hr]
    exact if_pos ⟨hl, ho, hd⟩
  · rw [top_rstDone, rst_deviceReset]
  · rw [top_rstDone, deviceReset]
    exact state_resetInto
  · rw [rstDone_evolves.img_eq rfl, applied_deviceReset]

theorem blocksApply_rstOf : Shows rstOf s (blocksApply s roleReset) := by
  unfold blocksApply
  extract_lets s1 s2 s3 s4 s5 s6 s7 s8
  have h4 : Shows rstOf s s4 := .trans (t := s1) (rstOf_of btApply_evolves) (.trans (t := s2) (rstOf_of roleReset_evolves)
    (.trans (t := s3) (rstOf_of fqApply_evolves) (rstOf_of chanApply_evolves)))
  have h8 : Shows rstOf s4 s8 := .trans (t := s5) (rstOf_of capApply_evolves) (.trans (t := s6) (rstOf_of estApply_evolves)
    (.trans (t := s7) (rstOf_of fabStart_evolves) (rstOf_of lanesApply_evolves)))
  exact h4.trans (h8.trans (.trans (.forEach fun _ _ => rstOf_of cfgAll_evolves) limitsNow_rstOf))

theorem rst_warmReset : (warmReset s).top.rst = none := by
  unfold warmReset
  extract_lets s1 src s2 s3 s4
  have h2 : Shows rstOf (planesOff s) s2 := .trans (t := s1) (rstOf_of regsDrop_evolves) (.trans (t := { s1 with img := { s1.img with slot := 0 } }) (.of_eq rfl)
    (rstOf_of holdReset_evolves))
  have h4 : Shows rstOf s2 s4 := .trans (t := s3) (.forEach fun _ _ => rstOf_of holdBoth_evolves) (.both blocksApply_rstOf .refl)
  rw [rst_resetInto]
  exact (h2.trans (h4.trans (rstOf_of sbmClear_evolves))).eq.trans rst_planesOff

theorem warmResetEnd_results (r : ResetSt) (s : State) (hr : s.top.rst = some r) (hl : r.level = 2) (ho : allOff s = true) (hd : s.top.dis = []) :
    Runs .warmResetEnd s (fun t => ResetEnded t ∧ (t.top.state = .loaded ∨ t.top.state = .halt)) := by
  refine ⟨rstDone (warmReset (rstLast s r)) 2 F.TOP_RST_CAUSE_WARM, ?_, ⟨?_, result_rstDone⟩, ?_⟩
  · show execWarmResetEnd s = _
    unfold execWarmResetEnd
    rw [hr]
    exact if_pos ⟨hl, ho, hd⟩
  · rw [top_rstDone, rst_warmReset]
  · rw [top_rstDone, warmReset]
    exact state_resetInto

/-! ## The end of a plane reset -/

theorem result_planeEnd {l : Nat} : fld (planeEnd s l) Reg.TOP_RST_STATUS F.TOP_RST_STATUS_RESULT = 2 := by
  unfold planeEnd
  split
  · exact result_rstDone
  · split
    · exact result_rstDone
    · exact result_rstDone

theorem result_planeEnds {l : List Nat} (hl : l ≠ []) : fld (forEach l s planeEnd) Reg.TOP_RST_STATUS F.TOP_RST_STATUS_RESULT = 2 := by
  induction l generalizing s with
  | nil => exact absurd rfl hl
  | cons x l ih =>
    rw [forEach_cons]
    by_cases h : l = []
    · rw [h, forEach_nil]
      exact result_planeEnd
    · exact ih h

theorem top_planeEnds {l : List Nat} : (forEach l s planeEnd).top = s.top :=
  (Evolves.forEach (W := .allBut { top := true, active := true, clk := true, quad := true, integ := true, sec := true, jtag := true, pending := true, resp := true, freeCtr := true })
    fun _ _ => planeEnd_evolves.mono).top_eq rfl

theorem planeResetEnd_results (r : ResetSt) (s : State) (hr : s.top.rst = some r) (hl : 3 ≤ r.level) :
    Runs .planeResetEnd s (fun t => (r.flashWait = false ∨ 5 ∉ r.level :: r.also → ResetEnded t)
      ∧ (r.flashWait = true → 5 ∈ r.level :: r.also → t.top.rst = some { r with level := 5, also := [] })) := by
  show ∃ t, execPlaneResetEnd s = .next t ∧ _
  unfold execPlaneResetEnd
  rw [hr]
  simp only [List.partition_eq_filter_filter]
  rw [if_neg (by omega)]
  refine ⟨_, rfl, fun h => ⟨?_, ?_⟩, fun hf h5 => ?_⟩
  · rw [top_planeEnds]
    refine if_pos (List.filter_eq_nil_iff.2 fun x hx => ?_)
    rcases h with h | h
    · simp [h]
    · simp [show x ≠ 5 from fun he => h (he ▸ hx)]
  · refine result_planeEnds fun he => ?_
    have := List.filter_eq_nil_iff.1 he r.level (by simp)
    rcases h with h | h
    · simp [h] at this
    · simp [show r.level ≠ 5 from fun he => h (by simp [he])] at this
  · rw [top_planeEnds]
    exact if_neg fun he => by simpa [hf] using List.filter_eq_nil_iff.1 he 5 h5

/-! ## The discharge limit -/

theorem chOf_setCh (c d : Nat) (f : ChSt → ChSt) : chOf (setCh s c f) d = if c = d then f (chOf s c) else chOf s d := tabGet_tabSet _ _ _ _ _

theorem chOf_of_ch (h : t.ch = s.ch) (c : Nat) : chOf t c = chOf s c := by
  unfold chOf
  rw [h]

theorem running_of_ch (h : t.ch = s.ch) (r : Nat) : running t r = running s r := by
  unfold running railState
  rw [chOf_of_ch h]

/-- A rail switched off runs no more, and every other rail as before. -/
theorem running_railOff (r q : Nat) : running (railOff s r) q = (if r = q then false else running s q) := by
  unfold railOff
  extract_lets s1 s2 s3
  have h13 : Evolves { ph := true, quad := true, regs := true, sbm := true } s s3 := .trans (t := s1) phasesIdle_evolves.mono (.trans (t := s2) senLow_evolves.mono
    (.ite (.trans (t := pmRefresh s2) pmRefresh_evolves.mono lower_evolves.mono) .refl))
  have h3 : s3.ch = s.ch := h13.ch_eq rfl
  clear_value s3
  unfold running railState
  rw [chOf_setCh, chOf_of_ch h3, chOf_of_ch h3]
  by_cases h : r = q
  · rw [if_pos h, if_pos h]
    by_cases hl : railLatched s3 r = true <;> simp [hl]
  · rw [if_neg h, if_neg h]

theorem running_sweep {l : List Nat} {q : Nat} (h : running s q = true → q ∈ l) :
    running (forEach l s fun s r => raise (railOff s r) (Reg.CH_EVENT r) F.CH_EVENT_DIS_TIMEOUT) q = false := by
  induction l generalizing s with
  | nil => exact Bool.eq_false_iff.2 fun hr => by simpa using h hr
  | cons x l ih =>
    rw [forEach_cons]
    refine ih fun hr => ?_
    have he : running (raise (railOff s x) (Reg.CH_EVENT x) F.CH_EVENT_DIS_TIMEOUT) q = running (railOff s x) q := running_of_ch rfl q
    rw [he, running_railOff] at hr
    by_cases hx : x = q
    · simp [hx] at hr
    · rw [if_neg hx] at hr
      exact (List.mem_cons.1 (h hr)).resolve_left fun he => hx he.symm

theorem dis_disDone {b : Bool} : (disDone s b).top.dis = s.top.dis := by
  unfold disDone
  split
  · extract_lets s1
    split
    · rw [enterState_top]
      rfl
    · rfl
  · split
    · rw [enterState_top]
    · rfl

theorem dischargeLimit_results (d : DisItem) (l : List DisItem) (s : State) (h : s.top.dis = d :: l) :
    Runs .dischargeLimitExpiry s (fun t => t.top.dis = [] ∧ ∀ x ∈ d :: l, running t x.rail = false) := by
  show ∃ t, execDischargeLimitExpiry s = .next t ∧ _
  unfold execDischargeLimitExpiry
  split
  next he => rw [h] at he; cases he
  rename_i l' _
  extract_lets s1 rs src s2 s3 s4
  have h3d : s3.top.dis = [] := (Evolves.forEach (W := { regs := true, ch := true, ph := true, quad := true, sbm := true }) (f := fun s r =>
    raise (railOff s r) (Reg.CH_EVENT r) F.CH_EVENT_DIS_TIMEOUT) (l := rs) (s := s2) fun t r =>
      .trans (t := railOff t r) railOff_evolves raise_evolves.mono).top_eq rfl ▸ rfl
  have h3r (x : DisItem) (hx : x ∈ s.top.dis) : running s3 x.rail = false :=
    running_sweep fun hr => List.mem_filter.2 ⟨List.mem_map.2 ⟨x, hx, rfl⟩, (running_of_ch (s := s1) rfl _).symm.trans hr⟩
  have h4 : Evolves { regs := true, drain := true, recd := true } s3 s4 := record_evolves
  clear_value s3 s4
  refine ⟨_, rfl, ?_, fun x hx => ?_⟩
  · rw [dis_disDone, h4.top_eq rfl, h3d]
  · rw [running_of_ch (disDone_evolves.ch_eq rfl), running_of_ch (h4.ch_eq rfl), h3r x (h ▸ hx)]

/-! ## The resets of PCI Express -/

/-- The device state, the channels, the phases, the time base and the active copies go on. -/
def GoesOn (s t : State) : Prop := t.top.state = s.top.state ∧ t.ch = s.ch ∧ t.ph = s.ph ∧ t.tb = s.tb ∧ t.active = s.active

theorem GoesOn.of_evolves (h : Evolves { regs := true, hir := true } s t) : GoesOn s t :=
  ⟨congrArg TopSt.state (h.top_eq rfl), h.ch_eq rfl, h.ph_eq rfl, h.tb_eq rfl, h.active_eq rfl⟩

theorem owner_hostStop {err : Nat} : rd (hostStop s err) Reg.TOP_COMMIT_OWNER = 0 := rd_wr_same _ _ _

theorem owner_hostCleared {err : Nat} {f : HirSt → HirSt} : rd (setHir (vectorsClear (hostStop s err)) f) Reg.TOP_COMMIT_OWNER = 0 := by
  have h : Evolves { hir := true } (hostStop s err) (setHir (vectorsClear (hostStop s err)) f) :=
    .trans (t := vectorsClear (hostStop s err)) vectorsClear_evolves setHir_evolves
  rw [rd_of_regs (h.regs_eq rfl), owner_hostStop]

theorem perst_results (s : State) (hp : s.top.porHeld = false) :
    Runs .pciePerst s (fun t => t.top.pcieUp = false ∧ rd t Reg.TOP_COMMIT_OWNER = 0 ∧ flag t Reg.TOP_RST_CAUSE F.TOP_RST_CAUSE_PERST = true ∧ GoesOn s t) := by
  show ∃ t, execPciePerst s = .next t ∧ _
  unfold execPciePerst
  rw [if_neg (by simp [hp])]
  extract_lets src s1 s2
  have h1 : Evolves { regs := true, hir := true } { s with top := { s.top with perstLow := true, pcieUp := false } } s1 := hostStop_evolves
  have h2 : Evolves { hir := true } s1 s2 := .trans (t := vectorsClear s1) vectorsClear_evolves setHir_evolves
  have ho : rd s1 Reg.TOP_COMMIT_OWNER = 0 := owner_hostStop
  clear_value s1 s2
  have hg : GoesOn _ s2 := GoesOn.of_evolves (h1.trans h2.mono)
  refine ⟨_, rfl, ?_, ?_, flag_raise _ _ _ (by decide), hg⟩
  · rw [raise_evolves.top_eq rfl, h2.top_eq rfl, h1.top_eq rfl]
  · have h3 : RdBut [(Reg.TOP_RST_CAUSE, 0, 0)] s2 (raise s2 Reg.TOP_RST_CAUSE F.TOP_RST_CAUSE_PERST) := raise_rdBut0
    rw [h3.rd_eq, rd_of_regs (h2.regs_eq rfl), ho]

theorem hotReset_results (s : State) (hp : s.top.pcieUp = true) :
    Runs .hotReset s (fun t => rd t Reg.TOP_COMMIT_OWNER = 0 ∧ t.hir.vfs = 0 ∧ t.hir.unmask = [] ∧ GoesOn s t) := by
  have h : Evolves { regs := true, hir := true } s (setHir (vectorsClear (hostStop s 0)) (fun h => { h with vfs := 0 })) :=
    .trans (t := hostStop s 0) hostStop_evolves (.trans (t := vectorsClear (hostStop s 0)) vectorsClear_evolves.mono setHir_evolves.mono)
  exact ⟨_, if_pos hp, owner_hostCleared, rfl, rfl, .of_evolves h⟩

theorem flrFunction0_results (s : State) (hp : s.top.pcieUp = true) (hf : fnHere s 0 = true) :
    Runs (.flr 0) s (fun t => rd t Reg.TOP_COMMIT_OWNER = 0 ∧ t.hir.unmask = [] ∧ GoesOn s t) := by
  have h : Evolves { regs := true, hir := true } s (setHir (vectorsClear (hostStop s 4)) (fun h => { h with vfs := 0 })) :=
    .trans (t := hostStop s 4) hostStop_evolves (.trans (t := vectorsClear (hostStop s 4)) vectorsClear_evolves.mono setHir_evolves.mono)
  refine ⟨setHir (vectorsClear (hostStop s 4)) (fun h => { h with vfs := 0 }), ?_, owner_hostCleared, rfl, .of_evolves h⟩
  show execFlr 0 s = _
  unfold execFlr
  extract_lets f
  rw [if_neg (by simp [hp, show fnHere s f = true from hf])]
  exact if_pos (show f = 0 from rfl)

theorem fnStop_rdBut {f err : Nat} : RdBut [(Reg.HIR_PART_FUNC 0, 4, 32)] s (fnStop s f err) := by
  unfold fnStop
  extract_lets s1
  have h1 : RdBut [(Reg.HIR_PART_FUNC 0, 4, 32)] s s1 := .forEach fun _ _ => .of_evolves ringStop_evolves
  exact h1.trans (.forEach_mem fun t p hp => wr_rdButN (List.mem_range.1 (List.mem_filter.1 hp).1))

theorem flrOther_results (fn : Fin 64) (s : State) (hn : fn ≠ 0) (hp : s.top.pcieUp = true) (hf : fnHere s fn.val = true) :
    Runs (.flr fn) s (fun t => (∀ p ∈ t.hir.unmask, p.1 ≠ fn.val) ∧ rd t Reg.TOP_COMMIT_OWNER = rd s Reg.TOP_COMMIT_OWNER ∧ GoesOn s t) := by
  have h : Evolves { regs := true, hir := true } s (setHir (fnStop s fn.val 4) (fun h => { h with unmask := tabErase h.unmask fn.val, pba := tabErase h.pba fn.val })) :=
    .trans (t := fnStop s fn.val 4) fnStop_evolves setHir_evolves.mono
  refine ⟨setHir (fnStop s fn.val 4) (fun h => { h with unmask := tabErase h.unmask fn.val, pba := tabErase h.pba fn.val }), ?_, fun p hm => ?_,
    (fnStop_rdBut (f := fn.val) (err := 4)).rd_eq, .of_evolves h⟩
  · show execFlr fn s = _
    unfold execFlr
    extract_lets f
    rw [if_neg (by simp [hp, show fnHere s f = true from hf])]
    exact if_neg fun he => hn (Fin.ext he)
  · have := (List.mem_filter.1 hm).2
    simpa using this

/-- R159: a management-plane reset that waited takes effect; nothing but the reset in progress changes. -/
theorem mgmtResetTakeEffect_results (r : ResetSt) (s : State) (hr : s.top.rst = some r) (h5 : 5 ∈ r.level :: r.also) (hf : r.flashWait = true)
    (hw : mgmtWaits s = false) : Runs .mgmtResetTakeEffect s (fun t => t.top.rst = some { r with flashWait := false } ∧ t = { s with top := t.top }) := by
  refine ⟨{ s with top := { s.top with rst := some { r with flashWait := false } } }, ?_, rfl, rfl⟩
  show execMgmtResetTakeEffect s = _
  unfold execMgmtResetTakeEffect
  rw [hr]
  exact if_pos ⟨by simpa using h5, hf, by simp [hw]⟩

/-- Settles O23: each end writes DONE last, after a reset that leaves none in progress; PCI Express resets touch registers and host rings alone. -/
theorem resetEndAndPcieResults : Obligations.ResetEndAndPcieResults := by
  unfold Obligations.ResetEndAndPcieResults
  exact ⟨⟨mgmtResetTakeEffect_results, deviceResetEnd_results, warmResetEnd_results, planeResetEnd_results, dischargeLimit_results⟩,
    perst_results, hotReset_results, flrFunction0_results, flrOther_results⟩

end Sys2Proof.Machine
end

section
/-! PROOF. The site numbering that the cells of a Postbox site rest on (O34). -/

namespace Sys2Proof.Machine
open Host
set_option Elab.async false

/-- Die 1 armed, with its site 0 present and its core domain on. -/
def siteOneArmed : State :=
  setSite (setPort {} 1 (fun x => { x with armed := true, site := [(0, 2 ^ 13)] })) 1 0 (fun x => { x with coreOn := true })

/-- What a droop crossing of site 0 of die 1 leaves there: site 64 of die 0, a number no die has, reads the same cell. -/
theorem droop_siteOneArmed : (portOf siteOneArmed 1).armed = true ∧ (siteOf siteOneArmed 1 0).coreOn = true ∧ sitePresent siteOneArmed 1 0 = true
    ∧ siteDis siteOneArmed 1 0 = false ∧ 0 < siteThr siteOneArmed 1 0 ∧ (siteOf siteOneArmed 0 64).drp = false
    ∧ (match execSiteDroopCrossing 1 0 0 siteOneArmed with
      | .next t => (siteOf t 0 64).drp
      | _ => false) = true := by
  decide +kernel

/-- Refutes O34: it says of every pair of numbers but the site's own that the site there is left alone, and of die 0 the number 64, beyond its sites,
names the cell of site 0 of die 1. -/
theorem not_siteAndPortCellResults : ¬ Obligations.SiteAndPortCellResults := by
  unfold Obligations.SiteAndPortCellResults
  rintro ⟨⟨-, h, -⟩, -⟩
  obtain ⟨t, ht, -, hlow⟩ := h 1 0 0 siteOneArmed
  obtain ⟨ha, hc, hp, hd, hv, hbefore, hafter⟩ := droop_siteOneArmed
  obtain ⟨-, -, -, -, -, -, -, hother⟩ := hlow ⟨ha, hc, hp, hd, hv⟩
  have ht' : execSiteDroopCrossing 1 0 0 siteOneArmed = .next t := ht
  rw [ht'] at hafter
  have hset : (siteOf t 0 64).drp = true := hafter
  rw [hother 0 64 (by decide), hbefore] at hset
  cases hset

end Sys2Proof.Machine
end

section
/-! PROOF. The cells of the state's tables: what a read of one returns after a write to one, and the blocks that hold them. -/

namespace Sys2Proof.Machine
open Host
set_option Elab.async false

section
variable {s t : State}

theorem quadOf_setQuad (i j : Nat) (f : QuadSt → QuadSt) : quadOf (setQuad s i f) j = if i = j then f (quadOf s i) else quadOf s j := tabGet_tabSet _ _ _ _ _

theorem dieOf_setDie (i j : Nat) (f : DieSt → DieSt) : dieOf (setDie s i f) j = if i = j then f (dieOf s i) else dieOf s j := tabGet_tabSet _ _ _ _ _

theorem dieOf_of_pb (h : t.pb = s.pb) (i : Nat) : dieOf t i = dieOf s i := by
  unfold dieOf
  rw [h]

theorem portOf_setPort (i j : Nat) (f : PortSt → PortSt) : portOf (setPort s i f) j = if i = j then f (portOf s i) else portOf s j := tabGet_tabSet _ _ _ _ _

theorem boostOf_setBoost (i j : Nat) (f : BoostSt → BoostSt) : boostOf (setBoost s i f) j = if i = j then f (boostOf s i) else boostOf s j := tabGet_tabSet _ _ _ _ _

theorem boostOf_of_pb (h : t.pb = s.pb) (i : Nat) : boostOf t i = boostOf s i := by
  unfold boostOf
  rw [h]

theorem partOf_setPart (i j : Nat) (f : PartPbSt → PartPbSt) : partOf (setPart s i f) j = if i = j then f (partOf s i) else partOf s j := tabGet_tabSet _ _ _ _ _

theorem partOf_of_pb (h : t.pb = s.pb) (i : Nat) : partOf t i = partOf s i := by
  unfold partOf
  rw [h]

theorem queueOf_setQueue (i j : Nat) (f : QueueSt → QueueSt) : queueOf (setQueue s i f) j = if i = j then f (queueOf s i) else queueOf s j := tabGet_tabSet _ _ _ _ _

theorem balOf_setBal (i j : Nat) (f : BalSt → BalSt) : balOf (setBal s i f) j = if i = j then f (balOf s i) else balOf s j := tabGet_tabSet _ _ _ _ _

theorem balOf_of_fq (h : t.fq = s.fq) (i : Nat) : balOf t i = balOf s i := by
  unfold balOf
  rw [h]

theorem mbxOf_setMbx (i j : Nat) (f : MbxSt → MbxSt) : mbxOf (setMbx s i f) j = if i = j then f (mbxOf s i) else mbxOf s j := tabGet_tabSet _ _ _ _ _

theorem mbxOf_of_fwc (h : t.fwc = s.fwc) (i : Nat) : mbxOf t i = mbxOf s i := by
  unfold mbxOf
  rw [h]

theorem laneOf_setLane (i j : Nat) (f : LaneSt → LaneSt) : laneOf (setLane s i f) j = if i = j then f (laneOf s i) else laneOf s j := tabGet_tabSet _ _ _ _ _

theorem laneOf_of_tvl (h : t.tvl = s.tvl) (i : Nat) : laneOf t i = laneOf s i := by
  unfold laneOf
  rw [h]

theorem dlqOf_setDlq (i j : Nat) (f : DlqSt → DlqSt) : dlqOf (setDlq s i f) j = if i = j then f (dlqOf s i) else dlqOf s j := tabGet_tabSet _ _ _ _ _

theorem dlqOf_of_tvl (h : t.tvl = s.tvl) (i : Nat) : dlqOf t i = dlqOf s i := by
  unfold dlqOf
  rw [h]

theorem regionOf_setRegion (i j : Nat) (f : RegionSt → RegionSt) : regionOf (setRegion s i f) j = if i = j then f (regionOf s i) else regionOf s j := tabGet_tabSet _ _ _ _ _

theorem regionOf_of_est (h : t.est = s.est) (i : Nat) : regionOf t i = regionOf s i := by
  unfold regionOf
  rw [h]

theorem capOf_setCap (i j : Nat) (f : CapPart → CapPart) : capOf (setCap s i f) j = if i = j then f (capOf s i) else capOf s j := tabGet_tabSet _ _ _ _ _

theorem capOf_of_cap (h : t.cap = s.cap) (i : Nat) : capOf t i = capOf s i := by
  unfold capOf
  rw [h]

theorem ringOf_setRing (i j : Nat) (f : RingSt → RingSt) : ringOf (setRing s i f) j = if i = j then f (ringOf s i) else ringOf s j := tabGet_tabSet _ _ _ _ _

theorem ringOf_of_hir (h : t.hir = s.hir) (i : Nat) : ringOf t i = ringOf s i := by
  unfold ringOf
  rw [h]

theorem pageOf_setPage (i j : Nat) (f : PageSt → PageSt) : pageOf (setPage s i f) j = if i = j then f (pageOf s i) else pageOf s j := tabGet_tabSet _ _ _ _ _

theorem calOf_setCal (i j : Nat) (f : CalSt → CalSt) : calOf (setCal s i f) j = if i = j then f (calOf s i) else calOf s j := tabGet_tabSet _ _ _ _ _

theorem calOf_of_est (h : t.est = s.est) (i : Nat) : calOf t i = calOf s i := by
  unfold calOf
  rw [h]

/-- Sites of different dies have different cells: a die has 64 of them. -/
theorem siteOf_setSite (d n d' n' : Nat) (f : SiteSt → SiteSt) :
    siteOf (setSite s d n f) d' n' = if 64 * d + n = 64 * d' + n' then f (siteOf s d n) else siteOf s d' n' := tabGet_tabSet _ _ _ _ _

theorem siteOf_setSite_same (d n : Nat) (f : SiteSt → SiteSt) : siteOf (setSite s d n f) d n = f (siteOf s d n) := by
  rw [siteOf_setSite, if_pos rfl]

theorem siteOf_of_pb (h : t.pb = s.pb) (d n : Nat) : siteOf t d n = siteOf s d n := by
  unfold siteOf
  rw [h]

theorem coreOf_of_fwc (h : t.fwc = s.fwc) (n : Nat) : coreOf t n = coreOf s n := by
  unfold coreOf
  rw [h]

/-! ## What the applied image alone decides -/

theorem frame_of_img (h : t.img = s.img) (id : Nat) : frame t id = frame s id := congrFun (framesOf_of_img h) id

theorem fr_of_img (h : t.img = s.img) (id off n : Nat) : fr t id off n = fr s id off n := by
  unfold fr
  rw [frame_of_img h]

theorem structured_of_img (h : t.img = s.img) : structured t = structured s := by
  unfold structured
  rw [frame_of_img h]

theorem quadCh_of_img (h : t.img = s.img) (q : Nat) : quadCh t q = quadCh s q := by
  unfold quadCh
  simp only [framesOf_of_img h]

theorem railOf_of_img (h : t.img = s.img) (c : Nat) : railOf t c = railOf s c := by
  unfold railOf
  simp only [framesOf_of_img h]

theorem isRail_of_img (h : t.img = s.img) (c : Nat) : isRail t c = isRail s c := by
  unfold isRail
  simp only [framesOf_of_img h]

theorem dieHere_of_img (h : t.img = s.img) (d : Nat) : dieHere t d = dieHere s d := by
  unfold dieHere
  simp only [framesOf_of_img h]

theorem dieRail_of_img (h : t.img = s.img) (d : Nat) : dieRail t d = dieRail s d := by
  unfold dieRail
  simp only [framesOf_of_img h]

theorem siteHere_of_img (h : t.img = s.img) (d n : Nat) : siteHere t d n = siteHere s d n := by
  unfold siteHere
  simp only [framesOf_of_img h]

theorem partHere_of_img (h : t.img = s.img) (p : Nat) : partHere t p = partHere s p := by
  unfold partHere
  simp only [framesOf_of_img h]

theorem partRail_of_img (h : t.img = s.img) (p : Nat) : partRail t p = partRail s p := by
  unfold partRail
  simp only [framesOf_of_img h]

theorem partDie_of_img (h : t.img = s.img) (p : Nat) : partDie t p = partDie s p := by
  unfold partDie
  simp only [framesOf_of_img h]

theorem ownNode_of_img (h : t.img = s.img) : ownNode t = ownNode s := by
  unfold ownNode
  simp only [framesOf_of_img h]

theorem wideRole_of_img (h : t.img = s.img) (c : Nat) : wideRole t c = wideRole s c := by
  unfold wideRole
  simp only [structured_of_img h, fr_of_img h]

theorem widePos_of_img (h : t.img = s.img) (c : Nat) : widePos t c = widePos s c := by
  unfold widePos
  simp only [fr_of_img h]

theorem inDomain_of_img (h : t.img = s.img) : inDomain t = inDomain s := by
  unfold inDomain
  simp only [structured_of_img h, framesOf_of_img h]

theorem regions_of_img (h : t.img = s.img) : regions t = regions s := by
  unfold regions
  simp only [structured_of_img h, framesOf_of_img h]

theorem rails_of_img (h : t.img = s.img) : rails t = rails s := by
  unfold rails
  exact List.filter_congr fun c _ => isRail_of_img h c

theorem railQuads_of_img (h : t.img = s.img) (r : Nat) : railQuads t r = railQuads s r := by
  unfold railQuads
  simp only [quadCh_of_img h, railOf_of_img h]

theorem railPhases_of_img (h : t.img = s.img) (r : Nat) : railPhases t r = railPhases s r := by
  unfold railPhases
  simp only [railQuads_of_img h]

theorem parts_of_img (h : t.img = s.img) : parts t = parts s := by
  unfold parts
  exact List.filter_congr fun p _ => partHere_of_img h p

theorem dieParts_of_img (h : t.img = s.img) (d : Nat) : dieParts t d = dieParts s d := by
  unfold dieParts
  simp only [parts_of_img h, partDie_of_img h]

theorem railDies_of_img (h : t.img = s.img) (r : Nat) : railDies t r = railDies s r := by
  unfold railDies
  simp only [dieHere_of_img h, dieRail_of_img h]

theorem groupParts_of_img (h : t.img = s.img) (g : Nat) : groupParts t g = groupParts s g := by
  unfold groupParts
  simp only [parts_of_img h, framesOf_of_img h]

end

end Sys2Proof.Machine
end

section
/-! PROOF. The droop path: freeze, boost, gap, stuck wire, minimum capture (O35). -/

namespace Sys2Proof.Machine
open Host
set_option Elab.async false

section
variable {s t u : State}

/-- Registers of an array of n, kept as one finite check. -/
theorem misses_fin {n : Nat} {F : List (Nat × Nat × Nat)} {g : Nat → Nat} (h : ∀ d : Fin n, F.all (misses · (g d.val)) = true) (d : Fin n) :
    F.all (misses · (g d.val)) = true := h d

/-! ## Sweeps that establish a fact -/

/-- A sweep keeps what each of its steps keeps. -/
theorem forEach_keeps {α : Type} {l : List α} {f : State → α → State} {Q : State → Prop} (h : ∀ s x, Q s → Q (f s x)) (hq : Q s) : Q (forEach l s f) := by
  induction l generalizing s with
  | nil => exact hq
  | cons x l ih => exact ih (h s x hq)

/-- A sweep establishes at the end what its step for `k` establishes and its other steps keep. -/
theorem forEach_establishes {α : Type} {l : List α} {f : State → α → State} {k : α} {I Q : State → Prop} (hk : k ∈ l) (hI : ∀ s x, I s → I (f s x))
    (hQ : ∀ s, I s → Q (f s k)) (hkeep : ∀ s x, I s → Q s → Q (f s x)) (h : I s) : Q (forEach l s f) := by
  induction l generalizing s with
  | nil => cases hk
  | cons x l ih =>
    rw [forEach_cons]
    rcases List.mem_cons.1 hk with rfl | hm
    · exact (forEach_keeps (Q := fun s => I s ∧ Q s) (fun s y hs => ⟨hI s y hs.1, hkeep s y hs.1 hs.2⟩) ⟨hI _ _ h, hQ _ h⟩).2
    · exact ih hm (hI _ _ h)

/-! ## The assigned phases of a rail -/

/-- The fault bits of the phases. -/
def faults (s : State) (p : Nat) : Bool := (phOf s p).fault

theorem faults_of_ph (h : t.ph = s.ph) : Shows faults s t := by
  funext p
  unfold faults
  rw [phOf_of_ph h]

theorem faults_setPh {p : Nat} {f : PhSt → PhSt} (hf : ∀ x, (f x).fault = x.fault) : Shows faults s (setPh s p f) := by
  funext q
  unfold faults
  rw [phOf_setPh]
  split
  next h => rw [hf, h]
  next => rfl

theorem assigned_congr {r : Nat} (hi : t.img = s.img) (ha : t.active = s.active) (hf : Shows faults s t) : assigned t r = assigned s r := by
  unfold assigned
  rw [railPhases_of_img hi]
  refine List.filter_congr fun p _ => ?_
  rw [aOn_of_active ha, show (phOf t p).fault = (phOf s p).fault from congrFun hf p]

/-! ## What a boost does to a phase -/

/-- The level of a phase and what holds it there. -/
def drive (s : State) (p : Nat) : PwmLevel × Bool × Bool × Bool := ((phOf s p).level, (phOf s p).crowbar, (phOf s p).widened, (phOf s p).fault)

theorem faults_of_drive (h : Shows drive s t) : Shows faults s t := by
  funext p
  exact congrArg (fun x : PwmLevel × Bool × Bool × Bool => x.2.2.2) (congrFun h p)

theorem level_of_drive (h : Shows drive s t) (p : Nat) : (phOf t p).level = (phOf s p).level := congrArg Prod.fst (congrFun h p)

theorem crowbar_of_drive (h : Shows drive s t) (p : Nat) : (phOf t p).crowbar = (phOf s p).crowbar :=
  congrArg (fun x : PwmLevel × Bool × Bool × Bool => x.2.1) (congrFun h p)

theorem widened_of_drive (h : Shows drive s t) (p : Nat) : (phOf t p).widened = (phOf s p).widened :=
  congrArg (fun x : PwmLevel × Bool × Bool × Bool => x.2.2.1) (congrFun h p)

theorem drive_of_ph (h : t.ph = s.ph) : Shows drive s t := by
  funext p
  unfold drive
  rw [phOf_of_ph h]

theorem drive_setPh {p : Nat} {f : PhSt → PhSt} (h1 : ∀ x, (f x).level = x.level) (h2 : ∀ x, (f x).crowbar = x.crowbar) (h3 : ∀ x, (f x).widened = x.widened)
    (h4 : ∀ x, (f x).fault = x.fault) : Shows drive s (setPh s p f) := by
  funext q
  unfold drive
  rw [phOf_setPh]
  split
  next h => rw [h1, h2, h3, h4, h]
  next => rfl

theorem drive_schedGrow {r : Nat} : Shows drive s (schedGrow s r) := by
  unfold schedGrow
  extract_lets l s1
  exact .both .refl (.trans (t := s1) (drive_of_ph (setCh_evolves.ph_eq rfl)) (.forEach fun _ _ => drive_setPh (fun _ => rfl) (fun _ => rfl) (fun _ => rfl) fun _ => rfl))

theorem drive_allActive {r : Nat} : Shows drive s (allActive s r) := by
  unfold allActive
  extract_lets s1 s2
  exact .trans (t := s1) (.forEach fun _ _ => drive_setPh (fun _ => rfl) (fun _ => rfl) (fun _ => rfl) fun _ => rfl)
    (.trans (t := s2) (.both (drive_of_ph (setCh_evolves.ph_eq rfl)) .refl) drive_schedGrow)

theorem drive_endRemoval {r : Nat} : Shows drive s (endRemoval s r) :=
  .forEach fun _ _ => drive_setPh (fun _ => rfl) (fun _ => rfl) (fun _ => rfl) fun _ => rfl

theorem drive_dripExit {r : Nat} : Shows drive s (dripExit s r) := by
  unfold dripExit
  extract_lets s1 s2
  have h1 : Shows drive s s1 := .trans (t := allActive s r) drive_allActive (drive_of_ph (dripTime_evolves.ph_eq rfl))
  have h2 : Shows drive s1 s2 := drive_of_ph (bump_evolves.ph_eq rfl)
  exact .both .refl (h1.trans (h2.trans (.trans (drive_of_ph (setCh_evolves.ph_eq rfl)) drive_endRemoval)))

/-- Every assigned phase is active after `allActive`. -/
theorem active_schedGrow {r p : Nat} : (phOf (schedGrow s r) p).active = (phOf s p).active := by
  unfold schedGrow
  extract_lets l s1
  have h (t : State) (q : Nat) (f : PhSt → PhSt) (hf : ∀ x, (f x).active = x.active) : Shows (fun s => (phOf s p).active) t (setPh t q f) := by
    show (phOf (setPh t q f) p).active = _
    rw [phOf_setPh]
    split
    next he => rw [hf, he]
    next => rfl
  have h1 : Shows (fun s => (phOf s p).active) s s1 := congrArg PhSt.active (phOf_of_ph (setCh_evolves.ph_eq rfl) p)
  refine Shows.eq (g := fun s => (phOf s p).active) (.both .refl (h1.trans ?_))
  exact .forEach fun t q => h t q _ fun _ => rfl

theorem active_allActive {r p : Nat} (hp : p ∈ assigned s r) : (phOf (allActive s r) p).active = true := by
  unfold allActive
  extract_lets s1 s2
  have h1 : (phOf s1 p).active = true := by
    refine forEach_establishes (I := fun _ => True) (Q := fun s => (phOf s p).active = true) hp (fun _ _ _ => trivial) (fun s _ => ?_) (fun s q _ hq => ?_) trivial
    · rw [phOf_setPh, if_pos rfl]
    · rw [phOf_setPh]
      split
      · rfl
      · exact hq
  have h2 : Evolves { ch := true } s1 s2 := .ite setCh_evolves .refl
  rw [active_schedGrow, phOf_of_ph (h2.ph_eq rfl), h1]

/-! ## The end of a boost -/

/-- R332, R412: a boost that ends leaves its gap running, every assigned phase active and none HIGH. -/
theorem boostStop_results {r t0 : Nat} (h : (boostOf s r).boost = some t0) :
    boosting (boostStop s r) r = false ∧ (boostOf (boostStop s r) r).gapUntil.isSome = true
      ∧ (∀ p ∈ assigned s r, (phOf (boostStop s r) p).active = true)
      ∧ ∀ p ∈ assigned s r, (phOf s p).crowbar = false → (phOf (boostStop s r) p).level ≠ .high := by
  unfold boostStop
  split
  next he => rw [he] at h; cases h
  next t _ =>
    extract_lets gap s1 s2 s3
    have hf1 : Shows faults s s1 := .forEach fun _ _ => faults_setPh fun x => by split <;> rfl
    have hl1 (p : Nat) (hp : p ∈ assigned s r) (hc : (phOf s p).crowbar = false) : (phOf s1 p).level ≠ .high := by
      refine forEach_establishes (I := fun s => (phOf s p).crowbar = false) (Q := fun s => (phOf s p).level ≠ .high) hp (fun s q hi => ?_) (fun s hi => ?_) (fun s q hi hq => ?_) hc
      · rw [phOf_setPh]
        split
        next he => rw [he]; split <;> exact hi
        next => exact hi
      · rw [phOf_setPh, if_pos rfl, hi]
        split
        next hm => simp at hm; rw [hm]; decide
        next => exact (by decide : PwmLevel.low ≠ .high)
      · rw [phOf_setPh]
        split
        next he => rw [he]; split; exacts [hq, (by decide : PwmLevel.low ≠ .high)]
        next => exact hq
    have h1 : Evolves { ph := true } s s1 := .forEach fun _ _ => setPh_evolves
    have hb2 : boostOf s2 r = { boostOf s1 r with boost := none, gapUntil := some (now s1 + gap), lastLen := now s1 - t, settleFrom := if droopFlag s1 r then (boostOf s1 r).settleFrom else some (now s1) } := by
      show boostOf (setBoost _ _ _) r = _
      rw [boostOf_setBoost, if_pos rfl]
    have h2 : Evolves { pb := true } s1 s2 := setBoost_evolves
    have h3 : Evolves { tvl := true } s2 s3 := .ite boostBlocks_evolves .refl
    have h5 : Evolves { ch := true } (allActive s3 r) (restartShed (allActive s3 r) r) := restartShed_evolves
    clear_value s1 s2 s3
    have hb : boostOf (restartShed (allActive s3 r) r) r = boostOf s2 r := by
      refine boostOf_of_pb ?_ r
      rw [h5.pb_eq rfl, allActive_evolves.pb_eq rfl, h3.pb_eq rfl]
    have ha : assigned s3 r = assigned s r := assigned_congr (by rw [h3.img_eq rfl, h2.img_eq rfl, h1.img_eq rfl])
      (by rw [h3.active_eq rfl, h2.active_eq rfl, h1.active_eq rfl]) (hf1.trans ((faults_of_ph (h2.ph_eq rfl)).trans (faults_of_ph (h3.ph_eq rfl))))
    have hd : Shows drive s1 (restartShed (allActive s3 r) r) := .trans (t := s3) ((drive_of_ph (h2.ph_eq rfl)).trans (drive_of_ph (h3.ph_eq rfl)))
      (drive_allActive.trans (drive_of_ph (h5.ph_eq rfl)))
    refine ⟨?_, ?_, fun p hp => ?_, fun p hp hc => ?_⟩
    · rw [boosting, hb, hb2]
      rfl
    · rw [hb, hb2]
      rfl
    · rw [phOf_of_ph (h5.ph_eq rfl)]
      exact active_allActive (ha ▸ hp)
    · rw [level_of_drive hd]
      exact hl1 p hp hc

theorem boostEnd_results (rail : ChIx) (t0 : Nat) (s : State) (h : (boostOf s rail.val).boost = some t0) :
    Runs (.boostEnd rail false) s (fun t => boosting t rail.val = false ∧ (boostOf t rail.val).gapUntil.isSome = true
      ∧ (switching s rail.val = true → ∀ p ∈ assigned s rail.val, (phOf t p).active = true)
      ∧ ∀ p ∈ assigned s rail.val, (phOf s p).crowbar = false → (phOf t p).level ≠ .high) := by
  have h1 : Evolves { tb := true } s (reach s (t0 + aF s (Reg.PB_BOOST rail.val) F.PB_BOOST_BOOST_T * 10)) := reach_evolves
  have ha := assigned_congr (r := rail.val) (h1.img_eq rfl) (h1.active_eq rfl) (faults_of_ph (h1.ph_eq rfl))
  obtain ⟨hb, hg, hact, hlev⟩ := boostStop_results (r := rail.val) (t0 := t0) (by rw [boostOf_of_pb (h1.pb_eq rfl), h])
  rw [ha] at hact hlev
  refine ⟨_, ?_, hb, hg, fun _ => hact, fun p hp hc => hlev p hp (by rw [phOf_of_ph (h1.ph_eq rfl), hc])⟩
  show execBoostEnd rail false s = _
  simp only [execBoostEnd, h, Bool.false_eq_true, if_false, if_true]

theorem boostGapEnd_results (rail : ChIx) (t0 : Nat) (s : State) (h : (boostOf s rail.val).gapUntil = some t0) :
    Runs (.boostGapEnd rail) s (fun t => (boostOf t rail.val).gapUntil = none ∧ (boostOf t rail.val).boost = (boostOf s rail.val).boost) := by
  refine ⟨setBoost (reach s t0) rail.val (fun x => { x with gapUntil := none }), ?_, ?_⟩
  · show execBoostGapEnd rail s = _
    unfold execBoostGapEnd
    rw [h]
  · have hb : boostOf (reach s t0) rail.val = boostOf s rail.val := boostOf_of_pb (reach_evolves.pb_eq rfl) _
    show (boostOf (setBoost _ _ _) _).gapUntil = _ ∧ (boostOf (setBoost _ _ _) _).boost = _
    rw [boostOf_setBoost, if_pos rfl, hb]
    exact ⟨rfl, rfl⟩

/-! ## The freeze of a rail -/

/-- What a boost and a freeze keep of a rail, but for the steps that the freeze defers. -/
def boostNow (s : State) (r : Nat) : Option Nat × Option Nat × Bool × Option Nat :=
  ((boostOf s r).boost, (boostOf s r).gapUntil, (boostOf s r).frozen, (boostOf s r).settleFrom)

theorem boostNow_of_pb (h : t.pb = s.pb) : Shows boostNow s t := by
  funext r
  unfold boostNow
  rw [boostOf_of_pb h]

theorem boostNow_of_rail (h : t.pb.rail = s.pb.rail) : Shows boostNow s t := by
  funext r
  unfold boostNow boostOf
  rw [h]

theorem boostNow_freezeHeld {p : Nat} : Shows boostNow s (freezeHeld s p) := by
  unfold freezeHeld
  extract_lets s1 s2
  refine .both (.trans (t := s1) (boostNow_of_rail rfl) (.trans (t := s2) ?_ (boostNow_of_pb (bump_evolves.pb_eq rfl)))) .refl
  funext r
  show boostNow (setBoost _ _ _) r = _
  unfold boostNow
  rw [boostOf_setBoost]
  split
  next h => rw [h]
  next => rfl

theorem boostNow_holdUpdate {p : Nat} : Shows boostNow s (holdUpdate s p) := by
  unfold holdUpdate
  refine .trans (t := holdFreeze s p) ?_ (boostNow_of_pb (holdCore_evolves.pb_eq rfl))
  unfold holdFreeze
  extract_lets s1
  have h1 : Shows boostNow s s1 := boostNow_freezeHeld
  clear_value s1
  refine h1.trans ?_
  split
  · extract_lets q s2
    have h2 : Evolves { regs := true, cap := true } s1 s2 := reasonTime_evolves
    exact .trans (t := s2) (boostNow_of_pb (h2.pb_eq rfl)) (boostNow_of_pb (setCap_evolves.pb_eq rfl))
  · exact .trans (t := setCap s1 p _) (boostNow_of_pb (setCap_evolves.pb_eq rfl)) (boostNow_of_pb (reasonCount_evolves.pb_eq rfl))
  · exact .refl

theorem boostNow_holdRail {r : Nat} : Shows boostNow s (holdRail s r) := .forEach fun _ _ => boostNow_holdUpdate

theorem frozen_of_boostNow (h : Shows boostNow s t) (r : Nat) : (boostOf t r).frozen = (boostOf s r).frozen :=
  congrArg (fun x : Option Nat × Option Nat × Bool × Option Nat => x.2.2.1) (congrFun h r)

theorem settle_of_boostNow (h : Shows boostNow s t) (r : Nat) : (boostOf t r).settleFrom = (boostOf s r).settleFrom :=
  congrArg (fun x : Option Nat × Option Nat × Bool × Option Nat => x.2.2.2) (congrFun h r)

theorem boost_of_boostNow (h : Shows boostNow s t) (r : Nat) : (boostOf t r).boost = (boostOf s r).boost := congrArg Prod.fst (congrFun h r)

theorem boostNow_sweepPart {l : List Nat} {f : PartPbSt → PartPbSt} : Shows boostNow s (forEach l s fun s p => setPart s p f) :=
  .forEach fun _ _ => boostNow_of_rail rfl

theorem freezeEnd_results (rail : ChIx) (t0 : Nat) (s : State) (hs : (boostOf s rail.val).settleFrom = some t0) (hf : (boostOf s rail.val).frozen = true)
    (hb : boosting s rail.val = false) (hd : droopFlag s rail.val = false) :
    Runs (.freezeEnd rail) s (fun t => (boostOf t rail.val).frozen = false ∧ (boostOf t rail.val).settleFrom = none) := by
  have hn : (boostOf s rail.val).boost = none := by simpa [boosting] using hb
  show ∃ t, execFreezeEnd rail s = .next t ∧ _
  simp only [execFreezeEnd, hs]
  rw [if_pos ⟨hf, hn, by rw [hd]; rfl⟩]
  refine ⟨_, rfl, ?_⟩
  rw [frozen_of_boostNow boostNow_holdRail, settle_of_boostNow boostNow_holdRail, frozen_of_boostNow boostNow_sweepPart, settle_of_boostNow boostNow_sweepPart,
    boostOf_setBoost, if_pos rfl]
  exact ⟨rfl, rfl⟩

/-! ## A wire falls, or stays -/

theorem boostOf_of_rail (h : t.pb.rail = s.pb.rail) (r : Nat) : boostOf t r = boostOf s r := by
  unfold boostOf
  rw [h]

/-- No flag stands on a rail whose only wire is that of a die that is down or stuck. -/
theorem droopFlag_false {r d : Nat} (ho : ∀ e ∈ railDies s r, e ≠ d → (dieOf s e).droop = false) (hd : ((dieOf s d).droop && !(dieOf s d).stuck) = false) :
    droopFlag s r = false := by
  unfold droopFlag
  rw [List.any_eq_false]
  intro e he
  by_cases h : e = d
  · rw [h, hd]
    simp
  · rw [ho e he h]
    simp

theorem dieOf_of_die (h : t.pb.die = s.pb.die) (d : Nat) : dieOf t d = dieOf s d := by
  unfold dieOf
  rw [h]

theorem pbDie_of_pb (h : t.pb = s.pb) : t.pb.die = s.pb.die := congrArg PbSt.die h

theorem pbDie_setBoost {r : Nat} {f : BoostSt → BoostSt} : (setBoost s r f).pb.die = s.pb.die := rfl

theorem pbDie_boostStop {r : Nat} : (boostStop s r).pb.die = s.pb.die := by
  unfold boostStop
  split
  · rfl
  · extract_lets gap s1 s2 s3
    have h1 : Evolves { ph := true } s s1 := .forEach fun _ _ => setPh_evolves
    have h2 : s2.pb.die = s1.pb.die := rfl
    have h3 : Evolves { tvl := true } s2 s3 := .ite boostBlocks_evolves .refl
    clear_value s1 s2 s3
    have h4 : Evolves { ch := true, ph := true } s3 (restartShed (allActive s3 r) r) := .trans (t := allActive s3 r) allActive_evolves restartShed_evolves.mono
    rw [h4.pb_eq rfl, h3.pb_eq rfl, h2, h1.pb_eq rfl]

theorem boosting_boostStop {r : Nat} : boosting (boostStop s r) r = false := by
  cases h : (boostOf s r).boost with
  | none =>
    unfold boostStop
    rw [h]
    simp [boosting, h]
  | some t0 => exact (boostStop_results h).1

theorem droopFlagFall_results (die : DieIx) (s : State) :
    Runs (.droopFlagFall die) s (fun t => (portDroop s die.val = true → t = s)
      ∧ (portDroop s die.val = false → (dieOf t die.val).droop = false ∧ (dieOf t die.val).stuck = false)
      ∧ (portDroop s die.val = false → droopFlag s (dieRail s die.val) = true → (∀ d ∈ railDies s (dieRail s die.val), d ≠ die.val → (dieOf s d).droop = false) →
          boosting s (dieRail s die.val) = false → (boostOf s (dieRail s die.val)).frozen = true → (boostOf t (dieRail s die.val)).settleFrom = some (now t))) := by
  show ∃ t, execDroopFlagFall die s = .next t ∧ _
  unfold execDroopFlagFall
  extract_lets d r was s1 s2
  by_cases hp : portDroop s d = true
  · rw [if_pos hp]
    exact ⟨s, rfl, fun _ => rfl, fun h => (by rw [hp] at h; cases h), fun h => (by rw [hp] at h; cases h)⟩
  · rw [if_neg hp]
    have h1 : Evolves { tb := true } s s1 := .ite reach_evolves .refl
    have hd2 : dieOf s2 d = { dieOf s1 d with droop := false, stuck := false } := by
      show dieOf (setDie _ _ _) d = _
      rw [dieOf_setDie, if_pos rfl]
    have ho2 (e : Nat) (he : e ≠ d) : dieOf s2 e = dieOf s e := by
      show dieOf (setDie _ _ _) e = _
      rw [dieOf_setDie, if_neg (Ne.symm he), dieOf_of_pb (h1.pb_eq rfl)]
    have hb2 : s2.pb.rail = s.pb.rail := congrArg PbSt.rail (a₁ := s1.pb) (h1.pb_eq rfl)
    have hi2 : s2.img = s.img := h1.img_eq rfl
    clear_value s1 s2
    have hset : (dieOf s2 d).droop = false ∧ (dieOf s2 d).stuck = false := by rw [hd2]; exact ⟨rfl, rfl⟩
    by_cases hc : was = true ∧ (!droopFlag s2 r) = true ∧ (!boosting s2 r) = true ∧ (boostOf s2 r).frozen = true
    · rw [if_pos hc]
      refine ⟨_, rfl, fun h => absurd h hp, fun _ => hset, fun _ _ _ _ _ => ?_⟩
      show (boostOf (setBoost _ _ _) _).settleFrom = _
      rw [boostOf_setBoost, if_pos rfl]
      rfl
    · rw [if_neg hc]
      refine ⟨_, rfl, fun h => absurd h hp, fun _ => hset, fun _ hw ho hn hf => absurd ⟨hw, ?_, ?_, ?_⟩ hc⟩
      · rw [droopFlag_false (d := d) (fun e he hne => ?_) (by rw [hset.1]; rfl)]
        · rfl
        · rw [ho2 e hne]
          exact ho e (railDies_of_img hi2 r ▸ he) hne
      · rw [boosting, boostOf_of_rail hb2, show (boostOf s r).boost.isSome = false from hn]
        rfl
      · rw [boostOf_of_rail hb2]
        exact hf

theorem droopStuck_results (die : DieIx) (s : State) (hd : (dieOf s die.val).droop = true) (hs : (dieOf s die.val).stuck = false) :
    Runs (.droopStuck die) s (fun t => (dieOf t die.val).stuck = true ∧ flag t (Reg.PB_DIE_EVENT die.val) F.PB_DIE_EVENT_DROOP_STUCK = true
      ∧ (dieHere s die.val = true → (∀ d ∈ railDies s (dieRail s die.val), d ≠ die.val → (dieOf s d).droop = false) → boosting t (dieRail s die.val) = false)) := by
  show ∃ t, execDroopStuck die s = .next t ∧ _
  unfold execDroopStuck
  extract_lets d r s1 s2 s3 s4
  rw [if_pos ⟨hd, by rw [hs]; rfl⟩]
  have hs1 : (dieOf s1 d).stuck = true := by
    show (dieOf (setDie _ _ _) d).stuck = true
    rw [dieOf_setDie, if_pos rfl]
  have ho1 (e : Nat) (he : e ≠ d) : dieOf s1 e = dieOf s e := by
    show dieOf (setDie _ _ _) e = _
    rw [dieOf_setDie, if_neg (Ne.symm he)]
  have hi1 : s1.img = s.img := rfl
  have h13 : Evolves { regs := true, drain := true, recd := true } s1 s3 := .trans (t := s2) raise_evolves.mono record_evolves
  have hf2 : flag s2 (Reg.PB_DIE_EVENT d) F.PB_DIE_EVENT_DROOP_STUCK = true := flag_raise _ _ _ (by decide)
  have r23 : flag s3 (Reg.PB_DIE_EVENT d) F.PB_DIE_EVENT_DROOP_STUCK = flag s2 (Reg.PB_DIE_EVENT d) F.PB_DIE_EVENT_DROOP_STUCK :=
    record_rdBut.flag_eq _ (misses_fin (g := Reg.PB_DIE_EVENT) (by decide +kernel) die)
  have hs3 : (dieOf s3 d).stuck = true := by rw [dieOf_of_pb (h13.pb_eq rfl), hs1]
  have hf3 : flag s3 (Reg.PB_DIE_EVENT d) F.PB_DIE_EVENT_DROOP_STUCK = true := r23.trans hf2
  have hdh : dieHere s3 d = dieHere s d := (dieHere_of_img (h13.img_eq rfl) d).trans (dieHere_of_img hi1 d)
  have hdf (ho : ∀ e ∈ railDies s r, e ≠ d → (dieOf s e).droop = false) : droopFlag s3 r = false := by
    refine droopFlag_false (d := d) (fun e he hne => ?_) (by rw [hs3]; simp)
    rw [dieOf_of_pb (h13.pb_eq rfl), ho1 e hne]
    refine ho e ?_ hne
    rwa [railDies_of_img ((h13.img_eq rfl).trans hi1)] at he
  have h34 : Evolves { ch := true, ph := true, pb := true, tvl := true } s3 s4 := boostStop_evolves
  have hs4 : (dieOf s4 d).stuck = true := by rw [dieOf_of_die pbDie_boostStop, hs3]
  have hf4 : flag s4 (Reg.PB_DIE_EVENT d) F.PB_DIE_EVENT_DROOP_STUCK = true := (flag_congr (rd_of_regs (h34.regs_eq rfl) _) _).trans hf3
  have hb4 : boosting s4 r = false := boosting_boostStop
  clear_value s1 s2 s3 s4
  split
  · refine ⟨_, rfl, ?_, ?_, fun _ _ => ?_⟩
    · split
      · exact (congrArg DieSt.stuck (dieOf_of_die (s := s4) rfl d)).trans hs4
      · exact hs4
    · split
      · exact hf4
      · exact hf4
    · split
      · show (boostOf (setBoost _ _ _) _).boost.isSome = false
        rw [boostOf_setBoost, if_pos rfl]
        exact hb4
      · exact hb4
  next hc =>
    refine ⟨s3, rfl, hs3, hf3, fun hh ho => absurd ⟨?_, ?_⟩ hc⟩
    · rw [hdh]
      exact hh
    · rw [hdf ho]
      rfl

/-! ## A flag rises -/

/-- The sweep of a starting boost. -/
def driveHigh (s : State) (p : Nat) : State := setPh s p (fun x =>
  if x.crowbar || x.widened then x else { closePeriod x with level := .high, drove := true, edgeAt := now s * 1000 })

theorem level_driveHigh {l : List Nat} {p : Nat} (hp : p ∈ l) (hc : (phOf s p).crowbar = false) (hw : (phOf s p).widened = false) (ha : (phOf s p).active = true) :
    (phOf (forEach l s driveHigh) p).level = .high ∧ (phOf (forEach l s driveHigh) p).active = true := by
  refine forEach_establishes (I := fun s => (phOf s p).crowbar = false ∧ (phOf s p).widened = false ∧ (phOf s p).active = true)
    (Q := fun s => (phOf s p).level = .high ∧ (phOf s p).active = true) hp (fun t q hi => ?_) (fun t hi => ?_) (fun t q hi hq => ?_) ⟨hc, hw, ha⟩
  · rw [driveHigh, phOf_setPh]
    split
    next he => rw [he]; split <;> exact hi
    next => exact hi
  · obtain ⟨hc, hw, ha⟩ := hi
    rw [driveHigh, phOf_setPh, if_pos rfl, hc, hw]
    exact ⟨rfl, ha⟩
  · rw [driveHigh, phOf_setPh]
    split
    next he => rw [he]; split; exacts [hq, ⟨rfl, hq.2⟩]
    next => exact hq

/-- R409, R410: a boost that starts drives every assigned phase HIGH that neither a crowbar nor the loss of its master holds. -/
theorem boostStart_results {r : Nat} : (boostOf (boostStart s r) r).boost = some (now s) ∧ (boostOf (boostStart s r) r).frozen = (boostOf s r).frozen
    ∧ ∀ p ∈ assigned s r, (phOf s p).crowbar = false → (phOf s p).widened = false → (phOf (boostStart s r) p).level = .high ∧ (phOf (boostStart s r) p).active = true := by
  unfold boostStart
  extract_lets s1 s2 s3 s4
  have h1 : Evolves { ch := true, ph := true } s s1 := .trans (t := endRemoval s r) endRemoval_evolves.mono allActive_evolves
  have d1 : Shows drive s s1 := .trans (t := endRemoval s r) drive_endRemoval drive_allActive
  have a0 : assigned (endRemoval s r) r = assigned s r := assigned_congr (endRemoval_evolves.img_eq rfl) (endRemoval_evolves.active_eq rfl) (faults_of_drive drive_endRemoval)
  have a1 : assigned s1 r = assigned s r := assigned_congr (h1.img_eq rfl) (h1.active_eq rfl) (faults_of_drive d1)
  have l1 (p : Nat) (hp : p ∈ assigned s r) : (phOf s1 p).active = true := active_allActive (a0 ▸ hp)
  clear_value s1
  have h2 : Evolves { ph := true } s1 s2 := .forEach fun _ _ => setPh_evolves
  have hhigh (p : Nat) (hp : p ∈ assigned s r) (hc : (phOf s p).crowbar = false) (hw : (phOf s p).widened = false) :
      (phOf s2 p).level = .high ∧ (phOf s2 p).active = true := by
    exact level_driveHigh (by rw [a1]; exact hp) ((crowbar_of_drive d1 p).trans hc) ((widened_of_drive d1 p).trans hw) (l1 p hp)
  have hb3 : boostOf s3 r = { boostOf s2 r with boost := some (now s2), settleFrom := none } := by
    show boostOf (setBoost _ _ _) r = _
    rw [boostOf_setBoost, if_pos rfl, boostOf_of_pb (setCh_evolves.pb_eq rfl)]
  have h3 : Evolves { ch := true, pb := true } s2 s3 := .trans setCh_evolves.mono setBoost_evolves.mono
  have h4 : Evolves { regs := true } s3 s4 := bump_evolves
  clear_value s2 s3 s4
  have h5 : Evolves { tvl := true } s4 (if wideRole s4 r = 1 then boostBlocks s4 r 1 else s4) := .ite boostBlocks_evolves .refl
  have hb : boostOf (if wideRole s4 r = 1 then boostBlocks s4 r 1 else s4) r = boostOf s3 r :=
    boostOf_of_pb ((h5.pb_eq rfl).trans (h4.pb_eq rfl)) r
  have hph (p : Nat) : phOf (if wideRole s4 r = 1 then boostBlocks s4 r 1 else s4) p = phOf s2 p :=
    phOf_of_ph ((h5.ph_eq rfl).trans ((h4.ph_eq rfl).trans (h3.ph_eq rfl))) p
  have hnow : now s2 = now s := congrArg TbSt.c ((h2.tb_eq rfl).trans (h1.tb_eq rfl))
  refine ⟨?_, ?_, fun p hp hc hw => ?_⟩
  · rw [hb, hb3, hnow]
  · rw [hb, hb3, boostOf_of_pb ((h2.pb_eq rfl).trans (h1.pb_eq rfl))]
  · rw [hph p]
    exact hhigh p hp hc hw



/-- R409, R431: a flag that rises freezes its rail, and boosts it where boosting is enabled and neither a boost nor its gap runs. -/
theorem flagRise_results {r d : Nat} : (boostOf (flagRise s r d) r).frozen = true
    ∧ (aOn s (Reg.PB_BOOST r) F.PB_BOOST_BOOST_EN = true → boosting s r = false → (boostOf s r).gapUntil = none →
        (boostOf (flagRise s r d) r).boost = some (now s) ∧ ∀ p ∈ assigned s r, (phOf s p).crowbar = false → (phOf s p).widened = false →
          (phOf (flagRise s r d) p).level = .high ∧ (phOf (flagRise s r d) p).active = true) := by
  unfold flagRise
  extract_lets s1 s2 s3 s4 s5 s6
  have h1 : Evolves { regs := true, drain := true, recd := true } s s1 := record_evolves
  have b1 : boostOf s1 r = boostOf s r := boostOf_of_pb (h1.pb_eq rfl) r
  have h13 : Evolves { regs := true, pb := true } s1 s3 := .ite setBoost_evolves.mono (.trans (t := s2) setBoost_evolves.mono bump_evolves.mono)
  have hs2 : boostOf s2 r = { boostOf s1 r with frozen := true, settleFrom := none, evMin := sense s1 r, evMinAt := now s1 - 40, deferred := 0, dDie := d, lastLen := 0 } := by
    show boostOf (setBoost _ _ _) r = _
    rw [boostOf_setBoost, if_pos rfl]
  have b3 : (boostOf s3 r).frozen = true ∧ (boostOf s3 r).boost = (boostOf s1 r).boost ∧ (boostOf s3 r).gapUntil = (boostOf s1 r).gapUntil := by
    by_cases hf : (boostOf s1 r).frozen = true
    · rw [show s3 = setBoost s1 r _ from if_pos hf, boostOf_setBoost, if_pos rfl]
      exact ⟨hf, rfl, rfl⟩
    · rw [show s3 = bump s2 _ _ from if_neg hf, boostOf_of_pb (bump_evolves.pb_eq rfl), hs2]
      exact ⟨rfl, rfl, rfl⟩
  have h34 : Evolves { regs := true, ch := true, ph := true, fq := true } s3 s4 := .trans (t := droopSpacing s3 r) droopSpacing_evolves.mono dripExit_evolves.mono
  have d34 : Shows drive s3 s4 := .trans (t := droopSpacing s3 r) (drive_of_ph (droopSpacing_evolves.ph_eq rfl)) drive_dripExit
  have b4 : boostOf s4 r = boostOf s3 r := boostOf_of_pb (h34.pb_eq rfl) r
  have h56 : Evolves { regs := true, drain := true, recd := true, tvl := true } s5 s6 := .ite originate_evolves .refl
  have hs5 (hc : aOn s4 (Reg.PB_BOOST r) F.PB_BOOST_BOOST_EN = true ∧ (!boosting s4 r) = true ∧ (boostOf s4 r).gapUntil = none) : s5 = boostStart s4 r := if_pos hc
  have hn5 (hc : ¬ (aOn s4 (Reg.PB_BOOST r) F.PB_BOOST_BOOST_EN = true ∧ (!boosting s4 r) = true ∧ (boostOf s4 r).gapUntil = none)) : s5 = s4 := if_neg hc
  clear_value s5
  clear_value s1 s2 s3 s4 s6
  obtain ⟨hst, hfz, hph⟩ := boostStart_results (s := s4) (r := r)
  have b5 : (boostOf s5 r).frozen = true := by
    by_cases hc : aOn s4 (Reg.PB_BOOST r) F.PB_BOOST_BOOST_EN = true ∧ (!boosting s4 r) = true ∧ (boostOf s4 r).gapUntil = none
    · rw [hs5 hc, hfz, b4, b3.1]
    · rw [hn5 hc, b4, b3.1]
  refine ⟨?_, fun hen hnb hgap => ?_⟩
  · rw [frozen_of_boostNow boostNow_holdRail, boostOf_of_pb (h56.pb_eq rfl), b5]
  · have hc : aOn s4 (Reg.PB_BOOST r) F.PB_BOOST_BOOST_EN = true ∧ (!boosting s4 r) = true ∧ (boostOf s4 r).gapUntil = none := by
      refine ⟨?_, ?_, ?_⟩
      · rw [aOn_of_active (h34.active_eq rfl), aOn_of_active (h13.active_eq rfl), aOn_of_active (h1.active_eq rfl), hen]
      · rw [boosting, b4, b3.2.1, b1, show (boostOf s r).boost.isSome = false from hnb]
        rfl
      · rw [b4, b3.2.2, b1, hgap]
    have hnow : now s4 = now s := congrArg TbSt.c ((h34.tb_eq rfl).trans ((h13.tb_eq rfl).trans (h1.tb_eq rfl)))
    have d04 : Shows drive s s4 := (drive_of_ph ((h13.ph_eq rfl).trans (h1.ph_eq rfl))).trans d34
    have ha : assigned s4 r = assigned s r := assigned_congr ((h34.img_eq rfl).trans ((h13.img_eq rfl).trans (h1.img_eq rfl)))
      ((h34.active_eq rfl).trans ((h13.active_eq rfl).trans (h1.active_eq rfl))) (faults_of_drive d04)
    refine ⟨?_, fun p hp hcb hw => ?_⟩
    · rw [boost_of_boostNow boostNow_holdRail, boostOf_of_pb (h56.pb_eq rfl), hs5 hc, hst, hnow]
    · rw [phOf_of_ph (holdRail_evolves.ph_eq rfl), phOf_of_ph (h56.ph_eq rfl), hs5 hc]
      exact hph p (ha ▸ hp) ((crowbar_of_drive d04 p).trans hcb) ((widened_of_drive d04 p).trans hw)

theorem pbDie_freezeHeld {p : Nat} : (freezeHeld s p).pb.die = s.pb.die := by
  unfold freezeHeld
  split
  · extract_lets s1 s2
    exact (pbDie_of_pb (bump_evolves.pb_eq rfl)).trans pbDie_setBoost
  · rfl

theorem pbDie_holdUpdate {p : Nat} : (holdUpdate s p).pb.die = s.pb.die := by
  unfold holdUpdate
  rw [holdCore_evolves.pb_eq rfl]
  unfold holdFreeze
  extract_lets s1
  have h1 : s1.pb.die = s.pb.die := pbDie_freezeHeld
  clear_value s1
  split
  · rw [setCap_evolves.pb_eq rfl, reasonTime_evolves.pb_eq rfl, h1]
  · rw [reasonCount_evolves.pb_eq rfl, setCap_evolves.pb_eq rfl, h1]
  · exact h1

theorem pbDie_holdRail {r : Nat} : Shows (fun s => s.pb.die) s (holdRail s r) := .forEach fun _ _ => pbDie_holdUpdate

theorem pbDie_boostStart {r : Nat} : (boostStart s r).pb.die = s.pb.die := by
  unfold boostStart
  extract_lets s1 s2 s3 s4
  have h1 : Evolves { ch := true, ph := true } s s1 := .trans (t := endRemoval s r) endRemoval_evolves.mono allActive_evolves
  have h2 : Evolves { ph := true } s1 s2 := .forEach fun _ _ => setPh_evolves
  have h3 : s3.pb.die = s2.pb.die := pbDie_setBoost.trans (pbDie_of_pb (setCh_evolves.pb_eq rfl))
  have h4 : Evolves { regs := true } s3 s4 := bump_evolves
  clear_value s1 s2 s3 s4
  have h5 : Evolves { tvl := true } s4 (if wideRole s4 r = 1 then boostBlocks s4 r 1 else s4) := .ite boostBlocks_evolves .refl
  rw [h5.pb_eq rfl, h4.pb_eq rfl, h3, h2.pb_eq rfl, h1.pb_eq rfl]

theorem pbDie_flagRise {r d : Nat} : (flagRise s r d).pb.die = s.pb.die := by
  unfold flagRise
  extract_lets s1 s2 s3 s4 s5 s6
  have h1 : Evolves { regs := true, drain := true, recd := true } s s1 := record_evolves
  have h3 : Shows (fun s => s.pb.die) s1 s3 := .both rfl (.trans (t := s2) rfl (pbDie_of_pb (bump_evolves.pb_eq rfl)))
  have h34 : Evolves { regs := true, ch := true, ph := true, fq := true } s3 s4 := .trans (t := droopSpacing s3 r) droopSpacing_evolves.mono dripExit_evolves.mono
  have h5 : Shows (fun s => s.pb.die) s4 s5 := .both pbDie_boostStart .refl
  have h56 : Evolves { regs := true, drain := true, recd := true, tvl := true } s5 s6 := .ite originate_evolves .refl
  clear_value s1 s3 s4 s5 s6
  exact pbDie_holdRail.eq.trans ((pbDie_of_pb (h56.pb_eq rfl)).trans (h5.eq.trans ((pbDie_of_pb (h34.pb_eq rfl)).trans (h3.eq.trans (pbDie_of_pb (h1.pb_eq rfl))))))

theorem droopFlagRise_results (die : DieIx) (s : State) (hd : (dieOf s die.val).droop = false) :
    Runs (.droopFlagRise die) s (fun t => (dieOf t die.val).droop = true
      ∧ (structured s = true → dieHere s die.val = true → s.top.state ≠ .decaf → isRail s (dieRail s die.val) = true → railState s (dieRail s die.val) = .reg →
          droopFlag s (dieRail s die.val) = false →
          (boostOf t (dieRail s die.val)).frozen = true
          ∧ (aOn s (Reg.PB_BOOST (dieRail s die.val)) F.PB_BOOST_BOOST_EN = true → boosting s (dieRail s die.val) = false → (boostOf s (dieRail s die.val)).gapUntil = none →
              (boostOf t (dieRail s die.val)).boost = some (now s) ∧ ∀ p ∈ assigned s (dieRail s die.val), (phOf s p).crowbar = false → (phOf s p).widened = false →
                  (phOf t p).level = .high ∧ (phOf t p).active = true))
      ∧ (s.top.state = .decaf → t.pb.rail = s.pb.rail ∧ t.ph = s.ph)) := by
  show ∃ t, execDroopFlagRise die s = .next t ∧ _
  unfold execDroopFlagRise
  extract_lets d r was s1 s2 s3
  rw [if_neg (by rw [hd]; simp)]
  have hd1 : (dieOf s1 d).droop = true := by
    show (dieOf (setDie _ _ _) d).droop = true
    rw [dieOf_setDie, if_pos rfl]
  have hb1 : s1.pb.rail = s.pb.rail := rfl
  have h1 : Evolves { pb := true } s s1 := setDie_evolves
  have h13 : Evolves { regs := true } s1 s3 := .trans (t := s2) raise_evolves bump_evolves
  clear_value s1 s3
  have hd3 : (dieOf s3 d).droop = true := by rw [dieOf_of_pb (h13.pb_eq rfl), hd1]
  have hr3 : s3.pb.rail = s.pb.rail := (congrArg PbSt.rail (h13.pb_eq rfl)).trans hb1
  have hph : s3.ph = s.ph := (h13.ph_eq rfl).trans (h1.ph_eq rfl)
  have himg : s3.img = s.img := (h13.img_eq rfl).trans (h1.img_eq rfl)
  have hact : s3.active = s.active := (h13.active_eq rfl).trans (h1.active_eq rfl)
  have htop : s3.top = s.top := (h13.top_eq rfl).trans (h1.top_eq rfl)
  have hch : s3.ch = s.ch := (h13.ch_eq rfl).trans (h1.ch_eq rfl)
  have hnow : now s3 = now s := congrArg TbSt.c ((h13.tb_eq rfl).trans (h1.tb_eq rfl))
  by_cases hc : structured s3 = true ∧ dieHere s3 d = true ∧ s3.top.state ≠ .decaf ∧ isRail s3 r = true ∧ railState s3 r = .reg ∧ (!was) = true
  · rw [if_pos hc]
    obtain ⟨hfz, hboost⟩ := flagRise_results (s := s3) (r := r) (d := d)
    refine ⟨_, rfl, ?_, fun _ _ _ _ _ _ => ⟨hfz, fun hen hnb hg => ?_⟩, fun hdec => absurd (htop ▸ hdec) hc.2.2.1⟩
    · rw [dieOf_of_die pbDie_flagRise, hd3]
    · have hb := hboost (by rw [aOn_of_active hact]; exact hen) (by rw [boosting, boostOf_of_rail hr3]; exact hnb) (by rw [boostOf_of_rail hr3]; exact hg)
      rw [hnow, assigned_congr himg hact (faults_of_ph hph)] at hb
      exact ⟨hb.1, fun p hp hcb hw => hb.2 p hp (by rw [phOf_of_ph hph, hcb]) (by rw [phOf_of_ph hph, hw])⟩
  · rw [if_neg hc]
    refine ⟨_, rfl, hd3, fun h1 h2 h3 h4 h5 h6 => absurd ⟨?_, ?_, ?_, ?_, ?_, ?_⟩ hc, fun _ => ⟨hr3, hph⟩⟩
    · rw [structured_of_img himg, h1]
    · rw [dieHere_of_img himg]
      exact h2
    · rwa [htop]
    · rw [isRail_of_img himg]
      exact h4
    · rw [railState, chOf_of_ch hch]
      exact h5
    · rw [show was = false from h6]
      rfl

/-! ## The captures -/

theorem rd_wr_zero {off o : Nat} (h : rd s off = 0) : rd (wr s o 0) off = 0 := by
  rw [rd_wr]
  split
  · rfl
  · exact h

theorem rd_wr64_zero {off o : Nat} (h : rd s off = 0) : rd (wr64 s o 0) off = 0 := rd_wr_zero (rd_wr_zero h)

/-- The captures of the sites of a die are cleared. -/
theorem rd_clearSites {off d : Nat} (h : rd s off = 0) :
    rd (forEach (List.range 64) s fun s n => wr64 (wr s (Reg.PB_SMIN d n) 0) (Reg.PB_SMIN_TS_LO d n) 0) off = 0 :=
  forEach_keeps (Q := fun s => rd s off = 0) (fun _ _ hq => rd_wr64_zero (rd_wr_zero hq)) h

theorem rd_clearSites_mem {d n : Nat} (hn : n < 64) :
    rd (forEach (List.range 64) s fun s n => wr64 (wr s (Reg.PB_SMIN d n) 0) (Reg.PB_SMIN_TS_LO d n) 0) (Reg.PB_SMIN d n) = 0 :=
  forEach_establishes (I := fun _ => True) (Q := fun s => rd s (Reg.PB_SMIN d n) = 0) (List.mem_range.2 hn) (fun _ _ _ => trivial)
    (fun _ _ => rd_wr64_zero (rd_wr_same _ _ _)) (fun _ _ _ hq => rd_wr64_zero (rd_wr_zero hq)) trivial

theorem pbMinArm_results (who : Initiator) (val : Word) (s : State) (h : admits s who Reg.PB_MIN_ARM val.toNat = true) :
    Runs (.pbMinArm who val) s (fun t => (∀ r, r < 8 → bitOf (fldOf val F.PB_MIN_ARM_CH) r = true → rd t (Reg.PB_CHMIN r) = 0)
      ∧ (∀ d n, d < 4 → n < 64 → bitOf (fldOf val F.PB_MIN_ARM_DIE) d = true → rd t (Reg.PB_SMIN d n) = 0)) := by
  refine ⟨pbMinArm { s with resp := .none } val, ?_, fun r hr hb => ?_, fun d n hd hn hb => ?_⟩
  · show execPbMinArm who val s = _
    unfold execPbMinArm
    rw [gated_of_admits _ _ _ _ _ h]
  · unfold pbMinArm
    extract_lets s1
    have h1 : rd s1 (Reg.PB_CHMIN r) = 0 :=
      forEach_establishes (I := fun _ => True) (Q := fun s => rd s (Reg.PB_CHMIN r) = 0) (List.mem_filter.2 ⟨List.mem_range.2 hr, hb⟩)
        (fun _ _ _ => trivial) (fun _ _ => rd_wr64_zero (rd_wr_same _ _ _)) (fun _ _ _ hq => rd_wr64_zero (rd_wr_zero hq)) trivial
    clear_value s1
    exact forEach_keeps (Q := fun s => rd s (Reg.PB_CHMIN r) = 0) (fun _ _ hq => rd_clearSites hq) h1
  · exact forEach_establishes (I := fun _ => True) (Q := fun s => rd s (Reg.PB_SMIN d n) = 0) (List.mem_filter.2 ⟨List.mem_range.2 hd, hb⟩)
      (fun _ _ _ => trivial) (fun _ _ => rd_clearSites_mem hn) (fun _ _ _ hq => rd_clearSites hq) trivial

/-- Settles O35: the freeze and the boost are read off the rail's own cells, and each later step keeps them. -/
theorem droopPathResults : Obligations.DroopPathResults := by
  unfold Obligations.DroopPathResults
  exact ⟨droopFlagRise_results, boostEnd_results, boostGapEnd_results, freezeEnd_results, droopFlagFall_results, droopStuck_results, pbMinArm_results⟩


end

end Sys2Proof.Machine
end

section
/-! PROOF. The estimators, their injection and the calibration of the phases (O37). -/

namespace Sys2Proof.Machine
open Host
set_option Elab.async false

theorem estEntry_rdBut {s typ k arg value value2} : RdBut [(Reg.REC_EVENT, 0, 0), (Reg.REC_ARB_DROP 0, 0, 0), (Reg.REC_ARB_DROP 1, 0, 0),
    (Reg.REC_ARB_DROP 2, 0, 0), (Reg.TOP_DRAIN_CNT 8, 0, 0), (Reg.TOP_DRAIN_STATUS, 0, 0)] s (estEntry s typ k arg value value2) := by
  unfold estEntry
  exact record_rdBut.mono

theorem estEvent_rdBut {s k f} : RdBut [(Reg.EST_RGN_EVENT 0, 0x20, 0), (Reg.EST_EVENT, 0, 0)] s (estEvent s k f) := by
  unfold estEvent
  exact .trans ((raise_rdBut1 (b := Reg.EST_RGN_EVENT 0) (p := 0x20)).mono) ((raise_rdBut0 (off := Reg.EST_EVENT)).mono)

theorem derate_rdBut {s k} : RdBut [(Reg.EST_RGN_EVENT 0, 0x20, 0), (Reg.EST_EVENT, 0, 0)] s (derate s k) := by
  unfold derate
  exact .ite (.trans ((.of_evolves setRegion_evolves)) estEvent_rdBut.mono) ((.of_evolves setRegion_evolves))

theorem stepDetect_rdBut {s k h} : RdBut [(Reg.EST_RGN_CNT 0, 0x20, 0), (Reg.REC_EVENT, 0, 0), (Reg.REC_ARB_DROP 0, 0, 0), (Reg.REC_ARB_DROP 1, 0,
    0), (Reg.REC_ARB_DROP 2, 0, 0), (Reg.TOP_DRAIN_CNT 8, 0, 0), (Reg.TOP_DRAIN_STATUS, 0, 0), (Reg.EST_RGN_EVENT 0, 0x20, 0), (Reg.EST_EVENT, 0,
    0)] s (stepDetect s k h) := by
  unfold stepDetect
  extract_lets
  split
  · exact .ite
      (.trans ((.of_evolves setRegion_evolves))
         (.ite
            (.trans (.trans ((.of_evolves setRegion_evolves)) ((.of_evolves crackCheck_evolves)))
               (.trans ((bump_rdBut1 (b := Reg.EST_RGN_CNT 0) (p := 0x20)).mono)
                  (.trans (.trans estEntry_rdBut.mono estEvent_rdBut.mono) derate_rdBut.mono))) .refl)) ((.of_evolves setRegion_evolves))
  · exact (.of_evolves setRegion_evolves)

theorem driftDetect_rdBut {s k h} : RdBut [(Reg.EST_RGN_CNT 0, 0x20, 0), (Reg.REC_EVENT, 0, 0), (Reg.REC_ARB_DROP 0, 0, 0), (Reg.REC_ARB_DROP 1, 0,
    0), (Reg.REC_ARB_DROP 2, 0, 0), (Reg.TOP_DRAIN_CNT 8, 0, 0), (Reg.TOP_DRAIN_STATUS, 0, 0), (Reg.EST_RGN_EVENT 0, 0x20, 0), (Reg.EST_EVENT, 0,
    0)] s (driftDetect s k h) := by
  unfold driftDetect
  exact .ite ((.of_evolves setRegion_evolves))
    (.ite ((.of_evolves setRegion_evolves))
       (by
          extract_lets
          split
          exacts [.ite
              (.trans ((.of_evolves setRegion_evolves))
                 (.ite
                    (.trans (.trans ((.of_evolves setRegion_evolves)) ((.of_evolves crackCheck_evolves)))
                       (.trans ((bump_rdBut1 (b := Reg.EST_RGN_CNT 0) (p := 0x20)).mono)
                          (.trans (.trans estEntry_rdBut.mono estEvent_rdBut.mono) derate_rdBut.mono))) .refl))
              ((.of_evolves setRegion_evolves)),
            (.of_evolves setRegion_evolves)]))

theorem capStat_rdBut {s k busy done fail} : RdBut [(Reg.EST_CAP_STATUS, 0, 0)] s (capStat s k busy done fail) := by
  unfold capStat
  exact (wrN_rdBut0 (off := Reg.EST_CAP_STATUS)).mono

theorem capEnd_rdBut {s k done} : RdBut [(Reg.REC_EVENT, 0, 0), (Reg.REC_ARB_DROP 0, 0, 0), (Reg.REC_ARB_DROP 1, 0, 0), (Reg.REC_ARB_DROP 2, 0, 0),
    (Reg.TOP_DRAIN_CNT 8, 0, 0), (Reg.TOP_DRAIN_STATUS, 0, 0), (Reg.EST_RGN_EVENT 0, 0x20, 0), (Reg.EST_EVENT, 0, 0), (Reg.EST_CAP_STATUS, 0, 0)] s
    (capEnd s k done) := by
  unfold capEnd
  exact .trans estEntry_rdBut.mono
    (.trans (.ite (.of_evolves (W := { est := true }) .set_est) .refl)
       (.trans estEvent_rdBut.mono (.trans ((.of_evolves setRegion_evolves)) capStat_rdBut.mono)))

theorem capTake_rdBut {s k r rel} : RdBut [(Reg.REC_EVENT, 0, 0), (Reg.REC_ARB_DROP 0, 0, 0), (Reg.REC_ARB_DROP 1, 0, 0), (Reg.REC_ARB_DROP 2, 0,
    0), (Reg.TOP_DRAIN_CNT 8, 0, 0), (Reg.TOP_DRAIN_STATUS, 0, 0), (Reg.EST_RGN_EVENT 0, 0x20, 0), (Reg.EST_EVENT, 0, 0), (Reg.EST_CAP_STATUS, 0,
    0)] s (capTake s k r rel) := by
  unfold capTake
  exact .trans ((.of_evolves setRegion_evolves)) (.ite capEnd_rdBut.mono capStat_rdBut.mono)

theorem ncrAge_rdBut {s k} : RdBut [(Reg.EST_RGN_CNT 0, 0x20, 0)] s (ncrAge s k) := by
  unfold ncrAge
  exact .ite (.trans ((bumpBy_rdBut1 (b := Reg.EST_RGN_CNT 0) (p := 0x20)).mono) ((.of_evolves setRegion_evolves))) .refl

theorem estStatus_rdBut {s} : RdBut [(Reg.EST_STATUS, 0, 0)] s (estStatus s) := by
  unfold estStatus
  exact (wrN_rdBut0 (off := Reg.EST_STATUS)).mono

theorem corroborate_rdBut {s} : RdBut [(Reg.REC_EVENT, 0, 0), (Reg.REC_ARB_DROP 0, 0, 0), (Reg.REC_ARB_DROP 1, 0, 0), (Reg.REC_ARB_DROP 2, 0, 0),
    (Reg.TOP_DRAIN_CNT 8, 0, 0), (Reg.TOP_DRAIN_STATUS, 0, 0)] s (corroborate s) := by
  unfold corroborate
  exact .trans (.of_evolves (W := { est := true }) .set_est) (.ite (.forEach fun _ _ => stage_rdBut.mono) .refl)

section
variable {s t : State} {k : Nat}

/-! ## What a refresh leaves of a region -/

/-- The other regions, and of region `k` its block, its blocks, its refreshes, its NCR flag and its last confident estimate. -/
def kept (k : Nat) (s : State) : (Nat → RegionSt) × BlkSum × List BlkSum × List Refresh × Bool × Option Nat :=
  (fun j => if j = k then {} else regionOf s j, (regionOf s k).cur, (regionOf s k).blocks, (regionOf s k).hist, (regionOf s k).ncr, (regionOf s k).lastConf)

theorem kept_of {W : Blocks} (h : Evolves W s t) (hW : W.est = false := by rfl) : Shows (kept k) s t := by
  unfold Shows kept
  simp only [regionOf_of_est (h.est_eq hW)]

theorem kept_setRegion {f : RegionSt → RegionSt}
    (hf : ∀ x, (f x).cur = x.cur ∧ (f x).blocks = x.blocks ∧ (f x).hist = x.hist ∧ (f x).ncr = x.ncr ∧ (f x).lastConf = x.lastConf := by intro _; exact ⟨rfl, rfl, rfl, rfl, rfl⟩) :
    Shows (kept k) s (setRegion s k f) := by
  obtain ⟨h1, h2, h3, h4, h5⟩ := hf (regionOf s k)
  unfold Shows kept
  simp only [regionOf_setRegion, if_true, h1, h2, h3, h4, h5]
  refine Prod.ext (funext fun j => ?_) rfl
  by_cases hj : j = k
  · simp [hj]
  · simp [hj, Ne.symm hj]

theorem kept_crackCheck {step : Bool} {j : Nat} : Shows (kept k) s (crackCheck s j step) := rfl

theorem kept_baseDue {l : List BaseDue} : Shows (kept k) s { s with est := { s.est with baseDue := l } } := rfl

theorem ncrAge_kept {s} : Shows (kept k) s (ncrAge s k) := by
  unfold ncrAge
  exact .both (.trans (kept_of bumpBy_evolves) kept_setRegion) .refl

theorem derate_kept {s} : Shows (kept k) s (derate s k) := by
  unfold derate
  exact .both (.trans kept_setRegion (kept_of estEvent_evolves)) kept_setRegion

theorem stepDetect_kept {s h} : Shows (kept k) s (stepDetect s k h) := by
  unfold stepDetect
  extract_lets
  split
  · exact .both
      (.trans kept_setRegion
         (.both
            (.trans (.trans kept_setRegion (kept_crackCheck))
               (.trans (kept_of bump_evolves)
                  (.trans (.trans (kept_of estEntry_evolves) (kept_of estEvent_evolves)) derate_kept))) .refl)) kept_setRegion
  · exact kept_setRegion

theorem driftDetect_kept {s h} : Shows (kept k) s (driftDetect s k h) := by
  unfold driftDetect
  exact .both kept_setRegion
    (.both kept_setRegion
       (by
          extract_lets
          split
          exacts [.both
              (.trans kept_setRegion
                 (.both
                    (.trans (.trans kept_setRegion (kept_crackCheck))
                       (.trans (kept_of bump_evolves)
                          (.trans (.trans (kept_of estEntry_evolves) (kept_of estEvent_evolves)) derate_kept))) .refl))
              kept_setRegion,
            kept_setRegion]))

theorem capEnd_kept {s done} : Shows (kept k) s (capEnd s k done) := by
  unfold capEnd
  extract_lets x rel base s1 _ s2 s3 s4 busy
  have h1 : Shows (kept k) s s1 := kept_of estEntry_evolves
  have h2 : Shows (kept k) s1 s2 := .both kept_baseDue .refl
  have h3 : Shows (kept k) s2 s3 := kept_of estEvent_evolves
  clear_value s1 s2 s3
  exact h1.trans (h2.trans (h3.trans (.trans (t := s4) kept_setRegion (kept_of capStat_evolves))))

theorem capTake_kept {s r rel} : Shows (kept k) s (capTake s k r rel) := by
  unfold capTake
  exact .trans kept_setRegion (.both capEnd_kept (kept_of capStat_evolves))

/-- The other regions. -/
theorem regionOf_of_kept (h : Shows (kept k) s t) {j : Nat} (hj : j ≠ k) : regionOf t j = regionOf s j := by
  have := congrFun (congrArg (fun x : (Nat → RegionSt) × BlkSum × List BlkSum × List Refresh × Bool × Option Nat => x.1) h) j
  simpa [kept, hj] using this

/-- What the refresh of a region comes to: its block, the blocks it keeps and the estimate of the last W of them (R456, R457). -/
def newRefresh (s : State) (k : Nat) : List BlkSum × Refresh :=
  let x := regionOf s k
  let b : BlkSum := if x.cur.empty = true ∨ x.cur.n * 20 < regionRate s k then { empty := true } else x.cur
  let bl := (b :: x.blocks).take 63
  (bl, if regionNone s k then { r := none, rel := 1023, conf := false } else refreshOf s k ((bl.take (estW s)).foldl blkAdd {}))

theorem regionRate_of (hi : t.img = s.img) (ha : t.active = s.active) (k : Nat) : regionRate t k = regionRate s k := by
  unfold regionRate regionDies vrepInt
  simp only [framesOf_of_img hi, aF_of_active ha]

theorem regionNone_of (hi : t.img = s.img) (ha : t.active = s.active) (k : Nat) : regionNone t k = regionNone s k := by
  unfold regionNone regionDies vrepInt
  simp only [framesOf_of_img hi, aF_of_active ha, wideRole_of_img hi]

theorem refreshOf_of (hi : t.img = s.img) (ha : t.active = s.active) (k : Nat) (w : BlkSum) : refreshOf t k w = refreshOf s k w := by
  unfold refreshOf
  simp only [regionRate_of hi ha, aF_of_active ha]

theorem estW_of (ha : t.active = s.active) : estW t = estW s := aF_of_active ha _ _

theorem newRefresh_congr (hi : t.img = s.img) (ha : t.active = s.active) (hr : regionOf t k = regionOf s k) : newRefresh t k = newRefresh s k := by
  unfold newRefresh
  simp only [hr, regionRate_of hi ha, regionNone_of hi ha, refreshOf_of hi ha, estW_of ha]

/-- R456–R458: what the refresh of a region leaves of it. -/
def Refreshed (s t : State) (k : Nat) : Prop :=
  (regionOf t k).cur = {} ∧ (regionOf t k).blocks = (newRefresh s k).1 ∧ (regionOf t k).hist = ((newRefresh s k).2 :: (regionOf s k).hist).take 64
    ∧ ((newRefresh s k).2.conf = true → (regionOf t k).ncr = false ∧ (regionOf t k).lastConf = (newRefresh s k).2.r)
    ∧ rd t (Reg.EST_R k) = BitVec.ofNat 32 (match (newRefresh s k).2.r with | some r => r + b2n (newRefresh s k).2.conf * 2 ^ 31 | none => 2 ^ 30)

theorem fields_of_kept (h : Shows (kept k) s t) : (regionOf t k).cur = (regionOf s k).cur ∧ (regionOf t k).blocks = (regionOf s k).blocks
    ∧ (regionOf t k).hist = (regionOf s k).hist ∧ (regionOf t k).ncr = (regionOf s k).ncr ∧ (regionOf t k).lastConf = (regionOf s k).lastConf := by
  have := congrArg Prod.snd h
  simpa [kept] using this

theorem rd_estPublish {h : Refresh} {l : List Refresh} (hh : (regionOf s k).hist = h :: l) :
    rd (estPublish s k) (Reg.EST_R k) = BitVec.ofNat 32 (match h.r with | some r => r + b2n h.conf * 2 ^ 31 | none => 2 ^ 30) := by
  unfold estPublish estFlags
  extract_lets x h' s1 s2
  have e : h' = h := by
    show (match x.hist with | a :: _ => a | [] => _) = h
    rw [show x.hist = h :: l from hh]
  have hc : Reg.EST_CONF k ≠ Reg.EST_R k := by show 0x181008 + 0x20 * k ≠ 0x181004 + 0x20 * k; omega
  have hr : Reg.EST_REF k ≠ Reg.EST_R k := by show 0x18100C + 0x20 * k ≠ 0x181004 + 0x20 * k; omega
  rw [rd_wrN_ne _ _ hr, rd_wrN_ne _ _ hc, rd_wrN_same, e] <;> rfl

theorem refresh_results : Refreshed s (refresh s k) k := by
  unfold refresh
  extract_lets s1 h s2 x s3 s4 s5 s6 s7 s8
  have e1 : Evolves { est := true } s s1 := closeBlock_evolves
  have r1 : regionOf s1 k = { regionOf s k with cur := {}, blocks := (newRefresh s k).1 } := by
    show regionOf (setRegion s k _) k = _
    rw [regionOf_setRegion, if_pos rfl]
    rfl
  have hh : h = (newRefresh s k).2 := by
    show (if regionNone s1 k = true then _ else refreshOf s1 k (((regionOf s1 k).blocks.take (estW s1)).foldl blkAdd {})) = _
    rw [r1, regionNone_of (e1.img_eq rfl) (e1.active_eq rfl), refreshOf_of (e1.img_eq rfl) (e1.active_eq rfl), estW_of (e1.active_eq rfl)]
    rfl
  clear_value h
  subst hh
  have k2 : Shows (kept k) s1 s2 := ncrAge_kept
  have r3 : regionOf s3 k = { regionOf s2 k with hist := ((newRefresh s k).2 :: (regionOf s2 k).hist).take 64 } := by
    show regionOf (setRegion s2 k _) k = _
    rw [regionOf_setRegion, if_pos rfl]
  have k4 : Shows (kept k) s3 s4 := stepDetect_kept
  have r5 : regionOf s5 k = { regionOf s4 k with confAt := now s4, lastConf := (newRefresh s k).2.r, thaw := if x.ncr then estW s4 else (regionOf s4 k).thaw - 1, ncr := false } := by
    show regionOf (setRegion (pmRefresh s4) k _) k = _
    rw [regionOf_setRegion, if_pos rfl, regionOf_of_est (pmRefresh_evolves.est_eq rfl)]
  have k6 (hc : (newRefresh s k).2.conf = true) : Shows (kept k) s5 s6 := by
    show kept k (if _ then _ else _) = _
    rw [if_pos hc]
    exact Shows.both (.trans (t := estEntry s5 5 k 0 ((newRefresh s k).2.r.getD 0) (newRefresh s k).2.rel) (kept_of estEntry_evolves) (kept_of estEvent_evolves)) .refl
  have k6' (hc : ¬ (newRefresh s k).2.conf = true) : Shows (kept k) s4 s6 := by
    show kept k (if _ then _ else _) = _
    rw [if_neg hc]
    exact kept_setRegion
  have k7 : Shows (kept k) s6 s7 := driftDetect_kept
  have k8 : Shows (kept k) s7 s8 := by
    dsimp only [s8]
    split
    · exact capTake_kept
    · rfl
  clear_value s5 s6 s7 s8
  clear_value s4
  clear_value s3 x
  clear_value s1 s2
  have k9 : Shows (kept k) s8 (derate s8 k) := derate_kept
  have k10 : Shows (kept k) (derate s8 k) (estPublish (derate s8 k) k) := kept_of estPublish_evolves
  have k69 : Shows (kept k) s6 (derate s8 k) := k7.trans (k8.trans k9)
  obtain ⟨c2, b2, i2, n2, l2⟩ := fields_of_kept k2
  obtain ⟨c4, b4, i4, n4, l4⟩ := fields_of_kept k4
  obtain ⟨c9, b9, i9, n9, l9⟩ := fields_of_kept k69
  obtain ⟨c10, b10, i10, n10, l10⟩ := fields_of_kept k10
  have h46 : (regionOf s6 k).cur = (regionOf s4 k).cur ∧ (regionOf s6 k).blocks = (regionOf s4 k).blocks ∧ (regionOf s6 k).hist = (regionOf s4 k).hist
      ∧ ((newRefresh s k).2.conf = true → (regionOf s6 k).ncr = false ∧ (regionOf s6 k).lastConf = (newRefresh s k).2.r) := by
    by_cases hc : (newRefresh s k).2.conf = true
    · obtain ⟨c6, b6, i6, n6, l6⟩ := fields_of_kept (k6 hc)
      rw [c6, b6, i6, n6, l6, r5]
      exact ⟨rfl, rfl, rfl, fun _ => ⟨rfl, rfl⟩⟩
    · obtain ⟨c6, b6, i6, n6, l6⟩ := fields_of_kept (k6' hc)
      exact ⟨c6, b6, i6, fun h => absurd h hc⟩
  obtain ⟨c6, b6, i6, nl6⟩ := h46
  have hhist : (regionOf (derate s8 k) k).hist = ((newRefresh s k).2 :: (regionOf s k).hist).take 64 := by rw [i9, i6, i4, r3, i2, r1]
  refine ⟨?_, ?_, ?_, fun hc => ?_, rd_estPublish (l := (regionOf s k).hist.take 63) hhist⟩
  · rw [c10, c9, c6, c4, r3]
    show (regionOf s2 k).cur = _
    rw [c2, r1]
  · rw [b10, b9, b6, b4, r3]
    show (regionOf s2 k).blocks = _
    rw [b2, r1]
  · rw [i10, hhist]
  · rw [n10, n9, l10, l9]
    exact nl6 hc

theorem regionOf_setRegion_ne {j : Nat} (hj : j ≠ k) (f : RegionSt → RegionSt) : regionOf (setRegion s k f) j = regionOf s j := by
  rw [regionOf_setRegion, if_neg (Ne.symm hj)]

theorem others_refresh {j : Nat} (hj : j ≠ k) : Shows (regionOf · j) s (refresh s k) := by
  unfold refresh
  extract_lets s1 h s2 x s3 s4 s5 s6 s7 s8
  have k1 : Shows (regionOf · j) s s1 := regionOf_setRegion_ne hj _
  have k2 : Shows (regionOf · j) s1 s2 := regionOf_of_kept ncrAge_kept hj
  have k3 : Shows (regionOf · j) s2 s3 := regionOf_setRegion_ne hj _
  have k4 : Shows (regionOf · j) s3 s4 := regionOf_of_kept stepDetect_kept hj
  have k5 : Shows (regionOf · j) s4 s5 := .trans (t := pmRefresh s4) (regionOf_of_est (pmRefresh_evolves.est_eq rfl) j) (regionOf_setRegion_ne hj _)
  have k56 : Evolves { regs := true, drain := true, recd := true } s5 (estEvent (estEntry s5 5 k 0 (h.r.getD 0) h.rel) k F.EST_EVENT_NCR_EXIT) :=
    .trans (t := estEntry s5 5 k 0 (h.r.getD 0) h.rel) estEntry_evolves estEvent_evolves.mono
  have k6 : Shows (regionOf · j) s4 s6 := .both (.both (k5.trans (regionOf_of_est (k56.est_eq rfl) j)) k5) (regionOf_setRegion_ne hj _)
  have k7 : Shows (regionOf · j) s6 s7 := regionOf_of_kept driftDetect_kept hj
  have k8 : Shows (regionOf · j) s7 s8 := by
    dsimp only [s8]
    split
    · exact regionOf_of_kept capTake_kept hj
    · rfl
  clear_value s1 s2 s3 s4 s6 s7 s8
  have k9 : Shows (regionOf · j) s8 (derate s8 k) := regionOf_of_kept derate_kept hj
  have k10 : Shows (regionOf · j) (derate s8 k) (estPublish (derate s8 k) k) := regionOf_of_est (estPublish_evolves.est_eq rfl) j
  exact k1.trans (k2.trans (k3.trans (k4.trans (k6.trans (k7.trans (k8.trans (k9.trans k10)))))))

/-- The registers that a refresh may write, but for the words of its own region. -/
def estRegs : List (Nat × Nat × Nat) := [(Reg.EST_RGN_CNT 0, 0x20, 0), (Reg.EST_RGN_EVENT 0, 0x20, 0), (Reg.EST_EVENT, 0, 0), (Reg.EST_CAP_STATUS, 0, 0), (Reg.REC_EVENT, 0, 0),
  (Reg.REC_ARB_DROP 0, 0, 0), (Reg.REC_ARB_DROP 1, 0, 0), (Reg.REC_ARB_DROP 2, 0, 0), (Reg.TOP_DRAIN_CNT 8, 0, 0), (Reg.TOP_DRAIN_STATUS, 0, 0)]

theorem rd_estPublish_ne {j : Nat} (hj : j ≠ k) : rd (estPublish s k) (Reg.EST_R j) = rd s (Reg.EST_R j) := by
  unfold estPublish estFlags
  extract_lets x h' s1 s2
  have h1 : Reg.EST_R k ≠ Reg.EST_R j := by show 0x181004 + 0x20 * k ≠ 0x181004 + 0x20 * j; omega
  have h2 : Reg.EST_CONF k ≠ Reg.EST_R j := by show 0x181008 + 0x20 * k ≠ 0x181004 + 0x20 * j; omega
  have h3 : Reg.EST_REF k ≠ Reg.EST_R j := by show 0x18100C + 0x20 * k ≠ 0x181004 + 0x20 * j; omega
  rw [rd_wrN_ne _ _ h3, rd_wrN_ne _ _ h2, rd_wrN_ne _ _ h1]

/-- The words of other regions stay. -/
theorem rd_refresh {j : Nat} (hj : j ≠ k) (hlt : j < 128) : Shows (rd · (Reg.EST_R j)) s (refresh s k) := by
  unfold refresh
  extract_lets s1 h s2 x s3 s4 s5 s6 s7 s8
  have r3 : RdBut estRegs s s3 := .trans (t := s1) (.of_evolves closeBlock_evolves) (.trans (t := s2) ncrAge_rdBut.mono (.of_evolves setRegion_evolves))
  have r4 : RdBut estRegs s3 s4 := stepDetect_rdBut.mono
  have r5 : RdBut estRegs s4 s5 := .trans (t := pmRefresh s4) (.of_evolves pmRefresh_evolves) (.of_evolves setRegion_evolves)
  have r6 : RdBut estRegs s4 s6 := .ite (.ite (r5.trans (.trans (t := estEntry s5 5 k 0 (h.r.getD 0) h.rel) estEntry_rdBut.mono estEvent_rdBut.mono)) r5)
    (.of_evolves setRegion_evolves)
  have r7 : RdBut estRegs s6 s7 := driftDetect_rdBut.mono
  have r8 : RdBut estRegs s7 s8 := by
    dsimp only [s8]
    split
    · exact capTake_rdBut.mono
    · exact .refl
  clear_value s1 s2 s3 s4 s6 s7 s8
  have r9 : RdBut estRegs s8 (derate s8 k) := derate_rdBut.mono
  have hr : rd (derate s8 k) (Reg.EST_R j) = rd s (Reg.EST_R j) :=
    (r3.trans (r4.trans (r6.trans (r7.trans (r8.trans r9))))).rd_eq (misses_fin (g := Reg.EST_R) (by decide +kernel) ⟨j, hlt⟩)
  show rd (estPublish (derate s8 k) k) (Reg.EST_R j) = _
  rw [rd_estPublish_ne hj, hr]

/-! ## Sweeps over distinct cells -/

/-- A sweep without repetition establishes what its step for `k` establishes from a fact that the other steps keep. -/
theorem forEach_once {α : Type} {l : List α} {f : State → α → State} {k : α} {I Q : State → Prop} (hn : l.Nodup) (hk : k ∈ l)
    (hI : ∀ s x, x ≠ k → I s → I (f s x)) (hQ : ∀ s, I s → Q (f s k)) (hkeep : ∀ s x, x ≠ k → Q s → Q (f s x)) (h : I s) : Q (forEach l s f) := by
  induction l generalizing s with
  | nil => cases hk
  | cons x l ih =>
    obtain ⟨hx, hn⟩ := List.nodup_cons.1 hn
    rw [forEach_cons]
    rcases List.mem_cons.1 hk with rfl | hm
    · have keep : ∀ (l : List α) (s : State), k ∉ l → Q s → Q (forEach l s f) := by
        intro l
        induction l with
        | nil => exact fun _ _ hq => hq
        | cons y l ih => exact fun s hy hq => ih _ (fun h => hy (by simp [h])) (hkeep s y (fun h => hy (by simp [h])) hq)
      exact keep l _ hx (hQ _ h)
    · exact ih hn hm (hI _ _ (fun h => hx (h ▸ hm)) h)

theorem regions_nodup : (regions s).Nodup := List.nodup_range.filter _

theorem rails_nodup : (rails s).Nodup := List.nodup_range.filter _

theorem lt_of_mem_regions (h : k ∈ regions s) : k < 128 := List.mem_range.1 (List.mem_filter.1 h).1

theorem lt_of_mem_rails (h : k ∈ rails s) : k < 8 := List.mem_range.1 (List.mem_filter.1 h).1

/-- The facts of a region that its refresh reads. -/
def RegionAs (s : State) (k : Nat) (t : State) : Prop := regionOf t k = regionOf s k ∧ t.img = s.img ∧ t.active = s.active

theorem refreshed_of_regionAs (h : RegionAs s k t) : Refreshed s (refresh t k) k := by
  obtain ⟨hr, hi, ha⟩ := h
  have := refresh_results (s := t) (k := k)
  unfold Refreshed at this ⊢
  rwa [newRefresh_congr hi ha hr, hr] at this

theorem refreshed_sweep (h : k ∈ regions s) (hs : RegionAs s k t) : Refreshed s (forEach (regions s) t refresh) k := by
  refine forEach_once (I := RegionAs s k) (Q := fun t => Refreshed s t k) regions_nodup h (fun t j hj hi => ?_) (fun t hi => refreshed_of_regionAs hi)
    (fun t j hj hq => ?_) hs
  · obtain ⟨hr, hi, ha⟩ := hi
    exact ⟨(others_refresh (Ne.symm hj)).eq.trans hr, (refresh_evolves.img_eq rfl).trans hi, (refresh_evolves.active_eq rfl).trans ha⟩
  · unfold Refreshed at hq ⊢
    rw [show regionOf (refresh t j) k = regionOf t k from others_refresh (Ne.symm hj),
      show rd (refresh t j) (Reg.EST_R k) = rd t (Reg.EST_R k) from rd_refresh (Ne.symm hj) (lt_of_mem_regions h)]
    exact hq

theorem regionOf_of_region (h : t.est.region = s.est.region) (j : Nat) : regionOf t j = regionOf s j := by
  unfold regionOf
  rw [h]

theorem region_corroborate : (corroborate s).est.region = s.est.region := by
  unfold corroborate
  extract_lets due _ s1
  have h1 : s1.est.region = s.est.region := rfl
  have h2 : Evolves { regs := true, drain := true, recd := true } s1 (if fwUp s1 then forEach due s1 (fun s c => stage s .data
      { cls := 0x80, typ := 0x01, unit := c.k, arg := if c.step then 3 else 2, value := corroborants s c, value2 := 0 }) else s1) :=
    .ite (.forEach fun _ _ => stage_evolves) .refl
  exact (congrArg EstSt.region (h2.est_eq rfl)).trans h1

theorem loadLine_rdBut {c : Nat} (hc : c < 8) : RdBut [(Reg.EST_LL 0, 8, 8), (Reg.EST_LL_CONF 0, 8, 8)] s (loadLine s c) := by
  have hconf (s : State) (w : Nat) : RdBut [(Reg.EST_LL 0, 8, 8), (Reg.EST_LL_CONF 0, 8, 8)] s (wrN s (Reg.EST_LL_CONF c) w) := by
    have h : RdBut [(Reg.EST_LL_CONF 0, 8, 8)] s (wrN s (Reg.EST_LL_CONF c) w) := wr_rdButN hc
    exact h.mono
  have hll (s : State) (w : Nat) : RdBut [(Reg.EST_LL 0, 8, 8), (Reg.EST_LL_CONF 0, 8, 8)] s (wrN s (Reg.EST_LL c) w) := by
    have h : RdBut [(Reg.EST_LL 0, 8, 8)] s (wrN s (Reg.EST_LL c) w) := wr_rdButN hc
    exact h.mono
  unfold loadLine
  split
  · exact .refl
  · extract_lets w num den s1 d
    have hd : RdBut [(Reg.EST_LL 0, 8, 8), (Reg.EST_LL_CONF 0, 8, 8)] s1 d.2 := .of_regs rfl
    exact .ite (hconf _ _) ((hll _ _).trans (hd.trans (hconf _ _)))

theorem estimatorRefresh_results (s : State) (hrun : s.est.run = true) :
    Runs .estimatorRefresh s (fun t => t.est.blkFrom = now t ∧ ∀ k ∈ regions s, Refreshed s t k) := by
  show ∃ t, execEstimatorRefresh s = .next t ∧ _
  unfold execEstimatorRefresh
  rw [if_pos hrun]
  extract_lets s1 s2 s3 _
  refine ⟨_, rfl, ?_, fun k hk => ?_⟩
  · rw [estStatus_evolves.est_eq rfl]
    exact (congrArg TbSt.c (estStatus_evolves.tb_eq rfl)).symm
  · have h1 : Evolves { tb := true } s s1 := reach_evolves
    have hb : RegionAs s k (balSample s1) :=
      ⟨(regionOf_of_region (s := s1) rfl k).trans (regionOf_of_est (h1.est_eq rfl) k), (balSample_evolves.img_eq rfl).trans (h1.img_eq rfl),
        (balSample_evolves.active_eq rfl).trans (h1.active_eq rfl)⟩
    have hg : regions s1 = regions s := regions_of_img (h1.img_eq rfl)
    have h2 : Refreshed s s2 k := by
      show Refreshed s (forEach (regions s1) (balSample s1) refresh) k
      rw [hg]
      exact refreshed_sweep hk hb
    clear_value s2
    have hr3 : s3.est.region = s2.est.region := by
      have h3 : Evolves { regs := true, freeCtr := true } (corroborate s2) s3 := .forEach fun _ _ => loadLine_evolves
      rw [h3.est_eq rfl, region_corroborate]
    have hd3 : RdBut [(Reg.EST_LL 0, 8, 8), (Reg.EST_LL_CONF 0, 8, 8)] (corroborate s2) s3 := .forEach_mem fun _ _ hc => loadLine_rdBut (lt_of_mem_rails hc)
    clear_value s3
    have hlt := lt_of_mem_regions hk
    have hw : rd (estStatus { s3 with est := { s3.est with blkFrom := now s3 } }) (Reg.EST_R k) = rd s2 (Reg.EST_R k) := by
      refine (estStatus_rdBut.rd_eq (misses_fin (g := Reg.EST_R) (by decide +kernel) ⟨k, hlt⟩)).trans ?_
      refine (hd3.rd_eq (misses_fin (g := Reg.EST_R) (by decide +kernel) ⟨k, hlt⟩)).trans ?_
      exact corroborate_rdBut.rd_eq (misses_fin (g := Reg.EST_R) (by decide +kernel) ⟨k, hlt⟩)
    have ho : regionOf (estStatus { s3 with est := { s3.est with blkFrom := now s3 } }) k = regionOf s2 k :=
      (regionOf_of_est (estStatus_evolves.est_eq rfl) k).trans (regionOf_of_region (s := s2) (t := s3) hr3 k)
    unfold Refreshed
    rw [ho, hw]
    exact h2

/-! ## The other commands of the estimator -/

/-- What a chip boundary writes for a rail. -/
def DitherAs (s t : State) (r : Nat) : Prop :=
  tabGet 0 t.est.chip r = chipAt r (now t)
    ∧ (chOf t r).vdither = if railState s r = .reg ∧ (chOf s r).drip = .run ∧ boosting s r = false
        then (aF s (Reg.CH_DITH r) F.CH_DITH_AMP * 50000 : Nat) * chipAt r (now t) else 0

theorem ditherChip_results (s : State) : Runs .ditherChip s (fun t => ∀ r ∈ rails s, DitherAs s t r) := by
  show ∃ t, execDitherChip s = .next t ∧ _
  unfold execDitherChip
  extract_lets s1
  refine ⟨_, rfl, fun r hr => ?_⟩
  have h1 : Evolves { tb := true } s s1 := reach_evolves
  clear_value s1
  rw [rails_of_img (h1.img_eq rfl)]
  refine forEach_once (I := fun t => chOf t r = chOf s r ∧ t.pb = s.pb ∧ t.active = s.active) (Q := fun t => DitherAs s t r) rails_nodup hr (fun t q hq hi => ?_)
    (fun t hi => ?_) (fun t q hq hQ => ?_) ⟨chOf_of_ch (h1.ch_eq rfl) r, h1.pb_eq rfl, h1.active_eq rfl⟩
  · obtain ⟨hc, hp, ha⟩ := hi
    refine ⟨?_, hp, ha⟩
    show chOf (setCh _ _ _) r = _
    rw [chOf_setCh, if_neg hq]
    exact hc
  · obtain ⟨hc, hp, ha⟩ := hi
    have hon : (railState t r == .reg && (chOf t r).drip == .run && !boosting t r) = decide (railState s r = .reg ∧ (chOf s r).drip = .run ∧ boosting s r = false) := by
      rw [railState, hc, boosting, boostOf_of_pb hp]
      have hb : (boostOf s r).boost.isNone = decide ((boostOf s r).boost = none) := by cases (boostOf s r).boost <;> rfl
      simp [railState, boosting, Bool.and_assoc, hb, beq_eq_decide]
    refine ⟨tabGet_tabSet_same _ _ _ _, ?_⟩
    show (chOf (setCh _ _ _) r).vdither = _
    rw [chOf_setCh, if_pos rfl]
    show (if (railState t r == .reg && (chOf t r).drip == .run && !boosting t r) = true then _ else _) = _
    rw [hon, aF_of_active ha]
    simp only [decide_eq_true_eq]
    rfl
  · obtain ⟨h1, h2⟩ := hQ
    refine ⟨(tabGet_tabSet_ne _ _ _ hq).trans h1, ?_⟩
    show (chOf (setCh _ _ _) r).vdither = _
    rw [chOf_setCh, if_neg hq]
    exact h2

theorem estPublish_rdBut (hk : k < 128) : RdBut [(Reg.EST_R 0, 0x20, 128), (Reg.EST_CONF 0, 0x20, 128), (Reg.EST_REF 0, 0x20, 128)] s (estPublish s k) := by
  have w1 (s : State) (n : Nat) : RdBut [(Reg.EST_R 0, 0x20, 128)] s (wrN s (Reg.EST_R k) n) := wr_rdButN hk
  have w2 (s : State) (n : Nat) : RdBut [(Reg.EST_CONF 0, 0x20, 128)] s (wrN s (Reg.EST_CONF k) n) := wr_rdButN hk
  have w3 (s : State) (n : Nat) : RdBut [(Reg.EST_REF 0, 0x20, 128)] s (wrN s (Reg.EST_REF k) n) := wr_rdButN hk
  unfold estPublish estFlags
  exact ((w1 _ _).mono.trans (w2 _ _).mono).trans (w3 _ _).mono

theorem ncrEnter_results (region : Fin 128) (s : State) (hrun : s.est.run = true) (hr : region.val ∈ regions s) (hn : (regionOf s region.val).ncr = false) :
    Runs (.ncrEnter region) s (fun t => (regionOf t region.val).ncr = true ∧ (regionOf t region.val).frozen = (regionOf s region.val).lastConf
      ∧ (regionOf t region.val).driftFrom = none ∧ flag t (Reg.EST_RGN_EVENT region.val) F.EST_EVENT_NCR_ENTER = true
      ∧ flag t Reg.EST_EVENT F.EST_EVENT_NCR_ENTER = true) := by
  show ∃ t, execNcrEnter region s = .next t ∧ _
  unfold execNcrEnter
  extract_lets k s1
  rw [if_pos ⟨hrun, by simpa using hr, by rw [hn]; rfl⟩]
  refine ⟨_, rfl, ?_⟩
  have h1 : Evolves { tb := true } s s1 := reach_evolves
  clear_value s1
  unfold ncrEnter
  extract_lets x s2 s3
  have r2 : regionOf s2 k = { regionOf s1 k with ncr := true, ncrAt := now s1, ncrSec := 0, frozen := (regionOf s1 k).lastConf, thaw := 0, driftFrom := none, tolAged := crackF s1 F.EST_CRACK_CFG_STEP_THR * 4 } := by
    show regionOf (setRegion _ _ _) k = _
    rw [regionOf_setRegion, if_pos rfl]
  have e3 : Evolves { regs := true, drain := true, recd := true } s2 s3 := estEntry_evolves
  have r0 : regionOf s1 k = regionOf s k := regionOf_of_est (h1.est_eq rfl) k
  have hend : Evolves { regs := true } (estEvent s3 k F.EST_EVENT_NCR_ENTER) (estStatus (estPublish (estEvent s3 k F.EST_EVENT_NCR_ENTER) k)) :=
    estPublish_evolves.trans estStatus_evolves
  have hreg : regionOf (estStatus (estPublish (estEvent s3 k F.EST_EVENT_NCR_ENTER) k)) k = regionOf s2 k :=
    (regionOf_of_est (hend.est_eq rfl) k).trans ((regionOf_of_est (estEvent_evolves.est_eq rfl) k).trans (regionOf_of_est (e3.est_eq rfl) k))
  clear_value s2 s3
  have hpub : RdBut [(Reg.EST_R 0, 0x20, 128), (Reg.EST_CONF 0, 0x20, 128), (Reg.EST_REF 0, 0x20, 128), (Reg.EST_STATUS, 0, 0)] (estEvent s3 k F.EST_EVENT_NCR_ENTER)
      (estStatus (estPublish (estEvent s3 k F.EST_EVENT_NCR_ENTER) k)) := (estPublish_rdBut region.isLt).mono.trans estStatus_rdBut.mono
  have hrow : flag (estEvent s3 k F.EST_EVENT_NCR_ENTER) (Reg.EST_RGN_EVENT k) F.EST_EVENT_NCR_ENTER = true :=
    (raise_rdBut0.flag_eq (off := Reg.EST_RGN_EVENT k) _ (misses_fin (g := Reg.EST_RGN_EVENT) (by decide +kernel) region)).trans (flag_raise _ _ _ (by decide))
  rw [hreg, r2, r0]
  refine ⟨rfl, rfl, rfl, ?_, ?_⟩
  · exact (hpub.flag_eq _ (misses_fin (g := Reg.EST_RGN_EVENT) (by decide +kernel) region)).trans hrow
  · exact (hpub.flag_eq _).trans (flag_raise _ _ _ (by decide))

/-! ## Captures -/

/-- R458: a capture that failed. -/
def CaptureFailed (t : State) (k : Nat) : Prop :=
  (regionOf t k).capOn = false ∧ (regionOf t k).capDone = false ∧ flag t (Reg.EST_RGN_EVENT k) F.EST_EVENT_CAP_FAIL = true

theorem flag_raise_keeps {off o lo lo' : Nat} (hlo' : lo' < 32) (h : flag s off ⟨lo, 1⟩ = true) (hlo : lo < 32) :
    flag (raise s o ⟨lo', 1⟩) off ⟨lo, 1⟩ = true := by
  by_cases ho : o = off
  · subst ho
    by_cases hl : lo' = lo
    · subst hl
      exact flag_raise _ _ _ hlo
    · exact (flag_setF_apart _ _ _ _ (by show lo' + 1 ≤ 32; omega) (by show lo + 1 ≤ lo' ∨ lo' + 1 ≤ lo; omega)).trans h
  · exact (flag_congr (rd_raise_ne _ _ ho) _).trans h

/-- A region whose capture has ended without a result. -/
def capFailed (x : RegionSt) : RegionSt := { x with capOn := false, capDone := false }

theorem capEnd_failed : ∃ base rel busy done fail, capEnd s k false
    = capStat (setRegion (estEvent (estEntry s 0x01 k 0 base rel) k F.EST_EVENT_CAP_FAIL) k capFailed) k busy done fail := ⟨_, _, _, _, _, rfl⟩

theorem setRegion_rdBut {f : RegionSt → RegionSt} : RdBut [] s (setRegion s k f) := .of_evolves setRegion_evolves

theorem capEnd_results (hk : k < 128) : CaptureFailed (capEnd s k false) k := by
  obtain ⟨base, rel, busy, done, fail, h⟩ := capEnd_failed (s := s) (k := k)
  rw [h]
  unfold CaptureFailed
  rw [regionOf_of_est (capStat_evolves.est_eq rfl), regionOf_setRegion, if_pos rfl]
  refine ⟨rfl, rfl, ?_⟩
  refine (capStat_rdBut.flag_eq _ (misses_fin (g := Reg.EST_RGN_EVENT) (by decide +kernel) ⟨k, hk⟩)).trans ((setRegion_rdBut.flag_eq _ rfl).trans ?_)
  exact flag_raise_keeps (by decide) (flag_raise _ _ _ (by decide)) (by decide)

theorem flag_capEnd_keeps {j : Nat} (hk : k < 128) (h : flag s (Reg.EST_RGN_EVENT k) F.EST_EVENT_CAP_FAIL = true) :
    flag (capEnd s j false) (Reg.EST_RGN_EVENT k) F.EST_EVENT_CAP_FAIL = true := by
  obtain ⟨base, rel, busy, done, fail, he⟩ := capEnd_failed (s := s) (k := j)
  rw [he]
  refine (capStat_rdBut.flag_eq _ (misses_fin (g := Reg.EST_RGN_EVENT) (by decide +kernel) ⟨k, hk⟩)).trans ((setRegion_rdBut.flag_eq _ rfl).trans ?_)
  refine flag_raise_keeps (by decide) (flag_raise_keeps (by decide) ?_ (by decide)) (by decide)
  exact (estEntry_rdBut.flag_eq _ (misses_fin (g := Reg.EST_RGN_EVENT) (by decide +kernel) ⟨k, hk⟩)).trans h

theorem captureTimeout_results (s : State) : Runs .captureTimeout s (fun t => ∀ k ∈ regions s, (regionOf t k).capOn = false
    ∧ ((regionOf s k).capOn = true → (regionOf t k).capDone = false ∧ flag t (Reg.EST_RGN_EVENT k) F.EST_EVENT_CAP_FAIL = true)) := by
  show ∃ t, execCaptureTimeout s = .next t ∧ _
  unfold execCaptureTimeout
  extract_lets l s1
  have h1 : Evolves { tb := true } s s1 := reach_evolves
  clear_value s1
  have hoff (k : Nat) (hk : k ∈ regions s) (hn : k ∉ l) : (regionOf s k).capOn = false := by
    have : ¬(regionOf s k).capOn = true := fun hc => hn (List.mem_filter.2 ⟨hk, hc⟩)
    simpa using this
  by_cases hl : l = []
  · rw [if_pos hl]
    refine ⟨_, rfl, fun k hk => ?_⟩
    have := hoff k hk (by rw [hl]; exact List.not_mem_nil)
    exact ⟨this, fun h => by rw [this] at h; cases h⟩
  · rw [if_neg hl]
    refine ⟨_, rfl, fun k hk => ?_⟩
    by_cases hm : k ∈ l
    · have hlt := lt_of_mem_regions hk
      obtain ⟨ho, hd, hf⟩ : CaptureFailed (forEach l s1 fun s k => capEnd s k false) k := by
        refine forEach_once (I := fun _ => True) (Q := fun t => CaptureFailed t k) (regions_nodup.filter _) hm (fun _ _ _ _ => trivial)
          (fun _ _ => capEnd_results hlt) (fun t j hj hq => ?_) trivial
        obtain ⟨ho, hd, hf⟩ := hq
        have he : regionOf (capEnd t j false) k = regionOf t k := regionOf_of_kept capEnd_kept (Ne.symm hj)
        unfold CaptureFailed
        rw [he]
        exact ⟨ho, hd, flag_capEnd_keeps hlt hf⟩
      exact ⟨ho, fun _ => ⟨hd, hf⟩⟩
    · have hkeep : regionOf (forEach l s1 fun s k => capEnd s k false) k = regionOf s k := by
        refine Eq.trans ?_ (regionOf_of_est (h1.est_eq rfl) k)
        refine (Shows.forEach_mem (g := (regionOf · k)) fun t j hj => ?_)
        exact regionOf_of_kept capEnd_kept fun e => hm (e ▸ hj)
      rw [hkeep]
      have := hoff k hk hm
      exact ⟨this, fun h => by rw [this] at h; cases h⟩

/-! ## Samples of the regions -/

/-- What a sample of the sense carriers leaves of a region that takes it. -/
def Sampled (s t : State) (k : Nat) : Prop :=
  (regionOf t k).from_ = sumNow s (k / 16) ∧ (regionOf t k).blocks = (regionOf s k).blocks
    ∧ (0 < (sumGain (regionOf s k).from_ (sumNow s (k / 16))).n → (regionOf t k).cur.n = (regionOf s k).cur.n + 1)

theorem regionOf_estSample {end_ : SenseSum} {far : Int} : (regionOf (estSample s k end_ far) k).from_ = end_
    ∧ (regionOf (estSample s k end_ far) k).blocks = (regionOf s k).blocks
    ∧ (0 < (sumGain (regionOf s k).from_ end_).n → (regionOf (estSample s k end_ far) k).cur.n = (regionOf s k).cur.n + 1) := by
  unfold estSample
  extract_lets x m s1 near rate fx fp fc fu b b'
  have r1 : regionOf s1 k = { regionOf s k with from_ := end_, farNew := [] } := by
    show regionOf (setRegion _ _ _) k = _
    rw [regionOf_setRegion, if_pos rfl]
  split
  next hm =>
    rw [r1]
    refine ⟨rfl, rfl, fun h => ?_⟩
    rw [show (sumGain (regionOf s k).from_ end_).n = 0 from hm] at h
    cases h
  next hm =>
    rw [regionOf_setRegion, if_pos rfl, r1]
    exact ⟨rfl, rfl, fun _ => rfl⟩

theorem estSample_others {j : Nat} {end_ : SenseSum} {far : Int} (hj : j ≠ k) : regionOf (estSample s k end_ far) j = regionOf s j := by
  unfold estSample
  extract_lets x m s1 near rate fx fp fc fu b b'
  have r1 : regionOf s1 j = regionOf s j := regionOf_setRegion_ne hj _
  split
  · exact r1
  · exact (regionOf_setRegion_ne hj _).trans r1

theorem sum_setRegion {f : RegionSt → RegionSt} : (setRegion s k f).est.sum = s.est.sum := rfl

theorem sum_estSample {end_ : SenseSum} {far : Int} : (estSample s k end_ far).est.sum = s.est.sum := by
  unfold estSample
  extract_lets x m s1 near rate fx fp fc fu b b'
  split
  · rfl
  · exact sum_setRegion

theorem estimatorSample_results (s : State) : Runs .estimatorSample s (fun t => t.regs = s.regs
    ∧ ∀ k ∈ regions s, (regionSrcF (framesOf s) k ≠ 1 → regionOf t k = regionOf s k)
      ∧ (regionSrcF (framesOf s) k = 1 → (regionOf t k).from_ = tabGet {} s.est.sum (k / 16) ∧ (regionOf t k).blocks = (regionOf s k).blocks
        ∧ (0 < (sumGain (regionOf s k).from_ (sumNow s (k / 16))).n → (regionOf t k).cur.n = (regionOf s k).cur.n + 1))) := by
  have hev : Evolves { est := true } s (forEach ((regions s).filter (fun k => regionSrcF (framesOf s) k == 1)) s (fun s k =>
      let e := sumNow s (k / 16)
      let m := sumGain (regionOf s k).from_ e
      estSample s k e (nvMean (if regionNearF (framesOf s) k = 0 then m.alt else m.pri) (max m.n 1)))) := .forEach fun _ _ => estSample_evolves
  refine ⟨_, rfl, hev.regs_eq rfl, fun k hk => ⟨fun hne => ?_, fun heq => ?_⟩⟩
  · refine Shows.forEach_mem (g := (regionOf · k)) fun t j hj => ?_
    refine estSample_others fun e => hne ?_
    rw [e]
    simpa using (List.mem_filter.1 hj).2
  · refine forEach_once (I := fun t => regionOf t k = regionOf s k ∧ t.est.sum = s.est.sum) (Q := fun t => Sampled s t k) (regions_nodup.filter _)
      (List.mem_filter.2 ⟨hk, by simpa using heq⟩) (fun t j hj hi => ?_) (fun t hi => ?_) (fun t j hj hq => ?_) ⟨rfl, rfl⟩
    · exact ⟨(estSample_others (Ne.symm hj)).trans hi.1, sum_estSample.trans hi.2⟩
    · obtain ⟨hr, hs⟩ := hi
      have he : sumNow t (k / 16) = sumNow s (k / 16) := by
        unfold sumNow
        rw [hs]
      unfold Sampled
      rw [← hr, ← he]
      exact regionOf_estSample
    · unfold Sampled at hq ⊢
      rw [show regionOf (estSample t j _ _) k = regionOf t k from estSample_others (Ne.symm hj)]
      exact hq

/-! ## The supply report of a site -/

theorem stampTime_congr {d stamp : Nat} (ht : t.tb = s.tb) (hr : rd t (Reg.PB_LAT d) = rd s (Reg.PB_LAT d)) : stampTime t d stamp = stampTime s d stamp := by
  unfold stampTime
  rw [show now t = now s from congrArg TbSt.c ht, fld_congr hr]

theorem vrepWord_fields (v : BitVec 16) : fldOf (BitVec.ofNat 32 (v.toNat + 2 ^ 31)) F.PB_SVOLT_VALUE = v.toNat
    ∧ fldOf (BitVec.ofNat 32 (v.toNat + 2 ^ 31)) F.PB_SVOLT_VALID = 1 := by
  have := v.isLt
  have hn : (BitVec.ofNat 32 (v.toNat + 2 ^ 31)).toNat = v.toNat + 2147483648 := by
    rw [BitVec.toNat_ofNat]
    omega
  unfold fldOf
  rw [hn]
  constructor
  · simp only
    omega
  · simp only
    omega

theorem svolt_ne_lat (d : DieIx) (n : SiteIx) : Reg.PB_SVOLT d.val n.val ≠ Reg.PB_LAT d.val := by
  have := d.isLt
  show 0x16200C + 0x400 * d.val + 0x10 * n.val ≠ 0x16000C + 0x40 * d.val
  omega

theorem vrep_results (die : DieIx) (site : SiteIx) (v : BitVec 16) (stamp : BitVec 24) (s : State) (hup : dieUp s die.val = true) :
    Runs (.vrep die site v stamp) s (fun t => flag t (Reg.PB_SVOLT die.val site.val) F.PB_SVOLT_VALID = true
      ∧ fld t (Reg.PB_SVOLT die.val site.val) F.PB_SVOLT_VALUE = v.toNat ∧ (siteOf t die.val site.val).vrepTime = stampTime s die.val stamp.toNat) := by
  show ∃ t, execVrep die site v stamp s = .next t ∧ _
  unfold execVrep lane1
  extract_lets d n s0 i
  have h0 : Evolves { pb := true } s s0 := wireTake_evolves
  have hup0 : dieUp s0 d = true := hup
  clear_value s0
  rw [if_pos hup0]
  beta_reduce
  extract_lets mine s1 s2 s3 s4
  refine ⟨_, rfl, ?_⟩
  have h1 : Evolves { est := true } s0 s1 := .forEach fun _ _ => regionAgain_evolves
  have hst : stampTime s2 d stamp.toNat = stampTime s d stamp.toNat := by
    have e2 : Evolves { regs := true } s1 s2 := wrN_evolves
    refine stampTime_congr ((e2.tb_eq rfl).trans ((h1.tb_eq rfl).trans (h0.tb_eq rfl))) ?_
    have hne : Reg.PB_SVOLT d n ≠ Reg.PB_LAT d := svolt_ne_lat die site
    exact (rd_wrN_ne _ _ hne).trans ((rd_of_regs (h1.regs_eq rfl) _).trans (rd_of_regs (h0.regs_eq rfl) _))
  have h2 : rd s2 (Reg.PB_SVOLT d n) = BitVec.ofNat 32 (v.toNat + 2 ^ 31) := rd_wrN_same _ _ _
  have h3 : (siteOf s3 d n).vrepTime = stampTime s2 d stamp.toNat := congrArg SiteSt.vrepTime (siteOf_setSite_same _ _ _)
  have e3 : Evolves { pb := true } s2 s3 := setSite_evolves
  have h4 : Evolves { est := true, fab := true } s3 (forEach mine s4 fun s k => regionReport s k i) :=
    .trans setSrc_evolves.mono (.forEach fun _ _ => regionReport_evolves.mono)
  clear_value s1 s2 s3 s4
  have hw : rd (forEach mine s4 fun s k => regionReport s k i) (Reg.PB_SVOLT d n) = BitVec.ofNat 32 (v.toNat + 2 ^ 31) :=
    (rd_of_regs (h4.regs_eq rfl) _).trans ((rd_of_regs (e3.regs_eq rfl) _).trans h2)
  obtain ⟨hval, hvalid⟩ := vrepWord_fields v
  refine ⟨?_, ?_, ?_⟩
  · unfold flag
    rw [hw, hvalid]
    rfl
  · unfold fld
    rw [hw, hval]
  · rw [siteOf_of_pb (h4.pb_eq rfl), h3, hst]

/-! ## Calibration of the phases -/

theorem calibrationVisit_results (rail : ChIx) (p : Nat) (s : State) (hr : isRail s rail.val = true) (he : aOn s (Reg.CH_CAL rail.val) F.CH_CAL_CAL_EN = true)
    (hs : switching s rail.val = true) (hn : (calOf s rail.val).reading = false) (hp : calPhase s rail.val = some p) :
    Runs (.calibrationVisit rail) s (fun t => (calOf t rail.val).visit = some p
      ∧ ((phOf s p).active = false → t.ph = s.ph ∧ ((phOf s p).level = .mid → (calOf t rail.val).reading = true ∧ (calOf t rail.val).removal = false))
      ∧ ((phOf s p).active = true → removalOk s rail.val = true → (phOf t p).cal = true ∧ (phOf t p).level = .mid
          ∧ (calOf t rail.val).reading = true ∧ (calOf t rail.val).removal = true)
      ∧ ((phOf s p).active = true → removalOk s rail.val = false → t.ph = s.ph ∧ (calOf t rail.val).reading = false)) := by
  show ∃ t, execCalibrationVisit rail s = .next t ∧ _
  unfold execCalibrationVisit
  extract_lets r
  rw [if_pos ⟨hr, he, hs, by rw [hn]; rfl⟩]
  dsimp only
  rw [show calPhase s r = some p from hp]
  dsimp only
  have hv (f : CalSt → CalSt) (u : State) : calOf (setCal u r f) r = f (calOf u r) := by rw [calOf_setCal, if_pos rfl]
  have hpc (f : CalSt → CalSt) (u : State) (q : Nat) : phOf (setCal u r f) q = phOf u q := rfl
  have hph : (phOf (setCal s r fun x => { x with visit := some p }) p) = phOf s p := rfl
  have hrem : removalOk (setCal s r fun x => { x with visit := some p }) r = removalOk s r := rfl
  rw [hph, hrem]
  cases ha : (phOf s p).active
  case false =>
    rw [if_pos (by decide)]
    by_cases hm : (phOf s p).level = .mid
    · rw [if_pos hm]
      refine ⟨_, rfl, ?_, fun _ => ⟨rfl, fun _ => ?_⟩, fun h => (nomatch h), fun h => (nomatch h)⟩
      · rw [hv, hv]
      · rw [hv]
        exact ⟨rfl, rfl⟩
    · rw [if_neg hm]
      refine ⟨_, rfl, ?_, fun _ => ⟨rfl, fun h => absurd h hm⟩, fun h => (nomatch h), fun h => (nomatch h)⟩
      rw [hv]
  case true =>
    rw [if_neg (by decide)]
    cases hk : removalOk s r
    case true =>
      rw [if_pos rfl]
      refine ⟨_, rfl, ?_, fun h => (nomatch h), fun _ _ => ⟨?_, ?_, ?_, ?_⟩, fun _ h => (nomatch h)⟩
      · rw [hv]
        show (calOf (setPh (setCal s r _) p _) r).visit = _
        rw [calOf_of_est (setPh_evolves.est_eq rfl), hv]
      · rw [hpc, phOf_setPh, if_pos rfl]
      · rw [hpc, phOf_setPh, if_pos rfl]
        rfl
      · rw [hv]
      · rw [hv]
    case false =>
      rw [if_neg (by decide)]
      refine ⟨_, rfl, ?_, fun h => (nomatch h), fun _ h => (nomatch h), fun _ _ => ⟨rfl, ?_⟩⟩
      · rw [hv]
      · rw [hv]
        exact hn

/-- R462: a step toward a target is no longer than the limit and does not pass it. -/
theorem toward_results (x z : Int) (step : Nat) : absI (toward x z step - x) ≤ step ∧ absI (toward x z step - z) ≤ absI (x - z) := by
  unfold toward absI
  constructor <;> split <;> split <;> omega

theorem unsx_lt (w : Nat) (x : Int) : unsx w x < 2 ^ w := by
  unfold unsx
  have := Int.emod_lt_of_pos x (b := ((2 ^ w : Nat) : Int)) (by exact_mod_cast Nat.two_pow_pos w)
  have := Int.emod_nonneg x (b := ((2 ^ w : Nat) : Int)) (by have := Nat.two_pow_pos w; omega)
  omega

theorem calCnt_ne_phOff (r p : Nat) : Reg.CH_CAL_CNT r ≠ Reg.PH_OFF p := by
  show 0x120128 + 0x1000 * r ≠ 0x100054 + 0x100 * p
  omega

theorem calibrationReading_results (rail : ChIx) (z : Int) (flat : Bool) (p : Nat) (s : State) (hr : (calOf s rail.val).reading = true)
    (hv : (calOf s rail.val).visit = some p) (hp : p < 64) :
    let whole : Bool := flat && switching s rail.val && !((calOf s rail.val).removal && !(phOf s p).cal)
    let lim : Int := (aF s (Reg.CH_CAL rail.val) F.CH_CAL_OFF_MAX * 16 : Nat)
    let old := sext 16 (fld s (Reg.PH_OFF p) F.PH_OFF_OFFSET)
    let step : Int := (aF s (Reg.CH_CAL rail.val) F.CH_CAL_OFF_STEP * 2 : Nat)
    Runs (.calibrationReading rail z flat) s (fun t => (calOf t rail.val).reading = false ∧ (phOf t p).cal = false
      ∧ (whole = false → (calOf t rail.val).visit = some p ∧ rd t (Reg.PH_OFF p) = rd s (Reg.PH_OFF p)
          ∧ fld t (Reg.CH_CAL_CNT rail.val) F.CH_CAL_CNT_INCOMPLETE = min (fld s (Reg.CH_CAL_CNT rail.val) F.CH_CAL_CNT_INCOMPLETE + 1) 255)
      ∧ (whole = true → absI z ≤ lim → flag t (Reg.PH_OFF p) F.PH_OFF_VALID = true
          ∧ (tabGet 0 s.est.readAt p = 0 → fld t (Reg.PH_OFF p) F.PH_OFF_OFFSET = unsx 16 z)
          ∧ (tabGet 0 s.est.readAt p ≠ 0 → ∃ v : Int, fld t (Reg.PH_OFF p) F.PH_OFF_OFFSET = unsx 16 v ∧ absI (v - old) ≤ step
              ∧ absI (v - z) ≤ absI (old - z)))
      ∧ (whole = true → lim < absI z → fld t (Reg.PH_OFF p) F.PH_OFF_OFFSET = fld s (Reg.PH_OFF p) F.PH_OFF_OFFSET
          ∧ fld t (Reg.CH_CAL_CNT rail.val) F.CH_CAL_CNT_RANGE = min (fld s (Reg.CH_CAL_CNT rail.val) F.CH_CAL_CNT_RANGE + 1) 255
          ∧ (2 ≤ tabGet 0 s.est.oor p → flag t (Reg.PH_OFF p) F.PH_OFF_CAL_RANGE = true))) := by
  intro whole lim old step
  show ∃ t, execCalibrationReading rail z flat s = .next t ∧ _
  unfold execCalibrationReading
  extract_lets r c
  split
  case h_2 h => exact absurd hv (h _ hr)
  case h_1 p' _ hv' =>
  obtain rfl : p' = p := Option.some.inj (hv'.symm.trans hv)
  extract_lets ended s1 s2 first s3 _ s4 s5 n s6 s7 _ s8 _ s9 old' v
  have hne := calCnt_ne_phOff r p'
  have hwhole : (!flat || ended) = !whole := by
    show (!flat || (((calOf s rail.val).removal && !(phOf s p').cal) || !switching s rail.val))
      = !(flat && switching s rail.val && !((calOf s rail.val).removal && !(phOf s p').cal))
    cases flat <;> cases switching s rail.val <;> simp
  have hcal2 : (calOf s2 r).visit = some p' ∧ (calOf s2 r).reading = false := by
    have h : calOf s2 r = { calOf s1 r with reading := false, removal := false } := by
      show calOf (setCal _ _ _) r = _
      rw [calOf_setCal, if_pos rfl]
    rw [h]
    exact ⟨hv', rfl⟩
  have hph2 : (phOf s2 p').cal = false := by
    have h : phOf s2 p' = phOf s1 p' := rfl
    rw [h, phOf_setPh, if_pos rfl]
  have hoor : n = tabGet 0 s.est.oor p' + 1 := rfl
  have hfirst : first = (tabGet 0 s.est.readAt p' == 0) := rfl
  have hcal5 : (calOf s5 r).reading = false := by
    have h : calOf s5 r = { calOf s4 r with visit := some (p' + 1) } := by
      show calOf (setCal _ _ _) r = _
      rw [calOf_setCal, if_pos rfl]
    rw [h]
    exact hcal2.2
  have e2 : Evolves { ph := true, est := true } s s2 := .trans setPh_evolves.mono setCal_evolves.mono
  have h23 : Evolves { regs := true } s2 s3 := bump_evolves
  have h35 : Evolves { est := true } s3 s5 := .trans .set_est setCal_evolves
  have h56 : Evolves { regs := true } s5 s6 := bump_evolves
  have h67 : Evolves { regs := true, drain := true, recd := true } s6 s7 := record_evolves
  have h78 : Evolves { est := true } s7 s8 := .set_est
  have h59 : Evolves { est := true } s5 s9 := .set_est
  have hc8 (q : Nat) : calOf s8 q = calOf s7 q := rfl
  have hc9 (q : Nat) : calOf s9 q = calOf s5 q := rfl
  have r23 : rd s3 (Reg.PH_OFF p') = rd s2 (Reg.PH_OFF p') := rd_bump_ne _ _ hne
  have r56 : rd s6 (Reg.PH_OFF p') = rd s5 (Reg.PH_OFF p') := rd_bump_ne _ _ hne
  have hk3 : fld s3 (Reg.CH_CAL_CNT r) F.CH_CAL_CNT_RANGE = fld s2 (Reg.CH_CAL_CNT r) F.CH_CAL_CNT_RANGE :=
    fld_setF_apart _ _ _ _ _ (by decide) (by decide)
  have hk6 : fld s6 (Reg.CH_CAL_CNT r) F.CH_CAL_CNT_RANGE = min (fld s5 (Reg.CH_CAL_CNT r) F.CH_CAL_CNT_RANGE + 1) 255 := fld_bump_same _ _ _ (by decide)
  have r67 : RdBut [(Reg.REC_EVENT, 0, 0), (Reg.REC_ARB_DROP 0, 0, 0), (Reg.REC_ARB_DROP 1, 0, 0), (Reg.REC_ARB_DROP 2, 0, 0), (Reg.TOP_DRAIN_CNT 8, 0, 0),
      (Reg.TOP_DRAIN_STATUS, 0, 0)] s6 s7 := record_rdBut
  rw [hwhole]
  have hold : old' = sext 16 (fld s9 (Reg.PH_OFF p') F.PH_OFF_OFFSET) := rfl
  have hv9 : v = if (!first) = true then toward old' z (aF s9 (Reg.CH_CAL r) F.CH_CAL_OFF_STEP * 2 : Nat) else z := rfl
  clear_value s2 s3 s5 s6 s7 s8 s9 n first old' v whole
  have rd2 (off : Nat) : rd s2 off = rd s off := rd_of_regs (e2.regs_eq rfl) off
  have rd5 (off : Nat) : rd s5 off = rd s3 off := rd_of_regs (h35.regs_eq rfl) off
  have hoff5 : rd s5 (Reg.PH_OFF p') = rd s (Reg.PH_OFF p') := (rd5 _).trans (r23.trans (rd2 _))
  have hph5 : (phOf s5 p').cal = false := by
    rw [phOf_of_ph ((h35.ph_eq rfl).trans (h23.ph_eq rfl)), hph2]
  cases whole
  case false =>
    rw [if_pos (by decide)]
    have hb : Evolves { regs := true } s2 (bump s2 (Reg.CH_CAL_CNT r) F.CH_CAL_CNT_INCOMPLETE) := bump_evolves
    refine ⟨_, rfl, ?_, ?_, fun _ => ⟨?_, ?_, ?_⟩, fun h => (nomatch h), fun h => (nomatch h)⟩
    · rw [calOf_of_est (hb.est_eq rfl)]
      exact hcal2.2
    · rw [phOf_of_ph (hb.ph_eq rfl), hph2]
    · rw [calOf_of_est (hb.est_eq rfl)]
      exact hcal2.1
    · exact (rd_bump_ne _ _ hne).trans (rd2 _)
    · refine (fld_bump_same _ _ _ (by decide)).trans ?_
      rw [fld_congr (rd2 _)]
      rfl
  case true =>
    have hlim : (aF s5 (Reg.CH_CAL r) F.CH_CAL_OFF_MAX * 16 : Nat) = lim := by
      rw [aF_of_active ((h35.active_eq rfl).trans ((h23.active_eq rfl).trans (e2.active_eq rfl)))]
    rw [if_neg (by decide)]
    by_cases hz : lim < absI z
    · rw [if_pos (by rw [hlim]; exact hz)]
      have hraise : Evolves { regs := true } s8 (if 3 ≤ n then raise s8 (Reg.PH_OFF p') F.PH_OFF_CAL_RANGE else s8) := .ite raise_evolves .refl
      have h68 : rd s8 (Reg.PH_OFF p') = rd s (Reg.PH_OFF p') := by
        rw [rd_of_regs (h78.regs_eq rfl), r67.rd_eq (misses_fin (g := Reg.PH_OFF) (by decide +kernel) ⟨p', hp⟩), r56, hoff5]
      refine ⟨_, rfl, ?_, ?_, fun h => (nomatch h), fun _ h => absurd hz (by omega), fun _ _ => ⟨?_, ?_, fun hn => ?_⟩⟩
      · rw [calOf_of_est (hraise.est_eq rfl), hc8, calOf_of_est (h67.est_eq rfl), calOf_of_est (h56.est_eq rfl)]
        exact hcal5
      · rw [phOf_of_ph (hraise.ph_eq rfl), phOf_of_ph (h78.ph_eq rfl), phOf_of_ph (h67.ph_eq rfl), phOf_of_ph (h56.ph_eq rfl), hph5]
      · refine Eq.trans ?_ (fld_congr h68 _)
        split
        · exact fld_setF_apart _ _ _ _ _ (by decide) (by decide)
        · rfl
      · have hc : rd (if 3 ≤ n then raise s8 (Reg.PH_OFF p') F.PH_OFF_CAL_RANGE else s8) (Reg.CH_CAL_CNT r) = rd s8 (Reg.CH_CAL_CNT r) := by
          split
          · exact rd_raise_ne _ _ (Ne.symm hne)
          · rfl
        refine (fld_congr (hc.trans (rd_of_regs (h78.regs_eq rfl) _)) _).trans ?_
        refine (r67.fld_eq _ (misses_fin (g := Reg.CH_CAL_CNT) (by decide +kernel) rail)).trans ?_
        rw [hk6, fld_congr (rd5 _), hk3, fld_congr (rd2 _)]
      · rw [if_pos (by omega)]
        exact flag_raise _ _ _ (by decide)
    · rw [if_neg (by rw [hlim]; exact hz)]
      have hr9 : rd s9 (Reg.PH_OFF p') = rd s (Reg.PH_OFF p') := (rd_of_regs (h59.regs_eq rfl) _).trans hoff5
      have hend : Evolves { regs := true } s9 (raise (setF s9 (Reg.PH_OFF p') F.PH_OFF_OFFSET (unsx 16 v)) (Reg.PH_OFF p') F.PH_OFF_VALID) :=
        setF_evolves.trans raise_evolves
      have hoffset : fld (raise (setF s9 (Reg.PH_OFF p') F.PH_OFF_OFFSET (unsx 16 v)) (Reg.PH_OFF p') F.PH_OFF_VALID) (Reg.PH_OFF p') F.PH_OFF_OFFSET = unsx 16 v := by
        refine (fld_setF_apart _ _ _ _ _ (by decide) (by decide)).trans ((fld_setF_same _ _ _ _ (by decide)).trans ?_)
        exact Nat.mod_eq_of_lt (unsx_lt 16 v)
      refine ⟨_, rfl, ?_, ?_, fun h => (nomatch h), fun _ _ => ⟨flag_raise _ _ _ (by decide), fun h0 => ?_, fun h0 => ?_⟩, fun _ h => absurd h hz⟩
      · rw [calOf_of_est (hend.est_eq rfl), hc9]
        exact hcal5
      · rw [phOf_of_ph (hend.ph_eq rfl), phOf_of_ph (h59.ph_eq rfl), hph5]
      · rw [hoffset, hv9, hfirst, h0]
        rfl
      · refine ⟨v, hoffset, ?_⟩
        have hv : v = toward old z (aF s (Reg.CH_CAL r) F.CH_CAL_OFF_STEP * 2 : Nat) := by
          rw [hv9, hfirst, hold, fld_congr hr9,
            aF_of_active ((h59.active_eq rfl).trans ((h35.active_eq rfl).trans ((h23.active_eq rfl).trans (e2.active_eq rfl))))]
          simp [h0, old]
        rw [hv]
        exact toward_results _ _ _

/-- Settles O37: one rule per command of the estimator and of the calibration, over the region or the phase that it names. -/
theorem estimatorAndCalibrationResults : Obligations.EstimatorAndCalibrationResults := by
  unfold Obligations.EstimatorAndCalibrationResults
  exact ⟨⟨ditherChip_results, vrep_results, estimatorSample_results, estimatorRefresh_results, ncrEnter_results, captureTimeout_results⟩,
    calibrationVisit_results, calibrationReading_results⟩

end

end Sys2Proof.Machine
end

section
/-! PROOF. Rules of the cores' memory operations: what stores, drains, fills and write-backs leave of a core and of the firmware complex. -/

namespace Sys2Proof.Machine
open Host
set_option Elab.async false

section
variable {s t u : State} {n : Nat}

theorem coreOf_setCore_same (i : Nat) (f : CoreSt → CoreSt) : coreOf (setCore s i f) i = f (coreOf s i) := tabGet_tabSet_same _ _ _ _

/-! ## What the memory operations leave of a core -/

/-- A core without its caches and its reservation. -/
def held (c : CoreSt) : CoreSt := { c with iset := [], dset := [], miss := [], wb := [], resv := none }

/-- The firmware complex without its memory and without what a memory operation changes of a core. -/
def holding (s : State) : (Nat → CoreSt) × Tab Word × Tab MbxSt × (Nat × Tab Nat × Tab Nat × FwLdSt × Bool) :=
  (fun n => held (coreOf s n), s.fwc.flags, s.fwc.mbx, s.fwc.mtime, s.fwc.mtimecmp, s.fwc.mip, s.fwc.ld, s.fwc.secUp)

theorem holding_of_fwc (h : t.fwc = s.fwc) : Shows holding s t := by
  unfold Shows holding
  rw [h]
  simp only [coreOf_of_fwc h]

theorem holding_setCore {f : CoreSt → CoreSt} (hf : ∀ c, held (f c) = held c := by intro _; rfl) : Shows holding s (setCore s n f) := by
  refine Prod.ext (funext fun j => ?_) rfl
  show held (coreOf (setCore s n f) j) = held (coreOf s j)
  rw [coreOf_setCore]
  split
  next h => rw [hf, h]
  next => rfl

theorem held_putCacheSet {c : CoreSt} {ic : Bool} {line : Nat} {x : CacheSet} : held (putCacheSet c ic line x) = held c := by
  cases ic <;> rfl

theorem held_untag {c : CoreSt} {ic : Bool} {line : Nat} : held (untag c ic line) = held c := by
  unfold untag
  split
  · exact held_putCacheSet
  · rfl

theorem holding_flushLine {line : Nat} : Shows holding s (flushLine s line) := by
  unfold flushLine
  exact .both .refl ((Shows.of_eq (t := memPoke (dropDirty s line) _ _) rfl).trans holding_setCore)

theorem holding_toWb {line : Nat} : Shows holding s (toWb s n line) := by
  unfold toWb
  extract_lets s1 d _ s2
  have h1 : Shows holding s s1 := by
    dsimp only [s1]
    split
    · exact .both holding_flushLine .refl
    · exact .refl
  exact h1.trans ((Shows.of_eq (t := s2) rfl).trans holding_setCore)

theorem holding_fillLine {ic : Bool} {line : Nat} : Shows holding s (fillLine s n ic line) := by
  unfold fillLine
  extract_lets c k x
  split
  · exact holding_setCore fun _ => held_putCacheSet
  · exact (Shows.both holding_toWb .refl).trans (holding_setCore fun _ => held_putCacheSet)

theorem holding_othersLose {line : Nat} : Shows holding s (othersLose s n line) := by
  unfold othersLose
  refine .forEach fun t m => holding_setCore fun c => ?_
  extract_lets c'
  exact held_untag (c := c) (ic := false) (line := line)

theorem holding_dirty {d : Tab DirtyLine} : Shows holding s { s with fwc := { s.fwc with dirty := d } } := rfl

theorem holding_cacheStore {ix : Nat} {b : List Byte} : Shows holding s (cacheStore s n ix b) := by
  unfold cacheStore
  refine .forEach fun t l => ?_
  extract_lets s1 own s2 s3 s4 d
  have h1 : Shows holding t s1 := holding_othersLose
  have h2 : Shows holding s1 s2 := .both .refl holding_flushLine
  have h3 : Shows holding s2 s3 := .both .refl (holding_of_fwc (bump_evolves.fwc_eq rfl))
  have h4 : Shows holding s3 s4 := holding_fillLine
  clear_value d s4 s3 s2 own s1
  exact h1.trans (h2.trans (h3.trans (h4.trans holding_dirty)))

theorem holding_memWrite {by_ ix : Nat} {b : List Byte} : Shows holding s (memWrite s by_ ix b) := by
  unfold memWrite
  extract_lets s1
  have h1 : Shows holding s s1 := by
    refine .forEach fun t l => ?_
    extract_lets s2
    have h2 : Shows holding t s2 := holding_othersLose.trans holding_flushLine
    exact h2.trans (.both (holding_setCore fun _ => held_untag) .refl)
  exact h1.trans (.of_eq rfl)

theorem holding_memStore {a : Nat} {b : List Byte} : Shows holding s (memStore s n a b) := by
  unfold memStore
  split
  · exact holding_cacheStore
  · exact holding_memWrite
  · exact .refl

/-- A core without its caches, its store buffer and its reservation. -/
def plain (c : CoreSt) : CoreSt := { held c with sb := [] }

/-- The firmware complex without its memory and without what a drain changes of a core. -/
def steady (s : State) : (Nat → CoreSt) × Tab Word × Tab MbxSt × (Nat × Tab Nat × Tab Nat × FwLdSt × Bool) :=
  (fun n => plain (coreOf s n), (holding s).2)

theorem steady_of_holding (h : Shows holding s t) : Shows steady s t := by
  have h1 (m : Nat) : held (coreOf t m) = held (coreOf s m) := congrFun (congrArg Prod.fst h) m
  refine Prod.ext (funext fun m => ?_) (congrArg Prod.snd h.eq :)
  show plain (coreOf t m) = plain (coreOf s m)
  unfold plain
  rw [h1]

theorem steady_setCore {f : CoreSt → CoreSt} (hf : ∀ c, plain (f c) = plain c := by intro _; rfl) : Shows steady s (setCore s n f) := by
  refine Prod.ext (funext fun j => ?_) rfl
  show plain (coreOf (setCore s n f) j) = plain (coreOf s j)
  rw [coreOf_setCore]
  split
  next h => rw [hf, h]
  next => rfl

theorem sb_of_holding (h : Shows holding s t) (m : Nat) : (coreOf t m).sb = (coreOf s m).sb := by
  have h1 : held (coreOf t m) = held (coreOf s m) := congrFun (congrArg Prod.fst h) m
  exact (congrArg CoreSt.sb h1 :)

theorem steady_drainOne : Shows steady s (drainOne s n) := by
  unfold drainOne
  split
  · exact .refl
  · exact Shows.trans steady_setCore (steady_of_holding holding_memStore)

theorem steady_drainAll : Shows steady s (drainAll s n) := .forEach fun _ _ => steady_drainOne

theorem plain_of_steady (h : Shows steady s t) (m : Nat) : plain (coreOf t m) = plain (coreOf s m) := congrFun (congrArg Prod.fst h) m

theorem mbx_of_steady (h : Shows steady s t) : t.fwc.mbx = s.fwc.mbx := congrArg (fun x => x.2.2.1) h

theorem flags_of_steady (h : Shows steady s t) : t.fwc.flags = s.fwc.flags := congrArg (fun x => x.2.1) h

theorem tag_of_steady (h : Shows steady s t) (m : Nat) : (coreOf t m).tag = (coreOf s m).tag := by
  have := congrArg CoreSt.tag (plain_of_steady h m)
  exact this

theorem tagOf_of_steady (h : Shows steady s t) (m : Nat) : tagOf t m = tagOf s m := by
  unfold tagOf
  rw [tag_of_steady h]

theorem coreTags_of_img (h : t.img = s.img) (m : Nat) : coreTags t m = coreTags s m := by
  unfold coreTags
  rw [framesOf_of_img h]

theorem tagIn_of_steady (h : Shows steady s t) (hi : t.img = s.img) (w m : Nat) : tagIn t w m = tagIn s w m := by
  unfold tagIn
  rw [coreTags_of_img hi, tagOf_of_steady h]

/-! ## Registers -/

theorem coreFault_rdBut {cause : Nat} : RdBut [] s (coreFault s n cause) := .of_evolves coreFault_evolves

theorem cacheStore_rdBut {ix : Nat} {b : List Byte} : RdBut [(Reg.FWC_MISS_CNT 0, 0x20, 0)] s (cacheStore s n ix b) := by
  unfold cacheStore
  refine .forEach fun t l => ?_
  extract_lets s1 own s2 s3 s4 d
  have h1 : RdBut [(Reg.FWC_MISS_CNT 0, 0x20, 0)] t s1 := .of_evolves othersLose_evolves
  have h2 : RdBut [(Reg.FWC_MISS_CNT 0, 0x20, 0)] s1 s2 := .ite .refl (.of_evolves flushLine_evolves)
  have h3 : RdBut [(Reg.FWC_MISS_CNT 0, 0x20, 0)] s2 s3 := .ite .refl bump_rdBut1
  have h4 : RdBut [(Reg.FWC_MISS_CNT 0, 0x20, 0)] s3 s4 := .of_evolves fillLine_evolves
  clear_value s4 d
  exact h1.trans (h2.trans (h3.trans (h4.trans (.of_regs rfl))))

theorem memStore_rdBut {a : Nat} {b : List Byte} : RdBut [(Reg.FWC_MISS_CNT 0, 0x20, 0)] s (memStore s n a b) := by
  unfold memStore
  split
  · exact cacheStore_rdBut
  · exact .of_evolves memWrite_evolves
  · exact .refl

theorem drainOne_rdBut : RdBut [(Reg.FWC_MISS_CNT 0, 0x20, 0)] s (drainOne s n) := by
  unfold drainOne
  split
  · exact .refl
  · exact (RdBut.of_evolves (W := { fwc := true }) setCore_evolves).trans memStore_rdBut

theorem drainAll_rdBut : RdBut [(Reg.FWC_MISS_CNT 0, 0x20, 0)] s (drainAll s n) := .forEach fun _ _ => drainOne_rdBut

end

end Sys2Proof.Machine
end

section
/-! PROOF. Mailbox flags, doorbells and messages (O49). -/

namespace Sys2Proof.Machine
open Host
set_option Elab.async false

section
variable {s t u : State} {w n : Nat}

/-- What an access that the mailbox refuses answers and counts. -/
def mbxBad (s : State) (w off : Nat) : State := coreViol s w (tagOf s w) (0x50000000 + off) (0x50000000 + off) 7

theorem mbxWrite_flag (k : Fin 64) (v : Word) : mbxWrite s w (4 * k.val) v
    = if flagPlaneF (framesOf s) k.val = tagOf s w then { s with fwc := { s.fwc with flags := tabSet 0 s.fwc.flags k.val v } } else mbxBad s w (4 * k.val) := by
  have := k.isLt
  unfold mbxWrite mbxBad
  rw [if_pos (by omega), Nat.mul_div_cancel_left _ (by decide)]

theorem mbx_offset (target : Fin 9) {c : Nat} (hc : c < 0x20) : ¬ (0x200 + 0x20 * target.val + c < 0x100)
    ∧ (0x200 ≤ 0x200 + 0x20 * target.val + c ∧ 0x200 + 0x20 * target.val + c < 0x200 + 9 * 0x20)
    ∧ (0x200 + 0x20 * target.val + c - 0x200) / 0x20 = target.val ∧ (0x200 + 0x20 * target.val + c - 0x200) % 0x20 = c := by
  have := target.isLt
  omega

theorem mbxWrite_db (target : Fin 9) (v : Word) : mbxWrite s w (0x200 + 0x20 * target.val) v
    = if tagIn s w target.val = true then dbSet s target.val v.toNat else mbxBad s w (0x200 + 0x20 * target.val) := by
  obtain ⟨h1, h2, h3, h4⟩ := mbx_offset target (c := 0) (by decide)
  unfold mbxWrite mbxBad
  simp only [Nat.add_zero] at h1 h2 h3 h4
  simp only [if_neg h1, if_pos h2, h3, h4]

theorem mbxWrite_msg (target : Fin 9) (v : Word) : mbxWrite s w (0x20C + 0x20 * target.val) v
    = if tagIn s w target.val = true then mbxPush s target.val v else mbxBad s w (0x20C + 0x20 * target.val) := by
  obtain ⟨h1, h2, h3, h4⟩ := mbx_offset target (c := 0x0C) (by decide)
  rw [show 0x20C + 0x20 * target.val = 0x200 + 0x20 * target.val + 0x0C by omega]
  unfold mbxWrite mbxBad
  simp only [if_neg h1, if_pos h2, h3, h4]

theorem mbxRead_pop (target : Fin 9) : mbxRead s w (0x210 + 0x20 * target.val)
    = if w = target.val then mbxPop s target.val else if w < 8 then coreFault s w 5 else { s with resp := .word 0 } := by
  obtain ⟨h1, h2, h3, h4⟩ := mbx_offset target (c := 0x10) (by decide)
  rw [show 0x210 + 0x20 * target.val = 0x200 + 0x20 * target.val + 0x10 by omega]
  unfold mbxRead
  simp only [if_neg h1, if_pos h2, h3, h4]

/-- A writer that may reach the mailbox: a running core that is not stalled, or SEC. -/
def mbxCan (s : State) (w : Nat) : Prop := if w < 8 then coreRuns s w = true ∧ coreStalled s w = false else s.fwc.secUp = true ∧ fwOn s = true

/-- An access runs on a state that differs from the writer's in its store buffer, in memory and in the caches alone. -/
theorem mbxBy_of_can (h : mbxCan s w) : ∃ u, (∀ f, mbxBy s w f = f u) ∧ Shows steady s u ∧ RdBut [(Reg.FWC_MISS_CNT 0, 0x20, 0)] s u ∧ u.img = s.img := by
  unfold mbxCan at h
  by_cases hw : w < 8
  · rw [if_pos hw] at h
    obtain ⟨hr, hs⟩ := h
    refine ⟨drainAll s w, fun f => ?_, steady_drainAll, drainAll_rdBut, drainAll_evolves.img_eq rfl⟩
    unfold mbxBy
    rw [if_pos hw, if_pos ⟨hr, by rw [hs]; rfl⟩]
  · rw [if_neg hw] at h
    obtain ⟨hu, hf⟩ := h
    refine ⟨s, fun f => ?_, .refl, .refl, rfl⟩
    unfold mbxBy
    rw [if_neg hw, if_pos (by rw [hu, hf]; rfl)]

/-- R717: what a write that the mailbox turns away changes. -/
def MbxRefused (s t : State) : Prop := t.fwc.mbx = s.fwc.mbx ∧ t.fwc.flags = s.fwc.flags
  ∧ fld t Reg.TOP_PLANE_VIOL_CNT ⟨0, 16⟩ = min (fld s Reg.TOP_PLANE_VIOL_CNT ⟨0, 16⟩ + 1) 65535

theorem mbx_coreFault {cause : Nat} : (coreFault s n cause).fwc.mbx = s.fwc.mbx ∧ (coreFault s n cause).fwc.flags = s.fwc.flags := ⟨rfl, rfl⟩

theorem coreViol_results {tag off addr cause : Nat} : MbxRefused s (coreViol s w tag off addr cause) := by
  unfold coreViol
  extract_lets s1 s2 s3
  have h1 : rd s1 Reg.TOP_PLANE_VIOL_CNT = rd s Reg.TOP_PLANE_VIOL_CNT := rd_raise_ne _ _ (by decide)
  have h2 : fld s2 Reg.TOP_PLANE_VIOL_CNT ⟨0, 16⟩ = min (fld s1 Reg.TOP_PLANE_VIOL_CNT ⟨0, 16⟩ + 1) 65535 := fld_bump_same _ _ _ (by decide)
  have h3 : RdBut [(Reg.REC_EVENT, 0, 0), (Reg.REC_ARB_DROP 0, 0, 0), (Reg.REC_ARB_DROP 1, 0, 0), (Reg.REC_ARB_DROP 2, 0, 0), (Reg.TOP_DRAIN_CNT 8, 0, 0),
      (Reg.TOP_DRAIN_STATUS, 0, 0)] s2 s3 := record_rdBut
  have e3 : Evolves { regs := true, drain := true, recd := true } s s3 := .trans raise_evolves.mono (.trans bump_evolves.mono record_evolves.mono)
  clear_value s1 s2 s3
  have hend : RdBut [] s3 (if w < 8 then coreFault s3 w cause else s3) := .ite coreFault_rdBut .refl
  have hm : (if w < 8 then coreFault s3 w cause else s3).fwc.mbx = s.fwc.mbx ∧ (if w < 8 then coreFault s3 w cause else s3).fwc.flags = s.fwc.flags := by
    rw [← e3.fwc_eq rfl]
    split
    · exact mbx_coreFault
    · exact ⟨rfl, rfl⟩
  obtain ⟨hmbx, hflags⟩ := hm
  refine ⟨hmbx, hflags, ?_⟩
  rw [hend.fld_eq _ rfl, h3.fld_eq _, h2, fld_congr h1]

theorem mbxBad_results {off : Nat} : MbxRefused s (mbxBad s w off) := coreViol_results

theorem MbxRefused.of_steady (h : Shows steady s u) (hr : RdBut [(Reg.FWC_MISS_CNT 0, 0x20, 0)] s u) (hb : MbxRefused u t) : MbxRefused s t := by
  obtain ⟨h1, h2, h3⟩ := hb
  exact ⟨h1.trans (mbx_of_steady h), h2.trans (flags_of_steady h), by rw [h3, hr.fld_eq]⟩

theorem mbxFlagWrite_results (w : Fin 9) (word : Fin 64) (val : Word) (s : State) (h : mbxCan s w.val) :
    Runs (.mbxFlagWrite w word val) s (fun t =>
      (flagPlaneF (framesOf s) word.val = tagOf s w.val → tabGet 0 t.fwc.flags word.val = val ∧ ∀ k, k ≠ word.val → tabGet 0 t.fwc.flags k = tabGet 0 s.fwc.flags k)
      ∧ (flagPlaneF (framesOf s) word.val ≠ tagOf s w.val → t.fwc.flags = s.fwc.flags
          ∧ fld t Reg.TOP_PLANE_VIOL_CNT ⟨0, 16⟩ = min (fld s Reg.TOP_PLANE_VIOL_CNT ⟨0, 16⟩ + 1) 65535)) := by
  obtain ⟨u, hu, hs, hr, hi⟩ := mbxBy_of_can h
  refine ⟨_, congrArg Outcome.next (hu _), ?_⟩
  rw [mbxWrite_flag, framesOf_of_img hi, tagOf_of_steady hs]
  by_cases hp : flagPlaneF (framesOf s) word.val = tagOf s w.val
  · rw [if_pos hp]
    refine ⟨fun _ => ⟨tabGet_tabSet_same _ _ _ _, fun k hk => ?_⟩, fun hn => absurd hp hn⟩
    rw [← flags_of_steady hs]
    exact tabGet_tabSet_ne _ _ _ (Ne.symm hk)
  · rw [if_neg hp]
    obtain ⟨_, hf, hc⟩ := MbxRefused.of_steady hs hr (mbxBad_results (w := w.val) (off := 4 * word.val))
    exact ⟨fun hq => absurd hq hp, fun _ => ⟨hf, hc⟩⟩

theorem mbxDbSet_results (w target : Fin 9) (bits : Word) (s : State) (h : mbxCan s w.val) :
    Runs (.mbxDbSet w target bits) s (fun t =>
      (tagIn s w.val target.val = true → (mbxOf t target.val).db = (mbxOf s target.val).db ||| bits)
      ∧ (tagIn s w.val target.val = false → t.fwc.mbx = s.fwc.mbx
          ∧ fld t Reg.TOP_PLANE_VIOL_CNT ⟨0, 16⟩ = min (fld s Reg.TOP_PLANE_VIOL_CNT ⟨0, 16⟩ + 1) 65535)) := by
  obtain ⟨u, hu, hs, hr, hi⟩ := mbxBy_of_can h
  refine ⟨_, congrArg Outcome.next (hu _), ?_⟩
  rw [mbxWrite_db, tagIn_of_steady hs hi]
  cases tagIn s w.val target.val
  · obtain ⟨hm, _, hc⟩ := MbxRefused.of_steady hs hr (mbxBad_results (w := w.val) (off := 0x200 + 0x20 * target.val))
    exact ⟨fun h => (nomatch h), fun _ => ⟨hm, hc⟩⟩
  · refine ⟨fun _ => ?_, fun h => (nomatch h)⟩
    rw [if_pos rfl, dbSet, mbxOf_setMbx, if_pos rfl, mbxOf, mbx_of_steady hs, BitVec.ofNat_toNat, BitVec.setWidth_eq]
    rfl

theorem mbxMsg_results (w target : Fin 9) (word : Word) (s : State) (h : mbxCan s w.val) :
    Runs (.mbxMsg w target word) s (fun t =>
      (tagIn s w.val target.val = true → (mbxOf s target.val).queue.length < 16 →
        (mbxOf t target.val).queue = (mbxOf s target.val).queue ++ [word] ∧ (mbxOf t target.val).lost = (mbxOf s target.val).lost)
      ∧ (tagIn s w.val target.val = true → 16 ≤ (mbxOf s target.val).queue.length →
        (mbxOf t target.val).queue = (mbxOf s target.val).queue ∧ (mbxOf t target.val).lost = min ((mbxOf s target.val).lost + 1) 65535
          ∧ flag t Reg.FWC_EVENT F.FWC_EVENT_MSG_OVERFLOW = true)
      ∧ (tagIn s w.val target.val = false → t.fwc.mbx = s.fwc.mbx
          ∧ fld t Reg.TOP_PLANE_VIOL_CNT ⟨0, 16⟩ = min (fld s Reg.TOP_PLANE_VIOL_CNT ⟨0, 16⟩ + 1) 65535)) := by
  obtain ⟨u, hu, hs, hr, hi⟩ := mbxBy_of_can h
  refine ⟨_, congrArg Outcome.next (hu _), ?_⟩
  have hm : mbxOf u target.val = mbxOf s target.val := by
    unfold mbxOf
    rw [mbx_of_steady hs]
  rw [mbxWrite_msg, tagIn_of_steady hs hi]
  cases tagIn s w.val target.val
  · obtain ⟨hm, _, hc⟩ := MbxRefused.of_steady hs hr (mbxBad_results (w := w.val) (off := 0x20C + 0x20 * target.val))
    exact ⟨fun h => (nomatch h), fun h => (nomatch h), fun _ => ⟨hm, hc⟩⟩
  · rw [if_pos rfl]
    unfold mbxPush
    rw [hm]
    by_cases hf : 16 ≤ (mbxOf s target.val).queue.length
    · rw [if_pos hf]
      refine ⟨fun _ hn => absurd hf (by omega), fun _ _ => ⟨?_, ?_, flag_raise _ _ _ (by decide)⟩, fun h => (nomatch h)⟩
      · rw [mbxOf_of_fwc (raise_evolves.fwc_eq rfl), mbxOf_setMbx, if_pos rfl, hm]
      · rw [mbxOf_of_fwc (raise_evolves.fwc_eq rfl), mbxOf_setMbx, if_pos rfl, hm]
    · rw [if_neg hf]
      refine ⟨fun _ _ => ⟨?_, ?_⟩, fun _ hn => absurd hn hf, fun h => (nomatch h)⟩
      · rw [mbxOf_setMbx, if_pos rfl, hm]
      · rw [mbxOf_setMbx, if_pos rfl, hm]

theorem mbxPop_results : (mbxPop s n).resp = .word ((mbxOf s n).queue.headD 0) ∧ (mbxOf (mbxPop s n) n).queue = (mbxOf s n).queue.tail := by
  unfold mbxPop
  split
  next hq =>
    rw [hq]
    exact ⟨rfl, hq⟩
  next x rest hq =>
    rw [hq]
    refine ⟨rfl, ?_⟩
    rw [mbxOf_setMbx, if_pos rfl]
    rfl

theorem mbxMsgPop_results (w target : Fin 9) (s : State) (h : mbxCan s w.val) :
    Runs (.mbxMsgPop w target) s (fun t =>
      (w = target → t.resp = .word ((mbxOf s w.val).queue.headD 0) ∧ (mbxOf t w.val).queue = (mbxOf s w.val).queue.tail)
      ∧ (w ≠ target → t.fwc.mbx = s.fwc.mbx ∧ t.resp = (if w.val < 8 then .fault 5 else .word 0))) := by
  obtain ⟨u, hu, hs, hr, hi⟩ := mbxBy_of_can h
  refine ⟨_, congrArg Outcome.next (hu _), ?_⟩
  rw [mbxRead_pop]
  constructor
  · rintro rfl
    have hm : mbxOf u w.val = mbxOf s w.val := by
      unfold mbxOf
      rw [mbx_of_steady hs]
    rw [if_pos rfl, ← hm]
    exact mbxPop_results
  · intro hne
    rw [if_neg fun e => hne (Fin.ext e)]
    split
    · exact ⟨mbx_coreFault.1.trans (mbx_of_steady hs), rfl⟩
    · exact ⟨mbx_of_steady hs, rfl⟩

/-- Settles O49: each command is one access of a writer that may reach the mailbox block. -/
theorem mailboxResults : Obligations.MailboxResults := by
  unfold Obligations.MailboxResults
  exact ⟨mbxFlagWrite_results, mbxDbSet_results, mbxMsg_results, mbxMsgPop_results⟩

end

end Sys2Proof.Machine
end

section
/-! PROOF. Rules of the firmware memory: what the bytes of memory read as after write-backs, fills, stores and drains. -/

namespace Sys2Proof.Machine
open Host
set_option Elab.async false

section
variable {s t u : State} {n : Nat}

/-! ## Bytes written one after the other -/

theorem tabGet_foldl_bytes (b : Nat → Byte) (off len : Nat) (m : Tab Byte) (a : Nat) :
    tabGet 0 ((List.range len).foldl (fun m i => tabSet 0 m (off + i) (b i)) m) a = if off ≤ a ∧ a < off + len then b (a - off) else tabGet 0 m a := by
  induction len with
  | zero =>
    rw [if_neg (by omega)]
    rfl
  | succ k ih =>
    rw [List.range_succ, List.foldl_append]
    show tabGet 0 (tabSet 0 _ (off + k) (b k)) a = _
    rw [tabGet_tabSet, ih]
    by_cases ha : off + k = a
    · subst ha
      rw [if_pos rfl, if_pos (by omega), Nat.add_sub_cancel_left]
    · rw [if_neg ha]
      by_cases hk : off ≤ a ∧ a < off + k
      · rw [if_pos hk, if_pos (by omega)]
      · rw [if_neg hk, if_neg (by omega)]

theorem mem_memPoke {ix : Nat} {b : List Byte} (a : Nat) :
    tabGet 0 (memPoke s ix b).fwc.mem a = if ix ≤ a ∧ a < ix + b.length then b.getD (a - ix) 0 else tabGet 0 s.fwc.mem a :=
  tabGet_foldl_bytes (fun i => b.getD i 0) ix b.length s.fwc.mem a

/-! ## Write-backs -/

/-- Every dirty line holds whole lines. -/
def Whole (s : State) : Prop := ∀ l, (dirtyOf s l).data = [] ∨ (dirtyOf s l).data.length = 64

theorem memByte_of (hd : t.fwc.dirty = s.fwc.dirty) (hm : t.fwc.mem = s.fwc.mem) (a : Nat) : memByte t a = memByte s a := by
  unfold memByte dirtyOf
  rw [hd, hm]

theorem memByte_of_fwc (h : t.fwc = s.fwc) (a : Nat) : memByte t a = memByte s a := memByte_of (by rw [h]) (by rw [h]) a

theorem dirtyOf_flushLine (line l : Nat) : (dirtyOf (flushLine s line) l).data = if line = l then [] else (dirtyOf s l).data := by
  unfold flushLine
  extract_lets d s1
  split
  next hd =>
    split
    next h => exact h ▸ hd
    next => rfl
  next =>
    show (tabGet _ (tabErase s.fwc.dirty line) l).data = _
    rw [tabGet_tabErase]
    split
    · rfl
    · rfl

theorem mem_flushLine (line a : Nat) : tabGet 0 (flushLine s line).fwc.mem a
    = if line * 64 ≤ a ∧ a < line * 64 + (dirtyOf s line).data.length then (dirtyOf s line).data.getD (a - line * 64) 0 else tabGet 0 s.fwc.mem a := by
  unfold flushLine
  extract_lets d s1
  split
  next hd =>
    rw [show (dirtyOf s line).data = [] from hd, if_neg (by simp only [List.length_nil]; omega)]
  next => exact mem_memPoke (s := dropDirty s line) (ix := line * lineSize) a

/-- R697: a write-back puts a line into memory, and no byte changes. -/
theorem memByte_flushLine {line : Nat} (h : (dirtyOf s line).data = [] ∨ (dirtyOf s line).data.length = 64) (a : Nat) :
    memByte (flushLine s line) a = memByte s a := by
  unfold memByte
  simp only [dirtyOf_flushLine, mem_flushLine, lineSize]
  by_cases hl : line = a / 64
  · rw [if_pos hl, if_pos rfl]
    rcases h with h | h
    · rw [h, if_neg (by simp only [List.length_nil]; omega), ← hl, h, if_pos rfl]
    · have hne : (dirtyOf s (a / 64)).data ≠ [] := by
        rw [← hl]
        intro h0
        rw [h0] at h
        cases h
      rw [if_pos (by omega), if_neg hne, hl, show a - a / 64 * 64 = a % 64 by omega]
  · rw [if_neg hl]
    congr 1
    rw [if_neg]
    rcases h with h | h <;> rw [h]
    · simp only [List.length_nil]
      omega
    · omega

/-! ## What keeps every byte -/

/-- A step that keeps every byte of memory, and dirty lines whole. -/
def Bytes (s t : State) : Prop := Whole s → Whole t ∧ ∀ a, memByte t a = memByte s a

theorem Bytes.refl : Bytes s s := fun h => ⟨h, fun _ => rfl⟩

theorem Bytes.trans (h : Bytes s t) (k : Bytes t u) : Bytes s u := fun hs =>
  ⟨(k (h hs).1).1, fun a => ((k (h hs).1).2 a).trans ((h hs).2 a)⟩

theorem Bytes.ite {c : Prop} [Decidable c] (h : Bytes s t) (k : Bytes s u) : Bytes s (if c then t else u) := by
  split
  · exact h
  · exact k

theorem Bytes.forEach {α : Type} {l : List α} {f : State → α → State} (h : ∀ t x, Bytes t (f t x)) : Bytes s (forEach l s f) := by
  induction l generalizing s with
  | nil => exact .refl
  | cons x l ih => exact (h s x).trans ih

theorem Bytes.of (hd : ∀ l, (dirtyOf t l).data = (dirtyOf s l).data) (hm : t.fwc.mem = s.fwc.mem) : Bytes s t := fun hw =>
  ⟨fun l => by rw [hd]; exact hw l, fun a => by unfold memByte; rw [hd, hm]⟩

theorem Bytes.of_fwc (h : t.fwc = s.fwc) : Bytes s t := .of (fun l => by unfold dirtyOf; rw [h]) (by rw [h])

theorem bytes_setCore {f : CoreSt → CoreSt} : Bytes s (setCore s n f) := .of (fun _ => rfl) rfl

theorem bytes_flushLine {line : Nat} : Bytes s (flushLine s line) := fun hw =>
  ⟨fun l => by
    rw [dirtyOf_flushLine]
    split
    · exact .inl rfl
    · exact hw l, memByte_flushLine (hw line)⟩

theorem bytes_othersLose {line : Nat} : Bytes s (othersLose s n line) := .forEach fun _ _ => bytes_setCore

theorem bytes_toWb {line : Nat} : Bytes s (toWb s n line) := by
  unfold toWb
  extract_lets s1 d _ s2
  have h1 : Bytes s s1 := by
    dsimp only [s1]
    split
    · exact .ite bytes_flushLine .refl
    · exact .refl
  have h2 : Bytes s1 s2 := .of (fun l => by
    show (tabGet _ (tabSet _ s1.fwc.dirty line { d with wb := true }) l).data = _
    rw [tabGet_tabSet]
    split
    next h => exact h ▸ rfl
    next => rfl) rfl
  exact h1.trans (h2.trans bytes_setCore)

theorem bytes_fillLine {ic : Bool} {line : Nat} : Bytes s (fillLine s n ic line) := by
  unfold fillLine
  extract_lets c k x
  split
  · exact bytes_setCore
  · exact (Bytes.ite bytes_toWb .refl).trans bytes_setCore

/-! ## Stores -/

/-- The bytes of a store, over those of memory. -/
def stored (s : State) (ix : Nat) (b : List Byte) (a : Nat) : Byte := if ix ≤ a ∧ a < ix + b.length then b.getD (a - ix) 0 else memByte s a

theorem mem_linesOf {ix len a : Nat} (h : ix ≤ a ∧ a < ix + len) : a / 64 ∈ linesOf ix len := by
  obtain ⟨h1, h2⟩ := h
  have h3 : ix / 64 ≤ a / 64 := Nat.div_le_div_right h1
  have h4 : a / 64 ≤ (ix + len - 1) / 64 := Nat.div_le_div_right (by omega)
  unfold linesOf
  rw [if_neg (by omega)]
  refine List.mem_map.2 ⟨a / 64 - ix / 64, List.mem_range.2 ?_, ?_⟩
  · show a / 64 - ix / 64 < (ix + len - 1) / 64 - ix / 64 + 1
    omega
  · show ix / 64 + (a / 64 - ix / 64) = a / 64
    omega

theorem dirty_othersLose {line : Nat} : (othersLose s n line).fwc.dirty = s.fwc.dirty := Shows.forEach (g := fun s => s.fwc.dirty) fun _ _ => rfl

/-- One line that a store by core or agent `by_` writes back first. -/
def flushFor (by_ : Nat) (s : State) (l : Nat) : State :=
  let s := flushLine (othersLose s by_ l) l
  if by_ < 8 then setCore s by_ (fun c => untag c false l) else s

theorem memWrite_eq {by_ ix : Nat} {b : List Byte} : memWrite s by_ ix b = memPoke (forEach (linesOf ix b.length) s (flushFor by_)) ix b := rfl

theorem dirtyOf_flushFor (by_ l j : Nat) : (dirtyOf (flushFor by_ s l) j).data = if l = j then [] else (dirtyOf s j).data := by
  have h : (dirtyOf (flushFor by_ s l) j).data = (dirtyOf (flushLine (othersLose s by_ l) l) j).data := by
    unfold flushFor
    split
    · rfl
    · rfl
  rw [h, dirtyOf_flushLine, dirtyOf, dirty_othersLose]
  rfl

theorem bytes_flushFor {by_ l : Nat} : Bytes s (flushFor by_ s l) := by
  unfold flushFor
  exact (bytes_othersLose.trans bytes_flushLine).trans (.ite bytes_setCore .refl)

theorem dirtyOf_memPoke {ix : Nat} {b : List Byte} (l : Nat) : dirtyOf (memPoke s ix b) l = dirtyOf s l := rfl

theorem memWrite_results {by_ ix : Nat} {b : List Byte} (hw : Whole s) : Whole (memWrite s by_ ix b) ∧ ∀ a, memByte (memWrite s by_ ix b) a = stored s ix b a := by
  rw [memWrite_eq]
  have hb : Bytes s (forEach (linesOf ix b.length) s (flushFor by_)) := .forEach fun _ _ => bytes_flushFor
  obtain ⟨hw1, hb1⟩ := hb hw
  have he (l : Nat) (hl : l ∈ linesOf ix b.length) : (dirtyOf (forEach (linesOf ix b.length) s (flushFor by_)) l).data = [] := by
    refine forEach_establishes (I := fun _ => True) (Q := fun t => (dirtyOf t l).data = []) hl (fun _ _ _ => trivial) (fun t _ => ?_) (fun t j _ hq => ?_) trivial
    · rw [dirtyOf_flushFor, if_pos rfl]
    · rw [dirtyOf_flushFor]
      split
      · rfl
      · exact hq
  refine ⟨fun l => hw1 l, fun a => ?_⟩
  unfold stored memByte
  rw [dirtyOf_memPoke, mem_memPoke]
  by_cases ha : ix ≤ a ∧ a < ix + b.length
  · rw [if_pos (he _ (mem_linesOf ha)), if_pos ha, if_pos ha]
  · rw [if_neg ha, if_neg ha]
    exact hb1 a

/-- A cached store into one line. -/
def storeLine (n ix : Nat) (b : List Byte) (s : State) (l : Nat) : State :=
  let s := othersLose s n l
  let own := (dirtyOf s l).core = n ∧ !(dirtyOf s l).wb ∧ (dirtyOf s l).data ≠ []
  let s := if own then s else flushLine s l
  let s := if cached s n false l then s else bump s (Reg.FWC_MISS_CNT n) F.FWC_MISS_CNT_DMISS
  let s := fillLine s n false l
  let d := (List.range lineSize).map (fun i =>
    let a := l * lineSize + i
    if ix ≤ a ∧ a < ix + b.length then b.getD (a - ix) 0 else memByte s a)
  { s with fwc := { s.fwc with dirty := tabSet { core := 0, wb := false, data := [] } s.fwc.dirty l { core := n, wb := false, data := d } } }

theorem cacheStore_eq {ix : Nat} {b : List Byte} : cacheStore s n ix b = forEach (linesOf ix b.length) s (storeLine n ix b) := rfl

/-- A line of memory held dirty. -/
def setDirty (s : State) (l : Nat) (d : DirtyLine) : State :=
  { s with fwc := { s.fwc with dirty := tabSet { core := 0, wb := false, data := [] } s.fwc.dirty l d } }

theorem dirtyOf_setDirty {d : DirtyLine} (l j : Nat) : dirtyOf (setDirty s l d) j = if l = j then d else dirtyOf s j := tabGet_tabSet _ _ _ _ _

theorem mem_setDirty {d : DirtyLine} {l : Nat} : (setDirty s l d).fwc.mem = s.fwc.mem := rfl

theorem storeLine_results {ix l : Nat} {b : List Byte} (hw : Whole s) : Whole (storeLine n ix b s l)
    ∧ ∀ a, memByte (storeLine n ix b s l) a = if a / 64 = l then stored s ix b a else memByte s a := by
  unfold storeLine
  extract_lets s1 own s2 s3 s4 d
  show Whole (setDirty s4 l { core := n, wb := false, data := d }) ∧ ∀ a, memByte (setDirty s4 l { core := n, wb := false, data := d }) a = _
  have h1 : Bytes s s1 := bytes_othersLose
  have h2 : Bytes s1 s2 := .ite .refl bytes_flushLine
  have h3 : Bytes s2 s3 := .ite .refl (.of_fwc (bump_evolves.fwc_eq rfl))
  have h4 : Bytes s3 s4 := bytes_fillLine
  have hdd : d = (List.range lineSize).map (fun i => stored s4 ix b (l * lineSize + i)) := rfl
  clear_value d s4 s3 s2 own s1
  obtain ⟨hw4, hb4⟩ := (h1.trans (h2.trans (h3.trans h4))) hw
  have hst (a : Nat) : stored s4 ix b a = stored s ix b a := by
    unfold stored
    rw [hb4]
  have hlen : d.length = 64 := by rw [hdd, List.length_map, List.length_range, lineSize]
  refine ⟨fun j => ?_, fun a => ?_⟩
  · rw [dirtyOf_setDirty]
    split
    · exact .inr hlen
    · exact hw4 j
  · by_cases hl : a / 64 = l
    · rw [if_pos hl, ← hst]
      have hne : d ≠ [] := by
        intro h0
        rw [h0] at hlen
        cases hlen
      unfold memByte
      rw [show a / lineSize = l from hl, dirtyOf_setDirty, if_pos rfl, if_neg hne, hdd, List.getD_eq_getElem?_getD, List.getElem?_map, List.getElem?_range (Nat.mod_lt _ (by decide))]
      show stored s4 ix b (l * 64 + a % 64) = _
      rw [show l * 64 + a % 64 = a by omega]
    · rw [if_neg hl, ← hb4]
      have hd : dirtyOf (setDirty s4 l { core := n, wb := false, data := d }) (a / lineSize) = dirtyOf s4 (a / lineSize) := by
        rw [dirtyOf_setDirty, if_neg fun e : l = a / lineSize => hl e.symm]
      unfold memByte
      rw [hd, mem_setDirty]

theorem cacheStore_lines {ix : Nat} {b : List Byte} {L : List Nat} (hw : Whole s) : Whole (forEach L s (storeLine n ix b))
    ∧ ∀ a, memByte (forEach L s (storeLine n ix b)) a = if a / 64 ∈ L then stored s ix b a else memByte s a := by
  induction L generalizing s with
  | nil =>
    rw [forEach_nil]
    exact ⟨hw, fun a => by rw [if_neg List.not_mem_nil]⟩
  | cons l L ih =>
    obtain ⟨hw1, hb1⟩ := storeLine_results (n := n) (ix := ix) (l := l) (b := b) hw
    obtain ⟨hw2, hb2⟩ := ih hw1
    rw [forEach_cons]
    refine ⟨hw2, fun a => ?_⟩
    rw [hb2]
    have hs : stored (storeLine n ix b s l) ix b a = stored s ix b a := by
      unfold stored
      split
      · rfl
      next hr =>
        rw [hb1]
        split
        · unfold stored
          rw [if_neg hr]
        · rfl
    rw [hs, hb1]
    by_cases hl : a / 64 = l
    · rw [if_pos (List.mem_cons.2 (.inl hl)), if_pos hl, ite_self]
    · rw [if_neg hl]
      by_cases hL : a / 64 ∈ L
      · rw [if_pos hL, if_pos (List.mem_cons_of_mem _ hL)]
      · rw [if_neg hL, if_neg (fun h => (List.mem_cons.1 h).elim hl hL)]

theorem cacheStore_results {ix : Nat} {b : List Byte} (hw : Whole s) : Whole (cacheStore s n ix b) ∧ ∀ a, memByte (cacheStore s n ix b) a = stored s ix b a := by
  rw [cacheStore_eq]
  obtain ⟨h1, h2⟩ := cacheStore_lines (n := n) (ix := ix) (b := b) (L := linesOf ix b.length) hw
  refine ⟨h1, fun a => ?_⟩
  rw [h2]
  split
  · rfl
  next hn =>
    unfold stored
    rw [if_neg fun h => hn (mem_linesOf h)]

/-- A store to an address of normal memory, through its cache or past it. -/
theorem memStore_results {addr ix : Nat} {c : Bool} {b : List Byte} (hw : Whole s) (h : targetOf addr b.length = .mem ix c) :
    Whole (memStore s n addr b) ∧ ∀ a, memByte (memStore s n addr b) a = stored s ix b a := by
  unfold memStore
  rw [h]
  cases c
  · exact memWrite_results hw
  · exact cacheStore_results hw

theorem whole_memStore {addr : Nat} {b : List Byte} (hw : Whole s) : Whole (memStore s n addr b) := by
  unfold memStore
  split
  · exact (cacheStore_results hw).1
  · exact (memWrite_results hw).1
  · exact hw

theorem whole_drainOne (hw : Whole s) : Whole (drainOne s n) := by
  unfold drainOne
  split
  · exact hw
  · exact whole_memStore (s := setCore s n _) hw

theorem whole_drainAll (hw : Whole s) : Whole (drainAll s n) := forEach_keeps (Q := Whole) (fun _ _ => whole_drainOne) hw

/-! ## Store buffers -/

theorem sb_drainOne : (coreOf (drainOne s n) n).sb = (coreOf s n).sb.tail := by
  unfold drainOne
  split
  next h =>
    rw [h]
    rfl
  next e rest h =>
    rw [sb_of_holding holding_memStore, coreOf_setCore, if_pos rfl, h]
    rfl

theorem sb_drains {l : List BufStore} (h : (coreOf s n).sb.length ≤ l.length) : (coreOf (forEach l s fun s _ => drainOne s n) n).sb = [] := by
  induction l generalizing s with
  | nil => exact List.length_eq_zero_iff.1 (Nat.le_zero.1 h)
  | cons x l ih =>
    rw [forEach_cons]
    refine ih ?_
    rw [sb_drainOne, List.length_tail]
    have := List.length_cons (a := x) (as := l)
    omega

theorem sb_drainAll : (coreOf (drainAll s n) n).sb = [] := sb_drains (Nat.le_refl _)

theorem drainAll_empty (h : (coreOf s n).sb = []) : drainAll s n = s := by
  unfold drainAll
  rw [h]
  rfl

end

end Sys2Proof.Machine
end

section
/-! PROOF. Loads, stores, fences and atomics of the cores (O47). -/

namespace Sys2Proof.Machine
open Host
set_option Elab.async false

section
variable {s t u : State} {n : Nat}

/-! ## The access itself -/

/-- A core that may make an access. -/
def mayAccess (s : State) (n : Nat) : Prop := coreRuns s n = true ∧ coreStalled s n = false

/-- The state in which an access of a core begins. -/
def entered (s : State) (n : Nat) (user : Bool) : State := setCore { s with resp := .none } n (fun c => { c with user := user })

theorem coreOf_entered {user : Bool} : coreOf (entered s n user) n = { coreOf s n with user := user } := coreOf_setCore_same (s := { s with resp := .none }) _ _

theorem loadBytes_of {ix len : Nat} (hs : (coreOf t n).sb = (coreOf s n).sb) (hb : ∀ a, memByte t a = memByte s a) : loadBytes t n ix len = loadBytes s n ix len := by
  unfold loadBytes
  simp only [hs, hb]

theorem memIn_of_img {plane ix len : Nat} (h : t.img = s.img) : memIn t plane ix len = memIn s plane ix len := by
  unfold memIn
  rw [framesOf_of_img h]

theorem memIn_entered {user : Bool} {ix len : Nat} : memIn (entered s n user) (coreOf (entered s n user) n).tag ix len = memIn s (coreOf s n).tag ix len := by
  rw [coreOf_entered]
  exact memIn_of_img rfl

theorem loadBytes_entered {user : Bool} {ix len : Nat} : loadBytes (entered s n user) n ix len = loadBytes s n ix len :=
  loadBytes_of (by rw [coreOf_entered]) fun _ => rfl

theorem coreAccess_of {a len mis acc : Nat} {user pmp : Bool} {f : State → Target → State} (h : mayAccess s n) :
    coreAccess s n a len user pmp mis acc f = match targetOf a len with
      | .none => coreFault (entered s n user) n acc
      | .tcm off => if user || !pmp then coreFault (entered s n user) n acc else f (entered s n user) (.tcm off)
      | .mem ix c => if !pmp then coreFault (entered s n user) n acc else f (entered s n user) (.mem ix c)
      | t => if a % len ≠ 0 then coreFault (entered s n user) n mis else if !pmp ∨ len ≠ 4 then coreFault (entered s n user) n acc
             else f (drainAll (entered s n user) n) t := by
  obtain ⟨hr, hs⟩ := h
  unfold coreAccess
  rw [if_neg (by rw [hr, hs]; decide)] <;> rfl

theorem coreAccess_mem {a len mis acc ix : Nat} {user c : Bool} {f : State → Target → State} (h : mayAccess s n) (ht : targetOf a len = .mem ix c) :
    coreAccess s n a len user true mis acc f = f (entered s n user) (.mem ix c) := by
  rw [coreAccess_of h, ht] <;> rfl

theorem targetOf_tcm {a len : Nat} (h : a + len ≤ 0x10000) : targetOf a len = .tcm a := by
  unfold targetOf
  rw [if_pos h]

/-- R723: an access outside the map, or one of a register that is not a whole word. -/
theorem coreAccess_bad {a len mis acc : Nat} {user pmp : Bool} {f : State → Target → State} (h : mayAccess s n)
    (ht : targetOf a len = .none ∨ (0x40000000 ≤ a ∧ a % len = 0 ∧ len ≠ 4)) :
    coreAccess s n a len user pmp mis acc f = coreFault (entered s n user) n acc := by
  rw [coreAccess_of h]
  rcases ht with ht | ⟨ha, hm, hl⟩
  · rw [ht]
  · have h3 : ¬(a % len ≠ 0) := fun hn => hn hm
    have h4 : (!pmp) = true ∨ len ≠ 4 := .inr hl
    split
    next e => exact rfl
    next off e =>
      unfold targetOf at e
      rw [if_neg (by omega), if_neg (by omega), if_neg (by omega), if_neg (by omega), if_neg (by omega)] at e
      repeat' split at e
      all_goals cases e
    next ix c e =>
      unfold targetOf at e
      rw [if_neg (by omega), if_neg (by omega), if_neg (by omega), if_neg (by omega), if_neg (by omega)] at e
      repeat' split at e
      all_goals cases e
    · rw [if_neg h3, if_pos h4]

theorem coreOf_coreFault {cause : Nat} : coreOf (coreFault s n cause) n = { coreOf s n with resv := none, user := false } :=
  coreOf_setCore_same (s := { s with resp := .fault cause }) _ _

theorem fault_coreViol {tag off addr cause : Nat} (hn : n < 8) : (coreViol s n tag off addr cause).resp = .fault cause := by
  unfold coreViol
  rw [if_pos hn]
  rfl

theorem bytes_coreViol {tag off addr cause : Nat} (a : Nat) : memByte (coreViol s n tag off addr cause) a = memByte s a := by
  unfold coreViol
  extract_lets s1 s2 s3
  have e3 : Evolves { regs := true, drain := true, recd := true } s s3 := .trans raise_evolves.mono (.trans bump_evolves.mono record_evolves.mono)
  clear_value s1 s2 s3
  split
  · exact memByte_of_fwc (s := s) (t := s3) (e3.fwc_eq rfl) a
  · exact memByte_of_fwc (e3.fwc_eq rfl) a

theorem sb_coreViol {tag off addr cause : Nat} : (coreOf (coreViol s n tag off addr cause) n).sb = (coreOf s n).sb := by
  unfold coreViol
  extract_lets s1 s2 s3
  have e3 : Evolves { regs := true, drain := true, recd := true } s s3 := .trans raise_evolves.mono (.trans bump_evolves.mono record_evolves.mono)
  clear_value s1 s2 s3
  split
  · show (coreOf (setCore { s3 with resp := .fault cause } n _) n).sb = _
    rw [coreOf_setCore_same, ← coreOf_of_fwc (e3.fwc_eq rfl)]
    rfl
  · rw [coreOf_of_fwc (e3.fwc_eq rfl)]

/-! ## TCM -/

theorem coreLoad_tcm (core : CoreIx) (addr : Word) (size : Fin 3) (s : State) (h : mayAccess s core.val) (ha : addr.toNat + 2 ^ size.val ≤ 0x10000) :
    Runs (.coreLoad core false true addr size) s (fun t => t.resp = .word (BitVec.ofNat 32
      (leAt ((List.range (2 ^ size.val)).map (fun i => tabGet 0 (coreOf s core.val).tcm (addr.toNat + i))) 0 (2 ^ size.val)))) := by
  refine ⟨_, rfl, ?_⟩
  unfold coreLoad
  rw [coreAccess_of h, targetOf_tcm ha]
  show (State.resp { entered s core.val false with resp := _ }) = _
  simp only [coreOf_entered]

theorem tcmStore_results {len off val : Nat} {c : CoreSt} :
    (∀ i, i < len → tabGet 0 ((List.range len).foldl (fun t i => tabSet 0 t (off + i) ((leBytes len val).getD i 0)) c.tcm) (off + i) = BitVec.ofNat 8 (val / 2 ^ (8 * i)))
    ∧ ∀ a, a < off ∨ off + len ≤ a →
      tabGet 0 ((List.range len).foldl (fun t i => tabSet 0 t (off + i) ((leBytes len val).getD i 0)) c.tcm) a = tabGet 0 c.tcm a := by
  constructor
  · intro i hi
    rw [tabGet_foldl_bytes (fun i => (leBytes len val).getD i 0), if_pos (by omega), Nat.add_sub_cancel_left]
    unfold leBytes
    rw [List.getD_eq_getElem?_getD, List.getElem?_map, List.getElem?_range hi]
    rfl
  · intro a ha
    rw [tabGet_foldl_bytes (fun i => (leBytes len val).getD i 0), if_neg (by omega)]

theorem coreStore_tcm (core : CoreIx) (addr : Word) (size : Fin 3) (s : State) (h : mayAccess s core.val) (ha : addr.toNat + 2 ^ size.val ≤ 0x10000) (val : Word) :
    Runs (.coreStore core false true addr size val) s (fun t => (∀ i, i < 2 ^ size.val →
        tabGet 0 (coreOf t core.val).tcm (addr.toNat + i) = BitVec.ofNat 8 (val.toNat / 2 ^ (8 * i)))
      ∧ (∀ a, a < addr.toNat ∨ addr.toNat + 2 ^ size.val ≤ a → tabGet 0 (coreOf t core.val).tcm a = tabGet 0 (coreOf s core.val).tcm a)) := by
  refine ⟨_, rfl, ?_⟩
  unfold coreStore
  rw [coreAccess_of h, targetOf_tcm ha]
  dsimp only [Bool.or_self, Bool.not_true]
  rw [if_neg (by decide), coreOf_setCore_same, coreOf_entered]
  exact tcmStore_results (c := coreOf s core.val)

theorem coreLoad_tcm_user (core : CoreIx) (addr : Word) (size : Fin 3) (s : State) (h : mayAccess s core.val) (ha : addr.toNat + 2 ^ size.val ≤ 0x10000) :
    Runs (.coreLoad core true true addr size) s (fun t => t.resp = .fault 5) := by
  refine ⟨_, rfl, ?_⟩
  unfold coreLoad
  rw [coreAccess_of h, targetOf_tcm ha]
  rfl

theorem coreStore_tcm_user (core : CoreIx) (addr : Word) (size : Fin 3) (s : State) (h : mayAccess s core.val) (ha : addr.toNat + 2 ^ size.val ≤ 0x10000) (val : Word) :
    Runs (.coreStore core true true addr size val) s (fun t => t.resp = .fault 7 ∧ (coreOf t core.val).tcm = (coreOf s core.val).tcm) := by
  refine ⟨_, rfl, ?_⟩
  unfold coreStore
  rw [coreAccess_of h, targetOf_tcm ha]
  refine ⟨rfl, ?_⟩
  show (coreOf (coreFault (entered s core.val true) core.val 7) core.val).tcm = _
  rw [coreOf_coreFault, coreOf_entered]

/-! ## Normal memory -/

theorem length_linesOf {ix len : Nat} (h : len ≤ 64) : (linesOf ix len).length ≤ 2 := by
  unfold linesOf
  split
  · exact Nat.zero_le _
  · rw [List.length_map, List.length_range]
    show (ix + len - 1) / 64 - ix / 64 + 1 ≤ 2
    omega

theorem len_le (size : Fin 3) : 2 ^ size.val ≤ 4 := Nat.pow_le_pow_right (by decide) (Nat.le_of_lt_succ size.isLt)

/-- The memory with its dirty lines. -/
def memNow (s : State) : Tab DirtyLine × Tab Byte := (s.fwc.dirty, s.fwc.mem)

theorem memByte_of_memNow (h : Shows memNow s t) (a : Nat) : memByte t a = memByte s a := memByte_of (congrArg Prod.fst h.eq :) (congrArg Prod.snd h.eq :) a

theorem memNow_fillLine {ic : Bool} {l : Nat} (h : cached s n ic l = true) : Shows memNow s (fillLine s n ic l) := by
  unfold fillLine
  extract_lets c k x
  unfold cached at h
  split
  · rfl
  next hw =>
    rw [show wayOf (coreOf s n) ic l = none from hw] at h
    cases h

theorem memNow_bump {off : Nat} {f : Fld} : Shows memNow s (bump s off f) := by
  unfold Shows memNow
  rw [bump_evolves.fwc_eq rfl]

theorem loadLines_results {ls : List Nat} (h : (coreOf s n).miss.length + ls.length ≤ 8) : ∃ t, loadLines s n ls = some t ∧ Shows memNow s t := by
  unfold loadLines
  extract_lets tracked need
  have h1 : ((coreOf s n).miss.filter (fun m => !m.icache)).length ≤ (coreOf s n).miss.length := List.length_filter_le _ _
  have h2 : need.length ≤ ls.length := List.length_filter_le _ _
  rw [if_neg (by omega)]
  refine ⟨_, rfl, .forEach fun t l => ?_⟩
  split
  next hc => exact memNow_fillLine hc
  next =>
    extract_lets s1
    have h1 : Shows memNow t s1 := memNow_bump
    clear_value s1
    exact h1.trans (.both .refl rfl)

theorem memLoad_results {ix len : Nat} {c : Bool} (hm : memIn s (coreOf s n).tag ix len = true) (hl : len ≤ 64) (h : (coreOf s n).miss.length ≤ 6) :
    (memLoad s n ix len c).resp = .word (BitVec.ofNat 32 (leAt (loadBytes s n ix len) 0 len)) ∧ ∀ a, memByte (memLoad s n ix len c) a = memByte s a := by
  have h2 := length_linesOf (ix := ix) hl
  obtain ⟨t, ht, hk⟩ := loadLines_results (s := s) (n := n) (ls := linesOf ix len) (by omega)
  unfold memLoad
  rw [if_neg (by rw [hm]; decide)]
  cases c
  · exact ⟨rfl, fun _ => rfl⟩
  · rw [if_pos rfl, ht]
    exact ⟨rfl, fun a => memByte_of_memNow hk a⟩

theorem coreLoad_mem (core : CoreIx) (user : Bool) (addr : Word) (size : Fin 3) (ix : Nat) (c : Bool) (s : State) (h : mayAccess s core.val)
    (ht : targetOf addr.toNat (2 ^ size.val) = .mem ix c) (hm : memIn s (coreOf s core.val).tag ix (2 ^ size.val) = true) (hl : (coreOf s core.val).miss.length ≤ 6) :
    Runs (.coreLoad core user true addr size) s (fun t => t.resp = .word (BitVec.ofNat 32 (leAt (loadBytes s core.val ix (2 ^ size.val)) 0 (2 ^ size.val)))
      ∧ ∀ a, memByte t a = memByte s a) := by
  refine ⟨_, rfl, ?_⟩
  unfold coreLoad
  rw [coreAccess_mem h ht]
  have := len_le size
  obtain ⟨h1, h2⟩ := memLoad_results (s := entered s core.val user) (n := core.val) (ix := ix) (len := 2 ^ size.val) (c := c)
    (by rw [memIn_entered]; exact hm) (by omega) (by rw [coreOf_entered]; exact hl)
  rw [loadBytes_entered] at h1
  exact ⟨h1, h2⟩

theorem coreLoad_mem_fault (core : CoreIx) (user : Bool) (addr : Word) (size : Fin 3) (ix : Nat) (c : Bool) (s : State) (h : mayAccess s core.val)
    (ht : targetOf addr.toNat (2 ^ size.val) = .mem ix c) (hm : memIn s (coreOf s core.val).tag ix (2 ^ size.val) = false) :
    Runs (.coreLoad core user true addr size) s (fun t => t.resp = .fault 5) := by
  refine ⟨_, rfl, ?_⟩
  unfold coreLoad
  rw [coreAccess_mem h ht]
  dsimp only
  unfold memLoad
  rw [if_pos (by rw [memIn_entered, hm]; rfl)]
  rfl

theorem coreStore_mem (core : CoreIx) (user : Bool) (addr : Word) (size : Fin 3) (ix : Nat) (c : Bool) (s : State) (h : mayAccess s core.val)
    (ht : targetOf addr.toNat (2 ^ size.val) = .mem ix c) (val : Word) (hm : memIn s (coreOf s core.val).tag ix (2 ^ size.val) = true)
    (hl : (coreOf s core.val).sb.length < 8) :
    Runs (.coreStore core user true addr size val) s (fun t =>
      (coreOf t core.val).sb = (coreOf s core.val).sb ++ [{ addr := addr.toNat, bytes := leBytes (2 ^ size.val) val.toNat }] ∧ ∀ a, memByte t a = memByte s a) := by
  refine ⟨_, rfl, ?_⟩
  unfold coreStore
  rw [coreAccess_mem h ht]
  dsimp only
  rw [if_pos (by rw [memIn_entered]; exact hm)]
  unfold bufStore
  rw [if_neg (by rw [coreOf_entered]; exact Nat.not_le.2 hl)]
  refine ⟨?_, fun _ => rfl⟩
  rw [coreOf_setCore_same, coreOf_entered]

theorem coreStore_mem_fault (core : CoreIx) (user : Bool) (addr : Word) (size : Fin 3) (ix : Nat) (c : Bool) (s : State) (h : mayAccess s core.val)
    (ht : targetOf addr.toNat (2 ^ size.val) = .mem ix c) (val : Word) (hm : memIn s (coreOf s core.val).tag ix (2 ^ size.val) = false) :
    Runs (.coreStore core user true addr size val) s (fun t => t.resp = .fault 7 ∧ (coreOf t core.val).sb = (coreOf s core.val).sb
      ∧ fld t Reg.TOP_PLANE_VIOL_CNT ⟨0, 16⟩ = min (fld s Reg.TOP_PLANE_VIOL_CNT ⟨0, 16⟩ + 1) 65535 ∧ ∀ a, memByte t a = memByte s a) := by
  refine ⟨_, rfl, ?_⟩
  unfold coreStore
  rw [coreAccess_mem h ht]
  dsimp only
  rw [if_neg (by rw [memIn_entered, hm]; decide)]
  obtain ⟨_, _, hc⟩ := coreViol_results (s := entered s core.val user) (w := core.val) (tag := (coreOf (entered s core.val user) core.val).tag) (off := addr.toNat)
    (addr := addr.toNat) (cause := 7)
  refine ⟨fault_coreViol core.isLt, ?_, hc, fun a => bytes_coreViol a⟩
  rw [sb_coreViol, coreOf_entered]

theorem coreAccess_outside (core : CoreIx) (user pmp : Bool) (addr val : Word) (size : Fin 3) (s : State) (h : mayAccess s core.val)
    (ht : targetOf addr.toNat (2 ^ size.val) = .none ∨ (0x40000000 ≤ addr.toNat ∧ addr.toNat % 2 ^ size.val = 0 ∧ 2 ^ size.val ≠ 4)) :
    Runs (.coreLoad core user pmp addr size) s (fun t => t.resp = .fault 5)
    ∧ Runs (.coreStore core user pmp addr size val) s (fun t => t.resp = .fault 7) := by
  refine ⟨⟨_, rfl, ?_⟩, _, rfl, ?_⟩
  · unfold coreLoad
    rw [coreAccess_bad h ht]
    rfl
  · unfold coreStore
    rw [coreAccess_bad h ht]
    rfl

theorem storeBufferDrain_results (core : CoreIx) (e : BufStore) (rest : List BufStore) (ix : Nat) (c : Bool) (s : State) (hf : fwOn s = true) (hw : Whole s)
    (hs : (coreOf s core.val).sb = e :: rest) (ht : targetOf e.addr e.bytes.length = .mem ix c) :
    Runs (.storeBufferDrain core) s (fun t => (coreOf t core.val).sb = rest
      ∧ (∀ i, i < e.bytes.length → memByte t (ix + i) = e.bytes.getD i 0)
      ∧ ∀ a, a < ix ∨ ix + e.bytes.length ≤ a → memByte t a = memByte s a) := by
  refine ⟨_, rfl, ?_⟩
  rw [if_pos hf]
  have hsb : (coreOf (drainOne s core.val) core.val).sb = rest := by rw [sb_drainOne, hs, List.tail_cons]
  refine ⟨hsb, ?_⟩
  unfold drainOne
  rw [hs]
  dsimp only
  obtain ⟨_, hb⟩ := memStore_results (s := setCore s core.val (fun c => { c with sb := rest })) (n := core.val) (b := e.bytes) hw ht
  constructor
  · intro i hi
    rw [hb, stored, if_pos (by omega), Nat.add_sub_cancel_left]
  · intro a ha
    rw [hb, stored, if_neg (by omega)]
    rfl

theorem fence_results (core : CoreIx) (predW succR : Bool) (s : State) (h : coreRuns s core.val = true) :
    Runs (.fence core predW succR) s (fun t => (predW = true → succR = true → (coreOf t core.val).sb = []) ∧ (predW = false ∨ succR = false → t = s)) := by
  refine ⟨_, rfl, fun hp hr => ?_, fun hn => ?_⟩
  · rw [if_pos ⟨h, hp, hr⟩, sb_drainAll]
  · rw [if_neg]
    rintro ⟨_, hp, hr⟩
    rw [hp, hr] at hn
    rcases hn with hn | hn <;> cases hn

theorem fenceI_results (core : CoreIx) (s : State) (h : coreRuns s core.val = true) :
    Runs (.fenceI core) s (fun t => (coreOf t core.val).sb = [] ∧ ∀ l, cached t core.val true l = false) := by
  refine ⟨_, rfl, ?_⟩
  rw [if_pos h]
  unfold cached
  beta_reduce
  rw [coreOf_setCore_same]
  exact ⟨sb_drainAll, fun _ => rfl⟩

/-! ## Atomics -/

/-- The state in which an atomic access of a core begins. -/
def asUser (s : State) (n : Nat) (user : Bool) : State := setCore s n (fun c => { c with user := user })

theorem coreOf_asUser {user : Bool} : coreOf (asUser s n user) n = { coreOf s n with user := user } := coreOf_setCore_same _ _

theorem memIn_asUser {user : Bool} {ix len : Nat} : memIn (asUser s n user) (coreOf (asUser s n user) n).tag ix len = memIn s (coreOf s n).tag ix len := by
  rw [coreOf_asUser]
  exact memIn_of_img rfl

theorem not_barred (h : mayAccess s n) : ¬((!coreRuns s n) = true ∨ coreStalled s n = true) := by
  obtain ⟨hr, hs⟩ := h
  rw [hr, hs]
  decide

theorem leAt_congr {b b' : List Byte} {k : Nat} (h : ∀ i, i < k → b.getD i 0 = b'.getD i 0) : leAt b 0 k = leAt b' 0 k := by
  unfold leAt
  simp only [Nat.zero_add]
  refine List.foldl_ext _ _ _ fun v i hi => ?_
  rw [h i (List.mem_range.1 hi)]

theorem leAt_succ (b : List Byte) (k : Nat) : leAt b 0 (k + 1) = leAt b 0 k + (b.getD k 0).toNat * 2 ^ (8 * k) := by
  unfold leAt
  rw [List.range_succ, List.foldl_append]
  simp only [Nat.zero_add, List.foldl_cons, List.foldl_nil]

theorem getD_leBytes {n i : Nat} (h : i < n) (x : Nat) : (leBytes n x).getD i 0 = BitVec.ofNat 8 (x / 2 ^ (8 * i)) := by
  unfold leBytes
  rw [List.getD_eq_getElem?_getD, List.getElem?_map, List.getElem?_range h]
  rfl

theorem leAt_leBytes (n x : Nat) {k : Nat} (hk : k ≤ n) : leAt (leBytes n x) 0 k = x % 2 ^ (8 * k) := by
  induction k with
  | zero =>
    rw [Nat.mul_zero, Nat.pow_zero, Nat.mod_one]
    rfl
  | succ k ih =>
    rw [leAt_succ, ih (by omega), getD_leBytes hk, BitVec.toNat_ofNat, Nat.mul_succ, Nat.pow_add, Nat.mod_mul, Nat.mul_comm (2 ^ (8 * k))]

/-- R704: four bytes stored are the word read back. -/
theorem word_of_leBytes (v : Word) {b : List Byte} (hb : ∀ i, i < 4 → b.getD i 0 = (leBytes 4 v.toNat).getD i 0) : BitVec.ofNat 32 (leAt b 0 4) = v := by
  rw [leAt_congr hb, leAt_leBytes 4 _ (Nat.le_refl 4), Nat.mod_eq_of_lt v.isLt, BitVec.ofNat_toNat, BitVec.setWidth_eq]

theorem memWord_memStore {addr ix : Nat} {c : Bool} {v : Word} (hw : Whole s) (h : targetOf addr 4 = .mem ix c) :
    memWord (memStore s n addr (leBytes 4 v.toNat)) ix = v := by
  obtain ⟨_, hb⟩ := memStore_results (s := s) (n := n) (b := leBytes 4 v.toNat) hw (by exact h)
  refine word_of_leBytes v fun i hi => ?_
  unfold memRead
  rw [List.getD_eq_getElem?_getD, List.getElem?_map, List.getElem?_range hi]
  show memByte _ (ix + i) = _
  rw [hb, stored, if_pos ⟨by omega, by show ix + i < ix + 4; omega⟩, Nat.add_sub_cancel_left]

section
variable (core : CoreIx) (user : Bool) (addr val : Word) (ix : Nat) (c : Bool) (s : State)

theorem amo_results (op : AmoOp) (h : mayAccess s core.val) (hw : Whole s) (ha : addr.toNat % 4 = 0) (ht : targetOf addr.toNat 4 = .mem ix c)
    (hm : memIn s (coreOf s core.val).tag ix 4 = true) :
    Runs (.amo core user true op addr val) s (fun t => (coreOf t core.val).sb = []
      ∧ ∃ old : Word, t.resp = .word old ∧ memWord t ix = amoWord op old val ∧ ((coreOf s core.val).sb = [] → old = memWord s ix)) := by
  refine ⟨_, rfl, ?_⟩
  unfold atomicAt
  rw [if_neg (not_barred h)]
  extract_lets s1
  have hin : memIn s1 (coreOf s1 core.val).tag ix 4 = true := memIn_asUser.trans hm
  rw [if_neg (fun hn => hn ha), ht]
  dsimp only
  rw [if_neg (by decide), if_neg (by rw [hin]; decide)]
  have hw1 : Whole (drainAll s1 core.val) := whole_drainAll (s := s1) hw
  have hsb : (coreOf (drainAll s1 core.val) core.val).sb = [] := sb_drainAll
  have hold : (coreOf s core.val).sb = [] → memWord (drainAll s1 core.val) ix = memWord s ix := fun h0 => by
    rw [drainAll_empty (s := s1) (by rw [show coreOf s1 core.val = _ from coreOf_asUser]; exact h0)]
    rfl
  clear_value s1
  generalize drainAll s1 core.val = s2 at hw1 hsb hold ⊢
  refine ⟨?_, memWord s2 ix, rfl, memWord_memStore hw1 ht, hold⟩
  show (coreOf (memStore s2 core.val addr.toNat _) core.val).sb = []
  rw [sb_of_holding holding_memStore, hsb]

theorem lr_results (h : mayAccess s core.val) (ha : addr.toNat % 4 = 0) (ht : targetOf addr.toNat 4 = .mem ix c)
    (hm : memIn s (coreOf s core.val).tag ix 4 = true) :
    Runs (.lr core user true addr) s (fun t => (coreOf t core.val).resv = some (ix / 64)
        ∧ t.resp = .word (BitVec.ofNat 32 (leAt (loadBytes s core.val ix 4) 0 4))) := by
  refine ⟨_, rfl, ?_⟩
  rw [if_neg (not_barred h)]
  extract_lets s1
  have hin : memIn s1 (coreOf s1 core.val).tag ix 4 = true := memIn_asUser.trans hm
  rw [if_neg (fun hn => hn ha), ht]
  dsimp only
  rw [if_neg (by rw [hin]; decide)]
  have hl : loadBytes s1 core.val ix 4 = loadBytes s core.val ix 4 := loadBytes_of (by rw [show coreOf s1 core.val = _ from coreOf_asUser]) fun _ => rfl
  refine ⟨?_, ?_⟩
  · rw [coreOf_setCore_same]
  · rw [hl]
    rfl

theorem sc_results (h : mayAccess s core.val) (hw : Whole s) (ha : addr.toNat % 4 = 0) (ht : targetOf addr.toNat 4 = .mem ix c)
    (hm : memIn s (coreOf s core.val).tag ix 4 = true) (hr : (coreOf s core.val).resv = some (ix / 64)) :
    Runs (.sc core user true addr val) s (fun t => t.resp = .word 0 ∧ memWord t ix = val ∧ (coreOf t core.val).sb = [] ∧ (coreOf t core.val).resv = none) := by
  refine ⟨_, rfl, ?_⟩
  rw [if_neg (not_barred h)]
  extract_lets s1 s3
  have hin : memIn s1 (coreOf s1 core.val).tag ix 4 = true := memIn_asUser.trans hm
  rw [if_neg (fun hn => hn ha), ht]
  dsimp only
  rw [if_neg (by decide), if_neg (by rw [hin]; decide), hr, if_pos (by exact beq_self_eq_true _)]
  have hw1 : Whole (drainAll s1 core.val) := whole_drainAll (s := s1) hw
  have hsb : (coreOf (drainAll s1 core.val) core.val).sb = [] := sb_drainAll
  have hword : memWord s3 ix = val := memWord_memStore hw1 ht
  have hsb3 : (coreOf s3 core.val).sb = [] := (sb_of_holding holding_memStore _).trans hsb
  clear_value s3
  refine ⟨rfl, hword, ?_, ?_⟩
  · rw [coreOf_setCore_same]
    exact hsb3
  · rw [coreOf_setCore_same]

theorem sc_fails (h : mayAccess s core.val) (ha : addr.toNat % 4 = 0) (ht : targetOf addr.toNat 4 = .mem ix c)
    (hm : memIn s (coreOf s core.val).tag ix 4 = true) (hr : (coreOf s core.val).resv ≠ some (ix / 64)) :
    Runs (.sc core user true addr val) s (fun t => t.resp = .word 1 ∧ (coreOf t core.val).resv = none ∧ ∀ a, memByte t a = memByte s a) := by
  refine ⟨_, rfl, ?_⟩
  rw [if_neg (not_barred h)]
  extract_lets s1
  have hin : memIn s1 (coreOf s1 core.val).tag ix 4 = true := memIn_asUser.trans hm
  rw [if_neg (fun hn => hn ha), ht]
  dsimp only
  rw [if_neg (by decide), if_neg (by rw [hin]; decide), if_neg (by rw [beq_iff_eq]; exact hr)]
  refine ⟨rfl, ?_, fun _ => rfl⟩
  rw [coreOf_setCore_same]

end

theorem atomic_misaligned (core : CoreIx) (user pmp : Bool) (op : AmoOp) (addr val : Word) (s : State) (h : mayAccess s core.val) (ha : addr.toNat % 4 ≠ 0) :
    Runs (.amo core user pmp op addr val) s (fun t => t.resp = .fault 6) ∧ Runs (.lr core user pmp addr) s (fun t => t.resp = .fault 4)
      ∧ Runs (.sc core user pmp addr val) s (fun t => t.resp = .fault 6) := by
  refine ⟨⟨_, rfl, ?_⟩, ⟨_, rfl, ?_⟩, _, rfl, ?_⟩
  · unfold atomicAt
    rw [if_neg (not_barred h)]
    dsimp only
    rw [if_pos ha]
    rfl
  · rw [if_neg (not_barred h)]
    dsimp only
    rw [if_pos ha]
    rfl
  · rw [if_neg (not_barred h)]
    dsimp only
    rw [if_pos ha]
    rfl

theorem atomic_outside (core : CoreIx) (user pmp : Bool) (op : AmoOp) (addr val : Word) (s : State) (h : mayAccess s core.val) (ha : addr.toNat % 4 = 0)
    (ht : ∀ ix c, targetOf addr.toNat 4 ≠ .mem ix c) :
    Runs (.amo core user pmp op addr val) s (fun t => t.resp = .fault 7) ∧ Runs (.lr core user pmp addr) s (fun t => t.resp = .fault 7)
      ∧ Runs (.sc core user pmp addr val) s (fun t => t.resp = .fault 7) := by
  refine ⟨⟨_, rfl, ?_⟩, ⟨_, rfl, ?_⟩, _, rfl, ?_⟩
  · unfold atomicAt
    rw [if_neg (not_barred h)]
    dsimp only
    rw [if_neg (fun hn => hn ha)]
    split
    next ix c e => exact absurd e (ht ix c)
    next => rfl
  · rw [if_neg (not_barred h)]
    dsimp only
    rw [if_neg (fun hn => hn ha)]
    split
    next ix c e => exact absurd e (ht ix c)
    next => rfl
  · rw [if_neg (not_barred h)]
    dsimp only
    rw [if_neg (fun hn => hn ha)]
    split
    next ix c e => exact absurd e (ht ix c)
    next => rfl

/-- Settles O47: one rule per access of a running core, over the rules of the firmware memory. -/
theorem coreAccessResults : Obligations.CoreAccessResults := by
  unfold Obligations.CoreAccessResults
  refine ⟨fun core addr size s h ha => ⟨coreLoad_tcm core addr size s h ha, coreLoad_tcm_user core addr size s h ha, fun val =>
      ⟨coreStore_tcm core addr size s h ha val, coreStore_tcm_user core addr size s h ha val⟩⟩,
    fun core user addr size ix c s h ht => ⟨coreLoad_mem core user addr size ix c s h ht, coreLoad_mem_fault core user addr size ix c s h ht, fun val =>
      ⟨coreStore_mem core user addr size ix c s h ht val, coreStore_mem_fault core user addr size ix c s h ht val⟩⟩,
    fun core user pmp addr val size s h ht => coreAccess_outside core user pmp addr val size s h ht, storeBufferDrain_results, fence_results, fenceI_results,
    fun core user op addr val ix c s h hw ha ht hm => ⟨amo_results core user addr val ix c s op h hw ha ht hm, lr_results core user addr ix c s h ha ht hm,
      sc_results core user addr val ix c s h hw ha ht hm, sc_fails core user addr val ix c s h ha ht hm⟩,
    fun core user pmp op addr val s h => ⟨atomic_misaligned core user pmp op addr val s h, atomic_outside core user pmp op addr val s h⟩⟩

end

end Sys2Proof.Machine
end

section
/-! PROOF. Restarts of the cores: the registers that a restart or a release can write, and what it leaves of the cores. -/

namespace Sys2Proof.Machine
open Host
set_option Elab.async false

section
variable {s t u : State} {n : Nat}

theorem setCore_rdBut {f : CoreSt → CoreSt} : RdBut [] s (setCore s n f) := .of_regs rfl

theorem boundaryFail_rdBut {s code unit ident} : RdBut [(Reg.TOP_INTEG_LAST, 0, 0), (Reg.REC_EVENT, 0, 0), (Reg.REC_ARB_DROP 0, 0, 0),
    (Reg.REC_ARB_DROP 1, 0, 0), (Reg.REC_ARB_DROP 2, 0, 0), (Reg.TOP_DRAIN_CNT 8, 0, 0), (Reg.TOP_DRAIN_STATUS, 0, 0)] s (boundaryFail s code unit
    ident) := by
  unfold boundaryFail
  exact .trans ((wrN_rdBut0 (off := Reg.TOP_INTEG_LAST)).mono) (.ite (.trans (.of_evolves (W := { recd := true }) .set_recd) record_rdBut.mono) .refl)

/-! A partition's number is below 32, so that its registers lie in arrays of known length. -/

/-- The registers that the account of a partition's waits can write. -/
def waitRegs : List (Nat × Nat × Nat) := [(Reg.PB_FRZ_CNT 0, 0x10, 32), (Reg.CAP_RDUR_LO 0 0, 0x10, 512), (Reg.CAP_RDUR_LO 0 0 + 4, 0x10, 512), (Reg.CAP_RCNT 0 0, 0x10, 512)]

section
variable {p r : Nat} (hp : p < 32) (hr : r < 16)
include hp

theorem freezeHeld_rdBut : RdBut [(Reg.PB_FRZ_CNT 0, 0x10, 32)] s (freezeHeld s p) := by
  unfold freezeHeld
  extract_lets s1 s2
  have h1 : RdBut [(Reg.PB_FRZ_CNT 0, 0x10, 32)] s s2 := .of_regs rfl
  have h2 : RdBut [(Reg.PB_FRZ_CNT 0, 0x10, 32)] s2 (bump s2 (Reg.PB_FRZ_CNT p) F.PB_FRZ_CNT_HELD) := wr_rdButN hp
  exact .ite (h1.trans h2) .refl

include hr

theorem capRegister_eq (base : Nat) : base + 0x100 * p + 0x10 * r = base + 0x10 * (16 * p + r) ∧ 16 * p + r < 512 := by omega

theorem reasonTime_rdBut {units : Nat} : RdBut [(Reg.CAP_RDUR_LO 0 0, 0x10, 512), (Reg.CAP_RDUR_LO 0 0 + 4, 0x10, 512)] s (reasonTime s p r units) := by
  obtain ⟨he, hlt⟩ := capRegister_eq hp hr (Reg.CAP_RDUR_LO 0 0)
  unfold reasonTime
  extract_lets t s1
  have h1 : RdBut [(Reg.CAP_RDUR_LO 0 0, 0x10, 512), (Reg.CAP_RDUR_LO 0 0 + 4, 0x10, 512)] s s1 := .of_regs rfl
  have w1 (s : State) (w : Word) : RdBut [(Reg.CAP_RDUR_LO 0 0, 0x10, 512)] s (wr s (Reg.CAP_RDUR_LO p r) w) := by
    rw [show Reg.CAP_RDUR_LO p r = Reg.CAP_RDUR_LO 0 0 + 0x10 * (16 * p + r) from he]
    exact wr_rdButN hlt
  have he4 : Reg.CAP_RDUR_LO p r + 4 = Reg.CAP_RDUR_LO 0 0 + 4 + 0x10 * (16 * p + r) := (congrArg (· + 4) he).trans (Nat.add_right_comm _ _ _)
  have w2 (s : State) (w : Word) : RdBut [(Reg.CAP_RDUR_LO 0 0 + 4, 0x10, 512)] s (wr s (Reg.CAP_RDUR_LO p r + 4) w) := by
    rw [he4]
    exact wr_rdButN hlt
  exact .ite (h1.trans ((w1 _ _).mono.trans (w2 _ _).mono)) .refl

theorem reasonCount_rdBut {k : Nat} : RdBut [(Reg.CAP_RCNT 0 0, 0x10, 512)] s (reasonCount s p r k) := by
  obtain ⟨he, hlt⟩ := capRegister_eq hp hr (Reg.CAP_RCNT 0 0)
  have w1 (s : State) (w : Word) : RdBut [(Reg.CAP_RCNT 0 0, 0x10, 512)] s (wr s (Reg.CAP_RCNT p r) w) := by
    rw [show Reg.CAP_RCNT p r = Reg.CAP_RCNT 0 0 + 0x10 * (16 * p + r) from he]
    exact wr_rdButN hlt
  unfold reasonCount
  exact .ite (w1 _ _) .refl

omit hr

theorem holdFreeze_rdBut : RdBut waitRegs s (holdFreeze s p) := by
  unfold holdFreeze
  extract_lets s1
  have h1 : RdBut waitRegs s s1 := (freezeHeld_rdBut hp).mono
  refine h1.trans ?_
  split
  · exact (reasonTime_rdBut hp (by decide)).mono.trans (.of_regs rfl)
  · exact (RdBut.of_regs (t := setCap s1 p _) rfl).trans (reasonCount_rdBut hp (by decide)).mono
  · exact .refl

theorem holdCore_rdBut : RdBut waitRegs s (holdCore s p) := by
  unfold holdCore
  split
  · exact (reasonTime_rdBut hp (by decide)).mono.trans (.of_regs rfl)
  · exact (RdBut.of_regs (t := setCap s p _) rfl).trans (reasonCount_rdBut hp (by decide)).mono
  · exact .refl

theorem holdUpdate_rdBut : RdBut waitRegs s (holdUpdate s p) := (holdFreeze_rdBut hp).trans (holdCore_rdBut hp)

end

theorem lt_of_mem_parts {p : Nat} (h : p ∈ parts s) : p < 32 := List.mem_range.1 (List.mem_filter.1 h).1

theorem fixedEnter_rdBut {s} : RdBut [(Reg.FQ_EVENT, 0, 0)] s (fixedEnter s) := by
  unfold fixedEnter
  exact .ite .refl (.trans (.of_evolves (W := { fq := true }) .set_fq) ((raise_rdBut0 (off := Reg.FQ_EVENT)).mono))

theorem coreSeen_rdBut {s n} : RdBut [(Reg.FQ_EVENT, 0, 0), (Reg.PB_FRZ_CNT 0, 0x10, 32), (Reg.CAP_RDUR_LO 0 0, 0x10, 512), (Reg.CAP_RDUR_LO 0 0 + 4, 0x10, 512), (Reg.CAP_RCNT 0 0, 0x10, 512)] s (coreSeen s n) := by
  unfold coreSeen
  exact .trans (.ite fixedEnter_rdBut.mono .refl) (.forEach_mem fun _ _ hp => (holdUpdate_rdBut (lt_of_mem_parts hp)).mono)

theorem coreClear_rdBut {s n} : RdBut [(Reg.FWC_MISS_CNT 0, 0x20, 0)] s (coreClear s n) := by
  unfold coreClear
  exact .trans drainAll_rdBut.mono
    (.trans (.forEach fun _ _ => (.of_evolves flushLine_evolves)) (.trans (setCore_rdBut.mono) ((.of_evolves setMbx_evolves))))

theorem coreRestart_rdBut {s n cause} : RdBut [(Reg.REC_EVENT, 0, 0), (Reg.REC_ARB_DROP 0, 0, 0), (Reg.REC_ARB_DROP 1, 0, 0), (Reg.REC_ARB_DROP 2,
    0, 0), (Reg.TOP_DRAIN_CNT 8, 0, 0), (Reg.TOP_DRAIN_STATUS, 0, 0), (Reg.FWC_MISS_CNT 0, 0x20, 0), (Reg.FWC_LD_EVENT, 0, 0), (Reg.FQ_EVENT, 0,
    0), (Reg.PB_FRZ_CNT 0, 0x10, 32), (Reg.CAP_RDUR_LO 0 0, 0x10, 512), (Reg.CAP_RDUR_LO 0 0 + 4, 0x10, 512), (Reg.CAP_RCNT 0 0, 0x10, 512),
    (Reg.SEC_IMG_STATUS, 0, 0), (Reg.SEC_IMG_FAIL_INFO, 0, 0), (Reg.TOP_COMMIT_STATUS, 0, 0)] s (coreRestart s n cause) := by
  unfold coreRestart
  refine .trans (t := (drawNat s (2 ^ 32)).2) (.of_evolves drawNat_evolves) ?_
  generalize drawNat s (2 ^ 32) = p
  obtain ⟨pc, t⟩ := p
  refine .ite record_rdBut.mono ?_
  extract_lets s1 s2 s3 s4 s5 i5 s6 s7
  refine .trans (t := s1) (.of_evolves readyEnds_evolves) ?_
  clear_value s1
  refine .ite ?_ ?_
  · exact .trans (t := s2) coreClear_rdBut.mono
      (.trans (t := s3) setCore_rdBut.mono (.trans (.trans (raise_rdBut0 (off := Reg.FWC_LD_EVENT)).mono record_rdBut.mono) coreSeen_rdBut.mono))
  · exact .trans (t := s4) setCore_rdBut.mono (.trans (t := s5) (.ite loadEnd_rdBut.mono .refl) (.trans (t := s6) (.ite (.of_evolves (W := { img := true }) .set_img) .refl)
        (.trans (t := s7) (.trans (raise_rdBut0 (off := Reg.FWC_LD_EVENT)).mono record_rdBut.mono) (.trans coreClear_rdBut.mono coreSeen_rdBut.mono))))

theorem ownerSync_rdBut {s} : RdBut [(Reg.TOP_COMMIT_OWNER, 0, 0)] s (ownerSync s) := by
  unfold ownerSync
  exact .ite (.ite ((wrN_rdBut0 (off := Reg.TOP_COMMIT_OWNER)).mono) (.ite ((wr_rdBut0 (off := Reg.TOP_COMMIT_OWNER)).mono) .refl)) .refl

theorem secBoot_rdBut {s ok idOk} : RdBut [(Reg.TOP_SUPPLY, 0, 0), (Reg.REC_EVENT, 0, 0), (Reg.REC_ARB_DROP 0, 0, 0), (Reg.REC_ARB_DROP 1, 0, 0),
    (Reg.REC_ARB_DROP 2, 0, 0), (Reg.TOP_DRAIN_CNT 8, 0, 0), (Reg.TOP_DRAIN_STATUS, 0, 0)] s (secBoot s ok idOk) := by
  unfold secBoot
  exact .trans ((setF_rdBut0 (off := Reg.TOP_SUPPLY)).mono)
    (.trans (.of_evolves (W := { fwc := true, sec := true }) .set_fwc_sec) (.ite .refl record_rdBut.mono))

/-! ## What a restart leaves of the cores -/

/-- The cores, without what the memory operations change of them. -/
def cores (s : State) (m : Nat) : CoreSt := plain (coreOf s m)

theorem cores_of_steady (h : Shows steady s t) : Shows cores s t := congrArg Prod.fst h.eq

theorem cores_of_fwc (h : t.fwc = s.fwc) : Shows cores s t := funext fun m => congrArg plain (coreOf_of_fwc h m)

theorem cores_setCore {f : CoreSt → CoreSt} (hf : ∀ c, plain (f c) = plain c := by intro _; rfl) : Shows cores s (setCore s n f) := cores_of_steady (steady_setCore hf)

theorem cores_setCore_ne {m : Nat} {f : CoreSt → CoreSt} (h : n ≠ m) : cores (setCore s n f) m = cores s m := by
  unfold cores
  rw [coreOf_setCore, if_neg h]

theorem cores_coreClear : Shows cores s (coreClear s n) := by
  unfold coreClear
  extract_lets s1 lines s2 s3
  have h1 : Shows cores s s1 := cores_of_steady steady_drainAll
  have h2 : Shows cores s1 s2 := .forEach fun _ _ => cores_of_steady (steady_of_holding holding_flushLine)
  have h3 : Shows cores s2 s3 := cores_setCore
  exact h1.trans (h2.trans (h3.trans (.of_eq rfl)))

theorem sb_coreClear : (coreOf (coreClear s n) n).sb = [] := by
  unfold coreClear
  extract_lets s1 lines s2 s3
  have h3 : (coreOf s3 n).sb = [] := congrArg CoreSt.sb (coreOf_setCore_same _ _)
  exact h3

/-- What a restart of core `n` leaves: `x` is the core as the restart found it. -/
def Restarted (cause : RestartCause) (x : CoreSt) (s t : State) (n : Nat) : Prop :=
  (coreOf t n).state = .restart ∧ (coreOf t n).cause = cause ∧ (coreOf t n).ready = false ∧ (coreOf t n).sb = [] ∧ (coreOf t n).img = x.img
    ∧ (coreOf t n).prev = x.prev ∧ (∀ m, m ≠ n → (coreOf t m).state = (coreOf s m).state)
    ∧ ∀ lo, lo < 32 → flag s Reg.FWC_LD_EVENT ⟨lo, 1⟩ = true → flag t Reg.FWC_LD_EVENT ⟨lo, 1⟩ = true

theorem restarts_or {cause : RestartCause} (hs : (coreOf s n).state ≠ .restart) : coreRestart s n cause
    = let p := drawNat s (2 ^ 32)
      let s := readyEnds p.2 n
      if fld s Reg.FWC_LIVE_CFG F.FWC_LIVE_CFG_RESTART_MAX ≤ (coreOf s n).streak then
        let s := coreClear s n
        let s := setCore s n (fun c => { c with state := .failed, cause := cause, halted := false })
        coreSeen (record (raise s Reg.FWC_LD_EVENT F.FWC_LD_EVENT_CORE_FAILED) .mgmt 0x10 0x02 n (causeCode cause) p.1 0) n
      else
        let s := setCore s n (fun c => { c with state := .restart, cause := cause, restarts := min (c.restarts + 1) 255, streak := c.streak + 1,
                                                causeAt := now s, halted := false })
        let s := if loadActive s && s.img.partial_ then loadEnd s 0x14 n 0 else s
        let s := if s.img.phase = .fetch then { s with img := { s.img with restarted := some n } } else s
        let s := record (raise s Reg.FWC_LD_EVENT F.FWC_LD_EVENT_RESTART) .mgmt 0x10 0x01 n (causeCode cause) p.1 0
        coreSeen (coreClear s n) n := by
  unfold coreRestart
  have h : (coreOf (drawNat s (2 ^ 32)).2 n).state ≠ .restart := by
    rw [coreOf_of_fwc (drawNat_evolves.fwc_eq rfl)]
    exact hs
  exact if_neg h

theorem coreOf_readyEnds : coreOf (readyEnds s n) n = { coreOf s n with ready := false, streak := if (coreOf s n).ready && decide ((coreOf s n).readyAt + 1000000000 ≤ now s) then 0 else (coreOf s n).streak } :=
  coreOf_setCore_same _ _

theorem flag_ldEvent_seen {lo : Nat} : flag (coreSeen s n) Reg.FWC_LD_EVENT ⟨lo, 1⟩ = flag s Reg.FWC_LD_EVENT ⟨lo, 1⟩ := coreSeen_rdBut.flag_eq _

theorem flag_ldEvent_record {p : Plane} {cls typ unit arg value value2 lo : Nat} :
    flag (record s p cls typ unit arg value value2) Reg.FWC_LD_EVENT ⟨lo, 1⟩ = flag s Reg.FWC_LD_EVENT ⟨lo, 1⟩ := record_rdBut.flag_eq _

theorem flag_ldEvent_clear {lo : Nat} : flag (coreClear s n) Reg.FWC_LD_EVENT ⟨lo, 1⟩ = flag s Reg.FWC_LD_EVENT ⟨lo, 1⟩ := coreClear_rdBut.flag_eq _

theorem coreOf_coreSeen (m : Nat) : coreOf (coreSeen s n) m = coreOf s m := coreOf_of_fwc (coreSeen_evolves.fwc_eq rfl) m

theorem fld_restartMax_of_regs (h : t.regs = s.regs) : fld t Reg.FWC_LIVE_CFG F.FWC_LIVE_CFG_RESTART_MAX = fld s Reg.FWC_LIVE_CFG F.FWC_LIVE_CFG_RESTART_MAX :=
  fld_congr (rd_of_regs h _) _

theorem coreRestart_results {cause : RestartCause} (hs : (coreOf s n).state ≠ .restart)
    (hm : (coreOf s n).streak < fld s Reg.FWC_LIVE_CFG F.FWC_LIVE_CFG_RESTART_MAX) : Restarted cause (coreOf s n) s (coreRestart s n cause) n := by
  rw [restarts_or hs]
  extract_lets p s1 f1 f2 s2 s3 i4 s4 s5
  have e0 : Evolves { freeCtr := true } s p.2 := drawNat_evolves
  have c0 (m : Nat) : coreOf p.2 m = coreOf s m := coreOf_of_fwc (e0.fwc_eq rfl) m
  have c1 : (coreOf s1 n).streak ≤ (coreOf s n).streak ∧ (coreOf s1 n).ready = false ∧ (coreOf s1 n).img = (coreOf s n).img ∧ (coreOf s1 n).prev = (coreOf s n).prev := by
    have h : coreOf s1 n = _ := coreOf_readyEnds
    rw [h, c0]
    refine ⟨?_, rfl, rfl, rfl⟩
    dsimp only
    split
    · exact Nat.zero_le _
    · exact Nat.le_refl _
  have m1 (m : Nat) (hmn : m ≠ n) : cores s1 m = cores s m := (cores_setCore_ne (Ne.symm hmn)).trans (congrArg plain (c0 m))
  have r1 : s1.regs = s.regs := e0.regs_eq rfl
  clear_value s1 p
  rw [if_neg (by rw [fld_restartMax_of_regs r1]; omega)]
  obtain ⟨hstreak, hready, himg, hprev⟩ := c1
  have c2 : (coreOf s2 n).state = .restart ∧ (coreOf s2 n).cause = cause ∧ (coreOf s2 n).ready = false ∧ (coreOf s2 n).img = (coreOf s n).img
      ∧ (coreOf s2 n).prev = (coreOf s n).prev := by
    have h : coreOf s2 n = _ := coreOf_setCore_same _ _
    rw [h]
    exact ⟨rfl, rfl, hready, himg, hprev⟩
  have m2 (m : Nat) (hmn : m ≠ n) : cores s2 m = cores s m := (cores_setCore_ne (Ne.symm hmn)).trans (m1 m hmn)
  have r2 : s2.regs = s.regs := r1
  clear_value s2
  have e3 : Evolves { regs := true, drain := true, recd := true, img := true } s2 s3 := .ite loadEnd_evolves .refl
  have h3 : RdBut [(Reg.SEC_IMG_STATUS, 0, 0), (Reg.SEC_IMG_FAIL_INFO, 0, 0), (Reg.REC_EVENT, 0, 0), (Reg.REC_ARB_DROP 0, 0, 0), (Reg.REC_ARB_DROP 1, 0, 0),
      (Reg.REC_ARB_DROP 2, 0, 0), (Reg.TOP_DRAIN_CNT 8, 0, 0), (Reg.TOP_DRAIN_STATUS, 0, 0), (Reg.TOP_COMMIT_STATUS, 0, 0)] s2 s3 := .ite loadEnd_rdBut .refl
  have e4 : Evolves { img := true } s3 s4 := .ite .set_img .refl
  have e5 : Evolves { regs := true, drain := true, recd := true } s4 s5 := .trans raise_evolves.mono record_evolves
  have h5 (lo : Nat) (hlo : lo < 32) (h : flag s Reg.FWC_LD_EVENT ⟨lo, 1⟩ = true) : flag s5 Reg.FWC_LD_EVENT ⟨lo, 1⟩ = true := by
    refine flag_ldEvent_record.trans (flag_raise_keeps (by decide) ?_ hlo)
    rw [flag_congr (rd_of_regs (e4.regs_eq rfl) _), h3.flag_eq, flag_congr (rd_of_regs r2 _), h]
  have h25 : s5.fwc = s2.fwc := (e5.fwc_eq rfl).trans ((e4.fwc_eq rfl).trans (e3.fwc_eq rfl))
  clear_value s5
  have hc (m : Nat) : cores (coreSeen (coreClear s5 n) n) m = cores s2 m := by
    rw [cores, coreOf_coreSeen]
    exact (congrFun cores_coreClear.eq m).trans (congrFun (cores_of_fwc h25).eq m)
  obtain ⟨h1, h2, h3, h4, h6⟩ := c2
  refine ⟨?_, ?_, ?_, ?_, ?_, ?_, fun m hmn => ?_, fun lo hlo hf => ?_⟩
  · exact (congrArg CoreSt.state (hc n) :).trans h1
  · exact (congrArg CoreSt.cause (hc n) :).trans h2
  · exact (congrArg CoreSt.ready (hc n) :).trans h3
  · rw [coreOf_coreSeen]
    exact sb_coreClear
  · exact (congrArg CoreSt.img (hc n) :).trans h4
  · exact (congrArg CoreSt.prev (hc n) :).trans h6
  · exact (congrArg CoreSt.state ((hc m).trans (m2 m hmn)) :)
  · rw [flag_ldEvent_seen, flag_ldEvent_clear]
    exact h5 lo hlo hf

/-- R746: after RESTART_MAX restarts a core is held in FAILED. -/
theorem coreRestart_failed {cause : RestartCause} (hs : (coreOf s n).state ≠ .restart) (hr : (coreOf s n).ready = false)
    (hm : fld s Reg.FWC_LIVE_CFG F.FWC_LIVE_CFG_RESTART_MAX ≤ (coreOf s n).streak) :
    (coreOf (coreRestart s n cause) n).state = .failed ∧ flag (coreRestart s n cause) Reg.FWC_LD_EVENT F.FWC_LD_EVENT_CORE_FAILED = true := by
  rw [restarts_or hs]
  extract_lets p s1 f1 f2 s2 s3 i4 s4 s5
  have e0 : Evolves { freeCtr := true } s p.2 := drawNat_evolves
  have c1 : (coreOf s1 n).streak = (coreOf s n).streak := by
    have h : coreOf s1 n = _ := coreOf_readyEnds
    rw [h, coreOf_of_fwc (e0.fwc_eq rfl), hr]
    rfl
  have r1 : s1.regs = s.regs := e0.regs_eq rfl
  rw [if_pos (by rw [fld_restartMax_of_regs r1, c1]; exact hm)]
  have hf : (coreOf f2 n).state = .failed := congrArg CoreSt.state (coreOf_setCore_same _ _)
  clear_value f2
  have e : Evolves { regs := true, drain := true, recd := true } f2
      (record (raise f2 Reg.FWC_LD_EVENT F.FWC_LD_EVENT_CORE_FAILED) Plane.mgmt 16 2 n (causeCode cause) p.1 0) := .trans raise_evolves.mono record_evolves
  refine ⟨?_, ?_⟩
  · rw [coreOf_coreSeen, coreOf_of_fwc (e.fwc_eq rfl)]
    exact hf
  · rw [flag_ldEvent_seen, flag_ldEvent_record]
    exact flag_raise _ _ _ (by decide)

end

end Sys2Proof.Machine
end

section
/-! PROOF. Caches, fences and memory errors of the cores (O48). -/

namespace Sys2Proof.Machine
open Host
set_option Elab.async false

section
variable {s t u : State} {n : Nat}

/-! ## Fills -/

/-- What decides whether a core's cache holds a line. -/
def caches (s : State) (n : Nat) : Tab CacheSet × Tab CacheSet × Nat × Nat := ((coreOf s n).iset, (coreOf s n).dset, (coreOf s n).iways, (coreOf s n).dways)

theorem cached_of_caches (h : caches t n = caches s n) (ic : Bool) (l : Nat) : cached t n ic l = cached s n ic l := by
  obtain ⟨h1, h2, h3, h4⟩ : _ ∧ _ ∧ _ ∧ _ := by simpa [caches] using h
  unfold cached wayOf cacheSet cacheSets cacheWays
  rw [h1, h2, h3, h4]

theorem ways_tabSet {t : Tab Nat} {w v : Nat} (h : v ≠ 0) : (tabSet 0 t w v).find? (fun p => p.2 == v) ≠ none := by
  intro hn
  have h1 := List.find?_eq_none.1 hn
  rcases tabGet_mem_or_default 0 (tabSet 0 t w v) w with hm | hd
  · exact h1 _ hm (by rw [tabGet_tabSet_same]; exact beq_self_eq_true _)
  · rw [tabGet_tabSet_same] at hd
    exact h hd

theorem cacheSet_putCacheSet {c : CoreSt} {ic : Bool} {l : Nat} {x : CacheSet} : cacheSet (putCacheSet c ic l x) ic l = x := by
  cases ic
  · exact tabGet_tabSet_same _ _ _ _
  · exact tabGet_tabSet_same _ _ _ _

theorem wayOf_putCacheSet {c : CoreSt} {ic : Bool} {l : Nat} {x : CacheSet} : wayOf (putCacheSet c ic l x) ic l = (x.ways.find? (fun w => w.2 == l + 1)).map (fun w => w.1) := by
  unfold wayOf
  rw [cacheSet_putCacheSet]

/-- R695: a fill brings its line. -/
theorem cached_fillLine {ic : Bool} {l : Nat} : cached (fillLine s n ic l) n ic l = true := by
  unfold fillLine
  extract_lets c k x
  split
  next w hw =>
    unfold cached
    rw [coreOf_setCore_same, wayOf_putCacheSet]
    have : (x.ways.find? (fun w => w.2 == l + 1)).map (fun w => w.1) = some w := hw
    rw [this]
    rfl
  next hw =>
    unfold cached
    rw [coreOf_setCore_same, wayOf_putCacheSet, Option.isSome_map, Option.isSome_iff_ne_none]
    exact ways_tabSet (Nat.succ_ne_zero l)

/-- The outstanding misses of the cores. -/
def missing (s : State) (m : Nat) : List MissReg := (coreOf s m).miss

theorem missing_setCore {f : CoreSt → CoreSt} (hf : ∀ c, (f c).miss = c.miss := by intro _; rfl) : Shows missing s (setCore s n f) := by
  funext m
  unfold missing
  rw [coreOf_setCore]
  split
  next h => rw [hf, h]
  next => rfl

theorem missing_flushLine {line : Nat} : Shows missing s (flushLine s line) := by
  unfold flushLine
  exact .both .refl ((Shows.of_eq (t := memPoke (dropDirty s line) _ _) rfl).trans missing_setCore)

theorem missing_toWb {line : Nat} : Shows missing s (toWb s n line) := by
  unfold toWb
  extract_lets s1 d _ s2
  have h1 : Shows missing s s1 := by
    dsimp only [s1]
    split
    · exact .both missing_flushLine .refl
    · exact .refl
  exact h1.trans ((Shows.of_eq (t := s2) rfl).trans missing_setCore)

theorem missing_putCacheSet {c : CoreSt} {ic : Bool} {line : Nat} {x : CacheSet} : (putCacheSet c ic line x).miss = c.miss := by
  cases ic <;> rfl

theorem missing_fillLine {ic : Bool} {line : Nat} : Shows missing s (fillLine s n ic line) := by
  unfold fillLine
  extract_lets c k x
  split
  · exact missing_setCore fun _ => missing_putCacheSet
  · exact (Shows.both missing_toWb .refl).trans (missing_setCore fun _ => missing_putCacheSet)

theorem cached_setCore {f : CoreSt → CoreSt} {ic : Bool} {l : Nat}
    (hf : ∀ c, (f c).iset = c.iset ∧ (f c).dset = c.dset ∧ (f c).iways = c.iways ∧ (f c).dways = c.dways := by intro _; exact ⟨rfl, rfl, rfl, rfl⟩) :
    cached (setCore s n f) n ic l = cached s n ic l := by
  obtain ⟨h1, h2, h3, h4⟩ := hf (coreOf s n)
  refine cached_of_caches ?_ ic l
  unfold caches
  rw [coreOf_setCore_same, h1, h2, h3, h4]

/-- A miss that ends. -/
def endMiss (icache : Bool) (l : Nat) (c : CoreSt) : CoreSt := { c with miss := c.miss.filter (fun x => !(x.icache == icache && x.line == l)) }

theorem cacheFillDone_results (core : CoreIx) (icache : Bool) (line : Fin 81920) (m : MissReg) (s : State) (hf : fwOn s = true)
    (hm : (coreOf s core.val).miss.find? (fun m => m.icache == icache && m.line == line.val) = some m) :
    Runs (.cacheFillDone core icache line) s (fun t => (∀ x ∈ (coreOf t core.val).miss, ¬ (x.icache = icache ∧ x.line = line.val))
      ∧ (m.stale = false → cached t core.val icache line.val = true) ∧ (m.stale = true → cached t core.val icache line.val = cached s core.val icache line.val)) := by
  show ∃ t, execCacheFillDone core icache line s = .next t ∧ _
  unfold execCacheFillDone
  extract_lets n l
  rw [show (coreOf s n).miss.find? (fun m => m.icache == icache && m.line == l) = some m from hm]
  dsimp only
  rw [if_neg (by rw [hf]; decide)]
  have h1 : ∀ x ∈ missing (setCore s n (endMiss icache l)) n, ¬ (x.icache = icache ∧ x.line = l) := by
    intro x hx
    unfold missing at hx
    rw [coreOf_setCore_same] at hx
    have := (List.mem_filter.1 hx).2
    rintro ⟨ha, hb⟩
    rw [ha, hb] at this
    simp at this
  cases hs : m.stale
  · rw [if_neg (by decide)]
    refine ⟨_, rfl, ?_, fun _ => cached_fillLine, fun h => (nomatch h)⟩
    show ∀ x ∈ missing (fillLine (setCore s n (endMiss icache l)) n icache l) n, _
    rw [missing_fillLine.eq]
    exact h1
  · rw [if_pos rfl]
    exact ⟨setCore s n (endMiss icache l), rfl, h1, fun h => (nomatch h), fun _ => cached_setCore⟩

theorem instructionFill_results (core : CoreIx) (line : Fin 81920) (s : State) (hr : coreRuns s core.val = true) (hc : cached s core.val true line.val = false)
    (hm : (coreOf s core.val).miss.find? (fun m => m.icache == true && m.line == line.val) = none) :
    Runs (.cacheFillDone core true line) s (fun t => cached t core.val true line.val = true
      ∧ fld t (Reg.FWC_MISS_CNT core.val) F.FWC_MISS_CNT_IMISS = min (fld s (Reg.FWC_MISS_CNT core.val) F.FWC_MISS_CNT_IMISS + 1) 65535) := by
  show ∃ t, execCacheFillDone core true line s = .next t ∧ _
  unfold execCacheFillDone
  extract_lets n l s1 s2
  rw [show (coreOf s n).miss.find? (fun m => m.icache == true && m.line == l) = none from hm]
  dsimp only
  rw [if_pos ⟨rfl, hr, by rw [show cached s n true l = false from hc]; rfl⟩]
  refine ⟨_, rfl, ?_⟩
  have h1 : cached s2 n true l = true := cached_fillLine
  have h2 : fld s2 (Reg.FWC_MISS_CNT n) F.FWC_MISS_CNT_IMISS = min (fld s (Reg.FWC_MISS_CNT n) F.FWC_MISS_CNT_IMISS + 1) 65535 :=
    (fld_congr (rd_of_regs (fillLine_evolves.regs_eq rfl) _) _).trans (fld_bump_same _ _ _ (by decide))
  clear_value s2
  split
  · exact ⟨h1, h2⟩
  · exact ⟨(cached_setCore (s := s2)).trans h1, h2⟩

theorem writebackDrain_results (core : CoreIx) (l : Nat) (rest : List Nat) (s : State) (hf : fwOn s = true) (hw : (coreOf s core.val).wb = l :: rest)
    (hc : (dirtyOf s l).core = core.val) (hl : (dirtyOf s l).data.length = 64) :
    Runs (.writebackDrain core) s (fun t => l ∉ (coreOf t core.val).wb ∧ (dirtyOf t l).data = []
      ∧ (∀ i, i < 64 → tabGet 0 t.fwc.mem (l * 64 + i) = (dirtyOf s l).data.getD i 0) ∧ ∀ a, memByte t a = memByte s a) := by
  show ∃ t, execWritebackDrain core s = .next t ∧ _
  unfold execWritebackDrain
  rw [hw]
  dsimp only
  rw [if_pos hf]
  refine ⟨_, rfl, ?_, ?_, fun i hi => ?_, memByte_flushLine (.inr hl)⟩
  · unfold flushLine
    extract_lets d s1
    rw [if_neg (fun h0 : (dirtyOf s l).data = [] => by rw [h0] at hl; cases hl), show d.core = core.val from hc, coreOf_setCore_same]
    intro hm
    have := (List.mem_filter.1 hm).2
    simp at this
  · rw [dirtyOf_flushLine, if_pos rfl]
  · rw [mem_flushLine, hl, if_pos (by omega), Nat.add_sub_cancel_left]

theorem mplaneWrite_results (core : CoreIx) (val : Word) (s : State) (h : coreRuns s core.val = true) :
    Runs (.mplaneWrite core false val) s (fun t => (coreOf t core.val).tag =
      (if val.toNat % 4 < 3 ∧ bitOf (coreTags s core.val) (val.toNat % 4) = true then val.toNat % 4 else (coreOf s core.val).tag))
    ∧ Runs (.mplaneWrite core true val) s (fun t => t.resp = .fault 2 ∧ (coreOf t core.val).tag = (coreOf s core.val).tag) := by
  refine ⟨⟨_, rfl, ?_⟩, _, rfl, ?_⟩
  · beta_reduce
    rw [if_neg (c := (!coreRuns s core.val) = true) (by rw [h]; decide), if_neg (by decide)]
    by_cases hc : val.toNat % 4 < 3 ∧ bitOf (coreTags s core.val) (val.toNat % 4) = true
    · rw [if_pos hc, if_pos hc, coreOf_setCore_same]
    · rw [if_neg hc, if_neg hc]
  · beta_reduce
    rw [if_neg (c := (!coreRuns s core.val) = true) (by rw [h]; decide), if_pos rfl]
    refine ⟨rfl, ?_⟩
    rw [coreOf_coreFault]

theorem mtimeCompare_results (core : CoreIx) (s : State) (h : fwOn s = true) :
    Runs (.mtimeCompare core) s (fun t => timerIrq t core.val = true ∧ t.fwc.mtime = max s.fwc.mtime (tabGet 0 s.fwc.mtimecmp core.val)) := by
  refine ⟨_, rfl, ?_⟩
  rw [if_neg (by rw [h]; decide)]
  exact ⟨decide_eq_true (Nat.le_max_right _ _), rfl⟩

/-! ## Errors -/

theorem fwOn_of (hk : t.clk = s.clk) : fwOn t = fwOn s := by
  unfold fwOn
  rw [hk]

theorem coreRuns_of {m : Nat} (hk : t.clk = s.clk) (hc : plain (coreOf t m) = plain (coreOf s m)) : coreRuns t m = coreRuns s m := by
  unfold coreRuns
  rw [fwOn_of hk, show (coreOf t m).state = (coreOf s m).state from (congrArg CoreSt.state hc :),
    show (coreOf t m).halted = (coreOf s m).halted from (congrArg CoreSt.halted hc :)]

theorem memUe_results {unit ix : Nat} : flag (memUe s unit ix) Reg.FWC_EVENT F.FWC_EVENT_SRAM_UE = true
    ∧ fld (memUe s unit ix) Reg.FWC_SRAM_ECC F.FWC_SRAM_ECC_UNCORR = min (fld s Reg.FWC_SRAM_ECC F.FWC_SRAM_ECC_UNCORR + 1) 65535 := by
  unfold memUe
  extract_lets s1
  have h1 : flag s1 Reg.FWC_EVENT F.FWC_EVENT_SRAM_UE = true := flag_raise _ _ _ (by decide)
  have h2 : fld s1 Reg.FWC_SRAM_ECC F.FWC_SRAM_ECC_UNCORR = min (fld s Reg.FWC_SRAM_ECC F.FWC_SRAM_ECC_UNCORR + 1) 65535 :=
    (fld_congr (rd_raise_ne _ _ (by decide)) _).trans (fld_bump_same _ _ _ (by decide))
  clear_value s1
  exact ⟨(boundaryFail_rdBut.flag_eq _).trans ((record_rdBut.flag_eq _).trans h1), (boundaryFail_rdBut.fld_eq _).trans ((record_rdBut.fld_eq _).trans h2)⟩

theorem memoryEccError_results (ix : Fin 5242880) (core : Option CoreIx) (fetch : Bool) (s : State) :
    Runs (.memoryEccError ix false core fetch) s (fun t => fld t Reg.FWC_SRAM_ECC F.FWC_SRAM_ECC_CORR = min (fld s Reg.FWC_SRAM_ECC F.FWC_SRAM_ECC_CORR + 1) 65535)
    ∧ Runs (.memoryEccError ix true core fetch) s (fun t => flag t Reg.FWC_EVENT F.FWC_EVENT_SRAM_UE = true
      ∧ fld t Reg.FWC_SRAM_ECC F.FWC_SRAM_ECC_UNCORR = min (fld s Reg.FWC_SRAM_ECC F.FWC_SRAM_ECC_UNCORR + 1) 65535
      ∧ ∀ c, core = some c → coreRuns s c.val = true → t.resp = .fault (if fetch then 1 else 5)) := by
  refine ⟨⟨_, rfl, fld_bump_same _ _ _ (by decide)⟩, ?_⟩
  show ∃ t, execMemoryEccError ix true core fetch s = .next t ∧ _
  unfold execMemoryEccError
  rw [if_neg (by decide)]
  extract_lets s1
  obtain ⟨h1, h2⟩ := memUe_results (s := s) (unit := (core.map (fun c => c.val)).getD 0) (ix := ix.val)
  have e1 : Evolves { regs := true, drain := true, recd := true } s s1 := memUe_evolves
  refine ⟨_, rfl, ?_⟩
  cases core
  case none => exact ⟨h1, h2, fun c hc => (nomatch hc)⟩
  case some c =>
    dsimp only
    have hr : coreRuns s1 c.val = coreRuns s c.val := coreRuns_of (e1.clk_eq rfl) (by rw [coreOf_of_fwc (e1.fwc_eq rfl)])
    rw [hr]
    refine ⟨?_, ?_, ?_⟩
    · split
      · exact (coreFault_rdBut.flag_eq _ rfl).trans h1
      · exact h1
    · split
      · exact (coreFault_rdBut.fld_eq _ rfl).trans h2
      · exact h2
    · rintro _ ⟨⟩ hc
      rw [if_pos hc]
      rfl

theorem registerAccessTimeout_results (core : CoreIx) (store : Bool) (s : State) (h : coreRuns s core.val = true) :
    Runs (.registerAccessTimeout core store) s (fun t => t.resp = .fault (if store then 7 else 5) ∧ flag t Reg.FWC_EVENT F.FWC_EVENT_BUS_TIMEOUT = true) := by
  refine ⟨_, rfl, ?_⟩
  rw [if_pos h]
  exact ⟨rfl, flag_raise _ _ _ (by decide)⟩

theorem state_of_runs {m : Nat} (h : coreRuns s m = true) : (coreOf s m).state = .run ∨ (coreOf s m).state = .ready ∨ (coreOf s m).state = .quiesce := by
  unfold coreRuns at h
  have h2 := (Bool.and_eq_true_iff.1 h).2
  split at h2
  next e => exact .inl e
  next e => exact .inr (.inl e)
  next e => exact .inr (.inr e)
  next => cases h2

theorem not_restart_of_runs {m : Nat} (h : coreRuns s m = true) : (coreOf s m).state ≠ .restart := by
  rcases state_of_runs h with e | e | e <;> rw [e] <;> decide

/-- Outside a live update a restart that is asked for is done at once. -/
theorem askRestart_of_idle {cause : RestartCause} (h : s.fwc.ld.phase = .idle) : askRestart s n cause = coreRestart s n cause := by
  unfold askRestart
  rw [if_neg]
  rintro ⟨hp, _⟩
  rw [h] at hp
  cases hp

theorem cacheCorrected_results (core : CoreIx) (icache : Bool) (line : Fin 81920) (double : Bool) (s : State)
    (hn : ¬ (icache = false ∧ (dirtyOf s line.val).data ≠ [] ∧ (dirtyOf s line.val).core = core.val)) (hc : cached s core.val icache line.val = true) :
    Runs (.cacheEccError core icache line double) s (fun t => cached t core.val icache line.val = true
      ∧ fld t (Reg.FWC_ECC_CNT core.val) (if icache then F.FWC_ECC_CNT_ICORR else F.FWC_ECC_CNT_DCORR)
        = min (fld s (Reg.FWC_ECC_CNT core.val) (if icache then F.FWC_ECC_CNT_ICORR else F.FWC_ECC_CNT_DCORR) + 1) 255) := by
  show ∃ t, execCacheEccError core icache line double s = .next t ∧ _
  unfold execCacheEccError
  extract_lets n l d dirty s1 s2 s3 s4 s5
  have hd : ¬ dirty := fun h => hn ⟨by simpa using h.1, h.2.1, h.2.2⟩
  rw [if_neg fun h => hd h.1, if_neg hd, if_pos hc]
  refine ⟨_, rfl, cached_fillLine, ?_⟩
  refine (fld_congr (rd_of_regs (fillLine_evolves.regs_eq rfl) _) _).trans ?_
  refine (setCore_rdBut.fld_eq _ rfl).trans ?_
  cases icache
  · exact fld_bump_same _ _ _ (by decide)
  · exact fld_bump_same _ _ _ (by decide)

theorem plain_untagWb {c : CoreSt} {ic : Bool} {line : Nat} {l : List Nat} : plain { untag c ic line with wb := l } = plain c := by
  have h : held (untag c ic line) = held c := held_untag
  have h2 : held { untag c ic line with wb := l } = held (untag c ic line) := rfl
  unfold plain
  rw [h2, h]

theorem cacheUe_results (core : CoreIx) (line : Fin 81920) (s : State) (hd : (dirtyOf s line.val).data ≠ []) (hc : (dirtyOf s line.val).core = core.val)
    (hr : coreRuns s core.val = true) (hp : s.fwc.ld.phase = .idle) (hm : (coreOf s core.val).streak < fld s Reg.FWC_LIVE_CFG F.FWC_LIVE_CFG_RESTART_MAX) :
    Runs (.cacheEccError core false line true) s (fun t => flag t Reg.FWC_EVENT F.FWC_EVENT_CACHE_UE = true
      ∧ (coreOf t core.val).state = .restart ∧ (coreOf t core.val).cause = .cacheEcc) := by
  show ∃ t, execCacheEccError core false line true s = .next t ∧ _
  unfold execCacheEccError
  extract_lets n l d dirty s1 s2 s3 s4 s5
  have hdirty : dirty := ⟨rfl, hd, hc⟩
  rw [if_pos ⟨hdirty, rfl⟩]
  refine ⟨_, rfl, ?_⟩
  have c2 : Shows cores s s2 := (Shows.of_eq (t := s1) rfl).trans (cores_setCore fun c => plain_untagWb)
  have p2 : s2.fwc.ld = s.fwc.ld := rfl
  have r2 : s2.regs = s.regs := rfl
  have k2 : s2.clk = s.clk := rfl
  clear_value s2
  have h3 : flag s3 Reg.FWC_EVENT F.FWC_EVENT_CACHE_UE = true := (record_rdBut.flag_eq _).trans (flag_raise _ _ _ (by decide))
  have e4 : Evolves { regs := true, drain := true, recd := true } s2 s4 := .trans (.trans raise_evolves.mono record_evolves) boundaryFail_evolves.mono
  have h4 : flag s4 Reg.FWC_EVENT F.FWC_EVENT_CACHE_UE = true := (boundaryFail_rdBut.flag_eq _).trans h3
  have hmax : rd s4 Reg.FWC_LIVE_CFG = rd s Reg.FWC_LIVE_CFG := by
    rw [boundaryFail_rdBut.rd_eq, record_rdBut.rd_eq, raise_rdBut0.rd_eq, rd_of_regs r2]
  clear_value s4
  have c4 : plain (coreOf s4 n) = plain (coreOf s n) := (congrArg plain (coreOf_of_fwc (e4.fwc_eq rfl) n)).trans (congrFun c2.eq n)
  have hr4 : coreRuns s4 n = true := (coreRuns_of ((e4.clk_eq rfl).trans k2) c4).trans hr
  rw [if_pos hr4, askRestart_of_idle (by rw [e4.fwc_eq rfl, p2]; exact hp)]
  have hs4 : (coreOf s4 n).streak < fld s4 Reg.FWC_LIVE_CFG F.FWC_LIVE_CFG_RESTART_MAX := by
    rw [fld_congr hmax, show (coreOf s4 n).streak = (coreOf s n).streak from (congrArg CoreSt.streak c4 :)]
    exact hm
  obtain ⟨ht, hcause, _⟩ := coreRestart_results (cause := .cacheEcc) (not_restart_of_runs hr4) hs4
  exact ⟨(coreRestart_rdBut.flag_eq _).trans h4, ht, hcause⟩

/-- Settles O48: one rule per cache, timer or error command, over the rules of fills, write-backs and restarts. -/
theorem coreCacheAndErrorResults : Obligations.CoreCacheAndErrorResults := by
  unfold Obligations.CoreCacheAndErrorResults
  exact ⟨mplaneWrite_results, cacheFillDone_results, instructionFill_results, writebackDrain_results, mtimeCompare_results, memoryEccError_results,
    fun core icache line double s => ⟨cacheCorrected_results core icache line double s, cacheUe_results core line s⟩, registerAccessTimeout_results⟩

end

end Sys2Proof.Machine
end

section
/-! PROOF. Release, readiness, watchdogs and restart of the cores (O51). -/

namespace Sys2Proof.Machine
open Host
set_option Elab.async false

section
variable {s t u : State} {n : Nat}

/-! ## Release -/

/-- A core that begins to run image `i`. -/
def Begun (s t : State) (n : Nat) (i : FwImg) (again : Bool) : Prop := (coreOf t n).state = .run ∧ (coreOf t n).ready = false ∧ (coreOf t n).user = false
  ∧ (coreOf t n).tcm = tcmImage s i ∧ (coreOf t n).wasRestarted = again ∧ (coreOf t n).wdFrom = now s ∧ (coreOf t n).readyFrom = now s
  ∧ (coreOf t n).iways = coreIwaysF (framesOf s) n ∧ (coreOf t n).dways = coreDwaysF (framesOf s) n
  ∧ (coreTagsF (framesOf s) n % 2 = 1 → (coreOf t n).tag = 0) ∧ (coreTagsF (framesOf s) n = 6 → (coreOf t n).tag = 1) ∧ (coreTagsF (framesOf s) n = 4 → (coreOf t n).tag = 2)

theorem lowestTag (v : Nat) : (v % 2 = 1 → ((maskBits 3 v).head?).getD 0 = 0) ∧ (v = 6 → ((maskBits 3 v).head?).getD 0 = 1) ∧ (v = 4 → ((maskBits 3 v).head?).getD 0 = 2) := by
  refine ⟨fun h => ?_, ?_, ?_⟩
  · have h0 : bitOf v 0 = true := by
      unfold bitOf
      rw [Nat.testBit_zero, h]
      rfl
    show (((List.filter (bitOf v) (0 :: [1, 2])).head?).getD 0) = 0
    rw [List.filter_cons_of_pos h0]
    rfl
  · rintro rfl
    decide
  · rintro rfl
    decide

theorem coreRelease_begins {i : FwImg} {again : Bool} (hi : (coreOf s n).img = some i) (hk : retainOk s i = true) : Begun s (coreRelease s n again) n i again := by
  unfold coreRelease
  rw [hi]
  dsimp only
  rw [if_neg (by rw [hk]; decide)]
  unfold Begun
  rw [coreOf_coreSeen, coreOf_setCore_same]
  obtain ⟨h0, h1, h2⟩ := lowestTag (coreTagsF (framesOf s) n)
  exact ⟨rfl, rfl, rfl, rfl, rfl, rfl, rfl, rfl, rfl, h0, h1, h2⟩

theorem coreRelease_failed {i : FwImg} {again : Bool} (hi : (coreOf s n).img = some i) (hk : retainOk s i = false) :
    (coreOf (coreRelease s n again) n).state = .failed ∧ flag (coreRelease s n again) Reg.FWC_LD_EVENT F.FWC_LD_EVENT_RETAIN_BAD = true := by
  unfold coreRelease
  rw [hi]
  dsimp only
  rw [if_pos (by rw [hk]; rfl)]
  have h1 : (coreOf (setCore s n fun c => { c with state := .failed, ready := false }) n).state = .failed := congrArg CoreSt.state (coreOf_setCore_same _ _)
  generalize (setCore s n fun c => { c with state := .failed, ready := false }) = s1 at h1 ⊢
  refine ⟨?_, ?_⟩
  · rw [coreOf_coreSeen, coreOf_of_fwc (boundaryFail_evolves.fwc_eq rfl), coreOf_of_fwc (record_evolves.fwc_eq rfl), coreOf_of_fwc (raise_evolves.fwc_eq rfl)]
    exact h1
  · rw [flag_ldEvent_seen]
    exact (boundaryFail_rdBut.flag_eq _).trans (flag_ldEvent_record.trans (flag_raise _ _ _ (by decide)))

theorem release_results (who : Initiator) (core : CoreIx) (i : FwImg) (s : State) (ha : admits s who (Reg.FWC_CORE_CTL core.val) 0x5A01 = true)
    (hs : (coreOf s core.val).state = .loaded) (hi : (coreOf s core.val).img = some i) :
    Runs (.release who core) s (fun t => (retainOk s i = true → Begun s t core.val i false)
      ∧ (retainOk s i = false → (coreOf t core.val).state = .failed ∧ flag t Reg.FWC_LD_EVENT F.FWC_LD_EVENT_RETAIN_BAD = true)) := by
  refine ⟨_, congrArg Outcome.next (gated_of_admits _ _ _ _ _ ha), ?_⟩
  unfold coreRel
  rw [if_pos (show (coreOf { s with resp := .none } core.val).state = .loaded from hs)]
  exact ⟨fun hk => coreRelease_begins (s := { s with resp := .none }) hi hk, fun hk => coreRelease_failed (s := { s with resp := .none }) hi hk⟩

theorem fwc_ld_coreSeen : (coreSeen s n).fwc = s.fwc := coreSeen_evolves.fwc_eq rfl

theorem ld_coreRelease {i : FwImg} {again : Bool} (hi : (coreOf s n).img = some i) (hk : retainOk s i = true) : (coreRelease s n again).fwc.ld = s.fwc.ld := by
  unfold coreRelease
  rw [hi]
  dsimp only
  rw [if_neg (by rw [hk]; decide), fwc_ld_coreSeen]
  rfl

theorem coreRestartRelease_results (core : CoreIx) (i : FwImg) (s : State) (hf : fwOn s = true) (hs : (coreOf s core.val).state = .restart)
    (hi : (coreOf s core.val).img = some i) (hk : retainOk s i = true) (hp : s.fwc.ld.phase ≠ .rollback) :
    Runs (.coreRestartRelease core) s (fun t => Begun s t core.val i true) := by
  refine ⟨_, rfl, ?_⟩
  rw [if_pos ⟨hf, hs⟩]
  unfold backDone
  rw [if_neg]
  · exact coreRelease_begins hi hk
  · rintro ⟨hb, _⟩
    rw [ld_coreRelease hi hk] at hb
    exact hp hb

/-! ## Restarts -/

/-- What O51 says of a restart. -/
def RestartedBy (s t : State) (n : Nat) (c : RestartCause) : Prop := (coreOf t n).state = .restart ∧ (coreOf t n).cause = c ∧ (coreOf t n).ready = false
  ∧ (coreOf t n).sb = [] ∧ t.active = s.active ∧ t.top.commits = s.top.commits ∧ ∀ m, m ≠ n → (coreOf t m).state = (coreOf s m).state

theorem restartedBy_coreRestart {cause : RestartCause} (hs : (coreOf s n).state ≠ .restart)
    (hm : (coreOf s n).streak < fld s Reg.FWC_LIVE_CFG F.FWC_LIVE_CFG_RESTART_MAX) : RestartedBy s (coreRestart s n cause) n cause := by
  obtain ⟨h1, h2, h3, h4, _, _, h7, _⟩ := coreRestart_results (cause := cause) hs hm
  exact ⟨h1, h2, h3, h4, coreRestart_evolves.active_eq rfl, congrArg TopSt.commits (coreRestart_evolves.top_eq rfl), h7⟩

theorem restartedBy_reach {cause : RestartCause} {at_ : Nat} (hr : coreRuns s n = true) (hm : (coreOf s n).streak < fld s Reg.FWC_LIVE_CFG F.FWC_LIVE_CFG_RESTART_MAX)
    (hp : s.fwc.ld.phase = .idle) : RestartedBy s (timedRestart (reach s at_) n cause) n cause := by
  have e1 : Evolves { tb := true } s (reach s at_) := reach_evolves
  have hn : ¬((reach s at_).fwc.ld.phase = .handover ∧ (reach s at_).fwc.ld.cur = n) := by
    rintro ⟨h, _⟩
    rw [e1.fwc_eq rfl, hp] at h
    cases h
  unfold timedRestart
  rw [if_neg hn]
  generalize reach s at_ = s1 at e1
  have hc (m : Nat) : coreOf s1 m = coreOf s m := coreOf_of_fwc (e1.fwc_eq rfl) m
  have h := restartedBy_coreRestart (s := s1) (n := n) (cause := cause) (by rw [hc]; exact not_restart_of_runs hr)
    (by rw [hc, fld_restartMax_of_regs (e1.regs_eq rfl)]; exact hm)
  obtain ⟨h1, h2, h3, h4, h5, h6, h7⟩ := h
  exact ⟨h1, h2, h3, h4, h5.trans (e1.active_eq rfl), h6.trans (congrArg TopSt.commits (e1.top_eq rfl)), fun m hm => (h7 m hm).trans (by rw [hc])⟩

theorem restart_results (who : Initiator) (core : CoreIx) (s : State) (ha : admits s who (Reg.FWC_CORE_CTL core.val) 0x5A02 = true)
    (hs : (coreOf s core.val).state ∈ [CoreState.run, .ready, .quiesce]) (hp : s.fwc.ld.phase = .idle) :
    Runs (.restart who core) s (fun t => (s.top.rst = none → (coreOf s core.val).streak < fld s Reg.FWC_LIVE_CFG F.FWC_LIVE_CFG_RESTART_MAX → RestartedBy s t core.val .host)
      ∧ (s.top.rst = none → (coreOf s core.val).ready = false → ¬ (coreOf s core.val).streak < fld s Reg.FWC_LIVE_CFG F.FWC_LIVE_CFG_RESTART_MAX →
          (coreOf t core.val).state = .failed ∧ flag t Reg.FWC_LD_EVENT F.FWC_LD_EVENT_CORE_FAILED = true)
      ∧ (s.top.rst.isSome = true → t.fwc = s.fwc ∧ fld t Reg.TOP_RST_STATUS F.TOP_RST_STATUS_RESULT = 7)) := by
  refine ⟨_, congrArg Outcome.next (gated_of_admits _ _ _ _ _ ha), ?_⟩
  have hst : (coreOf s core.val).state = .run ∨ (coreOf s core.val).state = .ready ∨ (coreOf s core.val).state = .quiesce := by simpa using hs
  have hnr : (coreOf s core.val).state ≠ .restart := by rcases hst with h | h | h <;> rw [h] <;> decide
  unfold coreRst
  rw [if_pos (show (coreOf { s with resp := .none } core.val).state = .run ∨ (coreOf { s with resp := .none } core.val).state = .ready
    ∨ (coreOf { s with resp := .none } core.val).state = .quiesce from hst)]
  unfold restartAsked
  refine ⟨fun hr hm => ?_, fun hr hready hm => ?_, fun hr => ?_⟩
  · rw [if_neg (show ¬(s.top.rst.isSome = true) by rw [hr]; decide), askRestart_of_idle (s := { s with resp := .none }) hp]
    exact restartedBy_coreRestart (s := { s with resp := .none }) hnr hm
  · rw [if_neg (show ¬(s.top.rst.isSome = true) by rw [hr]; decide), askRestart_of_idle (s := { s with resp := .none }) hp]
    exact coreRestart_failed (s := { s with resp := .none }) hnr hready (Nat.not_lt.1 hm)
  · rw [if_pos (show s.top.rst.isSome = true from hr)]
    exact ⟨rfl, fld_setF_same _ _ _ _ (by decide)⟩

theorem restartSelf_results (core : CoreIx) (s : State) (hr : coreRuns s core.val = true) (hp : s.fwc.ld.phase = .idle)
    (hm : (coreOf s core.val).streak < fld s Reg.FWC_LIVE_CFG F.FWC_LIVE_CFG_RESTART_MAX) :
    Runs (.restartSelf core) s (fun t => (s.top.rst = none → RestartedBy s t core.val .self)
      ∧ (s.top.rst.isSome = true → t.fwc = s.fwc ∧ fld t Reg.TOP_RST_STATUS F.TOP_RST_STATUS_RESULT = 7)) := by
  refine ⟨_, rfl, ?_⟩
  rw [if_pos hr]
  unfold restartAsked
  refine ⟨fun h => ?_, fun h => ?_⟩
  · rw [if_neg (show ¬(s.top.rst.isSome = true) by rw [h]; decide), askRestart_of_idle hp]
    exact restartedBy_coreRestart (not_restart_of_runs hr) hm
  · rw [if_pos h]
    exact ⟨rfl, fld_setF_same _ _ _ _ (by decide)⟩

theorem watchdogExpiry_results (core : CoreIx) (s : State) (hr : coreRuns s core.val = true) (hp : s.fwc.ld.phase = .idle)
    (hm : (coreOf s core.val).streak < fld s Reg.FWC_LIVE_CFG F.FWC_LIVE_CFG_RESTART_MAX) :
    Runs (.watchdogExpiry core) s (fun t => RestartedBy s t core.val .watchdog) := by
  refine ⟨_, rfl, ?_⟩
  rw [if_pos hr]
  exact restartedBy_reach hr hm hp

theorem readyTimeout_results (core : CoreIx) (s : State) (hr : coreRuns s core.val = true) (hp : s.fwc.ld.phase = .idle)
    (hm : (coreOf s core.val).streak < fld s Reg.FWC_LIVE_CFG F.FWC_LIVE_CFG_RESTART_MAX) (hs : (coreOf s core.val).state = .run) (hn : (coreOf s core.val).ready = false) :
    Runs (.readyTimeout core) s (fun t => RestartedBy s t core.val .readyTimeout) := by
  refine ⟨_, rfl, ?_⟩
  rw [if_pos ⟨hs, hr, by rw [hn]; rfl⟩]
  exact restartedBy_reach hr hm hp

theorem kick_results (core : CoreIx) (s : State) (hr : coreRuns s core.val = true) :
    Runs (.kick core) s (fun t => (coreOf t core.val).wdFrom = now s ∧ (coreOf t core.val).wdLen = fld s (Reg.FWC_WDOG core.val) F.FWC_WDOG_WD_T * 10000) := by
  refine ⟨_, rfl, ?_⟩
  rw [if_pos hr]
  beta_reduce
  rw [coreOf_setCore_same]
  exact ⟨rfl, rfl⟩

theorem ready_results (core : CoreIx) (s : State) (hr : coreRuns s core.val = true) (hp : s.fwc.ld.phase = .idle) :
    Runs (.readyWe core true) s (fun t => (coreOf t core.val).ready = true ∧ ((coreOf s core.val).state ≠ .quiesce → (coreOf t core.val).state = .ready)) := by
  refine ⟨_, rfl, ?_⟩
  unfold setReady
  rw [if_neg (by rw [hr]; decide), if_pos rfl]
  extract_lets s1 s2 l last
  have h1 : coreOf s1 core.val = _ := coreOf_setCore_same _ _
  have p1 : s1.fwc.ld = s.fwc.ld := rfl
  have e2 : Evolves { regs := true } s1 s2 := ownerSync_evolves
  have hl : ¬(l.phase = .handover ∧ l.handed.contains core.val = true ∧ (l.cur = core.val ∨ last = true)) := by
    rintro ⟨h, _⟩
    rw [show l = s2.fwc.ld from rfl, e2.fwc_eq rfl, p1, hp] at h
    cases h
  rw [if_neg hl]
  beta_reduce
  rw [coreOf_of_fwc (e2.fwc_eq rfl), h1]
  refine ⟨rfl, fun hq => ?_⟩
  exact if_neg hq

theorem unready_results (core : CoreIx) (s : State) (hr : coreRuns s core.val = true) (hq : (coreOf s core.val).state ≠ .quiesce) :
    Runs (.readyWe core false) s (fun t => (coreOf t core.val).ready = false ∧ (coreOf t core.val).state = .run) := by
  refine ⟨_, rfl, ?_⟩
  unfold setReady
  rw [if_neg (by rw [hr]; decide), if_neg (by decide)]
  dsimp only
  rw [if_neg hq, coreOf_setCore_same, coreOf_readyEnds]
  exact ⟨rfl, rfl⟩

theorem quiesceTimeout_results (core : CoreIx) (i : FwImg) (s : State) (hf : fwOn s = true) (hs : (coreOf s core.val).state = .quiesce) (hi : s.fwc.ld.img = some i)
    (hm : (coreOf s core.val).streak < fld s Reg.FWC_LIVE_CFG F.FWC_LIVE_CFG_RESTART_MAX) :
    Runs (.quiesceTimeout core) s (fun t => flag t Reg.FWC_LD_EVENT F.FWC_LD_EVENT_QUIESCE_TIMEOUT = true ∧ (coreOf t core.val).state = .restart
      ∧ (coreOf t core.val).cause = .liveUpdate ∧ (coreOf t core.val).img = some i ∧ (coreOf t core.val).prev = (coreOf s core.val).img) := by
  refine ⟨_, rfl, ?_⟩
  rw [if_pos ⟨hf, hs⟩]
  beta_reduce
  extract_lets s1
  have e1 : Evolves { tb := true } s s1 := reach_evolves
  clear_value s1
  have h2 : flag (raise s1 Reg.FWC_LD_EVENT F.FWC_LD_EVENT_QUIESCE_TIMEOUT) Reg.FWC_LD_EVENT F.FWC_LD_EVENT_QUIESCE_TIMEOUT = true := flag_raise _ _ _ (by decide)
  have e2 : Evolves { regs := true, tb := true } s (raise s1 Reg.FWC_LD_EVENT F.FWC_LD_EVENT_QUIESCE_TIMEOUT) := .trans e1.mono raise_evolves.mono
  have hmax : rd (raise s1 Reg.FWC_LD_EVENT F.FWC_LD_EVENT_QUIESCE_TIMEOUT) Reg.FWC_LIVE_CFG = rd s Reg.FWC_LIVE_CFG :=
    (rd_raise_ne _ _ (by decide)).trans (rd_of_regs (e1.regs_eq rfl) _)
  generalize raise s1 Reg.FWC_LD_EVENT F.FWC_LD_EVENT_QUIESCE_TIMEOUT = s2 at h2 e2 hmax ⊢
  have hc2 : coreOf s2 core.val = coreOf s core.val := coreOf_of_fwc (e2.fwc_eq rfl) _
  unfold handRestart
  rw [show s2.fwc.ld.img = some i by rw [e2.fwc_eq rfl]; exact hi]
  dsimp only
  generalize hs3 : setLd (takeImg s2 core.val i) (fun l => { l with handed := l.handed ++ [core.val] }) = s3
  have hc3 : coreOf s3 core.val = { coreOf s core.val with prev := (coreOf s core.val).img, img := some i } := by
    rw [← hs3, ← hc2]
    exact coreOf_setCore_same (s := s2) core.val fun c => { c with prev := c.img, img := some i }
  have hr3 : s3.regs = s2.regs := by rw [← hs3]; rfl
  obtain ⟨h4, h5, _, _, h6, h7, _, h8⟩ := coreRestart_results (s := s3) (n := core.val) (cause := .liveUpdate) (by rw [hc3]; show (coreOf s core.val).state ≠ .restart; rw [hs]; decide)
    (by rw [hc3, fld_restartMax_of_regs hr3, fld_congr hmax]; exact hm)
  refine ⟨h8 _ (by decide) ((flag_congr (rd_of_regs hr3 _) _).trans h2), h4, h5, ?_, ?_⟩
  · rw [h6, hc3]
  · rw [h7, hc3]

/-! ## SEC -/

theorem core_secDown : Shows (fun s => s.fwc.core) s (secDown s) := by
  unfold secDown
  extract_lets s1 s2 s3 s4
  have h1 : s1.fwc = s.fwc := fuseAbort_evolves.fwc_eq rfl
  have h2 : Shows (fun s => s.fwc.core) s1 s2 := by
    refine .both ?_ .refl
    unfold ldEnd
    extract_lets _ _ t1 t2
    have e : Evolves { regs := true, drain := true, recd := true } s1 t2 := .trans (.trans setF_evolves.mono wrN_evolves.mono) record_evolves
    exact (congrArg FwcSt.core (e.fwc_eq rfl) : t2.fwc.core = s1.fwc.core)
  have h3 : s3.fwc = s2.fwc := by
    have e : Evolves { regs := true, drain := true, recd := true, img := true } s2 s3 := .ite loadAbort_evolves .refl
    exact e.fwc_eq rfl
  clear_value s1 s2 s3
  exact (congrArg FwcSt.core h3 : s3.fwc.core = _).trans (h2.eq.trans (congrArg FwcSt.core h1))

theorem secWatchdog_results (s : State) (hu : s.fwc.secUp = true) (hf : fwOn s = true) (ho : s.top.state ≠ .off) (hp : s.top.porHeld = false) :
    Runs .secWatchdog s (fun t => flag t Reg.TOP_SUPPLY F.TOP_SUPPLY_SEC_OK = false ∧ flag t Reg.FWC_LD_EVENT F.FWC_LD_EVENT_SEC_WDOG = true
      ∧ t.fwc.secUp = false ∧ t.fwc.core = s.fwc.core) := by
  refine ⟨_, rfl, ?_⟩
  rw [if_pos (by rw [hu, hf, hp, bne_iff_ne.2 ho]; rfl)]
  beta_reduce
  extract_lets s1 _ _ s2
  have h1 : flag s1 Reg.TOP_SUPPLY F.TOP_SUPPLY_SEC_OK = false := flag_lower _ _ _ (by decide)
  have c1 : s1.fwc.core = s.fwc.core := core_secDown.eq
  clear_value s1
  have h2 : flag s2 Reg.TOP_SUPPLY F.TOP_SUPPLY_SEC_OK = false := h1
  have c2 : s2.fwc.core = s.fwc.core := c1
  have u2 : s2.fwc.secUp = false := rfl
  clear_value s2
  have e : Evolves { regs := true, drain := true, recd := true } s2 (record (raise s2 Reg.FWC_LD_EVENT F.FWC_LD_EVENT_SEC_WDOG) .mgmt 0x10 0x07 8 0 0 0) :=
    .trans raise_evolves.mono record_evolves
  refine ⟨?_, ?_, ?_, ?_⟩
  · rw [record_rdBut.flag_eq, raise_rdBut0.flag_eq]
    exact h2
  · rw [flag_ldEvent_record]
    exact flag_raise _ _ _ (by decide)
  · rw [e.fwc_eq rfl]
    exact u2
  · rw [e.fwc_eq rfl]
    exact c2

theorem secRebootDone_results (secOk idOk : Bool) (s : State) (hu : s.fwc.secUp = false) :
    Runs (.secRebootDone secOk idOk) s (fun t => t.fwc.secUp = true ∧ flag t Reg.TOP_SUPPLY F.TOP_SUPPLY_SEC_OK = secOk) := by
  refine ⟨_, rfl, ?_⟩
  rw [if_neg (by rw [hu]; decide)]
  beta_reduce
  unfold secBoot
  extract_lets s1 _ _ s2
  have h1 : flag s1 Reg.TOP_SUPPLY F.TOP_SUPPLY_SEC_OK = secOk := by
    have hv : fld s1 Reg.TOP_SUPPLY F.TOP_SUPPLY_SEC_OK = b2n secOk % 2 ^ F.TOP_SUPPLY_SEC_OK.len := fld_setF_same _ _ _ _ (by decide)
    unfold flag
    rw [show fldOf (rd s1 Reg.TOP_SUPPLY) F.TOP_SUPPLY_SEC_OK = _ from hv]
    cases secOk <;> rfl
  clear_value s1
  have h2 : flag s2 Reg.TOP_SUPPLY F.TOP_SUPPLY_SEC_OK = secOk := h1
  have u2 : s2.fwc.secUp = true := rfl
  clear_value s2
  have e : Evolves { regs := true, drain := true, recd := true } s2 (if idOk = true then s2 else record s2 .mgmt 0x14 0x07 0 0 0 0) := .ite .refl record_evolves
  have r : RdBut [(Reg.REC_EVENT, 0, 0), (Reg.REC_ARB_DROP 0, 0, 0), (Reg.REC_ARB_DROP 1, 0, 0), (Reg.REC_ARB_DROP 2, 0, 0), (Reg.TOP_DRAIN_CNT 8, 0, 0),
      (Reg.TOP_DRAIN_STATUS, 0, 0)] s2 (if idOk = true then s2 else record s2 .mgmt 0x14 0x07 0 0 0 0) := .ite .refl record_rdBut
  exact ⟨(congrArg FwcSt.secUp (e.fwc_eq rfl)).trans u2, (r.flag_eq _).trans h2⟩

/-- Settles O51: one rule per command of a core's life, over what a release and a restart leave of the cores. -/
theorem coreLifeResults : Obligations.CoreLifeResults := by
  unfold Obligations.CoreLifeResults
  exact ⟨release_results, coreRestartRelease_results, restart_results,
    fun core s hr hp hm => ⟨restartSelf_results core s hr hp hm, watchdogExpiry_results core s hr hp hm, readyTimeout_results core s hr hp hm⟩,
    fun core s hr => ⟨kick_results core s hr, ready_results core s hr, unready_results core s hr⟩, quiesceTimeout_results, secWatchdog_results, secRebootDone_results⟩

end

end Sys2Proof.Machine
end

section
/-! PROOF. Errors of the active copies, and the scrubber of the configuration banks (O19). -/

namespace Sys2Proof.Machine
open Host
set_option Elab.async false

section
variable {s t u : State}

theorem haltEntry_rdBut {s trip} : RdBut [(Reg.SEC_IMG_STATUS, 0, 0), (Reg.SEC_IMG_FAIL_INFO, 0, 0), (Reg.REC_EVENT, 0, 0), (Reg.REC_ARB_DROP 0, 0,
    0), (Reg.REC_ARB_DROP 1, 0, 0), (Reg.REC_ARB_DROP 2, 0, 0), (Reg.TOP_DRAIN_CNT 8, 0, 0), (Reg.TOP_DRAIN_STATUS, 0, 0), (Reg.TOP_COMMIT_STATUS,
    0, 0), (Reg.TVL_GEVENT, 0, 0), (Reg.TOP_DRAIN_CNT 1, 0, 0)] s (haltEntry s trip) := by
  unfold haltEntry
  exact .ite .refl
    (.trans loadAbort_rdBut.mono
       (.trans (.ite .refl originTrip_rdBut.mono) (.trans (.of_evolves (W := { top := true }) .set_top) enterState_rdBut.mono)))

theorem haltSwitched_rdBut {s trip} : RdBut [(Reg.SEC_IMG_STATUS, 0, 0), (Reg.SEC_IMG_FAIL_INFO, 0, 0), (Reg.REC_EVENT, 0, 0), (Reg.REC_ARB_DROP 0,
    0, 0), (Reg.REC_ARB_DROP 1, 0, 0), (Reg.REC_ARB_DROP 2, 0, 0), (Reg.TOP_DRAIN_CNT 8, 0, 0), (Reg.TOP_DRAIN_STATUS, 0, 0),
    (Reg.TOP_COMMIT_STATUS, 0, 0), (Reg.TVL_GEVENT, 0, 0), (Reg.TOP_DRAIN_CNT 1, 0, 0), (Reg.CH_DRIP_TIME_LO 0, 0x1000, 0), (Reg.CH_DRIP_TIME_LO 0
    + 4, 0x1000, 0), (Reg.CH_CAL_CNT 0, 0x1000, 0), (Reg.FQ_CNT2, 0, 0), (Reg.FQ_EVENT, 0, 0), (Reg.TOP_DRAIN_CNT 4, 0, 0), (Reg.FQ_CNT, 0, 0)] s
    (haltSwitched s trip) := by
  unfold haltSwitched
  exact .trans haltEntry_rdBut.mono dischargeAll_rdBut.mono

theorem haltActive_rdBut {s} : RdBut [(Reg.SEC_IMG_STATUS, 0, 0), (Reg.SEC_IMG_FAIL_INFO, 0, 0), (Reg.REC_EVENT, 0, 0), (Reg.REC_ARB_DROP 0, 0, 0),
    (Reg.REC_ARB_DROP 1, 0, 0), (Reg.REC_ARB_DROP 2, 0, 0), (Reg.TOP_DRAIN_CNT 8, 0, 0), (Reg.TOP_DRAIN_STATUS, 0, 0), (Reg.TOP_COMMIT_STATUS, 0,
    0), (Reg.TVL_GEVENT, 0, 0), (Reg.TOP_DRAIN_CNT 1, 0, 0), (Reg.CH_DRIP_TIME_LO 0, 0x1000, 0), (Reg.CH_DRIP_TIME_LO 0 + 4, 0x1000, 0),
    (Reg.CH_CAL_CNT 0, 0x1000, 0), (Reg.FQ_CNT2, 0, 0), (Reg.FQ_EVENT, 0, 0), (Reg.TOP_DRAIN_CNT 4, 0, 0), (Reg.FQ_CNT, 0, 0)] s (haltActive s) :=
    by
  unfold haltActive
  exact .trans (.of_evolves (W := { top := true }) .set_top) haltSwitched_rdBut.mono

theorem faultFrame_rdBut {s id active} : RdBut [(Reg.TOP_CFG_FAULT_FRAME, 0, 0)] s (faultFrame s id active) := by
  unfold faultFrame
  exact (wrN_rdBut0 (off := Reg.TOP_CFG_FAULT_FRAME)).mono

/-! ## HALT for a configuration that cannot be trusted -/

/-- What a HALT for a bad configuration leaves, where no load is active. -/
theorem haltEntry_img {trip : Nat} (h : loadActive s = false) : (haltEntry s trip).img = s.img := by
  unfold haltEntry
  extract_lets s1 s2
  split
  · rfl
  · have h1 : s1 = s := if_neg (by rw [h]; decide)
    have e2 : Evolves { regs := true, drain := true, recd := true, tvl := true } s1 s2 := .ite .refl originTrip_evolves
    rw [enterState_evolves.img_eq rfl, ← h1]
    exact e2.img_eq rfl

theorem haltActive_img (h : loadActive s = false) : (haltActive s).img = s.img := by
  unfold haltActive haltSwitched
  rw [dischargeAll_evolves.img_eq rfl]
  exact haltEntry_img (s := { s with top := { s.top with hActiveUe := true } }) h

/-- What a load's end leaves of the images. -/
def applies (s : State) : Bool × Bool := (s.img.applied, s.img.scrubOn)

theorem applies_of_img (h : t.img = s.img) : Shows applies s t := by
  unfold Shows applies
  rw [h]

theorem applies_shadowRefill : Shows applies s (shadowRefill s) := by
  unfold shadowRefill
  exact .both rfl rfl

theorem applies_loadAbort {result : Nat} : Shows applies s (loadAbort s result) := by
  unfold loadAbort loadEnd
  refine .both ?_ .refl
  extract_lets ph dig s1 s2 s3 pend _ s4
  have e3 : Evolves { regs := true, drain := true, recd := true } s s3 := .trans (.trans setF_evolves.mono wrN_evolves.mono) record_evolves
  have h4 : Shows applies s3 s4 := (Shows.of_eq (t := { s3 with img := { s3.img with phase := .idle, bytes := [], heldFor := none, pendTick := 0, pendGroups := 0 } }) rfl).trans
    applies_shadowRefill
  exact (applies_of_img (e3.img_eq rfl)).trans (h4.trans (.both (applies_of_img (pendRefresh_evolves.img_eq rfl)) .refl))

theorem applies_haltEntry {trip : Nat} : Shows applies s (haltEntry s trip) := by
  unfold haltEntry
  extract_lets s1 s2
  have h1 : Shows applies s s1 := applies_loadAbort
  have h2 : Shows applies s1 s2 := .both .refl (applies_of_img (originTrip_evolves.img_eq rfl))
  refine .both .refl (h1.trans (h2.trans ?_))
  exact (Shows.of_eq (t := { s2 with top := { s2.top with startNext := none, stopping := false } }) rfl).trans (applies_of_img (enterState_evolves.img_eq rfl))

theorem haltEntry_latch {trip : Nat} : (haltEntry s trip).top.hActiveUe = s.top.hActiveUe := by
  unfold haltEntry
  extract_lets s1 s2
  split
  · rfl
  · have e1 : Evolves { regs := true, drain := true, recd := true, img := true } s s1 := loadAbort_evolves
    have e2 : Evolves { regs := true, drain := true, recd := true, tvl := true } s1 s2 := .ite .refl originTrip_evolves
    rw [enterState_top]
    show s2.top.hActiveUe = s.top.hActiveUe
    rw [e2.top_eq rfl, e1.top_eq rfl]

theorem haltEntry_halts {trip : Nat} (hr : s.top.rst = none) (hs : s.top.state = .loaded ∨ s.top.state = .ramp ∨ s.top.state = .run) :
    (haltEntry s trip).top.state = .halt := by
  unfold haltEntry
  have hn : ¬(s.top.state = .halt ∨ s.top.state = .brownout ∨ s.top.state = .off ∨ wholeReset s = true) := by
    unfold wholeReset
    rw [hr]
    rcases hs with h | h | h <;> rw [h] <;> decide
  rw [if_neg hn, enterState_top]

theorem applies_haltActive : Shows applies s (haltActive s) :=
  (Shows.of_eq (t := { s with top := { s.top with hActiveUe := true } }) rfl).trans (applies_haltEntry.trans (applies_of_img (dischargeAll_evolves.img_eq rfl)))

/-- The latch of HALT for the active copies. -/
theorem haltActive_latch : (haltActive s).top.hActiveUe = true := by
  have h1 : (haltEntry { s with top := { s.top with hActiveUe := true } } 3).top.hActiveUe = true := haltEntry_latch
  exact (congrArg TopSt.hActiveUe (topButDis_dischargeAll (a := true) (b := false)).eq :).trans h1

/-- R87: with no reset in progress the device enters HALT. -/
theorem haltActive_state (hr : s.top.rst = none) (hs : s.top.state = .loaded ∨ s.top.state = .ramp ∨ s.top.state = .run) : (haltActive s).top.state = .halt :=
  (state_of_topButDis topButDis_dischargeAll).trans (haltEntry_halts (s := { s with top := { s.top with hActiveUe := true } }) hr hs)

/-! ## Errors of the active copies -/

theorem activeCopySbe_results (off : Nat) (s : State) (h : (groupAt (framesOf s) off).isSome = true) :
    Runs (.activeCopySbe off) s (fun t => t.integ.sbe = s.integ.sbe + 1 ∧ t.active = s.active ∧ t.regs = s.regs) := by
  refine ⟨_, rfl, ?_⟩
  rw [if_pos h]
  exact ⟨rfl, rfl, rfl⟩

/-- The copy in which a double-bit error stands, as the integrity block keeps it. -/
def withActiveUe (s : State) (off g : Nat) : State :=
  boundaryFail { s with integ := { s.integ with activeUe := (off :: s.integ.activeUe).eraseDups } } 7 g off

theorem activeDbe_of {off g : Nat} (h : groupAt (framesOf s) off = some g) (h8 : 8 ≤ g) : activeDbe s off
    = if g < 40 then { withActiveUe s off g with top := { (withActiveUe s off g).top with ueParts := ((withActiveUe s off g).top.ueParts ++ [g - 8]).eraseDups } }
      else haltActive (withActiveUe s off g) := by
  unfold activeDbe
  rw [h]
  dsimp only
  rw [if_neg (by omega)]
  rfl

theorem withActiveUe_results {off g : Nat} : off ∈ (withActiveUe s off g).integ.activeUe ∧ (withActiveUe s off g).top = s.top ∧ (withActiveUe s off g).active = s.active := by
  unfold withActiveUe
  rw [boundaryFail_evolves.integ_eq rfl, boundaryFail_evolves.top_eq rfl, boundaryFail_evolves.active_eq rfl]
  exact ⟨List.mem_eraseDups.2 List.mem_cons_self, rfl, rfl⟩

theorem activeCopyDbe_partition (off g : Nat) (s : State) (h : groupAt (framesOf s) off = some g) (h8 : 8 ≤ g) (h40 : g < 40) :
    Runs (.activeCopyDbe off) s (fun t => g - 8 ∈ t.top.ueParts ∧ off ∈ t.integ.activeUe ∧ t.top.state = s.top.state ∧ t.active = s.active) := by
  refine ⟨_, rfl, ?_⟩
  rw [activeDbe_of h h8, if_pos h40]
  obtain ⟨h1, h2, h3⟩ := withActiveUe_results (s := s) (off := off) (g := g)
  exact ⟨List.mem_eraseDups.2 (List.mem_append_right _ List.mem_cons_self), h1, (congrArg TopSt.state h2 :), h3⟩

theorem activeCopyDbe_global (off g : Nat) (s : State) (h : groupAt (framesOf s) off = some g) (h40 : 40 ≤ g) (hr : s.top.rst = none)
    (hs : s.top.state = .loaded ∨ s.top.state = .ramp ∨ s.top.state = .run) :
    Runs (.activeCopyDbe off) s (fun t => t.top.state = .halt ∧ t.top.hActiveUe = true ∧ off ∈ t.integ.activeUe) := by
  refine ⟨_, rfl, ?_⟩
  rw [activeDbe_of h (by omega), if_neg (by omega)]
  obtain ⟨h1, h2, _⟩ := withActiveUe_results (s := s) (off := off) (g := g)
  exact ⟨haltActive_state (by rw [h2]; exact hr) (by rw [h2]; exact hs), haltActive_latch, by rw [haltActive_evolves.integ_eq rfl]; exact h1⟩

/-! ## The scrubber -/

/-- The two banks of the configuration. -/
def banks (s : State) : Tab BankSlot × Tab BankSlot := (s.img.bank0, s.img.bank1)

/-- R90: an image that cannot be trusted. -/
def Discarded (s t : State) : Prop := t.img.applied = false ∧ t.img.scrubOn = false ∧ t.top.hActiveUe = true
  ∧ flag t Reg.TOP_CFG_EVENT F.TOP_CFG_EVENT_UNCORRECTABLE = true
  ∧ (s.top.rst = none → s.top.state = .loaded ∨ s.top.state = .ramp ∨ s.top.state = .run → t.top.state = .halt)

/-- The images with the applied one discarded. -/
def discardImg (x : ImgSt) : ImgSt := { x with applied := false, scrubOn := false }

/-- The image with its record, before HALT. -/
def discarded (s : State) (id : Nat) : State :=
  let s := faultFrame (raise s Reg.TOP_CFG_EVENT F.TOP_CFG_EVENT_UNCORRECTABLE) id true
  let s := record s .mgmt 0x04 0x05 id 0 0 0
  { s with img := discardImg s.img }

theorem uncorrectable_eq {id : Nat} : uncorrectable s id = haltActive (discarded s id) := rfl

theorem discarded_results {id : Nat} : flag (discarded s id) Reg.TOP_CFG_EVENT F.TOP_CFG_EVENT_UNCORRECTABLE = true ∧ (discarded s id).top = s.top
    ∧ (discarded s id).img = discardImg s.img := by
  unfold discarded
  extract_lets s1 s2
  have h1 : flag s1 Reg.TOP_CFG_EVENT F.TOP_CFG_EVENT_UNCORRECTABLE = true := (faultFrame_rdBut.flag_eq _).trans (flag_raise _ _ _ (by decide))
  have h2 : flag s2 Reg.TOP_CFG_EVENT F.TOP_CFG_EVENT_UNCORRECTABLE = true := (record_rdBut.flag_eq _).trans h1
  have e2 : Evolves { regs := true, drain := true, recd := true } s s2 := .trans (.trans raise_evolves.mono faultFrame_evolves.mono) record_evolves
  have t2 : s2.top = s.top := e2.top_eq rfl
  have i2 : s2.img = s.img := e2.img_eq rfl
  clear_value s2
  exact ⟨h2, t2, congrArg discardImg i2⟩

theorem uncorrectable_results {id : Nat} : Discarded s (uncorrectable s id) := by
  rw [uncorrectable_eq]
  obtain ⟨h1, h2, h3⟩ := discarded_results (s := s) (id := id)
  have ha : applies (haltActive (discarded s id)) = (false, false) := by
    rw [applies_haltActive.eq, applies, h3]
    rfl
  have hf : flag (haltActive (discarded s id)) Reg.TOP_CFG_EVENT F.TOP_CFG_EVENT_UNCORRECTABLE = true := (haltActive_rdBut.flag_eq _).trans h1
  generalize discarded s id = u at ha hf h2 ⊢
  refine ⟨congrArg Prod.fst ha, congrArg Prod.snd ha, haltActive_latch, hf, fun hr hs => haltActive_state (by rw [h2]; exact hr) (by rw [h2]; exact hs)⟩

theorem banks_uncorrectable {id : Nat} (h : s.img.phase = .idle) : banks (uncorrectable s id) = banks s := by
  rw [uncorrectable_eq]
  obtain ⟨_, _, h3⟩ := discarded_results (s := s) (id := id)
  have hl : loadActive (discarded s id) = false := by
    unfold loadActive
    rw [h3, show (discardImg s.img).phase = s.img.phase from rfl, h]
    rfl
  unfold banks
  rw [haltActive_img hl, h3]
  rfl

/-- The banks, with whether an image is applied. -/
def applied (s : State) : Tab BankSlot × Tab BankSlot × Bool := (s.img.bank0, s.img.bank1, s.img.applied)

theorem applied_of_img (h : t.img = s.img) : Shows applied s t := by
  unfold Shows applied
  rw [h]

theorem applied_slotClean {id : Nat} : Shows applied s (slotClean s id) := by
  unfold slotClean
  extract_lets _ s1 _ s2 d
  have h1 : Shows applied s s1 := rfl
  have h2 : Shows applied s1 s2 := .both rfl .refl
  exact h1.trans (h2.trans (.both (applied_of_img (setDie_evolves.img_eq rfl)) .refl))

theorem slotOf_shadow (id : Nat) : actBank (slotFix s id false) = actBank s ∧ (slotFix s id false).regs = s.regs ∧ (slotFix s id false).top = s.top := by
  unfold slotFix actBank
  cases h : s.img.active1 <;> simp [h]

/-- The record of a fault in dead bits alone. -/
def benignFault (s : State) (id : Nat) (active : Bool) : State :=
  let s := bump (raise s Reg.TOP_CFG_EVENT F.TOP_CFG_EVENT_BENIGN) Reg.TOP_CFG_BENIGN_CNT F.TOP_CFG_BENIGN_CNT_COUNT
  record s .mgmt 0x04 0x02 id (bankNo s active) 0 0

theorem benignFault_results {id : Nat} {active : Bool} : fld (benignFault s id active) Reg.TOP_CFG_BENIGN_CNT F.TOP_CFG_BENIGN_CNT_COUNT
      = min (fld s Reg.TOP_CFG_BENIGN_CNT F.TOP_CFG_BENIGN_CNT_COUNT + 1) (2 ^ F.TOP_CFG_BENIGN_CNT_COUNT.len - 1)
    ∧ flag (benignFault s id active) Reg.TOP_CFG_EVENT F.TOP_CFG_EVENT_BENIGN = true ∧ (benignFault s id active).top = s.top ∧ (benignFault s id active).img = s.img := by
  unfold benignFault
  extract_lets s1
  have h1 : fld s1 Reg.TOP_CFG_BENIGN_CNT F.TOP_CFG_BENIGN_CNT_COUNT
      = min (fld s Reg.TOP_CFG_BENIGN_CNT F.TOP_CFG_BENIGN_CNT_COUNT + 1) (2 ^ F.TOP_CFG_BENIGN_CNT_COUNT.len - 1) :=
    (fld_bump_same _ _ _ (by decide)).trans (by rw [fld_congr (rd_raise_ne _ _ (by decide))])
  have h2 : flag s1 Reg.TOP_CFG_EVENT F.TOP_CFG_EVENT_BENIGN = true := (flag_congr (rd_bump_ne _ _ (by decide)) _).trans (flag_raise _ _ _ (by decide))
  have e1 : Evolves { regs := true } s s1 := .trans raise_evolves bump_evolves
  clear_value s1
  refine ⟨(record_rdBut.fld_eq _).trans h1, (record_rdBut.flag_eq _).trans h2, ?_, ?_⟩
  · rw [record_evolves.top_eq rfl, e1.top_eq rfl]
  · rw [record_evolves.img_eq rfl, e1.img_eq rfl]

theorem not_dbe_of_match {e : DigestEntry} {b : List Byte} (h : (copyMatch e b).isSome = true) : e.dbe = false := by
  cases hd : e.dbe
  · rfl
  · unfold copyMatch at h
    rw [hd] at h
    simp at h

/-! ## The number of the next slot -/

/-- The slot that the scrubber visits next. -/
def slotNo (s : State) : Nat := s.img.slot

theorem slotNo_of {W : Blocks} (h : Evolves W s t) (hW : W.img = false := by rfl) : Shows slotNo s t := congrArg ImgSt.slot (h.img_eq hW)

theorem shadowRefill_slotNo {s} : Shows slotNo s (shadowRefill s) := by
  unfold shadowRefill
  exact .both (.of_eq (by rfl)) (.of_eq (by rfl))

theorem loadEnd_slotNo {s result item byte} : Shows slotNo s (loadEnd s result item byte) := by
  unfold loadEnd
  exact .trans ((slotNo_of setF_evolves))
    (.trans ((slotNo_of wrN_evolves))
       (.trans ((slotNo_of record_evolves)) (.trans (.trans (.of_eq (by rfl)) shadowRefill_slotNo) (.both ((slotNo_of pendRefresh_evolves)) .refl))))

theorem loadAbort_slotNo {s result} : Shows slotNo s (loadAbort s result) := by
  unfold loadAbort
  exact .both loadEnd_slotNo .refl

theorem haltEntry_slotNo {s trip} : Shows slotNo s (haltEntry s trip) := by
  unfold haltEntry
  exact .both .refl
    (.trans loadAbort_slotNo
       (.trans (.both .refl ((slotNo_of originTrip_evolves))) (.trans (slotNo_of (W := { top := true }) .set_top) ((slotNo_of enterState_evolves)))))

theorem haltSwitched_slotNo {s trip} : Shows slotNo s (haltSwitched s trip) := by
  unfold haltSwitched
  exact .trans haltEntry_slotNo ((slotNo_of dischargeAll_evolves))

theorem haltActive_slotNo {s} : Shows slotNo s (haltActive s) := by
  unfold haltActive
  exact .trans (slotNo_of (W := { top := true }) .set_top) haltSwitched_slotNo

theorem latchRail_slotNo {s kind r what} : Shows slotNo s (latchRail s kind r what) := by
  unfold latchRail
  exact .trans ((slotNo_of latchSet_evolves))
    (.trans
       (.both
          (.trans (.both ((slotNo_of leaveReg_evolves)) .refl)
             (.trans ((slotNo_of crowbarOn_evolves))
                (.trans ((slotNo_of raise_evolves)) (.trans ((slotNo_of setCh_evolves)) ((slotNo_of disDrop_evolves))))))
          (.both .refl (.both ((slotNo_of discharge_evolves)) ((slotNo_of setCh_evolves)))))
       (.both (.trans (.both .refl ((slotNo_of originTrip_evolves))) (.trans (slotNo_of (W := { top := true }) .set_top) haltSwitched_slotNo))
          ((slotNo_of startAdvance_evolves))))

theorem liveFault_slotNo {s id} : Shows slotNo s (liveFault s id) := by
  unfold liveFault
  extract_lets
  split
  · exact .forEach fun _ _ => latchRail_slotNo
  · exact slotNo_of (W := { top := true }) .set_top
  · exact .both .refl (.trans (.trans (slotNo_of (W := { fq := true }) .set_fq) ((slotNo_of fixedEnter_evolves))) (.of_eq (by rfl)))
  · exact .of_eq (by rfl)
  · exact .both (.forEach fun _ _ => (slotNo_of laneWait_evolves)) .refl
  · exact .forEach fun _ _ => (slotNo_of regionRestart_evolves)
  · exact haltActive_slotNo
  · exact haltActive_slotNo
  · exact .both
      (.trans (.both .refl (.trans (.both ((slotNo_of plSend_evolves)) .refl) ((slotNo_of dieFallback_evolves))))
         (.trans ((slotNo_of setDie_evolves)) (.of_eq (by rfl)))) .refl

theorem uncorrectable_slotNo {s id} : Shows slotNo s (uncorrectable s id) := by
  unfold uncorrectable
  exact .trans (.trans ((slotNo_of raise_evolves)) ((slotNo_of faultFrame_evolves)))
    (.trans ((slotNo_of record_evolves)) (.trans (.of_eq (by rfl)) haltActive_slotNo))

theorem slotClean_slotNo {s id} : Shows slotNo s (slotClean s id) := by
  unfold slotClean
  exact .trans (.of_eq (by rfl)) (.trans (.both (slotNo_of (W := { fq := true }) .set_fq) .refl) (.both ((slotNo_of setDie_evolves)) .refl))

theorem slotFix_slotNo {s id active} : Shows slotNo s (slotFix s id active) := by
  unfold slotFix
  exact .both (.of_eq (by rfl)) (.of_eq (by rfl))

theorem scrubSlot_slotNo {s id up us} : Shows slotNo s (scrubSlot s id up us) := by
  unfold scrubSlot
  exact .both uncorrectable_slotNo
    (.both (.both slotClean_slotNo .refl)
       (by
          extract_lets
          split
          exacts [.both (.trans slotFix_slotNo ((slotNo_of bump_evolves)))
              (.both
                 (.trans (.trans (.trans slotFix_slotNo ((slotNo_of raise_evolves))) ((slotNo_of bump_evolves)))
                    (.trans (.trans ((slotNo_of faultFrame_evolves)) ((slotNo_of record_evolves))) liveFault_slotNo)) uncorrectable_slotNo),
            .trans (.both slotFix_slotNo .refl)
              (.both (.trans (.trans ((slotNo_of raise_evolves)) ((slotNo_of bump_evolves))) ((slotNo_of record_evolves)))
                 (.trans (.trans ((slotNo_of raise_evolves)) ((slotNo_of bump_evolves)))
                    (.trans ((slotNo_of faultFrame_evolves)) ((slotNo_of record_evolves))))),
            .trans (.both slotFix_slotNo .refl)
              (.both (.trans (.trans ((slotNo_of raise_evolves)) ((slotNo_of bump_evolves))) ((slotNo_of record_evolves)))
                 (.trans (.trans ((slotNo_of raise_evolves)) ((slotNo_of bump_evolves)))
                    (.trans (.trans ((slotNo_of faultFrame_evolves)) ((slotNo_of record_evolves))) liveFault_slotNo))),
            uncorrectable_slotNo]))

/-- The copy of a slot in the bank in use, with upsets. -/
def usedCopy (s : State) (id : Nat) (up : List (Fin 272 × Byte)) : List Byte := upsetBytes (slotBytes id (slotOf (actBank s) id)) up

/-- The copy of a slot in the other bank, with upsets. -/
def otherCopy (s : State) (id : Nat) (us : List (Fin 272 × Byte)) : List Byte :=
  upsetBytes (slotBytes id (slotOf (if s.img.active1 then s.img.bank0 else s.img.bank1) id)) us

section
variable {id : Nat} {up us : List (Fin 272 × Byte)}

theorem scrubSlot_agrees (hd : (tabGet {} s.img.digest id : DigestEntry).dbe = false) (h : usedCopy s id up = otherCopy s id us) :
    Shows applied s (scrubSlot s id up us) ∧ (scrubSlot s id up us).regs = s.regs := by
  unfold scrubSlot
  extract_lets e a0 b0 a b
  rw [if_neg (show ¬(e.dbe = true) by rw [show e.dbe = false from hd]; decide), if_pos (show a = b from h)]
  split
  · exact ⟨applied_slotClean, slotClean_evolves.regs_eq rfl⟩
  · exact ⟨rfl, rfl⟩

theorem scrubSlot_benign (hne : usedCopy s id up ≠ otherCopy s id us) (ha : (copyMatch (tabGet {} s.img.digest id) (usedCopy s id up)).isSome = true)
    (hb : copyMatch (tabGet {} s.img.digest id) (otherCopy s id us) = none)
    (hd : deadOnly (tabGet {} s.img.digest id) (usedCopy s id up) (otherCopy s id us) = true) :
    fld (scrubSlot s id up us) Reg.TOP_CFG_BENIGN_CNT F.TOP_CFG_BENIGN_CNT_COUNT
      = min (fld s Reg.TOP_CFG_BENIGN_CNT F.TOP_CFG_BENIGN_CNT_COUNT + 1) (2 ^ F.TOP_CFG_BENIGN_CNT_COUNT.len - 1)
    ∧ flag (scrubSlot s id up us) Reg.TOP_CFG_EVENT F.TOP_CFG_EVENT_BENIGN = true ∧ (scrubSlot s id up us).top.state = s.top.state
    ∧ actBank (scrubSlot s id up us) = actBank s := by
  unfold scrubSlot
  extract_lets e a0 b0 a b benign active s1
  have he : e.dbe = false := not_dbe_of_match ha
  obtain ⟨ga, hga⟩ := Option.isSome_iff_exists.1 ha
  rw [if_neg (show ¬(e.dbe = true) by rw [he]; decide), if_neg (show ¬(a = b) from hne), show copyMatch e a = some ga from hga, show copyMatch e b = none from hb]
  dsimp only
  rw [if_pos (show deadOnly e a b = true from hd)]
  have h1 : actBank s1 = actBank s ∧ s1.regs = s.regs ∧ s1.top = s.top := by
    show actBank (if b = b0 then slotFix s id false else s) = _ ∧ (if b = b0 then slotFix s id false else s).regs = _ ∧ (if b = b0 then slotFix s id false else s).top = _
    split
    · exact slotOf_shadow id
    · exact ⟨rfl, rfl, rfl⟩
  clear_value s1
  obtain ⟨hbank, hregs, htop⟩ := h1
  obtain ⟨h1, h2, h3, h4⟩ := benignFault_results (s := s1) (id := id) (active := false)
  show fld (benignFault s1 id false) _ _ = _ ∧ flag (benignFault s1 id false) _ _ = true ∧ (benignFault s1 id false).top.state = _ ∧ actBank (benignFault s1 id false) = _
  refine ⟨?_, h2, ?_, ?_⟩
  · rw [h1, fld_congr (rd_of_regs hregs _)]
  · rw [h3, htop]
  · rw [← hbank]
    unfold actBank
    rw [h4]

theorem scrubSlot_discards (hne : usedCopy s id up ≠ otherCopy s id us) (ha : copyMatch (tabGet {} s.img.digest id) (usedCopy s id up) = none)
    (hb : copyMatch (tabGet {} s.img.digest id) (otherCopy s id us) = none) : scrubSlot s id up us = uncorrectable s id := by
  unfold scrubSlot
  extract_lets e a0 b0 a b benign active s1 s2
  rw [if_neg (show ¬(a = b) from hne), show copyMatch e a = none from ha, show copyMatch e b = none from hb]
  split
  · rfl
  · rfl

end

theorem scrubSlot_results (up us : List (Fin 272 × Byte)) (s : State) (hs : scrubs s = true) (hp : s.img.phase = .idle) :
    let id := s.img.slot
    let e := tabGet {} s.img.digest id
    let a := upsetBytes (slotBytes id (slotOf (actBank s) id)) up
    let b := upsetBytes (slotBytes id (slotOf (if s.img.active1 then s.img.bank0 else s.img.bank1) id)) us
    Runs (.scrubSlot up us) s (fun t =>
      t.img.slot = (id + 1) % 248
      ∧ (e.dbe = false → a = b → t.img.bank0 = s.img.bank0 ∧ t.img.bank1 = s.img.bank1 ∧ t.img.applied = true ∧ t.regs = s.regs)
      ∧ (a ≠ b → (copyMatch e a).isSome = true → (copyMatch e b) = none → deadOnly e a b = true →
          fld t Reg.TOP_CFG_BENIGN_CNT F.TOP_CFG_BENIGN_CNT_COUNT
            = min (fld s Reg.TOP_CFG_BENIGN_CNT F.TOP_CFG_BENIGN_CNT_COUNT + 1) (2 ^ F.TOP_CFG_BENIGN_CNT_COUNT.len - 1)
          ∧ flag t Reg.TOP_CFG_EVENT F.TOP_CFG_EVENT_BENIGN = true ∧ t.top.state = s.top.state ∧ actBank t = actBank s)
      ∧ (a ≠ b → copyMatch e a = none → copyMatch e b = none →
          t.img.applied = false ∧ t.img.scrubOn = false ∧ t.top.hActiveUe = true ∧ t.img.bank0 = s.img.bank0 ∧ t.img.bank1 = s.img.bank1)) := by
  intro id e a b
  show ∃ t, execScrubSlot up us s = .next t ∧ _
  unfold execScrubSlot
  rw [if_pos hs]
  extract_lets _ s1
  rw [if_neg (show ¬((s1.img.phase = .refill ∨ s1.img.phase = .pending) ∧ _) from fun h => by
    have h1 := h.1
    rw [show s1.img.phase = .idle from hp] at h1
    rcases h1 with h1 | h1 <;> cases h1)]
  have happ : s.img.applied = true := by
    unfold scrubs at hs
    have := (Bool.and_eq_true_iff.1 (Bool.and_eq_true_iff.1 hs).1).2
    exact this
  have hslot : slotNo s1 = (id + 1) % 248 := rfl
  have hu : usedCopy s1 id up = a := rfl
  have ho : otherCopy s1 id us = b := rfl
  have he : (tabGet {} s1.img.digest id : DigestEntry) = e := rfl
  have hk1 : applied s1 = (s.img.bank0, s.img.bank1, true) := by
    rw [← happ]
    rfl
  have hr1 : s1.regs = s.regs := rfl
  have ht1 : s1.top = s.top := rfl
  have hb1 : actBank s1 = actBank s := rfl
  have hp1 : s1.img.phase = .idle := hp
  clear_value s1 a b e
  subst hu ho he
  have hnext : slotNo (scrubSlot s1 id up us) = (id + 1) % 248 := (scrubSlot_slotNo (s := s1) (id := id) (up := up) (us := us)).eq.trans hslot
  refine ⟨scrubSlot s1 id up us, rfl, ?_, fun hd hab => ?_, fun hne ha hb hd => ?_, fun hne ha hb => ?_⟩
  · exact hnext
  · obtain ⟨h1, h2⟩ := scrubSlot_agrees hd hab
    have h3 := h1.eq.trans hk1
    exact ⟨congrArg (fun x => x.1) h3, congrArg (fun x => x.2.1) h3, congrArg (fun x => x.2.2) h3, h2.trans hr1⟩
  · obtain ⟨h1, h2, h3, h4⟩ := scrubSlot_benign hne ha hb hd
    exact ⟨h1.trans (by rw [fld_congr (rd_of_regs hr1 _)]), h2, h3.trans (congrArg TopSt.state ht1), h4.trans hb1⟩
  · rw [scrubSlot_discards hne ha hb]
    obtain ⟨h1, h2, h3, _⟩ := uncorrectable_results (s := s1) (id := id)
    have hk : banks (uncorrectable s1 id) = (s.img.bank0, s.img.bank1) :=
      (banks_uncorrectable hp1).trans (Prod.ext (congrArg (fun x => x.1) hk1) (congrArg (fun x => x.2.1) hk1))
    generalize uncorrectable s1 id = u at h1 h2 h3 hk ⊢
    exact ⟨h1, h2, h3, congrArg Prod.fst hk, congrArg Prod.snd hk⟩

theorem frameDigestDbe_results (slot : Fin 248) (s : State) (h : s.img.applied = true) :
    Runs (.frameDigestDbe slot) s (fun t => t.img.applied = false ∧ t.img.scrubOn = false ∧ t.top.hActiveUe = true
      ∧ flag t Reg.TOP_CFG_EVENT F.TOP_CFG_EVENT_UNCORRECTABLE = true
      ∧ (s.top.rst = none → s.top.state = .loaded ∨ s.top.state = .ramp ∨ s.top.state = .run → t.top.state = .halt)) := by
  show ∃ t, execFrameDigestDbe slot s = .next t ∧ _
  unfold execFrameDigestDbe
  extract_lets e _ s1
  rw [if_pos (show s1.img.applied = true from h)]
  exact ⟨_, rfl, uncorrectable_results (s := s1)⟩

/-- Settles O19: an error of an active copy by its group, and the scrubber by what the digest table says of the two copies. -/
theorem copyErrorAndScrubberResults : Obligations.CopyErrorAndScrubberResults := by
  unfold Obligations.CopyErrorAndScrubberResults
  exact ⟨⟨activeCopySbe_results, activeCopyDbe_partition, activeCopyDbe_global⟩, scrubSlot_results, frameDigestDbe_results⟩

end

end Sys2Proof.Machine
end

section
/-! PROOF. Fuse operations and debug unlock (O59). -/

namespace Sys2Proof.Machine
open Host
set_option Elab.async false

theorem retire_rdBut {s n} : RdBut [(Reg.REC_EVENT, 0, 0), (Reg.REC_ARB_DROP 0, 0, 0), (Reg.REC_ARB_DROP 1, 0, 0), (Reg.REC_ARB_DROP 2, 0, 0),
    (Reg.TOP_DRAIN_CNT 8, 0, 0), (Reg.TOP_DRAIN_STATUS, 0, 0), (Reg.NVS_WEAR, 0, 0), (Reg.NVS_EVENT, 0, 0), (Reg.NVS_STATUS, 0, 0)] s (retire s n)
    := by
  unfold retire
  split
  · exact .trans jPut_rdBut.mono spareTake_rdBut.mono
  · exact setUnavail_rdBut.mono

theorem eraseEnd_rdBut {s e} : RdBut [(Reg.REC_EVENT, 0, 0), (Reg.REC_ARB_DROP 0, 0, 0), (Reg.REC_ARB_DROP 1, 0, 0), (Reg.REC_ARB_DROP 2, 0, 0),
    (Reg.TOP_DRAIN_CNT 8, 0, 0), (Reg.TOP_DRAIN_STATUS, 0, 0), (Reg.NVS_WEAR, 0, 0), (Reg.NVS_EVENT, 0, 0), (Reg.NVS_STATUS, 0, 0)] s (eraseEnd s
    e) := by
  unfold eraseEnd
  exact .trans (.of_evolves setSector_evolves)
    (.trans (.trans (.of_evolves (W := { nvs := true }) .set_nvs) jPut_rdBut.mono) (.trans eraseSaid_rdBut.mono (.ite retire_rdBut.mono .refl)))

theorem eraseStart_rdBut {s n} : RdBut [(Reg.REC_EVENT, 0, 0), (Reg.REC_ARB_DROP 0, 0, 0), (Reg.REC_ARB_DROP 1, 0, 0), (Reg.REC_ARB_DROP 2, 0, 0),
    (Reg.TOP_DRAIN_CNT 8, 0, 0), (Reg.TOP_DRAIN_STATUS, 0, 0), (Reg.NVS_WEAR, 0, 0), (Reg.NVS_EVENT, 0, 0), (Reg.NVS_STATUS, 0, 0)] s (eraseStart s
    n) := by
  unfold eraseStart
  exact .trans jPut_rdBut.mono (.trans (.of_evolves setSector_evolves) (.of_evolves (W := { nvs := true }) .set_nvs))

theorem eraseNext_rdBut {s} : RdBut [(Reg.REC_EVENT, 0, 0), (Reg.REC_ARB_DROP 0, 0, 0), (Reg.REC_ARB_DROP 1, 0, 0), (Reg.REC_ARB_DROP 2, 0, 0),
    (Reg.TOP_DRAIN_CNT 8, 0, 0), (Reg.TOP_DRAIN_STATUS, 0, 0), (Reg.NVS_WEAR, 0, 0), (Reg.NVS_EVENT, 0, 0), (Reg.NVS_STATUS, 0, 0)] s (eraseNext s)
    := by
  unfold eraseNext
  split
  · exact .trans (.of_evolves (W := { nvs := true }) .set_nvs) eraseStart_rdBut.mono
  · exact .refl

theorem eraseWait_rdBut {s n} : RdBut [(Reg.REC_EVENT, 0, 0), (Reg.REC_ARB_DROP 0, 0, 0), (Reg.REC_ARB_DROP 1, 0, 0), (Reg.REC_ARB_DROP 2, 0, 0),
    (Reg.TOP_DRAIN_CNT 8, 0, 0), (Reg.TOP_DRAIN_STATUS, 0, 0), (Reg.NVS_WEAR, 0, 0), (Reg.NVS_EVENT, 0, 0), (Reg.NVS_STATUS, 0, 0)] s (eraseWait s
    n) := by
  unfold eraseWait
  exact .forEach
    fun _ _ =>
      .ite
        (by
           split
           exacts [.trans eraseEnd_rdBut.mono eraseNext_rdBut.mono,
             eraseNext_rdBut.mono]) .refl

theorem eraseAsk_rdBut {s l} : RdBut [(Reg.REC_EVENT, 0, 0), (Reg.REC_ARB_DROP 0, 0, 0), (Reg.REC_ARB_DROP 1, 0, 0), (Reg.REC_ARB_DROP 2, 0, 0),
    (Reg.TOP_DRAIN_CNT 8, 0, 0), (Reg.TOP_DRAIN_STATUS, 0, 0), (Reg.NVS_WEAR, 0, 0), (Reg.NVS_EVENT, 0, 0), (Reg.NVS_STATUS, 0, 0)] s (eraseAsk s
    l) := by
  unfold eraseAsk
  exact .trans (.of_evolves (W := { nvs := true }) .set_nvs) eraseNext_rdBut.mono

theorem areaAdvance_rdBut {s first n} : RdBut [(Reg.REC_EVENT, 0, 0), (Reg.REC_ARB_DROP 0, 0, 0), (Reg.REC_ARB_DROP 1, 0, 0), (Reg.REC_ARB_DROP 2,
    0, 0), (Reg.TOP_DRAIN_CNT 8, 0, 0), (Reg.TOP_DRAIN_STATUS, 0, 0), (Reg.NVS_WEAR, 0, 0), (Reg.NVS_EVENT, 0, 0), (Reg.NVS_STATUS, 0, 0)] s
    (areaAdvance s first n) := by
  unfold areaAdvance
  exact .trans (.of_evolves setSector_evolves) (.trans (.of_evolves (W := { nvs := true }) .set_nvs) (.ite .refl eraseAsk_rdBut.mono))

theorem areaRoom_rdBut {s first n u} : RdBut [(Reg.REC_EVENT, 0, 0), (Reg.REC_ARB_DROP 0, 0, 0), (Reg.REC_ARB_DROP 1, 0, 0), (Reg.REC_ARB_DROP 2,
    0, 0), (Reg.TOP_DRAIN_CNT 8, 0, 0), (Reg.TOP_DRAIN_STATUS, 0, 0), (Reg.NVS_WEAR, 0, 0), (Reg.NVS_EVENT, 0, 0), (Reg.NVS_STATUS, 0, 0)] s
    (areaRoom s first n u) := by
  unfold areaRoom
  exact .forEach fun _ _ => .ite (.trans eraseWait_rdBut.mono areaAdvance_rdBut.mono) .refl

theorem putRecord_rdBut {s kind key payload} : RdBut [(Reg.REC_EVENT, 0, 0), (Reg.REC_ARB_DROP 0, 0, 0), (Reg.REC_ARB_DROP 1, 0, 0),
    (Reg.REC_ARB_DROP 2, 0, 0), (Reg.TOP_DRAIN_CNT 8, 0, 0), (Reg.TOP_DRAIN_STATUS, 0, 0), (Reg.NVS_WEAR, 0, 0), (Reg.NVS_EVENT, 0, 0),
    (Reg.NVS_STATUS, 0, 0)] s (putRecord s kind key payload) := by
  unfold putRecord
  exact .trans areaRoom_rdBut.mono (.of_evolves setSector_evolves)


section
variable {s t u : State} {n : Nat}

/-! ## Fuse operations -/

theorem fuseEnd_evolves_sec {o : FuseOp} {r : Nat} : (fuseEnd s o r).sec = s.sec := fuseEnd_evolves.sec_eq rfl

theorem fuseEnd_result {o : FuseOp} {r : Nat} (hr : r < 16) : fld (fuseEnd s o r) Reg.SEC_FUSE_STATUS F.SEC_FUSE_STATUS_RESULT = r := by
  unfold fuseEnd
  refine (raise_rdBut0.fld_eq _).trans ((record_rdBut.fld_eq _).trans ?_)
  rw [fld_setF_same _ _ _ _ (by decide)]
  exact Nat.mod_eq_of_lt hr

theorem fuseEnd_failed {o : FuseOp} {r : Nat} (hr : r ≠ 3) : flag (fuseEnd s o r) Reg.SEC_EVENT F.SEC_EVENT_FUSE_FAIL = true := by
  unfold fuseEnd
  rw [if_neg hr]
  exact flag_raise _ _ _ (by decide)

theorem fuseEnd_done {o : FuseOp} : flag (fuseEnd s o 3) Reg.SEC_EVENT F.SEC_EVENT_FUSE_DONE = true := by
  unfold fuseEnd
  exact flag_raise _ _ _ (by decide)

theorem fuseResult_result {r : Nat} (hr : r < 16) : fld (fuseResult s r) Reg.SEC_FUSE_STATUS F.SEC_FUSE_STATUS_RESULT = r := by
  unfold fuseResult
  rw [fld_setF_same _ _ _ _ (by decide)]
  exact Nat.mod_eq_of_lt hr

theorem ite_lt (c : Prop) [Decidable c] : (if c then 0 else 9) < 16 ∧ (if c then 0 else 9) ≠ 3 := by
  split <;> decide

theorem fuseCond_lt (s : State) (o : FuseOp) : fuseCond s o < 16 ∧ fuseCond s o ≠ 3 := by
  unfold fuseCond
  extract_lets held
  clear_value held
  split
  · split <;> decide
  · split
    · decide
    · split <;> decide
  · split <;> decide
  · split <;> decide
  · split <;> decide
  · split <;> decide
  · split
    · decide
    · split
      · decide
      · exact ite_lt _
  · decide

theorem fuseCheck_lt (s : State) (o : FuseOp) : fuseCheck s o < 16 ∧ fuseCheck s o ≠ 3 := by
  unfold fuseCheck
  split
  · decide
  · split
    · decide
    · split
      · decide
      · split
        · decide
        · split
          · decide
          · exact fuseCond_lt s o

/-- The bits of a word that writes SEC_FUSE_CTL. -/
theorem fuseWord_fields {op key arg g : Nat} (ho : op < 16) (hk : key < 256) (hg : g < 2) :
    (op + 16 * g + key * 256 + arg * 65536) % 16 = op ∧ bitOf (op + 16 * g + key * 256 + arg * 65536) 4 = decide (g = 1)
      ∧ (op + 16 * g + key * 256 + arg * 65536) / 256 % 256 = key ∧ (op + 16 * g + key * 256 + arg * 65536) / 65536 = arg := by
  refine ⟨by omega, ?_, by omega, by omega⟩
  unfold bitOf
  rw [Nat.testBit_eq_decide_div_mod_eq]
  exact decide_eq_decide.2 (by omega)

/-- What O59 says of a start of operation `op` that the gate lets through. -/
def Started (s t : State) (op : Nat) : Prop := t.sec.fuse = s.sec.fuse ∧ t.sec.arm = none
  ∧ (s.sec.arm = none → fld t Reg.SEC_FUSE_STATUS F.SEC_FUSE_STATUS_RESULT = 11 ∧ t.sec.run = s.sec.run)
  ∧ ∀ o : FuseOp, s.sec.arm = some o →
    (o.op ≠ op → fld t Reg.SEC_FUSE_STATUS F.SEC_FUSE_STATUS_RESULT = 4 ∧ t.sec.run = s.sec.run)
    ∧ (o.op = op → fuseCheck s o = 2 → fld t Reg.SEC_FUSE_STATUS F.SEC_FUSE_STATUS_RESULT = 2 ∧ t.sec.run = some o)
    ∧ (o.op = op → fuseCheck s o ≠ 2 → fld t Reg.SEC_FUSE_STATUS F.SEC_FUSE_STATUS_RESULT = fuseCheck s o ∧ t.sec.run = s.sec.run
      ∧ flag t Reg.SEC_EVENT F.SEC_EVENT_FUSE_FAIL = true)

theorem fuseCtl_unarmed {val : Nat} (hgo : bitOf val 4 = true) (hkey : val / 256 % 256 = 0xA5) (ha : s.sec.arm = none) :
    fuseCtl s val = fuseEnd s { op := val % 16, arg := val / 65536, data := [], at_ := 0 } 11 := by
  unfold fuseCtl
  dsimp only
  rw [if_neg (by rw [hgo]; simp), if_pos ⟨hgo, hkey⟩, ha]

theorem fuseCtl_armed {val : Nat} {o : FuseOp} (hgo : bitOf val 4 = true) (hkey : val / 256 % 256 = 0xA5) (ha : s.sec.arm = some o) :
    fuseCtl s val = if o.op ≠ val % 16 then fuseResult (setArm s none) 4
      else if fuseCheck s o = 2 then fuseResult { setArm s none with sec := { (setArm s none).sec with run := some o } } 2
      else fuseEnd (setArm s none) o (fuseCheck s o) := by
  unfold fuseCtl
  dsimp only
  rw [if_neg (by rw [hgo]; simp), if_pos ⟨hgo, hkey⟩, ha]

theorem fuseCtl_starts {val op : Nat} (hop : val % 16 = op) (hgo : bitOf val 4 = true) (hkey : val / 256 % 256 = 0xA5) : Started s (fuseCtl s val) op := by
  subst hop
  cases ha : s.sec.arm with
  | none =>
    rw [fuseCtl_unarmed hgo hkey ha]
    refine ⟨congrArg SecSt.fuse fuseEnd_evolves_sec, (congrArg SecSt.arm fuseEnd_evolves_sec).trans ha, fun _ => ⟨fuseEnd_result (by decide), congrArg SecSt.run fuseEnd_evolves_sec⟩, ?_⟩
    intro o ho
    exact absurd (ha.symm.trans ho) (by simp)
  | some o =>
    rw [fuseCtl_armed hgo hkey ha]
    obtain ⟨hlt, h3⟩ := fuseCheck_lt s o
    by_cases he : o.op = val % 16
    · rw [if_neg (not_not_intro he)]
      by_cases h2 : fuseCheck s o = 2
      · rw [if_pos h2]
        refine ⟨rfl, rfl, fun h => (by cases ha.symm.trans h), fun o' ho' => ?_⟩
        obtain rfl := Option.some.inj (ha.symm.trans ho')
        exact ⟨fun hn => absurd he hn, fun _ _ => ⟨fuseResult_result (by decide), rfl⟩, fun _ hn => absurd h2 hn⟩
      · rw [if_neg h2]
        have e : (fuseEnd (setArm s none) o (fuseCheck s o)).sec = (setArm s none).sec := fuseEnd_evolves_sec
        refine ⟨(congrArg SecSt.fuse e :), (congrArg SecSt.arm e :), fun h => (by cases ha.symm.trans h), fun o' ho' => ?_⟩
        obtain rfl := Option.some.inj (ha.symm.trans ho')
        exact ⟨fun hn => absurd he hn, fun _ hn => absurd hn h2, fun _ _ => ⟨fuseEnd_result hlt, (congrArg SecSt.run e :), fuseEnd_failed h3⟩⟩
    · rw [if_pos he]
      refine ⟨rfl, rfl, fun h => (by cases ha.symm.trans h), fun o' ho' => ?_⟩
      obtain rfl := Option.some.inj (ha.symm.trans ho')
      exact ⟨fun _ => ⟨fuseResult_result (by decide), rfl⟩, fun hn => absurd hn he, fun hn => absurd hn he⟩

theorem fuseRow_starts {who : Initiator} {op : Nat} {arg : BitVec 16} (hop : op < 16)
    (ha : admits s who Reg.SEC_FUSE_CTL (op + 16 + 0xA5 * 256 + arg.toNat * 65536) = true) : Started s (fuseRow s who op arg.toNat true) op := by
  obtain ⟨h1, h2, h3, _⟩ := fuseWord_fields (op := op) (key := 0xA5) (arg := arg.toNat) (g := 1) hop (by decide) (by decide)
  unfold fuseRow
  rw [show op + 16 * b2n true + (if true = true then 0xA5 else 0x5A) * 256 + arg.toNat * 65536 = op + 16 * 1 + 0xA5 * 256 + arg.toNat * 65536 by simp [b2n]]
  dsimp only
  rw [gated_of_admits _ _ _ _ _ (show admits s who Reg.SEC_FUSE_CTL (op + 16 * 1 + 0xA5 * 256 + arg.toNat * 65536) = true from by rw [Nat.mul_one]; exact ha)]
  exact fuseCtl_starts (s := { s with resp := .none }) h1 h2 h3

theorem fuseCtl_arms {val : Nat} (hgo : bitOf val 4 = false) (hkey : val / 256 % 256 = 0x5A) : fuseCtl s val
    = fuseResult (setArm s (some { op := val % 16, arg := val / 65536, data := (List.range 12).map (fun k => (rd s (Reg.SEC_FUSE_DATA k)).toNat), at_ := now s })) 1 := by
  unfold fuseCtl
  dsimp only
  rw [if_pos ⟨by rw [hgo]; rfl, hkey⟩]

theorem fuseRow_of {who : Initiator} {op arg m k : Nat} {g : Bool} (hm : m = 16 * b2n g) (hk : (if g then 0xA5 else 0x5A) * 256 = k)
    (ha : admits s who Reg.SEC_FUSE_CTL (op + m + k + arg * 65536) = true) :
    fuseRow s who op arg g = fuseCtl { s with resp := .none } (op + m + k + arg * 65536) := by
  subst hm hk
  exact gated_of_admits s who Reg.SEC_FUSE_CTL _ (fun s => fuseCtl s (op + 16 * b2n g + (if g then 0xA5 else 0x5A) * 256 + arg * 65536)) ha

theorem fuseArm_results (who : Initiator) (op : BitVec 4) (arg : BitVec 16) (s : State)
    (ha : admits s who Reg.SEC_FUSE_CTL (op.toNat + 0x5A * 256 + arg.toNat * 65536) = true) :
    Runs (.fuseArm who op arg) s (fun t => fld t Reg.SEC_FUSE_STATUS F.SEC_FUSE_STATUS_RESULT = 1 ∧ ∃ o : FuseOp, t.sec.arm = some o ∧ o.op = op.toNat
      ∧ o.arg = arg.toNat ∧ o.at_ = now s ∧ o.data = (List.range 12).map (fun k => (rd s (Reg.SEC_FUSE_DATA k)).toNat)) := by
  obtain ⟨h1, h2, h3, h4⟩ := fuseWord_fields (op := op.toNat) (key := 0x5A) (arg := arg.toNat) (g := 0) op.isLt (by decide) (by decide)
  rw [Nat.mul_zero, Nat.add_zero] at h1 h2 h3 h4
  have hr : fuseRow s who op.toNat arg.toNat false = fuseCtl { s with resp := .none } (op.toNat + 0x5A * 256 + arg.toNat * 65536) :=
    fuseRow_of (m := 0) (g := false) rfl rfl ha
  refine ⟨_, congrArg Outcome.next hr, ?_⟩
  generalize op.toNat + 0x5A * 256 + arg.toNat * 65536 = val at h1 h2 h3 h4 ⊢
  rw [fuseCtl_arms h2 h3]
  exact ⟨fuseResult_result (by decide), _, rfl, h1, h4, rfl, rfl⟩

theorem lt_thermo {a f : Nat} (ha : a ≤ 128) (h : ∀ i, i < a → bitOf f i = true) : a ≤ thermo f := by
  have hl : List.range 128 = List.range a ++ (List.range (128 - a)).map (a + ·) := by
    rw [← List.range_add, Nat.add_sub_cancel' ha]
  unfold thermo
  rw [hl, List.takeWhile_append_of_pos fun i hi => h i (List.mem_range.1 hi), List.length_append, List.length_range]
  exact Nat.le_add_right _ _

theorem thermo_ones {a f : Nat} (ha : a ≤ 128) : a ≤ thermo (f ||| (2 ^ a - 1)) := by
  refine lt_thermo ha fun i hi => ?_
  unfold bitOf
  rw [Nat.testBit_or, Nat.testBit_two_pow_sub_one]
  simp [hi]

theorem rootOff_of_all {f : Nat} (h : t.sec.fuse.rootDisable = f ||| 7) : rootOff t = true := by
  have hb (i : Nat) (hi : i < 3) : bitOf (f ||| 7) i = true := by
    unfold bitOf
    rw [Nat.testBit_or, show 7 = 2 ^ 3 - 1 from rfl, Nat.testBit_two_pow_sub_one]
    simp [hi]
  have hl : maskBits 3 (f ||| 7) = List.range 3 := List.filter_eq_self.2 fun i hi => hb i (List.mem_range.1 hi)
  unfold rootOff
  rw [h, hl]
  rfl

/-- The end of an operation with result `r`, its owner-key record included. -/
theorem fuseEnded {o : FuseOp} {r : Nat} {c : State → Prop} [DecidablePred c] (hr : r < 16) : ∀ v : State,
    v = (if c (fuseStop u o r) then putRecord (fuseStop u o r) 4 0 (ownerBytes (fuseStop u o r)) else fuseStop u o r) →
    fld v Reg.SEC_FUSE_STATUS F.SEC_FUSE_STATUS_RESULT = r ∧ v.sec.run = none ∧ v.sec.fuse = u.sec.fuse
      ∧ flag v Reg.SEC_EVENT (if r = 3 then F.SEC_EVENT_FUSE_DONE else F.SEC_EVENT_FUSE_FAIL) = true := by
  rintro v rfl
  have h1 : fld (fuseStop u o r) Reg.SEC_FUSE_STATUS F.SEC_FUSE_STATUS_RESULT = r := fuseEnd_result hr
  have h2 : (fuseStop u o r).sec = { u.sec with run := none } := fuseEnd_evolves_sec
  have h3 : flag (fuseStop u o r) Reg.SEC_EVENT (if r = 3 then F.SEC_EVENT_FUSE_DONE else F.SEC_EVENT_FUSE_FAIL) = true := by
    by_cases h : r = 3
    · subst h
      exact fuseEnd_done
    · rw [if_neg h]
      exact fuseEnd_failed h
  generalize fuseStop u o r = w at h1 h2 h3 ⊢
  have e : Evolves { regs := true, drain := true, recd := true, nvs := true } w (if c w then putRecord w 4 0 (ownerBytes w) else w) := .ite putRecord_evolves .refl
  refine ⟨?_, ?_, ?_, ?_⟩
  · split
    · exact (putRecord_rdBut.fld_eq _).trans h1
    · exact h1
  · rw [e.sec_eq rfl, h2]
  · rw [e.sec_eq rfl, h2]
  · split
    · exact (putRecord_rdBut.flag_eq _).trans h3
    · exact h3

theorem fuseOperationDone_runs {ok : Bool} {o : FuseOp} (h : s.sec.run = some o) : ∃ u v : State, u = (if ok then fuseWhole s o else fusePart s o)
    ∧ execFuseOperationDone ok s = .next v ∧ fld v Reg.SEC_FUSE_STATUS F.SEC_FUSE_STATUS_RESULT = (if ok then 3 else 12) ∧ v.sec.run = none
    ∧ v.sec.fuse = u.sec.fuse ∧ flag v Reg.SEC_EVENT (if ok then F.SEC_EVENT_FUSE_DONE else F.SEC_EVENT_FUSE_FAIL) = true := by
  unfold execFuseOperationDone
  rw [h]
  cases ok
  · obtain ⟨h1, h2, h3, h4⟩ := fuseEnded (u := fusePart s o) (o := o) (r := 12)
      (c := fun s => (o.op = 1 ∨ o.op = 2) ∧ flag s Reg.TOP_SUPPLY F.TOP_SUPPLY_NVS_READY ∧ !unavail s 64) (by decide) _ rfl
    exact ⟨_, _, rfl, rfl, h1, h2, h3, h4⟩
  · obtain ⟨h1, h2, h3, h4⟩ := fuseEnded (u := fuseWhole s o) (o := o) (r := 3)
      (c := fun s => (o.op = 1 ∨ o.op = 2) ∧ flag s Reg.TOP_SUPPLY F.TOP_SUPPLY_NVS_READY ∧ !unavail s 64) (by decide) _ rfl
    exact ⟨_, _, rfl, rfl, h1, h2, h3, h4⟩

theorem fuseWhole_results {o : FuseOp} (ht : t.sec.fuse = (fuseWhole s o).sec.fuse) : (o.op = 3 → rootOff t = true)
    ∧ (o.op = 4 → o.arg ≤ 128 → o.arg ≤ thermo t.sec.fuse.imgRb) ∧ (o.op = 5 → o.arg ≤ 128 → o.arg ≤ thermo t.sec.fuse.fwRb) := by
  rw [ht]
  unfold fuseWhole at ht ⊢
  refine ⟨fun h => ?_, fun h ha => ?_, fun h ha => ?_⟩
  · rw [h] at ht
    exact rootOff_of_all (congrArg FuseSt.rootDisable ht)
  · rw [h]
    exact thermo_ones ha
  · rw [h]
    exact thermo_ones ha

/-! ## Debug unlock -/

theorem drawNat_sec : (drawNat s n).2.sec = s.sec := rfl

theorem rd_nonceNew (b : List Byte) {k : Nat} (hk : k < 8) :
    rd (forEach (List.range 8) s (fun s k => wrN s (Reg.SEC_DBG_NONCE k) (leAt b (4 * k) 4))) (Reg.SEC_DBG_NONCE k) = BitVec.ofNat 32 (leAt b (4 * k) 4) := by
  refine forEach_writes (g := fun t => rd t (Reg.SEC_DBG_NONCE k)) (f := fun s k => wrN s (Reg.SEC_DBG_NONCE k) (leAt b (4 * k) 4))
    (fun _ => BitVec.ofNat 32 (leAt b (4 * k) 4)) (List.mem_range.2 hk) (fun s => rd_wrN_same _ _ _) (fun s x _ hx => rd_wrN_ne _ _ ?_) (fun _ _ => rfl)
  show 0x40320 + 0x4 * x ≠ 0x40320 + 0x4 * k
  omega

/-- What O59 says of NONCE. -/
def NonceDrawn (s t : State) : Prop := ∃ b : List Byte, b.length = 32 ∧ (s.sec.token = none → t.sec.nonce = some b)
  ∧ (s.sec.token.isSome = true → t.sec.nonce = s.sec.nonce ∧ t.sec.nextNonce = some b)
  ∧ ∀ k, k < 8 → rd t (Reg.SEC_DBG_NONCE k) = BitVec.ofNat 32 (leAt b (4 * k) 4)

theorem nonceKept {b : List Byte} (hb : b.length = 32) (hu : u.sec = s.sec) (hr : ∀ k, k < 8 → rd u (Reg.SEC_DBG_NONCE k) = BitVec.ofNat 32 (leAt b (4 * k) 4)) :
    NonceDrawn s (if u.sec.token.isSome then { u with sec := { u.sec with nextNonce := some b } } else { u with sec := { u.sec with nonce := some b } }) := by
  refine ⟨b, hb, fun h => ?_, fun h => ?_, fun k hk => ?_⟩
  · rw [if_neg (by rw [hu, h]; decide)]
  · rw [if_pos (by rw [hu]; exact h)]
    exact ⟨(congrArg SecSt.nonce hu :), rfl⟩
  · split
    · exact (rd_of_regs rfl _).trans (hr k hk)
    · exact (rd_of_regs rfl _).trans (hr k hk)

theorem nonceNew_draws : NonceDrawn s (nonceNew s).2 := by
  unfold nonceNew
  have hs := drawNat_sec (s := s) (n := 2 ^ 256)
  generalize drawNat s (2 ^ 256) = p at hs ⊢
  obtain ⟨n, u⟩ := p
  have e : Evolves { regs := true } u (forEach (List.range 8) u (fun s k => wrN s (Reg.SEC_DBG_NONCE k) (leAt (leBytes 32 n) (4 * k) 4))) :=
    .forEach fun _ _ => wrN_evolves.mono
  exact nonceKept (by unfold leBytes; rw [List.length_map, List.length_range]) ((e.sec_eq rfl).trans hs) fun k hk => rd_nonceNew _ hk

theorem nonce_results (who : Initiator) (s : State) (ha : admits s who Reg.SEC_DBG_CTL 1 = true) : Runs (.nonce who) s (NonceDrawn s) :=
  ⟨_, congrArg Outcome.next (gated_of_admits _ _ _ _ _ ha), nonceNew_draws (s := { s with resp := .none })⟩

theorem tokenSubmit_idle {b : List Byte} {e : Bool} (h : s.sec.token = none) :
    (tokenSubmit s b e).sec.nonce = none ∧ (tokenSubmit s b e).sec.cores = s.sec.cores
      ∧ ∃ x : TokenSt, (tokenSubmit s b e).sec.token = some x ∧ x.nonce = s.sec.nonce := by
  unfold tokenSubmit
  rw [h]
  exact ⟨rfl, rfl, _, rfl, rfl⟩

/-- What O59 says of SUBMIT. -/
def Submitted (s t : State) : Prop := t.sec.nonce = none ∧ t.sec.cores = s.sec.cores ∧ ∃ x : TokenSt, t.sec.token = some x ∧ x.nonce = s.sec.nonce

theorem dbgSubmit_idle {src : Nat} {got : Fetched} (h : s.sec.token = none) : Submitted s (dbgSubmit s src got) := by
  generalize hf : dbgSubmit = f
  delta dbgSubmit at hf
  subst hf
  beta_reduce
  extract_lets addr
  clear_value addr
  have e : Evolves { top := true } s (if srcOk src addr tokenLen then fetchAer s src got else s) := .ite fetchAer_evolves .refl
  generalize (if srcOk src addr tokenLen then fetchAer s src got else s) = u at e ⊢
  generalize (if srcOk src addr tokenLen then fetchTake s src addr tokenLen got else none) = x
  cases x with
  | some b => exact tokenSubmit_idle h
  | none =>
    have hu : u.sec = s.sec := e.sec_eq rfl
    have k := tokenSubmit_idle (s := u) (b := []) (e := true) (by rw [hu]; exact h)
    rw [hu] at k
    exact k

theorem submit_results (who : Initiator) (src : Fin 4) (got : Fetched) (s : State) (ha : admits s who Reg.SEC_DBG_CTL (2 + 16 * src.val) = true) (h : s.sec.token = none) :
    Runs (.submit who src got) s (Submitted s) :=
  ⟨_, congrArg Outcome.next (gated_of_admits _ _ _ _ _ ha), dbgSubmit_idle (s := { s with resp := .none }) h⟩

theorem tokenCheck_lt (s : State) (x : TokenSt) : tokenCheck s x < 16 := by
  unfold tokenCheck
  extract_lets b slot
  clear_value slot b
  repeat' split
  all_goals decide

/-- The report of a verification changes neither SEC's state nor the result it shows. -/
theorem saidToken {bit : Fld} {typ unit arg v : Nat} (hb : bit = ⟨bit.lo, 1⟩) (hl : bit.lo < 32) :
    (record (raise u Reg.SEC_EVENT bit) .mgmt 0x14 typ unit arg v 0).sec = u.sec
      ∧ fld (record (raise u Reg.SEC_EVENT bit) .mgmt 0x14 typ unit arg v 0) Reg.SEC_DBG_STATUS F.SEC_DBG_STATUS_RESULT
        = fld u Reg.SEC_DBG_STATUS F.SEC_DBG_STATUS_RESULT
      ∧ flag (record (raise u Reg.SEC_EVENT bit) .mgmt 0x14 typ unit arg v 0) Reg.SEC_EVENT bit = true := by
  refine ⟨(record_evolves.sec_eq rfl).trans (raise_evolves.sec_eq rfl), (record_rdBut.fld_eq _).trans (raise_rdBut0.fld_eq _), (record_rdBut.flag_eq _).trans ?_⟩
  rw [hb]
  exact flag_raise _ _ _ hl

theorem debugTokenVerified_results (x : TokenSt) (s : State) (h : s.sec.token = some x) :
    Runs .debugTokenVerified s (fun t => t.sec.token = none ∧ t.sec.nonce = s.sec.nextNonce ∧ fld t Reg.SEC_DBG_STATUS F.SEC_DBG_STATUS_RESULT = tokenCheck s x
      ∧ (tokenCheck s x = 1 → t.sec.cores = s.sec.cores ||| leAt x.token 0x30 1 ∧ t.sec.ever = true ∧ flag t Reg.SEC_EVENT F.SEC_EVENT_DBG_UNLOCK = true)
      ∧ (tokenCheck s x ≠ 1 → t.sec.cores = s.sec.cores ∧ t.sec.ever = s.sec.ever ∧ flag t Reg.SEC_EVENT F.SEC_EVENT_DBG_REFUSED = true)) := by
  show ∃ t, execDebugTokenVerified s = .next t ∧ _
  unfold execDebugTokenVerified
  rw [h]
  refine ⟨_, rfl, ?_⟩
  dsimp only
  have hf : fld (setF { s with sec := { s.sec with token := none, nonce := s.sec.nextNonce, nextNonce := none } } Reg.SEC_DBG_STATUS F.SEC_DBG_STATUS_RESULT (tokenCheck s x))
      Reg.SEC_DBG_STATUS F.SEC_DBG_STATUS_RESULT = tokenCheck s x := by
    rw [fld_setF_same _ _ _ _ (by decide)]
    exact Nat.mod_eq_of_lt (tokenCheck_lt s x)
  have hs : (setF { s with sec := { s.sec with token := none, nonce := s.sec.nextNonce, nextNonce := none } } Reg.SEC_DBG_STATUS F.SEC_DBG_STATUS_RESULT (tokenCheck s x)).sec
      = { s.sec with token := none, nonce := s.sec.nextNonce, nextNonce := none } := rfl
  generalize (setF { s with sec := { s.sec with token := none, nonce := s.sec.nextNonce, nextNonce := none } } Reg.SEC_DBG_STATUS F.SEC_DBG_STATUS_RESULT (tokenCheck s x)) = u at hf hs ⊢
  by_cases h1 : tokenCheck s x = 1
  · rw [if_pos h1]
    generalize leAt x.token 0x30 1 = c
    have hf' : fld { u with sec := { u.sec with cores := u.sec.cores ||| c, ever := true } } Reg.SEC_DBG_STATUS F.SEC_DBG_STATUS_RESULT = tokenCheck s x := hf
    have hs' : ({ u with sec := { u.sec with cores := u.sec.cores ||| c, ever := true } } : State).sec
        = { s.sec with token := none, nonce := s.sec.nextNonce, nextNonce := none, cores := s.sec.cores ||| c, ever := true } := by
      show { u.sec with cores := u.sec.cores ||| c, ever := true } = _
      rw [hs]
    generalize ({ u with sec := { u.sec with cores := u.sec.cores ||| c, ever := true } } : State) = w at hf' hs' ⊢
    obtain ⟨k1, k2, k3⟩ := saidToken (u := w) (bit := F.SEC_EVENT_DBG_UNLOCK) (typ := 2) (unit := c) (arg := leAt x.token 4 1) (v := now w) rfl (by decide)
    rw [hs'] at k1
    exact ⟨by rw [k1], by rw [k1], k2.trans hf', fun _ => ⟨by rw [k1], by rw [k1], k3⟩, fun h => absurd h1 h⟩
  · rw [if_neg h1]
    obtain ⟨k1, k2, k3⟩ := saidToken (u := u) (bit := F.SEC_EVENT_DBG_REFUSED) (typ := 3) (unit := 0) (arg := tokenCheck s x) (v := now u) rfl (by decide)
    rw [hs] at k1
    exact ⟨by rw [k1], by rw [k1], k2.trans hf, fun h => absurd h h1, fun _ => ⟨by rw [k1], by rw [k1], k3⟩⟩

/-- Settles O59: a row of SEC_FUSE_CTL acts by the operation armed and its check, an end programs the fuses by the operation, and the debug
commands act on the nonce, the token and the opened cores alone. -/
theorem fuseAndDebugUnlockResults : Obligations.FuseAndDebugUnlockResults := by
  unfold Obligations.FuseAndDebugUnlockResults
  intro result starts
  have hst {op : Nat} {c : Initiator → BitVec 16 → Instr} (hop : op < 16)
      (he : ∀ who arg s, exec (c who arg) s = .next (fuseRow s who op arg.toNat true)) : starts op c :=
    fun who arg s ha => ⟨_, he who arg s, fuseRow_starts hop ha⟩
  refine ⟨fuseArm_results, ⟨hst (by decide) fun _ _ _ => rfl, hst (by decide) fun _ _ _ => rfl, hst (by decide) fun _ _ _ => rfl, hst (by decide) fun _ _ _ => rfl,
    hst (by decide) fun _ _ _ => rfl, hst (by decide) fun _ _ _ => rfl, hst (by decide) fun _ _ _ => rfl⟩, fun o s h => ⟨?_, ?_⟩, nonce_results, submit_results,
    fun who s ha => ⟨_, congrArg Outcome.next (gated_of_admits _ _ _ _ _ ha), rfl⟩, debugTokenVerified_results⟩
  · obtain ⟨u, t, hu, he, h1, h2, h3, h4⟩ := fuseOperationDone_runs (ok := true) h
    have hf : t.sec.fuse = (fuseWhole s o).sec.fuse := by rw [h3, hu]; rfl
    refine ⟨t, he, h1, h2, hf, ?_, h4, fuseWhole_results hf⟩
    rw [hf]
    exact fuseWhole_evolves.fuses
  · obtain ⟨u, t, hu, he, h1, h2, h3, h4⟩ := fuseOperationDone_runs (ok := false) h
    refine ⟨t, he, h1, h2, ?_, h4⟩
    rw [h3, hu]
    exact fusePart_evolves.fuses
end

end Sys2Proof.Machine
end

section
/-! PROOF. Drip mode and widened rails (O30). -/

namespace Sys2Proof.Machine
open Host
set_option Elab.async false

section
variable {s t u : State} {r p q : Nat}

/-! ## Sweeps over the phases of a rail -/

theorem railPhases_nodup (s : State) (r : Nat) : (railPhases s r).Nodup := by
  unfold railPhases railQuads
  rw [List.nodup_flatMap]
  refine ⟨fun q _ => ?_, (List.nodup_range.filter _).imp fun {a b} h => ?_⟩
  · simp [quadPhases]
  · simp only [Function.onFun, List.disjoint_left, quadPhases, List.mem_cons, List.not_mem_nil, or_false]
    omega

theorem mem_railPhases_of_assigned (h : p ∈ assigned s r) : p ∈ railPhases s r := (List.mem_filter.1 h).1

/-- What every step of a sweep gives a phase, and the others keep, it has after the sweep. -/
theorem phOf_sweep {l : List Nat} {f : PhSt → PhSt} {P Q : PhSt → Prop} (hp : p ∈ l) (hP : ∀ x, P x → P (f x)) (hQ : ∀ x, P x → Q (f x)) (hkeep : ∀ x, Q x → Q (f x))
    (h : P (phOf s p)) : Q (phOf (forEach l s fun s p => setPh s p f) p) := by
  refine forEach_establishes (I := fun s => P (phOf s p)) (Q := fun s => Q (phOf s p)) hp (fun t q hi => ?_) (fun t hi => ?_) (fun t q _ hq => ?_) h
  · rw [phOf_setPh]
    split
    next he => rw [he]; exact hP _ hi
    next => exact hi
  · rw [phOf_setPh, if_pos rfl]
    exact hQ _ hi
  · rw [phOf_setPh]
    split
    next he => rw [he]; exact hkeep _ hq
    next => exact hq

/-- What a change of a phase keeps, for the phases at each number. -/
theorem shows_setPh {α : Type} {g : PhSt → α} {f : PhSt → PhSt} (hf : ∀ x, g (f x) = g x) : Shows (fun s p => g (phOf s p)) s (setPh s q f) := by
  funext p
  beta_reduce
  rw [phOf_setPh]
  split
  next h => rw [hf, h]
  next => rfl

theorem shows_ph {α : Type} {g : PhSt → α} (h : t.ph = s.ph) : Shows (fun s p => g (phOf s p)) s t := by
  funext p
  beta_reduce
  rw [phOf_of_ph h]

/-! ## Drip mode -/

theorem coolest_spec (s : State) : ∀ l : List Nat, l ≠ [] → ∃ p, coolest s l = some p ∧ p ∈ l ∧ ∀ q ∈ l, phTemp s p ≤ phTemp s q
  | [], h => absurd rfl h
  | p :: l, _ => by
    unfold coolest
    cases hl : coolest s l with
    | none =>
      cases l with
      | nil => exact ⟨p, rfl, by simp, by simp⟩
      | cons q l =>
        obtain ⟨x, hx, _⟩ := coolest_spec s (q :: l) (by simp)
        rw [hl] at hx
        cases hx
    | some x =>
      have hne : l ≠ [] := by
        rintro rfl
        cases hl
      obtain ⟨y, hy, hm, hle⟩ := coolest_spec s l hne
      obtain rfl := Option.some.inj (hl.symm.trans hy)
      by_cases h : phTemp s p ≤ phTemp s x
      · refine ⟨p, if_pos h, by simp, fun q hq => ?_⟩
        rcases List.mem_cons.1 hq with rfl | hq
        · exact le_refl _
        · exact h.trans (hle q hq)
      · refine ⟨x, if_neg h, by simp [hm], fun q hq => ?_⟩
        rcases List.mem_cons.1 hq with rfl | hq
        · exact (not_le.1 h).le
        · exact hle q hq

theorem active_phasesIdle {l : List Nat} (hp : p ∈ l) : (phOf (phasesIdle s l) p).active = false := by
  unfold phasesIdle
  exact phOf_sweep (P := fun _ => True) (Q := fun x => x.active = false) hp (fun _ _ => trivial) (fun x _ => by split <;> rfl) (fun x _ => by split <;> rfl) trivial

theorem filter_one {l : List Nat} {f : Nat → Bool} (hn : l.Nodup) (hp : p ∈ l) (hf : ∀ q ∈ l, f q = decide (q = p)) : l.filter f = [p] := by
  rw [List.filter_congr hf]
  exact (List.filter_eq p).trans (by rw [List.count_eq_one_of_mem hn hp]; rfl)

theorem activePh_of (hi : t.img = s.img) (hp : p ∈ railPhases s r) (ha : (phOf t p).active = true) (ho : ∀ q ∈ railPhases s r, q ≠ p → (phOf t q).active = false) :
    activePh t r = [p] := by
  unfold activePh
  rw [railPhases_of_img hi]
  refine filter_one (railPhases_nodup s r) hp fun q hq => ?_
  by_cases h : q = p
  · rw [h, ha]; simp
  · rw [ho q hq h]; simp [h]

theorem railI_wrN_vsense {n : Nat} : railI (wrN s (Reg.CH_VSENSE r) n) r = railI s r := by
  unfold railI
  rw [rd_wrN_ne]
  show 0x120108 + 0x1000 * r ≠ 0x120110 + 0x1000 * r
  omega

theorem vtarget16_congr (e : Evolves { regs := true } s t) (hi : railI t r = railI s r) : vtarget16 t r = vtarget16 s r := by
  unfold vtarget16 vtarget ovLimit
  rw [hi, chOf_of_ch (e.ch_eq rfl), e.fq_eq rfl]
  simp only [aF_of_active (e.active_eq rfl)]

theorem dripEntry_results (rail : ChIx) (s : State) (h1 : isRail s rail.val = true) (h2 : railState s rail.val = .reg) (h3 : (chOf s rail.val).drip = .run)
    (h4 : aOn s (Reg.CH_CTRL rail.val) F.CH_CTRL_DRIP_EN = true) (h5 : wideRole s rail.val = 0) (h6 : removalOn s rail.val = false) (h7 : boosting s rail.val = false)
    (h8 : railI s rail.val < (aF s (Reg.CH_DRIP rail.val) F.CH_DRIP_ENTRY_I : Nat)) (h9 : assigned s rail.val ≠ []) :
    Runs (.dripEntry rail) s (fun t => (chOf t rail.val).drip = .burst ∧ activePh t rail.val = [(chOf t rail.val).dripPhase]
      ∧ (chOf t rail.val).dripPhase ∈ assigned s rail.val ∧ ∀ q ∈ assigned s rail.val, phTemp s (chOf t rail.val).dripPhase ≤ phTemp s q) := by
  obtain ⟨p, hc, hm, hle⟩ := coolest_spec s _ h9
  show ∃ t, execDripEntry rail s = .next t ∧ _
  unfold execDripEntry
  extract_lets r s1
  rw [if_pos ⟨h1, h2, h3, h4, h5, by rw [h6]; rfl, by rw [h7]; rfl, h8⟩, hc]
  refine ⟨_, rfl, ?_⟩
  have ha : ∀ q ∈ railPhases s r, (phOf s1 q).active = false := fun q hq => active_phasesIdle hq
  have e1 : Evolves { ph := true } s s1 := phasesIdle_evolves
  clear_value s1
  have e2 : Evolves { ph := true } s1 (setPh s1 p fun x => { x with active := true }) := setPh_evolves
  have hp2 := phOf_setPh (s := s1) p p fun x => { x with active := true }
  have hq2 : ∀ q ≠ p, _ := fun q hq => (phOf_setPh (s := s1) p q fun x => { x with active := true }).trans (if_neg (Ne.symm hq))
  rw [if_pos rfl] at hp2
  generalize (setPh s1 p fun x => { x with active := true }) = s2 at e2 hp2 hq2 ⊢
  have hc3 := chOf_setCh (s := s2) r r fun x => { x with drip := .burst, dripPhase := p, dripFrom := now s2, burstPer := 0, shedCnt := 0, addCnt := 0, vdither := 0 }
  rw [if_pos rfl] at hc3
  have e3 : Evolves { ch := true } s2 (setCh s2 r fun x => { x with drip := .burst, dripPhase := p, dripFrom := now s2, burstPer := 0, shedCnt := 0, addCnt := 0, vdither := 0 }) :=
    setCh_evolves
  generalize (setCh s2 r fun x => { x with drip := .burst, dripPhase := p, dripFrom := now s2, burstPer := 0, shedCnt := 0, addCnt := 0, vdither := 0 }) = s3 at e3 hc3 ⊢
  have e4 : Evolves { regs := true } s3 (bump s3 (Reg.CH_DRIP_CNT r) F.CH_DRIP_CNT_ENTRIES) := bump_evolves
  generalize bump s3 (Reg.CH_DRIP_CNT r) F.CH_DRIP_CNT_ENTRIES = s4 at e4 ⊢
  have hc4 : chOf s4 r = _ := (chOf_of_ch (e4.ch_eq rfl) r).trans hc3
  have hph (q : Nat) : phOf s4 q = phOf s2 q := (phOf_of_ph (e4.ph_eq rfl) q).trans (phOf_of_ph (e3.ph_eq rfl) q)
  have hi : s4.img = s.img := (e4.img_eq rfl).trans ((e3.img_eq rfl).trans ((e2.img_eq rfl).trans (e1.img_eq rfl)))
  have hd : (chOf s4 r).dripPhase = p := by rw [hc4]
  rw [hd]
  refine ⟨by rw [hc4], activePh_of hi (mem_railPhases_of_assigned hm) (by rw [hph, hp2]) fun q hq hne => ?_, hm, hle⟩
  rw [hph, hq2 q hne]
  exact ha q hq

theorem dripSleep_results (rail : ChIx) (mv : Nat) (s : State) (h1 : (chOf s rail.val).drip = .burst)
    (h2 : vtarget16 s rail.val + (aF s (Reg.CH_DRIP2 rail.val) F.CH_DRIP2_BAND_HI * 4 : Nat) ≤ mv) :
    Runs (.dripSleep rail mv) s (fun t => (chOf t rail.val).drip = .sleep ∧ (chOf t rail.val).burstI = railI s rail.val
      ∧ ((phOf s (chOf s rail.val).dripPhase).crowbar = false → (phOf t (chOf s rail.val).dripPhase).level = .mid)) := by
  show ∃ t, execDripSleep rail mv s = .next t ∧ _
  unfold execDripSleep
  extract_lets r s1 s2
  have e1 : Evolves { regs := true } s s1 := wrN_evolves
  have hi1 : railI s1 r = railI s r := railI_wrN_vsense
  have hv : vtarget16 s1 r = vtarget16 s r := vtarget16_congr e1 hi1
  have hc1 : chOf s1 r = chOf s r := chOf_of_ch (e1.ch_eq rfl) r
  have hp1 (q : Nat) : phOf s1 q = phOf s q := phOf_of_ph (e1.ph_eq rfl) q
  have e2 : Evolves { ph := true } s1 s2 := phasesMid_evolves
  have hl2 : (phOf s1 (chOf s1 r).dripPhase).crowbar = false → (phOf s2 (chOf s1 r).dripPhase).level = .mid := level_phasesMid (by simp)
  clear_value s2 s1
  rw [if_pos ⟨by rw [hc1]; exact h1, by rw [hv, aF_of_active (e1.active_eq rfl)]; exact h2⟩]
  refine ⟨_, rfl, ?_⟩
  have e3 : Evolves { ch := true } s2 (setCh s2 r fun x => { x with drip := .sleep, burstI := railI s2 r, burstPer := 0 }) := setCh_evolves
  have hc3 := chOf_setCh (s := s2) r r fun x => { x with drip := .sleep, burstI := railI s2 r, burstPer := 0 }
  rw [if_pos rfl] at hc3
  generalize (setCh s2 r fun x => { x with drip := .sleep, burstI := railI s2 r, burstPer := 0 }) = s3 at e3 hc3 ⊢
  have hi2 : railI s2 r = railI s r := by
    unfold railI
    rw [rd_of_regs (e2.regs_eq rfl)]
    exact hi1
  refine ⟨by rw [hc3], by rw [hc3]; exact hi2, fun hcr => ?_⟩
  rw [phOf_of_ph (e3.ph_eq rfl), ← hc1]
  exact hl2 (by rw [hp1, hc1]; exact hcr)

theorem dripWake_results (rail : ChIx) (mv : Nat) (s : State) (h1 : (chOf s rail.val).drip = .sleep)
    (h2 : (mv : Int) ≤ vtarget16 s rail.val - (aF s (Reg.CH_DRIP2 rail.val) F.CH_DRIP2_BAND_LO * 4 : Nat)) :
    Runs (.dripWake rail mv) s (fun t => (chOf t rail.val).drip = .burst ∧ phOf t (chOf s rail.val).dripPhase = { phOf s (chOf s rail.val).dripPhase with due := false }
      ∧ ∀ q, q ≠ (chOf s rail.val).dripPhase → phOf t q = phOf s q) := by
  show ∃ t, execDripWake rail mv s = .next t ∧ _
  unfold execDripWake
  extract_lets r s1 s2
  have e1 : Evolves { regs := true } s s1 := wrN_evolves
  have hv : vtarget16 s1 r = vtarget16 s r := vtarget16_congr e1 railI_wrN_vsense
  have hc1 : chOf s1 r = chOf s r := chOf_of_ch (e1.ch_eq rfl) r
  have hp1 (q : Nat) : phOf s1 q = phOf s q := phOf_of_ph (e1.ph_eq rfl) q
  have hp2 (q : Nat) : phOf s2 q = _ := phOf_setPh _ q _
  clear_value s2 s1
  rw [if_pos ⟨by rw [hc1]; exact h1, by rw [hv, aF_of_active (e1.active_eq rfl)]; exact h2⟩]
  refine ⟨_, rfl, by rw [chOf_setCh, if_pos rfl], ?_, fun q hq => ?_⟩
  · rw [phOf_of_ph (setCh_evolves.ph_eq rfl), hp2, hc1, if_pos rfl, hp1]
  · rw [phOf_of_ph (setCh_evolves.ph_eq rfl), hp2, hc1, if_neg (Ne.symm hq), hp1]

theorem drip_endRemoval : (endRemoval s r).ch = s.ch := endRemoval_evolves.ch_eq rfl

theorem active_endRemoval : (phOf (endRemoval s r) p).active = (phOf s p).active := by
  have h : Shows (fun s p => (phOf s p).active) s (endRemoval s r) := .forEach fun t q => shows_setPh (f := fun x => { x with cal := false }) fun _ => rfl
  exact congrFun h p

/-- The end of Drip mode. -/
theorem dripExit_results (hd : (chOf s r).drip ≠ .run) : (chOf (dripExit s r) r).drip = .run ∧ ∀ p ∈ assigned s r, (phOf (dripExit s r) p).active = true := by
  unfold dripExit
  extract_lets s1 s2
  have h1 : ∀ p ∈ assigned s r, (phOf s2 p).active = true := fun p hp => by
    rw [phOf_of_ph (bump_evolves.ph_eq rfl), phOf_of_ph (dripTime_evolves.ph_eq rfl)]
    exact active_allActive hp
  clear_value s2
  rw [if_neg hd]
  refine ⟨?_, fun p hp => ?_⟩
  · rw [chOf_of_ch drip_endRemoval, chOf_setCh, if_pos rfl]
  · rw [active_endRemoval, phOf_of_ph (setCh_evolves.ph_eq rfl)]
    exact h1 p hp

theorem dripExit_rdBut : RdBut [(Reg.CH_DRIP_TIME_LO 0, 0x1000, 0), (Reg.CH_DRIP_TIME_LO 0 + 4, 0x1000, 0), (Reg.CH_DRIP_CNT 0, 0x1000, 0)] s (dripExit s r) := by
  unfold dripExit
  extract_lets s1 s2
  have h1 : RdBut [(Reg.CH_DRIP_TIME_LO 0, 0x1000, 0), (Reg.CH_DRIP_TIME_LO 0 + 4, 0x1000, 0), (Reg.CH_DRIP_CNT 0, 0x1000, 0)] s s1 :=
    .trans (t := allActive s r) (.of_evolves allActive_evolves) dripTime_rdBut.mono
  have h2 : RdBut [(Reg.CH_DRIP_TIME_LO 0, 0x1000, 0), (Reg.CH_DRIP_TIME_LO 0 + 4, 0x1000, 0), (Reg.CH_DRIP_CNT 0, 0x1000, 0)] s1 s2 := bump_rdBut1.mono
  exact .ite .refl (h1.trans (h2.trans (.trans (.of_evolves setCh_evolves) (.of_evolves endRemoval_evolves))))

theorem assigned_of_ph (hi : t.img = s.img) (ha : t.active = s.active) (hp : t.ph = s.ph) : assigned t r = assigned s r := assigned_congr hi ha (faults_of_ph hp)

theorem dripBurstExit_results (rail : ChIx) (s : State) (h1 : (chOf s rail.val).drip = .burst)
    (h2 : aF s (Reg.CH_DRIP2 rail.val) F.CH_DRIP2_BURST_MAX ≤ (chOf s rail.val).burstPer) :
    Runs (.dripBurstExit rail) s (fun t => (chOf t rail.val).drip = .run ∧ flag t (Reg.CH_EVENT rail.val) F.CH_EVENT_BURST_EXIT = true
      ∧ ∀ p ∈ assigned s rail.val, (phOf t p).active = true) := by
  show ∃ t, execDripBurstExit rail s = .next t ∧ _
  unfold execDripBurstExit
  extract_lets r
  rw [if_pos ⟨h1, h2⟩]
  refine ⟨_, rfl, ?_⟩
  have e1 : Evolves { regs := true } s (raise s (Reg.CH_EVENT r) F.CH_EVENT_BURST_EXIT) := raise_evolves
  have hf : flag (raise s (Reg.CH_EVENT r) F.CH_EVENT_BURST_EXIT) (Reg.CH_EVENT r) F.CH_EVENT_BURST_EXIT = true := flag_raise _ _ _ (by decide)
  generalize raise s (Reg.CH_EVENT r) F.CH_EVENT_BURST_EXIT = s1 at e1 hf ⊢
  obtain ⟨k1, k2⟩ := dripExit_results (s := s1) (r := r) (by rw [chOf_of_ch (e1.ch_eq rfl), show (chOf s r).drip = .burst from h1]; decide)
  refine ⟨k1, (dripExit_rdBut.flag_eq _ (misses_fin (g := Reg.CH_EVENT) (by decide +kernel) rail)).trans hf, fun p hp => k2 p ?_⟩
  rw [assigned_of_ph (e1.img_eq rfl) (e1.active_eq rfl) (e1.ph_eq rfl)]
  exact hp

/-! ## Widened rails -/

/-- Which members of a widened rail are left, and whether it has lost one. -/
def lossOf (s : State) (r : Nat) : Bool × List Nat := ((chOf s r).wideLoss, (chOf s r).memberAct.map Prod.fst)

theorem lossOf_of_ch (h : t.ch = s.ch) : Shows lossOf s t := by
  funext r
  unfold lossOf
  rw [chOf_of_ch h]

theorem lossOf_setCh {f : ChSt → ChSt} (h1 : ∀ x, (f x).wideLoss = x.wideLoss) (h2 : ∀ x, (f x).memberAct.map Prod.fst = x.memberAct.map Prod.fst) :
    Shows lossOf s (setCh s q f) := by
  funext r
  unfold lossOf
  rw [chOf_setCh]
  split
  next h => rw [h1, h2, h]
  next => rfl

theorem sweep_ch {l : List Nat} {f : State → Nat → PhSt → PhSt} : (forEach l s fun s p => setPh s p (f s p)).ch = s.ch :=
  (Evolves.forEach (W := { ph := true }) fun _ _ => setPh_evolves).ch_eq rfl

theorem lossOf_schedGrow : Shows lossOf s (schedGrow s r) := by
  unfold schedGrow
  extract_lets l s1
  exact .both .refl (.trans (t := s1) (lossOf_setCh (fun _ => rfl) fun _ => rfl) (lossOf_of_ch sweep_ch))

theorem lossOf_allActive : Shows lossOf s (allActive s r) := by
  unfold allActive
  extract_lets s1 s2
  exact .trans (t := s1) (lossOf_of_ch sweep_ch) (.trans (t := s2) (.both (lossOf_setCh (fun _ => rfl) fun x => by simp [Function.comp_def]) .refl) lossOf_schedGrow)

theorem memberGone_results {pos : Nat} (hr : r < 8) (h : (chOf s r).memberAct.any (fun p => p.1 == pos) = true) :
    (chOf (memberGone s r pos) r).wideLoss = true ∧ (∀ x ∈ (chOf (memberGone s r pos) r).memberAct, x.1 ≠ pos)
      ∧ (∀ p ∈ assigned s r, (phOf (memberGone s r pos) p).active = true) ∧ flag (memberGone s r pos) (Reg.CH_EVENT r) F.CH_EVENT_WIDE_LOSS = true := by
  unfold memberGone
  extract_lets s1 s2 s3
  rw [if_pos h]
  have e1 : Evolves { ch := true } s s1 := setCh_evolves
  have hl1 : lossOf s1 r = (true, (tabErase (chOf s r).memberAct pos).map Prod.fst) := by
    unfold lossOf
    rw [chOf_setCh, if_pos rfl]
  have ha2 : ∀ p ∈ assigned s r, (phOf s2 p).active = true := fun p hp => by
    rw [show phOf s2 p = phOf (allActive s1 r) p from phOf_of_ph (setCh_evolves.ph_eq rfl) p]
    exact active_allActive (by rw [assigned_of_ph (e1.img_eq rfl) (e1.active_eq rfl) (e1.ph_eq rfl)]; exact hp)
  have hl2 : Shows lossOf s1 s2 := lossOf_allActive.trans (lossOf_setCh (fun _ => rfl) fun _ => rfl)
  have e3 : Evolves { regs := true } s2 s3 := raise_evolves
  have hf3 : flag s3 (Reg.CH_EVENT r) F.CH_EVENT_WIDE_LOSS = true := flag_raise _ _ _ (by decide)
  clear_value s3 s2
  have e4 : Evolves { regs := true, drain := true, recd := true } s3 (record s3 .control 0x08 0x03 r pos 0 (now s3)) := record_evolves
  have hl : lossOf (record s3 .control 0x08 0x03 r pos 0 (now s3)) r = (true, (tabErase (chOf s r).memberAct pos).map Prod.fst) :=
    (congrFun (hl2.trans (.trans (lossOf_of_ch (e3.ch_eq rfl)) (lossOf_of_ch (e4.ch_eq rfl)))).eq r).trans hl1
  have hk : flag (record s3 .control 0x08 0x03 r pos 0 (now s3)) (Reg.CH_EVENT r) F.CH_EVENT_WIDE_LOSS = flag s3 (Reg.CH_EVENT r) F.CH_EVENT_WIDE_LOSS :=
    record_rdBut.flag_eq _ (misses_fin (g := Reg.CH_EVENT) (by decide +kernel) (⟨r, hr⟩ : Fin 8))
  generalize record s3 .control 0x08 0x03 r pos 0 (now s3) = s4 at e4 hl hk ⊢
  refine ⟨congrArg Prod.fst hl, fun x hx he => ?_, fun p hp => ?_, hk.trans hf3⟩
  · have hm : x.1 ∈ (tabErase (chOf s r).memberAct pos).map Prod.fst := by
      rw [← show (chOf s4 r).memberAct.map Prod.fst = (tabErase (chOf s r).memberAct pos).map Prod.fst from congrArg Prod.snd hl]
      exact List.mem_map_of_mem hx
    obtain ⟨y, hy, hxy⟩ := List.mem_map.1 hm
    exact ((mem_tabErase _ _ _).1 hy).2 (hxy.trans he)
  · rw [phOf_of_ph (e4.ph_eq rfl), phOf_of_ph (e3.ph_eq rfl)]
    exact ha2 p hp

theorem memberLoss_results (rail : ChIx) (pos : Fin 4) (s : State) (h1 : wideRole s rail.val = 1)
    (h2 : (chOf s rail.val).memberAct.any (fun p => p.1 == pos.val) = true) :
    Runs (.memberLoss rail pos) s (fun t => (chOf t rail.val).wideLoss = true ∧ (∀ x ∈ (chOf t rail.val).memberAct, x.1 ≠ pos.val)
      ∧ (∀ p ∈ assigned s rail.val, (phOf t p).active = true) ∧ flag t (Reg.CH_EVENT rail.val) F.CH_EVENT_WIDE_LOSS = true) := by
  refine ⟨memberGone s rail.val pos.val, ?_, memberGone_results rail.isLt h2⟩
  show execMemberLoss rail pos s = _
  unfold execMemberLoss
  rw [if_pos h1]

theorem dutyWordLoss_results (chan : ChIx) (s : State) (h1 : wideRole s chan.val = 2) (h2 : running s (railOf s chan.val) = true)
    (h3 : (chOf s (railOf s chan.val)).wideLoss = false) (h4 : railOf s chan.val < 8) :
    Runs (.dutyWordLoss chan) s (fun t => (chOf t (railOf s chan.val)).wideLoss = true ∧ flag t (Reg.CH_EVENT (railOf s chan.val)) F.CH_EVENT_WIDE_LOSS = true
      ∧ ∀ p ∈ railPhases s (railOf s chan.val), (phOf s p).crowbar = false → (phOf t p).level = .mid ∧ (phOf t p).widened = true) := by
  refine ⟨dutyLost s chan.val, rfl, ?_⟩
  unfold dutyLost
  extract_lets r s1 s2 s3
  rw [if_pos ⟨h1, h2, by rw [show (chOf s r).wideLoss = false from h3]; rfl⟩]
  have hp1 : ∀ p ∈ railPhases s r, (phOf s p).crowbar = false → (phOf s1 p).level = .mid ∧ (phOf s1 p).widened = true := fun p hp hc =>
    phOf_sweep (P := fun x => x.crowbar = false) (Q := fun x => x.level = .mid ∧ x.widened = true) hp
      (fun x hx => by rw [if_neg (by rw [hx]; decide)]; exact hx) (fun x hx => by rw [if_neg (by rw [hx]; decide)]; exact ⟨rfl, rfl⟩)
      (fun x hx => by split; exacts [hx, ⟨rfl, rfl⟩]) hc
  clear_value s1
  have e2 : Evolves { ch := true } s1 s2 := setCh_evolves
  have hc2 : (chOf s2 r).wideLoss = true := by rw [chOf_setCh, if_pos rfl]
  have e3 : Evolves { regs := true } s2 s3 := raise_evolves
  have hf3 : flag s3 (Reg.CH_EVENT r) F.CH_EVENT_WIDE_LOSS = true := flag_raise _ _ _ (by decide)
  clear_value s3 s2
  refine ⟨?_, ?_, fun p hp hc => ?_⟩
  · rw [chOf_of_ch (record_evolves.ch_eq rfl), chOf_of_ch (e3.ch_eq rfl)]
    exact hc2
  · exact (record_rdBut.flag_eq _ (misses_fin (g := Reg.CH_EVENT) (by decide +kernel) (⟨r, h4⟩ : Fin 8))).trans hf3
  · rw [phOf_of_ph (record_evolves.ph_eq rfl), phOf_of_ph (e3.ph_eq rfl), phOf_of_ph (e2.ph_eq rfl)]
    exact hp1 p hp hc

/-- What a member takes from its master's duty word. -/
def dutyWord (s : State) (r : Nat) : Nat × Bool := ((chOf s r).duty, (chOf s r).masterOk)

theorem dutyWord_of_ch (h : t.ch = s.ch) : Shows dutyWord s t := by
  funext r
  unfold dutyWord
  rw [chOf_of_ch h]

/-- The phases that a calibration has taken out of service. -/
def cals (s : State) (p : Nat) : Bool := (phOf s p).cal

theorem cals_setPh {f : PhSt → PhSt} (hf : ∀ x, (f x).cal = x.cal) : Shows cals s (setPh s p f) := shows_setPh hf

theorem cals_schedGrow : Shows cals s (schedGrow s r) := by
  unfold schedGrow
  extract_lets l s1
  exact .both .refl (.trans (t := s1) (shows_ph (setCh_evolves.ph_eq rfl)) (.forEach fun _ _ => cals_setPh fun _ => rfl))

theorem cals_shareTo {n : Nat} : Shows cals s (shareTo s r n) := by
  unfold shareTo
  refine .both (.trans (.forEach fun _ _ => ?_) cals_schedGrow) (.forEach fun _ _ => ?_)
  · unfold addOne
    split
    · exact cals_setPh fun _ => rfl
    · exact .refl
  · unfold shedOne
    split
    · exact cals_setPh fun _ => by split <;> rfl
    · exact .refl

theorem dutyWord_schedGrow : Shows dutyWord s (schedGrow s r) := by
  unfold schedGrow
  extract_lets l s1
  refine .both .refl (.trans (t := s1) ?_ (dutyWord_of_ch sweep_ch))
  funext q
  unfold dutyWord
  rw [chOf_setCh]
  split
  next h => rw [h]
  next => rfl

theorem dutyWord_shareTo {n : Nat} : Shows dutyWord s (shareTo s r n) := by
  unfold shareTo
  refine .both (.trans (.forEach fun _ _ => ?_) dutyWord_schedGrow) (.forEach fun _ _ => ?_)
  · exact dutyWord_of_ch (addOne_evolves.ch_eq rfl)
  · exact dutyWord_of_ch (shedOne_evolves.ch_eq rfl)

theorem removalOn_congr (hi : t.img = s.img) (hc : Shows cals s t) : removalOn t r = removalOn s r := by
  unfold removalOn
  rw [railPhases_of_img hi]
  exact List.any_congr rfl fun p => congrFun hc.eq p

theorem removalOn_endRemoval : removalOn (endRemoval s r) r = false := by
  unfold removalOn
  rw [railPhases_of_img (endRemoval_evolves.img_eq rfl), List.any_eq_false]
  intro p hp
  rw [show (phOf (endRemoval s r) p).cal = false from
    phOf_sweep (P := fun _ => True) (Q := fun x => x.cal = false) hp (fun _ _ => trivial) (fun _ _ => rfl) (fun _ _ => rfl) trivial]
  decide

theorem fastDuty_results (chan : ChIx) (duty : Fin 262144) (n : Fin 128) (boost regok : Bool) (s : State) (h1 : wideRole s chan.val = 2)
    (h2 : switching s (railOf s chan.val) = true) (h3 : (chOf s (railOf s chan.val)).wideLoss = false) (h4 : s.tvl.wideDown.contains (widePos s chan.val + 6) = false) :
    Runs (.fastDuty chan duty n boost regok) s (fun t => (chOf t (railOf s chan.val)).duty = duty.val * 16
      ∧ (chOf t (railOf s chan.val)).masterOk = (regok && !boost) ∧ ((activePh s (railOf s chan.val)).length < n.val → removalOn t (railOf s chan.val) = false)) := by
  show ∃ t, execFastDuty chan duty n boost regok s = .next t ∧ _
  unfold execFastDuty
  extract_lets r s1 s2
  rw [if_pos ⟨h1, h2, by rw [show (chOf s r).wideLoss = false from h3]; rfl, by rw [h4]; rfl⟩]
  refine ⟨_, rfl, ?_⟩
  have e1 : Evolves { ch := true } s s1 := setCh_evolves
  have hd1 : dutyWord s1 r = (duty.val * 16, regok && !boost) := by
    unfold dutyWord
    rw [chOf_setCh, if_pos rfl]
  have ha1 : activePh s1 r = activePh s r := by
    unfold activePh
    rw [railPhases_of_img (e1.img_eq rfl)]
    exact List.filter_congr fun p _ => by rw [phOf_of_ph (e1.ph_eq rfl)]
  have hd2 : Shows dutyWord s1 s2 := .both (dutyWord_of_ch (endRemoval_evolves.ch_eq rfl)) .refl
  have hr2 : (activePh s r).length < n.val → removalOn s2 r = false := fun h => by
    unfold s2
    rw [if_pos (by rw [ha1]; exact h)]
    exact removalOn_endRemoval
  clear_value s2 s1
  have hd : dutyWord (shareTo s2 r n.val) r = _ := (congrFun (hd2.trans dutyWord_shareTo).eq r).trans hd1
  have hr : removalOn (shareTo s2 r n.val) r = removalOn s2 r := removalOn_congr (shareTo_evolves.img_eq rfl) cals_shareTo
  exact ⟨congrArg Prod.fst hd, congrArg Prod.snd hd, fun h => hr.trans (hr2 h)⟩

theorem fastIrep_results (chan : ChIx) (pos : Fin 4) (amps : Int) (s : State) (h1 : wideRole s chan.val = 1)
    (h2 : (memberPos s (railOf s chan.val)).contains pos.val = true) (h3 : s.tvl.wideDown.contains (pos.val + 6) = false) :
    Runs (.fastIrep chan pos amps) s (fun t => tabGet 0 (chOf t (railOf s chan.val)).memberCur pos.val = clampI (-524288) 524287 amps ∧ t.ph = s.ph) := by
  show ∃ t, execFastIrep chan pos amps s = .next t ∧ _
  unfold execFastIrep
  extract_lets r old i s1
  rw [if_pos ⟨h1, h2, by rw [h3]; rfl⟩]
  have hc1 : tabGet 0 (chOf s1 r).memberCur pos.val = i := by
    rw [chOf_setCh, if_pos rfl]
    exact (tabGet_tabSet _ _ _ _ _).trans (if_pos rfl)
  have e1 : Evolves { ch := true } s s1 := setCh_evolves
  clear_value s1
  refine ⟨_, rfl, ?_, (wrN_evolves.ph_eq rfl).trans (e1.ph_eq rfl)⟩
  rw [chOf_of_ch (wrN_evolves.ch_eq rfl)]
  exact hc1

/-- Settles O30: Drip mode's entry, band edges and ends, and a widened rail's losses and reports, each from what its command writes. -/
theorem dripAndWidenedRailResults : Obligations.DripAndWidenedRailResults := by
  unfold Obligations.DripAndWidenedRailResults
  exact ⟨⟨dripEntry_results, dripSleep_results, dripWake_results, dripBurstExit_results⟩, memberLoss_results, dutyWordLoss_results, fastDuty_results, fastIrep_results⟩
end

end Sys2Proof.Machine
end

section
/-! PROOF. A rail that stands twice in the discharge queue (O32). -/

namespace Sys2Proof.Machine
open Host
set_option Elab.async false

/-- The node in RUN with rail 0 twice in its discharge queue. -/
def twiceQueued : State :=
  { Tests.runs 0 with top := { (Tests.runs 0).top with dis := [{ rail := 0, maySwitch := true }, { rail := 0, maySwitch := true }] } }

/-- An overvoltage of rail 0 takes its first entry off the queue and begins the discharge of its second, so the rail does not stay latched. -/
theorem crowbar_twiceQueued : twiceQueued.top.state = .run ∧ railOf twiceQueued (0 : ChIx).val = 0
    ∧ strapCeiling twiceQueued * 16 < 100000 ∧ latchBit twiceQueued 0 0 = false
    ∧ (match execOvervoltageCrowbar 0 100000 twiceQueued with
      | .next t => railState t 0 == .latched
      | _ => true) = false := by
  decide +kernel

/-- Refutes O32: the clause on overvoltage fails for a rail that the discharge queue names twice, since the second entry takes the rail from
latched to discharging. -/
theorem not_protectionResults : ¬ Obligations.ProtectionResults := by
  unfold Obligations.ProtectionResults
  rintro ⟨⟨-, -, -, -, h⟩, -⟩
  obtain ⟨hstate, hrail, hv, hlatch, hafter⟩ := crowbar_twiceQueued
  have hrun := h 0 100000 twiceQueued
  dsimp only at hrun
  rw [hrail] at hrun
  obtain ⟨t, ht, -, hlatched, -⟩ := hrun (by rw [hstate]; decide) (by rw [hstate]; decide) (by decide) (.inr hv) hlatch
  have ht' : execOvervoltageCrowbar 0 100000 twiceQueued = .next t := ht
  rw [ht'] at hafter
  have hnot : (railState t 0 == .latched) = false := hafter
  rw [hlatched] at hnot
  cases hnot

end Sys2Proof.Machine
end

section
/-! PROOF. Stage faults, and the clearing of channel and thermal latches (O31). -/

namespace Sys2Proof.Machine
open Host
set_option Elab.async false

/-! ## Registers that a latch and a stage fault leave alone -/

theorem protEntry_rdBut {s unit cause what} : RdBut [(Reg.REC_EVENT, 0, 0), (Reg.REC_ARB_DROP 0, 0, 0), (Reg.REC_ARB_DROP 1, 0, 0),
    (Reg.REC_ARB_DROP 2, 0, 0), (Reg.TOP_DRAIN_CNT 8, 0, 0), (Reg.TOP_DRAIN_STATUS, 0, 0), (Reg.TB_CAP_FLAGS, 0, 0), (Reg.TB_CAP_LO 0, 8, 16),
    (Reg.TB_CAP_HI 0, 8, 16), (Reg.TB_CAP_VALID, 0, 0)] s (protEntry s unit cause what) := by
  unfold protEntry
  exact .trans record_rdBut.mono capture_rdBut.mono

theorem latchSet_rdBut {s kind r what} : RdBut [(Reg.PROT_CH_LATCH, 0, 0), (Reg.REC_EVENT, 0, 0), (Reg.REC_ARB_DROP 0, 0, 0), (Reg.REC_ARB_DROP 1,
    0, 0), (Reg.REC_ARB_DROP 2, 0, 0), (Reg.TOP_DRAIN_CNT 8, 0, 0), (Reg.TOP_DRAIN_STATUS, 0, 0), (Reg.TB_CAP_FLAGS, 0, 0), (Reg.TB_CAP_LO 0, 8,
    16), (Reg.TB_CAP_HI 0, 8, 16), (Reg.TB_CAP_VALID, 0, 0), (Reg.PROT_STATUS, 0, 0)] s (latchSet s kind r what) := by
  unfold latchSet
  exact .trans (.ite .refl (.trans (.trans ((raise_rdBut0 (off := Reg.PROT_CH_LATCH)).mono) protEntry_rdBut.mono) (.of_evolves lifeUp_evolves)))
    (.trans (.trans (.of_evolves pmRefresh_evolves) ((lower_rdBut0 (off := Reg.PROT_STATUS)).mono))
       (.trans (.of_evolves protOrder_evolves) (.of_evolves setCh_evolves)))

theorem disDone_rdBut {s byEn} : RdBut [(Reg.TOP_START_STATUS, 0, 0), (Reg.REC_EVENT, 0, 0), (Reg.REC_ARB_DROP 0, 0, 0), (Reg.REC_ARB_DROP 1, 0,
    0), (Reg.REC_ARB_DROP 2, 0, 0), (Reg.TOP_DRAIN_CNT 8, 0, 0), (Reg.TOP_DRAIN_STATUS, 0, 0)] s (disDone s byEn) := by
  unfold disDone
  exact .ite
    (.trans (.trans (.of_evolves (W := { top := true }) .set_top) ((setF_rdBut0 (off := Reg.TOP_START_STATUS)).mono))
       (.ite enterState_rdBut.mono .refl)) (.ite (.trans (.of_evolves (W := { top := true }) .set_top) enterState_rdBut.mono) .refl)

theorem disDrop_rdBut {s r} : RdBut [(Reg.TOP_START_STATUS, 0, 0), (Reg.REC_EVENT, 0, 0), (Reg.REC_ARB_DROP 0, 0, 0), (Reg.REC_ARB_DROP 1, 0, 0),
    (Reg.REC_ARB_DROP 2, 0, 0), (Reg.TOP_DRAIN_CNT 8, 0, 0), (Reg.TOP_DRAIN_STATUS, 0, 0), (Reg.CH_DRIP_TIME_LO 0, 0x1000, 0), (Reg.CH_DRIP_TIME_LO
    0 + 4, 0x1000, 0), (Reg.CH_CAL_CNT 0, 0x1000, 0), (Reg.FQ_CNT2, 0, 0), (Reg.FQ_EVENT, 0, 0), (Reg.TOP_DRAIN_CNT 4, 0, 0), (Reg.FQ_CNT, 0, 0)] s
    (disDrop s r) := by
  unfold disDrop
  split
  · exact .refl
  · split
    · extract_lets t1 s1
      refine .trans (t := s1) (.of_evolves (W := { top := true }) .set_top) ?_
      clear_value s1
      split
      · exact disDone_rdBut.mono
      · exact disHead_rdBut.mono
    · exact .of_evolves (W := { top := true }) .set_top

theorem clearRefused_rdBut {s unit cause} : RdBut [(Reg.PROT_EVENT, 0, 0), (Reg.REC_EVENT, 0, 0), (Reg.REC_ARB_DROP 0, 0, 0), (Reg.REC_ARB_DROP 1,
    0, 0), (Reg.REC_ARB_DROP 2, 0, 0), (Reg.TOP_DRAIN_CNT 8, 0, 0), (Reg.TOP_DRAIN_STATUS, 0, 0)] s (clearRefused s unit cause) := by
  unfold clearRefused
  exact .trans ((raise_rdBut0 (off := Reg.PROT_EVENT)).mono) record_rdBut.mono

theorem railOff_rdBut {s r} : RdBut [(Reg.PROT_STATUS, 0, 0)] s (railOff s r) := by
  unfold railOff
  exact .trans (.of_evolves phasesIdle_evolves)
    (.trans (.of_evolves senLow_evolves)
       (.trans (.ite (.trans (.of_evolves pmRefresh_evolves) ((lower_rdBut0 (off := Reg.PROT_STATUS)).mono)) .refl) (.of_evolves setCh_evolves)))



theorem stageEntry_rdBut {s unit reading} : RdBut [(Reg.REC_EVENT, 0, 0), (Reg.REC_ARB_DROP 0, 0, 0), (Reg.REC_ARB_DROP 1, 0, 0), (Reg.REC_ARB_DROP
    2, 0, 0), (Reg.TOP_DRAIN_CNT 8, 0, 0), (Reg.TOP_DRAIN_STATUS, 0, 0)] s (stageEntry s unit reading) := by
  unfold stageEntry
  exact record_rdBut.mono

theorem softStart_rdBut {s r} : RdBut [(Reg.REC_EVENT, 0, 0), (Reg.REC_ARB_DROP 0, 0, 0), (Reg.REC_ARB_DROP 1, 0, 0), (Reg.REC_ARB_DROP 2, 0, 0),
    (Reg.TOP_DRAIN_CNT 8, 0, 0), (Reg.TOP_DRAIN_STATUS, 0, 0)] s (softStart s r) := by
  unfold softStart
  exact .ite .refl
    (.trans (.of_evolves senHigh_evolves)
       (.trans (.forEach fun _ _ => (.of_evolves setPh_evolves))
          (.trans (.of_evolves setCh_evolves)
             (.trans (.trans (.of_evolves allActive_evolves) (.of_evolves newPeriod_evolves))
                (.trans (.forEach fun _ _ => (.of_evolves fabClear_evolves))
                   (.trans (.of_evolves setCh_evolves) (.ite enterState_rdBut.mono (.ite enterState_rdBut.mono .refl))))))))

theorem beginStage_rdBut {s k} : RdBut [(Reg.REC_EVENT, 0, 0), (Reg.REC_ARB_DROP 0, 0, 0), (Reg.REC_ARB_DROP 1, 0, 0), (Reg.REC_ARB_DROP 2, 0, 0),
    (Reg.TOP_DRAIN_CNT 8, 0, 0), (Reg.TOP_DRAIN_STATUS, 0, 0)] s (beginStage s k) := by
  unfold beginStage
  exact .trans (.forEach fun _ _ => softStart_rdBut.mono) (.of_evolves (W := { top := true }) .set_top)

theorem maybeRun_rdBut {s from_} : RdBut [(Reg.REC_EVENT, 0, 0), (Reg.REC_ARB_DROP 0, 0, 0), (Reg.REC_ARB_DROP 1, 0, 0), (Reg.REC_ARB_DROP 2, 0,
    0), (Reg.TOP_DRAIN_CNT 8, 0, 0), (Reg.TOP_DRAIN_STATUS, 0, 0), (Reg.TOP_START_STATUS, 0, 0)] s (maybeRun s from_) := by
  unfold maybeRun
  exact .ite (.trans enterState_rdBut.mono ((setF_rdBut0 (off := Reg.TOP_START_STATUS)).mono)) .refl

theorem stagesDue_rdBut {n s} : RdBut [(Reg.REC_EVENT, 0, 0), (Reg.REC_ARB_DROP 0, 0, 0), (Reg.REC_ARB_DROP 1, 0, 0), (Reg.REC_ARB_DROP 2, 0, 0),
    (Reg.TOP_DRAIN_CNT 8, 0, 0), (Reg.TOP_DRAIN_STATUS, 0, 0)] s (stagesDue n s) := by
  induction n generalizing s with
  | zero => exact .refl
  | succ n ih =>
    unfold stagesDue
    split
    · exact .refl
    · exact .ite (beginStage_rdBut.trans ih) .refl

theorem startAdvance_rdBut {s done} : RdBut [(Reg.REC_EVENT, 0, 0), (Reg.REC_ARB_DROP 0, 0, 0), (Reg.REC_ARB_DROP 1, 0, 0), (Reg.REC_ARB_DROP 2, 0, 0),
    (Reg.TOP_DRAIN_CNT 8, 0, 0), (Reg.TOP_DRAIN_STATUS, 0, 0), (Reg.TOP_START_STATUS, 0, 0)] s (startAdvance s done) := by
  unfold startAdvance
  exact .trans (.ite (.of_evolves (W := { top := true }) .set_top) .refl) (.trans stagesDue_rdBut.mono maybeRun_rdBut)

theorem latchRail_rdBut {s kind r what} : RdBut [(Reg.PROT_CH_LATCH, 0, 0), (Reg.REC_EVENT, 0, 0), (Reg.REC_ARB_DROP 0, 0, 0), (Reg.REC_ARB_DROP 1,
    0, 0), (Reg.REC_ARB_DROP 2, 0, 0), (Reg.TOP_DRAIN_CNT 8, 0, 0), (Reg.TOP_DRAIN_STATUS, 0, 0), (Reg.TB_CAP_FLAGS, 0, 0), (Reg.TB_CAP_LO 0, 8,
    16), (Reg.TB_CAP_HI 0, 8, 16), (Reg.TB_CAP_VALID, 0, 0), (Reg.PROT_STATUS, 0, 0), (Reg.CH_DRIP_TIME_LO 0, 0x1000, 0), (Reg.CH_DRIP_TIME_LO 0 +
    4, 0x1000, 0), (Reg.CH_CAL_CNT 0, 0x1000, 0), (Reg.FQ_CNT2, 0, 0), (Reg.FQ_EVENT, 0, 0), (Reg.TOP_DRAIN_CNT 4, 0, 0), (Reg.FQ_CNT, 0, 0),
    (Reg.TOP_START_STATUS, 0, 0), (Reg.TVL_GEVENT, 0, 0), (Reg.TOP_DRAIN_CNT 1, 0, 0), (Reg.SEC_IMG_STATUS, 0, 0), (Reg.SEC_IMG_FAIL_INFO, 0, 0),
    (Reg.TOP_COMMIT_STATUS, 0, 0)] s (latchRail s kind r what) := by
  unfold latchRail
  exact .trans latchSet_rdBut.mono
    (.trans
       (.ite
          (.trans (.ite leaveReg_rdBut.mono .refl)
             (.trans (.of_evolves crowbarOn_evolves)
                (.trans ((raise_rdBut0 (off := Reg.PROT_STATUS)).mono) (.trans (.of_evolves setCh_evolves) disDrop_rdBut.mono))))
          (.ite .refl (.ite discharge_rdBut.mono (.of_evolves setCh_evolves))))
       (.ite (.trans (.ite .refl originTrip_rdBut.mono) (.trans (.of_evolves (W := { top := true }) .set_top) haltSwitched_rdBut.mono))
          (startAdvance_rdBut.mono)))

section
variable {s t u : State} {a b : Bool} {p q r : Nat}

/-! ## A faulted phase stays out -/

/-- A faulted phase, inactive where `a` says so, and at MID with no crowbar where `b` says so. -/
def Out (a b : Bool) (x : PhSt) : Prop := x.fault = true ∧ (a = true → x.active = false) ∧ (b = true → x.crowbar = false ∧ x.level = .mid)

/-- A faulted phase stays as it is between two states. -/
def OutStays (a b : Bool) (p : Nat) (s t : State) : Prop := Out a b (phOf s p) → Out a b (phOf t p)

theorem OutStays.refl : OutStays a b p s s := id

theorem OutStays.trans (h : OutStays a b p s t) (k : OutStays a b p t u) : OutStays a b p s u := k ∘ h

theorem OutStays.ite {c : Prop} [Decidable c] (h : OutStays a b p s t) (k : OutStays a b p s u) : OutStays a b p s (if c then t else u) := by
  split
  exacts [h, k]

theorem OutStays.forEach {α : Type} {l : List α} {f : State → α → State} (h : ∀ t x, OutStays a b p t (f t x)) : OutStays a b p s (forEach l s f) :=
  fun ho => forEach_keeps (Q := fun t => Out a b (phOf t p)) h ho

theorem OutStays.of_evolves {W : Blocks} (h : Evolves W s t) (hW : W.ph = false := by rfl) : OutStays a b p s t := by
  unfold OutStays
  rw [phOf_of_ph (h.ph_eq hW)]
  exact id

theorem OutStays.setPh {f : PhSt → PhSt} (h : ∀ x, Out a b x → Out a b (f x)) : OutStays a b p s (setPh s q f) := by
  unfold OutStays
  rw [phOf_setPh]
  split
  next he => rw [he]; exact h _
  next => exact id

theorem Out.toMid {x : PhSt} (h : Out a b x) : Out a b (toMid x) := ⟨h.1, h.2.1, fun hb => ⟨(h.2.2 hb).1, rfl⟩⟩

theorem Out.idle {x : PhSt} (h : Out a b x) : Out a b { x with active := false } := ⟨h.1, fun _ => rfl, h.2.2⟩

theorem outStays_phasesMid {l : List Nat} : OutStays a b p s (phasesMid s l) := .forEach fun _ _ => .setPh fun x h => by split; exacts [h, h.toMid]

theorem outStays_schedGrow : OutStays a b p s (schedGrow s r) := by
  unfold schedGrow
  extract_lets l s2
  exact .ite .refl (.trans (t := s2) (.of_evolves setCh_evolves) (.forEach fun _ _ => .setPh fun _ h => h))

/-- A faulted phase is none of the assigned phases that become active. -/
theorem outStays_allActive : OutStays a b p s (allActive s r) := by
  unfold allActive
  extract_lets s1 s2
  have h1 : OutStays a b p s s1 := fun h => by
    have hp : phOf s1 p = phOf s p := by
      refine Shows.eq (g := fun s => phOf s p) (.forEach_mem fun t q hq => ?_)
      show phOf (Machine.setPh t q _) p = phOf t p
      rw [phOf_setPh, if_neg]
      rintro rfl
      have hf : (phOf s q).fault = false := by
        have := (List.mem_filter.1 hq).2
        simp only [Bool.and_eq_true, Bool.not_eq_true'] at this
        exact this.2
      rw [h.1] at hf
      cases hf
    rw [hp]
    exact h
  have h2 : OutStays a b p s1 s2 := .ite (.of_evolves setCh_evolves) .refl
  exact h1.trans (h2.trans outStays_schedGrow)

theorem outStays_boostStop : OutStays a b p s (boostStop s r) := by
  unfold boostStop
  split
  · exact .refl
  · extract_lets gap s1 s2 s3
    have h1 : OutStays a b p s s1 := .forEach fun _ _ => .setPh fun x h => by
      split
      · exact h
      next hm => exact ⟨h.1, h.2.1, fun hb => absurd (h.2.2 hb).2 (by simp at hm; exact hm.2)⟩
    have h3 : OutStays a b p s1 s3 := .trans (t := s2) (.of_evolves setBoost_evolves) (.ite (.of_evolves boostBlocks_evolves) .refl)
    exact h1.trans (h3.trans (.trans outStays_allActive (.of_evolves restartShed_evolves)))

theorem outStays_calDrop : OutStays a b p s (calDrop s r) := by
  unfold calDrop
  extract_lets c s1 s2
  exact .ite (.trans (t := s2) (.trans (t := s1) (.of_evolves bump_evolves) (.forEach fun _ _ => .setPh fun _ h => h))
    (.of_evolves (W := { est := true }) .set_est)) .refl

theorem outStays_leaveReg : OutStays a b p s (leaveReg s r) := by
  unfold leaveReg
  extract_lets was s1 s2 s3 s4
  have h2 : OutStays a b p s1 s2 := .trans (t := dripTime s1 r) (.of_evolves dripTime_evolves) (.forEach fun _ _ => .of_evolves armDie_evolves)
  have h4 : OutStays a b p s1 s4 := h2.trans (.trans (t := s3) (.of_evolves setCh_evolves) outStays_calDrop)
  exact .trans (t := s1) outStays_boostStop (.ite (h4.trans (.trans (.of_evolves setCh_evolves) (.of_evolves fqLeaveReg_evolves))) .refl)

theorem outStays_disHead : OutStays a b p s (disHead s) := by
  unfold disHead
  split
  · exact .refl
  · exact .trans (.trans outStays_leaveReg (.of_evolves setCh_evolves)) (.ite outStays_allActive outStays_phasesMid)

theorem outStays_discharge {l : List DisItem} : OutStays a b p s (discharge s l) := by
  unfold discharge
  extract_lets l' s1 q
  have h1 : OutStays a b p s s1 :=
    .forEach fun _ _ => .ite .refl (.trans (.trans outStays_leaveReg outStays_phasesMid) (.of_evolves setCh_evolves))
  clear_value s1
  refine h1.trans ?_
  split
  · exact .trans (t := { s1 with top := { s1.top with dis := q, disAt := if q = [] then s1.top.disAt else now s1 } })
      (.of_evolves (W := { top := true }) .set_top) outStays_disHead
  · split
    · exact .refl
    · exact .of_evolves (W := { top := true }) .set_top

theorem outStays_endRemoval : OutStays a b p s (endRemoval s r) := .forEach fun _ _ => .setPh fun _ h => h

theorem outStays_dripExit : OutStays a b p s (dripExit s r) := by
  unfold dripExit
  extract_lets s1 s2
  have h1 : OutStays a b p s s1 := .trans (t := allActive s r) outStays_allActive (.of_evolves dripTime_evolves)
  have h2 : OutStays a b p s1 s2 := .of_evolves bump_evolves
  exact .ite .refl (h1.trans (h2.trans (.trans (.of_evolves setCh_evolves) outStays_endRemoval)))

theorem outStays_newPeriod {i : Nat} : OutStays a b p s (newPeriod s r i) := by
  unfold newPeriod
  extract_lets l s1
  refine .trans (t := s1) (.of_evolves setCh_evolves) (.forEach fun _ _ => .setPh fun x h => ?_)
  split
  · exact h
  · split
    · exact h
    · exact h.toMid

theorem outStays_softStart : OutStays a b p s (softStart s r) := by
  unfold softStart
  extract_lets s1 s2 ms s3 s4 n s5 s6
  have h1 : OutStays a b p s s1 := .of_evolves senHigh_evolves
  have h2 : OutStays a b p s1 s2 := .forEach fun _ _ => .setPh fun x h => by
    split
    · exact h
    · exact ⟨h.1, h.2.1, fun hb => ⟨(h.2.2 hb).1, rfl⟩⟩
  have h3 : OutStays a b p s2 s3 := .of_evolves setCh_evolves
  have h4 : OutStays a b p s3 s4 := .trans outStays_allActive outStays_newPeriod
  have h5 : OutStays a b p s4 s5 := .forEach fun _ _ => .of_evolves fabClear_evolves
  have h6 : OutStays a b p s5 s6 := .of_evolves setCh_evolves
  clear_value s6
  exact .ite .refl (h1.trans (h2.trans (h3.trans (h4.trans (h5.trans (h6.trans (.ite (.of_evolves enterState_evolves) (.ite (.of_evolves enterState_evolves) .refl))))))))

theorem outStays_beginStage {k : Nat} : OutStays a b p s (beginStage s k) := by
  unfold beginStage
  extract_lets s1 nxt
  have h1 : OutStays a b p s s1 := .forEach fun _ _ => outStays_softStart
  clear_value s1
  exact h1.trans (.of_evolves (W := { top := true }) .set_top)

theorem outStays_stagesDue {n : Nat} : OutStays a b p s (stagesDue n s) := by
  induction n generalizing s with
  | zero => exact .refl
  | succ n ih =>
    unfold stagesDue
    split
    · exact .refl
    · exact .ite (outStays_beginStage.trans ih) .refl

theorem outStays_startAdvance {d : Bool} : OutStays a b p s (startAdvance s d) := by
  unfold startAdvance
  extract_lets _ s1
  have h1 : OutStays a b p s s1 := .ite (.of_evolves (W := { top := true }) .set_top) .refl
  exact h1.trans (.trans outStays_stagesDue (.of_evolves maybeRun_evolves))

theorem outStays_haltSwitched {n : Nat} : OutStays a b p s (haltSwitched s n) := .trans (.of_evolves haltEntry_evolves) outStays_discharge

theorem outStays_latchRail {k w : Nat} (hk : k ≠ 0) : OutStays a b p s (latchRail s k r w) := by
  unfold latchRail
  extract_lets ready s1 s2 s3 s4 s5 bit s6
  have h1 : OutStays a b p s s1 := .of_evolves latchSet_evolves
  have h5 : OutStays a b p s1 s5 := by
    unfold s5
    rw [if_neg hk]
    exact .ite .refl (.ite outStays_discharge (.of_evolves setCh_evolves))
  clear_value s5 s1
  have h6 : OutStays a b p s5 s6 := .ite .refl (.of_evolves originTrip_evolves)
  clear_value s6
  exact h1.trans (h5.trans (.ite (h6.trans (.trans (t := { s6 with top := { s6.top with hChan := s6.top.hChan ||| bit } })
    (.of_evolves (W := { top := true }) .set_top) outStays_haltSwitched)) outStays_startAdvance))

/-! ## Stage faults -/

/-- What follows a fault of a phase of rail r, once the phase is out. -/
def faultTail (s : State) (r p : Nat) : State :=
  let s := if (chOf s r).drip ≠ .run ∧ (activePh s r).isEmpty then dripExit s r else s
  if assignedN s r < aF s (Reg.CH_PHASE2 r) F.CH_PHASE2_MIN_PH then latchRail s 2 r p else s

theorem outStays_faultTail {q : Nat} : OutStays a b p s (faultTail s r q) := by
  unfold faultTail
  extract_lets s1
  have h1 : OutStays a b p s s1 := .ite outStays_dripExit .refl
  exact h1.trans (.ite (outStays_latchRail (by decide)) .refl)

/-- The registers that a stage fault of a rail's phase writes first. -/
def faultSaid (s : State) (r p reading : Nat) : State :=
  stageEntry (raise (raise (setPh s p (fun x => if x.crowbar then { x with fault := true, active := false }
      else { toMid x with fault := true, active := false, cal := false })) (Reg.PH_FLT p) F.PH_FLT_STAGE_FAULT) (Reg.CH_EVENT r) F.CH_EVENT_STAGE_FAULT) p reading

theorem stageFault_of_rail {v : Nat} (hf : (phOf s p).fault = false) (hr : phaseRail s p < 8) :
    stageFault s p v = faultTail (faultSaid s (phaseRail s p) p v) (phaseRail s p) p := by
  unfold stageFault faultTail faultSaid
  dsimp only
  rw [if_neg (by rw [hf]; decide), if_pos hr]

theorem stageFault_of_none {v : Nat} (hf : (phOf s p).fault = false) (hr : ¬ phaseRail s p < 8) :
    stageFault s p v = stageEntry (raise (setPh s p (fun x => { x with fault := true })) (Reg.PH_FLT p) F.PH_FLT_STAGE_FAULT) p v := by
  unfold stageFault
  dsimp only
  rw [if_neg (by rw [hf]; decide), if_neg hr]

theorem ph_faultSaid {v : Nat} : phOf (faultSaid s r p v) q = if p = q then (if (phOf s p).crowbar then { phOf s p with fault := true, active := false }
    else { toMid (phOf s p) with fault := true, active := false, cal := false }) else phOf s q := by
  unfold faultSaid stageEntry
  rw [phOf_of_ph (record_evolves.ph_eq rfl), phOf_of_ph (raise_evolves.ph_eq rfl), phOf_of_ph (raise_evolves.ph_eq rfl)]
  exact phOf_setPh _ _ _

theorem out_faultSaid {v : Nat} : Out true (!(phOf s p).crowbar) (phOf (faultSaid s r p v) p) := by
  rw [ph_faultSaid, if_pos rfl]
  generalize phOf s p = x
  cases hc : x.crowbar
  · exact ⟨rfl, fun _ => rfl, fun _ => ⟨hc, rfl⟩⟩
  · exact ⟨rfl, fun _ => rfl, nofun⟩

theorem outStays_faultSaid {v : Nat} : OutStays a b q s (faultSaid s r p v) := by
  unfold OutStays
  rw [ph_faultSaid]
  split
  next h =>
    subst h
    generalize phOf s p = x
    intro ho
    split
    · exact ⟨rfl, fun _ => rfl, ho.2.2⟩
    · exact ⟨rfl, fun _ => rfl, ho.toMid.2.2⟩
  next => exact id

theorem outStays_stageFault {v : Nat} : OutStays a b q s (stageFault s p v) := by
  cases hf : (phOf s p).fault
  · by_cases hr : phaseRail s p < 8
    · rw [stageFault_of_rail hf hr]
      exact outStays_faultSaid.trans outStays_faultTail
    · rw [stageFault_of_none hf hr]
      have h1 : OutStays a b q s (setPh s p fun x => { x with fault := true }) := .setPh fun x h => ⟨rfl, h.2.1, h.2.2⟩
      generalize (setPh s p fun x => { x with fault := true }) = s1 at h1 ⊢
      exact h1.trans (.trans (.of_evolves raise_evolves) (.of_evolves stageEntry_evolves))
  · unfold stageFault
    rw [if_pos hf]
    exact .refl

theorem fault_stageFault {v : Nat} : Out false false (phOf (stageFault s p v) p) := by
  cases hf : (phOf s p).fault
  · by_cases hr : phaseRail s p < 8
    · rw [stageFault_of_rail hf hr]
      exact outStays_faultTail ⟨out_faultSaid.1, nofun, nofun⟩
    · rw [stageFault_of_none hf hr, show ∀ t v, phOf (stageEntry t p v) p = phOf t p from fun t v => phOf_of_ph (stageEntry_evolves.ph_eq rfl) p,
        phOf_of_ph (raise_evolves.ph_eq rfl), phOf_setPh, if_pos rfl]
      exact ⟨rfl, nofun, nofun⟩
  · unfold stageFault
    rw [if_pos hf]
    exact ⟨hf, nofun, nofun⟩

theorem faultTail_rdBut {q : Nat} : RdBut [(Reg.REC_EVENT, 0, 0), (Reg.REC_ARB_DROP 0,
    0, 0), (Reg.REC_ARB_DROP 1, 0, 0), (Reg.REC_ARB_DROP 2, 0, 0), (Reg.TOP_DRAIN_CNT 8, 0, 0), (Reg.TOP_DRAIN_STATUS, 0, 0), (Reg.CH_DRIP_TIME_LO
    0, 0x1000, 0), (Reg.CH_DRIP_TIME_LO 0 + 4, 0x1000, 0), (Reg.CH_DRIP_CNT 0, 0x1000, 0), (Reg.PROT_CH_LATCH, 0, 0), (Reg.TB_CAP_FLAGS, 0, 0),
    (Reg.TB_CAP_LO 0, 8, 16), (Reg.TB_CAP_HI 0, 8, 16), (Reg.TB_CAP_VALID, 0, 0), (Reg.PROT_STATUS, 0, 0), (Reg.CH_CAL_CNT 0, 0x1000, 0),
    (Reg.FQ_CNT2, 0, 0), (Reg.FQ_EVENT, 0, 0), (Reg.TOP_DRAIN_CNT 4, 0, 0), (Reg.FQ_CNT, 0, 0), (Reg.TOP_START_STATUS, 0, 0), (Reg.TVL_GEVENT, 0,
    0), (Reg.TOP_DRAIN_CNT 1, 0, 0), (Reg.SEC_IMG_STATUS, 0, 0), (Reg.SEC_IMG_FAIL_INFO, 0, 0), (Reg.TOP_COMMIT_STATUS, 0, 0)] s (faultTail s r q) := by
  unfold faultTail
  exact .trans (.ite dripExit_rdBut.mono .refl) (.ite latchRail_rdBut.mono .refl)

theorem stageFaultTmon_of (ph : PhIx) (mv : Nat) (s : State) (h1 : s.top.state ≠ .off) (h2 : 1450 ≤ mv) :
    execStageFaultTmon ph mv s = .next (stageFault s ph.val mv) := by
  unfold execStageFaultTmon
  rw [if_pos ⟨h1, h2⟩]

theorem stageFaultTmon_results (ph : PhIx) (mv : Nat) (s : State) (h1 : s.top.state ≠ .off) (h2 : 1450 ≤ mv) (hr : phaseRail s ph.val < 8)
    (hf : (phOf s ph.val).fault = false) :
    Runs (.stageFaultTmon ph mv) s (fun t => (phOf t ph.val).fault = true ∧ (phOf t ph.val).active = false ∧ ((phOf s ph.val).crowbar = false → (phOf t ph.val).level = .mid)
      ∧ flag t (Reg.PH_FLT ph.val) F.PH_FLT_STAGE_FAULT = true ∧ flag t (Reg.CH_EVENT (phaseRail s ph.val)) F.CH_EVENT_STAGE_FAULT = true
      ∧ ph.val ∉ assigned t (phaseRail s ph.val)) := by
  refine ⟨_, stageFaultTmon_of ph mv s h1 h2, ?_⟩
  rw [stageFault_of_rail hf hr]
  have ho := outStays_faultTail (s := faultSaid s (phaseRail s ph.val) ph.val mv) (r := phaseRail s ph.val) (q := ph.val)
    (out_faultSaid (s := s) (r := phaseRail s ph.val) (p := ph.val) (v := mv))
  have hflt : flag (faultSaid s (phaseRail s ph.val) ph.val mv) (Reg.PH_FLT ph.val) F.PH_FLT_STAGE_FAULT = true := by
    unfold faultSaid
    refine (stageEntry_rdBut.flag_eq _ (misses_fin (g := Reg.PH_FLT) (by decide +kernel) ph)).trans
      ((raise_rdBut1.flag_eq _ ?_).trans (flag_raise _ _ _ (by decide)))
    exact misses_fin (g := Reg.PH_FLT) (F := [(0x120104, 0x1000, 0)]) (by decide +kernel) ph
  have hev : flag (faultSaid s (phaseRail s ph.val) ph.val mv) (Reg.CH_EVENT (phaseRail s ph.val)) F.CH_EVENT_STAGE_FAULT = true := by
    unfold faultSaid
    exact (stageEntry_rdBut.flag_eq _ (misses_fin (g := Reg.CH_EVENT) (by decide +kernel) (⟨phaseRail s ph.val, hr⟩ : Fin 8))).trans (flag_raise _ _ _ (by decide))
  have ht : RdBut _ (faultSaid s (phaseRail s ph.val) ph.val mv) (faultTail (faultSaid s (phaseRail s ph.val) ph.val mv) (phaseRail s ph.val) ph.val) := faultTail_rdBut
  generalize faultTail (faultSaid s (phaseRail s ph.val) ph.val mv) (phaseRail s ph.val) ph.val = t at ho ht ⊢
  obtain ⟨k1, k2, k3⟩ := ho
  refine ⟨k1, k2 rfl, fun hc => (k3 (by rw [hc]; rfl)).2, (ht.flag_eq _ (misses_fin (g := Reg.PH_FLT) (by decide +kernel) ph)).trans hflt,
    (ht.flag_eq _ (misses_fin (g := Reg.CH_EVENT) (by decide +kernel) (⟨phaseRail s ph.val, hr⟩ : Fin 8))).trans hev, fun hm => ?_⟩
  have := (List.mem_filter.1 hm).2
  rw [k1] at this
  simp at this

theorem stageFaultTmon_norail (ph : PhIx) (mv : Nat) (s : State) (h1 : s.top.state ≠ .off) (h2 : 1450 ≤ mv) (hr : 8 ≤ phaseRail s ph.val)
    (hf : (phOf s ph.val).fault = false) :
    Runs (.stageFaultTmon ph mv) s (fun t => (phOf t ph.val).fault = true ∧ flag t (Reg.PH_FLT ph.val) F.PH_FLT_STAGE_FAULT = true
      ∧ (phOf t ph.val).level = (phOf s ph.val).level ∧ t.ch = s.ch) := by
  refine ⟨_, stageFaultTmon_of ph mv s h1 h2, ?_⟩
  rw [stageFault_of_none hf (Nat.not_lt.2 hr)]
  have hp1 := phOf_setPh (s := s) ph.val ph.val fun x => { x with fault := true }
  rw [if_pos rfl] at hp1
  have e1 : Evolves { ph := true } s (setPh s ph.val fun x => { x with fault := true }) := setPh_evolves
  generalize (setPh s ph.val fun x => { x with fault := true }) = s1 at hp1 e1 ⊢
  have e2 : Evolves { regs := true } s1 (raise s1 (Reg.PH_FLT ph.val) F.PH_FLT_STAGE_FAULT) := raise_evolves
  have hf2 : flag (raise s1 (Reg.PH_FLT ph.val) F.PH_FLT_STAGE_FAULT) (Reg.PH_FLT ph.val) F.PH_FLT_STAGE_FAULT = true := flag_raise _ _ _ (by decide)
  generalize raise s1 (Reg.PH_FLT ph.val) F.PH_FLT_STAGE_FAULT = s2 at e2 hf2 ⊢
  have hp : phOf (stageEntry s2 ph.val mv) ph.val = { phOf s ph.val with fault := true } :=
    (phOf_of_ph (stageEntry_evolves.ph_eq rfl) _).trans ((phOf_of_ph (e2.ph_eq rfl) _).trans hp1)
  refine ⟨by rw [hp], (stageEntry_rdBut.flag_eq _ (misses_fin (g := Reg.PH_FLT) (by decide +kernel) ph)).trans hf2, by rw [hp], ?_⟩
  exact (stageEntry_evolves.ch_eq rfl).trans ((e2.ch_eq rfl).trans (e1.ch_eq rfl))

/-- Each hot assigned phase of a quad is faulted when its fault wire is judged. -/
theorem sfltFaults_hot {hot : Nat} (hp : p ∈ quadPhases q) (hm : p ∈ assigned s (phaseRail s p)) (hb : bitOf hot (p % 4) = true) :
    (phOf (sfltFaults s q hot) p).fault = true := by
  unfold sfltFaults
  extract_lets as_ hs
  have hmem : p ∈ hs := List.mem_filter.2 ⟨List.mem_filter.2 ⟨hp, by simpa using hm⟩, hb⟩
  clear_value hs
  rw [if_neg (List.ne_nil_of_mem hmem)]
  have h : Out false false (phOf (forEach hs s fun s p => stageFault s p 0) p) :=
    forEach_establishes (I := fun _ => True) (Q := fun t => Out false false (phOf t p)) hmem (fun _ _ _ => trivial) (fun t _ => fault_stageFault)
      (fun t q _ ho => outStays_stageFault ho) trivial
  exact h.1

theorem phaseRail_of_img (h : t.img = s.img) (p : Nat) : phaseRail t p = phaseRail s p := by
  unfold phaseRail
  rw [quadCh_of_img h, railOf_of_img h]

theorem stageFaultInput_results (quad : QuadIx) (hot : Fin 16) (s : State) (h1 : s.top.state ≠ .off) (h2 : (quadOf s quad.val).sfltActed = false) :
    Runs (.stageFaultInput quad hot) s (fun t =>
      ((quadOf s quad.val).sen = false ∨ now s < (quadOf s quad.val).senRose + 2000 → t.ph = s.ph ∧ (quadOf t quad.val).sfltWindow = true)
      ∧ ((quadOf s quad.val).sen = true → (quadOf s quad.val).senRose + 2000 ≤ now s → ∀ p ∈ quadPhases quad.val, phaseRail s p < 8 →
          p ∈ assigned s (phaseRail s p) → bitOf hot.val (p % 4) = true → (phOf t p).fault = true)) := by
  show ∃ t, execStageFaultInput quad hot s = .next t ∧ _
  unfold execStageFaultInput
  extract_lets q x s1 s2
  rw [if_neg (by rw [not_or]; exact ⟨h1, by rw [show x.sfltActed = false from h2]; decide⟩)]
  by_cases hw : (!x.sen) = true ∨ now s < x.senRose + 2000
  · rw [if_pos hw]
    refine ⟨_, rfl, fun _ => ⟨(setQuad_evolves.ph_eq rfl).trans (record_evolves.ph_eq rfl), ?_⟩, fun hs hn => ?_⟩
    · rw [quadOf_setQuad, if_pos rfl]
    · rcases hw with hw | hw
      · rw [show x.sen = true from hs] at hw
        cases hw
      · exact absurd hw (Nat.not_lt.2 hn)
  · rw [if_neg hw]
    have e2 : Evolves { quad := true } s s2 := setQuad_evolves
    clear_value s2
    rw [not_or] at hw
    refine ⟨_, rfl, fun h => ?_, fun _ _ p hp _ hm hb => ?_⟩
    · rcases h with h | h
      · exact absurd (by rw [show x.sen = false from h]; rfl) hw.1
      · exact absurd h hw.2
    · refine sfltFaults_hot hp ?_ hb
      rw [phaseRail_of_img (e2.img_eq rfl), assigned_of_ph (e2.img_eq rfl) (e2.active_eq rfl) (e2.ph_eq rfl)]
      exact hm

theorem sfltWindowEnd_low (quad : QuadIx) (hot : Fin 16) (s : State) : Runs (.sfltWindowEnd quad false hot) s (fun t => (quadOf t quad.val).sfltLow = false
    ∧ (quadOf t quad.val).sfltActed = false ∧ (quadOf t quad.val).sfltWindow = false ∧ t.ph = s.ph) := by
  show ∃ t, execSfltWindowEnd quad false hot s = .next t ∧ _
  unfold execSfltWindowEnd
  extract_lets q x s1 s2
  have e1 : Evolves { tb := true } s s1 := .ite reach_evolves .refl
  clear_value s2 s1
  rw [if_neg (by simp)]
  refine ⟨_, rfl, ?_⟩
  rw [quadOf_setQuad, if_pos rfl]
  exact ⟨rfl, rfl, rfl, (setQuad_evolves.ph_eq rfl).trans (e1.ph_eq rfl)⟩

theorem sfltWindowEnd_high (quad : QuadIx) (hot : Fin 16) (s : State) (h1 : (quadOf s quad.val).sen = true) (h2 : (quadOf s quad.val).sfltWindow = true) :
    Runs (.sfltWindowEnd quad true hot) s (fun t => ∀ p ∈ quadPhases quad.val, phaseRail s p < 8 → p ∈ assigned s (phaseRail s p) → bitOf hot.val (p % 4) = true →
      (phOf t p).fault = true) := by
  show ∃ t, execSfltWindowEnd quad true hot s = .next t ∧ _
  unfold execSfltWindowEnd
  extract_lets q x s1 s2
  have e1 : Evolves { tb := true } s s1 := .ite reach_evolves .refl
  have e2 : Evolves { quad := true } s1 s2 := setQuad_evolves
  clear_value s2 s1
  rw [if_pos (by rw [show x.sen = true from h1, show x.sfltWindow = true from h2]; rfl)]
  refine ⟨_, rfl, fun p hp _ hm hb => sfltFaults_hot hp ?_ hb⟩
  have hi : s2.img = s.img := (e2.img_eq rfl).trans (e1.img_eq rfl)
  rw [phaseRail_of_img hi, assigned_of_ph hi ((e2.active_eq rfl).trans (e1.active_eq rfl)) ((e2.ph_eq rfl).trans (e1.ph_eq rfl))]
  exact hm

theorem phaseReturn_results (ph : PhIx) (s : State) (h1 : (phOf s ph.val).fault = true) (h2 : flag s (Reg.PH_FLT ph.val) F.PH_FLT_STAGE_FAULT = false) :
    Runs (.phaseReturn ph) s (fun t =>
      (phaseRail s ph.val < 8 ∧ switching s (phaseRail s ph.val) = true → phOf t ph.val = { phOf s ph.val with returning := true })
      ∧ (¬ (phaseRail s ph.val < 8 ∧ switching s (phaseRail s ph.val) = true) → (phOf t ph.val).fault = false) ∧ (∀ q, q ≠ ph.val → phOf t q = phOf s q)
      ∧ t = { s with ph := t.ph }) := by
  show ∃ t, execPhaseReturn ph s = .next t ∧ _
  unfold execPhaseReturn
  extract_lets p r
  rw [if_pos ⟨h1, by rw [h2]; rfl⟩]
  refine ⟨_, rfl, fun h => ?_, fun h => ?_, fun q hq => ?_, rfl⟩
  · rw [phOf_setPh, if_pos rfl, if_pos (by simpa using h)]
  · rw [phOf_setPh, if_pos rfl, if_neg (by simpa using h)]
  · rw [phOf_setPh, if_neg (Ne.symm hq)]

theorem imonRange_results (ph : PhIx) (mv : Nat) (s : State) (h1 : (phOf s ph.val).active = true) (h2 : mv < 100 ∨ 1300 < mv) :
    Runs (.imonRange ph mv) s (fun t => flag t (Reg.PH_FLT ph.val) F.PH_FLT_IMON_RANGE = true ∧ t.ph = s.ph) := by
  show ∃ t, execImonRange ph mv s = .next t ∧ _
  unfold execImonRange
  extract_lets p s1 v i
  rw [if_pos ⟨h1, h2⟩]
  have e1 : Evolves { regs := true } s s1 := raise_evolves
  have hf1 : flag s1 (Reg.PH_FLT p) F.PH_FLT_IMON_RANGE = true := flag_raise _ _ _ (by decide)
  clear_value i s1
  refine ⟨_, rfl, (setF_rdBut1.flag_eq _ ?_).trans hf1, (setF_evolves.ph_eq rfl).trans (e1.ph_eq rfl)⟩
  exact misses_fin (g := Reg.PH_FLT) (F := [(0x100044, 0x100, 0)]) (by decide +kernel) ph

/-! ## Latches -/

theorem flag_eq_bitOf (s : State) (off k : Nat) : flag s off ⟨k, 1⟩ = bitOf (rd s off).toNat k := by
  unfold flag fldOf bitOf
  rw [Nat.testBit_eq_decide_div_mod_eq, ← Nat.shiftRight_eq_div_pow]
  rfl

theorem bit_lower_same (off k : Nat) (h : k < 32) : bitOf (rd (lower s off ⟨k, 1⟩) off).toNat k = false := by
  rw [← flag_eq_bitOf]
  exact flag_lower _ _ _ h

theorem bit_lower_apart (off j k : Nat) (h : k < 32) (hj : j ≠ k) : bitOf (rd (lower s off ⟨k, 1⟩) off).toNat j = bitOf (rd s off).toNat j := by
  rw [← flag_eq_bitOf, ← flag_eq_bitOf]
  exact flag_setF_apart _ _ _ _ (by show k + 1 ≤ 32; omega) (by show j + 1 ≤ k ∨ k + 1 ≤ j; omega)

theorem flag_clearRefused {unit cause : Nat} : flag (clearRefused s unit cause) Reg.PROT_EVENT F.PROT_EVENT_CLR_REFUSED = true := by
  unfold clearRefused
  exact (record_rdBut.flag_eq _).trans (flag_raise _ _ _ (by decide))

/-- The clearing of one channel latch. -/
theorem chLatchClear_results {pairs : List (Nat × Nat)} {c : Nat} (hc : c < 24) (hset : bitOf (rd s Reg.PROT_CH_LATCH).toNat c = true) :
    bitOf (rd (chLatchClear s pairs (c / 8) (c % 8)) Reg.PROT_CH_LATCH).toNat c = !(decide (8 ≤ c) || ovClears s pairs (c % 8))
      ∧ (∀ k, k ≠ c → bitOf (rd (chLatchClear s pairs (c / 8) (c % 8)) Reg.PROT_CH_LATCH).toNat k = bitOf (rd s Reg.PROT_CH_LATCH).toNat k)
      ∧ ((decide (8 ≤ c) || ovClears s pairs (c % 8)) = false → flag (chLatchClear s pairs (c / 8) (c % 8)) Reg.PROT_EVENT F.PROT_EVENT_CLR_REFUSED = true) := by
  have hcc : 8 * (c / 8) + c % 8 = c := Nat.div_add_mod c 8
  unfold chLatchClear
  rw [hcc]
  by_cases hr : c / 8 = 0 ∧ (!ovClears s pairs (c % 8)) = true
  · have hok : (decide (8 ≤ c) || ovClears s pairs (c % 8)) = false := by
      rw [show ovClears s pairs (c % 8) = false by simpa using hr.2, decide_eq_false (by omega)]
      rfl
    rw [if_pos hr, hok]
    have hrd : rd (clearRefused s (c % 8) 0) Reg.PROT_CH_LATCH = rd s Reg.PROT_CH_LATCH := clearRefused_rdBut.rd_eq
    rw [hrd]
    exact ⟨hset, fun _ _ => rfl, fun _ => flag_clearRefused⟩
  · have hok : (decide (8 ≤ c) || ovClears s pairs (c % 8)) = true := by
      by_cases h8 : 8 ≤ c
      · simp [h8]
      · have h0 : c / 8 = 0 := by omega
        have : ovClears s pairs (c % 8) = true := by
          by_contra hn
          exact hr ⟨h0, by simpa using hn⟩
        simp [this]
    rw [if_neg hr, hok]
    extract_lets s1
    have hs1 : rd (pmRefresh s) Reg.PROT_CH_LATCH = rd s Reg.PROT_CH_LATCH := rd_of_regs (pmRefresh_evolves.regs_eq rfl) _
    have hb1 : bitOf (rd s1 Reg.PROT_CH_LATCH).toNat c = false := bit_lower_same _ _ (by omega)
    have ho1 : ∀ k, k ≠ c → bitOf (rd s1 Reg.PROT_CH_LATCH).toNat k = bitOf (rd s Reg.PROT_CH_LATCH).toNat k := fun k hk => by
      rw [← hs1]
      exact bit_lower_apart _ _ _ (by omega) hk
    clear_value s1
    have h2 : RdBut [(Reg.PROT_STATUS, 0, 0)] s1 (if c / 8 = 0 then railOff (lower (crowbarOff s1 (c % 8)) Reg.PROT_STATUS ⟨8 + c % 8, 1⟩) (c % 8)
        else if (chOf s1 (c % 8)).state = .latched ∧ !railLatched s1 (c % 8) then setCh s1 (c % 8) (fun x => { x with state := .off }) else s1) :=
      .ite (.trans (.trans (.of_evolves crowbarOff_evolves) lower_rdBut0.mono) railOff_rdBut) (.ite (.of_evolves setCh_evolves) .refl)
    rw [h2.rd_eq (off := Reg.PROT_CH_LATCH)]
    exact ⟨hb1, ho1, nofun⟩

theorem thermLatchClear_results {c : Nat} (hc : c < 6) (hset : bitOf (rd s Reg.PROT_THERM_LATCH).toNat c = true) :
    bitOf (rd (thermLatchClear s c) Reg.PROT_THERM_LATCH).toNat c = !tripClears s
      ∧ (tripClears s = false → flag (thermLatchClear s c) Reg.PROT_EVENT F.PROT_EVENT_CLR_REFUSED = true) := by
  unfold thermLatchClear
  cases ht : tripClears s
  · rw [if_pos (by decide)]
    have hrd : rd (clearRefused s 0 (0x10 + c)) Reg.PROT_THERM_LATCH = rd s Reg.PROT_THERM_LATCH := clearRefused_rdBut.rd_eq
    rw [hrd]
    exact ⟨hset, fun _ => flag_clearRefused⟩
  · rw [if_neg (by decide)]
    extract_lets s1
    have hb1 : bitOf (rd s1 Reg.PROT_THERM_LATCH).toNat c = false := bit_lower_same _ _ (by omega)
    clear_value s1
    have h2 : RdBut [(Reg.PROT_STATUS, 0, 0)] s1 (if (rd s1 Reg.PROT_THERM_LATCH).toNat % 64 = 0 then lower s1 Reg.PROT_STATUS F.PROT_STATUS_TRIP_OUT else s1) :=
      .ite lower_rdBut0 .refl
    rw [h2.rd_eq (off := Reg.PROT_THERM_LATCH)]
    exact ⟨hb1, nofun⟩

theorem maskBits_one {n c v m : Nat} (hc : c < n) (hv : bitOf v c = true) (hm : bitOf m c = true) : maskBits n (2 ^ c &&& m &&& v) = [c] := by
  refine filter_one List.nodup_range (List.mem_range.2 hc) fun q _ => ?_
  unfold bitOf at hv hm ⊢
  rw [Nat.testBit_and, Nat.testBit_and, Nat.testBit_two_pow]
  by_cases h : c = q
  · subst h
    simp [hv, hm]
  · simp [h, Ne.symm h]

theorem regFind_latch {off m : Nat} (h : (regFind off).map (fun r => (r.access, r.mask)) = some (.w1c, m)) : ∃ r, regFind off = some r ∧ r.access = .w1c ∧ r.mask = m := by
  obtain ⟨r, hr, he⟩ := Option.map_eq_some_iff.1 h
  exact ⟨r, hr, congrArg Prod.fst he, congrArg Prod.snd he⟩

theorem toNat_onebit {c : Nat} (hc : c < 24) : (BitVec.ofNat 32 (2 ^ c)).toNat = 2 ^ c := by
  rw [BitVec.toNat_ofNat]
  exact Nat.mod_eq_of_lt (Nat.pow_lt_pow_right (by decide) (by omega))

/-- A clearing write of a latch register acts on the latches and at most signals again. -/
theorem w1cWrite_latch {x : WrExt} {off v : Nat} (ho : off = Reg.PROT_CH_LATCH ∨ off = Reg.PROT_THERM_LATCH) :
    (w1cWrite x s off v).regs = (protClear s x (off == Reg.PROT_THERM_LATCH) v).regs := by
  have hh : w1cHome s off = off := by
    rcases ho with rfl | rfl
    · rfl
    · rfl
  unfold w1cWrite
  extract_lets off' shown s1 left
  have ho' : off' = off := hh
  have h1 : s1 = protClear s x (off == Reg.PROT_THERM_LATCH) v := by
    unfold s1
    rw [ho']
    rcases ho with rfl | rfl
    · rfl
    · rfl
  clear_value s1 left shown
  rw [← h1]
  split
  · split
    · exact intAgain_evolves.regs_eq rfl
    · rfl
  · rfl

/-- The registers after a clearing write of one bit of a latch register. -/
theorem regs_latchWrite {who : Initiator} {x : WrExt} {off m c : Nat} (ho : off = Reg.PROT_CH_LATCH ∨ off = Reg.PROT_THERM_LATCH) (hc : c < 24)
    (hr : (regFind off).map (fun r => (r.access, r.mask)) = some (.w1c, m)) (ha : admits s who off (2 ^ c) = true) :
    (regWrite s who off (BitVec.ofNat 32 (2 ^ c)).toNat x).regs = (protClear { s with resp := .none } x (off == Reg.PROT_THERM_LATCH) (2 ^ c &&& m)).regs := by
  obtain ⟨r, hfind, hacc, rfl⟩ := regFind_latch hr
  rw [toNat_onebit hc, regWrite_of_admits x ha, applyWrite_of_admits x s _ who off _ r ha (by rcases ho with rfl | rfl <;> decide)
    (by rcases ho with rfl | rfl <;> decide) hfind, hacc]
  exact w1cWrite_latch ho

theorem protLatchClear_channel (who : Initiator) (b : Fin 24) (pairs : List (ChIx × Nat)) (tripIn : Bool) (s : State)
    (ha : admits s who Reg.PROT_CH_LATCH (2 ^ b.val) = true) (hset : bitOf (rd s Reg.PROT_CH_LATCH).toNat b.val = true) :
    let ok : Bool := decide (8 ≤ b.val) || ovClears s (pairs.map (fun p => (p.1.val, p.2))) (b.val % 8)
    Runs (.protLatchClear who false (BitVec.ofNat 32 (2 ^ b.val)) pairs tripIn) s (fun t => bitOf (rd t Reg.PROT_CH_LATCH).toNat b.val = !ok
      ∧ (∀ k, k < 24 → k ≠ b.val → bitOf (rd t Reg.PROT_CH_LATCH).toNat k = bitOf (rd s Reg.PROT_CH_LATCH).toNat k)
      ∧ (ok = false → flag t Reg.PROT_EVENT F.PROT_EVENT_CLR_REFUSED = true)) := by
  refine ⟨_, rfl, ?_⟩
  have hregs := regs_latchWrite (x := { pairs := pairs.map (fun p => (p.1.val, p.2)), tripIn := some tripIn }) (m := 0xFFFFFF) (.inl rfl) b.isLt
    (by decide +kernel) ha
  rw [if_neg (by decide)]
  generalize regWrite s who Reg.PROT_CH_LATCH _ _ = t at hregs ⊢
  have hone : maskBits 24 (2 ^ b.val &&& 0xFFFFFF &&& (rd s Reg.PROT_CH_LATCH).toNat) = [b.val] := maskBits_one b.isLt hset (by
    unfold bitOf
    rw [show 0xFFFFFF = 2 ^ 24 - 1 from rfl, Nat.testBit_two_pow_sub_one]
    exact decide_eq_true b.isLt)
  have hclear : protClear { s with resp := .none } { pairs := pairs.map (fun p => (p.1.val, p.2)), tripIn := some tripIn } (Reg.PROT_CH_LATCH == Reg.PROT_THERM_LATCH)
      (2 ^ b.val &&& 0xFFFFFF) = chLatchClear { s with resp := .none } (pairs.map (fun p => (p.1.val, p.2))) (b.val / 8) (b.val % 8) := by
    unfold protClear
    rw [if_neg (by decide)]
    exact congrArg (fun l => forEach l { s with resp := .none } _) hone
  rw [hclear] at hregs
  obtain ⟨h1, h2, h3⟩ := chLatchClear_results (s := { s with resp := .none }) (pairs := pairs.map (fun p => (p.1.val, p.2))) b.isLt hset
  generalize chLatchClear { s with resp := .none } (pairs.map (fun p => (p.1.val, p.2))) (b.val / 8) (b.val % 8) = u at hregs h1 h2 h3
  have hrd : rd t Reg.PROT_CH_LATCH = rd u Reg.PROT_CH_LATCH := rd_of_regs hregs _
  beta_reduce
  rw [hrd]
  exact ⟨h1, fun k _ hk => h2 k hk, fun hok => ((RdBut.of_regs (F := []) hregs).flag_eq _).trans (h3 hok)⟩

theorem protLatchClear_thermal (who : Initiator) (b : Fin 6) (tripIn : Bool) (s : State) (ha : admits s who Reg.PROT_THERM_LATCH (2 ^ b.val) = true)
    (hset : bitOf (rd s Reg.PROT_THERM_LATCH).toNat b.val = true) :
    Runs (.protLatchClear who true (BitVec.ofNat 32 (2 ^ b.val)) [] tripIn) s (fun t =>
      bitOf (rd t Reg.PROT_THERM_LATCH).toNat b.val = !tripClears { s with top := { s.top with tripInLow := !tripIn } }
      ∧ (tripClears { s with top := { s.top with tripInLow := !tripIn } } = false → flag t Reg.PROT_EVENT F.PROT_EVENT_CLR_REFUSED = true)) := by
  refine ⟨_, rfl, ?_⟩
  have hb : b.val < 24 := Nat.lt_of_lt_of_le b.isLt (by decide)
  have hregs := regs_latchWrite (x := { pairs := [].map (fun p : ChIx × Nat => (p.1.val, p.2)), tripIn := some tripIn }) (m := 0x7F) (.inr rfl) hb (by decide +kernel) ha
  rw [if_pos rfl]
  generalize regWrite s who Reg.PROT_THERM_LATCH _ _ = t at hregs ⊢
  have hone : maskBits 7 (2 ^ b.val &&& 0x7F &&& (rd s Reg.PROT_THERM_LATCH).toNat) = [b.val] := maskBits_one (Nat.lt_of_lt_of_le b.isLt (by decide)) hset (by
    unfold bitOf
    rw [show 0x7F = 2 ^ 7 - 1 from rfl, Nat.testBit_two_pow_sub_one]
    exact decide_eq_true (Nat.lt_of_lt_of_le b.isLt (by decide)))
  have hne : b.val ≠ 6 := Nat.ne_of_lt b.isLt
  have hclear : protClear { s with resp := .none } { pairs := [].map (fun p : ChIx × Nat => (p.1.val, p.2)), tripIn := some tripIn }
      (Reg.PROT_THERM_LATCH == Reg.PROT_THERM_LATCH) (2 ^ b.val &&& 0x7F)
      = thermLatchClear { s with resp := .none, top := { s.top with tripInLow := !tripIn } } b.val := by
    unfold protClear
    rw [if_pos (by decide)]
    refine (congrArg (fun l => forEach l { s with resp := .none, top := { s.top with tripInLow := !tripIn } } _) hone).trans ?_
    rw [forEach_cons, forEach_nil, if_neg hne]
  rw [hclear] at hregs
  obtain ⟨h1, h2⟩ := thermLatchClear_results (s := { s with resp := .none, top := { s.top with tripInLow := !tripIn } }) b.isLt hset
  generalize thermLatchClear { s with resp := .none, top := { s.top with tripInLow := !tripIn } } b.val = u at hregs h1 h2
  have hrd : rd t Reg.PROT_THERM_LATCH = rd u Reg.PROT_THERM_LATCH := rd_of_regs hregs _
  beta_reduce
  rw [hrd]
  exact ⟨h1, fun hok => ((RdBut.of_regs (F := []) hregs).flag_eq _).trans (h2 hok)⟩

/-- Settles O31: a faulted phase stays out through whatever its fault begins, and a clearing write reaches the one latch it names. -/
theorem faultAndLatchResults : Obligations.FaultAndLatchResults := by
  unfold Obligations.FaultAndLatchResults
  exact ⟨⟨stageFaultTmon_results, stageFaultTmon_norail, stageFaultInput_results, sfltWindowEnd_low, sfltWindowEnd_high, phaseReturn_results, imonRange_results⟩,
    protLatchClear_channel, protLatchClear_thermal⟩
end

end Sys2Proof.Machine
end

section
/-! PROOF. A dead letter of a class that no frame has (O41). -/

namespace Sys2Proof.Machine
open Host
set_option Elab.async false

/-- A frame of local origin whose class is the number whose drain count is the word at TVL_EVENT of lane 0. -/
def strayFrame : QFrame :=
  let f : Frame := { cls := (Reg.TVL_EVENT 0 - Reg.TOP_DRAIN_CNT 0) / 8, scope := 0, dest := 0, src := 0, typ := 0, epoch := 0, oseq := 0, ttl := 0, body := [] }
  { frame := f, lane := 10 }

/-- Lane 0 in UP with six such frames in its transmit queue. -/
def strayHeld : State := setLcls (setLane {} 0 (fun x => { x with state := .up })) 0 1 (fun x => { x with out := List.replicate 6 strayFrame })

/-- The lane's loss of lock makes six dead letters, and each one's drain count adds 1 to the word that holds the lane's events. -/
theorem lockLoss_strayHeld : laneUp strayHeld 0 = true
    ∧ (match execLaneLockLoss 0 false strayHeld with
      | .next t => flag t (Reg.TVL_EVENT 0) F.TVL_EVENT_LOCK_LOSS
      | _ => true) = false := by
  decide +kernel

/-- Refutes O41: the clause on lock loss fails where the lane holds frames of a class whose drain count is the lane's event register. -/
theorem not_laneTrainingResults : ¬ Obligations.LaneTrainingResults := by
  unfold Obligations.LaneTrainingResults
  rintro ⟨⟨-, -, h⟩, -⟩
  obtain ⟨hup, hafter⟩ := lockLoss_strayHeld
  obtain ⟨t, ht, -, hflag, -⟩ := h 0 false strayHeld hup
  have ht' : execLaneLockLoss 0 false strayHeld = .next t := ht
  rw [ht'] at hafter
  have hnot : flag t (Reg.TVL_EVENT 0) F.TVL_EVENT_LOCK_LOSS = false := hafter
  rw [show flag t (Reg.TVL_EVENT 0) F.TVL_EVENT_LOCK_LOSS = true from hflag] at hnot
  cases hnot

end Sys2Proof.Machine
end

section
/-! PROOF. The replay limit of a lane that holds such frames (O42). -/

namespace Sys2Proof.Machine
open Host
set_option Elab.async false

/-- The frame that awaits its acknowledgement. -/
def awaitedFrame : RFrame := { lseq := 0, q := strayFrame, ackDue := 0 }

/-- Lane 0 in UP, its resends of class 1 spent, with the frame that a NAK names in its replay buffer and 13 more in its transmit queue. -/
def strayReplay : State := setLcls (setLane {} 0 (fun x => { x with state := .up })) 0 1
  (fun x => { x with replay := [awaitedFrame], tries := 255, out := List.replicate 13 strayFrame })

/-- The NAK takes the lane from UP; its 14 dead letters add 14 to the word that holds the lane's events. -/
theorem nak_strayReplay : laneUp strayReplay 0 = true ∧ (lclsOf strayReplay 0 1).replay = [awaitedFrame]
    ∧ aF strayReplay (Reg.TVL_CFG 0) F.TVL_CFG_REPLAY_MAX ≤ (lclsOf strayReplay 0 1).tries
    ∧ (match execLinkNak 0 1 0 strayReplay with
      | .next t => flag t (Reg.TVL_EVENT 0) F.TVL_EVENT_REPLAY_LIMIT
      | _ => true) = false := by
  decide +kernel

/-- Refutes O42: the clause on a NAK whose resends are spent fails where the lane holds frames of a class whose drain count is the lane's event
register. -/
theorem not_linkFlowResults : ¬ Obligations.LinkFlowResults := by
  unfold Obligations.LinkFlowResults
  rintro ⟨-, h, -⟩
  obtain ⟨hup, hreplay, hmax, hafter⟩ := nak_strayReplay
  obtain ⟨-, t, ht, -, hlimit⟩ := h 0 1 0 [] [] awaitedFrame strayReplay hup (by decide) hreplay rfl (by simp)
  obtain ⟨-, hflag⟩ := hlimit rfl hmax
  have ht' : execLinkNak 0 1 0 strayReplay = .next t := ht
  rw [ht'] at hafter
  have hnot : flag t (Reg.TVL_EVENT 0) F.TVL_EVENT_REPLAY_LIMIT = false := hafter
  rw [show flag t (Reg.TVL_EVENT 0) F.TVL_EVENT_REPLAY_LIMIT = true from hflag] at hnot
  cases hnot

end Sys2Proof.Machine
end

section
/-! PROOF. A PMBus transaction as the rest of the device sees it: it writes the counters of the sideband, its latches and the answer, and every
reading and condition of Table 19.4 stays. -/

namespace Sys2Proof.Machine
open Host
set_option Elab.async false

/-- The registers of the sideband that a transaction writes. -/
def sidebandRegs : List (Nat × Nat × Nat) := [(Reg.SBM_CNT, 0, 0), (Reg.SBM_EVENT, 0, 0)]

/-- What a transaction keeps of the sideband: page, write protection, masks, means, connections, the response being formed, and the millisecond of
the last CLEAR_FAULTS. -/
def sbmKept (x : SbmSt) : SbmSt := { x with pages := [], input := 0, held := [], heldInput := 0, acked := false }

/-- `t` is `s` but for the answer, the sideband's latches and registers, and the free values drawn. -/
structure SidebandOnly (s t : State) : Prop where
  form : t = { s with resp := t.resp, regs := t.regs, sbm := t.sbm, freeCtr := t.freeCtr }
  regs : RdBut sidebandRegs s t
  kept : sbmKept t.sbm = sbmKept s.sbm

section
variable {s t u : State}

theorem SidebandOnly.refl : SidebandOnly s s := ⟨rfl, .refl, rfl⟩

theorem SidebandOnly.trans (h : SidebandOnly s t) (k : SidebandOnly t u) : SidebandOnly s u :=
  ⟨by rw [k.form, h.form], h.regs.trans k.regs, k.kept.trans h.kept⟩

theorem SidebandOnly.resp (h : SidebandOnly s t) (r : Resp) : SidebandOnly s { t with resp := r } :=
  h.trans ⟨rfl, .of_regs rfl, rfl⟩

theorem setSbm_only {f : SbmSt → SbmSt} (h : sbmKept (f s.sbm) = sbmKept s.sbm) : SidebandOnly s (setSbm s f) := ⟨rfl, .of_regs rfl, h⟩

theorem setPage_only (p : Nat) (f : PageSt → PageSt) : SidebandOnly s (setPage s p f) := ⟨rfl, .of_regs rfl, rfl⟩

theorem forEach_only {α : Type} {l : List α} {f : State → α → State} (h : ∀ t x, SidebandOnly t (f t x)) : SidebandOnly s (forEach l s f) := by
  unfold forEach
  induction l generalizing s with
  | nil => exact .refl
  | cons x l ih => exact (h s x).trans ih

theorem bump_only (f : Fld) : SidebandOnly s (bump s Reg.SBM_CNT f) := ⟨rfl, .mono bump_rdBut0 (by decide +kernel), rfl⟩

theorem raise_only (f : Fld) : SidebandOnly s (raise s Reg.SBM_EVENT f) := ⟨rfl, .mono raise_rdBut0 (by decide +kernel), rfl⟩

theorem drawNat_only (n : Nat) : SidebandOnly s (drawNat s n).2 := ⟨rfl, .of_regs rfl, rfl⟩

theorem alertAgain_only : SidebandOnly s (alertAgain t s) := by
  unfold alertAgain
  split
  · exact setSbm_only rfl
  · exact .refl

theorem setLatches_only (i j : Nat) (l : Tab PageSt) : SidebandOnly s (setSbm s (fun x => { x with input := i, held := l, heldInput := j })) := setSbm_only rfl

theorem pmRefresh_only : SidebandOnly s (pmRefresh s) := by
  unfold pmRefresh
  extract_lets s1 held
  have h : SidebandOnly s s1 := forEach_only fun _ _ => setPage_only _ _
  clear_value s1 held
  exact (h.trans (setLatches_only _ _ _)).trans alertAgain_only

theorem pmOpen_only : SidebandOnly s (pmOpen s) := by
  unfold pmOpen
  exact ((SidebandOnly.refl.resp .none).trans (bump_only _)).trans pmRefresh_only

theorem cmlSet_only (bit : Nat) : SidebandOnly s (cmlSet s bit) := by
  unfold cmlSet
  have h : SidebandOnly s (alertAgain s (forEach (pagesSel s) s (fun s p => setPage s p (fun x => { x with cml := x.cml ||| bit })))) :=
    (forEach_only fun _ _ => setPage_only _ _).trans alertAgain_only
  split
  · exact h.trans (raise_only _)
  · split
    · exact (h.trans (bump_only _)).trans (raise_only _)
    · split
      · exact (h.trans (bump_only _)).trans (raise_only _)
      · exact h

/-! ## What stays: the blocks, the registers and every condition -/

section
variable (h : SidebandOnly s t)
include h

theorem SidebandOnly.top : t.top = s.top := by rw [h.form]
theorem SidebandOnly.img : t.img = s.img := by rw [h.form]
theorem SidebandOnly.sec : t.sec = s.sec := by rw [h.form]
theorem SidebandOnly.fwc : t.fwc = s.fwc := by rw [h.form]
theorem SidebandOnly.tb : t.tb = s.tb := by rw [h.form]
theorem SidebandOnly.active : t.active = s.active := by rw [h.form]
theorem SidebandOnly.frames : framesOf t = framesOf s := by rw [h.form]; rfl
theorem SidebandOnly.structured : structured t = structured s := by rw [h.form]; rfl
theorem SidebandOnly.now : now t = now s := by rw [h.form]; rfl
theorem SidebandOnly.fld {off : Nat} (f : Fld) (ho : sidebandRegs.all (misses · off) = true := by decide +kernel) : fld t off f = fld s off f := h.regs.fld_eq f ho
theorem SidebandOnly.flag {off : Nat} (f : Fld) (ho : sidebandRegs.all (misses · off) = true := by decide +kernel) : flag t off f = flag s off f := h.regs.flag_eq f ho
theorem SidebandOnly.parts : parts t = parts s := by unfold Machine.parts partHere; rw [h.frames]
theorem SidebandOnly.railParts (p : Nat) : railParts t p = railParts s p := by unfold Machine.railParts partRail; rw [h.frames, h.parts]
theorem SidebandOnly.pageRail (p : Nat) : pageRail t p = pageRail s p := by unfold Machine.pageRail isRail; rw [h.frames]
theorem SidebandOnly.regions : regions t = regions s := by unfold Machine.regions; rw [h.frames, h.structured]
theorem SidebandOnly.railDies (p : Nat) : railDies t p = railDies s p := by unfold Machine.railDies dieHere dieRail; rw [h.frames]
theorem SidebandOnly.aF (off : Nat) (f : Fld) : aF t off f = aF s off f := aF_of_active h.active off f
theorem SidebandOnly.aOn (off : Nat) (f : Fld) : aOn t off f = aOn s off f := aOn_of_active h.active off f

end

theorem mem_parts_lt {p : Nat} (h : p ∈ parts s) : p < 32 := List.mem_range.1 (List.mem_filter.1 h).1

theorem lt_of_pageRail {p : Nat} (h : pageRail s p = true) : p < 8 := by
  unfold pageRail at h
  simp only [Bool.and_eq_true, decide_eq_true_eq] at h
  exact h.1

theorem any_congr {α : Type} {l : List α} {f g : α → Bool} (h : ∀ x ∈ l, f x = g x) : l.any f = l.any g := by
  rw [Bool.eq_iff_iff, List.any_eq_true, List.any_eq_true]
  exact exists_congr fun x => and_congr_right fun hx => by rw [h x hx]

section
variable (h : SidebandOnly s t)
include h

theorem SidebandOnly.parts_bind (q : Nat) (hq : q < 32) :
    Machine.fld t (Reg.CAP_BIND q) F.CAP_BIND_BIND = Machine.fld s (Reg.CAP_BIND q) F.CAP_BIND_BIND :=
  h.fld _ (misses_fin (g := Reg.CAP_BIND) (by decide +kernel) (⟨q, hq⟩ : Fin 32))

theorem SidebandOnly.chEvent (p : Nat) (f : Fld) : chEvent t p f = chEvent s p f := by
  unfold Machine.chEvent
  rw [h.pageRail]
  split
  case isTrue hp => exact h.fld _ (misses_fin (g := Reg.CH_EVENT) (by decide +kernel) (⟨p, lt_of_pageRail hp⟩ : Fin 8))
  · rfl

theorem SidebandOnly.latchBit (k p : Nat) : latchBit t k p = latchBit s k p := by
  unfold Machine.latchBit
  rw [h.regs.rd_eq]

theorem SidebandOnly.railBound (p : Nat) (l : List Nat) : railBound t p l = railBound s p l := by
  unfold Machine.railBound
  rw [h.railParts]
  exact any_congr fun q hq => by rw [h.parts_bind q (mem_parts_lt (List.mem_filter.1 hq).1)]

theorem SidebandOnly.voutCond (p : Nat) : voutCond t p = voutCond s p := by
  unfold Machine.voutCond
  rw [h.pageRail, h.latchBit, h.chEvent, h.chEvent, h.chEvent]

theorem SidebandOnly.ioutCond (p : Nat) : ioutCond t p = ioutCond s p := by
  unfold Machine.ioutCond
  rw [h.pageRail, h.latchBit, h.latchBit, h.railBound, h.regs.rd_eq]

theorem SidebandOnly.inputCond : inputCond t = inputCond s := by
  unfold Machine.inputCond
  rw [h.fld, h.fld, h.flag, h.flag, h.top, h.parts,
    any_congr (l := Machine.parts s) fun q hq => congrArg (bitOf · 11) (h.parts_bind q (mem_parts_lt hq))]

theorem SidebandOnly.tempCond (p : Nat) : tempCond t p = tempCond s p := by
  have hg (q : Nat) : (capOf t q).guard = (capOf s q).guard := by rw [h.form]; rfl
  unfold Machine.tempCond
  rw [h.regs.rd_eq, h.pageRail, h.parts, h.railParts]
  simp only [hg]

theorem SidebandOnly.mfrCond (p : Nat) : mfrCond t p = mfrCond s p := by
  have hk (k : Nat) : (regionOf t k).ncr = (regionOf s k).ncr := by rw [h.form]; rfl
  have hd (d : Nat) : (dieOf t d).link = (dieOf s d).link := by rw [h.form]; rfl
  have hm : t.dom.masterLost = s.dom.masterLost := by rw [h.form]
  have he : ((Machine.regions s).filter (fun k => k / 16 == p)).any (fun k => Machine.flag t (Reg.EST_RGN_EVENT k) F.EST_RGN_EVENT_DRIFT || Machine.flag t (Reg.EST_RGN_EVENT k) F.EST_RGN_EVENT_STEP)
      = ((Machine.regions s).filter (fun k => k / 16 == p)).any (fun k => Machine.flag s (Reg.EST_RGN_EVENT k) F.EST_RGN_EVENT_DRIFT || Machine.flag s (Reg.EST_RGN_EVENT k) F.EST_RGN_EVENT_STEP) :=
    any_congr fun k hm => by
      have hk : k < 128 := List.mem_range.1 (List.mem_filter.1 (List.mem_filter.1 hm).1).1
      rw [h.flag _ (misses_fin (g := Reg.EST_RGN_EVENT) (by decide +kernel) (⟨k, hk⟩ : Fin 128)),
        h.flag _ (misses_fin (g := Reg.EST_RGN_EVENT) (by decide +kernel) (⟨k, hk⟩ : Fin 128))]
  unfold Machine.mfrCond
  rw [h.pageRail, h.regions, h.top, h.fld, h.flag, h.railDies, hm]
  by_cases hp : Machine.pageRail s p = true
  · simp only [hp, if_true, hk, hd, he]
  · simp only [hp, hk, hd, List.any_nil, Bool.false_eq_true, if_false]

theorem SidebandOnly.pageCond (p : Nat) : pageCond t p = pageCond s p := by
  unfold Machine.pageCond
  rw [h.voutCond, h.ioutCond, h.tempCond, h.mfrCond]

end

section
variable (h : SidebandOnly s t)
include h

theorem SidebandOnly.page : t.sbm.page = s.sbm.page := (congrArg SbmSt.page h.kept :)
theorem SidebandOnly.wp : t.sbm.wp = s.sbm.wp := (congrArg SbmSt.wp h.kept :)
theorem SidebandOnly.masks : t.sbm.masks = s.sbm.masks := (congrArg SbmSt.masks h.kept :)
theorem SidebandOnly.mean : t.sbm.mean = s.sbm.mean := (congrArg SbmSt.mean h.kept :)
theorem SidebandOnly.conn : t.sbm.conn = s.sbm.conn := (congrArg SbmSt.conn h.kept :)
theorem SidebandOnly.spdm : t.sbm.spdm = s.sbm.spdm := (congrArg SbmSt.spdm h.kept :)
theorem SidebandOnly.heldMs : t.sbm.heldMs = s.sbm.heldMs := (congrArg SbmSt.heldMs h.kept :)
theorem SidebandOnly.pagesSel : pagesSel t = pagesSel s := by unfold Machine.pagesSel; rw [h.page]
theorem SidebandOnly.refreshed : refreshed t = refreshed s := by unfold Machine.refreshed; rw [h.heldMs, h.now]
theorem SidebandOnly.sbFlag (k : Nat) : sbFlag t k = sbFlag s k := by rw [h.form]; rfl
theorem SidebandOnly.smbAddr : smbAddr t = smbAddr s := by unfold Machine.smbAddr; rw [h.fld]
theorem SidebandOnly.pecOf (c b : List Byte) : pecOf t c b = pecOf s c b := by unfold Machine.pecOf; rw [h.smbAddr]

end

theorem alertAgain_resp : (alertAgain t s).resp = s.resp := by
  unfold alertAgain
  split <;> rfl

theorem forEach_setPage_resp {l : List Nat} {f : State → Nat → PageSt → PageSt} : (forEach l s (fun s p => setPage s p (f s p))).resp = s.resp :=
  forEach_keeps (Q := fun u => u.resp = s.resp) (fun _ _ h => h) rfl

theorem cmlSet_resp (s : State) (bit : Nat) : (cmlSet s bit).resp = s.resp := by
  unfold cmlSet
  extract_lets s1 s2
  have h : s2.resp = s.resp := alertAgain_resp.trans forEach_setPage_resp
  clear_value s2
  refine Eq.trans ?_ h
  split
  · exact raise_resp s2 _ _
  · split
    · exact (raise_resp _ _ _).trans (bump_resp s2 _ _)
    · split
      · exact (raise_resp _ _ _).trans (bump_resp s2 _ _)
      · rfl

theorem setLatches_resp (i j : Nat) (l : Tab PageSt) : (setSbm s (fun x => { x with input := i, held := l, heldInput := j })).resp = s.resp := rfl

theorem pmRefresh_resp : (pmRefresh s).resp = s.resp := by
  unfold pmRefresh
  extract_lets s1 held
  have h : s1.resp = s.resp := forEach_setPage_resp
  clear_value s1 held
  exact alertAgain_resp.trans ((setLatches_resp _ _ _).trans h)

theorem pmOpen_resp : (pmOpen s).resp = .none := pmRefresh_resp.trans rfl

/-! ## The latches -/

theorem pagesSel_nodup : (pagesSel s).Nodup := by
  unfold pagesSel
  split
  · exact List.nodup_singleton _
  · exact List.nodup_range

theorem pageOf_alertAgain (p : Nat) : pageOf (alertAgain t s) p = pageOf s p := by
  unfold alertAgain
  split <;> rfl

/-- A bit of STATUS_CML that a transaction sets is set on every page selected. -/
theorem bit_cmlSet {bit k : Nat} (hb : bitOf bit k = true) : ∀ p ∈ pagesSel s, bitOf (pageOf (cmlSet s bit) p).cml k = true := by
  intro p hp
  have hf : bitOf (pageOf (forEach (pagesSel s) s (fun s p => setPage s p (fun x => { x with cml := x.cml ||| bit }))) p).cml k = true := by
    refine forEach_once (I := fun _ => True) (Q := fun s => bitOf (pageOf s p).cml k = true) pagesSel_nodup hp (fun _ _ _ _ => trivial) (fun u _ => ?_)
      (fun u q hq hu => ?_) trivial
    · rw [pageOf_setPage, if_pos rfl]
      simp only [bitOf, Nat.testBit_or] at hb ⊢
      rw [hb, Bool.or_true]
    · rw [pageOf_setPage, if_neg hq]
      exact hu
  have he : pageOf (cmlSet s bit) p = pageOf (forEach (pagesSel s) s (fun s p => setPage s p (fun x => { x with cml := x.cml ||| bit }))) p := by
    unfold cmlSet
    extract_lets s1 s2
    have h2 : pageOf s2 p = pageOf s1 p := pageOf_alertAgain p
    rw [← h2]
    split
    · rfl
    · split
      · rfl
      · split <;> rfl
  rw [he]
  exact hf

theorem tabGet_foldl_set {α : Type} [DecidableEq α] (d : α) (g : Nat → α) (l : List Nat) (t : Tab α) (k : Nat) :
    tabGet d (l.foldl (fun t p => tabSet d t p (g p)) t) k = if k ∈ l then g k else tabGet d t k := by
  induction l generalizing t with
  | nil => rfl
  | cons x l ih =>
    rw [List.foldl_cons, ih, tabGet_tabSet]
    by_cases hk : k ∈ l
    · simp [hk]
    · by_cases hx : x = k
      · simp [hx]
      · simp [hk, hx, Ne.symm hx]

theorem heldOf_of_sbm (hn : now t = now s) (hh : t.sbm.held = s.sbm.held) (hm : t.sbm.heldMs = s.sbm.heldMs) (p : Nat) : heldOf t p = heldOf s p := by
  unfold heldOf refreshed
  rw [hn, hh, hm]

theorem pageNow_of (h : SidebandOnly s t) {p : Nat} (hp : pageOf t p = pageOf s p) (hh : t.sbm.held = s.sbm.held) : pageNow t p = pageNow s p := by
  unfold pageNow
  rw [hp, h.pageCond, heldOf_of_sbm h.now hh h.heldMs]

/-- The sweep of a refresh leaves every page as the controller reads it. -/
theorem pageOf_sweep {p : Nat} (hp : p < 9) : pageOf (forEach (List.range 9) s (fun s p => setPage s p (fun _ => pageNow s p))) p = pageNow s p := by
  refine forEach_once (I := fun u => SidebandOnly s u ∧ pageOf u p = pageOf s p ∧ u.sbm.held = s.sbm.held) (Q := fun u => pageOf u p = pageNow s p)
    List.nodup_range (List.mem_range.2 hp) (fun u q hq hu => ?_) (fun u hu => ?_) (fun u q hq hu => ?_) ⟨.refl, rfl, rfl⟩
  · obtain ⟨h, hpage, hheld⟩ := hu
    refine ⟨h.trans (setPage_only _ _), ?_, hheld⟩
    rw [pageOf_setPage, if_neg hq]
    exact hpage
  · obtain ⟨h, hpage, hheld⟩ := hu
    rw [pageOf_setPage, if_pos rfl]
    exact pageNow_of h hpage hheld
  · rw [pageOf_setPage, if_neg hq]
    exact hu

theorem pageOf_setLatches (i j : Nat) (l : Tab PageSt) (p : Nat) : pageOf (setSbm s (fun x => { x with input := i, held := l, heldInput := j })) p = pageOf s p := rfl

theorem pageOf_pmRefresh {p : Nat} (hp : p < 9) : pageOf (pmRefresh s) p = pageNow s p := by
  unfold pmRefresh
  extract_lets s1 held
  have h : pageOf s1 p = pageNow s p := pageOf_sweep hp
  clear_value s1 held
  exact (pageOf_alertAgain p).trans ((pageOf_setLatches _ _ _ p).trans h)

theorem sbm_alertAgain : (alertAgain t s).sbm = { s.sbm with acked := (alertAgain t s).sbm.acked } := by
  unfold alertAgain
  split <;> rfl

theorem held_pmRefresh {p : Nat} (hp : p < 9) : tabGet {} (pmRefresh s).sbm.held p = heldStill s p := by
  unfold pmRefresh
  extract_lets s1 held
  rw [sbm_alertAgain]
  exact (tabGet_foldl_set {} (heldStill s) (List.range 9) [] p).trans (if_pos (List.mem_range.2 hp))

theorem input_pmRefresh : (pmRefresh s).sbm.input = inputNow s := by
  unfold pmRefresh
  extract_lets s1 held
  rw [sbm_alertAgain]
  rfl

theorem heldInput_pmRefresh : (pmRefresh s).sbm.heldInput = heldInput s &&& inputCond s := by
  unfold pmRefresh
  extract_lets s1 held
  rw [sbm_alertAgain]
  rfl

theorem bitsLess_and (a b : Nat) : bitsLess a (b &&& a) = bitsLess a b := by
  unfold bitsLess
  rw [Nat.and_comm b a, ← Nat.and_assoc, Nat.and_self]

theorem or_or_self (a b : Nat) : (a ||| b) ||| b = a ||| b := by rw [Nat.or_assoc, Nat.or_self]

/-- What the controller reads does not change by reading it. -/
theorem pageNow_pmRefresh {p : Nat} (hp : p < 9) : pageNow (pmRefresh s) p = pageNow s p := by
  have h : SidebandOnly s (pmRefresh s) := pmRefresh_only
  have hh : heldOf (pmRefresh s) p = heldStill s p := by
    unfold heldOf
    rw [h.refreshed, held_pmRefresh hp]
    split
    case isTrue hr => simp [heldStill, heldOf, hr]
    · rfl
  conv_lhs => unfold pageNow
  rw [hh, h.pageCond, pageOf_pmRefresh hp]
  simp only [pageNow, heldStill, bitsLess_and, or_or_self]

theorem inputNow_pmRefresh : inputNow (pmRefresh s) = inputNow s := by
  have h : SidebandOnly s (pmRefresh s) := pmRefresh_only
  have hh : heldInput (pmRefresh s) = heldInput s &&& inputCond s := by
    conv_lhs => unfold heldInput
    rw [h.refreshed, heldInput_pmRefresh]
    split
    case isTrue hr => simp [heldInput, hr]
    · rfl
  unfold inputNow
  rw [hh, h.inputCond, input_pmRefresh, bitsLess_and]
  exact or_or_self _ _

theorem counted_only : SidebandOnly s (bump { s with resp := .none } Reg.SBM_CNT F.SBM_CNT_TRANSACTIONS) := (SidebandOnly.refl.resp .none).trans (bump_only _)

theorem pageNow_pmOpen {p : Nat} (hp : p < 9) : pageNow (pmOpen s) p = pageNow s p :=
  (pageNow_pmRefresh hp).trans (pageNow_of counted_only rfl rfl)

theorem inputNow_pmOpen : inputNow (pmOpen s) = inputNow s := by
  refine inputNow_pmRefresh.trans ?_
  unfold inputNow heldInput
  rw [counted_only.refreshed, counted_only.inputCond]
  rfl

theorem statusWord_pmOpen {p : Nat} (hp : p < 9) : statusWord (pmOpen s) p = statusWord s p := by
  have h : SidebandOnly s (pmOpen s) := pmOpen_only
  have ho : pageOff (pmOpen s) p = pageOff s p := by
    have hs : railState (pmOpen s) p = railState s p := by rw [h.form]; rfl
    unfold pageOff
    rw [h.top, h.pageRail, hs]
  unfold statusWord
  rw [pageNow_pmOpen hp, inputNow_pmOpen, ho]

end
end Sys2Proof.Machine
end

section
/-! PROOF. MCTP control and SPDM messages (O58): a message that a binding takes acts on a state that differs from the one before only in the sideband,
so what it measures and answers is read from the state before. -/

namespace Sys2Proof.Machine
open Host
set_option Elab.async false

section
variable {s t u : State} {pcie control : Bool} {dst : Byte} {need : Nat}

theorem mctpIn_of_takes (h : mctpTakes s pcie control dst = true) :
    ∃ u, SidebandOnly s u ∧ ∀ act : State → State, mctpIn s pcie control dst.toNat act = act u := by
  unfold mctpTakes at h
  simp only [Bool.and_eq_true, Bool.or_eq_true, Bool.not_eq_true'] at h
  obtain ⟨⟨⟨⟨hpor, hup⟩, hfl⟩, hsec⟩, hfor⟩ := h
  have hu : SidebandOnly s (if pcie then { s with resp := .none } else pmOpen s) := by
    cases pcie
    · exact pmOpen_only
    · exact SidebandOnly.refl.resp .none
  refine ⟨_, hu, fun act => ?_⟩
  unfold mctpIn
  rw [if_neg (by rintro (h | ⟨h, h'⟩) <;> simp_all)]
  generalize (if pcie = true then { s with resp := .none } else pmOpen s) = u at hu ⊢
  have hm : mctpFor u pcie control dst.toNat = true := by
    rw [← hfor]
    unfold mctpFor eidOf
    rw [hu.fld]
  show (if sbFlag u (if pcie = true then 4 else 3) = true then _ else if (!flag u Reg.TOP_SUPPLY F.TOP_SUPPLY_SEC_OK) = true ∨ (!mctpFor u pcie control dst.toNat) = true then _ else _) = _
  rw [hu.sbFlag, hfl, hu.flag, hsec, hm]
  simp

theorem spdmBusy_of (h : SidebandOnly s u) : spdmBusy u = spdmBusy s := by
  unfold spdmBusy
  rw [h.spdm, h.img, h.fwc, h.sec]

theorem spdmIn_of_takes (h : spdmTakes s pcie dst need = true) :
    ∃ u, SidebandOnly s u ∧ ∀ act : State → State, spdmIn s pcie dst.toNat need act = act u := by
  unfold spdmTakes at h
  simp only [Bool.and_eq_true, Bool.not_eq_true', decide_eq_true_eq] at h
  obtain ⟨⟨hm, hbusy⟩, hconn⟩ := h
  obtain ⟨u, hu, hact⟩ := mctpIn_of_takes hm
  refine ⟨u, hu, fun act => ?_⟩
  unfold spdmIn
  rw [hact, spdmBusy_of hu, hbusy, hu.conn, if_neg (by decide), if_neg (by omega)]

/-- What SEC measures does not depend on the sideband. -/
theorem measBlock_of (h : SidebandOnly s u) (i : Nat) : measBlock u i = measBlock s i := by
  have hd : imgDigest u = imgDigest s := by
    unfold imgDigest
    refine congrArg List.sum (List.map_congr_left fun k hk => ?_)
    rw [h.regs.rd_eq (misses_fin (g := Reg.SEC_IMG_DIGEST) (by decide +kernel) (⟨k, List.mem_range.1 hk⟩ : Fin 12))]
  have hf : fuseList u = fuseList s := by rw [h.form]; rfl
  have hc (n : Nat) : coreDigest u n = coreDigest s n := by rw [h.form]; rfl
  unfold measBlock modeBlock rbWord
  rw [hd, hf, hc, h.img, h.sec, h.top, h.fld]

theorem measAll_of (h : SidebandOnly s u) : measAll u = measAll s := by
  unfold measAll
  simp only [measBlock_of h]

theorem eidOf_set_same {v : Nat} (hv : v < 256) : eidOf (setF s Reg.SBM_EID (eidF pcie) v) pcie = v := by
  cases pcie
  · exact (fld_setF_same _ _ _ _ (by decide)).trans (Nat.mod_eq_of_lt hv)
  · exact (fld_setF_same _ _ _ _ (by decide)).trans (Nat.mod_eq_of_lt hv)

theorem eidOf_set_other {v : Nat} : eidOf (setF s Reg.SBM_EID (eidF pcie) v) (!pcie) = eidOf s (!pcie) := by
  cases pcie
  · exact fld_setF_apart _ _ _ _ _ (by decide) (by decide)
  · exact fld_setF_apart _ _ _ _ _ (by decide) (by decide)

theorem eidOf_of (h : SidebandOnly s u) (pcie : Bool) : eidOf u pcie = eidOf s pcie := h.fld _

theorem stage_spdmStage (n : Nat) : tabGet 0 (spdmStage s pcie n).sbm.conn (b2n pcie) = n := (tabGet_tabSet _ _ _ _ _).trans (if_pos rfl)

/-- A control message that a binding may not take, or the model does not answer: no answer. -/
theorem mctpIn_locked {act : State → State} (h : sbFlag s (if pcie then 4 else 3) = true) : (mctpIn s pcie control dst.toNat act).resp = .none := by
  unfold mctpIn
  split
  · rfl
  cases pcie
  · have hl : sbFlag (pmOpen s) 3 = true := (pmOpen_only.sbFlag 3).trans h
    show (if sbFlag (pmOpen s) 3 = true then cmlSet (pmOpen s) 128 else _).resp = _
    rw [if_pos hl]
    exact (cmlSet_resp _ _).trans pmOpen_resp
  · have hl : sbFlag { s with resp := .none } 4 = true := h
    show (if sbFlag { s with resp := .none } 4 = true then { s with resp := .none } else _).resp = _
    rw [if_pos hl]

end

/-- Settles O58: a message taken acts on a state of `SidebandOnly`, and each request's clause is its arm on that state. -/
theorem attestationResults : Obligations.AttestationResults := by
  unfold Obligations.AttestationResults
  intro formed
  refine ⟨?_, ?_, ?_, ?_, ?_, ?_, ?_, ?_, ?_⟩
  · intro pcie dst eid s h
    obtain ⟨u, hu, hact⟩ := mctpIn_of_takes h
    refine ⟨⟨_, congrArg Outcome.next (hact _), ?_, ?_⟩, ⟨_, congrArg Outcome.next (hact _), ?_⟩, ⟨_, congrArg Outcome.next (hact _), rfl⟩,
      ⟨_, congrArg Outcome.next (hact _), rfl⟩, ⟨_, congrArg Outcome.next (hact _), rfl⟩, ⟨_, congrArg Outcome.next (hact _), rfl⟩⟩
    · intro h0 hf
      rw [if_neg (not_or.2 ⟨h0, hf⟩)]
      exact ⟨eidOf_set_same eid.isLt, eidOf_set_other.trans (eidOf_of hu _), rfl⟩
    · intro he
      rw [if_pos he]
      exact ⟨eidOf_of hu _, rfl⟩
    · exact congrArg (fun n => Resp.data (leBytes 1 n)) (eidOf_of hu _)
  · intro pcie dst s h
    exact ⟨_, rfl, mctpIn_locked h⟩
  · intro pcie dst s h
    obtain ⟨u, hu, hact⟩ := mctpIn_of_takes h
    refine ⟨fun hb => ⟨_, congrArg Outcome.next (hact _), ?_⟩, fun hb hc => ⟨_, congrArg Outcome.next (hact _), ?_⟩⟩
    · beta_reduce
      rw [spdmBusy_of hu, if_pos hb]
      exact ⟨rfl, hu.spdm⟩
    · beta_reduce
      rw [spdmBusy_of hu, if_neg (by simp [hb]), hu.conn, if_pos hc]
      rfl
  · intro pcie dst s h
    obtain ⟨u, hu, hact⟩ := spdmIn_of_takes h
    exact ⟨⟨_, congrArg Outcome.next (hact _), rfl, stage_spdmStage 1⟩, ⟨_, congrArg Outcome.next (hact _), rfl⟩⟩
  · intro pcie dst s h
    obtain ⟨u, hu, hact⟩ := spdmIn_of_takes h
    exact ⟨_, congrArg Outcome.next (hact _), rfl, stage_spdmStage 2⟩
  · intro pcie dst s h
    obtain ⟨u, hu, hact⟩ := spdmIn_of_takes h
    exact ⟨⟨_, congrArg Outcome.next (hact _), rfl, stage_spdmStage 3⟩, ⟨_, congrArg Outcome.next (hact _), rfl⟩⟩
  · intro pcie dst slot off len s h
    obtain ⟨u, hu, hact⟩ := spdmIn_of_takes h
    refine ⟨⟨_, congrArg Outcome.next (hact _), ?_, ?_⟩, ⟨_, congrArg Outcome.next (hact _), ?_, ?_, ?_⟩⟩
    · intro he
      rw [hu.sec, if_pos he]
      rfl
    · intro he
      rw [hu.sec, if_neg (by simp [he])]
      rfl
    · intro he
      rw [hu.sec, if_pos he]
      rfl
    · intro he hs ho
      rw [hu.sec, if_neg (by simp [he]), if_neg (by rintro (h | h); exacts [h hs, absurd ho (by omega)])]
      rfl
    · intro he hs
      rw [hu.sec, if_neg (by simp [he]), if_pos hs]
      rfl
  · intro pcie dst slot index flag_ s h
    obtain ⟨u, hu, hact⟩ := spdmIn_of_takes h
    have hd : SidebandOnly s (spdmSign u).2 := hu.trans (drawNat_only (2 ^ 384))
    refine ⟨⟨_, congrArg Outcome.next (hact _), ?_, ?_⟩, ⟨_, congrArg Outcome.next (hact _), ?_⟩⟩
    · intro hs
      rw [if_pos hs]
      rfl
    · intro hs
      rw [if_neg (by simp [hs])]
      refine ⟨(spdmSign u).1, ?_⟩
      rw [← measAll_of hd]
      rfl
    · have hblocks : (if index.toNat = 0xFF then measAll u else [(index.toNat, measBlock u index.toNat)])
          = (if index.toNat = 0xFF then measAll s else [(index.toNat, measBlock s index.toNat)]) := by
        rw [measAll_of hu, measBlock_of hu]
      extract_lets i blocks measured
      have hm : measured = blocks := hblocks
      refine ⟨fun h1 h2 => ?_, fun h1 hf => ?_, fun h1 hf hs => ⟨(spdmSign u).1, ?_⟩⟩
      · rw [if_pos (Or.inr ⟨h1, h2⟩)]
        rfl
      · rw [if_neg (by rintro (⟨h, -⟩ | ⟨h, h'⟩); exacts [by simp [hf] at h, by omega]), hm, if_neg (by simp [hf])]
        rfl
      · rw [if_neg (by rintro (⟨-, h⟩ | ⟨h, h'⟩); exacts [h hs, by omega]), hm, if_pos hf]
        rfl
  · intro q s hq
    refine ⟨_, rfl, ?_⟩
    rw [hq]
    exact ⟨rfl, rfl⟩

end Sys2Proof.Machine
end

section
/-! PROOF. PMBus writes and the bus (O57): a transaction opens on a state that differs only in the sideband, and each command's arm then writes its value
or the bit of STATUS_CML that its refusal sets. -/

namespace Sys2Proof.Machine
open Host
set_option Elab.async false

section
variable {s t u : State} {cmd d b : List Byte} {k : PgKind} {n : Nat} {get : State → List Byte × State} {put : State → List Byte → State}

/-! ## A transaction, by its direction and PEC -/

theorem pmBus_read (h : s.top.porHeld = false) (hf : pageFits s k = true) :
    pmBus s cmd k .read n get put = pmReply (get (pmOpen s)).2 cmd (get (pmOpen s)).1 := by
  have hf' : pageFits (pmOpen s) k = true := by
    rw [← hf]
    cases k <;> simp only [pageFits, pmOpen_only.page]
  unfold pmBus
  rw [if_neg (by simp [h])]
  exact if_pos hf'

theorem pageFits_of (h : SidebandOnly s u) : pageFits u k = pageFits s k := by
  cases k <;> simp only [pageFits, h.page]

theorem pmBus_write (h : s.top.porHeld = false) (hf : pageFits s k = true) : pmBus s cmd k (.write d (some true)) n get put = put (pmOpen s) d := by
  unfold pmBus
  rw [if_neg (by simp [h])]
  exact if_pos ((pageFits_of pmOpen_only).trans hf)

theorem pmBus_badPec (h : s.top.porHeld = false) : pmBus s cmd k (.write d (some false)) n get put = cmlSet (pmOpen s) 32 := by
  unfold pmBus
  rw [if_neg (by simp [h])]
  rfl

theorem pmBus_noPec (h : s.top.porHeld = false) (hp : pecReq s = true) : pmBus s cmd k (.write d none) n get put = pmOpen s := by
  unfold pmBus
  rw [if_neg (by simp [h])]
  exact if_pos ((pmOpen_only.sbFlag 1).trans hp)

/-- A reply is answered with its PEC, which the transaction does not change. -/
theorem reply_answers (h : SidebandOnly s u) : (pmReply u cmd b).resp = .pmb b (pecOf s cmd b) := by
  show Resp.pmb b (pecOf u cmd b) = _
  rw [h.pecOf]

/-- The bit of STATUS_CML that a refusal sets, on every page selected before the transaction. -/
theorem cmlBit (h : SidebandOnly s u) {bit k : Nat} (hb : bitOf bit k = true) : ∀ p ∈ pagesSel s, bitOf (pageOf (cmlSet u bit) p).cml k = true :=
  fun p hp => bit_cmlSet hb p (h.pagesSel ▸ hp)

theorem wpAdmits_of (h : SidebandOnly s u) (tier : Nat) : wpAdmits u tier = wpAdmits s tier := by
  unfold wpAdmits
  rw [h.wp]

theorem putByte_one {act : State → Nat → State} {v : Byte} {tier : Nat} : putByte u tier [v] act = if wpAdmits u tier then act u v.toNat else cmlSet u 64 := rfl

theorem flag_cmlSet_pec : flag (cmlSet s 32) Reg.SBM_EVENT F.SBM_EVENT_PEC_ERR = true := by
  unfold cmlSet
  extract_lets s1 s2
  clear_value s2
  rw [if_neg (by decide), if_pos rfl]
  exact flag_raise _ _ _ (by decide)

/-! ## CLEAR_FAULTS, the masks, the cap and the resets -/

theorem clearFaults_input : (clearFaults s).sbm.input = 0 := by
  unfold clearFaults
  extract_lets held s1
  exact forEach_keeps (Q := fun u => u.sbm.input = 0) (fun _ _ h => h) rfl

theorem clearFaults_page {p : Nat} (hp : p ∈ pagesSel s) : pageOf (clearFaults s) p = {} := by
  unfold clearFaults
  extract_lets held s1
  clear_value s1
  refine forEach_once (I := fun _ => True) (Q := fun u => pageOf u p = {}) pagesSel_nodup hp (fun _ _ _ _ => trivial) (fun u _ => ?_) (fun u q hq hu => ?_) trivial
  · rw [pageOf_setPage, if_pos rfl]
  · rw [pageOf_setPage, if_neg hq]
    exact hu

theorem maskOf_alertAgain (p c : Nat) : maskOf (alertAgain t s) p c = maskOf s p c := by
  unfold alertAgain
  split <;> rfl

theorem maskOf_set (p c v : Nat) : maskOf (setSbm s (fun x => { x with masks := tabSet 0 x.masks (256 * p + c) v })) p c = v :=
  (tabGet_tabSet _ _ _ _ _).trans (if_pos rfl)

theorem bmcCommit_of_owner (h : (rd s Reg.TOP_COMMIT_OWNER).toNat = 0) : bmcCommit s = s := by
  unfold bmcCommit
  exact if_neg (by rw [h]; simp)

/-- The cap that a write leaves in SBM_BMC_CAP, pending and reported. -/
theorem bmcCapPut_takes {w : Nat} (hen : bmcCapEn s = true) (hmin : (linVal w 3).1 = 0 ∨ ((bmcCapMin s * (linVal w 3).2 : Nat) : Int) ≤ (linVal w 3).1)
    (hv : (roundQ (linVal w 3).1 (linVal w 3).2).toNat < 65536) (ho : (rd s Reg.TOP_COMMIT_OWNER).toNat = 0) :
    fld (bmcCapPut s w) Reg.SBM_BMC_CAP F.SBM_BMC_CAP_CAP = (roundQ (linVal w 3).1 (linVal w 3).2).toNat
      ∧ flag (bmcCapPut s w) Reg.SBM_BMC_CAP F.SBM_BMC_CAP_PENDING = true ∧ flag (bmcCapPut s w) Reg.SBM_EVENT F.SBM_EVENT_BMC_CAP = true := by
  unfold bmcCapPut
  generalize linVal w 3 = x at hmin hv ⊢
  obtain ⟨n, m⟩ := x
  dsimp only at hmin hv ⊢
  rw [if_pos ⟨hen, hmin⟩]
  generalize (roundQ n m).toNat = v at hv ⊢
  rw [if_pos hv]
  dsimp only
  have h1 : fld (setF s Reg.SBM_BMC_CAP F.SBM_BMC_CAP_CAP v) Reg.SBM_BMC_CAP F.SBM_BMC_CAP_CAP = v :=
    (fld_setF_same _ _ _ _ (by decide)).trans (Nat.mod_eq_of_lt hv)
  have e1 : RdBut [(Reg.SBM_BMC_CAP, 0, 0)] s (setF s Reg.SBM_BMC_CAP F.SBM_BMC_CAP_CAP v) := setF_rdBut0
  generalize setF s Reg.SBM_BMC_CAP F.SBM_BMC_CAP_CAP v = s1 at h1 e1 ⊢
  have h2 : fld (raise s1 Reg.SBM_BMC_CAP F.SBM_BMC_CAP_PENDING) Reg.SBM_BMC_CAP F.SBM_BMC_CAP_CAP = v :=
    (fld_setF_apart _ _ _ _ _ (by decide) (by decide)).trans h1
  have p2 : flag (raise s1 Reg.SBM_BMC_CAP F.SBM_BMC_CAP_PENDING) Reg.SBM_BMC_CAP F.SBM_BMC_CAP_PENDING = true := flag_raise _ _ _ (by decide)
  have e2 : RdBut [(Reg.SBM_BMC_CAP, 0, 0)] s (raise s1 Reg.SBM_BMC_CAP F.SBM_BMC_CAP_PENDING) := e1.trans raise_rdBut0
  generalize raise s1 Reg.SBM_BMC_CAP F.SBM_BMC_CAP_PENDING = s2 at h2 p2 e2 ⊢
  have r3 : RdBut [(Reg.SBM_EVENT, 0, 0)] s2 (raise s2 Reg.SBM_EVENT F.SBM_EVENT_BMC_CAP) := raise_rdBut0
  have v3 : flag (raise s2 Reg.SBM_EVENT F.SBM_EVENT_BMC_CAP) Reg.SBM_EVENT F.SBM_EVENT_BMC_CAP = true := flag_raise _ _ _ (by decide)
  generalize raise s2 Reg.SBM_EVENT F.SBM_EVENT_BMC_CAP = s3 at r3 v3 ⊢
  rw [bmcCommit_of_owner ((congrArg BitVec.toNat (record_rdBut.rd_eq.trans (r3.rd_eq.trans e2.rd_eq))).trans ho)]
  exact ⟨(record_rdBut.fld_eq _).trans ((r3.fld_eq _).trans h2), (record_rdBut.flag_eq _).trans ((r3.flag_eq _).trans p2), (record_rdBut.flag_eq _).trans v3⟩

theorem bmcCapPut_refuses {w : Nat}
    (h : ¬ (bmcCapEn s = true ∧ ((linVal w 3).1 = 0 ∨ ((bmcCapMin s * (linVal w 3).2 : Nat) : Int) ≤ (linVal w 3).1))) : bmcCapPut s w = cmlSet s 64 := by
  unfold bmcCapPut
  exact if_neg h

/-- A request of a device or warm reset leaves its level in LAST_LEVEL. -/
theorem lastLevel_resetRequest {smbus : Bool} {level : Nat} (hl : level = 1 ∨ level = 2) :
    fld (resetRequest s smbus level 0x5A) Reg.TOP_RST_STATUS F.TOP_RST_STATUS_LAST_LEVEL = level := by
  unfold resetRequest
  extract_lets s1
  have h1 : fld s1 Reg.TOP_RST_STATUS F.TOP_RST_STATUS_LAST_LEVEL = level :=
    (fld_setF_same _ _ _ _ (by decide)).trans (Nat.mod_eq_of_lt (by show level < 2 ^ 3; omega))
  clear_value s1
  have keeps (u : State) (c : Nat) : fld (rstResult u c) Reg.TOP_RST_STATUS F.TOP_RST_STATUS_LAST_LEVEL = fld u Reg.TOP_RST_STATUS F.TOP_RST_STATUS_LAST_LEVEL :=
    fld_setF_apart _ Reg.TOP_RST_STATUS F.TOP_RST_STATUS_RESULT F.TOP_RST_STATUS_LAST_LEVEL c (by decide) (by decide)
  have refuse (c : Nat) : fld (rstRefuse s1 level c) Reg.TOP_RST_STATUS F.TOP_RST_STATUS_LAST_LEVEL = level :=
    (rstEntry_rdBut.fld_eq _).trans ((keeps s1 c).trans h1)
  rw [if_neg (by omega)]
  split
  case h_1 r hr =>
    unfold rstAgain
    extract_lets same s2
    have h2 : fld s2 Reg.TOP_RST_STATUS F.TOP_RST_STATUS_LAST_LEVEL = level := by
      show fld (if same = true then rstEntry s1 2 7 else s1) _ _ = _
      split
      · exact (rstEntry_rdBut.fld_eq _).trans h1
      · exact h1
    clear_value s2
    split
    · exact (keeps _ 1).trans (((RdBut.of_regs (F := []) rfl).fld_eq _).trans h2)
    · split
      · split
        · exact refuse _
        · rw [if_neg (by omega), fld_rstBegin, keeps]
          exact ((RdBut.forEach fun _ _ => rstEntry_rdBut).fld_eq _).trans h1
      · exact refuse 7
  case h_2 hr =>
    rw [if_neg (by omega)]
    split
    · exact refuse _
    · rw [fld_rstBegin, keeps]
      exact h1

theorem mfrResetPut_takes {v : Nat} (hen : resetEn s = true) (hv : v = 1 ∨ v = 2) :
    fld (mfrResetPut s v) Reg.TOP_RST_STATUS F.TOP_RST_STATUS_LAST_LEVEL = 3 - v ∧ flag (mfrResetPut s v) Reg.SBM_EVENT F.SBM_EVENT_BMC_RESET = true := by
  unfold mfrResetPut
  rw [if_pos ⟨hen, hv⟩]
  extract_lets s1
  have h1 : fld s1 Reg.TOP_RST_STATUS F.TOP_RST_STATUS_LAST_LEVEL = 3 - v := lastLevel_resetRequest (by omega)
  clear_value s1
  exact ⟨(record_rdBut.fld_eq _).trans ((raise_rdBut0.fld_eq _).trans h1), (record_rdBut.flag_eq _).trans (flag_raise _ _ _ (by decide))⟩

theorem cmlSet_timeout : flag (cmlSet s 2) Reg.SBM_EVENT F.SBM_EVENT_TIMEOUT = true
    ∧ fld (cmlSet s 2) Reg.SBM_CNT F.SBM_CNT_TIMEOUT = min (fld s Reg.SBM_CNT F.SBM_CNT_TIMEOUT + 1) 255 := by
  unfold cmlSet
  extract_lets s1 s2
  have h1 : s1.regs = s.regs := forEach_keeps (Q := fun u => u.regs = s.regs) (fun _ _ h => h) rfl
  have h2 : s2.regs = s.regs := by
    refine Eq.trans ?_ h1
    show (alertAgain s s1).regs = _
    unfold alertAgain
    split <;> rfl
  clear_value s2
  rw [if_neg (by decide), if_neg (by decide), if_pos rfl]
  refine ⟨flag_raise _ _ _ (by decide), (raise_rdBut0.fld_eq _).trans ?_⟩
  refine (fld_setF_same _ _ _ _ (by decide)).trans ?_
  rw [(RdBut.of_regs (F := []) h2).fld_eq]
  exact Nat.mod_eq_of_lt (by show min _ (2 ^ 8 - 1) < 2 ^ 8; omega)

end

/-- Settles O57: every write's clause is its arm on the state in which the transaction opens. -/
theorem pmbusWrites : Obligations.PmbusWrites := by
  unfold Obligations.PmbusWrites
  intro answers bit
  have ho (s : State) : SidebandOnly s (pmOpen s) := pmOpen_only
  refine ⟨?_, ?_, ?_, ?_, ?_, ?_, ?_, ?_, ?_⟩
  · intro b s hp
    refine ⟨⟨_, congrArg Outcome.next (pmBus_read hp rfl), ?_⟩, ⟨_, congrArg Outcome.next (pmBus_write hp rfl), ?_, ?_⟩,
      ⟨_, congrArg Outcome.next (pmBus_badPec hp), (cmlSet_only 32).page.trans (ho s).page, cmlBit (ho s) (by decide), flag_cmlSet_pec⟩,
      fun hr => ⟨_, congrArg Outcome.next (pmBus_noPec hp hr), (ho s).page⟩⟩
    · refine (reply_answers (ho s)).trans ?_
      show Resp.pmb (leBytes 1 (pmOpen s).sbm.page) _ = _
      rw [(ho s).page]
    · intro hb hw
      rw [putByte_one, wpAdmits_of (ho s), if_pos hw, if_pos hb]
      rfl
    · intro hb
      have hc : putByte (pmOpen s) 3 [b] (fun s v => if v ≤ 8 ∨ v = 0xFF then setSbm s (fun x => { x with page := v }) else cmlSet s 64) = cmlSet (pmOpen s) 64 := by
        rw [putByte_one, wpAdmits_of (ho s)]
        rcases hb with hb | hb
        · rw [if_neg (c := b.toNat ≤ 8 ∨ _) (by omega), ite_self]
        · rw [if_neg (by simp [hb])]
      rw [hc]
      exact ⟨(cmlSet_only 64).page.trans (ho s).page, cmlBit (ho s) (by decide)⟩
  · intro b s hp
    refine ⟨⟨_, congrArg Outcome.next (pmBus_read hp rfl), ?_⟩, ⟨_, congrArg Outcome.next (pmBus_write hp rfl), ?_, ?_⟩⟩
    · refine (reply_answers (ho s)).trans ?_
      show Resp.pmb (leBytes 1 (pmOpen s).sbm.wp) _ = _
      rw [(ho s).wp]
    · intro hb
      dsimp only
      rw [if_pos (List.contains_iff_mem.2 hb)]
      rfl
    · intro hb
      dsimp only
      rw [if_neg (fun h => hb (List.contains_iff_mem.1 h))]
      exact ⟨(cmlSet_only 64).wp.trans (ho s).wp, cmlBit (ho s) (by decide)⟩
  · intro s hp
    refine ⟨_, congrArg Outcome.next (pmBus_write hp rfl), fun hw => ?_, fun hw => ?_⟩
    · rw [if_pos ⟨rfl, (wpAdmits_of (ho s) 2).trans hw⟩]
      exact ⟨clearFaults_input, fun p h => clearFaults_page ((ho s).pagesSel ▸ h)⟩
    · rw [if_neg (fun h => absurd ((wpAdmits_of (ho s) 2).symm.trans h.2) (by simp [hw]))]
      exact cmlBit (ho s) (by decide)
  · intro code b s hp hpage hcode
    have hf : pageFits s .both = true := decide_eq_true hpage
    have hk : [0x7A, 0x7B, 0x7C, 0x7D, 0x7E, 0x80].contains code.toNat = true := List.contains_iff_mem.2 hcode
    refine ⟨⟨_, congrArg Outcome.next (pmBus_read hp hf), ?_⟩, ⟨_, congrArg Outcome.next (pmBus_write hp hf), fun hw => ?_, fun hw => ?_⟩⟩
    · beta_reduce
      rw [if_pos hk]
      refine (reply_answers (ho s)).trans ?_
      have hm : maskOf (pmOpen s) (pmOpen s).sbm.page code.toNat = maskOf s s.sbm.page code.toNat := by
        unfold maskOf
        rw [(ho s).masks, (ho s).page]
      dsimp only
      rw [hm]
    · rw [putByte_one, wpAdmits_of (ho s), if_pos hw, if_pos hk, maskOf_alertAgain, ← (ho s).page]
      exact maskOf_set _ _ _
    · rw [putByte_one, wpAdmits_of (ho s), if_neg (by simp [hw])]
      exact ⟨(cmlSet_only 64).masks.trans (ho s).masks, cmlBit (ho s) (by decide)⟩
  · intro d s hp hpage hd x ok
    have hf : pageFits s .dev = true := by unfold pageFits; rw [hpage]; rfl
    have hen : bmcCapEn (pmOpen s) = bmcCapEn s := (ho s).sbFlag 2
    have hmin : bmcCapMin (pmOpen s) = bmcCapMin s := by
      unfold bmcCapMin
      rw [hen, (ho s).form]
      rfl
    refine ⟨⟨_, congrArg Outcome.next (pmBus_read hp hf), ?_⟩, ⟨_, congrArg Outcome.next (pmBus_write hp hf), ?_, ?_⟩⟩
    · refine (reply_answers (ho s)).trans ?_
      dsimp only
      rw [(ho s).fld]
    · rintro ⟨h1, h2, h3⟩ hv hown
      rw [if_pos ⟨hd, (wpAdmits_of (ho s) 1).trans h2⟩]
      exact bmcCapPut_takes (hen.trans h1) (by rw [hmin]; exact h3) hv ((congrArg BitVec.toNat (ho s).regs.rd_eq).trans hown)
    · intro hno
      have hc : (if d.length = 2 ∧ wpAdmits (pmOpen s) 1 = true then bmcCapPut (pmOpen s) (leAt d 0 2) else cmlSet (pmOpen s) 64) = cmlSet (pmOpen s) 64 := by
        split
        case isTrue h =>
          refine bmcCapPut_refuses fun hx => hno ⟨hen.symm.trans hx.1, (wpAdmits_of (ho s) 1).symm.trans h.2, ?_⟩
          have := hx.2
          rw [hmin] at this
          exact this
        · rfl
      rw [hc]
      exact ⟨((ho s).trans (cmlSet_only 64)).regs.rd_eq, cmlBit (ho s) (by decide)⟩
  · intro b s hp hpage ok
    have hf : pageFits s .dev = true := by unfold pageFits; rw [hpage]; rfl
    have hen : resetEn (pmOpen s) = resetEn s := (ho s).sbFlag 0
    refine ⟨⟨_, congrArg Outcome.next (pmBus_read hp hf), ?_⟩, ⟨_, congrArg Outcome.next (pmBus_write hp hf), ?_, ?_⟩⟩
    · refine (reply_answers (ho s)).trans ?_
      dsimp only
      rw [(ho s).fld]
    · rintro ⟨h1, h2, h3⟩
      rw [putByte_one, wpAdmits_of (ho s), if_pos h1]
      exact mfrResetPut_takes (hen.trans h2) h3
    · intro hno
      have hc : putByte (pmOpen s) 1 [b] mfrResetPut = cmlSet (pmOpen s) 64 := by
        rw [putByte_one, wpAdmits_of (ho s)]
        split
        case isTrue h => exact if_neg fun hx => hno ⟨h, hen.symm.trans hx.1, hx.2⟩
        · rfl
      rw [hc]
      exact ⟨((ho s).trans (cmlSet_only 64)).regs.rd_eq, ((ho s).trans (cmlSet_only 64)).top, cmlBit (ho s) (by decide)⟩
  · intro code n d s hp
    exact ⟨⟨_, congrArg Outcome.next (pmBus_read hp rfl), reply_answers ((ho s).trans (cmlSet_only 128)), cmlBit (ho s) (by decide)⟩,
      ⟨_, congrArg Outcome.next (pmBus_write hp rfl), cmlBit (ho s) (by decide)⟩⟩
  · intro s hp
    refine ⟨_, congrArg Outcome.next (if_neg (by simp [hp])), fun ha => ?_, fun ha => ?_⟩
    · dsimp only
      rw [if_pos ha]
      refine ⟨?_, Bool.and_false _⟩
      exact congrArg (fun a => Resp.pmb (leBytes 1 (2 * a)) (BitVec.ofNat 8 (crc8 (leBytes 1 0x19 ++ leBytes 1 (2 * a))))) (ho s).smbAddr
    · dsimp only
      rw [if_neg (by simp [ha])]
  · intro s hp
    exact ⟨_, congrArg Outcome.next (if_neg (by simp [hp])), cmlBit .refl (by decide), cmlSet_timeout⟩

end Sys2Proof.Machine
end

section
/-! PROOF. PMBus reads (O56): each value of Table 19.3 is the same in the state in which the transaction opens. -/

namespace Sys2Proof.Machine
open Host
set_option Elab.async false

section
variable {s t u : State}

theorem lt_of_mem_railPhases {r p : Nat} (h : p ∈ railPhases s r) : p < 64 := by
  obtain ⟨q, hq, hp⟩ := List.mem_flatMap.1 h
  have hl : q < 16 := List.mem_range.1 (List.mem_filter.1 hq).1
  simp only [quadPhases, List.mem_cons, List.not_mem_nil, or_false] at hp
  omega

theorem misses_sideband {off : Nat} (h : off < Reg.SBM_CNT) (h' : off < Reg.SBM_EVENT) : sidebandRegs.all (misses · off) = true := by
  simp [sidebandRegs, misses, h, h']

section
variable (h : SidebandOnly s u)
include h

theorem SidebandOnly.meanOf (k : Nat) (v : Int) : meanOf u k v = meanOf s k v := by
  unfold Machine.meanOf
  rw [h.mean, h.tb]

theorem SidebandOnly.sense {r : Nat} (hr : r < 8) : sense u r = sense s r :=
  h.fld _ (misses_fin (g := Reg.CH_VSENSE) (by decide +kernel) (⟨r, hr⟩ : Fin 8))

theorem SidebandOnly.railI {r : Nat} (hr : r < 8) : railI u r = railI s r := by
  unfold Machine.railI
  rw [h.regs.rd_eq (misses_fin (g := Reg.CH_I) (by decide +kernel) (⟨r, hr⟩ : Fin 8))]

theorem SidebandOnly.powMean {r : Nat} (hr : r < 8) : powMean u r = powMean s r := by
  unfold Machine.powMean
  rw [h.meanOf, h.sense hr, h.railI hr]

theorem SidebandOnly.rails : rails u = rails s := by
  unfold Machine.rails isRail
  rw [h.frames]

theorem SidebandOnly.poutAll : poutAll u = poutAll s := by
  unfold Machine.poutAll
  rw [h.rails]
  exact List.foldl_ext _ _ _ fun a r hr => by rw [h.powMean (lt_of_mem_rails hr)]

theorem SidebandOnly.vinMean : vinMean u = vinMean s := by
  unfold Machine.vinMean
  rw [h.meanOf, h.fld]

theorem SidebandOnly.railRead (v : Nat) : railRead u v = railRead s v := by
  unfold Machine.railRead
  rw [h.page, h.pageRail]

theorem SidebandOnly.railTemp (r : Nat) : railTemp u r = railTemp s r := by
  have hp : railPhases u r = railPhases s r := by rw [h.form]; rfl
  unfold Machine.railTemp
  rw [hp]
  refine congrArg (fun l : List Int => l.foldl max (-32768)) (List.map_congr_left fun p hm => ?_)
  unfold phTemp
  have hl : p < 64 := lt_of_mem_railPhases hm
  rw [h.fld _ (misses_fin (g := Reg.PH_T) (by decide +kernel) (⟨p, hl⟩ : Fin 64))]

theorem SidebandOnly.siteTemp {d n : Nat} (hd : d < 4) (hn : n < 64) : siteTemp u d n = siteTemp s d n := by
  unfold Machine.siteTemp
  rw [h.fld _ (misses_sideband (by unfold Reg.PB_SITE Reg.SBM_CNT; omega) (by unfold Reg.PB_SITE Reg.SBM_EVENT; omega))]

theorem SidebandOnly.dieExtreme {d : Nat} (hd : d < 4) : dieExtreme u d false (Machine.siteTemp u d) = dieExtreme s d false (Machine.siteTemp s d) := by
  have hl : sitesOf u d = sitesOf s d := by rw [h.form]; rfl
  have ht : ∀ n ∈ sitesOf s d, Machine.siteTemp u d n = Machine.siteTemp s d n := fun n hn => h.siteTemp hd (List.mem_range.1 (List.mem_filter.1 hn).1)
  unfold Machine.dieExtreme
  rw [hl]
  revert ht
  cases sitesOf s d with
  | nil => exact fun _ => rfl
  | cons n l =>
    intro ht
    dsimp only
    rw [ht n (by simp)]
    exact List.foldl_ext _ _ _ fun a k hk => by rw [ht k (by simp [hk])]

theorem SidebandOnly.dieTemps (hc : u.freeCtr = s.freeCtr) {l : List Nat} (hl : ∀ d ∈ l, d < 4) : (dieTemps u l).1 = (dieTemps s l).1 := by
  unfold Machine.dieTemps
  rw [List.map_congr_left (g := fun d => Machine.meanOf s (48 + d) (Machine.dieExtreme s d false (Machine.siteTemp s d)))
    fun d hd => by rw [h.meanOf, h.dieExtreme (hl d hd)]]
  split
  · unfold drawNat
    rw [hc]
  · rfl

end

theorem drawNat_fst (hc : u.freeCtr = s.freeCtr) (n : Nat) : (drawNat u n).1 = (drawNat s n).1 := by
  unfold drawNat
  rw [hc]

theorem linQuot_fst (hc : u.freeCtr = s.freeCtr) (n d : Int) : (linQuot u n d).1 = (linQuot s n d).1 := by
  unfold linQuot
  split
  · rfl
  · exact drawNat_fst hc _

theorem linQuot_only (n d : Int) : SidebandOnly s (linQuot s n d).2 := by
  unfold linQuot
  split
  · exact .refl
  · exact drawNat_only _

theorem dieTemps_only (l : List Nat) : SidebandOnly s (dieTemps s l).2 := by
  unfold dieTemps
  split
  · exact drawNat_only _
  · exact .refl

end

/-! ## The three ways in which a read-only command is built -/

/-- What Table 19.3 says of a read-only command: its value on a page of its kind, else 0xFF and the invalid-command bit; a write sets that bit. -/
def ReadsAs (c : PmIo → Instr) (code : Byte) (k : PgKind) (n : Nat) (v : State → Nat) : Prop := ∀ s : State, s.top.porHeld = false →
  (pageFits s k = true → Runs (c .read) s (fun t => t.resp = .pmb (leBytes n (v s)) (pecOf s [code] (leBytes n (v s)))))
  ∧ (pageFits s k = false → Runs (c .read) s (fun t => t.resp = .pmb (List.replicate n 0xFF) (pecOf s [code] (List.replicate n 0xFF))
      ∧ ∀ p ∈ pagesSel s, bitOf (pageOf t p).cml 7 = true))
  ∧ ∀ d : List Byte, Runs (c (.write d (some true))) s (fun t => ∀ p ∈ pagesSel s, bitOf (pageOf t p).cml 7 = true)

theorem invalid_of (s : State) : ∀ p ∈ pagesSel s, bitOf (pageOf (cmlSet (pmOpen s) 128) p).cml 7 = true := cmlBit pmOpen_only (by decide)

theorem pmBus_badPage {s : State} {cmd : List Byte} {k : PgKind} {n : Nat} {get put} (h : s.top.porHeld = false) (hf : pageFits s k = false) :
    pmBus s cmd k .read n get put = pmBadRead (pmOpen s) cmd n := by
  unfold pmBus
  rw [if_neg (by simp [h])]
  exact if_neg (by rw [pageFits_of pmOpen_only, hf]; decide)

theorem pmBus_readOnly {s : State} {cmd d : List Byte} {k : PgKind} {n : Nat} {get} (h : s.top.porHeld = false) :
    ∀ p ∈ pagesSel s, bitOf (pageOf (pmBus s cmd k (.write d (some true)) n get noPut) p).cml 7 = true := by
  have he : pmBus s cmd k (.write d (some true)) n get noPut = cmlSet (pmOpen s) 128 := by
    unfold pmBus
    rw [if_neg (by simp [h])]
    exact ite_self _
  rw [he]
  exact invalid_of s

theorem readsAs_of_free {c : PmIo → Instr} {code : Byte} {k : PgKind} {n : Nat} {v : State → Nat} {w : State → Nat × State}
    (he : ∀ io s, exec (c io) s = .next (pmBus s [code] k io n (fun s => (leBytes n (w s).1, (w s).2)) noPut))
    (hw : ∀ s, SidebandOnly s (w s).2) (hv : ∀ s, pageFits s k = true → (w (pmOpen s)).1 = v s) : ReadsAs c code k n v := by
  intro s hp
  refine ⟨fun hf => ⟨_, (he _ _).trans (congrArg Outcome.next (pmBus_read hp hf)), ?_⟩, fun hf => ⟨_, (he _ _).trans (congrArg Outcome.next (pmBus_badPage hp hf)), ?_, ?_⟩,
    fun d => ⟨_, he _ _, pmBus_readOnly hp⟩⟩
  · dsimp only
    rw [hv s hf]
    exact reply_answers (pmOpen_only.trans (hw _))
  · exact reply_answers (pmOpen_only.trans (cmlSet_only 128))
  · exact invalid_of s

theorem readsAs_of {c : PmIo → Instr} {code : Byte} {k : PgKind} {n : Nat} {v : State → Nat} (he : ∀ io s, exec (c io) s = .next (pmRo s code k io n v))
    (hv : ∀ s, pageFits s k = true → v (pmOpen s) = v s) : ReadsAs c code k n v :=
  readsAs_of_free (w := fun s => (v s, s)) he (fun _ => .refl) hv

theorem readsAs_of_draw {c : PmIo → Instr} {code : Byte} {k : PgKind} {w : State → Nat × State} {v : State → Nat} (he : ∀ io s, exec (c io) s = .next (pmRoD s code k io w))
    (hw : ∀ s, SidebandOnly s (w s).2) (hv : ∀ s, pageFits s k = true → (w (pmOpen s)).1 = v s) : ReadsAs c code k 2 v :=
  readsAs_of_free (w := w) he hw hv

/-- A command that reads on every page answers its constant bytes. -/
theorem always_of {c : PmIo → Instr} {code : Byte} {b : List Byte} {n : Nat} (he : ∀ io s, exec (c io) s = .next (pmBus s [code] .any io n (fun s => (b, s)) noPut))
    (s : State) (hp : s.top.porHeld = false) : Runs (c .read) s (fun t => t.resp = .pmb b (pecOf s [code] b))
      ∧ ∀ d : List Byte, Runs (c (.write d (some true))) s (fun t => ∀ p ∈ pagesSel s, bitOf (pageOf t p).cml 7 = true) :=
  ⟨⟨_, (he _ _).trans (congrArg Outcome.next (pmBus_read hp rfl)), reply_answers pmOpen_only⟩, fun _ => ⟨_, he _ _, pmBus_readOnly hp⟩⟩

section
variable {s : State}

theorem lt_of_fitsRail (h : pageFits s .rail = true) : s.sbm.page < 8 := of_decide_eq_true h

theorem lt_of_fitsBoth (h : pageFits s .both = true) : s.sbm.page < 9 := Nat.lt_succ_of_le (of_decide_eq_true h)

theorem opened (s : State) : SidebandOnly s (pmOpen s) := pmOpen_only

theorem pmOpen_freeCtr : (pmOpen s).freeCtr = s.freeCtr := pmOpen_evolves.freeCtr_eq rfl

theorem temperature1_fst :
    (if (pmOpen s).sbm.page = 8 then dieTemps (pmOpen s) ((List.range 4).filter (dieHere (pmOpen s)))
      else if pageRail (pmOpen s) (pmOpen s).sbm.page then dieTemps (pmOpen s) (railDies (pmOpen s) (pmOpen s).sbm.page) else (0, pmOpen s)).1
    = if s.sbm.page = 8 then (dieTemps s ((List.range 4).filter (dieHere s))).1
      else if pageRail s s.sbm.page = true then (dieTemps s (railDies s s.sbm.page)).1 else 0 := by
  have hd : dieHere (pmOpen s) = dieHere s := by unfold dieHere; rw [(opened s).frames]
  have lt {g : Nat → Bool} (d : Nat) (h : d ∈ (List.range 4).filter g) : d < 4 := List.mem_range.1 (List.mem_filter.1 h).1
  rw [(opened s).page, (opened s).pageRail, (opened s).railDies, hd]
  split
  · exact (opened s).dieTemps pmOpen_freeCtr lt
  · split
    · exact (opened s).dieTemps pmOpen_freeCtr lt
    · rfl

end

/-- Settles O56: `readsAs_of` for each command of Table 19.3, with the value's congruence. -/
theorem pmbusReads : Obligations.PmbusReads := by
  unfold Obligations.PmbusReads
  intro invalid answers reads always text
  have o := opened
  refine ⟨⟨?_, ?_, ?_, ?_, ?_, ?_, ?_, ?_, ?_, ?_⟩, ⟨?_, ?_, ?_, ?_, ?_, ?_, ?_, ?_⟩, ⟨?_, ?_, ?_, ?_, ?_, ?_, ?_, ?_, ?_, ?_, ?_⟩, ?_, ?_, ?_, ?_, ?_⟩
  · refine readsAs_of (fun _ _ => rfl) fun s _ => ?_
    have hr (r : Nat) : railState (pmOpen s) r = railState s r := by rw [(o s).form]; rfl
    rw [(o s).page, (o s).pageRail, hr]
  · exact always_of fun _ _ => rfl
  · exact readsAs_of (fun _ _ => rfl) fun _ _ => rfl
  · exact readsAs_of (fun _ _ => rfl) fun s _ => by rw [(o s).page, (o s).aF]
  · exact readsAs_of (fun _ _ => rfl) fun s _ => by rw [(o s).page, (o s).aF]
  · exact readsAs_of (fun _ _ => rfl) fun s _ => by rw [(o s).page, (o s).aF, (o s).aOn]
  · exact readsAs_of (fun _ _ => rfl) fun s _ => by rw [(o s).aF]
  · exact readsAs_of (fun _ _ => rfl) fun s _ => by rw [(o s).aF]
  · exact readsAs_of (fun _ _ => rfl) fun s _ => by unfold supWarn; rw [(o s).aF]
  · exact readsAs_of (fun _ _ => rfl) fun s _ => by unfold supRst; rw [(o s).aF]
  · exact readsAs_of (fun _ _ => rfl) fun s h => by rw [(o s).page, statusWord_pmOpen (lt_of_fitsBoth h)]
  · exact readsAs_of (fun _ _ => rfl) fun s h => by rw [(o s).page, statusWord_pmOpen (lt_of_fitsBoth h)]
  · exact readsAs_of (fun _ _ => rfl) fun s h => by rw [(o s).page, pageNow_pmOpen (lt_of_fitsBoth h)]
  · exact readsAs_of (fun _ _ => rfl) fun s h => by rw [(o s).page, pageNow_pmOpen (lt_of_fitsBoth h)]
  · exact readsAs_of (fun _ _ => rfl) fun s h => inputNow_pmOpen
  · exact readsAs_of (fun _ _ => rfl) fun s h => by rw [(o s).page, pageNow_pmOpen (lt_of_fitsBoth h)]
  · exact readsAs_of (fun _ _ => rfl) fun s h => by rw [(o s).page, pageNow_pmOpen (lt_of_fitsBoth h)]
  · exact readsAs_of (fun _ _ => rfl) fun s h => by rw [(o s).page, pageNow_pmOpen (lt_of_fitsBoth h)]
  · exact readsAs_of (fun _ _ => rfl) fun s _ => by rw [(o s).vinMean]
  · refine readsAs_of_draw (fun _ _ => rfl) (fun _ => linQuot_only _ _) fun s _ => ?_
    rw [linQuot_fst pmOpen_freeCtr, (o s).poutAll, (o s).aF, (o s).vinMean]
  · refine readsAs_of_draw (fun _ _ => rfl) (fun _ => linQuot_only _ _) fun s _ => ?_
    rw [linQuot_fst pmOpen_freeCtr, (o s).poutAll, (o s).aF]
  · exact readsAs_of (fun _ _ => rfl) fun s h => by rw [(o s).page, (o s).railRead, (o s).meanOf, (o s).sense (lt_of_fitsRail h)]
  · exact readsAs_of (fun _ _ => rfl) fun s h => by rw [(o s).page, (o s).railRead, (o s).meanOf, (o s).railI (lt_of_fitsRail h)]
  · exact readsAs_of (fun _ _ => rfl) fun s h => by rw [(o s).page, (o s).railRead, (o s).powMean (lt_of_fitsRail h)]
  · refine readsAs_of_draw (fun _ _ => rfl) (fun s => ?_) fun _ _ => temperature1_fst
    split
    · exact dieTemps_only _
    · split
      · exact dieTemps_only _
      · exact .refl
  · exact readsAs_of (fun _ _ => rfl) fun s h => by rw [(o s).page, (o s).railRead, (o s).meanOf, (o s).railTemp]
  · exact readsAs_of (fun _ _ => rfl) fun s _ => by rw [(o s).top]
  · exact readsAs_of (fun _ _ => rfl) fun s _ => by rw [(o s).meanOf, (o s).fld]
  · exact readsAs_of (fun _ _ => rfl) fun s _ => by rw [(o s).meanOf, (o s).fld]
  · exact always_of fun _ _ => rfl
  · exact always_of fun _ _ => rfl
  · exact always_of fun _ _ => rfl
  · exact always_of fun _ _ => rfl
  · exact always_of fun _ _ => rfl

end Sys2Proof.Machine
end

section
/-! PROOF. No access of a core asserts or releases the power-on reset: its state and the cause of its last assertion stay through every register
write that a core, the host or SEC can make. -/

namespace Sys2Proof.Machine
open Host
set_option Elab.async false

/-- The power-on reset and the cause of its last assertion. -/
def por (s : State) : Bool × PorCause := (s.top.porHeld, s.top.porCause)

section
variable {s t : State}

theorem por_of {W : Blocks} (h : Evolves W s t) (hW : W.top = false := by rfl) : Shows por s t := by
  unfold Shows por
  rw [h.top_eq hW]

theorem enterState_por {s d} : Shows por s (enterState s d) := by
  unfold enterState
  exact .both .refl
    (.trans (.of_eq (by rfl)) (.trans (.both ((por_of lifeUp_evolves)) (.both ((por_of lifeUp_evolves)) .refl)) ((por_of record_evolves))))

theorem softStart_por {s r} : Shows por s (softStart s r) := by
  unfold softStart
  exact .both .refl
    (.trans ((por_of senHigh_evolves))
       (.trans (.forEach fun _ _ => (por_of setPh_evolves))
          (.trans ((por_of setCh_evolves))
             (.trans (.trans ((por_of allActive_evolves)) ((por_of newPeriod_evolves)))
                (.trans (.forEach fun _ _ => (por_of fabClear_evolves))
                   (.trans ((por_of setCh_evolves)) (.both enterState_por (.both enterState_por .refl))))))))

theorem beginStage_por {s k} : Shows por s (beginStage s k) := by
  unfold beginStage
  extract_lets s1 nxt
  have h1 : Shows por s s1 := .forEach fun _ _ => softStart_por
  clear_value s1
  exact h1.trans (.of_eq rfl)

theorem maybeRun_por {s from_} : Shows por s (maybeRun s from_) := by
  unfold maybeRun
  exact .both (.trans enterState_por ((por_of setF_evolves))) .refl

theorem stagesDue_por {n s} : Shows por s (stagesDue n s) := by
  induction n generalizing s with
  | zero => exact .refl
  | succ n ih =>
    unfold stagesDue
    split
    · exact .refl
    · exact .both (beginStage_por.trans ih) .refl

theorem startAdvance_por {s done} : Shows por s (startAdvance s done) := by
  unfold startAdvance
  exact .trans (.both (.of_eq (by rfl)) .refl) (.trans stagesDue_por maybeRun_por)

theorem disDone_por {s byEn} : Shows por s (disDone s byEn) := by
  unfold disDone
  exact .both (.trans (.trans (.of_eq (by rfl)) ((por_of setF_evolves))) (.both enterState_por .refl))
    (.both (.trans (.of_eq (by rfl)) enterState_por) .refl)

theorem disDrop_por {s r} : Shows por s (disDrop s r) := by
  unfold disDrop
  split
  · exact .refl
  · split
    · extract_lets t1 s1
      refine .trans (t := s1) (.of_eq rfl) ?_
      clear_value s1
      split
      · exact disDone_por
      · exact (por_of disHead_evolves)
    · exact (.of_eq rfl)

theorem discharge_por {s items} : Shows por s (discharge s items) := by
  unfold discharge
  exact .trans (.forEach fun _ _ => .both .refl (.trans (.trans ((por_of leaveReg_evolves)) ((por_of phasesMid_evolves))) ((por_of setCh_evolves))))
    (by
       extract_lets
       split
       exacts [.trans (.of_eq (by rfl)) ((por_of disHead_evolves)),
         by
           split
           exacts [.refl,
             .of_eq (by rfl)]])

theorem haltEntry_por {s trip} : Shows por s (haltEntry s trip) := by
  unfold haltEntry
  exact .both .refl (.trans ((por_of loadAbort_evolves)) (.trans (.both .refl ((por_of originTrip_evolves))) (.trans (.of_eq (by rfl)) enterState_por)))

theorem dischargeAll_por {s maySwitch limitOnly} : Shows por s (dischargeAll s maySwitch limitOnly) := by
  unfold dischargeAll
  exact discharge_por

theorem haltSwitched_por {s trip} : Shows por s (haltSwitched s trip) := by
  unfold haltSwitched
  exact .trans haltEntry_por dischargeAll_por

theorem latchRail_por {s kind r what} : Shows por s (latchRail s kind r what) := by
  unfold latchRail
  exact .trans ((por_of latchSet_evolves))
    (.trans
       (.both
          (.trans (.both ((por_of leaveReg_evolves)) .refl)
             (.trans ((por_of crowbarOn_evolves)) (.trans ((por_of raise_evolves)) (.trans ((por_of setCh_evolves)) disDrop_por))))
          (.both .refl (.both discharge_por ((por_of setCh_evolves)))))
       (.both (.trans (.both .refl ((por_of originTrip_evolves))) (.trans (.of_eq (by rfl)) haltSwitched_por)) startAdvance_por))

theorem cancelMask_por {s m} : Shows por s (cancelMask s m) := by
  unfold cancelMask
  exact .both .refl
    (.trans (.of_eq (by rfl))
       (.trans (.forEach fun _ _ => (por_of commitEntry_evolves))
          (.trans (.both (.trans ((por_of commitEntry_evolves)) ((por_of loadEnd_evolves))) .refl)
             (.trans ((por_of commitResult_evolves)) ((por_of pendRefresh_evolves))))))

theorem cancelAllCommits_por {s} : Shows por s (cancelAllCommits s) := by
  unfold cancelAllCommits
  exact cancelMask_por

theorem stageFault_por {s p reading} : Shows por s (stageFault s p reading) := by
  unfold stageFault
  exact .both .refl
    (.both
       (.trans ((por_of setPh_evolves))
          (.trans ((por_of raise_evolves))
             (.trans ((por_of raise_evolves))
                (.trans ((por_of stageEntry_evolves)) (.trans (.both ((por_of dripExit_evolves)) .refl) (.both latchRail_por .refl))))))
       (.trans (.trans ((por_of setPh_evolves)) ((por_of raise_evolves))) ((por_of stageEntry_evolves))))

theorem railStart_por {s r set} : Shows por s (railStart s r set) := by
  unfold railStart
  split
  · exact .both softStart_por .refl
  · exact .both (.trans (.trans disDrop_por ((por_of setCh_evolves))) softStart_por) .refl
  · exact .refl
  · exact .both disDrop_por .refl

theorem commitRail_por {s0 s r} : Shows por s (commitRail s0 s r) := by
  unfold commitRail
  exact .trans (.both ((por_of setCh_evolves)) .refl)
    (.trans ((por_of commitDrip_evolves))
       (.trans (.both ((por_of setCh_evolves)) .refl)
          (.trans (.both ((por_of setCh_evolves)) .refl)
             (.trans (.both ((por_of commitPhases_evolves)) .refl)
                (.trans ((por_of setCh_evolves))
                   (.both (.both railStart_por .refl) (.trans (.both discharge_por .refl) (.both startAdvance_por .refl))))))))

theorem commitPart_por {s0 s p} : Shows por s (commitPart s0 s p) := by
  unfold commitPart
  exact .trans (.of_eq (by rfl)) (.both ((por_of capClamp_evolves)) .refl)

theorem thermalTrip_por {s bit die} : Shows por s (thermalTrip s bit die) := by
  unfold thermalTrip
  exact .trans
    (.both .refl
       (.trans (.trans (.trans ((por_of raise_evolves)) ((por_of protEntry_evolves))) ((por_of lifeUp_evolves))) ((por_of originTrip_evolves))))
    (.trans ((por_of raise_evolves)) (.trans ((por_of phasesMid_evolves)) (.trans haltEntry_por dischargeAll_por)))

theorem limitsNow_por {s} : Shows por s (limitsNow s) := by
  unfold limitsNow
  exact .trans (.forEach fun _ _ => .both latchRail_por .refl)
    (.trans (.forEach fun _ _ => .both (.trans ((por_of raise_evolves)) stageFault_por) .refl) (.both thermalTrip_por .refl))

theorem commitProt_por {s} : Shows por s (commitProt s) := by
  unfold commitProt
  exact .trans (.forEach fun _ _ => (por_of cfgTrip_evolves)) limitsNow_por

theorem commitHooks_por {s0 s m} : Shows por s (commitHooks s0 s m) := by
  unfold commitHooks
  exact .trans (.trans (.both .refl ((por_of commitDisable_evolves))) (.forEach fun _ _ => commitRail_por))
    (.trans (.forEach fun _ _ => commitPart_por)
       (.trans (.both commitProt_por .refl)
          (.trans (.both ((por_of commitFq_evolves)) .refl)
             (.trans (.both ((por_of estCmd_evolves)) .refl)
                (.trans (.both (.forEach fun _ _ => .trans ((por_of derate_evolves)) ((por_of estFlags_evolves))) .refl)
                   (.trans (.both (.forEach fun _ _ => (por_of laneStart_evolves)) .refl) (.both ((por_of commitPb_evolves)) .refl)))))))

theorem commitEffect_por {s0 m snap mode tick} : Shows por s0 (commitEffect s0 m snap mode tick) := by
  unfold commitEffect
  exact .trans (.of_eq (by rfl))
    (.trans (por_of (W := { integ := true }) .set_integ)
       (.trans (.trans ((por_of commitResult_evolves)) ((por_of commitSeq_evolves)))
          (.trans ((por_of commitEntry_evolves)) (.trans ((por_of capture_evolves)) commitHooks_por))))

theorem commitPends_por {s l r} : Shows por s (pendRefresh (commitResult { s with top := { s.top with commits := l } } r)) :=
  .trans (t := { s with top := { s.top with commits := l } }) rfl ((por_of commitResult_evolves).trans (por_of pendRefresh_evolves))

theorem commitRequest_por {s tickMode} : Shows por s (commitRequest s tickMode) := by
  unfold commitRequest
  extract_lets +onlyGivenNames f m s1 mode tick busy
  refine .trans (t := s1) (por_of wr64_evolves) ?_
  clear_value s1 tick mode busy
  refine .both (por_of commitRefuse_evolves) ?_
  refine .both (por_of commitRefuse_evolves) ?_
  refine .both (por_of commitRefuse_evolves) ?_
  refine .both (por_of commitRefuse_evolves) ?_
  extract_lets +onlyGivenNames snap ue bad
  clear_value bad snap
  split
  · exact .trans (.both (.trans (por_of raise_evolves) (por_of boundaryFail_evolves)) .refl)
      (.trans (por_of wrN_evolves) (.trans (por_of setF_evolves) (por_of commitRefuse_evolves)))
  · exact .both commitPends_por commitEffect_por

theorem imageBegun_por {s full} : Shows por s (imageBegun s full) := by
  unfold imageBegun
  exact .trans (.both cancelAllCommits_por .refl) (por_of (W := { img := true }) .set_img)

theorem imageBegin_por {s told} : Shows por s (imageBegin s told) := by
  unfold imageBegin
  exact .both ((por_of loadEnd_evolves))
    (.both ((por_of loadEnd_evolves))
       (.both ((por_of loadEnd_evolves))
          (.trans imageBegun_por
             (.both ((por_of loadEnd_evolves))
                (.both ((por_of loadEnd_evolves))
                   (.trans (.trans ((por_of setF_evolves)) ((por_of wrN_evolves))) (por_of (W := { img := true }) .set_img)))))))

theorem imageGo_por {s who told} : Shows por s (imageGo s who told) := by
  unfold imageGo
  exact .both (.both ((por_of imageRefused_evolves)) (.both ((por_of imageRefused_evolves)) ((por_of imageRefused_evolves))))
    (.both (.trans (por_of (W := { img := true }) .set_img) ((por_of setF_evolves))) imageBegin_por)

theorem rstStops_por {s level} : Shows por s (rstStops s level) := by
  unfold rstStops
  exact .trans (.trans ((por_of rstResult_evolves)) ((por_of fuseAbort_evolves)))
    (.trans (.both (.trans (.trans cancelAllCommits_por ((por_of domCancel_evolves))) ((por_of loadAbort_evolves))) .refl)
       (.both (por_of (W := { fab := true }) .set_fab) .refl))

theorem rstJoin_por {s r level} : Shows por s (rstJoin s r level) := by
  unfold rstJoin
  exact .trans rstStops_por (.of_eq (by rfl))

theorem rstBegin_por {s level smbus} : Shows por s (rstBegin s level smbus) := by
  unfold rstBegin
  exact .trans rstStops_por (.trans (.of_eq (by rfl)) (.both (.trans (.of_eq (by rfl)) dischargeAll_por) .refl))

theorem rstAgain_por {s smbus level r} : Shows por s (rstAgain s smbus level r) := by
  unfold rstAgain
  exact .both (.trans (.both ((por_of rstEntry_evolves)) .refl) (.trans (.of_eq (by rfl)) ((por_of rstResult_evolves))))
    (.both
       (by
          split
          exacts [(por_of rstRefuse_evolves),
            .both rstJoin_por (.trans (.forEach fun _ _ => (por_of rstEntry_evolves)) rstBegin_por)]) ((por_of rstRefuse_evolves)))

theorem resetRequest_por {s smbus level key} : Shows por s (resetRequest s smbus level key) := by
  unfold resetRequest
  exact .trans ((por_of setF_evolves))
    (.both ((por_of rstRefuse_evolves))
       (by
          split
          exacts [rstAgain_por,
            .both ((por_of rstRefuse_evolves))
              (by
                 split
                 exacts [(por_of rstRefuse_evolves),
                   rstBegin_por])]))

theorem startStop_por {s} : Shows por s (startStop s) := by
  unfold startStop
  exact .both (.trans (.trans (.of_eq (by rfl)) ((por_of startResult_evolves))) (.trans dischargeAll_por (.both disDone_por .refl))) .refl

theorem fetchAer_por {s src got} : Shows por s (fetchAer s src got) := by
  unfold fetchAer
  exact .both (.of_eq (by rfl)) .refl

theorem dbgSubmit_por {s src got} : Shows por s (dbgSubmit s src got) := by
  generalize hf : dbgSubmit = f
  delta dbgSubmit at hf
  subst hf
  beta_reduce
  extract_lets addr
  clear_value addr
  split
  · exact (por_of tokenSubmit_evolves)
  · refine .trans (t := if srcOk src addr tokenLen then fetchAer s src got else s) (.both fetchAer_por .refl) ?_
    exact (por_of tokenSubmit_evolves)

theorem dbgCtl_por {s val got} : Shows por s (dbgCtl s val got) := by
  unfold dbgCtl
  exact .trans (.both ((por_of nonceNew_evolves)) .refl) (.trans (.both dbgSubmit_por .refl) (.both ((por_of dbgLock_evolves)) .refl))

theorem setClass_por {s i f} : Shows por s (setClass s i f) := by
  unfold setClass
  exact .of_eq (by rfl)

theorem wideRead_por {s who peek lo hi off} : Shows por s (wideRead s who peek lo hi off).2 := by
  unfold wideRead
  split
  · dsimp only
    exact setClass_por
  split
  · split
    · dsimp only
      exact setClass_por
    · exact .refl
  · exact .refl

theorem haltActive_por {s} : Shows por s (haltActive s) := by
  unfold haltActive
  exact .trans (.of_eq (by rfl)) haltSwitched_por

theorem activeDbe_por {s off} : Shows por s (activeDbe s off) := by
  unfold activeDbe
  split
  · exact .refl
  · exact .trans (.trans (por_of (W := { integ := true }) .set_integ) ((por_of boundaryFail_evolves)))
      (.both (.both latchRail_por .refl) (.both (.of_eq (by rfl)) haltActive_por))

theorem readReg.go_por {who off s} : Shows por s (readReg.go who off s) := by
  unfold readReg.go
  refine .trans (t := (wideRead s who (readWord s who) (wideLo off) (decide (4 ≤ off) && wideLo (off - 4)) off).2) wideRead_por ?_
  generalize wideRead s who (readWord s who) (wideLo off) (decide (4 ≤ off) && wideLo (off - 4)) off = p
  obtain ⟨v, t⟩ := p
  dsimp -zeta only
  extract_lets s1 sel s2 s3
  refine .trans (t := s1) (por_of (W := { resp := true }) .set_resp) (.trans (t := s2) (.both activeDbe_por .refl) ?_)
  clear_value s2
  refine .trans (t := s3) ?_ ?_
  · unfold s3
    split
    · exact (por_of dlqPop_evolves)
    · exact .refl
  · split
    · exact .both (por_of wr_evolves) .refl
    · exact .refl

theorem readReg_por {s who off} : Shows por s (readReg s who off) := by
  unfold readReg
  refine .both (por_of (W := { resp := true }) .set_resp) (.both (por_of hostTimeout_evolves) ?_)
  split
  · exact readReg.go_por
  next fn _ =>
    exact .trans (t := (wideRead s (.host fn) (fun o => BitVec.ofNat 32 (vfRead s fn.val o)) (off == 0x1008) (off == 0x100C) off).2)
      wideRead_por (por_of (W := { resp := true }) .set_resp)
  · exact readReg.go_por

theorem suppress_por {s who off owner} : Shows por s (suppress s who off owner) := by
  unfold suppress
  extract_lets s1
  refine .trans (t := s1) (.both (por_of raise_evolves) .refl) ?_
  split
  · exact (por_of coreViol_evolves)
  · exact .trans (.trans (por_of raise_evolves) (por_of bump_evolves)) (.trans (por_of record_evolves) (.of_eq rfl))
  · exact (por_of coreViol_evolves)
  · exact .trans (por_of coreViol_evolves) (por_of (W := { resp := true }) .set_resp)

theorem timerWrite_por {s n off v} : Shows por s (timerWrite s n off v) := by
  unfold timerWrite
  exact .both setClass_por (.both (.trans setClass_por (por_of (W := { fwc := true }) .set_fwc)) .refl)

theorem activeSel_por {s who v} : Shows por s (activeSel s who v) := by
  unfold activeSel
  exact setClass_por

theorem wideWrite_por {s who off v lo} : Shows por s (wideWrite s who off v lo) := by
  unfold wideWrite
  exact .both setClass_por
    (.trans setClass_por
       (.both ((por_of recTail_evolves)) (.both (por_of (W := { recd := true }) .set_recd) (.trans ((por_of wrN_evolves)) ((por_of wrN_evolves))))))

theorem rwWrite_por {s who off v} : Shows por s (rwWrite s who off v) := by
  unfold rwWrite
  exact .both wideWrite_por
    (.both wideWrite_por
       (by
          split
          exacts [(por_of ringCfgWrite_evolves),
            .both ((por_of rangedWrite_evolves)) (.both ((por_of rangedWrite_evolves)) ((por_of wrN_evolves)))]))

theorem protClear_por {s x therm v} : Shows por s (protClear s x therm v) := by
  unfold protClear
  exact .both
    (.trans
       (by
          split
          exacts [.of_eq (by rfl),
            .refl]) (.forEach fun _ _ => .both ((por_of decafLatchClear_evolves)) ((por_of thermLatchClear_evolves))))
    (.forEach fun _ _ => (por_of chLatchClear_evolves))

theorem w1cWrite_por {x s0 off0 v} : Shows por s0 (w1cWrite x s0 off0 v) := by
  unfold w1cWrite
  extract_lets off shown s1 left
  refine .trans (t := s1) ?_ ?_
  · exact .both protClear_por (.both protClear_por (.trans (t := pmRefresh s0) (por_of pmRefresh_evolves) (por_of wrN_evolves)))
  · clear_value s1
    split
    · exact .both (por_of intAgain_evolves) .refl
    · exact .refl

theorem commitCtl_por {x s v} : Shows por s (commitCtl x s v) := by
  unfold commitCtl
  exact .both .refl (.both ((por_of stagedErrors_evolves).trans commitRequest_por) (.both cancelMask_por .refl))

theorem startGo_por {s auto} : Shows por s (startGo s auto) := by
  unfold startGo
  extract_lets r s1 s2
  have h2 : Shows por s s2 := ((por_of startResult_evolves).trans (por_of setF_evolves)).trans (por_of record_evolves)
  clear_value s2
  exact h2.trans (.both (.trans (t := { s2 with top := { s2.top with startNext := some 0, startFrom := now s2 }, est := { s2.est with reload := true } }) rfl
    (stagesDue_por.trans maybeRun_por)) .refl)

theorem startCtl_por {s v} : Shows por s (startCtl s v) := by
  unfold startCtl
  exact .both .refl (.both startGo_por (.both startStop_por .refl))

theorem imageCtl_por {s who v} : Shows por s (imageCtl s who v) := by
  unfold imageCtl
  exact .both .refl (.both imageGo_por (.both (por_of imageAbort_evolves) .refl))

theorem timerRead_por {s n off} : Shows por s (timerRead s n off) := by
  unfold timerRead
  extract_lets peek
  exact .trans (t := (wideRead s (.core (Fin.ofNat 8 n)) (fun o => peek (o - 0x50001000)) (off == 0 || off == 8) (off == 4 || off == 12) (0x50001000 + off)).2)
    wideRead_por (.of_eq rfl)

/-- What a write-only register's arm keeps, if it has one. -/
def PorKept (s : State) (o : Option State) : Prop := ∀ t, o = some t → Shows por s t

theorem PorKept.none : PorKept s none := fun _ h => nomatch h

theorem PorKept.some (h : Shows por s t) : PorKept s (some t) := fun _ e => Option.some.inj e ▸ h

theorem PorKept.ite {c : Prop} [Decidable c] {o p : Option State} (h : PorKept s o) (k : PorKept s p) : PorKept s (if c then o else p) := by
  split
  · exact h
  · exact k

theorem woOne_por {x s who off v} : PorKept s (woOne x s who off v) := by
  unfold woOne
  exact .ite (.some (commitCtl_por)) (.ite (.some resetRequest_por) (.ite (.some startCtl_por) (.ite (.some (.both (por_of clkFwReturn_evolves) .refl))
    (.ite (.some (por_of nvCmdWrite_evolves)) (.ite (.some imageCtl_por) (.ite (.some (por_of fuseCtl_evolves)) (.ite (.some dbgCtl_por)
    (.ite (.some (por_of pbMinArm_evolves)) (.ite (.some (por_of fqGrant_evolves)) (.ite (.some (por_of fqSchedHb_evolves)) (.ite (.some (por_of sealCtl_evolves))
    (.ite (.some (por_of fwLdCtl_evolves)) (.ite (.some (.both (por_of dueMark_evolves) .refl)) .none)))))))))))))

theorem woWrite_por {x s who off v} : Shows por s (woWrite x s who off v) := by
  unfold woWrite
  split
  · exact woOne_por _ ‹_›
  · split
    · exact por_of selfCtl_evolves
    · exact por_of putWrite_evolves
    · split
      · exact por_of coreCtl_evolves
      · exact por_of snapWrite_evolves
      · split
        · exact por_of sqDoorbell_evolves
        · exact por_of cqDoorbell_evolves
        · exact .refl

theorem applyWrite_por {x s who off val} : Shows por s (applyWrite x s who off val) := by
  unfold applyWrite
  split
  · exact .both (por_of sqDoorbell_evolves) (por_of cqDoorbell_evolves)
  · refine .both activeSel_por (.both setClass_por ?_)
    split
    · exact .refl
    · extract_lets v
      split
      · exact rwWrite_por
      · exact por_of holdWrite_evolves
      · exact w1cWrite_por
      · exact por_of lockWrite_evolves
      · exact woWrite_por
      · exact .refl
      · split
        · exact .both (por_of localWrite_evolves) .refl
        · exact .refl

theorem gated_por {s who off val act} (h : ∀ t, Shows por t (act t)) : Shows por s (gated s who off val act) := by
  unfold gated
  refine .both (.of_eq rfl) (.both (por_of hostTimeout_evolves) ?_)
  extract_lets s1
  have h1 : Shows por s s1 := .of_eq rfl
  clear_value s1
  refine h1.trans ?_
  split
  · exact .both .refl (.both (h _) suppress_por)
  · split
    · exact h _
    · exact .refl
    · exact suppress_por
    · exact suppress_por.trans (por_of ownerRefused_evolves)

theorem regWrite_por {s who off val x} : Shows por s (regWrite s who off val x) := gated_por fun _ => applyWrite_por

theorem coreAccess_por {s n a len user pmp mis acc f} (h : ∀ t y, Shows por t (f t y)) : Shows por s (coreAccess s n a len user pmp mis acc f) := by
  unfold coreAccess
  refine .both .refl ?_
  extract_lets s1
  have h1 : Shows por s s1 := .of_eq rfl
  clear_value s1
  refine h1.trans ?_
  split
  · exact por_of coreFault_evolves
  · exact .both (por_of coreFault_evolves) (h _ _)
  · exact .both (por_of coreFault_evolves) (h _ _)
  · exact .both (por_of coreFault_evolves) (.both (por_of coreFault_evolves) ((por_of drainAll_evolves).trans (h _ _)))

theorem coreLoad_por {s core user pmp addr size} : Shows por s (coreLoad s core user pmp addr size) := by
  unfold coreLoad
  refine coreAccess_por fun t y => ?_
  split
  · exact .of_eq rfl
  · exact por_of memLoad_evolves
  · exact readReg_por
  · exact por_of mbxRead_evolves
  · exact timerRead_por
  · exact .refl

theorem coreStore_por {s core user pmp addr size val} : Shows por s (coreStore s core user pmp addr size val) := by
  unfold coreStore
  refine coreAccess_por fun t y => ?_
  split
  · exact .of_eq rfl
  · exact .both (por_of bufStore_evolves) (por_of coreViol_evolves)
  · exact regWrite_por
  · exact por_of mbxWrite_evolves
  · exact timerWrite_por
  · exact .refl

end

end Sys2Proof.Machine
end

section
/-! PROOF. JTAG instructions and core debug (O60). A CORE_DBG scan answers the result of the scan before it, whatever its operation does, since no
operation of a core moves the power-on reset. -/

namespace Sys2Proof.Machine
open Host
set_option Elab.async false

section
variable {s t : State} {core : CoreIx} {act : State → Nat × State} {n : Nat}

theorem tapOn_of_por (h : Shows por s t) : tapOn t = tapOn s := congrArg (fun p : Bool × PorCause => !(p.1 && p.2 == .vauxRise)) h.eq

theorem tapSelect_on {ir : Nat} {pins : PinMode} {out : Resp} (h : tapOn s = true) :
    tapSelect s ir pins out = { s with jtag := { s.jtag with ir := ir, pins := pins, guarded := false }, resp := out } := if_pos h

/-! ## The boundary instructions -/

/-- A boundary instruction meets the guard exactly where pins are guarded. -/
theorem tapGuard_results (hon : tapOn s = true) (hp : s.jtag.pins ≠ .device) (hgd : s.jtag.guarded = false) :
    (tapGuard s).jtag = { s.jtag with guarded := pinsGuarded s }
      ∧ (pinsGuarded s = true → s.top.porHeld = false → flag (tapGuard s) Reg.SEC_EVENT F.SEC_EVENT_JTAG_GUARD = true) := by
  unfold tapGuard
  by_cases hs : pinsGuarded s = true
  · rw [if_pos ⟨hon, hp, by rw [hgd]; rfl, hs⟩, hs]
    extract_lets _ v
    have hv : v.jtag = { s.jtag with guarded := true } := rfl
    have hvp : v.top.porHeld = s.top.porHeld := rfl
    clear_value v
    split
    case isTrue hh => exact ⟨hv, fun _ h0 => absurd (hvp.symm.trans hh) (by simp [h0])⟩
    · exact ⟨((record_evolves (p := .mgmt)).jtag_eq rfl).trans hv, fun _ _ => (record_rdBut.flag_eq _).trans (flag_raise _ _ _ (by decide))⟩
  · have hs' : pinsGuarded s = false := by simpa using hs
    rw [if_neg (by rintro ⟨-, -, -, h4⟩; exact hs h4), hs']
    exact ⟨by rw [← hgd], fun h => nomatch h⟩

/-- A boundary instruction, selected. -/
theorem tapGuard_select {ir : Nat} {pins : PinMode} {c : BitVec 212} (h : tapOn s = true) (hp : pins ≠ .device) :
    let t := tapGuard (tapSelect { s with jtag := { s.jtag with cells := c } } ir pins .none)
    (t.jtag.ir = ir ∧ t.jtag.pins = pins) ∧ t.jtag.cells = c ∧ t.jtag.guarded = pinsGuarded s
      ∧ (pinsGuarded s = true → s.top.porHeld = false → flag t Reg.SEC_EVENT F.SEC_EVENT_JTAG_GUARD = true) := by
  rw [tapSelect_on (s := { s with jtag := { s.jtag with cells := c } }) h]
  obtain ⟨hj, hf⟩ := tapGuard_results (s := { s with jtag := { s.jtag with cells := c, ir := ir, pins := pins, guarded := false }, resp := .none }) h hp rfl
  refine ⟨⟨congrArg JtagSt.ir hj, congrArg JtagSt.pins hj⟩, congrArg JtagSt.cells hj, congrArg JtagSt.guarded hj, hf⟩

/-! ## A CORE_DBG scan -/

/-- On a core that is not open a scan answers the last result, and leaves 0. -/
theorem coreDbg_closed (h : tapOn s = true) (ho : coreOpen s core.val = false) :
    (coreDbg s core act).fwc = s.fwc ∧ (coreDbg s core act).jtag.result = 0 ∧ (coreDbg s core act).resp = .word (BitVec.ofNat 32 s.jtag.result) := by
  unfold coreDbg
  rw [if_pos h, if_neg (by simp [ho])]
  dsimp only
  rw [tapSelect_on (s := { s with jtag := { s.jtag with result := 0 } }) h]
  exact ⟨rfl, rfl, rfl⟩

/-- On an open core a scan answers the last result and takes what the operation leaves of the cores, and its result. -/
theorem coreDbg_open (h : tapOn s = true) (ho : coreOpen s core.val = true) (hp : Shows por s (act s).2) :
    ((coreDbg s core act).jtag.ir = 0x11 ∧ (coreDbg s core act).resp = .word (BitVec.ofNat 32 s.jtag.result))
      ∧ (coreDbg s core act).fwc = (act s).2.fwc ∧ (coreDbg s core act).jtag.result = (act s).1 := by
  unfold coreDbg
  rw [if_pos h, if_pos ho]
  generalize act s = p at hp ⊢
  obtain ⟨r, u⟩ := p
  dsimp only
  rw [tapSelect_on (s := { u with jtag := { u.jtag with result := r } }) ((tapOn_of_por hp).trans h)]
  exact ⟨⟨rfl, rfl⟩, rfl, rfl⟩

theorem coreOf_dbgOpen (n : Nat) : coreOf (dbgOpen s).2 n = coreOf s n := rfl

theorem por_dbgOpen (h : Shows por s t) : Shows por s (dbgOpen t).2 := h

theorem por_coreSeen : Shows por s (coreSeen s n) := por_of coreSeen_evolves

/-! ## The operations -/

theorem dbgHalt_results (h : coreRuns s n = true) :
    Shows por s (dbgHalt s n) ∧ (coreOf (dbgHalt s n) n).halted = true ∧ (coreOf (dbgHalt s n) n).haltAt = now s := by
  unfold dbgHalt
  rw [if_pos h, coreOf_coreSeen, coreOf_setCore_same]
  exact ⟨.trans (t := setCore s n (fun c => { c with halted := true, haltAt := now s, regs := [] })) rfl por_coreSeen, rfl, rfl⟩

theorem dbgResume_results (h : (coreOf s n).halted = true) :
    Shows por s (dbgResume s n) ∧ (coreOf (dbgResume s n) n).halted = false
      ∧ (coreOf (dbgResume s n) n).wdFrom = (coreOf s n).wdFrom + (now s - (coreOf s n).haltAt)
      ∧ (coreOf (dbgResume s n) n).readyFrom = (coreOf s n).readyFrom + (now s - (coreOf s n).haltAt) := by
  unfold dbgResume
  rw [if_pos h, coreOf_coreSeen, coreOf_setCore_same]
  exact ⟨.trans (t := setCore s n _) rfl por_coreSeen, rfl, rfl, rfl⟩

/-- The instruction that a halted core executes in a step. -/
def stepAccess (s : State) (core : CoreIx) (user pmp : Bool) : StepAct → State
  | .other => s
  | .load a w => coreLoad s core user pmp a w
  | .store a w v => coreStore s core user pmp a w v

theorem por_stepAccess {user pmp : Bool} (a : StepAct) : Shows por s (stepAccess s core user pmp a) := by
  cases a with
  | other => exact .refl
  | load a w => exact coreLoad_por
  | store a w v => exact coreStore_por

/-- An access through a core, as the access that the core makes while it is not halted. -/
theorem dbgAccess_results {f : State → State} (hf : ∀ u, Shows por u (f u)) :
    let u := f (setCore { s with resp := .none } n (fun c => { c with halted := false }))
    Shows por s (dbgAccess s n f).2 ∧ (coreOf (dbgAccess s n f).2 n).halted = (coreOf s n).halted
      ∧ (coreOf (dbgAccess s n f).2 n).tcm = (coreOf u n).tcm ∧ ∀ v, u.resp = .word v → (dbgAccess s n f).1 = v.toNat := by
  intro u
  have hu : Shows por s u := .trans (t := setCore { s with resp := .none } n (fun c => { c with halted := false })) rfl (hf _)
  unfold dbgAccess
  extract_lets c r v
  have hv : Shows por s v := hu.trans rfl
  have hc : coreOf v n = { coreOf u n with halted := c.halted, user := c.user, resv := c.resv } := coreOf_setCore_same _ _
  have hr : u.resp = r := rfl
  clear_value v r u
  rw [hr]
  cases r with
  | word w =>
    refine ⟨hv, ?_, ?_, fun v hw => by rw [Resp.word.inj hw]⟩
    · exact (congrArg CoreSt.halted hc :)
    · exact (congrArg CoreSt.tcm hc :)
  | _ => exact ⟨hv, (congrArg CoreSt.halted hc :), (congrArg CoreSt.tcm hc :), fun v hw => nomatch hw⟩

/-- The operation of a step scan. -/
def stepOp (core : CoreIx) (a : StepAct) (pmp : Bool) (s : State) : Nat × State :=
  if (coreOf s core.val).halted then
    dbgOpen (setCore (stepAccess (setCore s core.val (fun c => { c with halted := false, regs := [] })) core (coreOf s core.val).user pmp a) core.val
      (fun c => { c with halted := true }))
  else dbgOpen s

theorem execCoreDbgStep_eq (a : StepAct) (pmp : Bool) : execCoreDbgStep core a pmp s = .next (coreDbg s core (stepOp core a pmp)) := by
  cases a <;> rfl

theorem stepOp_results (a : StepAct) (pmp : Bool) (h : (coreOf s core.val).halted = true) :
    Shows por s (stepOp core a pmp s).2 ∧ (coreOf (stepOp core a pmp s).2 core.val).halted = true := by
  unfold stepOp
  rw [if_pos h, coreOf_dbgOpen, coreOf_setCore_same]
  exact ⟨por_dbgOpen (.trans (t := setCore s core.val (fun c => { c with halted := false, regs := [] })) rfl ((por_stepAccess a).trans rfl)), rfl⟩

theorem dbgWriteReg_results (reg val : Word) (h : (coreOf s n).halted = true) :
    let p := dbgOpen (if (coreOf s n).halted then setCore s n (fun c => { c with regs := tabSet 0 c.regs reg.toNat (val.toNat + 1) }) else s)
    Shows por s p.2 ∧ tabGet 0 (coreOf p.2 n).regs reg.toNat = val.toNat + 1 := by
  intro p
  refine ⟨por_dbgOpen (.both rfl .refl), ?_⟩
  show tabGet 0 (coreOf (if (coreOf s n).halted = true then _ else _) n).regs _ = _
  rw [if_pos h, coreOf_setCore_same]
  dsimp only
  exact tabGet_tabSet_same 0 (coreOf s n).regs _ _

theorem dbgReadReg_results (r : Nat) (h : (coreOf s n).halted = true) :
    Shows por s (dbgReadReg s n r).2 ∧ (dbgReadReg s n r).1 + 1 = tabGet 0 (coreOf (dbgReadReg s n r).2 n).regs r
      ∧ ∀ v, tabGet 0 (coreOf s n).regs r = v + 1 → (dbgReadReg s n r).1 = v := by
  unfold dbgReadReg
  split
  case h_1 v hv => exact ⟨.refl, hv.symm, fun w hw => Nat.succ.inj (hv.symm.trans hw)⟩
  case h_2 hv =>
    have hh : (coreOf (dbgOpen s).2 n).halted = true := h
    have hp : Shows por s (dbgOpen s).2 := por_dbgOpen .refl
    generalize dbgOpen s = p at hh hp ⊢
    obtain ⟨v, u⟩ := p
    dsimp only at hh hp ⊢
    rw [if_pos hh, coreOf_setCore_same]
    exact ⟨hp.trans rfl, (tabGet_tabSet_same 0 (coreOf u n).regs _ _).symm, fun w hw => absurd (hv.symm.trans hw) (by omega)⟩

theorem mayAccess_unhalted (hfw : fwOn s = true) (hst : (coreOf s n).state ∈ [.run, .ready, .quiesce]) (hstall : coreStalled s n = false) :
    mayAccess (setCore { s with resp := .none } n (fun c => { c with halted := false })) n := by
  have hf : fwOn (setCore { s with resp := .none } n (fun c => { c with halted := false })) = true := hfw
  have hc : coreOf (setCore { s with resp := .none } n (fun c => { c with halted := false })) n = { coreOf s n with halted := false } := coreOf_setCore_same _ _
  refine ⟨?_, ?_⟩
  · unfold coreRuns
    rw [hf, hc]
    simp only [List.mem_cons, List.not_mem_nil, or_false] at hst
    rcases hst with h | h | h <;> simp only [h] <;> rfl
  · unfold coreStalled at hstall ⊢
    rw [hc]
    exact hstall

theorem sec_drawNat (n : Nat) : (drawNat s n).2.sec = s.sec := rfl

theorem nonceNew_results (h : s.sec.token = none) : (nonceNew s).1.length = 32 ∧ (nonceNew s).2.sec.nonce = some (nonceNew s).1 := by
  unfold nonceNew
  have hd : (drawNat s (2 ^ 256)).2.sec.token = none := (congrArg SecSt.token (sec_drawNat _)).trans h
  generalize drawNat s (2 ^ 256) = p at hd ⊢
  obtain ⟨v, u⟩ := p
  dsimp -zeta only
  extract_lets b s1
  have h1 : s1.sec.token = none := forEach_keeps (Q := fun t => t.sec.token = none) (fun _ _ h => (congrArg SecSt.token (wrN_sec _ _ _)).trans h) hd
  have hb : b.length = 32 := (List.length_map _).trans List.length_range
  clear_value s1 b
  rw [h1]
  exact ⟨hb, rfl⟩

theorem samplePreload_results {cells : BitVec 212} (h : tapOn s = true) :
    Runs (.samplePreload cells) s (fun t => (t.jtag.ir = 0x01 ∧ t.jtag.pins = .device) ∧ t.jtag.cells = cells ∧ ∃ b : List Byte, b.length = 27 ∧ t.resp = .data b) := by
  show ∃ t, execSamplePreload cells s = .next t ∧ _
  unfold execSamplePreload
  have hon : tapOn (drawNat s (2 ^ 212)).2 = true := h
  generalize drawNat s (2 ^ 212) = p at hon ⊢
  obtain ⟨v, u⟩ := p
  refine ⟨_, rfl, ?_⟩
  dsimp only at hon ⊢
  rw [if_pos hon, tapSelect_on (s := { u with jtag := { u.jtag with cells := cells } }) hon]
  exact ⟨⟨rfl, rfl⟩, rfl, _, (List.length_map _).trans List.length_range, rfl⟩

theorem secNonce_results (h : tapOn s = true) (hs : secRuns s = true) (ht : s.sec.token = none) :
    Runs .secNonce s (fun t => (t.jtag.ir = 0x12 ∧ t.jtag.pins = .device) ∧ ∃ b : List Byte, b.length = 32 ∧ t.resp = .data b ∧ t.sec.nonce = some b) := by
  show ∃ t, execSecNonce s = .next t ∧ _
  unfold execSecNonce
  rw [if_pos ⟨h, hs⟩]
  have hn : tapOn (nonceNew s).2 = true := (tapOn_of_por (por_of nonceNew_evolves)).trans h
  obtain ⟨hl, hb⟩ := nonceNew_results ht
  generalize nonceNew s = p at hn hl hb ⊢
  obtain ⟨b, u⟩ := p
  refine ⟨_, rfl, ?_⟩
  dsimp only at hn hl hb ⊢
  rw [tapSelect_on hn]
  exact ⟨⟨rfl, rfl⟩, b, hl, rfl, hb⟩

end

/-- Settles O60: boundary instructions by `tapGuard_select`, scans by `coreDbg_closed` and `coreDbg_open`. -/
theorem jtagResults : Obligations.JtagResults := by
  unfold Obligations.JtagResults
  intro selected guards
  refine ⟨?_, ?_, ?_, ?_, ?_⟩
  · intro cells s h
    have hd (ir : Nat) (out : Resp) : selected (tapSelect s ir .device out) ir .device ∧ (tapSelect s ir .device out).resp = out := by
      rw [tapSelect_on h]
      exact ⟨⟨rfl, rfl⟩, rfl⟩
    have hs : (if tapOn s = true then { s with jtag := { s.jtag with cells := cells } } else s) = { s with jtag := { s.jtag with cells := cells } } := if_pos h
    have hk {ir : Nat} {pins : PinMode} (hp : pins ≠ .device) :
        selected (tapGuard (tapSelect s ir pins .none)) ir pins ∧ guards s (tapGuard (tapSelect s ir pins .none)) := by
      obtain ⟨h1, -, h3⟩ := tapGuard_select (s := s) (ir := ir) (pins := pins) (c := s.jtag.cells) h hp
      exact ⟨h1, h3⟩
    refine ⟨⟨_, rfl, (hd _ _).1⟩, ⟨_, rfl, hd _ _⟩, ⟨_, rfl, (hd _ _).1⟩, ⟨_, rfl, ?_⟩, samplePreload_results h, ⟨_, rfl, hk (by decide)⟩, ⟨_, rfl, hk (by decide)⟩⟩
    · rw [hs]
      exact tapGuard_select h (by decide)
  · intro token s h hs ht
    refine ⟨⟨_, rfl, ?_⟩, secNonce_results h hs ht⟩
    rw [tapSelect_on h]
    dsimp only
    rw [if_pos ⟨h, hs⟩]
    unfold tokenSubmit
    dsimp only
    rw [ht]
    exact ⟨⟨rfl, rfl⟩, rfl, rfl, rfl⟩
  · intro core reg addr val act pmp s h ho closed
    have hc (f : State → Nat × State) : closed (coreDbg s core f) := coreDbg_closed h ho
    exact ⟨⟨_, rfl, hc _⟩, ⟨_, rfl, hc _⟩, ⟨_, rfl, hc _⟩, ⟨_, rfl, hc _⟩, ⟨_, rfl, hc _⟩, ⟨_, rfl, hc _⟩, ⟨_, rfl, hc _⟩, ⟨_, rfl, hc _⟩⟩
  · intro core s h ho n out
    refine ⟨fun hr => ⟨_, rfl, ?_⟩, ⟨_, rfl, ?_⟩, fun hh => ⟨⟨_, rfl, ?_⟩, fun act pmp => ⟨_, execCoreDbgStep_eq act pmp, ?_⟩, fun reg val => ⟨⟨_, rfl, ?_⟩, ⟨_, rfl, ?_⟩⟩⟩⟩
    · obtain ⟨hp, h1, h2⟩ := dbgHalt_results (s := s) (n := n) hr
      obtain ⟨ho', hf, -⟩ := coreDbg_open (act := fun s => dbgOpen (dbgHalt s core.val)) h ho (por_dbgOpen hp)
      rw [coreOf_of_fwc hf]
      exact ⟨ho', h1, h2⟩
    · obtain ⟨ho', hf, -⟩ := coreDbg_open (act := dbgOpen) h ho (por_dbgOpen .refl)
      exact ⟨ho', hf⟩
    · obtain ⟨hp, h1⟩ := dbgResume_results (s := s) (n := n) hh
      obtain ⟨ho', hf, -⟩ := coreDbg_open (act := fun s => dbgOpen (dbgResume s core.val)) h ho (por_dbgOpen hp)
      rw [coreOf_of_fwc hf]
      exact ⟨ho', h1⟩
    · have hstep := stepOp_results (s := s) (core := core) act pmp hh
      obtain ⟨ho', hf, -⟩ := coreDbg_open h ho hstep.1
      refine ⟨ho', ?_⟩
      rw [coreOf_of_fwc hf]
      exact hstep.2
    · have hw := dbgWriteReg_results (s := s) (n := n) reg val hh
      obtain ⟨ho', hf, -⟩ := coreDbg_open (act := fun s => dbgOpen (if (coreOf s core.val).halted then
        setCore s core.val (fun c => { c with regs := tabSet 0 c.regs reg.toNat (val.toNat + 1) }) else s)) h ho hw.1
      refine ⟨ho', ?_⟩
      rw [coreOf_of_fwc hf]
      exact hw.2
    · have hr := dbgReadReg_results (s := s) (n := n) reg.toNat hh
      obtain ⟨ho', hf, hv⟩ := coreDbg_open (act := fun s => dbgReadReg s core.val reg.toNat) h ho hr.1
      refine ⟨ho', ?_⟩
      rw [coreOf_of_fwc hf, hv]
      exact hr.2
  · intro core addr val s h ho hfw hst hstall ha
    have hacc : mayAccess (setCore { s with resp := .none } core.val (fun c => { c with halted := false })) core.val := mayAccess_unhalted hfw hst hstall
    refine ⟨⟨_, rfl, ?_⟩, ⟨_, rfl, ?_⟩⟩
    · obtain ⟨hp, hh, -, hv⟩ := dbgAccess_results (s := s) (n := core.val) (f := fun s => coreLoad s core false true addr 2) fun _ => coreLoad_por
      obtain ⟨-, hf, hr⟩ := coreDbg_open (act := fun s => dbgAccess s core.val (fun s => coreLoad s core false true addr 2)) h ho hp
      obtain ⟨t, ht, hw⟩ := coreLoad_tcm core addr 2 _ hacc ha
      rw [hr, coreOf_of_fwc hf]
      refine ⟨hv _ ?_, hh⟩
      rw [← Outcome.next.inj ht, coreOf_setCore_same] at hw
      exact hw
    · obtain ⟨hp, -, htcm, -⟩ := dbgAccess_results (s := s) (n := core.val) (f := fun s => coreStore s core false true addr 2 val) fun _ => coreStore_por
      obtain ⟨-, hf, -⟩ := coreDbg_open (act := fun s => dbgAccess s core.val (fun s => coreStore s core false true addr 2 val)) h ho hp
      obtain ⟨t, ht, hw, -⟩ := coreStore_tcm core addr 2 _ hacc ha val
      intro i hi
      rw [coreOf_of_fwc hf, htcm]
      rw [← Outcome.next.inj ht] at hw
      exact hw i hi

end Sys2Proof.Machine
end

section
/-! PROOF. The erase of a journal sector whose end switches the journal to that sector (O55). -/

namespace Sys2Proof.Machine
open Host
set_option Elab.async false

/-- The journal's sector 0 is full, sector 1 has been erased 100,000 times and is being erased again, and the spare that would take its place
carries no stamp. -/
def wornJournal : State := { nvs := {
  sect := [(0, { used := sectorUnits }), (1, { erases := 100000 }), (240, { stampOk := false })],
  erase := some { sector := 1, gen := 0, count := 0 } } }

/-- The journal switches to sector 1 and retires it, so that sector 1 is the spare without a stamp. -/
theorem erase_wornJournal : wornJournal.nvs.erase = some { sector := 1, gen := 0, count := 0 } ∧ wornJournal.nvs.eraseQ = []
    ∧ (match execSectorEraseDone true wornJournal with
      | .next t => (sectorOf t 1).stampOk
      | _ => true) = false := by
  decide +kernel

/-- Refutes O55: the clause on the end of an erase fails for a journal sector that the journal's own switch retires to an unstamped spare. -/
theorem not_nvStoreCommandResults : ¬ Obligations.NvStoreCommandResults := by
  unfold Obligations.NvStoreCommandResults
  rintro ⟨-, -, -, -, h, -⟩
  obtain ⟨he, hq, hafter⟩ := erase_wornJournal
  obtain ⟨t, ht, hdone, -⟩ := h true _ wornJournal he hq (by decide)
  obtain ⟨-, hstamp, -⟩ := hdone rfl
  have ht' : execSectorEraseDone true wornJournal = .next t := ht
  rw [ht'] at hafter
  have hnot : (sectorOf t 1).stampOk = false := hafter
  rw [show (sectorOf t 1).stampOk = true from hstamp] at hnot
  cases hnot

end Sys2Proof.Machine
end

section
/-! PROOF. Franking (O40): what a grant, a frank sent, a launch and a forced head leave of the franks, the armed queues and the ceilings. -/

namespace Sys2Proof.Machine
open Host
set_option Elab.async false

section
variable {s t : State} {q d : Nat}

/-- What the scheduler keeps of franks, armed queues, ceilings and the last heavy grant. -/
def grantLog (s : State) : List FrankSt × List Nat × List FrankCeil × Option Nat := (s.fq.franks, s.fq.armed, s.fq.ceils, s.fq.lastHeavy)

theorem grantLog_of {W : Blocks} (h : Evolves W s t) (hW : W.fq = false := by rfl) : Shows grantLog s t := by
  unfold Shows grantLog
  rw [h.fq_eq hW]

theorem grantLog_frankSend {tag kind : Nat} : Shows grantLog s (frankSend s d q tag kind) :=
  .trans (t := setQueue s q _) rfl (grantLog_of cfgSend_evolves)

theorem grantLog_lightDrain : Shows grantLog s (lightDrain s q) := by
  unfold lightDrain
  refine .forEach fun u _ => ?_
  split
  case h_1 i l _ =>
    refine .both ?_ .refl
    extract_lets v
    have hv : Shows grantLog u v := grantLog_frankSend
    clear_value v
    exact hv.trans (.trans (t := setQueue v q (fun x => { x with items := l })) rfl (grantLog_of bump_evolves))
  · exact .refl

/-! ## Grants -/

theorem now_of {W : Blocks} (h : Evolves W s t) (hW : W.tb = false := by rfl) : now t = now s := by
  unfold now
  rw [h.tb_eq hW]

theorem grantLog_popHead : grantLog (popHead s q) = (s.fq.franks, s.fq.armed.filter (fun a => a != q), s.fq.ceils, s.fq.lastHeavy) := by
  unfold popHead
  extract_lets s1
  have h1 : grantLog s1 = grantLog s := rfl
  clear_value s1
  refine grantLog_lightDrain.eq.trans ?_
  exact congrArg (fun x : List FrankSt × List Nat × List FrankCeil × Option Nat => (x.1, x.2.1.filter (fun a => a != q), x.2.2.1, x.2.2.2)) h1

theorem popHead_keeps : (popHead s q).fq.franks = s.fq.franks ∧ (popHead s q).fq.armed = s.fq.armed.filter (fun a => a != q)
    ∧ (popHead s q).fq.ceils = s.fq.ceils ∧ (popHead s q).fq.lastHeavy = s.fq.lastHeavy := by
  have h := grantLog_popHead (s := s) (q := q)
  unfold grantLog at h
  simpa only [Prod.mk.injEq] using h

theorem not_mem_armed_popHead : q ∉ (popHead s q).fq.armed := by
  rw [popHead_keeps.2.1]
  simp

theorem preLead_of (h : t.active = s.active) : preLead t = preLead s := by
  unfold preLead
  rw [aF_of_active h]

/-- A heavy grant adds its frank, to be launched PRE_LEAD from now. -/
theorem grantHeavy_results {i : Intent} {dp kind : Nat} {wait : Bool} :
    (grantHeavy s q i dp kind wait).fq.lastHeavy = some (now s) ∧ (grantHeavy s q i dp kind wait).fq.ceils = s.fq.ceils
      ∧ ∃ k : FrankSt, (grantHeavy s q i dp kind wait).fq.franks = s.fq.franks ++ [k] ∧ k.queue = q ∧ k.tag = i.tag ∧ k.kind = kind
        ∧ k.launch = now s + preLead s ∧ k.sent = false := by
  unfold grantHeavy
  extract_lets net r k s1 s2
  have h1 : s1.fq = s.fq := frankPhases_evolves.fq_eq rfl
  have hn : now s1 = now s := now_of frankPhases_evolves
  have h2 : s2.fq.franks = s1.fq.franks ∧ s2.fq.ceils = s1.fq.ceils ∧ now s2 = now s1 := ⟨rfl, rfl, rfl⟩
  have hk : k.queue = q ∧ k.tag = i.tag ∧ k.kind = kind ∧ k.launch = now s + preLead s ∧ k.sent = false := ⟨rfl, rfl, rfl, rfl, rfl⟩
  clear_value s2 s1 k
  obtain ⟨hf, hc, hnow⟩ := h2
  refine ⟨congrArg some (hnow.trans hn), hc.trans (by rw [h1]), k, ?_, hk⟩
  show s2.fq.franks ++ [k] = _
  rw [hf, h1]

/-- `u` is `s` at the earliest CLK_CTL cycle of a next heavy grant. -/
def NextCycle (s u : State) : Prop := (∃ t, s.fq.lastHeavy = some t ∧ u = reach s (t + 2)) ∨ (s.fq.lastHeavy = none ∧ u = s)

theorem NextCycle.evolves {u : State} (h : NextCycle s u) : Evolves { tb := true } s u := by
  rcases h with ⟨_, -, rfl⟩ | ⟨-, rfl⟩
  · exact reach_evolves
  · exact .refl

/-- A heavy grant is judged at that cycle. -/
theorem NextCycle.exec_eq {u : State} (h : NextCycle s u) : exec .heavyGrant s =
    match (grantOrder u).find? (fun q => (headOf u q).any (gatesPass u)) with
    | none => .next u
    | some q => match headOf u q with
      | none => .next u
      | some i =>
        if i.forced then .next (grantForced u q i)
        else .next (popHead (bump (grantHeavy u q i (deltaP u i.cls i.part) 0 false) Reg.FQ_CNT F.FQ_CNT_HEAVY) q) := by
  show execHeavyGrant s = _
  unfold execHeavyGrant
  rcases h with ⟨_, h, rfl⟩ | ⟨h, rfl⟩ <;> rw [h] <;> rfl

theorem heavyGrant_results {l : List Nat} {i : Intent} {u : State} (ho : grantOrder s = q :: l) (hi : headOf s q = some i) (hf : i.forced = false)
    (hg : gatesPass u i = true) (hu : NextCycle s u) :
    Runs .heavyGrant s (fun t => q ∉ t.fq.armed ∧ t.fq.lastHeavy = some (now u)
      ∧ ∃ k : FrankSt, t.fq.franks = s.fq.franks ++ [k] ∧ k.queue = q ∧ k.tag = i.tag ∧ k.kind = 0 ∧ k.launch = now u + preLead s ∧ k.sent = false) := by
  have he : Evolves { tb := true } s u := hu.evolves
  have hfq : u.fq = s.fq := he.fq_eq rfl
  have ho' : grantOrder u = q :: l := by
    rw [← ho]
    unfold grantOrder headOf queueOf
    rw [hfq]
  have hi' : headOf u q = some i := by
    rw [← hi]
    unfold headOf queueOf
    rw [hfq]
  have hsel : (grantOrder u).find? (fun q => (headOf u q).any (gatesPass u)) = some q := by
    rw [ho', List.find?_cons, hi']
    simp only [Option.any_some, hg]
  have hrun : exec .heavyGrant s = .next (popHead (bump (grantHeavy u q i (deltaP u i.cls i.part) 0 false) Reg.FQ_CNT F.FQ_CNT_HEAVY) q) := by
    refine hu.exec_eq.trans ?_
    rw [hsel]
    dsimp only
    rw [hi']
    dsimp only
    rw [hf, if_neg (by decide)]
  obtain ⟨hl, -, k, hk, hq, ht, hkind, hlaunch, hsent⟩ := grantHeavy_results (s := u) (q := q) (i := i) (dp := deltaP u i.cls i.part) (kind := 0) (wait := false)
  refine ⟨_, hrun, not_mem_armed_popHead, popHead_keeps.2.2.2.trans hl, k, ?_, hq, ht, hkind, ?_, hsent⟩
  · rw [popHead_keeps.1]
    exact hk.trans (by rw [hfq])
  · rw [hlaunch, preLead_of (he.active_eq rfl)]

/-! ## Franks on the wire -/

theorem wire_plSend {typ addr data : Nat} (h : dieUp s d = true) :
    ∃ m : PlMsg, (plSend s d typ addr data).pb.wire = s.pb.wire ++ [m] ∧ m.die = d ∧ m.typ = typ ∧ m.data = data % 2 ^ 40 := by
  unfold plSend
  rw [if_pos h]
  exact ⟨_, rfl, rfl, rfl, rfl⟩

theorem wire_cfgSend {index addr value : Nat} (h : dieUp s d = true) :
    ∃ m : PlMsg, (cfgSend s d index addr value).pb.wire = s.pb.wire ++ [m] ∧ m.die = d ∧ m.typ = 4
      ∧ m.data = (index * 2 ^ 32 + value % 2 ^ 24 * 2 ^ 8) % 2 ^ 40 := by
  unfold cfgSend
  rw [if_pos h]
  extract_lets s2
  have h2 : s2.pb.wire = s.pb.wire := rfl
  have hup2 : dieUp s2 d = true := by
    show ((dieOf (setDie s d _) d).link == .up) = true
    rw [dieOf_setDie, if_pos rfl]
    exact h
  clear_value s2
  rw [← h2]
  exact wire_plSend (typ := 4) (addr := addr) (data := index * 2 ^ 32 + value % 2 ^ 24 * 2 ^ 8) hup2

theorem cfgData_index {a b : Nat} (ha : a < 256) : (a * 2 ^ 32 + b % 2 ^ 24 * 2 ^ 8) % 2 ^ 40 / 2 ^ 32 = a := by omega

theorem wire_frankSend {tag kind : Nat} (h : dieUp s d = true) (hq : q < 64) :
    ∃ m : PlMsg, (frankSend s d q tag kind).pb.wire = s.pb.wire ++ [m] ∧ m.die = d ∧ m.typ = 4 ∧ m.data / 2 ^ 32 = 0x80 + q := by
  unfold frankSend
  extract_lets fs s1
  have h1 : s1.pb = s.pb := rfl
  have hup : dieUp s1 d = true := h
  clear_value s1
  obtain ⟨m, hw, hd, ht, hdata⟩ := wire_cfgSend (index := 0x80 + q) (addr := 0x3F) (value := tag % 4096 * 2 ^ 12 + fs * 2 ^ 8 + kind * 2 ^ 6) hup
  refine ⟨m, hw.trans (by rw [h1]), hd, ht, ?_⟩
  rw [hdata]
  exact cfgData_index (by omega)

theorem setFrank_head {k : FrankSt} {l : List FrankSt} {sel : FrankSt → Bool} {f : FrankSt → FrankSt} (h : s.fq.franks = k :: l) (hk : sel k = true) :
    setFrank s sel f = { s with fq := { s.fq with franks := f k :: l } } := by
  unfold setFrank
  simp only [h, List.takeWhile_cons, List.dropWhile_cons, hk, Bool.not_true, Bool.false_eq_true, if_false, List.nil_append]

theorem wire_statusSend {addr code detail : Nat} (h : (portOf s d).trained = true) :
    ∃ (l : List PlMsg) (m : PlMsg), (statusSend s d addr code detail).pb.wire = l ++ [m] ∧ m.die = d ∧ m.lane = 0 ∧ m.typ = 5
      ∧ m.data = (code * 2 ^ 32 + detail) % 2 ^ 40 := by
  unfold statusSend upSend
  dsimp only
  rw [if_pos h, if_pos rfl]
  exact ⟨_, _, rfl, rfl, rfl, rfl, rfl⟩

theorem trained_frankTake (x : PortSt) (n v : Nat) : (frankTake x n v).trained = x.trained := by
  unfold frankTake
  split <;> rfl

theorem popHead_rdBut : RdBut [(Reg.FQ_CNT, 0, 0)] s (popHead s q) := by
  unfold popHead
  exact .trans (t := { setQueue s q (fun x => { x with items := x.items.tail }) with
    fq := { (setQueue s q (fun x => { x with items := x.items.tail })).fq with
      armed := (setQueue s q (fun x => { x with items := x.items.tail })).fq.armed.filter (fun a => a != q) } }) (.of_regs rfl) lightDrain_rdBut

/-- A forced grant is reported, leaves its frank, and no ceiling ends by it. -/
theorem grantForced_results {i : Intent} : (grantForced s q i).fq.ceils = s.fq.ceils ∧ flag (grantForced s q i) Reg.FQ_EVENT F.FQ_EVENT_FORCED = true
    ∧ ∃ k ∈ (grantForced s q i).fq.franks, k.queue = q ∧ k.tag = i.tag ∧ k.kind = 1 := by
  unfold grantForced
  extract_lets n wait _ s1 s2 s3
  have h1 : s1.fq.ceils = s.fq.ceils ∧ ∃ k ∈ s1.fq.franks, k.queue = q ∧ k.tag = i.tag ∧ k.kind = 1 := by
    show (if heavyClass s i.cls = true then grantHeavy s q i _ 1 wait else _).fq.ceils = _ ∧ ∃ k ∈ (if heavyClass s i.cls = true then grantHeavy s q i _ 1 wait else _).fq.franks, _
    split
    · obtain ⟨-, hc, k, hk, hq, ht, hkind, -⟩ := grantHeavy_results (s := s) (q := q) (i := i) (dp := deltaP s i.cls i.part * n / 1024) (kind := 1) (wait := wait)
      exact ⟨hc, k, by rw [hk]; simp, hq, ht, hkind⟩
    · exact ⟨rfl, _, List.mem_append_right _ (List.mem_singleton_self _), rfl, rfl, rfl⟩
  have h2 : s2.fq = s1.fq := rfl
  have hf2 : flag s2 Reg.FQ_EVENT F.FQ_EVENT_FORCED = true := flag_raise _ _ _ (by decide)
  have h3 : s3.fq = s2.fq := record_evolves.fq_eq rfl
  have hf3 : flag s3 Reg.FQ_EVENT F.FQ_EVENT_FORCED = true := (record_rdBut.flag_eq _).trans hf2
  clear_value s1 s2 s3
  have h4 : (sinkTake s3 4).fq = s1.fq := (sinkTake_evolves.fq_eq rfl).trans (h3.trans h2)
  have hf4 : flag (sinkTake s3 4) Reg.FQ_EVENT F.FQ_EVENT_FORCED = true := (sinkTake_rdBut.flag_eq _).trans hf3
  generalize sinkTake s3 4 = s4 at h4 hf4 ⊢
  obtain ⟨hfr, -, hce, -⟩ := popHead_keeps (s := s4) (q := q)
  obtain ⟨hc, k, hk⟩ := h1
  exact ⟨hce.trans (by rw [h4, hc]), popHead_rdBut.flag_eq _ |>.trans hf4, k, by rw [hfr, h4]; exact hk⟩

/-! ## Launches, forced heads and ceilings -/

theorem gateRail_of {p : Nat} (hc : t.ch = s.ch) (hp : t.pb = s.pb) (hi : t.img = s.img) : gateRail t p = gateRail s p := by
  have hf : framesOf t = framesOf s := framesOf_of_img hi
  unfold gateRail partRail partDie railState chOf railFrozen boostOf dieFallen dieOf
  rw [hf, hc, hp]

theorem le_now_reach (s : State) (n : Nat) : now s ≤ now (reach s n) := by
  unfold reach
  split
  case isTrue h =>
    simp only [Bool.and_eq_true, decide_eq_true_eq] at h
    exact Nat.le_of_lt h.2
  · exact Nat.le_refl _

theorem level_balZero {p : Nat} : (balOf (balZero s p) p).level = 0 := by
  unfold balZero
  split
  · assumption
  · unfold balSend
    rw [balOf_of_fq (plSend_evolves.fq_eq rfl), balOf_setBal, if_pos rfl]

theorem franks_balZero {p : Nat} : (balZero s p).fq.franks = s.fq.franks := by
  unfold balZero
  split
  · rfl
  · unfold balSend
    rw [plSend_evolves.fq_eq rfl]
    rfl

theorem heavyLaunch_results {queue : QueueIx} {k : FrankSt} {l : List FrankSt} (hk : s.fq.franks = k :: l) (hq : k.queue = queue.val) (hsent : k.sent = true)
    (hl : k.launched = false) (hheavy : heavyClass s k.cls = true) (hkind : k.kind ≠ 1) :
    Runs (.heavyLaunch queue) s (fun t => t.fq.franks = { k with launched := true } :: l ∧ (balOf t k.part).level = 0 ∧ (balOf t k.part).lastLaunch = some (now t)) := by
  have hsel : (k.queue == queue.val && k.sent && !k.launched) = true := by simp [hq, hsent, hl]
  show ∃ t, execHeavyLaunch queue s = .next t ∧ _
  unfold execHeavyLaunch
  extract_lets q sel
  have hfind : s.fq.franks.find? sel = some k := by rw [hk]; exact List.find?_cons_of_pos (p := sel) hsel
  rw [hfind]
  dsimp -zeta only
  extract_lets s1 s2 cs pre _ s3 s4 s5 n
  have h1 : Evolves { tb := true } s s1 := reach_evolves
  have h2 : s2.fq.franks = { k with launched := true } :: l := by
    show (setFrank s1 sel _).fq.franks = _
    rw [setFrank_head (by rw [h1.fq_eq rfl]; exact hk) hsel]
  have hh2 : heavyClass s2 k.cls = true := by
    have ha : s2.active = s.active := setFrank_evolves.active_eq rfl |>.trans (h1.active_eq rfl)
    unfold heavyClass
    rw [aOn_of_active ha]
    exact hheavy
  have h3 : s3 = s2 := if_neg hkind
  have h4 : s4.fq.franks = s2.fq.franks := franks_balZero.trans (by rw [h3])
  have hl4 : (balOf s4 k.part).level = 0 := level_balZero
  have h5 : s5.fq.franks = s4.fq.franks ∧ now s5 = now s4 := ⟨rfl, rfl⟩
  have hb5 : balOf s5 k.part = { balOf s4 k.part with lastLaunch := some (now s4), busyFor := max (k.dur * 1000) 10000, hintQ := false } :=
    (balOf_setBal _ _ _).trans (if_pos rfl)
  have hfin : s5.fq.franks = { k with launched := true } :: l ∧ (balOf s5 k.part).level = 0 ∧ (balOf s5 k.part).lastLaunch = some (now s5) := by
    rw [hb5, h5.1, h4, h2, h5.2]
    exact ⟨rfl, hl4, rfl⟩
  have hh3 : heavyClass s3 k.cls = true := by rw [h3]; exact hh2
  clear_value s5 s4 s3
  rw [if_pos hh3]
  split
  · exact ⟨_, rfl, hfin⟩
  · exact ⟨_, rfl, hfin⟩

end

/-- Settles O40: each clause is its command's arm; a grant's frank survives what the queue drains after it. -/
theorem frankingResults : Obligations.FrankingResults := by
  unfold Obligations.FrankingResults
  intro nextCycle heavyHead
  have hnext (s : State) : NextCycle s (nextCycle s) := by
    show NextCycle s (match s.fq.lastHeavy with | some t => reach s (t + 2) | none => s)
    cases h : s.fq.lastHeavy with
    | none => exact Or.inr ⟨h, rfl⟩
    | some t => exact Or.inl ⟨t, h, rfl⟩
  refine ⟨?_, ?_, ?_, ?_, ?_, ?_, ?_, ?_, ?_, ?_, ?_⟩
  · intro who val s ha hgo q
    refine ⟨_, congrArg Outcome.next (gated_of_admits _ _ _ _ _ ha), ?_, ?_⟩
    · rintro ⟨i, l, hi, hheavy, -⟩ hq hl hfix
      have hh : (headOf { s with resp := .none } q).any (fun i => heavyClass { s with resp := .none } i.cls) = true := by
        show (queueOf s q).items.head?.any (fun i => heavyClass s i.cls) = true
        rw [hi]
        exact hheavy
      unfold fqGrant
      rw [if_neg (by rw [hgo]; decide), if_pos ⟨hh, by simpa using hq, hl, by simp [hfix]⟩]
    · intro hno
      have hr : fqGrant { s with resp := .none } val = raise { s with resp := .none } Reg.FQ_EVENT F.FQ_EVENT_GRANT_IGNORED := by
        unfold fqGrant
        rw [if_neg (by rw [hgo]; decide), if_neg]
        rintro ⟨h1, h2, h3, h4⟩
        rcases hno with h | h | h | h
        · exact absurd (List.contains_iff_mem.2 h) (by simpa using h2)
        · exact absurd h3 (Nat.not_lt.2 h)
        · exact absurd h (by simpa using h4)
        · have h1' : (queueOf s q).items.head?.any (fun i => heavyClass s i.cls) = true := h1
          rw [h] at h1'
          exact absurd h1' (by simp)
      rw [hr]
      exact ⟨rfl, flag_raise _ _ _ (by decide)⟩
  · intro who val s ha
    refine ⟨_, congrArg Outcome.next (gated_of_admits _ _ _ _ _ ha), ?_⟩
    unfold fqSchedHb
    extract_lets _ s1
    have hs : schedRestart s1 = schedRestart s := rfl
    have hf : s1.fq.schedFault = s.fq.schedFault := rfl
    have h1 : s1.fq.lastHb = some (now s) ∧ s1.fq.fixed = s.fq.fixed := ⟨rfl, rfl⟩
    clear_value s1
    beta_reduce
    rw [hs, hf]
    cases h : (schedRestart s || s.fq.schedFault) with
    | true =>
      rw [if_pos rfl, Bool.and_true]
      exact h1
    | false =>
      rw [if_neg (by decide), Bool.and_false]
      exact ⟨h1.1, rfl⟩
  · intro s
    have hfix (u : State) : (fixedEnter u).fq.fixed = true ∧ (fixedEnter u).fq.armed = u.fq.armed
        ∧ (u.fq.fixed = false → flag (fixedEnter u) Reg.FQ_EVENT F.FQ_EVENT_FIXED_ENTER = true) := by
      unfold fixedEnter
      split
      case isTrue h => exact ⟨h, rfl, fun h' => absurd (h.symm.trans h') (by decide)⟩
      · exact ⟨rfl, rfl, fun _ => flag_raise _ _ _ (by decide)⟩
    show ∃ t, execSchedTimeout s = .next t ∧ _
    unfold execSchedTimeout
    cases h : s.fq.lastHb with
    | none => exact ⟨_, rfl, hfix s⟩
    | some t =>
      refine ⟨_, rfl, ?_⟩
      have hr := hfix (reach s (t + aF s Reg.FQ_SCHED F.FQ_SCHED_SCHED_TO * 1000))
      rw [show (reach s (t + aF s Reg.FQ_SCHED F.FQ_SCHED_SCHED_TO * 1000)).fq = s.fq from reach_evolves.fq_eq rfl] at hr
      exact hr
  · rintro queue s hfix ⟨i, l, hi, hheavy, hforced⟩ hq hl
    show ∃ t, execFixedRateArm queue s = .next t ∧ _
    unfold execFixedRateArm
    extract_lets q s1
    have hh : (headOf s q).any (fun i => heavyClass s i.cls && !i.forced) = true := by
      show (queueOf s queue.val).items.head?.any (fun i => heavyClass s i.cls && !i.forced) = true
      rw [hi]
      simp [hheavy, hforced]
    have h1 : s1.fq = s.fq := by
      show (match (queueOf s q).lastGrant with | some t => reach s (t + frint s q) | none => s).fq = s.fq
      split
      · exact reach_evolves.fq_eq rfl
      · rfl
    rw [if_pos ⟨hfix, hh, by simpa using hq, hl⟩]
    clear_value s1
    refine ⟨_, rfl, ?_⟩
    rw [(sinkTake_evolves (r := 4)).fq_eq rfl]
    show s1.fq.armed ++ [q] = _
    rw [h1]
  · intro s hno
    have hfq : (nextCycle s).fq = s.fq := (hnext s).evolves.fq_eq rfl
    have ho : grantOrder (nextCycle s) = grantOrder s := by unfold grantOrder headOf queueOf; rw [hfq]
    have hh : headOf (nextCycle s) = headOf s := by funext q; unfold headOf queueOf; rw [hfq]
    refine ⟨_, (hnext s).exec_eq.trans ?_, rfl⟩
    rw [ho, hh, List.find?_eq_none.2 (fun q hq => by rw [hno q hq]; decide)]
  · intro q l i s ho hi hf hg
    obtain ⟨t, ht, h1, h2, k, hk, hq, htag, hkind, hlaunch, hsent⟩ := heavyGrant_results ho hi hf hg (hnext s)
    exact ⟨t, ht, h1, h2, k, hk, hq, htag, hkind, hlaunch, hsent⟩
  · intro queue k l s hk hq hsent hwait hup
    have hsel : (k.queue == queue.val && !k.sent && !k.waitFack) = true := by simp [hq, hsent, hwait]
    show ∃ t, execFrankSend queue s = .next t ∧ _
    unfold execFrankSend
    extract_lets q sel
    have hfind : s.fq.franks.find? sel = some k := by rw [hk]; exact List.find?_cons_of_pos (p := sel) hsel
    rw [hfind]
    dsimp only
    generalize k.launch - fld s (Reg.PB_LAT (queueDie s q)) F.PB_LAT_L_DOWN / 16 = at_
    have hr : Evolves { tb := true } s (reach s at_) := reach_evolves
    generalize reach s at_ = s1 at hr ⊢
    have h1 : s1.fq.franks = k :: l := by rw [hr.fq_eq rfl]; exact hk
    rw [setFrank_head h1 hsel]
    generalize hs2 : ({ s1 with fq := { s1.fq with franks := { k with sent := true } :: l } } : State) = s2
    have h2 : s2.fq.franks = { k with sent := true } :: l ∧ s2.pb = s.pb := by rw [← hs2]; exact ⟨rfl, hr.pb_eq rfl⟩
    obtain ⟨m, hw, hm⟩ := wire_frankSend (s := s2) (q := q) (tag := k.tag) (kind := k.kind) (d := queueDie s q)
      (by unfold dieUp dieOf; rw [h2.2]; exact hup) queue.isLt
    refine ⟨_, rfl, ?_, m, hw.trans (by rw [h2.2]), hm⟩
    exact (congrArg Prod.fst grantLog_frankSend.eq : _).trans h2.1
  · intro queue k l s hk hq hsent hl hheavy hkind
    exact heavyLaunch_results hk hq hsent hl hheavy hkind
  · intro queue i l s hi hf
    show ∃ t, execDeadlineExpiry queue s = .next t ∧ _
    unfold execDeadlineExpiry
    extract_lets q wait
    have hw : wait = [] := by
      show (queueOf s queue.val).items.takeWhile _ = []
      rw [hi, List.takeWhile_cons, hf]
      rfl
    have hd : (queueOf s q).items.drop wait.length = i :: l := by rw [hw]; exact hi
    rw [hd]
    dsimp -zeta only
    extract_lets s1 j s2 _ s3
    have h1 : Evolves { tb := true } s s1 := reach_evolves
    have hj : j = { i with forced := true } := rfl
    have h3 : s3.fq.ceils = s1.fq.ceils ++ [{ part := i.part, queue := q, until_ := none }] := rfl
    have hq3 : (queueOf s3 q).items = wait ++ j :: l := (congrArg QueueSt.items ((queueOf_setQueue (s := s1) q q (fun x => { x with items := wait ++ j :: l })).trans (if_pos rfl)) :)
    have hg : gateRail s3 j.part = gateRail s i.part := gateRail_of (h1.ch_eq rfl) (h1.pb_eq rfl) (h1.img_eq rfl)
    clear_value s3 s2 s1 j
    have hc : (s3.fq.ceils.any (fun c => c.part == i.part && c.queue == q && c.until_ == none)) = true := by
      rw [h3, List.any_append]
      simp
    refine ⟨_, rfl, ?_⟩
    rw [hg]
    cases hgate : gateRail s i.part with
    | false =>
      rw [if_neg (by simp)]
      exact ⟨hc, fun _ => by rw [hq3, hw, hj]; rfl, fun h => nomatch h⟩
    | true =>
      rw [if_pos ⟨hw, rfl⟩]
      obtain ⟨hce, hfl, k, hk, hkq, hkt, hkk⟩ := grantForced_results (s := s3) (q := q) (i := j)
      exact ⟨by rw [hce]; exact hc, fun h => absurd h (by decide), fun _ => ⟨hfl, k, hk, hkq, by rw [hkt, hj], hkk⟩⟩
  · intro part s hall
    show ∃ t, execFrankCeilingEnd part s = .next t ∧ _
    unfold execFrankCeilingEnd
    extract_lets p mine s1
    have h1 : s1.fq.ceils = s.fq.ceils ∧ now s ≤ now s1 := by
      show (if mine.all _ = true then reach s _ else s).fq.ceils = _ ∧ now s ≤ now (if mine.all _ = true then reach s _ else s)
      split
      · exact ⟨by rw [reach_evolves.fq_eq rfl], le_now_reach _ _⟩
      · exact ⟨rfl, Nat.le_refl _⟩
    clear_value s1
    refine ⟨_, rfl, ?_⟩
    show s1.fq.ceils.filter _ = _
    rw [h1.1]
    refine List.filter_congr fun c hc => ?_
    by_cases hp : c.part = p
    · have hu := hall c hc hp
      cases hcu : c.until_ with
      | none => rw [hcu] at hu; cases hu
      | some u =>
        rw [hcu] at hu
        have hle : u ≤ now s1 := Nat.le_trans (by simpa using hu) h1.2
        simp [hp, hle, show part.val = p from rfl]
    · rw [beq_false_of_ne hp, Bool.false_and, bne_iff_ne.2 hp]
      rfl
  · intro die queue value s htr
    show ∃ t, execFrank die queue value s = .next t ∧ _
    unfold execFrank
    extract_lets d q s1 s2
    have h2 : (portOf s2 d).trained = true := by
      rw [show portOf s2 d = frankTake (portOf s1 d) q value.toNat from (portOf_setPort d d _).trans (if_pos rfl), trained_frankTake]
      exact htr
    clear_value s2 s1
    obtain ⟨l, m, hw, hd, hl, ht, hdata⟩ := wire_statusSend (addr := 0x3F) (code := 0x01) (detail := (0x80 + q) * 2 ^ 24 + 0x3F * 2 ^ 16) h2
    have hq : q < 64 := queue.isLt
    exact ⟨_, rfl, l, m, hw, hd, hl, ht, by rw [hdata]; omega, by rw [hdata]; omega⟩

end Sys2Proof.Machine
end

section
/-! PROOF. Frames that this node sends: which registers a frame of a class may write, and what it leaves in the transmit queues of the lanes. -/

namespace Sys2Proof.Machine
open Host
set_option Elab.async false

section
variable {s t : State} {q : QFrame} {n m c : Nat}

/-! ## Registers -/

/-- The registers that a dead letter of class `c` may write. -/
def letterRegs (c : Nat) : List (Nat × Nat × Nat) :=
  [(Reg.TVL_GEVENT, 0, 0), (Reg.TOP_DRAIN_STATUS, 0, 0), (Reg.TOP_DRAIN_CNT (2 * c + 1), 0, 0), (Reg.TOP_DRAIN_CNT 1, 0, 0), (Reg.REC_EVENT, 0, 0),
    (Reg.REC_ARB_DROP 0, 0, 0), (Reg.REC_ARB_DROP 1, 0, 0), (Reg.REC_ARB_DROP 2, 0, 0), (Reg.TOP_DRAIN_CNT 8, 0, 0)]

theorem deadLetter_letterRegs {reason lane typ src dest : Nat} : RdBut (letterRegs c) s (deadLetter s reason c lane typ src dest) := by
  unfold deadLetter
  extract_lets q e d s1 s2 s3 w0 w1
  have h1 : RdBut (letterRegs c) s s1 := .of_subset (raise_rdBut0 (off := Reg.TVL_GEVENT)) (by simp [letterRegs])
  have h2 : RdBut (letterRegs c) s1 s2 :=
    .ite (.of_subset sinkTake_rdBut (by simp [letterRegs])) (.ite (.of_subset sinkTake_rdBut (by simp [letterRegs])) .refl)
  exact h1.trans (h2.trans (.ite (.of_evolves setDlq_evolves) (.trans (t := s3) (.of_evolves setDlq_evolves)
    (.ite (.of_subset record_rdBut (by simp [letterRegs])) .refl))))

theorem deadFrame_letterRegs {reason : Nat} : RdBut (letterRegs q.frame.cls) s (deadFrame s reason q) := by
  unfold deadFrame
  exact deadLetter_letterRegs.trans (.of_evolves returnUnits_evolves)

theorem toLane_letterRegs : RdBut (letterRegs q.frame.cls) s (toLane s n q) := by
  unfold toLane
  exact .ite deadFrame_letterRegs (.ite deadFrame_letterRegs (.of_evolves outPush_evolves))

theorem deliverFrame_letterRegs : RdBut (letterRegs q.frame.cls) s (deliverFrame s q) := by
  unfold deliverFrame
  exact .ite (.trans (t := { s with tvl := { s.tvl with rx := s.tvl.rx ++ [q.frame] } }) (.of_regs rfl) (.of_evolves returnUnits_evolves))
    (.ite deadFrame_letterRegs
      (.trans (t := (joinQueue s queueDepth (fun q => credDue s q.lane) (deliverOf s q.frame.cls) q).2) (.of_evolves joinQueue_evolves)
        (.of_evolves setDeliver_evolves)))

theorem routeFrame_letterRegs : RdBut (letterRegs q.frame.cls) s (routeFrame s q) := by
  have hop {u : State} {r : Nat} (f : Frame) (hf : f.cls = q.frame.cls) : RdBut (letterRegs q.frame.cls) u (toLane u r (if q.lane = 10 then q else { q with frame := f })) := by
    have h : (if q.lane = 10 then q else { q with frame := f }).frame.cls = q.frame.cls := by
      split
      · rfl
      · exact hf
    rw [← h]
    exact toLane_letterRegs
  unfold routeFrame
  extract_lets f hop' spent r outs s1
  refine .ite (.ite deliverFrame_letterRegs (.ite deadFrame_letterRegs (.ite deadFrame_letterRegs (hop _ rfl)))) (.ite ?_ (.ite deliverFrame_letterRegs ?_))
  · have h1 : RdBut (letterRegs q.frame.cls) s s1 := .forEach fun u m => by
      have h : ({ hop' with units := 0 } : QFrame).frame.cls = q.frame.cls := by
        show (if q.lane = 10 then q else { q with frame := { q.frame with ttl := q.frame.ttl - 1 } }).frame.cls = _
        split <;> rfl
      rw [← h]
      exact toLane_letterRegs
    exact h1.trans (.ite .refl deliverFrame_letterRegs)
  · split
    · exact toLane_letterRegs
    · exact deadFrame_letterRegs

theorem postFrame_letterRegs {typ scope dest : Nat} {body : List Byte} (hc : typ / 256 = c) : RdBut (letterRegs c) s (postFrame s typ scope dest body) := by
  subst hc
  unfold postFrame
  exact .trans (.of_evolves countOseq_evolves) (routeFrame_letterRegs (q := { frame := mkFrame s typ scope dest body, lane := 10 }))

theorem sendHeartbeat_letterRegs : RdBut (letterRegs 1) s (sendHeartbeat s) := by
  unfold sendHeartbeat
  exact postFrame_letterRegs (by norm_num)

theorem postAnn_letterRegs {cid tick basis : Nat} {es : List (Nat × Nat × Nat)} : RdBut (letterRegs 1) s (postAnn s cid tick basis es) := by
  unfold postAnn
  exact postFrame_letterRegs (by norm_num)

/-! ## Transmit queues -/

theorem lane_setDlq {f : DlqSt → DlqSt} {k : Nat} : (setDlq s k f).tvl.lane = s.tvl.lane := rfl

theorem lane_deadLetter {reason lane typ src dest : Nat} : (deadLetter s reason c lane typ src dest).tvl.lane = s.tvl.lane := by
  have hof {W : Blocks} {u v : State} (h : Evolves W u v) (hW : W.tvl = false := by rfl) : Shows (fun x => x.tvl.lane) u v :=
    congrArg TvlSt.lane (h.tvl_eq hW)
  unfold deadLetter
  extract_lets q e d s1 s2 s3 w0 w1
  have h1 : Shows (fun x => x.tvl.lane) s s1 := hof raise_evolves
  have h2 : Shows (fun x => x.tvl.lane) s1 s2 := by
    dsimp only [s2]
    exact .both (hof sinkTake_evolves) (.both (hof sinkTake_evolves) .refl)
  clear_value s1 s2
  have h3 : Shows (fun x => x.tvl.lane) s2 s3 := rfl
  have h4 : Shows (fun x => x.tvl.lane) s3 (if d.items = [] then record s3 .control 0x0E 0x01 q 0 (w0 + 2 ^ 32 * w1) e.at_ else s3) :=
    .both (hof record_evolves) .refl
  exact (h1.trans (h2.trans (.both (.of_eq lane_setDlq) (h3.trans h4)))).eq

theorem returnUnits_none (h : q.units = 0) : returnUnits s q = s := by
  unfold returnUnits
  rw [if_pos (.inl h)]

theorem lane_deadFrame {reason : Nat} (h : q.units = 0) : (deadFrame s reason q).tvl.lane = s.tvl.lane := by
  unfold deadFrame
  rw [returnUnits_none h]
  exact lane_deadLetter

theorem laneOf_of_lane (h : t.tvl.lane = s.tvl.lane) (n : Nat) : laneOf t n = laneOf s n := by
  unfold laneOf
  rw [h]

theorem laneUp_of (h : laneOf t n = laneOf s n) : laneUp t n = laneUp s n := by
  unfold laneUp
  rw [h]

theorem lclsOf_of (h : laneOf t n = laneOf s n) : lclsOf t n c = lclsOf s n c := by
  unfold lclsOf
  rw [h]

theorem lclsOf_setLcls {f : LaneCls → LaneCls} {d : Nat} : lclsOf (setLcls s n c f) n d = if c = d then f (lclsOf s n c) else lclsOf s n d := by
  unfold lclsOf setLcls
  rw [laneOf_setLane, if_pos rfl]
  exact tabGet_tabSet _ _ _ _ _

theorem laneOf_setLcls_ne {f : LaneCls → LaneCls} (h : m ≠ n) : laneOf (setLcls s m c f) n = laneOf s n := by
  unfold setLcls
  rw [laneOf_setLane, if_neg h]

/-- The frame `q` as it stands in a queue of the transmitter: its credits are returned. -/
theorem joinQueue_room {k : Nat} {due : QFrame → Nat} {l : List QFrame} (h : l.length < queueDepth) (hu : q.units = 0) :
    ∃ x : QFrame, x.frame = q.frame ∧ joinQueue s k due l q = (l ++ [x], s) := by
  unfold joinQueue
  extract_lets x
  have hx : x.frame = q.frame ∧ x.units = 0 := by
    dsimp only [x]
    split <;> exact ⟨rfl, hu⟩
  rw [if_pos h, returnUnits_none hx.2]
  exact ⟨{ x with units := 0 }, hx.1, rfl⟩

theorem outPush_room (h : (lclsOf s n q.frame.cls).out.length < queueDepth) (hu : q.units = 0) :
    ∃ x : QFrame, x.frame = q.frame ∧ outPush s n q = setLcls s n q.frame.cls (fun y => { y with out := (lclsOf s n q.frame.cls).out ++ [x] }) := by
  obtain ⟨x, hx, hj⟩ := joinQueue_room (s := s) (k := 0) (due := fun _ => credDue s n) h hu
  unfold outPush
  rw [hj]
  exact ⟨x, hx, rfl⟩

theorem toLane_room (hup : laneUp s n = true) (h : (lclsOf s n q.frame.cls).out.length < queueDepth) (hu : q.units = 0) :
    ∃ x : QFrame, x.frame = q.frame ∧ (lclsOf (toLane s n q) n q.frame.cls).out = (lclsOf s n q.frame.cls).out ++ [x] := by
  obtain ⟨x, hx, hp⟩ := outPush_room h hu
  refine ⟨x, hx, ?_⟩
  unfold toLane
  rw [hup, if_neg (by simp), if_neg (by omega), hp, lclsOf_setLcls, if_pos rfl]

theorem joinQueue_noUnits {k : Nat} {due : QFrame → Nat} {l : List QFrame} (hu : q.units = 0) : (joinQueue s k due l q).2 = s := by
  unfold joinQueue
  extract_lets x
  have hx : x.units = 0 := by
    dsimp only [x]
    split <;> exact hu
  split
  · exact returnUnits_none hx
  · rfl

theorem laneOf_toLane_ne (h : m ≠ n) (hu : q.units = 0) : laneOf (toLane s m q) n = laneOf s n := by
  unfold toLane
  split
  · exact laneOf_of_lane (lane_deadFrame hu) n
  · split
    · exact laneOf_of_lane (lane_deadFrame hu) n
    · unfold outPush
      rw [← laneOf_setLcls_ne (s := s) (c := q.frame.cls) (f := fun y => { y with out := (joinQueue s 0 (fun _ => credDue s m) (lclsOf s m q.frame.cls).out q).1 }) h]
      dsimp only
      rw [joinQueue_noUnits hu]

/-- A lane in UP with room for a frame of its class has the frame at the end of its transmit queue. -/
def Sent (s t : State) (n : Nat) (f : Frame) : Prop := ∃ x : QFrame, (lclsOf t n f.cls).out = (lclsOf s n f.cls).out ++ [x] ∧ x.frame = f

theorem sent_of (h : laneOf t n = laneOf s n) {f : Frame} {u : State} (k : Sent t u n f) : Sent s u n f := by
  unfold Sent at k ⊢
  rwa [lclsOf_of h] at k

theorem postFrame_route {typ dest : Nat} {body : List Byte} (hr : routeF (framesOf s) dest = n) (hn : n < 10) (hup : laneUp s n = true)
    (h : (lclsOf s n (typ / 256)).out.length < 16) : Sent s (postFrame s typ 0 dest body) n (mkFrame s typ 0 dest body) := by
  unfold postFrame routeFrame
  extract_lets f hop spent r _
  have hr' : r = n := hr
  clear_value r
  subst hr'
  have hspent : spent = false := rfl
  rw [if_pos (by rfl), if_neg (by omega), hspent, if_neg (by simp), if_neg (by omega)]
  obtain ⟨x, hx, ho⟩ := toLane_room (s := countOseq s) (n := r) (q := { frame := mkFrame s typ 0 dest body, lane := 10 }) hup h rfl
  exact ⟨x, ho, hx⟩

theorem treeLanes_nodup : (treeLanes s).Nodup := List.nodup_range.filter _

theorem lt_of_mem_treeLanes (h : n ∈ treeLanes s) : n < 10 := List.mem_range.1 (List.mem_filter.1 h).1

theorem postFrame_tree {typ dest : Nat} {body : List Byte} (hn : n ∈ treeLanes s) (hup : laneUp s n = true)
    (h : (lclsOf s n (typ / 256)).out.length < 16) : Sent s (postFrame s typ 1 dest body) n (mkFrame s typ 1 dest body) := by
  unfold postFrame routeFrame
  extract_lets f hop spent r outs s1
  have hm : n ∈ outs := List.mem_filter.2 ⟨hn, by
    have hlt := lt_of_mem_treeLanes hn
    show (laneUp s n && n != 10 && !spent) = true
    have : spent = false := rfl
    have hne : (n != 10) = true := by simpa using (by omega : n ≠ 10)
    rw [this, hup, hne]
    rfl⟩
  rw [if_neg (show ¬(f.scope = 0) from Nat.one_ne_zero), if_pos (by rfl), if_pos (by rfl)]
  refine forEach_once (I := fun u => laneOf u n = laneOf s n) (Q := fun u => Sent s u n (mkFrame s typ 1 dest body)) (treeLanes_nodup.filter _) hm
    (fun u m hne hi => (laneOf_toLane_ne hne rfl).trans hi) (fun u hi => sent_of hi ?_) (fun u m hne ⟨x, ho, hx⟩ => ⟨x, ?_, hx⟩) rfl
  · obtain ⟨x, hx, ho⟩ := toLane_room (s := u) (n := n) (q := { hop with units := 0 }) (by rw [laneUp_of hi, hup]) (by
      rw [lclsOf_of hi]
      exact h) rfl
    exact ⟨x, ho, hx⟩
  · rw [← ho, lclsOf_of (laneOf_toLane_ne hne rfl)]

end

end Sys2Proof.Machine
end

section
/-! PROOF. Domain roles, heartbeats and membership (O45). -/

namespace Sys2Proof.Machine
open Host
set_option Elab.async false

section
variable {s t : State}

theorem reach_form (k : Nat) : ∃ b, reach s k = { s with tb := b } := by
  unfold reach
  split
  · exact ⟨_, rfl⟩
  · exact ⟨_, rfl⟩

theorem treeLanes_of (hi : t.img = s.img) (hr : t.regs = s.regs) : treeLanes t = treeLanes s := by
  have hrole (n : Nat) : laneRole t n = laneRole s n := by
    unfold laneRole
    rw [structured_of_img hi, framesOf_of_img hi]
  unfold treeLanes
  refine List.filter_congr fun n _ => ?_
  unfold treeLane cpos
  rw [inDomain_of_img hi, hrole, fld_congr (rd_of_regs hr _)]

theorem flag_raise_bit {off : Nat} (f : Fld) (hl : f.len = 1) (h : f.lo < 32) : flag (raise s off f) off f = true := by
  obtain ⟨lo, len⟩ := f
  subst hl
  exact flag_raise s off lo h

/-! ## Roles -/

theorem becomeMaster_results (e : Nat) : (becomeMaster s e).dom.role = .master ∧ (becomeMaster s e).dom.mepoch = e ∧ (becomeMaster s e).dom.master = ownNode s
    ∧ (becomeMaster s e).tb.servo = .master ∧ ownNode (becomeMaster s e) = ownNode s ∧ (becomeMaster s e).dom.hbDone = s.dom.hbDone
    ∧ (becomeMaster s e).dom.commits = s.dom.commits := by
  have hd : (pmRefresh s).dom = s.dom := pmRefresh_evolves.dom_eq rfl
  refine ⟨rfl, rfl, rfl, rfl, ownNode_of_img (becomeMaster_evolves.img_eq rfl), ?_, ?_⟩
  · exact (congrArg DomSt.hbDone hd :)
  · exact (congrArg DomSt.commits hd :)

theorem claimExpiry_results (h : s.dom.role = .claim) : Runs .claimExpiry s (fun t => t.dom.role = .master ∧ t.dom.mepoch = 1 ∧ t.dom.master = ownNode s
    ∧ t.dom.members = [ownNode s] ∧ t.tb.servo = .master) := by
  show ∃ t, execClaimExpiry s = .next t ∧ _
  unfold execClaimExpiry
  extract_lets s1
  rw [if_pos h]
  refine ⟨_, rfl, ?_⟩
  obtain ⟨hr, he, hm, hs, ho, -, -⟩ := becomeMaster_results (s := reach s (s.dom.claimAt + 300000)) 1
  have hown : ownNode (reach s (s.dom.claimAt + 300000)) = ownNode s := ownNode_of_img (reach_evolves.img_eq rfl)
  rw [hown] at hm ho
  exact ⟨hr, he, hm, congrArg (fun n => [n]) ho, hs⟩

theorem sendHeartbeat_sent {n : Nat} (hn : n ∈ treeLanes s) (hup : laneUp s n = true) (h : (lclsOf s n 1).out.length < 16) :
    ∃ q : QFrame, (lclsOf (sendHeartbeat s) n 1).out = (lclsOf s n 1).out ++ [q] ∧ q.frame.typ = 0x0110 ∧ q.frame.epoch = s.dom.mepoch := by
  obtain ⟨q, hq, hf⟩ := postFrame_tree (typ := 0x0110) (dest := 0) (body := leBytes 8 (now s) ++ leBytes 8 (btEpoch (actBt s)) ++ leBytes 2 s.dom.standby
    ++ leBytes 2 s.dom.mgen ++ leBytes 2 (members s) ++ leBytes 2 0) hn hup h
  exact ⟨q, hq, by rw [hf]; rfl, by rw [hf]; rfl⟩

theorem heartbeatInstant_results (h : s.dom.role = .master) : let wrote := s.dom.mEpochs < 3 ∨ ∃ e ∈ s.dom.goEpochs, s.bt.last ≤ e + 2
    Runs .heartbeatInstant s (fun t =>
      (s.top.state ∈ [.loaded, .ramp, .run] → wrote → ∀ n ∈ treeLanes s, laneUp s n = true → (lclsOf s n 1).out.length < 16 →
          ∃ q : QFrame, (lclsOf t n 1).out = (lclsOf s n 1).out ++ [q] ∧ q.frame.typ = 0x0110 ∧ q.frame.epoch = s.dom.mepoch)
      ∧ (s.top.state ∉ [.loaded, .ramp, .run] ∨ ¬ wrote → t.tvl = s.tvl)) := by
  intro wrote
  show ∃ t, execHeartbeatInstant s = .next t ∧ _
  unfold execHeartbeatInstant
  extract_lets k s1 on wr'
  rw [if_pos h]
  refine ⟨_, rfl, ?_⟩
  obtain ⟨b, hb⟩ := reach_form (s := s) (k * 100000)
  have h1 : s1 = { s with tb := b, dom := { s.dom with hbSent := k } } := by
    show setDom (reach s (k * 100000)) _ = _
    rw [hb]
    rfl
  have hon : on = true ↔ s.top.state ∈ [.loaded, .ramp, .run] := by
    dsimp only [on]
    rw [h1]
    simp [or_assoc]
  have hwr : wr' = true ↔ wrote := by
    dsimp only [wr', wrote]
    rw [h1]
    simp
  clear_value s1 on wr' wrote
  subst h1
  simp only [← hon, ← hwr, Bool.and_eq_true]
  constructor
  · intro ho hw n hn hup hroom
    rw [if_pos ⟨ho, hw⟩]
    exact sendHeartbeat_sent (s := { s with tb := b, dom := { s.dom with hbSent := k } }) (by rwa [treeLanes_of rfl rfl]) hup hroom
  · intro hno
    rw [if_neg (by tauto)]

/-! ## Missed instants -/

/-- What a takeover leaves. -/
theorem takeover_results : (takeover s).dom.role = .master ∧ (takeover s).dom.mepoch = s.dom.mepoch + 1 ∧ (takeover s).tb.servo = .master
    ∧ (takeover s).dom.rerooted = true ∧ (takeover s).dom.commits = s.dom.commits ∧ (takeover s).dom.hbDone = s.dom.hbDone
    ∧ flag (takeover s) Reg.DOM_EVENT F.DOM_EVENT_FAILOVER = true := by
  unfold takeover
  extract_lets again s1 s2 s3 s4
  have hs : (setSegs s true {}).dom.hbDone = s.dom.hbDone ∧ (setSegs s true {}).dom.commits = s.dom.commits := by
    unfold setSegs
    split <;> exact ⟨rfl, rfl⟩
  obtain ⟨hr, he, hm, hv, -, hd, hc⟩ := becomeMaster_results (s := setSegs s true {}) (s.dom.mepoch + 1)
  have h2 : s2.dom.role = .master ∧ s2.dom.mepoch = s.dom.mepoch + 1 ∧ s2.tb.servo = .master ∧ s2.dom.rerooted = true ∧ s2.dom.commits = s.dom.commits
      ∧ s2.dom.hbDone = s.dom.hbDone := ⟨hr, he, hv, rfl, hc.trans hs.2, hd.trans hs.1⟩
  clear_value s1 s2
  have e3 : Evolves { regs := true } s2 s3 := raise_evolves.mono.trans bump_evolves.mono
  have f3 : flag s3 Reg.DOM_EVENT F.DOM_EVENT_FAILOVER = true :=
    ((bump_rdBut0 (off := Reg.DOM_CNT)).flag_eq _).trans (flag_raise_bit _ rfl (by decide))
  clear_value s3
  have e4 : Evolves { regs := true, drain := true, recd := true, tvl := true } s3 s4 := record_evolves.mono.trans sendHeartbeat_evolves.mono
  have f4 : flag s4 Reg.DOM_EVENT F.DOM_EVENT_FAILOVER = true :=
    (((record_rdBut.mono : RdBut (letterRegs 1) s3 _).trans sendHeartbeat_letterRegs).flag_eq _).trans f3
  clear_value s4
  have e5 : Evolves { regs := true, drain := true, recd := true, tvl := true } s4 (forEach again s4 (fun s a => postAnn s a.cid a.tick a.basis a.entries)) :=
    .forEach fun _ _ => postAnn_evolves
  have r5 : RdBut (letterRegs 1) s4 (forEach again s4 (fun s a => postAnn s a.cid a.tick a.basis a.entries)) := .forEach fun _ _ => postAnn_letterRegs
  have hdom := ((e5.dom_eq rfl).trans (e4.dom_eq rfl)).trans (e3.dom_eq rfl)
  have htb := ((e5.tb_eq rfl).trans (e4.tb_eq rfl)).trans (e3.tb_eq rfl)
  rw [hdom, htb]
  obtain ⟨g1, g2, g3, g4, g5, g6⟩ := h2
  exact ⟨g1, g2, g3, g4, g5, g6, (r5.flag_eq _).trans f4⟩

theorem domRoleNow_of (ht : t.top.state = s.top.state) (hr : t.dom.role = s.dom.role) : domRoleNow t = domRoleNow s := by
  unfold domRoleNow
  rw [ht, hr]

theorem foArmed_of (ht : t.top.state = s.top.state) (hr : t.dom.role = s.dom.role) (hs : t.dom.hbSeen = s.dom.hbSeen) (he : t.dom.mepoch = s.dom.mepoch) :
    foArmed t = foArmed s := by
  unfold foArmed
  rw [domRoleNow_of ht hr, hs, he]

theorem heartbeatMissed_results (hr : domRoleNow s ≠ .none_) (hm : s.dom.role ≠ .master) :
    let late := aF s Reg.DOM_HB_CFG F.DOM_HB_CFG_HB_LATE * 1000
    let k := max (s.dom.hbDone + 1) ((now s - late) / 100000)
    Runs .heartbeatMissed s (fun t => t.dom.hbDone = k
      ∧ (k ≤ s.dom.hbAt → t.dom.missed = s.dom.missed ∧ t.dom.role = s.dom.role)
      ∧ (s.dom.hbAt < k → s.dom.missed < 2 → t.dom.missed = s.dom.missed + 1 ∧ t.dom.role = s.dom.role ∧ t.dom.mepoch = s.dom.mepoch)
      ∧ (s.dom.hbAt < k → 2 ≤ s.dom.missed → foArmed s = false → t.dom.masterLost = true ∧ t.dom.role = s.dom.role ∧ t.dom.mepoch = s.dom.mepoch)
      ∧ (s.dom.hbAt < k → 2 ≤ s.dom.missed → foArmed s = true → t.dom.role = .master ∧ t.dom.mepoch = s.dom.mepoch + 1 ∧ t.tb.servo = .master
          ∧ t.dom.rerooted = true ∧ t.dom.commits = s.dom.commits ∧ flag t Reg.DOM_EVENT F.DOM_EVENT_FAILOVER = true)) := by
  intro late k
  show ∃ t, execHeartbeatMissed s = .next t ∧ _
  unfold execHeartbeatMissed
  extract_lets s1 s2 s3
  rw [if_neg (by tauto)]
  obtain ⟨b, hb⟩ := reach_form (s := s) (k * 100000 + late)
  have h1 : s1 = { s with tb := b, dom := { s.dom with hbDone := k } } := by
    show setDom (reach s (k * 100000 + late)) _ = _
    rw [hb]
    rfl
  have h2 : s2 = { s with tb := b, dom := { s.dom with hbDone := k, missed := s.dom.missed + 1 } } := by
    dsimp only [s2]
    rw [h1]
    rfl
  have h3 : s3.dom = { s.dom with hbDone := k, missed := s.dom.missed + 1, masterLost := true } ∧ s3.top = s.top := by
    dsimp only [s3]
    rw [h2]
    split
    next hl =>
      refine ⟨?_, rfl⟩
      have hl' : s.dom.masterLost = true := hl
      show ({ s.dom with hbDone := k, missed := s.dom.missed + 1 } : DomSt) = _
      rw [← hl']
    · exact ⟨raise_evolves.dom_eq rfl, raise_evolves.top_eq rfl⟩
  clear_value s1 s2 s3
  clear_value k
  subst h1 h2
  obtain ⟨h3d, h3t⟩ := h3
  by_cases hat : k ≤ s.dom.hbAt
  · rw [if_pos hat]
    exact ⟨_, rfl, rfl, fun _ => ⟨rfl, rfl⟩, fun h => absurd h (by omega), fun h => absurd h (by omega), fun h => absurd h (by omega)⟩
  · rw [if_neg hat]
    by_cases hlt : s.dom.missed < 2
    · rw [if_pos (show s.dom.missed + 1 < 3 by omega)]
      exact ⟨_, rfl, rfl, fun h => absurd h (by omega), fun _ _ => ⟨rfl, rfl, rfl⟩, fun _ h => absurd h (by omega), fun _ h => absurd h (by omega)⟩
    · rw [if_neg (show ¬s.dom.missed + 1 < 3 by omega)]
      refine ⟨_, rfl, ?_⟩
      have hfo : foArmed s3 = foArmed s := foArmed_of (by rw [h3t]) (by rw [h3d]) (by rw [h3d]) (by rw [h3d])
      rw [hfo]
      obtain ⟨g1, g2, g3, g4, g5, g6, g7⟩ := takeover_results (s := s3)
      rw [h3d] at g2 g5 g6
      cases hf : foArmed s
      · rw [if_neg (by simp)]
        refine ⟨by rw [h3d], fun h => absurd h (by omega), fun _ h => absurd h (by omega), fun _ _ _ => ?_, fun _ _ h => absurd h (by simp)⟩
        rw [h3d]
        exact ⟨rfl, rfl, rfl⟩
      · rw [if_pos rfl]
        exact ⟨g6, fun h => absurd h (by omega), fun _ h => absurd h (by omega), fun _ _ h => absurd h (by simp), fun _ _ _ => ⟨g1, g2, g3, g4, g5, g7⟩⟩

/-! ## Heartbeats received -/

theorem flag_loseAlign {off : Nat} {f : Fld} (h : [(Reg.TB_EVENT, 0, 0), (Reg.REC_EVENT, 0, 0), (Reg.REC_ARB_DROP 0, 0, 0), (Reg.REC_ARB_DROP 1, 0, 0),
    (Reg.REC_ARB_DROP 2, 0, 0), (Reg.TOP_DRAIN_CNT 8, 0, 0), (Reg.TOP_DRAIN_STATUS, 0, 0)].all (misses · off) = true) :
    flag (loseAlign s) off f = flag s off f := by
  have hr : RdBut [(Reg.TB_EVENT, 0, 0), (Reg.REC_EVENT, 0, 0), (Reg.REC_ARB_DROP 0, 0, 0), (Reg.REC_ARB_DROP 1, 0, 0),
      (Reg.REC_ARB_DROP 2, 0, 0), (Reg.TOP_DRAIN_CNT 8, 0, 0), (Reg.TOP_DRAIN_STATUS, 0, 0)] s (loseAlign s) := by
    unfold loseAlign
    exact .ite (.trans (t := setTb s _) (.of_regs rfl) (.trans (raise_rdBut0 (off := Reg.TB_EVENT)).mono record_rdBut.mono)) .refl
  exact hr.flag_eq _ h

/-- What a HEARTBEAT of a higher epoch leaves of the roles. -/
theorem hbAdopt_results (lane src epoch standby : Nat) : (hbAdopt s lane src epoch standby).dom.mepoch = epoch ∧ (hbAdopt s lane src epoch standby).dom.master = src
    ∧ (s.dom.role = .master ∨ s.dom.role = .claim → (hbAdopt s lane src epoch standby).dom.role = (if standby = 0xFFFF then .standby else .joining)
      ∧ (hbAdopt s lane src epoch standby).dom.upLane = some lane ∧ flag (hbAdopt s lane src epoch standby) Reg.DOM_EVENT F.DOM_EVENT_YIELD = true)
    ∧ (s.dom.role ≠ .master → s.dom.role ≠ .claim → (hbAdopt s lane src epoch standby).dom.role = s.dom.role) := by
  unfold hbAdopt
  extract_lets yields s1 s2 role s3
  have hy : yields = true ↔ s.dom.role = .master ∨ s.dom.role = .claim := by simp [yields]
  clear_value yields
  split
  next h =>
    have hd : (enterAcquire (raise (setTb s3 (fun t => { t with rateLimited := false })) Reg.DOM_EVENT F.DOM_EVENT_YIELD)).dom = s3.dom :=
      (enterAcquire_evolves.dom_eq rfl).trans (raise_evolves.dom_eq rfl)
    rw [hd]
    refine ⟨rfl, rfl, fun _ => ⟨rfl, rfl, ?_⟩, fun h1 h2 => absurd (hy.1 h) (by tauto)⟩
    unfold enterAcquire
    rw [flag_loseAlign (by decide +kernel)]
    exact flag_raise_bit _ rfl (by decide)
  next h => exact ⟨rfl, rfl, fun hc => absurd (hy.2 hc) h, fun _ _ => rfl⟩

/-- The domain after a HEARTBEAT of the master's own epoch and source. -/
theorem heartbeat_results (lane : LaneIx) (src : Fin 1024) (epoch : Fin (2 ^ 32)) (standby mgen mem : Fin 65536) (hr : s.dom.role ≠ .none_) :
    Runs (.heartbeat lane src epoch standby mgen mem) s (fun t =>
      (s.dom.mepoch = epoch.val → s.dom.master = src.val → t.dom.role = s.dom.role ∧ t.dom.missed = 0 ∧ t.dom.masterLost = false ∧ t.dom.hbSeen = true
        ∧ t.dom.standby = standby.val ∧ t.dom.mgen = mgen.val)
      ∧ (s.dom.mepoch < epoch.val → t.dom.mepoch = epoch.val ∧ t.dom.master = src.val
        ∧ (s.dom.role = .master ∨ s.dom.role = .claim → t.dom.role = (if standby.val = 0xFFFF then .standby else .joining) ∧ t.dom.upLane = some lane.val
            ∧ flag t Reg.DOM_EVENT F.DOM_EVENT_YIELD = true)
        ∧ (s.dom.role ≠ .master → s.dom.role ≠ .claim → t.dom.role = s.dom.role))
      ∧ (s.dom.mepoch = epoch.val → s.dom.master ≠ src.val → t.dom = s.dom ∧ flag t Reg.DOM_EVENT F.DOM_EVENT_STALE_SRC = true)
      ∧ (epoch.val < s.dom.mepoch → t.dom = s.dom)) := by
  show ∃ t, execHeartbeat lane src epoch standby mgen mem s = .next t ∧ _
  unfold execHeartbeat
  extract_lets s1 s2 late
  have h1 : s1.dom = s.dom := takeRx_evolves.dom_eq rfl
  by_cases hlt : epoch.val < s.dom.mepoch
  · rw [if_pos (.inr (h1 ▸ hlt))]
    exact ⟨_, rfl, fun h => absurd h (by omega), fun h => absurd h (by omega), fun h => absurd h (by omega), fun _ => h1⟩
  · rw [if_neg (by rw [h1]; tauto)]
    have hpm : (pmRefresh s2).dom = s2.dom := pmRefresh_evolves.dom_eq rfl
    by_cases hgt : s.dom.mepoch < epoch.val
    · have h2 : s2 = hbAdopt s1 lane.val src.val epoch.val standby.val := if_pos (h1 ▸ hgt)
      obtain ⟨g1, g2, g3, g4⟩ := hbAdopt_results (s := s1) lane.val src.val epoch.val standby.val
      rw [← h2, h1] at g3 g4
      rw [← h2] at g1 g2
      clear_value s2
      rw [if_neg (by simpa using g2)]
      refine ⟨_, rfl, fun h => absurd h (by omega), fun _ => ⟨?_, ?_, fun hc => ?_, fun ha hb => ?_⟩, fun h => absurd h (by omega), fun h => absurd h (by omega)⟩
      · exact (congrArg DomSt.mepoch hpm).trans g1
      · exact (congrArg DomSt.master hpm).trans g2
      · obtain ⟨k1, k2, k3⟩ := g3 hc
        refine ⟨(congrArg DomSt.role hpm).trans k1, (congrArg DomSt.upLane hpm).trans k2, ?_⟩
        have hp : flag (pmRefresh s2) Reg.DOM_EVENT F.DOM_EVENT_YIELD = flag s2 Reg.DOM_EVENT F.DOM_EVENT_YIELD :=
          flag_congr (rd_of_regs (pmRefresh_evolves.regs_eq rfl) _) _
        exact hp.trans k3
      · exact (congrArg DomSt.role hpm).trans (g4 ha hb)
    · have h2 : s2 = s1 := if_neg (h1 ▸ hgt)
      clear_value s2
      subst h2
      by_cases hm : s.dom.master = src.val
      · rw [if_neg (by rw [h1]; simpa using hm)]
        refine ⟨_, rfl, fun _ _ => ⟨?_, rfl, rfl, rfl, rfl, rfl⟩, fun h => absurd h hgt, fun _ h => absurd hm h, fun h => absurd h hlt⟩
        exact (congrArg DomSt.role hpm).trans (congrArg DomSt.role h1)
      · rw [if_pos (by rw [h1]; exact hm)]
        refine ⟨_, rfl, fun _ h => absurd h hm, fun h => absurd h hgt, fun _ _ => ⟨(staleSrc_evolves.dom_eq rfl).trans h1, ?_⟩, fun h => absurd h hlt⟩
        unfold staleSrc
        exact (record_rdBut.flag_eq _).trans (flag_raise_bit _ rfl (by decide))

/-! ## Membership -/

theorem noStandby_results (hr : domRoleNow s = .master) (hn : s.dom.noStandby = false) :
    Runs .noStandby s (fun t => t.dom = { s.dom with noStandby := true }) := by
  show ∃ t, execNoStandby s = .next t ∧ _
  unfold execNoStandby
  rw [if_pos ⟨hr, by simp [hn]⟩]
  exact ⟨_, rfl, record_evolves.dom_eq rfl⟩

theorem joinReqSend_results {r : Nat} (hr : domRoleNow s = .joining) (ha : s.tb.aligned = true) (hm : routeF (framesOf s) s.dom.master = r) (hl : r < 10)
    (hup : laneUp s r = true) (hroom : (lclsOf s r 1).out.length < 16) :
    Runs .joinReqSend s (fun t => ∃ q : QFrame, (lclsOf t r 1).out = (lclsOf s r 1).out ++ [q] ∧ q.frame.typ = 0x0114 ∧ q.frame.dest = s.dom.master) := by
  show ∃ t, execJoinReqSend s = .next t ∧ _
  unfold execJoinReqSend
  extract_lets groups
  rw [if_pos ⟨.inl hr, ha⟩]
  refine ⟨_, rfl, ?_⟩
  obtain ⟨q, hq, hf⟩ := postFrame_route (typ := 0x0114) (body := leBytes 2 (ownNode s) ++ leBytes 2 0 ++ leBytes 4 (rd s Reg.SEC_IMG_GEN).toNat ++ leBytes 8 groups)
    hm hl hup hroom
  exact ⟨q, hq, by rw [hf]; rfl, by rw [hf]; rfl⟩

theorem joinReq_results (src : Fin 1024) (standby : Bool) (hr : domRoleNow s = .master) : Runs (.joinReq src standby) s (fun t =>
    (memberF (framesOf s) src.val = true → src.val ∈ t.dom.members ∧ t.dom.mgen = (s.dom.mgen + 1) % 2 ^ 16
      ∧ t.dom.standby = if standby = true ∧ s.dom.standby = 0xFFFF then src.val else s.dom.standby)
    ∧ (memberF (framesOf s) src.val = false → t.dom = s.dom)) := by
  show ∃ t, execJoinReq src standby s = .next t ∧ _
  unfold execJoinReq
  extract_lets s1 e s2 s3
  have e1 : Evolves { tvl := true } s s1 := takeDelivered_evolves
  have hd : s1.dom = s.dom := e1.dom_eq rfl
  have hf : framesOf s1 = framesOf s := framesOf_of_img (e1.img_eq rfl)
  rw [if_neg (by rw [domRoleNow_of (congrArg TopSt.state (e1.top_eq rfl)) (congrArg DomSt.role hd), hr]; simp), hf]
  cases hm : memberF (framesOf s) src.val
  · rw [if_neg (by simp)]
    exact ⟨_, rfl, fun h => absurd h (by simp), fun _ => (postFrame_evolves.dom_eq rfl).trans hd⟩
  · rw [if_pos rfl]
    refine ⟨_, rfl, fun _ => ?_, fun h => absurd h (by simp)⟩
    have h3 : s3.dom = s2.dom := postFrame_evolves.dom_eq rfl
    rw [(postFrame_evolves.dom_eq rfl).trans h3]
    refine ⟨?_, congrArg (fun d : DomSt => (d.mgen + 1) % 2 ^ 16) hd, ?_⟩
    · show src.val ∈ (if s1.dom.members.contains src.val then s1.dom.members else s1.dom.members ++ [src.val])
      split
      next h => exact List.contains_iff_mem.1 h
      · simp
    · show (if standby && s1.dom.standby == 0xFFFF then src.val else s1.dom.standby) = _
      rw [hd]
      simp

theorem joinAck_results (mgen : Fin 65536) (bepoch : Nat) (hr : s.dom.role = .joining ∨ s.dom.role = .standby) :
    Runs (.joinAck true mgen bepoch) s (fun t => t.dom.admitAt = some bepoch ∧ t.dom.mgen = mgen.val ∧ flag t Reg.DOM_EVENT F.DOM_EVENT_JOIN = true
      ∧ t.dom.role = (if s.dom.role = .standby then .standby else .member)) := by
  show ∃ t, execJoinAck true mgen bepoch s = .next t ∧ _
  unfold execJoinAck
  extract_lets s1 s2
  have hd : s1.dom = s.dom := takeDelivered_evolves.dom_eq rfl
  rw [if_pos ⟨rfl, by rwa [hd]⟩]
  refine ⟨_, rfl, rfl, rfl, (flag_raise_bit _ rfl (by decide)), ?_⟩
  show (if s1.dom.role = .standby then DomRole.standby else .member) = _
  rw [hd]

theorem member_results (mgen : Fin 65536) (node : Fin 1024) (kind : Fin 256) (hn : s.dom.role ≠ .none_) (hm : s.dom.role ≠ .master) :
    Runs (.member mgen node kind) s (fun t => t.dom.mgen = mgen.val ∧ (kind.val = 1 → node.val ∈ t.dom.members)
      ∧ (kind.val = 2 ∨ kind.val = 3 → node.val ∉ t.dom.members ∧ (node.val = ownNode s → t.dom.admitAt = none ∧ (s.dom.role = .member → t.dom.role = .joining)))) := by
  show ∃ t, execMember mgen node kind s = .next t ∧ _
  unfold execMember
  extract_lets s1 s2 own
  have hd : s1.dom = s.dom := takeDelivered_evolves.dom_eq rfl
  have ho : ownNode s2 = ownNode s := ownNode_of_img (takeDelivered_evolves.img_eq rfl)
  rw [if_neg (by rw [hd]; tauto)]
  by_cases h1 : kind.val = 1
  · rw [if_pos h1]
    refine ⟨_, rfl, rfl, fun _ => ?_, fun h => absurd h (by omega)⟩
    show node.val ∈ (if s1.dom.members.contains node.val then s1.dom.members else s1.dom.members ++ [node.val])
    split
    next h => exact List.contains_iff_mem.1 h
    · simp
  · rw [if_neg h1]
    by_cases h2 : kind.val = 2 ∨ kind.val = 3
    · rw [if_pos h2]
      refine ⟨_, rfl, rfl, fun h => absurd h h1, fun _ => ⟨?_, fun hown => ?_⟩⟩
      · show node.val ∉ s1.dom.members.filter (fun n => n != node.val)
        simp
      · have hw : own = true := by
          dsimp only [own]
          rw [ho]
          simpa using hown
        refine ⟨if_pos hw, fun hr => if_pos ?_⟩
        rw [hw]
        show (true && s1.dom.role == .member) = true
        rw [hd, hr]
        rfl
    · rw [if_neg h2]
      exact ⟨_, rfl, rfl, fun h => absurd h h1, fun h => absurd h h2⟩

end

/-- Settles O45: each command of the roles sets the fields of the domain that its row names, and what follows it (frames, records, the latches of the
sideband) writes neither them nor DOM_EVENT. -/
theorem roleAndMembershipResults : Obligations.RoleAndMembershipResults :=
  ⟨⟨fun _ => claimExpiry_results, fun _ => heartbeatInstant_results, fun _ => heartbeatMissed_results,
    fun lane src epoch standby mgen mem _ => heartbeat_results lane src epoch standby mgen mem, fun _ => noStandby_results⟩,
   fun _ _ => joinReqSend_results, fun src standby _ => joinReq_results src standby, fun mgen bepoch _ => joinAck_results mgen bepoch,
   fun mgen node kind _ => member_results mgen node kind⟩

end Sys2Proof.Machine
end

section
/-! PROOF. Dead letters, deliveries and the receiver's sequence numbers: what frames leave of the parts of the link's state that O43 reads. -/

namespace Sys2Proof.Machine
open Host
set_option Elab.async false

section
variable {s t : State} {q : QFrame} {n c : Nat}

/-! ## The link's state but lanes and dead letters -/

/-- What a frame sent or refused keeps of the link's state: all but lanes, dead letters and OSEQ. -/
def tvlRest (s : State) : TvlSt := { s.tvl with lane := [], dlq := [], oseq := 0 }

theorem tvlRest_of {W : Blocks} (h : Evolves W s t) (hW : W.tvl = false := by rfl) : Shows tvlRest s t := by
  unfold Shows tvlRest
  rw [h.tvl_eq hW]

theorem Shows.rx (h : Shows tvlRest s t) : t.tvl.rx = s.tvl.rx := (congrArg TvlSt.rx h.eq :)

theorem Shows.deliver (h : Shows tvlRest s t) : t.tvl.deliver = s.tvl.deliver := (congrArg TvlSt.deliver h.eq :)

theorem Shows.red (h : Shows tvlRest s t) : t.tvl.red = s.tvl.red := (congrArg TvlSt.red h.eq :)

theorem Shows.redDone (h : Shows tvlRest s t) : t.tvl.redDone = s.tvl.redDone := (congrArg TvlSt.redDone h.eq :)

theorem tvlRest_setDlq {f : DlqSt → DlqSt} {k : Nat} : Shows tvlRest s (setDlq s k f) := rfl

theorem tvlRest_setLane {f : LaneSt → LaneSt} {k : Nat} : Shows tvlRest s (setLane s k f) := rfl

theorem tvlRest_setLcls {f : LaneCls → LaneCls} {k : Nat} : Shows tvlRest s (setLcls s k c f) := rfl

theorem tvlRest_returnUnits : Shows tvlRest s (returnUnits s q) := by
  unfold returnUnits
  exact .both .refl tvlRest_setLcls

theorem tvlRest_deadLetter {reason lane typ src dest : Nat} : Shows tvlRest s (deadLetter s reason c lane typ src dest) := by
  unfold deadLetter
  extract_lets k e d s1 s2 s3 w0 w1
  have h1 : Shows tvlRest s s1 := tvlRest_of raise_evolves
  have h2 : Shows tvlRest s1 s2 := by
    dsimp only [s2]
    exact .both (tvlRest_of sinkTake_evolves) (.both (tvlRest_of sinkTake_evolves) .refl)
  have h3 : Shows tvlRest s2 s3 := tvlRest_setDlq
  clear_value s1 s2 s3
  exact h1.trans (h2.trans (.both tvlRest_setDlq (h3.trans (.both (tvlRest_of record_evolves) .refl))))

theorem tvlRest_deadFrame {reason : Nat} : Shows tvlRest s (deadFrame s reason q) := by
  unfold deadFrame
  exact tvlRest_deadLetter.trans tvlRest_returnUnits

theorem tvlRest_joinQueue {k : Nat} {due : QFrame → Nat} {l : List QFrame} : Shows tvlRest s (joinQueue s k due l q).2 := by
  unfold joinQueue
  exact .iteSnd tvlRest_returnUnits .refl

theorem tvlRest_outPush : Shows tvlRest s (outPush s n q) := by
  unfold outPush
  exact .trans (t := (joinQueue s 0 (fun _ => credDue s n) (lclsOf s n q.frame.cls).out q).2) tvlRest_joinQueue tvlRest_setLcls

theorem tvlRest_toLane : Shows tvlRest s (toLane s n q) := by
  unfold toLane
  exact .both tvlRest_deadFrame (.both tvlRest_deadFrame tvlRest_outPush)

/-- A frame of this node that does not stay here. -/
theorem tvlRest_postFrame {typ scope dest : Nat} {body : List Byte} (h : scope ≠ 0) : Shows tvlRest s (postFrame s typ scope dest body) := by
  unfold postFrame routeFrame
  extract_lets f hop spent r outs s1
  have h0 : Shows tvlRest s (countOseq s) := rfl
  rw [if_neg (show ¬(f.scope = 0) from h)]
  have hpost : Shows tvlRest (countOseq s) s1 := .forEach fun _ _ => tvlRest_toLane
  clear_value s1
  refine h0.trans (.both ?_ ?_)
  · rw [if_pos (by rfl)]
    exact hpost
  · rw [if_neg (by simp)]
    split
    · exact tvlRest_toLane
    · exact tvlRest_deadFrame

/-! ## Dead letters -/

/-- The registers that a dead letter writes after TVL_GEVENT. -/
def laterRegs (c : Nat) : List (Nat × Nat × Nat) :=
  [(Reg.TOP_DRAIN_STATUS, 0, 0), (Reg.TOP_DRAIN_CNT (2 * c + 1), 0, 0), (Reg.TOP_DRAIN_CNT 1, 0, 0), (Reg.REC_EVENT, 0, 0),
    (Reg.REC_ARB_DROP 0, 0, 0), (Reg.REC_ARB_DROP 1, 0, 0), (Reg.REC_ARB_DROP 2, 0, 0), (Reg.TOP_DRAIN_CNT 8, 0, 0)]

theorem deadLetter_laterRegs {reason lane typ src dest : Nat} :
    RdBut (laterRegs c) (raise s Reg.TVL_GEVENT F.TVL_GEVENT_DLQ) (deadLetter s reason c lane typ src dest) := by
  unfold deadLetter
  extract_lets k e d s1 s2 s3 w0 w1
  have h2 : RdBut (laterRegs c) s1 s2 :=
    .ite (.of_subset sinkTake_rdBut (by simp [laterRegs])) (.ite (.of_subset sinkTake_rdBut (by simp [laterRegs])) .refl)
  exact h2.trans (.ite (.of_evolves setDlq_evolves) (.trans (t := s3) (.of_evolves setDlq_evolves)
    (.ite (.of_subset record_rdBut (by simp [laterRegs])) .refl)))

theorem laterRegs_gevent (h : c ≤ 3) : (laterRegs c).all (misses · Reg.TVL_GEVENT) = true := by
  interval_cases c <;> decide +kernel

/-- A dead letter raises DLQ. -/
theorem flag_dlq_deadLetter {reason lane typ src dest : Nat} (hc : c ≤ 3) :
    flag (deadLetter s reason c lane typ src dest) Reg.TVL_GEVENT F.TVL_GEVENT_DLQ = true :=
  (deadLetter_laterRegs.flag_eq _ (laterRegs_gevent hc)).trans (flag_raise _ _ _ (by decide))

/-- A dead letter keeps the other events of TVL_GEVENT. -/
theorem flag_deadLetter_keeps {reason lane typ src dest lo : Nat} (hc : c ≤ 3) (hl : lo < 32) (h : flag s Reg.TVL_GEVENT ⟨lo, 1⟩ = true) :
    flag (deadLetter s reason c lane typ src dest) Reg.TVL_GEVENT ⟨lo, 1⟩ = true :=
  (deadLetter_laterRegs.flag_eq _ (laterRegs_gevent hc)).trans (flag_raise_keeps (by decide) h hl)

theorem flag_dlq_deadFrame {reason : Nat} (hc : q.frame.cls ≤ 3) : flag (deadFrame s reason q) Reg.TVL_GEVENT F.TVL_GEVENT_DLQ = true := by
  unfold deadFrame
  exact (flag_congr (rd_of_regs (returnUnits_evolves.regs_eq rfl) _) _).trans (flag_dlq_deadLetter hc)

theorem flag_deadFrame_keeps {reason lo : Nat} (hc : q.frame.cls ≤ 3) (hl : lo < 32) (h : flag s Reg.TVL_GEVENT ⟨lo, 1⟩ = true) :
    flag (deadFrame s reason q) Reg.TVL_GEVENT ⟨lo, 1⟩ = true := by
  unfold deadFrame
  exact (flag_congr (rd_of_regs (returnUnits_evolves.regs_eq rfl) _) _).trans (flag_deadLetter_keeps hc hl h)

theorem flag_toLane_keeps {lo : Nat} (hc : q.frame.cls ≤ 3) (hl : lo < 32) (h : flag s Reg.TVL_GEVENT ⟨lo, 1⟩ = true) :
    flag (toLane s n q) Reg.TVL_GEVENT ⟨lo, 1⟩ = true := by
  unfold toLane
  split
  · exact flag_deadFrame_keeps hc hl h
  · split
    · exact flag_deadFrame_keeps hc hl h
    · exact (flag_congr (rd_of_regs (outPush_evolves.regs_eq rfl) _) _).trans h

/-- A frame that goes up the tree keeps the events of TVL_GEVENT. -/
theorem flag_postUp_keeps {typ dest lo : Nat} {body : List Byte} (ht : typ / 256 ≤ 3) (hl : lo < 32) (h : flag s Reg.TVL_GEVENT ⟨lo, 1⟩ = true) :
    flag (postFrame s typ 2 dest body) Reg.TVL_GEVENT ⟨lo, 1⟩ = true := by
  unfold postFrame routeFrame
  extract_lets f hop spent r outs s1
  rw [if_neg (show ¬(f.scope = 0) from Nat.succ_ne_zero 1), if_neg (show ¬(f.scope = 1) by show ¬((2 : Nat) = 1); decide), if_neg (by simp)]
  have h0 : flag (countOseq s) Reg.TVL_GEVENT ⟨lo, 1⟩ = true := h
  split
  · exact flag_toLane_keeps ht hl h0
  · exact flag_deadFrame_keeps ht hl h0

/-! ## The receiver's sequence numbers -/

/-- What a lane owes its partner for a class, and the LSEQ that it expects. -/
def rxState (s : State) (n c : Nat) : Option (Bool × Nat) × Bool × Nat := ((lclsOf s n c).ack, (lclsOf s n c).nakWait, (lclsOf s n c).rxSeq)

theorem rxState_setLcls {m d : Nat} {f : LaneCls → LaneCls} (h : (f (lclsOf s m d)).ack = (lclsOf s m d).ack ∧ (f (lclsOf s m d)).nakWait = (lclsOf s m d).nakWait
    ∧ (f (lclsOf s m d)).rxSeq = (lclsOf s m d).rxSeq) : Shows (rxState · n c) s (setLcls s m d f) := by
  obtain ⟨ha, hn, hr⟩ := h
  show rxState _ n c = rxState s n c
  unfold rxState
  by_cases hm : m = n
  · subst hm
    rw [lclsOf_setLcls]
    by_cases hd : d = c
    · subst hd
      rw [if_pos rfl, ha, hn, hr]
    · rw [if_neg hd]
  · rw [lclsOf_of (laneOf_setLcls_ne hm)]

theorem rxState_of_lane (h : t.tvl.lane = s.tvl.lane) : Shows (rxState · n c) s t := by
  show rxState t n c = rxState s n c
  unfold rxState
  rw [lclsOf_of (laneOf_of_lane h n)]

theorem rxState_returnUnits : Shows (rxState · n c) s (returnUnits s q) := by
  unfold returnUnits
  exact .both .refl (rxState_setLcls ⟨rfl, rfl, rfl⟩)

theorem rxState_deadFrame {reason : Nat} : Shows (rxState · n c) s (deadFrame s reason q) := by
  unfold deadFrame
  exact (rxState_of_lane lane_deadLetter).trans rxState_returnUnits

theorem rxState_joinQueue {k : Nat} {due : QFrame → Nat} {l : List QFrame} : Shows (rxState · n c) s (joinQueue s k due l q).2 := by
  unfold joinQueue
  exact .iteSnd rxState_returnUnits .refl

theorem rxState_toLane {m : Nat} : Shows (rxState · n c) s (toLane s m q) := by
  unfold toLane
  refine .both rxState_deadFrame (.both rxState_deadFrame ?_)
  unfold outPush
  exact .trans (t := (joinQueue s 0 (fun _ => credDue s m) (lclsOf s m q.frame.cls).out q).2) rxState_joinQueue (rxState_setLcls ⟨rfl, rfl, rfl⟩)

theorem rxState_deliverFrame : Shows (rxState · n c) s (deliverFrame s q) := by
  unfold deliverFrame
  refine .both (.trans (t := { s with tvl := { s.tvl with rx := s.tvl.rx ++ [q.frame] } }) (rxState_of_lane rfl) rxState_returnUnits) (.both rxState_deadFrame ?_)
  exact .trans (t := (joinQueue s queueDepth (fun q => credDue s q.lane) (deliverOf s q.frame.cls) q).2) rxState_joinQueue (rxState_of_lane rfl)

theorem rxState_routeFrame : Shows (rxState · n c) s (routeFrame s q) := by
  unfold routeFrame
  refine .both (.both rxState_deliverFrame (.both rxState_deadFrame (.both rxState_deadFrame rxState_toLane)))
    (.both (.trans (.forEach fun _ _ => rxState_toLane) (.both .refl rxState_deliverFrame)) (.both rxState_deliverFrame ?_))
  split
  · exact rxState_toLane
  · exact rxState_deadFrame

end

end Sys2Proof.Machine
end

section
/-! PROOF. Frames received and tree reductions (O43). -/

namespace Sys2Proof.Machine
open Host
set_option Elab.async false

section
variable {s t : State} {n c : Nat} {f : Frame}

/-! ## Frames accepted -/

/-- A frame accepted leaves what the lane owes for its classes. -/
theorem rxState_frameAccept : Shows (rxState · n c) s (frameAccept s n f) := by
  unfold frameAccept
  exact .both rxState_deadFrame (.both rxState_deadFrame (.both rxState_deadFrame rxState_routeFrame))

/-- A frame that ends here, on a lane of the link, is delivered. -/
theorem routeFrame_local {q : QFrame} (hs : q.frame.scope = 2) (hl : q.lane < 10) : routeFrame s q = deliverFrame s q := by
  unfold routeFrame
  extract_lets f hop spent r outs s1
  have hf : f.scope = 2 := hs
  rw [hf, if_neg (by decide), if_neg (by decide), if_pos (by simpa using (by omega : q.lane ≠ 10))]

theorem frameAccept_routed (hlen : frameLen f ≤ frameMax f.cls) (hk : knownType f.typ = true) (ht : f.typ / 256 = f.cls)
    (hst : (epochType f.typ && decide (f.epoch < s.dom.mepoch)) = false) :
    frameAccept s n f = routeFrame s { frame := f, lane := n, units := frameUnits f } := by
  unfold frameAccept
  extract_lets q
  rw [if_neg (by omega), if_neg (by simp [hk, ht]), hst, if_neg (by simp)]

theorem frameAccept_engines (hlen : frameLen f ≤ frameMax f.cls) (hw : hwType f.typ = true) (ht : f.typ / 256 = f.cls)
    (hst : (epochType f.typ && decide (f.epoch < s.dom.mepoch)) = false) (hs : f.scope = 2) (hn : n < 10) :
    (frameAccept s n f).tvl.rx = s.tvl.rx ++ [f] := by
  rw [frameAccept_routed hlen (by unfold knownType; rw [hw]; rfl) ht hst, routeFrame_local hs hn]
  unfold deliverFrame
  rw [if_pos hw]
  exact (tvlRest_returnUnits (s := { s with tvl := { s.tvl with rx := s.tvl.rx ++ [f] } })).rx

theorem frameAccept_dead (hc : f.cls ≤ 3) (h : frameMax f.cls < frameLen f ∨ knownType f.typ = false ∨ f.typ / 256 ≠ f.cls
    ∨ (epochType f.typ && decide (f.epoch < s.dom.mepoch)) = true) : (frameAccept s n f).tvl.rx = s.tvl.rx ∧ (frameAccept s n f).tvl.deliver = s.tvl.deliver
    ∧ flag (frameAccept s n f) Reg.TVL_GEVENT F.TVL_GEVENT_DLQ = true := by
  have hdead (reason : Nat) : let t := deadFrame s reason { frame := f, lane := n, units := frameUnits f }
      t.tvl.rx = s.tvl.rx ∧ t.tvl.deliver = s.tvl.deliver ∧ flag t Reg.TVL_GEVENT F.TVL_GEVENT_DLQ = true :=
    ⟨tvlRest_deadFrame.rx, tvlRest_deadFrame.deliver, flag_dlq_deadFrame hc⟩
  unfold frameAccept
  extract_lets q
  split
  · exact hdead _
  · split
    · exact hdead _
    · split
      · exact hdead _
      next h1 h2 h3 =>
        simp only [Bool.or_eq_true, Bool.not_eq_true', bne_iff_ne, not_or, not_not] at h2
        obtain ⟨hk, ht⟩ := h2
        exact absurd h (by simp [h1, hk, ht, h3])

/-! ## Frames received -/

theorem rxState_eq (h : rxState t n c = (some b, w, k)) : (lclsOf t n c).ack = some b ∧ (lclsOf t n c).nakWait = w ∧ (lclsOf t n c).rxSeq = k := by
  unfold rxState at h
  simpa only [Prod.mk.injEq] using h

theorem rxState_ackSet {nak : Bool} {lseq : Nat} : rxState (ackSet s n c nak lseq) n c = (some (nak, lseq % 4096), nak, (lclsOf s n c).rxSeq) := by
  unfold rxState ackSet
  rw [lclsOf_setLcls, if_pos rfl]

/-- The lane after a frame in sequence, before it is judged. -/
def inSequence (s : State) (n c lseq : Nat) : State := setLcls (ackSet s n c false lseq) n c (fun x => { x with rxSeq := (x.rxSeq + 1) % 4096 })

theorem rxState_inSequence {lseq : Nat} : rxState (inSequence s n c lseq) n c = (some (false, lseq % 4096), false, ((lclsOf s n c).rxSeq + 1) % 4096) := by
  unfold inSequence rxState ackSet
  rw [lclsOf_setLcls, if_pos rfl, lclsOf_setLcls, if_pos rfl]

theorem behind_zero {r l : Nat} (hr : r < 4096) (hl : l < 4096) : (r + 4096 - l % 4096) % 4096 = 0 ↔ l = r := by omega

theorem frameArrive_inSequence {lseq : Nat} {crcOk : Bool} (hup : laneUp s n = true) (h1 : 1 ≤ f.cls) (h3 : f.cls ≤ 3)
    (h : crcOk = true ∨ frameMax f.cls < frameLen f) (hs : lseq = (lclsOf s n f.cls).rxSeq) :
    frameArrive s n lseq crcOk f = frameAccept (inSequence s n f.cls lseq) n f := by
  unfold frameArrive
  extract_lets x behind _ _
  have hb : behind = 0 := by
    dsimp only [behind, x]
    omega
  rw [hup, if_neg (by simp), if_neg (by omega), hb]
  by_cases hlong : frameMax f.cls < frameLen f
  · rw [if_pos ⟨rfl, hlong⟩]
    rfl
  · rw [if_neg (by tauto), if_neg (by simp; tauto), if_pos rfl]
    rfl

theorem frameArrive_crc {lseq : Nat} (hup : laneUp s n = true) (h1 : 1 ≤ f.cls) (h3 : f.cls ≤ 3) (hn : n < 10) (hl : lseq < 4096)
    (hr : (lclsOf s n f.cls).rxSeq < 4096) (h : lseq ≠ (lclsOf s n f.cls).rxSeq ∨ frameLen f ≤ frameMax f.cls) :
    ∃ t, frameArrive s n lseq false f = t ∧ rxState t n f.cls = (some (true, (lclsOf s n f.cls).rxSeq), true, (lclsOf s n f.cls).rxSeq) ∧ t.tvl.rx = s.tvl.rx ∧ t.tvl.deliver = s.tvl.deliver
      ∧ fld t (Reg.TVL_ERR n) F.TVL_ERR_FRAME_CRC = min (fld s (Reg.TVL_ERR n) F.TVL_ERR_FRAME_CRC + 1) 255 := by
  unfold frameArrive
  extract_lets x behind s1 s2
  have hb : behind = 0 ↔ lseq = (lclsOf s n f.cls).rxSeq := behind_zero hr hl
  rw [hup, if_neg (by simp), if_neg (by omega), if_neg (by rw [hb]; omega), if_pos (by rfl)]
  have e1 : Evolves { regs := true, drain := true, recd := true } s s1 := bump_evolves.mono.trans boundaryFail_evolves.mono
  have f1 : fld s1 (Reg.TVL_ERR n) F.TVL_ERR_FRAME_CRC = min (fld s (Reg.TVL_ERR n) F.TVL_ERR_FRAME_CRC + 1) 255 :=
    (boundaryFail_rdBut.fld_eq _ (misses_fin (g := Reg.TVL_ERR) (by decide +kernel) (⟨n, hn⟩ : Fin 10))).trans (fld_bump_same _ _ _ (by decide))
  clear_value s1
  have e2 : Evolves { regs := true, drain := true, recd := true } s s2 := e1.trans (raise_evolves.mono.trans bump_evolves.mono)
  have r2 : RdBut [(Reg.TOP_INTEG_EVENT, 0, 0), (Reg.TOP_INTEG_CNT, 0, 0)] s1 s2 := .trans raise_rdBut0.mono bump_rdBut0.mono
  have f2 := (r2.fld_eq F.TVL_ERR_FRAME_CRC (misses_fin (g := Reg.TVL_ERR) (by decide +kernel) (⟨n, hn⟩ : Fin 10))).trans f1
  clear_value s2
  have ht : s2.tvl = s.tvl := e2.tvl_eq rfl
  refine ⟨_, rfl, ?_, (congrArg TvlSt.rx ht :), (congrArg TvlSt.deliver ht :), f2⟩
  rw [rxState_ackSet, Nat.mod_eq_of_lt hr, lclsOf_of (laneOf_of_tvl ht n)]

theorem frameReceive_results (lane : LaneIx) (lseq : Fin 4096) (crcOk : Bool) (f : Frame) (hup : laneUp s lane.val = true) (h1 : 1 ≤ f.cls) (h3 : f.cls ≤ 3) :
    let x := lclsOf s lane.val f.cls
    let stale : Bool := epochType f.typ && decide (f.epoch < s.dom.mepoch)
    x.rxSeq < 4096 →
    Runs (.frameReceive lane lseq crcOk f) s (fun t => let y := lclsOf t lane.val f.cls
      (crcOk = false → lseq.val ≠ x.rxSeq ∨ frameLen f ≤ frameMax f.cls → y.ack = some (true, x.rxSeq) ∧ y.nakWait = true ∧ y.rxSeq = x.rxSeq ∧ t.tvl.rx = s.tvl.rx
        ∧ t.tvl.deliver = s.tvl.deliver
        ∧ fld t (Reg.TVL_ERR lane.val) F.TVL_ERR_FRAME_CRC = min (fld s (Reg.TVL_ERR lane.val) F.TVL_ERR_FRAME_CRC + 1) 255)
      ∧ (crcOk = true ∨ frameMax f.cls < frameLen f → lseq.val = x.rxSeq → y.ack = some (false, lseq.val) ∧ y.nakWait = false ∧ y.rxSeq = (x.rxSeq + 1) % 4096
        ∧ (frameLen f ≤ frameMax f.cls → f.typ / 256 = f.cls → hwType f.typ = true → stale = false → f.scope = 2 → t.tvl.rx = s.tvl.rx ++ [f])
        ∧ (frameMax f.cls < frameLen f ∨ knownType f.typ = false ∨ f.typ / 256 ≠ f.cls ∨ stale = true → t.tvl.rx = s.tvl.rx ∧ t.tvl.deliver = s.tvl.deliver
            ∧ flag t Reg.TVL_GEVENT F.TVL_GEVENT_DLQ = true))
      ∧ (crcOk = true → lseq.val ≠ x.rxSeq → x.nakWait = true → t = s)
      ∧ (crcOk = true → lseq.val = (x.rxSeq + 1) % 4096 → x.nakWait = false → y.ack = some (true, x.rxSeq) ∧ y.nakWait = true ∧ y.rxSeq = x.rxSeq)) := by
  intro x stale hr
  refine ⟨_, rfl, fun hcrc hc => ?_, fun hok hs => ?_, fun hok hs hw => ?_, fun hok hs hw => ?_⟩
  · subst hcrc
    obtain ⟨t, ht, hst, hrx, hdel, hf⟩ := frameArrive_crc (lseq := lseq.val) hup h1 h3 lane.isLt lseq.isLt hr hc
    rw [ht]
    obtain ⟨ha, hn, hk⟩ := rxState_eq hst
    exact ⟨ha, hn, hk, hrx, hdel, hf⟩
  · rw [frameArrive_inSequence hup h1 h3 hok hs]
    have hst := (rxState_frameAccept (f := f)).eq.trans (rxState_inSequence (s := s) (n := lane.val) (c := f.cls) (lseq := lseq.val))
    rw [Nat.mod_eq_of_lt lseq.isLt] at hst
    obtain ⟨ha, hn, hk⟩ := rxState_eq hst
    exact ⟨ha, hn, hk, fun hlen ht hw hstale hsc => frameAccept_engines hlen hw ht hstale hsc lane.isLt, fun hd => frameAccept_dead h3 hd⟩
  · have hb : (x.rxSeq + 4096 - lseq.val % 4096) % 4096 ≠ 0 := fun h => hs ((behind_zero hr lseq.isLt).1 h)
    unfold frameArrive
    extract_lets behind _ _
    rw [hup, if_neg (by simp), if_neg (by omega), if_neg (fun h => hb h.1), if_neg (by simp [hok]), if_neg hb, if_pos hw]
  · have hb : (x.rxSeq + 4096 - lseq.val % 4096) % 4096 = 4095 := by omega
    have hst : rxState (frameArrive s lane.val lseq.val crcOk f) lane.val f.cls = (some (true, x.rxSeq), true, x.rxSeq) := by
      unfold frameArrive
      extract_lets behind _ _
      have hb' : behind = 4095 := hb
      rw [hup, if_neg (by simp), if_neg (by omega), hb', if_neg (by simp), if_neg (by simp [hok]), if_neg (by simp), if_neg (by rw [hw]; simp), if_neg (by simp),
        rxState_ackSet, Nat.mod_eq_of_lt hr]
    exact rxState_eq hst

/-! ## Delivery to firmware -/

theorem joinQueue_frames {q : QFrame} {k : Nat} {due : QFrame → Nat} {l : List QFrame} :
    (joinQueue s k due l q).1.map (fun q => q.frame) = l.map (fun q => q.frame) ++ [q.frame] := by
  unfold joinQueue
  extract_lets x
  have hx : x.frame = q.frame := by
    dsimp only [x]
    split <;> rfl
  split <;> simp [hx]

theorem deliverOf_setDeliver {l : List QFrame} : deliverOf (setDeliver s c l) c = l := tabGet_tabSet_same _ _ _ _

theorem deliverFrame_queue {q : QFrame} (hw : hwType q.frame.typ = false) (hl : q.lane < 10) :
    (deliverOf (deliverFrame s q) q.frame.cls).map (fun q => q.frame) = (deliverOf s q.frame.cls).map (fun q => q.frame) ++ [q.frame] := by
  unfold deliverFrame
  rw [hw, if_neg (by simp), if_neg (by omega)]
  show (deliverOf (setDeliver _ _ (joinQueue s queueDepth (fun q => credDue s q.lane) (deliverOf s q.frame.cls) q).1) _).map _ = _
  rw [deliverOf_setDeliver, joinQueue_frames]

/-- A frame in sequence for firmware, which ends here, joins the delivery queue of its class. -/
theorem frameArrive_queue {lseq : Nat} (hup : laneUp s n = true) (hn : n < 10) (hc : f.cls = 2 ∨ f.cls = 3)
    (hs : lseq = (lclsOf s n f.cls).rxSeq) (hsc : f.scope = 2) (hlen : frameLen f ≤ 2064) (hk : knownType f.typ = true) (hw : hwType f.typ = false)
    (ht : f.typ / 256 = f.cls) (he : epochType f.typ = false) :
    (deliverOf (frameArrive s n lseq true f) f.cls).map (fun q => q.frame) = (deliverOf s f.cls).map (fun q => q.frame) ++ [f] := by
  have hmax : frameMax f.cls = 2064 := by
    unfold frameMax
    rw [if_neg (by omega)]
  rw [frameArrive_inSequence hup (by omega) (by omega) (.inl rfl) hs, frameAccept_routed (by omega) hk ht (by rw [he]; rfl), routeFrame_local hsc hn,
    deliverFrame_queue hw hn]
  rfl

theorem delivery_results (lane : LaneIx) (lseq : Fin 4096) (f : Frame) (hup : laneUp s lane.val = true) (hsc : f.scope = 2) (hlen : frameLen f ≤ 2064) :
    (lseq.val = (lclsOf s lane.val 2).rxSeq → Runs (.operand lane lseq f) s (fun t =>
      (deliverOf t 2).map (fun q => q.frame) = (deliverOf s 2).map (fun q => q.frame) ++ [{ f with cls := 2, typ := 0x0202 }]))
    ∧ (lseq.val = (lclsOf s lane.val 3).rxSeq →
      Runs (.imageSeg lane lseq f) s (fun t =>
        (deliverOf t 3).map (fun q => q.frame) = (deliverOf s 3).map (fun q => q.frame) ++ [{ f with cls := 3, typ := 0x0301 }])
      ∧ Runs (.recGather lane lseq f) s (fun t =>
        (deliverOf t 3).map (fun q => q.frame) = (deliverOf s 3).map (fun q => q.frame) ++ [{ f with cls := 3, typ := 0x0302 }])) := by
  refine ⟨fun hs => ⟨_, rfl, ?_⟩, fun hs => ⟨⟨_, rfl, ?_⟩, ⟨_, rfl, ?_⟩⟩⟩
  · exact frameArrive_queue (f := { f with cls := 2, typ := 0x0202 }) hup lane.isLt (.inl rfl) hs hsc hlen rfl rfl (by norm_num) rfl
  · exact frameArrive_queue (f := { f with cls := 3, typ := 0x0301 }) hup lane.isLt (.inr rfl) hs hsc hlen rfl rfl (by norm_num) rfl
  · exact frameArrive_queue (f := { f with cls := 3, typ := 0x0302 }) hup lane.isLt (.inr rfl) hs hsc hlen rfl rfl (by norm_num) rfl

/-! ## Reductions -/

theorem belowUp_of (hi : t.img = s.img) (hr : t.regs = s.regs) (hl : t.tvl.lane = s.tvl.lane) (hd : t.dom = s.dom) : belowUp t = belowUp s := by
  have hrole (n : Nat) : laneRole t n = laneRole s n := by
    unfold laneRole
    rw [structured_of_img hi, framesOf_of_img hi]
  have hup : upLane t = upLane s := by
    unfold upLane trainedUp cpos
    simp only [inDomain_of_img hi, hd, hrole, fld_congr (rd_of_regs hr _)]
  unfold belowUp belowLanes
  rw [treeLanes_of hi hr, hup]
  exact List.filter_congr fun n _ => laneUp_of (laneOf_of_lane hl n)

theorem redCheck_open {r : RedSt} (hf : s.tvl.red.find? (fun x => x.rid == r.rid) = some r) (hc : redComplete s r = false) : redCheck s r.rid = s := by
  unfold redCheck
  rw [hf]
  dsimp only
  rw [hc, if_neg (by simp)]

/-- The data plane's own contribution as it opens a reduction. -/
def redOpened (s : State) (c : RedSt) (src : Option Nat) : RedSt := { c with from_ := src.toList, loc := src.isNone, openAt := now s }

theorem find?_none_of_rid {l : List RedSt} {rid : Nat} (h : ∀ r ∈ l, r.rid ≠ rid) : l.find? (fun r => r.rid == rid) = none := by
  rw [List.find?_eq_none]
  exact fun r hr => by simpa using h r hr

theorem redAdd_opens {c : RedSt} {ids : Nat × Nat} (h : ∀ r ∈ s.tvl.red, r.rid ≠ c.rid) (hd : c.rid ∉ s.tvl.redDone) (hl : s.tvl.red.length < 4)
    (hb : belowUp s ≠ []) : (redAdd s none ids c).tvl.red = s.tvl.red ++ [redOpened s c none] := by
  unfold redAdd
  extract_lets lane bad
  rw [find?_none_of_rid h]
  dsimp only
  rw [if_neg (by simpa using hd), if_neg (by omega)]
  set u : State := { s with tvl := { s.tvl with red := s.tvl.red ++ [redOpened s c none] } }
  have hu : redCheck u (redOpened s c none).rid = u := by
    apply redCheck_open
    · show (s.tvl.red ++ [redOpened s c none]).find? _ = _
      rw [List.find?_append, show List.find? (fun x => x.rid == (redOpened s c none).rid) s.tvl.red = none from find?_none_of_rid h]
      simp
    · obtain ⟨n, hn⟩ := List.exists_mem_of_ne_nil _ hb
      have hbu : belowUp u = belowUp s := belowUp_of rfl rfl rfl rfl
      unfold redComplete
      rw [hbu]
      show (true && (belowUp s).all (fun n => ([] : List Nat).contains n)) = false
      simpa using ⟨n, hn⟩
  show (redCheck u (redOpened s c none).rid).tvl.red = _
  rw [hu]

theorem reduceLocal_results (rid : Fin (2 ^ 32)) (op : Fin 4) (part : Bool) (contrib : Nat) (elems : List Int) (h : ∀ r ∈ s.tvl.red, r.rid ≠ rid.val)
    (hd : rid.val ∉ s.tvl.redDone) (hl : s.tvl.red.length < 4) (hb : belowUp s ≠ []) :
    Runs (.reduce none rid op part contrib elems) s (fun t => ∃ r : RedSt, t.tvl.red = s.tvl.red ++ [r] ∧ r.rid = rid.val ∧ r.op = op.val ∧ r.contrib = contrib
      ∧ r.loc = true ∧ r.from_ = [] ∧ r.elems.length = elems.length) := by
  refine ⟨_, rfl, _, redAdd_opens (c := { rid := rid.val, op := op.val, elems := (elems.map satElem).map (ownElem op.val), contrib := contrib, partial_ := part, from_ := [], loc := false, openAt := 0 })
    h hd hl hb, rfl, rfl, rfl, rfl, rfl, ?_⟩
  simp [redOpened]

theorem satElem_of_range {x : Int} (h : -2 ^ 63 ≤ x ∧ x < 2 ^ 63) : satElem x = x := by
  unfold satElem satI clampI
  norm_num
  omega

theorem satElem_eq (x : Int) : satElem x = clampI (-2 ^ 63) (2 ^ 63 - 1) x := by
  unfold satElem satI
  norm_num

theorem redElem_eq (op : Nat) (a b : Int) :
    redElem op a b = if op = 1 then max a b else if op = 2 then min a b else clampI (-2 ^ 63) (2 ^ 63 - 1) (a + b) := by
  unfold redElem
  rw [satElem_eq]

theorem map_satElem {l : List Int} (h : ∀ x ∈ l, -2 ^ 63 ≤ x ∧ x < 2 ^ 63) : l.map satElem = l :=
  (List.map_congr_left fun x hx => satElem_of_range (h x hx)).trans (List.map_id' l)

theorem redAdd_mismatch {r c : RedSt} {src : Option Nat} {ids : Nat × Nat} (hr : s.tvl.red = [r]) (hi : r.rid = c.rid) (ho : r.op ≠ c.op) :
    (redAdd s src ids c).tvl.red = [r] ∧ flag (redAdd s src ids c) Reg.TVL_GEVENT F.TVL_GEVENT_REDUCE_MISMATCH = true := by
  unfold redAdd
  extract_lets lane bad
  rw [hr, List.find?_cons_of_pos (by simpa using hi)]
  dsimp only
  rw [if_pos (by simp [ho])]
  have hk : Shows tvlRest s (bad s) := (tvlRest_of raise_evolves).trans tvlRest_deadLetter
  exact ⟨hk.red.trans hr, flag_deadLetter_keeps (by decide) (by decide) (flag_raise _ _ _ (by decide))⟩

theorem redAdd_joins {r c : RedSt} {l : Nat} {ids : Nat × Nat} (hr : s.tvl.red = [r]) (hi : r.rid = c.rid) (ho : r.op = c.op)
    (hlen : r.elems.length = c.elems.length) (hf : l ∉ r.from_) (hloc : r.loc = false) :
    (redAdd s (some l) ids c).tvl.red = [{ r with elems := (r.elems.zip c.elems).map (fun p => redElem r.op p.1 p.2), contrib := r.contrib + c.contrib,
                                                  partial_ := r.partial_ || c.partial_, from_ := l :: r.from_ }] := by
  unfold redAdd
  extract_lets lane bad
  rw [hr, List.find?_cons_of_pos (by simpa using hi)]
  dsimp only
  rw [if_neg (by simp [ho, hlen, hf])]
  set r' : RedSt := { r with elems := (r.elems.zip c.elems).map (fun p => redElem r.op p.1 p.2), contrib := r.contrib + c.contrib,
                             partial_ := r.partial_ || c.partial_, from_ := (some l).toList ++ r.from_, loc := r.loc || (some l).isNone }
  have hmap : ([r].map (fun x => if x.rid = r'.rid then r' else x)) = [r'] := by
    simp [r']
  rw [hmap, redCheck_open (s := { s with tvl := { s.tvl with red := [r'] } }) (r := r')]
  · show [r'] = _
    simp [r']
  · exact List.find?_cons_of_pos (by simp)
  · unfold redComplete
    have : r'.loc = false := by simp [r', hloc]
    rw [this]
    rfl

/-- The lane of the contribution is below, so it is added to the reductions. -/
theorem reduceBelow {l : LaneIx} {rid : Fin (2 ^ 32)} {op : Fin 4} {part : Bool} {contrib : Nat} {elems : List Int} (hl : l.val ∈ belowUp s) :
    ∃ ids, execReduce (some l) rid op part contrib elems s = .next (redAdd (takeRx s 0x0201) (some l.val) ids
      { rid := rid.val, op := op.val, elems := elems.map satElem, contrib := contrib, partial_ := part, from_ := [], loc := false, openAt := 0 }) := by
  unfold execReduce
  extract_lets c ids s1
  have hb : belowUp s1 = belowUp s := belowUp_of rfl rfl rfl rfl
  dsimp -zeta only
  rw [hb, if_pos (by simpa using hl)]
  exact ⟨_, rfl⟩

theorem reduceEdge_results (l : LaneIx) (rid : Fin (2 ^ 32)) (op : Fin 4) (part : Bool) (contrib : Nat) (elems : List Int) (r : RedSt) (hl : l.val ∈ belowUp s)
    (hr : s.tvl.red = [r]) (hi : r.rid = rid.val) : let elem (op : Nat) (a b : Int) : Int := if op = 1 then max a b else if op = 2 then min a b else clampI (-2 ^ 63) (2 ^ 63 - 1) (a + b)
    Runs (.reduce (some l) rid op part contrib elems) s (fun t =>
      (r.op ≠ op.val → t.tvl.red = [r] ∧ flag t Reg.TVL_GEVENT F.TVL_GEVENT_REDUCE_MISMATCH = true)
      ∧ (r.op = op.val → r.elems.length = elems.length → l.val ∉ r.from_ → r.loc = false → (∀ x ∈ elems, -2 ^ 63 ≤ x ∧ x < 2 ^ 63) →
          t.tvl.red = [{ r with elems := (r.elems.zip elems).map (fun p => elem op.val p.1 p.2), contrib := r.contrib + contrib, partial_ := r.partial_ || part,
                                from_ := l.val :: r.from_ }])) := by
  intro elem
  obtain ⟨ids, he⟩ := reduceBelow (rid := rid) (op := op) (part := part) (contrib := contrib) (elems := elems) hl
  refine ⟨_, he, fun ho => redAdd_mismatch (s := takeRx s 0x0201) hr hi ho, fun ho hlen hf hloc hx => ?_⟩
  rw [redAdd_joins (s := takeRx s 0x0201) hr hi ho (by simpa using hlen) hf hloc]
  simp only [map_satElem hx, redElem_eq, ho]
  rfl

theorem reduceLate_results (l : LaneIx) (rid : Fin (2 ^ 32)) (op : Fin 4) (part : Bool) (contrib : Nat) (elems : List Int) (hl : l.val ∈ belowUp s)
    (h : ∀ r ∈ s.tvl.red, r.rid ≠ rid.val) (hd : rid.val ∈ s.tvl.redDone) :
    Runs (.reduce (some l) rid op part contrib elems) s (fun t => t.tvl.red = s.tvl.red ∧ flag t Reg.TVL_GEVENT F.TVL_GEVENT_DLQ = true) := by
  obtain ⟨ids, he⟩ := reduceBelow (rid := rid) (op := op) (part := part) (contrib := contrib) (elems := elems) hl
  refine ⟨_, he, ?_⟩
  unfold redAdd
  extract_lets lane bad
  rw [find?_none_of_rid (l := (takeRx s 0x0201).tvl.red) h]
  dsimp only
  rw [if_pos (show (takeRx s 0x0201).tvl.redDone.contains rid.val = true from List.contains_iff_mem.2 hd)]
  exact ⟨tvlRest_deadLetter.red, flag_dlq_deadLetter (by decide)⟩

theorem reductionTimeout_results (rid : Fin (2 ^ 32)) (r : RedSt) (hr : s.tvl.red.find? (fun x => x.rid == rid.val) = some r) :
    Runs (.reductionTimeout rid) s (fun t => (∀ x ∈ t.tvl.red, x.rid ≠ rid.val) ∧ rid.val ∈ t.tvl.redDone ∧ flag t Reg.TVL_GEVENT F.TVL_GEVENT_REDUCE_PARTIAL = true) := by
  show ∃ t, execReductionTimeout rid s = .next t ∧ _
  unfold execReductionTimeout
  rw [hr]
  refine ⟨_, rfl, ?_⟩
  have hi : r.rid = rid.val := by simpa using List.find?_some hr
  generalize reach s _ = u
  unfold redClose
  extract_lets _ s1 s2 _
  have h1 : (∀ x ∈ s1.tvl.red, x.rid ≠ rid.val) ∧ rid.val ∈ s1.tvl.redDone := by
    refine ⟨fun x hx => ?_, ?_⟩
    · have := (List.mem_filter.1 hx).2
      rw [← hi]
      simpa using this
    · rw [← hi]
      exact List.mem_cons_self
  have e2 : s2 = sinkTake (raise s1 Reg.TVL_GEVENT F.TVL_GEVENT_REDUCE_PARTIAL) 5 := if_pos rfl
  have h2 : s2.tvl = s1.tvl := by
    rw [e2]
    exact (sinkTake_evolves.tvl_eq rfl).trans (raise_evolves.tvl_eq rfl)
  have f2 : flag s2 Reg.TVL_GEVENT F.TVL_GEVENT_REDUCE_PARTIAL = true := by
    rw [e2]
    exact (sinkTake_rdBut.flag_eq _).trans (flag_raise _ _ _ (by decide))
  clear_value s1 s2
  rw [← h2] at h1
  split
  · exact ⟨h1.1, h1.2, f2⟩
  · have hk : Shows tvlRest s2 (postFrame s2 0x0201 2 0 (redBody { r with partial_ := true })) := tvlRest_postFrame (by decide)
    exact ⟨hk.red ▸ h1.1, hk.redDone ▸ h1.2, flag_postUp_keeps (by decide) (by decide) f2⟩

/-! ## Dead letters read -/

theorem liveNat_dlqW3 (sel : Nat) (q : Fin 8) : liveNat s sel (Reg.TVL_DLQ_W3 q.val) = some (dlqWord s q.val 3) := by
  fin_cases q <;> rfl

theorem dlqW3_facts : ∀ q : Fin 8, Reg.TVL_DLQ_W3 q.val ≠ Reg.TOP_ACTIVE_VAL ∧ Reg.TVL_DLQ_W3 q.val ≠ Reg.TOP_ACTIVE_SEL ∧ Reg.TVL_DLQ_W3 q.val ≠ Reg.REC_WIN_SEL
    ∧ wideLo (Reg.TVL_DLQ_W3 q.val) = false ∧ wideLo (Reg.TVL_DLQ_W3 q.val - 4) = false
    ∧ inFam (Reg.TVL_DLQ_W3 0) 0x20 8 (Reg.TVL_DLQ_W3 q.val) = some q.val := by decide +kernel

theorem tvl_rcCleared (off : Nat) : (rcCleared s off).tvl = s.tvl := by
  unfold rcCleared
  split
  · split <;> rfl
  · rfl

theorem dlqPop_results (who : Initiator) (q : Fin 8) (e : DlqEntry) (l : List DlqEntry) (hr : canRead s who = true) (hq : (dlqOf s q.val).items = e :: l) :
    Runs (.dlqPop who q) s (fun t => (dlqOf t q.val).items = l ∧ t.resp = .word (BitVec.ofNat 32 (e.at_ / 2 ^ 32))) := by
  obtain ⟨hval, hsel, hwin, hlo, hhi, hfam⟩ := dlqW3_facts q
  refine ⟨_, rfl, ?_⟩
  rw [readReg_of_canRead hr, readGo_eq s who hval]
  constructor
  · rw [dlqOf_of_tvl (tvl_rcCleared _)]
    unfold readTaken dlqTaken
    rw [hfam, wideGot_narrow s who hlo hhi]
    dsimp only [dlqPop]
    rw [dlqOf_setDlq, if_pos rfl]
    show (dlqOf s q.val).items.drop 1 = l
    rw [hq]
    rfl
  · rw [rcCleared_resp, readTaken_resp, wideGot_narrow s who hlo hhi]
    unfold readWord
    extract_lets x
    rw [if_neg hsel, if_neg hwin, if_neg hval, liveNat_dlqW3]
    unfold dlqWord
    rw [hq]
    congr 1
    apply BitVec.eq_of_toNat_eq
    simp

end

/-- Settles O43: frames are judged at the receiver, and what follows the judgement (routing, dead letters, records) leaves the sequence numbers of the
lane, the frames delivered and the reductions alone. -/
theorem frameAndReductionResults : Obligations.FrameAndReductionResults :=
  ⟨⟨fun lane lseq crcOk f _ => frameReceive_results lane lseq crcOk f, fun lane lseq f _ => delivery_results lane lseq f⟩,
   fun rid op part contrib elems _ => reduceLocal_results rid op part contrib elems,
   fun l rid op part contrib elems r _ => reduceEdge_results l rid op part contrib elems r,
   fun l rid op part contrib elems _ => reduceLate_results l rid op part contrib elems,
   fun rid r _ => reductionTimeout_results rid r, fun who q e l _ => dlqPop_results who q e l⟩

end Sys2Proof.Machine
end

section
/-! PROOF. Postline reports, training, fallback and link loss (O36). -/

namespace Sys2Proof.Machine
open Host
set_option Elab.async false

section
variable {s t u : State} {d p n : Nat}

/-! ## What messages of the down lane keep -/

/-- What a message sent down a Postline keeps of the dies, port cells, sites and partitions: all but SEQ, CFGs awaited and ARM. -/
def plKept (s : State) : (Nat → DieSt) × Tab PortSt × Tab SiteSt × Tab PartPbSt :=
  (fun d => { dieOf s d with txSeq := 0, cfgs := [], armed := false }, s.pb.port, s.pb.site, s.pb.part)

theorem plKept_setDie {f : DieSt → DieSt} (h : ({ f (dieOf s d) with txSeq := 0, cfgs := [], armed := false } : DieSt)
    = { dieOf s d with txSeq := 0, cfgs := [], armed := false }) : Shows plKept s (setDie s d f) := by
  show plKept _ = plKept _
  unfold plKept
  refine Prod.ext (funext fun e => ?_) rfl
  show ({ dieOf (setDie s d f) e with txSeq := 0, cfgs := [], armed := false } : DieSt) = _
  rw [dieOf_setDie]
  split
  next he =>
    subst he
    exact h
  next => rfl

theorem plKept_plSend {typ addr data : Nat} : Shows plKept s (plSend s d typ addr data) := by
  unfold plSend
  extract_lets m s1
  have h1 : Shows plKept s s1 := plKept_setDie rfl
  exact .both (h1.trans (.of_eq (by rfl))) .refl

theorem plKept_cfgSend {index addr value : Nat} : Shows plKept s (cfgSend s d index addr value) := by
  unfold cfgSend
  extract_lets s1
  have h1 : Shows plKept s s1 := plKept_setDie rfl
  exact .both (h1.trans plKept_plSend) .refl

theorem plKept_cfgAll : Shows plKept s (cfgAll s d) := by
  unfold cfgAll
  extract_lets f s1 c s2 s3 s4 s5
  have h1 : Shows plKept s s1 := .forEach fun _ _ => plKept_cfgSend
  have h4 : Shows plKept s1 s4 := plKept_cfgSend.trans (plKept_cfgSend.trans plKept_cfgSend)
  clear_value s1 s4
  have h5 : Shows plKept s1 s5 := .both (h4.trans (.forEach fun _ _ => plKept_cfgSend)) .refl
  exact (h1.trans h5).trans (.both plKept_cfgSend plKept_cfgSend)

theorem plKept_armDie {on : Bool} : Shows plKept s (armDie s d on) := by
  unfold armDie
  exact .trans (t := setDie s d _) (plKept_setDie rfl) plKept_plSend

theorem plKept_tsyncSend : Shows plKept s (tsyncSend s d) := plKept_plSend

/-- The cell of a die, but what messages sent move. -/
theorem Shows.dieKept (h : Shows plKept s t) (d : Nat) : ({ dieOf t d with txSeq := 0, cfgs := [], armed := false } : DieSt)
    = { dieOf s d with txSeq := 0, cfgs := [], armed := false } :=
  (congrFun (congrArg (fun x : (Nat → DieSt) × Tab PortSt × Tab SiteSt × Tab PartPbSt => x.1) h.eq) d :)

theorem Shows.link (h : Shows plKept s t) (d : Nat) : (dieOf t d).link = (dieOf s d).link := (congrArg DieSt.link (h.dieKept d) :)

theorem Shows.portOf (h : Shows plKept s t) (d : Nat) : portOf t d = portOf s d := by
  unfold Machine.portOf
  rw [show t.pb.port = s.pb.port from congrArg (fun x : (Nat → DieSt) × Tab PortSt × Tab SiteSt × Tab PartPbSt => x.2.1) h.eq]

theorem Shows.partOf (h : Shows plKept s t) (p : Nat) : partOf t p = partOf s p := by
  unfold Machine.partOf
  rw [show t.pb.part = s.pb.part from congrArg (fun x : (Nat → DieSt) × Tab PortSt × Tab SiteSt × Tab PartPbSt => x.2.2.2) h.eq]

theorem dieUp_of_link (h : (dieOf t d).link = (dieOf s d).link) : dieUp t d = dieUp s d := by
  unfold dieUp
  rw [h]

/-! ## Messages of an up lane -/

/-- The state in which the k of an up lane 0 runs: the message is off the wire, its SEQ counted. -/
def lane0Ready (s : State) (d seq typ addr : Nat) : State :=
  setDie (wireDrop s (fun m => m.die == d && m.lane == 0 && m.typ == typ && m.addr == addr && m.seq == seq)) d
    (fun x => { x with rxSeq := (x.rxSeq + 1) % 64, nakWait := false })

theorem lane0_fresh {seq typ addr : Nat} {k : State → State} (hup : dieUp s d = true) (hs : seq = (dieOf s d).rxSeq) :
    lane0 s d seq typ addr k = k (lane0Ready s d seq typ addr) := by
  unfold lane0 lane0Ready
  extract_lets s1
  have h1 : dieOf s1 d = dieOf s d := rfl
  have hup' : dieUp s1 d = true := hup
  rw [if_pos hup', if_pos (by rw [h1]; exact hs)]

theorem lane0Ready_evolves {seq typ addr : Nat} : Evolves { pb := true } s (lane0Ready s d seq typ addr) := by
  unfold lane0Ready
  exact wireDrop_evolves.trans setDie_evolves

theorem dieOf_lane0Ready {seq typ addr : Nat} : dieOf (lane0Ready s d seq typ addr) d = { dieOf s d with rxSeq := ((dieOf s d).rxSeq + 1) % 64, nakWait := false } := by
  unfold lane0Ready
  rw [dieOf_setDie, if_pos rfl]
  rfl

theorem lane1_up {typ addr : Nat} {k : State → State} (hup : dieUp s d = true) : lane1 s d typ addr k = k (wireTake s d 1 typ addr) := by
  unfold lane1
  extract_lets s1
  have hup' : dieUp s1 d = true := hup
  rw [if_pos hup']

/-! ## Holds -/

/-- What the holds of a partition keep of the Postlines. -/
def holdKept (p : Nat) (s : State) : Tab DieSt × List PlMsg × Nat × Option Nat × Nat :=
  (s.pb.die, s.pb.wire, (partOf s p).nCur, (partOf s p).sent, (partOf s p).tries)

theorem holdKept_of_pb (h : t.pb = s.pb) : Shows (holdKept p) s t := by
  show holdKept p t = holdKept p s
  unfold holdKept
  rw [h, partOf_of_pb h]

theorem holdKept_freezeHeld {q : Nat} : Shows (holdKept p) s (freezeHeld s q) := by
  unfold freezeHeld
  extract_lets s1 s2
  have h1 : Shows (holdKept p) s s1 := by
    show holdKept p s1 = holdKept p s
    unfold holdKept
    rw [partOf_setPart]
    split
    next h =>
      subst h
      rfl
    next => rfl
  have h2 : Shows (holdKept p) s1 s2 := rfl
  clear_value s1 s2
  exact .both (h1.trans (h2.trans (holdKept_of_pb (bump_evolves.pb_eq rfl)))) .refl

theorem holdKept_holdUpdate {q : Nat} : Shows (holdKept p) s (holdUpdate s q) := by
  unfold holdUpdate
  refine .trans (t := holdFreeze s q) ?_ (holdKept_of_pb (holdCore_evolves.pb_eq rfl))
  unfold holdFreeze
  extract_lets s1
  have h1 : Shows (holdKept p) s s1 := holdKept_freezeHeld
  clear_value s1
  refine h1.trans ?_
  split
  · extract_lets q s2
    have h2 : Evolves { regs := true, cap := true } s1 s2 := reasonTime_evolves
    exact .trans (t := s2) (holdKept_of_pb (h2.pb_eq rfl)) (holdKept_of_pb (setCap_evolves.pb_eq rfl))
  · exact .trans (t := setCap s1 _ _) (holdKept_of_pb (setCap_evolves.pb_eq rfl)) (holdKept_of_pb (reasonCount_evolves.pb_eq rfl))
  · exact .refl

theorem Shows.holdParts (h : Shows (holdKept p) s t) : t.pb.die = s.pb.die ∧ t.pb.wire = s.pb.wire ∧ (Machine.partOf t p).nCur = (Machine.partOf s p).nCur
    ∧ (Machine.partOf t p).sent = (Machine.partOf s p).sent ∧ (Machine.partOf t p).tries = (Machine.partOf s p).tries := by
  have := h.eq
  unfold holdKept at this
  simpa only [Prod.mk.injEq] using this

theorem partHere_lt (h : partHere s p = true) : p < 32 := by
  unfold partHere partHereF at h
  simp only [Bool.and_eq_true, decide_eq_true_eq] at h
  exact h.1

/-! ## Reports of lane 0 -/

theorem fackTake_results (n : Nat) : (partOf (fackTake s p n) p).nCur = n ∧ ((partOf s p).sent = some n → (partOf (fackTake s p n) p).sent = none)
    ∧ (fackTake s p n).pb.die = s.pb.die := by
  unfold fackTake
  extract_lets s1 _ s2
  have hs1 : partOf s1 p = { partOf s p with nCur := n, sent := if (partOf s p).sent = some n then none else (partOf s p).sent, tries := 0 } := by
    show partOf (setPart s p _) p = _
    rw [partOf_setPart, if_pos rfl]
  have h1 : (partOf s1 p).nCur = n ∧ (partOf s1 p).sent = (if (partOf s p).sent = some n then none else (partOf s p).sent) ∧ s1.pb.die = s.pb.die := by
    rw [hs1]
    exact ⟨rfl, rfl, rfl⟩
  have h2 : s2.pb = s1.pb := rfl
  clear_value s1 s2
  obtain ⟨hd, -, hn, hs, -⟩ := (holdKept_holdUpdate (s := s2) (p := p) (q := p)).holdParts
  rw [partOf_of_pb h2] at hn hs
  rw [h2] at hd
  obtain ⟨g1, g2, g3⟩ := h1
  exact ⟨hn.trans g1, fun h => hs.trans (g2.trans (if_pos h)), hd.trans g3⟩

theorem fack_results (die : DieIx) (seq : Fin 64) (part : PartIx) (n : Fin 2048) (stamp : BitVec 24) (h : dieUp s die.val = true ∧ seq.val = (dieOf s die.val).rxSeq)
    (hp : partHere s part.val = true) (hd : partDie s part.val = die.val) :
    Runs (.fack die seq part n stamp) s (fun t => (partOf t part.val).nCur = n.val ∧ ((partOf s part.val).sent = some n.val → (partOf t part.val).sent = none)
      ∧ (dieOf t die.val).rxSeq = (seq.val + 1) % 64) := by
  refine ⟨_, rfl, ?_⟩
  rw [lane0_fresh h.1 h.2]
  set u := lane0Ready s die.val seq.val 3 part.val
  have hu : Evolves { pb := true } s u := lane0Ready_evolves
  rw [if_pos ⟨(partHere_of_img (hu.img_eq rfl) _).trans hp, (partDie_of_img (hu.img_eq rfl) _).trans hd⟩]
  obtain ⟨hn, hs, hdie⟩ := fackTake_results (s := u) (p := part.val) n.val
  refine ⟨hn, hs, ?_⟩
  rw [dieOf_of_die hdie, dieOf_lane0Ready, h.2]

theorem fld_vmin {v off : Nat} (hv : v < 2 ^ 16) : fld (wrN s off (v + 2 ^ 31)) off F.PB_SMIN_VALUE = v := by
  unfold fld fldOf
  rw [rd_wrN_same]
  simp only [BitVec.toNat_ofNat]
  omega

theorem flag_vmin {v off : Nat} (hv : v < 2 ^ 16) : flag (wrN s off (v + 2 ^ 31)) off F.PB_SMIN_VALID = true := by
  unfold flag fldOf
  rw [rd_wrN_same]
  simp only [BitVec.toNat_ofNat, beq_iff_eq]
  omega

theorem rd_wr64_ne {lo v off : Nat} (h0 : lo ≠ off) (h4 : lo + 4 ≠ off) : rd (wr64 s lo v) off = rd s off :=
  (rd_wrN_ne _ _ h4).trans (rd_wrN_ne _ _ h0)

theorem vmin_results (die : DieIx) (seq : Fin 64) (site : SiteIx) (v : BitVec 16) (stamp : BitVec 24) (h : dieUp s die.val = true ∧ seq.val = (dieOf s die.val).rxSeq)
    (hh : siteHere s die.val site.val = true) :
    Runs (.vmin die seq site v stamp) s (fun t => flag t (Reg.PB_SMIN die.val site.val) F.PB_SMIN_VALID = true
      ∧ fld t (Reg.PB_SMIN die.val site.val) F.PB_SMIN_VALUE = if flag s (Reg.PB_SMIN die.val site.val) F.PB_SMIN_VALID
          then min (fld s (Reg.PB_SMIN die.val site.val) F.PB_SMIN_VALUE) v.toNat else v.toNat) := by
  show ∃ t, execVmin die seq site v stamp s = .next t ∧ _
  unfold execVmin
  extract_lets d n
  refine ⟨_, rfl, ?_⟩
  rw [lane0_fresh h.1 h.2]
  have hu : Evolves { pb := true } s (lane0Ready s d seq.val 4 n) := lane0Ready_evolves
  generalize lane0Ready s d seq.val 4 n = u at hu
  have hr : rd u (Reg.PB_SMIN d n) = rd s (Reg.PB_SMIN d n) := rd_of_regs (hu.regs_eq rfl) _
  have hsh : siteHere u d n = true := (siteHere_of_img (hu.img_eq rfl) _ _).trans hh
  rw [fld_congr hr, flag_congr hr, hsh]
  have hv : v.toNat < 2 ^ 16 := v.isLt
  by_cases hc : (!(flag s (Reg.PB_SMIN d n) F.PB_SMIN_VALID && decide (fld s (Reg.PB_SMIN d n) F.PB_SMIN_VALUE ≤ v.toNat))) = true
  · have hw : rd (wr64 (wrN u (Reg.PB_SMIN d n) (v.toNat + 2 ^ 31)) (Reg.PB_SMIN_TS_LO d n) (stampTime u d stamp.toNat)) (Reg.PB_SMIN d n)
        = rd (wrN u (Reg.PB_SMIN d n) (v.toNat + 2 ^ 31)) (Reg.PB_SMIN d n) := rd_wr64_ne (by dsimp only [Reg.PB_SMIN_TS_LO, Reg.PB_SMIN]; omega) (by dsimp only [Reg.PB_SMIN_TS_LO, Reg.PB_SMIN]; omega)
    rw [if_pos (by simpa using hc)]
    refine ⟨(flag_congr hw _).trans (flag_vmin hv), ((fld_congr hw _).trans (fld_vmin hv)).trans ?_⟩
    split
    next hf =>
      rw [hf, Bool.true_and, Bool.not_eq_true', decide_eq_false_iff_not] at hc
      exact (min_eq_right (Nat.le_of_lt (Nat.lt_of_not_le hc))).symm
    next => rfl
  · rw [if_neg (by simpa using hc)]
    simp only [Bool.not_eq_true, Bool.not_eq_false', Bool.and_eq_true, decide_eq_true_eq] at hc
    obtain ⟨hf, hle⟩ := hc
    refine ⟨(flag_congr hr _).trans hf, (fld_congr hr _).trans ?_⟩
    rw [if_pos hf]
    exact (min_eq_left hle).symm

theorem cfgs_plSend {typ addr data e : Nat} : (dieOf (plSend s d typ addr data) e).cfgs = (dieOf s e).cfgs := by
  unfold plSend
  extract_lets m s1
  have h1 : (dieOf s1 e).cfgs = (dieOf s e).cfgs := by
    show (dieOf (setDie s d (fun x => { x with txSeq := (x.txSeq + 1) % 64 })) e).cfgs = _
    rw [dieOf_setDie]
    split
    next he => rw [he]
    next => rfl
  clear_value s1
  split
  · exact h1
  · rfl

theorem maybeResume_cfgs : (dieOf (maybeResume s d) d).cfgs = (dieOf s d).cfgs := by
  unfold maybeResume
  split
  · rw [dieOf_setDie, if_pos rfl]
    exact cfgs_plSend
  · rfl

theorem maybeResume_resumes (hup : dieUp s d = true) (hr : (dieOf s d).resume = true) (hc : cfgSync s d = true) :
    (dieOf (maybeResume s d) d).safe = false ∧ (dieOf (maybeResume s d) d).resume = false := by
  unfold maybeResume
  rw [if_pos ⟨hup, hr, hc⟩, dieOf_setDie, if_pos rfl]
  exact ⟨rfl, rfl⟩

theorem cfgAck_results (die : DieIx) (seq : Fin 64) (index : Fin 256) (addr : Fin 64) (c : PendCfg) (h : dieUp s die.val = true ∧ seq.val = (dieOf s die.val).rxSeq)
    (hc : (dieOf s die.val).cfgs = [c]) (hi : c.index = index.val) (ha : c.addr = addr.val) :
    Runs (.cfgAck die seq index addr) s (fun t => cfgSync t die.val = true ∧ ((dieOf s die.val).resume = true → (dieOf t die.val).safe = false ∧ (dieOf t die.val).resume = false)) := by
  refine ⟨_, rfl, ?_⟩
  rw [lane0_fresh h.1 h.2]
  have hd : dieOf (lane0Ready s die.val seq.val 5 0x3F) die.val = { dieOf s die.val with rxSeq := ((dieOf s die.val).rxSeq + 1) % 64, nakWait := false } := dieOf_lane0Ready
  generalize lane0Ready s die.val seq.val 5 0x3F = u at hd
  set v := setDie u die.val (fun x => { x with cfgs := x.cfgs.eraseP (fun c => c.index == index.val && c.addr == addr.val) })
  have hv : dieOf v die.val = { dieOf s die.val with rxSeq := ((dieOf s die.val).rxSeq + 1) % 64, nakWait := false, cfgs := [] } := by
    show dieOf (setDie u die.val _) die.val = _
    rw [dieOf_setDie, if_pos rfl, hd, hc]
    simp [hi, ha]
  have hs : cfgSync v die.val = true := by
    unfold cfgSync
    rw [hv]
    rfl
  refine ⟨?_, fun hr => maybeResume_resumes ?_ ?_ hs⟩
  · unfold cfgSync
    rw [maybeResume_cfgs]
    exact hs
  · have := h.1
    unfold dieUp at this ⊢
    rw [hv]
    exact this
  · rw [hv]
    exact hr

theorem coreOff_results (die : DieIx) (seq : Fin 64) (site : SiteIx) (h : dieUp s die.val = true ∧ seq.val = (dieOf s die.val).rxSeq) :
    Runs (.coreOff die seq site) s (fun t => (siteOf t die.val site.val).coreOffBx = true ∧ (dieOf t die.val).coreOn = false) := by
  refine ⟨_, rfl, ?_⟩
  rw [lane0_fresh h.1 h.2]
  generalize lane0Ready s die.val seq.val 5 site.val = u
  constructor
  · exact congrArg SiteSt.coreOffBx (siteOf_setSite_same (s := u) die.val site.val (fun x => { x with coreOffBx := true, calOkBx := false }))
  · rw [dieOf_setDie, if_pos rfl]

theorem coreOn_results (die : DieIx) (seq : Fin 64) (site : SiteIx) (h : dieUp s die.val = true ∧ seq.val = (dieOf s die.val).rxSeq) :
    Runs (.coreOn die seq site) s (fun t => (siteOf t die.val site.val).coreOffBx = false
      ∧ ((∀ n ∈ sitesOf s die.val, n ≠ site.val → (siteOf s die.val n).coreOffBx = false) → (dieOf t die.val).coreOn = true)) := by
  refine ⟨_, rfl, ?_⟩
  rw [lane0_fresh h.1 h.2]
  have hso (n : Nat) : siteOf (lane0Ready s die.val seq.val 5 site.val) die.val n = siteOf s die.val n := rfl
  have hi : (lane0Ready s die.val seq.val 5 site.val).img = s.img := lane0Ready_evolves.img_eq rfl
  generalize lane0Ready s die.val seq.val 5 site.val = u at hso hi
  constructor
  · exact congrArg SiteSt.coreOffBx (siteOf_setSite_same (s := u) die.val site.val (fun x => { x with coreOffBx := false }))
  · intro hall
    rw [dieOf_setDie, if_pos rfl]
    show dieCoreOn (setSite u die.val site.val _) die.val = true
    unfold dieCoreOn
    rw [List.all_eq_true]
    intro n hn
    have hn' : n ∈ sitesOf s die.val := by
      unfold sitesOf at hn ⊢
      rw [List.mem_filter] at hn ⊢
      exact ⟨hn.1, (siteHere_of_img hi _ _).symm.trans hn.2⟩
    rw [siteOf_setSite]
    split
    · rfl
    next hne =>
      rw [hso]
      simpa using hall n hn' (by omega)

theorem calOk_results (die : DieIx) (seq : Fin 64) (site : SiteIx) (h : dieUp s die.val = true ∧ seq.val = (dieOf s die.val).rxSeq) :
    Runs (.calOk die seq site) s (fun t => (siteOf t die.val site.val).calOkBx = true) := by
  refine ⟨_, rfl, ?_⟩
  rw [lane0_fresh h.1 h.2]
  exact congrArg SiteSt.calOkBx (siteOf_setSite_same _ _ _)

theorem calFail_results (die : DieIx) (seq : Fin 64) (site : SiteIx) (h : dieUp s die.val = true ∧ seq.val = (dieOf s die.val).rxSeq) :
    Runs (.calFail die seq site) s (fun t => (siteOf t die.val site.val).calFail = true ∧ (siteOf t die.val site.val).calOk = false
      ∧ flag t (Reg.PB_DIE_EVENT die.val) F.PB_DIE_EVENT_CAL_FAIL = true) := by
  refine ⟨_, rfl, ?_⟩
  rw [lane0_fresh h.1 h.2]
  generalize lane0Ready s die.val seq.val 5 site.val = u
  set v := setSite u die.val site.val (fun x => { x with calFail := true, calOk := false, calOkBx := false })
  have hs : siteOf (siteEntry (raise v (Reg.PB_DIE_EVENT die.val) F.PB_DIE_EVENT_CAL_FAIL) die.val site.val 0x10) die.val site.val
      = { siteOf u die.val site.val with calFail := true, calOk := false, calOkBx := false } :=
    (siteOf_of_pb ((siteEntry_evolves.pb_eq rfl).trans (raise_evolves.pb_eq rfl)) _ _).trans (siteOf_setSite_same _ _ _)
  refine ⟨congrArg SiteSt.calFail hs, congrArg SiteSt.calOk hs, ?_⟩
  unfold siteEntry
  exact (record_rdBut.flag_eq _ (misses_fin (g := Reg.PB_DIE_EVENT) (by decide +kernel) die)).trans (flag_raise _ _ _ (by decide))

theorem siteFault_results (die : DieIx) (seq : Fin 64) (site : SiteIx) (h : dieUp s die.val = true ∧ seq.val = (dieOf s die.val).rxSeq) :
    Runs (.siteFault die seq site) s (fun t => flag t (Reg.PB_DIE_EVENT die.val) F.PB_DIE_EVENT_SITE_FAULT = true
      ∧ siteOf t die.val site.val = siteOf s die.val site.val) := by
  refine ⟨_, rfl, ?_⟩
  rw [lane0_fresh h.1 h.2]
  have hso : siteOf (lane0Ready s die.val seq.val 5 site.val) die.val site.val = siteOf s die.val site.val := rfl
  generalize lane0Ready s die.val seq.val 5 site.val = u at hso
  refine ⟨?_, (siteOf_of_pb ((siteEntry_evolves.pb_eq rfl).trans (raise_evolves.pb_eq rfl)) _ _).trans hso⟩
  unfold siteEntry
  exact (record_rdBut.flag_eq _ (misses_fin (g := Reg.PB_DIE_EVENT) (by decide +kernel) die)).trans (flag_raise _ _ _ (by decide))

/-! ## Reports of lane 1 -/

/-- The registers that the end of regulation of a rail writes. -/
def dischargeRegs : List (Nat × Nat × Nat) := [(Reg.CH_DRIP_TIME_LO 0, 0x1000, 8), (Reg.CH_DRIP_TIME_LO 0 + 4, 0x1000, 8), (Reg.CH_CAL_CNT 0, 0x1000, 8),
    (Reg.FQ_CNT2, 0, 0), (Reg.FQ_EVENT, 0, 0), (Reg.TOP_DRAIN_CNT 4, 0, 0), (Reg.TOP_DRAIN_STATUS, 0, 0), (Reg.FQ_CNT, 0, 0)]

theorem leaveReg_dischargeRegs {r : Nat} (hr : r < 8) : RdBut dischargeRegs s (leaveReg s r) := by
  have hd : RdBut dischargeRegs (boostStop s r) (dripTime (boostStop s r) r) := by
    unfold dripTime bump48 wr64
    have h0 : RdBut [(Reg.CH_DRIP_TIME_LO 0, 0x1000, 8)] (boostStop s r) (wrN (boostStop s r) (Reg.CH_DRIP_TIME_LO r)
      (min (rd64 (boostStop s r) (Reg.CH_DRIP_TIME_LO r) + dripUs (boostStop s r) r) (2 ^ 48 - 1) % 2 ^ 32)) := wr_rdButN hr
    refine h0.mono.trans (RdBut.mono (G := [(Reg.CH_DRIP_TIME_LO 0 + 4, 0x1000, 8)]) ?_)
    rw [show Reg.CH_DRIP_TIME_LO r + 4 = Reg.CH_DRIP_TIME_LO 0 + 4 + 0x1000 * r by dsimp only [Reg.CH_DRIP_TIME_LO]; omega]
    exact wr_rdButN hr
  have hc {u : State} : RdBut dischargeRegs u (calDrop u r) := by
    have h0 : RdBut [(Reg.CH_CAL_CNT 0, 0x1000, 8)] u (bump u (Reg.CH_CAL_CNT r) F.CH_CAL_CNT_INCOMPLETE) := wr_rdButN hr
    unfold calDrop
    exact .ite (.trans h0.mono (.trans (.forEach fun _ _ => (.of_evolves setPh_evolves)) (.of_evolves (W := { est := true }) .set_est))) .refl
  unfold leaveReg
  exact .trans (.of_evolves boostStop_evolves)
    (.ite (.trans (.trans hd (.forEach fun _ _ => (.of_evolves armDie_evolves)))
      (.trans (.of_evolves setCh_evolves) (.trans hc (.trans (.of_evolves setCh_evolves) fqLeaveReg_rdBut.mono)))) .refl)

theorem mem_of_mem_inDisOrder {l : List DisItem} {x : DisItem} (h : x ∈ inDisOrder s l) : x ∈ l := by
  unfold inDisOrder at h
  rcases List.mem_append.1 h with h | h
  · obtain ⟨r, -, hr⟩ := List.mem_filterMap.1 h
    exact List.mem_of_find?_eq_some hr
  · exact (List.mem_filter.1 h).1

theorem disHead_dischargeRegs (h : ∀ x ∈ s.top.dis, x.rail < 8) : RdBut dischargeRegs s (disHead s) := by
  unfold disHead
  split
  · exact .refl
  next x l hx =>
    exact .trans (.trans (leaveReg_dischargeRegs (h x (by rw [hx]; exact List.mem_cons_self))) (.of_evolves setCh_evolves))
      (.ite (.of_evolves allActive_evolves) (.of_evolves phasesMid_evolves))

/-- A discharge of rails of the device writes no register outside them. -/
theorem discharge_dischargeRegs {items : List DisItem} (h : ∀ x ∈ items, x.rail < 8) : RdBut dischargeRegs s (discharge s items) := by
  unfold discharge
  extract_lets l s1 q
  have hl : ∀ x ∈ l, x.rail < 8 := fun x hx => h x (List.mem_filter.1 hx).1
  have h1 : RdBut dischargeRegs s s1 := .forEach_mem fun u x hx =>
    .ite .refl (.trans (.trans (leaveReg_dischargeRegs (hl x hx)) (.of_evolves phasesMid_evolves)) (.of_evolves setCh_evolves))
  have hq : ∀ x ∈ q, x.rail < 8 := fun x hx => hl x (mem_of_mem_inDisOrder hx)
  clear_value s1 q
  refine h1.trans ?_
  split
  · exact .trans (.of_evolves (W := { top := true }) .set_top) (disHead_dischargeRegs hq)
  · split
    · exact .refl
    · exact .of_evolves (W := { top := true }) .set_top

theorem dischargeAll_dischargeRegs {maySwitch limitOnly : Bool} : RdBut dischargeRegs s (dischargeAll s maySwitch limitOnly) := by
  unfold dischargeAll
  refine discharge_dischargeRegs fun x hx => ?_
  obtain ⟨r, hr, rfl⟩ := List.mem_map.1 hx
  exact lt_of_mem_rails hr

/-- The registers that a thermal trip writes after its latch. -/
def tripRegs : List (Nat × Nat × Nat) := [(Reg.REC_EVENT, 0, 0), (Reg.REC_ARB_DROP 0, 0, 0), (Reg.REC_ARB_DROP 1, 0, 0),
    (Reg.REC_ARB_DROP 2, 0, 0), (Reg.TOP_DRAIN_CNT 8, 0, 0), (Reg.TOP_DRAIN_STATUS, 0, 0), (Reg.TB_CAP_FLAGS, 0, 0), (Reg.TB_CAP_LO 0, 8, 16),
    (Reg.TB_CAP_HI 0, 8, 16), (Reg.TB_CAP_VALID, 0, 0), (Reg.TVL_GEVENT, 0, 0), (Reg.TOP_DRAIN_CNT 1, 0, 0), (Reg.PROT_STATUS, 0, 0),
    (Reg.SEC_IMG_STATUS, 0, 0), (Reg.SEC_IMG_FAIL_INFO, 0, 0), (Reg.TOP_COMMIT_STATUS, 0, 0), (Reg.CH_DRIP_TIME_LO 0, 0x1000, 8),
    (Reg.CH_DRIP_TIME_LO 0 + 4, 0x1000, 8), (Reg.CH_CAL_CNT 0, 0x1000, 8), (Reg.FQ_CNT2, 0, 0), (Reg.FQ_EVENT, 0, 0), (Reg.TOP_DRAIN_CNT 4, 0, 0),
    (Reg.FQ_CNT, 0, 0)]

/-- The state of a thermal trip once its cause is latched. -/
def tripLatched (s : State) (bit die : Nat) : State :=
  if bitOf (rd s Reg.PROT_THERM_LATCH).toNat bit then s else
    originTrip (lifeUp (protEntry (raise s Reg.PROT_THERM_LATCH ⟨bit, 1⟩) 0 (0x10 + bit) die) 4) 1

theorem tripLatched_rdBut {bit die : Nat} : RdBut ((Reg.PROT_THERM_LATCH, 0, 0) :: tripRegs) s (tripLatched s bit die) := by
  unfold tripLatched
  exact .ite .refl (.trans (.trans (.trans raise_rdBut0.mono protEntry_rdBut.mono) (.of_evolves lifeUp_evolves)) originTrip_rdBut.mono)

theorem tripLatched_flag {bit die : Nat} (hb : bit < 32) : flag (tripLatched s bit die) Reg.PROT_THERM_LATCH ⟨bit, 1⟩ = true := by
  unfold tripLatched
  split
  next h => rwa [flag_eq_bitOf]
  next =>
    have h : RdBut tripRegs (raise s Reg.PROT_THERM_LATCH ⟨bit, 1⟩)
        (originTrip (lifeUp (protEntry (raise s Reg.PROT_THERM_LATCH ⟨bit, 1⟩) 0 (0x10 + bit) die) 4) 1) :=
      .trans (.trans protEntry_rdBut.mono (.of_evolves lifeUp_evolves)) originTrip_rdBut.mono
    exact (h.flag_eq _).trans (flag_raise _ _ _ hb)

theorem thermalTrip_tripRegs {bit die : Nat} : RdBut tripRegs (tripLatched s bit die) (thermalTrip s bit die) := by
  unfold thermalTrip
  exact .trans (raise_rdBut0 (off := Reg.PROT_STATUS)).mono (.trans (.of_evolves phasesMid_evolves) (.trans haltEntry_rdBut.mono dischargeAll_dischargeRegs.mono))

theorem thermalTrip_rdBut {bit die : Nat} : RdBut ((Reg.PROT_THERM_LATCH, 0, 0) :: tripRegs) s (thermalTrip s bit die) :=
  tripLatched_rdBut.trans thermalTrip_tripRegs.mono

theorem flag_thermalTrip {bit die : Nat} (hb : bit < 32) : flag (thermalTrip s bit die) Reg.PROT_THERM_LATCH ⟨bit, 1⟩ = true :=
  (thermalTrip_tripRegs.flag_eq _).trans (tripLatched_flag hb)

theorem pbSite_misses (d : DieIx) (n : SiteIx) : ((Reg.PROT_THERM_LATCH, 0, 0) :: tripRegs).all (misses · (Reg.PB_SITE d.val n.val)) = true := by
  have h : ∀ (d : Fin 4) (n : Fin 64), ((Reg.PROT_THERM_LATCH, 0, 0) :: tripRegs).all (misses · (Reg.PB_SITE d.val n.val)) = true := by decide +kernel
  exact h d n

theorem fld_temp {off v : Nat} (hv : v < 2 ^ 16) : fld (setF s off F.PB_SITE_TEMP v) off F.PB_SITE_TEMP = v :=
  (fld_setF_same _ _ _ _ (by decide)).trans (Nat.mod_eq_of_lt hv)

theorem temp_results (die : DieIx) (site : SiteIx) (v : BitVec 16) (stamp : BitVec 24) (hup : dieUp s die.val = true) :
    Runs (.temp die site v stamp) s (fun t => fld t (Reg.PB_SITE die.val site.val) F.PB_SITE_TEMP = v.toNat
      ∧ ((critLevel s : Int) < v.toInt → flag t Reg.PROT_THERM_LATCH F.PROT_THERM_LATCH_REPORT = true)) := by
  show ∃ t, execTemp die site v stamp s = .next t ∧ _
  unfold execTemp
  extract_lets d n x
  refine ⟨_, rfl, ?_⟩
  rw [lane1_up hup]
  have h0 : Evolves { pb := true } s (wireTake s d 1 9 n) := wireTake_evolves
  generalize wireTake s d 1 9 n = u at h0
  extract_lets s1 s2 s3 s4 p s5 s6 s7
  have e1 : Evolves { regs := true } u s1 := setF_evolves
  have f1 : fld s1 (Reg.PB_SITE d n) F.PB_SITE_TEMP = v.toNat := fld_temp v.isLt
  clear_value s1
  have e3 : Evolves { fab := true, sbm := true } s1 s3 := setSrc_evolves.mono.trans meanAdd_evolves.mono
  clear_value s2 s3
  have e4 : Evolves { pb := true } s3 s4 := .ite setDie_evolves .refl
  clear_value s4
  have e6 : Evolves { cap := true } s4 s6 := setCap_evolves.trans setCap_evolves
  clear_value s5 s6
  have e7 : Evolves { cap := true } s4 s7 := by
    dsimp only [s7]
    exact .ite (.ite (e6.trans setCap_evolves) e6) .refl
  clear_value s7
  have f7 : fld s7 (Reg.PB_SITE d n) F.PB_SITE_TEMP = v.toNat :=
    (fld_congr (rd_of_regs ((e7.regs_eq rfl).trans ((e4.regs_eq rfl).trans (e3.regs_eq rfl))) _) _).trans f1
  have hc : critLevel s7 = critLevel s := by
    unfold critLevel
    rw [aF_of_active ((e7.active_eq rfl).trans ((e4.active_eq rfl).trans ((e3.active_eq rfl).trans ((e1.active_eq rfl).trans (h0.active_eq rfl)))))]
  rw [hc]
  split
  next h => exact ⟨(thermalTrip_rdBut.fld_eq _ (pbSite_misses die site)).trans f7, fun _ => flag_thermalTrip (by decide)⟩
  next h => exact ⟨f7, fun hh => absurd hh h⟩

theorem cpm_results (die : DieIx) (site : SiteIx) (v : BitVec 16) (stamp : BitVec 24) (hup : dieUp s die.val = true) :
    Runs (.cpm die site v stamp) s (fun t => fld t (Reg.PB_SITE die.val site.val) F.PB_SITE_MARGIN = v.toNat) := by
  refine ⟨_, rfl, ?_⟩
  rw [lane1_up hup]
  generalize wireTake s die.val 1 0xA site.val = u
  exact (fld_congr (rd_of_regs (setSrc_evolves.regs_eq rfl) _) _).trans ((fld_setF_same _ _ _ _ (by decide)).trans (Nat.mod_eq_of_lt v.isLt))

theorem acctOn_of (hi : t.img = s.img) (hc : t.ch = s.ch) (p : Nat) : acctOn t p = acctOn s p := by
  unfold acctOn railState
  rw [partHere_of_img hi, partRail_of_img hi, chOf_of_ch hc]

theorem rd_bump48_ne {lo k off : Nat} (h0 : lo ≠ off) (h4 : lo + 4 ≠ off) : rd (bump48 s lo k) off = rd s off := rd_wr64_ne h0 h4

/-- What the account of stretches keeps of a partition's counts. -/
theorem rd_stretchTime {p k : Nat} : rd (reasonTime s p 4 k) (Reg.CAP_RCNT p 4) = rd s (Reg.CAP_RCNT p 4) := by
  unfold reasonTime
  split
  · exact rd_bump48_ne (by dsimp only [Reg.CAP_RDUR_LO, Reg.CAP_RCNT]; omega) (by dsimp only [Reg.CAP_RDUR_LO, Reg.CAP_RCNT]; omega)
  · rfl

theorem rd_lostStr {p q k : Nat} : rd (lostStr s p k) (Reg.CAP_RCNT q 4) = rd s (Reg.CAP_RCNT q 4) := by
  unfold lostStr
  exact rd_wr64_ne (by dsimp only [Reg.CAP_LOST_STR_LO, Reg.CAP_RCNT]; omega) (by dsimp only [Reg.CAP_LOST_STR_LO, Reg.CAP_RCNT]; omega)

theorem stretch_results (die : DieIx) (site : SiteIx) (extra : BitVec 20) (events : BitVec 12) : let p := sitePartF (framesOf s) die.val site.val
    dieUp s die.val = true → siteHere s die.val site.val = true → acctOn s p = true → 0 < (partSitesF (framesOf s) p).length →
    Runs (.stretch die site extra events) s (fun t => fld t (Reg.CAP_RCNT p 4) wordF = min (fld s (Reg.CAP_RCNT p 4) wordF + events.toNat) 0xFFFFFFFF) := by
  intro p hup hh ha hk
  refine ⟨_, rfl, ?_⟩
  rw [lane1_up hup]
  have h0 : Evolves { pb := true } s (wireTake s die.val 1 0xB site.val) := wireTake_evolves
  generalize wireTake s die.val 1 0xB site.val = u at h0
  extract_lets f q k s1 s2
  have hq : q = p := by
    dsimp only [q, f, p]
    rw [framesOf_of_img (h0.img_eq rfl)]
  have hau : acctOn u q = true := by rw [hq, acctOn_of (h0.img_eq rfl) (h0.ch_eq rfl), ha]
  have hk' : 0 < k := by
    dsimp only [k, f]
    rw [framesOf_of_img (h0.img_eq rfl), hq]
    exact hk
  have hlt : q < 32 := by
    unfold acctOn at hau
    exact partHere_lt (Bool.and_eq_true_iff.1 hau).1
  have hs1 : s1 = bumpBy u (Reg.CAP_RCNT q 4) wordF events.toNat := if_pos hau
  have f1 : fld s1 (Reg.CAP_RCNT q 4) wordF = min (fld u (Reg.CAP_RCNT q 4) wordF + events.toNat) 0xFFFFFFFF := by
    rw [hs1]
    exact (fld_setF_same _ _ _ _ (by decide)).trans (Nat.mod_eq_of_lt (by show min _ (2 ^ 32 - 1) < 2 ^ 32; omega))
  have f2 : rd s2 (Reg.CAP_RCNT q 4) = rd s1 (Reg.CAP_RCNT q 4) := rd_stretchTime
  clear_value s1 s2 k q
  rw [if_pos ⟨(siteHere_of_img (h0.img_eq rfl) _ _).trans hh, hau, hk'⟩, ← hq]
  refine ((fld_congr rd_lostStr _).trans ((fld_congr f2 _).trans f1)).trans ?_
  rw [fld_congr (rd_of_regs (h0.regs_eq rfl) _)]

theorem rd64_wr64 {lo v : Nat} (h : v < 2 ^ 64) : rd64 (wr64 s lo v) lo = v := by
  unfold rd64 wr64
  rw [rd_wrN_ne _ _ (by omega), rd_wrN_same, rd_wrN_same, BitVec.toNat_ofNat, BitVec.toNat_ofNat]
  omega

theorem rd64_wr64_ne {lo v o : Nat} (h0 : lo ≠ o) (h1 : lo ≠ o + 4) (h2 : lo + 4 ≠ o) : rd64 (wr64 s lo v) o = rd64 s o := by
  unfold rd64
  rw [rd_wr64_ne h0 h2, rd_wr64_ne h1 (by omega)]

/-- The account of a report's energy. -/
def baleAdded (s : State) (p k : Nat) : State :=
  let s := wr64 s (Reg.BAL_E_LO p) ((rd64 s (Reg.BAL_E_LO p) + k) % 2 ^ 64)
  wr64 s Reg.BAL_ETOT_LO ((rd64 s Reg.BAL_ETOT_LO + k) % 2 ^ 64)

theorem rd64_baleAdded {p k : Nat} (hp : p < 32) : rd64 (baleAdded s p k) (Reg.BAL_E_LO p) = (rd64 s (Reg.BAL_E_LO p) + k) % 2 ^ 64 := by
  unfold baleAdded
  extract_lets s1
  rw [rd64_wr64_ne (by dsimp only [Reg.BAL_E_LO, Reg.BAL_ETOT_LO]; omega) (by dsimp only [Reg.BAL_E_LO, Reg.BAL_ETOT_LO]; omega)
    (by dsimp only [Reg.BAL_E_LO, Reg.BAL_ETOT_LO]; omega)]
  exact rd64_wr64 (Nat.mod_lt _ (by norm_num))

theorem baleAdded_evolves {p k : Nat} : Evolves { regs := true } s (baleAdded s p k) := by
  unfold baleAdded
  exact wr64_evolves.trans wr64_evolves

theorem bale_results (die : DieIx) (site : SiteIx) (e : BitVec 40) : let p := sitePartF (framesOf s) die.val site.val
    dieUp s die.val = true → siteHere s die.val site.val = true → partHere s p = true →
    Runs (.bale die site e) s (fun t => (siteOf t die.val site.val).eBase = some e.toNat
      ∧ ((siteOf s die.val site.val).eBase = none → rd64 t (Reg.BAL_E_LO p) = rd64 s (Reg.BAL_E_LO p))
      ∧ ∀ b, (siteOf s die.val site.val).eBase = some b → rd64 t (Reg.BAL_E_LO p) = (rd64 s (Reg.BAL_E_LO p) + (e.toNat + 2 ^ 40 - b) % 2 ^ 40) % 2 ^ 64) := by
  intro p hup hh hp
  refine ⟨_, rfl, ?_⟩
  rw [lane1_up hup]
  have h0 : Evolves { pb := true } s (wireTake s die.val 1 0xC site.val) := wireTake_evolves
  have hso : siteOf (wireTake s die.val 1 0xC site.val) die.val site.val = siteOf s die.val site.val := rfl
  generalize wireTake s die.val 1 0xC site.val = u at h0 hso
  extract_lets q old s1
  have hq : q = p := by
    dsimp only [q, p]
    rw [framesOf_of_img (h0.img_eq rfl)]
  have hold : old = (siteOf s die.val site.val).eBase := congrArg SiteSt.eBase hso
  have hs1 : (siteOf s1 die.val site.val).eBase = some e.toNat := congrArg SiteSt.eBase (siteOf_setSite_same _ _ _)
  have e1 : Evolves { pb := true } s s1 := h0.trans setSite_evolves
  have r1 : rd64 s1 (Reg.BAL_E_LO p) = rd64 s (Reg.BAL_E_LO p) := rd64_of_regs (e1.regs_eq rfl) _
  clear_value s1 q old p
  subst hq hold
  have hlt : q < 32 := partHere_lt hp
  split
  next b hb =>
    rw [if_pos ⟨(siteHere_of_img (e1.img_eq rfl) _ _).trans hh, (partHere_of_img (e1.img_eq rfl) _).trans hp⟩]
    have key (k : Nat) : (siteOf (baleAdded s1 q k) die.val site.val).eBase = some e.toNat
        ∧ rd64 (baleAdded s1 q k) (Reg.BAL_E_LO q) = (rd64 s (Reg.BAL_E_LO q) + k) % 2 ^ 64 :=
      ⟨(congrArg SiteSt.eBase (siteOf_of_pb (baleAdded_evolves.pb_eq rfl) _ _)).trans hs1, by rw [rd64_baleAdded hlt, r1]⟩
    extract_lets k
    obtain ⟨h1, h2⟩ := key k
    refine ⟨h1, fun hn => absurd (hn.symm.trans hb) (by simp), fun b' hb' => ?_⟩
    rw [← Option.some.inj (hb.symm.trans hb')]
    exact h2
  next hb => exact ⟨hs1, fun _ => r1, fun b hb' => absurd (hb.symm.trans hb') (by simp)⟩

/-! ## Lane failures -/

theorem dieParts_nodup : (dieParts s d).Nodup := (List.nodup_range.filter _).filter _

theorem safeN_of_active (h : t.active = s.active) (p : Nat) : safeN t p = safeN s p := aF_of_active h _ _

/-- The partitions of a die that falls back are held to SAFE_N. -/
def partFallback (s : State) (p : Nat) : State :=
  setBal (setPart s p (fun x => { x with nCur := min (curN s p) (safeN s p), sent := none, tries := 0, tickAt := none })) p (fun x => { x with level := 0 })

theorem partFallback_nCur : (partOf (partFallback s p) p).nCur ≤ safeN s p := by
  show (partOf (setPart s p (fun x => { x with nCur := min (curN s p) (safeN s p), sent := none, tries := 0, tickAt := none })) p).nCur ≤ _
  rw [partOf_setPart, if_pos rfl]
  exact min_le_right _ _

theorem partFallback_ne {q : Nat} (h : q ≠ p) : partOf (partFallback s q) p = partOf s p := by
  show partOf (setPart s q (fun x => { x with nCur := min (curN s q) (safeN s q), sent := none, tries := 0, tickAt := none })) p = _
  rw [partOf_setPart, if_neg h]

theorem partsFallback_nCur (h : p ∈ dieParts s d) (ht : t.active = s.active) :
    (partOf (forEach (dieParts s d) t partFallback) p).nCur ≤ safeN s p := by
  refine forEach_once (I := fun u => u.active = s.active) (Q := fun u => (partOf u p).nCur ≤ safeN s p) dieParts_nodup h
    (fun _ _ _ hi => hi) (fun u hi => ?_) (fun u q hq hu => ?_) ht
  · rw [← safeN_of_active hi]
    exact partFallback_nCur
  · rw [partFallback_ne hq]
    exact hu

/-- What a fallback of a die leaves of it. -/
def Fallen (s t : State) (d : Nat) : Prop := (dieOf t d).link = .fallback ∧ (dieOf t d).safe = true ∧ (dieOf t d).tempStale = true
  ∧ flag t (Reg.PB_DIE_EVENT d) F.PB_DIE_EVENT_LANE_FAIL = true ∧ ∀ p ∈ dieParts s d, (partOf t p).nCur ≤ safeN s p

theorem fqFallback_rdBut : RdBut [(Reg.FQ_CNT2, 0, 0)] s (fqFallback s d) := by
  unfold fqFallback
  exact .forEach fun _ _ => .trans (bumpBy_rdBut0 (off := Reg.FQ_CNT2)).mono (.trans (.of_evolves setQueue_evolves) (.of_evolves (W := { fq := true }) .set_fq))

/-- The registers that a fallback writes after the events of its die. -/
def fallRegs : List (Nat × Nat × Nat) := [(Reg.REC_EVENT, 0, 0), (Reg.REC_ARB_DROP 0, 0, 0), (Reg.REC_ARB_DROP 1, 0, 0), (Reg.REC_ARB_DROP 2, 0, 0),
  (Reg.TOP_DRAIN_CNT 8, 0, 0), (Reg.TOP_DRAIN_STATUS, 0, 0), (Reg.FQ_CNT2, 0, 0)]

theorem fallRegs_event (d : DieIx) : fallRegs.all (misses · (Reg.PB_DIE_EVENT d.val)) = true :=
  misses_fin (g := Reg.PB_DIE_EVENT) (by decide +kernel) d

theorem dieFallback_results (d : DieIx) : Fallen s (dieFallback s d.val) d.val
    ∧ ∀ lo, lo < 32 → flag s (Reg.PB_DIE_EVENT d.val) ⟨lo, 1⟩ = true → flag (dieFallback s d.val) (Reg.PB_DIE_EVENT d.val) ⟨lo, 1⟩ = true := by
  unfold dieFallback
  extract_lets s1 s2 s3 s4 s5 _ s6
  have d1 : dieOf s1 d.val = { dieOf s d.val with link := .fallback, safe := true, resume := false, tempStale := true, cfgs := [], nakWait := false } := by
    show dieOf (setDie s d.val _) d.val = _
    rw [dieOf_setDie, if_pos rfl]
  have e1 : Evolves { pb := true } s s1 := setDie_evolves
  clear_value s1
  have f2 : flag s2 (Reg.PB_DIE_EVENT d.val) F.PB_DIE_EVENT_LANE_FAIL = true := flag_raise _ _ _ (by decide)
  have k2 (lo : Nat) (hl : lo < 32) (h : flag s1 (Reg.PB_DIE_EVENT d.val) ⟨lo, 1⟩ = true) : flag s2 (Reg.PB_DIE_EVENT d.val) ⟨lo, 1⟩ = true :=
    flag_raise_keeps (by decide) h hl
  have e2 : Evolves { regs := true } s1 s2 := raise_evolves
  clear_value s2
  have k3 (lo : Nat) (hl : lo < 32) (h : flag s2 (Reg.PB_DIE_EVENT d.val) ⟨lo, 1⟩ = true) : flag s3 (Reg.PB_DIE_EVENT d.val) ⟨lo, 1⟩ = true :=
    flag_raise_keeps (by decide) h hl
  have e3 : Evolves { regs := true } s2 s3 := raise_evolves
  clear_value s3
  have r4 : RdBut fallRegs s3 s4 := record_rdBut.mono
  have e4 : Evolves { regs := true, drain := true, recd := true } s3 s4 := record_evolves
  clear_value s4
  have ha : s4.active = s.active := (e4.active_eq rfl).trans ((e3.active_eq rfl).trans ((e2.active_eq rfl).trans (e1.active_eq rfl)))
  have hi : s4.img = s.img := (e4.img_eq rfl).trans ((e3.img_eq rfl).trans ((e2.img_eq rfl).trans (e1.img_eq rfl)))
  have hs5 : s5 = forEach (dieParts s d.val) s4 partFallback := by
    rw [← dieParts_of_img hi d.val]
    rfl
  have n5 : ∀ p ∈ dieParts s d.val, (partOf s5 p).nCur ≤ safeN s p := fun p hp => by
    rw [hs5]
    exact partsFallback_nCur hp ha
  have d5 : Shows (fun u => u.pb.die) s4 s5 := by
    rw [hs5]
    exact .forEach fun _ _ => .of_eq (by rfl)
  have e5 : Evolves { pb := true, fq := true } s4 s5 := .forEach fun _ _ => setPart_evolves.mono.trans setBal_evolves.mono
  clear_value s5
  have e6 : Evolves { fq := true } s5 s6 := .set_fq
  clear_value s6
  have e7 : Evolves { regs := true, fq := true } s6 (fqFallback s6 d.val) := fqFallback_evolves
  have r7 : RdBut fallRegs s4 (fqFallback s6 d.val) := (RdBut.of_evolves e5).trans ((RdBut.of_evolves e6).trans fqFallback_rdBut.mono)
  have hpb : (fqFallback s6 d.val).pb = s5.pb := (e7.pb_eq rfl).trans (e6.pb_eq rfl)
  have hd : dieOf (fqFallback s6 d.val) d.val = dieOf s1 d.val := by
    rw [dieOf_of_pb hpb, dieOf_of_die d5.eq, dieOf_of_pb ((e4.pb_eq rfl).trans ((e3.pb_eq rfl).trans (e2.pb_eq rfl)))]
  have hf (lo : Nat) (hl : lo < 32) (h : flag s2 (Reg.PB_DIE_EVENT d.val) ⟨lo, 1⟩ = true) : flag (fqFallback s6 d.val) (Reg.PB_DIE_EVENT d.val) ⟨lo, 1⟩ = true :=
    ((r4.trans r7).flag_eq _ (fallRegs_event d)).trans (k3 lo hl h)
  refine ⟨⟨?_, ?_, ?_, hf _ (by decide) f2, fun p hp => ?_⟩, fun lo hl h => hf lo hl (k2 lo hl ?_)⟩
  · rw [hd, d1]
  · rw [hd, d1]
  · rw [hd, d1]
  · rw [partOf_of_pb hpb]
    exact n5 p hp
  · exact (flag_congr (rd_of_regs (e1.regs_eq rfl) _) _).trans h

theorem fallen_of (h : Fallen t u d) (hi : t.img = s.img) (ha : t.active = s.active) : Fallen s u d := by
  obtain ⟨h1, h2, h3, h4, h5⟩ := h
  refine ⟨h1, h2, h3, h4, fun p hp => ?_⟩
  rw [← safeN_of_active ha]
  exact h5 p (by rwa [dieParts_of_img hi])

theorem laneFailure_results (d : DieIx) (hup : dieUp s d.val = true) : Fallen s (laneFailure s d.val) d.val
    ∧ ∀ lo, lo < 32 → flag s (Reg.PB_DIE_EVENT d.val) ⟨lo, 1⟩ = true → flag (laneFailure s d.val) (Reg.PB_DIE_EVENT d.val) ⟨lo, 1⟩ = true := by
  unfold laneFailure
  rw [if_pos hup]
  have e : Evolves { pb := true } s (plSend s d.val 7 0x3F (1 * 2 ^ 32)) := plSend_evolves
  obtain ⟨h, k⟩ := dieFallback_results (s := plSend s d.val 7 0x3F (1 * 2 ^ 32)) d
  exact ⟨fallen_of h (e.img_eq rfl) (e.active_eq rfl), fun lo hl hf => k lo hl ((flag_congr (rd_of_regs (e.regs_eq rfl) _) _).trans hf)⟩

theorem upLaneFailure_results (die : DieIx) (lock : Bool) (hup : dieUp s die.val = true) : Runs (.upLaneFailure die lock) s (fun t => Fallen s t die.val) := by
  refine ⟨_, rfl, ?_⟩
  set u := if lock ∧ dieUp s die.val then clkFault s 6 else s
  have hu : Evolves { regs := true, drain := true, recd := true } s u := .ite clkFault_evolves .refl
  clear_value u
  have hup' : dieUp u die.val = true := (dieUp_of_link (congrArg DieSt.link (dieOf_of_pb (hu.pb_eq rfl) _))).trans hup
  exact fallen_of (laneFailure_results die hup').1 (hu.img_eq rfl) (hu.active_eq rfl)

theorem downLoss_results (die : DieIx) (hup : dieUp s die.val = true) : Runs (.downLoss die) s (fun t => Fallen s t die.val) := by
  show ∃ t, execDownLoss die s = .next t ∧ _
  unfold execDownLoss
  extract_lets u
  have hu : Evolves { pb := true } s u := wireDrop_evolves
  have hup' : dieUp u die.val = true := hup
  rw [if_pos hup']
  exact ⟨_, rfl, fallen_of (dieFallback_results die).1 (hu.img_eq rfl) (hu.active_eq rfl)⟩

theorem fallbackRetrain_results (die : DieIx) (h : (dieOf s die.val).link = .fallback) :
    Runs (.fallbackRetrain die) s (fun t => (dieOf t die.val).link = .training ∧ (dieOf t die.val).safe = (dieOf s die.val).safe
      ∧ fld t (Reg.PB_ERR_CNT die.val) F.PB_ERR_CNT_RETRAINS
          = min (fld s (Reg.PB_ERR_CNT die.val) F.PB_ERR_CNT_RETRAINS + 1) (2 ^ F.PB_ERR_CNT_RETRAINS.len - 1)) := by
  show ∃ t, execFallbackRetrain die s = .next t ∧ _
  unfold execFallbackRetrain
  rw [if_pos (.inl h)]
  have hd : dieOf (bump (setDie s die.val (fun x => { x with link := .training })) (Reg.PB_ERR_CNT die.val) F.PB_ERR_CNT_RETRAINS) die.val
      = { dieOf s die.val with link := .training } := by
    rw [dieOf_of_pb (bump_evolves.pb_eq rfl), dieOf_setDie, if_pos rfl]
  exact ⟨_, rfl, by rw [hd], by rw [hd], fld_bump_same _ _ _ (by decide)⟩

/-! ## Training and die time -/

theorem tsyncSends (d : DieIx) (hup : dieUp s d.val = true) :
    Runs .tsyncSend s (fun t => ∃ m ∈ t.pb.wire, m.die = d.val ∧ m.lane = 2 ∧ m.typ = 3 ∧ m.data = now s % 2 ^ 32 * 2 ^ 8) := by
  refine ⟨_, rfl, ?_⟩
  refine forEach_establishes (k := d.val) (I := fun u => dieUp u d.val = true ∧ now u = now s)
    (Q := fun t => ∃ m ∈ t.pb.wire, m.die = d.val ∧ m.lane = 2 ∧ m.typ = 3 ∧ m.data = now s % 2 ^ 32 * 2 ^ 8) (List.mem_range.2 d.isLt)
    (fun u e ⟨hu, hn⟩ => ⟨(dieUp_of_link (plKept_tsyncSend.link _)).trans hu, (now_of tsyncSend_evolves).trans hn⟩) (fun u ⟨hu, hn⟩ => ?_) (fun u e _ ⟨m, hm, hw⟩ => ⟨m, ?_, hw⟩) ⟨hup, rfl⟩
  · unfold tsyncSend plSend
    rw [if_pos hu]
    refine ⟨_, List.mem_append_right _ (List.mem_singleton_self _), rfl, rfl, rfl, ?_⟩
    dsimp only
    rw [hn]
    exact Nat.mod_eq_of_lt (by omega)
  · unfold tsyncSend plSend
    split
    · exact List.mem_append_left _ hm
    · exact hm

theorem plKept_maybeResume_link : (dieOf (maybeResume s d) d).link = (dieOf s d).link ∧ (maybeResume s d).pb.port = s.pb.port := by
  unfold maybeResume
  split
  · rw [dieOf_setDie, if_pos rfl]
    exact ⟨plKept_plSend.link d, congrArg (fun x : (Nat → DieSt) × Tab PortSt × Tab SiteSt × Tab PartPbSt => x.2.1) plKept_plSend.eq⟩
  · exact ⟨rfl, rfl⟩

theorem portOf_of_port (h : t.pb.port = s.pb.port) (d : Nat) : portOf t d = portOf s d := by
  unfold portOf
  rw [h]

theorem trainingDone_results (die : DieIx) (lDown lUp : Fin 4096) (h : s.top.state ≠ .off) :
    Runs (.postlineTrainingDone die lDown lUp) s (fun t => (dieOf t die.val).link = .up ∧ (portOf t die.val).trained = true
      ∧ rd t (Reg.PB_LAT die.val) = BitVec.ofNat 32 (lDown.val + lUp.val * 2 ^ 16) ∧ flag t (Reg.PB_DIE_EVENT die.val) F.PB_DIE_EVENT_LINK_UP = true) := by
  show ∃ t, execPostlineTrainingDone die lDown lUp s = .next t ∧ _
  unfold execPostlineTrainingDone
  extract_lets d again s1 _ s2 s3 s4 s5 s6 s7 s8 s9
  rw [if_neg h]
  refine ⟨_, rfl, ?_⟩
  have d1 : (dieOf s1 d).link = .up := by
    show (dieOf (setDie (pmRefresh s) d (fun x => { x with link := .up, rxSeq := 0, txSeq := 0, nakWait := false, cfgs := [], crcTimes := [], resume := again })) d).link = _
    rw [dieOf_setDie, if_pos rfl]
  have d3 : (dieOf s3 d).link = .up := d1
  have p3 : (portOf s3 d).trained = true := by
    show (portOf (setPort s2 d (fun x => { x with trained := true, txSeq := 0, hist := [], fseq := [] })) d).trained = _
    rw [portOf_setPort, if_pos rfl]
  clear_value s1 s2 s3
  have e4 : Evolves { fq := true } s3 s4 := .forEach fun _ _ => setQueue_evolves
  have d5 : Shows (fun u => (u.pb.die, u.pb.port)) s4 s5 := .forEach fun _ _ => .of_eq (by rfl)
  have e6 : Evolves { regs := true } s5 s6 := raise_evolves
  have f6 : flag s6 (Reg.PB_DIE_EVENT d) F.PB_DIE_EVENT_LINK_UP = true := flag_raise _ _ _ (by decide)
  clear_value s4 s5 s6
  have e7 : Evolves { regs := true } s6 s7 := wrN_evolves
  have w7 : rd s7 (Reg.PB_LAT d) = BitVec.ofNat 32 (lDown.val + lUp.val * 2 ^ 16) := rd_wrN_same _ _ _
  have f7 : flag s7 (Reg.PB_DIE_EVENT d) F.PB_DIE_EVENT_LINK_UP = true :=
    (flag_congr (rd_wrN_ne _ _ (by dsimp only [Reg.PB_LAT, Reg.PB_DIE_EVENT]; omega)) _).trans f6
  clear_value s7
  have h8 : Shows plKept s7 s8 := plKept_tsyncSend.trans plKept_cfgAll
  have e8 : Evolves { pb := true } s7 s8 := tsyncSend_evolves.trans cfgAll_evolves
  clear_value s8
  have h9 : Shows plKept s8 s9 := .both plKept_armDie .refl
  have e9 : Evolves { pb := true } s8 s9 := .ite armDie_evolves .refl
  clear_value s9
  have hregs : (maybeResume s9 d).regs = s7.regs := (maybeResume_evolves.regs_eq rfl).trans ((e9.regs_eq rfl).trans (e8.regs_eq rfl))
  have hpb : s7.pb.die = s3.pb.die ∧ s7.pb.port = s3.pb.port := by
    have h5 := Prod.mk.inj d5.eq
    have h67 : s7.pb = s5.pb := (e7.pb_eq rfl).trans (e6.pb_eq rfl)
    rw [h67, h5.1, h5.2, e4.pb_eq rfl]
    exact ⟨rfl, rfl⟩
  obtain ⟨hl, hp⟩ := plKept_maybeResume_link (s := s9) (d := d)
  refine ⟨?_, ?_, (rd_of_regs hregs _).trans w7, (flag_congr (rd_of_regs hregs _) _).trans f7⟩
  · rw [hl, (h8.trans h9).link, dieOf_of_die hpb.1, d3]
  · rw [portOf_of_port hp, (h8.trans h9).portOf, portOf_of_port hpb.2, p3]

/-! ## Resends and errors -/

theorem resendBarred_reach (k p n : Nat) : resendBarred (reach s k) p n = resendBarred s p n := by
  obtain ⟨b, hb⟩ := reach_form (s := s) k
  rw [hb]
  rfl

theorem freqResend_results (part : PartIx) (n : Nat) (h : (partOf s part.val).sent = some n) :
    Runs (.freqResend part) s (fun t =>
      (resendBarred s part.val n = true → (partOf t part.val).sent = none ∧ t.pb.wire = s.pb.wire)
      ∧ (resendBarred s part.val n = false → (partOf s part.val).tries < 3 → dieUp s (partDie s part.val) = true → (partOf t part.val).tries = (partOf s part.val).tries + 1
        ∧ (partOf t part.val).sent = some n ∧ ∃ m : PlMsg, t.pb.wire = s.pb.wire ++ [m] ∧ m.typ = 1 ∧ m.addr = part.val)
      ∧ (resendBarred s part.val n = false → 3 ≤ (partOf s part.val).tries → (partOf t part.val).sent = none
        ∧ flag t (Reg.PB_DIE_EVENT (partDie s part.val)) F.PB_DIE_EVENT_FACK_TIMEOUT = true)) := by
  show ∃ t, execFreqResend part s = .next t ∧ _
  unfold execFreqResend
  extract_lets p d u s1 s2
  rw [h]
  have hu : Evolves { tb := true } s u := reach_evolves
  have hb : resendBarred u p n = resendBarred s p n := resendBarred_reach _ _ _
  have hpu : partOf u p = partOf s p := partOf_of_pb (hu.pb_eq rfl) p
  have hdu : dieUp u d = dieUp s d := dieUp_of_link (congrArg DieSt.link (dieOf_of_pb (hu.pb_eq rfl) d))
  have hw : u.pb.wire = s.pb.wire := congrArg PbSt.wire (hu.pb_eq rfl)
  dsimp -zeta only
  rw [hb, hpu, hdu]
  cases hbar : resendBarred s p n
  · rw [if_neg (by simp)]
    by_cases hc : (partOf s p).tries < 3 ∧ dieUp s d = true
    · rw [if_pos hc]
      refine ⟨_, rfl, fun h => absurd h (by simp), fun _ _ _ => ?_, fun _ h => absurd hc.1 (by show ¬(partOf s part.val).tries < 3; omega)⟩
      have h1 : partOf s1 p = { partOf s p with tries := (partOf s p).tries + 1, sentAt := now u } := by
        show partOf (setPart u p (fun x => { x with tries := x.tries + 1, sentAt := now u })) p = _
        rw [partOf_setPart, if_pos rfl, hpu]
      have hup1 : dieUp s1 d = true := hdu.trans hc.2
      have hw1 : s1.pb.wire = s.pb.wire := hw
      clear_value s1
      have hp : partOf (bump (plSend s1 d 1 p (n * 2 ^ 29)) (Reg.PB_ERR_CNT d) F.PB_ERR_CNT_RESENDS) p = partOf s1 p :=
        (partOf_of_pb (bump_evolves.pb_eq rfl) p).trans (plKept_plSend.partOf p)
      refine ⟨?_, ?_, ?_⟩
      · show (partOf _ p).tries = _
        rw [hp, h1]
      · show (partOf _ p).sent = _
        rw [hp, h1]
        exact h
      · rw [bump_evolves.pb_eq rfl]
        unfold plSend
        rw [if_pos hup1]
        exact ⟨_, congrArg (· ++ _) hw1, rfl, rfl⟩
    · rw [if_neg hc]
      refine ⟨_, rfl, fun h => absurd h (by simp), fun _ h1 h2 => absurd ⟨h1, h2⟩ hc, fun _ _ => ⟨?_, ?_⟩⟩
      · show (partOf (frankNoFack (raise s2 _ _) p) p).sent = none
        rw [partOf_of_pb (frankNoFack_evolves.pb_eq rfl), partOf_of_pb (raise_evolves.pb_eq rfl)]
        show (partOf (setPart u p (fun x => { x with sent := none, tries := 0 })) p).sent = none
        rw [partOf_setPart, if_pos rfl]
      · exact (flag_congr (rd_of_regs (frankNoFack_evolves.regs_eq rfl) _) _).trans (flag_raise _ _ _ (by decide))
  · rw [if_pos rfl]
    refine ⟨_, rfl, fun _ => ?_, fun h => absurd h (by simp), fun h => absurd h (by simp)⟩
    have hk := (holdKept_holdUpdate (s := setPart u p (fun x => { x with sent := none, tries := 0 })) (p := p) (q := p)).holdParts
    obtain ⟨-, hwire, -, hsent, -⟩ := hk
    constructor
    · show (partOf (frankNoFack _ p) p).sent = none
      rw [partOf_of_pb (frankNoFack_evolves.pb_eq rfl), hsent, partOf_setPart, if_pos rfl]
    · rw [frankNoFack_evolves.pb_eq rfl, hwire]
      exact hw

theorem cfgResend_results (die : DieIx) (index : Fin 256) (addr : Fin 64) (h : (dieOf s die.val).cfgs.any (fun c => c.index == index.val && c.addr == addr.val) = true)
    (hup : dieUp s die.val = true) :
    Runs (.cfgResend die index addr) s (fun t => (dieOf t die.val).cfgs = (dieOf s die.val).cfgs
      ∧ ∃ m : PlMsg, t.pb.wire = s.pb.wire ++ [m] ∧ m.die = die.val ∧ m.typ = 4 ∧ m.addr = addr.val) := by
  obtain ⟨c0, hc0, hp0⟩ := List.any_eq_true.1 h
  obtain ⟨c, hc⟩ := Option.isSome_iff_exists.1 ((List.find?_isSome (p := fun c : PendCfg => c.index == index.val && c.addr == addr.val)).2 ⟨c0, hc0, hp0⟩)
  have ha : c.addr = addr.val := by
    have := List.find?_some hc
    simp only [Bool.and_eq_true, beq_iff_eq] at this
    exact this.2
  show ∃ t, execCfgResend die index addr s = .next t ∧ _
  unfold execCfgResend
  extract_lets d
  rw [hc]
  dsimp -zeta only
  extract_lets s1
  refine ⟨_, rfl, ?_⟩
  have hpb : (if 0x80 ≤ c.index then raise (bump s1 Reg.FQ_CNT2 F.FQ_CNT2_RESENDS) Reg.FQ_EVENT F.FQ_EVENT_RESEND else s1).pb
      = (plSend s d 4 c.addr (c.index * 2 ^ 32 + c.value * 2 ^ 8)).pb := by
    have he : Evolves { regs := true } s1 (if 0x80 ≤ c.index then raise (bump s1 Reg.FQ_CNT2 F.FQ_CNT2_RESENDS) Reg.FQ_EVENT F.FQ_EVENT_RESEND else s1) :=
      .ite (bump_evolves.trans raise_evolves) .refl
    exact (he.pb_eq rfl).trans (bump_evolves.pb_eq rfl)
  constructor
  · rw [dieOf_of_pb hpb]
    exact cfgs_plSend
  · rw [hpb]
    unfold plSend
    rw [if_pos hup]
    exact ⟨_, rfl, rfl, rfl, ha⟩

theorem postlineCrc_results (die : DieIx) (hup : dieUp s die.val = true) :
    Runs (.postlineCrcError die 1 false) s (fun t => flag t (Reg.PB_DIE_EVENT die.val) F.PB_DIE_EVENT_CRC = true) := by
  refine ⟨_, rfl, ?_⟩
  unfold postlineBad
  extract_lets u s1 s2 s3 s4 ts
  rw [if_pos hup, if_neg (by simp)]
  have h1 : dieUp s1 die.val = true := (dieUp_of_link (congrArg DieSt.link (dieOf_of_pb ((bump_evolves.pb_eq rfl).trans (raise_evolves.pb_eq rfl)) _))).trans hup
  have f1 : flag s1 (Reg.PB_DIE_EVENT die.val) F.PB_DIE_EVENT_CRC = true :=
    (RdBut.flag_eq (bump_rdBut1 (b := Reg.PB_ERR_CNT 0) (p := 0x40) (k := die.val)) _ (misses_fin (g := Reg.PB_DIE_EVENT) (by decide +kernel) die)).trans
      (flag_raise _ _ _ (by decide))
  clear_value s1
  have h3 : s3 = s2 := if_neg (by decide)
  have h2 : dieUp s2 die.val = true := by
    refine (dieUp_of_link ?_).trans h1
    show (dieOf (setDie s1 die.val (fun x => { x with crcTimes := (now s1 :: x.crcTimes).take 16 })) die.val).link = _
    rw [dieOf_setDie, if_pos rfl]
  have f2 : flag s2 (Reg.PB_DIE_EVENT die.val) F.PB_DIE_EVENT_CRC = true := f1
  clear_value s2 s3
  subst h3
  have h4 : dieUp s4 die.val = true := (dieUp_of_link (congrArg DieSt.link (dieOf_of_pb (boundaryFail_evolves.pb_eq rfl) _))).trans h2
  have f4 : flag s4 (Reg.PB_DIE_EVENT die.val) F.PB_DIE_EVENT_CRC = true :=
    (boundaryFail_rdBut.flag_eq _ (misses_fin (g := Reg.PB_DIE_EVENT) (by decide +kernel) die)).trans f2
  clear_value s4
  split
  · exact (laneFailure_results die h4).2 _ (by decide) f4
  · exact f4

theorem postlineGap_results (die : DieIx) (hup : dieUp s die.val = true) :
    Runs (.postlineCrcError die 0 true) s (fun t => flag t (Reg.PB_DIE_EVENT die.val) F.PB_DIE_EVENT_SEQ_GAP = true ∧ (dieOf t die.val).nakWait = true) := by
  refine ⟨_, rfl, ?_⟩
  unfold postlineBad
  extract_lets u s1 s2 s3 s4 ts
  rw [if_pos hup, if_pos rfl, if_pos (by rfl)]
  constructor
  · exact (flag_congr (rd_of_regs (nakSend_evolves.regs_eq rfl) _) _).trans (flag_raise _ _ _ (by decide))
  · unfold nakSend
    have h := congrArg DieSt.nakWait ((plKept_plSend (s := setDie (raise u (Reg.PB_DIE_EVENT die.val) F.PB_DIE_EVENT_SEQ_GAP) die.val (fun x => { x with nakWait := true }))
      (d := die.val) (typ := 6) (addr := 0x3F) (data := (dieOf (raise u (Reg.PB_DIE_EVENT die.val) F.PB_DIE_EVENT_SEQ_GAP) die.val).rxSeq * 2 ^ 34)).dieKept die.val)
    refine Eq.trans h ?_
    show (dieOf (setDie _ die.val _) die.val).nakWait = true
    rw [dieOf_setDie, if_pos rfl]

end

/-- Settles O36: each report and event of a Postline writes the fields of its row, and what the BX1200 sends down the lane for it moves SEQ, the CFGs
awaited and the wire alone. -/
theorem postlineResults : Obligations.PostlineResults :=
  ⟨⟨fun die seq part n stamp _ => fack_results die seq part n stamp, fun die seq site v stamp _ => vmin_results die seq site v stamp,
    fun die seq index addr c _ => cfgAck_results die seq index addr c,
    fun die seq site _ h => ⟨coreOff_results die seq site h, coreOn_results die seq site h, calOk_results die seq site h, calFail_results die seq site h,
      siteFault_results die seq site h⟩,
    fun die site v stamp _ h => ⟨temp_results die site v stamp h, cpm_results die site v stamp h⟩, fun die site extra events _ => stretch_results die site extra events,
    fun die site e _ => bale_results die site e⟩,
   fun die lDown lUp _ => trainingDone_results die lDown lUp, fun die lock _ => upLaneFailure_results die lock, fun die _ => downLoss_results die,
   fun die _ => fallbackRetrain_results die, fun d _ => tsyncSends d, fun part n _ => freqResend_results part n,
   fun die index addr _ => cfgResend_results die index addr, fun die _ h => ⟨postlineCrc_results die h, postlineGap_results die h⟩⟩

end Sys2Proof.Machine
end

section
/-! PROOF. The words of a budget bank, its flags and CHECK, and the two banks of the table. -/

namespace Sys2Proof.Machine
open Host
set_option Elab.async false

/-! ## Words -/

section
variable {b c : Tab Word} {i j k v n m : Nat}

theorem bw_lt : bw b i < 2 ^ 32 := (tabGet 0 b i).isLt

theorem bw_setBw : bw (setBw b i v) j = if i = j then v % 2 ^ 32 else bw b j := by
  unfold bw setBw
  rw [tabGet_tabSet]
  split
  · exact BitVec.toNat_ofNat _ _
  · rfl

theorem bw_setBw_same : bw (setBw b i v) i = v % 2 ^ 32 := by rw [bw_setBw, if_pos rfl]

theorem bw_setBw_ne (h : i ≠ j) : bw (setBw b i v) j = bw b j := by rw [bw_setBw, if_neg h]

theorem bw_setBw64_ne (h0 : i ≠ j) (h1 : i + 1 ≠ j) : bw (setBw64 b i v) j = bw b j := by
  unfold setBw64
  rw [bw_setBw_ne h1, bw_setBw_ne h0]

theorem btNode_setBw64_same (h : v < 2 ^ 64) : btNode (setBw64 b (16 + 2 * n) v) n = v := by
  unfold btNode setBw64
  rw [bw_setBw_ne (by omega), bw_setBw_same, show 17 + 2 * n = 16 + 2 * n + 1 by omega, bw_setBw_same]
  omega

theorem btNode_congr (h : ∀ j, 16 ≤ j → j < 2064 → bw c j = bw b j) (hn : n < 1024) : btNode c n = btNode b n := by
  unfold btNode
  rw [h _ (by omega) (by omega), h _ (by omega) (by omega)]

theorem btNode_setBw64_ne (h : m ≠ n) : btNode (setBw64 b (16 + 2 * m) v) n = btNode b n := by
  unfold btNode
  rw [bw_setBw64_ne (by omega) (by omega), bw_setBw64_ne (by omega) (by omega)]

/-- A header changes the words below 6 alone. -/
theorem bw_btHeader {e mepoch mnode : Nat} (h : 6 ≤ j) : bw (btHeader b e mepoch mnode) j = bw b j := by
  unfold btHeader
  rw [bw_setBw_ne (by omega), bw_setBw_ne (by omega), bw_setBw64_ne (by omega) (by omega), bw_setBw64_ne (by omega) (by omega)]

/-! ## Flags and CHECK -/

theorem bitOf_flag (k : Nat) : bitOf (btFlags b) k = (bw b 5).testBit (16 + k) := by
  unfold bitOf btFlags
  rw [Nat.testBit_div_two_pow, Nat.add_comm]

theorem bw_btFlagSet (h : 5 ≠ j) : bw (btFlagSet b k) j = bw b j := bw_setBw_ne h

theorem bitOf_btFlagSet (hk : k < 16) : bitOf (btFlags (btFlagSet b k)) m = (bitOf (btFlags b) m || decide (m = k)) := by
  rw [bitOf_flag, bitOf_flag]
  unfold btFlagSet
  rw [bw_setBw_same, Nat.mod_eq_of_lt (Nat.or_lt_two_pow bw_lt (Nat.pow_lt_pow_right (by decide) (by omega))), Nat.testBit_or, Nat.testBit_two_pow]
  congr 1
  exact decide_eq_decide.2 (by omega)

theorem flags_congr (h : bw c 5 = bw b 5) : btFlags c = btFlags b := by
  unfold btFlags
  rw [h]

theorem crcByte_lt {x : Nat} {y : Byte} (h : x < 2 ^ 32) : crcByte x y < 2 ^ 32 := by
  have hbit {z : Nat} (hz : z < 2 ^ 32) : crcBit z < 2 ^ 32 := by
    unfold crcBit
    split
    · exact Nat.xor_lt_two_pow (by omega) (by decide)
    · omega
  have hy : y.toNat < 2 ^ 32 := lt_trans y.isLt (by decide)
  unfold crcByte
  exact hbit (hbit (hbit (hbit (hbit (hbit (hbit (hbit (Nat.xor_lt_two_pow h hy))))))))

theorem crc32c_lt (l : List Byte) : crc32c l < 2 ^ 32 := by
  unfold crc32c
  refine Nat.xor_lt_two_pow ?_ (by decide)
  have h : ∀ (l : List Byte) (x : Nat), x < 2 ^ 32 → l.foldl crcByte x < 2 ^ 32 := by
    intro l
    induction l with
    | nil => exact fun _ hx => hx
    | cons y l ih => exact fun x hx => ih _ (crcByte_lt hx)
  exact h l _ (by decide)

/-- CHECK reads every word but its own. -/
theorem btCheck_congr (h : ∀ j, j ≠ 15 → bw c j = bw b j) : btCheck c = btCheck b := by
  have hj : ∀ j ∈ List.range 15 ++ (List.range (btWords - 16)).map (· + 16), j ≠ 15 := by
    intro j hj
    rcases List.mem_append.1 hj with hj | hj
    · have := List.mem_range.1 hj
      omega
    · obtain ⟨x, -, rfl⟩ := List.mem_map.1 hj
      omega
  have hb : (List.range 15 ++ (List.range (btWords - 16)).map (· + 16)).flatMap (fun i => leBytes 4 (bw c i))
      = (List.range 15 ++ (List.range (btWords - 16)).map (· + 16)).flatMap (fun i => leBytes 4 (bw b i)) :=
    List.flatMap_congr fun j hm => by rw [h j (hj j hm)]
  unfold btCheck
  rw [hb]

theorem bw_btSetCheck_ne (h : 15 ≠ j) : bw (btSetCheck b) j = bw b j := bw_setBw_ne h

theorem bw_btSetCheck : bw (btSetCheck b) 15 = btCheck (btSetCheck b) := by
  rw [btCheck_congr (c := btSetCheck b) (b := b) fun j hj => bw_btSetCheck_ne (Ne.symm hj)]
  exact bw_setBw_same.trans (Nat.mod_eq_of_lt (crc32c_lt _))

end

/-! ## The two banks -/

section
variable {s t : State} {b : Tab Word}

theorem actBt_of_bt (h : t.bt = s.bt) : actBt t = actBt s := by
  unfold actBt
  rw [h]

theorem pendBt_of_bt (h : t.bt = s.bt) : pendBt t = pendBt s := by
  unfold pendBt
  rw [h]

theorem pendBt_setPendBt : pendBt (setPendBt s b) = b := by
  unfold pendBt setPendBt
  cases h : s.bt.active1 <;> simp [h]

theorem actBt_setPendBt : actBt (setPendBt s b) = actBt s := by
  unfold actBt setPendBt
  cases h : s.bt.active1 <;> simp [h]

theorem actBt_setActBt : actBt (setActBt s b) = b := by
  unfold actBt setActBt
  cases h : s.bt.active1 <;> simp [h]

/-- What a write of a bank keeps of the table. -/
def btKept (s : State) : Bool × Bool × Nat × Nat := (s.bt.active1, s.bt.floors, s.bt.stale, s.bt.last)

theorem btKept_setPendBt : btKept (setPendBt s b) = btKept s := by
  unfold setPendBt
  split <;> rfl

theorem btKept_setActBt : btKept (setActBt s b) = btKept s := by
  unfold setActBt
  split <;> rfl

/-- The table but the pending bank. -/
def btRest (s : State) : Tab Word × Bool × Bool × Nat × Nat := (actBt s, btKept s)

theorem btRest_setPendBt : Shows btRest s (setPendBt s b) := Prod.ext actBt_setPendBt btKept_setPendBt

theorem btRest_of_bt (h : t.bt = s.bt) : Shows btRest s t := by
  show btRest t = btRest s
  unfold btRest btKept
  rw [actBt_of_bt h, h]

theorem Shows.actBt (h : Shows btRest s t) : actBt t = actBt s := (congrArg (fun x : Tab Word × Bool × Bool × Nat × Nat => x.1) h.eq :)

theorem Shows.active1 (h : Shows btRest s t) : t.bt.active1 = s.bt.active1 := (congrArg (fun x : Tab Word × Bool × Bool × Nat × Nat => x.2.1) h.eq :)

/-! ## Sealing -/

/-- A bank that the engine seals: with both flags it becomes sealed under its CHECK, else it stays. -/
theorem sealTry_results : Shows btRest s (sealTry s) ∧ btComplete (pendBt (sealTry s)) = btComplete (pendBt s) ∧ btLocal (pendBt (sealTry s)) = btLocal (pendBt s)
    ∧ btSealed (pendBt (sealTry s)) = (btSealed (pendBt s) || btComplete (pendBt s) && btLocal (pendBt s))
    ∧ (btComplete (pendBt s) = true → btLocal (pendBt s) = true → btSealed (pendBt s) = false → bw (pendBt (sealTry s)) 15 = btCheck (pendBt (sealTry s)))
    ∧ ∀ j, j ≠ 5 → j ≠ 15 → bw (pendBt (sealTry s)) j = bw (pendBt s) j := by
  unfold sealTry
  extract_lets b
  split
  next h =>
    rw [pendBt_setPendBt]
    have hf : btFlags (btSetCheck (btFlagSet b 0)) = btFlags (btFlagSet b 0) := flags_congr (bw_btSetCheck_ne (by decide))
    simp only [Bool.and_eq_true, Bool.not_eq_true'] at h
    obtain ⟨⟨hc, hl⟩, hs⟩ := h
    refine ⟨btRest_setPendBt, ?_, ?_, ?_, fun _ _ _ => bw_btSetCheck, fun j h5 h15 => ?_⟩
    · unfold btComplete
      rw [hf, bitOf_btFlagSet (by decide)]
      simp [b]
    · unfold btLocal
      rw [hf, bitOf_btFlagSet (by decide)]
      simp [b]
    · rw [hc, hl]
      unfold btSealed
      rw [hf, bitOf_btFlagSet (by decide)]
      simp
    · rw [bw_btSetCheck_ne (Ne.symm h15), bw_btFlagSet (Ne.symm h5)]
  next h =>
    refine ⟨.refl, rfl, rfl, ?_, fun hc hl hs => absurd (by simp [b, hc, hl, hs]) h, fun _ _ _ => rfl⟩
    show btSealed b = (btSealed b || btComplete b && btLocal b)
    cases hc : btComplete b <;> cases hl : btLocal b <;> cases hs : btSealed b <;> simp_all

end

end Sys2Proof.Machine
end

section
/-! PROOF. The budget table and the budget epochs of a node (O17). -/

namespace Sys2Proof.Machine
open Host
set_option Elab.async false

section
variable {s t : State}

/-! ## The tick of an epoch -/

theorem setSegs_bt {act : Bool} {g : SegSet} : (setSegs s act g).bt = s.bt := setSegs_evolves.bt_eq rfl

theorem btPrepare_results (e : Nat) : Shows btRest s (btPrepare s e) ∧ (inDomain s = true → pendBt (btPrepare s e) = [])
    ∧ (inDomain s = false → pendBt (btPrepare s e) = btFlagSet (btHeader [] e 0 0xFFFF) 1) := by
  unfold btPrepare
  extract_lets u
  have hu : Evolves { dom := true } s u := setSegs_evolves
  have hr : Shows btRest s u := btRest_of_bt (hu.bt_eq rfl)
  rw [← inDomain_of_img (hu.img_eq rfl)]
  cases inDomain u
  · rw [if_neg (by simp)]
    exact ⟨hr.trans btRest_setPendBt, fun h => absurd h (by simp), fun _ => pendBt_setPendBt⟩
  · rw [if_pos rfl]
    exact ⟨hr.trans btRest_setPendBt, fun _ => pendBt_setPendBt, fun h => absurd h (by simp)⟩

theorem btValid_of_bt (h : t.bt = s.bt) (e : Nat) : btValid t e = btValid s e := by
  unfold btValid
  rw [pendBt_of_bt h]

/-- What the tick of epoch `e` leaves of the table. -/
theorem btTick_results (e : Nat) : (btTick s e).bt.last = e
    ∧ (btValid s e = true → s.img.domStale = false → (btTick s e).bt.active1 = !s.bt.active1 ∧ (btTick s e).bt.stale = 0 ∧ (btTick s e).bt.floors = false
      ∧ actBt (btTick s e) = pendBt s)
    ∧ (btValid s e = false → (btTick s e).bt.active1 = s.bt.active1 ∧ (btTick s e).bt.stale = min (s.bt.stale + 1) 255 ∧ (btTick s e).bt.floors = s.bt.floors
      ∧ actBt (btTick s e) = actBt s)
    ∧ (inDomain s = true → pendBt (btTick s e) = [])
    ∧ (inDomain s = false → pendBt (btTick s e) = btFlagSet (btHeader [] (e + 1) 0 0xFFFF) 1) := by
  unfold btTick
  extract_lets _ _ s1 _ s2 _ s3 s4
  have v1 : btValid s1 e = btValid s e := rfl
  have d1 : s1.img.domStale = s.img.domStale := rfl
  rw [v1, d1]
  by_cases hv : (btValid s e && !s.img.domStale) = true
  · rw [if_pos hv]
    have hc : Evolves { regs := true } s2 (capture s2 0x0F false (now s2)) := capture_evolves
    obtain ⟨hr, hp, hn⟩ := btPrepare_results (s := capture s2 0x0F false (now s2)) (e + 1)
    rw [inDomain_of_img (hc.img_eq rfl)] at hp hn
    have hrest : Shows btRest s2 (btPrepare (capture s2 0x0F false (now s2)) (e + 1)) := (btRest_of_bt (hc.bt_eq rfl)).trans hr
    have hk := congrArg (fun x : Tab Word × Bool × Bool × Nat × Nat => x.2) hrest.eq
    have hkept : btKept (btPrepare (capture s2 0x0F false (now s2)) (e + 1)) = (!s.bt.active1, false, 0, e) := hk
    unfold btKept at hkept
    simp only [Prod.mk.injEq] at hkept
    obtain ⟨ha, hf, hs, hl⟩ := hkept
    have hact : actBt s2 = pendBt s := by
      show (if (!s.bt.active1) = true then s.bt.bank1 else s.bt.bank0) = pendBt s
      unfold pendBt
      cases s.bt.active1 <;> rfl
    refine ⟨hl, fun _ _ => ⟨ha, hs, hf, hrest.actBt.trans hact⟩, fun h => ?_, hp, hn⟩
    rw [h] at hv
    exact absurd hv (by simp)
  · rw [if_neg hv]
    have hc : Evolves { regs := true, drain := true, recd := true } s3 (record s4 .mgmt 0x03 0x04 0 0 e (e * 1000000)) :=
      (bump_evolves.mono : Evolves { regs := true, drain := true, recd := true } s3 s4).trans record_evolves
    obtain ⟨hr, hp, hn⟩ := btPrepare_results (s := record s4 .mgmt 0x03 0x04 0 0 e (e * 1000000)) (e + 1)
    rw [inDomain_of_img (hc.img_eq rfl)] at hp hn
    have hrest : Shows btRest s3 (btPrepare (record s4 .mgmt 0x03 0x04 0 0 e (e * 1000000)) (e + 1)) := (btRest_of_bt (hc.bt_eq rfl)).trans hr
    have hk := congrArg (fun x : Tab Word × Bool × Bool × Nat × Nat => x.2) hrest.eq
    have hkept : btKept (btPrepare (record s4 .mgmt 0x03 0x04 0 0 e (e * 1000000)) (e + 1)) = (s.bt.active1, s.bt.floors, min (s.bt.stale + 1) 255, e) := hk
    unfold btKept at hkept
    simp only [Prod.mk.injEq] at hkept
    obtain ⟨ha, hf, hs, hl⟩ := hkept
    refine ⟨hl, fun h1 h2 => absurd (by rw [h1, h2]; rfl) hv, fun _ => ⟨ha, hs, hf, hrest.actBt⟩, hp, hn⟩

theorem budgetEpochTick_results (happ : s.img.applied = true) (hrun : s.tb.running = true) :
    let e := max (s.bt.last + 1) (now s / 1000000)
    let v := commitsDue (s.top.commits.length + 1) (e * 1000000) s
    Runs .budgetEpochTick s (fun t => t.bt.last = e
      ∧ (btValid v e = true → v.img.domStale = false → t.bt.active1 = !v.bt.active1 ∧ t.bt.stale = 0 ∧ t.bt.floors = false ∧ actBt t = pendBt v)
      ∧ (btValid v e = false → t.bt.active1 = v.bt.active1 ∧ t.bt.stale = min (v.bt.stale + 1) 255 ∧ t.bt.floors = v.bt.floors ∧ actBt t = actBt v)
      ∧ (inDomain v = true → pendBt t = []) ∧ (inDomain v = false → pendBt t = btFlagSet (btHeader [] (e + 1) 0 0xFFFF) 1)) := by
  intro e v
  show ∃ t, execBudgetEpochTick s = .next t ∧ _
  unfold execBudgetEpochTick
  rw [if_pos ⟨happ, hrun⟩]
  refine ⟨_, rfl, ?_⟩
  have hr : Evolves { tb := true } v (reach v (e * 1000000)) := reach_evolves
  have h := btTick_results (s := reach v (e * 1000000)) e
  rw [btValid_of_bt (hr.bt_eq rfl), hr.img_eq rfl, hr.bt_eq rfl, pendBt_of_bt (hr.bt_eq rfl), actBt_of_bt (hr.bt_eq rfl), inDomain_of_img (hr.img_eq rfl)] at h
  exact h

theorem staleFloors_results (h : 8 ≤ s.bt.stale) : Runs .staleEpochFloors s (fun t => t.bt.floors = true ∧ t = { s with bt := t.bt }) :=
  ⟨_, if_pos h, rfl, rfl⟩

/-! ## Sealing -/

theorem applyDerates_results : Shows btRest s (applyDerates s) ∧ ∀ j, (∀ p, j ≠ 0x810 + 4 * p + 1) → bw (pendBt (applyDerates s)) j = bw (pendBt s) j := by
  unfold applyDerates
  refine ⟨btRest_setPendBt, fun j hj => ?_⟩
  rw [pendBt_setPendBt]
  generalize parts s = l
  generalize pendBt s = b
  induction l generalizing b with
  | nil => rfl
  | cons p l ih =>
    rw [List.foldl_cons, ih]
    split
    next c on _ =>
      split
      · exact bw_setBw_ne (Ne.symm (hj p))
      · rfl

/-- What sealing the local section leaves of the table. -/
theorem localSealed_results (happ : s.img.applied = true) (hs : btSealed (pendBt s) = false) : Shows btRest s (localSealed s)
    ∧ btLocal (pendBt (localSealed s)) = true ∧ btSealed (pendBt (localSealed s)) = btComplete (pendBt s)
    ∧ (btComplete (pendBt s) = true → bw (pendBt (localSealed s)) 15 = btCheck (pendBt (localSealed s)))
    ∧ ∀ j, (∀ p, j ≠ 0x810 + 4 * p + 1) → j ≠ 5 → j ≠ 15 → bw (pendBt (localSealed s)) j = bw (pendBt s) j := by
  unfold localSealed
  rw [happ, hs, if_neg (by simp)]
  extract_lets u
  obtain ⟨hr, hw⟩ := applyDerates_results (s := s)
  have hfl : btFlags (pendBt u) = btFlags (pendBt s) := flags_congr (hw 5 fun p => by omega)
  set v := setPendBt u (btFlagSet (pendBt u) 2)
  have hv : pendBt v = btFlagSet (pendBt u) 2 := pendBt_setPendBt
  have hrv : Shows btRest u v := btRest_setPendBt
  obtain ⟨kr, -, kl, ks, kc, kw⟩ := sealTry_results (s := v)
  have hl : btLocal (pendBt v) = true := by
    unfold btLocal
    rw [hv, bitOf_btFlagSet (by decide)]
    simp
  have hc : btComplete (pendBt v) = btComplete (pendBt s) := by
    unfold btComplete
    rw [hv, bitOf_btFlagSet (by decide), hfl]
    simp
  have hsv : btSealed (pendBt v) = false := by
    unfold btSealed at hs ⊢
    rw [hv, bitOf_btFlagSet (by decide), hfl, hs]
    rfl
  rw [hl] at kl kc
  rw [hsv, hc, hl] at ks
  rw [hc, hsv] at kc
  refine ⟨hr.trans (hrv.trans kr), kl, by simpa using ks, fun h => kc h rfl rfl, fun j hj h5 h15 => ?_⟩
  rw [kw j h5 h15, hv, bw_btFlagSet (Ne.symm h5)]
  exact hw j hj

theorem seal_results (who : Initiator) (ha : admits s who Reg.DOM_BT_SEAL 1 = true) (happ : s.img.applied = true) (hs : btSealed (pendBt s) = false) :
    Runs (.localSealed who) s (fun t => btLocal (pendBt t) = true ∧ btSealed (pendBt t) = btComplete (pendBt s)
      ∧ (btComplete (pendBt s) = true → bw (pendBt t) 15 = btCheck (pendBt t)) ∧ actBt t = actBt s) := by
  refine ⟨_, congrArg Outcome.next (gated_of_admits _ _ _ _ _ ha), ?_⟩
  obtain ⟨hr, hl, hse, hc, -⟩ := localSealed_results (s := { s with resp := .none }) happ hs
  exact ⟨hl, hse, hc, hr.actBt⟩

/-! ## The demand of a node -/

/-- The demands of partitions as one fraction. -/
def demandSum (s : State) (l : List Nat) (q : Nat × Nat) : Nat × Nat :=
  l.foldl (fun a p => let d := partDemand s p; (a.1 * d.2 + d.1 * a.2, a.2 * d.2)) q

theorem demandSum_eq (l : List Nat) (q : Nat × Nat) (h : 0 < q.2) : 0 < (demandSum s l q).2
    ∧ ((demandSum s l q).1 : ℚ) / (demandSum s l q).2
      = (q.1 : ℚ) / q.2 + (l.map (fun p => ((fld s (Reg.CAP_PWR p) F.CAP_PWR_P * capReq s p : Nat) : ℚ) / ((max (curN s p) 1 : Nat) : ℚ))).sum := by
  induction l generalizing q with
  | nil => exact ⟨h, by simp [demandSum]⟩
  | cons p l ih =>
    have hd : 0 < (partDemand s p).2 := lt_of_lt_of_le Nat.one_pos (le_max_right _ _)
    obtain ⟨h2, he⟩ := ih (q.1 * (partDemand s p).2 + (partDemand s p).1 * q.2, q.2 * (partDemand s p).2) (Nat.mul_pos h hd)
    refine ⟨h2, he.trans ?_⟩
    rw [List.map_cons, List.sum_cons]
    have h0 : (q.2 : ℚ) ≠ 0 := by exact_mod_cast h.ne'
    have h1 : ((partDemand s p).2 : ℚ) ≠ 0 := by exact_mod_cast hd.ne'
    have hp : ((fld s (Reg.CAP_PWR p) F.CAP_PWR_P * capReq s p : Nat) : ℚ) / ((max (curN s p) 1 : Nat) : ℚ) = ((partDemand s p).1 : ℚ) / (partDemand s p).2 := rfl
    rw [hp]
    push_cast
    field_simp
    ring

theorem ceil_div (n : Int) (d : Nat) (h : 0 < d) : ⌈(n : ℚ) / d⌉ = -((-n).fdiv d) := by
  rw [Int.fdiv_eq_ediv_of_nonneg _ (by omega), ← Rat.floor_intCast_div_natCast, ← Int.ceil_neg]
  congr 1
  push_cast
  ring

theorem nodeDemand_eq : let x : ℚ := s.cap.pOther + ((parts s).map (fun p => ((fld s (Reg.CAP_PWR p) F.CAP_PWR_P * capReq s p : Nat) : ℚ) / ((max (curN s p) 1 : Nat) : ℚ))).sum
    (nodeDemand s : Int) = max 1 (min ⌈x⌉ 65535) := by
  intro x
  obtain ⟨hd, he⟩ := demandSum_eq (s := s) (parts s) (0, 1) Nat.one_pos
  have hx : x = ((s.cap.pOther * (demandSum s (parts s) (0, 1)).2 + (demandSum s (parts s) (0, 1)).1 : Int) : ℚ) / (demandSum s (parts s) (0, 1)).2 := by
    have h0 : ((demandSum s (parts s) (0, 1)).2 : ℚ) ≠ 0 := by exact_mod_cast hd.ne'
    push_cast
    rw [add_div, mul_div_cancel_right₀ _ h0, he]
    simp [x]
  rw [hx, ceil_div _ _ hd]
  show ((demandHeld (s.cap.pOther * (demandSum s (parts s) (0, 1)).2 + (demandSum s (parts s) (0, 1)).1) (demandSum s (parts s) (0, 1)).2 : Nat) : Int) = _
  unfold demandHeld
  generalize -((-(s.cap.pOther * ((demandSum s (parts s) (0, 1)).2 : Int) + ((demandSum s (parts s) (0, 1)).1 : Int))).fdiv ((demandSum s (parts s) (0, 1)).2 : Int)) = z
  omega

theorem nodeDemand_reach (k : Nat) : nodeDemand (reach s k) = nodeDemand s := by
  obtain ⟨b, hb⟩ := reach_form (s := s) k
  rw [hb]
  rfl

theorem demandStart_results (htp : takesPart s = true) (hred : s.tvl.red = []) (hdone : s.tvl.redDone = []) (hb : belowUp s ≠ [])
    (h0 : 0 < domNodesF (framesOf s)) (h512 : domNodesF (framesOf s) ≤ 512) (hown : ownNode s < 512) :
    let d := if s.dom.role = .joining then 0 else nodeDemand s
    Runs .demandReductionStart s (fun t => ∃ r : RedSt, t.tvl.red = [r] ∧ r.rid = nextEpoch s % 2 ^ 24 * 256 + 0x10 ∧ r.op = 0 ∧ r.contrib = 1
      ∧ r.elems.length = 128 ∧ r.elems.getD (ownNode s / 4) 0 = sext 64 (d * 2 ^ (16 * (ownNode s % 4)))
      ∧ ∀ k, k < 128 → k ≠ ownNode s / 4 → r.elems.getD k 0 = 0) := by
  intro d
  show ∃ t, execDemandReductionStart s = .next t ∧ _
  unfold execDemandReductionStart
  extract_lets e u d' own
  rw [if_pos htp]
  refine ⟨_, rfl, ?_⟩
  have hu : Evolves { tb := true } s u := reach_evolves
  have hd : d' = d := by
    show (if u.dom.role = .joining then 0 else nodeDemand u) = _
    rw [hu.dom_eq rfl, nodeDemand_reach]
  have ho : own = ownNode s := ownNode_of_img (hu.img_eq rfl)
  have hone : (domNodesF (framesOf u) + 511) / 512 = 1 := by
    rw [framesOf_of_img (hu.img_eq rfl)]
    omega
  have hbu : belowUp u ≠ [] := by rwa [belowUp_of (hu.img_eq rfl) (hu.regs_eq rfl) (congrArg TvlSt.lane (hu.tvl_eq rfl)) (hu.dom_eq rfl)]
  have hru : u.tvl.red = [] := by rw [hu.tvl_eq rfl, hred]
  have hdu : u.tvl.redDone = [] := by rw [hu.tvl_eq rfl, hdone]
  rw [hone]
  show ∃ r : RedSt, (redAdd u none (own, 0)
    { rid := e % 2 ^ 24 * 256 + 0x10 + 0, op := 0,
      elems := (List.range 128).map (fun l => if own / 4 = 128 * 0 + l then sext 64 (d' * 2 ^ (16 * (own % 4))) else 0), contrib := 1, partial_ := false, from_ := [], loc := false, openAt := 0 }).tvl.red = [r] ∧ _
  rw [redAdd_opens (by simp [hru]) (by simp [hdu]) (by simp [hru]) hbu, hru]
  rw [ho, hd]
  refine ⟨_, rfl, rfl, rfl, rfl, by simp [redOpened], ?_, fun k hk hne => ?_⟩
  · have hl : ownNode s / 4 < 128 := by omega
    simp [redOpened, List.getD_eq_getElem?_getD, hl]
  · simp only [redOpened, List.getD_eq_getElem?_getD, List.getElem?_map, List.getElem?_range hk, Option.map_some, Option.getD_some]
    exact if_neg (by omega)

/-! ## ALLOC_GO and the segments -/

theorem btFlags_complete {b : Tab Word} : btComplete (btFlagSet b 1) = true := by
  unfold btComplete
  rw [bitOf_btFlagSet (by decide)]
  simp

/-- A bank whose domain section is complete. -/
theorem completed_results : Shows btRest s (sealTry (setPendBt s (btFlagSet (pendBt s) 1)))
    ∧ btComplete (pendBt (sealTry (setPendBt s (btFlagSet (pendBt s) 1)))) = true := by
  obtain ⟨kr, kc, -, -, -, -⟩ := sealTry_results (s := setPendBt s (btFlagSet (pendBt s) 1))
  refine ⟨btRest_setPendBt.trans kr, kc.trans ?_⟩
  rw [pendBt_setPendBt]
  exact btFlags_complete

theorem allocGo_results (hr : domRoleNow s = .master) (hs : btSealed (pendBt s) = false) : Shows btRest s (allocGo s) ∧ btComplete (pendBt (allocGo s)) = true
    ∧ nextEpoch s ∈ (allocGo s).dom.goEpochs ∧ (allocGo s).dom.tripped = s.dom.tripped := by
  unfold allocGo
  rw [if_neg (by rw [hs]; simp [hr])]
  extract_lets e base b b' present segs g s1 s2 s3
  have h1 : Shows btRest s s1 := .trans (t := setPendBt s b') btRest_setPendBt (btRest_of_bt setSegs_bt)
  have d1 : s1.dom.tripped = s.dom.tripped := by
    dsimp only [s1]
    unfold setSegs setPendBt
    split <;> split <;> rfl
  clear_value s1
  have h2 : Shows btRest s1 s2 := btRest_of_bt rfl
  have m2 : nextEpoch s ∈ s2.dom.goEpochs := List.mem_cons_self
  have d2 : s2.dom.tripped = s1.dom.tripped := rfl
  clear_value s2
  have e3 : Evolves { regs := true, drain := true, recd := true, tvl := true } s2 s3 := .forEach fun _ _ => postFrame_evolves
  clear_value s3
  obtain ⟨kr, kc⟩ := completed_results (s := s3)
  have e4 : Evolves { bt := true } s3 (sealTry (setPendBt s3 (btFlagSet (pendBt s3) 1))) := setPendBt_evolves.trans sealTry_evolves
  refine ⟨h1.trans (h2.trans ((btRest_of_bt (e3.bt_eq rfl)).trans kr)), kc, ?_, ?_⟩
  · rw [e4.dom_eq rfl, e3.dom_eq rfl]
    exact m2
  · rw [e4.dom_eq rfl, e3.dom_eq rfl, d2, d1]

theorem allocGo_idle (hr : domRoleNow s ≠ .master) : Runs .allocGo s (fun t => t = s) := ⟨_, rfl, if_pos (.inl hr)⟩

theorem allocGo_completes (hr : domRoleNow s = .master) (hs : btSealed (pendBt s) = false) :
    Runs .allocGo s (fun t => btComplete (pendBt t) = true ∧ nextEpoch s ∈ t.dom.goEpochs ∧ t.bt.active1 = s.bt.active1 ∧ actBt t = actBt s) := by
  obtain ⟨h, hc, hm, -⟩ := allocGo_results hr hs
  exact ⟨_, rfl, hc, hm, h.active1, h.actBt⟩

end

end Sys2Proof.Machine
end

section
/-! PROOF. The allocation of a node, the segments of its master, and the comparison of the banks. -/

namespace Sys2Proof.Machine
open Host
set_option Elab.async false

section
variable {s t : State}

/-! ## The allocation of a master -/

theorem allocationCompute_results (hr : domRoleNow s = .master) (hs : btSealed (pendBt s) = false) :
    Runs .allocationCompute s (fun t => btComplete (pendBt t) = true ∧ nextEpoch s ∈ t.dom.goEpochs ∧ t.dom.tripped = [] ∧ actBt t = actBt s) := by
  show ∃ t, execAllocationCompute s = .next t ∧ _
  unfold execAllocationCompute
  extract_lets f e s1 mem dem s2 res budget act ramp bm
  rw [if_neg (by simp [hr])]
  generalize allocate (if budget = 0 then none else some (budget - (res.map (fun p => p.2)).sum)) act = al
  obtain ⟨sh, tight⟩ := al
  dsimp -zeta only
  extract_lets all total entry s3 s4 s5
  refine ⟨_, rfl, ?_⟩
  have e1 : Evolves { tb := true } s s1 := reach_evolves
  clear_value s1 mem dem
  have e2 : Evolves { tb := true, dom := true } s s2 := e1.mono.trans setDom_evolves.mono
  have r2 : s2.dom.role = s1.dom.role := rfl
  rw [e1.dom_eq rfl] at r2
  clear_value s2
  have e4 : Evolves { regs := true, fwc := true } s2 s4 := .trans (t := s3) (.ite raise_evolves.mono .refl) memWrite_evolves.mono
  clear_value s3 s4
  have t5 : s5.dom.tripped = [] := rfl
  have r5 : s5.dom.role = s4.dom.role := rfl
  have b5 : s5.bt = s4.bt := rfl
  have p5 : s5.top = s4.top := rfl
  clear_value s5
  have e6 : Evolves { regs := true, tvl := true } s5 (takeResults s5 ((List.range 2).map (fun k => e % 2 ^ 24 * 256 + 0x10 + k))) := takeResults_evolves
  generalize takeResults s5 ((List.range 2).map (fun k => e % 2 ^ 24 * 256 + 0x10 + k)) = u at e6
  have hbt : u.bt = s.bt := (e6.bt_eq rfl).trans (b5.trans ((e4.bt_eq rfl).trans (e2.bt_eq rfl)))
  have hru : domRoleNow u = .master := by
    rw [domRoleNow_of (s := s)]
    · exact hr
    · exact congrArg TopSt.state ((e6.top_eq rfl).trans (p5.trans ((e4.top_eq rfl).trans (e2.top_eq rfl))))
    · exact (congrArg DomSt.role (e6.dom_eq rfl)).trans (r5.trans ((congrArg DomSt.role (e4.dom_eq rfl)).trans r2))
  obtain ⟨h, hc, hm, ht⟩ := allocGo_results hru (by rw [pendBt_of_bt hbt]; exact hs)
  have hn : nextEpoch u = nextEpoch s := by
    unfold nextEpoch
    rw [hbt]
  refine ⟨hc, hn ▸ hm, ?_, h.actBt.trans (actBt_of_bt hbt)⟩
  rw [ht, e6.dom_eq rfl, t5]

/-- What the comparison of a bank leaves of the other, and of the table. -/
theorem btCompare_pending : Shows btRest s (btCompare s false false).1 ∧ (btCompare s false false).2 = true := by
  unfold btCompare
  extract_lets g b bad hdrDead want want' fixed fixed' fixed'' hdrLive isLive s1 s2 s3 fault
  split
  · exact ⟨.refl, rfl⟩
  · split
    · exact ⟨btRest_of_bt rfl, rfl⟩
    · have e1 : Evolves { regs := true, drain := true, recd := true } s s1 := .forEach fun _ _ => divergence_evolves
      have e2 : Evolves { regs := true, drain := true, recd := true } s1 s2 := .ite divergence_evolves .refl
      have h3 : Shows btRest s2 s3 := btRest_setPendBt
      clear_value s1 s2 s3
      have h4 : Shows btRest s3 (setDom s3 (fun d => { d with differs := fault })) := btRest_of_bt rfl
      exact ⟨(btRest_of_bt (e1.bt_eq rfl)).trans ((btRest_of_bt (e2.bt_eq rfl)).trans (h3.trans h4)), rfl⟩

theorem domComplete_results : Shows btRest s (domComplete s) ∧ btComplete (pendBt (domComplete s)) = true := by
  unfold domComplete
  obtain ⟨hr, ho⟩ := btCompare_pending (s := s)
  generalize btCompare s false false = p at hr ho
  obtain ⟨u, ok⟩ := p
  dsimp only at hr ho ⊢
  rw [ho]
  cases hc : btComplete (pendBt u)
  · rw [if_pos (by rfl)]
    obtain ⟨kr, kc⟩ := completed_results (s := u)
    exact ⟨hr.trans kr, kc⟩
  · rw [if_neg (by simp)]
    exact ⟨hr, hc⟩

/-- The bank of a segment: its entries written in order. -/
def segBank (b : Tab Word) (first : Nat) (entries : List (BitVec 64)) (m : Nat) : Tab Word :=
  (List.range m).foldl (fun b i => if first + i < 1024 then setBw64 b (16 + 2 * (first + i)) (nodeEntry (entries.getD i 0).toNat) else b) b

theorem nodeEntry_lt {e : Nat} (h : e < 2 ^ 64) : nodeEntry e < 2 ^ 64 := by
  unfold nodeEntry
  split
  · exact h
  · decide

theorem btNode_segBank {b : Tab Word} {first m i : Nat} {entries : List (BitVec 64)} (hi : i < m) (hlt : first + i < 1024) :
    btNode (segBank b first entries m) (first + i) = nodeEntry (entries.getD i 0).toNat := by
  unfold segBank
  induction m with
  | zero => omega
  | succ m ih =>
    rw [List.range_succ, List.foldl_append, List.foldl_cons, List.foldl_nil]
    by_cases he : i = m
    · subst he
      rw [if_pos hlt]
      exact btNode_setBw64_same (nodeEntry_lt (BitVec.isLt _))
    · split
      · rw [btNode_setBw64_ne (by omega)]
        exact ih (by omega)
      · exact ih (by omega)

theorem alloc_results (src : Fin 1024) (epoch : Fin (2 ^ 32)) (bepoch first seg nseg : Nat) (entries : List (BitVec 64))
    (hn : s.dom.role ≠ .none_) (hm : s.dom.role ≠ .master) (he : s.dom.mepoch = epoch.val) :
    Runs (.alloc src epoch bepoch first seg nseg entries) s (fun t => t.bt.active1 = s.bt.active1 ∧ actBt t = actBt s
      ∧ (s.dom.master ≠ src.val → t.bt = s.bt ∧ flag t Reg.DOM_EVENT F.DOM_EVENT_STALE_SRC = true)
      ∧ (s.dom.master = src.val → bepoch ≠ nextEpoch s → t.bt = s.bt)
      ∧ (s.dom.master = src.val → bepoch = nextEpoch s → btSealed (pendBt s) = false → seg ∉ (segsOf s false).got →
          ((segsOf s false).got.length + 1 < nseg → ∀ i, i < entries.length → first + i < 1024 → btNode (pendBt t) (first + i) =
              if bitOf (entries.getD i 0).toNat 63 then (entries.getD i 0).toNat else 0)
          ∧ (nseg ≤ (segsOf s false).got.length + 1 → btComplete (pendBt t) = true))) := by
  show ∃ t, execAlloc src epoch bepoch first seg nseg entries s = .next t ∧ _
  unfold execAlloc
  extract_lets u b s1 g g' s2
  have hu : Evolves { tvl := true } s u := takeRx_evolves
  have hd : u.dom = s.dom := hu.dom_eq rfl
  have hb : u.bt = s.bt := hu.bt_eq rfl
  rw [if_neg (by rw [hd, he]; simp [hn])]
  have hf : fromMaster u src.val = (src.val == s.dom.master) := by
    unfold fromMaster
    rw [hd]
    simp [hn]
  rw [hf]
  by_cases hms : s.dom.master = src.val
  · rw [if_neg (by simp [hms])]
    by_cases hc : u.dom.role = .master ∨ bepoch ≠ nextEpoch u ∨ btSealed (pendBt u) = true
    · rw [if_pos hc]
      refine ⟨_, rfl, congrArg BudgetSt.active1 hb, actBt_of_bt hb, fun h => absurd hms h, fun _ _ => hb, fun _ h1 h2 _ => ?_⟩
      have hne : nextEpoch u = nextEpoch s := by
        unfold nextEpoch
        rw [hb]
      rw [hd, pendBt_of_bt hb, hne, h2] at hc
      exact absurd hc (by simp [hm, h1])
    · rw [if_neg hc]
      have h1 : Shows btRest u s1 := btRest_setPendBt
      have p1 : pendBt s1 = btHeader b bepoch epoch.val src.val := pendBt_setPendBt
      have hg : g.got = (segsOf s false).got := by
        show (segsOf (setPendBt u _) false).got = _
        unfold segsOf setPendBt
        rw [hb, hd]
        split <;> rfl
      clear_value s1
      have h2 : Shows btRest s1 s2 := btRest_of_bt setSegs_bt
      have p2 : pendBt s2 = pendBt s1 := pendBt_of_bt setSegs_bt
      have hgot : seg ∉ (segsOf s false).got → g'.got.length = (segsOf s false).got.length + 1 := by
        intro hseg
        show (if g.got.contains seg then g.got else g.got ++ [seg]).length = _
        rw [hg, if_neg (by simpa using hseg)]
        simp
      have hrest : Shows btRest s s2 := (btRest_of_bt hb).trans (h1.trans h2)
      clear_value s2
      obtain ⟨kr, kc⟩ := domComplete_results (s := s2)
      have hall : Shows btRest s (if nseg ≤ g'.got.length then domComplete s2 else s2) := .both (hrest.trans kr) hrest
      have hne : nextEpoch u = nextEpoch s := by
        unfold nextEpoch
        rw [hb]
      refine ⟨_, rfl, hall.active1, hall.actBt, fun h => absurd hms h, fun _ h => absurd (.inr (.inl (by rwa [hne]))) hc, fun _ _ _ hseg => ⟨fun hlt i hi hfi => ?_, fun hle => ?_⟩⟩
      · rw [if_neg (by rw [hgot hseg]; omega), p2, p1, btNode_congr (fun j hj _ => bw_btHeader (by omega)) hfi]
        exact btNode_segBank hi hfi
      · rw [if_pos (by rw [hgot hseg]; exact hle)]
        exact kc
  · rw [if_pos (by simpa using fun h => hms h.symm)]
    have hk : (staleSrc u src.val).bt = s.bt := (staleSrc_evolves.bt_eq rfl).trans hb
    refine ⟨_, rfl, congrArg BudgetSt.active1 hk, actBt_of_bt hk, fun _ => ⟨hk, ?_⟩, fun h => absurd h hms, fun h => absurd h hms⟩
    unfold staleSrc
    exact (record_rdBut.flag_eq _).trans (flag_raise _ _ _ (by decide))

/-! ## The local section -/

/-- The bank with the shares of the partitions. -/
def splitBank (b : Tab Word) (bm : Nat) (sh : List (Want × Nat)) : Tab Word :=
  sh.foldl (fun b p => setBw (setBw (setBw b (0x810 + 4 * p.1.id) (p.2 + p.1.floor * 2 ^ 16)) (0x810 + 4 * p.1.id + 1) 1024) (0x810 + 4 * p.1.id + 2) bm) b

theorem bw_splitBank_out {b : Tab Word} {bm : Nat} {sh : List (Want × Nat)} {j : Nat}
    (h : ∀ p ∈ sh, j ≠ 0x810 + 4 * p.1.id ∧ j ≠ 0x810 + 4 * p.1.id + 1 ∧ j ≠ 0x810 + 4 * p.1.id + 2) : bw (splitBank b bm sh) j = bw b j := by
  unfold splitBank
  induction sh generalizing b with
  | nil => rfl
  | cons p sh ih =>
    obtain ⟨h0, h1, h2⟩ := h p List.mem_cons_self
    rw [List.foldl_cons, ih fun q hq => h q (List.mem_cons_of_mem _ hq), bw_setBw_ne (Ne.symm h2), bw_setBw_ne (Ne.symm h1), bw_setBw_ne (Ne.symm h0)]

/-- The words of a share. -/
theorem bw_splitBank {b : Tab Word} {bm : Nat} {sh : List (Want × Nat)} (hn : (sh.map (fun p => p.1.id)).Nodup) {p : Want × Nat} (hp : p ∈ sh) :
    bw (splitBank b bm sh) (0x810 + 4 * p.1.id) = (p.2 + p.1.floor * 2 ^ 16) % 2 ^ 32 ∧ bw (splitBank b bm sh) (0x812 + 4 * p.1.id) = bm % 2 ^ 32 := by
  induction sh generalizing b with
  | nil => cases hp
  | cons q sh ih =>
    rw [List.map_cons, List.nodup_cons] at hn
    obtain ⟨hq, hn⟩ := hn
    rcases List.mem_cons.1 hp with rfl | hp
    · have hout : ∀ r ∈ sh, r.1.id ≠ p.1.id := fun r hr he => hq (List.mem_map.2 ⟨r, hr, he⟩)
      have hfold : splitBank b bm (p :: sh) = splitBank (setBw (setBw (setBw b (0x810 + 4 * p.1.id) (p.2 + p.1.floor * 2 ^ 16)) (0x810 + 4 * p.1.id + 1) 1024)
        (0x810 + 4 * p.1.id + 2) bm) bm sh := rfl
      rw [hfold]
      constructor
      · rw [bw_splitBank_out fun r hr => by have := hout r hr; omega, bw_setBw_ne (by omega), bw_setBw_ne (by omega), bw_setBw_same]
      · rw [bw_splitBank_out fun r hr => by have := hout r hr; omega, show 0x812 + 4 * p.1.id = 0x810 + 4 * p.1.id + 2 by omega, bw_setBw_same]
    · exact ih (b := setBw (setBw (setBw b (0x810 + 4 * q.1.id) (q.2 + q.1.floor * 2 ^ 16)) (0x810 + 4 * q.1.id + 1) 1024) (0x810 + 4 * q.1.id + 2) bm) hn hp

theorem allocate_shares {b : Nat} {l : List Want} (hl : ∀ w ∈ l, w.floor ≤ 65535 ∧ w.demand ≤ 65535) :
    (allocate (some b) l).1.map (fun p => p.1) = l ∧ ∀ p ∈ (allocate (some b) l).1, p.2 ≤ 65535 := by
  obtain ⟨hm, hlt, hge⟩ := allocationWithinBudget b l hl
  refine ⟨hm, fun p hp => ?_⟩
  by_cases hb : (l.map (fun w => w.floor)).sum < b
  · exact ((hlt hb).2.2 p hp).2
  · have hw : p.1 ∈ l := by
      rw [← hm]
      exact List.mem_map_of_mem hp
    rw [(hge (by omega)).2 p hp]
    exact (hl _ hw).1

theorem fldOf_le {w : Word} {f : Fld} : fldOf w f ≤ 2 ^ f.len - 1 := by
  have : fldOf w f < 2 ^ f.len := Nat.mod_lt _ (Nat.two_pow_pos _)
  omega

theorem demandHeld_le (n : Int) (d : Nat) : demandHeld n d ≤ 65535 := by
  unfold demandHeld
  omega

theorem parts_nodup : (parts s).Nodup := List.nodup_range.filter _

theorem mem_parts_range {p : Nat} (h : p ∈ parts s) : p < 32 := List.mem_range.1 (List.mem_filter.1 h).1

theorem localSplit_results (happ : s.img.applied = true) (hfw : fwOn s = true) (hs : btSealed (pendBt s) = false) (hc : btComplete (pendBt s) = true) :
    Runs .localAllocationSplit s (fun t => btLocal (pendBt t) = true ∧ btSealed (pendBt t) = true ∧ actBt t = actBt s
      ∧ ∀ p ∈ parts s, bw (pendBt t) (0x810 + 4 * p) / 2 ^ 16 = aF s (Reg.DOM_PFLOOR p) F.DOM_PFLOOR_FLOOR
          ∧ (inDomain s = true → bw (pendBt t) (0x812 + 4 * p) = btNode (pendBt s) (ownNode s) / 2 ^ 48 % 2 ^ 8)) := by
  show ∃ t, execLocalAllocationSplit s = .next t ∧ _
  unfold execLocalAllocationSplit
  extract_lets node cap own bm dem want
  rw [if_neg (by simp [happ, hfw, hs, hc])]
  have hw : ∀ w ∈ want, w.floor ≤ 65535 ∧ w.demand ≤ 65535 := by
    intro w hw
    obtain ⟨p, -, rfl⟩ := List.mem_map.1 hw
    exact ⟨fldOf_le, demandHeld_le _ _⟩
  obtain ⟨hm, hle⟩ := allocate_shares (b := ((own : Int) - s.cap.pOther).toNat) hw
  generalize allocate (some ((own : Int) - s.cap.pOther).toNat) want = al at hm hle
  obtain ⟨sh, tight⟩ := al
  refine ⟨localSealed (setPendBt s (splitBank (pendBt s) bm sh)), rfl, ?_⟩
  dsimp only at hm hle
  have hids : sh.map (fun p => p.1.id) = parts s := by
    have h1 : sh.map (fun p => p.1.id) = (sh.map (fun p => p.1)).map Want.id := by rw [List.map_map]; rfl
    rw [h1, hm, List.map_map]
    exact List.map_id _
  have hlt : ∀ p ∈ sh, p.1.id < 32 := fun p hp => mem_parts_range (s := s) (by
    rw [← hids]
    exact List.mem_map_of_mem hp)
  generalize hudef : setPendBt s (splitBank (pendBt s) bm sh) = u
  have hp : pendBt u = splitBank (pendBt s) bm sh := hudef ▸ pendBt_setPendBt
  have hu : Evolves { bt := true } s u := hudef ▸ setPendBt_evolves
  have hau : actBt u = actBt s := hudef ▸ actBt_setPendBt
  have hfl : btFlags (pendBt u) = btFlags (pendBt s) := by
    rw [hp]
    exact flags_congr (bw_splitBank_out fun p _ => by omega)
  have hsu : btSealed (pendBt u) = false := by
    unfold btSealed at hs ⊢
    rw [hfl, hs]
  have hcu : btComplete (pendBt u) = true := by
    unfold btComplete at hc ⊢
    rw [hfl, hc]
  obtain ⟨kr, kl, ks, -, kw⟩ := localSealed_results (s := u) (by rw [hu.img_eq rfl]; exact happ) hsu
  refine ⟨kl, ks.trans hcu, kr.actBt.trans hau, fun p hpp => ?_⟩
  rw [← hids] at hpp
  obtain ⟨x, hx, rfl⟩ := List.mem_map.1 hpp
  obtain ⟨h0, h2⟩ := bw_splitBank (b := pendBt s) (bm := bm) (by rw [hids]; exact parts_nodup) hx
  have hfloor : x.1.floor = aF s (Reg.DOM_PFLOOR x.1.id) F.DOM_PFLOOR_FLOOR ∧ x.1.floor ≤ 65535 := by
    have hxw : x.1 ∈ want := by
      rw [← hm]
      exact List.mem_map_of_mem hx
    refine ⟨?_, (hw _ hxw).1⟩
    obtain ⟨q, -, hq⟩ := List.mem_map.1 hxw
    rw [← hq]
  have hx32 := hlt x hx
  have hx2 := hle x hx
  constructor
  · rw [show bw (pendBt (localSealed u)) (0x810 + 4 * x.1.id) = bw (pendBt u) (0x810 + 4 * x.1.id) from kw _ (fun p => by omega) (by omega) (by omega), hp, h0,
      ← hfloor.1]
    have := hfloor.2
    omega
  · intro hd
    rw [show bw (pendBt (localSealed u)) (0x812 + 4 * x.1.id) = bw (pendBt u) (0x812 + 4 * x.1.id) from kw _ (fun p => by omega) (by omega) (by omega), hp, h2]
    have hbm : bm = btNode (pendBt s) (ownNode s) / 2 ^ 48 % 2 ^ 8 := if_pos hd
    rw [hbm]
    omega

/-! ## The comparison -/

/-- A bank with the entries `l` corrected. -/
def corrected (b : Tab Word) (e : Tab Nat) (l : List Nat) : Tab Word := l.foldl (fun b n => setBw64 b (16 + 2 * n) (tabGet 0 e n)) b

theorem btNode_corrected {b : Tab Word} {e : Tab Nat} {l : List Nat} {n : Nat} (he : tabGet 0 e n < 2 ^ 64) :
    btNode (corrected b e l) n = if n ∈ l then tabGet 0 e n else btNode b n := by
  unfold corrected
  induction l generalizing b with
  | nil => simp
  | cons m l ih =>
    rw [List.foldl_cons, ih]
    by_cases hm : m = n
    · subst hm
      simp [btNode_setBw64_same he]
    · rw [btNode_setBw64_ne hm]
      have : n ∈ m :: l ↔ n ∈ l := by simp [Ne.symm hm]
      simp only [this]

theorem bw_headerCleared {b : Tab Word} {j : Nat} (h : 15 ≤ j) : bw ((List.range 9).foldl (fun b i => setBw b (6 + i) 0) b) j = bw b j := by
  have hl : ∀ i ∈ List.range 9, 6 + i ≠ j := fun i hi => by
    have := List.mem_range.1 hi
    omega
  generalize List.range 9 = l at hl
  induction l generalizing b with
  | nil => rfl
  | cons i l ih => rw [List.foldl_cons, ih fun k hk => hl k (List.mem_cons_of_mem _ hk), bw_setBw_ne (hl i List.mem_cons_self)]

theorem btNode_checked {b : Tab Word} {n : Nat} (hn : n < 1024) : btNode (btSetCheck ((List.range 9).foldl (fun b i => setBw b (6 + i) 0) b)) n = btNode b n :=
  btNode_congr (fun j hj _ => (bw_btSetCheck_ne (by omega)).trans (bw_headerCleared (by omega))) hn

theorem btNode_headed {b : Tab Word} {e m a n : Nat} (hn : n < 1024) :
    btNode (btFlagSet (btFlagSet (btFlagSet (btHeader b e m a) 0) 1) 2) n = btNode b n :=
  btNode_congr (fun j hj _ => (bw_btFlagSet (by omega)).trans ((bw_btFlagSet (by omega)).trans ((bw_btFlagSet (by omega)).trans (bw_btHeader (by omega))))) hn

/-- What the end of the comparison of the active bank writes. -/
theorem differs_setActBt {b : Tab Word} {f : Bool} :
    (setDom (setActBt s b) (fun d => { d with differs := f })).dom.differs = f ∧ actBt (setDom (setActBt s b) (fun d => { d with differs := f })) = b := by
  refine ⟨rfl, ?_⟩
  have hd : actBt (setDom (setActBt s b) (fun d => { d with differs := f })) = actBt (setActBt s b) := actBt_of_bt rfl
  exact hd.trans actBt_setActBt

/-- The comparison of the active bank leaves the entries of its segments in it. -/
theorem btCompare_active (hg : (segsOf s true).nseg ≠ 0) (he : ∀ n, n < 1024 → tabGet 0 (segsOf s true).entry n < 2 ^ 64) :
    (btCompare s true false).1.dom.differs = false ∧ ∀ n, n < 1024 → btNode (actBt (btCompare s true false).1) n = tabGet 0 (segsOf s true).entry n := by
  unfold btCompare
  extract_lets g b bad hdrDead want want' fixed fixed' fixed'' hdrLive isLive s1 s2 s3 fault
  rw [if_neg hg]
  have hbad (n : Nat) (hn : n < 1024) (h : n ∉ bad) : btNode b n = tabGet 0 g.entry n := by
    by_contra hne
    exact h (List.mem_filter.2 ⟨List.mem_range.2 hn, by simpa using hne⟩)
  have hb : b = actBt s := if_pos rfl
  have hf (n : Nat) (hn : n < 1024) : btNode fixed'' n = btNode (corrected want' g.entry bad) n := by
    have h1 : fixed'' = btSetCheck fixed' := if_pos rfl
    rw [h1]
    exact btNode_checked hn
  have hw (n : Nat) (hn : n < 1024) : btNode want' n = btNode b n := by
    have h1 : want' = btFlagSet (btFlagSet (btFlagSet want 0) 1) 2 := if_pos rfl
    rw [h1]
    exact btNode_headed hn
  have hfix (n : Nat) (hn : n < 1024) : btNode fixed'' n = tabGet 0 g.entry n := by
    rw [hf n hn, btNode_corrected (he n hn), hw n hn]
    split
    · rfl
    next h => exact hbad n hn h
  have h3 : s3 = setActBt s2 fixed'' := if_pos rfl
  have hfault : fault = false := Bool.false_and _
  clear_value fault s3 s2 fixed'' hdrLive hdrDead want' fixed'
  subst h3 hfault
  split
  next hc => exact ⟨rfl, fun n hn => (congrArg (btNode · n) hb).symm.trans (hbad n hn (by rw [hc.1]; simp))⟩
  · exact ⟨differs_setActBt.1, fun n hn => (congrArg (btNode · n) differs_setActBt.2).trans (hfix n hn)⟩

theorem domComplete_differs (h : s.dom.differs = false) : (domComplete s).dom.differs = false := by
  have hc : (btCompare s false false).1.dom.differs = false := by
    unfold btCompare
    extract_lets g b bad hdrDead want want' fixed fixed' fixed'' hdrLive isLive s1 s2 s3 fault
    split
    · exact h
    · split <;> rfl
  unfold domComplete
  generalize btCompare s false false = p at hc
  obtain ⟨u, ok⟩ := p
  dsimp only at hc ⊢
  split
  · have e : Evolves { bt := true } u (sealTry (setPendBt u (btFlagSet (pendBt u) 1))) := setPendBt_evolves.trans sealTry_evolves
    rw [e.dom_eq rfl]
    exact hc
  · exact hc

theorem budgetCompare_results (flips : List (Fin 2192 × Word)) (hd : inDomain s = true) (happ : s.img.applied = true) (hg : (segsOf s true).nseg ≠ 0)
    (he : ∀ n, n < 1024 → tabGet 0 (segsOf s true).entry n < 2 ^ 64) :
    Runs (.budgetCompare flips false) s (fun t => t.dom.differs = false ∧ ∀ n, n < 1024 → btNode (actBt t) n = tabGet 0 (segsOf s true).entry n) := by
  show ∃ t, execBudgetCompare flips false s = .next t ∧ _
  unfold execBudgetCompare
  extract_lets u
  have hu : Evolves { bt := true } s u := setActBt_evolves
  have hsegs : segsOf u true = segsOf s true := by
    unfold segsOf
    rw [hu.dom_eq rfl, show u.bt.active1 = s.bt.active1 from congrArg (fun x : Bool × Bool × Nat × Nat => x.1) btKept_setActBt]
  clear_value u
  rw [if_pos ⟨(inDomain_of_img (hu.img_eq rfl)).trans hd, by rw [hu.img_eq rfl]; exact happ⟩]
  rw [← hsegs] at hg he ⊢
  obtain ⟨hdf, hn⟩ := btCompare_active hg he
  generalize btCompare u true false = p at hdf hn
  obtain ⟨v, ok⟩ := p
  dsimp only at hdf hn
  refine ⟨_, rfl, ?_⟩
  split
  · exact ⟨domComplete_differs hdf, fun n h => by rw [domComplete_results.1.actBt]; exact hn n h⟩
  · exact ⟨hdf, hn⟩

end

/-- Settles O17: the commands of the budget table write its pending bank, which the tick swaps in, and the active bank changes by the swap and by the
comparison alone. -/
theorem budgetEpochResults : Obligations.BudgetEpochResults :=
  ⟨⟨fun _ => budgetEpochTick_results, fun _ => staleFloors_results, fun who _ => seal_results who⟩,
   fun _ => nodeDemand_eq, fun _ => demandStart_results, fun _ hr hs => ⟨allocGo_completes hr hs, allocationCompute_results hr hs⟩, fun _ => allocGo_idle,
   fun src epoch bepoch first seg nseg entries _ => alloc_results src epoch bepoch first seg nseg entries, fun _ => localSplit_results,
   fun flips _ => budgetCompare_results flips⟩

end Sys2Proof.Machine
end

section
/-! PROOF. Cells between devices and the holds of a lock group (O44). -/

namespace Sys2Proof.Machine
open Host
set_option Elab.async false

section
variable {s t u : State} {n g r : Nat} {c : Cell}

/-! ## Reception of a cell -/

theorem Shows.seen (h : Shows tvlRest s t) : t.tvl.seen = s.tvl.seen := (congrArg TvlSt.seen h.eq :)

theorem Shows.result (h : Shows tvlRest s t) : t.tvl.result = s.tvl.result := (congrArg TvlSt.result h.eq :)

theorem Shows.origin (h : Shows tvlRest s t) : t.tvl.origin = s.tvl.origin := (congrArg TvlSt.origin h.eq :)

theorem tvlRest_cellForward {q : QCell} : Shows tvlRest s (cellForward s q) := by
  have hpush (u : State) (m : Nat) : Shows tvlRest u (cellPush u m q) := tvlRest_setLane
  unfold cellForward
  split
  · extract_lets r
    split
    · exact .refl
    · split
      · exact tvlRest_deadLetter
      · split
        · exact tvlRest_deadLetter
        · exact hpush _ _
  · split
    · split
      · exact .forEach fun u m => hpush u m
      · exact .refl
    · exact .forEach fun u m => hpush u m

theorem tvlRest_cellLeft {q : QCell} : Shows tvlRest s (cellLeft s q) := by
  unfold cellLeft
  exact .both .refl tvlRest_setLane

theorem cellLocal_of_img (h : t.img = s.img) : cellLocal t c = cellLocal s c := by
  unfold cellLocal
  rw [ownNode_of_img h, groupParts_of_img h]

/-- A cell that reaches this node whole, and not seen in the last 200 ns, is taken where it is meant for the node. -/
theorem cellReceive_fresh (hup : laneUp s n = true) (hs : ∀ p ∈ s.tvl.seen, p.1 = c → p.2 + 200 < now s) : (cellReceive s n c true).2 = cellLocal s c := by
  unfold cellReceive
  rw [if_neg (by simp [hup])]
  extract_lets q _ s1 s2 s3 again seen _ s5
  have h1 : s1.tvl.seen = s.tvl.seen := (tvlRest_cellForward (s := { s with tvl := { s.tvl with cellNo := s.tvl.cellNo + 1 } })).seen
  have e1 : Evolves { regs := true, drain := true, recd := true, tvl := true } s s1 := .trans (t := { s with tvl := { s.tvl with cellNo := s.tvl.cellNo + 1 } }) .set_tvl cellForward_evolves.mono
  have h2 : s2.tvl.seen = s1.tvl.seen := tvlRest_cellLeft.seen
  have e2 : Evolves { tvl := true } s1 s2 := cellLeft_evolves
  clear_value s1 s2
  rw [if_neg (by decide)]
  have hag : again = false := by
    show s2.tvl.seen.any _ = false
    rw [h2, h1, List.any_eq_false]
    intro p hp hc
    simp only [Bool.and_eq_true, beq_iff_eq, decide_eq_true_eq, now_of e2, now_of e1] at hc
    have := hs p hp hc.1
    omega
  have hl : cellLocal s5 c = cellLocal s c := cellLocal_of_img ((e2.img_eq rfl).trans (e1.img_eq rfl))
  clear_value again s5
  subst hag
  exact hl

/-- What the command of such a cell starts from. -/
theorem cellReceive_taken (hup : laneUp s n = true) (hl : cellLocal s c = true) (hs : ∀ p ∈ s.tvl.seen, p.1 = c → p.2 + 200 < now s) :
    ∃ u, cellReceive s n c true = (u, true) ∧ Evolves { regs := true, drain := true, recd := true, tvl := true } s u :=
  ⟨_, Prod.ext rfl ((cellReceive_fresh hup hs).trans hl), cellReceive_evolves⟩

/-! ## HOLD -/

theorem holds_holdStart {us : Nat} : (holdStart s g us).dom.holds = tabSet 0 s.dom.holds g (max (tabGet 0 s.dom.holds g) (now s + us * 1000)) := by
  unfold holdStart
  extract_lets s1
  have h : Evolves { regs := true, pb := true, cap := true } s1 (forEach (groupParts s1 g) s1 holdUpdate) := .forEach fun _ _ => holdUpdate_evolves
  rw [h.dom_eq rfl]
  rfl

theorem hold_results {lane : LaneIx} {scope : Fin 4} {node : Fin 1024} {payload : BitVec 36}
    (hup : laneUp s lane.val = true) (hl : cellLocal s { ctype := 1, scope := scope.val, node := node.val, payload := payload.toNat } = true)
    (hs : ∀ p ∈ s.tvl.seen, p.1 = { ctype := 1, scope := scope.val, node := node.val, payload := payload.toNat } → p.2 + 200 < now s)
    (hg : groupParts s (payload.toNat % 64) ≠ []) :
    Runs (.hold lane scope node payload true) s (fun t => tabGet 0 t.dom.holds (payload.toNat % 64)
      = max (tabGet 0 s.dom.holds (payload.toNat % 64)) (now s + payload.toNat / 2 ^ 6 % 2 ^ 16 * 1000)) := by
  obtain ⟨u, hu, e⟩ := cellReceive_taken hup hl hs
  show ∃ t, execHold lane scope node payload true s = .next t ∧ _
  unfold execHold
  extract_lets c
  rw [show cellReceive s lane.val c true = (u, true) from hu]
  dsimp only
  rw [if_pos ⟨rfl, by rw [groupParts_of_img (e.img_eq rfl)]; simpa using hg⟩]
  refine ⟨_, rfl, ?_⟩
  rw [holds_holdStart, tabGet_tabSet_same, e.dom_eq rfl, now_of e]

theorem holdExpiry_results {group : Fin 64} (h : tabGet 0 s.dom.holds group.val ≠ 0) : Runs (.holdExpiry group) s (fun t => tabGet 0 t.dom.holds group.val = 0) := by
  show ∃ t, execHoldExpiry group s = .next t ∧ _
  unfold execHoldExpiry
  extract_lets g k s1 s2 s3
  rw [if_neg h]
  refine ⟨_, rfl, ?_⟩
  have e : Evolves { regs := true, pb := true, cap := true } s3
      (forEach (groupParts s3 g) s3 (fun s p => holdUpdate (if partHeld s p then s else setPart s p (fun x => { x with upWait := false })) p)) :=
    .forEach fun u p => .trans (t := if partHeld u p then u else setPart u p (fun x => { x with upWait := false })) (.ite .refl setPart_evolves.mono) holdUpdate_evolves
  rw [e.dom_eq rfl]
  show tabGet 0 (tabErase s2.dom.holds g) g = 0
  rw [tabGet_tabErase, if_pos rfl]

/-! ## GTHROT and TRIP -/

/-- A commit that meets no check of the staging joins the commits. -/
theorem domStage_joins {k : DomCommit} (hg : groupParts s k.group ≠ []) (hc : ∀ x ∈ s.dom.commits, x.group = k.group → k.cid = none ∨ x.cid ≠ k.cid)
    (h1 : now s + 1000 ≤ k.tick) (h2 : k.tick ≤ now s + 10000000000) (h3 : (s.dom.commits.filter (fun x => x.group == k.group)).length < 4) :
    (domStage s k).dom.commits = s.dom.commits ++ [k] := by
  unfold domStage
  rw [if_neg (by simpa using hg), if_neg ?_, if_neg (by omega), if_neg (by omega), if_neg (by omega)]
  · rfl
  · simp only [Bool.and_eq_true, List.any_eq_true, not_and, not_exists, beq_iff_eq]
    intro hs x hx hxg hxc
    rcases hc x hx hxg with h | h
    · simp [h] at hs
    · exact h hxc

/-- The tick that APPLY names is the only one of its residue in the window. -/
theorem gthrotTick_eq {T a : Nat} (h10 : T % 10 = 0) (ha : T / 10 % 8192 = a % 8192) (h1 : now s + 1000 ≤ T) (h2 : T < now s + 80920) : gthrotTick s (a % 8192) = T := by
  unfold gthrotTick
  extract_lets low
  have hlow : low = (now s - 1000 + 9) / 10 := rfl
  omega

theorem gthrot_results {lane : LaneIx} {scope : Fin 4} {node : Fin 1024} {payload : BitVec 36} {T : Nat}
    (hup : laneUp s lane.val = true) (hl : cellLocal s { ctype := 2, scope := scope.val, node := node.val, payload := payload.toNat } = true)
    (hs : ∀ p ∈ s.tvl.seen, p.1 = { ctype := 2, scope := scope.val, node := node.val, payload := payload.toNat } → p.2 + 200 < now s)
    (hg : groupParts s (payload.toNat % 64) ≠ []) (h10 : T % 10 = 0) (ha : T / 10 % 8192 = payload.toNat / 2 ^ 21 % 8192)
    (h1 : now s + 1000 ≤ T) (h2 : T < now s + 80920) (h4 : (s.dom.commits.filter (fun x => x.group == payload.toNat % 64)).length < 4) :
    Runs (.gthrot lane scope node payload true) s (fun t => t.dom.commits = s.dom.commits ++
      [{ group := payload.toNat % 64, n := payload.toNat / 2 ^ 6 % 2 ^ 11, reason := payload.toNat / 2 ^ 17 % 16, tick := T, cid := none, basis := 0 }]) := by
  obtain ⟨u, hu, e⟩ := cellReceive_taken hup hl hs
  show ∃ t, execGthrot lane scope node payload true s = .next t ∧ _
  unfold execGthrot
  extract_lets c
  rw [show cellReceive s lane.val c true = (u, true) from hu]
  dsimp only
  rw [if_pos rfl, gthrotTick_eq h10 ha (by rw [now_of e]; exact h1) (by rw [now_of e]; exact h2)]
  refine ⟨_, rfl, ?_⟩
  rw [domStage_joins, e.dom_eq rfl]
  · rw [groupParts_of_img (e.img_eq rfl)]
    exact hg
  · exact fun _ _ _ => .inl rfl
  · rw [now_of e]
    exact h1
  · rw [now_of e]
    show T ≤ _
    omega
  · rw [e.dom_eq rfl]
    exact h4

theorem trip_results {lane : LaneIx} {scope : Fin 4} {node : Fin 1024} {payload : BitVec 36}
    (hup : laneUp s lane.val = true) (hl : cellLocal s { ctype := 3, scope := scope.val, node := node.val, payload := payload.toNat } = true)
    (hs : ∀ p ∈ s.tvl.seen, p.1 = { ctype := 3, scope := scope.val, node := node.val, payload := payload.toNat } → p.2 + 200 < now s) :
    Runs (.trip lane scope node payload true) s (fun t => flag t Reg.DOM_EVENT F.DOM_EVENT_TRIP = true ∧ (s.dom.role = .master → node.val ∈ t.dom.tripped)) := by
  obtain ⟨u, hu, e⟩ := cellReceive_taken hup hl hs
  show ∃ t, execTrip lane scope node payload true s = .next t ∧ _
  unfold execTrip
  extract_lets c
  rw [show cellReceive s lane.val c true = (u, true) from hu]
  dsimp -zeta only
  rw [if_pos rfl]
  extract_lets v
  have ev : Evolves { regs := true, drain := true, recd := true } u v := raise_evolves.mono.trans record_evolves.mono
  have hd : v.dom = s.dom := (ev.dom_eq rfl).trans (e.dom_eq rfl)
  have hv : RdBut _ (raise u Reg.DOM_EVENT F.DOM_EVENT_TRIP) v := record_rdBut
  clear_value v
  have hf : flag v Reg.DOM_EVENT F.DOM_EVENT_TRIP = true := (hv.flag_eq _).trans (flag_raise _ _ _ (by decide))
  refine ⟨_, rfl, ?_⟩
  split
  · exact ⟨hf, fun _ => List.mem_cons_self⟩
  next hr => exact ⟨hf, fun hm => absurd (hd ▸ hm) hr⟩

/-! ## The droop of a member's part -/

/-- What the holds of the partitions keep of a rail's freeze. -/
def frzKept (r : Nat) (s : State) : Bool × Bool := ((boostOf s r).memberFrz, (boostOf s r).frozen)

theorem frzKept_of_pb (h : t.pb = s.pb) : Shows (frzKept r) s t := by
  show frzKept r t = frzKept r s
  unfold frzKept
  rw [boostOf_of_pb h]

theorem frzKept_setPart {p : Nat} {f : PartPbSt → PartPbSt} : Shows (frzKept r) s (setPart s p f) := rfl

theorem frzKept_freezeHeld {p : Nat} : Shows (frzKept r) s (freezeHeld s p) := by
  unfold freezeHeld
  extract_lets s1 s2
  have h1 : Shows (frzKept r) s s1 := frzKept_setPart
  have h2 : Shows (frzKept r) s1 s2 := by
    show frzKept r s2 = frzKept r s1
    unfold frzKept
    rw [boostOf_setBoost]
    split
    next h =>
      subst h
      rfl
    next => rfl
  clear_value s1 s2
  exact .both (h1.trans (h2.trans (frzKept_of_pb (bump_evolves.pb_eq rfl)))) .refl

theorem frzKept_holdUpdate {p : Nat} : Shows (frzKept r) s (holdUpdate s p) := by
  unfold holdUpdate
  refine .trans (t := holdFreeze s p) ?_ (frzKept_of_pb (holdCore_evolves.pb_eq rfl))
  unfold holdFreeze
  extract_lets s1
  have h1 : Shows (frzKept r) s s1 := frzKept_freezeHeld
  clear_value s1
  refine h1.trans ?_
  split
  · extract_lets q s2
    have h2 : Evolves { regs := true, cap := true } s1 s2 := reasonTime_evolves
    exact .trans (t := s2) (frzKept_of_pb (h2.pb_eq rfl)) (frzKept_of_pb (setCap_evolves.pb_eq rfl))
  · exact .trans (t := setCap s1 _ _) (frzKept_of_pb (setCap_evolves.pb_eq rfl)) (frzKept_of_pb (reasonCount_evolves.pb_eq rfl))
  · exact .refl

theorem frzKept_holdRail {k : Nat} : Shows (frzKept r) s (holdRail s k) := .forEach fun _ _ => frzKept_holdUpdate

theorem Shows.memberFrz (h : Shows (frzKept r) s t) : (boostOf t r).memberFrz = (boostOf s r).memberFrz := congrArg (fun x : Bool × Bool => x.1) h.eq

theorem Shows.frozen (h : Shows (frzKept r) s t) : (boostOf t r).frozen = (boostOf s r).frozen := congrArg (fun x : Bool × Bool => x.2) h.eq

theorem droop_results {lane : LaneIx} {node : Fin 1024} {payload : BitVec 36}
    (hup : laneUp s lane.val = true) (hl : cellLocal s { ctype := 4, scope := 3, node := node.val, payload := payload.toNat } = true)
    (hs : ∀ p ∈ s.tvl.seen, p.1 = { ctype := 4, scope := 3, node := node.val, payload := payload.toNat } → p.2 + 200 < now s)
    (h6 : 6 ≤ lane.val) (hr : isRail s (payload.toNat % 8) = true) (hw : wideRole s (payload.toNat % 8) = 2) (hp : widePos s (payload.toNat % 8) = lane.val - 6) :
    Runs (.droop lane 3 node payload true) s (fun t => (boostOf t (payload.toNat % 8)).memberFrz = true ∧ tabGet 0 t.dom.droopHold (payload.toNat % 8) = now s + 1) := by
  obtain ⟨u, hu, e⟩ := cellReceive_taken hup hl hs
  show ∃ t, execDroop lane 3 node payload true s = .next t ∧ _
  unfold execDroop
  extract_lets c
  rw [show cellReceive s lane.val c true = (u, true) from hu]
  dsimp -zeta only
  extract_lets v
  rw [if_pos ⟨rfl, h6, by rw [isRail_of_img (e.img_eq rfl)]; exact hr, by rw [wideRole_of_img (e.img_eq rfl)]; exact hw,
    by rw [widePos_of_img (e.img_eq rfl)]; exact hp⟩]
  refine ⟨_, rfl, frzKept_holdRail.memberFrz.trans ?_, ?_⟩
  · show (boostOf v (payload.toNat % 8)).memberFrz = true
    rw [boostOf_setBoost, if_pos rfl]
  · have h : Evolves { regs := true, pb := true, cap := true } (setDom v (fun d => { d with droopHold := tabSet 0 d.droopHold (payload.toNat % 8) (now v + 1) }))
        (holdRail (setDom v (fun d => { d with droopHold := tabSet 0 d.droopHold (payload.toNat % 8) (now v + 1) })) (payload.toNat % 8)) := holdRail_evolves
    rw [h.dom_eq rfl]
    show tabGet 0 (tabSet 0 v.dom.droopHold (payload.toNat % 8) (now v + 1)) (payload.toNat % 8) = _
    rw [tabGet_tabSet_same]
    exact congrArg (· + 1) ((show now v = now u from rfl).trans (now_of e))

theorem droopCellFreezeEnd_results {rail : ChIx} (hf : (boostOf s rail.val).memberFrz = true) (hd : 0 < tabGet 0 s.dom.droopHold rail.val) :
    Runs (.droopCellFreezeEnd rail) s (fun t => (boostOf t rail.val).memberFrz = false ∧ (boostOf t rail.val).frozen = (boostOf s rail.val).frozen) := by
  show ∃ t, execDroopCellFreezeEnd rail s = .next t ∧ _
  unfold execDroopCellFreezeEnd
  extract_lets r last s1 s2
  rw [if_pos ⟨hf, hd⟩]
  refine ⟨_, rfl, ?_⟩
  have h1 : Shows (frzKept r) s s1 := .trans (t := reach s (last - 1 + settleNs s r)) (frzKept_of_pb (reach_evolves.pb_eq rfl)) frzKept_holdRail
  clear_value s1
  have hm : (boostOf s2 r).memberFrz = false := by rw [boostOf_setBoost, if_pos rfl]
  have hz : (boostOf s2 r).frozen = (boostOf s1 r).frozen := by rw [boostOf_setBoost, if_pos rfl]
  clear_value s2
  have h3 : Shows (frzKept r) s2 (holdRail (forEach (railParts s2 r) s2 (fun s p => if partHeld s p then s else setPart s p (fun x => { x with upWait := false }))) r) :=
    .trans (.forEach fun u p => .both .refl frzKept_setPart) frzKept_holdRail
  exact ⟨h3.memberFrz.trans hm, h3.frozen.trans (hz.trans h1.frozen)⟩

end

end Sys2Proof.Machine
end

section
/-! PROOF. The cycles and commits of a lock group (O44). -/

namespace Sys2Proof.Machine
open Host
set_option Elab.async false

section
variable {s t u : State} {n g r : Nat}

/-! ## The group cycle -/

theorem groupCycleStart_results (ht : takesPart s = true) (hred : s.tvl.red = []) (hdone : s.tvl.redDone = []) (hb : belowUp s ≠ []) :
    Runs .groupCycleStart s (fun t => t.dom.cycleAt = t.dom.cycle * (max 1 (grpCfg s F.DOM_GROUP_CFG_GCYCLE) * 1000)
      ∧ ∃ r : RedSt, t.tvl.red = [r] ∧ r.rid = t.dom.cycle % 2 ^ 24 * 256 + 0x20 ∧ r.op = 2 ∧ r.elems.length = 64
        ∧ ∀ g, g < 64 → groupParts s g = [] → r.elems.getD g 0 = 2 ^ 63 - 1) := by
  show ∃ t, execGroupCycleStart s = .next t ∧ _
  unfold execGroupCycleStart
  rw [if_pos ht]
  extract_lets k c u prop
  refine ⟨_, rfl, ?_⟩
  have e1 : Evolves { tb := true, dom := true } s u := reach_evolves.mono.trans setDom_evolves.mono
  have hat : u.dom.cycleAt = c * k := rfl
  have hcy : u.dom.cycle = c := rfl
  have hbu : belowUp u ≠ [] := by
    have h : belowUp (reach s (c * k)) = belowUp s := belowUp_of (reach_evolves.img_eq rfl) (reach_evolves.regs_eq rfl)
      (congrArg TvlSt.lane (reach_evolves.tvl_eq rfl)) (reach_evolves.dom_eq rfl)
    show belowUp (reach s (c * k)) ≠ []
    rwa [h]
  have hpr (g : Nat) (hg : groupParts s g = []) : prop g = 2 ^ 63 - 1 := by
    have h : groupParts u g = [] := (groupParts_of_img (e1.img_eq rfl) g).trans hg
    show (((groupParts u g).filter _).map _).foldl min (2 ^ 63 - 1) = _
    rw [h]
    rfl
  have hru : u.tvl.red = [] := by rw [e1.tvl_eq rfl, hred]
  have hdu : u.tvl.redDone = [] := by rw [e1.tvl_eq rfl, hdone]
  clear_value u prop
  have e2 := redAdd_evolves (s := u) (src := none) (ids := (ownNode u, 0))
    (c := { rid := c % 2 ^ 24 * 256 + 0x20, op := 2, elems := (List.range 64).map (fun k => (prop k : Int)), contrib := 1, partial_ := false,
            from_ := [], loc := false, openAt := 0 })
  rw [e2.dom_eq rfl, hat, hcy]
  refine ⟨rfl, ?_⟩
  rw [redAdd_opens (by simp [hru]) (by simp [hdu]) (by simp [hru]) hbu, hru]
  refine ⟨_, rfl, rfl, rfl, by simp [redOpened], fun g hg hp => ?_⟩
  simp only [redOpened, List.getD_eq_getElem?_getD, List.getElem?_map, List.getElem?_range hg, Option.map_some, Option.getD_some]
  rw [hpr g hp]
  norm_num

/-! ## The commits a master announces -/

/-- What staging keeps on a master. -/
def masterKept (s : State) : DomRole × Nat × TvlSt := (s.dom.role, s.dom.cid, s.tvl)

theorem masterKept_of {W : Blocks} (h : Evolves W s t) (hd : W.dom = false := by rfl) (ht : W.tvl = false := by rfl) : Shows masterKept s t := by
  show masterKept t = masterKept s
  unfold masterKept
  rw [h.dom_eq hd, h.tvl_eq ht]

theorem Shows.keptRole (h : Shows masterKept s t) : t.dom.role = s.dom.role := congrArg (fun x : DomRole × Nat × TvlSt => x.1) h.eq

theorem Shows.keptCid (h : Shows masterKept s t) : t.dom.cid = s.dom.cid := congrArg (fun x : DomRole × Nat × TvlSt => x.2.1) h.eq

theorem Shows.keptTvl (h : Shows masterKept s t) : t.tvl = s.tvl := congrArg (fun x : DomRole × Nat × TvlSt => x.2.2) h.eq

theorem masterKept_domStage {c : DomCommit} (hr : s.dom.role = .master) : Shows masterKept s (domStage s c) := by
  have hrefuse (cid result g : Nat) : Shows masterKept s (domRefuse s cid result g) := by
    unfold domRefuse
    extract_lets v
    have h : Evolves { regs := true } s v := raise_evolves.trans bump_evolves
    clear_value v
    rw [if_pos (by rw [h.dom_eq rfl, hr])]
    exact masterKept_of h
  unfold domStage
  exact .both .refl (.both .refl (.both (hrefuse _ _ _) (.both (hrefuse _ _ _) (.both (hrefuse _ _ _) rfl))))

theorem masterKept_annStage {cid tick basis : Nat} {es : List (Nat × Nat × Nat)} (hr : s.dom.role = .master) :
    Shows masterKept s (annStage s cid tick basis es) := by
  unfold annStage
  split
  · have h : (forEach es s (fun s e => domStage s { group := e.1, n := e.2.1, reason := e.2.2, tick := tick, cid := some cid, basis := basis })).dom.role = .master
        ∧ Shows masterKept s (forEach es s (fun s e => domStage s { group := e.1, n := e.2.1, reason := e.2.2, tick := tick, cid := some cid, basis := basis })) := by
      refine forEach_keeps (Q := fun u => u.dom.role = .master ∧ Shows masterKept s u) (fun u e hu => ?_) ⟨hr, .refl⟩
      have h := masterKept_domStage (c := { group := e.1, n := e.2.1, reason := e.2.2, tick := tick, cid := some cid, basis := basis }) hu.1
      exact ⟨h.keptRole.trans hu.1, hu.2.trans h⟩
    exact h.2
  · exact .refl

theorem role_of_domRoleNow (h : domRoleNow s = .master) : s.dom.role = .master := by
  unfold domRoleNow at h
  split at h
  · exact h
  · cases h

theorem groupGo_idle (h : ∀ g, g < 64 → bitOf (gbufEntry s g) 63 = false) : groupGo s = s := by
  unfold groupGo
  extract_lets es
  refine if_pos (.inr ?_)
  rw [List.filterMap_eq_nil_iff]
  intro g hg
  simp [h g (List.mem_range.1 hg)]

theorem tvlRest_postAnn {cid tick basis : Nat} {es : List (Nat × Nat × Nat)} : Shows tvlRest s (postAnn s cid tick basis es) := by
  unfold postAnn
  generalize leBytes 4 cid ++ leBytes 1 es.length ++ leBytes 3 0 ++ leBytes 8 tick ++ leBytes 8 basis
    ++ es.flatMap (fun e => leBytes 4 (e.1 + e.2.1 * 2 ^ 8 + e.2.2 * 2 ^ 20)) = body
  exact tvlRest_postFrame Nat.one_ne_zero

theorem postAnn_tree {cid tick basis : Nat} {es : List (Nat × Nat × Nat)} (hn : n ∈ treeLanes s) (hup : laneUp s n = true) (h : (lclsOf s n 1).out.length < 16) :
    ∃ q : QFrame, (lclsOf (postAnn s cid tick basis es) n 1).out = (lclsOf s n 1).out ++ [q] ∧ q.frame.typ = 0x0111 := by
  unfold postAnn
  generalize leBytes 4 cid ++ leBytes 1 es.length ++ leBytes 3 0 ++ leBytes 8 tick ++ leBytes 8 basis
    ++ es.flatMap (fun e => leBytes 4 (e.1 + e.2.1 * 2 ^ 8 + e.2.2 * 2 ^ 20)) = body
  obtain ⟨q, ho, hq⟩ := postFrame_tree (s := s) (typ := 0x0111) (dest := 0) (body := body) hn hup h
  exact ⟨q, ho, by rw [hq]; rfl⟩

theorem groupGo_results (hr : domRoleNow s = .master) (hg : g < 64) (hb : bitOf (gbufEntry s g) 63 = true) :
    (groupGo s).dom.cid = (s.dom.cid + 1) % 2 ^ 32 ∧ Shows tvlRest s (groupGo s)
      ∧ ∀ n ∈ treeLanes s, laneUp s n = true → (lclsOf s n 1).out.length < 16 →
          ∃ q : QFrame, (lclsOf (groupGo s) n 1).out = (lclsOf s n 1).out ++ [q] ∧ q.frame.typ = 0x0111 := by
  unfold groupGo
  extract_lets es start k cid fw v
  have hes : es ≠ [] := by
    intro h
    have := List.filterMap_eq_nil_iff.1 h g (List.mem_range.2 hg)
    simp [hb] at this
  rw [if_neg (by simp [hr, hes])]
  have hv : v.tvl = s.tvl := rfl
  have hcid : v.dom.cid = cid := rfl
  have hvr : v.dom.role = s.dom.role := rfl
  have hi : v.img = s.img := rfl
  have hrg : v.regs = s.regs := rfl
  clear_value v es fw k start
  have e1 : Evolves { regs := true, drain := true, recd := true, tvl := true } v (postAnn v cid k start es) := postAnn_evolves
  have h1 : Shows tvlRest v (postAnn v cid k start es) := tvlRest_postAnn
  have h2 := masterKept_annStage (s := postAnn v cid k start es) (cid := cid) (tick := k) (basis := start) (es := es)
    (by rw [e1.dom_eq rfl, hvr]; exact role_of_domRoleNow hr)
  have ht : (annStage (postAnn v cid k start es) cid k start es).tvl = (postAnn v cid k start es).tvl := h2.keptTvl
  have hc : (annStage (postAnn v cid k start es) cid k start es).dom.cid = (postAnn v cid k start es).dom.cid := h2.keptCid
  refine ⟨by rw [hc, e1.dom_eq rfl, hcid], ?_, fun n hn hup hl => ?_⟩
  · have h0 : Shows tvlRest s v := by
      unfold Shows tvlRest
      rw [hv]
    refine h0.trans (h1.trans ?_)
    unfold Shows tvlRest
    rw [ht]
  · have hlane : laneOf v n = laneOf s n := laneOf_of_lane (congrArg TvlSt.lane hv) n
    obtain ⟨q, ho, hq⟩ := postAnn_tree (s := v) (cid := cid) (tick := k) (basis := start) (es := es)
      (by rw [treeLanes_of hi hrg]; exact hn) (by rw [laneUp_of hlane]; exact hup) (by rw [lclsOf_of hlane]; exact hl)
    exact ⟨q, by rw [lclsOf_of (laneOf_of_lane (congrArg TvlSt.lane ht) n), ho, lclsOf_of hlane], hq⟩

theorem tvlRest_groupGo (hr : domRoleNow s = .master) : Shows tvlRest s (groupGo s) := by
  by_cases h : ∀ g, g < 64 → bitOf (gbufEntry s g) 63 = false
  · rw [groupGo_idle h]
    exact .refl
  · push Not at h
    obtain ⟨g, hg, hb⟩ := h
    exact (groupGo_results hr hg (by simpa using hb)).2.1

theorem groupReductionResult_results {r : RedSt} (hr : domRoleNow s = .master) (h : redResult s (s.dom.cycle % 2 ^ 24 * 256 + 0x20) = some r) :
    Runs .groupReductionResult s (fun t => redResult t (s.dom.cycle % 2 ^ 24 * 256 + 0x20) = none) := by
  show ∃ t, execGroupReductionResult s = .next t ∧ _
  unfold execGroupReductionResult
  extract_lets rid
  rw [if_neg (by simp [hr]), show redResult s rid = some r from h]
  dsimp -zeta only
  extract_lets entry v
  refine ⟨_, rfl, ?_⟩
  have e1 : Evolves { regs := true, fwc := true } s v := memWrite_evolves.mono
  clear_value v
  have e2 : Evolves { regs := true, tvl := true } v (takeResults v [rid]) := takeResults_evolves
  have hm : domRoleNow (takeResults v [rid]) = .master := by
    rw [domRoleNow_of (congrArg TopSt.state ((e2.top_eq rfl).trans (e1.top_eq rfl))) (congrArg DomSt.role ((e2.dom_eq rfl).trans (e1.dom_eq rfl)))]
    exact hr
  show (groupGo (takeResults v [rid])).tvl.result.find? (fun r => r.rid == rid) = none
  rw [(tvlRest_groupGo hm).result, List.find?_eq_none]
  intro x hx
  have hx : x ∈ v.tvl.result.filter (fun r => !([rid] : List Nat).contains r.rid) := hx
  have := (List.mem_filter.1 hx).2
  simpa using this

/-! ## An announcement of the present master -/

theorem domRefuse_results {cid result : Nat} (hr : s.dom.role ≠ .master) :
    (domRefuse s cid result g).dom = s.dom ∧ flag (domRefuse s cid result g) Reg.DOM_EVENT F.DOM_EVENT_REFUSE = true
      ∧ fld (domRefuse s cid result g) Reg.DOM_CNT F.DOM_CNT_REFUSALS = min (fld s Reg.DOM_CNT F.DOM_CNT_REFUSALS + 1) 255 := by
  refine ⟨domRefuse_evolves.dom_eq rfl, ?_⟩
  unfold domRefuse
  extract_lets v
  have e : Evolves { regs := true } s v := raise_evolves.trans bump_evolves
  have hf : flag v Reg.DOM_EVENT F.DOM_EVENT_REFUSE = true := (bump_rdBut0.flag_eq _).trans (flag_raise _ _ _ (by decide))
  have hn : fld v Reg.DOM_CNT F.DOM_CNT_REFUSALS = min (fld s Reg.DOM_CNT F.DOM_CNT_REFUSALS + 1) 255 := by
    have h : fld v Reg.DOM_CNT F.DOM_CNT_REFUSALS = _ := fld_bump_same _ _ _ (by decide)
    rw [h, raise_rdBut0.fld_eq _]
    rfl
  clear_value v
  rw [if_neg (by rw [e.dom_eq rfl]; exact hr)]
  exact ⟨((postFrame_letterRegs rfl).flag_eq _).trans hf, ((postFrame_letterRegs rfl).fld_eq _).trans hn⟩

theorem commitAnn_results {src : Fin 1024} {epoch cid : Fin (2 ^ 32)} {tick basis : Nat} {g : Fin 64} {n : Fin 2048} {reason : Fin 16}
    (h0 : s.dom.role ≠ .none_) (hm : s.dom.role ≠ .master) (he : epoch.val = s.dom.mepoch) (hsrc : src.val = s.dom.master)
    (hv : bitOf (btNode (actBt s) (ownNode s)) 63 = true) (hg : groupParts s g.val ≠ []) (hc : ∀ c ∈ s.dom.commits, c.group = g.val → c.cid ≠ some cid.val) :
    Runs (.commitAnn src epoch cid tick basis [(g, n, reason)]) s (fun t =>
      (now s + 1000 ≤ tick → tick ≤ now s + 10000000000 → (s.dom.commits.filter (fun x => x.group == g.val)).length < 4 → t.dom.commits = s.dom.commits ++
        [{ group := g.val, n := n.val, reason := reason.val, tick := tick, cid := some cid.val, basis := basis }])
      ∧ (tick < now s + 1000 ∨ now s + 10000000000 < tick → t.dom.commits = s.dom.commits ∧ flag t Reg.DOM_EVENT F.DOM_EVENT_REFUSE = true
          ∧ fld t Reg.DOM_CNT F.DOM_CNT_REFUSALS = min (fld s Reg.DOM_CNT F.DOM_CNT_REFUSALS + 1) 255)) := by
  show ∃ t, execCommitAnn src epoch cid tick basis [(g, n, reason)] s = .next t ∧ _
  unfold execCommitAnn
  extract_lets u es a v
  have e1 : Evolves { tvl := true } s u := takeRx_evolves
  rw [if_neg (by rw [e1.dom_eq rfl, he]; simp [h0]), if_neg (by unfold fromMaster; rw [e1.dom_eq rfl]; simp [h0, hsrc]), if_neg (by rw [e1.dom_eq rfl]; exact hm)]
  have e2 : Evolves { tvl := true, dom := true } s v := e1.mono.trans setDom_evolves.mono
  have hcv : v.dom.commits = u.dom.commits := rfl
  rw [e1.dom_eq rfl] at hcv
  have hrv : v.dom.role = u.dom.role := rfl
  rw [e1.dom_eq rfl] at hrv
  clear_value v
  refine ⟨annStage v cid.val tick basis es, rfl, ?_⟩
  set c : DomCommit := { group := g.val, n := n.val, reason := reason.val, tick := tick, cid := some cid.val, basis := basis } with hcdef
  have ha : annStage v cid.val tick basis es = domStage v c := by
    unfold annStage
    rw [if_pos (by rw [actBt_of_bt (e2.bt_eq rfl), ownNode_of_img (e2.img_eq rfl)]; exact hv)]
    rfl
  rw [ha]
  have hnow : now v = now s := now_of e2
  have hgv : groupParts v c.group ≠ [] := by
    rw [groupParts_of_img (e2.img_eq rfl)]
    exact hg
  have hcc : ∀ x ∈ v.dom.commits, x.group = c.group → c.cid = none ∨ x.cid ≠ c.cid := fun x hx hxg => .inr (hc x (hcv ▸ hx) hxg)
  refine ⟨fun h1 h2 h3 => ?_, fun hbad => ?_⟩
  · rw [domStage_joins hgv hcc (by rw [hnow]; exact h1) (by rw [hnow]; exact h2) (by rw [hcv]; exact h3), hcv]
  · have hd : ∃ result, domStage v c = domRefuse v cid.val result g.val := by
      unfold domStage
      rw [if_neg (by simpa using hgv), if_neg ?_]
      · by_cases hlate : tick < now s + 1000
        · exact ⟨_, if_pos (by rw [hnow]; exact hlate)⟩
        · rw [if_neg (by rw [hnow]; exact hlate), if_pos (by rw [hnow]; show _ < tick; omega)]
          exact ⟨_, rfl⟩
      · simp only [Bool.and_eq_true, List.any_eq_true, not_and, not_exists, beq_iff_eq]
        intro _ x hx hxg hxc
        rcases hcc x hx hxg with h | h
        · cases h
        · exact h hxc
    obtain ⟨result, hd⟩ := hd
    rw [hd]
    obtain ⟨k1, k2, k3⟩ := domRefuse_results (s := v) (cid := cid.val) (result := result) (g := g.val) (by rw [hrv]; exact hm)
    have hrd : fld v Reg.DOM_CNT F.DOM_CNT_REFUSALS = fld s Reg.DOM_CNT F.DOM_CNT_REFUSALS := (RdBut.of_evolves e2 (F := [])).fld_eq _
    exact ⟨by rw [k1, hcv], k2, by rw [k3, hrd]⟩

/-! ## A commit that takes effect -/

/-- The ceiling of a partition, as a commit writes it. -/
def ceilWord (s : State) (p n reason : Nat) : Word :=
  putFld (putFld (putFld (ac s (Reg.CAP_GCEIL p)) F.CAP_GCEIL_N n) F.CAP_GCEIL_REASON reason) F.CAP_GCEIL_OWN (b2n (fld s (Reg.CAP_PROP p) F.CAP_PROP_N == n))

/-- One partition's ceiling written. -/
def ceilPart (n reason : Nat) (s : State) (p : Nat) : State :=
  wr (wrAc s (Reg.CAP_GCEIL p) (ceilWord s p n reason)) (Reg.CAP_GCEIL p) (ceilWord s p n reason)

/-- What the word of a partition's ceiling says. -/
def CeilSays (q n reason : Nat) (own : Bool) (s : State) : Prop :=
  aF s (Reg.CAP_GCEIL q) F.CAP_GCEIL_N = n ∧ aF s (Reg.CAP_GCEIL q) F.CAP_GCEIL_REASON = reason ∧ aOn s (Reg.CAP_GCEIL q) F.CAP_GCEIL_OWN = own

theorem ceilSays_of (h : ac t (Reg.CAP_GCEIL g) = ac s (Reg.CAP_GCEIL g)) {n reason : Nat} {own : Bool} (hs : CeilSays g n reason own s) : CeilSays g n reason own t := by
  unfold CeilSays aF aOn at hs ⊢
  rwa [h]

theorem ceilPart_says {n reason q : Nat} (hn : n < 2048) (hr : reason < 16) :
    CeilSays q n reason (decide (fld s (Reg.CAP_PROP q) F.CAP_PROP_N = n)) (ceilPart n reason s q) := by
  have hac : ac (ceilPart n reason s q) (Reg.CAP_GCEIL q) = ceilWord s q n reason := by
    unfold ceilPart
    rw [ac_wr, ac_wrAc_same]
  unfold CeilSays aF aOn
  rw [hac]
  unfold ceilWord
  refine ⟨?_, ?_, ?_⟩
  · rw [fldOf_putFld_apart _ _ _ _ (by decide) (by decide), fldOf_putFld_apart _ _ _ _ (by decide) (by decide), fldOf_putFld _ _ _ (by decide)]
    exact Nat.mod_eq_of_lt hn
  · rw [fldOf_putFld_apart _ _ _ _ (by decide) (by decide), fldOf_putFld _ _ _ (by decide)]
    exact Nat.mod_eq_of_lt hr
  · rw [fldOf_putFld _ _ _ (by decide)]
    by_cases h : fld s (Reg.CAP_PROP q) F.CAP_PROP_N = n <;> simp [h, b2n]

theorem ac_ceilPart_ne {n reason p q : Nat} (h : p ≠ q) : ac (ceilPart n reason s p) (Reg.CAP_GCEIL q) = ac s (Reg.CAP_GCEIL q) := by
  have hne : Reg.CAP_GCEIL p ≠ Reg.CAP_GCEIL q := by
    unfold Reg.CAP_GCEIL
    omega
  unfold ceilPart
  rw [ac_wr, ac_wrAc, if_neg hne]

theorem fld_prop_ceilPart {n reason p q : Nat} (hp : p < 32) (hq : q < 32) {f : Fld} :
    fld (ceilPart n reason s p) (Reg.CAP_PROP q) f = fld s (Reg.CAP_PROP q) f := by
  have hne : Reg.CAP_GCEIL p ≠ Reg.CAP_PROP q := by
    unfold Reg.CAP_GCEIL Reg.CAP_PROP
    omega
  unfold fld ceilPart
  rw [rd_wr_ne _ _ hne, rd_wrAc]

/-- A sweep over partitions writes the ceiling of each. -/
theorem ceilPart_sweep {n reason q : Nat} {l : List Nat} (hn : n < 2048) (hr : reason < 16) (hd : l.Nodup) (hl : ∀ p ∈ l, p < 32) (hq : q ∈ l) :
    CeilSays q n reason (decide (fld s (Reg.CAP_PROP q) F.CAP_PROP_N = n)) (forEach l s (ceilPart n reason)) := by
  induction l generalizing s with
  | nil => cases hq
  | cons p l ih =>
    obtain ⟨hp, hd⟩ := List.nodup_cons.1 hd
    have hlt : ∀ x ∈ l, x < 32 := fun x hx => hl x (List.mem_cons_of_mem _ hx)
    rw [forEach_cons]
    rcases List.mem_cons.1 hq with rfl | hm
    · have hkeep : ac (forEach l (ceilPart n reason s q) (ceilPart n reason)) (Reg.CAP_GCEIL q) = ac (ceilPart n reason s q) (Reg.CAP_GCEIL q) :=
        Shows.eq (.forEach_mem (g := fun s => ac s (Reg.CAP_GCEIL q)) fun u x hx => ac_ceilPart_ne fun h => hp (h ▸ hx))
      exact ceilSays_of hkeep (ceilPart_says hn hr)
    · rw [← fld_prop_ceilPart (s := s) (n := n) (reason := reason) (hl p List.mem_cons_self) (hlt q hm)]
      exact ih hd hlt hm

theorem groupParts_nodup : (groupParts s g).Nodup := (List.nodup_range.filter _).filter _

theorem lt_of_mem_groupParts {p : Nat} (h : p ∈ groupParts s g) : p < 32 := mem_parts_range (List.mem_filter.1 h).1

theorem ceilWrite_eq {n reason : Nat} : ceilWrite s g n reason
    = forEach (groupParts s g) (setDom s (fun d => { d with ceil := tabSet 0 d.ceil g (if n = 1024 ∧ reason = 0 then 0 else n + reason * 2048 + 1) })) (ceilPart n reason) := rfl

theorem ceilPart_evolves {n reason p : Nat} : Evolves { regs := true, active := true } s (ceilPart n reason s p) :=
  .trans (t := wrAc s (Reg.CAP_GCEIL p) (ceilWord s p n reason)) wrAc_evolves.mono wr_evolves.mono

theorem commits_ceilWrite {n reason : Nat} : (ceilWrite s g n reason).dom.commits = s.dom.commits := by
  rw [ceilWrite_eq]
  generalize (if n = 1024 ∧ reason = 0 then 0 else n + reason * 2048 + 1) = v
  have e : Evolves { regs := true, active := true } (setDom s (fun d => { d with ceil := tabSet 0 d.ceil g v }))
      (forEach (groupParts s g) (setDom s (fun d => { d with ceil := tabSet 0 d.ceil g v })) (ceilPart n reason)) := .forEach fun _ _ => ceilPart_evolves
  rw [e.dom_eq rfl]
  rfl

theorem ceilWrite_results {n reason : Nat} (hn : n < 2048) (hr : reason < 16) :
    groupCeil (ceilWrite s g n reason) g = (n, reason)
      ∧ ∀ q ∈ groupParts s g, CeilSays q n reason (decide (fld s (Reg.CAP_PROP q) F.CAP_PROP_N = n)) (ceilWrite s g n reason) := by
  rw [ceilWrite_eq]
  generalize hv : setDom s (fun d => { d with ceil := tabSet 0 d.ceil g (if n = 1024 ∧ reason = 0 then 0 else n + reason * 2048 + 1) }) = v
  have hc : v.dom.ceil = tabSet 0 s.dom.ceil g (if n = 1024 ∧ reason = 0 then 0 else n + reason * 2048 + 1) := hv ▸ rfl
  have hreg : v.regs = s.regs := hv ▸ rfl
  have e : Evolves { regs := true, active := true } v (forEach (groupParts s g) v (ceilPart n reason)) := .forEach fun _ _ => ceilPart_evolves
  refine ⟨?_, fun q hq => ?_⟩
  · unfold groupCeil
    rw [e.dom_eq rfl, hc, tabGet_tabSet_same]
    by_cases h : n = 1024 ∧ reason = 0
    · simp [h.1, h.2]
    · simp only [if_neg h, if_neg (Nat.succ_ne_zero _), Nat.add_sub_cancel]
      exact Prod.ext (by show (n + reason * 2048) % 2048 = n; omega) (by show (n + reason * 2048) / 2048 = reason; omega)
  · have hp : fld v (Reg.CAP_PROP q) F.CAP_PROP_N = fld s (Reg.CAP_PROP q) F.CAP_PROP_N := by
      unfold fld rd
      rw [hreg]
    rw [← hp]
    exact ceilPart_sweep hn hr groupParts_nodup (fun p => lt_of_mem_groupParts) hq

theorem domOrder_one {c : DomCommit} (h : c.cid.isSome = true) : domOrder [c] = [c] := by
  unfold domOrder
  have hn : c.cid.isNone = false := by simpa using h
  simp [h, hn]

theorem domEffect_results {c : DomCommit} {k : Nat} (hk : c.cid = some k) (hl : tabGet [] s.dom.gtEffect c.group = []) (hn : c.n < 2048) (hr : c.reason < 16) :
    groupCeil (domEffect s c) c.group = (c.n, c.reason)
      ∧ ∀ q ∈ groupParts s c.group, CeilSays q c.n c.reason (decide (fld s (Reg.CAP_PROP q) F.CAP_PROP_N = c.n)) (domEffect s c) := by
  unfold domEffect
  rw [hk, hl]
  dsimp -zeta only
  extract_lets later low reason v
  have hlow : low = c.n := rfl
  have hreason : reason = c.reason := if_neg (Nat.lt_irrefl _)
  obtain ⟨h1, h2⟩ := ceilWrite_results (s := s) (g := c.group) hn hr
  have hv : v = ceilWrite s c.group c.n c.reason := by
    show ceilWrite s c.group low reason = _
    rw [hlow, hreason]
  clear_value v low reason
  subst hv
  have e := commitEntry_evolves (s := ceilWrite s c.group c.n c.reason)
    (mask := (groupParts (ceilWrite s c.group c.n c.reason) c.group).foldl (fun m p => m ||| 2 ^ (8 + p)) 0) (mode := 1) (result := resDone) (tick := c.tick)
    (unaligned := !(ceilWrite s c.group c.n c.reason).tb.aligned)
  refine ⟨?_, fun q hq => ceilSays_of ?_ (h2 q hq)⟩
  · rw [← h1]
    unfold groupCeil
    rw [e.dom_eq rfl]
  · unfold ac
    rw [e.active_eq rfl]

theorem domainCommitEffect_results {group : Fin 64} {c : DomCommit} {k : Nat} (hc : s.dom.commits = [c]) (hg : c.group = group.val) (hk : c.cid = some k)
    (hl : tabGet [] s.dom.gtEffect group.val = []) (hn : c.n < 2048) (hr : c.reason < 16) :
    Runs (.domainCommitEffect group) s (fun t => t.dom.commits = [] ∧ groupCeil t group.val = (c.n, c.reason)
      ∧ ∀ p ∈ groupParts s group.val, aF t (Reg.CAP_GCEIL p) F.CAP_GCEIL_N = c.n ∧ aF t (Reg.CAP_GCEIL p) F.CAP_GCEIL_REASON = c.reason
          ∧ aOn t (Reg.CAP_GCEIL p) F.CAP_GCEIL_OWN = decide (fld s (Reg.CAP_PROP p) F.CAP_PROP_N = c.n)) := by
  show ∃ t, execDomainCommitEffect group s = .next t ∧ _
  unfold execDomainCommitEffect
  extract_lets mine
  have hm : mine = [c] := by
    show s.dom.commits.filter _ = _
    rw [hc]
    simp [hg]
  clear_value mine
  subst hm
  dsimp -zeta only
  extract_lets tick u due v
  refine ⟨_, rfl, ?_⟩
  have hdue : due = [c] := by
    show [c].filter (fun x => x.tick == c.tick) = _
    simp
  have e : Evolves { tb := true, dom := true } s v := reach_evolves.mono.trans setDom_evolves.mono
  have hcv : v.dom.commits = [] := by
    show u.dom.commits.filter _ = []
    rw [show u.dom.commits = [c] from (congrArg DomSt.commits (reach_evolves.dom_eq rfl)).trans hc]
    simp [hg, tick]
  have hlv : tabGet [] v.dom.gtEffect c.group = [] := by
    rw [show v.dom.gtEffect = u.dom.gtEffect from rfl, show u.dom.gtEffect = s.dom.gtEffect from congrArg DomSt.gtEffect (reach_evolves.dom_eq rfl), hg, hl]
  clear_value v due
  rw [hdue, domOrder_one (by rw [hk]; rfl), forEach_cons, forEach_nil]
  obtain ⟨h1, h2⟩ := domEffect_results (s := v) hk hlv hn hr
  have hcd : (domEffect v c).dom.commits = v.dom.commits := by
    unfold domEffect
    rw [hk]
    dsimp -zeta only
    extract_lets later low reason w
    have hw : w.dom.commits = v.dom.commits := commits_ceilWrite
    clear_value w
    exact (congrArg DomSt.commits (commitEntry_evolves.dom_eq rfl)).trans hw
  refine ⟨hcd.trans hcv, hg ▸ h1, fun p hp => ?_⟩
  have := h2 p (by rw [groupParts_of_img (e.img_eq rfl), hg]; exact hp)
  have hp : fld v (Reg.CAP_PROP p) F.CAP_PROP_N = fld s (Reg.CAP_PROP p) F.CAP_PROP_N := by
    unfold fld rd
    rw [e.regs_eq rfl]
  rw [hp] at this
  exact this

/-! ## A refusal answered with HOLD -/

theorem origin_takeDelivered {typ : Nat} : (takeDelivered s typ).tvl.origin = s.tvl.origin := by
  unfold takeDelivered
  split
  · rfl
  next i _ =>
    unfold deliverDrop leaveQueue
    show (match (deliverOf s (typ / 256))[max i queueDepth]? with | some q => returnUnits s q | none => s).tvl.origin = _
    split
    · exact tvlRest_returnUnits.origin
    · rfl

theorem commitRefuse_results {group : Fin 64} (hr : domRoleNow s = .master) (hd : originDepth s < 16) :
    let us := grpCfg s F.DOM_GROUP_CFG_GCYCLE + grpCfg s F.DOM_GROUP_CFG_GLEAD
    Runs (.commitRefuse group) s (fun t => ∃ at_ : Nat, t.tvl.origin = s.tvl.origin ++
      [({ ctype := 1, scope := 2, node := ownNode s, payload := group.val + us * 2 ^ 6 }, at_)]) := by
  intro us
  show ∃ t, execCommitRefuse group s = .next t ∧ _
  unfold execCommitRefuse
  extract_lets u us' v
  have e : Evolves { tvl := true } s u := takeDelivered_evolves
  have ho : u.tvl.origin = s.tvl.origin := origin_takeDelivered
  have hus : us' = us := congrArg₂ (· + ·) (aF_of_active (e.active_eq rfl) _ _) (aF_of_active (e.active_eq rfl) _ _)
  have hdep : originDepth u < 16 := by
    unfold originDepth at hd ⊢
    rwa [ho, now_of e]
  rw [if_pos (by rw [domRoleNow_of (congrArg TopSt.state (e.top_eq rfl)) (congrArg DomSt.role (e.dom_eq rfl))]; exact hr)]
  refine ⟨_, rfl, ?_⟩
  have hv : ∃ at_ : Nat, v.tvl.origin = s.tvl.origin ++ [({ ctype := 1, scope := 2, node := ownNode s, payload := group.val + us * 2 ^ 6 }, at_)] := by
    rw [← ho, ← ownNode_of_img (e.img_eq rfl), ← hus]
    show ∃ at_ : Nat, (originate u _).tvl.origin = _
    unfold originate
    rw [if_neg (by omega)]
    exact ⟨_, rfl⟩
  clear_value v
  have hh : Evolves { regs := true, pb := true, dom := true, cap := true } v (if (groupParts v group.val).isEmpty then v else holdStart v group.val us') := .ite .refl holdStart_evolves
  rw [hh.tvl_eq rfl]
  exact hv

end

/-- Settles O44: cells received for the first time act on the group they name, and the commits of a lock group are announced, staged, refused and put in
force as the master says. -/
theorem cellAndLockGroupResults : Obligations.CellAndLockGroupResults :=
  ⟨⟨fun _ _ _ _ _ ⟨hup, hl, hs⟩ hg => hold_results hup hl hs hg, fun _ _ => holdExpiry_results,
    fun _ _ _ _ _ _ ⟨hup, hl, hs⟩ hg h10 ha h1 h2 h4 => gthrot_results hup hl hs hg h10 ha h1 h2 h4, fun _ _ _ _ _ ⟨hup, hl, hs⟩ => trip_results hup hl hs,
    fun _ _ _ _ ⟨hup, hl, hs⟩ h6 hr hw hp => droop_results hup hl hs h6 hr hw hp, fun _ _ => droopCellFreezeEnd_results⟩,
   fun _ => groupCycleStart_results, fun _ _ => groupReductionResult_results,
   fun _ _ hr hg hb => ⟨_, rfl, (groupGo_results hr hg hb).1, (groupGo_results hr hg hb).2.2⟩,
   fun _ _ _ _ _ _ _ _ _ h0 hm he hsrc hv hg hc => commitAnn_results h0 hm he hsrc hv hg hc, fun _ _ _ _ => domainCommitEffect_results,
   fun _ _ hr hd => commitRefuse_results hr hd⟩

end Sys2Proof.Machine
end

section
/-! PROOF. Power-on, supply loss, start and stop of the rails (O21). -/

namespace Sys2Proof.Machine
open Host
set_option Elab.async false

section
variable {s t u : State} {r q : Nat}

/-! ## Power-on reset -/

theorem fldOf_strap {n lo len v : Nat} (hn : n < 2 ^ 32) (hv : n / 2 ^ lo % 2 ^ len = v) : fldOf (BitVec.ofNat 32 n) ⟨lo, len⟩ = v := by
  unfold fldOf
  rw [BitVec.toNat_ofNat, Nat.mod_eq_of_lt hn, Nat.shiftRight_eq_div_pow]
  exact hv

theorem porRelease_results {ovc cpos : Fin 4} {smba : Fin 8} {test refclk : Bool} (hp : s.top.porHeld = true) :
    Runs (.porRelease ovc cpos smba test refclk) s (fun t => t.top.porHeld = false ∧ t.tb.c = 0 ∧ t.tb.f = 0 ∧ t.tb.running = refclk
      ∧ fld t Reg.TOP_STRAP F.TOP_STRAP_OVC = ovc.val ∧ fld t Reg.TOP_STRAP F.TOP_STRAP_CPOS = cpos.val ∧ fld t Reg.TOP_STRAP F.TOP_STRAP_SMBA = smba.val
      ∧ flag t Reg.TOP_STRAP F.TOP_STRAP_TEST = test ∧ t.top.state = s.top.state) := by
  show ∃ t, execPorRelease ovc cpos smba test refclk s = .next t ∧ _
  unfold execPorRelease
  rw [if_pos hp]
  extract_lets strap s1 _ s2 s3
  refine ⟨_, rfl, ?_⟩
  have e1 : Evolves { regs := true } s s1 := .ite raise_evolves .refl
  clear_value s1
  have h2 : s2.top.porHeld = false ∧ s2.tb = { running := refclk } ∧ s2.top.state = s1.top.state := ⟨rfl, rfl, rfl⟩
  clear_value s2
  have e3 : Evolves { regs := true } s2 s3 := wrN_evolves
  have hs3 : rd s3 Reg.TOP_STRAP = BitVec.ofNat 32 strap := rd_wrN_same _ _ _
  clear_value s3
  have e4 : Evolves { regs := true } s3 (forEach [F.TOP_SUPPLY_VDD_PG, F.TOP_SUPPLY_VDDA18_PG, F.TOP_SUPPLY_VDDSD_PG] s3 (fun s f => raise s Reg.TOP_SUPPLY f)) :=
    .forEach fun _ _ => raise_evolves
  have h4 : RdBut [(Reg.TOP_SUPPLY, 0, 0)] s3 (forEach [F.TOP_SUPPLY_VDD_PG, F.TOP_SUPPLY_VDDA18_PG, F.TOP_SUPPLY_VDDSD_PG] s3 (fun s f => raise s Reg.TOP_SUPPLY f)) :=
    .forEach fun _ _ => raise_rdBut0
  obtain ⟨hh, ht, hst⟩ := h2
  have ho := ovc.isLt
  have hc := cpos.isLt
  have hm := smba.isLt
  have hb : b2n test < 2 := by cases test <;> decide
  have hstrap : strap = ovc.val + 4 * cpos.val + 16 * smba.val + 128 * b2n test := rfl
  rw [e4.tb_eq rfl, e3.tb_eq rfl, e4.top_eq rfl, e3.top_eq rfl, ht]
  refine ⟨hh, rfl, rfl, rfl, ?_, ?_, ?_, ?_, hst.trans (congrArg TopSt.state (e1.top_eq rfl))⟩
  · rw [h4.fld_eq]
    unfold fld
    rw [hs3]
    exact fldOf_strap (by omega) (by omega)
  · rw [h4.fld_eq]
    unfold fld
    rw [hs3]
    exact fldOf_strap (by omega) (by omega)
  · rw [h4.fld_eq]
    unfold fld
    rw [hs3]
    exact fldOf_strap (by omega) (by omega)
  · rw [h4.flag_eq]
    unfold flag
    rw [hs3, show fldOf (BitVec.ofNat 32 strap) F.TOP_STRAP_TEST = b2n test from fldOf_strap (by omega) (by omega)]
    cases test <;> rfl

theorem regs_porAssert {cause : PorCause} (h : cause ≠ .vauxRise) : rd (porAssert s cause) Reg.TOP_RST_CAUSE = rd s Reg.TOP_RST_CAUSE := by
  have hr : (porAssert s cause).regs = s.regs.filter (fun p => p.1 == Reg.TOP_RST_CAUSE) := by
    unfold porAssert
    extract_lets quads keep u c held
    have hk : keep = true := by simp [keep, h]
    have hc : c = u.regs.filter (fun p => p.1 == Reg.TOP_RST_CAUSE) := if_pos hk
    have hu : u.regs = s.regs := pbOff_evolves.regs_eq rfl
    show c = _
    rw [hc, hu]
  unfold rd
  rw [hr, tabGet_filter _ _ (· == Reg.TOP_RST_CAUSE)]
  rfl

theorem porAssert_results {cause : PorCause} : (porAssert s cause).top.porHeld = true ∧ (porAssert s cause).top.state = .off ∧ (porAssert s cause).tb.c = 0
    ∧ (porAssert s cause).sec.fuse = s.sec.fuse ∧ (porAssert s cause).recd.ring = [] ∧ (porAssert s cause).img.applied = false := by
  unfold porAssert
  extract_lets quads keep u c held
  have hu : u.sec.fuse = s.sec.fuse := congrArg SecSt.fuse (pbOff_evolves.sec_eq rfl)
  exact ⟨rfl, rfl, rfl, hu, rfl, rfl⟩

/-- The phases that a power-on reset leaves driven: those a crowbar holds. -/
def heldPhases (l : Tab PhSt) : Tab PhSt :=
  (l.filter (fun p => p.2.crowbar)).map (fun p => (p.1, { level := .low, crowbar := true, crowRail := p.2.crowRail }))

theorem tabGet_heldPhases {l : Tab PhSt} {p : Nat} (hk : keysRise l = true) :
    (tabGet {} (heldPhases l) p).level = if (tabGet {} l p).crowbar then .low else .hiz := by
  rw [keysRise_iff] at hk
  induction l with
  | nil => rfl
  | cons x l ih =>
    obtain ⟨k, v⟩ := x
    obtain ⟨hx, hk⟩ := hk
    have hskip : heldPhases ((k, v) :: l) = if v.crowbar then (k, { level := .low, crowbar := true, crowRail := v.crowRail }) :: heldPhases l else heldPhases l := by
      unfold heldPhases
      rw [List.filter_cons]
      cases v.crowbar <;> rfl
    rw [hskip]
    by_cases he : k = p
    · subst he
      have hout : tabGet {} (heldPhases l) k = {} := by
        refine tabGet_absent _ _ _ fun y hy => ?_
        obtain ⟨z, hz, rfl⟩ := List.mem_map.1 hy
        have := hx z (List.mem_filter.1 hz).1
        show z.1 ≠ k
        exact Nat.ne_of_gt this
      cases hv : v.crowbar
      · simp [tabGet, hv, hout]
      · simp [tabGet, hv]
    · cases hv : v.crowbar
      · simp only [Bool.false_eq_true, if_false, tabGet, if_neg he]
        exact ih hk
      · simp only [if_true, tabGet, if_neg he]
        exact ih hk

theorem phases_porAssert {cause : PorCause} (h : cause ≠ .vauxRise) : (porAssert s cause).ph = heldPhases s.ph := by
  unfold porAssert
  extract_lets quads keep u c held
  have hk : keep = true := by simp [keep, h]
  have hc : held = heldPhases u.ph := if_pos hk
  have hu : u.ph = s.ph := pbOff_evolves.ph_eq rfl
  show held = _
  rw [hc, hu]

theorem porstAssert_results : Runs .porstAssert s (fun t => t.top.porHeld = true ∧ t.top.state = .off ∧ t.tb.c = 0 ∧ t.sec.fuse = s.sec.fuse ∧ t.recd.ring = []
    ∧ t.img.applied = false ∧ rd t Reg.TOP_RST_CAUSE = rd s Reg.TOP_RST_CAUSE) := by
  obtain ⟨h1, h2, h3, h4, h5, h6⟩ := porAssert_results (s := s) (cause := .pin)
  exact ⟨_, rfl, h1, h2, h3, h4, h5, h6, regs_porAssert (by decide)⟩

theorem runSupplyLoss_results {which : RunSupply} (hp : s.top.porHeld = false) (hw : tabWf {} s.ph = true) :
    Runs (.runSupplyLoss which) s (fun t => t.top.state = .off ∧ t.top.porHeld = true ∧ flag t Reg.TOP_RST_CAUSE F.TOP_RST_CAUSE_RUNSUP = true
      ∧ (∀ p, (phOf s p).crowbar = true → (phOf t p).level = .low) ∧ (∀ p, (phOf s p).crowbar = false → (phOf t p).level = .hiz)) := by
  show ∃ t, execRunSupplyLoss which s = .next t ∧ _
  unfold execRunSupplyLoss
  extract_lets u
  have hu : u = porAssert s .runSupply := if_neg (by simp [hp])
  clear_value u
  subst hu
  refine ⟨_, rfl, ?_⟩
  obtain ⟨h1, h2, -⟩ := porAssert_results (s := s) (cause := .runSupply)
  have hph := phases_porAssert (s := s) (cause := .runSupply) (by decide)
  generalize porAssert s .runSupply = u at h1 h2 hph
  have hf : flag (lower (raise u Reg.TOP_RST_CAUSE F.TOP_RST_CAUSE_RUNSUP) Reg.TOP_SUPPLY (runBit which)) Reg.TOP_RST_CAUSE F.TOP_RST_CAUSE_RUNSUP = true :=
    ((lower_rdBut0 (off := Reg.TOP_SUPPLY)).flag_eq _).trans (flag_raise _ _ _ (by decide))
  have e : Evolves { regs := true } u (lower (raise u Reg.TOP_RST_CAUSE F.TOP_RST_CAUSE_RUNSUP) Reg.TOP_SUPPLY (runBit which)) := raise_evolves.trans lower_evolves
  have hl (p : Nat) : (phOf (lower (raise u Reg.TOP_RST_CAUSE F.TOP_RST_CAUSE_RUNSUP) Reg.TOP_SUPPLY (runBit which)) p).level
      = if (phOf s p).crowbar then .low else .hiz := by
    rw [phOf_of_ph (e.ph_eq rfl)]
    unfold phOf
    rw [hph]
    exact tabGet_heldPhases (Bool.and_eq_true_iff.1 hw).1
  rw [e.top_eq rfl]
  exact ⟨h2, h1, hf, fun p hc => by rw [hl, if_pos hc], fun p hc => by rw [hl, if_neg (by simp [hc])]⟩

theorem vauxHoldLoss_results : Runs .vauxHoldLoss s (fun t => t.top.state = .off ∧ t.top.porHeld = true ∧ t.top.padsHiz = true ∧ t.ph = []
    ∧ flag t Reg.TOP_RST_CAUSE F.TOP_RST_CAUSE_VAUX_POR = true ∧ t.sec.fuse = s.sec.fuse) := by
  obtain ⟨h1, h2, -, h4, -⟩ := porAssert_results (s := s) (cause := .vauxRise)
  have hk : (porAssert s .vauxRise).top.padsHiz = true ∧ (porAssert s .vauxRise).ph = [] ∧ (porAssert s .vauxRise).regs = [] := ⟨rfl, rfl, rfl⟩
  show ∃ t, Outcome.next (porAssert s .vauxRise) = .next t ∧ _
  generalize porAssert s .vauxRise = u at h1 h2 h4 hk
  obtain ⟨hz, hph, hrg⟩ := hk
  refine ⟨_, rfl, h2, h1, hz, hph, ?_, h4⟩
  unfold flag rd
  rw [hrg]
  decide

/-! ## The way to DECAF -/

/-- No latch of a protection stands. -/
def NoLatch (s : State) : Prop := rd s Reg.PROT_THERM_LATCH = 0 ∧ rd s Reg.PROT_CH_LATCH = 0

theorem NoLatch.of_rdBut {F : List (Nat × Nat × Nat)} (h : NoLatch s) (hF : RdBut F s t)
    (h1 : F.all (misses · Reg.PROT_THERM_LATCH) = true := by decide +kernel) (h2 : F.all (misses · Reg.PROT_CH_LATCH) = true := by decide +kernel) : NoLatch t :=
  ⟨(hF.rd_eq h1).trans h.1, (hF.rd_eq h2).trans h.2⟩

/-- A reset of registers leaves each as it was or at its reset value. -/
theorem NoLatch.of_filter {g : Nat → Bool} (h : NoLatch s) (ht : t.regs = s.regs.filter (fun p => g p.1)) : NoLatch t := by
  have key (off : Nat) (h0 : resetOf off = 0) (hs : rd s off = 0) : rd t off = 0 := by
    unfold rd at hs ⊢
    rw [ht, tabGet_filter, hs, h0, ite_self]
  exact ⟨key _ (by decide +kernel) h.1, key _ (by decide +kernel) h.2⟩

theorem haltCauses_none (h : NoLatch s) (h1 : s.top.hActiveUe = false) (h2 : s.top.hClock = false) (h3 : s.top.hAon = false) : haltCauses s = 0 := by
  obtain ⟨ht, hc⟩ := h
  unfold haltCauses
  rw [ht, hc, h1, h2, h3]
  simp [b2n, bitOf]

theorem clocksUp_rdBut : RdBut [(Reg.CLK_STATUS, 0, 0)] s (clocksUp s) := by
  unfold clocksUp
  exact .forEach fun _ _ => .ite .refl setF_rdBut0

theorem fuseRead_rdBut : RdBut [(Reg.PROT_FUSE, 0, 0), (Reg.LAD_FUSE_VIN, 0, 0), (Reg.LAD_FUSE_VAUX, 0, 0)] s (fuseRead s) := by
  unfold fuseRead
  exact .trans (.trans (setF_rdBut0 (off := Reg.PROT_FUSE)).mono (setF_rdBut0 (off := Reg.PROT_FUSE)).mono)
    (.trans (.trans (setF_rdBut0 (off := Reg.LAD_FUSE_VIN)).mono (setF_rdBut0 (off := Reg.LAD_FUSE_VIN)).mono)
      (.trans (setF_rdBut0 (off := Reg.LAD_FUSE_VAUX)).mono (setF_rdBut0 (off := Reg.LAD_FUSE_VAUX)).mono))

/-- The registers whose reset value a power-on works out. -/
theorem bootRegs_apart : ∀ off ∈ bootRegs, off ≠ Reg.PROT_THERM_LATCH ∧ off ≠ Reg.PROT_CH_LATCH ∧ off ≠ Reg.TOP_SUPPLY := by decide +kernel

theorem noLatch_regsFresh (h : NoLatch s) : NoLatch (regsFresh s) := by
  refine h.of_filter (t := regsFresh s) (g := fun off => match regFind off with
    | some r => !([Access.rw, Access.rwl, Access.hold].contains r.access) && !answerRegs.contains off
    | none => false) ?_
  unfold regsFresh
  rfl

theorem noLatch_holdReset (h : NoLatch s) : NoLatch (holdReset s) := by
  unfold holdReset
  extract_lets _ u
  have hu : NoLatch u := h.of_filter (t := u) (g := fun off => !isHold off) rfl
  clear_value u
  have key : ∀ (l : List Nat) (u : State), (∀ off ∈ l, off ≠ Reg.PROT_THERM_LATCH ∧ off ≠ Reg.PROT_CH_LATCH ∧ off ≠ Reg.TOP_SUPPLY) → NoLatch u →
      NoLatch (forEach l u (fun s off => holdBoth s off (bootReset s off))) := by
    intro l
    induction l with
    | nil => exact fun _ _ h => h
    | cons off l ih =>
      intro u hl hu
      obtain ⟨h1, h2, -⟩ := hl off List.mem_cons_self
      refine ih _ (fun x hx => hl x (List.mem_cons_of_mem _ hx)) ⟨?_, ?_⟩
      · unfold holdBoth
        rw [rd_wrAc, rd_wr_ne _ _ h1]
        exact hu.1
      · unfold holdBoth
        rw [rd_wrAc, rd_wr_ne _ _ h2]
        exact hu.2
  exact key _ _ bootRegs_apart hu

/-- What the power-on sequence leaves of the device state's latches. -/
theorem latches_regsFresh : (regsFresh s).top.hActiveUe = s.top.hActiveUe ∧ (regsFresh s).top.hClock = s.top.hClock ∧ (regsFresh s).top.hAon = s.top.hAon := ⟨rfl, rfl, rfl⟩

theorem nvs_enterState_decaf : (enterState s .decaf).nvs = s.nvs := by
  unfold enterState
  split
  · rfl
  · extract_lets _ u v
    have hv : v = u := by
      show (if DevState.decaf = .halt then lifeUp u 9 else if DevState.decaf = .brownout then lifeUp u 3 else u) = u
      rfl
    rw [record_evolves.nvs_eq rfl, hv]

theorem powerOnSequenceDone_results {secOk idOk : Bool} (hst : s.top.state = .off) (hp : s.top.porHeld = false) (h1 : rd s Reg.PROT_THERM_LATCH = 0)
    (h2 : rd s Reg.PROT_CH_LATCH = 0) (h3 : s.top.hActiveUe = false) (h4 : s.top.hClock = false) (h5 : s.top.hAon = false) :
    Runs (.powerOnSequenceDone secOk idOk) s (fun t => t.top.state = .decaf ∧ t.nvs.scanning = true ∧ flag t Reg.TOP_SUPPLY F.TOP_SUPPLY_SEC_OK = secOk) := by
  show ∃ t, execPowerOnSequenceDone secOk idOk s = .next t ∧ _
  unfold execPowerOnSequenceDone
  rw [if_pos ⟨hst, by simp [hp]⟩]
  extract_lets s1 s2 s3 _ s4
  refine ⟨_, rfl, ?_⟩
  have hn1 : NoLatch s1 := by
    have ha : NoLatch (fuseAbort s) := NoLatch.of_rdBut ⟨h1, h2⟩ fuseAbort_rdBut
    exact noLatch_holdReset (((noLatch_regsFresh ha).of_rdBut clocksUp_rdBut).of_rdBut fuseRead_rdBut)
  have ht1 : s1.top.hActiveUe = false ∧ s1.top.hClock = false ∧ s1.top.hAon = false := by
    obtain ⟨k1, k2, k3⟩ := latches_regsFresh (s := fuseAbort s)
    have e1 : Evolves { regs := true, active := true, integ := true } (regsFresh (fuseAbort s)) s1 :=
      .trans clocksUp_evolves.mono (.trans fuseRead_evolves.mono holdReset_evolves.mono)
    have e0 : Evolves { regs := true, drain := true, recd := true, sec := true, freeCtr := true } s (fuseAbort s) := fuseAbort_evolves
    rw [e0.top_eq rfl] at k1 k2 k3
    rw [e1.top_eq rfl]
    exact ⟨k1.trans h3, k2.trans h4, k3.trans h5⟩
  clear_value s1
  have hf2 : flag s2 Reg.TOP_SUPPLY F.TOP_SUPPLY_SEC_OK = secOk := by
    show flag (secBoot s1 secOk idOk) _ _ = _
    unfold secBoot
    extract_lets v _ _ w
    have hv : flag v Reg.TOP_SUPPLY F.TOP_SUPPLY_SEC_OK = secOk := by
      unfold flag
      have h : fldOf (rd v Reg.TOP_SUPPLY) F.TOP_SUPPLY_SEC_OK = _ := fld_setF_same _ _ _ _ (by decide)
      rw [h]
      cases secOk <;> rfl
    clear_value v
    have hw : RdBut [] v w := .of_regs rfl
    clear_value w
    rw [RdBut.flag_eq (F := [(Reg.REC_EVENT, 0, 0), (Reg.REC_ARB_DROP 0, 0, 0), (Reg.REC_ARB_DROP 1, 0, 0), (Reg.REC_ARB_DROP 2, 0, 0),
      (Reg.TOP_DRAIN_CNT 8, 0, 0), (Reg.TOP_DRAIN_STATUS, 0, 0)]) (.ite .refl record_rdBut) _, hw.flag_eq _]
    exact hv
  have e2 : Evolves { regs := true, drain := true, recd := true, fwc := true, sec := true } s1 s2 := secBoot_evolves
  have hn2 : NoLatch s2 := hn1.of_rdBut secBoot_rdBut
  clear_value s2
  have hf3 : flag s3 Reg.TOP_SUPPLY F.TOP_SUPPLY_SEC_OK = secOk := by
    show flag (if flag s2 Reg.TOP_STRAP F.TOP_STRAP_TEST then raise s2 Reg.TOP_SUPPLY F.TOP_SUPPLY_STRAP_ERR else s2) _ _ = _
    split
    · rw [← hf2]
      unfold flag raise
      exact congrArg (· == 1) (fld_setF_apart _ _ _ _ _ (by decide) (by decide))
    · exact hf2
  have e3 : Evolves { regs := true } s2 s3 := .ite raise_evolves .refl
  have hn3 : NoLatch s3 := hn2.of_rdBut (F := [(Reg.TOP_SUPPLY, 0, 0)]) (.ite raise_rdBut0 .refl)
  clear_value s3
  have hsc : s4.nvs.scanning = true := congrArg NvsSt.scanning (phasesMid_evolves.nvs_eq rfl)
  have e4 : Evolves { nvs := true, ph := true } s3 s4 := .trans (t := { s3 with nvs := { s3.nvs with scanning := true } }) .set_nvs phasesMid_evolves.mono
  clear_value s4
  have hc : haltCauses s4 = 0 := by
    have ht : s4.top = s1.top := (e4.top_eq rfl).trans ((e3.top_eq rfl).trans (e2.top_eq rfl))
    exact haltCauses_none (hn3.of_rdBut (F := []) (.of_evolves e4)) (by rw [ht]; exact ht1.1) (by rw [ht]; exact ht1.2.1) (by rw [ht]; exact ht1.2.2)
  have hr : resetInto s4 .decaf = enterState s4 .decaf := by
    unfold resetInto
    rw [hc]
    rfl
  rw [hr, enterState_top, nvs_enterState_decaf]
  refine ⟨rfl, hsc, ?_⟩
  rw [enterState_rdBut.flag_eq _, (RdBut.of_evolves (F := []) e4).flag_eq _]
  exact hf3

/-! ## Overvoltage before an image, and the supply's arming -/

/-- A crowbar over all phases drives each of them LOW. -/
theorem crowbarOn_all {n p : Nat} {l : List Nat} (hp : p < 64) :
    (phOf (crowbarOn s n (List.range 64) l) p).crowbar = true ∧ (phOf (crowbarOn s n (List.range 64) l) p).level = .low := by
  unfold crowbarOn
  extract_lets u
  have h : (phOf u p).crowbar = true ∧ (phOf u p).level = .low := by
    refine forEach_establishes (I := fun _ => True) (Q := fun s => (phOf s p).crowbar = true ∧ (phOf s p).level = .low) (List.mem_range.2 hp) (fun _ _ _ => trivial)
      (fun s _ => by rw [phOf_setPh, if_pos rfl]; exact ⟨rfl, rfl⟩) (fun s q _ h => ?_) trivial
    rw [phOf_setPh]
    split
    · exact ⟨rfl, rfl⟩
    · exact h
  clear_value u
  rw [phOf_of_ph (senHigh_evolves.ph_eq rfl)]
  exact h

theorem state_haltEntry {trip : Nat} : (haltEntry s trip).top.state
    = if s.top.state = .halt ∨ s.top.state = .brownout ∨ s.top.state = .off ∨ wholeReset s = true then s.top.state else .halt := by
  unfold haltEntry
  split
  · rfl
  · rw [enterState_top]

theorem decafOvervoltage_results {chan : ChIx} {mv : Nat} (hst : s.top.state = .decaf ∨ (s.top.state = .off ∧ s.top.porHeld = false))
    (hv : strapCeiling s * 16 < mv) (hb : bitOf (rd s Reg.PROT_THERM_LATCH).toNat 6 = false) :
    Runs (.decafOvervoltage chan mv) s (fun t => (s.top.state = .decaf → wholeReset s = false → t.top.state = .halt) ∧ (s.top.state = .off → t.top.state = .off)
      ∧ flag t Reg.PROT_THERM_LATCH F.PROT_THERM_LATCH_DECAF_OV = true ∧ ∀ p, p < 64 → (phOf t p).crowbar = true ∧ (phOf t p).level = .low) := by
  show ∃ t, execDecafOvervoltage chan mv s = .next t ∧ _
  unfold execDecafOvervoltage
  rw [if_pos ⟨by simpa using hst, hv, by simp [hb]⟩]
  extract_lets s1 s2
  refine ⟨_, rfl, ?_⟩
  have hf1 : flag s1 Reg.PROT_THERM_LATCH F.PROT_THERM_LATCH_DECAF_OV = true := flag_raise _ _ _ (by decide)
  have e1 : Evolves { regs := true } s s1 := raise_evolves
  clear_value s1
  have e2 : Evolves { regs := true, drain := true, recd := true, nvs := true } s1 s2 := .trans protEntry_evolves.mono lifeUp_evolves.mono
  have hf2 : flag s2 Reg.PROT_THERM_LATCH F.PROT_THERM_LATCH_DECAF_OV = true :=
    ((RdBut.of_evolves (F := []) lifeUp_evolves).flag_eq _).trans ((protEntry_rdBut.flag_eq _).trans hf1)
  clear_value s2
  have hc := fun p (hp : p < 64) => crowbarOn_all (s := s2) (n := 8) (l := List.range 16) hp
  have e3 : Evolves { ph := true, quad := true } s2 (crowbarOn s2 8 (List.range 64) (List.range 16)) := crowbarOn_evolves
  generalize crowbarOn s2 8 (List.range 64) (List.range 16) = v at hc e3
  have htop : v.top = s.top := (e3.top_eq rfl).trans ((e2.top_eq rfl).trans (e1.top_eq rfl))
  have hw : wholeReset v = wholeReset s := by
    unfold wholeReset
    rw [htop]
  refine ⟨fun h hr => ?_, fun h => ?_, ?_, fun p hp => ?_⟩
  · rw [state_haltEntry, hw, htop, h, hr]
    rfl
  · rw [state_haltEntry, htop, h]
    rfl
  · rw [haltEntry_rdBut.flag_eq _, (RdBut.of_evolves (F := []) e3).flag_eq _]
    exact hf2
  · rw [phOf_of_ph (haltEntry_evolves.ph_eq rfl)]
    exact hc p hp

theorem vinArmed_results {mv : Nat} (hp : s.top.porHeld = false) (hv : supWarn s .vin + supHyst s .vin < mv) :
    Runs (.vinArmed mv) s (fun t => flag t Reg.TOP_SUPPLY F.TOP_SUPPLY_VIN_ARMED = true) := by
  show ∃ t, execVinArmed mv s = .next t ∧ _
  unfold execVinArmed
  extract_lets u
  rw [if_neg (by simp [hp])]
  have e : Evolves { regs := true, sbm := true } s u := supRead_evolves
  rw [if_pos (by rw [supWarn_of_active (e.active_eq rfl), supHyst_of_active (e.active_eq rfl)]; exact hv)]
  exact ⟨_, rfl, flag_raise _ _ _ (by decide)⟩

/-! ## Start -/

/-- A start whose first stage waits begins nothing yet. -/
theorem stagesDue_waits {n k : Nat} (hn : s.top.startNext = some k) (hd : stageDelay s k ≠ 0) (he : stageEn s k ≠ []) : stagesDue n s = s := by
  cases n with
  | zero => rfl
  | succ n =>
    unfold stagesDue
    rw [hn]
    dsimp only
    rw [if_neg (by simp [hd, he])]

theorem stageEn_of (hi : t.img = s.img) (ha : t.active = s.active) (k : Nat) : stageEn t k = stageEn s k := by
  unfold stageEn stageRails stageMask
  rw [rails_of_img hi, fr_of_img hi]
  congr 1
  funext r
  exact aOn_of_active ha _ _

theorem stageDelay_of (hi : t.img = s.img) (k : Nat) : stageDelay t k = stageDelay s k := fr_of_img hi _ _ _

/-- What a request to start answers at once. -/
theorem startRecord {v b : Nat} {l : List Nat} (hv : v < 16)
    (ht : t = record (setF (startResult s v) Reg.TOP_START_STATUS F.TOP_START_STATUS_AUTO_START b) .control 0x02 0x03 (toMask l) v (now s) 0) :
    t.top = s.top ∧ fld t Reg.TOP_START_STATUS F.TOP_START_STATUS_RESULT = v ∧ t.ch = s.ch ∧ t.img = s.img ∧ t.active = s.active ∧ t.tb = s.tb := by
  have e0 : Evolves { regs := true } s (setF (startResult s v) Reg.TOP_START_STATUS F.TOP_START_STATUS_AUTO_START b) := setF_evolves.trans setF_evolves
  have hf : fld (setF (startResult s v) Reg.TOP_START_STATUS F.TOP_START_STATUS_AUTO_START b) Reg.TOP_START_STATUS F.TOP_START_STATUS_RESULT = v := by
    rw [fld_setF_apart _ _ _ _ _ (by decide) (by decide)]
    exact (fld_setF_same _ _ _ _ (by decide)).trans (Nat.mod_eq_of_lt hv)
  generalize setF (startResult s v) Reg.TOP_START_STATUS F.TOP_START_STATUS_AUTO_START b = u at e0 hf ht
  subst ht
  have e1 : Evolves { regs := true, drain := true, recd := true } u (record u .control 0x02 0x03 (toMask l) v (now s) 0) := record_evolves
  exact ⟨(e1.top_eq rfl).trans (e0.top_eq rfl), (record_rdBut.fld_eq _).trans hf, (e1.ch_eq rfl).trans (e0.ch_eq rfl), (e1.img_eq rfl).trans (e0.img_eq rfl),
    (e1.active_eq rfl).trans (e0.active_eq rfl), (e1.tb_eq rfl).trans (e0.tb_eq rfl)⟩

theorem startCheck_lt : startCheck s < 16 := by
  unfold startCheck
  split_ifs <;> omega

theorem startGo_refused (h : startCheck s ≠ 1) :
    (startGo s false).top = s.top ∧ fld (startGo s false) Reg.TOP_START_STATUS F.TOP_START_STATUS_RESULT = startCheck s ∧ (startGo s false).ch = s.ch := by
  unfold startGo
  extract_lets v s1 s2
  rw [if_neg h]
  obtain ⟨h1, h2, h3, -⟩ := startRecord (s := s) (t := s2) (v := v) (b := b2n false) startCheck_lt rfl
  exact ⟨h1, h2, h3⟩

theorem startGo_begins (h : startCheck s = 1) (hd : stageDelay s 0 ≠ 0) (he : stageEn s 0 ≠ []) :
    (startGo s false).top.startNext = some 0 ∧ (startGo s false).top.startFrom = now s
      ∧ fld (startGo s false) Reg.TOP_START_STATUS F.TOP_START_STATUS_RESULT = 1 ∧ (startGo s false).ch = s.ch := by
  unfold startGo
  extract_lets v s1 s2
  rw [if_pos h]
  obtain ⟨h1, h2, h3, h4, h5, h6⟩ := startRecord (s := s) (t := s2) (v := v) (b := b2n false) startCheck_lt rfl
  have hv : v = 1 := h
  rw [hv] at h2
  clear_value s2
  generalize hw : ({ s2 with top := { s2.top with startNext := some 0, startFrom := now s2 }, est := { s2.est with reload := true } } : State) = w
  have w1 : w.top.startNext = some 0 := hw ▸ rfl
  have w2 : w.top.startFrom = now s2 := hw ▸ rfl
  have w3 : w.ch = s2.ch := hw ▸ rfl
  have w4 : w.img = s2.img := hw ▸ rfl
  have w5 : w.active = s2.active := hw ▸ rfl
  have w6 : w.regs = s2.regs := hw ▸ rfl
  rw [stagesDue_waits w1 (by rw [stageDelay_of (w4.trans h4)]; exact hd) (by rw [stageEn_of (w4.trans h4) (w5.trans h5)]; exact he)]
  have hm : maybeRun w true = w := by
    unfold maybeRun
    exact if_neg fun hc => by simp [w1] at hc
  rw [hm]
  refine ⟨w1, w2.trans ?_, ?_, w3.trans h3⟩
  · unfold now
    rw [h6]
  · unfold fld rd at h2 ⊢
    rwa [w6]

theorem startRequest_begins {who : Initiator} (ha : admits s who Reg.TOP_START 1 = true) (h : startCheck s = 1) (hd : stageDelay s 0 ≠ 0) (he : stageEn s 0 ≠ []) :
    Runs (.startRequest who) s (fun t => t.top.startNext = some 0 ∧ t.top.startFrom = now s ∧ fld t Reg.TOP_START_STATUS F.TOP_START_STATUS_RESULT = 1 ∧ t.ch = s.ch) :=
  ⟨_, congrArg Outcome.next (gated_of_admits _ _ _ _ _ ha), startGo_begins (s := { s with resp := .none }) h hd he⟩

theorem startRequest_refused {who : Initiator} (ha : admits s who Reg.TOP_START 1 = true) (h : startCheck s ≠ 1) :
    Runs (.startRequest who) s (fun t => t.top = s.top ∧ fld t Reg.TOP_START_STATUS F.TOP_START_STATUS_RESULT = startCheck s ∧ t.ch = s.ch) :=
  ⟨_, congrArg Outcome.next (gated_of_admits _ _ _ _ _ ha), startGo_refused (s := { s with resp := .none }) h⟩

/-! ## The soft start of a stage's rails -/

/-- The channel of a rail. -/
def chCell (r : Nat) (s : State) : ChSt := chOf s r

theorem chCell_of {W : Blocks} (h : Evolves W s t) (hW : W.ch = false := by rfl) : Shows (chCell r) s t := chOf_of_ch (h.ch_eq hW) r

theorem chCell_setCh {f : ChSt → ChSt} (h : q ≠ r) : Shows (chCell r) s (setCh s q f) := (chOf_setCh q r f).trans (if_neg h)

theorem chCell_softStart (h : q ≠ r) : Shows (chCell r) s (softStart s q) := by
  have hgrow (u : State) : Shows (chCell r) u (schedGrow u q) := by
    unfold schedGrow
    extract_lets l v
    exact .both .refl (.trans (t := v) (chCell_setCh h) (.forEach fun _ _ => chCell_of setPh_evolves))
  have hall (u : State) : Shows (chCell r) u (allActive u q) := by
    unfold allActive
    extract_lets v w
    have h1 : Shows (chCell r) u v := .forEach fun _ _ => chCell_of setPh_evolves
    have h2 : Shows (chCell r) v w := .both (chCell_setCh h) .refl
    exact h1.trans (h2.trans (hgrow w))
  have hper (u : State) (k : Nat) : Shows (chCell r) u (newPeriod u q k) := by
    unfold newPeriod
    extract_lets l v
    exact .trans (t := v) (chCell_setCh h) (.forEach fun _ _ => chCell_of setPh_evolves)
  unfold softStart
  split
  · exact .refl
  · extract_lets s1 s2 ms s3 s4 n s5 s6
    have h1 : Shows (chCell r) s s1 := chCell_of senHigh_evolves
    have h2 : Shows (chCell r) s1 s2 := .forEach fun _ _ => chCell_of setPh_evolves
    have h3 : Shows (chCell r) s2 s3 := chCell_setCh h
    have h4 : Shows (chCell r) s3 s4 := (hall s3).trans (hper _ _)
    have h5 : Shows (chCell r) s4 s5 := .forEach fun _ _ => chCell_of fabClear_evolves
    have h6 : Shows (chCell r) s5 s6 := chCell_setCh h
    clear_value s6 s5 s4 s3 s2 s1
    exact h1.trans (h2.trans (h3.trans (h4.trans (h5.trans (h6.trans (.both (chCell_of enterState_evolves) (.both (chCell_of enterState_evolves) .refl)))))))

/-- A rail that may start is in soft start after it. -/
theorem railState_softStart (hl : railLatched s r = false) (hr : running s r = false) : railState (softStart s r) r = .soft := by
  unfold softStart
  rw [if_neg (by simp [hl, hr])]
  extract_lets s1 s2 ms s3 s4 n s5 s6
  have h6 : railState s6 r = .soft := by
    unfold railState
    rw [chOf_setCh, if_pos rfl]
  clear_value s6
  have hk (d : DevState) : railState (enterState s6 d) r = .soft := by
    unfold railState at h6 ⊢
    rwa [chOf_of_ch (enterState_evolves.ch_eq rfl)]
  split
  · exact hk _
  · split
    · exact hk _
    · exact h6

/-- The device state after a soft start. -/
theorem state_softStart : (softStart s r).top.state
    = if railLatched s r = true ∨ running s r = true then s.top.state else if s.top.state = .loaded ∨ s.top.state = .run then .ramp else s.top.state := by
  unfold softStart
  by_cases h : railLatched s r = true ∨ running s r = true
  · rw [if_pos (by simpa using h), if_pos h]
  · rw [if_neg (by simpa using h), if_neg h]
    extract_lets s1 s2 ms s3 s4 n s5 s6
    have e1 : Evolves { quad := true } s s1 := senHigh_evolves
    have e2 : Evolves { ph := true } s1 s2 := .forEach fun _ _ => setPh_evolves
    have e3 : Evolves { ch := true } s2 s3 := setCh_evolves
    have e4 : Evolves { ch := true, ph := true } s3 s4 := allActive_evolves.trans newPeriod_evolves
    have e5 : Evolves { fab := true } s4 s5 := .forEach fun _ _ => fabClear_evolves
    have e6 : Evolves { ch := true } s5 s6 := setCh_evolves
    have ht : s6.top = s.top :=
      (e6.top_eq rfl).trans ((e5.top_eq rfl).trans ((e4.top_eq rfl).trans ((e3.top_eq rfl).trans ((e2.top_eq rfl).trans (e1.top_eq rfl)))))
    clear_value s6
    rw [ht]
    by_cases hl : s.top.state = .loaded
    · rw [if_pos hl, if_pos (.inl hl), enterState_top]
    · rw [if_neg hl]
      by_cases hr : s.top.state = .run
      · rw [if_pos hr, if_pos (.inr hr), enterState_top]
      · rw [if_neg hr, if_neg (by simp [hl, hr]), ht]

/-- The rail is in soft start and the device in RAMP. -/
def SoftRamp (r : Nat) (s : State) : Prop := railState s r = .soft ∧ s.top.state = .ramp

theorem SoftRamp.softStart (h : SoftRamp r s) : SoftRamp r (softStart s q) := by
  obtain ⟨hs, ht⟩ := h
  refine ⟨?_, ?_⟩
  · by_cases hq : q = r
    · subst hq
      have : Machine.softStart s q = s := by
        unfold Machine.softStart running
        rw [hs]
        simp
      rw [this, hs]
    · exact (congrArg ChSt.state (chCell_softStart (s := s) hq).eq :).trans hs
  · rw [state_softStart, ht]
    split
    · rfl
    · rfl

theorem railLatched_of {F : List (Nat × Nat × Nat)} (h : RdBut F s t) (hF : F.all (misses · Reg.PROT_CH_LATCH) = true := by decide +kernel) :
    railLatched t r = railLatched s r := by
  unfold railLatched latchBit
  rw [h.rd_eq hF]

/-- A rail that waits for its start in LOADED or RAMP, or has begun it. -/
def MayStart (r : Nat) (s : State) : Prop :=
  railLatched s r = false ∧ (s.top.state = .loaded ∨ s.top.state = .ramp) ∧ (running s r = false ∨ SoftRamp r s)

theorem softRamp_of_mayStart (h : MayStart r s) : SoftRamp r (softStart s r) := by
  obtain ⟨hl, hs, hr | hr⟩ := h
  · refine ⟨railState_softStart hl hr, ?_⟩
    rw [state_softStart, if_neg (by simp [hl, hr])]
    rcases hs with h | h
    · rw [if_pos (.inl h)]
    · rw [h]
      rfl
  · exact hr.softStart

theorem MayStart.softStart (h : MayStart r s) : MayStart r (softStart s q) := by
  have h' := h
  obtain ⟨hl, hs, hr⟩ := h
  refine ⟨(railLatched_of softStart_rdBut).trans hl, ?_, ?_⟩
  · rw [state_softStart]
    rcases hs with h | h
    · rw [h]
      split <;> simp
    · rw [h]
      split <;> simp
  · by_cases hq : q = r
    · subst hq
      exact .inr (softRamp_of_mayStart h')
    · rcases hr with hr | hr
      · left
        unfold running railState at hr ⊢
        rwa [show chOf (Machine.softStart s q) r = chOf s r from (chCell_softStart (s := s) hq).eq]
      · exact .inr hr.softStart

theorem softRamp_beginStage {k : Nat} (hr : r ∈ stageEn s k) (h : MayStart r s) : SoftRamp r (beginStage s k) := by
  unfold beginStage
  extract_lets u nxt
  have hu : SoftRamp r u := forEach_establishes (I := MayStart r) hr (fun _ _ h => h.softStart) (fun _ h => softRamp_of_mayStart h) (fun _ _ _ h => h.softStart) h
  clear_value u
  exact hu

theorem SoftRamp.beginStage {k : Nat} (h : SoftRamp r s) : SoftRamp r (beginStage s k) := by
  unfold Machine.beginStage
  extract_lets u nxt
  have hu : SoftRamp r u := forEach_keeps (fun _ _ h => h.softStart) h
  clear_value u
  exact hu

theorem SoftRamp.stagesDue {n : Nat} (h : SoftRamp r s) : SoftRamp r (stagesDue n s) := by
  induction n generalizing s with
  | zero => exact h
  | succ n ih =>
    unfold Machine.stagesDue
    split
    · exact h
    · split
      · exact ih h.beginStage
      · exact h

theorem startStage_results {k : Nat} (hn : s.top.startNext = some k) (hp : prevStageDone s k = true) (hw : wholeReset s = false)
    (hs : s.top.state = .loaded ∨ s.top.state = .ramp) (hr : r ∈ stageEn s k) (hl : railLatched s r = false) (hrun : running s r = false) (hrr : r ∈ rails s) :
    Runs .startStage s (fun t => railState t r = .soft ∧ t.top.state = .ramp) := by
  show ∃ t, execStartStage s = .next t ∧ _
  unfold execStartStage
  rw [hn]
  dsimp -zeta only
  rw [if_pos ⟨hp, by simp [hw]⟩]
  extract_lets u
  refine ⟨_, rfl, ?_⟩
  have e : Evolves { tb := true } s u := reach_evolves
  clear_value u
  have hm : MayStart r u := by
    refine ⟨(railLatched_of (F := []) (.of_evolves e)).trans hl, by rw [e.top_eq rfl]; exact hs, .inl ?_⟩
    rw [running_of_ch (e.ch_eq rfl)]
    exact hrun
  have hq : SoftRamp r (stagesDue 8 (beginStage u k)) := (softRamp_beginStage (by rw [stageEn_of (e.img_eq rfl) (e.active_eq rfl)]; exact hr) hm).stagesDue
  have e2 := (beginStage_evolves (s := u) (k := k)).trans stagesDue_evolves (u := stagesDue 8 (beginStage u k))
  have hlat : railLatched (stagesDue 8 (beginStage u k)) r = false := (railLatched_of stagesDue_rdBut).trans ((railLatched_of beginStage_rdBut).trans hm.1)
  generalize stagesDue 8 (beginStage u k) = v at hq e2 hlat
  have hv : maybeRun v true = v := by
    unfold maybeRun
    refine if_neg fun hc => ?_
    have hall := List.all_eq_true.1 hc.2.2.2 r (by rw [rails_of_img (e2.img_eq rfl), rails_of_img (e.img_eq rfl)]; exact hrr)
    have hen : railEn v r = true := by
      unfold railEn
      rw [aOn_of_active (e2.active_eq rfl), aOn_of_active (e.active_eq rfl)]
      exact (List.mem_filter.1 hr).2
    unfold countsReg at hall
    rw [hen, hlat, hq.1] at hall
    cases hall
  rw [hv]
  exact hq

/-! ## Stop -/

theorem Shows.stopping (h : Shows topButDis s t) : t.top.stopping = s.top.stopping := congrArg TopSt.stopping (a₁ := topButDis t) (a₂ := topButDis s) h

theorem Shows.startNext (h : Shows topButDis s t) : t.top.startNext = s.top.startNext := congrArg TopSt.startNext (a₁ := topButDis t) (a₂ := topButDis s) h

theorem inDisOrder_ne_nil {l : List DisItem} (h : l ≠ []) : inDisOrder s l ≠ [] := by
  obtain ⟨x, hx⟩ := List.exists_mem_of_ne_nil l h
  unfold inDisOrder
  intro hn
  obtain ⟨h1, h2⟩ := List.append_eq_nil_iff.1 hn
  by_cases hc : x.rail ∈ dischargeOrder s
  · have := List.filterMap_eq_nil_iff.1 h1 _ hc
    rw [List.find?_eq_none] at this
    exact this x hx (by simp)
  · have := List.filter_eq_nil_iff.1 h2 x hx
    simp [hc] at this

theorem sweep_switching {l : List DisItem} {f : State → DisItem → State} (h : ∀ d ∈ l, d.maySwitch = true) :
    forEach l s (fun s d => if d.maySwitch then s else f s d) = s := by
  induction l with
  | nil => rfl
  | cons d l ih =>
    rw [forEach_cons, if_pos (h d List.mem_cons_self)]
    exact ih fun x hx => h x (List.mem_cons_of_mem _ hx)

/-- A switched discharge of all rails leaves those that run in its order, and begins at the head. -/
theorem dischargeAll_switched (hd : s.top.dis = []) :
    (dischargeAll s true).top.dis = [] ↔ ∀ r ∈ rails s, running s r = false := by
  unfold dischargeAll discharge
  extract_lets items u q
  have hms : ∀ d ∈ items, d.maySwitch = true := by
    intro d hd
    obtain ⟨r, -, rfl⟩ := List.mem_map.1 (List.mem_filter.1 hd).1
    rfl
  have hu : u = s := sweep_switching hms
  clear_value u
  subst hu
  rw [hd]
  dsimp only
  rw [disHead_evolves.top_eq rfl]
  show inDisOrder u items = [] ↔ _
  have hi : items = [] ↔ ∀ r ∈ rails u, running u r = false := by
    rw [List.filter_eq_nil_iff]
    constructor
    · intro h r hr
      have := h _ (List.mem_map_of_mem hr)
      simpa using this
    · intro h d hd
      obtain ⟨r, hr, rfl⟩ := List.mem_map.1 hd
      simpa using h r hr
  rw [← hi]
  constructor
  · intro h
    by_contra hne
    exact inDisOrder_ne_nil hne h
  · intro h
    rw [h]
    unfold inDisOrder
    simp

/-- A discharge with nothing to discharge changes no channel. -/
theorem ch_dischargeAll_idle (hd : s.top.dis = []) (h : ∀ r ∈ rails s, running s r = false) : (dischargeAll s true).ch = s.ch := by
  unfold dischargeAll discharge
  extract_lets items u q
  have hi : items = [] := by
    rw [List.filter_eq_nil_iff]
    intro d hd
    obtain ⟨r, hr, rfl⟩ := List.mem_map.1 hd
    simpa using h r hr
  clear_value items
  subst hi
  have hu : u = s := rfl
  have hq : q = [] := by
    show inDisOrder u [] = []
    unfold inDisOrder
    simp
  clear_value q u
  subst hq hu
  rw [hd]
  dsimp only
  unfold disHead
  rfl

theorem stopRequest_discharges {who : Initiator} (ha : admits s who Reg.TOP_START 2 = true) (hs : s.top.state = .ramp ∨ s.top.state = .run) (hd : s.top.dis = [])
    (hr : ∃ r ∈ rails s, running s r = true) :
    Runs (.stopRequest who) s (fun t => t.top.stopping = true ∧ t.top.startNext = none ∧ fld t Reg.TOP_START_STATUS F.TOP_START_STATUS_RESULT = 8) := by
  refine ⟨_, congrArg Outcome.next (gated_of_admits _ _ _ _ _ ha), ?_⟩
  unfold startStop
  rw [if_pos hs]
  extract_lets _ u v
  have hu : u.top.stopping = true ∧ u.top.startNext = none ∧ u.top.dis = [] := ⟨rfl, rfl, hd⟩
  have huf : fld u Reg.TOP_START_STATUS F.TOP_START_STATUS_RESULT = 8 := fld_setF_same _ _ _ _ (by decide)
  have hch : u.ch = s.ch := rfl
  have him : u.img = s.img := rfl
  clear_value u
  obtain ⟨hu1, hu2, hu3⟩ := hu
  have hv : ¬ v.top.dis = [] := by
    rw [show v.top.dis = (dischargeAll u true).top.dis from rfl, dischargeAll_switched hu3]
    obtain ⟨r, hr, hrun⟩ := hr
    intro h
    have := h r (by rw [rails_of_img him]; exact hr)
    rw [running_of_ch hch, hrun] at this
    cases this
  have hk : Shows topButDis u v := topButDis_dischargeAll
  have hf : RdBut dischargeRegs u v := dischargeAll_dischargeRegs
  clear_value v
  rw [if_neg hv]
  exact ⟨hk.stopping.trans hu1, hk.startNext.trans hu2, (hf.fld_eq _).trans huf⟩

theorem stopRequest_ends {who : Initiator} (ha : admits s who Reg.TOP_START 2 = true) (hs : s.top.state = .ramp ∨ s.top.state = .run) (hd : s.top.dis = [])
    (hr : ∀ r ∈ rails s, running s r = false) :
    Runs (.stopRequest who) s (fun t => t.top.stopping = false ∧ t.top.state = .loaded ∧ fld t Reg.TOP_START_STATUS F.TOP_START_STATUS_RESULT = 9) := by
  refine ⟨_, congrArg Outcome.next (gated_of_admits _ _ _ _ _ ha), ?_⟩
  unfold startStop
  rw [if_pos hs]
  extract_lets _ u v
  have hu : u.top.stopping = true ∧ u.top.state = s.top.state ∧ u.top.dis = [] := ⟨rfl, rfl, hd⟩
  have hch : u.ch = s.ch := rfl
  have him : u.img = s.img := rfl
  clear_value u
  obtain ⟨hu1, hu2, hu3⟩ := hu
  have hru : ∀ r ∈ rails u, running u r = false := fun r h => by
    rw [running_of_ch hch]
    exact hr r (by rwa [rails_of_img him] at h)
  have hv : v.top.dis = [] := (dischargeAll_switched hu3).2 hru
  have hk : Shows topButDis u v := topButDis_dischargeAll
  have hvc : v.ch = u.ch := ch_dischargeAll_idle hu3 hru
  have hvi : v.img = u.img := dischargeAll_evolves.img_eq rfl
  clear_value v
  rw [if_pos hv]
  unfold disDone
  rw [if_pos (hk.stopping.trans hu1)]
  extract_lets _ w
  have hw : w.top.stopping = false ∧ w.top.state = v.top.state := ⟨rfl, rfl⟩
  have hwf : fld w Reg.TOP_START_STATUS F.TOP_START_STATUS_RESULT = 9 := fld_setF_same _ _ _ _ (by decide)
  have hwc : w.ch = v.ch := rfl
  have hwi : w.img = v.img := rfl
  clear_value w
  have hoff : allOff w = true := by
    unfold allOff
    rw [List.all_eq_true]
    intro r h
    rw [running_of_ch (hwc.trans hvc), hru r (by rwa [rails_of_img (hwi.trans hvi)] at h)]
    rfl
  rw [if_pos ⟨by rw [hw.2, state_of_topButDis hk, hu2]; exact hs, hoff⟩]
  have ht := enterState_top (s := w) .loaded
  refine ⟨?_, ?_, (enterState_rdBut.fld_eq _).trans hwf⟩
  · rw [ht]
    exact hw.1
  · rw [ht]

end

/-- Settles O21: power-on resets, the way to DECAF, and the start and stop of the rails. -/
theorem powerOnAndStartResults : Obligations.PowerOnAndStartResults :=
  ⟨⟨fun _ _ _ _ _ _ => porRelease_results, fun _ => porstAssert_results, fun _ _ => runSupplyLoss_results, fun _ => vauxHoldLoss_results,
    fun _ _ _ => powerOnSequenceDone_results, fun _ _ _ => decafOvervoltage_results, fun _ _ => vinArmed_results, fun _ => ⟨_, rfl, rfl, rfl⟩⟩,
   fun _ _ => startRequest_begins, fun _ _ => startRequest_refused, fun _ _ _ => startStage_results, fun _ _ => stopRequest_discharges,
   fun _ _ => stopRequest_ends⟩

end Sys2Proof.Machine
end

section
/-! PROOF. The evaluation of the divider targets (O38). -/

namespace Sys2Proof.Machine
open Host
set_option Elab.async false

section
variable {s t u : State} {p q : Nat}

/-! ## What a divider target reads -/

/-- What the divider target of a partition reads of its account. -/
def capKey (p : Nat) (s : State) : Nat × Nat × Nat × Bool := ((capOf s p).nPow, (capOf s p).powTerm, (capOf s p).nTh, (capOf s p).guard)

/-- The blocks that a divider target reads, but fabric and account. -/
structure CapSame (s t : State) : Prop where
  img : t.img = s.img
  active : t.active = s.active
  regs : t.regs = s.regs
  bt : t.bt = s.bt
  ch : t.ch = s.ch
  pb : t.pb = s.pb
  fq : t.fq = s.fq
  top : t.top = s.top
  sink : t.fab.sink = s.fab.sink
  key : ∀ p, capKey p t = capKey p s

section
variable (h : CapSame s t)
include h

theorem CapSame.duties : capDuties t p = capDuties s p := by
  have hw (r : Nat) : wideOthers t r = wideOthers s r := by
    unfold wideOthers wideMask fld rd
    rw [structured_of_img h.img, fr_of_img h.img, h.regs]
  have hp (r k : Nat) : memberPh t r k = memberPh s r k := by
    unfold memberPh widePh
    simp only [hw, fr_of_img h.img, railPhases_of_img h.img]
  have hr (r : Nat) : wideRatio t r = wideRatio s r := by
    unfold wideRatio memberPos
    simp only [wideRole_of_img h.img, railPhases_of_img h.img, chOf_of_ch h.ch]
    congr 4
    exact List.map_congr_left fun k _ => hp r k
  unfold capDuties sinkOf
  simp only [partRail_of_img h.img, framesOf_of_img h.img, h.sink, chOf_of_ch h.ch, aF_of_active h.active, hr]

theorem CapSame.req : capReq t p = capReq s p := by
  unfold capReq sinkOf
  simp only [framesOf_of_img h.img, h.sink, aF_of_active h.active]

theorem CapSame.terms : capTerms t p = capTerms s p := by
  obtain ⟨k1, k2, k3, k4⟩ : (capOf t p).nPow = (capOf s p).nPow ∧ (capOf t p).powTerm = (capOf s p).powTerm ∧ (capOf t p).nTh = (capOf s p).nTh
      ∧ (capOf t p).guard = (capOf s p).guard := by
    have := h.key p
    simp only [capKey, Prod.mk.injEq] at this
    exact this
  have hl (w : Nat) : actLocal t p w = actLocal s p w := by
    unfold actLocal
    rw [h.bt]
  have hn (n w : Nat) : actNode t n w = actNode s n w := by
    unfold actNode
    rw [h.bt]
  have hc : fceilTerms t p = fceilTerms s p := by
    unfold fceilTerms
    simp only [hl]
  have hs : safeN t p = safeN s p := aF_of_active h.active _ _
  have hsh : shedOn t = shedOn s := by
    have he (x : Supply) : shedEn t x = shedEn s x := by
      cases x <;> exact aOn_of_active h.active _ _
    unfold shedOn flag rd
    rw [h.regs, he, he]
  have hfl : floorTerms t p = floorTerms s p := by
    unfold floorTerms dieFallen
    rw [h.top, aF_of_active h.active, partDie_of_img h.img, dieOf_of_pb h.pb, hs]
  have hcur : curN t p = curN s p := by
    unfold curN
    rw [partOf_of_pb h.pb]
  have hr : rampHold t = rampHold s := by
    unfold rampHold rampRate inDomain
    simp only [aF_of_active h.active, structured_of_img h.img, framesOf_of_img h.img, ownNode_of_img h.img, hn, h.fq]
  have hg : groupTerms t p = groupTerms s p := by
    unfold groupTerms
    rw [aF_of_active h.active, aF_of_active h.active, k1, k2, k3]
  have hgc : gceilTerm t p = gceilTerm s p := by
    unfold gceilTerm
    rw [aF_of_active h.active, aF_of_active h.active, aOn_of_active h.active]
  unfold capTerms localTerms capLocked floorsOn
  rw [framesOf_of_img h.img, h.bt, hgc, hg, hc, hs, hsh, hfl, hcur, hr, k1, k2, k4, h.fq, aF_of_active h.active, aF_of_active h.active]

theorem CapSame.target : capTarget t p = capTarget s p := by
  unfold capTarget dutyOf capCeil
  rw [h.duties, h.req, h.terms]

theorem CapSame.bind : capBind t p = capBind s p := by
  unfold capBind dutyBinds capCeil
  rw [h.duties, h.req, h.terms]

end

theorem CapSame.refl : CapSame s s := ⟨rfl, rfl, rfl, rfl, rfl, rfl, rfl, rfl, rfl, fun _ => rfl⟩

theorem CapSame.trans (h : CapSame s t) (k : CapSame t u) : CapSame s u :=
  ⟨k.img.trans h.img, k.active.trans h.active, k.regs.trans h.regs, k.bt.trans h.bt, k.ch.trans h.ch, k.pb.trans h.pb, k.fq.trans h.fq, k.top.trans h.top,
    k.sink.trans h.sink, fun p => (k.key p).trans (h.key p)⟩

theorem capKey_setCap {f : CapPart → CapPart} (hf : ∀ x, ((f x).nPow, (f x).powTerm, (f x).nTh, (f x).guard) = (x.nPow, x.powTerm, x.nTh, x.guard)) :
    capKey p (setCap s q f) = capKey p s := by
  unfold capKey
  rw [capOf_setCap]
  split
  next h =>
    subst h
    exact hf _
  next => rfl

theorem capSame_pmRefresh : CapSame s (pmRefresh s) := by
  have e : Evolves { sbm := true } s (pmRefresh s) := pmRefresh_evolves
  refine ⟨e.img_eq rfl, e.active_eq rfl, e.regs_eq rfl, e.bt_eq rfl, e.ch_eq rfl, e.pb_eq rfl, e.fq_eq rfl, e.top_eq rfl, congrArg FabSt.sink (e.fab_eq rfl), fun p => ?_⟩
  unfold capKey
  rw [capOf_of_cap (e.cap_eq rfl)]

/-- The power of one partition added to its account. -/
def powerAdd (s : State) (p : Nat) : State :=
  setCap (setSrc s (0xC0 + p) (satI 24 (partI s p))) p (fun x => { x with pSum := x.pSum + partP (setSrc s (0xC0 + p) (satI 24 (partI s p))) p, pCnt := x.pCnt + 1 })

theorem capSame_powerAdd : CapSame s (powerAdd s p) :=
  ⟨rfl, rfl, rfl, rfl, rfl, rfl, rfl, rfl, rfl, fun _ => capKey_setCap fun _ => rfl⟩

theorem pCnt_powerAdd : (capOf (powerAdd s q) p).pCnt = (capOf s p).pCnt + if q = p then 1 else 0 := by
  unfold powerAdd
  rw [capOf_setCap]
  split
  next h =>
    subst h
    rfl
  next => rfl

theorem sumPower_eq : ∃ k n, sumPower s = { forEach (parts s) s powerAdd with cap := { (forEach (parts s) s powerAdd).cap with otherSum := k, otherCnt := n } } :=
  ⟨_, _, rfl⟩

theorem capSame_sumPower : CapSame s (sumPower s) := by
  obtain ⟨k, n, h⟩ := sumPower_eq (s := s)
  have hf : CapSame s (forEach (parts s) s powerAdd) := forEach_keeps (Q := CapSame s) (fun _ _ h => h.trans capSame_powerAdd) .refl
  rw [h]
  generalize forEach (parts s) s powerAdd = u at hf
  exact hf.trans ⟨rfl, rfl, rfl, rfl, rfl, rfl, rfl, rfl, rfl, fun _ => rfl⟩

theorem pCnt_sweep {l : List Nat} (hn : l.Nodup) (hp : p ∈ l) : (capOf (forEach l s powerAdd) p).pCnt = (capOf s p).pCnt + 1 := by
  have hout : ∀ (l : List Nat) (s : State), p ∉ l → (capOf (forEach l s powerAdd) p).pCnt = (capOf s p).pCnt := by
    intro l
    induction l with
    | nil => exact fun _ _ => rfl
    | cons q l ih =>
      intro s h
      rw [forEach_cons, ih _ fun hm => h (List.mem_cons_of_mem _ hm), pCnt_powerAdd, if_neg fun he => h (by simp [he]), Nat.add_zero]
  induction l generalizing s with
  | nil => cases hp
  | cons q l ih =>
    obtain ⟨hq, hn⟩ := List.nodup_cons.1 hn
    rw [forEach_cons]
    rcases List.mem_cons.1 hp with rfl | hm
    · rw [hout _ _ hq, pCnt_powerAdd, if_pos rfl]
    · rw [ih hn hm, pCnt_powerAdd, if_neg fun he => hq (by rw [he]; exact hm), Nat.add_zero]

theorem pCnt_sumPower (hp : p ∈ parts s) : (capOf (sumPower s) p).pCnt = (capOf s p).pCnt + 1 := by
  obtain ⟨k, n, h⟩ := sumPower_eq (s := s)
  have hf := pCnt_sweep (s := s) parts_nodup hp
  rw [h]
  generalize forEach (parts s) s powerAdd = u at hf
  exact hf

/-! ## What an evaluation keeps of other cells -/

/-- The cell of a partition, but the wait that a freeze sets. -/
def partSans (p : Nat) (s : State) : PartPbSt := { partOf s p with upWait := false }

theorem partSans_of {W : Blocks} (h : Evolves W s t) (hW : W.pb = false := by rfl) : Shows (partSans p) s t := by
  show partSans p t = partSans p s
  unfold partSans
  rw [partOf_of_pb (h.pb_eq hW)]

theorem partSans_plSend {d typ addr data : Nat} : Shows (partSans p) s (plSend s d typ addr data) := by
  show partSans p _ = partSans p s
  unfold partSans
  rw [plKept_plSend.partOf]

theorem partSans_holdUpdate : Shows (partSans p) s (holdUpdate s q) := by
  have hfr : Shows (partSans p) s (freezeHeld s q) := by
    unfold freezeHeld
    extract_lets s1 s2
    have h1 : Shows (partSans p) s s1 := by
      show partSans p s1 = partSans p s
      unfold partSans
      rw [partOf_setPart]
      split
      next h =>
        subst h
        rfl
      next => rfl
    have h2 : Shows (partSans p) s1 s2 := rfl
    clear_value s1 s2
    exact .both (h1.trans (h2.trans (partSans_of bump_evolves))) .refl
  unfold holdUpdate
  refine .trans (t := holdFreeze s q) ?_ (partSans_of holdCore_evolves)
  unfold holdFreeze
  extract_lets s1
  have h1 : Shows (partSans p) s s1 := hfr
  clear_value s1
  refine h1.trans ?_
  split
  · extract_lets k s2
    have h2 : Evolves { regs := true, cap := true } s1 s2 := reasonTime_evolves
    exact .trans (t := s2) (partSans_of h2) (partSans_of setCap_evolves)
  · exact .trans (t := setCap s1 _ _) (partSans_of setCap_evolves) (partSans_of reasonCount_evolves)
  · exact .refl

theorem partSans_thermRelease : Shows (partSans p) s (thermRelease s q) := by
  have hb : Shows (partSans p) s (balZero s q) := by
    unfold balZero
    split
    · exact .refl
    · unfold balSend
      extract_lets w x y
      exact .trans (t := setBal { s with fq := { s.fq with q8 := s.fq.q8 - w } } q _) rfl partSans_plSend
  unfold thermRelease
  exact .both (hb.trans (partSans_of raise_evolves)) .refl

theorem Shows.nTgt (h : Shows (partSans p) s t) : (Machine.partOf t p).nTgt = (Machine.partOf s p).nTgt := (congrArg PartPbSt.nTgt h.eq :)

theorem Shows.sent (h : Shows (partSans p) s t) : (Machine.partOf t p).sent = (Machine.partOf s p).sent := (congrArg PartPbSt.sent h.eq :)

theorem Shows.curN (h : Shows (partSans p) s t) : Machine.curN t p = Machine.curN s p := by
  have hn : (Machine.partOf t p).nCur = (Machine.partOf s p).nCur := (congrArg PartPbSt.nCur h.eq :)
  unfold Machine.curN
  rw [hn]

/-- A frequency sent to a die that is up. -/
theorem freqSend_sent {n : Nat} (h : dieUp s (partDie s p) = true) : (partOf (freqSend s p n) p).sent = some n := by
  unfold freqSend
  rw [if_pos h]
  extract_lets v
  rw [plKept_plSend.partOf, partOf_setPart, if_pos rfl]

theorem freqSend_nTgt {n : Nat} : (partOf (freqSend s p n) q).nTgt = (partOf s q).nTgt := by
  unfold freqSend
  split
  · extract_lets v
    rw [plKept_plSend.partOf, partOf_setPart]
    split
    next h =>
      subst h
      rfl
    next => rfl
  · rfl

/-- The counts of samples of the partitions' power. -/
def pCntOf (p : Nat) (s : State) : Nat := (capOf s p).pCnt

theorem pCntOf_of {W : Blocks} (h : Evolves W s t) (hW : W.cap = false := by rfl) : Shows (pCntOf p) s t := by
  show pCntOf p t = pCntOf p s
  unfold pCntOf
  rw [capOf_of_cap (h.cap_eq hW)]

theorem pCntOf_setCap {f : CapPart → CapPart} (hf : ∀ x, (f x).pCnt = x.pCnt) : Shows (pCntOf p) s (setCap s q f) := by
  show pCntOf p _ = pCntOf p s
  unfold pCntOf
  rw [capOf_setCap]
  split
  next h =>
    subst h
    exact hf _
  next => rfl

theorem pCntOf_reasonTime {r k : Nat} : Shows (pCntOf p) s (reasonTime s q r k) := by
  unfold reasonTime
  extract_lets x v
  have h1 : Shows (pCntOf p) s v := pCntOf_setCap fun _ => rfl
  clear_value v
  exact .both (h1.trans (pCntOf_of bump48_evolves)) .refl

theorem pCntOf_holdFreeze : Shows (pCntOf p) s (holdFreeze s q) := by
  unfold holdFreeze
  extract_lets s1
  have h1 : Shows (pCntOf p) s s1 := pCntOf_of freezeHeld_evolves
  clear_value s1
  refine h1.trans ?_
  split
  · exact .trans (t := reasonTime s1 q 5 _) pCntOf_reasonTime (pCntOf_setCap fun _ => rfl)
  · exact .trans (t := setCap s1 q (fun x => { x with frzFrom := some (now s1) })) (pCntOf_setCap fun _ => rfl) (pCntOf_of reasonCount_evolves)
  · exact .refl

theorem pCntOf_holdCore : Shows (pCntOf p) s (holdCore s q) := by
  unfold holdCore
  split
  · exact .trans (t := reasonTime s q 12 _) pCntOf_reasonTime (pCntOf_setCap fun _ => rfl)
  · exact .trans (t := setCap s q (fun x => { x with coreFrom := some (now s) })) (pCntOf_setCap fun _ => rfl) (pCntOf_of reasonCount_evolves)
  · exact .refl

theorem pCntOf_holdUpdate : Shows (pCntOf p) s (holdUpdate s q) := .trans (t := holdFreeze s q) pCntOf_holdFreeze pCntOf_holdCore

theorem pCntOf_pinUpdate {i : Nat} : Shows (pCntOf p) s (pinUpdate s i) := by
  unfold pinUpdate
  extract_lets was v
  have h1 : Shows (pCntOf p) s v := by
    refine .both ?_ .refl
    unfold pinAdd
    extract_lets ns w
    have h2 : Shows (pCntOf p) s w := pCntOf_of bumpBy_evolves
    clear_value w
    exact h2.trans rfl
  clear_value v
  exact h1.trans (.both (.both .refl rfl) rfl)

theorem pCntOf_evalPart : Shows (pCntOf p) s (evalPart s q) := by
  unfold evalPart
  extract_lets bind tgt req old s1 s2 s3 s4 s5 s6 s7
  have h1 : Shows (pCntOf p) s s1 := .forEach fun _ _ => .trans (.both .refl (pCntOf_of reasonCount_evolves)) pCntOf_reasonTime
  have h2 : Shows (pCntOf p) s1 s2 := pCntOf_of wrN_evolves
  have h3 : Shows (pCntOf p) s2 s3 := pCntOf_of wrN_evolves
  have h4 : Shows (pCntOf p) s3 s4 := pCntOf_of setPart_evolves
  have h5 : Shows (pCntOf p) s4 s5 := by
    refine .both ?_ .refl
    unfold lostThr
    extract_lets k
    exact .trans (t := setCap s4 q (fun x => { x with thrRem := k % 1024 })) (pCntOf_setCap fun _ => rfl) (pCntOf_of bump64_evolves)
  have h6 : Shows (pCntOf p) s5 s6 := .both (pCntOf_of wrN_evolves) .refl
  have h7 : Shows (pCntOf p) s6 s7 := .both (pCntOf_of gthrotCheck_evolves) .refl
  clear_value s1 s2 s3 s4 s5 s6 s7
  exact h1.trans (h2.trans (h3.trans (h4.trans (h5.trans (h6.trans (h7.trans (.trans (t := stepDown (thermRelease s7 q) q)
    (.trans (pCntOf_of thermRelease_evolves) (pCntOf_of stepDown_evolves)) pCntOf_holdUpdate)))))))

/-! ## Registers that an evaluation leaves alone -/

/-- The registers that an evaluation of one partition writes besides those of its own row. -/
def evalRegs : List (Nat × Nat × Nat) :=
  letterRegs 1 ++ waitRegs ++ [(Reg.DOM_CNT, 0, 0), (Reg.DOM_EVENT, 0, 0), (Reg.BAL_EVENT, 0, 0), (Reg.CAP_PIN_TIME 0, 4, 93)]

theorem bind_misses (hp : p < 32) : evalRegs.all (misses · (Reg.CAP_BIND p)) = true :=
  misses_fin (g := Reg.CAP_BIND) (n := 32) (by decide +kernel) ⟨p, hp⟩

theorem domRefuse_rdBut {cid result g : Nat} : RdBut evalRegs s (domRefuse s cid result g) := by
  unfold domRefuse
  extract_lets v
  have h : RdBut evalRegs s v := .trans (raise_rdBut0 (off := Reg.DOM_EVENT)).mono (bump_rdBut0 (off := Reg.DOM_CNT)).mono
  clear_value v
  exact .ite h (h.trans (postFrame_letterRegs rfl).mono)

theorem domStage_rdBut {c : DomCommit} : RdBut evalRegs s (domStage s c) := by
  unfold domStage
  exact .ite .refl (.ite .refl (.ite domRefuse_rdBut (.ite domRefuse_rdBut (.ite domRefuse_rdBut (.of_regs rfl)))))

theorem gthrotCheck_rdBut : RdBut evalRegs s (gthrotCheck s p) := by
  unfold gthrotCheck
  extract_lets f g n last lead reason s1 s2 tick s3
  have h1 : RdBut evalRegs s s1 := .of_regs rfl
  have h2 : RdBut evalRegs s1 s2 := (bump_rdBut0 (off := Reg.DOM_CNT)).mono
  have h3 : RdBut evalRegs s2 s3 := originate_rdBut.mono
  clear_value s3 s2 s1
  exact .ite (h1.trans (h2.trans (h3.trans domStage_rdBut))) .refl

theorem thermRelease_rdBut : RdBut evalRegs s (thermRelease s p) := by
  unfold thermRelease
  exact .ite (.trans (.of_evolves balZero_evolves) (raise_rdBut0 (off := Reg.BAL_EVENT)).mono) .refl

theorem pinAll_rdBut : RdBut evalRegs s (pinAll s) := by
  unfold pinAll
  refine .forEach_mem fun u i hi => ?_
  have hadd : RdBut evalRegs u (pinAdd u i) := by
    unfold pinAdd
    extract_lets ns v
    have h : RdBut [(Reg.CAP_PIN_TIME 0, 4, 93)] u v := by
      show RdBut _ u (bumpBy u (Reg.CAP_PIN_TIME 0 + 4 * i) wordF (ns / 1000000))
      exact wr_rdButN (List.mem_range.1 hi)
    clear_value v
    exact h.mono.trans (.of_regs rfl)
  unfold pinUpdate
  extract_lets was v
  have h1 : RdBut evalRegs u v := .ite hadd .refl
  clear_value v
  exact h1.trans (.ite (.ite .refl (.of_regs rfl)) (.of_regs rfl))

theorem fld_wrN_word {off n : Nat} : fld (wrN s off n) off ⟨0, 16⟩ = n % 2 ^ 16 := by
  unfold fld
  rw [rd_wrN_same]
  unfold fldOf
  rw [BitVec.toNat_ofNat]
  show n % 2 ^ 32 >>> 0 % 2 ^ 16 = _
  rw [Nat.shiftRight_zero]
  omega

theorem rd_lostThr_ite {n : Nat} (c : Prop) [Decidable c] : rd (if c then lostThr s p n else s) (Reg.CAP_BIND p) = rd s (Reg.CAP_BIND p) := by
  split
  · unfold lostThr
    extract_lets k
    exact rd_wr64_ne (by dsimp only [Reg.CAP_LOST_THR_LO, Reg.CAP_BIND]; omega) (by dsimp only [Reg.CAP_LOST_THR_LO, Reg.CAP_BIND]; omega)
  · rfl

theorem link_thermRelease {d : Nat} : (dieOf (thermRelease s p) d).link = (dieOf s d).link := by
  have hb : (dieOf (balZero s p) d).link = (dieOf s d).link := by
    unfold balZero
    split
    · rfl
    · unfold balSend
      rw [plKept_plSend.link]
      rfl
  unfold thermRelease
  split
  · rw [dieOf_of_pb (raise_evolves.pb_eq rfl), hb]
  · rfl

/-! ## The evaluation of a partition -/

theorem evalPart_nTgt_ne (hq : q ≠ p) : (partOf (evalPart s p) q).nTgt = (partOf s q).nTgt := by
  unfold evalPart
  extract_lets bind tgt req old s1 s2 s3 s4 s5 s6 s7
  have e3 : Evolves { regs := true, cap := true } s s3 := .trans accrueReasons_evolves.mono (.trans (t := s2) wrN_evolves.mono wrN_evolves.mono)
  clear_value s3
  have h4 : (partOf s4 q).nTgt = (partOf s q).nTgt := by rw [partOf_setPart, if_neg (Ne.symm hq), partOf_of_pb (e3.pb_eq rfl)]
  clear_value s4
  have e7 : Evolves { regs := true, drain := true, recd := true, tvl := true, dom := true, cap := true } s4 s7 :=
    .trans (t := s5) (.ite lostThr_evolves.mono .refl) (.trans (t := s6) (.ite wrN_evolves.mono .refl) (.ite gthrotCheck_evolves.mono .refl))
  clear_value s7
  rw [partSans_holdUpdate.nTgt]
  have hs (u : State) : (partOf (stepDown u p) q).nTgt = (partOf u q).nTgt := by
    unfold stepDown
    split
    · exact freqSend_nTgt
    · rfl
  rw [hs, partSans_thermRelease.nTgt, partOf_of_pb (e7.pb_eq rfl), h4]

theorem evalPart_results (hp : p < 32) (ha : acctOn s p = true) :
    (partOf (evalPart s p) p).nTgt = capTarget s p ∧ fld (evalPart s p) (Reg.CAP_BIND p) F.CAP_BIND_BIND = capBind s p % 2 ^ 16
      ∧ (capTarget s p < curN s p → dieUp s (partDie s p) = true → (partOf (evalPart s p) p).sent = some (capTarget s p)) := by
  unfold evalPart
  extract_lets bind tgt req old s1 s2 s3 s4 s5 s6 s7
  have e1 : Evolves { regs := true, cap := true } s s1 := accrueReasons_evolves
  clear_value s1
  have f2 : fld s2 (Reg.CAP_BIND p) F.CAP_BIND_BIND = bind % 2 ^ 16 := fld_wrN_word
  have e2 : Evolves { regs := true } s1 s2 := wrN_evolves
  clear_value s2
  have e3 : Evolves { regs := true } s2 s3 := wrN_evolves
  have f3 : fld s3 (Reg.CAP_BIND p) F.CAP_BIND_BIND = fld s2 (Reg.CAP_BIND p) F.CAP_BIND_BIND :=
    fld_congr (rd_wrN_ne _ _ (by dsimp only [Reg.CAP_DUTY, Reg.CAP_BIND]; omega)) _
  clear_value s3
  have e4 : Evolves { pb := true } s3 s4 := setPart_evolves
  have n4 : (partOf s4 p).nTgt = tgt ∧ (partOf s4 p).nCur = (partOf s3 p).nCur := by
    rw [partOf_setPart, if_pos rfl]
    exact ⟨rfl, rfl⟩
  have l4 : s4.pb.die = s3.pb.die := rfl
  clear_value s4
  have e5 : Evolves { regs := true, cap := true } s4 s5 := .ite lostThr_evolves .refl
  have f5 : fld s5 (Reg.CAP_BIND p) F.CAP_BIND_BIND = fld s4 (Reg.CAP_BIND p) F.CAP_BIND_BIND := fld_congr (rd_lostThr_ite _) _
  clear_value s5
  have e6 : Evolves { regs := true } s5 s6 := .ite wrN_evolves .refl
  have f6 : fld s6 (Reg.CAP_BIND p) F.CAP_BIND_BIND = fld s5 (Reg.CAP_BIND p) F.CAP_BIND_BIND := by
    refine fld_congr ?_ _
    show rd (if capLocked s5 p then _ else s5) _ = _
    split
    · exact rd_wrN_ne _ _ (by dsimp only [Reg.CAP_PROP, Reg.CAP_BIND]; omega)
    · rfl
  clear_value s6
  have e7 : Evolves { regs := true, drain := true, recd := true, tvl := true, dom := true } s6 s7 := .ite gthrotCheck_evolves .refl
  have f7 : fld s7 (Reg.CAP_BIND p) F.CAP_BIND_BIND = fld s6 (Reg.CAP_BIND p) F.CAP_BIND_BIND := (RdBut.ite gthrotCheck_rdBut .refl).fld_eq _ (bind_misses hp)
  clear_value s7
  generalize hu : thermRelease s7 p = u
  have eu : Evolves { regs := true, pb := true, fq := true } s7 u := hu ▸ thermRelease_evolves
  have ku : Shows (partSans p) s7 u := hu ▸ partSans_thermRelease
  have lu (d : Nat) : (dieOf u d).link = (dieOf s7 d).link := hu ▸ link_thermRelease
  have fu : fld u (Reg.CAP_BIND p) F.CAP_BIND_BIND = fld s7 (Reg.CAP_BIND p) F.CAP_BIND_BIND := hu ▸ thermRelease_rdBut.fld_eq _ (bind_misses hp)
  have hpb : s7.pb = s4.pb := (e7.pb_eq rfl).trans ((e6.pb_eq rfl).trans (e5.pb_eq rfl))
  have hpb3 : s3.pb = s.pb := (e3.pb_eq rfl).trans ((e2.pb_eq rfl).trans (e1.pb_eq rfl))
  have himg : u.img = s.img := (eu.img_eq rfl).trans ((e7.img_eq rfl).trans ((e6.img_eq rfl).trans ((e5.img_eq rfl).trans ((e4.img_eq rfl).trans
    ((e3.img_eq rfl).trans ((e2.img_eq rfl).trans (e1.img_eq rfl)))))))
  have hch : u.ch = s.ch := (eu.ch_eq rfl).trans ((e7.ch_eq rfl).trans ((e6.ch_eq rfl).trans ((e5.ch_eq rfl).trans ((e4.ch_eq rfl).trans
    ((e3.ch_eq rfl).trans ((e2.ch_eq rfl).trans (e1.ch_eq rfl)))))))
  have htgt : (partOf u p).nTgt = tgt := by rw [ku.nTgt, partOf_of_pb hpb, n4.1]
  have hcur : curN u p = curN s p := by
    rw [ku.curN]
    unfold curN
    rw [partOf_of_pb hpb, n4.2, partOf_of_pb hpb3]
  have hup : dieUp u (partDie u p) = dieUp s (partDie s p) := by
    rw [partDie_of_img himg]
    refine dieUp_of_link ?_
    rw [lu, dieOf_of_pb hpb]
    unfold dieOf
    rw [l4, hpb3]
  refine ⟨?_, ?_, fun hlt hdie => ?_⟩
  · rw [partSans_holdUpdate.nTgt]
    unfold stepDown
    split
    · rw [freqSend_nTgt, htgt]
    · exact htgt
  · rw [(show RdBut evalRegs (stepDown u p) (holdUpdate (stepDown u p) p) from (holdUpdate_rdBut hp).mono).fld_eq _ (bind_misses hp), fld_congr (rd_of_regs (stepDown_evolves.regs_eq rfl) _), fu, f7, f6, f5,
      fld_congr (rd_of_regs (e4.regs_eq rfl) _), f3, f2]
  · rw [partSans_holdUpdate.sent]
    unfold stepDown
    rw [htgt]
    split
    · exact freqSend_sent (by rw [hup]; exact hdie)
    next hn =>
      have hacc : acctOn u p = true := (acctOn_of himg hch p).trans ha
      rw [hacc, hcur] at hn
      by_contra hne
      exact hn ⟨rfl, hlt, hne⟩

theorem targetEvaluation_results (hf : (parts s).filter (acctOn s) = [p]) :
    Runs .targetEvaluation s (fun t => (partOf t p).nTgt = capTarget s p ∧ fld t (Reg.CAP_BIND p) F.CAP_BIND_BIND = capBind s p % 2 ^ 16
      ∧ (capTarget s p < curN s p → dieUp s (partDie s p) = true → (partOf t p).sent = some (capTarget s p))
      ∧ (∀ q ∈ parts s, (capOf t q).pCnt = (capOf s q).pCnt + 1 ∧ (q ≠ p → (partOf t q).nTgt = (partOf s q).nTgt))) := by
  show ∃ t, execTargetEvaluation s = .next t ∧ _
  unfold execTargetEvaluation
  extract_lets u v
  refine ⟨_, rfl, ?_⟩
  have hm : p ∈ (parts s).filter (acctOn s) := by rw [hf]; exact List.mem_singleton_self p
  obtain ⟨hpp, ha⟩ := List.mem_filter.1 hm
  have hp := mem_parts_range hpp
  have hs : CapSame s (pmRefresh u) := capSame_sumPower.trans capSame_pmRefresh
  have hcnt (q : Nat) (hq : q ∈ parts s) : (capOf (pmRefresh u) q).pCnt = (capOf s q).pCnt + 1 :=
    (pCntOf_of pmRefresh_evolves (p := q)).eq.trans (pCnt_sumPower hq)
  have hl : (parts u).filter (acctOn u) = [p] := by
    have hk : CapSame s u := capSame_sumPower
    rw [parts_of_img hk.img, ← hf]
    exact List.filter_congr fun q _ => acctOn_of hk.img hk.ch q
  have hv : v = evalPart (pmRefresh u) p := by
    show forEach ((parts u).filter (acctOn u)) (pmRefresh u) evalPart = _
    rw [hl, forEach_cons, forEach_nil]
  clear_value v
  subst hv
  generalize pmRefresh u = w at hs hcnt
  obtain ⟨h1, h2, h3⟩ := evalPart_results (s := w) hp ((acctOn_of hs.img hs.ch p).trans ha)
  have ep : Evolves { regs := true, cap := true } (evalPart w p) (pinAll (evalPart w p)) := pinAll_evolves
  have hpart (q : Nat) : partOf (pinAll (evalPart w p)) q = partOf (evalPart w p) q := partOf_of_pb (ep.pb_eq rfl) q
  have hcur : curN w p = curN s p := by
    unfold curN
    rw [partOf_of_pb hs.pb]
  have hup : dieUp w (partDie w p) = dieUp s (partDie s p) := by
    rw [partDie_of_img hs.img]
    exact dieUp_of_link (by rw [dieOf_of_pb hs.pb])
  rw [hs.target] at h1 h3
  rw [hs.bind] at h2
  rw [hcur, hup] at h3
  refine ⟨by rw [hpart]; exact h1, ?_, fun a b => by rw [hpart]; exact h3 a b, fun q hq => ⟨?_, fun hne => ?_⟩⟩
  · rw [pinAll_rdBut.fld_eq _ (bind_misses hp)]
    exact h2
  · have hk : Shows (pCntOf q) w (pinAll (evalPart w p)) := pCntOf_evalPart.trans (.forEach fun _ _ => pCntOf_pinUpdate)
    exact hk.eq.trans (hcnt q hq)
  · rw [hpart, evalPart_nTgt_ne hne, partOf_of_pb hs.pb]

end

end Sys2Proof.Machine
end

section
/-! PROOF. Steps of a divider, the power and thermal loops, contention and snapshots (O38). -/

namespace Sys2Proof.Machine
open Host
set_option Elab.async false

section
variable {s t u : State} {p q : Nat}

/-! ## Steps sent to a die -/

theorem lastUp_freqSend {n : Nat} : (partOf (freqSend s p n) p).lastUp = (partOf s p).lastUp ∧ (partOf (freqSend s p n) p).tickAt = (partOf s p).tickAt := by
  unfold freqSend
  split
  · extract_lets v
    rw [plKept_plSend.partOf, partOf_setPart, if_pos rfl]
    exact ⟨rfl, rfl⟩
  · exact ⟨rfl, rfl⟩

theorem freqStepSend_results {part : PartIx} (ho : stepUpOk s part.val = true) (hc : curN s part.val < (partOf s part.val).nTgt) :
    Runs (.freqStepSend part) s (fun t => (partOf t part.val).lastUp = now t
      ∧ (partOf t part.val).sent = some (min (curN s part.val + aF s (Reg.PB_PART_CFG part.val) F.PB_PART_CFG_FSTEP) (partOf s part.val).nTgt)) := by
  show ∃ t, execFreqStepSend part s = .next t ∧ _
  unfold execFreqStepSend
  extract_lets p u v
  rw [if_pos ⟨ho, hc⟩]
  refine ⟨_, rfl, ?_⟩
  have e1 : Evolves { tb := true } s u := reach_evolves
  clear_value u
  have e2 : Evolves { pb := true } u v := setPart_evolves
  have hv : partOf v p = { partOf s p with lastUp := now u } := by
    rw [partOf_setPart, if_pos rfl, partOf_of_pb (e1.pb_eq rfl)]
  have hl (d : Nat) : dieOf v d = dieOf s d := by
    unfold dieOf
    show tabGet {} u.pb.die d = _
    rw [e1.pb_eq rfl]
  clear_value v
  have hup : dieUp v (partDie v p) = true := by
    rw [partDie_of_img ((e2.img_eq rfl).trans (e1.img_eq rfl)), dieUp_of_link (congrArg DieSt.link (hl _))]
    unfold stepUpOk at ho
    simp only [Bool.and_eq_true] at ho
    obtain ⟨⟨⟨⟨⟨-, h⟩, -⟩, -⟩, -⟩, -⟩ := ho
    exact h
  constructor
  · rw [lastUp_freqSend.1, hv, now_of freqSend_evolves, now_of e2]
  · rw [freqSend_sent hup]
    unfold curN
    rw [hv, aF_of_active ((e2.active_eq rfl).trans (e1.active_eq rfl))]

theorem tickFreqSend_results {part : PartIx} {tick : Nat} {v : State} (hv : tickView s part.val = some (tick, v)) (ha : acctOn s part.val = true)
    (hn : capTarget v part.val ≠ (partOf s part.val).nTgt) (ht : (partOf s part.val).tickAt ≠ some tick) (hup : dieUp s (partDie s part.val) = true) :
    Runs (.tickFreqSend part) s (fun t => (partOf t part.val).tickAt = some tick
      ∧ (capTarget v part.val < curN s part.val → (partOf t part.val).sent = some (capTarget v part.val))) := by
  show ∃ t, execTickFreqSend part s = .next t ∧ _
  unfold execTickFreqSend
  extract_lets p d
  have hv' : tickView s p = some (tick, v) := hv
  rw [hv']
  dsimp -zeta only
  extract_lets n u w x
  rw [if_pos ⟨ha, hn, ht⟩]
  have e1 : Evolves { tb := true } s u := reach_evolves
  clear_value u
  have e2 : Evolves { pb := true } u w := setPart_evolves
  have hw : partOf w p = { partOf s p with tickAt := some tick, tickN := n } := by
    rw [partOf_setPart, if_pos rfl, partOf_of_pb (e1.pb_eq rfl)]
  have hl (d : Nat) : dieOf w d = dieOf s d := by
    unfold dieOf
    show tabGet {} u.pb.die d = _
    rw [e1.pb_eq rfl]
  have hcur : curN w p = curN s p := by
    unfold curN
    rw [hw]
  clear_value w
  have hupw : dieUp w (partDie w p) = true := by
    rw [partDie_of_img ((e2.img_eq rfl).trans (e1.img_eq rfl)), dieUp_of_link (congrArg DieSt.link (hl _))]
    exact hup
  have hx : (partOf x p).tickAt = some tick := by rw [partOf_setPart, if_pos rfl, hw]
  clear_value x
  by_cases hlt : n < curN w p
  · rw [if_pos hlt]
    exact ⟨_, rfl, by rw [lastUp_freqSend.2, hw], fun _ => freqSend_sent hupw⟩
  · rw [if_neg hlt]
    have hno : ¬ capTarget v part.val < curN s part.val := by
      rw [hcur] at hlt
      exact hlt
    split
    · exact ⟨_, rfl, by rw [lastUp_freqSend.2, hx], fun h => absurd h hno⟩
    · exact ⟨_, rfl, by rw [hw], fun h => absurd h hno⟩

/-! ## The loops -/

/-- The bounded and slewed output of a loop. -/
def loopBound (s : State) (p old : Nat) (raw : Int) : Nat :=
  max (clampI (loopLo s p) (loopHi s p) raw).toNat (old - aF s (Reg.CAP_ENV2 p) F.CAP_ENV2_SLEW)

theorem loopOut_fst {old : Nat} {raw : Int} : (loopOut s p old raw).1 = loopBound s p old raw := by
  unfold loopOut loopBound
  dsimp only
  split <;> omega

theorem loopBound_of (ha : t.active = s.active) (hp : t.pb = s.pb) {old : Nat} {raw : Int} : loopBound t p old raw = loopBound s p old raw := by
  unfold loopBound loopHi loopLo curN
  simp only [aF_of_active ha, partOf_of_pb hp]

/-- What a step of the power loop for another partition keeps. -/
structure PowKept (s t : State) (p : Nat) : Prop where
  img : t.img = s.img
  active : t.active = s.active
  bt : t.bt = s.bt
  ch : t.ch = s.ch
  pb : t.pb = s.pb
  vin : rd t Reg.LAD_VIN = rd s Reg.LAD_VIN
  other : t.cap.pOther = s.cap.pOther
  cell : capOf t p = capOf s p

theorem PowKept.refl : PowKept s s p := ⟨rfl, rfl, rfl, rfl, rfl, rfl, rfl, rfl⟩

theorem PowKept.trans (h : PowKept s t p) (k : PowKept t u p) : PowKept s u p :=
  ⟨k.img.trans h.img, k.active.trans h.active, k.bt.trans h.bt, k.ch.trans h.ch, k.pb.trans h.pb, k.vin.trans h.vin, k.other.trans h.other, k.cell.trans h.cell⟩

theorem PowKept.limit (h : PowKept s t p) : powLimit t p = powLimit s p := by
  have hl (w : Nat) : actLocal t p w = actLocal s p w := by
    unfold actLocal
    rw [h.bt]
  unfold powLimit powLimits floorsOn fld
  simp only [aF_of_active h.active, parts_of_img h.img, hl, h.bt, h.vin, h.other]

theorem satU16_lt {x : Int} : satU 16 x < 2 ^ 16 := by
  unfold satU clampI
  split
  · decide
  · split
    · decide
    · omega

theorem fld_wrN_halves {off a b : Nat} (ha : a < 2 ^ 16) (hb : b < 2 ^ 16) :
    fld (wrN s off (a + b * 2 ^ 16)) off ⟨0, 16⟩ = a ∧ fld (wrN s off (a + b * 2 ^ 16)) off ⟨16, 16⟩ = b := by
  unfold fld
  rw [rd_wrN_same]
  exact ⟨fldOf_strap (by omega) (by omega), fldOf_strap (by omega) (by omega)⟩

theorem powKept_powStep (hq : q ≠ p) (hq32 : q < 32) : PowKept s (powStep s q) p ∧ rd (powStep s q) (Reg.CAP_PWR p) = rd s (Reg.CAP_PWR p) := by
  unfold powStep
  extract_lets x meas lim k z s1 s2 out s3
  have e1 : Evolves { freeCtr := true } s s1 := .iteSnd drawInt_evolves .refl
  have k1 : PowKept s s1 p := ⟨e1.img_eq rfl, e1.active_eq rfl, e1.bt_eq rfl, e1.ch_eq rfl, e1.pb_eq rfl, rd_of_regs (e1.regs_eq rfl) _,
    congrArg CapSt.pOther (e1.cap_eq rfl), capOf_of_cap (e1.cap_eq rfl) p⟩
  have r1 : rd s1 (Reg.CAP_PWR p) = rd s (Reg.CAP_PWR p) := rd_of_regs (e1.regs_eq rfl) _
  clear_value s1
  have hne : Reg.CAP_PWR q ≠ Reg.LAD_VIN := by
    dsimp only [Reg.CAP_PWR, Reg.LAD_VIN]
    omega
  have hne' : Reg.CAP_PWR q ≠ Reg.CAP_PWR p := by
    dsimp only [Reg.CAP_PWR]
    omega
  have k2 : PowKept s1 s2 p := ⟨rfl, rfl, rfl, rfl, rfl, rd_wrN_ne _ _ hne, rfl,
    show capOf (setCap s1 q (fun x => { x with pSum := 0, pCnt := 0 })) p = capOf s1 p from (capOf_setCap q p _).trans (if_neg hq)⟩
  have r2 : rd s2 (Reg.CAP_PWR p) = rd s1 (Reg.CAP_PWR p) := rd_wrN_ne _ _ hne'
  clear_value s2
  have k3 : PowKept s2 s3 p := ⟨rfl, rfl, rfl, rfl, rfl, rfl, rfl,
    show capOf (setCap s2 q (fun x => { x with nPow := out.1, powTerm := lim.2 })) p = capOf s2 p from (capOf_setCap q p _).trans (if_neg hq)⟩
  have r3 : rd s3 (Reg.CAP_PWR p) = rd s2 (Reg.CAP_PWR p) := rfl
  clear_value s3
  split
  · exact ⟨k1.trans (k2.trans (k3.trans ⟨rfl, rfl, rfl, rfl, rfl, rfl, rfl, rfl⟩)), r3.trans (r2.trans r1)⟩
  · exact ⟨k1.trans k2, r2.trans r1⟩

/-- What a step of the power loop leaves of its partition. -/
def PowResult (s t : State) (p : Nat) : Prop :=
  let lim := powLimit s p
  let meas := (capOf s p).pSum / (32000 * max (capOf s p).pCnt 1 : Nat)
  let k : Int := aF s (Reg.CAP_PWR_CFG p) F.CAP_PWR_CFG_KPOW
  fld t (Reg.CAP_PWR p) F.CAP_PWR_P = satU 16 meas ∧ fld t (Reg.CAP_PWR p) F.CAP_PWR_P_LIM = satU 16 lim.1 ∧ (capOf t p).pSum = 0 ∧ (capOf t p).pCnt = 0
    ∧ (acctOn s p = false → (capOf t p).nPow = (capOf s p).nPow)
    ∧ (acctOn s p = true → lim.1 ≠ 0 → (capOf t p).powTerm = lim.2
        ∧ (capOf t p).nPow = loopBound s p (capOf s p).nPow ((capOf s p).nPow + (k * 1024 * (lim.1 - meas)).fdiv (64 * lim.1)))

theorem powStep_results : PowResult s (powStep s p) p := by
  unfold PowResult powStep
  extract_lets lim meas k x meas' z s1 s2 out s3
  have e1 : Evolves { freeCtr := true } s s1 := .iteSnd drawInt_evolves .refl
  have hz : lim.1 ≠ 0 → z.1 = (k * 1024 * (lim.1 - meas)).fdiv (64 * lim.1) := fun h => congrArg Prod.fst (if_neg h)
  clear_value s1
  have c2 : capOf s2 p = { capOf s p with pSum := 0, pCnt := 0 } := by
    show capOf (setCap s1 p (fun x => { x with pSum := 0, pCnt := 0 })) p = _
    rw [capOf_setCap, if_pos rfl, capOf_of_cap (e1.cap_eq rfl)]
  obtain ⟨f1, f2⟩ := fld_wrN_halves (s := setCap s1 p (fun x => { x with pSum := 0, pCnt := 0 })) (off := Reg.CAP_PWR p) (satU16_lt (x := meas)) (satU16_lt (x := lim.1))
  have ha : acctOn s2 p = acctOn s p := acctOn_of (e1.img_eq rfl) (e1.ch_eq rfl) p
  have hb {old : Nat} {raw : Int} : (loopOut s2 p old raw).1 = loopBound s p old raw :=
    loopOut_fst.trans ((loopBound_of (s := s1) rfl rfl).trans (loopBound_of (e1.active_eq rfl) (e1.pb_eq rfl)))
  have g1 : fld s2 (Reg.CAP_PWR p) F.CAP_PWR_P = satU 16 meas := f1
  have g2 : fld s2 (Reg.CAP_PWR p) F.CAP_PWR_P_LIM = satU 16 lim.1 := f2
  have ho : out.1 = loopBound s p (capOf s p).nPow ((capOf s p).nPow + z.1) := hb
  clear_value s2
  have c3 : capOf s3 p = { capOf s p with pSum := 0, pCnt := 0, nPow := out.1, powTerm := lim.2 } := by rw [capOf_setCap, if_pos rfl, c2]
  have g3 : s3.regs = s2.regs := rfl
  clear_value s3 out z
  rw [ha]
  by_cases hacc : acctOn s p = true
  · rw [if_pos hacc]
    have hc : capOf ({ s3 with cap := { s3.cap with powPin := tabSet 0 s3.cap.powPin p out.2 } } : State) p = capOf s3 p := rfl
    rw [hc, c3]
    refine ⟨?_, ?_, rfl, rfl, fun h => ?_, fun _ hl => ⟨rfl, ?_⟩⟩
    · exact (fld_congr (rd_of_regs (t := { s3 with cap := { s3.cap with powPin := tabSet 0 s3.cap.powPin p out.2 } }) g3 _) _).trans g1
    · exact (fld_congr (rd_of_regs (t := { s3 with cap := { s3.cap with powPin := tabSet 0 s3.cap.powPin p out.2 } }) g3 _) _).trans g2
    · rw [hacc] at h
      cases h
    · rw [← hz hl]
      exact ho
  · rw [if_neg hacc, c2]
    exact ⟨g1, g2, rfl, rfl, fun _ => rfl, fun h => absurd h hacc⟩

theorem PowKept.result (h : PowKept s t p) (hr : PowResult t u p) : PowResult s u p := by
  unfold PowResult at hr ⊢
  simp only [h.limit, h.cell, aF_of_active h.active, acctOn_of h.img h.ch, loopBound_of h.active h.pb] at hr
  exact hr

/-- A later step for another partition keeps the result. -/
theorem PowResult.keeps (hr : PowResult s t p) (h : PowKept t u p) (hp : rd u (Reg.CAP_PWR p) = rd t (Reg.CAP_PWR p)) : PowResult s u p := by
  unfold PowResult fld at hr ⊢
  rw [h.cell, hp]
  exact hr

theorem powSweep_keeps {l : List Nat} (hl : ∀ x ∈ l, x < 32) (hm : p ∉ l) (hr : PowResult s t p) : PowResult s (forEach l t powStep) p := by
  induction l generalizing t with
  | nil => exact hr
  | cons q l ih =>
    obtain ⟨k, r⟩ := powKept_powStep (s := t) (q := q) (p := p) (fun he => hm (by simp [he])) (hl q List.mem_cons_self)
    exact ih (fun x hx => hl x (List.mem_cons_of_mem _ hx)) (fun h => hm (List.mem_cons_of_mem _ h)) (hr.keeps k r)

theorem powSweep {l : List Nat} (hn : l.Nodup) (hl : ∀ x ∈ l, x < 32) (hp : p ∈ l) : PowResult s (forEach l s powStep) p := by
  induction l generalizing s with
  | nil => cases hp
  | cons q l ih =>
    obtain ⟨hq, hn⟩ := List.nodup_cons.1 hn
    have hl' : ∀ x ∈ l, x < 32 := fun x hx => hl x (List.mem_cons_of_mem _ hx)
    rw [forEach_cons]
    rcases List.mem_cons.1 hp with rfl | hm
    · exact powSweep_keeps hl' hq powStep_results
    · exact (powKept_powStep (fun he => hq (by rw [he]; exact hm)) (hl q List.mem_cons_self)).1.result (ih hn hl' hm)

theorem powerLoopUpdate_results (hp : p ∈ parts s) : Runs .powerLoopUpdate s
    (PowResult { s with cap := { s.cap with pOther := s.cap.otherSum / (32000 * max s.cap.otherCnt 1 : Nat) } } · p) := by
  show ∃ t, execPowerLoopUpdate s = .next t ∧ _
  unfold execPowerLoopUpdate
  extract_lets u _ v
  refine ⟨_, rfl, ?_⟩
  have e1 : Evolves { tb := true } s u := reach_evolves
  have hk : PowKept { s with cap := { s.cap with pOther := s.cap.otherSum / (32000 * max s.cap.otherCnt 1 : Nat) } } v p := by
    have hc : u.cap = s.cap := e1.cap_eq rfl
    refine ⟨e1.img_eq rfl, e1.active_eq rfl, e1.bt_eq rfl, e1.ch_eq rfl, e1.pb_eq rfl, rd_of_regs (e1.regs_eq rfl) _, ?_, ?_⟩
    · show u.cap.otherSum / (32000 * max u.cap.otherCnt 1 : Nat) = _
      rw [hc]
    · show tabGet {} u.cap.part p = _
      rw [hc]
      rfl
  have hi : v.img = s.img := e1.img_eq rfl
  clear_value v
  rw [parts_of_img hi]
  exact hk.result (powSweep parts_nodup (fun _ => mem_parts_range) hp)

/-! ## The thermal loop -/

/-- What a step of the thermal loop for another partition keeps. -/
structure ThmKept (s t : State) (p : Nat) : Prop where
  img : t.img = s.img
  active : t.active = s.active
  ch : t.ch = s.ch
  pb : t.pb = s.pb
  cell : capOf t p = capOf s p

theorem ThmKept.trans (h : ThmKept s t p) (k : ThmKept t u p) : ThmKept s u p :=
  ⟨k.img.trans h.img, k.active.trans h.active, k.ch.trans h.ch, k.pb.trans h.pb, k.cell.trans h.cell⟩

theorem thmKept_thermStep (hq : q ≠ p) : ThmKept s (thermStep s q) p := by
  have hset (u : State) (f : CapPart → CapPart) : ThmKept u (setCap u q f) p := ⟨rfl, rfl, rfl, rfl, (capOf_setCap q p f).trans (if_neg hq)⟩
  unfold thermStep
  extract_lets x v
  suffices h : ThmKept s v p from h.trans (hset _ _)
  show ThmKept s (match x.tMax with | none => s | some t => _) p
  split
  · exact ⟨rfl, rfl, rfl, rfl, rfl⟩
  · extract_lets d d' w out y
    have h1 : ThmKept s w p := ⟨rfl, rfl, rfl, rfl, rfl⟩
    have h2 : ThmKept w y p := hset _ _
    clear_value y w
    split
    · exact h1
    · exact h1.trans (h2.trans ⟨rfl, rfl, rfl, rfl, rfl⟩)

/-- What a step of the thermal loop leaves of its partition. -/
def ThmResult (s t : State) (p : Nat) : Prop :=
  (capOf t p).tMax = none ∧ ((capOf s p).tMax = none ∨ acctOn s p = false → (capOf t p).nTh = (capOf s p).nTh)
    ∧ ∀ T : Int, (capOf s p).tMax = some T → acctOn s p = true → (dieOf s (partDie s p)).tempStale = false →
        (capOf t p).nTh = loopBound s p (capOf s p).nTh ((capOf s p).nTh
          + (aF s (Reg.CAP_THM_CFG p) F.CAP_THM_CFG_KTH : Int) * ((aF s (Reg.CAP_THM_CFG p) F.CAP_THM_CFG_TTGT : Int) - T) / 16)

/-- The step of the thermal loop on a temperature reported. -/
def thermTaken (s : State) (p : Nat) (T : Int) : State :=
  let x := capOf s p
  let d : Int := (aF s (Reg.CAP_THM_CFG p) F.CAP_THM_CFG_KTH : Nat) * ((aF s (Reg.CAP_THM_CFG p) F.CAP_THM_CFG_TTGT : Nat) - T) / 16
  let d := if (dieOf s (partDie s p)).tempStale then min d 0 else d
  let s := wrN s (Reg.CAP_TEMP p) (satS 16 T)
  if !acctOn s p then s else
  let out := loopOut s p x.nTh (x.nTh + d)
  let s := setCap s p (fun x => { x with nTh := out.1 })
  { s with cap := { s.cap with thPin := tabSet 0 s.cap.thPin p out.2 } }

theorem thermStep_none (h : (capOf s p).tMax = none) : thermStep s p = setCap s p (fun x => { x with tMax := none }) := by
  unfold thermStep
  dsimp only
  rw [h]

theorem thermStep_some {T : Int} (h : (capOf s p).tMax = some T) : thermStep s p = setCap (thermTaken s p T) p (fun x => { x with tMax := none }) := by
  unfold thermStep thermTaken
  dsimp only
  rw [h]

theorem nTh_thermTaken {T : Int} : (capOf (thermTaken s p T) p).nTh = if acctOn s p = true then loopBound s p (capOf s p).nTh ((capOf s p).nTh
    + (if (dieOf s (partDie s p)).tempStale = true then min ((aF s (Reg.CAP_THM_CFG p) F.CAP_THM_CFG_KTH : Int)
        * ((aF s (Reg.CAP_THM_CFG p) F.CAP_THM_CFG_TTGT : Int) - T) / 16) 0
      else (aF s (Reg.CAP_THM_CFG p) F.CAP_THM_CFG_KTH : Int) * ((aF s (Reg.CAP_THM_CFG p) F.CAP_THM_CFG_TTGT : Int) - T) / 16)) else (capOf s p).nTh := by
  unfold thermTaken
  extract_lets x d d' w out y
  have hw : w.img = s.img ∧ w.active = s.active ∧ w.ch = s.ch ∧ w.pb = s.pb ∧ w.cap = s.cap := ⟨rfl, rfl, rfl, rfl, rfl⟩
  clear_value w
  obtain ⟨w1, w2, w3, w4, w5⟩ := hw
  have ha : acctOn w p = acctOn s p := acctOn_of w1 w3 p
  have ho : out.1 = loopBound s p x.nTh (x.nTh + d') := loopOut_fst.trans (loopBound_of w2 w4)
  have hy : (capOf y p).nTh = out.1 := by rw [capOf_setCap, if_pos rfl]
  clear_value out y
  rw [ha]
  cases acctOn s p
  · exact congrArg CapPart.nTh (capOf_of_cap w5 p)
  · exact hy.trans ho

theorem thermStep_results : ThmResult s (thermStep s p) p := by
  unfold ThmResult
  cases hT : (capOf s p).tMax with
  | none =>
    rw [thermStep_none hT, capOf_setCap, if_pos rfl]
    exact ⟨rfl, fun _ => rfl, fun _ h => by cases h⟩
  | some T0 =>
    rw [thermStep_some hT, capOf_setCap, if_pos rfl]
    refine ⟨rfl, fun h => ?_, fun T h hacc hst => ?_⟩
    · rcases h with h | h
      · cases h
      · show (capOf (thermTaken s p T0) p).nTh = _
        rw [nTh_thermTaken, h]
        rfl
    · obtain rfl : T0 = T := by simpa using h
      show (capOf (thermTaken s p T0) p).nTh = _
      rw [nTh_thermTaken, if_pos hacc, hst]
      rfl

theorem ThmKept.result (h : ThmKept s t p) (hr : ThmResult t u p) : ThmResult s u p := by
  unfold ThmResult at hr ⊢
  simp only [h.cell, aF_of_active h.active, acctOn_of h.img h.ch, loopBound_of h.active h.pb, dieOf_of_pb h.pb, partDie_of_img h.img] at hr
  exact hr

theorem ThmResult.keeps (hr : ThmResult s t p) (h : ThmKept t u p) : ThmResult s u p := by
  unfold ThmResult at hr ⊢
  rw [h.cell]
  exact hr

theorem thermSweep {l : List Nat} (hn : l.Nodup) (hp : p ∈ l) : ThmResult s (forEach l s thermStep) p :=
  forEach_once (I := fun t => ThmKept s t p) (Q := fun t => ThmResult s t p) hn hp (fun _ _ hne h => h.trans (thmKept_thermStep hne))
    (fun _ h => h.result thermStep_results) (fun _ _ hne h => h.keeps (thmKept_thermStep hne)) ⟨rfl, rfl, rfl, rfl, rfl⟩

theorem thermalLoopUpdate_results (hp : p ∈ parts s) : Runs .thermalLoopUpdate s (ThmResult s · p) := by
  show ∃ t, execThermalLoopUpdate s = .next t ∧ _
  unfold execThermalLoopUpdate
  extract_lets u _ v
  refine ⟨_, rfl, ?_⟩
  have e1 : Evolves { tb := true } s u := reach_evolves
  have hk : ThmKept s v p := by
    refine ⟨e1.img_eq rfl, e1.active_eq rfl, e1.ch_eq rfl, e1.pb_eq rfl, ?_⟩
    show tabGet {} u.cap.part p = _
    rw [e1.cap_eq rfl]
    rfl
  clear_value v
  rw [parts_of_img hk.img]
  exact hk.result (thermSweep parts_nodup hp)

theorem thermalGuardRelease_results {part : PartIx} (hg : (capOf s part.val).guard = true) (hc : (capOf s part.val).coolFrom.isSome = true)
    (hst : (dieOf s (partDie s part.val)).tempStale = false)
    (ht : ∀ i ∈ partSitesF (framesOf s) part.val, sext 16 (fld s (Reg.PB_SITE (i / 64) (i % 64)) F.PB_SITE_TEMP)
      ≤ (aF s Reg.PROT_THERM F.PROT_THERM_CRIT : Int) - (aF s (Reg.CAP_THM_CFG part.val) F.CAP_THM_CFG_TGUARD * 16 : Nat) - 80) :
    Runs (.thermalGuardRelease part) s (fun t => (capOf t part.val).guard = false ∧ (capOf t part.val).nTh = (capOf s part.val).nTh) := by
  obtain ⟨k, hk⟩ := Option.isSome_iff_exists.1 hc
  have hcool : partCool s part.val = true := by
    unfold partCool
    rw [List.all_eq_true]
    exact fun i hi => decide_eq_true (ht i hi)
  show ∃ t, execThermalGuardRelease part s = .next t ∧ _
  unfold execThermalGuardRelease
  extract_lets p
  rw [show (capOf s p).coolFrom = some k from hk]
  dsimp only
  rw [if_pos ⟨hg, by simp [hst, p], hcool⟩]
  refine ⟨_, rfl, ?_⟩
  have e : Evolves { tb := true, sbm := true } s (pmRefresh (reach s (k + 1000000))) := reach_evolves.mono.trans pmRefresh_evolves.mono
  show (capOf (setCap _ p _) p).guard = false ∧ (capOf (setCap _ p _) p).nTh = _
  rw [capOf_setCap, if_pos rfl, capOf_of_cap (e.cap_eq rfl)]
  exact ⟨rfl, rfl⟩

/-! ## Contention -/

theorem pinAdd_rdBut {i : Nat} (hi : i < 96) : RdBut [(Reg.CAP_PIN_TIME 0, 4, 96)] s (pinAdd s i) := by
  unfold pinAdd
  extract_lets ns v
  have h : RdBut [(Reg.CAP_PIN_TIME 0, 4, 96)] s v := by
    show RdBut _ s (bumpBy s (Reg.CAP_PIN_TIME 0 + 4 * i) wordF (ns / 1000000))
    exact wr_rdButN hi
  clear_value v
  exact h.trans (.of_regs rfl)

theorem pinUpdate_rdBut {i : Nat} (hi : i < 96) : RdBut [(Reg.CAP_PIN_TIME 0, 4, 96)] s (pinUpdate s i) := by
  unfold pinUpdate
  extract_lets was v
  have h1 : RdBut [(Reg.CAP_PIN_TIME 0, 4, 96)] s v := .ite (pinAdd_rdBut hi) .refl
  clear_value v
  exact h1.trans (.ite (.ite .refl (.of_regs rfl)) (.of_regs rfl))

theorem dripCond_pinAdd {i r : Nat} (hi : i < 96) (hr : r < 8) : dripCond (pinAdd s i) r = dripCond s r := by
  have h : railI (pinAdd s i) r = railI s r := by
    unfold railI
    rw [(pinAdd_rdBut hi).rd_eq (misses_fin (g := Reg.CH_I) (by decide +kernel) (⟨r, hr⟩ : Fin 8))]
  unfold dripCond
  rw [h]
  rfl

/-- Bringing a contender's pinned time up to date changes nothing of why it is pinned. -/
theorem instPinned_pinAdd {i : Nat} (hi : i < 96) : instPinned (pinAdd s i) i = instPinned s i := by
  unfold instPinned
  by_cases h1 : i < 8
  · rw [if_pos h1, if_pos h1]
    rfl
  by_cases h2 : i < 16
  · rw [if_neg h1, if_pos h2, if_neg h1, if_pos h2]
    rfl
  by_cases h3 : i < 24
  · rw [if_neg h1, if_neg h2, if_pos h3, if_neg h1, if_neg h2, if_pos h3, dripCond_pinAdd hi (by omega)]
    rfl
  rw [if_neg h1, if_neg h2, if_neg h3, if_neg h1, if_neg h2, if_neg h3]
  by_cases h4 : i < 56
  · rw [if_pos h4, if_pos h4]
    rfl
  by_cases h5 : i < 88
  · rw [if_neg h4, if_pos h5, if_neg h4, if_pos h5]
    rfl
  by_cases h6 : i = 88
  · rw [if_neg h4, if_neg h5, if_pos h6, if_neg h4, if_neg h5, if_pos h6]
    rfl
  rw [if_neg h4, if_neg h5, if_neg h6, if_neg h4, if_neg h5, if_neg h6]
  by_cases h7 : i < 93
  · rw [if_pos h7, if_pos h7]
    have hw : (ac (pinAdd s i) Reg.CAP_WATCH).toNat / 256 ^ (i - 89) % 256 = (ac s Reg.CAP_WATCH).toNat / 256 ^ (i - 89) % 256 := rfl
    dsimp only
    rw [hw, (pinAdd_rdBut hi).rd_eq (misses_fin (g := Reg.FAB_PIN) (by decide +kernel)
      (⟨(ac s Reg.CAP_WATCH).toNat / 256 ^ (i - 89) % 256 % 128 / 32, by omega⟩ : Fin 4))]
  · rw [if_neg h7, if_neg h7]

/-- A contender that stays pinned. -/
theorem pinUpdate_pinned {i : Nat} (hi : i < 96) (hp : instPinned s i = true) (hf : tabGet 0 s.cap.pinFrom i ≠ 0) : pinUpdate s i = pinAdd s i := by
  have hw : (tabGet 0 s.cap.pinFrom i != 0) = true := by simpa using hf
  unfold pinUpdate
  rw [hw]
  dsimp only
  rw [if_pos rfl, instPinned_pinAdd hi, if_pos hp, if_pos rfl]

theorem contention_results {inst : Fin 96} (hp : instPinned s inst.val = true) (hf : tabGet 0 s.cap.pinFrom inst.val ≠ 0) (hs : inst.val ∉ s.cap.said) :
    Runs (.contention inst) s (fun t => bitOf (rd t (Reg.CAP_CONT (inst.val / 32))).toNat (inst.val % 32) = true ∧ inst.val ∈ t.cap.said
      ∧ fld t Reg.CAP_CONT_CNT F.CAP_CONT_CNT_COUNT = min (fld s Reg.CAP_CONT_CNT F.CAP_CONT_CNT_COUNT + 1) 65535) := by
  have hi := inst.isLt
  show ∃ t, execContention inst s = .next t ∧ _
  unfold execContention
  extract_lets i u k v w x y
  have hu : u = pinAdd s i := pinUpdate_pinned hi hp hf
  have hk : k ≠ 0 := by
    show tabGet 0 u.cap.pinFrom i ≠ 0
    rw [hu]
    exact hf
  have hsu : u.cap.said = s.cap.said := by
    rw [hu]
    rfl
  have r1 : RdBut [(Reg.CAP_PIN_TIME 0, 4, 96)] s u := pinUpdate_rdBut hi
  clear_value u k
  rw [if_pos ⟨hk, by rw [hsu]; simpa using hs⟩]
  refine ⟨_, rfl, ?_⟩
  have r2 : RdBut [(Reg.CAP_PIN_TIME 0, 4, 96)] u v := .trans (.of_evolves reach_evolves) (pinUpdate_rdBut hi)
  clear_value v
  have hw1 : flag w (Reg.CAP_CONT (i / 32)) ⟨i % 32, 1⟩ = true := flag_raise _ _ _ (Nat.mod_lt _ (by decide))
  have r3 : RdBut [(Reg.CAP_CONT 0, 4, 3)] v w := by
    show RdBut _ v (setF v (Reg.CAP_CONT 0 + 4 * (i / 32)) ⟨i % 32, 1⟩ 1)
    exact wr_rdButN (by omega)
  clear_value w
  have hcnt : fld x Reg.CAP_CONT_CNT F.CAP_CONT_CNT_COUNT = min (fld w Reg.CAP_CONT_CNT F.CAP_CONT_CNT_COUNT + 1) 65535 := fld_bump_same _ _ _ (by decide)
  have r4 : RdBut [(Reg.CAP_CONT_CNT, 0, 0)] w x := bump_rdBut0
  clear_value x
  have r5 := record_rdBut (s := x) (p := .control) (cls := 0x0C) (typ := 0x01) (unit := i) (arg := (instLimit x i).1) (value := (instLimit x i).2)
    (value2 := (now x + 1 - k) / 1000000) (flags := 0)
  refine ⟨?_, List.mem_append_right _ (List.mem_singleton_self _), ?_⟩
  · show bitOf (rd y (Reg.CAP_CONT (i / 32))).toNat (i % 32) = true
    rw [← flag_eq_bitOf, r5.flag_eq _ (misses_fin (g := Reg.CAP_CONT) (by decide +kernel) (⟨i / 32, by omega⟩ : Fin 3)),
      r4.flag_eq _ (misses_fin (g := Reg.CAP_CONT) (by decide +kernel) (⟨i / 32, by omega⟩ : Fin 3))]
    exact hw1
  · show fld y _ _ = _
    rw [r5.fld_eq _, hcnt, r3.fld_eq _, r2.fld_eq _, r1.fld_eq _]

/-! ## Snapshots -/

theorem rd64_lt {lo : Nat} : rd64 s lo < 2 ^ 64 := by
  unfold rd64
  have h1 := (rd s lo).isLt
  have h2 := (rd s (lo + 4)).isLt
  omega

theorem rd64_wr64_mod {lo v : Nat} : rd64 (wr64 s lo v) lo = v % 2 ^ 64 := by
  unfold rd64 wr64
  rw [rd_wrN_ne _ _ (by omega), rd_wrN_same, rd_wrN_same, BitVec.toNat_ofNat, BitVec.toNat_ofNat]
  omega

theorem rd64_congr {lo lo' : Nat} (h0 : rd t lo = rd s lo') (h4 : rd t (lo + 4) = rd s (lo' + 4)) : rd64 t lo = rd64 s lo' := by
  unfold rd64
  rw [h0, h4]

section
variable {k r : Nat}

/-- A snapshot's row of one reason. -/
def copyRow (k p : Nat) (s : State) (r : Nat) : State :=
  wr64 (wr s (Reg.CAP_SNAP_CNT k r) (rd s (Reg.CAP_RCNT p r))) (Reg.CAP_SNAP_DUR_LO k r)
    (rd64 (wr s (Reg.CAP_SNAP_CNT k r) (rd s (Reg.CAP_RCNT p r))) (Reg.CAP_RDUR_LO p r))

/-- The live row of one reason cleared. -/
def clearRow (p : Nat) (s : State) (r : Nat) : State := wr64 (wr s (Reg.CAP_RCNT p r) 0) (Reg.CAP_RDUR_LO p r) 0

/-- A snapshot writes registers of its own block alone. -/
def BlockOnly (s t : State) : Prop := ∀ off, off < 0x198000 → rd t off = rd s off

/-- The live counters alone are written. -/
def LiveOnly (s t : State) : Prop := ∀ off, 0x198000 ≤ off → rd t off = rd s off

theorem rd_copyRow_ne {off : Nat} (h0 : 0x198100 + 0x200 * k + 0x10 * r ≠ off) (h4 : 0x198104 + 0x200 * k + 0x10 * r ≠ off)
    (h8 : 0x198108 + 0x200 * k + 0x10 * r ≠ off) : rd (copyRow k p s r) off = rd s off := by
  unfold copyRow
  rw [rd_wr64_ne h4 (by omega), rd_wr_ne _ _ h0]

theorem copyRow_row (hp : p < 32) (hr : r < 16) : rd (copyRow k p s r) (Reg.CAP_SNAP_CNT k r) = rd s (Reg.CAP_RCNT p r)
    ∧ rd64 (copyRow k p s r) (Reg.CAP_SNAP_DUR_LO k r) = rd64 s (Reg.CAP_RDUR_LO p r) := by
  unfold copyRow
  rw [rd_wr64_ne (by dsimp only [Reg.CAP_SNAP_DUR_LO, Reg.CAP_SNAP_CNT]; omega) (by dsimp only [Reg.CAP_SNAP_DUR_LO, Reg.CAP_SNAP_CNT]; omega), rd_wr_same,
    rd64_wr64 rd64_lt]
  exact ⟨rfl, rd64_congr (rd_wr_ne _ _ (by dsimp only [Reg.CAP_SNAP_CNT, Reg.CAP_RDUR_LO]; omega))
    (rd_wr_ne _ _ (by dsimp only [Reg.CAP_SNAP_CNT, Reg.CAP_RDUR_LO]; omega))⟩

/-- The rows of a snapshot copied. -/
theorem copySweep_row (hp : p < 32) (hr : r < 16) :
    rd (forEach (List.range 16) s (copyRow k p)) (Reg.CAP_SNAP_CNT k r) = rd s (Reg.CAP_RCNT p r)
      ∧ rd64 (forEach (List.range 16) s (copyRow k p)) (Reg.CAP_SNAP_DUR_LO k r) = rd64 s (Reg.CAP_RDUR_LO p r) := by
  refine forEach_once (I := BlockOnly s) (Q := fun t => rd t (Reg.CAP_SNAP_CNT k r) = rd s (Reg.CAP_RCNT p r)
    ∧ rd64 t (Reg.CAP_SNAP_DUR_LO k r) = rd64 s (Reg.CAP_RDUR_LO p r)) List.nodup_range (List.mem_range.2 hr) (fun u x _ hu off ho => ?_) (fun u hu => ?_)
    (fun u x hx hu => ?_) (fun _ _ => rfl)
  · exact (rd_copyRow_ne (by omega) (by omega) (by omega)).trans (hu off ho)
  · obtain ⟨h0, h4⟩ := copyRow_row (s := u) (k := k) hp hr
    exact ⟨h0.trans (hu _ (by dsimp only [Reg.CAP_RCNT]; omega)), h4.trans (rd64_congr (hu _ (by dsimp only [Reg.CAP_RDUR_LO]; omega))
      (hu _ (by dsimp only [Reg.CAP_RDUR_LO]; omega)))⟩
  · obtain ⟨h0, h4⟩ := hu
    exact ⟨(rd_copyRow_ne (by dsimp only [Reg.CAP_SNAP_CNT]; omega) (by dsimp only [Reg.CAP_SNAP_CNT]; omega) (by dsimp only [Reg.CAP_SNAP_CNT]; omega)).trans h0,
      (rd64_congr (rd_copyRow_ne (by dsimp only [Reg.CAP_SNAP_DUR_LO]; omega) (by dsimp only [Reg.CAP_SNAP_DUR_LO]; omega) (by dsimp only [Reg.CAP_SNAP_DUR_LO]; omega))
        (rd_copyRow_ne (by dsimp only [Reg.CAP_SNAP_DUR_LO]; omega) (by dsimp only [Reg.CAP_SNAP_DUR_LO]; omega) (by dsimp only [Reg.CAP_SNAP_DUR_LO]; omega))).trans h4⟩

theorem rd_copySweep_ne {off : Nat} (h : off < 0x198100 + 0x200 * k) : rd (forEach (List.range 16) s (copyRow k p)) off = rd s off :=
  Shows.eq (.forEach (g := fun s => rd s off) fun u x => rd_copyRow_ne (by omega) (by omega) (by omega))

theorem rd_clearRow_ne {off : Nat} (h0 : 0x194000 + 0x100 * p + 0x10 * r ≠ off) (h4 : 0x194004 + 0x100 * p + 0x10 * r ≠ off)
    (h8 : 0x194008 + 0x100 * p + 0x10 * r ≠ off) : rd (clearRow p s r) off = rd s off := by
  unfold clearRow
  rw [rd_wr64_ne h4 (by omega), rd_wr_ne _ _ h0]

theorem clearSweep_row (hr : r < 16) : rd (forEach (List.range 16) s (clearRow p)) (Reg.CAP_RCNT p r) = 0
    ∧ rd64 (forEach (List.range 16) s (clearRow p)) (Reg.CAP_RDUR_LO p r) = 0 := by
  refine forEach_once (I := fun _ => True) (Q := fun t => rd t (Reg.CAP_RCNT p r) = 0 ∧ rd64 t (Reg.CAP_RDUR_LO p r) = 0) List.nodup_range
    (List.mem_range.2 hr) (fun _ _ _ _ => trivial) (fun u _ => ?_) (fun u x hx hu => ?_) trivial
  · unfold clearRow
    exact ⟨by rw [rd_wr64_ne (by dsimp only [Reg.CAP_RDUR_LO, Reg.CAP_RCNT]; omega) (by dsimp only [Reg.CAP_RDUR_LO, Reg.CAP_RCNT]; omega), rd_wr_same],
      rd64_wr64 (by decide)⟩
  · obtain ⟨h0, h4⟩ := hu
    exact ⟨(rd_clearRow_ne (by dsimp only [Reg.CAP_RCNT]; omega) (by dsimp only [Reg.CAP_RCNT]; omega) (by dsimp only [Reg.CAP_RCNT]; omega)).trans h0,
      (rd64_congr (rd_clearRow_ne (by dsimp only [Reg.CAP_RDUR_LO]; omega) (by dsimp only [Reg.CAP_RDUR_LO]; omega) (by dsimp only [Reg.CAP_RDUR_LO]; omega))
        (rd_clearRow_ne (by dsimp only [Reg.CAP_RDUR_LO]; omega) (by dsimp only [Reg.CAP_RDUR_LO]; omega) (by dsimp only [Reg.CAP_RDUR_LO]; omega))).trans h4⟩

theorem liveOnly_clearSweep (hp : p < 32) : LiveOnly s (forEach (List.range 16) s (clearRow p)) := fun off ho =>
  Shows.eq (.forEach_mem (g := fun s => rd s off) fun u x hx => by
    have := List.mem_range.1 hx
    exact rd_clearRow_ne (by omega) (by omega) (by omega))

/-- The part of a snapshot that copies. -/
def snapCopy (s : State) (k p : Nat) : State :=
  wrN (forEach (List.range 16) (wr64 (wr64 (wr64 s (Reg.CAP_SNAP_TB_LO k) (now s)) (Reg.CAP_SNAP_LOST_THR_LO k)
      (rd64 (wr64 s (Reg.CAP_SNAP_TB_LO k) (now s)) (Reg.CAP_LOST_THR_LO p))) (Reg.CAP_SNAP_LOST_STR_LO k)
      (rd64 (wr64 (wr64 s (Reg.CAP_SNAP_TB_LO k) (now s)) (Reg.CAP_SNAP_LOST_THR_LO k)
        (rd64 (wr64 s (Reg.CAP_SNAP_TB_LO k) (now s)) (Reg.CAP_LOST_THR_LO p))) (Reg.CAP_LOST_STR_LO p))) (copyRow k p))
    (Reg.CAP_SNAP_STATUS k) (1 + p * 2 ^ 8 + (fld s (Reg.CAP_SNAP_STATUS k) F.CAP_SNAP_STATUS_SEQ + 1) % 2 ^ 16 * 2 ^ 16)

/-- The part of a snapshot that clears. -/
def snapClear (s : State) (p : Nat) : State :=
  wr64 (wr64 (forEach (List.range 16) s (clearRow p)) (Reg.CAP_LOST_THR_LO p) 0) (Reg.CAP_LOST_STR_LO p) 0

theorem snapWrite_present {val : Word} (hg : fldOf val F.CAP_SNAP_CTL_GO = 1) (hh : partHere s (fldOf val F.CAP_SNAP_CTL_PART) = true) :
    snapWrite s k val = if fldOf val F.CAP_SNAP_CTL_CLEAR = 1 then snapClear (snapCopy s k (fldOf val F.CAP_SNAP_CTL_PART)) (fldOf val F.CAP_SNAP_CTL_PART)
      else snapCopy s k (fldOf val F.CAP_SNAP_CTL_PART) := by
  unfold snapWrite
  dsimp only
  rw [if_neg (by omega), if_neg (by simp [hh])]
  rfl

theorem blockOnly_snapCopy : BlockOnly s (snapCopy s k p) := by
  intro off ho
  unfold snapCopy
  rw [rd_wrN_ne _ _ (by dsimp only [Reg.CAP_SNAP_STATUS]; omega), rd_copySweep_ne (by omega),
    rd_wr64_ne (by dsimp only [Reg.CAP_SNAP_LOST_STR_LO]; omega) (by dsimp only [Reg.CAP_SNAP_LOST_STR_LO]; omega),
    rd_wr64_ne (by dsimp only [Reg.CAP_SNAP_LOST_THR_LO]; omega) (by dsimp only [Reg.CAP_SNAP_LOST_THR_LO]; omega),
    rd_wr64_ne (by dsimp only [Reg.CAP_SNAP_TB_LO]; omega) (by dsimp only [Reg.CAP_SNAP_TB_LO]; omega)]

/-- The status word of a snapshot. -/
theorem status_snapCopy (hp : p < 32) : fld (snapCopy s k p) (Reg.CAP_SNAP_STATUS k) F.CAP_SNAP_STATUS_STATE = 1
    ∧ fld (snapCopy s k p) (Reg.CAP_SNAP_STATUS k) F.CAP_SNAP_STATUS_PART = p
    ∧ fld (snapCopy s k p) (Reg.CAP_SNAP_STATUS k) F.CAP_SNAP_STATUS_SEQ = (fld s (Reg.CAP_SNAP_STATUS k) F.CAP_SNAP_STATUS_SEQ + 1) % 2 ^ 16 := by
  unfold snapCopy
  generalize (fld s (Reg.CAP_SNAP_STATUS k) F.CAP_SNAP_STATUS_SEQ + 1) = q
  unfold fld
  rw [rd_wrN_same]
  exact ⟨fldOf_strap (by omega) (by omega), fldOf_strap (by omega) (by omega), fldOf_strap (by omega) (by omega)⟩

/-- What a copy shows in the snapshot's block. -/
theorem values_snapCopy (hp : p < 32) : rd64 (snapCopy s k p) (Reg.CAP_SNAP_TB_LO k) = now s % 2 ^ 64
    ∧ rd64 (snapCopy s k p) (Reg.CAP_SNAP_LOST_THR_LO k) = rd64 s (Reg.CAP_LOST_THR_LO p) ∧ rd64 (snapCopy s k p) (Reg.CAP_SNAP_LOST_STR_LO k) = rd64 s (Reg.CAP_LOST_STR_LO p)
    ∧ ∀ r, r < 16 → rd (snapCopy s k p) (Reg.CAP_SNAP_CNT k r) = rd s (Reg.CAP_RCNT p r)
        ∧ rd64 (snapCopy s k p) (Reg.CAP_SNAP_DUR_LO k r) = rd64 s (Reg.CAP_RDUR_LO p r) := by
  unfold snapCopy
  generalize (1 + p * 2 ^ 8 + (fld s (Reg.CAP_SNAP_STATUS k) F.CAP_SNAP_STATUS_SEQ + 1) % 2 ^ 16 * 2 ^ 16) = v
  generalize h1 : wr64 s (Reg.CAP_SNAP_TB_LO k) (now s) = s1
  generalize h2 : wr64 s1 (Reg.CAP_SNAP_LOST_THR_LO k) (rd64 s1 (Reg.CAP_LOST_THR_LO p)) = s2
  generalize h3 : wr64 s2 (Reg.CAP_SNAP_LOST_STR_LO k) (rd64 s2 (Reg.CAP_LOST_STR_LO p)) = s3
  have b1 : BlockOnly s s1 := fun off ho => by
    rw [← h1]
    exact rd_wr64_ne (by dsimp only [Reg.CAP_SNAP_TB_LO]; omega) (by dsimp only [Reg.CAP_SNAP_TB_LO]; omega)
  have b2 : BlockOnly s s2 := fun off ho => by
    rw [← h2]
    exact (rd_wr64_ne (by dsimp only [Reg.CAP_SNAP_LOST_THR_LO]; omega) (by dsimp only [Reg.CAP_SNAP_LOST_THR_LO]; omega)).trans (b1 off ho)
  have b3 : BlockOnly s s3 := fun off ho => by
    rw [← h3]
    exact (rd_wr64_ne (by dsimp only [Reg.CAP_SNAP_LOST_STR_LO]; omega) (by dsimp only [Reg.CAP_SNAP_LOST_STR_LO]; omega)).trans (b2 off ho)
  -- the status word and the rows lie above the first three values
  have hlow (off : Nat) (ha : 0x198008 + 0x200 * k ≤ off) (hb : off < 0x198100 + 0x200 * k) :
      rd (wrN (forEach (List.range 16) s3 (copyRow k p)) (Reg.CAP_SNAP_STATUS k) v) off = rd s3 off := by
    rw [rd_wrN_ne _ _ (by dsimp only [Reg.CAP_SNAP_STATUS]; omega), rd_copySweep_ne hb]
  have hlow64 (off : Nat) (ha : 0x198008 + 0x200 * k ≤ off) (hb : off < 0x1980F0 + 0x200 * k) :
      rd64 (wrN (forEach (List.range 16) s3 (copyRow k p)) (Reg.CAP_SNAP_STATUS k) v) off = rd64 s3 off :=
    rd64_congr (hlow off ha (by omega)) (hlow _ (by omega) (by omega))
  refine ⟨?_, ?_, ?_, fun r hr => ?_⟩
  · rw [hlow64 _ (by dsimp only [Reg.CAP_SNAP_TB_LO]; omega) (by dsimp only [Reg.CAP_SNAP_TB_LO]; omega), ← h3,
      rd64_wr64_ne (by dsimp only [Reg.CAP_SNAP_LOST_STR_LO, Reg.CAP_SNAP_TB_LO]; omega) (by dsimp only [Reg.CAP_SNAP_LOST_STR_LO, Reg.CAP_SNAP_TB_LO]; omega)
        (by dsimp only [Reg.CAP_SNAP_LOST_STR_LO, Reg.CAP_SNAP_TB_LO]; omega), ← h2,
      rd64_wr64_ne (by dsimp only [Reg.CAP_SNAP_LOST_THR_LO, Reg.CAP_SNAP_TB_LO]; omega) (by dsimp only [Reg.CAP_SNAP_LOST_THR_LO, Reg.CAP_SNAP_TB_LO]; omega)
        (by dsimp only [Reg.CAP_SNAP_LOST_THR_LO, Reg.CAP_SNAP_TB_LO]; omega), ← h1]
    exact rd64_wr64_mod
  · rw [hlow64 _ (by dsimp only [Reg.CAP_SNAP_LOST_THR_LO]; omega) (by dsimp only [Reg.CAP_SNAP_LOST_THR_LO]; omega), ← h3,
      rd64_wr64_ne (by dsimp only [Reg.CAP_SNAP_LOST_STR_LO, Reg.CAP_SNAP_LOST_THR_LO]; omega) (by dsimp only [Reg.CAP_SNAP_LOST_STR_LO, Reg.CAP_SNAP_LOST_THR_LO]; omega)
        (by dsimp only [Reg.CAP_SNAP_LOST_STR_LO, Reg.CAP_SNAP_LOST_THR_LO]; omega), ← h2, rd64_wr64 rd64_lt]
    exact rd64_congr (b1 _ (by dsimp only [Reg.CAP_LOST_THR_LO]; omega)) (b1 _ (by dsimp only [Reg.CAP_LOST_THR_LO]; omega))
  · rw [hlow64 _ (by dsimp only [Reg.CAP_SNAP_LOST_STR_LO]; omega) (by dsimp only [Reg.CAP_SNAP_LOST_STR_LO]; omega), ← h3, rd64_wr64 rd64_lt]
    exact rd64_congr (b2 _ (by dsimp only [Reg.CAP_LOST_STR_LO]; omega)) (b2 _ (by dsimp only [Reg.CAP_LOST_STR_LO]; omega))
  · obtain ⟨g0, g4⟩ := copySweep_row (s := s3) (k := k) hp hr
    constructor
    · rw [rd_wrN_ne _ _ (by dsimp only [Reg.CAP_SNAP_STATUS, Reg.CAP_SNAP_CNT]; omega), g0]
      exact b3 _ (by dsimp only [Reg.CAP_RCNT]; omega)
    · refine (rd64_congr (rd_wrN_ne _ _ (by dsimp only [Reg.CAP_SNAP_STATUS, Reg.CAP_SNAP_DUR_LO]; omega))
        (rd_wrN_ne _ _ (by dsimp only [Reg.CAP_SNAP_STATUS, Reg.CAP_SNAP_DUR_LO]; omega))).trans (g4.trans ?_)
      exact rd64_congr (b3 _ (by dsimp only [Reg.CAP_RDUR_LO]; omega)) (b3 _ (by dsimp only [Reg.CAP_RDUR_LO]; omega))

theorem liveOnly_snapClear (hp : p < 32) : LiveOnly s (snapClear s p) := by
  intro off ho
  unfold snapClear
  rw [rd_wr64_ne (by dsimp only [Reg.CAP_LOST_STR_LO]; omega) (by dsimp only [Reg.CAP_LOST_STR_LO]; omega),
    rd_wr64_ne (by dsimp only [Reg.CAP_LOST_THR_LO]; omega) (by dsimp only [Reg.CAP_LOST_THR_LO]; omega)]
  exact liveOnly_clearSweep hp off ho

theorem values_snapClear (hp : p < 32) : rd64 (snapClear s p) (Reg.CAP_LOST_THR_LO p) = 0 ∧ rd64 (snapClear s p) (Reg.CAP_LOST_STR_LO p) = 0
    ∧ ∀ r, r < 16 → rd (snapClear s p) (Reg.CAP_RCNT p r) = 0 ∧ rd64 (snapClear s p) (Reg.CAP_RDUR_LO p r) = 0 := by
  unfold snapClear
  refine ⟨?_, rd64_wr64 (by decide), fun r hr => ?_⟩
  · rw [rd64_wr64_ne (by dsimp only [Reg.CAP_LOST_STR_LO, Reg.CAP_LOST_THR_LO]; omega) (by dsimp only [Reg.CAP_LOST_STR_LO, Reg.CAP_LOST_THR_LO]; omega)
      (by dsimp only [Reg.CAP_LOST_STR_LO, Reg.CAP_LOST_THR_LO]; omega)]
    exact rd64_wr64 (by decide)
  · obtain ⟨g0, g4⟩ := clearSweep_row (s := s) (p := p) hr
    have hkeep (off : Nat) (ho : 0x194000 ≤ off) : rd (wr64 (wr64 (forEach (List.range 16) s (clearRow p)) (Reg.CAP_LOST_THR_LO p) 0) (Reg.CAP_LOST_STR_LO p) 0) off
        = rd (forEach (List.range 16) s (clearRow p)) off := by
      rw [rd_wr64_ne (by dsimp only [Reg.CAP_LOST_STR_LO]; omega) (by dsimp only [Reg.CAP_LOST_STR_LO]; omega),
        rd_wr64_ne (by dsimp only [Reg.CAP_LOST_THR_LO]; omega) (by dsimp only [Reg.CAP_LOST_THR_LO]; omega)]
    exact ⟨(hkeep _ (by dsimp only [Reg.CAP_RCNT]; omega)).trans g0, (rd64_congr (hkeep _ (by dsimp only [Reg.CAP_RDUR_LO]; omega))
      (hkeep _ (by dsimp only [Reg.CAP_RDUR_LO]; omega))).trans g4⟩

end

/-- A snapshot taken of a present partition. -/
def SnapTaken (s t : State) (k p clear : Nat) : Prop :=
  fld t (Reg.CAP_SNAP_STATUS k) F.CAP_SNAP_STATUS_STATE = 1 ∧ fld t (Reg.CAP_SNAP_STATUS k) F.CAP_SNAP_STATUS_PART = p
    ∧ fld t (Reg.CAP_SNAP_STATUS k) F.CAP_SNAP_STATUS_SEQ = (fld s (Reg.CAP_SNAP_STATUS k) F.CAP_SNAP_STATUS_SEQ + 1) % 2 ^ 16
    ∧ rd64 t (Reg.CAP_SNAP_TB_LO k) = now s % 2 ^ 64
    ∧ rd64 t (Reg.CAP_SNAP_LOST_THR_LO k) = rd64 s (Reg.CAP_LOST_THR_LO p) ∧ rd64 t (Reg.CAP_SNAP_LOST_STR_LO k) = rd64 s (Reg.CAP_LOST_STR_LO p)
    ∧ (∀ r, r < 16 → rd t (Reg.CAP_SNAP_CNT k r) = rd s (Reg.CAP_RCNT p r) ∧ rd64 t (Reg.CAP_SNAP_DUR_LO k r) = rd64 s (Reg.CAP_RDUR_LO p r))
    ∧ (clear = 1 → rd64 t (Reg.CAP_LOST_THR_LO p) = 0 ∧ rd64 t (Reg.CAP_LOST_STR_LO p) = 0
        ∧ ∀ r, r < 16 → rd t (Reg.CAP_RCNT p r) = 0 ∧ rd64 t (Reg.CAP_RDUR_LO p r) = 0)
    ∧ (clear = 0 → ∀ r, r < 16 → rd t (Reg.CAP_RCNT p r) = rd s (Reg.CAP_RCNT p r))
    ∧ t.cap = s.cap

theorem snapTaken {k : Nat} {val : Word} (hg : fldOf val F.CAP_SNAP_CTL_GO = 1) (hh : partHere s (fldOf val F.CAP_SNAP_CTL_PART) = true) :
    SnapTaken s (snapWrite s k val) k (fldOf val F.CAP_SNAP_CTL_PART) (fldOf val F.CAP_SNAP_CTL_CLEAR) := by
  have hp : fldOf val F.CAP_SNAP_CTL_PART < 32 := partHere_lt hh
  have hcap : (snapWrite s k val).cap = s.cap := snapWrite_evolves.cap_eq rfl
  unfold SnapTaken
  rw [hcap, snapWrite_present hg hh]
  generalize fldOf val F.CAP_SNAP_CTL_PART = p at hp
  obtain ⟨s1, s2, s3⟩ := status_snapCopy (s := s) (k := k) hp
  obtain ⟨v1, v2, v3, v4⟩ := values_snapCopy (s := s) (k := k) hp
  by_cases hc : fldOf val F.CAP_SNAP_CTL_CLEAR = 1
  · rw [if_pos hc]
    obtain ⟨c1, c2, c3⟩ := values_snapClear (s := snapCopy s k p) hp
    have hl := liveOnly_snapClear (s := snapCopy s k p) hp
    have h1 {off : Nat} (f : Fld) (ho : 0x198000 ≤ off) : fld (snapClear (snapCopy s k p) p) off f = fld (snapCopy s k p) off f := fld_congr (hl off ho) f
    have h2 {off : Nat} (ho : 0x198000 ≤ off) : rd64 (snapClear (snapCopy s k p) p) off = rd64 (snapCopy s k p) off :=
      rd64_congr (hl off ho) (hl (off + 4) (by omega))
    refine ⟨(h1 _ ?_).trans s1, (h1 _ ?_).trans s2, (h1 _ ?_).trans s3, (h2 ?_).trans v1, (h2 ?_).trans v2, (h2 ?_).trans v3,
      fun r hr => ⟨(hl _ ?_).trans (v4 r hr).1, (h2 ?_).trans (v4 r hr).2⟩, fun _ => ⟨c1, c2, c3⟩, fun h => by omega, rfl⟩
    · dsimp only [Reg.CAP_SNAP_STATUS]
      omega
    · dsimp only [Reg.CAP_SNAP_STATUS]
      omega
    · dsimp only [Reg.CAP_SNAP_STATUS]
      omega
    · dsimp only [Reg.CAP_SNAP_TB_LO]
      omega
    · dsimp only [Reg.CAP_SNAP_LOST_THR_LO]
      omega
    · dsimp only [Reg.CAP_SNAP_LOST_STR_LO]
      omega
    · dsimp only [Reg.CAP_SNAP_CNT]
      omega
    · dsimp only [Reg.CAP_SNAP_DUR_LO]
      omega
  · rw [if_neg hc]
    exact ⟨s1, s2, s3, v1, v2, v3, v4, fun h => absurd h hc, fun _ r hr => blockOnly_snapCopy _ (by dsimp only [Reg.CAP_RCNT]; omega), rfl⟩

theorem snapshot_results {who : Initiator} {slot : Fin 4} {val : Word} (ha : admits s who (Reg.CAP_SNAP_CTL slot.val) val.toNat = true)
    (hg : fldOf val F.CAP_SNAP_CTL_GO = 1) : Runs (.snapshot who slot val) s (fun t =>
      (partHere s (fldOf val F.CAP_SNAP_CTL_PART) = false → fld t (Reg.CAP_SNAP_STATUS slot.val) F.CAP_SNAP_STATUS_STATE = 2
        ∧ rd64 t (Reg.CAP_SNAP_TB_LO slot.val) = rd64 s (Reg.CAP_SNAP_TB_LO slot.val))
      ∧ (partHere s (fldOf val F.CAP_SNAP_CTL_PART) = true → SnapTaken s t slot.val (fldOf val F.CAP_SNAP_CTL_PART) (fldOf val F.CAP_SNAP_CTL_CLEAR))) := by
  refine ⟨_, congrArg Outcome.next (gated_of_admits _ _ _ _ _ ha), fun hh => ?_, fun hh => ?_⟩
  · have hw : snapWrite { s with resp := .none } slot.val val = setF { s with resp := .none } (Reg.CAP_SNAP_STATUS slot.val) F.CAP_SNAP_STATUS_STATE 2 := by
      unfold snapWrite
      dsimp only
      rw [if_neg (by omega)]
      exact if_pos (by
        show (!partHere s (fldOf val F.CAP_SNAP_CTL_PART)) = true
        rw [hh]
        rfl)
    rw [hw]
    refine ⟨(fld_setF_same _ _ _ _ (by decide)).trans rfl, ?_⟩
    exact rd64_congr (rd_setF_ne _ _ _ (by dsimp only [Reg.CAP_SNAP_STATUS, Reg.CAP_SNAP_TB_LO]; omega))
      (rd_setF_ne _ _ _ (by dsimp only [Reg.CAP_SNAP_STATUS, Reg.CAP_SNAP_TB_LO]; omega))
  · exact snapTaken (s := { s with resp := .none }) hg hh

end

/-- Settles O38: divider targets, the loops over power and temperature, contention and snapshots. -/
theorem cappingAndAccountingResults : Obligations.CappingAndAccountingResults :=
  ⟨⟨fun _ _ => targetEvaluation_results, fun _ _ => freqStepSend_results, fun _ _ _ _ => tickFreqSend_results⟩,
   ⟨fun _ _ => powerLoopUpdate_results, fun _ _ => thermalLoopUpdate_results, fun _ _ => thermalGuardRelease_results⟩,
   fun _ _ => contention_results, fun _ _ _ _ ha hg => snapshot_results ha hg⟩

end Sys2Proof.Machine
end

section
/-! PROOF. The result that a commit leaves: a request is answered with a result that is not 0, and no hook of a commit takes it back. -/

namespace Sys2Proof.Machine
open Host
set_option Elab.async false

/-! ## The registers that the hooks of a commit write -/

theorem deadFrame_rdBut {s reason q} : RdBut [(Reg.TVL_GEVENT, 0, 0), (Reg.TOP_DRAIN_CNT 0, 0x4, 0), (Reg.TOP_DRAIN_STATUS, 0, 0),
    (Reg.TOP_DRAIN_CNT 1, 0, 0), (Reg.REC_EVENT, 0, 0), (Reg.REC_ARB_DROP 0, 0, 0), (Reg.REC_ARB_DROP 1, 0, 0), (Reg.REC_ARB_DROP 2, 0, 0),
    (Reg.TOP_DRAIN_CNT 8, 0, 0)] s (deadFrame s reason q) := by
  unfold deadFrame
  exact .trans deadLetter_rdBut.mono ((.of_evolves returnUnits_evolves))

theorem deliverFrame_rdBut {s q} : RdBut [(Reg.TVL_GEVENT, 0, 0), (Reg.TOP_DRAIN_CNT 0, 0x4, 0), (Reg.TOP_DRAIN_STATUS, 0, 0), (Reg.TOP_DRAIN_CNT
    1, 0, 0), (Reg.REC_EVENT, 0, 0), (Reg.REC_ARB_DROP 0, 0, 0), (Reg.REC_ARB_DROP 1, 0, 0), (Reg.REC_ARB_DROP 2, 0, 0), (Reg.TOP_DRAIN_CNT 8, 0,
    0)] s (deliverFrame s q) := by
  unfold deliverFrame
  exact .ite (.trans (t := { s with tvl := { s.tvl with rx := s.tvl.rx ++ [q.frame] } }) (.of_evolves (W := { tvl := true }) .set_tvl) (.of_evolves returnUnits_evolves))
    (.ite deadFrame_rdBut.mono
      (.trans (t := (joinQueue s queueDepth (fun q => credDue s q.lane) (deliverOf s q.frame.cls) q).2) (.of_evolves joinQueue_evolves)
        (.of_evolves setDeliver_evolves)))

theorem toLane_rdBut {s n q} : RdBut [(Reg.TVL_GEVENT, 0, 0), (Reg.TOP_DRAIN_CNT 0, 0x4, 0), (Reg.TOP_DRAIN_STATUS, 0, 0), (Reg.TOP_DRAIN_CNT 1, 0,
    0), (Reg.REC_EVENT, 0, 0), (Reg.REC_ARB_DROP 0, 0, 0), (Reg.REC_ARB_DROP 1, 0, 0), (Reg.REC_ARB_DROP 2, 0, 0), (Reg.TOP_DRAIN_CNT 8, 0, 0)] s
    (toLane s n q) := by
  unfold toLane
  exact .ite deadFrame_rdBut.mono (.ite deadFrame_rdBut.mono ((.of_evolves outPush_evolves)))

theorem routeFrame_rdBut {s q} : RdBut [(Reg.TVL_GEVENT, 0, 0), (Reg.TOP_DRAIN_CNT 0, 0x4, 0), (Reg.TOP_DRAIN_STATUS, 0, 0), (Reg.TOP_DRAIN_CNT 1,
    0, 0), (Reg.REC_EVENT, 0, 0), (Reg.REC_ARB_DROP 0, 0, 0), (Reg.REC_ARB_DROP 1, 0, 0), (Reg.REC_ARB_DROP 2, 0, 0), (Reg.TOP_DRAIN_CNT 8, 0, 0)]
    s (routeFrame s q) := by
  unfold routeFrame
  exact .ite (.ite deliverFrame_rdBut.mono (.ite deadFrame_rdBut.mono (.ite deadFrame_rdBut.mono toLane_rdBut.mono)))
    (.ite (.trans (.forEach fun _ _ => toLane_rdBut.mono) (.ite .refl deliverFrame_rdBut.mono))
       (.ite deliverFrame_rdBut.mono
          (by
             split
             exacts [toLane_rdBut.mono,
               deadFrame_rdBut.mono])))

theorem postFrame_rdBut {s typ scope dest body} : RdBut [(Reg.TVL_GEVENT, 0, 0), (Reg.TOP_DRAIN_CNT 0, 0x4, 0), (Reg.TOP_DRAIN_STATUS, 0, 0),
    (Reg.TOP_DRAIN_CNT 1, 0, 0), (Reg.REC_EVENT, 0, 0), (Reg.REC_ARB_DROP 0, 0, 0), (Reg.REC_ARB_DROP 1, 0, 0), (Reg.REC_ARB_DROP 2, 0, 0),
    (Reg.TOP_DRAIN_CNT 8, 0, 0)] s (postFrame s typ scope dest body) := by
  unfold postFrame
  exact .trans ((.of_evolves countOseq_evolves)) routeFrame_rdBut.mono

theorem redClose_rdBut {s r} : RdBut [(Reg.TVL_GEVENT, 0, 0), (Reg.TOP_DRAIN_CNT 5, 0, 0), (Reg.TOP_DRAIN_STATUS, 0, 0), (Reg.TOP_DRAIN_CNT 0, 0x4,
    0), (Reg.TOP_DRAIN_CNT 1, 0, 0), (Reg.REC_EVENT, 0, 0), (Reg.REC_ARB_DROP 0, 0, 0), (Reg.REC_ARB_DROP 1, 0, 0), (Reg.REC_ARB_DROP 2, 0, 0),
    (Reg.TOP_DRAIN_CNT 8, 0, 0)] s (redClose s r) := by
  unfold redClose
  exact .trans (.of_evolves (W := { tvl := true }) .set_tvl)
    (.trans (.ite (.trans ((raise_rdBut0 (off := Reg.TVL_GEVENT)).mono) sinkTake_rdBut.mono) .refl)
       (.ite (.of_evolves (W := { tvl := true }) .set_tvl) postFrame_rdBut.mono))

theorem redCheck_rdBut {s rid} : RdBut [(Reg.TVL_GEVENT, 0, 0), (Reg.TOP_DRAIN_CNT 5, 0, 0), (Reg.TOP_DRAIN_STATUS, 0, 0), (Reg.TOP_DRAIN_CNT 0,
    0x4, 0), (Reg.TOP_DRAIN_CNT 1, 0, 0), (Reg.REC_EVENT, 0, 0), (Reg.REC_ARB_DROP 0, 0, 0), (Reg.REC_ARB_DROP 1, 0, 0), (Reg.REC_ARB_DROP 2, 0,
    0), (Reg.TOP_DRAIN_CNT 8, 0, 0)] s (redCheck s rid) := by
  unfold redCheck
  split
  · exact .ite redClose_rdBut.mono .refl
  · exact .refl

theorem redEdgeGone_rdBut {s n} : RdBut [(Reg.TVL_GEVENT, 0, 0), (Reg.TOP_DRAIN_CNT 5, 0, 0), (Reg.TOP_DRAIN_STATUS, 0, 0), (Reg.TOP_DRAIN_CNT 0,
    0x4, 0), (Reg.TOP_DRAIN_CNT 1, 0, 0), (Reg.REC_EVENT, 0, 0), (Reg.REC_ARB_DROP 0, 0, 0), (Reg.REC_ARB_DROP 1, 0, 0), (Reg.REC_ARB_DROP 2, 0,
    0), (Reg.TOP_DRAIN_CNT 8, 0, 0)] s (redEdgeGone s n) := by
  unfold redEdgeGone
  exact .forEach fun _ _ => .trans (.of_evolves (W := { tvl := true }) .set_tvl) redCheck_rdBut.mono

theorem memberGone_rdBut {s r pos} : RdBut [(Reg.CH_EVENT 0, 0x1000, 0), (Reg.REC_EVENT, 0, 0), (Reg.REC_ARB_DROP 0, 0, 0), (Reg.REC_ARB_DROP 1, 0,
    0), (Reg.REC_ARB_DROP 2, 0, 0), (Reg.TOP_DRAIN_CNT 8, 0, 0), (Reg.TOP_DRAIN_STATUS, 0, 0)] s (memberGone s r pos) := by
  unfold memberGone
  exact .ite
    (.trans ((.of_evolves setCh_evolves))
       (.trans (.trans ((.of_evolves allActive_evolves)) ((.of_evolves restartShed_evolves)))
          (.trans ((raise_rdBut1 (b := Reg.CH_EVENT 0) (p := 0x1000)).mono) record_rdBut.mono))) .refl

theorem dutyLost_rdBut {s c} : RdBut [(Reg.CH_EVENT 0, 0x1000, 0), (Reg.REC_EVENT, 0, 0), (Reg.REC_ARB_DROP 0, 0, 0), (Reg.REC_ARB_DROP 1, 0, 0),
    (Reg.REC_ARB_DROP 2, 0, 0), (Reg.TOP_DRAIN_CNT 8, 0, 0), (Reg.TOP_DRAIN_STATUS, 0, 0)] s (dutyLost s c) := by
  unfold dutyLost
  exact .ite
    (.trans (.forEach fun _ _ => (.of_evolves setPh_evolves))
       (.trans ((.of_evolves setCh_evolves)) (.trans ((raise_rdBut1 (b := Reg.CH_EVENT 0) (p := 0x1000)).mono) record_rdBut.mono))) .refl

theorem wideLaneLost_rdBut {s n} : RdBut [(Reg.CH_EVENT 0, 0x1000, 0), (Reg.REC_EVENT, 0, 0), (Reg.REC_ARB_DROP 0, 0, 0), (Reg.REC_ARB_DROP 1, 0,
    0), (Reg.REC_ARB_DROP 2, 0, 0), (Reg.TOP_DRAIN_CNT 8, 0, 0), (Reg.TOP_DRAIN_STATUS, 0, 0)] s (wideLaneLost s n) := by
  unfold wideLaneLost
  exact .ite .refl (.forEach fun _ _ => .ite memberGone_rdBut.mono (.ite dutyLost_rdBut.mono .refl))

theorem laneLeave_rdBut {s n st} : RdBut [(Reg.TVL_EVENT 0, 0x100, 0), (Reg.TVL_GEVENT, 0, 0), (Reg.TOP_DRAIN_CNT 0, 0x4, 0),
    (Reg.TOP_DRAIN_STATUS, 0, 0), (Reg.TOP_DRAIN_CNT 1, 0, 0), (Reg.REC_EVENT, 0, 0), (Reg.REC_ARB_DROP 0, 0, 0), (Reg.REC_ARB_DROP 1, 0, 0),
    (Reg.REC_ARB_DROP 2, 0, 0), (Reg.TOP_DRAIN_CNT 8, 0, 0), (Reg.TOP_DRAIN_CNT 5, 0, 0), (Reg.CH_EVENT 0, 0x1000, 0)] s (laneLeave s n st) := by
  unfold laneLeave
  exact .ite
    (.trans ((.of_evolves setLane_evolves))
       (.trans ((raise_rdBut1 (b := Reg.TVL_EVENT 0) (p := 0x100)).mono)
          (.trans (.forEach fun _ _ => deadFrame_rdBut.mono)
             (.trans (.forEach fun _ _ => (.of_evolves cellLeft_evolves))
                (.trans (.ite redEdgeGone_rdBut.mono .refl)
                   (.trans (.ite (.of_evolves (W := { tb := true }) .set_tb) .refl) wideLaneLost_rdBut.mono))))))
    ((.of_evolves setLane_evolves))

theorem laneStart_rdBut {s n} : RdBut [(Reg.TVL_EVENT 0, 0x100, 0), (Reg.TVL_GEVENT, 0, 0), (Reg.TOP_DRAIN_CNT 0, 0x4, 0), (Reg.TOP_DRAIN_STATUS,
    0, 0), (Reg.TOP_DRAIN_CNT 1, 0, 0), (Reg.REC_EVENT, 0, 0), (Reg.REC_ARB_DROP 0, 0, 0), (Reg.REC_ARB_DROP 1, 0, 0), (Reg.REC_ARB_DROP 2, 0, 0),
    (Reg.TOP_DRAIN_CNT 8, 0, 0), (Reg.TOP_DRAIN_CNT 5, 0, 0), (Reg.CH_EVENT 0, 0x1000, 0)] s (laneStart s n) := by
  unfold laneStart
  exact .ite (.ite ((.of_evolves setLane_evolves)) .refl) (.ite .refl laneLeave_rdBut.mono)

theorem estFlags_rdBut {s k} : RdBut [(Reg.EST_R 0, 0x20, 0), (Reg.EST_CONF 0, 0x20, 0)] s (estFlags s k) := by
  unfold estFlags
  exact .trans ((wrN_rdBut1 (b := Reg.EST_R 0) (p := 0x20)).mono) ((wrN_rdBut1 (b := Reg.EST_CONF 0) (p := 0x20)).mono)

theorem regionAck_rdBut {s k} : RdBut [(Reg.EST_R 0, 0x20, 0), (Reg.EST_CONF 0, 0x20, 0)] s (regionAck s k) := by
  unfold regionAck
  exact .trans ((.of_evolves setRegion_evolves)) estFlags_rdBut.mono

theorem estCmd_rdBut {s} : RdBut [(Reg.REC_EVENT, 0, 0), (Reg.REC_ARB_DROP 0, 0, 0), (Reg.REC_ARB_DROP 1, 0, 0), (Reg.REC_ARB_DROP 2, 0, 0),
    (Reg.TOP_DRAIN_CNT 8, 0, 0), (Reg.TOP_DRAIN_STATUS, 0, 0), (Reg.EST_RGN_EVENT 0, 0x20, 0), (Reg.EST_EVENT, 0, 0), (Reg.EST_CAP_STATUS, 0, 0),
    (Reg.EST_R 0, 0x20, 0), (Reg.EST_CONF 0, 0x20, 0)] s (estCmd s) := by
  unfold estCmd
  exact .ite
    (.trans (.forEach fun _ _ => capEnd_rdBut.mono)
       (.trans (.of_evolves (W := { est := true }) .set_est)
          (.trans (.forEach fun _ _ => .trans ((.of_evolves setRegion_evolves)) capStat_rdBut.mono) (.of_evolves (W := { est := true }) .set_est))))
    (.ite (.forEach fun _ _ => regionAck_rdBut.mono) .refl)

theorem commitDrip_rdBut {s0 s r} : RdBut [(Reg.CH_DRIP_TIME_LO 0, 0x1000, 0), (Reg.CH_DRIP_TIME_LO 0 + 4, 0x1000, 0), (Reg.CH_DRIP_CNT 0, 0x1000,
    0)] s (commitDrip s0 s r) := by
  unfold commitDrip
  exact .ite dripExit_rdBut.mono .refl

theorem railStart_rdBut {s r set} : RdBut [(Reg.REC_EVENT, 0, 0), (Reg.REC_ARB_DROP 0, 0, 0), (Reg.REC_ARB_DROP 1, 0, 0), (Reg.REC_ARB_DROP 2, 0,
    0), (Reg.TOP_DRAIN_CNT 8, 0, 0), (Reg.TOP_DRAIN_STATUS, 0, 0), (Reg.TOP_START_STATUS, 0, 0), (Reg.CH_DRIP_TIME_LO 0, 0x1000, 0),
    (Reg.CH_DRIP_TIME_LO 0 + 4, 0x1000, 0), (Reg.CH_CAL_CNT 0, 0x1000, 0), (Reg.FQ_CNT2, 0, 0), (Reg.FQ_EVENT, 0, 0), (Reg.TOP_DRAIN_CNT 4, 0, 0),
    (Reg.FQ_CNT, 0, 0)] s (railStart s r set) := by
  unfold railStart
  split
  · exact .ite softStart_rdBut.mono .refl
  · exact .ite (.trans (.trans disDrop_rdBut.mono ((.of_evolves setCh_evolves))) softStart_rdBut.mono) .refl
  · exact .refl
  · exact .ite disDrop_rdBut.mono .refl

theorem commitRail_rdBut {s0 s r} : RdBut [(Reg.CH_DRIP_TIME_LO 0, 0x1000, 0), (Reg.CH_DRIP_TIME_LO 0 + 4, 0x1000, 0), (Reg.CH_DRIP_CNT 0, 0x1000,
    0), (Reg.REC_EVENT, 0, 0), (Reg.REC_ARB_DROP 0, 0, 0), (Reg.REC_ARB_DROP 1, 0, 0), (Reg.REC_ARB_DROP 2, 0, 0), (Reg.TOP_DRAIN_CNT 8, 0, 0),
    (Reg.TOP_DRAIN_STATUS, 0, 0), (Reg.TOP_START_STATUS, 0, 0), (Reg.CH_CAL_CNT 0, 0x1000, 0), (Reg.FQ_CNT2, 0, 0), (Reg.FQ_EVENT, 0, 0),
    (Reg.TOP_DRAIN_CNT 4, 0, 0), (Reg.FQ_CNT, 0, 0)] s (commitRail s0 s r) := by
  unfold commitRail
  exact .trans (.ite ((.of_evolves setCh_evolves)) .refl)
    (.trans commitDrip_rdBut.mono
       (.trans (.ite ((.of_evolves setCh_evolves)) .refl)
          (.trans (.ite ((.of_evolves setCh_evolves)) .refl)
             (.trans (.ite ((.of_evolves commitPhases_evolves)) .refl)
                (.trans ((.of_evolves setCh_evolves))
                   (.ite (.ite railStart_rdBut.mono .refl) (.trans (.ite discharge_rdBut.mono .refl) (.ite startAdvance_rdBut.mono .refl))))))))

theorem commitDisable_rdBut {s} : RdBut [(Reg.CH_DRIP_TIME_LO 0, 0x1000, 0), (Reg.CH_DRIP_TIME_LO 0 + 4, 0x1000, 0), (Reg.CH_DRIP_CNT 0, 0x1000,
    0)] s (commitDisable s) := by
  unfold commitDisable
  exact .forEach fun _ _ => .trans ((.of_evolves setPh_evolves)) (.ite dripExit_rdBut.mono .refl)

/-! ## The result of the commit port -/

/-- RESULT of TOP_COMMIT_STATUS. -/
def commitCode (s : State) : Nat := fld s Reg.TOP_COMMIT_STATUS F.TOP_COMMIT_STATUS_RESULT

section
variable {s t : State}

theorem Shows.code_of_rdBut {F : List (Nat × Nat × Nat)} (h : RdBut F s t)
    (ho : F.all (misses · Reg.TOP_COMMIT_STATUS) = true := by decide +kernel) : Shows commitCode s t := h.fld_eq _ ho

theorem Shows.code_of {W : Blocks} (h : Evolves W s t) (hW : W.regs = false := by rfl) : Shows commitCode s t :=
  fld_congr (rd_of_regs (h.regs_eq hW) _) _

theorem code_loadEnd {result item byte : Nat} : Shows commitCode s (loadEnd s result item byte) := by
  unfold loadEnd
  extract_lets ph dig s1 s2 s3 pend i s4
  have h1 : Shows commitCode s s1 := .code_of_rdBut setF_rdBut0
  have h2 : Shows commitCode s1 s2 := .code_of_rdBut wrN_rdBut0
  have h3 : Shows commitCode s2 s3 := .code_of_rdBut record_rdBut
  have h4 : Shows commitCode s3 s4 := .trans (.code_of (W := { img := true }) .set_img) (.code_of shadowRefill_evolves)
  exact h1.trans (h2.trans (h3.trans (h4.trans (.ite (fun _ => result_pendRefresh _) fun _ => .refl))))

theorem code_haltEntry {trip : Nat} : Shows commitCode s (haltEntry s trip) := by
  unfold haltEntry
  refine .ite (fun _ => .refl) fun _ => ?_
  refine .trans (t := loadAbort s 0x15) (.ite (fun _ => code_loadEnd) fun _ => .refl) ?_
  refine .trans (t := if trip = 0 then loadAbort s 0x15 else originTrip (loadAbort s 0x15) trip)
    (.ite (fun _ => .refl) fun _ => .code_of_rdBut originTrip_rdBut) ?_
  exact .trans (.code_of (W := { top := true }) .set_top) (.code_of_rdBut enterState_rdBut)

theorem code_haltSwitched {trip : Nat} : Shows commitCode s (haltSwitched s trip) := code_haltEntry.trans (.code_of_rdBut dischargeAll_rdBut)

theorem code_latchRail {kind r what : Nat} : Shows commitCode s (latchRail s kind r what) := by
  unfold latchRail
  extract_lets ready s1 s2 s3 s4 s5 bit s6
  have h1 : Shows commitCode s s1 := .code_of_rdBut latchSet_rdBut
  have h5 : Shows commitCode s1 s5 := by
    refine .ite (fun _ => ?_) fun _ => .ite (fun _ => .refl) fun _ => .ite (fun _ => .code_of_rdBut discharge_rdBut) fun _ => .code_of setCh_evolves
    exact .trans (.ite (fun _ => .code_of_rdBut leaveReg_rdBut) fun _ => .refl)
      (.trans (.code_of crowbarOn_evolves) (.trans (.code_of_rdBut (raise_rdBut0 (off := Reg.PROT_STATUS)))
        (.trans (.code_of setCh_evolves) (.code_of_rdBut disDrop_rdBut))))
  refine h1.trans (h5.trans (.ite (fun _ => ?_) fun _ => .code_of_rdBut startAdvance_rdBut))
  exact .trans (.ite (fun _ => .refl) fun _ => .code_of_rdBut originTrip_rdBut) (.trans (.code_of (W := { top := true }) .set_top) code_haltSwitched)

theorem code_stageFault {p reading : Nat} : Shows commitCode s (stageFault s p reading) := by
  unfold stageFault
  refine .ite (fun _ => .refl) fun _ => .ite (fun _ => ?_) fun _ => ?_
  · exact .trans (.code_of setPh_evolves) (.trans (.code_of_rdBut (raise_rdBut1 (b := Reg.PH_FLT 0) (p := 0x100)))
      (.trans (.code_of_rdBut (raise_rdBut1 (b := Reg.CH_EVENT 0) (p := 0x1000))) (.trans (.code_of_rdBut stageEntry_rdBut)
        (.trans (.ite (fun _ => .code_of_rdBut dripExit_rdBut) fun _ => .refl) (.ite (fun _ => code_latchRail) fun _ => .refl)))))
  · exact .trans (.code_of setPh_evolves) (.trans (.code_of_rdBut (raise_rdBut1 (b := Reg.PH_FLT 0) (p := 0x100))) (.code_of_rdBut stageEntry_rdBut))

theorem code_thermalTrip {bit die : Nat} : Shows commitCode s (thermalTrip s bit die) := by
  unfold thermalTrip
  refine .trans (.ite (fun _ => .refl) fun _ => ?_) (.trans (.code_of_rdBut (raise_rdBut0 (off := Reg.PROT_STATUS)))
    (.trans (.code_of phasesMid_evolves) (code_haltEntry.trans (.code_of_rdBut dischargeAll_rdBut))))
  exact .trans (.code_of_rdBut (raise_rdBut0 (off := Reg.PROT_THERM_LATCH))) (.trans (.code_of_rdBut protEntry_rdBut)
    (.trans (.code_of lifeUp_evolves) (.code_of_rdBut originTrip_rdBut)))

theorem code_limitsNow : Shows commitCode s (limitsNow s) := by
  unfold limitsNow
  exact .trans (.forEach fun _ _ => .ite (fun _ => code_latchRail) fun _ => .refl)
    (.trans (.forEach fun _ _ => .ite (fun _ => .trans (.code_of_rdBut (raise_rdBut0 (off := Reg.PROT_EVENT))) code_stageFault) fun _ => .refl)
      (.ite (fun _ => code_thermalTrip) fun _ => .refl))

/-- No hook of a commit touches its result. -/
theorem code_commitHooks {s0 : State} {m : Nat} : Shows commitCode s (commitHooks s0 s m) := by
  unfold commitHooks
  extract_lets s1 s2 s3 s4 s5 s6 s7
  have h1 : Shows commitCode s s1 :=
    .trans (.ite (fun _ => .refl) fun _ => .code_of_rdBut commitDisable_rdBut) (.forEach fun _ _ => .code_of_rdBut commitRail_rdBut)
  have h2 : Shows commitCode s1 s2 := .forEach fun _ _ => .code_of commitPart_evolves
  have h3 : Shows commitCode s2 s3 := .ite (fun _ => .trans (.forEach fun _ _ => .code_of cfgTrip_evolves) code_limitsNow) fun _ => .refl
  have h4 : Shows commitCode s3 s4 := .ite (fun _ => .code_of commitFq_evolves) fun _ => .refl
  have h5 : Shows commitCode s4 s5 := .ite (fun _ => .code_of_rdBut estCmd_rdBut) fun _ => .refl
  have h6 : Shows commitCode s5 s6 :=
    .ite (fun _ => .forEach fun _ _ => .trans (.code_of_rdBut derate_rdBut) (.code_of_rdBut estFlags_rdBut)) fun _ => .refl
  have h7 : Shows commitCode s6 s7 := .ite (fun _ => .forEach fun _ _ => .code_of_rdBut laneStart_rdBut) fun _ => .refl
  exact h1.trans (h2.trans (h3.trans (h4.trans (h5.trans (h6.trans (h7.trans (.ite (fun _ => .code_of commitPb_evolves) fun _ => .refl)))))))

theorem code_commitEffect {m mode tick : Nat} {snap : Tab Word} : commitCode (commitEffect s m snap mode tick) = resDone := by
  unfold commitEffect
  extract_lets s1 i s2 s3 s4
  clear_value s2
  have h3 : commitCode s3 = resDone := (fld_setF_apart (commitResult s2 resDone) _ _ _ _ (by decide) (by decide)).trans (result_commitResult s2 resDone)
  clear_value s3
  have h4 : Shows commitCode s3 s4 := .code_of_rdBut record_rdBut
  exact (h4.trans (.trans (.code_of_rdBut capture_rdBut) code_commitHooks)).eq.trans h3

/-- Every request of the commit port is answered (Table 1.17). -/
theorem code_commitRequest {tick : Bool} : commitCode (commitRequest s tick) ≠ 0 := by
  unfold commitRequest
  extract_lets f m s1 mode at_ busy snap ue bad s2
  have hrefuse (t : State) (r : Nat) (hr : r % 16 ≠ 0) : commitCode (commitRefuse t m mode r at_) ≠ 0 := fun he => hr ((result_commitRefuse _ _ _ _ _).symm.trans he)
  clear_value s1 mode at_ busy snap bad
  split
  · exact hrefuse _ _ (by decide)
  split
  · exact hrefuse _ _ (by decide)
  split
  · exact hrefuse _ _ (by decide)
  split
  · exact hrefuse _ _ (by decide)
  split
  · exact hrefuse _ _ (by decide)
  split
  · exact fun he => absurd (((result_pendRefresh _).trans (result_commitResult _ _)).symm.trans he) (by decide)
  · exact fun he => absurd (code_commitEffect.symm.trans he) (by decide)

end

end Sys2Proof.Machine
end

section
/-! PROOF. Register writes of the management firmware: the core it works on takes the plane tag for the write, which the gate then passes. -/

namespace Sys2Proof.Machine
open Host
set_option Elab.async false

/-! ## When firmware can write -/

/-- Core `n` works for the management plane, which owns the commit port. -/
structure FwAt (s : State) (n : Nat) : Prop where
  no : fwNo s = some n
  por : s.top.porHeld = false
  rst : wholeReset s = false
  owner : (rd s Reg.TOP_COMMIT_OWNER).toNat = 1

/-- A core without its plane tag. -/
def tagless (c : CoreSt) : CoreSt := { c with tag := 0 }

/-- `t` keeps of `s` what lets firmware write, up to the tags of the cores. -/
structure FwKept (s t : State) : Prop where
  img : t.img = s.img
  clk : t.clk = s.clk
  por : t.top.porHeld = s.top.porHeld
  rst : t.top.rst = s.top.rst
  core (k : Nat) : tagless (coreOf t k) = tagless (coreOf s k)
  owner : rd t Reg.TOP_COMMIT_OWNER = rd s Reg.TOP_COMMIT_OWNER

section
variable {s t u : State} {n off val : Nat}

theorem FwKept.trans (h : FwKept s t) (k : FwKept t u) : FwKept s u :=
  ⟨k.img.trans h.img, k.clk.trans h.clk, k.por.trans h.por, k.rst.trans h.rst, fun i => (k.core i).trans (h.core i), k.owner.trans h.owner⟩

theorem FwKept.of {W : Blocks} (h : Evolves W s t) (ho : rd t Reg.TOP_COMMIT_OWNER = rd s Reg.TOP_COMMIT_OWNER)
    (hW : (W.img || W.clk || W.top || W.fwc) = false := by rfl) : FwKept s t := by
  simp only [Bool.or_eq_false_iff] at hW
  obtain ⟨⟨⟨himg, hclk⟩, htop⟩, hfwc⟩ := hW
  exact ⟨h.img_eq himg, h.clk_eq hclk, by rw [h.top_eq htop], by rw [h.top_eq htop], fun k => by rw [coreOf_of_fwc (h.fwc_eq hfwc)], ho⟩

theorem FwKept.core_field (h : FwKept s t) {β : Type} (g : CoreSt → β) (k : Nat) (hg : ∀ c, g (tagless c) = g c := by intro _; rfl) :
    g (coreOf t k) = g (coreOf s k) := by rw [← hg, h.core, hg]

theorem FwKept.coreRuns_eq (h : FwKept s t) (k : Nat) : coreRuns t k = coreRuns s k := by
  have hst : (coreOf t k).state = (coreOf s k).state := h.core_field CoreSt.state k
  have hha : (coreOf t k).halted = (coreOf s k).halted := h.core_field CoreSt.halted k
  unfold coreRuns fwOn
  rw [h.clk, hst, hha]

theorem FwKept.coreStalled_eq (h : FwKept s t) (k : Nat) : coreStalled t k = coreStalled s k := by
  have hmi : (coreOf t k).miss = (coreOf s k).miss := h.core_field CoreSt.miss k
  have hib : (coreOf t k).iblk = (coreOf s k).iblk := h.core_field CoreSt.iblk k
  have hdb : (coreOf t k).dblk = (coreOf s k).dblk := h.core_field CoreSt.dblk k
  show (coreOf t k).miss.any (fun m => if m.icache then (coreOf t k).iblk else (coreOf t k).dblk) = _
  rw [hmi, hib, hdb]
  rfl

theorem FwKept.fwNo_eq (h : FwKept s t) : fwNo t = fwNo s := by
  have hst (k : Nat) : (coreOf t k).state = (coreOf s k).state := h.core_field CoreSt.state k
  unfold fwNo
  simp only [framesOf_of_img h.img, hst, h.coreRuns_eq, h.coreStalled_eq]

theorem FwAt.of_kept (h : FwAt s n) (k : FwKept s t) : FwAt t n :=
  ⟨k.fwNo_eq.trans h.no, k.por.trans h.por, by
    unfold wholeReset
    rw [k.rst]
    exact h.rst, by rw [k.owner]; exact h.owner⟩

theorem FwAt.lt (h : FwAt s n) : n < 8 := List.mem_range.1 (List.mem_of_find?_eq_some h.no)

theorem FwAt.runs (h : FwAt s n) : coreRuns s n = true ∧ coreStalled s n = false := by
  have hn := List.find?_some h.no
  simp only [Bool.and_eq_true, Bool.not_eq_true'] at hn
  exact ⟨hn.1.2, hn.2⟩

/-! ## The core with the plane tag, and back -/

/-- The core takes the tag of the management plane. -/
def tagged (s : State) (n : Nat) : State := setCore s n (fun c => { c with tag := 2 })

/-- The write is done, and the core takes its own tag again. -/
def untagged (s : State) (n : Nat) (t : State) : State := setCore { t with resp := .none } n (fun c => { c with tag := (coreOf s n).tag })

theorem fwKept_setCore (s : State) (n : Nat) (f : CoreSt → CoreSt) (hf : ∀ c, tagless (f c) = tagless c) :
    FwKept s (setCore s n f) :=
  ⟨rfl, rfl, rfl, rfl, fun k => by
    rw [coreOf_setCore]
    split
    next he => rw [hf, he]
    next => rfl, rfl⟩

theorem fwKept_tagged : FwKept s (tagged s n) := fwKept_setCore s n _ fun _ => rfl

theorem fwKept_untagged : FwKept t (untagged s n t) := .trans (t := { t with resp := .none }) ⟨rfl, rfl, rfl, rfl, fun _ => rfl, rfl⟩ (fwKept_setCore _ n _ fun _ => rfl)

/-! ## The gate -/

/-- The gate of the register passes a core of the management plane that owns the commit port. -/
def fwOpen (off : Nat) : Bool :=
  off != Reg.TOP_ACTIVE_SEL && off != Reg.REC_WIN_SEL && (selfCore off).isNone && (putSet off).isNone && namedWriter {} .smbus off 0
    && (match regFind off with
      | some r => r.access == .hold || (planeOfOff off == 2 && !timeBaseWord off)
      | none => false)

theorem namedWriter_of_smbus {who : Initiator} (h : namedWriter {} .smbus off 0 = true) : namedWriter s who off val = true := by
  unfold namedWriter at h ⊢
  split at h
  · exact absurd h (by decide)
  split at h
  · exact absurd h (by decide)
  split at h
  · exact absurd h (by decide)
  split at h
  · exact absurd h (by decide)
  split at h
  · exact absurd h (by decide)
  split at h
  · exact absurd h (by decide)
  · simp only [if_neg, *, not_false_eq_true]

theorem admits_tagged (h : FwAt s n) (ho : fwOpen off = true) : admits (tagged s n) (.core (Fin.ofNat 8 n)) off val = true := by
  have hn : (Fin.ofNat 8 n).val = n := Nat.mod_eq_of_lt h.lt
  have ht := h.of_kept (fwKept_tagged (n := n))
  have htag : (coreOf (tagged s n) n).tag = 2 := by
    unfold tagged
    rw [coreOf_setCore_same]
  obtain ⟨hruns, hstall⟩ := ht.runs
  unfold fwOpen at ho
  simp only [Bool.and_eq_true, bne_iff_ne, ne_eq, Option.isNone_iff_eq_none] at ho
  obtain ⟨⟨⟨⟨⟨ha, hw⟩, hself⟩, hput⟩, hnamed⟩, hreg⟩ := ho
  have hown : isOwner { tagged s n with resp := .none } (.core (Fin.ofNat 8 n)) = true := by
    have ho1 : (rd { tagged s n with resp := .none } Reg.TOP_COMMIT_OWNER).toNat = 1 := ht.owner
    unfold isOwner
    rw [ho1, if_neg (by decide)]
    show ((coreOf (tagged s n) (Fin.ofNat 8 n).val).tag == 2) = true
    rw [hn, htag]
    rfl
  have hgate : gate { tagged s n with resp := .none } (.core (Fin.ofNat 8 n)) off val = .pass := by
    have hrst : wholeReset { tagged s n with resp := .none } = false := ht.rst
    unfold gate
    rw [hrst, if_neg (by simp), if_neg (by tauto)]
    split at hreg
    next r hr =>
      have hwin : windowAdmits { tagged s n with resp := .none } (.core (Fin.ofNat 8 n)) off r = true := by
        have hpl : planeTag { tagged s n with resp := .none } (.core (Fin.ofNat 8 n)) = 2 := by
          show (coreOf (tagged s n) (Fin.ofNat 8 n).val).tag = 2
          rw [hn, htag]
        unfold windowAdmits
        simp only [hpl]
        simp only [Bool.or_eq_true, beq_iff_eq, Bool.and_eq_true, Bool.not_eq_true'] at hreg
        by_cases hh : r.access = .hold
        · simp [hh]
        · obtain ⟨hp, htb⟩ := hreg.resolve_left hh
          simp [hh, hp, htb]
      simp only [hr, hself, hput, hwin, hown, namedWriter_of_smbus hnamed]
      simp
    next => cases hreg
  unfold admits
  have hreach : reachable (tagged s n) (.core (Fin.ofNat 8 n)) = true := by
    show (!(tagged s n).top.porHeld && (coreRuns (tagged s n) (Fin.ofNat 8 n).val && !coreStalled (tagged s n) (Fin.ofNat 8 n).val)) = true
    rw [hn, ht.por, hruns, hstall]
    rfl
  have hstuck : hostStuck (tagged s n) (.core (Fin.ofNat 8 n)) = false := Bool.and_false _
  rw [hreach, hstuck]
  show (gate { tagged s n with resp := .none } (.core (Fin.ofNat 8 n)) off val == .pass) = true
  rw [hgate]
  rfl

/-- A firmware write of a register that its plane may write is applied. -/
theorem fwPut_eq (h : FwAt s n) (ho : fwOpen off = true) :
    fwPut s {} off val = untagged s n (applyWrite {} { tagged s n with resp := .none } (.core (Fin.ofNat 8 n)) off val) := by
  unfold fwPut asFw
  rw [h.no]
  show untagged s n (regWrite (tagged s n) (.core (Fin.ofNat 8 n)) off val {}) = _
  rw [regWrite_of_admits {} (admits_tagged h ho)]

/-! ## Plain writes -/

/-- A HOLD register that firmware may write. -/
def holdOpen (off : Nat) : Bool := fwOpen off && isHold off && off != Reg.TOP_COMMIT_OWNER

/-- A register of plain storage that firmware may write. -/
def rwOpen (off : Nat) : Bool :=
  fwOpen off && off != Reg.TOP_COMMIT_OWNER && (regFind off).map (fun r => r.access) == some .rw && !wideWritable off && !(decide (4 ≤ off) && wideWritable (off - 4))
    && (inFam (Reg.HIR_RING_CFG 0) 0x20 64 off).isNone && (inFam (Reg.FWC_WDOG 0) 0x20 8 off).isNone && off != Reg.FWC_LIVE_CFG

theorem applyWrite_reg {r : RegFamily} {k : Fin 8} (hr : regFind off = some r) (ha : off ≠ Reg.TOP_ACTIVE_SEL) (hw : off ≠ Reg.REC_WIN_SEL) :
    applyWrite {} s (.core k) off val = (match r.access with
        | .rw => rwWrite s (.core k) off (val &&& r.mask)
        | .hold => holdWrite s (.core k) off (val &&& r.mask)
        | .w1c => w1cWrite {} s off (val &&& r.mask)
        | .rwl => lockWrite s (.core k) off (val &&& r.mask)
        | .wo => woWrite {} s (.core k) off (val &&& r.mask)
        | .rc => s
        | .ro => (match localWord s off with
          | some w => if planeTag s (.core k) = 1 then localWrite s w val else s
          | none => s)) := by
  unfold applyWrite
  simp only [if_neg ha, if_neg hw, hr] <;> rfl

/-- What a firmware write keeps, the host interface among it. -/
structure Put (s t : State) : Prop where
  kept : FwKept s t
  hir : t.hir = s.hir
  recd : t.recd = s.recd

theorem Put.trans (h : Put s t) (k : Put t u) : Put s u := ⟨h.kept.trans k.kept, k.hir.trans h.hir, k.recd.trans h.recd⟩

theorem Put.untagged (h : Put { tagged s n with resp := .none } t) : Put s (untagged s n t) :=
  ⟨(fwKept_tagged (n := n)).trans (.trans (t := { tagged s n with resp := .none }) ⟨rfl, rfl, rfl, rfl, fun _ => rfl, rfl⟩ (h.kept.trans fwKept_untagged)),
    h.hir, h.recd⟩

theorem fwPut_hold (h : FwAt s n) (ho : holdOpen off = true) : Put s (fwPut s {} off val) := by
  unfold holdOpen at ho
  simp only [Bool.and_eq_true, bne_iff_ne, ne_eq] at ho
  obtain ⟨⟨hopen, hhold⟩, hne⟩ := ho
  rw [fwPut_eq h hopen]
  refine Put.untagged ?_
  obtain ⟨r, hr, ha⟩ : ∃ r, regFind off = some r ∧ r.access = .hold := by
    unfold isHold at hhold
    cases hr : regFind off with
    | none => simp [hr] at hhold
    | some r => exact ⟨r, rfl, by simpa [hr] using hhold⟩
  unfold fwOpen at hopen
  simp only [Bool.and_eq_true, bne_iff_ne, ne_eq] at hopen
  rw [applyWrite_reg hr hopen.1.1.1.1.1 hopen.1.1.1.1.2, ha]
  have hev : Evolves { regs := true, integ := true } { tagged s n with resp := .none } (holdWrite { tagged s n with resp := .none } (.core (Fin.ofNat 8 n)) off (val &&& r.mask)) := by
    exact .trans .set_integ wrN_evolves.mono
  exact ⟨.of hev (rd_wrN_ne _ _ hne), hev.hir_eq rfl, hev.recd_eq rfl⟩

theorem fwPut_rw (h : FwAt s n) (ho : rwOpen off = true) :
    fwPut s {} off val = untagged s n (wrN { tagged s n with resp := .none } off (val &&& ((regFind off).map (fun r => r.mask)).getD 0)) := by
  unfold rwOpen at ho
  simp only [Bool.and_eq_true, bne_iff_ne, ne_eq, beq_iff_eq, Option.map_eq_some_iff, Bool.not_eq_true', Option.isNone_iff_eq_none] at ho
  obtain ⟨⟨⟨⟨⟨⟨⟨hopen, -⟩, r, hr, ha⟩, hlo⟩, hhi⟩, hring⟩, hwd⟩, hlive⟩ := ho
  rw [fwPut_eq h hopen]
  unfold fwOpen at hopen
  simp only [Bool.and_eq_true, bne_iff_ne, ne_eq] at hopen
  rw [applyWrite_reg hr hopen.1.1.1.1.1 hopen.1.1.1.1.2, ha, hr]
  have hhi' : ¬(4 ≤ off ∧ wideWritable (off - 4) = true) := by simpa using hhi
  show untagged s n (rwWrite _ _ off _) = _
  unfold rwWrite
  rw [hlo, if_neg (by decide), if_neg hhi', hring, hwd]
  simp only [Option.isSome_none, Bool.false_eq_true, if_false, if_neg hlive]
  rfl

theorem put_rw (h : FwAt s n) (ho : rwOpen off = true) : Put s (fwPut s {} off val) := by
  rw [fwPut_rw h ho]
  refine Put.untagged ⟨.of wrN_evolves (rd_wrN_ne _ _ ?_), wrN_evolves.hir_eq rfl, wrN_evolves.recd_eq rfl⟩
  unfold rwOpen at ho
  simp only [Bool.and_eq_true, bne_iff_ne, ne_eq] at ho
  exact ho.1.1.1.1.1.1.2

/-! ## A commit by firmware -/

theorem put_holds (h : FwAt s n) {l : List (Nat × Nat)} (hl : ∀ p ∈ l, holdOpen p.1 = true) : Put s (fwPuts s l) := by
  unfold fwPuts forEach
  induction l generalizing s with
  | nil => exact ⟨⟨rfl, rfl, rfl, rfl, fun _ => rfl, rfl⟩, rfl, rfl⟩
  | cons p l ih =>
    have hp : Put s (fwPut s {} p.1 p.2) := fwPut_hold h (hl p (by simp))
    exact hp.trans (ih (h.of_kept hp.kept) fun q hq => hl q (by simp [hq]))

theorem hir_untagged : (untagged s n t).hir = t.hir := rfl

theorem code_untagged : commitCode (untagged s n t) = commitCode t := rfl

theorem commitCtl_open : fwOpen Reg.TOP_COMMIT_CTL = true := by decide +kernel

theorem woWrite_commitCtl {who : Initiator} : woWrite {} s who Reg.TOP_COMMIT_CTL (1 &&& 7) = commitRequest (stagedErrors s 0 []) false := by
  unfold woWrite woOne
  rw [if_pos rfl]
  show commitCtl {} s (1 &&& 7) = _
  unfold commitCtl
  rw [if_neg (by decide), if_pos (by decide)]
  rfl

theorem fwPuts_cons {p : Nat × Nat} {l : List (Nat × Nat)} : fwPuts s (p :: l) = fwPuts (fwPut s {} p.1 p.2) l := rfl

theorem fwPuts_nil : fwPuts s [] = s := rfl

theorem fwCommit_immediate (mask tick : Nat) : fwCommit s mask false tick
    = fwPut (fwPut (fwPut s {} Reg.TOP_COMMIT_MASK_LO (mask % 2 ^ 32)) {} Reg.TOP_COMMIT_MASK_HI (mask / 2 ^ 32)) {} Reg.TOP_COMMIT_CTL 1 := by
  unfold fwCommit
  simp only [if_neg Bool.false_ne_true, fwPuts_cons, fwPuts_nil]
  rfl

/-- An immediate commit that firmware asks for is answered, and the host interface is left alone (R47, R783). -/
theorem fwCommit_results (h : FwAt s n) (mask tick : Nat) :
    (fwCommit s mask false tick).hir = s.hir ∧ commitCode (fwCommit s mask false tick) ≠ 0 := by
  have h1 : Put s (fwPut s {} Reg.TOP_COMMIT_MASK_LO (mask % 2 ^ 32)) := put_rw h (by decide +kernel)
  have h2 := put_rw (val := mask / 2 ^ 32) (off := Reg.TOP_COMMIT_MASK_HI) (h.of_kept h1.kept) (by decide +kernel)
  have h12 := h1.trans h2
  rw [fwCommit_immediate]
  generalize fwPut (fwPut s {} Reg.TOP_COMMIT_MASK_LO (mask % 2 ^ 32)) {} Reg.TOP_COMMIT_MASK_HI (mask / 2 ^ 32) = v at h12 ⊢
  have hv := h.of_kept h12.kept
  rw [fwPut_eq hv commitCtl_open, ← h12.hir]
  obtain ⟨r, hr, ha, hm⟩ : ∃ r, regFind Reg.TOP_COMMIT_CTL = some r ∧ r.access = .wo ∧ r.mask = 7 := by
    have : (regFind Reg.TOP_COMMIT_CTL).map (fun r => (r.access, r.mask)) = some (.wo, 7) := by decide +kernel
    obtain ⟨r, hr, he⟩ := Option.map_eq_some_iff.1 this
    exact ⟨r, hr, congrArg Prod.fst he, congrArg Prod.snd he⟩
  rw [applyWrite_reg hr (by decide) (by decide), ha, hm]
  rw [hir_untagged, code_untagged]
  dsimp only
  rw [woWrite_commitCtl]
  refine ⟨(commitRequest_evolves.hir_eq rfl).trans ?_, code_commitRequest⟩
  rfl

end

end Sys2Proof.Machine
end

section
/-! PROOF. Host commands that move data (O54). -/

namespace Sys2Proof.Machine
open Host
set_option Elab.async false

/-! ## A command that firmware takes up -/

section
variable {s t u : State} {ring : RingIx} {cid : BitVec 16} {op : Nat} {c : HirCmd}

/-- The state in which firmware acts on a command: the answer of the command before is cleared, and the commit port is firmware's. -/
def takenUp (s : State) : State := ownerSync { s with resp := .none }

theorem takenUp_evolves : Evolves { regs := true, resp := true } s (takenUp s) := .trans .set_resp ownerSync_evolves.mono

theorem rd_takenUp {off : Nat} (h : Reg.TOP_COMMIT_OWNER ≠ off) : rd (takenUp s) off = rd s off := by
  unfold takenUp ownerSync
  split
  · split
    · exact rd_wrN_ne _ _ h
    · split
      · exact rd_wr_ne _ _ h
      · rfl
  · rfl

theorem fld_takenUp {off : Nat} (f : Fld) (h : Reg.TOP_COMMIT_OWNER ≠ off) : fld (takenUp s) off f = fld s off f := fld_congr (rd_takenUp h) f

theorem ringCfg_ne (r : Nat) : Reg.TOP_COMMIT_OWNER ≠ Reg.HIR_RING_CFG r := by
  dsimp only [Reg.TOP_COMMIT_OWNER, Reg.HIR_RING_CFG]
  omega

theorem ringOwner_takenUp (r : Nat) : ringOwner (takenUp s) r = ringOwner s r := fld_takenUp _ (ringCfg_ne r)

theorem ringOf_setHir {f : HirSt → HirSt} {r : Nat} (hf : ∀ x, (f x).ring = x.ring := by intro _; rfl) : ringOf (setHir s f) r = ringOf s r := by
  unfold ringOf setHir
  rw [hf]

theorem hir_takenUp : (takenUp s).hir = s.hir := takenUp_evolves.hir_eq rfl

/-- The command is the one command of a running ring of function 0 that nothing has completed. -/
structure OneCmd (s : State) (ring : RingIx) (cid : BitVec 16) (c : HirCmd) : Prop where
  cmds : (ringOf s ring.val).cmds = [c]
  done : (ringOf s ring.val).done = []
  cid : c.cid = cid.toNat

theorem OneCmd.of_ring (h : OneCmd s ring cid c) (hr : ringOf t ring.val = ringOf s ring.val) : OneCmd t ring cid c :=
  ⟨by rw [hr]; exact h.cmds, by rw [hr]; exact h.done, h.cid⟩

theorem OneCmd.of_hir (h : OneCmd s ring cid c) (hr : t.hir = s.hir) : OneCmd t ring cid c := h.of_ring (ringOf_of_hir hr _)

theorem ringOf_hirFinish (r status detail : Nat) (result : List Byte) : ringOf (hirFinish s r c status detail result) r = { ringOf s r with
    cmds := (ringOf s r).cmds.erase c
    done := (ringOf s r).done ++ [{ cid := c.cid, status := status, detail := detail, result := result, quiet := bitOf c.flags 1 }] } := by
  unfold hirFinish
  rw [ringOf_setRing, if_pos rfl]

theorem OneCmd.finish (h : OneCmd s ring cid c) (status detail : Nat) (result : List Byte) :
    completed (hirFinish s ring.val c status detail result) ring cid status := by
  unfold completed
  rw [ringOf_hirFinish, h.cmds, h.done, h.cid]
  exact ⟨List.erase_cons_head _ _, rfl⟩

/-- What `takesCmd` says, clause by clause. -/
structure Taken (s : State) (ring : RingIx) (cid : BitVec 16) (op : Nat) (c : HirCmd) : Prop extends OneCmd s ring cid c where
  works : fwWorks s = true
  running : (ringOf s ring.val).state = .running
  tel : ringTel s ring.val = false
  owner : ringOwner s ring.val = 0
  op : c.opcode = op
  began : c.began = false
  cap : flag s Reg.SBM_BMC_CAP F.SBM_BMC_CAP_PENDING = false

theorem taken_of (h : takesCmd s ring cid op c = true) : Taken s ring cid op c := by
  unfold takesCmd at h
  simp only [Bool.and_eq_true, Bool.not_eq_true', beq_iff_eq] at h
  obtain ⟨⟨⟨⟨⟨⟨⟨⟨⟨hw, hrun⟩, htel⟩, how⟩, hcmds⟩, hdone⟩, hcid⟩, hop⟩, hbeg⟩, hcap⟩ := h
  exact ⟨⟨hcmds, hdone, hcid⟩, hw, hrun, htel, how, hop, hbeg, hcap⟩

theorem bmcCommit_takenUp (h : flag s Reg.SBM_BMC_CAP F.SBM_BMC_CAP_PENDING = false) : bmcCommit (takenUp s) = takenUp s := by
  have hf : flag (takenUp s) Reg.SBM_BMC_CAP F.SBM_BMC_CAP_PENDING = false := (flag_congr (rd_takenUp (by decide)) _).trans h
  unfold bmcCommit
  rw [hf, if_neg (by simp)]

theorem fwRun_found (hw : fwWorks s = true) (hrun : (ringOf s ring.val).state = .running) (htel : ringTel s ring.val = false)
    (hcap : flag s Reg.SBM_BMC_CAP F.SBM_BMC_CAP_PENDING = false) (hfind : hirFind s ring.val cid.toNat op = some c) (hmay : mayBegin s ring.val c = true)
    (f0 : Bool) (act : State → HirCmd → State) : fwRun s ring.val cid.toNat op f0 act
      = if f0 && ringOwner s ring.val != 0 then hirFinish (takenUp s) ring.val c 3 0 [] else act (takenUp s) c := by
  unfold fwRun
  rw [hw, hrun, htel, hfind]
  rw [if_neg (by decide)]
  dsimp only
  rw [if_neg (by simp [hmay])]
  show (if (f0 && ringOwner (bmcCommit (takenUp s)) ring.val != 0) = true then hirFinish (bmcCommit (takenUp s)) ring.val c 3 0 [] else act (bmcCommit (takenUp s)) c) = _
  rw [bmcCommit_takenUp hcap, ringOwner_takenUp]

theorem fwRun_taken (h : Taken s ring cid op c) (f0 : Bool) (act : State → HirCmd → State) :
    fwRun s ring.val cid.toNat op f0 act = act (takenUp s) c := by
  have hfind : hirFind s ring.val cid.toNat op = some c := by
    unfold hirFind
    rw [h.cmds]
    simp [h.cid, h.op]
  have hmay : mayBegin s ring.val c = true := by
    unfold mayBegin
    rw [h.cmds]
    simp
  rw [fwRun_found h.works h.running h.tel h.cap hfind hmay, h.owner, if_neg (by simp)]

theorem Taken.one (h : Taken s ring cid op c) : OneCmd (takenUp s) ring cid c := h.toOneCmd.of_hir hir_takenUp

theorem owner_takenUp (h : Taken s ring cid op c) : (rd (takenUp s) Reg.TOP_COMMIT_OWNER).toNat = 1 := by
  have hup : fwUp { s with resp := .none } = true := by
    have hw := h.works
    unfold fwWorks at hw
    simp only [Bool.and_eq_true] at hw
    exact hw.1.1
  have hany : (List.range 64).any (fun r => (ringOf { s with resp := .none } r).state == .running && !ringTel { s with resp := .none } r
      && ringOwner { s with resp := .none } r == 0) = true := by
    refine List.any_eq_true.2 ⟨ring.val, List.mem_range.2 ring.isLt, ?_⟩
    show ((ringOf s ring.val).state == .running && !ringTel s ring.val && ringOwner s ring.val == 0) = true
    rw [h.running, h.tel, h.owner]
    rfl
  unfold takenUp ownerSync
  rw [if_pos hup, if_pos hany, rd_wrN_same]
  rfl

theorem fwAt_takenUp (h : Taken s ring cid op c) (hp : s.top.porHeld = false) : ∃ n, FwAt (takenUp s) n := by
  have hw := h.works
  unfold fwWorks at hw
  simp only [Bool.and_eq_true, Bool.not_eq_true', Option.isSome_iff_exists] at hw
  obtain ⟨⟨-, n, hn⟩, hr⟩ := hw
  have htop : (takenUp s).top = s.top := takenUp_evolves.top_eq rfl
  refine ⟨n, ?_, by rw [htop]; exact hp, by unfold wholeReset; rw [htop]; exact hr, owner_takenUp h⟩
  have hcore (k : Nat) : coreOf (takenUp s) k = coreOf s k := coreOf_of_fwc (takenUp_evolves.fwc_eq rfl) k
  have hclk : (takenUp s).clk = s.clk := takenUp_evolves.clk_eq rfl
  rw [← hn]
  unfold fwNo coreRuns coreStalled fwOn
  simp only [framesOf_of_img (takenUp_evolves.img_eq rfl), hcore, hclk]

/-- The command completes with the result of the commit it asked for. -/
def committedAs (t : State) (ring : RingIx) (cid : BitVec 16) : Prop :=
  completed t ring cid (commitStatus t) ∧ fld t Reg.TOP_COMMIT_STATUS F.TOP_COMMIT_STATUS_RESULT ≠ 0

/-- A command that writes HOLD registers and commits them completes with the commit's result (R783). -/
theorem fwStage_results (h : Taken s ring cid op c) (hp : s.top.porHeld = false) {l : List (Nat × Nat)} (hl : ∀ p ∈ l, holdOpen p.1 = true) (mask tick : Nat)
    (result : State → List Byte) : committedAs (fwStage (takenUp s) ring.val c l mask false tick result) ring cid := by
  obtain ⟨n, hn⟩ := fwAt_takenUp h hp
  have hput := put_holds hn hl
  obtain ⟨hhir, hcode⟩ := fwCommit_results (hn.of_kept hput.kept) mask tick
  unfold fwStage
  rw [if_neg (by rw [hn.owner]; decide)]
  generalize fwCommit (fwPuts (takenUp s) l) mask false tick = v at hhir hcode
  exact ⟨(h.one.of_hir (hhir.trans hput.hir)).finish _ _ _, hcode⟩

end

/-! ## The commands -/

section
variable {s : State} {ring : RingIx} {cid : BitVec 16} {c : HirCmd}

theorem telHold (k : Fin 64) : holdOpen (Reg.HIR_TEL_CFG k.val) = true ∧ holdOpen (Reg.HIR_TEL_SEL k.val) = true := by
  have : ∀ k : Fin 64, (holdOpen (Reg.HIR_TEL_CFG k.val) && holdOpen (Reg.HIR_TEL_SEL k.val)) = true := by decide +kernel
  simpa using this k

theorem telemCfg_results (h : Taken s ring cid 0x40 c) (hp : s.top.porHeld = false) :
    Runs (.telemCfg ring cid) s (fun t => (63 < prm c 0 1 → completed t ring cid 2)
      ∧ (prm c 0 1 ≤ 63 → ringOwner s (prm c 0 1) ≠ 0 → completed t ring cid 3)
      ∧ (prm c 0 1 ≤ 63 → ringOwner s (prm c 0 1) = 0 → prm c 1 1 ≤ 3 → committedAs t ring cid)) := by
  refine ⟨_, congrArg Outcome.next (fwRun_taken h false _), ?_⟩
  dsimp only
  rw [ringOwner_takenUp, ringOwner_takenUp, h.owner]
  refine ⟨fun hb => ?_, fun hb ho => ?_, fun hb ho hr => ?_⟩
  · rw [if_pos hb]
    exact h.one.finish _ _ _
  · rw [if_neg (by omega), if_pos ho]
    exact h.one.finish _ _ _
  · rw [if_neg (by omega), if_neg (by omega), if_neg (by omega)]
    refine fwStage_results h hp ?_ _ _ _
    simp only [List.mem_cons, List.not_mem_nil, or_false, forall_eq_or_imp, forall_eq]
    exact telHold ⟨prm c 0 1, by omega⟩

theorem baseline_results (h : Taken s ring cid 0x60 c) (hp : s.top.porHeld = false) :
    Runs (.baseline ring cid) s (fun t => (prm c 0 1 = 0 ∨ 2 < prm c 0 1 ∨ 127 < prm c 1 1 → completed t ring cid 2)
      ∧ (prm c 0 1 = 1 ∨ prm c 0 1 = 2 → prm c 1 1 ≤ 127 → prm c 2 1 ≤ 1 → committedAs t ring cid)) := by
  refine ⟨_, congrArg Outcome.next (fwRun_taken h true _), ?_⟩
  dsimp only
  refine ⟨fun hb => ?_, fun ho hb hr => ?_⟩
  · by_cases hop : prm c 0 1 ≠ 1 ∧ prm c 0 1 ≠ 2
    · rw [if_pos hop]
      exact h.one.finish _ _ _
    · rw [if_neg hop, if_pos (by omega)]
      exact h.one.finish _ _ _
  · rw [if_neg (by omega), if_neg (by omega), if_neg (by omega)]
    refine fwStage_results h hp ?_ _ _ _
    simp only [List.mem_cons, List.not_mem_nil, or_false, forall_eq]
    decide +kernel

theorem domBudget_results (h : Taken s ring cid 0x71 c) (hp : s.top.porHeld = false) :
    Runs (.domBudget ring cid) s (fun t => committedAs t ring cid) := by
  refine ⟨_, congrArg Outcome.next (fwRun_taken h true _), ?_⟩
  refine fwStage_results h hp ?_ _ _ _
  simp only [List.mem_cons, List.not_mem_nil, or_false, forall_eq_or_imp, forall_eq]
  decide +kernel

/-! ## The recorder -/

/-- Bytes for the host's buffer go out once, whatever is found of them (R786). -/
theorem dmaOut_results (s : State) (r : Nat) (c : HirCmd) (out : DmaOut) (b : List Byte) :
    (∀ i, ringOf (dmaOut s r c out b) i = ringOf s i) ∧ (dmaOut s r c out b).hir.hostOut = s.hir.hostOut ++ [(c.addr, b)]
      ∧ (dmaOut s r c out b).hir.bulk = s.hir.bulk := by
  have hout (u : State) : (bufOut u c b).hir.hostOut = u.hir.hostOut ++ [(c.addr, b)] ∧ (bufOut u c b).hir.bulk = u.hir.bulk
      ∧ ∀ i, ringOf (bufOut u c b) i = ringOf u i := ⟨rfl, rfl, fun _ => rfl⟩
  unfold dmaOut
  split
  next a =>
    have hh : (dmaUe s r a.toNat).hir = s.hir := dmaUe_evolves.hir_eq rfl
    obtain ⟨h1, h2, h3⟩ := hout (dmaUe s r a.toNat)
    exact ⟨fun i => (h3 i).trans (ringOf_of_hir hh i), by rw [h1, hh], by rw [h2, hh]⟩
  next => exact ⟨(hout s).2.2, (hout s).1, (hout s).2.1⟩

theorem recGather_of {t : State} (h : t.recd = s.recd) (from_ most : Nat) : recGather t 0 from_ most = recGather s 0 from_ most := by
  have hm (u : State) (e : Entry) : recMine u 0 e = true := rfl
  unfold recGather
  simp only [hm, h]

theorem recRead_results (h : Taken s ring cid 0x50 c) (out : DmaOut) :
    Runs (.recRead ring cid out) s (fun t => (bufOk c (32 * prm c 8 4) = false ∨ out = .failed → completed t ring cid 7)
      ∧ (bufOk c (32 * prm c 8 4) = true → out ≠ .failed → completed t ring cid 0
          ∧ t.hir.hostOut = s.hir.hostOut ++ [(c.addr, (recGather s 0 (prm c 0 8) (prm c 8 4)).out.flatMap entryBytes)])) := by
  refine ⟨_, congrArg Outcome.next (fwRun_taken h false _), ?_⟩
  dsimp only
  rw [ringOwner_takenUp, h.owner, recGather_of (takenUp_evolves.recd_eq rfl)]
  constructor
  · intro hb
    rw [if_pos (by rcases hb with hb | hb <;> simp [hb])]
    exact h.one.finish _ _ _
  · intro hb ho
    rw [if_neg (by simp [hb, ho])]
    obtain ⟨hring, hout, -⟩ := dmaOut_results (takenUp s) ring.val c out ((recGather s 0 (prm c 0 8) (prm c 8 4)).out.flatMap entryBytes)
    exact ⟨(h.one.of_ring (hring _)).finish _ _ _, by rw [← hir_takenUp (s := s), ← hout]; rfl⟩

theorem leAt_lt (b : List Byte) (off k : Nat) : leAt b off k < 2 ^ (8 * k) := by
  unfold leAt
  induction k with
  | zero => simp
  | succ k ih =>
    rw [List.range_succ, List.foldl_append]
    simp only [List.foldl_cons, List.foldl_nil]
    have hb : (b.getD (off + k) 0).toNat ≤ 255 := Nat.le_of_lt_succ (b.getD (off + k) 0).isLt
    have hmul := Nat.mul_le_mul_right (2 ^ (8 * k)) hb
    rw [show 8 * (k + 1) = 8 * k + 8 from rfl, Nat.pow_add]
    omega

/-- The mask of REC_SPILL_BASE_LO takes the bits below 64 KiB away. -/
theorem and_spillMask {x : Nat} (hx : x < 2 ^ 32) (h : x % 65536 = 0) : x &&& 0xFFFF0000 = x := by
  obtain ⟨q, rfl⟩ := Nat.dvd_of_mod_eq_zero h
  have hq : q < 2 ^ 16 := by omega
  have hs : 65536 * q = q <<< 16 := by rw [Nat.shiftLeft_eq]; omega
  rw [hs, show (0xFFFF0000 : Nat) = (2 ^ 16 - 1) <<< 16 from by decide, ← Nat.shiftLeft_and_distrib, Nat.and_two_pow_sub_one_eq_mod, Nat.mod_eq_of_lt hq]

theorem reg_spillLo : ∃ r, regFind Reg.REC_SPILL_BASE_LO = some r ∧ r.access = .rw ∧ r.mask = 0xFFFF0000 := by
  have : (regFind Reg.REC_SPILL_BASE_LO).map (fun r => (r.access, r.mask)) = some (.rw, 0xFFFF0000) := by decide +kernel
  obtain ⟨r, hr, he⟩ := Option.map_eq_some_iff.1 this
  exact ⟨r, hr, congrArg Prod.fst he, congrArg Prod.snd he⟩

theorem reg_spillHi : ∃ r, regFind Reg.REC_SPILL_BASE_HI = some r ∧ r.access = .rw ∧ r.mask = 0xFFFFFFFF := by
  have : (regFind Reg.REC_SPILL_BASE_HI).map (fun r => (r.access, r.mask)) = some (.rw, 0xFFFFFFFF) := by decide +kernel
  obtain ⟨r, hr, he⟩ := Option.map_eq_some_iff.1 this
  exact ⟨r, hr, congrArg Prod.fst he, congrArg Prod.snd he⟩

theorem fwKept_setClass {t : State} (who : Initiator) (f : ClassSt → ClassSt) : FwKept t (setClass t who f) := ⟨rfl, rfl, rfl, rfl, fun _ => rfl, rfl⟩

theorem pendLow_untagged {t : State} {n : Nat} {who : Initiator} : classOf (untagged s n t) who = classOf t who := rfl

/-- The low part of the base waits in the writer's class (R26). -/
theorem spillLo_results {n : Nat} (h : FwAt s n) (base : Nat) (hb : base % 65536 = 0) :
    Put s (fwPut s {} Reg.REC_SPILL_BASE_LO (base % 2 ^ 32))
      ∧ tabGet none (classOf (fwPut s {} Reg.REC_SPILL_BASE_LO (base % 2 ^ 32)) (.core (Fin.ofNat 8 n))).pendLow Reg.REC_SPILL_BASE_LO
        = some (BitVec.ofNat 32 (base % 2 ^ 32)) := by
  obtain ⟨r, hr, ha, hm⟩ := reg_spillLo
  rw [fwPut_eq h (by decide +kernel), applyWrite_reg hr (by decide) (by decide), ha, hm, and_spillMask (by omega) (by omega)]
  dsimp only
  unfold rwWrite wideWrite
  rw [if_pos (by decide), if_pos rfl]
  refine ⟨Put.untagged ⟨fwKept_setClass _ _, rfl, rfl⟩, ?_⟩
  rw [pendLow_untagged, classOf_setClass]
  dsimp only
  exact tabGet_tabSet_same (none : Option Word) _ _ _

/-- A write of the high part sets the base. -/
theorem spillHi_results {n : Nat} (h : FwAt s n) (base : Nat) (hb : base < 2 ^ 64)
    (hl : tabGet none (classOf s (.core (Fin.ofNat 8 n))).pendLow Reg.REC_SPILL_BASE_LO = some (BitVec.ofNat 32 (base % 2 ^ 32))) :
    FwKept s (fwPut s {} Reg.REC_SPILL_BASE_HI (base / 2 ^ 32)) ∧ (fwPut s {} Reg.REC_SPILL_BASE_HI (base / 2 ^ 32)).hir = s.hir
      ∧ (fwPut s {} Reg.REC_SPILL_BASE_HI (base / 2 ^ 32)).recd.spillBase = base := by
  obtain ⟨r, hr, ha, hm⟩ := reg_spillHi
  rw [fwPut_eq h (by decide +kernel), applyWrite_reg hr (by decide) (by decide), ha, hm, show (0xFFFFFFFF : Nat) = 2 ^ 32 - 1 from rfl,
    Nat.and_two_pow_sub_one_eq_mod]
  dsimp only
  have hlow : (((tabGet none (classOf { tagged s n with resp := .none } (.core (Fin.ofNat 8 n))).pendLow (Reg.REC_SPILL_BASE_HI - 4)).getD
      (readWord { tagged s n with resp := .none } (.core (Fin.ofNat 8 n)) (Reg.REC_SPILL_BASE_HI - 4))).toNat) = base % 2 ^ 32 := by
    show (((tabGet none (classOf s (.core (Fin.ofNat 8 n))).pendLow Reg.REC_SPILL_BASE_LO).getD _).toNat) = _
    rw [hl, Option.getD_some, BitVec.toNat_ofNat, Nat.mod_mod]
  unfold rwWrite wideWrite
  rw [if_neg (by decide), if_pos (by decide), if_neg (by decide)]
  dsimp only
  rw [hlow, if_neg (by decide), if_pos rfl, show base % 2 ^ 32 + base / 2 ^ 32 % 2 ^ 32 * 2 ^ 32 = base from by omega]
  generalize hu : setClass { tagged s n with resp := .none } (.core (Fin.ofNat 8 n)) _ = u
  have hk : FwKept { tagged s n with resp := .none } u := hu ▸ fwKept_setClass _ _
  have hh : u.hir = s.hir := by rw [← hu]; rfl
  refine ⟨(fwKept_tagged (n := n)).trans (.trans (t := { tagged s n with resp := .none }) ⟨rfl, rfl, rfl, rfl, fun _ => rfl, rfl⟩
    (hk.trans (.trans (t := { u with recd := { u.recd with spillBase := base } })
      ⟨rfl, rfl, rfl, rfl, fun _ => rfl, rfl⟩ fwKept_untagged))), hh, rfl⟩

/-- A write of REC_CTL leaves its two bits. -/
theorem recCtl_results {n : Nat} (h : FwAt s n) (v : Nat) : Put s (fwPut s {} Reg.REC_CTL v) ∧ spillOn (fwPut s {} Reg.REC_CTL v) = decide (v / 2 % 2 = 1) := by
  refine ⟨put_rw h (by decide +kernel), ?_⟩
  rw [fwPut_rw h (by decide +kernel), show ((regFind Reg.REC_CTL).map (fun r => r.mask)).getD 0 = 2 ^ 2 - 1 from by decide +kernel, Nat.and_two_pow_sub_one_eq_mod]
  generalize { tagged s n with resp := .none } = u
  show flag (wrN u Reg.REC_CTL (v % 2 ^ 2)) Reg.REC_CTL F.REC_CTL_SPILL_EN = _
  unfold flag fldOf
  rw [rd_wrN_same, BitVec.toNat_ofNat]
  show ((v % 2 ^ 2) % 2 ^ 32 / 2 % 2 == 1) = _
  rw [show (v % 2 ^ 2) % 2 ^ 32 / 2 % 2 = v / 2 % 2 from by omega]
  rfl

/-- The count of the report is read without touching the spill. -/
theorem spillReport_keeps (s : State) : (fwGet s Reg.REC_SPILL_CNT).2.hir = s.hir ∧ (fwGet s Reg.REC_SPILL_CNT).2.recd = s.recd
    ∧ spillOn (fwGet s Reg.REC_SPILL_CNT).2 = spillOn s := by
  refine ⟨fwGet_evolves.hir_eq rfl, ?_⟩
  have hgo (who : Initiator) : (readReg.go who Reg.REC_SPILL_CNT s).recd = s.recd ∧ rd (readReg.go who Reg.REC_SPILL_CNT s) Reg.REC_CTL = rd s Reg.REC_CTL := by
    rw [readGo_eq _ _ (by decide)]
    have hgot : (wideGot s who Reg.REC_SPILL_CNT).2 = s := by
      rw [wideGot_narrow _ _ (by decide +kernel) (by decide +kernel)]
    have hdlq : readTaken s who Reg.REC_SPILL_CNT = { s with resp := .word (wideGot s who Reg.REC_SPILL_CNT).1 } := by
      unfold readTaken dlqTaken
      rw [hgot, show inFam (Reg.TVL_DLQ_W3 0) 0x20 8 Reg.REC_SPILL_CNT = none from by decide]
    unfold rcCleared
    rw [hdlq]
    split
    · split
      · exact ⟨rfl, rd_wr_ne _ _ (by decide)⟩
      · exact ⟨rfl, rfl⟩
    · exact ⟨rfl, rfl⟩
  unfold fwGet
  split
  · exact ⟨rfl, rfl⟩
  next n hn =>
    have hread : (readReg s (.core (Fin.ofNat 8 n)) Reg.REC_SPILL_CNT).recd = s.recd
        ∧ rd (readReg s (.core (Fin.ofNat 8 n)) Reg.REC_SPILL_CNT) Reg.REC_CTL = rd s Reg.REC_CTL := by
      unfold readReg
      split
      · exact ⟨rfl, rfl⟩
      · rw [if_neg (by simp [hostStuck])]
        exact hgo _
    exact ⟨hread.1, flag_congr hread.2 _⟩

theorem recSpill_results (h : Taken s ring cid 0x51 c) (hp : s.top.porHeld = false) :
    Runs (.recSpill ring cid) s (fun t => (prm c 0 1 = 0 ∨ 3 < prm c 0 1 → completed t ring cid 2)
      ∧ (prm c 0 1 = 1 → prm c 8 8 % 65536 = 0 → 0 < prm c 0x10 4 → prm c 0x10 4 ≤ 4194304 → completed t ring cid 0 ∧ t.recd.spillBase = prm c 8 8 ∧ spillOn t = true)
      ∧ (prm c 0 1 = 2 → completed t ring cid 0 ∧ spillOn t = false) ∧ (prm c 0 1 = 3 → completed t ring cid 0)) := by
  refine ⟨_, congrArg Outcome.next (fwRun_taken h true _), ?_⟩
  obtain ⟨n, hn⟩ := fwAt_takenUp h hp
  have hreport (u : State) (hu : u.hir = (takenUp s).hir) (result : List Byte) :
      completed (hirOk (fwGet u Reg.REC_SPILL_CNT).2 ring.val c result) ring cid 0 :=
    (h.one.of_hir ((spillReport_keeps u).1.trans hu)).finish _ _ _
  dsimp only
  generalize shown (takenUp s) Reg.REC_CTL = ctl
  refine ⟨fun ho => ?_, fun ho hb hs hs' => ?_, fun ho => ?_, fun ho => ?_⟩
  · rw [if_neg (by omega), if_neg (by omega), if_neg (by omega)]
    exact h.one.finish _ _ _
  · rw [if_pos ho, if_neg (by omega), if_neg (by omega)]
    simp only [fwPuts_cons, fwPuts_nil]
    obtain ⟨h1, hlow⟩ := spillLo_results hn _ hb
    have hn1 := hn.of_kept h1.kept
    obtain ⟨hk2, hh2, hb2⟩ := spillHi_results hn1 (prm c 8 8) (leAt_lt c.param 8 8) hlow
    generalize fwPut (fwPut (takenUp s) {} Reg.REC_SPILL_BASE_LO (prm c 8 8 % 2 ^ 32)) {} Reg.REC_SPILL_BASE_HI (prm c 8 8 / 2 ^ 32) = v2 at hk2 hh2 hb2 ⊢
    have hn2 := hn1.of_kept hk2
    have h3 : Put v2 (fwPut v2 {} Reg.REC_SPILL_SIZE (prm c 0x10 4)) := put_rw hn2 (by decide +kernel)
    obtain ⟨h4, hon⟩ := recCtl_results (hn2.of_kept h3.kept) (ctl % 2 + 2)
    have h34 := h3.trans h4
    generalize fwPut (fwPut v2 {} Reg.REC_SPILL_SIZE (prm c 0x10 4)) {} Reg.REC_CTL (ctl % 2 + 2) = v at h34 hon ⊢
    obtain ⟨-, hr, hs⟩ := spillReport_keeps v
    refine ⟨hreport v (h34.hir.trans (hh2.trans h1.hir)) _, ?_, ?_⟩
    · show (fwGet v Reg.REC_SPILL_CNT).2.recd.spillBase = _
      rw [hr, h34.recd, hb2]
    · show spillOn (fwGet v Reg.REC_SPILL_CNT).2 = true
      rw [hs, hon]
      exact decide_eq_true (by omega)
  · rw [if_neg (by omega), if_pos ho]
    simp only [fwPuts_cons, fwPuts_nil]
    obtain ⟨h4, hon⟩ := recCtl_results hn (ctl % 2)
    generalize fwPut (takenUp s) {} Reg.REC_CTL (ctl % 2) = v at h4 hon ⊢
    obtain ⟨-, -, hs⟩ := spillReport_keeps v
    refine ⟨hreport v h4.hir _, ?_⟩
    show spillOn (fwGet v Reg.REC_SPILL_CNT).2 = false
    rw [hs, hon]
    exact decide_eq_false (by omega)
  · rw [if_neg (by omega), if_neg (by omega), if_pos ho]
    exact hreport _ rfl _

/-! ## The domain -/

theorem domMember_results (h : Taken s ring cid 0x70 c) (ho : prm c 0 1 = 1 ∨ prm c 0 1 = 2) (hnode : prm c 2 2 ≤ 1023) :
    Runs (.domMember ring cid) s (fun t => (domRoleNow s = .master → completed t ring cid 0 ∧ t.dom.members = s.dom.members.filter (fun n => n != prm c 2 2)
          ∧ t.dom.mgen = (s.dom.mgen + 1) % 2 ^ 16)
      ∧ (domRoleNow s ≠ .master → prm c 2 2 ≠ ownNode s → completed t ring cid 5 ∧ t.dom = s.dom)) := by
  refine ⟨_, congrArg Outcome.next (fwRun_taken h true _), ?_⟩
  dsimp only
  have hdom : (takenUp s).dom = s.dom := takenUp_evolves.dom_eq rfl
  have hrole : domRoleNow (takenUp s) = domRoleNow s := domRoleNow_of (by rw [takenUp_evolves.top_eq rfl]) (by rw [hdom])
  have hown : ownNode (takenUp s) = ownNode s := by
    unfold ownNode
    rw [framesOf_of_img (takenUp_evolves.img_eq rfl)]
  rw [if_neg (by omega), if_neg (by omega), hrole, hown]
  constructor
  · intro hm
    rw [if_pos hm]
    refine ⟨(h.one.of_hir (memberDrop_evolves.hir_eq rfl)).finish _ _ _, ?_, ?_⟩
    · show (memberDrop (takenUp s) _ _).dom.members = _
      unfold memberDrop
      rw [← hdom]
      exact congrArg DomSt.members (postFrame_evolves.dom_eq rfl)
    · show (memberDrop (takenUp s) _ _).dom.mgen = _
      unfold memberDrop
      rw [← hdom]
      exact congrArg DomSt.mgen (postFrame_evolves.dom_eq rfl)
  · intro hm hne
    rw [if_neg hm, if_neg (fun hx => hne hx.2.1)]
    exact ⟨h.one.finish _ _ _, hdom⟩

/-! ## Bulk messages -/

theorem bulkRoom_of {t : State} (hi : t.img = s.img) (hl : t.tvl = s.tvl) (dest : Nat) : bulkRoom t dest = bulkRoom s dest := by
  unfold bulkRoom lclsOf laneOf
  rw [framesOf_of_img hi, hl]

/-- A message of one fragment is posted whole. -/
theorem bulkPost_short (s : State) (dest chan msg : Nat) {b : List Byte} (hb : b.length ≤ fragMax) (hpos : b ≠ []) (hroom : 0 < bulkRoom s dest) :
    b.length ≤ (bulkPost s dest chan msg b 0).2 := by
  unfold bulkPost
  obtain ⟨k, hk⟩ : ∃ k, bulkRoom s dest = k + 1 := ⟨_, (Nat.succ_pred_eq_of_pos hroom).symm⟩
  rw [hk, List.range_succ_eq_map, List.foldl_cons, if_neg (by simpa using hpos)]
  suffices hrest : ∀ (l : List Nat) (x : State × Nat), b.length ≤ x.2 → b.length ≤ (l.foldl (fun (x : State × Nat) _ =>
      if b.length ≤ x.2 then x
      else (postFrame x.1 0x0303 0 dest (fragBody chan msg x.2 b.length ((b.drop x.2).take fragMax)), x.2 + fragMax)) x).2 from
    hrest _ _ (by simpa using hb)
  intro l
  induction l with
  | nil => exact fun x hx => hx
  | cons i l ih =>
    intro x hx
    rw [List.foldl_cons, if_pos hx]
    exact ih x hx

theorem bulkSend_results (h : Taken s ring cid 0x80 c) (b : List Byte) :
    Runs (.bulkSend ring cid (.data b)) s (fun t => (1023 < prm c 0 2 → completed t ring cid 2)
      ∧ (prm c 0 2 ≤ 1023 → bufOk c 1 = true → c.len ≤ fragMax → c.waits = 0 → 0 < bulkRoom s (prm c 0 2) → completed t ring cid 0
          ∧ tabGet 0 t.hir.bulkNo (prm c 2 2) = (tabGet 0 s.hir.bulkNo (prm c 2 2) + 1) % 65536)) := by
  refine ⟨_, congrArg Outcome.next (fwRun_taken h true _), ?_⟩
  dsimp only
  refine ⟨fun hd => ?_, fun hd hbuf hlen hw hroom => ?_⟩
  · rw [if_pos hd]
    exact h.one.finish _ _ _
  · have hlen1 : 1 ≤ c.len := by
      unfold bufOk at hbuf
      simp only [Bool.and_eq_true, decide_eq_true_eq] at hbuf
      exact hbuf.2
    have hlen' : ¬1048576 < c.len := by
      have : fragMax = 2032 := rfl
      omega
    rw [if_neg (by omega), if_neg (by simp [hbuf, hlen'])]
    have hin : ((b ++ List.replicate c.len 0).take c.len).length = c.len := by simp
    unfold bufIn
    dsimp only
    generalize (b ++ List.replicate c.len 0).take c.len = d at hin
    rw [h.began]
    simp only [if_neg Bool.false_ne_true, hw, Nat.zero_mod]
    have hr : 0 < bulkRoom (takenUp s) (prm c 0 2) := by rwa [bulkRoom_of (takenUp_evolves.img_eq rfl) (takenUp_evolves.tvl_eq rfl)]
    generalize hv : setHir (takenUp s) _ = v
    have hno : tabGet 0 v.hir.bulkNo (prm c 2 2) = (tabGet 0 s.hir.bulkNo (prm c 2 2) + 1) % 65536 := by
      rw [← hv, ← hir_takenUp (s := s)]
      exact tabGet_tabSet_same _ _ _ _
    have hone : OneCmd v ring cid c := h.one.of_ring (by rw [← hv]; rfl)
    have hr' : 0 < bulkRoom v (prm c 0 2) := by
      rw [← hv]
      exact hr
    rw [if_pos (bulkPost_short v _ _ _ (by omega) (by rintro rfl; simp at hin; omega) hr')]
    have hh : (bulkPost v (prm c 0 2) (prm c 2 2) (tabGet 0 (takenUp s).hir.bulkNo (prm c 2 2)) d 0).1.hir = v.hir := bulkPost_evolves.hir_eq rfl
    refine ⟨(hone.of_hir hh).finish _ _ _, ?_⟩
    rw [← hno, ← hh]
    rfl

theorem bulkRecv_results (h : Taken s ring cid 0x81 c) (out : DmaOut) :
    Runs (.bulkRecv ring cid out) s (fun t =>
      (∀ m : BulkMsg, s.hir.bulk.find? (fun m => m.channel == prm c 2 2 && bulkWhole m) = some m →
        (bufOk c m.total = true → out ≠ .failed → completed t ring cid 0 ∧ t.hir.hostOut = s.hir.hostOut ++ [(c.addr, m.parts.flatMap (fun p => p.2))] ∧ t.hir.bulk = s.hir.bulk.erase m)
        ∧ (bufOk c m.total = false ∨ out = .failed → completed t ring cid 7 ∧ t.hir.bulk = s.hir.bulk))
      ∧ (s.hir.bulk.find? (fun m => m.channel == prm c 2 2 && bulkWhole m) = none →
        ∃ k : HirCmd, (ringOf t ring.val).cmds = [k] ∧ k.cid = cid.toNat ∧ k.began = true ∧ k.waits = prm c 2 2 + 1)) := by
  refine ⟨_, congrArg Outcome.next (fwRun_taken h true _), ?_⟩
  dsimp only
  have hrun : (ringOf (takenUp s) ring.val).state ≠ .stopping := by
    rw [ringOf_of_hir hir_takenUp, h.running]
    decide
  rw [if_neg hrun, hir_takenUp]
  refine ⟨fun m hm => ?_, fun hm => ?_⟩
  · rw [hm]
    dsimp only
    unfold bulkGive
    refine ⟨fun hb ho => ?_, fun hb => ?_⟩
    · rw [if_neg (by simp [hb, ho])]
      dsimp only
      generalize hv : setHir (takenUp s) _ = v
      have hone : OneCmd v ring cid c := h.one.of_ring (by rw [← hv]; rfl)
      obtain ⟨hring, hout, hbulk⟩ := dmaOut_results v ring.val c out (m.parts.flatMap (fun p => p.2))
      refine ⟨(hone.of_ring (hring _)).finish _ _ _, ?_, ?_⟩
      · show (dmaOut v ring.val c out _).hir.hostOut = _
        rw [hout, ← hv, ← hir_takenUp (s := s)]
        rfl
      · show (dmaOut v ring.val c out _).hir.bulk = _
        rw [hbulk, ← hv, ← hir_takenUp (s := s)]
        rfl
    · rw [if_pos (by rcases hb with hb | hb <;> simp [hb])]
      exact ⟨h.one.finish _ _ _, (congrArg HirSt.bulk (hir_takenUp (s := s)) : (takenUp s).hir.bulk = s.hir.bulk)⟩
  · rw [hm, h.began]
    dsimp only
    rw [if_neg Bool.false_ne_true]
    refine ⟨{ c with began := true, waits := prm c 2 2 + 1, order := (takenUp s).hir.begun }, ?_, h.cid, rfl, rfl⟩
    unfold hirBegin
    simp only [h.began, if_neg Bool.false_ne_true]
    rw [ringOf_setHir, ringOf_setRing, if_pos rfl]
    dsimp only
    rw [h.one.cmds]
    simp

theorem bulk_results (src : Fin 1024) (channel msg : BitVec 16) (off total : Nat) (data : List Byte) (out : DmaOut) (hw : fwWorks s = true)
    (h0 : 0 < total) (h1 : total ≤ 1048576) (hoff : off < total) (hd : data ≠ [])
    (hnew : ∀ m ∈ s.hir.bulk, ¬ (m.src = src.val ∧ m.channel = channel.toNat ∧ m.msg = msg.toNat)) (hwait : bulkWaiter s channel.toNat = none) :
    Runs (.bulk src channel msg off total data out) s (fun t => t.hir.bulk = s.hir.bulk
      ++ [(BulkMsg.mk src.val channel.toNat msg.toNat total [(off, data.take (total - off))] (now s))]) := by
  have hsame (l : List BulkMsg) (hl : l = s.hir.bulk) : l.find? (fun m => m.src == src.val && m.channel == channel.toNat && m.msg == msg.toNat) = none
      ∧ l.any (fun m => m.src == src.val && m.channel == channel.toNat && m.msg == msg.toNat) = false := by
    subst hl
    constructor
    · simp only [List.find?_eq_none, Bool.and_eq_true, beq_iff_eq]
      exact fun m hm he => hnew m hm ⟨he.1.1, he.1.2, he.2⟩
    · simp only [List.any_eq_false, Bool.and_eq_true, beq_iff_eq]
      exact fun m hm he => hnew m hm ⟨he.1.1, he.1.2, he.2⟩
  refine ⟨_, congrArg Outcome.next (if_neg (by simp [hw])), ?_⟩
  have hhir : (takeDelivered s 0x0303).hir = s.hir := takeDelivered_evolves.hir_eq rfl
  have hnow : now (takeDelivered s 0x0303) = now s := now_of takeDelivered_evolves
  generalize takeDelivered s 0x0303 = v at hhir hnow ⊢
  dsimp only
  obtain ⟨hfind, hany⟩ := hsame v.hir.bulk (by rw [hhir])
  rw [hfind, Option.getD_none, if_neg (by dsimp only; omega), hnow]
  have hjoin : bulkJoin { src := src.val, channel := channel.toNat, msg := msg.toNat, total := total, parts := [], first := now s } off data
      = BulkMsg.mk src.val channel.toNat msg.toNat total [(off, data.take (total - off))] (now s) := by
    have hne : data.take (total - off) ≠ [] := by
      simp only [ne_eq, List.take_eq_nil_iff, not_or]
      exact ⟨by omega, hd⟩
    unfold bulkJoin tabSet
    rw [if_neg hne]
    rfl
  rw [hjoin]
  generalize hm : BulkMsg.mk src.val channel.toNat msg.toNat total [(off, data.take (total - off))] (now s) = m
  generalize hz : setHir v _ = z
  have hbulk : z.hir.bulk = s.hir.bulk ++ [m] := by
    rw [← hz]
    show (if v.hir.bulk.any _ = true then _ else v.hir.bulk ++ [m]) = _
    rw [hany, if_neg Bool.false_ne_true, hhir]
  have hring (r : Nat) : ringOf z r = ringOf s r := by
    rw [← hz, ringOf_setHir]
    exact ringOf_of_hir hhir r
  have hno : bulkWaiter z channel.toNat = none := by
    rw [← hwait]
    unfold bulkWaiter
    simp only [hring]
  rw [hno]
  split <;> exact hbulk

theorem bulkTimeout_results (src : Fin 1024) (channel msg : BitVec 16) {m : BulkMsg} (hw : fwWorks s = true)
    (hm : s.hir.bulk.find? (fun m => m.src == src.val && m.channel == channel.toNat && m.msg == msg.toNat) = some m) :
    Runs (.bulkTimeout src channel msg) s (fun t => t.hir.bulk = s.hir.bulk.erase m ∧ flag t Reg.HIR_EVENT F.HIR_EVENT_BULK_DROP = true) := by
  refine ⟨_, congrArg Outcome.next (if_neg (by simp [hw])), ?_⟩
  rw [hm]
  dsimp only
  have hhir : (reach s (m.first + 10000000)).hir = s.hir := reach_evolves.hir_eq rfl
  generalize reach s (m.first + 10000000) = v at hhir ⊢
  refine ⟨?_, ?_⟩
  · refine (congrArg HirSt.bulk (record_evolves.hir_eq rfl)).trans ?_
    show v.hir.bulk.erase m = _
    rw [hhir]
  · exact (record_rdBut.flag_eq _).trans (flag_raise _ _ _ (by decide))

/-! ## ABORT -/

theorem abortNone_results (h : Taken s ring cid 0x90 c) : Runs (.abort ring cid) s (fun t => completed t ring cid 0) := by
  refine ⟨_, congrArg Outcome.next (fwRun_taken h false _), ?_⟩
  dsimp only
  rw [h.one.cmds]
  simp only [List.find?_cons, bne_self_eq_false, Bool.false_and, List.find?_nil]
  exact h.one.finish _ _ _

/-- ABORT ends a waiting BULK_RECV of its ring, and then itself (R789). -/
theorem abortWaiting_results {k : HirCmd} (hw : fwWorks s = true) (hcap : flag s Reg.SBM_BMC_CAP F.SBM_BMC_CAP_PENDING = false)
    (hrun : (ringOf s ring.val).state = .running) (htel : ringTel s ring.val = false) (hcmds : (ringOf s ring.val).cmds = [k, c])
    (hdone : (ringOf s ring.val).done = []) (hk : k.opcode = 0x81) (hkb : k.began = true) (hkf : bitOf k.flags 0 = false) (hc : c.cid = cid.toNat)
    (hco : c.opcode = 0x90) (hcf : bitOf c.flags 0 = false) (hkc : k.cid = prm c 0 2) :
    Runs (.abort ring cid) s (fun t => (ringOf t ring.val).cmds = [] ∧ (ringOf t ring.val).done.map (fun d => (d.cid, d.status)) = [(k.cid, 8), (c.cid, 0)]) := by
  have hne : k ≠ c := fun he => absurd (hk.symm.trans ((congrArg HirCmd.opcode he).trans hco)) (by decide)
  have hfind : hirFind s ring.val cid.toNat 0x90 = some c := by
    unfold hirFind
    rw [hcmds]
    simp [hc, hco, hk]
  have hmay : mayBegin s ring.val c = true := by
    unfold mayBegin
    rw [hcmds]
    simp [hne, hkb, hkf, hcf]
  refine ⟨_, congrArg Outcome.next (fwRun_found hw hrun htel hcap hfind hmay false _), ?_⟩
  have hring : ringOf (takenUp s) ring.val = ringOf s ring.val := ringOf_of_hir hir_takenUp _
  rw [Bool.false_and, if_neg Bool.false_ne_true]
  dsimp only
  rw [hring, hcmds, show [k, c].find? (fun x => x != c && x.cid == prm c 0 2 && (!x.began || x.opcode == 0x81 || x.opcode == 0x80)) = some k from by
    simp [hne, hkc, hk]]
  dsimp only
  unfold hirOk
  rw [ringOf_hirFinish, ringOf_hirFinish, hring, hcmds, hdone]
  simp [List.erase_cons_head]

end

/-- Settles O54: firmware takes the command up with the commit port its own, and each command's writes, record reads or messages end it as its table
says; a commit is always answered, since no hook of it takes RESULT back. -/
theorem hostDataCommandResults : Obligations.HostDataCommandResults :=
  ⟨fun _ _ _ _ ⟨h, hp⟩ => telemCfg_results (taken_of h) hp,
    fun _ _ out _ _ ⟨h, _⟩ => recRead_results (taken_of h) out,
    fun _ _ _ _ ⟨h, hp⟩ => recSpill_results (taken_of h) hp,
    fun _ _ _ _ ⟨h, hp⟩ => baseline_results (taken_of h) hp,
    fun _ _ _ _ ⟨h, _⟩ ho hn => domMember_results (taken_of h) ho hn,
    fun _ _ _ _ ⟨h, hp⟩ => domBudget_results (taken_of h) hp,
    fun _ _ _ b _ ⟨h, _⟩ => bulkSend_results (taken_of h) b,
    fun _ _ out _ _ ⟨h, _⟩ => bulkRecv_results (taken_of h) out,
    fun src channel msg off total data out _ hw h0 h1 hoff hd hnew hwait => bulk_results src channel msg off total data out hw h0 h1 hoff hd hnew hwait,
    fun src channel msg _ _ hw hm => bulkTimeout_results src channel msg hw hm,
    fun _ _ _ _ ⟨h, _⟩ => abortNone_results (taken_of h),
    fun _ _ _ _ _ hw hcap hrun htel hcmds hdone hk hkb hkf hc hco _ hcf hkc =>
      abortWaiting_results hw hcap hrun htel hcmds hdone hk hkb hkf hc hco hcf hkc⟩

end Sys2Proof.Machine
end

section
/-! PROOF. Captures, pulse output, alignment servo, and the loss and return of clocks (O20). -/

namespace Sys2Proof.Machine
open Host
set_option Elab.async false

/-! ## Captures -/

/-- A sweep without repetition establishes what its step for `k` establishes from a fact that the other steps of the sweep keep. -/
theorem forEach_once_mem {α : Type} {l : List α} {f : State → α → State} {s : State} {k : α} {I Q : State → Prop} (hn : l.Nodup) (hk : k ∈ l)
    (hI : ∀ s, ∀ x ∈ l, x ≠ k → I s → I (f s x)) (hQ : ∀ s, I s → Q (f s k)) (hkeep : ∀ s, ∀ x ∈ l, x ≠ k → Q s → Q (f s x)) (h : I s) :
    Q (forEach l s f) := by
  classical
  have hsame : forEach l s f = forEach l s (fun s x => if x ∈ l then f s x else s) :=
    List.foldl_ext _ _ _ fun t x hx => (if_pos hx).symm
  rw [hsame]
  refine forEach_once (I := I) hn hk (fun t x hx ht => ?_) (fun t ht => ?_) (fun t x hx ht => ?_) h
  · split
    · exact hI t x ‹_› hx ht
    · exact ht
  · rw [if_pos hk]
    exact hQ t ht
  · split
    · exact hkeep t x ‹_› hx ht
    · exact ht

section
variable {s t : State} {k x : Nat}

/-- What a capture unit holds: whether it holds a stamp, the stamp, and OVERRUN. -/
def capUnit (k : Nat) (s : State) : Bool × Word × Word × Bool :=
  (flag s Reg.TB_CAP_VALID ⟨k, 1⟩, rd s (Reg.TB_CAP_LO k), rd s (Reg.TB_CAP_HI k), flag s Reg.TB_CAP_FLAGS ⟨k, 1⟩)

theorem Shows.back {β : Type} {g : State → β} (h : Shows g s t) : Shows g t s := Eq.symm h

theorem capUnit_ext (h1 : flag t Reg.TB_CAP_VALID ⟨k, 1⟩ = flag s Reg.TB_CAP_VALID ⟨k, 1⟩) (h2 : rd t (Reg.TB_CAP_LO k) = rd s (Reg.TB_CAP_LO k))
    (h3 : rd t (Reg.TB_CAP_HI k) = rd s (Reg.TB_CAP_HI k)) (h4 : flag t Reg.TB_CAP_FLAGS ⟨k, 1⟩ = flag s Reg.TB_CAP_FLAGS ⟨k, 1⟩) :
    Shows (capUnit k) s t := Prod.ext h1 (Prod.ext h2 (Prod.ext h3 h4))

theorem capUnit_flags (hk : k < 16) {i : Nat} (hi : i < 32) (hne : i ≠ k) : Shows (capUnit k) s (setF s Reg.TB_CAP_FLAGS ⟨i, 1⟩ 1) := by
  have h0 : Reg.TB_CAP_FLAGS ≠ Reg.TB_CAP_LO k := by dsimp only [Reg.TB_CAP_FLAGS, Reg.TB_CAP_LO]; omega
  have h1 : Reg.TB_CAP_FLAGS ≠ Reg.TB_CAP_HI k := by dsimp only [Reg.TB_CAP_FLAGS, Reg.TB_CAP_HI]; omega
  exact capUnit_ext (flag_congr (rd_setF_ne _ _ _ (by decide)) _) (rd_setF_ne _ _ _ h0) (rd_setF_ne _ _ _ h1)
    (flag_setF_apart _ _ _ _ (by dsimp only; omega) (by dsimp only; omega))

/-- A unit keeps what it holds while another one takes its stamp (R110). -/
theorem capUnit_other (hx : x < 16) (hk : k < 16) (hne : x ≠ k) (at_ : Nat) (inStep : Bool) : Shows (capUnit k) s (captureUnit s x at_ inStep) := by
  have hlo (i j : Nat) (h : i ≠ j) : Reg.TB_CAP_LO i ≠ Reg.TB_CAP_LO j := by dsimp only [Reg.TB_CAP_LO]; omega
  have hhi (i j : Nat) (h : i ≠ j) : Reg.TB_CAP_HI i ≠ Reg.TB_CAP_HI j := by dsimp only [Reg.TB_CAP_HI]; omega
  have hlh (i j : Nat) : Reg.TB_CAP_LO i ≠ Reg.TB_CAP_HI j := by dsimp only [Reg.TB_CAP_LO, Reg.TB_CAP_HI]; omega
  have hv (i : Nat) (hi : i < 16) : Reg.TB_CAP_VALID ≠ Reg.TB_CAP_LO i ∧ Reg.TB_CAP_VALID ≠ Reg.TB_CAP_HI i
      ∧ Reg.TB_CAP_FLAGS ≠ Reg.TB_CAP_LO i ∧ Reg.TB_CAP_FLAGS ≠ Reg.TB_CAP_HI i := by
    dsimp only [Reg.TB_CAP_VALID, Reg.TB_CAP_FLAGS, Reg.TB_CAP_LO, Reg.TB_CAP_HI]
    omega
  obtain ⟨hxvl, hxvh, hxfl, hxfh⟩ := hv x hx
  obtain ⟨hkvl, hkvh, -, -⟩ := hv k hk
  unfold captureUnit
  refine .ite (fun _ => capUnit_flags hk (by omega) hne) fun _ => ?_
  extract_lets s1 s2
  have h1 : Shows (capUnit k) s s1 := capUnit_ext
    (flag_congr ((rd_wrN_ne _ _ (Ne.symm hxvh)).trans (rd_wrN_ne _ _ (Ne.symm hxvl))) _)
    ((rd_wrN_ne _ _ (Ne.symm (hlh k x))).trans (rd_wrN_ne _ _ (hlo x k hne)))
    ((rd_wrN_ne _ _ (hhi x k hne)).trans (rd_wrN_ne _ _ (hlh x k)))
    (flag_congr ((rd_wrN_ne _ _ (Ne.symm hxfh)).trans (rd_wrN_ne _ _ (Ne.symm hxfl))) _)
  have h2 : Shows (capUnit k) s1 s2 := capUnit_ext (flag_setF_apart _ _ _ _ (by dsimp only; omega) (by dsimp only; omega))
    (rd_setF_ne _ _ _ hkvl) (rd_setF_ne _ _ _ hkvh) (flag_congr (rd_setF_ne _ _ _ (by decide)) _)
  exact h1.trans (h2.trans (.ite (fun _ => capUnit_flags hk (by omega) (by omega)) fun _ => .refl))

/-- What a unit holds after an event that it selects (R110): its first stamp, or the one it had with OVERRUN. -/
def Stamped (k at_ : Nat) (s t : State) : Prop :=
  flag t Reg.TB_CAP_VALID ⟨k, 1⟩ = true
  ∧ (flag s Reg.TB_CAP_VALID ⟨k, 1⟩ = false →
      (rd t (Reg.TB_CAP_LO k)).toNat = at_ % 2 ^ 32 ∧ (rd t (Reg.TB_CAP_HI k)).toNat = at_ / 2 ^ 32 % 2 ^ 32)
  ∧ (flag s Reg.TB_CAP_VALID ⟨k, 1⟩ = true →
      rd t (Reg.TB_CAP_LO k) = rd s (Reg.TB_CAP_LO k) ∧ rd t (Reg.TB_CAP_HI k) = rd s (Reg.TB_CAP_HI k) ∧ flag t Reg.TB_CAP_FLAGS ⟨k, 1⟩ = true)

theorem Stamped.congr {at_ : Nat} {u v : State} (hs : Shows (capUnit k) s u) (ht : Shows (capUnit k) t v) (h : Stamped k at_ s t) : Stamped k at_ u v := by
  obtain ⟨hs1, hs2, hs3, -⟩ : flag u Reg.TB_CAP_VALID ⟨k, 1⟩ = flag s Reg.TB_CAP_VALID ⟨k, 1⟩ ∧ rd u (Reg.TB_CAP_LO k) = rd s (Reg.TB_CAP_LO k)
    ∧ rd u (Reg.TB_CAP_HI k) = rd s (Reg.TB_CAP_HI k) ∧ flag u Reg.TB_CAP_FLAGS ⟨k, 1⟩ = flag s Reg.TB_CAP_FLAGS ⟨k, 1⟩ := by
    simpa only [Shows, capUnit, Prod.mk.injEq] using hs
  obtain ⟨ht1, ht2, ht3, ht4⟩ : flag v Reg.TB_CAP_VALID ⟨k, 1⟩ = flag t Reg.TB_CAP_VALID ⟨k, 1⟩ ∧ rd v (Reg.TB_CAP_LO k) = rd t (Reg.TB_CAP_LO k)
    ∧ rd v (Reg.TB_CAP_HI k) = rd t (Reg.TB_CAP_HI k) ∧ flag v Reg.TB_CAP_FLAGS ⟨k, 1⟩ = flag t Reg.TB_CAP_FLAGS ⟨k, 1⟩ := by
    simpa only [Shows, capUnit, Prod.mk.injEq] using ht
  unfold Stamped
  rw [hs1, hs2, hs3, ht1, ht2, ht3, ht4]
  exact h

theorem captureUnit_stamped (hk : k < 16) (at_ : Nat) (inStep : Bool) : Stamped k at_ s (captureUnit s k at_ inStep) := by
  have hvl : Reg.TB_CAP_VALID ≠ Reg.TB_CAP_LO k ∧ Reg.TB_CAP_VALID ≠ Reg.TB_CAP_HI k ∧ Reg.TB_CAP_FLAGS ≠ Reg.TB_CAP_LO k
      ∧ Reg.TB_CAP_FLAGS ≠ Reg.TB_CAP_HI k ∧ Reg.TB_CAP_HI k ≠ Reg.TB_CAP_LO k := by
    dsimp only [Reg.TB_CAP_VALID, Reg.TB_CAP_FLAGS, Reg.TB_CAP_LO, Reg.TB_CAP_HI]
    omega
  obtain ⟨hv1, hv2, hf1, hf2, hlh⟩ := hvl
  unfold captureUnit
  rw [← flag_eq_bitOf]
  split
  next hv =>
    refine ⟨(flag_congr (rd_setF_ne _ _ _ (by decide)) _).trans hv, fun h0 => absurd (hv.symm.trans h0) (by decide), fun _ => ⟨rd_setF_ne _ _ _ hf1, rd_setF_ne _ _ _ hf2, ?_⟩⟩
    exact flag_raise _ _ _ (by omega)
  next hv =>
    have hfin (u : State) (hu : flag u Reg.TB_CAP_VALID ⟨k, 1⟩ = true ∧ (rd u (Reg.TB_CAP_LO k)).toNat = at_ % 2 ^ 32 ∧ (rd u (Reg.TB_CAP_HI k)).toNat = at_ / 2 ^ 32 % 2 ^ 32) :
        Stamped k at_ s (if inStep then setF u Reg.TB_CAP_FLAGS ⟨16 + k, 1⟩ 1 else u) := by
      refine Stamped.congr (t := u) .refl (.ite (fun _ => capUnit_flags hk (by omega) (by omega)) fun _ => .refl) ⟨hu.1, fun _ => hu.2, fun h1 => absurd h1 hv⟩
    refine hfin _ ⟨flag_raise _ _ _ (by omega), ?_, ?_⟩
    · rw [rd_setF_ne _ _ _ hv1, rd_wrN_ne _ _ hlh, rd_wrN_same, BitVec.toNat_ofNat, Nat.mod_mod]
    · rw [rd_setF_ne _ _ _ hv2, rd_wrN_same, BitVec.toNat_ofNat, Nat.mod_mod]

theorem capture_stamps {src at_ : Nat} {falling inStep : Bool} (n : Fin 16) (h1 : 1 ≤ src) (h16 : src ≤ 16)
    (hsrc : aF s (Reg.TB_CAP_SRC n.val) F.TB_CAP_SRC_SOURCE = src)
    (hedge : src ≤ 10 ∨ src = 16 → aOn s (Reg.TB_CAP_SRC n.val) F.TB_CAP_SRC_EDGE = falling) : Stamped n.val at_ s (capture s src falling at_ inStep) := by
  unfold capture
  rw [if_neg (by omega)]
  dsimp only
  refine forEach_once_mem (I := fun u => u.active = s.active ∧ Shows (capUnit n.val) s u) (k := n.val) List.nodup_range (List.mem_range.2 n.isLt)
    (fun u x hx hne hu => ?_) (fun u hu => ?_) (fun u x hx hne hu => ?_) ⟨rfl, .refl⟩
  · refine ⟨?_, hu.2.trans (.ite (fun _ => capUnit_other (List.mem_range.1 hx) n.isLt hne _ _) fun _ => .refl)⟩
    split
    · exact (captureUnit_evolves.active_eq rfl).trans hu.1
    · exact hu.1
  · have he : (!(decide (src ≤ 0x0A) || src == 0x10) || aOn u (Reg.TB_CAP_SRC n.val) F.TB_CAP_SRC_EDGE == falling) = true := by
      rw [aOn_of_active hu.1]
      by_cases hp : src ≤ 10 ∨ src = 16
      · simp [hedge hp]
      · obtain ⟨hp1, hp2⟩ := not_or.1 hp
        simp [hp1, hp2]
    rw [if_pos ⟨(aF_of_active hu.1 _ _).trans hsrc, he⟩]
    exact Stamped.congr (Shows.back hu.2) .refl (captureUnit_stamped n.isLt _ _)
  · exact Stamped.congr .refl (.ite (fun _ => capUnit_other (List.mem_range.1 hx) n.isLt hne _ _) fun _ => .refl) hu

end

section
variable {s t u : State}

theorem captureEvent_results (src : Fin 32) (falling : Bool) (ns : Fin 10) (inStep : Bool) (n : Fin 16) (h1 : 1 ≤ src.val) (h16 : src.val ≤ 16)
    (hsrc : aF s (Reg.TB_CAP_SRC n.val) F.TB_CAP_SRC_SOURCE = src.val)
    (hedge : src.val ≤ 10 ∨ src.val = 16 → aOn s (Reg.TB_CAP_SRC n.val) F.TB_CAP_SRC_EDGE = falling) :
    Runs (.captureEvent src falling ns inStep) s (fun t =>
         bitOf (rd t Reg.TB_CAP_VALID).toNat n.val = true
         ∧ (bitOf (rd s Reg.TB_CAP_VALID).toNat n.val = false →
             (rd t (Reg.TB_CAP_LO n.val)).toNat = (now s + ns.val) % 2 ^ 32 ∧ (rd t (Reg.TB_CAP_HI n.val)).toNat = (now s + ns.val) / 2 ^ 32 % 2 ^ 32)
         ∧ (bitOf (rd s Reg.TB_CAP_VALID).toNat n.val = true →
             rd t (Reg.TB_CAP_LO n.val) = rd s (Reg.TB_CAP_LO n.val) ∧ rd t (Reg.TB_CAP_HI n.val) = rd s (Reg.TB_CAP_HI n.val)
             ∧ flag t Reg.TB_CAP_FLAGS ⟨n.val, 1⟩ = true)) := by
  refine ⟨_, rfl, ?_⟩
  dsimp only
  rw [← flag_eq_bitOf, ← flag_eq_bitOf]
  exact capture_stamps n h1 h16 hsrc hedge

/-! ## The pulse output -/

theorem ppsPulse_results (hen : aOn s Reg.TB_PPS_CFG F.TB_PPS_CFG_EN = true) (hrun : s.tb.running = true) :
    Runs .ppsPulse s (fun t => t.tb.ppsAt % ppsPeriod s = 0 ∧ s.tb.ppsAt < t.tb.ppsAt
         ∧ t.tb.ppsUntil = t.tb.ppsAt + 10 * aF s Reg.TB_PPS_CFG F.TB_PPS_CFG_WIDTH) := by
  have hpos : 0 < ppsPeriod s := Nat.mul_pos (by decide) (Nat.pow_pos (by decide))
  show ∃ t, execPpsPulse s = .next t ∧ _
  unfold execPpsPulse
  rw [if_pos ⟨hen, hrun⟩]
  extract_lets at_ width v
  refine ⟨_, rfl, ?_⟩
  have htb : (capture (capture v 0x10 false at_) 0x10 true (at_ + width)).tb = v.tb := (capture_evolves.tb_eq rfl).trans (capture_evolves.tb_eq rfl)
  rw [htb]
  have hafter : s.tb.ppsAt < (s.tb.ppsAt / ppsPeriod s + 1) * ppsPeriod s := by
    rw [Nat.mul_comm]
    exact Nat.lt_mul_div_succ _ hpos
  refine ⟨Nat.mul_mod_left _ _, hafter.trans_le (Nat.mul_le_mul_right _ (Nat.le_max_right _ _)), ?_⟩
  show at_ + aF s Reg.TB_PPS_CFG F.TB_PPS_CFG_WIDTH * 10 = at_ + _
  rw [Nat.mul_comm]

/-! ## The alignment servo -/

theorem tbServo_outlier {theta : Int} {d : Nat} (h0 : s.tb.delay ≠ 0) (hd : 2 * s.tb.delay + 160 < d) :
    (tbServo s theta d).tb = s.tb ∧ flag (tbServo s theta d) Reg.TB_EVENT F.TB_EVENT_OUTLIER = true := by
  unfold tbServo
  rw [if_pos ⟨h0, hd⟩]
  exact ⟨raise_evolves.tb_eq rfl, flag_raise _ _ _ (by decide)⟩

theorem theta_loseAlign : Shows (fun s => (s.tb.theta, s.tb.xch)) s (loseAlign s) := by
  unfold loseAlign
  refine .ite (fun _ => ?_) fun _ => .refl
  exact .trans (t := setTb s fun t => { t with aligned := false }) rfl
    (congrArg (fun x : TbSt => (x.theta, x.xch)) ((record_evolves.tb_eq rfl).trans (raise_evolves.tb_eq rfl)))

theorem theta_enterLocked : Shows (fun s => (s.tb.theta, s.tb.xch)) s (enterLocked s) := rfl

/-- An exchange that is taken leaves its offset, and no exchange under way (R113). -/
theorem tbServo_taken {theta : Int} {d : Nat} (h : s.tb.delay = 0 ∨ d ≤ 2 * s.tb.delay + 160) (hx : s.tb.xch = none) :
    (tbServo s theta d).tb.theta = theta ∧ (tbServo s theta d).tb.xch = none := by
  unfold tbServo
  extract_lets old s1 s2
  rw [if_neg (by omega)]
  have h1 : (s1.tb.theta, s1.tb.xch) = (theta, none) := Prod.ext rfl hx
  have h2 : Shows (fun s => (s.tb.theta, s.tb.xch)) s1 s2 :=
    .ite (fun _ => .ite (fun _ => theta_enterLocked) fun _ => .trans (t := setTb s1 (fun t => { t with servo := .acquire, lockRun := 0 })) rfl theta_loseAlign) fun _ => .refl
  clear_value s2
  have hstep : Shows (fun s => (s.tb.theta, s.tb.xch)) s2 (if mayStep s2 theta then limitCount (tbStep s2 theta) else tbLock (tbCorrect s2 theta) theta) := by
    refine .ite (fun _ => ?_) fun _ => ?_
    · unfold limitCount tbStep
      extract_lets v s3 s4
      have h3 : Shows (fun s => (s.tb.theta, s.tb.xch)) s2 s3 := rfl
      have h4 : (dueMark (estStep s4) 3).tb = s3.tb := (dueMark_evolves.tb_eq rfl).trans ((estStep_evolves.tb_eq rfl).trans ((raise_evolves.tb_eq rfl).trans (bump_evolves.tb_eq rfl)))
      exact h3.trans (.trans (t := dueMark (estStep s4) 3) (congrArg (fun x : TbSt => (x.theta, x.xch)) h4) rfl)
    · unfold tbLock
      extract_lets within s3 s4
      have h3 : Shows (fun s => (s.tb.theta, s.tb.xch)) s2 s3 := rfl
      have h4 : Shows (fun s => (s.tb.theta, s.tb.xch)) s3 s4 := .ite (fun _ => rfl) fun _ => .refl
      exact h3.trans (h4.trans (.ite (fun _ => theta_enterLocked) fun _ => .refl))
  have hall := h2.trans hstep
  exact ⟨(congrArg Prod.fst hall.eq).trans (congrArg Prod.fst h1), (congrArg Prod.snd hall.eq).trans (congrArg Prod.snd h1)⟩

theorem upLane_takeRx {typ : Nat} : upLane (takeRx s typ) = upLane s := rfl

theorem syncFin_results (lane : LaneIx) (xid t4 t3 : Nat) {x : Xch} (hx : s.tb.xch = some x) (hup : upLane s = some lane.val) (hid : x.xid = xid % 2 ^ 32)
    (h3 : x.t3 = some t3) (hnow : stampNow s ≤ x.t2 + 1600000) (hservo : s.tb.servo = .acquire ∨ s.tb.servo = .locked ∨ s.tb.servo = .holdover) :
    let up : Int := (x.t2 : Int) - x.t1
    let dn : Int := (t4 : Int) - t3
    let d := ((up + dn) / 2).toNat
    Runs (.syncFin lane xid t4) s (fun t => t.tb.xch = none
      ∧ (s.tb.delay = 0 ∨ d ≤ 2 * s.tb.delay + 160 → t.tb.theta = (up - dn) / 2 - tbAsym s lane.val)
      ∧ (s.tb.delay ≠ 0 → 2 * s.tb.delay + 160 < d → t.tb.theta = s.tb.theta ∧ t.tb.rate = s.tb.rate ∧ t.tb.slew = s.tb.slew
          ∧ flag t Reg.TB_EVENT F.TB_EVENT_OUTLIER = true)) := by
  intro up dn d
  show ∃ t, execSyncFin lane xid t4 s = .next t ∧ _
  unfold execSyncFin
  dsimp only
  have htb : (takeRx s 0x0103).tb = s.tb := rfl
  rw [htb, hx]
  dsimp only
  rw [if_pos ⟨upLane_takeRx.trans hup, hid⟩, h3]
  dsimp only
  have hcond : stampNow (setTb (takeRx s 0x0103) (fun t => { t with xch := none })) ≤ x.t2 + 1600000
      ∧ ((setTb (takeRx s 0x0103) (fun t => { t with xch := none })).tb.servo = .acquire
        ∨ (setTb (takeRx s 0x0103) (fun t => { t with xch := none })).tb.servo = .locked
        ∨ (setTb (takeRx s 0x0103) (fun t => { t with xch := none })).tb.servo = .holdover) := ⟨hnow, hservo⟩
  rw [if_pos hcond]
  refine ⟨_, rfl, ?_⟩
  have has : tbAsym (setTb (takeRx s 0x0103) (fun t => { t with xch := none })) lane.val = tbAsym s lane.val := rfl
  rw [has]
  generalize hv : setTb (takeRx s 0x0103) _ = v
  have hxv : v.tb.xch = none := by rw [← hv]; rfl
  have hdelay : v.tb.delay = s.tb.delay := by rw [← hv]; rfl
  refine ⟨?_, fun hd => (tbServo_taken (by rw [hdelay]; exact hd) hxv).1, fun h0 hd => ?_⟩
  · by_cases hd : v.tb.delay = 0 ∨ d ≤ 2 * v.tb.delay + 160
    · exact (tbServo_taken hd hxv).2
    · exact (congrArg TbSt.xch (tbServo_outlier (by omega) (by omega)).1).trans hxv
  · obtain ⟨htb', hout⟩ := tbServo_outlier (s := v) (theta := (up - dn) / 2 - tbAsym s lane.val) (d := d) (by omega) (by omega)
    rw [htb', ← hv]
    rw [← hv] at hout
    exact ⟨rfl, rfl, rfl, hout⟩

theorem holdoverEntry_results (h : s.tb.servo = .locked ∨ s.tb.servo = .acquire) :
    Runs .holdoverEntry s (fun t => t.tb.servo = .holdover ∧ t.tb.slew = 0 ∧ t.tb.rate = s.tb.rate ∧ t.tb.aligned = !s.tb.rateLimited
         ∧ flag t Reg.TB_EVENT F.TB_EVENT_HOLDOVER = true) := by
  refine ⟨_, if_pos h, ?_⟩
  exact ⟨rfl, rfl, rfl, rfl, flag_raise _ _ _ (by decide)⟩

theorem loseAlign_aligned : (loseAlign s).tb.aligned = false ∧ (loseAlign s).tb.servo = s.tb.servo ∧ (loseAlign s).tb.rateLimited = s.tb.rateLimited
    ∧ (s.tb.aligned = true → flag (loseAlign s) Reg.TB_EVENT F.TB_EVENT_LOST_ALIGN = true) := by
  unfold loseAlign
  split
  · generalize hv : raise (setTb s fun t => { t with aligned := false }) Reg.TB_EVENT F.TB_EVENT_LOST_ALIGN = v
    have hf : flag v Reg.TB_EVENT F.TB_EVENT_LOST_ALIGN = true := hv ▸ flag_raise _ _ _ (by decide)
    have htb : v.tb = { s.tb with aligned := false } := by rw [← hv]; rfl
    have hrec := record_evolves (s := v) (p := .mgmt) (cls := 0x05) (typ := 0x02) (unit := 1) (arg := 0) (value := (rd v Reg.CLK_FAULT).toNat)
      (value2 := tbStatusWord v) (flags := 0)
    dsimp only
    rw [hrec.tb_eq rfl, htb]
    exact ⟨rfl, rfl, rfl, fun _ => (record_rdBut.flag_eq _).trans hf⟩
  next h => exact ⟨by simpa using h, rfl, rfl, fun ht => absurd ht h⟩

theorem holdoverLimit_results (h : s.tb.servo = .holdover) :
    Runs .holdoverLimit s (fun t => t.tb.servo = .holdover ∧ t.tb.aligned = false
         ∧ (s.tb.aligned = true → flag t Reg.TB_EVENT F.TB_EVENT_LOST_ALIGN = true)) := by
  refine ⟨_, if_pos h, ?_⟩
  generalize hv : reach s _ = v
  have hk : v.tb.servo = s.tb.servo ∧ v.tb.aligned = s.tb.aligned := by
    rw [← hv]
    unfold reach
    split <;> exact ⟨rfl, rfl⟩
  obtain ⟨h1, h2, -, h3⟩ := loseAlign_aligned (s := v)
  exact ⟨h2.trans (hk.1.trans h), h1, fun ha => h3 (hk.2.trans ha)⟩

theorem rateLimit_results (h : 16 ≤ s.tb.limitRun) (hl : s.tb.rateLimited = false) :
    Runs .rateLimit s (fun t => t.tb.aligned = false ∧ t.tb.rateLimited = true ∧ flag t Reg.TB_EVENT F.TB_EVENT_RATE_LIMIT = true) := by
  refine ⟨_, if_pos ⟨h, by rw [hl]; rfl⟩, ?_⟩
  generalize hv : raise (setTb s _) Reg.TB_EVENT F.TB_EVENT_RATE_LIMIT = v
  have hf : flag v Reg.TB_EVENT F.TB_EVENT_RATE_LIMIT = true := hv ▸ flag_raise _ _ _ (by decide)
  have hr : v.tb.rateLimited = true := by rw [← hv]; rfl
  obtain ⟨h1, -, h2, -⟩ := loseAlign_aligned (s := v)
  refine ⟨h1, h2.trans hr, ?_⟩
  unfold loseAlign
  split
  · refine (record_rdBut.flag_eq _).trans ((flag_setF_apart _ _ _ _ (by decide) (by decide)).trans hf)
  · exact hf

end

/-! ## Loss and return of clocks -/

section
variable {s t u : State}

/-- Entering HALT moves the device state and ends a start or a stop; the latches of the top level stay. -/
theorem haltEntry_keeps {β : Type} (g : TopSt → β) (hg : ∀ x d, g { x with state := d, startNext := none, stopping := false } = g x) {trip : Nat} :
    g (haltEntry s trip).top = g s.top := by
  unfold haltEntry
  extract_lets s1 s2
  split
  · rfl
  · have e1 : Evolves { regs := true, drain := true, recd := true, img := true } s s1 := loadAbort_evolves
    have e2 : Evolves { regs := true, drain := true, recd := true, tvl := true } s1 s2 := .ite .refl originTrip_evolves
    rw [enterState_top]
    show g { s2.top with state := .halt, startNext := none, stopping := false } = _
    rw [hg, e2.top_eq rfl, e1.top_eq rfl]

theorem topOf_dischargeAll {β : Type} (g : TopSt → β) (hg : ∀ x, g { x with dis := [], disAt := 0 } = g x) {a b : Bool} :
    g (dischargeAll s a b).top = g s.top := by
  have h : topButDis (dischargeAll s a b) = topButDis s := topButDis_dischargeAll.eq
  have h' := congrArg g h
  unfold topButDis at h'
  rwa [hg, hg] at h'

theorem clkFault_top {bit : Nat} : (clkFault s bit).top = s.top := clkFault_evolves.top_eq rfl

theorem flag_clkFault {bit : Nat} (hb : bit < 32) : flag (clkFault s bit) Reg.CLK_FAULT ⟨bit, 1⟩ = true := by
  unfold clkFault
  exact (record_rdBut.flag_eq _).trans (flag_raise _ _ _ hb)

theorem status_clkFault {bit : Nat} (f : Fld) : flag (clkFault s bit) Reg.CLK_STATUS f = flag s Reg.CLK_STATUS f := by
  unfold clkFault
  exact (record_rdBut.flag_eq _).trans (flag_congr (rd_setF_ne _ _ _ (by decide)) _)

/-- CLK_CTL is lost: a HALT cause, and HALT where no reset is in progress (R132). -/
theorem ctlClockLost_results : (ctlClockLost s).top.hClock = true ∧ (ctlClockLost s).tb = s.tb ∧ (ctlClockLost s).clk = s.clk
    ∧ (s.top.rst = none → s.top.state = .loaded ∨ s.top.state = .ramp ∨ s.top.state = .run → (ctlClockLost s).top.state = .halt) := by
  unfold ctlClockLost
  extract_lets v
  have htop : v.top = s.top := phasesMid_evolves.top_eq rfl
  have htb : v.tb = s.tb := phasesMid_evolves.tb_eq rfl
  have hclk : v.clk = s.clk := phasesMid_evolves.clk_eq rfl
  clear_value v
  refine ⟨?_, ?_, ?_, fun hr hs => ?_⟩
  · refine (topOf_dischargeAll TopSt.hClock fun _ => rfl).trans ?_
    exact haltEntry_keeps TopSt.hClock fun _ _ => rfl
  · rw [dischargeAll_evolves.tb_eq rfl, haltEntry_evolves.tb_eq rfl]
    exact htb
  · rw [dischargeAll_evolves.clk_eq rfl, haltEntry_evolves.clk_eq rfl]
    exact hclk
  · refine (topOf_dischargeAll TopSt.state fun _ => rfl).trans ?_
    exact haltEntry_halts (s := { v with top := { v.top with hClock := true } }) (by rw [← hr, ← htop]) (by rw [← htop] at hs; exact hs)

theorem refclkLoss_results (hp : s.top.porHeld = false) (hrun : s.tb.running = true) :
    Runs .refclkLoss s (fun t => t.tb.running = false ∧ t.tb.c = s.tb.c ∧ t.top.hClock = true
         ∧ (s.top.rst = none → s.top.state = .loaded ∨ s.top.state = .ramp ∨ s.top.state = .run → t.top.state = .halt)
         ∧ (s.clk.fw = .backup → t.clk.fw = .none) ∧ (s.clk.fw ≠ .backup → t.clk.fw = s.clk.fw)) := by
  show ∃ t, execRefclkLoss s = .next t ∧ _
  unfold execRefclkLoss
  rw [if_neg (by simp [hp, hrun])]
  extract_lets s1 s2 s3 c s4
  refine ⟨_, rfl, ?_⟩
  have h1 : Evolves { regs := true } s s1 := .trans lower_evolves lower_evolves
  have h2 : s2.tb = { s1.tb with running := false, xch := none } := rfl
  have h3 : Evolves { regs := true, drain := true, recd := true } s2 s3 := .trans raise_evolves.mono clkFault_evolves
  have htb3 : s3.tb = { s.tb with running := false, xch := none } := by rw [h3.tb_eq rfl, h2, h1.tb_eq rfl]
  have htop3 : s3.top = s.top := (h3.top_eq rfl).trans (h1.top_eq rfl)
  have hclk3 : s3.clk = s.clk := (h3.clk_eq rfl).trans (h1.clk_eq rfl)
  clear_value s3
  have h4 : s4.tb = s3.tb ∧ s4.top = s3.top ∧ s4.clk.fw = if s3.clk.fw = .backup then .none else s3.clk.fw := by
    show (if s3.clk.fw = .backup then _ else s3).tb = _ ∧ (if s3.clk.fw = .backup then _ else s3).top = _ ∧ (if s3.clk.fw = .backup then _ else s3).clk.fw = _
    split
    · exact ⟨rfl, rfl, rfl⟩
    · exact ⟨rfl, rfl, rfl⟩
  obtain ⟨htb4, htop4, hclk4⟩ := h4
  clear_value s4
  obtain ⟨hc, htb, hclk, hst⟩ := ctlClockLost_results (s := s4)
  rw [htb, hclk, htb4, htb3, hclk4, hclk3]
  refine ⟨rfl, rfl, hc, fun hr hs => hst (by rw [htop4, htop3]; exact hr) (by rw [htop4, htop3]; exact hs), fun hb => if_pos hb, fun hb => if_neg hb⟩

theorem pllCtlUnlock_results (hp : s.top.porHeld = false) :
    Runs .pllCtlUnlock s (fun t => t.tb.running = s.tb.running ∧ t.top.hClock = true
         ∧ (s.top.rst = none → s.top.state = .loaded ∨ s.top.state = .ramp ∨ s.top.state = .run → t.top.state = .halt)) := by
  refine ⟨_, if_neg (by rw [hp]; exact Bool.false_ne_true), ?_⟩
  have h1 : Evolves { regs := true, drain := true, recd := true } s (clkFault (lower s Reg.CLK_STATUS F.CLK_STATUS_PLL_CTL_LOCK) 1) :=
    .trans lower_evolves.mono clkFault_evolves
  generalize clkFault (lower s Reg.CLK_STATUS F.CLK_STATUS_PLL_CTL_LOCK) 1 = v at h1
  obtain ⟨hc, htb, -, hst⟩ := ctlClockLost_results (s := v)
  dsimp only
  rw [htb, h1.tb_eq rfl]
  exact ⟨rfl, hc, fun hr hs => hst (by rw [h1.top_eq rfl]; exact hr) (by rw [h1.top_eq rfl]; exact hs)⟩

/-- A cancel of every group leaves no pending commit that names one (R55). -/
theorem cancelAllCommits_commits : ∀ c ∈ (cancelAllCommits s).top.commits, c.mask &&& allGroups = 0 := by
  have hkeep (c : PendCommit) (h : (!(c.mask &&& allGroups != 0)) = true) : c.mask &&& allGroups = 0 := by simpa using h
  unfold cancelAllCommits cancelMask
  extract_lets hit gone img top1 v1 v2 v3
  split
  next hn =>
    intro c hc
    refine hkeep c ?_
    have hg : c ∉ gone := by rw [hn.1]; exact List.not_mem_nil
    have : ¬hit c.mask = true := fun hm => hg (List.mem_filter.2 ⟨hc, hm⟩)
    simpa [hit] using this
  next =>
    have h2 : v2.top = v1.top := (Evolves.forEach (W := { regs := true, drain := true, recd := true }) fun _ _ => commitEntry_evolves).top_eq rfl
    have h3 : Evolves { regs := true, drain := true, recd := true, img := true } v2 v3 := .ite (.trans commitEntry_evolves.mono loadEnd_evolves) .refl
    have hev : Evolves { regs := true } v3 (pendRefresh (commitResult v3 resCancelled)) := .trans commitResult_evolves pendRefresh_evolves
    rw [hev.top_eq rfl, h3.top_eq rfl, h2]
    intro c hc
    exact hkeep c (List.mem_filter.1 hc).2

theorem enterAcquire_keeps : (enterAcquire s).tb.servo = .acquire ∧ (enterAcquire s).tb.running = s.tb.running ∧ (enterAcquire s).tb.c = s.tb.c
    ∧ (enterAcquire s).tb.f = s.tb.f ∧ (enterAcquire s).tb.discont = s.tb.discont := by
  unfold enterAcquire loseAlign
  split
  · have hrec (v : State) (n : Nat) : ∀ w, w = record v .mgmt 0x05 0x02 1 0 n (tbStatusWord v) → w.tb = v.tb := fun w hw => hw ▸ record_evolves.tb_eq rfl
    dsimp only
    rw [hrec _ _ _ rfl]
    exact ⟨rfl, rfl, rfl, rfl, rfl⟩
  · exact ⟨rfl, rfl, rfl, rfl, rfl⟩

theorem refclkResume_results (hp : s.top.porHeld = false) (hrun : s.tb.running = false) (hc : s.tb.c ≠ 0) :
    Runs .refclkResume s (fun t => t.tb.running = true ∧ t.tb.c = s.tb.c ∧ t.tb.f = s.tb.f ∧ t.tb.discont = true
         ∧ (∀ c ∈ t.top.commits, c.mask &&& allGroups = 0)
         ∧ (s.tb.servo = .locked ∨ s.tb.servo = .acquire ∨ s.tb.servo = .holdover → t.tb.servo = .acquire)
         ∧ (s.tb.servo = .free ∨ s.tb.servo = .master → t.tb.servo = s.tb.servo ∧ t.tb.rate = s.tb.rate)) := by
  show ∃ t, execRefclkResume s = .next t ∧ _
  unfold execRefclkResume
  rw [if_neg (by simp [hp, hrun]), if_neg (fun h => hc h.1)]
  extract_lets s1 s2 s3
  refine ⟨_, rfl, ?_⟩
  have h2 : s2.tb = { s.tb with running := true, discont := true, everLocked := false } := rfl
  clear_value s2
  have htb : (dueMark (domCancel (cancelAllCommits s3)) 4).tb = s3.tb :=
    (dueMark_evolves.tb_eq rfl).trans ((domCancel_evolves.tb_eq rfl).trans (cancelAllCommits_evolves.tb_eq rfl))
  have htop : (dueMark (domCancel (cancelAllCommits s3)) 4).top = (cancelAllCommits s3).top :=
    (dueMark_evolves.top_eq rfl).trans (domCancel_evolves.top_eq rfl)
  rw [htb, htop]
  have hcom := cancelAllCommits_commits (s := s3)
  obtain ⟨h1, h3, h4, h5, h6⟩ := enterAcquire_keeps (s := s2)
  have hservo : s2.tb.servo = s.tb.servo := by rw [h2]
  by_cases hs : s2.tb.servo = .locked ∨ s2.tb.servo = .acquire ∨ s2.tb.servo = .holdover
  · have hs3 : s3 = enterAcquire s2 := if_pos hs
    clear_value s3
    subst hs3
    refine ⟨h3.trans (by rw [h2]), h4.trans (by rw [h2]), h5.trans (by rw [h2]), h6.trans (by rw [h2]), hcom, fun _ => h1, fun hf => ?_⟩
    rw [hservo] at hs
    rcases hf with hf | hf <;> rw [hf] at hs <;> exact absurd hs (by decide)
  · have hs3 : s3 = s2 := if_neg hs
    clear_value s3
    subst hs3
    rw [hservo] at hs
    rw [h2]
    exact ⟨rfl, rfl, rfl, rfl, hcom, fun h => absurd h hs, fun _ => ⟨rfl, rfl⟩⟩

theorem xtalFail_results (what : FwClockFault) (hp : s.top.porHeld = false) (hfw : s.clk.fw = .pll) :
    Runs (.xtalFail what) s (fun t => (s.tb.running = true → t.clk.fw = .backup ∧ flag t Reg.CLK_STATUS F.CLK_STATUS_FW_ON_BACKUP = true)
         ∧ (s.tb.running = false → t.clk.fw = .none)
         ∧ flag t Reg.CLK_FAULT (match what with | .xtal => F.CLK_FAULT_XTAL_LOSS | .pllFw => F.CLK_FAULT_PLL_FW_UNLOCK) = true) := by
  show ∃ t, execXtalFail what s = .next t ∧ _
  unfold execXtalFail
  rw [if_neg (by rw [hp]; exact Bool.false_ne_true)]
  extract_lets bit v
  have hv : Evolves { regs := true, drain := true, recd := true } s v := .trans (.trans setF_evolves.mono lower_evolves.mono) clkFault_evolves
  have hflag : flag v Reg.CLK_FAULT (match what with | .xtal => F.CLK_FAULT_XTAL_LOSS | .pllFw => F.CLK_FAULT_PLL_FW_UNLOCK) = true := by
    cases what
    · exact flag_clkFault (bit := 2) (by decide)
    · exact flag_clkFault (bit := 3) (by decide)
  clear_value v
  rw [hv.clk_eq rfl, if_pos hfw, hv.tb_eq rfl]
  cases hr : s.tb.running
  · exact ⟨_, if_neg Bool.false_ne_true, fun h => absurd h Bool.false_ne_true, fun _ => rfl, hflag⟩
  · exact ⟨_, if_pos rfl, fun _ => ⟨rfl, flag_raise _ _ _ (by decide)⟩, fun h => absurd h.symm Bool.false_ne_true,
      (flag_congr (rd_setF_ne _ _ _ (by decide)) _).trans hflag⟩

theorem fwOnPll_results : (fwOnPll s).clk.fw = .pll ∧ flag (fwOnPll s) Reg.CLK_STATUS F.CLK_STATUS_FW_ON_BACKUP = false :=
  ⟨rfl, flag_lower _ _ _ (by decide)⟩

theorem clkFwSourceRestored_results (pll : Bool) (hfw : s.clk.fw = .none) (h : pll = true ∨ s.tb.running = true) :
    Runs (.clkFwSourceRestored pll) s (fun t => t.clk.fw = (if pll then .pll else .backup)
         ∧ flag t Reg.CLK_STATUS F.CLK_STATUS_FW_ON_BACKUP = !pll) := by
  show ∃ t, execClkFwSourceRestored pll s = .next t ∧ _
  unfold execClkFwSourceRestored
  rw [if_neg (by simp [hfw])]
  cases pll
  · rw [if_neg Bool.false_ne_true, if_pos (h.resolve_left Bool.false_ne_true)]
    exact ⟨_, rfl, rfl, flag_raise _ _ _ (by decide)⟩
  · rw [if_pos rfl]
    exact ⟨_, rfl, fwOnPll_results⟩

theorem clkFwReturn_results (who : Initiator) (ha : admits s who Reg.CLK_FW_RETURN 1 = true) (hfw : s.clk.fw = .backup) :
    Runs (.clkFwReturn who true) s (fun t => t.clk.fw = .pll ∧ flag t Reg.CLK_STATUS F.CLK_STATUS_FW_ON_BACKUP = false) := by
  refine ⟨_, congrArg Outcome.next (gated_of_admits _ _ _ _ _ ha), ?_⟩
  have hb : clkFwReturn { s with resp := .none } (some true) = fwOnPll { s with resp := .none } := by
    unfold clkFwReturn
    exact if_pos (by simp [hfw])
  rw [hb]
  exact fwOnPll_results

theorem aonFault_results (khz : Nat) (hp : s.top.porHeld = false) (hk : khz < 80000 ∨ 120000 < khz) (hr : s.top.rst = none)
    (hs : s.top.state = .loaded ∨ s.top.state = .ramp ∨ s.top.state = .run) :
    Runs (.aonFault khz) s (fun t => t.top.state = .halt ∧ t.top.hAon = true) := by
  show ∃ t, execAonFault khz s = .next t ∧ _
  unfold execAonFault
  rw [if_neg (by rw [hp]; exact Bool.false_ne_true)]
  extract_lets s1 s2
  rw [if_pos hk]
  refine ⟨_, rfl, ?_⟩
  have htop : s2.top = s.top := clkFault_top.trans ((lower_evolves.top_eq rfl).trans (wrN_evolves.top_eq rfl))
  clear_value s2
  unfold haltSwitched
  refine ⟨(topOf_dischargeAll TopSt.state fun _ => rfl).trans ?_, (topOf_dischargeAll TopSt.hAon fun _ => rfl).trans ?_⟩
  · exact haltEntry_halts (s := { s2 with top := { s2.top with hAon := true } }) (by rw [← hr, ← htop]) (by rw [← htop] at hs; exact hs)
  · exact haltEntry_keeps TopSt.hAon fun _ _ => rfl

theorem pcieRefclkLoss_results (hp : s.top.porHeld = false) :
    Runs .pcieRefclkLoss s (fun t => flag t Reg.CLK_FAULT F.CLK_FAULT_PCIE_REFCLK_LOSS = true ∧ flag t Reg.CLK_STATUS F.CLK_STATUS_PCIE_REFCLK_OK = false
         ∧ t.top.state = s.top.state ∧ t.active = s.active ∧ t.ph = s.ph ∧ t.ch = s.ch) := by
  refine ⟨_, if_neg (by rw [hp]; exact Bool.false_ne_true), ?_⟩
  generalize hu : lower s Reg.CLK_STATUS F.CLK_STATUS_PCIE_REFCLK_OK = u
  have hu1 : flag u Reg.CLK_STATUS F.CLK_STATUS_PCIE_REFCLK_OK = false := hu ▸ flag_lower _ _ _ (by decide)
  have hev : Evolves { regs := true, drain := true, recd := true } s (clkFault u 4) := .trans (hu ▸ lower_evolves.mono) clkFault_evolves
  have hf : flag (clkFault u 4) Reg.CLK_FAULT F.CLK_FAULT_PCIE_REFCLK_LOSS = true := flag_clkFault (bit := 4) (by decide)
  have hst : flag (clkFault u 4) Reg.CLK_STATUS F.CLK_STATUS_PCIE_REFCLK_OK = false := (status_clkFault _).trans hu1
  generalize clkFault u 4 = v at hev hf hst
  have htop : v.top = s.top := hev.top_eq rfl
  exact ⟨hf, hst, by rw [← htop], hev.active_eq rfl, hev.ph_eq rfl, hev.ch_eq rfl⟩

end

/-- Settles O20: the sweep of an event stamps each unit once, the servo's updates leave the offset and the open exchange as their case says, and
the losses of a clock go through the one entry into HALT. -/
theorem timeBaseAndClockResults : Obligations.TimeBaseAndClockResults :=
  ⟨⟨fun src falling ns inStep _ n h1 h16 hsrc hedge => captureEvent_results src falling ns inStep n h1 h16 hsrc hedge,
      fun _ hen hrun => ppsPulse_results hen hrun⟩,
    ⟨fun lane xid t4 t3 _ _ hx hup hid h3 hnow hservo => syncFin_results lane xid t4 t3 hx hup hid h3 hnow hservo,
      fun _ h => holdoverEntry_results h, fun _ h => holdoverLimit_results h, fun _ h hl => rateLimit_results h hl⟩,
    ⟨fun _ hp hrun => refclkLoss_results hp hrun, fun _ hp => pllCtlUnlock_results hp, fun _ hp hrun hc _ => refclkResume_results hp hrun hc,
      fun _ h => ⟨_, if_pos h, flag_raise _ _ _ (by decide)⟩, fun _ h => ⟨_, if_pos h, flag_raise _ _ _ (by decide)⟩,
      fun what _ hp hfw => xtalFail_results what hp hfw, fun pll _ hfw h => clkFwSourceRestored_results pll hfw h,
      fun who _ ha hfw => clkFwReturn_results who ha hfw, fun khz _ hp hk hr hs => aonFault_results khz hp hk hr hs,
      fun _ hp => pcieRefclkLoss_results hp⟩⟩

end Sys2Proof.Machine
end

section
/-! PROOF. Soft start, settling, discharge, switching period, current limits and balance (O28). -/

namespace Sys2Proof.Machine
open Host
set_option Elab.async false

/-! ## From soft start to discharge -/

section
variable {s t u : State} {r q : Nat}

/-- A latch of a rail stays set through what follows it (R361, R362). -/
theorem latchRail_latches {kind what : Nat} (hk : kind = 1 ∨ kind = 2) (hr : r < 8) : latchBit (latchRail s kind r what) kind r = true := by
  have hset : latchBit (latchSet s kind r what) kind r = true := by
    unfold latchSet
    extract_lets s1 s2
    have h1 : flag s1 Reg.PROT_CH_LATCH ⟨8 * kind + r, 1⟩ = true := by
      by_cases hb : latchBit s kind r = true
      · rw [show s1 = s from if_pos hb, flag_eq_bitOf]
        exact hb
      · rw [show s1 = _ from if_neg hb]
        have hrd : RdBut [(Reg.REC_EVENT, 0, 0), (Reg.REC_ARB_DROP 0, 0, 0), (Reg.REC_ARB_DROP 1, 0, 0), (Reg.REC_ARB_DROP 2, 0, 0), (Reg.TOP_DRAIN_CNT 8, 0, 0),
            (Reg.TOP_DRAIN_STATUS, 0, 0), (Reg.TB_CAP_FLAGS, 0, 0), (Reg.TB_CAP_LO 0, 8, 16), (Reg.TB_CAP_HI 0, 8, 16), (Reg.TB_CAP_VALID, 0, 0)]
            (raise s Reg.PROT_CH_LATCH ⟨8 * kind + r, 1⟩) (lifeUp (protEntry (raise s Reg.PROT_CH_LATCH ⟨8 * kind + r, 1⟩) r kind what) (5 + kind)) :=
          .trans protEntry_rdBut.mono (.of_evolves lifeUp_evolves)
        exact (hrd.flag_eq _).trans (flag_raise _ _ _ (by omega))
    have h2 : RdBut [(Reg.PROT_STATUS, 0, 0)] s1 s2 := .trans (.of_evolves pmRefresh_evolves) (lower_rdBut0 (off := Reg.PROT_STATUS)).mono
    have h3 : RdBut [(Reg.PROT_STATUS, 0, 0)] s1 (setCh (protOrder s2) r fun x => { x with olRun := false }) :=
      h2.trans (.trans (.of_evolves protOrder_evolves) (.of_evolves setCh_evolves))
    unfold latchBit
    rw [← flag_eq_bitOf, h3.flag_eq]
    exact h1
  unfold latchRail
  extract_lets ready s1 s2 s3 s4 s5 bit s6
  have hset1 : latchBit s1 kind r = true := hset
  clear_value s1
  have hbit {F : List (Nat × Nat × Nat)} {a b : State} (h : RdBut F a b) (ho : F.all (misses · Reg.PROT_CH_LATCH) = true := by decide +kernel) :
      latchBit b kind r = latchBit a kind r := by
    unfold latchBit
    rw [h.rd_eq ho]
  have h5 : latchBit s5 kind r = latchBit s1 kind r := by
    show latchBit (if kind = 0 then _ else _) kind r = _
    rw [if_neg (by omega)]
    split
    · rfl
    · split
      · exact hbit discharge_rdBut
      · exact hbit (F := []) (.of_evolves setCh_evolves)
  clear_value s5
  split
  · have h6 : latchBit s6 kind r = latchBit s5 kind r := by
      show latchBit (if _ then s5 else originTrip s5 2) kind r = _
      split
      · rfl
      · exact hbit originTrip_rdBut
    clear_value s6
    exact ((hbit (.trans (t := { s6 with top := { s6.top with hChan := s6.top.hChan ||| bit } }) (.of_evolves (W := { top := true }) .set_top)
      haltSwitched_rdBut)).trans (h6.trans h5)).trans hset1
  · exact ((hbit startAdvance_rdBut).trans h5).trans hset1

/-- A soft start that fails leaves SS_FAIL and the overload latch. -/
def SoftFailed (r : Nat) (t : State) : Prop := flag t (Reg.CH_EVENT r) F.CH_EVENT_SS_FAIL = true ∧ latchBit t 2 r = true

theorem softStartFail_results (c : ChIx) : SoftFailed c.val (softStartFail s c.val) := by
  unfold softStartFail
  refine ⟨?_, latchRail_latches (.inr rfl) c.isLt⟩
  have h := latchRail_rdBut (s := raise s (Reg.CH_EVENT c.val) F.CH_EVENT_SS_FAIL) (kind := 2) (r := c.val) (what := 0)
  exact (h.flag_eq _ (misses_fin (g := Reg.CH_EVENT) (by decide +kernel) c)).trans (flag_raise _ _ _ (by decide))

theorem softStartHoldEnd_results (rail : ChIx) (v : Nat) (priOpen altOpen cmpOk : Bool) (hst : railState s rail.val = .soft)
    (hso : (chOf s rail.val).senseOk = false) :
    Runs (.softStartHoldEnd rail v priOpen altOpen cmpOk) s (fun t =>
      ((cmpOk = false ∨ priOpen = true ∧ (altOpen = true ∨ aOn s (Reg.CH_CTRL rail.val) F.CH_CTRL_ALT_EN = false)) → SoftFailed rail.val t)
      ∧ (cmpOk = true → (priOpen = false ∨ altOpen = false ∧ aOn s (Reg.CH_CTRL rail.val) F.CH_CTRL_ALT_EN = true) →
          railState t rail.val = .soft ∧ (chOf t rail.val).senseOk = true ∧ (chOf t rail.val).vref = (min v 65535 : Nat) * 12500)) := by
  show ∃ t, execSoftStartHoldEnd rail v priOpen altOpen cmpOk s = .next t ∧ _
  unfold execSoftStartHoldEnd
  rw [if_pos ⟨hst, by rw [hso]; rfl⟩]
  dsimp only
  cases cmpOk
  · exact ⟨_, if_pos rfl, fun _ => softStartFail_results rail, fun h => absurd h Bool.false_ne_true⟩
  · rw [if_neg (by decide)]
    split
    next hf =>
      refine ⟨_, rfl, fun _ => softStartFail_results rail, fun _ hok => ?_⟩
      simp only [Bool.and_eq_true, Bool.or_eq_true, Bool.not_eq_true'] at hf
      rcases hok with hp | ⟨ha, he⟩
      · rw [hp] at hf
        exact absurd hf.1 Bool.false_ne_true
      · rw [ha, he] at hf
        rcases hf.2 with h | h
        · exact absurd h Bool.false_ne_true
        · exact absurd h.symm Bool.false_ne_true
    next hf =>
      refine ⟨_, rfl, fun hbad => ?_, fun _ _ => ?_⟩
      · simp only [Bool.and_eq_true, Bool.or_eq_true, Bool.not_eq_true'] at hf
        exact absurd (hbad.resolve_left (by decide)) hf
      · have hsense : sense (wrN s (Reg.CH_VSENSE rail.val) (satU 16 v)) rail.val = min v 65535 := by
          have hsat : satU 16 (v : Int) = min v 65535 := by
            unfold satU clampI
            split_ifs <;> omega
          unfold sense fld fldOf
          rw [rd_wrN_same, hsat]
          simp only [BitVec.toNat_ofNat]
          omega
        unfold railState
        rw [chOf_setCh, if_pos rfl, hsense]
        refine ⟨?_, rfl, rfl⟩
        rw [chOf_of_ch (wrN_evolves.ch_eq rfl)]
        exact hst

theorem setpointReached_results (rail : ChIx) (hst : railState s rail.val = .soft) :
    Runs (.setpointReached rail) s (fun t => railState t rail.val = .settle ∧ (chOf t rail.val).vref = setpoint s rail.val ∧ t = { s with ch := t.ch }) := by
  refine ⟨_, if_pos hst, ?_⟩
  dsimp only
  unfold railState
  rw [chOf_setCh, if_pos rfl]
  exact ⟨rfl, rfl, rfl⟩

/-- Starting the rails of the next stages leaves a running rail alone. -/
theorem chOf_softStart_of_running (h : running s r = true) : chOf (softStart s q) r = chOf s r := by
  by_cases hq : q = r
  · subst hq
    unfold softStart
    rw [if_pos (by rw [h, Bool.or_true])]
  · exact chCell_softStart hq

theorem running_of_chOf (h : chOf t r = chOf s r) : running t r = running s r := by
  unfold running railState
  rw [h]

theorem chOf_beginStage_of_running {k : Nat} (h : running s r = true) : chOf (beginStage s k) r = chOf s r := by
  unfold beginStage
  extract_lets v
  have hv : chOf v r = chOf s r :=
    forEach_keeps (s := s) (f := Machine.softStart) (l := stageEn s k) (Q := fun t => chOf t r = chOf s r) (fun t x ht => (chOf_softStart_of_running ((running_of_chOf ht).trans h)).trans ht) rfl
  clear_value v
  exact hv

theorem chOf_stagesDue_of_running {n : Nat} (h : running s r = true) : chOf (stagesDue n s) r = chOf s r := by
  induction n generalizing s with
  | zero => rfl
  | succ n ih =>
    unfold stagesDue
    split
    · rfl
    next k hk =>
      split
      · have hb := chOf_beginStage_of_running (k := k) h
        exact (ih ((running_of_chOf hb).trans h)).trans hb
      · rfl

theorem chOf_startAdvance_of_running {d : Bool} (h : running s r = true) : chOf (startAdvance s d) r = chOf s r := by
  unfold startAdvance
  extract_lets _ v
  have hv : v.ch = s.ch := (Evolves.ite (W := { top := true }) .set_top .refl).ch_eq rfl
  clear_value v
  rw [chOf_of_ch (maybeRun_evolves.ch_eq rfl), chOf_stagesDue_of_running ((running_of_ch hv r).trans h), chOf_of_ch hv]

theorem stagesDue_none {n : Nat} (h : s.top.startNext = none) : stagesDue n s = s := by
  cases n with
  | zero => rfl
  | succ n =>
    unfold stagesDue
    split
    · rfl
    next k hk => exact absurd (h.symm.trans hk) (by simp)

theorem startAdvance_runs {d : Bool} (hs : s.top.state = .ramp) (hn : s.top.startNext = none) (hp : s.top.stopping = false)
    (hall : ∀ r ∈ rails s, railEn s r = true → countsReg s r = true) :
    (startAdvance s d).top.state = .run ∧ fld (startAdvance s d) Reg.TOP_START_STATUS F.TOP_START_STATUS_RESULT = 2 := by
  unfold startAdvance
  extract_lets _ v
  have hv : v.regs = s.regs ∧ v.top.state = .ramp ∧ v.top.startNext = none ∧ v.top.stopping = false
      ∧ (rails v).all (fun r => !railEn v r || countsReg v r) = true := by
    have hbase : (rails s).all (fun r => !railEn s r || countsReg s r) = true := by
      refine List.all_eq_true.2 fun r hr => ?_
      cases he : railEn s r
      · rfl
      · rw [hall r hr he]
        rfl
    show (if _ then _ else s).regs = _ ∧ _
    unfold v
    split
    · exact ⟨rfl, hs, hn, hp, hbase⟩
    · exact ⟨rfl, hs, hn, hp, hbase⟩
  obtain ⟨-, hvs, hvn, hvp, hva⟩ := hv
  clear_value v
  rw [stagesDue_none hvn]
  unfold maybeRun
  rw [if_pos ⟨.inl hvs, hvn, by rw [hvp]; rfl, hva⟩]
  refine ⟨?_, fld_setF_same _ _ _ _ (by decide)⟩
  show (enterState v .run).top.state = .run
  rw [enterState_top]

theorem channelInRegulation_results (rail : ChIx) (hst : railState s rail.val = .settle) (hw : windowOk s rail.val = true) :
    Runs (.channelInRegulation rail) s (fun t => railState t rail.val = .reg
      ∧ (s.top.state = .ramp → s.top.startNext = none → s.top.stopping = false → (∀ r ∈ rails s, r ≠ rail.val → railEn s r = true → countsReg s r = true) →
          t.top.state = .run ∧ fld t Reg.TOP_START_STATUS F.TOP_START_STATUS_RESULT = 2)) := by
  show ∃ t, execChannelInRegulation rail s = .next t ∧ _
  unfold execChannelInRegulation
  rw [if_pos ⟨hst, hw⟩]
  extract_lets v
  have hv : Evolves { tb := true } s v := reach_evolves
  clear_value v
  have he := enterReg_evolves (s := setCh v rail.val (fun x => { x with state := .reg, inWindow := true, shedCnt := 0, addCnt := 0 })) (r := rail.val)
  generalize hz : setCh v rail.val (fun x => { x with state := .reg, inWindow := true, shedCnt := 0, addCnt := 0 }) = z at he
  have hzc (q : Nat) : chOf z q = if rail.val = q then { chOf s rail.val with state := .reg, inWindow := true, shedCnt := 0, addCnt := 0 } else chOf s q := by
    rw [← hz, chOf_setCh, chOf_of_ch (hv.ch_eq rfl), chOf_of_ch (hv.ch_eq rfl)]
  have hzo : z.top = s.top ∧ z.img = s.img ∧ z.active = s.active ∧ z.regs = s.regs := by
    rw [← hz]
    exact ⟨hv.top_eq rfl, hv.img_eq rfl, hv.active_eq rfl, hv.regs_eq rfl⟩
  obtain ⟨htop, himg, hact, hregs⟩ := hzo
  clear hz
  generalize enterReg z rail.val = w at he
  have hwc (q : Nat) : chOf w q = chOf z q := chOf_of_ch (he.ch_eq rfl) q
  have hreg : railState w rail.val = .reg := by
    unfold railState
    rw [hwc, hzc, if_pos rfl]
  refine ⟨_, rfl, ?_, fun h1 h2 h3 hall => startAdvance_runs ?_ ?_ ?_ fun r hr hen => ?_⟩
  · unfold railState
    rw [chOf_startAdvance_of_running (by unfold running; rw [hreg])]
    exact hreg
  · rw [he.top_eq rfl, htop, h1]
  · rw [he.top_eq rfl, htop, h2]
  · rw [he.top_eq rfl, htop, h3]
  · by_cases hq : r = rail.val
    · unfold countsReg
      rw [hq, hreg]
      rfl
    · have hw1 : rails w = rails s := rails_of_img ((he.img_eq rfl).trans himg)
      have hc := hall r (hw1 ▸ hr) hq ((aOn_of_active ((he.active_eq rfl).trans hact) _ _).symm.trans hen)
      unfold countsReg railLatched latchBit railState at hc ⊢
      rw [hwc, hzc, if_neg (Ne.symm hq), rd_of_regs ((he.regs_eq rfl).trans hregs)]
      exact hc

theorem softStartTimeout_results (rail : ChIx) (hst : railState s rail.val = .soft ∨ railState s rail.val = .settle) :
    Runs (.softStartTimeout rail) s (SoftFailed rail.val) := ⟨_, if_pos hst, softStartFail_results rail⟩

theorem pgExcursion_results (rail : ChIx) (hst : railState s rail.val = .reg) :
    Runs (.pgExcursion rail) s (fun t => flag t (Reg.CH_EVENT rail.val) F.CH_EVENT_PG_EXCURSION = true ∧ (chOf t rail.val).pgCnt = (chOf s rail.val).pgCnt + 1
      ∧ railState t rail.val = .reg ∧ t.top = s.top) := by
  refine ⟨_, if_pos hst, ?_⟩
  dsimp only
  unfold railState
  rw [chOf_setCh, if_pos rfl]
  exact ⟨flag_raise _ _ _ (by decide), rfl, hst, rfl⟩

end

/-! ## The end of a rail's discharge -/

section
variable {s t u : State} {r q : Nat}

theorem chCell_schedGrow (h : q ≠ r) : Shows (chCell r) s (schedGrow s q) := by
  unfold schedGrow
  extract_lets l v
  exact .both .refl (.trans (t := v) (chCell_setCh h) (.forEach fun _ _ => chCell_of setPh_evolves))

theorem chCell_allActive (h : q ≠ r) : Shows (chCell r) s (allActive s q) := by
  unfold allActive
  extract_lets v w
  have h1 : Shows (chCell r) s v := .forEach fun _ _ => chCell_of setPh_evolves
  have h2 : Shows (chCell r) v w := .both (chCell_setCh h) .refl
  exact h1.trans (h2.trans (chCell_schedGrow h))

theorem chCell_boostStop (h : q ≠ r) : Shows (chCell r) s (boostStop s q) := by
  unfold boostStop
  split
  · exact .refl
  · extract_lets gap v1 v2 v3
    have h1 : Shows (chCell r) s v1 := .forEach fun _ _ => chCell_of setPh_evolves
    have h2 : Shows (chCell r) v1 v2 := chCell_of setBoost_evolves
    have h3 : Shows (chCell r) v2 v3 := .both (chCell_of boostBlocks_evolves) .refl
    exact h1.trans (h2.trans (h3.trans ((chCell_allActive h).trans (chCell_setCh h))))

/-- A rail that leaves REG moves no other rail's channel. -/
theorem chCell_leaveReg (h : q ≠ r) : Shows (chCell r) s (leaveReg s q) := by
  unfold leaveReg
  extract_lets was v1 v2 v3 v4
  have h1 : Shows (chCell r) s v1 := chCell_boostStop h
  have h2 : Shows (chCell r) v1 v2 := .trans (t := dripTime v1 q) (chCell_of dripTime_evolves) (.forEach fun _ _ => chCell_of armDie_evolves)
  have h3 : Shows (chCell r) v2 v3 := chCell_setCh h
  have h4 : Shows (chCell r) v3 v4 := chCell_of calDrop_evolves
  exact h1.trans (.both (h2.trans (h3.trans (h4.trans ((chCell_setCh h).trans (chCell_of fqLeaveReg_evolves))))) .refl)

theorem chCell_disHead (h : ∀ d ∈ s.top.dis, d.rail ≠ r) : Shows (chCell r) s (disHead s) := by
  unfold disHead
  split
  · exact .refl
  next d l hd =>
    have hne : d.rail ≠ r := h d (by rw [hd]; exact List.mem_cons_self)
    extract_lets v
    have h1 : Shows (chCell r) s v := (chCell_leaveReg hne).trans (chCell_setCh hne)
    exact h1.trans (.both (chCell_allActive hne) (chCell_of phasesMid_evolves))

theorem dis_disHead : (disHead s).top.dis = s.top.dis := by
  unfold disHead
  split
  · rfl
  next d l hd =>
    extract_lets v
    have h1 : v.top = s.top := leaveReg_evolves.top_eq rfl
    clear_value v
    split
    · rw [allActive_evolves.top_eq rfl, h1, hd]
    · rw [phasesMid_evolves.top_eq rfl, h1, hd]

/-- The rail whose discharge has ended is off and out of the order of the discharge (R338). -/
theorem disNext_results (d : DisItem) (rest : List DisItem) :
    running (disNext s d rest) d.rail = false ∧ ∀ x ∈ (disNext s d rest).top.dis, x.rail ≠ d.rail := by
  unfold disNext
  extract_lets v rest' top1 w
  have hoff : running v d.rail = false := by
    show running (railOff s d.rail) d.rail = false
    rw [running_railOff, if_pos rfl]
  have hne (x : DisItem) (hx : x ∈ rest') : x.rail ≠ d.rail := fun he => by
    have := (List.mem_filter.1 hx).2
    rw [he, hoff] at this
    exact Bool.false_ne_true this
  have hw : running w d.rail = false := hoff
  have hwd : w.top.dis = rest' := rfl
  clear_value w rest'
  split
  next =>
    refine ⟨(running_of_ch (disDone_evolves.ch_eq rfl) _).trans hw, ?_⟩
    rw [dis_disDone, hwd]
    exact fun x hx => absurd hx List.not_mem_nil
  next =>
    have hcell : chOf (disHead w) d.rail = chOf w d.rail := (chCell_disHead (by rw [hwd]; exact hne)).eq
    refine ⟨(running_of_chOf hcell).trans hw, ?_⟩
    rw [dis_disHead, hwd]
    exact hne

theorem dischargeRailDone_results (rail : ChIx) (mv : Nat) {d : DisItem} {l : List DisItem} (hd : s.top.dis = d :: l) (hr : d.rail = rail.val)
    (hlim : d.limitOnly = false) (hmv : mv < 50) :
    Runs (.dischargeRailDone rail mv) s (fun t => running t rail.val = false ∧ ∀ x ∈ t.top.dis, x.rail ≠ rail.val) := by
  show ∃ t, execDischargeRailDone rail mv s = .next t ∧ _
  unfold execDischargeRailDone
  extract_lets v
  have hv : v.top.dis = d :: l := hd
  clear_value v
  rw [hv]
  dsimp only
  rw [if_pos ⟨hr, hmv, by rw [hlim]; rfl⟩, ← hr]
  exact ⟨_, rfl, disNext_results d l⟩

end

/-! ## Sweeps over the phases of a rail -/

section
variable {s t u : State} {r p : Nat}

/-- A sweep of phase updates gives every phase its own update, where what the update reads stays. -/
theorem phOf_sweepOnce {l : List Nat} {f : State → Nat → State} {I : State → Prop} (h : Nat → PhSt → PhSt) (hn : l.Nodup)
    (hf : ∀ t x, I t → f t x = setPh t x (h x)) (hI : ∀ t x, I t → I (setPh t x (h x))) (hs : I s) :
    I (forEach l s f) ∧ phOf (forEach l s f) p = if p ∈ l then h p (phOf s p) else phOf s p := by
  induction l generalizing s with
  | nil => exact ⟨hs, rfl⟩
  | cons x l ih =>
    obtain ⟨hx, hn⟩ := List.nodup_cons.1 hn
    rw [forEach_cons, hf s x hs]
    obtain ⟨h1, h2⟩ := ih hn (hI s x hs)
    refine ⟨h1, h2.trans ?_⟩
    rw [phOf_setPh]
    by_cases hp : x = p
    · subst hp
      rw [if_neg hx, if_pos rfl, if_pos List.mem_cons_self]
    · rw [if_neg hp]
      by_cases hm : p ∈ l
      · rw [if_pos hm, if_pos (List.mem_cons_of_mem _ hm)]
      · rw [if_neg hm, if_neg (by simp [hm, Ne.symm hp])]

/-- Cycles of a phase in a row past the peak limit, once its last period has closed. -/
def closedCnt (x : PhSt) : Nat := if x.drove && !x.peaked then 0 else x.shortCnt

/-- What an on-time leaves of a phase. -/
structure OnKept (x y : PhSt) : Prop where
  active : y.active = x.active
  fault : y.fault = x.fault
  returning : y.returning = x.returning
  crowbar : y.crowbar = x.crowbar
  cal : y.cal = x.cal
  count : closedCnt y = closedCnt x

theorem OnKept.trans {x y z : PhSt} (h : OnKept x y) (k : OnKept y z) : OnKept x z :=
  ⟨k.active.trans h.active, k.fault.trans h.fault, k.returning.trans h.returning, k.crowbar.trans h.crowbar, k.cal.trans h.cal, k.count.trans h.count⟩

theorem OnKept.refl (x : PhSt) : OnKept x x := ⟨rfl, rfl, rfl, rfl, rfl, rfl⟩

theorem onKept_toMid (x : PhSt) : OnKept x (toMid x) := ⟨rfl, rfl, rfl, rfl, rfl, rfl⟩

/-- On-times touch phases at HIGH alone (R297). -/
theorem onTimes_results : OnKept (phOf s p) (phOf (onTimes s r) p) ∧ ((phOf s p).level ≠ .high → phOf (onTimes s r) p = phOf s p) := by
  unfold onTimes
  split
  · exact ⟨.refl _, fun _ => rfl⟩
  · have hstep (t : State) (q : Nat) (w : Nat) : OnKept (phOf t p) (phOf (setPh t q (fun x => if x.edgeAt + w * 160 ≤ now t * 1000 then
        (if x.active then { x with level := .low } else toMid x) else { x with onTime := w })) p) := by
      rw [phOf_setPh]
      split
      next hq =>
        subst hq
        split
        · split
          · exact ⟨rfl, rfl, rfl, rfl, rfl, rfl⟩
          · exact onKept_toMid _
        · exact ⟨rfl, rfl, rfl, rfl, rfl, rfl⟩
      next => exact .refl _
    refine ⟨forEach_keeps (Q := fun t => OnKept (phOf s p) (phOf t p)) (fun t q ht => ht.trans (hstep t q _)) (.refl _), fun hl => ?_⟩
    have hkeep : Shows (fun t => phOf t p) s (forEach ((railPhases s r).filter (fun p => (phOf s p).level == .high && !(phOf s p).crowbar)) s (fun s p =>
        setPh s p (fun x => if x.edgeAt + onTimeOf s r p * 160 ≤ now s * 1000 then (if x.active then { x with level := .low } else toMid x)
                        else { x with onTime := onTimeOf s r p }))) := by
      refine .forEach_mem fun t q hq => ?_
      have hne : q ≠ p := fun he => by
        have := (List.mem_filter.1 hq).2
        rw [he] at this
        simp only [Bool.and_eq_true, beq_iff_eq] at this
        exact hl this.1
      exact (phOf_setPh _ _ _).trans (if_neg hne)
    exact hkeep.eq

/-- A phase whose fault has ended returns, active where every other assigned phase is. -/
def returnPh (every : Bool) (x : PhSt) : PhSt := { x with fault := false, returning := false, active := x.active || every }

/-- The phases whose fault has ended return, and every other phase is left alone (R337). -/
theorem phasesReturn_results : ∃ every : Bool, ∀ p, phOf (phasesReturn s r) p
    = if p ∈ railPhases s r ∧ (phOf s p).returning = true then returnPh every (phOf s p) else phOf s p := by
  refine ⟨(inactivePh s r).isEmpty && (chOf s r).drip == .run, fun p => ?_⟩
  unfold phasesReturn
  extract_lets every
  have h := (phOf_sweepOnce (s := s) (p := p) (I := fun _ => True) (f := fun s p => setPh s p (returnPh every)) (fun _ => returnPh every)
    ((railPhases_nodup s r).filter (fun p => (phOf s p).returning)) (fun _ _ _ => rfl) (fun _ _ _ => trivial) trivial).2
  simp only [List.mem_filter] at h
  exact h

/-- What the start of a period does to a phase of the rail. -/
def periodPh (i : Int) (x : PhSt) : PhSt :=
  if x.active || x.crowbar then { x with off := i, due := x.active }
  else if x.level = .high then { x with off := i, due := false } else { toMid x with off := i }

theorem active_periodPh (i : Int) (x : PhSt) : (periodPh i x).active = x.active := by
  unfold periodPh
  split
  · rfl
  · split <;> rfl

/-- A period takes the active phases as its schedule and the active PERIOD (R293). -/
theorem newPeriod_results (at_ : Nat) : (∀ p, phOf (newPeriod s r at_) p
      = if p ∈ railPhases s r then periodPh (sext 16 (fld s (Reg.PH_OFF p) F.PH_OFF_OFFSET)) (phOf s p) else phOf s p)
    ∧ chOf (newPeriod s r at_) r = { chOf s r with sched := activePh (newPeriod s r at_) r, per := aF s (Reg.CH_FSW r) F.CH_FSW_PERIOD, perAt := at_ } := by
  have hph (p : Nat) : phOf (newPeriod s r at_) p
      = if p ∈ railPhases s r then periodPh (sext 16 (fld s (Reg.PH_OFF p) F.PH_OFF_OFFSET)) (phOf s p) else phOf s p := by
    unfold newPeriod
    extract_lets l v
    have hv : v.ph = s.ph ∧ v.regs = s.regs ∧ v.img = s.img := ⟨rfl, rfl, rfl⟩
    obtain ⟨hvp, hvr, hvi⟩ := hv
    clear_value v
    have h := (phOf_sweepOnce (s := v) (p := p) (l := railPhases v r) (I := fun t => t.regs = s.regs) (f := fun s p =>
        setPh s p (fun x => if x.active || x.crowbar then { x with off := sext 16 (fld s (Reg.PH_OFF p) F.PH_OFF_OFFSET), due := x.active }
          else if x.level = .high then { x with off := sext 16 (fld s (Reg.PH_OFF p) F.PH_OFF_OFFSET), due := false }
          else { toMid x with off := sext 16 (fld s (Reg.PH_OFF p) F.PH_OFF_OFFSET) }))
      (fun p => periodPh (sext 16 (fld s (Reg.PH_OFF p) F.PH_OFF_OFFSET))) (railPhases_nodup v r)
      (fun t x ht => by rw [← fld_congr (rd_of_regs ht _)]; rfl) (fun _ _ ht => ht) hvr).2
    rw [phOf_of_ph hvp] at h
    rw [← railPhases_of_img (r := r) hvi]
    exact h
  refine ⟨hph, ?_⟩
  have hact : activePh (newPeriod s r at_) r = activePh s r := by
    unfold activePh
    rw [railPhases_of_img (newPeriod_evolves.img_eq rfl)]
    refine List.filter_congr fun q hq => ?_
    rw [hph, if_pos hq, active_periodPh]
  rw [hact]
  unfold newPeriod
  extract_lets l v
  have hch : (forEach (railPhases v r) v (fun s p =>
    let i := sext 16 (fld s (Reg.PH_OFF p) F.PH_OFF_OFFSET)
    setPh s p (fun x => if x.active || x.crowbar then { x with off := i, due := x.active }
      else if x.level = .high then { x with off := i, due := false } else { toMid x with off := i }))).ch = v.ch :=
    (Evolves.forEach (W := { ph := true }) fun _ _ => setPh_evolves).ch_eq rfl
  rw [chOf_of_ch hch]
  exact (chOf_setCh _ _ _).trans (if_pos rfl)

/-- The last period of a phase has closed in `t`, with its count of cycles past the peak limit as `x` leaves it. -/
def PeriodClosed (x : PhSt) (t : State) (p : Nat) : Prop :=
  (phOf t p).peaked = false ∧ (phOf t p).negLim = false ∧ (phOf t p).shortCnt = closedCnt x

/-- A phase of the rail at the start of a period (R293–R295, R306, R337). -/
structure Period (s t : State) (p : Nat) : Prop where
  off : (phOf t p).off = sext 16 (fld s (Reg.PH_OFF p) F.PH_OFF_OFFSET)
  returns : (phOf s p).returning = true → (phOf t p).fault = false ∧ (phOf t p).returning = false
  stays : (phOf s p).returning = false → (phOf t p).active = (phOf s p).active ∧ (phOf t p).fault = (phOf s p).fault
  on : (phOf s p).active = true → (phOf t p).due = true ∧ ((phOf s p).level ≠ .high → (phOf t p).level = (phOf s p).level)
  out : (phOf t p).active = false → (phOf s p).crowbar = false → (phOf t p).due = false
    ∧ ((phOf s p).level ≠ .high → (phOf t p).level = .mid ∧ PeriodClosed (phOf s p) t p ∧ (phOf t p).drove = false)

/-- What a phase is once it has been timed, has returned and has met the start of the period. -/
theorem period_of {x y z : PhSt} {i : Int} (hxy : OnKept x y) (hlev : x.level ≠ .high → y = x) (hz : (x.returning = true ∧ ∃ every, z = returnPh every y) ∨ (x.returning = false ∧ z = y))
    (hx : x = phOf s p) (hp : phOf t p = periodPh i z) (hi : i = sext 16 (fld s (Reg.PH_OFF p) F.PH_OFF_OFFSET)) : Period s t p := by
  subst hx
  have hlevel : z.level = y.level := by
    rcases hz with ⟨-, e, rfl⟩ | ⟨-, rfl⟩ <;> rfl
  have hcrow : z.crowbar = (phOf s p).crowbar := by
    rcases hz with ⟨-, e, rfl⟩ | ⟨-, rfl⟩ <;> exact hxy.crowbar
  have hcount : closedCnt z = closedCnt (phOf s p) := by
    rcases hz with ⟨-, e, rfl⟩ | ⟨-, rfl⟩ <;> exact hxy.count
  have hact : (phOf s p).active = true → z.active = true := fun ha => by
    rcases hz with ⟨-, e, rfl⟩ | ⟨-, rfl⟩
    · show (y.active || e) = true
      rw [hxy.active, ha]
      rfl
    · exact hxy.active.trans ha
  have hfault : (periodPh i z).fault = z.fault ∧ (periodPh i z).returning = z.returning ∧ (periodPh i z).off = i := by
    unfold periodPh
    split
    · exact ⟨rfl, rfl, rfl⟩
    · split
      · exact ⟨rfl, rfl, rfl⟩
      · exact ⟨rfl, rfl, rfl⟩
  refine ⟨?_, fun hr => ?_, fun hr => ?_, fun ha => ?_, fun ha hc => ?_⟩
  · rw [hp, hfault.2.2, hi]
  · rw [hp, hfault.1, hfault.2.1]
    rcases hz with ⟨-, e, rfl⟩ | ⟨hn, -⟩
    · exact ⟨rfl, rfl⟩
    · exact absurd (hr.symm.trans hn) (by decide)
  · rw [hp, hfault.1, active_periodPh]
    rcases hz with ⟨hn, -⟩ | ⟨-, rfl⟩
    · exact absurd (hn.symm.trans hr) (by decide)
    · exact ⟨hxy.active, hxy.fault⟩
  · have hz' : periodPh i z = { z with off := i, due := z.active } := if_pos (by rw [hact ha]; rfl)
    rw [hp, hz']
    exact ⟨hact ha, fun hl => hlevel.trans (congrArg PhSt.level (hlev hl))⟩
  · rw [hp, active_periodPh] at ha
    unfold PeriodClosed
    rw [hp]
    unfold periodPh
    rw [if_neg (by rw [ha, hcrow, hc]; decide)]
    split
    next hh => exact ⟨rfl, fun hl => absurd ((congrArg PhSt.level (hlev hl)).symm.trans (hlevel.symm.trans hh)) hl⟩
    next => exact ⟨rfl, fun _ => ⟨rfl, ⟨rfl, rfl, hcount⟩, rfl⟩⟩

theorem shedCount_keeps : (chOf (shedCount s r) r).iMean = (chOf s r).iMean ∧ (chOf (shedCount s r) r).perSum = (chOf s r).perSum
    ∧ (chOf (shedCount s r) r).perNum = (chOf s r).perNum ∧ (chOf (shedCount s r) r).sched = (chOf s r).sched ∧ (chOf (shedCount s r) r).per = (chOf s r).per := by
  unfold shedCount restartShed
  dsimp only
  split <;> (rw [chOf_setCh, if_pos rfl]; exact ⟨rfl, rfl, rfl, rfl, rfl⟩)

/-- The means and counts of a rail at the start of a period; `i` is the present current. -/
def periodMeans (i : Int) (x : ChSt) : ChSt :=
  { x with iMean := if x.perNum = 0 then i else x.perSum / x.perNum, perSum := 0, perNum := 0,
           burstPer := if x.drip = .burst then x.burstPer + 1 else x.burstPer }

theorem periodStart_results (rail : ChIx) (h : switching s rail.val = true) :
    Runs (.periodStart rail) s (fun t =>
      (chOf t rail.val).iMean = (if (chOf s rail.val).perNum = 0 then railI s rail.val else (chOf s rail.val).perSum / (chOf s rail.val).perNum)
      ∧ (chOf t rail.val).perSum = 0 ∧ (chOf t rail.val).perNum = 0
      ∧ (chOf t rail.val).sched = activePh t rail.val ∧ (chOf t rail.val).per = aF s (Reg.CH_FSW rail.val) F.CH_FSW_PERIOD
      ∧ ∀ p ∈ railPhases s rail.val, Period s t p) := by
  show ∃ t, execPeriodStart rail s = .next t ∧ _
  unfold execPeriodStart
  rw [if_pos h]
  extract_lets at_ v w i z
  refine ⟨_, rfl, ?_⟩
  have hreach : Evolves { tb := true } s (reach s ((at_ + 999) / 1000)) := reach_evolves
  have hv : Evolves { tb := true, ph := true } s v := .trans (t := reach s ((at_ + 999) / 1000)) reach_evolves.mono onTimes_evolves.mono
  have hret : Evolves { ph := true } v (phasesReturn v rail.val) := phasesReturn_evolves
  have hvph (p : Nat) : OnKept (phOf s p) (phOf v p) ∧ ((phOf s p).level ≠ .high → phOf v p = phOf s p) := by
    rw [← phOf_of_ph (hreach.ph_eq rfl) p]
    exact onTimes_results
  have hw : Evolves { ch := true, ph := true } v w := .trans (t := phasesReturn v rail.val) phasesReturn_evolves.mono newPeriod_evolves
  obtain ⟨every, hrph⟩ := phasesReturn_results (s := v) (r := rail.val)
  obtain ⟨hwph, hwch⟩ := newPeriod_results (s := phasesReturn v rail.val) (r := rail.val) at_
  have hwch' : chOf w rail.val = { chOf s rail.val with sched := activePh w rail.val, per := aF s (Reg.CH_FSW rail.val) F.CH_FSW_PERIOD, perAt := at_ } := by
    rw [← chOf_of_ch (hv.ch_eq rfl), ← chOf_of_ch (hret.ch_eq rfl), ← aF_of_active ((hret.active_eq rfl).trans (hv.active_eq rfl))]
    exact hwch
  have hi : i = railI s rail.val := by
    unfold i railI
    rw [rd_of_regs ((hw.regs_eq rfl).trans (hv.regs_eq rfl))]
  have hwph' (p : Nat) (hp : p ∈ railPhases s rail.val) : Period s w p := by
    have hpv : p ∈ railPhases v rail.val := by rwa [railPhases_of_img (hv.img_eq rfl)]
    have hpr : p ∈ railPhases (phasesReturn v rail.val) rail.val := by rwa [railPhases_of_img (hret.img_eq rfl)]
    have hz : ((phOf s p).returning = true ∧ ∃ every, phOf (phasesReturn v rail.val) p = returnPh every (phOf v p))
        ∨ ((phOf s p).returning = false ∧ phOf (phasesReturn v rail.val) p = phOf v p) := by
      rw [← (hvph p).1.returning, hrph]
      by_cases hr : (phOf v p).returning = true
      · rw [if_pos ⟨hpv, hr⟩]
        exact .inl ⟨hr, every, rfl⟩
      · rw [if_neg fun hx => hr hx.2]
        exact .inr ⟨by simpa using hr, rfl⟩
    exact period_of (hvph p).1 (hvph p).2 hz rfl ((hwph p).trans (if_pos hpr)) (by
      rw [fld_congr (rd_of_regs ((hret.regs_eq rfl).trans (hv.regs_eq rfl)) _)])
  clear_value i w v
  have hzc : chOf z rail.val = periodMeans i (chOf w rail.val) := (chOf_setCh _ _ (periodMeans i)).trans (if_pos rfl)
  have hzo : z.ph = w.ph ∧ z.img = w.img := ⟨rfl, rfl⟩
  clear_value z
  have hsh : Evolves { ch := true } z (shedCount z rail.val) := shedCount_evolves
  obtain ⟨h1, h2, h3, h4, h5⟩ := shedCount_keeps (s := z) (r := rail.val)
  have hphz (p : Nat) : phOf (shedCount z rail.val) p = phOf w p := phOf_of_ph ((hsh.ph_eq rfl).trans hzo.1) p
  rw [h1, h2, h3, h4, h5, hzc, hwch', hi]
  refine ⟨rfl, rfl, rfl, ?_, rfl, fun p hp => ?_⟩
  · show activePh w rail.val = _
    unfold activePh
    rw [railPhases_of_img ((hsh.img_eq rfl).trans hzo.2)]
    simp only [hphz]
  · have hp' := hwph' p hp
    have hph := hphz p
    refine ⟨?_, ?_, ?_, ?_, ?_⟩
    · rw [hph]; exact hp'.off
    · rw [hph]; exact hp'.returns
    · rw [hph]; exact hp'.stays
    · rw [hph]; exact hp'.on
    · unfold PeriodClosed
      rw [hph]
      exact hp'.out

/-! ## Slots -/

theorem onTimeOf_zero (h : (chOf s r).duty = 0) : onTimeOf s r p = 0 := if_pos h

/-- R298: the on-time lies between MIN_ON and the period less MIN_OFF. -/
theorem onTimeOf_bounds (h : (chOf s r).duty ≠ 0) (h1 : 1 ≤ aF s (Reg.CH_FSW r) F.CH_FSW_MIN_ON)
    (h2 : aF s (Reg.CH_FSW r) F.CH_FSW_MIN_ON + aF s (Reg.CH_FSW r) F.CH_FSW_MIN_OFF ≤ (chOf s r).per) :
    onTimeOf s r p ≠ 0 ∧ aF s (Reg.CH_FSW r) F.CH_FSW_MIN_ON ≤ onTimeOf s r p
      ∧ onTimeOf s r p + aF s (Reg.CH_FSW r) F.CH_FSW_MIN_OFF ≤ (chOf s r).per := by
  unfold onTimeOf
  extract_lets per t raw
  rw [if_neg h]
  have hper : per = (chOf s r).per := rfl
  clear_value raw per
  omega

theorem phaseSlotEdge_results (ph : PhIx) (hr : phaseRail s ph.val < 8) (hs : slotTaken s (phaseRail s ph.val) ph.val = true) :
    Runs (.phaseSlotEdge ph) s (fun t => (phOf t ph.val).due = false
      ∧ ((phOf s ph.val).cal = true → (phOf s ph.val).level ≠ .high → (phOf t ph.val).level = (phOf s ph.val).level)
      ∧ ((phOf s ph.val).cal = false → PeriodClosed (phOf s ph.val) t ph.val
          ∧ ((chOf s (phaseRail s ph.val)).duty = 0 → (phOf t ph.val).level = .low)
          ∧ ((chOf s (phaseRail s ph.val)).duty ≠ 0 → 1 ≤ aF s (Reg.CH_FSW (phaseRail s ph.val)) F.CH_FSW_MIN_ON →
              aF s (Reg.CH_FSW (phaseRail s ph.val)) F.CH_FSW_MIN_ON + aF s (Reg.CH_FSW (phaseRail s ph.val)) F.CH_FSW_MIN_OFF ≤ (chOf s (phaseRail s ph.val)).per →
              (phOf t ph.val).level = .high ∧ (phOf t ph.val).drove = true
              ∧ aF s (Reg.CH_FSW (phaseRail s ph.val)) F.CH_FSW_MIN_ON ≤ (phOf t ph.val).onTime
              ∧ (phOf t ph.val).onTime + aF s (Reg.CH_FSW (phaseRail s ph.val)) F.CH_FSW_MIN_OFF ≤ (chOf s (phaseRail s ph.val)).per))) := by
  show ∃ t, execPhaseSlotEdge ph s = .next t ∧ _
  unfold execPhaseSlotEdge
  dsimp only
  generalize phaseRail s ph.val = r at hr hs ⊢
  rw [if_pos ⟨hr, hs⟩]
  have hreach : Evolves { tb := true } s (reach s ((slotPs s r ph.val + 999) / 1000)) := reach_evolves
  generalize reach s ((slotPs s r ph.val + 999) / 1000) = u at hreach ⊢
  obtain ⟨hon, hlev⟩ := onTimes_results (s := u) (r := r) (p := ph.val)
  rw [phOf_of_ph (hreach.ph_eq rfl)] at hon hlev
  have hev : Evolves { ph := true } u (onTimes u r) := onTimes_evolves
  have hch : (onTimes u r).ch = s.ch := (hev.ch_eq rfl).trans (hreach.ch_eq rfl)
  have hact : (onTimes u r).active = s.active := (hev.active_eq rfl).trans (hreach.active_eq rfl)
  generalize onTimes u r = v at hon hlev hch hact ⊢
  generalize hw : setPh v ph.val (fun x => { x with due := false }) = w
  have hwp : phOf w ph.val = { phOf v ph.val with due := false } := by rw [← hw, phOf_setPh, if_pos rfl]
  have hwch : chOf w r = chOf s r := by
    rw [← hw]
    exact chOf_of_ch hch r
  have hwa (f : Fld) : aF w (Reg.CH_FSW r) f = aF s (Reg.CH_FSW r) f := by
    rw [← hw]
    exact aF_of_active hact _ _
  have hcal : (phOf w ph.val).cal = (phOf s ph.val).cal := by rw [hwp]; exact hon.cal
  rw [hcal]
  have hcount : closedCnt (phOf w ph.val) = closedCnt (phOf s ph.val) := by rw [hwp]; exact hon.count
  have hdue : (phOf w ph.val).due = false := by rw [hwp]
  have hclosed (f : PhSt → PhSt) (hf : ∀ x, (f x).peaked = false ∧ (f x).negLim = false ∧ (f x).shortCnt = closedCnt x) :
      PeriodClosed (phOf s ph.val) (setPh w ph.val f) ph.val := by
    unfold PeriodClosed
    rw [phOf_setPh, if_pos rfl, ← hcount]
    exact hf _
  by_cases hc : (phOf s ph.val).cal = true
  · rw [if_pos hc]
    refine ⟨w, rfl, hdue, fun _ hl => ?_, fun hn => absurd (hc.symm.trans hn) (by decide)⟩
    have hl' : (phOf w ph.val).level = (phOf v ph.val).level := by rw [hwp]
    exact hl'.trans (congrArg PhSt.level (hlev hl))
  · rw [if_neg hc]
    by_cases h0 : onTimeOf w r ph.val = 0
    · rw [if_pos h0]
      refine ⟨_, rfl, ?_, fun h => absurd h hc, fun _ => ⟨hclosed _ fun _ => ⟨rfl, rfl, rfl⟩, fun _ => ?_, fun hd h1 h2 => ?_⟩⟩
      · rw [phOf_setPh, if_pos rfl]
        exact hdue
      · rw [phOf_setPh, if_pos rfl]
      · exact absurd h0 (onTimeOf_bounds (by rwa [hwch]) (by rwa [hwa]) (by rwa [hwa, hwa, hwch])).1
    · rw [if_neg h0]
      refine ⟨_, rfl, ?_, fun h => absurd h hc, fun _ => ⟨hclosed _ fun _ => ⟨rfl, rfl, rfl⟩, fun hd => ?_, fun hd h1 h2 => ?_⟩⟩
      · rw [phOf_setPh, if_pos rfl]
        exact hdue
      · exact absurd (onTimeOf_zero (by rwa [hwch])) h0
      · obtain ⟨-, hb1, hb2⟩ := onTimeOf_bounds (s := w) (r := r) (p := ph.val) (by rwa [hwch]) (by rwa [hwa]) (by rwa [hwa, hwa, hwch])
        rw [phOf_setPh, if_pos rfl]
        rw [hwa] at hb1 hb2
        rw [hwch] at hb2
        exact ⟨rfl, rfl, hb1, hb2⟩

/-! ## Current limits, balance and sense pairs -/

theorem negativeCurrentLimit_results (ph : PhIx) (amps : Int) (hr : phaseRail s ph.val < 8) (ha : (phOf s ph.val).active = true)
    (hl : (phOf s ph.val).level = .low) (hc : (phOf s ph.val).crowbar = false)
    (hi : amps - (phOf s ph.val).off < (if (chOf s (phaseRail s ph.val)).drip = .burst then 0 else -256)) :
    Runs (.negativeCurrentLimit ph amps) s (fun t => (phOf t ph.val).level = .mid ∧ (phOf t ph.val).negLim = true ∧ ∀ q, q ≠ ph.val → phOf t q = phOf s q) := by
  refine ⟨_, if_pos ⟨hr, ha, hl, by rw [hc]; rfl, hi⟩, ?_⟩
  dsimp only
  refine ⟨?_, ?_, fun q hq => (phOf_setPh _ _ _).trans (if_neg (Ne.symm hq))⟩
  · rw [phOf_setPh, if_pos rfl]
  · rw [phOf_setPh, if_pos rfl]

theorem clampI_within {lim x : Int} (h : 0 ≤ lim) : -lim ≤ clampI (-lim) lim x ∧ clampI (-lim) lim x ≤ lim := by
  unfold clampI
  split_ifs <;> omega

/-- LIM of the rail's balance loop, in the units of the trims. -/
def balLim (s : State) (r : Nat) : Int := (aF s (Reg.CH_BAL r) F.CH_BAL_LIM * 2 ^ 24 : Nat)

theorem balanceOne_trim (sum : Int) (n : Nat) : -balLim s r ≤ (phOf (balanceOne s r p sum n) p).trim ∧ (phOf (balanceOne s r p sum n) p).trim ≤ balLim s r := by
  have hlim : 0 ≤ balLim s r := Int.natCast_nonneg _
  unfold balanceOne
  extract_lets g lim i d
  rw [phOf_setPh, if_pos rfl]
  dsimp only
  split
  · exact ⟨by omega, hlim⟩
  · exact clampI_within hlim

theorem balanceOne_other {q : Nat} (sum : Int) (n : Nat) (h : q ≠ p) : phOf (balanceOne s r q sum n) p = phOf s p := (phOf_setPh _ _ _).trans (if_neg h)

/-- An update of the trims keeps each within LIM and the other phases as they are (R315). -/
theorem balance_sweep {l : List Nat} (sum : Int) (n : Nat) :
    (p ∈ l → -balLim s r ≤ (phOf (forEach l s (fun s p => balanceOne s r p sum n)) p).trim
      ∧ (phOf (forEach l s (fun s p => balanceOne s r p sum n)) p).trim ≤ balLim s r)
    ∧ (p ∉ l → phOf (forEach l s (fun s p => balanceOne s r p sum n)) p = phOf s p) := by
  have hlim (t : State) (h : t.active = s.active) : balLim t r = balLim s r := by
    unfold balLim
    rw [aF_of_active h]
  have hact (t : State) (q : Nat) (h : t.active = s.active) : (balanceOne t r q sum n).active = s.active := (balanceOne_evolves.active_eq rfl).trans h
  have htrim (t : State) (q : Nat) (h : t.active = s.active) (hq : q = p) : -balLim s r ≤ (phOf (balanceOne t r q sum n) p).trim
      ∧ (phOf (balanceOne t r q sum n) p).trim ≤ balLim s r := by
    rw [hq, ← hlim t h]
    exact balanceOne_trim _ _
  refine ⟨fun hp => ?_, fun hp => ?_⟩
  · refine forEach_establishes (I := fun t => t.active = s.active)
      (Q := fun t => -balLim s r ≤ (phOf t p).trim ∧ (phOf t p).trim ≤ balLim s r) hp hact (fun t ht => htrim t p ht rfl) (fun t q ht h => ?_) rfl
    by_cases hq : q = p
    · exact htrim t q ht hq
    · rw [balanceOne_other _ _ hq]
      exact h
  · have hkeep : Shows (fun t => phOf t p) s (forEach l s (fun s p => balanceOne s r p sum n)) :=
      .forEach_mem fun t q hq => balanceOne_other _ _ fun he => hp (he ▸ hq)
    exact hkeep.eq

theorem balanceUpdate_results (rail : ChIx) (hr : isRail s rail.val = true) (hen : aOn s (Reg.CH_CTRL rail.val) F.CH_CTRL_BAL_EN = true)
    (hst : railState s rail.val = .reg) (hd : (chOf s rail.val).drip = .run) :
    Runs (.balanceUpdate rail []) s (fun t =>
      (∀ p ∈ activePh s rail.val, (phOf s p).cal = false → -balLim s rail.val ≤ (phOf t p).trim ∧ (phOf t p).trim ≤ balLim s rail.val)
      ∧ ∀ p, p ∉ activePh s rail.val ∨ (phOf s p).cal = true → phOf t p = phOf s p) := by
  have hmem (p : Nat) : p ∈ (activePh s rail.val).filter (fun p => !(phOf s p).cal) ↔ p ∈ activePh s rail.val ∧ (phOf s p).cal = false := by
    rw [List.mem_filter, Bool.not_eq_true']
  show ∃ t, execBalanceUpdate rail [] s = .next t ∧ _
  unfold execBalanceUpdate
  extract_lets r v l
  change ∃ t, (if isRail s r = true ∧ aOn s (Reg.CH_CTRL r) F.CH_CTRL_BAL_EN = true ∧ railState s r = .reg ∧ (chOf s r).drip = .run ∧ l ≠ [] then _ else _) = _ ∧ _
  by_cases hne : (activePh s rail.val).filter (fun p => !(phOf s p).cal) = []
  · rw [if_neg fun h => h.2.2.2.2 hne]
    refine ⟨s, rfl, fun p hp hc => ?_, fun _ _ => rfl⟩
    have := (hmem p).2 ⟨hp, hc⟩
    rw [hne] at this
    cases this
  · rw [if_pos ⟨hr, hen, hst, hd, hne⟩]
    refine ⟨_, rfl, fun p hp hc => (balance_sweep _ _).1 ((hmem p).2 ⟨hp, hc⟩), fun p hp => (balance_sweep _ _).2 fun hm => ?_⟩
    obtain ⟨ha, hc⟩ := (hmem p).1 hm
    rcases hp with hp | hp
    · exact hp ha
    · exact absurd (hp.symm.trans hc) (by decide)

theorem altPair_setCh {f : ChSt → ChSt} (hf : ∀ x, (f x).altPair = x.altPair) : Shows (fun t => (chOf t r).altPair) s (setCh s r f) := by
  show (chOf (setCh s r f) r).altPair = _
  rw [chOf_setCh, if_pos rfl, hf]

theorem altPair_of {W : Blocks} (h : Evolves W s t) (hW : W.ch = false := by rfl) : Shows (fun t => (chOf t r).altPair) s t :=
  congrArg ChSt.altPair (chOf_of_ch (h.ch_eq hW) r)

theorem altPair_schedGrow : Shows (fun t => (chOf t r).altPair) s (schedGrow s r) := by
  unfold schedGrow
  extract_lets l v
  have h1 : Shows (fun t => (chOf t r).altPair) s v := altPair_setCh (f := fun x => { x with sched := l }) fun _ => rfl
  exact .both .refl (h1.trans (.forEach fun _ _ => altPair_of (W := { ph := true }) setPh_evolves))

theorem altPair_allActive : Shows (fun t => (chOf t r).altPair) s (allActive s r) := by
  unfold allActive
  extract_lets v w
  have h1 : Shows (fun t => (chOf t r).altPair) s v := .forEach fun _ _ => altPair_of (W := { ph := true }) setPh_evolves
  have h2 : Shows (fun t => (chOf t r).altPair) v w := .both (altPair_setCh fun _ => rfl) .refl
  exact h1.trans (h2.trans altPair_schedGrow)

/-- The end of Drip mode leaves the sense pair. -/
theorem altPair_dripExit : Shows (fun t => (chOf t r).altPair) s (dripExit s r) := by
  unfold dripExit
  extract_lets v w
  have h1 : Shows (fun t => (chOf t r).altPair) s v := altPair_allActive.trans (altPair_of dripTime_evolves)
  have h2 : Shows (fun t => (chOf t r).altPair) v w := altPair_of bump_evolves
  have h3 : Shows (fun t => (chOf t r).altPair) w (setCh w r (fun x => { x with drip := .run, shedCnt := 0, burstPer := 0 })) := altPair_setCh fun _ => rfl
  exact .both .refl (h1.trans (h2.trans (h3.trans (altPair_of endRemoval_evolves))))

theorem senseSwitch_results (chan : ChIx) (pri alt : Nat) (hr : isRail s chan.val = true) (hrun : running s chan.val = true)
    (hen : aOn s (Reg.CH_CTRL chan.val) F.CH_CTRL_ALT_EN = true) (hauto : aOn s (Reg.CH_CTRL chan.val) F.CH_CTRL_AUTO_SENSE = true)
    (hd : 800 < absI ((pri : Int) - alt))
    (hp : (chOf s chan.val).altPair = !decide (absI ((alt : Int) - vtarget16 s chan.val) < absI ((pri : Int) - vtarget16 s chan.val))) :
    Runs (.senseSwitch chan pri alt) s (fun t => (chOf t chan.val).altPair = !(chOf s chan.val).altPair ∧ (chOf t chan.val).drip = .run
      ∧ flag t (Reg.CH_EVENT chan.val) F.CH_EVENT_SENSE_SWITCH = true) := by
  show ∃ t, execSenseSwitch chan pri alt s = .next t ∧ _
  unfold execSenseSwitch
  extract_lets r d toAlt v v1 v2 v3 v4
  have ht : toAlt = !(chOf s chan.val).altPair := by rw [hp, Bool.not_not]
  clear_value toAlt
  rw [if_pos ⟨hr, hrun, hen, hauto, hd, by rw [ht]; simp [r]⟩]
  refine ⟨_, rfl, ?_⟩
  have h1 : (chOf v1 chan.val).altPair = toAlt := by
    show (chOf (setCh s chan.val _) chan.val).altPair = _
    rw [chOf_setCh, if_pos rfl]
  have h14 : Evolves { regs := true, drain := true, recd := true } v1 v4 := .trans (t := v2) wrN_evolves.mono (.trans (t := v3) raise_evolves.mono record_evolves)
  have h3 : flag v3 (Reg.CH_EVENT chan.val) F.CH_EVENT_SENSE_SWITCH = true := flag_raise _ _ _ (by decide)
  have h4 : flag v4 (Reg.CH_EVENT chan.val) F.CH_EVENT_SENSE_SWITCH = true :=
    (record_rdBut.flag_eq _ (misses_fin (g := Reg.CH_EVENT) (by decide +kernel) chan)).trans h3
  have h4a : (chOf v4 chan.val).altPair = toAlt := (congrArg ChSt.altPair (chOf_of_ch (h14.ch_eq rfl) _)).trans h1
  clear_value v4
  refine ⟨(altPair_dripExit (s := v4) (r := chan.val)).eq.trans (h4a.trans ht), ?_, ?_⟩
  · by_cases hdr : (chOf v4 chan.val).drip = .run
    · rw [show dripExit v4 chan.val = v4 from if_pos hdr]
      exact hdr
    · exact (dripExit_results hdr).1
  · exact (dripExit_rdBut.flag_eq _ (misses_fin (g := Reg.CH_EVENT) (by decide +kernel) chan)).trans h4

end

/-- Settles O28: a rail from soft start to discharge, and its phases from slot to slot, one lemma for each command. -/
theorem regulationResults : Obligations.RegulationResults := by
  unfold Obligations.RegulationResults
  refine ⟨⟨fun rail v pri alt cmp s hst hs => softStartHoldEnd_results rail v pri alt cmp hst hs, fun rail s h => setpointReached_results rail h,
    fun rail s hst hw => channelInRegulation_results rail hst hw, fun rail s h => softStartTimeout_results rail h, fun rail s h => pgExcursion_results rail h,
    fun rail mv d l s hd hr hl hm => dischargeRailDone_results rail mv hd hr hl hm⟩, fun rail s h => ?_, fun ph s hr hs => phaseSlotEdge_results ph hr hs,
    fun ph amps s hr ha hl hc hi => negativeCurrentLimit_results ph amps hr ha hl hc hi, fun rail s hr hen hst hd => balanceUpdate_results rail hr hen hst hd,
    fun chan pri alt s hr hrun hen hauto hd hp => senseSwitch_results chan pri alt hr hrun hen hauto hd hp⟩
  obtain ⟨t, ht, hmean, hsum, hnum, hsched, hper, hph⟩ := periodStart_results rail h
  refine ⟨t, ht, hmean, hsum, hnum, hsched, hper, fun p hp => ?_⟩
  obtain ⟨hoff, hreturns, hstays, hon, hout⟩ := hph p hp
  exact ⟨hoff, hreturns, hstays, hon, hout⟩

end Sys2Proof.Machine
end

section
/-! PROOF. The recorder: staging queues, arbiter, loss record, Postmarks, puts, tail and spill, crossings and sinks (O18). -/

namespace Sys2Proof.Machine
open Host
set_option Elab.async false

section
variable {s t u : State} {p : Plane} {e : Entry} {q : Nat}

/-! ## Staging queues -/

theorem stageQ_setStageQ_ne {q : Plane} (l : List Entry) (h : q ≠ p) : stageQ (setStageQ s p l) q = stageQ s q := by
  revert h
  cases p <;> cases q <;> simp [stageQ, setStageQ]

theorem stageDrop_setStageQ (q : Plane) (l : List Entry) : stageDrop (setStageQ s p l) q = stageDrop s q := by
  cases p <;> cases q <;> rfl

theorem stageDrop_setStageDrop_ne {q : Plane} (n : Nat) (h : q ≠ p) : stageDrop (setStageDrop s p n) q = stageDrop s q := by
  revert h
  cases p <;> cases q <;> simp [stageDrop, setStageDrop]

/-- A record joins its plane's queue where nothing was dropped and there is room (R70, R71). -/
theorem stage_of_room (hd : stageDrop s p = 0) (h : (stageQ s p).length < 16) :
    stage s p e = setStageQ s p (stageQ s p ++ [{ e with flags := e.flags % 32 / 4 * 4 + planeNo p }]) := by
  simp only [stage, placeLoss_of_no_drop s p hd, if_pos h]

theorem planeNo_lt (p : Plane) : planeNo p < 3 := by cases p <;> decide

/-- A record that meets a full queue is counted in the plane's drop counter (R70). -/
theorem fld_dropRecord : fld (dropRecord s p) (Reg.REC_ARB_DROP (planeNo p)) wordF = min (fld s (Reg.REC_ARB_DROP (planeNo p)) wordF + 1) 0xFFFFFFFF := by
  have hp := planeNo_lt p
  have hcnt : Reg.TOP_DRAIN_CNT 8 ≠ Reg.REC_ARB_DROP (planeNo p) := by dsimp only [Reg.TOP_DRAIN_CNT, Reg.REC_ARB_DROP]; omega
  have hstat : Reg.TOP_DRAIN_STATUS ≠ Reg.REC_ARB_DROP (planeNo p) := by dsimp only [Reg.TOP_DRAIN_STATUS, Reg.REC_ARB_DROP]; omega
  unfold dropRecord
  extract_lets v
  rw [fld_congr ((rd_sinkTake _ hcnt hstat).trans (rd_of_regs (setStageDrop_regs _ p _) _)) wordF]
  exact fld_bump_same _ _ _ (by decide)

theorem stageDrop_dropRecord_ne {q : Plane} (h : q ≠ p) : stageDrop (dropRecord s p) q = stageDrop s q := by
  unfold dropRecord
  rw [stageDrop_of_recd (sinkTake_recd _ _), stageDrop_setStageDrop_ne _ h, stageDrop_of_recd (bump_recd _ _ _)]

/-- A record of one plane drops nothing of another. -/
theorem stageDrop_stage_ne {q : Plane} (h : q ≠ p) : stageDrop (stage s p e) q = stageDrop s q := by
  have hloss : stageDrop (placeLoss s p) q = stageDrop s q := by
    unfold placeLoss
    split
    · extract_lets x v
      rw [stageDrop_of_recd (raise_recd _ _ _), stageDrop_setStageDrop_ne _ h]
      exact stageDrop_setStageQ q _
    · rfl
  unfold stage
  extract_lets v
  split
  · exact (stageDrop_setStageQ q _).trans hloss
  · exact (stageDrop_dropRecord_ne h).trans hloss

theorem recordProduce_room (hl : (stageQ s p).length < 16) (hd : stageDrop s p = 0) (hw : entryWf e = true) :
    Runs (.recordProduce p e) s (fun t => (∃ x, stageQ t p = stageQ s p ++ [x] ∧ x.cls = e.cls ∧ x.typ = e.typ ∧ x.unit = e.unit ∧ x.arg = e.arg ∧ x.value = e.value
      ∧ x.value2 = e.value2 ∧ x.flags % 4 = planeNo p) ∧ t.regs = s.regs ∧ ∀ q, q ≠ p → stageQ t q = stageQ s q) := by
  unfold entryWf at hw
  simp only [Bool.and_eq_true, decide_eq_true_eq] at hw
  obtain ⟨⟨⟨⟨⟨⟨⟨-, hcls⟩, htyp⟩, -⟩, hunit⟩, harg⟩, hv⟩, hv2⟩ := hw
  have hp := planeNo_lt p
  refine ⟨_, rfl, ?_⟩
  unfold record
  rw [stage_of_room hd hl]
  refine ⟨⟨_, stageQ_setStageQ _ _ _, Nat.mod_eq_of_lt hcls, Nat.mod_eq_of_lt htyp, Nat.mod_eq_of_lt hunit, Nat.mod_eq_of_lt harg, Nat.mod_eq_of_lt hv,
    Nat.mod_eq_of_lt hv2, ?_⟩, setStageQ_regs _ _ _, fun q hq => stageQ_setStageQ_ne _ hq⟩
  show (_ / 4 * 4 + planeNo p) % 4 = planeNo p
  omega

theorem recordProduce_full (hl : 16 ≤ (stageQ s p).length) :
    Runs (.recordProduce p e) s (fun t => stageQ t p = stageQ s p ∧ stageDrop t p = stageDrop s p + 1
      ∧ fld t (Reg.REC_ARB_DROP (planeNo p)) wordF = min (fld s (Reg.REC_ARB_DROP (planeNo p)) wordF + 1) 0xFFFFFFFF) := by
  refine ⟨_, rfl, ?_⟩
  unfold record
  rw [stage_of_full s p _ hl]
  exact ⟨stageQ_dropRecord s p, stageDrop_dropRecord s p, fld_dropRecord⟩

theorem lossRecord_results (hd : 0 < stageDrop s p) (hl : (stageQ s p).length < 16) :
    Runs (.lossRecord p) s (fun t => stageDrop t p = 0 ∧ flag t Reg.REC_EVENT F.REC_EVENT_LOSS = true
      ∧ ∃ x, stageQ t p = stageQ s p ++ [x] ∧ x.cls = 1 ∧ x.typ = 2 ∧ x.value = stageDrop s p) := by
  refine ⟨_, rfl, ?_⟩
  unfold placeLoss
  rw [if_pos (by simp only [Bool.and_eq_true, decide_eq_true_eq]; exact ⟨hd, hl⟩)]
  extract_lets x v
  refine ⟨?_, flag_raise _ _ _ (by decide), x, ?_, rfl, rfl, rfl⟩
  · rw [stageDrop_of_recd (raise_recd _ _ _), stageDrop_setStageDrop]
  · rw [stageQ_of_recd (raise_recd _ _ _), stageQ_setStageDrop]
    exact stageQ_setStageQ _ _ _

/-! ## The arbiter -/

theorem ringResume_nothing (h : s.recd.stopLoss = 0) : ringResume s = s := if_neg fun hc => absurd hc.1 (by rw [h]; decide)

/-- An entry with room in the ring takes the next number and its slot (R830). -/
theorem grantEntry_room (h : s.recd.stopLoss = 0) (hr : ringRoom s e = true) : grantEntry s e = ringWrite s e := by
  unfold grantEntry
  rw [ringResume_nothing h]
  exact if_pos hr

theorem slot_ringWrite : tabGet {} (ringWrite s e).recd.ring (s.recd.head % 16384) = { e with seq := s.recd.head } :=
  tabGet_tabSet_same _ _ _ _

theorem takeMark_early (h : markDue s = false) : takeMark s = s := if_neg (by rw [h]; decide)

theorem arbiterGrant_results {es : List Entry} (hon : fwOn s = true) (hm : markDue s = false) (hmarks : s.recd.marks = []) (hstop : s.recd.stopLoss = 0)
    (hq : nextQueue s = some q) (hs : stageQ s (planeOfNo q) = e :: es) (hd : stageDrop s (planeOfNo q) = 0) (hr : ringRoom s e = true) :
    Runs .arbiterGrant s (fun t => t.recd.head = s.recd.head + 1 ∧ t.recd.last = q ∧ stageQ t (planeOfNo q) = es
      ∧ tabGet {} t.recd.ring (s.recd.head % 16384) = { e with seq := s.recd.head }) := by
  refine ⟨_, rfl, ?_⟩
  unfold grantCycle
  rw [if_pos (show arbiterRuns s = true from hon), takeMark_early hm]
  dsimp only
  rw [hmarks]
  dsimp only
  rw [hq]
  dsimp only
  rw [hs]
  dsimp only
  generalize planeOfNo q = p at hs hd ⊢
  generalize hw : ({ setStageQ s p es with recd := { (setStageQ s p es).recd with last := q } } : State) = w
  have hform : stageQ w p = es ∧ w.recd.head = s.recd.head ∧ w.recd.last = q ∧ w.recd.stopLoss = s.recd.stopLoss ∧ stageDrop w p = stageDrop s p ∧ ringRoom w e = ringRoom s e := by
    rw [← hw]
    cases p <;> exact ⟨rfl, rfl, rfl, rfl, rfl, rfl⟩
  obtain ⟨hwq, hwh, hwl, hws, hwd, hwr⟩ := hform
  rw [grantEntry_room (hws.trans hstop) (hwr.trans hr)]
  have hdrop : stageDrop (ringWrite w e) p = 0 := by
    refine Eq.trans ?_ (hwd.trans hd)
    cases p <;> rfl
  rw [placeLoss_of_no_drop _ _ hdrop]
  refine ⟨congrArg (· + 1) hwh, hwl, ?_, ?_⟩
  · refine Eq.trans ?_ hwq
    cases p <;> rfl
  · rw [← hwh]
    exact slot_ringWrite

/-! ## Postmarks and puts -/

theorem now_reach (hr : s.tb.running = true) (n : Nat) : now (reach s n) = max (now s) n := by
  unfold reach now
  rw [hr, Bool.true_and]
  split
  · next h => exact (Nat.max_eq_right (Nat.le_of_lt (of_decide_eq_true h))).symm
  · next h => exact (Nat.max_eq_left (Nat.not_lt.1 fun hc => h (decide_eq_true hc))).symm

/-- A Postmark of a cause, before its grant. -/
def markOf (cause : Nat) : Entry := { cls := 1, typ := 1, flags := 3, unit := cause }

/-- A periodic Postmark that is due goes into the ring ahead of the queues (R831). -/
theorem grantCycle_mark (hon : fwOn u = true) (hdue : markDue u = true) (hm : u.recd.marks = []) (hstop : u.recd.stopLoss = 0) (hmode : stopMode u = false) :
    ∃ w : State, grantCycle u = ringWrite w (markNow w (markOf 1)) ∧ w.recd.head = u.recd.head ∧ w.recd.lastMs = now u / 1000000 ∧ w.tb = u.tb
      ∧ w.dom = u.dom ∧ w.bt = u.bt := by
  have hmark : takeMark u = dueMark { lifeSeconds u with recd := { u.recd with lastMs := now u / 1000000 } } 1 := if_pos hdue
  have hmarks : (takeMark u).recd.marks = [markOf 1] := by
    rw [hmark]
    show u.recd.marks ++ [markOf 1] = _
    rw [hm, List.nil_append]
  generalize hw : ({ takeMark u with recd := { (takeMark u).recd with marks := [] } } : State) = w
  have hnow : markNow (takeMark u) (markOf 1) = markNow w (markOf 1) := by rw [← hw]; rfl
  have hhead : w.recd.head = u.recd.head ∧ w.recd.lastMs = now u / 1000000 ∧ w.tb = u.tb ∧ w.dom = u.dom ∧ w.bt = u.bt ∧ w.recd.stopLoss = u.recd.stopLoss
      ∧ w.regs = u.regs := by
    rw [← hw, hmark]
    exact ⟨rfl, rfl, rfl, rfl, rfl, rfl, rfl⟩
  obtain ⟨h1, h2, h3, h4, h5, h6, h7⟩ := hhead
  have hroom : ringRoom w (markNow w (markOf 1)) = true := by
    unfold ringRoom stopMode
    rw [flag_congr (rd_of_regs h7 _)]
    unfold stopMode at hmode
    rw [hmode]
    rfl
  refine ⟨w, ?_, h1, h2, h3, h4, h5⟩
  unfold grantCycle
  rw [if_pos (show arbiterRuns u = true from hon)]
  dsimp only
  rw [hmarks]
  dsimp only
  rw [hw, hnow, grantEntry_room (h6.trans hstop) hroom]

theorem postmark_results (hon : fwOn s = true) (hr : s.tb.running = true) (hmarks : s.recd.marks = []) (hstop : s.recd.stopLoss = 0) (hmode : stopMode s = false) :
    Runs .postmark s (fun t => t.recd.head = s.recd.head + 1 ∧ now t = max (now s) ((s.recd.lastMs + 1) * 1000000)
      ∧ t.recd.lastMs = max (now s) ((s.recd.lastMs + 1) * 1000000) / 1000000
      ∧ ∃ e : Entry, tabGet {} t.recd.ring (s.recd.head % 16384) = e ∧ e.seq = s.recd.head ∧ e.cls = 1 ∧ e.typ = 1 ∧ e.flags = 3 ∧ e.unit = 1
          ∧ e.value = max (now s) ((s.recd.lastMs + 1) * 1000000) ∧ e.value2 = s.dom.mepoch + s.bt.last % 2 ^ 32 * 2 ^ 32) := by
  refine ⟨_, rfl, ?_⟩
  dsimp only
  have hu : Evolves { tb := true } s (reach s ((s.recd.lastMs + 1) * 1000000)) := reach_evolves
  have hnow := now_reach hr ((s.recd.lastMs + 1) * 1000000)
  have hT : s.recd.lastMs < max (now s) ((s.recd.lastMs + 1) * 1000000) / 1000000 :=
    (Nat.le_div_iff_mul_le (by decide)).2 (Nat.le_max_right _ _)
  generalize max (now s) ((s.recd.lastMs + 1) * 1000000) = T at hnow hT ⊢
  generalize reach s ((s.recd.lastMs + 1) * 1000000) = u at hu hnow ⊢
  have hrec : u.recd = s.recd := hu.recd_eq rfl
  have hdue : markDue u = true := decide_eq_true (by rw [hrec, hnow]; exact hT)
  obtain ⟨w, hw, hhead, hms, htb, hdom, hbt⟩ := grantCycle_mark (by unfold fwOn; rw [hu.clk_eq rfl]; exact hon) hdue (by rw [hrec, hmarks])
    (by rw [hrec, hstop]) (by unfold stopMode; rw [flag_congr (rd_of_regs (hu.regs_eq rfl) _)]; exact hmode)
  have hwT : now w = T := (congrArg TbSt.c htb).trans hnow
  rw [hw]
  have hp : Evolves { sbm := true } (ringWrite w (markNow w (markOf 1))) (pmRefresh (ringWrite w (markNow w (markOf 1)))) := pmRefresh_evolves
  have hprec := hp.recd_eq rfl
  have hptb := hp.tb_eq rfl
  generalize pmRefresh (ringWrite w (markNow w (markOf 1))) = t at hprec hptb ⊢
  rw [hprec, ← hrec, ← hhead]
  refine ⟨rfl, (congrArg TbSt.c hptb).trans hwT, hms.trans (by rw [hnow]), _, slot_ringWrite, rfl, rfl, rfl, rfl, rfl, hwT, ?_⟩
  show w.dom.mepoch + w.bt.last % 2 ^ 32 * 2 ^ 32 = _
  rw [hdom, hbt, hu.dom_eq rfl, hu.bt_eq rfl]

theorem recPostmarkCmd_results (who : Initiator) (val : Word) (h : admits s who Reg.REC_CMD val.toNat = true) :
    Runs (.recPostmarkCmd who val) s (fun t => (val.toNat % 2 = 1 → ∃ e : Entry, t.recd.marks = s.recd.marks ++ [e] ∧ e.cls = 1 ∧ e.typ = 1 ∧ e.unit = 5)
      ∧ (val.toNat % 2 = 0 → t.recd = s.recd)) := by
  refine ⟨_, congrArg Outcome.next (gated_of_admits _ _ _ _ _ h), ?_⟩
  dsimp only
  by_cases hb : bitOf val.toNat 0 = true
  · rw [if_pos hb]
    refine ⟨fun _ => ⟨_, rfl, rfl, rfl, rfl⟩, fun h0 => absurd hb ?_⟩
    unfold bitOf
    simp [h0]
  · rw [if_neg hb]
    refine ⟨fun h1 => absurd ?_ hb, fun _ => rfl⟩
    unfold bitOf
    simp [h1]

theorem recPutGo_results (who : Initiator) (m : Fin 10) (val : Word) (ha : admits s who (Reg.REC_PUT_GO m.val) val.toNat = true) (hv : val.toNat % 2 = 1) :
    Runs (.recPutGo who m val) s (fun t =>
      (putWord s m.val 0 % 256 < 0x80 ∨ putWord s m.val 0 % 256 = 0xFF → flag t Reg.REC_EVENT F.REC_EVENT_PUT_REFUSED = true ∧ t.recd = s.recd)
      ∧ (0x80 ≤ putWord s m.val 0 % 256 → putWord s m.val 0 % 256 ≠ 0xFF → stageDrop s (planeOfTag (planeTag s who)) = 0 →
          (stageQ s (planeOfTag (planeTag s who))).length < 16 → ∃ e : Entry, stageQ t (planeOfTag (planeTag s who)) = stageQ s (planeOfTag (planeTag s who)) ++ [e]
          ∧ e.cls = putWord s m.val 0 % 256
          ∧ e.typ = putWord s m.val 0 / 256 % 256 ∧ e.unit = putWord s m.val 0 / 65536 ∧ e.arg = putWord s m.val 4 % 65536
          ∧ e.value = putWord s m.val 8 + putWord s m.val 0xC * 2 ^ 32
          ∧ e.value2 = putWord s m.val 0x10 + putWord s m.val 0x14 * 2 ^ 32 ∧ e.flags % 4 = planeNo (planeOfTag (planeTag s who))
          ∧ e.flags / 4 % 8 = putWord s m.val 4 / 65536 % 8)
      ∧ (0x80 ≤ putWord s m.val 0 % 256 → putWord s m.val 0 % 256 ≠ 0xFF → 16 ≤ (stageQ s (planeOfTag (planeTag s who))).length →
          stageQ t (planeOfTag (planeTag s who)) = stageQ s (planeOfTag (planeTag s who))
          ∧ stageDrop t (planeOfTag (planeTag s who)) = stageDrop s (planeOfTag (planeTag s who)) + 1)) := by
  have hb : bitOf val.toNat 0 = true := by unfold bitOf; simp [hv]
  refine ⟨_, congrArg Outcome.next (gated_of_admits _ _ _ _ _ ha), ?_⟩
  dsimp only
  rw [if_pos hb]
  generalize hu : ({ s with resp := .none } : State) = u
  have hrecd : u.recd = s.recd := by rw [← hu]
  have htag : planeTag u who = planeTag s who := by rw [← hu]; cases who <;> rfl
  have hput (m k : Nat) : putWord u m k = putWord s m k := by unfold putWord; rw [hrecd]
  unfold recPut
  extract_lets hd a
  have hhd : hd = putWord s m.val 0 := hput _ _
  have haa : a = putWord s m.val 4 := hput _ _
  clear_value hd a
  subst hhd haa
  simp only [hput, htag]
  generalize putWord s m.val 0 = hd, putWord s m.val 4 = a
  generalize planeOfTag (planeTag s who) = p
  have hp := planeNo_lt p
  by_cases hc : hd % 256 < 0x80 ∨ hd % 256 = 0xFF
  · rw [if_pos hc]
    exact ⟨fun _ => ⟨flag_raise _ _ _ (by decide), (raise_recd _ _ _).trans hrecd⟩, fun h1 h2 => by omega, fun h1 h2 => by omega⟩
  · rw [if_neg hc]
    refine ⟨fun h => absurd h hc, fun _ _ h0 hl => ?_, fun _ _ hl => ?_⟩
    · rw [stage_of_room ((stageDrop_of_recd hrecd p).trans h0) (by rwa [stageQ_of_recd hrecd p])]
      refine ⟨_, (stageQ_setStageQ _ _ _).trans (by rw [stageQ_of_recd hrecd p]), rfl, rfl, rfl, rfl, rfl, rfl, ?_, ?_⟩
      · show (_ / 4 * 4 + planeNo p) % 4 = planeNo p
        omega
      · show (a / 65536 % 8 * 4 % 32 / 4 * 4 + planeNo p) / 4 % 8 = a / 65536 % 8
        omega
    · rw [stage_of_full u p _ (by rwa [stageQ_of_recd hrecd p])]
      exact ⟨(stageQ_dropRecord u p).trans (stageQ_of_recd hrecd p), (stageDrop_dropRecord u p).trans (congrArg (· + 1) (stageDrop_of_recd hrecd p))⟩

/-! ## The tail -/

theorem reg_tail (hi : Bool) : ∃ r, regFind (if hi then Reg.REC_TAIL_HI else Reg.REC_TAIL_LO) = some r ∧ r.access = .rw ∧ r.mask = 0xFFFFFFFF := by
  have : (regFind (if hi then Reg.REC_TAIL_HI else Reg.REC_TAIL_LO)).map (fun r => (r.access, r.mask)) = some (.rw, 0xFFFFFFFF) := by
    cases hi <;> decide +kernel
  obtain ⟨r, hr, he⟩ := Option.map_eq_some_iff.1 this
  exact ⟨r, hr, congrArg Prod.fst he, congrArg Prod.snd he⟩

theorem localWord_tail (hi : Bool) : localWord s (if hi then Reg.REC_TAIL_HI else Reg.REC_TAIL_LO) = none := by
  unfold localWord
  cases hi <;> cases s.bt.active1 <;> rfl

/-- The halves of REC_TAIL are admitted to the same writers, whatever the value. -/
theorem gate_tail {who : Initiator} {v v' : Nat} (hreset : wholeReset t = wholeReset s) (htag : planeTag t who = planeTag s who) (himg : t.img = s.img)
    (hstate : t.top.state = s.top.state) (howner : isOwner t who = isOwner s who) (h : gate s who Reg.REC_TAIL_LO v = .pass) :
    gate t who Reg.REC_TAIL_HI v' = .pass := by
  obtain ⟨rl, hrl, hal, -⟩ := reg_tail false
  obtain ⟨rh, hrh, hah, -⟩ := reg_tail true
  have hll : localWord s Reg.REC_TAIL_LO = none := localWord_tail false
  have hlh : localWord t Reg.REC_TAIL_HI = none := localWord_tail true
  have hwin : windowAdmits t who Reg.REC_TAIL_HI rh = windowAdmits s who Reg.REC_TAIL_LO rl := by
    unfold windowAdmits
    rw [hah, hal, hll, hlh, htag, himg, hstate]
    rfl
  have hgate (s : State) (b : Bool) (r : RegFamily) (hr : regFind (if b then Reg.REC_TAIL_HI else Reg.REC_TAIL_LO) = some r) (ha : r.access = .rw) (v : Nat) :
      gate s who (if b then Reg.REC_TAIL_HI else Reg.REC_TAIL_LO) v
        = if wholeReset s then .nothing else if !windowAdmits s who (if b then Reg.REC_TAIL_HI else Reg.REC_TAIL_LO) r then .refuse
          else if !isOwner s who then .refuse else .pass := by
    have hself : selfCore (if b then Reg.REC_TAIL_HI else Reg.REC_TAIL_LO) = none := by cases b <;> rfl
    have hput : putSet (if b then Reg.REC_TAIL_HI else Reg.REC_TAIL_LO) = none := by cases b <;> decide +kernel
    have howner : ownerReg (if b then Reg.REC_TAIL_HI else Reg.REC_TAIL_LO) = true := by cases b <;> decide +kernel
    have hcommit : commitReg (if b then Reg.REC_TAIL_HI else Reg.REC_TAIL_LO) = false := by cases b <;> decide +kernel
    have hnamed : namedWriter s who (if b then Reg.REC_TAIL_HI else Reg.REC_TAIL_LO) v = true := by
      unfold namedWriter
      cases b <;> rfl
    have hsel : ¬ ((if b then Reg.REC_TAIL_HI else Reg.REC_TAIL_LO) = Reg.TOP_ACTIVE_SEL ∨ (if b then Reg.REC_TAIL_HI else Reg.REC_TAIL_LO) = Reg.REC_WIN_SEL) := by
      cases b <;> decide
    have hrst : (if b then Reg.REC_TAIL_HI else Reg.REC_TAIL_LO) ≠ Reg.TOP_RST_CTL := by cases b <;> decide
    unfold gate
    rw [if_neg hsel, hr, hself, hput]
    dsimp only
    rw [howner, hcommit, hnamed, ha]
    simp only [hrst, ne_eq, not_false_eq_true, and_true, reduceCtorEq, Bool.false_eq_true, or_self, false_and, if_false, true_and, Bool.not_true, or_false]
  have hl := hgate s false rl hrl hal v
  have hh := hgate t true rh hrh hah v'
  simp only [Bool.false_eq_true, if_false, if_true] at hl hh
  rw [hh, hwin, hreset, howner, ← hl]
  exact h

theorem admits_tail {who : Initiator} {v v' : Nat} (f : ClassSt → ClassSt) (h : admits s who Reg.REC_TAIL_LO v = true) :
    admits (setClass { s with resp := .none } who f) who Reg.REC_TAIL_HI v' = true := by
  have hpass (h : (gate { s with resp := .none } who Reg.REC_TAIL_LO v == .pass) = true) :
      (gate { setClass { s with resp := .none } who f with resp := .none } who Reg.REC_TAIL_HI v' == .pass) = true := by
    rw [beq_iff_eq] at h ⊢
    exact gate_tail (s := { s with resp := .none }) rfl (by cases who <;> rfl) rfl rfl rfl h
  unfold admits at h ⊢
  simp only [Bool.and_eq_true] at h ⊢
  obtain ⟨⟨h1, h2⟩, h3⟩ := h
  refine ⟨⟨h1, h2⟩, ?_⟩
  split at h3
  · cases h3
  · exact hpass h3

theorem recTailWrite_results (who : Initiator) (val : BitVec 64) (h : admits s who Reg.REC_TAIL_LO (val.toNat % 2 ^ 32) = true) :
    Runs (.recTailWrite who val) s (fun t => t.recd.tail = min s.recd.head (max val.toNat (s.recd.head - 16384)) ∧ t.recd.head = s.recd.head) := by
  obtain ⟨rl, hrl, hal, hml⟩ := reg_tail false
  obtain ⟨rh, hrh, hah, hmh⟩ := reg_tail true
  have hval : val.toNat < 2 ^ 64 := val.isLt
  refine ⟨_, rfl, ?_⟩
  have hlow : regWrite s who Reg.REC_TAIL_LO (val.toNat % 2 ^ 32) = setClass { s with resp := .none } who (fun x =>
      { x with pendLow := tabSet none x.pendLow Reg.REC_TAIL_LO (some (BitVec.ofNat 32 (val.toNat % 2 ^ 32))) }) := by
    rw [regWrite_of_admits {} h, applyWrite_of_admits {} s _ who _ _ rl h (by decide) (by decide) hrl, hal, hml,
      show (0xFFFFFFFF : Nat) = 2 ^ 32 - 1 from rfl, Nat.and_two_pow_sub_one_eq_mod, Nat.mod_mod]
    dsimp only
    unfold rwWrite wideWrite
    rw [if_pos (by decide), if_pos rfl]
  rw [hlow]
  generalize hf : (fun (x : ClassSt) => { x with pendLow := tabSet none x.pendLow Reg.REC_TAIL_LO (some (BitVec.ofNat 32 (val.toNat % 2 ^ 32))) }) = f
  have hadm := admits_tail (v' := val.toNat / 2 ^ 32) f h
  generalize hu : setClass { s with resp := .none } who f = u at hadm ⊢
  have hpend : tabGet none (classOf u who).pendLow Reg.REC_TAIL_LO = some (BitVec.ofNat 32 (val.toNat % 2 ^ 32)) := by
    rw [← hu, classOf_setClass, ← hf]
    dsimp only
    exact tabGet_tabSet_same (none : Option Word) _ _ _
  have hrec : u.recd = s.recd := by rw [← hu]; rfl
  rw [regWrite_of_admits {} hadm, applyWrite_of_admits {} u _ who _ _ rh hadm (by decide) (by decide) hrh, hah, hmh,
    show (0xFFFFFFFF : Nat) = 2 ^ 32 - 1 from rfl, Nat.and_two_pow_sub_one_eq_mod]
  dsimp only
  unfold rwWrite wideWrite
  rw [if_neg (by decide), if_pos (by decide), if_neg (by decide)]
  dsimp only
  rw [if_pos rfl]
  have hl : ((tabGet none (classOf { u with resp := .none } who).pendLow (Reg.REC_TAIL_HI - 4)).getD
      (readWord { u with resp := .none } who (Reg.REC_TAIL_HI - 4))).toNat = val.toNat % 2 ^ 32 := by
    show ((tabGet none (classOf u who).pendLow Reg.REC_TAIL_LO).getD _).toNat = _
    rw [hpend, Option.getD_some, BitVec.toNat_ofNat, Nat.mod_mod]
  rw [hl, show val.toNat % 2 ^ 32 + val.toNat / 2 ^ 32 % 2 ^ 32 * 2 ^ 32 = val.toNat from by omega]
  show min u.recd.head (max val.toNat (u.recd.head - 16384)) = _ ∧ u.recd.head = _
  rw [hrec]
  exact ⟨rfl, rfl⟩

/-! ## The spill -/

/-- An entry of the ring goes into its slot of the host window. -/
def spillPut (s : State) (i : Nat) : State :=
  { s with recd := { s.recd with hostWin := tabSet {} s.recd.hostWin (i % spillSlots s) (tabGet {} s.recd.ring (i % ringSize)) } }

theorem spillSkip_nothing (h : s.recd.head ≤ s.recd.spillNext + 16384) : spillSkip s = s := if_neg (by dsimp only [ringSize]; omega)

/-- An abandoned write passes over its entries and is counted (R841). -/
theorem spillAbandon_results (n : Nat) : (spillAbandon s n).recd.spillNext = s.recd.spillNext + min n (s.recd.head - s.recd.spillNext)
    ∧ (spillAbandon s n).recd.hostWin = s.recd.hostWin
    ∧ fld (spillAbandon s n) Reg.REC_SPILL_CNT F.REC_SPILL_CNT_ABANDONED
      = min (fld s Reg.REC_SPILL_CNT F.REC_SPILL_CNT_ABANDONED + min n (s.recd.head - s.recd.spillNext)) 65535
    ∧ (0 < min n (s.recd.head - s.recd.spillNext) → flag (spillAbandon s n) Reg.REC_EVENT F.REC_EVENT_SPILL_ABANDON = true) := by
  have hlt : fld s Reg.REC_SPILL_CNT F.REC_SPILL_CNT_ABANDONED < 2 ^ 16 := Nat.mod_lt _ (by decide)
  unfold spillAbandon
  extract_lets k _ v
  by_cases hk : k = 0
  · rw [if_pos hk]
    refine ⟨rfl, rfl, ?_, fun h => absurd h (by show ¬ 0 < k; omega)⟩
    show fld s _ _ = min (_ + k) _
    omega
  · rw [if_neg hk]
    refine ⟨rfl, rfl, ?_, fun _ => flag_raise _ _ _ (by decide)⟩
    have hc : fld (raise (bumpBy v Reg.REC_SPILL_CNT F.REC_SPILL_CNT_ABANDONED k) Reg.REC_EVENT F.REC_EVENT_SPILL_ABANDON) Reg.REC_SPILL_CNT F.REC_SPILL_CNT_ABANDONED
        = min (fld s Reg.REC_SPILL_CNT F.REC_SPILL_CNT_ABANDONED + k) 65535 % 2 ^ 16 := by
      rw [fld_congr (show rd (raise _ _ _) _ = _ from rd_setF_ne _ _ _ (by decide)), bumpBy, fld_setF_same _ _ _ _ (by decide)]
      rfl
    rw [hc]
    exact Nat.mod_eq_of_lt (by omega)

/-- The entries that a write takes reach their slots, each its own where the window holds them all (R840). -/
theorem spill_copies {a k i : Nat} (hk : k ≤ spillSlots s) (hi : i < k) :
    tabGet {} (forEach ((List.range k).map (fun i => a + i)) s spillPut).recd.hostWin ((a + i) % spillSlots s) = tabGet {} s.recd.ring ((a + i) % 16384) := by
  have h := forEach_once_mem (f := spillPut) (s := s) (l := (List.range k).map (fun i => a + i)) (k := a + i)
    (I := fun t => t.recd.ring = s.recd.ring ∧ spillSlots t = spillSlots s)
    (Q := fun t => spillSlots t = spillSlots s ∧ tabGet {} t.recd.hostWin ((a + i) % spillSlots s) = tabGet {} s.recd.ring ((a + i) % 16384))
    ((List.nodup_map_iff (fun _ _ h => Nat.add_left_cancel h)).2 List.nodup_range) (List.mem_map.2 ⟨i, List.mem_range.2 hi, rfl⟩) (fun t _ _ _ h => h)
    (fun t h => ⟨h.2, ?_⟩) (fun t x hx hne h => ⟨h.1, ?_⟩) ⟨rfl, rfl⟩
  · exact h.2
  · unfold spillPut
    rw [h.2, h.1]
    exact tabGet_tabSet_same _ _ _ _
  · obtain ⟨j, hj, rfl⟩ := List.mem_map.1 hx
    have hj := List.mem_range.1 hj
    unfold spillPut
    rw [h.1]
    refine (tabGet_tabSet_ne _ _ _ fun he => hne ?_).trans h.2
    have hij : j ≡ i [MOD spillSlots s] := Nat.ModEq.add_left_cancel' a he
    rw [hij.eq_of_lt_of_lt (by omega) (by omega)]

theorem spillWrite_results (n : Nat) (abandoned : Bool) (hon : spillOn s = true) (h0 : 0 < spillSlots s) (hh : s.recd.head ≤ s.recd.spillNext + 16384) :
    Runs (.spillWrite n true abandoned none) s (fun t => t.recd.spillNext = s.recd.spillNext + min n (s.recd.head - s.recd.spillNext)
      ∧ (abandoned = false → min n (s.recd.head - s.recd.spillNext) ≤ spillSlots s → ∀ i, i < min n (s.recd.head - s.recd.spillNext) →
          tabGet {} t.recd.hostWin ((s.recd.spillNext + i) % spillSlots s) = tabGet {} s.recd.ring ((s.recd.spillNext + i) % 16384))
      ∧ (abandoned = true → t.recd.hostWin = s.recd.hostWin
          ∧ fld t Reg.REC_SPILL_CNT F.REC_SPILL_CNT_ABANDONED
            = min (fld s Reg.REC_SPILL_CNT F.REC_SPILL_CNT_ABANDONED + min n (s.recd.head - s.recd.spillNext)) 65535)) := by
  obtain ⟨hnext, hwin, hcnt, -⟩ := spillAbandon_results (s := s) n
  refine ⟨_, congrArg Outcome.next (if_pos (by rw [hon, decide_eq_true h0]; rfl)), ?_⟩
  dsimp only
  rw [spillSkip_nothing hh]
  cases abandoned with
  | true => exact ⟨hnext, nofun, fun _ => ⟨hwin, hcnt⟩⟩
  | false =>
    rw [if_neg Bool.false_ne_true]
    generalize min n (s.recd.head - s.recd.spillNext) = k
    generalize ha : s.recd.spillNext = a
    refine ⟨?_, fun _ hk i hi => ?_, nofun⟩
    · exact (Shows.forEach (f := spillPut) (g := fun t => t.recd.spillNext) fun _ _ => rfl).eq
    · exact spill_copies (s := { s with recd := { s.recd with spillNext := a + k } }) hk hi

theorem dmaWriteAbandon_results (n : Nat) (hon : spillOn s = true) :
    Runs (.dmaWriteAbandon none n) s (fun t => t.recd.spillNext = s.recd.spillNext + min n (s.recd.head - s.recd.spillNext) ∧ t.recd.hostWin = s.recd.hostWin
      ∧ (0 < min n (s.recd.head - s.recd.spillNext) → flag t Reg.REC_EVENT F.REC_EVENT_SPILL_ABANDON = true)) := by
  obtain ⟨hnext, hwin, -, hev⟩ := spillAbandon_results (s := s) n
  exact ⟨_, congrArg Outcome.next (if_pos hon), hnext, hwin, hev⟩

/-! ## Crossings and sinks -/

/-- A parity error has been seen `n` times (R808). -/
def ParityCounted (s : State) (n : Nat) (t : State) : Prop :=
  flag t Reg.TOP_INTEG_EVENT F.TOP_INTEG_EVENT_PARITY = true
    ∧ fld t Reg.TOP_INTEG_CNT F.TOP_INTEG_CNT_PARITY = min (fld s Reg.TOP_INTEG_CNT F.TOP_INTEG_CNT_PARITY + n) 65535

theorem ParityCounted.of_rdBut {n : Nat} {F : List (Nat × Nat × Nat)} (h : ParityCounted s n t) (hb : RdBut F t u)
    (h1 : F.all (misses · Reg.TOP_INTEG_EVENT) = true := by decide +kernel) (h2 : F.all (misses · Reg.TOP_INTEG_CNT) = true := by decide +kernel) :
    ParityCounted s n u :=
  ⟨(hb.flag_eq _ h1).trans h.1, (hb.fld_eq _ h2).trans h.2⟩

/-- The report of a parity error on a crossing. -/
def parityReport (s : State) (unit n : Nat) : State :=
  boundaryFail (bumpBy (raise s Reg.TOP_INTEG_EVENT F.TOP_INTEG_EVENT_PARITY) Reg.TOP_INTEG_CNT F.TOP_INTEG_CNT_PARITY n) 4 unit 0

theorem parityReport_counted (unit n : Nat) : ParityCounted s n (parityReport s unit n) := by
  refine .of_rdBut (t := bumpBy (raise s Reg.TOP_INTEG_EVENT F.TOP_INTEG_EVENT_PARITY) Reg.TOP_INTEG_CNT F.TOP_INTEG_CNT_PARITY n) ⟨?_, ?_⟩ boundaryFail_rdBut
  · exact (flag_congr (rd_setF_ne _ _ _ (by decide)) _).trans (flag_raise _ _ _ (by decide))
  · have hlt := Nat.lt_of_le_of_lt (Nat.min_le_right (fld s Reg.TOP_INTEG_CNT F.TOP_INTEG_CNT_PARITY + n) (2 ^ 16 - 1)) (show 2 ^ 16 - 1 < 2 ^ 16 by decide)
    rw [bumpBy, fld_setF_same _ _ _ _ (by decide), fld_congr (show rd (raise _ _ _) _ = _ from rd_setF_ne _ _ _ (by decide))]
    exact Nat.mod_eq_of_lt hlt

theorem parityReport_rdBut (unit n : Nat) : RdBut [(Reg.TOP_INTEG_EVENT, 0, 0), (Reg.TOP_INTEG_CNT, 0, 0), (Reg.TOP_INTEG_LAST, 0, 0), (Reg.REC_EVENT, 0, 0),
    (Reg.REC_ARB_DROP 0, 0, 0), (Reg.REC_ARB_DROP 1, 0, 0), (Reg.REC_ARB_DROP 2, 0, 0), (Reg.TOP_DRAIN_CNT 8, 0, 0), (Reg.TOP_DRAIN_STATUS, 0, 0)] s
    (parityReport s unit n) :=
  .trans (.trans (t := raise s Reg.TOP_INTEG_EVENT F.TOP_INTEG_EVENT_PARITY) raise_rdBut0.mono bumpBy_rdBut0.mono) boundaryFail_rdBut.mono

/-- The report is a record of the management plane. -/
theorem stageDrop_parityReport {unit n : Nat} (h : p ≠ .mgmt) : stageDrop (parityReport s unit n) p = stageDrop s p := by
  unfold parityReport boundaryFail
  extract_lets v k last _ w
  have hw : stageDrop w p = stageDrop s p := by cases p <;> rfl
  split
  · exact (stageDrop_stage_ne h).trans hw
  · cases p <;> rfl

theorem dropCount_parityReport {unit n : Nat} (h : p ≠ .mgmt) :
    fld (parityReport s unit n) (Reg.REC_ARB_DROP (planeNo p)) wordF = fld s (Reg.REC_ARB_DROP (planeNo p)) wordF := by
  have hmem : Reg.REC_ARB_DROP (planeNo p) ∉ stageRegs .mgmt := by
    cases p
    · decide
    · decide
    · exact absurd rfl h
  have hne (off : Nat) (ho : off < 0x1000) : off ≠ Reg.REC_ARB_DROP (planeNo p) := by dsimp only [Reg.REC_ARB_DROP]; omega
  unfold parityReport boundaryFail
  extract_lets v k last _ w
  have hw : rd w (Reg.REC_ARB_DROP (planeNo p)) = rd s (Reg.REC_ARB_DROP (planeNo p)) :=
    calc rd w (Reg.REC_ARB_DROP (planeNo p)) = rd v (Reg.REC_ARB_DROP (planeNo p)) := rfl
      _ = rd (bumpBy (raise s Reg.TOP_INTEG_EVENT F.TOP_INTEG_EVENT_PARITY) Reg.TOP_INTEG_CNT F.TOP_INTEG_CNT_PARITY n) (Reg.REC_ARB_DROP (planeNo p)) :=
        rd_wrN_ne _ _ (hne _ (by decide))
      _ = rd (raise s Reg.TOP_INTEG_EVENT F.TOP_INTEG_EVENT_PARITY) (Reg.REC_ARB_DROP (planeNo p)) := rd_setF_ne _ _ _ (hne _ (by decide))
      _ = rd s (Reg.REC_ARB_DROP (planeNo p)) := rd_setF_ne _ _ _ (hne _ (by decide))
  refine fld_congr ?_ wordF
  split
  · exact (rd_record _ _ _ _ _ _ _ _ hmem).trans hw
  · exact hw

/-- A handshake that fails three times in a row loses its item. -/
theorem crossing_of_handshake {item : CrossLost} (unit : Byte) (more : Fin 3) (hi : handshake item = true) (s : State) :
    execCrossingParityError unit item more s
      = .next (if more.val = 2 then crossLost (parityReport s unit.toNat (more.val + 1)) item else parityReport s unit.toNat (more.val + 1)) := by
  unfold execCrossingParityError
  extract_lets n v w
  have hn : n = more.val + 1 := if_pos hi
  have hw : w = parityReport s unit.toNat (more.val + 1) := by
    show boundaryFail (bumpBy _ _ _ n) 4 unit.toNat 0 = _
    rw [hn]
    rfl
  clear_value w n
  subst hw hn
  have := more.isLt
  by_cases hm : more.val = 2
  · rw [if_neg (by omega), if_pos hm]
  · rw [if_pos ⟨hi, by omega⟩, if_neg hm]

theorem crossing_timeRead (unit : Byte) (more : Fin 3) : Runs (.crossingParityError unit .timeRead more) s (fun t => ParityCounted s (more.val + 1) t
    ∧ rd t Reg.TOP_COMMIT_STATUS = rd s Reg.TOP_COMMIT_STATUS) := by
  refine ⟨_, crossing_of_handshake unit more rfl s, ?_⟩
  rw [show crossLost (parityReport s unit.toNat (more.val + 1)) .timeRead = parityReport s unit.toNat (more.val + 1) from rfl, ite_self]
  exact ⟨parityReport_counted _ _, (parityReport_rdBut _ _).rd_eq⟩

theorem crossing_commitStaging (unit : Byte) (more : Fin 3) (off : BitVec 22) : Runs (.crossingParityError unit (.commitStaging off) more) s (fun t =>
    ParityCounted s (more.val + 1) t
    ∧ (more.val = 2 → fld t Reg.TOP_COMMIT_STATUS F.TOP_COMMIT_STATUS_RESULT = 6 ∧ rd t Reg.TOP_COMMIT_FAIL_ADDR = BitVec.ofNat 32 off.toNat)
    ∧ (more.val ≠ 2 → rd t Reg.TOP_COMMIT_STATUS = rd s Reg.TOP_COMMIT_STATUS ∧ rd t Reg.TOP_COMMIT_FAIL_ADDR = rd s Reg.TOP_COMMIT_FAIL_ADDR)) := by
  have hc := parityReport_counted (s := s) unit.toNat (more.val + 1)
  have hb := parityReport_rdBut (s := s) unit.toNat (more.val + 1)
  refine ⟨_, crossing_of_handshake unit more rfl s, ?_⟩
  generalize parityReport s unit.toNat (more.val + 1) = v at hc hb ⊢
  by_cases hm : more.val = 2
  · rw [if_pos hm]
    unfold crossLost commitRefuse commitEntry
    dsimp only
    generalize hw : wrN v Reg.TOP_COMMIT_FAIL_ADDR off.toNat = w
    have hvw : RdBut [(Reg.TOP_COMMIT_FAIL_ADDR, 0, 0)] v w := hw ▸ wrN_rdBut0
    have hwx : RdBut [(Reg.TOP_COMMIT_STATUS, 0, 0)] w (commitResult w resRange) := setF_rdBut0
    refine ⟨.of_rdBut (.of_rdBut (.of_rdBut hc hvw) hwx) record_rdBut, fun _ => ⟨?_, ?_⟩, fun h => absurd hm h⟩
    · rw [record_rdBut.fld_eq]
      exact fld_setF_same _ _ _ _ (by decide)
    · rw [record_rdBut.rd_eq, hwx.rd_eq, ← hw]
      exact rd_wrN_same _ _ _
  · rw [if_neg hm]
    exact ⟨hc, fun h => absurd h hm, fun _ => ⟨hb.rd_eq, hb.rd_eq⟩⟩

theorem crossing_hostWrite (unit : Byte) (more : Fin 3) : Runs (.crossingParityError unit .hostWrite more) s (fun t => ParityCounted s 1 t
    ∧ t.top.aerUncorr = s.top.aerUncorr + 1) :=
  ⟨_, rfl, parityReport_counted _ _, congrArg (fun x => x.aerUncorr + 1) (boundaryFail_evolves.top_eq rfl)⟩

theorem crossing_recorder (unit : Byte) (plane : Plane) (more : Fin 3) (hp : plane ≠ .mgmt) : Runs (.crossingParityError unit (.recorder plane) more) s (fun t =>
    ParityCounted s 1 t ∧ stageDrop t plane = stageDrop s plane + 1
      ∧ fld t (Reg.REC_ARB_DROP (planeNo plane)) wordF = min (fld s (Reg.REC_ARB_DROP (planeNo plane)) wordF + 1) (2 ^ 32 - 1)) := by
  have hn := planeNo_lt plane
  have hc := parityReport_counted (s := s) unit.toNat 1
  have hd := stageDrop_parityReport (s := s) (unit := unit.toNat) (n := 1) hp
  have hf := dropCount_parityReport (s := s) (unit := unit.toNat) (n := 1) hp
  refine ⟨dropRecord (parityReport s unit.toNat 1) plane, rfl, ?_⟩
  generalize parityReport s unit.toNat 1 = v at hc hd hf ⊢
  have hkeep (off : Nat) (h : off = Reg.TOP_INTEG_EVENT ∨ off = Reg.TOP_INTEG_CNT) : rd (dropRecord v plane) off = rd v off := by
    refine rd_dropRecord v plane ?_
    rcases h with rfl | rfl <;> cases plane <;> decide
  refine ⟨⟨(flag_congr (hkeep _ (.inl rfl)) _).trans hc.1, (fld_congr (hkeep _ (.inr rfl)) _).trans hc.2⟩, (stageDrop_dropRecord v plane).trans (by rw [hd]), ?_⟩
  rw [fld_dropRecord, hf]
  rfl

theorem drainStatusExpiry_results (rank : Fin 9) (k : Nat) (h : tabGet 0 s.drain rank.val = k + 1) :
    Runs (.drainStatusExpiry rank) s (fun t => tabGet 0 t.drain rank.val = 0 ∧ fld t Reg.TOP_DRAIN_STATUS ⟨rank.val, 1⟩ = 0
      ∧ ∀ r, r < 9 → r ≠ rank.val → fld t Reg.TOP_DRAIN_STATUS ⟨r, 1⟩ = fld s Reg.TOP_DRAIN_STATUS ⟨r, 1⟩) := by
  have hr := rank.isLt
  refine ⟨_, rfl, ?_⟩
  rw [h]
  dsimp only
  refine ⟨?_, fld_setF_same _ _ _ _ (by show rank.val + 1 ≤ 32; omega), fun r h9 hne => ?_⟩
  · rw [setF_drain]
    exact (tabGet_tabErase _ _ _ _).trans (if_pos rfl)
  · rw [fld_setF_apart _ _ _ _ _ (by show rank.val + 1 ≤ 32; omega) (by show r + 1 ≤ rank.val ∨ rank.val + 1 ≤ r; omega)]
    exact fld_congr (rd_of_regs (reach_evolves.regs_eq rfl) _) _

end

/-- Settles O18: the staging queues and the arbiter first, then Postmarks, puts, tail and spill, crossings and sinks. -/
theorem recorderResults : Obligations.RecorderResults :=
  ⟨⟨fun _ _ _ hl hd hw => recordProduce_room hl hd hw, fun _ _ _ hl => recordProduce_full hl,
      fun _ _ _ _ hon hm hmarks hstop hq hs hd hr => arbiterGrant_results hon hm hmarks hstop hq hs hd hr, fun _ _ hd hl => lossRecord_results hd hl⟩,
    fun _ hon hr hmarks hstop hmode => postmark_results hon hr hmarks hstop hmode, fun who val _ h => recPostmarkCmd_results who val h,
    fun who m val _ ha hv => recPutGo_results who m val ha hv, fun who val _ h => recTailWrite_results who val h,
    fun n abandoned _ hon h0 hh => spillWrite_results n abandoned hon h0 hh, fun n _ hon => dmaWriteAbandon_results n hon,
    fun unit plane more off _ => ⟨crossing_timeRead unit more, crossing_commitStaging unit more off, crossing_hostWrite unit more,
      fun hp => crossing_recorder unit plane more hp⟩,
    fun rank k _ h => drainStatusExpiry_results rank k h⟩

end Sys2Proof.Machine
end

section
/-! PROOF. Host commands that control the device (O53). -/

namespace Sys2Proof.Machine
open Host
set_option Elab.async false

/-- A firmware load that no firmware has begun, though a place to wait for is noted with it. -/
def notedLoad : HirCmd := { cid := 0, opcode := 0x11, flags := 0, addr := 0, len := 0, param := [], waits := 1 }

/-- The device in RUN with that command on ring 0, of function 0. -/
def notedLoadState : State := Tests.cm notedLoad (Tests.runs 0)

/-- Firmware takes the command up. -/
theorem takes_notedLoad : takesCmd notedLoadState 0 0#16 0x11 notedLoad = true ∧ notedLoadState.top.porHeld = false := by
  decide +kernel

/-- The loader refuses the load at once, and the command has its completion but stays on the ring: the row begins it with no place to wait for, and
takes the command with the noted place off. -/
theorem notedLoad_stays : (match execFwLoad 0 0#16 notedLoadState with
    | .next t => decide (fld t Reg.FWC_LD_STATUS F.FWC_LD_STATUS_RESULT = 0x70) && !(ringOf t 0).cmds.isEmpty
    | _ => false) = true := by
  decide +kernel

/-- Refutes O53: a FW_LOAD that is refused at once stays on its ring where `waits` of the command that has not begun is not 0. -/
theorem not_hostControlCommandResults : ¬ Obligations.HostControlCommandResults := by
  unfold Obligations.HostControlCommandResults
  rintro ⟨-, -, -, hload, -⟩
  obtain ⟨t, ht, -, hend⟩ := hload 0 0#16 notedLoad notedLoadState takes_notedLoad
  have ht' : execFwLoad 0 0#16 notedLoadState = .next t := ht
  have hs := notedLoad_stays
  rw [ht'] at hs
  obtain ⟨hx, hcmds⟩ := (Bool.and_eq_true _ _).mp hs
  have hx : fld t Reg.FWC_LD_STATUS F.FWC_LD_STATUS_RESULT = 0x70 := of_decide_eq_true hx
  obtain ⟨-, -, hdone⟩ := hend (by decide +kernel) (by decide +kernel) (by decide +kernel)
  obtain ⟨hempty, -⟩ := hdone (by rw [hx]; decide) (by rw [hx]; decide)
  rw [show (ringOf t 0).cmds = [] from hempty] at hcmds
  exact absurd hcmds (by decide)

end Sys2Proof.Machine
end

section
/-! PROOF. Host rings in hardware: doorbells, fetch, completion, aggregation, telemetry, virtual functions and Window 2 (O52). -/

namespace Sys2Proof.Machine
open Host
set_option Elab.async false

section
variable {s t u : State} {who : Initiator} {ring : Fin 64} {r k : Nat}

/-! ## Enable and disable -/

theorem ringOf_ownerSync : ringOf (ownerSync s) r = ringOf s r := ringOf_of_hir (ownerSync_evolves.hir_eq rfl) r

theorem rd_ringCfg_ownerSync : rd (ownerSync s) (Reg.HIR_RING_CFG ring.val) = rd s (Reg.HIR_RING_CFG ring.val) :=
  ownerSync_rdBut.rd_eq (misses_fin (g := Reg.HIR_RING_CFG) (by decide +kernel) ring)

theorem ringEnable_results (val : Word) (ha : admits s who (Reg.HIR_RING_CFG ring.val) (val.toNat ||| 1) = true)
    (hen : flag s (Reg.HIR_RING_CFG ring.val) F.HIR_RING_CFG_EN = false) :
    Runs (.ringEnable who ring val) s (fun t => rd t (Reg.HIR_RING_CFG ring.val) = BitVec.ofNat 32 ((val.toNat ||| 1) &&& 0x3FFF3F03)
      ∧ (ringCfgOk (wrN s (Reg.HIR_RING_CFG ring.val) ((val.toNat ||| 1) &&& 0x3FFF3F03)) ring.val = true → (ringOf t ring.val).state = .running
          ∧ (ringOf t ring.val).sqHead = 0
          ∧ (ringOf t ring.val).sqTail = 0 ∧ (ringOf t ring.val).cqHead = 0 ∧ (ringOf t ring.val).cqTail = 0 ∧ (ringOf t ring.val).phase = true ∧ (ringOf t ring.val).err = 0)
      ∧ (ringCfgOk (wrN s (Reg.HIR_RING_CFG ring.val) ((val.toNat ||| 1) &&& 0x3FFF3F03)) ring.val = false → (ringOf t ring.val).state = .disabled
          ∧ (ringOf t ring.val).err = 1)) := by
  have hbit : bitOf (val.toNat ||| 1) 0 = true := by unfold bitOf; simp
  refine ⟨_, congrArg Outcome.next (gated_of_admits _ _ _ _ _ ha), ?_⟩
  dsimp only
  unfold ringCfgWrite
  extract_lets was v en
  have hwas : was = false := hen
  have hv : rd v (Reg.HIR_RING_CFG ring.val) = BitVec.ofNat 32 ((val.toNat ||| 1) &&& 0x3FFF3F03) := rd_wrN_same _ _ _
  have hok : ringCfgOk (wrN s (Reg.HIR_RING_CFG ring.val) ((val.toNat ||| 1) &&& 0x3FFF3F03)) ring.val = ringCfgOk v ring.val := rfl
  rw [hok]
  clear_value v
  rw [if_pos (show (!was) = true ∧ en = true from ⟨by rw [hwas]; rfl, hbit⟩)]
  by_cases hc : ringCfgOk v ring.val = true
  · rw [if_pos hc]
    refine ⟨rd_ringCfg_ownerSync.trans hv, fun _ => ?_, fun h => absurd (hc.symm.trans h) (by decide)⟩
    rw [ringOf_ownerSync, ringOf_setRing, if_pos rfl]
    exact ⟨rfl, rfl, rfl, rfl, rfl, rfl, rfl⟩
  · rw [if_neg hc]
    refine ⟨hv, fun h => absurd h hc, fun _ => ?_⟩
    rw [ringOf_setRing, if_pos rfl]
    exact ⟨rfl, rfl⟩

/-- A command that is completed leaves its ring non-idle and its state alone. -/
theorem hirFinish_busy {c : HirCmd} {status detail : Nat} {result : List Byte} :
    (ringOf (hirFinish s r c status detail result) r).state = (ringOf s r).state ∧ (ringOf (hirFinish s r c status detail result) r).done ≠ [] := by
  rw [ringOf_hirFinish]
  exact ⟨rfl, by simp⟩

/-- A write that takes EN away ends an idle ring, and lets one with commands left run dry. -/
theorem ringCfgOff_results {w : Nat} (hbit : bitOf w 0 = false) (hen : flag s (Reg.HIR_RING_CFG ring.val) F.HIR_RING_CFG_EN = true) :
    flag (ringCfgWrite s ring.val w) (Reg.HIR_RING_CFG ring.val) F.HIR_RING_CFG_EN = false
      ∧ (ringIdle s ring.val = true → (ringOf (ringCfgWrite s ring.val w) ring.val).state = .disabled)
      ∧ ((ringOf s ring.val).state ≠ .disabled → ringIdle s ring.val = false → (ringOf (ringCfgWrite s ring.val w) ring.val).state = .stopping) := by
  unfold ringCfgWrite
  extract_lets was v en x
  have hen' : en = false := hbit
  have hwas : was = true := hen
  have hcfg : flag v (Reg.HIR_RING_CFG ring.val) F.HIR_RING_CFG_EN = false := by
    rw [flag_eq_bitOf, show rd v (Reg.HIR_RING_CFG ring.val) = BitVec.ofNat 32 (w &&& 0x3FFF3F03) from rd_wrN_same _ _ _]
    unfold bitOf at hbit ⊢
    rw [BitVec.toNat_ofNat, Nat.testBit_mod_two_pow, Nat.testBit_and, hbit]
    rfl
  have hv : ringOf v ring.val = ringOf s ring.val := rfl
  clear_value was v en
  rw [if_neg fun h => by rw [hwas] at h; exact absurd h.1 (by decide), if_pos ⟨hwas, by rw [hen']; rfl⟩]
  have hxr : rd x (Reg.HIR_RING_CFG ring.val) = rd v (Reg.HIR_RING_CFG ring.val) :=
    rd_of_regs (Shows.both (g := State.regs) (.forEach fun _ _ => hirFinish_evolves.regs_eq rfl) .refl).eq _
  have hxs : (ringOf x ring.val).state = (ringOf v ring.val).state :=
    (Shows.both (g := fun t => (ringOf t ring.val).state) (.forEach fun _ _ => hirFinish_busy.1) .refl).eq
  have hidle : ringIdle s ring.val = true ↔ (ringOf s ring.val).cmds = [] ∧ (ringOf s ring.val).done = [] := by
    unfold ringIdle
    rw [Bool.and_eq_true, beq_iff_eq, beq_iff_eq]
  have hxidle (h : ringIdle s ring.val = true) : (ringOf x ring.val).cmds = [] ∧ (ringOf x ring.val).done = [] := by
    have hx : x = v := by
      show (if fwUp v then forEach _ v _ else v) = v
      rw [hv, (hidle.1 h).1, List.filter_nil, forEach_nil, ite_self]
    rw [hx, hv]
    exact hidle.1 h
  have hxbusy (h : ringIdle s ring.val = false) : ¬ ((ringOf x ring.val).cmds = [] ∧ (ringOf x ring.val).done = []) := by
    have hvb : ¬ ((ringOf v ring.val).cmds = [] ∧ (ringOf v ring.val).done = []) := by
      rw [hv]
      exact fun hc => absurd ((hidle.2 hc).symm.trans h) (by decide)
    show ¬ ((ringOf (if fwUp v then forEach _ v _ else v) ring.val).cmds = [] ∧ (ringOf (if fwUp v then forEach _ v _ else v) ring.val).done = [])
    split
    · exact forEach_keeps (Q := fun t => ¬ ((ringOf t ring.val).cmds = [] ∧ (ringOf t ring.val).done = [])) (fun t c _ hc => hirFinish_busy.2 hc.2) hvb
    · exact hvb
  clear_value x
  refine ⟨(flag_congr (rd_ringCfg_ownerSync.trans ((rd_of_regs (show (setRing x ring.val _).regs = x.regs from rfl) _).trans hxr)) _).trans hcfg, fun h => ?_, fun hs h => ?_⟩
  · rw [ringOf_ownerSync, ringOf_setRing, if_pos rfl, if_pos (hxidle h)]
    split
    · assumption
    · rfl
  · rw [ringOf_ownerSync, ringOf_setRing, if_pos rfl, if_neg (by rw [hxs, hv]; exact hs), if_neg (hxbusy h)]

theorem ringDisable_results (ha : admits s who (Reg.HIR_RING_CFG ring.val) ((rd s (Reg.HIR_RING_CFG ring.val)).toNat / 2 * 2) = true)
    (hen : flag s (Reg.HIR_RING_CFG ring.val) F.HIR_RING_CFG_EN = true) :
    Runs (.ringDisable who ring) s (fun t => flag t (Reg.HIR_RING_CFG ring.val) F.HIR_RING_CFG_EN = false
      ∧ (ringIdle s ring.val = true → (ringOf t ring.val).state = .disabled)
      ∧ ((ringOf s ring.val).state ≠ .disabled → ringIdle s ring.val = false → (ringOf t ring.val).state = .stopping)) := by
  generalize hw : (rd s (Reg.HIR_RING_CFG ring.val)).toNat / 2 * 2 = w at ha
  have hbit : bitOf w 0 = false := by unfold bitOf; rw [← hw]; simp
  refine ⟨ringCfgWrite { s with resp := .none } ring.val w, ?_, ringCfgOff_results (s := { s with resp := .none }) hbit hen⟩
  show Outcome.next (gated _ _ _ _ _) = _
  rw [hw, gated_of_admits _ _ _ _ _ ha]

/-! ## Doorbells -/

/-- The initiator's doorbell write reaches the ring. -/
def Rings (s : State) (who : Initiator) (ring : Fin 64) (cq : Bool) (val : Word) : Prop :=
  admits s who (doorbellOff who ring.val cq) val.toNat = true
    ∨ ∃ (k : Nat) (h : k + 1 < 64), who = .host ⟨k + 1, h⟩ ∧ reachable s who = true ∧ hostStuck s who = false ∧ s.top.rst = none ∧ ringOwner s ring.val = k + 1

theorem gated_of_rings {cq : Bool} {val : Word} (h : Rings s who ring cq val) (act : State → State) :
    gated s who (doorbellOff who ring.val cq) val.toNat act = act { s with resp := .none } := by
  rcases h with h | ⟨k, hk, rfl, hreach, hstuck, hrst, howner⟩
  · exact gated_of_admits _ _ _ _ _ h
  · have hr := ring.isLt
    have hoff : doorbellOff (.host ⟨k + 1, hk⟩) ring.val cq = 0x10 * ring.val + 4 * b2n cq := rfl
    have hb : b2n cq ≤ 1 := by cases cq <;> decide
    have hwr : wholeReset { s with resp := .none } = false := by unfold wholeReset; simp [hrst]
    have howner' : ringOwner { s with resp := .none } (doorbellOff (.host ⟨k + 1, hk⟩) ring.val cq / 16) = k + 1 := by
      rw [hoff, show (0x10 * ring.val + 4 * b2n cq) / 16 = ring.val from by omega]
      exact howner
    unfold gated
    rw [hreach, hstuck]
    dsimp only
    rw [hwr, if_neg (by decide), if_neg (by decide), if_neg (by decide), if_pos ⟨by rw [hoff]; omega, by rw [hoff]; omega, howner'⟩]

theorem ringError_results {err off : Nat} : ringOf (ringError s r err off) r = { ringOf s r with state := .error, err := err }
    ∧ flag (ringError s r err off) Reg.HIR_EVENT F.HIR_EVENT_RING_ERR = true := by
  unfold ringError
  extract_lets v w
  have hvw : Evolves { regs := true, drain := true, recd := true } v w := .trans (t := raise v Reg.HIR_EVENT F.HIR_EVENT_RING_ERR) raise_evolves.mono record_evolves
  have hf : flag w Reg.HIR_EVENT F.HIR_EVENT_RING_ERR = true := (record_rdBut.flag_eq _).trans (flag_raise _ _ _ (by decide))
  refine ⟨?_, (ownerSync_rdBut.flag_eq _).trans hf⟩
  rw [ringOf_ownerSync, ringOf_of_hir (hvw.hir_eq rfl)]
  exact (ringOf_setRing _ _ _).trans (if_pos rfl)

theorem sqDoorbell_of_on {v : Nat} (hon : ringOn s r = true) (htel : ringTel s r = false) :
    sqDoorbell s r v = if sqSize s r ≤ v % 4096 then ringError s r 3 (Reg.HIR_DB_SQ r) else setRing s r (fun x => { x with sqTail := v % 4096 }) :=
  if_neg (by rw [hon, htel]; decide)

theorem sqDoorbell_results (val : Word) (h : Rings s who ring false val) (hon : ringOn s ring.val = true) (htel : ringTel s ring.val = false) :
    Runs (.sqDoorbell who ring val) s (fun t =>
      (val.toNat % 4096 < sqSize s ring.val → (ringOf t ring.val).sqTail = val.toNat % 4096 ∧ (ringOf t ring.val).state = (ringOf s ring.val).state)
      ∧ (sqSize s ring.val ≤ val.toNat % 4096 → (ringOf t ring.val).state = .error ∧ (ringOf t ring.val).err = 3
          ∧ (ringOf t ring.val).sqTail = (ringOf s ring.val).sqTail ∧ flag t Reg.HIR_EVENT F.HIR_EVENT_RING_ERR = true)) := by
  refine ⟨_, congrArg Outcome.next (gated_of_rings h _), ?_⟩
  rw [sqDoorbell_of_on (s := { s with resp := .none }) hon htel]
  by_cases hc : sqSize { s with resp := .none } ring.val ≤ val.toNat % 4096
  · rw [if_pos hc]
    obtain ⟨hr, hf⟩ := ringError_results (s := { s with resp := .none }) (r := ring.val) (err := 3) (off := Reg.HIR_DB_SQ ring.val)
    rw [hr]
    exact ⟨fun h => absurd hc (Nat.not_le.2 h), fun _ => ⟨rfl, rfl, rfl, hf⟩⟩
  · rw [if_neg hc]
    dsimp only
    rw [ringOf_setRing, if_pos rfl]
    exact ⟨fun _ => ⟨rfl, rfl⟩, fun h => absurd h hc⟩

/-- A CQ doorbell names a place up to the tail. -/
def CqOk (s : State) (r v : Nat) : Prop :=
  v % 4096 < cqSize s r ∧ (v % 4096 + cqSize s r - (ringOf s r).cqHead) % cqSize s r ≤ ((ringOf s r).cqTail + cqSize s r - (ringOf s r).cqHead) % cqSize s r

theorem cqDoorbell_ok {v : Nat} (hon : ringOn s r = true) (h : CqOk s r v) : cqDoorbell s r v = setRing s r (fun x => { x with cqHead := v % 4096 }) := by
  unfold cqDoorbell
  extract_lets x n
  rw [if_neg (by rw [hon]; decide), if_neg fun hc => hc.elim (Nat.not_le.2 h.1) (Nat.not_lt.2 h.2)]

theorem cqDoorbell_bad {v : Nat} (hon : ringOn s r = true) (h : ¬ CqOk s r v) : cqDoorbell s r v = ringError s r 2 (Reg.HIR_DB_CQ r) := by
  unfold CqOk at h
  rw [not_and_or, Nat.not_lt, Nat.not_le] at h
  unfold cqDoorbell
  extract_lets x n
  rw [if_neg (by rw [hon]; decide), if_pos h]

theorem cqDoorbell_results (val : Word) (h : Rings s who ring true val) (hon : ringOn s ring.val = true) :
    Runs (.cqDoorbell who ring val) s (fun t =>
      (CqOk s ring.val val.toNat → (ringOf t ring.val).cqHead = val.toNat % 4096 ∧ (ringOf t ring.val).state = (ringOf s ring.val).state)
      ∧ (¬ CqOk s ring.val val.toNat → (ringOf t ring.val).state = .error ∧ (ringOf t ring.val).err = 2
          ∧ (ringOf t ring.val).cqHead = (ringOf s ring.val).cqHead ∧ flag t Reg.HIR_EVENT F.HIR_EVENT_RING_ERR = true)) := by
  refine ⟨_, congrArg Outcome.next (gated_of_rings h _), ?_⟩
  by_cases hc : CqOk s ring.val val.toNat
  · rw [cqDoorbell_ok (s := { s with resp := .none }) hon hc]
    dsimp only
    rw [ringOf_setRing, if_pos rfl]
    exact ⟨fun _ => ⟨rfl, rfl⟩, fun hn => absurd hc hn⟩
  · rw [cqDoorbell_bad (s := { s with resp := .none }) hon hc]
    obtain ⟨hr, hf⟩ := ringError_results (s := { s with resp := .none }) (r := ring.val) (err := 2) (off := Reg.HIR_DB_CQ ring.val)
    rw [hr]
    exact ⟨fun h => absurd h hc, fun _ => ⟨rfl, rfl, rfl, hf⟩⟩

/-! ## Fetch -/

theorem commandFetch_results (bad : Bool) :
    Runs (.commandFetch ring bad) s (fun t =>
      ((ringOf s ring.val).state = .running → ringTel s ring.val = false → (ringOf s ring.val).sqHead ≠ (ringOf s ring.val).sqTail →
        occupancy s ring.val < cqSize s ring.val - 1 →
        (ringOf t ring.val).sqHead = ((ringOf s ring.val).sqHead + 1) % sqSize s ring.val
        ∧ (bad = false → (ringOf t ring.val).cmds = (ringOf s ring.val).cmds ++ [readCmd s ring.val (ringOf s ring.val).sqHead]
            ∧ (ringOf t ring.val).done = (ringOf s ring.val).done)
        ∧ (bad = true → ∃ d : HirDone, (ringOf t ring.val).done = (ringOf s ring.val).done ++ [d]
            ∧ d.cid = (readCmd s ring.val (ringOf s ring.val).sqHead).cid ∧ d.status = 9))
      ∧ ((ringOf s ring.val).state ≠ .running ∨ (ringOf s ring.val).sqHead = (ringOf s ring.val).sqTail ∨ cqSize s ring.val - 1 ≤ occupancy s ring.val → t = s)) := by
  show ∃ t, execCommandFetch ring bad s = .next t ∧ _
  unfold execCommandFetch
  extract_lets q x c v
  refine ⟨_, rfl, ?_⟩
  have hv : ringOf v ring.val = { ringOf s ring.val with sqHead := ((ringOf s ring.val).sqHead + 1) % sqSize s ring.val, cmds := (ringOf s ring.val).cmds ++ [c] } :=
    (ringOf_setRing _ _ _).trans (if_pos rfl)
  clear_value v
  refine ⟨fun hrun htel hne hocc => ?_, fun h => if_neg fun hc => ?_⟩
  · rw [if_pos (by simp only [Bool.and_eq_true, bne_iff_ne, beq_iff_eq, decide_eq_true_eq, Bool.not_eq_true']; exact ⟨⟨⟨hrun, htel⟩, hne⟩, hocc⟩)]
    cases bad with
    | false => exact ⟨by rw [if_neg Bool.false_ne_true, hv], fun _ => by rw [if_neg Bool.false_ne_true, hv]; exact ⟨rfl, rfl⟩, nofun⟩
    | true =>
      rw [if_pos rfl, ringOf_hirFinish, hv]
      exact ⟨rfl, nofun, fun _ => ⟨_, rfl, rfl, rfl⟩⟩
  · simp only [Bool.and_eq_true, bne_iff_ne, beq_iff_eq, decide_eq_true_eq] at hc
    obtain ⟨⟨⟨hrun, -⟩, hne⟩, hocc⟩ := hc
    rcases h with h | h | h
    · exact h hrun
    · exact hne h
    · exact absurd hocc (Nat.not_lt.2 h)

/-! ## Completion -/

theorem length_leBytes (n x : Nat) : (leBytes n x).length = n := by simp [leBytes]

theorem length_doneBytes (d : HirDone) : (doneBytes s r d).length = 64 := by
  unfold doneBytes
  simp only [List.length_append, length_leBytes, List.length_cons, List.length_nil, List.length_replicate, List.length_take]
  omega

theorem getD_memRead {ix n i : Nat} (h : i < n) : (memRead s ix n).getD i 0 = memByte s (ix + i) := by
  unfold memRead
  simp [h]

/-- Bytes written by another agent read back. -/
theorem memByte_memWrite {by_ ix a : Nat} {b : List Byte} (ha : ix ≤ a ∧ a < ix + b.length) : memByte (memWrite s by_ ix b) a = b.getD (a - ix) 0 := by
  rw [memWrite_eq]
  have he : (dirtyOf (forEach (linesOf ix b.length) s (flushFor by_)) (a / 64)).data = [] := by
    refine forEach_establishes (I := fun _ => True) (Q := fun t => (dirtyOf t (a / 64)).data = []) (mem_linesOf ha) (fun _ _ _ => trivial)
      (fun t _ => ?_) (fun t j _ hq => ?_) trivial
    · rw [dirtyOf_flushFor, if_pos rfl]
    · rw [dirtyOf_flushFor]
      split
      · rfl
      · exact hq
  unfold memByte
  rw [dirtyOf_memPoke, mem_memPoke, if_pos he, if_pos ha]

theorem memRead_memWrite {by_ ix : Nat} {b : List Byte} : memRead (memWrite s by_ ix b) ix b.length = b := by
  refine List.ext_getElem (by simp [memRead]) fun i h1 h2 => ?_
  have h := getD_memRead (s := memWrite s by_ ix b) (ix := ix) h2
  rw [memByte_memWrite ⟨Nat.le_add_right _ _, by omega⟩, Nat.add_sub_cancel_left] at h
  rwa [List.getD_eq_getElem _ _ h1, List.getD_eq_getElem _ _ h2] at h

theorem memRead_of_fwc (h : t.fwc = s.fwc) (ix n : Nat) : memRead t ix n = memRead s ix n := by
  unfold memRead
  exact List.map_congr_left fun i _ => memByte_of_fwc h _

/-- An unknown command may be answered first; its answer comes last. -/
theorem ringOf_hirInvalid {d : HirDone} {rest : List HirDone} (h : (ringOf s r).done = d :: rest) :
    ∃ cmds rest', ringOf (hirInvalid s r) r = { ringOf s r with cmds := cmds, done := d :: rest' } := by
  have hsame : ∃ cmds rest', ringOf s r = { ringOf s r with cmds := cmds, done := d :: rest' } := ⟨(ringOf s r).cmds, rest, by rw [← h]⟩
  unfold hirInvalid
  split
  · split
    · rw [ringOf_hirFinish, h]
      exact ⟨_, _, rfl⟩
    · exact hsame
  · exact hsame

/-- Where a ring writes its next entry, and with which phase. -/
def cqPlace (s : State) (r : Nat) : Nat × Bool := ((ringOf s r).cqTail, (ringOf s r).phase)

theorem cqTail_of_cqPlace (h : cqPlace t r = cqPlace s r) : (ringOf t r).cqTail = (ringOf s r).cqTail := by
  unfold cqPlace at h
  exact (Prod.mk.inj h).1

theorem phase_of_cqPlace (h : cqPlace t r = cqPlace s r) : (ringOf t r).phase = (ringOf s r).phase := by
  unfold cqPlace at h
  exact (Prod.mk.inj h).2

theorem cqPlace_setRing {f : RingSt → RingSt} (hf : ∀ x, (f x).cqTail = x.cqTail ∧ (f x).phase = x.phase) : Shows (cqPlace · r) s (setRing s r f) := by
  show cqPlace (setRing s r f) r = _
  unfold cqPlace
  rw [ringOf_setRing, if_pos rfl, (hf _).1, (hf _).2]

theorem ringOf_signal {f v : Nat} : ringOf (signal s f v) r = ringOf s r := by
  unfold signal
  split_ifs <;> rfl

theorem cqPlace_ringSignal : Shows (cqPlace · r) s (ringSignal s r) := by
  unfold ringSignal
  extract_lets f v w
  have hw : Shows (cqPlace · r) s w := cqPlace_setRing fun _ => ⟨rfl, rfl⟩
  refine hw.trans (.both ?_ .refl)
  show cqPlace (signal w f v) r = cqPlace w r
  unfold cqPlace
  rw [ringOf_signal]

theorem cqPlace_ringAgg : Shows (cqPlace · r) s (ringAgg s r) := by
  unfold ringAgg
  extract_lets n v
  have hv : Shows (cqPlace · r) s v := cqPlace_setRing fun _ => ⟨rfl, rfl⟩
  exact .both (hv.trans (.both cqPlace_ringSignal .refl)) .refl

theorem cqPlace_cqAdvance : cqPlace (cqAdvance s r) r = (((ringOf s r).cqTail + 1) % cqSize s r,
    if (ringOf s r).cqTail + 1 = cqSize s r then !(ringOf s r).phase else (ringOf s r).phase) := by
  unfold cqAdvance
  extract_lets n v
  have hv : ringOf v r = _ := (ringOf_setRing r r _).trans (if_pos rfl)
  have hb : ringOf (bump v (Reg.HIR_RING_CNT r) F.HIR_RING_CNT_ENTRIES) r = ringOf v r := ringOf_of_hir (bump_evolves.hir_eq rfl) r
  unfold cqPlace
  rw [hb, hv]

theorem entries_cqAdvance : fld (cqAdvance s r) (Reg.HIR_RING_CNT r) F.HIR_RING_CNT_ENTRIES = min (fld s (Reg.HIR_RING_CNT r) F.HIR_RING_CNT_ENTRIES + 1) 65535 := by
  unfold cqAdvance
  extract_lets n v
  have hv : v.regs = s.regs := rfl
  clear_value v
  rw [fld_bump_same _ _ _ (by decide), fld_congr (rd_of_regs hv _), show 2 ^ F.HIR_RING_CNT_ENTRIES.len - 1 = 65535 from by decide]

/-- A completion is written at the CQ tail, and the tail moves on. -/
theorem hirPost_results {d : HirDone} {rest : List HirDone} (hdone : (ringOf s r).done = d :: rest) :
    memRead (hirPost s r) (sramSize + cqBase s r + 64 * (ringOf s r).cqTail) 64 = doneBytes s r d
      ∧ cqPlace (hirPost s r) r = (((ringOf s r).cqTail + 1) % cqSize s r, if (ringOf s r).cqTail + 1 = cqSize s r then !(ringOf s r).phase else (ringOf s r).phase)
      ∧ fld (hirPost s r) (Reg.HIR_RING_CNT r) F.HIR_RING_CNT_ENTRIES = min (fld s (Reg.HIR_RING_CNT r) F.HIR_RING_CNT_ENTRIES + 1) 65535 := by
  unfold hirPost
  rw [hdone]
  dsimp only
  generalize hix : sramSize + cqBase s r + 64 * (ringOf s r).cqTail = ix
  generalize hb : doneBytes s r d = b
  have hlen : b.length = 64 := by rw [← hb]; exact length_doneBytes d
  have hread : memRead (memWrite s 8 ix b) ix 64 = b := by
    rw [← hlen]
    exact memRead_memWrite
  have hw : Evolves { fwc := true } s (memWrite s 8 ix b) := memWrite_evolves
  generalize memWrite s 8 ix b = v at hread hw ⊢
  have hvr : ringOf v r = ringOf s r := ringOf_of_hir (hw.hir_eq rfl) r
  generalize hx : setRing v r (fun x => { x with done := rest }) = x
  have hxr : cqPlace x r = cqPlace v r := by rw [← hx]; exact (cqPlace_setRing (f := fun x => { x with done := rest }) fun _ => ⟨rfl, rfl⟩).eq
  have hxregs : x.regs = s.regs := by rw [← hx]; exact (setRing_evolves.regs_eq rfl).trans (hw.regs_eq rfl)
  have hxf : x.fwc = v.fwc := by rw [← hx]; exact setRing_evolves.fwc_eq rfl
  have hsize : cqSize x r = cqSize s r := by unfold cqSize fld; rw [rd_of_regs hxregs]
  have hplace := cqPlace_cqAdvance (s := x) (r := r)
  have hxt : (ringOf x r).cqTail = (ringOf s r).cqTail := (cqTail_of_cqPlace hxr).trans (by rw [hvr])
  have hxp : (ringOf x r).phase = (ringOf s r).phase := (phase_of_cqPlace hxr).trans (by rw [hvr])
  rw [hsize, hxt, hxp] at hplace
  have hent := entries_cqAdvance (s := x) (r := r)
  rw [fld_congr (rd_of_regs hxregs _)] at hent
  have hyf : (cqAdvance x r).fwc = v.fwc := (cqAdvance_evolves.fwc_eq rfl).trans hxf
  generalize cqAdvance x r = y at hplace hent hyf ⊢
  generalize hz : (if d.quiet = true then y else ringAgg y r) = z
  have hyz : Evolves { hir := true } y z := by
    rw [← hz]
    exact .ite .refl ringAgg_evolves
  have hzp : cqPlace z r = cqPlace y r := by
    rw [← hz]
    exact (Shows.both .refl cqPlace_ringAgg).eq
  have hend : Evolves { hir := true } z (if (ringOf z r).state = .stopping ∧ ringIdle z r = true then setRing z r (fun x => { x with state := .disabled }) else z) :=
    .ite setRing_evolves .refl
  have hendp : cqPlace (if (ringOf z r).state = .stopping ∧ ringIdle z r = true then setRing z r (fun x => { x with state := .disabled }) else z) r = cqPlace z r :=
    (Shows.both (cqPlace_setRing (f := fun x => { x with state := .disabled }) fun _ => ⟨rfl, rfl⟩) .refl).eq
  have hall := hyz.trans hend
  refine ⟨?_, hendp.trans (hzp.trans hplace), (fld_congr (rd_of_regs (hall.regs_eq rfl) _) _).trans hent⟩
  rw [memRead_of_fwc ((hall.fwc_eq rfl).trans hyf), hread]

theorem completionPost_results {d : HirDone} {rest : List HirDone} (hup : fwUp s = true) (hst : (ringOf s ring.val).state ≠ .disabled)
    (htel : ringTel s ring.val = false) (hdone : (ringOf s ring.val).done = d :: rest) :
    Runs (.completionPost ring) s (fun t => memRead t (sramSize + cqBase s ring.val + 64 * (ringOf s ring.val).cqTail) 64 = doneBytes s ring.val d
      ∧ (ringOf t ring.val).cqTail = ((ringOf s ring.val).cqTail + 1) % cqSize s ring.val
      ∧ (ringOf t ring.val).phase = (if (ringOf s ring.val).cqTail + 1 = cqSize s ring.val then !(ringOf s ring.val).phase else (ringOf s ring.val).phase)
      ∧ fld t (Reg.HIR_RING_CNT ring.val) F.HIR_RING_CNT_ENTRIES = min (fld s (Reg.HIR_RING_CNT ring.val) F.HIR_RING_CNT_ENTRIES + 1) 65535) := by
  refine ⟨_, congrArg Outcome.next (if_pos (by rw [hup, htel]; simpa using hst)), ?_⟩
  obtain ⟨cmds, rest', hinv⟩ := ringOf_hirInvalid hdone
  have hu : Evolves { hir := true } s (hirInvalid s ring.val) := hirInvalid_evolves
  generalize hirInvalid s ring.val = u at hinv hu ⊢
  have hregs := hu.regs_eq rfl
  have hdone' : (ringOf u ring.val).done = d :: rest' := by rw [hinv]
  obtain ⟨hread, hplace, hent⟩ := hirPost_results hdone'
  have hbytes : doneBytes u ring.val d = doneBytes s ring.val d := by
    unfold doneBytes now
    rw [hinv, hu.tb_eq rfl]
  have hbase : cqBase u ring.val = cqBase s ring.val := by unfold cqBase; rw [rd64_of_regs hregs]
  have hsize : cqSize u ring.val = cqSize s ring.val := by unfold cqSize fld; rw [rd_of_regs hregs]
  rw [hbytes, hbase, hinv] at hread
  rw [hsize, hinv] at hplace
  rw [fld_congr (rd_of_regs hregs _)] at hent
  exact ⟨hread, congrArg Prod.fst hplace, congrArg Prod.snd hplace, hent⟩

/-! ## Telemetry and aggregation -/

/-- A sample that cannot go out is counted (R797). -/
theorem telMissed_results : (ringOf (telMissed s r) r).missed = min ((ringOf s r).missed + 1) 65535 ∧ (ringOf (telMissed s r) r).state = (ringOf s r).state
    ∧ (telMissed s r).hir.hostOut = s.hir.hostOut ∧ flag (telMissed s r) Reg.HIR_EVENT F.HIR_EVENT_MISSED = true := by
  unfold telMissed
  extract_lets v
  have hv : ringOf v r = { ringOf s r with missed := min ((ringOf s r).missed + 1) 65535 } := (ringOf_setRing _ _ _).trans (if_pos rfl)
  have ho : v.hir.hostOut = s.hir.hostOut := rfl
  clear_value v
  have hh : (sinkTake (raise (bump v (Reg.HIR_RING_CNT r) F.HIR_RING_CNT_MISSED) Reg.HIR_EVENT F.HIR_EVENT_MISSED) 6).hir = v.hir :=
    (sinkTake_evolves.hir_eq rfl).trans ((raise_evolves.hir_eq rfl).trans (bump_evolves.hir_eq rfl))
  rw [ringOf_of_hir hh, hv, hh]
  exact ⟨rfl, rfl, ho, (sinkTake_rdBut.flag_eq _).trans (flag_raise _ _ _ (by decide))⟩

theorem length_telBody (kind i : Nat) : (telBody s kind i).length = 48 := by
  unfold telBody
  split_ifs <;> simp only [List.length_append, length_leBytes, List.length_cons, List.length_nil, List.length_replicate]

theorem hostOut_signal {f v : Nat} : Shows (fun t => t.hir.hostOut) s (signal s f v) := by
  show (signal s f v).hir.hostOut = _
  unfold signal
  split_ifs <;> rfl

theorem hostOut_ringAgg : Shows (fun t => t.hir.hostOut) s (ringAgg s r) := by
  have hsig (t : State) : Shows (fun t => t.hir.hostOut) t (ringSignal t r) := by
    unfold ringSignal
    extract_lets f v w
    have hw : Shows (fun t => t.hir.hostOut) t w := rfl
    exact hw.trans (.both hostOut_signal .refl)
  unfold ringAgg
  extract_lets n v
  have hv : Shows (fun t => t.hir.hostOut) s v := rfl
  exact .both (hv.trans (.both (hsig v) .refl)) .refl

theorem missed_ringAgg : Shows (fun t => (ringOf t r).missed) s (ringAgg s r) := by
  have hset (t : State) {f : RingSt → RingSt} (hf : ∀ x, (f x).missed = x.missed) : Shows (fun t => (ringOf t r).missed) t (setRing t r f) := by
    show (ringOf (setRing t r f) r).missed = _
    rw [ringOf_setRing, if_pos rfl, hf]
  have hsig (t : State) : Shows (fun t => (ringOf t r).missed) t (ringSignal t r) := by
    unfold ringSignal
    extract_lets f v w
    have hw : Shows (fun t => (ringOf t r).missed) t w := hset t (f := fun x => { x with agg := 0 }) fun _ => rfl
    exact hw.trans (.both (congrArg RingSt.missed ringOf_signal) .refl)
  unfold ringAgg
  extract_lets n v
  have hv : Shows (fun t => (ringOf t r).missed) s v :=
    hset s (f := fun x => { x with agg := x.agg + 1, aggAt := if x.agg = 0 then now s else x.aggAt }) fun _ => rfl
  exact .both (hv.trans (.both (hsig v) .refl)) .refl

/-- A sample that goes out takes the entry at the CQ tail (R797). -/
theorem telWrite_sent {kind i : Nat} (hp : s.top.pcieUp = true) (hc : cqUsed s r + 1 < cqSize s r) : (ringOf (telWrite s r kind i true) r).missed = 0
    ∧ ∃ b : List Byte, b.length = 64 ∧ (telWrite s r kind i true).hir.hostOut = s.hir.hostOut ++ [(cqBase s r + 64 * (ringOf s r).cqTail, b)] := by
  unfold telWrite
  extract_lets x b v
  have hb : b.length = 64 := by
    simp only [b, List.length_append, length_leBytes, List.length_cons, List.length_nil, length_telBody]
  have ho : v.hir.hostOut = s.hir.hostOut ++ [(cqBase s r + 64 * (ringOf s r).cqTail, b)] := rfl
  clear_value v b
  rw [if_neg (by rw [hp]; simp; omega)]
  generalize hw : setRing v r (fun x => { x with missed := 0 }) = w
  have hwo : w.hir.hostOut = v.hir.hostOut := by rw [← hw]; rfl
  have hwm : (ringOf w r).missed = 0 := by rw [← hw, ringOf_setRing, if_pos rfl]
  have hadv : (ringOf (cqAdvance w r) r).missed = (ringOf w r).missed := by
    unfold cqAdvance
    extract_lets n x
    rw [ringOf_of_hir (bump_evolves.hir_eq rfl)]
    show (ringOf (setRing w r _) r).missed = _
    rw [ringOf_setRing, if_pos rfl]
  exact ⟨missed_ringAgg.eq.trans (hadv.trans hwm), b, hb, hostOut_ringAgg.eq.trans (hwo.trans ho)⟩

theorem telWrite_missed {kind i : Nat} {ok : Bool} (h : ok = false ∨ s.top.pcieUp = false ∨ cqSize s r ≤ cqUsed s r + 1) : telWrite s r kind i ok = telMissed s r :=
  if_pos (by
    rcases h with h | h | h
    · exact .inl (by rw [h]; rfl)
    · exact .inr (.inl (by rw [h]; rfl))
    · exact .inr (.inr (by omega)))

theorem telemetrySample_results (ok : Bool) (i : Nat) (hst : (ringOf s ring.val).state = .running) (htel : ringTel s ring.val = true)
    (hk : aF s (Reg.HIR_TEL_CFG ring.val) F.HIR_TEL_CFG_KIND ≠ 0) (hper : aF s (Reg.HIR_TEL_CFG ring.val) F.HIR_TEL_CFG_PERIOD ≠ 0)
    (hobj : telObjects s ring.val (aF s (Reg.HIR_TEL_CFG ring.val) F.HIR_TEL_CFG_KIND) = [i]) :
    Runs (.telemetrySample ring ok none) s (fun t =>
      (ok = true → s.top.pcieUp = true → cqUsed s ring.val + 1 < cqSize s ring.val → (ringOf t ring.val).missed = 0
        ∧ ∃ b : List Byte, b.length = 64 ∧ t.hir.hostOut = s.hir.hostOut ++ [(cqBase s ring.val + 64 * (ringOf s ring.val).cqTail, b)])
      ∧ (ok = false ∨ s.top.pcieUp = false ∨ cqSize s ring.val ≤ cqUsed s ring.val + 1 → (ringOf t ring.val).missed = min ((ringOf s ring.val).missed + 1) 65535
        ∧ t.hir.hostOut = s.hir.hostOut ∧ flag t Reg.HIR_EVENT F.HIR_EVENT_MISSED = true)) := by
  show ∃ t, execTelemetrySample ring ok none s = .next t ∧ _
  unfold execTelemetrySample
  extract_lets q kind per v
  have hq : (ringOf s q).state = .running ∧ ringTel s q = true ∧ kind ≠ 0 ∧ per ≠ 0 :=
    ⟨hst, htel, hk, Nat.mul_ne_zero hper (by decide)⟩
  obtain ⟨b, hv⟩ : ∃ b, v = { s with tb := b } := reach_form _
  have hobj' : telObjects v q kind = [i] := by rw [hv]; exact hobj
  clear_value v kind per
  rw [if_pos (by simpa only [Bool.and_eq_true, bne_iff_ne, beq_iff_eq, ne_eq, and_assoc] using hq), hobj']
  have hgo : (match ok, (none : Option Word), [i] with
      | true, some a, _ :: l => forEach l (telMissed (dmaUe v q a.toNat) q) (fun s i => telWrite s q kind i ok)
      | _, _, l => forEach l v (fun s i => telWrite s q kind i ok)) = telWrite v q kind i ok := by
    cases ok <;> rfl
  refine ⟨telWrite v q kind i ok, congrArg Outcome.next hgo, ?_⟩
  have hmissed := telMissed_results (s := v) (r := q)
  subst hv
  refine ⟨fun ho hp hc => ?_, fun h => ?_⟩
  · rw [ho]
    exact telWrite_sent hp hc
  · rw [telWrite_missed (s := { s with tb := b }) h]
    obtain ⟨hm, -, ho, hf⟩ := hmissed
    exact ⟨hm, ho, hf⟩

theorem interruptAggregationTimer_results (hagg : 0 < (ringOf s ring.val).agg) (hown : ringOwner s ring.val = 0) :
    Runs (.interruptAggregationTimer ring) s (fun t => (ringOf t ring.val).agg = 0
      ∧ (bitOf (tabGet 0 s.hir.unmask 0) (fld s (Reg.HIR_RING_CFG ring.val) F.HIR_RING_CFG_VEC) = true →
          t.hir.sent = if s.top.pcieUp then s.hir.sent ++ [(0, fld s (Reg.HIR_RING_CFG ring.val) F.HIR_RING_CFG_VEC)] else s.hir.sent)
      ∧ (bitOf (tabGet 0 s.hir.unmask 0) (fld s (Reg.HIR_RING_CFG ring.val) F.HIR_RING_CFG_VEC) = false → t.hir.sent = s.hir.sent
          ∧ bitOf (tabGet 0 t.hir.pba 0) (fld s (Reg.HIR_RING_CFG ring.val) F.HIR_RING_CFG_VEC) = true)) := by
  refine ⟨_, congrArg Outcome.next (if_pos hagg), ?_⟩
  dsimp only
  obtain ⟨b, hv⟩ := reach_form (s := s) ((ringOf s ring.val).aggAt + fld s (Reg.HIR_RING_INT ring.val) F.HIR_RING_INT_AGG_T * 1000)
  rw [hv]
  unfold ringSignal
  extract_lets f v w
  have hf : f = 0 := hown
  have hr : (ringOf w ring.val).agg = 0 := by
    show (ringOf (setRing _ ring.val _) ring.val).agg = 0
    rw [ringOf_setRing, if_pos rfl]
  have hun : w.hir.unmask = s.hir.unmask := rfl
  have hsent : w.hir.sent = s.hir.sent := rfl
  have hup : w.top.pcieUp = s.top.pcieUp := rfl
  have hvec : v = fld s (Reg.HIR_RING_CFG ring.val) F.HIR_RING_CFG_VEC := rfl
  clear_value w v f
  subst hf
  rw [← hvec, if_pos (.inl rfl), ← hun, ← hsent, ← hup]
  refine ⟨(congrArg RingSt.agg ringOf_signal).trans hr, fun h => ?_, fun h => ?_⟩
  · unfold signal
    rw [if_pos h]
    cases w.top.pcieUp <;> rfl
  · unfold signal
    rw [if_neg (by rw [h]; decide)]
    refine ⟨rfl, ?_⟩
    show bitOf (tabGet 0 (tabSet 0 w.hir.pba 0 _) 0) v = true
    rw [tabGet_tabSet_same]
    unfold bitOf
    rw [Nat.testBit_or, Nat.testBit_two_pow_self, Bool.or_true]

theorem dmaWriteAbandonRing_results (n : Nat) (hst : (ringOf s ring.val).state = .running) (htel : ringTel s ring.val = true) :
    Runs (.dmaWriteAbandon (some ring) n) s (fun t => (ringOf t ring.val).missed = min ((ringOf s ring.val).missed + 1) 65535 ∧ (ringOf t ring.val).state = .running) := by
  obtain ⟨hm, hs, -, -⟩ := telMissed_results (s := s) (r := ring.val)
  exact ⟨_, congrArg Outcome.next (if_pos (by rw [hst, htel]; rfl)), hm, hs.trans hst⟩

/-! ## Virtual functions -/

theorem ringOwner_of_rd (h : rd t (Reg.HIR_RING_CFG r) = rd s (Reg.HIR_RING_CFG r)) : ringOwner t r = ringOwner s r := by
  unfold ringOwner fld
  rw [h]

theorem ringOwner_fnStop {f err : Nat} : ringOwner (fnStop s f err) ring.val = ringOwner s ring.val :=
  ringOwner_of_rd (fnStop_rdBut.rd_eq (misses_fin (g := Reg.HIR_RING_CFG) (by decide +kernel) ring))

/-- A ring that stops ends with its error, unless it was off. -/
theorem ringOf_ringStop {q err : Nat} : ringOf (ringStop s q err) r =
    if q = r ∧ (ringOf s r).state ≠ .disabled then { ringOf s r with state := .disabled, err := err, cmds := [], done := [] } else ringOf s r := by
  unfold ringStop
  by_cases hq : q = r
  · subst hq
    by_cases hd : (ringOf s q).state = .disabled
    · rw [if_pos hd, if_neg fun h => h.2 hd]
    · rw [if_neg hd, if_pos ⟨rfl, hd⟩, ringOf_setRing, if_pos rfl]
  · rw [if_neg (show ¬ (q = r ∧ (ringOf s r).state ≠ .disabled) from fun h => hq h.1)]
    split
    · rfl
    · rw [ringOf_setRing, if_neg hq]

/-- A function that ceases to exist stops its rings and no other (R800). -/
theorem rings_fnStop {f err : Nat} : (ringOwner s ring.val ≠ f → ringOf (fnStop s f err) ring.val = ringOf s ring.val)
    ∧ (ringOwner s ring.val = f → (ringOf s ring.val).state ≠ .disabled → (ringOf (fnStop s f err) ring.val).state = .disabled
        ∧ (ringOf (fnStop s f err) ring.val).err = err)
    ∧ ((ringOf s ring.val).state = .disabled → ringOf (fnStop s f err) ring.val = ringOf s ring.val) := by
  have hparts : ringOf (fnStop s f err) ring.val
      = ringOf (forEach ((List.range 64).filter (fun r => ringOwner s r == f)) s (fun s r => ringStop s r err)) ring.val :=
    ringOf_of_hir ((Evolves.forEach (W := { regs := true }) fun _ _ => wr_evolves).hir_eq rfl) _
  rw [hparts]
  refine ⟨fun h => ?_, fun h hd => ?_, fun hd => ?_⟩
  · refine (Shows.forEach_mem (g := (ringOf · ring.val)) fun t q hq => ?_).eq
    have hq : ringOwner s q = f := by simpa using (List.mem_filter.1 hq).2
    have hne : ¬ (q = ring.val ∧ (ringOf t ring.val).state ≠ .disabled) := fun hc => h (hc.1 ▸ hq)
    exact ringOf_ringStop.trans (if_neg hne)
  · refine forEach_establishes (k := ring.val)
      (I := fun t => (ringOf t ring.val).state ≠ .disabled ∨ (ringOf t ring.val).state = .disabled ∧ (ringOf t ring.val).err = err)
      (Q := fun t => (ringOf t ring.val).state = .disabled ∧ (ringOf t ring.val).err = err)
      (List.mem_filter.2 ⟨List.mem_range.2 ring.isLt, by simpa using h⟩) (fun t q hI => ?_) (fun t hI => ?_) (fun t q _ hQ => ?_) (.inl hd)
    · rw [ringOf_ringStop]
      split
      · exact .inr ⟨rfl, rfl⟩
      · exact hI
    · rw [ringOf_ringStop]
      rcases hI with hI | hI
      · rw [if_pos ⟨rfl, hI⟩]
        exact ⟨rfl, rfl⟩
      · rw [if_neg fun hc => hc.2 hI.1]
        exact hI
    · rw [ringOf_ringStop, if_neg fun hc => hc.2 hQ.1]
      exact hQ
  · refine forEach_keeps (Q := fun t => ringOf t ring.val = ringOf s ring.val) (fun t q hQ => ?_) rfl
    rw [ringOf_ringStop, if_neg fun hc => hc.2 (by rw [hQ]; exact hd), hQ]

/-- Its partitions return to function 0. -/
theorem partFunc_fnStop {f err p : Nat} (hp : p < 32) : fld (fnStop s f err) (Reg.HIR_PART_FUNC p) F.HIR_PART_FUNC_FUNC =
    if fld s (Reg.HIR_PART_FUNC p) F.HIR_PART_FUNC_FUNC = f then 0 else fld s (Reg.HIR_PART_FUNC p) F.HIR_PART_FUNC_FUNC := by
  unfold fnStop
  extract_lets v
  have hv : v.regs = s.regs := (Evolves.forEach (W := { hir := true }) fun _ _ => ringStop_evolves).regs_eq rfl
  have hfv (q : Nat) : fld v (Reg.HIR_PART_FUNC q) F.HIR_PART_FUNC_FUNC = fld s (Reg.HIR_PART_FUNC q) F.HIR_PART_FUNC_FUNC := fld_congr (rd_of_regs hv _) _
  clear_value v
  have hne {q : Nat} (h : q ≠ p) : Reg.HIR_PART_FUNC q ≠ Reg.HIR_PART_FUNC p := by dsimp only [Reg.HIR_PART_FUNC]; omega
  rw [← hfv]
  by_cases hf : fld v (Reg.HIR_PART_FUNC p) F.HIR_PART_FUNC_FUNC = f
  · rw [if_pos hf]
    have hzero : rd (forEach ((List.range 32).filter (fun p => fld v (Reg.HIR_PART_FUNC p) F.HIR_PART_FUNC_FUNC == f)) v
        (fun s p => wr s (Reg.HIR_PART_FUNC p) 0)) (Reg.HIR_PART_FUNC p) = 0 := by
      refine forEach_establishes (k := p) (I := fun _ => True) (Q := fun t => rd t (Reg.HIR_PART_FUNC p) = 0)
        (List.mem_filter.2 ⟨List.mem_range.2 hp, by simpa using hf⟩) (fun _ _ _ => trivial) (fun t _ => rd_wr_same _ _ _) (fun t q _ hQ => ?_) trivial
      by_cases hq : q = p
      · rw [hq]
        exact rd_wr_same _ _ _
      · rw [rd_wr_ne _ _ (hne hq)]
        exact hQ
    exact (congrArg (fun w => fldOf w F.HIR_PART_FUNC_FUNC) hzero).trans (by decide)
  · rw [if_neg hf]
    refine fld_congr (Shows.forEach_mem (g := (rd · (Reg.HIR_PART_FUNC p))) fun t q hq => rd_wr_ne _ _ (hne fun he => hf ?_)).eq _
    rw [← he]
    simpa using (List.mem_filter.1 hq).2

theorem vfDisable_results (vfs : Fin 64) (hup : s.top.pcieUp = true) :
    Runs (.vfDisable vfs) s (fun t => t.hir.vfs = vfs.val
      ∧ (∀ r, r < 64 → vfs.val < ringOwner s r → ringOwner s r ≤ s.hir.vfs → (ringOf s r).state ≠ .disabled → (ringOf t r).state = .disabled ∧ (ringOf t r).err = 5)
      ∧ ∀ p, p < 32 → fld t (Reg.HIR_PART_FUNC p) F.HIR_PART_FUNC_FUNC = (let f := fld s (Reg.HIR_PART_FUNC p) F.HIR_PART_FUNC_FUNC
          if vfs.val < f ∧ f ≤ s.hir.vfs then 0 else f)) := by
  show ∃ t, execVfDisable vfs s = .next t ∧ _
  unfold execVfDisable
  extract_lets gone
  have hmem (f : Nat) (hf : f < 64) : f ∈ gone ↔ vfs.val < f ∧ f ≤ s.hir.vfs := by
    simp only [gone, List.mem_filter, List.mem_range, Bool.and_eq_true, decide_eq_true_eq]
    exact ⟨fun h => h.2, fun h => ⟨hf, h⟩⟩
  clear_value gone
  rw [if_pos hup]
  refine ⟨_, rfl, ?_⟩
  generalize hu : setHir s (fun h => { h with vfs := vfs.val }) = u
  have huv : u.hir.vfs = vfs.val := by rw [← hu]; rfl
  have hur (r : Nat) : ringOf u r = ringOf s r := by rw [← hu]; rfl
  have hregs : u.regs = s.regs := by rw [← hu]; rfl
  refine ⟨?_, fun r hr h1 h2 hd => ?_, fun p hp => ?_⟩
  · rw [ownerSync_evolves.hir_eq rfl]
    refine (Shows.forEach (g := fun t => t.hir.vfs) fun t f => ?_).eq.trans huv
    unfold fnStop
    extract_lets v
    have hv : Shows (fun t => t.hir.vfs) t v := .forEach fun w q => by
      show (ringStop w q 5).hir.vfs = _
      unfold ringStop
      split <;> rfl
    exact hv.trans (.forEach fun _ _ => congrArg HirSt.vfs (wr_evolves.hir_eq rfl))
  · rw [ringOf_ownerSync]
    have howner (t : State) (f : Nat) : ringOwner (fnStop t f 5) r = ringOwner t r := ringOwner_fnStop (ring := ⟨r, hr⟩)
    have hlt : ringOwner s r < 64 := Nat.mod_lt _ (by decide)
    have huo : ringOwner u r = ringOwner s r := ringOwner_of_rd (rd_of_regs hregs _)
    refine forEach_establishes (k := ringOwner s r)
      (I := fun t => ringOwner t r = ringOwner s r ∧ ((ringOf t r).state ≠ .disabled ∨ (ringOf t r).state = .disabled ∧ (ringOf t r).err = 5))
      (Q := fun t => (ringOf t r).state = .disabled ∧ (ringOf t r).err = 5) ((hmem _ hlt).2 ⟨h1, h2⟩) (fun t f hI => ?_) (fun t hI => ?_) (fun t f _ hQ => ?_)
      ⟨huo, .inl (by rw [hur]; exact hd)⟩
    · obtain ⟨hne, heq, hoff⟩ := rings_fnStop (s := t) (ring := ⟨r, hr⟩) (f := f) (err := 5)
      dsimp only at hne heq hoff
      refine ⟨(howner t f).trans hI.1, ?_⟩
      rcases hI.2 with hs | hs
      · by_cases hf : ringOwner t r = f
        · exact .inr (heq hf hs)
        · rw [hne hf]
          exact .inl hs
      · rw [hoff hs.1]
        exact .inr hs
    · obtain ⟨-, heq, hoff⟩ := rings_fnStop (s := t) (ring := ⟨r, hr⟩) (f := ringOwner s r) (err := 5)
      dsimp only at heq hoff
      rcases hI.2 with hs | hs
      · exact heq hI.1 hs
      · rw [hoff hs.1]
        exact hs
    · obtain ⟨-, -, hoff⟩ := rings_fnStop (s := t) (ring := ⟨r, hr⟩) (f := f) (err := 5)
      dsimp only at hoff
      rw [hoff hQ.1]
      exact hQ
  · have howner : fld (ownerSync (forEach gone u fun s f => fnStop s f 5)) (Reg.HIR_PART_FUNC p) F.HIR_PART_FUNC_FUNC
        = fld (forEach gone u fun s f => fnStop s f 5) (Reg.HIR_PART_FUNC p) F.HIR_PART_FUNC_FUNC :=
      ownerSync_rdBut.fld_eq _ (misses_fin (g := Reg.HIR_PART_FUNC) (n := 32) (by decide +kernel) ⟨p, hp⟩)
    have hu0 : fld u (Reg.HIR_PART_FUNC p) F.HIR_PART_FUNC_FUNC = fld s (Reg.HIR_PART_FUNC p) F.HIR_PART_FUNC_FUNC := fld_congr (rd_of_regs hregs _) _
    have hlt : fld s (Reg.HIR_PART_FUNC p) F.HIR_PART_FUNC_FUNC < 64 := Nat.mod_lt _ (by decide)
    rw [howner]
    dsimp only
    by_cases hf : fld s (Reg.HIR_PART_FUNC p) F.HIR_PART_FUNC_FUNC ∈ gone
    · rw [if_pos ((hmem _ hlt).1 hf)]
      refine forEach_establishes (k := fld s (Reg.HIR_PART_FUNC p) F.HIR_PART_FUNC_FUNC)
        (I := fun t => fld t (Reg.HIR_PART_FUNC p) F.HIR_PART_FUNC_FUNC = fld s (Reg.HIR_PART_FUNC p) F.HIR_PART_FUNC_FUNC
          ∨ fld t (Reg.HIR_PART_FUNC p) F.HIR_PART_FUNC_FUNC = 0)
        (Q := fun t => fld t (Reg.HIR_PART_FUNC p) F.HIR_PART_FUNC_FUNC = 0) hf (fun t f hI => ?_) (fun t hI => ?_) (fun t f _ hQ => ?_) (.inl hu0)
      · rw [partFunc_fnStop hp]
        split
        · exact .inr rfl
        · exact hI
      · rw [partFunc_fnStop hp]
        split
        · rfl
        · next hne => exact hI.resolve_left hne
      · rw [partFunc_fnStop hp, hQ, ite_self]
    · rw [if_neg fun h => hf ((hmem _ hlt).2 h), ← hu0]
      refine List.foldlRecOn (motive := fun t : State => fld t (Reg.HIR_PART_FUNC p) F.HIR_PART_FUNC_FUNC = fld u (Reg.HIR_PART_FUNC p) F.HIR_PART_FUNC_FUNC)
        gone _ rfl fun t hQ f hg => ?_
      rw [partFunc_fnStop hp, hQ, if_neg fun he => hf (by rw [← hu0, he]; exact hg)]

/-! ## Window 2 and lost requests -/

theorem length_mergeBytes (data : List (Option Byte)) (ix : Nat) : (mergeBytes (memRead s ix data.length) data).length = data.length := by
  unfold mergeBytes memRead
  simp

theorem getD_mergeBytes {data : List (Option Byte)} {ix i : Nat} (h : i < data.length) : (mergeBytes (memRead s ix data.length) data).getD i 0 =
    (match data.getD i none with | some b => b | none => (memRead s ix data.length).getD i 0) := by
  have hl : i < (memRead s ix data.length).length := by simpa [memRead] using h
  unfold mergeBytes
  rw [List.getD_eq_getElem _ _ (by rw [List.length_zipWith]; omega), List.getElem_zipWith, List.getD_eq_getElem _ _ h, List.getD_eq_getElem _ _ hl]
  cases data[i] <;> rfl

/-- A refused access of a function is answered and counted. -/
theorem suppress_host (fn : Fin 64) (off : Nat) : (suppress s (.host fn) off false).resp = .unsupported ∧ (suppress s (.host fn) off false).fwc = s.fwc
    ∧ (suppress s (.host fn) off false).top.aerUncorr = s.top.aerUncorr + 1 := by
  generalize hw : bump (raise s Reg.TOP_PLANE_VIOL F.TOP_PLANE_VIOL_HOST) Reg.TOP_PLANE_VIOL_CNT ⟨0, 16⟩ = w
  have hsw : Evolves { regs := true } s w := hw ▸ .trans (t := raise s Reg.TOP_PLANE_VIOL F.TOP_PLANE_VIOL_HOST) raise_evolves bump_evolves
  have hx : Evolves { regs := true, drain := true, recd := true } w (record w .mgmt 0x03 0x03 fn.val 2 off off) := record_evolves
  unfold suppress
  rw [if_neg Bool.false_ne_true]
  dsimp only
  rw [hw]
  generalize record w .mgmt 0x03 0x03 fn.val 2 off off = x at hx ⊢
  refine ⟨rfl, (hx.fwc_eq rfl).trans (hsw.fwc_eq rfl), ?_⟩
  rw [hx.top_eq rfl, hsw.top_eq rfl]

theorem window2Write_results (fn : Fin 64) (off : BitVec 20) (data : List (Option Byte)) (hr : reachable s (.host fn) = true)
    (hs : hostStuck s (.host fn) = false) :
    Runs (.hostWindow2Write fn off (.write data)) s (fun t =>
      (window2Ok s fn.val off.toNat data.length = true → ∀ i, i < data.length →
        (memRead t (sramSize + off.toNat) data.length).getD i 0 = (match data.getD i none with | some b => b | none => (memRead s (sramSize + off.toNat) data.length).getD i 0))
      ∧ (window2Ok s fn.val off.toNat data.length = false → t.resp = .unsupported ∧ t.fwc = s.fwc ∧ t.top.aerUncorr = s.top.aerUncorr + 1)) := by
  show ∃ t, execHostWindow2Write fn off (.write data) s = .next t ∧ _
  unfold execHostWindow2Write
  dsimp only
  generalize sramSize + off.toNat = ix
  rw [hr, hs]
  by_cases hw : window2Ok s fn.val off.toNat data.length = true
  · rw [if_neg (by decide), if_neg (by decide), if_pos hw]
    refine ⟨_, rfl, fun _ i hi => ?_, fun h => absurd (hw.symm.trans h) (by decide)⟩
    have hlen := length_mergeBytes (s := s) data ix
    have hm := memRead_memWrite (s := { s with resp := .none }) (by_ := 8) (ix := ix) (b := mergeBytes (memRead s ix data.length) data)
    rw [hlen] at hm
    exact (congrArg (fun b => b.getD i 0) hm).trans (getD_mergeBytes hi)
  · rw [if_neg (by decide), if_neg (by decide), if_neg hw]
    refine ⟨_, rfl, fun h => absurd h hw, fun _ => ?_⟩
    exact suppress_host fn _

theorem window2Read_results (fn : Fin 64) (off : BitVec 20) (n : Nat) (hr : reachable s (.host fn) = true) (hs : hostStuck s (.host fn) = false) :
    Runs (.hostWindow2Write fn off (.read n)) s (fun t => t.fwc = s.fwc
      ∧ t.resp = .data (if window2Ok s fn.val off.toNat n then memRead s (sramSize + off.toNat) n else List.replicate n 0)) := by
  refine ⟨{ s with resp := window2Read s fn.val off.toNat n }, ?_, rfl, rfl⟩
  show execHostWindow2Write fn off (.read n) s = _
  unfold execHostWindow2Write
  dsimp only
  rw [hr, hs, if_neg (by decide), if_neg (by decide)]

theorem window2Ue_results (fn : Fin 64) (off : BitVec 20) (n bad : Nat) (hr : reachable s (.host fn) = true) (hs : hostStuck s (.host fn) = false)
    (hw : window2Ok s fn.val off.toNat n = true) :
    Runs (.hostWindow2Write fn off (.readUe n bad)) s (fun t => t.resp = .poison ∧ t.top.aerUncorr = s.top.aerUncorr + 1
      ∧ flag t Reg.FWC_EVENT F.FWC_EVENT_SRAM_UE = true) := by
  show ∃ t, execHostWindow2Write fn off (.readUe n bad) s = .next t ∧ _
  unfold execHostWindow2Write
  dsimp only
  rw [hr, hs, if_neg (by decide), if_neg (by decide), if_pos hw]
  generalize hv : memUe s 0 (sramSize + off.toNat + min bad (n - 1)) = v
  have htop : v.top = s.top := by rw [← hv]; exact memUe_evolves.top_eq rfl
  have hf : flag v Reg.FWC_EVENT F.FWC_EVENT_SRAM_UE = true := by
    rw [← hv]
    unfold memUe
    extract_lets w
    exact (boundaryFail_rdBut.flag_eq _).trans ((record_rdBut.flag_eq _).trans (flag_raise _ _ _ (by decide)))
  exact ⟨_, rfl, rfl, congrArg (fun y => y.aerUncorr + 1) htop, hf⟩

theorem hostRequestTimeout_results (fn : Fin 64) (write : Bool) (hr : reachable s (.host fn) = true) :
    Runs (.hostRequestTimeout fn write) s (fun t => flag t Reg.TOP_INTEG_EVENT F.TOP_INTEG_EVENT_HOST_TIMEOUT = true ∧ t.resp = (if write then .none else .abort)) :=
  ⟨_, congrArg Outcome.next (if_pos hr), flag_raise _ _ _ (by decide), rfl⟩

end

/-- Settles O52: the rings from enable to completion first, then telemetry, functions and Window 2. -/
theorem hostRingResults : Obligations.HostRingResults := by
  unfold Obligations.HostRingResults
  exact ⟨fun _ _ val _ ha hen => ringEnable_results val ha hen, fun _ _ _ ha hen => ringDisable_results ha hen,
    fun _ _ val _ h hon htel => sqDoorbell_results val h hon htel, fun _ _ val _ h hon => cqDoorbell_results val h hon,
    fun _ bad _ => commandFetch_results bad, fun _ _ _ _ hup hst htel hd => completionPost_results hup hst htel hd,
    fun _ ok i _ hst htel hk hper hobj => telemetrySample_results ok i hst htel hk hper hobj,
    fun _ _ hagg hown => interruptAggregationTimer_results hagg hown, fun vfs _ hup => vfDisable_results vfs hup,
    fun fn off data n bad _ hr hs => ⟨window2Write_results fn off data hr hs, window2Read_results fn off n hr hs,
      fun hw => window2Ue_results fn off n bad hr hs hw⟩,
    fun _ n _ hst htel => dmaWriteAbandonRing_results n hst htel, fun fn write _ hr => hostRequestTimeout_results fn write hr⟩

end Sys2Proof.Machine
end
